-- ==== Sys2Proof/Word.lean ====
section
/-! DEFINITION. Bytes, sparse maps and register fields: the plain data everything else is made of. -/

namespace Sys2Proof

/-- One byte of a frame, a message or a structure in host memory. -/
abbrev Byte := BitVec 8

/-- A sparse map with natural-number keys. Its canonical form has strictly rising keys. -/
abbrev SMap (α : Type) := List (Nat × α)

/-- A register field: byte address of its register in the 64 MiB window (R6, R575), its lowest bit,
its width in bits and its value after a device reset. -/
structure Fld where
  addr : Nat
  lo : Nat
  width : Nat
  rst : Nat
  deriving DecidableEq, Repr

/-- The access types of Table 0-4 (R10). -/
inductive Access where
  | rw | ro | w1c | wo | rc
  deriving DecidableEq, Repr

end Sys2Proof
end

