-- ==== Sys2Proof/Syntax.lean ====
section
/-! DEFINITION. The steps of the Q1024: one constructor per row of the table of operations and events.
A row has no encoding of its own; its operands are what the step is told from outside (a written value,
a received frame or message, a measured reading, the outcome of an action inside another part). -/

namespace Sys2Proof

/-- The five strap pins (Table 2-4). -/
structure Straps where
  senior : Bool
  pairEn : Bool
  pos1 : Bool
  pos0 : Bool
  testEn : Bool
  deriving DecidableEq, Repr

/-- The 35 monitored reference inputs (R48). -/
inductive RefInput where
  | lgref (group : Nat)
  | cref
  | trefa
  | trefb
  deriving DecidableEq, Repr

/-- Why a reference input is lost (R48): nanoseconds without an edge, or how far its frequency, averaged over 100 µs, lies
outside the permitted range, in parts in 10^9. (DESIGN CHOICE, log 80.) -/
inductive RefFault where
  | noEdge (ns : Nat)
  | offRange (ppb : Nat)
  deriving DecidableEq, Repr

/-- What the monitor of R48 reports of an input that is lost. -/
structure RefLoss where
  input : RefInput
  fault : RefFault
  deriving DecidableEq, Repr

/-- What the monitor of R48 reports of an input that is back: its measured rate, and for how many microseconds it has been within
its range. (DESIGN CHOICE, log 80.) -/
structure RefReport where
  rate : Int
  withinUs : Nat
  deriving DecidableEq, Repr

/-- What the PCS and FEC of a port report (R82): the link conditions, the deskew delay of the first
lane (1/256 ns, Table 5-1), and the FEC codewords, corrected symbols and invalid control characters
met since the previous report (counters 27 to 29 and 62 of Table 3-17), and whether the partner refuses what the port
advertises in auto-negotiation (R75). (DESIGN CHOICE, log 75; DESIGN CHOICE, log 77.) -/
structure LinkCond where
  blockLock : Bool
  aligned : Bool
  fecLock : Bool
  hiBer : Bool
  localFault : Bool
  remoteFault : Bool
  deskew : Nat
  fecCorrected : Nat
  fecUncorr : Nat
  fecSymbols : Nat
  invalidCtrl : Nat
  anRefused : Bool
  deriving DecidableEq, Repr

/-- The FCS result of a received frame: good, bad, or equal to the stomped value (R100). (DESIGN CHOICE, log 75.) -/
inductive Fcs where
  | good | bad | stomped
  deriving DecidableEq, Repr

/-- What an access to a flow-cache entry, or a fetch of a context, finds: good data, an uncorrectable context (R291), or an
uncorrectable key (R292). -/
inductive FetchResult where
  | ok | contextError | keyError
  deriving DecidableEq, Repr

/-- A command of Table 16-5 as taken from its ring: the fields of Table 16-3 that the opcode uses,
the absolute index of its descriptor, and the input read from IN_ADDR. -/
structure CmdIn where
  ring : Nat
  descIndex : Nat
  flags : Nat
  seq : Nat
  param : Nat
  outAddr : Nat
  input : List Byte
  deriving DecidableEq, Repr

/-- A message of the host as it arrives: the number of its flit, the slot of its header in that flit (0 to 14),
and its bytes, header first (R407, R408); and, of a CFG_RD, the index of the register whose data fails the parity of the register
fabric on its way, if one does (R422). (DESIGN CHOICE, log 75.) -/
structure HostIn where
  flit : Nat
  slot : Nat
  bytes : List Byte
  fabricError : Option Nat
  deriving DecidableEq, Repr

/-- The account a bead is charged to: a pipe's landing count, a pool, or the return set (Table 11-1). -/
inductive BeadAccount where
  | landing (pipe : Nat)
  | pool (n : Nat)
  | returnSet
  deriving DecidableEq, Repr

/-- A bead request presented to a pool's allocator: its requester (0 to 63 a pipe, 64 INJECT) and
its owner (0 to 1023 a port, 1024 INJECT) (R301, R310). -/
structure BeadRequest where
  requester : Nat
  owner : Nat
  deriving DecidableEq, Repr

/-- A free presented to an allocator: the bead, the account the agent expects, the agent (R315). -/
structure BeadFree where
  bead : Nat
  account : BeadAccount
  agent : Nat
  deriving DecidableEq, Repr

/-- What the DRAM ECC found in a burst (R382, R387). -/
inductive EccOutcome where
  | clean | corrected | uncorrectable
  deriving DecidableEq, Repr

/-- What a read of DRAM meets: how often its data parity failed and it was repeated (R384), whether the stack's on-die ECC made a
severity report (Table 14-1), and what the ECC finds in one of its bursts, counted from the first (R382, R387). -/
structure ReadOutcome where
  repeats : Nat
  severity : Bool
  ecc : EccOutcome
  burst : Nat
  deriving DecidableEq, Repr

/-- What the read of a spilled copy meets: DRAM's outcome, and whether its link cannot be read. -/
structure SpillRead where
  outcome : ReadOutcome
  badLink : Bool
  deriving DecidableEq, Repr

/-- What a parity alert of a stack was of, a command or write data, how many buffered commands are sent again, and whether a
retraining of the command interface succeeds (R385, R386). (DESIGN CHOICE, log 93.) -/
structure ParityAlert where
  ofCommand : Bool
  reissue : Nat
  retrainOk : Bool
  deriving DecidableEq, Repr

/-- The temperature readings of the two stacks (R391). -/
structure StackTemps where
  stack0 : Nat
  stack1 : Nat
  deriving DecidableEq, Repr

/-- What the reads of a context fetch meet: the tag words of the two candidate buckets, and the place (R279). -/
structure FetchRead where
  tag0 : ReadOutcome
  tag1 : ReadOutcome
  place : ReadOutcome
  deriving DecidableEq, Repr

/-- One DIGEST frame of the peer (Table 20-7): first port, error flags, 64 port digests. -/
structure DigestFrame where
  first : Nat
  intErr : Bool
  extErr : Bool
  digests : List Nat
  deriving DecidableEq, Repr

/-- What the table scrub reads (R567): a rule of a version (tag 4 is the staged set), an FDB place,
an LPM row, a flow-cache entry, each with whether it fails its check, or the end of a pass. -/
inductive ScrubTarget where
  | rule (tag number : Nat) (bad : Bool)
  | fdb (place : Nat) (bad : Bool)
  | lpm (row : Nat) (bad : Bool)
  | flow (index : Nat) (outcome : FetchResult)
  | passEnd
  deriving DecidableEq, Repr

/-- The operations and events of the Q1024, one constructor per row of the table. -/
inductive Instr where
  /-- RESET_N_ASSERT (R61): A filtered low on RESET_N puts every transmitter in electrical idle, drives HOLD_OUT low and loses all state except MRAM, fuses and straps. -/
  | resetNAssert
  /-- RESET_N_RELEASE (R44): A filtered rising edge of RESET_N ends the reset, captures the straps afresh and begins start-up. -/
  | resetNRelease (straps : Straps)
  /-- STRAP_COMPARE (R46): Every 1 µs each strap pin is compared with its captured value, and SYS_STRAP.CHANGED is set on a difference. -/
  | strapCompare (pins : Straps)
  /-- POWER_LOSS (R573): A loss of all rails keeps only the MRAM heads, the retired-slot count, the wrapped key and the fuses. -/
  | powerLoss
  /-- SUPPLY_RANGE_CHECK (R62): A rail that stays outside its range for more than 1 µs sets its SYS_SUPPLY_FLAGS bit and raises EVT_SYS_SUPPLY_RANGE. -/
  | supplyRangeCheck (outside : Nat)
  /-- BROWN_OUT_RESET (R62): VDD_CORE below 0.70 V for more than 1 µs causes a reset that holds until RESET_N is pulsed again. -/
  | brownOutReset
  /-- TEMP_READING (R63): Every 100 µs the 40 sensors are read, SYS_TEMP is updated and the thermal thresholds are applied. -/
  | tempReading (sensors : List Int)
  /-- CORE_SPEED_MEASUREMENT (R22): Every 1 µs the replica self-timed stage is measured and SYS_CORE_SPEED is updated. -/
  | coreSpeedMeasurement (mt : Nat)
  /-- REF_INPUT_LOST (R48): A reference input with no edge for 1 µs, or out of frequency range, is declared lost. -/
  | refInputLost (loss : RefLoss)
  /-- REF_INPUT_GOOD (R48): An input that has stayed within range for 1 ms is declared good again. -/
  | refInputGood (input : RefInput) (report : RefReport)
  /-- REGISTER_WRITE (R14): A write to a register with no row of its own is checked for reserved bits and ranges, then updates all its RW and WO fields together. -/
  | registerWrite (addr : Nat) (value : Nat)
  /-- RC_REGISTER_READ (R10): A read of a register with an RC field returns the value and returns the field to its reset value. -/
  | rcRegisterRead (addr : Nat)
  /-- OCTET_MODE_WRITE (R73): An accepted MAC_OCTET_MODE write changes the octet's port formation and, on a MODE change, resets the octet's per-port state. -/
  | octetModeWrite (octet : Nat) (value : Nat)
  /-- PORT_ENABLE (R78): Writing MAC_PORT_CTRL.ENABLE = 1 moves a DISABLED port to TRAINING, or refuses the write when the FEC is not permitted. -/
  | portEnable (port : Nat) (value : Nat)
  /-- PORT_DISABLE (R86): Writing ENABLE = 0 in UP moves the port to FLUSHING at once, and in TRAINING moves it to DISABLED. -/
  | portDisable (port : Nat) (value : Nat)
  /-- LINK_CONDITION_CHANGE (R82): A change in block lock, alignment, FEC lock, hi_ber or fault signalling makes the link good or bad. -/
  | linkConditionChange (port : Nat) (cond : LinkCond)
  /-- UP_DEBOUNCE_EXPIRY (R83): A link that stays good for UP_DEBOUNCE in TRAINING takes the port to UP and sets LINK_UP. -/
  | upDebounceExpiry (port : Nat)
  /-- DN_DEBOUNCE_EXPIRY (R82): A link that stays bad for DN_DEBOUNCE in UP takes the port to FLUSHING and sets LINK_DOWN. -/
  | dnDebounceExpiry (port : Nat)
  /-- FRAME_START (R141): A start-of-frame delimiter crosses the PCS–MAC boundary: the ingress stamp is taken and the first bead is opened. -/
  | frameStart (port : Nat) (sub : Nat) (bytes : List Byte)
  /-- FIRST_WORD_CROSSING (R234): The frame's first word leaves the ingress crossing and takes the CURRENT rule-version tag. -/
  | firstWordCrossing (frame : Nat)
  /-- CLASSIFY_PASS (R213): The frame is parsed under its profile and matched against the rules and range comparators of its version. -/
  | classifyPass (frame : Nat)
  /-- CARRY_PASS (R215): A carried frame is taken from its pipe's carry queue in a loop slot, then parsed and classified a second time. -/
  | carryPass
  /-- FORWARDING_LOOKUP (R243): After its last pass the frame looks up the FDB or the LPM store, and its session context when FLOW_EN = 1. -/
  | forwardingLookup (frame : Nat)
  /-- LEARN_RELEASE (R256): A learn request whose stamp plus LEARN_HOLD has passed is released and applied to the FDB. -/
  | learnRelease (bank : Nat)
  /-- CONTEXT_FETCH_DONE (R279): A context lookup that missed the cache completes when its buckets and context arrive from DRAM. -/
  | contextFetchDone (frame : Nat) (read : FetchRead)
  /-- ADMISSION (R303): The frame is policed, checked for Tally reservation and colour thresholds, and moved from the landing count to its pool. -/
  | admission (frame : Nat)
  /-- FRAME_END (R27): The frame's last byte crosses the ingress boundary and its FCS result becomes known. -/
  | frameEnd (frame : Nat) (fcs : Fcs) (codeErr : Bool)
  /-- FRAME_TRUNCATE (R97): Arrival of byte FRAME_MAX + 1 ends the frame at FRAME_MAX bytes and marks it truncated. -/
  | frameTruncate (frame : Nat)
  /-- PAUSE_FRAME_RECEIVED (R91): An acted-on pause frame stops new frames on the port for quanta × 512 bit times. -/
  | pauseFrameReceived (port : Nat) (quanta : Nat) (dstOk : Bool)
  /-- PFC_FRAME_RECEIVED (R92): An acted-on PFC frame pauses each enabled priority with its own timer. -/
  | pfcFrameReceived (port : Nat) (enable : Nat) (quanta : List Nat) (dstOk : Bool)
  /-- PAUSE_TIMER_EXPIRY (R91): A pause or PFC timer runs out and transmission of the paused port or priority resumes. -/
  | pauseTimerExpiry (port : Nat) (priority : Nat)
  /-- PAUSE_REFRESH (R94): While back-pressure lasts, the pause or PFC frame is repeated every REFRESH quanta. -/
  | pauseRefresh (port : Nat) (priority : Nat)
  /-- CNT_READ (R443): The command returns a port's 64 counters sampled within one 100 ns window. -/
  | cntRead (cmd : CmdIn)
  /-- CNT_CLEAR (R443): The command returns a port's 64 counters and zeroes them, and clears its half-range bits, as one act. -/
  | cntClear (cmd : CmdIn)
  /-- TIME_DOM_FREQ_WRITE (R110): An accepted FREQ_ADJ write changes the domain's rate within 100 ns with no time discontinuity. -/
  | timeDomFreqWrite (dom : Nat) (value : Nat)
  /-- TIME_DOM_PHASE_WRITE (R111): A TIME_DOM_PHASE write replaces the outstanding correction and starts a slew at SLEW_MAX. -/
  | timeDomPhaseWrite (dom : Nat) (value : Nat)
  /-- PHASE_SLEW_DONE (R111): The domain's phase remainder reaches exactly 0, ending the slew and clearing SLEWING. -/
  | phaseSlewDone (dom : Nat)
  /-- LOCK_DECLARE (R116): A write of TIME_DOM_CTRL.LOCKED sets or withdraws the host's lock declaration, subject to the refusal cases. -/
  | lockDeclare (dom : Nat) (value : Nat)
  /-- SERVO_WATCHDOG_EXPIRY (R114): WDOG_MS elapsing without a FREQ or PHASE write clears LOCKED with UNLOCK_WDOG. -/
  | servoWatchdogExpiry (dom : Nat)
  /-- DOMAIN_SET_TIME (R118): TIME_DOM_CMD.SET with SET_AT_PPS = 0 makes the staged value the domain's time within 100 ns. -/
  | domainSetTime (dom : Nat)
  /-- DOMAIN_SET_AT_PPS (R118): TIME_DOM_CMD.SET with SET_AT_PPS = 1 copies the staged value for application at the next PPS edge. -/
  | domainSetAtPps (dom : Nat)
  /-- PPS_EDGE (R125): An accepted PPS edge captures the domain's time and applies any pending SET_AT_PPS. -/
  | ppsEdge (dom : Nat)
  /-- PPS_MISSING (R125): No PPS edge for 1.1 s of domain time sets PPS_MISSING. -/
  | ppsMissing (dom : Nat)
  /-- PRES_MOVE_DONE (R120): Presentation error e reaches exactly 0, clearing MOVING. -/
  | presMoveDone
  /-- PRES_REVERT (R124): The preferred domain locked without a break for REVERT_S seconds moves presentation time back to it. -/
  | presRevert
  /-- TIME_SNAP (R126): A SNAP write latches domains A and B and presentation time from one instant. -/
  | timeSnap
  /-- AB_DIFF_UPDATE (R127): Every 1 µs TIME_AB_DIFF is updated with A − B. -/
  | abDiffUpdate
  /-- TPO_ENABLE (R130): Writing TPO ENABLE = 1 arms a pulse or train, or sets MISSED when a single pulse's START is too near. -/
  | tpoEnable (out : Nat) (value : Nat)
  /-- TPO_PULSE_EDGE (R128): A pulse edge is emitted at START + k × PERIOD in presentation time, and a single pulse clears ENABLE after it. -/
  | tpoPulseEdge (out : Nat) (trailing : Bool)
  /-- TPI_CAPTURE (R131): An accepted TPI edge captures the chosen clock into the input's FIFO, or sets OVERFLOW when it is full. -/
  | tpiCapture (inp : Nat) (rising : Bool)
  /-- TPI_POP (R132): A POP write removes the oldest TPI FIFO entry. -/
  | tpiPop (inp : Nat)
  /-- CAL_START (R147): STAMP_CAL_CTRL.START starts calibration of a DISABLED port in near-end serial loopback. -/
  | calStart (port : Nat)
  /-- CAL_DONE (R148): Calibration completes with DONE, LOOP_ERR and suggested trims, or with FAILED when the loop does not train within 1 ms. -/
  | calDone (trained : Bool) (loopErr : Nat) (ing : Nat) (egr : Nat)
  /-- CAL_RESULT_READ (R172): Reading STAMP_CAL_RESULT after it changes ends the pending EVT_STAMP_CAL_DONE. -/
  | calResultRead
  /-- STAMP_QUEUE_TRANSFER (R152): Per-port stamp entries are moved in rotation into the global stamp queue. -/
  | stampQueueTransfer
  /-- STAMP_ENTRY_WRITE (R155): A marked-frame stamp entry is written from the global queue to its completion ring. -/
  | stampEntryWrite
  /-- LL_RELEASE (R162): A held frame's first word is released to the egress crossing at release − 6.60 ns. -/
  | llRelease (port : Nat)
  /-- COPY_LINK (R595): A copy offered at the link stage is tested for port state, copy store and rod limit, then linked or discarded. -/
  | copyLink (copy : Nat)
  /-- REPLICATOR_OFFER (R337): In each handshake the replicator offers one copy of its current frame to the copy's egress link stage. -/
  | replicatorOffer (pipe : Nat) (places : Nat)
  /-- RESIDUE_LINK (R339): A waiting copy at the head of its rod's residue is linked when the link stage has room. -/
  | residueLink (queue : Nat)
  /-- SCHEDULER_PICK (R363): The port scheduler selects the next copy by level, finish tag, shapers, gates and level-latency release order. -/
  | schedulerPick (port : Nat)
  /-- TRANSMIT_START (R141): A copy's delimiter leaves the MAC: the egress stamp is taken, the trailer decided and any egress mirror copy offered. -/
  | transmitStart (port : Nat) (sub : Nat)
  /-- TRANSMIT_END (R174): A copy's transmission ends: its Tally record is formed, shapers are credited and bead counts are decremented. -/
  | transmitEnd (port : Nat)
  /-- FRAME_DIGEST (R178): A pipe's frame-digest engine takes a recorded frame from its queue and computes its SHA-256 digest. -/
  | frameDigest (pipe : Nat)
  /-- GAP_RECORD_WRITE (R181): When a burst-buffer place frees, a GAP record for a chain with lost records is written ahead of its later records. -/
  | gapRecordWrite (chain : Nat)
  /-- CHAIN_TAKE_RECORD (R183): A chain engine takes a record from the burst buffer, gives it a sequence and places it in the open leaf. -/
  | chainTakeRecord
  /-- LEAF_TIMER_CLOSE (R183): A leaf closes 1 µs after it opened. -/
  | leafTimerClose (chain : Nat)
  /-- SEAL_INSTANT (R189): At each seal instant every open leaf closes and a seal is formed. -/
  | sealInstant
  /-- TALLY_ENABLE (R190): TALLY_CTRL.ENABLE going from 0 to 1 forms a START seal and restarts every chain. -/
  | tallyEnable (value : Nat)
  /-- TALLY_DISABLE (R190): ENABLE going from 1 to 0 sets the FINAL seal instant and stops new records. -/
  | tallyDisable (value : Nat)
  /-- FINAL_SEAL_FORM (R190): The FINAL seal is formed once the last record from before the disable has been taken. -/
  | finalSealForm
  /-- SEAL_PERIOD_WRITE (R189): A change of PERIOD_US re-bases the seal grid, taking the seal at once if the next instant has passed. -/
  | sealPeriodWrite (value : Nat)
  /-- SEAL_SIGN (R193): When free, the signing unit signs the newest unsigned seal, leaving superseded seals unsigned. -/
  | sealSign
  /-- SEAL_EXPORT (R194): A seal is exported as a SEAL_MARK and 264 entries, or dropped when a ninth seal waits. -/
  | sealExport
  /-- MRAM_HEAD_WRITE (R195): A seal's head is written to the next MRAM slot and read back, retiring the slot on a mismatch. -/
  | mramHeadWrite (readBackOk : Bool)
  /-- TALLY_EXPORT_ENTRY (R187): Entries are copied from the backing ring to the export ring in ring order. -/
  | tallyExportEntry (read : ReadOutcome)
  /-- MRAM_RETIRED_READ (R199): Reading TALLY_MRAM_RETIRED ends EVT_TALLY_MRAM. -/
  | mramRetiredRead
  /-- PROFILE_VALID_WRITE (R208): Writing a profile's VALID takes it out of or into service, clearing DRAINED on VALID = 0. -/
  | profileValidWrite (profile : Nat) (value : Nat)
  /-- PROFILE_DRAINED (R208): DRAINED is set once every frame that crossed before VALID = 0 has finished classification. -/
  | profileDrained (profile : Nat)
  /-- NOP (R436): The NOP command completes without action. -/
  | nop (cmd : CmdIn)
  /-- RULE_STAGE (R212): The command places, replaces or removes one rule in the staged set. -/
  | ruleStage (cmd : CmdIn)
  /-- RULE_DISCARD (R224): The command removes every staged change. -/
  | ruleDiscard (cmd : CmdIn)
  /-- RULE_COMMIT (R230): The command builds the staged set as a new version under a FREE tag and switches it CURRENT. -/
  | ruleCommit (cmd : CmdIn)
  /-- RULE_READ (R224): The command reads one rule from a live tag or the staged set. -/
  | ruleRead (cmd : CmdIn)
  /-- RULE_RANGE_SET (R211): The command writes one range comparator when no live or staged rule refers to it. -/
  | ruleRangeSet (cmd : CmdIn)
  /-- TAG_DRAINED (R238): A DRAINING tag whose INFLIGHT reaches 0 becomes FREE and its exclusive entries are freed. -/
  | tagDrained (tag : Nat)
  /-- DRAIN_STUCK (R239): A DRAINING tag not at 0 within 10 µs of its switch sets DRAIN_STUCK. -/
  | drainStuck (tag : Nat)
  /-- FDB_INSERT (R247): The command inserts or replaces an FDB entry, relocating entries when needed. -/
  | fdbInsert (cmd : CmdIn)
  /-- FDB_DELETE (R271): The command deletes an FDB entry by key. -/
  | fdbDelete (cmd : CmdIn)
  /-- FDB_AGE_DELETE (R261): The command deletes an entry only when its HIT bit is 0. -/
  | fdbAgeDelete (cmd : CmdIn)
  /-- FDB_SEARCH (R271): The command returns the FDB entry for a key. -/
  | fdbSearch (cmd : CmdIn)
  /-- FDB_NEXT (R272): The command returns up to 16 following FDB entries, optionally clearing their HIT bits. -/
  | fdbNext (cmd : CmdIn)
  /-- FDB_FLUSH (R273): The command removes every matching FDB entry that names a port, as a Reckoner routine. -/
  | fdbFlush (cmd : CmdIn)
  /-- LPM_INSERT (R264): The command inserts a prefix, moving group units toward the nearest free unit. -/
  | lpmInsert (cmd : CmdIn)
  /-- LPM_DELETE (R268): The command clears a prefix's row or slot place. -/
  | lpmDelete (cmd : CmdIn)
  /-- LPM_SEARCH (R271): The command returns the entry for an exact prefix. -/
  | lpmSearch (cmd : CmdIn)
  /-- LPM_MATCH (R271): The command returns the entry that a frame to an address would hit. -/
  | lpmMatch (cmd : CmdIn)
  /-- LPM_NEXT (R272): The command returns up to 16 following LPM entries. -/
  | lpmNext (cmd : CmdIn)
  /-- LPM_FLUSH (R274): The command removes every prefix naming a port, as a Reckoner routine. -/
  | lpmFlush (cmd : CmdIn)
  /-- LPM_BACKGROUND_MOVE (R267): A background move restores one free unit in a non-empty group after it was used. -/
  | lpmBackgroundMove (group : Nat)
  /-- FLOW_OPEN (R282): The command places a new session context and returns its index. -/
  | flowOpen (cmd : CmdIn)
  /-- FLOW_MODIFY (R288): The command sets a context's POLICER and TALLY_OVR. -/
  | flowModify (cmd : CmdIn)
  /-- FLOW_READ (R289): The command returns a current context and its index. -/
  | flowRead (cmd : CmdIn)
  /-- FLOW_CLEAR (R289): The command returns a context and zeroes its counts as one act. -/
  | flowClear (cmd : CmdIn)
  /-- FLOW_CLOSE (R290): The command returns the final context and frees its place. -/
  | flowClose (cmd : CmdIn)
  /-- FLOW_NEXT (R288): The command returns up to 8 contexts in ascending index order. -/
  | flowNext (cmd : CmdIn)
  /-- FURTHER_BEAD_REQUEST (R304): An arriving frame needs another bead, and is dropped or ended early when none is granted. -/
  | furtherBeadRequest (frame : Nat)
  /-- ALLOCATOR_HANDSHAKE (R310): A pool allocator applies the frees of a handshake, then grants requests in rotating order. -/
  | allocatorHandshake (pool : Nat) (requests : List BeadRequest) (frees : List BeadFree)
  /-- BEAD_DECREMENT (R314): A copy decrements each bead's reference count when read or discarded, freeing it at 0. -/
  | beadDecrement (bead : Nat) (account : BeadAccount) (agent : Nat)
  /-- BUF_WITHDRAW (R316): The command withdraws block NEXT once all its beads are free. -/
  | bufWithdraw (cmd : CmdIn)
  /-- WITHDRAW_TIMEOUT (R316): A block not free within 1 ms is returned to service and the withdraw completes with BUSY. -/
  | withdrawTimeout
  /-- BUF_RESTORE (R317): The command returns a withdrawn block to service. -/
  | bufRestore (cmd : CmdIn)
  /-- SPILL_WRITE (R321): The spill engine writes a segment copy to DRAM and frees its on-die beads. -/
  | spillWrite (queue : Nat)
  /-- SPILL_RETURN (R321): A spilled copy is read back into the return set when the rod ahead would drain within RETURN_US. -/
  | spillReturn (queue : Nat) (read : SpillRead)
  /-- MCAST_SET (R335): The command replaces a group's member list as one act. -/
  | mcastSet (cmd : CmdIn)
  /-- MCAST_READ (R335): The command returns a group's member list. -/
  | mcastRead (cmd : CmdIn)
  /-- PORT_FLUSH (R347): On leaving UP, a Reckoner routine discards every copy on the port's rods. -/
  | portFlush (port : Nat)
  /-- HOLD_DOWN_EXPIRY (R348): HOLD_DOWN_US after the flush completes, the port leaves FLUSHING for DISABLED or TRAINING. -/
  | holdDownExpiry (port : Nat)
  /-- STUCK_INSPECTION (R350): Every 100 µs the head of each rod of a port in UP is checked against STUCK_MS. -/
  | stuckInspection
  /-- STUCK_RECLAIM (R350): A Reckoner routine removes the copies linked more than STUCK_MS ago from a stuck rod's head. -/
  | stuckReclaim (queue : Nat)
  /-- POLICER_HANDSHAKE (R360): A policer applies all debits of a handshake, then decides its requests in rotating order. -/
  | policerHandshake (policer : Nat)
  /-- TM_POLICER_SET (R361): The command writes one policer. -/
  | tmPolicerSet (cmd : CmdIn)
  /-- TM_POLICER_READ (R361): The command returns a policer, optionally clearing its counts. -/
  | tmPolicerRead (cmd : CmdIn)
  /-- TM_SHAPER_SET (R368): The command writes one queue or port shaper. -/
  | tmShaperSet (cmd : CmdIn)
  /-- TM_SHAPER_READ (R368): The command returns a shaper entry with its LEVEL. -/
  | tmShaperRead (cmd : CmdIn)
  /-- TM_GCL_WRITE (R373): The command writes gate entries into a port's pending bank. -/
  | tmGclWrite (cmd : CmdIn)
  /-- TM_GCL_COMMIT (R373): The command commits the pending bank with a start time, adjusted when BASE_TIME is too soon. -/
  | tmGclCommit (cmd : CmdIn)
  /-- TM_GCL_CANCEL (R375): The command withdraws a committed list that has not started. -/
  | tmGclCancel (cmd : CmdIn)
  /-- TM_GCL_READ (R375): The command returns a bank's gate entries. -/
  | tmGclRead (cmd : CmdIn)
  /-- GATE_LIST_START (R374): At the start time the pending bank becomes active and the active bank pending. -/
  | gateListStart (port : Nat)
  /-- GATE_ENTRY_CHANGE (R369): The active list moves to its next entry, or to a new cycle, changing the gate states. -/
  | gateEntryChange (port : Nat)
  /-- DRAM_SCRUB_READ (R383): The scrub reads a granule and rewrites a corrected error. -/
  | dramScrubRead (granule : Nat) (read : ReadOutcome)
  /-- CA_PARITY_ALERT (R385): A command-parity alert stops the pseudo-channel and replays its buffered commands. -/
  | caParityAlert (pc : Nat) (alert : ParityAlert)
  /-- DRAM_REQUEST_TIMEOUT (R388): A request not completed 50 µs after entering the controller fails its pseudo-channel. -/
  | dramRequestTimeout (pc : Nat)
  /-- WRITE_AGE_DRAIN (R390): A write that has waited WR_AGE_NS starts a drain to WR_LOW. -/
  | writeAgeDrain (pc : Nat)
  /-- REFRESH (R391): Per-bank refresh covers every row within the window in force, which resets the row counters at its start. -/
  | refresh (stack : Nat)
  /-- DRAM_TEMP_READ (R391): Every 1 ms the stack temperatures are read, setting HOT or TEMP as they cross thresholds. -/
  | dramTempRead (temps : StackTemps) (trip : Bool)
  /-- ROW_GUARD_REFRESH (R393): A row counter reaching THRESHOLD refreshes the row's two neighbours. -/
  | rowGuardRefresh (bank : Nat) (row : Nat)
  /-- STACK_PARK (R395): A stack idle for PARK_MS in service enters self-refresh and stops its clocks. -/
  | stackPark (stack : Nat)
  /-- STACK_WAKE (R395): The first request to a parked stack restarts it and recalibrates before it is served. -/
  | stackWake (stack : Nat)
  /-- SID_IDLE (R396): A SID idle for SID_IDLE_MS in maintenance enters idle mode. -/
  | sidIdle (stack : Nat) (sid : Nat)
  /-- DRAM_SERVICE_WRITE (R394): Writing DRAM_CTRL.SERVICE = 1 puts the controller in service, refused while training has not succeeded. -/
  | dramServiceWrite (value : Nat)
  /-- DRAM_TRAIN_START (R398): Writing DRAM_TRAIN.START runs training again, destroying every region's contents. -/
  | dramTrainStart
  /-- DRAM_TRAINING (R397): A Reckoner routine trains all 64 pseudo-channels and repairs lanes, ending DONE or FAILED. -/
  | dramTraining (pc : Nat) (failedLanes : Nat) (ok : Bool)
  /-- DRAM_TRAIN_READ (R401): Reading DRAM_TRAIN after its STATUS changes ends EVT_DRAM_TRAIN_DONE. -/
  | dramTrainRead
  /-- DRAM_RECAL (R399): Each pseudo-channel's timing is recalibrated in an all-bank refresh slot every RECAL_MS. -/
  | dramRecal (pc : Nat)
  /-- LINK_TRAINING (R403): UCIe training starts within 1 ms of RESET_N release at MAX_RATE, falling back on repeated failure. -/
  | linkTraining (ok : Bool)
  /-- LINK_TRAINING_DONE (R403): Training completes and the link becomes ACTIVE, or FAILED after 4 GT/s fails. -/
  | linkTrainingDone (repaired : Bool)
  /-- LINK_TRAIN_RESTART (R403): From FAILED, training starts again from MAX_RATE every 100 ms. -/
  | linkTrainRestart
  /-- LINK_RETRAIN (R405): Excess retries or a link error retrains the ACTIVE link at the same rate. -/
  | linkRetrain (retries : Nat) (phyError : Bool)
  /-- CFG_RD (R413): The host's register read request is served in ascending address order and answered with a REPLY. -/
  | cfgRd (msg : HostIn)
  /-- CFG_WR (R413): The host's register write request writes each register in turn, stopping at the first refusal. -/
  | cfgWr (msg : HostIn)
  /-- DB_WR (R432): A doorbell message replaces a ring's held value when it lies within the index window. -/
  | dbWr (msg : HostIn)
  /-- REPLY (R420): A REPLY from the host answers an outstanding MEM_RD, or fails it on bad status or length. -/
  | reply (msg : HostIn)
  /-- CREDIT (R410): A CREDIT message returns slots the sender may use. -/
  | credit (msg : HostIn)
  /-- MEM_RD_TIMEOUT (R420): A MEM_RD with no REPLY within MEM_TO_US fails and its tag is held back. -/
  | memRdTimeout (tag : Nat)
  /-- HOST_LOST (R424): A link out of ACTIVE for DOWN_MS declares the host lost and stops ring service. -/
  | hostLost
  /-- WARM_RESET (R470): Writing SYS_CTRL.WARM_RESET writes ABORTED completions, answers OK and resets the device keeping the straps. -/
  | warmReset
  /-- DESCRIPTOR_TAKE (R435): The ring engine takes one descriptor from a host-produced ring in rotation when its completion ring has room. -/
  | descriptorTake
  /-- INJECT_DESCRIPTOR (R445): An inject descriptor's frame is read and enters admission as owner INJECT. -/
  | injectDescriptor (ring : Nat)
  /-- INDEX_BLOCK_WRITE (R433): DEV_INDEX is written to a ring's index block within 1 µs of an advance. -/
  | indexBlockWrite (ring : Nat)
  /-- RING_ENABLE (R431): Writing a ring's ENABLE sets its indices to 0 on enable or stops it after the entry in progress. -/
  | ringEnable (ring : Nat) (value : Nat)
  /-- RING_RESUME (R451): Writing RING_RESUME restarts a halted ring from DEV_INDEX. -/
  | ringResume (ring : Nat)
  /-- PUNT_WRITE (R449): A punted frame with good FCS is written to its punt ring, or dropped when the ring is full. -/
  | puntWrite (frame : Nat)
  /-- COUNTER_SWEEP (R450): Every PERIOD_MS a counter sweep writes 8 entries per port to ring 62, or is skipped. -/
  | counterSweep (reads : List (Nat × ReadOutcome))
  /-- COLLECTOR_SCAN (R459): A block collector takes every producer change in one scan and updates the attention word. -/
  | collectorScan (block : Nat)
  /-- EVENT_ENTRY_WRITE (R461): The event writer writes one entry for a set report bit, in severity and number order. -/
  | eventEntryWrite
  /-- EVT_MASK_WRITE (R458): A write of EVT_MASK masks sources and re-reports a pending source that is unmasked. -/
  | evtMaskWrite (word : Nat) (value : Nat)
  /-- KEEPALIVE_EXPIRY (R462): The keepalive timer reaching KEEPALIVE_US writes a keepalive to ring 0 when attention is not 0. -/
  | keepaliveExpiry
  /-- KEEPALIVE_WRITE (R462): An accepted write of EVT_CTRL.KEEPALIVE_US restarts the keepalive timer. -/
  | keepaliveWrite (value : Nat)
  /-- FUNC_RESET (R465): A write of SYS_FUNC_RESET starts re-initialisation of the named functions. -/
  | funcReset (value : Nat)
  /-- FUNC_RESET_DONE (R465): A function's re-initialisation ends with UP and DONE, or with FAILED. -/
  | funcResetDone (func : Nat) (ok : Bool)
  /-- PATCH_LOAD (R479): A write of RCK_PATCH_CTRL.LOAD starts the ordered checks of the staged patch. -/
  | patchLoad (value : Nat)
  /-- PATCH_CHECK_DONE (R480): The patch checks end, loading the patch RAM and match registers or setting FAILED. -/
  | patchCheckDone
  /-- ROUTINE_START (R485): A requested routine starts on a free engine by priority and request order. -/
  | routineStart
  /-- ROUTINE_CHECKPOINT (R482): A routine reaches a checkpoint, where it may give way to a waiting flush or reclaim. -/
  | routineCheckpoint (engine : Nat)
  /-- ENGINE_HALT (R487): A ROM parity failure, undefined word or 20 ms without a checkpoint halts an engine. -/
  | engineHalt (engine : Nat)
  /-- BOOT_STAGE (R493): Reckoner 0 completes a boot stage, ending DONE after stage 5 or FAILED on a parity or fuse failure. -/
  | bootStage (romOk : Bool) (fuseOk : Bool) (identityOk : Bool)
  /-- SEC_ATTEST (R499): The command returns a signed attestation report or the certificate chain. -/
  | secAttest (cmd : CmdIn)
  /-- BUNDLE_LOAD (R502): LOAD with KIND = 0 checks a staged configuration bundle and applies its operations. -/
  | bundleLoad (value : Nat)
  /-- BUNDLE_DONE (R502): A bundle's operations finish, setting STATE DONE and raising EVT_SEC_BUNDLE. -/
  | bundleDone
  /-- DEBUG_TOKEN_LOAD (R504): LOAD with KIND = 1 checks a debug token and grants OBS or SCAN, drawing a new challenge. -/
  | debugTokenLoad (value : Nat)
  /-- CLAIM (R513): PAIR_CMD.CLAIM moves a DETACHED or STALE device to CLAIMING and raises HOLD_OUT. -/
  | claim
  /-- YIELD (R513): PAIR_CMD.YIELD moves an ACTIVE device with a STANDBY peer to YIELDING. -/
  | yieldRole
  /-- HOLD_IN_CHANGE (R515): A filtered change of HOLD_IN gates transmitters and resolves an overlap by seniority. -/
  | holdInChange (level : Bool)
  /-- TRANSMIT_ENABLE (R514): HOLD_OUT high and HOLD_IN low settled for 200 ns enable the transmitters, making a claimer ACTIVE. -/
  | transmitEnable
  /-- YIELD_RELEASE (R528): A yielding device finishes its frames in progress, then gates its transmitters and releases HOLD_OUT. -/
  | yieldRelease
  /-- HOLD_FAULT_DETECT (R516): A HOLD mismatch lasting 10 µs, or equal SENIOR reports, sets HOLD_FAULT. -/
  | holdFaultDetect
  /-- STATE_RECORD_RECEIVE (R518): A STATE or BULK record from the peer is applied in SEQ order and acknowledged. -/
  | stateRecordReceive (frame : List Byte) (fcsOk : Bool)
  /-- STATE_RESEND (R520): ACK not advancing for 4 µs resends STATE records from after the peer's ACK. -/
  | stateResend
  /-- HEARTBEAT_SEND (R521): Every 1 µs each side sends a heartbeat. -/
  | heartbeatSend
  /-- HEARTBEAT_RECEIVE (R516): A valid heartbeat from the peer updates PAIR_PEER and the HOLD checks. -/
  | heartbeatReceive (frame : List Byte) (fcsOk : Bool)
  /-- HEARTBEAT_LOSS (R523): No valid heartbeat for 20 µs reports heartbeats lost. -/
  | heartbeatLoss
  /-- DIGEST_SEND (R523): Within 1 µs of a window's end each side sends 16 DIGEST frames for it. -/
  | digestSend
  /-- WINDOW_COMPARE (R524): At the close of a window whose digests both sides hold, the per-port residuals are updated and compared. -/
  | windowCompare (window : Nat) (peer : List DigestFrame)
  /-- PEER_RELEASE_TAKEOVER (R526): HOLD_IN low for 1 µs while the peer last reported ACTIVE gives a takeover verdict. -/
  | peerReleaseTakeover
  /-- TAKEOVER_LAPSE (R526): An armed takeover lapses after ARM_MS, making the device STALE. -/
  | takeoverLapse
  /-- TALLY_FOLLOW_TIMEOUT (R530): 50 µs after becoming ACTIVE without the FINAL head, the new active enables Tally itself. -/
  | tallyFollowTimeout
  /-- PAIR_RESYNC (R531): The command clears the joining device's tables and starts the bulk copy from the active. -/
  | pairResync (cmd : CmdIn)
  /-- RESYNC_COMPLETE (R532): The bulk copy completes and the joining device becomes STANDBY. -/
  | resyncComplete
  /-- SPAN_CTRL_WRITE (R538): A write of SPAN_CTRL.EN or GROUP_EN turns the span lanes on or off and sets up the span ports. -/
  | spanCtrlWrite (value : Nat)
  /-- SPAN_CONTROL_SEND (R541): Every 1 µs each span port sends a CONTROL frame. -/
  | spanControlSend (port : Nat)
  /-- SPAN_CONTROL_RECEIVE (R543): A received CONTROL frame updates the peer's state, membership and time difference. -/
  | spanControlReceive (port : Nat) (frame : List Byte) (fcsOk : Bool)
  /-- SPAN_DATA_RECEIVE (R545): A DATA frame from an active peer is admitted and linked to the carried local queue, or discarded. -/
  | spanDataReceive (port : Nat) (frame : List Byte) (fcsOk : Bool)
  /-- DRAM_TRAINING_REQUEST (R556): DRAM training is requested when the patch settles or 100 ms after boot DONE. -/
  | dramTrainingRequest
  /-- START_READY (R555): SYS_START_STATUS.READY is set once link, boot and DRAM training have ended and every function is UP. -/
  | startReady
  /-- START_LATE (R559): READY still 0 at 600 ms sets LATE and raises EVT_SYS_START_LATE. -/
  | startLate
  /-- TABLE_SCRUB_READ (R567): The table scrub reads an entry in a free lookup slot, counting each completed pass. -/
  | tableScrubRead (target : ScrubTarget)
  /-- BIST_START (R568): A write of SYS_BIST_CTRL.START starts a march test of a withdrawn block. -/
  | bistStart (value : Nat)
  /-- BIST_DONE (R568): A block test ends with PASS, or FAIL with the lowest failing bead. -/
  | bistDone (failing : Option Nat)
  /-- OBS_WRITE (R586): A write to the OBS page changes the pin selections and clears the half's edge counters. -/
  | obsWrite (word : Nat) (value : Nat)
  /-- JTAG_INSTRUCTION (R590): Loading an instruction into the TAP's instruction register selects its test mode. -/
  | jtagInstruction (opcode : Nat)
  /-- TAP_RESET (R590): TRST_N low or the Test-Logic-Reset state resets the test access port. -/
  | tapReset
  /-- HANDOFF_RECEIVE (R526): A HANDOFF frame arrives from the yielding active, and the standby gives a takeover verdict with cause handoff and claims once HOLD_IN falls. -/
  | handoffReceive (frame : List Byte) (fcsOk : Bool)
  /-- READ_IDLE_DRAIN (R390): When no read has been pending for 100 ns, any queued write starts a drain to WR_LOW. -/
  | readIdleDrain (pc : Nat)
  /-- RESERVED_TYPE_MESSAGE (R411): A message from the host with a reserved TYPE, or with MEM_RD or MEM_WR type, is a protocol error that discards the rest of its flit and is recorded in HLINK_PROTO_LOC. -/
  | reservedTypeMessage (msg : HostIn)
  deriving DecidableEq, Repr

end Sys2Proof
end

