-- ==== Sys2Proof/Decode.lean ====
section
/-! DEFINITION. Commands by the words of the table of operations. No row of that table gives bits: a command has no encoding
of its own, so no word spells one. -/

namespace Sys2Proof

/-- The command that a word spells: none, since no row gives bits. (DESIGN CHOICE, log 74.) -/
def decodeTableWord (_nbits _w : Nat) : Option Instr := none

end Sys2Proof
end

