-- ==== Sys2Proof/Config.lean ====
section
/-! DEFINITION. What an implementation fixes and the spec leaves open: opaque constants, of which no proof can see
a value. Each is named in a row of the assumption log. -/

namespace Sys2Proof.Config

/-- The level of observation pin k while OBS_CTRL.EN = 0 (R589: undefined). (DESIGN CHOICE, log 37.) -/
opaque obsFloating : Nat → Nat → Bool

/-- The level of an internal observation point (bank, point) at a cycle (Table 24-1). (DESIGN CHOICE, log 37.) -/
opaque obsPoint : Nat → Nat → Nat → Bool

/-- The rising edges that an internal observation point (bank, point) makes in a cycle. (DESIGN CHOICE, log 37.) -/
opaque obsEdges : Nat → Nat → Nat → Nat

/-- The level that the boundary cell of an output pin holds, or at which it floats in HIGHZ, at a cycle: pin 0 FAULT_N,
1 THERMTRIP_N, 2 HOLD_OUT, 3 to 10 TPO, 11 to 26 OBS, 27 the front lanes, 28 the mirror lanes (Table 24-4). (DESIGN CHOICE, log 38.) -/
opaque cellLevel : Nat → Nat → Bool

/-- The two places that a key hashes to in the FDB: bank and bucket of each (R246). (DESIGN CHOICE, log 39.) -/
opaque fdbHash : Nat → Nat → (Nat × Nat) × (Nat × Nat)

/-- The two session buckets of a key (R278). (DESIGN CHOICE, log 39.) -/
opaque flowHash : List Byte → Nat × Nat

/-- The session-cache set of a context index (R279). (DESIGN CHOICE, log 39.) -/
opaque cacheSet : Nat → Nat

/-- The identity key's signature over a message, for a draw of salt (R191, R499). (DESIGN CHOICE, log 40.) -/
opaque sign : Nat → List Byte → List Byte

/-- A signature under a key verifies over a message: key 0 the patch key, 1 the bundle key, 2 the debug key
(Table 19-1). (DESIGN CHOICE, log 40.) -/
opaque verify : Nat → List Byte → List Byte → Bool

/-- A signature under a given owner modulus verifies over a message. (DESIGN CHOICE, log 40.) -/
opaque verifyOwner : List Byte → List Byte → List Byte → Bool

/-- AES-256-GCM under the family key: the plaintext of (nonce, additional data, ciphertext, tag), or nothing when
the tag fails (R478). (DESIGN CHOICE, log 40.) -/
opaque openBody : List Byte → List Byte → List Byte → List Byte → Option (List Byte)

/-- The 32 bytes of a draw from the entropy source (R505). (DESIGN CHOICE, log 40; DESIGN CHOICE, log 79.) -/
opaque entropy : Nat → List Byte

/-- How far a bundle had come when a reset or power loss cut it, for a number of draws (R503): the operations complete, how
far the next one had come, and the bits of a claim that were burnt. (DESIGN CHOICE, log 41.) -/
opaque bundleCut : Nat → Nat × Nat × List Byte

/-- At a loss of all rails during a seal-head write, VDD_CORE falls faster than R59 allows (R574), for a number of draws. (DESIGN CHOICE, log 42.) -/
opaque fastFall : Nat → Bool

/-- What RULE_VER_NUM of a tag reads once the tag has become FREE in a cycle (Table 8-6: undefined). (DESIGN CHOICE, log 41.) -/
opaque versionNum : Nat → Nat → Nat

/-- Where the grid of start points of a port's PCS stands in a cycle (Table 5-3): the wait from now to the next start point is this
value modulo the spacing. (DESIGN CHOICE, log 32.) -/
opaque startPhase : Nat → Nat → Nat

/-- The certificate chain that SEC_ATTEST returns (R498). (DESIGN CHOICE, log 41.) -/
opaque chain : List Byte

end Sys2Proof.Config
end

