-- ==== Sys2Proof/Machine/Bits.lean ====
section
/-! DEFINITION. Sparse maps, bit fields, byte orders and the checks and hashes that the spec names:
CRC-32 (the FCS of IEEE 802.3), CRC-64/ECMA-182 (R522) and SHA-256 (R177). -/

namespace Sys2Proof.Machine

/-! ### Sparse maps -/

/-- The value stored under key `k`, if any. -/
def mapFind {α : Type} : SMap α → Nat → Option α
  | [], _ => none
  | (k', v) :: m, k => if k' = k then some v else mapFind m k

/-- The value under `k`, or the value `d` that an unlisted key holds. -/
def mapGet {α : Type} (m : SMap α) (k : Nat) (d : α) : α := (mapFind m k).getD d

/-- The map without key `k`. -/
def mapDel {α : Type} (m : SMap α) (k : Nat) : SMap α := m.filter fun e => e.1 != k

/-- Insert before the first greater key. -/
def mapIns {α : Type} : SMap α → Nat → α → SMap α
  | [], k, v => [(k, v)]
  | (k', v') :: m, k, v => if k < k' then (k, v) :: (k', v') :: m else (k', v') :: mapIns m k v

/-- Store `v` under `k`. -/
def mapPut {α : Type} (m : SMap α) (k : Nat) (v : α) : SMap α := mapIns (mapDel m k) k v

/-- Store `v` under `k`, listing no key that holds the unlisted value `d` (the canonical form). -/
def mapSet {α : Type} [DecidableEq α] (m : SMap α) (k : Nat) (v d : α) : SMap α :=
  if v = d then mapDel m k else mapPut m k v

/-- Apply `f` to the value under `k`. -/
def mapMod {α : Type} [DecidableEq α] (m : SMap α) (k : Nat) (d : α) (f : α → α) : SMap α :=
  mapSet m k (f (mapGet m k d)) d

/-- The canonical form of a map of numbers whose key `k` reads `d k` when unlisted: keys strictly rise. -/
def mapSorted {α : Type} : SMap α → Bool
  | [] => true
  | [_] => true
  | e :: e' :: m => decide (e.1 < e'.1) && mapSorted (e' :: m)

/-! ### Bit fields and two's complement -/

/-- Bits [lo+n−1:lo] of `w`. -/
def bits (w lo n : Nat) : Nat := (w >>> lo) % 2 ^ n

/-- Bit `i` of `w`. -/
def bitOf (w i : Nat) : Bool := w.testBit i

/-- `w` with bit `i` set. -/
def setBit (w i : Nat) : Nat := w ||| 1 <<< i

/-- `w` with bit `i` clear. -/
def clrBit (w i : Nat) : Nat := if w.testBit i then w - 2 ^ i else w

/-- One bit as a number. -/
def b2n (b : Bool) : Nat := if b then 1 else 0

/-- The two's-complement value of an `n`-bit number. -/
def toSigned (n w : Nat) : Int := if w % 2 ^ n < 2 ^ (n - 1) then (w % 2 ^ n : Nat) else (w % 2 ^ n : Nat) - (2 ^ n : Nat)

/-- The `n`-bit two's-complement encoding of an integer. -/
def ofSigned (n : Nat) (v : Int) : Nat := (v % ((2 ^ n : Nat) : Int)).toNat

/-- The positions of the set bits of `w` below `n`, lowest first. -/
def setBits (w n : Nat) : List Nat := (List.range n).filter (bitOf w)

/-- A mask with the bits of `l` set. -/
def maskOf (l : List Nat) : Nat := l.foldl setBit 0

/-- Rounded-up division. -/
def ceilDiv (a b : Nat) : Nat := (a + b - 1) / b

/-! ### Bytes -/

/-- The number a little-endian byte string holds. -/
def leNat : List Byte → Nat
  | [] => 0
  | b :: l => b.toNat + 256 * leNat l

/-- The number a big-endian byte string holds. -/
def beNat (l : List Byte) : Nat := l.foldl (fun a b => 256 * a + b.toNat) 0

/-- `n` bytes of `v`, least significant first. -/
def leBytes : Nat → Nat → List Byte
  | 0, _ => []
  | n + 1, v => BitVec.ofNat 8 v :: leBytes n (v / 256)

/-- `n` bytes of `v`, most significant first. -/
def beBytes (n v : Nat) : List Byte := (leBytes n v).reverse

/-- `n` bytes from offset `off`. -/
def slice (l : List Byte) (off n : Nat) : List Byte := (l.drop off).take n

/-- The little-endian field of `n` bytes at offset `off`. -/
def leAt (l : List Byte) (off n : Nat) : Nat := leNat (slice l off n)

/-- The big-endian field of `n` bytes at offset `off`. -/
def beAt (l : List Byte) (off n : Nat) : Nat := beNat (slice l off n)

/-- `n` zero bytes. -/
def zeros (n : Nat) : List Byte := List.replicate n 0

/-- `l` cut or filled with zeros to `n` bytes. -/
def padTo (n : Nat) (l : List Byte) : List Byte := l.take n ++ zeros (n - l.length)

/-- `l` with the bytes `v` written at offset `off`. -/
def patchAt (l : List Byte) (off : Nat) (v : List Byte) : List Byte :=
  l.take off ++ v ++ l.drop (off + v.length)

/-- All bytes of a string are zero. -/
def allZero (l : List Byte) : Bool := l.all fun b => b == 0

/-! ### Lists -/

/-- Element `i` replaced by `f` of it. -/
def modAt {α : Type} (l : List α) (i : Nat) (f : α → α) : List α :=
  (l.zip (List.range l.length)).map fun e => if e.2 = i then f e.1 else e.1

/-- The lowest of the `n` numbers from `k` on with property `p`. -/
def lowestFrom (p : Nat → Bool) : Nat → Nat → Option Nat
  | 0, _ => none
  | n + 1, k => if p k then some k else lowestFrom p n (k + 1)

/-- The lowest number below `n` with property `p`. -/
def lowest (n : Nat) (p : Nat → Bool) : Option Nat := lowestFrom p n 0

/-- The numbers 0 to n − 1 in rotation from `start`. -/
def rotation (n start : Nat) : List Nat := (List.range n).map fun i => (start + i) % n

/-! ### CRC -/

/-- `n` steps of a reflected CRC register with polynomial `poly`. -/
def crcReflect (poly : Nat) : Nat → Nat → Nat
  | 0, c => c
  | n + 1, c => crcReflect poly n (if c % 2 = 1 then c / 2 ^^^ poly else c / 2)

/-- CRC-32 of IEEE 802.3 over a byte string. -/
def crc32 (l : List Byte) : Nat :=
  l.foldl (fun c b => crcReflect 0xEDB88320 8 (c ^^^ b.toNat)) 0xFFFFFFFF ^^^ 0xFFFFFFFF

/-- The four FCS bytes as they are sent. -/
def fcsBytes (l : List Byte) : List Byte := leBytes 4 (crc32 l)

/-- The stomped FCS of R99: the correct FCS XOR 0xFFFF_FFFF. -/
def stompedBytes (l : List Byte) : List Byte := leBytes 4 (crc32 l ^^^ 0xFFFFFFFF)

/-- `n` steps of a 64-bit CRC register, most significant bit first. -/
def crcForward : Nat → Nat → Nat
  | 0, c => c
  | n + 1, c => crcForward n (if c / 2 ^ 63 % 2 = 1 then (c * 2 % 2 ^ 64) ^^^ 0x42F0E1EBA9EA3693 else c * 2 % 2 ^ 64)

/-- CRC-64/ECMA-182 extended by a byte string from register value `c`. -/
def crc64 (c : Nat) (l : List Byte) : Nat :=
  l.foldl (fun c b => crcForward 8 (c ^^^ b.toNat * 2 ^ 56)) c

/-! ### SHA-256 -/

/-- The round constants, eight words a row, the first word of a row most significant. -/
def roundRows : List Nat :=
  [0x428a2f9871374491b5c0fbcfe9b5dba53956c25b59f111f1923f82a4ab1c5ed5,
   0xd807aa9812835b01243185be550c7dc372be5d7480deb1fe9bdc06a7c19bf174,
   0xe49b69c1efbe47860fc19dc6240ca1cc2de92c6f4a7484aa5cb0a9dc76f988da,
   0x983e5152a831c66db00327c8bf597fc7c6e00bf3d5a7914706ca635114292967,
   0x27b70a852e1b21384d2c6dfc53380d13650a7354766a0abb81c2c92e92722c85,
   0xa2bfe8a1a81a664bc24b8b70c76c51a3d192e819d6990624f40e3585106aa070,
   0x19a4c1161e376c082748774c34b0bcb5391c0cb34ed8aa4a5b9cca4f682e6ff3,
   0x748f82ee78a5636f84c878148cc7020890befffaa4506cebbef9a3f7c67178f2]

/-- The eight words of a row of 256 bits. -/
def rowWords (r : Nat) : List Nat := (List.range 8).map fun i => bits r (224 - 32 * i) 32

/-- A word turned to the right by each amount of a list, all XORed together. -/
def turns (w : Nat) (by_ : List Nat) : Nat := by_.foldl (fun a n => a ^^^ bits (w * (2 ^ 32 + 1)) n 32) 0

/-- The working state of a hash: its eight words as one number of 256 bits, the first word most significant. -/
abbrev HashWord := Nat

/-- Word `i` of a hash, 0 being the first. -/
def hashAt (h : HashWord) (i : Nat) : Nat := bits h (224 - 32 * i) 32

/-- A round shifts the state by one word: the last word falls out, two sums enter at the first and at the fifth place. -/
def hashRound (h : HashWord) (k w : Nat) : HashWord :=
  let (a, e) := (hashAt h 0, hashAt h 4)
  let choose := hashAt h 6 ^^^ (e &&& (hashAt h 5 ^^^ hashAt h 6))
  let major := (a &&& hashAt h 1) ||| (hashAt h 2 &&& (a ||| hashAt h 1))
  let add := hashAt h 7 + turns e [6, 11, 25] + choose + k + w
  let first := (add + turns a [2, 13, 22] + major) % 2 ^ 32
  let fifth := (hashAt h 3 + add) % 2 ^ 32
  first * 2 ^ 224 + bits h 160 96 * 2 ^ 128 + fifth * 2 ^ 96 + bits h 32 96

/-- The rounds of a block over the rows of constants: the window of sixteen message words moves on by one word a round. -/
def hashRounds : List Nat → HashWord → List Nat → HashWord
  | [], h, _ => h
  | k :: ks, h, win =>
    let w (i : Nat) : Nat := win.getD i 0
    let next := (w 0 + (turns (w 1) [7, 18] ^^^ w 1 / 2 ^ 3) + w 9 + (turns (w 14) [17, 19] ^^^ w 14 / 2 ^ 10)) % 2 ^ 32
    hashRounds ks (hashRound h k (w 0)) (win.tail ++ [next])

/-- A hash and the outcome of its rounds, added word by word. -/
def hashJoin (g h : HashWord) : HashWord :=
  (List.range 8).foldl (fun a i => a * 2 ^ 32 + (hashAt g i + hashAt h i) % 2 ^ 32) 0

/-- `n` blocks of a padded message from byte `at_` on. -/
def hashBlocks (m : List Byte) : Nat → Nat → HashWord → HashWord
  | 0, _, h => h
  | n + 1, at_, h =>
    let win := (List.range 16).map fun i => beAt m (at_ + 4 * i) 4
    hashBlocks m n (at_ + 64) (hashJoin h (hashRounds (roundRows.flatMap rowWords) h win))

/-- SHA-256 of a byte string (R178, R184). -/
def sha256 (l : List Byte) : List Byte :=
  let fill := 63 - (l.length + 8) % 64
  let m := l ++ 0x80 :: zeros fill ++ beBytes 8 (8 * l.length)
  beBytes 32 (hashBlocks m (m.length / 64) 0 0x6a09e667bb67ae853c6ef372a54ff53a510e527f9b05688c1f83d9ab5be0cd19)

end Sys2Proof.Machine
end

