-- ==== Sys2Proof/Machine/Regs.lean ====
section
/-! DEFINITION. The register map: one definition per field of every register table of spec/, and the
list of register families by which a CFG access finds a register (R575 to R578, Tables 23-1 and 23-3).
Page n begins at n × 0x0010_0000. An index past the last register of an array wraps within the array, so that no field stands
for a register of another name; no register that a table gives is named in that way. -/

namespace Sys2Proof.Machine

/-- Which lane-number rule a register array follows (R72): none, per port, or per global queue. -/
inductive RegOwner where
  | plain | port | queue
  deriving DecidableEq, Repr

/-- A register family: its name, the address of its first register, the two strides and counts of
its index variables, its R72 rule, and the fields of the register with indices i and j. (DESIGN CHOICE, log 36.) -/
structure RegFam where
  name : String
  base : Nat
  stride : Nat
  count : Nat
  stride2 : Nat
  count2 : Nat
  owner : RegOwner
  fields : Nat → Nat → List (Access × Fld)

namespace Reg

/-- SYS_ID_VENDOR.VENDOR [31:16], RO, Table 23-2, R583. -/
def SYS_ID_VENDOR_VENDOR : Fld := ⟨0x0, 16, 16, 0x5356⟩

/-- SYS_ID_DEVICE.PART [31:16], RO, Table 23-2, R583. -/
def SYS_ID_DEVICE_PART : Fld := ⟨0x4, 16, 16, 0x1024⟩

/-- SYS_ID_DEVICE.PACKAGE [7:0], RO, Table 23-2, R583. -/
def SYS_ID_DEVICE_PACKAGE : Fld := ⟨0x4, 0, 8, 0x4C⟩

/-- SYS_ID_STEPPING.MAJOR [23:16], RO, Table 23-2, R584. -/
def SYS_ID_STEPPING_MAJOR : Fld := ⟨0x8, 16, 8, 0x42⟩

/-- SYS_ID_STEPPING.MINOR [15:8], RO, Table 23-2, R584. -/
def SYS_ID_STEPPING_MINOR : Fld := ⟨0x8, 8, 8, 0x30⟩

/-- SYS_ID_STEPPING.METAL [7:0], RO, Table 23-2, R584. -/
def SYS_ID_STEPPING_METAL : Fld := ⟨0x8, 0, 8, 0⟩

/-- SYS_ID_MAP.PAGES [31:16], RO, Table 23-2, R583. -/
def SYS_ID_MAP_PAGES : Fld := ⟨0xC, 16, 16, 26⟩

/-- SYS_ID_MAP.MAP_VER [15:0], RO, Table 23-2, R583. -/
def SYS_ID_MAP_MAP_VER : Fld := ⟨0xC, 0, 16, 1⟩

/-- SYS_SCRATCH.VALUE [31:0], RW, Table 23-2, R583. -/
def SYS_SCRATCH_VALUE : Fld := ⟨0x20, 0, 32, 0⟩

/-- SYS_CORE_SPEED.MIN_MT [31:16], RC, Table 1-3, R22. -/
def SYS_CORE_SPEED_MIN_MT : Fld := ⟨0x100, 16, 16, 0xFFFF⟩

/-- SYS_CORE_SPEED.NOW_MT [15:0], RO, Table 1-3, R22. -/
def SYS_CORE_SPEED_NOW_MT : Fld := ⟨0x100, 0, 16, 0⟩

/-- SYS_STRAP.CHANGED [5:5], W1C, Table 2-5, R46. -/
def SYS_STRAP_CHANGED : Fld := ⟨0x110, 5, 1, 0⟩

/-- SYS_STRAP.TEST_EN [4:4], RO, Table 2-5, R46. -/
def SYS_STRAP_TEST_EN : Fld := ⟨0x110, 4, 1, 0⟩

/-- SYS_STRAP.BOARD_POS [3:2], RO, Table 2-5, R46. -/
def SYS_STRAP_BOARD_POS : Fld := ⟨0x110, 2, 2, 0⟩

/-- SYS_STRAP.PAIR_EN [1:1], RO, Table 2-5, R46. -/
def SYS_STRAP_PAIR_EN : Fld := ⟨0x110, 1, 1, 0⟩

/-- SYS_STRAP.SENIOR [0:0], RO, Table 2-5, R46. -/
def SYS_STRAP_SENIOR : Fld := ⟨0x110, 0, 1, 0⟩

/-- SYS_CLK_STATUS.DOMB_LOST [7:7], W1C, Table 2-7, R48. -/
def SYS_CLK_STATUS_DOMB_LOST : Fld := ⟨0x120, 7, 1, 0⟩

/-- SYS_CLK_STATUS.DOMA_LOST [6:6], W1C, Table 2-7, R48. -/
def SYS_CLK_STATUS_DOMA_LOST : Fld := ⟨0x120, 6, 1, 0⟩

/-- SYS_CLK_STATUS.CORE_LOST [5:5], W1C, Table 2-7, R48. -/
def SYS_CLK_STATUS_CORE_LOST : Fld := ⟨0x120, 5, 1, 0⟩

/-- SYS_CLK_STATUS.ON_OSC [4:4], RO, Table 2-7, R48. -/
def SYS_CLK_STATUS_ON_OSC : Fld := ⟨0x120, 4, 1, 0⟩

/-- SYS_CLK_STATUS.DOMB_OK [3:3], RO, Table 2-7, R48. -/
def SYS_CLK_STATUS_DOMB_OK : Fld := ⟨0x120, 3, 1, 0⟩

/-- SYS_CLK_STATUS.DOMA_OK [2:2], RO, Table 2-7, R48. -/
def SYS_CLK_STATUS_DOMA_OK : Fld := ⟨0x120, 2, 1, 0⟩

/-- SYS_CLK_STATUS.CORE_OK [1:1], RO, Table 2-7, R48. -/
def SYS_CLK_STATUS_CORE_OK : Fld := ⟨0x120, 1, 1, 0⟩

/-- SYS_CLK_LANE_OK.GROUP_OK [31:0], RO, Table 2-8, R49. -/
def SYS_CLK_LANE_OK_GROUP_OK : Fld := ⟨0x124, 0, 32, 0⟩

/-- SYS_CLK_LANE_LOST.GROUP_LOST [31:0], W1C, Table 2-9, R49. -/
def SYS_CLK_LANE_LOST_GROUP_LOST : Fld := ⟨0x128, 0, 32, 0⟩

/-- SYS_TEMP.MAX_T [31:16], RC, Table 2-17, R63. -/
def SYS_TEMP_MAX_T : Fld := ⟨0x130, 16, 16, 0x8000⟩

/-- SYS_TEMP.NOW_T [15:0], RO, Table 2-17, R63. -/
def SYS_TEMP_NOW_T : Fld := ⟨0x130, 0, 16, 0⟩

/-- SYS_SUPPLY_FLAGS.VDDIO_OUT [8:8], W1C, Table 2-18, R62. -/
def SYS_SUPPLY_FLAGS_VDDIO_OUT : Fld := ⟨0x134, 8, 1, 0⟩

/-- SYS_SUPPLY_FLAGS.VPP_HBM_OUT [7:7], W1C, Table 2-18, R62. -/
def SYS_SUPPLY_FLAGS_VPP_HBM_OUT : Fld := ⟨0x134, 7, 1, 0⟩

/-- SYS_SUPPLY_FLAGS.VDDQ_HBM_OUT [6:6], W1C, Table 2-18, R62. -/
def SYS_SUPPLY_FLAGS_VDDQ_HBM_OUT : Fld := ⟨0x134, 6, 1, 0⟩

/-- SYS_SUPPLY_FLAGS.VDD_HBM_OUT [5:5], W1C, Table 2-18, R62. -/
def SYS_SUPPLY_FLAGS_VDD_HBM_OUT : Fld := ⟨0x134, 5, 1, 0⟩

/-- SYS_SUPPLY_FLAGS.VDD_DPHY_OUT [4:4], W1C, Table 2-18, R62. -/
def SYS_SUPPLY_FLAGS_VDD_DPHY_OUT : Fld := ⟨0x134, 4, 1, 0⟩

/-- SYS_SUPPLY_FLAGS.VDD_LANE_T_OUT [3:3], W1C, Table 2-18, R62. -/
def SYS_SUPPLY_FLAGS_VDD_LANE_T_OUT : Fld := ⟨0x134, 3, 1, 0⟩

/-- SYS_SUPPLY_FLAGS.VDD_LANE_A_OUT [2:2], W1C, Table 2-18, R62. -/
def SYS_SUPPLY_FLAGS_VDD_LANE_A_OUT : Fld := ⟨0x134, 2, 1, 0⟩

/-- SYS_SUPPLY_FLAGS.VDD_SRAM_OUT [1:1], W1C, Table 2-18, R62. -/
def SYS_SUPPLY_FLAGS_VDD_SRAM_OUT : Fld := ⟨0x134, 1, 1, 0⟩

/-- SYS_SUPPLY_FLAGS.VDD_CORE_OUT [0:0], W1C, Table 2-18, R62. -/
def SYS_SUPPLY_FLAGS_VDD_CORE_OUT : Fld := ⟨0x134, 0, 1, 0⟩

/-- SYS_CTRL.WARM_RESET [0:0], WO, Table 17-13, R470. -/
def SYS_CTRL_WARM_RESET : Fld := ⟨0x140, 0, 1, 0⟩

/-- SYS_RESET_CAUSE.CAUSE [2:0], RO, Table 17-13, R472. -/
def SYS_RESET_CAUSE_CAUSE : Fld := ⟨0x144, 0, 3, 0⟩

/-- SYS_FUNC_RESET.FUNC [11:0], WO, Table 17-14, R465. -/
def SYS_FUNC_RESET_FUNC : Fld := ⟨0x150, 0, 12, 0⟩

/-- SYS_FUNC_STATUS.STATE [23:0], RO, Table 17-14, R465. -/
def SYS_FUNC_STATUS_STATE : Fld := ⟨0x154, 0, 24, 0⟩

/-- SYS_FUNC_EVT.FAILED [27:16], W1C, Table 17-14, R465. -/
def SYS_FUNC_EVT_FAILED : Fld := ⟨0x158, 16, 12, 0⟩

/-- SYS_FUNC_EVT.DONE [11:0], W1C, Table 17-14, R465. -/
def SYS_FUNC_EVT_DONE : Fld := ⟨0x158, 0, 12, 0⟩

/-- SYS_START_STATUS.READY [31:31], RO, Table 22-4, R562. -/
def SYS_START_STATUS_READY : Fld := ⟨0x160, 31, 1, 0⟩

/-- SYS_START_STATUS.FAILED [30:30], RO, Table 22-4, R562. -/
def SYS_START_STATUS_FAILED : Fld := ⟨0x160, 30, 1, 0⟩

/-- SYS_START_STATUS.LATE [29:29], W1C, Table 22-4, R562. -/
def SYS_START_STATUS_LATE : Fld := ⟨0x160, 29, 1, 0⟩

/-- SYS_START_STATUS.ELAPSED_MS [23:12], RO, Table 22-4, R562. -/
def SYS_START_STATUS_ELAPSED_MS : Fld := ⟨0x160, 12, 12, 0⟩

/-- SYS_START_STATUS.FUNCS_UP [4:4], RO, Table 22-4, R562. -/
def SYS_START_STATUS_FUNCS_UP : Fld := ⟨0x160, 4, 1, 0⟩

/-- SYS_START_STATUS.DRAM_TRAINED [3:3], RO, Table 22-4, R562. -/
def SYS_START_STATUS_DRAM_TRAINED : Fld := ⟨0x160, 3, 1, 0⟩

/-- SYS_START_STATUS.PATCH_SETTLED [2:2], RO, Table 22-4, R562. -/
def SYS_START_STATUS_PATCH_SETTLED : Fld := ⟨0x160, 2, 1, 0⟩

/-- SYS_START_STATUS.LINK_ACTIVE [1:1], RO, Table 22-4, R562. -/
def SYS_START_STATUS_LINK_ACTIVE : Fld := ⟨0x160, 1, 1, 0⟩

/-- SYS_START_STATUS.BOOT_DONE [0:0], RO, Table 22-4, R562. -/
def SYS_START_STATUS_BOOT_DONE : Fld := ⟨0x160, 0, 1, 0⟩

/-- SYS_BIST_CTRL.START [31:31], WO, Table 22-7, R568. -/
def SYS_BIST_CTRL_START : Fld := ⟨0x170, 31, 1, 0⟩

/-- SYS_BIST_CTRL.BLOCK [6:0], RW, Table 22-7, R568. -/
def SYS_BIST_CTRL_BLOCK : Fld := ⟨0x170, 0, 7, 0⟩

/-- SYS_BIST_STATUS.STATE [31:30], RO, Table 22-7, R568. -/
def SYS_BIST_STATUS_STATE : Fld := ⟨0x174, 30, 2, 0⟩

/-- SYS_BIST_STATUS.FAIL_EVT [29:29], W1C, Table 22-7, R568. -/
def SYS_BIST_STATUS_FAIL_EVT : Fld := ⟨0x174, 29, 1, 0⟩

/-- SYS_BIST_STATUS.BLOCK [25:19], RO, Table 22-7, R568. -/
def SYS_BIST_STATUS_BLOCK : Fld := ⟨0x174, 19, 7, 0⟩

/-- SYS_BIST_STATUS.BEAD [18:0], RO, Table 22-7, R568. -/
def SYS_BIST_STATUS_BEAD : Fld := ⟨0x174, 0, 19, 0⟩

/-- SYS_SCRUB_CTRL.EN [0:0], RW, Table 22-8, R567. -/
def SYS_SCRUB_CTRL_EN : Fld := ⟨0x180, 0, 1, 1⟩

/-- SYS_SCRUB_PASSES.COUNT [31:0], RO, Table 22-8, R567. -/
def SYS_SCRUB_PASSES_COUNT : Fld := ⟨0x184, 0, 32, 0⟩

/-- LANE_TX_INVERT.TX_INV [31:0], RW, Table 3-4, R77. -/
def LANE_TX_INVERT_TX_INV (i : Nat) : Fld := ⟨0x100000 + 0x8 * (i % 32), 0, 32, 0⟩

/-- LANE_RX_INVERT.RX_INV [31:0], RW, Table 3-5, R77. -/
def LANE_RX_INVERT_RX_INV (i : Nat) : Fld := ⟨0x100004 + 0x8 * (i % 32), 0, 32, 0⟩

/-- MAC_OCTET_MODE.RATE [5:4], RW, Table 3-2, R69. -/
def MAC_OCTET_MODE_RATE (i : Nat) : Fld := ⟨0x200000 + 0x4 * (i % 128), 4, 2, 0⟩

/-- MAC_OCTET_MODE.MODE [2:0], RW, Table 3-2, R69. -/
def MAC_OCTET_MODE_MODE (i : Nat) : Fld := ⟨0x200000 + 0x4 * (i % 128), 0, 3, 0⟩

/-- MAC_SA_BASE_LO.ADDR_LO [31:10], RW, Table 3-13, R94. -/
def MAC_SA_BASE_LO_ADDR_LO : Fld := ⟨0x200800, 10, 22, 0⟩

/-- MAC_SA_BASE_HI.ADDR_HI [15:0], RW, Table 3-14, R94. -/
def MAC_SA_BASE_HI_ADDR_HI : Fld := ⟨0x200804, 0, 16, 0⟩

/-- MAC_PORT_CTRL.DN_DEBOUNCE [25:16], RW, Table 3-8, R78. -/
def MAC_PORT_CTRL_DN_DEBOUNCE (i : Nat) : Fld := ⟨0x201000 + 0x20 * (i % 1024), 16, 10, 4⟩

/-- MAC_PORT_CTRL.UP_DEBOUNCE [15:12], RW, Table 3-8, R78. -/
def MAC_PORT_CTRL_UP_DEBOUNCE (i : Nat) : Fld := ⟨0x201000 + 0x20 * (i % 1024), 12, 4, 10⟩

/-- MAC_PORT_CTRL.FLOW_CTRL [9:8], RW, Table 3-8, R78. -/
def MAC_PORT_CTRL_FLOW_CTRL (i : Nat) : Fld := ⟨0x201000 + 0x20 * (i % 1024), 8, 2, 0⟩

/-- MAC_PORT_CTRL.LOOPBACK [7:6], RW, Table 3-8, R78. -/
def MAC_PORT_CTRL_LOOPBACK (i : Nat) : Fld := ⟨0x201000 + 0x20 * (i % 1024), 6, 2, 0⟩

/-- MAC_PORT_CTRL.FEC [5:4], RW, Table 3-8, R78. -/
def MAC_PORT_CTRL_FEC (i : Nat) : Fld := ⟨0x201000 + 0x20 * (i % 1024), 4, 2, 0⟩

/-- MAC_PORT_CTRL.AN_EN [3:3], RW, Table 3-8, R78. -/
def MAC_PORT_CTRL_AN_EN (i : Nat) : Fld := ⟨0x201000 + 0x20 * (i % 1024), 3, 1, 0⟩

/-- MAC_PORT_CTRL.ENABLE [0:0], RW, Table 3-8, R78. -/
def MAC_PORT_CTRL_ENABLE (i : Nat) : Fld := ⟨0x201000 + 0x20 * (i % 1024), 0, 1, 0⟩

/-- MAC_PORT_FRAME.FRAME_MAX [13:0], RW, Table 3-15, R95. -/
def MAC_PORT_FRAME_FRAME_MAX (i : Nat) : Fld := ⟨0x201004 + 0x20 * (i % 1024), 0, 14, 1522⟩

/-- MAC_PORT_PAUSE.QUANTA [31:16], RW, Table 3-12, R94. -/
def MAC_PORT_PAUSE_QUANTA (i : Nat) : Fld := ⟨0x201008 + 0x20 * (i % 1024), 16, 16, 0xFFFF⟩

/-- MAC_PORT_PAUSE.REFRESH [15:0], RW, Table 3-12, R94. -/
def MAC_PORT_PAUSE_REFRESH (i : Nat) : Fld := ⟨0x201008 + 0x20 * (i % 1024), 0, 16, 0x7FFF⟩

/-- MAC_PORT_STATUS.PFC_PAUSED [15:8], RO, Table 3-9, R82. -/
def MAC_PORT_STATUS_PFC_PAUSED (i : Nat) : Fld := ⟨0x201010 + 0x20 * (i % 1024), 8, 8, 0⟩

/-- MAC_PORT_STATUS.PAUSED [7:7], RO, Table 3-9, R82. -/
def MAC_PORT_STATUS_PAUSED (i : Nat) : Fld := ⟨0x201010 + 0x20 * (i % 1024), 7, 1, 0⟩

/-- MAC_PORT_STATUS.REMOTE_FAULT [6:6], RO, Table 3-9, R82. -/
def MAC_PORT_STATUS_REMOTE_FAULT (i : Nat) : Fld := ⟨0x201010 + 0x20 * (i % 1024), 6, 1, 0⟩

/-- MAC_PORT_STATUS.LOCAL_FAULT [5:5], RO, Table 3-9, R82. -/
def MAC_PORT_STATUS_LOCAL_FAULT (i : Nat) : Fld := ⟨0x201010 + 0x20 * (i % 1024), 5, 1, 0⟩

/-- MAC_PORT_STATUS.HI_BER [4:4], RO, Table 3-9, R82. -/
def MAC_PORT_STATUS_HI_BER (i : Nat) : Fld := ⟨0x201010 + 0x20 * (i % 1024), 4, 1, 0⟩

/-- MAC_PORT_STATUS.LINK_GOOD [3:3], RO, Table 3-9, R82. -/
def MAC_PORT_STATUS_LINK_GOOD (i : Nat) : Fld := ⟨0x201010 + 0x20 * (i % 1024), 3, 1, 0⟩

/-- MAC_PORT_STATUS.STATE [2:0], RO, Table 3-9, R82. -/
def MAC_PORT_STATUS_STATE (i : Nat) : Fld := ⟨0x201010 + 0x20 * (i % 1024), 0, 3, 0⟩

/-- MAC_PORT_EVT.FEC_UNCORR [5:5], W1C, Table 3-11, R88. -/
def MAC_PORT_EVT_FEC_UNCORR (i : Nat) : Fld := ⟨0x201014 + 0x20 * (i % 1024), 5, 1, 0⟩

/-- MAC_PORT_EVT.HI_BER [4:4], W1C, Table 3-11, R88. -/
def MAC_PORT_EVT_HI_BER (i : Nat) : Fld := ⟨0x201014 + 0x20 * (i % 1024), 4, 1, 0⟩

/-- MAC_PORT_EVT.REMOTE_FAULT [3:3], W1C, Table 3-11, R88. -/
def MAC_PORT_EVT_REMOTE_FAULT (i : Nat) : Fld := ⟨0x201014 + 0x20 * (i % 1024), 3, 1, 0⟩

/-- MAC_PORT_EVT.LOCAL_FAULT [2:2], W1C, Table 3-11, R88. -/
def MAC_PORT_EVT_LOCAL_FAULT (i : Nat) : Fld := ⟨0x201014 + 0x20 * (i % 1024), 2, 1, 0⟩

/-- MAC_PORT_EVT.LINK_DOWN [1:1], W1C, Table 3-11, R88. -/
def MAC_PORT_EVT_LINK_DOWN (i : Nat) : Fld := ⟨0x201014 + 0x20 * (i % 1024), 1, 1, 0⟩

/-- MAC_PORT_EVT.LINK_UP [0:0], W1C, Table 3-11, R88. -/
def MAC_PORT_EVT_LINK_UP (i : Nat) : Fld := ⟨0x201014 + 0x20 * (i % 1024), 0, 1, 0⟩

/-- CNT_HALF_LO.HALF [31:0], W1C, Table 17-2, R457. -/
def CNT_HALF_LO_HALF (i : Nat) : Fld := ⟨0x300000 + 0x8 * (i % 1024), 0, 32, 0⟩

/-- CNT_HALF_HI.HALF [31:0], W1C, Table 17-2, R457. -/
def CNT_HALF_HI_HALF (i : Nat) : Fld := ⟨0x300004 + 0x8 * (i % 1024), 0, 32, 0⟩

/-- TIME_DOM_CTRL.WDOG_MS [31:16], RW, Table 4-7, R114. -/
def TIME_DOM_CTRL_WDOG_MS (i : Nat) : Fld := ⟨0x400000 + 0x80 * (i % 2), 16, 16, 2000⟩

/-- TIME_DOM_CTRL.SLEW_MAX [15:8], RW, Table 4-7, R114. -/
def TIME_DOM_CTRL_SLEW_MAX (i : Nat) : Fld := ⟨0x400000 + 0x80 * (i % 2), 8, 8, 250⟩

/-- TIME_DOM_CTRL.TREF_SEL [5:4], RW, Table 4-7, R114. -/
def TIME_DOM_CTRL_TREF_SEL (i : Nat) : Fld := ⟨0x400000 + 0x80 * (i % 2), 4, 2, 2⟩

/-- TIME_DOM_CTRL.PPS_EN [2:2], RW, Table 4-7, R114. -/
def TIME_DOM_CTRL_PPS_EN (i : Nat) : Fld := ⟨0x400000 + 0x80 * (i % 2), 2, 1, 0⟩

/-- TIME_DOM_CTRL.TRACEABLE [1:1], RW, Table 4-7, R114. -/
def TIME_DOM_CTRL_TRACEABLE (i : Nat) : Fld := ⟨0x400000 + 0x80 * (i % 2), 1, 1, 0⟩

/-- TIME_DOM_CTRL.LOCKED [0:0], RW, Table 4-7, R114. -/
def TIME_DOM_CTRL_LOCKED (i : Nat) : Fld := ⟨0x400000 + 0x80 * (i % 2), 0, 1, 0⟩

/-- TIME_DOM_FREQ.FREQ_ADJ [31:0], RW, Table 4-8, R110. -/
def TIME_DOM_FREQ_FREQ_ADJ (i : Nat) : Fld := ⟨0x400004 + 0x80 * (i % 2), 0, 32, 0⟩

/-- TIME_DOM_PHASE.PHASE_ADJ [31:0], WO, Table 4-9, R111. -/
def TIME_DOM_PHASE_PHASE_ADJ (i : Nat) : Fld := ⟨0x400008 + 0x80 * (i % 2), 0, 32, 0⟩

/-- TIME_DOM_PHASE_LEFT.LEFT [31:0], RO, Table 4-9, R111. -/
def TIME_DOM_PHASE_LEFT_LEFT (i : Nat) : Fld := ⟨0x40000C + 0x80 * (i % 2), 0, 32, 0⟩

/-- TIME_DOM_STATUS.PPS_MISSING [7:7], W1C, Table 4-10, R114. -/
def TIME_DOM_STATUS_PPS_MISSING (i : Nat) : Fld := ⟨0x400010 + 0x80 * (i % 2), 7, 1, 0⟩

/-- TIME_DOM_STATUS.PPS_NEW [6:6], W1C, Table 4-10, R114. -/
def TIME_DOM_STATUS_PPS_NEW (i : Nat) : Fld := ⟨0x400010 + 0x80 * (i % 2), 6, 1, 0⟩

/-- TIME_DOM_STATUS.UNLOCK_TREF [5:5], W1C, Table 4-10, R114. -/
def TIME_DOM_STATUS_UNLOCK_TREF (i : Nat) : Fld := ⟨0x400010 + 0x80 * (i % 2), 5, 1, 0⟩

/-- TIME_DOM_STATUS.UNLOCK_WDOG [4:4], W1C, Table 4-10, R114. -/
def TIME_DOM_STATUS_UNLOCK_WDOG (i : Nat) : Fld := ⟨0x400010 + 0x80 * (i % 2), 4, 1, 0⟩

/-- TIME_DOM_STATUS.UNLOCK_HOST [3:3], W1C, Table 4-10, R114. -/
def TIME_DOM_STATUS_UNLOCK_HOST (i : Nat) : Fld := ⟨0x400010 + 0x80 * (i % 2), 3, 1, 0⟩

/-- TIME_DOM_STATUS.SLEWING [2:2], RO, Table 4-10, R114. -/
def TIME_DOM_STATUS_SLEWING (i : Nat) : Fld := ⟨0x400010 + 0x80 * (i % 2), 2, 1, 0⟩

/-- TIME_DOM_STATUS.LOCK [1:0], RO, Table 4-10, R114. -/
def TIME_DOM_STATUS_LOCK (i : Nat) : Fld := ⟨0x400010 + 0x80 * (i % 2), 0, 2, 0⟩

/-- TIME_DOM_CMD.SET_AT_PPS [1:1], WO, Table 4-11, R118. -/
def TIME_DOM_CMD_SET_AT_PPS (i : Nat) : Fld := ⟨0x400014 + 0x80 * (i % 2), 1, 1, 0⟩

/-- TIME_DOM_CMD.SET [0:0], WO, Table 4-11, R118. -/
def TIME_DOM_CMD_SET (i : Nat) : Fld := ⟨0x400014 + 0x80 * (i % 2), 0, 1, 0⟩

/-- TIME_DOM_SET_W0.FRACTION [31:16], RW, Table 4-6, R118. -/
def TIME_DOM_SET_W0_FRACTION (i : Nat) : Fld := ⟨0x400020 + 0x80 * (i % 2), 16, 16, 0⟩

/-- TIME_DOM_SET_W1.NANOSECONDS [31:0], RW, Table 4-6, R118. -/
def TIME_DOM_SET_W1_NANOSECONDS (i : Nat) : Fld := ⟨0x400024 + 0x80 * (i % 2), 0, 32, 0⟩

/-- TIME_DOM_SET_W2.SEC_LO [31:0], RW, Table 4-6, R118. -/
def TIME_DOM_SET_W2_SEC_LO (i : Nat) : Fld := ⟨0x400028 + 0x80 * (i % 2), 0, 32, 0⟩

/-- TIME_DOM_SET_W3.SEC_HI [31:0], RW, Table 4-6, R118. -/
def TIME_DOM_SET_W3_SEC_HI (i : Nat) : Fld := ⟨0x40002C + 0x80 * (i % 2), 0, 32, 0⟩

/-- TIME_DOM_NOW_W0.FRACTION [31:16], RO, Table 4-6, R126. -/
def TIME_DOM_NOW_W0_FRACTION (i : Nat) : Fld := ⟨0x400030 + 0x80 * (i % 2), 16, 16, 0⟩

/-- TIME_DOM_NOW_W0.FLAGS [15:0], RO, Table 4-6, R126. -/
def TIME_DOM_NOW_W0_FLAGS (i : Nat) : Fld := ⟨0x400030 + 0x80 * (i % 2), 0, 16, 0⟩

/-- TIME_DOM_NOW_W1.NANOSECONDS [31:0], RO, Table 4-6, R126. -/
def TIME_DOM_NOW_W1_NANOSECONDS (i : Nat) : Fld := ⟨0x400034 + 0x80 * (i % 2), 0, 32, 0⟩

/-- TIME_DOM_NOW_W2.SEC_LO [31:0], RO, Table 4-6, R126. -/
def TIME_DOM_NOW_W2_SEC_LO (i : Nat) : Fld := ⟨0x400038 + 0x80 * (i % 2), 0, 32, 0⟩

/-- TIME_DOM_NOW_W3.SEC_HI [31:0], RO, Table 4-6, R126. -/
def TIME_DOM_NOW_W3_SEC_HI (i : Nat) : Fld := ⟨0x40003C + 0x80 * (i % 2), 0, 32, 0⟩

/-- TIME_DOM_PPS_W0.FRACTION [31:16], RO, Table 4-6, R125. -/
def TIME_DOM_PPS_W0_FRACTION (i : Nat) : Fld := ⟨0x400040 + 0x80 * (i % 2), 16, 16, 0⟩

/-- TIME_DOM_PPS_W0.FLAGS [15:0], RO, Table 4-6, R125. -/
def TIME_DOM_PPS_W0_FLAGS (i : Nat) : Fld := ⟨0x400040 + 0x80 * (i % 2), 0, 16, 0⟩

/-- TIME_DOM_PPS_W1.NANOSECONDS [31:0], RO, Table 4-6, R125. -/
def TIME_DOM_PPS_W1_NANOSECONDS (i : Nat) : Fld := ⟨0x400044 + 0x80 * (i % 2), 0, 32, 0⟩

/-- TIME_DOM_PPS_W2.SEC_LO [31:0], RO, Table 4-6, R125. -/
def TIME_DOM_PPS_W2_SEC_LO (i : Nat) : Fld := ⟨0x400048 + 0x80 * (i % 2), 0, 32, 0⟩

/-- TIME_DOM_PPS_W3.SEC_HI [31:0], RO, Table 4-6, R125. -/
def TIME_DOM_PPS_W3_SEC_HI (i : Nat) : Fld := ⟨0x40004C + 0x80 * (i % 2), 0, 32, 0⟩

/-- TIME_PRES_CTRL.REVERT_S [31:16], RW, Table 4-12, R124. -/
def TIME_PRES_CTRL_REVERT_S : Fld := ⟨0x400100, 16, 16, 10⟩

/-- TIME_PRES_CTRL.SLEW_MAX [15:8], RW, Table 4-12, R124. -/
def TIME_PRES_CTRL_SLEW_MAX : Fld := ⟨0x400100, 8, 8, 250⟩

/-- TIME_PRES_CTRL.REVERT [1:1], RW, Table 4-12, R124. -/
def TIME_PRES_CTRL_REVERT : Fld := ⟨0x400100, 1, 1, 0⟩

/-- TIME_PRES_CTRL.PREFERRED [0:0], RW, Table 4-12, R124. -/
def TIME_PRES_CTRL_PREFERRED : Fld := ⟨0x400100, 0, 1, 0⟩

/-- TIME_PRES_STATUS.STEPPED [7:7], W1C, Table 4-13, R119. -/
def TIME_PRES_STATUS_STEPPED : Fld := ⟨0x400104, 7, 1, 0⟩

/-- TIME_PRES_STATUS.HOLDOVER_ENTERED [6:6], W1C, Table 4-13, R119. -/
def TIME_PRES_STATUS_HOLDOVER_ENTERED : Fld := ⟨0x400104, 6, 1, 0⟩

/-- TIME_PRES_STATUS.MOVED [5:5], W1C, Table 4-13, R119. -/
def TIME_PRES_STATUS_MOVED : Fld := ⟨0x400104, 5, 1, 0⟩

/-- TIME_PRES_STATUS.MOVING [4:4], RO, Table 4-13, R119. -/
def TIME_PRES_STATUS_MOVING : Fld := ⟨0x400104, 4, 1, 0⟩

/-- TIME_PRES_STATUS.HOLDOVER [3:3], RO, Table 4-13, R119. -/
def TIME_PRES_STATUS_HOLDOVER : Fld := ⟨0x400104, 3, 1, 0⟩

/-- TIME_PRES_STATUS.DOMAIN [2:2], RO, Table 4-13, R119. -/
def TIME_PRES_STATUS_DOMAIN : Fld := ⟨0x400104, 2, 1, 0⟩

/-- TIME_PRES_STATUS.LOCK [1:0], RO, Table 4-13, R119. -/
def TIME_PRES_STATUS_LOCK : Fld := ⟨0x400104, 0, 2, 0⟩

/-- TIME_SNAP.SNAP [0:0], WO, Table 4-13, R126. -/
def TIME_SNAP_SNAP : Fld := ⟨0x400108, 0, 1, 0⟩

/-- TIME_AB_DIFF.DIFF [31:0], RO, Table 4-13, R127. -/
def TIME_AB_DIFF_DIFF : Fld := ⟨0x40010C, 0, 32, 0⟩

/-- TIME_PRES_NOW_W0.FRACTION [31:16], RO, Table 4-6, R126. -/
def TIME_PRES_NOW_W0_FRACTION : Fld := ⟨0x400110, 16, 16, 0⟩

/-- TIME_PRES_NOW_W0.FLAGS [15:0], RO, Table 4-6, R126. -/
def TIME_PRES_NOW_W0_FLAGS : Fld := ⟨0x400110, 0, 16, 0⟩

/-- TIME_PRES_NOW_W1.NANOSECONDS [31:0], RO, Table 4-6, R126. -/
def TIME_PRES_NOW_W1_NANOSECONDS : Fld := ⟨0x400114, 0, 32, 0⟩

/-- TIME_PRES_NOW_W2.SEC_LO [31:0], RO, Table 4-6, R126. -/
def TIME_PRES_NOW_W2_SEC_LO : Fld := ⟨0x400118, 0, 32, 0⟩

/-- TIME_PRES_NOW_W3.SEC_HI [31:0], RO, Table 4-6, R126. -/
def TIME_PRES_NOW_W3_SEC_HI : Fld := ⟨0x40011C, 0, 32, 0⟩

/-- TIME_TPO_CTRL.MISSED [7:7], W1C, Table 4-14, R128. -/
def TIME_TPO_CTRL_MISSED (i : Nat) : Fld := ⟨0x400200 + 0x20 * (i % 8), 7, 1, 0⟩

/-- TIME_TPO_CTRL.RUNNING [6:6], RO, Table 4-14, R128. -/
def TIME_TPO_CTRL_RUNNING (i : Nat) : Fld := ⟨0x400200 + 0x20 * (i % 8), 6, 1, 0⟩

/-- TIME_TPO_CTRL.POLARITY [2:2], RW, Table 4-14, R128. -/
def TIME_TPO_CTRL_POLARITY (i : Nat) : Fld := ⟨0x400200 + 0x20 * (i % 8), 2, 1, 0⟩

/-- TIME_TPO_CTRL.PERIODIC [1:1], RW, Table 4-14, R128. -/
def TIME_TPO_CTRL_PERIODIC (i : Nat) : Fld := ⟨0x400200 + 0x20 * (i % 8), 1, 1, 0⟩

/-- TIME_TPO_CTRL.ENABLE [0:0], RW, Table 4-14, R128. -/
def TIME_TPO_CTRL_ENABLE (i : Nat) : Fld := ⟨0x400200 + 0x20 * (i % 8), 0, 1, 0⟩

/-- TIME_TPO_PERIOD.PERIOD [31:0], RW, Table 4-14, R129. -/
def TIME_TPO_PERIOD_PERIOD (i : Nat) : Fld := ⟨0x400204 + 0x20 * (i % 8), 0, 32, 1000000000⟩

/-- TIME_TPO_WIDTH.WIDTH [31:0], RW, Table 4-14, R129. -/
def TIME_TPO_WIDTH_WIDTH (i : Nat) : Fld := ⟨0x400208 + 0x20 * (i % 8), 0, 32, 100⟩

/-- TIME_TPO_START_W1.NANOSECONDS [31:0], RW, Table 4-6, R128. -/
def TIME_TPO_START_W1_NANOSECONDS (i : Nat) : Fld := ⟨0x400214 + 0x20 * (i % 8), 0, 32, 0⟩

/-- TIME_TPO_START_W2.SEC_LO [31:0], RW, Table 4-6, R128. -/
def TIME_TPO_START_W2_SEC_LO (i : Nat) : Fld := ⟨0x400218 + 0x20 * (i % 8), 0, 32, 0⟩

/-- TIME_TPO_START_W3.SEC_HI [31:0], RW, Table 4-6, R128. -/
def TIME_TPO_START_W3_SEC_HI (i : Nat) : Fld := ⟨0x40021C + 0x20 * (i % 8), 0, 32, 0⟩

/-- TIME_TPI_CTRL.COUNT [15:11], RO, Table 4-15, R131. -/
def TIME_TPI_CTRL_COUNT (i : Nat) : Fld := ⟨0x400300 + 0x20 * (i % 4), 11, 5, 0⟩

/-- TIME_TPI_CTRL.OVERFLOW [10:10], W1C, Table 4-15, R131. -/
def TIME_TPI_CTRL_OVERFLOW (i : Nat) : Fld := ⟨0x400300 + 0x20 * (i % 4), 10, 1, 0⟩

/-- TIME_TPI_CTRL.POP [8:8], WO, Table 4-15, R131. -/
def TIME_TPI_CTRL_POP (i : Nat) : Fld := ⟨0x400300 + 0x20 * (i % 4), 8, 1, 0⟩

/-- TIME_TPI_CTRL.SOURCE [4:3], RW, Table 4-15, R131. -/
def TIME_TPI_CTRL_SOURCE (i : Nat) : Fld := ⟨0x400300 + 0x20 * (i % 4), 3, 2, 0⟩

/-- TIME_TPI_CTRL.EDGE [2:1], RW, Table 4-15, R131. -/
def TIME_TPI_CTRL_EDGE (i : Nat) : Fld := ⟨0x400300 + 0x20 * (i % 4), 1, 2, 0⟩

/-- TIME_TPI_CTRL.ENABLE [0:0], RW, Table 4-15, R131. -/
def TIME_TPI_CTRL_ENABLE (i : Nat) : Fld := ⟨0x400300 + 0x20 * (i % 4), 0, 1, 0⟩

/-- TIME_TPI_CAPT_W0.FRACTION [31:16], RO, Table 4-6, R131. -/
def TIME_TPI_CAPT_W0_FRACTION (i : Nat) : Fld := ⟨0x400310 + 0x20 * (i % 4), 16, 16, 0⟩

/-- TIME_TPI_CAPT_W0.FLAGS [15:0], RO, Table 4-6, R131. -/
def TIME_TPI_CAPT_W0_FLAGS (i : Nat) : Fld := ⟨0x400310 + 0x20 * (i % 4), 0, 16, 0⟩

/-- TIME_TPI_CAPT_W1.NANOSECONDS [31:0], RO, Table 4-6, R131. -/
def TIME_TPI_CAPT_W1_NANOSECONDS (i : Nat) : Fld := ⟨0x400314 + 0x20 * (i % 4), 0, 32, 0⟩

/-- TIME_TPI_CAPT_W2.SEC_LO [31:0], RO, Table 4-6, R131. -/
def TIME_TPI_CAPT_W2_SEC_LO (i : Nat) : Fld := ⟨0x400318 + 0x20 * (i % 4), 0, 32, 0⟩

/-- TIME_TPI_CAPT_W3.SEC_HI [31:0], RO, Table 4-6, R131. -/
def TIME_TPI_CAPT_W3_SEC_HI (i : Nat) : Fld := ⟨0x40031C + 0x20 * (i % 4), 0, 32, 0⟩

/-- TIME_PTP_CTRL.DOMNUM_B [31:24], RW, Table 4-15, R135. -/
def TIME_PTP_CTRL_DOMNUM_B : Fld := ⟨0x400400, 24, 8, 0⟩

/-- TIME_PTP_CTRL.DOMNUM_A [23:16], RW, Table 4-15, R135. -/
def TIME_PTP_CTRL_DOMNUM_A : Fld := ⟨0x400400, 16, 8, 0⟩

/-- TIME_PTP_CTRL.BAD [15:15], W1C, Table 4-15, R135. -/
def TIME_PTP_CTRL_BAD : Fld := ⟨0x400400, 15, 1, 0⟩

/-- TIME_PTP_CTRL.DOMB_EN [3:3], RW, Table 4-15, R135. -/
def TIME_PTP_CTRL_DOMB_EN : Fld := ⟨0x400400, 3, 1, 0⟩

/-- TIME_PTP_CTRL.DOMA_EN [2:2], RW, Table 4-15, R135. -/
def TIME_PTP_CTRL_DOMA_EN : Fld := ⟨0x400400, 2, 1, 0⟩

/-- TIME_PTP_CTRL.TC_EN [0:0], RW, Table 4-15, R135. -/
def TIME_PTP_CTRL_TC_EN : Fld := ⟨0x400400, 0, 1, 0⟩

/-- TIME_PTP_BAD_CNT.BAD_CNT [31:0], RC, Table 4-15, R134. -/
def TIME_PTP_BAD_CNT_BAD_CNT : Fld := ⟨0x400404, 0, 32, 0⟩

/-- STAMP_LL_LATENCY.L [17:0], RW, Table 5-5, R166. -/
def STAMP_LL_LATENCY_L : Fld := ⟨0x500000, 0, 18, 2400⟩

/-- STAMP_LL_STATUS.LATE [1:1], W1C, Table 5-6, R164. -/
def STAMP_LL_STATUS_LATE : Fld := ⟨0x500004, 1, 1, 0⟩

/-- STAMP_LL_STATUS.SUSPENDED [0:0], RO, Table 5-6, R164. -/
def STAMP_LL_STATUS_SUSPENDED : Fld := ⟨0x500004, 0, 1, 0⟩

/-- STAMP_RET_CTRL.MARK_EN [6:6], RW, Table 5-7, R151. -/
def STAMP_RET_CTRL_MARK_EN : Fld := ⟨0x500010, 6, 1, 0⟩

/-- STAMP_RET_CTRL.RING [5:0], RW, Table 5-7, R151. -/
def STAMP_RET_CTRL_RING : Fld := ⟨0x500010, 0, 6, 0⟩

/-- STAMP_RET_STATUS.MAX_LEVEL [31:16], RC, Table 5-8, R153. -/
def STAMP_RET_STATUS_MAX_LEVEL : Fld := ⟨0x500014, 16, 16, 0⟩

/-- STAMP_RET_STATUS.LOST [15:15], W1C, Table 5-8, R153. -/
def STAMP_RET_STATUS_LOST : Fld := ⟨0x500014, 15, 1, 0⟩

/-- STAMP_RET_STATUS.LEVEL [13:0], RO, Table 5-8, R153. -/
def STAMP_RET_STATUS_LEVEL : Fld := ⟨0x500014, 0, 14, 0⟩

/-- STAMP_LOST_CNT.LOST [31:0], RC, Table 5-9, R153. -/
def STAMP_LOST_CNT_LOST : Fld := ⟨0x500018, 0, 32, 0⟩

/-- STAMP_CAL_CTRL.START [31:31], WO, Table 5-10, R147. -/
def STAMP_CAL_CTRL_START : Fld := ⟨0x500020, 31, 1, 0⟩

/-- STAMP_CAL_CTRL.PORT [9:0], RW, Table 5-10, R147. -/
def STAMP_CAL_CTRL_PORT : Fld := ⟨0x500020, 0, 10, 0⟩

/-- STAMP_CAL_RESULT.STATUS [31:30], RO, Table 5-11, R148. -/
def STAMP_CAL_RESULT_STATUS : Fld := ⟨0x500024, 30, 2, 0⟩

/-- STAMP_CAL_RESULT.LOOP_ERR [15:0], RO, Table 5-11, R148. -/
def STAMP_CAL_RESULT_LOOP_ERR : Fld := ⟨0x500024, 0, 16, 0⟩

/-- STAMP_CAL_SUGGEST.ING [31:16], RO, Table 5-11, R148. -/
def STAMP_CAL_SUGGEST_ING : Fld := ⟨0x500028, 16, 16, 0⟩

/-- STAMP_CAL_SUGGEST.EGR [15:0], RO, Table 5-11, R148. -/
def STAMP_CAL_SUGGEST_EGR : Fld := ⟨0x500028, 0, 16, 0⟩

/-- STAMP_PORT_CTRL.LL_CLASSES [31:16], RW, Table 5-12, R160. -/
def STAMP_PORT_CTRL_LL_CLASSES (i : Nat) : Fld := ⟨0x501000 + 0x10 * (i % 1024), 16, 16, 0xFFFF⟩

/-- STAMP_PORT_CTRL.LL_EN [3:3], RW, Table 5-12, R160. -/
def STAMP_PORT_CTRL_LL_EN (i : Nat) : Fld := ⟨0x501000 + 0x10 * (i % 1024), 3, 1, 0⟩

/-- STAMP_PORT_CTRL.TRAILER [1:0], RW, Table 5-12, R160. -/
def STAMP_PORT_CTRL_TRAILER (i : Nat) : Fld := ⟨0x501000 + 0x10 * (i % 1024), 0, 2, 0⟩

/-- STAMP_PORT_TRIM.ING_TRIM [31:16], RW, Table 5-12, R144. -/
def STAMP_PORT_TRIM_ING_TRIM (i : Nat) : Fld := ⟨0x501004 + 0x10 * (i % 1024), 16, 16, 0⟩

/-- STAMP_PORT_TRIM.EGR_TRIM [15:0], RW, Table 5-12, R144. -/
def STAMP_PORT_TRIM_EGR_TRIM (i : Nat) : Fld := ⟨0x501004 + 0x10 * (i % 1024), 0, 16, 0⟩

/-- STAMP_PORT_STATUS.DESKEW [31:16], RO, Table 5-13, R150. -/
def STAMP_PORT_STATUS_DESKEW (i : Nat) : Fld := ⟨0x501008 + 0x10 * (i % 1024), 16, 16, 0⟩

/-- STAMP_PORT_STATUS.CAL_VALID [0:0], RO, Table 5-13, R150. -/
def STAMP_PORT_STATUS_CAL_VALID (i : Nat) : Fld := ⟨0x501008 + 0x10 * (i % 1024), 0, 1, 0⟩

/-- TALLY_CTRL.SVC_LEVEL [11:8], RW, Table 6-10, R190. -/
def TALLY_CTRL_SVC_LEVEL : Fld := ⟨0x600000, 8, 4, 8⟩

/-- TALLY_CTRL.ENABLE [0:0], RW, Table 6-10, R190. -/
def TALLY_CTRL_ENABLE : Fld := ⟨0x600000, 0, 1, 0⟩

/-- TALLY_CLASS.DROP_IF_FULL [31:16], RW, Table 6-10, R173. -/
def TALLY_CLASS_DROP_IF_FULL : Fld := ⟨0x600004, 16, 16, 0⟩

/-- TALLY_CLASS.RECORD [15:0], RW, Table 6-10, R173. -/
def TALLY_CLASS_RECORD : Fld := ⟨0x600004, 0, 16, 0⟩

/-- TALLY_SPAN.SPAN [7:0], RW, Table 6-10, R177. -/
def TALLY_SPAN_SPAN : Fld := ⟨0x600008, 0, 8, 64⟩

/-- TALLY_SEAL_PERIOD.PERIOD_US [16:0], RW, Table 6-11, R189. -/
def TALLY_SEAL_PERIOD_PERIOD_US : Fld := ⟨0x60000C, 0, 17, 1000⟩

/-- TALLY_RING_SIZE.UNITS [10:0], RW, Table 6-11, R187. -/
def TALLY_RING_SIZE_UNITS : Fld := ⟨0x600010, 0, 11, 16⟩

/-- TALLY_STATUS.SERVICE [6:6], RO, Table 6-12, R188. -/
def TALLY_STATUS_SERVICE : Fld := ⟨0x600014, 6, 1, 0⟩

/-- TALLY_STATUS.LOSS [5:5], W1C, Table 6-12, R188. -/
def TALLY_STATUS_LOSS : Fld := ⟨0x600014, 5, 1, 0⟩

/-- TALLY_STATUS.POISON [4:4], W1C, Table 6-12, R188. -/
def TALLY_STATUS_POISON : Fld := ⟨0x600014, 4, 1, 0⟩

/-- TALLY_STATUS.UNSIGNED [3:3], W1C, Table 6-12, R188. -/
def TALLY_STATUS_UNSIGNED : Fld := ⟨0x600014, 3, 1, 0⟩

/-- TALLY_STATUS.SEAL_DROP [2:2], W1C, Table 6-12, R188. -/
def TALLY_STATUS_SEAL_DROP : Fld := ⟨0x600014, 2, 1, 0⟩

/-- TALLY_STATUS.RECORD_DROP [1:1], W1C, Table 6-12, R188. -/
def TALLY_STATUS_RECORD_DROP : Fld := ⟨0x600014, 1, 1, 0⟩

/-- TALLY_RING_LEVEL.LEVEL [31:0], RO, Table 6-12, R187. -/
def TALLY_RING_LEVEL_LEVEL : Fld := ⟨0x600018, 0, 32, 0⟩

/-- TALLY_LOST_CNT.LOST [31:0], RC, Table 6-12, R181. -/
def TALLY_LOST_CNT_LOST : Fld := ⟨0x60001C, 0, 32, 0⟩

/-- TALLY_SEAL_INDEX_LO.INDEX [31:0], RO, Table 6-13, R189. -/
def TALLY_SEAL_INDEX_LO_INDEX : Fld := ⟨0x600020, 0, 32, 0⟩

/-- TALLY_SEAL_INDEX_HI.INDEX [31:0], RO, Table 6-13, R189. -/
def TALLY_SEAL_INDEX_HI_INDEX : Fld := ⟨0x600024, 0, 32, 0⟩

/-- TALLY_MRAM_RETIRED.RETIRED [13:0], RO, Table 6-12, R195. -/
def TALLY_MRAM_RETIRED_RETIRED : Fld := ⟨0x600028, 0, 14, 0⟩

/-- TALLY_GM_A_LO.GM_ID [31:0], RW, Table 6-13, R191. -/
def TALLY_GM_A_LO_GM_ID : Fld := ⟨0x600030, 0, 32, 0⟩

/-- TALLY_GM_A_HI.GM_ID [31:0], RW, Table 6-13, R191. -/
def TALLY_GM_A_HI_GM_ID : Fld := ⟨0x600034, 0, 32, 0⟩

/-- TALLY_GM_B_LO.GM_ID [31:0], RW, Table 6-13, R191. -/
def TALLY_GM_B_LO_GM_ID : Fld := ⟨0x600038, 0, 32, 0⟩

/-- TALLY_GM_B_HI.GM_ID [31:0], RW, Table 6-13, R191. -/
def TALLY_GM_B_HI_GM_ID : Fld := ⟨0x60003C, 0, 32, 0⟩

/-- PARSE_STATUS.TRUNC [3:3], W1C, Table 7-13, R203. -/
def PARSE_STATUS_TRUNC : Fld := ⟨0x700000, 3, 1, 0⟩

/-- PARSE_STATUS.PARITY [2:2], W1C, Table 7-13, R203. -/
def PARSE_STATUS_PARITY : Fld := ⟨0x700000, 2, 1, 0⟩

/-- PARSE_STATUS.DEMOTED [1:1], W1C, Table 7-13, R203. -/
def PARSE_STATUS_DEMOTED : Fld := ⟨0x700000, 1, 1, 0⟩

/-- PARSE_STATUS.CARRY_FULL [0:0], W1C, Table 7-13, R203. -/
def PARSE_STATUS_CARRY_FULL : Fld := ⟨0x700000, 0, 1, 0⟩

/-- PARSE_PARITY_LOC.VERSION [17:16], RO, Table 7-13, R219. -/
def PARSE_PARITY_LOC_VERSION : Fld := ⟨0x700004, 16, 2, 0⟩

/-- PARSE_PARITY_LOC.RULE_NUM [14:0], RO, Table 7-13, R219. -/
def PARSE_PARITY_LOC_RULE_NUM : Fld := ⟨0x700004, 0, 15, 0⟩

/-- PARSE_CARRY_CNT.COUNT [31:0], RC, Table 7-13, R215. -/
def PARSE_CARRY_CNT_COUNT : Fld := ⟨0x700010, 0, 32, 0⟩

/-- PARSE_CARRY_FULL_CNT.COUNT [31:0], RC, Table 7-13, R217. -/
def PARSE_CARRY_FULL_CNT_COUNT : Fld := ⟨0x700014, 0, 32, 0⟩

/-- PARSE_DEMOTED_CNT.COUNT [31:0], RC, Table 7-13, R216. -/
def PARSE_DEMOTED_CNT_COUNT : Fld := ⟨0x700018, 0, 32, 0⟩

/-- PARSE_NOMATCH_CNT.COUNT [31:0], RC, Table 7-13, R218. -/
def PARSE_NOMATCH_CNT_COUNT : Fld := ⟨0x70001C, 0, 32, 0⟩

/-- PARSE_TRUNC_CNT.COUNT [31:0], RC, Table 7-13, R203. -/
def PARSE_TRUNC_CNT_COUNT : Fld := ⟨0x700020, 0, 32, 0⟩

/-- PARSE_PORT_CFG.DEF_FWD [23:22], RW, Table 7-10, R218. -/
def PARSE_PORT_CFG_DEF_FWD (i : Nat) : Fld := ⟨0x701000 + 0x10 * (i % 1024), 22, 2, 0⟩

/-- PARSE_PORT_CFG.DEF_COLOUR [21:20], RW, Table 7-10, R218. -/
def PARSE_PORT_CFG_DEF_COLOUR (i : Nat) : Fld := ⟨0x701000 + 0x10 * (i % 1024), 20, 2, 0⟩

/-- PARSE_PORT_CFG.DEF_QUEUE [19:16], RW, Table 7-10, R218. -/
def PARSE_PORT_CFG_DEF_QUEUE (i : Nat) : Fld := ⟨0x701000 + 0x10 * (i % 1024), 16, 4, 0⟩

/-- PARSE_PORT_CFG.DEF_CLASS [15:12], RW, Table 7-10, R218. -/
def PARSE_PORT_CFG_DEF_CLASS (i : Nat) : Fld := ⟨0x701000 + 0x10 * (i % 1024), 12, 4, 0⟩

/-- PARSE_PORT_CFG.PROFILE [5:0], RW, Table 7-10, R218. -/
def PARSE_PORT_CFG_PROFILE (i : Nat) : Fld := ⟨0x701000 + 0x10 * (i % 1024), 0, 6, 0⟩

/-- PARSE_PROF_CTRL.DRAINED [17:17], RO, Table 7-11, R208. -/
def PARSE_PROF_CTRL_DRAINED (i : Nat) : Fld := ⟨0x708000 + 0x80 * (i % 64), 17, 1, 1⟩

/-- PARSE_PROF_CTRL.VALID [16:16], RW, Table 7-11, R208. -/
def PARSE_PROF_CTRL_VALID (i : Nat) : Fld := ⟨0x708000 + 0x80 * (i % 64), 16, 1, (if (i % 64) = 0 then 1 else 0)⟩

/-- PARSE_PROF_CTRL.KEY_BYTES [13:8], RO, Table 7-11, R208. -/
def PARSE_PROF_CTRL_KEY_BYTES (i : Nat) : Fld := ⟨0x708000 + 0x80 * (i % 64), 8, 6, 0⟩

/-- PARSE_PROF_CTRL.RANGE_EN [3:0], RW, Table 7-11, R208. -/
def PARSE_PROF_CTRL_RANGE_EN (i : Nat) : Fld := ⟨0x708000 + 0x80 * (i % 64), 0, 4, 0⟩

/-- PARSE_PROF_EXT.LEN [15:12], RW, Table 7-12, R205. -/
def PARSE_PROF_EXT_LEN (i j : Nat) : Fld := ⟨0x708010 + 0x80 * (i % 64) + 4 * (j % 16), 12, 4, 0⟩

/-- PARSE_PROF_EXT.ANCHOR [11:8], RW, Table 7-12, R205. -/
def PARSE_PROF_EXT_ANCHOR (i j : Nat) : Fld := ⟨0x708010 + 0x80 * (i % 64) + 4 * (j % 16), 8, 4, 0⟩

/-- PARSE_PROF_EXT.OFFSET [7:0], RW, Table 7-12, R205. -/
def PARSE_PROF_EXT_OFFSET (i j : Nat) : Fld := ⟨0x708010 + 0x80 * (i % 64) + 4 * (j % 16), 0, 8, 0⟩

/-- PARSE_PROF_RANGE.ANCHOR [11:8], RW, Table 7-12, R205. -/
def PARSE_PROF_RANGE_ANCHOR (i j : Nat) : Fld := ⟨0x708050 + 0x80 * (i % 64) + 4 * (j % 4), 8, 4, 0⟩

/-- PARSE_PROF_RANGE.OFFSET [7:0], RW, Table 7-12, R205. -/
def PARSE_PROF_RANGE_OFFSET (i j : Nat) : Fld := ⟨0x708050 + 0x80 * (i % 64) + 4 * (j % 4), 0, 8, 0⟩

/-- RULE_STATUS.CURRENT [9:8], RO, Table 8-4, R239. -/
def RULE_STATUS_CURRENT : Fld := ⟨0x800000, 8, 2, 0⟩

/-- RULE_STATUS.DRAIN_STUCK [0:0], W1C, Table 8-4, R239. -/
def RULE_STATUS_DRAIN_STUCK : Fld := ⟨0x800000, 0, 1, 0⟩

/-- RULE_VER_STATE.STATE [31:30], RO, Table 8-5, R222. -/
def RULE_VER_STATE_STATE (i : Nat) : Fld := ⟨0x800010 + 0x4 * (i % 4), 30, 2, (if (i % 4) = 0 then 1 else 0)⟩

/-- RULE_VER_STATE.INFLIGHT [12:0], RO, Table 8-5, R222. -/
def RULE_VER_STATE_INFLIGHT (i : Nat) : Fld := ⟨0x800010 + 0x4 * (i % 4), 0, 13, 0⟩

/-- RULE_VER_NUM.NUM [31:0], RO, Table 8-6, R241. -/
def RULE_VER_NUM_NUM (i : Nat) : Fld := ⟨0x800020 + 0x4 * (i % 4), 0, 32, 0⟩

/-- RULE_STORE_USED.USED [16:0], RO, Table 8-7, R225. -/
def RULE_STORE_USED_USED : Fld := ⟨0x800030, 0, 17, 0⟩

/-- RULE_STAGE_STATUS.CHANGES [15:0], RO, Table 8-7, R224. -/
def RULE_STAGE_STATUS_CHANGES : Fld := ⟨0x800034, 0, 16, 0⟩

/-- FDB_CTRL.MOVE_LIMIT [19:16], RW, Table 9-7, R253. -/
def FDB_CTRL_MOVE_LIMIT : Fld := ⟨0x900000, 16, 4, 4⟩

/-- FDB_CTRL.MOVE_WINDOW [15:8], RW, Table 9-7, R253. -/
def FDB_CTRL_MOVE_WINDOW : Fld := ⟨0x900000, 8, 8, 10⟩

/-- FDB_CTRL.LEARN_HOLD [3:0], RW, Table 9-7, R253. -/
def FDB_CTRL_LEARN_HOLD : Fld := ⟨0x900000, 0, 4, 1⟩

/-- FDB_STATUS.LEARN_DROP [5:5], W1C, Table 9-9, R277. -/
def FDB_STATUS_LEARN_DROP : Fld := ⟨0x900004, 5, 1, 0⟩

/-- FDB_STATUS.PARITY [4:4], W1C, Table 9-9, R277. -/
def FDB_STATUS_PARITY : Fld := ⟨0x900004, 4, 1, 0⟩

/-- FDB_STATUS.CONFLICT [3:3], W1C, Table 9-9, R277. -/
def FDB_STATUS_CONFLICT : Fld := ⟨0x900004, 3, 1, 0⟩

/-- FDB_STATUS.FULL [2:2], W1C, Table 9-9, R277. -/
def FDB_STATUS_FULL : Fld := ⟨0x900004, 2, 1, 0⟩

/-- FDB_STATUS.PINNED [1:1], W1C, Table 9-9, R277. -/
def FDB_STATUS_PINNED : Fld := ⟨0x900004, 1, 1, 0⟩

/-- FDB_STATUS.MOVE [0:0], W1C, Table 9-9, R277. -/
def FDB_STATUS_MOVE : Fld := ⟨0x900004, 0, 1, 0⟩

/-- FDB_USED.USED [19:0], RO, Table 9-9, R246. -/
def FDB_USED_USED : Fld := ⟨0x900008, 0, 20, 0⟩

/-- FDB_MOVE_LAST_LO.MAC_LO [31:0], RO, Table 9-10, R257. -/
def FDB_MOVE_LAST_LO_MAC_LO : Fld := ⟨0x900010, 0, 32, 0⟩

/-- FDB_MOVE_LAST_HI.VLAN [27:16], RO, Table 9-10, R257. -/
def FDB_MOVE_LAST_HI_VLAN : Fld := ⟨0x900014, 16, 12, 0⟩

/-- FDB_MOVE_LAST_HI.MAC_HI [15:0], RO, Table 9-10, R257. -/
def FDB_MOVE_LAST_HI_MAC_HI : Fld := ⟨0x900014, 0, 16, 0⟩

/-- FDB_MOVE_LAST_PORTS.PIN [31:31], RO, Table 9-10, R257. -/
def FDB_MOVE_LAST_PORTS_PIN : Fld := ⟨0x900018, 31, 1, 0⟩

/-- FDB_MOVE_LAST_PORTS.OLD_PORT [25:16], RO, Table 9-10, R257. -/
def FDB_MOVE_LAST_PORTS_OLD_PORT : Fld := ⟨0x900018, 16, 10, 0⟩

/-- FDB_MOVE_LAST_PORTS.NEW_PORT [9:0], RO, Table 9-10, R257. -/
def FDB_MOVE_LAST_PORTS_NEW_PORT : Fld := ⟨0x900018, 0, 10, 0⟩

/-- FDB_PARITY_LOC.BANK [19:16], RO, Table 9-9, R275. -/
def FDB_PARITY_LOC_BANK : Fld := ⟨0x90001C, 16, 4, 0⟩

/-- FDB_PARITY_LOC.BUCKET [14:3], RO, Table 9-9, R275. -/
def FDB_PARITY_LOC_BUCKET : Fld := ⟨0x90001C, 3, 12, 0⟩

/-- FDB_PARITY_LOC.SLOT [2:0], RO, Table 9-9, R275. -/
def FDB_PARITY_LOC_SLOT : Fld := ⟨0x90001C, 0, 3, 0⟩

/-- FDB_LEARN_CNT.COUNT [31:0], RC, Table 9-10, R256. -/
def FDB_LEARN_CNT_COUNT : Fld := ⟨0x900020, 0, 32, 0⟩

/-- FDB_MOVE_CNT.COUNT [31:0], RC, Table 9-10, R257. -/
def FDB_MOVE_CNT_COUNT : Fld := ⟨0x900024, 0, 32, 0⟩

/-- FDB_LEARN_DROP_CNT.COUNT [31:0], RC, Table 9-10, R253. -/
def FDB_LEARN_DROP_CNT_COUNT : Fld := ⟨0x900028, 0, 32, 0⟩

/-- FDB_LEARN_FULL_CNT.COUNT [31:0], RC, Table 9-10, R256. -/
def FDB_LEARN_FULL_CNT_COUNT : Fld := ⟨0x90002C, 0, 32, 0⟩

/-- FDB_MOVE_REFUSED_CNT.COUNT [31:0], RC, Table 9-10, R256. -/
def FDB_MOVE_REFUSED_CNT_COUNT : Fld := ⟨0x900030, 0, 32, 0⟩

/-- FDB_PARITY_CNT.COUNT [31:0], RC, Table 9-10, R275. -/
def FDB_PARITY_CNT_COUNT : Fld := ⟨0x900034, 0, 32, 0⟩

/-- FDB_PORT_CFG.MISS_GROUP [31:16], RW, Table 9-8, R250. -/
def FDB_PORT_CFG_MISS_GROUP (i : Nat) : Fld := ⟨0x901000 + 0x10 * (i % 1024), 16, 16, 0⟩

/-- FDB_PORT_CFG.MISS_ACT [15:14], RW, Table 9-8, R250. -/
def FDB_PORT_CFG_MISS_ACT (i : Nat) : Fld := ⟨0x901000 + 0x10 * (i % 1024), 14, 2, 0⟩

/-- FDB_PORT_CFG.HAIRPIN [13:13], RW, Table 9-8, R250. -/
def FDB_PORT_CFG_HAIRPIN (i : Nat) : Fld := ⟨0x901000 + 0x10 * (i % 1024), 13, 1, 0⟩

/-- FDB_PORT_CFG.LEARN [12:12], RW, Table 9-8, R250. -/
def FDB_PORT_CFG_LEARN (i : Nat) : Fld := ⟨0x901000 + 0x10 * (i % 1024), 12, 1, 0⟩

/-- FDB_PORT_CFG.PVID [11:0], RW, Table 9-8, R250. -/
def FDB_PORT_CFG_PVID (i : Nat) : Fld := ⟨0x901000 + 0x10 * (i % 1024), 0, 12, 1⟩

/-- LPM_CTRL.V6_MISS [3:2], RW, Table 9-11, R269. -/
def LPM_CTRL_V6_MISS : Fld := ⟨0xA00000, 2, 2, 0⟩

/-- LPM_CTRL.V4_MISS [1:0], RW, Table 9-11, R269. -/
def LPM_CTRL_V4_MISS : Fld := ⟨0xA00000, 0, 2, 0⟩

/-- LPM_STATUS.PARITY [1:1], W1C, Table 9-11, R277. -/
def LPM_STATUS_PARITY : Fld := ⟨0xA00004, 1, 1, 0⟩

/-- LPM_STATUS.FULL [0:0], W1C, Table 9-11, R277. -/
def LPM_STATUS_FULL : Fld := ⟨0xA00004, 0, 1, 0⟩

/-- LPM_USED.USED [17:0], RO, Table 9-11, R276. -/
def LPM_USED_USED : Fld := ⟨0xA00008, 0, 18, 0⟩

/-- LPM_V4_COUNT.COUNT [17:0], RO, Table 9-11, R276. -/
def LPM_V4_COUNT_COUNT : Fld := ⟨0xA0000C, 0, 18, 0⟩

/-- LPM_V6_COUNT.COUNT [16:0], RO, Table 9-11, R276. -/
def LPM_V6_COUNT_COUNT : Fld := ⟨0xA00010, 0, 17, 0⟩

/-- LPM_PARITY_LOC.ROW [16:0], RO, Table 9-11, R275. -/
def LPM_PARITY_LOC_ROW : Fld := ⟨0xA00014, 0, 17, 0⟩

/-- LPM_PARITY_CNT.COUNT [31:0], RC, Table 9-11, R275. -/
def LPM_PARITY_CNT_COUNT : Fld := ⟨0xA00018, 0, 32, 0⟩

/-- FLOW_STATUS.POISON [2:2], W1C, Table 10-5, R295. -/
def FLOW_STATUS_POISON : Fld := ⟨0xB00000, 2, 1, 0⟩

/-- FLOW_STATUS.FULL [1:1], W1C, Table 10-5, R295. -/
def FLOW_STATUS_FULL : Fld := ⟨0xB00000, 1, 1, 0⟩

/-- FLOW_STATUS.BYPASS [0:0], W1C, Table 10-5, R295. -/
def FLOW_STATUS_BYPASS : Fld := ⟨0xB00000, 0, 1, 0⟩

/-- FLOW_USED.USED [21:0], RO, Table 10-5, R294. -/
def FLOW_USED_USED : Fld := ⟨0xB00004, 0, 22, 0⟩

/-- FLOW_POISON_LOC.KEY [31:31], RO, Table 10-5, R291. -/
def FLOW_POISON_LOC_KEY : Fld := ⟨0xB00008, 31, 1, 0⟩

/-- FLOW_POISON_LOC.INDEX [20:0], RO, Table 10-5, R291. -/
def FLOW_POISON_LOC_INDEX : Fld := ⟨0xB00008, 0, 21, 0⟩

/-- FLOW_HIT_CNT.COUNT [31:0], RC, Table 10-6, R279. -/
def FLOW_HIT_CNT_COUNT : Fld := ⟨0xB00010, 0, 32, 0⟩

/-- FLOW_MISS_CNT.COUNT [31:0], RC, Table 10-6, R279. -/
def FLOW_MISS_CNT_COUNT : Fld := ⟨0xB00014, 0, 32, 0⟩

/-- FLOW_ABSENT_CNT.COUNT [31:0], RC, Table 10-6, R279. -/
def FLOW_ABSENT_CNT_COUNT : Fld := ⟨0xB00018, 0, 32, 0⟩

/-- FLOW_BYPASS_CNT.COUNT [31:0], RC, Table 10-6, R280. -/
def FLOW_BYPASS_CNT_COUNT : Fld := ⟨0xB0001C, 0, 32, 0⟩

/-- FLOW_STALE_CNT.COUNT [31:0], RC, Table 10-6, R290. -/
def FLOW_STALE_CNT_COUNT : Fld := ⟨0xB00020, 0, 32, 0⟩

/-- BUF_CLASS_CFG.SPILL [5:5], RW, Table 11-3, R300. -/
def BUF_CLASS_CFG_SPILL (i : Nat) : Fld := ⟨0xC00000 + 0x4 * (i % 16), 5, 1, 0⟩

/-- BUF_CLASS_CFG.LOSSLESS [4:4], RW, Table 11-3, R300. -/
def BUF_CLASS_CFG_LOSSLESS (i : Nat) : Fld := ⟨0xC00000 + 0x4 * (i % 16), 4, 1, 0⟩

/-- BUF_CLASS_CFG.POOL [3:0], RW, Table 11-3, R300. -/
def BUF_CLASS_CFG_POOL (i : Nat) : Fld := ⟨0xC00000 + 0x4 * (i % 16), 0, 4, 0⟩

/-- BUF_POOL_SIZE.SIZE [18:0], RW, Table 11-4, R296. -/
def BUF_POOL_SIZE_SIZE (i : Nat) : Fld := ⟨0xC00100 + 0x20 * (i % 16), 0, 19, (if (i % 16) = 0 then 499712 else 0)⟩

/-- BUF_POOL_CFG.PFC_PRI [14:12], RW, Table 11-4, R301. -/
def BUF_POOL_CFG_PFC_PRI (i : Nat) : Fld := ⟨0xC00104 + 0x20 * (i % 16), 12, 3, 0⟩

/-- BUF_POOL_CFG.MIN [7:0], RW, Table 11-4, R301. -/
def BUF_POOL_CFG_MIN (i : Nat) : Fld := ⟨0xC00104 + 0x20 * (i % 16), 0, 8, 0⟩

/-- BUF_POOL_XOFF.XOFF [18:0], RW, Table 11-5, R306. -/
def BUF_POOL_XOFF_XOFF (i : Nat) : Fld := ⟨0xC00108 + 0x20 * (i % 16), 0, 19, 0⟩

/-- BUF_POOL_XON.XON [18:0], RW, Table 11-5, R306. -/
def BUF_POOL_XON_XON (i : Nat) : Fld := ⟨0xC0010C + 0x20 * (i % 16), 0, 19, 0⟩

/-- BUF_POOL_YELLOW.YELLOW_DROP [18:0], RW, Table 11-5, R303. -/
def BUF_POOL_YELLOW_YELLOW_DROP (i : Nat) : Fld := ⟨0xC00110 + 0x20 * (i % 16), 0, 19, 0⟩

/-- BUF_POOL_RED.RED_DROP [18:0], RW, Table 11-5, R303. -/
def BUF_POOL_RED_RED_DROP (i : Nat) : Fld := ⟨0xC00114 + 0x20 * (i % 16), 0, 19, 0⟩

/-- BUF_POOL_USED.USED [18:0], RO, Table 11-5, R301. -/
def BUF_POOL_USED_USED (i : Nat) : Fld := ⟨0xC00118 + 0x20 * (i % 16), 0, 19, 0⟩

/-- BUF_POOL_SHARED.SHARED [18:0], RO, Table 11-5, R302. -/
def BUF_POOL_SHARED_SHARED (i : Nat) : Fld := ⟨0xC0011C + 0x20 * (i % 16), 0, 19, 0⟩

/-- BUF_STATUS.SPILL_POISON [8:8], W1C, Table 11-6, R327. -/
def BUF_STATUS_SPILL_POISON : Fld := ⟨0xC00400, 8, 1, 0⟩

/-- BUF_STATUS.SPILL_FULL [7:7], W1C, Table 11-6, R327. -/
def BUF_STATUS_SPILL_FULL : Fld := ⟨0xC00400, 7, 1, 0⟩

/-- BUF_STATUS.BAD_FREE [6:6], W1C, Table 11-6, R327. -/
def BUF_STATUS_BAD_FREE : Fld := ⟨0xC00400, 6, 1, 0⟩

/-- BUF_STATUS.REF_LIMIT [5:5], W1C, Table 11-6, R327. -/
def BUF_STATUS_REF_LIMIT : Fld := ⟨0xC00400, 5, 1, 0⟩

/-- BUF_STATUS.LANDING [4:4], W1C, Table 11-6, R327. -/
def BUF_STATUS_LANDING : Fld := ⟨0xC00400, 4, 1, 0⟩

/-- BUF_STATUS.HEADROOM [3:3], W1C, Table 11-6, R327. -/
def BUF_STATUS_HEADROOM : Fld := ⟨0xC00400, 3, 1, 0⟩

/-- BUF_STATUS.DROP [2:2], W1C, Table 11-6, R327. -/
def BUF_STATUS_DROP : Fld := ⟨0xC00400, 2, 1, 0⟩

/-- BUF_STATUS.XOFF [1:1], RO, Table 11-6, R327. -/
def BUF_STATUS_XOFF : Fld := ⟨0xC00400, 1, 1, 0⟩

/-- BUF_XOFF_POOLS.POOLS [15:0], RO, Table 11-6, R306. -/
def BUF_XOFF_POOLS_POOLS : Fld := ⟨0xC00404, 0, 16, 0⟩

/-- BUF_LANDING.MAX [30:16], RC, Table 11-7, R298. -/
def BUF_LANDING_MAX : Fld := ⟨0xC00408, 16, 15, 0⟩

/-- BUF_LANDING.NOW [14:0], RO, Table 11-7, R298. -/
def BUF_LANDING_NOW : Fld := ⟨0xC00408, 0, 15, 0⟩

/-- BUF_WITHDRAWN.NEXT [14:8], RO, Table 11-7, R316. -/
def BUF_WITHDRAWN_NEXT : Fld := ⟨0xC0040C, 8, 7, 0⟩

/-- BUF_WITHDRAWN.COUNT [3:0], RO, Table 11-7, R316. -/
def BUF_WITHDRAWN_COUNT : Fld := ⟨0xC0040C, 0, 4, 0⟩

/-- BUF_BAD_FREE_LOC.KIND [31:31], RO, Table 11-7, R315. -/
def BUF_BAD_FREE_LOC_KIND : Fld := ⟨0xC00410, 31, 1, 0⟩

/-- BUF_BAD_FREE_LOC.AGENT [30:19], RO, Table 11-7, R315. -/
def BUF_BAD_FREE_LOC_AGENT : Fld := ⟨0xC00410, 19, 12, 0⟩

/-- BUF_BAD_FREE_LOC.BEAD [18:0], RO, Table 11-7, R315. -/
def BUF_BAD_FREE_LOC_BEAD : Fld := ⟨0xC00410, 0, 19, 0⟩

/-- BUF_DROP_CNT.COUNT [31:0], RC, Table 11-8, R303. -/
def BUF_DROP_CNT_COUNT : Fld := ⟨0xC00420, 0, 32, 0⟩

/-- BUF_HEADROOM_CNT.COUNT [31:0], RC, Table 11-8, R305. -/
def BUF_HEADROOM_CNT_COUNT : Fld := ⟨0xC00424, 0, 32, 0⟩

/-- BUF_LANDING_DROP_CNT.COUNT [31:0], RC, Table 11-8, R299. -/
def BUF_LANDING_DROP_CNT_COUNT : Fld := ⟨0xC00428, 0, 32, 0⟩

/-- BUF_REF_LIMIT_CNT.COUNT [31:0], RC, Table 11-8, R313. -/
def BUF_REF_LIMIT_CNT_COUNT : Fld := ⟨0xC0042C, 0, 32, 0⟩

/-- BUF_BAD_FREE_CNT.COUNT [31:0], RC, Table 11-8, R315. -/
def BUF_BAD_FREE_CNT_COUNT : Fld := ⟨0xC00430, 0, 32, 0⟩

/-- BUF_SPILL_FULL_CNT.COUNT [31:0], RC, Table 11-8, R323. -/
def BUF_SPILL_FULL_CNT_COUNT : Fld := ⟨0xC00434, 0, 32, 0⟩

/-- BUF_SPILL_CTRL.ENABLE [24:24], RW, Table 11-8, R320. -/
def BUF_SPILL_CTRL_ENABLE : Fld := ⟨0xC00500, 24, 1, 0⟩

/-- BUF_SPILL_CTRL.RETURN_US [23:16], RW, Table 11-8, R320. -/
def BUF_SPILL_CTRL_RETURN_US : Fld := ⟨0xC00500, 16, 8, 10⟩

/-- BUF_SPILL_CTRL.ON_US [15:8], RW, Table 11-8, R320. -/
def BUF_SPILL_CTRL_ON_US : Fld := ⟨0xC00500, 8, 8, 50⟩

/-- BUF_SPILL_CTRL.SIZE_GIB [5:0], RW, Table 11-8, R320. -/
def BUF_SPILL_CTRL_SIZE_GIB : Fld := ⟨0xC00500, 0, 6, 0⟩

/-- BUF_SPILL_USED.USED [27:0], RO, Table 11-8, R323. -/
def BUF_SPILL_USED_USED : Fld := ⟨0xC00504, 0, 28, 0⟩

/-- QUE_CTRL.STUCK_MS [31:16], RW, Table 12-5, R348. -/
def QUE_CTRL_STUCK_MS : Fld := ⟨0xD00000, 16, 16, 100⟩

/-- QUE_CTRL.HOLD_DOWN_US [7:0], RW, Table 12-5, R348. -/
def QUE_CTRL_HOLD_DOWN_US : Fld := ⟨0xD00000, 0, 8, 50⟩

/-- QUE_STATUS.COPY_FULL [3:3], W1C, Table 12-6, R352. -/
def QUE_STATUS_COPY_FULL : Fld := ⟨0xD00004, 3, 1, 0⟩

/-- QUE_STATUS.TAIL_DROP [2:2], W1C, Table 12-6, R352. -/
def QUE_STATUS_TAIL_DROP : Fld := ⟨0xD00004, 2, 1, 0⟩

/-- QUE_STATUS.STUCK [1:1], W1C, Table 12-6, R352. -/
def QUE_STATUS_STUCK : Fld := ⟨0xD00004, 1, 1, 0⟩

/-- QUE_STUCK_LOC.QUEUE [13:0], RO, Table 12-6, R350. -/
def QUE_STUCK_LOC_QUEUE : Fld := ⟨0xD00008, 0, 14, 0⟩

/-- QUE_COPIES.USED [20:0], RO, Table 12-6, R329. -/
def QUE_COPIES_USED : Fld := ⟨0xD0000C, 0, 21, 0⟩

/-- QUE_TAIL_DROP_CNT.COUNT [31:0], RC, Table 12-7, R331. -/
def QUE_TAIL_DROP_CNT_COUNT : Fld := ⟨0xD00020, 0, 32, 0⟩

/-- QUE_STUCK_CNT.COUNT [31:0], RC, Table 12-7, R350. -/
def QUE_STUCK_CNT_COUNT : Fld := ⟨0xD00024, 0, 32, 0⟩

/-- QUE_COPY_FULL_CNT.COUNT [31:0], RC, Table 12-7, R329. -/
def QUE_COPY_FULL_CNT_COUNT : Fld := ⟨0xD00028, 0, 32, 0⟩

/-- QUE_FLUSH_CNT.COUNT [31:0], RC, Table 12-7, R348. -/
def QUE_FLUSH_CNT_COUNT : Fld := ⟨0xD0002C, 0, 32, 0⟩

/-- QUE_ROD_LIMIT.LIMIT [23:0], RW, Table 12-8, R331. -/
def QUE_ROD_LIMIT_LIMIT (i : Nat) : Fld := ⟨0xD10000 + 0x4 * (i % 16384), 0, 24, 0⟩

/-- QUE_ROD_DEPTH.BEADS [27:0], RO, Table 12-8, R331. -/
def QUE_ROD_DEPTH_BEADS (i : Nat) : Fld := ⟨0xD20000 + 0x4 * (i % 16384), 0, 28, 0⟩

/-- MCAST_STATUS.FULL [0:0], W1C, Table 12-9, R335. -/
def MCAST_STATUS_FULL : Fld := ⟨0xE00000, 0, 1, 0⟩

/-- MCAST_MEMBERS_USED.USED [19:0], RO, Table 12-9, R335. -/
def MCAST_MEMBERS_USED_USED : Fld := ⟨0xE00004, 0, 20, 0⟩

/-- MIRROR_SESSION_CTRL.EN [31:31], RW, Table 12-10, R341. -/
def MIRROR_SESSION_CTRL_EN (i : Nat) : Fld := ⟨0xF00000 + 0x10 * (i % 64), 31, 1, 0⟩

/-- MIRROR_SESSION_CTRL.DIR [30:29], RW, Table 12-10, R341. -/
def MIRROR_SESSION_CTRL_DIR (i : Nat) : Fld := ⟨0xF00000 + 0x10 * (i % 64), 29, 2, 0⟩

/-- MIRROR_SESSION_CTRL.TRAILER [28:28], RW, Table 12-10, R341. -/
def MIRROR_SESSION_CTRL_TRAILER (i : Nat) : Fld := ⟨0xF00000 + 0x10 * (i % 64), 28, 1, 0⟩

/-- MIRROR_SESSION_CTRL.QUEUE [27:24], RW, Table 12-10, R341. -/
def MIRROR_SESSION_CTRL_QUEUE (i : Nat) : Fld := ⟨0xF00000 + 0x10 * (i % 64), 24, 4, 0⟩

/-- MIRROR_SESSION_CTRL.TRUNC [23:10], RW, Table 12-10, R341. -/
def MIRROR_SESSION_CTRL_TRUNC (i : Nat) : Fld := ⟨0xF00000 + 0x10 * (i % 64), 10, 14, 0⟩

/-- MIRROR_SESSION_CTRL.DEST_PORT [9:0], RW, Table 12-10, R341. -/
def MIRROR_SESSION_CTRL_DEST_PORT (i : Nat) : Fld := ⟨0xF00000 + 0x10 * (i % 64), 0, 10, 0⟩

/-- MIRROR_SESSION_DROP.DROP [31:0], RC, Table 12-10, R344. -/
def MIRROR_SESSION_DROP_DROP (i : Nat) : Fld := ⟨0xF00004 + 0x10 * (i % 64), 0, 32, 0⟩

/-- MIRROR_STATUS.DROP [0:0], W1C, Table 12-10, R344. -/
def MIRROR_STATUS_DROP : Fld := ⟨0xF00800, 0, 1, 0⟩

/-- MIRROR_PORT_CFG.EGR_EN [15:15], RW, Table 12-10, R345. -/
def MIRROR_PORT_CFG_EGR_EN (i : Nat) : Fld := ⟨0xF01000 + 0x10 * (i % 1024), 15, 1, 0⟩

/-- MIRROR_PORT_CFG.EGR_SESSION [13:8], RW, Table 12-10, R345. -/
def MIRROR_PORT_CFG_EGR_SESSION (i : Nat) : Fld := ⟨0xF01000 + 0x10 * (i % 1024), 8, 6, 0⟩

/-- MIRROR_PORT_CFG.ING_EN [7:7], RW, Table 12-10, R345. -/
def MIRROR_PORT_CFG_ING_EN (i : Nat) : Fld := ⟨0xF01000 + 0x10 * (i % 1024), 7, 1, 0⟩

/-- MIRROR_PORT_CFG.ING_SESSION [5:0], RW, Table 12-10, R345. -/
def MIRROR_PORT_CFG_ING_SESSION (i : Nat) : Fld := ⟨0xF01000 + 0x10 * (i % 1024), 0, 6, 0⟩

/-- TM_STATUS.GATE_SUSPENDED [2:2], W1C, Table 13-10, R378. -/
def TM_STATUS_GATE_SUSPENDED : Fld := ⟨0x1000000, 2, 1, 0⟩

/-- TM_STATUS.GATE_OVERSIZE [1:1], W1C, Table 13-10, R378. -/
def TM_STATUS_GATE_OVERSIZE : Fld := ⟨0x1000000, 1, 1, 0⟩

/-- TM_STATUS.GATE_ADJUSTED [0:0], W1C, Table 13-10, R378. -/
def TM_STATUS_GATE_ADJUSTED : Fld := ⟨0x1000000, 0, 1, 0⟩

/-- TM_GATE_LOC.KIND [31:31], RO, Table 13-10, R372. -/
def TM_GATE_LOC_KIND : Fld := ⟨0x1000004, 31, 1, 0⟩

/-- TM_GATE_LOC.QUEUE [13:0], RO, Table 13-10, R372. -/
def TM_GATE_LOC_QUEUE : Fld := ⟨0x1000004, 0, 14, 0⟩

/-- TM_GATE_OVERSIZE_CNT.COUNT [31:0], RC, Table 13-10, R372. -/
def TM_GATE_OVERSIZE_CNT_COUNT : Fld := ⟨0x1000010, 0, 32, 0⟩

/-- TM_GATE_ADJUST_CNT.COUNT [31:0], RC, Table 13-10, R373. -/
def TM_GATE_ADJUST_CNT_COUNT : Fld := ⟨0x1000014, 0, 32, 0⟩

/-- TM_PORT_CFG.OVERHEAD [6:0], RW, Table 13-8, R366. -/
def TM_PORT_CFG_OVERHEAD (i : Nat) : Fld := ⟨0x1001000 + 0x10 * (i % 1024), 0, 7, 20⟩

/-- TM_GATE_STATUS.PENDING [31:31], RO, Table 13-9, R374. -/
def TM_GATE_STATUS_PENDING (i : Nat) : Fld := ⟨0x1001004 + 0x10 * (i % 1024), 31, 1, 0⟩

/-- TM_GATE_STATUS.ENABLED [30:30], RO, Table 13-9, R374. -/
def TM_GATE_STATUS_ENABLED (i : Nat) : Fld := ⟨0x1001004 + 0x10 * (i % 1024), 30, 1, 0⟩

/-- TM_GATE_STATUS.ACTIVE_BANK [29:29], RO, Table 13-9, R374. -/
def TM_GATE_STATUS_ACTIVE_BANK (i : Nat) : Fld := ⟨0x1001004 + 0x10 * (i % 1024), 29, 1, 0⟩

/-- TM_GATE_STATUS.GATES [23:8], RO, Table 13-9, R374. -/
def TM_GATE_STATUS_GATES (i : Nat) : Fld := ⟨0x1001004 + 0x10 * (i % 1024), 8, 16, 0xFFFF⟩

/-- TM_GATE_STATUS.ENTRY [7:0], RO, Table 13-9, R374. -/
def TM_GATE_STATUS_ENTRY (i : Nat) : Fld := ⟨0x1001004 + 0x10 * (i % 1024), 0, 8, 0⟩

/-- TM_QUEUE_CFG.WEIGHT [15:8], RW, Table 13-7, R364. -/
def TM_QUEUE_CFG_WEIGHT (i : Nat) : Fld := ⟨0x1010000 + 0x4 * (i % 16384), 8, 8, 1⟩

/-- TM_QUEUE_CFG.SP_LEVEL [2:0], RW, Table 13-7, R364. -/
def TM_QUEUE_CFG_SP_LEVEL (i : Nat) : Fld := ⟨0x1010000 + 0x4 * (i % 16384), 0, 3, 0⟩

/-- DRAM_CTRL.SCRUB_EN [2:2], RW, Table 14-6, R394. -/
def DRAM_CTRL_SCRUB_EN : Fld := ⟨0x1100000, 2, 1, 1⟩

/-- DRAM_CTRL.PARK_EN [1:1], RW, Table 14-6, R394. -/
def DRAM_CTRL_PARK_EN : Fld := ⟨0x1100000, 1, 1, 1⟩

/-- DRAM_CTRL.SERVICE [0:0], RW, Table 14-6, R394. -/
def DRAM_CTRL_SERVICE : Fld := ⟨0x1100000, 0, 1, 0⟩

/-- DRAM_SCHED.WR_HIGH [30:24], RW, Table 14-6, R390. -/
def DRAM_SCHED_WR_HIGH : Fld := ⟨0x1100004, 24, 7, 48⟩

/-- DRAM_SCHED.WR_LOW [22:16], RW, Table 14-6, R390. -/
def DRAM_SCHED_WR_LOW : Fld := ⟨0x1100004, 16, 7, 16⟩

/-- DRAM_SCHED.WR_AGE_NS [15:0], RW, Table 14-6, R390. -/
def DRAM_SCHED_WR_AGE_NS : Fld := ⟨0x1100004, 0, 16, 2000⟩

/-- DRAM_PWR.PARK_MS [31:16], RW, Table 14-7, R395. -/
def DRAM_PWR_PARK_MS : Fld := ⟨0x1100008, 16, 16, 100⟩

/-- DRAM_PWR.SID_IDLE_MS [15:0], RW, Table 14-7, R395. -/
def DRAM_PWR_SID_IDLE_MS : Fld := ⟨0x1100008, 0, 16, 10⟩

/-- DRAM_ROW_GUARD.THRESHOLD [15:0], RW, Table 14-7, R393. -/
def DRAM_ROW_GUARD_THRESHOLD : Fld := ⟨0x110000C, 0, 16, 2000⟩

/-- DRAM_RECAL.RECAL_MS [15:0], RW, Table 14-7, R399. -/
def DRAM_RECAL_RECAL_MS : Fld := ⟨0x1100010, 0, 16, 100⟩

/-- DRAM_TRAIN.START [31:31], WO, Table 14-7, R398. -/
def DRAM_TRAIN_START : Fld := ⟨0x1100014, 31, 1, 0⟩

/-- DRAM_TRAIN.LANE_REPAIRED [9:2], RO, Table 14-7, R398. -/
def DRAM_TRAIN_LANE_REPAIRED : Fld := ⟨0x1100014, 2, 8, 0⟩

/-- DRAM_TRAIN.STATUS [1:0], RO, Table 14-7, R398. -/
def DRAM_TRAIN_STATUS : Fld := ⟨0x1100014, 0, 2, 0⟩

/-- DRAM_STATUS.PC_FAIL [8:8], W1C, Table 14-8, R401. -/
def DRAM_STATUS_PC_FAIL : Fld := ⟨0x1100020, 8, 1, 0⟩

/-- DRAM_STATUS.HOT [7:7], RO, Table 14-8, R401. -/
def DRAM_STATUS_HOT : Fld := ⟨0x1100020, 7, 1, 0⟩

/-- DRAM_STATUS.TEMP [6:6], W1C, Table 14-8, R401. -/
def DRAM_STATUS_TEMP : Fld := ⟨0x1100020, 6, 1, 0⟩

/-- DRAM_STATUS.UNCORR [4:4], W1C, Table 14-8, R401. -/
def DRAM_STATUS_UNCORR : Fld := ⟨0x1100020, 4, 1, 0⟩

/-- DRAM_STATUS.CORRECTED [3:3], W1C, Table 14-8, R401. -/
def DRAM_STATUS_CORRECTED : Fld := ⟨0x1100020, 3, 1, 0⟩

/-- DRAM_STATUS.CA_REPLAY [2:2], W1C, Table 14-8, R401. -/
def DRAM_STATUS_CA_REPLAY : Fld := ⟨0x1100020, 2, 1, 0⟩

/-- DRAM_STATUS.PARKED1 [1:1], RO, Table 14-8, R401. -/
def DRAM_STATUS_PARKED1 : Fld := ⟨0x1100020, 1, 1, 0⟩

/-- DRAM_STATUS.PARKED0 [0:0], RO, Table 14-8, R401. -/
def DRAM_STATUS_PARKED0 : Fld := ⟨0x1100020, 0, 1, 0⟩

/-- DRAM_PC_FAILED_LO.FAILED [31:0], RO, Table 14-8, R388. -/
def DRAM_PC_FAILED_LO_FAILED : Fld := ⟨0x1100024, 0, 32, 0⟩

/-- DRAM_PC_FAILED_HI.FAILED [31:0], RO, Table 14-8, R388. -/
def DRAM_PC_FAILED_HI_FAILED : Fld := ⟨0x1100028, 0, 32, 0⟩

/-- DRAM_ERR_LOC.UNCORR [31:31], RO, Table 14-9, R387. -/
def DRAM_ERR_LOC_UNCORR : Fld := ⟨0x110002C, 31, 1, 0⟩

/-- DRAM_ERR_LOC.USER [30:28], RO, Table 14-9, R387. -/
def DRAM_ERR_LOC_USER : Fld := ⟨0x110002C, 28, 3, 0⟩

/-- DRAM_ERR_LOC.GRANULE [27:0], RO, Table 14-9, R387. -/
def DRAM_ERR_LOC_GRANULE : Fld := ⟨0x110002C, 0, 28, 0⟩

/-- DRAM_TEMP.STACK1 [15:8], RO, Table 14-9, R391. -/
def DRAM_TEMP_STACK1 : Fld := ⟨0x1100030, 8, 8, 0⟩

/-- DRAM_TEMP.STACK0 [7:0], RO, Table 14-9, R391. -/
def DRAM_TEMP_STACK0 : Fld := ⟨0x1100030, 0, 8, 0⟩

/-- DRAM_CORR_CNT.COUNT [31:0], RC, Table 14-10, R382. -/
def DRAM_CORR_CNT_COUNT : Fld := ⟨0x1100040, 0, 32, 0⟩

/-- DRAM_UNCORR_CNT.COUNT [31:0], RC, Table 14-10, R387. -/
def DRAM_UNCORR_CNT_COUNT : Fld := ⟨0x1100044, 0, 32, 0⟩

/-- DRAM_CA_REPLAY_CNT.COUNT [31:0], RC, Table 14-10, R385. -/
def DRAM_CA_REPLAY_CNT_COUNT : Fld := ⟨0x1100048, 0, 32, 0⟩

/-- DRAM_ROW_GUARD_CNT.COUNT [31:0], RC, Table 14-10, R393. -/
def DRAM_ROW_GUARD_CNT_COUNT : Fld := ⟨0x110004C, 0, 32, 0⟩

/-- DRAM_PARK_CNT.COUNT [31:0], RC, Table 14-10, R395. -/
def DRAM_PARK_CNT_COUNT : Fld := ⟨0x1100050, 0, 32, 0⟩

/-- DRAM_LANE_REPAIRED_CNT.COUNT [31:0], RC, Table 14-10, R397. -/
def DRAM_LANE_REPAIRED_CNT_COUNT : Fld := ⟨0x1100054, 0, 32, 0⟩

/-- HLINK_CTRL.MEM_TO_US [31:16], RW, Table 15-8, R420. -/
def HLINK_CTRL_MEM_TO_US : Fld := ⟨0x1200000, 16, 16, 100⟩

/-- HLINK_CTRL.DOWN_MS [15:8], RW, Table 15-8, R420. -/
def HLINK_CTRL_DOWN_MS : Fld := ⟨0x1200000, 8, 8, 10⟩

/-- HLINK_CTRL.MAX_RATE [3:2], RW, Table 15-8, R420. -/
def HLINK_CTRL_MAX_RATE : Fld := ⟨0x1200000, 2, 2, 0⟩

/-- HLINK_CTRL.LOST_ACT [1:1], RW, Table 15-8, R420. -/
def HLINK_CTRL_LOST_ACT : Fld := ⟨0x1200000, 1, 1, 0⟩

/-- HLINK_STATUS.HOST_LOST [10:10], W1C, Table 15-9, R403. -/
def HLINK_STATUS_HOST_LOST : Fld := ⟨0x1200004, 10, 1, 0⟩

/-- HLINK_STATUS.MEM_TIMEOUT [9:9], W1C, Table 15-9, R403. -/
def HLINK_STATUS_MEM_TIMEOUT : Fld := ⟨0x1200004, 9, 1, 0⟩

/-- HLINK_STATUS.PROTOCOL [8:8], W1C, Table 15-9, R403. -/
def HLINK_STATUS_PROTOCOL : Fld := ⟨0x1200004, 8, 1, 0⟩

/-- HLINK_STATUS.RETRAINED [7:7], W1C, Table 15-9, R403. -/
def HLINK_STATUS_RETRAINED : Fld := ⟨0x1200004, 7, 1, 0⟩

/-- HLINK_STATUS.REPAIRED [6:6], RO, Table 15-9, R403. -/
def HLINK_STATUS_REPAIRED : Fld := ⟨0x1200004, 6, 1, 0⟩

/-- HLINK_STATUS.RATE [5:4], RO, Table 15-9, R403. -/
def HLINK_STATUS_RATE : Fld := ⟨0x1200004, 4, 2, 0⟩

/-- HLINK_STATUS.STATE [2:0], RO, Table 15-9, R403. -/
def HLINK_STATUS_STATE : Fld := ⟨0x1200004, 0, 3, 0⟩

/-- HLINK_PROTO_LOC.TYPE [31:24], RO, Table 15-9, R411. -/
def HLINK_PROTO_LOC_TYPE : Fld := ⟨0x1200008, 24, 8, 0⟩

/-- HLINK_PROTO_LOC.REASON [23:16], RO, Table 15-9, R411. -/
def HLINK_PROTO_LOC_REASON : Fld := ⟨0x1200008, 16, 8, 0⟩

/-- HLINK_PROTO_LOC.TAG [15:0], RO, Table 15-9, R411. -/
def HLINK_PROTO_LOC_TAG : Fld := ⟨0x1200008, 0, 16, 0⟩

/-- HLINK_CRC_RETRY_CNT.COUNT [31:0], RC, Table 15-10, R406. -/
def HLINK_CRC_RETRY_CNT_COUNT : Fld := ⟨0x1200010, 0, 32, 0⟩

/-- HLINK_RETRAIN_CNT.COUNT [31:0], RC, Table 15-10, R405. -/
def HLINK_RETRAIN_CNT_COUNT : Fld := ⟨0x1200014, 0, 32, 0⟩

/-- HLINK_MEM_TIMEOUT_CNT.COUNT [31:0], RC, Table 15-10, R420. -/
def HLINK_MEM_TIMEOUT_CNT_COUNT : Fld := ⟨0x1200018, 0, 32, 0⟩

/-- HLINK_LATE_REPLY_CNT.COUNT [31:0], RC, Table 15-10, R420. -/
def HLINK_LATE_REPLY_CNT_COUNT : Fld := ⟨0x120001C, 0, 32, 0⟩

/-- HLINK_PROTOCOL_CNT.COUNT [31:0], RC, Table 15-10, R411. -/
def HLINK_PROTOCOL_CNT_COUNT : Fld := ⟨0x1200020, 0, 32, 0⟩

/-- RING_STATUS.CNT_SKIP [3:3], W1C, Table 16-13, R453. -/
def RING_STATUS_CNT_SKIP : Fld := ⟨0x1300000, 3, 1, 0⟩

/-- RING_STATUS.PUNT_DROP [2:2], W1C, Table 16-13, R453. -/
def RING_STATUS_PUNT_DROP : Fld := ⟨0x1300000, 2, 1, 0⟩

/-- RING_STATUS.BAD_DB [1:1], W1C, Table 16-13, R453. -/
def RING_STATUS_BAD_DB : Fld := ⟨0x1300000, 1, 1, 0⟩

/-- RING_STATUS.HALTED [0:0], RO, Table 16-13, R453. -/
def RING_STATUS_HALTED : Fld := ⟨0x1300000, 0, 1, 0⟩

/-- RING_HALTED_LO.HALTED [31:0], RO, Table 16-13, R451. -/
def RING_HALTED_LO_HALTED : Fld := ⟨0x1300004, 0, 32, 0⟩

/-- RING_HALTED_HI.HALTED [31:0], RO, Table 16-13, R451. -/
def RING_HALTED_HI_HALTED : Fld := ⟨0x1300008, 0, 32, 0⟩

/-- RING_RESUME.GO [31:31], WO, Table 16-13, R451. -/
def RING_RESUME_GO : Fld := ⟨0x130000C, 31, 1, 0⟩

/-- RING_RESUME.RING [5:0], WO, Table 16-13, R451. -/
def RING_RESUME_RING : Fld := ⟨0x130000C, 0, 6, 0⟩

/-- RING_BAD_DB_LOC.RING [5:0], RO, Table 16-13, R432. -/
def RING_BAD_DB_LOC_RING : Fld := ⟨0x1300010, 0, 6, 0⟩

/-- RING_PUNT_MAP_LO.MAP [31:0], RW, Table 16-13, R449. -/
def RING_PUNT_MAP_LO_MAP : Fld := ⟨0x1300014, 0, 32, 0⟩

/-- RING_PUNT_MAP_HI.MAP [31:0], RW, Table 16-13, R449. -/
def RING_PUNT_MAP_HI_MAP : Fld := ⟨0x1300018, 0, 32, 0⟩

/-- RING_CNT_CTRL.EN [31:31], RW, Table 16-13, R450. -/
def RING_CNT_CTRL_EN : Fld := ⟨0x130001C, 31, 1, 0⟩

/-- RING_CNT_CTRL.PERIOD_MS [13:0], RW, Table 16-13, R450. -/
def RING_CNT_CTRL_PERIOD_MS : Fld := ⟨0x130001C, 0, 14, 1000⟩

/-- RING_BAD_DB_CNT.COUNT [31:0], RC, Table 16-13, R432. -/
def RING_BAD_DB_CNT_COUNT : Fld := ⟨0x1300020, 0, 32, 0⟩

/-- RING_CNT_SKIP_CNT.COUNT [31:0], RC, Table 16-13, R450. -/
def RING_CNT_SKIP_CNT_COUNT : Fld := ⟨0x1300024, 0, 32, 0⟩

/-- RING_BASE_LO.ADDR [31:12], RW, Table 16-12, R430. -/
def RING_BASE_LO_ADDR (i : Nat) : Fld := ⟨0x1301000 + 0x40 * (i % 64), 12, 20, 0⟩

/-- RING_BASE_HI.ADDR_HI [31:0], RW, Table 16-12, R430. -/
def RING_BASE_HI_ADDR_HI (i : Nat) : Fld := ⟨0x1301004 + 0x40 * (i % 64), 0, 32, 0⟩

/-- RING_IDXBLK_LO.ADDR [31:4], RW, Table 16-12, R433. -/
def RING_IDXBLK_LO_ADDR (i : Nat) : Fld := ⟨0x1301008 + 0x40 * (i % 64), 4, 28, 0⟩

/-- RING_IDXBLK_HI.ADDR_HI [31:0], RW, Table 16-12, R433. -/
def RING_IDXBLK_HI_ADDR_HI (i : Nat) : Fld := ⟨0x130100C + 0x40 * (i % 64), 0, 32, 0⟩

/-- RING_CFG.ENABLE [31:31], RW, Table 16-12, R431. -/
def RING_CFG_ENABLE (i : Nat) : Fld := ⟨0x1301010 + 0x40 * (i % 64), 31, 1, 0⟩

/-- RING_CFG.STOPPED [30:30], RO, Table 16-12, R431. -/
def RING_CFG_STOPPED (i : Nat) : Fld := ⟨0x1301010 + 0x40 * (i % 64), 30, 1, 1⟩

/-- RING_CFG.BUF_SIZE [13:12], RW, Table 16-12, R431. -/
def RING_CFG_BUF_SIZE (i : Nat) : Fld := ⟨0x1301010 + 0x40 * (i % 64), 12, 2, 0⟩

/-- RING_CFG.CQ [11:8], RW, Table 16-12, R431. -/
def RING_CFG_CQ (i : Nat) : Fld := ⟨0x1301010 + 0x40 * (i % 64), 8, 4, 0⟩

/-- RING_CFG.LOG2_SIZE [4:0], RW, Table 16-12, R431. -/
def RING_CFG_LOG2_SIZE (i : Nat) : Fld := ⟨0x1301010 + 0x40 * (i % 64), 0, 5, 4⟩

/-- RING_DEV_INDEX.DEV_INDEX [31:0], RO, Table 16-12, R431. -/
def RING_DEV_INDEX_DEV_INDEX (i : Nat) : Fld := ⟨0x1301014 + 0x40 * (i % 64), 0, 32, 0⟩

/-- RING_DB.DOORBELL [31:0], RO, Table 16-12, R432. -/
def RING_DB_DOORBELL (i : Nat) : Fld := ⟨0x1301018 + 0x40 * (i % 64), 0, 32, 0⟩

/-- RING_PUNT_BUF_LO.ADDR [31:12], RW, Table 16-12, R430. -/
def RING_PUNT_BUF_LO_ADDR (i : Nat) : Fld := ⟨0x1301020 + 0x40 * (i % 64), 12, 20, 0⟩

/-- RING_PUNT_BUF_HI.ADDR_HI [31:0], RW, Table 16-12, R430. -/
def RING_PUNT_BUF_HI_ADDR_HI (i : Nat) : Fld := ⟨0x1301024 + 0x40 * (i % 64), 0, 32, 0⟩

/-- RING_DROP_CNT.DROP [31:0], RC, Table 16-12, R449. -/
def RING_DROP_CNT_DROP (i : Nat) : Fld := ⟨0x1301028 + 0x40 * (i % 64), 0, 32, 0⟩

/-- EVT_CTRL.KEEPALIVE_US [15:0], RW, Table 17-10, R462. -/
def EVT_CTRL_KEEPALIVE_US : Fld := ⟨0x1400000, 0, 16, 10⟩

/-- EVT_SUMMARY.COUNT [28:16], RO, Table 17-10, R460. -/
def EVT_SUMMARY_COUNT : Fld := ⟨0x1400004, 16, 13, 0⟩

/-- EVT_SUMMARY.ATTN [15:0], RO, Table 17-10, R460. -/
def EVT_SUMMARY_ATTN : Fld := ⟨0x1400004, 0, 16, 0⟩

/-- EVT_KEEPALIVE_CNT.COUNT [31:0], RC, Table 17-10, R462. -/
def EVT_KEEPALIVE_CNT_COUNT : Fld := ⟨0x1400008, 0, 32, 0⟩

/-- EVT_PENDING.PENDING [31:0], RO, Table 17-11, R458. -/
def EVT_PENDING_PENDING (i : Nat) : Fld := ⟨0x1400100 + 0x4 * (i % 128), 0, 32, 0⟩

/-- EVT_MASK.MASK [31:0], RW, Table 17-12, R458. -/
def EVT_MASK_MASK (i : Nat) : Fld := ⟨0x1400300 + 0x4 * (i % 128), 0, 32, 0⟩

/-- RCK_ROM_ID.VERSION [31:16], RO, Table 18-5, R478. -/
def RCK_ROM_ID_VERSION : Fld := ⟨0x1500000, 16, 16, 0⟩

/-- RCK_ROM_ID.FAMILY [15:0], RO, Table 18-5, R478. -/
def RCK_ROM_ID_FAMILY : Fld := ⟨0x1500000, 0, 16, 0⟩

/-- RCK_STATUS.PATCH_EVT [8:8], W1C, Table 18-5, R487. -/
def RCK_STATUS_PATCH_EVT : Fld := ⟨0x1500004, 8, 1, 0⟩

/-- RCK_STATUS.HALTED [7:0], RO, Table 18-5, R487. -/
def RCK_STATUS_HALTED : Fld := ⟨0x1500004, 0, 8, 0⟩

/-- RCK_PREEMPT_CNT.COUNT [31:0], RC, Table 18-5, R486. -/
def RCK_PREEMPT_CNT_COUNT : Fld := ⟨0x1500008, 0, 32, 0⟩

/-- RCK_PATCH_CTRL.LOAD [31:31], WO, Table 18-6, R479. -/
def RCK_PATCH_CTRL_LOAD : Fld := ⟨0x1500010, 31, 1, 0⟩

/-- RCK_PATCH_CTRL.LEN [14:0], RW, Table 18-6, R479. -/
def RCK_PATCH_CTRL_LEN : Fld := ⟨0x1500010, 0, 15, 464⟩

/-- RCK_PATCH_STATUS.STATE [31:30], RO, Table 18-6, R479. -/
def RCK_PATCH_STATUS_STATE : Fld := ⟨0x1500014, 30, 2, 0⟩

/-- RCK_PATCH_STATUS.REASON [27:24], RO, Table 18-6, R479. -/
def RCK_PATCH_STATUS_REASON : Fld := ⟨0x1500014, 24, 4, 0⟩

/-- RCK_PATCH_STATUS.MATCHES [22:16], RO, Table 18-6, R479. -/
def RCK_PATCH_STATUS_MATCHES : Fld := ⟨0x1500014, 16, 7, 0⟩

/-- RCK_PATCH_STATUS.WORDS [10:0], RO, Table 18-6, R479. -/
def RCK_PATCH_STATUS_WORDS : Fld := ⟨0x1500014, 0, 11, 0⟩

/-- RCK_PATCH_VER.PATCH_VER [31:0], RO, Table 18-6, R480. -/
def RCK_PATCH_VER_PATCH_VER : Fld := ⟨0x1500018, 0, 32, 0⟩

/-- RCK_PATCH_DIGEST.DIGEST [31:0], RO, Table 18-6, R480. -/
def RCK_PATCH_DIGEST_DIGEST (i : Nat) : Fld := ⟨0x1500020 + 0x4 * (i % 8), 0, 32, 0⟩

/-- RCK_ENG_STATUS.STATE [31:30], RO, Table 18-7, R488. -/
def RCK_ENG_STATUS_STATE (i : Nat) : Fld := ⟨0x1500100 + 0x4 * (i % 8), 30, 2, 0⟩

/-- RCK_ENG_STATUS.PATCHED [29:29], RO, Table 18-7, R488. -/
def RCK_ENG_STATUS_PATCHED (i : Nat) : Fld := ⟨0x1500100 + 0x4 * (i % 8), 29, 1, 0⟩

/-- RCK_ENG_STATUS.ROUTINE [27:24], RO, Table 18-7, R488. -/
def RCK_ENG_STATUS_ROUTINE (i : Nat) : Fld := ⟨0x1500100 + 0x4 * (i % 8), 24, 4, 0⟩

/-- RCK_ENG_STATUS.SUSPENDED [23:16], RO, Table 18-7, R488. -/
def RCK_ENG_STATUS_SUSPENDED (i : Nat) : Fld := ⟨0x1500100 + 0x4 * (i % 8), 16, 8, 0⟩

/-- RCK_ENG_STATUS.CHECKPOINTS [15:0], RO, Table 18-7, R488. -/
def RCK_ENG_STATUS_CHECKPOINTS (i : Nat) : Fld := ⟨0x1500100 + 0x4 * (i % 8), 0, 16, 0⟩

/-- RCK_PATCH_STAGE.DATA [31:0], WO, Table 18-6, R478. -/
def RCK_PATCH_STAGE_DATA (i : Nat) : Fld := ⟨0x1508000 + 0x4 * (i % 8192), 0, 32, 0⟩

/-- SEC_BOOT.STATE [31:30], RO, Table 19-7, R493. -/
def SEC_BOOT_STATE : Fld := ⟨0x1600000, 30, 2, 0⟩

/-- SEC_BOOT.REASON [11:8], RO, Table 19-7, R493. -/
def SEC_BOOT_REASON : Fld := ⟨0x1600000, 8, 4, 0⟩

/-- SEC_BOOT.STAGE [3:0], RO, Table 19-7, R493. -/
def SEC_BOOT_STAGE : Fld := ⟨0x1600000, 0, 4, 0⟩

/-- SEC_LIFECYCLE.SVN_MIN [22:16], RO, Table 19-7, R492. -/
def SEC_LIFECYCLE_SVN_MIN : Fld := ⟨0x1600004, 16, 7, 0⟩

/-- SEC_LIFECYCLE.ID_OK [8:8], RO, Table 19-7, R492. -/
def SEC_LIFECYCLE_ID_OK : Fld := ⟨0x1600004, 8, 1, 0⟩

/-- SEC_LIFECYCLE.OWNER_DEBUG_ONLY [4:4], RO, Table 19-7, R492. -/
def SEC_LIFECYCLE_OWNER_DEBUG_ONLY : Fld := ⟨0x1600004, 4, 1, 0⟩

/-- SEC_LIFECYCLE.STATE [1:0], RO, Table 19-7, R492. -/
def SEC_LIFECYCLE_STATE : Fld := ⟨0x1600004, 0, 2, 0⟩

/-- SEC_DEVICE_ID_LO.ID [31:0], RO, Table 19-7, R497. -/
def SEC_DEVICE_ID_LO_ID : Fld := ⟨0x1600008, 0, 32, 0⟩

/-- SEC_DEVICE_ID_HI.ID [31:0], RO, Table 19-7, R497. -/
def SEC_DEVICE_ID_HI_ID : Fld := ⟨0x160000C, 0, 32, 0⟩

/-- SEC_STATUS.TOKEN_REJECT [2:2], W1C, Table 19-8, R508. -/
def SEC_STATUS_TOKEN_REJECT : Fld := ⟨0x1600010, 2, 1, 0⟩

/-- SEC_STATUS.BUNDLE [1:1], W1C, Table 19-8, R508. -/
def SEC_STATUS_BUNDLE : Fld := ⟨0x1600010, 1, 1, 0⟩

/-- SEC_DEBUG_STATUS.BY_OWNER [2:2], RO, Table 19-8, R505. -/
def SEC_DEBUG_STATUS_BY_OWNER : Fld := ⟨0x1600014, 2, 1, 0⟩

/-- SEC_DEBUG_STATUS.GRANTED [1:0], RO, Table 19-8, R505. -/
def SEC_DEBUG_STATUS_GRANTED : Fld := ⟨0x1600014, 0, 2, 0⟩

/-- SEC_BUNDLE_CTRL.LOAD [31:31], WO, Table 19-8, R502. -/
def SEC_BUNDLE_CTRL_LOAD : Fld := ⟨0x1600018, 31, 1, 0⟩

/-- SEC_BUNDLE_CTRL.KIND [30:30], RW, Table 19-8, R502. -/
def SEC_BUNDLE_CTRL_KIND : Fld := ⟨0x1600018, 30, 1, 0⟩

/-- SEC_BUNDLE_CTRL.LEN [10:0], RW, Table 19-8, R502. -/
def SEC_BUNDLE_CTRL_LEN : Fld := ⟨0x1600018, 0, 11, 1104⟩

/-- SEC_BUNDLE_STATUS.STATE [31:29], RO, Table 19-8, R502. -/
def SEC_BUNDLE_STATUS_STATE : Fld := ⟨0x160001C, 29, 3, 0⟩

/-- SEC_BUNDLE_STATUS.REASON [23:20], RO, Table 19-8, R502. -/
def SEC_BUNDLE_STATUS_REASON : Fld := ⟨0x160001C, 20, 4, 0⟩

/-- SEC_BUNDLE_STATUS.OPS_DONE [3:0], RO, Table 19-8, R502. -/
def SEC_BUNDLE_STATUS_OPS_DONE : Fld := ⟨0x160001C, 0, 4, 0⟩

/-- SEC_DEBUG_CHALLENGE.CHALLENGE [31:0], RO, Table 19-9, R505. -/
def SEC_DEBUG_CHALLENGE_CHALLENGE (i : Nat) : Fld := ⟨0x1600040 + 0x4 * (i % 8), 0, 32, 0⟩

/-- SEC_FUSE_IMAGE.FUSE [31:0], RO, Table 19-9, R491. -/
def SEC_FUSE_IMAGE_FUSE (i : Nat) : Fld := ⟨0x1600400 + 0x4 * (i % 128), 0, 32, 0⟩

/-- SEC_STAGE.DATA [31:0], WO, Table 19-9, R501. -/
def SEC_STAGE_DATA (i : Nat) : Fld := ⟨0x1608000 + 0x4 * (i % 512), 0, 32, 0⟩

/-- PAIR_CTRL.ARM_MS [31:24], RW, Table 20-13, R525. -/
def PAIR_CTRL_ARM_MS : Fld := ⟨0x1700000, 24, 8, 10⟩

/-- PAIR_CTRL.TAKE_UNEXPLAINED [2:2], RW, Table 20-13, R525. -/
def PAIR_CTRL_TAKE_UNEXPLAINED : Fld := ⟨0x1700000, 2, 1, 0⟩

/-- PAIR_CTRL.TALLY_FOLLOW [1:1], RW, Table 20-13, R525. -/
def PAIR_CTRL_TALLY_FOLLOW : Fld := ⟨0x1700000, 1, 1, 1⟩

/-- PAIR_CMD.YIELD [1:1], WO, Table 20-13, R513. -/
def PAIR_CMD_YIELD : Fld := ⟨0x1700004, 1, 1, 0⟩

/-- PAIR_CMD.CLAIM [0:0], WO, Table 20-13, R513. -/
def PAIR_CMD_CLAIM : Fld := ⟨0x1700004, 0, 1, 0⟩

/-- PAIR_STATUS.STATE [31:28], RO, Table 20-14, R512. -/
def PAIR_STATUS_STATE : Fld := ⟨0x1700008, 28, 4, 0⟩

/-- PAIR_STATUS.ROLE_CHG [7:7], W1C, Table 20-14, R512. -/
def PAIR_STATUS_ROLE_CHG : Fld := ⟨0x1700008, 7, 1, 0⟩

/-- PAIR_STATUS.MISMATCH [6:6], W1C, Table 20-14, R512. -/
def PAIR_STATUS_MISMATCH : Fld := ⟨0x1700008, 6, 1, 0⟩

/-- PAIR_STATUS.HB_LOST [5:5], W1C, Table 20-14, R512. -/
def PAIR_STATUS_HB_LOST : Fld := ⟨0x1700008, 5, 1, 0⟩

/-- PAIR_STATUS.BLOCKED [4:4], W1C, Table 20-14, R512. -/
def PAIR_STATUS_BLOCKED : Fld := ⟨0x1700008, 4, 1, 0⟩

/-- PAIR_STATUS.HOLD_FAULT [3:3], RO, Table 20-14, R512. -/
def PAIR_STATUS_HOLD_FAULT : Fld := ⟨0x1700008, 3, 1, 0⟩

/-- PAIR_STATUS.LINK_UP [2:2], RO, Table 20-14, R512. -/
def PAIR_STATUS_LINK_UP : Fld := ⟨0x1700008, 2, 1, 0⟩

/-- PAIR_STATUS.HOLD_IN [1:1], RO, Table 20-14, R512. -/
def PAIR_STATUS_HOLD_IN : Fld := ⟨0x1700008, 1, 1, 0⟩

/-- PAIR_STATUS.HOLD_OUT [0:0], RO, Table 20-14, R512. -/
def PAIR_STATUS_HOLD_OUT : Fld := ⟨0x1700008, 0, 1, 0⟩

/-- PAIR_PEER.STATE [31:28], RO, Table 20-14, R516. -/
def PAIR_PEER_STATE : Fld := ⟨0x170000C, 28, 4, 15⟩

/-- PAIR_PEER.SENIOR [27:27], RO, Table 20-14, R516. -/
def PAIR_PEER_SENIOR : Fld := ⟨0x170000C, 27, 1, 0⟩

/-- PAIR_PEER.TAKE_UNEXPLAINED [26:26], RO, Table 20-14, R516. -/
def PAIR_PEER_TAKE_UNEXPLAINED : Fld := ⟨0x170000C, 26, 1, 0⟩

/-- PAIR_PEER_ID_LO.ID [31:0], RO, Table 20-14, R535. -/
def PAIR_PEER_ID_LO_ID : Fld := ⟨0x1700010, 0, 32, 0⟩

/-- PAIR_PEER_ID_HI.ID [31:0], RO, Table 20-14, R535. -/
def PAIR_PEER_ID_HI_ID : Fld := ⟨0x1700014, 0, 32, 0⟩

/-- PAIR_VERDICT.CAUSE [31:28], RO, Table 20-15, R525. -/
def PAIR_VERDICT_CAUSE : Fld := ⟨0x1700018, 28, 4, 0⟩

/-- PAIR_VERDICT.OUTCOME [27:24], RO, Table 20-15, R525. -/
def PAIR_VERDICT_OUTCOME : Fld := ⟨0x1700018, 24, 4, 0⟩

/-- PAIR_VERDICT.PORT [9:0], RO, Table 20-15, R525. -/
def PAIR_VERDICT_PORT : Fld := ⟨0x1700018, 0, 10, 0⟩

/-- PAIR_VERDICT_WIN.WINDOW [31:0], RO, Table 20-15, R524. -/
def PAIR_VERDICT_WIN_WINDOW : Fld := ⟨0x170001C, 0, 32, 0⟩

/-- PAIR_MIRROR_LEVEL.LEVEL [16:0], RO, Table 20-15, R520. -/
def PAIR_MIRROR_LEVEL_LEVEL : Fld := ⟨0x1700020, 0, 17, 0⟩

/-- PAIR_MISMATCH_CNT.COUNT [31:0], RC, Table 20-15, R524. -/
def PAIR_MISMATCH_CNT_COUNT : Fld := ⟨0x1700040, 0, 32, 0⟩

/-- PAIR_SHIFT_CNT.COUNT [31:0], RC, Table 20-15, R524. -/
def PAIR_SHIFT_CNT_COUNT : Fld := ⟨0x1700044, 0, 32, 0⟩

/-- PAIR_TAKEOVER_CNT.COUNT [31:0], RC, Table 20-15, R535. -/
def PAIR_TAKEOVER_CNT_COUNT : Fld := ⟨0x1700048, 0, 32, 0⟩

/-- PAIR_RETX_CNT.COUNT [31:0], RC, Table 20-15, R520. -/
def PAIR_RETX_CNT_COUNT : Fld := ⟨0x170004C, 0, 32, 0⟩

/-- PAIR_CMP_MASK.MASK [31:0], RW, Table 20-16, R522. -/
def PAIR_CMP_MASK_MASK (i : Nat) : Fld := ⟨0x1700100 + 0x4 * (i % 32), 0, 32, 0⟩

/-- SPAN_CTRL.LEARN [3:3], RW, Table 21-3, R537. -/
def SPAN_CTRL_LEARN : Fld := ⟨0x1800000, 3, 1, 0⟩

/-- SPAN_CTRL.GROUP_EN [2:1], RW, Table 21-3, R537. -/
def SPAN_CTRL_GROUP_EN : Fld := ⟨0x1800000, 1, 2, 0⟩

/-- SPAN_CTRL.EN [0:0], RW, Table 21-3, R537. -/
def SPAN_CTRL_EN : Fld := ⟨0x1800000, 0, 1, 0⟩

/-- SPAN_STATUS.PORTS_UP [15:8], RO, Table 21-3, R544. -/
def SPAN_STATUS_PORTS_UP : Fld := ⟨0x1800004, 8, 8, 0⟩

/-- SPAN_STATUS.PEER_DOWN [3:2], W1C, Table 21-3, R544. -/
def SPAN_STATUS_PEER_DOWN : Fld := ⟨0x1800004, 2, 2, 0⟩

/-- SPAN_STATUS.PEER_ACTIVE [1:0], RO, Table 21-3, R544. -/
def SPAN_STATUS_PEER_ACTIVE : Fld := ⟨0x1800004, 0, 2, 0⟩

/-- SPAN_TIME_DIFF.DIFF [31:0], RO, Table 21-4, R546. -/
def SPAN_TIME_DIFF_DIFF (i : Nat) : Fld := ⟨0x1800010 + 0x4 * (i % 2), 0, 32, 0⟩

/-- SPAN_RX_IGNORED_CNT.COUNT [31:0], RC, Table 21-4, R543. -/
def SPAN_RX_IGNORED_CNT_COUNT : Fld := ⟨0x1800020, 0, 32, 0⟩

/-- OBS_CTRL.EN [31:31], RW, Table 24-2, R585. -/
def OBS_CTRL_EN : Fld := ⟨0x1900000, 31, 1, 0⟩

/-- OBS_CTRL.DIV_B [17:17], RW, Table 24-2, R585. -/
def OBS_CTRL_DIV_B : Fld := ⟨0x1900000, 17, 1, 0⟩

/-- OBS_CTRL.DIV_A [16:16], RW, Table 24-2, R585. -/
def OBS_CTRL_DIV_A : Fld := ⟨0x1900000, 16, 1, 0⟩

/-- OBS_CTRL.BANK_B [14:8], RW, Table 24-2, R585. -/
def OBS_CTRL_BANK_B : Fld := ⟨0x1900000, 8, 7, 0⟩

/-- OBS_CTRL.BANK_A [6:0], RW, Table 24-2, R585. -/
def OBS_CTRL_BANK_A : Fld := ⟨0x1900000, 0, 7, 0⟩

/-- OBS_POINT.POINT_3 [29:24], RW, Table 24-3, R585. -/
def OBS_POINT_POINT_3 (i : Nat) : Fld := ⟨0x1900010 + 0x4 * (i % 4), 24, 6, 0⟩

/-- OBS_POINT.POINT_2 [21:16], RW, Table 24-3, R585. -/
def OBS_POINT_POINT_2 (i : Nat) : Fld := ⟨0x1900010 + 0x4 * (i % 4), 16, 6, 0⟩

/-- OBS_POINT.POINT_1 [13:8], RW, Table 24-3, R585. -/
def OBS_POINT_POINT_1 (i : Nat) : Fld := ⟨0x1900010 + 0x4 * (i % 4), 8, 6, 0⟩

/-- OBS_POINT.POINT_0 [5:0], RW, Table 24-3, R585. -/
def OBS_POINT_POINT_0 (i : Nat) : Fld := ⟨0x1900010 + 0x4 * (i % 4), 0, 6, 0⟩

end Reg

open Reg

/-- The register families of page 0 (Table 23-1). -/
def famsPage0 : List RegFam :=
  [⟨"SYS_ID_VENDOR", 0x0, 0, 1, 0, 1, .plain, fun _ _ => [(.ro, SYS_ID_VENDOR_VENDOR)]⟩,
   ⟨"SYS_ID_DEVICE", 0x4, 0, 1, 0, 1, .plain, fun _ _ => [(.ro, SYS_ID_DEVICE_PART), (.ro, SYS_ID_DEVICE_PACKAGE)]⟩,
   ⟨"SYS_ID_STEPPING", 0x8, 0, 1, 0, 1, .plain, fun _ _ => [(.ro, SYS_ID_STEPPING_MAJOR), (.ro, SYS_ID_STEPPING_MINOR), (.ro, SYS_ID_STEPPING_METAL)]⟩,
   ⟨"SYS_ID_MAP", 0xC, 0, 1, 0, 1, .plain, fun _ _ => [(.ro, SYS_ID_MAP_PAGES), (.ro, SYS_ID_MAP_MAP_VER)]⟩,
   ⟨"SYS_SCRATCH", 0x20, 0, 1, 0, 1, .plain, fun _ _ => [(.rw, SYS_SCRATCH_VALUE)]⟩,
   ⟨"SYS_CORE_SPEED", 0x100, 0, 1, 0, 1, .plain, fun _ _ => [(.rc, SYS_CORE_SPEED_MIN_MT), (.ro, SYS_CORE_SPEED_NOW_MT)]⟩,
   ⟨"SYS_STRAP", 0x110, 0, 1, 0, 1, .plain, fun _ _ => [(.w1c, SYS_STRAP_CHANGED), (.ro, SYS_STRAP_TEST_EN), (.ro, SYS_STRAP_BOARD_POS), (.ro, SYS_STRAP_PAIR_EN), (.ro, SYS_STRAP_SENIOR)]⟩,
   ⟨"SYS_CLK_STATUS", 0x120, 0, 1, 0, 1, .plain, fun _ _ => [(.w1c, SYS_CLK_STATUS_DOMB_LOST), (.w1c, SYS_CLK_STATUS_DOMA_LOST), (.w1c, SYS_CLK_STATUS_CORE_LOST), (.ro, SYS_CLK_STATUS_ON_OSC), (.ro, SYS_CLK_STATUS_DOMB_OK), (.ro, SYS_CLK_STATUS_DOMA_OK), (.ro, SYS_CLK_STATUS_CORE_OK)]⟩,
   ⟨"SYS_CLK_LANE_OK", 0x124, 0, 1, 0, 1, .plain, fun _ _ => [(.ro, SYS_CLK_LANE_OK_GROUP_OK)]⟩,
   ⟨"SYS_CLK_LANE_LOST", 0x128, 0, 1, 0, 1, .plain, fun _ _ => [(.w1c, SYS_CLK_LANE_LOST_GROUP_LOST)]⟩,
   ⟨"SYS_TEMP", 0x130, 0, 1, 0, 1, .plain, fun _ _ => [(.rc, SYS_TEMP_MAX_T), (.ro, SYS_TEMP_NOW_T)]⟩,
   ⟨"SYS_SUPPLY_FLAGS", 0x134, 0, 1, 0, 1, .plain, fun _ _ => [(.w1c, SYS_SUPPLY_FLAGS_VDDIO_OUT), (.w1c, SYS_SUPPLY_FLAGS_VPP_HBM_OUT), (.w1c, SYS_SUPPLY_FLAGS_VDDQ_HBM_OUT), (.w1c, SYS_SUPPLY_FLAGS_VDD_HBM_OUT), (.w1c, SYS_SUPPLY_FLAGS_VDD_DPHY_OUT), (.w1c, SYS_SUPPLY_FLAGS_VDD_LANE_T_OUT), (.w1c, SYS_SUPPLY_FLAGS_VDD_LANE_A_OUT), (.w1c, SYS_SUPPLY_FLAGS_VDD_SRAM_OUT), (.w1c, SYS_SUPPLY_FLAGS_VDD_CORE_OUT)]⟩,
   ⟨"SYS_CTRL", 0x140, 0, 1, 0, 1, .plain, fun _ _ => [(.wo, SYS_CTRL_WARM_RESET)]⟩,
   ⟨"SYS_RESET_CAUSE", 0x144, 0, 1, 0, 1, .plain, fun _ _ => [(.ro, SYS_RESET_CAUSE_CAUSE)]⟩,
   ⟨"SYS_FUNC_RESET", 0x150, 0, 1, 0, 1, .plain, fun _ _ => [(.wo, SYS_FUNC_RESET_FUNC)]⟩,
   ⟨"SYS_FUNC_STATUS", 0x154, 0, 1, 0, 1, .plain, fun _ _ => [(.ro, SYS_FUNC_STATUS_STATE)]⟩,
   ⟨"SYS_FUNC_EVT", 0x158, 0, 1, 0, 1, .plain, fun _ _ => [(.w1c, SYS_FUNC_EVT_FAILED), (.w1c, SYS_FUNC_EVT_DONE)]⟩,
   ⟨"SYS_START_STATUS", 0x160, 0, 1, 0, 1, .plain, fun _ _ => [(.ro, SYS_START_STATUS_READY), (.ro, SYS_START_STATUS_FAILED), (.w1c, SYS_START_STATUS_LATE), (.ro, SYS_START_STATUS_ELAPSED_MS), (.ro, SYS_START_STATUS_FUNCS_UP), (.ro, SYS_START_STATUS_DRAM_TRAINED), (.ro, SYS_START_STATUS_PATCH_SETTLED), (.ro, SYS_START_STATUS_LINK_ACTIVE), (.ro, SYS_START_STATUS_BOOT_DONE)]⟩,
   ⟨"SYS_BIST_CTRL", 0x170, 0, 1, 0, 1, .plain, fun _ _ => [(.wo, SYS_BIST_CTRL_START), (.rw, SYS_BIST_CTRL_BLOCK)]⟩,
   ⟨"SYS_BIST_STATUS", 0x174, 0, 1, 0, 1, .plain, fun _ _ => [(.ro, SYS_BIST_STATUS_STATE), (.w1c, SYS_BIST_STATUS_FAIL_EVT), (.ro, SYS_BIST_STATUS_BLOCK), (.ro, SYS_BIST_STATUS_BEAD)]⟩,
   ⟨"SYS_SCRUB_CTRL", 0x180, 0, 1, 0, 1, .plain, fun _ _ => [(.rw, SYS_SCRUB_CTRL_EN)]⟩,
   ⟨"SYS_SCRUB_PASSES", 0x184, 0, 1, 0, 1, .plain, fun _ _ => [(.ro, SYS_SCRUB_PASSES_COUNT)]⟩]

/-- The register families of page 1 (Table 23-1). -/
def famsPage1 : List RegFam :=
  [⟨"LANE_TX_INVERT", 0x100000, 8, 32, 0, 1, .plain, fun i _ => [(.rw, LANE_TX_INVERT_TX_INV i)]⟩,
   ⟨"LANE_RX_INVERT", 0x100004, 8, 32, 0, 1, .plain, fun i _ => [(.rw, LANE_RX_INVERT_RX_INV i)]⟩]

/-- The register families of page 2 (Table 23-1). -/
def famsPage2 : List RegFam :=
  [⟨"MAC_OCTET_MODE", 0x200000, 4, 128, 0, 1, .plain, fun i _ => [(.rw, MAC_OCTET_MODE_RATE i), (.rw, MAC_OCTET_MODE_MODE i)]⟩,
   ⟨"MAC_SA_BASE_LO", 0x200800, 0, 1, 0, 1, .plain, fun _ _ => [(.rw, MAC_SA_BASE_LO_ADDR_LO)]⟩,
   ⟨"MAC_SA_BASE_HI", 0x200804, 0, 1, 0, 1, .plain, fun _ _ => [(.rw, MAC_SA_BASE_HI_ADDR_HI)]⟩,
   ⟨"MAC_PORT_CTRL", 0x201000, 32, 1024, 0, 1, .port, fun i _ => [(.rw, MAC_PORT_CTRL_DN_DEBOUNCE i), (.rw, MAC_PORT_CTRL_UP_DEBOUNCE i), (.rw, MAC_PORT_CTRL_FLOW_CTRL i), (.rw, MAC_PORT_CTRL_LOOPBACK i), (.rw, MAC_PORT_CTRL_FEC i), (.rw, MAC_PORT_CTRL_AN_EN i), (.rw, MAC_PORT_CTRL_ENABLE i)]⟩,
   ⟨"MAC_PORT_FRAME", 0x201004, 32, 1024, 0, 1, .port, fun i _ => [(.rw, MAC_PORT_FRAME_FRAME_MAX i)]⟩,
   ⟨"MAC_PORT_PAUSE", 0x201008, 32, 1024, 0, 1, .port, fun i _ => [(.rw, MAC_PORT_PAUSE_QUANTA i), (.rw, MAC_PORT_PAUSE_REFRESH i)]⟩,
   ⟨"MAC_PORT_STATUS", 0x201010, 32, 1024, 0, 1, .port, fun i _ => [(.ro, MAC_PORT_STATUS_PFC_PAUSED i), (.ro, MAC_PORT_STATUS_PAUSED i), (.ro, MAC_PORT_STATUS_REMOTE_FAULT i), (.ro, MAC_PORT_STATUS_LOCAL_FAULT i), (.ro, MAC_PORT_STATUS_HI_BER i), (.ro, MAC_PORT_STATUS_LINK_GOOD i), (.ro, MAC_PORT_STATUS_STATE i)]⟩,
   ⟨"MAC_PORT_EVT", 0x201014, 32, 1024, 0, 1, .port, fun i _ => [(.w1c, MAC_PORT_EVT_FEC_UNCORR i), (.w1c, MAC_PORT_EVT_HI_BER i), (.w1c, MAC_PORT_EVT_REMOTE_FAULT i), (.w1c, MAC_PORT_EVT_LOCAL_FAULT i), (.w1c, MAC_PORT_EVT_LINK_DOWN i), (.w1c, MAC_PORT_EVT_LINK_UP i)]⟩]

/-- The register families of page 3 (Table 23-1). -/
def famsPage3 : List RegFam :=
  [⟨"CNT_HALF_LO", 0x300000, 8, 1024, 0, 1, .port, fun i _ => [(.w1c, CNT_HALF_LO_HALF i)]⟩,
   ⟨"CNT_HALF_HI", 0x300004, 8, 1024, 0, 1, .port, fun i _ => [(.w1c, CNT_HALF_HI_HALF i)]⟩]

/-- The register families of page 4 (Table 23-1). -/
def famsPage4 : List RegFam :=
  [⟨"TIME_DOM_CTRL", 0x400000, 128, 2, 0, 1, .plain, fun i _ => [(.rw, TIME_DOM_CTRL_WDOG_MS i), (.rw, TIME_DOM_CTRL_SLEW_MAX i), (.rw, TIME_DOM_CTRL_TREF_SEL i), (.rw, TIME_DOM_CTRL_PPS_EN i), (.rw, TIME_DOM_CTRL_TRACEABLE i), (.rw, TIME_DOM_CTRL_LOCKED i)]⟩,
   ⟨"TIME_DOM_FREQ", 0x400004, 128, 2, 0, 1, .plain, fun i _ => [(.rw, TIME_DOM_FREQ_FREQ_ADJ i)]⟩,
   ⟨"TIME_DOM_PHASE", 0x400008, 128, 2, 0, 1, .plain, fun i _ => [(.wo, TIME_DOM_PHASE_PHASE_ADJ i)]⟩,
   ⟨"TIME_DOM_PHASE_LEFT", 0x40000C, 128, 2, 0, 1, .plain, fun i _ => [(.ro, TIME_DOM_PHASE_LEFT_LEFT i)]⟩,
   ⟨"TIME_DOM_STATUS", 0x400010, 128, 2, 0, 1, .plain, fun i _ => [(.w1c, TIME_DOM_STATUS_PPS_MISSING i), (.w1c, TIME_DOM_STATUS_PPS_NEW i), (.w1c, TIME_DOM_STATUS_UNLOCK_TREF i), (.w1c, TIME_DOM_STATUS_UNLOCK_WDOG i), (.w1c, TIME_DOM_STATUS_UNLOCK_HOST i), (.ro, TIME_DOM_STATUS_SLEWING i), (.ro, TIME_DOM_STATUS_LOCK i)]⟩,
   ⟨"TIME_DOM_CMD", 0x400014, 128, 2, 0, 1, .plain, fun i _ => [(.wo, TIME_DOM_CMD_SET_AT_PPS i), (.wo, TIME_DOM_CMD_SET i)]⟩,
   ⟨"TIME_DOM_SET_W0", 0x400020, 128, 2, 0, 1, .plain, fun i _ => [(.rw, TIME_DOM_SET_W0_FRACTION i)]⟩,
   ⟨"TIME_DOM_SET_W1", 0x400024, 128, 2, 0, 1, .plain, fun i _ => [(.rw, TIME_DOM_SET_W1_NANOSECONDS i)]⟩,
   ⟨"TIME_DOM_SET_W2", 0x400028, 128, 2, 0, 1, .plain, fun i _ => [(.rw, TIME_DOM_SET_W2_SEC_LO i)]⟩,
   ⟨"TIME_DOM_SET_W3", 0x40002C, 128, 2, 0, 1, .plain, fun i _ => [(.rw, TIME_DOM_SET_W3_SEC_HI i)]⟩,
   ⟨"TIME_DOM_NOW_W0", 0x400030, 128, 2, 0, 1, .plain, fun i _ => [(.ro, TIME_DOM_NOW_W0_FRACTION i), (.ro, TIME_DOM_NOW_W0_FLAGS i)]⟩,
   ⟨"TIME_DOM_NOW_W1", 0x400034, 128, 2, 0, 1, .plain, fun i _ => [(.ro, TIME_DOM_NOW_W1_NANOSECONDS i)]⟩,
   ⟨"TIME_DOM_NOW_W2", 0x400038, 128, 2, 0, 1, .plain, fun i _ => [(.ro, TIME_DOM_NOW_W2_SEC_LO i)]⟩,
   ⟨"TIME_DOM_NOW_W3", 0x40003C, 128, 2, 0, 1, .plain, fun i _ => [(.ro, TIME_DOM_NOW_W3_SEC_HI i)]⟩,
   ⟨"TIME_DOM_PPS_W0", 0x400040, 128, 2, 0, 1, .plain, fun i _ => [(.ro, TIME_DOM_PPS_W0_FRACTION i), (.ro, TIME_DOM_PPS_W0_FLAGS i)]⟩,
   ⟨"TIME_DOM_PPS_W1", 0x400044, 128, 2, 0, 1, .plain, fun i _ => [(.ro, TIME_DOM_PPS_W1_NANOSECONDS i)]⟩,
   ⟨"TIME_DOM_PPS_W2", 0x400048, 128, 2, 0, 1, .plain, fun i _ => [(.ro, TIME_DOM_PPS_W2_SEC_LO i)]⟩,
   ⟨"TIME_DOM_PPS_W3", 0x40004C, 128, 2, 0, 1, .plain, fun i _ => [(.ro, TIME_DOM_PPS_W3_SEC_HI i)]⟩,
   ⟨"TIME_PRES_CTRL", 0x400100, 0, 1, 0, 1, .plain, fun _ _ => [(.rw, TIME_PRES_CTRL_REVERT_S), (.rw, TIME_PRES_CTRL_SLEW_MAX), (.rw, TIME_PRES_CTRL_REVERT), (.rw, TIME_PRES_CTRL_PREFERRED)]⟩,
   ⟨"TIME_PRES_STATUS", 0x400104, 0, 1, 0, 1, .plain, fun _ _ => [(.w1c, TIME_PRES_STATUS_STEPPED), (.w1c, TIME_PRES_STATUS_HOLDOVER_ENTERED), (.w1c, TIME_PRES_STATUS_MOVED), (.ro, TIME_PRES_STATUS_MOVING), (.ro, TIME_PRES_STATUS_HOLDOVER), (.ro, TIME_PRES_STATUS_DOMAIN), (.ro, TIME_PRES_STATUS_LOCK)]⟩,
   ⟨"TIME_SNAP", 0x400108, 0, 1, 0, 1, .plain, fun _ _ => [(.wo, TIME_SNAP_SNAP)]⟩,
   ⟨"TIME_AB_DIFF", 0x40010C, 0, 1, 0, 1, .plain, fun _ _ => [(.ro, TIME_AB_DIFF_DIFF)]⟩,
   ⟨"TIME_PRES_NOW_W0", 0x400110, 0, 1, 0, 1, .plain, fun _ _ => [(.ro, TIME_PRES_NOW_W0_FRACTION), (.ro, TIME_PRES_NOW_W0_FLAGS)]⟩,
   ⟨"TIME_PRES_NOW_W1", 0x400114, 0, 1, 0, 1, .plain, fun _ _ => [(.ro, TIME_PRES_NOW_W1_NANOSECONDS)]⟩,
   ⟨"TIME_PRES_NOW_W2", 0x400118, 0, 1, 0, 1, .plain, fun _ _ => [(.ro, TIME_PRES_NOW_W2_SEC_LO)]⟩,
   ⟨"TIME_PRES_NOW_W3", 0x40011C, 0, 1, 0, 1, .plain, fun _ _ => [(.ro, TIME_PRES_NOW_W3_SEC_HI)]⟩,
   ⟨"TIME_TPO_CTRL", 0x400200, 32, 8, 0, 1, .plain, fun i _ => [(.w1c, TIME_TPO_CTRL_MISSED i), (.ro, TIME_TPO_CTRL_RUNNING i), (.rw, TIME_TPO_CTRL_POLARITY i), (.rw, TIME_TPO_CTRL_PERIODIC i), (.rw, TIME_TPO_CTRL_ENABLE i)]⟩,
   ⟨"TIME_TPO_PERIOD", 0x400204, 32, 8, 0, 1, .plain, fun i _ => [(.rw, TIME_TPO_PERIOD_PERIOD i)]⟩,
   ⟨"TIME_TPO_WIDTH", 0x400208, 32, 8, 0, 1, .plain, fun i _ => [(.rw, TIME_TPO_WIDTH_WIDTH i)]⟩,
   ⟨"TIME_TPO_START_W0", 0x400210, 32, 8, 0, 1, .plain, fun _ _ => []⟩,
   ⟨"TIME_TPO_START_W1", 0x400214, 32, 8, 0, 1, .plain, fun i _ => [(.rw, TIME_TPO_START_W1_NANOSECONDS i)]⟩,
   ⟨"TIME_TPO_START_W2", 0x400218, 32, 8, 0, 1, .plain, fun i _ => [(.rw, TIME_TPO_START_W2_SEC_LO i)]⟩,
   ⟨"TIME_TPO_START_W3", 0x40021C, 32, 8, 0, 1, .plain, fun i _ => [(.rw, TIME_TPO_START_W3_SEC_HI i)]⟩,
   ⟨"TIME_TPI_CTRL", 0x400300, 32, 4, 0, 1, .plain, fun i _ => [(.ro, TIME_TPI_CTRL_COUNT i), (.w1c, TIME_TPI_CTRL_OVERFLOW i), (.wo, TIME_TPI_CTRL_POP i), (.rw, TIME_TPI_CTRL_SOURCE i), (.rw, TIME_TPI_CTRL_EDGE i), (.rw, TIME_TPI_CTRL_ENABLE i)]⟩,
   ⟨"TIME_TPI_CAPT_W0", 0x400310, 32, 4, 0, 1, .plain, fun i _ => [(.ro, TIME_TPI_CAPT_W0_FRACTION i), (.ro, TIME_TPI_CAPT_W0_FLAGS i)]⟩,
   ⟨"TIME_TPI_CAPT_W1", 0x400314, 32, 4, 0, 1, .plain, fun i _ => [(.ro, TIME_TPI_CAPT_W1_NANOSECONDS i)]⟩,
   ⟨"TIME_TPI_CAPT_W2", 0x400318, 32, 4, 0, 1, .plain, fun i _ => [(.ro, TIME_TPI_CAPT_W2_SEC_LO i)]⟩,
   ⟨"TIME_TPI_CAPT_W3", 0x40031C, 32, 4, 0, 1, .plain, fun i _ => [(.ro, TIME_TPI_CAPT_W3_SEC_HI i)]⟩,
   ⟨"TIME_PTP_CTRL", 0x400400, 0, 1, 0, 1, .plain, fun _ _ => [(.rw, TIME_PTP_CTRL_DOMNUM_B), (.rw, TIME_PTP_CTRL_DOMNUM_A), (.w1c, TIME_PTP_CTRL_BAD), (.rw, TIME_PTP_CTRL_DOMB_EN), (.rw, TIME_PTP_CTRL_DOMA_EN), (.rw, TIME_PTP_CTRL_TC_EN)]⟩,
   ⟨"TIME_PTP_BAD_CNT", 0x400404, 0, 1, 0, 1, .plain, fun _ _ => [(.rc, TIME_PTP_BAD_CNT_BAD_CNT)]⟩]

/-- The register families of page 5 (Table 23-1). -/
def famsPage5 : List RegFam :=
  [⟨"STAMP_LL_LATENCY", 0x500000, 0, 1, 0, 1, .plain, fun _ _ => [(.rw, STAMP_LL_LATENCY_L)]⟩,
   ⟨"STAMP_LL_STATUS", 0x500004, 0, 1, 0, 1, .plain, fun _ _ => [(.w1c, STAMP_LL_STATUS_LATE), (.ro, STAMP_LL_STATUS_SUSPENDED)]⟩,
   ⟨"STAMP_RET_CTRL", 0x500010, 0, 1, 0, 1, .plain, fun _ _ => [(.rw, STAMP_RET_CTRL_MARK_EN), (.rw, STAMP_RET_CTRL_RING)]⟩,
   ⟨"STAMP_RET_STATUS", 0x500014, 0, 1, 0, 1, .plain, fun _ _ => [(.rc, STAMP_RET_STATUS_MAX_LEVEL), (.w1c, STAMP_RET_STATUS_LOST), (.ro, STAMP_RET_STATUS_LEVEL)]⟩,
   ⟨"STAMP_LOST_CNT", 0x500018, 0, 1, 0, 1, .plain, fun _ _ => [(.rc, STAMP_LOST_CNT_LOST)]⟩,
   ⟨"STAMP_CAL_CTRL", 0x500020, 0, 1, 0, 1, .plain, fun _ _ => [(.wo, STAMP_CAL_CTRL_START), (.rw, STAMP_CAL_CTRL_PORT)]⟩,
   ⟨"STAMP_CAL_RESULT", 0x500024, 0, 1, 0, 1, .plain, fun _ _ => [(.ro, STAMP_CAL_RESULT_STATUS), (.ro, STAMP_CAL_RESULT_LOOP_ERR)]⟩,
   ⟨"STAMP_CAL_SUGGEST", 0x500028, 0, 1, 0, 1, .plain, fun _ _ => [(.ro, STAMP_CAL_SUGGEST_ING), (.ro, STAMP_CAL_SUGGEST_EGR)]⟩,
   ⟨"STAMP_PORT_CTRL", 0x501000, 16, 1024, 0, 1, .port, fun i _ => [(.rw, STAMP_PORT_CTRL_LL_CLASSES i), (.rw, STAMP_PORT_CTRL_LL_EN i), (.rw, STAMP_PORT_CTRL_TRAILER i)]⟩,
   ⟨"STAMP_PORT_TRIM", 0x501004, 16, 1024, 0, 1, .port, fun i _ => [(.rw, STAMP_PORT_TRIM_ING_TRIM i), (.rw, STAMP_PORT_TRIM_EGR_TRIM i)]⟩,
   ⟨"STAMP_PORT_STATUS", 0x501008, 16, 1024, 0, 1, .port, fun i _ => [(.ro, STAMP_PORT_STATUS_DESKEW i), (.ro, STAMP_PORT_STATUS_CAL_VALID i)]⟩]

/-- The register families of page 6 (Table 23-1). -/
def famsPage6 : List RegFam :=
  [⟨"TALLY_CTRL", 0x600000, 0, 1, 0, 1, .plain, fun _ _ => [(.rw, TALLY_CTRL_SVC_LEVEL), (.rw, TALLY_CTRL_ENABLE)]⟩,
   ⟨"TALLY_CLASS", 0x600004, 0, 1, 0, 1, .plain, fun _ _ => [(.rw, TALLY_CLASS_DROP_IF_FULL), (.rw, TALLY_CLASS_RECORD)]⟩,
   ⟨"TALLY_SPAN", 0x600008, 0, 1, 0, 1, .plain, fun _ _ => [(.rw, TALLY_SPAN_SPAN)]⟩,
   ⟨"TALLY_SEAL_PERIOD", 0x60000C, 0, 1, 0, 1, .plain, fun _ _ => [(.rw, TALLY_SEAL_PERIOD_PERIOD_US)]⟩,
   ⟨"TALLY_RING_SIZE", 0x600010, 0, 1, 0, 1, .plain, fun _ _ => [(.rw, TALLY_RING_SIZE_UNITS)]⟩,
   ⟨"TALLY_STATUS", 0x600014, 0, 1, 0, 1, .plain, fun _ _ => [(.ro, TALLY_STATUS_SERVICE), (.w1c, TALLY_STATUS_LOSS), (.w1c, TALLY_STATUS_POISON), (.w1c, TALLY_STATUS_UNSIGNED), (.w1c, TALLY_STATUS_SEAL_DROP), (.w1c, TALLY_STATUS_RECORD_DROP)]⟩,
   ⟨"TALLY_RING_LEVEL", 0x600018, 0, 1, 0, 1, .plain, fun _ _ => [(.ro, TALLY_RING_LEVEL_LEVEL)]⟩,
   ⟨"TALLY_LOST_CNT", 0x60001C, 0, 1, 0, 1, .plain, fun _ _ => [(.rc, TALLY_LOST_CNT_LOST)]⟩,
   ⟨"TALLY_SEAL_INDEX_LO", 0x600020, 0, 1, 0, 1, .plain, fun _ _ => [(.ro, TALLY_SEAL_INDEX_LO_INDEX)]⟩,
   ⟨"TALLY_SEAL_INDEX_HI", 0x600024, 0, 1, 0, 1, .plain, fun _ _ => [(.ro, TALLY_SEAL_INDEX_HI_INDEX)]⟩,
   ⟨"TALLY_MRAM_RETIRED", 0x600028, 0, 1, 0, 1, .plain, fun _ _ => [(.ro, TALLY_MRAM_RETIRED_RETIRED)]⟩,
   ⟨"TALLY_GM_A_LO", 0x600030, 0, 1, 0, 1, .plain, fun _ _ => [(.rw, TALLY_GM_A_LO_GM_ID)]⟩,
   ⟨"TALLY_GM_A_HI", 0x600034, 0, 1, 0, 1, .plain, fun _ _ => [(.rw, TALLY_GM_A_HI_GM_ID)]⟩,
   ⟨"TALLY_GM_B_LO", 0x600038, 0, 1, 0, 1, .plain, fun _ _ => [(.rw, TALLY_GM_B_LO_GM_ID)]⟩,
   ⟨"TALLY_GM_B_HI", 0x60003C, 0, 1, 0, 1, .plain, fun _ _ => [(.rw, TALLY_GM_B_HI_GM_ID)]⟩]

/-- The register families of page 7 (Table 23-1). -/
def famsPage7 : List RegFam :=
  [⟨"PARSE_STATUS", 0x700000, 0, 1, 0, 1, .plain, fun _ _ => [(.w1c, PARSE_STATUS_TRUNC), (.w1c, PARSE_STATUS_PARITY), (.w1c, PARSE_STATUS_DEMOTED), (.w1c, PARSE_STATUS_CARRY_FULL)]⟩,
   ⟨"PARSE_PARITY_LOC", 0x700004, 0, 1, 0, 1, .plain, fun _ _ => [(.ro, PARSE_PARITY_LOC_VERSION), (.ro, PARSE_PARITY_LOC_RULE_NUM)]⟩,
   ⟨"PARSE_CARRY_CNT", 0x700010, 0, 1, 0, 1, .plain, fun _ _ => [(.rc, PARSE_CARRY_CNT_COUNT)]⟩,
   ⟨"PARSE_CARRY_FULL_CNT", 0x700014, 0, 1, 0, 1, .plain, fun _ _ => [(.rc, PARSE_CARRY_FULL_CNT_COUNT)]⟩,
   ⟨"PARSE_DEMOTED_CNT", 0x700018, 0, 1, 0, 1, .plain, fun _ _ => [(.rc, PARSE_DEMOTED_CNT_COUNT)]⟩,
   ⟨"PARSE_NOMATCH_CNT", 0x70001C, 0, 1, 0, 1, .plain, fun _ _ => [(.rc, PARSE_NOMATCH_CNT_COUNT)]⟩,
   ⟨"PARSE_TRUNC_CNT", 0x700020, 0, 1, 0, 1, .plain, fun _ _ => [(.rc, PARSE_TRUNC_CNT_COUNT)]⟩,
   ⟨"PARSE_PORT_CFG", 0x701000, 16, 1024, 0, 1, .port, fun i _ => [(.rw, PARSE_PORT_CFG_DEF_FWD i), (.rw, PARSE_PORT_CFG_DEF_COLOUR i), (.rw, PARSE_PORT_CFG_DEF_QUEUE i), (.rw, PARSE_PORT_CFG_DEF_CLASS i), (.rw, PARSE_PORT_CFG_PROFILE i)]⟩,
   ⟨"PARSE_PROF_CTRL", 0x708000, 128, 64, 0, 1, .plain, fun i _ => [(.ro, PARSE_PROF_CTRL_DRAINED i), (.rw, PARSE_PROF_CTRL_VALID i), (.ro, PARSE_PROF_CTRL_KEY_BYTES i), (.rw, PARSE_PROF_CTRL_RANGE_EN i)]⟩,
   ⟨"PARSE_PROF_EXT", 0x708010, 128, 64, 4, 16, .plain, fun i j => [(.rw, PARSE_PROF_EXT_LEN i j), (.rw, PARSE_PROF_EXT_ANCHOR i j), (.rw, PARSE_PROF_EXT_OFFSET i j)]⟩,
   ⟨"PARSE_PROF_RANGE", 0x708050, 128, 64, 4, 4, .plain, fun i j => [(.rw, PARSE_PROF_RANGE_ANCHOR i j), (.rw, PARSE_PROF_RANGE_OFFSET i j)]⟩]

/-- The register families of page 8 (Table 23-1). -/
def famsPage8 : List RegFam :=
  [⟨"RULE_STATUS", 0x800000, 0, 1, 0, 1, .plain, fun _ _ => [(.ro, RULE_STATUS_CURRENT), (.w1c, RULE_STATUS_DRAIN_STUCK)]⟩,
   ⟨"RULE_VER_STATE", 0x800010, 4, 4, 0, 1, .plain, fun i _ => [(.ro, RULE_VER_STATE_STATE i), (.ro, RULE_VER_STATE_INFLIGHT i)]⟩,
   ⟨"RULE_VER_NUM", 0x800020, 4, 4, 0, 1, .plain, fun i _ => [(.ro, RULE_VER_NUM_NUM i)]⟩,
   ⟨"RULE_STORE_USED", 0x800030, 0, 1, 0, 1, .plain, fun _ _ => [(.ro, RULE_STORE_USED_USED)]⟩,
   ⟨"RULE_STAGE_STATUS", 0x800034, 0, 1, 0, 1, .plain, fun _ _ => [(.ro, RULE_STAGE_STATUS_CHANGES)]⟩]

/-- The register families of page 9 (Table 23-1). -/
def famsPage9 : List RegFam :=
  [⟨"FDB_CTRL", 0x900000, 0, 1, 0, 1, .plain, fun _ _ => [(.rw, FDB_CTRL_MOVE_LIMIT), (.rw, FDB_CTRL_MOVE_WINDOW), (.rw, FDB_CTRL_LEARN_HOLD)]⟩,
   ⟨"FDB_STATUS", 0x900004, 0, 1, 0, 1, .plain, fun _ _ => [(.w1c, FDB_STATUS_LEARN_DROP), (.w1c, FDB_STATUS_PARITY), (.w1c, FDB_STATUS_CONFLICT), (.w1c, FDB_STATUS_FULL), (.w1c, FDB_STATUS_PINNED), (.w1c, FDB_STATUS_MOVE)]⟩,
   ⟨"FDB_USED", 0x900008, 0, 1, 0, 1, .plain, fun _ _ => [(.ro, FDB_USED_USED)]⟩,
   ⟨"FDB_MOVE_LAST_LO", 0x900010, 0, 1, 0, 1, .plain, fun _ _ => [(.ro, FDB_MOVE_LAST_LO_MAC_LO)]⟩,
   ⟨"FDB_MOVE_LAST_HI", 0x900014, 0, 1, 0, 1, .plain, fun _ _ => [(.ro, FDB_MOVE_LAST_HI_VLAN), (.ro, FDB_MOVE_LAST_HI_MAC_HI)]⟩,
   ⟨"FDB_MOVE_LAST_PORTS", 0x900018, 0, 1, 0, 1, .plain, fun _ _ => [(.ro, FDB_MOVE_LAST_PORTS_PIN), (.ro, FDB_MOVE_LAST_PORTS_OLD_PORT), (.ro, FDB_MOVE_LAST_PORTS_NEW_PORT)]⟩,
   ⟨"FDB_PARITY_LOC", 0x90001C, 0, 1, 0, 1, .plain, fun _ _ => [(.ro, FDB_PARITY_LOC_BANK), (.ro, FDB_PARITY_LOC_BUCKET), (.ro, FDB_PARITY_LOC_SLOT)]⟩,
   ⟨"FDB_LEARN_CNT", 0x900020, 0, 1, 0, 1, .plain, fun _ _ => [(.rc, FDB_LEARN_CNT_COUNT)]⟩,
   ⟨"FDB_MOVE_CNT", 0x900024, 0, 1, 0, 1, .plain, fun _ _ => [(.rc, FDB_MOVE_CNT_COUNT)]⟩,
   ⟨"FDB_LEARN_DROP_CNT", 0x900028, 0, 1, 0, 1, .plain, fun _ _ => [(.rc, FDB_LEARN_DROP_CNT_COUNT)]⟩,
   ⟨"FDB_LEARN_FULL_CNT", 0x90002C, 0, 1, 0, 1, .plain, fun _ _ => [(.rc, FDB_LEARN_FULL_CNT_COUNT)]⟩,
   ⟨"FDB_MOVE_REFUSED_CNT", 0x900030, 0, 1, 0, 1, .plain, fun _ _ => [(.rc, FDB_MOVE_REFUSED_CNT_COUNT)]⟩,
   ⟨"FDB_PARITY_CNT", 0x900034, 0, 1, 0, 1, .plain, fun _ _ => [(.rc, FDB_PARITY_CNT_COUNT)]⟩,
   ⟨"FDB_PORT_CFG", 0x901000, 16, 1024, 0, 1, .port, fun i _ => [(.rw, FDB_PORT_CFG_MISS_GROUP i), (.rw, FDB_PORT_CFG_MISS_ACT i), (.rw, FDB_PORT_CFG_HAIRPIN i), (.rw, FDB_PORT_CFG_LEARN i), (.rw, FDB_PORT_CFG_PVID i)]⟩]

/-- The register families of page 10 (Table 23-1). -/
def famsPage10 : List RegFam :=
  [⟨"LPM_CTRL", 0xA00000, 0, 1, 0, 1, .plain, fun _ _ => [(.rw, LPM_CTRL_V6_MISS), (.rw, LPM_CTRL_V4_MISS)]⟩,
   ⟨"LPM_STATUS", 0xA00004, 0, 1, 0, 1, .plain, fun _ _ => [(.w1c, LPM_STATUS_PARITY), (.w1c, LPM_STATUS_FULL)]⟩,
   ⟨"LPM_USED", 0xA00008, 0, 1, 0, 1, .plain, fun _ _ => [(.ro, LPM_USED_USED)]⟩,
   ⟨"LPM_V4_COUNT", 0xA0000C, 0, 1, 0, 1, .plain, fun _ _ => [(.ro, LPM_V4_COUNT_COUNT)]⟩,
   ⟨"LPM_V6_COUNT", 0xA00010, 0, 1, 0, 1, .plain, fun _ _ => [(.ro, LPM_V6_COUNT_COUNT)]⟩,
   ⟨"LPM_PARITY_LOC", 0xA00014, 0, 1, 0, 1, .plain, fun _ _ => [(.ro, LPM_PARITY_LOC_ROW)]⟩,
   ⟨"LPM_PARITY_CNT", 0xA00018, 0, 1, 0, 1, .plain, fun _ _ => [(.rc, LPM_PARITY_CNT_COUNT)]⟩]

/-- The register families of page 11 (Table 23-1). -/
def famsPage11 : List RegFam :=
  [⟨"FLOW_STATUS", 0xB00000, 0, 1, 0, 1, .plain, fun _ _ => [(.w1c, FLOW_STATUS_POISON), (.w1c, FLOW_STATUS_FULL), (.w1c, FLOW_STATUS_BYPASS)]⟩,
   ⟨"FLOW_USED", 0xB00004, 0, 1, 0, 1, .plain, fun _ _ => [(.ro, FLOW_USED_USED)]⟩,
   ⟨"FLOW_POISON_LOC", 0xB00008, 0, 1, 0, 1, .plain, fun _ _ => [(.ro, FLOW_POISON_LOC_KEY), (.ro, FLOW_POISON_LOC_INDEX)]⟩,
   ⟨"FLOW_HIT_CNT", 0xB00010, 0, 1, 0, 1, .plain, fun _ _ => [(.rc, FLOW_HIT_CNT_COUNT)]⟩,
   ⟨"FLOW_MISS_CNT", 0xB00014, 0, 1, 0, 1, .plain, fun _ _ => [(.rc, FLOW_MISS_CNT_COUNT)]⟩,
   ⟨"FLOW_ABSENT_CNT", 0xB00018, 0, 1, 0, 1, .plain, fun _ _ => [(.rc, FLOW_ABSENT_CNT_COUNT)]⟩,
   ⟨"FLOW_BYPASS_CNT", 0xB0001C, 0, 1, 0, 1, .plain, fun _ _ => [(.rc, FLOW_BYPASS_CNT_COUNT)]⟩,
   ⟨"FLOW_STALE_CNT", 0xB00020, 0, 1, 0, 1, .plain, fun _ _ => [(.rc, FLOW_STALE_CNT_COUNT)]⟩]

/-- The register families of page 12 (Table 23-1). -/
def famsPage12 : List RegFam :=
  [⟨"BUF_CLASS_CFG", 0xC00000, 4, 16, 0, 1, .plain, fun i _ => [(.rw, BUF_CLASS_CFG_SPILL i), (.rw, BUF_CLASS_CFG_LOSSLESS i), (.rw, BUF_CLASS_CFG_POOL i)]⟩,
   ⟨"BUF_POOL_SIZE", 0xC00100, 32, 16, 0, 1, .plain, fun i _ => [(.rw, BUF_POOL_SIZE_SIZE i)]⟩,
   ⟨"BUF_POOL_CFG", 0xC00104, 32, 16, 0, 1, .plain, fun i _ => [(.rw, BUF_POOL_CFG_PFC_PRI i), (.rw, BUF_POOL_CFG_MIN i)]⟩,
   ⟨"BUF_POOL_XOFF", 0xC00108, 32, 16, 0, 1, .plain, fun i _ => [(.rw, BUF_POOL_XOFF_XOFF i)]⟩,
   ⟨"BUF_POOL_XON", 0xC0010C, 32, 16, 0, 1, .plain, fun i _ => [(.rw, BUF_POOL_XON_XON i)]⟩,
   ⟨"BUF_POOL_YELLOW", 0xC00110, 32, 16, 0, 1, .plain, fun i _ => [(.rw, BUF_POOL_YELLOW_YELLOW_DROP i)]⟩,
   ⟨"BUF_POOL_RED", 0xC00114, 32, 16, 0, 1, .plain, fun i _ => [(.rw, BUF_POOL_RED_RED_DROP i)]⟩,
   ⟨"BUF_POOL_USED", 0xC00118, 32, 16, 0, 1, .plain, fun i _ => [(.ro, BUF_POOL_USED_USED i)]⟩,
   ⟨"BUF_POOL_SHARED", 0xC0011C, 32, 16, 0, 1, .plain, fun i _ => [(.ro, BUF_POOL_SHARED_SHARED i)]⟩,
   ⟨"BUF_STATUS", 0xC00400, 0, 1, 0, 1, .plain, fun _ _ => [(.w1c, BUF_STATUS_SPILL_POISON), (.w1c, BUF_STATUS_SPILL_FULL), (.w1c, BUF_STATUS_BAD_FREE), (.w1c, BUF_STATUS_REF_LIMIT), (.w1c, BUF_STATUS_LANDING), (.w1c, BUF_STATUS_HEADROOM), (.w1c, BUF_STATUS_DROP), (.ro, BUF_STATUS_XOFF)]⟩,
   ⟨"BUF_XOFF_POOLS", 0xC00404, 0, 1, 0, 1, .plain, fun _ _ => [(.ro, BUF_XOFF_POOLS_POOLS)]⟩,
   ⟨"BUF_LANDING", 0xC00408, 0, 1, 0, 1, .plain, fun _ _ => [(.rc, BUF_LANDING_MAX), (.ro, BUF_LANDING_NOW)]⟩,
   ⟨"BUF_WITHDRAWN", 0xC0040C, 0, 1, 0, 1, .plain, fun _ _ => [(.ro, BUF_WITHDRAWN_NEXT), (.ro, BUF_WITHDRAWN_COUNT)]⟩,
   ⟨"BUF_BAD_FREE_LOC", 0xC00410, 0, 1, 0, 1, .plain, fun _ _ => [(.ro, BUF_BAD_FREE_LOC_KIND), (.ro, BUF_BAD_FREE_LOC_AGENT), (.ro, BUF_BAD_FREE_LOC_BEAD)]⟩,
   ⟨"BUF_DROP_CNT", 0xC00420, 0, 1, 0, 1, .plain, fun _ _ => [(.rc, BUF_DROP_CNT_COUNT)]⟩,
   ⟨"BUF_HEADROOM_CNT", 0xC00424, 0, 1, 0, 1, .plain, fun _ _ => [(.rc, BUF_HEADROOM_CNT_COUNT)]⟩,
   ⟨"BUF_LANDING_DROP_CNT", 0xC00428, 0, 1, 0, 1, .plain, fun _ _ => [(.rc, BUF_LANDING_DROP_CNT_COUNT)]⟩,
   ⟨"BUF_REF_LIMIT_CNT", 0xC0042C, 0, 1, 0, 1, .plain, fun _ _ => [(.rc, BUF_REF_LIMIT_CNT_COUNT)]⟩,
   ⟨"BUF_BAD_FREE_CNT", 0xC00430, 0, 1, 0, 1, .plain, fun _ _ => [(.rc, BUF_BAD_FREE_CNT_COUNT)]⟩,
   ⟨"BUF_SPILL_FULL_CNT", 0xC00434, 0, 1, 0, 1, .plain, fun _ _ => [(.rc, BUF_SPILL_FULL_CNT_COUNT)]⟩,
   ⟨"BUF_SPILL_CTRL", 0xC00500, 0, 1, 0, 1, .plain, fun _ _ => [(.rw, BUF_SPILL_CTRL_ENABLE), (.rw, BUF_SPILL_CTRL_RETURN_US), (.rw, BUF_SPILL_CTRL_ON_US), (.rw, BUF_SPILL_CTRL_SIZE_GIB)]⟩,
   ⟨"BUF_SPILL_USED", 0xC00504, 0, 1, 0, 1, .plain, fun _ _ => [(.ro, BUF_SPILL_USED_USED)]⟩]

/-- The register families of page 13 (Table 23-1). -/
def famsPage13 : List RegFam :=
  [⟨"QUE_CTRL", 0xD00000, 0, 1, 0, 1, .plain, fun _ _ => [(.rw, QUE_CTRL_STUCK_MS), (.rw, QUE_CTRL_HOLD_DOWN_US)]⟩,
   ⟨"QUE_STATUS", 0xD00004, 0, 1, 0, 1, .plain, fun _ _ => [(.w1c, QUE_STATUS_COPY_FULL), (.w1c, QUE_STATUS_TAIL_DROP), (.w1c, QUE_STATUS_STUCK)]⟩,
   ⟨"QUE_STUCK_LOC", 0xD00008, 0, 1, 0, 1, .plain, fun _ _ => [(.ro, QUE_STUCK_LOC_QUEUE)]⟩,
   ⟨"QUE_COPIES", 0xD0000C, 0, 1, 0, 1, .plain, fun _ _ => [(.ro, QUE_COPIES_USED)]⟩,
   ⟨"QUE_TAIL_DROP_CNT", 0xD00020, 0, 1, 0, 1, .plain, fun _ _ => [(.rc, QUE_TAIL_DROP_CNT_COUNT)]⟩,
   ⟨"QUE_STUCK_CNT", 0xD00024, 0, 1, 0, 1, .plain, fun _ _ => [(.rc, QUE_STUCK_CNT_COUNT)]⟩,
   ⟨"QUE_COPY_FULL_CNT", 0xD00028, 0, 1, 0, 1, .plain, fun _ _ => [(.rc, QUE_COPY_FULL_CNT_COUNT)]⟩,
   ⟨"QUE_FLUSH_CNT", 0xD0002C, 0, 1, 0, 1, .plain, fun _ _ => [(.rc, QUE_FLUSH_CNT_COUNT)]⟩,
   ⟨"QUE_ROD_LIMIT", 0xD10000, 4, 16384, 0, 1, .queue, fun i _ => [(.rw, QUE_ROD_LIMIT_LIMIT i)]⟩,
   ⟨"QUE_ROD_DEPTH", 0xD20000, 4, 16384, 0, 1, .queue, fun i _ => [(.ro, QUE_ROD_DEPTH_BEADS i)]⟩]

/-- The register families of page 14 (Table 23-1). -/
def famsPage14 : List RegFam :=
  [⟨"MCAST_STATUS", 0xE00000, 0, 1, 0, 1, .plain, fun _ _ => [(.w1c, MCAST_STATUS_FULL)]⟩,
   ⟨"MCAST_MEMBERS_USED", 0xE00004, 0, 1, 0, 1, .plain, fun _ _ => [(.ro, MCAST_MEMBERS_USED_USED)]⟩]

/-- The register families of page 15 (Table 23-1). -/
def famsPage15 : List RegFam :=
  [⟨"MIRROR_SESSION_CTRL", 0xF00000, 16, 64, 0, 1, .plain, fun i _ => [(.rw, MIRROR_SESSION_CTRL_EN i), (.rw, MIRROR_SESSION_CTRL_DIR i), (.rw, MIRROR_SESSION_CTRL_TRAILER i), (.rw, MIRROR_SESSION_CTRL_QUEUE i), (.rw, MIRROR_SESSION_CTRL_TRUNC i), (.rw, MIRROR_SESSION_CTRL_DEST_PORT i)]⟩,
   ⟨"MIRROR_SESSION_DROP", 0xF00004, 16, 64, 0, 1, .plain, fun i _ => [(.rc, MIRROR_SESSION_DROP_DROP i)]⟩,
   ⟨"MIRROR_STATUS", 0xF00800, 0, 1, 0, 1, .plain, fun _ _ => [(.w1c, MIRROR_STATUS_DROP)]⟩,
   ⟨"MIRROR_PORT_CFG", 0xF01000, 16, 1024, 0, 1, .port, fun i _ => [(.rw, MIRROR_PORT_CFG_EGR_EN i), (.rw, MIRROR_PORT_CFG_EGR_SESSION i), (.rw, MIRROR_PORT_CFG_ING_EN i), (.rw, MIRROR_PORT_CFG_ING_SESSION i)]⟩]

/-- The register families of page 16 (Table 23-1). -/
def famsPage16 : List RegFam :=
  [⟨"TM_STATUS", 0x1000000, 0, 1, 0, 1, .plain, fun _ _ => [(.w1c, TM_STATUS_GATE_SUSPENDED), (.w1c, TM_STATUS_GATE_OVERSIZE), (.w1c, TM_STATUS_GATE_ADJUSTED)]⟩,
   ⟨"TM_GATE_LOC", 0x1000004, 0, 1, 0, 1, .plain, fun _ _ => [(.ro, TM_GATE_LOC_KIND), (.ro, TM_GATE_LOC_QUEUE)]⟩,
   ⟨"TM_GATE_OVERSIZE_CNT", 0x1000010, 0, 1, 0, 1, .plain, fun _ _ => [(.rc, TM_GATE_OVERSIZE_CNT_COUNT)]⟩,
   ⟨"TM_GATE_ADJUST_CNT", 0x1000014, 0, 1, 0, 1, .plain, fun _ _ => [(.rc, TM_GATE_ADJUST_CNT_COUNT)]⟩,
   ⟨"TM_PORT_CFG", 0x1001000, 16, 1024, 0, 1, .port, fun i _ => [(.rw, TM_PORT_CFG_OVERHEAD i)]⟩,
   ⟨"TM_GATE_STATUS", 0x1001004, 16, 1024, 0, 1, .port, fun i _ => [(.ro, TM_GATE_STATUS_PENDING i), (.ro, TM_GATE_STATUS_ENABLED i), (.ro, TM_GATE_STATUS_ACTIVE_BANK i), (.ro, TM_GATE_STATUS_GATES i), (.ro, TM_GATE_STATUS_ENTRY i)]⟩,
   ⟨"TM_QUEUE_CFG", 0x1010000, 4, 16384, 0, 1, .queue, fun i _ => [(.rw, TM_QUEUE_CFG_WEIGHT i), (.rw, TM_QUEUE_CFG_SP_LEVEL i)]⟩]

/-- The register families of page 17 (Table 23-1). -/
def famsPage17 : List RegFam :=
  [⟨"DRAM_CTRL", 0x1100000, 0, 1, 0, 1, .plain, fun _ _ => [(.rw, DRAM_CTRL_SCRUB_EN), (.rw, DRAM_CTRL_PARK_EN), (.rw, DRAM_CTRL_SERVICE)]⟩,
   ⟨"DRAM_SCHED", 0x1100004, 0, 1, 0, 1, .plain, fun _ _ => [(.rw, DRAM_SCHED_WR_HIGH), (.rw, DRAM_SCHED_WR_LOW), (.rw, DRAM_SCHED_WR_AGE_NS)]⟩,
   ⟨"DRAM_PWR", 0x1100008, 0, 1, 0, 1, .plain, fun _ _ => [(.rw, DRAM_PWR_PARK_MS), (.rw, DRAM_PWR_SID_IDLE_MS)]⟩,
   ⟨"DRAM_ROW_GUARD", 0x110000C, 0, 1, 0, 1, .plain, fun _ _ => [(.rw, DRAM_ROW_GUARD_THRESHOLD)]⟩,
   ⟨"DRAM_RECAL", 0x1100010, 0, 1, 0, 1, .plain, fun _ _ => [(.rw, DRAM_RECAL_RECAL_MS)]⟩,
   ⟨"DRAM_TRAIN", 0x1100014, 0, 1, 0, 1, .plain, fun _ _ => [(.wo, DRAM_TRAIN_START), (.ro, DRAM_TRAIN_LANE_REPAIRED), (.ro, DRAM_TRAIN_STATUS)]⟩,
   ⟨"DRAM_STATUS", 0x1100020, 0, 1, 0, 1, .plain, fun _ _ => [(.w1c, DRAM_STATUS_PC_FAIL), (.ro, DRAM_STATUS_HOT), (.w1c, DRAM_STATUS_TEMP), (.w1c, DRAM_STATUS_UNCORR), (.w1c, DRAM_STATUS_CORRECTED), (.w1c, DRAM_STATUS_CA_REPLAY), (.ro, DRAM_STATUS_PARKED1), (.ro, DRAM_STATUS_PARKED0)]⟩,
   ⟨"DRAM_PC_FAILED_LO", 0x1100024, 0, 1, 0, 1, .plain, fun _ _ => [(.ro, DRAM_PC_FAILED_LO_FAILED)]⟩,
   ⟨"DRAM_PC_FAILED_HI", 0x1100028, 0, 1, 0, 1, .plain, fun _ _ => [(.ro, DRAM_PC_FAILED_HI_FAILED)]⟩,
   ⟨"DRAM_ERR_LOC", 0x110002C, 0, 1, 0, 1, .plain, fun _ _ => [(.ro, DRAM_ERR_LOC_UNCORR), (.ro, DRAM_ERR_LOC_USER), (.ro, DRAM_ERR_LOC_GRANULE)]⟩,
   ⟨"DRAM_TEMP", 0x1100030, 0, 1, 0, 1, .plain, fun _ _ => [(.ro, DRAM_TEMP_STACK1), (.ro, DRAM_TEMP_STACK0)]⟩,
   ⟨"DRAM_CORR_CNT", 0x1100040, 0, 1, 0, 1, .plain, fun _ _ => [(.rc, DRAM_CORR_CNT_COUNT)]⟩,
   ⟨"DRAM_UNCORR_CNT", 0x1100044, 0, 1, 0, 1, .plain, fun _ _ => [(.rc, DRAM_UNCORR_CNT_COUNT)]⟩,
   ⟨"DRAM_CA_REPLAY_CNT", 0x1100048, 0, 1, 0, 1, .plain, fun _ _ => [(.rc, DRAM_CA_REPLAY_CNT_COUNT)]⟩,
   ⟨"DRAM_ROW_GUARD_CNT", 0x110004C, 0, 1, 0, 1, .plain, fun _ _ => [(.rc, DRAM_ROW_GUARD_CNT_COUNT)]⟩,
   ⟨"DRAM_PARK_CNT", 0x1100050, 0, 1, 0, 1, .plain, fun _ _ => [(.rc, DRAM_PARK_CNT_COUNT)]⟩,
   ⟨"DRAM_LANE_REPAIRED_CNT", 0x1100054, 0, 1, 0, 1, .plain, fun _ _ => [(.rc, DRAM_LANE_REPAIRED_CNT_COUNT)]⟩]

/-- The register families of page 18 (Table 23-1). -/
def famsPage18 : List RegFam :=
  [⟨"HLINK_CTRL", 0x1200000, 0, 1, 0, 1, .plain, fun _ _ => [(.rw, HLINK_CTRL_MEM_TO_US), (.rw, HLINK_CTRL_DOWN_MS), (.rw, HLINK_CTRL_MAX_RATE), (.rw, HLINK_CTRL_LOST_ACT)]⟩,
   ⟨"HLINK_STATUS", 0x1200004, 0, 1, 0, 1, .plain, fun _ _ => [(.w1c, HLINK_STATUS_HOST_LOST), (.w1c, HLINK_STATUS_MEM_TIMEOUT), (.w1c, HLINK_STATUS_PROTOCOL), (.w1c, HLINK_STATUS_RETRAINED), (.ro, HLINK_STATUS_REPAIRED), (.ro, HLINK_STATUS_RATE), (.ro, HLINK_STATUS_STATE)]⟩,
   ⟨"HLINK_PROTO_LOC", 0x1200008, 0, 1, 0, 1, .plain, fun _ _ => [(.ro, HLINK_PROTO_LOC_TYPE), (.ro, HLINK_PROTO_LOC_REASON), (.ro, HLINK_PROTO_LOC_TAG)]⟩,
   ⟨"HLINK_CRC_RETRY_CNT", 0x1200010, 0, 1, 0, 1, .plain, fun _ _ => [(.rc, HLINK_CRC_RETRY_CNT_COUNT)]⟩,
   ⟨"HLINK_RETRAIN_CNT", 0x1200014, 0, 1, 0, 1, .plain, fun _ _ => [(.rc, HLINK_RETRAIN_CNT_COUNT)]⟩,
   ⟨"HLINK_MEM_TIMEOUT_CNT", 0x1200018, 0, 1, 0, 1, .plain, fun _ _ => [(.rc, HLINK_MEM_TIMEOUT_CNT_COUNT)]⟩,
   ⟨"HLINK_LATE_REPLY_CNT", 0x120001C, 0, 1, 0, 1, .plain, fun _ _ => [(.rc, HLINK_LATE_REPLY_CNT_COUNT)]⟩,
   ⟨"HLINK_PROTOCOL_CNT", 0x1200020, 0, 1, 0, 1, .plain, fun _ _ => [(.rc, HLINK_PROTOCOL_CNT_COUNT)]⟩]

/-- The register families of page 19 (Table 23-1). -/
def famsPage19 : List RegFam :=
  [⟨"RING_STATUS", 0x1300000, 0, 1, 0, 1, .plain, fun _ _ => [(.w1c, RING_STATUS_CNT_SKIP), (.w1c, RING_STATUS_PUNT_DROP), (.w1c, RING_STATUS_BAD_DB), (.ro, RING_STATUS_HALTED)]⟩,
   ⟨"RING_HALTED_LO", 0x1300004, 0, 1, 0, 1, .plain, fun _ _ => [(.ro, RING_HALTED_LO_HALTED)]⟩,
   ⟨"RING_HALTED_HI", 0x1300008, 0, 1, 0, 1, .plain, fun _ _ => [(.ro, RING_HALTED_HI_HALTED)]⟩,
   ⟨"RING_RESUME", 0x130000C, 0, 1, 0, 1, .plain, fun _ _ => [(.wo, RING_RESUME_GO), (.wo, RING_RESUME_RING)]⟩,
   ⟨"RING_BAD_DB_LOC", 0x1300010, 0, 1, 0, 1, .plain, fun _ _ => [(.ro, RING_BAD_DB_LOC_RING)]⟩,
   ⟨"RING_PUNT_MAP_LO", 0x1300014, 0, 1, 0, 1, .plain, fun _ _ => [(.rw, RING_PUNT_MAP_LO_MAP)]⟩,
   ⟨"RING_PUNT_MAP_HI", 0x1300018, 0, 1, 0, 1, .plain, fun _ _ => [(.rw, RING_PUNT_MAP_HI_MAP)]⟩,
   ⟨"RING_CNT_CTRL", 0x130001C, 0, 1, 0, 1, .plain, fun _ _ => [(.rw, RING_CNT_CTRL_EN), (.rw, RING_CNT_CTRL_PERIOD_MS)]⟩,
   ⟨"RING_BAD_DB_CNT", 0x1300020, 0, 1, 0, 1, .plain, fun _ _ => [(.rc, RING_BAD_DB_CNT_COUNT)]⟩,
   ⟨"RING_CNT_SKIP_CNT", 0x1300024, 0, 1, 0, 1, .plain, fun _ _ => [(.rc, RING_CNT_SKIP_CNT_COUNT)]⟩,
   ⟨"RING_BASE_LO", 0x1301000, 64, 64, 0, 1, .plain, fun i _ => [(.rw, RING_BASE_LO_ADDR i)]⟩,
   ⟨"RING_BASE_HI", 0x1301004, 64, 64, 0, 1, .plain, fun i _ => [(.rw, RING_BASE_HI_ADDR_HI i)]⟩,
   ⟨"RING_IDXBLK_LO", 0x1301008, 64, 64, 0, 1, .plain, fun i _ => [(.rw, RING_IDXBLK_LO_ADDR i)]⟩,
   ⟨"RING_IDXBLK_HI", 0x130100C, 64, 64, 0, 1, .plain, fun i _ => [(.rw, RING_IDXBLK_HI_ADDR_HI i)]⟩,
   ⟨"RING_CFG", 0x1301010, 64, 64, 0, 1, .plain, fun i _ => [(.rw, RING_CFG_ENABLE i), (.ro, RING_CFG_STOPPED i), (.rw, RING_CFG_BUF_SIZE i), (.rw, RING_CFG_CQ i), (.rw, RING_CFG_LOG2_SIZE i)]⟩,
   ⟨"RING_DEV_INDEX", 0x1301014, 64, 64, 0, 1, .plain, fun i _ => [(.ro, RING_DEV_INDEX_DEV_INDEX i)]⟩,
   ⟨"RING_DB", 0x1301018, 64, 64, 0, 1, .plain, fun i _ => [(.ro, RING_DB_DOORBELL i)]⟩,
   ⟨"RING_PUNT_BUF_LO", 0x1301020, 64, 64, 0, 1, .plain, fun i _ => [(.rw, RING_PUNT_BUF_LO_ADDR i)]⟩,
   ⟨"RING_PUNT_BUF_HI", 0x1301024, 64, 64, 0, 1, .plain, fun i _ => [(.rw, RING_PUNT_BUF_HI_ADDR_HI i)]⟩,
   ⟨"RING_DROP_CNT", 0x1301028, 64, 64, 0, 1, .plain, fun i _ => [(.rc, RING_DROP_CNT_DROP i)]⟩]

/-- The register families of page 20 (Table 23-1). -/
def famsPage20 : List RegFam :=
  [⟨"EVT_CTRL", 0x1400000, 0, 1, 0, 1, .plain, fun _ _ => [(.rw, EVT_CTRL_KEEPALIVE_US)]⟩,
   ⟨"EVT_SUMMARY", 0x1400004, 0, 1, 0, 1, .plain, fun _ _ => [(.ro, EVT_SUMMARY_COUNT), (.ro, EVT_SUMMARY_ATTN)]⟩,
   ⟨"EVT_KEEPALIVE_CNT", 0x1400008, 0, 1, 0, 1, .plain, fun _ _ => [(.rc, EVT_KEEPALIVE_CNT_COUNT)]⟩,
   ⟨"EVT_PENDING", 0x1400100, 4, 128, 0, 1, .plain, fun i _ => [(.ro, EVT_PENDING_PENDING i)]⟩,
   ⟨"EVT_MASK", 0x1400300, 4, 128, 0, 1, .plain, fun i _ => [(.rw, EVT_MASK_MASK i)]⟩]

/-- The register families of page 21 (Table 23-1). -/
def famsPage21 : List RegFam :=
  [⟨"RCK_ROM_ID", 0x1500000, 0, 1, 0, 1, .plain, fun _ _ => [(.ro, RCK_ROM_ID_VERSION), (.ro, RCK_ROM_ID_FAMILY)]⟩,
   ⟨"RCK_STATUS", 0x1500004, 0, 1, 0, 1, .plain, fun _ _ => [(.w1c, RCK_STATUS_PATCH_EVT), (.ro, RCK_STATUS_HALTED)]⟩,
   ⟨"RCK_PREEMPT_CNT", 0x1500008, 0, 1, 0, 1, .plain, fun _ _ => [(.rc, RCK_PREEMPT_CNT_COUNT)]⟩,
   ⟨"RCK_PATCH_CTRL", 0x1500010, 0, 1, 0, 1, .plain, fun _ _ => [(.wo, RCK_PATCH_CTRL_LOAD), (.rw, RCK_PATCH_CTRL_LEN)]⟩,
   ⟨"RCK_PATCH_STATUS", 0x1500014, 0, 1, 0, 1, .plain, fun _ _ => [(.ro, RCK_PATCH_STATUS_STATE), (.ro, RCK_PATCH_STATUS_REASON), (.ro, RCK_PATCH_STATUS_MATCHES), (.ro, RCK_PATCH_STATUS_WORDS)]⟩,
   ⟨"RCK_PATCH_VER", 0x1500018, 0, 1, 0, 1, .plain, fun _ _ => [(.ro, RCK_PATCH_VER_PATCH_VER)]⟩,
   ⟨"RCK_PATCH_DIGEST", 0x1500020, 4, 8, 0, 1, .plain, fun i _ => [(.ro, RCK_PATCH_DIGEST_DIGEST i)]⟩,
   ⟨"RCK_ENG_STATUS", 0x1500100, 4, 8, 0, 1, .plain, fun i _ => [(.ro, RCK_ENG_STATUS_STATE i), (.ro, RCK_ENG_STATUS_PATCHED i), (.ro, RCK_ENG_STATUS_ROUTINE i), (.ro, RCK_ENG_STATUS_SUSPENDED i), (.ro, RCK_ENG_STATUS_CHECKPOINTS i)]⟩,
   ⟨"RCK_PATCH_STAGE", 0x1508000, 4, 8192, 0, 1, .plain, fun i _ => [(.wo, RCK_PATCH_STAGE_DATA i)]⟩]

/-- The register families of page 22 (Table 23-1). -/
def famsPage22 : List RegFam :=
  [⟨"SEC_BOOT", 0x1600000, 0, 1, 0, 1, .plain, fun _ _ => [(.ro, SEC_BOOT_STATE), (.ro, SEC_BOOT_REASON), (.ro, SEC_BOOT_STAGE)]⟩,
   ⟨"SEC_LIFECYCLE", 0x1600004, 0, 1, 0, 1, .plain, fun _ _ => [(.ro, SEC_LIFECYCLE_SVN_MIN), (.ro, SEC_LIFECYCLE_ID_OK), (.ro, SEC_LIFECYCLE_OWNER_DEBUG_ONLY), (.ro, SEC_LIFECYCLE_STATE)]⟩,
   ⟨"SEC_DEVICE_ID_LO", 0x1600008, 0, 1, 0, 1, .plain, fun _ _ => [(.ro, SEC_DEVICE_ID_LO_ID)]⟩,
   ⟨"SEC_DEVICE_ID_HI", 0x160000C, 0, 1, 0, 1, .plain, fun _ _ => [(.ro, SEC_DEVICE_ID_HI_ID)]⟩,
   ⟨"SEC_STATUS", 0x1600010, 0, 1, 0, 1, .plain, fun _ _ => [(.w1c, SEC_STATUS_TOKEN_REJECT), (.w1c, SEC_STATUS_BUNDLE)]⟩,
   ⟨"SEC_DEBUG_STATUS", 0x1600014, 0, 1, 0, 1, .plain, fun _ _ => [(.ro, SEC_DEBUG_STATUS_BY_OWNER), (.ro, SEC_DEBUG_STATUS_GRANTED)]⟩,
   ⟨"SEC_BUNDLE_CTRL", 0x1600018, 0, 1, 0, 1, .plain, fun _ _ => [(.wo, SEC_BUNDLE_CTRL_LOAD), (.rw, SEC_BUNDLE_CTRL_KIND), (.rw, SEC_BUNDLE_CTRL_LEN)]⟩,
   ⟨"SEC_BUNDLE_STATUS", 0x160001C, 0, 1, 0, 1, .plain, fun _ _ => [(.ro, SEC_BUNDLE_STATUS_STATE), (.ro, SEC_BUNDLE_STATUS_REASON), (.ro, SEC_BUNDLE_STATUS_OPS_DONE)]⟩,
   ⟨"SEC_DEBUG_CHALLENGE", 0x1600040, 4, 8, 0, 1, .plain, fun i _ => [(.ro, SEC_DEBUG_CHALLENGE_CHALLENGE i)]⟩,
   ⟨"SEC_FUSE_IMAGE", 0x1600400, 4, 128, 0, 1, .plain, fun i _ => [(.ro, SEC_FUSE_IMAGE_FUSE i)]⟩,
   ⟨"SEC_STAGE", 0x1608000, 4, 512, 0, 1, .plain, fun i _ => [(.wo, SEC_STAGE_DATA i)]⟩]

/-- The register families of page 23 (Table 23-1). -/
def famsPage23 : List RegFam :=
  [⟨"PAIR_CTRL", 0x1700000, 0, 1, 0, 1, .plain, fun _ _ => [(.rw, PAIR_CTRL_ARM_MS), (.rw, PAIR_CTRL_TAKE_UNEXPLAINED), (.rw, PAIR_CTRL_TALLY_FOLLOW)]⟩,
   ⟨"PAIR_CMD", 0x1700004, 0, 1, 0, 1, .plain, fun _ _ => [(.wo, PAIR_CMD_YIELD), (.wo, PAIR_CMD_CLAIM)]⟩,
   ⟨"PAIR_STATUS", 0x1700008, 0, 1, 0, 1, .plain, fun _ _ => [(.ro, PAIR_STATUS_STATE), (.w1c, PAIR_STATUS_ROLE_CHG), (.w1c, PAIR_STATUS_MISMATCH), (.w1c, PAIR_STATUS_HB_LOST), (.w1c, PAIR_STATUS_BLOCKED), (.ro, PAIR_STATUS_HOLD_FAULT), (.ro, PAIR_STATUS_LINK_UP), (.ro, PAIR_STATUS_HOLD_IN), (.ro, PAIR_STATUS_HOLD_OUT)]⟩,
   ⟨"PAIR_PEER", 0x170000C, 0, 1, 0, 1, .plain, fun _ _ => [(.ro, PAIR_PEER_STATE), (.ro, PAIR_PEER_SENIOR), (.ro, PAIR_PEER_TAKE_UNEXPLAINED)]⟩,
   ⟨"PAIR_PEER_ID_LO", 0x1700010, 0, 1, 0, 1, .plain, fun _ _ => [(.ro, PAIR_PEER_ID_LO_ID)]⟩,
   ⟨"PAIR_PEER_ID_HI", 0x1700014, 0, 1, 0, 1, .plain, fun _ _ => [(.ro, PAIR_PEER_ID_HI_ID)]⟩,
   ⟨"PAIR_VERDICT", 0x1700018, 0, 1, 0, 1, .plain, fun _ _ => [(.ro, PAIR_VERDICT_CAUSE), (.ro, PAIR_VERDICT_OUTCOME), (.ro, PAIR_VERDICT_PORT)]⟩,
   ⟨"PAIR_VERDICT_WIN", 0x170001C, 0, 1, 0, 1, .plain, fun _ _ => [(.ro, PAIR_VERDICT_WIN_WINDOW)]⟩,
   ⟨"PAIR_MIRROR_LEVEL", 0x1700020, 0, 1, 0, 1, .plain, fun _ _ => [(.ro, PAIR_MIRROR_LEVEL_LEVEL)]⟩,
   ⟨"PAIR_MISMATCH_CNT", 0x1700040, 0, 1, 0, 1, .plain, fun _ _ => [(.rc, PAIR_MISMATCH_CNT_COUNT)]⟩,
   ⟨"PAIR_SHIFT_CNT", 0x1700044, 0, 1, 0, 1, .plain, fun _ _ => [(.rc, PAIR_SHIFT_CNT_COUNT)]⟩,
   ⟨"PAIR_TAKEOVER_CNT", 0x1700048, 0, 1, 0, 1, .plain, fun _ _ => [(.rc, PAIR_TAKEOVER_CNT_COUNT)]⟩,
   ⟨"PAIR_RETX_CNT", 0x170004C, 0, 1, 0, 1, .plain, fun _ _ => [(.rc, PAIR_RETX_CNT_COUNT)]⟩,
   ⟨"PAIR_CMP_MASK", 0x1700100, 4, 32, 0, 1, .plain, fun i _ => [(.rw, PAIR_CMP_MASK_MASK i)]⟩]

/-- The register families of page 24 (Table 23-1). -/
def famsPage24 : List RegFam :=
  [⟨"SPAN_CTRL", 0x1800000, 0, 1, 0, 1, .plain, fun _ _ => [(.rw, SPAN_CTRL_LEARN), (.rw, SPAN_CTRL_GROUP_EN), (.rw, SPAN_CTRL_EN)]⟩,
   ⟨"SPAN_STATUS", 0x1800004, 0, 1, 0, 1, .plain, fun _ _ => [(.ro, SPAN_STATUS_PORTS_UP), (.w1c, SPAN_STATUS_PEER_DOWN), (.ro, SPAN_STATUS_PEER_ACTIVE)]⟩,
   ⟨"SPAN_TIME_DIFF", 0x1800010, 4, 2, 0, 1, .plain, fun i _ => [(.ro, SPAN_TIME_DIFF_DIFF i)]⟩,
   ⟨"SPAN_RX_IGNORED_CNT", 0x1800020, 0, 1, 0, 1, .plain, fun _ _ => [(.rc, SPAN_RX_IGNORED_CNT_COUNT)]⟩]

/-- The register families of page 25 (Table 23-1). -/
def famsPage25 : List RegFam :=
  [⟨"OBS_CTRL", 0x1900000, 0, 1, 0, 1, .plain, fun _ _ => [(.rw, OBS_CTRL_EN), (.rw, OBS_CTRL_DIV_B), (.rw, OBS_CTRL_DIV_A), (.rw, OBS_CTRL_BANK_B), (.rw, OBS_CTRL_BANK_A)]⟩,
   ⟨"OBS_POINT", 0x1900010, 4, 4, 0, 1, .plain, fun i _ => [(.rw, OBS_POINT_POINT_3 i), (.rw, OBS_POINT_POINT_2 i), (.rw, OBS_POINT_POINT_1 i), (.rw, OBS_POINT_POINT_0 i)]⟩]

/-- The register families of a page of Table 23-1; pages 26 and above hold no register (R575). -/
def famsOfPage : Nat → List RegFam
  | 0 => famsPage0
  | 1 => famsPage1
  | 2 => famsPage2
  | 3 => famsPage3
  | 4 => famsPage4
  | 5 => famsPage5
  | 6 => famsPage6
  | 7 => famsPage7
  | 8 => famsPage8
  | 9 => famsPage9
  | 10 => famsPage10
  | 11 => famsPage11
  | 12 => famsPage12
  | 13 => famsPage13
  | 14 => famsPage14
  | 15 => famsPage15
  | 16 => famsPage16
  | 17 => famsPage17
  | 18 => famsPage18
  | 19 => famsPage19
  | 20 => famsPage20
  | 21 => famsPage21
  | 22 => famsPage22
  | 23 => famsPage23
  | 24 => famsPage24
  | 25 => famsPage25
  | _ => []

end Sys2Proof.Machine
end

