-- ==== Sys2Proof/Machine/State.lean ====
section
/-! DEFINITION. The state of the Q1024 as plain data, the reasons a step can stop, and the state after reset.
Register fields live in `regs` (one entry per field that differs from its reset value); the other fields
hold what the spec gives the machine beside its registers. -/

namespace Sys2Proof.Machine

/-- The status codes of Table 15-6. -/
inductive Status where
  | ok | retry | busy | range | notFound | exists | full | versionLimit | denied | aborted | parity
  | stampLost | functionDown | fatal
  deriving DecidableEq, Repr

/-! ### Power, reset and pins -/

/-- What holds the switch die: nothing, RESET_N low, a brown-out reset, a thermal trip, or no supply
(R36, R62, R64). -/
inductive DieMode where
  | running | held | brownOut | tripped | off
  deriving DecidableEq, Repr

/-- Power and reset state: the mode, the captured straps (R44), the cause that the next release reports
(Table 17-13), the cycle of the release, the sources that end only at a re-arm level (R594), the rails now
outside their range (R62), the strap pins as last compared (R46), the level of HOLD_IN, and the cycle at which each
reference input was last declared lost, by LGREF number, 32 for CREF, 33 and 34 for TREFA and TREFB (R48). -/
structure DieSt where
  mode : DieMode
  straps : Straps
  cause : Nat
  releasedAt : Nat
  tempWarn : Bool
  tempOver : Bool
  slow : Bool
  outside : Nat
  strapPins : Straps
  holdIn : Bool
  lostAt : SMap Nat
  deriving DecidableEq, Repr

/-- What a port's transmitter carries (R74, R75, R85, Table 3-10): remote fault, idle, the port type and FEC that it
advertises in auto-negotiation, a frame, or the data received at the balls. -/
inductive TxSignal where
  | remoteFault
  | idles
  | negotiation (lanes rate fec : Nat)
  | frame
  | received
  deriving DecidableEq, Repr

/-- The output pins (Table 2-3): levels of FAULT_N, THERMTRIP_N and HOLD_OUT, whether HOLD_OUT is high-impedance (R36), the TPO
and OBS levels as bits, whether the interlock or the whole device holds the front transmitters and whether it holds the mirror
transmitters in electrical idle, and the signal of every port whose transmitter is not in electrical idle. -/
structure Pins where
  faultN : Bool
  thermtripN : Bool
  holdOut : Bool
  holdZ : Bool
  tpo : Nat
  obs : Nat
  frontIdle : Bool
  mirrorIdle : Bool
  tx : SMap TxSignal
  deriving DecidableEq, Repr

/-! ### Time core -/

/-- One time domain. Times are counted in units of 1/(3·2^82·10^6) ns, in which every increment of one
1.5 GHz cycle is whole. `left` is the outstanding phase correction (R111), `setPending` a copied SET_AT_PPS value (R118), `lastPps` the domain
time from which the 1.1 s missing check runs (R125), `clearedAt` the cycle of the latest clear of LOCKED, and `byWdog` the
UNLOCK_WDOG bit before it when the watchdog made it (R115). -/
structure DomSt where
  now : Nat
  left : Int
  everSet : Bool
  lockWriteAt : Nat
  servoAt : Nat
  lockedAt : Nat
  setPending : Option Nat
  lastPps : Int
  clearedAt : Option Nat
  byWdog : Option Bool
  deriving DecidableEq, Repr

/-- The presentation states of Table 4-3. -/
inductive PresMode where
  | none
  | follow (dom : Nat)
  | holdover (dom : Nat)
  deriving DecidableEq, Repr

/-- Presentation time: state, value, error e = P − D while following, and the holdover increment of one
cycle (R123). -/
structure PresSt where
  mode : PresMode
  now : Nat
  err : Int
  holdInc : Nat
  deriving DecidableEq, Repr

/-- A pulse output: whether a pulse or train is armed, the index of the next edge and whether its leading
edge has been emitted (R128). -/
structure TpoSt where
  active : Bool
  start : Nat
  k : Nat
  high : Bool
  deriving DecidableEq, Repr

/-- The time core. `trefRate` is the last measured offset of TREFA and TREFB; `tpi` holds the four capture
FIFOs, oldest first (R131), `tpiAt` the cycle of each input's latest capture, with the stamp it discarded and the OVERFLOW bit
before (R132). -/
structure TimeSt where
  domA : DomSt
  domB : DomSt
  pres : PresSt
  trefRateA : Int
  trefRateB : Int
  tpo : SMap TpoSt
  tpi : SMap (List Nat)
  tpiAt : SMap (Nat × Option (Nat × Bool))
  deriving DecidableEq, Repr

/-! ### Ports and stamping -/

/-- A returned egress stamp waiting on its way to the host (R151 to R155): of a marked frame, or of the injected
frame with the number `inject`. -/
structure StampRet where
  egress : Nat
  ingress : Nat
  queue : Nat
  ingStamp : Nat
  egrStamp : Nat
  lostBefore : Nat
  inject : Option Nat
  deriving DecidableEq, Repr

/-- A running calibration: its port and start cycle (R148). -/
structure CalSt where
  port : Nat
  since : Nat
  deriving DecidableEq, Repr

/-- Stamping state outside the registers: the running calibration, whether STAMP_CAL_RESULT is unread since
it changed (R172), the global stamp queue (R152), and the port from which the next transfer rotation starts. -/
structure StampSt where
  cal : Option CalSt
  calUnread : Bool
  queue : List StampRet
  rotate : Nat
  deriving DecidableEq, Repr

/-- The copy a port's scheduler has picked: its number, the charged length and the OVERHEAD in it (R366), the release
instant of a held copy in clock units (R161) and whether its first word has passed into the egress crossing (R162). -/
structure PickSt where
  copy : Nat
  charged : Int
  overhead : Int
  release : Option Int
  crossed : Bool
  deriving DecidableEq, Repr

/-- The copy in transmission on a port: its pick, its egress stamp, whether it left late (R164), the TRAILER setting in
force at its start (R159), the window of its digest (R522), whether the interlock gated its start (R529), and its egress stamp
point in presentation time. -/
structure TxSt where
  pick : PickSt
  stamp : Nat
  late : Bool
  trailer : Nat
  window : Nat
  gated : Bool
  time : Int
  deriving DecidableEq, Repr

/-- How far the flush of a port has come (R347, R348): asked for, or complete at a cycle. -/
inductive FlushSt where
  | idle
  | waiting
  | complete (at_ : Nat)
  deriving DecidableEq, Repr

/-- Per-port state outside the registers: link conditions and debounce moments (R82, R83), received pause
and PFC timers as (start cycle, quanta) (R91, R92), the cycle from which TX_PAUSE_TIME counts and its
remainder, the back-pressure requests with the cycle of the last frame sent (R94), the flush, the
per-port stamp queue, which keeps the stamps of the present cycle until its end (R153), and its loss count (R152, R155), the copy picked and the one in transmission, and the
bytes of the latest frame that left the port. `control` are the pause frames, as (priority, quanta), that wait for the end of
the frame in transmission (R93, R307), `looped` the frames on their way from the transmitter to the receiver in LOOPBACK 1 or 2,
and `txInv` and `rxInv` the polarity in force on the lane of this number (R77). -/
structure PortDyn where
  cond : LinkCond
  goodSince : Nat
  badSince : Nat
  trainSince : Nat
  pause : Option (Nat × Nat)
  pfc : SMap (Nat × Nat)
  heldFrom : Option Nat
  heldRem : Nat
  request : SMap Nat
  flush : FlushSt
  stamps : List StampRet
  stampLost : Nat
  picked : Option PickSt
  tx : Option TxSt
  lastTx : List Byte
  control : List (Nat × Nat)
  looped : List (List Byte)
  txInv : Bool
  rxInv : Bool
  deriving DecidableEq, Repr

/-! ### Events -/

/-- Event logic outside the registers: the report bits with the presentation time of each rise (R461), and the
cycle from which the keepalive timer runs (R462). -/
structure EventSt where
  reports : SMap Nat
  keepFrom : Nat
  deriving DecidableEq, Repr

/-! ### Reckoner routines -/

/-- The routines of Table 18-3 with what each works on. -/
inductive RoutineKind where
  | boot
  | portFlush (port : Nat)
  | stuckReclaim (queue : Nat)
  | tallySeal
  | ruleCommit
  | lpmInsert
  | lpmMove (group : Nat)
  | fdbFlush
  | lpmFlush
  | withdraw
  | dramTraining
  | pairResync
  deriving DecidableEq, Repr

/-- A requested, running or suspended routine: its command if it has one, its place in the request order,
its progress (in the units of Table 18-3), the checkpoints taken,
whether patch matching was enabled when it began (R480), the number of table changes made before it began and
the items it has removed or moved so far (R266, R273), whether it met a parity error (R275), and the tag that a commit has chosen (R229). -/
structure Routine where
  kind : RoutineKind
  cmd : Option CmdIn
  seq : Nat
  progress : Nat
  checkpoints : Nat
  patched : Bool
  began : Nat
  removed : Nat
  met : Bool
  tag : Option Nat
  deriving DecidableEq, Repr

/-- The Reckoners: the routine on each engine, the waiting routines in request order, the suspended ones,
the next request number, and the staged patch image (R478). -/
structure ReckSt where
  engines : SMap Routine
  waiting : List Routine
  suspended : List Routine
  nextSeq : Nat
  stage : SMap Byte
  matches_ : List Nat
  ram : List Nat
  checking : Option Nat
  deriving DecidableEq, Repr

/-! ### Frames and copies -/

/-- The decisions of a MARK (Table 7-7). `mirror` is the session number plus one, 0 for none. -/
structure Mark where
  cls : Nat
  colour : Nat
  queue : Nat
  fwd : Nat
  mirror : Nat
  policer : Option Nat
  flowEn : Bool
  stampRet : Bool
  deriving DecidableEq, Repr

/-- What a copy is: a destination copy, a span copy to a logical port or to a group (R544, R549), or a mirror copy
of a session; an egress mirror names the copy it mirrors by port and egress stamp (R341 to R343). -/
inductive CopyKind where
  | dest
  | span (group : Bool) (dest : Nat)
  | ingMirror (session seq : Nat)
  | egrMirror (session seq port stamp : Nat)
  deriving DecidableEq, Repr

/-- One copy that the walk of a frame will offer (R336): kind, egress port and queue, and its egress mirror copy
as (session, port, queue) when there is one (R341). -/
structure CopyPlan where
  kind : CopyKind
  egress : Nat
  queue : Nat
  mirror : Option (Nat × Nat × Nat)
  deriving DecidableEq, Repr

/-- Where a frame stands on the path of Table 1-4. `outside` is a frame received outside UP (R84). -/
inductive Stage where
  | outside | received | crossed | carrying | classified | fetching | forwarded | walking | linked | dropped
  deriving DecidableEq, Repr

/-- A frame in the device. `port` is the ingress port, 1024 for INJECT; `bytes` all bytes on the wire, `len`
their number as received; `heldLen` the bytes kept when the frame was cut (R97, R304). Stamps are full
128-bit stamps; `ingTime` is the ingress stamp point in presentation time in 2^−16 ns (R161, R252), `ingFlags` the flags that
presentation time then had. `plan` lists the copies
of its walk, `walked` those offered so far and `copies` those neither transmitted nor discarded, egress mirrors
included; `group` is the multicast group and list version that it walks (R335). `punt` is the REASON of a punted
frame (Table 16-9). `spanIn` is the logical ingress port of a frame that came over a span (R545), `limit` the receive limit
in force at the frame's start (R95), `session` the key of its context lookup (R278), `lookedAt` the cycle of its forwarding lookup and `seen` the index, POLICER and TALLY_OVR of
the context that the key had then (R235). -/
structure Frame where
  port : Nat
  bytes : List Byte
  ingStamp : Nat
  ingTime : Int
  ingFlags : Nat
  stage : Stage
  tag : Nat
  pass : Nat
  profile : Nat
  carryTag : Nat
  default_ : Mark
  mark : Mark
  carried : Bool
  destKind : Nat
  dest : Nat
  plan : List CopyPlan
  walked : Nat
  copies : Nat
  group : Option (Nat × Nat)
  context : Option Nat
  polOver : Option Nat
  clsOver : Option Nat
  verdict : Option Bool
  recorded : Bool
  reserved : Nat
  digestLost : Bool
  session : List Byte
  seen : Option (Nat × Nat × Nat)
  lookedAt : Nat
  span : Nat
  landing : Bool
  pool : Nat
  beads : List Nat
  ended : Bool
  fcs : Option Fcs
  codeErr : Bool
  truncated : Bool
  heldLen : Option Nat
  dropOther : Bool
  inject : Option Nat
  stampReq : Bool
  oneStep : Bool
  punt : Nat
  spanIn : Option Nat
  limit : Nat
  deriving DecidableEq, Repr

/-- Where a copy's beads are: on die, spilled to DRAM, or back in the return set (R321). -/
inductive SpillPlace where
  | onDie | spilled | returned
  deriving DecidableEq, Repr

/-- A copy (R328): its frame, kind, egress port and queue, the egress mirror copy that it will make, whether it is linked, the cycle of its linking, its
place, and whether a spilled bead of it was uncorrectable (R324). -/
structure Copy where
  frame : Nat
  kind : CopyKind
  egress : Nat
  queue : Nat
  mirror : Option (Nat × Nat × Nat)
  linked : Bool
  linkedAt : Nat
  place : SpillPlace
  poisoned : Bool
  spillAt : List Nat
  deriving DecidableEq, Repr

/-- A spilled segment of a rod (R320): its copies in order and whether it still takes new ones. -/
structure Segment where
  copies : List Nat
  isOpen : Bool
  deriving DecidableEq, Repr

/-- Frames, copies and rods: rods by global queue index, head first; copies offered to the link stage; each
rod's residue (R338); the frames waiting at each pipe's replicator; each carry queue and the pipe that the
next loop slot looks at first (R217); the bytes that left each rod lately, by cycle (R320); spilled segments; and the copies
that each egress pipe's link stage has taken in its latest handshake, with the cycle of that (R338). -/
structure PathSt where
  frames : SMap Frame
  copies : SMap Copy
  nextFrame : Nat
  nextCopy : Nat
  rods : SMap (List Nat)
  offered : List Nat
  residue : SMap (List Nat)
  replicators : SMap (List Nat)
  carry : SMap (List Nat)
  carryNext : Nat
  drains : SMap (List (Nat × Nat))
  segments : SMap Segment
  mirrorSeq : SMap Nat
  links : SMap (Nat × Nat)
  deriving DecidableEq, Repr

/-! ### Classifier -/

/-- A physical rule entry (R225): the 128 bytes of Table 7-5, whether its parity no longer agrees, and whether an access has
met that (R219). -/
structure RuleEntry where
  bytes : List Byte
  bad : Bool
  met : Bool
  deriving DecidableEq, Repr

/-- A range comparator (R210). -/
structure Comparator where
  source : Nat
  lower : Nat
  upper : Nat
  deriving DecidableEq, Repr

/-- The rule store: physical entries, each live tag's rules by number, the staged changes (none removes a
rule), the comparators, the cycle of each tag's switch to DRAINING, and the frames a profile still waits
for under R208. -/
structure RulesSt where
  entries : SMap RuleEntry
  sets : SMap (SMap Nat)
  changes : SMap (Option Nat)
  comparators : SMap Comparator
  drainFrom : SMap Nat
  profileWait : SMap (List Nat)
  deriving DecidableEq, Repr

/-! ### Tables -/

/-- An FDB entry with its move window (R249, R257): opening stamp and count. `born` numbers the change that made
or replaced it (R273); `bad` marks one whose parity no longer agrees (R275). -/
structure FdbEntry where
  vlan : Nat
  mac : Nat
  static : Bool
  pinned : Bool
  hit : Bool
  kind : Nat
  dest : Nat
  winStart : Int
  winCount : Nat
  born : Nat
  bad : Bool
  deriving DecidableEq, Repr

/-- A waiting learn request (R252, R253); `frames` are the frames merged into it with whether each is known
bad (R255). -/
structure LearnReq where
  vlan : Nat
  mac : Nat
  port : Nat
  stamp : Int
  frames : List (Nat × Bool)
  deriving DecidableEq, Repr

/-- The FDB by place (bank × 32,768 + bucket × 8 + slot), the learn queues, each bank's latest released stamp,
and the number of changes made so far. -/
structure FdbSt where
  entries : SMap FdbEntry
  learn : SMap (List LearnReq)
  released : SMap Int
  changes : Nat
  deriving DecidableEq, Repr

/-- An LPM prefix (Table 9-5). `born` numbers the insert that made or replaced it (R274); `bad` marks one whose parity no longer
agrees (R275). -/
structure LpmEntry where
  v6 : Bool
  len : Nat
  pfx : Nat
  kind : Nat
  dest : Nat
  born : Nat
  bad : Bool
  deriving DecidableEq, Repr

/-- The LPM store (R263): the units of each length group in row order, a unit of an IPv6 group being a slot
of one or two places and a unit of an IPv4 group one row; and the number of inserts made so far. -/
structure LpmSt where
  v6 : SMap (List (List (Option LpmEntry)))
  v4 : SMap (List (List (Option LpmEntry)))
  changes : Nat
  deriving DecidableEq, Repr

/-- A session context (Table 10-2) with its key (Table 10-1). -/
structure Context where
  key : List Byte
  frames : Nat
  bytes : Nat
  first : Nat
  last : Nat
  hwm : Nat
  ooo : Nat
  policer : Nat
  ovr : Nat
  seqValid : Bool
  poisoned : Bool
  deriving DecidableEq, Repr

/-- Session contexts by index, the cache sets in order of latest use, the cached contexts that have changed since
they were read (R284), the cycle at which each index was closed (R290), and what the next access to a failing cache entry meets
(R291, R292). -/
structure FlowSt where
  contexts : SMap Context
  cache : SMap (List Nat)
  dirty : List Nat
  closedAt : SMap Nat
  bad : SMap FetchResult
  deriving DecidableEq, Repr

/-- Multicast groups: member lists in ascending order with a version number, and the replaced lists that
frames still walk as (group, version, members) (R335). -/
structure McastSt where
  groups : SMap (Nat × List Nat)
  old : List (Nat × Nat × Nat)
  deriving DecidableEq, Repr

/-! ### Buffer -/

/-- A bead in use: its reference count, account, owner, and the part of the pool it was granted from. -/
structure Bead where
  count : Nat
  account : BeadAccount
  owner : Nat
  shared : Bool
  deriving DecidableEq, Repr

/-- Buffer state outside the registers: beads in use, landing beads per pipe, owner counts (key pool × 2,048 +
owner), the start of each allocator's next order (R310), the answers of the latest handshake, the pools
that ask a port for back-pressure as (pool, port) (R307), the withdrawn blocks and the one being withdrawn
with its start cycle (R316), and the running self-test's end guard. -/
structure BufSt where
  beads : SMap Bead
  landing : SMap Nat
  owners : SMap Nat
  starts : SMap Nat
  answers : List (Nat × Option Nat)
  asks : List (Nat × Nat)
  withdrawn : List Nat
  withdrawing : Option (CmdIn × Nat)
  deriving DecidableEq, Repr

/-! ### Traffic manager -/

/-- A token bucket (R353). `level` is in units of 1/384,000,000 byte, in which the refill of one cycle,
32 × RATE, is whole; `at_` is the cycle up to which it is refilled. -/
structure Bucket where
  en : Bool
  rate : Nat
  burst : Nat
  level : Int
  at_ : Nat
  deriving DecidableEq, Repr

/-- A policer (Table 13-1), with the debits waiting for its next handshake (R359). -/
structure Policer where
  bucket : Bucket
  aware : Bool
  drops : Nat
  pass : Nat
  debits : List Nat
  start : Nat
  deriving DecidableEq, Repr

/-- The tags of a queue's head copy (R364): the copy tagged, start and finish tag, the weight and level that it
became head with (R365), and whether the queue was held back at the previous look. -/
structure QueueTag where
  copy : Option Nat
  start : Nat
  finish : Nat
  weight : Nat
  level : Nat
  held : Bool
  deriving DecidableEq, Repr

/-- A gate list: entries as (gates, interval), cycle time, start time in 2^−16 ns, gating on or off. -/
structure GateList where
  entries : List (Nat × Nat)
  cycleNs : Nat
  start : Nat
  enable : Bool
  deriving DecidableEq, Repr

/-- A port's gate banks (R369): the entries of both banks, the list in force, and the
committed list. -/
structure GateSt where
  bank0 : SMap (Nat × Nat)
  bank1 : SMap (Nat × Nat)
  active : Option GateList
  committed : Option GateList
  deriving DecidableEq, Repr

/-- The traffic manager outside the registers; virtual times by port × 8 + level. -/
structure TmSt where
  policers : SMap Policer
  shapers : SMap Bucket
  virtual : SMap Nat
  tags : SMap QueueTag
  gates : SMap GateSt
  deriving DecidableEq, Repr

/-! ### Tally -/

/-- A chain with lost records to report (R181); `behind` counts the records of the chain that stand in the burst buffer and were
formed after the loss. -/
structure Gap where
  lost : Nat
  first : Nat
  last : Nat
  behind : Nat
  deriving DecidableEq, Repr

/-- A chain (R183, R184): next record sequence, next leaf sequence, open leaf and the cycle it opened, chain
value, and the counts since the last seal. -/
structure Chain where
  nextSeq : Nat
  nextLeaf : Nat
  leaf : List (List Byte)
  openedAt : Nat
  value : List Byte
  count : Nat
  lost : Nat
  deriving DecidableEq, Repr

/-- A formed seal: index, flags, the message of 16,512 bytes (R191), its signature if signed, whether it was
superseded (R193), the MRAM slot of its head once that is written, and whether its export was given up (R194). -/
structure Seal where
  index : Nat
  final : Bool
  start : Bool
  message : List Byte
  signature : Option (List Byte)
  superseded : Bool
  slot : Option Nat
  dropped : Bool
  deriving DecidableEq, Repr

/-- A START or FINAL seal whose instant has passed and which is not yet formed (R190): the burst-buffer records that
a FINAL seal still covers, the fields of its header that belong to the instant, and the records lost since a START seal's
instant by chain. -/
structure SealWait where
  start : Bool
  left : Nat
  header : List Byte
  lost : SMap Nat
  deriving DecidableEq, Repr

/-- An entry of the backing ring; `lost` once its bytes in DRAM were
destroyed. -/
structure RingEntry where
  bytes : List Byte
  lost : Bool
  deriving DecidableEq, Repr

/-- Tally state outside the registers. `burst` holds formed records as (chain, bytes), oldest first, `reserved` the
places kept for record-or-drop copies, `digests` each pipe's digest queue (frame numbers), `gaps` the chains with
lost records to report, `ring` the backing ring with the absolute slot number of its head, `seals` the formed
seals that still have a head to write or wait for export, oldest first, `lastSeal` the cycle of the latest point of
the seal grid, `waits` the START and FINAL seals not yet formed, `running` whether chains take records, `finals` the
latest FINAL seal formed since the reset with the LAST_SEQ of its chains (R192), `lastHash` the SEAL_HASH of the
latest seal; `heads` the MRAM slots, `nextSlot` the next in rotation, `retired` the retired ones, `retiredUnread`
whether their count is unread since it changed (R199); `lastHead` the SEAL_INDEX of a head that the peer sent after the
latest seal formed here (Table 20-6). -/
structure TallySt where
  burst : List (Nat × List Byte)
  reserved : Nat
  digests : SMap (List Nat)
  gaps : SMap Gap
  chains : SMap Chain
  ring : List RingEntry
  ringHead : Nat
  seals : List Seal
  lastSeal : Nat
  waits : List SealWait
  running : Bool
  finals : Option (Nat × SMap Nat)
  lastHash : List Byte
  heads : SMap (List Byte)
  nextSlot : Nat
  retired : List Nat
  retiredUnread : Bool
  lastHead : Option Nat
  deriving DecidableEq, Repr

/-! ### Host link and rings -/

/-- A message from the Q1024 to the host (Table 15-4). -/
inductive HostMsg where
  | memWr (addr : Nat) (data : List Byte)
  | memRd (tag addr len : Nat)
  | reply (status : Status) (attn tag done : Nat) (data : List Byte)
  | credit (slots : Nat)
  deriving DecidableEq, Repr

/-- What a MEM_RD is for: the next descriptor of a ring, or bytes of the input or frame of the descriptor in
progress on a ring, at an offset (R436, R445). -/
inductive ReadUser where
  | descriptor (ring : Nat)
  | data (ring off : Nat)
  deriving DecidableEq, Repr

/-- An outstanding MEM_RD: its user, its length and the cycle at which it was sent (R420). -/
structure ReadRun where
  user : ReadUser
  len : Nat
  since : Nat
  deriving DecidableEq, Repr

/-- A ring outside its registers. `fetched` is a descriptor read and not yet taken; `running` the command in
progress with its opcode (R437), or the inject descriptor in progress as opcode 256 with its 32 bytes as
input; `parts` the bytes of its input or frame read so far, `need` their full number; `history` the latest
completions with SEQ, newest first (R440); `reserved` the completions reserved in it (R435); `lost` the punts
dropped since its previous entry (R449); `written` the entries written since it was enabled; `behind` whether
its index block is behind (R433); `desc` the taken inject descriptor; `taken` the number, among all descriptors taken, of the
latest one (R227, R288). -/
structure RingDyn where
  fetched : Option (List Byte)
  running : Option (Nat × CmdIn)
  desc : List Byte
  parts : SMap (List Byte)
  need : Nat
  history : List (Nat × Nat × List Byte)
  reserved : Nat
  lost : Nat
  written : Nat
  behind : Bool
  taken : Nat
  deriving DecidableEq, Repr

/-- An inject descriptor in progress (R446): its fields, the copies not yet finished, the copies lost with the
DETAIL of the first, and the egress stamp or its loss. -/
structure InjectRun where
  ring : Nat
  descIndex : Nat
  flags : Nat
  tag : Nat
  left : Nat
  lost : Nat
  detail : Nat
  stamp : Option Nat
  stampLost : Bool
  stampWait : Bool
  deriving DecidableEq, Repr

/-- A counter entry of a sweep that is not yet written (R450): the staging burst that holds it, its bytes, whether the
contents of DRAM were lost since, and what its read meets. -/
structure SweepEntry where
  burst : Nat
  bytes : List Byte
  lost : Bool
  read : ReadOutcome
  deriving DecidableEq, Repr

/-- The host link and the rings. `sent` are the messages sent, in order, each delivered once (R406), `waiting` those that
wait for credit or for the link (R410, R423); `retries` the adapter's retries of the last 1 ms as (cycle, number) (R405); `credit` the slots the host still grants, `rxCredit` the slots
the host may still send; `badFlit` a flit whose rest is discarded (R411);
`reads` the outstanding MEM_RDs by tag, `wanted` the reads that wait for a tag as (user, address, length), `held`
the completions that wait for their ring to be enabled as (ring, entry), `failed` the tags held back with the cycle of their failure (R420,
R468); `upOnce`, set while the link has been ACTIVE since reset and since the host was last lost, and `outSince` serve R424, `trainSince`, `tries` and `rate` R403; `serviceOff` stops the ring
engine after a host loss; `lostIdle` is the electrical idle of LOST_ACT = 1; `rotate` the ring served last
(R435); `orphans` the commands whose completion is not written (R468); `inject` the inject descriptors by
frame; `sweep` the counter entries not yet written and `sweepNum` the number of the next sweep (R450);
`sweepAt` the cycle of the latest sweep, and `takes` the number of descriptors taken. `completion` and `output` are the last completion formed (Table 16-4)
and the last output of a command. -/
structure HostSt where
  rings : SMap RingDyn
  sent : List HostMsg
  retries : List (Nat × Nat)
  waiting : List HostMsg
  credit : Nat
  rxCredit : Nat
  badFlit : Option Nat
  reads : SMap ReadRun
  wanted : List (ReadUser × Nat × Nat)
  held : List (Nat × List Byte)
  failed : SMap Nat
  upOnce : Bool
  outSince : Nat
  trainSince : Nat
  tries : Nat
  rate : Nat
  serviceOff : Bool
  lostIdle : Bool
  rotate : Nat
  orphans : List (Nat × Nat)
  inject : SMap InjectRun
  sweep : List SweepEntry
  sweepNum : Nat
  sweepAt : Nat
  takes : Nat
  completion : List Byte
  output : List Byte
  deriving DecidableEq, Repr

/-! ### DRAM -/

/-- A command to a pseudo-channel: an activate of a row of a bank, a read or a write of a burst, a precharge of every bank (R385). -/
inductive DramCmd where
  | activate (bank row : Nat)
  | read (burst : Nat)
  | write (burst : Nat)
  | prechargeAll
  deriving DecidableEq, Repr

/-- The DRAM controller outside its registers. `writes` holds each pseudo-channel's queued writes of 32 bytes as (burst,
cycle), a burst being device address bits [35:5] (R390); `rows` each bank's row counters as (row, count) by pseudo-channel × 48 + SID × 16 + bank
(R392); `alerts` the cycles of recent command-parity alerts (R386); `retry` the last 32 commands sent to a
pseudo-channel (R385); `lastReq`, `lastSid` and `lastRead` the cycles of the latest request to a stack, to a
SID (stack × 3 + SID) and of the latest read of a pseudo-channel; `sidIdle` the SIDs in idle mode (R396);
`hot` the stacks refreshed within 16 ms and `coolFrom` the cycle from which such a stack has read below 82 °C
(R391); `trained` the pseudo-channels done in the running training, `lanes` the lanes found failing by channel and
`trainBad` whether a pseudo-channel failed (R397);
`trainUnread` whether DRAM_TRAIN is unread since its STATUS changed (R401); `recalAt` the cycle of each
pseudo-channel's latest recalibration (R399); `errs` the errors that stand in stored bursts (R387); `windowAt` the cycle at which
each stack's refresh window began (R391); `spent` the bytes moved for each user of Table 14-5 in the microsecond `spentAt` (R389). -/
structure DramSt where
  writes : SMap (List (Nat × Nat))
  rows : SMap (List (Nat × Nat))
  alerts : SMap (List Nat)
  retry : SMap (List DramCmd)
  lastReq : SMap Nat
  lastSid : SMap Nat
  lastRead : SMap Nat
  sidIdle : List Nat
  hot : List Nat
  coolFrom : SMap Nat
  trained : List Nat
  lanes : SMap Nat
  trainBad : Bool
  trainUnread : Bool
  recalAt : SMap Nat
  errs : SMap EccOutcome
  windowAt : SMap Nat
  spentAt : Nat
  spent : SMap Nat
  deriving DecidableEq, Repr

/-! ### Security -/

/-- The security unit outside its registers: the 512 bytes of public fuses (Table 19-2), whether the wrapped
identity key is still in MRAM (Table 19-6), the staged image (R501), the operations of a bundle being applied,
whether the token being checked or bundle being applied was signed by the owner, the number of values drawn
from the entropy source, and the reports made since reset (Table 19-5). (DESIGN CHOICE, log 79.) -/
structure SecSt where
  fuses : List Byte
  keyKept : Bool
  stage : SMap Byte
  ops : List (Nat × List Byte)
  draws : Nat
  reports : Nat
  deriving DecidableEq, Repr

/-! ### Pair and span -/

/-- The redundant pair outside its registers. `prev` is the state before CLAIMING; `outSince` the cycle from
which HOLD_OUT has been high, `inSince` the cycle of the latest change of the filtered HOLD_IN (R514); `gate`
whether the front transmitters are enabled; `armed` an armed takeover with its cycle (R526); `handoff` whether
HANDOFF has arrived; `hostYield` whether the yield was the host's (Table 20-2); `hbAt` the cycle of the last valid heartbeat, `hbLost`
whether heartbeats are lost (R523); `peerOut`, `peerIn` and `peerLock` the peer's last heartbeat;
`mismatchFrom` the cycle from which a HOLD mismatch has lasted (R516). The mirror stream (R518 to R520):
unacknowledged records as (SEQ, TYPE and payload), next SEQ, highest SEQ received in order, the cycle at which
the peer's ACK last advanced, and the breaks on either side. `digests` holds this side's sums by window × 1024
+ port and `errors` its error flags by window, `peerErrors` the peer's (R522, R523); `sentWindow` the last
window whose digests were sent; `residual` and `waits` serve R524. `activeAt` is the cycle of becoming ACTIVE
`follow` whether the Tally hand-over still waits and `yielded` whether this device
has yielded and owes its FINAL head (R530); windows below `compared` have been compared. `resync` is the PAIR_RESYNC in progress with the
entries applied, `walk` the items the active still has to send (R531). `sent` are the mirror frames sent. -/
structure PairSt where
  prev : Nat
  outSince : Option Nat
  inSince : Nat
  gate : Bool
  armed : Option Nat
  handoff : Bool
  hostYield : Bool
  hbAt : Nat
  hbLost : Bool
  peerOut : Bool
  peerIn : Bool
  peerLock : Nat
  mismatchFrom : Option Nat
  queue : List (Nat × Nat × List Byte)
  nextSeq : Nat
  ack : Nat
  ackAt : Nat
  streamLost : Bool
  digests : SMap Nat
  errors : SMap (Bool × Bool)
  peerErrors : SMap (Bool × Bool)
  sentWindow : Nat
  residual : SMap Nat
  waits : SMap Nat
  activeAt : Nat
  follow : Bool
  yielded : Bool
  compared : Nat
  resync : Option (CmdIn × Nat)
  walk : Option (List (Nat × List Byte))
  sent : List (List Byte)
  deriving DecidableEq, Repr

/-- The span outside its registers: the groups the peers of groups 30 and 31 report members for (0 or 1 ×
65,536 + group) (R549), this side's membership changes not yet sent on each span port (R541), and the frames
sent on the span ports by the block itself, as (port, bytes). -/
structure SpanSt where
  members : SMap Nat
  updates : SMap (List (Nat × Bool))
  sent : List (Nat × List Byte)
  deriving DecidableEq, Repr

/-! ### Self-tests and test paths -/

/-- Start-up, self-tests and test paths: the cycle at which boot reached DONE and whether DRAM training has been
requested (R556), the milliseconds held in ELAPSED_MS, the 4-bit
edge counters of the observation pins (R586) and the cycle of the latest accepted write to the OBS page (R589), the
instruction of the test access port (R590) and whether a private opcode has been loaded with a SCAN grant (R593);
`reinit` the functions being re-initialised through SYS_FUNC_RESET (R465); whether the check of R559 has been made. -/
structure PlatSt where
  bootDoneAt : Nat
  trainAsked : Bool
  readyMs : Option Nat
  edges : SMap Nat
  obsAt : Option Nat
  tap : Nat
  isPrivate : Bool
  reinit : List Nat
  lateSeen : Bool
  deriving DecidableEq, Repr


/-- The whole state. `pending` is the queue of waiting commands, first in first out; `cycle` counts 1.5 GHz
cycles; `regs` holds register fields by key (`Fld.key`); `lastStatus` and `lastData` are the register
fabric's answer to the latest register access; `counters` holds the 40-bit port counters by global index
(R101). (DESIGN CHOICE, log 76.) -/
structure State where
  pending : List Instr
  cycle : Nat
  regs : SMap Nat
  lastStatus : Status
  lastData : Nat
  die : DieSt
  pins : Pins
  time : TimeSt
  stamp : StampSt
  ports : SMap PortDyn
  counters : SMap Nat
  events : EventSt
  reck : ReckSt
  path : PathSt
  rules : RulesSt
  fdb : FdbSt
  lpm : LpmSt
  flow : FlowSt
  mcast : McastSt
  buf : BufSt
  tm : TmSt
  tally : TallySt
  host : HostSt
  dram : DramSt
  sec : SecSt
  pair : PairSt
  span : SpanSt
  plat : PlatSt
  deriving DecidableEq, Repr

/-- Why the machine stops with a fault. -/
inductive Fault where
  /-- Raised by every command whose operand names an object that Table 0-5 does not have (a port, ring, chain,
  pipe or other number beyond its range): no such command can reach the device. Safe: nothing is claimed of it. -/
  | noSuchObject
  deriving DecidableEq, Repr

/-- Why a command has no meaning. -/
inductive Refusal where
  /-- Answered by `exec` alone, for a command whose meaning is not written. Safe: nothing is claimed of it. -/
  | notModelled (mnemonic : String)
  deriving DecidableEq, Repr

/-- Link conditions of a port that receives nothing. -/
def linkCond0 : LinkCond := ⟨false, false, false, false, false, false, 0, 0, 0, 0, 0, false⟩

/-- A port's record after reset. -/
def portDyn0 : PortDyn :=
  ⟨linkCond0, 0, 0, 0, none, [], none, 0, [], .idle, [], 0, none, none, [], [], [], false, false⟩

/-- A time domain after reset (R113): never set. -/
def dom0 : DomSt := ⟨0, 0, false, 0, 0, 0, none, 0, none, none⟩

/-- The time core after reset: presentation time runs from 0 in NONE (Table 4-3). -/
def time0 : TimeSt := ⟨dom0, dom0, ⟨.none, 0, 0, 0⟩, 0, 0, [], [], []⟩

/-- A pulse output after reset. -/
def tpo0 : TpoSt := ⟨false, 0, 0, false⟩

/-- The port-default MARK with all fields 0. -/
def mark0 : Mark := ⟨0, 0, 0, 0, 0, none, false, false⟩

/-- A comparator after reset (R211). -/
def comparator0 : Comparator := ⟨0, 0, 0⟩

/-- A token bucket after reset: not enabled (R357, R368). -/
def bucket0 : Bucket := ⟨false, 0, 0, 0, 0⟩

/-- A policer after reset. -/
def policer0 : Policer := ⟨bucket0, false, 0, 0, [], 0⟩

/-- A queue's tags after reset. -/
def tag0 : QueueTag := ⟨none, 0, 0, 1, 0, false⟩

/-- A port's gates after reset: off. -/
def gate0 : GateSt := ⟨[], [], none, none⟩

/-- A chain at a START seal (R183, R184, R190). -/
def chain0 : Chain := ⟨0, 0, [], 0, zeros 32, 0, 0⟩

/-- Tally after reset with the MRAM's contents: heads, next slot and retired slots. (DESIGN CHOICE, log 5.) -/
def tally0 (heads : SMap (List Byte)) (next : Nat) (retired : List Nat) : TallySt :=
  ⟨[], 0, [], [], [], [], 0, [], 0, [], false, none, zeros 32, heads, next, retired, false, none⟩

/-- A ring outside its registers after reset. -/
def ring0 : RingDyn := ⟨none, none, [], [], 0, [], 0, 0, 0, false, 0⟩

/-- The host link after reset: DOWN, no credit (Table 15-2). -/
def host0 : HostSt :=
  ⟨[], [], [], [], 0, 0, none, [], [], [], [], false, 0, 0, 0, 0, false, false, 0, [], [], [], 0, 0, 0, [], []⟩

/-- The DRAM controller after reset. -/
def dram0 : DramSt := ⟨[], [], [], [], [], [], [], [], [], [], [], [], false, false, [], [], [], 0, []⟩

/-- The pair after reset. -/
def pair0 : PairSt :=
  ⟨1, none, 0, false, none, false, false, 0, false, false, false, 0, none, [], 1, 0, 0, false,
   [], [], [], 0, [], [], 0, false, false, 0, none, none, []⟩

/-- The span after reset. -/
def span0 : SpanSt := ⟨[], [], []⟩

/-- Start-up and test paths after reset. -/
def plat0 : PlatSt := ⟨0, false, none, [], none, 1, false, [], false⟩

/-! ### The state after reset -/

/-- The key of a field in the register store. (DESIGN CHOICE, log 36.) -/
def Fld.key (f : Fld) : Nat := f.addr * 32 + f.lo

/-- The straps that read with every strap pin open (R43). (DESIGN CHOICE, log 4.) -/
def straps0 : Straps := ⟨false, false, false, false, false⟩

/-- The die after a power-on reset: running, with no rail outside its range. (DESIGN CHOICE, log 4.) -/
def die0 : DieSt := ⟨.running, straps0, 0, 0, false, false, false, 0, straps0, false, []⟩

/-- The pins after reset: FAULT_N and THERMTRIP_N released; the mirror transmitters are not idle. -/
def pins0 : Pins := ⟨true, true, false, false, 0, 0, false, false, []⟩

/-- The fuses of a shipped, unclaimed device: one bit of the lifecycle thermometer. (DESIGN CHOICE, log 4; DESIGN CHOICE, log 5.) -/
def fuses0 : List Byte := zeros 8 ++ [1] ++ zeros 503

/-- The security unit after reset. (DESIGN CHOICE, log 5.) -/
def sec0 : SecSt := ⟨fuses0, true, [], [], 0, 0⟩

/-- The boot routine as it stands on Reckoner 0 (R493). -/
def bootRoutine : Routine := ⟨.boot, none, 0, 0, 0, false, 0, 0, false, none⟩

/-- The Reckoners after reset: boot runs on Reckoner 0. -/
def reck0 : ReckSt := ⟨[(0, bootRoutine)], [], [], 1, [], [], [], none⟩

/-- The frame path after reset: no frame. -/
def path0 : PathSt := ⟨[], [], 0, 0, [], [], [], [], [], 0, [], [], [], []⟩

/-- The register fields that are not at their own reset values after reset: DRAM is RESETTING (R555), Reckoner 0 runs boot,
and the lifecycle shows the fuses. (DESIGN CHOICE, log 4.) -/
def regs0 : SMap Nat :=
  [(Fld.key Reg.SYS_FUNC_STATUS_STATE, 0x40000), (Fld.key (Reg.RCK_ENG_STATUS_ROUTINE 0), 1),
   (Fld.key (Reg.RCK_ENG_STATUS_STATE 0), 1), (Fld.key Reg.SEC_LIFECYCLE_STATE, 1)]

/-- The machine right after a power-on reset, with all straps low and no command waiting. (DESIGN CHOICE, log 4; DESIGN CHOICE, log 5; DESIGN CHOICE, log 74.) -/
def State.reset : State where
  pending := []
  cycle := 0
  regs := regs0
  lastStatus := .ok
  lastData := 0
  die := die0
  pins := pins0
  time := time0
  stamp := ⟨none, false, [], 0⟩
  ports := []
  counters := []
  events := ⟨[], 0⟩
  reck := reck0
  path := path0
  rules := ⟨[], [], [], [], [], []⟩
  fdb := ⟨[], [], [], 0⟩
  lpm := ⟨[], [], 0⟩
  flow := ⟨[], [], [], [], []⟩
  mcast := ⟨[], []⟩
  buf := ⟨[], [], [], [], [], [], [], none⟩
  tm := ⟨[], [], [], [], []⟩
  tally := tally0 [] 0 []
  host := host0
  dram := dram0
  sec := sec0
  pair := pair0
  span := span0
  plat := plat0

end Sys2Proof.Machine
end

