-- ==== Sys2Proof/Machine/Ops.lean ====
section
/-! DEFINITION. The named operations over the state: register fields, counters, records of ports, request of
routines, publishing of times, and the last act of every step. -/

namespace Sys2Proof.Machine

/-- What a step answers. -/
abbrev Out := Host.Outcome State Fault Refusal

/-! ### Register fields -/

/-- The value of a register field: the stored value, or its reset value. -/
def State.get (s : State) (f : Fld) : Nat := mapGet s.regs (Fld.key f) f.rst

/-- Store a register field, cut to its width. -/
def State.set (s : State) (f : Fld) (v : Nat) : State :=
  { s with regs := mapSet s.regs (Fld.key f) (v % 2 ^ f.width) f.rst }

/-- A one-bit field. -/
def State.bit (s : State) (f : Fld) : Bool := s.get f != 0

/-- Set a status bit. -/
def State.on (s : State) (f : Fld) : State := s.set f 1

/-- Clear a status bit. -/
def State.off (s : State) (f : Fld) : State := s.set f 0

/-- Store a truth value. -/
def State.setB (s : State) (f : Fld) (b : Bool) : State := s.set f (b2n b)

/-- Set the bits `m` of a field. -/
def State.orBits (s : State) (f : Fld) (m : Nat) : State := s.set f (s.get f ||| m)

/-- Set or clear bit `i` of a field. -/
def State.putBit (s : State) (f : Fld) (i : Nat) (b : Bool) : State :=
  s.set f (if b then setBit (s.get f) i else clrBit (s.get f) i)

/-- Add to a count that saturates at all ones. -/
def State.satAdd (s : State) (f : Fld) (n : Nat) : State := s.set f (min (2 ^ f.width - 1) (s.get f + n))

/-- Keep the highest value seen. -/
def State.maxTo (s : State) (f : Fld) (n : Nat) : State := s.set f (max (s.get f) n)

/-- The signed value of a field. -/
def State.getS (s : State) (f : Fld) : Int := toSigned f.width (s.get f)

/-- Return to their reset values all register fields whose byte address satisfies `p`. -/
def State.resetRegs (s : State) (p : Nat → Bool) : State :=
  { s with regs := s.regs.filter fun e => !p (e.1 / 32) }

/-! ### The end of a step, and the states in which nothing runs -/

/-- The functions in the order of R472. -/
inductive Func where
  | mac | time | tally | parse | fdb | lpm | flow | buf | tm | dram | ring | pair
  deriving DecidableEq, Repr

/-- The number of a function (R472). -/
def Func.num : Func → Nat
  | .mac => 0 | .time => 1 | .tally => 2 | .parse => 3 | .fdb => 4 | .lpm => 5
  | .flow => 6 | .buf => 7 | .tm => 8 | .dram => 9 | .ring => 10 | .pair => 11

/-- A function is UP in SYS_FUNC_STATUS (Table 17-14). -/
def State.funcUp (s : State) (f : Func) : Bool := bits (s.get Reg.SYS_FUNC_STATUS_STATE) (2 * f.num) 2 == 0

/-- Store the two status bits of a function. -/
def State.setFunc (s : State) (n v : Nat) : State :=
  let w := s.get Reg.SYS_FUNC_STATUS_STATE
  s.set Reg.SYS_FUNC_STATUS_STATE (w - bits w (2 * n) 2 * 2 ^ (2 * n) + v * 2 ^ (2 * n))

/-- The switch die runs: powered, out of reset and not tripped (R3, R36, R64). -/
def State.running (s : State) : Bool := s.die.mode == .running

/-- TEST_EN was captured as 1: every transmitter idles and host requests are refused (R47). -/
def State.testMode (s : State) : Bool := s.die.straps.testEn

/-! ### Octets, ports and their fixed figures -/

/-- Cycles of the 1.5 GHz clock in 1 µs. -/
def usCycles : Nat := 1500

/-- Cycles of the 1.5 GHz clock in 1 ms. -/
def msCycles : Nat := 1500000

/-- Lanes per port of an octet mode (Table 3-1); 0 when the octet is disabled. -/
def lanesOfMode : Nat → Nat
  | 1 => 1 | 2 => 2 | 3 => 4 | 4 => 8 | _ => 0

/-- A combination of octet mode and lane rate that Table 3-1 names (R70). -/
def octetModeOk (mode rate : Nat) : Bool :=
  match mode, rate with
  | 0, r => r < 3
  | 1, r => r < 3
  | 2, r => r == 2
  | 3, r => r == 1 || r == 2
  | 4, r => r == 2
  | _, _ => false

/-- Lanes per port in the octet of a lane number. -/
def State.lanes (s : State) (p : Nat) : Nat := lanesOfMode (s.get (Reg.MAC_OCTET_MODE_MODE (p / 8)))

/-- The lane rate code of the octet of a lane number. -/
def State.laneRate (s : State) (p : Nat) : Nat := s.get (Reg.MAC_OCTET_MODE_RATE (p / 8))

/-- A lane number is a port: the first lane of one under the octet's mode (R69). -/
def State.isPort (s : State) (p : Nat) : Bool := p < 1024 && s.lanes p != 0 && p % s.lanes p == 0

/-- The port whose lanes include a lane number, if its octet is not disabled (R73). -/
def State.portOfLane (s : State) (p : Nat) : Option Nat :=
  if s.lanes p = 0 then none else some (p - p % s.lanes p)

/-- The pipe of a port, 0 to 63 (R18). -/
def pipeOf (p : Nat) : Nat := p / 16

/-- The MAC rate of a port in Gb/s (Table 3-1). -/
def State.macRate (s : State) (p : Nat) : Nat :=
  s.lanes p * (match s.laneRate p with | 0 => 10 | 1 => 25 | _ => 50)

/-- The FEC settings that Table 3-3 permits. -/
def fecOk (lanes rate fec : Nat) : Bool :=
  match rate, lanes with
  | 0, 1 => fec == 0 || fec == 1
  | 1, 1 => fec ≤ 2
  | 1, 4 => fec == 0 || fec == 2
  | 2, 1 | 2, 2 | 2, 4 | 2, 8 => fec == 3
  | _, _ => false

/-- The receive and transmit latencies of Table 3-6 in 1/100 ns. -/
def fixedLat (lanes rate fec : Nat) : Nat × Nat :=
  match rate, lanes, fec with
  | 0, 1, 0 => (960, 810)
  | 0, 1, 1 => (21440, 1210)
  | 1, 1, 0 => (640, 516)
  | 1, 1, 1 => (8832, 716)
  | 1, 1, 2 => (24320, 1316)
  | 2, 1, 3 => (13240, 1080)
  | 2, 2, 3 => (8320, 1240)
  | 1, 4, 0 => (960, 640)
  | 1, 4, 2 => (9280, 1440)
  | 2, 4, 3 => (8520, 1400)
  | 2, 8, 3 => (6160, 1560)
  | _, _, _ => (0, 0)

/-- The fixed latencies of a port as set up. -/
def State.portLat (s : State) (p : Nat) : Nat × Nat :=
  fixedLat (s.lanes p) (s.laneRate p) (s.get (Reg.MAC_PORT_CTRL_FEC p))

/-- Link states of Table 3-7. -/
def stDisabled : Nat := 0
/-- TRAINING. -/
def stTraining : Nat := 1
/-- UP. -/
def stUp : Nat := 2
/-- FLUSHING. -/
def stFlushing : Nat := 3

/-- The link state of a port. -/
def State.linkState (s : State) (p : Nat) : Nat := s.get (Reg.MAC_PORT_STATUS_STATE p)

/-- The port is in UP. -/
def State.portUp (s : State) (p : Nat) : Bool := s.isPort p && s.linkState p == stUp

/-- A port's record. -/
def State.port (s : State) (p : Nat) : PortDyn := mapGet s.ports p portDyn0

/-- Change a port's record. -/
def State.modPort (s : State) (p : Nat) (f : PortDyn → PortDyn) : State :=
  { s with ports := mapMod s.ports p portDyn0 f }

/-! ### Port counters -/

/-- Counter `i` of port `p` (R101). -/
def State.counter (s : State) (p i : Nat) : Nat := mapGet s.counters (64 * p + i) 0

/-- Units of 1 ns in the clocks. -/
def tuNs : Nat := 3 * 2 ^ 82 * 1000000

/-- The comparison window of 8 µs that presentation time now lies in (R522). -/
def State.windowNow (s : State) : Nat := s.time.pres.now / (8000 * tuNs)

/-- A paired device notes an error of the present window for its DIGEST frames (Table 20-7): internal, or external. (DESIGN CHOICE, log 67.) -/
def State.noteError (s : State) (ext : Bool) : State :=
  if !s.die.straps.pairEn then s
  else
    let e := mapGet s.pair.errors s.windowNow (false, false)
    { s with pair := { s.pair with errors := mapPut s.pair.errors s.windowNow (e.1 || !ext, e.2 || ext) } }

/-- Add to a counter: it rolls over silently, and bit 39 changing from 0 to 1 sets the half-range bit
(R101, R102). Counters 24, 26 and 28 are the external errors of Table 20-7. -/
def State.count (s : State) (p i n : Nat) : State :=
  let old := s.counter p i
  let new := (old + n) % 2 ^ 40
  let s := { s with counters := mapSet s.counters (64 * p + i) new 0 }
  let s := if n != 0 && (i = 24 || i = 26 || i = 28) then s.noteError true else s
  if !bitOf old 39 && bitOf new 39 then
    if i < 32 then s.putBit (Reg.CNT_HALF_LO_HALF p) i true else s.putBit (Reg.CNT_HALF_HI_HALF p) (i - 32) true
  else s

/-- The time for which received pause has now held the port's queues and that TX_PAUSE_TIME does not yet count, in 1/768 of
a quantum (R91, Table 3-17). -/
def PortDyn.heldTime (x : PortDyn) (now rate : Nat) : Nat :=
  match x.heldFrom with
  | some c => (now - c) * rate + x.heldRem
  | none => 0

/-- Counter `i` of port `p` as it stands now: TX_PAUSE_TIME goes on while a queue is held (R103, Table 3-17). -/
def State.counterNow (s : State) (p i : Nat) : Nat :=
  if i = 58 then (s.counter p 58 + (s.port p).heldTime s.cycle (s.macRate p) / 768) % 2 ^ 40 else s.counter p i

/-- Set all 64 counters of a port to 0, with its half-range bits (R103, R457); a time still running counts on from now. -/
def State.clearCounters (s : State) (p : Nat) : State :=
  let r := s.macRate p
  let s := { s with counters := s.counters.filter fun e => e.1 / 64 != p }
  let s := s.modPort p fun x => { x with
    heldFrom := x.heldFrom.map fun _ => s.cycle
    heldRem := x.heldTime s.cycle r % 768 }
  (s.off (Reg.CNT_HALF_LO_HALF p)).off (Reg.CNT_HALF_HI_HALF p)

/-- The length counter of a frame: the offset from counter 10 or 43 (Table 3-17). -/
def lenClass (n : Nat) : Nat :=
  if n ≤ 64 then 0 else if n ≤ 127 then 1 else if n ≤ 255 then 2 else if n ≤ 511 then 3
  else if n ≤ 1023 then 4 else if n ≤ 1518 then 5 else if n ≤ 2047 then 6 else if n ≤ 4095 then 7
  else if n ≤ 9216 then 8 else 9

/-- Destination address type: 0 unicast, 1 multicast, 2 broadcast. -/
def destKind (b : List Byte) : Nat :=
  if b.take 6 == List.replicate 6 0xFF then 2 else if (b.headD 0).toNat % 2 = 1 then 1 else 0

/-- Ethertype 0x8100 or 0x88A8 after the source address. -/
def vlanTagged (b : List Byte) : Bool := beAt b 12 2 == 0x8100 || beAt b 12 2 == 0x88A8

/-! ### Frames -/

/-- A frame's record. -/
def State.frame (s : State) (f : Nat) : Option Frame := mapFind s.path.frames f

/-- Store a frame's record. -/
def State.setFrame (s : State) (f : Nat) (x : Frame) : State :=
  { s with path := { s.path with frames := mapPut s.path.frames f x } }

/-- Change a frame's record, if it exists. -/
def State.modFrame (s : State) (f : Nat) (k : Frame → Frame) : State :=
  match s.frame f with | some x => s.setFrame f (k x) | none => s

/-! ### Routines -/

/-- Request a routine of Table 18-3; it waits for an engine (R485). -/
def State.request (s : State) (k : RoutineKind) (c : Option CmdIn) : State :=
  { s with reck := { s.reck with
      waiting := s.reck.waiting ++ [⟨k, c, s.reck.nextSeq, 0, 0, false, 0, 0, false, none⟩],
      nextSeq := s.reck.nextSeq + 1 } }

/-- Every routine that waits, runs or is suspended. -/
def State.routines (s : State) : List Routine :=
  s.reck.waiting ++ s.reck.engines.map (·.2) ++ s.reck.suspended

/-- A routine of this kind waits, runs or is suspended. -/
def State.hasRoutine (s : State) (p : RoutineKind → Bool) : Bool := s.routines.any fun r => p r.kind

/-- The routine of a command. -/
def Routine.serves (r : Routine) (c : CmdIn) : Bool :=
  match r.cmd with | some d => d.ring == c.ring && d.descIndex == c.descIndex | none => false

/-- The routine that carries a command. -/
def State.routineOf (s : State) (k : RoutineKind) (c : CmdIn) : Option Routine :=
  s.routines.find? fun r => r.kind == k && r.serves c

/-- Another command's routine of this kind waits, runs or is suspended. -/
def State.otherRuns (s : State) (k : RoutineKind) (c : CmdIn) : Bool :=
  s.routines.any fun r => r.kind == k && !r.serves c

/-- The routine of a command has ended. -/
def State.endOwn (s : State) (k : RoutineKind) (c : CmdIn) : State :=
  let own (r : Routine) : Bool := r.kind == k && r.serves c
  { s with reck := { s.reck with
      waiting := s.reck.waiting.filter fun r => !own r,
      engines := s.reck.engines.filter fun e => !own e.2,
      suspended := s.reck.suspended.filter fun r => !own r } }

/-- Take away every routine of this kind: it has ended. -/
def State.endRoutine (s : State) (p : RoutineKind → Bool) : State :=
  { s with reck := { s.reck with
      waiting := s.reck.waiting.filter fun r => !p r.kind,
      engines := s.reck.engines.filter fun e => !p e.2.kind,
      suspended := s.reck.suspended.filter fun r => !p r.kind } }

end Sys2Proof.Machine
end

