-- ==== Sys2Proof/Machine/Flags.lean ====
section
/-! DEFINITION. Status conditions: the pending condition and the severity of every event source (R454 to R456),
the collectors (R459), the attention word (R460), the report bits and the event entries (R461), and the levels
of the output pins (R36 to R39, R554). -/

namespace Sys2Proof.Machine

/-! ### Conditions of the sources -/

/-- Any of these one-bit fields is set. -/
def State.anyOf (s : State) (l : List Fld) : Bool := l.any s.bit

/-- Time and stamping sources (R139, R172). -/
def State.timeCond (s : State) : Nat → Bool
  | 2048 => s.anyOf [Reg.TIME_DOM_STATUS_UNLOCK_TREF 0, Reg.TIME_DOM_STATUS_UNLOCK_WDOG 0, Reg.TIME_DOM_STATUS_UNLOCK_HOST 0]
  | 2049 => s.anyOf [Reg.TIME_DOM_STATUS_UNLOCK_TREF 1, Reg.TIME_DOM_STATUS_UNLOCK_WDOG 1, Reg.TIME_DOM_STATUS_UNLOCK_HOST 1]
  | 2050 => s.bit Reg.TIME_PRES_STATUS_MOVED
  | 2051 => s.bit Reg.TIME_PRES_STATUS_HOLDOVER_ENTERED
  | 2052 => s.bit Reg.TIME_PRES_STATUS_STEPPED
  | 2053 => s.bit (Reg.TIME_DOM_STATUS_PPS_MISSING 0)
  | 2054 => s.bit (Reg.TIME_DOM_STATUS_PPS_MISSING 1)
  | 2055 => (List.range 8).any fun n => s.bit (Reg.TIME_TPO_CTRL_MISSED n)
  | 2056 => (List.range 4).any fun n => s.bit (Reg.TIME_TPI_CTRL_OVERFLOW n)
  | 2057 => s.bit Reg.TIME_PTP_CTRL_BAD
  | 2064 => s.bit Reg.STAMP_RET_STATUS_LOST
  | 2065 => s.stamp.calUnread
  | 2066 => s.bit Reg.STAMP_LL_STATUS_LATE
  | 2067 => s.bit Reg.STAMP_LL_STATUS_SUSPENDED
  | _ => false

/-- Tally sources (R199). -/
def State.tallyCond (s : State) : Nat → Bool
  | 2304 => s.bit Reg.TALLY_STATUS_LOSS
  | 2305 => s.bit Reg.TALLY_STATUS_SERVICE
  | 2306 => s.bit Reg.TALLY_STATUS_POISON
  | 2307 => s.bit Reg.TALLY_STATUS_UNSIGNED
  | 2308 => s.bit Reg.TALLY_STATUS_SEAL_DROP
  | 2309 => s.bit Reg.TALLY_STATUS_RECORD_DROP
  | 2310 => s.tally.retiredUnread
  | _ => false

/-- Classifier and table sources (R221, R242, R277, R295). -/
def State.tableCond (s : State) : Nat → Bool
  | 2560 => s.bit Reg.PARSE_STATUS_CARRY_FULL
  | 2561 => s.bit Reg.PARSE_STATUS_DEMOTED
  | 2562 => s.bit Reg.PARSE_STATUS_PARITY
  | 2563 => s.bit Reg.PARSE_STATUS_TRUNC
  | 2564 => s.bit Reg.RULE_STATUS_DRAIN_STUCK
  | 2816 => s.bit Reg.FDB_STATUS_MOVE
  | 2817 => s.bit Reg.FDB_STATUS_PINNED
  | 2818 => s.bit Reg.FDB_STATUS_FULL
  | 2819 => s.bit Reg.FDB_STATUS_CONFLICT
  | 2820 => s.bit Reg.FDB_STATUS_LEARN_DROP
  | 2821 => s.bit Reg.FDB_STATUS_PARITY
  | 2822 => s.bit Reg.LPM_STATUS_FULL
  | 2823 => s.bit Reg.LPM_STATUS_PARITY
  | 2824 => s.bit Reg.FLOW_STATUS_BYPASS
  | 2825 => s.bit Reg.FLOW_STATUS_FULL
  | 2826 => s.bit Reg.FLOW_STATUS_POISON
  | _ => false

/-- Buffer, queue and traffic-manager sources (R327, R352, R378). -/
def State.bufCond (s : State) : Nat → Bool
  | 3072 => s.bit Reg.BUF_STATUS_DROP
  | 3073 => s.bit Reg.BUF_STATUS_XOFF
  | 3074 => s.bit Reg.BUF_STATUS_HEADROOM
  | 3075 => s.bit Reg.BUF_STATUS_LANDING
  | 3076 => s.bit Reg.BUF_STATUS_REF_LIMIT
  | 3077 => s.bit Reg.BUF_STATUS_BAD_FREE
  | 3078 => s.bit Reg.BUF_STATUS_SPILL_FULL
  | 3079 => s.bit Reg.BUF_STATUS_SPILL_POISON
  | 3088 => s.bit Reg.QUE_STATUS_STUCK
  | 3089 => s.bit Reg.QUE_STATUS_TAIL_DROP
  | 3090 => s.bit Reg.QUE_STATUS_COPY_FULL
  | 3091 => s.bit Reg.MCAST_STATUS_FULL
  | 3092 => s.bit Reg.MIRROR_STATUS_DROP
  | 3328 => s.bit Reg.TM_STATUS_GATE_ADJUSTED
  | 3329 => s.bit Reg.TM_STATUS_GATE_OVERSIZE
  | 3330 => s.bit Reg.TM_STATUS_GATE_SUSPENDED
  | _ => false

/-- DRAM, link and ring sources (R401, R427, R453). -/
def State.linkCond (s : State) : Nat → Bool
  | 3584 => s.bit Reg.DRAM_STATUS_CORRECTED
  | 3585 => s.bit Reg.DRAM_STATUS_UNCORR
  | 3586 => s.bit Reg.DRAM_STATUS_CA_REPLAY
  | 3587 => s.bit Reg.DRAM_STATUS_PC_FAIL
  | 3588 => s.bit Reg.DRAM_STATUS_TEMP
  | 3589 => s.dram.trainUnread
  | 3712 => s.bit Reg.HLINK_STATUS_RETRAINED
  | 3713 => s.bit Reg.HLINK_STATUS_MEM_TIMEOUT
  | 3714 => s.bit Reg.HLINK_STATUS_PROTOCOL
  | 3715 => s.bit Reg.HLINK_STATUS_HOST_LOST
  | 3716 => s.bit Reg.RING_STATUS_HALTED
  | 3717 => s.bit Reg.RING_STATUS_BAD_DB
  | 3718 => s.bit Reg.RING_STATUS_PUNT_DROP
  | 3719 => s.bit Reg.RING_STATUS_CNT_SKIP
  | _ => false

/-- Lifecycle states in which the identity key is usable (Table 19-3). -/
def State.keyState (s : State) : Bool :=
  let st := s.get Reg.SEC_LIFECYCLE_STATE
  st == 1 || st == 2

/-- Reckoner, security, pair, span and system sources (R489, R508, R536, R553, R572, R473, R594). -/
def State.sysCond (s : State) : Nat → Bool
  | 3840 => s.bit Reg.RCK_STATUS_PATCH_EVT
  | 3841 => s.get Reg.RCK_STATUS_HALTED != 0
  | 3848 => s.get Reg.SEC_BOOT_STATE == 2
  | 3849 => s.get Reg.SEC_BOOT_STATE == 1 && !s.bit Reg.SEC_LIFECYCLE_ID_OK && s.keyState
  | 3850 => s.bit Reg.SEC_STATUS_BUNDLE
  | 3851 => s.get Reg.SEC_DEBUG_STATUS_GRANTED != 0
  | 3852 => s.bit Reg.SEC_STATUS_TOKEN_REJECT
  | 3904 => s.bit Reg.PAIR_STATUS_ROLE_CHG
  | 3905 => s.bit Reg.PAIR_STATUS_MISMATCH
  | 3906 => s.bit Reg.PAIR_STATUS_HB_LOST
  | 3907 => s.bit Reg.PAIR_STATUS_BLOCKED
  | 3908 => s.bit Reg.PAIR_STATUS_HOLD_FAULT
  | 3909 => s.get Reg.PAIR_STATUS_STATE == 7
  | 3910 => s.die.straps.pairEn && !s.bit Reg.PAIR_STATUS_LINK_UP
  | 3920 => s.get Reg.SPAN_STATUS_PEER_DOWN != 0
  | 3968 => s.die.tempWarn
  | 3969 => s.die.tempOver
  | 3970 => s.anyOf [Reg.SYS_SUPPLY_FLAGS_VDDIO_OUT, Reg.SYS_SUPPLY_FLAGS_VPP_HBM_OUT, Reg.SYS_SUPPLY_FLAGS_VDDQ_HBM_OUT,
      Reg.SYS_SUPPLY_FLAGS_VDD_HBM_OUT, Reg.SYS_SUPPLY_FLAGS_VDD_DPHY_OUT, Reg.SYS_SUPPLY_FLAGS_VDD_LANE_T_OUT,
      Reg.SYS_SUPPLY_FLAGS_VDD_LANE_A_OUT, Reg.SYS_SUPPLY_FLAGS_VDD_SRAM_OUT, Reg.SYS_SUPPLY_FLAGS_VDD_CORE_OUT]
  | 3971 => s.bit Reg.SYS_CLK_STATUS_CORE_LOST || s.bit Reg.SYS_CLK_STATUS_ON_OSC
  | 3972 => s.die.slow
  | 3973 => s.get Reg.SYS_CLK_LANE_LOST_GROUP_LOST != 0
  | 3974 => s.bit Reg.SYS_CLK_STATUS_DOMA_LOST || s.bit Reg.SYS_CLK_STATUS_DOMB_LOST
  | 3975 => s.bit Reg.SYS_STRAP_CHANGED
  | 3976 => s.get Reg.SYS_FUNC_EVT_DONE != 0
  | 3977 => s.get Reg.SYS_FUNC_EVT_FAILED != 0
  | 3978 => s.bit Reg.SYS_BIST_STATUS_FAIL_EVT
  | 3979 => s.bit Reg.SYS_START_STATUS_LATE
  | _ => false

/-- The bits of MAC_PORT_EVT of a port, most severe first (Table 3-11). -/
def portEvtBits (p : Nat) : List Fld :=
  [Reg.MAC_PORT_EVT_FEC_UNCORR p, Reg.MAC_PORT_EVT_LINK_DOWN p, Reg.MAC_PORT_EVT_HI_BER p, Reg.MAC_PORT_EVT_REMOTE_FAULT p,
   Reg.MAC_PORT_EVT_LOCAL_FAULT p, Reg.MAC_PORT_EVT_LINK_UP p]

/-- The pending condition of a source (R456); a number that no chapter defines never is (R454). -/
def State.cond (s : State) (n : Nat) : Bool :=
  if n < 1024 then s.isPort n && s.anyOf (portEvtBits n)
  else if n < 2048 then s.get (Reg.CNT_HALF_LO_HALF (n - 1024)) != 0 || s.get (Reg.CNT_HALF_HI_HALF (n - 1024)) != 0
  else if n < 2304 then s.timeCond n
  else if n < 2560 then s.tallyCond n
  else if n < 3072 then s.tableCond n
  else if n < 3584 then s.bufCond n
  else if n < 3840 then s.linkCond n
  else s.sysCond n

/-! ### Severity -/

/-- The sources of fixed severity fatal. -/
def fatalSources : List Nat := [3587, 3715, 3841, 3848, 3908, 3969, 3971, 3977]

/-- The sources of fixed severity warning. -/
def warningSources : List Nat :=
  [2048, 2049, 2051, 2053, 2054, 2067, 2304, 2306, 2308, 2310, 2562, 2564, 2817, 2818, 2821, 2822, 2823, 2825, 2826,
   3074, 3075, 3077, 3079, 3088, 3090, 3091, 3329, 3330, 3585, 3588, 3713, 3714, 3716, 3717, 3849, 3851,
   3905, 3906, 3907, 3909, 3910, 3920, 3968, 3970, 3972, 3973, 3974, 3978, 3979]

/-- The severity of a source: 1 info, 2 warning, 3 fatal (R88, R455, Table 18-8). -/
def State.severity (s : State) (n : Nat) : Nat :=
  if n < 1024 then (if s.anyOf [Reg.MAC_PORT_EVT_FEC_UNCORR n, Reg.MAC_PORT_EVT_LINK_DOWN n] then 2 else 1)
  else if n = 3840 then (if s.get Reg.RCK_PATCH_STATUS_STATE = 3 then 2 else 1)
  else if fatalSources.contains n then 3
  else if warningSources.contains n then 2
  else 1

/-! ### Attention -/

/-- The sources that the summary logic holds as pending and that are not masked (R460). -/
def State.unmasked (s : State) : List Nat :=
  (List.range 128).flatMap fun w =>
    let v := s.get (Reg.EVT_PENDING_PENDING w)
    if v = 0 then [] else
      let m := s.get (Reg.EVT_MASK_MASK w)
      (setBits v 32).filterMap fun i => if bitOf m i then none else some (32 * w + i)

/-- The attention word (Table 15-7, R460). -/
def State.attention (s : State) : Nat :=
  let l := s.unmasked
  let sev := l.foldl (fun a n => max a (s.severity n)) 0
  let src := (l.find? fun n => s.severity n == sev).getD 0
  sev * 2 ^ 14 + b2n (s.bit Reg.PAIR_STATUS_ROLE_CHG) * 2 ^ 13 + b2n (s.bit Reg.TALLY_STATUS_SERVICE) * 2 ^ 12 + src

/-- EVT_SUMMARY as it reads now (Table 17-10). -/
def State.syncSummary (s : State) : State :=
  (s.set Reg.EVT_SUMMARY_ATTN s.attention).set Reg.EVT_SUMMARY_COUNT s.unmasked.length

/-! ### Collectors and report bits -/

/-- The sources of each block of Table 17-1 as (first, number). -/
def blockRange : Nat → Nat × Nat
  | 0 => (0, 1024) | 1 => (1024, 1024) | 2 => (2048, 256) | 3 => (2304, 256) | 4 => (2560, 256) | 5 => (2816, 256)
  | 6 => (3072, 256) | 7 => (3328, 256) | 8 => (3584, 128) | 9 => (3712, 128) | 10 => (3840, 64) | 11 => (3904, 64)
  | 12 => (3968, 128) | _ => (0, 0)

/-- A source is masked (R458). -/
def State.masked (s : State) (n : Nat) : Bool := bitOf (s.get (Reg.EVT_MASK_MASK (n / 32))) (n % 32)

/-- The summary logic holds a source as pending. -/
def State.collected (s : State) (n : Nat) : Bool := bitOf (s.get (Reg.EVT_PENDING_PENDING (n / 32))) (n % 32)

/-- Set a source's report bit with its presentation time, unless it is still set (R461). -/
def State.report (s : State) (n stamp : Nat) : State :=
  if (mapFind s.events.reports n).isSome then s
  else { s with events := { s.events with reports := mapPut s.events.reports n stamp } }

/-- The sources of the uncorrected internal errors (Table 20-8). -/
def internalErrors : List Nat := [2562, 2821, 2823, 2826, 3077, 3079, 3585, 3587, 3841, 3969, 3972]

/-- The collector of a block takes every change of its producers in one scan (R459, R461). `stamp` is the
presentation time that each new report carries. -/
def State.scanBlock (s : State) (block stamp : Nat) : State :=
  let r := blockRange block
  (List.range r.2).foldl (fun s i =>
    let n := r.1 + i
    let c := s.cond n
    let was := s.collected n
    if c = was then s
    else
      let s := s.putBit (Reg.EVT_PENDING_PENDING (n / 32)) (n % 32) c
      let s := if c && internalErrors.contains n then s.noteError false else s
      if c && !s.masked n then s.report n stamp else s) s

/-- The report bit that the event writer takes next: the most severe, then the lowest number (R461). -/
def State.nextReport (s : State) : Option Nat :=
  let l := s.events.reports.map (·.1)
  let sev := l.foldl (fun a n => max a (s.severity n)) 0
  l.find? fun n => s.severity n == sev

/-! ### The end of a step: the output pins -/

/-- A fatal source is pending (R39). -/
def State.fatal (s : State) : Bool := fatalSources.any s.cond

/-- HOLD_OUT as driven: the device is CLAIMING, ACTIVE or YIELDING (R514) and neither host loss nor a private
test instruction has taken it away (R38, R424, R593). -/
def State.holdDriven (s : State) : Bool :=
  let st := s.get Reg.PAIR_STATUS_STATE
  s.running && s.die.straps.pairEn && (st == 2 || st == 3 || st == 4) && !s.plat.isPrivate && !s.host.lostIdle

/-- What keeps every transmitter in electrical idle (R36, R47, R50, R424, R492, R495, R593, Table 24-4). -/
def State.allIdle (s : State) : Bool :=
  !s.running || s.testMode || s.get Reg.SEC_LIFECYCLE_STATE == 0 || s.get Reg.SEC_BOOT_STATE == 2 ||
  s.bit Reg.SYS_CLK_STATUS_ON_OSC || s.host.lostIdle || s.plat.isPrivate || s.plat.tap == 6

/-- EXTEST, EXTEST_PULSE, EXTEST_TRAIN or CLAMP is in force: the boundary cells drive the pins (Table 24-4). In reset these
act as SAMPLE/PRELOAD (R591). -/
def State.cellsDrive (s : State) : Bool := s.running && (s.plat.tap == 0 || s.plat.tap == 3 || s.plat.tap == 4 || s.plat.tap == 5)

/-- A front-lane cell of a paired device may drive its pair: HOLD_OUT has been high from its cell and the filtered HOLD_IN
low for 200 ns, 300 cycles (R592). -/
def State.cellsAllowed (s : State) : Bool :=
  !s.die.straps.pairEn ||
  (decide (300 ≤ s.cycle) && (List.range 301).all (fun k => Config.cellLevel 2 (s.cycle - k)) &&
    !s.bit Reg.PAIR_STATUS_HOLD_IN && decide (s.pair.inSince + 300 ≤ s.cycle))

/-- Every front transmitter is in electrical idle (R514, R592, Table 17-8). -/
def State.frontIdle (s : State) : Bool :=
  s.allIdle ||
  (if s.cellsDrive then !Config.cellLevel 27 s.cycle || !s.cellsAllowed
   else !s.funcUp .mac || (s.die.straps.pairEn && !s.pair.gate))

/-- LGREF of the port's lane group is good (R49). -/
def State.laneRefGood (s : State) (p : Nat) : Bool := bitOf (s.get Reg.SYS_CLK_LANE_OK_GROUP_OK) (p / 32)

/-- The interlock gates a front transmitter; it never gates a span lane (R511, R514, R538). -/
def State.gates (s : State) (p : Nat) : Bool :=
  s.die.straps.pairEn && !s.pair.gate && !(s.bit Reg.SPAN_CTRL_EN && decide (960 ≤ p))

/-- The transmitter of a port is in electrical idle: its lane group, its state (R49, R85), the whole device, the interlock, or
near-end loopback (Table 3-10). -/
def State.portIdle (s : State) (p : Nat) : Bool :=
  let l := s.get (Reg.MAC_PORT_CTRL_LOOPBACK p)
  s.allIdle || s.cellsDrive || !s.funcUp .mac || s.gates p || !s.laneRefGood p || s.linkState p == stDisabled || l == 1 || l == 2

/-- What a port's transmitter carries (R74, R75, R85, Table 3-10); in FLUSHING the frame in transmission ends first. (DESIGN CHOICE, log 81.) -/
def State.txSignal (s : State) (p : Nat) : Option TxSignal :=
  let st := s.linkState p
  let sends := (s.port p).tx.isSome
  if s.portIdle p then none
  else if s.get (Reg.MAC_PORT_CTRL_LOOPBACK p) = 3 then some .received
  else if st = stFlushing && sends then some .frame
  else if s.bit (Reg.MAC_PORT_STATUS_LOCAL_FAULT p) then some .remoteFault
  else if s.bit (Reg.MAC_PORT_STATUS_REMOTE_FAULT p) then some .idles
  else if st = stUp then some (if sends then .frame else .idles)
  else if st = stTraining && s.bit (Reg.MAC_PORT_CTRL_AN_EN p) && !s.bit (Reg.MAC_PORT_STATUS_LINK_GOOD p) then
    some (.negotiation (s.lanes p) (s.laneRate p) (s.get (Reg.MAC_PORT_CTRL_FEC p)))
  else some .idles

/-- The signals of all ports. -/
def State.txSignals (s : State) : SMap TxSignal :=
  (List.range 1024).filterMap fun p =>
    if s.linkState p = stDisabled || !s.isPort p then none else (s.txSignal p).map fun x => (p, x)

/-- Every mirror transmitter is in electrical idle. -/
def State.mirrorIdle (s : State) : Bool := s.allIdle || (s.cellsDrive && !Config.cellLevel 28 s.cycle)

/-- The bank and point that observation pin k shows (R585). -/
def State.obsPick (s : State) (k : Nat) : Nat × Nat :=
  (if k / 8 = 0 then s.get Reg.OBS_CTRL_BANK_A else s.get Reg.OBS_CTRL_BANK_B,
   match k % 4 with
   | 0 => s.get (Reg.OBS_POINT_POINT_0 (k / 4)) | 1 => s.get (Reg.OBS_POINT_POINT_1 (k / 4))
   | 2 => s.get (Reg.OBS_POINT_POINT_2 (k / 4)) | _ => s.get (Reg.OBS_POINT_POINT_3 (k / 4)))

/-- The level of an observation point (Table 24-1): bank 127 holds the reference points. -/
def State.pointLevel (s : State) (bank point : Nat) : Bool :=
  if bank = 127 && point = 0 then false
  else if bank = 127 && point = 1 then true
  else if bank = 127 && point = 2 then s.cycle / 32 % 2 == 1
  else Config.obsPoint bank point s.cycle

/-- The rising edges that an observation point makes in this cycle. -/
def State.pointEdges (s : State) (bank point : Nat) : Nat :=
  if bank = 127 && point ≤ 1 then 0
  else if bank = 127 && point = 2 then b2n (s.cycle % 64 == 32)
  else Config.obsEdges bank point s.cycle

/-- The edge counters of the pins take a cycle's edges (R586). (DESIGN CHOICE, log 1; DESIGN CHOICE, log 37.) -/
def State.obsTick (s : State) : State :=
  if !s.running || s.get Reg.SEC_DEBUG_STATUS_GRANTED % 2 = 0 then s
  else { s with plat := { s.plat with edges := (List.range 16).foldl (fun m k =>
      let p := s.obsPick k
      mapSet m k ((mapGet m k 0 + s.pointEdges p.1 p.2) % 16) 0) s.plat.edges } }

/-- The level of observation pin k (R586, R588, R589): low without an OBS grant, an open level while EN = 0 and within 10 ns,
15 cycles, of an accepted write to the page, and otherwise its point or bit 3 of the edge counter. -/
def State.obsLevel (s : State) (k : Nat) : Bool :=
  if !s.running || !bitOf (s.get Reg.SEC_DEBUG_STATUS_GRANTED) 0 then false
  else if !s.bit Reg.OBS_CTRL_EN || (match s.plat.obsAt with | some c => decide (s.cycle ≤ c + 15) | none => false) then
    Config.obsFloating k s.cycle
  else if (if k / 8 = 0 then s.bit Reg.OBS_CTRL_DIV_A else s.bit Reg.OBS_CTRL_DIV_B) then bitOf (mapGet s.plat.edges k 0) 3
  else
    let p := s.obsPick k
    s.pointLevel p.1 p.2

/-- The level of a pulse output: its pulse, inverted by POLARITY; low in reset (R36, Table 4-14). -/
def State.tpoLevel (s : State) (n : Nat) : Bool :=
  s.running && ((mapGet s.time.tpo n tpo0).high != s.bit (Reg.TIME_TPO_CTRL_POLARITY n))

/-- The levels of the output pins in a state. The open-drain pins FAULT_N and THERMTRIP_N read high when released; without
VDDIO and in HIGHZ, HOLD_OUT is high-impedance and the pull-down of R37 holds it low, and in HIGHZ the other pins float. (DESIGN CHOICE, log 37.) -/
def State.pinsOf (s : State) : Pins :=
  let high := s.running && s.plat.tap == 6 && !s.plat.isPrivate
  let cells := s.cellsDrive && !s.plat.isPrivate
  let cell (k : Nat) (own float : Bool) : Bool := if cells then Config.cellLevel k s.cycle else if high then float else own
  { faultN := cell 0 (s.running && !s.fatal && !s.plat.isPrivate) true
    thermtripN := cell 1 (s.die.mode != .tripped) true
    holdOut := cell 2 s.holdDriven false
    holdZ := s.die.mode == .off || high
    tpo := maskOf ((List.range 8).filter fun n => cell (3 + n) (s.tpoLevel n) (Config.cellLevel (3 + n) s.cycle))
    obs := maskOf ((List.range 16).filter fun k => cell (11 + k) (s.obsLevel k) (Config.cellLevel (11 + k) s.cycle))
    frontIdle := s.frontIdle
    mirrorIdle := s.mirrorIdle
    tx := s.txSignals }

/-- The last act of every step: the pins follow the state. -/
def State.settle (s : State) : State := { s with pins := s.pinsOf }

/-- The state a command leaves. (DESIGN CHOICE, log 2.) -/
def finish (s : State) : Out := .next s.settle

/-- A command that acts only while the switch die runs (R3, R554). (DESIGN CHOICE, log 2; DESIGN CHOICE, log 76.) -/
def whenUp (s : State) (k : State → State) : Out := finish (if s.running then k s else s)

end Sys2Proof.Machine
end

