-- ==== Sys2Proof/Machine/Operands.lean ====
section
/-! DEFINITION. The operand forms of the commands: a command that names an object which Table 0-5 does not have cannot reach
the device. -/

namespace Sys2Proof.Machine

/-- A command about a port number (Table 0-5). (DESIGN CHOICE, log 3.) -/
def onPort (p : Nat) (k : Out) : Out := if p < 1024 then k else .fault .noSuchObject

/-- A command about an object numbered below `n`. (DESIGN CHOICE, log 3.) -/
def onObject (n i : Nat) (k : Out) : Out := if i < n then k else .fault .noSuchObject

/-- A command taken from a command ring, 16 to 31 (Table 16-1). (DESIGN CHOICE, log 3.) -/
def onRing (c : CmdIn) (k : Out) : Out := if 16 ≤ c.ring && c.ring < 32 then k else .fault .noSuchObject

/-- The requesters and owners of bead requests are those of R301: 64 pipes and INJECT, 1,024 ports and INJECT. (DESIGN CHOICE, log 3.) -/
def requestsOk (l : List BeadRequest) : Bool := l.all fun r => r.requester < 65 && r.owner < 1025

end Sys2Proof.Machine
end

