-- ==== Sys2Proof/Machine/Link.lean ====
section
/-! DEFINITION. Messages of the host link and host memory (R407 to R423), rings and their indices (R428 to R433),
and the reads of host memory (R420, R451). -/

namespace Sys2Proof.Machine

/-! ### Messages to the host -/

/-- The code of a status (Table 15-6). -/
def statusCode : Status → Nat
  | .ok => 0 | .retry => 1 | .busy => 2 | .range => 3 | .notFound => 4 | .exists => 5 | .full => 6
  | .versionLimit => 7 | .denied => 8 | .aborted => 9 | .parity => 0xA | .stampLost => 0xB
  | .functionDown => 0xC | .fatal => 0xF

/-- The 16-byte slots of a message (Table 15-4). -/
def HostMsg.slots : HostMsg → Nat
  | .memWr _ d => 1 + d.length / 16
  | .memRd _ _ _ => 1
  | .reply _ _ _ _ d => 1 + ceilDiv d.length 16
  | .credit _ => 1

/-- The header of a message (Tables 15-3 and 15-4): TYPE, STATUS, ATTN, TAG, LEN and ADDR. -/
def msgHeader (type st attn tag len addr : Nat) : List Byte :=
  leBytes 1 type ++ leBytes 1 st ++ leBytes 2 attn ++ leBytes 2 tag ++ leBytes 2 len ++ leBytes 8 addr

/-- The slots of a message as they go out: its header, then its data padded to whole slots (R408). -/
def HostMsg.wire : HostMsg → List Byte
  | .memWr addr d => msgHeader 5 0 0 0 d.length addr ++ d
  | .memRd tag addr len => msgHeader 4 0 0 tag len addr
  | .reply st attn tag done d => msgHeader 6 (statusCode st) attn tag d.length done ++ padTo (ceilDiv d.length 16 * 16) d
  | .credit n => msgHeader 7 0 0 0 0 n

/-- Messages in flits of fifteen slots, each message wholly in one and the slots left over filled with NOPs; `cur` holds the slots of
the flit under way (R407, R408). (DESIGN CHOICE, log 96.) -/
def packFlits : List HostMsg → List Byte → List (List Byte)
  | [], cur => if cur.isEmpty then [] else [padTo 240 cur]
  | m :: l, cur =>
    if cur.length + m.wire.length ≤ 240 then packFlits l (cur ++ m.wire)
    else padTo 240 cur :: packFlits l m.wire

/-- Change the host link's record. -/
def State.modHost (s : State) (f : HostSt → HostSt) : State := { s with host := f s.host }

/-- The link is ACTIVE. -/
def State.linkActive (s : State) : Bool := s.get Reg.HLINK_STATUS_STATE == 2

/-- The Quolos slots of the flits that have carried the messages sent (R407). -/
def State.flits (s : State) : List (List Byte) := packFlits s.host.sent []

/-- The users' handshake with the link is open for a MEM_WR or MEM_RD: the link is ACTIVE, the host is not lost, and nothing waits for
credit (R410, R423, R424). -/
def State.canWrite (s : State) : Bool := s.linkActive && !s.host.serviceOff && s.host.waiting.isEmpty

/-- The slots that a CREDIT message returns to the host. (DESIGN CHOICE, log 18.) -/
def HostMsg.returned : HostMsg → Nat
  | .credit n => n
  | _ => 0

/-- Send waiting messages, in order, as far as the host's credit goes; a CREDIT sent gives the host its slots back (R410). (DESIGN CHOICE, log 18.) -/
def pumpMsgs : List HostMsg → HostSt → HostSt
  | [], h => { h with waiting := [] }
  | m :: l, h =>
    if m.slots ≤ h.credit then pumpMsgs l { h with sent := h.sent ++ [m], credit := h.credit - m.slots, rxCredit := h.rxCredit + m.returned }
    else { h with waiting := m :: l }

/-- Send what can be sent; messages wait while the link is not ACTIVE (R423). -/
def State.pump (s : State) : State := if s.linkActive then s.modHost fun h => pumpMsgs h.waiting h else s

/-- Hand a message to the link. -/
def State.send (s : State) (m : HostMsg) : State :=
  State.pump (s.modHost fun h => { h with waiting := h.waiting ++ [m] })

/-- The pieces of a stretch of host memory: at most 192 bytes each, none across a 4 KiB boundary (R408). -/
def memPieces : Nat → Nat → Nat → List (Nat × Nat)
  | 0, _, _ => []
  | fuel + 1, addr, len =>
    if len = 0 then []
    else
      let n := min (min 192 (4096 - addr % 4096)) len
      (addr, n) :: memPieces fuel (addr + n) (len - n)

/-- All the pieces of a stretch. -/
def piecesOf (addr len : Nat) : List (Nat × Nat) := memPieces (len / 16 + 1) addr len

/-- Write bytes to host memory with MEM_WR, padded to whole slots; nothing is written for a lost host (R424, R425). -/
def State.memWrite (s : State) (addr : Nat) (data : List Byte) : State :=
  let d := padTo (ceilDiv data.length 16 * 16) data
  if s.host.serviceOff then s
  else (piecesOf addr d.length).foldl (fun s p => s.send (.memWr p.1 (slice d (p.1 - addr) p.2))) s

/-! ### Rings -/

/-- A ring's record outside its registers. -/
def State.ring (s : State) (n : Nat) : RingDyn := mapGet s.host.rings n ring0

/-- Change it. -/
def State.modRing (s : State) (n : Nat) (f : RingDyn → RingDyn) : State :=
  s.modHost fun h => { h with rings := mapMod h.rings n ring0 f }

/-- The size of one entry (Table 16-1). -/
def entrySize (n : Nat) : Nat := if n < 16 || n == 61 || n == 62 then 64 else 32

/-- A ring that the host produces: command or inject. -/
def hostProduced (n : Nat) : Bool := (16 ≤ n && n < 32) || (48 ≤ n && n < 61)

/-- The number of entries a ring holds (R430). -/
def State.ringSize (s : State) (n : Nat) : Nat := 2 ^ s.get (Reg.RING_CFG_LOG2_SIZE n)

/-- The address of the slot of an absolute index (R430). -/
def State.slotAddr (s : State) (n index : Nat) : Nat :=
  s.get (Reg.RING_BASE_HI_ADDR_HI n) * 2 ^ 32 + s.get (Reg.RING_BASE_LO_ADDR n) * 4096 + index % s.ringSize n * entrySize n

/-- A ring is enabled and RING is UP. -/
def State.ringOn (s : State) (n : Nat) : Bool := s.funcUp .ring && s.bit (Reg.RING_CFG_ENABLE n)

/-- The absolute device index. -/
def State.devIndex (s : State) (n : Nat) : Nat := s.get (Reg.RING_DEV_INDEX_DEV_INDEX n)

/-- Entries now in a ring (R431). -/
def State.ringLevel (s : State) (n : Nat) : Nat :=
  let d := s.devIndex n
  let b := s.get (Reg.RING_DB_DOORBELL n)
  (if hostProduced n then (b + 2 ^ 32 - d) else (d + 2 ^ 32 - b)) % 2 ^ 32

/-- A Q1024-produced ring has room for `n` entries beyond those reserved; a ring that is not enabled is full, and none is served
after a host loss (R425, R431, R435, R452). -/
def State.ringRoom (s : State) (r n : Nat) : Bool :=
  s.ringOn r && !s.host.serviceOff && s.ringLevel r + (s.ring r).reserved + n ≤ s.ringSize r

/-- DEV_INDEX advances by one; the index block is behind until it is written (R431, R433). -/
def State.advance (s : State) (n : Nat) : State :=
  (s.set (Reg.RING_DEV_INDEX_DEV_INDEX n) (s.devIndex n + 1)).modRing n fun r => { r with behind := true }

/-- Write one entry of a Q1024-produced ring. -/
def State.ringWrite (s : State) (n : Nat) (entry : List Byte) : State :=
  ((s.memWrite (s.slotAddr n (s.devIndex n)) entry).advance n).modRing n fun r => { r with written := r.written + 1 }

/-- The index block of a ring is written (R433). -/
def State.writeIndex (s : State) (n : Nat) : State :=
  if (s.ring n).behind && s.canWrite then
    (s.memWrite (s.get (Reg.RING_IDXBLK_HI_ADDR_HI n) * 2 ^ 32 + s.get (Reg.RING_IDXBLK_LO_ADDR n) * 16)
      (leBytes 4 (s.devIndex n) ++ zeros 12)).modRing n fun r => { r with behind := false }
  else s

/-- A REPLY or a completion restarts the keepalive timer (R462). -/
def State.restartKeepalive (s : State) : State := { s with events := { s.events with keepFrom := s.cycle } }

/-- Write a completion entry into ring `cq`, into the room reserved for it when `reserved` (R435). -/
def State.postCompletion (s : State) (cq : Nat) (reserved : Bool) (entry : List Byte) : State :=
  if s.ringOn cq && !s.host.serviceOff && (reserved || s.ringRoom cq 1) then
    ((s.ringWrite cq entry).modRing cq fun r => { r with reserved := r.reserved - b2n reserved }).restartKeepalive
  else if reserved then s.modHost fun h => { h with held := h.held ++ [(cq, entry)] }
  else s

/-! ### Reads of host memory -/

/-- Cycles of MEM_TO_US. -/
def State.memTimeout (s : State) : Nat := s.get Reg.HLINK_CTRL_MEM_TO_US * usCycles

/-- The tag of a failed read is still held back (R420, R468). -/
def State.tagHeld (s : State) (t : Nat) : Bool :=
  match mapFind s.host.failed t with | some c => s.cycle < c + s.memTimeout | none => false

/-- The lowest tag of no outstanding read and not held back (R409, R420). -/
def State.freeTagMem (s : State) : Option Nat :=
  lowest 1024 fun t => (mapFind s.host.reads t).isNone && !s.tagHeld t

/-- Send the first wanted reads for which tags are free, while the link takes them (R409, R410, R423). -/
def sendReads : List (ReadUser × Nat × Nat) → State → State
  | [], s => s.modHost fun h => { h with wanted := [] }
  | (u, a, n) :: l, s =>
    match (if s.canWrite && s.host.credit != 0 then s.freeTagMem else none) with
    | some t => sendReads l (State.send (s.modHost fun h => { h with reads := mapPut h.reads t ⟨u, n, s.cycle⟩ }) (.memRd t a n))
    | none => s.modHost fun h => { h with wanted := (u, a, n) :: l }

/-- Ask for stretches of host memory. -/
def State.askReads (s : State) (l : List (ReadUser × Nat × Nat)) : State := sendReads (s.host.wanted ++ l) s

/-- The link goes on: what waits is sent, then the reads that are wanted. -/
def State.resume (s : State) : State := s.pump.askReads []

/-- A ring is halted (R451). -/
def State.halted (s : State) (n : Nat) : Bool :=
  if n < 32 then bitOf (s.get Reg.RING_HALTED_LO_HALTED) n else bitOf (s.get Reg.RING_HALTED_HI_HALTED) (n - 32)

/-- Halt or restart a ring. -/
def State.setHalted (s : State) (n : Nat) (b : Bool) : State :=
  let s := if n < 32 then s.putBit Reg.RING_HALTED_LO_HALTED n b else s.putBit Reg.RING_HALTED_HI_HALTED (n - 32) b
  s.setB Reg.RING_STATUS_HALTED (s.get Reg.RING_HALTED_LO_HALTED != 0 || s.get Reg.RING_HALTED_HI_HALTED != 0)

/-- The read of a ring's next descriptor is outstanding or wanted. -/
def State.readingDesc (s : State) (n : Nat) : Bool :=
  s.host.reads.any (fun e => e.2.user == .descriptor n) || s.host.wanted.any fun e => e.1 == .descriptor n

/-- Read the next descriptor of a host-produced ring that has one, when nothing of the ring is in progress
(R434, R437, R424). -/
def State.fetchNext (s : State) (n : Nat) : State :=
  let r := s.ring n
  if hostProduced n && s.ringOn n && !s.halted n && !s.host.serviceOff && s.ringLevel n != 0 && r.running.isNone &&
      r.fetched.isNone && !s.readingDesc n then
    s.askReads [(.descriptor n, s.slotAddr n (s.devIndex n), 32)]
  else s

/-- Nothing of a ring is in progress any more: a disabled ring has stopped (R452), another reads on. -/
def State.ringIdle (s : State) (n : Nat) : State :=
  let s := s.modRing n fun r => { r with running := none, desc := [], parts := [], need := 0 }
  if s.bit (Reg.RING_CFG_ENABLE n) then s.fetchNext n else s.on (Reg.RING_CFG_STOPPED n)

/-- The ring engine takes no inject descriptor: a pool in XOFF holds more than MIN beads of owner INJECT (R308). -/
def State.injectHeld (s : State) : Bool :=
  (List.range 16).any fun n => bitOf (s.get Reg.BUF_XOFF_POOLS_POOLS) n &&
    decide (mapGet s.buf.owners (n * 2048 + 1024) 0 > s.get (Reg.BUF_POOL_CFG_MIN n))

/-! ### Logical port numbers (R539) -/

/-- Span lanes are on. -/
def State.spanOn (s : State) : Bool := s.bit Reg.SPAN_CTRL_EN

/-- The logical number of local port 0. -/
def State.logicalBase (s : State) : Nat := if s.spanOn && s.die.straps.pos1 then 960 else 0

/-- The logical number of a local port. -/
def State.logical (s : State) (p : Nat) : Nat := s.logicalBase + p

/-- A logical number names a port of this device. -/
def State.isLocal (s : State) (n : Nat) : Bool :=
  if s.spanOn then s.logicalBase ≤ n && n < s.logicalBase + 960 else n < 1024

/-- A destination of kind PORT that may be named (R72, R539). -/
def State.destPortOk (s : State) (n : Nat) : Bool :=
  if s.spanOn then n < 1920 && (!s.isLocal n || s.isPort (n - s.logicalBase)) else s.isPort n

end Sys2Proof.Machine
end

