-- ==== Sys2Proof/Machine/Time.lean ====
section
/-! DEFINITION. The time core (R106 to R132): the clocks and one cycle of them, lock, set-time, presentation
time, captures, pulse outputs and capture inputs. -/

namespace Sys2Proof.Machine

/-- Units of 2^−16 ns, the resolution of a published stamp (Table 4-1). -/
def tuTick : Nat := 3 * 2 ^ 66 * 1000000

/-- Units of one CREF cycle of 2/3 ns. -/
def tuCycle : Nat := 2 * 2 ^ 82 * 1000000

/-- Domain A is 0 and B is 1. -/
def State.dom (s : State) (d : Nat) : DomSt := if d = 0 then s.time.domA else s.time.domB

/-- Change a domain. -/
def State.setDom (s : State) (d : Nat) (x : DomSt) : State :=
  { s with time := if d = 0 then { s.time with domA := x } else { s.time with domB := x } }

/-- Change presentation time. -/
def State.setPres (s : State) (p : PresSt) : State := { s with time := { s.time with pres := p } }

/-- The offset of a domain's reference in 2^−41: of its TREF as last measured, 0 for CREF (R117). -/
def State.refOffset (s : State) (d : Nat) : Int :=
  if s.get (Reg.TIME_DOM_CTRL_TREF_SEL d) = 2 then 0
  else if d = 0 then s.time.trefRateA else s.time.trefRateB

/-- A domain's base rate over one cycle in units of 10^−6 of a clock unit (R111). -/
def State.baseRate (s : State) (d : Nat) : Nat :=
  (2 * (2 ^ 41 + s.refOffset d) * (2 ^ 41 + s.getS (Reg.TIME_DOM_FREQ_FREQ_ADJ d))).toNat

/-- What one cycle takes off a phase remainder: at most `ppm` of the base rate, and never past 0. -/
def slewStep (left : Int) (limit : Nat) : Int :=
  if left ≥ 0 then min left (limit : Int) else max left (-(limit : Int))

/-- The gain of a domain in one cycle. (DESIGN CHOICE, log 70.) -/
def State.domGain (s : State) (d : Nat) : Int :=
  (s.baseRate d * 1000000 : Nat) + slewStep (s.dom d).left (s.baseRate d * s.get (Reg.TIME_DOM_CTRL_SLEW_MAX d))

/-- A domain one cycle on. -/
def State.domNext (s : State) (d : Nat) : DomSt :=
  let x := s.dom d
  { x with
    now := ((x.now : Int) + s.domGain d).toNat
    left := x.left - slewStep x.left (s.baseRate d * s.get (Reg.TIME_DOM_CTRL_SLEW_MAX d)) }

/-- Presentation time one cycle on (Table 4-3, R120). (DESIGN CHOICE, log 70.) -/
def State.presNext (s : State) : PresSt :=
  let p := s.time.pres
  match p.mode with
  | .none => { p with now := p.now + tuCycle }
  | .holdover _ => { p with now := p.now + p.holdInc }
  | .follow d =>
    let e := p.err - slewStep p.err (s.baseRate d * s.get Reg.TIME_PRES_CTRL_SLEW_MAX)
    { p with err := e, now := (((s.domNext d).now : Int) + e).toNat }

/-- One cycle of the clocks. (DESIGN CHOICE, log 1; DESIGN CHOICE, log 70; DESIGN CHOICE, log 76.) -/
def State.tickClocks (s : State) : State :=
  { s with
    cycle := s.cycle + 1
    time := { s.time with domA := s.domNext 0, domB := s.domNext 1, pres := s.presNext } }

/-- A domain's LOCK (R113, Table 4-2). -/
def State.domLock (s : State) (d : Nat) : Nat :=
  if !(s.dom d).everSet then 0
  else if s.bit (Reg.TIME_DOM_CTRL_LOCKED d) then (if s.bit (Reg.TIME_DOM_CTRL_TRACEABLE d) then 3 else 2)
  else 1

/-- A domain is locked. -/
def State.domLocked (s : State) (d : Nat) : Bool := s.domLock d ≥ 2

/-- The domain that presentation time follows or last followed. -/
def State.presDomain (s : State) : Nat :=
  match s.time.pres.mode with
  | .none => 0 | .follow d => d | .holdover d => d

/-- Presentation LOCK (Table 4-3). -/
def State.presLock (s : State) : Nat :=
  match s.time.pres.mode with
  | .none => 0 | .follow d => s.domLock d | .holdover _ => 1

/-- Presentation time is in HOLDOVER. -/
def State.inHoldover (s : State) : Bool := match s.time.pres.mode with | .holdover _ => true | _ => false

/-- Presentation time is in NONE. -/
def State.presNone (s : State) : Bool := s.time.pres.mode == .none

/-- MOVING: e is not 0 (R120). -/
def State.moving (s : State) : Bool := match s.time.pres.mode with | .follow _ => s.time.pres.err != 0 | _ => false

/-- Presentation SLEWING (R120). -/
def State.presSlewing (s : State) : Bool :=
  match s.time.pres.mode with | .follow d => s.moving || (s.dom d).left != 0 | _ => false

/-- The flags of a presentation stamp (Table 4-2). -/
def State.presFlags (s : State) : Nat :=
  s.presDomain * 2 ^ 15 + s.presLock * 2 ^ 12 + b2n s.inHoldover * 2 ^ 11 + b2n s.presSlewing * 2 ^ 10 + b2n s.moving * 2 ^ 9

/-- The flags of a stamp in domain `d` itself (Table 4-2). -/
def State.domFlags (s : State) (d : Nat) : Nat :=
  d * 2 ^ 15 + 2 ^ 14 + s.domLock d * 2 ^ 12 + b2n ((s.dom d).left != 0) * 2 ^ 10

/-- A stamp (Table 4-1) of a time in 2^−16 ns; the seconds are taken modulo 2^64. -/
def stampOf (t : Int) (flags : Nat) : Nat :=
  let n := (t % ((2 ^ 64 * 1000000000 * 65536 : Nat) : Int)).toNat
  n / 65536 / 1000000000 * 2 ^ 64 + n / 65536 % 1000000000 * 2 ^ 32 + n % 65536 * 2 ^ 16 + flags

/-- The time of a stamp in 2^−16 ns. -/
def stampTime (st : Nat) : Nat := (st / 2 ^ 64 * 1000000000 + bits st 32 32) * 65536 + bits st 16 16

/-- Presentation time now in 2^−16 ns. -/
def State.presTicks (s : State) : Nat := s.time.pres.now / tuTick

/-- Presentation time now as a stamp. -/
def State.presStamp (s : State) : Nat := stampOf s.presTicks s.presFlags

/-- The time of clock 0 = presentation, 1 = A, 2 = B at `sub` sixty-fourths of the present cycle, in clock
units (R142). -/
def State.clockAt (s : State) (clock sub : Nat) : Int :=
  match clock with
  | 0 => (s.time.pres.now : Int) + ((s.presNext.now : Int) - s.time.pres.now) * sub / 64
  | c => ((s.dom (c - 1)).now : Int) + s.domGain (c - 1) * sub / 64

/-- The flags of a clock. -/
def State.clockFlags (s : State) (clock : Nat) : Nat := if clock = 0 then s.presFlags else s.domFlags (clock - 1)

/-- Write a stamp into the four words of a time group. -/
def State.putGroup (s : State) (fl fr ns lo hi : Fld) (st : Nat) : State :=
  ((((s.set fl (st % 2 ^ 16)).set fr (bits st 16 16)).set ns (bits st 32 32)).set lo (bits st 64 32)).set hi (bits st 96 32)

/-- The status fields of a domain and of presentation time follow the clocks; LEFT is rounded down. (DESIGN CHOICE, log 70.) -/
def State.syncTime (s : State) : State :=
  let put (s : State) (d : Nat) : State :=
    ((s.set (Reg.TIME_DOM_STATUS_LOCK d) (s.domLock d)).setB (Reg.TIME_DOM_STATUS_SLEWING d) ((s.dom d).left != 0)).set
      (Reg.TIME_DOM_PHASE_LEFT_LEFT d) (ofSigned 32 ((s.dom d).left * 256 / tuNs))
  let s := put (put s 0) 1
  (((s.setB Reg.TIME_PRES_STATUS_MOVING s.moving).setB Reg.TIME_PRES_STATUS_HOLDOVER s.inHoldover).set
    Reg.TIME_PRES_STATUS_DOMAIN s.presDomain).set Reg.TIME_PRES_STATUS_LOCK s.presLock

/-- Enter FOLLOW(d) from HOLDOVER or the other domain: the value is kept and e starts at P − D (R121). -/
def State.followFrom (s : State) (d : Nat) : State :=
  let p := s.time.pres
  let e := (p.now : Int) - (s.dom d).now
  let s := s.setPres { p with mode := .follow d, err := e }
  if e = 0 then s else s.on Reg.TIME_PRES_STATUS_MOVED

/-- The presentation transition that the domains' locks call for at the end of a cycle, whose causes it joins (R119, R121,
R122). (DESIGN CHOICE, log 82.) -/
def State.presTransition (s : State) : State :=
  let pref := s.get Reg.TIME_PRES_CTRL_PREFERRED
  let choice := if s.domLocked pref then some pref else if s.domLocked (1 - pref) then some (1 - pref) else none
  let s := match s.time.pres.mode with
    | .none => match choice with
      | some d => ((s.setPres { s.time.pres with mode := .follow d, now := (s.dom d).now, err := 0 }).on
          Reg.TIME_PRES_STATUS_STEPPED).off Reg.STAMP_LL_STATUS_SUSPENDED
      | none => s
    | .follow d =>
      if s.domLocked d then s
      else if s.domLocked (1 - d) then s.followFrom (1 - d)
      else (s.setPres { s.time.pres with mode := .holdover d, holdInc := s.baseRate d * 1000000, err := 0 }).on
        Reg.TIME_PRES_STATUS_HOLDOVER_ENTERED
    | .holdover _ => match choice with
      | some d => s.followFrom d
      | none => s
  s.syncTime

/-- Withdraw a domain's lock with its cause bit (R114). (DESIGN CHOICE, log 70.) -/
def State.unlock (s : State) (d : Nat) (cause : Fld) : State :=
  if s.bit (Reg.TIME_DOM_CTRL_LOCKED d) then
    (((s.off (Reg.TIME_DOM_CTRL_LOCKED d)).on cause).setDom d { s.dom d with clearedAt := some s.cycle, byWdog := none }).syncTime
  else s

/-- A FREQ or PHASE write is accepted: the watchdog restarts, and an expiry in this cycle does not count (R115). -/
def State.servoWrite (s : State) (d : Nat) : State :=
  let x := s.dom d
  let s := s.setDom d { x with servoAt := s.cycle, clearedAt := if x.byWdog.isSome then none else x.clearedAt, byWdog := none }
  match x.byWdog with
  | some was =>
    if x.clearedAt = some s.cycle then
      ((s.on (Reg.TIME_DOM_CTRL_LOCKED d)).setB (Reg.TIME_DOM_STATUS_UNLOCK_WDOG d) was).syncTime
    else s
  | none => s

/-- A set-time: the domain's time steps, and any phase correction is discarded (R118). -/
def State.setTime (s : State) (d : Nat) (t : Nat) : State :=
  let x := s.dom d
  (s.setDom d { x with now := t, left := 0, everSet := true, setPending := none,
                       lastPps := (t : Int) - ((x.now : Int) - x.lastPps) }).syncTime

/-- The staged value of TIME_DOM_SET in clock units. -/
def State.stagedTime (s : State) (d : Nat) : Nat :=
  (((s.get (Reg.TIME_DOM_SET_W3_SEC_HI d) * 2 ^ 32 + s.get (Reg.TIME_DOM_SET_W2_SEC_LO d)) * 1000000000
    + s.get (Reg.TIME_DOM_SET_W1_NANOSECONDS d)) * 65536 + s.get (Reg.TIME_DOM_SET_W0_FRACTION d)) * tuTick

/-- The selected TREF of a domain is good under R48. (DESIGN CHOICE, log 71.) -/
def State.trefGood (s : State) (d : Nat) : Bool :=
  if d = 0 then s.bit Reg.SYS_CLK_STATUS_DOMA_OK else s.bit Reg.SYS_CLK_STATUS_DOMB_OK

/-! ### Pulse outputs -/

/-- A pulse output's record. -/
def State.tpo (s : State) (n : Nat) : TpoSt := mapGet s.time.tpo n tpo0

/-- Store a pulse output's record. -/
def State.setTpo (s : State) (n : Nat) (x : TpoSt) : State :=
  { s with time := { s.time with tpo := mapSet s.time.tpo n x tpo0 } }

/-- START of a pulse output in ns. -/
def State.tpoStart (s : State) (n : Nat) : Nat :=
  (s.get (Reg.TIME_TPO_START_W3_SEC_HI n) * 2 ^ 32 + s.get (Reg.TIME_TPO_START_W2_SEC_LO n)) * 1000000000
    + s.get (Reg.TIME_TPO_START_W1_NANOSECONDS n)

/-- Arm a pulse output whose ENABLE was written 1 (R130); RUNNING is set from then on. (DESIGN CHOICE, log 83.) -/
def State.tpoArm (s : State) (n : Nat) : State :=
  let start := s.tpoStart n
  let need := s.time.pres.now + 1000 * tuNs
  if start * tuNs ≥ need then
    (s.setTpo n ⟨true, start, 0, false⟩).on (Reg.TIME_TPO_CTRL_RUNNING n)
  else if s.bit (Reg.TIME_TPO_CTRL_PERIODIC n) then
    let per := s.get (Reg.TIME_TPO_PERIOD_PERIOD n)
    let k := ceilDiv (need - start * tuNs) (per * tuNs)
    (s.setTpo n ⟨true, start, k, false⟩).on (Reg.TIME_TPO_CTRL_RUNNING n)
  else (s.off (Reg.TIME_TPO_CTRL_ENABLE n)).on (Reg.TIME_TPO_CTRL_MISSED n)

/-- Stop a pulse output. -/
def State.tpoStop (s : State) (n : Nat) : State :=
  ((s.setTpo n tpo0).off (Reg.TIME_TPO_CTRL_RUNNING n)).off (Reg.TIME_TPO_CTRL_ENABLE n)

/-- The presentation time of an output's next edge in clock units (R128). -/
def State.tpoDue (s : State) (n : Nat) : Nat :=
  let x := s.tpo n
  (x.start + x.k * s.get (Reg.TIME_TPO_PERIOD_PERIOD n) + (if x.high then s.get (Reg.TIME_TPO_WIDTH_WIDTH n) else 0)) * tuNs

/-- Emit an output's next edge when presentation time has reached it (R128, R130). -/
def State.tpoEdge (s : State) (n : Nat) (trailing : Bool) : State :=
  let x := s.tpo n
  if !x.active || x.high != trailing || s.time.pres.now < s.tpoDue n then s
  else if !trailing then s.setTpo n { x with high := true }
  else if s.bit (Reg.TIME_TPO_CTRL_PERIODIC n) then s.setTpo n { x with high := false, k := x.k + 1 }
  else s.tpoStop n

/-! ### Capture inputs -/

/-- A capture input's FIFO. -/
def State.tpi (s : State) (n : Nat) : List Nat := mapGet s.time.tpi n []

/-- Store a FIFO: COUNT and the TIME_TPI_CAPT group show it (R131); an empty one shows 0. (DESIGN CHOICE, log 83.) -/
def State.setTpi (s : State) (n : Nat) (l : List Nat) : State :=
  let s := { s with time := { s.time with tpi := mapSet s.time.tpi n l [] } }
  (s.set (Reg.TIME_TPI_CTRL_COUNT n) l.length).putGroup (Reg.TIME_TPI_CAPT_W0_FLAGS n) (Reg.TIME_TPI_CAPT_W0_FRACTION n)
    (Reg.TIME_TPI_CAPT_W1_NANOSECONDS n) (Reg.TIME_TPI_CAPT_W2_SEC_LO n) (Reg.TIME_TPI_CAPT_W3_SEC_HI n) (l.headD 0)

/-- Capture the selected clock at an accepted edge (R131, R132). -/
def State.tpiCapture (s : State) (n : Nat) (rising : Bool) : State :=
  let edge := s.get (Reg.TIME_TPI_CTRL_EDGE n)
  if !s.bit (Reg.TIME_TPI_CTRL_ENABLE n) || !(edge == 2 || (edge == 0) == rising) then s
  else
    let c := s.get (Reg.TIME_TPI_CTRL_SOURCE n)
    let st := stampOf (s.clockAt c 0 / tuTick) (s.clockFlags c)
    let full := decide ((s.tpi n).length ≥ 16)
    let lost := if full then some (st, s.bit (Reg.TIME_TPI_CTRL_OVERFLOW n)) else none
    let s := { s with time := { s.time with tpiAt := mapPut s.time.tpiAt n (s.cycle, lost) } }
    if full then s.on (Reg.TIME_TPI_CTRL_OVERFLOW n) else s.setTpi n (s.tpi n ++ [st])

/-- A POP removes the oldest entry; with a capture of the same cycle both take effect, whichever came first (R132). (DEDUCED, log 83.) -/
def State.tpiPop (s : State) (n : Nat) : State :=
  match s.tpi n, mapFind s.time.tpiAt n with
  | l, some (c, lost) =>
    if c != s.cycle then s.setTpi n l.tail
    else
      let s := { s with time := { s.time with tpiAt := mapPut s.time.tpiAt n (c, none) } }
      match lost with
      | some (st, was) => (s.setTpi n (l.tail ++ [st])).setB (Reg.TIME_TPI_CTRL_OVERFLOW n) was
      | none => if l.length = 1 then s else s.setTpi n l.tail
  | l, none => s.setTpi n l.tail

/-! ### Register checks and effects of the TIME page -/

/-- A signed field value lies within ±bound. -/
def withinS (v : Nat) (bound : Nat) : Bool := (toSigned 32 v).natAbs ≤ bound

/-- Refusals of the TIME page beyond reserved bits (R110 to R130, Tables 4-6 to 4-15); a write that sets PERIODIC meets the range
of PERIOD and WIDTH too. (DESIGN CHOICE, log 71; DESIGN CHOICE, log 83.) -/
def timeCheck (s : State) (off v : Nat) : Status :=
  if off < 0x100 then
    let d := off / 0x80
    match off % 0x80 with
    | 0x00 =>
      let sel := bits v 4 2
      if bits v 8 8 < 1 || bits v 8 8 > 250 || sel == 3 then .range
      else if s.bit (Reg.TIME_DOM_CTRL_LOCKED d) && sel != s.get (Reg.TIME_DOM_CTRL_TREF_SEL d) then .busy
      else if bitOf v 0 && (s.domLock d == 0 || (s.dom d).setPending.isSome || (sel != 2 && !s.trefGood d)) then .busy
      else .ok
    | 0x04 => if withinS v 1099511627 then .ok else .range
    | 0x08 => if withinS v 256000000 then .ok else .range
    | 0x14 => if bitOf v 0 && s.bit (Reg.TIME_DOM_CTRL_LOCKED d) then .busy else .ok
    | 0x24 => if v > 999999999 then .range else .ok
    | _ => .ok
  else if off = 0x100 then
    if bits v 16 16 == 0 || bits v 8 8 < 1 || bits v 8 8 > 250 then .range else .ok
  else if 0x200 ≤ off && off < 0x300 then
    let n := (off - 0x200) / 0x20
    let en := s.bit (Reg.TIME_TPO_CTRL_ENABLE n)
    let train := s.bit (Reg.TIME_TPO_CTRL_PERIODIC n)
    let per := s.get (Reg.TIME_TPO_PERIOD_PERIOD n)
    let wid := s.get (Reg.TIME_TPO_WIDTH_WIDTH n)
    match (off - 0x200) % 0x20 with
    | 0x00 =>
      if bitOf v 1 && wid + 10 > per then .range
      else if bitOf v 0 && s.presNone then .busy
      else if en && (bits v 1 1 != s.get (Reg.TIME_TPO_CTRL_PERIODIC n) || bits v 2 1 != s.get (Reg.TIME_TPO_CTRL_POLARITY n)) then .busy
      else .ok
    | 0x04 =>
      if v < 100 || v > 4000000000 || (train && wid + 10 > v) then .range
      else if en && v != per then .busy else .ok
    | 0x08 =>
      if v < 10 || v > 4000000000 || (train && v + 10 > per) then .range
      else if en && v != wid then .busy else .ok
    | 0x14 =>
      if v > 999999999 then .range
      else if en && v != s.get (Reg.TIME_TPO_START_W1_NANOSECONDS n) then .busy else .ok
    | 0x18 => if en && v != s.get (Reg.TIME_TPO_START_W2_SEC_LO n) then .busy else .ok
    | 0x1C => if en && v != s.get (Reg.TIME_TPO_START_W3_SEC_HI n) then .busy else .ok
    | _ => .ok
  else if 0x300 ≤ off && off < 0x400 then
    if off % 0x20 = 0 && (bits v 3 2 == 3 || bits v 1 2 == 3) then .range else .ok
  else if off = 0x400 then
    if bitOf v 2 && bitOf v 3 && bits v 16 8 == bits v 24 8 then .range else .ok
  else .ok

/-- What an accepted write to the TIME page does beyond its fields. `old` is the state before the write. -/
def timeEffect (old s : State) (off v : Nat) : State :=
  if off < 0x100 then
    let d := off / 0x80
    let x := s.dom d
    match off % 0x80 with
    | 0x00 =>
      let was := old.bit (Reg.TIME_DOM_CTRL_LOCKED d)
      let s := if !old.bit (Reg.TIME_DOM_CTRL_PPS_EN d) && bitOf v 2 then s.setDom d { x with lastPps := x.now } else s
      let s := if bitOf v 0 && !was then
          (if x.clearedAt = some s.cycle then s.off (Reg.TIME_DOM_CTRL_LOCKED d)
           else s.setDom d { s.dom d with lockWriteAt := s.cycle, lockedAt := s.cycle })
        else if !bitOf v 0 && was then s.on (Reg.TIME_DOM_STATUS_UNLOCK_HOST d) else s
      s.syncTime
    | 0x04 => s.servoWrite d
    | 0x08 => ((s.setDom d { x with left := toSigned 32 v * tuNs / 256 }).servoWrite d).syncTime
    | 0x14 =>
      if !bitOf v 0 then s
      else if bitOf v 1 then s.setDom d { x with setPending := some (s.stagedTime d) }
      else s.setTime d (s.stagedTime d)
    | _ => s
  else if off = 0x108 then
    if !bitOf v 0 then s
    else
      let put (s : State) (d : Nat) : State := s.putGroup (Reg.TIME_DOM_NOW_W0_FLAGS d) (Reg.TIME_DOM_NOW_W0_FRACTION d)
        (Reg.TIME_DOM_NOW_W1_NANOSECONDS d) (Reg.TIME_DOM_NOW_W2_SEC_LO d) (Reg.TIME_DOM_NOW_W3_SEC_HI d)
        (stampOf ((s.dom d).now / tuTick : Nat) (s.domFlags d))
      (put (put s 0) 1).putGroup Reg.TIME_PRES_NOW_W0_FLAGS Reg.TIME_PRES_NOW_W0_FRACTION Reg.TIME_PRES_NOW_W1_NANOSECONDS
        Reg.TIME_PRES_NOW_W2_SEC_LO Reg.TIME_PRES_NOW_W3_SEC_HI s.presStamp
  else if 0x200 ≤ off && off < 0x300 && off % 0x20 = 0 then
    let n := (off - 0x200) / 0x20
    if bitOf v 0 then (if old.bit (Reg.TIME_TPO_CTRL_ENABLE n) then s else s.tpoArm n) else s.tpoStop n
  else if 0x300 ≤ off && off < 0x400 && off % 0x20 = 0 then
    let n := (off - 0x300) / 0x20
    if bitOf v 8 then s.tpiPop n else s
  else s

/-! ### Events of the time core -/

/-- The phase remainder has reached exactly 0 (R111). -/
def State.phaseDone (s : State) (d : Nat) : State :=
  if (s.dom d).left = 0 then s.off (Reg.TIME_DOM_STATUS_SLEWING d) else s

/-- The servo watchdog has run out (R114, R115). -/
def State.watchdog (s : State) (d : Nat) : State :=
  let ms := s.get (Reg.TIME_DOM_CTRL_WDOG_MS d)
  let x := s.dom d
  if ms != 0 && s.bit (Reg.TIME_DOM_CTRL_LOCKED d) && s.cycle ≥ max x.lockWriteAt x.servoAt + ms * msCycles then
    let was := s.bit (Reg.TIME_DOM_STATUS_UNLOCK_WDOG d)
    let s := s.unlock d (Reg.TIME_DOM_STATUS_UNLOCK_WDOG d)
    s.setDom d { s.dom d with byWdog := some was }
  else s

/-- An accepted PPS edge: the capture of the time as it ran up to the edge, then a pending set (R118, R125). -/
def State.ppsEdge (s : State) (d : Nat) : State :=
  let x := s.dom d
  let s := if s.bit (Reg.TIME_DOM_CTRL_PPS_EN d) then
      (s.putGroup (Reg.TIME_DOM_PPS_W0_FLAGS d) (Reg.TIME_DOM_PPS_W0_FRACTION d) (Reg.TIME_DOM_PPS_W1_NANOSECONDS d)
        (Reg.TIME_DOM_PPS_W2_SEC_LO d) (Reg.TIME_DOM_PPS_W3_SEC_HI d) (stampOf (x.now / tuTick : Nat) (s.domFlags d))).on
        (Reg.TIME_DOM_STATUS_PPS_NEW d)
    else s
  let s := s.setDom d { x with lastPps := x.now }
  match x.setPending with
  | some t => s.setTime d t
  | none => s

/-- No accepted edge for 1.1 s of domain time (R125). -/
def State.ppsMissing (s : State) (d : Nat) : State :=
  let x := s.dom d
  if s.bit (Reg.TIME_DOM_CTRL_PPS_EN d) && (x.now : Int) - x.lastPps ≥ (1100000000 * tuNs : Nat) then
    s.on (Reg.TIME_DOM_STATUS_PPS_MISSING d)
  else s

/-- A − B in 1/16 ns, saturating (R127). (DESIGN CHOICE, log 70.) -/
def State.abDiff (s : State) : State :=
  let d := ((s.dom 0).now - (s.dom 1).now : Int) * 16 / tuNs
  s.set Reg.TIME_AB_DIFF_DIFF (ofSigned 32 (max (-(2 ^ 31)) (min (2 ^ 31 - 1) d)))

/-- Return to the preferred domain (R124). -/
def State.presRevert (s : State) : State :=
  let pref := s.get Reg.TIME_PRES_CTRL_PREFERRED
  if s.bit Reg.TIME_PRES_CTRL_REVERT && s.time.pres.mode == .follow (1 - pref) && s.domLocked pref &&
      s.cycle ≥ (s.dom pref).lockedAt + s.get Reg.TIME_PRES_CTRL_REVERT_S * 1000 * msCycles then
    (s.followFrom pref).syncTime
  else s

/-- e has reached exactly 0 (R120). -/
def State.moveDone (s : State) : State :=
  if s.moving then s else s.off Reg.TIME_PRES_STATUS_MOVING

end Sys2Proof.Machine
end

