-- ==== Sys2Proof/Machine/Mirror.lean ====
section
/-! DEFINITION. The sending side of the mirror stream between the devices of a pair (R518 to R521). -/

namespace Sys2Proof.Machine

/-- Pair states of Table 20-1. -/
def paUnpaired : Nat := 0
/-- DETACHED. -/
def paDetached : Nat := 1
/-- CLAIMING. -/
def paClaiming : Nat := 2
/-- ACTIVE. -/
def paActive : Nat := 3
/-- YIELDING. -/
def paYielding : Nat := 4
/-- STANDBY. -/
def paStandby : Nat := 5
/-- SYNCING. -/
def paSyncing : Nat := 6
/-- STALE. -/
def paStale : Nat := 7

/-- The pair state. -/
def State.pairState (s : State) : Nat := s.get Reg.PAIR_STATUS_STATE

/-- Change the pair's record. -/
def State.modPair (s : State) (f : PairSt → PairSt) : State := { s with pair := f s.pair }

/-- A mirror-link frame (R521, Table 20-5), padded to 60 bytes, with its FCS. -/
def State.mirrorBytes (s : State) (type seq : Nat) (payload : List Byte) : List Byte :=
  let me := if s.die.straps.senior then 0x020000000001 else 0x020000000002
  let peer := if s.die.straps.senior then 0x020000000002 else 0x020000000001
  let b := beBytes 6 peer ++ beBytes 6 me ++ [0x88, 0xB5, BitVec.ofNat 8 type, 0x01] ++ beBytes 2 payload.length ++
    beBytes 4 seq ++ beBytes 4 s.pair.ack ++ zeros 4 ++ payload
  let b := b ++ zeros (60 - b.length)
  b ++ fcsBytes b

/-- Send a frame on the mirror link while it is up and its transmitters are not idle. -/
def State.mirrorSend (s : State) (frame : List Byte) : State :=
  if s.bit Reg.PAIR_STATUS_LINK_UP && !s.mirrorIdle then s.modPair fun p => { p with sent := p.sent ++ [frame] } else s

/-- The mirror stream breaks on the sending side: the queue is discarded and STREAM_LOST is reported (R520). -/
def State.breakStream (s : State) : State :=
  (s.modPair fun p => { p with queue := [], streamLost := true, walk := none }).set Reg.PAIR_MIRROR_LEVEL_LEVEL 0

/-- Queue and send a STATE (3) or BULK (4) record (R518, R520): the 8-byte record header and the entry. -/
def State.sendRecord (s : State) (type op : Nat) (entry : List Byte) : State :=
  if s.pair.queue.length ≥ 65536 then s.breakStream
  else
    let payload := [BitVec.ofNat 8 op] ++ zeros 7 ++ entry
    let seq := s.pair.nextSeq
    let frame := s.mirrorBytes type seq payload
    let ackAt := if s.pair.queue.isEmpty then s.cycle else s.pair.ackAt
    let s := s.modPair fun p => { p with queue := p.queue ++ [(seq, type, payload)], nextSeq := (p.nextSeq + 1) % 2 ^ 32,
                                         ackAt := ackAt }
    (s.set Reg.PAIR_MIRROR_LEVEL_LEVEL s.pair.queue.length).mirrorSend frame

/-- Mirror one change of Table 20-4: in ACTIVE, and during a resync only for an item that the walk has passed
(R532). `same` tells the walk's items that the change is to. (DESIGN CHOICE, log 60.) -/
def State.mirrorItem (s : State) (op : Nat) (entry : List Byte) (same : Nat × List Byte → Bool) : State :=
  if s.pairState != paActive || s.pair.streamLost then s
  else match s.pair.walk with
    | some l => if l.any same then s else s.sendRecord 3 op entry
    | none => s.sendRecord 3 op entry

/-- Mirror a change that no walk item stands for. -/
def State.mirror (s : State) (op : Nat) (entry : List Byte) : State := s.mirrorItem op entry fun _ => false

end Sys2Proof.Machine
end

