-- ==== Sys2Proof/Machine/Commands.lean ====
section
/-! DEFINITION. Commands of the rings: the checks every command passes before it acts (R436, R438, R465, R494,
R519, R557), its completion (R439, R440), and the taking of descriptors (R434, R435, R437). -/

namespace Sys2Proof.Machine

/-- How a command ends: status, DETAIL, END, inline result and output (Table 16-4). -/
structure CmdRes where
  st : Status
  detail : Nat
  end_ : Bool
  result : List Byte
  out : List Byte
  deriving DecidableEq, Repr

/-- OK without result. -/
def CmdRes.ok : CmdRes := ⟨.ok, 0, false, [], []⟩

/-- A status without detail. -/
def CmdRes.of (st : Status) : CmdRes := ⟨st, 0, false, [], []⟩

/-- RANGE in the input (DETAIL 2). -/
def CmdRes.input : CmdRes := ⟨.range, 2, false, [], []⟩

/-- RANGE in the descriptor (DETAIL 1). -/
def CmdRes.field : CmdRes := ⟨.range, 1, false, [], []⟩

/-! ### The opcodes -/

/-- What Table 16-5 says of an opcode: the function that owns it, the FLAGS and PARAM bits it uses, the input
lengths it takes as least, greatest and step, whether it has an output, whether Table 20-4 mirrors it, and
whether a Reckoner routine carries it (Table 18-3). -/
structure OpInfo where
  fn : Option Func
  flags : Nat
  param : Nat
  inMin : Nat
  inMax : Nat
  inStep : Nat
  out : Bool
  mirrored : Bool
  routine : Option RoutineKind

/-- An opcode that takes an input of one length and has no output. -/
def opIn (fn : Func) (flags param len : Nat) (mirrored : Bool) : Option OpInfo :=
  some ⟨some fn, flags, param, len, len, 1, false, mirrored, none⟩

/-- An opcode that takes an input of one length and has an output. -/
def opOut (fn : Func) (flags param len : Nat) : Option OpInfo :=
  some ⟨some fn, flags, param, len, len, 1, true, false, none⟩

/-- An opcode that a routine carries. -/
def opRoutine (fn : Func) (flags param len : Nat) (mirrored : Bool) (k : RoutineKind) : Option OpInfo :=
  some ⟨some fn, flags, param, len, len, 1, false, mirrored, some k⟩

/-- The command set (Table 16-5). -/
def opInfo : Nat → Option OpInfo
  | 0x00 => opIn .ring 0 0 0 false
  | 0x10 => opIn .parse 0 0 128 true
  | 0x11 => opIn .parse 0 0 0 true
  | 0x12 => opRoutine .parse 0 0 0 true .ruleCommit
  | 0x13 => opOut .parse 0 0x77FFF 0
  | 0x14 => opIn .parse 0 0 16 true
  | 0x20 => opIn .fdb 1 0 16 true
  | 0x21 => opIn .fdb 0 0 16 true
  | 0x22 => opIn .fdb 0 0 16 true
  | 0x23 => opIn .fdb 0 0 16 false
  | 0x24 => opOut .fdb 3 0x1F 16
  | 0x25 => opRoutine .fdb 3 0xFFF03FF 0 true .fdbFlush
  | 0x28 => opRoutine .lpm 1 0 32 true .lpmInsert
  | 0x29 => opIn .lpm 0 0 32 true
  | 0x2A => opIn .lpm 0 0 32 false
  | 0x2B => opIn .lpm 0 0 32 false
  | 0x2C => opOut .lpm 1 0x1F 32
  | 0x2D => opRoutine .lpm 0 0x3FF 0 true .lpmFlush
  | 0x30 => opIn .flow 0 0 64 true
  | 0x31 => opIn .flow 0 0 64 true
  | 0x32 => opOut .flow 0 0 48
  | 0x33 => opOut .flow 0 0 48
  | 0x34 => some ⟨some .flow, 0, 0, 48, 48, 1, true, true, none⟩
  | 0x35 => opOut .flow 1 0xF1FFFFF 0
  | 0x38 => opRoutine .buf 0 0 0 false .withdraw
  | 0x39 => opIn .buf 0 0x7F 0 false
  | 0x3A => some ⟨some .tm, 0, 0xFFFF, 0, 2048, 2, false, true, none⟩
  | 0x3B => opOut .tm 0 0xFFFF 0
  | 0x40 => opIn .tm 0 0 32 true
  | 0x41 => opIn .tm 1 0xFFFF 0 false
  | 0x42 => opIn .tm 0 0 16 true
  | 0x43 => opIn .tm 0 0x7FFF 0 false
  | 0x44 => some ⟨some .tm, 0, 0xFF03FF, 8, 2048, 8, false, true, none⟩
  | 0x45 => opIn .tm 0 0 32 true
  | 0x46 => opIn .tm 0 0x3FF 0 true
  | 0x47 => opOut .tm 0 0x103FF 0
  | 0x50 => opOut .mac 0 0x3FF 0
  | 0x51 => opOut .mac 0 0x3FF 0
  | 0x60 => some ⟨none, 0, 1, 0, 32, 32, true, false, none⟩
  | 0x68 => opRoutine .pair 0 0 0 false .pairResync
  | _ => none

/-- The opcodes that R557 turns away while SERVICE = 0. -/
def isFlowOp (op : Nat) : Bool := 0x30 ≤ op && op ≤ 0x35

/-- The bits of `w` all lie in `mask`. -/
def within (w mask : Nat) : Bool := w &&& mask == w

/-- The fields of a command that its opcode does not use are 0, and its input has an allowed length (R436, R438). -/
def fieldsOk (o : OpInfo) (c : CmdIn) : Bool :=
  let n := c.input.length
  within c.flags o.flags && within c.param o.param && o.inMin ≤ n && n ≤ o.inMax && n % o.inStep == 0 &&
  c.outAddr % 16 == 0 && (o.out || c.outAddr == 0)

/-- What turns a command away before it acts. (DESIGN CHOICE, log 22.) -/
def State.cmdGate (s : State) (op : Nat) (o : OpInfo) (c : CmdIn) : Option CmdRes :=
  let boot := s.get Reg.SEC_BOOT_STATE
  if s.testMode || boot == 2 || s.get Reg.SEC_LIFECYCLE_STATE == 0 then some (.of .denied)
  else if boot != 1 then some (.of .busy)
  else if !fieldsOk o c then some .field
  else if (match o.fn with | some f => !s.funcUp f | none => false) then some (.of .functionDown)
  else if o.mirrored && (s.pairState == paStandby || s.pairState == paSyncing) then some (.of .busy)
  else if isFlowOp op && !s.bit Reg.DRAM_CTRL_SERVICE then some (.of .busy)
  else none

/-! ### Completion -/

/-- A command completion (Table 16-4). -/
def completionBytes (attn op : Nat) (c : CmdIn) (r : CmdRes) : List Byte :=
  [1, BitVec.ofNat 8 (statusCode r.st)] ++ leBytes 2 attn ++ leBytes 4 c.seq ++
  [BitVec.ofNat 8 op, BitVec.ofNat 8 r.detail, if r.end_ then 2 else 0, BitVec.ofNat 8 c.ring] ++
  leBytes 4 c.descIndex ++ padTo 48 r.result

/-- A stored completion written again (R440). -/
def replayBytes (attn descIndex : Nat) (b : List Byte) : List Byte :=
  patchAt (patchAt (patchAt b 2 (leBytes 2 attn)) 10 [(b.getD 10 0) ||| 1]) 12 (leBytes 4 descIndex)

/-- The command in progress on its ring is this one. -/
def State.isRunning (s : State) (op : Nat) (c : CmdIn) : Bool :=
  match (s.ring c.ring).running with
  | some (o, d) => o == op && d.descIndex == c.descIndex
  | none => false

/-- A command ends: its output is written, then its completion, and the ring goes on (R437, R439, R440). A
command taken before a re-initialisation of RING writes neither (R468). (DESIGN CHOICE, log 21.) -/
def State.complete (s : State) (op : Nat) (c : CmdIn) (r : CmdRes) : State :=
  let out := if r.st = .ok then r.out else []
  let entry := completionBytes s.attention op c r
  let s := s.modHost fun h => { h with completion := entry, output := out }
  if s.host.orphans.contains (c.ring, c.descIndex) then
    s.modHost fun h => { h with orphans := h.orphans.filter (· != (c.ring, c.descIndex)) }
  else
    let running := s.isRunning op c
    let s := if out.isEmpty || c.outAddr = 0 then s else s.memWrite c.outAddr out
    let s := s.postCompletion (s.get (Reg.RING_CFG_CQ c.ring)) running entry
    if running then
      let s := if c.seq = 0 then s
        else s.modRing c.ring fun x => { x with history := ((c.seq, op, entry) :: x.history.filter (·.1 != c.seq)).take 64 }
      s.ringIdle c.ring
    else s

/-! ### Turns and engines -/

/-- The priority of a routine, 1 the highest (Table 18-3); boot and the seal routine have none and give way to
none. -/
def RoutineKind.priority : RoutineKind → Nat
  | .boot | .tallySeal => 0
  | .portFlush _ | .stuckReclaim _ => 1
  | .dramTraining | .pairResync => 2
  | .ruleCommit | .lpmInsert => 3
  | .fdbFlush | .lpmFlush | .withdraw => 4
  | .lpmMove _ => 5

/-- Two routines that may not run at the same time (R227, R273, R316, R483). -/
def conflicts (a b : RoutineKind) : Bool :=
  match a, b with
  | .lpmInsert, .lpmInsert | .lpmInsert, .lpmMove _ | .lpmInsert, .lpmFlush | .lpmMove _, .lpmInsert | .lpmMove _, .lpmMove _
  | .lpmMove _, .lpmFlush | .lpmFlush, .lpmInsert | .lpmFlush, .lpmMove _ | .lpmFlush, .lpmFlush => true
  | .dramTraining, .dramTraining | .fdbFlush, .fdbFlush | .ruleCommit, .ruleCommit | .withdraw, .withdraw
  | .pairResync, .pairResync => true
  | .portFlush p, .portFlush q => p == q
  | .portFlush p, .stuckReclaim q => p == q / 16
  | .stuckReclaim q, .portFlush p => p == q / 16
  | .stuckReclaim p, .stuckReclaim q => p / 16 == q / 16
  | _, _ => false

/-- The engines that a routine may take (R475, Table 18-3). -/
def RoutineKind.engines : RoutineKind → List Nat
  | .boot => [0]
  | .tallySeal => [7]
  | _ => [0, 1, 2, 3, 4, 5, 6]

/-- A free engine for a routine; Reckoner 0 serves others only when boot has ended (R475). -/
def State.freeEngine (s : State) (k : RoutineKind) : Option Nat :=
  k.engines.find? fun e => (mapFind s.reck.engines e).isNone && !bitOf (s.get Reg.RCK_STATUS_HALTED) e &&
    (k == .boot || e != 0 || s.get Reg.SEC_BOOT_STATE == 1)

/-- LPM insert, background move and LPM_FLUSH, the routines of codes 6, 7 and 9 (R483). -/
def RoutineKind.onLpm : RoutineKind → Bool
  | .lpmInsert | .lpmMove _ | .lpmFlush => true
  | _ => false

/-- A routine stands back for another that is suspended: for any that conflicts with it, but an insert does not stand back
for a background move, which yields to it (R483). -/
def standsBack (r x : RoutineKind) : Bool :=
  match r, x with
  | .lpmInsert, .lpmMove _ => false
  | _, _ => conflicts r x

/-- A routine may start beside those that run or are suspended. -/
def State.mayStart (s : State) (r : Routine) : Bool :=
  !(s.reck.engines.any fun e => conflicts r.kind e.2.kind) &&
  !(s.reck.suspended.any fun x => x.seq != r.seq && standsBack r.kind x.kind)

/-- Routines of codes 6, 7 and 9 are started in the order requested (R483). (DEDUCED, log 45.) -/
def State.lpmTurn (s : State) (r : Routine) : Bool :=
  !r.kind.onLpm || !(s.reck.waiting.any fun x => x.kind.onLpm && x.seq < r.seq)

/-- The better of two routines to start: priority, then suspended before waiting, then the earlier request
(R485). The flag tells whether a routine is suspended. (DEDUCED, log 45.) -/
def before (a b : Bool × Routine) : Bool :=
  if a.2.kind.priority != b.2.kind.priority then a.2.kind.priority < b.2.kind.priority
  else if a.1 != b.1 then a.1 else a.2.seq < b.2.seq

/-- The first in the order of a relation. -/
def firstBy {α : Type} (lt : α → α → Bool) (l : List α) : Option α :=
  l.foldl (fun a x => match a with | some y => if lt x y then some x else some y | none => some x) none

/-- A command stands in the order of another (R211, R227, R288): both are on the rules, or on one session key. A key that has not yet been
read may be the same. (DEDUCED, log 88.) -/
def ordered (op : Nat) (c : CmdIn) (op' : Nat) (c' : CmdIn) : Bool :=
  (decide (0x10 ≤ op ∧ op ≤ 0x14) && decide (0x10 ≤ op' ∧ op' ≤ 0x14)) ||
  (decide (0x30 ≤ op ∧ op ≤ 0x34) && decide (0x30 ≤ op' ∧ op' ≤ 0x34) && (c'.input.length < 48 || c.input.take 48 == c'.input.take 48))

/-- No command that a command must follow, and that was taken before it, is still in progress (R211, R227, R288). -/
def State.myTurn (s : State) (op : Nat) (c : CmdIn) : Bool :=
  let mine := if s.isRunning op c then (s.ring c.ring).taken else s.host.takes
  s.host.rings.all fun e => match e.2.running with
    | some (op', c') => !(decide (e.2.taken < mine) && ordered op c op' c')
    | none => true

/-- A routine may start now as far as its command's turn goes: a commit follows the rule commands taken before it (R227). -/
def State.inOrder (s : State) (r : Routine) : Bool :=
  match r.kind, r.cmd with
  | .ruleCommit, some c => s.myTurn 0x12 c
  | _, _ => true

/-- The routine that starts next, when one can: suspended ones, waiting ones, and those of `more`. -/
def State.nextRoutine (s : State) (more : List Routine) : Option (Bool × Routine) :=
  let all := (s.reck.suspended.map fun r => (true, r)) ++ (s.reck.waiting ++ more).map fun r => (false, r)
  firstBy before (all.filter fun x => s.mayStart x.2 && (x.1 || (s.lpmTurn x.2 && s.inOrder x.2)) && (s.freeEngine x.2.kind).isSome)

/-- A routine is the one for this command, or for this event where there is no command. -/
def Routine.isFor (r : Routine) (k : RoutineKind) (c : Option CmdIn) : Bool :=
  r.kind == k && match c with | some c => r.serves c | none => true

/-- What a routine does can be done now: the routine is on an engine, or it is the next to start on a free one (R482, R485). (DESIGN CHOICE, log 21.) -/
def State.carried (s : State) (k : RoutineKind) (c : Option CmdIn) : Bool :=
  (s.reck.engines.any fun e => e.2.isFor k c) ||
  match s.nextRoutine (if s.routines.any (·.isFor k c) then [] else [⟨k, c, s.reck.nextSeq, 0, 0, false, 0, 0, false, none⟩]) with
  | some x => x.2.isFor k c
  | none => false

/-- A command may act: its turn has come, and the routine that carries it has an engine, unless it ends at once. -/
def State.mayAct (s : State) (op : Nat) (o : OpInfo) (c : CmdIn) (atOnce : Bool) : Bool :=
  s.myTurn op c && (atOnce || match o.routine with | some k => s.carried k (some c) | none => true)

/-- A command acts: its core's effect, the end of its routine, and its completion. -/
def State.carryOut (s : State) (op : Nat) (o : OpInfo) (core : CmdIn → State → CmdRes × State) (c : CmdIn) : State :=
  let (r, s) := core c s
  State.complete (match o.routine with | some k => s.endOwn k c | none => s) op c r

/-- A command as a step: turned away, waiting for its turn or its engine, or carried out; `atOnce` tells whether it ends without its
routine. (DESIGN CHOICE, log 21; DESIGN CHOICE, log 22; DEDUCED, log 88.) -/
def runLong (op : Nat) (atOnce : CmdIn → State → Bool) (core : CmdIn → State → CmdRes × State) (c : CmdIn) (s : State) : Out :=
  whenUp s fun s =>
    match opInfo op with
    | none => s.complete op c ⟨.range, 4, false, [], []⟩
    | some o =>
      match s.cmdGate op o c with
      | some r => s.complete op c r
      | none => if s.mayAct op o c (atOnce c s) then s.carryOut op o core c else s

/-- A command that never ends before its routine has an engine. -/
def runCmd (op : Nat) (core : CmdIn → State → CmdRes × State) (c : CmdIn) (s : State) : Out :=
  runLong op (fun _ _ => false) core c s

/-! ### Taking descriptors -/

/-- A command descriptor (Table 16-3) as a command whose input is still to be read. -/
def cmdOfDesc (ring index : Nat) (d : List Byte) : CmdIn :=
  { ring := ring, descIndex := index, flags := leAt d 2 2, seq := leAt d 4 4, param := leAt d 8 4,
    outAddr := leAt d 24 8, input := [] }

/-- The descriptor's own checks: byte 1, IN_LEN, IN_ADDR (R436, R438). -/
def descOk (o : OpInfo) (c : CmdIn) (d : List Byte) : Bool :=
  let n := leAt d 12 4
  d.getD 1 0 == 0 && n ≤ 2048 && fieldsOk o { c with input := zeros n } && leAt d 16 8 % 16 == 0 && (n != 0 || leAt d 16 8 == 0)

/-- The command in progress of a ring has its whole input: a routine is requested for it if it needs one (R485). (DESIGN CHOICE, log 21.) -/
def State.inputReady (s : State) (n : Nat) : State :=
  let r := s.ring n
  match r.running with
  | some (op, c) =>
    let c := { c with input := (r.parts.flatMap (·.2)).take r.need }
    let s := s.modRing n fun r => { r with running := some (op, c) }
    match opInfo op with
    | some o => match o.routine with
      | some k => match s.cmdGate op o c with
        | none => if (k == .fdbFlush || k == .lpmFlush) && s.otherRuns k c then s else s.request k (some c)
        | some _ => s
      | none => s
    | none => s
  | none => s

/-- Ask for the bytes of an input or a frame, padded to whole slots (R436, R445). -/
def State.askData (s : State) (n addr len : Nat) : State :=
  let s := s.modRing n fun r => { r with need := len, parts := [] }
  if len = 0 then s.inputReady n
  else s.askReads ((piecesOf addr (ceilDiv len 16 * 16)).map fun p => (.data n (p.1 - addr), p.1, p.2))

/-- Take a command descriptor (R434, R438, R440). One whose SEQ and OPCODE stand in the history is answered from it before its other
fields are checked. (DESIGN CHOICE, log 22.) -/
def State.takeCommand (s : State) (n : Nat) (d : List Byte) : State :=
  let op := leAt d 0 1
  let c := cmdOfDesc n (s.devIndex n) d
  let cq := s.get (Reg.RING_CFG_CQ n)
  let s := (s.modRing cq fun r => { r with reserved := r.reserved + 1 }).advance n
  let s := s.modRing n fun r => { r with fetched := none, running := some (op, c), taken := s.host.takes }
  let s := s.modHost fun h => { h with takes := h.takes + 1 }
  match (s.ring n).history.find? (·.1 == c.seq) with
  | some (_, o, b) =>
    if o = op then ((s.postCompletion cq true (replayBytes s.attention c.descIndex b)).modHost fun h =>
      { h with completion := replayBytes s.attention c.descIndex b, output := [] }).ringIdle n
    else ((s.postCompletion cq true (completionBytes s.attention op c CmdRes.field)).modHost fun h =>
      { h with completion := completionBytes s.attention op c CmdRes.field, output := [] }).ringIdle n
  | none =>
    match opInfo op with
    | none => s.complete op c ⟨.range, 4, false, [], []⟩
    | some o => if descOk o c d then s.askData n (leAt d 16 8) (leAt d 12 4) else s.complete op c CmdRes.field

/-- The checks of an inject descriptor (Table 16-6, R72, R156, R539). `destOk` judges the destination. (DESIGN CHOICE, log 90.) -/
def injectOk (d : List Byte) (destOk : Bool) : Bool :=
  leAt d 0 1 < 8 && !(bitOf (leAt d 0 1) 0 && leAt d 2 1 == 1) && leAt d 2 1 ≤ 1 && leAt d 3 1 == 0 && destOk && 60 ≤ leAt d 6 2 && leAt d 6 2 ≤ 15996 &&
  leAt d 12 4 == 0 && leAt d 16 8 % 16 == 0 && leAt d 24 8 == 0

/-- An inject completion (Table 16-7). -/
def injectEntry (attn : Nat) (st : Status) (ring detail lost tag index stamp : Nat) : List Byte :=
  [2, BitVec.ofNat 8 (statusCode st)] ++ leBytes 2 attn ++ leBytes 4 tag ++ [BitVec.ofNat 8 ring, BitVec.ofNat 8 detail] ++
  leBytes 2 lost ++ leBytes 4 index ++ leBytes 16 stamp ++ zeros 32

/-- The NOP command (R436). -/
def coreNop (_ : CmdIn) (s : State) : CmdRes × State := (CmdRes.ok, s)

/-- CNT_READ and CNT_CLEAR (R103, R443, R457). -/
def coreCounters (clear : Bool) (c : CmdIn) (s : State) : CmdRes × State :=
  let p := c.param % 1024
  if !s.isPort p then (CmdRes.field, s)
  else
    let r := { CmdRes.ok with
      result := leBytes 16 s.presStamp
      out := (List.range 64).flatMap fun i => leBytes 8 (s.counterNow p i) }
    (r, if clear then s.clearCounters p else s)

end Sys2Proof.Machine
end

