-- ==== Sys2Proof/Machine/Dram.lean ====
section
/-! DEFINITION. DRAM and its controller (R379 to R401): address mapping, queued writes, row counters, errors,
failed pseudo-channels, temperatures, parking, training and recalibration. -/

namespace Sys2Proof.Machine

/-! ### Addresses (Tables 14-2 and 14-3); a granule is device address bits [35:8], a burst bits [35:5] -/

/-- The first burst of a Tally ring slot of 64 bytes. -/
def tallyBurst (slot : Nat) : Nat := 0x04000000 / 32 + 2 * slot
/-- The first burst of a session place: key and context bytes 0 to 15 lie in the first two. -/
def placeBurst (index : Nat) : Nat := (0x104000000 + 0x800000) / 32 + 4 * index
/-- The burst of a session bucket's tag word. -/
def tagBurst (bucket : Nat) : Nat := 0x104000000 / 32 + bucket
/-- The first burst of the snapshot of a port's counter group in the staging region. (DESIGN CHOICE, log 91.) -/
def stagingBurst (port group : Nat) : Nat := 0x124000000 / 32 + 16 * port + 2 * group
/-- The first burst of a spilled bead. -/
def spillBurst (bead : Nat) : Nat := 0x400000000 / 32 + 8 * bead
/-- The granule of a burst. -/
def granuleOf (b : Nat) : Nat := b / 8
/-- `n` bursts from one on. -/
def burstsFrom (b n : Nat) : List Nat := (List.range n).map (b + ·)

/-- The pseudo-channel of a granule (R381). -/
def pcOf (g : Nat) : Nat := g % 64 ^^^ bits g 12 6
/-- The SID of a granule. -/
def sidOf (g : Nat) : Nat := g / 2 ^ 26
/-- The row of a granule. -/
def rowOf (g : Nat) : Nat := bits g 12 14
/-- The bank key of a granule: pseudo-channel × 48 + SID × 16 + bank. -/
def bankOf (g : Nat) : Nat := pcOf g * 48 + sidOf g * 16 + bits g 8 4
/-- The stack of a pseudo-channel. -/
def stackOf (pc : Nat) : Nat := pc / 32

/-- Change the DRAM record. -/
def State.modDram (s : State) (f : DramSt → DramSt) : State := { s with dram := f s.dram }

/-- A pseudo-channel has failed (R388). -/
def State.pcFailed (s : State) (pc : Nat) : Bool :=
  if pc < 32 then bitOf (s.get Reg.DRAM_PC_FAILED_LO_FAILED) pc else bitOf (s.get Reg.DRAM_PC_FAILED_HI_FAILED) (pc - 32)

/-- A stack is parked (R395). -/
def State.parked (s : State) (stack : Nat) : Bool :=
  if stack = 0 then s.bit Reg.DRAM_STATUS_PARKED0 else s.bit Reg.DRAM_STATUS_PARKED1

/-- Mark a stack parked or not. -/
def State.setParked (s : State) (stack : Nat) (b : Bool) : State :=
  if stack = 0 then s.setB Reg.DRAM_STATUS_PARKED0 b else s.setB Reg.DRAM_STATUS_PARKED1 b

/-! ### Row counters (R392) -/

/-- The lowest count of a table of row counters. -/
def lowestCount (l : List (Nat × Nat)) : Nat := l.foldl (fun a e => min a e.2) (l.headD (0, 0)).2

/-- An activate of a row in a bank's table of 64 counters. -/
def activateRow (l : List (Nat × Nat)) (row : Nat) : List (Nat × Nat) :=
  if l.any (·.1 == row) then l.map fun e => if e.1 = row then (row, e.2 + 1) else e
  else if l.length < 64 then l ++ [(row, 1)]
  else
    let low := lowestCount l
    match l.findIdx? (·.2 == low) with
    | some i => modAt l i fun _ => (row, low + 1)
    | none => l

/-- Count an activate of a row of a bank. -/
def State.activate (s : State) (bank row : Nat) : State :=
  s.modDram fun d => { d with rows := mapMod d.rows bank [] fun l => activateRow l row }

/-- A command goes to a pseudo-channel and into its retry buffer of 32 (R385). -/
def State.issue (s : State) (pc : Nat) (c : DramCmd) : State :=
  s.modDram fun d => { d with retry := mapMod d.retry pc [] fun l => (l ++ [c]).drop (l.length + 1 - 32) }

/-- The counter of a row. -/
def State.rowCount (s : State) (bank row : Nat) : Nat :=
  match (mapGet s.dram.rows bank []).find? (·.1 == row) with | some e => e.2 | none => 0

/-- The neighbours of a row are refreshed by activate and precharge, and its counter returns to 0 (R393). (DESIGN CHOICE, log 46.) -/
def State.guardRow (s : State) (bank row : Nat) : State :=
  let s := if row > 0 then s.activate bank (row - 1) else s
  let s := if row < 16383 then s.activate bank (row + 1) else s
  (s.modDram fun d => { d with rows := mapMod d.rows bank [] fun l => l.map fun e => if e.1 = row then (row, 0) else e }).satAdd
    Reg.DRAM_ROW_GUARD_CNT_COUNT 1

/-- A row's counter has reached THRESHOLD: its neighbours are refreshed (R393). -/
def State.rowGuard (s : State) (bank row : Nat) : State :=
  if s.rowCount bank row ≥ s.get Reg.DRAM_ROW_GUARD_THRESHOLD then s.guardRow bank row else s

/-- The row of a granule is activated; one whose counter has reached THRESHOLD is guarded first (R393). -/
def State.openRow (s : State) (pc bank row : Nat) : State :=
  ((s.rowGuard bank row).activate bank row).issue pc (.activate bank row)

/-- A read reaches the stack: one activate of the granule's row, and the bursts, `times` over (R381, R384). -/
def State.reachStack (s : State) (bursts : List Nat) (times : Nat) : State :=
  match bursts with
  | [] => s
  | b :: _ =>
    let g := granuleOf b
    (List.range times).foldl (fun s _ => bursts.foldl (fun s k => s.issue (pcOf g) (.read k)) s)
      (s.openRow (pcOf g) (bankOf g) (rowOf g))

/-! ### Requests -/

/-- Restart a parked stack and recalibrate it (R395, R399). -/
def State.wake (s : State) (stack : Nat) : State :=
  if s.parked stack then
    (s.setParked stack false).modDram fun d => { d with
      recalAt := (List.range 32).foldl (fun m i => mapPut m (32 * stack + i) s.cycle) d.recalAt
      lastReq := mapPut d.lastReq stack s.cycle }
  else s

/-- A user's request for a granule: the stack and its SID wake, and their idle times start again (R395, R396). -/
def State.noteRequest (s : State) (g : Nat) : State :=
  let stack := stackOf (pcOf g)
  let sid := stack * 3 + sidOf g
  (s.wake stack).modDram fun d => { d with
    lastReq := mapPut d.lastReq stack s.cycle
    lastSid := mapPut d.lastSid sid s.cycle
    sidIdle := d.sidIdle.filter (· != sid) }

/-- Writes reach the stack in order; consecutive writes to one granule share an activate (R381, R390). -/
def serveWrites : Option Nat → List (Nat × Nat) → State → State
  | _, [], s => s
  | last, w :: l, s =>
    let g := granuleOf w.1
    let s := if last = some g then s else s.openRow (pcOf g) (bankOf g) (rowOf g)
    serveWrites (some g) l (s.issue (pcOf g) (.write w.1))

/-- Serve the oldest queued writes of a pseudo-channel until `n` are left (R390). (DEDUCED, log 46.) -/
def State.drainWrites (s : State) (pc n : Nat) : State :=
  let l := mapGet s.dram.writes pc []
  serveWrites none (l.take (l.length - n)) (s.modDram fun d => { d with writes := mapSet d.writes pc (l.drop (l.length - n)) [] })

/-- Queue the writes of some bursts: a write that would find the queue full waits until it drains, and one that brings it to WR_HIGH
starts a drain to WR_LOW (R390). -/
def State.queueWrites (s : State) (pc : Nat) (bursts : List Nat) : State :=
  let s := if (mapGet s.dram.writes pc []).length + bursts.length > 64 then s.drainWrites pc (64 - bursts.length) else s
  let s := s.modDram fun d => { d with
    writes := mapMod d.writes pc [] (· ++ bursts.map fun b => (b, s.cycle))
    errs := d.errs.filter fun e => !bursts.contains e.1 }
  if (mapGet s.dram.writes pc []).length ≥ s.get Reg.DRAM_SCHED_WR_HIGH then s.drainWrites pc (s.get Reg.DRAM_SCHED_WR_LOW) else s

/-- Bytes are moved for a user in the present microsecond (R389). -/
def State.spend (s : State) (user bursts : Nat) : State :=
  let now := s.cycle / usCycles
  s.modDram fun d => { d with
    spentAt := now, spent := mapMod (if d.spentAt = now then d.spent else []) user 0 (· + 32 * bursts) }

/-- The bytes moved for a user in the present microsecond. -/
def State.spent (s : State) (user : Nat) : Nat :=
  if s.dram.spentAt = s.cycle / usCycles then mapGet s.dram.spent user 0 else 0

/-- The spill bandwidth is taken for `n` more beads: the cap of Table 14-5 is reached, or the other users leave less (R323, R389). (DESIGN CHOICE, log 92.) -/
def State.spillTaken (s : State) (n : Nat) : Bool :=
  decide (s.spent 3 + 256 * n > min 1000000 (1368000 - (s.spent 0 + s.spent 1 + s.spent 2)))

/-- The controller serves its users: DRAM is UP and no training runs (R397). -/
def State.dramServes (s : State) : Bool := s.funcUp .dram && s.get Reg.DRAM_TRAIN_STATUS != 1

/-- A user writes bursts of one granule; a write to a failed pseudo-channel is discarded (R388). Users: 0 Tally, 1 contexts,
2 staging, 3 spill. -/
def State.dramWrite (s : State) (user b n : Nat) : State :=
  let pc := pcOf (granuleOf b)
  let s := (s.noteRequest (granuleOf b)).spend user n
  if s.pcFailed pc then s else s.queueWrites pc (burstsFrom b n)

/-- Record the place and kind of an error (Table 14-9). -/
def State.errLoc (s : State) (uncorr : Bool) (user g : Nat) : State :=
  ((s.setB Reg.DRAM_ERR_LOC_UNCORR uncorr).set Reg.DRAM_ERR_LOC_USER user).set Reg.DRAM_ERR_LOC_GRANULE g

/-- A corrected error (R382). -/
def State.corrected (s : State) (user g : Nat) : State :=
  ((s.errLoc false user g).satAdd Reg.DRAM_CORR_CNT_COUNT 1).on Reg.DRAM_STATUS_CORRECTED

/-- An uncorrectable burst (R387): users 0 Tally, 1 contexts, 2 staging, 3 spill, 4 scrub. -/
def State.uncorrectable (s : State) (user g : Nat) : State :=
  ((s.errLoc true user g).satAdd Reg.DRAM_UNCORR_CNT_COUNT 1).on Reg.DRAM_STATUS_UNCORR

/-- What the ECC finds in burst `k` of a read that begins at burst `b`: the error that stands in it, or the one that this read meets. -/
def State.burstEcc (s : State) (b : Nat) (o : ReadOutcome) (k : Nat) : EccOutcome :=
  let here := mapGet s.dram.errs k .clean
  if here = .uncorrectable || k != b + o.burst || o.ecc = .clean then here else o.ecc

/-- One burst of a read: a corrected one is rewritten (R382), an uncorrectable one stays as it is (R387). -/
def State.burstRead (s : State) (user : Nat) (k : Nat) : EccOutcome → State
  | .clean => s
  | .corrected => (s.corrected user (granuleOf k)).queueWrites (pcOf (granuleOf k)) [k]
  | .uncorrectable => (s.uncorrectable user (granuleOf k)).modDram fun d => { d with errs := mapPut d.errs k .uncorrectable }

/-- Bursts of one granule come from the stack: repeated on a parity error (R384), with the severity reports of the stack counted
(Table 14-1); the answer lists the poisoned bursts. -/
def State.stackRead (s : State) (user b : Nat) (bursts : List Nat) (o : ReadOutcome) : List Nat × State :=
  let found := bursts.map fun k => (k, s.burstEcc b o k)
  let s := s.reachStack bursts (1 + o.repeats)
  let s := if o.severity then s.satAdd Reg.DRAM_CORR_CNT_COUNT 1 else s
  ((found.filter (·.2 == .uncorrectable)).map (·.1), found.foldl (fun s e => s.burstRead user e.1 e.2) s)

/-- A user reads bursts of one granule: a queued write to a burst gives its data (R390), a failed pseudo-channel nothing but poison
(R388). The answer lists the poisoned bursts. -/
def State.dramRead (s : State) (user b n : Nat) (o : ReadOutcome) : List Nat × State :=
  let g := granuleOf b
  let pc := pcOf g
  let s := ((s.noteRequest g).spend user n).modDram fun d => { d with lastRead := mapPut d.lastRead pc s.cycle }
  if s.pcFailed pc then (burstsFrom b n, s.uncorrectable user g)
  else
    let stored := (burstsFrom b n).filter fun k => !(mapGet s.dram.writes pc []).any (·.1 == k)
    if stored.isEmpty then ([], s) else s.stackRead user b stored o

/-- A read that meets nothing but what stands in the stored bursts. -/
def cleanRead : ReadOutcome := ⟨0, false, .clean, 0⟩

/-- A pseudo-channel fails (R388). -/
def State.failPc (s : State) (pc : Nat) : State :=
  let s := if pc < 32 then s.putBit Reg.DRAM_PC_FAILED_LO_FAILED pc true else s.putBit Reg.DRAM_PC_FAILED_HI_FAILED (pc - 32) true
  (s.on Reg.DRAM_STATUS_PC_FAIL).modDram fun d => { d with writes := mapDel d.writes pc }

/-! ### Events of the controller -/

/-- The regions in use (Table 14-2, R380). -/
def State.inUse (s : State) (g : Nat) : Bool :=
  let a := g * 256
  a < 0x4000000 ||
  (0x4000000 ≤ a && a < 0x4000000 + s.get Reg.TALLY_RING_SIZE_UNITS * 0x400000) ||
  (0x104000000 ≤ a && a < 0x134000000) ||
  (s.bit Reg.BUF_SPILL_CTRL_ENABLE && 0x400000000 ≤ a && a < 0x400000000 + s.get Reg.BUF_SPILL_CTRL_SIZE_GIB * 0x40000000)

/-- An error comes to stand in a stored burst; the next read of it meets that. -/
def State.spoil (s : State) (k : Nat) (e : EccOutcome) : State :=
  if e = .clean then s else s.modDram fun d => { d with errs := mapPut d.errs k e }

/-- The scrub reads a granule (R383, R387): a request that wakes the granule's SID but is no use of the stack (R395, R396). With the
scrub off nothing is read, and a failing burst waits for its next read. (DESIGN CHOICE, log 75.) -/
def State.scrubRead (s : State) (g : Nat) (o : ReadOutcome) : State :=
  if !s.inUse g || s.parked (stackOf (pcOf g)) || !s.funcUp .dram then s
  else if !s.bit Reg.DRAM_CTRL_SCRUB_EN then s.spoil (8 * g + o.burst) o.ecc
  else
    let sid := stackOf (pcOf g) * 3 + sidOf g
    let s := s.modDram fun d => { d with lastSid := mapPut d.lastSid sid s.cycle, sidIdle := d.sidIdle.filter (· != sid) }
    if s.pcFailed (pcOf g) then s.uncorrectable 4 g else (s.stackRead 4 (8 * g) (burstsFrom (8 * g) 8) o).2

/-- Every bank is precharged and the last `n` buffered commands are sent again in their order (R385). -/
def State.replay (s : State) (pc n : Nat) : State :=
  let l := mapGet s.dram.retry pc []
  (l.drop (l.length - n)).foldl (fun s c => match c with
    | .activate bank row => s.openRow pc bank row
    | c => s.issue pc c) (s.issue pc .prechargeAll)

/-- The stack reports a parity error of a command or of write data: the commands are replayed (R385); the fourth alert of a
pseudo-channel's commands within 10 µs retrains its command interface (R386). (DESIGN CHOICE, log 93.) -/
def State.parityAlert (s : State) (pc : Nat) (ofCommand : Bool) (reissue : Nat) (retrainOk : Bool) : State :=
  let s := ((s.replay pc reissue).satAdd Reg.DRAM_CA_REPLAY_CNT_COUNT 1).on Reg.DRAM_STATUS_CA_REPLAY
  if !ofCommand then s
  else
    let recent := (mapGet s.dram.alerts pc []).filter (fun c => s.cycle < c + 10 * usCycles) ++ [s.cycle]
    let four := recent.length ≥ 4
    let s := s.modDram fun d => { d with alerts := mapSet d.alerts pc (if four then [] else recent) [] }
    if four && !retrainOk then s.failPc pc else s

/-- The oldest write of a pseudo-channel has waited WR_AGE_NS (R390). (DEDUCED, log 46.) -/
def State.ageDrain (s : State) (pc : Nat) : State :=
  let l := mapGet s.dram.writes pc []
  match l.head? with
  | some w => if 2 * (s.cycle - w.2) ≥ 3 * s.get Reg.DRAM_SCHED_WR_AGE_NS then
      s.drainWrites pc (min (s.get Reg.DRAM_SCHED_WR_LOW) (l.length - 1)) else s
  | none => s

/-- No read has been pending on a pseudo-channel for 100 ns (R390). (DEDUCED, log 46.) -/
def State.idleDrain (s : State) (pc : Nat) : State :=
  let l := mapGet s.dram.writes pc []
  if !l.isEmpty && s.cycle ≥ mapGet s.dram.lastRead pc 0 + 150 then
    s.drainWrites pc (min (s.get Reg.DRAM_SCHED_WR_LOW) (l.length - 1))
  else s

/-- The length of the refresh window in force for a stack: 32 ms, and 16 ms while it is hot (R391). -/
def State.windowLen (s : State) (stack : Nat) : Nat := if s.dram.hot.contains stack then 16 * msCycles else 32 * msCycles

/-- The refresh window of a stack is over: the next begins, and its row counters return to 0 (R391, R392). -/
def State.refreshWindow (s : State) (stack : Nat) : State :=
  if s.cycle < mapGet s.dram.windowAt stack 0 + s.windowLen stack then s
  else s.modDram fun d => { d with
    rows := d.rows.filter fun e => e.1 / 48 / 32 != stack, windowAt := mapPut d.windowAt stack s.cycle }

/-- One stack's temperature (R391). -/
def State.stackTemp (s : State) (stack t : Nat) : State :=
  let s := if t ≥ 95 then s.on Reg.DRAM_STATUS_TEMP else s
  let d := s.dram
  let cool := if t < 82 then (match mapFind d.coolFrom stack with | some c => mapPut d.coolFrom stack c | none => mapPut d.coolFrom stack s.cycle)
    else mapDel d.coolFrom stack
  let hot := if t ≥ 85 then (if d.hot.contains stack then d.hot else d.hot ++ [stack])
    else if t < 82 && s.cycle ≥ mapGet cool stack s.cycle + msCycles then d.hot.filter (· != stack)
    else d.hot
  (s.modDram fun d => { d with coolFrom := cool, hot := hot }).setB Reg.DRAM_STATUS_HOT (!hot.isEmpty)

/-- The stack temperatures are read (R391). -/
def State.tempsRead (s : State) (t0 t1 : Nat) : State :=
  ((((s.set Reg.DRAM_TEMP_STACK0 t0).set Reg.DRAM_TEMP_STACK1 t1).stackTemp 0 (t0 % 256)).stackTemp 1 (t1 % 256))

/-- An idle stack parks in service (R395). -/
def State.park (s : State) (stack : Nat) : State :=
  if s.bit Reg.DRAM_CTRL_SERVICE && s.bit Reg.DRAM_CTRL_PARK_EN && !s.parked stack &&
      s.cycle ≥ mapGet s.dram.lastReq stack 0 + s.get Reg.DRAM_PWR_PARK_MS * msCycles then
    let s := (List.range 32).foldl (fun s i => s.drainWrites (32 * stack + i) 0) s
    (s.setParked stack true).satAdd Reg.DRAM_PARK_CNT_COUNT 1
  else s

/-- A SID idle in maintenance enters idle mode (R396). -/
def State.idleSid (s : State) (stack sid : Nat) : State :=
  let k := stack * 3 + sid
  if !s.bit Reg.DRAM_CTRL_SERVICE && !s.dram.sidIdle.contains k &&
      s.cycle ≥ mapGet s.dram.lastSid k 0 + s.get Reg.DRAM_PWR_SID_IDLE_MS * msCycles then
    s.modDram fun d => { d with sidIdle := d.sidIdle ++ [k] }
  else s

/-- Training begins: every pseudo-channel is to be trained (R397). (DESIGN CHOICE, log 62.) -/
def State.startTraining (s : State) : State :=
  let s := (s.set Reg.DRAM_TRAIN_STATUS 1).set Reg.DRAM_TRAIN_LANE_REPAIRED 0
  let s := (s.modDram fun d => { d with trained := [], lanes := [], trainBad := false, trainUnread := false, writes := [],
                                        retry := [], errs := [] }).endRoutine (· == .dramTraining)
  s.request .dramTraining none

/-- A routine of this kind runs on an engine. -/
def State.runsRoutine (s : State) (k : RoutineKind) : Bool := s.reck.engines.any fun e => e.2.kind == k

/-- A channel has failing lanes: the first goes onto the spare lane and is counted; with a second the channel fails (R397). (DESIGN CHOICE, log 62.) -/
def State.mapLanes (s : State) (channel lanes : Nat) : State :=
  let before := mapGet s.dram.lanes channel 0
  if lanes = 0 then s
  else
    let s := s.modDram fun d => { d with lanes := mapPut d.lanes channel (before + lanes) }
    if before = 0 then
      (s.set Reg.DRAM_TRAIN_LANE_REPAIRED (s.get Reg.DRAM_TRAIN_LANE_REPAIRED + 1)).satAdd Reg.DRAM_LANE_REPAIRED_CNT_COUNT 1
    else s

/-- One pseudo-channel has been trained (R397); after the 64th, training has ended. -/
def State.trainPc (s : State) (pc failedLanes : Nat) (ok : Bool) : State :=
  if s.get Reg.DRAM_TRAIN_STATUS != 1 || s.dram.trained.contains pc || !s.runsRoutine .dramTraining then s
  else
    let s := s.mapLanes (pc / 2) failedLanes
    let twice := decide (mapGet s.dram.lanes (pc / 2) 0 ≥ 2)
    let good := ok && !twice
    let s := if good then s else s.failPc pc
    let s := if twice then s.failPc (pc / 2 * 2 + (1 - pc % 2)) else s
    let s := s.modDram fun d => { d with trained := d.trained ++ [pc], trainBad := d.trainBad || !good }
    if s.dram.trained.length < 64 then s
    else
      let bad := s.dram.trainBad
      let s := ((s.set Reg.DRAM_TRAIN_STATUS (if bad then 3 else 2)).modDram fun d => { d with trainUnread := true }).endRoutine
        (· == .dramTraining)
      let starting := bits (s.get Reg.SYS_FUNC_STATUS_STATE) 18 2 == 1 && !s.plat.reinit.contains 9
      if !starting then s
      else if bad then ((s.setFunc 9 2).putBit Reg.SYS_FUNC_EVT_FAILED 9 true).on Reg.SYS_START_STATUS_FAILED
      else s.setFunc 9 0

/-- The timing of a pseudo-channel is recalibrated in service, once every RECAL_MS (R399). -/
def State.recalPc (s : State) (pc : Nat) : State :=
  if s.bit Reg.DRAM_CTRL_SERVICE && !s.parked (stackOf pc) &&
      s.cycle ≥ mapGet s.dram.recalAt pc 0 + s.get Reg.DRAM_RECAL_RECAL_MS * msCycles then
    s.modDram fun d => { d with recalAt := mapPut d.recalAt pc s.cycle }
  else s

/-- DRAM_TRAIN is read (R401). -/
def State.trainRead (s : State) : State := s.modDram fun d => { d with trainUnread := false }

/-- Refusals of the DRAM page beyond reserved bits (R394, R398, Tables 14-6 and 14-7). -/
def dramCheck (s : State) (off v : Nat) : Status :=
  match off with
  | 0x00 => if bitOf v 0 && s.get Reg.DRAM_TRAIN_STATUS != 2 then .busy else .ok
  | 0x04 =>
    let hi := bits v 24 7
    let age := bits v 0 16
    if hi < 8 || hi > 64 || bits v 16 7 + 8 > hi || age < 100 || age > 40000 then .range else .ok
  | 0x08 => if bits v 16 16 < 10 || bits v 0 16 < 1 then .range else .ok
  | 0x0C => if bits v 0 16 < 256 || bits v 0 16 > 32767 then .range else .ok
  | 0x10 => if bits v 0 16 < 10 || bits v 0 16 > 1000 then .range else .ok
  | 0x14 => if bitOf v 31 && (s.bit Reg.DRAM_CTRL_SERVICE || s.get Reg.DRAM_TRAIN_STATUS == 1) then .busy else .ok
  | _ => .ok

end Sys2Proof.Machine
end

