-- ==== Sys2Proof/Machine/Rings.lean ====
section
/-! DEFINITION. The ring engine and the export rings (R430 to R451): doorbells, replies and failed reads, the taking
of descriptors, index blocks, counter sweeps, event entries and keepalives; and the training and loss of the
host link (R403 to R405, R424). -/

namespace Sys2Proof.Machine

/-! ### Reads and replies -/

/-- Forget every read of a ring: a reply to one has no user any more. -/
def State.dropReads (s : State) (n : Nat) : State :=
  s.modHost fun h => { h with
    reads := h.reads.map fun e => (e.1, match e.2.user with
      | .data r _ => if r = n then { e.2 with user := .data 64 0 } else e.2
      | .descriptor r => if r = n then { e.2 with user := .data 64 0 } else e.2)
    wanted := h.wanted.filter fun w => match w.1 with | .data r _ => r != n | .descriptor r => r != n }

/-- An inject descriptor ends before its frame is admitted: its completion, and the ring goes on (R446, R451). -/
def State.endInject (s : State) (n : Nat) (st : Status) (detail : Nat) : State :=
  let d := (s.ring n).desc
  let e := injectEntry s.attention st n detail 0 (leAt d 8 4) (s.devIndex n) 0
  let s := (s.postCompletion (s.get (Reg.RING_CFG_CQ n)) true e).modHost fun h => { h with completion := e }
  (s.advance n).ringIdle n

/-- A read of host memory has failed (R451). -/
def State.readFailed (s : State) (u : ReadUser) : State :=
  match u with
  | .descriptor n => s.setHalted n true
  | .data n _ =>
    if n ≥ 64 then s
    else
      let s := s.dropReads n
      match (s.ring n).running with
      | some (op, c) => if op = 256 then s.endInject n .retry 3 else s.complete op c ⟨.retry, 3, false, [], []⟩
      | none => s

/-- The bytes of a read have arrived. -/
def State.readDone (s : State) (u : ReadUser) (data : List Byte) : State :=
  match u with
  | .descriptor n => s.modRing n fun r => { r with fetched := some data }
  | .data n off =>
    if n ≥ 64 then s
    else
      let s := s.modRing n fun r => { r with parts := mapPut r.parts off data }
      let r := s.ring n
      if (r.parts.map (·.2.length)).sum ≥ r.need && n < 32 then s.inputReady n else s

/-- A REPLY of the host (R420): status 0 with the length asked for gives the data; anything else fails the read; a
late one is counted. -/
def State.hostReply (s : State) (tag status len : Nat) (data : List Byte) : State :=
  match mapFind s.host.reads tag with
  | some r =>
    let s := s.modHost fun h => { h with reads := mapDel h.reads tag }
    let s := if status = 0 && len = r.len then s.readDone r.user (data.take len) else s.readFailed r.user
    s.askReads []
  | none => if s.tagHeld tag then s.satAdd Reg.HLINK_LATE_REPLY_CNT_COUNT 1 else s

/-- A read has had no REPLY within MEM_TO_US (R420). -/
def State.readTimeout (s : State) (tag : Nat) : State :=
  match mapFind s.host.reads tag with
  | some r =>
    if s.cycle < r.since + s.memTimeout then s
    else
      let s := s.modHost fun h => { h with reads := mapDel h.reads tag, failed := mapPut h.failed tag s.cycle }
      (((s.satAdd Reg.HLINK_MEM_TIMEOUT_CNT_COUNT 1).on Reg.HLINK_STATUS_MEM_TIMEOUT).readFailed r.user).askReads []
  | none => s

/-! ### Doorbells and the ring engine -/

/-- Write the counter entries that ring 62 has room for: each is read from staging, and marked when that read is poisoned (R387, R450). -/
def flushSweep : Nat → State → State
  | 0, s => s
  | fuel + 1, s =>
    match s.host.sweep with
    | e :: l =>
      if !s.ringRoom 62 1 || !s.canWrite || !s.dramServes then s
      else
        let (bad, s) := s.dramRead 2 e.burst 2 e.read
        let s := if e.lost && bad.isEmpty then s.uncorrectable 2 (granuleOf e.burst) else s
        let b := if e.lost || !bad.isEmpty then patchAt e.bytes 3 [1] else e.bytes
        flushSweep fuel (State.ringWrite (s.modHost fun h => { h with sweep := l }) 62 b)
    | [] => s

/-- Write the held completions of an enabled ring, in order. -/
def State.releaseHeld (s : State) (cq : Nat) : State :=
  let mine := s.host.held.filter (·.1 == cq)
  let s := s.modHost fun h => { h with held := h.held.filter (·.1 != cq) }
  mine.foldl (fun s e => s.postCompletion cq true e.2) s

/-- A doorbell value for a ring (R418, R432). -/
def State.doorbell (s : State) (n v : Nat) : State :=
  let d := s.devIndex n
  let diff := (if hostProduced n then v + 2 ^ 32 - d else d + 2 ^ 32 - v) % 2 ^ 32
  if s.ringOn n && diff ≤ s.ringSize n then
    let s := s.set (Reg.RING_DB_DOORBELL n) v
    if n = 62 then flushSweep s.host.sweep.length s else s.fetchNext n
  else ((s.satAdd Reg.RING_BAD_DB_CNT_COUNT 1).set Reg.RING_BAD_DB_LOC_RING n).on Reg.RING_STATUS_BAD_DB

/-- The host-produced rings in rotation after the one served last (R435). -/
def State.ringOrder (s : State) : List Nat := (rotation 64 (s.host.rotate + 1)).filter hostProduced

/-- The ring whose descriptor is taken next: it is read, and its completion ring has room (R435). (DEDUCED, log 64.) -/
def State.nextTake (s : State) : Option Nat :=
  s.ringOrder.find? fun n => s.ringOn n && !s.halted n && (s.ring n).running.isNone && (s.ring n).fetched.isSome &&
    (n < 48 || !s.injectHeld) && s.ringRoom (s.get (Reg.RING_CFG_CQ n)) 1

/-- The destination of an inject descriptor is one that may be named (Table 16-6, R72, R539). -/
def State.injectDestOk (s : State) (d : List Byte) : Bool :=
  if leAt d 2 1 = 1 then true else s.destPortOk (leAt d 4 2)

/-- Take an inject descriptor: a refused one completes at once (R446), another's frame is read (R434). -/
def State.takeInject (s : State) (n : Nat) (d : List Byte) : State :=
  let cq := s.get (Reg.RING_CFG_CQ n)
  let s := s.modRing cq fun r => { r with reserved := r.reserved + 1 }
  let s := s.modRing n fun r => { r with fetched := none, running := some (256, cmdOfDesc n (s.devIndex n) (zeros 32)), desc := d }
  if injectOk d (s.injectDestOk d) then s.askData n (leAt d 16 8) (leAt d 6 2) else s.endInject n .range 1

/-- The ring engine takes one descriptor (R435). (DESIGN CHOICE, log 21.) -/
def State.takeDescriptor (s : State) : State :=
  if s.host.serviceOff then s
  else match s.nextTake with
    | some n =>
      let s' := s.modHost fun h => { h with rotate := n }
      let d := ((s.ring n).fetched.getD [])
      if n < 32 then s'.takeCommand n d else s'.takeInject n d
    | none => s

/-! ### Export rings -/

/-- The eight counter entries of a port (Table 16-10); a read of them from staging meets `o`. -/
def State.counterEntries (s : State) (num p : Nat) (o : ReadOutcome) : List SweepEntry :=
  (List.range 8).map fun g =>
    ⟨stagingBurst p g, leBytes 2 p ++ leBytes 1 g ++ [0] ++ leBytes 4 num ++ leBytes 16 s.presStamp ++
      (List.range 8).flatMap (fun i => leBytes 5 (s.counterNow p (8 * g + i))), false, o⟩

/-- A counter sweep starts, or is skipped (R450): the ports' snapshots go to staging (Table 14-2). (DESIGN CHOICE, log 91.) -/
def State.counterSweep (s : State) (reads : List (Nat × ReadOutcome)) : State :=
  if !s.dramServes then s
  else if !s.bit Reg.RING_CNT_CTRL_EN || s.cycle < s.host.sweepAt + s.get Reg.RING_CNT_CTRL_PERIOD_MS * msCycles then s
  else
    let s := s.modHost fun h => { h with sweepAt := s.cycle }
    if !s.host.sweep.isEmpty then (s.satAdd Reg.RING_CNT_SKIP_CNT_COUNT 1).on Reg.RING_STATUS_CNT_SKIP
    else
      let met (p : Nat) : ReadOutcome := match reads.find? (·.1 == p) with | some r => r.2 | none => cleanRead
      let l := ((List.range 1024).filter s.isPort).flatMap fun p => s.counterEntries s.host.sweepNum p (met p)
      let s := l.foldl (fun s e => s.dramWrite 2 e.burst 2) s
      flushSweep l.length (s.modHost fun h => { h with sweep := l, sweepNum := h.sweepNum + 1 })

/-- One event entry (Table 16-11, R461). -/
def State.eventEntry (s : State) : State :=
  match s.nextReport with
  | some n =>
    if s.ringRoom 63 1 && s.canWrite then
      let stamp := mapGet s.events.reports n 0
      let s := s.ringWrite 63 (leBytes 2 n ++ [BitVec.ofNat 8 (s.severity n), 0] ++ leBytes 4 (s.ring 63).written ++ zeros 8 ++
        leBytes 16 stamp)
      { s with events := { s.events with reports := mapDel s.events.reports n } }
    else s
  | none => s

/-- The keepalive timer has run out (R448, R462). -/
def State.keepalive (s : State) : State :=
  let us := s.get Reg.EVT_CTRL_KEEPALIVE_US
  if us = 0 || s.cycle < s.events.keepFrom + us * usCycles || !s.canWrite then s
  else
    let a := s.attention
    let s := s.restartKeepalive
    if a != 0 && s.ringRoom 0 1 then
      (s.ringWrite 0 ([4, 0] ++ leBytes 2 a ++ zeros 60)).satAdd Reg.EVT_KEEPALIVE_CNT_COUNT 1
    else s

/-! ### Register checks and effects of the RING and EVT pages -/

/-- Refusals of the RING page beyond reserved bits (R430, R452, Tables 16-12 and 16-13). (DESIGN CHOICE, log 43.) -/
def ringCheck (s : State) (off v : Nat) : Status :=
  if off = 0x0C then (if bitOf v 31 && !s.halted (bits v 0 6) then .range else .ok)
  else if off = 0x1C then (if bits v 0 14 < 100 || bits v 0 14 > 10000 then .range else .ok)
  else if off < 0x1000 then .ok
  else
    let n := (off - 0x1000) / 0x40
    let en := s.bit (Reg.RING_CFG_ENABLE n)
    match off % 0x40 with
    | 0x10 =>
      let log := bits v 0 5
      let cq := bits v 8 4
      let buf := bits v 12 2
      if log < 4 || log > (if n = 61 then 20 else 16) then .range
      else if (cq != 0 && !hostProduced n) || (buf != 0 && !(32 ≤ n && n < 48)) then .range
      else if en && (log != s.get (Reg.RING_CFG_LOG2_SIZE n) || cq != s.get (Reg.RING_CFG_CQ n) ||
        buf != s.get (Reg.RING_CFG_BUF_SIZE n)) then .busy
      else .ok
    | 0x00 | 0x04 | 0x08 | 0x0C | 0x20 | 0x24 => if en then .busy else .ok
    | _ => .ok

/-- Forget the read of a ring's next descriptor, when one is outstanding or wanted. (DESIGN CHOICE, log 43.) -/
def State.dropDescriptorRead (s : State) (n : Nat) : State :=
  s.modHost fun h => { h with
    reads := h.reads.map fun e => (e.1, if e.2.user == .descriptor n then { e.2 with user := .data 64 0 } else e.2)
    wanted := h.wanted.filter fun w => w.1 != .descriptor n }

/-- An inject descriptor in progress on a ring that is enabled anew is given up with its reservation (R431). (DESIGN CHOICE, log 43.) -/
def State.dropInject (s : State) (n : Nat) : State :=
  match (s.ring n).running with
  | some (256, _) =>
    ((s.dropReads n).modRing (s.get (Reg.RING_CFG_CQ n)) fun r => { r with reserved := r.reserved - 1 }).modRing n fun r =>
      { r with running := none, desc := [], parts := [], need := 0 }
  | _ => s

/-- A ring is enabled: its indices start at 0 (R431, R440). (DESIGN CHOICE, log 43.) -/
def State.enableRing (s : State) (n : Nat) : State :=
  let s := (s.dropInject n).dropDescriptorRead n
  let s := ((s.off (Reg.RING_DEV_INDEX_DEV_INDEX n)).off (Reg.RING_DB_DOORBELL n)).off (Reg.RING_CFG_STOPPED n)
  let s := s.modRing n fun r => { r with history := [], lost := 0, written := 0, behind := false, fetched := none }
  let s := if n = 62 then s.modHost fun h => { h with sweepNum := 0 } else s
  s.releaseHeld n

/-- What an accepted write to the RING page does beyond its fields. -/
def ringEffect (old s : State) (off v : Nat) : State :=
  if off = 0x0C then (if bitOf v 31 then (s.setHalted (bits v 0 6) false).fetchNext (bits v 0 6) else s)
  else if off = 0x1C then
    if bitOf v 31 && !old.bit Reg.RING_CNT_CTRL_EN then s.modHost fun h => { h with sweepAt := s.cycle } else s
  else if off ≥ 0x1000 && off % 0x40 = 0x10 then
    let n := (off - 0x1000) / 0x40
    let was := old.bit (Reg.RING_CFG_ENABLE n)
    if bitOf v 31 && !was then s.enableRing n
    else if !bitOf v 31 && was && (s.ring n).running.isNone then
      (s.modRing n fun r => { r with fetched := none }).on (Reg.RING_CFG_STOPPED n)
    else s
  else s

/-- Refusals of the EVT page: the mask bit of a source that can be fatal (R458). -/
def evtCheck (_ : State) (off v : Nat) : Status :=
  if off ≥ 0x300 && (fatalSources.any fun n => n / 32 == (off - 0x300) / 4 && bitOf v (n % 32)) then .range else .ok

/-- What an accepted write to the EVT page does beyond its fields (R458, R462). -/
def evtEffect (old s : State) (off v : Nat) : State :=
  if off = 0 then s.restartKeepalive
  else if off ≥ 0x300 then
    let w := (off - 0x300) / 4
    let freed := old.get (Reg.EVT_MASK_MASK w) &&& (0xFFFFFFFF ^^^ v) &&& s.get (Reg.EVT_PENDING_PENDING w)
    (setBits freed 32).foldl (fun s i => s.report (32 * w + i) s.presStamp) s
  else s

/-! ### Training and loss of the link -/

/-- The link enters a state (Table 15-2). -/
def State.setLink (s : State) (st : Nat) : State :=
  let s := s.set Reg.HLINK_STATUS_STATE st
  s.setB Reg.SYS_START_STATUS_LINK_ACTIVE (st == 2)

/-- Train at a rate. -/
def State.trainAt (s : State) (rate : Nat) : State :=
  ((s.modHost fun h => { h with rate := rate, tries := 0, trainSince := s.cycle }).setLink 1).set Reg.HLINK_STATUS_RATE rate

/-- A training at the present rate has failed (R403 to R405). -/
def State.trainingFailed (s : State) : State :=
  let lower (s : State) : State := if s.host.rate ≥ 3 then (s.modHost fun h => { h with trainSince := s.cycle }).setLink 4
    else s.trainAt (s.host.rate + 1)
  if s.get Reg.HLINK_STATUS_STATE = 3 || s.host.tries ≥ 2 then lower s else s.modHost fun h => { h with tries := h.tries + 1 }

/-- Link training (R403): from DOWN it starts at MAX_RATE; `ok` tells whether the training in progress goes on. -/
def State.linkTraining (s : State) (ok : Bool) : State :=
  let st := s.get Reg.HLINK_STATUS_STATE
  let s := if st = 0 then s.trainAt (s.get Reg.HLINK_CTRL_MAX_RATE) else s
  if ok || st = 2 || st = 4 then s else s.trainingFailed

/-- Training completes: the link is ACTIVE (R403, R404). A link that comes up afresh starts with the slots of
R410; after a retrain every message is sent on (R423). (PRESUMED, log 19.) -/
def State.linkUp (s : State) (repaired : Bool) : State :=
  let st := s.get Reg.HLINK_STATUS_STATE
  if st != 1 && st != 3 then s
  else
    let s := if !s.host.upOnce then s.modHost fun h => { h with credit := 1024, rxCredit := 4096, badFlit := none } else s
    ((s.modHost fun h => { h with upOnce := true, tries := 0 }).setLink 2).setB Reg.HLINK_STATUS_REPAIRED repaired |>.resume

/-- From FAILED, training starts again after 100 ms (R403). -/
def State.linkRestart (s : State) : State :=
  if s.get Reg.HLINK_STATUS_STATE = 4 && s.cycle ≥ s.host.trainSince + 100 * msCycles then
    s.trainAt (s.get Reg.HLINK_CTRL_MAX_RATE)
  else s

/-- The adapter reports retries, or a link error; more than 16 retries within 1 ms retrain the link (R405, R406). -/
def State.linkRetrain (s : State) (retries : Nat) (phyError : Bool) : State :=
  if !s.linkActive then s
  else
    let recent := (s.host.retries.filter fun e => s.cycle < e.1 + msCycles) ++ [(s.cycle, retries)]
    let much := decide ((recent.map (·.2)).sum > 16)
    let s := (s.satAdd Reg.HLINK_CRC_RETRY_CNT_COUNT retries).modHost fun h => { h with retries := if much || phyError then [] else recent }
    if much || phyError then
      let s := ((s.satAdd Reg.HLINK_RETRAIN_CNT_COUNT 1).on Reg.HLINK_STATUS_RETRAINED).setLink 3
      (s.set Reg.HLINK_STATUS_RATE s.host.rate).modHost fun h => { h with outSince := s.cycle }
    else s

/-- The host is declared lost (R424, Table 20-2). (DEDUCED, log 64.) -/
def State.hostLost (s : State) : State :=
  if s.linkActive || !s.host.upOnce || s.cycle < s.host.outSince + s.get Reg.HLINK_CTRL_DOWN_MS * msCycles then s
  else
    let reads := s.host.reads
    let s := s.modHost fun h => { h with reads := [], wanted := [], serviceOff := true, upOnce := false }
    let s := reads.foldl (fun s e => s.readFailed e.2.user) s
    let s := (s.modHost fun h => { h with waiting := [], reads := [], wanted := [] }).on Reg.HLINK_STATUS_HOST_LOST
    if s.bit Reg.HLINK_CTRL_LOST_ACT then
      let s := (s.modHost fun h => { h with lostIdle := true }).off Reg.PAIR_STATUS_HOLD_OUT
      if s.pairState = paActive then
        ((s.set Reg.PAIR_STATUS_STATE paDetached).modPair fun p => { p with gate := false, outSince := none }).on
          Reg.PAIR_STATUS_ROLE_CHG
      else s.modPair fun p => { p with gate := false, outSince := none }
    else s

/-- Refusals of HLINK_CTRL (Table 15-8). -/
def hlinkCheck (_ : State) (off v : Nat) : Status :=
  if off = 0 && (bits v 16 16 < 10 || bits v 16 16 > 10000 || bits v 8 8 == 0) then .range else .ok

end Sys2Proof.Machine
end

