-- ==== Sys2Proof/Machine/Reckoner.lean ====
section
/-! DEFINITION. The Reckoners (R474 to R489): patches, the start of routines, suspension at checkpoints, halts. -/

namespace Sys2Proof.Machine

/-- Change the Reckoners' record. -/
def State.modReck (s : State) (f : ReckSt → ReckSt) : State := { s with reck := f s.reck }

/-- The code of a routine (Table 18-3). -/
def RoutineKind.code : RoutineKind → Nat
  | .boot => 1 | .portFlush _ => 2 | .stuckReclaim _ => 3 | .tallySeal => 4 | .ruleCommit => 5 | .lpmInsert => 6
  | .lpmMove _ => 7 | .fdbFlush => 8 | .lpmFlush => 9 | .withdraw => 10 | .dramTraining => 11 | .pairResync => 12

/-- The engine status registers follow the engines (Table 18-7). -/
def State.syncEngines (s : State) : State :=
  let susp := s.reck.suspended.length
  (List.range 8).foldl (fun s e =>
    let halted := bitOf (s.get Reg.RCK_STATUS_HALTED) e
    let put (st patched code cps : Nat) : State :=
      ((((s.set (Reg.RCK_ENG_STATUS_STATE e) st).set (Reg.RCK_ENG_STATUS_PATCHED e) patched).set
        (Reg.RCK_ENG_STATUS_ROUTINE e) code).set (Reg.RCK_ENG_STATUS_CHECKPOINTS e) cps).set (Reg.RCK_ENG_STATUS_SUSPENDED e) susp
    match mapFind s.reck.engines e with
    | some r => put 1 (b2n r.patched) r.kind.code r.checkpoints
    | none => put (if halted then 3 else 0) 0 0 0) s

/-! ### Starting routines -/

/-- Put a routine on an engine. A fresh one begins with the fetch path now in force (R480) and after the changes that the table
it works on has seen so far (R273, R274). (DEDUCED, log 45.) -/
def State.place (s : State) (e : Nat) (r : Routine) (fresh : Bool) : State :=
  let r := if fresh then { r with patched := s.get Reg.RCK_PATCH_STATUS_STATE == 2, began := if r.kind == .lpmFlush then s.lpm.changes else s.fdb.changes } else r
  State.syncEngines (s.modReck fun k => { k with
    engines := mapPut k.engines e r
    waiting := k.waiting.filter (·.seq != r.seq)
    suspended := k.suspended.filter (·.seq != r.seq) })

/-- Start the routine whose turn it is on a free engine (R485). -/
def State.startRoutine (s : State) : State :=
  match s.nextRoutine [] with
  | some (susp, r) => match s.freeEngine r.kind with
    | some e => s.place e r (!susp)
    | none => s
  | none => s

/-- A waiting flush or reclaim that could take an engine now: the earliest requested (R486). -/
def State.waitingFlush (s : State) : Option Routine :=
  (s.reck.waiting.filter fun r => r.kind.priority == 1 && s.mayStart r).head?

/-- The routine of an engine is suspended with its checkpoint state (R486). -/
def State.suspend (s : State) (e : Nat) (r : Routine) : State :=
  State.syncEngines (s.modReck fun k => { k with engines := mapDel k.engines e, suspended := k.suspended ++ [r] })

/-- The insert that the routine of an engine yields to (R483): the earliest requested, when the routine is a background move. -/
def State.yieldsTo (s : State) (r : Routine) : Option Routine :=
  match r.kind with
  | .lpmMove _ => s.reck.waiting.find? fun w => w.kind == .lpmInsert
  | _ => none

/-- The routine of an engine has reached a checkpoint (R482, R486): with no free engine it gives way to a waiting
flush or reclaim of higher priority; a background move gives way to a waiting insert (R483). (DEDUCED, log 45.) -/
def State.giveWay (s : State) (e : Nat) : State :=
  match mapFind s.reck.engines e with
  | some r =>
    match s.waitingFlush.filter fun f => decide (r.kind.priority > 1) && (s.freeEngine f.kind).isNone with
    | some f => ((s.suspend e r).satAdd Reg.RCK_PREEMPT_CNT_COUNT 1).place e f true
    | none => match s.yieldsTo r with
      | some w => (s.suspend e r).place e w true
      | none => s
  | none => s

/-- A routine advances to a checkpoint. -/
def State.countCheckpoint (s : State) (e progress : Nat) : State :=
  match mapFind s.reck.engines e with
  | some r =>
    let r := { r with checkpoints := r.checkpoints + 1, progress := progress }
    State.syncEngines (s.modReck fun k => { k with engines := mapPut k.engines e r })
  | none => s

/-- An engine halts (R487). (DESIGN CHOICE, log 47.) -/
def State.haltEngine (s : State) (e : Nat) : State :=
  let r := mapFind s.reck.engines e
  let s := (s.putBit Reg.RCK_STATUS_HALTED e true).modReck fun k => { k with engines := mapDel k.engines e }
  let s := s.syncEngines
  match r with
  | some r => match r.cmd with
    | some c => match (s.ring c.ring).running with
      | some (op, c') => if c'.descIndex = c.descIndex then s.complete op c' (CmdRes.of .fatal) else s
      | none => s
    | none => s
  | none => s

/-! ### Patches -/

/-- The number of set bits of a byte string. -/
def popCount (l : List Byte) : Nat := (l.map fun b => (setBits b.toNat 8).length).sum

/-- The minimum security version (R596). -/
def State.svnMin (s : State) : Nat := popCount (slice s.sec.fuses 48 8)

/-- The first `n` staged bytes. -/
def stagedBytes (m : SMap Byte) (n : Nat) : List Byte := (List.range n).map fun i => mapGet m i 0

/-- The match entries are well formed (R477, Table 18-2). -/
def matchesOk (words : Nat) (l : List Nat) : Bool :=
  l.all (fun e => e / 2 ^ 32 == 0 && bits e 26 5 == 0 && bits e 15 1 == 0 && bits e 16 10 < words) &&
  decide ((l.filter (bitOf · 31)).map (· % 2 ^ 15)).Nodup

/-- The checks of a patch image of `len` bytes (R479): the number of the first that fails, or the plaintext body. (DESIGN CHOICE, log 40.) -/
def State.patchChecks (s : State) (b : List Byte) (len : Nat) : Nat ⊕ List Byte :=
  let n := leAt b 16 2
  let m := leAt b 18 2
  let l := 8 * m + 24 * n
  if leAt b 0 4 != 0x53504B31 || leAt b 4 2 != 1 then .inl 1
  else if leAt b 6 2 != s.get Reg.RCK_ROM_ID_VERSION then .inl 2
  else if n > 1024 || m > 64 || len != 464 + l then .inl 3
  else if leAt b 12 4 < s.svnMin then .inl 4
  else match Config.openBody (slice b 20 12) (slice b 0 64) (slice b 64 l) (slice b (64 + l) 16) with
    | none => .inl 5
    | some body =>
      if !Config.verify 0 (slice b 0 64 ++ body) (slice b (80 + l) 384) then .inl 6
      else if !matchesOk n ((List.range m).map fun i => leAt body (8 * i) 8) then .inl 7
      else .inr body

/-- The patch checks end (R479, R480, R556). (DESIGN CHOICE, log 73.) -/
def State.patchDone (s : State) : State :=
  match s.reck.checking with
  | none => s
  | some len =>
    let b := stagedBytes s.reck.stage len
    let s := ((s.modReck fun k => { k with checking := none }).on Reg.RCK_STATUS_PATCH_EVT).on Reg.SYS_START_STATUS_PATCH_SETTLED
    match s.patchChecks b len with
    | .inl n => (s.set Reg.RCK_PATCH_STATUS_STATE 3).set Reg.RCK_PATCH_STATUS_REASON n
    | .inr body =>
      let n := leAt b 16 2
      let m := leAt b 18 2
      let digest := sha256 (slice b 0 64 ++ body)
      let s := s.modReck fun k => { k with
        stage := []
        matches_ := (List.range m).map fun i => leAt body (8 * i) 8
        ram := (List.range n).map fun i => leAt body (8 * m + 24 * i) 24 }
      let s := (List.range 8).foldl (fun s i => s.set (Reg.RCK_PATCH_DIGEST_DIGEST i) (leAt digest (4 * i) 4)) s
      ((((s.set Reg.RCK_PATCH_STATUS_STATE 2).set Reg.RCK_PATCH_STATUS_REASON 0).set Reg.RCK_PATCH_STATUS_MATCHES m).set
        Reg.RCK_PATCH_STATUS_WORDS n).set Reg.RCK_PATCH_VER_PATCH_VER (leAt b 8 4)

/-- Refusals of the RCK page beyond reserved bits (R479, Table 18-6). (DESIGN CHOICE, log 73.) -/
def rckCheck (s : State) (off v : Nat) : Status :=
  if off = 0x10 then
    let len := bits v 0 15
    let st := s.get Reg.RCK_PATCH_STATUS_STATE
    if len < 464 || len > 25552 then .range else if bitOf v 31 && (st == 1 || st == 2) then .busy else .ok
  else .ok

/-- What an accepted write to the RCK page does beyond its fields. (DESIGN CHOICE, log 73.) -/
def rckEffect (s : State) (off v : Nat) : State :=
  if off = 0x10 && bitOf v 31 then
    ((s.set Reg.RCK_PATCH_STATUS_STATE 1).set Reg.RCK_PATCH_STATUS_REASON 0).modReck fun k => { k with checking := some (bits v 0 15) }
  else if off ≥ 0x8000 then
    s.modReck fun k => { k with stage := (List.range 4).foldl (fun m i =>
      mapSet m (off - 0x8000 + i) (BitVec.ofNat 8 (bits v (8 * i) 8)) 0) k.stage }
  else s

end Sys2Proof.Machine
end

