-- ==== Sys2Proof/Machine/Security.lean ====
section
/-! DEFINITION. The security unit (R490 to R508): fuses and lifecycle, attestation, configuration bundles, debug
tokens. -/

namespace Sys2Proof.Machine

/-- Change the security record. -/
def State.modSec (s : State) (f : SecSt → SecSt) : State := { s with sec := f s.sec }

/-! ### Fuses (Table 19-2, R596) -/

/-- DEVICE_ID. -/
def State.deviceId (s : State) : Nat := beAt s.sec.fuses 0 8
/-- The lifecycle state: the set bits of the thermometer (R492). -/
def State.lifecycle (s : State) : Nat := popCount [(s.sec.fuses.getD 8 0) &&& 7]
/-- The owner hash. -/
def State.ownerHash (s : State) : List Byte := slice s.sec.fuses 16 32
/-- OWNER_DEBUG_ONLY. -/
def State.ownerDebugOnly (s : State) : Bool := bitOf (s.sec.fuses.getD 9 0).toNat 0

/-- The fused registers show the fuses (Table 19-7). -/
def State.syncFuses (s : State) : State :=
  ((((s.set Reg.SEC_LIFECYCLE_STATE s.lifecycle).setB Reg.SEC_LIFECYCLE_OWNER_DEBUG_ONLY s.ownerDebugOnly).set
    Reg.SEC_LIFECYCLE_SVN_MIN s.svnMin).set Reg.SEC_DEVICE_ID_LO_ID (s.deviceId % 2 ^ 32)).set Reg.SEC_DEVICE_ID_HI_ID
    (s.deviceId / 2 ^ 32)

/-- A thermometer of `n` set bits. -/
def thermometer (n : Nat) : Nat := 2 ^ n - 1

/-- The check word of the owner hash agrees, where it is checked: in OWNED (R596). -/
def State.checkWordOk (s : State) : Bool :=
  let h := s.ownerHash
  let c := slice s.sec.fuses 12 4
  s.lifecycle != 2 || (allZero h && allZero c) || c == (sha256 h).take 4

/-- Burn the bits of `v` at an offset of the fuse image: a fuse once set never clears (R491). -/
def burn (fuses : List Byte) (off : Nat) (v : List Byte) : List Byte :=
  patchAt fuses off ((v.zip (slice fuses off v.length)).map fun e => e.1 ||| e.2)

/-! ### Challenges -/

/-- Draw a new debug challenge (R505). (DESIGN CHOICE, log 40; DESIGN CHOICE, log 79.) -/
def State.drawChallenge (s : State) : State :=
  let c := padTo 32 (Config.entropy s.sec.draws)
  let s := s.modSec fun x => { x with draws := x.draws + 1 }
  (List.range 8).foldl (fun s i => s.set (Reg.SEC_DEBUG_CHALLENGE_CHALLENGE i) (leAt c (4 * i) 4)) s

/-- The present challenge. -/
def State.challenge (s : State) : List Byte :=
  (List.range 8).flatMap fun i => leBytes 4 (s.get (Reg.SEC_DEBUG_CHALLENGE_CHALLENGE i))

/-! ### Bundles (R501 to R503) -/

/-- The operations of a bundle: code and operand. -/
def bundleOps (b : List Byte) : List (Nat × List Byte) :=
  (List.range (leAt b 7 1)).map fun i => (leAt b (16 + 40 * i) 1, slice b (16 + 40 * i + 8) 32)

/-- Check 1 of R502: MAGIC, FORMAT, OPS and zero bytes. -/
def bundleForm (b : List Byte) : Bool :=
  let n := leAt b 7 1
  leAt b 0 4 == 0x53424E31 && leAt b 4 2 == 1 && 1 ≤ n && n ≤ 8 &&
  (List.range 8).all (fun i => allZero (if i < n then slice b (16 + 40 * i + 1) 7 else slice b (16 + 40 * i) 40)) &&
  (leAt b 6 1 != 0 || allZero (slice b 336 384))

/-- An operation is allowed in a lifecycle state (Table 19-6), and the state it leaves; an operation already
applied is allowed again and changes nothing (R503). -/
def State.opAllowed (s : State) (signer st : Nat) (op : Nat × List Byte) : Option Nat :=
  match op.1 with
  | 1 =>
    let h := s.ownerHash
    if signer != 0 then none
    else if st = 1 then (if (h.zip op.2).all fun e => e.1 &&& ~~~e.2 == 0 then some 2 else none)
    else if st = 2 && op.2 == h then some 2 else none
  | 2 => if 1 ≤ leAt op.2 0 1 && leAt op.2 0 1 ≤ 64 && (st == 2 || (signer == 0 && st == 1)) then some st else none
  | 3 => if signer = 1 && st = 2 then some st else none
  | 4 => if st == 2 || (signer == 0 && st == 1) then some 3 else none
  | _ => none

/-- Every operation is allowed, each in the state that the earlier ones leave (check 6). -/
def State.opsAllowed (s : State) (signer : Nat) : Nat → List (Nat × List Byte) → Bool
  | _, [] => true
  | st, op :: l => match s.opAllowed signer st op with
    | some st' => s.opsAllowed signer st' l
    | none => false

/-- An RSASSA-PSS signature of a bundle or token: key 1 or 2, or the owner's. -/
def signedBy (signer key : Nat) (modulus msg sig : List Byte) : Bool :=
  if signer = 0 then Config.verify key msg sig else Config.verifyOwner modulus msg sig

/-- The first failing check of a bundle (R502); 0 when all pass. (DESIGN CHOICE, log 40.) -/
def State.bundleFault (s : State) (b : List Byte) : Nat :=
  let signer := leAt b 6 1
  let st := s.lifecycle
  let modulus := slice b 336 384
  if !bundleForm b then 1
  else if leAt b 8 8 != s.deviceId then 2
  else if !((signer == 0 && (st == 1 || st == 2)) || (signer == 1 && st == 2)) then 3
  else if signer = 1 && sha256 modulus != s.ownerHash then 4
  else if !signedBy signer 1 modulus (slice b 0 720) (slice b 720 384) then 5
  else if !s.opsAllowed signer st (bundleOps b) then 6
  else 0

/-- Apply one operation (Table 19-6). -/
def State.applyOp (s : State) (op : Nat × List Byte) : State :=
  match op.1 with
  | 1 => s.modSec fun x => { x with
      fuses := burn (burn (burn x.fuses 16 op.2) 12 ((sha256 op.2).take 4)) 8 [BitVec.ofNat 8 (thermometer 2)] }
  | 2 => s.modSec fun x => { x with fuses := burn x.fuses 48 (beBytes 8 (thermometer (leAt op.2 0 1))) }
  | 3 => s.modSec fun x => { x with fuses := burn x.fuses 9 [1] }
  | 4 => s.modSec fun x => { x with keyKept := false, fuses := burn x.fuses 8 [BitVec.ofNat 8 (thermometer 3)] }
  | _ => s

/-- A LOAD of a bundle is checked (R502): its operations are applied by `bundleDone`. -/
def State.bundleLoad (s : State) : State :=
  let b := stagedBytes s.sec.stage 1104
  let n := s.bundleFault b
  let s := (s.modSec fun x => { x with stage := [] }).set Reg.SEC_BUNDLE_STATUS_OPS_DONE 0
  if n != 0 then
    ((s.set Reg.SEC_BUNDLE_STATUS_STATE 4).set Reg.SEC_BUNDLE_STATUS_REASON n).on Reg.SEC_STATUS_BUNDLE
  else
    ((s.set Reg.SEC_BUNDLE_STATUS_STATE 2).set Reg.SEC_BUNDLE_STATUS_REASON 0).modSec fun x => { x with ops := bundleOps b }

/-- The operations of a bundle finish (R502, R503). -/
def State.bundleDone (s : State) : State :=
  if s.get Reg.SEC_BUNDLE_STATUS_STATE != 2 then s
  else
    let n := s.sec.ops.length
    let s := s.sec.ops.foldl State.applyOp s
    let s := (s.modSec fun x => { x with ops := [] }).syncFuses
    let s := if s.sec.keyKept then s else s.off Reg.SEC_LIFECYCLE_ID_OK
    ((s.set Reg.SEC_BUNDLE_STATUS_STATE 3).set Reg.SEC_BUNDLE_STATUS_OPS_DONE n).on Reg.SEC_STATUS_BUNDLE

/-- An operation that a reset or power loss cut short leaves nothing behind, but for the exceptions of R503: a raise of the
SVN stops partway, a claim leaves bits of the owner hash and then of the check word, a decommission leaves the key
zeroised and, from SHIPPED, perhaps one lifecycle bit burnt. -/
def State.partOp (s : State) (far : Nat) (mask : List Byte) (op : Nat × List Byte) : State :=
  let st := s.lifecycle
  match op.1 with
  | 1 => s.modSec fun x =>
    let h := (op.2.zip (padTo 32 mask)).map fun e => e.1 &&& e.2
    let c := if h == op.2 then (((sha256 op.2).take 4).zip (padTo 4 (mask.drop 32))).map fun e => e.1 &&& e.2 else zeros 4
    { x with fuses := burn (burn x.fuses 16 h) 12 c }
  | 2 => s.modSec fun x => { x with fuses := burn x.fuses 48 (beBytes 8 (thermometer (min far (leAt op.2 0 1)))) }
  | 4 => s.modSec fun x =>
    let x := if far = 0 then x else { x with keyKept := false }
    if far ≥ 2 && st == 1 then { x with fuses := burn x.fuses 8 [BitVec.ofNat 8 (thermometer 2)] } else x
  | _ => s

/-- A reset or power loss during a bundle: some of its operations are complete, and at most one is cut short (R503). (DESIGN CHOICE, log 41.) -/
def State.cutBundle (s : State) : State :=
  match s.sec.ops with
  | [] => s
  | ops =>
    let (n, far, mask) := Config.bundleCut s.sec.draws
    let s := (ops.take n).foldl State.applyOp s
    let s := match ops.drop n with | op :: _ => s.partOp far mask op | [] => s
    s.modSec fun x => { x with ops := [], draws := x.draws + 1 }

/-! ### Debug tokens (R504, R505) -/

/-- The signers accepted for tokens (Table 19-3). -/
def State.tokenSigner (s : State) (signer : Nat) : Bool :=
  match s.lifecycle with
  | 1 => signer == 0
  | 2 => signer == 1 || (signer == 0 && !s.ownerDebugOnly)
  | 3 => signer ≤ 1
  | _ => false

/-- The first failing check of a token; 0 when all pass. (DESIGN CHOICE, log 40.) -/
def State.tokenFault (s : State) (b : List Byte) : Nat :=
  let signer := leAt b 6 1
  let grants := leAt b 7 1
  let modulus := slice b 64 384
  if leAt b 0 4 != 0x53445431 || leAt b 4 2 != 1 || grants == 0 || grants > 3 || !allZero (slice b 48 16) ||
      (signer == 0 && !allZero modulus) then 1
  else if leAt b 8 8 != s.deviceId || slice b 16 32 != s.challenge then 2
  else if !s.tokenSigner signer then 3
  else if signer = 1 && sha256 modulus != s.ownerHash then 4
  else if !signedBy signer 2 modulus (slice b 0 448) (slice b 448 384) then 5
  else 0

/-- A LOAD of a debug token is checked: it grants its bits or is rejected, and a new challenge is drawn (R505). -/
def State.tokenLoad (s : State) : State :=
  let b := stagedBytes s.sec.stage 832
  let n := s.tokenFault b
  let s := (s.modSec fun x => { x with stage := [] }).set Reg.SEC_BUNDLE_STATUS_OPS_DONE 0
  let s := if n = 0 then
      (((s.orBits Reg.SEC_DEBUG_STATUS_GRANTED (leAt b 7 1)).setB Reg.SEC_DEBUG_STATUS_BY_OWNER (leAt b 6 1 == 1)).set
        Reg.SEC_BUNDLE_STATUS_STATE 3).set Reg.SEC_BUNDLE_STATUS_REASON 0
    else ((s.set Reg.SEC_BUNDLE_STATUS_STATE 4).set Reg.SEC_BUNDLE_STATUS_REASON n).on Reg.SEC_STATUS_TOKEN_REJECT
  s.drawChallenge

/-- Refusals of the SEC page beyond reserved bits (R506, Table 19-8). (DESIGN CHOICE, log 73.) -/
def secCheck (s : State) (off v : Nat) : Status :=
  if off = 0x18 && bitOf v 31 then
    let st := s.get Reg.SEC_BUNDLE_STATUS_STATE
    if st == 1 || st == 2 || s.get Reg.SEC_BOOT_STATE != 1 then .busy
    else if bits v 0 11 != (if bitOf v 30 then 832 else 1104) then .range
    else .ok
  else .ok

/-- What an accepted write to the SEC page does beyond its fields. (DESIGN CHOICE, log 73.) -/
def secEffect (s : State) (off v : Nat) : State :=
  if off = 0x18 then (if !bitOf v 31 then s else if bitOf v 30 then s.tokenLoad else s.bundleLoad)
  else if off ≥ 0x8000 then
    s.modSec fun x => { x with stage := (List.range 4).foldl (fun m i =>
      mapSet m (off - 0x8000 + i) (BitVec.ofNat 8 (bits v (8 * i) 8)) 0) x.stage }
  else s

/-- The fuse image registers show the fuses (Table 19-9). -/
def State.syncFuseWord (s : State) (i : Nat) : State :=
  s.set (Reg.SEC_FUSE_IMAGE_FUSE i) (leAt s.sec.fuses (4 * i) 4)

/-! ### Attestation (R499) -/

/-- The identity key is usable (R493). (DEDUCED, log 12.) -/
def State.keyUsable (s : State) : Bool := s.keyState && s.bit Reg.SEC_LIFECYCLE_ID_OK

/-- The first 256 bytes of an attestation report (Table 19-5). -/
def State.reportBody (s : State) (nonce : List Byte) : List Byte :=
  [0x51, 0x41, 0x54, 0x31] ++ beBytes 2 1 ++ beBytes 2 (s.get Reg.RCK_ROM_ID_VERSION) ++ beBytes 8 s.deviceId ++ padTo 32 nonce ++
  [BitVec.ofNat 8 s.lifecycle, BitVec.ofNat 8 (s.get Reg.SEC_DEBUG_STATUS_GRANTED), BitVec.ofNat 8 (s.get Reg.RCK_PATCH_STATUS_STATE),
   BitVec.ofNat 8 s.svnMin] ++
  beBytes 4 (s.get Reg.RCK_PATCH_VER_PATCH_VER) ++ beBytes 2 (s.get Reg.RCK_ROM_ID_FAMILY) ++ beBytes 2 (s.get Reg.SEC_BOOT_STAGE) ++
  zeros 4 ++ ((List.range 8).flatMap fun i => leBytes 4 (s.get (Reg.RCK_PATCH_DIGEST_DIGEST i))) ++ sha256 s.sec.fuses ++
  s.ownerHash ++ beBytes 16 s.presStamp ++
  beBytes 8 (s.get Reg.TALLY_SEAL_INDEX_HI_INDEX * 2 ^ 32 + s.get Reg.TALLY_SEAL_INDEX_LO_INDEX) ++ beBytes 8 (s.sec.reports + 1) ++
  zeros 64

/-- SEC_ATTEST (R493, R498, R499). (DESIGN CHOICE, log 41.) -/
def coreAttest (c : CmdIn) (s : State) : CmdRes × State :=
  if c.param > 1 then (CmdRes.field, s)
  else if c.input.length != (if c.param = 0 then 32 else 0) then (CmdRes.field, s)
  else if !s.keyUsable then (CmdRes.of .denied, s)
  else if c.param = 1 then
    ({ CmdRes.ok with result := leBytes 2 Config.chain.length, out := padTo 4096 Config.chain }, s)
  else
    let body := s.reportBody c.input
    let sig := padTo 384 (Config.sign s.sec.draws body)
    ({ CmdRes.ok with result := leBytes 2 640, out := body ++ sig },
     s.modSec fun x => { x with draws := x.draws + 1, reports := x.reports + 1 })

end Sys2Proof.Machine
end

