-- ==== Sys2Proof/Machine/Parser.lean ====
section
/-! DEFINITION. The parser (R200 to R206) and the recognition of PTP messages (R133, R134). -/

namespace Sys2Proof.Machine

/-- What the header walk found (Tables 7-1 and 7-2). -/
structure Headers where
  etype : Nat
  vlan1 : Bool
  vlan2 : Bool
  l3 : Option Nat
  v6 : Bool
  l4 : Option Nat
  tcp : Bool
  udp : Bool
  l4p : Option Nat
  proto : Nat
  frag : Bool
  nonFirst : Bool
  opts : Bool
  ext : Bool
  extLimit : Bool
  trunc : Bool
  deriving DecidableEq, Repr

/-- Nothing found. -/
def headers0 : Headers :=
  ⟨12, false, false, none, false, none, false, false, none, 0, false, false, false, false, false, false⟩

/-- The first `n` bytes can be read: they lie in the window of 256 bytes and in the frame (R200, R203). (DEDUCED, log 49.) -/
def canRead (b : List Byte) (n : Nat) : Bool := n ≤ 256 && n ≤ b.length

/-- TCP and UDP at L4 (Table 7-1). (DEDUCED, log 49.) -/
def walkL4 (b : List Byte) (h : Headers) (at_ : Nat) : Headers :=
  let h := { h with l4 := some at_ }
  if h.proto = 6 then
    if !canRead b (at_ + 13) then { h with trunc := true }
    else
      let off := bits (beAt b (at_ + 12) 1) 4 4
      if off ≥ 5 then { h with tcp := true, l4p := some (at_ + 4 * off) } else h
  else if h.proto = 17 then { h with udp := true, l4p := some (at_ + 8) }
  else h

/-- An extension header that the walk takes (Table 7-1). -/
def isExt (nh : Nat) : Bool := nh == 0 || nh == 43 || nh == 60 || nh == 44

/-- The IPv6 extension headers, at most `n` of them. (DEDUCED, log 49.) -/
def walkExt (b : List Byte) : Nat → Headers → Nat → Headers
  | 0, h, at_ =>
    if isExt h.proto then { h with extLimit := true } else if h.nonFirst then h else walkL4 b h at_
  | n + 1, h, at_ =>
    if !isExt h.proto then (if h.nonFirst then h else walkL4 b h at_)
    else if h.proto = 44 then
      if !canRead b (at_ + 4) then { h with trunc := true }
      else
        let f := beAt b (at_ + 2) 2
        walkExt b n { h with proto := beAt b at_ 1, ext := true, frag := h.frag || f / 8 != 0 || f % 2 != 0,
                             nonFirst := h.nonFirst || f / 8 != 0 } (at_ + 8)
    else if !canRead b (at_ + 2) then { h with trunc := true }
    else walkExt b n { h with proto := beAt b at_ 1, ext := true } (at_ + 8 * (beAt b (at_ + 1) 1 + 1))

/-- The IP header at `at_` (Table 7-1). -/
def walkL3 (b : List Byte) (h : Headers) (at_ : Nat) : Headers :=
  let et := beAt b h.etype 2
  if et != 0x0800 && et != 0x86DD then h
  else if !canRead b (at_ + 1) then { h with trunc := true }
  else
    let v := beAt b at_ 1
    if et = 0x0800 then
      if v / 16 != 4 || v % 16 < 5 then h
      else
        let h := { h with l3 := some at_, opts := v % 16 > 5 }
        if !canRead b (at_ + 8) then { h with trunc := true }
        else
          let f := beAt b (at_ + 6) 2
          let h := { h with frag := bitOf f 13 || f % 8192 != 0, nonFirst := f % 8192 != 0 }
          let l4 := at_ + 4 * (v % 16)
          if h.nonFirst then h
          else if !canRead b (at_ + 10) then { h with l4 := some l4, trunc := true }
          else walkL4 b { h with proto := beAt b (at_ + 9) 1 } l4
    else if v / 16 != 6 then h
    else
      let h := { h with l3 := some at_, v6 := true }
      if !canRead b (at_ + 7) then { h with trunc := true }
      else walkExt b 4 { h with proto := beAt b (at_ + 6) 1 } (at_ + 40)

/-- A VLAN tag's Ethertype. -/
def isTag (e : Nat) : Bool := e == 0x8100 || e == 0x88A8

/-- The header walk of a frame (R201 to R203). -/
def walk (b : List Byte) : Headers :=
  if !canRead b 14 then { headers0 with trunc := true }
  else if !isTag (beAt b 12 2) then walkL3 b headers0 14
  else
    let h := { headers0 with etype := 16, vlan1 := true }
    if !canRead b 18 then { h with trunc := true }
    else if !isTag (beAt b 16 2) then walkL3 b h 18
    else
      let h := { h with etype := 20, vlan2 := true }
      if !canRead b 22 then { h with trunc := true } else walkL3 b h 22

/-! ### PTP messages -/

/-- The offset of a recognised PTP message (R133). -/
def ptpOffset (b : List Byte) (h : Headers) : Option Nat :=
  if canRead b (h.etype + 2) && beAt b h.etype 2 == 0x88F7 then some (h.etype + 2)
  else match h.l4 with
    | some l4 =>
      let dst := beAt b (l4 + 2) 2
      if h.udp && canRead b (l4 + 4) && (dst == 319 || dst == 320) && !h.frag && !h.ext then some (l4 + 8) else none
    | none => none

/-- The sanity check of a recognised message (R134). -/
def ptpSane (b : List Byte) (at_ : Nat) : Bool :=
  let ver := beAt b (at_ + 1) 1
  let len := beAt b (at_ + 2) 2
  canRead b (at_ + 34) && ver % 16 == 2 && ver / 16 ≤ 1 && 34 ≤ len && len ≤ b.length - at_

/-- The clock of a frame's stamps (R135): 0 presentation, 1 domain A, 2 domain B. -/
def State.stampClock (s : State) (b : List Byte) : Nat :=
  match ptpOffset b (walk b) with
  | some o =>
    if !ptpSane b o then 0
    else
      let d := beAt b (o + 4) 1
      if s.bit Reg.TIME_PTP_CTRL_DOMA_EN && d == s.get Reg.TIME_PTP_CTRL_DOMNUM_A then 1
      else if s.bit Reg.TIME_PTP_CTRL_DOMB_EN && d == s.get Reg.TIME_PTP_CTRL_DOMNUM_B then 2
      else 0
  | none => 0

/-! ### Keys -/

/-- The metadata block (Table 7-3). -/
def metaBlock (b : List Byte) (h : Headers) (port pass tag : Nat) : List Byte :=
  let v4 := h.l3.isSome && !h.v6
  let present := b2n h.vlan1 + 2 * b2n h.vlan2 + 4 * b2n v4 + 8 * b2n h.v6 + 16 * b2n h.l4.isSome +
    32 * b2n h.tcp + 64 * b2n h.udp + 128 * b2n h.l4p.isSome
  let other := b2n h.frag + 2 * b2n h.nonFirst + 4 * b2n h.opts + 8 * b2n h.ext + 16 * b2n h.extLimit +
    32 * b2n h.trunc + 64 * b2n (ptpOffset b h).isSome
  beBytes 2 (port % 1024) ++ [BitVec.ofNat 8 pass, BitVec.ofNat 8 present, BitVec.ofNat 8 other, 0] ++ beBytes 2 tag ++ zeros 8

/-- The position of an anchor in the frame (Table 7-2); META is none of them. -/
def anchorAt (h : Headers) : Nat → Option Nat
  | 0 => some 0
  | 1 => some h.etype
  | 2 => h.l3
  | 3 => h.l4
  | 4 => h.l4p
  | _ => none

/-- One byte of the frame as a profile reads it (R202). -/
def keyByte (b : List Byte) (h : Headers) (m : List Byte) (anchor off : Nat) : Byte :=
  if anchor = 5 then m.getD off 0
  else match anchorAt h anchor with
    | some a => if a + off < 256 then b.getD (a + off) 0 else 0
    | none => 0

/-- The key of a profile (R205). (DEDUCED, log 50.) -/
def State.profileKey (s : State) (n : Nat) (b : List Byte) (h : Headers) (m : List Byte) : List Byte :=
  padTo 40 ((List.range 16).flatMap fun i =>
    (List.range (s.get (Reg.PARSE_PROF_EXT_LEN n i))).map fun k =>
      keyByte b h m (s.get (Reg.PARSE_PROF_EXT_ANCHOR n i)) (s.get (Reg.PARSE_PROF_EXT_OFFSET n i) + k))

/-- A range input of a profile (R205). -/
def State.rangeInput (s : State) (n : Nat) (b : List Byte) (h : Headers) (m : List Byte) (j : Nat) : Nat :=
  if bitOf (s.get (Reg.PARSE_PROF_CTRL_RANGE_EN n)) j then
    let a := s.get (Reg.PARSE_PROF_RANGE_ANCHOR n j)
    let o := s.get (Reg.PARSE_PROF_RANGE_OFFSET n j)
    beNat [keyByte b h m a o, keyByte b h m a (o + 1)]
  else 0

/-- The VLAN of a frame that entered on a port (R243). -/
def State.frameVlan (s : State) (b : List Byte) (port : Nat) : Nat :=
  if (walk b).vlan1 then beAt b 14 2 % 4096 else s.get (Reg.FDB_PORT_CFG_PVID port)

end Sys2Proof.Machine
end

