-- ==== Sys2Proof/Machine/Mac.lean ====
section
/-! DEFINITION. Ports: link states and debounce (R82 to R86), events (R88), pause and priority flow control
(R89 to R94), and the counting of received and transmitted frames (R100, R101, R105). -/

namespace Sys2Proof.Machine

/-! ### Counting frames -/

/-- Count a frame that left a port: `stomped` frames have no correct FCS (Table 3-17). -/
def State.countTx (s : State) (p : Nat) (b : List Byte) (stomped : Bool) : State :=
  let n := b.length
  let s := s.count p 36 n
  if stomped then s.count p 53 1
  else
    let s := (s.count p 34 1).count p 35 n
    let s := s.count p (37 + destKind b) 1
    let s := if vlanTagged b then s.count p 42 1 else s
    s.count p (43 + lenClass n) 1

/-- Count a received frame under R105. `max` is the receive limit, `b` all bytes received. -/
def State.countRx (s : State) (p max : Nat) (b : List Byte) (fcs : Fcs) (codeErr : Bool) : State :=
  let n := b.length
  let good := fcs == .good && !codeErr
  let s := (s.count p 33 1).count p 2 n
  if good && 64 ≤ n && n ≤ max then
    let s := (s.count p 0 1).count p 1 n
    let s := s.count p (3 + destKind b) 1
    let s := if vlanTagged b then s.count p 9 1 else s
    s.count p (10 + lenClass n) 1
  else if n ≤ 63 then (if good then s.count p 20 1 else s.count p 21 1)
  else if n > max then (if good then s.count p 22 1 else s.count p 23 1)
  else if codeErr then s.count p 26 1
  else if fcs == .stomped then s.count p 25 1
  else s.count p 24 1

/-! ### MAC control frames -/

/-- The source address of a port's own frames (R94, Tables 3-13 and 3-14). -/
def State.macSource (s : State) (p : Nat) : List Byte :=
  beBytes 6 (s.get Reg.MAC_SA_BASE_HI_ADDR_HI * 2 ^ 32 + s.get Reg.MAC_SA_BASE_LO_ADDR_LO * 2 ^ 10 + p)

/-- A MAC control frame of 64 bytes with its FCS. -/
def State.controlFrame (s : State) (p : Nat) (body : List Byte) : List Byte :=
  let b := padTo 60 (beBytes 6 0x0180C2000001 ++ s.macSource p ++ [0x88, 0x08] ++ body)
  b ++ fcsBytes b

/-- A whole frame has left a port's MAC: it goes out at the balls as the latest frame, back to the own receiver in LOOPBACK 1 and
2 (Table 3-10), or nowhere while the transmitter idles or signals a fault (R85, R514). (DESIGN CHOICE, log 81.) -/
def State.putOut (s : State) (p : Nat) (b : List Byte) : State :=
  let l := s.get (Reg.MAC_PORT_CTRL_LOOPBACK p)
  let fault := s.linkState p != stFlushing && (s.bit (Reg.MAC_PORT_STATUS_LOCAL_FAULT p) || s.bit (Reg.MAC_PORT_STATUS_REMOTE_FAULT p))
  if l = 1 || l = 2 then s.modPort p fun x => { x with looped := x.looped ++ [b] }
  else if s.portIdle p || fault then s
  else s.modPort p fun x => { x with lastTx := b }

/-- Put out a pause frame (priority 8) or a PFC frame for one priority (R94). -/
def State.putPause (s : State) (p prio quanta : Nat) : State :=
    let body := if prio = 8 then [0x00, 0x01] ++ beBytes 2 quanta
      else [0x01, 0x01] ++ beBytes 2 (2 ^ prio) ++ (List.range 8).flatMap fun i => beBytes 2 (if i = prio then quanta else 0)
    let f := s.controlFrame p body
    ((s.countTx p f false).count p (if prio = 8 then 40 else 41) 1).putOut p f

/-- Send a pause frame (priority 8) or a PFC frame for one priority: in UP only (R94), not in LOOPBACK 3, whose transmit output
is discarded (Table 3-10), and after the frame in transmission (R93, R307). -/
def State.sendPause (s : State) (p prio quanta : Nat) : State :=
  if !s.portUp p || s.get (Reg.MAC_PORT_CTRL_LOOPBACK p) = 3 then s
  else if (s.port p).tx.isSome then s.modPort p fun x => { x with control := x.control ++ [(prio, quanta)] }
  else s.putPause p prio quanta

/-- The frame in transmission has ended: the pause frames that waited for it go out (R93, R307). -/
def State.sendWaiting (s : State) (p : Nat) : State :=
  let l := (s.port p).control
  l.foldl (fun s e => s.sendPause p e.1 e.2) (s.modPort p fun x => { x with control := [] })

/-- The request of a port for a priority, or 8 for the whole port, begins: the first frame is sent (R94, R307). -/
def State.pauseBegin (s : State) (p prio : Nat) : State :=
  if (mapFind (s.port p).request prio).isSome then s
  else (s.modPort p fun x => { x with request := mapPut x.request prio s.cycle }).sendPause p prio
    (s.get (Reg.MAC_PORT_PAUSE_QUANTA p))

/-- The request ends: a frame with quanta 0 (R94). -/
def State.pauseEnd (s : State) (p prio : Nat) : State :=
  if (mapFind (s.port p).request prio).isNone then s
  else (s.modPort p fun x => { x with request := mapDel x.request prio }).sendPause p prio 0

/-- `q` quanta of 512 bit times at the port's MAC rate have passed since cycle `from_` (R91): one quantum is
768 / rate cycles. -/
def State.quantaPassed (s : State) (p from_ q : Nat) : Bool := (s.cycle - from_) * s.macRate p ≥ q * 768

/-- Repeat the frame of a lasting request after REFRESH quanta (R94). -/
def State.pauseRefresh (s : State) (p prio : Nat) : State :=
  match mapFind (s.port p).request prio with
  | some at_ =>
    if s.portUp p && s.quantaPassed p at_ (s.get (Reg.MAC_PORT_PAUSE_REFRESH p)) then
      (s.modPort p fun x => { x with request := mapPut x.request prio s.cycle }).sendPause p prio
        (s.get (Reg.MAC_PORT_PAUSE_QUANTA p))
    else s
  | none => s

/-! ### Received pause -/

/-- Any received pause or PFC holds a queue of the port. -/
def PortDyn.isHeld (x : PortDyn) : Bool := x.pause.isSome || !x.pfc.isEmpty

/-- After a change of the received timers: the status bits, and TX_PAUSE_TIME over the time held so far. -/
def State.pauseChanged (s : State) (p : Nat) (before : PortDyn) : State :=
  let x := s.port p
  let s := match before.heldFrom with
    | some _ =>
      let t := before.heldTime s.cycle (s.macRate p)
      (s.count p 58 (t / 768)).modPort p fun x => { x with heldFrom := some s.cycle, heldRem := t % 768 }
    | none => s
  let s := s.modPort p fun y => { y with
    heldFrom := if x.isHeld then some s.cycle else none
    heldRem := if x.isHeld then y.heldRem else 0 }
  (s.setB (Reg.MAC_PORT_STATUS_PAUSED p) x.pause.isSome).set (Reg.MAC_PORT_STATUS_PFC_PAUSED p) (maskOf (x.pfc.map (·.1)))

/-- Store the timer of the port (priority 8) or of a priority; quanta 0 ends it at once (R91, R92). -/
def PortDyn.setTimer (x : PortDyn) (prio now quanta : Nat) : PortDyn :=
  if prio = 8 then { x with pause := if quanta = 0 then none else some (now, quanta) }
  else { x with pfc := if quanta = 0 then mapDel x.pfc prio else mapPut x.pfc prio (now, quanta) }

/-- A received 802.3x pause frame with good FCS is acted on (R90, R91); outside UP it has no effect (R84). -/
def State.pauseReceived (s : State) (p quanta : Nat) (dstOk : Bool) : State :=
  if !s.portUp p || s.get (Reg.MAC_PORT_CTRL_FLOW_CTRL p) != 1 || !dstOk then s
  else (s.modPort p fun x => x.setTimer 8 s.cycle quanta).pauseChanged p (s.port p)

/-- A received PFC frame with good FCS is acted on (R90, R92). -/
def State.pfcReceived (s : State) (p enable : Nat) (quanta : List Nat) (dstOk : Bool) : State :=
  if !s.portUp p || s.get (Reg.MAC_PORT_CTRL_FLOW_CTRL p) != 2 || !dstOk then s
  else (s.modPort p fun x => (setBits enable 8).foldl (fun x n => x.setTimer n s.cycle (quanta.getD n 0)) x).pauseChanged
    p (s.port p)

/-- A pause or PFC timer runs out (R91). -/
def State.pauseExpiry (s : State) (p prio : Nat) : State :=
  let x := s.port p
  let t := if prio = 8 then x.pause else mapFind x.pfc prio
  match t with
  | some (c, q) => if s.quantaPassed p c q then (s.modPort p fun x => x.setTimer prio s.cycle 0).pauseChanged p x else s
  | none => s

/-- A received frame is a MAC control frame (R89). -/
def isControl (b : List Byte) : Bool := b.length ≥ 14 && beAt b 12 2 == 0x8808

/-- A consumed MAC control frame is counted (R89), and one whose port or address R90 excludes also as ignored. (DEDUCED, log 81.) -/
def State.countControl (s : State) (p : Nat) (b : List Byte) : State :=
  let op := beAt b 14 2
  if op != 0x0001 && op != 0x0101 then s.count p 8 1
  else
    let s := s.count p (if op = 1 then 6 else 7) 1
    let mode := s.get (Reg.MAC_PORT_CTRL_FLOW_CTRL p)
    if beAt b 0 6 == 0x0180C2000001 && mode == (if op = 1 then 1 else 2) then s else s.count p 63 1

/-! ### Link states -/

/-- A link is good (R82). -/
def linkGood (c : LinkCond) : Bool :=
  c.blockLock && c.aligned && c.fecLock && !c.hiBer && !c.localFault && !c.remoteFault

/-- EXTEST, EXTEST_PULSE, EXTEST_TRAIN, CLAMP or HIGHZ makes every front, span and mirror link bad (R591). -/
def State.linksHeld (s : State) : Bool := s.cellsDrive || s.plat.tap == 6

/-- Leave UP for FLUSHING and request the flush (R86, R346, R347); a received pause runs on (R91).
`counted` is false for a re-initialisation of MAC (Table 17-8). -/
def State.leaveUp (s : State) (p : Nat) (counted : Bool) : State :=
  let s := s.set (Reg.MAC_PORT_STATUS_STATE p) stFlushing
  let s := if counted then (s.count p 59 1).on (Reg.MAC_PORT_EVT_LINK_DOWN p) else s
  let s := s.modPort p fun x => { x with flush := .waiting, control := [] }
  s.request (.portFlush p) none

/-- Enter TRAINING. -/
def State.enterTraining (s : State) (p : Nat) : State :=
  (s.set (Reg.MAC_PORT_STATUS_STATE p) stTraining).modPort p fun x => { x with trainSince := s.cycle }

/-- Leave DISABLED: the lanes of the port take the polarity of LANE_TX_INVERT and LANE_RX_INVERT (R77). -/
def State.leaveDisabled (s : State) (p : Nat) : State :=
  let s := ((List.range (s.lanes p)).map (p + ·)).foldl (fun s n => s.modPort n fun x => { x with
    txInv := bitOf (s.get (Reg.LANE_TX_INVERT_TX_INV (n / 32))) (n % 32)
    rxInv := bitOf (s.get (Reg.LANE_RX_INVERT_RX_INV (n / 32))) (n % 32) }) s
  s.enterTraining p

/-- Enter DISABLED: the port receives nothing (R84), so its link is not good and no fault is received. (DEDUCED, log 81.) -/
def State.enterDisabled (s : State) (p : Nat) : State :=
  let s := s.set (Reg.MAC_PORT_STATUS_STATE p) stDisabled
  let s := (((s.off (Reg.MAC_PORT_STATUS_LINK_GOOD p)).off (Reg.MAC_PORT_STATUS_HI_BER p)).off
    (Reg.MAC_PORT_STATUS_LOCAL_FAULT p)).off (Reg.MAC_PORT_STATUS_REMOTE_FAULT p)
  s.modPort p fun x => { x with cond := linkCond0, looped := [] }

/-- ENABLE written on a port whose checks have passed (R84, R86, Table 3-7). A port in calibration stays DISABLED until the
calibration ends (R147, R148). -/
def State.applyEnable (s : State) (p : Nat) : State :=
  let st := s.linkState p
  let held := match s.stamp.cal with | some c => c.port == p | none => false
  if s.bit (Reg.MAC_PORT_CTRL_ENABLE p) then (if st = stDisabled && !held then s.leaveDisabled p else s)
  else if st = stUp then s.leaveUp p true
  else if st = stTraining then s.enterDisabled p
  else s

/-- New link conditions of a port; one in DISABLED receives nothing (R79, R81 to R84, R88). (DESIGN CHOICE, log 72.) -/
def State.linkChange (s : State) (p : Nat) (c : LinkCond) : State :=
  if s.linkState p = stDisabled then s
  else
  let x := s.port p
  let good := linkGood c && s.laneRefGood p && !s.linksHeld
  let was := s.bit (Reg.MAC_PORT_STATUS_LINK_GOOD p)
  let s := s.modPort p fun x => { x with
    cond := { c with fecCorrected := 0, fecUncorr := 0, fecSymbols := 0, invalidCtrl := 0 }
    goodSince := if good && !was then s.cycle else x.goodSince
    badSince := if !good && was then s.cycle else x.badSince }
  let s := (((s.setB (Reg.MAC_PORT_STATUS_LINK_GOOD p) good).setB (Reg.MAC_PORT_STATUS_HI_BER p) c.hiBer).setB
    (Reg.MAC_PORT_STATUS_LOCAL_FAULT p) c.localFault).setB (Reg.MAC_PORT_STATUS_REMOTE_FAULT p) c.remoteFault
  let s := if c.hiBer && !x.cond.hiBer then s.on (Reg.MAC_PORT_EVT_HI_BER p) else s
  let s := if c.localFault && !x.cond.localFault then s.on (Reg.MAC_PORT_EVT_LOCAL_FAULT p) else s
  let s := if c.remoteFault && !x.cond.remoteFault then s.on (Reg.MAC_PORT_EVT_REMOTE_FAULT p) else s
  let s := if c.fecUncorr > 0 then s.on (Reg.MAC_PORT_EVT_FEC_UNCORR p) else s
  let s := (((s.count p 27 c.fecCorrected).count p 28 c.fecUncorr).count p 29 c.fecSymbols).count p 62 c.invalidCtrl
  if c.aligned && !x.cond.aligned then
    s.set (Reg.STAMP_PORT_STATUS_DESKEW p) (if s.lanes p = 1 then 0 else c.deskew)
  else s

/-- The link has stayed good for UP_DEBOUNCE in TRAINING (R83), and the partner does not refuse what an auto-negotiating port
advertises (R75); the first frame of a lasting back-pressure request is sent on entry to UP (R94). -/
def State.upExpiry (s : State) (p : Nat) : State :=
  let x := s.port p
  if s.linkState p = stTraining && s.bit (Reg.MAC_PORT_STATUS_LINK_GOOD p) && s.laneRefGood p &&
      !s.bit Reg.SYS_CLK_STATUS_ON_OSC && !(s.bit (Reg.MAC_PORT_CTRL_AN_EN p) && x.cond.anRefused) &&
      s.cycle ≥ max x.trainSince x.goodSince + s.get (Reg.MAC_PORT_CTRL_UP_DEBOUNCE p) * 100 * usCycles then
    let s := (s.set (Reg.MAC_PORT_STATUS_STATE p) stUp).on (Reg.MAC_PORT_EVT_LINK_UP p)
    (x.request.map (·.1)).foldl (fun s prio =>
      (s.modPort p fun x => { x with request := mapPut x.request prio s.cycle }).sendPause p prio
        (s.get (Reg.MAC_PORT_PAUSE_QUANTA p))) s
  else s

/-- The link has stayed bad for DN_DEBOUNCE in UP (R82, Table 3-7). -/
def State.dnExpiry (s : State) (p : Nat) : State :=
  if s.linkState p = stUp && !s.bit (Reg.MAC_PORT_STATUS_LINK_GOOD p) &&
      s.cycle ≥ (s.port p).badSince + s.get (Reg.MAC_PORT_CTRL_DN_DEBOUNCE p) * usCycles then s.leaveUp p true
  else s

/-- HOLD_DOWN_US after the flush completed, the port leaves FLUSHING (R348, Table 3-7). -/
def State.holdDown (s : State) (p : Nat) : State :=
  match (s.port p).flush with
  | .complete c =>
    if s.linkState p = stFlushing && s.cycle ≥ c + s.get Reg.QUE_CTRL_HOLD_DOWN_US * usCycles && s.funcUp .mac then
      let s := (s.modPort p fun x => { x with flush := .idle }).satAdd Reg.QUE_FLUSH_CNT_COUNT 1
      if s.bit (Reg.MAC_PORT_CTRL_ENABLE p) then s.enterTraining p else s.enterDisabled p
    else s
  | _ => s

/-- Every port in UP that satisfies `which` leaves UP at once (R49, R50, Table 17-8). -/
def State.dropPorts (s : State) (which : Nat → Bool) (counted : Bool) : State :=
  (List.range 1024).foldl (fun s p => if which p && s.linkState p == stUp then s.leaveUp p counted else s) s

/-! ### Register checks and effects of the MAC page -/

/-- Refusals of MAC_PORT_CTRL (R78, R557, Tables 3-8 and 3-10). -/
def portCtrlCheck (s : State) (p v : Nat) : Status :=
  let en := s.bit (Reg.MAC_PORT_CTRL_ENABLE p)
  if bits v 8 2 == 3 then .range
  else if bitOf v 0 && !fecOk (s.lanes p) (s.laneRate p) (bits v 4 2) then .range
  else if en && bits v 4 2 != s.get (Reg.MAC_PORT_CTRL_FEC p) then .busy
  else if s.linkState p != stDisabled && bits v 6 2 != s.get (Reg.MAC_PORT_CTRL_LOOPBACK p) then .busy
  else if bitOf v 0 && !s.bit Reg.SYS_START_STATUS_READY then .busy
  else .ok

/-- Refusals of the MAC page beyond reserved bits (R70, R71, Tables 3-8 to 3-15). -/
def macCheck (s : State) (off v : Nat) : Status :=
  if off < 0x200 then
    let o := off / 4
    if !octetModeOk (bits v 0 3) (bits v 4 2) then .range
    else if (List.range 8).any fun i => s.bit (Reg.MAC_PORT_CTRL_ENABLE (8 * o + i)) || s.linkState (8 * o + i) == stFlushing then .busy
    else .ok
  else if off < 0x1000 then .ok
  else
    let p := (off - 0x1000) / 0x20
    match off % 0x20 with
    | 0x00 => portCtrlCheck s p v
    | 0x04 => if bits v 0 14 < 64 || bits v 0 14 > 16000 then .range else .ok
    | 0x08 => if bits v 16 16 == 0 || bits v 0 16 == 0 || bits v 0 16 ≥ bits v 16 16 then .range else .ok
    | _ => .ok

end Sys2Proof.Machine
end

