-- ==== Sys2Proof/Machine/Buffers.lean ====
section
/-! DEFINITION. Beads and pools (R296 to R318): landing, grants, back-pressure, the allocators, reference counts, refused
frees, and withdrawn blocks. -/

namespace Sys2Proof.Machine

/-- Change the buffer's record. -/
def State.modBuf (s : State) (f : BufSt → BufSt) : State := { s with buf := f s.buf }

/-- The owner number of INJECT (R301). -/
def ownerInject : Nat := 1024

/-! ### Pools -/

/-- The key of an owner's count in a pool. -/
def ownerKey (pool owner : Nat) : Nat := pool * 2048 + owner

/-- An owner's beads in a pool. -/
def State.ownerCount (s : State) (pool owner : Nat) : Nat := mapGet s.buf.owners (ownerKey pool owner) 0

/-- The reserve of each owner. -/
def State.poolMin (s : State) (n : Nat) : Nat := s.get (Reg.BUF_POOL_CFG_MIN n)

/-- A pool's shared size (R301). -/
def State.sharedSize (s : State) (n : Nat) : Nat := s.get (Reg.BUF_POOL_SIZE_SIZE n) - 1025 * s.poolMin n

/-- A pool's shared use. -/
def State.sharedUse (s : State) (n : Nat) : Nat := s.get (Reg.BUF_POOL_SHARED_SHARED n)

/-- A pool is in XOFF. -/
def State.inXoff (s : State) (n : Nat) : Bool := bitOf (s.get Reg.BUF_XOFF_POOLS_POOLS) n

/-! ### Back-pressure (R306, R307) -/

/-- The priority for which a pool asks a port, 8 for the whole port. -/
def State.askPriority (s : State) (pool port : Nat) : Option Nat :=
  match s.get (Reg.MAC_PORT_CTRL_FLOW_CTRL port) with
  | 1 => some 8
  | 2 => some (s.get (Reg.BUF_POOL_CFG_PFC_PRI pool))
  | _ => none

/-- The requests of a port follow the pools that ask it. -/
def State.syncRequests (s : State) (port : Nat) : State :=
  let want := (s.buf.asks.filter (·.2 == port)).filterMap fun a => s.askPriority a.1 port
  let s := ((s.port port).request.map (·.1)).foldl (fun s q => if want.contains q then s else s.pauseEnd port q) s
  want.foldl (fun s q => s.pauseBegin port q) s

/-- A pool asks a port for back-pressure. -/
def State.askPort (s : State) (pool port : Nat) : State :=
  if s.buf.asks.contains (pool, port) then s
  else (s.modBuf fun b => { b with asks := b.asks ++ [(pool, port)] }).syncRequests port

/-- A pool in XOFF asks every ingress port whose count exceeds MIN. -/
def State.askPorts (s : State) (pool : Nat) : State :=
  s.buf.owners.foldl (fun s e =>
    if e.1 / 2048 = pool && e.1 % 2048 < 1024 && e.2 > s.poolMin pool then s.askPort pool (e.1 % 2048) else s) s

/-- A pool enters or leaves XOFF (R306). -/
def State.xoffUpdate (s : State) (n : Nat) : State :=
  let xoff := s.get (Reg.BUF_POOL_XOFF_XOFF n)
  let use := s.sharedUse n
  if !s.inXoff n then
    if xoff != 0 && use ≥ xoff then
      ((s.putBit Reg.BUF_XOFF_POOLS_POOLS n true).on Reg.BUF_STATUS_XOFF).askPorts n
    else s
  else if use ≤ s.get (Reg.BUF_POOL_XON_XON n) || xoff = 0 then
    let s := s.putBit Reg.BUF_XOFF_POOLS_POOLS n false
    let s := s.setB Reg.BUF_STATUS_XOFF (s.get Reg.BUF_XOFF_POOLS_POOLS != 0)
    let ports := (s.buf.asks.filter (·.1 == n)).map (·.2)
    let s := s.modBuf fun b => { b with asks := b.asks.filter (·.1 != n) }
    ports.foldl (fun s p => s.syncRequests p) s
  else s

/-! ### Charging (R298, R301, R302) -/

/-- Store the landing count of a pipe, and the count of all pipes (Table 11-7); MAX takes up the count that stood and the new one. (DEDUCED, log 85.) -/
def State.setLanding (s : State) (pipe n : Nat) : State :=
  let before := (s.buf.landing.map (·.2)).sum
  let s := s.modBuf fun b => { b with landing := mapSet b.landing pipe n 0 }
  let all := (s.buf.landing.map (·.2)).sum
  (s.set Reg.BUF_LANDING_NOW all).maxTo Reg.BUF_LANDING_MAX (max before all)

/-- Where a bead for an owner would come from (R302): its reserve, the shared region, or nothing. (DESIGN CHOICE, log 57.) -/
def State.grantPart (s : State) (pool owner : Nat) : Option Bool :=
  if s.ownerCount pool owner < s.poolMin pool then some false
  else if s.sharedUse pool < s.sharedSize pool then some true
  else none

/-- Charge one bead of a pool to an owner. -/
def State.chargePool (s : State) (pool owner : Nat) (shared : Bool) : State :=
  let s := s.modBuf fun b => { b with owners := mapMod b.owners (ownerKey pool owner) 0 (· + 1) }
  let s := s.set (Reg.BUF_POOL_USED_USED pool) (s.get (Reg.BUF_POOL_USED_USED pool) + 1)
  let s := if shared then s.set (Reg.BUF_POOL_SHARED_SHARED pool) (s.sharedUse pool + 1) else s
  let s := s.xoffUpdate pool
  if s.inXoff pool && owner < 1024 && s.ownerCount pool owner > s.poolMin pool then s.askPort pool owner else s

/-- Take the charge of a bead away: it returns to the part it was granted from. -/
def State.uncharge (s : State) (b : Bead) : State :=
  match b.account with
  | .landing pipe => s.setLanding pipe (mapGet s.buf.landing pipe 0 - 1)
  | .pool n =>
    let s := s.modBuf fun x => { x with owners := mapMod x.owners (ownerKey n b.owner) 0 (· - 1) }
    let s := s.set (Reg.BUF_POOL_USED_USED n) (s.get (Reg.BUF_POOL_USED_USED n) - 1)
    let s := if b.shared then s.set (Reg.BUF_POOL_SHARED_SHARED n) (s.sharedUse n - 1) else s
    s.xoffUpdate n
  | .returnSet => s

/-! ### Beads -/

/-- The block of a bead. -/
def blockOf (bead : Nat) : Nat := bead / 4096

/-- A block gives no bead: it is withdrawn or is being withdrawn (R316). -/
def State.blockOut (s : State) (b : Nat) : Bool :=
  s.buf.withdrawn.contains b || (s.buf.withdrawing.isSome && b == s.get Reg.BUF_WITHDRAWN_NEXT)

/-- The lowest key from `n` on that the map does not list. -/
def gapFrom {α : Type} : SMap α → Nat → Nat
  | [], n => n
  | (k, _) :: m, n => if k < n then gapFrom m n else if k = n then gapFrom m (n + 1) else n

/-- The lowest free bead outside the blocks that are out of service. (DESIGN CHOICE, log 27.) -/
def State.freeBeadFrom (s : State) : Nat → Nat → Option Nat
  | 0, _ => none
  | fuel + 1, n =>
    let g := gapFrom s.buf.beads n
    if g ≥ 524288 then none
    else if s.blockOut (blockOf g) then s.freeBeadFrom fuel ((blockOf g + 1) * 4096)
    else some g

/-- The bead that is given next. (DESIGN CHOICE, log 27.) -/
def State.freeBead (s : State) : Option Nat := s.freeBeadFrom 129 0

/-- Put a bead in use. -/
def State.putBead (s : State) (n : Nat) (b : Bead) : State := s.modBuf fun x => { x with beads := mapPut x.beads n b }

/-- A landing bead for a frame of a pipe (R298); none when the pipe holds 256 (R299). -/
def State.takeLanding (s : State) (pipe owner count : Nat) : Option (Nat × State) :=
  if mapGet s.buf.landing pipe 0 ≥ 256 then none
  else match s.freeBead with
    | some b => some (b, (s.putBead b ⟨count, .landing pipe, owner, false⟩).setLanding pipe (mapGet s.buf.landing pipe 0 + 1))
    | none => none

/-- A bead of a pool for an owner (R302). -/
def State.takePool (s : State) (pool owner count : Nat) : Option (Nat × State) :=
  match s.grantPart pool owner, s.freeBead with
  | some shared, some b => some (b, (s.putBead b ⟨count, .pool pool, owner, shared⟩).chargePool pool owner shared)
  | _, _ => none

/-- A bead of the return set, at most 8,192 (R321). -/
def State.takeReturn (s : State) : Option (Nat × State) :=
  let held := (s.buf.beads.filter fun e => e.2.account == .returnSet).length
  if held ≥ 8192 then none
  else s.freeBead.map fun b => (b, s.putBead b ⟨1, .returnSet, 0, false⟩)

/-- Free a bead, whatever its count. -/
def State.dropBead (s : State) (n : Nat) : State :=
  match mapFind s.buf.beads n with
  | some b => State.uncharge (s.modBuf fun x => { x with beads := mapDel x.beads n }) b
  | none => s

/-- Move a landing bead to a pool (R298); none when the pool is empty for its owner. -/
def State.moveBead (s : State) (n pool : Nat) : Option State :=
  match mapFind s.buf.beads n with
  | some b => match s.grantPart pool b.owner with
    | some shared =>
      some (State.chargePool ((s.uncharge b).putBead n { b with account := .pool pool, shared := shared }) pool b.owner shared)
    | none => none
  | none => some s

/-- Move all of a frame's landing beads. -/
def moveBeads (pool : Nat) : List Nat → State → Option State
  | [], s => some s
  | n :: l, s => match s.moveBead n pool with
    | some s => moveBeads pool l s
    | none => none

/-! ### Reference counts and frees (R312 to R315) -/

/-- Record a refused free. -/
def State.badFree (s : State) (foreign : Bool) (bead agent : Nat) : State :=
  let s := ((s.setB Reg.BUF_BAD_FREE_LOC_KIND foreign).set Reg.BUF_BAD_FREE_LOC_AGENT agent).set Reg.BUF_BAD_FREE_LOC_BEAD bead
  (s.satAdd Reg.BUF_BAD_FREE_CNT_COUNT 1).on Reg.BUF_STATUS_BAD_FREE

/-- A free that is refused (R315): foreign in a withdrawn block or from another account, double at count 0. -/
def State.freeFault (s : State) (bead : Nat) (account : BeadAccount) : Option Bool :=
  if s.buf.withdrawn.contains (blockOf bead) then some true
  else match mapFind s.buf.beads bead with
    | none => some false
    | some b => if b.account == account then none else some true

/-- One decrement of a bead's count; the one that takes it to 0 frees the bead (R314). -/
def State.decrement (s : State) (bead : Nat) (account : BeadAccount) (agent : Nat) : State :=
  match s.freeFault bead account with
  | some foreign => s.badFree foreign bead agent
  | none => match mapFind s.buf.beads bead with
    | some b => if b.count ≤ 1 then s.dropBead bead else s.putBead bead { b with count := b.count - 1 }
    | none => s

/-- A copy has read or discarded all the beads of its frame. -/
def State.decrementAll (s : State) (beads : List Nat) (agent : Nat) : State :=
  beads.foldl (fun s n => match mapFind s.buf.beads n with
    | some b => s.decrement n b.account agent
    | none => s.badFree false n agent) s

/-- Give every bead of a frame the count of its copies (R312). -/
def State.setCounts (s : State) (beads : List Nat) (n : Nat) : State :=
  beads.foldl (fun s k => match mapFind s.buf.beads k with | some b => s.putBead k { b with count := n } | none => s) s

/-! ### The allocator (R310, R311) -/

/-- The requests of a handshake in order from its start position. -/
def requestOrder (start : Nat) (l : List BeadRequest) : List BeadRequest :=
  (rotation 65 start).filterMap fun k => l.find? fun r => r.requester == k

/-- Where a pool's next handshake starts after one from `start` that carried a request (R310). -/
def State.turnFrom (s : State) (pool start : Nat) : State :=
  s.modBuf fun b => { b with starts := mapSet b.starts pool ((start + 1) % 65) 0 }

/-- The start position of a pool's handshake. -/
def State.turn (s : State) (pool : Nat) : Nat := mapGet s.buf.starts pool 0

/-! ### Withdrawn blocks (R316, R317) -/

/-- Every bead of a block is free. -/
def State.blockFree (s : State) (b : Nat) : Bool := s.buf.beads.all fun e => blockOf e.1 != b

/-- The next block after `b` that is not withdrawn. -/
def State.nextBlock (s : State) (b : Nat) : Nat :=
  (((List.range 127).map fun i => (b + 1 + i) % 128).find? fun k => !s.buf.withdrawn.contains k).getD b

/-- BUF_WITHDRAW answers FULL at once (R316). -/
def State.withdrawFull (s : State) : Bool :=
  let n := s.buf.withdrawn.length
  let pools := ((List.range 16).map fun i => max (s.get (Reg.BUF_POOL_SIZE_SIZE i)) (s.get (Reg.BUF_POOL_USED_USED i))).sum
  n ≥ 8 || pools + 16384 + 8192 + 4096 * (n + 1) > 524288

/-- Take block NEXT out of service. -/
def State.withdrawBlock (s : State) : Nat × State :=
  let b := s.get Reg.BUF_WITHDRAWN_NEXT
  let s := s.modBuf fun x => { x with withdrawn := x.withdrawn ++ [b], withdrawing := none }
  (b, (s.set Reg.BUF_WITHDRAWN_COUNT s.buf.withdrawn.length).set Reg.BUF_WITHDRAWN_NEXT (s.nextBlock b))

/-- The end of a withdraw. -/
def State.endWithdraw (s : State) (c : CmdIn) (r : CmdRes) : State :=
  State.complete ((s.modBuf fun b => { b with withdrawing := none }).endOwn .withdraw c) 0x38 c r

/-- Block NEXT is out of service for a withdraw: its end with OK. -/
def State.withdrawDone (s : State) (c : CmdIn) : State :=
  let (b, s) := s.withdrawBlock
  s.endWithdraw c { CmdRes.ok with result := [BitVec.ofNat 8 b] }

/-- BUF_WITHDRAW (R316): FULL at once; on its engine, OK once every bead of block NEXT is free, and until then the block waits and gives
no bead. -/
def State.withdraw (s : State) (c : CmdIn) : State :=
  match opInfo 0x38 with
  | none => s
  | some o => match s.cmdGate 0x38 o c with
    | some r => s.complete 0x38 c r
    | none =>
      let free := s.blockFree (s.get Reg.BUF_WITHDRAWN_NEXT)
      match s.buf.withdrawing with
      | some (d, _) => if d.ring = c.ring && d.descIndex = c.descIndex && free then s.withdrawDone d else s
      | none =>
        if s.withdrawFull then s.endWithdraw c (CmdRes.of .full)
        else if !s.mayAct 0x38 o c false then s
        else if free then s.withdrawDone c
        else s.modBuf fun b => { b with withdrawing := some (c, s.cycle) }

/-- A block not free within 1 ms returns to service (R316). -/
def State.withdrawTimeout (s : State) : State :=
  match s.buf.withdrawing with
  | some (c, t) => if s.cycle ≥ t + msCycles && !s.blockFree (s.get Reg.BUF_WITHDRAWN_NEXT) then s.endWithdraw c (CmdRes.of .busy) else s
  | none => s

/-- At the end of a cycle: the block being withdrawn is out of service once every bead of it is free (R316). -/
def State.withdrawCheck (s : State) : State :=
  match s.buf.withdrawing with
  | some (c, _) =>
    if s.blockFree (s.get Reg.BUF_WITHDRAWN_NEXT) then s.withdrawDone c else s
  | none => s

/-- A running block test ends without a result (R568). -/
def State.endBist (s : State) : State :=
  ((s.off Reg.SYS_BIST_STATUS_STATE).off Reg.SYS_BIST_STATUS_BLOCK).off Reg.SYS_BIST_STATUS_BEAD

/-- BUF_RESTORE (R317, R568). -/
def coreBufRestore (c : CmdIn) (s : State) : CmdRes × State :=
  let b := c.param % 128
  if !s.buf.withdrawn.contains b then (CmdRes.of .notFound, s)
  else
    let s := s.modBuf fun x => { x with withdrawn := x.withdrawn.filter (· != b) }
    let s := s.set Reg.BUF_WITHDRAWN_COUNT s.buf.withdrawn.length
    (CmdRes.ok, if s.get Reg.SYS_BIST_STATUS_STATE = 1 && s.get Reg.SYS_BIST_STATUS_BLOCK = b then s.endBist else s)

/-! ### Register checks and effects of the BUF page -/

/-- The thresholds of a pool fit its shared size (R306). -/
def thresholdsOk (size min xoff xon yellow red : Nat) : Bool :=
  let shared := size - 1025 * min
  1025 * min ≤ size && (xoff == 0 || (decide (xon < xoff) && decide (xoff ≤ shared))) && decide (yellow ≤ shared) &&
  decide (red ≤ shared) && (yellow == 0 || red ≤ yellow)

/-- Refusals of the BUF page beyond reserved bits (R296, R301, R306, R325, R557, Table 11-8). -/
def bufCheck (s : State) (off v : Nat) : Status :=
  if 0x100 ≤ off && off < 0x300 then
    let n := (off - 0x100) / 0x20
    let r := (off - 0x100) % 0x20
    let size := if r = 0 then v else s.get (Reg.BUF_POOL_SIZE_SIZE n)
    let min := if r = 4 then bits v 0 8 else s.poolMin n
    let xoff := if r = 8 then v else s.get (Reg.BUF_POOL_XOFF_XOFF n)
    let xon := if r = 0xC then v else s.get (Reg.BUF_POOL_XON_XON n)
    let yellow := if r = 0x10 then v else s.get (Reg.BUF_POOL_YELLOW_YELLOW_DROP n)
    let red := if r = 0x14 then v else s.get (Reg.BUF_POOL_RED_RED_DROP n)
    let sum := ((List.range 16).map fun i => if i = n then size else s.get (Reg.BUF_POOL_SIZE_SIZE i)).sum
    if (r = 0 && decide (sum + 4096 * s.buf.withdrawn.length > 499712)) || !thresholdsOk size min xoff xon yellow red then .range else .ok
  else if off = 0x500 then
    let gib := bits v 0 6
    let on := bits v 8 8
    let ret := bits v 16 8
    if gib > 32 || (bitOf v 24 && gib == 0) || on < 2 || ret < 1 || ret > 254 || ret ≥ on then .range
    else if gib != s.get Reg.BUF_SPILL_CTRL_SIZE_GIB && (s.bit Reg.BUF_SPILL_CTRL_ENABLE || s.get Reg.BUF_SPILL_USED_USED != 0) then .busy
    else if bitOf v 24 && !s.bit Reg.DRAM_CTRL_SERVICE then .busy
    else .ok
  else .ok

/-- What an accepted write to the BUF page does beyond its fields (R306, R307). (DESIGN CHOICE, log 51.) -/
def bufEffect (s : State) (off _v : Nat) : State :=
  if 0x100 ≤ off && off < 0x300 then
    let n := (off - 0x100) / 0x20
    let s := s.xoffUpdate n
    let s := if s.inXoff n then s.askPorts n else s
    (s.buf.asks.filter (·.1 == n)).foldl (fun s a => s.syncRequests a.2) s
  else s

end Sys2Proof.Machine
end

