-- ==== Sys2Proof/Machine/Tally.lean ====
section
/-! DEFINITION. Tally (R173 to R199): records and gaps, chains and leaves, the backing ring and its export, seals and
their MRAM heads. All multi-byte fields of its structures are big-endian (R179). -/

namespace Sys2Proof.Machine

/-- Change Tally's record. -/
def State.modTally (s : State) (f : TallySt → TallySt) : State := { s with tally := f s.tally }

/-! ### Entries -/

/-- The compact form of a stamp (Table 6-2). -/
def compact (st : Nat) : List Byte := beBytes 5 (bits st 64 40) ++ beBytes 4 (bits st 32 32) ++ beBytes 2 (bits st 16 16)

/-- Bits [15:8] of a stamp's FLAGS. -/
def tflags (st : Nat) : Byte := BitVec.ofNat 8 (bits st 8 8)

/-- The bytes that a frame's digest covers (R177). -/
def digestLen (x : Frame) : Nat := min x.bytes.length x.span

/-- The frame digest. -/
def frameDigest (x : Frame) : List Byte := (sha256 (x.bytes.take (digestLen x))).take 16

/-- The colour code of a record. -/
def Frame.cls (x : Frame) : Nat := x.clsOver.getD x.mark.cls

/-- A frame record (Table 6-1) with its chain, before it is given a sequence. -/
def recordBytes (x : Frame) (egress egrStamp flags : Nat) : List Byte :=
  [0x10, BitVec.ofNat 8 (egress % 256)] ++ zeros 12 ++ [BitVec.ofNat 8 flags, tflags x.ingStamp] ++ compact x.ingStamp ++
  compact egrStamp ++ [tflags egrStamp] ++ beBytes 3 (x.port % 1024 * 2 ^ 14 + egress * 16 + x.cls) ++
  beBytes 2 (x.mark.colour * 2 ^ 14 + min x.bytes.length 16383) ++
  beBytes 3 (match x.context with | some i => 2 ^ 23 + i | none => 0) ++ [BitVec.ofNat 8 (digestLen x)] ++ frameDigest x

/-- A gap record (Table 6-5) before it is given a sequence. -/
def gapBytes (chain : Nat) (g : Gap) : List Byte :=
  [0x20, BitVec.ofNat 8 chain] ++ zeros 14 ++ compact g.first ++ compact g.last ++ [0] ++ beBytes 6 g.lost ++ zeros 19

/-- An entry with its leaf position and its sequences (Table 6-1). -/
def sequenced (b : List Byte) (pos seq leaf : Nat) : List Byte :=
  [(b.getD 0 0) ||| BitVec.ofNat 8 pos] ++ slice b 1 1 ++ beBytes 6 seq ++ beBytes 6 leaf ++ b.drop 14

/-! ### The burst buffer (R176, R181, R187) -/

/-- TALLY_STATUS.SERVICE follows its condition (R188), and RING_LEVEL the ring. -/
def State.syncTally (s : State) : State :=
  let n := s.tally.ring.length
  let size := s.get Reg.TALLY_RING_SIZE_UNITS * 65536
  (s.set Reg.TALLY_RING_LEVEL_LEVEL n).setB Reg.TALLY_STATUS_SERVICE
    (16 * n ≥ s.get Reg.TALLY_CTRL_SVC_LEVEL * size || s.bit Reg.TALLY_STATUS_LOSS)

/-- Burst-buffer places that are neither used nor reserved. -/
def State.burstRoom (s : State) : Nat := 262144 - s.tally.burst.length - s.tally.reserved

/-- A chain. -/
def State.chain (s : State) (c : Nat) : Chain := mapGet s.tally.chains c chain0

/-- Count a lost record of a chain in its LOST (Table 6-7): in the newest START seal that waits, else in the running chain. -/
def TallySt.countLost (y : TallySt) (c : Nat) : TallySt :=
  match y.waits.getLast? with
  | some w => { y with waits := y.waits.dropLast ++ [{ w with lost := mapMod w.lost c 0 fun n => min (2 ^ 32 - 1) (n + 1) }] }
  | none => { y with chains := mapMod y.chains c chain0 fun x => { x with lost := min (2 ^ 32 - 1) (x.lost + 1) } }

/-- A record of a chain is lost (R181). `t` is its egress time. -/
def State.loseRecord (s : State) (c t : Nat) : State :=
  let g : Gap := match mapFind s.tally.gaps c with
    | some g => { g with
        lost := g.lost + 1
        first := if t / 2 ^ 16 < g.first / 2 ^ 16 then t else g.first
        last := if t / 2 ^ 16 > g.last / 2 ^ 16 then t else g.last }
    | none => ⟨1, t, t, 0⟩
  let s := s.modTally fun y => { y.countLost c with gaps := mapPut y.gaps c g }
  ((s.satAdd Reg.TALLY_LOST_CNT_LOST 1).on Reg.TALLY_STATUS_LOSS).syncTally

/-- Put a record into the burst buffer; behind a gap that waits for a place, it is one of those which the gap goes ahead of. -/
def State.pushRecord (s : State) (c : Nat) (b : List Byte) : State :=
  s.modTally fun y => { y with
    burst := y.burst ++ [(c, b)]
    gaps := y.gaps.map fun e => if e.1 = c then (e.1, { e.2 with behind := e.2.behind + 1 }) else e }

/-- The records of a chain in the burst buffer. -/
def TallySt.heldOf (y : TallySt) (c : Nat) : Nat := (y.burst.filter fun e => e.1 == c).length

/-- Put an entry behind the first `k` entries of its chain. -/
def insertAfter (c : Nat) (b : List Byte) : Nat → List (Nat × List Byte) → List (Nat × List Byte)
  | _, [] => [(c, b)]
  | k, e :: l =>
    if e.1 != c then e :: insertAfter c b k l
    else match k with
      | 0 => (c, b) :: e :: l
      | k + 1 => e :: insertAfter c b k l

/-- A gap record is written for a chain with lost records, once a place is free, ahead of the chain's later records (R181); none
after the FINAL seal's instant (R190). (DESIGN CHOICE, log 58.) -/
def State.gapWrite (s : State) (c : Nat) : State :=
  match mapFind s.tally.gaps c with
  | some g => if s.burstRoom = 0 || !s.bit Reg.TALLY_CTRL_ENABLE then s
      else s.modTally fun y => { y with
        gaps := mapDel y.gaps c
        burst := if g.behind = 0 then y.burst ++ [(c, gapBytes c g)]
          else insertAfter c (gapBytes c g) (y.heldOf c - g.behind) y.burst }
  | none => s

/-- A copy's record is formed while ENABLE = 1 (R174, R175, R181, R190): into its reserved place, or into a free one, behind the gap
record of its chain; it is lost when there is no place or its digest was lost (R178). -/
def State.formRecord (s : State) (x : Frame) (egress egrStamp flags : Nat) : State :=
  let c := egress % 256
  if !x.recorded || !s.bit Reg.TALLY_CTRL_ENABLE then s
  else
    let s := s.gapWrite c
    let rb := recordBytes x egress egrStamp flags
    if x.digestLost then s.loseRecord c egrStamp
    else if x.reserved > 0 then s.pushRecord c rb
    else if s.burstRoom = 0 then s.loseRecord c egrStamp
    else s.pushRecord c rb

/-- The record flags of a copy (Table 6-3). -/
def recFlags (late dropped stomped truncated mcast carry : Bool) : Nat :=
  128 * b2n late + 64 * b2n dropped + 32 * b2n stomped + 16 * b2n truncated + 8 * b2n mcast + 4 * b2n carry

/-- A frame is one of several multicast copies. -/
def Frame.manyCopies (x : Frame) : Bool :=
  decide ((x.plan.filter fun c => match c.kind with | .dest | .span _ _ => true | _ => false).length > 1)

/-- One copy of a recorded frame has its record: its reserved place is used (R176). -/
def State.copyRecord (s : State) (f egress egrStamp : Nat) (late dropped stomped : Bool) : State :=
  match s.frame f with
  | some x =>
    let s := s.formRecord x egress egrStamp (recFlags late dropped stomped x.truncated x.manyCopies x.carried)
    if x.recorded && x.reserved > 0 then
      (s.setFrame f { x with reserved := x.reserved - 1 }).modTally fun y => { y with reserved := y.reserved - 1 }
    else s
  | none => s

/-! ### Frame digests (R177, R178) -/

/-- A pipe's digest queue. -/
def State.digestQueue (s : State) (pipe : Nat) : List Nat := mapGet s.tally.digests pipe []

/-- The digest engine of a pipe takes its next frame: its queue gains a place (R178). -/
def State.digestNext (s : State) (pipe : Nat) : State :=
  s.modTally fun y => { y with digests := mapMod y.digests pipe [] List.tail }

/-! ### Chains and leaves (R183 to R186) -/

/-- The open leaf of a chain closes and extends the chain value (R184). -/
def closeLeaf (x : Chain) : Chain :=
  if x.leaf.isEmpty then x
  else { x with value := sha256 (x.value ++ sha256 x.leaf.flatten), leaf := [], nextLeaf := x.nextLeaf + 1 }

/-- Room of the backing ring beyond `reserve` entries. -/
def State.ringRoomFor (s : State) (n reserve : Nat) : Bool :=
  s.tally.ring.length + n + reserve ≤ s.get Reg.TALLY_RING_SIZE_UNITS * 65536

/-- Append an entry to the backing ring. -/
def State.ringAppend (s : State) (b : List Byte) : State :=
  let slot := s.tally.ringHead + s.tally.ring.length
  State.syncTally ((s.modTally fun y => { y with ring := y.ring ++ [⟨b, false⟩] }).dramWrite 0
    (tallyBurst (slot % (s.get Reg.TALLY_RING_SIZE_UNITS * 65536))) 2)

/-- The seal routine runs on Reckoner 7 (R475). -/
def State.sealEngine (s : State) : Bool := !bitOf (s.get Reg.RCK_STATUS_HALTED) 7 && s.funcUp .tally

/-- The next seal instant. -/
def State.nextSeal (s : State) : Nat := s.tally.lastSeal + s.get Reg.TALLY_SEAL_PERIOD_PERIOD_US * usCycles

/-- A seal instant of the grid has come and is not yet taken (R189). -/
def State.sealDue (s : State) : Bool :=
  s.bit Reg.TALLY_CTRL_ENABLE && s.tally.running && s.tally.waits.isEmpty && s.sealEngine && decide (s.cycle ≥ s.nextSeal)

/-- The chain engines may take a record: the chains run, and no START seal and no complete FINAL seal comes first (R190). A record
of a seal instant's own cycle goes into the next leaf, so it waits for a seal instant that has come (R189). -/
def State.mayTake (s : State) : Bool :=
  match s.tally.waits with
  | w :: _ => s.tally.running && !w.start && w.left > 0
  | [] => s.tally.running && !s.sealDue

/-- One record of a covering FINAL seal has been taken. -/
def takeWait : List SealWait → List SealWait
  | w :: l => { w with left := w.left - 1 } :: l
  | [] => []

/-- The next entry for the chain engines with what it leaves in the burst buffer and of the gaps: the oldest record, or the gap
record that must go ahead of it (R181). (DESIGN CHOICE, log 58.) -/
def State.nextEntry (s : State) (c : Nat) (b : List Byte) (rest : List (Nat × List Byte)) :
    List Byte × List (Nat × List Byte) × SMap Gap :=
  match mapFind s.tally.gaps c with
  | some g => if s.bit Reg.TALLY_CTRL_ENABLE && decide (g.behind ≥ s.tally.heldOf c) then
      (gapBytes c g, s.tally.burst, mapDel s.tally.gaps c) else (b, rest, s.tally.gaps)
  | none => (b, rest, s.tally.gaps)

/-- A chain engine takes the oldest record (R183, R186). -/
def State.takeRecord (s : State) : State :=
  match s.tally.burst with
  | (c, b) :: rest =>
    if !s.mayTake || !s.ringRoomFor 1 2120 || !s.funcUp .tally || !s.dramServes then s
    else
      let (b, rest, gaps) := s.nextEntry c b rest
      let x := s.chain c
      let e := sequenced b x.leaf.length x.nextSeq x.nextLeaf
      let x := { x with
        nextSeq := x.nextSeq + 1, leaf := x.leaf ++ [e], count := x.count + 1
        openedAt := if x.leaf.isEmpty then s.cycle else x.openedAt }
      let x := if x.leaf.length ≥ 16 then closeLeaf x else x
      let s := s.modTally fun y => { y with burst := rest, gaps := gaps, chains := mapPut y.chains c x, waits := takeWait y.waits }
      s.ringAppend e
  | [] => s

/-- An open leaf closes 1 µs after it opened (R183). -/
def State.leafTimer (s : State) (c : Nat) : State :=
  let x := s.chain c
  if !x.leaf.isEmpty && s.cycle ≥ x.openedAt + usCycles then s.modTally fun y => { y with chains := mapPut y.chains c (closeLeaf x) }
  else s

/-! ### MRAM heads (R195, R196) -/

/-- A head is valid (R196). -/
def headValid (h : List Byte) : Bool := h.length == 480 && slice h 448 32 == sha256 (h.take 448)

/-- The valid heads with the highest index among those that satisfy `p`. -/
def State.newestHead (s : State) (p : List Byte → Bool) : Option (Nat × List Byte) :=
  s.tally.heads.foldl (fun a e =>
    if headValid e.2 && p e.2 then
      match a with
      | some b => if beAt e.2 0 8 > beAt b.2 0 8 then some e else some b
      | none => some e
    else a) none

/-- The LAST_SEQ and SOURCE_INDEX of a chain from the MRAM (R196). -/
def State.chainSource (s : State) (c : Nat) : Nat × Nat :=
  match s.newestHead fun h => beAt h 56 1 == c / 64 with
  | some (_, h) => (beAt h (64 + 6 * (c % 64)) 6, beAt h 0 8)
  | none => (2 ^ 48 - 1, 0)

/-- The slot from `n` on that is not retired; once all are, slot `n` itself. (DESIGN CHOICE, log 87.) -/
def State.slotFrom (s : State) (n : Nat) : Nat :=
  ((rotation 8192 n).find? fun k => !s.tally.retired.contains k).getD n

/-- The head of a seal (Table 6-9). -/
def headBytes (x : Seal) : List Byte :=
  let g := x.index % 4
  let b := beBytes 8 x.index ++ sha256 x.message ++ slice x.message 16 16 ++ [BitVec.ofNat 8 g] ++ zeros 7 ++
    (List.range 64).flatMap fun i => slice x.message (128 + 64 * (64 * g + i) + 4) 6
  b ++ sha256 b

/-! ### Seals (R189 to R194) -/

/-- The header fields that belong to a seal instant: PRES_TIME, then bytes 64 to 99 of Table 6-6. -/
def State.sealInstantFields (s : State) : List Byte :=
  let st (d : Nat) : Byte := BitVec.ofNat 8 (s.domLock d + 4 * b2n ((s.dom d).left != 0))
  beBytes 16 s.presStamp ++ beBytes 4 (s.get Reg.TALLY_GM_A_HI_GM_ID) ++ beBytes 4 (s.get Reg.TALLY_GM_A_LO_GM_ID) ++
  beBytes 4 (s.get Reg.TALLY_GM_B_HI_GM_ID) ++ beBytes 4 (s.get Reg.TALLY_GM_B_LO_GM_ID) ++
  [st 0, st 1, BitVec.ofNat 8 (s.presLock + 4 * b2n s.inHoldover + 8 * b2n s.moving + 16 * s.presDomain), 0] ++
  beBytes 4 (s.get Reg.TIME_AB_DIFF_DIFF) ++ beBytes 8 s.deviceId ++ beBytes 4 (s.get Reg.TALLY_SEAL_PERIOD_PERIOD_US)

/-- A seal header (Table 6-6). -/
def sealHeader (start final : Bool) (index slot : Nat) (prev fields : List Byte) : List Byte :=
  [0x54, 0x53, 0x4C, 0x31, 1, BitVec.ofNat 8 (b2n start + 2 * b2n final)] ++ beBytes 2 0x100 ++ beBytes 8 index ++
  fields.take 16 ++ prev ++ fields.drop 16 ++ beBytes 4 slot ++ zeros 24

/-- A chain's entry in a seal (Table 6-7). -/
def sealEntry (c last lastLeaf count lost source : Nat) (value : List Byte) : List Byte :=
  [BitVec.ofNat 8 c, 0, 0, 0] ++ beBytes 6 last ++ beBytes 6 lastLeaf ++ beBytes 4 count ++ beBytes 4 lost ++ beBytes 8 source ++ value

/-- The last of a sequence that starts at 0, or all ones for none. -/
def lastOf (next : Nat) : Nat := if next = 0 then 2 ^ 48 - 1 else next - 1

/-- Store a formed seal; a ninth that waits for export gives up the oldest (R194). -/
def State.pushSeal (s : State) (x : Seal) : State :=
  let waiting := s.tally.seals.filter fun y => !y.dropped
  let s := s.modTally fun y => { y with seals := y.seals ++ [x], lastHash := sha256 x.message, lastHead := none }
  let s := (s.set Reg.TALLY_SEAL_INDEX_LO_INDEX (x.index % 2 ^ 32)).set Reg.TALLY_SEAL_INDEX_HI_INDEX (x.index / 2 ^ 32)
  if waiting.length < 8 then s
  else
    let oldest := (waiting.map (·.index)).headD 0
    let marked := s.tally.seals.map fun (z : Seal) => if z.index = oldest then { z with dropped := true } else z
    (s.modTally fun y => { y with seals := marked.filter fun z => !(z.dropped && z.slot.isSome) }).on Reg.TALLY_STATUS_SEAL_DROP

/-- The index of the last seal formed. -/
def State.sealIndex (s : State) : Nat := s.get Reg.TALLY_SEAL_INDEX_HI_INDEX * 2 ^ 32 + s.get Reg.TALLY_SEAL_INDEX_LO_INDEX

/-- The last SEAL_INDEX formed here or received from the peer (Table 20-6). (DEDUCED, log 48.) -/
def State.lastSealIndex (s : State) : Nat := s.tally.lastHead.getD s.sealIndex

/-- Form a START seal and restart every chain (R190, R192); `lost` are the records lost since its instant. -/
def State.formStart (s : State) (fields : List Byte) (lost : SMap Nat) : State :=
  let newest := s.newestHead fun _ => true
  let index := match newest with | some h => beAt h.2 0 8 + 1 | none => 0
  let prev := match newest with | some h => slice h.2 8 32 | none => zeros 32
  let fin := match s.tally.finals, newest with
    | some (i, m), some h => if beAt h.2 0 8 = i then some (i, m) else none
    | _, _ => none
  let entry (c : Nat) : List Byte :=
    let src := match fin with | some (i, m) => (mapGet m c (2 ^ 48 - 1), i) | none => s.chainSource c
    sealEntry c src.1 0 0 0 src.2 (zeros 32)
  let msg := sealHeader true false index s.tally.nextSlot prev fields ++ (List.range 256).flatMap entry
  let s := s.modTally fun y => { y with chains := lost.map fun e => (e.1, { chain0 with lost := e.2 }), running := true }
  s.pushSeal ⟨index, false, true, msg, none, false, none, false⟩

/-- Form a seal of the running chains: every open leaf closes (R189, R191). -/
def State.formSeal (s : State) (final : Bool) (fields : List Byte) : State :=
  let index := s.sealIndex + 1
  let s := s.modTally fun y => { y with chains := y.chains.map fun e => (e.1, closeLeaf e.2) }
  let entry (c : Nat) : List Byte :=
    let x := s.chain c
    sealEntry c (lastOf x.nextSeq) (lastOf x.nextLeaf) x.count x.lost 0 x.value
  let msg := sealHeader false final index s.tally.nextSlot s.tally.lastHash fields ++ (List.range 256).flatMap entry
  let lasts := (List.range 256).map fun c => (c, lastOf (s.chain c).nextSeq)
  let s := s.modTally fun y => { y with
    chains := y.chains.map fun e => (e.1, { e.2 with count := 0, lost := 0 })
    running := !final
    finals := if final then some (index, lasts) else y.finals }
  s.pushSeal ⟨index, final, false, msg, none, false, none, false⟩

/-- A FINAL seal or its head is still to come (R190). -/
def State.finalDue (s : State) : Bool :=
  s.tally.waits.any (fun w => !w.start) || s.tally.seals.any fun x => x.final && x.slot.isNone

/-- Form the START seal that waits first, when the FINAL seal before it has its head (R190). (DESIGN CHOICE, log 58.) -/
def State.tryStart (s : State) : State :=
  match s.tally.waits with
  | w :: rest =>
    if w.start && s.sealEngine && !s.tally.seals.any (fun x => x.final && x.slot.isNone) then
      State.formStart (s.modTally fun y => { y with waits := rest }) w.header w.lost
    else s
  | [] => s

/-- ENABLE goes from 0 to 1 (R190): the seal grid starts now. -/
def State.tallyOn (s : State) : State :=
  State.tryStart (s.modTally fun y => { y with lastSeal := s.cycle, waits := y.waits ++ [⟨true, 0, s.sealInstantFields, []⟩] })

/-- ENABLE goes from 1 to 0: the FINAL seal's instant, after which no record and no gap record is made (R190). -/
def State.tallyOff (s : State) : State :=
  let covered := (s.tally.waits.map (·.left)).sum
  s.modTally fun y => { y with gaps := [], waits := y.waits ++ [⟨false, y.burst.length - covered, s.sealInstantFields, []⟩] }

/-- The FINAL seal is formed when the last record before the disable has been taken (R190). -/
def State.formFinal (s : State) : State :=
  match s.tally.waits with
  | w :: rest =>
    if !w.start && w.left = 0 && s.tally.running && s.sealEngine then
      State.tryStart (State.formSeal (s.modTally fun y => { y with waits := rest }) true w.header)
    else s
  | [] => s

/-- A seal instant (R189). -/
def State.sealInstant (s : State) : State :=
  if s.sealDue then
    let at_ := s.nextSeal
    State.formSeal (s.modTally fun y => { y with lastSeal := at_ }) false s.sealInstantFields
  else s

/-- PERIOD_US has changed: an instant that has passed is taken at once, and the grid continues from it (R189). -/
def State.periodChanged (s : State) : State :=
  if s.sealDue then
    State.formSeal (s.modTally fun y => { y with lastSeal := s.cycle }) false s.sealInstantFields
  else s

/-- Change the seal with an index. -/
def State.modSeal (s : State) (index : Nat) (f : Seal → Seal) : State :=
  s.modTally fun y => { y with seals := y.seals.map fun x => if x.index = index then f x else x }

/-- The signing unit signs the newest seal whose head is written; older unsigned ones are superseded (R193, R493). (DESIGN CHOICE, log 58.) -/
def State.sealSign (s : State) : State :=
  let can := s.tally.seals.filter fun x => x.signature.isNone && !x.superseded && x.slot.isSome
  match can.getLast? with
  | none => s
  | some x =>
    let old := s.tally.seals.filter fun y => y.index < x.index && y.signature.isNone && !y.superseded
    let s := if old.isEmpty then s else s.on Reg.TALLY_STATUS_UNSIGNED
    let s := s.modTally fun t => { t with seals := t.seals.map fun y =>
      if y.index < x.index && y.signature.isNone then { y with superseded := true } else y }
    if s.keyUsable then
      (s.modSeal x.index fun y => { y with signature := some (padTo 384 (Config.sign s.sec.draws y.message)) }).modSec
        fun y => { y with draws := y.draws + 1 }
    else (s.modSeal x.index fun y => { y with superseded := true }).on Reg.TALLY_STATUS_UNSIGNED

/-- A seal is exported into the backing ring (R194). -/
def State.sealExport (s : State) : State :=
  match s.tally.seals.find? fun x => !x.dropped with
  | some x =>
    if x.slot.isNone || !(x.signature.isSome || x.superseded) || !s.ringRoomFor 265 0 || !s.dramServes then s
    else
      let body := x.message ++ x.signature.getD (zeros 384)
      let mark := [0x40, BitVec.ofNat 8 (b2n x.signature.isSome)] ++ zeros 6 ++ beBytes 8 x.index ++ beBytes 4 264 ++ zeros 44
      let s := s.ringAppend mark
      let s := (List.range 264).foldl (fun s i => s.ringAppend (slice body (64 * i) 64)) s
      s.modTally fun y => { y with seals := y.seals.filter fun z => z.index != x.index }
  | none => s

/-- Write a head into the next slot (R195). -/
def State.writeHead (s : State) (head : List Byte) : State :=
  let slot := s.tally.nextSlot
  let s := s.modTally fun y => { y with heads := mapPut y.heads slot head }
  s.modTally fun y => { y with nextSlot := s.slotFrom (slot + 1) }

/-- A read-back differs: the slot is retired (R195). (DESIGN CHOICE, log 58.) -/
def State.retireSlot (s : State) : State :=
  let slot := s.tally.nextSlot
  let s := s.modTally fun y => { y with retired := y.retired ++ [slot], heads := mapDel y.heads slot, retiredUnread := true }
  let s := s.modTally fun y => { y with nextSlot := s.slotFrom (slot + 1) }
  s.set Reg.TALLY_MRAM_RETIRED_RETIRED s.tally.retired.length

/-- A seal of the list takes an MRAM slot: its MRAM_SLOT changes its SEAL_HASH, and that the PREV_SEAL_HASH of every seal formed
after it (Table 6-6). `prev` is the hash of the seal before, once one has changed. -/
def relink (index slot : Nat) : Option (List Byte) → List Seal → List Seal
  | _, [] => []
  | prev, x :: l =>
    let m := match prev with | some h => patchAt x.message 32 h | none => x.message
    let m := if x.index = index then patchAt m 100 (beBytes 4 slot) else m
    { x with message := m } :: relink index slot (if x.index = index || prev.isSome then some (sha256 m) else none) l

/-- The seal with an index takes the next slot. -/
def State.fitSlot (s : State) (index : Nat) : State :=
  s.modTally fun y =>
    let l := relink index y.nextSlot none y.seals
    { y with seals := l, lastHash := match l.getLast? with | some z => sha256 z.message | none => y.lastHash }

/-- The oldest seal without a head has it written (R195); a retired slot changes the seal's MRAM_SLOT, and so its
hash. The head goes to the peer (Table 20-4), a yielding device's FINAL head also from outside ACTIVE (R530). (DESIGN CHOICE, log 58.) -/
def State.headWrite (s : State) (ok : Bool) : State :=
  match s.tally.seals.find? fun x => x.slot.isNone with
  | none => s
  | some x =>
    let s := s.fitSlot x.index
    if !ok then s.retireSlot.fitSlot x.index
    else
      let slot := s.tally.nextSlot
      let x := (s.tally.seals.find? fun y => y.index == x.index).getD x
      let head := headBytes x
      let s := s.writeHead head
      let s := (s.modSeal x.index fun y => { y with slot := some slot }).modTally fun y => { y with
        seals := y.seals.filter fun z => !(z.dropped && z.slot.isSome) }
      let s := if x.final && s.pair.yielded then (s.sendRecord 3 0 head).modPair fun p => { p with yielded := false }
        else s.mirror 0 head
      s.tryStart

/-- The heads of the formed seals are written, at most `n`. -/
def completeHeads : Nat → State → State
  | 0, s => s
  | n + 1, s => completeHeads n (s.headWrite true)

/-- The next step of the first START or FINAL seal that waits: a covered record is taken, or the seal is formed, without the records
that find no room in the ring. -/
def State.waitStep (s : State) : State :=
  match s.tally.waits with
  | w :: rest =>
    if w.start then s.tryStart
    else
      let t := if w.left = 0 then s else s.takeRecord
      if w.left = 0 || t.tally.burst.length < s.tally.burst.length then t.formFinal
      else State.formFinal (s.modTally fun y => { y with waits := { w with left := 0 } :: rest })
  | [] => s

/-- At most `n` steps of the waiting seals, with the heads of all that are formed. -/
def completeWaits : Nat → State → State
  | 0, s => completeHeads s.tally.seals.length s
  | n + 1, s => completeWaits n (State.waitStep (completeHeads s.tally.seals.length s))

/-- Every head whose seal instant has passed is written before state is lost (R50, R59, R64, R190, R195). (DEDUCED, log 87.) -/
def State.completeSeals (s : State) : State :=
  completeWaits (if s.tally.waits.isEmpty then 0 else s.tally.burst.length + 2 * s.tally.waits.length) s

/-- MRAM at start (R196): the rotation goes on behind the newest valid head, or at slot 0 without one. (DESIGN CHOICE, log 87.) -/
def State.scanHeads (s : State) : State :=
  let next := match s.newestHead fun _ => true with | some h => s.slotFrom (h.1 + 1) | none => s.slotFrom 0
  s.modTally fun y => { y with nextSlot := next }

/-! ### Export (R182, R187, Table 14-4) -/

/-- One entry goes from the backing ring to the export ring in ring order; one whose bursts are poisoned, or whose contents were
destroyed, is replaced. (DESIGN CHOICE, log 58.) -/
def State.exportEntry (s : State) (o : ReadOutcome) : State :=
  match s.tally.ring with
  | e :: rest =>
    if !s.ringRoom 61 1 || !s.canWrite || !s.funcUp .tally || !s.dramServes then s
    else
      let slot := s.tally.ringHead
      let place := slot % (s.get Reg.TALLY_RING_SIZE_UNITS * 65536)
      let (l, s) := s.dramRead 0 (tallyBurst place) 2 o
      let s := if e.lost && l.isEmpty then s.uncorrectable 0 (granuleOf (tallyBurst place)) else s
      let bad := e.lost || !l.isEmpty
      let s := if bad then s.on Reg.TALLY_STATUS_POISON else s
      let b := if bad then [0x30] ++ zeros 7 ++ beBytes 8 place ++ zeros 48 else e.bytes
      State.syncTally (State.ringWrite (s.modTally fun y => { y with ring := rest, ringHead := slot + 1 }) 61 b)
  | [] => s

/-! ### Register checks and effects of the TALLY page -/

/-- Refusals of the TALLY page beyond reserved bits (R519, R557, Tables 6-10, 6-11). -/
def tallyCheck (s : State) (off v : Nat) : Status :=
  match off with
  | 0x00 =>
    if bits v 8 4 == 0 then .range
    else if bitOf v 0 && (s.pairState == paStandby || s.pairState == paSyncing || !s.bit Reg.DRAM_CTRL_SERVICE) then .busy
    else .ok
  | 0x04 => if bits v 16 16 &&& bits v 0 16 != bits v 16 16 then .range else .ok
  | 0x08 => if bits v 0 8 < 1 || bits v 0 8 > 192 then .range else .ok
  | 0x0C => if bits v 0 17 < 100 || bits v 0 17 > 100000 then .range else .ok
  | 0x10 =>
    if bits v 0 11 < 1 || bits v 0 11 > 1024 then .range else if s.bit Reg.TALLY_CTRL_ENABLE then .busy else .ok
  | _ => .ok

/-- What an accepted write to the TALLY page does beyond its fields (R188 to R190). -/
def tallyEffect (old s : State) (off v : Nat) : State :=
  match off with
  | 0x00 =>
    let was := old.bit Reg.TALLY_CTRL_ENABLE
    State.syncTally (if bitOf v 0 && !was then s.tallyOn else if !bitOf v 0 && was then s.tallyOff else s)
  | 0x0C => if bits v 0 17 != old.get Reg.TALLY_SEAL_PERIOD_PERIOD_US then s.periodChanged else s
  | 0x10 => s.syncTally
  | 0x14 => s.syncTally
  | _ => s

/-- TALLY_MRAM_RETIRED is read (R199). -/
def State.retiredRead (s : State) : State := s.modTally fun y => { y with retiredUnread := false }

end Sys2Proof.Machine
end

