-- ==== Sys2Proof/Machine/Tm.lean ====
section
/-! DEFINITION. The traffic manager (R353 to R378): token buckets, policers, shapers and time gates with their commands. -/

namespace Sys2Proof.Machine

/-- Change the traffic manager's record. -/
def State.modTm (s : State) (f : TmSt → TmSt) : State := { s with tm := f s.tm }

/-! ### Token buckets (R353 to R355) -/

/-- Units of a bucket's level in one byte: the refill of one 1.5 GHz cycle, RATE / 12,000,000 bytes, is whole. -/
def byteUnits : Nat := 384000000

/-- The level now: refilled up to BURST since it was last stored. -/
def Bucket.fill (b : Bucket) (now : Nat) : Bucket :=
  if b.en then { b with level := min (b.burst * byteUnits : Nat) (b.level + (32 * b.rate * (now - b.at_) : Nat)), at_ := now }
  else { b with at_ := now }

/-- The bucket allows (R353): LEVEL, kept to 1/1,024 byte, is above 0; a bucket that is not enabled never holds back. (DESIGN CHOICE, log 33.) -/
def Bucket.allows (b : Bucket) : Bool := !b.en || decide (b.level ≥ (byteUnits / 1024 : Nat))

/-- Take `n` bytes from an enabled bucket; a negative `n` gives bytes back. -/
def Bucket.debit (b : Bucket) (n : Int) : Bucket :=
  if b.en then
    { b with level := max (-(16777216 * byteUnits : Nat)) (min (b.burst * byteUnits : Nat) (b.level - n * byteUnits)) }
  else b

/-- New settings (R354, R361): full when newly enabled, else LEVEL kept up to the new BURST. -/
def Bucket.setTo (b : Bucket) (now : Nat) (en : Bool) (rate burst : Nat) : Bucket :=
  let full : Int := (burst * byteUnits : Nat)
  { en := en, rate := rate, burst := burst, at_ := now, level := if en && !b.en then full else min full (b.fill now).level }

/-- LEVEL as a command returns it: bytes, rounded toward minus infinity. -/
def Bucket.bytes (b : Bucket) : Nat := ofSigned 32 (b.level / (byteUnits : Nat))

/-- The RATE and BURST checks of R361. -/
def bucketOk (en : Bool) (rate burst : Nat) : Bool :=
  if en then 1 ≤ rate && rate ≤ 400000000 && 64 ≤ burst && burst ≤ 16777215 else rate == 0 && burst == 0

/-! ### Policers (R356 to R361) -/

/-- A policer, refilled up to now. -/
def State.policer (s : State) (n : Nat) : Policer :=
  let p := mapGet s.tm.policers n policer0
  if p.bucket.en then { p with bucket := p.bucket.fill s.cycle } else p

/-- Store a policer. -/
def State.setPolicer (s : State) (n : Nat) (p : Policer) : State :=
  s.modTm fun t => { t with policers := mapSet t.policers n p policer0 }

/-- The policer of a frame (R356): its context's, else its MARK's. -/
def framePolicer (x : Frame) : Option Nat :=
  match x.polOver with | some n => some n | none => x.mark.policer

/-- Apply the debits that wait for a policer (R359). (DESIGN CHOICE, log 34.) -/
def Policer.takeDebits (p : Policer) : Policer :=
  if p.bucket.en then
    { p with
      bucket := p.debits.foldl (fun b n => b.debit n) p.bucket
      pass := (p.pass + p.debits.sum) % 2 ^ 64
      debits := [] }
  else { p with debits := [] }

/-- What an enabled policer decides of a frame (R357, R358). -/
def Policer.passes (p : Policer) (colour : Nat) : Bool :=
  !p.bucket.en || (!(p.aware && colour == 2) && p.bucket.allows)

/-- Bytes that a passing frame debits (R359). -/
def debitOf (x : Frame) : Nat := min x.bytes.length 16001

/-- A policer decides one frame. -/
def State.policeFrame (s : State) (n f : Nat) : State :=
  match s.frame f with
  | some x =>
    let p := s.policer n
    let pass := p.passes x.mark.colour
    let p := if !pass then { p with drops := min 0xFFFFFFFF (p.drops + 1) }
      else if x.ended then { p with debits := p.debits ++ [debitOf x] } else p
    (s.setPolicer n p).setFrame f { x with verdict := some pass }
  | none => s

/-- The position of a frame's requester in the order of R360: its pipe, or 64 for INJECT. -/
def requesterOf (x : Frame) : Nat := if x.port < 1024 then pipeOf x.port else 64

/-- One handshake of a policer with the decision requests `l` (R360): all debits, then the decisions in rotation. -/
def State.policerRun (s : State) (n : Nat) (l : List Nat) : State :=
  let p := (s.policer n).takeDebits
  let order := (rotation 65 p.start).flatMap fun k =>
    l.filter fun f => match s.frame f with | some x => requesterOf x == k | none => false
  let s := s.setPolicer n { p with start := if l.isEmpty then p.start else (p.start + 1) % 65 }
  order.foldl (fun s f => s.policeFrame n f) s

/-- The frames that wait for a decision of a policer; one of 63 bytes or fewer asks for none (R303). -/
def State.policerRequests (s : State) (n : Nat) : List Nat :=
  (s.path.frames.filter fun e => e.2.stage == .forwarded && e.2.bytes.length > 63 && e.2.verdict.isNone &&
    framePolicer e.2 == some n).map (·.1)

/-- One handshake with every request that waits (R360); none while TM is not UP. (DESIGN CHOICE, log 26.) -/
def State.policerHandshake (s : State) (n : Nat) : State := if s.funcUp .tm then s.policerRun n (s.policerRequests n) else s

/-- The policing of one frame at admission: the answer is in its verdict (R356). (DESIGN CHOICE, log 26.) -/
def State.police (s : State) (f : Nat) : State :=
  match s.frame f with
  | some x =>
    if x.verdict.isSome then s
    else match framePolicer x with
      | some n => if s.funcUp .tm then s.policerRun n [f] else s.setFrame f { x with verdict := some true }
      | none => s.setFrame f { x with verdict := some true }
  | none => s

/-- A passing frame's last byte has arrived: its debit waits for the next handshake (R359). -/
def State.policerDebit (s : State) (x : Frame) : State :=
  match framePolicer x with
  | some n => if x.verdict == some true && s.funcUp .tm then s.setPolicer n { s.policer n with debits := (s.policer n).debits ++ [debitOf x] } else s
  | none => s

/-- A policer entry is well formed (R361, Table 13-1). (DESIGN CHOICE, log 34.) -/
def policerOk (b : List Byte) : Bool :=
  leAt b 2 1 < 4 && leAt b 3 1 == 0 && leAt b 12 4 == 0 && leAt b 16 4 == 0 &&
  bucketOk (bitOf (leAt b 2 1) 0) (leAt b 4 4) (leAt b 8 4)

/-- Write one policer from its entry. (DESIGN CHOICE, log 34.) -/
def State.putPolicer (s : State) (b : List Byte) : State :=
  let n := leAt b 0 2
  let p := s.policer n
  s.setPolicer n { p with
    bucket := p.bucket.setTo s.cycle (bitOf (leAt b 2 1) 0) (leAt b 4 4) (leAt b 8 4), aware := bitOf (leAt b 2 1) 1 }

/-- TM_POLICER_SET (R361). -/
def corePolicerSet (c : CmdIn) (s : State) : CmdRes × State :=
  if policerOk c.input then (CmdRes.ok, (s.putPolicer c.input).mirrorItem 0x40 c.input fun w => w.1 == 0x40 && w.2 == c.input.take 2) else (CmdRes.input, s)

/-- A policer as an entry (Table 13-1). -/
def policerBytes (n : Nat) (p : Policer) : List Byte :=
  leBytes 2 n ++ [BitVec.ofNat 8 (b2n p.bucket.en + 2 * b2n p.aware), 0] ++ leBytes 4 p.bucket.rate ++ leBytes 4 p.bucket.burst ++
  zeros 4 ++ leBytes 4 p.bucket.bytes ++ leBytes 4 p.drops ++ leBytes 8 p.pass

/-- TM_POLICER_READ (R361). -/
def corePolicerRead (c : CmdIn) (s : State) : CmdRes × State :=
  let n := c.param % 65536
  let p := s.policer n
  ({ CmdRes.ok with result := policerBytes n p }, if bitOf c.flags 0 then s.setPolicer n { p with drops := 0, pass := 0 } else s)

/-! ### Shapers (R366 to R368) -/

/-- A shaper, refilled up to now. -/
def State.shaper (s : State) (n : Nat) : Bucket :=
  let b := mapGet s.tm.shapers n bucket0
  if b.en then b.fill s.cycle else b

/-- Store a shaper. -/
def State.setShaper (s : State) (n : Nat) (b : Bucket) : State :=
  s.modTm fun t => { t with shapers := mapSet t.shapers n b bucket0 }

/-- The index of a port's shaper. -/
def portShaper (p : Nat) : Nat := 16384 + p

/-- A shaper index names a shaper of a port (R368, R72). -/
def State.shaperIndexOk (s : State) (n : Nat) : Bool :=
  if n < 16384 then s.isPort (n / 16) else n < 17408 && s.isPort (n - 16384)

/-- Write one shaper from its entry. -/
def State.putShaper (s : State) (b : List Byte) : State :=
  let n := leAt b 0 2
  s.setShaper n ((s.shaper n).setTo s.cycle (bitOf (leAt b 2 1) 0) (leAt b 4 4) (leAt b 8 4))

/-- TM_SHAPER_SET (R368, Table 13-3). -/
def coreShaperSet (c : CmdIn) (s : State) : CmdRes × State :=
  let b := c.input
  if s.shaperIndexOk (leAt b 0 2) && leAt b 2 1 < 2 && leAt b 3 1 == 0 && leAt b 12 4 == 0 &&
      bucketOk (bitOf (leAt b 2 1) 0) (leAt b 4 4) (leAt b 8 4)
  then (CmdRes.ok, (s.putShaper b).mirrorItem 0x42 b fun w => w.1 == 0x42 && w.2 == b.take 2) else (CmdRes.input, s)

/-- TM_SHAPER_READ (R368). -/
def coreShaperRead (c : CmdIn) (s : State) : CmdRes × State :=
  let n := c.param
  if !s.shaperIndexOk n then (CmdRes.field, s)
  else
    let b := s.shaper n
    let e := leBytes 2 n ++ [BitVec.ofNat 8 (b2n b.en), 0] ++ leBytes 4 b.rate ++ leBytes 4 b.burst ++ leBytes 4 b.bytes
    ({ CmdRes.ok with result := e }, s)

/-- Debit the shapers of a queue and of its port (R367). -/
def State.shaperDebit (s : State) (queue : Nat) (n : Int) : State :=
  let s := s.setShaper queue ((s.shaper queue).debit n)
  s.setShaper (portShaper (queue / 16)) ((s.shaper (portShaper (queue / 16))).debit n)

/-! ### Gate lists (R369, R370) -/

/-- A port's gates. -/
def State.gate (s : State) (p : Nat) : GateSt := mapGet s.tm.gates p gate0

/-- Store a port's gates. -/
def State.setGate (s : State) (p : Nat) (g : GateSt) : State := s.modTm fun t => { t with gates := mapSet t.gates p g gate0 }

/-- The segments of a cycle as (start in ns, gates): entries that begin at or after the end of the cycle are cut off. -/
def segmentsFrom (cycle : Nat) : List (Nat × Nat) → Nat → List (Nat × Nat)
  | [], _ => []
  | (g, n) :: l, off => if off < cycle then (off, g) :: segmentsFrom cycle l (off + n) else []

/-- The segments of a list. -/
def GateList.segments (g : GateList) : List (Nat × Nat) := segmentsFrom g.cycleNs g.entries 0

/-- The position in the cycle at a time, in 2^−16 ns. -/
def GateList.phase (g : GateList) (t : Int) : Nat := ((t - g.start) % ((g.cycleNs * 65536 : Nat) : Int)).toNat

/-- The entry in force at a time. -/
def GateList.entryAt (g : GateList) (t : Int) : Nat :=
  (g.segments.filter fun e => e.1 * 65536 ≤ g.phase t).length - 1

/-- The gate states in force at a time. -/
def GateList.gatesAt (g : GateList) (t : Int) : Nat := (g.segments.getD (g.entryAt t) (0, 0xFFFF)).2

/-- The gate of queue `q` is open at a time. -/
def GateList.openAt (g : GateList) (q : Nat) (t : Int) : Bool := bitOf (g.gatesAt t) q

/-- The instant at which the list next closes the gate of queue `q` after a time at which it is open; none when it
never does. -/
def GateList.closeAfter (g : GateList) (q : Nat) (t : Int) : Option Int :=
  let ph := g.phase t
  let closed := (g.segments.filter fun e => !bitOf e.2 q).map (·.1 * 65536)
  match closed.find? (· > ph) with
  | some c => some (t + ((c : Int) - ph))
  | none => closed.head?.map fun c => t + ((c + g.cycleNs * 65536 : Nat) : Int) - ph

/-- The longest window of queue `q` in the list, in 2^−16 ns: none for a gate that never closes, 0 for one that never
opens. -/
def GateList.longest (g : GateList) (q : Nat) : Option Nat :=
  if g.segments.all fun e => bitOf e.2 q then none
  else some ((g.segments.filter fun e => bitOf e.2 q).foldl (fun a e =>
    match g.closeAfter q ((g.start + e.1 * 65536 : Nat) : Int) with
    | some c => max a (c - ((g.start + e.1 * 65536 : Nat) : Int)).toNat
    | none => a) 0)

/-- The list in force on a port at a time: the committed one from its start time, else the active one (R374). -/
def GateSt.listAt (g : GateSt) (t : Int) : Option GateList :=
  match g.committed with
  | some c => if (c.start : Int) ≤ t then (if c.enable then some c else none) else g.active
  | none => g.active

/-- The end of queue `q`'s window that is open at a time (R370); none when nothing closes it. -/
def GateSt.windowEnd (g : GateSt) (q : Nat) (t : Int) : Option Int :=
  match g.listAt t with
  | none => match g.committed with
    | some c =>
      if (c.start : Int) ≤ t || !c.enable then none
      else if c.openAt q c.start then c.closeAfter q c.start else some c.start
    | none => none
  | some l =>
    let e := l.closeAfter q t
    match g.committed with
    | some c =>
      if (c.start : Int) ≤ t then e
      else match e with
        | some x =>
          if x < c.start then e
          else if !c.enable then none
          else if c.openAt q c.start then c.closeAfter q c.start else some c.start
        | none =>
          if !c.enable then none
          else if c.openAt q c.start then c.closeAfter q c.start else some c.start
    | none => e

/-- An occupancy of `len` (2^−16 ns) from stamp point `t` lies in an open window of queue `q`, or gating is off (R371). -/
def GateSt.fits (g : GateSt) (q : Nat) (t : Int) (len : Nat) : Bool :=
  (match g.listAt t with | some l => l.openAt q t | none => true) &&
  (match g.windowEnd q t with | some e => decide (t + len ≤ e) | none => true)

/-- A charged length of a queue fits no window of its gate, which opens at least once a cycle (R372). -/
def GateSt.neverFits (g : GateSt) (q : Nat) (t : Int) (len : Nat) : Bool :=
  match g.listAt t with
  | some l => match l.longest q with
    | some n => n != 0 && decide (len > n)
    | none => false
  | none => false

/-- TM_GATE_STATUS shows the list now active (Table 13-9). -/
def State.syncGate (s : State) (p : Nat) : State :=
  let g := s.gate p
  let t : Int := s.presTicks
  let s := s.setB (Reg.TM_GATE_STATUS_PENDING p) g.committed.isSome
  match g.active with
  | some l => ((s.on (Reg.TM_GATE_STATUS_ENABLED p)).set (Reg.TM_GATE_STATUS_GATES p) (l.gatesAt t)).set
      (Reg.TM_GATE_STATUS_ENTRY p) (l.entryAt t)
  | none => ((s.off (Reg.TM_GATE_STATUS_ENABLED p)).set (Reg.TM_GATE_STATUS_GATES p) 0xFFFF).set (Reg.TM_GATE_STATUS_ENTRY p) 0

/-! ### Gate commands and events (R373 to R376) -/

/-- The entries of a bank of a port. -/
def GateSt.bank (g : GateSt) (n : Nat) : SMap (Nat × Nat) := if n = 0 then g.bank0 else g.bank1

/-- Replace a bank. -/
def GateSt.setBank (g : GateSt) (n : Nat) (m : SMap (Nat × Nat)) : GateSt :=
  if n = 0 then { g with bank0 := m } else { g with bank1 := m }

/-- The pending bank of a port. -/
def State.pendingBank (s : State) (p : Nat) : Nat := 1 - s.get (Reg.TM_GATE_STATUS_ACTIVE_BANK p)

/-- A command's PARAM at the head of a mirror record whose entry does not name its object. -/
def paramBytes (param : Nat) : List Byte := beBytes 4 param ++ zeros 4

/-- Write gate entries into the pending bank from entry `first` on. -/
def State.putGates (s : State) (p first : Nat) (b : List Byte) : State :=
  let bank := s.pendingBank p
  let g := s.gate p
  let m := (List.range (b.length / 8)).foldl (fun m i =>
    mapSet m (first + i) (leAt b (8 * i) 2, leAt b (8 * i + 4) 4) (0, 0)) (g.bank bank)
  s.setGate p (g.setBank bank m)

/-- TM_GCL_WRITE (R373, R375). (DESIGN CHOICE, log 35.) -/
def coreGclWrite (c : CmdIn) (s : State) : CmdRes × State :=
  let p := c.param % 1024
  let first := bits c.param 16 8
  let n := c.input.length / 8
  if !s.isPort p || first + n > 256 then (CmdRes.field, s)
  else if !(List.range n).all (fun i => leAt c.input (8 * i + 2) 2 == 0) then (CmdRes.input, s)
  else if (s.gate p).committed.isSome then (CmdRes.of .busy, s)
  else (CmdRes.ok, (s.putGates p first c.input).mirrorItem 0x44 (paramBytes c.param ++ c.input) fun w => w.1 == 0x44 && w.2 == beBytes 2 p)

/-- The first `n` entries of the pending bank. -/
def State.pendingEntries (s : State) (p n : Nat) : List (Nat × Nat) :=
  (List.range n).map fun i => mapGet ((s.gate p).bank (s.pendingBank p)) i (0, 0)

/-- The parameters of a commit are well formed (R375, Table 13-5). (DESIGN CHOICE, log 35.) -/
def State.commitOk (s : State) (b : List Byte) : Bool :=
  let p := leAt b 0 2
  let n := leAt b 2 2
  s.isPort p && 1 ≤ n && n ≤ 256 && leAt b 4 1 < 2 && leAt b 5 3 == 0 && leAt b 8 4 == 0 &&
  1 ≤ leAt b 24 4 && leAt b 24 4 ≤ 1000000000 && leAt b 28 4 == 0 &&
  (s.pendingEntries p n).all fun e => 1 ≤ e.2 && e.2 ≤ 1000000000

/-- The start time of a commit (R373): BASE_TIME when it is at least 2 µs ahead, else the first later cycle that is. -/
def gateStart (base cycleNs now : Nat) : Nat :=
  let need := now + 2000 * 65536
  if base ≥ need then base else base + ceilDiv (need - base) (cycleNs * 65536) * (cycleNs * 65536)

/-- Commit the pending bank of a port with a start time. -/
def State.putCommit (s : State) (b : List Byte) (start : Nat) : State :=
  let p := leAt b 0 2
  let l : GateList := ⟨s.pendingEntries p (leAt b 2 2), leAt b 24 4, start, bitOf (leAt b 4 1) 0⟩
  State.syncGate (s.setGate p { s.gate p with committed := some l }) p

/-- TM_GCL_COMMIT (R373, R375). (DESIGN CHOICE, log 35.) -/
def coreGclCommit (c : CmdIn) (s : State) : CmdRes × State :=
  let b := c.input
  let p := leAt b 0 2
  if !s.commitOk b then (CmdRes.input, s)
  else if (s.gate p).committed.isSome || (bitOf (leAt b 4 1) 0 && s.presNone) then (CmdRes.of .busy, s)
  else
    let base := stampTime (leAt b 8 16)
    let start := gateStart base (leAt b 24 4) s.presTicks
    let st := leBytes 16 (stampOf start 0)
    let late := start != base
    let s := (s.putCommit b start).mirrorItem 0x45 (patchAt b 8 st) fun w => w.1 == 0x44 && w.2 == beBytes 2 p
    let s := if late then
        (((s.on Reg.TM_STATUS_GATE_ADJUSTED).satAdd Reg.TM_GATE_ADJUST_CNT_COUNT 1).off Reg.TM_GATE_LOC_KIND).set Reg.TM_GATE_LOC_QUEUE p
      else s
    ({ CmdRes.ok with result := st ++ [BitVec.ofNat 8 (b2n late)] }, s)

/-- Withdraw the committed list of a port. -/
def State.dropCommit (s : State) (p : Nat) : State := State.syncGate (s.setGate p { s.gate p with committed := none }) p

/-- TM_GCL_CANCEL (R375). -/
def coreGclCancel (c : CmdIn) (s : State) : CmdRes × State :=
  let p := c.param % 1024
  if !s.isPort p then (CmdRes.field, s)
  else if (s.gate p).committed.isNone then (CmdRes.of .notFound, s)
  else (CmdRes.ok, (s.dropCommit p).mirrorItem 0x46 (paramBytes c.param) fun w => w.1 == 0x44 && w.2 == beBytes 2 p)

/-- TM_GCL_READ (R375): the entries of the active or the pending bank, and the COUNT of the list that uses it. -/
def coreGclRead (c : CmdIn) (s : State) : CmdRes × State :=
  let p := c.param % 1024
  let pending := bitOf c.param 16
  if !s.isPort p then (CmdRes.field, s)
  else
    let g := s.gate p
    let m := g.bank (if pending then s.pendingBank p else 1 - s.pendingBank p)
    let l := if pending then g.committed else g.active
    ({ CmdRes.ok with
        result := leBytes 2 (match l with | some x => x.entries.length | none => 0)
        out := (List.range 256).flatMap fun i => leBytes 2 (mapGet m i (0, 0)).1 ++ zeros 2 ++ leBytes 4 (mapGet m i (0, 0)).2 }, s)

/-- The start time of a committed list has come (R374). -/
def State.gateListStart (s : State) (p : Nat) : State :=
  let g := s.gate p
  match g.committed with
  | some c =>
    if s.presTicks < c.start then s
    else
      let s := s.setGate p { g with active := if c.enable then some c else none, committed := none }
      (s.set (Reg.TM_GATE_STATUS_ACTIVE_BANK p) (1 - s.get (Reg.TM_GATE_STATUS_ACTIVE_BANK p))).syncGate p
  | none => s

/-- The active list moves to the entry that its time calls for (R369). -/
def State.gateEntryChange (s : State) (p : Nat) : State := if (s.gate p).active.isSome then s.syncGate p else s

/-- Presentation time has returned to NONE: every list is discarded (R376). (DESIGN CHOICE, log 35.) -/
def State.suspendGates (s : State) : State :=
  let ports := s.tm.gates.map (·.1)
  let s := ports.foldl (fun s p => State.syncGate (s.setGate p { s.gate p with active := none, committed := none }) p) s
  s.on Reg.TM_STATUS_GATE_SUSPENDED

/-- Refusals of the TM page beyond reserved bits (Tables 13-7 and 13-8). -/
def tmCheck (_ : State) (off v : Nat) : Status :=
  if off ≥ 0x10000 then (if bits v 8 8 == 0 then .range else .ok)
  else if off ≥ 0x1000 && off % 0x10 == 0 then (if 64 ≤ bits v 0 7 && bits v 0 7 < 96 then .range else .ok)
  else .ok

end Sys2Proof.Machine
end

