-- ==== Sys2Proof/Machine/Queues.lean ====
section
/-! DEFINITION. Copies and rods (R312, R313, R328 to R352): what copies a frame makes, replication and the residue, the
link stage, mirror sessions, discards, port flushes, stuck copies, multicast groups, and the spill tier (R319 to R325). -/

namespace Sys2Proof.Machine

/-- Change the path's record. -/
def State.modPath (s : State) (f : PathSt → PathSt) : State := { s with path := f s.path }

/-- A copy. -/
def State.copy (s : State) (c : Nat) : Option Copy := mapFind s.path.copies c

/-- Store a copy. -/
def State.setCopy (s : State) (c : Nat) (x : Copy) : State := s.modPath fun p => { p with copies := mapPut p.copies c x }

/-- The global queue index of a copy (R328). -/
def Copy.rod (x : Copy) : Nat := x.egress * 16 + x.queue

/-- A rod, head first. -/
def State.rod (s : State) (q : Nat) : List Nat := mapGet s.path.rods q []

/-- The waiting copies of a rod (R338). -/
def State.residue (s : State) (q : Nat) : List Nat := mapGet s.path.residue q []

/-- Add to a counter of the port that owns a lane number; a lane of a disabled octet counts nowhere (R73). -/
def State.countLane (s : State) (n i k : Nat) : State :=
  match s.portOfLane n with | some p => s.count p i k | none => s

/-- A kind of copy that mirrors. -/
def CopyKind.isMirror : CopyKind → Bool
  | .ingMirror _ _ | .egrMirror _ _ _ _ => true
  | _ => false

/-- The session of a mirror copy. -/
def CopyKind.session : CopyKind → Nat
  | .ingMirror n _ => n
  | .egrMirror n _ _ _ => n
  | _ => 0

/-! ### The copies of a frame (R312, R313, R336, R341, R544, R549) -/

/-- The session that yields a copy in a direction (0 ingress, 1 egress), with its port and queue (R341, R538). (DESIGN CHOICE, log 68.) -/
def State.session (s : State) (n dir : Nat) : Option (Nat × Nat × Nat) :=
  let d := s.get (Reg.MIRROR_SESSION_CTRL_DIR n)
  let p := s.get (Reg.MIRROR_SESSION_CTRL_DEST_PORT n)
  if s.bit (Reg.MIRROR_SESSION_CTRL_EN n) && (d == 2 || d == dir) && !(s.spanOn && 960 ≤ p) then
    some (n, p, s.get (Reg.MIRROR_SESSION_CTRL_QUEUE n))
  else none

/-- The egress mirror copy of a copy for a port. -/
def State.egressMirror (s : State) (p : Nat) : Option (Nat × Nat × Nat) :=
  if s.bit (Reg.MIRROR_PORT_CFG_EGR_EN p) then s.session (s.get (Reg.MIRROR_PORT_CFG_EGR_SESSION p)) 1 else none

/-- The ingress mirror copy of a frame. -/
def State.ingressMirror (s : State) (x : Frame) : List CopyPlan :=
  let m := if x.inject.isSome then none
    else if x.mark.mirror != 0 then s.session (x.mark.mirror - 1) 0
    else if s.bit (Reg.MIRROR_PORT_CFG_ING_EN x.port) then s.session (s.get (Reg.MIRROR_PORT_CFG_ING_SESSION x.port)) 0
    else none
  match m with
  | some (n, p, q) => [⟨.ingMirror n 0, p, q, none⟩]
  | none => []

/-- The destination copy for a local port. -/
def State.destPlan (s : State) (x : Frame) (p : Nat) : CopyPlan := ⟨.dest, p, x.mark.queue, s.egressMirror p⟩

/-- The wired span groups: 0 for lane group 30 and 1 for 31 (Table 21-3). -/
def State.wiredGroups (s : State) : List Nat :=
  [0, 1].filter fun g => s.spanOn && bitOf (s.get Reg.SPAN_CTRL_GROUP_EN) (1 - g)

/-- The wired groups by span peer: each its own peer in a board of pairs, one peer in a two-device switch (R540). (DESIGN CHOICE, log 68.) -/
def State.spanPeers (s : State) : List (List Nat) :=
  let w := s.wiredGroups
  if s.die.straps.pairEn then w.map fun g => [g] else if w.isEmpty then [] else [w]

/-- The span ports of a group. -/
def spanPorts (g : Nat) : List Nat := [0, 8, 16, 24].map (960 + 32 * g + ·)

/-- The logical ingress port of a frame; all ones for an injected one. (DESIGN CHOICE, log 68.) -/
def State.logicalIngress (s : State) (x : Frame) : Nat :=
  match x.spanIn with
  | some n => n
  | none => if x.inject.isSome then 0xFFFF else s.logical x.port

/-- The span copy to one peer: the port by the logical ingress port over those UP; with none left, PEER_DOWN is set and
the copy goes to a port that is down (R544). (DESIGN CHOICE, log 68.) -/
def State.spanPlan (s : State) (x : Frame) (group : Bool) (dest : Nat) (groups : List Nat) : CopyPlan × State :=
  let ports := groups.flatMap spanPorts
  let up := ports.filter s.portUp
  let l := if up.isEmpty then ports else up
  let p := l.getD (s.logicalIngress x % l.length) 960
  let s := if up.isEmpty then groups.foldl (fun s g => s.putBit Reg.SPAN_STATUS_PEER_DOWN g true) s else s
  (⟨.span group dest, p, x.mark.queue, none⟩, s)

/-- The span copies to several peers. -/
def spanPlans (x : Frame) (group : Bool) (dest : Nat) : List (List Nat) → State → List CopyPlan × State
  | [], s => ([], s)
  | g :: l, s =>
    let r := s.spanPlan x group dest g
    let q := spanPlans x group dest l r.2
    (r.1 :: q.1, q.2)

/-- The members of a group. -/
def State.members (s : State) (g : Nat) : List Nat := (mapGet s.mcast.groups g (0, [])).2

/-- The peers that report members of a group (R549). -/
def State.groupPeers (s : State) (g : Nat) : List (List Nat) :=
  s.spanPeers.filter fun l => l.any fun k => mapGet s.span.members (k * 65536 + g) 0 != 0

/-- The copies of a frame in the order of R336; those across a span follow the local ones. (DESIGN CHOICE, log 68.) -/
def State.planCopies (s : State) (x : Frame) : List CopyPlan × State :=
  let first := s.ingressMirror x
  match x.destKind with
  | 0 =>
    if s.isLocal x.dest then (first ++ [s.destPlan x (x.dest - s.logicalBase)], s)
    else
      let r := spanPlans x false x.dest s.spanPeers s
      (first ++ r.1, r.2)
  | 1 =>
    let dests := (s.members x.dest).filter fun p => p != x.port || x.spanIn.isSome || s.bit (Reg.FDB_PORT_CFG_HAIRPIN p)
    let own := dests.map (s.destPlan x)
    if x.spanIn.isSome then (first ++ own, s)
    else
      let r := spanPlans x true x.dest (s.groupPeers x.dest) s
      (first ++ own ++ r.1, r.2)
  | 2 => (first, s)
  | _ => ([], s)

/-- The first `n` copies of a plan, egress mirrors counted, and the egress ports of the copies not made (R313). -/
def limitCopies : Nat → List CopyPlan → List CopyPlan × List Nat
  | _, [] => ([], [])
  | 0, p :: l =>
    let r := limitCopies 0 l
    ([], p.egress :: (match p.mirror with | some m => [m.2.1] | none => []) ++ r.2)
  | n + 1, p :: l =>
    match p.mirror with
    | none => let r := limitCopies n l; (p :: r.1, r.2)
    | some m => match n with
      | 0 => let r := limitCopies 0 l; ({ p with mirror := none } :: r.1, m.2.1 :: r.2)
      | k + 1 => let r := limitCopies k l; (p :: r.1, r.2)

/-- Copies of a plan, egress mirrors counted. -/
def planSize (l : List CopyPlan) : Nat := (l.map fun p => 1 + b2n p.mirror.isSome).sum

/-- The lookup has fixed a frame's copies: every bead takes their number as its count (R312, R313). (DESIGN CHOICE, log 23.) -/
def State.fixCopies (s : State) (f : Nat) : State :=
  match s.frame f with
  | some x =>
    let (l, s) := s.planCopies x
    let (plan, extra) := limitCopies 255 l
    let n := planSize plan + b2n (x.punt != 0)
    let s := extra.foldl (fun s p => ((s.countLane p 61 1).satAdd Reg.BUF_REF_LIMIT_CNT_COUNT 1).on Reg.BUF_STATUS_REF_LIMIT) s
    let s := s.setCounts x.beads n
    let ver := if x.destKind = 1 then some (x.dest, (mapGet s.mcast.groups x.dest (0, [])).1) else none
    let s := s.setFrame f { x with plan := plan, copies := n, group := ver }
    match mapFind s.host.inject f with
    | some r =>
      let lost := ((l.drop plan.length).filter fun p => !p.kind.isMirror).length
      let left := (plan.filter fun p => !p.kind.isMirror).length
      s.modHost fun h => { h with inject := mapPut h.inject f { r with left := left, lost := lost, detail := if lost = 0 then 0 else 9 } }
    | none => s
  | none => s

/-! ### The end of a frame and of inject descriptors -/

/-- An inject descriptor has ended: its completion (R154, R446). -/
def State.finishInject (s : State) (f : Nat) (r : InjectRun) : State :=
  let s := s.modHost fun h => { h with inject := mapDel h.inject f }
  let cq := s.get (Reg.RING_CFG_CQ r.ring)
  if !bitOf r.flags 0 && !bitOf r.flags 2 then s.modRing cq fun x => { x with reserved := x.reserved - 1 }
  else
    let st := if r.lost > 0 then Status.retry else if r.stampLost then .stampLost else .ok
    let stamp := if st == .ok && bitOf r.flags 0 then r.stamp.getD 0 else 0
    let e := injectEntry s.attention st r.ring (if r.lost > 0 then r.detail else 0) r.lost r.tag r.descIndex stamp
    (s.postCompletion cq true e).modHost fun h => { h with completion := e }

/-- Store an inject descriptor's record, or end it when nothing of it is left. -/
def State.putInject (s : State) (f : Nat) (r : InjectRun) : State :=
  if r.left = 0 && !r.stampWait then s.finishInject f r else s.modHost fun h => { h with inject := mapPut h.inject f r }

/-- One copy of an injected frame has been transmitted, or is lost with a DETAIL; the one copy of a stamp-requesting descriptor
(R156), once lost, yields no stamp. -/
def State.injectCopy (s : State) (f : Nat) (lost : Option Nat) : State :=
  match mapFind s.host.inject f with
  | some r =>
    s.putInject f (match lost with
      | some d => { r with left := r.left - 1, lost := r.lost + 1, detail := if r.lost = 0 then d else r.detail, stampWait := false }
      | none => { r with left := r.left - 1 })
  | none => s

/-- A frame of which nothing is left in the device is forgotten. -/
def State.reap (s : State) (f : Nat) : State :=
  match s.frame f with
  | some x =>
    if x.ended && x.copies = 0 && (x.stage == .dropped || x.stage == .linked) then
      s.modPath fun p => { p with frames := mapDel p.frames f }
    else s
  | none => s

/-- `n` copies of a frame have ended. -/
def State.dropRefs (s : State) (f n : Nat) : State := (s.modFrame f fun x => { x with copies := x.copies - n }).reap f

/-! ### Lengths (R331, R366) -/

/-- The bytes of a frame that count: those kept when it was cut (R97, R304), else all. -/
def Frame.size (x : Frame) : Nat := x.heldLen.getD x.bytes.length

/-- A frame cut for want of beads (R304). -/
def Frame.isCut (x : Frame) : Bool := x.heldLen.isSome && !x.truncated

/-- The bytes of the stamp trailer that a port appends to a copy of a frame under a TRAILER setting (R157, R158); the mirror copy
of a truncated frame gets one. (DESIGN CHOICE, log 86.) -/
def State.trailerLen (s : State) (t p : Nat) (x : Frame) (k : CopyKind) : Nat :=
  if (t == 1 || t == 2) && (k.isMirror || x.heldLen.isNone) && s.get (Reg.MAC_PORT_CTRL_LOOPBACK p) != 3 then 16 else 0

/-- The frame bytes before the FCS that a mirror copy takes (R343). -/
def State.mirrorData (s : State) (n : Nat) (x : Frame) : Nat :=
  let all := if x.isCut then x.size else x.size - 4
  let t := s.get (Reg.MIRROR_SESSION_CTRL_TRUNC n)
  if t = 0 then all else min all t

/-- The bytes that a copy of a wholly received frame transmits under a TRAILER setting. -/
def State.sentLen (s : State) (t : Nat) (c : Copy) (x : Frame) : Nat :=
  s.trailerLen t c.egress x c.kind +
  (match c.kind with
  | .dest => if x.isCut then x.size + 4 else x.size
  | .span _ _ => 46 + (if x.isCut then x.size + 4 else x.size)
  | k => s.mirrorData k.session x + (if s.bit (Reg.MIRROR_SESSION_CTRL_TRAILER k.session) then 32 else 0) + 4)

/-- The charged length of a copy at this moment (R366). -/
def State.charged (s : State) (c : Copy) : Int :=
  let extra := s.getS (Reg.TM_PORT_CFG_OVERHEAD c.egress)
  let t := s.get (Reg.STAMP_PORT_CTRL_TRAILER c.egress)
  match s.frame c.frame with
  | some x =>
    if x.ended || c.kind.isMirror then (s.sentLen t c x : Int) + extra
    else (s.get (Reg.MAC_PORT_FRAME_FRAME_MAX x.port) : Int) + s.trailerLen t c.egress x c.kind + extra
  | none => extra

/-- The beads that a copy's frame holds, wherever they are (R331). -/
def State.copyBeads (s : State) (c : Nat) : Nat :=
  match s.copy c with
  | some x => match s.frame x.frame with
    | some f => if x.place == .spilled then ceilDiv f.size 256 else f.beads.length
    | none => 0
  | none => 0

/-- A rod's depth (R331). (DESIGN CHOICE, log 29.) -/
def State.rodDepth (s : State) (q : Nat) : Nat := ((s.rod q).map s.copyBeads).sum

/-- Copy-store entries in use: a linked copy that is not in DRAM holds one (R329). -/
def State.usedCopies (s : State) : Nat := (s.path.copies.filter fun e => e.2.linked && e.2.place != .spilled).length

/-- QUE_COPIES shows the entries in use. -/
def State.syncCopies (s : State) : State := s.set Reg.QUE_COPIES_USED s.usedCopies

/-- The bytes of a copy's frame on its rod. (DESIGN CHOICE, log 29.) -/
def State.copySize (s : State) (c : Nat) : Nat :=
  match s.copy c with
  | some x => match s.frame x.frame with | some f => f.size | none => 0
  | none => 0

/-- The bytes that left a rod in the last 8 µs (R320). (DESIGN CHOICE, log 29.) -/
def State.drained (s : State) (q : Nat) : Nat :=
  ((mapGet s.path.drains q []).filter fun e => s.cycle < e.1 + 8 * usCycles).map (·.2) |>.sum

/-- Bytes of a copy have left its rod. -/
def State.noteDrain (s : State) (q n : Nat) : State :=
  s.modPath fun p => { p with drains := mapMod p.drains q [] fun l => l.filter (fun e => s.cycle < e.1 + 8 * usCycles) ++ [(s.cycle, n)] }

/-! ### Tags (R364, R365) -/

/-- A queue's tags. -/
def State.tag (s : State) (q : Nat) : QueueTag := mapGet s.tm.tags q tag0

/-- Store a queue's tags. -/
def State.setTag (s : State) (q : Nat) (t : QueueTag) : State := s.modTm fun m => { m with tags := mapSet m.tags q t tag0 }

/-- The virtual time of a level of a port. -/
def State.vtime (s : State) (p level : Nat) : Nat := mapGet s.tm.virtual (p * 8 + level) 0

/-- The finish tag of a head of a charged length (R364). (DESIGN CHOICE, log 33.) -/
def finishOf (start : Nat) (len : Int) (w : Nat) : Nat := start + len.toNat * 65536 / w

/-- A rod's head may have changed: a new head takes its tags (R364, R365). (DESIGN CHOICE, log 33.) -/
def State.retag (s : State) (q : Nat) : State :=
  let t := s.tag q
  match (s.rod q).head? with
  | none => if t.copy.isNone then s else s.setTag q { t with copy := none, held := false }
  | some c =>
    if t.copy == some c then s
    else match s.copy c with
      | some x =>
        let level := s.get (Reg.TM_QUEUE_CFG_SP_LEVEL q)
        let w := s.get (Reg.TM_QUEUE_CFG_WEIGHT q)
        let start := if t.copy.isNone then s.vtime (q / 16) level else t.finish
        s.setTag q ⟨some c, start, finishOf start (s.charged x) w, w, level, false⟩
      | none => s

/-! ### Removing copies -/

/-- Replace a rod. -/
def State.setRod (s : State) (q : Nat) (l : List Nat) : State :=
  s.modPath fun p => { p with rods := mapSet p.rods q l [] }

/-- A spilled segment without a copy. -/
def Segment.gone (g : Segment) (c : Nat) : Segment := { g with copies := g.copies.filter (· != c) }

/-- Take a copy from its rod's segment; an empty segment is gone (R320). -/
def State.leaveSegment (s : State) (q c : Nat) : State :=
  match mapFind s.path.segments q with
  | some g =>
    let g := g.gone c
    s.modPath fun p => { p with segments := if g.copies.isEmpty then mapDel p.segments q else mapPut p.segments q g }
  | none => s

/-- A copy leaves its rod (R333), the offers or the residue. -/
def State.unlinkCopy (s : State) (c : Nat) (x : Copy) : State :=
  let q := x.rod
  let n := s.copySize c
  let s := s.modPath fun p => { p with
    offered := p.offered.filter (· != c), residue := mapMod p.residue q [] fun l => l.filter (· != c) }
  if x.linked then
    let s := (s.setRod q ((s.rod q).filter (· != c))).noteDrain q n
    State.retag ((s.leaveSegment q c).modPort x.egress fun d => { d with
      picked := match d.picked with | some k => if k.copy = c then none else some k | none => none }) q
  else s

/-- BUF_SPILL_USED changes by the beads of a copy. -/
def State.spillUse (s : State) (n : Nat) (up : Bool) : State :=
  s.set Reg.BUF_SPILL_USED_USED (if up then s.get Reg.BUF_SPILL_USED_USED + n else s.get Reg.BUF_SPILL_USED_USED - n)

/-- A copy is discarded (R314, R330, R342): its beads are decremented by `agent`, it is counted in a counter of its egress
port, its DROPPED record is formed (R174), and its egress mirror copy goes with it. (DESIGN CHOICE, log 28.) -/
def State.discard (s : State) (c counter detail agent : Nat) : State :=
  match s.copy c with
  | some x =>
    let beads := s.copyBeads c
    let s := s.unlinkCopy c x
    let held := match s.frame x.frame with | some f => f.beads | none => []
    let s := if x.place == .spilled then s.spillUse beads false else s.decrementAll held agent
    let s := if x.mirror.isSome && x.place != .spilled then s.decrementAll held agent else s
    let s := s.countLane x.egress counter 1
    let s := match x.kind with
      | .dest => (s.copyRecord x.frame x.egress s.presStamp false true false).injectCopy x.frame (some detail)
      | .span _ _ => s.injectCopy x.frame (some detail)
      | _ => s
    let s := s.modPath fun p => { p with copies := mapDel p.copies c }
    (s.dropRefs x.frame (1 + b2n x.mirror.isSome)).syncCopies
  | none => s

/-- A copy that the link stage does not make (R595); a mirror copy also counts in its session (R344). (DESIGN CHOICE, log 28; DESIGN CHOICE, log 72.) -/
def State.refuseCopy (s : State) (c : Nat) (x : Copy) (counter detail : Nat) : State :=
  let s := s.discard c counter detail x.egress
  if x.kind.isMirror then (s.satAdd (Reg.MIRROR_SESSION_DROP_DROP x.kind.session) 1).on Reg.MIRROR_STATUS_DROP else s

/-! ### Spilling at the link stage (R319, R320, R323) -/

/-- A copy may be spilled (R319). -/
def State.spillable (s : State) (c : Copy) : Bool :=
  match s.frame c.frame with
  | some x =>
    s.bit (Reg.BUF_CLASS_CFG_SPILL x.mark.cls) && planSize x.plan == 1 && x.copies == 1 && s.bit Reg.BUF_SPILL_CTRL_ENABLE &&
    !(s.bit (Reg.STAMP_PORT_CTRL_LL_EN c.egress) && bitOf (s.get (Reg.STAMP_PORT_CTRL_LL_CLASSES c.egress)) x.mark.cls) &&
    s.get Reg.DRAM_TRAIN_STATUS == 2 && s.funcUp .dram
  | none => false

/-- The predicted sojourn behind `ahead` bytes reaches ON_US; it is unbounded while nothing drains (R320). (DESIGN CHOICE, log 29.) -/
def State.staysLong (s : State) (q ahead : Nat) : Bool :=
  let d := s.drained q
  d = 0 || ahead * 8 ≥ s.get Reg.BUF_SPILL_CTRL_ON_US * d

/-- Close a rod's open segment. -/
def State.closeSegment (s : State) (q : Nat) : State :=
  match mapFind s.path.segments q with
  | some g => s.modPath fun p => { p with segments := mapPut p.segments q { g with isOpen := false } }
  | none => s

/-- Count a copy that would spill and is linked on die instead (R323). -/
def State.spillFull (s : State) : State := (s.satAdd Reg.BUF_SPILL_FULL_CNT_COUNT 1).on Reg.BUF_STATUS_SPILL_FULL

/-- The spill region's size in beads (R323). -/
def State.spillSize (s : State) : Nat := s.get Reg.BUF_SPILL_CTRL_SIZE_GIB * 4194304

/-- Beads that a copy takes in the spill region. -/
def State.spillBeads (s : State) (c : Nat) : Nat := ceilDiv (s.copySize c) 256

/-- Beads that the copies of the segments will take once they are written (R321). -/
def State.spillPending (s : State) : Nat :=
  ((s.path.segments.flatMap (·.2.copies)).map fun c => match s.copy c with
    | some x => if x.place == .onDie then s.spillBeads c else 0
    | none => 0).sum

/-- The spill region has room for a copy and the spill bandwidth is free (R320, R323, R389). -/
def State.spillRoom (s : State) (c : Nat) : Bool :=
  decide (s.get Reg.BUF_SPILL_USED_USED + s.spillPending + s.spillBeads c ≤ s.spillSize) && !s.spillTaken (s.spillBeads c)

/-- What linking a copy at the tail of a rod does to the rod's segment (R320). -/
def State.segmentLink (s : State) (c : Nat) (x : Copy) (ahead : Nat) : State :=
  let q := x.rod
  let room := s.spillRoom c
  match mapFind s.path.segments q with
  | some g =>
    if !g.isOpen then s
    else if !s.spillable x then s.closeSegment q
    else if !room then (s.closeSegment q).spillFull
    else s.modPath fun p => { p with segments := mapPut p.segments q { g with copies := g.copies ++ [c] } }
  | none =>
    if !s.spillable x || !s.staysLong q ahead then s
    else if !room then s.spillFull
    else s.modPath fun p => { p with segments := mapPut p.segments q ⟨[c], true⟩ }

/-! ### Replication and the link stage (R331, R332, R337 to R340, R595) -/

/-- Waiting copies of an egress pipe. -/
def State.residueCount (s : State) (pipe : Nat) : Nat :=
  ((s.path.residue.filter fun e => pipeOf (e.1 / 16) == pipe).map (·.2.length)).sum

/-- Make a copy of a frame and hand it to the link stage: to the residue when `waits`, else among the offers. -/
def State.offer (s : State) (x : Copy) (waits : Bool) : State :=
  let c := s.path.nextCopy
  s.modPath fun p => { p with
    copies := mapPut p.copies c x
    nextCopy := c + 1
    offered := if waits then p.offered else p.offered ++ [c]
    residue := if waits then mapMod p.residue x.rod [] (· ++ [c]) else p.residue }

/-- The next SEQ of a mirror session (Table 12-3). -/
def State.takeSeq (s : State) (n : Nat) : Nat × State :=
  let k := mapGet s.path.mirrorSeq n 0
  (k, s.modPath fun p => { p with mirrorSeq := mapPut p.mirrorSeq n ((k + 1) % 2 ^ 32) })

/-- Member entries held, old lists included. -/
def McastSt.used (m : McastSt) : Nat := (m.groups.map (·.2.2.length)).sum + (m.old.map (·.2.2)).sum

/-- Member lists that no frame uses any more are freed (R335). -/
def State.freeLists (s : State) : State :=
  let busy (g ver : Nat) : Bool := s.path.frames.any fun e => e.2.group == some (g, ver)
  let m := { s.mcast with old := s.mcast.old.filter fun o => busy o.1 o.2.1 }
  { s.set Reg.MCAST_MEMBERS_USED_USED m.used with mcast := m }

/-- A frame joins its pipe's replicator (R337); pipe 64 stands for INJECT. A frame without copies has no walk. (DESIGN CHOICE, log 23.) -/
def State.startWalk (s : State) (f : Nat) : State :=
  match s.frame f with
  | some x =>
    if x.plan.isEmpty then ((s.setFrame f { x with stage := .linked, group := none }).reap f).freeLists
    else
      (s.setFrame f { x with stage := .walking }).modPath fun p => { p with
        replicators := mapMod p.replicators (requesterOf x) [] (· ++ [f]) }
  | none => s

/-- Copies that the link stage of an egress pipe has taken in the present handshake: one handshake to a cycle (R338). (DESIGN CHOICE, log 97.) -/
def State.linksNow (s : State) (pipe : Nat) : Nat :=
  match mapFind s.path.links pipe with | some e => if e.1 = s.cycle then e.2 else 0 | none => 0

/-- The link stage of an egress pipe takes a copy. -/
def State.noteLink (s : State) (pipe : Nat) : State :=
  s.modPath fun p => { p with links := mapPut p.links pipe (s.cycle, s.linksNow pipe + 1) }

/-- Places for new offers in the present handshake of an egress pipe: at most 2 copies, the waiting ones first (R338, R339). -/
def State.placesLeft (s : State) (pipe : Nat) : Nat := 2 - s.linksNow pipe - s.residueCount pipe

/-- The copies of a rod among the offers. -/
def State.offersOf (s : State) (q : Nat) : List Nat :=
  s.path.offered.filter fun d => match s.copy d with | some y => y.rod == q | none => false

/-- Link a copy at the tail of its rod, under the tests of R595. -/
def State.linkCopy (s : State) (c : Nat) (x : Copy) : State :=
  let q := x.rod
  let s := s.noteLink (pipeOf x.egress)
  let limit := s.get (Reg.QUE_ROD_LIMIT_LIMIT q)
  if !s.portUp x.egress || s.get (Reg.MAC_PORT_CTRL_LOOPBACK x.egress) = 3 then s.refuseCopy c x 54 5
  else if s.usedCopies ≥ 1048576 then
    ((s.refuseCopy c x 61 9).satAdd Reg.QUE_COPY_FULL_CNT_COUNT 1).on Reg.QUE_STATUS_COPY_FULL
  else if limit != 0 && s.rodDepth q ≥ limit * 16 then
    ((s.refuseCopy c x 61 9).satAdd Reg.QUE_TAIL_DROP_CNT_COUNT 1).on Reg.QUE_STATUS_TAIL_DROP
  else
    let ahead := ((s.rod q).map s.copySize).sum
    let s := s.modPath fun p => { p with
      offered := p.offered.filter (· != c), residue := mapMod p.residue q [] fun l => l.filter (· != c) }
    let s := s.setCopy c { x with linked := true, linkedAt := s.cycle }
    let s := (s.setRod q (s.rod q ++ [c])).segmentLink c x ahead
    (s.retag q).syncCopies

/-- A copy joins its rod's residue at the place that the order of the offers gives it (R338). -/
def State.joinResidue (s : State) (c : Nat) (x : Copy) : State :=
  s.modPath fun p => { p with
    offered := p.offered.filter (· != c)
    residue := mapMod p.residue x.rod [] fun l => l.filter (· < c) ++ [c] ++ l.filter (· > c) }

/-- A copy among the offers is linked, or waits when it is not ready (R338 to R340); copies for one rod keep their order. (DESIGN CHOICE, log 23.) -/
def State.linkOffer (s : State) (c : Nat) : State :=
  match s.copy c with
  | some x =>
    if (s.offersOf x.rod).head? != some c then s
    else if s.placesLeft (pipeOf x.egress) > 0 && !(s.residue x.rod).any (· < c) then s.linkCopy c x
    else if s.residueCount (pipeOf x.egress) ≥ 4096 then s
    else s.joinResidue c x
  | none => s

/-- The waiting copy at the head of a rod's residue is linked (R339, R340). -/
def State.linkResidue (s : State) (q : Nat) : State :=
  match (s.residue q).head? with
  | some c => match s.copy c with
    | some x => if s.linksNow (pipeOf x.egress) ≥ 2 || (s.offersOf q).any (· < c) then s else s.linkCopy c x
    | none => s
  | none => s

/-- The walk of a frame ends: the member list that it used may go (R335). -/
def State.endWalk (s : State) (pipe f : Nat) : State :=
  let s := s.modPath fun p => { p with replicators := mapMod p.replicators pipe [] List.tail }
  ((s.modFrame f fun x => { x with stage := .linked, group := none }).reap f).freeLists

/-- One handshake of a replicator: the next copy of its current frame is offered (R337 to R339). A ready copy is linked at once, another
joins the residue, and a full residue stalls the walk; `places` are the places that the other replicators leave it. (DESIGN CHOICE, log 23;
DESIGN CHOICE, log 97.) -/
def State.replicate (s : State) (pipe places : Nat) : State :=
  match mapGet s.path.replicators pipe [] with
  | [] => s
  | f :: _ => match s.frame f with
    | none => s.modPath fun p => { p with replicators := mapMod p.replicators pipe [] List.tail }
    | some x => match x.plan[x.walked]? with
      | none => s.endWalk pipe f
      | some p =>
        let q := p.egress * 16 + p.queue
        let out := pipeOf p.egress
        let ready := decide (0 < min places (s.placesLeft out)) && (s.residue q).isEmpty && (s.offersOf q).isEmpty
        if !ready && s.residueCount out ≥ 4096 then s
        else
          let (kind, s) := match p.kind with
            | .ingMirror n _ => let r := s.takeSeq n; (CopyKind.ingMirror n r.1, r.2)
            | k => (k, s)
          let c := s.path.nextCopy
          let y : Copy := ⟨f, kind, p.egress, p.queue, p.mirror, false, 0, .onDie, false, []⟩
          let s := (s.setFrame f { x with walked := x.walked + 1 }).offer y (!ready)
          let s := if ready then s.linkCopy c y else s
          if x.walked + 1 ≥ x.plan.length then s.endWalk pipe f else s

/-- Offer the egress mirror copy of a copy whose egress stamp has been taken (R342); it joins its rod's residue where that holds copies and
the store has room (R339). -/
def State.offerMirror (s : State) (c : Copy) (stamp : Nat) : State :=
  match c.mirror with
  | some (n, p, q) =>
    let (k, s) := s.takeSeq n
    s.offer ⟨c.frame, .egrMirror n k c.egress stamp, p, q, none, false, 0, .onDie, false, []⟩
      (!(s.residue (p * 16 + q)).isEmpty && decide (s.residueCount (pipeOf p) < 4096))
  | none => s

/-! ### Port flush and stuck copies (R346 to R350) -/

/-- The freeing agent of a routine (Table 11-2): the engine that it is on, or that it takes now. -/
def State.agentOf (s : State) (k : RoutineKind) : Nat :=
  1024 + (match s.reck.engines.find? fun e => e.2.kind == k with | some e => e.1 | none => (s.freeEngine k).getD 0)

/-- The copies on a port's rods in the order of its flush (R347). -/
def State.portCopies (s : State) (p : Nat) : List Nat := (List.range 16).flatMap fun i => s.rod (16 * p + i)

/-- Discard the next `n` copies of a port's flush. -/
def State.flushSome (s : State) (p n : Nat) : State :=
  let agent := s.agentOf (.portFlush p)
  ((s.portCopies p).take n).foldl (fun s c => s.discard c 54 8 agent) s

/-- A routine that was requested for no command is on an engine, or takes one now (R349, R482). -/
def State.onEngine (s : State) (k : RoutineKind) : Bool := s.hasRoutine (· == k) && s.carried k none

/-- The flush of a port runs to its end (R347, R348), on the engine that carries it (R349). -/
def State.flushPort (s : State) (p : Nat) : State :=
  match (s.port p).flush with
  | .waiting =>
    if !s.onEngine (.portFlush p) then s
    else
    let s := s.flushSome p (s.portCopies p).length
    (s.modPort p fun x => { x with flush := .complete s.cycle }).endRoutine (· == .portFlush p)
  | _ => s

/-- A copy was linked more than STUCK_MS ago. -/
def State.isStuck (s : State) (c : Nat) : Bool :=
  let ms := s.get Reg.QUE_CTRL_STUCK_MS
  match s.copy c with | some x => ms != 0 && decide (s.cycle > x.linkedAt + ms * msCycles) | none => false

/-- The inspection of the rods' heads (R350). -/
def State.stuckInspect (s : State) : State :=
  s.path.rods.foldl (fun s e => match e.2.head? with
    | some c => if s.portUp (e.1 / 16) && s.isStuck c && !s.hasRoutine (· == .stuckReclaim e.1) then s.request (.stuckReclaim e.1) none else s
    | none => s) s

/-- The next `n` copies at a rod's head that were linked more than STUCK_MS ago are removed (R350). -/
def State.reclaimSome (s : State) (q n : Nat) : State :=
  let l := ((s.rod q).takeWhile s.isStuck).take n
  let agent := s.agentOf (.stuckReclaim q)
  let s := l.foldl (fun s c => (s.discard c 55 7 agent).satAdd Reg.QUE_STUCK_CNT_COUNT 1) s
  if l.isEmpty then s else (s.set Reg.QUE_STUCK_LOC_QUEUE q).on Reg.QUE_STATUS_STUCK

/-- The reclaim of a rod runs to its end (R350), on the engine that carries it (R349). -/
def State.reclaim (s : State) (q : Nat) : State :=
  if !s.onEngine (.stuckReclaim q) then s
  else (s.reclaimSome q (s.rod q).length).endRoutine (· == .stuckReclaim q)

/-! ### The spill engine (R321 to R325) -/

/-- The lowest `n` beads of the spill region that no copy holds. (DESIGN CHOICE, log 30.) -/
def State.freeSpill (s : State) (n : Nat) : List Nat :=
  let used := s.path.copies.flatMap (·.2.spillAt)
  ((List.range (used.length + n)).filter fun k => !used.contains k).take n

/-- The next copy of a rod's segment whose frame has been received goes to DRAM (R321), when the region has room and the spill bandwidth is
free (R323, R389). (DESIGN CHOICE, log 30; DESIGN CHOICE, log 57.) -/
def State.spillWrite (s : State) (q : Nat) : State :=
  match mapFind s.path.segments q with
  | some g =>
    let ready := g.copies.find? fun c => match s.copy c with
      | some x => x.place == .onDie && (match s.frame x.frame with | some f => f.ended | none => false)
      | none => false
    match ready with
    | some c => match s.copy c with
      | some x => match s.frame x.frame with
        | some f =>
          let n := s.spillBeads c
          if !s.bit Reg.BUF_SPILL_CTRL_ENABLE || !s.dramServes || (s.port x.egress).picked.any (·.copy == c) ||
              s.get Reg.BUF_SPILL_USED_USED + n > s.spillSize || s.spillTaken n then s
          else
            let l := s.freeSpill n
            let s := l.foldl (fun s b => s.dramWrite 3 (spillBurst b) 8) s
            let s := (s.decrementAll f.beads 1032).setFrame x.frame { f with beads := [] }
            ((s.setCopy c { x with place := .spilled, spillAt := l }).spillUse n true).syncCopies
        | none => s
      | none => s
    | none => s
  | none => s

/-- Take `n` beads of the return set, or none. -/
def takeReturns : Nat → List Nat → State → Option (List Nat × State)
  | 0, l, s => some (l, s)
  | n + 1, l, s => match s.takeReturn with
    | some (b, s) => takeReturns n (l ++ [b]) s
    | none => none

/-- The bytes on die ahead of a copy on its rod would drain within RETURN_US (R321). -/
def State.returnDue (s : State) (q c : Nat) : Bool :=
  let ahead := (((s.rod q).takeWhile (· != c)).map s.copySize).sum
  ahead * 8 ≤ s.get Reg.BUF_SPILL_CTRL_RETURN_US * s.drained q

/-- Every copy still in DRAM is discarded when DRAM is re-initialised (R325). -/
def State.loseSpilled (s : State) : State :=
  (s.path.copies.map (·.1)).foldl (fun s c => match s.copy c with
    | some x => if x.place == .spilled then s.discard c 61 0 1032 else s
    | none => s) s

/-- The beads of a spilled copy are read; `o` is what the read meets, its burst counted over all of them. The flag tells whether a bead is
poisoned. -/
def readSpilled (o : ReadOutcome) : Nat → List Nat → State → Bool × State
  | _, [], s => (false, s)
  | i, b :: l, s =>
    let (bad, s) := s.dramRead 3 (spillBurst b) 8 (if o.burst / 8 = i then { o with burst := o.burst % 8 } else cleanRead)
    let (rest, s) := readSpilled o (i + 1) l s
    (!bad.isEmpty || rest, s)

/-- The first copy of a rod's segment that is in DRAM comes back (R321, R324), when the spill bandwidth is free (R323); `badLink` tells
that its link cannot be read. (DESIGN CHOICE, log 28; DESIGN CHOICE, log 30.) -/
def State.spillReturn (s : State) (q : Nat) (o : ReadOutcome) (badLink : Bool) : State :=
  match mapFind s.path.segments q with
  | some g =>
    match g.copies.find? fun c => match s.copy c with | some x => x.place == .spilled | none => false with
    | some c => match s.copy c with
      | some x => match s.frame x.frame with
        | some f =>
          let n := x.spillAt.length
          if !s.returnDue q c || s.usedCopies ≥ 1048576 || !s.dramServes || s.spillTaken n then s
          else match takeReturns n [] s with
            | none => s
            | some (beads, s) =>
              let (bad, s) := readSpilled o 0 x.spillAt s
              let s := if bad then s.on Reg.BUF_STATUS_SPILL_POISON else s
              let s := (s.setFrame x.frame { f with beads := beads }).setCopy c { x with place := .returned, poisoned := bad, spillAt := [] }
              let s := (s.spillUse n false).syncCopies
              let s := s.leaveSegment q c
              if badLink then ((g.copies.dropWhile (· != c)).drop 1).foldl (fun s d => s.discard d 61 0 1032) s else s
        | none => s
      | none => s
    | none => s
  | none => s

/-! ### Multicast groups (R334, R335) -/

/-- The members of a list in host memory (Table 12-1), in ascending order. -/
def memberList (b : List Byte) : List Nat := ((List.range (b.length / 2)).map fun i => leAt b (2 * i) 2).mergeSort (· ≤ ·)

/-- A member list is well formed. -/
def State.membersOk (s : State) (l : List Nat) : Bool := decide (l.length ≤ 1024) && l.all s.isPort && decide l.Nodup

/-- Replace a group's list: frames that walk the old one keep it (R335). -/
def State.putMembers (s : State) (g : Nat) (l : List Nat) : State :=
  let cur := mapGet s.mcast.groups g (0, [])
  let busy := s.path.frames.any fun e => e.2.group == some (g, cur.1)
  let old := if busy then s.mcast.old ++ [(g, cur.1, cur.2.length)] else s.mcast.old
  let m : McastSt := ⟨mapPut s.mcast.groups g (cur.1 + 1, l), old⟩
  let s := s.set Reg.MCAST_MEMBERS_USED_USED m.used
  let note (k : Nat) : SMap (List (Nat × Bool)) → SMap (List (Nat × Bool)) := fun u => mapMod u k [] (· ++ [(g, !l.isEmpty)])
  let upd := s.wiredGroups.foldl (fun u k => (spanPorts k).foldl (fun u p => note p u) u) s.span.updates
  { s with mcast := m, span := { s.span with updates := if l.isEmpty == cur.2.isEmpty then s.span.updates else upd } }

/-- MCAST_SET (R335). -/
def coreMcastSet (c : CmdIn) (s : State) : CmdRes × State :=
  let g := c.param % 65536
  let l := memberList c.input
  if !s.membersOk l then (CmdRes.input, s)
  else if s.mcast.used + l.length > 524288 then (CmdRes.of .full, s.on Reg.MCAST_STATUS_FULL)
  else (CmdRes.ok, (s.putMembers g l).mirrorItem 0x3A (paramBytes g ++ c.input) fun w => w.1 == 0x3A && w.2 == beBytes 2 g)

/-- MCAST_READ (R335). -/
def coreMcastRead (c : CmdIn) (s : State) : CmdRes × State :=
  let l := s.members (c.param % 65536)
  ({ CmdRes.ok with result := leBytes 2 l.length, out := padTo 2048 (l.flatMap (leBytes 2)) }, s)

/-! ### Register checks of the QUE and MIRROR pages -/

/-- Refusals of the QUE page beyond reserved bits (Table 12-5). -/
def queCheck (_ : State) (off v : Nat) : Status := if off = 0 && bits v 0 8 == 0 then .range else .ok

/-- Refusals of the MIRROR page beyond reserved bits (R345, Table 12-10). -/
def mirrorCheck (s : State) (off v : Nat) : Status :=
  if off < 0x400 && off % 0x10 = 0 then
    let n := off / 0x10
    let t := bits v 10 14
    let old := s.get (Reg.MIRROR_SESSION_CTRL_DIR n) * 2 ^ 29 + s.get (Reg.MIRROR_SESSION_CTRL_TRAILER n) * 2 ^ 28 +
      s.get (Reg.MIRROR_SESSION_CTRL_QUEUE n) * 2 ^ 24 + s.get (Reg.MIRROR_SESSION_CTRL_TRUNC n) * 2 ^ 10 +
      s.get (Reg.MIRROR_SESSION_CTRL_DEST_PORT n)
    if bits v 29 2 == 3 || (t != 0 && (t < 60 || t > 16000)) || !s.isPort (bits v 0 10) then .range
    else if s.bit (Reg.MIRROR_SESSION_CTRL_EN n) && v != old then .busy
    else .ok
  else .ok

end Sys2Proof.Machine
end

