-- ==== Sys2Proof/Machine/Stamp.lean ====
section
/-! DEFINITION. Port stamping (R141 to R172): published stamps, calibration, the return of egress stamps to the host, and
the instants of level-latency delivery. -/

namespace Sys2Proof.Machine

/-- Change the stamping record. -/
def State.modStamp (s : State) (f : StampSt → StampSt) : State := { s with stamp := f s.stamp }

/-! ### The stamp point (R141 to R144, Table 5-1) -/

/-- A time of 1/256 ns as clock units. -/
def trimUnits (v : Int) : Int := v * (tuNs / 256 : Nat)

/-- What Table 5-1 adds to an ingress capture. -/
def State.ingressCorrection (s : State) (p : Nat) : Int :=
  trimUnits (s.getS (Reg.STAMP_PORT_TRIM_ING_TRIM p)) - trimUnits (s.get (Reg.STAMP_PORT_STATUS_DESKEW p)) -
    ((s.portLat p).1 * (tuNs / 100) : Nat)

/-- What Table 5-1 adds to an egress capture. -/
def State.egressCorrection (s : State) (p : Nat) : Int :=
  trimUnits (s.getS (Reg.STAMP_PORT_TRIM_EGR_TRIM p)) + ((s.portLat p).2 * (tuNs / 100) : Nat)

/-- A time in clock units, cut to 2^−16 ns. -/
def toTicks (t : Int) : Int := t / (tuTick : Nat)

/-- The ingress stamp point of a delimiter that crosses now, in a clock, in 2^−16 ns. -/
def State.ingressTime (s : State) (p sub clock : Nat) : Int := toTicks (s.clockAt clock sub + s.ingressCorrection p)

/-- The egress stamp point of a delimiter that crosses now. -/
def State.egressTime (s : State) (p sub clock : Nat) : Int := toTicks (s.clockAt clock sub + s.egressCorrection p)

/-! ### Calibration (R147 to R150) -/

/-- Refusals of the STAMP page beyond reserved bits (R147, R166, R169, Tables 5-5 to 5-12). -/
def stampCheck (s : State) (off v : Nat) : Status :=
  match off with
  | 0x00 => if bits v 0 18 < 1280 || bits v 0 18 > 160000 then .range else .ok
  | 0x10 => if bits v 0 6 ≥ 16 then .range else .ok
  | 0x20 =>
    let p := bits v 0 10
    if bitOf v 31 then
      if !s.isPort p || s.get (Reg.MAC_PORT_CTRL_LOOPBACK p) != 1 then .range
      else if s.linkState p != stDisabled || s.stamp.cal.isSome then .busy else .ok
    else if s.get Reg.STAMP_CAL_RESULT_STATUS = 1 then .busy else .ok
  | _ =>
    if off ≥ 0x1000 && off % 0x10 = 0 then
      if bits v 0 2 == 3 then .range else if bitOf v 3 && s.presNone then .busy else .ok
    else .ok

/-- What an accepted write to the STAMP page does beyond its fields: START runs a calibration (R148). -/
def stampEffect (s : State) (off v : Nat) : State :=
  if off = 0x20 && bitOf v 31 then
    (s.set Reg.STAMP_CAL_RESULT_STATUS 1).modStamp fun x => { x with cal := some ⟨bits v 0 10, s.cycle⟩, calUnread := false }
  else s

/-- A calibration ends (R148): its measured loop error and trims, or FAILED when the loop did not train. An ENABLE = 1 written
meanwhile takes effect now, as the port stays in DISABLED throughout. (DESIGN CHOICE, log 84.) -/
def State.calDone (s : State) (trained : Bool) (loopErr ing egr : Nat) : State :=
  match s.stamp.cal with
  | some c =>
    let s := s.modStamp fun x => { x with cal := none, calUnread := true }
    let s := if s.bit (Reg.MAC_PORT_CTRL_ENABLE c.port) then s.applyEnable c.port else s
    if trained then
      ((((s.set Reg.STAMP_CAL_RESULT_STATUS 2).set Reg.STAMP_CAL_RESULT_LOOP_ERR loopErr).set Reg.STAMP_CAL_SUGGEST_ING ing).set
        Reg.STAMP_CAL_SUGGEST_EGR egr).on (Reg.STAMP_PORT_STATUS_CAL_VALID c.port)
    else s.set Reg.STAMP_CAL_RESULT_STATUS 3
  | none => s

/-- STAMP_CAL_RESULT is read (R172). -/
def State.calRead (s : State) : State := s.modStamp fun x => { x with calUnread := false }

/-! ### Returning egress stamps (R151 to R156) -/

/-- STAMP_RET_STATUS shows the global queue after a change from level `before` (Table 5-8): MAX_LEVEL takes up the level that
stood and the new one, so that after a clearing read it reads 0 until the queue changes (R10). (DEDUCED, log 85.) -/
def State.syncStamps (s : State) (before : Nat) : State :=
  let n := s.stamp.queue.length
  (s.set Reg.STAMP_RET_STATUS_LEVEL n).maxTo Reg.STAMP_RET_STATUS_MAX_LEVEL (max before n)

/-- A stamp finds its port's queue full (R153). -/
def State.loseStamp (s : State) (p : Nat) : State :=
  ((s.count p 57 1).satAdd Reg.STAMP_LOST_CNT_LOST 1).on Reg.STAMP_RET_STATUS_LOST

/-- Return the egress stamp of a copy, if its frame asks for it (R151, R154, R155). The queue is held to its 16 entries at the end of
the cycle, when the transfers of the cycle are known (R153). -/
def State.returnStamp (s : State) (c : Copy) (x : Frame) (stamp : Nat) : State :=
  let p := c.egress
  if c.kind.isMirror then s
  else if x.inject.isSome then
    if !x.stampReq then s
    else s.modPort p fun d => { d with stamps := d.stamps ++ [⟨p, 0, c.queue, x.ingStamp, stamp, 0, some c.frame⟩] }
  else if !x.mark.stampRet || !s.bit Reg.STAMP_RET_CTRL_MARK_EN then s
  else s.modPort p fun d => { d with
    stamps := d.stamps ++ [⟨p, x.port % 1024, c.queue, x.ingStamp, stamp, min 255 d.stampLost, none⟩], stampLost := 0 }

/-- The stamps beyond the 16 of a port's queue are discarded (R153): that of an inject descriptor completes it with STAMP_LOST
(R154), one of a marked frame counts in LOST_BEFORE (R155). -/
def State.trimStamps (s : State) (p : Nat) : State :=
  ((s.port p).stamps.drop 16).foldl (fun s e =>
    let s := (s.loseStamp p).modPort p fun d => { d with stamps := d.stamps.take 16 }
    match e.inject with
    | some f => match mapFind s.host.inject f with
      | some r => s.putInject f { r with stampLost := true, stampWait := false }
      | none => s
    | none => s.modPort p fun d => { d with stampLost := d.stampLost + e.lostBefore + 1 }) s

/-- One entry moves from the per-port queues, in rotation, to the global queue (R152). -/
def State.stampTransfer (s : State) : State :=
  if s.stamp.queue.length ≥ 8192 then s
  else match (rotation 1024 s.stamp.rotate).find? fun p => !(s.port p).stamps.isEmpty with
    | some p => match (s.port p).stamps with
      | e :: rest =>
        let s := s.modPort p fun d => { d with stamps := rest }
        (s.modStamp fun x => { x with queue := x.queue ++ [e], rotate := (p + 1) % 1024 }).syncStamps s.stamp.queue.length
      | [] => s
    | none => s

/-- A marked frame's entry (Table 16-8). -/
def State.stampEntry (s : State) (e : StampRet) : List Byte :=
  [3, 0] ++ leBytes 2 s.attention ++ leBytes 2 e.egress ++ leBytes 2 e.ingress ++
    [BitVec.ofNat 8 e.queue, BitVec.ofNat 8 e.lostBefore] ++ zeros 6 ++ leBytes 16 e.ingStamp ++ leBytes 16 e.egrStamp ++ zeros 16

/-- The oldest entry of the global queue goes to the host (R152, R154, R155, R447). -/
def State.stampWrite (s : State) : State :=
  match s.stamp.queue with
  | e :: rest =>
    let pop (s : State) : State := State.syncStamps (s.modStamp fun x => { x with queue := rest }) (rest.length + 1)
    match e.inject with
    | some f =>
      let s := pop s
      match mapFind s.host.inject f with
      | some r => s.putInject f { r with stamp := some e.egrStamp, stampWait := false }
      | none => s
    | none =>
      let r := s.get Reg.STAMP_RET_CTRL_RING
      if s.ringRoom r 1 && s.canWrite then
        let b := s.stampEntry e
        (State.postCompletion (pop s) r false b).modHost fun h => { h with completion := b }
      else s
  | [] => s

/-! ### Level-latency delivery (R160 to R170) -/

/-- A copy is held on its egress port (R160). -/
def State.isHeld (s : State) (c : Copy) (x : Frame) : Bool :=
  !c.kind.isMirror && x.inject.isNone && s.bit (Reg.STAMP_PORT_CTRL_LL_EN c.egress) &&
  bitOf (s.get (Reg.STAMP_PORT_CTRL_LL_CLASSES c.egress)) x.mark.cls

/-- The release instant of a held copy in clock units (R161). -/
def State.releaseAt (s : State) (p : Nat) (x : Frame) : Int :=
  x.ingTime * (tuTick : Nat) + (s.get Reg.STAMP_LL_LATENCY_L * (tuNs / 16) : Nat) - s.egressCorrection p

/-- The start-point spacing of a port in clock units (Table 5-3). (DESIGN CHOICE, log 31.) -/
def State.startSpacing (s : State) (p : Nat) : Nat :=
  (match s.macRate p with | 10 => 320 | 25 => 128 | 50 => 128 | 100 => 64 | 200 => 32 | 400 => 16 | _ => 0) * (tuNs / 100)

/-- The moment at which a held copy's first word leaves the egress read stage: 6.60 ns before its release (R162). -/
def readRelease (r : Int) : Int := r - (660 * (tuNs / 100) : Nat)

end Sys2Proof.Machine
end

