-- ==== Sys2Proof/Machine/Egress.lean ====
section
/-! DEFINITION. Egress: the scheduler's pick (R362 to R367, R371, R372), level-latency release (R162 to R165), the bytes of
a transmitted copy (R99, R136 to R138, R157, R304, R324, R343, R541), and the start and end of a transmission. -/

namespace Sys2Proof.Machine

/-! ### What a copy may do -/

/-- A frame is known bad at this moment: truncated, cut, or ended with a bad FCS or an errored byte (R27, R98, R304). -/
def Frame.damaged (x : Frame) : Bool := x.heldLen.isSome || (x.ended && (x.fcs != some .good || x.codeErr))

/-- The head of a rod with its frame. -/
def State.headOf (s : State) (q : Nat) : Option (Nat × Copy × Frame) :=
  match (s.rod q).head? with
  | some c => match s.copy c with
    | some x => (s.frame x.frame).map fun f => (c, x, f)
    | none => none
  | none => none

/-- A head copy's transmission may begin (R26, R322, R333, R343). -/
def State.startable (s : State) (x : Copy) (f : Frame) : Bool :=
  x.place != .spilled && (f.ended || (!x.kind.isMirror && decide (s.macRate x.egress ≤ s.macRate f.port)))

/-- Received pause or PFC holds a queue (R91, R92). -/
def State.isPaused (s : State) (q : Nat) : Bool :=
  let d := s.port (q / 16)
  d.pause.isSome || (mapFind d.pfc (q % 16 / 2)).isSome

/-- The shapers of a queue and of its port allow (R362). -/
def State.shapersAllow (s : State) (q : Nat) : Bool := (s.shaper q).allows && (s.shaper (portShaper (q / 16))).allows

/-- The line time of a charged length in 2^−16 ns, rounded up (R371). -/
def State.lineTime (s : State) (p : Nat) (n : Int) : Nat := ceilDiv (n.toNat * 8 * 65536) (s.macRate p)

/-- The wait from now to the next start point of a port's PCS, in 2^−16 ns (Table 5-3). (DESIGN CHOICE, log 32.) -/
def State.gridWait (s : State) (p : Nat) : Int := toTicks ((Config.startPhase p s.cycle % max 1 (s.startSpacing p) : Nat) : Int)

/-- The first moment at which a pick made now lets a port's next copy begin: now, or after the copy in transmission with its charged
length. (DESIGN CHOICE, log 32.) -/
def State.portFree (s : State) (p : Nat) : Int :=
  let now := s.egressTime p 0 0
  match (s.port p).tx with | some t => max now (t.time + s.lineTime p t.pick.charged) | none => now

/-- The stamp point from which a head's occupancy of its window is counted (R371): the first start point at or after the moment at which
it may begin, a held copy not before its release, at the balls. (DESIGN CHOICE, log 32.) -/
def State.gatePoint (s : State) (x : Copy) (f : Frame) : Int :=
  let free := s.portFree x.egress
  s.gridWait x.egress +
    if s.isHeld x f then max free (toTicks (s.releaseAt x.egress f + s.egressCorrection x.egress)) else free

/-- The gate of a queue is open now, or gating is off (R362). -/
def State.gateOpen (s : State) (q : Nat) : Bool :=
  match (s.gate (q / 16)).listAt (s.egressTime (q / 16) 0 0) with
  | some l => l.openAt (q % 16) (s.egressTime (q / 16) 0 0)
  | none => true

/-- The gate is open and the head fits its window, or gating is off (R362, R371). (DESIGN CHOICE, log 32.) -/
def State.gateAllows (s : State) (q : Nat) (x : Copy) (f : Frame) : Bool :=
  s.gateOpen q && (s.gate (q / 16)).fits (q % 16) (s.gatePoint x f) (s.lineTime (q / 16) (s.charged x))

/-- A head that could start is held back by pause, a shaper or its gate (R364). -/
def State.heldBack (s : State) (q : Nat) (x : Copy) (f : Frame) : Bool :=
  s.isPaused q || !s.shapersAllow q || !s.gateAllows q x f

/-! ### The pick -/

/-- Discard a head that fits no window of its gate (R372). -/
def State.oversize (s : State) (q c : Nat) : State :=
  let s := (s.discard c 61 0 (q / 16)).satAdd Reg.TM_GATE_OVERSIZE_CNT_COUNT 1
  ((s.on Reg.TM_STATUS_GATE_OVERSIZE).on Reg.TM_GATE_LOC_KIND).set Reg.TM_GATE_LOC_QUEUE q

/-- Discard the heads of a rod that may not leave: copies of frames known bad (R27, R98), mirror copies of frames cut for want of
beads (R304), and copies too long for every window of their gate (R372). -/
def cleanRod : Nat → Nat → State → State
  | 0, _, s => s
  | n + 1, q, s => match s.headOf q with
    | some (c, x, f) =>
      if (if x.kind.isMirror then f.isCut else f.damaged) then cleanRod n q (s.discard c 61 0 (q / 16))
      else if f.ended && (s.gate (q / 16)).neverFits (q % 16) (s.gatePoint x f) (s.lineTime (q / 16) (s.charged x)) then
        cleanRod n q (s.oversize q c)
      else s
    | none => s

/-- Look at a queue: its finish tag for the length now known, and the shift after it was held back (R364). -/
def State.lookAt (s : State) (q : Nat) : State :=
  match s.headOf q with
  | some (_, x, f) =>
    let t := s.tag q
    let v := s.vtime (q / 16) t.level
    let back := s.startable x f && s.heldBack q x f
    let start := if t.held && !back && t.start < v then v else t.start
    s.setTag q { t with start := start, finish := finishOf start (s.charged x) t.weight, held := back || (t.held && !s.startable x f) }
  | none => s

/-- Look at all the queues of a port: whenever pause, a shaper or a gate may have begun or ceased to hold one back (R364). -/
def State.lookAll (s : State) (p : Nat) : State := ((List.range 16).map (16 * p + ·)).foldl State.lookAt s

/-- The queues of a port that are eligible (R362). -/
def State.eligible (s : State) (p : Nat) : List Nat :=
  ((List.range 16).map (16 * p + ·)).filter fun q => match s.headOf q with
    | some (_, x, f) => s.startable x f && !s.heldBack q x f
    | none => false

/-- The better of two queues: level, then finish tag, then number (R363). -/
def State.prefers (s : State) (a b : Nat) : Bool :=
  let x := s.tag a
  let y := s.tag b
  if x.level != y.level then x.level > y.level else if x.finish != y.finish then x.finish < y.finish else a < b

/-- The release instant of a queue's head, when it is held. -/
def State.headRelease (s : State) (q : Nat) : Option Int :=
  match s.headOf q with
  | some (_, x, f) => if s.isHeld x f then some (s.releaseAt x.egress f) else none
  | none => none

/-- A held head is already late: its first word would leave the egress read stage after release − 6.60 ns (R164). (DESIGN CHOICE, log 31.) -/
def State.headLate (s : State) (q : Nat) : Bool :=
  match s.headRelease q with | some r => s.presNone || decide (s.clockAt 0 0 > readRelease r) | none => false

/-- The queues among which priority and fair queuing choose (R165): those not held and those late; a held head that is not
late stands for all of its kind when it releases first and no head is late. Heads of one release instant go by priority and fair
queuing. (DESIGN CHOICE, log 31.) -/
def State.choices (s : State) (l : List Nat) : List Nat :=
  let free := l.filter fun q => (s.headRelease q).isNone
  let late := l.filter s.headLate
  let onTime := l.filter fun q => (s.headRelease q).isSome && !s.headLate q
  let first (a b : Nat) : Bool := (s.headRelease a).getD 0 < (s.headRelease b).getD 0 ||
    ((s.headRelease a).getD 0 == (s.headRelease b).getD 0 && s.prefers a b)
  if !late.isEmpty then late ++ free
  else match onTime.foldl (fun (a : Option Nat) q => match a with | some b => if first q b then some q else a | none => some q) none with
    | some q => q :: free
    | none => free

/-- The best queue of a list. -/
def State.bestQueue (s : State) (l : List Nat) : Option Nat :=
  l.foldl (fun (a : Option Nat) q => match a with | some b => if s.prefers q b then some q else a | none => some q) none

/-- Take a queue's head as the port's next copy (R364, R367). -/
def State.takeHead (s : State) (p q : Nat) : State :=
  match s.headOf q with
  | some (c, x, f) =>
    let t := s.tag q
    let len := s.charged x
    let v := s.vtime p t.level
    let s := s.shaperDebit q len
    let s := s.modTm fun m => { m with virtual := mapSet m.virtual (p * 8 + t.level) (max v t.start) 0 }
    let release := if s.isHeld x f then some (s.releaseAt p f) else none
    s.modPort p fun d => { d with
      picked := some ⟨c, len, s.getS (Reg.TM_PORT_CFG_OVERHEAD p), release, release.isNone || s.presNone⟩ }
  | none => s

/-- The scheduler of a port selects its next copy (R363). (DESIGN CHOICE, log 33.) -/
def State.pick (s : State) (p : Nat) : State :=
  if !s.portUp p || (s.port p).picked.isSome || !s.funcUp .tm then s
  else
    let queues := (List.range 16).map (16 * p + ·)
    let s := queues.foldl (fun s q => cleanRod (s.rod q).length q s) s
    let s := s.lookAll p
    match s.bestQueue (s.choices (s.eligible p)) with
    | some q => (s.takeHead p q).lookAll p
    | none => s

/-- A held first word leaves the egress read stage (R162); a frame known bad by then is dropped (R27). -/
def State.llRelease (s : State) (p : Nat) : State :=
  match (s.port p).picked with
  | some k => match k.release with
    | some r =>
      if k.crossed || !(s.presNone || decide (s.clockAt 0 0 ≥ readRelease r)) then s
      else
        let bad := match s.copy k.copy with
          | some x => (match s.frame x.frame with | some f => f.damaged | none => true)
          | none => true
        if bad then s.discard k.copy 61 0 p
        else s.modPort p fun d => { d with picked := some { k with crossed := true } }
    | none => s
  | none => s

/-! ### The bytes of a copy -/

/-- One's-complement addition of 16-bit words. -/
def onesAdd (a b : Nat) : Nat := (a + b) % 65536 + (a + b) / 65536

/-- What replacing `old` by `new` adds to the complement of a checksum (RFC 1624). -/
def wordDelta : List Byte → List Byte → Nat
  | a :: b :: old, c :: d :: new => onesAdd (onesAdd (65535 - beNat [a, b]) (beNat [c, d])) (wordDelta old new)
  | _, _ => 0

/-- An edit of a PTP message, with the incremental update of a non-zero UDP checksum (R138). (DEDUCED, log 49.) -/
def applyEdit (h : Headers) (b : List Byte) (e : Nat × List Byte) : List Byte :=
  let new := patchAt b e.1 e.2
  match h.l4 with
  | some l4 =>
    let ck := beAt b (l4 + 6) 2
    if h.udp && ck != 0 then
      let n := 65535 - onesAdd (65535 - ck) (wordDelta (slice b e.1 e.2.length) e.2)
      patchAt new (l4 + 6) (beBytes 2 (if n = 0 then 65535 else n))
    else new
  | none => new

/-- A correctionField plus a time in 2^−16 ns, saturating (R136). -/
def addCorrection (old : List Byte) (d : Int) : List Byte :=
  beBytes 8 (ofSigned 64 (min (2 ^ 63 - 1) (toSigned 64 (beNat old) + d)))

/-- The PTP modifications of a copy with an egress stamp (R136, R137). (DESIGN CHOICE, log 71.) -/
def State.ptpEdits (s : State) (c : Copy) (x : Frame) (stamp : Nat) : List (Nat × List Byte) :=
  let b := x.bytes.take x.limit
  match ptpOffset b (walk b), c.kind with
  | _, .span _ _ => []
  | some o, _ =>
    let type := beAt b o 1 % 16
    if !ptpSane b o then []
    else if x.inject.isSome then
      if x.oneStep && type = 0 && o + 48 ≤ b.length then
        [(o + 8, addCorrection (slice b (o + 8) 8) (bits stamp 16 16)), (o + 34, beBytes 6 (bits stamp 64 48) ++ beBytes 4 (bits stamp 32 32))]
      else []
    else if s.bit Reg.TIME_PTP_CTRL_TC_EN && type ≤ 3 then
      [(o + 8, addCorrection (slice b (o + 8) 8) ((stampTime stamp : Int) - stampTime x.ingStamp))]
    else []
  | none, _ => []

/-- The frame bytes before the FCS that a copy carries, modified for PTP as far as they reach. -/
def State.copyData (s : State) (c : Copy) (x : Frame) (stamp : Nat) : List Byte :=
  let n := match c.kind with
    | .ingMirror k _ => s.mirrorData k x
    | .egrMirror k _ _ _ => s.mirrorData k x
    | _ => if x.isCut then x.size else x.size - 4
  let b := x.bytes.take n
  (s.ptpEdits c x stamp).foldl (fun b e => if e.1 + e.2.length ≤ b.length then applyEdit (walk x.bytes) b e else b) b

/-- A copy ends with a stomped FCS (R27, R99, R304, R324, R343). -/
def stomps (c : Copy) (x : Frame) : Bool := x.damaged || c.poisoned

/-- The mirror trailer (Table 12-3). (DESIGN CHOICE, log 72.) -/
def State.mirrorTrailer (s : State) (x : Frame) (bad egress : Bool) (n seq port stamp : Nat) : List Byte :=
  let all := if x.isCut then x.size else x.size - 4
  [BitVec.ofNat 8 n, BitVec.ofNat 8 (b2n egress + 2 * b2n (s.mirrorData n x < all) + 4 * b2n bad + 8 * b2n x.truncated)] ++
  beBytes 2 (x.port % 1024) ++ beBytes 2 port ++ beBytes 2 (min 0xFFFF x.bytes.length) ++
  [BitVec.ofNat 8 (x.mark.cls * 16 + x.mark.queue), BitVec.ofNat 8 x.mark.colour, 0, 0] ++ beBytes 4 seq ++ beBytes 16 stamp

/-- The captured BOARD_POS. -/
def State.boardPos (s : State) : Nat := 2 * b2n s.die.straps.pos1 + b2n s.die.straps.pos0

/-- The BOARD_POS of the span peer of a group (Table 21-1). -/
def State.peerPos (s : State) (g : Nat) : Nat := s.boardPos ^^^ 2 ^^^ (if s.die.straps.pairEn then g else 0)

/-- The addresses and Ethertype of a span frame of a span port (R541). -/
def State.spanHead (s : State) (p : Nat) : List Byte :=
  beBytes 6 (0x020000000100 + s.peerPos ((p - 960) / 32)) ++ beBytes 6 (0x020000000100 + s.boardPos) ++ [0x88, 0xB6]

/-- The span header of a DATA frame (Table 21-2). -/
def State.spanHeader (s : State) (x : Frame) (group : Bool) (dest : Nat) : List Byte :=
  let bad := x.ended && (x.fcs != some .good || x.codeErr)
  [1, BitVec.ofNat 8 (b2n group + 2 * b2n bad + 4 * b2n x.truncated + 8 * b2n x.carried)] ++ beBytes 2 dest ++
  beBytes 2 (s.logicalIngress x) ++ [BitVec.ofNat 8 (x.mark.cls * 16 + x.mark.queue), BitVec.ofNat 8 x.mark.colour] ++
  beBytes 4 x.bytes.length ++ zeros 4 ++ beBytes 16 x.ingStamp

/-- The bytes that a copy transmits with an egress stamp, under a TRAILER setting. -/
def State.txBytes (s : State) (c : Copy) (x : Frame) (stamp trailer : Nat) : List Byte :=
  let data := s.copyData c x stamp
  let bad := stomps c x
  let body := match c.kind with
    | .dest => data
    | .span g d => s.spanHead c.egress ++ s.spanHeader x g d ++ data
    | .ingMirror n k =>
      data ++ if s.bit (Reg.MIRROR_SESSION_CTRL_TRAILER n) then s.mirrorTrailer x bad false n k 0xFFFF x.ingStamp else []
    | .egrMirror n k p t => data ++ if s.bit (Reg.MIRROR_SESSION_CTRL_TRAILER n) then s.mirrorTrailer x bad true n k p t else []
  let body := if s.trailerLen trailer c.egress x c.kind = 0 then body
    else body ++ beBytes 16 (if trailer = 1 then x.ingStamp else stamp)
  body ++ if bad then stompedBytes body else fcsBytes body

/-! ### Transmission -/

/-- A copy's delimiter leaves the MAC (R141, R160 to R164, R333); a yielding device starts none (R528). (DESIGN CHOICE, log 31.) -/
def State.transmitStart (s : State) (p sub : Nat) : State :=
  match (s.port p).picked with
  | some k => match s.copy k.copy with
    | some x => match s.frame x.frame with
      | some f =>
        let t := s.clockAt 0 sub
        let early := match k.release with | some r => !s.presNone && decide (t < r) | none => false
        if !k.crossed || early || (s.port p).tx.isSome || !s.portUp p || s.isPaused x.rod || s.pairState = paYielding then s
        else
          let late := match k.release with | some r => s.presNone || decide (t ≥ r + s.startSpacing p) | none => false
          let clock := s.stampClock (f.bytes.take f.limit)
          let stamp := stampOf (s.egressTime p sub clock) (s.clockFlags clock)
          let window := (s.egressTime p sub 0 / (8000 * 65536 : Int)).toNat
          let s := s.unlinkCopy k.copy x
          let s := if late then (s.count p 56 1).on Reg.STAMP_LL_STATUS_LATE else s
          let s := s.modPort p fun d => { d with
            picked := none
            tx := some ⟨k, stamp, late, s.get (Reg.STAMP_PORT_CTRL_TRAILER p), window, s.gates p, s.egressTime p sub 0⟩ }
          (s.returnStamp x f stamp).offerMirror x stamp
      | none => s
    | none => s
  | none => s

/-- The CRC of a transmitted copy for its port's digest (R522). -/
def copyDigest (x : Frame) : Nat :=
  let bad := x.fcs != some .good || x.codeErr
  let block := beBytes 2 (x.port % 1024) ++ [BitVec.ofNat 8 (x.mark.cls * 16 + x.mark.queue),
    BitVec.ofNat 8 (x.mark.colour + 4 * b2n x.truncated + 8 * b2n bad)] ++ beBytes 4 x.bytes.length ++ zeros 8
  crc64 0 (block ++ x.bytes.take (x.bytes.length - 4))

/-- A copy's CRC joins its port's digest of its window (R522). -/
def State.noteDigest (s : State) (p window : Nat) (c : Copy) (x : Frame) : State :=
  if !s.die.straps.pairEn || c.kind.isMirror || x.inject.isSome || bitOf (s.get (Reg.PAIR_CMP_MASK_MASK (p / 32))) (p % 32) then s
  else
    let key := window * 1024 + p
    s.modPair fun d => { d with digests := mapPut d.digests key ((mapGet d.digests key 0 + copyDigest x) % 2 ^ 64) }

/-- A copy's transmission ends (R174, R314, R367). A play-out that the interlock gated at its start does not leave, not even the
part after the enable (R529). -/
def State.transmitEnd (s : State) (p : Nat) : State :=
  match (s.port p).tx with
  | some t => match s.copy t.pick.copy with
    | some x => match s.frame x.frame with
      | some f =>
        if !f.ended then s
        else
          let b := s.txBytes x f t.stamp t.trailer
          let bad := stomps x f
          let s := s.countTx p b bad
          let s := if t.gated then s else s.putOut p b
          let s := s.modPort p fun d => { d with tx := none }
          let s := s.shaperDebit x.rod ((b.length : Int) + t.pick.overhead - t.pick.charged)
          let s := match x.kind with
            | .dest => (s.copyRecord x.frame p t.stamp t.late false bad).injectCopy x.frame none
            | .span _ _ => s.injectCopy x.frame none
            | _ => s
          let s := s.noteDigest p t.window x f
          let s := (s.decrementAll f.beads p).modPath fun q => { q with copies := mapDel q.copies t.pick.copy }
          ((s.dropRefs x.frame 1).syncCopies).sendWaiting p
      | none => s
    | none => s
  | none => s

end Sys2Proof.Machine
end

