-- ==== Sys2Proof/Machine/Fdb.lean ====
section
/-! DEFINITION. The FDB (R246 to R261, R270 to R275): places and relocation, learning and station moves, hit bits,
parity removal, and its commands. -/

namespace Sys2Proof.Machine

/-! ### Places -/

/-- The places of a key's two candidate buckets, its home bucket first; they lie in different banks (R246). (DESIGN CHOICE, log 39.) -/
def fdbBuckets (vlan mac : Nat) : Nat × Nat :=
  let h := Config.fdbHash vlan mac
  let a := h.1.1 % 16
  let b := if h.2.1 % 16 = a then (a + 1) % 16 else h.2.1 % 16
  (a * 32768 + h.1.2 % 4096 * 8, b * 32768 + h.2.2 % 4096 * 8)

/-- The home bank of a key. -/
def homeBank (vlan mac : Nat) : Nat := (fdbBuckets vlan mac).1 / 32768

/-- The sixteen places that may hold a key. -/
def fdbPlaces (vlan mac : Nat) : List Nat :=
  let b := fdbBuckets vlan mac
  (List.range 8).map (b.1 + ·) ++ (List.range 8).map (b.2 + ·)

/-- The FDB's entries. -/
abbrev Fdb := SMap FdbEntry

/-- The place that holds a key. -/
def fdbFind (m : Fdb) (vlan mac : Nat) : Option (Nat × FdbEntry) :=
  (fdbPlaces vlan mac).findSome? fun p => match mapFind m p with
    | some e => if e.vlan = vlan && e.mac = mac then some (p, e) else none
    | none => none

/-- The first free place of a bucket. -/
def freeSlot (m : Fdb) (bucket : Nat) : Option Nat :=
  ((List.range 8).map (bucket + ·)).find? fun p => (mapFind m p).isNone

/-- The bucket of a place. -/
def bucketOf (place : Nat) : Nat := place / 8 * 8

/-- The other candidate bucket of an entry that stands in a bucket. -/
def otherBucket (e : FdbEntry) (bucket : Nat) : Nat :=
  let b := fdbBuckets e.vlan e.mac
  if b.1 = bucket then b.2 else b.1

/-- A path of at most `n` relocations that frees a place in a bucket: the places to move, first move first (R247). (DESIGN CHOICE, log 53.) -/
def relocPath (m : Fdb) : Nat → List Nat → Nat → Option (List Nat)
  | 0, _, b => if (freeSlot m b).isSome then some [] else none
  | n + 1, seen, b =>
    if (freeSlot m b).isSome then some []
    else if seen.contains b then none
    else (List.range 8).findSome? fun i => match mapFind m (b + i) with
      | some e => (relocPath m n (b :: seen) (otherBucket e b)).map (· ++ [b + i])
      | none => none

/-- One relocation (R247). (DESIGN CHOICE, log 53.) -/
def relocate (m : Fdb) (p : Nat) : Fdb :=
  match mapFind m p with
  | some e => match freeSlot m (otherBucket e (bucketOf p)) with
    | some q => mapPut (mapDel m p) q e
    | none => m
  | none => m

/-- The shortest path that makes room for a key, with the bucket in which it does (R247). (DESIGN CHOICE, log 53.) -/
def roomPath (m : Fdb) (vlan mac : Nat) : Option (List Nat × Nat) :=
  let b := fdbBuckets vlan mac
  (List.range 5).findSome? fun n => [b.1, b.2].findSome? fun k => (relocPath m n [] k).map fun l => (l, k)

/-- Make room for a key: the FDB after the relocations and the free place (R247). -/
def makeRoom (m : Fdb) (vlan mac : Nat) : Option (Fdb × Nat) :=
  (roomPath m vlan mac).bind fun r => (freeSlot (r.1.foldl relocate m) r.2).map fun p => (r.1.foldl relocate m, p)

/-- Store the FDB and show its use. -/
def State.setFdb (s : State) (m : Fdb) : State :=
  State.set { s with fdb := { s.fdb with entries := m, changes := s.fdb.changes + 1 } } Reg.FDB_USED_USED m.length

/-! ### Entries in commands (Table 9-4) -/

/-- An FDB entry's 16 bytes. -/
def fdbBytes (e : FdbEntry) : List Byte :=
  beBytes 6 e.mac ++ leBytes 2 e.vlan ++ [BitVec.ofNat 8 (b2n e.static + 2 * b2n e.pinned + 4 * b2n e.hit), BitVec.ofNat 8 e.kind] ++
  leBytes 2 e.dest ++ zeros 4

/-- The key of an entry as 16 bytes. -/
def fdbKeyBytes (e : FdbEntry) : List Byte := beBytes 6 e.mac ++ leBytes 2 e.vlan ++ zeros 8

/-- The entry that 16 bytes spell. -/
def fdbOf (b : List Byte) : FdbEntry :=
  let f := leAt b 8 1
  { vlan := leAt b 6 2, mac := beAt b 0 6, static := bitOf f 0, pinned := bitOf f 1, hit := bitOf f 2,
    kind := leAt b 9 1, dest := leAt b 10 2, winStart := 0, winCount := 0, born := 0, bad := false }

/-- A destination that may be named (Table 9-4). -/
def State.destOk (s : State) (kind dest : Nat) : Bool :=
  match kind with
  | 0 => s.destPortOk dest
  | 1 => true
  | 2 | 3 => dest == 0
  | _ => false

/-- The checks on an entry of FDB_INSERT (R270). -/
def State.fdbEntryOk (s : State) (b : List Byte) : Bool :=
  leAt b 6 2 < 4095 && leAt b 8 1 ≤ 1 && s.destOk (leAt b 9 1) (leAt b 10 2) && leAt b 12 4 == 0

/-- The checks on a key. -/
def fdbKeyOk (b : List Byte) : Bool := leAt b 6 2 < 4095 && allZero (b.drop 8)

/-- A change of one key goes to the mirror stream (Table 20-4): the entry after it, or the key of one removed. -/
def State.mirrorFdb (s : State) (present : Bool) (e : FdbEntry) : State :=
  s.mirrorItem (if present then 0x20 else 0x21) (if present then fdbBytes { e with hit := false } else fdbKeyBytes e)
    fun w => w.1 == 0x20 && w.2 == fdbKeyBytes e

/-! ### Parity (R275) -/

/-- An entry that fails its parity check is removed and recorded. -/
def State.fdbParity (s : State) (place : Nat) : State :=
  let s := s.setFdb (mapDel s.fdb.entries place)
  let s := ((s.set Reg.FDB_PARITY_LOC_BANK (place / 32768)).set Reg.FDB_PARITY_LOC_BUCKET (place / 8 % 4096)).set
    Reg.FDB_PARITY_LOC_SLOT (place % 8)
  (s.satAdd Reg.FDB_PARITY_CNT_COUNT 1).on Reg.FDB_STATUS_PARITY

/-- An access to a key: the entry with its place, or nothing; and whether it met a parity error. -/
def State.fdbAccess (s : State) (vlan mac : Nat) : Option (Nat × FdbEntry) × Bool × State :=
  match fdbFind s.fdb.entries vlan mac with
  | some (p, e) => if e.bad then (none, true, s.fdbParity p) else (some (p, e), false, s)
  | none => (none, false, s)

/-- Insert an entry whose key is absent (R247). -/
def State.fdbPlace (s : State) (e : FdbEntry) : Option State :=
  (makeRoom s.fdb.entries e.vlan e.mac).map fun r => s.setFdb (mapPut r.1 r.2 { e with born := s.fdb.changes })

/-- The failing entries on the way of a key's relocations are removed, one path after another (R247, R275); whether there were any. -/
def clearPath (vlan mac : Nat) : Nat → State → Bool × State
  | 0, s => (false, s)
  | n + 1, s =>
    let way := match roomPath s.fdb.entries vlan mac with | some r => r.1 | none => []
    match way.find? fun p => (mapFind s.fdb.entries p).any (·.bad) with
    | none => (false, s)
    | some p => (true, (clearPath vlan mac n (s.fdbParity p)).2)

/-- Make the entry of an absent key: the state after it, none when there is no room, and whether a relocation met a failing entry. -/
def State.fdbMake (s : State) (e : FdbEntry) : Option State × Bool × State :=
  let (met, s) := clearPath e.vlan e.mac 6 s
  (s.fdbPlace e, met, s)

/-- Replace the entry at a place. -/
def State.fdbPut (s : State) (place : Nat) (e : FdbEntry) : State := s.setFdb (mapPut s.fdb.entries place e)

/-- Remove the entry at a place. -/
def State.fdbRemove (s : State) (place : Nat) (e : FdbEntry) : State :=
  State.mirrorFdb (s.setFdb (mapDel s.fdb.entries place)) false e

/-! ### Lookup and learning -/

/-- The destination of a bridged frame on a miss (R250): MISS_ACT of its ingress port. -/
def State.fdbMiss (s : State) (port : Nat) : Nat × Nat :=
  match s.get (Reg.FDB_PORT_CFG_MISS_ACT port) with
  | 1 => (1, s.get (Reg.FDB_PORT_CFG_MISS_GROUP port))
  | 2 => (2, 0)
  | _ => (3, 0)

/-- The FDB lookup of a frame (R243, R250, R275). -/
def State.fdbLookup (s : State) (vlan mac port : Nat) : (Nat × Nat) × State :=
  match s.fdbAccess vlan mac with
  | (some (_, e), _, s) => ((e.kind, e.dest), s)
  | (none, _, s) => (s.fdbMiss port, s)

/-- A frame's source address matches an entry: its HIT bit is set (R259). -/
def State.fdbHit (s : State) (vlan mac : Nat) : State :=
  match s.fdbAccess vlan mac with
  | (some (p, e), _, s) => { s with fdb := { s.fdb with entries := mapPut s.fdb.entries p { e with hit := true } } }
  | (none, _, s) => s

/-- A learn request is discarded as full or stale. -/
def State.learnDrop (s : State) : State := (s.satAdd Reg.FDB_LEARN_DROP_CNT_COUNT 1).on Reg.FDB_STATUS_LEARN_DROP

/-- Put a request into a queue in ingress-stamp order. -/
def insertLearn : List LearnReq → LearnReq → List LearnReq
  | [], r => [r]
  | x :: l, r => if r.stamp < x.stamp then r :: x :: l else x :: insertLearn l r

/-- A learn request joins the queue of its key's home bank (R253, R254). -/
def State.learnRequest (s : State) (r : LearnReq) : State :=
  let bank := homeBank r.vlan r.mac
  let q := mapGet s.fdb.learn bank []
  let put (l : List LearnReq) : State := { s with fdb := { s.fdb with learn := mapSet s.fdb.learn bank l [] } }
  let stale := match mapFind s.fdb.released bank with | some t => decide (r.stamp < t) | none => false
  if stale then s.learnDrop
  else
    let same (x : LearnReq) : Bool := x.vlan == r.vlan && x.mac == r.mac && x.port == r.port
    match q.find? same with
    | some x =>
      put (insertLearn (q.filter fun y => !same y) { x with stamp := min x.stamp r.stamp, frames := x.frames ++ r.frames })
    | none => if q.length ≥ 256 then s.learnDrop else put (insertLearn q r)

/-- A frame becomes known bad: the waiting requests it takes part in know it (R255). -/
def State.learnKnownBad (s : State) (frame : Nat) : State :=
  { s with fdb := { s.fdb with learn := s.fdb.learn.map fun e =>
      (e.1, e.2.map fun r => { r with frames := r.frames.map fun f => if f.1 = frame then (frame, true) else f }) } }

/-- Record a station move or a pin (R257). -/
def State.moveLast (s : State) (e : FdbEntry) (port : Nat) (pin : Bool) : State :=
  let s := ((s.set Reg.FDB_MOVE_LAST_LO_MAC_LO (e.mac % 2 ^ 32)).set Reg.FDB_MOVE_LAST_HI_VLAN e.vlan).set
    Reg.FDB_MOVE_LAST_HI_MAC_HI (e.mac / 2 ^ 32)
  ((s.setB Reg.FDB_MOVE_LAST_PORTS_PIN pin).set Reg.FDB_MOVE_LAST_PORTS_OLD_PORT e.dest).set Reg.FDB_MOVE_LAST_PORTS_NEW_PORT port

/-- A station move of the entry at a place, or its pin (R257). -/
def State.stationMove (s : State) (place : Nat) (e : FdbEntry) (r : LearnReq) : State :=
  let window : Int := s.get Reg.FDB_CTRL_MOVE_WINDOW * 100000 * 65536
  let within := e.winCount != 0 && r.stamp ≤ e.winStart + window
  let count := if within then e.winCount + 1 else 1
  if count > s.get Reg.FDB_CTRL_MOVE_LIMIT then
    let e' := { e with pinned := true }
    (((s.fdbPut place e').moveLast e r.port true).on Reg.FDB_STATUS_PINNED).mirrorFdb true e'
  else
    let e' := { e with dest := r.port, winStart := if within then e.winStart else r.stamp, winCount := count }
    ((((s.fdbPut place e').moveLast e r.port false).satAdd Reg.FDB_MOVE_CNT_COUNT 1).on Reg.FDB_STATUS_MOVE).mirrorFdb true e'

/-- Apply a released learn request (Table 9-2). -/
def State.learnApply (s : State) (r : LearnReq) : State :=
  match s.fdbAccess r.vlan r.mac with
  | (none, _, s) =>
    let e : FdbEntry := ⟨r.vlan, r.mac, false, false, false, 0, r.port, 0, 0, 0, false⟩
    match s.fdbMake e with
    | (some s, _, _) => (s.satAdd Reg.FDB_LEARN_CNT_COUNT 1).mirrorFdb true e
    | (none, _, s) => (s.satAdd Reg.FDB_LEARN_FULL_CNT_COUNT 1).on Reg.FDB_STATUS_FULL
  | (some (p, e), _, s) =>
    if e.static || e.kind != 0 then (s.satAdd Reg.FDB_MOVE_REFUSED_CNT_COUNT 1).on Reg.FDB_STATUS_CONFLICT
    else if e.dest = r.port then s
    else if e.pinned then s.satAdd Reg.FDB_MOVE_REFUSED_CNT_COUNT 1
    else s.stationMove p e r

/-- The first request of a bank whose hold has passed is released and applied (R253, R255, R256). -/
def State.learnRelease (s : State) (bank : Nat) : State :=
  match mapGet s.fdb.learn bank [] with
  | [] => s
  | r :: l =>
    if (s.presTicks : Int) < r.stamp + (s.get Reg.FDB_CTRL_LEARN_HOLD * 1000 * 65536 : Nat) || !s.funcUp .fdb then s
    else
      let s := { s with fdb := { s.fdb with
        learn := mapSet s.fdb.learn bank l []
        released := mapPut s.fdb.released bank (max r.stamp (mapGet s.fdb.released bank r.stamp)) } }
      if r.frames.all (·.2) then s else s.learnApply r

/-! ### Commands -/

/-- FDB_INSERT (R247, R270, R271, R275); one whose relocations meet a failing entry makes none. (DESIGN CHOICE, log 53.) -/
def coreFdbInsert (c : CmdIn) (s : State) : CmdRes × State :=
  let b := c.input
  if !s.fdbEntryOk b then (CmdRes.input, s)
  else
    let e := fdbOf b
    match s.fdbAccess e.vlan e.mac with
    | (none, true, s) => (CmdRes.of .parity, s)
    | (none, false, s) => match s.fdbMake e with
      | (_, true, s) => (CmdRes.of .parity, s)
      | (some s, _, _) => (CmdRes.ok, s.mirrorFdb true e)
      | (none, _, s) => (CmdRes.of .full, s.on Reg.FDB_STATUS_FULL)
    | (some (p, _), _, s) =>
      if bitOf c.flags 0 then (CmdRes.ok, State.mirrorFdb (s.fdbPut p { e with born := s.fdb.changes }) true e)
      else (CmdRes.of .exists, s)

/-- FDB_DELETE (R271). -/
def coreFdbDelete (c : CmdIn) (s : State) : CmdRes × State :=
  if !fdbKeyOk c.input then (CmdRes.input, s)
  else match s.fdbAccess (leAt c.input 6 2) (beAt c.input 0 6) with
    | (none, bad, s) => (CmdRes.of (if bad then .parity else .notFound), s)
    | (some (p, e), _, s) => (CmdRes.ok, s.fdbRemove p e)

/-- FDB_AGE_DELETE (R261). -/
def coreFdbAgeDelete (c : CmdIn) (s : State) : CmdRes × State :=
  if !fdbKeyOk c.input then (CmdRes.input, s)
  else match s.fdbAccess (leAt c.input 6 2) (beAt c.input 0 6) with
    | (none, bad, s) => (CmdRes.of (if bad then .parity else .notFound), s)
    | (some (p, e), _, s) =>
      if e.hit then ({ CmdRes.ok with result := [1] }, s) else ({ CmdRes.ok with result := [0] }, s.fdbRemove p e)

/-- FDB_SEARCH (R271). -/
def coreFdbSearch (c : CmdIn) (s : State) : CmdRes × State :=
  if !fdbKeyOk c.input then (CmdRes.input, s)
  else match s.fdbAccess (leAt c.input 6 2) (beAt c.input 0 6) with
    | (none, bad, s) => (CmdRes.of (if bad then .parity else .notFound), s)
    | (some (_, e), _, s) => ({ CmdRes.ok with result := fdbBytes e }, s)

/-- The order of FDB_NEXT: VLAN, then MAC (R272). -/
def fdbKeyNat (vlan mac : Nat) : Nat := vlan * 2 ^ 48 + mac

/-- The least key of a list of (key, value) above a bound, `n` times: a walk in ascending order. (DEDUCED, log 59.) -/
def walkFrom {α : Type} : Nat → Option Nat → List (Nat × α) → List (Nat × α)
  | 0, _, _ => []
  | n + 1, after, l =>
    let later := l.filter fun e => match after with | some k => k < e.1 | none => true
    match later with
    | [] => []
    | x :: xs =>
      let m := xs.foldl (fun a e => if e.1 < a.1 then e else a) x
      m :: walkFrom n (some m.1) later

/-- FDB_NEXT (R260, R272, R442). (DEDUCED, log 59.) -/
def coreFdbNext (c : CmdIn) (s : State) : CmdRes × State :=
  let start := bitOf c.flags 0
  if c.param < 1 || c.param > 16 then (CmdRes.field, s)
  else if (if start then !allZero c.input else !fdbKeyOk c.input) then (CmdRes.input, s)
  else
    let all := s.fdb.entries.map fun e => (fdbKeyNat e.2.vlan e.2.mac, e)
    let got := walkFrom (c.param + 1) (if start then none else some (fdbKeyNat (leAt c.input 6 2) (beAt c.input 0 6))) all
    let l := (got.take c.param).map (·.2)
    match l.find? fun e => e.2.bad with
    | some e => (CmdRes.of .parity, s.fdbParity e.1)
    | none =>
      let cleared := l.foldl (fun m e => mapPut m e.1 { e.2 with hit := false }) s.fdb.entries
      let s := if bitOf c.flags 1 then { s with fdb := { s.fdb with entries := cleared } } else s
      ({ CmdRes.ok with end_ := got.length ≤ c.param, result := leBytes 1 l.length, out := l.flatMap fun e => fdbBytes e.2 }, s)

/-- An entry that a flush with this PARAM and these flags removes (R273). -/
def flushMatches (c : CmdIn) (began : Nat) (e : FdbEntry) : Bool :=
  e.kind == 0 && e.dest == c.param % 1024 && (!bitOf c.flags 0 || e.vlan == bits c.param 16 12) && (bitOf c.flags 1 || !e.static) &&
  e.born < began

/-- The flush visits the entries whose home bucket lies in a range of places: the number removed and whether a
parity error was met (R273, R275). (DESIGN CHOICE, log 53.) -/
def State.fdbFlushRange (s : State) (c : CmdIn) (began from_ to_ : Nat) : (Nat × Bool) × State :=
  s.fdb.entries.foldl (fun r e =>
    let home := (fdbBuckets e.2.vlan e.2.mac).1
    if home < from_ || to_ ≤ home then r
    else if e.2.bad then ((r.1.1, true), r.2.fdbParity e.1)
    else if flushMatches c began e.2 then ((r.1.1 + 1, r.1.2), r.2.fdbRemove e.1 e.2)
    else r) ((0, false), s)

/-- The checks of FDB_FLUSH on PARAM (R72, R273, R436). -/
def State.fdbFlushOk (s : State) (c : CmdIn) : Bool :=
  s.destPortOk (c.param % 1024) && (if bitOf c.flags 0 then bits c.param 16 12 != 4095 else bits c.param 16 12 == 0)

/-- A flush that has begun on an engine, or none whose routine still waits. -/
def State.begunRoutine (s : State) (k : RoutineKind) (c : CmdIn) : Option Routine :=
  (s.routineOf k c).filter fun r => !s.reck.waiting.any (·.seq == r.seq)

/-- FDB_FLUSH: what its routine has still to visit (R273). (DESIGN CHOICE, log 53.) -/
def coreFdbFlush (c : CmdIn) (s : State) : CmdRes × State :=
  if !s.fdbFlushOk c then (CmdRes.field, s)
  else if (s.routineOf .fdbFlush c).isNone && s.otherRuns .fdbFlush c then (CmdRes.of .retry, s)
  else
    let (began, from_, removed, met) := match s.begunRoutine .fdbFlush c with
      | some r => (r.began, r.progress * 4096, r.removed, r.met)
      | none => (s.fdb.changes, 0, 0, false)
    let (n, s) := s.fdbFlushRange c began from_ 524288
    (if met || n.2 then CmdRes.of .parity else { CmdRes.ok with result := leBytes 4 (removed + n.1) }, s)

/-- FDB_FLUSH ends without a routine: out of range, or beside another flush (R273). -/
def fdbFlushAtOnce (c : CmdIn) (s : State) : Bool :=
  !s.fdbFlushOk c || ((s.routineOf .fdbFlush c).isNone && s.otherRuns .fdbFlush c)

/-! ### Register checks of the FDB page -/

/-- Refusals of the FDB page beyond reserved bits (Tables 9-7, 9-8). -/
def fdbCheck (_ : State) (off v : Nat) : Status :=
  if off = 0 then (if bits v 16 4 == 0 || bits v 8 8 == 0 || bits v 0 4 == 0 then .range else .ok)
  else if off ≥ 0x1000 then (if bits v 0 12 == 4095 || bits v 14 2 == 3 then .range else .ok)
  else .ok

end Sys2Proof.Machine
end

