-- ==== Sys2Proof/Machine/Flow.lean ====
section
/-! DEFINITION. Session contexts (R278 to R295): keys, the on-die cache, lookups, updates from frames, errors, and the
context commands. -/

namespace Sys2Proof.Machine

/-- Change the session contexts' record. -/
def State.modFlow (s : State) (f : FlowSt → FlowSt) : State := { s with flow := f s.flow }

/-- Store the contexts and show how many are open. -/
def State.setContexts (s : State) (m : SMap Context) : State :=
  (s.modFlow fun x => { x with contexts := m }).set Reg.FLOW_USED_USED m.length

/-! ### Keys and contexts (Tables 10-1, 10-2) -/

/-- The session key of a frame with an L3 anchor (R278). -/
def sessionKey (b : List Byte) (h : Headers) (l3 vlan : Nat) : List Byte :=
  let ports := match h.l4 with | some l4 => if h.tcp || h.udp then padTo 4 (slice b l4 4) else zeros 4 | none => zeros 4
  [BitVec.ofNat 8 (b2n h.v6), BitVec.ofNat 8 h.proto] ++ leBytes 2 vlan ++ ports ++
  (if h.v6 then padTo 16 (slice b (l3 + 8) 16) ++ padTo 16 (slice b (l3 + 24) 16)
    else padTo 16 (padTo 4 (slice b (l3 + 12) 4)) ++ padTo 16 (padTo 4 (slice b (l3 + 16) 4))) ++ zeros 8

/-- A context's 64 bytes. -/
def contextBytes (c : Context) : List Byte :=
  leBytes 8 c.frames ++ leBytes 8 c.bytes ++ leBytes 16 c.first ++ leBytes 16 c.last ++ leBytes 4 c.hwm ++ leBytes 4 c.ooo ++
  leBytes 4 c.policer ++ [BitVec.ofNat 8 c.ovr, BitVec.ofNat 8 (b2n c.seqValid + 2 * b2n c.poisoned), 0, 0]

/-- A FLOW_NEXT record (Table 16-2). -/
def contextRecord (index : Nat) (c : Context) : List Byte :=
  c.key ++ leBytes 4 index ++ zeros 12 ++ contextBytes c

/-- A well-formed key. -/
def sessionKeyOk (k : List Byte) : Bool :=
  leAt k 0 1 < 2 && leAt k 2 2 < 4095 && (leAt k 0 1 == 1 || (allZero (slice k 12 12) && allZero (slice k 28 12))) &&
  allZero (slice k 40 8)

/-- A well-formed session setting (R288, Table 16-2). -/
def settingOk (b : List Byte) : Bool :=
  sessionKeyOk (b.take 48) && leAt b 48 4 < 2 ^ 17 && bits (leAt b 52 1) 4 3 == 0 && allZero (b.drop 53)

/-- The two candidate buckets of a key (R282). (DESIGN CHOICE, log 39.) -/
def sessionBuckets (k : List Byte) : Nat × Nat :=
  let h := Config.flowHash k
  (h.1 % 262144, h.2 % 262144)

/-- The context of a key. -/
def State.contextOf (s : State) (k : List Byte) : Option (Nat × Context) :=
  s.flow.contexts.find? fun e => e.2.key == k

/-! ### The on-die cache (R284) -/

/-- The cache set of an index. (DESIGN CHOICE, log 39.) -/
def setOf (index : Nat) : Nat := Config.cacheSet index % 8192

/-- A context is in the cache. -/
def State.cached (s : State) (index : Nat) : Bool := (mapGet s.flow.cache (setOf index) []).contains index

/-- A cached context has changed. -/
def State.soil (s : State) (index : Nat) : State :=
  s.modFlow fun x => { x with dirty := if x.dirty.contains index then x.dirty else x.dirty ++ [index] }

/-- Take an index out of the cache. -/
def State.uncache (s : State) (index : Nat) : State :=
  s.modFlow fun x => { x with
    cache := mapMod x.cache (setOf index) [] (·.filter (· != index))
    dirty := x.dirty.filter (· != index)
    bad := mapDel x.bad index }

/-! ### Errors (R291, R292) -/

/-- Record a lost context or key. -/
def State.flowPoison (s : State) (key : Bool) (index : Nat) : State :=
  ((s.setB Reg.FLOW_POISON_LOC_KEY key).set Reg.FLOW_POISON_LOC_INDEX index).on Reg.FLOW_STATUS_POISON

/-- A context changes where it is held: in the cache, or in DRAM. -/
def State.storeContext (s : State) (index : Nat) : State :=
  if s.cached index then s.soil index else s.dramWrite 1 (placeBurst index) 4

/-- An uncorrectable context is rewritten as poisoned (R291). (DESIGN CHOICE, log 56.) -/
def State.poisonContext (s : State) (index : Nat) : State :=
  match mapFind s.flow.contexts index with
  | some c =>
    let lost : Context := ⟨c.key, 0, 0, 0, 0, 0, 0, 0, 0, false, true⟩
    State.storeContext ((s.modFlow fun x => { x with contexts := mapPut x.contexts index lost }).flowPoison false index) index
  | none => s

/-- An uncorrectable key frees its place, and the bucket's tag word is written without it (R292). (DESIGN CHOICE, log 56.) -/
def State.loseKey (s : State) (index : Nat) : State :=
  (((s.setContexts (mapDel s.flow.contexts index)).uncache index).flowPoison true index).dramWrite 1 (tagBurst (index / 8)) 1

/-- What an access to a context has found is acted on (R291, R292). -/
def State.contextFound (s : State) (index : Nat) : FetchResult → State
  | .ok => s
  | .contextError => s.poisonContext index
  | .keyError => s.loseKey index

/-- An access to a cached context meets the error that its entry holds (R291, R292). -/
def State.meetCache (s : State) (index : Nat) : State :=
  if s.cached index then
    State.contextFound (s.modFlow fun x => { x with bad := mapDel x.bad index }) index (mapGet s.flow.bad index .ok)
  else s

/-- Use a context: it becomes the latest of its set; a full set evicts the least recently used, which is written
back when it has changed. (DESIGN CHOICE, log 56.) -/
def State.cacheUse (s : State) (index : Nat) : State :=
  let set := setOf index
  let l := index :: (mapGet s.flow.cache set []).filter (· != index)
  let s := (l.drop 16).foldl State.meetCache s
  let out := (l.drop 16).filter s.flow.dirty.contains
  let s := s.modFlow fun x => { x with
    cache := mapSet x.cache set (l.take 16) []
    dirty := x.dirty.filter fun i => !(l.drop 16).contains i }
  out.foldl (fun s i => s.dramWrite 1 (placeBurst i) 4) s

/-- The tag words of a key's two buckets are read from DRAM: whether one of them was poisoned. -/
def State.readTags (s : State) (key : List Byte) (r : FetchRead) : Bool × State :=
  let b := sessionBuckets key
  let (x, s) := s.dramRead 1 (tagBurst b.1) 1 r.tag0
  let (y, s) := s.dramRead 1 (tagBurst b.2) 1 r.tag1
  (!x.isEmpty || !y.isEmpty, s)

/-- The place of a context is read from DRAM: what its bursts hold (Table 14-2). -/
def State.readPlace (s : State) (index : Nat) (o : ReadOutcome) : FetchResult × State :=
  let (l, s) := s.dramRead 1 (placeBurst index) 4 o
  (if l.isEmpty then .ok else if l.any fun k => decide (k < placeBurst index + 2) then .keyError else .contextError, s)

/-- The buckets and the place of a context are read from DRAM (R279, R291, R292). (DESIGN CHOICE, log 56.) -/
def State.fetchContext (s : State) (index : Nat) (key : List Byte) (r : FetchRead) : FetchResult × State :=
  let (bad, s) := s.readTags key r
  let (e, s) := s.readPlace index r.place
  (if bad then .keyError else e, s)

/-- Reads of a fetch that meet nothing but what stands in DRAM. -/
def cleanFetch : FetchRead := ⟨cleanRead, cleanRead, cleanRead⟩

/-- A command reaches a key: a context in the cache, or the key's buckets and its context in DRAM; an error is acted on. -/
def State.reachContext (s : State) (k : List Byte) : State :=
  match s.contextOf k with
  | some (i, _) =>
    if s.cached i then s.meetCache i
    else
      let (e, s) := s.fetchContext i k cleanFetch
      s.contextFound i e
  | none => (s.readTags k cleanFetch).2

/-! ### Frames -/

/-- The key of a frame's session, if it makes a context lookup (R278). -/
def State.frameKey (s : State) (x : Frame) : Option (List Byte) :=
  let h := walk x.bytes
  match h.l3 with
  | some l3 => if x.mark.flowEn then some (sessionKey x.bytes h l3 (s.frameVlan x.bytes (x.port % 1024))) else none
  | none => none

/-- A context is attached to a frame: its index, policer and Tally class travel with the frame (R236, R281). -/
def attachContext (x : Frame) (index policer ovr : Nat) : Frame :=
  { x with context := some index
           polOver := if bitOf policer 16 then some (policer % 65536) else none
           clsOver := if bitOf ovr 7 then some (ovr % 16) else none }

/-- A frame makes no update: bad FCS, truncated, or 63 bytes or fewer (R255, R285). -/
def frameBad (x : Frame) : Bool :=
  x.truncated || (x.ended && (x.fcs != some .good || x.codeErr || x.bytes.length ≤ 63))

/-- The TCP fields of a context after a frame (R287). -/
def tcpUpdate (c : Context) (b : List Byte) (h : Headers) : Context :=
  match h.l3, h.l4 with
  | some l3, some l4 =>
    if !h.tcp || h.l4p.isNone then c
    else
      let flags := beAt b (l4 + 13) 1
      let ip : Int := if h.v6 then (beAt b (l3 + 4) 2 : Int) - (l4 - (l3 + 40)) else (beAt b (l3 + 2) 2 : Int) - (l4 - l3)
      let len : Int := ip - 4 * bits (beAt b (l4 + 12) 1) 4 4 + b2n (bitOf flags 1) + b2n (bitOf flags 0)
      let seq := beAt b (l4 + 4) 4
      let fin := (((seq : Int) + len) % (2 ^ 32 : Int)).toNat
      let before (a b : Nat) : Bool := decide ((a + 2 ^ 32 - b) % 2 ^ 32 ≥ 2 ^ 31)
      if !c.seqValid then { c with hwm := fin, seqValid := true }
      else if decide (len > 0) && before seq c.hwm then { c with ooo := min (2 ^ 32 - 1) (c.ooo + 1) }
      else if before c.hwm fin then { c with hwm := fin }
      else c
  | _, _ => c

/-- A context after one frame (Table 10-2). -/
def frameUpdate (c : Context) (x : Frame) : Context :=
  let stamp := stampOf x.ingTime x.ingFlags
  let c := { c with
    frames := (c.frames + 1) % 2 ^ 64
    bytes := (c.bytes + x.bytes.length) % 2 ^ 64
    first := if c.frames = 0 then stamp else c.first
    last := if stamp / 2 ^ 16 > c.last / 2 ^ 16 then stamp else c.last }
  tcpUpdate c x.bytes (walk x.bytes)

/-- A frame that has ended updates its context once (R285); one whose context was closed since makes none (R290). -/
def State.contextUpdate (s : State) (f : Nat) : State :=
  match s.frame f with
  | some x => match x.context with
    | some i =>
      if !x.ended || frameBad x || !s.funcUp .flow then s
      else
      let s := s.meetCache i
      match mapFind s.flow.contexts i with
        | some c =>
          if c.key != x.session then s.satAdd Reg.FLOW_STALE_CNT_COUNT 1
          else
            let s := (s.modFlow fun y => { y with contexts := mapPut y.contexts i (frameUpdate c x) }).cacheUse i
            s.soil i
        | none => s.satAdd Reg.FLOW_STALE_CNT_COUNT 1
    | none => s
  | none => s

/-- Frames that wait for a context from DRAM (R280). -/
def State.missQueue (s : State) : Nat := (s.path.frames.filter fun e => e.2.stage == .fetching).length

/-- The context lookup of a frame (R278 to R281). The flag tells whether the frame now waits for DRAM. -/
def State.contextLookup (s : State) (f : Nat) : Bool × State :=
  match s.frame f with
  | some x => match s.frameKey x with
    | some k =>
      if !s.funcUp .flow then (false, s)
      else
        let s := match s.contextOf k with | some (i, _) => s.meetCache i | none => s
        let seen := (s.contextOf k).map fun e => (e.1, e.2.policer, e.2.ovr)
        let x := { x with session := k, seen := seen, lookedAt := s.cycle }
        match seen.filter fun e => s.cached e.1 with
        | some (i, pol, ovr) =>
          (false, (((s.setFrame f (attachContext x i pol ovr)).cacheUse i).satAdd Reg.FLOW_HIT_CNT_COUNT 1).contextUpdate f)
        | none =>
          if s.missQueue ≥ 2048 then (false, (s.satAdd Reg.FLOW_BYPASS_CNT_COUNT 1).on Reg.FLOW_STATUS_BYPASS)
          else (true, s.setFrame f x)
    | none => (false, s)
  | none => (false, s)

/-- The context that a waiting frame's lookup saw arrives: read from DRAM, unless another fetch has brought it into the cache. -/
def State.contextArrives (s : State) (i : Nat) (k : List Byte) (r : FetchRead) : FetchResult × State :=
  let here := match mapFind s.flow.contexts i with | some c => c.key == k | none => false
  if here && s.cached i then (mapGet s.flow.bad i .ok, s.meetCache i)
  else
    let (e, s) := s.fetchContext i k r
    (e, if here then (s.contextFound i e) else s)

/-- The buckets and the context of a waiting frame arrive from DRAM (R279, R291, R292): the frame takes what its lookup saw (R235,
R290). (DESIGN CHOICE, log 56.) -/
def State.fetchDone (s : State) (f : Nat) (r : FetchRead) : State :=
  match s.frame f with
  | some x => match x.seen with
    | none => State.satAdd (s.readTags x.session r).2 Reg.FLOW_ABSENT_CNT_COUNT 1
    | some (i, pol, ovr) =>
      let (e, s) := s.contextArrives i x.session r
      if e = .keyError then s.satAdd Reg.FLOW_ABSENT_CNT_COUNT 1
      else
        let x := if e = .ok then attachContext x i pol ovr else attachContext x i 0 0
        let s := if (mapFind s.flow.contexts i).any (·.key == x.session) then s.cacheUse i else s
        ((s.setFrame f x).satAdd Reg.FLOW_MISS_CNT_COUNT 1).contextUpdate f
  | none => s

/-- A request to a pseudo-channel has not completed 50 µs after it entered the controller (R388): a queued write, or a read of a context
fetch. (DESIGN CHOICE, log 94.) -/
def State.overdue (s : State) (pc : Nat) : Bool :=
  let late (c : Nat) : Bool := decide (s.cycle ≥ c + 50 * usCycles)
  let reads (x : Frame) : List Nat := let b := sessionBuckets x.session
    [tagBurst b.1, tagBurst b.2] ++ match x.seen with | some e => [placeBurst e.1] | none => []
  (mapGet s.dram.writes pc []).any (fun w => late w.2) ||
  s.path.frames.any fun e => e.2.stage == .fetching && late e.2.lookedAt && (reads e.2).any fun b => pcOf (granuleOf b) == pc

/-! ### Commands (Table 10-3) -/

/-- An index may be given to a new context: it is free and was not closed within 20 µs (R290). (DESIGN CHOICE, log 56.) -/
def State.indexFree (s : State) (i : Nat) : Bool :=
  (mapFind s.flow.contexts i).isNone &&
  (match mapFind s.flow.closedAt i with | some c => decide (s.cycle > c + 20 * usCycles) | none => true)

/-- FLOW_OPEN (R282, R283, R288). -/
def coreFlowOpen (c : CmdIn) (s : State) : CmdRes × State :=
  let b := c.input
  let k := b.take 48
  if !settingOk b then (CmdRes.input, s)
  else
    let s := s.reachContext k
    if (s.contextOf k).isSome then (CmdRes.of .exists, s)
    else
      let bk := sessionBuckets k
      let places := (List.range 8).map (8 * bk.1 + ·) ++ (List.range 8).map (8 * bk.2 + ·)
      match places.find? s.indexFree with
      | none => (CmdRes.of .full, s.on Reg.FLOW_STATUS_FULL)
      | some i =>
        let x : Context := ⟨k, 0, 0, 0, 0, 0, 0, leAt b 48 4, leAt b 52 1, false, false⟩
        let s := ((s.setContexts (mapPut s.flow.contexts i x)).dramWrite 1 (tagBurst (i / 8)) 1).dramWrite 1 (placeBurst i) 4
        ({ CmdRes.ok with result := leBytes 4 i },
         s.mirrorItem 0x30 (contextRecord i x) fun w => w.1 == 0x30 && w.2 == k)

/-- FLOW_MODIFY (R288, R291). -/
def coreFlowModify (c : CmdIn) (s : State) : CmdRes × State :=
  let b := c.input
  let k := b.take 48
  if !settingOk b then (CmdRes.input, s)
  else
    let s := s.reachContext k
    match s.contextOf k with
    | none => (CmdRes.of .notFound, s)
    | some (i, x) =>
      let x := { x with policer := leAt b 48 4, ovr := leAt b 52 1, poisoned := false }
      let s := s.setContexts (mapPut s.flow.contexts i x)
      let s := s.storeContext i
      (CmdRes.ok, s.mirrorItem 0x31 b fun w => w.1 == 0x30 && w.2 == k)

/-- The result of FLOW_READ, FLOW_CLEAR and FLOW_CLOSE. -/
def contextResult (i : Nat) (x : Context) : CmdRes :=
  { CmdRes.ok with result := leBytes 4 i, out := contextBytes x }

/-- FLOW_READ (R289). -/
def coreFlowRead (c : CmdIn) (s : State) : CmdRes × State :=
  if !sessionKeyOk c.input then (CmdRes.input, s)
  else
    let s := s.reachContext c.input
    match s.contextOf c.input with
    | none => (CmdRes.of .notFound, s)
    | some (i, x) => (contextResult i x, s)

/-- FLOW_CLEAR (R289, R291). -/
def coreFlowClear (c : CmdIn) (s : State) : CmdRes × State :=
  if !sessionKeyOk c.input then (CmdRes.input, s)
  else
    let s := s.reachContext c.input
    match s.contextOf c.input with
    | none => (CmdRes.of .notFound, s)
    | some (i, x) =>
      let s := s.setContexts (mapPut s.flow.contexts i ⟨x.key, 0, 0, 0, 0, 0, 0, x.policer, x.ovr, false, false⟩)
      (contextResult i x, s.storeContext i)

/-- FLOW_CLOSE (R289, R290). -/
def coreFlowClose (c : CmdIn) (s : State) : CmdRes × State :=
  if !sessionKeyOk c.input then (CmdRes.input, s)
  else
    let s := s.reachContext c.input
    match s.contextOf c.input with
    | none => (CmdRes.of .notFound, s)
    | some (i, x) =>
      let s := (s.setContexts (mapDel s.flow.contexts i)).uncache i
      let s := (s.modFlow fun y => { y with closedAt := mapPut y.closedAt i s.cycle }).dramWrite 1 (tagBurst (i / 8)) 1
      (contextResult i x, s.mirrorItem 0x34 c.input fun w => w.1 == 0x30 && w.2 == c.input)

/-- A walk reaches an index: a cached context, or its place in DRAM; an error is acted on (R291, R292). -/
def State.reachIndex (s : State) (i : Nat) : State :=
  if s.cached i then s.meetCache i
  else
    let (e, s) := s.readPlace i cleanRead
    s.contextFound i e

/-- FLOW_NEXT (R288, R289, R442). (DEDUCED, log 59.) -/
def coreFlowNext (c : CmdIn) (s : State) : CmdRes × State :=
  let n := bits c.param 24 4
  let start := bitOf c.flags 0
  if n < 1 || n > 8 || (start && bits c.param 0 21 != 0) then (CmdRes.field, s)
  else
    let later := s.flow.contexts.filter fun e => start || bits c.param 0 21 < e.1
    let s := (later.take n).foldl (fun s e => s.reachIndex e.1) s
    let l := s.flow.contexts.filter fun e => (later.take n).any (·.1 == e.1)
    ({ CmdRes.ok with end_ := later.length ≤ n, result := leBytes 1 l.length,
                      out := l.flatMap fun e => contextRecord e.1 e.2 }, s)

end Sys2Proof.Machine
end

