-- ==== Sys2Proof/Machine/Lpm.lean ====
section
/-! DEFINITION. The LPM store (R262 to R275): groups and units, inserts with their moves, background moves, lookups,
parity removal and its commands. -/

namespace Sys2Proof.Machine

/-- A unit of a group: one place, or the two places of a slot of an IPv6 group /0 to /64 (R263). -/
abbrev LpmUnit := List (Option LpmEntry)

/-! ### Groups -/

/-- The units of a length group in row order. (DESIGN CHOICE, log 55.) -/
def LpmSt.units (m : LpmSt) (v6 : Bool) (len : Nat) : List LpmUnit := mapGet (if v6 then m.v6 else m.v4) len []

/-- Store them. -/
def LpmSt.setUnits (m : LpmSt) (v6 : Bool) (len : Nat) (l : List LpmUnit) : LpmSt :=
  if v6 then { m with v6 := mapSet m.v6 len l [] } else { m with v4 := mapSet m.v4 len l [] }

/-- The rows of one unit of a family (R262). -/
def unitRows (v6 : Bool) : Nat := if v6 then 4 else 1

/-- An empty unit of a group. -/
def emptyUnit (v6 : Bool) (len : Nat) : LpmUnit := if v6 && len ≤ 64 then [none, none] else [none]

/-- The rows of the free pool. -/
def LpmSt.pool (m : LpmSt) : Nat :=
  131072 - 4 * (m.v6.map fun e => e.2.length).sum - (m.v4.map fun e => e.2.length).sum

/-- A unit without a prefix. -/
def unitFree (u : LpmUnit) : Bool := u.all Option.isNone

/-- A group has a free place. -/
def groupFree (l : List LpmUnit) : Bool := l.any fun u => u.any Option.isNone

/-- The lengths of a family. -/
def maxLen (v6 : Bool) : Nat := if v6 then 128 else 32

/-- The groups between a group and the pool, nearest first (R263). -/
def poolSide (v6 : Bool) (len : Nat) : List Nat :=
  if v6 then (List.range len).reverse else (List.range (32 - len)).map (len + 1 + ·)

/-- The groups on its other side, nearest first. -/
def farSide (v6 : Bool) (len : Nat) : List Nat :=
  if v6 then (List.range (128 - len)).map (len + 1 + ·) else (List.range len).reverse

/-- The nearest wholly free unit along a list of groups: the non-empty groups crossed and the group that has it;
`pool` tells that the list ends at the pool and the pool can give a unit (R264). (DESIGN CHOICE, log 55.) -/
def nearest (m : LpmSt) (v6 pool : Bool) : List Nat → List Nat → Option (List Nat × Option Nat)
  | [], crossed => if pool then some (crossed, none) else none
  | k :: l, crossed =>
    let u := m.units v6 k
    if u.any unitFree then some (crossed, some k)
    else nearest m v6 pool l (if u.isEmpty then crossed else crossed ++ [k])

/-- Where the nearest free unit for a group lies (R264): whether toward the pool, the non-empty groups between, nearest first, and the
group that has it, none for the pool itself; `poolOnly` looks to the pool alone (R267). (DESIGN CHOICE, log 55.) -/
def freeUnit (m : LpmSt) (v6 : Bool) (len : Nat) (poolOnly : Bool) : Option (Bool × List Nat × Option Nat) :=
  if poolOnly then
    if m.pool ≥ unitRows v6 then some (true, (poolSide v6 len).filter (fun k => !(m.units v6 k).isEmpty), none) else none
  else
    let p := nearest m v6 (m.pool ≥ unitRows v6) (poolSide v6 len) []
    let f := nearest m v6 false (farSide v6 len) []
    match p, f with
    | some a, some b => if b.1.length < a.1.length then some (false, b) else some (true, a)
    | some a, none => some (true, a)
    | none, some b => some (false, b)
    | none, none => none

/-- The units of a group seen from the side on which they are crossed. -/
def turned (first : Bool) (l : List LpmUnit) : List LpmUnit := if first then l else l.reverse

/-- A unit cleared. -/
def emptied (u : LpmUnit) : LpmUnit := u.map fun _ => none

/-- The near-edge unit of a group next to the free space is copied across to it, which frees the unit at the near edge (R264): the unit
copied and the store. -/
def crossGroup (m : LpmSt) (v6 first : Bool) (k : Nat) : Option (LpmUnit × LpmSt) :=
  match turned first (m.units v6 k) with
  | u :: rest => some (u, m.setUnits v6 k (turned first (emptied u :: (rest ++ [u]))))
  | [] => none

/-- The next move that brings the free unit found toward a group (R264, R265): the unit copied and the store after it; none when the
free unit lies next to the group. A free unit inside its own group first comes to the group's near edge. (DESIGN CHOICE, log 55.) -/
def nextMove (m : LpmSt) (v6 : Bool) (at_ : Bool × List Nat × Option Nat) : Option (LpmUnit × LpmSt) :=
  let first := at_.1 == v6
  let cross (m : LpmSt) : Option (LpmUnit × LpmSt) := at_.2.1.getLast?.bind (crossGroup m v6 first)
  match at_.2.2 with
  | none => cross m
  | some t => match turned first (m.units v6 t) with
    | u :: rest =>
      if unitFree u then (if at_.2.1.isEmpty then none else cross (m.setUnits v6 t (turned first rest)))
      else (rest.findIdx? unitFree).map fun i => (u, m.setUnits v6 t (turned first (emptied u :: modAt rest i fun _ => u)))
    | [] => none

/-- A group takes the free unit that lies next to it. -/
def takeUnit (m : LpmSt) (v6 : Bool) (len : Nat) (at_ : Bool × List Nat × Option Nat) : LpmSt :=
  let first := at_.1 == v6
  let m := match at_.2.2 with | some t => m.setUnits v6 t (turned first (turned first (m.units v6 t)).tail) | none => m
  let own := m.units v6 len
  m.setUnits v6 len (if first then own ++ [emptyUnit v6 len] else emptyUnit v6 len :: own)

/-- All the moves for a group, then the unit is its own: the units copied, and the store. At most 129 moves are ever needed (R264). -/
def moveAll : Nat → LpmSt → Bool → Nat → Bool → List LpmUnit → List LpmUnit × LpmSt
  | 0, m, _, _, _, l => (l, m)
  | n + 1, m, v6, len, poolOnly, l =>
    match freeUnit m v6 len poolOnly with
    | none => (l, m)
    | some a => match nextMove m v6 a with
      | some (u, m) => moveAll n m v6 len poolOnly (l ++ [u])
      | none => (l, takeUnit m v6 len a)

/-- A group gains a free unit from the nearest place that has one (R264): the units moved, and the store. -/
def gainUnit (m : LpmSt) (v6 : Bool) (len : Nat) (poolOnly : Bool) : Option (List LpmUnit × LpmSt) :=
  (freeUnit m v6 len poolOnly).map fun _ => moveAll 130 m v6 len poolOnly []

/-- Fill the first free place of a unit. -/
def fillUnit (e : LpmEntry) : LpmUnit → LpmUnit
  | [] => []
  | none :: l => some e :: l
  | some x :: l => some x :: fillUnit e l

/-- Fill the first free place of a group. -/
def fillGroup (e : LpmEntry) : List LpmUnit → List LpmUnit
  | [] => []
  | u :: l => if u.any Option.isNone then fillUnit e u :: l else u :: fillGroup e l

/-- Apply a change to every entry of a group that satisfies a test. -/
def changeGroup (p : LpmEntry → Bool) (f : LpmEntry → Option LpmEntry) (l : List LpmUnit) : List LpmUnit :=
  l.map fun u => u.map fun o => match o with | some e => if p e then f e else some e | none => none

/-! ### Entries and rows -/

/-- The entries of units that begin at a row, with their rows; `step` rows a place. -/
def rowsOf (base rows : Nat) (l : List LpmUnit) : List (Nat × LpmEntry) :=
  (l.zip (List.range l.length)).flatMap fun u =>
    (u.1.zip (List.range u.1.length)).filterMap fun o => o.1.map fun e => (base + u.2 * rows + o.2 * (rows / u.1.length), e)

/-- The entries of groups in row order. -/
def groupRows (m : LpmSt) (v6 : Bool) : List Nat → Nat → List (Nat × LpmEntry)
  | [], _ => []
  | k :: l, base => rowsOf base (unitRows v6) (m.units v6 k) ++ groupRows m v6 l (base + unitRows v6 * (m.units v6 k).length)

/-- Every entry with its row (R263). -/
def LpmSt.rows (m : LpmSt) : List (Nat × LpmEntry) :=
  groupRows m true (List.range 129).reverse 0 ++
  groupRows m false (List.range 33).reverse (131072 - (m.v4.map fun e => e.2.length).sum)

/-- Every entry. -/
def LpmSt.entries (m : LpmSt) : List LpmEntry :=
  (m.v4.flatMap fun g => g.2.flatMap fun u => u.filterMap id) ++ m.v6.flatMap fun g => g.2.flatMap fun u => u.filterMap id

/-- Store the LPM store and show its use (Table 9-11). -/
def State.setLpm (s : State) (m : LpmSt) : State :=
  let n4 := (m.entries.filter fun e => !e.v6).length
  let l6 := m.entries.filter fun e => e.v6
  let rows := n4 + (l6.map fun e => if e.len ≤ 64 then 2 else 4).sum
  ((State.set { s with lpm := m } Reg.LPM_USED_USED rows).set Reg.LPM_V4_COUNT_COUNT n4).set Reg.LPM_V6_COUNT_COUNT l6.length

/-- Same family, length and prefix. -/
def sameKey (a b : LpmEntry) : Bool := a.v6 == b.v6 && a.len == b.len && a.pfx == b.pfx

/-- An LPM entry's 32 bytes (Table 9-5). -/
def lpmBytes (e : LpmEntry) : List Byte :=
  [BitVec.ofNat 8 (b2n e.v6), BitVec.ofNat 8 e.len, BitVec.ofNat 8 e.kind, 0] ++ leBytes 2 e.dest ++ zeros 2 ++
  padTo 16 (beBytes (if e.v6 then 16 else 4) e.pfx) ++ zeros 8

/-- Its key. -/
def lpmKeyBytes (e : LpmEntry) : List Byte := lpmBytes { e with kind := 0, dest := 0 }

/-- The entry that 32 bytes spell. -/
def lpmOf (b : List Byte) : LpmEntry :=
  let v6 := bitOf (leAt b 0 1) 0
  { v6 := v6, len := leAt b 1 1, pfx := beAt b 8 (if v6 then 16 else 4), kind := leAt b 2 1, dest := leAt b 4 2, born := 0, bad := false }

/-- The address bits of a family. -/
def addrBits (v6 : Bool) : Nat := if v6 then 128 else 32

/-- The checks on family, length, prefix and the zero bytes (R270). (DESIGN CHOICE, log 55.) -/
def lpmKeyForm (b : List Byte) : Bool :=
  let v6 := bitOf (leAt b 0 1) 0
  leAt b 0 1 < 2 && leAt b 1 1 ≤ addrBits v6 && leAt b 3 1 == 0 && leAt b 6 2 == 0 &&
  (v6 || allZero (slice b 12 12)) && allZero (b.drop 24)

/-- No bit of the prefix lies beyond its length. -/
def prefixOk (b : List Byte) : Bool :=
  let e := lpmOf b
  e.pfx % 2 ^ (addrBits e.v6 - e.len) == 0

/-- A well-formed key. -/
def lpmKeyOk (b : List Byte) : Bool := lpmKeyForm b && prefixOk b && leAt b 2 1 == 0 && leAt b 4 2 == 0

/-- A change goes to the mirror stream (Table 20-4). -/
def State.mirrorLpm (s : State) (present : Bool) (e : LpmEntry) : State :=
  s.mirrorItem (if present then 0x28 else 0x29) (if present then lpmBytes e else lpmKeyBytes e)
    fun w => w.1 == 0x28 && w.2 == lpmKeyBytes e

/-- Remove an entry (R268). -/
def State.lpmRemove (s : State) (e : LpmEntry) : State :=
  s.setLpm (s.lpm.setUnits e.v6 e.len (changeGroup (sameKey e) (fun _ => none) (s.lpm.units e.v6 e.len)))

/-- An entry that fails its parity check is removed and recorded (R275). -/
def State.lpmParity (s : State) (e : LpmEntry) : State :=
  let row := match s.lpm.rows.find? fun r => sameKey r.2 e with | some r => r.1 | none => 0
  (((s.lpmRemove e).set Reg.LPM_PARITY_LOC_ROW row).satAdd Reg.LPM_PARITY_CNT_COUNT 1).on Reg.LPM_STATUS_PARITY

/-- An access to a prefix: the entry or nothing, and whether it met a parity error. -/
def State.lpmAccess (s : State) (k : LpmEntry) : Option LpmEntry × Bool × State :=
  match s.lpm.entries.find? (sameKey k) with
  | some e => if e.bad then (none, true, s.lpmParity e) else (some e, false, s)
  | none => (none, false, s)

/-- The failing entries among the units that moves copy are removed (R275); whether there were any. -/
def State.checkUnits (s : State) (l : List LpmUnit) : Bool × State :=
  let bad := (l.flatMap fun u => u.filterMap id).filter (·.bad)
  (!bad.isEmpty, bad.foldl State.lpmParity s)

/-! ### Lookup -/

/-- A prefix matches an address. -/
def lpmHits (v6 : Bool) (addr : Nat) (e : LpmEntry) : Bool :=
  e.v6 == v6 && e.pfx / 2 ^ (addrBits v6 - e.len) == addr / 2 ^ (addrBits v6 - e.len)

/-- The longest good match, longest first; entries that fail parity are removed on the way (R262, R275). -/
def lpmWalk (v6 : Bool) (addr : Nat) : List LpmEntry → Bool → State → Option LpmEntry × Bool × State
  | [], met, s => (none, met, s)
  | e :: l, met, s => if e.bad then lpmWalk v6 addr l true (s.lpmParity e) else (some e, met, s)

/-- The entry that a frame to an address hits, and whether the lookup met a parity error. -/
def State.lpmMatch (s : State) (v6 : Bool) (addr : Nat) : Option LpmEntry × Bool × State :=
  let l := (List.range 129).reverse.flatMap fun n => (s.lpm.entries.filter fun e => e.len == n && lpmHits v6 addr e)
  lpmWalk v6 addr l false s

/-! ### Background moves (R267) -/

/-- The number of a group in row order: 0 to 128 for IPv6 /128 to /0, then 129 to 161 for IPv4 /32 to /0. (DESIGN CHOICE, log 55.) -/
def groupNum (v6 : Bool) (len : Nat) : Nat := if v6 then 128 - len else 129 + (32 - len)

/-- The family and length of a group number. -/
def groupOf (n : Nat) : Bool × Nat := if n < 129 then (true, 128 - n) else (false, 161 - n)

/-- A non-empty group that has no free unit, while the pool is large enough (R267). -/
def State.wantsUnit (s : State) (n : Nat) : Bool :=
  let g := groupOf n
  let u := s.lpm.units g.1 g.2
  s.lpm.pool ≥ 4096 && !u.isEmpty && !groupFree u

/-- Request the background moves that are now wanted. -/
def State.requestMoves (s : State) : State :=
  (List.range 162).foldl (fun s n =>
    if s.wantsUnit n && !s.hasRoutine (· == .lpmMove n) then s.request (.lpmMove n) none else s) s

/-- One move for a group: whether it met a failing entry, which it removes instead (R265, R275); none when no move is left. -/
def State.moveStep (s : State) (v6 : Bool) (len : Nat) (poolOnly : Bool) : Option (Bool × State) :=
  ((freeUnit s.lpm v6 len poolOnly).bind (nextMove s.lpm v6)).map fun r =>
    let (bad, t) := s.checkUnits [r.1]
    if bad then (true, t) else (false, { s with lpm := r.2 })

/-- A background move restores the free unit of a group, once its routine has an engine (R267, R483). -/
def State.backgroundMove (s : State) (n : Nat) : State :=
  if !s.carried (.lpmMove n) none then s
  else
    let s := s.endRoutine (· == .lpmMove n)
    if !s.wantsUnit n || !s.funcUp .lpm then s
    else
      let g := groupOf n
      match gainUnit s.lpm g.1 g.2 true with
      | some (l, m) =>
        let (bad, t) := s.checkUnits l
        State.requestMoves (if bad then t else { s with lpm := m })
      | none => s

/-! ### Commands -/

/-- Write a new prefix into a group that has a free place: the last step of an insert (R265). -/
def State.writePrefix (s : State) (m : LpmSt) (e : LpmEntry) : State :=
  let m := m.setUnits e.v6 e.len (fillGroup { e with born := m.changes } (m.units e.v6 e.len))
  State.requestMoves (s.setLpm { m with changes := m.changes + 1 })

/-- Insert an absent prefix (R264, R268, R275): OK with the number of moves, those of its routine's checkpoints included; FULL; or
PARITY when a move met a failing entry. (DESIGN CHOICE, log 55.) -/
def State.lpmPlace (s : State) (e : LpmEntry) (moved : Nat) : CmdRes × State :=
  let done (n : Nat) : CmdRes := { CmdRes.ok with result := leBytes 2 n }
  if groupFree (s.lpm.units e.v6 e.len) then (done moved, s.writePrefix s.lpm e)
  else match gainUnit s.lpm e.v6 e.len false with
    | none => (CmdRes.of .full, s.on Reg.LPM_STATUS_FULL)
    | some (l, m) =>
      let (bad, t) := s.checkUnits l
      if bad then (CmdRes.of .parity, t) else (done (moved + l.length), s.writePrefix m e)

/-- Replace the prefix of the same key (R271). -/
def State.lpmPut (s : State) (e : LpmEntry) : State :=
  let m := s.lpm
  let own := changeGroup (sameKey e) (fun _ => some { e with born := m.changes }) (m.units e.v6 e.len)
  s.setLpm { m.setUnits e.v6 e.len own with changes := m.changes + 1 }

/-- The moves that the routine of an insert has made at its checkpoints, and whether one met a failing entry. -/
def State.movesMade (s : State) (c : CmdIn) : Nat × Bool :=
  match s.routineOf .lpmInsert c with | some r => (r.removed, r.met) | none => (0, false)

/-- The checks on an entry of LPM_INSERT (R270). -/
def State.lpmEntryOk (s : State) (b : List Byte) : Bool :=
  lpmKeyForm b && prefixOk b && s.destOk (lpmOf b).kind (lpmOf b).dest

/-- LPM_INSERT (R264, R268, R270, R271, R275). -/
def coreLpmInsert (c : CmdIn) (s : State) : CmdRes × State :=
  let e := lpmOf c.input
  let (moved, met) := s.movesMade c
  if !s.lpmEntryOk c.input then (CmdRes.input, s)
  else match s.lpmAccess e with
    | (none, bad, s) =>
      if bad || met then (CmdRes.of .parity, s)
      else
        let (r, s) := s.lpmPlace e moved
        (r, if r.st = .ok then s.mirrorLpm true e else s)
    | (some _, _, s) =>
      if bitOf c.flags 0 then ({ CmdRes.ok with result := leBytes 2 0 }, (s.lpmPut e).mirrorLpm true e) else (CmdRes.of .exists, s)

/-- The next move of an insert that is held at a checkpoint (R266); none when only its last step is left. -/
def State.insertStep (s : State) (c : CmdIn) : Option (Bool × State) :=
  let e := lpmOf c.input
  if !s.lpmEntryOk c.input || groupFree (s.lpm.units e.v6 e.len) || s.lpm.entries.any (sameKey e) then none
  else s.moveStep e.v6 e.len false

/-- LPM_DELETE (R268, R271). -/
def coreLpmDelete (c : CmdIn) (s : State) : CmdRes × State :=
  if !lpmKeyOk c.input then (CmdRes.input, s)
  else match s.lpmAccess (lpmOf c.input) with
    | (none, bad, s) => (CmdRes.of (if bad then .parity else .notFound), s)
    | (some e, _, s) => (CmdRes.ok, (s.lpmRemove e).mirrorLpm false e)

/-- LPM_SEARCH (R271). -/
def coreLpmSearch (c : CmdIn) (s : State) : CmdRes × State :=
  if !lpmKeyOk c.input then (CmdRes.input, s)
  else match s.lpmAccess (lpmOf c.input) with
    | (none, bad, s) => (CmdRes.of (if bad then .parity else .notFound), s)
    | (some e, _, s) => ({ CmdRes.ok with result := lpmBytes e }, s)

/-- LPM_MATCH (R271, R275). (DESIGN CHOICE, log 55.) -/
def coreLpmMatch (c : CmdIn) (s : State) : CmdRes × State :=
  let b := c.input
  let k := lpmOf b
  if !lpmKeyForm b || leAt b 1 1 != 0 || leAt b 2 1 != 0 || leAt b 4 2 != 0 then (CmdRes.input, s)
  else match s.lpmMatch k.v6 k.pfx with
    | (_, true, s) => (CmdRes.of .parity, s)
    | (none, _, s) => (CmdRes.of .notFound, s)
    | (some e, _, s) => ({ CmdRes.ok with result := lpmBytes e }, s)

/-- The order of LPM_NEXT: IPv4 first, then prefix, then length (R272). -/
def lpmKeyNat (e : LpmEntry) : Nat := b2n e.v6 * 2 ^ 136 + e.pfx * 256 + e.len

/-- LPM_NEXT (R272, R442). (DEDUCED, log 59.) -/
def coreLpmNext (c : CmdIn) (s : State) : CmdRes × State :=
  let start := bitOf c.flags 0
  if c.param < 1 || c.param > 16 then (CmdRes.field, s)
  else if (if start then !allZero c.input else !lpmKeyOk c.input) then (CmdRes.input, s)
  else
    let all := s.lpm.entries.map fun e => (lpmKeyNat e, e)
    let got := walkFrom (c.param + 1) (if start then none else some (lpmKeyNat (lpmOf c.input))) all
    let l := (got.take c.param).map (·.2)
    match l.find? fun e => e.bad with
    | some e => (CmdRes.of .parity, s.lpmParity e)
    | none => ({ CmdRes.ok with end_ := got.length ≤ c.param, result := leBytes 1 l.length, out := l.flatMap lpmBytes }, s)

/-- The flush visits the rows of a range (R274, R275): a prefix made or replaced after it began stays. -/
def State.lpmFlushRange (s : State) (c : CmdIn) (began from_ to_ : Nat) : (Nat × Bool) × State :=
  s.lpm.rows.foldl (fun r x =>
    let e := x.2
    if x.1 < from_ || to_ ≤ x.1 then r
    else if e.bad then ((r.1.1, true), r.2.lpmParity e)
    else if e.kind == 0 && e.dest == c.param % 1024 && e.born < began then ((r.1.1 + 1, r.1.2), (r.2.lpmRemove e).mirrorLpm false e)
    else r) ((0, false), s)

/-- LPM_FLUSH: what its routine has still to visit (R274). -/
def coreLpmFlush (c : CmdIn) (s : State) : CmdRes × State :=
  if !s.destPortOk (c.param % 1024) then (CmdRes.field, s)
  else if (s.routineOf .lpmFlush c).isNone && s.otherRuns .lpmFlush c then (CmdRes.of .retry, s)
  else
    let (began, from_, removed, met) := match s.begunRoutine .lpmFlush c with
      | some r => (r.began, r.progress * 4096, r.removed, r.met)
      | none => (s.lpm.changes, 0, 0, false)
    let (n, s) := s.lpmFlushRange c began from_ 131072
    (if met || n.2 then CmdRes.of .parity else { CmdRes.ok with result := leBytes 4 (removed + n.1) }, s)

/-- LPM_FLUSH ends without a routine: out of range, or beside another flush (R273, R274). -/
def lpmFlushAtOnce (c : CmdIn) (s : State) : Bool :=
  !s.destPortOk (c.param % 1024) || ((s.routineOf .lpmFlush c).isNone && s.otherRuns .lpmFlush c)

/-- Refusals of LPM_CTRL (Table 9-11). -/
def lpmCheck (_ : State) (off v : Nat) : Status :=
  if off = 0 && (bits v 2 2 == 3 || bits v 0 2 == 3) then .range else .ok

end Sys2Proof.Machine
end

