-- ==== Sys2Proof/Machine/Rules.lean ====
section
/-! DEFINITION. The rule store and its versions (R210 to R240): staging, commits, retirement, and the match of
a frame against the rules of its version (R213). -/

namespace Sys2Proof.Machine

/-- The rule numbers of a live tag with their physical entries. -/
def State.ruleSet (s : State) (t : Nat) : SMap Nat := mapGet s.rules.sets t []

/-- The state of a tag (Table 8-1): 0 FREE, 1 CURRENT, 2 DRAINING, 3 COMMITTING. -/
def State.tagState (s : State) (t : Nat) : Nat := s.get (Reg.RULE_VER_STATE_STATE t)

/-- The CURRENT tag. -/
def State.currentTag (s : State) : Nat := s.get Reg.RULE_STATUS_CURRENT

/-- The staged set: the CURRENT version plus the staged changes (R224). (DESIGN CHOICE, log 52.) -/
def State.stagedSet (s : State) : SMap Nat :=
  s.rules.changes.foldl (fun m c => match c.2 with | some e => mapPut m c.1 e | none => mapDel m c.1)
    (s.ruleSet s.currentTag)

/-- Live tags: CURRENT, DRAINING or COMMITTING (R222). -/
def State.liveTags (s : State) : List Nat := (List.range 4).filter fun t => s.tagState t != 0

/-- The physical entries that a live version or the staged set holds (R225). -/
def State.heldEntries (s : State) : List Nat :=
  (s.liveTags.flatMap fun t => (s.ruleSet t).map (·.2)) ++ s.rules.changes.filterMap (·.2)

/-- Free the entries that nothing holds, and show the store's use (R225, R238). -/
def State.sweepEntries (s : State) : State :=
  let held := s.heldEntries
  let e := s.rules.entries.filter fun x => held.contains x.1
  let s := { s with rules := { s.rules with entries := e } }
  (s.set Reg.RULE_STORE_USED_USED e.length).set Reg.RULE_STAGE_STATUS_CHANGES s.rules.changes.length

/-- A physical entry. -/
def State.ruleEntry (s : State) (e : Nat) : RuleEntry := mapGet s.rules.entries e ⟨[], false, false⟩

/-- Every rule of a live version and of the staged set. -/
def State.allRules (s : State) : List (List Byte) := s.rules.entries.map fun e => e.2.bytes

/-! ### Fields of a rule entry (Tables 7-5 and 7-6) -/

/-- The rule number. -/
def ruleNum (b : List Byte) : Nat := leAt b 0 2
/-- The profile it applies to. -/
def ruleProfile (b : List Byte) : Nat := leAt b 2 1
/-- Range term `i`. -/
def ruleTerm (b : List Byte) (i : Nat) : Nat := leAt b (84 + 2 * i) 2
/-- The action is a CARRY. -/
def ruleCarries (b : List Byte) : Bool := bitOf (leAt b 92 1) 0
/-- The profile of the carry pass. -/
def ruleCarryProfile (b : List Byte) : Nat := leAt b 100 2
/-- The tag of the carry pass. -/
def ruleCarryTag (b : List Byte) : Nat := leAt b 102 2

/-- The MARK values of a rule (Table 7-7); for a CARRY rule its fall-back. -/
def ruleMark (b : List Byte) : Mark :=
  let a := leAt b 93 1
  let q := leAt b 94 1
  let pol := leAt b 96 4
  { cls := a % 16, colour := bits a 4 2, queue := q % 16, fwd := bits q 4 2, mirror := leAt b 95 1,
    policer := if bitOf pol 16 then some (pol % 65536) else none, flowEn := bitOf a 7, stampRet := bitOf a 6 }

/-- The port default MARK (R218). -/
def State.defaultMark (s : State) (p : Nat) : Mark :=
  { mark0 with cls := s.get (Reg.PARSE_PORT_CFG_DEF_CLASS p), colour := s.get (Reg.PARSE_PORT_CFG_DEF_COLOUR p),
               queue := s.get (Reg.PARSE_PORT_CFG_DEF_QUEUE p), fwd := s.get (Reg.PARSE_PORT_CFG_DEF_FWD p) }

/-! ### Matching -/

/-- A comparator. -/
def State.comparator (s : State) (k : Nat) : Comparator := mapGet s.rules.comparators k comparator0

/-- A range term holds for the range inputs `v` (R210, R213). -/
def State.termHolds (s : State) (t : Nat) (v : List Nat) : Bool :=
  if !bitOf t 15 then true
  else
    let c := s.comparator (t % 1024)
    let x := v.getD c.source 0
    (c.lower ≤ x && x ≤ c.upper) != bitOf t 14

/-- A rule matches a key and range inputs under a profile (R213). -/
def State.ruleMatches (s : State) (b : List Byte) (profile : Nat) (key : List Byte) (v : List Nat) : Bool :=
  ruleProfile b == profile &&
  ((key.zip (slice b 4 40)).zip (slice b 44 40)).all (fun x => (x.1.1 ^^^ x.1.2) &&& x.2 == 0) &&
  (List.range 4).all fun i => s.termHolds (ruleTerm b i) v

/-- The winning rule of a pass: the lowest number that matches; a rule that failed its parity check is absent
(R213, R219). -/
def State.winner (s : State) (tag profile : Nat) (key : List Byte) (v : List Nat) : Option (List Byte) :=
  (s.ruleSet tag).findSome? fun r =>
    let e := s.ruleEntry r.2
    if !e.bad && s.ruleMatches e.bytes profile key v then some e.bytes else none

/-- The rules of a version, or of the staged set as tag 4. -/
def State.rulesOf (s : State) (tag : Nat) : SMap Nat := if tag = 4 then s.stagedSet else s.ruleSet tag

/-- Change the record of a physical entry. -/
def State.modEntry (s : State) (e : Nat) (f : RuleEntry → RuleEntry) : State :=
  { s with rules := { s.rules with entries := mapPut s.rules.entries e (f (s.ruleEntry e)) } }

/-- An access to a rule of a version, or of the staged set (tag 4), meets its parity error: from then on the rule is absent in every
version that holds it (R219, R226). -/
def State.ruleParity (s : State) (tag num : Nat) : State :=
  match mapFind (s.rulesOf tag) num with
  | some e =>
    let s := s.modEntry e fun r => { r with bad := true, met := true }
    ((s.set Reg.PARSE_PARITY_LOC_VERSION (if tag = 4 then s.currentTag else tag)).set Reg.PARSE_PARITY_LOC_RULE_NUM num).on
      Reg.PARSE_STATUS_PARITY
  | none => s

/-- The parity of a rule no longer agrees; the next access meets that. -/
def State.ruleBad (s : State) (tag num : Nat) : State :=
  match mapFind (s.rulesOf tag) num with | some e => s.modEntry e fun r => { r with bad := true } | none => s

/-- A lookup checks every rule of its version (R219): the errors that it is the first to meet are recorded. (DESIGN CHOICE, log 89.) -/
def State.checkRules (s : State) (tag : Nat) : State :=
  (s.ruleSet tag).foldl (fun s r => let e := s.ruleEntry r.2; if e.bad && !e.met then s.ruleParity tag r.1 else s) s

/-! ### Commands -/

/-- A profile is valid. -/
def State.profileValid (s : State) (n : Nat) : Bool := n < 64 && s.bit (Reg.PARSE_PROF_CTRL_VALID n)

/-- The checks of an action (Table 7-6). -/
def State.actionOk (s : State) (b : List Byte) : Bool :=
  let carry := ruleCarries b
  let cp := ruleCarryProfile b
  leAt b 92 1 < 2 && bits (leAt b 93 1) 4 2 != 3 && leAt b 94 1 < 64 && leAt b 95 1 ≤ 64 &&
  leAt b 96 4 < 2 ^ 17 &&
  (if carry then s.profileValid cp else cp == 0 && ruleCarryTag b == 0) && leAt b 104 4 == 0

/-- The checks of R212 on a rule entry. (DESIGN CHOICE, log 52.) -/
def State.ruleOk (s : State) (b : List Byte) : Bool :=
  let n := ruleProfile b
  let kb := s.get (Reg.PARSE_PROF_CTRL_KEY_BYTES n)
  if leAt b 0 2 ≥ 32768 || leAt b 3 1 > 1 then false
  else if leAt b 3 1 = 0 then s.profileValid n && allZero (b.drop 4)
  else
    s.profileValid n && allZero (slice b (4 + kb) (40 - kb)) && allZero (slice b (44 + kb) (40 - kb)) &&
    ((slice b 4 40).zip (slice b 44 40)).all (fun x => x.1 &&& ~~~x.2 == 0) &&
    (List.range 4).all (fun i =>
      let t := ruleTerm b i
      bits t 10 4 == 0 && (!bitOf t 15 || bitOf (s.get (Reg.PARSE_PROF_CTRL_RANGE_EN n)) (s.comparator (t % 1024)).source)) &&
    s.actionOk b && allZero (b.drop 108)

/-- The lowest number that no entry of the map has. -/
def freshKey {α : Type} : SMap α → Nat → Nat
  | [], n => n
  | (k, _) :: m, n => if k = n then freshKey m (n + 1) else n

/-- RULE_STAGE (R212, R224, R225). (DESIGN CHOICE, log 52.) -/
def coreRuleStage (c : CmdIn) (s : State) : CmdRes × State :=
  let b := c.input
  let num := ruleNum b
  if !s.ruleOk b then (CmdRes.input, s)
  else
    let cur := mapFind (s.ruleSet s.currentTag) num
    if leAt b 3 1 = 0 then
      let ch := match cur with | some _ => mapPut s.rules.changes num none | none => mapDel s.rules.changes num
      (CmdRes.ok, State.sweepEntries { s with rules := { s.rules with changes := ch } })
    else
      let freed := State.sweepEntries { s with rules := { s.rules with changes := mapDel s.rules.changes num } }
      if freed.rules.entries.length ≥ 65536 then (CmdRes.of .full, s)
      else
        let e := freshKey freed.rules.entries 0
        let r := freed.rules
        (CmdRes.ok, State.sweepEntries { freed with rules := { r with
          entries := mapPut r.entries e ⟨b, false, false⟩, changes := mapPut r.changes num (some e) } })

/-- RULE_DISCARD (R224). -/
def coreRuleDiscard (_ : CmdIn) (s : State) : CmdRes × State :=
  (CmdRes.ok, State.sweepEntries { s with rules := { s.rules with changes := [] } })

/-- RULE_READ (R224, R219). -/
def coreRuleRead (c : CmdIn) (s : State) : CmdRes × State :=
  let t := bits c.param 16 3
  let num := bits c.param 0 15
  if t > 4 || (t < 4 && (s.tagState t == 0 || s.tagState t == 3)) then (CmdRes.field, s)
  else match mapFind (s.rulesOf t) num with
    | none => (CmdRes.of .notFound, s)
    | some e =>
      if (s.ruleEntry e).bad then (CmdRes.of .parity, if (s.ruleEntry e).met then s else s.ruleParity t num)
      else ({ CmdRes.ok with out := (s.ruleEntry e).bytes }, s)

/-- A comparator that an enabled range term of some rule names (R211). -/
def State.comparatorUsed (s : State) (k : Nat) : Bool :=
  s.allRules.any fun b => (List.range 4).any fun i => bitOf (ruleTerm b i) 15 && ruleTerm b i % 1024 == k

/-- Write a comparator from its entry (Table 7-4). -/
def State.putComparator (s : State) (b : List Byte) : State :=
  { s with rules := { s.rules with
    comparators := mapSet s.rules.comparators (leAt b 0 2) ⟨leAt b 2 1, leAt b 4 2, leAt b 6 2⟩ comparator0 } }

/-- RULE_RANGE_SET (R211, Table 7-4). -/
def coreRuleRangeSet (c : CmdIn) (s : State) : CmdRes × State :=
  let b := c.input
  let k := leAt b 0 2
  let lo := leAt b 4 2
  let hi := leAt b 6 2
  if k ≥ 1024 || leAt b 2 1 > 3 || leAt b 3 1 != 0 || lo > hi || !allZero (b.drop 8) then (CmdRes.input, s)
  else if s.comparatorUsed k then (CmdRes.of .busy, s)
  else (CmdRes.ok, (s.putComparator b).mirrorItem 0x14 b fun w => w.1 == 0x14 && w.2 == b.take 2)

/-- The result of RULE_COMMIT: tag and number (Table 16-5). (DESIGN CHOICE, log 52.) -/
def State.commitResult (s : State) : CmdRes :=
  let t := s.currentTag
  { CmdRes.ok with result := [BitVec.ofNat 8 t, 0, 0, 0] ++ leBytes 4 (s.get (Reg.RULE_VER_NUM_NUM t)) }

/-- The lowest FREE tag (R229). (DESIGN CHOICE, log 52.) -/
def State.freeTag (s : State) : Option Nat := lowest 4 fun t => s.tagState t == 0

/-- The RULE_STAGE entry of a staged change: a removal has all its other fields 0 (R212). -/
def State.changeEntry (s : State) (num : Nat) (e : Option Nat) : List Byte :=
  match e with | some e => (s.ruleEntry e).bytes | none => leBytes 2 num ++ zeros 126

/-- The changes of a commit go to the mirror stream, then the commit (Table 20-4). -/
def State.mirrorCommit (s : State) : State :=
  let same (w : Nat × List Byte) : Bool := w.1 == 0x12
  (s.rules.changes.foldl (fun s c => s.mirrorItem 0x10 (s.changeEntry c.1 c.2) same) s).mirrorItem 0x12 [] same

/-- Phase 1 has ended: the switch of phase 2 and the new staged set of phase 3 (R230). -/
def State.commitSwitch (s : State) (t : Nat) : State :=
  let s := s.mirrorCommit
  let old := s.currentTag
  let num := s.get (Reg.RULE_VER_NUM_NUM old) + 1
  let set := s.stagedSet
  let s := { s with rules := { s.rules with
    sets := mapPut s.rules.sets t set, changes := [], drainFrom := mapPut s.rules.drainFrom old s.cycle } }
  let s := (s.set (Reg.RULE_VER_STATE_STATE old) 2).set (Reg.RULE_VER_STATE_STATE t) 1
  State.sweepEntries ((s.set (Reg.RULE_VER_NUM_NUM t) num).set Reg.RULE_STATUS_CURRENT t)

/-- Whether a commit now ends at once, and how (R228, R229); otherwise the tag it takes. -/
def State.commitStart (s : State) : CmdRes ⊕ Nat :=
  if s.rules.changes.isEmpty then .inl s.commitResult
  else match s.freeTag with
    | none => .inl (CmdRes.of .versionLimit)
    | some t => .inr t

/-- The tag that the routine of a commit has chosen. -/
def State.chosenTag (s : State) (c : CmdIn) : Option Nat := (s.routineOf .ruleCommit c).bind (·.tag)

/-- A commit ends without a routine (R228, R229). -/
def commitAtOnce (c : CmdIn) (s : State) : Bool := (s.chosenTag c).isNone && s.commitStart.isLeft

/-- RULE_COMMIT (R228 to R230): what its routine has still to mark, and the switch. (DESIGN CHOICE, log 52.) -/
def coreRuleCommit (c : CmdIn) (s : State) : CmdRes × State :=
  match s.chosenTag c with
  | some t => let s := s.commitSwitch t; (s.commitResult, s)
  | none => match s.commitStart with
    | .inl r => (r, s)
    | .inr t => let s := s.commitSwitch t; (s.commitResult, s)

/-- The routine of an engine marks the next 256 entries of the staged set as members of its commit's tag (R230). -/
def State.markEntries (s : State) (t done : Nat) : State :=
  { s with rules := { s.rules with sets := mapPut s.rules.sets t (s.stagedSet.take (256 * (done + 1))) } }

/-! ### In-flight counts -/

/-- A frame takes a tag or gives it back (R237). -/
def State.inflight (s : State) (t : Nat) (up : Bool) : State :=
  let n := s.get (Reg.RULE_VER_STATE_INFLIGHT t)
  s.set (Reg.RULE_VER_STATE_INFLIGHT t) (if up then n + 1 else n - 1)

/-- A DRAINING tag with no frame left becomes FREE and its entries are freed (R238); the number of a FREE tag is undefined
(Table 8-6). (DESIGN CHOICE, log 41.) -/
def State.tagDrained (s : State) (t : Nat) : State :=
  if s.tagState t = 2 && s.get (Reg.RULE_VER_STATE_INFLIGHT t) = 0 then
    State.sweepEntries { (s.set (Reg.RULE_VER_STATE_STATE t) 0).set (Reg.RULE_VER_NUM_NUM t) (Config.versionNum t s.cycle) with
      rules := { s.rules with sets := mapDel s.rules.sets t, drainFrom := mapDel s.rules.drainFrom t } }
  else s

/-- A drain that has not ended 10 µs after its switch (R239). -/
def State.drainStuck (s : State) (t : Nat) : State :=
  if s.tagState t = 2 && s.get (Reg.RULE_VER_STATE_INFLIGHT t) != 0 &&
      s.cycle ≥ mapGet s.rules.drainFrom t 0 + 10 * usCycles then s.on Reg.RULE_STATUS_DRAIN_STUCK
  else s

/-! ### Register checks and effects of the PARSE page -/

/-- A profile that a port, or a rule of a live version or the staged set, names (R208). -/
def State.profileNamed (s : State) (n : Nat) : Bool :=
  (List.range 1024).any (fun p => s.isPort p && s.get (Reg.PARSE_PORT_CFG_PROFILE p) == n) ||
  s.allRules.any fun b => ruleProfile b == n || (ruleCarries b && ruleCarryProfile b == n)

/-- Refusals of the PARSE page beyond reserved bits (R205 to R209, Tables 7-10 to 7-12). -/
def parseCheck (s : State) (off v : Nat) : Status :=
  if off < 0x1000 then .ok
  else if off < 0x8000 then
    if bits v 20 2 == 3 || !s.profileValid (bits v 0 6) then .range else .ok
  else
    let n := (off - 0x8000) / 0x80
    let o := off % 0x80
    let drained := s.bit (Reg.PARSE_PROF_CTRL_DRAINED n)
    let inUse := s.bit (Reg.PARSE_PROF_CTRL_VALID n) || !drained
    if n = 0 then .range
    else if o = 0 then
      if bits v 0 4 != s.get (Reg.PARSE_PROF_CTRL_RANGE_EN n) && inUse then .busy
      else if bitOf v 16 then (if drained then .ok else .busy)
      else if s.profileNamed n then .busy else .ok
    else
      let ext := o < 0x50
      let len := if ext then bits v 12 4 else 2
      let i := (o - 0x10) / 4
      let sum := ((List.range 16).map fun k => if k = i then len else s.get (Reg.PARSE_PROF_EXT_LEN n k)).sum
      if len > 8 || bits v 8 4 > 5 then .range
      else if bits v 8 4 == 5 && len != 0 && bits v 0 8 + len > 16 then .range
      else if ext && sum > 40 then .range
      else if inUse then .busy else .ok

end Sys2Proof.Machine
end

