-- ==== Sys2Proof/Machine/Ingress.lean ====
section
/-! DEFINITION. The path of a frame from its delimiter to admission (Table 1-4, steps 1 to 8): landing, classification, the
carry loop, forwarding, learning and admission; the end and the cut of a frame; injected and punted frames; and frames
that arrive over a span. -/

namespace Sys2Proof.Machine

/-! ### Dropping a frame before its copies exist -/

/-- A frame leaves classification: its tag, its carry queue and the profiles that wait for it (R208, R237). -/
def State.leaveClassify (s : State) (f : Nat) (x : Frame) : State :=
  if x.stage != .crossed && x.stage != .carrying then s
  else
    let s := s.inflight x.tag false
    let s := s.modPath fun p => { p with carry := mapMod p.carry (pipeOf x.port) [] fun l => l.filter (· != f) }
    { s with rules := { s.rules with profileWait := s.rules.profileWait.map fun e => (e.1, e.2.filter (· != f)) } }

/-- A profile out of use sets DRAINED once no frame waits for it (R208). (DEDUCED, log 50.) -/
def State.profileDrained (s : State) (n : Nat) : State :=
  match mapFind s.rules.profileWait n with
  | some [] =>
    State.on { s with rules := { s.rules with profileWait := mapDel s.rules.profileWait n } } (Reg.PARSE_PROF_CTRL_DRAINED n)
  | _ => s

/-- Frame `f` is dropped whole before its copies are made: it frees its beads. -/
def State.dropFrame (s : State) (f : Nat) : State :=
  match s.frame f with
  | some x =>
    let s := s.leaveClassify f x
    let s := x.beads.foldl State.dropBead s
    ((s.setFrame f { x with stage := .dropped, beads := [], plan := [], copies := 0, group := none }).reap f).freeLists
  | none => s

/-- Count a drop in RX_DROP_OTHER: only a frame received with good FCS counts, so the count waits for its end (Table 3-17). (DESIGN CHOICE, log 24.) -/
def State.dropOther (s : State) (f : Nat) : State :=
  match s.frame f with
  | some x =>
    let s := if x.ended && x.spanIn.isNone then s.count x.port 60 1 else s
    (s.setFrame f { x with dropOther := true }).dropFrame f
  | none => s

/-- A frame finds no landing bead (R299). -/
def State.landingDrop (s : State) (f : Nat) : State :=
  match s.frame f with
  | some x => (((s.count x.port 31 1).satAdd Reg.BUF_LANDING_DROP_CNT_COUNT 1).on Reg.BUF_STATUS_LANDING).dropFrame f
  | none => s

/-- A lossless class has lost a frame for want of beads (R305). -/
def State.headroomLoss (s : State) (cls : Nat) : State :=
  if s.bit (Reg.BUF_CLASS_CFG_LOSSLESS cls) then (s.satAdd Reg.BUF_HEADROOM_CNT_COUNT 1).on Reg.BUF_STATUS_HEADROOM else s

/-- A frame dropped at admission for want of beads (R303, R305). -/
def State.beadDrop (s : State) (f : Nat) : State :=
  match s.frame f with
  | some x =>
    let s := ((s.count x.port 31 1).satAdd Reg.BUF_DROP_CNT_COUNT 1).on Reg.BUF_STATUS_DROP
    (s.headroomLoss x.mark.cls).dropFrame f
  | none => s

/-! ### The start of a frame (Table 1-4, steps 1 and 2) -/

/-- A frame at its start. -/
def newFrame (port : Nat) (bytes : List Byte) (stamp : Nat) (time : Int) (flags limit : Nat) : Frame :=
  { port := port, bytes := bytes, ingStamp := stamp, ingTime := time, ingFlags := flags, stage := .received, tag := 0, pass := 0,
    profile := 0, carryTag := 0, default_ := mark0, mark := mark0, carried := false, destKind := 3, dest := 0, plan := [],
    walked := 0, copies := 0, group := none, context := none, polOver := none, clsOver := none, verdict := none,
    recorded := false, reserved := 0, digestLost := false, session := [], span := 0, landing := true, pool := 0,
    beads := [], ended := false, fcs := none, codeErr := false, truncated := false, heldLen := none, dropOther := false,
    seen := none, lookedAt := 0,
    inject := none, stampReq := false, oneStep := false, punt := 0, spanIn := none, limit := limit }

/-- Give the next frame number to a frame. -/
def State.addFrame (s : State) (x : Frame) : Nat × State :=
  let f := s.path.nextFrame
  (f, s.modPath fun p => { p with frames := mapPut p.frames f x, nextFrame := f + 1 })

/-- No earlier frame of the port of `f` is where `early` says: frames of one port that take the same passes keep their order
(R28). (DEDUCED, log 95.) -/
def State.inTurn (s : State) (f port : Nat) (early : Frame → Bool) : Bool :=
  !s.path.frames.any fun e => decide (e.1 < f) && e.2.port == port && early e.2

/-- Frames of a pipe that hold a tag (R237). -/
def State.pipeInflight (s : State) (pipe : Nat) : Nat :=
  (s.path.frames.filter fun e => (e.2.stage == .crossed || e.2.stage == .carrying) && pipeOf e.2.port == pipe).length

/-- The limit of the frames that a port receives (R95, R542). -/
def State.receiveLimit (s : State) (p : Nat) : Nat :=
  s.get (Reg.MAC_PORT_FRAME_FRAME_MAX p) + (if s.spanOn && 960 ≤ p then 46 else 0)

/-- The bytes that a port receives: in LOOPBACK 1 and 2 the next frame of its own transmitter, if there is one (Table 3-10). (DESIGN CHOICE, log 81.) -/
def State.receives (s : State) (p : Nat) (bytes : List Byte) : Option (List Byte) × State :=
  let l := s.get (Reg.MAC_PORT_CTRL_LOOPBACK p)
  if l = 1 || l = 2 then ((s.port p).looped.head?, s.modPort p fun x => { x with looped := x.looped.tail })
  else (some bytes, s)

/-- A start-of-frame delimiter crosses a port's PCS–MAC boundary (R84, R141, R298, R299). (DESIGN CHOICE, log 25; DESIGN CHOICE, log 77.) -/
def State.frameBegin (s : State) (p sub : Nat) (bytes : List Byte) : State :=
    let clock := s.stampClock (bytes.take (s.receiveLimit p))
    let x := newFrame p bytes (stampOf (s.ingressTime p sub clock) (s.clockFlags clock)) (s.ingressTime p sub 0) s.presFlags
      (s.receiveLimit p)
    if !s.portUp p || (s.spanOn && 960 ≤ p) then (s.addFrame { x with stage := .outside }).2
    else
      let (f, s) := s.addFrame x
      if !s.funcUp .buf then (s.count p 31 1).dropFrame f
      else match s.takeLanding (pipeOf p) p 1 with
        | some (b, s) => s.setFrame f { x with beads := [b] }
        | none => s.landingDrop f

/-- A port that is not DISABLED receives the start of a frame (R84, R87). -/
def State.frameStart (s : State) (p sub : Nat) (bytes : List Byte) : State :=
  if !s.isPort p || s.linkState p = stDisabled then s
  else match s.receives p bytes with
    | (some b, s) => s.frameBegin p sub b
    | (none, s) => s

/-- The first word of a frame enters the ingress crossing (R206, R209, R236). A MAC control frame does not pass (R89); a frame waits
for the earlier ones of its port, and while its pipe holds 96 (R28, R237). (DEDUCED, log 95.) -/
def State.firstWord (s : State) (f : Nat) : State :=
  match s.frame f with
  | some x =>
    if x.stage != .received || isControl x.bytes then s
    else if !s.inTurn f x.port (fun y => y.stage == .received && !isControl y.bytes) || s.pipeInflight (pipeOf x.port) ≥ 96 then s
    else if !s.funcUp .parse then s.dropOther f
    else
      (s.setFrame f { x with stage := .crossed, tag := s.currentTag, profile := s.get (Reg.PARSE_PORT_CFG_PROFILE x.port),
                             default_ := s.defaultMark x.port }).inflight s.currentTag true
  | none => s

/-! ### Classification (R200 to R218) -/

/-- A frame's classification ends with a MARK (R214, R237); FWD 3 discards the frame. -/
def State.classified (s : State) (f : Nat) (x : Frame) (m : Mark) : State :=
  let s := s.leaveClassify f x
  let s := s.setFrame f { x with mark := m, stage := .classified }
  if m.fwd = 3 then s.dropOther f else s

/-- One pass of a frame: the header walk, the match, and its winning action or the port default (R203, R213 to R218). (DESIGN CHOICE, log 71.) -/
def State.classifyPass (s : State) (f : Nat) : State :=
  match s.frame f with
  | some x =>
    if x.stage != .crossed || !s.inTurn f x.port (fun y => y.stage == .crossed && y.pass == x.pass) then s
    else
      let s := s.checkRules x.tag
      let b := x.bytes.take x.limit
      let h := walk b
      let s := if h.trunc then (s.satAdd Reg.PARSE_TRUNC_CNT_COUNT 1).on Reg.PARSE_STATUS_TRUNC else s
      let ptpBad := match ptpOffset b h with | some o => x.pass == 0 && !ptpSane b o | none => false
      let s := if ptpBad then (s.on Reg.TIME_PTP_CTRL_BAD).satAdd Reg.TIME_PTP_BAD_CNT_BAD_CNT 1 else s
      let m := metaBlock b h x.port x.pass x.carryTag
      let key := s.profileKey x.profile b h m
      match s.winner x.tag x.profile key ((List.range 4).map (s.rangeInput x.profile b h m)) with
      | none => (s.satAdd Reg.PARSE_NOMATCH_CNT_COUNT 1).classified f x x.default_
      | some r =>
        if !ruleCarries r then s.classified f x (ruleMark r)
        else if x.pass = 1 then
          ((s.satAdd Reg.PARSE_DEMOTED_CNT_COUNT 1).on Reg.PARSE_STATUS_DEMOTED).classified f x (ruleMark r)
        else if (mapGet s.path.carry (pipeOf x.port) []).length < 32 then
          (s.setFrame f { x with stage := .carrying, profile := ruleCarryProfile r, carryTag := ruleCarryTag r }).modPath fun p =>
            { p with carry := mapMod p.carry (pipeOf x.port) [] (· ++ [f]) }
        else ((s.satAdd Reg.PARSE_CARRY_FULL_CNT_COUNT 1).on Reg.PARSE_STATUS_CARRY_FULL).classified f x (ruleMark r)
  | none => s

/-- One slot of the carry loop (R217). -/
def State.carryPass (s : State) : State :=
  match (rotation 64 s.path.carryNext).find? fun p => !(mapGet s.path.carry p []).isEmpty with
  | some p => match mapGet s.path.carry p [] with
    | f :: l =>
      let s := s.modPath fun q => { q with carry := mapSet q.carry p l [], carryNext := (p + 1) % 64 }
      (s.satAdd Reg.PARSE_CARRY_CNT_COUNT 1).modFrame f fun x => { x with stage := .crossed, pass := 1, carried := true }
    | [] => s
  | none => s

/-! ### Forwarding (R243 to R257, R262 to R269) -/

/-- The learn request of a frame (R252); a standby or syncing device makes none (Table 20-4). -/
def State.learnFrom (s : State) (f : Nat) (x : Frame) : State :=
  let src := beNat (slice x.bytes 6 6)
  let idle := s.pairState == paStandby || s.pairState == paSyncing
  if x.mark.fwd < 2 && s.bit (Reg.FDB_PORT_CFG_LEARN x.port) && src != 0 && !bitOf src 40 && !idle && s.funcUp .fdb then
    s.learnRequest ⟨s.frameVlan x.bytes x.port, src, s.logical x.port, x.ingTime, [(f, frameBad x)]⟩
  else s

/-- The destination of a bridged frame with the REASON of a punt (R243, R250, Table 16-9); a down FDB discards. -/
def State.bridge (s : State) (x : Frame) : (Nat × Nat × Nat) × State :=
  if !s.funcUp .fdb then ((3, 0, 0), s)
  else
    let vlan := s.frameVlan x.bytes x.port
    let mac := beNat (x.bytes.take 6)
    let (hit, _, s) := s.fdbAccess vlan mac
    match hit with
    | some (_, e) => ((e.kind, e.dest, if e.kind = 2 then 3 else 0), s)
    | none => let d := s.fdbMiss x.port; ((d.1, d.2, if d.1 = 2 then 2 else 0), s)

/-- The destination of a routed frame (R243, R262, R269); a frame without an IP header is discarded. -/
def State.route (s : State) (x : Frame) : (Nat × Nat × Nat) × State :=
  let h := walk x.bytes
  match h.l3 with
  | none => ((3, 0, 0), s)
  | some l3 =>
    let addr := if h.v6 then beAt x.bytes (l3 + 24) 16 else beAt x.bytes (l3 + 16) 4
    let (hit, _, s) := if s.funcUp .lpm then s.lpmMatch h.v6 addr else (none, false, s)
    match hit with
    | some e => ((e.kind, e.dest, if e.kind = 2 then 5 else 0), s)
    | none =>
      match s.get (if h.v6 then Reg.LPM_CTRL_V6_MISS else Reg.LPM_CTRL_V4_MISS) with
      | 1 => ((2, 0, 4), s)
      | 2 => s.bridge x
      | _ => ((3, 0, 0), s)

/-- A frame is past its lookups: one that its result discards goes no further (R250). -/
def State.pastLookup (s : State) (f : Nat) : State :=
  match s.frame f with
  | some x => if x.destKind = 3 then s.dropOther f else s.setFrame f { x with stage := .forwarded }
  | none => s

/-- The forwarding lookup of a classified frame (Table 1-4, step 7): learning, destination, copies and context (R28, R279). -/
def State.forwardingLookup (s : State) (f : Nat) : State :=
  match s.frame f with
  | some x =>
    if x.stage != .classified || !s.inTurn f x.port (fun y => y.stage == .classified && y.carried == x.carried) then s
    else
      let s := s.learnFrom f x
      let s := if x.mark.fwd < 2 && s.funcUp .fdb then s.fdbHit (s.frameVlan x.bytes x.port) (beNat (slice x.bytes 6 6)) else s
      let ((kind, dest, reason), s) := match x.mark.fwd with
        | 0 => s.bridge x
        | 1 => s.route x
        | _ => ((2, 0, 1), s)
      let back := kind == 0 && dest == s.logical x.port && !s.bit (Reg.FDB_PORT_CFG_HAIRPIN x.port)
      let kind := if back then 3 else kind
      let s := s.setFrame f { x with destKind := kind, dest := dest, punt := reason }
      let s := if kind = 3 then s else s.fixCopies f
      let (waits, s) := s.contextLookup f
      if waits then s.modFrame f fun y => { y with stage := .fetching } else s.pastLookup f
  | none => s

/-- The context that a waiting frame asked for arrives, and the frame goes on (R279). -/
def State.contextFetched (s : State) (f : Nat) (r : FetchRead) : State :=
  match s.frame f with
  | some x => if x.stage != .fetching || !s.dramServes then s else (s.fetchDone f r).pastLookup f
  | none => s

/-! ### Admission (R173, R176, R300 to R305) -/

/-- Destination copies, for each of which a record-or-drop frame reserves a place (R176, R547). -/
def Frame.destCopies (x : Frame) : Nat :=
  (x.plan.filter fun c => match c.kind with | .dest => true | _ => false).length

/-- Decide whether a frame is recorded, and queue its digest (R173, R176, R178); `reserve` asks for record-or-drop. -/
def State.recordFrame (s : State) (f : Nat) (x : Frame) (reserve : Bool) : State :=
  let on := s.bit Reg.TALLY_CTRL_ENABLE && s.funcUp .tally && bitOf (s.get Reg.TALLY_CLASS_RECORD) x.cls
  if !on || x.destCopies = 0 then s.setFrame f { x with recorded := false }
  else
    let pipe := pipeOf (x.port % 1024)
    let room := decide ((s.digestQueue pipe).length < 64)
    let n := if reserve then x.destCopies else 0
    let s := if room then s.modTally fun y => { y with digests := mapMod y.digests pipe [] (· ++ [f]), reserved := y.reserved + n }
      else s
    s.setFrame f { x with recorded := true, reserved := n, digestLost := !room }

/-- A frame of a record-or-drop class (R176). -/
def State.recordOrDrop (s : State) (x : Frame) : Bool := bitOf (s.get Reg.TALLY_CLASS_DROP_IF_FULL) x.cls

/-- A record-or-drop frame cannot be recorded (R176). -/
def State.cannotRecord (s : State) (x : Frame) : Bool :=
  !s.bit Reg.TALLY_CTRL_ENABLE || !s.funcUp .tally || decide (s.burstRoom < x.destCopies) ||
  decide ((s.digestQueue (pipeOf (x.port % 1024))).length ≥ 64)

/-- The colour threshold of a pool turns the frame away (R303). -/
def State.colourDrop (s : State) (pool colour : Nat) : Bool :=
  let y := s.get (Reg.BUF_POOL_YELLOW_YELLOW_DROP pool)
  let r := s.get (Reg.BUF_POOL_RED_RED_DROP pool)
  (colour == 1 && y != 0 && decide (s.sharedUse pool ≥ y)) || (colour == 2 && r != 0 && decide (s.sharedUse pool ≥ r))

/-- With TM re-initialising, each copy of an admitted frame is dropped (R174, Table 17-8). -/
def State.dropPlan (s : State) (f : Nat) (x : Frame) : State :=
  let one (s : State) (c : CopyPlan) : State :=
    let s := s.decrementAll x.beads c.egress
    let s := if c.mirror.isSome then s.decrementAll x.beads c.egress else s
    let s := s.countLane c.egress 61 1
    match c.kind with
    | .dest => (s.copyRecord f c.egress s.presStamp false true false).injectCopy f (some 0)
    | .span _ _ => s.injectCopy f (some 0)
    | _ => s
  let s := x.plan.foldl one s
  State.startWalk (s.modFrame f fun y => { y with copies := y.copies - planSize x.plan, plan := [] }) f

/-- A frame has been admitted: it walks its copies, and a frame without any frees its beads (R336). (DESIGN CHOICE, log 28.) -/
def State.admitted (s : State) (f : Nat) : State :=
  match s.frame f with
  | some x =>
    if !s.funcUp .tm then s.dropPlan f x
    else if x.copies = 0 then
      State.startWalk ((x.beads.foldl State.dropBead s).setFrame f { x with beads := [] }) f
    else s.startWalk f
  | none => s

/-- A pool's next handshake starts one position further on. -/
def State.turnOn (s : State) (pool : Nat) : State := s.turnFrom pool (s.turn pool)

/-- An earlier frame that has yet to be admitted. -/
def Frame.unadmitted (x : Frame) : Bool := x.stage == .classified || x.stage == .fetching || x.stage == .forwarded

/-- Admission of a frame whose lookups are done (R28; R303, in its order): the request for its beads is a handshake of its own unless
ALLOCATOR_HANDSHAKE presents it. (DESIGN CHOICE, log 26; DEDUCED, log 95.) -/
def State.admission (s : State) (f : Nat) : State :=
  match s.frame f with
  | some x =>
    if x.stage != .forwarded || !s.inTurn f x.port (fun y => y.unadmitted && y.carried == x.carried) then s
    else if x.bytes.length ≤ 63 then s.dropFrame f
    else
      let s := s.police f
      let x := (s.frame f).getD x
      let strict := s.recordOrDrop x
      if x.verdict == some false then (s.count x.port 30 1).dropFrame f
      else if strict && s.cannotRecord x then ((s.count x.port 32 1).on Reg.TALLY_STATUS_RECORD_DROP).dropFrame f
      else
        let pool := s.get (Reg.BUF_CLASS_CFG_POOL x.mark.cls)
        if s.colourDrop pool x.mark.colour then s.beadDrop f
        else match moveBeads pool x.beads (s.turnOn pool) with
          | none => (s.turnOn pool).beadDrop f
          | some s =>
            let x := { x with landing := false, pool := pool, span := s.get Reg.TALLY_SPAN_SPAN }
            (s.recordFrame f x strict).admitted f
  | none => s

/-! ### Further beads, the end of a frame, and its cut (R97, R298, R304) -/

/-- An admitted frame finds its pool empty: it ends at the bytes it holds (R303 to R305, Table 11-6). (DEDUCED, log 54.) -/
def State.cutFrame (s : State) (f : Nat) (x : Frame) : State :=
  let s := ((s.count (x.port % 1024) 31 1).satAdd Reg.BUF_DROP_CNT_COUNT 1).on Reg.BUF_STATUS_DROP
  (s.headroomLoss x.mark.cls).setFrame f { x with heldLen := some (256 * x.beads.length) }

/-- A frame needs a bead for the bytes that are still to come. -/
def Frame.needsBead (x : Frame) : Bool :=
  !x.ended && x.heldLen.isNone && decide (256 * x.beads.length < min x.bytes.length x.limit) && x.stage != .outside &&
  x.stage != .dropped

/-- A frame needs its next bead: one of its pool is a handshake of its own unless ALLOCATOR_HANDSHAKE presents it (R310).
(DESIGN CHOICE, log 26.) -/
def State.furtherBead (s : State) (f : Nat) : State :=
  match s.frame f with
  | some x =>
    if !x.needsBead then s
    else if x.landing then
      match s.takeLanding (pipeOf x.port) x.port (max 1 x.copies) with
      | some (b, s) => s.setFrame f { x with beads := x.beads ++ [b] }
      | none => s.landingDrop f
    else if x.copies = 0 then s
    else match (s.turnOn x.pool).takePool x.pool x.port x.copies with
      | some (b, s) => s.setFrame f { x with beads := x.beads ++ [b] }
      | none => (s.turnOn x.pool).cutFrame f x
  | none => s

/-- The request of an owner for a bead of a pool: its first frame that waits for admission to the pool or, admitted, for a further
bead of it. -/
def State.requestOf (s : State) (pool owner : Nat) : Option (Nat × Bool) :=
  (s.path.frames.find? fun e => e.2.port == owner &&
    ((e.2.stage == .forwarded && s.get (Reg.BUF_CLASS_CFG_POOL e.2.mark.cls) == pool) ||
     (!e.2.landing && e.2.pool == pool && e.2.copies != 0 && e.2.needsBead))).map fun e => (e.1, e.2.stage == .forwarded)

/-- One request of a handshake: what it is for comes about, the outcome of R303 or R304 where the pool is empty; a request that stands
for no frame takes one bead. (DESIGN CHOICE, log 26; DESIGN CHOICE, log 57.) -/
def State.grantRequest (s : State) (pool : Nat) (r : BeadRequest) : Option Nat × State :=
  match s.requestOf pool r.owner with
  | some (f, true) => let t := s.admission f; (((t.frame f).filter (!·.landing)).bind (·.beads.head?), t)
  | some (f, false) => let t := s.furtherBead f; (((t.frame f).filter (·.heldLen.isNone)).bind (·.beads.getLast?), t)
  | none => match s.takePool pool r.owner 1 with
    | some (b, s) => (some b, s)
    | none => (none, s)

/-- Grant the requests of one handshake in its order; each answer is kept (R311). -/
def grantRequests (pool : Nat) : List BeadRequest → State → State
  | [], s => s
  | r :: l, s =>
    let (a, s) := s.grantRequest pool r
    grantRequests pool l (s.modBuf fun x => { x with answers := x.answers ++ [(r.requester, a)] })

/-- One handshake of a pool's allocator: frees first, then requests in rotating order (R310). (DESIGN CHOICE, log 26.) -/
def State.handshake (s : State) (pool : Nat) (requests : List BeadRequest) (frees : List BeadFree) : State :=
  let s := frees.foldl (fun s f => s.decrement f.bead f.account f.agent) s
  let start := s.turn pool
  let s := s.modBuf fun b => { b with answers := [] }
  if requests.isEmpty then s else (grantRequests pool (requestOrder start requests) s).turnFrom pool start

/-- Take the beads that a frame still needs, at most `n`. -/
def furtherBeads : Nat → Nat → State → State
  | 0, _, s => s
  | n + 1, f, s => furtherBeads n f (s.furtherBead f)

/-- Byte limit + 1 of a frame has arrived: the frame ends at its limit (R97). -/
def State.frameTruncate (s : State) (f : Nat) : State :=
  match s.frame f with
  | some x =>
    if x.heldLen.isSome || x.bytes.length ≤ x.limit then s
    else
      let s := furtherBeads (ceilDiv x.limit 256) f s
      match s.frame f with
      | some y => if y.heldLen.isSome then s
          else (s.setFrame f { y with truncated := true, heldLen := some x.limit }).learnKnownBad f
      | none => s
  | none => s

/-- The last byte of a frame has crossed and its FCS is known (R79, R89, R105, R255, R285, R359). (DESIGN CHOICE, log 24; DESIGN CHOICE, log 72.) -/
def State.frameEnd (s : State) (f : Nat) (fcs : Fcs) (codeErr : Bool) : State :=
  match s.frame f with
  | some x =>
    if x.ended || x.inject.isSome then s
    else
      let p := x.port
      let good := fcs == .good && !codeErr
      let consumed := good && x.bytes.length ≤ x.limit
      let ok := good && 64 ≤ x.bytes.length && x.bytes.length ≤ x.limit
      let s := s.countRx p x.limit x.bytes fcs codeErr
      if x.stage == .outside then
        let s := if isControl x.bytes then (if consumed then s.countControl p x.bytes else s)
          else if good then s.count p 60 1 else s
        s.modPath fun q => { q with frames := mapDel q.frames f }
      else if isControl x.bytes then
        let s := if consumed then (s.countControl p x.bytes).lookAll p else s
        let s := x.beads.foldl State.dropBead s
        s.modPath fun q => { q with frames := mapDel q.frames f }
      else
        let s := (furtherBeads (ceilDiv x.bytes.length 256) f s).frameTruncate f
        let s := s.modFrame f fun y => { y with ended := true, fcs := some fcs, codeErr := codeErr }
        let x := (s.frame f).getD x
        let s := if x.dropOther && ok then s.count p 60 1 else s
        let s := if frameBad x then s.learnKnownBad f else s
        ((s.contextUpdate f).policerDebit x).reap f
  | none => s

/-! ### Injected frames (R444 to R446) -/

/-- The bytes of the frame that a ring's descriptor has read. -/
def RingDyn.frameBytes (r : RingDyn) : List Byte := (r.parts.flatMap (·.2)).take r.need

/-- The beads of an injected frame; none when its pool is empty for INJECT. -/
def takeBeads (pool owner count : Nat) : Nat → List Nat → State → Option (List Nat × State)
  | 0, l, s => some (l, s)
  | n + 1, l, s => match s.takePool pool owner count with
    | some (b, s) => takeBeads pool owner count n (l ++ [b]) s
    | none => none

/-- The frame of an inject descriptor `d` with its data bytes. -/
def State.injectFrame (s : State) (d data : List Byte) : Frame :=
  let b := data ++ fcsBytes data
  let cq := leAt d 1 1
  { newFrame 1024 b s.presStamp s.presTicks s.presFlags b.length with
    stage := .forwarded
    mark := { mark0 with cls := cq / 16, queue := cq % 16 }
    destKind := leAt d 2 1
    dest := leAt d 4 2
    landing := false
    pool := s.get (Reg.BUF_CLASS_CFG_POOL (cq / 16))
    ended := true
    fcs := some .good
    inject := some 0
    stampReq := bitOf (leAt d 0 1) 0
    oneStep := bitOf (leAt d 0 1) 1 }

/-- The pool is empty for INJECT: the frame is dropped at admission, and every copy of it is lost (R303, R446). -/
def State.injectDropped (s : State) (n : Nat) (x : Frame) : State :=
  let r := s.ring n
  let d := r.desc
  let lost := (x.plan.filter fun p => !p.kind.isMirror).length
  let s := ((s.satAdd Reg.BUF_DROP_CNT_COUNT 1).on Reg.BUF_STATUS_DROP).headroomLoss x.mark.cls
  let flags := leAt d 0 1
  let cq := s.get (Reg.RING_CFG_CQ n)
  let s := if bitOf flags 0 || bitOf flags 2 then
      let e := injectEntry s.attention .retry n 6 lost (leAt d 8 4) (s.devIndex n) 0
      (s.postCompletion cq true e).modHost fun h => { h with completion := e }
    else s.modRing cq fun y => { y with reserved := y.reserved - 1 }
  (s.advance n).ringIdle n

/-- The frame of an inject descriptor has been read: it enters at admission (R434, R445). -/
def State.injectDescriptor (s : State) (n : Nat) : State :=
  let r := s.ring n
  match r.running with
  | some (256, _) =>
    if (r.parts.map (·.2.length)).sum < r.need || !s.funcUp .buf then s
    else
      let d := r.desc
      let x := s.injectFrame d r.frameBytes
      let x := { x with plan := (s.planCopies x).1 }
      let s := s.turnOn x.pool
      match takeBeads x.pool ownerInject 1 (ceilDiv x.bytes.length 256) [] s with
      | none => s.injectDropped n x
      | some (beads, s) =>
        let (f, s) := s.addFrame { x with beads := beads, plan := [] }
        let run : InjectRun := ⟨n, s.devIndex n, leAt d 0 1, leAt d 8 4, 0, 0, 0, none, false, x.stampReq⟩
        let s := s.modFrame f fun y => { y with inject := some f }
        let s := s.modHost fun h => { h with inject := mapPut h.inject f run }
        let s := ((s.fixCopies f).advance n).ringIdle n
        let empty := match mapFind s.host.inject f with | some r => r.left == 0 | none => false
        let s := if empty then s.modHost fun h => { h with inject := mapMod h.inject f run fun r => { r with stampWait := false } } else s
        let s := match mapFind s.host.inject f with | some r => s.putInject f r | none => s
        s.admitted f
  | _ => s

/-! ### Punted frames (R449) -/

/-- The punt ring of a class. -/
def State.puntRing (s : State) (cls : Nat) : Nat :=
  32 + if cls < 8 then bits (s.get Reg.RING_PUNT_MAP_LO_MAP) (4 * cls) 4 else bits (s.get Reg.RING_PUNT_MAP_HI_MAP) (4 * (cls - 8)) 4

/-- A punted frame has left the device: its reference to its beads goes. -/
def State.puntGone (s : State) (f : Nat) (x : Frame) : State := (s.decrementAll x.beads 1033).dropRefs f 1

/-- The punt descriptor (Table 16-9). -/
def puntBytes (x : Frame) (size lost : Nat) : List Byte :=
  [BitVec.ofNat 8 x.punt, BitVec.ofNat 8 (b2n (x.bytes.length > size) + 2 * b2n x.carried)] ++ leBytes 2 (x.port % 1024) ++
  leBytes 2 x.bytes.length ++ [BitVec.ofNat 8 (x.mark.cls * 16 + x.mark.queue), 0] ++ leBytes 4 lost ++ zeros 4 ++
  leBytes 16 x.ingStamp

/-- A punted frame that has been received whole goes to its punt ring (R449), or is dropped when the host is lost (R424); while the link
takes nothing it waits (R423). -/
def State.puntWrite (s : State) (f : Nat) : State :=
  match s.frame f with
  | some x =>
    if x.punt = 0 || !x.ended || (x.stage != .walking && x.stage != .linked) then s
    else
      let n := s.puntRing x.mark.cls
      if !x.damaged && !s.host.serviceOff && s.ringRoom n 1 && !s.canWrite then s
      else
        let s := s.setFrame f { x with punt := 0 }
        if x.damaged then s.puntGone f x
        else if s.host.serviceOff then (s.count x.port 60 1).puntGone f x
        else if !s.ringRoom n 1 then
          let s := ((s.count x.port 60 1).satAdd (Reg.RING_DROP_CNT_DROP n) 1).on Reg.RING_STATUS_PUNT_DROP
          (s.modRing n fun r => { r with lost := min (2 ^ 32 - 1) (r.lost + 1) }).puntGone f x
        else
          let size := 2048 * 2 ^ s.get (Reg.RING_CFG_BUF_SIZE n)
          let buf := s.get (Reg.RING_PUNT_BUF_HI_ADDR_HI n) * 2 ^ 32 + s.get (Reg.RING_PUNT_BUF_LO_ADDR n) * 4096 +
            s.devIndex n % s.ringSize n * size
          let s := s.memWrite buf (x.bytes.take size)
          let s := s.ringWrite n (puntBytes x size (s.ring n).lost)
          (s.modRing n fun r => { r with lost := 0 }).puntGone f x
  | none => s

/-! ### Frames that arrive over a span (R541 to R549) -/

/-- A frame on a span port whose Ethertype, destination address and TYPE are those of R541 (R563). -/
def State.isSpan (s : State) (b : List Byte) (type : Nat) : Bool :=
  beAt b 0 6 == 0x020000000100 + s.boardPos && beAt b 12 2 == 0x88B6 && beAt b 14 1 == type && decide (b.length ≥ 64)

/-- The frame that a DATA frame carries (Table 21-2). One with BAD_FCS or TRUNCATED has a stomped FCS (R541) and is
discarded (R563), so the frame is whole and good. -/
def State.spanFrame (s : State) (p : Nat) (b : List Byte) : Frame :=
  let flags := beAt b 15 1
  let cq := beAt b 20 1
  let data := (b.drop 46).take (b.length - 50)
  let bytes := data ++ fcsBytes data
  let stamp := beAt b 30 16
  { newFrame p bytes stamp (stampTime stamp) (bits stamp 0 16) bytes.length with
    stage := .forwarded
    mark := { mark0 with cls := cq / 16, queue := cq % 16, colour := beAt b 21 1 % 4 }
    carried := bitOf flags 3
    destKind := b2n (bitOf flags 0)
    dest := beAt b 16 2
    landing := false
    pool := s.get (Reg.BUF_CLASS_CFG_POOL (cq / 16))
    ended := true
    fcs := some .good
    spanIn := some (beAt b 18 2) }

/-- The learn request of a DATA frame (R548). -/
def State.spanLearn (s : State) (f : Nat) (x : Frame) : State :=
  let src := beNat (slice x.bytes 6 6)
  let port := x.spanIn.getD 0xFFFF
  let idle := s.pairState == paStandby || s.pairState == paSyncing
  if s.bit Reg.SPAN_CTRL_LEARN && src != 0 && !bitOf src 40 && port < 1920 && !idle && s.funcUp .fdb then
    s.learnRequest ⟨s.frameVlan x.bytes x.port, src, port, x.ingTime, [(f, frameBad x)]⟩
  else s

/-- A DATA frame of an accepted peer enters at admission (R545, R547). -/
def State.spanAdmit (s : State) (p : Nat) (x : Frame) : State :=
  let (f, s) := s.addFrame x
  let s := (s.spanLearn f x).fixCopies f
  let x := (s.frame f).getD x
  if !s.funcUp .buf || s.colourDrop x.pool x.mark.colour then s.beadDrop f
  else match takeBeads x.pool p (max 1 x.copies) (ceilDiv x.bytes.length 256) [] (s.turnOn x.pool) with
    | none => (s.turnOn x.pool).beadDrop f
    | some (beads, s) =>
      let x := { x with beads := beads, span := s.get Reg.TALLY_SPAN_SPAN }
      (s.recordFrame f x false).admitted f

/-- A DATA frame arrives on a span port: discarded when its checks fail (R563), and accepted only from a peer that reports
ACTIVE or UNPAIRED (R543). The length in its header is that of the original frame with its FCS. -/
def State.spanData (s : State) (p : Nat) (b : List Byte) (fcsOk : Bool) : State :=
  if !s.spanOn || p < 960 || !s.portUp p then s
  else
    let g := (p - 960) / 32
    let s := s.countRx p (s.get (Reg.MAC_PORT_FRAME_FRAME_MAX p) + 46) b (if fcsOk then .good else .bad) false
    let long := decide (b.length > s.get (Reg.MAC_PORT_FRAME_FRAME_MAX p) + 46)
    let other (s : State) : State := if fcsOk && 64 ≤ b.length && !long then s.count p 60 1 else s
    let known := s.wiredGroups.contains g && bitOf (s.get Reg.SPAN_STATUS_PEER_ACTIVE) g
    if !fcsOk || !s.isSpan b 1 || beAt b 22 4 + 46 != b.length then other s
    else if !known then other (s.satAdd Reg.SPAN_RX_IGNORED_CNT_COUNT 1)
    else if long then s
    else s.spanAdmit p (s.spanFrame p b)

/-- What an accepted write to the PARSE page does beyond its fields: KEY_BYTES follows the extracts (R205), and a profile taken
out of use waits for the frames in classification (R208). (DEDUCED, log 50; DESIGN CHOICE, log 51.) -/
def parseEffect (s : State) (off v : Nat) : State :=
  if off < 0x8000 then s
  else
    let n := (off - 0x8000) / 0x80
    let o := off % 0x80
    if 0x10 ≤ o && o < 0x50 then
      s.set (Reg.PARSE_PROF_CTRL_KEY_BYTES n) ((List.range 16).map fun k => s.get (Reg.PARSE_PROF_EXT_LEN n k)).sum
    else if o != 0 || bitOf v 16 then s
    else
      let l := (s.path.frames.filter fun e => e.2.stage == .crossed || e.2.stage == .carrying).map (·.1)
      State.off { s with rules := { s.rules with profileWait := mapPut s.rules.profileWait n l } } (Reg.PARSE_PROF_CTRL_DRAINED n)

end Sys2Proof.Machine
end

