-- ==== Sys2Proof/Machine/Octets.lean ====
section
/-! DEFINITION. How a register address finds its family and its lane number (R72, R575), what a change of an octet's MODE
resets (R73), and what ends a port's calibration (R150). -/

namespace Sys2Proof.Machine

/-- The index pair of the register of a family at an address. -/
def RegFam.index (f : RegFam) (addr : Nat) : Option (Nat × Nat) :=
  if addr < f.base then none
  else
    let off := addr - f.base
    let i := if f.stride = 0 then 0 else off / f.stride
    let rest := if f.stride = 0 then off else off % f.stride
    let j := if f.stride2 = 0 then 0 else rest / f.stride2
    let rest := if f.stride2 = 0 then rest else rest % f.stride2
    if i < f.count && j < f.count2 && rest = 0 then some (i, j) else none

/-- A family with the index pair of the register at an address. -/
def regAt (addr : Nat) : Option (RegFam × Nat × Nat) :=
  (famsOfPage (addr / 0x100000)).findSome? fun f => (f.index addr).map fun i => (f, i)

/-- The lane number that a per-port or per-queue register belongs to. (DESIGN CHOICE, log 11.) -/
def laneOf (f : RegFam) (i : Nat) : Option Nat :=
  match f.owner with | .plain => none | .port => some i | .queue => some (i / 16)

/-- The register at an address is a per-port or per-queue one of a lane of an octet, STAMP_PORT_TRIM excepted (R73, R150). -/
def octetReg (o addr : Nat) : Bool :=
  match regAt addr with
  | some (f, i, _) => (match laneOf f i with | some p => p / 8 == o | none => false) && f.name != "STAMP_PORT_TRIM"
  | none => false

/-- The lanes of an octet. -/
def octetLanes (o : Nat) : List Nat := (List.range 8).map (8 * o + ·)

/-- A change of an octet's MODE resets its per-port state (R73). -/
def State.octetReset (s : State) (o : Nat) : State :=
  let s := s.resetRegs (octetReg o)
  let s := (octetLanes o).foldl (fun s p => (s.clearCounters p).modPort p fun x => { x with
    cond := linkCond0, pause := none, pfc := [], heldFrom := none, heldRem := 0, request := [], control := [], looped := [] }) s
  s.modTm fun t => { t with
    shapers := t.shapers.filter fun e => (if e.1 < 16384 then e.1 / 16 else e.1 - 16384) / 8 != o
    gates := t.gates.filter fun e => e.1 / 8 != o }

/-- A port's calibration ends with a change of its type or FEC (R150). -/
def State.calLost (s : State) (lanes : List Nat) : State :=
  lanes.foldl (fun s p => s.off (Reg.STAMP_PORT_STATUS_CAL_VALID p)) s

/-- What an accepted write to the MAC page does beyond its fields: an octet's new MODE (R73), a new FEC (R150), and the
write of ENABLE (R84, R86). -/
def macEffect (old s : State) (off : Nat) : State :=
  if off < 0x200 then
    let o := off / 4
    let moved := old.get (Reg.MAC_OCTET_MODE_MODE o) != s.get (Reg.MAC_OCTET_MODE_MODE o)
    let rated := old.get (Reg.MAC_OCTET_MODE_RATE o) != s.get (Reg.MAC_OCTET_MODE_RATE o)
    let s := if moved then s.octetReset o else s
    if moved || rated then s.calLost (octetLanes o) else s
  else if off < 0x1000 then s
  else
    let p := (off - 0x1000) / 0x20
    if off % 0x20 = 0 then
      let s := if old.get (Reg.MAC_PORT_CTRL_FEC p) != s.get (Reg.MAC_PORT_CTRL_FEC p) then s.calLost [p] else s
      let s := if old.bit (Reg.MAC_PORT_CTRL_ENABLE p) != s.bit (Reg.MAC_PORT_CTRL_ENABLE p) then s.applyEnable p else s
      if old.get (Reg.MAC_PORT_CTRL_FLOW_CTRL p) != s.get (Reg.MAC_PORT_CTRL_FLOW_CTRL p) then s.syncRequests p else s
    else s

end Sys2Proof.Machine
end

