-- ==== Sys2Proof/Machine/Pair.lean ====
section
/-! DEFINITION. The redundant pair (R509 to R536): the roles and the interlock, the mirror stream, heartbeats, the comparison
of outputs with its verdicts, the takeover, and rejoining. -/

namespace Sys2Proof.Machine

/-! ### Roles and the interlock (Tables 20-1 to 20-3) -/

/-- HOLD_OUT is driven in a state (R514). -/
def drivesHold (st : Nat) : Bool := st == paClaiming || st == paActive || st == paYielding

/-- The filtered HOLD_IN reads high. -/
def State.holdIn (s : State) : Bool := s.bit Reg.PAIR_STATUS_HOLD_IN

/-- Either side's HOLD_IN differs from the other side's HOLD_OUT drive (R516). -/
def State.holdDiffers (s : State) : Bool :=
  s.get Reg.PAIR_PEER_STATE != 15 && (s.holdIn != s.pair.peerOut || s.pair.peerIn != s.bit Reg.PAIR_STATUS_HOLD_OUT)

/-- The moment from which a HOLD mismatch lasts follows the levels. -/
def State.syncMismatch (s : State) : State :=
  let d := s.holdDiffers
  s.modPair fun p => { p with mismatchFrom := if !d then none else if p.mismatchFrom.isSome then p.mismatchFrom else some s.cycle }

/-- Comparison runs (R524). -/
def State.comparing (s : State) : Bool :=
  let me := s.pairState
  let peer := s.get Reg.PAIR_PEER_STATE
  ((me == paActive && peer == paStandby) || (me == paStandby && peer == paActive)) && s.presLock ≥ 2 && s.pair.peerLock ≥ 2

/-- When comparison stops, the residuals and the waiting windows are cleared (R524). -/
def State.syncCompare (s : State) : State :=
  if s.comparing then s else s.modPair fun p => { p with residual := [], waits := [] }

/-- A state change of Table 20-2: HOLD_OUT follows it, and a device that releases it is gated first (R514, R527). (DESIGN CHOICE, log 67.) -/
def State.setRole (s : State) (st : Nat) : State :=
  let s := if st = s.pairState then s else s.on Reg.PAIR_STATUS_ROLE_CHG
  let d := drivesHold st
  let s := (s.set Reg.PAIR_STATUS_STATE st).setB Reg.PAIR_STATUS_HOLD_OUT d
  let s := s.modPair fun p => { p with
    outSince := if !d then none else if p.outSince.isSome then p.outSince else some s.cycle
    gate := p.gate && d
    handoff := p.handoff && st != paStandby }
  s.syncMismatch.syncCompare

/-- Claim the role (Table 20-2). (DESIGN CHOICE, log 65.) -/
def State.claimRole (s : State) : State :=
  let prev := s.pairState
  (s.modPair fun p => { p with prev := prev, armed := none }).setRole paClaiming

/-- Record a verdict (Table 20-15). (DESIGN CHOICE, log 67.) -/
def State.putVerdict (s : State) (cause outcome port : Nat) : State :=
  (((s.set Reg.PAIR_VERDICT_CAUSE cause).set Reg.PAIR_VERDICT_OUTCOME outcome).set Reg.PAIR_VERDICT_PORT port)

/-- PAIR_RESYNC ends (R531, R532). -/
def State.endResync (s : State) (r : CmdRes) : State :=
  match s.pair.resync with
  | some (c, _) => State.complete ((s.modPair fun p => { p with resync := none }).endOwn .pairResync c) 0x68 c r
  | none => s

/-- The device becomes STALE; a resync in progress ends (R532). -/
def State.becomeStale (s : State) : State :=
  ((s.modPair fun p => { p with armed := none }).setRole paStale).endResync (CmdRes.of .retry)

/-- Entry to STANDBY clears TALLY_CTRL.ENABLE without a FINAL seal (R519). (DESIGN CHOICE, log 65.) -/
def State.enterStandby (s : State) : State :=
  let s := if s.bit Reg.TALLY_CTRL_ENABLE then (s.off Reg.TALLY_CTRL_ENABLE).modTally fun t => { t with running := false, waits := [] }
    else s
  s.setRole paStandby

/-- A STANDBY device gives a takeover verdict: it claims, or waits armed while HOLD_IN is high (R526); with HOLD_FAULT the
verdict is recorded and not acted on (R516). -/
def State.takeover (s : State) (cause outcome port : Nat) : State :=
  let s := ((s.putVerdict cause outcome port).on Reg.PAIR_STATUS_ROLE_CHG).satAdd Reg.PAIR_TAKEOVER_CNT_COUNT 1
  if s.bit Reg.PAIR_STATUS_HOLD_FAULT then s
  else if !s.holdIn then s.claimRole
  else (s.modPair fun p => { p with armed := some s.cycle }).on Reg.PAIR_STATUS_BLOCKED

/-- The active yields: it sends HANDOFF and starts no new frame (R528). (DESIGN CHOICE, log 66.) -/
def State.yieldRole (s : State) (host : Bool) : State :=
  let s := (s.modPair fun p => { p with hostYield := host }).setRole paYielding
  s.mirrorSend (s.mirrorBytes 5 0 [])

/-- Set TALLY_CTRL.ENABLE from inside the device (R530). -/
def State.enableTally (s : State) : State :=
  if s.bit Reg.TALLY_CTRL_ENABLE then s else State.syncTally (s.on Reg.TALLY_CTRL_ENABLE).tallyOn

/-- The yielding device has finished its frames: it gates its transmitters, then releases HOLD_OUT; its Tally goes with
the role (R528, R530). -/
def State.yieldDone (s : State) : State :=
  let follow := s.bit Reg.PAIR_CTRL_TALLY_FOLLOW && s.bit Reg.TALLY_CTRL_ENABLE
  let s := if follow then State.syncTally (s.off Reg.TALLY_CTRL_ENABLE).tallyOff else s
  let s := s.modPair fun p => { p with yielded := follow, ack := if p.hostYield then 0 else p.ack, walk := none }
  if s.pair.hostYield then s.enterStandby else s.becomeStale

/-- YIELD_RELEASE: no frame is in progress on any port (R528). (DESIGN CHOICE, log 66.) -/
def State.yieldRelease (s : State) : State :=
  if s.pairState = paYielding && s.ports.all (fun e => e.2.tx.isNone) then s.yieldDone else s

/-- HOLD_OUT and HOLD_IN have settled for 200 ns: the transmitters are enabled, and a claimer becomes ACTIVE (R514). -/
def State.transmitEnable (s : State) : State :=
  let settled := match s.pair.outSince with | some t => decide (s.cycle ≥ t + 300) | none => false
  let st := s.pairState
  if !settled || s.holdIn || s.cycle < s.pair.inSince + 300 || (st != paClaiming && st != paActive) then s
  else
    let follow := s.pair.prev == paStandby && s.bit Reg.PAIR_CTRL_TALLY_FOLLOW
    let s := if st = paClaiming then
        (s.modPair fun p => { p with activeAt := s.cycle, follow := follow, queue := [], nextSeq := 1, streamLost := false,
                                     yielded := false, walk := none }).setRole paActive
      else s
    (s.set Reg.PAIR_MIRROR_LEVEL_LEVEL s.pair.queue.length).modPair fun p => { p with gate := true }

/-- A filtered change of HOLD_IN (R514, R515, R526). In an overlap both sides are gated, the junior releases, and an
overlap that did not begin as simultaneous claims sets HOLD_FAULT. (DESIGN CHOICE, log 66.) -/
def State.holdInChange (s : State) (level : Bool) : State :=
  if level = s.holdIn then { s with die := { s.die with holdIn := level } }
  else
    let s := State.setB { s with die := { s.die with holdIn := level } } Reg.PAIR_STATUS_HOLD_IN level
    let s := (s.modPair fun p => { p with inSince := s.cycle }).syncMismatch
    let st := s.pairState
    if !s.die.straps.pairEn then s
    else if level then
      if !drivesHold st then s
      else
        let s := s.modPair fun p => { p with gate := false }
        let s := if st = paClaiming then s else s.on Reg.PAIR_STATUS_HOLD_FAULT
        if s.die.straps.senior then s
        else if st = paClaiming then s.setRole s.pair.prev
        else if st = paActive then s.setRole paDetached
        else s.yieldDone
    else if s.pair.armed.isSome && st = paStandby && !s.bit Reg.PAIR_STATUS_HOLD_FAULT then s.claimRole
    else s

/-- A HOLD mismatch of 10 µs, or both sides senior or both junior, sets HOLD_FAULT (R516). -/
def State.holdFaultDetect (s : State) : State :=
  let same := s.get Reg.PAIR_PEER_STATE != 15 && s.bit Reg.PAIR_PEER_SENIOR == s.die.straps.senior
  let long := match s.pair.mismatchFrom with | some t => decide (s.cycle ≥ t + 10 * usCycles) | none => false
  if s.die.straps.pairEn && (same || long) then s.on Reg.PAIR_STATUS_HOLD_FAULT else s

/-- Refusals of the PAIR page beyond reserved bits (R513). -/
def pairCheck (s : State) (off v : Nat) : Status :=
  if off != 4 then .ok
  else
    let st := s.pairState
    let claimOk := (st == paDetached || st == paStale) && !s.holdIn && !s.bit Reg.PAIR_STATUS_HOLD_FAULT
    let yieldOk := st == paActive && s.get Reg.PAIR_PEER_STATE == paStandby
    if (bitOf v 0 && !claimOk) || (bitOf v 1 && !yieldOk) then .busy else .ok

/-- What an accepted write to the PAIR page does beyond its fields (R513). -/
def pairEffect (s : State) (off v : Nat) : State :=
  if off != 4 then s
  else if bitOf v 0 then (s.putVerdict 5 1 0).claimRole
  else if bitOf v 1 then s.yieldRole true
  else s

/-! ### Mirror frames (R521) -/

/-- A received mirror frame. -/
structure MirrorIn where
  type : Nat
  seq : Nat
  ack : Nat
  payload : List Byte

/-- The mirror frame that bytes hold, when its FCS, Ethertype, version and length are right (R521, R563): the frame
ends behind its payload, or behind the padding to 60 bytes, and its FCS. (DESIGN CHOICE, log 60.) -/
def mirrorShape (b : List Byte) (fcsOk : Bool) : Option MirrorIn :=
  let n := beAt b 16 2
  if fcsOk && beAt b 12 2 == 0x88B5 && beAt b 15 1 == 1 && b.length == max 60 (n + 30) + 4 then
    some ⟨beAt b 14 1, beAt b 18 4, beAt b 22 4, slice b 30 n⟩
  else none

/-- The receiver's own mirror address (R521). -/
def State.mirrorAddress (s : State) : Nat := if s.die.straps.senior then 0x020000000001 else 0x020000000002

/-- A received mirror frame, unless R563 discards it. -/
def State.mirrorIn (s : State) (b : List Byte) (fcsOk : Bool) : Option MirrorIn :=
  if beAt b 0 6 == s.mirrorAddress then mirrorShape b fcsOk else none

/-- A paired device with its mirror link up. -/
def State.mirrorLinked (s : State) : Bool :=
  s.die.straps.pairEn && s.funcUp .pair && s.bit Reg.PAIR_STATUS_LINK_UP

/-- New link conditions of the mirror link, kept as those of port 1024: it is up while it is good and the device is paired. -/
def State.mirrorLink (s : State) (c : LinkCond) : State :=
  let s := s.modPort 1024 fun x => { x with cond := { c with fecCorrected := 0, fecUncorr := 0, fecSymbols := 0, invalidCtrl := 0 } }
  s.setB Reg.PAIR_STATUS_LINK_UP (linkGood c && s.die.straps.pairEn && s.funcUp .pair && !s.linksHeld)

/-- `a` comes after `b` in the order of SEQ. -/
def seqAfter (a b : Nat) : Bool := a != b && (a + 2 ^ 32 - b) % 2 ^ 32 < 2 ^ 31

/-- The peer's ACK: the records up to it are no longer kept (R520). -/
def State.takeAck (s : State) (ack : Nat) : State :=
  let q := s.pair.queue.filter fun r => seqAfter r.1 ack
  if q.length = s.pair.queue.length then s
  else (s.modPair fun p => { p with queue := q, ackAt := s.cycle }).set Reg.PAIR_MIRROR_LEVEL_LEVEL q.length

/-- ACK has not advanced for 4 µs: the records are sent again (R520). (DESIGN CHOICE, log 67.) -/
def State.stateResend (s : State) : State :=
  if s.pair.queue.isEmpty || s.cycle < s.pair.ackAt + 4 * usCycles then s
  else
    let s := s.pair.queue.foldl (fun s r => s.mirrorSend (s.mirrorBytes r.2.1 r.1 r.2.2)) s
    (s.modPair fun p => { p with ackAt := s.cycle }).satAdd Reg.PAIR_RETX_CNT_COUNT 1

/-! ### Applying records (R518, R519, R530) -/

/-- What became of a record: applied, to be taken later, or not applicable. -/
inductive Applied where
  | done (s : State)
  | later
  | broken

/-- Apply an FDB entry by key; its HIT bit stays local. -/
def State.applyFdb (s : State) (b : List Byte) : Applied :=
  let e := fdbOf b
  match s.fdbAccess e.vlan e.mac with
  | (some (p, o), _, s) => .done (s.fdbPut p { e with hit := o.hit, born := s.fdb.changes })
  | (none, _, s) => match s.fdbMake e with | (some s, _, _) => .done s | (none, _, _) => .broken

/-- Place a prefix of the peer; a move that meets a failing entry has removed it, and the placing is tried anew. -/
def placePrefix : Nat → LpmEntry → State → Option State
  | 0, _, _ => none
  | n + 1, e, s => match s.lpmPlace e 0 with
    | (r, s) => if r.st = .ok then some s else if r.st = .parity then placePrefix n e s else none

/-- Apply a prefix by key. -/
def State.applyLpm (s : State) (b : List Byte) : Applied :=
  let e := lpmOf b
  match s.lpmAccess e with
  | (some _, _, s) => .done (s.lpmPut e)
  | (none, _, s) => match placePrefix 4 e s with | some s => .done s | none => .broken

/-- Open a context at its INDEX; counts, stamps and TCP fields start at 0. -/
def State.applyOpen (s : State) (b : List Byte) : Applied :=
  let k := b.take 48
  let i := leAt b 48 4
  let other := match mapFind s.flow.contexts i with | some c => c.key != k | none => (s.contextOf k).isSome
  if other then .broken
  else .done (s.setContexts (mapPut s.flow.contexts i ⟨k, 0, 0, 0, 0, 0, 0, leAt b 120 4, leAt b 124 1, false, false⟩))

/-- Apply a setting, or close a context, by key. -/
def State.applyContext (s : State) (b : List Byte) (close : Bool) : Applied :=
  match s.contextOf (b.take 48) with
  | none => .broken
  | some (i, x) =>
    if close then
      .done (((s.setContexts (mapDel s.flow.contexts i)).uncache i).modFlow fun y => { y with closedAt := mapPut y.closedAt i s.cycle })
    else .done (s.setContexts (mapPut s.flow.contexts i { x with policer := leAt b 48 4, ovr := leAt b 52 1, poisoned := false }))

/-- A commit of the peer becomes one version here, once a tag is FREE (R233). (DESIGN CHOICE, log 65.) -/
def State.applyCommit (s : State) : Applied :=
  if s.rules.changes.isEmpty then .done s
  else match s.freeTag with | none => .later | some t => .done (s.commitSwitch t)

/-- Apply a gate commit with its start time; a list whose start has passed starts now. -/
def State.applyGates (s : State) (b : List Byte) : State :=
  (s.putCommit b (stampTime (leAt b 8 16))).gateListStart (leAt b 0 2)

/-- Apply one record of Table 20-4 to the tables. -/
def State.applyTable (s : State) (op : Nat) (b : List Byte) : Applied :=
  match op with
  | 0x10 =>
    let r := coreRuleStage ⟨0, 0, 0, 0, 0, 0, b⟩ s
    if r.1.st == .ok then .done r.2 else .broken
  | 0x12 => s.applyCommit
  | 0x14 => .done (s.putComparator b)
  | 0x20 => s.applyFdb b
  | 0x21 => match s.fdbAccess (leAt b 6 2) (beAt b 0 6) with
    | (some (p, e), _, s) => .done (s.fdbRemove p e)
    | (none, _, s) => .done s
  | 0x28 => s.applyLpm b
  | 0x29 => match s.lpmAccess (lpmOf b) with
    | (some e, _, s) => .done (s.lpmRemove e)
    | (none, _, s) => .done s
  | 0x30 => s.applyOpen b
  | 0x31 => s.applyContext b false
  | 0x34 => s.applyContext b true
  | 0x3A => .done (s.putMembers (beAt b 0 4 % 65536) (memberList (b.drop 8)))
  | 0x40 => .done (s.putPolicer b)
  | 0x42 => .done (s.putShaper b)
  | 0x44 => .done (s.putGates (beAt b 0 4 % 1024) (bits (beAt b 0 4) 16 8) (b.drop 8))
  | 0x45 => .done (s.applyGates b)
  | 0x46 => .done (s.dropCommit (beAt b 0 4 % 1024))
  | 0 => .done ((s.writeHead b).modTally fun y => { y with lastHead := some (beAt b 0 8) })
  | _ => .broken

/-- A STATE or BULK record is applied in SEQ order by a STANDBY or SYNCING device; an ACTIVE one takes the FINAL head of
the yielding device and no other (R518, R530, R532). (DESIGN CHOICE, log 60.) -/
def State.recordReceive (s : State) (frame : List Byte) (fcsOk : Bool) : State :=
  match s.mirrorIn frame fcsOk with
  | none => s
  | some m =>
    let st := s.pairState
    let op := beAt m.payload 0 1
    let takes := st == paStandby || st == paSyncing || (st == paActive && op == 0 && m.type == 3)
    if !s.mirrorLinked || (m.type != 3 && m.type != 4) then s
    else
      let s := s.takeAck m.ack
      if !takes || m.seq != (s.pair.ack + 1) % 2 ^ 32 then s
      else match s.applyTable op (m.payload.drop 8) with
        | .later => s
        | .broken => s.becomeStale
        | .done s =>
          let n := b2n (m.type == 4)
          let s := s.modPair fun p => { p with ack := m.seq, resync := p.resync.map fun r => (r.1, r.2 + n) }
          if st = paActive && s.pair.follow then (s.modPair fun p => { p with follow := false }).enableTally else s

/-! ### The bulk copy (R531, R532) -/

/-- The items of the walk of a resync, in order: opcode and key. (DESIGN CHOICE, log 65.) -/
def State.walkItems (s : State) : List (Nat × List Byte) :=
  let fdb := (s.fdb.entries.map fun e => (fdbKeyNat e.2.vlan e.2.mac, fdbKeyBytes e.2)).mergeSort fun a b => a.1 ≤ b.1
  let lpm := (s.lpm.entries.map fun e => (lpmKeyNat e, lpmKeyBytes e)).mergeSort fun a b => a.1 ≤ b.1
  let gates := (s.tm.gates.filter fun g => g.2.active.isSome || g.2.committed.isSome).map (·.1)
  let heads := (s.tally.heads.filter fun h => headValid h.2).map fun h => (beAt h.2 0 8, h.2)
  let newest := ((heads.mergeSort fun a b => a.1 ≤ b.1).drop (heads.length - 4)).map (·.2)
  (s.rules.comparators.map fun k => (0x14, leBytes 2 k.1)) ++ [(0x12, [])] ++
  fdb.map (fun e => (0x20, e.2)) ++ lpm.map (fun e => (0x28, e.2)) ++ s.flow.contexts.map (fun e => (0x30, e.2.key)) ++
  (s.mcast.groups.map fun g => (0x3A, beBytes 2 g.1)) ++
  ((s.tm.policers.filter fun p => p.2.bucket.en).map fun p => (0x40, leBytes 2 p.1)) ++
  ((s.tm.shapers.filter fun p => p.2.en).map fun p => (0x42, leBytes 2 p.1)) ++
  (gates.map fun p => (0x44, beBytes 2 p)) ++ newest.map fun h => (0, h)

/-- The records of a gate list: its entries, then its commit with its start time. -/
def gateRecords (p : Nat) (l : GateList) : List (Nat × List Byte) :=
  [(0x44, paramBytes p ++ l.entries.flatMap fun e => leBytes 2 e.1 ++ zeros 2 ++ leBytes 4 e.2),
   (0x45, leBytes 2 p ++ leBytes 2 l.entries.length ++ [BitVec.ofNat 8 (b2n l.enable), 0, 0, 0] ++
     leBytes 16 (stampOf l.start 0) ++ leBytes 4 l.cycleNs ++ zeros 4)]

/-- The records of an item with its value now. (DESIGN CHOICE, log 60.) -/
def State.itemRecords (s : State) (w : Nat × List Byte) : List (Nat × List Byte) :=
  let k := w.2
  match w.1 with
  | 0x14 =>
    let c := s.comparator (leNat k)
    [(0x14, k ++ [BitVec.ofNat 8 c.source, 0] ++ leBytes 2 c.lower ++ leBytes 2 c.upper ++ zeros 8)]
  | 0x12 => (s.ruleSet s.currentTag).map (fun r => (0x10, (s.ruleEntry r.2).bytes)) ++ [(0x12, [])]
  | 0x20 => match fdbFind s.fdb.entries (leAt k 6 2) (beAt k 0 6) with
    | some (_, e) => [(0x20, fdbBytes { e with hit := false })]
    | none => []
  | 0x28 => match s.lpm.entries.find? (sameKey (lpmOf k)) with | some e => [(0x28, lpmBytes e)] | none => []
  | 0x30 => match s.contextOf k with | some (i, c) => [(0x30, contextRecord i c)] | none => []
  | 0x3A => [(0x3A, paramBytes (beNat k) ++ (s.members (beNat k)).flatMap (leBytes 2))]
  | 0x40 => [(0x40, policerBytes (leNat k) (s.policer (leNat k)))]
  | 0x42 =>
    let b := s.shaper (leNat k)
    [(0x42, k ++ [BitVec.ofNat 8 (b2n b.en), 0] ++ leBytes 4 b.rate ++ leBytes 4 b.burst ++ zeros 4)]
  | 0x44 =>
    let g := s.gate (beNat k)
    (match g.active with | some l => gateRecords (beNat k) l | none => []) ++
    (match g.committed with | some l => gateRecords (beNat k) l | none => [])
  | _ => [(0, k)]

/-- The walk reads an item: an FDB entry or prefix that fails parity is removed (R275). -/
def State.itemCheck (s : State) (w : Nat × List Byte) : State :=
  match w.1 with
  | 0x20 => (s.fdbAccess (leAt w.2 6 2) (beAt w.2 0 6)).2.2
  | 0x28 => (s.lpmAccess (lpmOf w.2)).2.2
  | _ => s

/-- The active sends the next `n` items of its walk as BULK records (R532). -/
def bulkSend : Nat → State → State
  | 0, s => s
  | n + 1, s =>
    match s.pair.walk with
    | some (w :: l) =>
      let s := s.itemCheck w
      let s := (s.itemRecords w).foldl (fun s r => if s.pair.streamLost then s else s.sendRecord 4 r.1 r.2) s
      bulkSend n (s.modPair fun p => { p with walk := if p.streamLost then none else some l })
    | _ => s

/-- The walk begins: a fresh stream, and the routine on one Reckoner (R532). (DESIGN CHOICE, log 65.) -/
def State.startResync (s : State) : State :=
  let s := s.modPair fun p => { p with queue := [], nextSeq := 1, streamLost := false }
  let s := (s.set Reg.PAIR_MIRROR_LEVEL_LEVEL 0).modPair fun p => { p with walk := some s.walkItems }
  s.request .pairResync none

/-- The walk is over, or given up. -/
def State.endBulk (s : State) : State :=
  (s.modPair fun p => { p with walk := none }).endRoutine (· == .pairResync)

/-- Clear the rule store. -/
def State.clearRules (s : State) : State :=
  State.sweepEntries { s with rules := { s.rules with
    sets := mapPut s.rules.sets s.currentTag [], changes := [], comparators := [] } }

/-- Clear the session contexts. -/
def State.clearContexts (s : State) : State :=
  (s.setContexts []).modFlow fun f => { f with cache := [], dirty := [], bad := [] }

/-- Clear the multicast groups. -/
def State.clearGroups (s : State) : State :=
  let s := (s.mcast.groups.map (·.1)).foldl (fun s g => s.putMembers g []) s
  { s with mcast := { s.mcast with groups := [] } }

/-- An accepted resync clears the tables of the joining device (R531). -/
def State.clearTables (s : State) : State :=
  let s := ((s.clearRules.setFdb []).setLpm ⟨[], [], 0⟩).clearContexts.clearGroups
  let s := s.modTm fun t => { t with policers := [], shapers := [] }
  (s.tm.gates.map (·.1)).foldl (fun s p => State.syncGate (s.setGate p gate0) p) s

/-- PAIR_RESYNC (R531). -/
def State.pairResync (s : State) (c : CmdIn) : State :=
  match opInfo 0x68 with
  | none => s
  | some o => match s.cmdGate 0x68 o c with
    | some r => (s.endOwn .pairResync c).complete 0x68 c r
    | none =>
      let st := s.pairState
      let close (r : CmdRes) : State := (s.endOwn .pairResync c).complete 0x68 c r
      if (match s.pair.resync with | some (d, _) => d == c | none => false) then s
      else if st = paStandby then close { CmdRes.ok with result := leBytes 4 0 }
      else if drivesHold st || st = paSyncing then close (CmdRes.of .busy)
      else if s.get Reg.PAIR_PEER_STATE != paActive || (st != paDetached && st != paStale) then close (CmdRes.of .retry)
      else (s.clearTables.modPair fun p => { p with resync := some (c, 0), ack := 0 }).setRole paSyncing

/-- The bulk copy completes: the joining device becomes STANDBY, and the active's walk is over (R531, R532). (DESIGN CHOICE, log 65.) -/
def State.resyncComplete (s : State) : State :=
  match s.pair.walk with
  | some l => (bulkSend l.length s).endBulk
  | none => match s.pair.resync with
    | some (_, n) => if s.pairState = paSyncing then s.enterStandby.endResync { CmdRes.ok with result := leBytes 4 n } else s
    | none => s

/-! ### Heartbeats (R516, R523, R526, R527) -/

/-- The heartbeat payload (Table 20-6). (DEDUCED, log 48.) -/
def State.heartbeat (s : State) : List Byte :=
  [BitVec.ofNat 8 (s.pairState + 16 * b2n s.die.straps.senior + 32 * b2n (s.bit Reg.PAIR_STATUS_HOLD_OUT) + 64 * b2n s.holdIn +
     128 * b2n (s.bit Reg.PAIR_CTRL_TAKE_UNEXPLAINED)), BitVec.ofNat 8 (s.presLock + 4 * b2n s.pair.streamLost)] ++ zeros 6 ++
  beBytes 8 s.deviceId ++ beBytes 8 s.lastSealIndex ++ beBytes 8 s.pair.sentWindow ++ beBytes 16 s.presStamp

/-- Send a heartbeat (R523). -/
def State.heartbeatSend (s : State) : State :=
  if s.die.straps.pairEn && s.funcUp .pair then s.mirrorSend (s.mirrorBytes 1 0 s.heartbeat) else s

/-- What a valid heartbeat shows of the peer (Table 20-14). -/
def State.notePeer (s : State) (b : List Byte) : State :=
  let f := beAt b 0 1
  let s := ((s.set Reg.PAIR_PEER_STATE (f % 16)).setB Reg.PAIR_PEER_SENIOR (bitOf f 4)).setB Reg.PAIR_PEER_TAKE_UNEXPLAINED (bitOf f 7)
  let s := (s.set Reg.PAIR_PEER_ID_LO_ID (beAt b 12 4)).set Reg.PAIR_PEER_ID_HI_ID (beAt b 8 4)
  s.modPair fun p => { p with
    hbAt := s.cycle, hbLost := false, peerOut := bitOf f 5, peerIn := bitOf f 6, peerLock := beAt b 1 1 % 4 }

/-- A heartbeat in all but its destination address that reports the receiver's own SENIOR (R516): a sender with the same
SENIOR addresses its frames to the identity that the receiver does not have. (DESIGN CHOICE, log 66.) -/
def State.sameSenior (s : State) (frame : List Byte) (fcsOk : Bool) : Bool :=
  match mirrorShape frame fcsOk with
  | some m => m.type == 1 && m.payload.length == 48 && bitOf (beAt m.payload 0 1) 4 == s.die.straps.senior
  | none => false

/-- A heartbeat arrives (R516, R518, R520, R526, R532). (DESIGN CHOICE, log 66.) -/
def State.heartbeatReceive (s : State) (frame : List Byte) (fcsOk : Bool) : State :=
  match s.mirrorIn frame fcsOk with
  | none => if s.mirrorLinked && s.sameSenior frame fcsOk then s.on Reg.PAIR_STATUS_HOLD_FAULT else s
  | some m =>
    if !s.mirrorLinked || m.type != 1 || m.payload.length != 48 then s
    else
      let was := s.get Reg.PAIR_PEER_STATE
      let lapse := s.pair.hbLost && s.pair.armed.isSome
      let s := ((s.takeAck m.ack).notePeer m.payload).syncMismatch.syncCompare
      let peer := s.get Reg.PAIR_PEER_STATE
      let st := s.pairState
      let broken := bitOf (beAt m.payload 1 1) 2 && peer == paActive && (st == paStandby || st == paSyncing)
      if lapse || broken then s.becomeStale
      else if st = paActive && peer = paSyncing && was != paSyncing then s.startResync
      else if st = paActive && peer = paStale && (was == paStandby || was == paSyncing) then s.breakStream.endBulk
      else if s.pair.walk.isSome && peer != paSyncing then s.endBulk
      else s

/-- No valid heartbeat for 20 µs (R523, R526, R527). (DESIGN CHOICE, log 66.) -/
def State.heartbeatLoss (s : State) : State :=
  if !s.die.straps.pairEn || !s.funcUp .pair || s.pair.hbLost || s.cycle < s.pair.hbAt + 20 * usCycles then s
  else
    let s := (s.modPair fun p => { p with hbLost := true }).on Reg.PAIR_STATUS_HB_LOST
    let st := s.pairState
    if st = paActive then s.breakStream.endBulk
    else if st = paSyncing then s.becomeStale
    else if st = paStandby then
      let armed := s.pair.armed.isSome
      let s := if armed then s else s.takeover 2 1 0
      if s.bit Reg.PAIR_STATUS_HOLD_FAULT then s.becomeStale else s
    else s

/-- HANDOFF arrives from the yielding active (R526, R528). -/
def State.handoffReceive (s : State) (frame : List Byte) (fcsOk : Bool) : State :=
  match s.mirrorIn frame fcsOk with
  | none => s
  | some m =>
    if !s.mirrorLinked || m.type != 5 || s.pairState != paStandby then s
    else
      let s := (s.takeAck m.ack).modPair fun p => { p with handoff := true }
      if s.pair.armed.isSome then s else s.takeover 4 1 0

/-- HOLD_IN low for 1 µs while the peer last reported ACTIVE, without HANDOFF (R526); with HOLD_FAULT the verdict is recorded
once (R516). (DESIGN CHOICE, log 67.) -/
def State.peerRelease (s : State) : State :=
  if s.pairState = paStandby && !s.holdIn && s.cycle ≥ s.pair.inSince + usCycles && s.get Reg.PAIR_PEER_STATE = paActive &&
      !s.pair.handoff && !(s.bit Reg.PAIR_STATUS_HOLD_FAULT && s.get Reg.PAIR_VERDICT_CAUSE == 3) then s.takeover 3 1 0
  else s

/-- An armed takeover lapses after ARM_MS (R526). -/
def State.takeoverLapse (s : State) : State :=
  let ms := s.get Reg.PAIR_CTRL_ARM_MS
  match s.pair.armed with
  | some t => if ms != 0 && s.cycle ≥ t + ms * msCycles then s.becomeStale else s
  | none => s

/-- 50 µs after becoming ACTIVE without the FINAL head, the new active enables Tally itself (R530). -/
def State.followTimeout (s : State) : State :=
  if s.pairState = paActive && s.pair.follow && s.cycle ≥ s.pair.activeAt + 50 * usCycles then
    (s.modPair fun p => { p with follow := false }).enableTally
  else s

/-! ### Comparing outputs (R522 to R525) -/

/-- The errors of a window noted on this side. -/
def State.windowErrors (s : State) (w : Nat) : Bool × Bool := mapGet s.pair.errors w (false, false)

/-- One DIGEST frame of a window (Table 20-7). -/
def State.digestFrame (s : State) (w k : Nat) : List Byte :=
  let e := s.windowErrors w
  s.mirrorBytes 2 0 (beBytes 8 w ++ beBytes 2 (64 * k) ++ [BitVec.ofNat 8 (b2n e.1 + 2 * b2n e.2)] ++ zeros 5 ++
    (List.range 64).flatMap fun i => beBytes 8 (mapGet s.pair.digests (1024 * w + 64 * k + i) 0))

/-- The digests of the window that has just ended are sent (R523). (DESIGN CHOICE, log 67.) -/
def State.digestSend (s : State) : State :=
  let w := s.windowNow - 1
  if !s.mirrorLinked || s.windowNow = 0 || (w ≤ s.pair.sentWindow && w != 0) then s
  else
    let s := (List.range 16).foldl (fun s k => s.mirrorSend (s.digestFrame w k)) s
    s.modPair fun p => { p with
      sentWindow := w
      digests := p.digests.filter fun d => w ≤ d.1 / 1024 + 4
      errors := p.errors.filter fun e => w ≤ e.1 + 4 }

/-- The peer's digest of a port in its DIGEST frames. -/
def peerDigest (l : List DigestFrame) (p : Nat) : Nat :=
  match l.find? fun d => d.first == p / 64 * 64 with | some d => d.digests.getD (p % 64) 0 | none => 0

/-- All 16 frames of a window are there. -/
def digestsWhole (l : List DigestFrame) : Bool :=
  (List.range 16).all fun k => l.any fun d => d.first == 64 * k && d.digests.length == 64

/-- The comparison of one port at the close of a window (R524): the mismatches found so far as (port, window). -/
def State.comparePort (w p theirs : Nat) (r : State × List (Nat × Nat)) : State × List (Nat × Nat) :=
  let s := r.1
  let x := (mapGet s.pair.residual p 0 + mapGet s.pair.digests (1024 * w + p) 0 + 2 ^ 64 - theirs) % 2 ^ 64
  let s' := s.modPair fun d => { d with residual := mapSet d.residual p 0 0, waits := mapDel d.waits p }
  match mapFind s.pair.waits p with
  | none => if x = 0 then (s.modPair fun d => { d with residual := mapSet d.residual p 0 0 }, r.2)
    else (s.modPair fun d => { d with residual := mapSet d.residual p x 0, waits := mapPut d.waits p w }, r.2)
  | some w0 => if x = 0 then (s'.satAdd Reg.PAIR_SHIFT_CNT_COUNT 1, r.2) else (s', r.2 ++ [(p, w0)])

/-- The outcome of a mismatch (Table 20-9). (DESIGN CHOICE, log 67.) -/
def verdictOf (activeInt standbyInt ext : Bool) : Nat :=
  match activeInt, standbyInt, ext with
  | true, false, _ => 1
  | false, true, _ => 2
  | true, true, _ => 3
  | false, false, true => 4
  | false, false, false => 5

/-- The verdict of a mismatch on a port in a window (R525, R527). (DESIGN CHOICE, log 67.) -/
def State.mismatch (s : State) (port w : Nat) : State :=
  let or2 (f : Nat → Bool × Bool) : Bool × Bool := ((f w).1 || (f (w - 1)).1, (f w).2 || (f (w - 1)).2)
  let mine := or2 s.windowErrors
  let peer := or2 fun k => mapGet s.pair.peerErrors k (false, false)
  let active := s.pairState == paActive
  let out := verdictOf (if active then mine.1 else peer.1) (if active then peer.1 else mine.1) (mine.2 || peer.2)
  let take := out == 1 || (out == 5 && s.bit (if active then Reg.PAIR_CTRL_TAKE_UNEXPLAINED else Reg.PAIR_PEER_TAKE_UNEXPLAINED))
  let s := (s.on Reg.PAIR_STATUS_MISMATCH).set Reg.PAIR_VERDICT_WIN_WINDOW (w % 2 ^ 32)
  let s := s.putVerdict 1 out port
  if take then (if active then s.yieldRole false else s.takeover 1 out port)
  else if (out == 2 || out == 3) && !active then s.becomeStale
  else s

/-- At the close of a window whose digests both sides hold, each compared port is tested (R524). (DESIGN CHOICE, log 67.) -/
def State.windowCompare (s : State) (w : Nat) (peer : List DigestFrame) : State :=
  if !s.comparing || w ≥ s.windowNow || w < s.pair.compared || !digestsWhole peer then s
  else
    let errs := (peer.any (·.intErr), peer.any (·.extErr))
    let s := s.modPair fun p => { p with peerErrors := mapPut (p.peerErrors.filter fun e => w ≤ e.1 + 4) w errs, compared := w + 1 }
    let ports := (List.range 1024).filter fun p => !bitOf (s.get (Reg.PAIR_CMP_MASK_MASK (p / 32))) (p % 32)
    let r := ports.foldl (fun r p => State.comparePort w p (peerDigest peer p) r) (s, [])
    match r.2 with
    | [] => r.1
    | (p, w0) :: _ => (r.1.satAdd Reg.PAIR_MISMATCH_CNT_COUNT r.2.length).mismatch p w0

end Sys2Proof.Machine
end

