-- ==== Sys2Proof/Machine/Span.lean ====
section
/-! DEFINITION. Span links (R537 to R553): turning the span lanes on and off, and the CONTROL frames. DATA frames are received
in Ingress.lean and sent as copies (Queues.lean, Egress.lean). -/

namespace Sys2Proof.Machine

/-- A span port of a wired group. -/
def State.isSpanPort (s : State) (p : Nat) : Bool := s.wiredGroups.any fun g => (spanPorts g).contains p

/-- SPAN_STATUS.PORTS_UP follows the span ports (R544). -/
def State.syncSpan (s : State) : State :=
  s.set Reg.SPAN_STATUS_PORTS_UP (maskOf ((List.range 8).filter fun i => s.isSpanPort (960 + 8 * i) && s.portUp (960 + 8 * i)))

/-- Any port of lane groups 30 and 31 is not DISABLED (R538). -/
def State.spanBusy (s : State) : Bool := (List.range 64).any fun i => s.isPort (960 + i) && s.linkState (960 + i) != stDisabled

/-- Refusals of the SPAN page beyond reserved bits (R538, Table 21-3). -/
def spanCheck (s : State) (off v : Nat) : Status :=
  if off != 0 then .ok
  else
    let changes := bits v 0 3 != s.get Reg.SPAN_CTRL_GROUP_EN * 2 + s.get Reg.SPAN_CTRL_EN
    let st := s.pairState
    if bitOf v 0 && bits v 1 2 == 0 then .range
    else if changes && (s.spanBusy || (st != paUnpaired && st != paDetached && st != paStale)) then .busy
    else .ok

/-- Set one octet of the span groups: an 8-lane port at 50 Gb/s a lane, or no port. -/
def State.spanOctet (s : State) (o : Nat) (wired : Bool) : State :=
  let mode := if wired then 4 else 0
  let s := if s.get (Reg.MAC_OCTET_MODE_MODE o) = mode then s else (s.set (Reg.MAC_OCTET_MODE_MODE o) mode).octetReset o
  let s := (s.set (Reg.MAC_OCTET_MODE_RATE o) 2).calLost (octetLanes o)
  if !wired then s
  else
    let p := 8 * o
    let s := ((s.set (Reg.MAC_PORT_CTRL_FEC p) 3).set (Reg.MAC_PORT_CTRL_FLOW_CTRL p) 2).on (Reg.MAC_PORT_CTRL_ENABLE p)
    ((s.off (Reg.MAC_PORT_CTRL_AN_EN p)).set (Reg.MAC_PORT_FRAME_FRAME_MAX p) 16000).applyEnable p

/-- Set up the span lanes as SPAN_CTRL says (R537, R542); every group with members is reported anew (R541). (DESIGN CHOICE, log 68.) -/
def State.setupSpan (s : State) : State :=
  if !s.spanOn then { s with span := { s.span with members := [], updates := [] } }
  else
    let s := (List.range 8).foldl (fun s i => s.spanOctet (120 + i) (s.wiredGroups.contains (i / 4))) s
    let known := (s.mcast.groups.filter fun g => !g.2.2.isEmpty).map fun g => (g.1, true)
    let all := s.wiredGroups.flatMap fun g => (spanPorts g).map fun p => (p, known)
    { s with span := { s.span with members := [], updates := all.foldl (fun m e => mapSet m e.1 e.2 []) [] } }

/-- What an accepted write to the SPAN page does beyond its fields (R537). (DESIGN CHOICE, log 68.) -/
def spanEffect (old s : State) (off : Nat) : State :=
  if off = 0 && (old.get Reg.SPAN_CTRL_EN != s.get Reg.SPAN_CTRL_EN || old.get Reg.SPAN_CTRL_GROUP_EN != s.get Reg.SPAN_CTRL_GROUP_EN) then
    if s.spanOn then s.setupSpan
    else ((s.set Reg.SPAN_STATUS_PEER_ACTIVE 0).setupSpan)
  else s

/-- A CONTROL frame with membership updates: the pair state and the number of updates stand behind the header, whose stamp
field holds the presentation time. (DESIGN CHOICE, log 60.) -/
def State.controlSpan (s : State) (p : Nat) (l : List (Nat × Bool)) : List Byte :=
  let b := s.spanHead p ++ [2] ++ zeros 15 ++ beBytes 16 s.presStamp ++ [BitVec.ofNat 8 s.pairState, BitVec.ofNat 8 l.length] ++
    l.flatMap fun u => beBytes 2 u.1 ++ beBytes 2 (b2n u.2)
  let b := b ++ zeros (60 - b.length)
  b ++ fcsBytes b

/-- A span port sends its CONTROL frame with up to 64 membership updates (R541). -/
def State.spanControlSend (s : State) (p : Nat) : State :=
  if !s.isSpanPort p || !s.portUp p || !s.funcUp .pair then s
  else
    let l := mapGet s.span.updates p []
    let b := s.controlSpan p (l.take 64)
    let s := (s.countTx p b false).putOut p b
    { s with span := { s.span with updates := mapSet s.span.updates p (l.drop 64) [], sent := s.span.sent ++ [(p, b)] } }

/-- A difference of two times in 2^−16 ns as 1/16 ns, saturating (R127). (DESIGN CHOICE, log 70.) -/
def diffSixteenths (d : Int) : Nat := ofSigned 32 (max (-(2 ^ 31)) (min (2 ^ 31 - 1) (d / 4096)))

/-- The fixed latencies of a span link, transmit and receive, in 2^−16 ns (Table 3-6). -/
def spanLatency : Int :=
  let l := fixedLat 8 2 3
  ((l.1 + l.2) * 65536 / 100 : Nat)

/-- A CONTROL frame arrives (R541, R543, R546, R549). (DESIGN CHOICE, log 60.) -/
def State.spanControlReceive (s : State) (p : Nat) (b : List Byte) (fcsOk : Bool) : State :=
  if !s.isSpanPort p || !s.portUp p then s
  else
    let g := (p - 960) / 32
    let s := s.countRx p (s.get (Reg.MAC_PORT_FRAME_FRAME_MAX p) + 46) b (if fcsOk then .good else .bad) false
    let long := decide (b.length > s.get (Reg.MAC_PORT_FRAME_FRAME_MAX p) + 46)
    let n := min 64 (beAt b 47 1)
    if !fcsOk || long || b.length < 64 then s
    else if !s.isSpan b 2 || 52 + 4 * n > b.length then s.count p 60 1
    else if !s.funcUp .pair then s
    else
      let st := beAt b 46 1
      let s := s.putBit Reg.SPAN_STATUS_PEER_ACTIVE g (st == paActive || st == paUnpaired)
      let d := (s.presTicks : Int) - stampTime (beAt b 30 16) - spanLatency
      let s := s.set (Reg.SPAN_TIME_DIFF_DIFF g) (diffSixteenths d)
      let m := (List.range n).foldl (fun m i =>
        mapSet m (g * 65536 + beAt b (48 + 4 * i) 2) (if beAt b (50 + 4 * i) 2 = 0 then 0 else 1) 0) s.span.members
      { s with span := { s.span with members := m } }

end Sys2Proof.Machine
end

