-- ==== Sys2Proof/Machine/Power.lean ====
section
/-! DEFINITION. Power, resets, straps, reference inputs, supplies and temperature (R36 to R64, R554, R573, R594). -/

namespace Sys2Proof.Machine

/-! ### Device resets (R61, R470, R573) -/

/-- The registers that show how the device came up: the captured straps (Table 2-5), the cause (Table 17-13), the fuses, the
retired MRAM slots, and the pair state of a paired device with its HOLD_IN (Table 20-1). -/
def State.showStart (s : State) : State :=
  let c := s.die.straps
  let s := (((s.setB Reg.SYS_STRAP_SENIOR c.senior).setB Reg.SYS_STRAP_PAIR_EN c.pairEn).set Reg.SYS_STRAP_BOARD_POS
    s.boardPos).setB Reg.SYS_STRAP_TEST_EN c.testEn
  let s := ((s.set Reg.SYS_RESET_CAUSE_CAUSE s.die.cause).set Reg.TALLY_MRAM_RETIRED_RETIRED s.tally.retired.length).syncFuses
  (s.set Reg.PAIR_STATUS_STATE (if c.pairEn then paDetached else paUnpaired)).setB Reg.PAIR_STATUS_HOLD_IN s.die.holdIn

/-- All state is lost but MRAM, fuses and what the pins hold (R61, R573). `die` is the die's record afterwards. The test
access port keeps its instruction, which only its own reset changes (R590). (DESIGN CHOICE, log 6.) -/
def State.loseState (s : State) (die : DieSt) : State :=
  State.showStart { State.reset with
    pending := s.pending
    die := die
    tally := tally0 s.tally.heads s.tally.nextSlot s.tally.retired
    host := { host0 with sent := s.host.sent }
    sec := { sec0 with fuses := s.sec.fuses, keyKept := s.sec.keyKept, draws := s.sec.draws }
    pair := { pair0 with sent := s.pair.sent }
    span := { span0 with sent := s.span.sent }
    plat := { plat0 with tap := s.plat.tap } }

/-- A running device resets: seal heads under way are written (R59, R195), a bundle is cut (R503), and the rest is lost. (DESIGN CHOICE, log 6.) -/
def State.deviceReset (s : State) (mode : DieMode) (cause : Nat) : State :=
  let s := s.completeSeals.cutBundle
  s.loseState { die0 with mode := mode, straps := s.die.straps, cause := cause, strapPins := s.die.strapPins, holdIn := s.die.holdIn }

/-- A filtered low on RESET_N (R61). In a brown-out reset it lets the next release end the reset (R62). (DEDUCED, log 7; DESIGN CHOICE, log 8.) -/
def State.resetAssert (s : State) : State :=
  match s.die.mode with
  | .running => s.deviceReset .held 1
  | .brownOut => { s with die := { s.die with mode := .held } }
  | _ => s

/-- A filtered rising edge of RESET_N ends the reset and captures the straps (R44); the first one after power-on reads as
cause 0. A brown-out reset ends only after RESET_N was taken low, a thermal trip only with the supply (R62, R64). (DEDUCED, log 7; DESIGN CHOICE, log 8.) -/
def State.resetRelease (s : State) (straps : Straps) : State :=
  let go (cause : Nat) : State :=
    s.loseState { die0 with straps := straps, cause := cause, strapPins := straps, holdIn := s.die.holdIn }
  match s.die.mode with
  | .held => go s.die.cause
  | .off => go 0
  | _ => s

/-- The rails fall: a seal-head write in progress is completed (R59), or is left incomplete where VDD_CORE falls faster than
R59 allows, which is open: its slot then holds no valid head (R574). (DESIGN CHOICE, log 42.) -/
def State.fallHeads (s : State) : State :=
  let begun := !s.tally.waits.isEmpty || s.tally.seals.any fun x => x.slot.isNone
  if begun && Config.fastFall s.sec.draws then
    (s.modTally fun y => { y with heads := mapDel y.heads y.nextSlot }).modSec fun x => { x with draws := x.draws + 1 }
  else s.completeSeals

/-- All rails are lost (R573). (DEDUCED, log 7; DESIGN CHOICE, log 42.) -/
def State.powerLoss (s : State) : State :=
  let s := if s.running then s.fallHeads.cutBundle else s
  let s := s.loseState { die0 with mode := .off, holdIn := s.die.holdIn }
  { s with plat := plat0 }

/-- VDD_CORE below 0.70 V for more than 1 µs (R62). (DEDUCED, log 7; DESIGN CHOICE, log 8.) -/
def State.brownOut (s : State) : State := if s.running then s.deviceReset .brownOut 3 else s

/-! ### Straps and supplies -/

/-- The strap pins are compared with the captured values (R46). -/
def State.strapCompare (s : State) (pins : Straps) : State :=
  let s := { s with die := { s.die with strapPins := pins } }
  if pins = s.die.straps then s else s.on Reg.SYS_STRAP_CHANGED

/-- The bits of SYS_SUPPLY_FLAGS, bit 0 first (Table 2-18). -/
def supplyBits : List Fld :=
  [Reg.SYS_SUPPLY_FLAGS_VDD_CORE_OUT, Reg.SYS_SUPPLY_FLAGS_VDD_SRAM_OUT, Reg.SYS_SUPPLY_FLAGS_VDD_LANE_A_OUT,
   Reg.SYS_SUPPLY_FLAGS_VDD_LANE_T_OUT, Reg.SYS_SUPPLY_FLAGS_VDD_DPHY_OUT, Reg.SYS_SUPPLY_FLAGS_VDD_HBM_OUT,
   Reg.SYS_SUPPLY_FLAGS_VDDQ_HBM_OUT, Reg.SYS_SUPPLY_FLAGS_VPP_HBM_OUT, Reg.SYS_SUPPLY_FLAGS_VDDIO_OUT]

/-- Set the flag of every rail that is outside its range (R62, R594). (DEDUCED, log 9.) -/
def State.flagSupplies (s : State) : State :=
  (supplyBits.zip (List.range 9)).foldl (fun s e => if bitOf s.die.outside e.2 then s.on e.1 else s) s

/-- The rails now outside their range (R62). -/
def State.supplyCheck (s : State) (outside : Nat) : State :=
  State.flagSupplies { s with die := { s.die with outside := outside % 512 } }

/-! ### Temperature and core speed -/

/-- The hottest of the sensors (R63). -/
def hottestOf : List Int → Option Int
  | [] => none
  | t :: l => some (l.foldl max t)

/-- The hottest reading in 1/16 °C is taken up (R63, Table 2-16). (DEDUCED, log 7.) -/
def State.hottestRead (s : State) (hottest : Int) : State :=
  let m := s.get Reg.SYS_TEMP_MAX_T
  let s := s.set Reg.SYS_TEMP_NOW_T (ofSigned 16 hottest)
  let s := s.set Reg.SYS_TEMP_MAX_T (if m = 0x8000 then ofSigned 16 hottest else ofSigned 16 (max (toSigned 16 m) hottest))
  let s := { s with die := { s.die with
    tempWarn := decide (hottest ≥ 1600) || (s.die.tempWarn && decide (hottest ≥ 1552))
    tempOver := decide (hottest ≥ 1728) || (s.die.tempOver && decide (hottest ≥ 1680)) } }
  if hottest ≥ 1840 then s.deviceReset .tripped 0 else s

/-- The 24 switch-die and 16 lane-die sensors have been read (R63). -/
def State.tempReading (s : State) (sensors : List Int) : State :=
  match hottestOf sensors with | some t => s.hottestRead t | none => s

/-- The speed of the replica stage in MT/s (R22). -/
def State.coreSpeed (s : State) (mt : Nat) : State :=
  let s := s.set Reg.SYS_CORE_SPEED_NOW_MT mt
  let s := s.set Reg.SYS_CORE_SPEED_MIN_MT (min (s.get Reg.SYS_CORE_SPEED_MIN_MT) (s.get Reg.SYS_CORE_SPEED_NOW_MT))
  { s with die := { s.die with slow := decide (mt < 1500) || (s.die.slow && decide (mt < 1550)) } }

/-! ### Reference inputs (R48 to R51) -/

/-- The lanes of a group see their reference go or come back: each port's link is judged anew (R49, R82). -/
def State.rejudge (s : State) (group : Nat) : State :=
  (List.range 32).foldl (fun s i =>
    let p := 32 * group + i
    if s.isPort p then s.linkChange p (s.port p).cond else s) s

/-- A domain loses its TREF; its lock goes when it follows that input (R51, R114). -/
def State.trefLost (s : State) (d : Nat) : State :=
  let s := if d = 0 then (s.off Reg.SYS_CLK_STATUS_DOMA_OK).on Reg.SYS_CLK_STATUS_DOMA_LOST
    else (s.off Reg.SYS_CLK_STATUS_DOMB_OK).on Reg.SYS_CLK_STATUS_DOMB_LOST
  if s.get (Reg.TIME_DOM_CTRL_TREF_SEL d) = 2 then s else s.unlock d (Reg.TIME_DOM_STATUS_UNLOCK_TREF d)

/-- The number of a reference input in `DieSt.lostAt`. -/
def refNumber : RefInput → Nat
  | .lgref g => g
  | .cref => 32
  | .trefa => 33
  | .trefb => 34

/-- The monitor window of an input in parts in 10^9 (R48): 5 % for CREF and, while CREF is lost, for every input, else 2,000 ppm.
CREF counts as lost from its loss until it is good again. (DEDUCED, log 80.) -/
def State.refWindow (s : State) (i : RefInput) : Nat :=
  if i = .cref || (s.bit Reg.SYS_CLK_STATUS_ON_OSC && !s.bit Reg.SYS_CLK_STATUS_CORE_OK) then 50000000 else 2000000

/-- The monitor finds an input lost (R48). -/
def State.findsLost (s : State) (i : RefInput) : RefFault → Bool
  | .noEdge ns => decide (1000 ≤ ns)
  | .offRange ppb => decide (s.refWindow i < ppb)

/-- The permitted offset of an input in 2^−41 (Table 2-6): 500 ppm for TREFA and TREFB, else 100 ppm. -/
def refRange : RefInput → Int
  | .trefa | .trefb => 1099511627
  | _ => 219902325

/-- The monitor finds an input good again (R48): it has been within its range for 1 ms. -/
def State.findsGood (s : State) (i : RefInput) (rate : Int) (us : Nat) : Bool :=
  decide (1000 ≤ us) && decide (-refRange i ≤ rate) && decide (rate ≤ refRange i) &&
  (match mapFind s.die.lostAt (refNumber i) with | some c => decide (c + msCycles ≤ s.cycle) | none => true)

/-- A reference input is declared lost (R48 to R51). -/
def State.refLost (s : State) (i : RefInput) : State :=
  let s := { s with die := { s.die with lostAt := mapPut s.die.lostAt (refNumber i) s.cycle } }
  match i with
  | .lgref g =>
    let s := (s.putBit Reg.SYS_CLK_LANE_OK_GROUP_OK g false).putBit Reg.SYS_CLK_LANE_LOST_GROUP_LOST g true
    (s.dropPorts (fun p => p / 32 == g) true).rejudge g
  | .cref =>
    let s := ((s.off Reg.SYS_CLK_STATUS_CORE_OK).on Reg.SYS_CLK_STATUS_CORE_LOST).on Reg.SYS_CLK_STATUS_ON_OSC
    s.dropPorts (fun _ => true) true
  | .trefa => s.trefLost 0
  | .trefb => s.trefLost 1

/-- A reference input is declared good again (R48); a TREF with its offset from nominal as measured, in 2^−41 (R117). -/
def State.refGood (s : State) (i : RefInput) (rate : Int) : State :=
  match i with
  | .lgref g => (s.putBit Reg.SYS_CLK_LANE_OK_GROUP_OK g true).rejudge g
  | .cref => s.on Reg.SYS_CLK_STATUS_CORE_OK
  | .trefa => (State.on { s with time := { s.time with trefRateA := rate } } Reg.SYS_CLK_STATUS_DOMA_OK)
  | .trefb => (State.on { s with time := { s.time with trefRateB := rate } } Reg.SYS_CLK_STATUS_DOMB_OK)

/-- The object number that a reference input names. -/
def refGroup : RefInput → Nat
  | .lgref g => g
  | _ => 0

/-- RESET_N_ASSERT. -/
def execResetNAssert (s : State) : Out := finish s.resetAssert
/-- RESET_N_RELEASE. -/
def execResetNRelease (straps : Straps) (s : State) : Out := finish (s.resetRelease straps)
/-- STRAP_COMPARE. -/
def execStrapCompare (pins : Straps) (s : State) : Out := whenUp s fun s => s.strapCompare pins
/-- POWER_LOSS. -/
def execPowerLoss (s : State) : Out := finish s.powerLoss
/-- SUPPLY_RANGE_CHECK. -/
def execSupplyRangeCheck (outside : Nat) (s : State) : Out := whenUp s fun s => s.supplyCheck outside
/-- BROWN_OUT_RESET. -/
def execBrownOutReset (s : State) : Out := finish s.brownOut
/-- TEMP_READING. (DESIGN CHOICE, log 75.) -/
def execTempReading (sensors : List Int) (s : State) : Out := whenUp s fun s => s.tempReading sensors
/-- CORE_SPEED_MEASUREMENT. -/
def execCoreSpeedMeasurement (mt : Nat) (s : State) : Out := whenUp s fun s => s.coreSpeed mt
/-- REF_INPUT_LOST. -/
def execRefInputLost (l : RefLoss) (s : State) : Out :=
  onObject 32 (refGroup l.input) (whenUp s fun s => if s.findsLost l.input l.fault then s.refLost l.input else s)
/-- REF_INPUT_GOOD. -/
def execRefInputGood (i : RefInput) (r : RefReport) (s : State) : Out :=
  onObject 32 (refGroup i) (whenUp s fun s => if s.findsGood i r.rate r.withinUs then s.refGood i r.rate else s)

end Sys2Proof.Machine
end

