-- ==== Sys2Proof/Machine/Startup.lean ====
section
/-! DEFINITION. Start-up, block tests and the table scrub (R493 to R496, R555 to R559, R567, R568). -/

namespace Sys2Proof.Machine

/-- Change the platform record. -/
def State.modPlat (s : State) (f : PlatSt → PlatSt) : State := { s with plat := f s.plat }

/-! ### Boot (Table 19-4) -/

/-- Boot ends FAILED (R495, R559). (DESIGN CHOICE, log 61.) -/
def State.bootFailed (s : State) (reason : Nat) : State :=
  State.syncEngines ((((s.set Reg.SEC_BOOT_STATE 2).set Reg.SEC_BOOT_REASON reason).on Reg.SYS_START_STATUS_FAILED).endRoutine
    (· == .boot))

/-- Stage `n` of boot is complete. (DESIGN CHOICE, log 61.) -/
def State.bootStep (s : State) (n : Nat) : State := (s.set Reg.SEC_BOOT_STAGE n).countCheckpoint 0 n

/-- Boot ends DONE: the challenge is drawn (R505), and Reckoner 0 serves the other routines. -/
def State.bootDone (s : State) : State :=
  let s := ((s.bootStep 5).drawChallenge.set Reg.SEC_BOOT_STATE 1).on Reg.SYS_START_STATUS_BOOT_DONE
  (State.syncEngines (s.endRoutine (· == .boot))).modPlat fun p => { p with bootDoneAt := s.cycle }

/-- Reckoner 0 completes the next boot stage: the ROM parity, fuse integrity and identity checks come out as told (R493,
R495, R496, R596). (DESIGN CHOICE, log 61.) -/
def State.bootStage (s : State) (romOk fuseOk identityOk : Bool) : State :=
  if s.get Reg.SEC_BOOT_STATE != 0 || !s.runsRoutine .boot then s
  else match s.get Reg.SEC_BOOT_STAGE with
    | 0 =>
      if !romOk then s.bootFailed 1
      else if !fuseOk || !s.checkWordOk then s.bootFailed 2
      else s.syncFuses.bootStep 1
    | 1 => (s.setB Reg.SEC_LIFECYCLE_ID_OK (identityOk && s.sec.keyKept && s.keyState)).bootStep 2
    | 2 => s.scanHeads.bootStep 3
    | 3 => s.bootStep 4
    | 4 => s.bootDone
    | _ => s

/-! ### READY (R555 to R559) -/

/-- Every function is UP. -/
def State.allUp (s : State) : Bool := s.get Reg.SYS_FUNC_STATUS_STATE == 0

/-- Milliseconds since the release of RESET_N. -/
def State.elapsedMs (s : State) : Nat := min 4095 ((s.cycle - s.die.releasedAt) / msCycles)

/-- SYS_START_STATUS as it reads now (Table 22-4). -/
def State.syncStart (s : State) : State :=
  let s := s.set Reg.SYS_START_STATUS_ELAPSED_MS (s.plat.readyMs.getD s.elapsedMs)
  (s.setB Reg.SYS_START_STATUS_FUNCS_UP s.allUp).setB Reg.SYS_START_STATUS_DRAM_TRAINED (s.get Reg.DRAM_TRAIN_STATUS == 2)

/-- READY is set when link, boot and DRAM training have ended and every function is UP (R555, R559). (DESIGN CHOICE, log 61.) -/
def State.startReady (s : State) : State :=
  if s.linkActive && s.get Reg.SEC_BOOT_STATE == 1 && s.get Reg.DRAM_TRAIN_STATUS == 2 && s.allUp &&
      !s.bit Reg.SYS_START_STATUS_READY then
    let ms := s.elapsedMs
    ((s.on Reg.SYS_START_STATUS_READY).set Reg.SYS_START_STATUS_ELAPSED_MS ms).modPlat fun p => { p with readyMs := some ms }
  else s

/-- READY is still 0 at 600 ms (R559). -/
def State.startLate (s : State) : State :=
  if s.cycle < s.die.releasedAt + 600 * msCycles || s.plat.lateSeen then s
  else
    let s := s.modPlat fun p => { p with lateSeen := true }
    if s.bit Reg.SYS_START_STATUS_READY then s else s.on Reg.SYS_START_STATUS_LATE

/-- The DRAM training of start-up is requested when the patch has settled, or 100 ms after boot without a LOAD (R556). -/
def State.trainRequest (s : State) : State :=
  let waited := s.cycle ≥ s.plat.bootDoneAt + 100 * msCycles && s.get Reg.RCK_PATCH_STATUS_STATE == 0
  if s.plat.trainAsked || s.get Reg.SEC_BOOT_STATE != 1 || !(s.bit Reg.SYS_START_STATUS_PATCH_SETTLED || waited) then s
  else ((s.modPlat fun p => { p with trainAsked := true }).on Reg.SYS_START_STATUS_PATCH_SETTLED).startTraining

/-! ### Block tests (R568) -/

/-- Refusals of a write of SYS_BIST_CTRL. -/
def bistCheck (s : State) (v : Nat) : Status :=
  if bitOf v 31 && !s.buf.withdrawn.contains (bits v 0 7) then .range
  else if bitOf v 31 && s.get Reg.SYS_BIST_STATUS_STATE == 1 then .busy else .ok

/-- A write of START begins a test of a block. -/
def bistEffect (s : State) (v : Nat) : State :=
  if bitOf v 31 then
    ((s.set Reg.SYS_BIST_STATUS_STATE 1).set Reg.SYS_BIST_STATUS_BLOCK (bits v 0 7)).set Reg.SYS_BIST_STATUS_BEAD 0
  else s

/-- A block test ends; `failing` is the lowest failing bead, counted within the block. -/
def State.bistDone (s : State) (failing : Option Nat) : State :=
  if s.get Reg.SYS_BIST_STATUS_STATE != 1 then s
  else match failing with
    | none => s.set Reg.SYS_BIST_STATUS_STATE 2
    | some b =>
      ((s.set Reg.SYS_BIST_STATUS_STATE 3).set Reg.SYS_BIST_STATUS_BEAD (s.get Reg.SYS_BIST_STATUS_BLOCK * 4096 + b)).on
        Reg.SYS_BIST_STATUS_FAIL_EVT

/-! ### Table scrub (R567) -/

/-- Mark the entry of a target as failing its check; the next access meets it (R275). (DESIGN CHOICE, log 53.) -/
def State.markBad (s : State) : ScrubTarget → State
  | .fdb p true => match mapFind s.fdb.entries p with
    | some e => s.setFdb (mapPut s.fdb.entries p { e with bad := true })
    | none => s
  | .lpm r true => match s.lpm.rows.find? (·.1 == r) with
    | some (_, e) => s.setLpm (s.lpm.setUnits e.v6 e.len
        (changeGroup (sameKey e) (fun x => some { x with bad := true }) (s.lpm.units e.v6 e.len)))
    | none => s
  | .rule tag num true => s.ruleBad tag num
  | .flow i r => if s.cached i then s.modFlow fun x => { x with bad := mapSet x.bad i r .ok } else s
  | _ => s

/-- The scrub reads an entry (R219, R275, R291, R292), or ends a pass. (DESIGN CHOICE, log 53.) -/
def State.tableScrub (s : State) : ScrubTarget → State
  | .rule tag num true => s.ruleParity tag num
  | .fdb p true => if (mapFind s.fdb.entries p).isSome then s.fdbParity p else s
  | .lpm r true => match s.lpm.rows.find? (·.1 == r) with
    | some (_, e) => s.lpmParity e
    | none => s
  | .flow i r => if s.cached i then s.contextFound i r else s
  | .passEnd => s.set Reg.SYS_SCRUB_PASSES_COUNT (s.get Reg.SYS_SCRUB_PASSES_COUNT + 1)
  | _ => s

/-- TABLE_SCRUB_READ: with the scrub off nothing is read, and a failing entry waits for the next access. -/
def State.scrub (s : State) (t : ScrubTarget) : State :=
  if s.bit Reg.SYS_SCRUB_CTRL_EN then s.tableScrub t else s.markBad t

end Sys2Proof.Machine
end

