-- ==== Sys2Proof/Machine/Observe.lean ====
section
/-! DEFINITION. The observation pins and the test access port (R585 to R593). -/

namespace Sys2Proof.Machine

/-- Refusals of the OBS page beyond reserved bits: no write without an OBS grant (R588). -/
def obsCheck (s : State) (_ _ : Nat) : Status := if bitOf (s.get Reg.SEC_DEBUG_STATUS_GRANTED) 0 then .ok else .denied

/-- The selection and mode of a half of the pins. -/
def State.obsHalf (s : State) (half : Nat) : List Nat :=
  (if half = 0 then [s.get Reg.OBS_CTRL_BANK_A, s.get Reg.OBS_CTRL_DIV_A] else [s.get Reg.OBS_CTRL_BANK_B, s.get Reg.OBS_CTRL_DIV_B]) ++
  (List.range 8).map fun k => (s.obsPick (8 * half + k)).2

/-- What an accepted write to the OBS page does beyond its fields: a half whose BANK, DIV or points change counts afresh
(R586), and the pins' levels are open for 10 ns (R589). -/
def obsEffect (old s : State) : State :=
  let kept (k : Nat) : Bool := old.obsHalf (k / 8) == s.obsHalf (k / 8)
  s.modPlat fun p => { p with edges := p.edges.filter fun e => kept e.1, obsAt := some s.cycle }

/-- Every link is judged anew when the test access port takes or releases the links (R591). -/
def State.rejudgeAll (s : State) : State :=
  let s := (List.range 32).foldl State.rejudge s
  s.mirrorLink (s.port 1024).cond

/-- An instruction enters force (Table 24-4). A private opcode with a SCAN grant stops normal operation (R593). (DESIGN CHOICE, log 38; DEDUCED, log 69.) -/
def State.jtag (s : State) (opcode : Nat) : State :=
  let was := s.linksHeld
  let private_ := 0x80 ≤ opcode && opcode ≤ 0xFE && bitOf (s.get Reg.SEC_DEBUG_STATUS_GRANTED) 1
  let s := s.modPlat fun p => { p with tap := opcode, isPrivate := p.isPrivate || private_ }
  if s.linksHeld = was then s else s.rejudgeAll

/-- JTAG_INSTRUCTION: while the die is in reset the instruction acts only on its register (R591). (DEDUCED, log 69.) -/
def State.jtagLoad (s : State) (opcode : Nat) : State :=
  match s.die.mode with
  | .running => s.jtag opcode
  | .off => s
  | _ => s.modPlat fun p => { p with tap := opcode }

/-- What the end of a cycle settles once all its events are known: presentation transitions (R122), stamps that found no place
(R153), and a withdrawn block that has become free (R316). (DESIGN CHOICE, log 82.) -/
def State.endCycle (s : State) : State :=
  let s := s.presTransition
  let full := (s.ports.filter fun e => decide (16 < e.2.stamps.length)).map (·.1)
  (full.foldl State.trimStamps s).withdrawCheck

/-- One 1.5 GHz cycle in which no command comes: it ends, the clocks run, and the observation pins count edges (R586). (DESIGN CHOICE, log 1; DESIGN CHOICE, log 76.) -/
def State.tick (s : State) : State := if s.running then s.endCycle.obsTick.tickClocks else s

end Sys2Proof.Machine
end

