-- ==== Sys2Proof/Machine/Recovery.lean ====
section
/-! DEFINITION. The recovery ladder (R463 to R470): re-initialisation of the functions, the warm reset; and what routines do
at their start and at checkpoints (R229, R266, R273, R274, R347, R482, R485). -/

namespace Sys2Proof.Machine

/-! ### What a re-initialisation clears (Table 17-8) -/

/-- The functions in the order of R472. -/
def funcOf (n : Nat) : Option Func :=
  [Func.mac, .time, .tally, .parse, .fdb, .lpm, .flow, .buf, .tm, .dram, .ring, .pair][n]?

/-- The register is one of these pages (Table 23-1). -/
def onPages (l : List Nat) (addr : Nat) : Bool := l.contains (addr / 0x100000)

/-- The name of the family of a register address. -/
def regName (addr : Nat) : String := match regAt addr with | some (f, _, _) => f.name | none => ""

/-- The commands of a function in progress complete with ABORTED (R465). -/
def State.abortCommands (s : State) (f : Func) : State :=
  (List.range 64).foldl (fun s n =>
    match (s.ring n).running with
    | some (op, c) => match opInfo op with
      | some o => if o.fn == some f then
          State.complete (match o.routine with | some k => s.endOwn k c | none => s) op c (CmdRes.of .aborted)
        else s
      | none => s
    | none => s) s

/-- A copy in transmission is cut off when its transmitter enters electrical idle (Table 17-8): its record is flagged
STOMPED, and it is counted nowhere. -/
def State.cutTransmit (s : State) (p : Nat) : State :=
  match (s.port p).tx with
  | some t => match s.copy t.pick.copy with
    | some x =>
      let beads := match s.frame x.frame with | some f => f.beads | none => []
      let s := match x.kind with
        | .dest => (s.copyRecord x.frame p t.stamp t.late false true).injectCopy x.frame (some 8)
        | .span _ _ => s.injectCopy x.frame (some 8)
        | _ => s
      let s := ((s.decrementAll beads p).modPort p fun d => { d with tx := none }).modPath fun q =>
        { q with copies := mapDel q.copies t.pick.copy }
      (s.dropRefs x.frame 1).syncCopies
    | none => s.modPort p fun d => { d with tx := none }
  | none => s

/-- MAC: counters, half-range bits and events; every port in UP leaves it (Table 17-8). (DESIGN CHOICE, log 63.) -/
def State.resetMac (s : State) : State :=
  let s := (s.ports.map (·.1)).foldl (fun s p => s.cutTransmit p) s
  let s := s.dropPorts (fun _ => true) false
  let s := s.resetRegs fun a => onPages [3] a || (regName a == "MAC_PORT_EVT")
  { s with
    counters := []
    regs := s.regs.filter fun e => !(regName (e.1 / 32) == "MAC_PORT_STATUS" && e.1 % 32 != 0)
    ports := s.ports.map fun e => if e.1 < 1024 then (e.1, { e.2 with
      cond := linkCond0, pause := none, pfc := [], heldFrom := none, heldRem := 0 }) else e }

/-- A stamp that an injected frame waits for will not come (R154). -/
def State.loseStamps (s : State) : State :=
  (s.host.inject.map (·.1)).foldl (fun s f => match mapFind s.host.inject f with
    | some r => if r.stampWait then s.putInject f { r with stampWait := false, stampLost := true } else s
    | none => s) s

/-- The registers of TIME that its re-initialisation keeps, besides CAL_VALID, bit 0 of STAMP_PORT_STATUS (Table 17-8). -/
def timeKept : List String := ["STAMP_PORT_TRIM", "STAMP_PORT_CTRL", "STAMP_LL_LATENCY", "STAMP_RET_CTRL"]

/-- TIME: the domains and presentation time to NONE, outputs and captures off; level latency and gating are suspended
(R169, R376). (DESIGN CHOICE, log 63.) -/
def State.resetTime (s : State) : State :=
  let held := (List.range 1024).any fun p => s.bit (Reg.STAMP_PORT_CTRL_LL_EN p)
  let kept (e : Nat × Nat) : Bool := !onPages [4, 5] (e.1 / 32) || timeKept.contains (regName (e.1 / 32)) ||
    (regName (e.1 / 32) == "STAMP_PORT_STATUS" && e.1 % 32 == 0)
  let ports := s.ports.map fun (e : Nat × PortDyn) => (e.1, { e.2 with stamps := [], stampLost := 0 })
  let s := { s with
    regs := s.regs.filter kept
    time := { time0 with trefRateA := s.time.trefRateA, trefRateB := s.time.trefRateB }
    stamp := ⟨none, false, [], 0⟩
    ports := ports }
  let s := if held then s.on Reg.STAMP_LL_STATUS_SUSPENDED else s
  s.loseStamps.suspendGates.syncTime.syncCompare

/-- TALLY: everything but the MRAM (Table 17-8); heads under way are written (Table 17-9). (DESIGN CHOICE, log 63.) -/
def State.resetTally (s : State) : State :=
  let s := s.completeSeals
  let s := s.resetRegs fun a => onPages [6] a && regName a != "TALLY_MRAM_RETIRED"
  let frames := s.path.frames.map fun (e : Nat × Frame) => (e.1, { e.2 with reserved := 0 })
  { s with
    tally := { tally0 s.tally.heads s.tally.nextSlot s.tally.retired with retiredUnread := s.tally.retiredUnread }
    path := { s.path with frames := frames }
    pair := { s.pair with yielded := false, follow := false } }

/-- PARSE: the rule store, profiles and comparators (R208, R211, R223); frames in classification are dropped. (DESIGN CHOICE, log 63.) -/
def State.resetParse (s : State) : State :=
  let inside := s.path.frames.filter fun e => e.2.stage == .crossed || e.2.stage == .carrying
  let s := inside.foldl (fun s e => s.dropOther e.1) s
  let s := s.resetRegs (onPages [7, 8])
  { s with rules := ⟨[], [], [], [], [], []⟩, path := { s.path with carry := [], carryNext := 0 } }

/-- FDB: every entry, the learn queues and the move windows (R251). -/
def State.resetFdb (s : State) : State :=
  State.setFdb { s.resetRegs (onPages [9]) with fdb := { s.fdb with learn := [], released := [] } } []

/-- LPM: every prefix. -/
def State.resetLpm (s : State) : State := (s.resetRegs (onPages [10])).setLpm ⟨[], [], 0⟩

/-- FLOW: every context and the cache (R293). Frames that wait for a context go on without one; what a lookup has attached travels on
with its frame (R236). -/
def State.resetFlow (s : State) : State :=
  let s := ((s.resetRegs (onPages [11])).clearContexts).modFlow fun f => { f with closedAt := [] }
  let waiting := (s.path.frames.filter fun e => e.2.stage == .fetching).map (·.1)
  waiting.foldl State.pastLookup s

/-- Every copy not yet in transmission is discarded, with a DROPPED record and a count in TX_DROP_OTHER (Table 17-8). -/
def State.dropCopies (s : State) : State :=
  let sending := s.ports.filterMap fun e => e.2.tx.map (·.pick.copy)
  (s.path.copies.map (·.1)).foldl (fun s c => if sending.contains c then s else s.discard c 61 0 1032) s

/-- The copies that walking frames have still to offer are dropped in the same way. -/
def State.dropWalks (s : State) : State :=
  let walking := s.path.replicators.flatMap (·.2)
  let s := s.modPath fun p => { p with replicators := [] }
  walking.foldl (fun s f => match s.frame f with
    | some x => s.dropPlan f { x with plan := x.plan.drop x.walked }
    | none => s) s

/-- Frames not yet admitted are dropped for want of beads. -/
def State.dropArrivals (s : State) : State :=
  let open_ := s.path.frames.filter fun e => match e.2.stage with
    | .received | .crossed | .carrying | .classified | .fetching | .forwarded => true | _ => false
  open_.foldl (fun s e => (if e.2.inject.isSome then s else s.count (e.2.port % 1024) 31 1).dropFrame e.1) s

/-- The flushes and reclaims end (Table 17-9). (DESIGN CHOICE, log 63.) -/
def State.endFlushes (s : State) : State :=
  s.endRoutine fun k => match k with | .portFlush _ | .stuckReclaim _ => true | _ => false

/-- BUF: every rod is emptied, every bead is free, pools and blocks as after reset (R297, R317, R325, R568). (DESIGN CHOICE, log 63.) -/
def State.resetBuf (s : State) : State :=
  let s := s.dropCopies.dropWalks.dropArrivals.endFlushes
  let s := s.endRoutine (· == RoutineKind.withdraw)
  let asked := s.buf.asks.map (·.2)
  let frames := s.path.frames.map fun (e : Nat × Frame) => (e.1, { e.2 with beads := [] })
  let s := { s.resetRegs (onPages [12]) with
    buf := ⟨[], [], [], [], [], [], [], none⟩
    path := { s.path with segments := [], frames := frames } }
  let s := asked.foldl (fun s p => s.syncRequests p) s
  s.endBist.syncCopies

/-- TM: rods, groups, policers, shapers, gate lists and mirror sessions (R334, R357, R360, R368, R376). (DESIGN CHOICE, log 63.) -/
def State.resetTm (s : State) : State :=
  let s := s.dropCopies.dropWalks.endFlushes.clearGroups
  let s := s.resetRegs (onPages [13, 14, 15, 16])
  let s := { s with tm := ⟨[], [], [], [], []⟩, mcast := ⟨[], []⟩, path := { s.path with mirrorSeq := [], drains := [] } }
  s.syncCopies

/-- The contents of every region of DRAM are lost (R293, R325, R398): contexts, spilled copies, ring entries and staged
counter entries. (DESIGN CHOICE, log 62.) -/
def State.loseDram (s : State) : State :=
  let s := s.loseSpilled.clearContexts.modHost fun h => { h with sweep := h.sweep.map fun e => { e with lost := true } }
  s.modTally fun y => { y with ring := y.ring.map fun e => { e with lost := true } }

/-- DRAM: everything, with the FLOW commands in progress (R293); training runs again (R397, R398). (DESIGN CHOICE, log 62.) -/
def State.resetDram (s : State) : State :=
  let s := (s.abortCommands .flow).loseDram.resetRegs (onPages [17])
  State.startTraining { s with dram := { dram0 with windowAt := s.dram.windowAt } }

/-- RING: reads fail and their tags are held back, rings and histories are cleared, and the commands in progress go on
without output or completion (R431, R440, R468). The pending bits stay: the collectors rebuild the reports from them. (DEDUCED, log 44; DESIGN CHOICE, log 63.) -/
def State.resetRing (s : State) : State :=
  let running := s.host.rings.filterMap fun e => match e.2.running with
    | some (op, c) => if op < 256 && (e.2.parts.map (·.2.length)).sum ≥ e.2.need then some (e.1, c.descIndex) else none
    | none => none
  let s := s.resetRegs fun a => onPages [19, 20] a && regName a != "EVT_PENDING"
  s.modHost (fun h => { h with
    rings := [], reads := [], wanted := [], held := [], inject := [], sweep := [], sweepNum := 0, sweepAt := s.cycle, rotate := 0
    failed := h.reads.foldl (fun m e => mapPut m e.1 s.cycle) h.failed
    waiting := h.waiting.filter fun m => match m with | .reply _ _ _ _ _ | .credit _ => true | _ => false
    orphans := h.orphans ++ running, serviceOff := false, lostIdle := false }) |> fun s =>
  { s with events := ⟨[], s.cycle⟩ }

/-- PAIR: the mirror link retrains; digests, residuals and the mirror queue are cleared; the role stays, but a STANDBY or
SYNCING device becomes STALE (R533). The span is off afterwards (R552). PAIR_STATUS reads as it last stood (R576). (DESIGN CHOICE, log 63.) -/
def State.resetPair (s : State) : State :=
  let s := (s.modPort 1024 fun x => { x with cond := linkCond0 }).endResync (CmdRes.of .aborted)
  let s := s.endRoutine (· == RoutineKind.pairResync)
  let s := s.modPair fun p => { p with
    queue := [], nextSeq := 1, ack := 0, streamLost := false, digests := [], errors := [], peerErrors := [], residual := [], waits := []
    walk := none, armed := none, hbAt := s.cycle, hbLost := false, mismatchFrom := none }
  let s := if s.pairState = paStandby || s.pairState = paSyncing then s.setRole paStale else s
  let spanned := s.wiredGroups.flatMap spanPorts
  let s := spanned.foldl (fun s p => State.applyEnable (s.off (Reg.MAC_PORT_CTRL_ENABLE p)) p) s
  let s := s.resetRegs fun a => onPages [23, 24] a && regName a != "PAIR_STATUS"
  { s with span := { s.span with members := [], updates := [] } }

/-! ### SYS_FUNC_RESET (R465 to R468) -/

/-- The re-initialisation of a function starts. -/
def State.startReset (s : State) (n : Nat) : State :=
  match funcOf n with
  | none => s
  | some f =>
    let s := if f == .ring then s else s.abortCommands f
    let s := match f with
      | .mac => s.resetMac | .time => s.resetTime | .tally => s.resetTally | .parse => s.resetParse | .fdb => s.resetFdb
      | .lpm => s.resetLpm | .flow => s.resetFlow | .buf => s.resetBuf | .tm => s.resetTm | .dram => s.resetDram
      | .ring => s.resetRing | .pair => s.resetPair
    let s := match f with
      | .parse => s.endRoutine (· == RoutineKind.ruleCommit)
      | .lpm => s.endRoutine fun k => match k with | .lpmInsert | .lpmMove _ | .lpmFlush => true | _ => false
      | .fdb => s.endRoutine (· == RoutineKind.fdbFlush)
      | .tally => s.endRoutine (· == RoutineKind.tallySeal)
      | _ => s
    State.syncEngines ((s.setFunc n 1).modPlat fun p => { p with reinit := if p.reinit.contains n then p.reinit else p.reinit ++ [n] })

/-- Refusals of SYS_FUNC_RESET (R467). -/
def funcResetCheck (s : State) (v : Nat) : Status :=
  if bitOf v 9 && !bitOf v 2 && (s.bit Reg.TALLY_CTRL_ENABLE || s.get Reg.TALLY_RING_LEVEL_LEVEL != 0) then .busy else .ok

/-- A write of SYS_FUNC_RESET. -/
def State.funcReset (s : State) (v : Nat) : State := (setBits v 12).foldl State.startReset s

/-- The collectors take every change, and every pending source that is not masked makes a report anew (R468). (DEDUCED, log 44.) -/
def State.rebuildReports (s : State) : State :=
  let s := (List.range 13).foldl (fun s b => s.scanBlock b s.presStamp) { s with events := { s.events with reports := [] } }
  (List.range 4096).foldl (fun s n => if s.collected n && !s.masked n then s.report n s.presStamp else s) s

/-- What the end of a re-initialisation brings: ports whose flush was ended go on to their hold-down (R466), enabled ports
train again, the collectors rebuild every report bit (R468), the mirror link is judged anew. -/
def State.resetOver (s : State) (f : Func) : State :=
  match f with
  | .mac => { s with ports := s.ports.map fun e => (e.1, { e.2 with trainSince := s.cycle }) }
  | .buf | .tm =>
    if !(s.funcUp .buf && s.funcUp .tm) then s
    else
      let waiting := s.ports.filter fun e => e.2.flush == .waiting
      waiting.foldl (fun s e => (s.modPort e.1 fun x => { x with flush := .complete s.cycle }).endRoutine (· == .portFlush e.1)) s
  | .ring => s.rebuildReports
  | .pair => s.mirrorLink (s.port 1024).cond
  | _ => s

/-- A re-initialisation ends, UP or FAILED; that of DRAM ends with its training (R465). -/
def State.funcResetDone (s : State) (n : Nat) (ok : Bool) : State :=
  match funcOf n with
  | none => s
  | some f =>
    let train := s.get Reg.DRAM_TRAIN_STATUS
    if !s.plat.reinit.contains n || (f == .dram && train == 1) then s
    else
      let good := if f == .dram then train == 2 else ok
      let s := s.modPlat fun p => { p with reinit := p.reinit.filter (· != n) }
      if good then ((s.setFunc n 0).putBit Reg.SYS_FUNC_EVT_DONE n true).resetOver f
      else (s.setFunc n 2).putBit Reg.SYS_FUNC_EVT_FAILED n true

/-- New link conditions of a port, or of the mirror link as number 1024. (DESIGN CHOICE, log 72; DESIGN CHOICE, log 77.) -/
def State.newLink (s : State) (p : Nat) (c : LinkCond) : State :=
  if p = 1024 then s.mirrorLink c else if s.isPort p && s.funcUp .mac then s.linkChange p c else s

/-- The filtered level of HOLD_IN; while the die does not run, its pin alone is followed. -/
def State.holdPin (s : State) (level : Bool) : State :=
  if s.running then s.holdInChange level else { s with die := { s.die with holdIn := level } }

/-! ### Warm reset (R417, R470) -/

/-- The command in progress on each command ring completes with ABORTED. -/
def State.abortRunning (s : State) : State :=
  (List.range 16).foldl (fun s i => match (s.ring (16 + i)).running with
    | some (op, c) => if op < 256 then s.complete op c (CmdRes.of .aborted) else s
    | none => s) s

/-- The device resets and keeps its straps. (DESIGN CHOICE, log 8.) -/
def State.warmReset (s : State) : State := s.deviceReset .running 2

/-! ### Routines (R482, R485) -/

/-- The routine of a commit has an engine: it takes the lowest FREE tag, or the commit ends at once (R228 to R230). -/
def State.commitBegins (s : State) (e : Nat) (c : CmdIn) : State :=
  match s.commitStart with
  | .inl r => State.complete (s.endOwn .ruleCommit c) 0x12 c r
  | .inr t => (s.set (Reg.RULE_VER_STATE_STATE t) 3).modReck fun k => { k with
      engines := k.engines.map fun x => if x.1 = e then (e, { x.2 with tag := some t }) else x }

/-- The commit that has an engine and no tag yet. -/
def State.freshCommit (s : State) : Option (Nat × CmdIn) :=
  s.reck.engines.findSome? fun e => match e.2.kind, e.2.cmd, e.2.tag with
    | .ruleCommit, some c, none => some (e.1, c)
    | _, _, _ => none

/-- A routine starts (R485). -/
def State.routineStart (s : State) : State :=
  let s := s.startRoutine
  match s.freshCommit with | some (e, c) => s.commitBegins e c | none => s

/-- What the routine of an engine has removed or moved, and whether it met a failing entry, is kept with it. -/
def State.noteItems (s : State) (e n : Nat) (met : Bool) : State :=
  s.modReck fun k => { k with engines := k.engines.map fun x =>
    if x.1 = e then (e, { x.2 with removed := x.2.removed + n, met := x.2.met || met }) else x }

/-- A flush routine goes over its next 4,096 places or rows. (DESIGN CHOICE, log 53.) -/
def State.flushStep (s : State) (e : Nat) (r : Routine) : State :=
  match r.cmd with
  | some c =>
    let p := r.progress
    let (n, s) := if r.kind == .fdbFlush then s.fdbFlushRange c r.began (p * 4096) (p * 4096 + 4096)
      else s.lpmFlushRange c r.began (p * 4096) (p * 4096 + 4096)
    (s.countCheckpoint e (p + 1)).noteItems e n.1 n.2
  | none => s

/-- A routine on the LPM store makes its next move (R266, R267): an insert none while its last step alone is left. -/
def State.lpmStep (s : State) (e : Nat) (r : Routine) (m : Option (Bool × State)) : State :=
  match m with
  | some (met, t) => (t.countCheckpoint e (r.progress + 1)).noteItems e (b2n (!met)) met
  | none => s

/-- The commit of an engine marks 256 entries; once no more than 256 are left it marks them, switches and completes (R230). (DESIGN CHOICE, log 52.) -/
def State.commitStep (s : State) (e : Nat) (r : Routine) (c : CmdIn) (t : Nat) : State :=
  if 256 * (r.progress + 1) < s.stagedSet.length then (s.markEntries t r.progress).countCheckpoint e (r.progress + 1)
  else match opInfo 0x12 with
    | some o => s.carryOut 0x12 o coreRuleCommit c
    | none => s

/-- The routine of an engine comes to its next checkpoint. -/
def State.routineStep (s : State) (e : Nat) (r : Routine) : State :=
  match r.kind with
  | .boot | .dramTraining => s
  | .portFlush p =>
    if s.funcUp .buf && s.funcUp .tm then (s.flushSome p 256).countCheckpoint e (r.progress + 1) else s
  | .stuckReclaim q =>
    if s.funcUp .buf && s.funcUp .tm then (s.reclaimSome q 256).countCheckpoint e (r.progress + 1) else s
  | .ruleCommit => match r.cmd, r.tag with | some c, some t => s.commitStep e r c t | _, _ => s
  | .lpmInsert => match r.cmd with | some c => if s.funcUp .lpm then s.lpmStep e r (s.insertStep c) else s | none => s
  | .lpmMove n =>
    if s.funcUp .lpm && s.wantsUnit n then s.lpmStep e r (s.moveStep (groupOf n).1 (groupOf n).2 true) else s
  | .fdbFlush => if r.progress < 128 then s.flushStep e r else s
  | .lpmFlush => if r.progress < 32 then s.flushStep e r else s
  | .pairResync => State.countCheckpoint (if s.pair.walk.isSome then bulkSend 256 s else s) e (r.progress + 1)
  | .tallySeal => s
  | .withdraw => s.countCheckpoint e (r.progress + 1)

/-- ROUTINE_CHECKPOINT (R482, R486). -/
def State.checkpoint (s : State) (e : Nat) : State :=
  match mapFind s.reck.engines e with
  | some r => (s.routineStep e r).giveWay e
  | none => s

/-- A pseudo-channel has been trained: the routine takes a checkpoint (R397). (DESIGN CHOICE, log 62.) -/
def State.trainStep (s : State) (pc failedLanes : Nat) (ok : Bool) : State :=
  let e := s.reck.engines.find? fun x => x.2.kind == .dramTraining
  let was := s.dram.trained.length
  let s := s.trainPc pc failedLanes ok
  match e with
  | some (k, _) => if s.dram.trained.length = was then s else s.countCheckpoint k s.dram.trained.length
  | none => s

end Sys2Proof.Machine
end

