-- ==== Sys2Proof/Machine/RegAccess.lean ====
section
/-! DEFINITION. Access to the register window (R10 to R14, R72, R412 to R416, R575 to R583): what turns an access away, the
write and the read of one register, with what each page does beyond its fields. -/

namespace Sys2Proof.Machine

/-! ### What turns an access away before it reaches its register -/

/-- The five identification registers (R583). -/
def isIdReg (addr : Nat) : Bool := [0x0, 0x4, 0x8, 0xC, 0x20].contains addr

/-- The page of an address (R575). -/
def pageOf (addr : Nat) : Nat := addr / 0x100000

/-- The function that a page belongs to (Table 23-1). -/
def pageFunc : Nat → Option Func
  | 1 => some .mac | 2 => some .mac | 3 => some .mac | 4 => some .time | 5 => some .time | 6 => some .tally
  | 7 => some .parse | 8 => some .parse | 9 => some .fdb | 10 => some .lpm | 11 => some .flow | 12 => some .buf
  | 13 => some .tm | 14 => some .tm | 15 => some .tm | 16 => some .tm | 17 => some .dram
  | 19 => some .ring | 20 => some .ring | 23 => some .pair | 24 => some .pair
  | _ => none

/-- The security state and boot turn an access away (R47, R492, R494, R495), in that order of precedence. (DESIGN CHOICE, log 10.) -/
def State.accessGate (s : State) (write : Bool) (addr : Nat) : Status :=
  let sec := !write && pageOf addr == 22
  if isIdReg addr then .ok
  else if s.testMode then (if !write && addr == 0x110 then .ok else .denied)
  else if s.get Reg.SEC_LIFECYCLE_STATE == 0 || s.get Reg.SEC_BOOT_STATE == 2 then (if sec then .ok else .denied)
  else if s.get Reg.SEC_BOOT_STATE != 1 then (if sec || (!write && pageOf addr == 18) then .ok else .busy)
  else .ok

/-- The function of a page is not UP (R415); a read of PAIR_STATUS is always served (R576). -/
def State.pageDown (s : State) (write : Bool) (addr : Nat) : Bool :=
  match pageFunc (pageOf addr) with
  | some f => !s.funcUp f && (write || addr != 0x1700008)
  | none => false

/-- The register belongs to a lane number that is not a port (R72). (DESIGN CHOICE, log 11.) -/
def State.notPort (s : State) (f : RegFam) (i : Nat) : Bool :=
  match laneOf f i with | some p => !s.isPort p | none => false

/-! ### Writes -/

/-- The bits of a register that some field defines. -/
def definedBits (l : List (Access × Fld)) : Nat := l.foldl (fun m e => m ||| (2 ^ e.2.width - 1) <<< e.2.lo) 0

/-- The register has a field that a write can change or that acts on a write. -/
def writable (l : List (Access × Fld)) : Bool := l.any fun e => e.1 == .rw || e.1 == .w1c || e.1 == .wo

/-- The fields take a written value: RW fields whole, W1C fields lose the bits written as 1 (R10, R14). -/
def State.storeFields (s : State) (l : List (Access × Fld)) (v : Nat) : State :=
  l.foldl (fun s e =>
    let x := bits v e.2.lo e.2.width
    match e.1 with
    | .rw => s.set e.2 x
    | .w1c => s.set e.2 (s.get e.2 - (s.get e.2 &&& x))
    | _ => s) s

/-- The MAC registers that the span sets and holds while SPAN_CTRL.EN = 1 (R538). (DESIGN CHOICE, log 13.) -/
def State.spanHolds (s : State) (off : Nat) : Bool :=
  s.spanOn && ((off < 0x200 && 120 ≤ off / 4) ||
    (0x1000 ≤ off && 960 ≤ (off - 0x1000) / 0x20 && [0x00, 0x04, 0x08].contains (off % 0x20)))

/-- RANGE stands before every other refusal of a register (R13); `other` is one that does not depend on the value. (DESIGN CHOICE, log 10.) -/
def rangeFirst (own other : Status) : Status := if own = .range || other = .ok then own else other

/-- Refusals of the SYS page beyond reserved bits (R467, R568). -/
def sysCheck (s : State) (off v : Nat) : Status :=
  match off with
  | 0x150 => funcResetCheck s v
  | 0x170 => bistCheck s v
  | _ => .ok

/-- What an owning chapter refuses of a write to its page. (DEDUCED, log 12.) -/
def State.pageCheck (s : State) (page off v : Nat) : Status :=
  match page with
  | 0 => sysCheck s off v
  | 2 => rangeFirst (macCheck s off v) (if s.spanHolds off then .busy else .ok)
  | 4 => timeCheck s off v
  | 5 => stampCheck s off v
  | 6 => rangeFirst (tallyCheck s off v) (if off = 0 && bitOf v 0 && !s.keyUsable then .denied else .ok)
  | 7 => parseCheck s off v
  | 9 => fdbCheck s off v
  | 10 => lpmCheck s off v
  | 12 => bufCheck s off v
  | 13 => queCheck s off v
  | 15 => mirrorCheck s off v
  | 16 => tmCheck s off v
  | 17 => dramCheck s off v
  | 18 => hlinkCheck s off v
  | 19 => ringCheck s off v
  | 20 => evtCheck s off v
  | 21 => rckCheck s off v
  | 22 => secCheck s off v
  | 23 => pairCheck s off v
  | 24 => spanCheck s off v
  | 25 => obsCheck s off v
  | _ => .ok

/-- A reference input that is still lost sets its bit again when the host clears it (R594). (DEDUCED, log 9.) -/
def State.flagClocks (old s : State) : State :=
  let lost := old.get Reg.SYS_CLK_LANE_LOST_GROUP_LOST
  let s := s.orBits Reg.SYS_CLK_LANE_LOST_GROUP_LOST (lost - (lost &&& s.get Reg.SYS_CLK_LANE_OK_GROUP_OK))
  let again (s : State) (bit ok : Fld) : State := if old.bit bit && !s.bit ok then s.on bit else s
  again (again (again s Reg.SYS_CLK_STATUS_CORE_LOST Reg.SYS_CLK_STATUS_CORE_OK) Reg.SYS_CLK_STATUS_DOMA_LOST
    Reg.SYS_CLK_STATUS_DOMA_OK) Reg.SYS_CLK_STATUS_DOMB_LOST Reg.SYS_CLK_STATUS_DOMB_OK

/-- What an accepted write to the SYS page does beyond its fields. A warm reset is noted in its bit; it begins once the
write has been answered (R417). (DEDUCED, log 9; DESIGN CHOICE, log 14.) -/
def sysEffect (old s : State) (off v : Nat) : State :=
  match off with
  | 0x120 => old.flagClocks s
  | 0x128 => old.flagClocks s
  | 0x134 => s.flagSupplies
  | 0x140 => if bitOf v 0 then s.abortRunning.on Reg.SYS_CTRL_WARM_RESET else s
  | 0x150 => s.funcReset v
  | 0x170 => bistEffect s v
  | _ => s

/-- What an accepted write to the DRAM page does beyond its fields: training runs again (R398), and no SID stays in idle mode
in service (R396). (DESIGN CHOICE, log 62.) -/
def dramEffect (s : State) (off v : Nat) : State :=
  if off = 0x14 && bitOf v 31 then s.loseDram.startTraining
  else if off = 0 && bitOf v 0 then s.modDram fun d => { d with sidIdle := [] }
  else s

/-- What an accepted write does beyond its fields. `old` is the state before it. -/
def State.pageEffect (old s : State) (page off v : Nat) : State :=
  match page with
  | 0 => sysEffect old s off v
  | 2 => macEffect old s off
  | 4 => timeEffect old s off v
  | 5 => stampEffect s off v
  | 6 => tallyEffect old s off v
  | 7 => parseEffect s off v
  | 12 => bufEffect s off v
  | 17 => dramEffect s off v
  | 19 => ringEffect old s off v
  | 20 => evtEffect old s off v
  | 21 => rckEffect s off v
  | 22 => secEffect s off v
  | 23 => pairEffect s off v
  | 24 => spanEffect old s off
  | 25 => obsEffect old s
  | _ => s

/-- A page judges the bits of a value that is written: the OBS page only with an OBS grant, since it refuses every write without one
with DENIED (R12, R588). -/
def State.judges (s : State) (page : Nat) : Bool := page != 25 || bitOf (s.get Reg.SEC_DEBUG_STATUS_GRANTED) 0

/-- A write of one register: the status, and the state it leaves (R12 to R14, R72, R577, R580). (DESIGN CHOICE, log 10; DESIGN CHOICE, log 51.) -/
def State.writeReg (s : State) (addr v : Nat) : Status × State :=
  match s.accessGate true addr with
  | .ok => match regAt addr with
    | none => (.range, s)
    | some (f, i, j) =>
      let l := f.fields i j
      let page := pageOf addr
      let off := addr % 0x100000
      if s.pageDown true addr then (.functionDown, s)
      else if s.notPort f i || (s.judges page && !within v (definedBits l)) then (.range, s)
      else if !writable l then (.ok, s)
      else match s.pageCheck page off v with
        | .ok => (.ok, s.pageEffect (s.storeFields l v) page off v)
        | st => (st, s)
  | st => (st, s)

/-- The host's write of one register as a command: its answer stands in `lastStatus`, and a warm reset begins after it. (DESIGN CHOICE, log 14; DESIGN CHOICE, log 16.) -/
def State.hostWrite (s : State) (addr v : Nat) : State :=
  let r := s.writeReg addr (v % 2 ^ 32)
  let s := if r.2.bit Reg.SYS_CTRL_WARM_RESET then r.2.warmReset else r.2
  { s with lastStatus := r.1, lastData := 0 }

/-- The RW fields of the register at an address as they stand: what a write that changes none of them carries. -/
def State.heldValue (s : State) (addr : Nat) : Nat :=
  match regAt addr with
  | some (f, i, j) => (f.fields i j).foldl (fun v e => if e.1 == .rw then v ||| s.get e.2 <<< e.2.lo else v) 0
  | none => 0

/-! ### Reads -/

/-- The fields of a register follow what they show before it is read. -/
def State.refreshAt (s : State) (page off : Nat) : State :=
  match page with
  | 0 => if off = 0x160 then s.syncStart else s
  | 4 => s.syncTime
  | 6 => s.syncTally
  | 13 => if off ≥ 0x20000 then s.set (Reg.QUE_ROD_DEPTH_BEADS ((off - 0x20000) / 4)) (s.rodDepth ((off - 0x20000) / 4)) else s
  | 20 => if off = 4 then s.syncSummary else s
  | 21 => if 0x100 ≤ off && off < 0x120 then s.syncEngines else s
  | 22 => if 0x400 ≤ off && off < 0x600 then s.syncFuseWord ((off - 0x400) / 4) else s
  | 24 => if off = 4 then s.syncSpan else s
  | _ => s

/-- The value that a register reads as: WO fields and reserved bits read 0 (R10, R11). -/
def State.readFields (s : State) (l : List (Access × Fld)) : Nat :=
  l.foldl (fun v e => if e.1 == .wo then v else v ||| s.get e.2 <<< e.2.lo) 0

/-- RC fields return to their reset values when read (R10). -/
def State.clearRead (s : State) (l : List (Access × Fld)) : State :=
  l.foldl (fun s e => if e.1 == .rc then s.set e.2 e.2.rst else s) s

/-- What a read does beyond its RC fields (R172, R199, R401). -/
def State.readEffect (s : State) (addr : Nat) : State :=
  if addr = 0x500024 then s.calRead
  else if addr = 0x600028 then s.retiredRead
  else if addr = 0x1100014 then s.trainRead
  else s

/-- A read of one register: the status, its value, and the state it leaves (R72, R413, R415). (DESIGN CHOICE, log 10.) -/
def State.readReg (s : State) (addr : Nat) : Status × Nat × State :=
  match s.accessGate false addr with
  | .ok => match regAt addr with
    | none => (.range, 0, s)
    | some (f, i, j) =>
      if s.pageDown false addr then (.functionDown, 0, s)
      else if s.notPort f i then (.ok, 0, s)
      else
        let l := f.fields i j
        let s := s.refreshAt (pageOf addr) (addr % 0x100000)
        (.ok, s.readFields l, (s.clearRead l).readEffect addr)
  | st => (st, 0, s)

/-- The host's read of one register as a command: its answer stands in `lastStatus` and `lastData`. (DESIGN CHOICE, log 16.) -/
def State.hostRead (s : State) (addr : Nat) : State :=
  let r := s.readReg addr
  { r.2.2 with lastStatus := r.1, lastData := r.2.1 }

end Sys2Proof.Machine
end

