-- ==== Sys2Proof/Machine/HostLink.lean ====
section
/-! DEFINITION. Messages from the host (R407 to R425): their checks, and what each type does. -/

namespace Sys2Proof

open Sys2Proof.Machine

/-! ### The fields of a header (Table 15-3) -/

/-- TYPE. -/
def HostIn.type (m : HostIn) : Nat := leAt m.bytes 0 1
/-- STATUS. -/
def HostIn.status (m : HostIn) : Nat := leAt m.bytes 1 1
/-- TAG. -/
def HostIn.tag (m : HostIn) : Nat := leAt m.bytes 4 2
/-- LEN. -/
def HostIn.len (m : HostIn) : Nat := leAt m.bytes 6 2
/-- The bytes behind the header. -/
def HostIn.data (m : HostIn) : List Byte := m.bytes.drop 16

/-- The bytes of register data or of a REPLY that follow the header. -/
def HostIn.dataLen (m : HostIn) : Nat := match m.type with | 2 => 4 * m.len | 6 => m.len | _ => 0

/-- The slots of a message (Table 15-4). -/
def HostIn.slots (m : HostIn) : Nat := if m.type = 0 then 0 else 1 + ceilDiv m.dataLen 16

/-- LEN and ADDR lie within Table 15-3. (DESIGN CHOICE, log 17.) -/
def HostIn.fieldsOk (m : HostIn) : Bool :=
  let addr := leAt m.bytes 8 4
  match m.type with
  | 1 => 1 ≤ m.len && m.len ≤ 16 && addr ≤ 0x03FFFFFC && addr % 4 == 0 && leAt m.bytes 12 4 == 0
  | 2 => 1 ≤ m.len && m.len ≤ 16 && addr ≤ 0x03FFFFFC && addr % 4 == 0 && leAt m.bytes 12 4 == 0
  | 3 => m.len == 0 && leAt m.bytes 9 3 == 0
  | 7 => m.len == 0 && leAt m.bytes 12 4 == 0
  | 0 => m.len == 0
  | _ => true

/-- Every reserved byte is 0 (R408, R411). (DESIGN CHOICE, log 17.) -/
def HostIn.reservedOk (m : HostIn) : Bool :=
  leAt m.bytes 2 2 == 0 &&
  (match m.type with
   | 6 => leAt m.bytes 8 8 == 0
   | 3 => m.status == 0 && m.tag == 0
   | 7 => m.status == 0 && m.tag == 0
   | 0 => allZero (m.bytes.take 16)
   | _ => m.status == 0) &&
  allZero (slice m.data m.dataLen (ceilDiv m.dataLen 16 * 16 - m.dataLen))

end Sys2Proof

namespace Sys2Proof.Machine

/-! ### Protocol errors (R411) -/

/-- The REASON of a message's protocol error (Table 15-9); 0 for a message in order. (DESIGN CHOICE, log 17.) -/
def State.msgFault (s : State) (m : HostIn) : Nat :=
  if m.type > 7 || m.type = 4 || m.type = 5 then 1
  else if !m.fieldsOk then 2
  else if m.slot + m.slots > 15 then 3
  else if m.slots > s.host.rxCredit then 4
  else if m.type = 3 && leAt m.bytes 8 1 > 63 then 5
  else if m.type = 6 && (mapFind s.host.reads m.tag).isNone && !s.tagHeld m.tag then 6
  else if !m.reservedOk then 7
  else 0

/-- A protocol error (R411): it is recorded, and the rest of its flit is discarded. -/
def State.protocolError (s : State) (m : HostIn) (reason : Nat) : State :=
  let s := ((s.set Reg.HLINK_PROTO_LOC_TYPE m.type).set Reg.HLINK_PROTO_LOC_REASON reason).set Reg.HLINK_PROTO_LOC_TAG m.tag
  ((s.satAdd Reg.HLINK_PROTOCOL_CNT_COUNT 1).on Reg.HLINK_STATUS_PROTOCOL).modHost fun h => { h with badFlit := some m.flit }

/-! ### CFG requests (R412 to R417) -/

/-- Read `n` registers from an address: the status, the number read and their values; a refusal ends the reading. (DESIGN CHOICE, log 15.) -/
def readMany : Nat → Nat → State → Status × Nat × List Nat × State
  | 0, _, s => (.ok, 0, [], s)
  | n + 1, addr, s =>
    match s.readReg addr with
    | (.ok, v, s) =>
      let r := readMany n (addr + 4) s
      (r.1, r.2.1 + 1, v :: r.2.2.1, r.2.2.2)
    | (st, _, s) => (st, 0, [], s)

/-- Write registers from an address: the status and the number written; the first refusal ends the writing. -/
def writeMany : List Nat → Nat → State → Status × Nat × State
  | [], _, s => (.ok, 0, s)
  | v :: l, addr, s =>
    match s.writeReg addr v with
    | (.ok, s) =>
      let r := writeMany l (addr + 4) s
      (r.1, r.2.1 + 1, r.2.2)
    | (st, s) => (st, 0, s)

/-- A REPLY to a CFG request, with the attention word of this moment (R422); it restarts the keepalive timer (R462). -/
def State.replyTo (s : State) (m : HostIn) (st : Status) (done : Nat) (data : List Byte) : State :=
  State.restartKeepalive ((s.send (.reply st s.attention m.tag done data)))

/-- Registers that a CFG_RD reads: up to the one whose data fails the parity of the register fabric (R422). -/
def registersRead (m : HostIn) : Nat := match m.fabricError with | some i => min m.len (i + 1) | none => m.len

/-- CFG_RD (R413): every register after a refused one reads 0; FATAL where the register fabric fails (R422). (DESIGN CHOICE, log 15.) -/
def State.cfgRead (s : State) (m : HostIn) : State :=
  let r := readMany (registersRead m) (leAt m.bytes 8 4) s
  let s := r.2.2.2
  let (st, done) := match m.fabricError with
    | some i => if r.1 = .ok && i < m.len then (Status.fatal, i) else (r.1, r.2.1)
    | none => (r.1, r.2.1)
  let vals := r.2.2.1.take done
  let s := s.replyTo m st done (padTo (4 * m.len) (vals.flatMap (leBytes 4)))
  { s with lastStatus := st, lastData := vals.headD 0 }

/-- CFG_WR (R413, R417): a warm reset begins once its REPLY has been sent. (DESIGN CHOICE, log 14.) -/
def State.cfgWrite (s : State) (m : HostIn) : State :=
  let r := writeMany ((List.range m.len).map fun i => leAt m.data (4 * i) 4) (leAt m.bytes 8 4) s
  let s := r.2.2.replyTo m r.1 r.2.1 []
  let s := if s.bit Reg.SYS_CTRL_WARM_RESET then s.warmReset else s
  { s with lastStatus := r.1, lastData := 0 }

/-! ### Receiving -/

/-- What a message in order does (Table 15-4). -/
def State.applyMsg (s : State) (m : HostIn) : State :=
  match m.type with
  | 1 => s.cfgRead m
  | 2 => s.cfgWrite m
  | 3 => s.doorbell (leAt m.bytes 8 1) (leAt m.bytes 12 4)
  | 6 => s.hostReply m.tag m.status m.len (m.data.take m.len)
  | 7 => State.resume (s.modHost fun h => { h with credit := h.credit + leAt m.bytes 8 4 })
  | _ => s

/-- The slots that a message freed go back to the host (R410). (DESIGN CHOICE, log 18.) -/
def State.returnSlots (s : State) (n : Nat) : State := if n = 0 || !s.linkActive then s else s.send (.credit n)

/-- A message arrives. No flit flows while the link is not ACTIVE, and the rest of a flit that held a protocol error is
discarded (R411). (DESIGN CHOICE, log 18; DESIGN CHOICE, log 20.) -/
def State.receive (s : State) (m : HostIn) : State :=
  if !s.linkActive || s.host.badFlit == some m.flit then s
  else match s.msgFault m with
    | 0 =>
      let s := s.modHost fun h => { h with rxCredit := h.rxCredit - m.slots }
      (s.applyMsg m).returnSlots m.slots
    | n => s.protocolError m n

end Sys2Proof.Machine
end

