-- ==== Sys2Proof/Machine/BufferSteps.lean ====
section
/-! DEFINITION. Steps of the buffer, the queues and the traffic manager (chapters 11 to 13). -/

namespace Sys2Proof.Machine

/-- ALLOCATOR_HANDSHAKE (R310). -/
def execAllocatorHandshake (pool : Nat) (requests : List BeadRequest) (frees : List BeadFree) (s : State) : Out :=
  onObject 16 pool (if requestsOk requests then whenUp s fun s => s.handshake pool requests frees
    else .fault .noSuchObject)

/-- BEAD_DECREMENT (R314). -/
def execBeadDecrement (bead : Nat) (account : BeadAccount) (agent : Nat) (s : State) : Out :=
  onObject 524288 bead (whenUp s fun s => s.decrement bead account agent)

/-- BUF_WITHDRAW (R316). -/
def execBufWithdraw (cmd : CmdIn) (s : State) : Out :=
  onRing cmd (whenUp s fun s => s.withdraw cmd)

/-- WITHDRAW_TIMEOUT (R316). -/
def execWithdrawTimeout (s : State) : Out :=
  whenUp s fun s => s.withdrawTimeout

/-- BUF_RESTORE (R317). -/
def execBufRestore (cmd : CmdIn) (s : State) : Out :=
  onRing cmd (runCmd 0x39 coreBufRestore cmd s)

/-- SPILL_WRITE (R321). -/
def execSpillWrite (queue : Nat) (s : State) : Out :=
  onObject 16384 queue (whenUp s fun s => s.spillWrite queue)

/-- SPILL_RETURN (R321). -/
def execSpillReturn (queue : Nat) (read : SpillRead) (s : State) : Out :=
  onObject 16384 queue (whenUp s fun s => s.spillReturn queue read.outcome read.badLink)

/-- MCAST_SET (R335). -/
def execMcastSet (cmd : CmdIn) (s : State) : Out :=
  onRing cmd (runCmd 0x3A coreMcastSet cmd s)

/-- MCAST_READ (R335). -/
def execMcastRead (cmd : CmdIn) (s : State) : Out :=
  onRing cmd (runCmd 0x3B coreMcastRead cmd s)

/-- PORT_FLUSH (R347). -/
def execPortFlush (port : Nat) (s : State) : Out :=
  onPort port (whenUp s fun s => if s.funcUp .buf && s.funcUp .tm then s.flushPort port else s)

/-- HOLD_DOWN_EXPIRY (R348). -/
def execHoldDownExpiry (port : Nat) (s : State) : Out :=
  onPort port (whenUp s fun s => s.holdDown port)

/-- STUCK_INSPECTION (R350). -/
def execStuckInspection (s : State) : Out :=
  whenUp s fun s => s.stuckInspect

/-- STUCK_RECLAIM (R350). -/
def execStuckReclaim (queue : Nat) (s : State) : Out :=
  onObject 16384 queue (whenUp s fun s => if s.funcUp .buf && s.funcUp .tm then s.reclaim queue else s)

/-- POLICER_HANDSHAKE (R360). -/
def execPolicerHandshake (policer : Nat) (s : State) : Out :=
  onObject 65536 policer (whenUp s fun s => s.policerHandshake policer)

/-- TM_POLICER_SET (R361). -/
def execTmPolicerSet (cmd : CmdIn) (s : State) : Out :=
  onRing cmd (runCmd 0x40 corePolicerSet cmd s)

/-- TM_POLICER_READ (R361). -/
def execTmPolicerRead (cmd : CmdIn) (s : State) : Out :=
  onRing cmd (runCmd 0x41 corePolicerRead cmd s)

/-- TM_SHAPER_SET (R368). -/
def execTmShaperSet (cmd : CmdIn) (s : State) : Out :=
  onRing cmd (runCmd 0x42 coreShaperSet cmd s)

/-- TM_SHAPER_READ (R368). -/
def execTmShaperRead (cmd : CmdIn) (s : State) : Out :=
  onRing cmd (runCmd 0x43 coreShaperRead cmd s)

/-- TM_GCL_WRITE (R373). -/
def execTmGclWrite (cmd : CmdIn) (s : State) : Out :=
  onRing cmd (runCmd 0x44 coreGclWrite cmd s)

/-- TM_GCL_COMMIT (R373). -/
def execTmGclCommit (cmd : CmdIn) (s : State) : Out :=
  onRing cmd (runCmd 0x45 coreGclCommit cmd s)

/-- TM_GCL_CANCEL (R375). -/
def execTmGclCancel (cmd : CmdIn) (s : State) : Out :=
  onRing cmd (runCmd 0x46 coreGclCancel cmd s)

/-- TM_GCL_READ (R375). -/
def execTmGclRead (cmd : CmdIn) (s : State) : Out :=
  onRing cmd (runCmd 0x47 coreGclRead cmd s)

/-- GATE_LIST_START (R374). -/
def execGateListStart (port : Nat) (s : State) : Out :=
  onPort port (whenUp s fun s => (s.gateListStart port).lookAll port)

/-- GATE_ENTRY_CHANGE (R369). -/
def execGateEntryChange (port : Nat) (s : State) : Out :=
  onPort port (whenUp s fun s => (s.gateEntryChange port).lookAll port)

end Sys2Proof.Machine
end

