-- ==== Sys2Proof/Machine/DramSteps.lean ====
section
/-! DEFINITION. Steps of DRAM and its controller (chapter 14). -/

namespace Sys2Proof.Machine

/-- DRAM_SCRUB_READ (R383). (DESIGN CHOICE, log 75.) -/
def execDramScrubRead (granule : Nat) (read : ReadOutcome) (s : State) : Out :=
  onObject 0xC000000 granule (whenUp s fun s => s.scrubRead granule read)

/-- CA_PARITY_ALERT (R385). -/
def execCaParityAlert (pc : Nat) (alert : ParityAlert) (s : State) : Out :=
  onObject 64 pc (whenUp s fun s => s.parityAlert pc alert.ofCommand alert.reissue alert.retrainOk)

/-- DRAM_REQUEST_TIMEOUT (R388). (DESIGN CHOICE, log 94.) -/
def execDramRequestTimeout (pc : Nat) (s : State) : Out :=
  onObject 64 pc (whenUp s fun s => if s.overdue pc then s.failPc pc else s)

/-- WRITE_AGE_DRAIN (R390). -/
def execWriteAgeDrain (pc : Nat) (s : State) : Out :=
  onObject 64 pc (whenUp s fun s => s.ageDrain pc)

/-- REFRESH (R391). -/
def execRefresh (stack : Nat) (s : State) : Out :=
  onObject 2 stack (whenUp s fun s => s.refreshWindow stack)

/-- DRAM_TEMP_READ (R391); a stack's catastrophic temperature signal is the thermal trip (Table 14-1). (DESIGN CHOICE, log 62.) -/
def execDramTempRead (temps : StackTemps) (trip : Bool) (s : State) : Out :=
  whenUp s fun s =>
    let s := s.tempsRead temps.stack0 temps.stack1
    if trip then s.deviceReset .tripped 0 else s

/-- ROW_GUARD_REFRESH (R393). -/
def execRowGuardRefresh (bank : Nat) (row : Nat) (s : State) : Out :=
  onObject 3072 bank (onObject 16384 row (whenUp s fun s => s.rowGuard bank row))

/-- STACK_PARK (R395). -/
def execStackPark (stack : Nat) (s : State) : Out :=
  onObject 2 stack (whenUp s fun s => s.park stack)

/-- STACK_WAKE (R395). -/
def execStackWake (stack : Nat) (s : State) : Out :=
  onObject 2 stack (whenUp s fun s => s.wake stack)

/-- SID_IDLE (R396). -/
def execSidIdle (stack : Nat) (sid : Nat) (s : State) : Out :=
  onObject 2 stack (onObject 3 sid (whenUp s fun s => s.idleSid stack sid))

/-- DRAM_SERVICE_WRITE (R394). -/
def execDramServiceWrite (value : Nat) (s : State) : Out :=
  whenUp s fun s => s.hostWrite 0x1100000 value

/-- DRAM_TRAIN_START (R398). -/
def execDramTrainStart (s : State) : Out :=
  whenUp s fun s => s.hostWrite 0x1100014 (2 ^ 31)

/-- DRAM_TRAINING (R397). -/
def execDramTraining (pc : Nat) (failedLanes : Nat) (ok : Bool) (s : State) : Out :=
  onObject 64 pc (whenUp s fun s => s.trainStep pc failedLanes ok)

/-- DRAM_TRAIN_READ (R401). -/
def execDramTrainRead (s : State) : Out :=
  whenUp s fun s => s.hostRead 0x1100014

/-- DRAM_RECAL (R399). -/
def execDramRecal (pc : Nat) (s : State) : Out :=
  onObject 64 pc (whenUp s fun s => s.recalPc pc)

/-- DRAM_TRAINING_REQUEST (R556). -/
def execDramTrainingRequest (s : State) : Out :=
  whenUp s fun s => s.trainRequest

/-- READ_IDLE_DRAIN (R390). -/
def execReadIdleDrain (pc : Nat) (s : State) : Out :=
  onObject 64 pc (whenUp s fun s => s.idleDrain pc)

end Sys2Proof.Machine
end

