-- ==== Sys2Proof/Machine/FrameSteps.lean ====
section
/-! DEFINITION. Steps of a frame on its way through the device (chapters 1, 7, 9, 10, 11, 12, 13). -/

namespace Sys2Proof.Machine

/-- FRAME_START (R141). -/
def execFrameStart (port : Nat) (sub : Nat) (bytes : List Byte) (s : State) : Out :=
  onPort port (onObject 64 sub (whenUp s fun s => s.frameStart port sub bytes))

/-- FIRST_WORD_CROSSING (R234). -/
def execFirstWordCrossing (frame : Nat) (s : State) : Out :=
  whenUp s fun s => s.firstWord frame

/-- CLASSIFY_PASS (R213). -/
def execClassifyPass (frame : Nat) (s : State) : Out :=
  whenUp s fun s => s.classifyPass frame

/-- CARRY_PASS (R215). -/
def execCarryPass (s : State) : Out :=
  whenUp s fun s => s.carryPass

/-- FORWARDING_LOOKUP (R243). -/
def execForwardingLookup (frame : Nat) (s : State) : Out :=
  whenUp s fun s => s.forwardingLookup frame

/-- LEARN_RELEASE (R256). -/
def execLearnRelease (bank : Nat) (s : State) : Out :=
  onObject 16 bank (whenUp s fun s => s.learnRelease bank)

/-- CONTEXT_FETCH_DONE (R279). -/
def execContextFetchDone (frame : Nat) (read : FetchRead) (s : State) : Out :=
  whenUp s fun s => s.contextFetched frame read

/-- ADMISSION (R303). -/
def execAdmission (frame : Nat) (s : State) : Out :=
  whenUp s fun s => s.admission frame

/-- FRAME_END (R27). -/
def execFrameEnd (frame : Nat) (fcs : Fcs) (codeErr : Bool) (s : State) : Out :=
  whenUp s fun s => s.frameEnd frame fcs codeErr

/-- FRAME_TRUNCATE (R97). -/
def execFrameTruncate (frame : Nat) (s : State) : Out :=
  whenUp s fun s => s.frameTruncate frame

/-- FURTHER_BEAD_REQUEST (R304). -/
def execFurtherBeadRequest (frame : Nat) (s : State) : Out :=
  whenUp s fun s => s.furtherBead frame

/-- LL_RELEASE (R162). -/
def execLlRelease (port : Nat) (s : State) : Out :=
  onPort port (whenUp s fun s => s.llRelease port)

/-- COPY_LINK (R595). -/
def execCopyLink (copy : Nat) (s : State) : Out :=
  whenUp s fun s => s.linkOffer copy

/-- REPLICATOR_OFFER (R337). -/
def execReplicatorOffer (pipe : Nat) (places : Nat) (s : State) : Out :=
  onObject 65 pipe (whenUp s fun s => s.replicate pipe places)

/-- RESIDUE_LINK (R339). -/
def execResidueLink (queue : Nat) (s : State) : Out :=
  onObject 16384 queue (whenUp s fun s => s.linkResidue queue)

/-- SCHEDULER_PICK (R363). -/
def execSchedulerPick (port : Nat) (s : State) : Out :=
  onPort port (whenUp s fun s => s.pick port)

/-- TRANSMIT_START (R141). -/
def execTransmitStart (port : Nat) (sub : Nat) (s : State) : Out :=
  onPort port (onObject 64 sub (whenUp s fun s => s.transmitStart port sub))

/-- TRANSMIT_END (R174). -/
def execTransmitEnd (port : Nat) (s : State) : Out :=
  onPort port (whenUp s fun s => s.transmitEnd port)

/-- PROFILE_VALID_WRITE (R208). -/
def execProfileValidWrite (profile : Nat) (value : Nat) (s : State) : Out :=
  onObject 64 profile (whenUp s fun s => s.hostWrite (0x708000 + 0x80 * profile) value)

/-- PROFILE_DRAINED (R208). -/
def execProfileDrained (profile : Nat) (s : State) : Out :=
  onObject 64 profile (whenUp s fun s => s.profileDrained profile)

end Sys2Proof.Machine
end

