-- ==== Sys2Proof/Machine/HostSteps.lean ====
section
/-! DEFINITION. Steps of the host link and the rings (chapters 15, 16). -/

namespace Sys2Proof.Machine

/-- LINK_TRAINING (R403). -/
def execLinkTraining (ok : Bool) (s : State) : Out :=
  whenUp s fun s => s.linkTraining ok

/-- LINK_TRAINING_DONE (R403). -/
def execLinkTrainingDone (repaired : Bool) (s : State) : Out :=
  whenUp s fun s => s.linkUp repaired

/-- LINK_TRAIN_RESTART (R403). -/
def execLinkTrainRestart (s : State) : Out :=
  whenUp s fun s => s.linkRestart

/-- LINK_RETRAIN (R405). -/
def execLinkRetrain (retries : Nat) (phyError : Bool) (s : State) : Out :=
  whenUp s fun s => s.linkRetrain retries phyError

/-- CFG_RD (R413). -/
def execCfgRd (msg : HostIn) (s : State) : Out :=
  onObject 15 msg.slot (whenUp s fun s => s.receive msg)

/-- CFG_WR (R413). -/
def execCfgWr (msg : HostIn) (s : State) : Out :=
  onObject 15 msg.slot (whenUp s fun s => s.receive msg)

/-- DB_WR (R432). -/
def execDbWr (msg : HostIn) (s : State) : Out :=
  onObject 15 msg.slot (whenUp s fun s => s.receive msg)

/-- REPLY (R420). -/
def execReply (msg : HostIn) (s : State) : Out :=
  onObject 15 msg.slot (whenUp s fun s => s.receive msg)

/-- CREDIT (R410). -/
def execCredit (msg : HostIn) (s : State) : Out :=
  onObject 15 msg.slot (whenUp s fun s => s.receive msg)

/-- RESERVED_TYPE_MESSAGE (R411). -/
def execReservedTypeMessage (msg : HostIn) (s : State) : Out :=
  onObject 15 msg.slot (whenUp s fun s => s.receive msg)

/-- MEM_RD_TIMEOUT (R420). -/
def execMemRdTimeout (tag : Nat) (s : State) : Out :=
  onObject 1024 tag (whenUp s fun s => s.readTimeout tag)

/-- HOST_LOST (R424). -/
def execHostLost (s : State) : Out :=
  whenUp s fun s => s.hostLost

/-- DESCRIPTOR_TAKE (R435). -/
def execDescriptorTake (s : State) : Out :=
  whenUp s fun s => s.takeDescriptor

/-- INJECT_DESCRIPTOR (R445). -/
def execInjectDescriptor (ring : Nat) (s : State) : Out :=
  onObject 64 ring (whenUp s fun s => s.injectDescriptor ring)

/-- INDEX_BLOCK_WRITE (R433). -/
def execIndexBlockWrite (ring : Nat) (s : State) : Out :=
  onObject 64 ring (whenUp s fun s => s.writeIndex ring)

/-- RING_ENABLE (R431). -/
def execRingEnable (ring : Nat) (value : Nat) (s : State) : Out :=
  onObject 64 ring (whenUp s fun s => s.hostWrite (0x1301010 + 0x40 * ring) value)

/-- RING_RESUME (R451). -/
def execRingResume (ring : Nat) (s : State) : Out :=
  onObject 64 ring (whenUp s fun s => s.hostWrite 0x130000C (2 ^ 31 + ring))

/-- PUNT_WRITE (R449). -/
def execPuntWrite (frame : Nat) (s : State) : Out :=
  whenUp s fun s => s.puntWrite frame

/-- COUNTER_SWEEP (R450). -/
def execCounterSweep (reads : List (Nat × ReadOutcome)) (s : State) : Out :=
  whenUp s fun s => s.counterSweep reads

end Sys2Proof.Machine
end

