-- ==== Sys2Proof/Machine/PairSteps.lean ====
section
/-! DEFINITION. Steps of the redundant pair and of the span (chapters 20, 21). -/

namespace Sys2Proof.Machine

/-- CLAIM (R513). -/
def execClaim (s : State) : Out :=
  whenUp s fun s => s.hostWrite 0x1700004 1

/-- YIELD (R513). -/
def execYieldRole (s : State) : Out :=
  whenUp s fun s => s.hostWrite 0x1700004 2

/-- HOLD_IN_CHANGE (R515). -/
def execHoldInChange (level : Bool) (s : State) : Out :=
  finish (s.holdPin level)

/-- TRANSMIT_ENABLE (R514). -/
def execTransmitEnable (s : State) : Out :=
  whenUp s fun s => s.transmitEnable

/-- YIELD_RELEASE (R528). -/
def execYieldRelease (s : State) : Out :=
  whenUp s fun s => s.yieldRelease

/-- HOLD_FAULT_DETECT (R516). -/
def execHoldFaultDetect (s : State) : Out :=
  whenUp s fun s => s.holdFaultDetect

/-- STATE_RECORD_RECEIVE (R518). -/
def execStateRecordReceive (frame : List Byte) (fcsOk : Bool) (s : State) : Out :=
  whenUp s fun s => s.recordReceive frame fcsOk

/-- STATE_RESEND (R520). -/
def execStateResend (s : State) : Out :=
  whenUp s fun s => s.stateResend

/-- HEARTBEAT_SEND (R521). -/
def execHeartbeatSend (s : State) : Out :=
  whenUp s fun s => s.heartbeatSend

/-- HEARTBEAT_RECEIVE (R516). -/
def execHeartbeatReceive (frame : List Byte) (fcsOk : Bool) (s : State) : Out :=
  whenUp s fun s => s.heartbeatReceive frame fcsOk

/-- HEARTBEAT_LOSS (R523). -/
def execHeartbeatLoss (s : State) : Out :=
  whenUp s fun s => s.heartbeatLoss

/-- DIGEST_SEND (R523). -/
def execDigestSend (s : State) : Out :=
  whenUp s fun s => s.digestSend

/-- WINDOW_COMPARE (R524). -/
def execWindowCompare (window : Nat) (peer : List DigestFrame) (s : State) : Out :=
  whenUp s fun s => s.windowCompare window peer

/-- PEER_RELEASE_TAKEOVER (R526). -/
def execPeerReleaseTakeover (s : State) : Out :=
  whenUp s fun s => s.peerRelease

/-- TAKEOVER_LAPSE (R526). -/
def execTakeoverLapse (s : State) : Out :=
  whenUp s fun s => s.takeoverLapse

/-- TALLY_FOLLOW_TIMEOUT (R530). -/
def execTallyFollowTimeout (s : State) : Out :=
  whenUp s fun s => s.followTimeout

/-- PAIR_RESYNC (R531). -/
def execPairResync (cmd : CmdIn) (s : State) : Out :=
  onRing cmd (whenUp s fun s => s.pairResync cmd)

/-- RESYNC_COMPLETE (R532). -/
def execResyncComplete (s : State) : Out :=
  whenUp s fun s => s.resyncComplete

/-- SPAN_CTRL_WRITE (R538). -/
def execSpanCtrlWrite (value : Nat) (s : State) : Out :=
  whenUp s fun s => s.hostWrite 0x1800000 value

/-- SPAN_CONTROL_SEND (R541). -/
def execSpanControlSend (port : Nat) (s : State) : Out :=
  onPort port (whenUp s fun s => s.spanControlSend port)

/-- SPAN_CONTROL_RECEIVE (R543). -/
def execSpanControlReceive (port : Nat) (frame : List Byte) (fcsOk : Bool) (s : State) : Out :=
  onPort port (whenUp s fun s => s.spanControlReceive port frame fcsOk)

/-- SPAN_DATA_RECEIVE (R545). -/
def execSpanDataReceive (port : Nat) (frame : List Byte) (fcsOk : Bool) (s : State) : Out :=
  onPort port (whenUp s fun s => s.spanData port frame fcsOk)

/-- HANDOFF_RECEIVE (R526). -/
def execHandoffReceive (frame : List Byte) (fcsOk : Bool) (s : State) : Out :=
  whenUp s fun s => s.handoffReceive frame fcsOk

end Sys2Proof.Machine
end

