-- ==== Sys2Proof/Machine/PortSteps.lean ====
section
/-! DEFINITION. Steps of registers, ports, pause and counters (chapters 0, 3). -/

namespace Sys2Proof.Machine

/-- REGISTER_WRITE (R14). -/
def execRegisterWrite (addr : Nat) (value : Nat) (s : State) : Out :=
  whenUp s fun s => s.hostWrite addr value

/-- RC_REGISTER_READ (R10). -/
def execRcRegisterRead (addr : Nat) (s : State) : Out :=
  whenUp s fun s => s.hostRead addr

/-- OCTET_MODE_WRITE (R73). -/
def execOctetModeWrite (octet : Nat) (value : Nat) (s : State) : Out :=
  onObject 128 octet (whenUp s fun s => s.hostWrite (0x200000 + 4 * octet) value)

/-- PORT_ENABLE (R78). -/
def execPortEnable (port : Nat) (value : Nat) (s : State) : Out :=
  onPort port (whenUp s fun s => s.hostWrite (0x201000 + 0x20 * port) value)

/-- PORT_DISABLE (R86). -/
def execPortDisable (port : Nat) (value : Nat) (s : State) : Out :=
  onPort port (whenUp s fun s => s.hostWrite (0x201000 + 0x20 * port) value)

/-- LINK_CONDITION_CHANGE (R82). (DESIGN CHOICE, log 77.) -/
def execLinkConditionChange (port : Nat) (cond : LinkCond) (s : State) : Out :=
  onObject 1025 port (whenUp s fun s => s.newLink port cond)

/-- UP_DEBOUNCE_EXPIRY (R83). -/
def execUpDebounceExpiry (port : Nat) (s : State) : Out :=
  onPort port (whenUp s fun s => if s.isPort port then s.upExpiry port else s)

/-- DN_DEBOUNCE_EXPIRY (R82). -/
def execDnDebounceExpiry (port : Nat) (s : State) : Out :=
  onPort port (whenUp s fun s => if s.isPort port then s.dnExpiry port else s)

/-- PAUSE_FRAME_RECEIVED (R91). -/
def execPauseFrameReceived (port : Nat) (quanta : Nat) (dstOk : Bool) (s : State) : Out :=
  onPort port (whenUp s fun s => (s.pauseReceived port (quanta % 65536) dstOk).lookAll port)

/-- PFC_FRAME_RECEIVED (R92). -/
def execPfcFrameReceived (port : Nat) (enable : Nat) (quanta : List Nat) (dstOk : Bool) (s : State) : Out :=
  onPort port (whenUp s fun s => (s.pfcReceived port (enable % 256) (quanta.map (· % 65536)) dstOk).lookAll port)

/-- PAUSE_TIMER_EXPIRY (R91). -/
def execPauseTimerExpiry (port : Nat) (priority : Nat) (s : State) : Out :=
  onPort port (onObject 9 priority (whenUp s fun s => (s.pauseExpiry port priority).lookAll port))

/-- PAUSE_REFRESH (R94). -/
def execPauseRefresh (port : Nat) (priority : Nat) (s : State) : Out :=
  onPort port (onObject 9 priority (whenUp s fun s => s.pauseRefresh port priority))

/-- CNT_READ (R443). -/
def execCntRead (cmd : CmdIn) (s : State) : Out :=
  onRing cmd (runCmd 0x50 (coreCounters false) cmd s)

/-- CNT_CLEAR (R443). -/
def execCntClear (cmd : CmdIn) (s : State) : Out :=
  onRing cmd (runCmd 0x51 (coreCounters true) cmd s)

end Sys2Proof.Machine
end

