-- ==== Sys2Proof/Machine/SystemSteps.lean ====
section
/-! DEFINITION. Steps of events, recovery, Reckoners, security, start-up and the test paths (chapters 17 to 19, 22, 24). -/

namespace Sys2Proof.Machine

/-- WARM_RESET (R470). -/
def execWarmReset (s : State) : Out :=
  whenUp s fun s => s.hostWrite 0x140 1

/-- COLLECTOR_SCAN (R459). (DEDUCED, log 44.) -/
def execCollectorScan (block : Nat) (s : State) : Out :=
  onObject 13 block (whenUp s fun s => if s.funcUp .ring then s.scanBlock block s.presStamp else s)

/-- EVENT_ENTRY_WRITE (R461). -/
def execEventEntryWrite (s : State) : Out :=
  whenUp s fun s => s.eventEntry

/-- EVT_MASK_WRITE (R458). -/
def execEvtMaskWrite (word : Nat) (value : Nat) (s : State) : Out :=
  onObject 128 word (whenUp s fun s => s.hostWrite (0x1400300 + 4 * word) value)

/-- KEEPALIVE_EXPIRY (R462). -/
def execKeepaliveExpiry (s : State) : Out :=
  whenUp s fun s => s.keepalive

/-- KEEPALIVE_WRITE (R462). -/
def execKeepaliveWrite (value : Nat) (s : State) : Out :=
  whenUp s fun s => s.hostWrite 0x1400000 value

/-- FUNC_RESET (R465). -/
def execFuncReset (value : Nat) (s : State) : Out :=
  whenUp s fun s => s.hostWrite 0x150 value

/-- FUNC_RESET_DONE (R465). -/
def execFuncResetDone (func : Nat) (ok : Bool) (s : State) : Out :=
  onObject 12 func (whenUp s fun s => s.funcResetDone func ok)

/-- PATCH_LOAD (R479). -/
def execPatchLoad (value : Nat) (s : State) : Out :=
  whenUp s fun s => s.hostWrite 0x1500010 value

/-- PATCH_CHECK_DONE (R480). -/
def execPatchCheckDone (s : State) : Out :=
  whenUp s fun s => s.patchDone

/-- ROUTINE_START (R485). -/
def execRoutineStart (s : State) : Out :=
  whenUp s fun s => s.routineStart

/-- ROUTINE_CHECKPOINT (R482). -/
def execRoutineCheckpoint (engine : Nat) (s : State) : Out :=
  onObject 8 engine (whenUp s fun s => s.checkpoint engine)

/-- ENGINE_HALT (R487). (DESIGN CHOICE, log 47.) -/
def execEngineHalt (engine : Nat) (s : State) : Out :=
  onObject 8 engine (whenUp s fun s => s.haltEngine engine)

/-- BOOT_STAGE (R493). -/
def execBootStage (romOk : Bool) (fuseOk : Bool) (identityOk : Bool) (s : State) : Out :=
  whenUp s fun s => s.bootStage romOk fuseOk identityOk

/-- SEC_ATTEST (R499). -/
def execSecAttest (cmd : CmdIn) (s : State) : Out :=
  onRing cmd (runCmd 0x60 coreAttest cmd s)

/-- BUNDLE_LOAD (R502). -/
def execBundleLoad (value : Nat) (s : State) : Out :=
  whenUp s fun s => s.hostWrite 0x1600018 value

/-- BUNDLE_DONE (R502). -/
def execBundleDone (s : State) : Out :=
  whenUp s fun s => s.bundleDone

/-- DEBUG_TOKEN_LOAD (R504). -/
def execDebugTokenLoad (value : Nat) (s : State) : Out :=
  whenUp s fun s => s.hostWrite 0x1600018 value

/-- START_READY (R555). -/
def execStartReady (s : State) : Out :=
  whenUp s fun s => s.startReady

/-- START_LATE (R559). -/
def execStartLate (s : State) : Out :=
  whenUp s fun s => s.startLate

/-- BIST_START (R568). -/
def execBistStart (value : Nat) (s : State) : Out :=
  whenUp s fun s => s.hostWrite 0x170 value

/-- BIST_DONE (R568). -/
def execBistDone (failing : Option Nat) (s : State) : Out :=
  onObject 4096 (failing.getD 0) (whenUp s fun s => s.bistDone failing)

/-- OBS_WRITE (R586). -/
def execObsWrite (word : Nat) (value : Nat) (s : State) : Out :=
  onObject 262144 word (whenUp s fun s => s.hostWrite (0x1900000 + 4 * word) value)

/-- JTAG_INSTRUCTION (R590). (DEDUCED, log 69.) -/
def execJtagInstruction (opcode : Nat) (s : State) : Out :=
  onObject 256 opcode (finish (s.jtagLoad opcode))

/-- TAP_RESET (R590). (DEDUCED, log 69.) -/
def execTapReset (s : State) : Out :=
  finish (s.jtagLoad 1)

end Sys2Proof.Machine
end

