-- ==== Sys2Proof/Machine/TableSteps.lean ====
section
/-! DEFINITION. Steps of rule versions, the forwarding tables and the session contexts (chapters 8 to 10). -/

namespace Sys2Proof.Machine

/-- NOP (R436). -/
def execNop (cmd : CmdIn) (s : State) : Out :=
  onRing cmd (runCmd 0x00 coreNop cmd s)

/-- RULE_STAGE (R212). -/
def execRuleStage (cmd : CmdIn) (s : State) : Out :=
  onRing cmd (runCmd 0x10 coreRuleStage cmd s)

/-- RULE_DISCARD (R224). -/
def execRuleDiscard (cmd : CmdIn) (s : State) : Out :=
  onRing cmd (runCmd 0x11 coreRuleDiscard cmd s)

/-- RULE_COMMIT (R230). -/
def execRuleCommit (cmd : CmdIn) (s : State) : Out :=
  onRing cmd (runLong 0x12 commitAtOnce coreRuleCommit cmd s)

/-- RULE_READ (R224). -/
def execRuleRead (cmd : CmdIn) (s : State) : Out :=
  onRing cmd (runCmd 0x13 coreRuleRead cmd s)

/-- RULE_RANGE_SET (R211). -/
def execRuleRangeSet (cmd : CmdIn) (s : State) : Out :=
  onRing cmd (runCmd 0x14 coreRuleRangeSet cmd s)

/-- TAG_DRAINED (R238). -/
def execTagDrained (tag : Nat) (s : State) : Out :=
  onObject 4 tag (whenUp s fun s => s.tagDrained tag)

/-- DRAIN_STUCK (R239). -/
def execDrainStuck (tag : Nat) (s : State) : Out :=
  onObject 4 tag (whenUp s fun s => s.drainStuck tag)

/-- FDB_INSERT (R247). -/
def execFdbInsert (cmd : CmdIn) (s : State) : Out :=
  onRing cmd (runCmd 0x20 coreFdbInsert cmd s)

/-- FDB_DELETE (R271). -/
def execFdbDelete (cmd : CmdIn) (s : State) : Out :=
  onRing cmd (runCmd 0x21 coreFdbDelete cmd s)

/-- FDB_AGE_DELETE (R261). -/
def execFdbAgeDelete (cmd : CmdIn) (s : State) : Out :=
  onRing cmd (runCmd 0x22 coreFdbAgeDelete cmd s)

/-- FDB_SEARCH (R271). -/
def execFdbSearch (cmd : CmdIn) (s : State) : Out :=
  onRing cmd (runCmd 0x23 coreFdbSearch cmd s)

/-- FDB_NEXT (R272). -/
def execFdbNext (cmd : CmdIn) (s : State) : Out :=
  onRing cmd (runCmd 0x24 coreFdbNext cmd s)

/-- FDB_FLUSH (R273). -/
def execFdbFlush (cmd : CmdIn) (s : State) : Out :=
  onRing cmd (runLong 0x25 fdbFlushAtOnce coreFdbFlush cmd s)

/-- LPM_INSERT (R264). -/
def execLpmInsert (cmd : CmdIn) (s : State) : Out :=
  onRing cmd (runCmd 0x28 coreLpmInsert cmd s)

/-- LPM_DELETE (R268). -/
def execLpmDelete (cmd : CmdIn) (s : State) : Out :=
  onRing cmd (runCmd 0x29 coreLpmDelete cmd s)

/-- LPM_SEARCH (R271). -/
def execLpmSearch (cmd : CmdIn) (s : State) : Out :=
  onRing cmd (runCmd 0x2A coreLpmSearch cmd s)

/-- LPM_MATCH (R271). -/
def execLpmMatch (cmd : CmdIn) (s : State) : Out :=
  onRing cmd (runCmd 0x2B coreLpmMatch cmd s)

/-- LPM_NEXT (R272). -/
def execLpmNext (cmd : CmdIn) (s : State) : Out :=
  onRing cmd (runCmd 0x2C coreLpmNext cmd s)

/-- LPM_FLUSH (R274). -/
def execLpmFlush (cmd : CmdIn) (s : State) : Out :=
  onRing cmd (runLong 0x2D lpmFlushAtOnce coreLpmFlush cmd s)

/-- LPM_BACKGROUND_MOVE (R267). -/
def execLpmBackgroundMove (group : Nat) (s : State) : Out :=
  onObject 162 group (whenUp s fun s => s.backgroundMove group)

/-- FLOW_OPEN (R282). -/
def execFlowOpen (cmd : CmdIn) (s : State) : Out :=
  onRing cmd (runCmd 0x30 coreFlowOpen cmd s)

/-- FLOW_MODIFY (R288). -/
def execFlowModify (cmd : CmdIn) (s : State) : Out :=
  onRing cmd (runCmd 0x31 coreFlowModify cmd s)

/-- FLOW_READ (R289). -/
def execFlowRead (cmd : CmdIn) (s : State) : Out :=
  onRing cmd (runCmd 0x32 coreFlowRead cmd s)

/-- FLOW_CLEAR (R289). -/
def execFlowClear (cmd : CmdIn) (s : State) : Out :=
  onRing cmd (runCmd 0x33 coreFlowClear cmd s)

/-- FLOW_CLOSE (R290). -/
def execFlowClose (cmd : CmdIn) (s : State) : Out :=
  onRing cmd (runCmd 0x34 coreFlowClose cmd s)

/-- FLOW_NEXT (R288). -/
def execFlowNext (cmd : CmdIn) (s : State) : Out :=
  onRing cmd (runCmd 0x35 coreFlowNext cmd s)

/-- TABLE_SCRUB_READ (R567). (DESIGN CHOICE, log 75.) -/
def execTableScrubRead (target : ScrubTarget) (s : State) : Out :=
  whenUp s fun s => s.scrub target

end Sys2Proof.Machine
end

