-- ==== Sys2Proof/Machine/TallySteps.lean ====
section
/-! DEFINITION. Steps of Tally (chapter 6). -/

namespace Sys2Proof.Machine

/-- FRAME_DIGEST (R178). -/
def execFrameDigest (pipe : Nat) (s : State) : Out :=
  onObject 64 pipe (whenUp s fun s => s.digestNext pipe)

/-- GAP_RECORD_WRITE (R181). -/
def execGapRecordWrite (chain : Nat) (s : State) : Out :=
  onObject 256 chain (whenUp s fun s => s.gapWrite chain)

/-- CHAIN_TAKE_RECORD (R183). -/
def execChainTakeRecord (s : State) : Out :=
  whenUp s fun s => s.takeRecord

/-- LEAF_TIMER_CLOSE (R183). -/
def execLeafTimerClose (chain : Nat) (s : State) : Out :=
  onObject 256 chain (whenUp s fun s => s.leafTimer chain)

/-- SEAL_INSTANT (R189). -/
def execSealInstant (s : State) : Out :=
  whenUp s fun s => s.sealInstant

/-- TALLY_ENABLE (R190). -/
def execTallyEnable (value : Nat) (s : State) : Out :=
  whenUp s fun s => s.hostWrite 0x600000 value

/-- TALLY_DISABLE (R190). -/
def execTallyDisable (value : Nat) (s : State) : Out :=
  whenUp s fun s => s.hostWrite 0x600000 value

/-- FINAL_SEAL_FORM (R190). -/
def execFinalSealForm (s : State) : Out :=
  whenUp s fun s => s.formFinal

/-- SEAL_PERIOD_WRITE (R189). -/
def execSealPeriodWrite (value : Nat) (s : State) : Out :=
  whenUp s fun s => s.hostWrite 0x60000C value

/-- SEAL_SIGN (R193). -/
def execSealSign (s : State) : Out :=
  whenUp s fun s => s.sealSign

/-- SEAL_EXPORT (R194). -/
def execSealExport (s : State) : Out :=
  whenUp s fun s => s.sealExport

/-- MRAM_HEAD_WRITE (R195). -/
def execMramHeadWrite (readBackOk : Bool) (s : State) : Out :=
  whenUp s fun s => s.headWrite readBackOk

/-- TALLY_EXPORT_ENTRY (R187). -/
def execTallyExportEntry (read : ReadOutcome) (s : State) : Out :=
  whenUp s fun s => s.exportEntry read

/-- MRAM_RETIRED_READ (R199). -/
def execMramRetiredRead (s : State) : Out :=
  whenUp s fun s => s.hostRead 0x600028

end Sys2Proof.Machine
end

