-- ==== Sys2Proof/Machine/TimeSteps.lean ====
section
/-! DEFINITION. Steps of the time core and of stamping (chapters 4, 5). -/

namespace Sys2Proof.Machine

/-- TIME_DOM_FREQ_WRITE (R110). -/
def execTimeDomFreqWrite (dom : Nat) (value : Nat) (s : State) : Out :=
  onObject 2 dom (whenUp s fun s => s.hostWrite (0x400004 + 0x80 * dom) value)

/-- TIME_DOM_PHASE_WRITE (R111). -/
def execTimeDomPhaseWrite (dom : Nat) (value : Nat) (s : State) : Out :=
  onObject 2 dom (whenUp s fun s => s.hostWrite (0x400008 + 0x80 * dom) value)

/-- PHASE_SLEW_DONE (R111). -/
def execPhaseSlewDone (dom : Nat) (s : State) : Out :=
  onObject 2 dom (whenUp s fun s => s.phaseDone dom)

/-- LOCK_DECLARE (R116). -/
def execLockDeclare (dom : Nat) (value : Nat) (s : State) : Out :=
  onObject 2 dom (whenUp s fun s => s.hostWrite (0x400000 + 0x80 * dom) value)

/-- SERVO_WATCHDOG_EXPIRY (R114). -/
def execServoWatchdogExpiry (dom : Nat) (s : State) : Out :=
  onObject 2 dom (whenUp s fun s => s.watchdog dom)

/-- DOMAIN_SET_TIME (R118). -/
def execDomainSetTime (dom : Nat) (s : State) : Out :=
  onObject 2 dom (whenUp s fun s => s.hostWrite (0x400014 + 0x80 * dom) 1)

/-- DOMAIN_SET_AT_PPS (R118). -/
def execDomainSetAtPps (dom : Nat) (s : State) : Out :=
  onObject 2 dom (whenUp s fun s => s.hostWrite (0x400014 + 0x80 * dom) 3)

/-- PPS_EDGE (R125). -/
def execPpsEdge (dom : Nat) (s : State) : Out :=
  onObject 2 dom (whenUp s fun s => s.ppsEdge dom)

/-- PPS_MISSING (R125). -/
def execPpsMissing (dom : Nat) (s : State) : Out :=
  onObject 2 dom (whenUp s fun s => s.ppsMissing dom)

/-- PRES_MOVE_DONE (R120). -/
def execPresMoveDone (s : State) : Out :=
  whenUp s fun s => s.moveDone

/-- PRES_REVERT (R124). -/
def execPresRevert (s : State) : Out :=
  whenUp s fun s => s.presRevert

/-- TIME_SNAP (R126). -/
def execTimeSnap (s : State) : Out :=
  whenUp s fun s => s.hostWrite 0x400108 1

/-- AB_DIFF_UPDATE (R127). -/
def execAbDiffUpdate (s : State) : Out :=
  whenUp s fun s => s.abDiff

/-- TPO_ENABLE (R130). -/
def execTpoEnable (out : Nat) (value : Nat) (s : State) : Out :=
  onObject 8 out (whenUp s fun s => s.hostWrite (0x400200 + 0x20 * out) value)

/-- TPO_PULSE_EDGE (R128). -/
def execTpoPulseEdge (out : Nat) (trailing : Bool) (s : State) : Out :=
  onObject 8 out (whenUp s fun s => s.tpoEdge out trailing)

/-- TPI_CAPTURE (R131). -/
def execTpiCapture (inp : Nat) (rising : Bool) (s : State) : Out :=
  onObject 4 inp (whenUp s fun s => s.tpiCapture inp rising)

/-- TPI_POP (R132). -/
def execTpiPop (inp : Nat) (s : State) : Out :=
  onObject 4 inp (whenUp s fun s => s.hostWrite (0x400300 + 0x20 * inp) (s.heldValue (0x400300 + 0x20 * inp) + 2 ^ 8))

/-- CAL_START (R147). -/
def execCalStart (port : Nat) (s : State) : Out :=
  onPort port (whenUp s fun s => s.hostWrite 0x500020 (2 ^ 31 + port))

/-- CAL_DONE (R148). -/
def execCalDone (trained : Bool) (loopErr : Nat) (ing : Nat) (egr : Nat) (s : State) : Out :=
  whenUp s fun s => s.calDone trained loopErr ing egr

/-- CAL_RESULT_READ (R172). -/
def execCalResultRead (s : State) : Out :=
  whenUp s fun s => s.hostRead 0x500024

/-- STAMP_QUEUE_TRANSFER (R152). -/
def execStampQueueTransfer (s : State) : Out :=
  whenUp s fun s => s.stampTransfer

/-- STAMP_ENTRY_WRITE (R155). -/
def execStampEntryWrite (s : State) : Out :=
  whenUp s fun s => s.stampWrite

end Sys2Proof.Machine
end

