-- ==== Sys2Proof/Machine/Dispatch.lean ====
section
/-! DEFINITION. The dispatch: one arm per constructor of Instr, each a direct call of its meaning. -/

namespace Sys2Proof.Machine

def exec (i : Instr) (s : State) : Host.Outcome State Fault Refusal :=
  match i with
  | .resetNAssert => Sys2Proof.Machine.execResetNAssert s
  | .resetNRelease straps => Sys2Proof.Machine.execResetNRelease straps s
  | .strapCompare pins => Sys2Proof.Machine.execStrapCompare pins s
  | .powerLoss => Sys2Proof.Machine.execPowerLoss s
  | .supplyRangeCheck outside => Sys2Proof.Machine.execSupplyRangeCheck outside s
  | .brownOutReset => Sys2Proof.Machine.execBrownOutReset s
  | .tempReading sensors => Sys2Proof.Machine.execTempReading sensors s
  | .coreSpeedMeasurement mt => Sys2Proof.Machine.execCoreSpeedMeasurement mt s
  | .refInputLost loss => Sys2Proof.Machine.execRefInputLost loss s
  | .refInputGood input report => Sys2Proof.Machine.execRefInputGood input report s
  | .registerWrite addr value => Sys2Proof.Machine.execRegisterWrite addr value s
  | .rcRegisterRead addr => Sys2Proof.Machine.execRcRegisterRead addr s
  | .octetModeWrite octet value => Sys2Proof.Machine.execOctetModeWrite octet value s
  | .portEnable port value => Sys2Proof.Machine.execPortEnable port value s
  | .portDisable port value => Sys2Proof.Machine.execPortDisable port value s
  | .linkConditionChange port cond => Sys2Proof.Machine.execLinkConditionChange port cond s
  | .upDebounceExpiry port => Sys2Proof.Machine.execUpDebounceExpiry port s
  | .dnDebounceExpiry port => Sys2Proof.Machine.execDnDebounceExpiry port s
  | .frameStart port sub bytes => Sys2Proof.Machine.execFrameStart port sub bytes s
  | .firstWordCrossing frame => Sys2Proof.Machine.execFirstWordCrossing frame s
  | .classifyPass frame => Sys2Proof.Machine.execClassifyPass frame s
  | .carryPass => Sys2Proof.Machine.execCarryPass s
  | .forwardingLookup frame => Sys2Proof.Machine.execForwardingLookup frame s
  | .learnRelease bank => Sys2Proof.Machine.execLearnRelease bank s
  | .contextFetchDone frame read => Sys2Proof.Machine.execContextFetchDone frame read s
  | .admission frame => Sys2Proof.Machine.execAdmission frame s
  | .frameEnd frame fcs codeErr => Sys2Proof.Machine.execFrameEnd frame fcs codeErr s
  | .frameTruncate frame => Sys2Proof.Machine.execFrameTruncate frame s
  | .pauseFrameReceived port quanta dstOk => Sys2Proof.Machine.execPauseFrameReceived port quanta dstOk s
  | .pfcFrameReceived port enable quanta dstOk => Sys2Proof.Machine.execPfcFrameReceived port enable quanta dstOk s
  | .pauseTimerExpiry port priority => Sys2Proof.Machine.execPauseTimerExpiry port priority s
  | .pauseRefresh port priority => Sys2Proof.Machine.execPauseRefresh port priority s
  | .cntRead cmd => Sys2Proof.Machine.execCntRead cmd s
  | .cntClear cmd => Sys2Proof.Machine.execCntClear cmd s
  | .timeDomFreqWrite dom value => Sys2Proof.Machine.execTimeDomFreqWrite dom value s
  | .timeDomPhaseWrite dom value => Sys2Proof.Machine.execTimeDomPhaseWrite dom value s
  | .phaseSlewDone dom => Sys2Proof.Machine.execPhaseSlewDone dom s
  | .lockDeclare dom value => Sys2Proof.Machine.execLockDeclare dom value s
  | .servoWatchdogExpiry dom => Sys2Proof.Machine.execServoWatchdogExpiry dom s
  | .domainSetTime dom => Sys2Proof.Machine.execDomainSetTime dom s
  | .domainSetAtPps dom => Sys2Proof.Machine.execDomainSetAtPps dom s
  | .ppsEdge dom => Sys2Proof.Machine.execPpsEdge dom s
  | .ppsMissing dom => Sys2Proof.Machine.execPpsMissing dom s
  | .presMoveDone => Sys2Proof.Machine.execPresMoveDone s
  | .presRevert => Sys2Proof.Machine.execPresRevert s
  | .timeSnap => Sys2Proof.Machine.execTimeSnap s
  | .abDiffUpdate => Sys2Proof.Machine.execAbDiffUpdate s
  | .tpoEnable out value => Sys2Proof.Machine.execTpoEnable out value s
  | .tpoPulseEdge out trailing => Sys2Proof.Machine.execTpoPulseEdge out trailing s
  | .tpiCapture inp rising => Sys2Proof.Machine.execTpiCapture inp rising s
  | .tpiPop inp => Sys2Proof.Machine.execTpiPop inp s
  | .calStart port => Sys2Proof.Machine.execCalStart port s
  | .calDone trained loopErr ing egr => Sys2Proof.Machine.execCalDone trained loopErr ing egr s
  | .calResultRead => Sys2Proof.Machine.execCalResultRead s
  | .stampQueueTransfer => Sys2Proof.Machine.execStampQueueTransfer s
  | .stampEntryWrite => Sys2Proof.Machine.execStampEntryWrite s
  | .llRelease port => Sys2Proof.Machine.execLlRelease port s
  | .copyLink copy => Sys2Proof.Machine.execCopyLink copy s
  | .replicatorOffer pipe places => Sys2Proof.Machine.execReplicatorOffer pipe places s
  | .residueLink queue => Sys2Proof.Machine.execResidueLink queue s
  | .schedulerPick port => Sys2Proof.Machine.execSchedulerPick port s
  | .transmitStart port sub => Sys2Proof.Machine.execTransmitStart port sub s
  | .transmitEnd port => Sys2Proof.Machine.execTransmitEnd port s
  | .frameDigest pipe => Sys2Proof.Machine.execFrameDigest pipe s
  | .gapRecordWrite chain => Sys2Proof.Machine.execGapRecordWrite chain s
  | .chainTakeRecord => Sys2Proof.Machine.execChainTakeRecord s
  | .leafTimerClose chain => Sys2Proof.Machine.execLeafTimerClose chain s
  | .sealInstant => Sys2Proof.Machine.execSealInstant s
  | .tallyEnable value => Sys2Proof.Machine.execTallyEnable value s
  | .tallyDisable value => Sys2Proof.Machine.execTallyDisable value s
  | .finalSealForm => Sys2Proof.Machine.execFinalSealForm s
  | .sealPeriodWrite value => Sys2Proof.Machine.execSealPeriodWrite value s
  | .sealSign => Sys2Proof.Machine.execSealSign s
  | .sealExport => Sys2Proof.Machine.execSealExport s
  | .mramHeadWrite readBackOk => Sys2Proof.Machine.execMramHeadWrite readBackOk s
  | .tallyExportEntry read => Sys2Proof.Machine.execTallyExportEntry read s
  | .mramRetiredRead => Sys2Proof.Machine.execMramRetiredRead s
  | .profileValidWrite profile value => Sys2Proof.Machine.execProfileValidWrite profile value s
  | .profileDrained profile => Sys2Proof.Machine.execProfileDrained profile s
  | .nop cmd => Sys2Proof.Machine.execNop cmd s
  | .ruleStage cmd => Sys2Proof.Machine.execRuleStage cmd s
  | .ruleDiscard cmd => Sys2Proof.Machine.execRuleDiscard cmd s
  | .ruleCommit cmd => Sys2Proof.Machine.execRuleCommit cmd s
  | .ruleRead cmd => Sys2Proof.Machine.execRuleRead cmd s
  | .ruleRangeSet cmd => Sys2Proof.Machine.execRuleRangeSet cmd s
  | .tagDrained tag => Sys2Proof.Machine.execTagDrained tag s
  | .drainStuck tag => Sys2Proof.Machine.execDrainStuck tag s
  | .fdbInsert cmd => Sys2Proof.Machine.execFdbInsert cmd s
  | .fdbDelete cmd => Sys2Proof.Machine.execFdbDelete cmd s
  | .fdbAgeDelete cmd => Sys2Proof.Machine.execFdbAgeDelete cmd s
  | .fdbSearch cmd => Sys2Proof.Machine.execFdbSearch cmd s
  | .fdbNext cmd => Sys2Proof.Machine.execFdbNext cmd s
  | .fdbFlush cmd => Sys2Proof.Machine.execFdbFlush cmd s
  | .lpmInsert cmd => Sys2Proof.Machine.execLpmInsert cmd s
  | .lpmDelete cmd => Sys2Proof.Machine.execLpmDelete cmd s
  | .lpmSearch cmd => Sys2Proof.Machine.execLpmSearch cmd s
  | .lpmMatch cmd => Sys2Proof.Machine.execLpmMatch cmd s
  | .lpmNext cmd => Sys2Proof.Machine.execLpmNext cmd s
  | .lpmFlush cmd => Sys2Proof.Machine.execLpmFlush cmd s
  | .lpmBackgroundMove group => Sys2Proof.Machine.execLpmBackgroundMove group s
  | .flowOpen cmd => Sys2Proof.Machine.execFlowOpen cmd s
  | .flowModify cmd => Sys2Proof.Machine.execFlowModify cmd s
  | .flowRead cmd => Sys2Proof.Machine.execFlowRead cmd s
  | .flowClear cmd => Sys2Proof.Machine.execFlowClear cmd s
  | .flowClose cmd => Sys2Proof.Machine.execFlowClose cmd s
  | .flowNext cmd => Sys2Proof.Machine.execFlowNext cmd s
  | .furtherBeadRequest frame => Sys2Proof.Machine.execFurtherBeadRequest frame s
  | .allocatorHandshake pool requests frees => Sys2Proof.Machine.execAllocatorHandshake pool requests frees s
  | .beadDecrement bead account agent => Sys2Proof.Machine.execBeadDecrement bead account agent s
  | .bufWithdraw cmd => Sys2Proof.Machine.execBufWithdraw cmd s
  | .withdrawTimeout => Sys2Proof.Machine.execWithdrawTimeout s
  | .bufRestore cmd => Sys2Proof.Machine.execBufRestore cmd s
  | .spillWrite queue => Sys2Proof.Machine.execSpillWrite queue s
  | .spillReturn queue read => Sys2Proof.Machine.execSpillReturn queue read s
  | .mcastSet cmd => Sys2Proof.Machine.execMcastSet cmd s
  | .mcastRead cmd => Sys2Proof.Machine.execMcastRead cmd s
  | .portFlush port => Sys2Proof.Machine.execPortFlush port s
  | .holdDownExpiry port => Sys2Proof.Machine.execHoldDownExpiry port s
  | .stuckInspection => Sys2Proof.Machine.execStuckInspection s
  | .stuckReclaim queue => Sys2Proof.Machine.execStuckReclaim queue s
  | .policerHandshake policer => Sys2Proof.Machine.execPolicerHandshake policer s
  | .tmPolicerSet cmd => Sys2Proof.Machine.execTmPolicerSet cmd s
  | .tmPolicerRead cmd => Sys2Proof.Machine.execTmPolicerRead cmd s
  | .tmShaperSet cmd => Sys2Proof.Machine.execTmShaperSet cmd s
  | .tmShaperRead cmd => Sys2Proof.Machine.execTmShaperRead cmd s
  | .tmGclWrite cmd => Sys2Proof.Machine.execTmGclWrite cmd s
  | .tmGclCommit cmd => Sys2Proof.Machine.execTmGclCommit cmd s
  | .tmGclCancel cmd => Sys2Proof.Machine.execTmGclCancel cmd s
  | .tmGclRead cmd => Sys2Proof.Machine.execTmGclRead cmd s
  | .gateListStart port => Sys2Proof.Machine.execGateListStart port s
  | .gateEntryChange port => Sys2Proof.Machine.execGateEntryChange port s
  | .dramScrubRead granule read => Sys2Proof.Machine.execDramScrubRead granule read s
  | .caParityAlert pc alert => Sys2Proof.Machine.execCaParityAlert pc alert s
  | .dramRequestTimeout pc => Sys2Proof.Machine.execDramRequestTimeout pc s
  | .writeAgeDrain pc => Sys2Proof.Machine.execWriteAgeDrain pc s
  | .refresh stack => Sys2Proof.Machine.execRefresh stack s
  | .dramTempRead temps trip => Sys2Proof.Machine.execDramTempRead temps trip s
  | .rowGuardRefresh bank row => Sys2Proof.Machine.execRowGuardRefresh bank row s
  | .stackPark stack => Sys2Proof.Machine.execStackPark stack s
  | .stackWake stack => Sys2Proof.Machine.execStackWake stack s
  | .sidIdle stack sid => Sys2Proof.Machine.execSidIdle stack sid s
  | .dramServiceWrite value => Sys2Proof.Machine.execDramServiceWrite value s
  | .dramTrainStart => Sys2Proof.Machine.execDramTrainStart s
  | .dramTraining pc failedLanes ok => Sys2Proof.Machine.execDramTraining pc failedLanes ok s
  | .dramTrainRead => Sys2Proof.Machine.execDramTrainRead s
  | .dramRecal pc => Sys2Proof.Machine.execDramRecal pc s
  | .linkTraining ok => Sys2Proof.Machine.execLinkTraining ok s
  | .linkTrainingDone repaired => Sys2Proof.Machine.execLinkTrainingDone repaired s
  | .linkTrainRestart => Sys2Proof.Machine.execLinkTrainRestart s
  | .linkRetrain retries phyError => Sys2Proof.Machine.execLinkRetrain retries phyError s
  | .cfgRd msg => Sys2Proof.Machine.execCfgRd msg s
  | .cfgWr msg => Sys2Proof.Machine.execCfgWr msg s
  | .dbWr msg => Sys2Proof.Machine.execDbWr msg s
  | .reply msg => Sys2Proof.Machine.execReply msg s
  | .credit msg => Sys2Proof.Machine.execCredit msg s
  | .memRdTimeout tag => Sys2Proof.Machine.execMemRdTimeout tag s
  | .hostLost => Sys2Proof.Machine.execHostLost s
  | .warmReset => Sys2Proof.Machine.execWarmReset s
  | .descriptorTake => Sys2Proof.Machine.execDescriptorTake s
  | .injectDescriptor ring => Sys2Proof.Machine.execInjectDescriptor ring s
  | .indexBlockWrite ring => Sys2Proof.Machine.execIndexBlockWrite ring s
  | .ringEnable ring value => Sys2Proof.Machine.execRingEnable ring value s
  | .ringResume ring => Sys2Proof.Machine.execRingResume ring s
  | .puntWrite frame => Sys2Proof.Machine.execPuntWrite frame s
  | .counterSweep reads => Sys2Proof.Machine.execCounterSweep reads s
  | .collectorScan block => Sys2Proof.Machine.execCollectorScan block s
  | .eventEntryWrite => Sys2Proof.Machine.execEventEntryWrite s
  | .evtMaskWrite word value => Sys2Proof.Machine.execEvtMaskWrite word value s
  | .keepaliveExpiry => Sys2Proof.Machine.execKeepaliveExpiry s
  | .keepaliveWrite value => Sys2Proof.Machine.execKeepaliveWrite value s
  | .funcReset value => Sys2Proof.Machine.execFuncReset value s
  | .funcResetDone func ok => Sys2Proof.Machine.execFuncResetDone func ok s
  | .patchLoad value => Sys2Proof.Machine.execPatchLoad value s
  | .patchCheckDone => Sys2Proof.Machine.execPatchCheckDone s
  | .routineStart => Sys2Proof.Machine.execRoutineStart s
  | .routineCheckpoint engine => Sys2Proof.Machine.execRoutineCheckpoint engine s
  | .engineHalt engine => Sys2Proof.Machine.execEngineHalt engine s
  | .bootStage romOk fuseOk identityOk => Sys2Proof.Machine.execBootStage romOk fuseOk identityOk s
  | .secAttest cmd => Sys2Proof.Machine.execSecAttest cmd s
  | .bundleLoad value => Sys2Proof.Machine.execBundleLoad value s
  | .bundleDone => Sys2Proof.Machine.execBundleDone s
  | .debugTokenLoad value => Sys2Proof.Machine.execDebugTokenLoad value s
  | .claim => Sys2Proof.Machine.execClaim s
  | .yieldRole => Sys2Proof.Machine.execYieldRole s
  | .holdInChange level => Sys2Proof.Machine.execHoldInChange level s
  | .transmitEnable => Sys2Proof.Machine.execTransmitEnable s
  | .yieldRelease => Sys2Proof.Machine.execYieldRelease s
  | .holdFaultDetect => Sys2Proof.Machine.execHoldFaultDetect s
  | .stateRecordReceive frame fcsOk => Sys2Proof.Machine.execStateRecordReceive frame fcsOk s
  | .stateResend => Sys2Proof.Machine.execStateResend s
  | .heartbeatSend => Sys2Proof.Machine.execHeartbeatSend s
  | .heartbeatReceive frame fcsOk => Sys2Proof.Machine.execHeartbeatReceive frame fcsOk s
  | .heartbeatLoss => Sys2Proof.Machine.execHeartbeatLoss s
  | .digestSend => Sys2Proof.Machine.execDigestSend s
  | .windowCompare window peer => Sys2Proof.Machine.execWindowCompare window peer s
  | .peerReleaseTakeover => Sys2Proof.Machine.execPeerReleaseTakeover s
  | .takeoverLapse => Sys2Proof.Machine.execTakeoverLapse s
  | .tallyFollowTimeout => Sys2Proof.Machine.execTallyFollowTimeout s
  | .pairResync cmd => Sys2Proof.Machine.execPairResync cmd s
  | .resyncComplete => Sys2Proof.Machine.execResyncComplete s
  | .spanCtrlWrite value => Sys2Proof.Machine.execSpanCtrlWrite value s
  | .spanControlSend port => Sys2Proof.Machine.execSpanControlSend port s
  | .spanControlReceive port frame fcsOk => Sys2Proof.Machine.execSpanControlReceive port frame fcsOk s
  | .spanDataReceive port frame fcsOk => Sys2Proof.Machine.execSpanDataReceive port frame fcsOk s
  | .dramTrainingRequest => Sys2Proof.Machine.execDramTrainingRequest s
  | .startReady => Sys2Proof.Machine.execStartReady s
  | .startLate => Sys2Proof.Machine.execStartLate s
  | .tableScrubRead target => Sys2Proof.Machine.execTableScrubRead target s
  | .bistStart value => Sys2Proof.Machine.execBistStart value s
  | .bistDone failing => Sys2Proof.Machine.execBistDone failing s
  | .obsWrite word value => Sys2Proof.Machine.execObsWrite word value s
  | .jtagInstruction opcode => Sys2Proof.Machine.execJtagInstruction opcode s
  | .tapReset => Sys2Proof.Machine.execTapReset s
  | .handoffReceive frame fcsOk => Sys2Proof.Machine.execHandoffReceive frame fcsOk s
  | .readIdleDrain pc => Sys2Proof.Machine.execReadIdleDrain pc s
  | .reservedTypeMessage msg => Sys2Proof.Machine.execReservedTypeMessage msg s

end Sys2Proof.Machine
end

