-- ==== Sys2Proof/Machine/Step.lean ====
section
/-! DEFINITION. One step of the block: the command at the front of the queue, or one clock cycle when none waits. -/

namespace Sys2Proof.Machine

/-- One step: the first waiting command runs on the state with the queue's rest; with no command waiting, one 1.5 GHz cycle
passes. (DESIGN CHOICE, log 1; DESIGN CHOICE, log 74; DESIGN CHOICE, log 78.) -/
def step (s : State) : Host.Outcome State Fault Refusal :=
  match s.pending with
  | c :: rest => exec c { s with pending := rest }
  | [] => finish s.tick

/-- The state with the command that a word spells at the front of its queue; no word spells one. (DESIGN CHOICE, log 74.) -/
def State.withFetchWord (s : State) (nbits w : Nat) : State :=
  match decodeTableWord nbits w with
  | some c => { s with pending := c :: s.pending }
  | none => s

end Sys2Proof.Machine
end

