-- ==== Sys2Proof/Safety.lean ====
section
/-! DEFINITION. What counts as a safe run, in the terms in which claims are stated. -/

namespace Sys2Proof.Machine

/-- The output pins are those that the rest of the state calls for. -/
def State.pinsFollow (s : State) : Prop := s.pins = s.pinsOf

/-- Every transmitter, front and mirror, is in electrical idle. -/
def State.silent (s : State) : Prop := s.pins.frontIdle = true ∧ s.pins.mirrorIdle = true

/-- A step is safe: it answers a next state whose pins follow it. -/
def safeStep (o : Out) : Prop := ∃ t, o = .next t ∧ t.pinsFollow

/-- The FDB is in order: its places are listed once, in rising order, and an entry stands only in one of the sixteen places of
its two candidate buckets (R246, R247). -/
def State.fdbInOrder (s : State) : Prop :=
  mapSorted s.fdb.entries = true ∧ ∀ x ∈ s.fdb.entries, x.1 ∈ fdbPlaces x.2.vlan x.2.mac

/-! ### Frames -/

/-- The parts of the state beside the register fields and the pins. -/
inductive Part where
  | pending | cycle | answer | die | time | stamp | ports | counters | events | reck | path | rules | fdb | lpm | flow
  | mcast | buf | tm | tally | host | dram | sec | pair | span | plat
  deriving DecidableEq, Repr

/-- A part is the same in two states. -/
def Part.same (s t : State) : Part → Prop
  | .pending => t.pending = s.pending
  | .cycle => t.cycle = s.cycle
  | .answer => t.lastStatus = s.lastStatus ∧ t.lastData = s.lastData
  | .die => t.die = s.die
  | .time => t.time = s.time
  | .stamp => t.stamp = s.stamp
  | .ports => t.ports = s.ports
  | .counters => t.counters = s.counters
  | .events => t.events = s.events
  | .reck => t.reck = s.reck
  | .path => t.path = s.path
  | .rules => t.rules = s.rules
  | .fdb => t.fdb = s.fdb
  | .lpm => t.lpm = s.lpm
  | .flow => t.flow = s.flow
  | .mcast => t.mcast = s.mcast
  | .buf => t.buf = s.buf
  | .tm => t.tm = s.tm
  | .tally => t.tally = s.tally
  | .host => t.host = s.host
  | .dram => t.dram = s.dram
  | .sec => t.sec = s.sec
  | .pair => t.pair = s.pair
  | .span => t.span = s.span
  | .plat => t.plat = s.plat

/-- A set of register fields by their keys. -/
abbrev Keys := Nat → Prop

/-- The keys of a list of fields. -/
def keysOf (l : List Fld) : Keys := fun k => k ∈ l.map Fld.key

/-- The keys of every field whose byte address satisfies a test. -/
def keysAt (p : Nat → Bool) : Keys := fun k => p (k / 32) = true

/-- The keys of every field of the pages named (R575). -/
def keysIn (pages : List Nat) : Keys := fun k => k / 32 / 0x100000 ∈ pages

/-- The keys of every field of the registers named, at any index. -/
def regsOf (l : List String) : Keys :=
  fun k => ∃ p i j, ∃ f ∈ famsOfPage p, f.name ∈ l ∧ ∃ e ∈ f.fields i j, k = Fld.key e.2

/-- From `s` to `t` nothing changed but the pins, the parts named and the register fields named. -/
def State.only (s t : State) (parts : List Part) (moved : Keys) : Prop :=
  (∀ p, p ∉ parts → p.same s t) ∧ ∀ f : Fld, ¬ moved (Fld.key f) → t.get f = s.get f

/-- A time group of four words holds a stamp (Tables 4-1 and 4-6): the fields FLAGS, FRACTION, NANOSECONDS, SEC_LO, SEC_HI. -/
def State.groupIs (s : State) (fl fr ns lo hi : Fld) (st : Nat) : Prop :=
  s.get fl = st % 2 ^ 16 ∧ s.get fr = bits st 16 16 ∧ s.get ns = bits st 32 32 ∧ s.get lo = bits st 64 32 ∧ s.get hi = bits st 96 32

/-! ### When the host can reach the registers and the rings -/

/-- The die runs, boot is done, neither the lifecycle nor TEST_EN turns the host away (R47, R492, R494, R495), and no warm
reset is under way. -/
def State.served (s : State) : Prop :=
  s.running = true ∧ s.testMode = false ∧ s.get Reg.SEC_LIFECYCLE_STATE ≠ 0 ∧ s.get Reg.SEC_BOOT_STATE = 1 ∧
  s.get Reg.SYS_CTRL_WARM_RESET = 0

/-- A command of a command ring is not turned away (R436, R438, R465, R494, R519, R557), and its turn has come (R211, R227, R288). -/
def State.accepts (s : State) (op : Nat) (c : CmdIn) : Prop :=
  s.running = true ∧ 16 ≤ c.ring ∧ c.ring < 32 ∧ s.myTurn op c = true ∧ ∃ o, opInfo op = some o ∧ s.cmdGate op o c = none

/-- The same of a command that a routine carries: the routine has an engine, or takes one now (R482, R485). -/
def State.acceptsLong (s : State) (op : Nat) (c : CmdIn) : Prop :=
  s.running = true ∧ 16 ≤ c.ring ∧ c.ring < 32 ∧ ∃ o, opInfo op = some o ∧ s.cmdGate op o c = none ∧ s.mayAct op o c false = true

/-- The fields that the completion of a command moves: the device index of the completion ring and the STOPPED bit of
the command's ring (R431, R452). -/
def completionKeys (s : State) (c : CmdIn) : Keys :=
  keysOf [Reg.RING_DEV_INDEX_DEV_INDEX (s.get (Reg.RING_CFG_CQ c.ring)), Reg.RING_CFG_STOPPED c.ring]

/-- The latest completion is that of a command with a result (Table 16-4). -/
def State.completed (s : State) (op : Nat) (c : CmdIn) (r : CmdRes) : Prop :=
  (∃ a, s.host.completion = completionBytes a op c r) ∧ s.host.output = if r.st = .ok then r.out else []

/-- A command of a command ring answers a next state: it completes with a result, has an effect, and moves nothing beside
the parts and fields named but what its completion moves. -/
def State.ends (s : State) (i : Instr) (op : Nat) (c : CmdIn) (r : CmdRes) (parts : List Part) (moved : Keys)
    (effect : State → Prop) : Prop :=
  ∃ t, exec i s = .next t ∧ t.completed op c r ∧ effect t ∧
    s.only t (parts ++ [.host, .events]) fun k => moved k ∨ completionKeys s c k

/-- A command of a command ring completes with a result and moves nothing but what its completion moves. -/
def State.answers (s : State) (i : Instr) (op : Nat) (c : CmdIn) (r : CmdRes) : Prop :=
  s.ends i op c r [] (keysOf []) fun _ => True

/-- The host's write of a register answers OK with an effect, and moves nothing beside the parts and fields named and the
answer. -/
def State.takes (s : State) (i : Instr) (parts : List Part) (moved : Keys) (effect : State → Prop) : Prop :=
  ∃ t, exec i s = .next t ∧ t.lastStatus = .ok ∧ effect t ∧ s.only t (.answer :: parts) moved

/-- The host's write of a register is answered with a refusal and changes nothing but the answer. -/
def State.turnsAway (s : State) (i : Instr) (st : Status) : Prop :=
  ∃ t, exec i s = .next t ∧ t.lastStatus = st ∧ s.only t [.answer] (keysOf [])

/-- A frame has been dropped: it holds no bead, or it is forgotten, and the beads of the list are free. -/
def State.dropped (t : State) (f : Nat) (beads : List Nat) : Prop :=
  (∀ y, t.frame f = some y → y.stage = .dropped ∧ y.beads = []) ∧ ∀ b ∈ beads, mapFind t.buf.beads b = none

/-- A running die went into reset: its transmitters idle, HOLD_OUT is low, the captured straps stay, the fuses stay unless a bundle is
being burned (R503), the MRAM stays where no seal head is under way, and all else is as after power-on (R61, R573). -/
def State.fellTo (s t : State) (mode : DieMode) (cause : Nat) : Prop :=
  t.die.mode = mode ∧ t.die.cause = cause ∧ t.die.straps = s.die.straps ∧ t.silent ∧ t.pins.holdOut = false ∧
  t.pins.thermtripN = (mode != .tripped) ∧ (s.sec.ops = [] → t.sec.fuses = s.sec.fuses) ∧
  (s.tally.seals = [] → s.tally.waits = [] → t.tally.heads = s.tally.heads ∧ t.tally.retired = s.tally.retired) ∧
  State.reset.only t [.pending, .die, .tally, .host, .sec, .pair, .span, .plat]
    (regsOf ["SYS_STRAP", "SYS_RESET_CAUSE", "TALLY_MRAM_RETIRED", "SEC_LIFECYCLE", "SEC_DEVICE_ID_LO", "SEC_DEVICE_ID_HI", "PAIR_STATUS"])

/-- The monitor of an input meets a criterion of R48: no edge for 1 µs, or a frequency outside the window in force. -/
def State.failsWindow (s : State) (i : RefInput) (x : RefFault) : Prop :=
  (∃ ns, x = .noEdge ns ∧ 1000 ≤ ns) ∨ ∃ ppb, x = .offRange ppb ∧ s.refWindow i < ppb

/-- An input has been within its range for 1 ms since it was lost (R48). -/
def State.backInRange (s : State) (i : RefInput) (rate : Int) (us : Nat) : Prop :=
  1000 ≤ us ∧ -refRange i ≤ rate ∧ rate ≤ refRange i ∧ ∀ c, mapFind s.die.lostAt (refNumber i) = some c → c + msCycles ≤ s.cycle

/-- A count that saturates has gone up by one. -/
def State.counted (s t : State) (f : Fld) : Prop := t.get f = min (2 ^ f.width - 1) (s.get f + 1)

end Sys2Proof.Machine
end

