-- ==== Sys2Proof/WellFormed.lean ====
section
/-! DEFINITION. The commands that can reach the device: object numbers within Table 0-5, written values and addresses within
the widths of Table 0-4, commands and messages with fields that fit Tables 15-3 and 16-3. -/

namespace Sys2Proof

/-- A command of a command ring, 16 to 31, whose fields fit Table 16-3. -/
def CmdIn.wf (c : CmdIn) : Bool :=
  16 ≤ c.ring && c.ring < 32 && c.descIndex < 2 ^ 32 && c.flags < 2 ^ 16 && c.seq < 2 ^ 32 && c.param < 2 ^ 32 &&
  c.outAddr < 2 ^ 64 && c.input.length ≤ 2048

/-- A message of the host: whole slots behind a header slot within a flit (R407, R408). -/
def HostIn.wf (m : HostIn) : Bool := m.slot < 15 && 16 ≤ m.bytes.length && m.bytes.length % 16 == 0 && m.bytes.length ≤ 240 &&
  (match m.fabricError with | some i => i < 16 | none => true)

/-- A reference input of the board. -/
def RefInput.wf : RefInput → Bool
  | .lgref g => g < 32
  | _ => true

/-- What a read of at most `n` bursts meets: at most 3 repeats (R384), and an error in one of the bursts. -/
def ReadOutcome.wf (n : Nat) (o : ReadOutcome) : Bool := o.repeats ≤ 3 && o.burst < n

/-- A 32-bit register value (R10). -/
def word32 (v : Nat) : Bool := v < 2 ^ 32

/-- A requester and an owner of bead requests (R301). -/
def BeadRequest.wf (r : BeadRequest) : Bool := r.requester < 65 && r.owner < 1025

/-- The lowest failing bead of a block of 4,096 (R568). -/
def failingWf : Option Nat → Bool
  | some b => b < 4096
  | none => true

/-- A command can reach the device. -/
def Instr.wf : Instr → Bool
  | .tempReading l => l.length == 40
  | .refInputLost l => l.input.wf
  | .refInputGood i _ => i.wf
  | .registerWrite a v => a < 2 ^ 26 && a % 4 == 0 && word32 v
  | .rcRegisterRead a => a < 2 ^ 26 && a % 4 == 0
  | .octetModeWrite o v => o < 128 && word32 v
  | .portEnable p v => p < 1024 && word32 v && v % 2 == 1
  | .portDisable p v => p < 1024 && word32 v && v % 2 == 0
  | .linkConditionChange p _ => p < 1025
  | .upDebounceExpiry p | .dnDebounceExpiry p => p < 1024
  | .frameStart p sub _ => p < 1024 && sub < 64
  | .learnRelease bank => bank < 16
  | .pauseFrameReceived p q _ => p < 1024 && q < 2 ^ 16
  | .pfcFrameReceived p e q _ => p < 1024 && e < 256 && q.length == 8 && q.all (· < 2 ^ 16)
  | .pauseTimerExpiry p prio | .pauseRefresh p prio => p < 1024 && prio < 9
  | .cntRead c | .cntClear c => c.wf
  | .timeDomFreqWrite d v | .timeDomPhaseWrite d v | .lockDeclare d v => d < 2 && word32 v
  | .phaseSlewDone d | .servoWatchdogExpiry d | .domainSetTime d | .domainSetAtPps d | .ppsEdge d | .ppsMissing d => d < 2
  | .tpoEnable o v => o < 8 && word32 v
  | .tpoPulseEdge o _ => o < 8
  | .tpiCapture i _ => i < 4
  | .tpiPop i => i < 4
  | .calStart p => p < 1024
  | .llRelease p | .schedulerPick p | .transmitEnd p => p < 1024
  | .transmitStart p sub => p < 1024 && sub < 64
  | .replicatorOffer pipe _ => pipe < 65
  | .residueLink q => q < 16384
  | .frameDigest pipe => pipe < 64
  | .gapRecordWrite c | .leafTimerClose c => c < 256
  | .tallyEnable v => word32 v && v % 2 == 1
  | .tallyDisable v => word32 v && v % 2 == 0
  | .sealPeriodWrite v => word32 v
  | .profileValidWrite n v => n < 64 && word32 v
  | .profileDrained n => n < 64
  | .nop c | .ruleStage c | .ruleDiscard c | .ruleCommit c | .ruleRead c | .ruleRangeSet c => c.wf
  | .tagDrained t | .drainStuck t => t < 4
  | .fdbInsert c | .fdbDelete c | .fdbAgeDelete c | .fdbSearch c | .fdbNext c | .fdbFlush c => c.wf
  | .lpmInsert c | .lpmDelete c | .lpmSearch c | .lpmMatch c | .lpmNext c | .lpmFlush c => c.wf
  | .lpmBackgroundMove g => g < 162
  | .flowOpen c | .flowModify c | .flowRead c | .flowClear c | .flowClose c | .flowNext c => c.wf
  | .allocatorHandshake pool r _ => pool < 16 && r.all BeadRequest.wf
  | .beadDecrement b _ _ => b < 524288
  | .bufWithdraw c | .bufRestore c | .mcastSet c | .mcastRead c => c.wf
  | .spillWrite q | .stuckReclaim q => q < 16384
  | .spillReturn q o => q < 16384 && o.outcome.wf 512
  | .portFlush p | .holdDownExpiry p => p < 1024
  | .policerHandshake n => n < 65536
  | .tmPolicerSet c | .tmPolicerRead c | .tmShaperSet c | .tmShaperRead c => c.wf
  | .tmGclWrite c | .tmGclCommit c | .tmGclCancel c | .tmGclRead c => c.wf
  | .gateListStart p | .gateEntryChange p => p < 1024
  | .dramScrubRead g o => g < 0xC000000 && o.wf 8
  | .caParityAlert pc a => pc < 64 && a.reissue ≤ 32
  | .dramTraining pc n _ => pc < 64 && n ≤ 64
  | .dramRequestTimeout pc | .writeAgeDrain pc | .dramRecal pc | .readIdleDrain pc => pc < 64
  | .refresh k | .stackPark k | .stackWake k => k < 2
  | .rowGuardRefresh b r => b < 3072 && r < 16384
  | .sidIdle k sid => k < 2 && sid < 3
  | .dramServiceWrite v => word32 v
  | .cfgRd m | .cfgWr m | .dbWr m | .reply m | .credit m | .reservedTypeMessage m => m.wf
  | .memRdTimeout t => t < 1024
  | .injectDescriptor r => 48 ≤ r && r < 61
  | .indexBlockWrite r | .ringResume r => r < 64
  | .ringEnable r v => r < 64 && word32 v
  | .counterSweep l => l.all fun e => e.1 < 1024 && e.2.wf 2
  | .tallyExportEntry o => o.wf 2
  | .contextFetchDone _ r => r.tag0.wf 1 && r.tag1.wf 1 && r.place.wf 4
  | .dramTempRead x _ => x.stack0 < 256 && x.stack1 < 256
  | .collectorScan b => b < 13
  | .evtMaskWrite w v => w < 128 && word32 v
  | .keepaliveWrite v | .funcReset v | .patchLoad v | .bundleLoad v | .debugTokenLoad v => word32 v
  | .funcResetDone f _ => f < 12
  | .routineCheckpoint e | .engineHalt e => e < 8
  | .secAttest c | .pairResync c => c.wf
  | .spanCtrlWrite v | .bistStart v => word32 v
  | .spanControlSend p | .spanControlReceive p _ _ | .spanDataReceive p _ _ => p < 1024
  | .bistDone b => failingWf b
  | .obsWrite w v => w < 262144 && word32 v
  | .jtagInstruction op => op < 256
  | .resetNAssert | .resetNRelease _ | .strapCompare _ | .powerLoss | .supplyRangeCheck _ | .brownOutReset => true
  | .coreSpeedMeasurement _ => true
  | .firstWordCrossing _ | .classifyPass _ | .carryPass | .forwardingLookup _ | .admission _ => true
  | .frameEnd _ _ _ | .frameTruncate _ | .furtherBeadRequest _ | .copyLink _ | .puntWrite _ => true
  | .presMoveDone | .presRevert | .timeSnap | .abDiffUpdate | .calDone _ _ _ _ | .calResultRead => true
  | .stampQueueTransfer | .stampEntryWrite | .chainTakeRecord | .sealInstant | .finalSealForm | .sealSign | .sealExport => true
  | .mramHeadWrite _ | .mramRetiredRead | .withdrawTimeout | .stuckInspection => true
  | .dramTrainStart | .dramTrainRead | .dramTrainingRequest => true
  | .linkTraining _ | .linkTrainingDone _ | .linkTrainRestart | .linkRetrain _ _ | .hostLost | .warmReset | .descriptorTake => true
  | .eventEntryWrite | .keepaliveExpiry | .patchCheckDone | .routineStart | .bootStage _ _ _ | .bundleDone => true
  | .claim | .yieldRole | .holdInChange _ | .transmitEnable | .yieldRelease | .holdFaultDetect => true
  | .stateRecordReceive _ _ | .stateResend | .heartbeatSend | .heartbeatReceive _ _ | .heartbeatLoss | .digestSend => true
  | .windowCompare _ _ | .peerReleaseTakeover | .takeoverLapse | .tallyFollowTimeout | .resyncComplete => true
  | .startReady | .startLate | .tableScrubRead _ | .tapReset | .handoffReceive _ _ => true

end Sys2Proof
end

