-- ==== Sys2Proof/Certificates/Slice0/Obligations.lean ====
section
/-! DEFINITION. The statements of this model for the provers. Each docstring says which rules of the spec it rests on. -/

open Sys2Proof Sys2Proof.Machine

/-! ### The block as a whole -/

/-- A step of the block runs the command at the front of its queue on the state with the queue's rest.
Log entry 74: the model's choice or reading. -/
def Obligations.StepRunsTheFrontCommand : Prop :=
  ∀ (c : Instr) (rest : List Instr) (s : State), s.pending = c :: rest → step s = exec c { s with pending := rest }

/-- With no command waiting a step of the running die is one clock cycle (the model's choice, log entry 1): the cycle count
advances by one, the two domains and presentation time move on as R111 and Table 4-3 say, after the end of the cycle has settled
what its events left to be settled (log entry 82): presentation time's mode (R122), stamps that found no place (R153) and a block
whose last bead is free (R316). Nothing else changes but the edge counters of the observation pins and the pins. While the die
does not run, nothing but the pins moves.
Log entry 1: the model's choice or reading. -/
def Obligations.IdleStepIsOneClockCycle : Prop :=
  ∀ s : State, s.pending = [] →
    (s.running = true → ∃ t, step s = .next t ∧ t.cycle = s.cycle + 1 ∧ t.time.domA = s.domNext 0 ∧ t.time.domB = s.domNext 1 ∧
      t.time.pres = s.presTransition.presNext ∧ t.plat = { s.plat with edges := t.plat.edges } ∧
      s.only t [.cycle, .time, .plat, .ports, .counters, .pair, .buf, .reck, .host, .events] (regsOf ["TIME_DOM_STATUS",
        "TIME_DOM_PHASE_LEFT", "TIME_PRES_STATUS", "STAMP_LL_STATUS", "STAMP_LOST_CNT", "STAMP_RET_STATUS", "CNT_HALF_LO",
        "CNT_HALF_HI", "BUF_WITHDRAWN", "RING_CFG", "RING_DEV_INDEX"]) ∧
      ((∀ e ∈ s.ports, e.2.stamps.length ≤ 16) → s.buf.withdrawing = none → s.only t [.cycle, .time, .plat]
        (regsOf ["TIME_DOM_STATUS", "TIME_DOM_PHASE_LEFT", "TIME_PRES_STATUS", "STAMP_LL_STATUS"])) ∧
      ((∀ e ∈ s.ports, e.2.stamps.length ≤ 16) → s.buf.withdrawing = none → s.presTransition = s →
        s.only t [.cycle, .time, .plat] (keysOf []))) ∧
    (s.running = false → ∃ t, step s = .next t ∧ s.only t [] (keysOf []))

/-- After reset no command waits, no function is STARTING but DRAM, boot runs on Reckoner 0 and every pin is as the rest of
the state calls for (R493, R555); the FDB is in order (R246, R247).
Log entries 4 and 5: the model's choices or readings. -/
def Obligations.ResetPinsFollow : Prop :=
  State.reset.pinsFollow ∧ State.reset.pending = [] ∧ State.reset.running = true ∧ State.reset.runsRoutine .boot = true ∧
  (∀ f : Func, State.reset.funcUp f = (f != .dram)) ∧ State.reset.pins.faultN = true ∧ State.reset.pins.holdOut = false ∧
  State.reset.fdbInOrder

/-- Every step of the block, whatever the command, either names an object that Table 0-5 does not have or leaves a state whose
output pins are those that the rest of the state calls for: no step stops in any other way, and no pin lags behind. A step whose command is well formed never stops.
Log entry 3: the model's choice or reading. -/
def Obligations.EveryStepLeavesThePinsRight : Prop :=
  ∀ s : State, (safeStep (step s) ∨ step s = .fault .noSuchObject) ∧
    ((∀ c, s.pending.head? = some c → c.wf = true) → safeStep (step s))

/-- R3, R36, R44, R64, R590: while the switch die is unpowered or in reset, every transmitter is in electrical idle, HOLD_OUT is low, the TPO
and OBS pins are low and FAULT_N is pulled low, in every state that a command leaves; a thermal trip stays, with THERMTRIP_N low,
under every command but a loss of the supply; and no command changes anything but the pins, save those that act on a die
in reset: RESET_N, a loss of the supply, the HOLD_IN pin and the test access port.
Log entry 69: the model's choice or reading. -/
def Obligations.ADieThatDoesNotRunDrivesNothingAndTakesNoCommand : Prop :=
  ∀ (c : Instr) (s t : State), exec c s = .next t →
    (t.running = false → t.silent ∧ t.pins.holdOut = false ∧ t.pins.tpo = 0 ∧ t.pins.obs = 0 ∧ t.pins.faultN = false) ∧
    (s.die.mode = .tripped → c ≠ .powerLoss → t.die.mode = .tripped ∧ t.pins.thermtripN = false) ∧
    (s.running = false → s.only t [] (keysOf []) ∨ c = .resetNAssert ∨ (∃ p, c = .resetNRelease p) ∨ c = .powerLoss ∨
      (∃ l, c = .holdInChange l) ∨ (∃ o, c = .jtagInstruction o) ∨ c = .tapReset)

/-! ### Power, resets, straps, supplies, temperature and reference inputs (chapter 2) -/

/-- R59, R61, R62, R64, R573, R574: a filtered low on RESET_N, a brown-out of VDD_CORE and a hottest sensor of 115 °C or more put a
running die into reset: every transmitter idles, HOLD_OUT is low, the captured straps stay, the fuses stay unless a bundle is
being burned (R503), the MRAM keeps its heads with those under way written, and all else is as after power-on. A low on RESET_N
in a brown-out reset lets its release end it; in another reset, and a brown-out of a die that does not run, changes nothing. A loss of
all rails leaves the MRAM heads, the retired slots and the fuses, and nothing else: a seal head under way is completed, or its slot
is left without a valid head (the model's choice, log entry 42); every other head stays.
Log entries 4, 6, 7, 8 and 42: the model's choices or readings. -/
def Obligations.ResetsAndPowerLossLoseAllButMramFusesAndStraps : Prop :=
  ∀ s : State,
    (s.running = true → ∃ t, exec .resetNAssert s = .next t ∧ s.fellTo t .held 1 ∧ t.tally.heads = s.completeSeals.tally.heads) ∧
    (s.die.mode = .brownOut → ∃ t, exec .resetNAssert s = .next t ∧ t.die.mode = .held ∧ t.die.straps = s.die.straps ∧
      s.only t [.die] (keysOf [])) ∧
    (s.running = false → s.die.mode ≠ .brownOut → ∃ t, exec .resetNAssert s = .next t ∧ s.only t [] (keysOf [])) ∧
    (s.running = true → ∃ t, exec .brownOutReset s = .next t ∧ s.fellTo t .brownOut 3 ∧
      t.tally.heads = s.completeSeals.tally.heads) ∧
    (s.running = false → ∃ t, exec .brownOutReset s = .next t ∧ s.only t [] (keysOf [])) ∧
    (∀ (l : List Int) (h : Int), s.running = true → h ∈ l → (∀ x ∈ l, x ≤ h) → 1840 ≤ h →
      ∃ t, exec (.tempReading l) s = .next t ∧ s.fellTo t .tripped 0) ∧
    ∃ t, exec .powerLoss s = .next t ∧ t.die.mode = .off ∧ t.silent ∧ t.pins.holdOut = false ∧
      (s.running = false ∨ s.sec.ops = [] → t.sec.fuses = s.sec.fuses) ∧ (s.running = false → t.tally.heads = s.tally.heads) ∧
      (s.running = true → t.tally.heads = s.completeSeals.tally.heads ∨
        (((∃ x ∈ s.tally.seals, x.slot = none) ∨ s.tally.waits ≠ []) ∧ t.tally.heads = mapDel s.tally.heads s.tally.nextSlot)) ∧
      t.tally.retired = s.tally.retired ∧ t.plat = plat0 ∧
      State.reset.only t [.pending, .die, .tally, .host, .sec, .pair, .span, .plat] (regsOf ["SYS_STRAP", "SYS_RESET_CAUSE",
        "TALLY_MRAM_RETIRED", "SEC_LIFECYCLE", "SEC_DEVICE_ID_LO", "SEC_DEVICE_ID_HI", "PAIR_STATUS"])

/-- R44: the release of RESET_N captures the straps and starts the die; SYS_STRAP shows them and SYS_RESET_CAUSE shows what
ended, 0 after a loss of the supply (R573). Boot runs (R493), and a paired device starts DETACHED (Table 20-1). A running die, a brown-out reset whose RESET_N was not taken low (R62) and a
thermal trip (R64) do not react.
Log entry 8: the model's choice or reading. -/
def Obligations.TheReleaseOfResetCapturesTheStraps : Prop :=
  ∀ (s : State) (p : Straps),
    (s.die.mode = .held ∨ s.die.mode = .off → ∃ t, exec (.resetNRelease p) s = .next t ∧ t.running = true ∧ t.die.straps = p ∧
      t.get Reg.SYS_STRAP_SENIOR = b2n p.senior ∧ t.get Reg.SYS_STRAP_PAIR_EN = b2n p.pairEn ∧
      t.get Reg.SYS_STRAP_TEST_EN = b2n p.testEn ∧ t.get Reg.SYS_STRAP_CHANGED = 0 ∧
      t.get Reg.SYS_RESET_CAUSE_CAUSE = (if s.die.mode = .off then 0 else s.die.cause % 8) ∧
      t.tally.heads = s.tally.heads ∧ t.sec.fuses = s.sec.fuses ∧ t.runsRoutine .boot = true ∧
      t.get Reg.PAIR_STATUS_STATE = (if p.pairEn then 1 else 0)) ∧
    (s.die.mode ≠ .held → s.die.mode ≠ .off → ∃ t, exec (.resetNRelease p) s = .next t ∧ s.only t [] (keysOf []))

/-- R22, R46, R62, R63, R594: what the monitors of a running die set. A strap that differs from its capture sets CHANGED; a
rail outside its range sets its flag and source 3970; the hottest of the sensors moves NOW_T and MAX_T and the two sources of Table 2-16 with
their re-arm levels; a core speed below 1,500 makes source 3972 pending until a reading of 1,550. Nothing else changes.
Log entry 9: the model's choice or reading. -/
def Obligations.TheMonitorsSetTheirBitsAndSources : Prop :=
  ∀ s : State, s.running = true →
    (∀ p : Straps, ∃ t, exec (.strapCompare p) s = .next t ∧ t.die.straps = s.die.straps ∧
      t.get Reg.SYS_STRAP_CHANGED = (if p = s.die.straps then s.get Reg.SYS_STRAP_CHANGED else 1) ∧
      (p ≠ s.die.straps → t.cond 3975 = true) ∧ s.only t [.die] (regsOf ["SYS_STRAP"])) ∧
    (∀ o : Nat, ∃ t, exec (.supplyRangeCheck o) s = .next t ∧ s.only t [.die] (regsOf ["SYS_SUPPLY_FLAGS"]) ∧
      (∀ i (hi : i < 9), t.get supplyBits[i] = if bitOf o i then 1 else s.get supplyBits[i]) ∧
      (bitOf o 0 = true → t.cond 3970 = true)) ∧
    (∀ (l : List Int) (h : Int), h ∈ l → (∀ x ∈ l, x ≤ h) → h < 1840 → -32768 ≤ h → ∃ t, exec (.tempReading l) s = .next t ∧
      s.only t [.die] (regsOf ["SYS_TEMP"]) ∧ toSigned 16 (t.get Reg.SYS_TEMP_NOW_T) = h ∧
      toSigned 16 (t.get Reg.SYS_TEMP_MAX_T) = max (toSigned 16 (s.get Reg.SYS_TEMP_MAX_T)) h ∧
      t.cond 3968 = (decide (1600 ≤ h) || (s.cond 3968 && decide (1552 ≤ h))) ∧
      t.cond 3969 = (decide (1728 ≤ h) || (s.cond 3969 && decide (1680 ≤ h)))) ∧
    (∀ m : Nat, m < 65536 → ∃ t, exec (.coreSpeedMeasurement m) s = .next t ∧ t.get Reg.SYS_CORE_SPEED_NOW_MT = m ∧
      t.get Reg.SYS_CORE_SPEED_MIN_MT = min (s.get Reg.SYS_CORE_SPEED_MIN_MT) m ∧
      t.cond 3972 = (decide (m < 1500) || (s.cond 3972 && decide (m < 1550))) ∧
      s.only t [.die] (regsOf ["SYS_CORE_SPEED"]))

/-- R48 to R51: an input without an edge for 1 µs, or outside the window in force, is lost: its OK bit clears and its LOST bit is set,
so that its source of Table 2-22 is pending; CREF puts the device on the internal oscillator for good, with every transmitter idle; a
TREF that its domain follows unlocks the domain and sets UNLOCK_TREF. An input that has been in range for 1 ms again sets its OK bit and
ends none of this. A report that meets no criterion changes nothing. -/
def Obligations.ReferenceInputsAreLostAndFoundAgain : Prop :=
  ∀ s : State, s.running = true →
    (∀ g x, g < 32 → s.failsWindow (.lgref g) x → ∃ t, exec (.refInputLost ⟨.lgref g, x⟩) s = .next t ∧ bitOf (t.get Reg.SYS_CLK_LANE_OK_GROUP_OK) g = false ∧
      bitOf (t.get Reg.SYS_CLK_LANE_LOST_GROUP_LOST) g = true ∧ t.cond 3973 = true ∧
      s.only t [.die, .ports, .counters, .reck, .pair] (regsOf ["SYS_CLK_LANE_OK", "SYS_CLK_LANE_LOST", "MAC_PORT_STATUS", "MAC_PORT_EVT",
        "CNT_HALF_LO", "CNT_HALF_HI", "STAMP_PORT_STATUS"])) ∧
    (∀ x, s.failsWindow .cref x → ∃ t, exec (.refInputLost ⟨.cref, x⟩) s = .next t ∧ t.get Reg.SYS_CLK_STATUS_CORE_OK = 0 ∧ t.get Reg.SYS_CLK_STATUS_CORE_LOST = 1 ∧
      t.get Reg.SYS_CLK_STATUS_ON_OSC = 1 ∧ t.cond 3971 = true ∧ t.silent ∧
      s.only t [.die, .ports, .counters, .reck, .pair] (regsOf ["SYS_CLK_STATUS", "MAC_PORT_STATUS", "MAC_PORT_EVT", "CNT_HALF_LO",
        "CNT_HALF_HI"])) ∧
    (∀ x, s.failsWindow .trefa x → ∃ t, exec (.refInputLost ⟨.trefa, x⟩) s = .next t ∧ t.get Reg.SYS_CLK_STATUS_DOMA_OK = 0 ∧
      t.get Reg.SYS_CLK_STATUS_DOMA_LOST = 1 ∧ t.cond 3974 = true) ∧
    (∀ x, s.failsWindow .trefb x → ∃ t, exec (.refInputLost ⟨.trefb, x⟩) s = .next t ∧ t.get Reg.SYS_CLK_STATUS_DOMB_OK = 0 ∧
      t.get Reg.SYS_CLK_STATUS_DOMB_LOST = 1 ∧ t.cond 3974 = true) ∧
    (∀ i x, refGroup i < 32 → ¬ s.failsWindow i x → ∃ t, exec (.refInputLost ⟨i, x⟩) s = .next t ∧ s.only t [] (keysOf [])) ∧
    (∀ g r n, g < 32 → s.backInRange (.lgref g) r n → ∃ t, exec (.refInputGood (.lgref g) ⟨r, n⟩) s = .next t ∧
      bitOf (t.get Reg.SYS_CLK_LANE_OK_GROUP_OK) g = true ∧
      t.get Reg.SYS_CLK_LANE_LOST_GROUP_LOST = s.get Reg.SYS_CLK_LANE_LOST_GROUP_LOST) ∧
    (∀ r n, s.backInRange .cref r n → ∃ t, exec (.refInputGood .cref ⟨r, n⟩) s = .next t ∧ t.get Reg.SYS_CLK_STATUS_CORE_OK = 1 ∧
      s.only t [] (keysOf [Reg.SYS_CLK_STATUS_CORE_OK])) ∧
    (∀ r n, s.backInRange .trefa r n → ∃ t, exec (.refInputGood .trefa ⟨r, n⟩) s = .next t ∧ t.get Reg.SYS_CLK_STATUS_DOMA_OK = 1 ∧
      t.time.trefRateA = r ∧ s.only t [.time] (keysOf [Reg.SYS_CLK_STATUS_DOMA_OK])) ∧
    (∀ r n, s.backInRange .trefb r n → ∃ t, exec (.refInputGood .trefb ⟨r, n⟩) s = .next t ∧ t.get Reg.SYS_CLK_STATUS_DOMB_OK = 1 ∧
      t.time.trefRateB = r ∧ s.only t [.time] (keysOf [Reg.SYS_CLK_STATUS_DOMB_OK])) ∧
    (∀ i r n, refGroup i < 32 → ¬ s.backInRange i r n → ∃ t, exec (.refInputGood i ⟨r, n⟩) s = .next t ∧ s.only t [] (keysOf []))


/-! ### Registers, ports, pause and counters (chapters 0 and 3) -/

/-- R10, R13, R14: the host's write of one register always completes. A write that is turned away leaves everything but its answer
as it was; an address of the window that holds no register is answered RANGE; SYS_SCRATCH takes the whole word. A read of
SYS_CORE_SPEED answers both fields and returns its RC field MIN_MT to its reset value 0xFFFF; its RO field and everything else
stays. A read of an address that holds no register is answered RANGE with 0 and changes nothing.
Log entries 10, 11 and 16: the model's choices or readings. -/
def Obligations.RegistersAreWrittenWholeOrNotAndReadsClearRcFields : Prop :=
  ∀ s : State, s.served →
    (∀ addr v, v < 2 ^ 32 →
      (∃ t, exec (.registerWrite addr v) s = .next t ∧ t.lastStatus = (s.writeReg addr v).1 ∧ t.lastData = 0 ∧
        (t.lastStatus ≠ .ok → s.only t [.answer] (keysOf []))) ∧
      (regAt addr = none → ∃ t, exec (.registerWrite addr v) s = .next t ∧ t.lastStatus = .range ∧ s.only t [.answer] (keysOf [])) ∧
      (∃ t, exec (.registerWrite 0x20 v) s = .next t ∧ t.lastStatus = .ok ∧ t.get Reg.SYS_SCRATCH_VALUE = v ∧
        s.only t [.answer] (keysOf [Reg.SYS_SCRATCH_VALUE]))) ∧
    (s.get Reg.SYS_CORE_SPEED_MIN_MT < 65536 → s.get Reg.SYS_CORE_SPEED_NOW_MT < 65536 →
      ∃ t, exec (.rcRegisterRead 0x100) s = .next t ∧ t.lastStatus = .ok ∧
        t.lastData = 65536 * s.get Reg.SYS_CORE_SPEED_MIN_MT + s.get Reg.SYS_CORE_SPEED_NOW_MT ∧
        t.get Reg.SYS_CORE_SPEED_MIN_MT = 0xFFFF ∧ s.only t [.answer] (keysOf [Reg.SYS_CORE_SPEED_MIN_MT])) ∧
    (∀ addr, regAt addr = none → ∃ t, exec (.rcRegisterRead addr) s = .next t ∧ t.lastStatus = .range ∧ t.lastData = 0 ∧
      s.only t [.answer] (keysOf []))

/-- R70, R71, R73: a write of MAC_OCTET_MODE that Table 3-1 has and that no port of the octet stands in the way of is taken. A
new MODE returns every per-port and per-queue register of the octet's lane numbers to its reset value and its counters to 0; a
combination that Table 3-1 shows as "—" is answered RANGE and an enabled port BUSY, and then nothing changes.
Log entry 10: the model's choice or reading. -/
def Obligations.AnOctetTakesANewMode : Prop :=
  ∀ (s : State) (o v : Nat), s.served → s.funcUp .mac = true → s.spanOn = false → o < 128 → v < 2 ^ 32 →
    within v 0x37 = true →
    (octetModeOk (bits v 0 3) (bits v 4 2) = false → ∃ t, exec (.octetModeWrite o v) s = .next t ∧ t.lastStatus = .range ∧
      s.only t [.answer] (keysOf [])) ∧
    (octetModeOk (bits v 0 3) (bits v 4 2) = true → (∃ i, i < 8 ∧ s.bit (Reg.MAC_PORT_CTRL_ENABLE (8 * o + i)) = true) →
      ∃ t, exec (.octetModeWrite o v) s = .next t ∧ t.lastStatus = .busy ∧ s.only t [.answer] (keysOf [])) ∧
    (octetModeOk (bits v 0 3) (bits v 4 2) = true →
      (∀ i, i < 8 → s.bit (Reg.MAC_PORT_CTRL_ENABLE (8 * o + i)) = false ∧ s.linkState (8 * o + i) ≠ stFlushing) →
      ∃ t, exec (.octetModeWrite o v) s = .next t ∧ t.lastStatus = .ok ∧ t.get (Reg.MAC_OCTET_MODE_MODE o) = bits v 0 3 ∧
        t.get (Reg.MAC_OCTET_MODE_RATE o) = bits v 4 2 ∧
        (bits v 0 3 ≠ s.get (Reg.MAC_OCTET_MODE_MODE o) →
          (∀ f : Fld, f.lo < 32 → octetReg o f.addr = true → t.get f = f.rst) ∧
          (∀ p i, p / 8 = o → i < 64 → t.counter p i = 0) ∧ s.only t [.answer, .ports, .counters, .tm]
            (fun k => octetReg o (k / 32) = true ∨ regsOf ["MAC_OCTET_MODE", "STAMP_PORT_STATUS"] k)) ∧
        (bits v 0 3 = s.get (Reg.MAC_OCTET_MODE_MODE o) → s.only t [.answer] (regsOf ["MAC_OCTET_MODE", "STAMP_PORT_STATUS"])))

/-- R78, R84, R86, Table 3-7: ENABLE written 1 takes a DISABLED port to TRAINING, and ENABLE written 0 takes a port in TRAINING
to DISABLED and a port in UP to FLUSHING, with LINK_DOWN noted and counted; a port in calibration stays DISABLED (R148). Every field of MAC_PORT_CTRL holds the written
bits. ENABLE = 1 with a FEC that Table 3-3 does not permit is answered RANGE, and a change of FEC while ENABLE = 1 BUSY; either changes nothing. -/
def Obligations.EnableMovesThePortBetweenItsLinkStates : Prop :=
  ∀ (s : State) (p v : Nat), s.served → s.funcUp .mac = true → s.spanOn = false ∨ p < 960 → s.isPort p = true →
    v < 2 ^ 32 → within v 0x3FFF3F9 = true →
    (bits v 8 2 ≠ 3 → s.get (Reg.MAC_PORT_CTRL_FLOW_CTRL p) = bits v 8 2 → bitOf v 0 = true →
      s.bit (Reg.MAC_PORT_CTRL_ENABLE p) = false → s.linkState p = stDisabled →
      fecOk (s.lanes p) (s.laneRate p) (bits v 4 2) = true → s.bit Reg.SYS_START_STATUS_READY = true →
      ∃ t, exec (.portEnable p v) s = .next t ∧ t.lastStatus = .ok ∧
        ((∀ c, s.stamp.cal = some c → c.port ≠ p) → t.linkState p = stTraining ∧ (t.port p).trainSince = s.cycle) ∧
        (∀ c, s.stamp.cal = some c → c.port = p → t.linkState p = stDisabled) ∧ t.bit (Reg.MAC_PORT_CTRL_ENABLE p) = true ∧
        t.get (Reg.MAC_PORT_CTRL_FEC p) = bits v 4 2 ∧ t.get (Reg.MAC_PORT_CTRL_UP_DEBOUNCE p) = bits v 12 4 ∧
        t.get (Reg.MAC_PORT_CTRL_DN_DEBOUNCE p) = bits v 16 10 ∧
        s.only t [.answer, .ports] (regsOf ["MAC_PORT_CTRL", "MAC_PORT_STATUS", "STAMP_PORT_STATUS"])) ∧
    (bitOf v 0 = true → fecOk (s.lanes p) (s.laneRate p) (bits v 4 2) = false →
      s.turnsAway (.portEnable p v) .range) ∧
    (s.bit (Reg.MAC_PORT_CTRL_ENABLE p) = true → s.get (Reg.MAC_PORT_CTRL_FEC p) ≠ bits v 4 2 → bits v 8 2 ≠ 3 →
      (bitOf v 0 = true → fecOk (s.lanes p) (s.laneRate p) (bits v 4 2) = true → s.turnsAway (.portEnable p v) .busy) ∧
      (bitOf v 0 = false → s.turnsAway (.portDisable p v) .busy)) ∧
    (bits v 8 2 ≠ 3 → s.get (Reg.MAC_PORT_CTRL_FLOW_CTRL p) = bits v 8 2 → bitOf v 0 = false →
      s.bit (Reg.MAC_PORT_CTRL_ENABLE p) = true → s.get (Reg.MAC_PORT_CTRL_FEC p) = bits v 4 2 →
      s.get (Reg.MAC_PORT_CTRL_LOOPBACK p) = bits v 6 2 →
      ∃ t, exec (.portDisable p v) s = .next t ∧ t.lastStatus = .ok ∧ t.bit (Reg.MAC_PORT_CTRL_ENABLE p) = false ∧
        (s.linkState p = stTraining → t.linkState p = stDisabled) ∧ (s.linkState p = stFlushing → t.linkState p = stFlushing) ∧
        (s.linkState p = stUp → t.linkState p = stFlushing ∧ (t.port p).flush = .waiting ∧
          t.bit (Reg.MAC_PORT_EVT_LINK_DOWN p) = true ∧ t.counter p 59 = (s.counter p 59 + 1) % 2 ^ 40) ∧
        s.only t [.answer, .ports, .counters, .reck, .pair] (regsOf ["MAC_PORT_CTRL", "MAC_PORT_STATUS", "MAC_PORT_EVT",
          "CNT_HALF_LO", "CNT_HALF_HI"]))

/-- R82, R83, R86, R348: a port follows its link. Its conditions set LINK_GOOD; good for UP_DEBOUNCE in TRAINING it enters UP
and notes LINK_UP, unless its partner refuses what it advertises (R75); bad for DN_DEBOUNCE in UP it leaves UP; HOLD_DOWN_US after the flush it leaves FLUSHING. A port in DISABLED takes
no conditions up (R84). -/
def Obligations.APortFollowsItsLink : Prop :=
  ∀ (s : State) (p : Nat), s.running = true → s.isPort p = true → s.funcUp .mac = true →
    (∀ c : LinkCond, s.linkState p = stDisabled → ∃ t, exec (.linkConditionChange p c) s = .next t ∧ s.only t [] (keysOf [])) ∧
    (∀ c : LinkCond, s.linkState p ≠ stDisabled → ∃ t, exec (.linkConditionChange p c) s = .next t ∧
      t.bit (Reg.MAC_PORT_STATUS_LINK_GOOD p) = (linkGood c && s.laneRefGood p && !s.linksHeld) ∧
      t.bit (Reg.MAC_PORT_STATUS_HI_BER p) = c.hiBer ∧ t.bit (Reg.MAC_PORT_STATUS_LOCAL_FAULT p) = c.localFault ∧
      t.bit (Reg.MAC_PORT_STATUS_REMOTE_FAULT p) = c.remoteFault ∧ t.linkState p = s.linkState p ∧
      s.only t [.ports, .counters, .pair] (regsOf ["MAC_PORT_STATUS", "MAC_PORT_EVT", "CNT_HALF_LO", "CNT_HALF_HI",
        "STAMP_PORT_STATUS"])) ∧
    (s.linkState p = stTraining → s.bit (Reg.MAC_PORT_STATUS_LINK_GOOD p) = true → s.laneRefGood p = true →
      s.bit Reg.SYS_CLK_STATUS_ON_OSC = false → (s.port p).request = [] →
      s.bit (Reg.MAC_PORT_CTRL_AN_EN p) = false ∨ (s.port p).cond.anRefused = false →
      max (s.port p).trainSince (s.port p).goodSince + s.get (Reg.MAC_PORT_CTRL_UP_DEBOUNCE p) * 100 * usCycles ≤ s.cycle →
      ∃ t, exec (.upDebounceExpiry p) s = .next t ∧ t.linkState p = stUp ∧ t.bit (Reg.MAC_PORT_EVT_LINK_UP p) = true ∧
        t.cond p = true ∧ s.only t [] (keysOf [Reg.MAC_PORT_STATUS_STATE p, Reg.MAC_PORT_EVT_LINK_UP p])) ∧
    (s.bit (Reg.MAC_PORT_CTRL_AN_EN p) = true → (s.port p).cond.anRefused = true →
      ∃ t, exec (.upDebounceExpiry p) s = .next t ∧ s.only t [] (keysOf [])) ∧
    (s.linkState p = stUp → s.bit (Reg.MAC_PORT_STATUS_LINK_GOOD p) = false →
      (s.port p).badSince + s.get (Reg.MAC_PORT_CTRL_DN_DEBOUNCE p) * usCycles ≤ s.cycle →
      ∃ t, exec (.dnDebounceExpiry p) s = .next t ∧ t.linkState p = stFlushing ∧ t.bit (Reg.MAC_PORT_EVT_LINK_DOWN p) = true ∧
        t.counter p 59 = (s.counter p 59 + 1) % 2 ^ 40 ∧ (t.port p).flush = .waiting ∧
        s.only t [.ports, .counters, .reck, .pair] (regsOf ["MAC_PORT_STATUS", "MAC_PORT_EVT", "CNT_HALF_LO", "CNT_HALF_HI"])) ∧
    (∀ c, (s.port p).flush = .complete c → s.linkState p = stFlushing →
      c + s.get Reg.QUE_CTRL_HOLD_DOWN_US * usCycles ≤ s.cycle →
      ∃ t, exec (.holdDownExpiry p) s = .next t ∧ (t.port p).flush = .idle ∧
        t.linkState p = (if s.bit (Reg.MAC_PORT_CTRL_ENABLE p) then stTraining else stDisabled) ∧
        s.only t [.ports] (regsOf ["MAC_PORT_STATUS", "QUE_FLUSH_CNT"]))

/-- R90 to R92, R94: a pause frame for the pause address holds the port of a device in UP with FLOW_CTRL = 1, and quanta 0 ends
the pause at once; a PFC frame does so for each priority it enables with FLOW_CTRL = 2; the timer runs out after its quanta; a
lasting request for back-pressure sends its frame again after REFRESH quanta, behind a frame in transmission (R93). In a port outside UP none of these acts. -/
def Obligations.PauseAndPriorityFlowControl : Prop :=
  ∀ (s : State) (p : Nat), s.running = true → s.isPort p = true → s.linkState p = stUp →
    (∀ q, s.get (Reg.MAC_PORT_CTRL_FLOW_CTRL p) = 1 → q < 65536 → ∃ t, exec (.pauseFrameReceived p q true) s = .next t ∧
      (t.port p).pause = (if q = 0 then none else some (s.cycle, q)) ∧ t.bit (Reg.MAC_PORT_STATUS_PAUSED p) = (q != 0) ∧
      s.only t [.ports, .counters, .tm, .pair] (regsOf ["MAC_PORT_STATUS", "CNT_HALF_LO", "CNT_HALF_HI"])) ∧
    (∀ n q, s.get (Reg.MAC_PORT_CTRL_FLOW_CTRL p) = 2 → n < 8 → q < 65536 → q ≠ 0 → (s.port p).pfc = [] →
      ∃ t, exec (.pfcFrameReceived p (2 ^ n) ((List.range 8).map fun i => if i = n then q else 0) true) s = .next t ∧
        (t.port p).pfc = [(n, (s.cycle, q))] ∧ t.get (Reg.MAC_PORT_STATUS_PFC_PAUSED p) = 2 ^ n ∧
        s.only t [.ports, .counters, .tm, .pair] (regsOf ["MAC_PORT_STATUS", "CNT_HALF_LO", "CNT_HALF_HI"])) ∧
    (∀ c q, (s.port p).pause = some (c, q) → s.quantaPassed p c q = true → ∃ t, exec (.pauseTimerExpiry p 8) s = .next t ∧
      (t.port p).pause = none ∧ t.bit (Reg.MAC_PORT_STATUS_PAUSED p) = false ∧
      s.only t [.ports, .counters, .tm, .pair] (regsOf ["MAC_PORT_STATUS", "CNT_HALF_LO", "CNT_HALF_HI"])) ∧
    (∀ c, mapFind (s.port p).request 8 = some c → s.quantaPassed p c (s.get (Reg.MAC_PORT_PAUSE_REFRESH p)) = true →
      s.get (Reg.MAC_PORT_CTRL_LOOPBACK p) ≠ 3 →
      ((s.port p).tx = none → ∃ t, exec (.pauseRefresh p 8) s = .next t ∧ mapFind (t.port p).request 8 = some s.cycle ∧
        t.counter p 40 = (s.counter p 40 + 1) % 2 ^ 40 ∧
        (s.get (Reg.MAC_PORT_CTRL_LOOPBACK p) = 0 → s.bit (Reg.MAC_PORT_STATUS_LOCAL_FAULT p) = false →
          s.bit (Reg.MAC_PORT_STATUS_REMOTE_FAULT p) = false → s.portIdle p = false →
          (t.port p).lastTx = s.controlFrame p ([0x00, 0x01] ++ beBytes 2 (s.get (Reg.MAC_PORT_PAUSE_QUANTA p)))) ∧
        s.only t [.ports, .counters, .pair] (regsOf ["CNT_HALF_LO", "CNT_HALF_HI"])) ∧
      ((s.port p).tx ≠ none → ∃ t, exec (.pauseRefresh p 8) s = .next t ∧ mapFind (t.port p).request 8 = some s.cycle ∧
        (t.port p).control = (s.port p).control ++ [(8, s.get (Reg.MAC_PORT_PAUSE_QUANTA p))] ∧ s.only t [.ports] (keysOf [])))

/-- R72, R103, R443: CNT_READ and CNT_CLEAR complete with the presentation time and all 64 counters of the port; CNT_CLEAR sets
the counters and their half-range bits to 0 in the same step, CNT_READ leaves them. For a lane number that is not a port both
complete with RANGE and change no counter.
Log entry 21: the model's choice or reading. -/
def Obligations.CounterCommandsReturnTheSixtyFourCounters : Prop :=
  ∀ (s : State) (c : CmdIn),
    (s.accepts 0x50 c → s.isPort c.param = true → ∃ t, exec (.cntRead c) s = .next t ∧
      t.completed 0x50 c { CmdRes.ok with
        result := leBytes 16 s.presStamp, out := (List.range 64).flatMap fun i => leBytes 8 (s.counterNow c.param i) } ∧
      s.only t [.host, .events] (completionKeys s c)) ∧
    (s.accepts 0x51 c → s.isPort c.param = true → ∃ t, exec (.cntClear c) s = .next t ∧
      t.completed 0x51 c { CmdRes.ok with
        result := leBytes 16 s.presStamp, out := (List.range 64).flatMap fun i => leBytes 8 (s.counterNow c.param i) } ∧
      (∀ i, i < 64 → t.counter c.param i = 0 ∧ t.counterNow c.param i = 0) ∧ t.get (Reg.CNT_HALF_LO_HALF c.param) = 0 ∧
      t.get (Reg.CNT_HALF_HI_HALF c.param) = 0 ∧ (∀ p i, p ≠ c.param → i < 64 → t.counter p i = s.counter p i)) ∧
    (s.accepts 0x50 c → s.isPort c.param = false → ∃ t, exec (.cntRead c) s = .next t ∧ t.completed 0x50 c CmdRes.field ∧
      s.only t [.host, .events] (completionKeys s c)) ∧
    (s.accepts 0x51 c → s.isPort c.param = false → ∃ t, exec (.cntClear c) s = .next t ∧ t.completed 0x51 c CmdRes.field ∧
      s.only t [.host, .events] (completionKeys s c))

/-! ### The time core (chapter 4) -/

/-- R110 to R112: FREQ_ADJ within ±500 ppm and a phase correction within ±1,000,000 ns are taken and step no clock; a correction
replaces any remainder and shows in TIME_DOM_PHASE_LEFT and SLEWING; a value outside is answered RANGE and changes nothing. A
remainder of exactly 0 ends SLEWING. A servo write in the very cycle in which the watchdog expired takes the expiry back (R115).
Log entry 70: the model's choice or reading. -/
def Obligations.FrequencyAndPhaseCorrectionsAreBounded : Prop :=
  ∀ (s : State) (d v : Nat), s.served → s.funcUp .time = true → d < 2 → v < 2 ^ 32 →
    (withinS v 1099511627 = true → (s.dom d).byWdog = none ∨ (s.dom d).clearedAt ≠ some s.cycle →
      ∃ t, exec (.timeDomFreqWrite d v) s = .next t ∧ t.lastStatus = .ok ∧
      t.get (Reg.TIME_DOM_FREQ_FREQ_ADJ d) = v ∧ (t.dom d).servoAt = s.cycle ∧ (t.dom d).now = (s.dom d).now ∧
      t.dom (1 - d) = s.dom (1 - d) ∧ t.time.pres = s.time.pres ∧
      s.only t [.answer, .time] (keysOf [Reg.TIME_DOM_FREQ_FREQ_ADJ d])) ∧
    (withinS v 1099511627 = false → ∃ t, exec (.timeDomFreqWrite d v) s = .next t ∧ t.lastStatus = .range ∧
      s.only t [.answer] (keysOf [])) ∧
    (∀ was, (s.dom d).byWdog = some was → (s.dom d).clearedAt = some s.cycle →
      (withinS v 1099511627 = true → ∃ t, exec (.timeDomFreqWrite d v) s = .next t ∧ t.lastStatus = .ok ∧
        t.get (Reg.TIME_DOM_FREQ_FREQ_ADJ d) = v ∧ t.bit (Reg.TIME_DOM_CTRL_LOCKED d) = true ∧
        t.bit (Reg.TIME_DOM_STATUS_UNLOCK_WDOG d) = was ∧ (t.dom d).now = (s.dom d).now ∧ t.time.pres = s.time.pres ∧
        s.only t [.answer, .time] (regsOf ["TIME_DOM_FREQ", "TIME_DOM_CTRL", "TIME_DOM_STATUS", "TIME_DOM_PHASE_LEFT",
          "TIME_PRES_STATUS"])) ∧
      (withinS v 256000000 = true → ∃ t, exec (.timeDomPhaseWrite d v) s = .next t ∧ t.lastStatus = .ok ∧
        (t.dom d).left = toSigned 32 v * tuNs / 256 ∧ t.bit (Reg.TIME_DOM_CTRL_LOCKED d) = true ∧
        t.bit (Reg.TIME_DOM_STATUS_UNLOCK_WDOG d) = was ∧ (t.dom d).now = (s.dom d).now ∧ t.time.pres = s.time.pres ∧
        s.only t [.answer, .time] (regsOf ["TIME_DOM_CTRL", "TIME_DOM_STATUS", "TIME_DOM_PHASE_LEFT", "TIME_PRES_STATUS"]))) ∧
    (withinS v 256000000 = true → (s.dom d).byWdog = none ∨ (s.dom d).clearedAt ≠ some s.cycle →
      ∃ t, exec (.timeDomPhaseWrite d v) s = .next t ∧ t.lastStatus = .ok ∧
      (t.dom d).left = toSigned 32 v * tuNs / 256 ∧ t.get (Reg.TIME_DOM_PHASE_LEFT_LEFT d) = v ∧
      t.bit (Reg.TIME_DOM_STATUS_SLEWING d) = (v != 0) ∧ (t.dom d).now = (s.dom d).now ∧ t.dom (1 - d) = s.dom (1 - d) ∧
      t.time.pres = s.time.pres ∧
      s.only t [.answer, .time] (regsOf ["TIME_DOM_PHASE_LEFT", "TIME_DOM_STATUS", "TIME_PRES_STATUS"])) ∧
    (withinS v 256000000 = false → ∃ t, exec (.timeDomPhaseWrite d v) s = .next t ∧ t.lastStatus = .range ∧
      s.only t [.answer] (keysOf [])) ∧
    ((s.dom d).left = 0 → ∃ t, exec (.phaseSlewDone d) s = .next t ∧ t.get (Reg.TIME_DOM_STATUS_SLEWING d) = 0 ∧
      s.only t [] (keysOf [Reg.TIME_DOM_STATUS_SLEWING d]))

/-- R113 to R116, R119: the host's LOCKED = 1 is taken once the domain was set, no set-time is pending and its reference is good;
before that it is answered BUSY; in the very cycle of a clear the clear wins (R115). At the end of a cycle (log entry 82) presentation
time in NONE steps to the preferred domain if that is locked, else to the other if that is. The watchdog withdraws the lock of a servo that was silent for WDOG_MS milliseconds, with its cause bit.
Log entries 70 and 71: the model's choices or readings. -/
def Obligations.LockIsDeclaredByTheHostAndWithdrawnByTheDevice : Prop :=
  ∀ (s : State) (d v : Nat), s.served → s.funcUp .time = true → d < 2 →
    (v < 2 ^ 32 → within v 0xFFFFFF37 = true → bitOf v 0 = true → 1 ≤ bits v 8 8 → bits v 8 8 ≤ 250 → bits v 4 2 ≠ 3 →
      s.bit (Reg.TIME_DOM_CTRL_LOCKED d) = false →
      ((s.dom d).everSet = true → (s.dom d).setPending = none → (bits v 4 2 = 2 ∨ s.trefGood d = true) →
        ((s.dom d).clearedAt ≠ some s.cycle → ∃ t, exec (.lockDeclare d v) s = .next t ∧ t.lastStatus = .ok ∧
          t.domLock d = (if bitOf v 1 then 3 else 2) ∧ (t.dom d).lockWriteAt = s.cycle ∧ t.time.pres = s.time.pres ∧
          s.only t [.answer, .time] (regsOf ["TIME_DOM_CTRL", "TIME_DOM_STATUS", "TIME_DOM_PHASE_LEFT", "TIME_PRES_STATUS"])) ∧
        ((s.dom d).clearedAt = some s.cycle → ∃ t, exec (.lockDeclare d v) s = .next t ∧ t.lastStatus = .ok ∧
          t.bit (Reg.TIME_DOM_CTRL_LOCKED d) = false ∧ t.domLocked d = false ∧ t.time.pres = s.time.pres ∧
          s.only t [.answer, .time] (regsOf ["TIME_DOM_CTRL", "TIME_DOM_STATUS", "TIME_DOM_PHASE_LEFT", "TIME_PRES_STATUS"]))) ∧
      ((s.dom d).everSet = false ∨ (s.dom d).setPending ≠ none ∨ (bits v 4 2 ≠ 2 ∧ s.trefGood d = false) →
        ∃ t, exec (.lockDeclare d v) s = .next t ∧ t.lastStatus = .busy ∧ s.only t [.answer] (keysOf []))) ∧
    (s.bit (Reg.TIME_DOM_CTRL_LOCKED d) = true → s.get (Reg.TIME_DOM_CTRL_WDOG_MS d) ≠ 0 →
      max (s.dom d).lockWriteAt (s.dom d).servoAt + s.get (Reg.TIME_DOM_CTRL_WDOG_MS d) * msCycles ≤ s.cycle →
      ∃ t, exec (.servoWatchdogExpiry d) s = .next t ∧ t.bit (Reg.TIME_DOM_CTRL_LOCKED d) = false ∧
        t.bit (Reg.TIME_DOM_STATUS_UNLOCK_WDOG d) = true ∧ t.cond (2048 + d) = true ∧ t.domLocked d = false ∧
        s.only t [.time] (regsOf ["TIME_DOM_CTRL", "TIME_DOM_STATUS", "TIME_DOM_PHASE_LEFT", "TIME_PRES_STATUS"])) ∧
    (s.pending = [] → s.presNone = true → s.get Reg.TIME_PRES_CTRL_PREFERRED < 2 → s.domLocked d = true →
      d = s.get Reg.TIME_PRES_CTRL_PREFERRED ∨ s.domLocked (1 - d) = false →
      ∃ t, step s = .next t ∧ t.time.pres.mode = .follow d ∧ t.time.pres.now = (s.domNext d).now ∧
        t.bit Reg.TIME_PRES_STATUS_STEPPED = true)

/-- R118, R125: set-time is refused with BUSY while LOCKED = 1; otherwise the staged value becomes the domain's time, at once or
at the next PPS edge, and ends any phase correction. The edge captures the time as it ran up to it. With PPS_EN = 1 and no
edge for 1.1 s of domain time PPS_MISSING is set.
Log entry 71: the model's choice or reading. -/
def Obligations.SetTimeStepsADomainAtOnceOrAtThePpsEdge : Prop :=
  ∀ (s : State) (d : Nat), s.served → s.funcUp .time = true → d < 2 →
    (s.bit (Reg.TIME_DOM_CTRL_LOCKED d) = true → ∃ t, exec (.domainSetTime d) s = .next t ∧ t.lastStatus = .busy ∧
      s.only t [.answer] (keysOf [])) ∧
    (s.bit (Reg.TIME_DOM_CTRL_LOCKED d) = false → ∃ t, exec (.domainSetTime d) s = .next t ∧ t.lastStatus = .ok ∧
      (t.dom d).now = s.stagedTime d ∧ (t.dom d).left = 0 ∧ (t.dom d).everSet = true ∧ (t.dom d).setPending = none ∧
      t.domLock d = 1 ∧ t.time.pres = s.time.pres ∧ t.dom (1 - d) = s.dom (1 - d) ∧
      s.only t [.answer, .time] (regsOf ["TIME_DOM_STATUS", "TIME_DOM_PHASE_LEFT", "TIME_PRES_STATUS"])) ∧
    (s.bit (Reg.TIME_DOM_CTRL_LOCKED d) = false → ∃ t, exec (.domainSetAtPps d) s = .next t ∧ t.lastStatus = .ok ∧
      (t.dom d).setPending = some (s.stagedTime d) ∧ (t.dom d).now = (s.dom d).now ∧ s.only t [.answer, .time] (keysOf [])) ∧
    (∃ t, exec (.ppsEdge d) s = .next t ∧
      (t.dom d).now = ((s.dom d).setPending.getD (s.dom d).now) ∧ (t.dom d).setPending = none ∧
      (s.bit (Reg.TIME_DOM_CTRL_PPS_EN d) = true → t.bit (Reg.TIME_DOM_STATUS_PPS_NEW d) = true ∧
        t.groupIs (Reg.TIME_DOM_PPS_W0_FLAGS d) (Reg.TIME_DOM_PPS_W0_FRACTION d) (Reg.TIME_DOM_PPS_W1_NANOSECONDS d)
          (Reg.TIME_DOM_PPS_W2_SEC_LO d) (Reg.TIME_DOM_PPS_W3_SEC_HI d)
          (stampOf ((s.dom d).now / tuTick : Nat) (s.domFlags d))) ∧
      t.time.pres = s.time.pres ∧
      s.only t [.time] (regsOf ["TIME_DOM_PPS_W0", "TIME_DOM_PPS_W1", "TIME_DOM_PPS_W2", "TIME_DOM_PPS_W3", "TIME_DOM_STATUS",
        "TIME_DOM_PHASE_LEFT", "TIME_PRES_STATUS"])) ∧
    (s.bit (Reg.TIME_DOM_CTRL_PPS_EN d) = true → ((1100000000 * tuNs : Nat) : Int) ≤ (s.dom d).now - (s.dom d).lastPps →
      ∃ t, exec (.ppsMissing d) s = .next t ∧ t.bit (Reg.TIME_DOM_STATUS_PPS_MISSING d) = true ∧ t.cond (2053 + d) = true ∧
        s.only t [] (keysOf [Reg.TIME_DOM_STATUS_PPS_MISSING d]))

/-- R121, R122: after presentation time has left NONE no command steps it: its value is the same after every command that leaves it in
FOLLOW or HOLDOVER. At the end of a cycle (log entry 82) it goes from a domain that is no longer locked to the other one, if that is
locked, with e = P − D, and else into HOLDOVER at the rate it had, and out of HOLDOVER to a locked domain, all from the value that
stood. -/
def Obligations.NoCommandStepsPresentationTime : Prop :=
  (∀ (c : Instr) (s t : State), s.presNone = false → exec c s = .next t → t.presNone = false →
    t.time.pres.now = s.time.pres.now) ∧
  ∀ (s : State) (d : Nat), s.running = true → s.pending = [] → d < 2 →
    (s.time.pres.mode = .follow d → s.domLocked d = true → ∃ t, step s = .next t ∧ t.time.pres.mode = .follow d ∧
      (t.time.pres.now : Int) = max 0 ((s.domNext d).now + t.time.pres.err)) ∧
    (s.time.pres.mode = .follow (1 - d) → s.domLocked (1 - d) = false → s.domLocked d = true →
      ∃ t, step s = .next t ∧ t.time.pres.mode = .follow d ∧
        t.time.pres.err = (s.time.pres.now - (s.dom d).now : Int) -
          slewStep (s.time.pres.now - (s.dom d).now) (s.baseRate d * s.get Reg.TIME_PRES_CTRL_SLEW_MAX) ∧
        (t.time.pres.now : Int) = max 0 ((s.domNext d).now + t.time.pres.err) ∧
        t.bit Reg.TIME_PRES_STATUS_HOLDOVER_ENTERED = s.bit Reg.TIME_PRES_STATUS_HOLDOVER_ENTERED) ∧
    (s.time.pres.mode = .follow d → s.domLocked d = false → s.domLocked (1 - d) = false →
      ∃ t, step s = .next t ∧ t.time.pres.mode = .holdover d ∧ t.bit Reg.TIME_PRES_STATUS_HOLDOVER_ENTERED = true ∧
        t.time.pres.now = s.time.pres.now + s.baseRate d * 1000000) ∧
    (s.time.pres.mode = .holdover (1 - d) ∨ s.time.pres.mode = .holdover d → s.get Reg.TIME_PRES_CTRL_PREFERRED < 2 →
      s.domLocked d = true → d = s.get Reg.TIME_PRES_CTRL_PREFERRED ∨ s.domLocked (1 - d) = false →
      ∃ t, step s = .next t ∧ t.time.pres.mode = .follow d ∧
        (t.time.pres.now : Int) = max 0 ((s.domNext d).now + t.time.pres.err))

/-- R120, R121, R124: with REVERT = 1 presentation time moves to the preferred domain once that has been locked for REVERT_S
seconds. It keeps its value, e starts at P − D, and the move sets MOVED exactly when e is not 0. An e of exactly 0 ends MOVING. -/
def Obligations.PresentationTimeRevertsWithoutAStep : Prop :=
  ∀ s : State, s.running = true →
    (∀ p : Nat, p < 2 → s.get Reg.TIME_PRES_CTRL_PREFERRED = p → s.bit Reg.TIME_PRES_CTRL_REVERT = true →
      s.time.pres.mode = .follow (1 - p) → s.domLocked p = true →
      (s.dom p).lockedAt + s.get Reg.TIME_PRES_CTRL_REVERT_S * 1000 * msCycles ≤ s.cycle →
      s.bit Reg.TIME_PRES_STATUS_MOVED = false →
      ∃ t, exec .presRevert s = .next t ∧ t.time.pres.mode = .follow p ∧ t.time.pres.now = s.time.pres.now ∧
        t.time.pres.err = (s.time.pres.now : Int) - (s.dom p).now ∧
        t.bit Reg.TIME_PRES_STATUS_MOVED = ((s.time.pres.now : Int) != (s.dom p).now) ∧
        t.time.domA = s.time.domA ∧ t.time.domB = s.time.domB ∧
        s.only t [.time] (regsOf ["TIME_PRES_STATUS", "TIME_DOM_STATUS", "TIME_DOM_PHASE_LEFT"])) ∧
    (s.moving = false → ∃ t, exec .presMoveDone s = .next t ∧ t.get Reg.TIME_PRES_STATUS_MOVING = 0 ∧
      s.only t [] (keysOf [Reg.TIME_PRES_STATUS_MOVING]))

/-- R126, R127: SNAP latches both domains and presentation time of one instant into their groups; TIME_AB_DIFF takes A − B in
1/16 ns and saturates. Neither moves a clock. -/
def Obligations.SnapshotsShowTheClocksOfOneInstant : Prop :=
  ∀ s : State,
    (s.served → s.funcUp .time = true → ∃ t, exec .timeSnap s = .next t ∧ t.lastStatus = .ok ∧
      (∀ d, d < 2 → t.groupIs (Reg.TIME_DOM_NOW_W0_FLAGS d) (Reg.TIME_DOM_NOW_W0_FRACTION d)
        (Reg.TIME_DOM_NOW_W1_NANOSECONDS d) (Reg.TIME_DOM_NOW_W2_SEC_LO d) (Reg.TIME_DOM_NOW_W3_SEC_HI d)
        (stampOf ((s.dom d).now / tuTick : Nat) (s.domFlags d))) ∧
      t.groupIs Reg.TIME_PRES_NOW_W0_FLAGS Reg.TIME_PRES_NOW_W0_FRACTION Reg.TIME_PRES_NOW_W1_NANOSECONDS
        Reg.TIME_PRES_NOW_W2_SEC_LO Reg.TIME_PRES_NOW_W3_SEC_HI s.presStamp ∧
      s.only t [.answer] (regsOf ["TIME_DOM_NOW_W0", "TIME_DOM_NOW_W1", "TIME_DOM_NOW_W2", "TIME_DOM_NOW_W3",
        "TIME_PRES_NOW_W0", "TIME_PRES_NOW_W1", "TIME_PRES_NOW_W2", "TIME_PRES_NOW_W3"])) ∧
    (s.running = true → ∃ t, exec .abDiffUpdate s = .next t ∧
      toSigned 32 (t.get Reg.TIME_AB_DIFF_DIFF) =
        max (-(2 ^ 31)) (min (2 ^ 31 - 1) (((s.dom 0).now - (s.dom 1).now : Int) * 16 / tuNs)) ∧
      s.only t [] (keysOf [Reg.TIME_AB_DIFF_DIFF]))

/-- R128 to R132: ENABLE = 1 of a pulse output is refused with BUSY while presentation LOCK is NONE. A START at least 1 µs ahead arms
the output; a single pulse too late returns ENABLE to 0 and sets MISSED; a late train starts at the first edge that is 1 µs ahead; one whose WIDTH exceeds PERIOD - 10 is answered RANGE (log entry 83). The
leading edge comes when presentation time has reached it, and the trailing edge of a single pulse clears ENABLE. An accepted edge of a
capture input queues the selected clock as a full stamp; the seventeenth is discarded and sets OVERFLOW; POP removes the oldest, and
COUNT gives the number held. A capture and a POP of one cycle both take effect, whichever came first (log entry 83). -/
def Obligations.PulseOutputsAndCaptureInputs : Prop :=
  ∀ s : State, s.served → s.funcUp .time = true →
    (∀ n, n < 8 →
      (∀ v, within v 0x87 = true → bitOf v 0 = true → bitOf v 1 = false → s.presNone = true →
        ∃ t, exec (.tpoEnable n v) s = .next t ∧ t.lastStatus = .busy ∧ s.only t [.answer] (keysOf [])) ∧
      (∀ v, within v 0x7 = true → bitOf v 0 = true → s.presNone = false → s.bit (Reg.TIME_TPO_CTRL_ENABLE n) = false →
        (bitOf v 1 = true → s.get (Reg.TIME_TPO_PERIOD_PERIOD n) < s.get (Reg.TIME_TPO_WIDTH_WIDTH n) + 10 →
          s.turnsAway (.tpoEnable n v) .range) ∧
        ((bitOf v 1 = true → s.get (Reg.TIME_TPO_WIDTH_WIDTH n) + 10 ≤ s.get (Reg.TIME_TPO_PERIOD_PERIOD n)) →
        ∃ t, exec (.tpoEnable n v) s = .next t ∧ t.lastStatus = .ok ∧
          (s.time.pres.now + 1000 * tuNs ≤ s.tpoStart n * tuNs → t.tpo n = ⟨true, s.tpoStart n, 0, false⟩ ∧
            t.bit (Reg.TIME_TPO_CTRL_RUNNING n) = true ∧ t.bit (Reg.TIME_TPO_CTRL_ENABLE n) = true) ∧
          (s.tpoStart n * tuNs < s.time.pres.now + 1000 * tuNs → bitOf v 1 = false → t.bit (Reg.TIME_TPO_CTRL_ENABLE n) = false ∧
            t.bit (Reg.TIME_TPO_CTRL_MISSED n) = true ∧ t.cond 2055 = true ∧ t.tpo n = s.tpo n) ∧
          (s.tpoStart n * tuNs < s.time.pres.now + 1000 * tuNs → bitOf v 1 = true →
            s.time.pres.now + 1000 * tuNs ≤ t.tpoDue n ∧
            t.tpoDue n < s.time.pres.now + 1000 * tuNs + s.get (Reg.TIME_TPO_PERIOD_PERIOD n) * tuNs ∧
            (t.tpo n).active = true) ∧
          s.only t [.answer, .time] (regsOf ["TIME_TPO_CTRL"]))) ∧
      ((s.tpo n).active = true → (s.tpo n).high = false → s.tpoDue n ≤ s.time.pres.now →
        ∃ t, exec (.tpoPulseEdge n false) s = .next t ∧ t.tpo n = { s.tpo n with high := true } ∧
          s.only t [.time] (keysOf [])) ∧
      ((s.tpo n).active = true → (s.tpo n).high = true → s.tpoDue n ≤ s.time.pres.now →
        ∃ t, exec (.tpoPulseEdge n true) s = .next t ∧
          (s.bit (Reg.TIME_TPO_CTRL_PERIODIC n) = true → t.tpo n = { s.tpo n with high := false, k := (s.tpo n).k + 1 }) ∧
          (s.bit (Reg.TIME_TPO_CTRL_PERIODIC n) = false → t.bit (Reg.TIME_TPO_CTRL_ENABLE n) = false ∧ t.tpo n = tpo0) ∧
          s.only t [.time] (regsOf ["TIME_TPO_CTRL"]))) ∧
    (∀ n, n < 4 →
      (∀ rising, s.bit (Reg.TIME_TPI_CTRL_ENABLE n) = true →
        s.get (Reg.TIME_TPI_CTRL_EDGE n) = 2 ∨ s.get (Reg.TIME_TPI_CTRL_EDGE n) = (if rising then 0 else 1) →
        ((s.tpi n).length < 16 → ∃ t, exec (.tpiCapture n rising) s = .next t ∧
          t.tpi n = s.tpi n ++ [stampOf (s.clockAt (s.get (Reg.TIME_TPI_CTRL_SOURCE n)) 0 / tuTick)
            (s.clockFlags (s.get (Reg.TIME_TPI_CTRL_SOURCE n)))] ∧
          t.get (Reg.TIME_TPI_CTRL_COUNT n) = (s.tpi n).length + 1 ∧
          s.only t [.time] (regsOf ["TIME_TPI_CTRL", "TIME_TPI_CAPT_W0", "TIME_TPI_CAPT_W1", "TIME_TPI_CAPT_W2",
            "TIME_TPI_CAPT_W3"])) ∧
        (16 ≤ (s.tpi n).length → ∃ t, exec (.tpiCapture n rising) s = .next t ∧ t.tpi n = s.tpi n ∧
          t.bit (Reg.TIME_TPI_CTRL_OVERFLOW n) = true ∧ t.cond 2056 = true ∧
          s.only t [.time] (keysOf [Reg.TIME_TPI_CTRL_OVERFLOW n]))) ∧
      (s.get (Reg.TIME_TPI_CTRL_SOURCE n) < 3 → s.get (Reg.TIME_TPI_CTRL_EDGE n) < 3 → s.get (Reg.TIME_TPI_CTRL_ENABLE n) < 2 →
        (s.tpi n).length ≤ 17 →
        ((∀ x, mapFind s.time.tpiAt n = some x → x.1 ≠ s.cycle) →
          ∃ t, exec (.tpiPop n) s = .next t ∧ t.lastStatus = .ok ∧ t.tpi n = (s.tpi n).tail ∧
            t.get (Reg.TIME_TPI_CTRL_COUNT n) = (s.tpi n).length - 1 ∧ t.bit (Reg.TIME_TPI_CTRL_OVERFLOW n) =
              s.bit (Reg.TIME_TPI_CTRL_OVERFLOW n) ∧
            s.only t [.answer, .time] (regsOf ["TIME_TPI_CTRL", "TIME_TPI_CAPT_W0", "TIME_TPI_CAPT_W1", "TIME_TPI_CAPT_W2",
              "TIME_TPI_CAPT_W3"])) ∧
        (∀ st was, mapFind s.time.tpiAt n = some (s.cycle, some (st, was)) →
          ∃ t, exec (.tpiPop n) s = .next t ∧ t.lastStatus = .ok ∧ t.tpi n = (s.tpi n).tail ++ [st] ∧
            t.get (Reg.TIME_TPI_CTRL_COUNT n) = (s.tpi n).length - 1 + 1 ∧ t.bit (Reg.TIME_TPI_CTRL_OVERFLOW n) = was ∧
            s.only t [.answer, .time] (regsOf ["TIME_TPI_CTRL", "TIME_TPI_CAPT_W0", "TIME_TPI_CAPT_W1", "TIME_TPI_CAPT_W2",
              "TIME_TPI_CAPT_W3"])) ∧
        (mapFind s.time.tpiAt n = some (s.cycle, none) → (s.tpi n).length = 1 →
          ∃ t, exec (.tpiPop n) s = .next t ∧ t.lastStatus = .ok ∧ t.tpi n = s.tpi n ∧ s.only t [.answer, .time] (keysOf []))))

/-! ### Stamping (chapter 5) -/

/-- R147 to R150, R172: START calibrates a DISABLED port in loopback 1, one at a time. A trained loop ends DONE with its error
and suggestions and sets CAL_VALID of the port; one that did not train ends FAILED and leaves it. EVT_STAMP_CAL_DONE is pending
until STAMP_CAL_RESULT is read. The trims are not written. A port enabled meanwhile stays in DISABLED until the run ends (log entry 84). -/
def Obligations.ACalibrationRunsOnOneDisabledPort : Prop :=
  ∀ (s : State) (p : Nat), p < 1024 →
    (s.served → s.funcUp .time = true → s.isPort p = true → s.get (Reg.MAC_PORT_CTRL_LOOPBACK p) = 1 →
      (s.linkState p = stDisabled → s.stamp.cal = none → ∃ t, exec (.calStart p) s = .next t ∧ t.lastStatus = .ok ∧
        t.get Reg.STAMP_CAL_RESULT_STATUS = 1 ∧ t.stamp.cal = some ⟨p, s.cycle⟩ ∧ t.get Reg.STAMP_CAL_CTRL_PORT = p ∧
        s.only t [.answer, .stamp] (keysOf [Reg.STAMP_CAL_RESULT_STATUS, Reg.STAMP_CAL_CTRL_PORT])) ∧
      (s.linkState p ≠ stDisabled ∨ s.stamp.cal ≠ none → ∃ t, exec (.calStart p) s = .next t ∧ t.lastStatus = .busy ∧
        s.only t [.answer] (keysOf []))) ∧
    (s.served → s.funcUp .time = true → s.isPort p = false ∨ s.get (Reg.MAC_PORT_CTRL_LOOPBACK p) ≠ 1 →
      ∃ t, exec (.calStart p) s = .next t ∧ t.lastStatus = .range ∧ s.only t [.answer] (keysOf [])) ∧
    (∀ since e i g, s.running = true → s.stamp.cal = some ⟨p, since⟩ → e < 65536 → i < 65536 → g < 65536 →
      (∃ t, exec (.calDone true e i g) s = .next t ∧ t.get Reg.STAMP_CAL_RESULT_STATUS = 2 ∧
        t.get Reg.STAMP_CAL_RESULT_LOOP_ERR = e ∧ t.get Reg.STAMP_CAL_SUGGEST_ING = i ∧ t.get Reg.STAMP_CAL_SUGGEST_EGR = g ∧
        t.bit (Reg.STAMP_PORT_STATUS_CAL_VALID p) = true ∧ t.cond 2065 = true ∧ t.stamp.cal = none ∧
        (s.linkState p = stDisabled → s.bit (Reg.MAC_PORT_CTRL_ENABLE p) = true → t.linkState p = stTraining) ∧
        (s.bit (Reg.MAC_PORT_CTRL_ENABLE p) = false →
          s.only t [.stamp] (regsOf ["STAMP_CAL_RESULT", "STAMP_CAL_SUGGEST", "STAMP_PORT_STATUS"])) ∧
        s.only t [.stamp, .ports, .counters, .reck, .pair] (regsOf ["STAMP_CAL_RESULT", "STAMP_CAL_SUGGEST", "STAMP_PORT_STATUS",
          "MAC_PORT_STATUS", "MAC_PORT_EVT", "CNT_HALF_LO", "CNT_HALF_HI"])) ∧
      (∃ t, exec (.calDone false e i g) s = .next t ∧ t.get Reg.STAMP_CAL_RESULT_STATUS = 3 ∧ t.cond 2065 = true ∧
        t.stamp.cal = none ∧ (s.linkState p = stDisabled → s.bit (Reg.MAC_PORT_CTRL_ENABLE p) = true → t.linkState p = stTraining) ∧
        (s.bit (Reg.MAC_PORT_CTRL_ENABLE p) = false → s.only t [.stamp] (keysOf [Reg.STAMP_CAL_RESULT_STATUS])) ∧
        s.only t [.stamp, .ports, .counters, .reck, .pair] (regsOf ["STAMP_CAL_RESULT", "MAC_PORT_STATUS", "MAC_PORT_EVT",
          "CNT_HALF_LO", "CNT_HALF_HI", "STAMP_PORT_STATUS"]))) ∧
    (s.served → s.funcUp .time = true → s.get Reg.STAMP_CAL_RESULT_STATUS < 4 → s.get Reg.STAMP_CAL_RESULT_LOOP_ERR < 65536 →
      ∃ t, exec .calResultRead s = .next t ∧ t.lastStatus = .ok ∧
        t.lastData = s.get Reg.STAMP_CAL_RESULT_STATUS * 2 ^ 30 + s.get Reg.STAMP_CAL_RESULT_LOOP_ERR ∧ t.cond 2065 = false ∧
        s.only t [.answer, .stamp] (keysOf []))

/-- R152 to R155, R447: a seventeenth stamp of a port's queue is discarded at the end of its cycle (log entry 82), counted and noted in
the next entry of the port. The oldest entry of the first port in rotation that has one moves to the end of the global queue, unless
that holds 8,192; a marked frame's entry leaves its front for the completion ring of STAMP_RET_CTRL.RING when that has room, as
Table 16-8 lays it out, and waits while the ring is full or the host cannot be reached; an inject descriptor's goes to its completion.
Log entry 20: the model's choice or reading. -/
def Obligations.ReturnedStampsPassThroughTwoQueues : Prop :=
  ∀ s : State, s.running = true →
    (∀ p e rest, s.stamp.queue.length < 8192 →
      ((rotation 1024 s.stamp.rotate).find? fun p => !(s.port p).stamps.isEmpty) = some p → (s.port p).stamps = e :: rest →
      ∃ t, exec .stampQueueTransfer s = .next t ∧ (t.port p).stamps = rest ∧ t.stamp.queue = s.stamp.queue ++ [e] ∧
        t.get Reg.STAMP_RET_STATUS_LEVEL = s.stamp.queue.length + 1 ∧
        t.get Reg.STAMP_RET_STATUS_MAX_LEVEL = max (s.get Reg.STAMP_RET_STATUS_MAX_LEVEL) (s.stamp.queue.length + 1) ∧ (∀ q, q ≠ p → t.port q = s.port q) ∧
        s.only t [.ports, .stamp] (regsOf ["STAMP_RET_STATUS"])) ∧
    (8192 ≤ s.stamp.queue.length → ∃ t, exec .stampQueueTransfer s = .next t ∧ s.only t [] (keysOf [])) ∧
    (∀ e rest, s.stamp.queue = e :: rest → e.inject = none → s.ringRoom (s.get Reg.STAMP_RET_CTRL_RING) 1 = true →
      s.canWrite = true →
      ∃ t, exec .stampEntryWrite s = .next t ∧ t.stamp.queue = rest ∧ t.host.completion = s.stampEntry e ∧
        t.devIndex (s.get Reg.STAMP_RET_CTRL_RING) = (s.devIndex (s.get Reg.STAMP_RET_CTRL_RING) + 1) % 2 ^ 32 ∧
        s.only t [.stamp, .host, .events] (regsOf ["STAMP_RET_STATUS", "RING_DEV_INDEX"])) ∧
    (∀ e rest, s.stamp.queue = e :: rest → e.inject = none → s.ringRoom (s.get Reg.STAMP_RET_CTRL_RING) 1 = false ∨ s.canWrite = false →
      ∃ t, exec .stampEntryWrite s = .next t ∧ s.only t [] (keysOf [])) ∧
    (∀ e rest f, s.stamp.queue = e :: rest → e.inject = some f → ∃ t, exec .stampEntryWrite s = .next t ∧ t.stamp.queue = rest ∧
      (mapFind s.host.inject f = none → s.only t [.stamp] (regsOf ["STAMP_RET_STATUS"])) ∧
      s.only t [.stamp, .host, .events] (regsOf ["STAMP_RET_STATUS", "RING_DEV_INDEX", "RING_CFG"])) ∧
    (∀ p l e, s.pending = [] → (s.port p).stamps = l ++ [e] → l.length = 16 → e.inject = none →
      ∃ t, step s = .next t ∧ (t.port p).stamps = l ∧ t.bit Reg.STAMP_RET_STATUS_LOST = true ∧
        (t.port p).stampLost = (s.port p).stampLost + e.lostBefore + 1)

/-! ### Tally (chapter 6) -/

/-- R181, R183, R184, R186: the oldest record of the burst buffer takes the next sequence and leaf position of its chain and goes
to the backing ring, when that has room beyond 2,120 entries; the sixteenth of a leaf and the timer of 1 µs close the leaf, and
the chain value becomes SHA-256 of the value before and of the digest of the leaf's records in order. A gap record takes a free
place of the burst buffer while ENABLE = 1, ahead of the records of its chain that came after it; one that stands before the oldest
record of its chain is taken first. -/
def Obligations.ChainsTakeRecordsInOrderAndCloseTheirLeaves : Prop :=
  ∀ s : State, s.running = true →
    (∀ c b rest, s.tally.burst = (c, b) :: rest → s.mayTake = true → s.ringRoomFor 1 2120 = true → s.funcUp .tally = true →
      s.dramServes = true → mapFind s.tally.gaps c = none → ∃ t, exec .chainTakeRecord s = .next t ∧ t.tally.burst = rest ∧
        t.tally.ring = s.tally.ring ++
          [⟨sequenced b (s.chain c).leaf.length (s.chain c).nextSeq (s.chain c).nextLeaf, false⟩] ∧
        (t.chain c).nextSeq = (s.chain c).nextSeq + 1 ∧ (t.chain c).count = (s.chain c).count + 1 ∧
        ((s.chain c).leaf.length < 15 → (t.chain c).value = (s.chain c).value ∧
          (t.chain c).leaf.length = (s.chain c).leaf.length + 1) ∧
        ((s.chain c).leaf.length = 15 → (t.chain c).leaf = [] ∧ (t.chain c).nextLeaf = (s.chain c).nextLeaf + 1 ∧
          (t.chain c).value = sha256 ((s.chain c).value ++ sha256 (((s.chain c).leaf ++
            [sequenced b 15 (s.chain c).nextSeq (s.chain c).nextLeaf]).flatten))) ∧
        (∀ k, k ≠ c → t.chain k = s.chain k) ∧
        s.only t [.tally, .dram] (regsOf ["TALLY_STATUS", "TALLY_RING_LEVEL", "DRAM_STATUS", "DRAM_ROW_GUARD_CNT"])) ∧
    (∀ c b rest g, s.tally.burst = (c, b) :: rest → s.mayTake = true → s.ringRoomFor 1 2120 = true → s.funcUp .tally = true →
      s.dramServes = true → mapFind s.tally.gaps c = some g → s.bit Reg.TALLY_CTRL_ENABLE = true → s.tally.heldOf c ≤ g.behind →
      ∃ t, exec .chainTakeRecord s = .next t ∧ t.tally.burst = s.tally.burst ∧ mapFind t.tally.gaps c = none ∧
        t.tally.ring = s.tally.ring ++
          [⟨sequenced (gapBytes c g) (s.chain c).leaf.length (s.chain c).nextSeq (s.chain c).nextLeaf, false⟩] ∧
        (t.chain c).nextSeq = (s.chain c).nextSeq + 1 ∧
        s.only t [.tally, .dram] (regsOf ["TALLY_STATUS", "TALLY_RING_LEVEL", "DRAM_STATUS", "DRAM_ROW_GUARD_CNT"])) ∧
    (∀ c, c < 256 → (s.chain c).leaf ≠ [] → (s.chain c).openedAt + usCycles ≤ s.cycle →
      ∃ t, exec (.leafTimerClose c) s = .next t ∧ (t.chain c).leaf = [] ∧ (t.chain c).nextLeaf = (s.chain c).nextLeaf + 1 ∧
        (t.chain c).value = sha256 ((s.chain c).value ++ sha256 (s.chain c).leaf.flatten) ∧ s.only t [.tally] (keysOf [])) ∧
    (∀ c g, c < 256 → mapFind s.tally.gaps c = some g → s.burstRoom ≠ 0 →
      s.bit Reg.TALLY_CTRL_ENABLE = true → ∃ t, exec (.gapRecordWrite c) s = .next t ∧
        t.tally.burst = (if g.behind = 0 then s.tally.burst ++ [(c, gapBytes c g)]
          else insertAfter c (gapBytes c g) (s.tally.heldOf c - g.behind) s.tally.burst) ∧
        mapFind t.tally.gaps c = none ∧ s.only t [.tally] (keysOf [])) ∧
    (∀ p, p < 64 → ∃ t, exec (.frameDigest p) s = .next t ∧ t.digestQueue p = (s.digestQueue p).tail ∧
      s.only t [.tally] (keysOf []))

/-- R188 to R190: TALLY_CTRL and TALLY_SEAL_PERIOD. Setting ENABLE starts the chains anew with a START seal whose index follows the
newest valid head of the MRAM; clearing it leaves a FINAL seal to come, which is formed once the records before it have been
taken and stops the chains; at an instant of the grid every open leaf closes and a seal over the 256 chains is formed, which
carries the hash of the one before. No gap is recorded after the FINAL seal's instant. PERIOD_US takes 100 to 100,000.
Log entry 58: the model's choice or reading. -/
def Obligations.SealsAreFormedOnTheGridAndAtTheEnds : Prop :=
  ∀ s : State, s.served → s.funcUp .tally = true → (s.tally.seals.filter fun y => !y.dropped).length < 8 → s.sealIndex + 1 < 2 ^ 64 →
    (s.bit Reg.TALLY_CTRL_ENABLE = true → s.tally.running = true → s.tally.waits = [] → s.sealEngine = true → s.nextSeal ≤ s.cycle →
      ∃ t x, exec .sealInstant s = .next t ∧ t.tally.seals = s.tally.seals ++ [x] ∧ x.index = s.sealIndex + 1 ∧ x.final = false ∧
        x.start = false ∧ x.slot = none ∧ x.signature = none ∧ t.sealIndex = s.sealIndex + 1 ∧ t.tally.lastSeal = s.nextSeal ∧
        t.tally.lastHash = sha256 x.message ∧
        x.message = sealHeader false false x.index s.tally.nextSlot s.tally.lastHash s.sealInstantFields ++
          (List.range 256).flatMap (fun c => sealEntry c (lastOf (s.chain c).nextSeq) (lastOf (closeLeaf (s.chain c)).nextLeaf)
            (s.chain c).count (s.chain c).lost 0 (closeLeaf (s.chain c)).value) ∧
        (∀ c, t.chain c = { closeLeaf (s.chain c) with count := 0, lost := 0 }) ∧
        s.only t [.tally] (regsOf ["TALLY_SEAL_INDEX_LO", "TALLY_SEAL_INDEX_HI"])) ∧
    (∀ v, v < 2 ^ 32 → within v 0xF01 = true → bitOf v 0 = true → bits v 8 4 ≠ 0 → s.bit Reg.TALLY_CTRL_ENABLE = false →
      s.pairState ≠ paStandby → s.pairState ≠ paSyncing → s.bit Reg.DRAM_CTRL_SERVICE = true →
      s.tally.waits = [] → s.sealEngine = true → (∀ y ∈ s.tally.seals, y.final = true → y.slot ≠ none) →
      ∃ t x, exec (.tallyEnable v) s = .next t ∧ t.lastStatus = .ok ∧ t.bit Reg.TALLY_CTRL_ENABLE = true ∧
        t.get Reg.TALLY_CTRL_SVC_LEVEL = bits v 8 4 ∧ t.tally.running = true ∧ t.tally.chains = [] ∧ t.tally.lastSeal = s.cycle ∧
        t.tally.seals = s.tally.seals ++ [x] ∧ x.start = true ∧ x.final = false ∧
        x.index = (match s.newestHead fun _ => true with | some h => beAt h.2 0 8 + 1 | none => 0) ∧
        s.only t [.answer, .tally] (regsOf ["TALLY_CTRL", "TALLY_STATUS", "TALLY_RING_LEVEL", "TALLY_SEAL_INDEX_LO",
          "TALLY_SEAL_INDEX_HI"])) ∧
    (∀ v, v < 2 ^ 32 → within v 0xF01 = true → bitOf v 0 = false → bits v 8 4 ≠ 0 → s.bit Reg.TALLY_CTRL_ENABLE = true →
      s.tally.waits = [] → ∃ t w, exec (.tallyDisable v) s = .next t ∧ t.lastStatus = .ok ∧
        t.bit Reg.TALLY_CTRL_ENABLE = false ∧ t.tally.waits = [w] ∧ w.start = false ∧ w.left = s.tally.burst.length ∧ t.tally.gaps = [] ∧
        t.tally.chains = s.tally.chains ∧ t.tally.seals = s.tally.seals ∧
        s.only t [.answer, .tally] (regsOf ["TALLY_CTRL", "TALLY_STATUS", "TALLY_RING_LEVEL"])) ∧
    (∀ w, s.tally.waits = [w] → w.start = false → w.left = 0 → s.tally.running = true → s.sealEngine = true →
      ∃ t x, exec .finalSealForm s = .next t ∧ t.tally.seals = s.tally.seals ++ [x] ∧ x.final = true ∧
        x.index = s.sealIndex + 1 ∧ t.tally.waits = [] ∧ t.tally.running = false ∧
        (∀ c, (t.chain c).leaf = []) ∧ s.only t [.tally] (regsOf ["TALLY_SEAL_INDEX_LO", "TALLY_SEAL_INDEX_HI"])) ∧
    (∀ v, v < 2 ^ 32 → within v 0x1FFFF = true →
      (100 ≤ v ∧ v ≤ 100000 → ∃ t, exec (.sealPeriodWrite v) s = .next t ∧ t.lastStatus = .ok ∧
        t.get Reg.TALLY_SEAL_PERIOD_PERIOD_US = v ∧
        s.only t [.answer, .tally] (regsOf ["TALLY_SEAL_PERIOD", "TALLY_SEAL_INDEX_LO", "TALLY_SEAL_INDEX_HI"])) ∧
      (v < 100 ∨ 100000 < v → ∃ t, exec (.sealPeriodWrite v) s = .next t ∧ t.lastStatus = .range ∧
        s.only t [.answer] (keysOf [])))

/-- R187, R193 to R195, R199, R423: the oldest seal without a head has it written into the next slot of the MRAM, and the seal formed
behind it carries the hash that it then has; a slot that reads
back wrong is retired and the seal waits for the next; the signing unit signs the newest seal whose head is written, and the
older unsigned ones are superseded; a signed or superseded seal goes to the backing ring as one marker and 264 entries; the
oldest entry of the backing ring goes to the export ring when the host can be reached, replaced where its bursts are poisoned; a read of TALLY_MRAM_RETIRED answers the number of retired slots. -/
def Obligations.SealsAreHeadedSignedAndExported : Prop :=
  ∀ s : State, s.served →
    (∀ x, s.tally.seals.find? (fun y => y.slot.isNone) = some x → (s.tally.seals.map (·.index)).Nodup → s.tally.waits = [] →
      (∃ t, exec (.mramHeadWrite true) s = .next t ∧
        mapFind t.tally.heads s.tally.nextSlot =
          some (headBytes { x with message := patchAt x.message 100 (beBytes 4 s.tally.nextSlot) }) ∧
        t.tally.nextSlot = s.slotFrom (s.tally.nextSlot + 1) ∧ t.tally.retired = s.tally.retired ∧
        (x.dropped = false → ∃ y ∈ t.tally.seals, y.index = x.index ∧ y.slot = some s.tally.nextSlot) ∧
        (∀ z l, s.tally.seals = x :: z :: l → z.dropped = false → 64 ≤ z.message.length →
          ∃ y ∈ t.tally.seals, y.index = z.index ∧
            slice y.message 32 32 = sha256 (patchAt x.message 100 (beBytes 4 s.tally.nextSlot))) ∧
        s.only t [.tally, .pair] (regsOf ["PAIR_MIRROR_LEVEL"])) ∧
      (∃ t, exec (.mramHeadWrite false) s = .next t ∧ t.tally.retired = s.tally.retired ++ [s.tally.nextSlot] ∧
        mapFind t.tally.heads s.tally.nextSlot = none ∧ t.tally.retiredUnread = true ∧
        t.get Reg.TALLY_MRAM_RETIRED_RETIRED = (s.tally.retired.length + 1) % 2 ^ 14 ∧
        (∃ y ∈ t.tally.seals, y.index = x.index ∧ y.slot = none) ∧
        s.only t [.tally] (keysOf [Reg.TALLY_MRAM_RETIRED_RETIRED]))) ∧
    (∀ x, (s.tally.seals.filter fun y => y.signature.isNone && !y.superseded && y.slot.isSome).getLast? = some x →
      s.keyUsable = true → ∃ t, exec .sealSign s = .next t ∧
        t.tally.seals = (s.tally.seals.map fun y =>
          if y.index = x.index then { y with signature := some (padTo 384 (Config.sign s.sec.draws y.message)) }
          else if y.index < x.index ∧ y.signature = none then { y with superseded := true } else y) ∧
        ((∃ y ∈ s.tally.seals, y.index < x.index ∧ y.signature = none ∧ y.superseded = false) →
          t.bit Reg.TALLY_STATUS_UNSIGNED = true) ∧
        t.sec = { s.sec with draws := s.sec.draws + 1 } ∧ s.only t [.tally, .sec] (keysOf [Reg.TALLY_STATUS_UNSIGNED])) ∧
    (∀ x n, s.tally.seals.find? (fun y => !y.dropped) = some x → x.slot = some n → (x.signature.isSome ∨ x.superseded = true) →
      s.ringRoomFor 265 0 = true → s.dramServes = true → ∃ t, exec .sealExport s = .next t ∧
        t.tally.ring = s.tally.ring ++
          (([0x40, BitVec.ofNat 8 (b2n x.signature.isSome)] ++ zeros 6 ++ beBytes 8 x.index ++ beBytes 4 264 ++ zeros 44) ::
            (List.range 264).map fun i => slice (x.message ++ x.signature.getD (zeros 384)) (64 * i) 64).map
              (fun b => (⟨b, false⟩ : RingEntry)) ∧
        t.tally.seals = s.tally.seals.filter (fun y => y.index != x.index) ∧
        s.only t [.tally, .dram] (regsOf ["TALLY_STATUS", "TALLY_RING_LEVEL", "DRAM_STATUS", "DRAM_ROW_GUARD_CNT"])) ∧
    (∀ e rest p o, s.tally.ring = e :: rest → s.ringRoom 61 1 = true → s.funcUp .tally = true → s.dramServes = true →
      s.canWrite = true → p = s.tally.ringHead % (s.get Reg.TALLY_RING_SIZE_UNITS * 65536) →
      ∃ t b, exec (.tallyExportEntry o) s = .next t ∧ t.tally.ring = rest ∧ t.tally.ringHead = s.tally.ringHead + 1 ∧
        t.host = (s.ringWrite 61 b).host ∧
        (e.lost = true ∨ s.pcFailed (pcOf (granuleOf (tallyBurst p))) = true ∨
            (o.ecc = .uncorrectable ∧ o.burst < 2 ∧ s.dram.writes = []) →
          b = [0x30] ++ zeros 7 ++ beBytes 8 p ++ zeros 48 ∧ t.bit Reg.TALLY_STATUS_POISON = true ∧
          t.get Reg.DRAM_ERR_LOC_USER = 0 ∧ t.get Reg.DRAM_ERR_LOC_UNCORR = 1 ∧ t.bit Reg.DRAM_STATUS_UNCORR = true) ∧
        (e.lost = false → s.pcFailed (pcOf (granuleOf (tallyBurst p))) = false → o.ecc ≠ .uncorrectable → s.dram.errs = [] →
          b = e.bytes) ∧
        s.only t [.tally, .host, .dram] (regsOf ["TALLY_STATUS", "TALLY_RING_LEVEL", "DRAM_STATUS", "DRAM_ERR_LOC", "DRAM_CORR_CNT",
          "DRAM_UNCORR_CNT", "DRAM_ROW_GUARD_CNT", "RING_DEV_INDEX"])) ∧
    (∀ o, s.canWrite = false → ∃ t, exec (.tallyExportEntry o) s = .next t ∧ s.only t [] (keysOf [])) ∧
    (s.funcUp .tally = true → ∃ t, exec .mramRetiredRead s = .next t ∧ t.lastStatus = .ok ∧
      t.lastData = s.get Reg.TALLY_MRAM_RETIRED_RETIRED ∧ t.tally.retiredUnread = false ∧
      s.only t [.answer, .tally] (regsOf ["TALLY_STATUS", "TALLY_RING_LEVEL"]))

/-! ### The path of a frame (chapters 1, 7 to 12) -/

/-- R141, R298, R299 and Table 1-4, steps 1 and 2; R206, R209, R236, R237, R89: a delimiter at a port in UP takes a landing bead
and the ingress stamp; with 256 beads of the pipe in use the frame is dropped and counted. Its first word takes the CURRENT
tag, the profile and the default marks of its port; a MAC control frame does not pass. One slot of the carry loop gives the
first frame of the next pipe that has one its second pass (R215, R217). In loopback 1 and 2 a port receives the frames of its own
transmitter (Table 3-10). A first word waits for the earlier frames of its port, and while its pipe holds 96 frames (R28, R237).
Log entries 25 and 71: the model's choices or readings. -/
def Obligations.FramesTakeTheirStampBeadAndRules : Prop :=
  ∀ s : State, s.running = true →
    (∀ p sub bytes, p < 1024 → sub < 64 → s.portUp p = true → (s.spanOn && decide (960 ≤ p)) = false → s.funcUp .buf = true →
      s.get (Reg.MAC_PORT_CTRL_LOOPBACK p) ≠ 1 → s.get (Reg.MAC_PORT_CTRL_LOOPBACK p) ≠ 2 →
      (∀ b, mapGet s.buf.landing (pipeOf p) 0 < 256 → s.freeBead = some b →
        ∃ t x, exec (.frameStart p sub bytes) s = .next t ∧ t.frame s.path.nextFrame = some x ∧ x.port = p ∧ x.bytes = bytes ∧
          x.stage = .received ∧ x.beads = [b] ∧ x.landing = true ∧ x.ended = false ∧ x.limit = s.get (Reg.MAC_PORT_FRAME_FRAME_MAX p) ∧
          (∀ k, k = s.stampClock (bytes.take (s.get (Reg.MAC_PORT_FRAME_FRAME_MAX p))) →
            x.ingStamp = stampOf (s.ingressTime p sub k) (s.clockFlags k)) ∧
          t.path.nextFrame = s.path.nextFrame + 1 ∧ (∀ g, g ≠ s.path.nextFrame → t.frame g = s.frame g) ∧
          mapGet t.buf.landing (pipeOf p) 0 = mapGet s.buf.landing (pipeOf p) 0 + 1 ∧
          mapFind t.buf.beads b = some ⟨1, .landing (pipeOf p), p, false⟩ ∧
          s.only t [.path, .buf] (regsOf ["BUF_LANDING"])) ∧
      (256 ≤ mapGet s.buf.landing (pipeOf p) 0 →
        ∃ t x, exec (.frameStart p sub bytes) s = .next t ∧ t.frame s.path.nextFrame = some x ∧ x.stage = .dropped ∧ x.beads = [] ∧
          t.counter p 31 = (s.counter p 31 + 1) % 2 ^ 40 ∧ t.bit Reg.BUF_STATUS_LANDING = true ∧
          t.get Reg.BUF_LANDING_DROP_CNT_COUNT = min (2 ^ 32 - 1) (s.get Reg.BUF_LANDING_DROP_CNT_COUNT + 1) ∧
          t.buf = s.buf ∧ s.only t [.counters, .path, .mcast] (regsOf ["CNT_HALF_LO", "CNT_HALF_HI", "BUF_STATUS",
            "BUF_LANDING_DROP_CNT", "MCAST_MEMBERS_USED"]))) ∧
    (∀ p sub bytes, p < 1024 → sub < 64 → s.isPort p = true → s.linkState p ≠ stDisabled →
      s.get (Reg.MAC_PORT_CTRL_LOOPBACK p) = 1 ∨ s.get (Reg.MAC_PORT_CTRL_LOOPBACK p) = 2 →
      (∀ b l, (s.port p).looped = b :: l → ∃ t, exec (.frameStart p sub bytes) s = .next t ∧ (t.port p).looped = l ∧
        (∀ x, t.frame s.path.nextFrame = some x → x.bytes = b) ∧ t.path.nextFrame = s.path.nextFrame + 1) ∧
      ((s.port p).looped = [] → ∃ t, exec (.frameStart p sub bytes) s = .next t ∧ s.only t [.ports] (keysOf []))) ∧
    (∀ p sub bytes, p < 1024 → sub < 64 → s.linkState p = stDisabled → ∃ t, exec (.frameStart p sub bytes) s = .next t ∧
      s.only t [] (keysOf [])) ∧
    (∀ f x, s.frame f = some x → x.stage = .received →
      (isControl x.bytes = false → s.funcUp .parse = true → s.pipeInflight (pipeOf x.port) < 96 →
        s.inTurn f x.port (fun y => y.stage == .received && !isControl y.bytes) = true →
        s.get (Reg.RULE_VER_STATE_INFLIGHT s.currentTag) + 1 < 2 ^ 13 →
        ∃ t, exec (.firstWordCrossing f) s = .next t ∧
        t.frame f = some { x with stage := .crossed, tag := s.currentTag, profile := s.get (Reg.PARSE_PORT_CFG_PROFILE x.port),
                                  default_ := s.defaultMark x.port } ∧
        t.get (Reg.RULE_VER_STATE_INFLIGHT s.currentTag) = s.get (Reg.RULE_VER_STATE_INFLIGHT s.currentTag) + 1 ∧
        (∀ g, g ≠ f → t.frame g = s.frame g) ∧ s.only t [.path] (keysOf [Reg.RULE_VER_STATE_INFLIGHT s.currentTag])) ∧
      (96 ≤ s.pipeInflight (pipeOf x.port) ∨ s.inTurn f x.port (fun y => y.stage == .received && !isControl y.bytes) = false →
        ∃ t, exec (.firstWordCrossing f) s = .next t ∧ s.only t [] (keysOf [])) ∧
      (isControl x.bytes = true → ∃ t, exec (.firstWordCrossing f) s = .next t ∧ t.frame f = some x ∧ s.only t [] (keysOf []))) ∧
    (∀ p f l x, (rotation 64 s.path.carryNext).find? (fun p => !(mapGet s.path.carry p []).isEmpty) = some p →
      mapGet s.path.carry p [] = f :: l → s.frame f = some x →
      ∃ t, exec .carryPass s = .next t ∧ t.frame f = some { x with stage := .crossed, pass := 1, carried := true } ∧
        mapGet t.path.carry p [] = l ∧ t.path.carryNext = (p + 1) % 64 ∧ (∀ g, g ≠ f → t.frame g = s.frame g) ∧
        t.get Reg.PARSE_CARRY_CNT_COUNT = min (2 ^ 32 - 1) (s.get Reg.PARSE_CARRY_CNT_COUNT + 1) ∧
        s.only t [.path] (keysOf [Reg.PARSE_CARRY_CNT_COUNT]))

/-- R203, R213 to R219: one pass of a frame, in the order of its port's frames (R28), matches its key and range inputs against the rules of its tag; without a winner
the port default applies and the frame is counted; a winner without CARRY gives its mark; a CARRY on the first pass sends the
frame to the carry loop with the rule's profile and tag while its pipe has fewer than 32 there, and else, or on the second
pass, its fall-back mark applies and it is counted. A header region that is too short is counted (R204). The lookup meets the parity errors of its version's rules (log entry 89). -/
def Obligations.OnePassMatchesAgainstTheFramesVersion : Prop :=
  ∀ (s : State) (f : Nat) (x : Frame), s.running = true → s.frame f = some x → x.stage = .crossed →
    s.inTurn f x.port (fun y => y.stage == .crossed && y.pass == x.pass) = true → ∀ b, b = x.bytes.take x.limit →
    ((walk b).trunc = false → ptpOffset b (walk b) = none →
      ∀ w, w = s.winner x.tag x.profile (s.profileKey x.profile b (walk b)
            (metaBlock b (walk b) x.port x.pass x.carryTag))
          ((List.range 4).map (s.rangeInput x.profile b (walk b)
            (metaBlock b (walk b) x.port x.pass x.carryTag))) →
        (w = none → x.default_.fwd ≠ 3 → ∃ t, exec (.classifyPass f) s = .next t ∧
          t.frame f = some { x with mark := x.default_, stage := .classified } ∧
          t.get Reg.PARSE_NOMATCH_CNT_COUNT = min (2 ^ 32 - 1) (s.get Reg.PARSE_NOMATCH_CNT_COUNT + 1) ∧
          s.only t [.path, .rules] (regsOf ["RULE_VER_STATE", "PARSE_NOMATCH_CNT", "PARSE_PARITY_LOC", "PARSE_STATUS"])) ∧
        (∀ r, w = some r → ruleCarries r = false → (ruleMark r).fwd ≠ 3 → ∃ t, exec (.classifyPass f) s = .next t ∧
          t.frame f = some { x with mark := ruleMark r, stage := .classified } ∧
          s.only t [.path, .rules] (regsOf ["RULE_VER_STATE", "PARSE_PARITY_LOC", "PARSE_STATUS"])) ∧
        (((w = none ∧ x.default_.fwd = 3) ∨ ∃ r, w = some r ∧ ruleCarries r = false ∧ (ruleMark r).fwd = 3) →
          ∃ t, exec (.classifyPass f) s = .next t ∧ (∀ y, t.frame f = some y → y.stage = .dropped ∧ y.beads = []) ∧
          (∀ k ∈ x.beads, mapFind t.buf.beads k = none)) ∧
        (∀ r, w = some r → ruleCarries r = true → x.pass ≠ 1 → (mapGet s.path.carry (pipeOf x.port) []).length < 32 →
          ∃ t, exec (.classifyPass f) s = .next t ∧
          t.frame f = some { x with stage := .carrying, profile := ruleCarryProfile r, carryTag := ruleCarryTag r } ∧
          mapGet t.path.carry (pipeOf x.port) [] = mapGet s.path.carry (pipeOf x.port) [] ++ [f] ∧
          s.only t [.path, .rules] (regsOf ["PARSE_PARITY_LOC", "PARSE_STATUS"])) ∧
        (∀ r, w = some r → ruleCarries r = true → x.pass ≠ 1 → 32 ≤ (mapGet s.path.carry (pipeOf x.port) []).length →
          (ruleMark r).fwd ≠ 3 → ∃ t, exec (.classifyPass f) s = .next t ∧
          t.frame f = some { x with mark := ruleMark r, stage := .classified } ∧
          t.get Reg.PARSE_CARRY_FULL_CNT_COUNT = min (2 ^ 32 - 1) (s.get Reg.PARSE_CARRY_FULL_CNT_COUNT + 1) ∧
          t.bit Reg.PARSE_STATUS_CARRY_FULL = true ∧
          s.only t [.path, .rules] (regsOf ["RULE_VER_STATE", "PARSE_CARRY_FULL_CNT", "PARSE_STATUS", "PARSE_PARITY_LOC"])) ∧
        (∀ r, w = some r → ruleCarries r = true → x.pass = 1 → (ruleMark r).fwd ≠ 3 →
          ∃ t, exec (.classifyPass f) s = .next t ∧ t.frame f = some { x with mark := ruleMark r, stage := .classified } ∧
          t.get Reg.PARSE_DEMOTED_CNT_COUNT = min (2 ^ 32 - 1) (s.get Reg.PARSE_DEMOTED_CNT_COUNT + 1) ∧
          t.bit Reg.PARSE_STATUS_DEMOTED = true ∧
          s.only t [.path, .rules] (regsOf ["RULE_VER_STATE", "PARSE_DEMOTED_CNT", "PARSE_STATUS", "PARSE_PARITY_LOC"]))) ∧
    ((walk b).trunc = true → ∃ t, exec (.classifyPass f) s = .next t ∧ t.bit Reg.PARSE_STATUS_TRUNC = true ∧
      t.get Reg.PARSE_TRUNC_CNT_COUNT = min (2 ^ 32 - 1) (s.get Reg.PARSE_TRUNC_CNT_COUNT + 1)) ∧
    (∀ o, ptpOffset b (walk b) = some o → x.pass = 0 → ptpSane b o = false →
      ∃ t, exec (.classifyPass f) s = .next t ∧ t.bit Reg.TIME_PTP_CTRL_BAD = true ∧
        t.get Reg.TIME_PTP_BAD_CNT_BAD_CNT = min (2 ^ 32 - 1) (s.get Reg.TIME_PTP_BAD_CNT_BAD_CNT + 1)) ∧
    (∀ t, exec (.classifyPass f) s = .next t → (∀ g, g ≠ f → t.frame g = s.frame g) ∧
      s.only t [.ports, .counters, .path, .rules, .mcast, .buf, .pair] (regsOf ["CNT_HALF_LO", "CNT_HALF_HI", "TIME_PTP_CTRL",
        "TIME_PTP_BAD_CNT", "PARSE_STATUS", "PARSE_CARRY_FULL_CNT", "PARSE_DEMOTED_CNT", "PARSE_NOMATCH_CNT", "PARSE_TRUNC_CNT",
        "RULE_VER_STATE", "BUF_POOL_USED", "BUF_POOL_SHARED", "BUF_STATUS", "BUF_XOFF_POOLS", "BUF_LANDING",
        "MCAST_MEMBERS_USED", "PARSE_PARITY_LOC"])) ∧
    (∀ r ∈ s.ruleSet x.tag, (s.ruleEntry r.2).bad = true → (s.ruleEntry r.2).met = false → ∃ t, exec (.classifyPass f) s = .next t ∧
      t.bit Reg.PARSE_STATUS_PARITY = true ∧ t.get Reg.PARSE_PARITY_LOC_VERSION = x.tag % 4)

/-- R243, R250, R252, R262, R269, R72 and Table 1-4, step 7: a frame whose mark says PUNT goes to the host; one to be bridged
takes the destination of its FDB entry, or of MISS_ACT of its ingress port; one to be routed takes the destination of the
longest matching route; a discard, or a way back without hairpin, drops the frame once its context lookup is done. R235, R279, R281,
R290 to R292: when its context arrives, what the lookup saw is attached to the frame and counted, an absent or lost one is counted
as absent, and a lost one is recorded.
Log entries 23 and 56: the model's choices or readings. -/
def Obligations.LookupsFixADestinationAndAContext : Prop :=
  ∀ (s : State) (f : Nat) (x : Frame), s.running = true → s.frame f = some x →
    (x.stage = .classified → s.inTurn f x.port (fun y => y.stage == .classified && y.carried == x.carried) = true →
      (2 ≤ x.mark.fwd → ∃ t y, exec (.forwardingLookup f) s = .next t ∧ t.frame f = some y ∧ y.destKind = 2 ∧ y.dest = 0 ∧
        y.punt = 1 ∧ y.mark = x.mark ∧ (y.stage = .forwarded ∨ y.stage = .fetching)) ∧
      (∀ vlan mac, vlan = s.frameVlan x.bytes x.port → mac = beNat (x.bytes.take 6) → x.mark.fwd = 0 → s.funcUp .fdb = true →
        (∀ p e, fdbFind s.fdb.entries vlan mac = some (p, e) → e.bad = false → e.kind ≠ 3 →
          (e.kind ≠ 0 ∨ e.dest ≠ s.logical x.port ∨ s.bit (Reg.FDB_PORT_CFG_HAIRPIN x.port) = true) →
          ∃ t y, exec (.forwardingLookup f) s = .next t ∧ t.frame f = some y ∧ y.destKind = e.kind ∧ y.dest = e.dest ∧
            y.punt = (if e.kind = 2 then 3 else 0) ∧ (y.stage = .forwarded ∨ y.stage = .fetching)) ∧
        (∀ p e, fdbFind s.fdb.entries vlan mac = some (p, e) → e.bad = false →
          (e.kind = 3 ∨ (e.kind = 0 ∧ e.dest = s.logical x.port ∧ s.bit (Reg.FDB_PORT_CFG_HAIRPIN x.port) = false)) →
          ∃ t, exec (.forwardingLookup f) s = .next t ∧ (∀ y, t.frame f = some y → (y.stage = .dropped ∧ y.beads = [] ∧
            y.dropOther = true) ∨ (y.stage = .fetching ∧ y.destKind = 3)) ∧
            (s.frameKey x = none → t.dropped f x.beads)) ∧
        (fdbFind s.fdb.entries vlan mac = none →
          (s.get (Reg.FDB_PORT_CFG_MISS_ACT x.port) = 1 → ∃ t y, exec (.forwardingLookup f) s = .next t ∧ t.frame f = some y ∧
            y.destKind = 1 ∧ y.dest = s.get (Reg.FDB_PORT_CFG_MISS_GROUP x.port) ∧ y.punt = 0) ∧
          (s.get (Reg.FDB_PORT_CFG_MISS_ACT x.port) = 2 → ∃ t y, exec (.forwardingLookup f) s = .next t ∧ t.frame f = some y ∧
            y.destKind = 2 ∧ y.dest = 0 ∧ y.punt = 2) ∧
          (s.get (Reg.FDB_PORT_CFG_MISS_ACT x.port) = 0 → ∃ t, exec (.forwardingLookup f) s = .next t ∧
            (∀ y, t.frame f = some y → (y.stage = .dropped ∧ y.beads = []) ∨ (y.stage = .fetching ∧ y.destKind = 3)) ∧
            (s.frameKey x = none → t.dropped f x.beads)))) ∧
      (∀ l3 e, x.mark.fwd = 1 → (walk x.bytes).l3 = some l3 → s.funcUp .lpm = true →
        (s.lpmMatch (walk x.bytes).v6 (if (walk x.bytes).v6 then beAt x.bytes (l3 + 24) 16 else beAt x.bytes (l3 + 16) 4)).1 = some e →
        e.kind ≠ 3 → (e.kind ≠ 0 ∨ e.dest ≠ s.logical x.port ∨ s.bit (Reg.FDB_PORT_CFG_HAIRPIN x.port) = true) →
        ∃ t y, exec (.forwardingLookup f) s = .next t ∧ t.frame f = some y ∧ y.destKind = e.kind ∧ y.dest = e.dest ∧
          y.punt = (if e.kind = 2 then 5 else 0)) ∧
      (∀ t, exec (.forwardingLookup f) s = .next t → s.only t [.ports, .counters, .path, .rules, .fdb, .lpm, .flow, .mcast, .buf, .host,
        .dram, .pair] (regsOf ["CNT_HALF_LO", "CNT_HALF_HI", "RULE_VER_STATE", "FDB_STATUS", "FDB_USED", "FDB_PARITY_LOC",
          "FDB_LEARN_DROP_CNT", "FDB_PARITY_CNT", "LPM_STATUS", "LPM_USED", "LPM_V4_COUNT", "LPM_V6_COUNT", "LPM_PARITY_LOC",
          "LPM_PARITY_CNT", "FLOW_STATUS", "FLOW_HIT_CNT", "FLOW_BYPASS_CNT", "FLOW_STALE_CNT", "BUF_POOL_USED", "BUF_POOL_SHARED",
          "BUF_STATUS", "BUF_XOFF_POOLS", "BUF_LANDING", "BUF_REF_LIMIT_CNT", "DRAM_STATUS", "SPAN_STATUS", "DRAM_ROW_GUARD_CNT",
          "FLOW_USED", "FLOW_POISON_LOC", "MCAST_MEMBERS_USED"]))) ∧
    (x.stage = .fetching → s.dramServes = true → ∀ (r : FetchRead) (done : Frame → State → Prop),
      (done = fun y t => (x.destKind ≠ 3 → t.frame f = some { y with stage := .forwarded }) ∧ (x.destKind = 3 → t.dropped f x.beads)) →
      (∀ i pol ovr, x.seen = some (i, pol, ovr) →
        (r.tag0.ecc ≠ .uncorrectable → r.tag1.ecc ≠ .uncorrectable → r.place.ecc ≠ .uncorrectable → s.dram.errs = [] →
          s.flow.bad = [] → (∀ pc, s.pcFailed pc = false) → ∃ t, exec (.contextFetchDone f r) s = .next t ∧
          done (attachContext x i pol ovr) t ∧
          t.get Reg.FLOW_MISS_CNT_COUNT = min (2 ^ 32 - 1) (s.get Reg.FLOW_MISS_CNT_COUNT + 1)) ∧
        (r.place.ecc = .uncorrectable → r.place.burst < 2 → s.dram.writes = [] → s.cached i = false →
          ∃ t, exec (.contextFetchDone f r) s = .next t ∧ done x t ∧
            t.get Reg.FLOW_ABSENT_CNT_COUNT = min (2 ^ 32 - 1) (s.get Reg.FLOW_ABSENT_CNT_COUNT + 1) ∧
            ((mapFind s.flow.contexts i).any (·.key == x.session) = true →
              t.bit Reg.FLOW_STATUS_POISON = true ∧ t.bit Reg.FLOW_POISON_LOC_KEY = true))) ∧
      (x.seen = none → ∃ t, exec (.contextFetchDone f r) s = .next t ∧ done x t ∧ t.flow = s.flow ∧
        t.get Reg.FLOW_ABSENT_CNT_COUNT = min (2 ^ 32 - 1) (s.get Reg.FLOW_ABSENT_CNT_COUNT + 1)) ∧
      (∀ t, exec (.contextFetchDone f r) s = .next t → s.only t [.ports, .counters, .path, .rules, .flow, .mcast, .buf, .dram, .pair]
        (regsOf ["CNT_HALF_LO", "CNT_HALF_HI", "RULE_VER_STATE", "FLOW_STATUS", "FLOW_USED", "FLOW_POISON_LOC", "FLOW_MISS_CNT",
          "FLOW_ABSENT_CNT", "FLOW_STALE_CNT", "BUF_POOL_USED", "BUF_POOL_SHARED", "BUF_STATUS", "BUF_XOFF_POOLS", "BUF_LANDING",
          "MCAST_MEMBERS_USED", "DRAM_STATUS", "DRAM_ERR_LOC", "DRAM_CORR_CNT", "DRAM_UNCORR_CNT", "DRAM_ROW_GUARD_CNT"])))

/-- R303 in its order, R173, R176, R298, R305: at admission a frame of 63 bytes or fewer, one that its policer turns away, and
one for which its pool has no beads are dropped and free their beads; the others move their beads from landing to the pool of
their class and their copies are walked. R28: the earlier frames of its port come first. R97, R298, R304: a frame takes its next bead from where its beads lie; an admitted one
that finds none ends at the bytes it holds; a frame is cut at its limit. R27, R79, R89: the end of a frame is counted
and kept with it; a MAC control frame, and a frame of a port that was not up, are consumed.
Log entries 24, 26, 28 and 54: the model's choices or readings. -/
def Obligations.AdmissionBeadsAndTheEndOfAFrame : Prop :=
  ∀ (s : State) (f : Nat) (x : Frame), s.running = true → s.frame f = some x →
    (x.stage = .forwarded → s.inTurn f x.port (fun y => y.unadmitted && y.carried == x.carried) = true →
      (x.bytes.length ≤ 63 → ∃ t, exec (.admission f) s = .next t ∧
        (∀ y, t.frame f = some y → y.stage = .dropped ∧ y.beads = []) ∧ (∀ b ∈ x.beads, mapFind t.buf.beads b = none)) ∧
      (∀ y, 64 ≤ x.bytes.length → (s.police f).frame f = some y →
        (y.verdict = some false → ∃ t, exec (.admission f) s = .next t ∧ t.counter x.port 30 = (s.counter x.port 30 + 1) % 2 ^ 40 ∧
          (∀ z, t.frame f = some z → z.stage = .dropped ∧ z.beads = []) ∧ (∀ b ∈ x.beads, mapFind t.buf.beads b = none)) ∧
        (y.verdict = some true → s.recordOrDrop y = true → s.cannotRecord y = true → ∃ t, exec (.admission f) s = .next t ∧
          t.counter x.port 32 = (s.counter x.port 32 + 1) % 2 ^ 40 ∧ t.bit Reg.TALLY_STATUS_RECORD_DROP = true ∧ t.dropped f x.beads) ∧
        (y.verdict = some true → s.recordOrDrop y = false → ∀ pool, pool = s.get (Reg.BUF_CLASS_CFG_POOL x.mark.cls) →
          s.colourDrop pool x.mark.colour = false →
          (∀ v, moveBeads pool x.beads ((s.police f).turnOn pool) = some v → s.funcUp .tm = true → x.copies ≠ 0 → x.plan ≠ [] →
            ∃ t z, exec (.admission f) s = .next t ∧ t.frame f = some z ∧ z.stage = .walking ∧ z.landing = false ∧ z.pool = pool ∧
              z.beads = x.beads ∧ z.plan = x.plan ∧ z.copies = x.copies ∧ t.buf = v.buf ∧
              mapGet t.path.replicators (requesterOf x) [] = mapGet s.path.replicators (requesterOf x) [] ++ [f]) ∧
          (moveBeads pool x.beads ((s.police f).turnOn pool) = none → ∃ t, exec (.admission f) s = .next t ∧
            t.counter x.port 31 = (s.counter x.port 31 + 1) % 2 ^ 40 ∧ t.bit Reg.BUF_STATUS_DROP = true ∧
            t.get Reg.BUF_DROP_CNT_COUNT = min (2 ^ 32 - 1) (s.get Reg.BUF_DROP_CNT_COUNT + 1) ∧
            (∀ z, t.frame f = some z → z.stage = .dropped ∧ z.beads = []) ∧ (∀ b ∈ x.beads, mapFind t.buf.beads b = none)))) ∧
      (∀ t, exec (.admission f) s = .next t → s.only t [.ports, .counters, .events, .path, .rules, .mcast, .buf, .tm, .tally, .host, .pair]
        (regsOf ["CNT_HALF_LO", "CNT_HALF_HI", "TALLY_STATUS", "TALLY_RING_LEVEL", "TALLY_LOST_CNT", "RULE_VER_STATE",
          "BUF_POOL_USED", "BUF_POOL_SHARED", "BUF_STATUS", "BUF_XOFF_POOLS", "BUF_LANDING", "BUF_BAD_FREE_LOC", "BUF_DROP_CNT",
          "BUF_HEADROOM_CNT", "BUF_BAD_FREE_CNT", "RING_DEV_INDEX", "MCAST_MEMBERS_USED", "RING_CFG"]))) ∧
    (x.needsBead = true →
      (∀ b u, x.landing = true → s.takeLanding (pipeOf x.port) x.port (max 1 x.copies) = some (b, u) →
        ∃ t, exec (.furtherBeadRequest f) s = .next t ∧ t.frame f = some { x with beads := x.beads ++ [b] } ∧ t.buf = u.buf ∧
          s.only t [.path, .buf] (regsOf ["BUF_LANDING"])) ∧
      (x.landing = true → s.takeLanding (pipeOf x.port) x.port (max 1 x.copies) = none → ∃ t, exec (.furtherBeadRequest f) s = .next t ∧
        t.counter x.port 31 = (s.counter x.port 31 + 1) % 2 ^ 40 ∧ t.bit Reg.BUF_STATUS_LANDING = true ∧ t.dropped f x.beads) ∧
      (∀ b u, x.landing = false → x.copies ≠ 0 → (s.turnOn x.pool).takePool x.pool x.port x.copies = some (b, u) →
        ∃ t, exec (.furtherBeadRequest f) s = .next t ∧ t.frame f = some { x with beads := x.beads ++ [b] } ∧ t.buf = u.buf) ∧
      (x.landing = false → x.copies ≠ 0 → (s.turnOn x.pool).takePool x.pool x.port x.copies = none →
        ∃ t, exec (.furtherBeadRequest f) s = .next t ∧ t.frame f = some { x with heldLen := some (256 * x.beads.length) } ∧
          t.counter (x.port % 1024) 31 = (s.counter (x.port % 1024) 31 + 1) % 2 ^ 40 ∧ t.bit Reg.BUF_STATUS_DROP = true ∧
          t.get Reg.BUF_DROP_CNT_COUNT = min (2 ^ 32 - 1) (s.get Reg.BUF_DROP_CNT_COUNT + 1) ∧
          s.only t [.counters, .path, .buf] (regsOf ["CNT_HALF_LO", "CNT_HALF_HI", "BUF_STATUS", "BUF_DROP_CNT",
            "BUF_HEADROOM_CNT"]))) ∧
    (x.heldLen = none → x.limit < x.bytes.length → x.limit ≤ 256 * x.beads.length → ∃ t, exec (.frameTruncate f) s = .next t ∧
      t.frame f = some { x with truncated := true, heldLen := some x.limit } ∧ (∀ g, g ≠ f → t.frame g = s.frame g) ∧
      (∀ bank, mapGet t.fdb.learn bank [] = (mapGet s.fdb.learn bank []).map fun r =>
        { r with frames := r.frames.map fun k => if k.1 = f then (f, true) else k }) ∧ s.only t [.path, .fdb] (keysOf [])) ∧
    (∀ fcs code, x.ended = false → x.inject = none →
      (x.stage = .outside ∨ isControl x.bytes = true → ∃ t, exec (.frameEnd f fcs code) s = .next t ∧ t.frame f = none ∧
        (x.stage ≠ .outside → ∀ b ∈ x.beads, mapFind t.buf.beads b = none)) ∧
      (x.stage ≠ .outside → isControl x.bytes = false → x.bytes.length ≤ x.limit → x.heldLen = none →
        x.bytes.length ≤ 256 * x.beads.length → ∃ t, exec (.frameEnd f fcs code) s = .next t ∧
          (∀ y, t.frame f = some y → y = { x with ended := true, fcs := some fcs, codeErr := code }) ∧
          ((x.copies ≠ 0 ∨ (x.stage ≠ .dropped ∧ x.stage ≠ .linked)) →
            t.frame f = some { x with ended := true, fcs := some fcs, codeErr := code })) ∧
      (∀ i, i < 56 → ∃ t, exec (.frameEnd f fcs code) s = .next t ∧
        (x.stage ≠ .outside → isControl x.bytes = false → x.bytes.length ≤ 256 * x.beads.length →
          t.counter x.port i = (s.countRx x.port x.limit x.bytes fcs code).counter x.port i)) ∧
      (∀ t, exec (.frameEnd f fcs code) s = .next t → s.only t [.ports, .counters, .path, .rules, .fdb, .flow, .mcast, .buf, .tm, .dram, .pair]
        (regsOf ["CNT_HALF_LO", "CNT_HALF_HI", "RULE_VER_STATE", "FLOW_STALE_CNT", "BUF_POOL_USED", "BUF_POOL_SHARED", "BUF_STATUS",
          "BUF_XOFF_POOLS", "BUF_LANDING", "BUF_HEADROOM_CNT", "BUF_LANDING_DROP_CNT", "DRAM_STATUS", "BUF_DROP_CNT", "FLOW_STATUS",
          "FLOW_USED", "FLOW_POISON_LOC", "MCAST_MEMBERS_USED", "DRAM_ROW_GUARD_CNT"])))

/-- R336 to R340, R595, R328, R329, R331, Table 12-3: a replicator offers the next copy of its first frame. A ready copy is linked at
once at the tail of its rod: it has a place among the two that the link stage of its egress pipe takes in a handshake, and no copy of
its rod waits. Another joins the residue, and while that holds 4,096 copies of the pipe the walk stalls (log entries 23, 97). The link
stage makes a copy when its port is up, the copy store has room and the rod is below its limit; a copy for a port that is not up, or is
cut off by loopback 3, is refused. Copies for one rod are linked in the order of their offer.
Log entries 23, 28 and 29: the model's choices or readings. -/
def Obligations.CopiesAreOfferedAndLinkedInOrder : Prop :=
  ∀ s : State, s.running = true → ∀ accepts : Nat → Nat → Prop,
    (accepts = fun egress rod => s.portUp egress = true ∧ s.get (Reg.MAC_PORT_CTRL_LOOPBACK egress) ≠ 3 ∧ s.usedCopies < 1048576 ∧
      (s.get (Reg.QUE_ROD_LIMIT_LIMIT rod) = 0 ∨ s.rodDepth rod < s.get (Reg.QUE_ROD_LIMIT_LIMIT rod) * 16)) →
    (∀ pipe places f l x p rod c, pipe < 65 → mapGet s.path.replicators pipe [] = f :: l → s.frame f = some x →
      x.plan[x.walked]? = some p → rod = p.egress * 16 + p.queue → c = s.path.nextCopy →
      ∀ ready, ready = (decide (0 < min places (s.placesLeft (pipeOf p.egress))) && (s.residue rod).isEmpty && (s.offersOf rod).isEmpty) →
        (ready = false → 4096 ≤ s.residueCount (pipeOf p.egress) → ∃ t, exec (.replicatorOffer pipe places) s = .next t ∧
          s.only t [] (keysOf [])) ∧
        (ready = false → s.residueCount (pipeOf p.egress) < 4096 →
          ∃ t y, exec (.replicatorOffer pipe places) s = .next t ∧ t.copy c = some y ∧ y.frame = f ∧
            y.egress = p.egress ∧ y.queue = p.queue ∧ y.mirror = p.mirror ∧ y.linked = false ∧ y.place = .onDie ∧
            (p.kind.isMirror = false → y.kind = p.kind) ∧
            (∀ n k, p.kind = .ingMirror n k → y.kind = .ingMirror n (mapGet s.path.mirrorSeq n 0) ∧
              mapGet t.path.mirrorSeq n 0 = (mapGet s.path.mirrorSeq n 0 + 1) % 2 ^ 32) ∧
            t.path.nextCopy = c + 1 ∧ (∀ k, k ≠ c → t.copy k = s.copy k) ∧ t.path.offered = s.path.offered ∧
            t.residue rod = s.residue rod ++ [c] ∧
            (x.walked + 1 < x.plan.length → t.frame f = some { x with walked := x.walked + 1 }) ∧
            (x.plan.length ≤ x.walked + 1 → mapGet t.path.replicators pipe [] = l) ∧
            s.only t [.path, .mcast] (regsOf ["MCAST_MEMBERS_USED"])) ∧
        (ready = true → (∀ q, c ∉ s.rod q) → accepts p.egress rod →
          ∃ t y, exec (.replicatorOffer pipe places) s = .next t ∧ t.copy c = some y ∧ y.frame = f ∧ y.egress = p.egress ∧
            y.queue = p.queue ∧ y.linked = true ∧ y.linkedAt = s.cycle ∧ t.rod rod = s.rod rod ++ [c] ∧
            t.path.nextCopy = c + 1 ∧ (∀ k, k ≠ c → t.copy k = s.copy k) ∧
            (x.plan.length ≤ x.walked + 1 → mapGet t.path.replicators pipe [] = l) ∧
            s.only t [.path, .tm, .mcast] (regsOf ["MCAST_MEMBERS_USED", "BUF_STATUS", "BUF_SPILL_FULL_CNT", "QUE_COPIES"])) ∧
        (ready = true → s.portUp p.egress = false ∨ s.get (Reg.MAC_PORT_CTRL_LOOPBACK p.egress) = 3 →
          ∃ t, exec (.replicatorOffer pipe places) s = .next t ∧ t.copy c = none ∧ t.path.nextCopy = c + 1 ∧
            ∀ q, s.portOfLane p.egress = some q → t.counter q 54 = (s.counter q 54 + 1) % 2 ^ 40)) ∧
    (∀ c x, s.copy c = some x → ∀ linked refused : State → Prop,
      (linked = fun t => t.copy c = some { x with linked := true, linkedAt := s.cycle } ∧
            t.rod x.rod = s.rod x.rod ++ [c] ∧ c ∉ t.path.offered ∧ c ∉ t.residue x.rod ∧ (∀ q, q ≠ x.rod → t.rod q = s.rod q) ∧
            (∀ d, d ≠ c → t.copy d = s.copy d) ∧ t.path.frames = s.path.frames ∧
            s.only t [.path, .tm] (regsOf ["BUF_STATUS", "BUF_SPILL_FULL_CNT", "QUE_COPIES"])) →
      (refused = fun t => t.copy c = none ∧ c ∉ t.path.offered ∧ c ∉ t.residue x.rod ∧ t.path.rods = s.path.rods ∧
            (x.kind.isMirror = true → t.bit Reg.MIRROR_STATUS_DROP = true) ∧
            (∀ p, s.portOfLane x.egress = some p → t.counter p 54 = (s.counter p 54 + 1) % 2 ^ 40)) →
      ((s.offersOf x.rod).head? = some c → (s.residue x.rod).any (· < c) = false → 0 < s.placesLeft (pipeOf x.egress) →
        (accepts x.egress x.rod → ∃ t, exec (.copyLink c) s = .next t ∧ linked t) ∧
        ((s.portUp x.egress = false ∨ s.get (Reg.MAC_PORT_CTRL_LOOPBACK x.egress) = 3) → x.linked = false →
          ∃ t, exec (.copyLink c) s = .next t ∧ refused t)) ∧
      ((s.offersOf x.rod).head? = some c → s.placesLeft (pipeOf x.egress) = 0 → s.residueCount (pipeOf x.egress) < 4096 →
        ∃ t, exec (.copyLink c) s = .next t ∧ c ∉ t.path.offered ∧ c ∈ t.residue x.rod ∧ t.copy c = some x ∧
          t.path.rods = s.path.rods ∧ s.only t [.path] (keysOf [])) ∧
      (x.rod < 16384 → (s.residue x.rod).head? = some c → (s.offersOf x.rod).any (· < c) = false → s.linksNow (pipeOf x.egress) < 2 →
        (accepts x.egress x.rod → ∃ t, exec (.residueLink x.rod) s = .next t ∧ linked t) ∧
        ((s.portUp x.egress = false ∨ s.get (Reg.MAC_PORT_CTRL_LOOPBACK x.egress) = 3) → x.linked = false →
          ∃ t, exec (.residueLink x.rod) s = .next t ∧ refused t)) ∧
      (x.rod < 16384 → (s.residue x.rod).head? = some c → 2 ≤ s.linksNow (pipeOf x.egress) →
        ∃ t, exec (.residueLink x.rod) s = .next t ∧ s.only t [] (keysOf []))) ∧
    (∀ com t, ((∃ c, com = Instr.copyLink c) ∨ (∃ q, com = Instr.residueLink q) ∨ ∃ pipe n, com = Instr.replicatorOffer pipe n) →
      exec com s = .next t → s.only t [.ports, .counters, .events, .path, .mcast, .buf, .tm, .tally, .host, .pair]
      (regsOf ["CNT_HALF_LO", "CNT_HALF_HI", "TALLY_STATUS", "TALLY_RING_LEVEL", "TALLY_LOST_CNT", "BUF_POOL_USED", "BUF_POOL_SHARED",
        "BUF_STATUS", "BUF_XOFF_POOLS", "BUF_LANDING", "BUF_BAD_FREE_LOC", "BUF_BAD_FREE_CNT", "BUF_SPILL_FULL_CNT", "BUF_SPILL_USED",
        "QUE_STATUS", "QUE_COPIES", "QUE_TAIL_DROP_CNT", "QUE_COPY_FULL_CNT", "MIRROR_SESSION_DROP", "MIRROR_STATUS", "RING_DEV_INDEX",
        "RING_CFG", "MCAST_MEMBERS_USED"]))

/-- R362 to R365, R367, R371, R372: a port in UP without a picked copy picks the head of the queue that is best among those
eligible, by level, then finish tag, then number, once heads that may not leave are gone and each queue has been looked at; its
shapers are debited. R26, R141, R160 to R164: a picked copy starts unless it is paused, early, or the device yields: its
egress stamp is taken and it leaves its rod; a held copy crosses the read stage 6.60 ns before its release. R174, R314, R367:
at its end the bytes are counted and go out, unless the interlock gated its start (R529), its record is formed and it is forgotten. Of
held heads none of which is late, the one that releases first is picked (R165).
Log entries 31, 32 and 33: the model's choices or readings. -/
def Obligations.PortsPickStartAndEndTransmissions : Prop :=
  ∀ (s : State) (p : Nat), s.running = true → p < 1024 →
    (∀ u, s.portUp p = true → (s.port p).picked = none → s.funcUp .tm = true →
      u = (((List.range 16).map (16 * p + ·)).foldl (fun s q => s.lookAt q)
        (((List.range 16).map (16 * p + ·)).foldl (fun s q => cleanRod (s.rod q).length q s) s)) →
      (u.eligible p = [] → ∃ t, exec (.schedulerPick p) s = .next t ∧ (t.port p).picked = (u.port p).picked) ∧
      (u.eligible p ≠ [] → (∀ q ∈ u.eligible p, u.headRelease q = none) →
        ∃ t q c x f, exec (.schedulerPick p) s = .next t ∧ q ∈ u.eligible p ∧ (∀ q' ∈ u.eligible p, q' ≠ q → u.prefers q q' = true) ∧
          u.headOf q = some (c, x, f) ∧
          (t.port p).picked = some ⟨c, u.charged x, u.getS (Reg.TM_PORT_CFG_OVERHEAD p), none, true⟩ ∧
          t.shaper q = (u.shaper q).debit (u.charged x) ∧ t.shaper (portShaper p) = (u.shaper (portShaper p)).debit (u.charged x) ∧
          t.vtime p (u.tag q).level = max (u.vtime p (u.tag q).level) (u.tag q).start ∧ t.path = u.path) ∧
      (u.eligible p ≠ [] → (∀ q ∈ u.eligible p, u.headRelease q ≠ none ∧ u.headLate q = false) →
        ∃ t q c x f, exec (.schedulerPick p) s = .next t ∧ q ∈ u.eligible p ∧ u.headOf q = some (c, x, f) ∧
          (t.port p).picked = some ⟨c, u.charged x, u.getS (Reg.TM_PORT_CFG_OVERHEAD p), some (u.releaseAt p f), u.presNone⟩ ∧
          (∀ q' ∈ u.eligible p, u.releaseAt p f ≤ (u.headRelease q').getD 0) ∧ t.path = u.path)) ∧
    (∀ k x f sub, (s.port p).picked = some k → s.copy k.copy = some x → s.frame x.frame = some f → x.egress = p →
      (k.crossed = true → sub < 64 → (∀ r, k.release = some r → s.presNone = true ∨ r ≤ s.clockAt 0 sub) → (s.port p).tx = none →
        s.portUp p = true → s.isPaused x.rod = false → s.pairState ≠ paYielding →
        ∃ t, exec (.transmitStart p sub) s = .next t ∧ (t.port p).picked = none ∧
          (∃ y, (t.port p).tx = some y ∧ y.pick = k ∧ y.trailer = s.get (Reg.STAMP_PORT_CTRL_TRAILER p) ∧
            (∀ n, n = s.stampClock (f.bytes.take f.limit) → y.stamp = stampOf (s.egressTime p sub n) (s.clockFlags n)) ∧
            y.gated = s.gates p ∧
            (k.release = none → y.late = false) ∧ (∀ r, k.release = some r → s.presNone = true → y.late = true ∧
              t.bit Reg.STAMP_LL_STATUS_LATE = true ∧ t.counter p 56 = (s.counter p 56 + 1) % 2 ^ 40)) ∧
          (x.linked = true → t.rod x.rod = (s.rod x.rod).filter (· != k.copy)) ∧ t.path.frames = s.path.frames ∧
          s.only t [.ports, .counters, .path, .tm, .pair] (regsOf ["CNT_HALF_LO", "CNT_HALF_HI", "STAMP_LL_STATUS"])) ∧
      (∀ r, k.release = some r → k.crossed = false → (s.presNone = true ∨ readRelease r ≤ s.clockAt 0 0) →
        (f.damaged = false → ∃ t, exec (.llRelease p) s = .next t ∧ (t.port p).picked = some { k with crossed := true } ∧
          s.only t [.ports] (keysOf [])) ∧
        (f.damaged = true → x.linked = true → ∃ t, exec (.llRelease p) s = .next t ∧ t.copy k.copy = none ∧
          k.copy ∉ t.rod x.rod ∧ (t.port p).picked = none))) ∧
    (∀ d x f b, (s.port p).tx = some d → s.copy d.pick.copy = some x → s.frame x.frame = some f → f.ended = true →
      b = s.txBytes x f d.stamp d.trailer → ∃ t, exec (.transmitEnd p) s = .next t ∧ (t.port p).tx = none ∧ t.copy d.pick.copy = none ∧
        (∀ k, k ≠ d.pick.copy → t.copy k = s.copy k) ∧
        ((∀ n, s.get (Reg.BUF_POOL_XOFF_XOFF n) = 0 ∧ s.inXoff n = false) → (s.port p).control = [] →
          (∀ i, t.counter p i = (s.countTx p b (stomps x f)).counter p i) ∧
          (d.gated = true → (t.port p).lastTx = (s.port p).lastTx ∧ (t.port p).looped = (s.port p).looped) ∧
          (d.gated = false →
            (s.get (Reg.MAC_PORT_CTRL_LOOPBACK p) = 1 ∨ s.get (Reg.MAC_PORT_CTRL_LOOPBACK p) = 2 →
              (t.port p).looped = (s.port p).looped ++ [b]) ∧
            (s.get (Reg.MAC_PORT_CTRL_LOOPBACK p) = 0 → s.portIdle p = false → s.bit (Reg.MAC_PORT_STATUS_LOCAL_FAULT p) = false →
              s.bit (Reg.MAC_PORT_STATUS_REMOTE_FAULT p) = false → (t.port p).lastTx = b))) ∧
        (∀ g, t.frame x.frame = some g → g.copies = f.copies - 1) ∧
        s.only t [.ports, .counters, .events, .path, .buf, .tm, .tally, .host, .pair] (regsOf ["CNT_HALF_LO", "CNT_HALF_HI",
          "TALLY_STATUS", "TALLY_RING_LEVEL", "TALLY_LOST_CNT", "BUF_POOL_USED", "BUF_POOL_SHARED", "BUF_STATUS", "BUF_XOFF_POOLS",
          "BUF_LANDING", "BUF_BAD_FREE_LOC", "BUF_BAD_FREE_CNT", "QUE_COPIES", "RING_DEV_INDEX", "RING_CFG"]))

/-! ### Rule versions (chapters 7 and 8) -/

/-- R208: a profile other than 0 is made valid only when DRAINED, and set to VALID = 0 only while no port and no rule names it;
then DRAINED is 0 until no frame in classification waits for it. R238, R239: a DRAINING tag without frames becomes FREE, and one
that still has frames 10 µs after its switch is reported.
Log entry 50: the model's choice or reading. -/
def Obligations.ProfilesAndTagsDrainBeforeReuse : Prop :=
  ∀ s : State,
    (∀ n v, s.served → s.funcUp .parse = true → 1 ≤ n → n < 64 → v < 2 ^ 32 → within v 0x33F0F = true →
      bits v 0 4 = s.get (Reg.PARSE_PROF_CTRL_RANGE_EN n) →
      (bitOf v 16 = true → s.bit (Reg.PARSE_PROF_CTRL_DRAINED n) = true →
        s.takes (.profileValidWrite n v) [] (keysOf [Reg.PARSE_PROF_CTRL_VALID n]) fun t => t.bit (Reg.PARSE_PROF_CTRL_VALID n) = true) ∧
      (bitOf v 16 = true → s.bit (Reg.PARSE_PROF_CTRL_DRAINED n) = false → s.turnsAway (.profileValidWrite n v) .busy) ∧
      (bitOf v 16 = false → s.profileNamed n = true →
        s.turnsAway (.profileValidWrite n v) .busy) ∧
      (bitOf v 16 = false → s.profileNamed n = false →
        s.takes (.profileValidWrite n v) [.rules] (keysOf [Reg.PARSE_PROF_CTRL_VALID n, Reg.PARSE_PROF_CTRL_DRAINED n]) fun t =>
          t.bit (Reg.PARSE_PROF_CTRL_VALID n) = false ∧ t.bit (Reg.PARSE_PROF_CTRL_DRAINED n) = false ∧
          mapFind t.rules.profileWait n =
            some ((s.path.frames.filter fun e => e.2.stage == .crossed || e.2.stage == .carrying).map (·.1)))) ∧
    (∀ n, s.running = true → n < 64 →
      (mapFind s.rules.profileWait n = some [] → ∃ t, exec (.profileDrained n) s = .next t ∧
        t.bit (Reg.PARSE_PROF_CTRL_DRAINED n) = true ∧ mapFind t.rules.profileWait n = none ∧
        s.only t [.rules] (keysOf [Reg.PARSE_PROF_CTRL_DRAINED n])) ∧
      (∀ f l, mapFind s.rules.profileWait n = some (f :: l) → ∃ t, exec (.profileDrained n) s = .next t ∧ s.only t [] (keysOf []))) ∧
    (∀ tag, s.running = true → tag < 4 → s.tagState tag = 2 →
      (s.get (Reg.RULE_VER_STATE_INFLIGHT tag) = 0 → ∃ t, exec (.tagDrained tag) s = .next t ∧ t.tagState tag = 0 ∧
        t.ruleSet tag = [] ∧ (∀ k, k ≠ tag → t.ruleSet k = s.ruleSet k) ∧
        s.only t [.rules] (regsOf ["RULE_VER_STATE", "RULE_VER_NUM", "RULE_STORE_USED", "RULE_STAGE_STATUS"])) ∧
      (s.get (Reg.RULE_VER_STATE_INFLIGHT tag) ≠ 0 →
        (∃ t, exec (.tagDrained tag) s = .next t ∧ s.only t [] (keysOf [])) ∧
        (mapGet s.rules.drainFrom tag 0 + 10 * usCycles ≤ s.cycle → ∃ t, exec (.drainStuck tag) s = .next t ∧
          t.bit Reg.RULE_STATUS_DRAIN_STUCK = true ∧ s.only t [] (keysOf [Reg.RULE_STATUS_DRAIN_STUCK]))))

/-- R436, R212, R219, R224, R225, R228 to R230, R211: NOP completes OK. A staged rule stands in the staged set and in no version;
a staged removal takes its number out of it; a discard returns the staged set to the CURRENT version; a commit gives
the staged set the lowest FREE tag, which becomes CURRENT with the next number, while the old tag drains; without a change it
answers the CURRENT tag, and without a FREE tag VERSION_LIMIT; a commit whose routine has chosen its tag takes that. A rule is read by tag and number; a failing one is answered PARITY. A comparator that an enabled range term
names cannot be written.
Log entry 52: the model's choice or reading. -/
def Obligations.StagedRulesTakeEffectAtACommit : Prop :=
  ∀ (s : State) (c : CmdIn),
    (s.accepts 0x00 c → s.answers (.nop c) 0x00 c CmdRes.ok) ∧
    (s.accepts 0x10 c → (s.ruleOk c.input = false → s.answers (.ruleStage c) 0x10 c CmdRes.input) ∧
      (s.ruleOk c.input = true → leAt c.input 3 1 = 0 → s.ends (.ruleStage c) 0x10 c CmdRes.ok [.rules]
        (regsOf ["RULE_STORE_USED", "RULE_STAGE_STATUS"]) fun t => mapFind t.stagedSet (ruleNum c.input) = none ∧
          (∀ m, m ≠ ruleNum c.input → mapFind t.stagedSet m = mapFind s.stagedSet m) ∧ t.rules.sets = s.rules.sets) ∧
      (s.ruleOk c.input = true → leAt c.input 3 1 = 1 → s.rules.entries.length < 65536 → s.ends (.ruleStage c) 0x10 c CmdRes.ok [.rules]
        (regsOf ["RULE_STORE_USED", "RULE_STAGE_STATUS"]) fun t =>
          (∃ e, mapFind t.stagedSet (ruleNum c.input) = some e ∧ t.ruleEntry e = ⟨c.input, false, false⟩) ∧
          (∀ m, m ≠ ruleNum c.input → mapFind t.stagedSet m = mapFind s.stagedSet m) ∧ t.rules.sets = s.rules.sets)) ∧
    (s.accepts 0x11 c → s.ends (.ruleDiscard c) 0x11 c CmdRes.ok [.rules] (regsOf ["RULE_STORE_USED", "RULE_STAGE_STATUS"])
      fun t => t.stagedSet = s.ruleSet s.currentTag ∧ t.rules.sets = s.rules.sets ∧ t.get Reg.RULE_STAGE_STATUS_CHANGES = 0) ∧
    (s.accepts 0x12 c → s.chosenTag c = none →
      (s.rules.changes = [] → s.ends (.ruleCommit c) 0x12 c s.commitResult [.reck] (keysOf []) fun t => t.rules = s.rules) ∧
      (s.rules.changes ≠ [] → s.freeTag = none → s.ends (.ruleCommit c) 0x12 c (CmdRes.of .versionLimit) [.reck] (keysOf [])
        fun t => t.rules = s.rules)) ∧
    (s.acceptsLong 0x12 c →
      (∀ k, s.chosenTag c = some k ∨ (s.chosenTag c = none ∧ s.rules.changes ≠ [] ∧ s.freeTag = some k) → k < 4 → k ≠ s.currentTag →
        s.currentTag < 4 → s.get (Reg.RULE_VER_NUM_NUM s.currentTag) + 1 < 2 ^ 32 →
        s.ends (.ruleCommit c) 0x12 c { CmdRes.ok with
            result := [BitVec.ofNat 8 k, 0, 0, 0] ++ leBytes 4 (s.get (Reg.RULE_VER_NUM_NUM s.currentTag) + 1) } [.rules, .pair, .reck]
          (regsOf ["RULE_STATUS", "RULE_VER_STATE", "RULE_VER_NUM", "RULE_STORE_USED", "RULE_STAGE_STATUS", "PAIR_MIRROR_LEVEL"])
          fun t => t.currentTag = k ∧ t.tagState k = 1 ∧ t.tagState s.currentTag = 2 ∧ t.ruleSet k = s.stagedSet ∧
            t.stagedSet = s.stagedSet ∧ t.rules.changes = [] ∧ (∀ j, j ≠ k → t.ruleSet j = s.ruleSet j) ∧
            t.get (Reg.RULE_VER_NUM_NUM k) = s.get (Reg.RULE_VER_NUM_NUM s.currentTag) + 1)) ∧
    (s.accepts 0x13 c → ∀ k m, k = bits c.param 16 3 → m = (if k = 4 then s.stagedSet else s.ruleSet k) →
      (4 < k ∨ (k < 4 ∧ (s.tagState k = 0 ∨ s.tagState k = 3)) → s.answers (.ruleRead c) 0x13 c CmdRes.field) ∧
      (k = 4 ∨ (k < 4 ∧ s.tagState k ≠ 0 ∧ s.tagState k ≠ 3) →
        (mapFind m (bits c.param 0 15) = none → s.answers (.ruleRead c) 0x13 c (CmdRes.of .notFound)) ∧
        (∀ e, mapFind m (bits c.param 0 15) = some e →
          ((s.ruleEntry e).bad = false → s.answers (.ruleRead c) 0x13 c { CmdRes.ok with out := (s.ruleEntry e).bytes }) ∧
          ((s.ruleEntry e).bad = true → s.ends (.ruleRead c) 0x13 c (CmdRes.of .parity) [.rules]
            (regsOf ["PARSE_PARITY_LOC", "PARSE_STATUS"]) fun t => (s.ruleEntry e).met = false →
              t.bit Reg.PARSE_STATUS_PARITY = true ∧ t.get Reg.PARSE_PARITY_LOC_RULE_NUM = bits c.param 0 15 ∧
              (k < 4 → t.get Reg.PARSE_PARITY_LOC_VERSION = k))))) ∧
    (s.accepts 0x14 c → leAt c.input 0 2 < 1024 → leAt c.input 2 1 ≤ 3 → leAt c.input 3 1 = 0 → leAt c.input 4 2 ≤ leAt c.input 6 2 →
      allZero (c.input.drop 8) = true →
      (s.comparatorUsed (leAt c.input 0 2) = true → s.answers (.ruleRangeSet c) 0x14 c (CmdRes.of .busy)) ∧
      (s.comparatorUsed (leAt c.input 0 2) = false → s.ends (.ruleRangeSet c) 0x14 c CmdRes.ok [.rules, .pair]
        (regsOf ["PAIR_MIRROR_LEVEL"]) fun t =>
          t.comparator (leAt c.input 0 2) = ⟨leAt c.input 2 1, leAt c.input 4 2, leAt c.input 6 2⟩ ∧
          (∀ k, k ≠ leAt c.input 0 2 → t.comparator k = s.comparator k) ∧ t.rules.sets = s.rules.sets ∧
          t.rules.entries = s.rules.entries))

/-! ### Forwarding tables (chapter 9) -/

/-- R246, R247, R260, R261, R270 to R273, R275: the FDB commands. An entry that is not there goes to a free place of its two
buckets, after relocations if need be, or is answered FULL; one that is there is replaced only with flag bit 0, else EXISTS. Delete, age delete, search
and next answer the entry that stands there; one that fails its parity check is removed and answered PARITY. A flush removes what its routine
has still to visit of the entries of its port, and counts them with those it removed before; beside another flush it is answered RETRY.
Log entries 53 and 59: the model's choices or readings. -/
def Obligations.FdbCommandsKeepTheTable : Prop :=
  ∀ (s : State) (c : CmdIn),
    (s.accepts 0x20 c → (s.fdbEntryOk c.input = false → s.answers (.fdbInsert c) 0x20 c CmdRes.input) ∧
      (∀ e, s.fdbEntryOk c.input = true → e = fdbOf c.input →
        (fdbFind s.fdb.entries e.vlan e.mac = none →
          ((s.fdbMake e).2.1 = true → s.ends (.fdbInsert c) 0x20 c (CmdRes.of .parity) [.fdb] (regsOf ["FDB_STATUS", "FDB_USED",
            "FDB_PARITY_LOC", "FDB_PARITY_CNT"]) fun t => t.bit Reg.FDB_STATUS_PARITY = true ∧ fdbFind t.fdb.entries e.vlan e.mac = none) ∧
          (∀ m p, (s.fdbMake e).2.1 = false → makeRoom s.fdb.entries e.vlan e.mac = some (m, p) →
            s.ends (.fdbInsert c) 0x20 c CmdRes.ok [.fdb, .pair]
            (regsOf ["FDB_USED", "PAIR_MIRROR_LEVEL"]) fun t => t.fdb.entries = mapPut m p { e with born := s.fdb.changes }) ∧
          (makeRoom s.fdb.entries e.vlan e.mac = none → s.ends (.fdbInsert c) 0x20 c (CmdRes.of .full) []
            (keysOf [Reg.FDB_STATUS_FULL]) fun t => t.bit Reg.FDB_STATUS_FULL = true)) ∧
        (∀ p d, fdbFind s.fdb.entries e.vlan e.mac = some (p, d) → d.bad = false →
          (bitOf c.flags 0 = false → s.answers (.fdbInsert c) 0x20 c (CmdRes.of .exists)) ∧
          (bitOf c.flags 0 = true → s.ends (.fdbInsert c) 0x20 c CmdRes.ok [.fdb, .pair] (regsOf ["FDB_USED", "PAIR_MIRROR_LEVEL"])
            fun t => t.fdb.entries = mapPut s.fdb.entries p { e with born := s.fdb.changes })))) ∧
    (∀ (found : Option (Nat × FdbEntry)) (lost : Instr → Nat → Nat → Prop),
      found = fdbFind s.fdb.entries (leAt c.input 6 2) (beAt c.input 0 6) →
      (lost = fun com op p => s.ends com op c (CmdRes.of .parity) [.fdb] (regsOf ["FDB_STATUS", "FDB_USED", "FDB_PARITY_LOC",
        "FDB_PARITY_CNT"]) fun t => t.fdb.entries = mapDel s.fdb.entries p ∧ t.bit Reg.FDB_STATUS_PARITY = true) →
      (s.accepts 0x21 c → (fdbKeyOk c.input = false → s.answers (.fdbDelete c) 0x21 c CmdRes.input) ∧
        (fdbKeyOk c.input = true → (found = none → s.answers (.fdbDelete c) 0x21 c (CmdRes.of .notFound)) ∧
          ∀ p e, found = some (p, e) → (e.bad = true → lost (.fdbDelete c) 0x21 p) ∧
            (e.bad = false → s.ends (.fdbDelete c) 0x21 c CmdRes.ok [.fdb, .pair] (regsOf ["FDB_USED", "PAIR_MIRROR_LEVEL"])
              fun t => t.fdb.entries = mapDel s.fdb.entries p))) ∧
      (s.accepts 0x22 c → (fdbKeyOk c.input = false → s.answers (.fdbAgeDelete c) 0x22 c CmdRes.input) ∧
        (fdbKeyOk c.input = true → (found = none → s.answers (.fdbAgeDelete c) 0x22 c (CmdRes.of .notFound)) ∧
          ∀ p e, found = some (p, e) → (e.bad = true → lost (.fdbAgeDelete c) 0x22 p) ∧
            (e.bad = false → e.hit = true → s.answers (.fdbAgeDelete c) 0x22 c { CmdRes.ok with result := [1] }) ∧
            (e.bad = false → e.hit = false → s.ends (.fdbAgeDelete c) 0x22 c { CmdRes.ok with result := [0] } [.fdb, .pair]
              (regsOf ["FDB_USED", "PAIR_MIRROR_LEVEL"]) fun t => t.fdb.entries = mapDel s.fdb.entries p))) ∧
      (s.accepts 0x23 c → (fdbKeyOk c.input = false → s.answers (.fdbSearch c) 0x23 c CmdRes.input) ∧
        (fdbKeyOk c.input = true → (found = none → s.answers (.fdbSearch c) 0x23 c (CmdRes.of .notFound)) ∧
          ∀ p e, found = some (p, e) → (e.bad = true → lost (.fdbSearch c) 0x23 p) ∧
            (e.bad = false → s.answers (.fdbSearch c) 0x23 c { CmdRes.ok with result := fdbBytes e })))) ∧
    (s.accepts 0x24 c → (c.param < 1 ∨ 16 < c.param → s.answers (.fdbNext c) 0x24 c CmdRes.field) ∧
      (1 ≤ c.param → c.param ≤ 16 → (if bitOf c.flags 0 then allZero c.input = true else fdbKeyOk c.input = true) →
        mapSorted s.fdb.entries = true → ∀ got, got = walkFrom (c.param + 1) (if bitOf c.flags 0 then none
            else some (fdbKeyNat (leAt c.input 6 2) (beAt c.input 0 6)))
          (s.fdb.entries.map fun e => (fdbKeyNat e.2.vlan e.2.mac, e)) →
        (∀ g, (got.take c.param).find? (fun g => g.2.2.bad) = some g → s.ends (.fdbNext c) 0x24 c (CmdRes.of .parity) [.fdb]
          (regsOf ["FDB_STATUS", "FDB_USED", "FDB_PARITY_LOC", "FDB_PARITY_CNT"]) fun t =>
            t.fdb.entries = mapDel s.fdb.entries g.2.1 ∧ t.bit Reg.FDB_STATUS_PARITY = true) ∧
        ((∀ g ∈ got.take c.param, g.2.2.bad = false) → s.ends (.fdbNext c) 0x24 c { CmdRes.ok with
            end_ := got.length ≤ c.param, result := leBytes 1 (min c.param got.length)
            out := (got.take c.param).flatMap fun e => fdbBytes e.2.2 } [.fdb] (keysOf []) fun t =>
          (bitOf c.flags 1 = false → t.fdb = s.fdb) ∧
          (bitOf c.flags 1 = true → ∀ g ∈ got.take c.param, mapFind t.fdb.entries g.2.1 = some { g.2.2 with hit := false })))) ∧
    (s.accepts 0x25 c → (s.fdbFlushOk c = false → s.ends (.fdbFlush c) 0x25 c CmdRes.field [.reck] (keysOf []) fun t => t.fdb = s.fdb) ∧
      (s.fdbFlushOk c = true → s.routineOf .fdbFlush c = none → s.otherRuns .fdbFlush c = true →
        s.ends (.fdbFlush c) 0x25 c (CmdRes.of .retry) [.reck] (keysOf []) fun t => t.fdb = s.fdb)) ∧
    (s.acceptsLong 0x25 c → s.fdbFlushOk c = true → mapSorted s.fdb.entries = true → (∀ e ∈ s.fdb.entries, e.2.bad = false) →
      ∀ (began first before : Nat) (gone : Nat × FdbEntry → Bool),
        (s.begunRoutine .fdbFlush c = none ∧ (s.routineOf .fdbFlush c = none → s.otherRuns .fdbFlush c = false) ∧
            began = s.fdb.changes ∧ first = 0 ∧ before = 0) ∨
          (∃ r, s.begunRoutine .fdbFlush c = some r ∧ r.met = false ∧ began = r.began ∧ first = r.progress * 4096 ∧ before = r.removed) →
        gone = (fun e => flushMatches c began e.2 && decide (first ≤ (fdbBuckets e.2.vlan e.2.mac).1)) →
        s.ends (.fdbFlush c) 0x25 c { CmdRes.ok with result := leBytes 4 (before + (s.fdb.entries.filter gone).length) }
          [.fdb, .pair, .reck] (regsOf ["FDB_USED", "PAIR_MIRROR_LEVEL"]) fun t =>
          t.fdb.entries = s.fdb.entries.filter fun e => !gone e)

/-- R252 to R257, Table 9-2: the first learn request of a bank is released once its hold has passed. One whose frames are all
known bad does nothing; a new key is inserted and counted, or counted as full; a static entry or one that is no port is not moved and
reported, a pinned one is not moved; another is moved to the request's port, and pinned when it moves more often in
its window than MOVE_LIMIT. -/
def Obligations.ReleasedLearnRequestsTeachTheFdb : Prop :=
  ∀ (s : State) (bank : Nat) (r : LearnReq) (l : List LearnReq), s.running = true → bank < 16 → s.funcUp .fdb = true →
    mapGet s.fdb.learn bank [] = r :: l → r.stamp + (s.get Reg.FDB_CTRL_LEARN_HOLD * 1000 * 65536 : Nat) ≤ (s.presTicks : Int) →
    (∃ t, exec (.learnRelease bank) s = .next t ∧ mapGet t.fdb.learn bank [] = l ∧
      (∀ k, k ≠ bank → mapGet t.fdb.learn k [] = mapGet s.fdb.learn k []) ∧
      (r.frames.all (·.2) = true → t.fdb.entries = s.fdb.entries) ∧
      s.only t [.fdb, .pair] (regsOf ["FDB_STATUS", "FDB_USED", "FDB_MOVE_LAST_LO", "FDB_MOVE_LAST_HI", "FDB_MOVE_LAST_PORTS",
        "FDB_PARITY_LOC", "FDB_LEARN_CNT", "FDB_MOVE_CNT", "FDB_LEARN_FULL_CNT", "FDB_MOVE_REFUSED_CNT", "FDB_PARITY_CNT",
        "PAIR_MIRROR_LEVEL"])) ∧
    (r.frames.all (·.2) = false →
      (fdbFind s.fdb.entries r.vlan r.mac = none →
        (∀ m p, (s.fdbMake ⟨r.vlan, r.mac, false, false, false, 0, r.port, 0, 0, 0, false⟩).2.1 = false →
          makeRoom s.fdb.entries r.vlan r.mac = some (m, p) → ∃ t, exec (.learnRelease bank) s = .next t ∧
          t.fdb.entries = mapPut m p ⟨r.vlan, r.mac, false, false, false, 0, r.port, 0, 0, s.fdb.changes, false⟩ ∧
          s.counted t Reg.FDB_LEARN_CNT_COUNT) ∧
        (makeRoom s.fdb.entries r.vlan r.mac = none → ∃ t, exec (.learnRelease bank) s = .next t ∧ t.fdb.entries = s.fdb.entries ∧
          s.counted t Reg.FDB_LEARN_FULL_CNT_COUNT ∧ t.bit Reg.FDB_STATUS_FULL = true)) ∧
      (∀ p e, fdbFind s.fdb.entries r.vlan r.mac = some (p, e) → e.bad = false →
        (e.static = true ∨ e.kind ≠ 0 → ∃ t, exec (.learnRelease bank) s = .next t ∧ t.fdb.entries = s.fdb.entries ∧
          s.counted t Reg.FDB_MOVE_REFUSED_CNT_COUNT ∧ t.bit Reg.FDB_STATUS_CONFLICT = true) ∧
        (e.static = false → e.kind = 0 →
          (e.dest = r.port → ∃ t, exec (.learnRelease bank) s = .next t ∧ t.fdb.entries = s.fdb.entries) ∧
          (e.dest ≠ r.port → e.pinned = true → ∃ t, exec (.learnRelease bank) s = .next t ∧ t.fdb.entries = s.fdb.entries ∧
            s.counted t Reg.FDB_MOVE_REFUSED_CNT_COUNT) ∧
          (∀ inside count, e.dest ≠ r.port → e.pinned = false →
            inside = (e.winCount != 0 && decide (r.stamp ≤ e.winStart + (s.get Reg.FDB_CTRL_MOVE_WINDOW : Int) * 100000 * 65536)) →
            count = (if inside then e.winCount + 1 else 1) →
            (count ≤ s.get Reg.FDB_CTRL_MOVE_LIMIT → ∃ t, exec (.learnRelease bank) s = .next t ∧ s.counted t Reg.FDB_MOVE_CNT_COUNT ∧
              t.bit Reg.FDB_STATUS_MOVE = true ∧ t.fdb.entries = mapPut s.fdb.entries p
                { e with dest := r.port, winStart := if inside then e.winStart else r.stamp, winCount := count }) ∧
            (s.get Reg.FDB_CTRL_MOVE_LIMIT < count → ∃ t, exec (.learnRelease bank) s = .next t ∧
              t.bit Reg.FDB_STATUS_PINNED = true ∧ t.fdb.entries = mapPut s.fdb.entries p { e with pinned := true })))))

/-- R262 to R268, R270 to R272, R274, R275: the LPM commands and the background moves. A prefix that is there is answered, changed or
removed; a new one takes a free place of its length group, or one that the group gains by moves, whose number, with those of its routine's
checkpoints, is the result, or is answered FULL. A match answers the longest prefix of the address. A flush removes the prefixes of its
port that stood when it began. A failing prefix is removed and answered PARITY.
Log entries 55 and 59: the model's choices or readings. -/
def Obligations.LpmCommandsKeepTheStore : Prop :=
  ∀ (s : State) (c : CmdIn) (k : LpmEntry) (own : List LpmUnit), k = lpmOf c.input → own = s.lpm.units k.v6 k.len →
    ((∀ e ∈ s.lpm.entries, e.bad = false) →
      (s.acceptsLong 0x28 c → ∀ moved met, s.movesMade c = (moved, met) →
        (s.lpmEntryOk c.input = false → s.ends (.lpmInsert c) 0x28 c CmdRes.input [.reck] (keysOf []) fun t => t.lpm = s.lpm) ∧
        (s.lpmEntryOk c.input = true → s.lpm.entries.find? (sameKey k) = none →
          (met = true → s.ends (.lpmInsert c) 0x28 c (CmdRes.of .parity) [.reck] (keysOf []) fun t => t.lpm = s.lpm) ∧
          (met = false → groupFree own = true → s.ends (.lpmInsert c) 0x28 c { CmdRes.ok with result := leBytes 2 moved }
            [.reck, .lpm, .pair] (regsOf ["LPM_USED", "LPM_V4_COUNT", "LPM_V6_COUNT", "PAIR_MIRROR_LEVEL"]) fun t =>
              t.lpm = { s.lpm.setUnits k.v6 k.len (fillGroup { k with born := s.lpm.changes } own) with changes := s.lpm.changes + 1 }) ∧
          (∀ l m, met = false → groupFree own = false → gainUnit s.lpm k.v6 k.len false = some (l, m) →
            s.ends (.lpmInsert c) 0x28 c { CmdRes.ok with result := leBytes 2 (moved + l.length) } [.reck, .lpm, .pair]
              (regsOf ["LPM_USED", "LPM_V4_COUNT", "LPM_V6_COUNT", "PAIR_MIRROR_LEVEL"]) fun t => t.lpm =
                { m.setUnits k.v6 k.len (fillGroup { k with born := m.changes } (m.units k.v6 k.len)) with changes := m.changes + 1 }) ∧
          (met = false → groupFree own = false → gainUnit s.lpm k.v6 k.len false = none →
            s.ends (.lpmInsert c) 0x28 c (CmdRes.of .full) [.reck] (keysOf [Reg.LPM_STATUS_FULL]) fun t =>
              t.bit Reg.LPM_STATUS_FULL = true)) ∧
        (∀ e, s.lpmEntryOk c.input = true → s.lpm.entries.find? (sameKey k) = some e →
          (bitOf c.flags 0 = false → s.ends (.lpmInsert c) 0x28 c (CmdRes.of .exists) [.reck] (keysOf []) fun t => t.lpm = s.lpm) ∧
          (bitOf c.flags 0 = true → s.ends (.lpmInsert c) 0x28 c { CmdRes.ok with result := leBytes 2 0 } [.reck, .lpm, .pair]
            (regsOf ["LPM_USED", "LPM_V4_COUNT", "LPM_V6_COUNT", "PAIR_MIRROR_LEVEL"]) fun t => t.lpm = { s.lpm.setUnits k.v6 k.len
              (changeGroup (sameKey k) (fun _ => some { k with born := s.lpm.changes }) own) with changes := s.lpm.changes + 1 }))) ∧
      (s.accepts 0x2B c → lpmKeyForm c.input = true → leAt c.input 1 1 = 0 → leAt c.input 2 1 = 0 → leAt c.input 4 2 = 0 →
        ((∀ e ∈ s.lpm.entries, e.len ≤ 128 → lpmHits k.v6 k.pfx e = false) → s.answers (.lpmMatch c) 0x2B c (CmdRes.of .notFound)) ∧
        ((∃ e ∈ s.lpm.entries, e.len ≤ 128 ∧ lpmHits k.v6 k.pfx e = true) → ∃ e ∈ s.lpm.entries, lpmHits k.v6 k.pfx e = true ∧
          (∀ d ∈ s.lpm.entries, d.len ≤ 128 → lpmHits k.v6 k.pfx d = true → d.len ≤ e.len) ∧
          s.answers (.lpmMatch c) 0x2B c { CmdRes.ok with result := lpmBytes e })) ∧
      (s.accepts 0x2C c → 1 ≤ c.param → c.param ≤ 16 →
        (if bitOf c.flags 0 then allZero c.input = true else lpmKeyOk c.input = true) →
        ∀ got, got = walkFrom (c.param + 1) (if bitOf c.flags 0 then none else some (lpmKeyNat (lpmOf c.input)))
          (s.lpm.entries.map fun e => (lpmKeyNat e, e)) →
        s.answers (.lpmNext c) 0x2C c { CmdRes.ok with
          end_ := got.length ≤ c.param, result := leBytes 1 (min c.param got.length)
          out := (got.take c.param).flatMap fun e => lpmBytes e.2 }) ∧
      (s.acceptsLong 0x2D c → s.destPortOk (c.param % 1024) = true → s.begunRoutine .lpmFlush c = none →
        (s.routineOf .lpmFlush c = none → s.otherRuns .lpmFlush c = false) → ∀ gone : Nat × LpmEntry → Bool,
        gone = (fun r => decide (r.1 < 131072) && r.2.kind == 0 && r.2.dest == c.param % 1024 && decide (r.2.born < s.lpm.changes)) →
        s.ends (.lpmFlush c) 0x2D c { CmdRes.ok with result := leBytes 4 (s.lpm.rows.filter gone).length } [.lpm, .pair, .reck]
          (regsOf ["LPM_USED", "LPM_V4_COUNT", "LPM_V6_COUNT", "PAIR_MIRROR_LEVEL"]) fun t =>
          (∀ r ∈ s.lpm.rows, gone r = true → ∀ u ∈ t.lpm.units r.2.v6 r.2.len, ∀ x, some x ∈ u → sameKey r.2 x = false) ∧
          (∀ x ∈ t.lpm.entries, x ∈ s.lpm.entries)) ∧
      (∀ n l m, n < 162 → s.running = true → s.carried (.lpmMove n) none = true → s.wantsUnit n = true → s.funcUp .lpm = true →
        gainUnit s.lpm (groupOf n).1 (groupOf n).2 true = some (l, m) → ∃ t, exec (.lpmBackgroundMove n) s = .next t ∧
          t.lpm = m ∧ s.only t [.reck, .lpm] (keysOf []))) ∧
    (∀ (found : Option LpmEntry) (lost : Instr → Nat → Prop), found = s.lpm.entries.find? (sameKey k) →
      (lost = fun com op => s.ends com op c (CmdRes.of .parity) [.lpm] (regsOf ["LPM_USED", "LPM_V4_COUNT", "LPM_V6_COUNT",
        "LPM_PARITY_LOC", "LPM_PARITY_CNT", "LPM_STATUS"]) fun t => t.bit Reg.LPM_STATUS_PARITY = true ∧
          t.lpm = s.lpm.setUnits k.v6 k.len (changeGroup (sameKey k) (fun _ => none) own)) →
      (s.accepts 0x29 c → (lpmKeyOk c.input = false → s.answers (.lpmDelete c) 0x29 c CmdRes.input) ∧
        (lpmKeyOk c.input = true → (found = none → s.answers (.lpmDelete c) 0x29 c (CmdRes.of .notFound)) ∧
          ∀ e, found = some e → (e.bad = true → lost (.lpmDelete c) 0x29) ∧
            (e.bad = false → s.ends (.lpmDelete c) 0x29 c CmdRes.ok [.lpm, .pair] (regsOf ["LPM_USED", "LPM_V4_COUNT", "LPM_V6_COUNT",
              "PAIR_MIRROR_LEVEL"]) fun t => t.lpm = s.lpm.setUnits k.v6 k.len (changeGroup (sameKey k) (fun _ => none) own)))) ∧
      (s.accepts 0x2A c → (lpmKeyOk c.input = false → s.answers (.lpmSearch c) 0x2A c CmdRes.input) ∧
        (lpmKeyOk c.input = true → (found = none → s.answers (.lpmSearch c) 0x2A c (CmdRes.of .notFound)) ∧
          ∀ e, found = some e → (e.bad = true → lost (.lpmSearch c) 0x2A) ∧
            (e.bad = false → s.answers (.lpmSearch c) 0x2A c { CmdRes.ok with result := lpmBytes e })))) ∧
    (s.accepts 0x2C c → c.param < 1 ∨ 16 < c.param → s.answers (.lpmNext c) 0x2C c CmdRes.field) ∧
    (s.accepts 0x2D c →
      (s.destPortOk (c.param % 1024) = false → s.ends (.lpmFlush c) 0x2D c CmdRes.field [.reck] (keysOf []) fun t => t.lpm = s.lpm) ∧
      (s.destPortOk (c.param % 1024) = true → s.routineOf .lpmFlush c = none → s.otherRuns .lpmFlush c = true →
        s.ends (.lpmFlush c) 0x2D c (CmdRes.of .retry) [.reck] (keysOf []) fun t => t.lpm = s.lpm)) ∧
    (∀ n, n < 162 → s.running = true → s.carried (.lpmMove n) none = false → ∃ t, exec (.lpmBackgroundMove n) s = .next t ∧
      s.only t [] (keysOf []))

/-- R282, R283, R288 to R292: the context commands. A session is opened in the first free place of its two buckets with the
setting given, else EXISTS or FULL; modify changes the setting alone; read, clear and close answer the index and the context
before the command; clear returns its counts to 0, close frees its index; next answers the contexts after an index in order. A read that
meets an uncorrectable burst of the context finds it poisoned.
Log entries 56 and 59: the model's choices or readings. -/
def Obligations.ContextCommandsKeepTheSessions : Prop :=
  ∀ (s : State) (c : CmdIn) (k : List Byte) (moved : Keys), (∀ pc, s.pcFailed pc = false) → k = c.input.take 48 →
    moved = regsOf ["FLOW_USED", "DRAM_STATUS", "DRAM_ROW_GUARD_CNT", "PAIR_MIRROR_LEVEL"] →
    (s.dram.errs = [] → s.flow.bad = [] →
      (s.accepts 0x30 c →
        (settingOk c.input = true → (s.contextOf k).isSome → s.ends (.flowOpen c) 0x30 c (CmdRes.of .exists) [.dram]
          (regsOf ["DRAM_STATUS", "DRAM_ROW_GUARD_CNT"]) fun t => t.flow = s.flow) ∧
        (∀ places : List Nat, settingOk c.input = true → s.contextOf k = none →
          places = (List.range 8).map (8 * (sessionBuckets k).1 + ·) ++ (List.range 8).map (8 * (sessionBuckets k).2 + ·) →
          (places.find? s.indexFree = none → s.ends (.flowOpen c) 0x30 c (CmdRes.of .full) [.dram]
            (regsOf ["DRAM_STATUS", "DRAM_ROW_GUARD_CNT", "FLOW_STATUS"]) fun t => t.flow = s.flow ∧ t.bit Reg.FLOW_STATUS_FULL = true) ∧
          (∀ i, places.find? s.indexFree = some i → s.ends (.flowOpen c) 0x30 c { CmdRes.ok with result := leBytes 4 i }
            [.flow, .dram, .pair] moved fun t =>
            mapFind t.flow.contexts i = some ⟨k, 0, 0, 0, 0, 0, 0, leAt c.input 48 4, leAt c.input 52 1, false, false⟩ ∧
            (∀ j, j ≠ i → mapFind t.flow.contexts j = mapFind s.flow.contexts j)))) ∧
      (s.accepts 0x31 c → settingOk c.input = true →
        (s.contextOf k = none → s.ends (.flowModify c) 0x31 c (CmdRes.of .notFound) [.dram]
          (regsOf ["DRAM_STATUS", "DRAM_ROW_GUARD_CNT"]) fun t => t.flow = s.flow) ∧
        (∀ i x, s.contextOf k = some (i, x) → s.ends (.flowModify c) 0x31 c CmdRes.ok [.flow, .dram, .pair] moved fun t =>
            mapFind t.flow.contexts i = some { x with policer := leAt c.input 48 4, ovr := leAt c.input 52 1, poisoned := false } ∧
            (∀ j, j ≠ i → mapFind t.flow.contexts j = mapFind s.flow.contexts j))) ∧
      (∀ (absent : Instr → Nat → Prop) (answer : Nat → Context → CmdRes) (rest : Nat → State → Prop),
        (absent = fun com op => s.contextOf c.input = none → s.ends com op c (CmdRes.of .notFound) [.dram]
          (regsOf ["DRAM_STATUS", "DRAM_ROW_GUARD_CNT"]) fun t => t.flow = s.flow) →
        (answer = fun i x => { CmdRes.ok with result := leBytes 4 i, out := contextBytes x }) →
        (rest = fun i t => ∀ j, j ≠ i → mapFind t.flow.contexts j = mapFind s.flow.contexts j) → sessionKeyOk c.input = true →
        (s.accepts 0x32 c → absent (.flowRead c) 0x32 ∧ ∀ i x, s.contextOf c.input = some (i, x) →
          s.ends (.flowRead c) 0x32 c (answer i x) [.dram] (regsOf ["DRAM_STATUS", "DRAM_ROW_GUARD_CNT"]) fun t => t.flow = s.flow) ∧
        (s.accepts 0x33 c → absent (.flowClear c) 0x33 ∧ ∀ i x, s.contextOf c.input = some (i, x) →
          s.ends (.flowClear c) 0x33 c (answer i x) [.flow, .dram] moved fun t => rest i t ∧
            mapFind t.flow.contexts i = some ⟨x.key, 0, 0, 0, 0, 0, 0, x.policer, x.ovr, false, false⟩) ∧
        (s.accepts 0x34 c → absent (.flowClose c) 0x34 ∧ ∀ i x, s.contextOf c.input = some (i, x) →
          s.ends (.flowClose c) 0x34 c (answer i x) [.flow, .dram, .pair] moved fun t => rest i t ∧
            mapFind t.flow.contexts i = none ∧ mapFind t.flow.closedAt i = some s.cycle ∧ i ∉ mapGet t.flow.cache (setOf i) [])) ∧
      (s.accepts 0x35 c → ∀ n later, n = bits c.param 24 4 → 1 ≤ n → n ≤ 8 → (bitOf c.flags 0 = true → bits c.param 0 21 = 0) →
        mapSorted s.flow.contexts = true →
        later = (s.flow.contexts.filter fun e => bitOf c.flags 0 || decide (bits c.param 0 21 < e.1)) →
        s.ends (.flowNext c) 0x35 c { CmdRes.ok with
          end_ := later.length ≤ n, result := leBytes 1 (later.take n).length
          out := (later.take n).flatMap fun e => contextRecord e.1 e.2 } [.dram] (regsOf ["DRAM_STATUS", "DRAM_ROW_GUARD_CNT"])
          fun t => t.flow = s.flow)) ∧
    (s.accepts 0x30 c → settingOk c.input = false → s.answers (.flowOpen c) 0x30 c CmdRes.input) ∧
    (s.accepts 0x31 c → settingOk c.input = false → s.answers (.flowModify c) 0x31 c CmdRes.input) ∧
    (sessionKeyOk c.input = false → (s.accepts 0x32 c → s.answers (.flowRead c) 0x32 c CmdRes.input) ∧
      (s.accepts 0x33 c → s.answers (.flowClear c) 0x33 c CmdRes.input) ∧
      (s.accepts 0x34 c → s.answers (.flowClose c) 0x34 c CmdRes.input)) ∧
    (s.accepts 0x35 c → bits c.param 24 4 < 1 ∨ 8 < bits c.param 24 4 → s.answers (.flowNext c) 0x35 c CmdRes.field) ∧
    (s.accepts 0x32 c → sessionKeyOk c.input = true → ∀ i x, s.contextOf c.input = some (i, x) → s.cached i = false → s.dram.writes = [] →
      s.dram.errs = [(placeBurst i + 2, .uncorrectable)] → mapFind s.flow.contexts i = some x →
      s.ends (.flowRead c) 0x32 c { CmdRes.ok with
          result := leBytes 4 i, out := contextBytes ⟨x.key, 0, 0, 0, 0, 0, 0, 0, 0, false, true⟩ } [.flow, .dram]
        (regsOf ["FLOW_STATUS", "FLOW_POISON_LOC", "DRAM_STATUS", "DRAM_ROW_GUARD_CNT", "DRAM_ERR_LOC", "DRAM_UNCORR_CNT"]) fun t =>
        t.bit Reg.FLOW_STATUS_POISON = true ∧ t.get Reg.FLOW_POISON_LOC_KEY = 0 ∧ t.bit Reg.DRAM_STATUS_UNCORR = true)

/-! ### Beads, copies in DRAM and groups (chapters 11 and 12) -/

/-- R303, R304, R310, R311, R314, R315: a handshake answers its requests in rotation from its start position, each with a bead or with none,
and moves the start by one; what a request is for comes about, admission or a further bead (log entry 26). A decrement of a bead in use takes one reference, and the last one frees it; a free that is double or foreign is
refused and recorded. R316, R317: BUF_WITHDRAW is FULL at once, takes the block NEXT when it is free, and waits otherwise: until the end of the cycle in which its last bead is freed
(log entry 82), or for 1 ms; a withdrawn block is restored, another is NOT_FOUND.
Log entries 27 and 57: the model's choices or readings. -/
def Obligations.BeadsAreGrantedFreedAndWithdrawn : Prop :=
  ∀ s : State, s.running = true →
    (∀ pool l fr, pool < 16 → requestsOk l = true → l ≠ [] → ∃ t, exec (.allocatorHandshake pool l fr) s = .next t ∧
      t.buf.answers.map (·.1) = (requestOrder (mapGet s.buf.starts pool 0) l).map (·.requester) ∧
      mapGet t.buf.starts pool 0 = (mapGet s.buf.starts pool 0 + 1) % 65 ∧
      (∀ k, k ≠ pool → mapGet t.buf.starts k 0 = mapGet s.buf.starts k 0) ∧
      s.only t [.ports, .counters, .events, .path, .rules, .mcast, .buf, .tm, .tally, .host, .pair] (regsOf ["CNT_HALF_LO",
        "CNT_HALF_HI", "BUF_POOL_USED", "BUF_POOL_SHARED", "BUF_STATUS", "BUF_XOFF_POOLS", "BUF_LANDING", "BUF_BAD_FREE_LOC",
        "BUF_BAD_FREE_CNT", "BUF_DROP_CNT", "BUF_LANDING_DROP_CNT", "BUF_HEADROOM_CNT", "TALLY_STATUS", "TALLY_RING_LEVEL",
        "TALLY_LOST_CNT", "RULE_VER_STATE", "RING_DEV_INDEX", "MCAST_MEMBERS_USED"])) ∧
    (∀ pool (r : BeadRequest) f first, pool < 16 → r.requester < 65 → r.owner < 1025 → s.requestOf pool r.owner = some (f, first) →
      ∃ t u, exec (.allocatorHandshake pool [r] []) s = .next t ∧
        exec (if first then .admission f else .furtherBeadRequest f) s = .next u ∧
        t.path = u.path ∧ t.buf.beads = u.buf.beads ∧ t.counters = u.counters ∧ t.tally = u.tally) ∧
    (∀ pool (r : BeadRequest), pool < 16 → r.requester < 65 → r.owner < 1025 → s.requestOf pool r.owner = none →
      (∀ shared b, s.grantPart pool r.owner = some shared → s.freeBead = some b → ∃ t, exec (.allocatorHandshake pool [r] []) s = .next t ∧
        t.buf.answers = [(r.requester, some b)] ∧ t.buf.beads = mapPut s.buf.beads b ⟨1, .pool pool, r.owner, shared⟩ ∧
        t.ownerCount pool r.owner = s.ownerCount pool r.owner + 1) ∧
      (s.grantPart pool r.owner = none ∨ s.freeBead = none → ∃ t, exec (.allocatorHandshake pool [r] []) s = .next t ∧
        t.buf.answers = [(r.requester, none)] ∧ t.buf.beads = s.buf.beads ∧ s.only t [.buf] (keysOf []))) ∧
    (∀ b acc agent, b < 524288 →
      (∀ d, s.freeFault b acc = none → mapFind s.buf.beads b = some d → ∃ t, exec (.beadDecrement b acc agent) s = .next t ∧
        (d.count ≤ 1 → t.buf.beads = mapDel s.buf.beads b) ∧
        (1 < d.count → t.buf.beads = mapPut s.buf.beads b { d with count := d.count - 1 } ∧ s.only t [.buf] (keysOf []))) ∧
      (∀ foreign, s.freeFault b acc = some foreign → ∃ t, exec (.beadDecrement b acc agent) s = .next t ∧
        t.bit Reg.BUF_BAD_FREE_LOC_KIND = foreign ∧ t.get Reg.BUF_BAD_FREE_LOC_BEAD = b ∧
        t.bit Reg.BUF_STATUS_BAD_FREE = true ∧ s.counted t Reg.BUF_BAD_FREE_CNT_COUNT ∧
        s.only t [] (regsOf ["BUF_BAD_FREE_LOC", "BUF_BAD_FREE_CNT", "BUF_STATUS"]))) ∧
    (∀ c (free : Bool) (done : State → Prop), free = s.blockFree (s.get Reg.BUF_WITHDRAWN_NEXT) →
      (done = fun t => t.buf.withdrawn = s.buf.withdrawn ++ [s.get Reg.BUF_WITHDRAWN_NEXT] ∧ t.buf.withdrawing = none) →
      (s.accepts 0x38 c → s.buf.withdrawing = none → s.withdrawFull = true →
        s.ends (.bufWithdraw c) 0x38 c (CmdRes.of .full) [.reck, .buf] (keysOf []) fun t => t.buf.withdrawn = s.buf.withdrawn) ∧
      (s.acceptsLong 0x38 c → s.buf.withdrawing = none → s.withdrawFull = false →
        (free = true → s.ends (.bufWithdraw c) 0x38 c
          { CmdRes.ok with result := [BitVec.ofNat 8 (s.get Reg.BUF_WITHDRAWN_NEXT)] } [.reck, .buf] (regsOf ["BUF_WITHDRAWN"]) done) ∧
        (free = false → ∃ t, exec (.bufWithdraw c) s = .next t ∧ t.buf = { s.buf with withdrawing := some (c, s.cycle) } ∧
          s.only t [.buf] (keysOf []))) ∧
      (∀ k, s.buf.withdrawing = some (c, k) →
        (s.accepts 0x38 c → free = true → s.ends (.bufWithdraw c) 0x38 c
          { CmdRes.ok with result := [BitVec.ofNat 8 (s.get Reg.BUF_WITHDRAWN_NEXT)] } [.reck, .buf] (regsOf ["BUF_WITHDRAWN"]) done) ∧
        (s.pending = [] → free = true → ∃ t, step s = .next t ∧ done t ∧
          t.completed 0x38 c { CmdRes.ok with result := [BitVec.ofNat 8 (s.get Reg.BUF_WITHDRAWN_NEXT)] }) ∧
        (free = false → k + msCycles ≤ s.cycle → s.ends .withdrawTimeout 0x38 c (CmdRes.of .busy) [.reck, .buf] (keysOf []) fun t =>
          t.buf.withdrawing = none ∧ t.buf.withdrawn = s.buf.withdrawn) ∧
        (free = true ∨ s.cycle < k + msCycles → ∃ t, exec .withdrawTimeout s = .next t ∧ s.only t [] (keysOf [])))) ∧
    (∀ c, s.accepts 0x39 c →
      (s.buf.withdrawn.contains c.param = false → s.answers (.bufRestore c) 0x39 c (CmdRes.of .notFound)) ∧
      (s.buf.withdrawn.contains c.param = true → s.ends (.bufRestore c) 0x39 c CmdRes.ok [.buf]
        (regsOf ["SYS_BIST_STATUS", "BUF_WITHDRAWN"]) fun t => t.buf.withdrawn = s.buf.withdrawn.filter (· != c.param)))

/-- R321, R323, R324, R389: a received copy of a rod's segment goes to free beads of the spill region, and its beads on die are freed, when
the region has room and the spill bandwidth is free (log entry 92); it comes back into beads of the return set when it is due, poisoned
if its read failed; with its link lost the copies behind it are discarded. R347, R349, R350: the flush of a port discards every copy on
its rods; heads linked more than STUCK_MS ago are reclaimed and recorded; both wait for an engine. R335: MCAST_SET replaces a group's list
and MCAST_READ answers it, with its length, in 2,048 bytes.
Log entries 28 and 30: the model's choices or readings. -/
def Obligations.SpilledFlushedAndStuckCopiesAndGroups : Prop :=
  ∀ s : State, s.running = true →
    (∀ q g c x f, q < 16384 → mapFind s.path.segments q = some g → s.copy c = some x → s.frame x.frame = some f →
      (g.copies.find? (fun c => match s.copy c with
          | some x => x.place == .onDie && (match s.frame x.frame with | some f => f.ended | none => false)
          | none => false) = some c → s.bit Reg.BUF_SPILL_CTRL_ENABLE = true → s.dramServes = true →
        (s.port x.egress).picked.any (·.copy == c) = false → ∀ n, n = ceilDiv f.size 256 →
        (s.get Reg.BUF_SPILL_USED_USED + n ≤ s.spillSize → s.spillSize < 2 ^ 28 → s.spillTaken n = false →
          ∃ t, exec (.spillWrite q) s = .next t ∧ t.copy c = some { x with place := .spilled, spillAt := s.freeSpill n } ∧
            t.frame x.frame = some { f with beads := [] } ∧
            t.get Reg.BUF_SPILL_USED_USED = s.get Reg.BUF_SPILL_USED_USED + n ∧
            (∀ k, k ≠ c → t.copy k = s.copy k) ∧ t.path.rods = s.path.rods ∧
            s.only t [.ports, .counters, .path, .buf, .dram, .pair] (regsOf ["CNT_HALF_LO", "CNT_HALF_HI", "BUF_POOL_USED",
              "BUF_POOL_SHARED", "BUF_STATUS", "BUF_XOFF_POOLS", "BUF_LANDING", "BUF_BAD_FREE_LOC", "BUF_BAD_FREE_CNT",
              "BUF_SPILL_USED", "QUE_COPIES", "DRAM_STATUS", "DRAM_ROW_GUARD_CNT"])) ∧
        (s.spillSize < s.get Reg.BUF_SPILL_USED_USED + n ∨ s.spillTaken n = true →
          ∃ t, exec (.spillWrite q) s = .next t ∧ s.only t [] (keysOf []))) ∧
      (∀ o beads u, g.copies.find? (fun c => match s.copy c with | some x => x.place == .spilled | none => false) = some c →
        s.returnDue q c = true → s.usedCopies < 1048576 → s.dramServes = true → s.spillTaken x.spillAt.length = false →
        takeReturns x.spillAt.length [] s = some (beads, u) →
        (∃ t, exec (.spillReturn q ⟨o, false⟩) s = .next t ∧ t.frame x.frame = some { f with beads := beads } ∧
          t.buf.beads = u.buf.beads ∧ c ∉ ((mapFind t.path.segments q).map (·.copies)).getD [] ∧
          (o.ecc = .uncorrectable → o.burst < 8 * x.spillAt.length → s.dram.errs = [] → s.dram.writes = [] →
            t.copy c = some { x with place := .returned, poisoned := true, spillAt := [] } ∧
            t.bit Reg.BUF_STATUS_SPILL_POISON = true) ∧
          (o.ecc ≠ .uncorrectable → s.dram.errs = [] → (∀ pc, s.pcFailed pc = false) →
            t.copy c = some { x with place := .returned, poisoned := false, spillAt := [] })) ∧
        (∃ t, exec (.spillReturn q ⟨o, true⟩) s = .next t ∧
          ∀ d ∈ (g.copies.dropWhile (· != c)).drop 1, d ≠ c → t.copy d = none))) ∧
    (∀ q c l, mapFind s.path.rods q = some (c :: l) → s.portUp (q / 16) = true → s.isStuck c = true →
      ∃ t, exec .stuckInspection s = .next t ∧ t.hasRoutine (· == .stuckReclaim q) = true ∧ s.only t [.reck] (keysOf [])) ∧
    (∀ q, q < 16384 → s.onEngine (.stuckReclaim q) = false → ∃ t, exec (.stuckReclaim q) s = .next t ∧ s.only t [] (keysOf [])) ∧
    (∀ q, q < 16384 → s.onEngine (.stuckReclaim q) = true → s.funcUp .buf = true → s.funcUp .tm = true → ∃ t, exec (.stuckReclaim q) s = .next t ∧
      t.hasRoutine (· == .stuckReclaim q) = false ∧ (∀ c ∈ (s.rod q).takeWhile s.isStuck, t.copy c = none) ∧
      ((s.rod q).takeWhile s.isStuck ≠ [] → t.bit Reg.QUE_STATUS_STUCK = true ∧ t.get Reg.QUE_STUCK_LOC_QUEUE = q) ∧
      ((s.rod q).takeWhile s.isStuck = [] → s.only t [.reck] (keysOf []))) ∧
    (∀ p, p < 1024 → s.funcUp .buf = true → s.funcUp .tm = true → (s.port p).flush = .waiting →
      (s.onEngine (.portFlush p) = false → ∃ t, exec (.portFlush p) s = .next t ∧ s.only t [] (keysOf [])) ∧
      (s.onEngine (.portFlush p) = true → ∃ t, exec (.portFlush p) s = .next t ∧
      (t.port p).flush = .complete s.cycle ∧ (∀ c ∈ s.portCopies p, t.copy c = none) ∧
      t.hasRoutine (· == .portFlush p) = false ∧
      s.only t [.ports, .counters, .events, .reck, .path, .buf, .tm, .tally, .host, .pair] (regsOf ["CNT_HALF_LO", "CNT_HALF_HI",
        "TALLY_STATUS", "TALLY_RING_LEVEL", "TALLY_LOST_CNT", "BUF_POOL_USED", "BUF_POOL_SHARED", "BUF_STATUS", "BUF_XOFF_POOLS",
        "BUF_LANDING", "BUF_BAD_FREE_LOC", "BUF_BAD_FREE_CNT", "BUF_SPILL_USED", "QUE_COPIES", "RING_DEV_INDEX"]))) ∧
    (∀ c l, l = memberList c.input →
      (s.accepts 0x3A c → (s.membersOk l = false → s.answers (.mcastSet c) 0x3A c CmdRes.input) ∧
        (s.membersOk l = true → 524288 < s.mcast.used + l.length → s.ends (.mcastSet c) 0x3A c (CmdRes.of .full) []
          (keysOf [Reg.MCAST_STATUS_FULL]) fun t => t.bit Reg.MCAST_STATUS_FULL = true) ∧
        (s.membersOk l = true → s.mcast.used + l.length ≤ 524288 → s.ends (.mcastSet c) 0x3A c CmdRes.ok [.mcast, .pair, .span]
          (regsOf ["MCAST_MEMBERS_USED", "PAIR_MIRROR_LEVEL"]) fun t =>
            t.members c.param = l ∧ ∀ g, g ≠ c.param → t.members g = s.members g)) ∧
      (s.accepts 0x3B c → s.answers (.mcastRead c) 0x3B c { CmdRes.ok with
        result := leBytes 2 (s.members c.param).length, out := padTo 2048 ((s.members c.param).flatMap (leBytes 2)) }))

/-! ### The traffic manager (chapter 13) -/

/-- R353 to R361, R366, R368: one handshake of a policer applies the debits that wait, decides every request that waits and moves its start by
one, while TM is UP; a frame passes an enabled policer while the level is above 0, unless it is red and the policer is colour-aware. TM_POLICER_SET and
TM_SHAPER_SET store the settings, with a full bucket when newly enabled; the READ commands answer them.
Log entries 26 and 34: the model's choices or readings. -/
def Obligations.PolicersAndShapersHoldTheirBuckets : Prop :=
  ∀ s : State, s.running = true →
    (∀ n, n < 65536 →
      (s.funcUp .tm = false → ∃ t, exec (.policerHandshake n) s = .next t ∧ s.only t [] (keysOf [])) ∧
      (s.funcUp .tm = true → s.policerRequests n = [] → ∃ t, exec (.policerHandshake n) s = .next t ∧ t.policer n = (s.policer n).takeDebits ∧
        (∀ k, k ≠ n → mapGet t.tm.policers k policer0 = mapGet s.tm.policers k policer0) ∧ s.only t [.tm] (keysOf [])) ∧
      (s.funcUp .tm = true → s.policerRequests n ≠ [] → ∃ t, exec (.policerHandshake n) s = .next t ∧ (t.policer n).start = ((s.policer n).start + 1) % 65 ∧
        (∀ f ∈ s.policerRequests n, ∃ y v, t.frame f = some y ∧ y.verdict = some v) ∧ s.only t [.path, .tm] (keysOf [])) ∧
      (∀ f x, s.funcUp .tm = true → s.policerRequests n = [f] → s.frame f = some x → ∃ t, exec (.policerHandshake n) s = .next t ∧
        t.frame f = some { x with verdict := some ((s.policer n).takeDebits.passes x.mark.colour) } ∧
        (∀ g, g ≠ f → t.frame g = s.frame g) ∧
        ((s.policer n).takeDebits.passes x.mark.colour = false →
          (t.policer n).drops = min 0xFFFFFFFF ((s.policer n).drops + 1)))) ∧
    (∀ c n b, n = leAt c.input 0 2 → b = bitOf (leAt c.input 2 1) 0 →
      (s.accepts 0x40 c → (policerOk c.input = false → s.answers (.tmPolicerSet c) 0x40 c CmdRes.input) ∧
        (policerOk c.input = true → s.ends (.tmPolicerSet c) 0x40 c CmdRes.ok [.tm, .pair] (regsOf ["PAIR_MIRROR_LEVEL"]) fun t =>
          (t.policer n).aware = bitOf (leAt c.input 2 1) 1 ∧
          (t.policer n).bucket = (s.policer n).bucket.setTo s.cycle b (leAt c.input 4 4) (leAt c.input 8 4) ∧
          ((s.policer n).bucket.en = false → b = true → (t.policer n).bucket.level = (leAt c.input 8 4 * byteUnits : Nat)) ∧
          ∀ k, k ≠ n → mapGet t.tm.policers k policer0 = mapGet s.tm.policers k policer0)) ∧
      (s.accepts 0x42 c → s.shaperIndexOk n = true → leAt c.input 2 1 < 2 → leAt c.input 3 1 = 0 → leAt c.input 12 4 = 0 →
        bucketOk b (leAt c.input 4 4) (leAt c.input 8 4) = true →
        s.ends (.tmShaperSet c) 0x42 c CmdRes.ok [.tm, .pair] (regsOf ["PAIR_MIRROR_LEVEL"]) fun t =>
          t.shaper n = (s.shaper n).setTo s.cycle b (leAt c.input 4 4) (leAt c.input 8 4) ∧
          ∀ k, k ≠ n → mapGet t.tm.shapers k bucket0 = mapGet s.tm.shapers k bucket0) ∧
      (s.accepts 0x42 c → s.shaperIndexOk n = false → s.answers (.tmShaperSet c) 0x42 c CmdRes.input)) ∧
    (∀ c, (s.accepts 0x41 c → s.ends (.tmPolicerRead c) 0x41 c { CmdRes.ok with result := policerBytes c.param (s.policer c.param) } [.tm]
        (keysOf []) fun t => (bitOf c.flags 0 = false → t.tm = s.tm) ∧
          (bitOf c.flags 0 = true → (t.policer c.param).drops = 0 ∧ (t.policer c.param).pass = 0 ∧
            (t.policer c.param).bucket = (s.policer c.param).bucket)) ∧
      (s.accepts 0x43 c → s.shaperIndexOk c.param = true → s.answers (.tmShaperRead c) 0x43 c { CmdRes.ok with
        result := leBytes 2 c.param ++ [BitVec.ofNat 8 (b2n (s.shaper c.param).en), 0] ++ leBytes 4 (s.shaper c.param).rate ++
          leBytes 4 (s.shaper c.param).burst ++ leBytes 4 (s.shaper c.param).bytes }) ∧
      (s.accepts 0x43 c → s.shaperIndexOk c.param = false → s.answers (.tmShaperRead c) 0x43 c CmdRes.field))

/-- R369, R373 to R375: gate entries are written into the pending bank while no commit waits; a commit starts at BASE_TIME, or at the first
later cycle that is at least 2 µs ahead, and its start time is the result; it can be withdrawn until its start time, at
which it becomes the active list and the banks change over; the status follows the entry that the time calls for.
Log entry 35: the model's choice or reading. -/
def Obligations.GateListsChangeOverAtTheirStartTime : Prop :=
  ∀ s : State, s.running = true →
    (∀ c p, p = c.param % 1024 →
      (s.accepts 0x44 c → s.isPort p = true → bits c.param 16 8 + c.input.length / 8 ≤ 256 →
        (∀ i, i < c.input.length / 8 → leAt c.input (8 * i + 2) 2 = 0) →
        ((s.gate p).committed.isSome → s.answers (.tmGclWrite c) 0x44 c (CmdRes.of .busy)) ∧
        ((s.gate p).committed = none → s.ends (.tmGclWrite c) 0x44 c CmdRes.ok [.tm, .pair] (regsOf ["PAIR_MIRROR_LEVEL"]) fun t =>
          (∀ i, i < c.input.length / 8 → mapGet ((t.gate p).bank (s.pendingBank p)) (bits c.param 16 8 + i) (0, 0) =
            (leAt c.input (8 * i) 2, leAt c.input (8 * i + 4) 4)) ∧
          (t.gate p).active = (s.gate p).active ∧ ∀ k, k ≠ p → t.gate k = s.gate k)) ∧
      (s.accepts 0x44 c → (s.isPort p = false ∨ 256 < bits c.param 16 8 + c.input.length / 8) →
        s.answers (.tmGclWrite c) 0x44 c CmdRes.field) ∧
      (s.accepts 0x46 c → s.isPort p = true →
        ((s.gate p).committed = none → s.answers (.tmGclCancel c) 0x46 c (CmdRes.of .notFound)) ∧
        ((s.gate p).committed.isSome → s.ends (.tmGclCancel c) 0x46 c CmdRes.ok [.tm, .pair] (regsOf ["TM_GATE_STATUS", "PAIR_MIRROR_LEVEL"])
          fun t => t.gate p = { s.gate p with committed := none } ∧ t.bit (Reg.TM_GATE_STATUS_PENDING p) = false)) ∧
      (s.accepts 0x47 c → s.isPort p = true → ∀ m l,
        m = (s.gate p).bank (if bitOf c.param 16 then s.pendingBank p else 1 - s.pendingBank p) →
        l = (if bitOf c.param 16 then (s.gate p).committed else (s.gate p).active) →
        s.answers (.tmGclRead c) 0x47 c { CmdRes.ok with
          result := leBytes 2 (match l with | some x => x.entries.length | none => 0)
          out := (List.range 256).flatMap fun i => leBytes 2 (mapGet m i (0, 0)).1 ++ zeros 2 ++ leBytes 4 (mapGet m i (0, 0)).2 })) ∧
    (∀ c p base start, p = leAt c.input 0 2 → s.accepts 0x45 c → base = stampTime (leAt c.input 8 16) →
      start = gateStart base (leAt c.input 24 4) s.presTicks →
      (s.commitOk c.input = false → s.answers (.tmGclCommit c) 0x45 c CmdRes.input) ∧
      (s.commitOk c.input = true → ((s.gate p).committed.isSome ∨ (bitOf (leAt c.input 4 1) 0 = true ∧ s.presNone = true)) →
        s.answers (.tmGclCommit c) 0x45 c (CmdRes.of .busy)) ∧
      (s.commitOk c.input = true → (s.gate p).committed = none → (bitOf (leAt c.input 4 1) 0 = true → s.presNone = false) →
        s.ends (.tmGclCommit c) 0x45 c { CmdRes.ok with result := leBytes 16 (stampOf start 0) ++ [BitVec.ofNat 8 (b2n (start != base))] }
          [.tm, .pair] (regsOf ["TM_STATUS", "TM_GATE_LOC", "TM_GATE_ADJUST_CNT", "TM_GATE_STATUS", "PAIR_MIRROR_LEVEL"]) fun t =>
          (t.gate p).committed = some ⟨s.pendingEntries p (leAt c.input 2 2), leAt c.input 24 4, start, bitOf (leAt c.input 4 1) 0⟩ ∧
          (t.gate p).active = (s.gate p).active ∧ t.bit (Reg.TM_GATE_STATUS_PENDING p) = true ∧
          (start ≠ base → t.bit Reg.TM_STATUS_GATE_ADJUSTED = true ∧ s.counted t Reg.TM_GATE_ADJUST_CNT_COUNT) ∧
          ∀ k, k ≠ p → t.gate k = s.gate k)) ∧
    (∀ p, p < 1024 →
      (∀ c, (s.gate p).committed = some c → c.start ≤ s.presTicks → ∃ t, exec (.gateListStart p) s = .next t ∧
        t.gate p = { s.gate p with active := if c.enable then some c else none, committed := none } ∧
        t.get (Reg.TM_GATE_STATUS_ACTIVE_BANK p) = 1 - s.get (Reg.TM_GATE_STATUS_ACTIVE_BANK p) ∧
        (∀ k, k ≠ p → t.gate k = s.gate k) ∧ s.only t [.tm] (regsOf ["TM_GATE_STATUS"])) ∧
      (∀ c, (s.gate p).committed = some c → s.presTicks < c.start → ∃ t, exec (.gateListStart p) s = .next t ∧ t.gate p = s.gate p ∧ s.only t [.tm] (keysOf [])) ∧
      ((s.gate p).committed = none → ∃ t, exec (.gateListStart p) s = .next t ∧ t.gate p = s.gate p ∧ s.only t [.tm] (keysOf [])) ∧
      ((s.gate p).active = none → ∃ t, exec (.gateEntryChange p) s = .next t ∧ t.gate p = s.gate p ∧ s.only t [.tm] (keysOf [])) ∧
      (∀ l, (s.gate p).active = some l → ∃ t, exec (.gateEntryChange p) s = .next t ∧ t.bit (Reg.TM_GATE_STATUS_ENABLED p) = true ∧
        t.get (Reg.TM_GATE_STATUS_GATES p) = l.gatesAt s.presTicks % 2 ^ 16 ∧
        t.get (Reg.TM_GATE_STATUS_ENTRY p) = l.entryAt s.presTicks % 2 ^ 8 ∧ t.tm.gates = s.tm.gates ∧ s.only t [.tm] (regsOf ["TM_GATE_STATUS"])))

/-! ### DRAM (chapter 14) -/

/-- R379, R382, R383, R385 to R388, R390 to R393: the scrub reads granules in use and records what the ECC met, and counts the severity reports
of the stack; with the scrub off a failing burst waits for its next read (log entry 75); a failed pseudo-channel answers poison. A parity
alert replays the last commands of the retry buffer behind a precharge and is counted, and the fourth of its commands within 10 µs fails its
pseudo-channel when the retrain does not succeed; a request of 50 µs fails it too (log entry 94). The oldest writes drain when aged or when no
read is pending. At the end of its refresh window, of 32 ms or 16 ms while hot, the row counters of a stack return to 0; a stack at 95 °C
or more is reported, one at 85 °C or more is hot, and its catastrophic signal trips the die; a row whose counter reaches THRESHOLD has its
neighbours refreshed and counts from 0.
Log entry 46: the model's choice or reading. -/
def Obligations.TheDramControllerWatchesItsStacks : Prop :=
  ∀ s : State, s.running = true →
    (∀ g o, g < 0xC000000 → s.inUse g = true → s.parked (stackOf (pcOf g)) = false → s.funcUp .dram = true →
      (s.bit Reg.DRAM_CTRL_SCRUB_EN = true → s.pcFailed (pcOf g) = false →
        (∀ k ∈ burstsFrom (8 * g) 8, mapGet s.dram.errs k .clean = .clean) → o.burst < 8 →
        (o.ecc = .clean → ∃ t, exec (.dramScrubRead g o) s = .next t ∧
          t.get Reg.DRAM_CORR_CNT_COUNT = min (2 ^ 32 - 1) (s.get Reg.DRAM_CORR_CNT_COUNT + b2n o.severity) ∧
          t.dram.lastReq = s.dram.lastReq ∧ t.dram.errs = s.dram.errs ∧
          s.only t [.dram] (regsOf ["DRAM_CORR_CNT", "DRAM_ROW_GUARD_CNT"])) ∧
        (o.ecc = .corrected → ∃ t, exec (.dramScrubRead g o) s = .next t ∧ t.bit Reg.DRAM_STATUS_CORRECTED = true ∧
          t.get Reg.DRAM_CORR_CNT_COUNT = min (2 ^ 32 - 1) (s.get Reg.DRAM_CORR_CNT_COUNT + 1 + b2n o.severity) ∧
          t.bit Reg.DRAM_ERR_LOC_UNCORR = false ∧ t.get Reg.DRAM_ERR_LOC_USER = 4 ∧ t.get Reg.DRAM_ERR_LOC_GRANULE = g ∧
          s.only t [.dram] (regsOf ["DRAM_STATUS", "DRAM_ERR_LOC", "DRAM_CORR_CNT", "DRAM_ROW_GUARD_CNT"])) ∧
        (o.ecc = .uncorrectable → ∃ t, exec (.dramScrubRead g o) s = .next t ∧ t.bit Reg.DRAM_STATUS_UNCORR = true ∧
          s.counted t Reg.DRAM_UNCORR_CNT_COUNT ∧ t.bit Reg.DRAM_ERR_LOC_UNCORR = true ∧ t.get Reg.DRAM_ERR_LOC_USER = 4 ∧
          t.get Reg.DRAM_ERR_LOC_GRANULE = g ∧ mapGet t.dram.errs (8 * g + o.burst) .clean = .uncorrectable ∧
          s.only t [.dram] (regsOf ["DRAM_STATUS", "DRAM_ERR_LOC", "DRAM_CORR_CNT", "DRAM_UNCORR_CNT", "DRAM_ROW_GUARD_CNT"]))) ∧
      (s.bit Reg.DRAM_CTRL_SCRUB_EN = true → s.pcFailed (pcOf g) = true → ∃ t, exec (.dramScrubRead g o) s = .next t ∧
        s.counted t Reg.DRAM_UNCORR_CNT_COUNT ∧ t.bit Reg.DRAM_ERR_LOC_UNCORR = true ∧ t.get Reg.DRAM_ERR_LOC_USER = 4 ∧
        s.only t [.dram] (regsOf ["DRAM_STATUS", "DRAM_ERR_LOC", "DRAM_UNCORR_CNT"])) ∧
      (s.bit Reg.DRAM_CTRL_SCRUB_EN = false → ∃ t, exec (.dramScrubRead g o) s = .next t ∧ s.only t [.dram] (keysOf []) ∧
        t.dram = { s.dram with errs := if o.ecc = .clean then s.dram.errs else mapPut s.dram.errs (8 * g + o.burst) o.ecc })) ∧
    (∀ pc cmd n ok four sent, pc < 64 → sent = mapGet s.dram.retry pc [] →
      four = (cmd && decide (3 ≤ ((mapGet s.dram.alerts pc []).filter fun c => decide (s.cycle < c + 10 * usCycles)).length)) →
      ∃ t, exec (.caParityAlert pc ⟨cmd, n, ok⟩) s = .next t ∧ t.bit Reg.DRAM_STATUS_CA_REPLAY = true ∧ s.counted t Reg.DRAM_CA_REPLAY_CNT_COUNT ∧
        (∀ l, l = sent ++ [.prechargeAll] ++ sent.drop (sent.length - n) → mapGet t.dram.retry pc [] = l.drop (l.length - 32)) ∧
        (four = true → ok = false → t.pcFailed pc = true ∧ t.bit Reg.DRAM_STATUS_PC_FAIL = true ∧ mapGet t.dram.writes pc [] = []) ∧
        (four = false ∨ ok = true → t.dram.writes = s.dram.writes ∧
          s.only t [.dram] (regsOf ["DRAM_STATUS", "DRAM_CA_REPLAY_CNT", "DRAM_ROW_GUARD_CNT"])) ∧
        (four = true → mapGet t.dram.alerts pc [] = []) ∧
        (cmd = false → t.dram.alerts = s.dram.alerts) ∧
        s.only t [.dram] (regsOf ["DRAM_STATUS", "DRAM_CA_REPLAY_CNT", "DRAM_ROW_GUARD_CNT", "DRAM_PC_FAILED_LO", "DRAM_PC_FAILED_HI"])) ∧
    (∀ pc, pc < 64 → (s.overdue pc = true → ∃ t, exec (.dramRequestTimeout pc) s = .next t ∧ t.pcFailed pc = true ∧
        t.bit Reg.DRAM_STATUS_PC_FAIL = true ∧ mapGet t.dram.writes pc [] = [] ∧
        (∀ k, k < 64 → k ≠ pc → t.pcFailed k = s.pcFailed k) ∧
        s.only t [.dram] (regsOf ["DRAM_STATUS", "DRAM_PC_FAILED_LO", "DRAM_PC_FAILED_HI"])) ∧
      (∀ w l, mapGet s.dram.writes pc [] = w :: l → w.2 + 50 * usCycles ≤ s.cycle → s.overdue pc = true) ∧
      (s.overdue pc = false → ∃ t, exec (.dramRequestTimeout pc) s = .next t ∧ s.only t [] (keysOf []))) ∧
    (∀ pc w l n, pc < 64 → mapGet s.dram.writes pc [] = w :: l → n = min (s.get Reg.DRAM_SCHED_WR_LOW) l.length →
      (3 * s.get Reg.DRAM_SCHED_WR_AGE_NS ≤ 2 * (s.cycle - w.2) → ∃ t, exec (.writeAgeDrain pc) s = .next t ∧
        mapGet t.dram.writes pc [] = (w :: l).drop (l.length + 1 - n) ∧ s.only t [.dram] (regsOf ["DRAM_ROW_GUARD_CNT"])) ∧
      (2 * (s.cycle - w.2) < 3 * s.get Reg.DRAM_SCHED_WR_AGE_NS → ∃ t, exec (.writeAgeDrain pc) s = .next t ∧ s.only t [] (keysOf [])) ∧
      (mapGet s.dram.lastRead pc 0 + 150 ≤ s.cycle → ∃ t, exec (.readIdleDrain pc) s = .next t ∧
        mapGet t.dram.writes pc [] = (w :: l).drop (l.length + 1 - n) ∧ s.only t [.dram] (regsOf ["DRAM_ROW_GUARD_CNT"])) ∧
      (s.cycle < mapGet s.dram.lastRead pc 0 + 150 → ∃ t, exec (.readIdleDrain pc) s = .next t ∧ s.only t [] (keysOf []))) ∧
    (∀ k window, k < 2 → window = (if k ∈ s.dram.hot then 16 * msCycles else 32 * msCycles) →
      (mapGet s.dram.windowAt k 0 + window ≤ s.cycle → ∃ t, exec (.refresh k) s = .next t ∧ mapFind t.dram.windowAt k = some s.cycle ∧
        (∀ b, mapFind t.dram.rows b = if b / 48 / 32 = k then none else mapFind s.dram.rows b) ∧ s.only t [.dram] (keysOf [])) ∧
      (s.cycle < mapGet s.dram.windowAt k 0 + window → ∃ t, exec (.refresh k) s = .next t ∧ s.only t [] (keysOf []))) ∧
    (∀ a b, a < 256 → b < 256 → (∃ t, exec (.dramTempRead ⟨a, b⟩ false) s = .next t ∧ t.get Reg.DRAM_TEMP_STACK0 = a ∧
        t.get Reg.DRAM_TEMP_STACK1 = b ∧ (95 ≤ a ∨ 95 ≤ b → t.bit Reg.DRAM_STATUS_TEMP = true) ∧
        (85 ≤ a → 0 ∈ t.dram.hot) ∧ (85 ≤ b → 1 ∈ t.dram.hot) ∧ t.bit Reg.DRAM_STATUS_HOT = !t.dram.hot.isEmpty ∧
        s.only t [.dram] (regsOf ["DRAM_STATUS", "DRAM_TEMP"])) ∧
      ∃ t, exec (.dramTempRead ⟨a, b⟩ true) s = .next t ∧ s.fellTo t .tripped 0) ∧
    (∀ bank row n, bank < 3072 → row < 16384 → n = s.rowCount bank row →
      (s.get Reg.DRAM_ROW_GUARD_THRESHOLD ≤ n → ∃ t, exec (.rowGuardRefresh bank row) s = .next t ∧
        s.counted t Reg.DRAM_ROW_GUARD_CNT_COUNT ∧ t.rowCount bank row = 0 ∧
        (∀ k, k ≠ bank → mapGet t.dram.rows k [] = mapGet s.dram.rows k []) ∧
        s.only t [.dram] (keysOf [Reg.DRAM_ROW_GUARD_CNT_COUNT])) ∧
      (n < s.get Reg.DRAM_ROW_GUARD_THRESHOLD → ∃ t, exec (.rowGuardRefresh bank row) s = .next t ∧ s.only t [] (keysOf [])))

/-- R394 to R401, R556: in service an idle stack parks and wakes for a request, and its timing is recalibrated once every RECAL_MS; in maintenance
an idle SID enters idle mode. SERVICE is set only when training has ended well. Training begins at START outside service, or once at
start-up, loses what DRAM held, takes each pseudo-channel once, maps the first failing lane of a channel and fails both of its pseudo-channels at a second (log entry 62), and
ends after the 64th.
Log entry 62: the model's choice or reading. -/
def Obligations.DramParksIdlesAndTrains : Prop :=
  ∀ s : State, s.running = true →
    (∀ k, k < 2 → s.bit Reg.DRAM_CTRL_SERVICE = true → s.bit Reg.DRAM_CTRL_PARK_EN = true → s.parked k = false →
      mapGet s.dram.lastReq k 0 + s.get Reg.DRAM_PWR_PARK_MS * msCycles ≤ s.cycle → ∃ t, exec (.stackPark k) s = .next t ∧
        t.parked k = true ∧ s.counted t Reg.DRAM_PARK_CNT_COUNT ∧ (∀ i, i < 32 → mapGet t.dram.writes (32 * k + i) [] = []) ∧
        s.only t [.dram] (regsOf ["DRAM_STATUS", "DRAM_PARK_CNT", "DRAM_ROW_GUARD_CNT"])) ∧
    (∀ k, k < 2 → (s.parked k = true → ∃ t, exec (.stackWake k) s = .next t ∧ t.parked k = false ∧
        (∀ i, i < 32 → mapFind t.dram.recalAt (32 * k + i) = some s.cycle) ∧ mapFind t.dram.lastReq k = some s.cycle ∧
        s.only t [.dram] (regsOf ["DRAM_STATUS"])) ∧
      (s.parked k = false → ∃ t, exec (.stackWake k) s = .next t ∧ s.only t [] (keysOf []))) ∧
    (∀ k sid, k < 2 → sid < 3 → s.bit Reg.DRAM_CTRL_SERVICE = false →
      mapGet s.dram.lastSid (k * 3 + sid) 0 + s.get Reg.DRAM_PWR_SID_IDLE_MS * msCycles ≤ s.cycle →
      ∃ t, exec (.sidIdle k sid) s = .next t ∧ k * 3 + sid ∈ t.dram.sidIdle ∧ s.only t [.dram] (keysOf [])) ∧
    (∀ pc, pc < 64 → s.bit Reg.DRAM_CTRL_SERVICE = true → s.parked (stackOf pc) = false →
      mapGet s.dram.recalAt pc 0 + s.get Reg.DRAM_RECAL_RECAL_MS * msCycles ≤ s.cycle → ∃ t, exec (.dramRecal pc) s = .next t ∧
        mapFind t.dram.recalAt pc = some s.cycle ∧ s.only t [.dram] (keysOf [])) ∧
    (∀ v, s.served → s.funcUp .dram = true → v < 8 →
      (bitOf v 0 = true → s.get Reg.DRAM_TRAIN_STATUS ≠ 2 → s.turnsAway (.dramServiceWrite v) .busy) ∧
      (bitOf v 0 = false ∨ s.get Reg.DRAM_TRAIN_STATUS = 2 → s.takes (.dramServiceWrite v) [.dram] (regsOf ["DRAM_CTRL"]) fun t =>
        t.bit Reg.DRAM_CTRL_SERVICE = bitOf v 0 ∧ t.bit Reg.DRAM_CTRL_PARK_EN = bitOf v 1 ∧ t.bit Reg.DRAM_CTRL_SCRUB_EN = bitOf v 2 ∧
        (bitOf v 0 = true → t.dram.sidIdle = []))) ∧
    (s.served → s.funcUp .dram = true →
      (s.bit Reg.DRAM_CTRL_SERVICE = true ∨ s.get Reg.DRAM_TRAIN_STATUS = 1 → s.turnsAway .dramTrainStart .busy) ∧
      (s.bit Reg.DRAM_CTRL_SERVICE = false → s.get Reg.DRAM_TRAIN_STATUS ≠ 1 →
        ∃ t, exec .dramTrainStart s = .next t ∧ t.lastStatus = .ok ∧ t.get Reg.DRAM_TRAIN_STATUS = 1 ∧ t.dram.trained = [] ∧
          t.hasRoutine (· == .dramTraining) = true ∧ t.flow.contexts = [] ∧ (∀ e ∈ t.tally.ring, e.lost = true) ∧
          s.only t [.answer, .ports, .counters, .events, .reck, .path, .flow, .buf, .tm, .tally, .host, .dram, .pair] (regsOf
            ["CNT_HALF_LO", "CNT_HALF_HI", "TALLY_STATUS", "TALLY_RING_LEVEL", "TALLY_LOST_CNT", "FLOW_USED", "BUF_POOL_USED",
            "BUF_POOL_SHARED", "BUF_STATUS", "BUF_XOFF_POOLS", "BUF_LANDING", "BUF_BAD_FREE_LOC", "BUF_BAD_FREE_CNT", "BUF_SPILL_USED",
            "QUE_COPIES", "DRAM_TRAIN", "RING_DEV_INDEX"]))) ∧
    (∀ pc n ok bad good, pc < 64 → s.get Reg.DRAM_TRAIN_STATUS = 1 → pc ∉ s.dram.trained → s.runsRoutine .dramTraining = true →
      bad = mapGet s.dram.lanes (pc / 2) 0 + n → good = (ok && decide (bad < 2)) →
      ∃ t, exec (.dramTraining pc n ok) s = .next t ∧ t.dram.trained = s.dram.trained ++ [pc] ∧
        (good = false → t.pcFailed pc = true) ∧ (good = true → t.pcFailed pc = s.pcFailed pc) ∧
        (2 ≤ bad → ∀ k, k < 64 → k / 2 = pc / 2 → t.pcFailed k = true) ∧
        (s.dram.trained.length = 63 → t.get Reg.DRAM_TRAIN_STATUS = (if good ∧ s.dram.trainBad = false then 2 else 3) ∧
          t.runsRoutine .dramTraining = false) ∧
        (s.dram.trained.length < 63 → t.get Reg.DRAM_TRAIN_STATUS = 1) ∧
        mapGet t.dram.lanes (pc / 2) 0 = bad ∧
        (1 ≤ n → mapGet s.dram.lanes (pc / 2) 0 = 0 → s.counted t Reg.DRAM_LANE_REPAIRED_CNT_COUNT ∧
          t.get Reg.DRAM_TRAIN_LANE_REPAIRED = (s.get Reg.DRAM_TRAIN_LANE_REPAIRED + 1) % 256) ∧
        (n = 0 ∨ 1 ≤ mapGet s.dram.lanes (pc / 2) 0 → t.get Reg.DRAM_LANE_REPAIRED_CNT_COUNT = s.get Reg.DRAM_LANE_REPAIRED_CNT_COUNT) ∧
        s.only t [.reck, .dram] (regsOf ["SYS_FUNC_STATUS", "SYS_FUNC_EVT", "SYS_START_STATUS", "DRAM_TRAIN", "DRAM_STATUS",
          "DRAM_PC_FAILED_LO", "DRAM_PC_FAILED_HI", "DRAM_LANE_REPAIRED_CNT", "RCK_ENG_STATUS"])) ∧
    (s.served → s.funcUp .dram = true → s.get Reg.DRAM_TRAIN_STATUS < 4 → s.get Reg.DRAM_TRAIN_LANE_REPAIRED < 256 →
      ∃ t, exec .dramTrainRead s = .next t ∧ t.lastStatus = .ok ∧
        t.lastData = 4 * s.get Reg.DRAM_TRAIN_LANE_REPAIRED + s.get Reg.DRAM_TRAIN_STATUS ∧ t.dram.trainUnread = false ∧
        s.only t [.answer, .dram] (keysOf [])) ∧
    (s.plat.trainAsked = false → s.get Reg.SEC_BOOT_STATE = 1 →
      (s.bit Reg.SYS_START_STATUS_PATCH_SETTLED = true ∨
        (s.plat.bootDoneAt + 100 * msCycles ≤ s.cycle ∧ s.get Reg.RCK_PATCH_STATUS_STATE = 0) →
        ∃ t, exec .dramTrainingRequest s = .next t ∧ t.get Reg.DRAM_TRAIN_STATUS = 1 ∧ t.plat.trainAsked = true ∧
          t.bit Reg.SYS_START_STATUS_PATCH_SETTLED = true ∧ t.hasRoutine (· == .dramTraining) = true ∧
          s.only t [.reck, .dram, .plat] (regsOf ["SYS_START_STATUS", "DRAM_TRAIN"])) ∧
      (s.bit Reg.SYS_START_STATUS_PATCH_SETTLED = false → s.cycle < s.plat.bootDoneAt + 100 * msCycles →
        ∃ t, exec .dramTrainingRequest s = .next t ∧ s.only t [] (keysOf [])))

/-! ### The host link (chapter 15) -/

/-- R403 to R405, R423, R424, Table 15-2: training starts at MAX_RATE, a rate that fails three times in a row gives way to the
next lower, and after the lowest the link is FAILED until 100 ms have passed. A training or retraining that ends well makes the link
ACTIVE; a link that comes up afresh begins with the slots of R410. More than 16 retries in 1 ms, or a link error, retrain an ACTIVE
link; the reports of 1 ms add up. A link that was up and has been out of ACTIVE for DOWN_MS loses the host: its reads fail, what waits for it is discarded, and with
LOST_ACT = 1 every transmitter goes idle and HOLD_OUT low.
Log entries 19 and 64: the model's choices or readings. -/
def Obligations.TheHostLinkTrainsAndIsLost : Prop :=
  ∀ s : State, s.running = true →
    (s.get Reg.HLINK_STATUS_STATE = 0 → ∃ t, exec (.linkTraining true) s = .next t ∧ t.get Reg.HLINK_STATUS_STATE = 1 ∧
      t.get Reg.HLINK_STATUS_RATE = s.get Reg.HLINK_CTRL_MAX_RATE % 4 ∧ t.host.rate = s.get Reg.HLINK_CTRL_MAX_RATE ∧ t.host.tries = 0 ∧
      s.only t [.host] (regsOf ["SYS_START_STATUS", "HLINK_STATUS"])) ∧
    (s.get Reg.HLINK_STATUS_STATE = 1 → ∃ t, exec (.linkTraining false) s = .next t ∧
      (s.host.tries < 2 → t.get Reg.HLINK_STATUS_STATE = 1 ∧ t.host.tries = s.host.tries + 1 ∧ t.host.rate = s.host.rate) ∧
      (2 ≤ s.host.tries → s.host.rate < 3 → t.get Reg.HLINK_STATUS_STATE = 1 ∧ t.host.tries = 0 ∧ t.host.rate = s.host.rate + 1 ∧
        t.get Reg.HLINK_STATUS_RATE = s.host.rate + 1) ∧
      (2 ≤ s.host.tries → 3 ≤ s.host.rate → t.get Reg.HLINK_STATUS_STATE = 4) ∧
      s.only t [.host] (regsOf ["SYS_START_STATUS", "HLINK_STATUS"])) ∧
    (s.get Reg.HLINK_STATUS_STATE = 3 → s.host.rate < 3 → ∃ t, exec (.linkTraining false) s = .next t ∧
      t.get Reg.HLINK_STATUS_STATE = 1 ∧ t.host.rate = s.host.rate + 1 ∧ s.only t [.host] (regsOf ["SYS_START_STATUS", "HLINK_STATUS"])) ∧
    (∀ rep, s.get Reg.HLINK_STATUS_STATE = 1 ∨ s.get Reg.HLINK_STATUS_STATE = 3 → ∃ t, exec (.linkTrainingDone rep) s = .next t ∧
      t.linkActive = true ∧ t.bit Reg.SYS_START_STATUS_LINK_ACTIVE = true ∧ t.bit Reg.HLINK_STATUS_REPAIRED = rep ∧
      t.host.upOnce = true ∧ t.host.serviceOff = s.host.serviceOff ∧ (s.host.waiting = [] → s.host.wanted = [] →
        (s.host.upOnce = false → t.host.credit = 1024 ∧ t.host.rxCredit = 4096) ∧
        (s.host.upOnce = true → t.host.credit = s.host.credit ∧ t.host.rxCredit = s.host.rxCredit)) ∧
      (∃ l r, t.host.sent = s.host.sent ++ l ++ r ∧ l ++ t.host.waiting = s.host.waiting ∧
        (t.host.waiting ≠ [] → r = []) ∧ ∀ m ∈ r, ∃ tag a n, m = HostMsg.memRd tag a n ∧ (mapFind s.host.reads tag).isNone = true) ∧
      s.only t [.host] (regsOf ["SYS_START_STATUS", "HLINK_STATUS"])) ∧
    (s.get Reg.HLINK_STATUS_STATE = 4 →
      (s.host.trainSince + 100 * msCycles ≤ s.cycle → ∃ t, exec .linkTrainRestart s = .next t ∧ t.get Reg.HLINK_STATUS_STATE = 1 ∧
        t.host.rate = s.get Reg.HLINK_CTRL_MAX_RATE ∧ s.only t [.host] (regsOf ["SYS_START_STATUS", "HLINK_STATUS"])) ∧
      (s.cycle < s.host.trainSince + 100 * msCycles → ∃ t, exec .linkTrainRestart s = .next t ∧ s.only t [] (keysOf []))) ∧
    (∀ n err k, s.linkActive = true →
      k = n + ((s.host.retries.filter fun e => decide (s.cycle < e.1 + msCycles)).map (·.2)).sum →
      ∃ t, exec (.linkRetrain n err) s = .next t ∧
      t.get Reg.HLINK_CRC_RETRY_CNT_COUNT = min (2 ^ 32 - 1) (s.get Reg.HLINK_CRC_RETRY_CNT_COUNT + n) ∧
      (16 < k ∨ err = true → t.get Reg.HLINK_STATUS_STATE = 3 ∧ t.bit Reg.HLINK_STATUS_RETRAINED = true ∧
        s.counted t Reg.HLINK_RETRAIN_CNT_COUNT ∧ t.host.outSince = s.cycle) ∧
      (k ≤ 16 → err = false → t.linkActive = true ∧ t.host.sent = s.host.sent ∧ (t.host.retries.map (·.2)).sum = k ∧
        s.only t [.host] (keysOf [Reg.HLINK_CRC_RETRY_CNT_COUNT])) ∧
      s.only t [.host] (regsOf ["SYS_START_STATUS", "HLINK_STATUS", "HLINK_CRC_RETRY_CNT", "HLINK_RETRAIN_CNT"])) ∧
    (s.linkActive = false → s.host.upOnce = true →
      (s.host.outSince + s.get Reg.HLINK_CTRL_DOWN_MS * msCycles ≤ s.cycle → ∃ t, exec .hostLost s = .next t ∧
        t.bit Reg.HLINK_STATUS_HOST_LOST = true ∧ t.host.reads = [] ∧ t.host.wanted = [] ∧ t.host.waiting = [] ∧
        t.host.serviceOff = true ∧ t.host.upOnce = false ∧ t.host.sent = s.host.sent ∧ (∀ e ∈ s.host.reads, ∀ n, e.2.user = .descriptor n → n < 64 → t.halted n = true) ∧
        (s.bit Reg.HLINK_CTRL_LOST_ACT = true → t.silent ∧ t.bit Reg.PAIR_STATUS_HOLD_OUT = false ∧ t.pair.gate = false) ∧
        (s.bit Reg.HLINK_CTRL_LOST_ACT = false → s.pair.gate = t.pair.gate) ∧
        s.only t [.events, .host, .pair] (regsOf ["HLINK_STATUS", "RING_STATUS", "RING_HALTED_LO", "RING_HALTED_HI", "RING_CFG",
          "RING_DEV_INDEX", "PAIR_STATUS"])) ∧
      (s.cycle < s.host.outSince + s.get Reg.HLINK_CTRL_DOWN_MS * msCycles → ∃ t, exec .hostLost s = .next t ∧ s.only t [] (keysOf [])))

/-- R407 to R413, R418, R420, R422, R432, Table 15-4: a message in order is applied once its slots are taken: a CFG_RD reads its
registers one after another and a CFG_WR writes them up to the first that is refused, and a REPLY of the same tag carries the status, the
count and the data, or FATAL where the register fabric fails (log entry 15); a DB_WR moves a doorbell that R432 accepts; a REPLY gives a read its data or fails it; a CREDIT adds to the
slots the device may send. A message in error is recorded, and the rest of its flit is discarded. A read without a REPLY fails after MEM_TO_US.
Log entries 14, 15, 17, 18 and 20: the model's choices or readings. -/
def Obligations.MessagesOfTheHostAreAppliedOrDiscarded : Prop :=
  ∀ (s : State) (m : HostIn), s.running = true → m.slot < 15 → s.linkActive = true →
    (s.host.badFlit ≠ some m.flit → s.msgFault m = 0 →
      (∀ u, u = (s.modHost fun h => { h with rxCredit := h.rxCredit - m.slots }) →
        (m.type = 1 → m.fabricError = none → ∃ t a r, exec (.cfgRd m) s = .next t ∧ r = readMany m.len (leAt m.bytes 8 4) u ∧
          t.lastStatus = r.1 ∧
          HostMsg.reply r.1 a m.tag r.2.1 (padTo (4 * m.len) (r.2.2.1.flatMap (leBytes 4))) ∈ t.host.sent ++ t.host.waiting ∧
          t.events.keepFrom = t.cycle ∧ r.2.2.2.only t [.answer, .events, .host] (keysOf [])) ∧
        (∀ i r, m.type = 1 → m.fabricError = some i → i < m.len → r = readMany (i + 1) (leAt m.bytes 8 4) u → r.1 = .ok →
          ∃ t a, exec (.cfgRd m) s = .next t ∧ t.lastStatus = .fatal ∧
            HostMsg.reply .fatal a m.tag i (padTo (4 * m.len) ((r.2.2.1.take i).flatMap (leBytes 4))) ∈ t.host.sent ++ t.host.waiting ∧
            r.2.2.2.only t [.answer, .events, .host] (keysOf [])) ∧
        (m.type = 2 → ∃ t a r, exec (.cfgWr m) s = .next t ∧
          r = writeMany ((List.range m.len).map fun i => leAt m.data (4 * i) 4) (leAt m.bytes 8 4) u ∧ t.lastStatus = r.1 ∧
          (r.2.2.bit Reg.SYS_CTRL_WARM_RESET = false → HostMsg.reply r.1 a m.tag r.2.1 [] ∈ t.host.sent ++ t.host.waiting ∧
            r.2.2.only t [.answer, .events, .host] (keysOf [])))) ∧
      (∀ n v d, m.type = 3 → n = leAt m.bytes 8 1 → v = leAt m.bytes 12 4 →
        d = (if hostProduced n then v + 2 ^ 32 - s.devIndex n else s.devIndex n + 2 ^ 32 - v) % 2 ^ 32 →
        ∃ t, exec (.dbWr m) s = .next t ∧
          (s.ringOn n = true → d ≤ s.ringSize n → t.get (Reg.RING_DB_DOORBELL n) = v ∧
            (n ≠ 62 → s.only t [.host] (regsOf ["RING_DB"])) ∧
            s.only t [.host, .dram] (regsOf ["RING_DB", "RING_DEV_INDEX", "DRAM_STATUS", "DRAM_ERR_LOC", "DRAM_CORR_CNT",
              "DRAM_UNCORR_CNT", "DRAM_ROW_GUARD_CNT"])) ∧
          (s.ringOn n = false ∨ s.ringSize n < d → s.counted t Reg.RING_BAD_DB_CNT_COUNT ∧ t.get Reg.RING_BAD_DB_LOC_RING = n ∧
            t.bit Reg.RING_STATUS_BAD_DB = true ∧ s.only t [.host] (regsOf ["RING_STATUS", "RING_BAD_DB_LOC", "RING_BAD_DB_CNT"]))) ∧
      (∀ r n, m.type = 6 → mapFind s.host.reads m.tag = some r → s.host.wanted = [] → r.user = .descriptor n → n < 64 →
        ∃ t, exec (.reply m) s = .next t ∧ mapFind t.host.reads m.tag = none ∧
          (m.status = 0 → m.len = r.len → (t.ring n).fetched = some (m.data.take m.len) ∧ t.halted n = s.halted n) ∧
          (m.status ≠ 0 ∨ m.len ≠ r.len → t.halted n = true ∧ (t.ring n).fetched = (s.ring n).fetched ∧
            t.bit Reg.RING_STATUS_HALTED = true)) ∧
      (m.type = 6 → mapFind s.host.reads m.tag = none → ∃ t, exec (.reply m) s = .next t ∧ s.counted t Reg.HLINK_LATE_REPLY_CNT_COUNT ∧
        s.only t [.host] (keysOf [Reg.HLINK_LATE_REPLY_CNT_COUNT])) ∧
      (m.type = 7 → s.host.waiting = [] → s.host.wanted = [] → 1 ≤ s.host.credit + leAt m.bytes 8 4 → ∃ t, exec (.credit m) s = .next t ∧
        t.host.credit + 1 = s.host.credit + leAt m.bytes 8 4 ∧ t.host.rxCredit = s.host.rxCredit ∧
        t.host.sent = s.host.sent ++ [.credit 1] ∧ s.only t [.host] (keysOf []))) ∧
    (∀ i, i ∈ [Instr.cfgRd m, .cfgWr m, .dbWr m, .reply m, .credit m, .reservedTypeMessage m] →
      (s.host.badFlit = some m.flit → ∃ t, exec i s = .next t ∧ s.only t [] (keysOf [])) ∧
      (s.host.badFlit ≠ some m.flit → s.msgFault m ≠ 0 → ∃ t, exec i s = .next t ∧ t.get Reg.HLINK_PROTO_LOC_TYPE = m.type ∧
        t.get Reg.HLINK_PROTO_LOC_REASON = s.msgFault m ∧ t.get Reg.HLINK_PROTO_LOC_TAG = m.tag ∧
        s.counted t Reg.HLINK_PROTOCOL_CNT_COUNT ∧ t.bit Reg.HLINK_STATUS_PROTOCOL = true ∧ t.host.badFlit = some m.flit ∧
        t.host.sent = s.host.sent ∧ s.only t [.host] (regsOf ["HLINK_STATUS", "HLINK_PROTO_LOC", "HLINK_PROTOCOL_CNT"]))) ∧
    (∀ tag r, tag < 1024 → mapFind s.host.reads tag = some r →
      (r.since + s.memTimeout ≤ s.cycle → ∃ t, exec (.memRdTimeout tag) s = .next t ∧ s.counted t Reg.HLINK_MEM_TIMEOUT_CNT_COUNT ∧
        t.bit Reg.HLINK_STATUS_MEM_TIMEOUT = true ∧ (∀ n, r.user = .descriptor n → n < 64 → t.halted n = true) ∧
        s.only t [.events, .host] (regsOf ["HLINK_STATUS", "HLINK_MEM_TIMEOUT_CNT", "RING_STATUS", "RING_HALTED_LO", "RING_HALTED_HI",
          "RING_CFG", "RING_DEV_INDEX"])) ∧
      (s.cycle < r.since + s.memTimeout → ∃ t, exec (.memRdTimeout tag) s = .next t ∧ s.only t [] (keysOf [])))

/-! ### Rings (chapter 16) -/

/-- R431, R433 to R438, R440, R445, R446, R451, R452, Tables 16-3 and 16-6: the ring engine takes the next descriptor of the ring whose turn
it is: a command that has run before replays its completion, one with a fault completes with RANGE, another's input is read; an
injected frame enters at admission as owner INJECT once its bytes are read, or completes with RETRY for want of a bead. The index
block follows the device index. A ring that is enabled starts at index 0, without the inject descriptor it may have had in progress (log entry 43), one that is disabled with nothing in progress stops, a
halted ring resumes, and a ring in use refuses another set-up with BUSY.
Log entries 21, 22 and 43: the model's choices or readings. -/
def Obligations.RingsTakeDescriptorsInTurn : Prop :=
  ∀ s : State, s.running = true →
    (s.host.serviceOff = true ∨ s.nextTake = none → ∃ t, exec .descriptorTake s = .next t ∧ s.only t [] (keysOf [])) ∧
    (∀ n d cq, s.host.serviceOff = false → s.nextTake = some n → (s.ring n).fetched = some d → cq = s.get (Reg.RING_CFG_CQ n) → cq < 16 →
      s.devIndex n < 2 ^ 32 →
      ∃ t, exec .descriptorTake s = .next t ∧ t.host.rotate = n ∧ (t.ring n).fetched = none ∧
        (∀ op c, n < 32 → op = leAt d 0 1 → c = cmdOfDesc n (s.devIndex n) d → (n, s.devIndex n) ∉ s.host.orphans →
          t.devIndex n = (s.devIndex n + 1) % 2 ^ 32 ∧ (t.ring n).behind = true ∧
          ((s.ring n).history.find? (·.1 == c.seq) = none →
            (opInfo op = none → t.completed op c ⟨.range, 4, false, [], []⟩ ∧ (t.ring n).running = none) ∧
            (∀ o, opInfo op = some o →
              (descOk o c d = false → t.completed op c CmdRes.field ∧ (t.ring n).running = none) ∧
              (descOk o c d = true → (t.ring n).running = some (op, c) ∧ (t.ring n).need = leAt d 12 4 ∧
                (t.ring cq).reserved = (s.ring cq).reserved + 1 ∧ t.host.completion = s.host.completion))) ∧
          (∀ q o b, (s.ring n).history.find? (·.1 == c.seq) = some (q, o, b) → (t.ring n).running = none ∧
            (o = op → ∃ a, t.host.completion = replayBytes a c.descIndex b) ∧
            (o ≠ op → t.completed op c CmdRes.field))) ∧
        (48 ≤ n →
          (injectOk d (s.injectDestOk d) = true → t.devIndex n = s.devIndex n ∧ (t.ring n).need = leAt d 6 2 ∧ (t.ring n).desc = d ∧
            (∃ c, (t.ring n).running = some (256, c)) ∧ (t.ring cq).reserved = (s.ring cq).reserved + 1) ∧
          (injectOk d (s.injectDestOk d) = false → t.devIndex n = (s.devIndex n + 1) % 2 ^ 32 ∧ (t.ring n).running = none ∧
            ∃ a, t.host.completion = injectEntry a .range n 1 0 (leAt d 8 4) (s.devIndex n) 0)) ∧
        s.only t [.events, .reck, .host] (regsOf ["RING_CFG", "RING_DEV_INDEX"])) ∧
    (∀ n d x c, 48 ≤ n → n < 61 → (s.ring n).running = some (256, c) → d = (s.ring n).desc → x = s.injectFrame d (s.ring n).frameBytes →
      s.devIndex n < 2 ^ 32 → s.get (Reg.RING_CFG_CQ n) < 16 → s.funcUp .buf = true →
      (((s.ring n).parts.map (·.2.length)).sum < (s.ring n).need → ∃ t, exec (.injectDescriptor n) s = .next t ∧ s.only t [] (keysOf [])) ∧
      ((s.ring n).need ≤ ((s.ring n).parts.map (·.2.length)).sum →
        (takeBeads x.pool ownerInject 1 (ceilDiv x.bytes.length 256) [] (s.turnOn x.pool) = none → ∃ t, exec (.injectDescriptor n) s = .next t ∧
          s.counted t Reg.BUF_DROP_CNT_COUNT ∧ t.bit Reg.BUF_STATUS_DROP = true ∧ t.devIndex n = (s.devIndex n + 1) % 2 ^ 32 ∧
          (t.ring n).running = none ∧ t.path.frames = s.path.frames ∧
          (bitOf (leAt d 0 1) 0 = true ∨ bitOf (leAt d 0 1) 2 = true → ∃ a lost,
            t.host.completion = injectEntry a .retry n 6 lost (leAt d 8 4) (s.devIndex n) 0)) ∧
        (∀ l u, takeBeads x.pool ownerInject 1 (ceilDiv x.bytes.length 256) [] (s.turnOn x.pool) = some (l, u) → leAt d 2 1 = 0 →
          s.isLocal (leAt d 4 2) = true → s.bit (Reg.MIRROR_PORT_CFG_EGR_EN (leAt d 4 2 - s.logicalBase)) = false →
          s.funcUp .tm = true → ∃ t y r, exec (.injectDescriptor n) s = .next t ∧
            t.frame s.path.nextFrame = some y ∧ y.bytes = x.bytes ∧ y.beads = l ∧ y.port = 1024 ∧ y.stage = .walking ∧ y.copies = 1 ∧
            y.mark = x.mark ∧ y.ingStamp = s.presStamp ∧ y.stampReq = bitOf (leAt d 0 1) 0 ∧ y.oneStep = bitOf (leAt d 0 1) 1 ∧
            y.inject = some s.path.nextFrame ∧ mapFind t.host.inject s.path.nextFrame = some r ∧ r.ring = n ∧
            r.descIndex = s.devIndex n ∧ r.tag = leAt d 8 4 ∧ r.left = 1 ∧ r.lost = 0 ∧
            t.devIndex n = (s.devIndex n + 1) % 2 ^ 32 ∧ (t.ring n).running = none)) ∧
      (∀ t, exec (.injectDescriptor n) s = .next t → s.only t [.ports, .counters, .events, .mcast, .path, .buf, .tally, .host, .pair]
        (regsOf ["CNT_HALF_LO", "CNT_HALF_HI", "MCAST_MEMBERS_USED", "TALLY_STATUS", "TALLY_RING_LEVEL", "TALLY_LOST_CNT", "BUF_POOL_USED",
          "BUF_POOL_SHARED", "BUF_STATUS", "BUF_XOFF_POOLS", "BUF_LANDING", "BUF_BAD_FREE_LOC", "BUF_DROP_CNT", "BUF_HEADROOM_CNT",
          "BUF_REF_LIMIT_CNT", "BUF_BAD_FREE_CNT", "RING_CFG", "RING_DEV_INDEX", "SPAN_STATUS"]))) ∧
    (∀ n, n < 64 →
      ((s.ring n).behind = true → s.canWrite = true → ∃ t, exec (.indexBlockWrite n) s = .next t ∧ (t.ring n).behind = false ∧
        t.host.sent ++ t.host.waiting = s.host.sent ++ s.host.waiting ++
          [.memWr (s.get (Reg.RING_IDXBLK_HI_ADDR_HI n) * 2 ^ 32 + s.get (Reg.RING_IDXBLK_LO_ADDR n) * 16)
            (leBytes 4 (s.devIndex n) ++ zeros 12)] ∧ s.only t [.host] (keysOf [])) ∧
      ((s.ring n).behind = false ∨ s.canWrite = false → ∃ t, exec (.indexBlockWrite n) s = .next t ∧ s.only t [] (keysOf []))) ∧
    (s.served → s.funcUp .ring = true → ∀ n on buf cq log v, n < 64 → buf < 4 → cq < 16 → log < 32 →
      v = 2 ^ 31 * b2n on + 2 ^ 12 * buf + 2 ^ 8 * cq + log →
      (log < 4 ∨ (if n = 61 then 20 else 16) < log ∨ (cq ≠ 0 ∧ hostProduced n = false) ∨ (buf ≠ 0 ∧ (n < 32 ∨ 48 ≤ n)) →
        s.turnsAway (.ringEnable n v) .range) ∧
      (4 ≤ log → log ≤ (if n = 61 then 20 else 16) → (cq = 0 ∨ hostProduced n = true) → (buf = 0 ∨ (32 ≤ n ∧ n < 48)) →
        (s.bit (Reg.RING_CFG_ENABLE n) = true → (log ≠ s.get (Reg.RING_CFG_LOG2_SIZE n) ∨ cq ≠ s.get (Reg.RING_CFG_CQ n) ∨
          buf ≠ s.get (Reg.RING_CFG_BUF_SIZE n)) → s.turnsAway (.ringEnable n v) .busy) ∧
        (s.bit (Reg.RING_CFG_ENABLE n) = false → on = true → (∀ e ∈ s.host.held, e.1 ≠ n) →
          s.takes (.ringEnable n v) [.events, .host] (regsOf ["RING_CFG", "RING_DEV_INDEX", "RING_DB"]) fun t =>
            t.bit (Reg.RING_CFG_ENABLE n) = true ∧ t.bit (Reg.RING_CFG_STOPPED n) = false ∧ t.get (Reg.RING_CFG_LOG2_SIZE n) = log ∧
            t.get (Reg.RING_CFG_CQ n) = cq ∧ t.get (Reg.RING_CFG_BUF_SIZE n) = buf ∧ t.devIndex n = 0 ∧
            t.get (Reg.RING_DB_DOORBELL n) = 0 ∧ (t.ring n).history = [] ∧ (t.ring n).written = 0 ∧
            ∀ c, (s.ring n).running = some (256, c) → (t.ring n).running = none) ∧
        (s.bit (Reg.RING_CFG_ENABLE n) = true → on = false → log = s.get (Reg.RING_CFG_LOG2_SIZE n) → cq = s.get (Reg.RING_CFG_CQ n) →
          buf = s.get (Reg.RING_CFG_BUF_SIZE n) → s.takes (.ringEnable n v) [.host] (regsOf ["RING_CFG"]) fun t =>
            t.bit (Reg.RING_CFG_ENABLE n) = false ∧ t.ringOn n = false ∧
            ((s.ring n).running = none → t.bit (Reg.RING_CFG_STOPPED n) = true) ∧
            ((s.ring n).running ≠ none → t.bit (Reg.RING_CFG_STOPPED n) = s.bit (Reg.RING_CFG_STOPPED n))))) ∧
    (s.served → s.funcUp .ring = true → ∀ n, n < 64 →
      (s.halted n = false → s.turnsAway (.ringResume n) .range) ∧
      (s.halted n = true → s.takes (.ringResume n) [.host] (regsOf ["RING_STATUS", "RING_HALTED_LO", "RING_HALTED_HI"]) fun t =>
        t.halted n = false ∧ (∀ k, k < 64 → k ≠ n → t.halted k = s.halted k)))

/-- R449, R450, Tables 16-9 and 16-10: a punted frame that was received whole is written to the buffer of its slot in the punt ring of its
class, and its descriptor after it, once the link takes them; when the ring has no room, or the host is lost, the frame is dropped and
counted; a damaged one goes nowhere. While exports of counters are on and DRAM serves (log entry 91), a sweep takes eight entries for each
port through staging to ring 62 as far as there is room; a sweep that starts before the last is written is skipped and counted.
Log entry 72: the model's choice or reading. -/
def Obligations.PuntsAndSweepsReachTheHost : Prop :=
  ∀ s : State, s.running = true →
    (∀ f x n, s.frame f = some x → x.punt ≠ 0 → x.ended = true → (x.stage = .walking ∨ x.stage = .linked) → n = s.puntRing x.mark.cls →
      32 ≤ n → n < 48 → x.port < 1024 →
      (x.damaged = false → s.ringRoom n 1 = true → s.canWrite = false → ∃ t, exec (.puntWrite f) s = .next t ∧ s.only t [] (keysOf [])) ∧
      (x.damaged = true ∨ s.ringRoom n 1 = false ∨ s.canWrite = true → ∃ t, exec (.puntWrite f) s = .next t ∧
        (∀ y, t.frame f = some y → y.punt = 0 ∧ y.copies = x.copies - 1) ∧
        (x.damaged = false → s.ringRoom n 1 = true → s.devIndex n < 2 ^ 32 → ∀ size, size = 2048 * 2 ^ s.get (Reg.RING_CFG_BUF_SIZE n) →
          t.devIndex n = (s.devIndex n + 1) % 2 ^ 32 ∧ (t.ring n).lost = 0 ∧
          ∃ l, t.host.sent ++ t.host.waiting = s.host.sent ++ s.host.waiting ++ l ++
              [.memWr (s.slotAddr n (s.devIndex n)) (puntBytes x size (s.ring n).lost)] ∧
            ∀ m ∈ l, ∃ a d b, m = HostMsg.memWr a d ∧ b = s.get (Reg.RING_PUNT_BUF_HI_ADDR_HI n) * 2 ^ 32 +
              s.get (Reg.RING_PUNT_BUF_LO_ADDR n) * 4096 + s.devIndex n % s.ringSize n * size ∧ b ≤ a ∧ a + d.length ≤ b + size) ∧
        (x.damaged = false → s.host.serviceOff = true → t.host = s.host ∧
          t.counter x.port 60 = (s.counter x.port 60 + 1) % 2 ^ 40) ∧
        (x.damaged = false → s.host.serviceOff = false → s.ringRoom n 1 = false → s.counted t (Reg.RING_DROP_CNT_DROP n) ∧
          t.bit Reg.RING_STATUS_PUNT_DROP = true ∧ t.counter x.port 60 = (s.counter x.port 60 + 1) % 2 ^ 40 ∧
          (t.ring n).lost = min (2 ^ 32 - 1) ((s.ring n).lost + 1) ∧ t.host.sent = s.host.sent) ∧
        (x.damaged = true → t.host = s.host) ∧
        s.only t [.ports, .counters, .path, .buf, .host, .pair] (regsOf ["CNT_HALF_LO", "CNT_HALF_HI", "BUF_POOL_USED",
          "BUF_POOL_SHARED", "BUF_STATUS", "BUF_XOFF_POOLS", "BUF_LANDING", "BUF_BAD_FREE_LOC", "BUF_BAD_FREE_CNT", "RING_STATUS",
          "RING_DEV_INDEX", "RING_DROP_CNT"]))) ∧
    (∀ met,
      (s.dramServes = false ∨ s.bit Reg.RING_CNT_CTRL_EN = false ∨ s.cycle < s.host.sweepAt + s.get Reg.RING_CNT_CTRL_PERIOD_MS * msCycles →
        ∃ t, exec (.counterSweep met) s = .next t ∧ s.only t [] (keysOf [])) ∧
      (s.dramServes = true → s.bit Reg.RING_CNT_CTRL_EN = true → s.host.sweepAt + s.get Reg.RING_CNT_CTRL_PERIOD_MS * msCycles ≤ s.cycle →
        (s.host.sweep ≠ [] → ∃ t, exec (.counterSweep met) s = .next t ∧ s.counted t Reg.RING_CNT_SKIP_CNT_COUNT ∧
          t.bit Reg.RING_STATUS_CNT_SKIP = true ∧ t.host.sweepAt = s.cycle ∧ t.host.sweep = s.host.sweep ∧
          s.only t [.host] (regsOf ["RING_STATUS", "RING_CNT_SKIP_CNT"])) ∧
        (s.host.sweep = [] → s.devIndex 62 < 2 ^ 32 → ∃ t k, exec (.counterSweep met) s = .next t ∧
          t.host.sweep = (((List.range 1024).filter s.isPort).flatMap fun p =>
            s.counterEntries s.host.sweepNum p (match met.find? (·.1 == p) with | some r => r.2 | none => cleanRead)).drop k ∧
          t.devIndex 62 = (s.devIndex 62 + k) % 2 ^ 32 ∧ (t.host.sweep ≠ [] → t.ringRoom 62 1 = false ∨ t.canWrite = false) ∧
          t.host.sweepNum = s.host.sweepNum + 1 ∧ t.host.sweepAt = s.cycle ∧
          s.only t [.host, .dram] (regsOf ["RING_DEV_INDEX", "DRAM_STATUS", "DRAM_ERR_LOC", "DRAM_CORR_CNT", "DRAM_UNCORR_CNT",
            "DRAM_ROW_GUARD_CNT"]))))

/-! ### Events (chapter 17) -/

/-- R456, R458, R459, R461, R462, Table 16-11: a collector takes every change of its block in one scan, and a rise that is not masked asks for
an event entry; the most severe report, and of those the one of the lowest number, is written to ring 63 while it has room. The mask
of a source that can be fatal is refused, and unmasking a pending source reports it. The keepalive timer runs out after KEEPALIVE_US
and tells the host of an attention word that is not 0.
Log entry 44: the model's choice or reading. -/
def Obligations.EventsAreCollectedReportedAndKeptAlive : Prop :=
  ∀ s : State, s.running = true →
    (∀ b, b < 13 →
      (s.funcUp .ring = true → ∃ t, exec (.collectorScan b) s = .next t ∧
        (∀ n, (blockRange b).1 ≤ n → n < (blockRange b).1 + (blockRange b).2 → t.collected n = s.cond n ∧
          (s.cond n = true → s.collected n = false → s.masked n = false → (mapFind t.events.reports n).isSome = true)) ∧
        (∀ n st, mapFind s.events.reports n = some st → mapFind t.events.reports n = some st) ∧
        (∀ n, n < 4096 → n < (blockRange b).1 ∨ (blockRange b).1 + (blockRange b).2 ≤ n → t.collected n = s.collected n ∧
          mapFind t.events.reports n = mapFind s.events.reports n) ∧
        s.only t [.events, .pair] (regsOf ["EVT_PENDING"])) ∧
      (s.funcUp .ring = false → ∃ t, exec (.collectorScan b) s = .next t ∧ s.only t [] (keysOf []))) ∧
    (∀ n st, mapSorted s.events.reports = true → mapFind s.events.reports n = some st →
      (∀ m, (mapFind s.events.reports m).isSome = true → s.severity m < s.severity n ∨ (s.severity m = s.severity n ∧ n ≤ m)) →
      (s.ringRoom 63 1 = true → s.canWrite = true → s.devIndex 63 < 2 ^ 32 → ∃ t, exec .eventEntryWrite s = .next t ∧
        mapFind t.events.reports n = none ∧ (∀ m, m ≠ n → mapFind t.events.reports m = mapFind s.events.reports m) ∧
        t.devIndex 63 = (s.devIndex 63 + 1) % 2 ^ 32 ∧
        t.host.sent ++ t.host.waiting = s.host.sent ++ s.host.waiting ++ [.memWr (s.slotAddr 63 (s.devIndex 63))
          (leBytes 2 n ++ [BitVec.ofNat 8 (s.severity n), 0] ++ leBytes 4 (s.ring 63).written ++ zeros 8 ++ leBytes 16 st)] ∧
        s.only t [.events, .host] (regsOf ["RING_DEV_INDEX"])) ∧
      (s.ringRoom 63 1 = false ∨ s.canWrite = false → ∃ t, exec .eventEntryWrite s = .next t ∧ s.only t [] (keysOf []))) ∧
    (∀ w v, s.served → s.funcUp .ring = true → w < 128 → v < 2 ^ 32 →
      ((∃ n ∈ fatalSources, n / 32 = w ∧ bitOf v (n % 32) = true) → s.turnsAway (.evtMaskWrite w v) .range) ∧
      ((∀ n ∈ fatalSources, n / 32 = w → bitOf v (n % 32) = false) →
        s.takes (.evtMaskWrite w v) [.events] (keysOf [Reg.EVT_MASK_MASK w]) fun t => t.get (Reg.EVT_MASK_MASK w) = v ∧
          ∀ i, i < 32 → s.masked (32 * w + i) = true → bitOf v i = false → s.collected (32 * w + i) = true →
            (mapFind t.events.reports (32 * w + i)).isSome = true)) ∧
    (s.get Reg.EVT_CTRL_KEEPALIVE_US = 0 ∨ s.cycle < s.events.keepFrom + s.get Reg.EVT_CTRL_KEEPALIVE_US * usCycles ∨ s.canWrite = false →
      ∃ t, exec .keepaliveExpiry s = .next t ∧ s.only t [] (keysOf [])) ∧
    (s.get Reg.EVT_CTRL_KEEPALIVE_US ≠ 0 → s.events.keepFrom + s.get Reg.EVT_CTRL_KEEPALIVE_US * usCycles ≤ s.cycle → s.canWrite = true →
      ∃ t, exec .keepaliveExpiry s = .next t ∧ t.events.keepFrom = s.cycle ∧
        (s.attention ≠ 0 → s.ringRoom 0 1 = true → s.counted t Reg.EVT_KEEPALIVE_CNT_COUNT ∧
          t.host.sent ++ t.host.waiting = s.host.sent ++ s.host.waiting ++
            [.memWr (s.slotAddr 0 (s.devIndex 0)) ([4, 0] ++ leBytes 2 s.attention ++ zeros 60)]) ∧
        (s.attention = 0 ∨ s.ringRoom 0 1 = false → s.only t [.events] (keysOf [])) ∧
        s.only t [.events, .host] (regsOf ["RING_DEV_INDEX", "EVT_KEEPALIVE_CNT"])) ∧
    (∀ v, s.served → s.funcUp .ring = true → v < 2 ^ 16 →
      s.takes (.keepaliveWrite v) [.events] (keysOf [Reg.EVT_CTRL_KEEPALIVE_US]) fun t =>
        t.get Reg.EVT_CTRL_KEEPALIVE_US = v ∧ t.events.keepFrom = s.cycle)

/-! ### The recovery ladder (chapter 17) -/

/-- R465 to R468, R470, Table 17-8: a write of SYS_FUNC_RESET takes the functions it names out of service and clears what Table 17-8
says; DRAM alone is refused while Tally runs or holds entries. The end of a re-initialisation brings the function UP and sets its DONE bit, or
FAILED. A warm reset lets the command in progress on a ring complete with ABORTED and then loses what every device reset loses.
Log entry 63: the model's choice or reading. -/
def Obligations.FunctionResetsAndTheWarmReset : Prop :=
  ∀ s : State, s.running = true →
    (s.served →
      (∀ v, v < 4096 → bitOf v 9 = true → bitOf v 2 = false →
        s.bit Reg.TALLY_CTRL_ENABLE = true ∨ s.get Reg.TALLY_RING_LEVEL_LEVEL ≠ 0 → s.turnsAway (.funcReset v) .busy) ∧
      (∀ n f, n < 12 → funcOf n = some f →
        (n = 9 → s.bit Reg.TALLY_CTRL_ENABLE = false ∧ s.get Reg.TALLY_RING_LEVEL_LEVEL = 0) →
        ∃ t, exec (.funcReset (2 ^ n)) s = .next t ∧ t.lastStatus = .ok ∧ bits (t.get Reg.SYS_FUNC_STATUS_STATE) (2 * n) 2 = 1 ∧
          t.funcUp f = false ∧ n ∈ t.plat.reinit ∧ (∀ m g, m < 12 → m ≠ n → funcOf m = some g → t.funcUp g = s.funcUp g) ∧
          (f = .mac → ∀ p i, t.counter p i = 0) ∧
          (f = .tally → t.tally.ring = [] ∧ t.tally.burst = [] ∧ t.bit Reg.TALLY_CTRL_ENABLE = false ∧
            (s.tally.seals = [] → s.tally.waits = [] → t.tally.heads = s.tally.heads)) ∧
          (f = .parse → t.rules.entries = [] ∧ t.rules.sets = [] ∧ t.rules.comparators = [] ∧ t.path.carry = []) ∧
          (f = .fdb → t.fdb.entries = [] ∧ t.fdb.learn = [] ∧
            s.only t [.answer, .events, .reck, .fdb, .host, .plat] fun k => k / 32 / 0x100000 = 9 ∨
              regsOf ["RING_CFG", "RING_DEV_INDEX", "SYS_FUNC_STATUS", "RCK_ENG_STATUS"] k) ∧
          (f = .lpm → t.lpm = ⟨[], [], 0⟩ ∧
            s.only t [.answer, .events, .reck, .lpm, .host, .plat] fun k => k / 32 / 0x100000 = 10 ∨
              regsOf ["RING_CFG", "RING_DEV_INDEX", "SYS_FUNC_STATUS", "RCK_ENG_STATUS"] k) ∧
          (f = .flow → t.flow.contexts = [] ∧ t.flow.cache = [] ∧ ∀ i x, s.frame i = some x →
            (x.stage ≠ .fetching → (∀ j y, s.frame j = some y → y.stage ≠ .fetching) → t.frame i = some x) ∧
            (x.stage = .fetching → ∀ y, t.frame i = some y → y.stage ≠ .fetching ∧ y.context = x.context)) ∧
          (f = .buf → t.buf.beads = [] ∧ t.buf.withdrawn = [] ∧ ∀ x ∈ t.path.frames, x.2.beads = []) ∧
          (f = .tm → t.mcast = ⟨[], []⟩ ∧ t.path.mirrorSeq = []) ∧
          (f = .dram → t.flow.contexts = [] ∧ t.bit Reg.DRAM_CTRL_SERVICE = false ∧ t.get Reg.DRAM_TRAIN_STATUS = 1 ∧
            t.hasRoutine (· == .dramTraining) = true) ∧
          (f = .ring → (∀ r, r < 64 → t.bit (Reg.RING_CFG_ENABLE r) = false ∧ t.devIndex r = 0 ∧ t.get (Reg.RING_DB_DOORBELL r) = 0) ∧
            t.host.rings = [] ∧ t.host.reads = [] ∧ t.host.held = [] ∧ t.host.serviceOff = false ∧ t.host.credit = s.host.credit ∧
            t.events.reports = [] ∧ (∀ i, t.get (Reg.EVT_PENDING_PENDING i) = s.get (Reg.EVT_PENDING_PENDING i)) ∧
            (∀ i, t.get (Reg.EVT_MASK_MASK i) = 0) ∧ ∀ e ∈ s.host.reads, mapFind t.host.failed e.1 = some s.cycle) ∧
          (f = .pair → t.pair.queue = [] ∧ t.pair.digests = [] ∧ t.pair.residual = [] ∧ t.spanOn = false ∧
            (s.pairState = paStandby ∨ s.pairState = paSyncing → t.pairState = paStale)))) ∧
    (∀ n f ok, n < 12 → funcOf n = some f → n ∈ s.plat.reinit → (f = .dram → s.get Reg.DRAM_TRAIN_STATUS ≠ 1) →
      ∀ good, good = (if f = .dram then decide (s.get Reg.DRAM_TRAIN_STATUS = 2) else ok) →
        ∃ t, exec (.funcResetDone n ok) s = .next t ∧ n ∉ t.plat.reinit ∧ t.funcUp f = good ∧
          (good = true → bitOf (t.get Reg.SYS_FUNC_EVT_DONE) n = true) ∧
          (good = false → bits (t.get Reg.SYS_FUNC_STATUS_STATE) (2 * n) 2 = 2 ∧ bitOf (t.get Reg.SYS_FUNC_EVT_FAILED) n = true ∧
            s.only t [.plat] (regsOf ["SYS_FUNC_STATUS", "SYS_FUNC_EVT"]))) ∧
    (∀ n ok, n < 12 → n ∉ s.plat.reinit → ∃ t, exec (.funcResetDone n ok) s = .next t ∧ s.only t [] (keysOf [])) ∧
    (s.served → ∃ t, exec .warmReset s = .next t ∧ t.lastStatus = .ok ∧ t.die.mode = .running ∧ t.die.cause = 2 ∧
      t.die.straps = s.die.straps ∧ (s.sec.ops = [] → t.sec.fuses = s.sec.fuses) ∧
      (s.tally.seals = [] → s.tally.waits = [] → t.tally.heads = s.tally.heads ∧ t.tally.retired = s.tally.retired) ∧
      State.reset.only t [.pending, .answer, .die, .tally, .host, .sec, .pair, .span, .plat] (regsOf ["SYS_STRAP", "SYS_RESET_CAUSE",
        "TALLY_MRAM_RETIRED", "SEC_LIFECYCLE", "SEC_DEVICE_ID_LO", "SEC_DEVICE_ID_HI", "PAIR_STATUS"]) ∧
      (∀ n op c cq, 16 ≤ n → n < 32 → (s.ring n).running = some (op, c) → op < 256 → c.ring = n → cq = s.get (Reg.RING_CFG_CQ n) →
        cq < 16 → s.ringOn cq = true → (n, c.descIndex) ∉ s.host.orphans → s.canWrite = true → 5 ≤ s.host.credit →
        (∀ k, 16 ≤ k → k < 32 → k ≠ n → (s.ring k).running = none) →
        ∃ a at_, HostMsg.memWr at_ (completionBytes a op c (CmdRes.of .aborted)) ∈ t.host.sent))

/-- R555, R559, R567, R568: READY is set once the link is up, boot and DRAM training have ended and every function is UP; without it LATE
is set at 600 ms. The table scrub counts its passes and takes out an entry that fails its check; while it is off a failing entry waits
for the next access. A block test needs a withdrawn block and no other test, and ends with PASS or with the lowest failing bead.
Log entry 61: the model's choice or reading. -/
def Obligations.StartUpScrubAndBlockTests : Prop :=
  ∀ s : State, s.running = true →
    (s.linkActive = true → s.get Reg.SEC_BOOT_STATE = 1 → s.get Reg.DRAM_TRAIN_STATUS = 2 → (∀ f, s.funcUp f = true) →
      s.get Reg.SYS_FUNC_STATUS_STATE < 2 ^ 24 → s.bit Reg.SYS_START_STATUS_READY = false → ∃ t, exec .startReady s = .next t ∧
        t.bit Reg.SYS_START_STATUS_READY = true ∧
        t.get Reg.SYS_START_STATUS_ELAPSED_MS = min 4095 ((s.cycle - s.die.releasedAt) / msCycles) ∧
        s.only t [.plat] (regsOf ["SYS_START_STATUS"])) ∧
    ((s.linkActive = false ∨ s.get Reg.SEC_BOOT_STATE ≠ 1 ∨ s.get Reg.DRAM_TRAIN_STATUS ≠ 2 ∨ (∃ f, s.funcUp f = false)) →
      ∃ t, exec .startReady s = .next t ∧ s.only t [] (keysOf [])) ∧
    (s.plat.lateSeen = false → s.die.releasedAt + 600 * msCycles ≤ s.cycle → ∃ t, exec .startLate s = .next t ∧
      t.plat.lateSeen = true ∧ (s.bit Reg.SYS_START_STATUS_READY = false → t.bit Reg.SYS_START_STATUS_LATE = true) ∧
      (s.bit Reg.SYS_START_STATUS_READY = true → s.only t [.plat] (keysOf [])) ∧ s.only t [.plat] (regsOf ["SYS_START_STATUS"])) ∧
    (s.cycle < s.die.releasedAt + 600 * msCycles → ∃ t, exec .startLate s = .next t ∧ s.only t [] (keysOf [])) ∧
    (s.bit Reg.SYS_SCRUB_CTRL_EN = true →
      (∃ t, exec (.tableScrubRead .passEnd) s = .next t ∧
        t.get Reg.SYS_SCRUB_PASSES_COUNT = (s.get Reg.SYS_SCRUB_PASSES_COUNT + 1) % 2 ^ Reg.SYS_SCRUB_PASSES_COUNT.width ∧
        s.only t [] (keysOf [Reg.SYS_SCRUB_PASSES_COUNT])) ∧
      (∀ p e, mapFind s.fdb.entries p = some e → ∃ t, exec (.tableScrubRead (.fdb p true)) s = .next t ∧
        mapFind t.fdb.entries p = none ∧ (∀ q, q ≠ p → mapFind t.fdb.entries q = mapFind s.fdb.entries q) ∧
        t.bit Reg.FDB_STATUS_PARITY = true ∧ s.counted t Reg.FDB_PARITY_CNT_COUNT ∧
        s.only t [.fdb] (regsOf ["FDB_STATUS", "FDB_USED", "FDB_PARITY_LOC", "FDB_PARITY_CNT"])) ∧
      (∀ i c, s.cached i = true → mapFind s.flow.contexts i = some c → ∃ t, exec (.tableScrubRead (.flow i .keyError)) s = .next t ∧
        mapFind t.flow.contexts i = none ∧ t.bit Reg.FLOW_STATUS_POISON = true ∧
        s.only t [.flow, .dram] (regsOf ["FLOW_STATUS", "FLOW_USED", "FLOW_POISON_LOC", "DRAM_STATUS", "DRAM_ROW_GUARD_CNT"])) ∧
      (∀ tag n e, tag < 4 → mapFind (s.ruleSet tag) n = some e → ∃ t, exec (.tableScrubRead (.rule tag n true)) s = .next t ∧
        t.bit Reg.PARSE_STATUS_PARITY = true ∧ t.get Reg.PARSE_PARITY_LOC_VERSION = tag ∧
        t.get Reg.PARSE_PARITY_LOC_RULE_NUM = n % 2 ^ Reg.PARSE_PARITY_LOC_RULE_NUM.width ∧ (t.ruleEntry e).bad = true ∧
        s.only t [.rules] (regsOf ["PARSE_STATUS", "PARSE_PARITY_LOC"])) ∧
      (∀ r e, s.lpm.rows.find? (·.1 == r) = some (r, e) → ∃ t, exec (.tableScrubRead (.lpm r true)) s = .next t ∧
        t.bit Reg.LPM_STATUS_PARITY = true ∧ s.counted t Reg.LPM_PARITY_CNT_COUNT ∧
        s.only t [.lpm] (regsOf ["LPM_STATUS", "LPM_USED", "LPM_V4_COUNT", "LPM_V6_COUNT", "LPM_PARITY_LOC", "LPM_PARITY_CNT"]))) ∧
    (s.bit Reg.SYS_SCRUB_CTRL_EN = false →
      (∀ p e, mapFind s.fdb.entries p = some e → ∃ t,
        exec (.tableScrubRead (.fdb p true)) s = .next t ∧ mapFind t.fdb.entries p = some { e with bad := true } ∧
        s.only t [.fdb] (regsOf ["FDB_USED"])) ∧
      (∀ i o, s.cached i = true → ∃ t, exec (.tableScrubRead (.flow i o)) s = .next t ∧ mapGet t.flow.bad i .ok = o ∧
        t.flow.contexts = s.flow.contexts ∧ s.only t [.flow] (keysOf [])) ∧
      (∀ tag n e, tag < 4 → mapFind (s.ruleSet tag) n = some e → ∃ t, exec (.tableScrubRead (.rule tag n true)) s = .next t ∧
        (t.ruleEntry e).bad = true ∧ s.only t [.rules] (keysOf []))) ∧
    (∀ b, s.served → b < 128 →
      (b ∉ s.buf.withdrawn → s.turnsAway (.bistStart (2 ^ 31 + b)) .range) ∧
      (b ∈ s.buf.withdrawn → s.get Reg.SYS_BIST_STATUS_STATE = 1 → s.turnsAway (.bistStart (2 ^ 31 + b)) .busy) ∧
      (b ∈ s.buf.withdrawn → s.get Reg.SYS_BIST_STATUS_STATE ≠ 1 →
        s.takes (.bistStart (2 ^ 31 + b)) [.plat] (regsOf ["SYS_BIST_CTRL", "SYS_BIST_STATUS"]) fun t =>
          t.get Reg.SYS_BIST_STATUS_STATE = 1 ∧ t.get Reg.SYS_BIST_STATUS_BLOCK = b ∧ t.get Reg.SYS_BIST_STATUS_BEAD = 0)) ∧
    (∀ r, (∀ k, r = some k → k < 4096) →
      (s.get Reg.SYS_BIST_STATUS_STATE = 1 → ∃ t, exec (.bistDone r) s = .next t ∧
        (r = none → t.get Reg.SYS_BIST_STATUS_STATE = 2) ∧
        (∀ k, r = some k → s.get Reg.SYS_BIST_STATUS_BLOCK < 128 → t.get Reg.SYS_BIST_STATUS_STATE = 3 ∧
          t.get Reg.SYS_BIST_STATUS_BEAD = s.get Reg.SYS_BIST_STATUS_BLOCK * 4096 + k ∧ t.bit Reg.SYS_BIST_STATUS_FAIL_EVT = true) ∧
        s.only t [] (regsOf ["SYS_BIST_STATUS"])) ∧
      (s.get Reg.SYS_BIST_STATUS_STATE ≠ 1 → ∃ t, exec (.bistDone r) s = .next t ∧ s.only t [] (keysOf [])))

/-! ### Reckoners and boot (chapters 18 and 19) -/

/-- R479, R480, R482, R483, R485 to R487, Tables 18-1 and 18-3: a LOAD is refused for a wrong length and while a patch is checked or loaded; the
checks end with the patch in place and its digest shown, or with the number of the first that fails. The routine whose turn it is starts
on a free engine; a commit takes its tag there, or ends at once (R228 to R230). A routine counts its checkpoints, marking or discarding 256
items before each, and at one a flush that has no engine takes that of a routine of lower priority. A halted engine drops its routine, whose command completes with FATAL.
Log entries 45, 47 and 73: the model's choices or readings. -/
def Obligations.ReckonersRunPatchesAndRoutines : Prop :=
  ∀ s : State, s.running = true →
    (s.served → ∀ load len v, len < 2 ^ 15 → v = 2 ^ 31 * b2n load + len →
      (len < 464 ∨ 25552 < len → s.turnsAway (.patchLoad v) .range) ∧
      (464 ≤ len → len ≤ 25552 →
        (load = true → s.get Reg.RCK_PATCH_STATUS_STATE = 1 ∨ s.get Reg.RCK_PATCH_STATUS_STATE = 2 → s.turnsAway (.patchLoad v) .busy) ∧
        (load = true → s.get Reg.RCK_PATCH_STATUS_STATE ≠ 1 → s.get Reg.RCK_PATCH_STATUS_STATE ≠ 2 →
          s.takes (.patchLoad v) [.reck] (regsOf ["RCK_PATCH_CTRL", "RCK_PATCH_STATUS"]) fun t =>
            t.get Reg.RCK_PATCH_STATUS_STATE = 1 ∧ t.get Reg.RCK_PATCH_STATUS_REASON = 0 ∧ t.reck.checking = some len ∧
            t.reck.stage = s.reck.stage) ∧
        (load = false → s.takes (.patchLoad v) [] (keysOf [Reg.RCK_PATCH_CTRL_LEN]) fun t => t.get Reg.RCK_PATCH_CTRL_LEN = len))) ∧
    (∀ len b, s.reck.checking = some len → b = stagedBytes s.reck.stage len →
      ∃ t, exec .patchCheckDone s = .next t ∧ t.reck.checking = none ∧ t.bit Reg.RCK_STATUS_PATCH_EVT = true ∧
        t.bit Reg.SYS_START_STATUS_PATCH_SETTLED = true ∧
        (∀ n, s.patchChecks b len = .inl n → t.get Reg.RCK_PATCH_STATUS_STATE = 3 ∧ t.get Reg.RCK_PATCH_STATUS_REASON = n ∧
          t.reck = { s.reck with checking := none }) ∧
        (∀ body, s.patchChecks b len = .inr body → t.get Reg.RCK_PATCH_STATUS_STATE = 2 ∧ t.get Reg.RCK_PATCH_STATUS_REASON = 0 ∧
          t.reck.stage = [] ∧ t.reck.ram.length = leAt b 16 2 ∧ t.reck.matches_.length = leAt b 18 2 ∧
          t.get Reg.RCK_PATCH_VER_PATCH_VER = leAt b 8 4 ∧
          (∀ i, i < 8 → t.get (Reg.RCK_PATCH_DIGEST_DIGEST i) = leAt (sha256 (slice b 0 64 ++ body)) (4 * i) 4)) ∧
        s.only t [.reck] (regsOf ["SYS_START_STATUS", "RCK_STATUS", "RCK_PATCH_STATUS", "RCK_PATCH_VER", "RCK_PATCH_DIGEST"])) ∧
    (∀ all can, s.freshCommit = none → all = ((s.reck.suspended.map fun r => (true, r)) ++ s.reck.waiting.map fun r => (false, r)) →
      can = (all.filter fun x => s.mayStart x.2 && (x.1 || (s.lpmTurn x.2 && s.inOrder x.2)) && (s.freeEngine x.2.kind).isSome) →
      (can = [] → ∃ t, exec .routineStart s = .next t ∧ s.only t [] (keysOf [])) ∧
      (∀ susp r e y, (susp, r) ∈ can → s.freeEngine r.kind = some e → (∀ x ∈ can, x ≠ (susp, r) → before (susp, r) x = true) →
        y = (if susp then r else { r with patched := s.get Reg.RCK_PATCH_STATUS_STATE == 2,
                                          began := if r.kind = .lpmFlush then s.lpm.changes else s.fdb.changes }) →
        (r.kind ≠ .ruleCommit ∨ r.cmd = none ∨ r.tag ≠ none → ∃ t, exec .routineStart s = .next t ∧ mapFind t.reck.engines e = some y ∧
          (∀ k, k ≠ e → mapFind t.reck.engines k = mapFind s.reck.engines k) ∧
          t.reck.waiting = s.reck.waiting.filter (·.seq != r.seq) ∧ t.reck.suspended = s.reck.suspended.filter (·.seq != r.seq) ∧
          t.get (Reg.RCK_ENG_STATUS_STATE e) = 1 ∧ t.get (Reg.RCK_ENG_STATUS_ROUTINE e) = r.kind.code ∧
          s.only t [.reck] (regsOf ["RCK_ENG_STATUS"])) ∧
        (∀ c, r.kind = .ruleCommit → r.cmd = some c → r.tag = none → c.ring < 64 →
          (∀ g, s.commitStart = .inr g → g < 4 → ∃ t, exec .routineStart s = .next t ∧ t.tagState g = 3 ∧
            mapFind t.reck.engines e = some { y with tag := some g } ∧ s.only t [.reck] (regsOf ["RULE_VER_STATE", "RCK_ENG_STATUS"])) ∧
          (∀ a, s.commitStart = .inl a → ∃ t, exec .routineStart s = .next t ∧ t.completed 0x12 c a ∧
            mapFind t.reck.engines e = none ∧
            s.only t [.events, .reck, .host] (regsOf ["RCK_ENG_STATUS", "RING_CFG", "RING_DEV_INDEX"]))))) ∧
    (∀ e r, e < 8 → mapFind s.reck.engines e = some r →
      (r.kind = .boot ∨ r.kind = .tallySeal → ∃ t, exec (.routineCheckpoint e) s = .next t ∧ s.only t [] (keysOf [])) ∧
      (r.kind = .withdraw ∨ (r.kind = .pairResync ∧ s.pair.walk = none) ∨ (r.kind = .ruleCommit ∧ r.cmd.isSome ∧ r.tag.isSome ∧
          256 * (r.progress + 1) < s.stagedSet.length) →
        ∀ y, y = { r with checkpoints := r.checkpoints + 1, progress := r.progress + 1 } →
        ((s.waitingFlush = none ∨ ∃ f, s.waitingFlush = some f ∧ (s.freeEngine f.kind).isSome = true) →
          ∃ t, exec (.routineCheckpoint e) s = .next t ∧ mapFind t.reck.engines e = some y ∧
            t.get (Reg.RCK_ENG_STATUS_CHECKPOINTS e) = (r.checkpoints + 1) % 2 ^ 16 ∧
            (∀ g, r.kind = .ruleCommit → r.tag = some g → t.ruleSet g = s.stagedSet.take (256 * (r.progress + 1))) ∧
            s.only t [.rules, .reck] (regsOf ["RCK_ENG_STATUS"])) ∧
        (∀ f, s.waitingFlush = some f → (s.freeEngine f.kind).isSome = false →
          ∃ t z, exec (.routineCheckpoint e) s = .next t ∧ mapFind t.reck.engines e = some z ∧ z.kind = f.kind ∧ z.seq = f.seq ∧
            y ∈ t.reck.suspended ∧ (∀ w ∈ t.reck.waiting, w.seq ≠ f.seq) ∧ s.counted t Reg.RCK_PREEMPT_CNT_COUNT ∧
            s.only t [.rules, .reck] (regsOf ["RCK_PREEMPT_CNT", "RCK_ENG_STATUS"]))) ∧
      (∀ q, r.kind = .stuckReclaim q → s.funcUp .buf = true → s.funcUp .tm = true →
        ∃ t y, exec (.routineCheckpoint e) s = .next t ∧ mapFind t.reck.engines e = some y ∧ y.kind = r.kind ∧
          y.checkpoints = r.checkpoints + 1 ∧ ∀ c ∈ ((s.rod q).takeWhile s.isStuck).take 256, t.copy c = none) ∧
      (∀ p, r.kind = .portFlush p → s.funcUp .buf = true → s.funcUp .tm = true →
        ∃ t y, exec (.routineCheckpoint e) s = .next t ∧ mapFind t.reck.engines e = some y ∧ y.kind = r.kind ∧
          y.checkpoints = r.checkpoints + 1 ∧ ∀ c ∈ (s.portCopies p).take 256, t.copy c = none) ∧
      (∃ t, exec (.engineHalt e) s = .next t ∧ bitOf (t.get Reg.RCK_STATUS_HALTED) e = true ∧ mapFind t.reck.engines e = none ∧
        t.get (Reg.RCK_ENG_STATUS_STATE e) = 3 ∧ (∀ k, k ≠ e → mapFind t.reck.engines k = mapFind s.reck.engines k) ∧
        (∀ c op d, r.cmd = some c → (s.ring c.ring).running = some (op, d) → d.descIndex = c.descIndex →
          t.completed op d (CmdRes.of .fatal)) ∧
        (r.cmd = none → s.only t [.reck] (regsOf ["RCK_STATUS", "RCK_ENG_STATUS"])) ∧
        s.only t [.events, .reck, .host] (regsOf ["RING_CFG", "RING_DEV_INDEX", "RCK_STATUS", "RCK_ENG_STATUS"])))

/-- R491, R493, R495, R496, R499, R501 to R505, R559, Table 19-4: boot goes through its stages on Reckoner 0: a ROM parity failure or a failing fuse check ends it
FAILED with its reason; a failed identity test only leaves ID_OK at 0; after the last stage boot is DONE, a debug challenge is
drawn and Reckoner 0 serves other routines. SEC_ATTEST makes a fresh report over the nonce, or returns the certificates, and is DENIED while the
identity key is not usable. A LOAD checks a bundle or a token: a bundle's operations are then applied in order, and no fuse ever clears; a
token grants its bits until the next reset; every token check draws a new challenge. A failure names its check and changes no fuse.
Log entries 40, 41, 61 and 73: the model's choices or readings. -/
def Obligations.BootAttestationBundlesAndTokens : Prop :=
  ∀ s : State, s.running = true →
    (∀ rom fuse id : Bool,
      (s.get Reg.SEC_BOOT_STATE = 0 → s.runsRoutine .boot = true →
        (s.get Reg.SEC_BOOT_STAGE = 0 →
          (rom = false → ∃ t, exec (.bootStage rom fuse id) s = .next t ∧ t.get Reg.SEC_BOOT_STATE = 2 ∧ t.get Reg.SEC_BOOT_REASON = 1 ∧
            t.bit Reg.SYS_START_STATUS_FAILED = true ∧ t.runsRoutine .boot = false) ∧
          (rom = true → (fuse = false ∨ s.checkWordOk = false) → ∃ t, exec (.bootStage rom fuse id) s = .next t ∧
            t.get Reg.SEC_BOOT_STATE = 2 ∧ t.get Reg.SEC_BOOT_REASON = 2 ∧ t.bit Reg.SYS_START_STATUS_FAILED = true) ∧
          (rom = true → fuse = true → s.checkWordOk = true → ∃ t, exec (.bootStage rom fuse id) s = .next t ∧
            t.get Reg.SEC_BOOT_STATE = 0 ∧ t.get Reg.SEC_BOOT_STAGE = 1 ∧ t.get Reg.SEC_LIFECYCLE_STATE = s.lifecycle)) ∧
        (s.get Reg.SEC_BOOT_STAGE = 1 → ∃ t, exec (.bootStage rom fuse id) s = .next t ∧ t.get Reg.SEC_BOOT_STAGE = 2 ∧
          t.bit Reg.SEC_LIFECYCLE_ID_OK = (id && s.sec.keyKept && s.keyState)) ∧
        (s.get Reg.SEC_BOOT_STAGE = 2 ∨ s.get Reg.SEC_BOOT_STAGE = 3 → ∃ t, exec (.bootStage rom fuse id) s = .next t ∧
          t.get Reg.SEC_BOOT_STAGE = s.get Reg.SEC_BOOT_STAGE + 1 ∧ t.get Reg.SEC_BOOT_STATE = 0) ∧
        (s.get Reg.SEC_BOOT_STAGE = 4 → ∃ t, exec (.bootStage rom fuse id) s = .next t ∧ t.get Reg.SEC_BOOT_STATE = 1 ∧
          t.get Reg.SEC_BOOT_STAGE = 5 ∧ t.bit Reg.SYS_START_STATUS_BOOT_DONE = true ∧ t.runsRoutine .boot = false ∧
          t.sec.draws = s.sec.draws + 1 ∧ t.plat.bootDoneAt = s.cycle) ∧
        (∀ t, exec (.bootStage rom fuse id) s = .next t → s.only t [.reck, .tally, .sec, .plat] (regsOf ["SYS_START_STATUS",
          "RCK_ENG_STATUS", "SEC_BOOT", "SEC_LIFECYCLE", "SEC_DEVICE_ID_LO", "SEC_DEVICE_ID_HI", "SEC_DEBUG_CHALLENGE"]))) ∧
      (s.get Reg.SEC_BOOT_STATE ≠ 0 ∨ s.runsRoutine .boot = false → ∃ t, exec (.bootStage rom fuse id) s = .next t ∧
        s.only t [] (keysOf []))) ∧
    (∀ c, s.accepts 0x60 c →
      (∀ k, k = (if c.param = 0 then 32 else 0) →
        (c.input.length ≠ k → s.answers (.secAttest c) 0x60 c CmdRes.field) ∧
        (c.input.length = k → s.keyUsable = false → s.answers (.secAttest c) 0x60 c (CmdRes.of .denied)) ∧
        (c.param = 1 → c.input = [] → s.keyUsable = true → s.answers (.secAttest c) 0x60 c
          { CmdRes.ok with result := leBytes 2 Config.chain.length, out := padTo 4096 Config.chain })) ∧
      (c.param = 0 → c.input.length = 32 → s.keyUsable = true → s.ends (.secAttest c) 0x60 c
        { CmdRes.ok with result := leBytes 2 640
                         out := s.reportBody c.input ++ padTo 384 (Config.sign s.sec.draws (s.reportBody c.input)) }
        [.sec] (keysOf []) fun t => t.sec = { s.sec with draws := s.sec.draws + 1, reports := s.sec.reports + 1 })) ∧
    (s.served → ∀ kind len, len < 2 ^ 11 → ∀ i, i = (if kind = true then Instr.debugTokenLoad (2 ^ 31 + 2 ^ 30 + len) else .bundleLoad (2 ^ 31 + len)) →
      (s.get Reg.SEC_BUNDLE_STATUS_STATE = 1 ∨ s.get Reg.SEC_BUNDLE_STATUS_STATE = 2 → s.turnsAway i .busy) ∧
      (s.get Reg.SEC_BUNDLE_STATUS_STATE ≠ 1 → s.get Reg.SEC_BUNDLE_STATUS_STATE ≠ 2 →
        (len ≠ (if kind = true then 832 else 1104) → s.turnsAway i .range) ∧
        (∀ b, kind = false → len = 1104 → b = stagedBytes s.sec.stage 1104 →
          s.takes i [.sec] (regsOf ["SEC_BUNDLE_CTRL", "SEC_BUNDLE_STATUS", "SEC_STATUS"]) fun t =>
            t.sec.stage = [] ∧ t.sec.fuses = s.sec.fuses ∧ t.get Reg.SEC_BUNDLE_STATUS_OPS_DONE = 0 ∧
            t.get Reg.SEC_BUNDLE_STATUS_REASON = s.bundleFault b ∧
            (s.bundleFault b = 0 → t.get Reg.SEC_BUNDLE_STATUS_STATE = 2 ∧ t.sec.ops = bundleOps b) ∧
            (s.bundleFault b ≠ 0 → t.get Reg.SEC_BUNDLE_STATUS_STATE = 4 ∧ t.bit Reg.SEC_STATUS_BUNDLE = true ∧ t.sec.ops = s.sec.ops)) ∧
        (∀ b, kind = true → len = 832 → b = stagedBytes s.sec.stage 832 →
          s.takes i [.sec] (regsOf ["SEC_BUNDLE_CTRL", "SEC_BUNDLE_STATUS", "SEC_STATUS", "SEC_DEBUG_STATUS", "SEC_DEBUG_CHALLENGE"])
            fun t => t.sec.stage = [] ∧ t.sec.fuses = s.sec.fuses ∧ t.sec.draws = s.sec.draws + 1 ∧
            (∀ k, k < 8 → t.get (Reg.SEC_DEBUG_CHALLENGE_CHALLENGE k) = leAt (padTo 32 (Config.entropy s.sec.draws)) (4 * k) 4) ∧
            t.get Reg.SEC_BUNDLE_STATUS_REASON = s.tokenFault b ∧
            (s.tokenFault b = 0 → s.get Reg.SEC_DEBUG_STATUS_GRANTED < 4 → t.get Reg.SEC_BUNDLE_STATUS_STATE = 3 ∧
              t.get Reg.SEC_DEBUG_STATUS_GRANTED = s.get Reg.SEC_DEBUG_STATUS_GRANTED ||| leAt b 7 1) ∧
            (s.tokenFault b ≠ 0 → t.get Reg.SEC_BUNDLE_STATUS_STATE = 4 ∧ t.bit Reg.SEC_STATUS_TOKEN_REJECT = true ∧
              t.get Reg.SEC_DEBUG_STATUS_GRANTED = s.get Reg.SEC_DEBUG_STATUS_GRANTED)))) ∧
    (s.get Reg.SEC_BUNDLE_STATUS_STATE = 2 → s.sec.ops.length < 16 → s.sec.fuses.length = 512 → ∃ t, exec .bundleDone s = .next t ∧
      t.get Reg.SEC_BUNDLE_STATUS_STATE = 3 ∧ t.get Reg.SEC_BUNDLE_STATUS_OPS_DONE = s.sec.ops.length ∧
      t.bit Reg.SEC_STATUS_BUNDLE = true ∧ t.sec.ops = [] ∧ t.sec.fuses = (s.sec.ops.foldl State.applyOp s).sec.fuses ∧
      (∀ k, s.sec.fuses.getD k 0 &&& t.sec.fuses.getD k 0 = s.sec.fuses.getD k 0) ∧
      t.get Reg.SEC_LIFECYCLE_STATE = t.lifecycle ∧ t.get Reg.SEC_LIFECYCLE_SVN_MIN = t.svnMin ∧
      (t.sec.keyKept = false → t.bit Reg.SEC_LIFECYCLE_ID_OK = false) ∧
      s.only t [.sec] (regsOf ["SEC_LIFECYCLE", "SEC_DEVICE_ID_LO", "SEC_DEVICE_ID_HI", "SEC_STATUS", "SEC_BUNDLE_STATUS"])) ∧
    (s.get Reg.SEC_BUNDLE_STATUS_STATE ≠ 2 → ∃ t, exec .bundleDone s = .next t ∧ s.only t [] (keysOf []))

/-! ### The redundant pair (chapter 20) -/

/-- R513 to R516, R526, R528, R530, Tables 20-2 and 20-3: CLAIM needs DETACHED or STALE, HOLD_IN low and no HOLD_FAULT, and YIELD an ACTIVE device whose
peer is STANDBY; another is refused with BUSY. A claimer whose HOLD levels have settled for 200 ns becomes ACTIVE and its
transmitters are enabled. When HOLD_IN rises against a driven HOLD_OUT, the device is gated and the junior releases; when it falls, an
armed standby claims. A yielding device with no frame in progress releases HOLD_OUT. A lasting mismatch, or two devices with the same
SENIOR, set HOLD_FAULT. A standby takes over from a peer that releases, and an armed takeover lapses into STALE.
Log entries 66 and 67: the model's choices or readings. -/
def Obligations.RolesFollowTheInterlock : Prop :=
  ∀ s : State, s.running = true →
    (s.served → s.funcUp .pair = true →
      (∀ ok, ok = ((s.pairState == paDetached || s.pairState == paStale) && !s.holdIn && !s.bit Reg.PAIR_STATUS_HOLD_FAULT) →
        (ok = false → s.turnsAway .claim .busy) ∧
        (ok = true → s.takes .claim [.pair] (regsOf ["PAIR_STATUS", "PAIR_VERDICT"]) fun t => t.pairState = paClaiming ∧
          t.bit Reg.PAIR_STATUS_HOLD_OUT = true ∧ t.bit Reg.PAIR_STATUS_ROLE_CHG = true ∧ t.pair.prev = s.pairState ∧
          t.pair.armed = none ∧ (s.pair.outSince = none → t.pair.outSince = some s.cycle) ∧ t.pair.gate = s.pair.gate)) ∧
      (∀ ok, ok = (s.pairState == paActive && s.get Reg.PAIR_PEER_STATE == paStandby) →
        (ok = false → s.turnsAway .yieldRole .busy) ∧
        (ok = true → s.takes .yieldRole [.pair] (regsOf ["PAIR_STATUS"]) fun t => t.pairState = paYielding ∧ t.pair.hostYield = true ∧
          t.bit Reg.PAIR_STATUS_HOLD_OUT = true ∧ t.pair.gate = s.pair.gate ∧
          (s.bit Reg.PAIR_STATUS_LINK_UP = true → s.mirrorIdle = false → t.pair.sent = s.pair.sent ++ [s.mirrorBytes 5 0 []])))) ∧
    (∀ level,
      (level = s.holdIn → ∃ t, exec (.holdInChange level) s = .next t ∧ s.only t [.die] (keysOf [])) ∧
      (level ≠ s.holdIn → ∃ t, exec (.holdInChange level) s = .next t ∧ t.holdIn = level ∧ t.pair.inSince = s.cycle ∧
        t.die = { s.die with holdIn := level } ∧
        (s.die.straps.pairEn = false ∨ (level = true ∧ drivesHold s.pairState = false) ∨
            (level = false ∧ (s.pair.armed = none ∨ s.pairState ≠ paStandby ∨ s.bit Reg.PAIR_STATUS_HOLD_FAULT = true)) →
          t.pairState = s.pairState ∧ s.only t [.die, .pair] (keysOf [Reg.PAIR_STATUS_HOLD_IN])) ∧
        (s.die.straps.pairEn = true → level = false → s.pair.armed ≠ none → s.pairState = paStandby →
          s.bit Reg.PAIR_STATUS_HOLD_FAULT = false → t.pairState = paClaiming ∧ t.bit Reg.PAIR_STATUS_HOLD_OUT = true) ∧
        (s.die.straps.pairEn = true → level = true → drivesHold s.pairState = true →
          t.pair.gate = false ∧ (s.cellsDrive = false → t.pins.frontIdle = true) ∧
          (s.pairState ≠ paClaiming → t.bit Reg.PAIR_STATUS_HOLD_FAULT = true) ∧
          (s.die.straps.senior = true → t.pairState = s.pairState ∧ t.bit Reg.PAIR_STATUS_HOLD_OUT = s.bit Reg.PAIR_STATUS_HOLD_OUT) ∧
          (s.die.straps.senior = false →
            (s.pairState = paClaiming → s.pair.prev ∈ [paDetached, paStandby, paStale] → t.pairState = s.pair.prev ∧
              t.bit Reg.PAIR_STATUS_HOLD_OUT = false) ∧
            (s.pairState = paActive → t.pairState = paDetached ∧ t.bit Reg.PAIR_STATUS_HOLD_OUT = false) ∧
            (s.pairState = paYielding → t.pairState = (if s.pair.hostYield then paStandby else paStale) ∧
              t.bit Reg.PAIR_STATUS_HOLD_OUT = false))) ∧
        s.only t [.die, .events, .reck, .tally, .host, .pair] (regsOf ["TALLY_CTRL", "TALLY_STATUS", "TALLY_RING_LEVEL", "RING_CFG",
          "RING_DEV_INDEX", "PAIR_STATUS"]))) ∧
    (∀ k, s.pair.outSince = some k → k + 300 ≤ s.cycle → s.holdIn = false → s.pair.inSince + 300 ≤ s.cycle →
      (s.pairState = paClaiming ∨ s.pairState = paActive → ∃ t, exec .transmitEnable s = .next t ∧ t.pairState = paActive ∧
        t.pair.gate = true ∧ (s.pairState = paClaiming → t.pair.activeAt = s.cycle ∧ t.pair.queue = [] ∧ t.pair.nextSeq = 1) ∧
        s.only t [.pair] (regsOf ["PAIR_STATUS", "PAIR_MIRROR_LEVEL"])) ∧
      (s.pairState ≠ paClaiming → s.pairState ≠ paActive → ∃ t, exec .transmitEnable s = .next t ∧ s.only t [] (keysOf []))) ∧
    (s.pair.outSince = none ∨ (∃ k, s.pair.outSince = some k ∧ s.cycle < k + 300) ∨ s.holdIn = true ∨ s.cycle < s.pair.inSince + 300 →
      ∃ t, exec .transmitEnable s = .next t ∧ s.only t [] (keysOf [])) ∧
    (s.pairState = paYielding →
      ((∀ e ∈ s.ports, e.2.tx = none) → ∃ t, exec .yieldRelease s = .next t ∧ t.pair.gate = false ∧
        t.bit Reg.PAIR_STATUS_HOLD_OUT = false ∧ t.pairState = (if s.pair.hostYield then paStandby else paStale) ∧
        (s.bit Reg.PAIR_CTRL_TALLY_FOLLOW = true → s.bit Reg.TALLY_CTRL_ENABLE = true → t.bit Reg.TALLY_CTRL_ENABLE = false ∧
          t.pair.yielded = true) ∧
        s.only t [.events, .reck, .tally, .host, .pair] (regsOf ["TALLY_CTRL", "TALLY_STATUS", "TALLY_RING_LEVEL", "RING_CFG",
          "RING_DEV_INDEX", "PAIR_STATUS"])) ∧
      ((∃ e ∈ s.ports, e.2.tx ≠ none) → ∃ t, exec .yieldRelease s = .next t ∧ s.only t [] (keysOf []))) ∧
    (∀ bad, bad = (s.die.straps.pairEn &&
        ((s.get Reg.PAIR_PEER_STATE != 15 && s.bit Reg.PAIR_PEER_SENIOR == s.die.straps.senior) ||
          match s.pair.mismatchFrom with | some k => decide (k + 10 * usCycles ≤ s.cycle) | none => false)) →
      (bad = true → ∃ t, exec .holdFaultDetect s = .next t ∧ t.bit Reg.PAIR_STATUS_HOLD_FAULT = true ∧
        s.only t [] (keysOf [Reg.PAIR_STATUS_HOLD_FAULT])) ∧
      (bad = false → ∃ t, exec .holdFaultDetect s = .next t ∧ s.only t [] (keysOf []))) ∧
    (s.pairState = paStandby → s.holdIn = false → s.pair.inSince + usCycles ≤ s.cycle → s.get Reg.PAIR_PEER_STATE = paActive →
      s.pair.handoff = false → (s.bit Reg.PAIR_STATUS_HOLD_FAULT = true → s.get Reg.PAIR_VERDICT_CAUSE ≠ 3) →
      ∃ t, exec .peerReleaseTakeover s = .next t ∧ t.get Reg.PAIR_VERDICT_CAUSE = 3 ∧ t.get Reg.PAIR_VERDICT_OUTCOME = 1 ∧
        s.counted t Reg.PAIR_TAKEOVER_CNT_COUNT ∧ t.bit Reg.PAIR_STATUS_ROLE_CHG = true ∧
        t.pairState = (if s.bit Reg.PAIR_STATUS_HOLD_FAULT then paStandby else paClaiming) ∧
        s.only t [.pair] (regsOf ["PAIR_STATUS", "PAIR_VERDICT", "PAIR_TAKEOVER_CNT"])) ∧
    (s.pairState ≠ paStandby ∨ s.holdIn = true ∨ s.cycle < s.pair.inSince + usCycles ∨ s.get Reg.PAIR_PEER_STATE ≠ paActive ∨
        s.pair.handoff = true → ∃ t, exec .peerReleaseTakeover s = .next t ∧ s.only t [] (keysOf [])) ∧
    (∀ k ms, s.pair.armed = some k → ms = s.get Reg.PAIR_CTRL_ARM_MS →
      (ms ≠ 0 → k + ms * msCycles ≤ s.cycle → ∃ t, exec .takeoverLapse s = .next t ∧ t.pairState = paStale ∧ t.pair.armed = none ∧
        t.bit Reg.PAIR_STATUS_HOLD_OUT = false ∧
        s.only t [.events, .reck, .host, .pair] (regsOf ["RING_CFG", "RING_DEV_INDEX", "PAIR_STATUS"])) ∧
      (ms = 0 ∨ s.cycle < k + ms * msCycles → ∃ t, exec .takeoverLapse s = .next t ∧ s.only t [] (keysOf [])))

/-- R516, R518, R523 to R528, Tables 20-6 to 20-9: heartbeats are sent and a valid one shows the peer; one that says the peer has the same SENIOR
sets HOLD_FAULT. Their return ends an armed takeover, and a broken stream leaves the peer STALE. Their loss makes an active discard its
mirror queue and a standby take over, or wait armed and blocked. HANDOFF lets the standby take over. Sixteen DIGEST frames follow
each window, and the windows that both sides hold are compared port by port; a residual that stays for two windows is a mismatch, whose
verdict follows Table 20-9.
Log entries 48, 66 and 67: the model's choices or readings. -/
def Obligations.HeartbeatsDigestsAndVerdicts : Prop :=
  ∀ s : State, s.running = true →
    (∀ on_, on_ = (s.die.straps.pairEn && s.funcUp .pair && s.bit Reg.PAIR_STATUS_LINK_UP && !s.mirrorIdle) →
      ∃ t, exec .heartbeatSend s = .next t ∧
        t.pair.sent = (if on_ then s.pair.sent ++ [s.mirrorBytes 1 0 s.heartbeat] else s.pair.sent) ∧
        t.pair = { s.pair with sent := t.pair.sent } ∧ s.only t [.pair] (keysOf [])) ∧
    (∀ b ok, s.mirrorIn b ok = none →
      (s.mirrorLinked = true → s.sameSenior b ok = true → ∃ t, exec (.heartbeatReceive b ok) s = .next t ∧
        t.bit Reg.PAIR_STATUS_HOLD_FAULT = true ∧ s.only t [] (keysOf [Reg.PAIR_STATUS_HOLD_FAULT])) ∧
      (s.mirrorLinked = false ∨ s.sameSenior b ok = false → ∃ t, exec (.heartbeatReceive b ok) s = .next t ∧ s.only t [] (keysOf [])) ∧
      (∃ t, exec (.handoffReceive b ok) s = .next t ∧ s.only t [] (keysOf []))) ∧
    (∀ b ok m, s.mirrorIn b ok = some m → s.mirrorLinked = true → m.type = 1 → m.payload.length = 48 →
      ∀ f peer lapse broken, f = beAt m.payload 0 1 → peer = f % 16 → lapse = (s.pair.hbLost && s.pair.armed.isSome) →
        broken = (bitOf (beAt m.payload 1 1) 2 && peer == paActive && (s.pairState == paStandby || s.pairState == paSyncing)) →
        ∃ t, exec (.heartbeatReceive b ok) s = .next t ∧ t.get Reg.PAIR_PEER_STATE = peer ∧ t.bit Reg.PAIR_PEER_SENIOR = bitOf f 4 ∧
          t.bit Reg.PAIR_PEER_TAKE_UNEXPLAINED = bitOf f 7 ∧ t.get Reg.PAIR_PEER_ID_HI_ID = beAt m.payload 8 4 ∧
          t.get Reg.PAIR_PEER_ID_LO_ID = beAt m.payload 12 4 ∧ t.pair.hbAt = s.cycle ∧ t.pair.hbLost = false ∧
          t.pair.peerOut = bitOf f 5 ∧ t.pair.peerIn = bitOf f 6 ∧ t.pair.peerLock = beAt m.payload 1 1 % 4 ∧
          (lapse = true ∨ broken = true → t.pairState = paStale ∧ t.pair.armed = none) ∧
          (lapse = false → broken = false → t.pairState = s.pairState ∧
            (s.pairState = paActive → peer = paSyncing → s.get Reg.PAIR_PEER_STATE ≠ paSyncing → t.pair.walk = some s.walkItems ∧
              t.pair.queue = [] ∧ t.pair.nextSeq = 1 ∧ t.hasRoutine (· == .pairResync) = true) ∧
            (s.pairState = paActive → peer = paStale → s.get Reg.PAIR_PEER_STATE = paStandby ∨ s.get Reg.PAIR_PEER_STATE = paSyncing →
              t.pair.streamLost = true ∧ t.pair.queue = [] ∧ t.pair.walk = none)) ∧
          s.only t [.events, .reck, .host, .pair] (regsOf ["RING_CFG", "RING_DEV_INDEX", "PAIR_STATUS", "PAIR_PEER", "PAIR_PEER_ID_LO",
            "PAIR_PEER_ID_HI", "PAIR_MIRROR_LEVEL"])) ∧
    (s.die.straps.pairEn = false ∨ s.funcUp .pair = false ∨ s.pair.hbLost = true ∨ s.cycle < s.pair.hbAt + 20 * usCycles →
      ∃ t, exec .heartbeatLoss s = .next t ∧ s.only t [] (keysOf [])) ∧
    (s.die.straps.pairEn = true → s.funcUp .pair = true → s.pair.hbLost = false → s.pair.hbAt + 20 * usCycles ≤ s.cycle →
      ∃ t, exec .heartbeatLoss s = .next t ∧ t.bit Reg.PAIR_STATUS_HB_LOST = true ∧ t.pair.hbLost = true ∧
        (s.pairState = paActive → t.pairState = paActive ∧ t.pair.queue = [] ∧ t.pair.streamLost = true ∧ t.pair.walk = none) ∧
        (s.pairState = paSyncing → t.pairState = paStale) ∧
        (s.pairState = paStandby → s.bit Reg.PAIR_STATUS_HOLD_FAULT = true → t.pairState = paStale) ∧
        (s.pairState = paStandby → s.bit Reg.PAIR_STATUS_HOLD_FAULT = false → s.pair.armed = none →
          t.get Reg.PAIR_VERDICT_CAUSE = 2 ∧ t.get Reg.PAIR_VERDICT_OUTCOME = 1 ∧ s.counted t Reg.PAIR_TAKEOVER_CNT_COUNT ∧
          (s.holdIn = false → t.pairState = paClaiming) ∧
          (s.holdIn = true → t.pairState = paStandby ∧ t.pair.armed = some s.cycle ∧ t.bit Reg.PAIR_STATUS_BLOCKED = true)) ∧
        s.only t [.events, .reck, .host, .pair] (regsOf ["RING_CFG", "RING_DEV_INDEX", "PAIR_STATUS", "PAIR_VERDICT",
          "PAIR_MIRROR_LEVEL", "PAIR_TAKEOVER_CNT"])) ∧
    (∀ b ok m, s.mirrorIn b ok = some m → s.mirrorLinked = true → m.type = 5 → s.pairState = paStandby →
      s.bit Reg.PAIR_STATUS_HOLD_FAULT = false → s.pair.armed = none → ∃ t, exec (.handoffReceive b ok) s = .next t ∧
        t.pair.handoff = true ∧ t.get Reg.PAIR_VERDICT_CAUSE = 4 ∧ t.get Reg.PAIR_VERDICT_OUTCOME = 1 ∧
        s.counted t Reg.PAIR_TAKEOVER_CNT_COUNT ∧ (s.holdIn = false → t.pairState = paClaiming) ∧
        (s.holdIn = true → t.pairState = paStandby ∧ t.pair.armed = some s.cycle ∧ t.bit Reg.PAIR_STATUS_BLOCKED = true) ∧
        s.only t [.pair] (regsOf ["PAIR_STATUS", "PAIR_VERDICT", "PAIR_MIRROR_LEVEL", "PAIR_TAKEOVER_CNT"])) ∧
    (∀ w, w + 1 = s.windowNow → s.mirrorLinked = true →
      (s.pair.sentWindow < w ∨ w = 0 → ∃ t, exec .digestSend s = .next t ∧ t.pair.sentWindow = w ∧
        t.pair.sent = (if s.mirrorIdle then s.pair.sent else s.pair.sent ++ (List.range 16).map (s.digestFrame w)) ∧
        s.only t [.pair] (keysOf [])) ∧
      (w ≤ s.pair.sentWindow → w ≠ 0 → ∃ t, exec .digestSend s = .next t ∧ s.only t [] (keysOf []))) ∧
    (∀ w peer,
      (s.comparing = false ∨ s.windowNow ≤ w ∨ w < s.pair.compared ∨ digestsWhole peer = false →
        ∃ t, exec (.windowCompare w peer) s = .next t ∧ s.only t [] (keysOf [])) ∧
      (s.comparing = true → w < s.windowNow → s.pair.compared ≤ w → digestsWhole peer = true →
        ∀ (x : Nat → Nat) (on_ : Nat → Prop),
          (∀ p, x p = (mapGet s.pair.residual p 0 + mapGet s.pair.digests (1024 * w + p) 0 + 2 ^ 64 - peerDigest peer p) % 2 ^ 64) →
          (∀ p, on_ p ↔ p < 1024 ∧ bitOf (s.get (Reg.PAIR_CMP_MASK_MASK (p / 32))) (p % 32) = false) →
          ∃ t, exec (.windowCompare w peer) s = .next t ∧ t.pair.compared = w + 1 ∧
            ((∀ p, on_ p → x p = 0 ∨ mapFind s.pair.waits p = none) →
              (∀ p, (on_ p → mapGet t.pair.residual p 0 = x p ∧ mapFind t.pair.waits p = if x p = 0 then none else some w) ∧
                (¬ on_ p → mapGet t.pair.residual p 0 = mapGet s.pair.residual p 0 ∧ mapFind t.pair.waits p = mapFind s.pair.waits p)) ∧
              t.pairState = s.pairState ∧ s.only t [.pair] (regsOf ["PAIR_SHIFT_CNT"])) ∧
            (∀ p w0, on_ p → x p ≠ 0 → mapFind s.pair.waits p = some w0 →
              (∀ q, q < p → on_ q → x q = 0 ∨ mapFind s.pair.waits q = none) →
              t.bit Reg.PAIR_STATUS_MISMATCH = true ∧ t.get Reg.PAIR_VERDICT_CAUSE = 1 ∧ t.get Reg.PAIR_VERDICT_PORT = p ∧
              t.get Reg.PAIR_VERDICT_WIN_WINDOW = w0 % 2 ^ 32 ∧
              t.pair.peerErrors = mapPut (s.pair.peerErrors.filter fun e => w ≤ e.1 + 4) w (peer.any (·.intErr), peer.any (·.extErr)) ∧
              ∀ (mine theirs : Nat → Bool × Bool) out mi ti ext, (∀ k, mine k = mapGet s.pair.errors k (false, false)) →
                (∀ k, theirs k = mapGet t.pair.peerErrors k (false, false)) → mi = ((mine w0).1 || (mine (w0 - 1)).1) →
                ti = ((theirs w0).1 || (theirs (w0 - 1)).1) →
                ext = ((mine w0).2 || (mine (w0 - 1)).2 || (theirs w0).2 || (theirs (w0 - 1)).2) →
                out = (if s.pairState = paActive then verdictOf mi ti ext else verdictOf ti mi ext) →
                t.get Reg.PAIR_VERDICT_OUTCOME = out ∧
                (s.pairState = paActive → t.pairState =
                  (if out = 1 ∨ (out = 5 ∧ s.bit Reg.PAIR_CTRL_TAKE_UNEXPLAINED = true) then paYielding else paActive)) ∧
                (s.pairState = paStandby → (out = 2 ∨ out = 3 → t.pairState = paStale) ∧
                  (out = 4 ∨ (out = 5 ∧ s.bit Reg.PAIR_PEER_TAKE_UNEXPLAINED = false) → t.pairState = paStandby) ∧
                  (out = 1 ∨ (out = 5 ∧ s.bit Reg.PAIR_PEER_TAKE_UNEXPLAINED = true) → s.bit Reg.PAIR_STATUS_HOLD_FAULT = false →
                    s.holdIn = false → t.pairState = paClaiming))) ∧
            s.only t [.events, .reck, .host, .pair] (regsOf ["RING_CFG", "RING_DEV_INDEX", "PAIR_STATUS", "PAIR_VERDICT",
              "PAIR_VERDICT_WIN", "PAIR_MISMATCH_CNT", "PAIR_SHIFT_CNT", "PAIR_TAKEOVER_CNT"])))

/-- R518, R520, R530 to R532, Tables 20-4 and 20-5: a STANDBY or SYNCING device applies records in SEQ order: one it can apply advances its ACK, one that must
wait is taken later, one it cannot apply makes it STALE; an ACTIVE one takes none but the FINAL head. An active whose ACK has not
advanced for 4 µs sends its records again. A new active enables Tally itself 50 µs after it became ACTIVE. PAIR_RESYNC clears the
tables of a DETACHED or STALE device whose peer is ACTIVE and completes when the copy does.
Log entries 60 and 65: the model's choices or readings. -/
def Obligations.RecordsMirrorTheTablesAndResyncCopiesThem : Prop :=
  ∀ s : State, s.running = true →
    (∀ b ok m u op, s.mirrorIn b ok = some m → s.mirrorLinked = true → (m.type = 3 ∨ m.type = 4) → u = s.takeAck m.ack →
      op = beAt m.payload 0 1 →
      ((m.seq ≠ (s.pair.ack + 1) % 2 ^ 32 ∨ (s.pairState ≠ paStandby ∧ s.pairState ≠ paSyncing ∧
          (s.pairState ≠ paActive ∨ op ≠ 0 ∨ m.type ≠ 3))) →
        ∃ t, exec (.stateRecordReceive b ok) s = .next t ∧ u.only t [] (keysOf [])) ∧
      (m.seq = (s.pair.ack + 1) % 2 ^ 32 → s.pairState = paStandby ∨ s.pairState = paSyncing →
        (u.applyTable op (m.payload.drop 8) = .later → ∃ t, exec (.stateRecordReceive b ok) s = .next t ∧ u.only t [] (keysOf [])) ∧
        (u.applyTable op (m.payload.drop 8) = .broken → ∃ t, exec (.stateRecordReceive b ok) s = .next t ∧ t.pairState = paStale ∧
          t.pair.ack = s.pair.ack ∧ t.fdb = s.fdb ∧ t.flow = s.flow) ∧
        (∀ v, u.applyTable op (m.payload.drop 8) = .done v → ∃ t, exec (.stateRecordReceive b ok) s = .next t ∧ t.pair.ack = m.seq ∧
          v.only t [.pair] (keysOf [])) ∧
        (∀ i c, op = 0x34 → s.contextOf (slice m.payload 8 48) = some (i, c) → ∃ t, exec (.stateRecordReceive b ok) s = .next t ∧
          mapFind t.flow.contexts i = none ∧ t.pair.ack = m.seq) ∧
        ((op = 0x34 ∨ op = 0x31) → s.contextOf (slice m.payload 8 48) = none → ∃ t, exec (.stateRecordReceive b ok) s = .next t ∧
          t.pairState = paStale) ∧
        (∀ p e, op = 0x20 → fdbFind s.fdb.entries (fdbOf (m.payload.drop 8)).vlan (fdbOf (m.payload.drop 8)).mac = some (p, e) → e.bad = false →
          ∃ t y, exec (.stateRecordReceive b ok) s = .next t ∧ mapFind t.fdb.entries p = some y ∧
            y.kind = (fdbOf (m.payload.drop 8)).kind ∧ y.dest = (fdbOf (m.payload.drop 8)).dest ∧ y.hit = e.hit ∧ t.pair.ack = m.seq))) ∧
    (s.pair.queue ≠ [] → s.pair.ackAt + 4 * usCycles ≤ s.cycle → ∃ t, exec .stateResend s = .next t ∧
      s.counted t Reg.PAIR_RETX_CNT_COUNT ∧ t.pair.queue = s.pair.queue ∧ t.pair.ackAt = s.cycle ∧
      (s.bit Reg.PAIR_STATUS_LINK_UP = true → s.mirrorIdle = false →
        t.pair.sent = s.pair.sent ++ s.pair.queue.map fun r => s.mirrorBytes r.2.1 r.1 r.2.2) ∧
      s.only t [.pair] (keysOf [Reg.PAIR_RETX_CNT_COUNT])) ∧
    (s.pair.queue = [] ∨ s.cycle < s.pair.ackAt + 4 * usCycles → ∃ t, exec .stateResend s = .next t ∧ s.only t [] (keysOf [])) ∧
    (s.pairState = paActive → s.pair.follow = true →
      (s.pair.activeAt + 50 * usCycles ≤ s.cycle → ∃ t, exec .tallyFollowTimeout s = .next t ∧ t.bit Reg.TALLY_CTRL_ENABLE = true ∧
        t.pair.follow = false ∧ s.only t [.tally, .pair] (regsOf ["TALLY_CTRL", "TALLY_STATUS", "TALLY_RING_LEVEL",
          "TALLY_SEAL_INDEX_LO", "TALLY_SEAL_INDEX_HI"])) ∧
      (s.cycle < s.pair.activeAt + 50 * usCycles → ∃ t, exec .tallyFollowTimeout s = .next t ∧ s.only t [] (keysOf []))) ∧
    (∀ c, s.accepts 0x68 c → (∀ d n, s.pair.resync = some (d, n) → d ≠ c) →
      (s.pairState = paStandby → s.ends (.pairResync c) 0x68 c { CmdRes.ok with result := leBytes 4 0 } [.reck] (keysOf [])
        fun _ => True) ∧
      (s.pairState = paSyncing ∨ drivesHold s.pairState = true → s.ends (.pairResync c) 0x68 c (CmdRes.of .busy) [.reck] (keysOf [])
        fun _ => True) ∧
      (s.get Reg.PAIR_PEER_STATE ≠ paActive → s.pairState = paDetached ∨ s.pairState = paStale →
        s.ends (.pairResync c) 0x68 c (CmdRes.of .retry) [.reck] (keysOf []) fun _ => True) ∧
      (s.get Reg.PAIR_PEER_STATE = paActive → s.pairState = paDetached ∨ s.pairState = paStale →
        ∃ t, exec (.pairResync c) s = .next t ∧ t.pairState = paSyncing ∧ t.pair.resync = some (c, 0) ∧ t.pair.ack = 0 ∧
          t.fdb.entries = [] ∧ t.lpm = ⟨[], [], 0⟩ ∧ t.flow.contexts = [] ∧ t.mcast.groups = [] ∧ t.tm.policers = [] ∧ t.tm.shapers = [] ∧
          t.rules.changes = [] ∧ t.rules.comparators = [] ∧ t.host = s.host ∧
          s.only t [.events, .reck, .rules, .fdb, .lpm, .flow, .mcast, .tm, .host, .pair, .span] (regsOf ["RULE_STORE_USED",
            "RULE_STAGE_STATUS", "FDB_USED", "LPM_USED", "LPM_V4_COUNT", "LPM_V6_COUNT", "FLOW_USED", "MCAST_MEMBERS_USED",
            "TM_GATE_STATUS", "RING_CFG", "RING_DEV_INDEX", "PAIR_STATUS"]))) ∧
    (∀ c n, s.pair.walk = none → s.pair.resync = some (c, n) → s.pairState = paSyncing → ∃ t, exec .resyncComplete s = .next t ∧
      t.pairState = paStandby ∧ t.pair.resync = none ∧ t.bit Reg.TALLY_CTRL_ENABLE = false ∧
      t.completed 0x68 c { CmdRes.ok with result := leBytes 4 n } ∧
      s.only t [.events, .reck, .tally, .host, .pair] (regsOf ["TALLY_CTRL", "RING_CFG", "RING_DEV_INDEX", "PAIR_STATUS"])) ∧
    (∀ l, s.pair.walk = some l → ∃ t, exec .resyncComplete s = .next t ∧ t.pair.walk = none ∧ t.runsRoutine .pairResync = false ∧
      t.pairState = s.pairState ∧
      ((∀ e ∈ s.fdb.entries, e.2.bad = false) → (∀ e ∈ s.lpm.entries, e.bad = false) →
        s.only t [.reck, .pair] (regsOf ["PAIR_MIRROR_LEVEL"])) ∧
      s.only t [.reck, .fdb, .lpm, .pair] (regsOf ["PAIR_MIRROR_LEVEL", "FDB_STATUS", "FDB_USED", "FDB_PARITY_LOC", "FDB_PARITY_CNT",
        "LPM_STATUS", "LPM_USED", "LPM_V4_COUNT", "LPM_V6_COUNT", "LPM_PARITY_LOC", "LPM_PARITY_CNT"])) ∧
    (s.pair.walk = none → s.pair.resync = none → ∃ t, exec .resyncComplete s = .next t ∧ s.only t [] (keysOf []))

/-! ### Span links, observation pins and the test access port (chapters 21 and 24) -/

/-- R537, R538, R541, R543, R545, R548, R549: the span lanes are turned on and off only while their ports are DISABLED and the pair state allows it; they
become four ports of eight lanes on each wired group. A span port sends CONTROL frames with up to 64 membership updates, and takes from
those it receives the state of the peer, its time difference and its members. A DATA frame is admitted with what its header
carries, from a peer that reports ACTIVE or UNPAIRED; another is counted as ignored.
Log entries 60 and 68: the model's choices or readings. -/
def Obligations.SpanLinksJoinTwoDevices : Prop :=
  ∀ s : State, s.running = true →
    (s.served → s.funcUp .pair = true → ∀ v, v < 16 → s.get Reg.SPAN_CTRL_EN < 2 → ∀ same free,
      same = decide (bits v 0 3 = s.get Reg.SPAN_CTRL_GROUP_EN * 2 + s.get Reg.SPAN_CTRL_EN) →
      free = (!s.spanBusy && (s.pairState == paUnpaired || s.pairState == paDetached || s.pairState == paStale)) →
      (bitOf v 0 = true → bits v 1 2 = 0 → s.turnsAway (.spanCtrlWrite v) .range) ∧
      (bitOf v 0 = false ∨ bits v 1 2 ≠ 0 →
        (same = false → free = false → s.turnsAway (.spanCtrlWrite v) .busy) ∧
        (same = true → s.takes (.spanCtrlWrite v) [] (keysOf [Reg.SPAN_CTRL_LEARN]) fun t => t.bit Reg.SPAN_CTRL_LEARN = bitOf v 3) ∧
        (same = false → free = true → bitOf v 0 = true →
          s.takes (.spanCtrlWrite v) [.ports, .counters, .reck, .pair, .tm, .span]
            (fun k => (∃ i, i < 8 ∧ octetReg (120 + i) (k / 32) = true) ∨ regsOf ["MAC_OCTET_MODE", "STAMP_PORT_STATUS", "MAC_PORT_CTRL",
              "MAC_PORT_FRAME", "MAC_PORT_STATUS", "MAC_PORT_EVT", "CNT_HALF_LO", "CNT_HALF_HI", "SPAN_CTRL", "SPAN_STATUS"] k)
            fun t => t.spanOn = true ∧ t.get Reg.SPAN_CTRL_GROUP_EN = bits v 1 2 ∧ t.span.members = [] ∧
              ∀ i, i < 8 → t.get (Reg.MAC_OCTET_MODE_RATE (120 + i)) = 2 ∧
                (bitOf v (2 - i / 4) = true → t.get (Reg.MAC_OCTET_MODE_MODE (120 + i)) = 4 ∧
                  t.bit (Reg.MAC_PORT_CTRL_ENABLE (960 + 8 * i)) = true ∧ t.get (Reg.MAC_PORT_CTRL_FEC (960 + 8 * i)) = 3 ∧
                  t.get (Reg.MAC_PORT_FRAME_FRAME_MAX (960 + 8 * i)) = 16000) ∧
                (bitOf v (2 - i / 4) = false → t.get (Reg.MAC_OCTET_MODE_MODE (120 + i)) = 0)) ∧
        (same = false → free = true → bitOf v 0 = false → s.takes (.spanCtrlWrite v) [.span] (regsOf ["SPAN_CTRL", "SPAN_STATUS"])
          fun t => t.spanOn = false ∧ t.get Reg.SPAN_STATUS_PEER_ACTIVE = 0 ∧ t.span.members = [] ∧ t.span.updates = []))) ∧
    (∀ p, p < 1024 →
      (s.isSpanPort p = true → s.portUp p = true → s.funcUp .pair = true → ∃ t b l, exec (.spanControlSend p) s = .next t ∧
        l = mapGet s.span.updates p [] ∧ b = s.controlSpan p (l.take 64) ∧ t.span.sent = s.span.sent ++ [(p, b)] ∧
        mapGet t.span.updates p [] = l.drop 64 ∧ t.span.members = s.span.members ∧
        (s.portIdle p = false → s.get (Reg.MAC_PORT_CTRL_LOOPBACK p) = 0 → s.bit (Reg.MAC_PORT_STATUS_LOCAL_FAULT p) = false →
          s.bit (Reg.MAC_PORT_STATUS_REMOTE_FAULT p) = false → (t.port p).lastTx = b) ∧
        s.only t [.ports, .counters, .pair, .span] (regsOf ["CNT_HALF_LO", "CNT_HALF_HI"])) ∧
      (s.isSpanPort p = false ∨ s.portUp p = false ∨ s.funcUp .pair = false → ∃ t, exec (.spanControlSend p) s = .next t ∧
        s.only t [] (keysOf [])) ∧
      (∀ b ok n g, n = min 64 (beAt b 47 1) → g = (p - 960) / 32 → s.isSpanPort p = true → s.portUp p = true →
        (ok = true → 64 ≤ b.length → b.length ≤ s.get (Reg.MAC_PORT_FRAME_FRAME_MAX p) + 46 → s.isSpan b 2 = true →
          52 + 4 * n ≤ b.length → s.funcUp .pair = true → ∃ t, exec (.spanControlReceive p b ok) s = .next t ∧
            bitOf (t.get Reg.SPAN_STATUS_PEER_ACTIVE) g = (beAt b 46 1 == paActive || beAt b 46 1 == paUnpaired) ∧
            t.get (Reg.SPAN_TIME_DIFF_DIFF g) =
              diffSixteenths ((s.presTicks : Int) - stampTime (beAt b 30 16) - spanLatency) ∧
            (∀ i, i < n → (∀ j, i < j → j < n → beAt b (48 + 4 * j) 2 ≠ beAt b (48 + 4 * i) 2) →
              mapGet t.span.members (g * 65536 + beAt b (48 + 4 * i) 2) 0 = if beAt b (50 + 4 * i) 2 = 0 then 0 else 1) ∧
            s.only t [.counters, .pair, .span] (regsOf ["CNT_HALF_LO", "CNT_HALF_HI", "SPAN_STATUS", "SPAN_TIME_DIFF"])) ∧
        (ok = false ∨ b.length < 64 ∨ s.isSpan b 2 = false → ∃ t, exec (.spanControlReceive p b ok) s = .next t ∧
          s.only t [.counters, .pair] (regsOf ["CNT_HALF_LO", "CNT_HALF_HI"]))) ∧
      (∀ b ok, (s.spanOn = false ∨ p < 960 ∨ s.portUp p = false → ∃ t, exec (.spanDataReceive p b ok) s = .next t ∧
          s.only t [] (keysOf [])) ∧
        (s.spanOn = true → 960 ≤ p → s.portUp p = true →
          (ok = false ∨ s.isSpan b 1 = false ∨ beAt b 22 4 + 46 ≠ b.length → ∃ t, exec (.spanDataReceive p b ok) s = .next t ∧
            s.only t [.counters, .pair] (regsOf ["CNT_HALF_LO", "CNT_HALF_HI"])) ∧
          (ok = true → s.isSpan b 1 = true → beAt b 22 4 + 46 = b.length →
            (s.wiredGroups.contains ((p - 960) / 32) = false ∨ bitOf (s.get Reg.SPAN_STATUS_PEER_ACTIVE) ((p - 960) / 32) = false →
              ∃ t, exec (.spanDataReceive p b ok) s = .next t ∧ s.counted t Reg.SPAN_RX_IGNORED_CNT_COUNT ∧
                s.only t [.counters, .pair] (regsOf ["CNT_HALF_LO", "CNT_HALF_HI", "SPAN_RX_IGNORED_CNT"])) ∧
            (s.wiredGroups.contains ((p - 960) / 32) = true → bitOf (s.get Reg.SPAN_STATUS_PEER_ACTIVE) ((p - 960) / 32) = true →
              b.length ≤ s.get (Reg.MAC_PORT_FRAME_FRAME_MAX p) + 46 → s.bit Reg.SPAN_CTRL_LEARN = false → s.funcUp .buf = true →
              s.funcUp .tm = true → ∀ x f u, x = s.spanFrame p b → f = s.path.nextFrame →
                u = ((s.countRx p (s.get (Reg.MAC_PORT_FRAME_FRAME_MAX p) + 46) b .good false).addFrame x).2.fixCopies f →
                x.destKind = 0 → s.isLocal x.dest = true → s.bit (Reg.MIRROR_PORT_CFG_EGR_EN (x.dest - s.logicalBase)) = false →
                s.bit (Reg.MIRROR_PORT_CFG_ING_EN p) = false → mapFind s.host.inject f = none → s.colourDrop x.pool x.mark.colour = false →
                (∀ l w, takeBeads x.pool p 1 (ceilDiv x.bytes.length 256) [] (u.turnOn x.pool) = some (l, w) →
                  ∃ t y, exec (.spanDataReceive p b ok) s = .next t ∧ t.frame f = some y ∧ y.bytes = x.bytes ∧ y.beads = l ∧
                    y.stage = .walking ∧ y.mark = x.mark ∧ y.ingStamp = beAt b 30 16 ∧ y.carried = x.carried ∧ y.copies = 1) ∧
                (takeBeads x.pool p 1 (ceilDiv x.bytes.length 256) [] (u.turnOn x.pool) = none → ∃ t, exec (.spanDataReceive p b ok) s = .next t ∧
                  t.bit Reg.BUF_STATUS_DROP = true ∧ s.counted t Reg.BUF_DROP_CNT_COUNT)))) ∧
        (∀ t, exec (.spanDataReceive p b ok) s = .next t → s.only t [.ports, .counters, .events, .path, .rules, .fdb, .mcast, .buf, .tally,
          .host, .pair] (regsOf ["CNT_HALF_LO", "CNT_HALF_HI", "MCAST_MEMBERS_USED", "TALLY_STATUS", "TALLY_RING_LEVEL", "TALLY_LOST_CNT",
            "RULE_VER_STATE", "FDB_STATUS", "FDB_LEARN_DROP_CNT", "BUF_POOL_USED", "BUF_POOL_SHARED", "BUF_STATUS", "BUF_XOFF_POOLS",
            "BUF_LANDING", "BUF_BAD_FREE_LOC", "BUF_DROP_CNT", "BUF_HEADROOM_CNT", "BUF_REF_LIMIT_CNT", "BUF_BAD_FREE_CNT",
            "RING_DEV_INDEX", "SPAN_STATUS", "SPAN_RX_IGNORED_CNT"]))))

/-- R586, R588 to R591, R593, Table 24-4: the OBS page takes writes only with an OBS grant; a half whose selection changes counts its edges afresh. An instruction
of the test access port enters force: those that drive or hold the lanes make every link bad, HIGHZ idles every transmitter, and a private
one with a SCAN grant idles them, drives HOLD_OUT low and pulls FAULT_N low; in reset it acts on its register alone.
Log entries 37, 38 and 69: the model's choices or readings. -/
def Obligations.ObservationPinsAndTheTestAccessPort : Prop :=
  ∀ s : State,
    (s.running = true → s.served →
      (∀ w v i, v < 2 ^ 32 → (w = 0 ∨ ∃ k, k < 4 ∧ w = 4 + k) → i = Instr.obsWrite w v →
        (bitOf (s.get Reg.SEC_DEBUG_STATUS_GRANTED) 0 = false → s.turnsAway i .denied) ∧
        (bitOf (s.get Reg.SEC_DEBUG_STATUS_GRANTED) 0 = true → within v (if w = 0 then 0x80037F7F else 0x3F3F3F3F) = true → s.takes i [.plat] (regsOf ["OBS_CTRL", "OBS_POINT"]) fun t =>
          t.plat.obsAt = some s.cycle ∧
          (w = 0 → t.get Reg.OBS_CTRL_BANK_A = v % 128 ∧ t.get Reg.OBS_CTRL_BANK_B = v / 256 % 128 ∧ t.bit Reg.OBS_CTRL_DIV_A = bitOf v 16 ∧
            t.bit Reg.OBS_CTRL_DIV_B = bitOf v 17 ∧ t.bit Reg.OBS_CTRL_EN = bitOf v 31) ∧
          (∀ k, w = 4 + k → k < 4 → t.get (Reg.OBS_POINT_POINT_0 k) = v % 64 ∧ t.get (Reg.OBS_POINT_POINT_3 k) = v / 2 ^ 24 % 64) ∧
          ∀ k, (s.obsHalf (k / 8) = t.obsHalf (k / 8) → mapFind t.plat.edges k = mapFind s.plat.edges k) ∧
            (s.obsHalf (k / 8) ≠ t.obsHalf (k / 8) → mapFind t.plat.edges k = none))) ∧
      (∀ w v, 8 ≤ w → w < 262144 → s.turnsAway (.obsWrite w v) .range)) ∧
    (∀ op i, op < 256 → (i = Instr.jtagInstruction op ∨ (op = 1 ∧ i = .tapReset)) →
      (s.die.mode = .off → ∃ t, exec i s = .next t ∧ s.only t [] (keysOf [])) ∧
      (s.die.mode ≠ .off → ∃ t, exec i s = .next t ∧ t.plat.tap = op ∧
        (s.die.mode ≠ .running → t.plat = { s.plat with tap := op } ∧ s.only t [.plat] (keysOf [])) ∧
        (s.die.mode = .running →
          t.plat.isPrivate = (s.plat.isPrivate || (0x80 ≤ op && op ≤ 0xFE && bitOf (s.get Reg.SEC_DEBUG_STATUS_GRANTED) 1)) ∧
          (t.plat.isPrivate = true → t.silent ∧ t.pins.holdOut = false ∧ t.pins.faultN = false) ∧
          (op = 6 → t.silent ∧ (t.plat.isPrivate = false → t.pins.holdOut = false)) ∧
          (op ∈ [0, 3, 4, 5, 6] → s.linksHeld = false → ∀ p, p < 1024 → s.isPort p = true →
            t.bit (Reg.MAC_PORT_STATUS_LINK_GOOD p) = false) ∧
          ((op = 1 ∨ op = 2 ∨ 7 ≤ op) → s.linksHeld = false → s.only t [.plat] (keysOf [])) ∧
          s.only t [.ports, .counters, .pair, .plat] (regsOf ["MAC_PORT_STATUS", "MAC_PORT_EVT", "CNT_HALF_LO", "CNT_HALF_HI",
            "STAMP_PORT_STATUS", "PAIR_STATUS"]))))

/-! ### An invariant of the forwarding database -/

/-- R246, R247: the FDB stays in order under every step: its places are listed once, in rising order, and an entry stands
only in one of the sixteen places of its two candidate buckets.
Log entry 39: the model's choice or reading. -/
def Obligations.EveryStepKeepsTheFdbInItsBuckets : Prop :=
  ∀ s t : State, s.fdbInOrder → step s = .next t → t.fdbInOrder
end

