-- ==== Sys2Proof/Laws/Maps.lean ====
section
/-! SUPPORT. Sparse maps: what a lookup finds after each operation, and that a stored map keeps its canonical form. -/

namespace Sys2Proof.Machine

variable {α : Type}

@[simp] theorem mapFind_nil (k : Nat) : mapFind ([] : SMap α) k = none := rfl

theorem mapFind_del_self (m : SMap α) (k : Nat) : mapFind (mapDel m k) k = none := by
  induction m with
  | nil => rfl
  | cons e m ih =>
    by_cases h : e.1 = k <;> simp_all [mapDel, mapFind]

theorem mapFind_del_ne (m : SMap α) {k j : Nat} (h : k ≠ j) : mapFind (mapDel m k) j = mapFind m j := by
  induction m with
  | nil => rfl
  | cons e m ih =>
    by_cases he : e.1 = k
    · have : e.1 ≠ j := by omega
      simp_all [mapDel, mapFind]
    · simp_all [mapDel, mapFind]

theorem mapFind_ins_self (m : SMap α) (k : Nat) (v : α) (h : mapFind m k = none) : mapFind (mapIns m k v) k = some v := by
  induction m with
  | nil => simp [mapIns, mapFind]
  | cons e m ih =>
    obtain ⟨k', v'⟩ := e
    by_cases hk : k' = k
    · simp [mapFind, hk] at h
    · simp only [mapFind, hk, if_false] at h
      by_cases hl : k < k' <;> simp [mapIns, mapFind, hl, hk, ih h]

theorem mapFind_ins_ne (m : SMap α) {k j : Nat} (v : α) (h : k ≠ j) : mapFind (mapIns m k v) j = mapFind m j := by
  induction m with
  | nil => simp [mapIns, mapFind, h]
  | cons e m ih =>
    obtain ⟨k', v'⟩ := e
    by_cases hl : k < k' <;> simp [mapIns, mapFind, hl, h, ih]

/-- A key that has been stored is found. -/
@[simp] theorem mapFind_put_self (m : SMap α) (k : Nat) (v : α) : mapFind (mapPut m k v) k = some v :=
  mapFind_ins_self _ _ _ (mapFind_del_self m k)

/-- Storing under one key leaves the others. -/
theorem mapFind_put_ne (m : SMap α) {k j : Nat} (v : α) (h : k ≠ j) : mapFind (mapPut m k v) j = mapFind m j := by
  rw [mapPut, mapFind_ins_ne _ _ h, mapFind_del_ne _ h]

/-- The value stored under a key is the value read. -/
@[simp] theorem mapGet_set_self [DecidableEq α] (m : SMap α) (k : Nat) (v d : α) : mapGet (mapSet m k v d) k d = v := by
  unfold mapGet mapSet
  split
  · simp_all [mapFind_del_self]
  · simp

/-- Storing under one key leaves the value read under another. -/
theorem mapGet_set_ne [DecidableEq α] (m : SMap α) {k j : Nat} (v d e : α) (h : k ≠ j) :
    mapGet (mapSet m k v d) j e = mapGet m j e := by
  unfold mapGet mapSet
  split
  · rw [mapFind_del_ne _ h]
  · rw [mapFind_put_ne _ _ h]

@[simp] theorem mapGet_mod_self [DecidableEq α] (m : SMap α) (k : Nat) (d : α) (f : α → α) :
    mapGet (mapMod m k d f) k d = f (mapGet m k d) := mapGet_set_self ..

theorem mapGet_mod_ne [DecidableEq α] (m : SMap α) {k j : Nat} (d e : α) (f : α → α) (h : k ≠ j) :
    mapGet (mapMod m k d f) j e = mapGet m j e := mapGet_set_ne _ _ _ _ h

@[simp] theorem mapGet_put_self (m : SMap α) (k : Nat) (v d : α) : mapGet (mapPut m k v) k d = v := by simp [mapGet]

theorem mapGet_put_ne (m : SMap α) {k j : Nat} (v d : α) (h : k ≠ j) : mapGet (mapPut m k v) j d = mapGet m j d := by
  simp [mapGet, mapFind_put_ne _ _ h]

@[simp] theorem mapGet_del_self (m : SMap α) (k : Nat) (d : α) : mapGet (mapDel m k) k d = d := by
  simp [mapGet, mapFind_del_self]

theorem mapGet_del_ne (m : SMap α) {k j : Nat} (d : α) (h : k ≠ j) : mapGet (mapDel m k) j d = mapGet m j d := by
  simp [mapGet, mapFind_del_ne _ h]

/-- A lookup in a map from which the keys outside `p` have gone. -/
theorem mapFind_filter (m : SMap α) (p : Nat → Bool) (k : Nat) :
    mapFind (m.filter fun e => p e.1) k = if p k then mapFind m k else none := by
  induction m with
  | nil => simp
  | cons e m ih =>
    obtain ⟨k', v'⟩ := e
    by_cases h : k' = k
    · subst h; by_cases hp : p k' <;> simp_all [mapFind]
    · by_cases hp : p k' <;> by_cases hq : p k <;> simp_all [mapFind]

/-! ### The canonical form -/

theorem mapSorted_iff (m : SMap α) : mapSorted m = true ↔ (m.map (·.1)).Pairwise (· < ·) := by
  induction m with
  | nil => simp [mapSorted]
  | cons e m ih =>
    cases m with
    | nil => simp [mapSorted]
    | cons e' m =>
      simp only [mapSorted, Bool.and_eq_true, decide_eq_true_eq, ih]
      constructor
      · rintro ⟨h, hp⟩
        refine List.Pairwise.cons ?_ hp
        intro a ha
        rcases List.mem_cons.mp ha with rfl | ha
        · exact h
        · exact lt_trans h ((List.pairwise_cons.mp hp).1 a ha)
      · intro hp
        obtain ⟨h1, h2⟩ := List.pairwise_cons.mp hp
        exact ⟨h1 _ (by simp), h2⟩

theorem mapSorted_filter (m : SMap α) (p : Nat × α → Bool) (h : mapSorted m = true) : mapSorted (m.filter p) = true := by
  rw [mapSorted_iff] at *
  exact h.sublist ((List.filter_sublist).map _)

theorem mem_mapIns (m : SMap α) (k : Nat) (v : α) (e : Nat × α) : e ∈ mapIns m k v ↔ e = (k, v) ∨ e ∈ m := by
  induction m with
  | nil => simp [mapIns]
  | cons x m ih =>
    obtain ⟨k', v'⟩ := x
    by_cases h : k < k'
    · simp [mapIns, h]
    · simp only [mapIns, h, if_false, List.mem_cons, ih]; tauto

theorem mapSorted_ins (m : SMap α) (k : Nat) (v : α) (h : mapSorted m = true) (hk : ∀ e ∈ m, e.1 ≠ k) :
    mapSorted (mapIns m k v) = true := by
  rw [mapSorted_iff] at *
  induction m with
  | nil => simp [mapIns]
  | cons x m ih =>
    obtain ⟨k', v'⟩ := x
    obtain ⟨h1, h2⟩ := List.pairwise_cons.mp h
    by_cases hl : k < k'
    · simp only [mapIns, hl, if_true, List.map_cons]
      refine List.Pairwise.cons ?_ h
      intro a ha
      rcases List.mem_cons.mp ha with rfl | ha
      · exact hl
      · exact lt_trans hl (h1 a ha)
    · simp only [mapIns, hl, if_false, List.map_cons]
      refine List.Pairwise.cons ?_ (ih h2 fun e he => hk e (by simp [he]))
      intro a ha
      obtain ⟨e, he, rfl⟩ := List.mem_map.mp ha
      rcases (mem_mapIns m k v e).mp he with rfl | he
      · have := hk (k', v') (by simp); simp at this ⊢; omega
      · exact h1 _ (List.mem_map.mpr ⟨e, he, rfl⟩)

/-- Storing keeps the canonical form. -/
theorem mapSorted_put (m : SMap α) (k : Nat) (v : α) (h : mapSorted m = true) : mapSorted (mapPut m k v) = true :=
  mapSorted_ins _ _ _ (mapSorted_filter _ _ h) (by simp [mapDel])

/-- Storing with an unlisted value keeps the canonical form. -/
theorem mapSorted_set [DecidableEq α] (m : SMap α) (k : Nat) (v d : α) (h : mapSorted m = true) :
    mapSorted (mapSet m k v d) = true := by
  unfold mapSet
  split
  · exact mapSorted_filter _ _ h
  · exact mapSorted_put _ _ _ h

end Sys2Proof.Machine
end

