-- ==== Sys2Proof/Laws/State.lean ====
section
/-! SUPPORT. One lemma per field of the state and per update: what each update leaves and what it stores. -/

namespace Sys2Proof.Machine

variable (s : State)

@[simp] theorem set_pending (f : Fld) (v : Nat) : (s.set f v).pending = s.pending := rfl
@[simp] theorem set_cycle (f : Fld) (v : Nat) : (s.set f v).cycle = s.cycle := rfl
@[simp] theorem set_regs (f : Fld) (v : Nat) : (s.set f v).regs = mapSet s.regs (Fld.key f) (v % 2 ^ f.width) f.rst := rfl
@[simp] theorem set_lastStatus (f : Fld) (v : Nat) : (s.set f v).lastStatus = s.lastStatus := rfl
@[simp] theorem set_lastData (f : Fld) (v : Nat) : (s.set f v).lastData = s.lastData := rfl
@[simp] theorem set_die (f : Fld) (v : Nat) : (s.set f v).die = s.die := rfl
@[simp] theorem set_pins (f : Fld) (v : Nat) : (s.set f v).pins = s.pins := rfl
@[simp] theorem set_time (f : Fld) (v : Nat) : (s.set f v).time = s.time := rfl
@[simp] theorem set_stamp (f : Fld) (v : Nat) : (s.set f v).stamp = s.stamp := rfl
@[simp] theorem set_ports (f : Fld) (v : Nat) : (s.set f v).ports = s.ports := rfl
@[simp] theorem set_counters (f : Fld) (v : Nat) : (s.set f v).counters = s.counters := rfl
@[simp] theorem set_events (f : Fld) (v : Nat) : (s.set f v).events = s.events := rfl
@[simp] theorem set_reck (f : Fld) (v : Nat) : (s.set f v).reck = s.reck := rfl
@[simp] theorem set_path (f : Fld) (v : Nat) : (s.set f v).path = s.path := rfl
@[simp] theorem set_rules (f : Fld) (v : Nat) : (s.set f v).rules = s.rules := rfl
@[simp] theorem set_fdb (f : Fld) (v : Nat) : (s.set f v).fdb = s.fdb := rfl
@[simp] theorem set_lpm (f : Fld) (v : Nat) : (s.set f v).lpm = s.lpm := rfl
@[simp] theorem set_flow (f : Fld) (v : Nat) : (s.set f v).flow = s.flow := rfl
@[simp] theorem set_mcast (f : Fld) (v : Nat) : (s.set f v).mcast = s.mcast := rfl
@[simp] theorem set_buf (f : Fld) (v : Nat) : (s.set f v).buf = s.buf := rfl
@[simp] theorem set_tm (f : Fld) (v : Nat) : (s.set f v).tm = s.tm := rfl
@[simp] theorem set_tally (f : Fld) (v : Nat) : (s.set f v).tally = s.tally := rfl
@[simp] theorem set_host (f : Fld) (v : Nat) : (s.set f v).host = s.host := rfl
@[simp] theorem set_dram (f : Fld) (v : Nat) : (s.set f v).dram = s.dram := rfl
@[simp] theorem set_sec (f : Fld) (v : Nat) : (s.set f v).sec = s.sec := rfl
@[simp] theorem set_pair (f : Fld) (v : Nat) : (s.set f v).pair = s.pair := rfl
@[simp] theorem set_span (f : Fld) (v : Nat) : (s.set f v).span = s.span := rfl
@[simp] theorem set_plat (f : Fld) (v : Nat) : (s.set f v).plat = s.plat := rfl

@[simp] theorem on_pending (f : Fld) : (s.on f).pending = s.pending := rfl
@[simp] theorem on_cycle (f : Fld) : (s.on f).cycle = s.cycle := rfl
@[simp] theorem on_lastStatus (f : Fld) : (s.on f).lastStatus = s.lastStatus := rfl
@[simp] theorem on_lastData (f : Fld) : (s.on f).lastData = s.lastData := rfl
@[simp] theorem on_die (f : Fld) : (s.on f).die = s.die := rfl
@[simp] theorem on_pins (f : Fld) : (s.on f).pins = s.pins := rfl
@[simp] theorem on_time (f : Fld) : (s.on f).time = s.time := rfl
@[simp] theorem on_stamp (f : Fld) : (s.on f).stamp = s.stamp := rfl
@[simp] theorem on_ports (f : Fld) : (s.on f).ports = s.ports := rfl
@[simp] theorem on_counters (f : Fld) : (s.on f).counters = s.counters := rfl
@[simp] theorem on_events (f : Fld) : (s.on f).events = s.events := rfl
@[simp] theorem on_reck (f : Fld) : (s.on f).reck = s.reck := rfl
@[simp] theorem on_path (f : Fld) : (s.on f).path = s.path := rfl
@[simp] theorem on_rules (f : Fld) : (s.on f).rules = s.rules := rfl
@[simp] theorem on_fdb (f : Fld) : (s.on f).fdb = s.fdb := rfl
@[simp] theorem on_lpm (f : Fld) : (s.on f).lpm = s.lpm := rfl
@[simp] theorem on_flow (f : Fld) : (s.on f).flow = s.flow := rfl
@[simp] theorem on_mcast (f : Fld) : (s.on f).mcast = s.mcast := rfl
@[simp] theorem on_buf (f : Fld) : (s.on f).buf = s.buf := rfl
@[simp] theorem on_tm (f : Fld) : (s.on f).tm = s.tm := rfl
@[simp] theorem on_tally (f : Fld) : (s.on f).tally = s.tally := rfl
@[simp] theorem on_host (f : Fld) : (s.on f).host = s.host := rfl
@[simp] theorem on_dram (f : Fld) : (s.on f).dram = s.dram := rfl
@[simp] theorem on_sec (f : Fld) : (s.on f).sec = s.sec := rfl
@[simp] theorem on_pair (f : Fld) : (s.on f).pair = s.pair := rfl
@[simp] theorem on_span (f : Fld) : (s.on f).span = s.span := rfl
@[simp] theorem on_plat (f : Fld) : (s.on f).plat = s.plat := rfl

@[simp] theorem off_pending (f : Fld) : (s.off f).pending = s.pending := rfl
@[simp] theorem off_cycle (f : Fld) : (s.off f).cycle = s.cycle := rfl
@[simp] theorem off_lastStatus (f : Fld) : (s.off f).lastStatus = s.lastStatus := rfl
@[simp] theorem off_lastData (f : Fld) : (s.off f).lastData = s.lastData := rfl
@[simp] theorem off_die (f : Fld) : (s.off f).die = s.die := rfl
@[simp] theorem off_pins (f : Fld) : (s.off f).pins = s.pins := rfl
@[simp] theorem off_time (f : Fld) : (s.off f).time = s.time := rfl
@[simp] theorem off_stamp (f : Fld) : (s.off f).stamp = s.stamp := rfl
@[simp] theorem off_ports (f : Fld) : (s.off f).ports = s.ports := rfl
@[simp] theorem off_counters (f : Fld) : (s.off f).counters = s.counters := rfl
@[simp] theorem off_events (f : Fld) : (s.off f).events = s.events := rfl
@[simp] theorem off_reck (f : Fld) : (s.off f).reck = s.reck := rfl
@[simp] theorem off_path (f : Fld) : (s.off f).path = s.path := rfl
@[simp] theorem off_rules (f : Fld) : (s.off f).rules = s.rules := rfl
@[simp] theorem off_fdb (f : Fld) : (s.off f).fdb = s.fdb := rfl
@[simp] theorem off_lpm (f : Fld) : (s.off f).lpm = s.lpm := rfl
@[simp] theorem off_flow (f : Fld) : (s.off f).flow = s.flow := rfl
@[simp] theorem off_mcast (f : Fld) : (s.off f).mcast = s.mcast := rfl
@[simp] theorem off_buf (f : Fld) : (s.off f).buf = s.buf := rfl
@[simp] theorem off_tm (f : Fld) : (s.off f).tm = s.tm := rfl
@[simp] theorem off_tally (f : Fld) : (s.off f).tally = s.tally := rfl
@[simp] theorem off_host (f : Fld) : (s.off f).host = s.host := rfl
@[simp] theorem off_dram (f : Fld) : (s.off f).dram = s.dram := rfl
@[simp] theorem off_sec (f : Fld) : (s.off f).sec = s.sec := rfl
@[simp] theorem off_pair (f : Fld) : (s.off f).pair = s.pair := rfl
@[simp] theorem off_span (f : Fld) : (s.off f).span = s.span := rfl
@[simp] theorem off_plat (f : Fld) : (s.off f).plat = s.plat := rfl

@[simp] theorem setB_pending (f : Fld) (b : Bool) : (s.setB f b).pending = s.pending := rfl
@[simp] theorem setB_cycle (f : Fld) (b : Bool) : (s.setB f b).cycle = s.cycle := rfl
@[simp] theorem setB_lastStatus (f : Fld) (b : Bool) : (s.setB f b).lastStatus = s.lastStatus := rfl
@[simp] theorem setB_lastData (f : Fld) (b : Bool) : (s.setB f b).lastData = s.lastData := rfl
@[simp] theorem setB_die (f : Fld) (b : Bool) : (s.setB f b).die = s.die := rfl
@[simp] theorem setB_pins (f : Fld) (b : Bool) : (s.setB f b).pins = s.pins := rfl
@[simp] theorem setB_time (f : Fld) (b : Bool) : (s.setB f b).time = s.time := rfl
@[simp] theorem setB_stamp (f : Fld) (b : Bool) : (s.setB f b).stamp = s.stamp := rfl
@[simp] theorem setB_ports (f : Fld) (b : Bool) : (s.setB f b).ports = s.ports := rfl
@[simp] theorem setB_counters (f : Fld) (b : Bool) : (s.setB f b).counters = s.counters := rfl
@[simp] theorem setB_events (f : Fld) (b : Bool) : (s.setB f b).events = s.events := rfl
@[simp] theorem setB_reck (f : Fld) (b : Bool) : (s.setB f b).reck = s.reck := rfl
@[simp] theorem setB_path (f : Fld) (b : Bool) : (s.setB f b).path = s.path := rfl
@[simp] theorem setB_rules (f : Fld) (b : Bool) : (s.setB f b).rules = s.rules := rfl
@[simp] theorem setB_fdb (f : Fld) (b : Bool) : (s.setB f b).fdb = s.fdb := rfl
@[simp] theorem setB_lpm (f : Fld) (b : Bool) : (s.setB f b).lpm = s.lpm := rfl
@[simp] theorem setB_flow (f : Fld) (b : Bool) : (s.setB f b).flow = s.flow := rfl
@[simp] theorem setB_mcast (f : Fld) (b : Bool) : (s.setB f b).mcast = s.mcast := rfl
@[simp] theorem setB_buf (f : Fld) (b : Bool) : (s.setB f b).buf = s.buf := rfl
@[simp] theorem setB_tm (f : Fld) (b : Bool) : (s.setB f b).tm = s.tm := rfl
@[simp] theorem setB_tally (f : Fld) (b : Bool) : (s.setB f b).tally = s.tally := rfl
@[simp] theorem setB_host (f : Fld) (b : Bool) : (s.setB f b).host = s.host := rfl
@[simp] theorem setB_dram (f : Fld) (b : Bool) : (s.setB f b).dram = s.dram := rfl
@[simp] theorem setB_sec (f : Fld) (b : Bool) : (s.setB f b).sec = s.sec := rfl
@[simp] theorem setB_pair (f : Fld) (b : Bool) : (s.setB f b).pair = s.pair := rfl
@[simp] theorem setB_span (f : Fld) (b : Bool) : (s.setB f b).span = s.span := rfl
@[simp] theorem setB_plat (f : Fld) (b : Bool) : (s.setB f b).plat = s.plat := rfl

@[simp] theorem orBits_pending (f : Fld) (m : Nat) : (s.orBits f m).pending = s.pending := rfl
@[simp] theorem orBits_cycle (f : Fld) (m : Nat) : (s.orBits f m).cycle = s.cycle := rfl
@[simp] theorem orBits_lastStatus (f : Fld) (m : Nat) : (s.orBits f m).lastStatus = s.lastStatus := rfl
@[simp] theorem orBits_lastData (f : Fld) (m : Nat) : (s.orBits f m).lastData = s.lastData := rfl
@[simp] theorem orBits_die (f : Fld) (m : Nat) : (s.orBits f m).die = s.die := rfl
@[simp] theorem orBits_pins (f : Fld) (m : Nat) : (s.orBits f m).pins = s.pins := rfl
@[simp] theorem orBits_time (f : Fld) (m : Nat) : (s.orBits f m).time = s.time := rfl
@[simp] theorem orBits_stamp (f : Fld) (m : Nat) : (s.orBits f m).stamp = s.stamp := rfl
@[simp] theorem orBits_ports (f : Fld) (m : Nat) : (s.orBits f m).ports = s.ports := rfl
@[simp] theorem orBits_counters (f : Fld) (m : Nat) : (s.orBits f m).counters = s.counters := rfl
@[simp] theorem orBits_events (f : Fld) (m : Nat) : (s.orBits f m).events = s.events := rfl
@[simp] theorem orBits_reck (f : Fld) (m : Nat) : (s.orBits f m).reck = s.reck := rfl
@[simp] theorem orBits_path (f : Fld) (m : Nat) : (s.orBits f m).path = s.path := rfl
@[simp] theorem orBits_rules (f : Fld) (m : Nat) : (s.orBits f m).rules = s.rules := rfl
@[simp] theorem orBits_fdb (f : Fld) (m : Nat) : (s.orBits f m).fdb = s.fdb := rfl
@[simp] theorem orBits_lpm (f : Fld) (m : Nat) : (s.orBits f m).lpm = s.lpm := rfl
@[simp] theorem orBits_flow (f : Fld) (m : Nat) : (s.orBits f m).flow = s.flow := rfl
@[simp] theorem orBits_mcast (f : Fld) (m : Nat) : (s.orBits f m).mcast = s.mcast := rfl
@[simp] theorem orBits_buf (f : Fld) (m : Nat) : (s.orBits f m).buf = s.buf := rfl
@[simp] theorem orBits_tm (f : Fld) (m : Nat) : (s.orBits f m).tm = s.tm := rfl
@[simp] theorem orBits_tally (f : Fld) (m : Nat) : (s.orBits f m).tally = s.tally := rfl
@[simp] theorem orBits_host (f : Fld) (m : Nat) : (s.orBits f m).host = s.host := rfl
@[simp] theorem orBits_dram (f : Fld) (m : Nat) : (s.orBits f m).dram = s.dram := rfl
@[simp] theorem orBits_sec (f : Fld) (m : Nat) : (s.orBits f m).sec = s.sec := rfl
@[simp] theorem orBits_pair (f : Fld) (m : Nat) : (s.orBits f m).pair = s.pair := rfl
@[simp] theorem orBits_span (f : Fld) (m : Nat) : (s.orBits f m).span = s.span := rfl
@[simp] theorem orBits_plat (f : Fld) (m : Nat) : (s.orBits f m).plat = s.plat := rfl

@[simp] theorem putBit_pending (f : Fld) (i : Nat) (b : Bool) : (s.putBit f i b).pending = s.pending := rfl
@[simp] theorem putBit_cycle (f : Fld) (i : Nat) (b : Bool) : (s.putBit f i b).cycle = s.cycle := rfl
@[simp] theorem putBit_lastStatus (f : Fld) (i : Nat) (b : Bool) : (s.putBit f i b).lastStatus = s.lastStatus := rfl
@[simp] theorem putBit_lastData (f : Fld) (i : Nat) (b : Bool) : (s.putBit f i b).lastData = s.lastData := rfl
@[simp] theorem putBit_die (f : Fld) (i : Nat) (b : Bool) : (s.putBit f i b).die = s.die := rfl
@[simp] theorem putBit_pins (f : Fld) (i : Nat) (b : Bool) : (s.putBit f i b).pins = s.pins := rfl
@[simp] theorem putBit_time (f : Fld) (i : Nat) (b : Bool) : (s.putBit f i b).time = s.time := rfl
@[simp] theorem putBit_stamp (f : Fld) (i : Nat) (b : Bool) : (s.putBit f i b).stamp = s.stamp := rfl
@[simp] theorem putBit_ports (f : Fld) (i : Nat) (b : Bool) : (s.putBit f i b).ports = s.ports := rfl
@[simp] theorem putBit_counters (f : Fld) (i : Nat) (b : Bool) : (s.putBit f i b).counters = s.counters := rfl
@[simp] theorem putBit_events (f : Fld) (i : Nat) (b : Bool) : (s.putBit f i b).events = s.events := rfl
@[simp] theorem putBit_reck (f : Fld) (i : Nat) (b : Bool) : (s.putBit f i b).reck = s.reck := rfl
@[simp] theorem putBit_path (f : Fld) (i : Nat) (b : Bool) : (s.putBit f i b).path = s.path := rfl
@[simp] theorem putBit_rules (f : Fld) (i : Nat) (b : Bool) : (s.putBit f i b).rules = s.rules := rfl
@[simp] theorem putBit_fdb (f : Fld) (i : Nat) (b : Bool) : (s.putBit f i b).fdb = s.fdb := rfl
@[simp] theorem putBit_lpm (f : Fld) (i : Nat) (b : Bool) : (s.putBit f i b).lpm = s.lpm := rfl
@[simp] theorem putBit_flow (f : Fld) (i : Nat) (b : Bool) : (s.putBit f i b).flow = s.flow := rfl
@[simp] theorem putBit_mcast (f : Fld) (i : Nat) (b : Bool) : (s.putBit f i b).mcast = s.mcast := rfl
@[simp] theorem putBit_buf (f : Fld) (i : Nat) (b : Bool) : (s.putBit f i b).buf = s.buf := rfl
@[simp] theorem putBit_tm (f : Fld) (i : Nat) (b : Bool) : (s.putBit f i b).tm = s.tm := rfl
@[simp] theorem putBit_tally (f : Fld) (i : Nat) (b : Bool) : (s.putBit f i b).tally = s.tally := rfl
@[simp] theorem putBit_host (f : Fld) (i : Nat) (b : Bool) : (s.putBit f i b).host = s.host := rfl
@[simp] theorem putBit_dram (f : Fld) (i : Nat) (b : Bool) : (s.putBit f i b).dram = s.dram := rfl
@[simp] theorem putBit_sec (f : Fld) (i : Nat) (b : Bool) : (s.putBit f i b).sec = s.sec := rfl
@[simp] theorem putBit_pair (f : Fld) (i : Nat) (b : Bool) : (s.putBit f i b).pair = s.pair := rfl
@[simp] theorem putBit_span (f : Fld) (i : Nat) (b : Bool) : (s.putBit f i b).span = s.span := rfl
@[simp] theorem putBit_plat (f : Fld) (i : Nat) (b : Bool) : (s.putBit f i b).plat = s.plat := rfl

@[simp] theorem satAdd_pending (f : Fld) (n : Nat) : (s.satAdd f n).pending = s.pending := rfl
@[simp] theorem satAdd_cycle (f : Fld) (n : Nat) : (s.satAdd f n).cycle = s.cycle := rfl
@[simp] theorem satAdd_lastStatus (f : Fld) (n : Nat) : (s.satAdd f n).lastStatus = s.lastStatus := rfl
@[simp] theorem satAdd_lastData (f : Fld) (n : Nat) : (s.satAdd f n).lastData = s.lastData := rfl
@[simp] theorem satAdd_die (f : Fld) (n : Nat) : (s.satAdd f n).die = s.die := rfl
@[simp] theorem satAdd_pins (f : Fld) (n : Nat) : (s.satAdd f n).pins = s.pins := rfl
@[simp] theorem satAdd_time (f : Fld) (n : Nat) : (s.satAdd f n).time = s.time := rfl
@[simp] theorem satAdd_stamp (f : Fld) (n : Nat) : (s.satAdd f n).stamp = s.stamp := rfl
@[simp] theorem satAdd_ports (f : Fld) (n : Nat) : (s.satAdd f n).ports = s.ports := rfl
@[simp] theorem satAdd_counters (f : Fld) (n : Nat) : (s.satAdd f n).counters = s.counters := rfl
@[simp] theorem satAdd_events (f : Fld) (n : Nat) : (s.satAdd f n).events = s.events := rfl
@[simp] theorem satAdd_reck (f : Fld) (n : Nat) : (s.satAdd f n).reck = s.reck := rfl
@[simp] theorem satAdd_path (f : Fld) (n : Nat) : (s.satAdd f n).path = s.path := rfl
@[simp] theorem satAdd_rules (f : Fld) (n : Nat) : (s.satAdd f n).rules = s.rules := rfl
@[simp] theorem satAdd_fdb (f : Fld) (n : Nat) : (s.satAdd f n).fdb = s.fdb := rfl
@[simp] theorem satAdd_lpm (f : Fld) (n : Nat) : (s.satAdd f n).lpm = s.lpm := rfl
@[simp] theorem satAdd_flow (f : Fld) (n : Nat) : (s.satAdd f n).flow = s.flow := rfl
@[simp] theorem satAdd_mcast (f : Fld) (n : Nat) : (s.satAdd f n).mcast = s.mcast := rfl
@[simp] theorem satAdd_buf (f : Fld) (n : Nat) : (s.satAdd f n).buf = s.buf := rfl
@[simp] theorem satAdd_tm (f : Fld) (n : Nat) : (s.satAdd f n).tm = s.tm := rfl
@[simp] theorem satAdd_tally (f : Fld) (n : Nat) : (s.satAdd f n).tally = s.tally := rfl
@[simp] theorem satAdd_host (f : Fld) (n : Nat) : (s.satAdd f n).host = s.host := rfl
@[simp] theorem satAdd_dram (f : Fld) (n : Nat) : (s.satAdd f n).dram = s.dram := rfl
@[simp] theorem satAdd_sec (f : Fld) (n : Nat) : (s.satAdd f n).sec = s.sec := rfl
@[simp] theorem satAdd_pair (f : Fld) (n : Nat) : (s.satAdd f n).pair = s.pair := rfl
@[simp] theorem satAdd_span (f : Fld) (n : Nat) : (s.satAdd f n).span = s.span := rfl
@[simp] theorem satAdd_plat (f : Fld) (n : Nat) : (s.satAdd f n).plat = s.plat := rfl

@[simp] theorem maxTo_pending (f : Fld) (n : Nat) : (s.maxTo f n).pending = s.pending := rfl
@[simp] theorem maxTo_cycle (f : Fld) (n : Nat) : (s.maxTo f n).cycle = s.cycle := rfl
@[simp] theorem maxTo_lastStatus (f : Fld) (n : Nat) : (s.maxTo f n).lastStatus = s.lastStatus := rfl
@[simp] theorem maxTo_lastData (f : Fld) (n : Nat) : (s.maxTo f n).lastData = s.lastData := rfl
@[simp] theorem maxTo_die (f : Fld) (n : Nat) : (s.maxTo f n).die = s.die := rfl
@[simp] theorem maxTo_pins (f : Fld) (n : Nat) : (s.maxTo f n).pins = s.pins := rfl
@[simp] theorem maxTo_time (f : Fld) (n : Nat) : (s.maxTo f n).time = s.time := rfl
@[simp] theorem maxTo_stamp (f : Fld) (n : Nat) : (s.maxTo f n).stamp = s.stamp := rfl
@[simp] theorem maxTo_ports (f : Fld) (n : Nat) : (s.maxTo f n).ports = s.ports := rfl
@[simp] theorem maxTo_counters (f : Fld) (n : Nat) : (s.maxTo f n).counters = s.counters := rfl
@[simp] theorem maxTo_events (f : Fld) (n : Nat) : (s.maxTo f n).events = s.events := rfl
@[simp] theorem maxTo_reck (f : Fld) (n : Nat) : (s.maxTo f n).reck = s.reck := rfl
@[simp] theorem maxTo_path (f : Fld) (n : Nat) : (s.maxTo f n).path = s.path := rfl
@[simp] theorem maxTo_rules (f : Fld) (n : Nat) : (s.maxTo f n).rules = s.rules := rfl
@[simp] theorem maxTo_fdb (f : Fld) (n : Nat) : (s.maxTo f n).fdb = s.fdb := rfl
@[simp] theorem maxTo_lpm (f : Fld) (n : Nat) : (s.maxTo f n).lpm = s.lpm := rfl
@[simp] theorem maxTo_flow (f : Fld) (n : Nat) : (s.maxTo f n).flow = s.flow := rfl
@[simp] theorem maxTo_mcast (f : Fld) (n : Nat) : (s.maxTo f n).mcast = s.mcast := rfl
@[simp] theorem maxTo_buf (f : Fld) (n : Nat) : (s.maxTo f n).buf = s.buf := rfl
@[simp] theorem maxTo_tm (f : Fld) (n : Nat) : (s.maxTo f n).tm = s.tm := rfl
@[simp] theorem maxTo_tally (f : Fld) (n : Nat) : (s.maxTo f n).tally = s.tally := rfl
@[simp] theorem maxTo_host (f : Fld) (n : Nat) : (s.maxTo f n).host = s.host := rfl
@[simp] theorem maxTo_dram (f : Fld) (n : Nat) : (s.maxTo f n).dram = s.dram := rfl
@[simp] theorem maxTo_sec (f : Fld) (n : Nat) : (s.maxTo f n).sec = s.sec := rfl
@[simp] theorem maxTo_pair (f : Fld) (n : Nat) : (s.maxTo f n).pair = s.pair := rfl
@[simp] theorem maxTo_span (f : Fld) (n : Nat) : (s.maxTo f n).span = s.span := rfl
@[simp] theorem maxTo_plat (f : Fld) (n : Nat) : (s.maxTo f n).plat = s.plat := rfl

@[simp] theorem setFunc_pending (n v : Nat) : (s.setFunc n v).pending = s.pending := rfl
@[simp] theorem setFunc_cycle (n v : Nat) : (s.setFunc n v).cycle = s.cycle := rfl
@[simp] theorem setFunc_lastStatus (n v : Nat) : (s.setFunc n v).lastStatus = s.lastStatus := rfl
@[simp] theorem setFunc_lastData (n v : Nat) : (s.setFunc n v).lastData = s.lastData := rfl
@[simp] theorem setFunc_die (n v : Nat) : (s.setFunc n v).die = s.die := rfl
@[simp] theorem setFunc_pins (n v : Nat) : (s.setFunc n v).pins = s.pins := rfl
@[simp] theorem setFunc_time (n v : Nat) : (s.setFunc n v).time = s.time := rfl
@[simp] theorem setFunc_stamp (n v : Nat) : (s.setFunc n v).stamp = s.stamp := rfl
@[simp] theorem setFunc_ports (n v : Nat) : (s.setFunc n v).ports = s.ports := rfl
@[simp] theorem setFunc_counters (n v : Nat) : (s.setFunc n v).counters = s.counters := rfl
@[simp] theorem setFunc_events (n v : Nat) : (s.setFunc n v).events = s.events := rfl
@[simp] theorem setFunc_reck (n v : Nat) : (s.setFunc n v).reck = s.reck := rfl
@[simp] theorem setFunc_path (n v : Nat) : (s.setFunc n v).path = s.path := rfl
@[simp] theorem setFunc_rules (n v : Nat) : (s.setFunc n v).rules = s.rules := rfl
@[simp] theorem setFunc_fdb (n v : Nat) : (s.setFunc n v).fdb = s.fdb := rfl
@[simp] theorem setFunc_lpm (n v : Nat) : (s.setFunc n v).lpm = s.lpm := rfl
@[simp] theorem setFunc_flow (n v : Nat) : (s.setFunc n v).flow = s.flow := rfl
@[simp] theorem setFunc_mcast (n v : Nat) : (s.setFunc n v).mcast = s.mcast := rfl
@[simp] theorem setFunc_buf (n v : Nat) : (s.setFunc n v).buf = s.buf := rfl
@[simp] theorem setFunc_tm (n v : Nat) : (s.setFunc n v).tm = s.tm := rfl
@[simp] theorem setFunc_tally (n v : Nat) : (s.setFunc n v).tally = s.tally := rfl
@[simp] theorem setFunc_host (n v : Nat) : (s.setFunc n v).host = s.host := rfl
@[simp] theorem setFunc_dram (n v : Nat) : (s.setFunc n v).dram = s.dram := rfl
@[simp] theorem setFunc_sec (n v : Nat) : (s.setFunc n v).sec = s.sec := rfl
@[simp] theorem setFunc_pair (n v : Nat) : (s.setFunc n v).pair = s.pair := rfl
@[simp] theorem setFunc_span (n v : Nat) : (s.setFunc n v).span = s.span := rfl
@[simp] theorem setFunc_plat (n v : Nat) : (s.setFunc n v).plat = s.plat := rfl

@[simp] theorem resetRegs_pending (p : Nat → Bool) : (s.resetRegs p).pending = s.pending := rfl
@[simp] theorem resetRegs_cycle (p : Nat → Bool) : (s.resetRegs p).cycle = s.cycle := rfl
@[simp] theorem resetRegs_regs (p : Nat → Bool) : (s.resetRegs p).regs = s.regs.filter fun e => !p (e.1 / 32) := rfl
@[simp] theorem resetRegs_lastStatus (p : Nat → Bool) : (s.resetRegs p).lastStatus = s.lastStatus := rfl
@[simp] theorem resetRegs_lastData (p : Nat → Bool) : (s.resetRegs p).lastData = s.lastData := rfl
@[simp] theorem resetRegs_die (p : Nat → Bool) : (s.resetRegs p).die = s.die := rfl
@[simp] theorem resetRegs_pins (p : Nat → Bool) : (s.resetRegs p).pins = s.pins := rfl
@[simp] theorem resetRegs_time (p : Nat → Bool) : (s.resetRegs p).time = s.time := rfl
@[simp] theorem resetRegs_stamp (p : Nat → Bool) : (s.resetRegs p).stamp = s.stamp := rfl
@[simp] theorem resetRegs_ports (p : Nat → Bool) : (s.resetRegs p).ports = s.ports := rfl
@[simp] theorem resetRegs_counters (p : Nat → Bool) : (s.resetRegs p).counters = s.counters := rfl
@[simp] theorem resetRegs_events (p : Nat → Bool) : (s.resetRegs p).events = s.events := rfl
@[simp] theorem resetRegs_reck (p : Nat → Bool) : (s.resetRegs p).reck = s.reck := rfl
@[simp] theorem resetRegs_path (p : Nat → Bool) : (s.resetRegs p).path = s.path := rfl
@[simp] theorem resetRegs_rules (p : Nat → Bool) : (s.resetRegs p).rules = s.rules := rfl
@[simp] theorem resetRegs_fdb (p : Nat → Bool) : (s.resetRegs p).fdb = s.fdb := rfl
@[simp] theorem resetRegs_lpm (p : Nat → Bool) : (s.resetRegs p).lpm = s.lpm := rfl
@[simp] theorem resetRegs_flow (p : Nat → Bool) : (s.resetRegs p).flow = s.flow := rfl
@[simp] theorem resetRegs_mcast (p : Nat → Bool) : (s.resetRegs p).mcast = s.mcast := rfl
@[simp] theorem resetRegs_buf (p : Nat → Bool) : (s.resetRegs p).buf = s.buf := rfl
@[simp] theorem resetRegs_tm (p : Nat → Bool) : (s.resetRegs p).tm = s.tm := rfl
@[simp] theorem resetRegs_tally (p : Nat → Bool) : (s.resetRegs p).tally = s.tally := rfl
@[simp] theorem resetRegs_host (p : Nat → Bool) : (s.resetRegs p).host = s.host := rfl
@[simp] theorem resetRegs_dram (p : Nat → Bool) : (s.resetRegs p).dram = s.dram := rfl
@[simp] theorem resetRegs_sec (p : Nat → Bool) : (s.resetRegs p).sec = s.sec := rfl
@[simp] theorem resetRegs_pair (p : Nat → Bool) : (s.resetRegs p).pair = s.pair := rfl
@[simp] theorem resetRegs_span (p : Nat → Bool) : (s.resetRegs p).span = s.span := rfl
@[simp] theorem resetRegs_plat (p : Nat → Bool) : (s.resetRegs p).plat = s.plat := rfl

@[simp] theorem modPort_pending (p : Nat) (f : PortDyn → PortDyn) : (s.modPort p f).pending = s.pending := rfl
@[simp] theorem modPort_cycle (p : Nat) (f : PortDyn → PortDyn) : (s.modPort p f).cycle = s.cycle := rfl
@[simp] theorem modPort_regs (p : Nat) (f : PortDyn → PortDyn) : (s.modPort p f).regs = s.regs := rfl
@[simp] theorem modPort_lastStatus (p : Nat) (f : PortDyn → PortDyn) : (s.modPort p f).lastStatus = s.lastStatus := rfl
@[simp] theorem modPort_lastData (p : Nat) (f : PortDyn → PortDyn) : (s.modPort p f).lastData = s.lastData := rfl
@[simp] theorem modPort_die (p : Nat) (f : PortDyn → PortDyn) : (s.modPort p f).die = s.die := rfl
@[simp] theorem modPort_pins (p : Nat) (f : PortDyn → PortDyn) : (s.modPort p f).pins = s.pins := rfl
@[simp] theorem modPort_time (p : Nat) (f : PortDyn → PortDyn) : (s.modPort p f).time = s.time := rfl
@[simp] theorem modPort_stamp (p : Nat) (f : PortDyn → PortDyn) : (s.modPort p f).stamp = s.stamp := rfl
@[simp] theorem modPort_ports (p : Nat) (f : PortDyn → PortDyn) : (s.modPort p f).ports = mapMod s.ports p portDyn0 f := rfl
@[simp] theorem modPort_counters (p : Nat) (f : PortDyn → PortDyn) : (s.modPort p f).counters = s.counters := rfl
@[simp] theorem modPort_events (p : Nat) (f : PortDyn → PortDyn) : (s.modPort p f).events = s.events := rfl
@[simp] theorem modPort_reck (p : Nat) (f : PortDyn → PortDyn) : (s.modPort p f).reck = s.reck := rfl
@[simp] theorem modPort_path (p : Nat) (f : PortDyn → PortDyn) : (s.modPort p f).path = s.path := rfl
@[simp] theorem modPort_rules (p : Nat) (f : PortDyn → PortDyn) : (s.modPort p f).rules = s.rules := rfl
@[simp] theorem modPort_fdb (p : Nat) (f : PortDyn → PortDyn) : (s.modPort p f).fdb = s.fdb := rfl
@[simp] theorem modPort_lpm (p : Nat) (f : PortDyn → PortDyn) : (s.modPort p f).lpm = s.lpm := rfl
@[simp] theorem modPort_flow (p : Nat) (f : PortDyn → PortDyn) : (s.modPort p f).flow = s.flow := rfl
@[simp] theorem modPort_mcast (p : Nat) (f : PortDyn → PortDyn) : (s.modPort p f).mcast = s.mcast := rfl
@[simp] theorem modPort_buf (p : Nat) (f : PortDyn → PortDyn) : (s.modPort p f).buf = s.buf := rfl
@[simp] theorem modPort_tm (p : Nat) (f : PortDyn → PortDyn) : (s.modPort p f).tm = s.tm := rfl
@[simp] theorem modPort_tally (p : Nat) (f : PortDyn → PortDyn) : (s.modPort p f).tally = s.tally := rfl
@[simp] theorem modPort_host (p : Nat) (f : PortDyn → PortDyn) : (s.modPort p f).host = s.host := rfl
@[simp] theorem modPort_dram (p : Nat) (f : PortDyn → PortDyn) : (s.modPort p f).dram = s.dram := rfl
@[simp] theorem modPort_sec (p : Nat) (f : PortDyn → PortDyn) : (s.modPort p f).sec = s.sec := rfl
@[simp] theorem modPort_pair (p : Nat) (f : PortDyn → PortDyn) : (s.modPort p f).pair = s.pair := rfl
@[simp] theorem modPort_span (p : Nat) (f : PortDyn → PortDyn) : (s.modPort p f).span = s.span := rfl
@[simp] theorem modPort_plat (p : Nat) (f : PortDyn → PortDyn) : (s.modPort p f).plat = s.plat := rfl

@[simp] theorem modHost_pending (f : HostSt → HostSt) : (s.modHost f).pending = s.pending := rfl
@[simp] theorem modHost_cycle (f : HostSt → HostSt) : (s.modHost f).cycle = s.cycle := rfl
@[simp] theorem modHost_regs (f : HostSt → HostSt) : (s.modHost f).regs = s.regs := rfl
@[simp] theorem modHost_lastStatus (f : HostSt → HostSt) : (s.modHost f).lastStatus = s.lastStatus := rfl
@[simp] theorem modHost_lastData (f : HostSt → HostSt) : (s.modHost f).lastData = s.lastData := rfl
@[simp] theorem modHost_die (f : HostSt → HostSt) : (s.modHost f).die = s.die := rfl
@[simp] theorem modHost_pins (f : HostSt → HostSt) : (s.modHost f).pins = s.pins := rfl
@[simp] theorem modHost_time (f : HostSt → HostSt) : (s.modHost f).time = s.time := rfl
@[simp] theorem modHost_stamp (f : HostSt → HostSt) : (s.modHost f).stamp = s.stamp := rfl
@[simp] theorem modHost_ports (f : HostSt → HostSt) : (s.modHost f).ports = s.ports := rfl
@[simp] theorem modHost_counters (f : HostSt → HostSt) : (s.modHost f).counters = s.counters := rfl
@[simp] theorem modHost_events (f : HostSt → HostSt) : (s.modHost f).events = s.events := rfl
@[simp] theorem modHost_reck (f : HostSt → HostSt) : (s.modHost f).reck = s.reck := rfl
@[simp] theorem modHost_path (f : HostSt → HostSt) : (s.modHost f).path = s.path := rfl
@[simp] theorem modHost_rules (f : HostSt → HostSt) : (s.modHost f).rules = s.rules := rfl
@[simp] theorem modHost_fdb (f : HostSt → HostSt) : (s.modHost f).fdb = s.fdb := rfl
@[simp] theorem modHost_lpm (f : HostSt → HostSt) : (s.modHost f).lpm = s.lpm := rfl
@[simp] theorem modHost_flow (f : HostSt → HostSt) : (s.modHost f).flow = s.flow := rfl
@[simp] theorem modHost_mcast (f : HostSt → HostSt) : (s.modHost f).mcast = s.mcast := rfl
@[simp] theorem modHost_buf (f : HostSt → HostSt) : (s.modHost f).buf = s.buf := rfl
@[simp] theorem modHost_tm (f : HostSt → HostSt) : (s.modHost f).tm = s.tm := rfl
@[simp] theorem modHost_tally (f : HostSt → HostSt) : (s.modHost f).tally = s.tally := rfl
@[simp] theorem modHost_host (f : HostSt → HostSt) : (s.modHost f).host = f s.host := rfl
@[simp] theorem modHost_dram (f : HostSt → HostSt) : (s.modHost f).dram = s.dram := rfl
@[simp] theorem modHost_sec (f : HostSt → HostSt) : (s.modHost f).sec = s.sec := rfl
@[simp] theorem modHost_pair (f : HostSt → HostSt) : (s.modHost f).pair = s.pair := rfl
@[simp] theorem modHost_span (f : HostSt → HostSt) : (s.modHost f).span = s.span := rfl
@[simp] theorem modHost_plat (f : HostSt → HostSt) : (s.modHost f).plat = s.plat := rfl

@[simp] theorem modRing_pending (n : Nat) (f : RingDyn → RingDyn) : (s.modRing n f).pending = s.pending := rfl
@[simp] theorem modRing_cycle (n : Nat) (f : RingDyn → RingDyn) : (s.modRing n f).cycle = s.cycle := rfl
@[simp] theorem modRing_regs (n : Nat) (f : RingDyn → RingDyn) : (s.modRing n f).regs = s.regs := rfl
@[simp] theorem modRing_lastStatus (n : Nat) (f : RingDyn → RingDyn) : (s.modRing n f).lastStatus = s.lastStatus := rfl
@[simp] theorem modRing_lastData (n : Nat) (f : RingDyn → RingDyn) : (s.modRing n f).lastData = s.lastData := rfl
@[simp] theorem modRing_die (n : Nat) (f : RingDyn → RingDyn) : (s.modRing n f).die = s.die := rfl
@[simp] theorem modRing_pins (n : Nat) (f : RingDyn → RingDyn) : (s.modRing n f).pins = s.pins := rfl
@[simp] theorem modRing_time (n : Nat) (f : RingDyn → RingDyn) : (s.modRing n f).time = s.time := rfl
@[simp] theorem modRing_stamp (n : Nat) (f : RingDyn → RingDyn) : (s.modRing n f).stamp = s.stamp := rfl
@[simp] theorem modRing_ports (n : Nat) (f : RingDyn → RingDyn) : (s.modRing n f).ports = s.ports := rfl
@[simp] theorem modRing_counters (n : Nat) (f : RingDyn → RingDyn) : (s.modRing n f).counters = s.counters := rfl
@[simp] theorem modRing_events (n : Nat) (f : RingDyn → RingDyn) : (s.modRing n f).events = s.events := rfl
@[simp] theorem modRing_reck (n : Nat) (f : RingDyn → RingDyn) : (s.modRing n f).reck = s.reck := rfl
@[simp] theorem modRing_path (n : Nat) (f : RingDyn → RingDyn) : (s.modRing n f).path = s.path := rfl
@[simp] theorem modRing_rules (n : Nat) (f : RingDyn → RingDyn) : (s.modRing n f).rules = s.rules := rfl
@[simp] theorem modRing_fdb (n : Nat) (f : RingDyn → RingDyn) : (s.modRing n f).fdb = s.fdb := rfl
@[simp] theorem modRing_lpm (n : Nat) (f : RingDyn → RingDyn) : (s.modRing n f).lpm = s.lpm := rfl
@[simp] theorem modRing_flow (n : Nat) (f : RingDyn → RingDyn) : (s.modRing n f).flow = s.flow := rfl
@[simp] theorem modRing_mcast (n : Nat) (f : RingDyn → RingDyn) : (s.modRing n f).mcast = s.mcast := rfl
@[simp] theorem modRing_buf (n : Nat) (f : RingDyn → RingDyn) : (s.modRing n f).buf = s.buf := rfl
@[simp] theorem modRing_tm (n : Nat) (f : RingDyn → RingDyn) : (s.modRing n f).tm = s.tm := rfl
@[simp] theorem modRing_tally (n : Nat) (f : RingDyn → RingDyn) : (s.modRing n f).tally = s.tally := rfl
@[simp] theorem modRing_host (n : Nat) (f : RingDyn → RingDyn) : (s.modRing n f).host = { s.host with rings := mapMod s.host.rings n ring0 f } := rfl
@[simp] theorem modRing_dram (n : Nat) (f : RingDyn → RingDyn) : (s.modRing n f).dram = s.dram := rfl
@[simp] theorem modRing_sec (n : Nat) (f : RingDyn → RingDyn) : (s.modRing n f).sec = s.sec := rfl
@[simp] theorem modRing_pair (n : Nat) (f : RingDyn → RingDyn) : (s.modRing n f).pair = s.pair := rfl
@[simp] theorem modRing_span (n : Nat) (f : RingDyn → RingDyn) : (s.modRing n f).span = s.span := rfl
@[simp] theorem modRing_plat (n : Nat) (f : RingDyn → RingDyn) : (s.modRing n f).plat = s.plat := rfl

@[simp] theorem modPath_pending (f : PathSt → PathSt) : (s.modPath f).pending = s.pending := rfl
@[simp] theorem modPath_cycle (f : PathSt → PathSt) : (s.modPath f).cycle = s.cycle := rfl
@[simp] theorem modPath_regs (f : PathSt → PathSt) : (s.modPath f).regs = s.regs := rfl
@[simp] theorem modPath_lastStatus (f : PathSt → PathSt) : (s.modPath f).lastStatus = s.lastStatus := rfl
@[simp] theorem modPath_lastData (f : PathSt → PathSt) : (s.modPath f).lastData = s.lastData := rfl
@[simp] theorem modPath_die (f : PathSt → PathSt) : (s.modPath f).die = s.die := rfl
@[simp] theorem modPath_pins (f : PathSt → PathSt) : (s.modPath f).pins = s.pins := rfl
@[simp] theorem modPath_time (f : PathSt → PathSt) : (s.modPath f).time = s.time := rfl
@[simp] theorem modPath_stamp (f : PathSt → PathSt) : (s.modPath f).stamp = s.stamp := rfl
@[simp] theorem modPath_ports (f : PathSt → PathSt) : (s.modPath f).ports = s.ports := rfl
@[simp] theorem modPath_counters (f : PathSt → PathSt) : (s.modPath f).counters = s.counters := rfl
@[simp] theorem modPath_events (f : PathSt → PathSt) : (s.modPath f).events = s.events := rfl
@[simp] theorem modPath_reck (f : PathSt → PathSt) : (s.modPath f).reck = s.reck := rfl
@[simp] theorem modPath_path (f : PathSt → PathSt) : (s.modPath f).path = f s.path := rfl
@[simp] theorem modPath_rules (f : PathSt → PathSt) : (s.modPath f).rules = s.rules := rfl
@[simp] theorem modPath_fdb (f : PathSt → PathSt) : (s.modPath f).fdb = s.fdb := rfl
@[simp] theorem modPath_lpm (f : PathSt → PathSt) : (s.modPath f).lpm = s.lpm := rfl
@[simp] theorem modPath_flow (f : PathSt → PathSt) : (s.modPath f).flow = s.flow := rfl
@[simp] theorem modPath_mcast (f : PathSt → PathSt) : (s.modPath f).mcast = s.mcast := rfl
@[simp] theorem modPath_buf (f : PathSt → PathSt) : (s.modPath f).buf = s.buf := rfl
@[simp] theorem modPath_tm (f : PathSt → PathSt) : (s.modPath f).tm = s.tm := rfl
@[simp] theorem modPath_tally (f : PathSt → PathSt) : (s.modPath f).tally = s.tally := rfl
@[simp] theorem modPath_host (f : PathSt → PathSt) : (s.modPath f).host = s.host := rfl
@[simp] theorem modPath_dram (f : PathSt → PathSt) : (s.modPath f).dram = s.dram := rfl
@[simp] theorem modPath_sec (f : PathSt → PathSt) : (s.modPath f).sec = s.sec := rfl
@[simp] theorem modPath_pair (f : PathSt → PathSt) : (s.modPath f).pair = s.pair := rfl
@[simp] theorem modPath_span (f : PathSt → PathSt) : (s.modPath f).span = s.span := rfl
@[simp] theorem modPath_plat (f : PathSt → PathSt) : (s.modPath f).plat = s.plat := rfl

@[simp] theorem setFrame_pending (f : Nat) (x : Frame) : (s.setFrame f x).pending = s.pending := rfl
@[simp] theorem setFrame_cycle (f : Nat) (x : Frame) : (s.setFrame f x).cycle = s.cycle := rfl
@[simp] theorem setFrame_regs (f : Nat) (x : Frame) : (s.setFrame f x).regs = s.regs := rfl
@[simp] theorem setFrame_lastStatus (f : Nat) (x : Frame) : (s.setFrame f x).lastStatus = s.lastStatus := rfl
@[simp] theorem setFrame_lastData (f : Nat) (x : Frame) : (s.setFrame f x).lastData = s.lastData := rfl
@[simp] theorem setFrame_die (f : Nat) (x : Frame) : (s.setFrame f x).die = s.die := rfl
@[simp] theorem setFrame_pins (f : Nat) (x : Frame) : (s.setFrame f x).pins = s.pins := rfl
@[simp] theorem setFrame_time (f : Nat) (x : Frame) : (s.setFrame f x).time = s.time := rfl
@[simp] theorem setFrame_stamp (f : Nat) (x : Frame) : (s.setFrame f x).stamp = s.stamp := rfl
@[simp] theorem setFrame_ports (f : Nat) (x : Frame) : (s.setFrame f x).ports = s.ports := rfl
@[simp] theorem setFrame_counters (f : Nat) (x : Frame) : (s.setFrame f x).counters = s.counters := rfl
@[simp] theorem setFrame_events (f : Nat) (x : Frame) : (s.setFrame f x).events = s.events := rfl
@[simp] theorem setFrame_reck (f : Nat) (x : Frame) : (s.setFrame f x).reck = s.reck := rfl
@[simp] theorem setFrame_path (f : Nat) (x : Frame) : (s.setFrame f x).path = { s.path with frames := mapPut s.path.frames f x } := rfl
@[simp] theorem setFrame_rules (f : Nat) (x : Frame) : (s.setFrame f x).rules = s.rules := rfl
@[simp] theorem setFrame_fdb (f : Nat) (x : Frame) : (s.setFrame f x).fdb = s.fdb := rfl
@[simp] theorem setFrame_lpm (f : Nat) (x : Frame) : (s.setFrame f x).lpm = s.lpm := rfl
@[simp] theorem setFrame_flow (f : Nat) (x : Frame) : (s.setFrame f x).flow = s.flow := rfl
@[simp] theorem setFrame_mcast (f : Nat) (x : Frame) : (s.setFrame f x).mcast = s.mcast := rfl
@[simp] theorem setFrame_buf (f : Nat) (x : Frame) : (s.setFrame f x).buf = s.buf := rfl
@[simp] theorem setFrame_tm (f : Nat) (x : Frame) : (s.setFrame f x).tm = s.tm := rfl
@[simp] theorem setFrame_tally (f : Nat) (x : Frame) : (s.setFrame f x).tally = s.tally := rfl
@[simp] theorem setFrame_host (f : Nat) (x : Frame) : (s.setFrame f x).host = s.host := rfl
@[simp] theorem setFrame_dram (f : Nat) (x : Frame) : (s.setFrame f x).dram = s.dram := rfl
@[simp] theorem setFrame_sec (f : Nat) (x : Frame) : (s.setFrame f x).sec = s.sec := rfl
@[simp] theorem setFrame_pair (f : Nat) (x : Frame) : (s.setFrame f x).pair = s.pair := rfl
@[simp] theorem setFrame_span (f : Nat) (x : Frame) : (s.setFrame f x).span = s.span := rfl
@[simp] theorem setFrame_plat (f : Nat) (x : Frame) : (s.setFrame f x).plat = s.plat := rfl

@[simp] theorem setCopy_pending (c : Nat) (x : Copy) : (s.setCopy c x).pending = s.pending := rfl
@[simp] theorem setCopy_cycle (c : Nat) (x : Copy) : (s.setCopy c x).cycle = s.cycle := rfl
@[simp] theorem setCopy_regs (c : Nat) (x : Copy) : (s.setCopy c x).regs = s.regs := rfl
@[simp] theorem setCopy_lastStatus (c : Nat) (x : Copy) : (s.setCopy c x).lastStatus = s.lastStatus := rfl
@[simp] theorem setCopy_lastData (c : Nat) (x : Copy) : (s.setCopy c x).lastData = s.lastData := rfl
@[simp] theorem setCopy_die (c : Nat) (x : Copy) : (s.setCopy c x).die = s.die := rfl
@[simp] theorem setCopy_pins (c : Nat) (x : Copy) : (s.setCopy c x).pins = s.pins := rfl
@[simp] theorem setCopy_time (c : Nat) (x : Copy) : (s.setCopy c x).time = s.time := rfl
@[simp] theorem setCopy_stamp (c : Nat) (x : Copy) : (s.setCopy c x).stamp = s.stamp := rfl
@[simp] theorem setCopy_ports (c : Nat) (x : Copy) : (s.setCopy c x).ports = s.ports := rfl
@[simp] theorem setCopy_counters (c : Nat) (x : Copy) : (s.setCopy c x).counters = s.counters := rfl
@[simp] theorem setCopy_events (c : Nat) (x : Copy) : (s.setCopy c x).events = s.events := rfl
@[simp] theorem setCopy_reck (c : Nat) (x : Copy) : (s.setCopy c x).reck = s.reck := rfl
@[simp] theorem setCopy_path (c : Nat) (x : Copy) : (s.setCopy c x).path = { s.path with copies := mapPut s.path.copies c x } := rfl
@[simp] theorem setCopy_rules (c : Nat) (x : Copy) : (s.setCopy c x).rules = s.rules := rfl
@[simp] theorem setCopy_fdb (c : Nat) (x : Copy) : (s.setCopy c x).fdb = s.fdb := rfl
@[simp] theorem setCopy_lpm (c : Nat) (x : Copy) : (s.setCopy c x).lpm = s.lpm := rfl
@[simp] theorem setCopy_flow (c : Nat) (x : Copy) : (s.setCopy c x).flow = s.flow := rfl
@[simp] theorem setCopy_mcast (c : Nat) (x : Copy) : (s.setCopy c x).mcast = s.mcast := rfl
@[simp] theorem setCopy_buf (c : Nat) (x : Copy) : (s.setCopy c x).buf = s.buf := rfl
@[simp] theorem setCopy_tm (c : Nat) (x : Copy) : (s.setCopy c x).tm = s.tm := rfl
@[simp] theorem setCopy_tally (c : Nat) (x : Copy) : (s.setCopy c x).tally = s.tally := rfl
@[simp] theorem setCopy_host (c : Nat) (x : Copy) : (s.setCopy c x).host = s.host := rfl
@[simp] theorem setCopy_dram (c : Nat) (x : Copy) : (s.setCopy c x).dram = s.dram := rfl
@[simp] theorem setCopy_sec (c : Nat) (x : Copy) : (s.setCopy c x).sec = s.sec := rfl
@[simp] theorem setCopy_pair (c : Nat) (x : Copy) : (s.setCopy c x).pair = s.pair := rfl
@[simp] theorem setCopy_span (c : Nat) (x : Copy) : (s.setCopy c x).span = s.span := rfl
@[simp] theorem setCopy_plat (c : Nat) (x : Copy) : (s.setCopy c x).plat = s.plat := rfl

@[simp] theorem modTally_pending (f : TallySt → TallySt) : (s.modTally f).pending = s.pending := rfl
@[simp] theorem modTally_cycle (f : TallySt → TallySt) : (s.modTally f).cycle = s.cycle := rfl
@[simp] theorem modTally_regs (f : TallySt → TallySt) : (s.modTally f).regs = s.regs := rfl
@[simp] theorem modTally_lastStatus (f : TallySt → TallySt) : (s.modTally f).lastStatus = s.lastStatus := rfl
@[simp] theorem modTally_lastData (f : TallySt → TallySt) : (s.modTally f).lastData = s.lastData := rfl
@[simp] theorem modTally_die (f : TallySt → TallySt) : (s.modTally f).die = s.die := rfl
@[simp] theorem modTally_pins (f : TallySt → TallySt) : (s.modTally f).pins = s.pins := rfl
@[simp] theorem modTally_time (f : TallySt → TallySt) : (s.modTally f).time = s.time := rfl
@[simp] theorem modTally_stamp (f : TallySt → TallySt) : (s.modTally f).stamp = s.stamp := rfl
@[simp] theorem modTally_ports (f : TallySt → TallySt) : (s.modTally f).ports = s.ports := rfl
@[simp] theorem modTally_counters (f : TallySt → TallySt) : (s.modTally f).counters = s.counters := rfl
@[simp] theorem modTally_events (f : TallySt → TallySt) : (s.modTally f).events = s.events := rfl
@[simp] theorem modTally_reck (f : TallySt → TallySt) : (s.modTally f).reck = s.reck := rfl
@[simp] theorem modTally_path (f : TallySt → TallySt) : (s.modTally f).path = s.path := rfl
@[simp] theorem modTally_rules (f : TallySt → TallySt) : (s.modTally f).rules = s.rules := rfl
@[simp] theorem modTally_fdb (f : TallySt → TallySt) : (s.modTally f).fdb = s.fdb := rfl
@[simp] theorem modTally_lpm (f : TallySt → TallySt) : (s.modTally f).lpm = s.lpm := rfl
@[simp] theorem modTally_flow (f : TallySt → TallySt) : (s.modTally f).flow = s.flow := rfl
@[simp] theorem modTally_mcast (f : TallySt → TallySt) : (s.modTally f).mcast = s.mcast := rfl
@[simp] theorem modTally_buf (f : TallySt → TallySt) : (s.modTally f).buf = s.buf := rfl
@[simp] theorem modTally_tm (f : TallySt → TallySt) : (s.modTally f).tm = s.tm := rfl
@[simp] theorem modTally_tally (f : TallySt → TallySt) : (s.modTally f).tally = f s.tally := rfl
@[simp] theorem modTally_host (f : TallySt → TallySt) : (s.modTally f).host = s.host := rfl
@[simp] theorem modTally_dram (f : TallySt → TallySt) : (s.modTally f).dram = s.dram := rfl
@[simp] theorem modTally_sec (f : TallySt → TallySt) : (s.modTally f).sec = s.sec := rfl
@[simp] theorem modTally_pair (f : TallySt → TallySt) : (s.modTally f).pair = s.pair := rfl
@[simp] theorem modTally_span (f : TallySt → TallySt) : (s.modTally f).span = s.span := rfl
@[simp] theorem modTally_plat (f : TallySt → TallySt) : (s.modTally f).plat = s.plat := rfl

@[simp] theorem modPair_pending (f : PairSt → PairSt) : (s.modPair f).pending = s.pending := rfl
@[simp] theorem modPair_cycle (f : PairSt → PairSt) : (s.modPair f).cycle = s.cycle := rfl
@[simp] theorem modPair_regs (f : PairSt → PairSt) : (s.modPair f).regs = s.regs := rfl
@[simp] theorem modPair_lastStatus (f : PairSt → PairSt) : (s.modPair f).lastStatus = s.lastStatus := rfl
@[simp] theorem modPair_lastData (f : PairSt → PairSt) : (s.modPair f).lastData = s.lastData := rfl
@[simp] theorem modPair_die (f : PairSt → PairSt) : (s.modPair f).die = s.die := rfl
@[simp] theorem modPair_pins (f : PairSt → PairSt) : (s.modPair f).pins = s.pins := rfl
@[simp] theorem modPair_time (f : PairSt → PairSt) : (s.modPair f).time = s.time := rfl
@[simp] theorem modPair_stamp (f : PairSt → PairSt) : (s.modPair f).stamp = s.stamp := rfl
@[simp] theorem modPair_ports (f : PairSt → PairSt) : (s.modPair f).ports = s.ports := rfl
@[simp] theorem modPair_counters (f : PairSt → PairSt) : (s.modPair f).counters = s.counters := rfl
@[simp] theorem modPair_events (f : PairSt → PairSt) : (s.modPair f).events = s.events := rfl
@[simp] theorem modPair_reck (f : PairSt → PairSt) : (s.modPair f).reck = s.reck := rfl
@[simp] theorem modPair_path (f : PairSt → PairSt) : (s.modPair f).path = s.path := rfl
@[simp] theorem modPair_rules (f : PairSt → PairSt) : (s.modPair f).rules = s.rules := rfl
@[simp] theorem modPair_fdb (f : PairSt → PairSt) : (s.modPair f).fdb = s.fdb := rfl
@[simp] theorem modPair_lpm (f : PairSt → PairSt) : (s.modPair f).lpm = s.lpm := rfl
@[simp] theorem modPair_flow (f : PairSt → PairSt) : (s.modPair f).flow = s.flow := rfl
@[simp] theorem modPair_mcast (f : PairSt → PairSt) : (s.modPair f).mcast = s.mcast := rfl
@[simp] theorem modPair_buf (f : PairSt → PairSt) : (s.modPair f).buf = s.buf := rfl
@[simp] theorem modPair_tm (f : PairSt → PairSt) : (s.modPair f).tm = s.tm := rfl
@[simp] theorem modPair_tally (f : PairSt → PairSt) : (s.modPair f).tally = s.tally := rfl
@[simp] theorem modPair_host (f : PairSt → PairSt) : (s.modPair f).host = s.host := rfl
@[simp] theorem modPair_dram (f : PairSt → PairSt) : (s.modPair f).dram = s.dram := rfl
@[simp] theorem modPair_sec (f : PairSt → PairSt) : (s.modPair f).sec = s.sec := rfl
@[simp] theorem modPair_pair (f : PairSt → PairSt) : (s.modPair f).pair = f s.pair := rfl
@[simp] theorem modPair_span (f : PairSt → PairSt) : (s.modPair f).span = s.span := rfl
@[simp] theorem modPair_plat (f : PairSt → PairSt) : (s.modPair f).plat = s.plat := rfl

@[simp] theorem modPlat_pending (f : PlatSt → PlatSt) : (s.modPlat f).pending = s.pending := rfl
@[simp] theorem modPlat_cycle (f : PlatSt → PlatSt) : (s.modPlat f).cycle = s.cycle := rfl
@[simp] theorem modPlat_regs (f : PlatSt → PlatSt) : (s.modPlat f).regs = s.regs := rfl
@[simp] theorem modPlat_lastStatus (f : PlatSt → PlatSt) : (s.modPlat f).lastStatus = s.lastStatus := rfl
@[simp] theorem modPlat_lastData (f : PlatSt → PlatSt) : (s.modPlat f).lastData = s.lastData := rfl
@[simp] theorem modPlat_die (f : PlatSt → PlatSt) : (s.modPlat f).die = s.die := rfl
@[simp] theorem modPlat_pins (f : PlatSt → PlatSt) : (s.modPlat f).pins = s.pins := rfl
@[simp] theorem modPlat_time (f : PlatSt → PlatSt) : (s.modPlat f).time = s.time := rfl
@[simp] theorem modPlat_stamp (f : PlatSt → PlatSt) : (s.modPlat f).stamp = s.stamp := rfl
@[simp] theorem modPlat_ports (f : PlatSt → PlatSt) : (s.modPlat f).ports = s.ports := rfl
@[simp] theorem modPlat_counters (f : PlatSt → PlatSt) : (s.modPlat f).counters = s.counters := rfl
@[simp] theorem modPlat_events (f : PlatSt → PlatSt) : (s.modPlat f).events = s.events := rfl
@[simp] theorem modPlat_reck (f : PlatSt → PlatSt) : (s.modPlat f).reck = s.reck := rfl
@[simp] theorem modPlat_path (f : PlatSt → PlatSt) : (s.modPlat f).path = s.path := rfl
@[simp] theorem modPlat_rules (f : PlatSt → PlatSt) : (s.modPlat f).rules = s.rules := rfl
@[simp] theorem modPlat_fdb (f : PlatSt → PlatSt) : (s.modPlat f).fdb = s.fdb := rfl
@[simp] theorem modPlat_lpm (f : PlatSt → PlatSt) : (s.modPlat f).lpm = s.lpm := rfl
@[simp] theorem modPlat_flow (f : PlatSt → PlatSt) : (s.modPlat f).flow = s.flow := rfl
@[simp] theorem modPlat_mcast (f : PlatSt → PlatSt) : (s.modPlat f).mcast = s.mcast := rfl
@[simp] theorem modPlat_buf (f : PlatSt → PlatSt) : (s.modPlat f).buf = s.buf := rfl
@[simp] theorem modPlat_tm (f : PlatSt → PlatSt) : (s.modPlat f).tm = s.tm := rfl
@[simp] theorem modPlat_tally (f : PlatSt → PlatSt) : (s.modPlat f).tally = s.tally := rfl
@[simp] theorem modPlat_host (f : PlatSt → PlatSt) : (s.modPlat f).host = s.host := rfl
@[simp] theorem modPlat_dram (f : PlatSt → PlatSt) : (s.modPlat f).dram = s.dram := rfl
@[simp] theorem modPlat_sec (f : PlatSt → PlatSt) : (s.modPlat f).sec = s.sec := rfl
@[simp] theorem modPlat_pair (f : PlatSt → PlatSt) : (s.modPlat f).pair = s.pair := rfl
@[simp] theorem modPlat_span (f : PlatSt → PlatSt) : (s.modPlat f).span = s.span := rfl
@[simp] theorem modPlat_plat (f : PlatSt → PlatSt) : (s.modPlat f).plat = f s.plat := rfl

@[simp] theorem modDram_pending (f : DramSt → DramSt) : (s.modDram f).pending = s.pending := rfl
@[simp] theorem modDram_cycle (f : DramSt → DramSt) : (s.modDram f).cycle = s.cycle := rfl
@[simp] theorem modDram_regs (f : DramSt → DramSt) : (s.modDram f).regs = s.regs := rfl
@[simp] theorem modDram_lastStatus (f : DramSt → DramSt) : (s.modDram f).lastStatus = s.lastStatus := rfl
@[simp] theorem modDram_lastData (f : DramSt → DramSt) : (s.modDram f).lastData = s.lastData := rfl
@[simp] theorem modDram_die (f : DramSt → DramSt) : (s.modDram f).die = s.die := rfl
@[simp] theorem modDram_pins (f : DramSt → DramSt) : (s.modDram f).pins = s.pins := rfl
@[simp] theorem modDram_time (f : DramSt → DramSt) : (s.modDram f).time = s.time := rfl
@[simp] theorem modDram_stamp (f : DramSt → DramSt) : (s.modDram f).stamp = s.stamp := rfl
@[simp] theorem modDram_ports (f : DramSt → DramSt) : (s.modDram f).ports = s.ports := rfl
@[simp] theorem modDram_counters (f : DramSt → DramSt) : (s.modDram f).counters = s.counters := rfl
@[simp] theorem modDram_events (f : DramSt → DramSt) : (s.modDram f).events = s.events := rfl
@[simp] theorem modDram_reck (f : DramSt → DramSt) : (s.modDram f).reck = s.reck := rfl
@[simp] theorem modDram_path (f : DramSt → DramSt) : (s.modDram f).path = s.path := rfl
@[simp] theorem modDram_rules (f : DramSt → DramSt) : (s.modDram f).rules = s.rules := rfl
@[simp] theorem modDram_fdb (f : DramSt → DramSt) : (s.modDram f).fdb = s.fdb := rfl
@[simp] theorem modDram_lpm (f : DramSt → DramSt) : (s.modDram f).lpm = s.lpm := rfl
@[simp] theorem modDram_flow (f : DramSt → DramSt) : (s.modDram f).flow = s.flow := rfl
@[simp] theorem modDram_mcast (f : DramSt → DramSt) : (s.modDram f).mcast = s.mcast := rfl
@[simp] theorem modDram_buf (f : DramSt → DramSt) : (s.modDram f).buf = s.buf := rfl
@[simp] theorem modDram_tm (f : DramSt → DramSt) : (s.modDram f).tm = s.tm := rfl
@[simp] theorem modDram_tally (f : DramSt → DramSt) : (s.modDram f).tally = s.tally := rfl
@[simp] theorem modDram_host (f : DramSt → DramSt) : (s.modDram f).host = s.host := rfl
@[simp] theorem modDram_dram (f : DramSt → DramSt) : (s.modDram f).dram = f s.dram := rfl
@[simp] theorem modDram_sec (f : DramSt → DramSt) : (s.modDram f).sec = s.sec := rfl
@[simp] theorem modDram_pair (f : DramSt → DramSt) : (s.modDram f).pair = s.pair := rfl
@[simp] theorem modDram_span (f : DramSt → DramSt) : (s.modDram f).span = s.span := rfl
@[simp] theorem modDram_plat (f : DramSt → DramSt) : (s.modDram f).plat = s.plat := rfl

@[simp] theorem modStamp_pending (f : StampSt → StampSt) : (s.modStamp f).pending = s.pending := rfl
@[simp] theorem modStamp_cycle (f : StampSt → StampSt) : (s.modStamp f).cycle = s.cycle := rfl
@[simp] theorem modStamp_regs (f : StampSt → StampSt) : (s.modStamp f).regs = s.regs := rfl
@[simp] theorem modStamp_lastStatus (f : StampSt → StampSt) : (s.modStamp f).lastStatus = s.lastStatus := rfl
@[simp] theorem modStamp_lastData (f : StampSt → StampSt) : (s.modStamp f).lastData = s.lastData := rfl
@[simp] theorem modStamp_die (f : StampSt → StampSt) : (s.modStamp f).die = s.die := rfl
@[simp] theorem modStamp_pins (f : StampSt → StampSt) : (s.modStamp f).pins = s.pins := rfl
@[simp] theorem modStamp_time (f : StampSt → StampSt) : (s.modStamp f).time = s.time := rfl
@[simp] theorem modStamp_stamp (f : StampSt → StampSt) : (s.modStamp f).stamp = f s.stamp := rfl
@[simp] theorem modStamp_ports (f : StampSt → StampSt) : (s.modStamp f).ports = s.ports := rfl
@[simp] theorem modStamp_counters (f : StampSt → StampSt) : (s.modStamp f).counters = s.counters := rfl
@[simp] theorem modStamp_events (f : StampSt → StampSt) : (s.modStamp f).events = s.events := rfl
@[simp] theorem modStamp_reck (f : StampSt → StampSt) : (s.modStamp f).reck = s.reck := rfl
@[simp] theorem modStamp_path (f : StampSt → StampSt) : (s.modStamp f).path = s.path := rfl
@[simp] theorem modStamp_rules (f : StampSt → StampSt) : (s.modStamp f).rules = s.rules := rfl
@[simp] theorem modStamp_fdb (f : StampSt → StampSt) : (s.modStamp f).fdb = s.fdb := rfl
@[simp] theorem modStamp_lpm (f : StampSt → StampSt) : (s.modStamp f).lpm = s.lpm := rfl
@[simp] theorem modStamp_flow (f : StampSt → StampSt) : (s.modStamp f).flow = s.flow := rfl
@[simp] theorem modStamp_mcast (f : StampSt → StampSt) : (s.modStamp f).mcast = s.mcast := rfl
@[simp] theorem modStamp_buf (f : StampSt → StampSt) : (s.modStamp f).buf = s.buf := rfl
@[simp] theorem modStamp_tm (f : StampSt → StampSt) : (s.modStamp f).tm = s.tm := rfl
@[simp] theorem modStamp_tally (f : StampSt → StampSt) : (s.modStamp f).tally = s.tally := rfl
@[simp] theorem modStamp_host (f : StampSt → StampSt) : (s.modStamp f).host = s.host := rfl
@[simp] theorem modStamp_dram (f : StampSt → StampSt) : (s.modStamp f).dram = s.dram := rfl
@[simp] theorem modStamp_sec (f : StampSt → StampSt) : (s.modStamp f).sec = s.sec := rfl
@[simp] theorem modStamp_pair (f : StampSt → StampSt) : (s.modStamp f).pair = s.pair := rfl
@[simp] theorem modStamp_span (f : StampSt → StampSt) : (s.modStamp f).span = s.span := rfl
@[simp] theorem modStamp_plat (f : StampSt → StampSt) : (s.modStamp f).plat = s.plat := rfl

@[simp] theorem modTm_pending (f : TmSt → TmSt) : (s.modTm f).pending = s.pending := rfl
@[simp] theorem modTm_cycle (f : TmSt → TmSt) : (s.modTm f).cycle = s.cycle := rfl
@[simp] theorem modTm_regs (f : TmSt → TmSt) : (s.modTm f).regs = s.regs := rfl
@[simp] theorem modTm_lastStatus (f : TmSt → TmSt) : (s.modTm f).lastStatus = s.lastStatus := rfl
@[simp] theorem modTm_lastData (f : TmSt → TmSt) : (s.modTm f).lastData = s.lastData := rfl
@[simp] theorem modTm_die (f : TmSt → TmSt) : (s.modTm f).die = s.die := rfl
@[simp] theorem modTm_pins (f : TmSt → TmSt) : (s.modTm f).pins = s.pins := rfl
@[simp] theorem modTm_time (f : TmSt → TmSt) : (s.modTm f).time = s.time := rfl
@[simp] theorem modTm_stamp (f : TmSt → TmSt) : (s.modTm f).stamp = s.stamp := rfl
@[simp] theorem modTm_ports (f : TmSt → TmSt) : (s.modTm f).ports = s.ports := rfl
@[simp] theorem modTm_counters (f : TmSt → TmSt) : (s.modTm f).counters = s.counters := rfl
@[simp] theorem modTm_events (f : TmSt → TmSt) : (s.modTm f).events = s.events := rfl
@[simp] theorem modTm_reck (f : TmSt → TmSt) : (s.modTm f).reck = s.reck := rfl
@[simp] theorem modTm_path (f : TmSt → TmSt) : (s.modTm f).path = s.path := rfl
@[simp] theorem modTm_rules (f : TmSt → TmSt) : (s.modTm f).rules = s.rules := rfl
@[simp] theorem modTm_fdb (f : TmSt → TmSt) : (s.modTm f).fdb = s.fdb := rfl
@[simp] theorem modTm_lpm (f : TmSt → TmSt) : (s.modTm f).lpm = s.lpm := rfl
@[simp] theorem modTm_flow (f : TmSt → TmSt) : (s.modTm f).flow = s.flow := rfl
@[simp] theorem modTm_mcast (f : TmSt → TmSt) : (s.modTm f).mcast = s.mcast := rfl
@[simp] theorem modTm_buf (f : TmSt → TmSt) : (s.modTm f).buf = s.buf := rfl
@[simp] theorem modTm_tm (f : TmSt → TmSt) : (s.modTm f).tm = f s.tm := rfl
@[simp] theorem modTm_tally (f : TmSt → TmSt) : (s.modTm f).tally = s.tally := rfl
@[simp] theorem modTm_host (f : TmSt → TmSt) : (s.modTm f).host = s.host := rfl
@[simp] theorem modTm_dram (f : TmSt → TmSt) : (s.modTm f).dram = s.dram := rfl
@[simp] theorem modTm_sec (f : TmSt → TmSt) : (s.modTm f).sec = s.sec := rfl
@[simp] theorem modTm_pair (f : TmSt → TmSt) : (s.modTm f).pair = s.pair := rfl
@[simp] theorem modTm_span (f : TmSt → TmSt) : (s.modTm f).span = s.span := rfl
@[simp] theorem modTm_plat (f : TmSt → TmSt) : (s.modTm f).plat = s.plat := rfl

@[simp] theorem modBuf_pending (f : BufSt → BufSt) : (s.modBuf f).pending = s.pending := rfl
@[simp] theorem modBuf_cycle (f : BufSt → BufSt) : (s.modBuf f).cycle = s.cycle := rfl
@[simp] theorem modBuf_regs (f : BufSt → BufSt) : (s.modBuf f).regs = s.regs := rfl
@[simp] theorem modBuf_lastStatus (f : BufSt → BufSt) : (s.modBuf f).lastStatus = s.lastStatus := rfl
@[simp] theorem modBuf_lastData (f : BufSt → BufSt) : (s.modBuf f).lastData = s.lastData := rfl
@[simp] theorem modBuf_die (f : BufSt → BufSt) : (s.modBuf f).die = s.die := rfl
@[simp] theorem modBuf_pins (f : BufSt → BufSt) : (s.modBuf f).pins = s.pins := rfl
@[simp] theorem modBuf_time (f : BufSt → BufSt) : (s.modBuf f).time = s.time := rfl
@[simp] theorem modBuf_stamp (f : BufSt → BufSt) : (s.modBuf f).stamp = s.stamp := rfl
@[simp] theorem modBuf_ports (f : BufSt → BufSt) : (s.modBuf f).ports = s.ports := rfl
@[simp] theorem modBuf_counters (f : BufSt → BufSt) : (s.modBuf f).counters = s.counters := rfl
@[simp] theorem modBuf_events (f : BufSt → BufSt) : (s.modBuf f).events = s.events := rfl
@[simp] theorem modBuf_reck (f : BufSt → BufSt) : (s.modBuf f).reck = s.reck := rfl
@[simp] theorem modBuf_path (f : BufSt → BufSt) : (s.modBuf f).path = s.path := rfl
@[simp] theorem modBuf_rules (f : BufSt → BufSt) : (s.modBuf f).rules = s.rules := rfl
@[simp] theorem modBuf_fdb (f : BufSt → BufSt) : (s.modBuf f).fdb = s.fdb := rfl
@[simp] theorem modBuf_lpm (f : BufSt → BufSt) : (s.modBuf f).lpm = s.lpm := rfl
@[simp] theorem modBuf_flow (f : BufSt → BufSt) : (s.modBuf f).flow = s.flow := rfl
@[simp] theorem modBuf_mcast (f : BufSt → BufSt) : (s.modBuf f).mcast = s.mcast := rfl
@[simp] theorem modBuf_buf (f : BufSt → BufSt) : (s.modBuf f).buf = f s.buf := rfl
@[simp] theorem modBuf_tm (f : BufSt → BufSt) : (s.modBuf f).tm = s.tm := rfl
@[simp] theorem modBuf_tally (f : BufSt → BufSt) : (s.modBuf f).tally = s.tally := rfl
@[simp] theorem modBuf_host (f : BufSt → BufSt) : (s.modBuf f).host = s.host := rfl
@[simp] theorem modBuf_dram (f : BufSt → BufSt) : (s.modBuf f).dram = s.dram := rfl
@[simp] theorem modBuf_sec (f : BufSt → BufSt) : (s.modBuf f).sec = s.sec := rfl
@[simp] theorem modBuf_pair (f : BufSt → BufSt) : (s.modBuf f).pair = s.pair := rfl
@[simp] theorem modBuf_span (f : BufSt → BufSt) : (s.modBuf f).span = s.span := rfl
@[simp] theorem modBuf_plat (f : BufSt → BufSt) : (s.modBuf f).plat = s.plat := rfl

@[simp] theorem modFlow_pending (f : FlowSt → FlowSt) : (s.modFlow f).pending = s.pending := rfl
@[simp] theorem modFlow_cycle (f : FlowSt → FlowSt) : (s.modFlow f).cycle = s.cycle := rfl
@[simp] theorem modFlow_regs (f : FlowSt → FlowSt) : (s.modFlow f).regs = s.regs := rfl
@[simp] theorem modFlow_lastStatus (f : FlowSt → FlowSt) : (s.modFlow f).lastStatus = s.lastStatus := rfl
@[simp] theorem modFlow_lastData (f : FlowSt → FlowSt) : (s.modFlow f).lastData = s.lastData := rfl
@[simp] theorem modFlow_die (f : FlowSt → FlowSt) : (s.modFlow f).die = s.die := rfl
@[simp] theorem modFlow_pins (f : FlowSt → FlowSt) : (s.modFlow f).pins = s.pins := rfl
@[simp] theorem modFlow_time (f : FlowSt → FlowSt) : (s.modFlow f).time = s.time := rfl
@[simp] theorem modFlow_stamp (f : FlowSt → FlowSt) : (s.modFlow f).stamp = s.stamp := rfl
@[simp] theorem modFlow_ports (f : FlowSt → FlowSt) : (s.modFlow f).ports = s.ports := rfl
@[simp] theorem modFlow_counters (f : FlowSt → FlowSt) : (s.modFlow f).counters = s.counters := rfl
@[simp] theorem modFlow_events (f : FlowSt → FlowSt) : (s.modFlow f).events = s.events := rfl
@[simp] theorem modFlow_reck (f : FlowSt → FlowSt) : (s.modFlow f).reck = s.reck := rfl
@[simp] theorem modFlow_path (f : FlowSt → FlowSt) : (s.modFlow f).path = s.path := rfl
@[simp] theorem modFlow_rules (f : FlowSt → FlowSt) : (s.modFlow f).rules = s.rules := rfl
@[simp] theorem modFlow_fdb (f : FlowSt → FlowSt) : (s.modFlow f).fdb = s.fdb := rfl
@[simp] theorem modFlow_lpm (f : FlowSt → FlowSt) : (s.modFlow f).lpm = s.lpm := rfl
@[simp] theorem modFlow_flow (f : FlowSt → FlowSt) : (s.modFlow f).flow = f s.flow := rfl
@[simp] theorem modFlow_mcast (f : FlowSt → FlowSt) : (s.modFlow f).mcast = s.mcast := rfl
@[simp] theorem modFlow_buf (f : FlowSt → FlowSt) : (s.modFlow f).buf = s.buf := rfl
@[simp] theorem modFlow_tm (f : FlowSt → FlowSt) : (s.modFlow f).tm = s.tm := rfl
@[simp] theorem modFlow_tally (f : FlowSt → FlowSt) : (s.modFlow f).tally = s.tally := rfl
@[simp] theorem modFlow_host (f : FlowSt → FlowSt) : (s.modFlow f).host = s.host := rfl
@[simp] theorem modFlow_dram (f : FlowSt → FlowSt) : (s.modFlow f).dram = s.dram := rfl
@[simp] theorem modFlow_sec (f : FlowSt → FlowSt) : (s.modFlow f).sec = s.sec := rfl
@[simp] theorem modFlow_pair (f : FlowSt → FlowSt) : (s.modFlow f).pair = s.pair := rfl
@[simp] theorem modFlow_span (f : FlowSt → FlowSt) : (s.modFlow f).span = s.span := rfl
@[simp] theorem modFlow_plat (f : FlowSt → FlowSt) : (s.modFlow f).plat = s.plat := rfl

@[simp] theorem modReck_pending (f : ReckSt → ReckSt) : (s.modReck f).pending = s.pending := rfl
@[simp] theorem modReck_cycle (f : ReckSt → ReckSt) : (s.modReck f).cycle = s.cycle := rfl
@[simp] theorem modReck_regs (f : ReckSt → ReckSt) : (s.modReck f).regs = s.regs := rfl
@[simp] theorem modReck_lastStatus (f : ReckSt → ReckSt) : (s.modReck f).lastStatus = s.lastStatus := rfl
@[simp] theorem modReck_lastData (f : ReckSt → ReckSt) : (s.modReck f).lastData = s.lastData := rfl
@[simp] theorem modReck_die (f : ReckSt → ReckSt) : (s.modReck f).die = s.die := rfl
@[simp] theorem modReck_pins (f : ReckSt → ReckSt) : (s.modReck f).pins = s.pins := rfl
@[simp] theorem modReck_time (f : ReckSt → ReckSt) : (s.modReck f).time = s.time := rfl
@[simp] theorem modReck_stamp (f : ReckSt → ReckSt) : (s.modReck f).stamp = s.stamp := rfl
@[simp] theorem modReck_ports (f : ReckSt → ReckSt) : (s.modReck f).ports = s.ports := rfl
@[simp] theorem modReck_counters (f : ReckSt → ReckSt) : (s.modReck f).counters = s.counters := rfl
@[simp] theorem modReck_events (f : ReckSt → ReckSt) : (s.modReck f).events = s.events := rfl
@[simp] theorem modReck_reck (f : ReckSt → ReckSt) : (s.modReck f).reck = f s.reck := rfl
@[simp] theorem modReck_path (f : ReckSt → ReckSt) : (s.modReck f).path = s.path := rfl
@[simp] theorem modReck_rules (f : ReckSt → ReckSt) : (s.modReck f).rules = s.rules := rfl
@[simp] theorem modReck_fdb (f : ReckSt → ReckSt) : (s.modReck f).fdb = s.fdb := rfl
@[simp] theorem modReck_lpm (f : ReckSt → ReckSt) : (s.modReck f).lpm = s.lpm := rfl
@[simp] theorem modReck_flow (f : ReckSt → ReckSt) : (s.modReck f).flow = s.flow := rfl
@[simp] theorem modReck_mcast (f : ReckSt → ReckSt) : (s.modReck f).mcast = s.mcast := rfl
@[simp] theorem modReck_buf (f : ReckSt → ReckSt) : (s.modReck f).buf = s.buf := rfl
@[simp] theorem modReck_tm (f : ReckSt → ReckSt) : (s.modReck f).tm = s.tm := rfl
@[simp] theorem modReck_tally (f : ReckSt → ReckSt) : (s.modReck f).tally = s.tally := rfl
@[simp] theorem modReck_host (f : ReckSt → ReckSt) : (s.modReck f).host = s.host := rfl
@[simp] theorem modReck_dram (f : ReckSt → ReckSt) : (s.modReck f).dram = s.dram := rfl
@[simp] theorem modReck_sec (f : ReckSt → ReckSt) : (s.modReck f).sec = s.sec := rfl
@[simp] theorem modReck_pair (f : ReckSt → ReckSt) : (s.modReck f).pair = s.pair := rfl
@[simp] theorem modReck_span (f : ReckSt → ReckSt) : (s.modReck f).span = s.span := rfl
@[simp] theorem modReck_plat (f : ReckSt → ReckSt) : (s.modReck f).plat = s.plat := rfl

@[simp] theorem modSec_pending (f : SecSt → SecSt) : (s.modSec f).pending = s.pending := rfl
@[simp] theorem modSec_cycle (f : SecSt → SecSt) : (s.modSec f).cycle = s.cycle := rfl
@[simp] theorem modSec_regs (f : SecSt → SecSt) : (s.modSec f).regs = s.regs := rfl
@[simp] theorem modSec_lastStatus (f : SecSt → SecSt) : (s.modSec f).lastStatus = s.lastStatus := rfl
@[simp] theorem modSec_lastData (f : SecSt → SecSt) : (s.modSec f).lastData = s.lastData := rfl
@[simp] theorem modSec_die (f : SecSt → SecSt) : (s.modSec f).die = s.die := rfl
@[simp] theorem modSec_pins (f : SecSt → SecSt) : (s.modSec f).pins = s.pins := rfl
@[simp] theorem modSec_time (f : SecSt → SecSt) : (s.modSec f).time = s.time := rfl
@[simp] theorem modSec_stamp (f : SecSt → SecSt) : (s.modSec f).stamp = s.stamp := rfl
@[simp] theorem modSec_ports (f : SecSt → SecSt) : (s.modSec f).ports = s.ports := rfl
@[simp] theorem modSec_counters (f : SecSt → SecSt) : (s.modSec f).counters = s.counters := rfl
@[simp] theorem modSec_events (f : SecSt → SecSt) : (s.modSec f).events = s.events := rfl
@[simp] theorem modSec_reck (f : SecSt → SecSt) : (s.modSec f).reck = s.reck := rfl
@[simp] theorem modSec_path (f : SecSt → SecSt) : (s.modSec f).path = s.path := rfl
@[simp] theorem modSec_rules (f : SecSt → SecSt) : (s.modSec f).rules = s.rules := rfl
@[simp] theorem modSec_fdb (f : SecSt → SecSt) : (s.modSec f).fdb = s.fdb := rfl
@[simp] theorem modSec_lpm (f : SecSt → SecSt) : (s.modSec f).lpm = s.lpm := rfl
@[simp] theorem modSec_flow (f : SecSt → SecSt) : (s.modSec f).flow = s.flow := rfl
@[simp] theorem modSec_mcast (f : SecSt → SecSt) : (s.modSec f).mcast = s.mcast := rfl
@[simp] theorem modSec_buf (f : SecSt → SecSt) : (s.modSec f).buf = s.buf := rfl
@[simp] theorem modSec_tm (f : SecSt → SecSt) : (s.modSec f).tm = s.tm := rfl
@[simp] theorem modSec_tally (f : SecSt → SecSt) : (s.modSec f).tally = s.tally := rfl
@[simp] theorem modSec_host (f : SecSt → SecSt) : (s.modSec f).host = s.host := rfl
@[simp] theorem modSec_dram (f : SecSt → SecSt) : (s.modSec f).dram = s.dram := rfl
@[simp] theorem modSec_sec (f : SecSt → SecSt) : (s.modSec f).sec = f s.sec := rfl
@[simp] theorem modSec_pair (f : SecSt → SecSt) : (s.modSec f).pair = s.pair := rfl
@[simp] theorem modSec_span (f : SecSt → SecSt) : (s.modSec f).span = s.span := rfl
@[simp] theorem modSec_plat (f : SecSt → SecSt) : (s.modSec f).plat = s.plat := rfl

@[simp] theorem setDom_pending (d : Nat) (x : DomSt) : (s.setDom d x).pending = s.pending := rfl
@[simp] theorem setDom_cycle (d : Nat) (x : DomSt) : (s.setDom d x).cycle = s.cycle := rfl
@[simp] theorem setDom_regs (d : Nat) (x : DomSt) : (s.setDom d x).regs = s.regs := rfl
@[simp] theorem setDom_lastStatus (d : Nat) (x : DomSt) : (s.setDom d x).lastStatus = s.lastStatus := rfl
@[simp] theorem setDom_lastData (d : Nat) (x : DomSt) : (s.setDom d x).lastData = s.lastData := rfl
@[simp] theorem setDom_die (d : Nat) (x : DomSt) : (s.setDom d x).die = s.die := rfl
@[simp] theorem setDom_pins (d : Nat) (x : DomSt) : (s.setDom d x).pins = s.pins := rfl
@[simp] theorem setDom_time (d : Nat) (x : DomSt) : (s.setDom d x).time = if d = 0 then { s.time with domA := x } else { s.time with domB := x } := rfl
@[simp] theorem setDom_stamp (d : Nat) (x : DomSt) : (s.setDom d x).stamp = s.stamp := rfl
@[simp] theorem setDom_ports (d : Nat) (x : DomSt) : (s.setDom d x).ports = s.ports := rfl
@[simp] theorem setDom_counters (d : Nat) (x : DomSt) : (s.setDom d x).counters = s.counters := rfl
@[simp] theorem setDom_events (d : Nat) (x : DomSt) : (s.setDom d x).events = s.events := rfl
@[simp] theorem setDom_reck (d : Nat) (x : DomSt) : (s.setDom d x).reck = s.reck := rfl
@[simp] theorem setDom_path (d : Nat) (x : DomSt) : (s.setDom d x).path = s.path := rfl
@[simp] theorem setDom_rules (d : Nat) (x : DomSt) : (s.setDom d x).rules = s.rules := rfl
@[simp] theorem setDom_fdb (d : Nat) (x : DomSt) : (s.setDom d x).fdb = s.fdb := rfl
@[simp] theorem setDom_lpm (d : Nat) (x : DomSt) : (s.setDom d x).lpm = s.lpm := rfl
@[simp] theorem setDom_flow (d : Nat) (x : DomSt) : (s.setDom d x).flow = s.flow := rfl
@[simp] theorem setDom_mcast (d : Nat) (x : DomSt) : (s.setDom d x).mcast = s.mcast := rfl
@[simp] theorem setDom_buf (d : Nat) (x : DomSt) : (s.setDom d x).buf = s.buf := rfl
@[simp] theorem setDom_tm (d : Nat) (x : DomSt) : (s.setDom d x).tm = s.tm := rfl
@[simp] theorem setDom_tally (d : Nat) (x : DomSt) : (s.setDom d x).tally = s.tally := rfl
@[simp] theorem setDom_host (d : Nat) (x : DomSt) : (s.setDom d x).host = s.host := rfl
@[simp] theorem setDom_dram (d : Nat) (x : DomSt) : (s.setDom d x).dram = s.dram := rfl
@[simp] theorem setDom_sec (d : Nat) (x : DomSt) : (s.setDom d x).sec = s.sec := rfl
@[simp] theorem setDom_pair (d : Nat) (x : DomSt) : (s.setDom d x).pair = s.pair := rfl
@[simp] theorem setDom_span (d : Nat) (x : DomSt) : (s.setDom d x).span = s.span := rfl
@[simp] theorem setDom_plat (d : Nat) (x : DomSt) : (s.setDom d x).plat = s.plat := rfl

@[simp] theorem setPres_pending (p : PresSt) : (s.setPres p).pending = s.pending := rfl
@[simp] theorem setPres_cycle (p : PresSt) : (s.setPres p).cycle = s.cycle := rfl
@[simp] theorem setPres_regs (p : PresSt) : (s.setPres p).regs = s.regs := rfl
@[simp] theorem setPres_lastStatus (p : PresSt) : (s.setPres p).lastStatus = s.lastStatus := rfl
@[simp] theorem setPres_lastData (p : PresSt) : (s.setPres p).lastData = s.lastData := rfl
@[simp] theorem setPres_die (p : PresSt) : (s.setPres p).die = s.die := rfl
@[simp] theorem setPres_pins (p : PresSt) : (s.setPres p).pins = s.pins := rfl
@[simp] theorem setPres_time (p : PresSt) : (s.setPres p).time = { s.time with pres := p } := rfl
@[simp] theorem setPres_stamp (p : PresSt) : (s.setPres p).stamp = s.stamp := rfl
@[simp] theorem setPres_ports (p : PresSt) : (s.setPres p).ports = s.ports := rfl
@[simp] theorem setPres_counters (p : PresSt) : (s.setPres p).counters = s.counters := rfl
@[simp] theorem setPres_events (p : PresSt) : (s.setPres p).events = s.events := rfl
@[simp] theorem setPres_reck (p : PresSt) : (s.setPres p).reck = s.reck := rfl
@[simp] theorem setPres_path (p : PresSt) : (s.setPres p).path = s.path := rfl
@[simp] theorem setPres_rules (p : PresSt) : (s.setPres p).rules = s.rules := rfl
@[simp] theorem setPres_fdb (p : PresSt) : (s.setPres p).fdb = s.fdb := rfl
@[simp] theorem setPres_lpm (p : PresSt) : (s.setPres p).lpm = s.lpm := rfl
@[simp] theorem setPres_flow (p : PresSt) : (s.setPres p).flow = s.flow := rfl
@[simp] theorem setPres_mcast (p : PresSt) : (s.setPres p).mcast = s.mcast := rfl
@[simp] theorem setPres_buf (p : PresSt) : (s.setPres p).buf = s.buf := rfl
@[simp] theorem setPres_tm (p : PresSt) : (s.setPres p).tm = s.tm := rfl
@[simp] theorem setPres_tally (p : PresSt) : (s.setPres p).tally = s.tally := rfl
@[simp] theorem setPres_host (p : PresSt) : (s.setPres p).host = s.host := rfl
@[simp] theorem setPres_dram (p : PresSt) : (s.setPres p).dram = s.dram := rfl
@[simp] theorem setPres_sec (p : PresSt) : (s.setPres p).sec = s.sec := rfl
@[simp] theorem setPres_pair (p : PresSt) : (s.setPres p).pair = s.pair := rfl
@[simp] theorem setPres_span (p : PresSt) : (s.setPres p).span = s.span := rfl
@[simp] theorem setPres_plat (p : PresSt) : (s.setPres p).plat = s.plat := rfl

@[simp] theorem setTpo_pending (n : Nat) (x : TpoSt) : (s.setTpo n x).pending = s.pending := rfl
@[simp] theorem setTpo_cycle (n : Nat) (x : TpoSt) : (s.setTpo n x).cycle = s.cycle := rfl
@[simp] theorem setTpo_regs (n : Nat) (x : TpoSt) : (s.setTpo n x).regs = s.regs := rfl
@[simp] theorem setTpo_lastStatus (n : Nat) (x : TpoSt) : (s.setTpo n x).lastStatus = s.lastStatus := rfl
@[simp] theorem setTpo_lastData (n : Nat) (x : TpoSt) : (s.setTpo n x).lastData = s.lastData := rfl
@[simp] theorem setTpo_die (n : Nat) (x : TpoSt) : (s.setTpo n x).die = s.die := rfl
@[simp] theorem setTpo_pins (n : Nat) (x : TpoSt) : (s.setTpo n x).pins = s.pins := rfl
@[simp] theorem setTpo_time (n : Nat) (x : TpoSt) : (s.setTpo n x).time = { s.time with tpo := mapSet s.time.tpo n x tpo0 } := rfl
@[simp] theorem setTpo_stamp (n : Nat) (x : TpoSt) : (s.setTpo n x).stamp = s.stamp := rfl
@[simp] theorem setTpo_ports (n : Nat) (x : TpoSt) : (s.setTpo n x).ports = s.ports := rfl
@[simp] theorem setTpo_counters (n : Nat) (x : TpoSt) : (s.setTpo n x).counters = s.counters := rfl
@[simp] theorem setTpo_events (n : Nat) (x : TpoSt) : (s.setTpo n x).events = s.events := rfl
@[simp] theorem setTpo_reck (n : Nat) (x : TpoSt) : (s.setTpo n x).reck = s.reck := rfl
@[simp] theorem setTpo_path (n : Nat) (x : TpoSt) : (s.setTpo n x).path = s.path := rfl
@[simp] theorem setTpo_rules (n : Nat) (x : TpoSt) : (s.setTpo n x).rules = s.rules := rfl
@[simp] theorem setTpo_fdb (n : Nat) (x : TpoSt) : (s.setTpo n x).fdb = s.fdb := rfl
@[simp] theorem setTpo_lpm (n : Nat) (x : TpoSt) : (s.setTpo n x).lpm = s.lpm := rfl
@[simp] theorem setTpo_flow (n : Nat) (x : TpoSt) : (s.setTpo n x).flow = s.flow := rfl
@[simp] theorem setTpo_mcast (n : Nat) (x : TpoSt) : (s.setTpo n x).mcast = s.mcast := rfl
@[simp] theorem setTpo_buf (n : Nat) (x : TpoSt) : (s.setTpo n x).buf = s.buf := rfl
@[simp] theorem setTpo_tm (n : Nat) (x : TpoSt) : (s.setTpo n x).tm = s.tm := rfl
@[simp] theorem setTpo_tally (n : Nat) (x : TpoSt) : (s.setTpo n x).tally = s.tally := rfl
@[simp] theorem setTpo_host (n : Nat) (x : TpoSt) : (s.setTpo n x).host = s.host := rfl
@[simp] theorem setTpo_dram (n : Nat) (x : TpoSt) : (s.setTpo n x).dram = s.dram := rfl
@[simp] theorem setTpo_sec (n : Nat) (x : TpoSt) : (s.setTpo n x).sec = s.sec := rfl
@[simp] theorem setTpo_pair (n : Nat) (x : TpoSt) : (s.setTpo n x).pair = s.pair := rfl
@[simp] theorem setTpo_span (n : Nat) (x : TpoSt) : (s.setTpo n x).span = s.span := rfl
@[simp] theorem setTpo_plat (n : Nat) (x : TpoSt) : (s.setTpo n x).plat = s.plat := rfl

@[simp] theorem request_pending (k : RoutineKind) (c : Option CmdIn) : (s.request k c).pending = s.pending := rfl
@[simp] theorem request_cycle (k : RoutineKind) (c : Option CmdIn) : (s.request k c).cycle = s.cycle := rfl
@[simp] theorem request_regs (k : RoutineKind) (c : Option CmdIn) : (s.request k c).regs = s.regs := rfl
@[simp] theorem request_lastStatus (k : RoutineKind) (c : Option CmdIn) : (s.request k c).lastStatus = s.lastStatus := rfl
@[simp] theorem request_lastData (k : RoutineKind) (c : Option CmdIn) : (s.request k c).lastData = s.lastData := rfl
@[simp] theorem request_die (k : RoutineKind) (c : Option CmdIn) : (s.request k c).die = s.die := rfl
@[simp] theorem request_pins (k : RoutineKind) (c : Option CmdIn) : (s.request k c).pins = s.pins := rfl
@[simp] theorem request_time (k : RoutineKind) (c : Option CmdIn) : (s.request k c).time = s.time := rfl
@[simp] theorem request_stamp (k : RoutineKind) (c : Option CmdIn) : (s.request k c).stamp = s.stamp := rfl
@[simp] theorem request_ports (k : RoutineKind) (c : Option CmdIn) : (s.request k c).ports = s.ports := rfl
@[simp] theorem request_counters (k : RoutineKind) (c : Option CmdIn) : (s.request k c).counters = s.counters := rfl
@[simp] theorem request_events (k : RoutineKind) (c : Option CmdIn) : (s.request k c).events = s.events := rfl
@[simp] theorem request_path (k : RoutineKind) (c : Option CmdIn) : (s.request k c).path = s.path := rfl
@[simp] theorem request_rules (k : RoutineKind) (c : Option CmdIn) : (s.request k c).rules = s.rules := rfl
@[simp] theorem request_fdb (k : RoutineKind) (c : Option CmdIn) : (s.request k c).fdb = s.fdb := rfl
@[simp] theorem request_lpm (k : RoutineKind) (c : Option CmdIn) : (s.request k c).lpm = s.lpm := rfl
@[simp] theorem request_flow (k : RoutineKind) (c : Option CmdIn) : (s.request k c).flow = s.flow := rfl
@[simp] theorem request_mcast (k : RoutineKind) (c : Option CmdIn) : (s.request k c).mcast = s.mcast := rfl
@[simp] theorem request_buf (k : RoutineKind) (c : Option CmdIn) : (s.request k c).buf = s.buf := rfl
@[simp] theorem request_tm (k : RoutineKind) (c : Option CmdIn) : (s.request k c).tm = s.tm := rfl
@[simp] theorem request_tally (k : RoutineKind) (c : Option CmdIn) : (s.request k c).tally = s.tally := rfl
@[simp] theorem request_host (k : RoutineKind) (c : Option CmdIn) : (s.request k c).host = s.host := rfl
@[simp] theorem request_dram (k : RoutineKind) (c : Option CmdIn) : (s.request k c).dram = s.dram := rfl
@[simp] theorem request_sec (k : RoutineKind) (c : Option CmdIn) : (s.request k c).sec = s.sec := rfl
@[simp] theorem request_pair (k : RoutineKind) (c : Option CmdIn) : (s.request k c).pair = s.pair := rfl
@[simp] theorem request_span (k : RoutineKind) (c : Option CmdIn) : (s.request k c).span = s.span := rfl
@[simp] theorem request_plat (k : RoutineKind) (c : Option CmdIn) : (s.request k c).plat = s.plat := rfl

@[simp] theorem endRoutine_pending (p : RoutineKind → Bool) : (s.endRoutine p).pending = s.pending := rfl
@[simp] theorem endRoutine_cycle (p : RoutineKind → Bool) : (s.endRoutine p).cycle = s.cycle := rfl
@[simp] theorem endRoutine_regs (p : RoutineKind → Bool) : (s.endRoutine p).regs = s.regs := rfl
@[simp] theorem endRoutine_lastStatus (p : RoutineKind → Bool) : (s.endRoutine p).lastStatus = s.lastStatus := rfl
@[simp] theorem endRoutine_lastData (p : RoutineKind → Bool) : (s.endRoutine p).lastData = s.lastData := rfl
@[simp] theorem endRoutine_die (p : RoutineKind → Bool) : (s.endRoutine p).die = s.die := rfl
@[simp] theorem endRoutine_pins (p : RoutineKind → Bool) : (s.endRoutine p).pins = s.pins := rfl
@[simp] theorem endRoutine_time (p : RoutineKind → Bool) : (s.endRoutine p).time = s.time := rfl
@[simp] theorem endRoutine_stamp (p : RoutineKind → Bool) : (s.endRoutine p).stamp = s.stamp := rfl
@[simp] theorem endRoutine_ports (p : RoutineKind → Bool) : (s.endRoutine p).ports = s.ports := rfl
@[simp] theorem endRoutine_counters (p : RoutineKind → Bool) : (s.endRoutine p).counters = s.counters := rfl
@[simp] theorem endRoutine_events (p : RoutineKind → Bool) : (s.endRoutine p).events = s.events := rfl
@[simp] theorem endRoutine_path (p : RoutineKind → Bool) : (s.endRoutine p).path = s.path := rfl
@[simp] theorem endRoutine_rules (p : RoutineKind → Bool) : (s.endRoutine p).rules = s.rules := rfl
@[simp] theorem endRoutine_fdb (p : RoutineKind → Bool) : (s.endRoutine p).fdb = s.fdb := rfl
@[simp] theorem endRoutine_lpm (p : RoutineKind → Bool) : (s.endRoutine p).lpm = s.lpm := rfl
@[simp] theorem endRoutine_flow (p : RoutineKind → Bool) : (s.endRoutine p).flow = s.flow := rfl
@[simp] theorem endRoutine_mcast (p : RoutineKind → Bool) : (s.endRoutine p).mcast = s.mcast := rfl
@[simp] theorem endRoutine_buf (p : RoutineKind → Bool) : (s.endRoutine p).buf = s.buf := rfl
@[simp] theorem endRoutine_tm (p : RoutineKind → Bool) : (s.endRoutine p).tm = s.tm := rfl
@[simp] theorem endRoutine_tally (p : RoutineKind → Bool) : (s.endRoutine p).tally = s.tally := rfl
@[simp] theorem endRoutine_host (p : RoutineKind → Bool) : (s.endRoutine p).host = s.host := rfl
@[simp] theorem endRoutine_dram (p : RoutineKind → Bool) : (s.endRoutine p).dram = s.dram := rfl
@[simp] theorem endRoutine_sec (p : RoutineKind → Bool) : (s.endRoutine p).sec = s.sec := rfl
@[simp] theorem endRoutine_pair (p : RoutineKind → Bool) : (s.endRoutine p).pair = s.pair := rfl
@[simp] theorem endRoutine_span (p : RoutineKind → Bool) : (s.endRoutine p).span = s.span := rfl
@[simp] theorem endRoutine_plat (p : RoutineKind → Bool) : (s.endRoutine p).plat = s.plat := rfl

@[simp] theorem endOwn_pending (k : RoutineKind) (c : CmdIn) : (s.endOwn k c).pending = s.pending := rfl
@[simp] theorem endOwn_cycle (k : RoutineKind) (c : CmdIn) : (s.endOwn k c).cycle = s.cycle := rfl
@[simp] theorem endOwn_regs (k : RoutineKind) (c : CmdIn) : (s.endOwn k c).regs = s.regs := rfl
@[simp] theorem endOwn_lastStatus (k : RoutineKind) (c : CmdIn) : (s.endOwn k c).lastStatus = s.lastStatus := rfl
@[simp] theorem endOwn_lastData (k : RoutineKind) (c : CmdIn) : (s.endOwn k c).lastData = s.lastData := rfl
@[simp] theorem endOwn_die (k : RoutineKind) (c : CmdIn) : (s.endOwn k c).die = s.die := rfl
@[simp] theorem endOwn_pins (k : RoutineKind) (c : CmdIn) : (s.endOwn k c).pins = s.pins := rfl
@[simp] theorem endOwn_time (k : RoutineKind) (c : CmdIn) : (s.endOwn k c).time = s.time := rfl
@[simp] theorem endOwn_stamp (k : RoutineKind) (c : CmdIn) : (s.endOwn k c).stamp = s.stamp := rfl
@[simp] theorem endOwn_ports (k : RoutineKind) (c : CmdIn) : (s.endOwn k c).ports = s.ports := rfl
@[simp] theorem endOwn_counters (k : RoutineKind) (c : CmdIn) : (s.endOwn k c).counters = s.counters := rfl
@[simp] theorem endOwn_events (k : RoutineKind) (c : CmdIn) : (s.endOwn k c).events = s.events := rfl
@[simp] theorem endOwn_path (k : RoutineKind) (c : CmdIn) : (s.endOwn k c).path = s.path := rfl
@[simp] theorem endOwn_rules (k : RoutineKind) (c : CmdIn) : (s.endOwn k c).rules = s.rules := rfl
@[simp] theorem endOwn_fdb (k : RoutineKind) (c : CmdIn) : (s.endOwn k c).fdb = s.fdb := rfl
@[simp] theorem endOwn_lpm (k : RoutineKind) (c : CmdIn) : (s.endOwn k c).lpm = s.lpm := rfl
@[simp] theorem endOwn_flow (k : RoutineKind) (c : CmdIn) : (s.endOwn k c).flow = s.flow := rfl
@[simp] theorem endOwn_mcast (k : RoutineKind) (c : CmdIn) : (s.endOwn k c).mcast = s.mcast := rfl
@[simp] theorem endOwn_buf (k : RoutineKind) (c : CmdIn) : (s.endOwn k c).buf = s.buf := rfl
@[simp] theorem endOwn_tm (k : RoutineKind) (c : CmdIn) : (s.endOwn k c).tm = s.tm := rfl
@[simp] theorem endOwn_tally (k : RoutineKind) (c : CmdIn) : (s.endOwn k c).tally = s.tally := rfl
@[simp] theorem endOwn_host (k : RoutineKind) (c : CmdIn) : (s.endOwn k c).host = s.host := rfl
@[simp] theorem endOwn_dram (k : RoutineKind) (c : CmdIn) : (s.endOwn k c).dram = s.dram := rfl
@[simp] theorem endOwn_sec (k : RoutineKind) (c : CmdIn) : (s.endOwn k c).sec = s.sec := rfl
@[simp] theorem endOwn_pair (k : RoutineKind) (c : CmdIn) : (s.endOwn k c).pair = s.pair := rfl
@[simp] theorem endOwn_span (k : RoutineKind) (c : CmdIn) : (s.endOwn k c).span = s.span := rfl
@[simp] theorem endOwn_plat (k : RoutineKind) (c : CmdIn) : (s.endOwn k c).plat = s.plat := rfl

@[simp] theorem restartKeepalive_pending : s.restartKeepalive.pending = s.pending := rfl
@[simp] theorem restartKeepalive_cycle : s.restartKeepalive.cycle = s.cycle := rfl
@[simp] theorem restartKeepalive_regs : s.restartKeepalive.regs = s.regs := rfl
@[simp] theorem restartKeepalive_lastStatus : s.restartKeepalive.lastStatus = s.lastStatus := rfl
@[simp] theorem restartKeepalive_lastData : s.restartKeepalive.lastData = s.lastData := rfl
@[simp] theorem restartKeepalive_die : s.restartKeepalive.die = s.die := rfl
@[simp] theorem restartKeepalive_pins : s.restartKeepalive.pins = s.pins := rfl
@[simp] theorem restartKeepalive_time : s.restartKeepalive.time = s.time := rfl
@[simp] theorem restartKeepalive_stamp : s.restartKeepalive.stamp = s.stamp := rfl
@[simp] theorem restartKeepalive_ports : s.restartKeepalive.ports = s.ports := rfl
@[simp] theorem restartKeepalive_counters : s.restartKeepalive.counters = s.counters := rfl
@[simp] theorem restartKeepalive_events : s.restartKeepalive.events = { s.events with keepFrom := s.cycle } := rfl
@[simp] theorem restartKeepalive_reck : s.restartKeepalive.reck = s.reck := rfl
@[simp] theorem restartKeepalive_path : s.restartKeepalive.path = s.path := rfl
@[simp] theorem restartKeepalive_rules : s.restartKeepalive.rules = s.rules := rfl
@[simp] theorem restartKeepalive_fdb : s.restartKeepalive.fdb = s.fdb := rfl
@[simp] theorem restartKeepalive_lpm : s.restartKeepalive.lpm = s.lpm := rfl
@[simp] theorem restartKeepalive_flow : s.restartKeepalive.flow = s.flow := rfl
@[simp] theorem restartKeepalive_mcast : s.restartKeepalive.mcast = s.mcast := rfl
@[simp] theorem restartKeepalive_buf : s.restartKeepalive.buf = s.buf := rfl
@[simp] theorem restartKeepalive_tm : s.restartKeepalive.tm = s.tm := rfl
@[simp] theorem restartKeepalive_tally : s.restartKeepalive.tally = s.tally := rfl
@[simp] theorem restartKeepalive_host : s.restartKeepalive.host = s.host := rfl
@[simp] theorem restartKeepalive_dram : s.restartKeepalive.dram = s.dram := rfl
@[simp] theorem restartKeepalive_sec : s.restartKeepalive.sec = s.sec := rfl
@[simp] theorem restartKeepalive_pair : s.restartKeepalive.pair = s.pair := rfl
@[simp] theorem restartKeepalive_span : s.restartKeepalive.span = s.span := rfl
@[simp] theorem restartKeepalive_plat : s.restartKeepalive.plat = s.plat := rfl

@[simp] theorem settle_pending : s.settle.pending = s.pending := rfl
@[simp] theorem settle_cycle : s.settle.cycle = s.cycle := rfl
@[simp] theorem settle_regs : s.settle.regs = s.regs := rfl
@[simp] theorem settle_lastStatus : s.settle.lastStatus = s.lastStatus := rfl
@[simp] theorem settle_lastData : s.settle.lastData = s.lastData := rfl
@[simp] theorem settle_die : s.settle.die = s.die := rfl
@[simp] theorem settle_pins : s.settle.pins = s.pinsOf := rfl
@[simp] theorem settle_time : s.settle.time = s.time := rfl
@[simp] theorem settle_stamp : s.settle.stamp = s.stamp := rfl
@[simp] theorem settle_ports : s.settle.ports = s.ports := rfl
@[simp] theorem settle_counters : s.settle.counters = s.counters := rfl
@[simp] theorem settle_events : s.settle.events = s.events := rfl
@[simp] theorem settle_reck : s.settle.reck = s.reck := rfl
@[simp] theorem settle_path : s.settle.path = s.path := rfl
@[simp] theorem settle_rules : s.settle.rules = s.rules := rfl
@[simp] theorem settle_fdb : s.settle.fdb = s.fdb := rfl
@[simp] theorem settle_lpm : s.settle.lpm = s.lpm := rfl
@[simp] theorem settle_flow : s.settle.flow = s.flow := rfl
@[simp] theorem settle_mcast : s.settle.mcast = s.mcast := rfl
@[simp] theorem settle_buf : s.settle.buf = s.buf := rfl
@[simp] theorem settle_tm : s.settle.tm = s.tm := rfl
@[simp] theorem settle_tally : s.settle.tally = s.tally := rfl
@[simp] theorem settle_host : s.settle.host = s.host := rfl
@[simp] theorem settle_dram : s.settle.dram = s.dram := rfl
@[simp] theorem settle_sec : s.settle.sec = s.sec := rfl
@[simp] theorem settle_pair : s.settle.pair = s.pair := rfl
@[simp] theorem settle_span : s.settle.span = s.span := rfl
@[simp] theorem settle_plat : s.settle.plat = s.plat := rfl

end Sys2Proof.Machine
end

