-- ==== Sys2Proof/Laws/Frame.lean ====
section
/-! SUPPORT. Register fields after each update, and the frames of updates: how `State.only` is shown of one update and
how it composes. -/

namespace Sys2Proof.Machine

/-! ### Register fields -/

/-- A field that has been stored reads as the value cut to its width. -/
theorem get_set_self (s : State) (f : Fld) (v : Nat) : (s.set f v).get f = v % 2 ^ f.width := mapGet_set_self ..

/-- Storing a field leaves every other. -/
theorem get_set_ne (s : State) {f g : Fld} (v : Nat) (h : Fld.key f ≠ Fld.key g) : (s.set f v).get g = s.get g :=
  mapGet_set_ne _ _ _ _ h

theorem get_on_self (s : State) (f : Fld) (h : 1 ≤ f.width) : (s.on f).get f = 1 := by
  have h2 : 2 ^ 1 ≤ 2 ^ f.width := Nat.pow_le_pow_right (by norm_num) h
  rw [State.on, get_set_self, Nat.mod_eq_of_lt (by omega)]

theorem get_on_ne (s : State) {f g : Fld} (h : Fld.key f ≠ Fld.key g) : (s.on f).get g = s.get g := get_set_ne _ _ h

@[simp] theorem get_off_self (s : State) (f : Fld) : (s.off f).get f = 0 := by simp [State.off, get_set_self]

theorem get_off_ne (s : State) {f g : Fld} (h : Fld.key f ≠ Fld.key g) : (s.off f).get g = s.get g := get_set_ne _ _ h

theorem get_setB_self (s : State) (f : Fld) (b : Bool) (h : 1 ≤ f.width) : (s.setB f b).get f = b2n b := by
  have h2 : 2 ^ 1 ≤ 2 ^ f.width := Nat.pow_le_pow_right (by norm_num) h
  rw [State.setB, get_set_self, Nat.mod_eq_of_lt (by cases b <;> simp [b2n]; omega)]

theorem get_setB_ne (s : State) {f g : Fld} (b : Bool) (h : Fld.key f ≠ Fld.key g) : (s.setB f b).get g = s.get g := get_set_ne _ _ h

theorem get_satAdd_self (s : State) (f : Fld) (n : Nat) : (s.satAdd f n).get f = min (2 ^ f.width - 1) (s.get f + n) := by
  have : 0 < 2 ^ f.width := by positivity
  rw [State.satAdd, get_set_self, Nat.mod_eq_of_lt (by omega)]

theorem get_satAdd_ne (s : State) {f g : Fld} (n : Nat) (h : Fld.key f ≠ Fld.key g) : (s.satAdd f n).get g = s.get g :=
  get_set_ne _ _ h

theorem get_putBit_ne (s : State) {f g : Fld} (i : Nat) (b : Bool) (h : Fld.key f ≠ Fld.key g) : (s.putBit f i b).get g = s.get g :=
  get_set_ne _ _ h

theorem get_setFunc_ne (s : State) {g : Fld} (n v : Nat) (h : Fld.key Reg.SYS_FUNC_STATUS_STATE ≠ Fld.key g) :
    (s.setFunc n v).get g = s.get g := get_set_ne _ _ h

/-- A reset of registers leaves those outside it. -/
theorem get_resetRegs (s : State) (p : Nat → Bool) (f : Fld) :
    (s.resetRegs p).get f = if p (Fld.key f / 32) then f.rst else s.get f := by
  have h := mapFind_filter s.regs (fun k => !p (k / 32)) (Fld.key f)
  simp only [State.get, State.resetRegs, mapGet, h]
  cases p (Fld.key f / 32) <;> simp

/-- Fields read the same in states with the same registers. -/
theorem get_of_regs {s t : State} (h : t.regs = s.regs) (f : Fld) : t.get f = s.get f := by rw [State.get, State.get, h]

@[simp] theorem get_settle (s : State) (f : Fld) : s.settle.get f = s.get f := rfl

/-! ### Frames -/

theorem only_refl (s : State) : s.only s [] (keysOf []) := ⟨fun p _ => by cases p <;> simp [Part.same], fun _ _ => rfl⟩

theorem Part.same_trans {s t u : State} {p : Part} (h : p.same s t) (k : p.same t u) : p.same s u := by
  cases p <;> simp_all [Part.same]

/-- Frames of successive updates add up. -/
theorem only_trans {s t u : State} {P Q : List Part} {m n : Keys} (h : s.only t P m) (k : t.only u Q n) :
    s.only u (P ++ Q) fun x => m x ∨ n x := by
  refine ⟨fun p hp => ?_, fun f hf => ?_⟩
  · simp only [List.mem_append, not_or] at hp
    exact Part.same_trans (h.1 p hp.1) (k.1 p hp.2)
  · rw [k.2 f fun x => hf (.inr x), h.2 f fun x => hf (.inl x)]

/-- A frame may be named more widely. -/
theorem only_mono {s t : State} {P Q : List Part} {m n : Keys} (h : s.only t P m) (hp : ∀ p ∈ P, p ∈ Q)
    (hm : ∀ k, m k → n k) : s.only t Q n :=
  ⟨fun p k => h.1 p fun x => k (hp p x), fun f k => h.2 f fun x => k (hm _ x)⟩

theorem only_set (s : State) (f : Fld) (v : Nat) : s.only (s.set f v) [] (keysOf [f]) :=
  ⟨fun p _ => by cases p <;> simp [Part.same], fun g hg => get_set_ne _ _ fun e => hg (by simp [keysOf, e])⟩

theorem only_settle (s : State) : s.only s.settle [] (keysOf []) :=
  ⟨fun p _ => by cases p <;> simp [Part.same], fun _ _ => rfl⟩

/-- A frame reaches over the last act of a step. -/
theorem only_settled {s t : State} {P : List Part} {m : Keys} (h : s.only t P m) : s.only t.settle P m :=
  only_mono (only_trans h (only_settle t)) (by simp) (by simp [keysOf])

/-- A state with the same registers, compared part by part. -/
theorem only_of_regs {s t : State} {P : List Part} (hr : t.regs = s.regs) (h : ∀ p, p ∉ P → p.same s t) :
    s.only t P (keysOf []) := ⟨h, fun f _ => get_of_regs hr f⟩

end Sys2Proof.Machine
end

