-- ==== Sys2Proof/Laws/Steps.lean ====
section
/-! SUPPORT. What every step can answer: the shared ends of the meanings. -/

namespace Sys2Proof.Machine

theorem finish_next (s : State) : finish s = .next s.settle := rfl

/-- While the die runs, the effect happens and the pins follow it. -/
theorem whenUp_running {s : State} (h : s.running = true) (k : State → State) : whenUp s k = .next (k s).settle := by
  simp [whenUp, finish, h]

/-- While the die does not run, nothing but the pins moves. -/
theorem whenUp_held {s : State} (h : s.running = false) (k : State → State) : whenUp s k = .next s.settle := by
  simp [whenUp, finish, h]

theorem onPort_ok {p : Nat} (h : p < 1024) (k : Out) : onPort p k = k := by simp [onPort, h]

theorem onObject_ok {n i : Nat} (h : i < n) (k : Out) : onObject n i k = k := by simp [onObject, h]

theorem onRing_ok {c : CmdIn} (h : 16 ≤ c.ring) (h' : c.ring < 32) (k : Out) : onRing c k = k := by simp [onRing, h, h']

/-- A port outside Table 0-5 stops the step. -/
theorem onPort_out {p : Nat} (h : ¬ p < 1024) (k : Out) : onPort p k = .fault .noSuchObject := by simp [onPort, h]

/-- An object outside Table 0-5 stops the step. -/
theorem onObject_out {n i : Nat} (h : ¬ i < n) (k : Out) : onObject n i k = .fault .noSuchObject := by simp [onObject, h]

/-- The pins do not matter to what the pins are to be. -/
@[simp] theorem settle_pinsOf (s : State) : s.settle.pinsOf = s.pinsOf := rfl

theorem settle_follows (s : State) : s.settle.pinsFollow := rfl

/-- Every answer of `whenUp` is a next state whose pins follow it. -/
theorem whenUp_safe (s : State) (k : State → State) : safeStep (whenUp s k) := ⟨_, rfl, settle_follows _⟩

theorem finish_safe (s : State) : safeStep (finish s) := ⟨_, rfl, settle_follows _⟩

end Sys2Proof.Machine
end

