-- ==== Sys2Proof/Laws/Commands.lean ====
section
/-! SUPPORT. The frames of messages, ring entries and completions, and what a command of a ring comes to. -/

namespace Sys2Proof.Machine

/-- Frames of the same extent compose. -/
theorem only_then {s t u : State} {P : List Part} {m : Keys} (h : s.only t P m) (k : t.only u P m) : s.only u P m :=
  only_mono (only_trans h k) (by simp) (by simp)

/-- The keys of no field are among those of any set. -/
theorem keysOf_nil (m : Keys) : ∀ k, keysOf [] k → m k := by simp [keysOf]

theorem only_id (s : State) (P : List Part) (m : Keys) : s.only s P m := only_mono (only_refl s) (by simp) (keysOf_nil m)

theorem only_foldl {α : Type} {P : List Part} {m : Keys} (f : State → α → State)
    (h : ∀ (s : State) (x : α), s.only (f s x) P m) (l : List α) : ∀ s : State, s.only (l.foldl f s) P m := by
  induction l with
  | nil => exact fun s => only_id s P m
  | cons x l ih => exact fun s => only_then (h s x) (ih _)

/-- An update that changes only the host's record. -/
theorem only_modHost (s : State) (f : HostSt → HostSt) : s.only (s.modHost f) [.host] (keysOf []) :=
  only_of_regs rfl fun p hp => by cases p <;> simp_all [Part.same]

/-! ### What completions touch -/

/-- From `s` to `t` only the host's record, the event timer and some fields moved, and neither the latest completion nor
the latest output did. -/
def State.quiet (s t : State) (m : Keys) : Prop :=
  s.only t [.host, .events] m ∧ t.host.completion = s.host.completion ∧ t.host.output = s.host.output

theorem quiet_id (s : State) (m : Keys) : s.quiet s m := ⟨only_id s _ m, rfl, rfl⟩

theorem quiet_then {s t u : State} {m : Keys} (h : s.quiet t m) (k : t.quiet u m) : s.quiet u m :=
  ⟨only_then h.1 k.1, k.2.1.trans h.2.1, k.2.2.trans h.2.2⟩

theorem quiet_mono {s t : State} {m n : Keys} (h : s.quiet t m) (hm : ∀ k, m k → n k) : s.quiet t n :=
  ⟨only_mono h.1 (fun _ => id) hm, h.2⟩

/-- An update of the host's record that keeps completion and output. -/
theorem quiet_modHost (s : State) (f : HostSt → HostSt) (m : Keys) (h : (f s.host).completion = s.host.completion)
    (k : (f s.host).output = s.host.output) : s.quiet (s.modHost f) m :=
  ⟨only_mono (only_modHost s f) (by simp) (keysOf_nil m), h, k⟩

theorem quiet_modRing (s : State) (n : Nat) (f : RingDyn → RingDyn) (m : Keys) : s.quiet (s.modRing n f) m :=
  quiet_modHost s _ m rfl rfl

theorem quiet_set (s : State) (f : Fld) (v : Nat) : s.quiet (s.set f v) (keysOf [f]) :=
  ⟨only_mono (only_set s f v) (by simp) (fun _ => id), rfl, rfl⟩

theorem quiet_foldl {α : Type} {m : Keys} (f : State → α → State) (h : ∀ (s : State) (x : α), s.quiet (f s x) m) (l : List α) :
    ∀ s : State, s.quiet (l.foldl f s) m := by
  induction l with
  | nil => exact fun s => quiet_id s m
  | cons x l ih => exact fun s => quiet_then (h s x) (ih _)

theorem pumpMsgs_kept (l : List HostMsg) : ∀ h : HostSt,
    (pumpMsgs l h).completion = h.completion ∧ (pumpMsgs l h).output = h.output := by
  induction l with
  | nil => exact fun h => ⟨rfl, rfl⟩
  | cons m l ih =>
    intro h
    unfold pumpMsgs
    split
    · exact ih _
    · exact ⟨rfl, rfl⟩

theorem quiet_pump (s : State) (m : Keys) : s.quiet s.pump m := by
  unfold State.pump
  split
  · exact quiet_modHost s _ m (pumpMsgs_kept _ _).1 (pumpMsgs_kept _ _).2
  · exact quiet_id s m

/-- A message handed to the link changes only the host's record. -/
theorem quiet_send (s : State) (x : HostMsg) (m : Keys) : s.quiet (s.send x) m :=
  quiet_then (quiet_modHost s _ m rfl rfl) (quiet_pump _ m)

theorem quiet_memWrite (s : State) (a : Nat) (d : List Byte) (m : Keys) : s.quiet (s.memWrite a d) m := by
    unfold State.memWrite
    dsimp only
    split
    · exact quiet_id s m
    · exact quiet_foldl _ (fun s _ => quiet_send s _ m) _ s

theorem quiet_sendReads (m : Keys) (l : List (ReadUser × Nat × Nat)) : ∀ s : State, s.quiet (sendReads l s) m := by
  induction l with
  | nil => exact fun s => quiet_modHost s (fun h => { h with wanted := [] }) m rfl rfl
  | cons w l ih =>
    intro s
    obtain ⟨u, a, n⟩ := w
    have step (o : Option Nat) : s.quiet (match o with
        | some t => sendReads l (State.send (s.modHost fun h => { h with reads := mapPut h.reads t ⟨u, n, s.cycle⟩ }) (.memRd t a n))
        | none => s.modHost fun h => { h with wanted := (u, a, n) :: l }) m := by
      cases o with
      | some t => exact quiet_then (quiet_then (quiet_modHost s _ m rfl rfl) (quiet_send _ _ m)) (ih _)
      | none => exact quiet_modHost s _ m rfl rfl
    exact step (if s.canWrite && s.host.credit != 0 then s.freeTagMem else none)

theorem quiet_askReads (s : State) (l : List (ReadUser × Nat × Nat)) (m : Keys) : s.quiet (s.askReads l) m :=
  quiet_sendReads m _ s

theorem quiet_fetchNext (s : State) (n : Nat) (m : Keys) : s.quiet (s.fetchNext n) m := by
  rw [State.fetchNext]
  split
  · exact quiet_askReads s _ m
  · exact quiet_id s m

theorem quiet_ringIdle (s : State) (n : Nat) : s.quiet (s.ringIdle n) (keysOf [Reg.RING_CFG_STOPPED n]) := by
  rw [State.ringIdle]
  split
  · exact quiet_then (quiet_modRing s _ _ _) (quiet_fetchNext _ _ _)
  · exact quiet_then (quiet_modRing s _ _ _) (quiet_set _ _ _)

theorem quiet_advance (s : State) (n : Nat) : s.quiet (s.advance n) (keysOf [Reg.RING_DEV_INDEX_DEV_INDEX n]) :=
  quiet_then (quiet_set s _ _) (quiet_modRing _ _ _ _)

/-- An entry of a ring moves its device index and nothing else outside the host's record. -/
theorem quiet_ringWrite (s : State) (n : Nat) (e : List Byte) :
    s.quiet (s.ringWrite n e) (keysOf [Reg.RING_DEV_INDEX_DEV_INDEX n]) :=
  quiet_then (quiet_then (quiet_memWrite s _ _ _) (quiet_advance _ _)) (quiet_modRing _ _ _ _)

theorem quiet_restartKeepalive (s : State) (m : Keys) : s.quiet s.restartKeepalive m :=
  ⟨only_mono (only_of_regs (P := [.events]) rfl fun p hp => by cases p <;> simp_all [Part.same]) (by simp) (keysOf_nil m), rfl, rfl⟩

theorem quiet_postCompletion (s : State) (cq : Nat) (r : Bool) (e : List Byte) :
    s.quiet (s.postCompletion cq r e) (keysOf [Reg.RING_DEV_INDEX_DEV_INDEX cq]) := by
  rw [State.postCompletion]
  split
  · exact quiet_then (quiet_then (quiet_ringWrite s _ _) (quiet_modRing _ _ _ _)) (quiet_restartKeepalive _ _)
  · split
    · exact quiet_modHost s _ _ rfl rfl
    · exact quiet_id s _

/-- Everything that the completion of a command does (Table 16-4, R431, R437, R439, R440, R452, R462). -/
theorem complete_spec (s : State) (op : Nat) (c : CmdIn) (r : CmdRes) :
    s.only (s.complete op c r) [.host, .events] (completionKeys s c) ∧ (s.complete op c r).completed op c r := by
  have first : ∃ t, t = s.modHost (fun h => { h with completion := completionBytes s.attention op c r
                                                     output := if r.st = .ok then r.out else [] }) ∧
      s.only t [.host, .events] (completionKeys s c) ∧ t.completed op c r ∧
      t.get (Reg.RING_CFG_CQ c.ring) = s.get (Reg.RING_CFG_CQ c.ring) :=
    ⟨_, rfl, only_mono (only_modHost s _) (by simp) (keysOf_nil _), ⟨⟨_, rfl⟩, rfl⟩, rfl⟩
  obtain ⟨t, ht, h1, h2, h3⟩ := first
  have rest (u : State) (h : t.quiet u (completionKeys s c)) :
      s.only u [.host, .events] (completionKeys s c) ∧ u.completed op c r :=
    ⟨only_then h1 h.1, by obtain ⟨⟨a, ha⟩, hb⟩ := h2; exact ⟨⟨a, h.2.1.trans ha⟩, h.2.2.trans hb⟩⟩
  rw [State.complete]
  dsimp only
  rw [← ht]
  clear ht
  split
  · exact rest _ (quiet_modHost t _ _ rfl rfl)
  · have post (v : State) (b : Bool) (e : List Byte) (h : v.get (Reg.RING_CFG_CQ c.ring) = s.get (Reg.RING_CFG_CQ c.ring)) :
        v.quiet (v.postCompletion (v.get (Reg.RING_CFG_CQ c.ring)) b e) (completionKeys s c) :=
      quiet_mono (quiet_postCompletion v _ _ _) (by simp [keysOf, completionKeys, h])
    have stop (v : State) : v.quiet (v.ringIdle c.ring) (completionKeys s c) :=
      quiet_mono (quiet_ringIdle v _) (by simp [keysOf, completionKeys])
    have wrote (p : Prop) [Decidable p] (d : List Byte) : ∃ v, v = (if p then t else t.memWrite c.outAddr d) ∧
        t.quiet v (completionKeys s c) ∧ v.get (Reg.RING_CFG_CQ c.ring) = s.get (Reg.RING_CFG_CQ c.ring) := by
      refine ⟨_, rfl, ?_, ?_⟩
      · split
        · exact quiet_id t _
        · exact quiet_memWrite t _ _ _
      · split
        · exact h3
        · rw [(quiet_memWrite t c.outAddr d (keysOf [])).1.2 _ (by simp [keysOf]), h3]
    obtain ⟨v, hv, q, hq⟩ := wrote (((if r.st = .ok then r.out else []).isEmpty || c.outAddr = 0) = true)
      (if r.st = .ok then r.out else [])
    rw [← hv]
    have w := quiet_then q (post v (t.isRunning op c) (completionBytes s.attention op c r) hq)
    split
    · split
      · exact rest _ (quiet_then w (stop _))
      · exact rest _ (quiet_then (quiet_then w (quiet_modRing _ _ _ _)) (stop _))
    · exact rest _ w

/-- What the completion of a command can move (R431, R437, R439, R452). -/
theorem only_complete (s : State) (op : Nat) (c : CmdIn) (r : CmdRes) :
    s.only (s.complete op c r) [.host, .events] (completionKeys s c) := (complete_spec s op c r).1

/-- A command that is neither turned away nor waits has its effect, the end of its routine and its completion. -/
theorem runLong_accepted {s : State} {op : Nat} {o : OpInfo} {c : CmdIn} (atOnce : CmdIn → State → Bool)
    (core : CmdIn → State → CmdRes × State) (hr : s.running = true) (ho : opInfo op = some o) (hg : s.cmdGate op o c = none)
    (hm : s.mayAct op o c (atOnce c s) = true) : runLong op atOnce core c s = .next (State.settle (s.carryOut op o core c)) := by
  rw [runLong, whenUp_running hr, ho]
  simp only [hg, hm, if_true]

/-- A command that must wait has no effect: it is sent again. -/
theorem runLong_waits {s : State} {op : Nat} {o : OpInfo} {c : CmdIn} (atOnce : CmdIn → State → Bool)
    (core : CmdIn → State → CmdRes × State) (hr : s.running = true) (ho : opInfo op = some o) (hg : s.cmdGate op o c = none)
    (hm : s.mayAct op o c (atOnce c s) = false) : runLong op atOnce core c s = .next s.settle := by
  rw [runLong, whenUp_running hr, ho]
  simp [hg, hm]

/-- A command that is turned away has no effect but its completion. -/
theorem runLong_refused {s : State} {op : Nat} {o : OpInfo} {c : CmdIn} {r : CmdRes} (atOnce : CmdIn → State → Bool)
    (core : CmdIn → State → CmdRes × State) (hr : s.running = true) (ho : opInfo op = some o) (hg : s.cmdGate op o c = some r) :
    runLong op atOnce core c s = .next (State.settle (s.complete op c r)) := by
  rw [runLong, whenUp_running hr, ho]
  simp only [hg]

/-- A command that no routine carries may act in its turn. -/
theorem mayAct_turn {s : State} {op : Nat} {o : OpInfo} {c : CmdIn} {b : Bool} (h : s.myTurn op c = true) (ho : o.routine = none) :
    s.mayAct op o c b = true := by simp [State.mayAct, h, ho]

end Sys2Proof.Machine
end

