-- ==== Sys2Proof/Laws/Access.lean ====
section
/-! SUPPORT. Register access: which register an address finds, when an access is served, and what an accepted or refused
write leaves (R10 to R14, R72, R415). -/

namespace Sys2Proof.Machine

/-! ### Finding a register -/

theorem index_hit (f : RegFam) {addr i j : Nat} (ha : addr = f.base + f.stride * i + f.stride2 * j)
    (hi : i < f.count) (hj : j < f.count2) (h1 : f.stride ≠ 0 ∧ f.stride2 * j < f.stride ∨ f.stride = 0 ∧ i = 0)
    (h2 : f.stride2 ≠ 0 ∨ f.stride2 = 0 ∧ j = 0) : f.index addr = some (i, j) := by
  subst ha
  have hb : f.base + f.stride * i + f.stride2 * j - f.base = f.stride2 * j + f.stride * i := by omega
  have hn : ¬ f.base + f.stride * i + f.stride2 * j < f.base := by omega
  unfold RegFam.index
  rw [if_neg hn, hb]
  rcases h1 with ⟨h1, hl⟩ | ⟨h1, rfl⟩
  · have e1 : (f.stride2 * j + f.stride * i) / f.stride = i := by
      rw [Nat.add_mul_div_left _ _ (by omega), Nat.div_eq_of_lt hl, Nat.zero_add]
    have e2 : (f.stride2 * j + f.stride * i) % f.stride = f.stride2 * j := by
      rw [Nat.add_mul_mod_self_left, Nat.mod_eq_of_lt hl]
    rcases h2 with h2 | ⟨h2, rfl⟩
    · simp [h1, h2, e1, e2, hi, hj, Nat.mul_div_cancel_left j (by omega : 0 < f.stride2)]
    · simp [h1, h2, hi, hj]
  · rcases h2 with h2 | ⟨h2, rfl⟩
    · simp [h1, h2, hi, hj, Nat.mul_div_cancel_left j (by omega : 0 < f.stride2)]
    · simp [h1, h2, hi, hj]

/-- A family whose registers an address does not meet. -/
theorem index_miss (f : RegFam) {addr : Nat} (h : addr < f.base ∨ f.stride = 0 ∧ f.stride2 = 0 ∧ addr ≠ f.base ∨
    f.stride ≠ 0 ∧ f.count * f.stride ≤ addr - f.base ∨ f.stride ≠ 0 ∧ f.stride2 = 0 ∧ (addr - f.base) % f.stride ≠ 0 ∨
    f.stride ≠ 0 ∧ f.stride2 ≠ 0 ∧ f.count2 * f.stride2 ≤ (addr - f.base) % f.stride) : f.index addr = none := by
  unfold RegFam.index
  by_cases hb : addr < f.base
  · simp [hb]
  rw [if_neg hb]
  rcases h with h | ⟨h1, h2, h3⟩ | ⟨h1, h2⟩ | ⟨h1, h2, h3⟩ | ⟨h1, h2, h3⟩
  · exact absurd h hb
  · have : addr - f.base ≠ 0 := by omega
    simp [h1, h2, this]
  · have : f.count ≤ (addr - f.base) / f.stride := (Nat.le_div_iff_mul_le (by omega)).mpr h2
    simp [h1]
    omega
  · simp [h1, h2, h3]
  · have : f.count2 ≤ (addr - f.base) % f.stride / f.stride2 := (Nat.le_div_iff_mul_le (by omega)).mpr h3
    simp [h1, h2]
    omega

/-- Look for the register of an address in a list of families. -/
def findFam (l : List RegFam) (addr : Nat) : Option (RegFam × Nat × Nat) := l.findSome? fun f => (f.index addr).map fun i => (f, i)

theorem findFam_skip {f : RegFam} {l : List RegFam} {addr : Nat} (h : f.index addr = none) : findFam (f :: l) addr = findFam l addr := by
  simp [findFam, h]

theorem findFam_hit {f : RegFam} {l : List RegFam} {addr i j : Nat} (h : f.index addr = some (i, j)) :
    findFam (f :: l) addr = some (f, i, j) := by simp [findFam, h]

theorem regAt_page {addr n : Nat} (h : addr / 0x100000 = n) : regAt addr = findFam (famsOfPage n) addr := by rw [← h]; rfl

/-- The register at an address: its lane rule and its fields. -/
def regIs (addr : Nat) (owner : RegOwner) (i j : Nat) (fields : List (Access × Fld)) : Prop :=
  ∃ f, regAt addr = some (f, i, j) ∧ f.owner = owner ∧ f.fields i j = fields

theorem regIs_SYS_SCRATCH : regIs (0x20) .plain 0 0
    [(.rw, Reg.SYS_SCRATCH_VALUE)] := by
  refine Exists.intro ?f ⟨?a, ?b, ?c⟩
  rotate_left
  rw [regAt_page (n := 0) (by omega), famsOfPage, famsPage0]
  iterate 4 rw [findFam_skip (index_miss _ (by dsimp only; omega))]
  refine findFam_hit (i := 0) (j := 0) (index_hit _ ?_ ?_ ?_ ?_ ?_) <;> simp
  all_goals rfl

theorem regIs_SYS_CORE_SPEED : regIs (0x100) .plain 0 0
    [(.rc, Reg.SYS_CORE_SPEED_MIN_MT), (.ro, Reg.SYS_CORE_SPEED_NOW_MT)] := by
  refine Exists.intro ?f ⟨?a, ?b, ?c⟩
  rotate_left
  rw [regAt_page (n := 0) (by omega), famsOfPage, famsPage0]
  iterate 5 rw [findFam_skip (index_miss _ (by dsimp only; omega))]
  refine findFam_hit (i := 0) (j := 0) (index_hit _ ?_ ?_ ?_ ?_ ?_) <;> simp
  all_goals rfl

theorem regIs_SYS_CTRL : regIs (0x140) .plain 0 0
    [(.wo, Reg.SYS_CTRL_WARM_RESET)] := by
  refine Exists.intro ?f ⟨?a, ?b, ?c⟩
  rotate_left
  rw [regAt_page (n := 0) (by omega), famsOfPage, famsPage0]
  iterate 12 rw [findFam_skip (index_miss _ (by dsimp only; omega))]
  refine findFam_hit (i := 0) (j := 0) (index_hit _ ?_ ?_ ?_ ?_ ?_) <;> simp
  all_goals rfl

theorem regIs_SYS_FUNC_RESET : regIs (0x150) .plain 0 0
    [(.wo, Reg.SYS_FUNC_RESET_FUNC)] := by
  refine Exists.intro ?f ⟨?a, ?b, ?c⟩
  rotate_left
  rw [regAt_page (n := 0) (by omega), famsOfPage, famsPage0]
  iterate 14 rw [findFam_skip (index_miss _ (by dsimp only; omega))]
  refine findFam_hit (i := 0) (j := 0) (index_hit _ ?_ ?_ ?_ ?_ ?_) <;> simp
  all_goals rfl

theorem regIs_SYS_BIST_CTRL : regIs (0x170) .plain 0 0
    [(.wo, Reg.SYS_BIST_CTRL_START), (.rw, Reg.SYS_BIST_CTRL_BLOCK)] := by
  refine Exists.intro ?f ⟨?a, ?b, ?c⟩
  rotate_left
  rw [regAt_page (n := 0) (by omega), famsOfPage, famsPage0]
  iterate 18 rw [findFam_skip (index_miss _ (by dsimp only; omega))]
  refine findFam_hit (i := 0) (j := 0) (index_hit _ ?_ ?_ ?_ ?_ ?_) <;> simp
  all_goals rfl

theorem regIs_MAC_OCTET_MODE {n : Nat} (h : n < 128) : regIs (0x200000 + 4 * n) .plain n 0
    [(.rw, Reg.MAC_OCTET_MODE_RATE n), (.rw, Reg.MAC_OCTET_MODE_MODE n)] := by
  refine Exists.intro ?f ⟨?a, ?b, ?c⟩
  rotate_left
  rw [regAt_page (n := 2) (by omega), famsOfPage, famsPage2]
  refine findFam_hit (i := n) (j := 0) (index_hit _ ?_ ?_ ?_ ?_ ?_) <;> simp <;> omega
  all_goals rfl

theorem regIs_MAC_PORT_CTRL {n : Nat} (h : n < 1024) : regIs (0x201000 + 32 * n) .port n 0
    [(.rw, Reg.MAC_PORT_CTRL_DN_DEBOUNCE n), (.rw, Reg.MAC_PORT_CTRL_UP_DEBOUNCE n), (.rw, Reg.MAC_PORT_CTRL_FLOW_CTRL n), (.rw, Reg.MAC_PORT_CTRL_LOOPBACK n), (.rw, Reg.MAC_PORT_CTRL_FEC n), (.rw, Reg.MAC_PORT_CTRL_AN_EN n), (.rw, Reg.MAC_PORT_CTRL_ENABLE n)] := by
  refine Exists.intro ?f ⟨?a, ?b, ?c⟩
  rotate_left
  rw [regAt_page (n := 2) (by omega), famsOfPage, famsPage2]
  iterate 3 rw [findFam_skip (index_miss _ (by dsimp only; omega))]
  refine findFam_hit (i := n) (j := 0) (index_hit _ ?_ ?_ ?_ ?_ ?_) <;> simp <;> omega
  all_goals rfl

theorem regIs_MAC_PORT_FRAME {n : Nat} (h : n < 1024) : regIs (0x201004 + 32 * n) .port n 0
    [(.rw, Reg.MAC_PORT_FRAME_FRAME_MAX n)] := by
  refine Exists.intro ?f ⟨?a, ?b, ?c⟩
  rotate_left
  rw [regAt_page (n := 2) (by omega), famsOfPage, famsPage2]
  iterate 4 rw [findFam_skip (index_miss _ (by dsimp only; omega))]
  refine findFam_hit (i := n) (j := 0) (index_hit _ ?_ ?_ ?_ ?_ ?_) <;> simp <;> omega
  all_goals rfl

theorem regIs_TIME_DOM_CTRL {n : Nat} (h : n < 2) : regIs (0x400000 + 128 * n) .plain n 0
    [(.rw, Reg.TIME_DOM_CTRL_WDOG_MS n), (.rw, Reg.TIME_DOM_CTRL_SLEW_MAX n), (.rw, Reg.TIME_DOM_CTRL_TREF_SEL n), (.rw, Reg.TIME_DOM_CTRL_PPS_EN n), (.rw, Reg.TIME_DOM_CTRL_TRACEABLE n), (.rw, Reg.TIME_DOM_CTRL_LOCKED n)] := by
  refine Exists.intro ?f ⟨?a, ?b, ?c⟩
  rotate_left
  rw [regAt_page (n := 4) (by omega), famsOfPage, famsPage4]
  refine findFam_hit (i := n) (j := 0) (index_hit _ ?_ ?_ ?_ ?_ ?_) <;> simp <;> omega
  all_goals rfl

theorem regIs_TIME_DOM_FREQ {n : Nat} (h : n < 2) : regIs (0x400004 + 128 * n) .plain n 0
    [(.rw, Reg.TIME_DOM_FREQ_FREQ_ADJ n)] := by
  refine Exists.intro ?f ⟨?a, ?b, ?c⟩
  rotate_left
  rw [regAt_page (n := 4) (by omega), famsOfPage, famsPage4]
  iterate 1 rw [findFam_skip (index_miss _ (by dsimp only; omega))]
  refine findFam_hit (i := n) (j := 0) (index_hit _ ?_ ?_ ?_ ?_ ?_) <;> simp <;> omega
  all_goals rfl

theorem regIs_TIME_DOM_PHASE {n : Nat} (h : n < 2) : regIs (0x400008 + 128 * n) .plain n 0
    [(.wo, Reg.TIME_DOM_PHASE_PHASE_ADJ n)] := by
  refine Exists.intro ?f ⟨?a, ?b, ?c⟩
  rotate_left
  rw [regAt_page (n := 4) (by omega), famsOfPage, famsPage4]
  iterate 2 rw [findFam_skip (index_miss _ (by dsimp only; omega))]
  refine findFam_hit (i := n) (j := 0) (index_hit _ ?_ ?_ ?_ ?_ ?_) <;> simp <;> omega
  all_goals rfl

theorem regIs_TIME_DOM_CMD {n : Nat} (h : n < 2) : regIs (0x400014 + 128 * n) .plain n 0
    [(.wo, Reg.TIME_DOM_CMD_SET_AT_PPS n), (.wo, Reg.TIME_DOM_CMD_SET n)] := by
  refine Exists.intro ?f ⟨?a, ?b, ?c⟩
  rotate_left
  rw [regAt_page (n := 4) (by omega), famsOfPage, famsPage4]
  iterate 5 rw [findFam_skip (index_miss _ (by dsimp only; omega))]
  refine findFam_hit (i := n) (j := 0) (index_hit _ ?_ ?_ ?_ ?_ ?_) <;> simp <;> omega
  all_goals rfl

theorem regIs_TIME_SNAP : regIs (0x400108) .plain 0 0
    [(.wo, Reg.TIME_SNAP_SNAP)] := by
  refine Exists.intro ?f ⟨?a, ?b, ?c⟩
  rotate_left
  rw [regAt_page (n := 4) (by omega), famsOfPage, famsPage4]
  iterate 20 rw [findFam_skip (index_miss _ (by dsimp only; omega))]
  refine findFam_hit (i := 0) (j := 0) (index_hit _ ?_ ?_ ?_ ?_ ?_) <;> simp
  all_goals rfl

theorem regIs_TIME_TPO_CTRL {n : Nat} (h : n < 8) : regIs (0x400200 + 32 * n) .plain n 0
    [(.w1c, Reg.TIME_TPO_CTRL_MISSED n), (.ro, Reg.TIME_TPO_CTRL_RUNNING n), (.rw, Reg.TIME_TPO_CTRL_POLARITY n), (.rw, Reg.TIME_TPO_CTRL_PERIODIC n), (.rw, Reg.TIME_TPO_CTRL_ENABLE n)] := by
  refine Exists.intro ?f ⟨?a, ?b, ?c⟩
  rotate_left
  rw [regAt_page (n := 4) (by omega), famsOfPage, famsPage4]
  iterate 26 rw [findFam_skip (index_miss _ (by dsimp only; omega))]
  refine findFam_hit (i := n) (j := 0) (index_hit _ ?_ ?_ ?_ ?_ ?_) <;> simp <;> omega
  all_goals rfl

theorem regIs_TIME_TPI_CTRL {n : Nat} (h : n < 4) : regIs (0x400300 + 32 * n) .plain n 0
    [(.ro, Reg.TIME_TPI_CTRL_COUNT n), (.w1c, Reg.TIME_TPI_CTRL_OVERFLOW n), (.wo, Reg.TIME_TPI_CTRL_POP n), (.rw, Reg.TIME_TPI_CTRL_SOURCE n), (.rw, Reg.TIME_TPI_CTRL_EDGE n), (.rw, Reg.TIME_TPI_CTRL_ENABLE n)] := by
  refine Exists.intro ?f ⟨?a, ?b, ?c⟩
  rotate_left
  rw [regAt_page (n := 4) (by omega), famsOfPage, famsPage4]
  iterate 33 rw [findFam_skip (index_miss _ (by dsimp only; omega))]
  refine findFam_hit (i := n) (j := 0) (index_hit _ ?_ ?_ ?_ ?_ ?_) <;> simp <;> omega
  all_goals rfl

theorem regIs_STAMP_CAL_CTRL : regIs (0x500020) .plain 0 0
    [(.wo, Reg.STAMP_CAL_CTRL_START), (.rw, Reg.STAMP_CAL_CTRL_PORT)] := by
  refine Exists.intro ?f ⟨?a, ?b, ?c⟩
  rotate_left
  rw [regAt_page (n := 5) (by omega), famsOfPage, famsPage5]
  iterate 5 rw [findFam_skip (index_miss _ (by dsimp only; omega))]
  refine findFam_hit (i := 0) (j := 0) (index_hit _ ?_ ?_ ?_ ?_ ?_) <;> simp
  all_goals rfl

theorem regIs_STAMP_CAL_RESULT : regIs (0x500024) .plain 0 0
    [(.ro, Reg.STAMP_CAL_RESULT_STATUS), (.ro, Reg.STAMP_CAL_RESULT_LOOP_ERR)] := by
  refine Exists.intro ?f ⟨?a, ?b, ?c⟩
  rotate_left
  rw [regAt_page (n := 5) (by omega), famsOfPage, famsPage5]
  iterate 6 rw [findFam_skip (index_miss _ (by dsimp only; omega))]
  refine findFam_hit (i := 0) (j := 0) (index_hit _ ?_ ?_ ?_ ?_ ?_) <;> simp
  all_goals rfl

theorem regIs_TALLY_CTRL : regIs (0x600000) .plain 0 0
    [(.rw, Reg.TALLY_CTRL_SVC_LEVEL), (.rw, Reg.TALLY_CTRL_ENABLE)] := by
  refine Exists.intro ?f ⟨?a, ?b, ?c⟩
  rotate_left
  rw [regAt_page (n := 6) (by omega), famsOfPage, famsPage6]
  refine findFam_hit (i := 0) (j := 0) (index_hit _ ?_ ?_ ?_ ?_ ?_) <;> simp
  all_goals rfl

theorem regIs_TALLY_SEAL_PERIOD : regIs (0x60000C) .plain 0 0
    [(.rw, Reg.TALLY_SEAL_PERIOD_PERIOD_US)] := by
  refine Exists.intro ?f ⟨?a, ?b, ?c⟩
  rotate_left
  rw [regAt_page (n := 6) (by omega), famsOfPage, famsPage6]
  iterate 3 rw [findFam_skip (index_miss _ (by dsimp only; omega))]
  refine findFam_hit (i := 0) (j := 0) (index_hit _ ?_ ?_ ?_ ?_ ?_) <;> simp
  all_goals rfl

theorem regIs_TALLY_MRAM_RETIRED : regIs (0x600028) .plain 0 0
    [(.ro, Reg.TALLY_MRAM_RETIRED_RETIRED)] := by
  refine Exists.intro ?f ⟨?a, ?b, ?c⟩
  rotate_left
  rw [regAt_page (n := 6) (by omega), famsOfPage, famsPage6]
  iterate 10 rw [findFam_skip (index_miss _ (by dsimp only; omega))]
  refine findFam_hit (i := 0) (j := 0) (index_hit _ ?_ ?_ ?_ ?_ ?_) <;> simp
  all_goals rfl

theorem regIs_PARSE_PROF_CTRL {n : Nat} (h : n < 64) : regIs (0x708000 + 128 * n) .plain n 0
    [(.ro, Reg.PARSE_PROF_CTRL_DRAINED n), (.rw, Reg.PARSE_PROF_CTRL_VALID n), (.ro, Reg.PARSE_PROF_CTRL_KEY_BYTES n), (.rw, Reg.PARSE_PROF_CTRL_RANGE_EN n)] := by
  refine Exists.intro ?f ⟨?a, ?b, ?c⟩
  rotate_left
  rw [regAt_page (n := 7) (by omega), famsOfPage, famsPage7]
  iterate 8 rw [findFam_skip (index_miss _ (by dsimp only; omega))]
  refine findFam_hit (i := n) (j := 0) (index_hit _ ?_ ?_ ?_ ?_ ?_) <;> simp <;> omega
  all_goals rfl

theorem regIs_DRAM_CTRL : regIs (0x1100000) .plain 0 0
    [(.rw, Reg.DRAM_CTRL_SCRUB_EN), (.rw, Reg.DRAM_CTRL_PARK_EN), (.rw, Reg.DRAM_CTRL_SERVICE)] := by
  refine Exists.intro ?f ⟨?a, ?b, ?c⟩
  rotate_left
  rw [regAt_page (n := 17) (by omega), famsOfPage, famsPage17]
  refine findFam_hit (i := 0) (j := 0) (index_hit _ ?_ ?_ ?_ ?_ ?_) <;> simp
  all_goals rfl

theorem regIs_DRAM_TRAIN : regIs (0x1100014) .plain 0 0
    [(.wo, Reg.DRAM_TRAIN_START), (.ro, Reg.DRAM_TRAIN_LANE_REPAIRED), (.ro, Reg.DRAM_TRAIN_STATUS)] := by
  refine Exists.intro ?f ⟨?a, ?b, ?c⟩
  rotate_left
  rw [regAt_page (n := 17) (by omega), famsOfPage, famsPage17]
  iterate 5 rw [findFam_skip (index_miss _ (by dsimp only; omega))]
  refine findFam_hit (i := 0) (j := 0) (index_hit _ ?_ ?_ ?_ ?_ ?_) <;> simp
  all_goals rfl

theorem regIs_RING_RESUME : regIs (0x130000C) .plain 0 0
    [(.wo, Reg.RING_RESUME_GO), (.wo, Reg.RING_RESUME_RING)] := by
  refine Exists.intro ?f ⟨?a, ?b, ?c⟩
  rotate_left
  rw [regAt_page (n := 19) (by omega), famsOfPage, famsPage19]
  iterate 3 rw [findFam_skip (index_miss _ (by dsimp only; omega))]
  refine findFam_hit (i := 0) (j := 0) (index_hit _ ?_ ?_ ?_ ?_ ?_) <;> simp
  all_goals rfl

theorem regIs_RING_CFG {n : Nat} (h : n < 64) : regIs (0x1301010 + 64 * n) .plain n 0
    [(.rw, Reg.RING_CFG_ENABLE n), (.ro, Reg.RING_CFG_STOPPED n), (.rw, Reg.RING_CFG_BUF_SIZE n), (.rw, Reg.RING_CFG_CQ n), (.rw, Reg.RING_CFG_LOG2_SIZE n)] := by
  refine Exists.intro ?f ⟨?a, ?b, ?c⟩
  rotate_left
  rw [regAt_page (n := 19) (by omega), famsOfPage, famsPage19]
  iterate 14 rw [findFam_skip (index_miss _ (by dsimp only; omega))]
  refine findFam_hit (i := n) (j := 0) (index_hit _ ?_ ?_ ?_ ?_ ?_) <;> simp <;> omega
  all_goals rfl

theorem regIs_EVT_CTRL : regIs (0x1400000) .plain 0 0
    [(.rw, Reg.EVT_CTRL_KEEPALIVE_US)] := by
  refine Exists.intro ?f ⟨?a, ?b, ?c⟩
  rotate_left
  rw [regAt_page (n := 20) (by omega), famsOfPage, famsPage20]
  refine findFam_hit (i := 0) (j := 0) (index_hit _ ?_ ?_ ?_ ?_ ?_) <;> simp
  all_goals rfl

theorem regIs_EVT_MASK {n : Nat} (h : n < 128) : regIs (0x1400300 + 4 * n) .plain n 0
    [(.rw, Reg.EVT_MASK_MASK n)] := by
  refine Exists.intro ?f ⟨?a, ?b, ?c⟩
  rotate_left
  rw [regAt_page (n := 20) (by omega), famsOfPage, famsPage20]
  iterate 4 rw [findFam_skip (index_miss _ (by dsimp only; omega))]
  refine findFam_hit (i := n) (j := 0) (index_hit _ ?_ ?_ ?_ ?_ ?_) <;> simp <;> omega
  all_goals rfl

theorem regIs_RCK_PATCH_CTRL : regIs (0x1500010) .plain 0 0
    [(.wo, Reg.RCK_PATCH_CTRL_LOAD), (.rw, Reg.RCK_PATCH_CTRL_LEN)] := by
  refine Exists.intro ?f ⟨?a, ?b, ?c⟩
  rotate_left
  rw [regAt_page (n := 21) (by omega), famsOfPage, famsPage21]
  iterate 3 rw [findFam_skip (index_miss _ (by dsimp only; omega))]
  refine findFam_hit (i := 0) (j := 0) (index_hit _ ?_ ?_ ?_ ?_ ?_) <;> simp
  all_goals rfl

theorem regIs_SEC_BUNDLE_CTRL : regIs (0x1600018) .plain 0 0
    [(.wo, Reg.SEC_BUNDLE_CTRL_LOAD), (.rw, Reg.SEC_BUNDLE_CTRL_KIND), (.rw, Reg.SEC_BUNDLE_CTRL_LEN)] := by
  refine Exists.intro ?f ⟨?a, ?b, ?c⟩
  rotate_left
  rw [regAt_page (n := 22) (by omega), famsOfPage, famsPage22]
  iterate 6 rw [findFam_skip (index_miss _ (by dsimp only; omega))]
  refine findFam_hit (i := 0) (j := 0) (index_hit _ ?_ ?_ ?_ ?_ ?_) <;> simp
  all_goals rfl

theorem regIs_PAIR_CMD : regIs (0x1700004) .plain 0 0
    [(.wo, Reg.PAIR_CMD_YIELD), (.wo, Reg.PAIR_CMD_CLAIM)] := by
  refine Exists.intro ?f ⟨?a, ?b, ?c⟩
  rotate_left
  rw [regAt_page (n := 23) (by omega), famsOfPage, famsPage23]
  iterate 1 rw [findFam_skip (index_miss _ (by dsimp only; omega))]
  refine findFam_hit (i := 0) (j := 0) (index_hit _ ?_ ?_ ?_ ?_ ?_) <;> simp
  all_goals rfl

theorem regIs_SPAN_CTRL : regIs (0x1800000) .plain 0 0
    [(.rw, Reg.SPAN_CTRL_LEARN), (.rw, Reg.SPAN_CTRL_GROUP_EN), (.rw, Reg.SPAN_CTRL_EN)] := by
  refine Exists.intro ?f ⟨?a, ?b, ?c⟩
  rotate_left
  rw [regAt_page (n := 24) (by omega), famsOfPage, famsPage24]
  refine findFam_hit (i := 0) (j := 0) (index_hit _ ?_ ?_ ?_ ?_ ?_) <;> simp
  all_goals rfl

theorem regIs_OBS_CTRL : regIs (0x1900000) .plain 0 0
    [(.rw, Reg.OBS_CTRL_EN), (.rw, Reg.OBS_CTRL_DIV_B), (.rw, Reg.OBS_CTRL_DIV_A), (.rw, Reg.OBS_CTRL_BANK_B), (.rw, Reg.OBS_CTRL_BANK_A)] := by
  refine Exists.intro ?f ⟨?a, ?b, ?c⟩
  rotate_left
  rw [regAt_page (n := 25) (by omega), famsOfPage, famsPage25]
  refine findFam_hit (i := 0) (j := 0) (index_hit _ ?_ ?_ ?_ ?_ ?_) <;> simp
  all_goals rfl

theorem regIs_OBS_POINT {n : Nat} (h : n < 4) : regIs (0x1900010 + 4 * n) .plain n 0
    [(.rw, Reg.OBS_POINT_POINT_3 n), (.rw, Reg.OBS_POINT_POINT_2 n), (.rw, Reg.OBS_POINT_POINT_1 n), (.rw, Reg.OBS_POINT_POINT_0 n)] := by
  refine Exists.intro ?f ⟨?a, ?b, ?c⟩
  rotate_left
  rw [regAt_page (n := 25) (by omega), famsOfPage, famsPage25]
  iterate 1 rw [findFam_skip (index_miss _ (by dsimp only; omega))]
  refine findFam_hit (i := n) (j := 0) (index_hit _ ?_ ?_ ?_ ?_ ?_) <;> simp <;> omega
  all_goals rfl

/-! ### Accesses that are served -/

/-- A served device turns no access away before it reaches its register. -/
theorem accessGate_served {s : State} (h : s.served) (w : Bool) (addr : Nat) : s.accessGate w addr = .ok := by
  obtain ⟨_, h2, h3, h4, _⟩ := h
  unfold State.accessGate
  simp [h2, h3, h4]

/-- The lane rule of a register is met (R72). -/
def State.laneOk (s : State) (i : Nat) : RegOwner → Prop
  | .plain => True
  | .port => s.isPort i = true
  | .queue => s.isPort (i / 16) = true

/-- A register whose lane rule is met belongs to a port. -/
theorem isPort_of_rule {s : State} {f : RegFam} {i : Nat} {o : RegOwner} (ho : f.owner = o)
    (hp : s.laneOk i o) :
    s.notPort f i = false := by
  cases o <;> simp only [State.notPort, laneOf, ho] <;> simp_all [State.laneOk]

/-- A write that every check lets through: the fields take the value, and the page does what it does beyond them. -/
theorem writeReg_ok {s : State} {addr v i j : Nat} {o : RegOwner} {l : List (Access × Fld)} (h : s.served)
    (hr : regIs addr o i j l) (hd : s.pageDown true addr = false)
    (hp : s.laneOk i o)
    (hw : within v (definedBits l) = true) (hl : writable l = true)
    (hc : s.pageCheck (pageOf addr) (addr % 0x100000) v = .ok) :
    s.writeReg addr v = (.ok, s.pageEffect (s.storeFields l v) (pageOf addr) (addr % 0x100000) v) := by
  obtain ⟨f, hf, ho, hl'⟩ := hr
  have hn := isPort_of_rule ho hp
  subst hl'
  unfold State.writeReg
  simp [accessGate_served h, hf, hd, hn, hw, hl, hc]

/-- A write that the owning chapter refuses leaves the state as it is. -/
theorem writeReg_refused {s : State} {addr v i j : Nat} {o : RegOwner} {l : List (Access × Fld)} {st : Status} (h : s.served)
    (hr : regIs addr o i j l) (hd : s.pageDown true addr = false)
    (hp : s.laneOk i o)
    (hw : within v (definedBits l) = true) (hl : writable l = true)
    (hc : s.pageCheck (pageOf addr) (addr % 0x100000) v = st) (hs : st ≠ .ok) :
    s.writeReg addr v = (st, s) := by
  obtain ⟨f, hf, ho, hl'⟩ := hr
  have hn := isPort_of_rule ho hp
  subst hl'
  unfold State.writeReg
  simp [accessGate_served h, hf, hd, hn, hw, hl, hc]

/-- Any refused write leaves the state as it is (R13). -/
theorem writeReg_unchanged (s : State) (addr v : Nat) (h : (s.writeReg addr v).1 ≠ .ok) : (s.writeReg addr v).2 = s := by
  unfold State.writeReg at *
  split at h
  · split at h
    · rfl
    · dsimp only at *
      repeat' split at h <;> simp_all
      all_goals (split <;> rfl)
  · rfl

/-- An accepted write as a command, when no warm reset follows it. -/
theorem hostWrite_ok {s t : State} {addr v : Nat} (hv : v < 2 ^ 32) (hw : s.writeReg addr v = (.ok, t))
    (hb : t.get Reg.SYS_CTRL_WARM_RESET = 0) : s.hostWrite addr v = { t with lastStatus := .ok, lastData := 0 } := by
  have hb' : t.bit Reg.SYS_CTRL_WARM_RESET = false := by simp [State.bit, hb]
  rw [State.hostWrite, Nat.mod_eq_of_lt hv, hw]
  simp only [hb']
  rfl

/-- A refused write as a command: only the answer moves. -/
theorem hostWrite_refused {s : State} {addr v : Nat} {st : Status} (hv : v < 2 ^ 32) (hw : s.writeReg addr v = (st, s))
    (hb : s.get Reg.SYS_CTRL_WARM_RESET = 0) : s.hostWrite addr v = { s with lastStatus := st, lastData := 0 } := by
  have hb' : s.bit Reg.SYS_CTRL_WARM_RESET = false := by simp [State.bit, hb]
  rw [State.hostWrite, Nat.mod_eq_of_lt hv, hw]
  simp only [hb']
  rfl

/-- The step of a register write that the device accepts: `t` is what the write leaves. -/
theorem write_step {s t : State} {addr v : Nat} (h : s.served) (hv : v < 2 ^ 32) (hw : s.writeReg addr v = (.ok, t))
    (hb : t.get Reg.SYS_CTRL_WARM_RESET = 0) :
    whenUp s (fun s => s.hostWrite addr v) = .next (State.settle { t with lastStatus := .ok, lastData := 0 }) := by
  rw [whenUp_running h.1, hostWrite_ok hv hw hb]

end Sys2Proof.Machine
end

