-- ==== Sys2Proof/Laws/Keep.lean ====
section
/-! SUPPORT. Frames read backwards: a frame reaches over one more update when the update's part or field is named. -/

namespace Sys2Proof.Machine

variable {s x : State} {P : List Part} {m : Keys}

/-- A frame reaches over an update that leaves the registers and every part that is not named. -/
theorem keep_part {y : State} (h : s.only x P m) (hr : y.regs = x.regs) (hp : ∀ p, p ∉ P → p.same x y) : s.only y P m :=
  only_then h (only_mono (only_of_regs hr hp) (fun _ => id) (keysOf_nil m))

theorem keep_settle (h : s.only x P m) : s.only x.settle P m := only_settled h

theorem keep_if {y : State} {p : Prop} [Decidable p] (h : s.only x P m) (k : s.only y P m) : s.only (if p then x else y) P m :=
  by split <;> assumption

/-- A frame reaches over a loop whose body it reaches over. -/
theorem keep_foldl {α : Type} {l : List α} {f : State → α → State} (h : s.only x P m)
    (hf : ∀ (u : State) (a : α), u.only (f u a) P m) : s.only (l.foldl f x) P m :=
  only_then h (only_foldl f hf l x)

theorem keep_set (f : Fld) (v : Nat) (h : s.only x P m) (hm : m (Fld.key f)) : s.only (x.set f v) P m :=
  only_then h (only_mono (only_set x f v) (by simp) fun k hk => by simp [keysOf] at hk; exact hk ▸ hm)

theorem keep_on (f : Fld) (h : s.only x P m) (hm : m (Fld.key f)) : s.only (x.on f) P m :=
  keep_set _ _ h hm

theorem keep_off (f : Fld) (h : s.only x P m) (hm : m (Fld.key f)) : s.only (x.off f) P m :=
  keep_set _ _ h hm

theorem keep_setB (f : Fld) (b : Bool) (h : s.only x P m) (hm : m (Fld.key f)) : s.only (x.setB f b) P m :=
  keep_set _ _ h hm

theorem keep_orBits (f : Fld) (n : Nat) (h : s.only x P m) (hm : m (Fld.key f)) : s.only (x.orBits f n) P m :=
  keep_set _ _ h hm

theorem keep_putBit (f : Fld) (i : Nat) (b : Bool) (h : s.only x P m) (hm : m (Fld.key f)) : s.only (x.putBit f i b) P m :=
  keep_set _ _ h hm

theorem keep_satAdd (f : Fld) (n : Nat) (h : s.only x P m) (hm : m (Fld.key f)) : s.only (x.satAdd f n) P m :=
  keep_set _ _ h hm

theorem keep_maxTo (f : Fld) (n : Nat) (h : s.only x P m) (hm : m (Fld.key f)) : s.only (x.maxTo f n) P m :=
  keep_set _ _ h hm

theorem keep_setFunc (n v : Nat) (h : s.only x P m) (hm : m (Fld.key Reg.SYS_FUNC_STATUS_STATE)) : s.only (x.setFunc n v) P m :=
  keep_set _ _ h hm

theorem keep_modPort (p : Nat) (f : PortDyn → PortDyn) (h : s.only x P m) (hp : Part.ports ∈ P) : s.only (x.modPort p f) P m :=
  keep_part h rfl fun q hq => by cases q <;> first | exact absurd hp hq | exact rfl | exact ⟨rfl, rfl⟩

theorem keep_modHost (f : HostSt → HostSt) (h : s.only x P m) (hp : Part.host ∈ P) : s.only (x.modHost f) P m :=
  keep_part h rfl fun q hq => by cases q <;> first | exact absurd hp hq | exact rfl | exact ⟨rfl, rfl⟩

theorem keep_modRing (n : Nat) (f : RingDyn → RingDyn) (h : s.only x P m) (hp : Part.host ∈ P) : s.only (x.modRing n f) P m :=
  keep_part h rfl fun q hq => by cases q <;> first | exact absurd hp hq | exact rfl | exact ⟨rfl, rfl⟩

theorem keep_modPath (f : PathSt → PathSt) (h : s.only x P m) (hp : Part.path ∈ P) : s.only (x.modPath f) P m :=
  keep_part h rfl fun q hq => by cases q <;> first | exact absurd hp hq | exact rfl | exact ⟨rfl, rfl⟩

theorem keep_setFrame (f : Nat) (z : Frame) (h : s.only x P m) (hp : Part.path ∈ P) : s.only (x.setFrame f z) P m :=
  keep_part h rfl fun q hq => by cases q <;> first | exact absurd hp hq | exact rfl | exact ⟨rfl, rfl⟩

theorem keep_setCopy (c : Nat) (z : Copy) (h : s.only x P m) (hp : Part.path ∈ P) : s.only (x.setCopy c z) P m :=
  keep_part h rfl fun q hq => by cases q <;> first | exact absurd hp hq | exact rfl | exact ⟨rfl, rfl⟩

theorem keep_modTally (f : TallySt → TallySt) (h : s.only x P m) (hp : Part.tally ∈ P) : s.only (x.modTally f) P m :=
  keep_part h rfl fun q hq => by cases q <;> first | exact absurd hp hq | exact rfl | exact ⟨rfl, rfl⟩

theorem keep_modPair (f : PairSt → PairSt) (h : s.only x P m) (hp : Part.pair ∈ P) : s.only (x.modPair f) P m :=
  keep_part h rfl fun q hq => by cases q <;> first | exact absurd hp hq | exact rfl | exact ⟨rfl, rfl⟩

theorem keep_modPlat (f : PlatSt → PlatSt) (h : s.only x P m) (hp : Part.plat ∈ P) : s.only (x.modPlat f) P m :=
  keep_part h rfl fun q hq => by cases q <;> first | exact absurd hp hq | exact rfl | exact ⟨rfl, rfl⟩

theorem keep_modDram (f : DramSt → DramSt) (h : s.only x P m) (hp : Part.dram ∈ P) : s.only (x.modDram f) P m :=
  keep_part h rfl fun q hq => by cases q <;> first | exact absurd hp hq | exact rfl | exact ⟨rfl, rfl⟩

theorem keep_modStamp (f : StampSt → StampSt) (h : s.only x P m) (hp : Part.stamp ∈ P) : s.only (x.modStamp f) P m :=
  keep_part h rfl fun q hq => by cases q <;> first | exact absurd hp hq | exact rfl | exact ⟨rfl, rfl⟩

theorem keep_modTm (f : TmSt → TmSt) (h : s.only x P m) (hp : Part.tm ∈ P) : s.only (x.modTm f) P m :=
  keep_part h rfl fun q hq => by cases q <;> first | exact absurd hp hq | exact rfl | exact ⟨rfl, rfl⟩

theorem keep_modBuf (f : BufSt → BufSt) (h : s.only x P m) (hp : Part.buf ∈ P) : s.only (x.modBuf f) P m :=
  keep_part h rfl fun q hq => by cases q <;> first | exact absurd hp hq | exact rfl | exact ⟨rfl, rfl⟩

theorem keep_modFlow (f : FlowSt → FlowSt) (h : s.only x P m) (hp : Part.flow ∈ P) : s.only (x.modFlow f) P m :=
  keep_part h rfl fun q hq => by cases q <;> first | exact absurd hp hq | exact rfl | exact ⟨rfl, rfl⟩

theorem keep_modReck (f : ReckSt → ReckSt) (h : s.only x P m) (hp : Part.reck ∈ P) : s.only (x.modReck f) P m :=
  keep_part h rfl fun q hq => by cases q <;> first | exact absurd hp hq | exact rfl | exact ⟨rfl, rfl⟩

theorem keep_modSec (f : SecSt → SecSt) (h : s.only x P m) (hp : Part.sec ∈ P) : s.only (x.modSec f) P m :=
  keep_part h rfl fun q hq => by cases q <;> first | exact absurd hp hq | exact rfl | exact ⟨rfl, rfl⟩

theorem keep_setDom (d : Nat) (z : DomSt) (h : s.only x P m) (hp : Part.time ∈ P) : s.only (x.setDom d z) P m :=
  keep_part h rfl fun q hq => by cases q <;> first | exact absurd hp hq | exact rfl | exact ⟨rfl, rfl⟩

theorem keep_setPres (p : PresSt) (h : s.only x P m) (hp : Part.time ∈ P) : s.only (x.setPres p) P m :=
  keep_part h rfl fun q hq => by cases q <;> first | exact absurd hp hq | exact rfl | exact ⟨rfl, rfl⟩

theorem keep_setTpo (n : Nat) (z : TpoSt) (h : s.only x P m) (hp : Part.time ∈ P) : s.only (x.setTpo n z) P m :=
  keep_part h rfl fun q hq => by cases q <;> first | exact absurd hp hq | exact rfl | exact ⟨rfl, rfl⟩

theorem keep_request (k : RoutineKind) (c : Option CmdIn) (h : s.only x P m) (hp : Part.reck ∈ P) : s.only (x.request k c) P m :=
  keep_part h rfl fun q hq => by cases q <;> first | exact absurd hp hq | exact rfl | exact ⟨rfl, rfl⟩

theorem keep_endRoutine (p : RoutineKind → Bool) (h : s.only x P m) (hp : Part.reck ∈ P) : s.only (x.endRoutine p) P m :=
  keep_part h rfl fun q hq => by cases q <;> first | exact absurd hp hq | exact rfl | exact ⟨rfl, rfl⟩

theorem keep_endOwn (k : RoutineKind) (c : CmdIn) (h : s.only x P m) (hp : Part.reck ∈ P) : s.only (x.endOwn k c) P m :=
  keep_part h rfl fun q hq => by cases q <;> first | exact absurd hp hq | exact rfl | exact ⟨rfl, rfl⟩

theorem keep_restartKeepalive (h : s.only x P m) (hp : Part.events ∈ P) : s.only (x.restartKeepalive) P m :=
  keep_part h rfl fun q hq => by cases q <;> first | exact absurd hp hq | exact rfl | exact ⟨rfl, rfl⟩

end Sys2Proof.Machine
end

