-- ==== Sys2Proof/Laws/Extent.lean ====
section
/-! SUPPORT. The tools with which the extent of each operation is shown: which parts it may touch and which registers, at
any index. -/

namespace Sys2Proof.Machine

variable {s x y : State} {P Q : List Part} {L M : List String} {m : Keys}

theorem regsOf_mono (h : ∀ r ∈ L, r ∈ M) {k : Nat} : regsOf L k → regsOf M k :=
  fun ⟨p, i, j, f, hf, hn, e⟩ => ⟨p, i, j, f, hf, h _ hn, e⟩

/-- A field of a register that the list names. -/
theorem regsOf_mem {f : Fld} (p n i j : Nat) (r : RegFam) (a : Access) (hr : (famsOfPage p)[n]? = some r) (hl : r.name ∈ L)
    (he : (a, f) ∈ r.fields i j) : regsOf L (Fld.key f) :=
  ⟨p, i, j, r, List.mem_of_getElem? hr, hl, _, he, rfl⟩

/-! ### Reaching over the forms of a definition -/

theorem keep_refl (s : State) (P : List Part) (m : Keys) : s.only s P m := ⟨fun p _ => by cases p <;> simp [Part.same], fun _ _ => rfl⟩

theorem cut_at {A B : Prop} (h : A) (k : A → B) : B := k h

theorem keep_pair {α : Type} {p : α × State} {a : α} {t : State} (e : p = (a, t)) (k : s.only p.2 P m) : s.only t P m := by
  subst e; exact k

theorem keep_triple {α β : Type} {p : α × β × State} {a : α} {b : β} {t : State} (e : p = (a, b, t)) (k : s.only p.2.2 P m) :
    s.only t P m := by subst e; exact k

theorem keep_ifp {α : Type} {c : Prop} [Decidable c] {p q : α × State} (h : s.only p.2 P m) (k : s.only q.2 P m) :
    s.only (if c then p else q).2 P m := by split <;> assumption

/-- A callee whose extent is known is reached over. -/
theorem keep_of (k : x.only y Q (regsOf M)) (h : s.only x P (regsOf L)) (hP : ∀ q ∈ Q, q ∈ P) (hL : ∀ r ∈ M, r ∈ L) :
    s.only y P (regsOf L) := only_then h (only_mono k hP fun _ => regsOf_mono hL)

/-- The state that an attempt gives, where it gives one, differs only so far. -/
def State.onlyIf (s : State) (o : Option State) (P : List Part) (m : Keys) : Prop := ∀ t, o = some t → s.only t P m

/-- The same for an attempt that gives a value beside the state. -/
def State.onlyIfP {α : Type} (s : State) (o : Option (α × State)) (P : List Part) (m : Keys) : Prop :=
  ∀ r, o = some r → s.only r.2 P m

theorem try_none : s.onlyIf none P m := fun _ h => by simp at h

theorem try_some (h : s.only x P m) : s.onlyIf (some x) P m := fun _ e => by cases e; exact h

theorem tryp_none {α : Type} : s.onlyIfP (none : Option (α × State)) P m := fun _ h => by simp at h

theorem tryp_some {α : Type} {a : α} (h : s.only x P m) : s.onlyIfP (some (a, x)) P m := fun _ e => by cases e; exact h

theorem try_map {α : Type} {o : Option α} {f : α → State} (h : ∀ a, s.only (f a) P m) : s.onlyIf (o.map f) P m := by
  intro t e
  cases o <;> simp at e
  exact e ▸ h _

theorem tryp_map {α β : Type} {o : Option α} {f : α → β × State} (h : ∀ a, s.only (f a).2 P m) : s.onlyIfP (o.map f) P m := by
  intro t e
  cases o <;> simp at e
  exact e ▸ h _

theorem try_of {o : Option State} (k : x.onlyIf o Q (regsOf M)) (h : s.only x P (regsOf L)) (hP : ∀ q ∈ Q, q ∈ P)
    (hL : ∀ r ∈ M, r ∈ L) : s.onlyIf o P (regsOf L) := fun t e => keep_of (k t e) h hP hL

theorem tryp_of {α : Type} {o : Option (α × State)} (k : x.onlyIfP o Q (regsOf M)) (h : s.only x P (regsOf L))
    (hP : ∀ q ∈ Q, q ∈ P) (hL : ∀ r ∈ M, r ∈ L) : s.onlyIfP o P (regsOf L) := fun t e => keep_of (k t e) h hP hL

theorem keep_opt {o : Option State} {t : State} (e : o = some t) (k : x.onlyIf o Q (regsOf M))
    (h : s.only x P (regsOf L)) (hP : ∀ q ∈ Q, q ∈ P) (hL : ∀ r ∈ M, r ∈ L) : s.only t P (regsOf L) := keep_of (k t e) h hP hL

theorem keep_optp {α : Type} {o : Option (α × State)} {a : α} {t : State} (e : o = some (a, t))
    (k : x.onlyIfP o Q (regsOf M)) (h : s.only x P (regsOf L)) (hP : ∀ q ∈ Q, q ∈ P) (hL : ∀ r ∈ M, r ∈ L) :
    s.only t P (regsOf L) := keep_of (k _ e) h hP hL

theorem keep_snd {α : Type} {a : α} (h : s.only x P m) : s.only (a, x).2 P m := h

theorem keep_fst {α : Type} {a : α} (h : s.only x P m) : s.only (x, a).1 P m := h

theorem keep_fstp {α : Type} {p : State × α} {a : α} {t : State} (e : p = (t, a)) (k : s.only p.1 P m) : s.only t P m := by
  subst e; exact k

theorem keep_foldlp {α β : Type} {l : List α} {f : β × State → α → β × State} {b : β × State} (h : s.only b.2 P m)
    (hf : ∀ (u : β × State) (a : α), u.2.only (f u a).2 P m) : s.only (l.foldl f b).2 P m := by
  induction l generalizing b with
  | nil => exact h
  | cons a l ih => exact ih (only_then h (hf b a))

theorem keep_foldlf {α β : Type} {l : List α} {f : State × β → α → State × β} {b : State × β} (h : s.only b.1 P m)
    (hf : ∀ (u : State × β) (a : α), u.1.only (f u a).1 P m) : s.only (l.foldl f b).1 P m := by
  induction l generalizing b with
  | nil => exact h
  | cons a l ih => exact ih (only_then h (hf b a))

theorem keep_foldl_mem {α : Type} {l : List α} {f : State → α → State} (h : s.only x P m)
    (hf : ∀ (u : State) (a : α), a ∈ l → u.only (f u a) P m) : s.only (l.foldl f x) P m := by
  induction l generalizing x with
  | nil => exact h
  | cons a l ih => exact ih (only_then h (hf x a (by simp))) fun u b hb => hf u b (by simp [hb])

/-! ### Reaching over an update of one part -/

theorem keep_at_time (v : TimeSt) (h : s.only x P m) (hp : Part.time ∈ P) : s.only { x with time := v } P m :=
  keep_part h rfl fun q hq => by cases q <;> first | exact absurd hp hq | exact rfl | exact ⟨rfl, rfl⟩

theorem keep_at_stamp (v : StampSt) (h : s.only x P m) (hp : Part.stamp ∈ P) : s.only { x with stamp := v } P m :=
  keep_part h rfl fun q hq => by cases q <;> first | exact absurd hp hq | exact rfl | exact ⟨rfl, rfl⟩

theorem keep_at_ports (v : SMap PortDyn) (h : s.only x P m) (hp : Part.ports ∈ P) : s.only { x with ports := v } P m :=
  keep_part h rfl fun q hq => by cases q <;> first | exact absurd hp hq | exact rfl | exact ⟨rfl, rfl⟩

theorem keep_at_counters (v : SMap Nat) (h : s.only x P m) (hp : Part.counters ∈ P) : s.only { x with counters := v } P m :=
  keep_part h rfl fun q hq => by cases q <;> first | exact absurd hp hq | exact rfl | exact ⟨rfl, rfl⟩

theorem keep_at_events (v : EventSt) (h : s.only x P m) (hp : Part.events ∈ P) : s.only { x with events := v } P m :=
  keep_part h rfl fun q hq => by cases q <;> first | exact absurd hp hq | exact rfl | exact ⟨rfl, rfl⟩

theorem keep_at_reck (v : ReckSt) (h : s.only x P m) (hp : Part.reck ∈ P) : s.only { x with reck := v } P m :=
  keep_part h rfl fun q hq => by cases q <;> first | exact absurd hp hq | exact rfl | exact ⟨rfl, rfl⟩

theorem keep_at_path (v : PathSt) (h : s.only x P m) (hp : Part.path ∈ P) : s.only { x with path := v } P m :=
  keep_part h rfl fun q hq => by cases q <;> first | exact absurd hp hq | exact rfl | exact ⟨rfl, rfl⟩

theorem keep_at_rules (v : RulesSt) (h : s.only x P m) (hp : Part.rules ∈ P) : s.only { x with rules := v } P m :=
  keep_part h rfl fun q hq => by cases q <;> first | exact absurd hp hq | exact rfl | exact ⟨rfl, rfl⟩

theorem keep_at_fdb (v : FdbSt) (h : s.only x P m) (hp : Part.fdb ∈ P) : s.only { x with fdb := v } P m :=
  keep_part h rfl fun q hq => by cases q <;> first | exact absurd hp hq | exact rfl | exact ⟨rfl, rfl⟩

theorem keep_at_lpm (v : LpmSt) (h : s.only x P m) (hp : Part.lpm ∈ P) : s.only { x with lpm := v } P m :=
  keep_part h rfl fun q hq => by cases q <;> first | exact absurd hp hq | exact rfl | exact ⟨rfl, rfl⟩

theorem keep_at_flow (v : FlowSt) (h : s.only x P m) (hp : Part.flow ∈ P) : s.only { x with flow := v } P m :=
  keep_part h rfl fun q hq => by cases q <;> first | exact absurd hp hq | exact rfl | exact ⟨rfl, rfl⟩

theorem keep_at_mcast (v : McastSt) (h : s.only x P m) (hp : Part.mcast ∈ P) : s.only { x with mcast := v } P m :=
  keep_part h rfl fun q hq => by cases q <;> first | exact absurd hp hq | exact rfl | exact ⟨rfl, rfl⟩

theorem keep_at_buf (v : BufSt) (h : s.only x P m) (hp : Part.buf ∈ P) : s.only { x with buf := v } P m :=
  keep_part h rfl fun q hq => by cases q <;> first | exact absurd hp hq | exact rfl | exact ⟨rfl, rfl⟩

theorem keep_at_tm (v : TmSt) (h : s.only x P m) (hp : Part.tm ∈ P) : s.only { x with tm := v } P m :=
  keep_part h rfl fun q hq => by cases q <;> first | exact absurd hp hq | exact rfl | exact ⟨rfl, rfl⟩

theorem keep_at_tally (v : TallySt) (h : s.only x P m) (hp : Part.tally ∈ P) : s.only { x with tally := v } P m :=
  keep_part h rfl fun q hq => by cases q <;> first | exact absurd hp hq | exact rfl | exact ⟨rfl, rfl⟩

theorem keep_at_host (v : HostSt) (h : s.only x P m) (hp : Part.host ∈ P) : s.only { x with host := v } P m :=
  keep_part h rfl fun q hq => by cases q <;> first | exact absurd hp hq | exact rfl | exact ⟨rfl, rfl⟩

theorem keep_at_dram (v : DramSt) (h : s.only x P m) (hp : Part.dram ∈ P) : s.only { x with dram := v } P m :=
  keep_part h rfl fun q hq => by cases q <;> first | exact absurd hp hq | exact rfl | exact ⟨rfl, rfl⟩

theorem keep_at_sec (v : SecSt) (h : s.only x P m) (hp : Part.sec ∈ P) : s.only { x with sec := v } P m :=
  keep_part h rfl fun q hq => by cases q <;> first | exact absurd hp hq | exact rfl | exact ⟨rfl, rfl⟩

theorem keep_at_pair (v : PairSt) (h : s.only x P m) (hp : Part.pair ∈ P) : s.only { x with pair := v } P m :=
  keep_part h rfl fun q hq => by cases q <;> first | exact absurd hp hq | exact rfl | exact ⟨rfl, rfl⟩

theorem keep_at_span (v : SpanSt) (h : s.only x P m) (hp : Part.span ∈ P) : s.only { x with span := v } P m :=
  keep_part h rfl fun q hq => by cases q <;> first | exact absurd hp hq | exact rfl | exact ⟨rfl, rfl⟩

theorem keep_at_plat (v : PlatSt) (h : s.only x P m) (hp : Part.plat ∈ P) : s.only { x with plat := v } P m :=
  keep_part h rfl fun q hq => by cases q <;> first | exact absurd hp hq | exact rfl | exact ⟨rfl, rfl⟩

theorem keep_at_die (v : DieSt) (h : s.only x P m) (hp : Part.die ∈ P) : s.only { x with die := v } P m :=
  keep_part h rfl fun q hq => by cases q <;> first | exact absurd hp hq | exact rfl | exact ⟨rfl, rfl⟩

theorem keep_at_cycle (v : Nat) (h : s.only x P m) (hp : Part.cycle ∈ P) : s.only { x with cycle := v } P m :=
  keep_part h rfl fun q hq => by cases q <;> first | exact absurd hp hq | exact rfl | exact ⟨rfl, rfl⟩

theorem keep_at_pending (v : List Instr) (h : s.only x P m) (hp : Part.pending ∈ P) : s.only { x with pending := v } P m :=
  keep_part h rfl fun q hq => by cases q <;> first | exact absurd hp hq | exact rfl | exact ⟨rfl, rfl⟩

/-- A state written out part by part. -/
theorem keep_mk {a0 : List Instr} {a1 : Nat} {a2 : SMap Nat} {a3 : Status} {a4 : Nat} {a5 : DieSt} {a6 : Pins} {a7 : TimeSt} {a8 : StampSt} {a9 : SMap PortDyn} {a10 : SMap Nat} {a11 : EventSt} {a12 : ReckSt} {a13 : PathSt} {a14 : RulesSt} {a15 : FdbSt} {a16 : LpmSt} {a17 : FlowSt} {a18 : McastSt} {a19 : BufSt} {a20 : TmSt} {a21 : TallySt} {a22 : HostSt} {a23 : DramSt} {a24 : SecSt} {a25 : PairSt} {a26 : SpanSt} {a27 : PlatSt}
    (h : s.only x P m) (hr : a2 = x.regs)
    (hp : ∀ p, p ∉ P → p.same x ⟨a0, a1, a2, a3, a4, a5, a6, a7, a8, a9, a10, a11, a12, a13, a14, a15, a16, a17, a18, a19, a20, a21, a22, a23, a24, a25, a26, a27⟩) :
    s.only ⟨a0, a1, a2, a3, a4, a5, a6, a7, a8, a9, a10, a11, a12, a13, a14, a15, a16, a17, a18, a19, a20, a21, a22, a23, a24, a25, a26, a27⟩ P m := keep_part h hr hp

/-! ### The written fields and their registers -/

theorem reg_SYS_CORE_SPEED_MIN_MT {L : List String} (h : "SYS_CORE_SPEED" ∈ L) : regsOf L (Fld.key Reg.SYS_CORE_SPEED_MIN_MT) :=
  regsOf_mem 0 5 0 0 _ .rc rfl h (by simp)

theorem reg_SYS_CORE_SPEED_NOW_MT {L : List String} (h : "SYS_CORE_SPEED" ∈ L) : regsOf L (Fld.key Reg.SYS_CORE_SPEED_NOW_MT) :=
  regsOf_mem 0 5 0 0 _ .ro rfl h (by simp)

theorem reg_SYS_STRAP_CHANGED {L : List String} (h : "SYS_STRAP" ∈ L) : regsOf L (Fld.key Reg.SYS_STRAP_CHANGED) :=
  regsOf_mem 0 6 0 0 _ .w1c rfl h (by simp)

theorem reg_SYS_STRAP_TEST_EN {L : List String} (h : "SYS_STRAP" ∈ L) : regsOf L (Fld.key Reg.SYS_STRAP_TEST_EN) :=
  regsOf_mem 0 6 0 0 _ .ro rfl h (by simp)

theorem reg_SYS_STRAP_BOARD_POS {L : List String} (h : "SYS_STRAP" ∈ L) : regsOf L (Fld.key Reg.SYS_STRAP_BOARD_POS) :=
  regsOf_mem 0 6 0 0 _ .ro rfl h (by simp)

theorem reg_SYS_STRAP_PAIR_EN {L : List String} (h : "SYS_STRAP" ∈ L) : regsOf L (Fld.key Reg.SYS_STRAP_PAIR_EN) :=
  regsOf_mem 0 6 0 0 _ .ro rfl h (by simp)

theorem reg_SYS_STRAP_SENIOR {L : List String} (h : "SYS_STRAP" ∈ L) : regsOf L (Fld.key Reg.SYS_STRAP_SENIOR) :=
  regsOf_mem 0 6 0 0 _ .ro rfl h (by simp)

theorem reg_SYS_CLK_STATUS_DOMB_LOST {L : List String} (h : "SYS_CLK_STATUS" ∈ L) : regsOf L (Fld.key Reg.SYS_CLK_STATUS_DOMB_LOST) :=
  regsOf_mem 0 7 0 0 _ .w1c rfl h (by simp)

theorem reg_SYS_CLK_STATUS_DOMA_LOST {L : List String} (h : "SYS_CLK_STATUS" ∈ L) : regsOf L (Fld.key Reg.SYS_CLK_STATUS_DOMA_LOST) :=
  regsOf_mem 0 7 0 0 _ .w1c rfl h (by simp)

theorem reg_SYS_CLK_STATUS_CORE_LOST {L : List String} (h : "SYS_CLK_STATUS" ∈ L) : regsOf L (Fld.key Reg.SYS_CLK_STATUS_CORE_LOST) :=
  regsOf_mem 0 7 0 0 _ .w1c rfl h (by simp)

theorem reg_SYS_CLK_STATUS_ON_OSC {L : List String} (h : "SYS_CLK_STATUS" ∈ L) : regsOf L (Fld.key Reg.SYS_CLK_STATUS_ON_OSC) :=
  regsOf_mem 0 7 0 0 _ .ro rfl h (by simp)

theorem reg_SYS_CLK_STATUS_DOMB_OK {L : List String} (h : "SYS_CLK_STATUS" ∈ L) : regsOf L (Fld.key Reg.SYS_CLK_STATUS_DOMB_OK) :=
  regsOf_mem 0 7 0 0 _ .ro rfl h (by simp)

theorem reg_SYS_CLK_STATUS_DOMA_OK {L : List String} (h : "SYS_CLK_STATUS" ∈ L) : regsOf L (Fld.key Reg.SYS_CLK_STATUS_DOMA_OK) :=
  regsOf_mem 0 7 0 0 _ .ro rfl h (by simp)

theorem reg_SYS_CLK_STATUS_CORE_OK {L : List String} (h : "SYS_CLK_STATUS" ∈ L) : regsOf L (Fld.key Reg.SYS_CLK_STATUS_CORE_OK) :=
  regsOf_mem 0 7 0 0 _ .ro rfl h (by simp)

theorem reg_SYS_CLK_LANE_OK_GROUP_OK {L : List String} (h : "SYS_CLK_LANE_OK" ∈ L) : regsOf L (Fld.key Reg.SYS_CLK_LANE_OK_GROUP_OK) :=
  regsOf_mem 0 8 0 0 _ .ro rfl h (by simp)

theorem reg_SYS_CLK_LANE_LOST_GROUP_LOST {L : List String} (h : "SYS_CLK_LANE_LOST" ∈ L) : regsOf L (Fld.key Reg.SYS_CLK_LANE_LOST_GROUP_LOST) :=
  regsOf_mem 0 9 0 0 _ .w1c rfl h (by simp)

theorem reg_SYS_TEMP_MAX_T {L : List String} (h : "SYS_TEMP" ∈ L) : regsOf L (Fld.key Reg.SYS_TEMP_MAX_T) :=
  regsOf_mem 0 10 0 0 _ .rc rfl h (by simp)

theorem reg_SYS_TEMP_NOW_T {L : List String} (h : "SYS_TEMP" ∈ L) : regsOf L (Fld.key Reg.SYS_TEMP_NOW_T) :=
  regsOf_mem 0 10 0 0 _ .ro rfl h (by simp)

theorem reg_SYS_SUPPLY_FLAGS_VDD_CORE_OUT {L : List String} (h : "SYS_SUPPLY_FLAGS" ∈ L) : regsOf L (Fld.key Reg.SYS_SUPPLY_FLAGS_VDD_CORE_OUT) :=
  regsOf_mem 0 11 0 0 _ .w1c rfl h (by simp)

theorem reg_SYS_CTRL_WARM_RESET {L : List String} (h : "SYS_CTRL" ∈ L) : regsOf L (Fld.key Reg.SYS_CTRL_WARM_RESET) :=
  regsOf_mem 0 12 0 0 _ .wo rfl h (by simp)

theorem reg_SYS_RESET_CAUSE_CAUSE {L : List String} (h : "SYS_RESET_CAUSE" ∈ L) : regsOf L (Fld.key Reg.SYS_RESET_CAUSE_CAUSE) :=
  regsOf_mem 0 13 0 0 _ .ro rfl h (by simp)

theorem reg_SYS_FUNC_STATUS_STATE {L : List String} (h : "SYS_FUNC_STATUS" ∈ L) : regsOf L (Fld.key Reg.SYS_FUNC_STATUS_STATE) :=
  regsOf_mem 0 15 0 0 _ .ro rfl h (by simp)

theorem reg_SYS_FUNC_EVT_FAILED {L : List String} (h : "SYS_FUNC_EVT" ∈ L) : regsOf L (Fld.key Reg.SYS_FUNC_EVT_FAILED) :=
  regsOf_mem 0 16 0 0 _ .w1c rfl h (by simp)

theorem reg_SYS_FUNC_EVT_DONE {L : List String} (h : "SYS_FUNC_EVT" ∈ L) : regsOf L (Fld.key Reg.SYS_FUNC_EVT_DONE) :=
  regsOf_mem 0 16 0 0 _ .w1c rfl h (by simp)

theorem reg_SYS_START_STATUS_READY {L : List String} (h : "SYS_START_STATUS" ∈ L) : regsOf L (Fld.key Reg.SYS_START_STATUS_READY) :=
  regsOf_mem 0 17 0 0 _ .ro rfl h (by simp)

theorem reg_SYS_START_STATUS_FAILED {L : List String} (h : "SYS_START_STATUS" ∈ L) : regsOf L (Fld.key Reg.SYS_START_STATUS_FAILED) :=
  regsOf_mem 0 17 0 0 _ .ro rfl h (by simp)

theorem reg_SYS_START_STATUS_LATE {L : List String} (h : "SYS_START_STATUS" ∈ L) : regsOf L (Fld.key Reg.SYS_START_STATUS_LATE) :=
  regsOf_mem 0 17 0 0 _ .w1c rfl h (by simp)

theorem reg_SYS_START_STATUS_ELAPSED_MS {L : List String} (h : "SYS_START_STATUS" ∈ L) : regsOf L (Fld.key Reg.SYS_START_STATUS_ELAPSED_MS) :=
  regsOf_mem 0 17 0 0 _ .ro rfl h (by simp)

theorem reg_SYS_START_STATUS_FUNCS_UP {L : List String} (h : "SYS_START_STATUS" ∈ L) : regsOf L (Fld.key Reg.SYS_START_STATUS_FUNCS_UP) :=
  regsOf_mem 0 17 0 0 _ .ro rfl h (by simp)

theorem reg_SYS_START_STATUS_DRAM_TRAINED {L : List String} (h : "SYS_START_STATUS" ∈ L) : regsOf L (Fld.key Reg.SYS_START_STATUS_DRAM_TRAINED) :=
  regsOf_mem 0 17 0 0 _ .ro rfl h (by simp)

theorem reg_SYS_START_STATUS_PATCH_SETTLED {L : List String} (h : "SYS_START_STATUS" ∈ L) : regsOf L (Fld.key Reg.SYS_START_STATUS_PATCH_SETTLED) :=
  regsOf_mem 0 17 0 0 _ .ro rfl h (by simp)

theorem reg_SYS_START_STATUS_LINK_ACTIVE {L : List String} (h : "SYS_START_STATUS" ∈ L) : regsOf L (Fld.key Reg.SYS_START_STATUS_LINK_ACTIVE) :=
  regsOf_mem 0 17 0 0 _ .ro rfl h (by simp)

theorem reg_SYS_START_STATUS_BOOT_DONE {L : List String} (h : "SYS_START_STATUS" ∈ L) : regsOf L (Fld.key Reg.SYS_START_STATUS_BOOT_DONE) :=
  regsOf_mem 0 17 0 0 _ .ro rfl h (by simp)

theorem reg_SYS_BIST_STATUS_STATE {L : List String} (h : "SYS_BIST_STATUS" ∈ L) : regsOf L (Fld.key Reg.SYS_BIST_STATUS_STATE) :=
  regsOf_mem 0 19 0 0 _ .ro rfl h (by simp)

theorem reg_SYS_BIST_STATUS_FAIL_EVT {L : List String} (h : "SYS_BIST_STATUS" ∈ L) : regsOf L (Fld.key Reg.SYS_BIST_STATUS_FAIL_EVT) :=
  regsOf_mem 0 19 0 0 _ .w1c rfl h (by simp)

theorem reg_SYS_BIST_STATUS_BLOCK {L : List String} (h : "SYS_BIST_STATUS" ∈ L) : regsOf L (Fld.key Reg.SYS_BIST_STATUS_BLOCK) :=
  regsOf_mem 0 19 0 0 _ .ro rfl h (by simp)

theorem reg_SYS_BIST_STATUS_BEAD {L : List String} (h : "SYS_BIST_STATUS" ∈ L) : regsOf L (Fld.key Reg.SYS_BIST_STATUS_BEAD) :=
  regsOf_mem 0 19 0 0 _ .ro rfl h (by simp)

theorem reg_SYS_SCRUB_PASSES_COUNT {L : List String} (h : "SYS_SCRUB_PASSES" ∈ L) : regsOf L (Fld.key Reg.SYS_SCRUB_PASSES_COUNT) :=
  regsOf_mem 0 21 0 0 _ .ro rfl h (by simp)

theorem reg_MAC_OCTET_MODE_RATE {L : List String} {i : Nat} (h : "MAC_OCTET_MODE" ∈ L) : regsOf L (Fld.key (Reg.MAC_OCTET_MODE_RATE i)) :=
  regsOf_mem 2 0 i 0 _ .rw rfl h (by simp)

theorem reg_MAC_OCTET_MODE_MODE {L : List String} {i : Nat} (h : "MAC_OCTET_MODE" ∈ L) : regsOf L (Fld.key (Reg.MAC_OCTET_MODE_MODE i)) :=
  regsOf_mem 2 0 i 0 _ .rw rfl h (by simp)

theorem reg_MAC_PORT_CTRL_FLOW_CTRL {L : List String} {i : Nat} (h : "MAC_PORT_CTRL" ∈ L) : regsOf L (Fld.key (Reg.MAC_PORT_CTRL_FLOW_CTRL i)) :=
  regsOf_mem 2 3 i 0 _ .rw rfl h (by simp)

theorem reg_MAC_PORT_CTRL_FEC {L : List String} {i : Nat} (h : "MAC_PORT_CTRL" ∈ L) : regsOf L (Fld.key (Reg.MAC_PORT_CTRL_FEC i)) :=
  regsOf_mem 2 3 i 0 _ .rw rfl h (by simp)

theorem reg_MAC_PORT_CTRL_AN_EN {L : List String} {i : Nat} (h : "MAC_PORT_CTRL" ∈ L) : regsOf L (Fld.key (Reg.MAC_PORT_CTRL_AN_EN i)) :=
  regsOf_mem 2 3 i 0 _ .rw rfl h (by simp)

theorem reg_MAC_PORT_CTRL_ENABLE {L : List String} {i : Nat} (h : "MAC_PORT_CTRL" ∈ L) : regsOf L (Fld.key (Reg.MAC_PORT_CTRL_ENABLE i)) :=
  regsOf_mem 2 3 i 0 _ .rw rfl h (by simp)

theorem reg_MAC_PORT_FRAME_FRAME_MAX {L : List String} {i : Nat} (h : "MAC_PORT_FRAME" ∈ L) : regsOf L (Fld.key (Reg.MAC_PORT_FRAME_FRAME_MAX i)) :=
  regsOf_mem 2 4 i 0 _ .rw rfl h (by simp)

theorem reg_MAC_PORT_STATUS_PFC_PAUSED {L : List String} {i : Nat} (h : "MAC_PORT_STATUS" ∈ L) : regsOf L (Fld.key (Reg.MAC_PORT_STATUS_PFC_PAUSED i)) :=
  regsOf_mem 2 6 i 0 _ .ro rfl h (by simp)

theorem reg_MAC_PORT_STATUS_PAUSED {L : List String} {i : Nat} (h : "MAC_PORT_STATUS" ∈ L) : regsOf L (Fld.key (Reg.MAC_PORT_STATUS_PAUSED i)) :=
  regsOf_mem 2 6 i 0 _ .ro rfl h (by simp)

theorem reg_MAC_PORT_STATUS_REMOTE_FAULT {L : List String} {i : Nat} (h : "MAC_PORT_STATUS" ∈ L) : regsOf L (Fld.key (Reg.MAC_PORT_STATUS_REMOTE_FAULT i)) :=
  regsOf_mem 2 6 i 0 _ .ro rfl h (by simp)

theorem reg_MAC_PORT_STATUS_LOCAL_FAULT {L : List String} {i : Nat} (h : "MAC_PORT_STATUS" ∈ L) : regsOf L (Fld.key (Reg.MAC_PORT_STATUS_LOCAL_FAULT i)) :=
  regsOf_mem 2 6 i 0 _ .ro rfl h (by simp)

theorem reg_MAC_PORT_STATUS_HI_BER {L : List String} {i : Nat} (h : "MAC_PORT_STATUS" ∈ L) : regsOf L (Fld.key (Reg.MAC_PORT_STATUS_HI_BER i)) :=
  regsOf_mem 2 6 i 0 _ .ro rfl h (by simp)

theorem reg_MAC_PORT_STATUS_LINK_GOOD {L : List String} {i : Nat} (h : "MAC_PORT_STATUS" ∈ L) : regsOf L (Fld.key (Reg.MAC_PORT_STATUS_LINK_GOOD i)) :=
  regsOf_mem 2 6 i 0 _ .ro rfl h (by simp)

theorem reg_MAC_PORT_STATUS_STATE {L : List String} {i : Nat} (h : "MAC_PORT_STATUS" ∈ L) : regsOf L (Fld.key (Reg.MAC_PORT_STATUS_STATE i)) :=
  regsOf_mem 2 6 i 0 _ .ro rfl h (by simp)

theorem reg_MAC_PORT_EVT_FEC_UNCORR {L : List String} {i : Nat} (h : "MAC_PORT_EVT" ∈ L) : regsOf L (Fld.key (Reg.MAC_PORT_EVT_FEC_UNCORR i)) :=
  regsOf_mem 2 7 i 0 _ .w1c rfl h (by simp)

theorem reg_MAC_PORT_EVT_HI_BER {L : List String} {i : Nat} (h : "MAC_PORT_EVT" ∈ L) : regsOf L (Fld.key (Reg.MAC_PORT_EVT_HI_BER i)) :=
  regsOf_mem 2 7 i 0 _ .w1c rfl h (by simp)

theorem reg_MAC_PORT_EVT_REMOTE_FAULT {L : List String} {i : Nat} (h : "MAC_PORT_EVT" ∈ L) : regsOf L (Fld.key (Reg.MAC_PORT_EVT_REMOTE_FAULT i)) :=
  regsOf_mem 2 7 i 0 _ .w1c rfl h (by simp)

theorem reg_MAC_PORT_EVT_LOCAL_FAULT {L : List String} {i : Nat} (h : "MAC_PORT_EVT" ∈ L) : regsOf L (Fld.key (Reg.MAC_PORT_EVT_LOCAL_FAULT i)) :=
  regsOf_mem 2 7 i 0 _ .w1c rfl h (by simp)

theorem reg_MAC_PORT_EVT_LINK_DOWN {L : List String} {i : Nat} (h : "MAC_PORT_EVT" ∈ L) : regsOf L (Fld.key (Reg.MAC_PORT_EVT_LINK_DOWN i)) :=
  regsOf_mem 2 7 i 0 _ .w1c rfl h (by simp)

theorem reg_MAC_PORT_EVT_LINK_UP {L : List String} {i : Nat} (h : "MAC_PORT_EVT" ∈ L) : regsOf L (Fld.key (Reg.MAC_PORT_EVT_LINK_UP i)) :=
  regsOf_mem 2 7 i 0 _ .w1c rfl h (by simp)

theorem reg_CNT_HALF_LO_HALF {L : List String} {i : Nat} (h : "CNT_HALF_LO" ∈ L) : regsOf L (Fld.key (Reg.CNT_HALF_LO_HALF i)) :=
  regsOf_mem 3 0 i 0 _ .w1c rfl h (by simp)

theorem reg_CNT_HALF_HI_HALF {L : List String} {i : Nat} (h : "CNT_HALF_HI" ∈ L) : regsOf L (Fld.key (Reg.CNT_HALF_HI_HALF i)) :=
  regsOf_mem 3 1 i 0 _ .w1c rfl h (by simp)

theorem reg_TIME_DOM_CTRL_LOCKED {L : List String} {i : Nat} (h : "TIME_DOM_CTRL" ∈ L) : regsOf L (Fld.key (Reg.TIME_DOM_CTRL_LOCKED i)) :=
  regsOf_mem 4 0 i 0 _ .rw rfl h (by simp)

theorem reg_TIME_DOM_PHASE_LEFT_LEFT {L : List String} {i : Nat} (h : "TIME_DOM_PHASE_LEFT" ∈ L) : regsOf L (Fld.key (Reg.TIME_DOM_PHASE_LEFT_LEFT i)) :=
  regsOf_mem 4 3 i 0 _ .ro rfl h (by simp)

theorem reg_TIME_DOM_STATUS_PPS_MISSING {L : List String} {i : Nat} (h : "TIME_DOM_STATUS" ∈ L) : regsOf L (Fld.key (Reg.TIME_DOM_STATUS_PPS_MISSING i)) :=
  regsOf_mem 4 4 i 0 _ .w1c rfl h (by simp)

theorem reg_TIME_DOM_STATUS_PPS_NEW {L : List String} {i : Nat} (h : "TIME_DOM_STATUS" ∈ L) : regsOf L (Fld.key (Reg.TIME_DOM_STATUS_PPS_NEW i)) :=
  regsOf_mem 4 4 i 0 _ .w1c rfl h (by simp)

theorem reg_TIME_DOM_STATUS_UNLOCK_TREF {L : List String} {i : Nat} (h : "TIME_DOM_STATUS" ∈ L) : regsOf L (Fld.key (Reg.TIME_DOM_STATUS_UNLOCK_TREF i)) :=
  regsOf_mem 4 4 i 0 _ .w1c rfl h (by simp)

theorem reg_TIME_DOM_STATUS_UNLOCK_WDOG {L : List String} {i : Nat} (h : "TIME_DOM_STATUS" ∈ L) : regsOf L (Fld.key (Reg.TIME_DOM_STATUS_UNLOCK_WDOG i)) :=
  regsOf_mem 4 4 i 0 _ .w1c rfl h (by simp)

theorem reg_TIME_DOM_STATUS_UNLOCK_HOST {L : List String} {i : Nat} (h : "TIME_DOM_STATUS" ∈ L) : regsOf L (Fld.key (Reg.TIME_DOM_STATUS_UNLOCK_HOST i)) :=
  regsOf_mem 4 4 i 0 _ .w1c rfl h (by simp)

theorem reg_TIME_DOM_STATUS_SLEWING {L : List String} {i : Nat} (h : "TIME_DOM_STATUS" ∈ L) : regsOf L (Fld.key (Reg.TIME_DOM_STATUS_SLEWING i)) :=
  regsOf_mem 4 4 i 0 _ .ro rfl h (by simp)

theorem reg_TIME_DOM_STATUS_LOCK {L : List String} {i : Nat} (h : "TIME_DOM_STATUS" ∈ L) : regsOf L (Fld.key (Reg.TIME_DOM_STATUS_LOCK i)) :=
  regsOf_mem 4 4 i 0 _ .ro rfl h (by simp)

theorem reg_TIME_DOM_NOW_W0_FRACTION {L : List String} {i : Nat} (h : "TIME_DOM_NOW_W0" ∈ L) : regsOf L (Fld.key (Reg.TIME_DOM_NOW_W0_FRACTION i)) :=
  regsOf_mem 4 10 i 0 _ .ro rfl h (by simp)

theorem reg_TIME_DOM_NOW_W0_FLAGS {L : List String} {i : Nat} (h : "TIME_DOM_NOW_W0" ∈ L) : regsOf L (Fld.key (Reg.TIME_DOM_NOW_W0_FLAGS i)) :=
  regsOf_mem 4 10 i 0 _ .ro rfl h (by simp)

theorem reg_TIME_DOM_NOW_W1_NANOSECONDS {L : List String} {i : Nat} (h : "TIME_DOM_NOW_W1" ∈ L) : regsOf L (Fld.key (Reg.TIME_DOM_NOW_W1_NANOSECONDS i)) :=
  regsOf_mem 4 11 i 0 _ .ro rfl h (by simp)

theorem reg_TIME_DOM_NOW_W2_SEC_LO {L : List String} {i : Nat} (h : "TIME_DOM_NOW_W2" ∈ L) : regsOf L (Fld.key (Reg.TIME_DOM_NOW_W2_SEC_LO i)) :=
  regsOf_mem 4 12 i 0 _ .ro rfl h (by simp)

theorem reg_TIME_DOM_NOW_W3_SEC_HI {L : List String} {i : Nat} (h : "TIME_DOM_NOW_W3" ∈ L) : regsOf L (Fld.key (Reg.TIME_DOM_NOW_W3_SEC_HI i)) :=
  regsOf_mem 4 13 i 0 _ .ro rfl h (by simp)

theorem reg_TIME_DOM_PPS_W0_FRACTION {L : List String} {i : Nat} (h : "TIME_DOM_PPS_W0" ∈ L) : regsOf L (Fld.key (Reg.TIME_DOM_PPS_W0_FRACTION i)) :=
  regsOf_mem 4 14 i 0 _ .ro rfl h (by simp)

theorem reg_TIME_DOM_PPS_W0_FLAGS {L : List String} {i : Nat} (h : "TIME_DOM_PPS_W0" ∈ L) : regsOf L (Fld.key (Reg.TIME_DOM_PPS_W0_FLAGS i)) :=
  regsOf_mem 4 14 i 0 _ .ro rfl h (by simp)

theorem reg_TIME_DOM_PPS_W1_NANOSECONDS {L : List String} {i : Nat} (h : "TIME_DOM_PPS_W1" ∈ L) : regsOf L (Fld.key (Reg.TIME_DOM_PPS_W1_NANOSECONDS i)) :=
  regsOf_mem 4 15 i 0 _ .ro rfl h (by simp)

theorem reg_TIME_DOM_PPS_W2_SEC_LO {L : List String} {i : Nat} (h : "TIME_DOM_PPS_W2" ∈ L) : regsOf L (Fld.key (Reg.TIME_DOM_PPS_W2_SEC_LO i)) :=
  regsOf_mem 4 16 i 0 _ .ro rfl h (by simp)

theorem reg_TIME_DOM_PPS_W3_SEC_HI {L : List String} {i : Nat} (h : "TIME_DOM_PPS_W3" ∈ L) : regsOf L (Fld.key (Reg.TIME_DOM_PPS_W3_SEC_HI i)) :=
  regsOf_mem 4 17 i 0 _ .ro rfl h (by simp)

theorem reg_TIME_PRES_STATUS_STEPPED {L : List String} (h : "TIME_PRES_STATUS" ∈ L) : regsOf L (Fld.key Reg.TIME_PRES_STATUS_STEPPED) :=
  regsOf_mem 4 19 0 0 _ .w1c rfl h (by simp)

theorem reg_TIME_PRES_STATUS_HOLDOVER_ENTERED {L : List String} (h : "TIME_PRES_STATUS" ∈ L) : regsOf L (Fld.key Reg.TIME_PRES_STATUS_HOLDOVER_ENTERED) :=
  regsOf_mem 4 19 0 0 _ .w1c rfl h (by simp)

theorem reg_TIME_PRES_STATUS_MOVED {L : List String} (h : "TIME_PRES_STATUS" ∈ L) : regsOf L (Fld.key Reg.TIME_PRES_STATUS_MOVED) :=
  regsOf_mem 4 19 0 0 _ .w1c rfl h (by simp)

theorem reg_TIME_PRES_STATUS_MOVING {L : List String} (h : "TIME_PRES_STATUS" ∈ L) : regsOf L (Fld.key Reg.TIME_PRES_STATUS_MOVING) :=
  regsOf_mem 4 19 0 0 _ .ro rfl h (by simp)

theorem reg_TIME_PRES_STATUS_HOLDOVER {L : List String} (h : "TIME_PRES_STATUS" ∈ L) : regsOf L (Fld.key Reg.TIME_PRES_STATUS_HOLDOVER) :=
  regsOf_mem 4 19 0 0 _ .ro rfl h (by simp)

theorem reg_TIME_PRES_STATUS_DOMAIN {L : List String} (h : "TIME_PRES_STATUS" ∈ L) : regsOf L (Fld.key Reg.TIME_PRES_STATUS_DOMAIN) :=
  regsOf_mem 4 19 0 0 _ .ro rfl h (by simp)

theorem reg_TIME_PRES_STATUS_LOCK {L : List String} (h : "TIME_PRES_STATUS" ∈ L) : regsOf L (Fld.key Reg.TIME_PRES_STATUS_LOCK) :=
  regsOf_mem 4 19 0 0 _ .ro rfl h (by simp)

theorem reg_TIME_AB_DIFF_DIFF {L : List String} (h : "TIME_AB_DIFF" ∈ L) : regsOf L (Fld.key Reg.TIME_AB_DIFF_DIFF) :=
  regsOf_mem 4 21 0 0 _ .ro rfl h (by simp)

theorem reg_TIME_PRES_NOW_W0_FRACTION {L : List String} (h : "TIME_PRES_NOW_W0" ∈ L) : regsOf L (Fld.key Reg.TIME_PRES_NOW_W0_FRACTION) :=
  regsOf_mem 4 22 0 0 _ .ro rfl h (by simp)

theorem reg_TIME_PRES_NOW_W0_FLAGS {L : List String} (h : "TIME_PRES_NOW_W0" ∈ L) : regsOf L (Fld.key Reg.TIME_PRES_NOW_W0_FLAGS) :=
  regsOf_mem 4 22 0 0 _ .ro rfl h (by simp)

theorem reg_TIME_PRES_NOW_W1_NANOSECONDS {L : List String} (h : "TIME_PRES_NOW_W1" ∈ L) : regsOf L (Fld.key Reg.TIME_PRES_NOW_W1_NANOSECONDS) :=
  regsOf_mem 4 23 0 0 _ .ro rfl h (by simp)

theorem reg_TIME_PRES_NOW_W2_SEC_LO {L : List String} (h : "TIME_PRES_NOW_W2" ∈ L) : regsOf L (Fld.key Reg.TIME_PRES_NOW_W2_SEC_LO) :=
  regsOf_mem 4 24 0 0 _ .ro rfl h (by simp)

theorem reg_TIME_PRES_NOW_W3_SEC_HI {L : List String} (h : "TIME_PRES_NOW_W3" ∈ L) : regsOf L (Fld.key Reg.TIME_PRES_NOW_W3_SEC_HI) :=
  regsOf_mem 4 25 0 0 _ .ro rfl h (by simp)

theorem reg_TIME_TPO_CTRL_MISSED {L : List String} {i : Nat} (h : "TIME_TPO_CTRL" ∈ L) : regsOf L (Fld.key (Reg.TIME_TPO_CTRL_MISSED i)) :=
  regsOf_mem 4 26 i 0 _ .w1c rfl h (by simp)

theorem reg_TIME_TPO_CTRL_RUNNING {L : List String} {i : Nat} (h : "TIME_TPO_CTRL" ∈ L) : regsOf L (Fld.key (Reg.TIME_TPO_CTRL_RUNNING i)) :=
  regsOf_mem 4 26 i 0 _ .ro rfl h (by simp)

theorem reg_TIME_TPO_CTRL_ENABLE {L : List String} {i : Nat} (h : "TIME_TPO_CTRL" ∈ L) : regsOf L (Fld.key (Reg.TIME_TPO_CTRL_ENABLE i)) :=
  regsOf_mem 4 26 i 0 _ .rw rfl h (by simp)

theorem reg_TIME_TPI_CTRL_COUNT {L : List String} {i : Nat} (h : "TIME_TPI_CTRL" ∈ L) : regsOf L (Fld.key (Reg.TIME_TPI_CTRL_COUNT i)) :=
  regsOf_mem 4 33 i 0 _ .ro rfl h (by simp)

theorem reg_TIME_TPI_CTRL_OVERFLOW {L : List String} {i : Nat} (h : "TIME_TPI_CTRL" ∈ L) : regsOf L (Fld.key (Reg.TIME_TPI_CTRL_OVERFLOW i)) :=
  regsOf_mem 4 33 i 0 _ .w1c rfl h (by simp)

theorem reg_TIME_TPI_CAPT_W0_FRACTION {L : List String} {i : Nat} (h : "TIME_TPI_CAPT_W0" ∈ L) : regsOf L (Fld.key (Reg.TIME_TPI_CAPT_W0_FRACTION i)) :=
  regsOf_mem 4 34 i 0 _ .ro rfl h (by simp)

theorem reg_TIME_TPI_CAPT_W0_FLAGS {L : List String} {i : Nat} (h : "TIME_TPI_CAPT_W0" ∈ L) : regsOf L (Fld.key (Reg.TIME_TPI_CAPT_W0_FLAGS i)) :=
  regsOf_mem 4 34 i 0 _ .ro rfl h (by simp)

theorem reg_TIME_TPI_CAPT_W1_NANOSECONDS {L : List String} {i : Nat} (h : "TIME_TPI_CAPT_W1" ∈ L) : regsOf L (Fld.key (Reg.TIME_TPI_CAPT_W1_NANOSECONDS i)) :=
  regsOf_mem 4 35 i 0 _ .ro rfl h (by simp)

theorem reg_TIME_TPI_CAPT_W2_SEC_LO {L : List String} {i : Nat} (h : "TIME_TPI_CAPT_W2" ∈ L) : regsOf L (Fld.key (Reg.TIME_TPI_CAPT_W2_SEC_LO i)) :=
  regsOf_mem 4 36 i 0 _ .ro rfl h (by simp)

theorem reg_TIME_TPI_CAPT_W3_SEC_HI {L : List String} {i : Nat} (h : "TIME_TPI_CAPT_W3" ∈ L) : regsOf L (Fld.key (Reg.TIME_TPI_CAPT_W3_SEC_HI i)) :=
  regsOf_mem 4 37 i 0 _ .ro rfl h (by simp)

theorem reg_TIME_PTP_CTRL_BAD {L : List String} (h : "TIME_PTP_CTRL" ∈ L) : regsOf L (Fld.key Reg.TIME_PTP_CTRL_BAD) :=
  regsOf_mem 4 38 0 0 _ .w1c rfl h (by simp)

theorem reg_TIME_PTP_BAD_CNT_BAD_CNT {L : List String} (h : "TIME_PTP_BAD_CNT" ∈ L) : regsOf L (Fld.key Reg.TIME_PTP_BAD_CNT_BAD_CNT) :=
  regsOf_mem 4 39 0 0 _ .rc rfl h (by simp)

theorem reg_STAMP_LL_STATUS_LATE {L : List String} (h : "STAMP_LL_STATUS" ∈ L) : regsOf L (Fld.key Reg.STAMP_LL_STATUS_LATE) :=
  regsOf_mem 5 1 0 0 _ .w1c rfl h (by simp)

theorem reg_STAMP_LL_STATUS_SUSPENDED {L : List String} (h : "STAMP_LL_STATUS" ∈ L) : regsOf L (Fld.key Reg.STAMP_LL_STATUS_SUSPENDED) :=
  regsOf_mem 5 1 0 0 _ .ro rfl h (by simp)

theorem reg_STAMP_RET_STATUS_MAX_LEVEL {L : List String} (h : "STAMP_RET_STATUS" ∈ L) : regsOf L (Fld.key Reg.STAMP_RET_STATUS_MAX_LEVEL) :=
  regsOf_mem 5 3 0 0 _ .rc rfl h (by simp)

theorem reg_STAMP_RET_STATUS_LOST {L : List String} (h : "STAMP_RET_STATUS" ∈ L) : regsOf L (Fld.key Reg.STAMP_RET_STATUS_LOST) :=
  regsOf_mem 5 3 0 0 _ .w1c rfl h (by simp)

theorem reg_STAMP_RET_STATUS_LEVEL {L : List String} (h : "STAMP_RET_STATUS" ∈ L) : regsOf L (Fld.key Reg.STAMP_RET_STATUS_LEVEL) :=
  regsOf_mem 5 3 0 0 _ .ro rfl h (by simp)

theorem reg_STAMP_LOST_CNT_LOST {L : List String} (h : "STAMP_LOST_CNT" ∈ L) : regsOf L (Fld.key Reg.STAMP_LOST_CNT_LOST) :=
  regsOf_mem 5 4 0 0 _ .rc rfl h (by simp)

theorem reg_STAMP_CAL_RESULT_STATUS {L : List String} (h : "STAMP_CAL_RESULT" ∈ L) : regsOf L (Fld.key Reg.STAMP_CAL_RESULT_STATUS) :=
  regsOf_mem 5 6 0 0 _ .ro rfl h (by simp)

theorem reg_STAMP_CAL_RESULT_LOOP_ERR {L : List String} (h : "STAMP_CAL_RESULT" ∈ L) : regsOf L (Fld.key Reg.STAMP_CAL_RESULT_LOOP_ERR) :=
  regsOf_mem 5 6 0 0 _ .ro rfl h (by simp)

theorem reg_STAMP_CAL_SUGGEST_ING {L : List String} (h : "STAMP_CAL_SUGGEST" ∈ L) : regsOf L (Fld.key Reg.STAMP_CAL_SUGGEST_ING) :=
  regsOf_mem 5 7 0 0 _ .ro rfl h (by simp)

theorem reg_STAMP_CAL_SUGGEST_EGR {L : List String} (h : "STAMP_CAL_SUGGEST" ∈ L) : regsOf L (Fld.key Reg.STAMP_CAL_SUGGEST_EGR) :=
  regsOf_mem 5 7 0 0 _ .ro rfl h (by simp)

theorem reg_STAMP_PORT_STATUS_DESKEW {L : List String} {i : Nat} (h : "STAMP_PORT_STATUS" ∈ L) : regsOf L (Fld.key (Reg.STAMP_PORT_STATUS_DESKEW i)) :=
  regsOf_mem 5 10 i 0 _ .ro rfl h (by simp)

theorem reg_STAMP_PORT_STATUS_CAL_VALID {L : List String} {i : Nat} (h : "STAMP_PORT_STATUS" ∈ L) : regsOf L (Fld.key (Reg.STAMP_PORT_STATUS_CAL_VALID i)) :=
  regsOf_mem 5 10 i 0 _ .ro rfl h (by simp)

theorem reg_TALLY_CTRL_ENABLE {L : List String} (h : "TALLY_CTRL" ∈ L) : regsOf L (Fld.key Reg.TALLY_CTRL_ENABLE) :=
  regsOf_mem 6 0 0 0 _ .rw rfl h (by simp)

theorem reg_TALLY_STATUS_SERVICE {L : List String} (h : "TALLY_STATUS" ∈ L) : regsOf L (Fld.key Reg.TALLY_STATUS_SERVICE) :=
  regsOf_mem 6 5 0 0 _ .ro rfl h (by simp)

theorem reg_TALLY_STATUS_LOSS {L : List String} (h : "TALLY_STATUS" ∈ L) : regsOf L (Fld.key Reg.TALLY_STATUS_LOSS) :=
  regsOf_mem 6 5 0 0 _ .w1c rfl h (by simp)

theorem reg_TALLY_STATUS_POISON {L : List String} (h : "TALLY_STATUS" ∈ L) : regsOf L (Fld.key Reg.TALLY_STATUS_POISON) :=
  regsOf_mem 6 5 0 0 _ .w1c rfl h (by simp)

theorem reg_TALLY_STATUS_UNSIGNED {L : List String} (h : "TALLY_STATUS" ∈ L) : regsOf L (Fld.key Reg.TALLY_STATUS_UNSIGNED) :=
  regsOf_mem 6 5 0 0 _ .w1c rfl h (by simp)

theorem reg_TALLY_STATUS_SEAL_DROP {L : List String} (h : "TALLY_STATUS" ∈ L) : regsOf L (Fld.key Reg.TALLY_STATUS_SEAL_DROP) :=
  regsOf_mem 6 5 0 0 _ .w1c rfl h (by simp)

theorem reg_TALLY_STATUS_RECORD_DROP {L : List String} (h : "TALLY_STATUS" ∈ L) : regsOf L (Fld.key Reg.TALLY_STATUS_RECORD_DROP) :=
  regsOf_mem 6 5 0 0 _ .w1c rfl h (by simp)

theorem reg_TALLY_RING_LEVEL_LEVEL {L : List String} (h : "TALLY_RING_LEVEL" ∈ L) : regsOf L (Fld.key Reg.TALLY_RING_LEVEL_LEVEL) :=
  regsOf_mem 6 6 0 0 _ .ro rfl h (by simp)

theorem reg_TALLY_LOST_CNT_LOST {L : List String} (h : "TALLY_LOST_CNT" ∈ L) : regsOf L (Fld.key Reg.TALLY_LOST_CNT_LOST) :=
  regsOf_mem 6 7 0 0 _ .rc rfl h (by simp)

theorem reg_TALLY_SEAL_INDEX_LO_INDEX {L : List String} (h : "TALLY_SEAL_INDEX_LO" ∈ L) : regsOf L (Fld.key Reg.TALLY_SEAL_INDEX_LO_INDEX) :=
  regsOf_mem 6 8 0 0 _ .ro rfl h (by simp)

theorem reg_TALLY_SEAL_INDEX_HI_INDEX {L : List String} (h : "TALLY_SEAL_INDEX_HI" ∈ L) : regsOf L (Fld.key Reg.TALLY_SEAL_INDEX_HI_INDEX) :=
  regsOf_mem 6 9 0 0 _ .ro rfl h (by simp)

theorem reg_TALLY_MRAM_RETIRED_RETIRED {L : List String} (h : "TALLY_MRAM_RETIRED" ∈ L) : regsOf L (Fld.key Reg.TALLY_MRAM_RETIRED_RETIRED) :=
  regsOf_mem 6 10 0 0 _ .ro rfl h (by simp)

theorem reg_PARSE_STATUS_TRUNC {L : List String} (h : "PARSE_STATUS" ∈ L) : regsOf L (Fld.key Reg.PARSE_STATUS_TRUNC) :=
  regsOf_mem 7 0 0 0 _ .w1c rfl h (by simp)

theorem reg_PARSE_STATUS_PARITY {L : List String} (h : "PARSE_STATUS" ∈ L) : regsOf L (Fld.key Reg.PARSE_STATUS_PARITY) :=
  regsOf_mem 7 0 0 0 _ .w1c rfl h (by simp)

theorem reg_PARSE_STATUS_DEMOTED {L : List String} (h : "PARSE_STATUS" ∈ L) : regsOf L (Fld.key Reg.PARSE_STATUS_DEMOTED) :=
  regsOf_mem 7 0 0 0 _ .w1c rfl h (by simp)

theorem reg_PARSE_STATUS_CARRY_FULL {L : List String} (h : "PARSE_STATUS" ∈ L) : regsOf L (Fld.key Reg.PARSE_STATUS_CARRY_FULL) :=
  regsOf_mem 7 0 0 0 _ .w1c rfl h (by simp)

theorem reg_PARSE_PARITY_LOC_VERSION {L : List String} (h : "PARSE_PARITY_LOC" ∈ L) : regsOf L (Fld.key Reg.PARSE_PARITY_LOC_VERSION) :=
  regsOf_mem 7 1 0 0 _ .ro rfl h (by simp)

theorem reg_PARSE_PARITY_LOC_RULE_NUM {L : List String} (h : "PARSE_PARITY_LOC" ∈ L) : regsOf L (Fld.key Reg.PARSE_PARITY_LOC_RULE_NUM) :=
  regsOf_mem 7 1 0 0 _ .ro rfl h (by simp)

theorem reg_PARSE_CARRY_CNT_COUNT {L : List String} (h : "PARSE_CARRY_CNT" ∈ L) : regsOf L (Fld.key Reg.PARSE_CARRY_CNT_COUNT) :=
  regsOf_mem 7 2 0 0 _ .rc rfl h (by simp)

theorem reg_PARSE_CARRY_FULL_CNT_COUNT {L : List String} (h : "PARSE_CARRY_FULL_CNT" ∈ L) : regsOf L (Fld.key Reg.PARSE_CARRY_FULL_CNT_COUNT) :=
  regsOf_mem 7 3 0 0 _ .rc rfl h (by simp)

theorem reg_PARSE_DEMOTED_CNT_COUNT {L : List String} (h : "PARSE_DEMOTED_CNT" ∈ L) : regsOf L (Fld.key Reg.PARSE_DEMOTED_CNT_COUNT) :=
  regsOf_mem 7 4 0 0 _ .rc rfl h (by simp)

theorem reg_PARSE_NOMATCH_CNT_COUNT {L : List String} (h : "PARSE_NOMATCH_CNT" ∈ L) : regsOf L (Fld.key Reg.PARSE_NOMATCH_CNT_COUNT) :=
  regsOf_mem 7 5 0 0 _ .rc rfl h (by simp)

theorem reg_PARSE_TRUNC_CNT_COUNT {L : List String} (h : "PARSE_TRUNC_CNT" ∈ L) : regsOf L (Fld.key Reg.PARSE_TRUNC_CNT_COUNT) :=
  regsOf_mem 7 6 0 0 _ .rc rfl h (by simp)

theorem reg_PARSE_PROF_CTRL_DRAINED {L : List String} {i : Nat} (h : "PARSE_PROF_CTRL" ∈ L) : regsOf L (Fld.key (Reg.PARSE_PROF_CTRL_DRAINED i)) :=
  regsOf_mem 7 8 i 0 _ .ro rfl h (by simp)

theorem reg_PARSE_PROF_CTRL_KEY_BYTES {L : List String} {i : Nat} (h : "PARSE_PROF_CTRL" ∈ L) : regsOf L (Fld.key (Reg.PARSE_PROF_CTRL_KEY_BYTES i)) :=
  regsOf_mem 7 8 i 0 _ .ro rfl h (by simp)

theorem reg_RULE_STATUS_CURRENT {L : List String} (h : "RULE_STATUS" ∈ L) : regsOf L (Fld.key Reg.RULE_STATUS_CURRENT) :=
  regsOf_mem 8 0 0 0 _ .ro rfl h (by simp)

theorem reg_RULE_STATUS_DRAIN_STUCK {L : List String} (h : "RULE_STATUS" ∈ L) : regsOf L (Fld.key Reg.RULE_STATUS_DRAIN_STUCK) :=
  regsOf_mem 8 0 0 0 _ .w1c rfl h (by simp)

theorem reg_RULE_VER_STATE_STATE {L : List String} {i : Nat} (h : "RULE_VER_STATE" ∈ L) : regsOf L (Fld.key (Reg.RULE_VER_STATE_STATE i)) :=
  regsOf_mem 8 1 i 0 _ .ro rfl h (by simp)

theorem reg_RULE_VER_STATE_INFLIGHT {L : List String} {i : Nat} (h : "RULE_VER_STATE" ∈ L) : regsOf L (Fld.key (Reg.RULE_VER_STATE_INFLIGHT i)) :=
  regsOf_mem 8 1 i 0 _ .ro rfl h (by simp)

theorem reg_RULE_VER_NUM_NUM {L : List String} {i : Nat} (h : "RULE_VER_NUM" ∈ L) : regsOf L (Fld.key (Reg.RULE_VER_NUM_NUM i)) :=
  regsOf_mem 8 2 i 0 _ .ro rfl h (by simp)

theorem reg_RULE_STORE_USED_USED {L : List String} (h : "RULE_STORE_USED" ∈ L) : regsOf L (Fld.key Reg.RULE_STORE_USED_USED) :=
  regsOf_mem 8 3 0 0 _ .ro rfl h (by simp)

theorem reg_RULE_STAGE_STATUS_CHANGES {L : List String} (h : "RULE_STAGE_STATUS" ∈ L) : regsOf L (Fld.key Reg.RULE_STAGE_STATUS_CHANGES) :=
  regsOf_mem 8 4 0 0 _ .ro rfl h (by simp)

theorem reg_FDB_STATUS_LEARN_DROP {L : List String} (h : "FDB_STATUS" ∈ L) : regsOf L (Fld.key Reg.FDB_STATUS_LEARN_DROP) :=
  regsOf_mem 9 1 0 0 _ .w1c rfl h (by simp)

theorem reg_FDB_STATUS_PARITY {L : List String} (h : "FDB_STATUS" ∈ L) : regsOf L (Fld.key Reg.FDB_STATUS_PARITY) :=
  regsOf_mem 9 1 0 0 _ .w1c rfl h (by simp)

theorem reg_FDB_STATUS_CONFLICT {L : List String} (h : "FDB_STATUS" ∈ L) : regsOf L (Fld.key Reg.FDB_STATUS_CONFLICT) :=
  regsOf_mem 9 1 0 0 _ .w1c rfl h (by simp)

theorem reg_FDB_STATUS_FULL {L : List String} (h : "FDB_STATUS" ∈ L) : regsOf L (Fld.key Reg.FDB_STATUS_FULL) :=
  regsOf_mem 9 1 0 0 _ .w1c rfl h (by simp)

theorem reg_FDB_STATUS_PINNED {L : List String} (h : "FDB_STATUS" ∈ L) : regsOf L (Fld.key Reg.FDB_STATUS_PINNED) :=
  regsOf_mem 9 1 0 0 _ .w1c rfl h (by simp)

theorem reg_FDB_STATUS_MOVE {L : List String} (h : "FDB_STATUS" ∈ L) : regsOf L (Fld.key Reg.FDB_STATUS_MOVE) :=
  regsOf_mem 9 1 0 0 _ .w1c rfl h (by simp)

theorem reg_FDB_USED_USED {L : List String} (h : "FDB_USED" ∈ L) : regsOf L (Fld.key Reg.FDB_USED_USED) :=
  regsOf_mem 9 2 0 0 _ .ro rfl h (by simp)

theorem reg_FDB_MOVE_LAST_LO_MAC_LO {L : List String} (h : "FDB_MOVE_LAST_LO" ∈ L) : regsOf L (Fld.key Reg.FDB_MOVE_LAST_LO_MAC_LO) :=
  regsOf_mem 9 3 0 0 _ .ro rfl h (by simp)

theorem reg_FDB_MOVE_LAST_HI_VLAN {L : List String} (h : "FDB_MOVE_LAST_HI" ∈ L) : regsOf L (Fld.key Reg.FDB_MOVE_LAST_HI_VLAN) :=
  regsOf_mem 9 4 0 0 _ .ro rfl h (by simp)

theorem reg_FDB_MOVE_LAST_HI_MAC_HI {L : List String} (h : "FDB_MOVE_LAST_HI" ∈ L) : regsOf L (Fld.key Reg.FDB_MOVE_LAST_HI_MAC_HI) :=
  regsOf_mem 9 4 0 0 _ .ro rfl h (by simp)

theorem reg_FDB_MOVE_LAST_PORTS_PIN {L : List String} (h : "FDB_MOVE_LAST_PORTS" ∈ L) : regsOf L (Fld.key Reg.FDB_MOVE_LAST_PORTS_PIN) :=
  regsOf_mem 9 5 0 0 _ .ro rfl h (by simp)

theorem reg_FDB_MOVE_LAST_PORTS_OLD_PORT {L : List String} (h : "FDB_MOVE_LAST_PORTS" ∈ L) : regsOf L (Fld.key Reg.FDB_MOVE_LAST_PORTS_OLD_PORT) :=
  regsOf_mem 9 5 0 0 _ .ro rfl h (by simp)

theorem reg_FDB_MOVE_LAST_PORTS_NEW_PORT {L : List String} (h : "FDB_MOVE_LAST_PORTS" ∈ L) : regsOf L (Fld.key Reg.FDB_MOVE_LAST_PORTS_NEW_PORT) :=
  regsOf_mem 9 5 0 0 _ .ro rfl h (by simp)

theorem reg_FDB_PARITY_LOC_BANK {L : List String} (h : "FDB_PARITY_LOC" ∈ L) : regsOf L (Fld.key Reg.FDB_PARITY_LOC_BANK) :=
  regsOf_mem 9 6 0 0 _ .ro rfl h (by simp)

theorem reg_FDB_PARITY_LOC_BUCKET {L : List String} (h : "FDB_PARITY_LOC" ∈ L) : regsOf L (Fld.key Reg.FDB_PARITY_LOC_BUCKET) :=
  regsOf_mem 9 6 0 0 _ .ro rfl h (by simp)

theorem reg_FDB_PARITY_LOC_SLOT {L : List String} (h : "FDB_PARITY_LOC" ∈ L) : regsOf L (Fld.key Reg.FDB_PARITY_LOC_SLOT) :=
  regsOf_mem 9 6 0 0 _ .ro rfl h (by simp)

theorem reg_FDB_LEARN_CNT_COUNT {L : List String} (h : "FDB_LEARN_CNT" ∈ L) : regsOf L (Fld.key Reg.FDB_LEARN_CNT_COUNT) :=
  regsOf_mem 9 7 0 0 _ .rc rfl h (by simp)

theorem reg_FDB_MOVE_CNT_COUNT {L : List String} (h : "FDB_MOVE_CNT" ∈ L) : regsOf L (Fld.key Reg.FDB_MOVE_CNT_COUNT) :=
  regsOf_mem 9 8 0 0 _ .rc rfl h (by simp)

theorem reg_FDB_LEARN_DROP_CNT_COUNT {L : List String} (h : "FDB_LEARN_DROP_CNT" ∈ L) : regsOf L (Fld.key Reg.FDB_LEARN_DROP_CNT_COUNT) :=
  regsOf_mem 9 9 0 0 _ .rc rfl h (by simp)

theorem reg_FDB_LEARN_FULL_CNT_COUNT {L : List String} (h : "FDB_LEARN_FULL_CNT" ∈ L) : regsOf L (Fld.key Reg.FDB_LEARN_FULL_CNT_COUNT) :=
  regsOf_mem 9 10 0 0 _ .rc rfl h (by simp)

theorem reg_FDB_MOVE_REFUSED_CNT_COUNT {L : List String} (h : "FDB_MOVE_REFUSED_CNT" ∈ L) : regsOf L (Fld.key Reg.FDB_MOVE_REFUSED_CNT_COUNT) :=
  regsOf_mem 9 11 0 0 _ .rc rfl h (by simp)

theorem reg_FDB_PARITY_CNT_COUNT {L : List String} (h : "FDB_PARITY_CNT" ∈ L) : regsOf L (Fld.key Reg.FDB_PARITY_CNT_COUNT) :=
  regsOf_mem 9 12 0 0 _ .rc rfl h (by simp)

theorem reg_LPM_STATUS_PARITY {L : List String} (h : "LPM_STATUS" ∈ L) : regsOf L (Fld.key Reg.LPM_STATUS_PARITY) :=
  regsOf_mem 10 1 0 0 _ .w1c rfl h (by simp)

theorem reg_LPM_STATUS_FULL {L : List String} (h : "LPM_STATUS" ∈ L) : regsOf L (Fld.key Reg.LPM_STATUS_FULL) :=
  regsOf_mem 10 1 0 0 _ .w1c rfl h (by simp)

theorem reg_LPM_USED_USED {L : List String} (h : "LPM_USED" ∈ L) : regsOf L (Fld.key Reg.LPM_USED_USED) :=
  regsOf_mem 10 2 0 0 _ .ro rfl h (by simp)

theorem reg_LPM_V4_COUNT_COUNT {L : List String} (h : "LPM_V4_COUNT" ∈ L) : regsOf L (Fld.key Reg.LPM_V4_COUNT_COUNT) :=
  regsOf_mem 10 3 0 0 _ .ro rfl h (by simp)

theorem reg_LPM_V6_COUNT_COUNT {L : List String} (h : "LPM_V6_COUNT" ∈ L) : regsOf L (Fld.key Reg.LPM_V6_COUNT_COUNT) :=
  regsOf_mem 10 4 0 0 _ .ro rfl h (by simp)

theorem reg_LPM_PARITY_LOC_ROW {L : List String} (h : "LPM_PARITY_LOC" ∈ L) : regsOf L (Fld.key Reg.LPM_PARITY_LOC_ROW) :=
  regsOf_mem 10 5 0 0 _ .ro rfl h (by simp)

theorem reg_LPM_PARITY_CNT_COUNT {L : List String} (h : "LPM_PARITY_CNT" ∈ L) : regsOf L (Fld.key Reg.LPM_PARITY_CNT_COUNT) :=
  regsOf_mem 10 6 0 0 _ .rc rfl h (by simp)

theorem reg_FLOW_STATUS_POISON {L : List String} (h : "FLOW_STATUS" ∈ L) : regsOf L (Fld.key Reg.FLOW_STATUS_POISON) :=
  regsOf_mem 11 0 0 0 _ .w1c rfl h (by simp)

theorem reg_FLOW_STATUS_FULL {L : List String} (h : "FLOW_STATUS" ∈ L) : regsOf L (Fld.key Reg.FLOW_STATUS_FULL) :=
  regsOf_mem 11 0 0 0 _ .w1c rfl h (by simp)

theorem reg_FLOW_STATUS_BYPASS {L : List String} (h : "FLOW_STATUS" ∈ L) : regsOf L (Fld.key Reg.FLOW_STATUS_BYPASS) :=
  regsOf_mem 11 0 0 0 _ .w1c rfl h (by simp)

theorem reg_FLOW_USED_USED {L : List String} (h : "FLOW_USED" ∈ L) : regsOf L (Fld.key Reg.FLOW_USED_USED) :=
  regsOf_mem 11 1 0 0 _ .ro rfl h (by simp)

theorem reg_FLOW_POISON_LOC_KEY {L : List String} (h : "FLOW_POISON_LOC" ∈ L) : regsOf L (Fld.key Reg.FLOW_POISON_LOC_KEY) :=
  regsOf_mem 11 2 0 0 _ .ro rfl h (by simp)

theorem reg_FLOW_POISON_LOC_INDEX {L : List String} (h : "FLOW_POISON_LOC" ∈ L) : regsOf L (Fld.key Reg.FLOW_POISON_LOC_INDEX) :=
  regsOf_mem 11 2 0 0 _ .ro rfl h (by simp)

theorem reg_FLOW_HIT_CNT_COUNT {L : List String} (h : "FLOW_HIT_CNT" ∈ L) : regsOf L (Fld.key Reg.FLOW_HIT_CNT_COUNT) :=
  regsOf_mem 11 3 0 0 _ .rc rfl h (by simp)

theorem reg_FLOW_MISS_CNT_COUNT {L : List String} (h : "FLOW_MISS_CNT" ∈ L) : regsOf L (Fld.key Reg.FLOW_MISS_CNT_COUNT) :=
  regsOf_mem 11 4 0 0 _ .rc rfl h (by simp)

theorem reg_FLOW_ABSENT_CNT_COUNT {L : List String} (h : "FLOW_ABSENT_CNT" ∈ L) : regsOf L (Fld.key Reg.FLOW_ABSENT_CNT_COUNT) :=
  regsOf_mem 11 5 0 0 _ .rc rfl h (by simp)

theorem reg_FLOW_BYPASS_CNT_COUNT {L : List String} (h : "FLOW_BYPASS_CNT" ∈ L) : regsOf L (Fld.key Reg.FLOW_BYPASS_CNT_COUNT) :=
  regsOf_mem 11 6 0 0 _ .rc rfl h (by simp)

theorem reg_FLOW_STALE_CNT_COUNT {L : List String} (h : "FLOW_STALE_CNT" ∈ L) : regsOf L (Fld.key Reg.FLOW_STALE_CNT_COUNT) :=
  regsOf_mem 11 7 0 0 _ .rc rfl h (by simp)

theorem reg_BUF_POOL_USED_USED {L : List String} {i : Nat} (h : "BUF_POOL_USED" ∈ L) : regsOf L (Fld.key (Reg.BUF_POOL_USED_USED i)) :=
  regsOf_mem 12 7 i 0 _ .ro rfl h (by simp)

theorem reg_BUF_POOL_SHARED_SHARED {L : List String} {i : Nat} (h : "BUF_POOL_SHARED" ∈ L) : regsOf L (Fld.key (Reg.BUF_POOL_SHARED_SHARED i)) :=
  regsOf_mem 12 8 i 0 _ .ro rfl h (by simp)

theorem reg_BUF_STATUS_SPILL_POISON {L : List String} (h : "BUF_STATUS" ∈ L) : regsOf L (Fld.key Reg.BUF_STATUS_SPILL_POISON) :=
  regsOf_mem 12 9 0 0 _ .w1c rfl h (by simp)

theorem reg_BUF_STATUS_SPILL_FULL {L : List String} (h : "BUF_STATUS" ∈ L) : regsOf L (Fld.key Reg.BUF_STATUS_SPILL_FULL) :=
  regsOf_mem 12 9 0 0 _ .w1c rfl h (by simp)

theorem reg_BUF_STATUS_BAD_FREE {L : List String} (h : "BUF_STATUS" ∈ L) : regsOf L (Fld.key Reg.BUF_STATUS_BAD_FREE) :=
  regsOf_mem 12 9 0 0 _ .w1c rfl h (by simp)

theorem reg_BUF_STATUS_REF_LIMIT {L : List String} (h : "BUF_STATUS" ∈ L) : regsOf L (Fld.key Reg.BUF_STATUS_REF_LIMIT) :=
  regsOf_mem 12 9 0 0 _ .w1c rfl h (by simp)

theorem reg_BUF_STATUS_LANDING {L : List String} (h : "BUF_STATUS" ∈ L) : regsOf L (Fld.key Reg.BUF_STATUS_LANDING) :=
  regsOf_mem 12 9 0 0 _ .w1c rfl h (by simp)

theorem reg_BUF_STATUS_HEADROOM {L : List String} (h : "BUF_STATUS" ∈ L) : regsOf L (Fld.key Reg.BUF_STATUS_HEADROOM) :=
  regsOf_mem 12 9 0 0 _ .w1c rfl h (by simp)

theorem reg_BUF_STATUS_DROP {L : List String} (h : "BUF_STATUS" ∈ L) : regsOf L (Fld.key Reg.BUF_STATUS_DROP) :=
  regsOf_mem 12 9 0 0 _ .w1c rfl h (by simp)

theorem reg_BUF_STATUS_XOFF {L : List String} (h : "BUF_STATUS" ∈ L) : regsOf L (Fld.key Reg.BUF_STATUS_XOFF) :=
  regsOf_mem 12 9 0 0 _ .ro rfl h (by simp)

theorem reg_BUF_XOFF_POOLS_POOLS {L : List String} (h : "BUF_XOFF_POOLS" ∈ L) : regsOf L (Fld.key Reg.BUF_XOFF_POOLS_POOLS) :=
  regsOf_mem 12 10 0 0 _ .ro rfl h (by simp)

theorem reg_BUF_LANDING_MAX {L : List String} (h : "BUF_LANDING" ∈ L) : regsOf L (Fld.key Reg.BUF_LANDING_MAX) :=
  regsOf_mem 12 11 0 0 _ .rc rfl h (by simp)

theorem reg_BUF_LANDING_NOW {L : List String} (h : "BUF_LANDING" ∈ L) : regsOf L (Fld.key Reg.BUF_LANDING_NOW) :=
  regsOf_mem 12 11 0 0 _ .ro rfl h (by simp)

theorem reg_BUF_WITHDRAWN_NEXT {L : List String} (h : "BUF_WITHDRAWN" ∈ L) : regsOf L (Fld.key Reg.BUF_WITHDRAWN_NEXT) :=
  regsOf_mem 12 12 0 0 _ .ro rfl h (by simp)

theorem reg_BUF_WITHDRAWN_COUNT {L : List String} (h : "BUF_WITHDRAWN" ∈ L) : regsOf L (Fld.key Reg.BUF_WITHDRAWN_COUNT) :=
  regsOf_mem 12 12 0 0 _ .ro rfl h (by simp)

theorem reg_BUF_BAD_FREE_LOC_KIND {L : List String} (h : "BUF_BAD_FREE_LOC" ∈ L) : regsOf L (Fld.key Reg.BUF_BAD_FREE_LOC_KIND) :=
  regsOf_mem 12 13 0 0 _ .ro rfl h (by simp)

theorem reg_BUF_BAD_FREE_LOC_AGENT {L : List String} (h : "BUF_BAD_FREE_LOC" ∈ L) : regsOf L (Fld.key Reg.BUF_BAD_FREE_LOC_AGENT) :=
  regsOf_mem 12 13 0 0 _ .ro rfl h (by simp)

theorem reg_BUF_BAD_FREE_LOC_BEAD {L : List String} (h : "BUF_BAD_FREE_LOC" ∈ L) : regsOf L (Fld.key Reg.BUF_BAD_FREE_LOC_BEAD) :=
  regsOf_mem 12 13 0 0 _ .ro rfl h (by simp)

theorem reg_BUF_DROP_CNT_COUNT {L : List String} (h : "BUF_DROP_CNT" ∈ L) : regsOf L (Fld.key Reg.BUF_DROP_CNT_COUNT) :=
  regsOf_mem 12 14 0 0 _ .rc rfl h (by simp)

theorem reg_BUF_HEADROOM_CNT_COUNT {L : List String} (h : "BUF_HEADROOM_CNT" ∈ L) : regsOf L (Fld.key Reg.BUF_HEADROOM_CNT_COUNT) :=
  regsOf_mem 12 15 0 0 _ .rc rfl h (by simp)

theorem reg_BUF_LANDING_DROP_CNT_COUNT {L : List String} (h : "BUF_LANDING_DROP_CNT" ∈ L) : regsOf L (Fld.key Reg.BUF_LANDING_DROP_CNT_COUNT) :=
  regsOf_mem 12 16 0 0 _ .rc rfl h (by simp)

theorem reg_BUF_REF_LIMIT_CNT_COUNT {L : List String} (h : "BUF_REF_LIMIT_CNT" ∈ L) : regsOf L (Fld.key Reg.BUF_REF_LIMIT_CNT_COUNT) :=
  regsOf_mem 12 17 0 0 _ .rc rfl h (by simp)

theorem reg_BUF_BAD_FREE_CNT_COUNT {L : List String} (h : "BUF_BAD_FREE_CNT" ∈ L) : regsOf L (Fld.key Reg.BUF_BAD_FREE_CNT_COUNT) :=
  regsOf_mem 12 18 0 0 _ .rc rfl h (by simp)

theorem reg_BUF_SPILL_FULL_CNT_COUNT {L : List String} (h : "BUF_SPILL_FULL_CNT" ∈ L) : regsOf L (Fld.key Reg.BUF_SPILL_FULL_CNT_COUNT) :=
  regsOf_mem 12 19 0 0 _ .rc rfl h (by simp)

theorem reg_BUF_SPILL_USED_USED {L : List String} (h : "BUF_SPILL_USED" ∈ L) : regsOf L (Fld.key Reg.BUF_SPILL_USED_USED) :=
  regsOf_mem 12 21 0 0 _ .ro rfl h (by simp)

theorem reg_QUE_STATUS_COPY_FULL {L : List String} (h : "QUE_STATUS" ∈ L) : regsOf L (Fld.key Reg.QUE_STATUS_COPY_FULL) :=
  regsOf_mem 13 1 0 0 _ .w1c rfl h (by simp)

theorem reg_QUE_STATUS_TAIL_DROP {L : List String} (h : "QUE_STATUS" ∈ L) : regsOf L (Fld.key Reg.QUE_STATUS_TAIL_DROP) :=
  regsOf_mem 13 1 0 0 _ .w1c rfl h (by simp)

theorem reg_QUE_STATUS_STUCK {L : List String} (h : "QUE_STATUS" ∈ L) : regsOf L (Fld.key Reg.QUE_STATUS_STUCK) :=
  regsOf_mem 13 1 0 0 _ .w1c rfl h (by simp)

theorem reg_QUE_STUCK_LOC_QUEUE {L : List String} (h : "QUE_STUCK_LOC" ∈ L) : regsOf L (Fld.key Reg.QUE_STUCK_LOC_QUEUE) :=
  regsOf_mem 13 2 0 0 _ .ro rfl h (by simp)

theorem reg_QUE_COPIES_USED {L : List String} (h : "QUE_COPIES" ∈ L) : regsOf L (Fld.key Reg.QUE_COPIES_USED) :=
  regsOf_mem 13 3 0 0 _ .ro rfl h (by simp)

theorem reg_QUE_TAIL_DROP_CNT_COUNT {L : List String} (h : "QUE_TAIL_DROP_CNT" ∈ L) : regsOf L (Fld.key Reg.QUE_TAIL_DROP_CNT_COUNT) :=
  regsOf_mem 13 4 0 0 _ .rc rfl h (by simp)

theorem reg_QUE_STUCK_CNT_COUNT {L : List String} (h : "QUE_STUCK_CNT" ∈ L) : regsOf L (Fld.key Reg.QUE_STUCK_CNT_COUNT) :=
  regsOf_mem 13 5 0 0 _ .rc rfl h (by simp)

theorem reg_QUE_COPY_FULL_CNT_COUNT {L : List String} (h : "QUE_COPY_FULL_CNT" ∈ L) : regsOf L (Fld.key Reg.QUE_COPY_FULL_CNT_COUNT) :=
  regsOf_mem 13 6 0 0 _ .rc rfl h (by simp)

theorem reg_QUE_FLUSH_CNT_COUNT {L : List String} (h : "QUE_FLUSH_CNT" ∈ L) : regsOf L (Fld.key Reg.QUE_FLUSH_CNT_COUNT) :=
  regsOf_mem 13 7 0 0 _ .rc rfl h (by simp)

theorem reg_QUE_ROD_DEPTH_BEADS {L : List String} {i : Nat} (h : "QUE_ROD_DEPTH" ∈ L) : regsOf L (Fld.key (Reg.QUE_ROD_DEPTH_BEADS i)) :=
  regsOf_mem 13 9 i 0 _ .ro rfl h (by simp)

theorem reg_MCAST_STATUS_FULL {L : List String} (h : "MCAST_STATUS" ∈ L) : regsOf L (Fld.key Reg.MCAST_STATUS_FULL) :=
  regsOf_mem 14 0 0 0 _ .w1c rfl h (by simp)

theorem reg_MCAST_MEMBERS_USED_USED {L : List String} (h : "MCAST_MEMBERS_USED" ∈ L) : regsOf L (Fld.key Reg.MCAST_MEMBERS_USED_USED) :=
  regsOf_mem 14 1 0 0 _ .ro rfl h (by simp)

theorem reg_MIRROR_SESSION_DROP_DROP {L : List String} {i : Nat} (h : "MIRROR_SESSION_DROP" ∈ L) : regsOf L (Fld.key (Reg.MIRROR_SESSION_DROP_DROP i)) :=
  regsOf_mem 15 1 i 0 _ .rc rfl h (by simp)

theorem reg_MIRROR_STATUS_DROP {L : List String} (h : "MIRROR_STATUS" ∈ L) : regsOf L (Fld.key Reg.MIRROR_STATUS_DROP) :=
  regsOf_mem 15 2 0 0 _ .w1c rfl h (by simp)

theorem reg_TM_STATUS_GATE_SUSPENDED {L : List String} (h : "TM_STATUS" ∈ L) : regsOf L (Fld.key Reg.TM_STATUS_GATE_SUSPENDED) :=
  regsOf_mem 16 0 0 0 _ .w1c rfl h (by simp)

theorem reg_TM_STATUS_GATE_OVERSIZE {L : List String} (h : "TM_STATUS" ∈ L) : regsOf L (Fld.key Reg.TM_STATUS_GATE_OVERSIZE) :=
  regsOf_mem 16 0 0 0 _ .w1c rfl h (by simp)

theorem reg_TM_STATUS_GATE_ADJUSTED {L : List String} (h : "TM_STATUS" ∈ L) : regsOf L (Fld.key Reg.TM_STATUS_GATE_ADJUSTED) :=
  regsOf_mem 16 0 0 0 _ .w1c rfl h (by simp)

theorem reg_TM_GATE_LOC_KIND {L : List String} (h : "TM_GATE_LOC" ∈ L) : regsOf L (Fld.key Reg.TM_GATE_LOC_KIND) :=
  regsOf_mem 16 1 0 0 _ .ro rfl h (by simp)

theorem reg_TM_GATE_LOC_QUEUE {L : List String} (h : "TM_GATE_LOC" ∈ L) : regsOf L (Fld.key Reg.TM_GATE_LOC_QUEUE) :=
  regsOf_mem 16 1 0 0 _ .ro rfl h (by simp)

theorem reg_TM_GATE_OVERSIZE_CNT_COUNT {L : List String} (h : "TM_GATE_OVERSIZE_CNT" ∈ L) : regsOf L (Fld.key Reg.TM_GATE_OVERSIZE_CNT_COUNT) :=
  regsOf_mem 16 2 0 0 _ .rc rfl h (by simp)

theorem reg_TM_GATE_ADJUST_CNT_COUNT {L : List String} (h : "TM_GATE_ADJUST_CNT" ∈ L) : regsOf L (Fld.key Reg.TM_GATE_ADJUST_CNT_COUNT) :=
  regsOf_mem 16 3 0 0 _ .rc rfl h (by simp)

theorem reg_TM_GATE_STATUS_PENDING {L : List String} {i : Nat} (h : "TM_GATE_STATUS" ∈ L) : regsOf L (Fld.key (Reg.TM_GATE_STATUS_PENDING i)) :=
  regsOf_mem 16 5 i 0 _ .ro rfl h (by simp)

theorem reg_TM_GATE_STATUS_ENABLED {L : List String} {i : Nat} (h : "TM_GATE_STATUS" ∈ L) : regsOf L (Fld.key (Reg.TM_GATE_STATUS_ENABLED i)) :=
  regsOf_mem 16 5 i 0 _ .ro rfl h (by simp)

theorem reg_TM_GATE_STATUS_ACTIVE_BANK {L : List String} {i : Nat} (h : "TM_GATE_STATUS" ∈ L) : regsOf L (Fld.key (Reg.TM_GATE_STATUS_ACTIVE_BANK i)) :=
  regsOf_mem 16 5 i 0 _ .ro rfl h (by simp)

theorem reg_TM_GATE_STATUS_GATES {L : List String} {i : Nat} (h : "TM_GATE_STATUS" ∈ L) : regsOf L (Fld.key (Reg.TM_GATE_STATUS_GATES i)) :=
  regsOf_mem 16 5 i 0 _ .ro rfl h (by simp)

theorem reg_TM_GATE_STATUS_ENTRY {L : List String} {i : Nat} (h : "TM_GATE_STATUS" ∈ L) : regsOf L (Fld.key (Reg.TM_GATE_STATUS_ENTRY i)) :=
  regsOf_mem 16 5 i 0 _ .ro rfl h (by simp)

theorem reg_DRAM_TRAIN_LANE_REPAIRED {L : List String} (h : "DRAM_TRAIN" ∈ L) : regsOf L (Fld.key Reg.DRAM_TRAIN_LANE_REPAIRED) :=
  regsOf_mem 17 5 0 0 _ .ro rfl h (by simp)

theorem reg_DRAM_TRAIN_STATUS {L : List String} (h : "DRAM_TRAIN" ∈ L) : regsOf L (Fld.key Reg.DRAM_TRAIN_STATUS) :=
  regsOf_mem 17 5 0 0 _ .ro rfl h (by simp)

theorem reg_DRAM_STATUS_PC_FAIL {L : List String} (h : "DRAM_STATUS" ∈ L) : regsOf L (Fld.key Reg.DRAM_STATUS_PC_FAIL) :=
  regsOf_mem 17 6 0 0 _ .w1c rfl h (by simp)

theorem reg_DRAM_STATUS_HOT {L : List String} (h : "DRAM_STATUS" ∈ L) : regsOf L (Fld.key Reg.DRAM_STATUS_HOT) :=
  regsOf_mem 17 6 0 0 _ .ro rfl h (by simp)

theorem reg_DRAM_STATUS_TEMP {L : List String} (h : "DRAM_STATUS" ∈ L) : regsOf L (Fld.key Reg.DRAM_STATUS_TEMP) :=
  regsOf_mem 17 6 0 0 _ .w1c rfl h (by simp)

theorem reg_DRAM_STATUS_UNCORR {L : List String} (h : "DRAM_STATUS" ∈ L) : regsOf L (Fld.key Reg.DRAM_STATUS_UNCORR) :=
  regsOf_mem 17 6 0 0 _ .w1c rfl h (by simp)

theorem reg_DRAM_STATUS_CORRECTED {L : List String} (h : "DRAM_STATUS" ∈ L) : regsOf L (Fld.key Reg.DRAM_STATUS_CORRECTED) :=
  regsOf_mem 17 6 0 0 _ .w1c rfl h (by simp)

theorem reg_DRAM_STATUS_CA_REPLAY {L : List String} (h : "DRAM_STATUS" ∈ L) : regsOf L (Fld.key Reg.DRAM_STATUS_CA_REPLAY) :=
  regsOf_mem 17 6 0 0 _ .w1c rfl h (by simp)

theorem reg_DRAM_STATUS_PARKED1 {L : List String} (h : "DRAM_STATUS" ∈ L) : regsOf L (Fld.key Reg.DRAM_STATUS_PARKED1) :=
  regsOf_mem 17 6 0 0 _ .ro rfl h (by simp)

theorem reg_DRAM_STATUS_PARKED0 {L : List String} (h : "DRAM_STATUS" ∈ L) : regsOf L (Fld.key Reg.DRAM_STATUS_PARKED0) :=
  regsOf_mem 17 6 0 0 _ .ro rfl h (by simp)

theorem reg_DRAM_PC_FAILED_LO_FAILED {L : List String} (h : "DRAM_PC_FAILED_LO" ∈ L) : regsOf L (Fld.key Reg.DRAM_PC_FAILED_LO_FAILED) :=
  regsOf_mem 17 7 0 0 _ .ro rfl h (by simp)

theorem reg_DRAM_PC_FAILED_HI_FAILED {L : List String} (h : "DRAM_PC_FAILED_HI" ∈ L) : regsOf L (Fld.key Reg.DRAM_PC_FAILED_HI_FAILED) :=
  regsOf_mem 17 8 0 0 _ .ro rfl h (by simp)

theorem reg_DRAM_ERR_LOC_UNCORR {L : List String} (h : "DRAM_ERR_LOC" ∈ L) : regsOf L (Fld.key Reg.DRAM_ERR_LOC_UNCORR) :=
  regsOf_mem 17 9 0 0 _ .ro rfl h (by simp)

theorem reg_DRAM_ERR_LOC_USER {L : List String} (h : "DRAM_ERR_LOC" ∈ L) : regsOf L (Fld.key Reg.DRAM_ERR_LOC_USER) :=
  regsOf_mem 17 9 0 0 _ .ro rfl h (by simp)

theorem reg_DRAM_ERR_LOC_GRANULE {L : List String} (h : "DRAM_ERR_LOC" ∈ L) : regsOf L (Fld.key Reg.DRAM_ERR_LOC_GRANULE) :=
  regsOf_mem 17 9 0 0 _ .ro rfl h (by simp)

theorem reg_DRAM_TEMP_STACK1 {L : List String} (h : "DRAM_TEMP" ∈ L) : regsOf L (Fld.key Reg.DRAM_TEMP_STACK1) :=
  regsOf_mem 17 10 0 0 _ .ro rfl h (by simp)

theorem reg_DRAM_TEMP_STACK0 {L : List String} (h : "DRAM_TEMP" ∈ L) : regsOf L (Fld.key Reg.DRAM_TEMP_STACK0) :=
  regsOf_mem 17 10 0 0 _ .ro rfl h (by simp)

theorem reg_DRAM_CORR_CNT_COUNT {L : List String} (h : "DRAM_CORR_CNT" ∈ L) : regsOf L (Fld.key Reg.DRAM_CORR_CNT_COUNT) :=
  regsOf_mem 17 11 0 0 _ .rc rfl h (by simp)

theorem reg_DRAM_UNCORR_CNT_COUNT {L : List String} (h : "DRAM_UNCORR_CNT" ∈ L) : regsOf L (Fld.key Reg.DRAM_UNCORR_CNT_COUNT) :=
  regsOf_mem 17 12 0 0 _ .rc rfl h (by simp)

theorem reg_DRAM_CA_REPLAY_CNT_COUNT {L : List String} (h : "DRAM_CA_REPLAY_CNT" ∈ L) : regsOf L (Fld.key Reg.DRAM_CA_REPLAY_CNT_COUNT) :=
  regsOf_mem 17 13 0 0 _ .rc rfl h (by simp)

theorem reg_DRAM_ROW_GUARD_CNT_COUNT {L : List String} (h : "DRAM_ROW_GUARD_CNT" ∈ L) : regsOf L (Fld.key Reg.DRAM_ROW_GUARD_CNT_COUNT) :=
  regsOf_mem 17 14 0 0 _ .rc rfl h (by simp)

theorem reg_DRAM_PARK_CNT_COUNT {L : List String} (h : "DRAM_PARK_CNT" ∈ L) : regsOf L (Fld.key Reg.DRAM_PARK_CNT_COUNT) :=
  regsOf_mem 17 15 0 0 _ .rc rfl h (by simp)

theorem reg_DRAM_LANE_REPAIRED_CNT_COUNT {L : List String} (h : "DRAM_LANE_REPAIRED_CNT" ∈ L) : regsOf L (Fld.key Reg.DRAM_LANE_REPAIRED_CNT_COUNT) :=
  regsOf_mem 17 16 0 0 _ .rc rfl h (by simp)

theorem reg_HLINK_STATUS_HOST_LOST {L : List String} (h : "HLINK_STATUS" ∈ L) : regsOf L (Fld.key Reg.HLINK_STATUS_HOST_LOST) :=
  regsOf_mem 18 1 0 0 _ .w1c rfl h (by simp)

theorem reg_HLINK_STATUS_MEM_TIMEOUT {L : List String} (h : "HLINK_STATUS" ∈ L) : regsOf L (Fld.key Reg.HLINK_STATUS_MEM_TIMEOUT) :=
  regsOf_mem 18 1 0 0 _ .w1c rfl h (by simp)

theorem reg_HLINK_STATUS_PROTOCOL {L : List String} (h : "HLINK_STATUS" ∈ L) : regsOf L (Fld.key Reg.HLINK_STATUS_PROTOCOL) :=
  regsOf_mem 18 1 0 0 _ .w1c rfl h (by simp)

theorem reg_HLINK_STATUS_RETRAINED {L : List String} (h : "HLINK_STATUS" ∈ L) : regsOf L (Fld.key Reg.HLINK_STATUS_RETRAINED) :=
  regsOf_mem 18 1 0 0 _ .w1c rfl h (by simp)

theorem reg_HLINK_STATUS_REPAIRED {L : List String} (h : "HLINK_STATUS" ∈ L) : regsOf L (Fld.key Reg.HLINK_STATUS_REPAIRED) :=
  regsOf_mem 18 1 0 0 _ .ro rfl h (by simp)

theorem reg_HLINK_STATUS_RATE {L : List String} (h : "HLINK_STATUS" ∈ L) : regsOf L (Fld.key Reg.HLINK_STATUS_RATE) :=
  regsOf_mem 18 1 0 0 _ .ro rfl h (by simp)

theorem reg_HLINK_STATUS_STATE {L : List String} (h : "HLINK_STATUS" ∈ L) : regsOf L (Fld.key Reg.HLINK_STATUS_STATE) :=
  regsOf_mem 18 1 0 0 _ .ro rfl h (by simp)

theorem reg_HLINK_PROTO_LOC_TYPE {L : List String} (h : "HLINK_PROTO_LOC" ∈ L) : regsOf L (Fld.key Reg.HLINK_PROTO_LOC_TYPE) :=
  regsOf_mem 18 2 0 0 _ .ro rfl h (by simp)

theorem reg_HLINK_PROTO_LOC_REASON {L : List String} (h : "HLINK_PROTO_LOC" ∈ L) : regsOf L (Fld.key Reg.HLINK_PROTO_LOC_REASON) :=
  regsOf_mem 18 2 0 0 _ .ro rfl h (by simp)

theorem reg_HLINK_PROTO_LOC_TAG {L : List String} (h : "HLINK_PROTO_LOC" ∈ L) : regsOf L (Fld.key Reg.HLINK_PROTO_LOC_TAG) :=
  regsOf_mem 18 2 0 0 _ .ro rfl h (by simp)

theorem reg_HLINK_CRC_RETRY_CNT_COUNT {L : List String} (h : "HLINK_CRC_RETRY_CNT" ∈ L) : regsOf L (Fld.key Reg.HLINK_CRC_RETRY_CNT_COUNT) :=
  regsOf_mem 18 3 0 0 _ .rc rfl h (by simp)

theorem reg_HLINK_RETRAIN_CNT_COUNT {L : List String} (h : "HLINK_RETRAIN_CNT" ∈ L) : regsOf L (Fld.key Reg.HLINK_RETRAIN_CNT_COUNT) :=
  regsOf_mem 18 4 0 0 _ .rc rfl h (by simp)

theorem reg_HLINK_MEM_TIMEOUT_CNT_COUNT {L : List String} (h : "HLINK_MEM_TIMEOUT_CNT" ∈ L) : regsOf L (Fld.key Reg.HLINK_MEM_TIMEOUT_CNT_COUNT) :=
  regsOf_mem 18 5 0 0 _ .rc rfl h (by simp)

theorem reg_HLINK_LATE_REPLY_CNT_COUNT {L : List String} (h : "HLINK_LATE_REPLY_CNT" ∈ L) : regsOf L (Fld.key Reg.HLINK_LATE_REPLY_CNT_COUNT) :=
  regsOf_mem 18 6 0 0 _ .rc rfl h (by simp)

theorem reg_HLINK_PROTOCOL_CNT_COUNT {L : List String} (h : "HLINK_PROTOCOL_CNT" ∈ L) : regsOf L (Fld.key Reg.HLINK_PROTOCOL_CNT_COUNT) :=
  regsOf_mem 18 7 0 0 _ .rc rfl h (by simp)

theorem reg_RING_STATUS_CNT_SKIP {L : List String} (h : "RING_STATUS" ∈ L) : regsOf L (Fld.key Reg.RING_STATUS_CNT_SKIP) :=
  regsOf_mem 19 0 0 0 _ .w1c rfl h (by simp)

theorem reg_RING_STATUS_PUNT_DROP {L : List String} (h : "RING_STATUS" ∈ L) : regsOf L (Fld.key Reg.RING_STATUS_PUNT_DROP) :=
  regsOf_mem 19 0 0 0 _ .w1c rfl h (by simp)

theorem reg_RING_STATUS_BAD_DB {L : List String} (h : "RING_STATUS" ∈ L) : regsOf L (Fld.key Reg.RING_STATUS_BAD_DB) :=
  regsOf_mem 19 0 0 0 _ .w1c rfl h (by simp)

theorem reg_RING_STATUS_HALTED {L : List String} (h : "RING_STATUS" ∈ L) : regsOf L (Fld.key Reg.RING_STATUS_HALTED) :=
  regsOf_mem 19 0 0 0 _ .ro rfl h (by simp)

theorem reg_RING_HALTED_LO_HALTED {L : List String} (h : "RING_HALTED_LO" ∈ L) : regsOf L (Fld.key Reg.RING_HALTED_LO_HALTED) :=
  regsOf_mem 19 1 0 0 _ .ro rfl h (by simp)

theorem reg_RING_HALTED_HI_HALTED {L : List String} (h : "RING_HALTED_HI" ∈ L) : regsOf L (Fld.key Reg.RING_HALTED_HI_HALTED) :=
  regsOf_mem 19 2 0 0 _ .ro rfl h (by simp)

theorem reg_RING_BAD_DB_LOC_RING {L : List String} (h : "RING_BAD_DB_LOC" ∈ L) : regsOf L (Fld.key Reg.RING_BAD_DB_LOC_RING) :=
  regsOf_mem 19 4 0 0 _ .ro rfl h (by simp)

theorem reg_RING_BAD_DB_CNT_COUNT {L : List String} (h : "RING_BAD_DB_CNT" ∈ L) : regsOf L (Fld.key Reg.RING_BAD_DB_CNT_COUNT) :=
  regsOf_mem 19 8 0 0 _ .rc rfl h (by simp)

theorem reg_RING_CNT_SKIP_CNT_COUNT {L : List String} (h : "RING_CNT_SKIP_CNT" ∈ L) : regsOf L (Fld.key Reg.RING_CNT_SKIP_CNT_COUNT) :=
  regsOf_mem 19 9 0 0 _ .rc rfl h (by simp)

theorem reg_RING_CFG_STOPPED {L : List String} {i : Nat} (h : "RING_CFG" ∈ L) : regsOf L (Fld.key (Reg.RING_CFG_STOPPED i)) :=
  regsOf_mem 19 14 i 0 _ .ro rfl h (by simp)

theorem reg_RING_DEV_INDEX_DEV_INDEX {L : List String} {i : Nat} (h : "RING_DEV_INDEX" ∈ L) : regsOf L (Fld.key (Reg.RING_DEV_INDEX_DEV_INDEX i)) :=
  regsOf_mem 19 15 i 0 _ .ro rfl h (by simp)

theorem reg_RING_DB_DOORBELL {L : List String} {i : Nat} (h : "RING_DB" ∈ L) : regsOf L (Fld.key (Reg.RING_DB_DOORBELL i)) :=
  regsOf_mem 19 16 i 0 _ .ro rfl h (by simp)

theorem reg_RING_DROP_CNT_DROP {L : List String} {i : Nat} (h : "RING_DROP_CNT" ∈ L) : regsOf L (Fld.key (Reg.RING_DROP_CNT_DROP i)) :=
  regsOf_mem 19 19 i 0 _ .rc rfl h (by simp)

theorem reg_EVT_SUMMARY_COUNT {L : List String} (h : "EVT_SUMMARY" ∈ L) : regsOf L (Fld.key Reg.EVT_SUMMARY_COUNT) :=
  regsOf_mem 20 1 0 0 _ .ro rfl h (by simp)

theorem reg_EVT_SUMMARY_ATTN {L : List String} (h : "EVT_SUMMARY" ∈ L) : regsOf L (Fld.key Reg.EVT_SUMMARY_ATTN) :=
  regsOf_mem 20 1 0 0 _ .ro rfl h (by simp)

theorem reg_EVT_KEEPALIVE_CNT_COUNT {L : List String} (h : "EVT_KEEPALIVE_CNT" ∈ L) : regsOf L (Fld.key Reg.EVT_KEEPALIVE_CNT_COUNT) :=
  regsOf_mem 20 2 0 0 _ .rc rfl h (by simp)

theorem reg_EVT_PENDING_PENDING {L : List String} {i : Nat} (h : "EVT_PENDING" ∈ L) : regsOf L (Fld.key (Reg.EVT_PENDING_PENDING i)) :=
  regsOf_mem 20 3 i 0 _ .ro rfl h (by simp)

theorem reg_RCK_STATUS_PATCH_EVT {L : List String} (h : "RCK_STATUS" ∈ L) : regsOf L (Fld.key Reg.RCK_STATUS_PATCH_EVT) :=
  regsOf_mem 21 1 0 0 _ .w1c rfl h (by simp)

theorem reg_RCK_STATUS_HALTED {L : List String} (h : "RCK_STATUS" ∈ L) : regsOf L (Fld.key Reg.RCK_STATUS_HALTED) :=
  regsOf_mem 21 1 0 0 _ .ro rfl h (by simp)

theorem reg_RCK_PREEMPT_CNT_COUNT {L : List String} (h : "RCK_PREEMPT_CNT" ∈ L) : regsOf L (Fld.key Reg.RCK_PREEMPT_CNT_COUNT) :=
  regsOf_mem 21 2 0 0 _ .rc rfl h (by simp)

theorem reg_RCK_PATCH_STATUS_STATE {L : List String} (h : "RCK_PATCH_STATUS" ∈ L) : regsOf L (Fld.key Reg.RCK_PATCH_STATUS_STATE) :=
  regsOf_mem 21 4 0 0 _ .ro rfl h (by simp)

theorem reg_RCK_PATCH_STATUS_REASON {L : List String} (h : "RCK_PATCH_STATUS" ∈ L) : regsOf L (Fld.key Reg.RCK_PATCH_STATUS_REASON) :=
  regsOf_mem 21 4 0 0 _ .ro rfl h (by simp)

theorem reg_RCK_PATCH_STATUS_MATCHES {L : List String} (h : "RCK_PATCH_STATUS" ∈ L) : regsOf L (Fld.key Reg.RCK_PATCH_STATUS_MATCHES) :=
  regsOf_mem 21 4 0 0 _ .ro rfl h (by simp)

theorem reg_RCK_PATCH_STATUS_WORDS {L : List String} (h : "RCK_PATCH_STATUS" ∈ L) : regsOf L (Fld.key Reg.RCK_PATCH_STATUS_WORDS) :=
  regsOf_mem 21 4 0 0 _ .ro rfl h (by simp)

theorem reg_RCK_PATCH_VER_PATCH_VER {L : List String} (h : "RCK_PATCH_VER" ∈ L) : regsOf L (Fld.key Reg.RCK_PATCH_VER_PATCH_VER) :=
  regsOf_mem 21 5 0 0 _ .ro rfl h (by simp)

theorem reg_RCK_PATCH_DIGEST_DIGEST {L : List String} {i : Nat} (h : "RCK_PATCH_DIGEST" ∈ L) : regsOf L (Fld.key (Reg.RCK_PATCH_DIGEST_DIGEST i)) :=
  regsOf_mem 21 6 i 0 _ .ro rfl h (by simp)

theorem reg_RCK_ENG_STATUS_STATE {L : List String} {i : Nat} (h : "RCK_ENG_STATUS" ∈ L) : regsOf L (Fld.key (Reg.RCK_ENG_STATUS_STATE i)) :=
  regsOf_mem 21 7 i 0 _ .ro rfl h (by simp)

theorem reg_RCK_ENG_STATUS_PATCHED {L : List String} {i : Nat} (h : "RCK_ENG_STATUS" ∈ L) : regsOf L (Fld.key (Reg.RCK_ENG_STATUS_PATCHED i)) :=
  regsOf_mem 21 7 i 0 _ .ro rfl h (by simp)

theorem reg_RCK_ENG_STATUS_ROUTINE {L : List String} {i : Nat} (h : "RCK_ENG_STATUS" ∈ L) : regsOf L (Fld.key (Reg.RCK_ENG_STATUS_ROUTINE i)) :=
  regsOf_mem 21 7 i 0 _ .ro rfl h (by simp)

theorem reg_RCK_ENG_STATUS_SUSPENDED {L : List String} {i : Nat} (h : "RCK_ENG_STATUS" ∈ L) : regsOf L (Fld.key (Reg.RCK_ENG_STATUS_SUSPENDED i)) :=
  regsOf_mem 21 7 i 0 _ .ro rfl h (by simp)

theorem reg_RCK_ENG_STATUS_CHECKPOINTS {L : List String} {i : Nat} (h : "RCK_ENG_STATUS" ∈ L) : regsOf L (Fld.key (Reg.RCK_ENG_STATUS_CHECKPOINTS i)) :=
  regsOf_mem 21 7 i 0 _ .ro rfl h (by simp)

theorem reg_SEC_BOOT_STATE {L : List String} (h : "SEC_BOOT" ∈ L) : regsOf L (Fld.key Reg.SEC_BOOT_STATE) :=
  regsOf_mem 22 0 0 0 _ .ro rfl h (by simp)

theorem reg_SEC_BOOT_REASON {L : List String} (h : "SEC_BOOT" ∈ L) : regsOf L (Fld.key Reg.SEC_BOOT_REASON) :=
  regsOf_mem 22 0 0 0 _ .ro rfl h (by simp)

theorem reg_SEC_BOOT_STAGE {L : List String} (h : "SEC_BOOT" ∈ L) : regsOf L (Fld.key Reg.SEC_BOOT_STAGE) :=
  regsOf_mem 22 0 0 0 _ .ro rfl h (by simp)

theorem reg_SEC_LIFECYCLE_SVN_MIN {L : List String} (h : "SEC_LIFECYCLE" ∈ L) : regsOf L (Fld.key Reg.SEC_LIFECYCLE_SVN_MIN) :=
  regsOf_mem 22 1 0 0 _ .ro rfl h (by simp)

theorem reg_SEC_LIFECYCLE_ID_OK {L : List String} (h : "SEC_LIFECYCLE" ∈ L) : regsOf L (Fld.key Reg.SEC_LIFECYCLE_ID_OK) :=
  regsOf_mem 22 1 0 0 _ .ro rfl h (by simp)

theorem reg_SEC_LIFECYCLE_OWNER_DEBUG_ONLY {L : List String} (h : "SEC_LIFECYCLE" ∈ L) : regsOf L (Fld.key Reg.SEC_LIFECYCLE_OWNER_DEBUG_ONLY) :=
  regsOf_mem 22 1 0 0 _ .ro rfl h (by simp)

theorem reg_SEC_LIFECYCLE_STATE {L : List String} (h : "SEC_LIFECYCLE" ∈ L) : regsOf L (Fld.key Reg.SEC_LIFECYCLE_STATE) :=
  regsOf_mem 22 1 0 0 _ .ro rfl h (by simp)

theorem reg_SEC_DEVICE_ID_LO_ID {L : List String} (h : "SEC_DEVICE_ID_LO" ∈ L) : regsOf L (Fld.key Reg.SEC_DEVICE_ID_LO_ID) :=
  regsOf_mem 22 2 0 0 _ .ro rfl h (by simp)

theorem reg_SEC_DEVICE_ID_HI_ID {L : List String} (h : "SEC_DEVICE_ID_HI" ∈ L) : regsOf L (Fld.key Reg.SEC_DEVICE_ID_HI_ID) :=
  regsOf_mem 22 3 0 0 _ .ro rfl h (by simp)

theorem reg_SEC_STATUS_TOKEN_REJECT {L : List String} (h : "SEC_STATUS" ∈ L) : regsOf L (Fld.key Reg.SEC_STATUS_TOKEN_REJECT) :=
  regsOf_mem 22 4 0 0 _ .w1c rfl h (by simp)

theorem reg_SEC_STATUS_BUNDLE {L : List String} (h : "SEC_STATUS" ∈ L) : regsOf L (Fld.key Reg.SEC_STATUS_BUNDLE) :=
  regsOf_mem 22 4 0 0 _ .w1c rfl h (by simp)

theorem reg_SEC_DEBUG_STATUS_BY_OWNER {L : List String} (h : "SEC_DEBUG_STATUS" ∈ L) : regsOf L (Fld.key Reg.SEC_DEBUG_STATUS_BY_OWNER) :=
  regsOf_mem 22 5 0 0 _ .ro rfl h (by simp)

theorem reg_SEC_DEBUG_STATUS_GRANTED {L : List String} (h : "SEC_DEBUG_STATUS" ∈ L) : regsOf L (Fld.key Reg.SEC_DEBUG_STATUS_GRANTED) :=
  regsOf_mem 22 5 0 0 _ .ro rfl h (by simp)

theorem reg_SEC_BUNDLE_STATUS_STATE {L : List String} (h : "SEC_BUNDLE_STATUS" ∈ L) : regsOf L (Fld.key Reg.SEC_BUNDLE_STATUS_STATE) :=
  regsOf_mem 22 7 0 0 _ .ro rfl h (by simp)

theorem reg_SEC_BUNDLE_STATUS_REASON {L : List String} (h : "SEC_BUNDLE_STATUS" ∈ L) : regsOf L (Fld.key Reg.SEC_BUNDLE_STATUS_REASON) :=
  regsOf_mem 22 7 0 0 _ .ro rfl h (by simp)

theorem reg_SEC_BUNDLE_STATUS_OPS_DONE {L : List String} (h : "SEC_BUNDLE_STATUS" ∈ L) : regsOf L (Fld.key Reg.SEC_BUNDLE_STATUS_OPS_DONE) :=
  regsOf_mem 22 7 0 0 _ .ro rfl h (by simp)

theorem reg_SEC_DEBUG_CHALLENGE_CHALLENGE {L : List String} {i : Nat} (h : "SEC_DEBUG_CHALLENGE" ∈ L) : regsOf L (Fld.key (Reg.SEC_DEBUG_CHALLENGE_CHALLENGE i)) :=
  regsOf_mem 22 8 i 0 _ .ro rfl h (by simp)

theorem reg_SEC_FUSE_IMAGE_FUSE {L : List String} {i : Nat} (h : "SEC_FUSE_IMAGE" ∈ L) : regsOf L (Fld.key (Reg.SEC_FUSE_IMAGE_FUSE i)) :=
  regsOf_mem 22 9 i 0 _ .ro rfl h (by simp)

theorem reg_PAIR_STATUS_STATE {L : List String} (h : "PAIR_STATUS" ∈ L) : regsOf L (Fld.key Reg.PAIR_STATUS_STATE) :=
  regsOf_mem 23 2 0 0 _ .ro rfl h (by simp)

theorem reg_PAIR_STATUS_ROLE_CHG {L : List String} (h : "PAIR_STATUS" ∈ L) : regsOf L (Fld.key Reg.PAIR_STATUS_ROLE_CHG) :=
  regsOf_mem 23 2 0 0 _ .w1c rfl h (by simp)

theorem reg_PAIR_STATUS_MISMATCH {L : List String} (h : "PAIR_STATUS" ∈ L) : regsOf L (Fld.key Reg.PAIR_STATUS_MISMATCH) :=
  regsOf_mem 23 2 0 0 _ .w1c rfl h (by simp)

theorem reg_PAIR_STATUS_HB_LOST {L : List String} (h : "PAIR_STATUS" ∈ L) : regsOf L (Fld.key Reg.PAIR_STATUS_HB_LOST) :=
  regsOf_mem 23 2 0 0 _ .w1c rfl h (by simp)

theorem reg_PAIR_STATUS_BLOCKED {L : List String} (h : "PAIR_STATUS" ∈ L) : regsOf L (Fld.key Reg.PAIR_STATUS_BLOCKED) :=
  regsOf_mem 23 2 0 0 _ .w1c rfl h (by simp)

theorem reg_PAIR_STATUS_HOLD_FAULT {L : List String} (h : "PAIR_STATUS" ∈ L) : regsOf L (Fld.key Reg.PAIR_STATUS_HOLD_FAULT) :=
  regsOf_mem 23 2 0 0 _ .ro rfl h (by simp)

theorem reg_PAIR_STATUS_LINK_UP {L : List String} (h : "PAIR_STATUS" ∈ L) : regsOf L (Fld.key Reg.PAIR_STATUS_LINK_UP) :=
  regsOf_mem 23 2 0 0 _ .ro rfl h (by simp)

theorem reg_PAIR_STATUS_HOLD_IN {L : List String} (h : "PAIR_STATUS" ∈ L) : regsOf L (Fld.key Reg.PAIR_STATUS_HOLD_IN) :=
  regsOf_mem 23 2 0 0 _ .ro rfl h (by simp)

theorem reg_PAIR_STATUS_HOLD_OUT {L : List String} (h : "PAIR_STATUS" ∈ L) : regsOf L (Fld.key Reg.PAIR_STATUS_HOLD_OUT) :=
  regsOf_mem 23 2 0 0 _ .ro rfl h (by simp)

theorem reg_PAIR_PEER_STATE {L : List String} (h : "PAIR_PEER" ∈ L) : regsOf L (Fld.key Reg.PAIR_PEER_STATE) :=
  regsOf_mem 23 3 0 0 _ .ro rfl h (by simp)

theorem reg_PAIR_PEER_SENIOR {L : List String} (h : "PAIR_PEER" ∈ L) : regsOf L (Fld.key Reg.PAIR_PEER_SENIOR) :=
  regsOf_mem 23 3 0 0 _ .ro rfl h (by simp)

theorem reg_PAIR_PEER_TAKE_UNEXPLAINED {L : List String} (h : "PAIR_PEER" ∈ L) : regsOf L (Fld.key Reg.PAIR_PEER_TAKE_UNEXPLAINED) :=
  regsOf_mem 23 3 0 0 _ .ro rfl h (by simp)

theorem reg_PAIR_PEER_ID_LO_ID {L : List String} (h : "PAIR_PEER_ID_LO" ∈ L) : regsOf L (Fld.key Reg.PAIR_PEER_ID_LO_ID) :=
  regsOf_mem 23 4 0 0 _ .ro rfl h (by simp)

theorem reg_PAIR_PEER_ID_HI_ID {L : List String} (h : "PAIR_PEER_ID_HI" ∈ L) : regsOf L (Fld.key Reg.PAIR_PEER_ID_HI_ID) :=
  regsOf_mem 23 5 0 0 _ .ro rfl h (by simp)

theorem reg_PAIR_VERDICT_CAUSE {L : List String} (h : "PAIR_VERDICT" ∈ L) : regsOf L (Fld.key Reg.PAIR_VERDICT_CAUSE) :=
  regsOf_mem 23 6 0 0 _ .ro rfl h (by simp)

theorem reg_PAIR_VERDICT_OUTCOME {L : List String} (h : "PAIR_VERDICT" ∈ L) : regsOf L (Fld.key Reg.PAIR_VERDICT_OUTCOME) :=
  regsOf_mem 23 6 0 0 _ .ro rfl h (by simp)

theorem reg_PAIR_VERDICT_PORT {L : List String} (h : "PAIR_VERDICT" ∈ L) : regsOf L (Fld.key Reg.PAIR_VERDICT_PORT) :=
  regsOf_mem 23 6 0 0 _ .ro rfl h (by simp)

theorem reg_PAIR_VERDICT_WIN_WINDOW {L : List String} (h : "PAIR_VERDICT_WIN" ∈ L) : regsOf L (Fld.key Reg.PAIR_VERDICT_WIN_WINDOW) :=
  regsOf_mem 23 7 0 0 _ .ro rfl h (by simp)

theorem reg_PAIR_MIRROR_LEVEL_LEVEL {L : List String} (h : "PAIR_MIRROR_LEVEL" ∈ L) : regsOf L (Fld.key Reg.PAIR_MIRROR_LEVEL_LEVEL) :=
  regsOf_mem 23 8 0 0 _ .ro rfl h (by simp)

theorem reg_PAIR_MISMATCH_CNT_COUNT {L : List String} (h : "PAIR_MISMATCH_CNT" ∈ L) : regsOf L (Fld.key Reg.PAIR_MISMATCH_CNT_COUNT) :=
  regsOf_mem 23 9 0 0 _ .rc rfl h (by simp)

theorem reg_PAIR_SHIFT_CNT_COUNT {L : List String} (h : "PAIR_SHIFT_CNT" ∈ L) : regsOf L (Fld.key Reg.PAIR_SHIFT_CNT_COUNT) :=
  regsOf_mem 23 10 0 0 _ .rc rfl h (by simp)

theorem reg_PAIR_TAKEOVER_CNT_COUNT {L : List String} (h : "PAIR_TAKEOVER_CNT" ∈ L) : regsOf L (Fld.key Reg.PAIR_TAKEOVER_CNT_COUNT) :=
  regsOf_mem 23 11 0 0 _ .rc rfl h (by simp)

theorem reg_PAIR_RETX_CNT_COUNT {L : List String} (h : "PAIR_RETX_CNT" ∈ L) : regsOf L (Fld.key Reg.PAIR_RETX_CNT_COUNT) :=
  regsOf_mem 23 12 0 0 _ .rc rfl h (by simp)

theorem reg_SPAN_STATUS_PORTS_UP {L : List String} (h : "SPAN_STATUS" ∈ L) : regsOf L (Fld.key Reg.SPAN_STATUS_PORTS_UP) :=
  regsOf_mem 24 1 0 0 _ .ro rfl h (by simp)

theorem reg_SPAN_STATUS_PEER_DOWN {L : List String} (h : "SPAN_STATUS" ∈ L) : regsOf L (Fld.key Reg.SPAN_STATUS_PEER_DOWN) :=
  regsOf_mem 24 1 0 0 _ .w1c rfl h (by simp)

theorem reg_SPAN_STATUS_PEER_ACTIVE {L : List String} (h : "SPAN_STATUS" ∈ L) : regsOf L (Fld.key Reg.SPAN_STATUS_PEER_ACTIVE) :=
  regsOf_mem 24 1 0 0 _ .ro rfl h (by simp)

theorem reg_SPAN_TIME_DIFF_DIFF {L : List String} {i : Nat} (h : "SPAN_TIME_DIFF" ∈ L) : regsOf L (Fld.key (Reg.SPAN_TIME_DIFF_DIFF i)) :=
  regsOf_mem 24 2 i 0 _ .ro rfl h (by simp)

theorem reg_SPAN_RX_IGNORED_CNT_COUNT {L : List String} (h : "SPAN_RX_IGNORED_CNT" ∈ L) : regsOf L (Fld.key Reg.SPAN_RX_IGNORED_CNT_COUNT) :=
  regsOf_mem 24 3 0 0 _ .rc rfl h (by simp)

end Sys2Proof.Machine
end

