-- ==== Sys2Proof/Laws/ExtentShared.lean ====
section
/-! SUPPORT. What each operation of Ops, Flags, Time, Link, Mirror and Commands may touch: the parts and, at any index, the registers. -/

namespace Sys2Proof.Machine

theorem frame_setFunc (s : State) (n : Nat) (v : Nat) : s.only (State.setFunc s n v) [] (regsOf ["SYS_FUNC_STATUS"]) := by
  unfold State.setFunc
  generalize hP : ([] : List Part) = P
  generalize hL : (["SYS_FUNC_STATUS"] : List String) = L
  repeat (first
    | with_reducible exact keep_refl _ _ _
    | ((try lift_lets -underBinder); with_reducible intro y; clear_value y)
    | (with_reducible apply keep_set; on_goal 2 => first | assumption | (with_reducible apply reg_SYS_FUNC_STATUS_STATE; simp [← hL])))

theorem frame_modPort (s : State) (p : Nat) (f : PortDyn → PortDyn) : s.only (State.modPort s p f) [.ports] (regsOf []) := by
  unfold State.modPort
  generalize hP : ([.ports] : List Part) = P
  generalize hL : ([] : List String) = L
  repeat (first
    | with_reducible exact keep_refl _ _ _
    | (fail_if_no_progress (with_reducible apply keep_at_ports; on_goal 2 => simp [← hP])))

theorem frame_noteError (s : State) (ext : Bool) : s.only (State.noteError s ext) [.pair] (regsOf []) := by
  unfold State.noteError
  generalize hP : ([.pair] : List Part) = P
  generalize hL : ([] : List String) = L
  repeat (first
    | with_reducible exact keep_refl _ _ _
    | ((try lift_lets -underBinder); with_reducible intro y; clear_value y)
    | with_reducible apply keep_if
    | (fail_if_no_progress (with_reducible apply keep_at_pair; on_goal 2 => simp [← hP])))

theorem frame_count (s : State) (p : Nat) (i : Nat) (n : Nat) : s.only (State.count s p i n) [.counters, .pair] (regsOf ["CNT_HALF_LO", "CNT_HALF_HI"]) := by
  unfold State.count
  generalize hP : ([.counters, .pair] : List Part) = P
  generalize hL : (["CNT_HALF_LO", "CNT_HALF_HI"] : List String) = L
  repeat (first
    | with_reducible assumption
    | with_reducible exact keep_refl _ _ _
    | ((try lift_lets -underBinder); with_reducible intro y; refine cut_at (A := State.only s y P (regsOf L)) ?_ ?_; on_goal 2 => (intro hy; clear_value y)
       unfold y)
    | ((try lift_lets -underBinder); with_reducible intro y; clear_value y)
    | with_reducible apply keep_if
    | (with_reducible apply keep_putBit; on_goal 2 => first | assumption | (with_reducible apply reg_CNT_HALF_HI_HALF; simp [← hL]) | (with_reducible apply reg_CNT_HALF_LO_HALF; simp [← hL]))
    | (with_reducible apply keep_of (frame_noteError ..); on_goal 2 => simp [← hP]
       on_goal 2 => simp [← hL])
    | (fail_if_no_progress (with_reducible apply keep_at_counters; on_goal 2 => simp [← hP])))

theorem frame_clearCounters (s : State) (p : Nat) : s.only (State.clearCounters s p) [.ports, .counters] (regsOf ["CNT_HALF_LO", "CNT_HALF_HI"]) := by
  unfold State.clearCounters
  generalize hP : ([.ports, .counters] : List Part) = P
  generalize hL : (["CNT_HALF_LO", "CNT_HALF_HI"] : List String) = L
  repeat (first
    | with_reducible assumption
    | with_reducible exact keep_refl _ _ _
    | ((try lift_lets -underBinder); with_reducible intro y; refine cut_at (A := State.only s y P (regsOf L)) ?_ ?_; on_goal 2 => (intro hy; clear_value y)
       unfold y)
    | (with_reducible apply keep_off; on_goal 2 => first | assumption | (with_reducible apply reg_CNT_HALF_LO_HALF; simp [← hL]) | (with_reducible apply reg_CNT_HALF_HI_HALF; simp [← hL]))
    | (with_reducible apply keep_of (frame_modPort ..); on_goal 2 => simp [← hP]
       on_goal 2 => simp [← hL])
    | (fail_if_no_progress (with_reducible apply keep_at_counters; on_goal 2 => simp [← hP])))

theorem frame_setFrame (s : State) (f : Nat) (x : Frame) : s.only (State.setFrame s f x) [.path] (regsOf []) := by
  unfold State.setFrame
  generalize hP : ([.path] : List Part) = P
  generalize hL : ([] : List String) = L
  repeat (first
    | with_reducible exact keep_refl _ _ _
    | ((try lift_lets -underBinder); with_reducible intro y; clear_value y)
    | (fail_if_no_progress (with_reducible apply keep_at_path; on_goal 2 => simp [← hP])))

theorem frame_modFrame (s : State) (f : Nat) (k : Frame → Frame) : s.only (State.modFrame s f k) [.path] (regsOf []) := by
  unfold State.modFrame
  generalize hP : ([.path] : List Part) = P
  generalize hL : ([] : List String) = L
  repeat (first
    | with_reducible exact keep_refl _ _ _
    | (with_reducible apply keep_setFrame; on_goal 2 => simp [← hP])
    | split)

theorem frame_request (s : State) (k : RoutineKind) (c : Option CmdIn) : s.only (State.request s k c) [.reck] (regsOf []) := by
  unfold State.request
  generalize hP : ([.reck] : List Part) = P
  generalize hL : ([] : List String) = L
  repeat (first
    | with_reducible exact keep_refl _ _ _
    | ((try lift_lets -underBinder); with_reducible intro y; clear_value y)
    | (fail_if_no_progress (with_reducible apply keep_at_reck; on_goal 2 => simp [← hP])))

theorem frame_endOwn (s : State) (k : RoutineKind) (c : CmdIn) : s.only (State.endOwn s k c) [.reck] (regsOf []) := by
  unfold State.endOwn
  generalize hP : ([.reck] : List Part) = P
  generalize hL : ([] : List String) = L
  repeat (first
    | with_reducible exact keep_refl _ _ _
    | ((try lift_lets -underBinder); with_reducible intro y; clear_value y)
    | (fail_if_no_progress (with_reducible apply keep_at_reck; on_goal 2 => simp [← hP])))

theorem frame_endRoutine (s : State) (p : RoutineKind → Bool) : s.only (State.endRoutine s p) [.reck] (regsOf []) := by
  unfold State.endRoutine
  generalize hP : ([.reck] : List Part) = P
  generalize hL : ([] : List String) = L
  repeat (first
    | with_reducible exact keep_refl _ _ _
    | ((try lift_lets -underBinder); with_reducible intro y; clear_value y)
    | (fail_if_no_progress (with_reducible apply keep_at_reck; on_goal 2 => simp [← hP])))

theorem frame_syncSummary (s : State) : s.only (State.syncSummary s) [] (regsOf ["EVT_SUMMARY"]) := by
  unfold State.syncSummary
  generalize hP : ([] : List Part) = P
  generalize hL : (["EVT_SUMMARY"] : List String) = L
  repeat (first
    | with_reducible exact keep_refl _ _ _
    | (with_reducible apply keep_set; on_goal 2 => first | assumption | (with_reducible apply reg_EVT_SUMMARY_ATTN; simp [← hL]) | (with_reducible apply reg_EVT_SUMMARY_COUNT; simp [← hL])))

theorem frame_report (s : State) (n : Nat) (stamp : Nat) : s.only (State.report s n stamp) [.events] (regsOf []) := by
  unfold State.report
  generalize hP : ([.events] : List Part) = P
  generalize hL : ([] : List String) = L
  repeat (first
    | with_reducible exact keep_refl _ _ _
    | ((try lift_lets -underBinder); with_reducible intro y; clear_value y)
    | with_reducible apply keep_if
    | (fail_if_no_progress (with_reducible apply keep_at_events; on_goal 2 => simp [← hP])))

theorem frame_scanBlock (s : State) (block : Nat) (stamp : Nat) : s.only (State.scanBlock s block stamp) [.events, .pair] (regsOf ["EVT_PENDING"]) := by
  unfold State.scanBlock
  generalize hP : ([.events, .pair] : List Part) = P
  generalize hL : (["EVT_PENDING"] : List String) = L
  repeat (first
    | with_reducible assumption
    | with_reducible exact keep_refl _ _ _
    | ((try lift_lets -underBinder); with_reducible intro y; refine cut_at (A := State.only u y P (regsOf L)) ?_ ?_; on_goal 2 => (intro hy; clear_value y)
       unfold y)
    | ((try lift_lets -underBinder); with_reducible intro y; clear_value y)
    | with_reducible apply keep_if
    | with_reducible refine keep_foldl ?_ (fun u a => ?_)
    | (with_reducible apply keep_putBit; on_goal 2 => first | assumption | (with_reducible apply reg_EVT_PENDING_PENDING; simp [← hL]))
    | (with_reducible apply keep_of (frame_noteError ..); on_goal 2 => simp [← hP]
       on_goal 2 => simp [← hL])
    | (with_reducible apply keep_of (frame_report ..); on_goal 2 => simp [← hP]
       on_goal 2 => simp [← hL]))

theorem frame_obsTick (s : State) : s.only (State.obsTick s) [.plat] (regsOf []) := by
  unfold State.obsTick
  generalize hP : ([.plat] : List Part) = P
  generalize hL : ([] : List String) = L
  repeat (first
    | with_reducible exact keep_refl _ _ _
    | ((try lift_lets -underBinder); with_reducible intro y; clear_value y)
    | with_reducible apply keep_if
    | (fail_if_no_progress (with_reducible apply keep_at_plat; on_goal 2 => simp [← hP])))

theorem frame_settle (s : State) : s.only (State.settle s) [] (regsOf []) := keep_settle (keep_refl ..)

theorem frame_setDom (s : State) (d : Nat) (x : DomSt) : s.only (State.setDom s d x) [.time] (regsOf []) := by
  unfold State.setDom
  generalize hP : ([.time] : List Part) = P
  generalize hL : ([] : List String) = L
  repeat (first
    | with_reducible exact keep_refl _ _ _
    | ((try lift_lets -underBinder); with_reducible intro y; clear_value y)
    | (fail_if_no_progress (with_reducible apply keep_at_time; on_goal 2 => simp [← hP])))

theorem frame_setPres (s : State) (p : PresSt) : s.only (State.setPres s p) [.time] (regsOf []) := by
  unfold State.setPres
  generalize hP : ([.time] : List Part) = P
  generalize hL : ([] : List String) = L
  repeat (first
    | with_reducible exact keep_refl _ _ _
    | ((try lift_lets -underBinder); with_reducible intro y; clear_value y)
    | (fail_if_no_progress (with_reducible apply keep_at_time; on_goal 2 => simp [← hP])))

theorem frame_tickClocks (s : State) : s.only (State.tickClocks s) [.cycle, .time] (regsOf []) :=
  keep_part (keep_refl ..) rfl fun q hq => by cases q <;> simp_all [Part.same, State.tickClocks]

theorem keep_putGroup {s x : State} {P : List Part} {m : Keys} {f1 f2 f3 f4 f5 : Fld} {st : Nat} (h : s.only x P m) (h1 : m (Fld.key f1))
    (h2 : m (Fld.key f2)) (h3 : m (Fld.key f3)) (h4 : m (Fld.key f4)) (h5 : m (Fld.key f5)) :
    s.only (x.putGroup f1 f2 f3 f4 f5 st) P m :=
  keep_set _ _ (keep_set _ _ (keep_set _ _ (keep_set _ _ (keep_set _ _ h h1) h2) h3) h4) h5

theorem frame_syncTime (s : State) : s.only (State.syncTime s) [] (regsOf ["TIME_DOM_PHASE_LEFT", "TIME_DOM_STATUS", "TIME_PRES_STATUS"]) := by
  unfold State.syncTime
  generalize hP : ([] : List Part) = P
  generalize hL : (["TIME_DOM_PHASE_LEFT", "TIME_DOM_STATUS", "TIME_PRES_STATUS"] : List String) = L
  repeat (first
    | with_reducible assumption
    | with_reducible exact keep_refl _ _ _
    | ((try lift_lets -underBinder); with_reducible intro y; refine cut_at (A := State.only s y P (regsOf L)) ?_ ?_; on_goal 2 => (intro hy; clear_value y)
       unfold y)
    | ((try lift_lets -underBinder); with_reducible intro y; refine cut_at (A := ∀ (u : State) a, u.only (y u a) P (regsOf L)) ?_ ?_; on_goal 2 => (intro hy; clear_value y)
       (intro u a; unfold y; beta_reduce))
    | (with_reducible apply keep_set; on_goal 2 => first | assumption | (with_reducible apply reg_TIME_PRES_STATUS_MOVING; simp [← hL]) | (with_reducible apply reg_TIME_PRES_STATUS_HOLDOVER; simp [← hL]) | (with_reducible apply reg_TIME_PRES_STATUS_DOMAIN; simp [← hL]) | (with_reducible apply reg_TIME_PRES_STATUS_LOCK; simp [← hL]) | (with_reducible apply reg_TIME_DOM_STATUS_LOCK; simp [← hL]) | (with_reducible apply reg_TIME_DOM_STATUS_SLEWING; simp [← hL]) | (with_reducible apply reg_TIME_DOM_PHASE_LEFT_LEFT; simp [← hL]))
    | (with_reducible apply keep_setB; on_goal 2 => first | assumption | (with_reducible apply reg_TIME_PRES_STATUS_MOVING; simp [← hL]) | (with_reducible apply reg_TIME_PRES_STATUS_HOLDOVER; simp [← hL]) | (with_reducible apply reg_TIME_PRES_STATUS_DOMAIN; simp [← hL]) | (with_reducible apply reg_TIME_PRES_STATUS_LOCK; simp [← hL]) | (with_reducible apply reg_TIME_DOM_STATUS_LOCK; simp [← hL]) | (with_reducible apply reg_TIME_DOM_STATUS_SLEWING; simp [← hL]) | (with_reducible apply reg_TIME_DOM_PHASE_LEFT_LEFT; simp [← hL]))
    | with_reducible refine only_then ?_ (‹∀ (u : State) (a : _), State.only u _ _ _› _ _))

theorem frame_followFrom (s : State) (d : Nat) : s.only (State.followFrom s d) [.time] (regsOf ["TIME_PRES_STATUS"]) := by
  unfold State.followFrom
  generalize hP : ([.time] : List Part) = P
  generalize hL : (["TIME_PRES_STATUS"] : List String) = L
  repeat (first
    | with_reducible assumption
    | with_reducible exact keep_refl _ _ _
    | ((try lift_lets -underBinder); with_reducible intro y; refine cut_at (A := State.only s y P (regsOf L)) ?_ ?_; on_goal 2 => (intro hy; clear_value y)
       unfold y)
    | ((try lift_lets -underBinder); with_reducible intro y; clear_value y)
    | with_reducible apply keep_if
    | (with_reducible apply keep_on; on_goal 2 => first | assumption | (with_reducible apply reg_TIME_PRES_STATUS_MOVED; simp [← hL]))
    | (with_reducible apply keep_setPres; on_goal 2 => simp [← hP]))

theorem frame_presTransition (s : State) : s.only (State.presTransition s) [.time] (regsOf ["TIME_DOM_PHASE_LEFT", "TIME_DOM_STATUS", "TIME_PRES_STATUS", "STAMP_LL_STATUS"]) := by
  unfold State.presTransition
  generalize hP : ([.time] : List Part) = P
  generalize hL : (["TIME_DOM_PHASE_LEFT", "TIME_DOM_STATUS", "TIME_PRES_STATUS", "STAMP_LL_STATUS"] : List String) = L
  repeat (first
    | with_reducible assumption
    | with_reducible exact keep_refl _ _ _
    | ((try lift_lets -underBinder); with_reducible intro y; refine cut_at (A := State.only s y P (regsOf L)) ?_ ?_; on_goal 2 => (intro hy; clear_value y)
       unfold y)
    | ((try lift_lets -underBinder); with_reducible intro y; clear_value y)
    | with_reducible apply keep_if
    | (with_reducible apply keep_on; on_goal 2 => first | assumption | (with_reducible apply reg_TIME_PRES_STATUS_HOLDOVER_ENTERED; simp [← hL]) | (with_reducible apply reg_TIME_PRES_STATUS_STEPPED; simp [← hL]) | (with_reducible apply reg_STAMP_LL_STATUS_SUSPENDED; simp [← hL]))
    | (with_reducible apply keep_off; on_goal 2 => first | assumption | (with_reducible apply reg_TIME_PRES_STATUS_HOLDOVER_ENTERED; simp [← hL]) | (with_reducible apply reg_TIME_PRES_STATUS_STEPPED; simp [← hL]) | (with_reducible apply reg_STAMP_LL_STATUS_SUSPENDED; simp [← hL]))
    | (with_reducible apply keep_setPres; on_goal 2 => simp [← hP])
    | (with_reducible apply keep_of (frame_followFrom ..); on_goal 2 => simp [← hP]
       on_goal 2 => simp [← hL])
    | (with_reducible apply keep_of (frame_syncTime ..); on_goal 2 => simp [← hP]
       on_goal 2 => simp [← hL])
    | split)

theorem keep_unlock {s x : State} {P : List Part} {L : List String} {d : Nat} {f : Fld} (h : s.only x P (regsOf L)) (hf : regsOf L (Fld.key f))
    (hP : ∀ q ∈ [Part.time], q ∈ P)
    (hL : ∀ r ∈ ["TIME_DOM_CTRL", "TIME_DOM_PHASE_LEFT", "TIME_DOM_STATUS", "TIME_PRES_STATUS"], r ∈ L) :
    s.only (x.unlock d f) P (regsOf L) := by
  unfold State.unlock
  refine keep_if (keep_of (frame_syncTime _) (keep_setDom _ _ (keep_on _ (keep_off _ h (reg_TIME_DOM_CTRL_LOCKED (hL _ (by simp)))) hf) (hP _ (by simp))) ?_ ?_) h
  · simpa using hP
  · intro r hr
    exact hL r (by simp at hr ⊢; tauto)

theorem frame_servoWrite (s : State) (d : Nat) : s.only (State.servoWrite s d) [.time] (regsOf ["TIME_DOM_CTRL", "TIME_DOM_PHASE_LEFT", "TIME_DOM_STATUS", "TIME_PRES_STATUS"]) := by
  unfold State.servoWrite
  generalize hP : ([.time] : List Part) = P
  generalize hL : (["TIME_DOM_CTRL", "TIME_DOM_PHASE_LEFT", "TIME_DOM_STATUS", "TIME_PRES_STATUS"] : List String) = L
  repeat (first
    | with_reducible assumption
    | with_reducible exact keep_refl _ _ _
    | ((try lift_lets -underBinder); with_reducible intro y; refine cut_at (A := State.only s y P (regsOf L)) ?_ ?_; on_goal 2 => (intro hy; clear_value y)
       unfold y)
    | ((try lift_lets -underBinder); with_reducible intro y; clear_value y)
    | with_reducible apply keep_if
    | (with_reducible apply keep_on; on_goal 2 => first | assumption | (with_reducible apply reg_TIME_DOM_CTRL_LOCKED; simp [← hL]) | (with_reducible apply reg_TIME_DOM_STATUS_UNLOCK_WDOG; simp [← hL]))
    | (with_reducible apply keep_setB; on_goal 2 => first | assumption | (with_reducible apply reg_TIME_DOM_CTRL_LOCKED; simp [← hL]) | (with_reducible apply reg_TIME_DOM_STATUS_UNLOCK_WDOG; simp [← hL]))
    | (with_reducible apply keep_setDom; on_goal 2 => simp [← hP])
    | (with_reducible apply keep_of (frame_syncTime ..); on_goal 2 => simp [← hP]
       on_goal 2 => simp [← hL])
    | split)

theorem frame_setTime (s : State) (d : Nat) (t : Nat) : s.only (State.setTime s d t) [.time] (regsOf ["TIME_DOM_PHASE_LEFT", "TIME_DOM_STATUS", "TIME_PRES_STATUS"]) := by
  unfold State.setTime
  generalize hP : ([.time] : List Part) = P
  generalize hL : (["TIME_DOM_PHASE_LEFT", "TIME_DOM_STATUS", "TIME_PRES_STATUS"] : List String) = L
  repeat (first
    | with_reducible exact keep_refl _ _ _
    | ((try lift_lets -underBinder); with_reducible intro y; clear_value y)
    | (with_reducible apply keep_setDom; on_goal 2 => simp [← hP])
    | (with_reducible apply keep_of (frame_syncTime ..); on_goal 2 => simp [← hP]
       on_goal 2 => simp [← hL]))

theorem frame_setTpo (s : State) (n : Nat) (x : TpoSt) : s.only (State.setTpo s n x) [.time] (regsOf []) := by
  unfold State.setTpo
  generalize hP : ([.time] : List Part) = P
  generalize hL : ([] : List String) = L
  repeat (first
    | with_reducible exact keep_refl _ _ _
    | ((try lift_lets -underBinder); with_reducible intro y; clear_value y)
    | (fail_if_no_progress (with_reducible apply keep_at_time; on_goal 2 => simp [← hP])))

theorem frame_tpoArm (s : State) (n : Nat) : s.only (State.tpoArm s n) [.time] (regsOf ["TIME_TPO_CTRL"]) := by
  unfold State.tpoArm
  generalize hP : ([.time] : List Part) = P
  generalize hL : (["TIME_TPO_CTRL"] : List String) = L
  repeat (first
    | with_reducible exact keep_refl _ _ _
    | ((try lift_lets -underBinder); with_reducible intro y; clear_value y)
    | with_reducible apply keep_if
    | (with_reducible apply keep_on; on_goal 2 => first | assumption | (with_reducible apply reg_TIME_TPO_CTRL_ENABLE; simp [← hL]) | (with_reducible apply reg_TIME_TPO_CTRL_MISSED; simp [← hL]) | (with_reducible apply reg_TIME_TPO_CTRL_RUNNING; simp [← hL]))
    | (with_reducible apply keep_off; on_goal 2 => first | assumption | (with_reducible apply reg_TIME_TPO_CTRL_ENABLE; simp [← hL]) | (with_reducible apply reg_TIME_TPO_CTRL_MISSED; simp [← hL]) | (with_reducible apply reg_TIME_TPO_CTRL_RUNNING; simp [← hL]))
    | (with_reducible apply keep_setTpo; on_goal 2 => simp [← hP]))

theorem frame_tpoStop (s : State) (n : Nat) : s.only (State.tpoStop s n) [.time] (regsOf ["TIME_TPO_CTRL"]) := by
  unfold State.tpoStop
  generalize hP : ([.time] : List Part) = P
  generalize hL : (["TIME_TPO_CTRL"] : List String) = L
  repeat (first
    | with_reducible exact keep_refl _ _ _
    | (with_reducible apply keep_off; on_goal 2 => first | assumption | (with_reducible apply reg_TIME_TPO_CTRL_RUNNING; simp [← hL]) | (with_reducible apply reg_TIME_TPO_CTRL_ENABLE; simp [← hL]))
    | (with_reducible apply keep_setTpo; on_goal 2 => simp [← hP]))

theorem frame_tpoEdge (s : State) (n : Nat) (trailing : Bool) : s.only (State.tpoEdge s n trailing) [.time] (regsOf ["TIME_TPO_CTRL"]) := by
  unfold State.tpoEdge
  generalize hP : ([.time] : List Part) = P
  generalize hL : (["TIME_TPO_CTRL"] : List String) = L
  repeat (first
    | with_reducible exact keep_refl _ _ _
    | ((try lift_lets -underBinder); with_reducible intro y; clear_value y)
    | with_reducible apply keep_if
    | (with_reducible apply keep_setTpo; on_goal 2 => simp [← hP])
    | (with_reducible apply keep_of (frame_tpoStop ..); on_goal 2 => simp [← hP]
       on_goal 2 => simp [← hL]))

theorem frame_setTpi (s : State) (n : Nat) (l : List Nat) : s.only (State.setTpi s n l) [.time] (regsOf ["TIME_TPI_CTRL", "TIME_TPI_CAPT_W0", "TIME_TPI_CAPT_W1", "TIME_TPI_CAPT_W2", "TIME_TPI_CAPT_W3"]) := by
  unfold State.setTpi
  generalize hP : ([.time] : List Part) = P
  generalize hL : (["TIME_TPI_CTRL", "TIME_TPI_CAPT_W0", "TIME_TPI_CAPT_W1", "TIME_TPI_CAPT_W2", "TIME_TPI_CAPT_W3"] : List String) = L
  repeat (first
    | with_reducible assumption
    | with_reducible exact keep_refl _ _ _
    | ((try lift_lets -underBinder); with_reducible intro y; refine cut_at (A := State.only s y P (regsOf L)) ?_ ?_; on_goal 2 => (intro hy; clear_value y)
       unfold y)
    | ((try lift_lets -underBinder); with_reducible intro y; clear_value y)
    | (with_reducible apply keep_set; on_goal 2 => first | assumption | (with_reducible apply reg_TIME_TPI_CTRL_COUNT; simp [← hL]) | (with_reducible apply reg_TIME_TPI_CAPT_W3_SEC_HI; simp [← hL]) | (with_reducible apply reg_TIME_TPI_CAPT_W2_SEC_LO; simp [← hL]) | (with_reducible apply reg_TIME_TPI_CAPT_W1_NANOSECONDS; simp [← hL]) | (with_reducible apply reg_TIME_TPI_CAPT_W0_FRACTION; simp [← hL]) | (with_reducible apply reg_TIME_TPI_CAPT_W0_FLAGS; simp [← hL]))
    | (with_reducible apply keep_putGroup
       on_goal 2 => (first | (with_reducible apply reg_TIME_TPI_CTRL_COUNT; simp [← hL]) | (with_reducible apply reg_TIME_TPI_CAPT_W3_SEC_HI; simp [← hL]) | (with_reducible apply reg_TIME_TPI_CAPT_W2_SEC_LO; simp [← hL]) | (with_reducible apply reg_TIME_TPI_CAPT_W1_NANOSECONDS; simp [← hL]) | (with_reducible apply reg_TIME_TPI_CAPT_W0_FRACTION; simp [← hL]) | (with_reducible apply reg_TIME_TPI_CAPT_W0_FLAGS; simp [← hL]))
       on_goal 2 => (first | (with_reducible apply reg_TIME_TPI_CTRL_COUNT; simp [← hL]) | (with_reducible apply reg_TIME_TPI_CAPT_W3_SEC_HI; simp [← hL]) | (with_reducible apply reg_TIME_TPI_CAPT_W2_SEC_LO; simp [← hL]) | (with_reducible apply reg_TIME_TPI_CAPT_W1_NANOSECONDS; simp [← hL]) | (with_reducible apply reg_TIME_TPI_CAPT_W0_FRACTION; simp [← hL]) | (with_reducible apply reg_TIME_TPI_CAPT_W0_FLAGS; simp [← hL]))
       on_goal 2 => (first | (with_reducible apply reg_TIME_TPI_CTRL_COUNT; simp [← hL]) | (with_reducible apply reg_TIME_TPI_CAPT_W3_SEC_HI; simp [← hL]) | (with_reducible apply reg_TIME_TPI_CAPT_W2_SEC_LO; simp [← hL]) | (with_reducible apply reg_TIME_TPI_CAPT_W1_NANOSECONDS; simp [← hL]) | (with_reducible apply reg_TIME_TPI_CAPT_W0_FRACTION; simp [← hL]) | (with_reducible apply reg_TIME_TPI_CAPT_W0_FLAGS; simp [← hL]))
       on_goal 2 => (first | (with_reducible apply reg_TIME_TPI_CTRL_COUNT; simp [← hL]) | (with_reducible apply reg_TIME_TPI_CAPT_W3_SEC_HI; simp [← hL]) | (with_reducible apply reg_TIME_TPI_CAPT_W2_SEC_LO; simp [← hL]) | (with_reducible apply reg_TIME_TPI_CAPT_W1_NANOSECONDS; simp [← hL]) | (with_reducible apply reg_TIME_TPI_CAPT_W0_FRACTION; simp [← hL]) | (with_reducible apply reg_TIME_TPI_CAPT_W0_FLAGS; simp [← hL]))
       on_goal 2 => (first | (with_reducible apply reg_TIME_TPI_CTRL_COUNT; simp [← hL]) | (with_reducible apply reg_TIME_TPI_CAPT_W3_SEC_HI; simp [← hL]) | (with_reducible apply reg_TIME_TPI_CAPT_W2_SEC_LO; simp [← hL]) | (with_reducible apply reg_TIME_TPI_CAPT_W1_NANOSECONDS; simp [← hL]) | (with_reducible apply reg_TIME_TPI_CAPT_W0_FRACTION; simp [← hL]) | (with_reducible apply reg_TIME_TPI_CAPT_W0_FLAGS; simp [← hL])))
    | (fail_if_no_progress (with_reducible apply keep_at_time; on_goal 2 => simp [← hP])))

theorem frame_tpiCapture (s : State) (n : Nat) (rising : Bool) : s.only (State.tpiCapture s n rising) [.time] (regsOf ["TIME_TPI_CTRL", "TIME_TPI_CAPT_W0", "TIME_TPI_CAPT_W1", "TIME_TPI_CAPT_W2", "TIME_TPI_CAPT_W3"]) := by
  unfold State.tpiCapture
  generalize hP : ([.time] : List Part) = P
  generalize hL : (["TIME_TPI_CTRL", "TIME_TPI_CAPT_W0", "TIME_TPI_CAPT_W1", "TIME_TPI_CAPT_W2", "TIME_TPI_CAPT_W3"] : List String) = L
  repeat (first
    | with_reducible assumption
    | with_reducible exact keep_refl _ _ _
    | ((try lift_lets -underBinder); with_reducible intro y; refine cut_at (A := State.only s y P (regsOf L)) ?_ ?_; on_goal 2 => (intro hy; clear_value y)
       unfold y)
    | ((try lift_lets -underBinder); with_reducible intro y; clear_value y)
    | with_reducible apply keep_if
    | (with_reducible apply keep_on; on_goal 2 => first | assumption | (with_reducible apply reg_TIME_TPI_CTRL_OVERFLOW; simp [← hL]))
    | (with_reducible apply keep_of (frame_setTpi ..); on_goal 2 => simp [← hP]
       on_goal 2 => simp [← hL])
    | (fail_if_no_progress (with_reducible apply keep_at_time; on_goal 2 => simp [← hP])))

theorem frame_tpiPop (s : State) (n : Nat) : s.only (State.tpiPop s n) [.time] (regsOf ["TIME_TPI_CTRL", "TIME_TPI_CAPT_W0", "TIME_TPI_CAPT_W1", "TIME_TPI_CAPT_W2", "TIME_TPI_CAPT_W3"]) := by
  unfold State.tpiPop
  generalize hP : ([.time] : List Part) = P
  generalize hL : (["TIME_TPI_CTRL", "TIME_TPI_CAPT_W0", "TIME_TPI_CAPT_W1", "TIME_TPI_CAPT_W2", "TIME_TPI_CAPT_W3"] : List String) = L
  repeat (first
    | with_reducible assumption
    | with_reducible exact keep_refl _ _ _
    | ((try lift_lets -underBinder); with_reducible intro y; refine cut_at (A := State.only s y P (regsOf L)) ?_ ?_; on_goal 2 => (intro hy; clear_value y)
       unfold y)
    | ((try lift_lets -underBinder); with_reducible intro y; clear_value y)
    | with_reducible apply keep_if
    | (with_reducible apply keep_setB; on_goal 2 => first | assumption | (with_reducible apply reg_TIME_TPI_CTRL_OVERFLOW; simp [← hL]))
    | (with_reducible apply keep_of (frame_setTpi ..); on_goal 2 => simp [← hP]
       on_goal 2 => simp [← hL])
    | (fail_if_no_progress (with_reducible apply keep_at_time; on_goal 2 => simp [← hP]))
    | split)

theorem frame_timeEffect (old : State) (s : State) (off : Nat) (v : Nat) : s.only (timeEffect old s off v) [.time] (regsOf ["TIME_DOM_CTRL", "TIME_DOM_PHASE_LEFT", "TIME_DOM_STATUS", "TIME_DOM_NOW_W0", "TIME_DOM_NOW_W1", "TIME_DOM_NOW_W2", "TIME_DOM_NOW_W3", "TIME_PRES_STATUS", "TIME_PRES_NOW_W0", "TIME_PRES_NOW_W1", "TIME_PRES_NOW_W2", "TIME_PRES_NOW_W3", "TIME_TPO_CTRL", "TIME_TPI_CTRL", "TIME_TPI_CAPT_W0", "TIME_TPI_CAPT_W1", "TIME_TPI_CAPT_W2", "TIME_TPI_CAPT_W3"]) := by
  unfold timeEffect
  generalize hP : ([.time] : List Part) = P
  generalize hL : (["TIME_DOM_CTRL", "TIME_DOM_PHASE_LEFT", "TIME_DOM_STATUS", "TIME_DOM_NOW_W0", "TIME_DOM_NOW_W1", "TIME_DOM_NOW_W2", "TIME_DOM_NOW_W3", "TIME_PRES_STATUS", "TIME_PRES_NOW_W0", "TIME_PRES_NOW_W1", "TIME_PRES_NOW_W2", "TIME_PRES_NOW_W3", "TIME_TPO_CTRL", "TIME_TPI_CTRL", "TIME_TPI_CAPT_W0", "TIME_TPI_CAPT_W1", "TIME_TPI_CAPT_W2", "TIME_TPI_CAPT_W3"] : List String) = L
  repeat (first
    | with_reducible assumption
    | with_reducible exact keep_refl _ _ _
    | ((try lift_lets -underBinder); with_reducible intro y; refine cut_at (A := State.only s y P (regsOf L)) ?_ ?_; on_goal 2 => (intro hy; clear_value y)
       unfold y)
    | ((try lift_lets -underBinder); with_reducible intro y; refine cut_at (A := ∀ (u : State) a, u.only (y u a) P (regsOf L)) ?_ ?_; on_goal 2 => (intro hy; clear_value y)
       (intro u a; unfold y; beta_reduce))
    | ((try lift_lets -underBinder); with_reducible intro y; clear_value y)
    | with_reducible apply keep_if
    | (with_reducible apply keep_on; on_goal 2 => first | assumption | (with_reducible apply reg_TIME_PRES_NOW_W3_SEC_HI; simp [← hL]) | (with_reducible apply reg_TIME_PRES_NOW_W2_SEC_LO; simp [← hL]) | (with_reducible apply reg_TIME_PRES_NOW_W1_NANOSECONDS; simp [← hL]) | (with_reducible apply reg_TIME_PRES_NOW_W0_FRACTION; simp [← hL]) | (with_reducible apply reg_TIME_PRES_NOW_W0_FLAGS; simp [← hL]) | (with_reducible apply reg_TIME_DOM_NOW_W3_SEC_HI; simp [← hL]) | (with_reducible apply reg_TIME_DOM_NOW_W2_SEC_LO; simp [← hL]) | (with_reducible apply reg_TIME_DOM_NOW_W1_NANOSECONDS; simp [← hL]) | (with_reducible apply reg_TIME_DOM_NOW_W0_FRACTION; simp [← hL]) | (with_reducible apply reg_TIME_DOM_NOW_W0_FLAGS; simp [← hL]) | (with_reducible apply reg_TIME_DOM_STATUS_UNLOCK_HOST; simp [← hL]) | (with_reducible apply reg_TIME_DOM_CTRL_LOCKED; simp [← hL]))
    | (with_reducible apply keep_off; on_goal 2 => first | assumption | (with_reducible apply reg_TIME_PRES_NOW_W3_SEC_HI; simp [← hL]) | (with_reducible apply reg_TIME_PRES_NOW_W2_SEC_LO; simp [← hL]) | (with_reducible apply reg_TIME_PRES_NOW_W1_NANOSECONDS; simp [← hL]) | (with_reducible apply reg_TIME_PRES_NOW_W0_FRACTION; simp [← hL]) | (with_reducible apply reg_TIME_PRES_NOW_W0_FLAGS; simp [← hL]) | (with_reducible apply reg_TIME_DOM_NOW_W3_SEC_HI; simp [← hL]) | (with_reducible apply reg_TIME_DOM_NOW_W2_SEC_LO; simp [← hL]) | (with_reducible apply reg_TIME_DOM_NOW_W1_NANOSECONDS; simp [← hL]) | (with_reducible apply reg_TIME_DOM_NOW_W0_FRACTION; simp [← hL]) | (with_reducible apply reg_TIME_DOM_NOW_W0_FLAGS; simp [← hL]) | (with_reducible apply reg_TIME_DOM_STATUS_UNLOCK_HOST; simp [← hL]) | (with_reducible apply reg_TIME_DOM_CTRL_LOCKED; simp [← hL]))
    | (with_reducible apply keep_setDom; on_goal 2 => simp [← hP])
    | (with_reducible apply keep_putGroup
       on_goal 2 => (first | (with_reducible apply reg_TIME_PRES_NOW_W3_SEC_HI; simp [← hL]) | (with_reducible apply reg_TIME_PRES_NOW_W2_SEC_LO; simp [← hL]) | (with_reducible apply reg_TIME_PRES_NOW_W1_NANOSECONDS; simp [← hL]) | (with_reducible apply reg_TIME_PRES_NOW_W0_FRACTION; simp [← hL]) | (with_reducible apply reg_TIME_PRES_NOW_W0_FLAGS; simp [← hL]) | (with_reducible apply reg_TIME_DOM_NOW_W3_SEC_HI; simp [← hL]) | (with_reducible apply reg_TIME_DOM_NOW_W2_SEC_LO; simp [← hL]) | (with_reducible apply reg_TIME_DOM_NOW_W1_NANOSECONDS; simp [← hL]) | (with_reducible apply reg_TIME_DOM_NOW_W0_FRACTION; simp [← hL]) | (with_reducible apply reg_TIME_DOM_NOW_W0_FLAGS; simp [← hL]) | (with_reducible apply reg_TIME_DOM_STATUS_UNLOCK_HOST; simp [← hL]) | (with_reducible apply reg_TIME_DOM_CTRL_LOCKED; simp [← hL]))
       on_goal 2 => (first | (with_reducible apply reg_TIME_PRES_NOW_W3_SEC_HI; simp [← hL]) | (with_reducible apply reg_TIME_PRES_NOW_W2_SEC_LO; simp [← hL]) | (with_reducible apply reg_TIME_PRES_NOW_W1_NANOSECONDS; simp [← hL]) | (with_reducible apply reg_TIME_PRES_NOW_W0_FRACTION; simp [← hL]) | (with_reducible apply reg_TIME_PRES_NOW_W0_FLAGS; simp [← hL]) | (with_reducible apply reg_TIME_DOM_NOW_W3_SEC_HI; simp [← hL]) | (with_reducible apply reg_TIME_DOM_NOW_W2_SEC_LO; simp [← hL]) | (with_reducible apply reg_TIME_DOM_NOW_W1_NANOSECONDS; simp [← hL]) | (with_reducible apply reg_TIME_DOM_NOW_W0_FRACTION; simp [← hL]) | (with_reducible apply reg_TIME_DOM_NOW_W0_FLAGS; simp [← hL]) | (with_reducible apply reg_TIME_DOM_STATUS_UNLOCK_HOST; simp [← hL]) | (with_reducible apply reg_TIME_DOM_CTRL_LOCKED; simp [← hL]))
       on_goal 2 => (first | (with_reducible apply reg_TIME_PRES_NOW_W3_SEC_HI; simp [← hL]) | (with_reducible apply reg_TIME_PRES_NOW_W2_SEC_LO; simp [← hL]) | (with_reducible apply reg_TIME_PRES_NOW_W1_NANOSECONDS; simp [← hL]) | (with_reducible apply reg_TIME_PRES_NOW_W0_FRACTION; simp [← hL]) | (with_reducible apply reg_TIME_PRES_NOW_W0_FLAGS; simp [← hL]) | (with_reducible apply reg_TIME_DOM_NOW_W3_SEC_HI; simp [← hL]) | (with_reducible apply reg_TIME_DOM_NOW_W2_SEC_LO; simp [← hL]) | (with_reducible apply reg_TIME_DOM_NOW_W1_NANOSECONDS; simp [← hL]) | (with_reducible apply reg_TIME_DOM_NOW_W0_FRACTION; simp [← hL]) | (with_reducible apply reg_TIME_DOM_NOW_W0_FLAGS; simp [← hL]) | (with_reducible apply reg_TIME_DOM_STATUS_UNLOCK_HOST; simp [← hL]) | (with_reducible apply reg_TIME_DOM_CTRL_LOCKED; simp [← hL]))
       on_goal 2 => (first | (with_reducible apply reg_TIME_PRES_NOW_W3_SEC_HI; simp [← hL]) | (with_reducible apply reg_TIME_PRES_NOW_W2_SEC_LO; simp [← hL]) | (with_reducible apply reg_TIME_PRES_NOW_W1_NANOSECONDS; simp [← hL]) | (with_reducible apply reg_TIME_PRES_NOW_W0_FRACTION; simp [← hL]) | (with_reducible apply reg_TIME_PRES_NOW_W0_FLAGS; simp [← hL]) | (with_reducible apply reg_TIME_DOM_NOW_W3_SEC_HI; simp [← hL]) | (with_reducible apply reg_TIME_DOM_NOW_W2_SEC_LO; simp [← hL]) | (with_reducible apply reg_TIME_DOM_NOW_W1_NANOSECONDS; simp [← hL]) | (with_reducible apply reg_TIME_DOM_NOW_W0_FRACTION; simp [← hL]) | (with_reducible apply reg_TIME_DOM_NOW_W0_FLAGS; simp [← hL]) | (with_reducible apply reg_TIME_DOM_STATUS_UNLOCK_HOST; simp [← hL]) | (with_reducible apply reg_TIME_DOM_CTRL_LOCKED; simp [← hL]))
       on_goal 2 => (first | (with_reducible apply reg_TIME_PRES_NOW_W3_SEC_HI; simp [← hL]) | (with_reducible apply reg_TIME_PRES_NOW_W2_SEC_LO; simp [← hL]) | (with_reducible apply reg_TIME_PRES_NOW_W1_NANOSECONDS; simp [← hL]) | (with_reducible apply reg_TIME_PRES_NOW_W0_FRACTION; simp [← hL]) | (with_reducible apply reg_TIME_PRES_NOW_W0_FLAGS; simp [← hL]) | (with_reducible apply reg_TIME_DOM_NOW_W3_SEC_HI; simp [← hL]) | (with_reducible apply reg_TIME_DOM_NOW_W2_SEC_LO; simp [← hL]) | (with_reducible apply reg_TIME_DOM_NOW_W1_NANOSECONDS; simp [← hL]) | (with_reducible apply reg_TIME_DOM_NOW_W0_FRACTION; simp [← hL]) | (with_reducible apply reg_TIME_DOM_NOW_W0_FLAGS; simp [← hL]) | (with_reducible apply reg_TIME_DOM_STATUS_UNLOCK_HOST; simp [← hL]) | (with_reducible apply reg_TIME_DOM_CTRL_LOCKED; simp [← hL])))
    | (with_reducible apply keep_of (frame_syncTime ..); on_goal 2 => simp [← hP]
       on_goal 2 => simp [← hL])
    | (with_reducible apply keep_of (frame_servoWrite ..); on_goal 2 => simp [← hP]
       on_goal 2 => simp [← hL])
    | (with_reducible apply keep_of (frame_setTime ..); on_goal 2 => simp [← hP]
       on_goal 2 => simp [← hL])
    | (with_reducible apply keep_of (frame_tpoArm ..); on_goal 2 => simp [← hP]
       on_goal 2 => simp [← hL])
    | (with_reducible apply keep_of (frame_tpoStop ..); on_goal 2 => simp [← hP]
       on_goal 2 => simp [← hL])
    | (with_reducible apply keep_of (frame_tpiPop ..); on_goal 2 => simp [← hP]
       on_goal 2 => simp [← hL])
    | with_reducible refine only_then ?_ (‹∀ (u : State) (a : _), State.only u _ _ _› _ _)
    | split)

theorem frame_phaseDone (s : State) (d : Nat) : s.only (State.phaseDone s d) [] (regsOf ["TIME_DOM_STATUS"]) := by
  unfold State.phaseDone
  generalize hP : ([] : List Part) = P
  generalize hL : (["TIME_DOM_STATUS"] : List String) = L
  repeat (first
    | with_reducible exact keep_refl _ _ _
    | with_reducible apply keep_if
    | (with_reducible apply keep_off; on_goal 2 => first | assumption | (with_reducible apply reg_TIME_DOM_STATUS_SLEWING; simp [← hL])))

theorem frame_watchdog (s : State) (d : Nat) : s.only (State.watchdog s d) [.time] (regsOf ["TIME_DOM_CTRL", "TIME_DOM_PHASE_LEFT", "TIME_DOM_STATUS", "TIME_PRES_STATUS"]) := by
  unfold State.watchdog
  generalize hP : ([.time] : List Part) = P
  generalize hL : (["TIME_DOM_CTRL", "TIME_DOM_PHASE_LEFT", "TIME_DOM_STATUS", "TIME_PRES_STATUS"] : List String) = L
  repeat (first
    | with_reducible assumption
    | with_reducible exact keep_refl _ _ _
    | ((try lift_lets -underBinder); with_reducible intro y; refine cut_at (A := State.only s y P (regsOf L)) ?_ ?_; on_goal 2 => (intro hy; clear_value y)
       unfold y)
    | ((try lift_lets -underBinder); with_reducible intro y; clear_value y)
    | with_reducible apply keep_if
    | (with_reducible apply keep_setDom; on_goal 2 => simp [← hP])
    | (with_reducible apply keep_unlock; on_goal 2 => (first | (with_reducible apply reg_TIME_DOM_STATUS_UNLOCK_WDOG; simp [← hL]))
       on_goal 2 => (simp [← hP])
       on_goal 2 => (simp [← hL])))

theorem frame_ppsEdge (s : State) (d : Nat) : s.only (State.ppsEdge s d) [.time] (regsOf ["TIME_DOM_PHASE_LEFT", "TIME_DOM_STATUS", "TIME_DOM_PPS_W0", "TIME_DOM_PPS_W1", "TIME_DOM_PPS_W2", "TIME_DOM_PPS_W3", "TIME_PRES_STATUS"]) := by
  unfold State.ppsEdge
  generalize hP : ([.time] : List Part) = P
  generalize hL : (["TIME_DOM_PHASE_LEFT", "TIME_DOM_STATUS", "TIME_DOM_PPS_W0", "TIME_DOM_PPS_W1", "TIME_DOM_PPS_W2", "TIME_DOM_PPS_W3", "TIME_PRES_STATUS"] : List String) = L
  repeat (first
    | with_reducible assumption
    | with_reducible exact keep_refl _ _ _
    | ((try lift_lets -underBinder); with_reducible intro y; refine cut_at (A := State.only s y P (regsOf L)) ?_ ?_; on_goal 2 => (intro hy; clear_value y)
       unfold y)
    | ((try lift_lets -underBinder); with_reducible intro y; clear_value y)
    | with_reducible apply keep_if
    | (with_reducible apply keep_on; on_goal 2 => first | assumption | (with_reducible apply reg_TIME_DOM_PPS_W3_SEC_HI; simp [← hL]) | (with_reducible apply reg_TIME_DOM_PPS_W2_SEC_LO; simp [← hL]) | (with_reducible apply reg_TIME_DOM_PPS_W1_NANOSECONDS; simp [← hL]) | (with_reducible apply reg_TIME_DOM_PPS_W0_FRACTION; simp [← hL]) | (with_reducible apply reg_TIME_DOM_PPS_W0_FLAGS; simp [← hL]) | (with_reducible apply reg_TIME_DOM_STATUS_PPS_NEW; simp [← hL]))
    | (with_reducible apply keep_setDom; on_goal 2 => simp [← hP])
    | (with_reducible apply keep_putGroup
       on_goal 2 => (first | (with_reducible apply reg_TIME_DOM_PPS_W3_SEC_HI; simp [← hL]) | (with_reducible apply reg_TIME_DOM_PPS_W2_SEC_LO; simp [← hL]) | (with_reducible apply reg_TIME_DOM_PPS_W1_NANOSECONDS; simp [← hL]) | (with_reducible apply reg_TIME_DOM_PPS_W0_FRACTION; simp [← hL]) | (with_reducible apply reg_TIME_DOM_PPS_W0_FLAGS; simp [← hL]) | (with_reducible apply reg_TIME_DOM_STATUS_PPS_NEW; simp [← hL]))
       on_goal 2 => (first | (with_reducible apply reg_TIME_DOM_PPS_W3_SEC_HI; simp [← hL]) | (with_reducible apply reg_TIME_DOM_PPS_W2_SEC_LO; simp [← hL]) | (with_reducible apply reg_TIME_DOM_PPS_W1_NANOSECONDS; simp [← hL]) | (with_reducible apply reg_TIME_DOM_PPS_W0_FRACTION; simp [← hL]) | (with_reducible apply reg_TIME_DOM_PPS_W0_FLAGS; simp [← hL]) | (with_reducible apply reg_TIME_DOM_STATUS_PPS_NEW; simp [← hL]))
       on_goal 2 => (first | (with_reducible apply reg_TIME_DOM_PPS_W3_SEC_HI; simp [← hL]) | (with_reducible apply reg_TIME_DOM_PPS_W2_SEC_LO; simp [← hL]) | (with_reducible apply reg_TIME_DOM_PPS_W1_NANOSECONDS; simp [← hL]) | (with_reducible apply reg_TIME_DOM_PPS_W0_FRACTION; simp [← hL]) | (with_reducible apply reg_TIME_DOM_PPS_W0_FLAGS; simp [← hL]) | (with_reducible apply reg_TIME_DOM_STATUS_PPS_NEW; simp [← hL]))
       on_goal 2 => (first | (with_reducible apply reg_TIME_DOM_PPS_W3_SEC_HI; simp [← hL]) | (with_reducible apply reg_TIME_DOM_PPS_W2_SEC_LO; simp [← hL]) | (with_reducible apply reg_TIME_DOM_PPS_W1_NANOSECONDS; simp [← hL]) | (with_reducible apply reg_TIME_DOM_PPS_W0_FRACTION; simp [← hL]) | (with_reducible apply reg_TIME_DOM_PPS_W0_FLAGS; simp [← hL]) | (with_reducible apply reg_TIME_DOM_STATUS_PPS_NEW; simp [← hL]))
       on_goal 2 => (first | (with_reducible apply reg_TIME_DOM_PPS_W3_SEC_HI; simp [← hL]) | (with_reducible apply reg_TIME_DOM_PPS_W2_SEC_LO; simp [← hL]) | (with_reducible apply reg_TIME_DOM_PPS_W1_NANOSECONDS; simp [← hL]) | (with_reducible apply reg_TIME_DOM_PPS_W0_FRACTION; simp [← hL]) | (with_reducible apply reg_TIME_DOM_PPS_W0_FLAGS; simp [← hL]) | (with_reducible apply reg_TIME_DOM_STATUS_PPS_NEW; simp [← hL])))
    | (with_reducible apply keep_of (frame_setTime ..); on_goal 2 => simp [← hP]
       on_goal 2 => simp [← hL])
    | split)

theorem frame_ppsMissing (s : State) (d : Nat) : s.only (State.ppsMissing s d) [] (regsOf ["TIME_DOM_STATUS"]) := by
  unfold State.ppsMissing
  generalize hP : ([] : List Part) = P
  generalize hL : (["TIME_DOM_STATUS"] : List String) = L
  repeat (first
    | with_reducible exact keep_refl _ _ _
    | ((try lift_lets -underBinder); with_reducible intro y; clear_value y)
    | with_reducible apply keep_if
    | (with_reducible apply keep_on; on_goal 2 => first | assumption | (with_reducible apply reg_TIME_DOM_STATUS_PPS_MISSING; simp [← hL])))

theorem frame_abDiff (s : State) : s.only (State.abDiff s) [] (regsOf ["TIME_AB_DIFF"]) := by
  unfold State.abDiff
  generalize hP : ([] : List Part) = P
  generalize hL : (["TIME_AB_DIFF"] : List String) = L
  repeat (first
    | with_reducible exact keep_refl _ _ _
    | ((try lift_lets -underBinder); with_reducible intro y; clear_value y)
    | (with_reducible apply keep_set; on_goal 2 => first | assumption | (with_reducible apply reg_TIME_AB_DIFF_DIFF; simp [← hL])))

theorem frame_presRevert (s : State) : s.only (State.presRevert s) [.time] (regsOf ["TIME_DOM_PHASE_LEFT", "TIME_DOM_STATUS", "TIME_PRES_STATUS"]) := by
  unfold State.presRevert
  generalize hP : ([.time] : List Part) = P
  generalize hL : (["TIME_DOM_PHASE_LEFT", "TIME_DOM_STATUS", "TIME_PRES_STATUS"] : List String) = L
  repeat (first
    | with_reducible exact keep_refl _ _ _
    | ((try lift_lets -underBinder); with_reducible intro y; clear_value y)
    | with_reducible apply keep_if
    | (with_reducible apply keep_of (frame_syncTime ..); on_goal 2 => simp [← hP]
       on_goal 2 => simp [← hL])
    | (with_reducible apply keep_of (frame_followFrom ..); on_goal 2 => simp [← hP]
       on_goal 2 => simp [← hL]))

theorem frame_moveDone (s : State) : s.only (State.moveDone s) [] (regsOf ["TIME_PRES_STATUS"]) := by
  unfold State.moveDone
  generalize hP : ([] : List Part) = P
  generalize hL : (["TIME_PRES_STATUS"] : List String) = L
  repeat (first
    | with_reducible exact keep_refl _ _ _
    | with_reducible apply keep_if
    | (with_reducible apply keep_off; on_goal 2 => first | assumption | (with_reducible apply reg_TIME_PRES_STATUS_MOVING; simp [← hL])))

theorem frame_modHost (s : State) (f : HostSt → HostSt) : s.only (State.modHost s f) [.host] (regsOf []) := by
  unfold State.modHost
  generalize hP : ([.host] : List Part) = P
  generalize hL : ([] : List String) = L
  repeat (first
    | with_reducible exact keep_refl _ _ _
    | (fail_if_no_progress (with_reducible apply keep_at_host; on_goal 2 => simp [← hP])))

theorem frame_pump (s : State) : s.only (State.pump s) [.host] (regsOf []) := by
  unfold State.pump
  generalize hP : ([.host] : List Part) = P
  generalize hL : ([] : List String) = L
  repeat (first
    | with_reducible exact keep_refl _ _ _
    | with_reducible apply keep_if
    | (with_reducible apply keep_modHost; on_goal 2 => simp [← hP]))

theorem frame_send (s : State) (m : HostMsg) : s.only (State.send s m) [.host] (regsOf []) := by
  unfold State.send
  generalize hP : ([.host] : List Part) = P
  generalize hL : ([] : List String) = L
  repeat (first
    | with_reducible exact keep_refl _ _ _
    | (with_reducible apply keep_modHost; on_goal 2 => simp [← hP])
    | (with_reducible apply keep_of (frame_pump ..); on_goal 2 => simp [← hP]
       on_goal 2 => simp [← hL]))

theorem frame_memWrite (s : State) (addr : Nat) (data : List Byte) : s.only (State.memWrite s addr data) [.host] (regsOf []) := by
  unfold State.memWrite
  generalize hP : ([.host] : List Part) = P
  generalize hL : ([] : List String) = L
  repeat (first
    | with_reducible exact keep_refl _ _ _
    | ((try lift_lets -underBinder); with_reducible intro y; clear_value y)
    | with_reducible apply keep_if
    | with_reducible refine keep_foldl ?_ (fun u a => ?_)
    | (with_reducible apply keep_of (frame_send ..); on_goal 2 => simp [← hP]
       on_goal 2 => simp [← hL]))

theorem frame_modRing (s : State) (n : Nat) (f : RingDyn → RingDyn) : s.only (State.modRing s n f) [.host] (regsOf []) := by
  unfold State.modRing
  generalize hP : ([.host] : List Part) = P
  generalize hL : ([] : List String) = L
  repeat (first
    | with_reducible exact keep_refl _ _ _
    | (with_reducible apply keep_modHost; on_goal 2 => simp [← hP]))

theorem frame_advance (s : State) (n : Nat) : s.only (State.advance s n) [.host] (regsOf ["RING_DEV_INDEX"]) := by
  unfold State.advance
  generalize hP : ([.host] : List Part) = P
  generalize hL : (["RING_DEV_INDEX"] : List String) = L
  repeat (first
    | with_reducible exact keep_refl _ _ _
    | (with_reducible apply keep_set; on_goal 2 => first | assumption | (with_reducible apply reg_RING_DEV_INDEX_DEV_INDEX; simp [← hL]))
    | (with_reducible apply keep_modRing; on_goal 2 => simp [← hP]))

theorem frame_ringWrite (s : State) (n : Nat) (entry : List Byte) : s.only (State.ringWrite s n entry) [.host] (regsOf ["RING_DEV_INDEX"]) := by
  unfold State.ringWrite
  generalize hP : ([.host] : List Part) = P
  generalize hL : (["RING_DEV_INDEX"] : List String) = L
  repeat (first
    | with_reducible exact keep_refl _ _ _
    | (with_reducible apply keep_modRing; on_goal 2 => simp [← hP])
    | (with_reducible apply keep_of (frame_advance ..); on_goal 2 => simp [← hP]
       on_goal 2 => simp [← hL])
    | (with_reducible apply keep_of (frame_memWrite ..); on_goal 2 => simp [← hP]
       on_goal 2 => simp [← hL]))

theorem frame_writeIndex (s : State) (n : Nat) : s.only (State.writeIndex s n) [.host] (regsOf []) := by
  unfold State.writeIndex
  generalize hP : ([.host] : List Part) = P
  generalize hL : ([] : List String) = L
  repeat (first
    | with_reducible exact keep_refl _ _ _
    | with_reducible apply keep_if
    | (with_reducible apply keep_modRing; on_goal 2 => simp [← hP])
    | (with_reducible apply keep_of (frame_memWrite ..); on_goal 2 => simp [← hP]
       on_goal 2 => simp [← hL]))

theorem frame_restartKeepalive (s : State) : s.only (State.restartKeepalive s) [.events] (regsOf []) := by
  unfold State.restartKeepalive
  generalize hP : ([.events] : List Part) = P
  generalize hL : ([] : List String) = L
  repeat (first
    | with_reducible exact keep_refl _ _ _
    | ((try lift_lets -underBinder); with_reducible intro y; clear_value y)
    | (fail_if_no_progress (with_reducible apply keep_at_events; on_goal 2 => simp [← hP])))

theorem frame_postCompletion (s : State) (cq : Nat) (reserved : Bool) (entry : List Byte) : s.only (State.postCompletion s cq reserved entry) [.events, .host] (regsOf ["RING_DEV_INDEX"]) := by
  unfold State.postCompletion
  generalize hP : ([.events, .host] : List Part) = P
  generalize hL : (["RING_DEV_INDEX"] : List String) = L
  repeat (first
    | with_reducible exact keep_refl _ _ _
    | with_reducible apply keep_if
    | (with_reducible apply keep_modHost; on_goal 2 => simp [← hP])
    | (with_reducible apply keep_modRing; on_goal 2 => simp [← hP])
    | (with_reducible apply keep_restartKeepalive; on_goal 2 => simp [← hP])
    | (with_reducible apply keep_of (frame_ringWrite ..); on_goal 2 => simp [← hP]
       on_goal 2 => simp [← hL]))

theorem frame_sendReads (v0 : List (ReadUser × Nat × Nat)) (s : State) : s.only (sendReads v0 s) [.host] (regsOf []) := by
  induction v0 generalizing s with
  | nil =>
    unfold sendReads
    generalize hP : ([.host] : List Part) = P
    generalize hL : ([] : List String) = L
    repeat (first
      | with_reducible exact keep_refl _ _ _
      | (with_reducible apply keep_modHost; on_goal 2 => simp [← hP]))
  | cons e l ih =>
    obtain ⟨e1, e2, e3⟩ := e
    unfold sendReads
    generalize hP : ([.host] : List Part) = P
    generalize hL : ([] : List String) = L
    repeat (first
      | with_reducible exact keep_refl _ _ _
      | (with_reducible apply keep_modHost; on_goal 2 => simp [← hP])
      | (with_reducible apply keep_of (ih ..); on_goal 2 => simp [← hP]
         on_goal 2 => simp [← hL])
      | (with_reducible apply keep_of (frame_send ..); on_goal 2 => simp [← hP]
         on_goal 2 => simp [← hL])
      | split)

theorem frame_askReads (s : State) (l : List (ReadUser × Nat × Nat)) : s.only (State.askReads s l) [.host] (regsOf []) := by
  unfold State.askReads
  generalize hP : ([.host] : List Part) = P
  generalize hL : ([] : List String) = L
  repeat (first
    | with_reducible exact keep_refl _ _ _
    | (with_reducible apply keep_of (frame_sendReads ..); on_goal 2 => simp [← hP]
       on_goal 2 => simp [← hL]))

theorem frame_resume (s : State) : s.only (State.resume s) [.host] (regsOf []) := by
  unfold State.resume
  generalize hP : ([.host] : List Part) = P
  generalize hL : ([] : List String) = L
  repeat (first
    | with_reducible exact keep_refl _ _ _
    | (with_reducible apply keep_of (frame_askReads ..); on_goal 2 => simp [← hP]
       on_goal 2 => simp [← hL])
    | (with_reducible apply keep_of (frame_pump ..); on_goal 2 => simp [← hP]
       on_goal 2 => simp [← hL]))

theorem frame_setHalted (s : State) (n : Nat) (b : Bool) : s.only (State.setHalted s n b) [] (regsOf ["RING_STATUS", "RING_HALTED_LO", "RING_HALTED_HI"]) := by
  unfold State.setHalted
  generalize hP : ([] : List Part) = P
  generalize hL : (["RING_STATUS", "RING_HALTED_LO", "RING_HALTED_HI"] : List String) = L
  repeat (first
    | with_reducible assumption
    | with_reducible exact keep_refl _ _ _
    | ((try lift_lets -underBinder); with_reducible intro y; refine cut_at (A := State.only s y P (regsOf L)) ?_ ?_; on_goal 2 => (intro hy; clear_value y)
       unfold y)
    | with_reducible apply keep_if
    | (with_reducible apply keep_setB; on_goal 2 => first | assumption | (with_reducible apply reg_RING_STATUS_HALTED; simp [← hL]) | (with_reducible apply reg_RING_HALTED_HI_HALTED; simp [← hL]) | (with_reducible apply reg_RING_HALTED_LO_HALTED; simp [← hL]))
    | (with_reducible apply keep_putBit; on_goal 2 => first | assumption | (with_reducible apply reg_RING_STATUS_HALTED; simp [← hL]) | (with_reducible apply reg_RING_HALTED_HI_HALTED; simp [← hL]) | (with_reducible apply reg_RING_HALTED_LO_HALTED; simp [← hL])))

theorem frame_fetchNext (s : State) (n : Nat) : s.only (State.fetchNext s n) [.host] (regsOf []) := by
  unfold State.fetchNext
  generalize hP : ([.host] : List Part) = P
  generalize hL : ([] : List String) = L
  repeat (first
    | with_reducible exact keep_refl _ _ _
    | ((try lift_lets -underBinder); with_reducible intro y; clear_value y)
    | with_reducible apply keep_if
    | (with_reducible apply keep_of (frame_askReads ..); on_goal 2 => simp [← hP]
       on_goal 2 => simp [← hL]))

theorem frame_ringIdle (s : State) (n : Nat) : s.only (State.ringIdle s n) [.host] (regsOf ["RING_CFG"]) := by
  unfold State.ringIdle
  generalize hP : ([.host] : List Part) = P
  generalize hL : (["RING_CFG"] : List String) = L
  repeat (first
    | with_reducible assumption
    | with_reducible exact keep_refl _ _ _
    | ((try lift_lets -underBinder); with_reducible intro y; refine cut_at (A := State.only s y P (regsOf L)) ?_ ?_; on_goal 2 => (intro hy; clear_value y)
       unfold y)
    | with_reducible apply keep_if
    | (with_reducible apply keep_on; on_goal 2 => first | assumption | (with_reducible apply reg_RING_CFG_STOPPED; simp [← hL]))
    | (with_reducible apply keep_modRing; on_goal 2 => simp [← hP])
    | (with_reducible apply keep_of (frame_fetchNext ..); on_goal 2 => simp [← hP]
       on_goal 2 => simp [← hL]))

theorem frame_modPair (s : State) (f : PairSt → PairSt) : s.only (State.modPair s f) [.pair] (regsOf []) := by
  unfold State.modPair
  generalize hP : ([.pair] : List Part) = P
  generalize hL : ([] : List String) = L
  repeat (first
    | with_reducible exact keep_refl _ _ _
    | (fail_if_no_progress (with_reducible apply keep_at_pair; on_goal 2 => simp [← hP])))

theorem frame_mirrorSend (s : State) (frame : List Byte) : s.only (State.mirrorSend s frame) [.pair] (regsOf []) := by
  unfold State.mirrorSend
  generalize hP : ([.pair] : List Part) = P
  generalize hL : ([] : List String) = L
  repeat (first
    | with_reducible exact keep_refl _ _ _
    | with_reducible apply keep_if
    | (with_reducible apply keep_modPair; on_goal 2 => simp [← hP]))

theorem frame_breakStream (s : State) : s.only (State.breakStream s) [.pair] (regsOf ["PAIR_MIRROR_LEVEL"]) := by
  unfold State.breakStream
  generalize hP : ([.pair] : List Part) = P
  generalize hL : (["PAIR_MIRROR_LEVEL"] : List String) = L
  repeat (first
    | with_reducible exact keep_refl _ _ _
    | (with_reducible apply keep_set; on_goal 2 => first | assumption | (with_reducible apply reg_PAIR_MIRROR_LEVEL_LEVEL; simp [← hL]))
    | (with_reducible apply keep_modPair; on_goal 2 => simp [← hP]))

theorem frame_sendRecord (s : State) (type : Nat) (op : Nat) (entry : List Byte) : s.only (State.sendRecord s type op entry) [.pair] (regsOf ["PAIR_MIRROR_LEVEL"]) := by
  unfold State.sendRecord
  generalize hP : ([.pair] : List Part) = P
  generalize hL : (["PAIR_MIRROR_LEVEL"] : List String) = L
  repeat (first
    | with_reducible assumption
    | with_reducible exact keep_refl _ _ _
    | ((try lift_lets -underBinder); with_reducible intro y; refine cut_at (A := State.only s y P (regsOf L)) ?_ ?_; on_goal 2 => (intro hy; clear_value y)
       unfold y)
    | ((try lift_lets -underBinder); with_reducible intro y; clear_value y)
    | with_reducible apply keep_if
    | (with_reducible apply keep_set; on_goal 2 => first | assumption | (with_reducible apply reg_PAIR_MIRROR_LEVEL_LEVEL; simp [← hL]))
    | (with_reducible apply keep_modPair; on_goal 2 => simp [← hP])
    | (with_reducible apply keep_of (frame_breakStream ..); on_goal 2 => simp [← hP]
       on_goal 2 => simp [← hL])
    | (with_reducible apply keep_of (frame_mirrorSend ..); on_goal 2 => simp [← hP]
       on_goal 2 => simp [← hL]))

theorem frame_mirrorItem (s : State) (op : Nat) (entry : List Byte) (same : Nat × List Byte → Bool) : s.only (State.mirrorItem s op entry same) [.pair] (regsOf ["PAIR_MIRROR_LEVEL"]) := by
  unfold State.mirrorItem
  generalize hP : ([.pair] : List Part) = P
  generalize hL : (["PAIR_MIRROR_LEVEL"] : List String) = L
  repeat (first
    | with_reducible exact keep_refl _ _ _
    | with_reducible apply keep_if
    | (with_reducible apply keep_of (frame_sendRecord ..); on_goal 2 => simp [← hP]
       on_goal 2 => simp [← hL])
    | split)

theorem frame_mirror (s : State) (op : Nat) (entry : List Byte) : s.only (State.mirror s op entry) [.pair] (regsOf ["PAIR_MIRROR_LEVEL"]) := by
  unfold State.mirror
  generalize hP : ([.pair] : List Part) = P
  generalize hL : (["PAIR_MIRROR_LEVEL"] : List String) = L
  repeat (first
    | with_reducible exact keep_refl _ _ _
    | (with_reducible apply keep_of (frame_mirrorItem ..); on_goal 2 => simp [← hP]
       on_goal 2 => simp [← hL]))

theorem frame_complete (s : State) (op : Nat) (c : CmdIn) (r : CmdRes) : s.only (State.complete s op c r) [.events, .host] (regsOf ["RING_CFG", "RING_DEV_INDEX"]) := by
  unfold State.complete
  generalize hP : ([.events, .host] : List Part) = P
  generalize hL : (["RING_CFG", "RING_DEV_INDEX"] : List String) = L
  repeat (first
    | with_reducible assumption
    | with_reducible exact keep_refl _ _ _
    | ((try lift_lets -underBinder); with_reducible intro y; refine cut_at (A := State.only s y P (regsOf L)) ?_ ?_; on_goal 2 => (intro hy; clear_value y)
       unfold y)
    | ((try lift_lets -underBinder); with_reducible intro y; clear_value y)
    | with_reducible apply keep_if
    | (with_reducible apply keep_modHost; on_goal 2 => simp [← hP])
    | (with_reducible apply keep_modRing; on_goal 2 => simp [← hP])
    | (with_reducible apply keep_of (frame_memWrite ..); on_goal 2 => simp [← hP]
       on_goal 2 => simp [← hL])
    | (with_reducible apply keep_of (frame_postCompletion ..); on_goal 2 => simp [← hP]
       on_goal 2 => simp [← hL])
    | (with_reducible apply keep_of (frame_ringIdle ..); on_goal 2 => simp [← hP]
       on_goal 2 => simp [← hL]))

theorem frame_inputReady (s : State) (n : Nat) : s.only (State.inputReady s n) [.reck, .host] (regsOf []) := by
  unfold State.inputReady
  generalize hP : ([.reck, .host] : List Part) = P
  generalize hL : ([] : List String) = L
  repeat (first
    | with_reducible assumption
    | with_reducible exact keep_refl _ _ _
    | ((try lift_lets -underBinder); with_reducible intro y; refine cut_at (A := State.only s y P (regsOf L)) ?_ ?_; on_goal 2 => (intro hy; clear_value y)
       unfold y)
    | ((try lift_lets -underBinder); with_reducible intro y; clear_value y)
    | with_reducible apply keep_if
    | (with_reducible apply keep_modRing; on_goal 2 => simp [← hP])
    | (with_reducible apply keep_request; on_goal 2 => simp [← hP])
    | split)

theorem frame_askData (s : State) (n : Nat) (addr : Nat) (len : Nat) : s.only (State.askData s n addr len) [.reck, .host] (regsOf []) := by
  unfold State.askData
  generalize hP : ([.reck, .host] : List Part) = P
  generalize hL : ([] : List String) = L
  repeat (first
    | with_reducible assumption
    | with_reducible exact keep_refl _ _ _
    | ((try lift_lets -underBinder); with_reducible intro y; refine cut_at (A := State.only s y P (regsOf L)) ?_ ?_; on_goal 2 => (intro hy; clear_value y)
       unfold y)
    | with_reducible apply keep_if
    | (with_reducible apply keep_modRing; on_goal 2 => simp [← hP])
    | (with_reducible apply keep_of (frame_inputReady ..); on_goal 2 => simp [← hP]
       on_goal 2 => simp [← hL])
    | (with_reducible apply keep_of (frame_askReads ..); on_goal 2 => simp [← hP]
       on_goal 2 => simp [← hL]))

theorem frame_takeCommand (s : State) (n : Nat) (d : List Byte) : s.only (State.takeCommand s n d) [.events, .reck, .host] (regsOf ["RING_CFG", "RING_DEV_INDEX"]) := by
  unfold State.takeCommand
  generalize hP : ([.events, .reck, .host] : List Part) = P
  generalize hL : (["RING_CFG", "RING_DEV_INDEX"] : List String) = L
  repeat (first
    | with_reducible assumption
    | with_reducible exact keep_refl _ _ _
    | ((try lift_lets -underBinder); with_reducible intro y; refine cut_at (A := State.only s y P (regsOf L)) ?_ ?_; on_goal 2 => (intro hy; clear_value y)
       unfold y)
    | ((try lift_lets -underBinder); with_reducible intro y; clear_value y)
    | with_reducible apply keep_if
    | (with_reducible apply keep_modHost; on_goal 2 => simp [← hP])
    | (with_reducible apply keep_modRing; on_goal 2 => simp [← hP])
    | (with_reducible apply keep_of (frame_advance ..); on_goal 2 => simp [← hP]
       on_goal 2 => simp [← hL])
    | (with_reducible apply keep_of (frame_ringIdle ..); on_goal 2 => simp [← hP]
       on_goal 2 => simp [← hL])
    | (with_reducible apply keep_of (frame_postCompletion ..); on_goal 2 => simp [← hP]
       on_goal 2 => simp [← hL])
    | (with_reducible apply keep_of (frame_complete ..); on_goal 2 => simp [← hP]
       on_goal 2 => simp [← hL])
    | (with_reducible apply keep_of (frame_askData ..); on_goal 2 => simp [← hP]
       on_goal 2 => simp [← hL])
    | split)

theorem frame_coreNop (w0 : CmdIn) (s : State) : s.only (coreNop w0 s).2 [] (regsOf []) := by
  unfold coreNop
  generalize hP : ([] : List Part) = P
  generalize hL : ([] : List String) = L
  repeat (first
    | with_reducible exact keep_refl _ _ _)

theorem frame_coreCounters (clear : Bool) (c : CmdIn) (s : State) : s.only (coreCounters clear c s).2 [.ports, .counters] (regsOf ["CNT_HALF_LO", "CNT_HALF_HI"]) := by
  unfold coreCounters
  generalize hP : ([.ports, .counters] : List Part) = P
  generalize hL : (["CNT_HALF_LO", "CNT_HALF_HI"] : List String) = L
  repeat (first
    | with_reducible exact keep_refl _ _ _
    | (dsimp -zeta only)
    | ((try lift_lets -underBinder); with_reducible intro y; clear_value y)
    | with_reducible apply keep_if
    | with_reducible apply keep_ifp
    | (with_reducible apply keep_of (frame_clearCounters ..); on_goal 2 => simp [← hP]
       on_goal 2 => simp [← hL]))


end Sys2Proof.Machine
end

