-- ==== Sys2Proof/Laws/ExtentEngines.lean ====
section
/-! SUPPORT. What each operation of Tm, Mac, Rules, Dram, Rings, Reckoner and Security may touch: the parts and, at any index, the registers. -/

namespace Sys2Proof.Machine

theorem frame_modTm (s : State) (f : TmSt → TmSt) : s.only (State.modTm s f) [.tm] (regsOf []) := by
  unfold State.modTm
  generalize hP : ([.tm] : List Part) = P
  generalize hL : ([] : List String) = L
  repeat (first
    | with_reducible exact keep_refl _ _ _
    | (fail_if_no_progress (with_reducible apply keep_at_tm; on_goal 2 => simp [← hP])))

theorem frame_setPolicer (s : State) (n : Nat) (p : Policer) : s.only (State.setPolicer s n p) [.tm] (regsOf []) := by
  unfold State.setPolicer
  generalize hP : ([.tm] : List Part) = P
  generalize hL : ([] : List String) = L
  repeat (first
    | with_reducible exact keep_refl _ _ _
    | (with_reducible apply keep_modTm; on_goal 2 => simp [← hP]))

theorem frame_policeFrame (s : State) (n : Nat) (f : Nat) : s.only (State.policeFrame s n f) [.path, .tm] (regsOf []) := by
  unfold State.policeFrame
  generalize hP : ([.path, .tm] : List Part) = P
  generalize hL : ([] : List String) = L
  repeat (first
    | with_reducible exact keep_refl _ _ _
    | ((try lift_lets -underBinder); with_reducible intro y; clear_value y)
    | (with_reducible apply keep_setFrame; on_goal 2 => simp [← hP])
    | (with_reducible apply keep_of (frame_setPolicer ..); on_goal 2 => simp [← hP]
       on_goal 2 => simp [← hL])
    | split)

theorem frame_policerRun (s : State) (n : Nat) (l : List Nat) : s.only (State.policerRun s n l) [.path, .tm] (regsOf []) := by
  unfold State.policerRun
  generalize hP : ([.path, .tm] : List Part) = P
  generalize hL : ([] : List String) = L
  repeat (first
    | with_reducible assumption
    | with_reducible exact keep_refl _ _ _
    | ((try lift_lets -underBinder); with_reducible intro y; refine cut_at (A := State.only s y P (regsOf L)) ?_ ?_; on_goal 2 => (intro hy; clear_value y)
       unfold y)
    | ((try lift_lets -underBinder); with_reducible intro y; clear_value y)
    | with_reducible refine keep_foldl ?_ (fun u a => ?_)
    | (with_reducible apply keep_of (frame_setPolicer ..); on_goal 2 => simp [← hP]
       on_goal 2 => simp [← hL])
    | (with_reducible apply keep_of (frame_policeFrame ..); on_goal 2 => simp [← hP]
       on_goal 2 => simp [← hL]))

theorem frame_policerHandshake (s : State) (n : Nat) : s.only (State.policerHandshake s n) [.path, .tm] (regsOf []) := by
  unfold State.policerHandshake
  generalize hP : ([.path, .tm] : List Part) = P
  generalize hL : ([] : List String) = L
  repeat (first
    | with_reducible exact keep_refl _ _ _
    | with_reducible apply keep_if
    | (with_reducible apply keep_of (frame_policerRun ..); on_goal 2 => simp [← hP]
       on_goal 2 => simp [← hL]))

theorem frame_police (s : State) (f : Nat) : s.only (State.police s f) [.path, .tm] (regsOf []) := by
  unfold State.police
  generalize hP : ([.path, .tm] : List Part) = P
  generalize hL : ([] : List String) = L
  repeat (first
    | with_reducible exact keep_refl _ _ _
    | with_reducible apply keep_if
    | (with_reducible apply keep_setFrame; on_goal 2 => simp [← hP])
    | (with_reducible apply keep_of (frame_policerRun ..); on_goal 2 => simp [← hP]
       on_goal 2 => simp [← hL])
    | split)

theorem frame_policerDebit (s : State) (x : Frame) : s.only (State.policerDebit s x) [.tm] (regsOf []) := by
  unfold State.policerDebit
  generalize hP : ([.tm] : List Part) = P
  generalize hL : ([] : List String) = L
  repeat (first
    | with_reducible exact keep_refl _ _ _
    | ((try lift_lets -underBinder); with_reducible intro y; clear_value y)
    | with_reducible apply keep_if
    | (with_reducible apply keep_of (frame_setPolicer ..); on_goal 2 => simp [← hP]
       on_goal 2 => simp [← hL])
    | split)

theorem frame_putPolicer (s : State) (b : List Byte) : s.only (State.putPolicer s b) [.tm] (regsOf []) := by
  unfold State.putPolicer
  generalize hP : ([.tm] : List Part) = P
  generalize hL : ([] : List String) = L
  repeat (first
    | with_reducible exact keep_refl _ _ _
    | ((try lift_lets -underBinder); with_reducible intro y; clear_value y)
    | (with_reducible apply keep_of (frame_setPolicer ..); on_goal 2 => simp [← hP]
       on_goal 2 => simp [← hL]))

theorem frame_corePolicerSet (c : CmdIn) (s : State) : s.only (corePolicerSet c s).2 [.tm, .pair] (regsOf ["PAIR_MIRROR_LEVEL"]) := by
  unfold corePolicerSet
  generalize hP : ([.tm, .pair] : List Part) = P
  generalize hL : (["PAIR_MIRROR_LEVEL"] : List String) = L
  repeat (first
    | with_reducible exact keep_refl _ _ _
    | (dsimp -zeta only)
    | with_reducible apply keep_ifp
    | (with_reducible apply keep_of (frame_mirrorItem ..); on_goal 2 => simp [← hP]
       on_goal 2 => simp [← hL])
    | (with_reducible apply keep_of (frame_putPolicer ..); on_goal 2 => simp [← hP]
       on_goal 2 => simp [← hL]))

theorem frame_corePolicerRead (c : CmdIn) (s : State) : s.only (corePolicerRead c s).2 [.tm] (regsOf []) := by
  unfold corePolicerRead
  generalize hP : ([.tm] : List Part) = P
  generalize hL : ([] : List String) = L
  repeat (first
    | with_reducible exact keep_refl _ _ _
    | (dsimp -zeta only)
    | ((try lift_lets -underBinder); with_reducible intro y; clear_value y)
    | with_reducible apply keep_if
    | (with_reducible apply keep_of (frame_setPolicer ..); on_goal 2 => simp [← hP]
       on_goal 2 => simp [← hL]))

theorem frame_setShaper (s : State) (n : Nat) (b : Bucket) : s.only (State.setShaper s n b) [.tm] (regsOf []) := by
  unfold State.setShaper
  generalize hP : ([.tm] : List Part) = P
  generalize hL : ([] : List String) = L
  repeat (first
    | with_reducible exact keep_refl _ _ _
    | (with_reducible apply keep_modTm; on_goal 2 => simp [← hP]))

theorem frame_putShaper (s : State) (b : List Byte) : s.only (State.putShaper s b) [.tm] (regsOf []) := by
  unfold State.putShaper
  generalize hP : ([.tm] : List Part) = P
  generalize hL : ([] : List String) = L
  repeat (first
    | with_reducible exact keep_refl _ _ _
    | ((try lift_lets -underBinder); with_reducible intro y; clear_value y)
    | (with_reducible apply keep_of (frame_setShaper ..); on_goal 2 => simp [← hP]
       on_goal 2 => simp [← hL]))

theorem frame_coreShaperSet (c : CmdIn) (s : State) : s.only (coreShaperSet c s).2 [.tm, .pair] (regsOf ["PAIR_MIRROR_LEVEL"]) := by
  unfold coreShaperSet
  generalize hP : ([.tm, .pair] : List Part) = P
  generalize hL : (["PAIR_MIRROR_LEVEL"] : List String) = L
  repeat (first
    | with_reducible exact keep_refl _ _ _
    | (dsimp -zeta only)
    | ((try lift_lets -underBinder); with_reducible intro y; clear_value y)
    | with_reducible apply keep_ifp
    | (with_reducible apply keep_of (frame_mirrorItem ..); on_goal 2 => simp [← hP]
       on_goal 2 => simp [← hL])
    | (with_reducible apply keep_of (frame_putShaper ..); on_goal 2 => simp [← hP]
       on_goal 2 => simp [← hL]))

theorem frame_coreShaperRead (c : CmdIn) (s : State) : s.only (coreShaperRead c s).2 [] (regsOf []) := by
  unfold coreShaperRead
  generalize hP : ([] : List Part) = P
  generalize hL : ([] : List String) = L
  repeat (first
    | with_reducible exact keep_refl _ _ _
    | ((try lift_lets -underBinder); with_reducible intro y; clear_value y)
    | with_reducible apply keep_ifp)

theorem frame_shaperDebit (s : State) (queue : Nat) (n : Int) : s.only (State.shaperDebit s queue n) [.tm] (regsOf []) := by
  unfold State.shaperDebit
  generalize hP : ([.tm] : List Part) = P
  generalize hL : ([] : List String) = L
  repeat (first
    | with_reducible assumption
    | with_reducible exact keep_refl _ _ _
    | ((try lift_lets -underBinder); with_reducible intro y; refine cut_at (A := State.only s y P (regsOf L)) ?_ ?_; on_goal 2 => (intro hy; clear_value y)
       unfold y)
    | (with_reducible apply keep_of (frame_setShaper ..); on_goal 2 => simp [← hP]
       on_goal 2 => simp [← hL]))

theorem frame_setGate (s : State) (p : Nat) (g : GateSt) : s.only (State.setGate s p g) [.tm] (regsOf []) := by
  unfold State.setGate
  generalize hP : ([.tm] : List Part) = P
  generalize hL : ([] : List String) = L
  repeat (first
    | with_reducible exact keep_refl _ _ _
    | (with_reducible apply keep_modTm; on_goal 2 => simp [← hP]))

theorem frame_syncGate (s : State) (p : Nat) : s.only (State.syncGate s p) [] (regsOf ["TM_GATE_STATUS"]) := by
  unfold State.syncGate
  generalize hP : ([] : List Part) = P
  generalize hL : (["TM_GATE_STATUS"] : List String) = L
  repeat (first
    | with_reducible assumption
    | with_reducible exact keep_refl _ _ _
    | ((try lift_lets -underBinder); with_reducible intro y; refine cut_at (A := State.only s y P (regsOf L)) ?_ ?_; on_goal 2 => (intro hy; clear_value y)
       unfold y)
    | ((try lift_lets -underBinder); with_reducible intro y; clear_value y)
    | (with_reducible apply keep_set; on_goal 2 => first | assumption | (with_reducible apply reg_TM_GATE_STATUS_ENABLED; simp [← hL]) | (with_reducible apply reg_TM_GATE_STATUS_GATES; simp [← hL]) | (with_reducible apply reg_TM_GATE_STATUS_ENTRY; simp [← hL]) | (with_reducible apply reg_TM_GATE_STATUS_PENDING; simp [← hL]))
    | (with_reducible apply keep_on; on_goal 2 => first | assumption | (with_reducible apply reg_TM_GATE_STATUS_ENABLED; simp [← hL]) | (with_reducible apply reg_TM_GATE_STATUS_GATES; simp [← hL]) | (with_reducible apply reg_TM_GATE_STATUS_ENTRY; simp [← hL]) | (with_reducible apply reg_TM_GATE_STATUS_PENDING; simp [← hL]))
    | (with_reducible apply keep_off; on_goal 2 => first | assumption | (with_reducible apply reg_TM_GATE_STATUS_ENABLED; simp [← hL]) | (with_reducible apply reg_TM_GATE_STATUS_GATES; simp [← hL]) | (with_reducible apply reg_TM_GATE_STATUS_ENTRY; simp [← hL]) | (with_reducible apply reg_TM_GATE_STATUS_PENDING; simp [← hL]))
    | (with_reducible apply keep_setB; on_goal 2 => first | assumption | (with_reducible apply reg_TM_GATE_STATUS_ENABLED; simp [← hL]) | (with_reducible apply reg_TM_GATE_STATUS_GATES; simp [← hL]) | (with_reducible apply reg_TM_GATE_STATUS_ENTRY; simp [← hL]) | (with_reducible apply reg_TM_GATE_STATUS_PENDING; simp [← hL]))
    | split)

theorem frame_putGates (s : State) (p : Nat) (first : Nat) (b : List Byte) : s.only (State.putGates s p first b) [.tm] (regsOf []) := by
  unfold State.putGates
  generalize hP : ([.tm] : List Part) = P
  generalize hL : ([] : List String) = L
  repeat (first
    | with_reducible exact keep_refl _ _ _
    | ((try lift_lets -underBinder); with_reducible intro y; clear_value y)
    | (with_reducible apply keep_of (frame_setGate ..); on_goal 2 => simp [← hP]
       on_goal 2 => simp [← hL]))

theorem frame_coreGclWrite (c : CmdIn) (s : State) : s.only (coreGclWrite c s).2 [.tm, .pair] (regsOf ["PAIR_MIRROR_LEVEL"]) := by
  unfold coreGclWrite
  generalize hP : ([.tm, .pair] : List Part) = P
  generalize hL : (["PAIR_MIRROR_LEVEL"] : List String) = L
  repeat (first
    | with_reducible exact keep_refl _ _ _
    | (dsimp -zeta only)
    | ((try lift_lets -underBinder); with_reducible intro y; clear_value y)
    | with_reducible apply keep_ifp
    | (with_reducible apply keep_of (frame_mirrorItem ..); on_goal 2 => simp [← hP]
       on_goal 2 => simp [← hL])
    | (with_reducible apply keep_of (frame_putGates ..); on_goal 2 => simp [← hP]
       on_goal 2 => simp [← hL]))

theorem frame_putCommit (s : State) (b : List Byte) (start : Nat) : s.only (State.putCommit s b start) [.tm] (regsOf ["TM_GATE_STATUS"]) := by
  unfold State.putCommit
  generalize hP : ([.tm] : List Part) = P
  generalize hL : (["TM_GATE_STATUS"] : List String) = L
  repeat (first
    | with_reducible exact keep_refl _ _ _
    | ((try lift_lets -underBinder); with_reducible intro y; clear_value y)
    | (with_reducible apply keep_of (frame_syncGate ..); on_goal 2 => simp [← hP]
       on_goal 2 => simp [← hL])
    | (with_reducible apply keep_of (frame_setGate ..); on_goal 2 => simp [← hP]
       on_goal 2 => simp [← hL]))

theorem frame_coreGclCommit (c : CmdIn) (s : State) : s.only (coreGclCommit c s).2 [.tm, .pair] (regsOf ["TM_STATUS", "TM_GATE_LOC", "TM_GATE_ADJUST_CNT", "TM_GATE_STATUS", "PAIR_MIRROR_LEVEL"]) := by
  unfold coreGclCommit
  generalize hP : ([.tm, .pair] : List Part) = P
  generalize hL : (["TM_STATUS", "TM_GATE_LOC", "TM_GATE_ADJUST_CNT", "TM_GATE_STATUS", "PAIR_MIRROR_LEVEL"] : List String) = L
  repeat (first
    | with_reducible assumption
    | with_reducible exact keep_refl _ _ _
    | ((try lift_lets -underBinder); with_reducible intro y; refine cut_at (A := State.only s y P (regsOf L)) ?_ ?_; on_goal 2 => (intro hy; clear_value y)
       unfold y)
    | ((try lift_lets -underBinder); with_reducible intro y; clear_value y)
    | with_reducible apply keep_if
    | with_reducible apply keep_ifp
    | (with_reducible apply keep_set; on_goal 2 => first | assumption | (with_reducible apply reg_TM_STATUS_GATE_ADJUSTED; simp [← hL]) | (with_reducible apply reg_TM_GATE_ADJUST_CNT_COUNT; simp [← hL]) | (with_reducible apply reg_TM_GATE_LOC_KIND; simp [← hL]) | (with_reducible apply reg_TM_GATE_LOC_QUEUE; simp [← hL]))
    | (with_reducible apply keep_on; on_goal 2 => first | assumption | (with_reducible apply reg_TM_STATUS_GATE_ADJUSTED; simp [← hL]) | (with_reducible apply reg_TM_GATE_ADJUST_CNT_COUNT; simp [← hL]) | (with_reducible apply reg_TM_GATE_LOC_KIND; simp [← hL]) | (with_reducible apply reg_TM_GATE_LOC_QUEUE; simp [← hL]))
    | (with_reducible apply keep_off; on_goal 2 => first | assumption | (with_reducible apply reg_TM_STATUS_GATE_ADJUSTED; simp [← hL]) | (with_reducible apply reg_TM_GATE_ADJUST_CNT_COUNT; simp [← hL]) | (with_reducible apply reg_TM_GATE_LOC_KIND; simp [← hL]) | (with_reducible apply reg_TM_GATE_LOC_QUEUE; simp [← hL]))
    | (with_reducible apply keep_satAdd; on_goal 2 => first | assumption | (with_reducible apply reg_TM_STATUS_GATE_ADJUSTED; simp [← hL]) | (with_reducible apply reg_TM_GATE_ADJUST_CNT_COUNT; simp [← hL]) | (with_reducible apply reg_TM_GATE_LOC_KIND; simp [← hL]) | (with_reducible apply reg_TM_GATE_LOC_QUEUE; simp [← hL]))
    | (with_reducible apply keep_of (frame_mirrorItem ..); on_goal 2 => simp [← hP]
       on_goal 2 => simp [← hL])
    | (with_reducible apply keep_of (frame_putCommit ..); on_goal 2 => simp [← hP]
       on_goal 2 => simp [← hL]))

theorem frame_dropCommit (s : State) (p : Nat) : s.only (State.dropCommit s p) [.tm] (regsOf ["TM_GATE_STATUS"]) := by
  unfold State.dropCommit
  generalize hP : ([.tm] : List Part) = P
  generalize hL : (["TM_GATE_STATUS"] : List String) = L
  repeat (first
    | with_reducible exact keep_refl _ _ _
    | ((try lift_lets -underBinder); with_reducible intro y; clear_value y)
    | (with_reducible apply keep_of (frame_syncGate ..); on_goal 2 => simp [← hP]
       on_goal 2 => simp [← hL])
    | (with_reducible apply keep_of (frame_setGate ..); on_goal 2 => simp [← hP]
       on_goal 2 => simp [← hL]))

theorem frame_coreGclCancel (c : CmdIn) (s : State) : s.only (coreGclCancel c s).2 [.tm, .pair] (regsOf ["TM_GATE_STATUS", "PAIR_MIRROR_LEVEL"]) := by
  unfold coreGclCancel
  generalize hP : ([.tm, .pair] : List Part) = P
  generalize hL : (["TM_GATE_STATUS", "PAIR_MIRROR_LEVEL"] : List String) = L
  repeat (first
    | with_reducible exact keep_refl _ _ _
    | (dsimp -zeta only)
    | ((try lift_lets -underBinder); with_reducible intro y; clear_value y)
    | with_reducible apply keep_ifp
    | (with_reducible apply keep_of (frame_mirrorItem ..); on_goal 2 => simp [← hP]
       on_goal 2 => simp [← hL])
    | (with_reducible apply keep_of (frame_dropCommit ..); on_goal 2 => simp [← hP]
       on_goal 2 => simp [← hL]))

theorem frame_coreGclRead (c : CmdIn) (s : State) : s.only (coreGclRead c s).2 [] (regsOf []) := by
  unfold coreGclRead
  generalize hP : ([] : List Part) = P
  generalize hL : ([] : List String) = L
  repeat (first
    | with_reducible exact keep_refl _ _ _
    | ((try lift_lets -underBinder); with_reducible intro y; clear_value y)
    | with_reducible apply keep_ifp)

theorem frame_gateListStart (s : State) (p : Nat) : s.only (State.gateListStart s p) [.tm] (regsOf ["TM_GATE_STATUS"]) := by
  unfold State.gateListStart
  generalize hP : ([.tm] : List Part) = P
  generalize hL : (["TM_GATE_STATUS"] : List String) = L
  repeat (first
    | with_reducible assumption
    | with_reducible exact keep_refl _ _ _
    | ((try lift_lets -underBinder); with_reducible intro y; refine cut_at (A := State.only s y P (regsOf L)) ?_ ?_; on_goal 2 => (intro hy; clear_value y)
       unfold y)
    | ((try lift_lets -underBinder); with_reducible intro y; clear_value y)
    | with_reducible apply keep_if
    | (with_reducible apply keep_set; on_goal 2 => first | assumption | (with_reducible apply reg_TM_GATE_STATUS_ACTIVE_BANK; simp [← hL]))
    | (with_reducible apply keep_of (frame_setGate ..); on_goal 2 => simp [← hP]
       on_goal 2 => simp [← hL])
    | (with_reducible apply keep_of (frame_syncGate ..); on_goal 2 => simp [← hP]
       on_goal 2 => simp [← hL])
    | split)

theorem frame_gateEntryChange (s : State) (p : Nat) : s.only (State.gateEntryChange s p) [] (regsOf ["TM_GATE_STATUS"]) := by
  unfold State.gateEntryChange
  generalize hP : ([] : List Part) = P
  generalize hL : (["TM_GATE_STATUS"] : List String) = L
  repeat (first
    | with_reducible exact keep_refl _ _ _
    | with_reducible apply keep_if
    | (with_reducible apply keep_of (frame_syncGate ..); on_goal 2 => simp [← hP]
       on_goal 2 => simp [← hL]))

theorem frame_suspendGates (s : State) : s.only (State.suspendGates s) [.tm] (regsOf ["TM_STATUS", "TM_GATE_STATUS"]) := by
  unfold State.suspendGates
  generalize hP : ([.tm] : List Part) = P
  generalize hL : (["TM_STATUS", "TM_GATE_STATUS"] : List String) = L
  repeat (first
    | with_reducible assumption
    | with_reducible exact keep_refl _ _ _
    | ((try lift_lets -underBinder); with_reducible intro y; refine cut_at (A := State.only s y P (regsOf L)) ?_ ?_; on_goal 2 => (intro hy; clear_value y)
       unfold y)
    | ((try lift_lets -underBinder); with_reducible intro y; clear_value y)
    | with_reducible refine keep_foldl ?_ (fun u a => ?_)
    | (with_reducible apply keep_on; on_goal 2 => first | assumption | (with_reducible apply reg_TM_STATUS_GATE_SUSPENDED; simp [← hL]))
    | (with_reducible apply keep_of (frame_syncGate ..); on_goal 2 => simp [← hP]
       on_goal 2 => simp [← hL])
    | (with_reducible apply keep_of (frame_setGate ..); on_goal 2 => simp [← hP]
       on_goal 2 => simp [← hL]))

theorem frame_countTx (s : State) (p : Nat) (b : List Byte) (stomped : Bool) : s.only (State.countTx s p b stomped) [.counters, .pair] (regsOf ["CNT_HALF_LO", "CNT_HALF_HI"]) := by
  unfold State.countTx
  generalize hP : ([.counters, .pair] : List Part) = P
  generalize hL : (["CNT_HALF_LO", "CNT_HALF_HI"] : List String) = L
  repeat (first
    | with_reducible assumption
    | with_reducible exact keep_refl _ _ _
    | ((try lift_lets -underBinder); with_reducible intro y; refine cut_at (A := State.only s y P (regsOf L)) ?_ ?_; on_goal 2 => (intro hy; clear_value y)
       unfold y)
    | ((try lift_lets -underBinder); with_reducible intro y; clear_value y)
    | with_reducible apply keep_if
    | (with_reducible apply keep_of (frame_count ..); on_goal 2 => simp [← hP]
       on_goal 2 => simp [← hL]))

theorem frame_countRx (s : State) (p : Nat) (max : Nat) (b : List Byte) (fcs : Fcs) (codeErr : Bool) : s.only (State.countRx s p max b fcs codeErr) [.counters, .pair] (regsOf ["CNT_HALF_LO", "CNT_HALF_HI"]) := by
  unfold State.countRx
  generalize hP : ([.counters, .pair] : List Part) = P
  generalize hL : (["CNT_HALF_LO", "CNT_HALF_HI"] : List String) = L
  repeat (first
    | with_reducible assumption
    | with_reducible exact keep_refl _ _ _
    | ((try lift_lets -underBinder); with_reducible intro y; refine cut_at (A := State.only s y P (regsOf L)) ?_ ?_; on_goal 2 => (intro hy; clear_value y)
       unfold y)
    | ((try lift_lets -underBinder); with_reducible intro y; clear_value y)
    | with_reducible apply keep_if
    | (with_reducible apply keep_of (frame_count ..); on_goal 2 => simp [← hP]
       on_goal 2 => simp [← hL]))

theorem frame_putOut (s : State) (p : Nat) (b : List Byte) : s.only (State.putOut s p b) [.ports] (regsOf []) := by
  unfold State.putOut
  generalize hP : ([.ports] : List Part) = P
  generalize hL : ([] : List String) = L
  repeat (first
    | with_reducible exact keep_refl _ _ _
    | ((try lift_lets -underBinder); with_reducible intro y; clear_value y)
    | with_reducible apply keep_if
    | (with_reducible apply keep_modPort; on_goal 2 => simp [← hP]))

theorem frame_putPause (s : State) (p : Nat) (prio : Nat) (quanta : Nat) : s.only (State.putPause s p prio quanta) [.ports, .counters, .pair] (regsOf ["CNT_HALF_LO", "CNT_HALF_HI"]) := by
  unfold State.putPause
  generalize hP : ([.ports, .counters, .pair] : List Part) = P
  generalize hL : (["CNT_HALF_LO", "CNT_HALF_HI"] : List String) = L
  repeat (first
    | with_reducible exact keep_refl _ _ _
    | ((try lift_lets -underBinder); with_reducible intro y; clear_value y)
    | (with_reducible apply keep_of (frame_putOut ..); on_goal 2 => simp [← hP]
       on_goal 2 => simp [← hL])
    | (with_reducible apply keep_of (frame_count ..); on_goal 2 => simp [← hP]
       on_goal 2 => simp [← hL])
    | (with_reducible apply keep_of (frame_countTx ..); on_goal 2 => simp [← hP]
       on_goal 2 => simp [← hL]))

theorem frame_sendPause (s : State) (p : Nat) (prio : Nat) (quanta : Nat) : s.only (State.sendPause s p prio quanta) [.ports, .counters, .pair] (regsOf ["CNT_HALF_LO", "CNT_HALF_HI"]) := by
  unfold State.sendPause
  generalize hP : ([.ports, .counters, .pair] : List Part) = P
  generalize hL : (["CNT_HALF_LO", "CNT_HALF_HI"] : List String) = L
  repeat (first
    | with_reducible exact keep_refl _ _ _
    | with_reducible apply keep_if
    | (with_reducible apply keep_modPort; on_goal 2 => simp [← hP])
    | (with_reducible apply keep_of (frame_putPause ..); on_goal 2 => simp [← hP]
       on_goal 2 => simp [← hL]))

theorem frame_sendWaiting (s : State) (p : Nat) : s.only (State.sendWaiting s p) [.ports, .counters, .pair] (regsOf ["CNT_HALF_LO", "CNT_HALF_HI"]) := by
  unfold State.sendWaiting
  generalize hP : ([.ports, .counters, .pair] : List Part) = P
  generalize hL : (["CNT_HALF_LO", "CNT_HALF_HI"] : List String) = L
  repeat (first
    | with_reducible exact keep_refl _ _ _
    | ((try lift_lets -underBinder); with_reducible intro y; clear_value y)
    | with_reducible refine keep_foldl ?_ (fun u a => ?_)
    | (with_reducible apply keep_modPort; on_goal 2 => simp [← hP])
    | (with_reducible apply keep_of (frame_sendPause ..); on_goal 2 => simp [← hP]
       on_goal 2 => simp [← hL]))

theorem frame_pauseBegin (s : State) (p : Nat) (prio : Nat) : s.only (State.pauseBegin s p prio) [.ports, .counters, .pair] (regsOf ["CNT_HALF_LO", "CNT_HALF_HI"]) := by
  unfold State.pauseBegin
  generalize hP : ([.ports, .counters, .pair] : List Part) = P
  generalize hL : (["CNT_HALF_LO", "CNT_HALF_HI"] : List String) = L
  repeat (first
    | with_reducible exact keep_refl _ _ _
    | with_reducible apply keep_if
    | (with_reducible apply keep_modPort; on_goal 2 => simp [← hP])
    | (with_reducible apply keep_of (frame_sendPause ..); on_goal 2 => simp [← hP]
       on_goal 2 => simp [← hL]))

theorem frame_pauseEnd (s : State) (p : Nat) (prio : Nat) : s.only (State.pauseEnd s p prio) [.ports, .counters, .pair] (regsOf ["CNT_HALF_LO", "CNT_HALF_HI"]) := by
  unfold State.pauseEnd
  generalize hP : ([.ports, .counters, .pair] : List Part) = P
  generalize hL : (["CNT_HALF_LO", "CNT_HALF_HI"] : List String) = L
  repeat (first
    | with_reducible exact keep_refl _ _ _
    | with_reducible apply keep_if
    | (with_reducible apply keep_modPort; on_goal 2 => simp [← hP])
    | (with_reducible apply keep_of (frame_sendPause ..); on_goal 2 => simp [← hP]
       on_goal 2 => simp [← hL]))

theorem frame_pauseRefresh (s : State) (p : Nat) (prio : Nat) : s.only (State.pauseRefresh s p prio) [.ports, .counters, .pair] (regsOf ["CNT_HALF_LO", "CNT_HALF_HI"]) := by
  unfold State.pauseRefresh
  generalize hP : ([.ports, .counters, .pair] : List Part) = P
  generalize hL : (["CNT_HALF_LO", "CNT_HALF_HI"] : List String) = L
  repeat (first
    | with_reducible exact keep_refl _ _ _
    | with_reducible apply keep_if
    | (with_reducible apply keep_modPort; on_goal 2 => simp [← hP])
    | (with_reducible apply keep_of (frame_sendPause ..); on_goal 2 => simp [← hP]
       on_goal 2 => simp [← hL])
    | split)

theorem frame_pauseChanged (s : State) (p : Nat) (before : PortDyn) : s.only (State.pauseChanged s p before) [.ports, .counters, .pair] (regsOf ["MAC_PORT_STATUS", "CNT_HALF_LO", "CNT_HALF_HI"]) := by
  unfold State.pauseChanged
  generalize hP : ([.ports, .counters, .pair] : List Part) = P
  generalize hL : (["MAC_PORT_STATUS", "CNT_HALF_LO", "CNT_HALF_HI"] : List String) = L
  repeat (first
    | with_reducible assumption
    | with_reducible exact keep_refl _ _ _
    | ((try lift_lets -underBinder); with_reducible intro y; refine cut_at (A := State.only s y P (regsOf L)) ?_ ?_; on_goal 2 => (intro hy; clear_value y)
       unfold y)
    | ((try lift_lets -underBinder); with_reducible intro y; clear_value y)
    | (with_reducible apply keep_set; on_goal 2 => first | assumption | (with_reducible apply reg_MAC_PORT_STATUS_PAUSED; simp [← hL]) | (with_reducible apply reg_MAC_PORT_STATUS_PFC_PAUSED; simp [← hL]))
    | (with_reducible apply keep_setB; on_goal 2 => first | assumption | (with_reducible apply reg_MAC_PORT_STATUS_PAUSED; simp [← hL]) | (with_reducible apply reg_MAC_PORT_STATUS_PFC_PAUSED; simp [← hL]))
    | (with_reducible apply keep_modPort; on_goal 2 => simp [← hP])
    | (with_reducible apply keep_of (frame_count ..); on_goal 2 => simp [← hP]
       on_goal 2 => simp [← hL])
    | split)

theorem frame_pauseReceived (s : State) (p : Nat) (quanta : Nat) (dstOk : Bool) : s.only (State.pauseReceived s p quanta dstOk) [.ports, .counters, .pair] (regsOf ["MAC_PORT_STATUS", "CNT_HALF_LO", "CNT_HALF_HI"]) := by
  unfold State.pauseReceived
  generalize hP : ([.ports, .counters, .pair] : List Part) = P
  generalize hL : (["MAC_PORT_STATUS", "CNT_HALF_LO", "CNT_HALF_HI"] : List String) = L
  repeat (first
    | with_reducible exact keep_refl _ _ _
    | with_reducible apply keep_if
    | (with_reducible apply keep_modPort; on_goal 2 => simp [← hP])
    | (with_reducible apply keep_of (frame_pauseChanged ..); on_goal 2 => simp [← hP]
       on_goal 2 => simp [← hL]))

theorem frame_pfcReceived (s : State) (p : Nat) (enable : Nat) (quanta : List Nat) (dstOk : Bool) : s.only (State.pfcReceived s p enable quanta dstOk) [.ports, .counters, .pair] (regsOf ["MAC_PORT_STATUS", "CNT_HALF_LO", "CNT_HALF_HI"]) := by
  unfold State.pfcReceived
  generalize hP : ([.ports, .counters, .pair] : List Part) = P
  generalize hL : (["MAC_PORT_STATUS", "CNT_HALF_LO", "CNT_HALF_HI"] : List String) = L
  repeat (first
    | with_reducible exact keep_refl _ _ _
    | with_reducible apply keep_if
    | (with_reducible apply keep_modPort; on_goal 2 => simp [← hP])
    | (with_reducible apply keep_of (frame_pauseChanged ..); on_goal 2 => simp [← hP]
       on_goal 2 => simp [← hL]))

theorem frame_pauseExpiry (s : State) (p : Nat) (prio : Nat) : s.only (State.pauseExpiry s p prio) [.ports, .counters, .pair] (regsOf ["MAC_PORT_STATUS", "CNT_HALF_LO", "CNT_HALF_HI"]) := by
  unfold State.pauseExpiry
  generalize hP : ([.ports, .counters, .pair] : List Part) = P
  generalize hL : (["MAC_PORT_STATUS", "CNT_HALF_LO", "CNT_HALF_HI"] : List String) = L
  repeat (first
    | with_reducible exact keep_refl _ _ _
    | ((try lift_lets -underBinder); with_reducible intro y; clear_value y)
    | with_reducible apply keep_if
    | (with_reducible apply keep_modPort; on_goal 2 => simp [← hP])
    | (with_reducible apply keep_of (frame_pauseChanged ..); on_goal 2 => simp [← hP]
       on_goal 2 => simp [← hL])
    | split)

theorem frame_countControl (s : State) (p : Nat) (b : List Byte) : s.only (State.countControl s p b) [.counters, .pair] (regsOf ["CNT_HALF_LO", "CNT_HALF_HI"]) := by
  unfold State.countControl
  generalize hP : ([.counters, .pair] : List Part) = P
  generalize hL : (["CNT_HALF_LO", "CNT_HALF_HI"] : List String) = L
  repeat (first
    | with_reducible assumption
    | with_reducible exact keep_refl _ _ _
    | ((try lift_lets -underBinder); with_reducible intro y; refine cut_at (A := State.only s y P (regsOf L)) ?_ ?_; on_goal 2 => (intro hy; clear_value y)
       unfold y)
    | ((try lift_lets -underBinder); with_reducible intro y; clear_value y)
    | with_reducible apply keep_if
    | (with_reducible apply keep_of (frame_count ..); on_goal 2 => simp [← hP]
       on_goal 2 => simp [← hL]))

theorem frame_leaveUp (s : State) (p : Nat) (counted : Bool) : s.only (State.leaveUp s p counted) [.ports, .counters, .reck, .pair] (regsOf ["MAC_PORT_STATUS", "MAC_PORT_EVT", "CNT_HALF_LO", "CNT_HALF_HI"]) := by
  unfold State.leaveUp
  generalize hP : ([.ports, .counters, .reck, .pair] : List Part) = P
  generalize hL : (["MAC_PORT_STATUS", "MAC_PORT_EVT", "CNT_HALF_LO", "CNT_HALF_HI"] : List String) = L
  repeat (first
    | with_reducible assumption
    | with_reducible exact keep_refl _ _ _
    | ((try lift_lets -underBinder); with_reducible intro y; refine cut_at (A := State.only s y P (regsOf L)) ?_ ?_; on_goal 2 => (intro hy; clear_value y)
       unfold y)
    | with_reducible apply keep_if
    | (with_reducible apply keep_set; on_goal 2 => first | assumption | (with_reducible apply reg_MAC_PORT_EVT_LINK_DOWN; simp [← hL]) | (with_reducible apply reg_MAC_PORT_STATUS_STATE; simp [← hL]))
    | (with_reducible apply keep_on; on_goal 2 => first | assumption | (with_reducible apply reg_MAC_PORT_EVT_LINK_DOWN; simp [← hL]) | (with_reducible apply reg_MAC_PORT_STATUS_STATE; simp [← hL]))
    | (with_reducible apply keep_modPort; on_goal 2 => simp [← hP])
    | (with_reducible apply keep_request; on_goal 2 => simp [← hP])
    | (with_reducible apply keep_of (frame_count ..); on_goal 2 => simp [← hP]
       on_goal 2 => simp [← hL])
    | (with_reducible apply keep_of (frame_pauseChanged ..); on_goal 2 => simp [← hP]
       on_goal 2 => simp [← hL]))

theorem frame_enterTraining (s : State) (p : Nat) : s.only (State.enterTraining s p) [.ports] (regsOf ["MAC_PORT_STATUS"]) := by
  unfold State.enterTraining
  generalize hP : ([.ports] : List Part) = P
  generalize hL : (["MAC_PORT_STATUS"] : List String) = L
  repeat (first
    | with_reducible exact keep_refl _ _ _
    | (with_reducible apply keep_set; on_goal 2 => first | assumption | (with_reducible apply reg_MAC_PORT_STATUS_STATE; simp [← hL]))
    | (with_reducible apply keep_modPort; on_goal 2 => simp [← hP]))

theorem frame_leaveDisabled (s : State) (p : Nat) : s.only (State.leaveDisabled s p) [.ports] (regsOf ["MAC_PORT_STATUS"]) := by
  unfold State.leaveDisabled
  generalize hP : ([.ports] : List Part) = P
  generalize hL : (["MAC_PORT_STATUS"] : List String) = L
  repeat (first
    | with_reducible assumption
    | with_reducible exact keep_refl _ _ _
    | ((try lift_lets -underBinder); with_reducible intro y; refine cut_at (A := State.only s y P (regsOf L)) ?_ ?_; on_goal 2 => (intro hy; clear_value y)
       unfold y)
    | with_reducible refine keep_foldl ?_ (fun u a => ?_)
    | (with_reducible apply keep_modPort; on_goal 2 => simp [← hP])
    | (with_reducible apply keep_of (frame_enterTraining ..); on_goal 2 => simp [← hP]
       on_goal 2 => simp [← hL]))

theorem frame_enterDisabled (s : State) (p : Nat) : s.only (State.enterDisabled s p) [.ports] (regsOf ["MAC_PORT_STATUS"]) := by
  unfold State.enterDisabled
  generalize hP : ([.ports] : List Part) = P
  generalize hL : (["MAC_PORT_STATUS"] : List String) = L
  repeat (first
    | with_reducible assumption
    | with_reducible exact keep_refl _ _ _
    | ((try lift_lets -underBinder); with_reducible intro y; refine cut_at (A := State.only s y P (regsOf L)) ?_ ?_; on_goal 2 => (intro hy; clear_value y)
       unfold y)
    | (with_reducible apply keep_set; on_goal 2 => first | assumption | (with_reducible apply reg_MAC_PORT_STATUS_LINK_GOOD; simp [← hL]) | (with_reducible apply reg_MAC_PORT_STATUS_HI_BER; simp [← hL]) | (with_reducible apply reg_MAC_PORT_STATUS_LOCAL_FAULT; simp [← hL]) | (with_reducible apply reg_MAC_PORT_STATUS_REMOTE_FAULT; simp [← hL]) | (with_reducible apply reg_MAC_PORT_STATUS_STATE; simp [← hL]))
    | (with_reducible apply keep_off; on_goal 2 => first | assumption | (with_reducible apply reg_MAC_PORT_STATUS_LINK_GOOD; simp [← hL]) | (with_reducible apply reg_MAC_PORT_STATUS_HI_BER; simp [← hL]) | (with_reducible apply reg_MAC_PORT_STATUS_LOCAL_FAULT; simp [← hL]) | (with_reducible apply reg_MAC_PORT_STATUS_REMOTE_FAULT; simp [← hL]) | (with_reducible apply reg_MAC_PORT_STATUS_STATE; simp [← hL]))
    | (with_reducible apply keep_modPort; on_goal 2 => simp [← hP]))

theorem frame_applyEnable (s : State) (p : Nat) : s.only (State.applyEnable s p) [.ports, .counters, .reck, .pair] (regsOf ["MAC_PORT_STATUS", "MAC_PORT_EVT", "CNT_HALF_LO", "CNT_HALF_HI"]) := by
  unfold State.applyEnable
  generalize hP : ([.ports, .counters, .reck, .pair] : List Part) = P
  generalize hL : (["MAC_PORT_STATUS", "MAC_PORT_EVT", "CNT_HALF_LO", "CNT_HALF_HI"] : List String) = L
  repeat (first
    | with_reducible exact keep_refl _ _ _
    | ((try lift_lets -underBinder); with_reducible intro y; clear_value y)
    | with_reducible apply keep_if
    | (with_reducible apply keep_of (frame_leaveDisabled ..); on_goal 2 => simp [← hP]
       on_goal 2 => simp [← hL])
    | (with_reducible apply keep_of (frame_leaveUp ..); on_goal 2 => simp [← hP]
       on_goal 2 => simp [← hL])
    | (with_reducible apply keep_of (frame_enterDisabled ..); on_goal 2 => simp [← hP]
       on_goal 2 => simp [← hL]))

theorem frame_linkChange (s : State) (p : Nat) (c : LinkCond) : s.only (State.linkChange s p c) [.ports, .counters, .pair] (regsOf ["MAC_PORT_STATUS", "MAC_PORT_EVT", "CNT_HALF_LO", "CNT_HALF_HI", "STAMP_PORT_STATUS"]) := by
  unfold State.linkChange
  generalize hP : ([.ports, .counters, .pair] : List Part) = P
  generalize hL : (["MAC_PORT_STATUS", "MAC_PORT_EVT", "CNT_HALF_LO", "CNT_HALF_HI", "STAMP_PORT_STATUS"] : List String) = L
  repeat (first
    | with_reducible assumption
    | with_reducible exact keep_refl _ _ _
    | ((try lift_lets -underBinder); with_reducible intro y; refine cut_at (A := State.only s y P (regsOf L)) ?_ ?_; on_goal 2 => (intro hy; clear_value y)
       unfold y)
    | ((try lift_lets -underBinder); with_reducible intro y; clear_value y)
    | with_reducible apply keep_if
    | (with_reducible apply keep_set; on_goal 2 => first | assumption | (with_reducible apply reg_STAMP_PORT_STATUS_DESKEW; simp [← hL]) | (with_reducible apply reg_MAC_PORT_EVT_FEC_UNCORR; simp [← hL]) | (with_reducible apply reg_MAC_PORT_EVT_REMOTE_FAULT; simp [← hL]) | (with_reducible apply reg_MAC_PORT_EVT_LOCAL_FAULT; simp [← hL]) | (with_reducible apply reg_MAC_PORT_EVT_HI_BER; simp [← hL]) | (with_reducible apply reg_MAC_PORT_STATUS_LINK_GOOD; simp [← hL]) | (with_reducible apply reg_MAC_PORT_STATUS_HI_BER; simp [← hL]) | (with_reducible apply reg_MAC_PORT_STATUS_LOCAL_FAULT; simp [← hL]) | (with_reducible apply reg_MAC_PORT_STATUS_REMOTE_FAULT; simp [← hL]))
    | (with_reducible apply keep_on; on_goal 2 => first | assumption | (with_reducible apply reg_STAMP_PORT_STATUS_DESKEW; simp [← hL]) | (with_reducible apply reg_MAC_PORT_EVT_FEC_UNCORR; simp [← hL]) | (with_reducible apply reg_MAC_PORT_EVT_REMOTE_FAULT; simp [← hL]) | (with_reducible apply reg_MAC_PORT_EVT_LOCAL_FAULT; simp [← hL]) | (with_reducible apply reg_MAC_PORT_EVT_HI_BER; simp [← hL]) | (with_reducible apply reg_MAC_PORT_STATUS_LINK_GOOD; simp [← hL]) | (with_reducible apply reg_MAC_PORT_STATUS_HI_BER; simp [← hL]) | (with_reducible apply reg_MAC_PORT_STATUS_LOCAL_FAULT; simp [← hL]) | (with_reducible apply reg_MAC_PORT_STATUS_REMOTE_FAULT; simp [← hL]))
    | (with_reducible apply keep_setB; on_goal 2 => first | assumption | (with_reducible apply reg_STAMP_PORT_STATUS_DESKEW; simp [← hL]) | (with_reducible apply reg_MAC_PORT_EVT_FEC_UNCORR; simp [← hL]) | (with_reducible apply reg_MAC_PORT_EVT_REMOTE_FAULT; simp [← hL]) | (with_reducible apply reg_MAC_PORT_EVT_LOCAL_FAULT; simp [← hL]) | (with_reducible apply reg_MAC_PORT_EVT_HI_BER; simp [← hL]) | (with_reducible apply reg_MAC_PORT_STATUS_LINK_GOOD; simp [← hL]) | (with_reducible apply reg_MAC_PORT_STATUS_HI_BER; simp [← hL]) | (with_reducible apply reg_MAC_PORT_STATUS_LOCAL_FAULT; simp [← hL]) | (with_reducible apply reg_MAC_PORT_STATUS_REMOTE_FAULT; simp [← hL]))
    | (with_reducible apply keep_modPort; on_goal 2 => simp [← hP])
    | (with_reducible apply keep_of (frame_count ..); on_goal 2 => simp [← hP]
       on_goal 2 => simp [← hL]))

theorem frame_upExpiry (s : State) (p : Nat) : s.only (State.upExpiry s p) [.ports, .counters, .pair] (regsOf ["MAC_PORT_STATUS", "MAC_PORT_EVT", "CNT_HALF_LO", "CNT_HALF_HI"]) := by
  unfold State.upExpiry
  generalize hP : ([.ports, .counters, .pair] : List Part) = P
  generalize hL : (["MAC_PORT_STATUS", "MAC_PORT_EVT", "CNT_HALF_LO", "CNT_HALF_HI"] : List String) = L
  repeat (first
    | with_reducible assumption
    | with_reducible exact keep_refl _ _ _
    | ((try lift_lets -underBinder); with_reducible intro y; refine cut_at (A := State.only s y P (regsOf L)) ?_ ?_; on_goal 2 => (intro hy; clear_value y)
       unfold y)
    | ((try lift_lets -underBinder); with_reducible intro y; clear_value y)
    | with_reducible apply keep_if
    | with_reducible refine keep_foldl ?_ (fun u a => ?_)
    | (with_reducible apply keep_set; on_goal 2 => first | assumption | (with_reducible apply reg_MAC_PORT_STATUS_STATE; simp [← hL]) | (with_reducible apply reg_MAC_PORT_EVT_LINK_UP; simp [← hL]))
    | (with_reducible apply keep_on; on_goal 2 => first | assumption | (with_reducible apply reg_MAC_PORT_STATUS_STATE; simp [← hL]) | (with_reducible apply reg_MAC_PORT_EVT_LINK_UP; simp [← hL]))
    | (with_reducible apply keep_modPort; on_goal 2 => simp [← hP])
    | (with_reducible apply keep_of (frame_sendPause ..); on_goal 2 => simp [← hP]
       on_goal 2 => simp [← hL]))

theorem frame_dnExpiry (s : State) (p : Nat) : s.only (State.dnExpiry s p) [.ports, .counters, .reck, .pair] (regsOf ["MAC_PORT_STATUS", "MAC_PORT_EVT", "CNT_HALF_LO", "CNT_HALF_HI"]) := by
  unfold State.dnExpiry
  generalize hP : ([.ports, .counters, .reck, .pair] : List Part) = P
  generalize hL : (["MAC_PORT_STATUS", "MAC_PORT_EVT", "CNT_HALF_LO", "CNT_HALF_HI"] : List String) = L
  repeat (first
    | with_reducible exact keep_refl _ _ _
    | with_reducible apply keep_if
    | (with_reducible apply keep_of (frame_leaveUp ..); on_goal 2 => simp [← hP]
       on_goal 2 => simp [← hL]))

theorem frame_holdDown (s : State) (p : Nat) : s.only (State.holdDown s p) [.ports] (regsOf ["MAC_PORT_STATUS", "QUE_FLUSH_CNT"]) := by
  unfold State.holdDown
  generalize hP : ([.ports] : List Part) = P
  generalize hL : (["MAC_PORT_STATUS", "QUE_FLUSH_CNT"] : List String) = L
  repeat (first
    | with_reducible assumption
    | with_reducible exact keep_refl _ _ _
    | ((try lift_lets -underBinder); with_reducible intro y; refine cut_at (A := State.only s y P (regsOf L)) ?_ ?_; on_goal 2 => (intro hy; clear_value y)
       unfold y)
    | with_reducible apply keep_if
    | (with_reducible apply keep_satAdd; on_goal 2 => first | assumption | (with_reducible apply reg_QUE_FLUSH_CNT_COUNT; simp [← hL]))
    | (with_reducible apply keep_modPort; on_goal 2 => simp [← hP])
    | (with_reducible apply keep_of (frame_enterTraining ..); on_goal 2 => simp [← hP]
       on_goal 2 => simp [← hL])
    | (with_reducible apply keep_of (frame_enterDisabled ..); on_goal 2 => simp [← hP]
       on_goal 2 => simp [← hL])
    | split)

theorem frame_dropPorts (s : State) (which : Nat → Bool) (counted : Bool) : s.only (State.dropPorts s which counted) [.ports, .counters, .reck, .pair] (regsOf ["MAC_PORT_STATUS", "MAC_PORT_EVT", "CNT_HALF_LO", "CNT_HALF_HI"]) := by
  unfold State.dropPorts
  generalize hP : ([.ports, .counters, .reck, .pair] : List Part) = P
  generalize hL : (["MAC_PORT_STATUS", "MAC_PORT_EVT", "CNT_HALF_LO", "CNT_HALF_HI"] : List String) = L
  repeat (first
    | with_reducible exact keep_refl _ _ _
    | with_reducible apply keep_if
    | with_reducible refine keep_foldl ?_ (fun u a => ?_)
    | (with_reducible apply keep_of (frame_leaveUp ..); on_goal 2 => simp [← hP]
       on_goal 2 => simp [← hL]))

theorem frame_sweepEntries (s : State) : s.only (State.sweepEntries s) [.rules] (regsOf ["RULE_STORE_USED", "RULE_STAGE_STATUS"]) := by
  unfold State.sweepEntries
  generalize hP : ([.rules] : List Part) = P
  generalize hL : (["RULE_STORE_USED", "RULE_STAGE_STATUS"] : List String) = L
  repeat (first
    | with_reducible assumption
    | with_reducible exact keep_refl _ _ _
    | ((try lift_lets -underBinder); with_reducible intro y; refine cut_at (A := State.only s y P (regsOf L)) ?_ ?_; on_goal 2 => (intro hy; clear_value y)
       unfold y)
    | ((try lift_lets -underBinder); with_reducible intro y; clear_value y)
    | (with_reducible apply keep_set; on_goal 2 => first | assumption | (with_reducible apply reg_RULE_STORE_USED_USED; simp [← hL]) | (with_reducible apply reg_RULE_STAGE_STATUS_CHANGES; simp [← hL]))
    | (fail_if_no_progress (with_reducible apply keep_at_rules; on_goal 2 => simp [← hP])))

theorem frame_modEntry (s : State) (e : Nat) (f : RuleEntry → RuleEntry) : s.only (State.modEntry s e f) [.rules] (regsOf []) := by
  unfold State.modEntry
  generalize hP : ([.rules] : List Part) = P
  generalize hL : ([] : List String) = L
  repeat (first
    | with_reducible exact keep_refl _ _ _
    | ((try lift_lets -underBinder); with_reducible intro y; clear_value y)
    | (fail_if_no_progress (with_reducible apply keep_at_rules; on_goal 2 => simp [← hP])))

theorem frame_ruleParity (s : State) (tag : Nat) (num : Nat) : s.only (State.ruleParity s tag num) [.rules] (regsOf ["PARSE_STATUS", "PARSE_PARITY_LOC"]) := by
  unfold State.ruleParity
  generalize hP : ([.rules] : List Part) = P
  generalize hL : (["PARSE_STATUS", "PARSE_PARITY_LOC"] : List String) = L
  repeat (first
    | with_reducible assumption
    | with_reducible exact keep_refl _ _ _
    | ((try lift_lets -underBinder); with_reducible intro y; refine cut_at (A := State.only s y P (regsOf L)) ?_ ?_; on_goal 2 => (intro hy; clear_value y)
       unfold y)
    | (with_reducible apply keep_set; on_goal 2 => first | assumption | (with_reducible apply reg_PARSE_PARITY_LOC_VERSION; simp [← hL]) | (with_reducible apply reg_PARSE_PARITY_LOC_RULE_NUM; simp [← hL]) | (with_reducible apply reg_PARSE_STATUS_PARITY; simp [← hL]))
    | (with_reducible apply keep_on; on_goal 2 => first | assumption | (with_reducible apply reg_PARSE_PARITY_LOC_VERSION; simp [← hL]) | (with_reducible apply reg_PARSE_PARITY_LOC_RULE_NUM; simp [← hL]) | (with_reducible apply reg_PARSE_STATUS_PARITY; simp [← hL]))
    | (with_reducible apply keep_of (frame_modEntry ..); on_goal 2 => simp [← hP]
       on_goal 2 => simp [← hL])
    | split)

theorem frame_ruleBad (s : State) (tag : Nat) (num : Nat) : s.only (State.ruleBad s tag num) [.rules] (regsOf []) := by
  unfold State.ruleBad
  generalize hP : ([.rules] : List Part) = P
  generalize hL : ([] : List String) = L
  repeat (first
    | with_reducible exact keep_refl _ _ _
    | (with_reducible apply keep_of (frame_modEntry ..); on_goal 2 => simp [← hP]
       on_goal 2 => simp [← hL])
    | split)

theorem frame_checkRules (s : State) (tag : Nat) : s.only (State.checkRules s tag) [.rules] (regsOf ["PARSE_STATUS", "PARSE_PARITY_LOC"]) := by
  unfold State.checkRules
  generalize hP : ([.rules] : List Part) = P
  generalize hL : (["PARSE_STATUS", "PARSE_PARITY_LOC"] : List String) = L
  repeat (first
    | with_reducible exact keep_refl _ _ _
    | ((try lift_lets -underBinder); with_reducible intro y; clear_value y)
    | with_reducible apply keep_if
    | with_reducible refine keep_foldl ?_ (fun u a => ?_)
    | (with_reducible apply keep_of (frame_ruleParity ..); on_goal 2 => simp [← hP]
       on_goal 2 => simp [← hL]))

theorem frame_coreRuleStage (c : CmdIn) (s : State) : s.only (coreRuleStage c s).2 [.rules] (regsOf ["RULE_STORE_USED", "RULE_STAGE_STATUS"]) := by
  unfold coreRuleStage
  generalize hP : ([.rules] : List Part) = P
  generalize hL : (["RULE_STORE_USED", "RULE_STAGE_STATUS"] : List String) = L
  repeat (first
    | with_reducible assumption
    | with_reducible exact keep_refl _ _ _
    | (dsimp -zeta only)
    | ((try lift_lets -underBinder); with_reducible intro y; refine cut_at (A := State.only s y P (regsOf L)) ?_ ?_; on_goal 2 => (intro hy; clear_value y)
       unfold y)
    | ((try lift_lets -underBinder); with_reducible intro y; clear_value y)
    | with_reducible apply keep_ifp
    | (with_reducible apply keep_of (frame_sweepEntries ..); on_goal 2 => simp [← hP]
       on_goal 2 => simp [← hL])
    | (fail_if_no_progress (with_reducible apply keep_at_rules; on_goal 2 => simp [← hP])))

theorem frame_coreRuleDiscard (w0 : CmdIn) (s : State) : s.only (coreRuleDiscard w0 s).2 [.rules] (regsOf ["RULE_STORE_USED", "RULE_STAGE_STATUS"]) := by
  unfold coreRuleDiscard
  generalize hP : ([.rules] : List Part) = P
  generalize hL : (["RULE_STORE_USED", "RULE_STAGE_STATUS"] : List String) = L
  repeat (first
    | with_reducible exact keep_refl _ _ _
    | (dsimp -zeta only)
    | ((try lift_lets -underBinder); with_reducible intro y; clear_value y)
    | (with_reducible apply keep_of (frame_sweepEntries ..); on_goal 2 => simp [← hP]
       on_goal 2 => simp [← hL])
    | (fail_if_no_progress (with_reducible apply keep_at_rules; on_goal 2 => simp [← hP])))

theorem frame_coreRuleRead (c : CmdIn) (s : State) : s.only (coreRuleRead c s).2 [.rules] (regsOf ["PARSE_STATUS", "PARSE_PARITY_LOC"]) := by
  unfold coreRuleRead
  generalize hP : ([.rules] : List Part) = P
  generalize hL : (["PARSE_STATUS", "PARSE_PARITY_LOC"] : List String) = L
  repeat (first
    | with_reducible exact keep_refl _ _ _
    | (dsimp -zeta only)
    | ((try lift_lets -underBinder); with_reducible intro y; clear_value y)
    | with_reducible apply keep_if
    | with_reducible apply keep_ifp
    | (with_reducible apply keep_of (frame_ruleParity ..); on_goal 2 => simp [← hP]
       on_goal 2 => simp [← hL])
    | split)

theorem frame_putComparator (s : State) (b : List Byte) : s.only (State.putComparator s b) [.rules] (regsOf []) := by
  unfold State.putComparator
  generalize hP : ([.rules] : List Part) = P
  generalize hL : ([] : List String) = L
  repeat (first
    | with_reducible exact keep_refl _ _ _
    | ((try lift_lets -underBinder); with_reducible intro y; clear_value y)
    | (fail_if_no_progress (with_reducible apply keep_at_rules; on_goal 2 => simp [← hP])))

theorem frame_coreRuleRangeSet (c : CmdIn) (s : State) : s.only (coreRuleRangeSet c s).2 [.rules, .pair] (regsOf ["PAIR_MIRROR_LEVEL"]) := by
  unfold coreRuleRangeSet
  generalize hP : ([.rules, .pair] : List Part) = P
  generalize hL : (["PAIR_MIRROR_LEVEL"] : List String) = L
  repeat (first
    | with_reducible exact keep_refl _ _ _
    | (dsimp -zeta only)
    | ((try lift_lets -underBinder); with_reducible intro y; clear_value y)
    | with_reducible apply keep_ifp
    | (with_reducible apply keep_of (frame_mirrorItem ..); on_goal 2 => simp [← hP]
       on_goal 2 => simp [← hL])
    | (with_reducible apply keep_of (frame_putComparator ..); on_goal 2 => simp [← hP]
       on_goal 2 => simp [← hL]))

theorem frame_mirrorCommit (s : State) : s.only (State.mirrorCommit s) [.pair] (regsOf ["PAIR_MIRROR_LEVEL"]) := by
  unfold State.mirrorCommit
  generalize hP : ([.pair] : List Part) = P
  generalize hL : (["PAIR_MIRROR_LEVEL"] : List String) = L
  repeat (first
    | with_reducible exact keep_refl _ _ _
    | ((try lift_lets -underBinder); with_reducible intro y; clear_value y)
    | with_reducible refine keep_foldl ?_ (fun u a => ?_)
    | (with_reducible apply keep_of (frame_mirrorItem ..); on_goal 2 => simp [← hP]
       on_goal 2 => simp [← hL]))

theorem frame_commitSwitch (s : State) (t : Nat) : s.only (State.commitSwitch s t) [.rules, .pair] (regsOf ["RULE_STATUS", "RULE_VER_STATE", "RULE_VER_NUM", "RULE_STORE_USED", "RULE_STAGE_STATUS", "PAIR_MIRROR_LEVEL"]) := by
  unfold State.commitSwitch
  generalize hP : ([.rules, .pair] : List Part) = P
  generalize hL : (["RULE_STATUS", "RULE_VER_STATE", "RULE_VER_NUM", "RULE_STORE_USED", "RULE_STAGE_STATUS", "PAIR_MIRROR_LEVEL"] : List String) = L
  repeat (first
    | with_reducible assumption
    | with_reducible exact keep_refl _ _ _
    | ((try lift_lets -underBinder); with_reducible intro y; refine cut_at (A := State.only s y P (regsOf L)) ?_ ?_; on_goal 2 => (intro hy; clear_value y)
       unfold y)
    | ((try lift_lets -underBinder); with_reducible intro y; clear_value y)
    | (with_reducible apply keep_set; on_goal 2 => first | assumption | (with_reducible apply reg_RULE_VER_NUM_NUM; simp [← hL]) | (with_reducible apply reg_RULE_STATUS_CURRENT; simp [← hL]) | (with_reducible apply reg_RULE_VER_STATE_STATE; simp [← hL]))
    | (with_reducible apply keep_of (frame_mirrorCommit ..); on_goal 2 => simp [← hP]
       on_goal 2 => simp [← hL])
    | (with_reducible apply keep_of (frame_sweepEntries ..); on_goal 2 => simp [← hP]
       on_goal 2 => simp [← hL])
    | (fail_if_no_progress (with_reducible apply keep_at_rules; on_goal 2 => simp [← hP])))

theorem frame_coreRuleCommit (c : CmdIn) (s : State) : s.only (coreRuleCommit c s).2 [.rules, .pair] (regsOf ["RULE_STATUS", "RULE_VER_STATE", "RULE_VER_NUM", "RULE_STORE_USED", "RULE_STAGE_STATUS", "PAIR_MIRROR_LEVEL"]) := by
  unfold coreRuleCommit
  generalize hP : ([.rules, .pair] : List Part) = P
  generalize hL : (["RULE_STATUS", "RULE_VER_STATE", "RULE_VER_NUM", "RULE_STORE_USED", "RULE_STAGE_STATUS", "PAIR_MIRROR_LEVEL"] : List String) = L
  repeat (first
    | with_reducible assumption
    | with_reducible exact keep_refl _ _ _
    | ((try lift_lets -underBinder); with_reducible intro y; refine cut_at (A := State.only s y P (regsOf L)) ?_ ?_; on_goal 2 => (intro hy; clear_value y)
       unfold y)
    | (with_reducible apply keep_of (frame_commitSwitch ..); on_goal 2 => simp [← hP]
       on_goal 2 => simp [← hL])
    | split)

theorem frame_markEntries (s : State) (t : Nat) (done : Nat) : s.only (State.markEntries s t done) [.rules] (regsOf []) := by
  unfold State.markEntries
  generalize hP : ([.rules] : List Part) = P
  generalize hL : ([] : List String) = L
  repeat (first
    | with_reducible exact keep_refl _ _ _
    | ((try lift_lets -underBinder); with_reducible intro y; clear_value y)
    | (fail_if_no_progress (with_reducible apply keep_at_rules; on_goal 2 => simp [← hP])))

theorem frame_inflight (s : State) (t : Nat) (up : Bool) : s.only (State.inflight s t up) [] (regsOf ["RULE_VER_STATE"]) := by
  unfold State.inflight
  generalize hP : ([] : List Part) = P
  generalize hL : (["RULE_VER_STATE"] : List String) = L
  repeat (first
    | with_reducible exact keep_refl _ _ _
    | ((try lift_lets -underBinder); with_reducible intro y; clear_value y)
    | (with_reducible apply keep_set; on_goal 2 => first | assumption | (with_reducible apply reg_RULE_VER_STATE_INFLIGHT; simp [← hL])))

theorem frame_tagDrained (s : State) (t : Nat) : s.only (State.tagDrained s t) [.rules] (regsOf ["RULE_VER_STATE", "RULE_VER_NUM", "RULE_STORE_USED", "RULE_STAGE_STATUS"]) := by
  unfold State.tagDrained
  generalize hP : ([.rules] : List Part) = P
  generalize hL : (["RULE_VER_STATE", "RULE_VER_NUM", "RULE_STORE_USED", "RULE_STAGE_STATUS"] : List String) = L
  repeat (first
    | with_reducible assumption
    | with_reducible exact keep_refl _ _ _
    | ((try lift_lets -underBinder); with_reducible intro y; refine cut_at (A := State.only s y P (regsOf L)) ?_ ?_; on_goal 2 => (intro hy; clear_value y)
       unfold y)
    | ((try lift_lets -underBinder); with_reducible intro y; clear_value y)
    | with_reducible apply keep_if
    | (with_reducible apply keep_set; on_goal 2 => first | assumption | (with_reducible apply reg_RULE_VER_STATE_STATE; simp [← hL]) | (with_reducible apply reg_RULE_VER_NUM_NUM; simp [← hL]))
    | (with_reducible apply keep_of (frame_sweepEntries ..); on_goal 2 => simp [← hP]
       on_goal 2 => simp [← hL])
    | (fail_if_no_progress (with_reducible apply keep_at_rules; on_goal 2 => simp [← hP])))

theorem frame_drainStuck (s : State) (t : Nat) : s.only (State.drainStuck s t) [] (regsOf ["RULE_STATUS"]) := by
  unfold State.drainStuck
  generalize hP : ([] : List Part) = P
  generalize hL : (["RULE_STATUS"] : List String) = L
  repeat (first
    | with_reducible exact keep_refl _ _ _
    | with_reducible apply keep_if
    | (with_reducible apply keep_on; on_goal 2 => first | assumption | (with_reducible apply reg_RULE_STATUS_DRAIN_STUCK; simp [← hL])))

theorem frame_modDram (s : State) (f : DramSt → DramSt) : s.only (State.modDram s f) [.dram] (regsOf []) := by
  unfold State.modDram
  generalize hP : ([.dram] : List Part) = P
  generalize hL : ([] : List String) = L
  repeat (first
    | with_reducible exact keep_refl _ _ _
    | (fail_if_no_progress (with_reducible apply keep_at_dram; on_goal 2 => simp [← hP])))

theorem frame_setParked (s : State) (stack : Nat) (b : Bool) : s.only (State.setParked s stack b) [] (regsOf ["DRAM_STATUS"]) := by
  unfold State.setParked
  generalize hP : ([] : List Part) = P
  generalize hL : (["DRAM_STATUS"] : List String) = L
  repeat (first
    | with_reducible exact keep_refl _ _ _
    | with_reducible apply keep_if
    | (with_reducible apply keep_setB; on_goal 2 => first | assumption | (with_reducible apply reg_DRAM_STATUS_PARKED1; simp [← hL]) | (with_reducible apply reg_DRAM_STATUS_PARKED0; simp [← hL])))

theorem frame_activate (s : State) (bank : Nat) (row : Nat) : s.only (State.activate s bank row) [.dram] (regsOf []) := by
  unfold State.activate
  generalize hP : ([.dram] : List Part) = P
  generalize hL : ([] : List String) = L
  repeat (first
    | with_reducible exact keep_refl _ _ _
    | (with_reducible apply keep_modDram; on_goal 2 => simp [← hP]))

theorem frame_issue (s : State) (pc : Nat) (c : DramCmd) : s.only (State.issue s pc c) [.dram] (regsOf []) := by
  unfold State.issue
  generalize hP : ([.dram] : List Part) = P
  generalize hL : ([] : List String) = L
  repeat (first
    | with_reducible exact keep_refl _ _ _
    | (with_reducible apply keep_modDram; on_goal 2 => simp [← hP]))

theorem frame_guardRow (s : State) (bank : Nat) (row : Nat) : s.only (State.guardRow s bank row) [.dram] (regsOf ["DRAM_ROW_GUARD_CNT"]) := by
  unfold State.guardRow
  generalize hP : ([.dram] : List Part) = P
  generalize hL : (["DRAM_ROW_GUARD_CNT"] : List String) = L
  repeat (first
    | with_reducible assumption
    | with_reducible exact keep_refl _ _ _
    | ((try lift_lets -underBinder); with_reducible intro y; refine cut_at (A := State.only s y P (regsOf L)) ?_ ?_; on_goal 2 => (intro hy; clear_value y)
       unfold y)
    | with_reducible apply keep_if
    | (with_reducible apply keep_satAdd; on_goal 2 => first | assumption | (with_reducible apply reg_DRAM_ROW_GUARD_CNT_COUNT; simp [← hL]))
    | (with_reducible apply keep_modDram; on_goal 2 => simp [← hP])
    | (with_reducible apply keep_of (frame_activate ..); on_goal 2 => simp [← hP]
       on_goal 2 => simp [← hL]))

theorem frame_rowGuard (s : State) (bank : Nat) (row : Nat) : s.only (State.rowGuard s bank row) [.dram] (regsOf ["DRAM_ROW_GUARD_CNT"]) := by
  unfold State.rowGuard
  generalize hP : ([.dram] : List Part) = P
  generalize hL : (["DRAM_ROW_GUARD_CNT"] : List String) = L
  repeat (first
    | with_reducible exact keep_refl _ _ _
    | with_reducible apply keep_if
    | (with_reducible apply keep_of (frame_guardRow ..); on_goal 2 => simp [← hP]
       on_goal 2 => simp [← hL]))

theorem frame_openRow (s : State) (pc : Nat) (bank : Nat) (row : Nat) : s.only (State.openRow s pc bank row) [.dram] (regsOf ["DRAM_ROW_GUARD_CNT"]) := by
  unfold State.openRow
  generalize hP : ([.dram] : List Part) = P
  generalize hL : (["DRAM_ROW_GUARD_CNT"] : List String) = L
  repeat (first
    | with_reducible exact keep_refl _ _ _
    | (with_reducible apply keep_of (frame_issue ..); on_goal 2 => simp [← hP]
       on_goal 2 => simp [← hL])
    | (with_reducible apply keep_of (frame_activate ..); on_goal 2 => simp [← hP]
       on_goal 2 => simp [← hL])
    | (with_reducible apply keep_of (frame_rowGuard ..); on_goal 2 => simp [← hP]
       on_goal 2 => simp [← hL]))

theorem frame_reachStack (s : State) (bursts : List Nat) (times : Nat) : s.only (State.reachStack s bursts times) [.dram] (regsOf ["DRAM_ROW_GUARD_CNT"]) := by
  unfold State.reachStack
  generalize hP : ([.dram] : List Part) = P
  generalize hL : (["DRAM_ROW_GUARD_CNT"] : List String) = L
  repeat (first
    | with_reducible exact keep_refl _ _ _
    | ((try lift_lets -underBinder); with_reducible intro y; clear_value y)
    | with_reducible refine keep_foldl ?_ (fun u a => ?_)
    | (with_reducible apply keep_of (frame_issue ..); on_goal 2 => simp [← hP]
       on_goal 2 => simp [← hL])
    | (with_reducible apply keep_of (frame_openRow ..); on_goal 2 => simp [← hP]
       on_goal 2 => simp [← hL])
    | split)

theorem frame_wake (s : State) (stack : Nat) : s.only (State.wake s stack) [.dram] (regsOf ["DRAM_STATUS"]) := by
  unfold State.wake
  generalize hP : ([.dram] : List Part) = P
  generalize hL : (["DRAM_STATUS"] : List String) = L
  repeat (first
    | with_reducible exact keep_refl _ _ _
    | with_reducible apply keep_if
    | (with_reducible apply keep_modDram; on_goal 2 => simp [← hP])
    | (with_reducible apply keep_of (frame_setParked ..); on_goal 2 => simp [← hP]
       on_goal 2 => simp [← hL]))

theorem frame_noteRequest (s : State) (g : Nat) : s.only (State.noteRequest s g) [.dram] (regsOf ["DRAM_STATUS"]) := by
  unfold State.noteRequest
  generalize hP : ([.dram] : List Part) = P
  generalize hL : (["DRAM_STATUS"] : List String) = L
  repeat (first
    | with_reducible exact keep_refl _ _ _
    | ((try lift_lets -underBinder); with_reducible intro y; clear_value y)
    | (with_reducible apply keep_modDram; on_goal 2 => simp [← hP])
    | (with_reducible apply keep_of (frame_wake ..); on_goal 2 => simp [← hP]
       on_goal 2 => simp [← hL]))

theorem frame_serveWrites (v0 : Option Nat) (v1 : List (Nat × Nat)) (s : State) : s.only (serveWrites v0 v1 s) [.dram] (regsOf ["DRAM_ROW_GUARD_CNT"]) := by
  induction v1 generalizing v0 s with
  | nil =>
    unfold serveWrites
    generalize hP : ([.dram] : List Part) = P
    generalize hL : (["DRAM_ROW_GUARD_CNT"] : List String) = L
    repeat (first
      | with_reducible exact keep_refl _ _ _)
  | cons e l ih =>
    unfold serveWrites
    generalize hP : ([.dram] : List Part) = P
    generalize hL : (["DRAM_ROW_GUARD_CNT"] : List String) = L
    repeat (first
      | with_reducible assumption
      | with_reducible exact keep_refl _ _ _
      | ((try lift_lets -underBinder); with_reducible intro y; refine cut_at (A := State.only s y P (regsOf L)) ?_ ?_; on_goal 2 => (intro hy; clear_value y)
         unfold y)
      | ((try lift_lets -underBinder); with_reducible intro y; clear_value y)
      | with_reducible apply keep_if
      | (with_reducible apply keep_of (ih ..); on_goal 2 => simp [← hP]
         on_goal 2 => simp [← hL])
      | (with_reducible apply keep_of (frame_openRow ..); on_goal 2 => simp [← hP]
         on_goal 2 => simp [← hL])
      | (with_reducible apply keep_of (frame_issue ..); on_goal 2 => simp [← hP]
         on_goal 2 => simp [← hL]))

theorem frame_drainWrites (s : State) (pc : Nat) (n : Nat) : s.only (State.drainWrites s pc n) [.dram] (regsOf ["DRAM_ROW_GUARD_CNT"]) := by
  unfold State.drainWrites
  generalize hP : ([.dram] : List Part) = P
  generalize hL : (["DRAM_ROW_GUARD_CNT"] : List String) = L
  repeat (first
    | with_reducible exact keep_refl _ _ _
    | ((try lift_lets -underBinder); with_reducible intro y; clear_value y)
    | (with_reducible apply keep_modDram; on_goal 2 => simp [← hP])
    | (with_reducible apply keep_of (frame_serveWrites ..); on_goal 2 => simp [← hP]
       on_goal 2 => simp [← hL]))

theorem frame_queueWrites (s : State) (pc : Nat) (bursts : List Nat) : s.only (State.queueWrites s pc bursts) [.dram] (regsOf ["DRAM_ROW_GUARD_CNT"]) := by
  unfold State.queueWrites
  generalize hP : ([.dram] : List Part) = P
  generalize hL : (["DRAM_ROW_GUARD_CNT"] : List String) = L
  repeat (first
    | with_reducible assumption
    | with_reducible exact keep_refl _ _ _
    | ((try lift_lets -underBinder); with_reducible intro y; refine cut_at (A := State.only s y P (regsOf L)) ?_ ?_; on_goal 2 => (intro hy; clear_value y)
       unfold y)
    | with_reducible apply keep_if
    | (with_reducible apply keep_modDram; on_goal 2 => simp [← hP])
    | (with_reducible apply keep_of (frame_drainWrites ..); on_goal 2 => simp [← hP]
       on_goal 2 => simp [← hL]))

theorem frame_spend (s : State) (user : Nat) (bursts : Nat) : s.only (State.spend s user bursts) [.dram] (regsOf []) := by
  unfold State.spend
  generalize hP : ([.dram] : List Part) = P
  generalize hL : ([] : List String) = L
  repeat (first
    | with_reducible exact keep_refl _ _ _
    | ((try lift_lets -underBinder); with_reducible intro y; clear_value y)
    | (with_reducible apply keep_modDram; on_goal 2 => simp [← hP]))

theorem frame_dramWrite (s : State) (user : Nat) (b : Nat) (n : Nat) : s.only (State.dramWrite s user b n) [.dram] (regsOf ["DRAM_STATUS", "DRAM_ROW_GUARD_CNT"]) := by
  unfold State.dramWrite
  generalize hP : ([.dram] : List Part) = P
  generalize hL : (["DRAM_STATUS", "DRAM_ROW_GUARD_CNT"] : List String) = L
  repeat (first
    | with_reducible assumption
    | with_reducible exact keep_refl _ _ _
    | ((try lift_lets -underBinder); with_reducible intro y; refine cut_at (A := State.only s y P (regsOf L)) ?_ ?_; on_goal 2 => (intro hy; clear_value y)
       unfold y)
    | ((try lift_lets -underBinder); with_reducible intro y; clear_value y)
    | with_reducible apply keep_if
    | (with_reducible apply keep_of (frame_spend ..); on_goal 2 => simp [← hP]
       on_goal 2 => simp [← hL])
    | (with_reducible apply keep_of (frame_noteRequest ..); on_goal 2 => simp [← hP]
       on_goal 2 => simp [← hL])
    | (with_reducible apply keep_of (frame_queueWrites ..); on_goal 2 => simp [← hP]
       on_goal 2 => simp [← hL]))

theorem frame_errLoc (s : State) (uncorr : Bool) (user : Nat) (g : Nat) : s.only (State.errLoc s uncorr user g) [] (regsOf ["DRAM_ERR_LOC"]) := by
  unfold State.errLoc
  generalize hP : ([] : List Part) = P
  generalize hL : (["DRAM_ERR_LOC"] : List String) = L
  repeat (first
    | with_reducible exact keep_refl _ _ _
    | (with_reducible apply keep_set; on_goal 2 => first | assumption | (with_reducible apply reg_DRAM_ERR_LOC_UNCORR; simp [← hL]) | (with_reducible apply reg_DRAM_ERR_LOC_USER; simp [← hL]) | (with_reducible apply reg_DRAM_ERR_LOC_GRANULE; simp [← hL]))
    | (with_reducible apply keep_setB; on_goal 2 => first | assumption | (with_reducible apply reg_DRAM_ERR_LOC_UNCORR; simp [← hL]) | (with_reducible apply reg_DRAM_ERR_LOC_USER; simp [← hL]) | (with_reducible apply reg_DRAM_ERR_LOC_GRANULE; simp [← hL])))

theorem frame_corrected (s : State) (user : Nat) (g : Nat) : s.only (State.corrected s user g) [] (regsOf ["DRAM_STATUS", "DRAM_ERR_LOC", "DRAM_CORR_CNT"]) := by
  unfold State.corrected
  generalize hP : ([] : List Part) = P
  generalize hL : (["DRAM_STATUS", "DRAM_ERR_LOC", "DRAM_CORR_CNT"] : List String) = L
  repeat (first
    | with_reducible exact keep_refl _ _ _
    | (with_reducible apply keep_on; on_goal 2 => first | assumption | (with_reducible apply reg_DRAM_CORR_CNT_COUNT; simp [← hL]) | (with_reducible apply reg_DRAM_STATUS_CORRECTED; simp [← hL]))
    | (with_reducible apply keep_satAdd; on_goal 2 => first | assumption | (with_reducible apply reg_DRAM_CORR_CNT_COUNT; simp [← hL]) | (with_reducible apply reg_DRAM_STATUS_CORRECTED; simp [← hL]))
    | (with_reducible apply keep_of (frame_errLoc ..); on_goal 2 => simp [← hP]
       on_goal 2 => simp [← hL]))

theorem frame_uncorrectable (s : State) (user : Nat) (g : Nat) : s.only (State.uncorrectable s user g) [] (regsOf ["DRAM_STATUS", "DRAM_ERR_LOC", "DRAM_UNCORR_CNT"]) := by
  unfold State.uncorrectable
  generalize hP : ([] : List Part) = P
  generalize hL : (["DRAM_STATUS", "DRAM_ERR_LOC", "DRAM_UNCORR_CNT"] : List String) = L
  repeat (first
    | with_reducible exact keep_refl _ _ _
    | (with_reducible apply keep_on; on_goal 2 => first | assumption | (with_reducible apply reg_DRAM_UNCORR_CNT_COUNT; simp [← hL]) | (with_reducible apply reg_DRAM_STATUS_UNCORR; simp [← hL]))
    | (with_reducible apply keep_satAdd; on_goal 2 => first | assumption | (with_reducible apply reg_DRAM_UNCORR_CNT_COUNT; simp [← hL]) | (with_reducible apply reg_DRAM_STATUS_UNCORR; simp [← hL]))
    | (with_reducible apply keep_of (frame_errLoc ..); on_goal 2 => simp [← hP]
       on_goal 2 => simp [← hL]))

theorem frame_burstRead (s : State) (user : Nat) (k : Nat) (v0 : EccOutcome) : s.only (State.burstRead s user k v0) [.dram] (regsOf ["DRAM_STATUS", "DRAM_ERR_LOC", "DRAM_CORR_CNT", "DRAM_UNCORR_CNT", "DRAM_ROW_GUARD_CNT"]) := by
  unfold State.burstRead
  generalize hP : ([.dram] : List Part) = P
  generalize hL : (["DRAM_STATUS", "DRAM_ERR_LOC", "DRAM_CORR_CNT", "DRAM_UNCORR_CNT", "DRAM_ROW_GUARD_CNT"] : List String) = L
  repeat (first
    | with_reducible exact keep_refl _ _ _
    | (with_reducible apply keep_modDram; on_goal 2 => simp [← hP])
    | (with_reducible apply keep_of (frame_queueWrites ..); on_goal 2 => simp [← hP]
       on_goal 2 => simp [← hL])
    | (with_reducible apply keep_of (frame_corrected ..); on_goal 2 => simp [← hP]
       on_goal 2 => simp [← hL])
    | (with_reducible apply keep_of (frame_uncorrectable ..); on_goal 2 => simp [← hP]
       on_goal 2 => simp [← hL])
    | split)

theorem frame_stackRead (s : State) (user : Nat) (b : Nat) (bursts : List Nat) (o : ReadOutcome) : s.only (State.stackRead s user b bursts o).2 [.dram] (regsOf ["DRAM_STATUS", "DRAM_ERR_LOC", "DRAM_CORR_CNT", "DRAM_UNCORR_CNT", "DRAM_ROW_GUARD_CNT"]) := by
  unfold State.stackRead
  generalize hP : ([.dram] : List Part) = P
  generalize hL : (["DRAM_STATUS", "DRAM_ERR_LOC", "DRAM_CORR_CNT", "DRAM_UNCORR_CNT", "DRAM_ROW_GUARD_CNT"] : List String) = L
  repeat (first
    | with_reducible assumption
    | with_reducible exact keep_refl _ _ _
    | (dsimp -zeta only)
    | ((try lift_lets -underBinder); with_reducible intro y; refine cut_at (A := State.only s y P (regsOf L)) ?_ ?_; on_goal 2 => (intro hy; clear_value y)
       unfold y)
    | ((try lift_lets -underBinder); with_reducible intro y; clear_value y)
    | with_reducible apply keep_if
    | with_reducible refine keep_foldl ?_ (fun u a => ?_)
    | (with_reducible apply keep_satAdd; on_goal 2 => first | assumption | (with_reducible apply reg_DRAM_CORR_CNT_COUNT; simp [← hL]))
    | (with_reducible apply keep_of (frame_reachStack ..); on_goal 2 => simp [← hP]
       on_goal 2 => simp [← hL])
    | (with_reducible apply keep_of (frame_burstRead ..); on_goal 2 => simp [← hP]
       on_goal 2 => simp [← hL]))

theorem frame_dramRead (s : State) (user : Nat) (b : Nat) (n : Nat) (o : ReadOutcome) : s.only (State.dramRead s user b n o).2 [.dram] (regsOf ["DRAM_STATUS", "DRAM_ERR_LOC", "DRAM_CORR_CNT", "DRAM_UNCORR_CNT", "DRAM_ROW_GUARD_CNT"]) := by
  unfold State.dramRead
  generalize hP : ([.dram] : List Part) = P
  generalize hL : (["DRAM_STATUS", "DRAM_ERR_LOC", "DRAM_CORR_CNT", "DRAM_UNCORR_CNT", "DRAM_ROW_GUARD_CNT"] : List String) = L
  repeat (first
    | with_reducible assumption
    | with_reducible exact keep_refl _ _ _
    | (dsimp -zeta only)
    | ((try lift_lets -underBinder); with_reducible intro y; refine cut_at (A := State.only s y P (regsOf L)) ?_ ?_; on_goal 2 => (intro hy; clear_value y)
       unfold y)
    | ((try lift_lets -underBinder); with_reducible intro y; clear_value y)
    | with_reducible apply keep_ifp
    | (with_reducible apply keep_modDram; on_goal 2 => simp [← hP])
    | (with_reducible apply keep_of (frame_spend ..); on_goal 2 => simp [← hP]
       on_goal 2 => simp [← hL])
    | (with_reducible apply keep_of (frame_noteRequest ..); on_goal 2 => simp [← hP]
       on_goal 2 => simp [← hL])
    | (with_reducible apply keep_of (frame_uncorrectable ..); on_goal 2 => simp [← hP]
       on_goal 2 => simp [← hL])
    | (with_reducible apply keep_of (frame_stackRead ..); on_goal 2 => simp [← hP]
       on_goal 2 => simp [← hL]))

theorem frame_failPc (s : State) (pc : Nat) : s.only (State.failPc s pc) [.dram] (regsOf ["DRAM_STATUS", "DRAM_PC_FAILED_LO", "DRAM_PC_FAILED_HI"]) := by
  unfold State.failPc
  generalize hP : ([.dram] : List Part) = P
  generalize hL : (["DRAM_STATUS", "DRAM_PC_FAILED_LO", "DRAM_PC_FAILED_HI"] : List String) = L
  repeat (first
    | with_reducible assumption
    | with_reducible exact keep_refl _ _ _
    | ((try lift_lets -underBinder); with_reducible intro y; refine cut_at (A := State.only s y P (regsOf L)) ?_ ?_; on_goal 2 => (intro hy; clear_value y)
       unfold y)
    | with_reducible apply keep_if
    | (with_reducible apply keep_on; on_goal 2 => first | assumption | (with_reducible apply reg_DRAM_STATUS_PC_FAIL; simp [← hL]) | (with_reducible apply reg_DRAM_PC_FAILED_HI_FAILED; simp [← hL]) | (with_reducible apply reg_DRAM_PC_FAILED_LO_FAILED; simp [← hL]))
    | (with_reducible apply keep_putBit; on_goal 2 => first | assumption | (with_reducible apply reg_DRAM_STATUS_PC_FAIL; simp [← hL]) | (with_reducible apply reg_DRAM_PC_FAILED_HI_FAILED; simp [← hL]) | (with_reducible apply reg_DRAM_PC_FAILED_LO_FAILED; simp [← hL]))
    | (with_reducible apply keep_modDram; on_goal 2 => simp [← hP]))

theorem frame_spoil (s : State) (k : Nat) (e : EccOutcome) : s.only (State.spoil s k e) [.dram] (regsOf []) := by
  unfold State.spoil
  generalize hP : ([.dram] : List Part) = P
  generalize hL : ([] : List String) = L
  repeat (first
    | with_reducible exact keep_refl _ _ _
    | with_reducible apply keep_if
    | (with_reducible apply keep_modDram; on_goal 2 => simp [← hP]))

theorem frame_scrubRead (s : State) (g : Nat) (o : ReadOutcome) : s.only (State.scrubRead s g o) [.dram] (regsOf ["DRAM_STATUS", "DRAM_ERR_LOC", "DRAM_CORR_CNT", "DRAM_UNCORR_CNT", "DRAM_ROW_GUARD_CNT"]) := by
  unfold State.scrubRead
  generalize hP : ([.dram] : List Part) = P
  generalize hL : (["DRAM_STATUS", "DRAM_ERR_LOC", "DRAM_CORR_CNT", "DRAM_UNCORR_CNT", "DRAM_ROW_GUARD_CNT"] : List String) = L
  repeat (first
    | with_reducible assumption
    | with_reducible exact keep_refl _ _ _
    | ((try lift_lets -underBinder); with_reducible intro y; refine cut_at (A := State.only s y P (regsOf L)) ?_ ?_; on_goal 2 => (intro hy; clear_value y)
       unfold y)
    | ((try lift_lets -underBinder); with_reducible intro y; clear_value y)
    | with_reducible apply keep_if
    | (with_reducible apply keep_modDram; on_goal 2 => simp [← hP])
    | (with_reducible apply keep_of (frame_spoil ..); on_goal 2 => simp [← hP]
       on_goal 2 => simp [← hL])
    | (with_reducible apply keep_of (frame_uncorrectable ..); on_goal 2 => simp [← hP]
       on_goal 2 => simp [← hL])
    | (with_reducible apply keep_of (frame_stackRead ..); on_goal 2 => simp [← hP]
       on_goal 2 => simp [← hL]))

theorem frame_replay (s : State) (pc : Nat) (n : Nat) : s.only (State.replay s pc n) [.dram] (regsOf ["DRAM_ROW_GUARD_CNT"]) := by
  unfold State.replay
  generalize hP : ([.dram] : List Part) = P
  generalize hL : (["DRAM_ROW_GUARD_CNT"] : List String) = L
  repeat (first
    | with_reducible exact keep_refl _ _ _
    | ((try lift_lets -underBinder); with_reducible intro y; clear_value y)
    | with_reducible refine keep_foldl ?_ (fun u a => ?_)
    | (with_reducible apply keep_of (frame_openRow ..); on_goal 2 => simp [← hP]
       on_goal 2 => simp [← hL])
    | (with_reducible apply keep_of (frame_issue ..); on_goal 2 => simp [← hP]
       on_goal 2 => simp [← hL])
    | split)

theorem frame_parityAlert (s : State) (pc : Nat) (ofCommand : Bool) (reissue : Nat) (retrainOk : Bool) : s.only (State.parityAlert s pc ofCommand reissue retrainOk) [.dram] (regsOf ["DRAM_STATUS", "DRAM_PC_FAILED_LO", "DRAM_PC_FAILED_HI", "DRAM_CA_REPLAY_CNT", "DRAM_ROW_GUARD_CNT"]) := by
  unfold State.parityAlert
  generalize hP : ([.dram] : List Part) = P
  generalize hL : (["DRAM_STATUS", "DRAM_PC_FAILED_LO", "DRAM_PC_FAILED_HI", "DRAM_CA_REPLAY_CNT", "DRAM_ROW_GUARD_CNT"] : List String) = L
  repeat (first
    | with_reducible assumption
    | with_reducible exact keep_refl _ _ _
    | ((try lift_lets -underBinder); with_reducible intro y; refine cut_at (A := State.only s y P (regsOf L)) ?_ ?_; on_goal 2 => (intro hy; clear_value y)
       unfold y)
    | ((try lift_lets -underBinder); with_reducible intro y; clear_value y)
    | with_reducible apply keep_if
    | (with_reducible apply keep_on; on_goal 2 => first | assumption | (with_reducible apply reg_DRAM_CA_REPLAY_CNT_COUNT; simp [← hL]) | (with_reducible apply reg_DRAM_STATUS_CA_REPLAY; simp [← hL]))
    | (with_reducible apply keep_satAdd; on_goal 2 => first | assumption | (with_reducible apply reg_DRAM_CA_REPLAY_CNT_COUNT; simp [← hL]) | (with_reducible apply reg_DRAM_STATUS_CA_REPLAY; simp [← hL]))
    | (with_reducible apply keep_modDram; on_goal 2 => simp [← hP])
    | (with_reducible apply keep_of (frame_replay ..); on_goal 2 => simp [← hP]
       on_goal 2 => simp [← hL])
    | (with_reducible apply keep_of (frame_failPc ..); on_goal 2 => simp [← hP]
       on_goal 2 => simp [← hL]))

theorem frame_ageDrain (s : State) (pc : Nat) : s.only (State.ageDrain s pc) [.dram] (regsOf ["DRAM_ROW_GUARD_CNT"]) := by
  unfold State.ageDrain
  generalize hP : ([.dram] : List Part) = P
  generalize hL : (["DRAM_ROW_GUARD_CNT"] : List String) = L
  repeat (first
    | with_reducible exact keep_refl _ _ _
    | ((try lift_lets -underBinder); with_reducible intro y; clear_value y)
    | with_reducible apply keep_if
    | (with_reducible apply keep_of (frame_drainWrites ..); on_goal 2 => simp [← hP]
       on_goal 2 => simp [← hL])
    | split)

theorem frame_idleDrain (s : State) (pc : Nat) : s.only (State.idleDrain s pc) [.dram] (regsOf ["DRAM_ROW_GUARD_CNT"]) := by
  unfold State.idleDrain
  generalize hP : ([.dram] : List Part) = P
  generalize hL : (["DRAM_ROW_GUARD_CNT"] : List String) = L
  repeat (first
    | with_reducible exact keep_refl _ _ _
    | ((try lift_lets -underBinder); with_reducible intro y; clear_value y)
    | with_reducible apply keep_if
    | (with_reducible apply keep_of (frame_drainWrites ..); on_goal 2 => simp [← hP]
       on_goal 2 => simp [← hL]))

theorem frame_refreshWindow (s : State) (stack : Nat) : s.only (State.refreshWindow s stack) [.dram] (regsOf []) := by
  unfold State.refreshWindow
  generalize hP : ([.dram] : List Part) = P
  generalize hL : ([] : List String) = L
  repeat (first
    | with_reducible exact keep_refl _ _ _
    | with_reducible apply keep_if
    | (with_reducible apply keep_modDram; on_goal 2 => simp [← hP]))

theorem frame_stackTemp (s : State) (stack : Nat) (t : Nat) : s.only (State.stackTemp s stack t) [.dram] (regsOf ["DRAM_STATUS"]) := by
  unfold State.stackTemp
  generalize hP : ([.dram] : List Part) = P
  generalize hL : (["DRAM_STATUS"] : List String) = L
  repeat (first
    | with_reducible assumption
    | with_reducible exact keep_refl _ _ _
    | ((try lift_lets -underBinder); with_reducible intro y; refine cut_at (A := State.only s y P (regsOf L)) ?_ ?_; on_goal 2 => (intro hy; clear_value y)
       unfold y)
    | ((try lift_lets -underBinder); with_reducible intro y; clear_value y)
    | with_reducible apply keep_if
    | (with_reducible apply keep_on; on_goal 2 => first | assumption | (with_reducible apply reg_DRAM_STATUS_HOT; simp [← hL]) | (with_reducible apply reg_DRAM_STATUS_TEMP; simp [← hL]))
    | (with_reducible apply keep_setB; on_goal 2 => first | assumption | (with_reducible apply reg_DRAM_STATUS_HOT; simp [← hL]) | (with_reducible apply reg_DRAM_STATUS_TEMP; simp [← hL]))
    | (with_reducible apply keep_modDram; on_goal 2 => simp [← hP]))

theorem frame_tempsRead (s : State) (t0 : Nat) (t1 : Nat) : s.only (State.tempsRead s t0 t1) [.dram] (regsOf ["DRAM_STATUS", "DRAM_TEMP"]) := by
  unfold State.tempsRead
  generalize hP : ([.dram] : List Part) = P
  generalize hL : (["DRAM_STATUS", "DRAM_TEMP"] : List String) = L
  repeat (first
    | with_reducible exact keep_refl _ _ _
    | (with_reducible apply keep_set; on_goal 2 => first | assumption | (with_reducible apply reg_DRAM_TEMP_STACK0; simp [← hL]) | (with_reducible apply reg_DRAM_TEMP_STACK1; simp [← hL]))
    | (with_reducible apply keep_of (frame_stackTemp ..); on_goal 2 => simp [← hP]
       on_goal 2 => simp [← hL]))

theorem frame_park (s : State) (stack : Nat) : s.only (State.park s stack) [.dram] (regsOf ["DRAM_STATUS", "DRAM_ROW_GUARD_CNT", "DRAM_PARK_CNT"]) := by
  unfold State.park
  generalize hP : ([.dram] : List Part) = P
  generalize hL : (["DRAM_STATUS", "DRAM_ROW_GUARD_CNT", "DRAM_PARK_CNT"] : List String) = L
  repeat (first
    | with_reducible assumption
    | with_reducible exact keep_refl _ _ _
    | ((try lift_lets -underBinder); with_reducible intro y; refine cut_at (A := State.only s y P (regsOf L)) ?_ ?_; on_goal 2 => (intro hy; clear_value y)
       unfold y)
    | with_reducible apply keep_if
    | with_reducible refine keep_foldl ?_ (fun u a => ?_)
    | (with_reducible apply keep_satAdd; on_goal 2 => first | assumption | (with_reducible apply reg_DRAM_PARK_CNT_COUNT; simp [← hL]))
    | (with_reducible apply keep_of (frame_drainWrites ..); on_goal 2 => simp [← hP]
       on_goal 2 => simp [← hL])
    | (with_reducible apply keep_of (frame_setParked ..); on_goal 2 => simp [← hP]
       on_goal 2 => simp [← hL]))

theorem frame_idleSid (s : State) (stack : Nat) (sid : Nat) : s.only (State.idleSid s stack sid) [.dram] (regsOf []) := by
  unfold State.idleSid
  generalize hP : ([.dram] : List Part) = P
  generalize hL : ([] : List String) = L
  repeat (first
    | with_reducible exact keep_refl _ _ _
    | ((try lift_lets -underBinder); with_reducible intro y; clear_value y)
    | with_reducible apply keep_if
    | (with_reducible apply keep_modDram; on_goal 2 => simp [← hP]))

theorem frame_startTraining (s : State) : s.only (State.startTraining s) [.reck, .dram] (regsOf ["DRAM_TRAIN"]) := by
  unfold State.startTraining
  generalize hP : ([.reck, .dram] : List Part) = P
  generalize hL : (["DRAM_TRAIN"] : List String) = L
  repeat (first
    | with_reducible assumption
    | with_reducible exact keep_refl _ _ _
    | ((try lift_lets -underBinder); with_reducible intro y; refine cut_at (A := State.only s y P (regsOf L)) ?_ ?_; on_goal 2 => (intro hy; clear_value y)
       unfold y)
    | (with_reducible apply keep_set; on_goal 2 => first | assumption | (with_reducible apply reg_DRAM_TRAIN_STATUS; simp [← hL]) | (with_reducible apply reg_DRAM_TRAIN_LANE_REPAIRED; simp [← hL]))
    | (with_reducible apply keep_modDram; on_goal 2 => simp [← hP])
    | (with_reducible apply keep_request; on_goal 2 => simp [← hP])
    | (with_reducible apply keep_endRoutine; on_goal 2 => simp [← hP]))

theorem frame_mapLanes (s : State) (channel : Nat) (lanes : Nat) : s.only (State.mapLanes s channel lanes) [.dram] (regsOf ["DRAM_TRAIN", "DRAM_LANE_REPAIRED_CNT"]) := by
  unfold State.mapLanes
  generalize hP : ([.dram] : List Part) = P
  generalize hL : (["DRAM_TRAIN", "DRAM_LANE_REPAIRED_CNT"] : List String) = L
  repeat (first
    | with_reducible assumption
    | with_reducible exact keep_refl _ _ _
    | ((try lift_lets -underBinder); with_reducible intro y; refine cut_at (A := State.only s y P (regsOf L)) ?_ ?_; on_goal 2 => (intro hy; clear_value y)
       unfold y)
    | ((try lift_lets -underBinder); with_reducible intro y; clear_value y)
    | with_reducible apply keep_if
    | (with_reducible apply keep_set; on_goal 2 => first | assumption | (with_reducible apply reg_DRAM_TRAIN_LANE_REPAIRED; simp [← hL]) | (with_reducible apply reg_DRAM_LANE_REPAIRED_CNT_COUNT; simp [← hL]))
    | (with_reducible apply keep_satAdd; on_goal 2 => first | assumption | (with_reducible apply reg_DRAM_TRAIN_LANE_REPAIRED; simp [← hL]) | (with_reducible apply reg_DRAM_LANE_REPAIRED_CNT_COUNT; simp [← hL]))
    | (with_reducible apply keep_modDram; on_goal 2 => simp [← hP]))

theorem frame_trainPc (s : State) (pc : Nat) (failedLanes : Nat) (ok : Bool) : s.only (State.trainPc s pc failedLanes ok) [.reck, .dram] (regsOf ["SYS_FUNC_STATUS", "SYS_FUNC_EVT", "SYS_START_STATUS", "DRAM_TRAIN", "DRAM_STATUS", "DRAM_PC_FAILED_LO", "DRAM_PC_FAILED_HI", "DRAM_LANE_REPAIRED_CNT"]) := by
  unfold State.trainPc
  generalize hP : ([.reck, .dram] : List Part) = P
  generalize hL : (["SYS_FUNC_STATUS", "SYS_FUNC_EVT", "SYS_START_STATUS", "DRAM_TRAIN", "DRAM_STATUS", "DRAM_PC_FAILED_LO", "DRAM_PC_FAILED_HI", "DRAM_LANE_REPAIRED_CNT"] : List String) = L
  repeat (first
    | with_reducible assumption
    | with_reducible exact keep_refl _ _ _
    | ((try lift_lets -underBinder); with_reducible intro y; refine cut_at (A := State.only s y P (regsOf L)) ?_ ?_; on_goal 2 => (intro hy; clear_value y)
       unfold y)
    | ((try lift_lets -underBinder); with_reducible intro y; clear_value y)
    | with_reducible apply keep_if
    | (with_reducible apply keep_set; on_goal 2 => first | assumption | (with_reducible apply reg_SYS_FUNC_EVT_FAILED; simp [← hL]) | (with_reducible apply reg_SYS_START_STATUS_FAILED; simp [← hL]) | (with_reducible apply reg_DRAM_TRAIN_STATUS; simp [← hL]))
    | (with_reducible apply keep_on; on_goal 2 => first | assumption | (with_reducible apply reg_SYS_FUNC_EVT_FAILED; simp [← hL]) | (with_reducible apply reg_SYS_START_STATUS_FAILED; simp [← hL]) | (with_reducible apply reg_DRAM_TRAIN_STATUS; simp [← hL]))
    | (with_reducible apply keep_putBit; on_goal 2 => first | assumption | (with_reducible apply reg_SYS_FUNC_EVT_FAILED; simp [← hL]) | (with_reducible apply reg_SYS_START_STATUS_FAILED; simp [← hL]) | (with_reducible apply reg_DRAM_TRAIN_STATUS; simp [← hL]))
    | (with_reducible apply keep_modDram; on_goal 2 => simp [← hP])
    | (with_reducible apply keep_endRoutine; on_goal 2 => simp [← hP])
    | (with_reducible apply keep_of (frame_mapLanes ..); on_goal 2 => simp [← hP]
       on_goal 2 => simp [← hL])
    | (with_reducible apply keep_of (frame_failPc ..); on_goal 2 => simp [← hP]
       on_goal 2 => simp [← hL])
    | (with_reducible apply keep_of (frame_setFunc ..); on_goal 2 => simp [← hP]
       on_goal 2 => simp [← hL]))

theorem frame_recalPc (s : State) (pc : Nat) : s.only (State.recalPc s pc) [.dram] (regsOf []) := by
  unfold State.recalPc
  generalize hP : ([.dram] : List Part) = P
  generalize hL : ([] : List String) = L
  repeat (first
    | with_reducible exact keep_refl _ _ _
    | with_reducible apply keep_if
    | (with_reducible apply keep_modDram; on_goal 2 => simp [← hP]))

theorem frame_trainRead (s : State) : s.only (State.trainRead s) [.dram] (regsOf []) := by
  unfold State.trainRead
  generalize hP : ([.dram] : List Part) = P
  generalize hL : ([] : List String) = L
  repeat (first
    | with_reducible exact keep_refl _ _ _
    | (with_reducible apply keep_modDram; on_goal 2 => simp [← hP]))

theorem frame_dropReads (s : State) (n : Nat) : s.only (State.dropReads s n) [.host] (regsOf []) := by
  unfold State.dropReads
  generalize hP : ([.host] : List Part) = P
  generalize hL : ([] : List String) = L
  repeat (first
    | with_reducible exact keep_refl _ _ _
    | (with_reducible apply keep_modHost; on_goal 2 => simp [← hP]))

theorem frame_endInject (s : State) (n : Nat) (st : Status) (detail : Nat) : s.only (State.endInject s n st detail) [.events, .host] (regsOf ["RING_CFG", "RING_DEV_INDEX"]) := by
  unfold State.endInject
  generalize hP : ([.events, .host] : List Part) = P
  generalize hL : (["RING_CFG", "RING_DEV_INDEX"] : List String) = L
  repeat (first
    | with_reducible assumption
    | with_reducible exact keep_refl _ _ _
    | ((try lift_lets -underBinder); with_reducible intro y; refine cut_at (A := State.only s y P (regsOf L)) ?_ ?_; on_goal 2 => (intro hy; clear_value y)
       unfold y)
    | ((try lift_lets -underBinder); with_reducible intro y; clear_value y)
    | (with_reducible apply keep_modHost; on_goal 2 => simp [← hP])
    | (with_reducible apply keep_of (frame_postCompletion ..); on_goal 2 => simp [← hP]
       on_goal 2 => simp [← hL])
    | (with_reducible apply keep_of (frame_ringIdle ..); on_goal 2 => simp [← hP]
       on_goal 2 => simp [← hL])
    | (with_reducible apply keep_of (frame_advance ..); on_goal 2 => simp [← hP]
       on_goal 2 => simp [← hL]))

theorem frame_readFailed (s : State) (u : ReadUser) : s.only (State.readFailed s u) [.events, .host] (regsOf ["RING_STATUS", "RING_HALTED_LO", "RING_HALTED_HI", "RING_CFG", "RING_DEV_INDEX"]) := by
  unfold State.readFailed
  generalize hP : ([.events, .host] : List Part) = P
  generalize hL : (["RING_STATUS", "RING_HALTED_LO", "RING_HALTED_HI", "RING_CFG", "RING_DEV_INDEX"] : List String) = L
  repeat (first
    | with_reducible assumption
    | with_reducible exact keep_refl _ _ _
    | ((try lift_lets -underBinder); with_reducible intro y; refine cut_at (A := State.only s y P (regsOf L)) ?_ ?_; on_goal 2 => (intro hy; clear_value y)
       unfold y)
    | with_reducible apply keep_if
    | (with_reducible apply keep_of (frame_setHalted ..); on_goal 2 => simp [← hP]
       on_goal 2 => simp [← hL])
    | (with_reducible apply keep_of (frame_dropReads ..); on_goal 2 => simp [← hP]
       on_goal 2 => simp [← hL])
    | (with_reducible apply keep_of (frame_endInject ..); on_goal 2 => simp [← hP]
       on_goal 2 => simp [← hL])
    | (with_reducible apply keep_of (frame_complete ..); on_goal 2 => simp [← hP]
       on_goal 2 => simp [← hL])
    | split)

theorem frame_readDone (s : State) (u : ReadUser) (data : List Byte) : s.only (State.readDone s u data) [.reck, .host] (regsOf []) := by
  unfold State.readDone
  generalize hP : ([.reck, .host] : List Part) = P
  generalize hL : ([] : List String) = L
  repeat (first
    | with_reducible assumption
    | with_reducible exact keep_refl _ _ _
    | ((try lift_lets -underBinder); with_reducible intro y; refine cut_at (A := State.only s y P (regsOf L)) ?_ ?_; on_goal 2 => (intro hy; clear_value y)
       unfold y)
    | ((try lift_lets -underBinder); with_reducible intro y; clear_value y)
    | with_reducible apply keep_if
    | (with_reducible apply keep_modRing; on_goal 2 => simp [← hP])
    | (with_reducible apply keep_of (frame_inputReady ..); on_goal 2 => simp [← hP]
       on_goal 2 => simp [← hL])
    | split)

theorem frame_hostReply (s : State) (tag : Nat) (status : Nat) (len : Nat) (data : List Byte) : s.only (State.hostReply s tag status len data) [.events, .reck, .host] (regsOf ["HLINK_LATE_REPLY_CNT", "RING_STATUS", "RING_HALTED_LO", "RING_HALTED_HI", "RING_CFG", "RING_DEV_INDEX"]) := by
  unfold State.hostReply
  generalize hP : ([.events, .reck, .host] : List Part) = P
  generalize hL : (["HLINK_LATE_REPLY_CNT", "RING_STATUS", "RING_HALTED_LO", "RING_HALTED_HI", "RING_CFG", "RING_DEV_INDEX"] : List String) = L
  repeat (first
    | with_reducible assumption
    | with_reducible exact keep_refl _ _ _
    | ((try lift_lets -underBinder); with_reducible intro y; refine cut_at (A := State.only s y P (regsOf L)) ?_ ?_; on_goal 2 => (intro hy; clear_value y)
       unfold y)
    | with_reducible apply keep_if
    | (with_reducible apply keep_satAdd; on_goal 2 => first | assumption | (with_reducible apply reg_HLINK_LATE_REPLY_CNT_COUNT; simp [← hL]))
    | (with_reducible apply keep_modHost; on_goal 2 => simp [← hP])
    | (with_reducible apply keep_of (frame_readDone ..); on_goal 2 => simp [← hP]
       on_goal 2 => simp [← hL])
    | (with_reducible apply keep_of (frame_readFailed ..); on_goal 2 => simp [← hP]
       on_goal 2 => simp [← hL])
    | (with_reducible apply keep_of (frame_askReads ..); on_goal 2 => simp [← hP]
       on_goal 2 => simp [← hL])
    | split)

theorem frame_readTimeout (s : State) (tag : Nat) : s.only (State.readTimeout s tag) [.events, .host] (regsOf ["HLINK_STATUS", "HLINK_MEM_TIMEOUT_CNT", "RING_STATUS", "RING_HALTED_LO", "RING_HALTED_HI", "RING_CFG", "RING_DEV_INDEX"]) := by
  unfold State.readTimeout
  generalize hP : ([.events, .host] : List Part) = P
  generalize hL : (["HLINK_STATUS", "HLINK_MEM_TIMEOUT_CNT", "RING_STATUS", "RING_HALTED_LO", "RING_HALTED_HI", "RING_CFG", "RING_DEV_INDEX"] : List String) = L
  repeat (first
    | with_reducible assumption
    | with_reducible exact keep_refl _ _ _
    | ((try lift_lets -underBinder); with_reducible intro y; refine cut_at (A := State.only s y P (regsOf L)) ?_ ?_; on_goal 2 => (intro hy; clear_value y)
       unfold y)
    | with_reducible apply keep_if
    | (with_reducible apply keep_on; on_goal 2 => first | assumption | (with_reducible apply reg_HLINK_MEM_TIMEOUT_CNT_COUNT; simp [← hL]) | (with_reducible apply reg_HLINK_STATUS_MEM_TIMEOUT; simp [← hL]))
    | (with_reducible apply keep_satAdd; on_goal 2 => first | assumption | (with_reducible apply reg_HLINK_MEM_TIMEOUT_CNT_COUNT; simp [← hL]) | (with_reducible apply reg_HLINK_STATUS_MEM_TIMEOUT; simp [← hL]))
    | (with_reducible apply keep_modHost; on_goal 2 => simp [← hP])
    | (with_reducible apply keep_of (frame_askReads ..); on_goal 2 => simp [← hP]
       on_goal 2 => simp [← hL])
    | (with_reducible apply keep_of (frame_readFailed ..); on_goal 2 => simp [← hP]
       on_goal 2 => simp [← hL])
    | split)

theorem frame_flushSweep (v0 : Nat) (s : State) : s.only (flushSweep v0 s) [.host, .dram] (regsOf ["DRAM_STATUS", "DRAM_ERR_LOC", "DRAM_CORR_CNT", "DRAM_UNCORR_CNT", "DRAM_ROW_GUARD_CNT", "RING_DEV_INDEX"]) := by
  induction v0 generalizing s with
  | zero =>
    unfold flushSweep
    generalize hP : ([.host, .dram] : List Part) = P
    generalize hL : (["DRAM_STATUS", "DRAM_ERR_LOC", "DRAM_CORR_CNT", "DRAM_UNCORR_CNT", "DRAM_ROW_GUARD_CNT", "RING_DEV_INDEX"] : List String) = L
    repeat (first
      | with_reducible exact keep_refl _ _ _)
  | succ j ih =>
    unfold flushSweep
    generalize hP : ([.host, .dram] : List Part) = P
    generalize hL : (["DRAM_STATUS", "DRAM_ERR_LOC", "DRAM_CORR_CNT", "DRAM_UNCORR_CNT", "DRAM_ROW_GUARD_CNT", "RING_DEV_INDEX"] : List String) = L
    repeat (first
      | with_reducible assumption
      | with_reducible exact keep_refl _ _ _
      | (dsimp -zeta only)
      | ((try lift_lets -underBinder); with_reducible intro y; refine cut_at (A := State.only s y P (regsOf L)) ?_ ?_; on_goal 2 => (intro hy; clear_value y)
         unfold y)
      | ((try lift_lets -underBinder); with_reducible intro y; clear_value y)
      | with_reducible apply keep_if
      | (with_reducible apply keep_modHost; on_goal 2 => simp [← hP])
      | (with_reducible apply keep_of (ih ..); on_goal 2 => simp [← hP]
         on_goal 2 => simp [← hL])
      | (with_reducible apply keep_of (frame_dramRead ..); on_goal 2 => simp [← hP]
         on_goal 2 => simp [← hL])
      | (with_reducible apply keep_of (frame_uncorrectable ..); on_goal 2 => simp [← hP]
         on_goal 2 => simp [← hL])
      | (with_reducible apply keep_of (frame_ringWrite ..); on_goal 2 => simp [← hP]
         on_goal 2 => simp [← hL])
      | split)

theorem frame_releaseHeld (s : State) (cq : Nat) : s.only (State.releaseHeld s cq) [.events, .host] (regsOf ["RING_DEV_INDEX"]) := by
  unfold State.releaseHeld
  generalize hP : ([.events, .host] : List Part) = P
  generalize hL : (["RING_DEV_INDEX"] : List String) = L
  repeat (first
    | with_reducible assumption
    | with_reducible exact keep_refl _ _ _
    | ((try lift_lets -underBinder); with_reducible intro y; refine cut_at (A := State.only s y P (regsOf L)) ?_ ?_; on_goal 2 => (intro hy; clear_value y)
       unfold y)
    | ((try lift_lets -underBinder); with_reducible intro y; clear_value y)
    | with_reducible refine keep_foldl ?_ (fun u a => ?_)
    | (with_reducible apply keep_modHost; on_goal 2 => simp [← hP])
    | (with_reducible apply keep_of (frame_postCompletion ..); on_goal 2 => simp [← hP]
       on_goal 2 => simp [← hL]))

theorem frame_doorbell (s : State) (n : Nat) (v : Nat) : s.only (State.doorbell s n v) [.host, .dram] (regsOf ["DRAM_STATUS", "DRAM_ERR_LOC", "DRAM_CORR_CNT", "DRAM_UNCORR_CNT", "DRAM_ROW_GUARD_CNT", "RING_STATUS", "RING_BAD_DB_LOC", "RING_BAD_DB_CNT", "RING_DEV_INDEX", "RING_DB"]) := by
  unfold State.doorbell
  generalize hP : ([.host, .dram] : List Part) = P
  generalize hL : (["DRAM_STATUS", "DRAM_ERR_LOC", "DRAM_CORR_CNT", "DRAM_UNCORR_CNT", "DRAM_ROW_GUARD_CNT", "RING_STATUS", "RING_BAD_DB_LOC", "RING_BAD_DB_CNT", "RING_DEV_INDEX", "RING_DB"] : List String) = L
  repeat (first
    | with_reducible assumption
    | with_reducible exact keep_refl _ _ _
    | ((try lift_lets -underBinder); with_reducible intro y; refine cut_at (A := State.only s y P (regsOf L)) ?_ ?_; on_goal 2 => (intro hy; clear_value y)
       unfold y)
    | ((try lift_lets -underBinder); with_reducible intro y; clear_value y)
    | with_reducible apply keep_if
    | (with_reducible apply keep_set; on_goal 2 => first | assumption | (with_reducible apply reg_RING_BAD_DB_CNT_COUNT; simp [← hL]) | (with_reducible apply reg_RING_BAD_DB_LOC_RING; simp [← hL]) | (with_reducible apply reg_RING_STATUS_BAD_DB; simp [← hL]) | (with_reducible apply reg_RING_DB_DOORBELL; simp [← hL]))
    | (with_reducible apply keep_on; on_goal 2 => first | assumption | (with_reducible apply reg_RING_BAD_DB_CNT_COUNT; simp [← hL]) | (with_reducible apply reg_RING_BAD_DB_LOC_RING; simp [← hL]) | (with_reducible apply reg_RING_STATUS_BAD_DB; simp [← hL]) | (with_reducible apply reg_RING_DB_DOORBELL; simp [← hL]))
    | (with_reducible apply keep_satAdd; on_goal 2 => first | assumption | (with_reducible apply reg_RING_BAD_DB_CNT_COUNT; simp [← hL]) | (with_reducible apply reg_RING_BAD_DB_LOC_RING; simp [← hL]) | (with_reducible apply reg_RING_STATUS_BAD_DB; simp [← hL]) | (with_reducible apply reg_RING_DB_DOORBELL; simp [← hL]))
    | (with_reducible apply keep_of (frame_flushSweep ..); on_goal 2 => simp [← hP]
       on_goal 2 => simp [← hL])
    | (with_reducible apply keep_of (frame_fetchNext ..); on_goal 2 => simp [← hP]
       on_goal 2 => simp [← hL]))

theorem frame_takeInject (s : State) (n : Nat) (d : List Byte) : s.only (State.takeInject s n d) [.events, .reck, .host] (regsOf ["RING_CFG", "RING_DEV_INDEX"]) := by
  unfold State.takeInject
  generalize hP : ([.events, .reck, .host] : List Part) = P
  generalize hL : (["RING_CFG", "RING_DEV_INDEX"] : List String) = L
  repeat (first
    | with_reducible assumption
    | with_reducible exact keep_refl _ _ _
    | ((try lift_lets -underBinder); with_reducible intro y; refine cut_at (A := State.only s y P (regsOf L)) ?_ ?_; on_goal 2 => (intro hy; clear_value y)
       unfold y)
    | ((try lift_lets -underBinder); with_reducible intro y; clear_value y)
    | with_reducible apply keep_if
    | (with_reducible apply keep_modRing; on_goal 2 => simp [← hP])
    | (with_reducible apply keep_of (frame_askData ..); on_goal 2 => simp [← hP]
       on_goal 2 => simp [← hL])
    | (with_reducible apply keep_of (frame_endInject ..); on_goal 2 => simp [← hP]
       on_goal 2 => simp [← hL]))

theorem frame_takeDescriptor (s : State) : s.only (State.takeDescriptor s) [.events, .reck, .host] (regsOf ["RING_CFG", "RING_DEV_INDEX"]) := by
  unfold State.takeDescriptor
  generalize hP : ([.events, .reck, .host] : List Part) = P
  generalize hL : (["RING_CFG", "RING_DEV_INDEX"] : List String) = L
  repeat (first
    | with_reducible assumption
    | with_reducible exact keep_refl _ _ _
    | ((try lift_lets -underBinder); with_reducible intro y; refine cut_at (A := State.only s y P (regsOf L)) ?_ ?_; on_goal 2 => (intro hy; clear_value y)
       unfold y)
    | ((try lift_lets -underBinder); with_reducible intro y; clear_value y)
    | with_reducible apply keep_if
    | (with_reducible apply keep_modHost; on_goal 2 => simp [← hP])
    | (with_reducible apply keep_of (frame_takeCommand ..); on_goal 2 => simp [← hP]
       on_goal 2 => simp [← hL])
    | (with_reducible apply keep_of (frame_takeInject ..); on_goal 2 => simp [← hP]
       on_goal 2 => simp [← hL])
    | split)

theorem frame_counterSweep (s : State) (reads : List (Nat × ReadOutcome)) : s.only (State.counterSweep s reads) [.host, .dram] (regsOf ["DRAM_STATUS", "DRAM_ERR_LOC", "DRAM_CORR_CNT", "DRAM_UNCORR_CNT", "DRAM_ROW_GUARD_CNT", "RING_STATUS", "RING_CNT_SKIP_CNT", "RING_DEV_INDEX"]) := by
  unfold State.counterSweep
  generalize hP : ([.host, .dram] : List Part) = P
  generalize hL : (["DRAM_STATUS", "DRAM_ERR_LOC", "DRAM_CORR_CNT", "DRAM_UNCORR_CNT", "DRAM_ROW_GUARD_CNT", "RING_STATUS", "RING_CNT_SKIP_CNT", "RING_DEV_INDEX"] : List String) = L
  repeat (first
    | with_reducible assumption
    | with_reducible exact keep_refl _ _ _
    | ((try lift_lets -underBinder); with_reducible intro y; refine cut_at (A := State.only s y P (regsOf L)) ?_ ?_; on_goal 2 => (intro hy; clear_value y)
       unfold y)
    | ((try lift_lets -underBinder); with_reducible intro y; clear_value y)
    | with_reducible apply keep_if
    | with_reducible refine keep_foldl ?_ (fun u a => ?_)
    | (with_reducible apply keep_on; on_goal 2 => first | assumption | (with_reducible apply reg_RING_CNT_SKIP_CNT_COUNT; simp [← hL]) | (with_reducible apply reg_RING_STATUS_CNT_SKIP; simp [← hL]))
    | (with_reducible apply keep_satAdd; on_goal 2 => first | assumption | (with_reducible apply reg_RING_CNT_SKIP_CNT_COUNT; simp [← hL]) | (with_reducible apply reg_RING_STATUS_CNT_SKIP; simp [← hL]))
    | (with_reducible apply keep_modHost; on_goal 2 => simp [← hP])
    | (with_reducible apply keep_of (frame_dramWrite ..); on_goal 2 => simp [← hP]
       on_goal 2 => simp [← hL])
    | (with_reducible apply keep_of (frame_flushSweep ..); on_goal 2 => simp [← hP]
       on_goal 2 => simp [← hL]))

theorem frame_eventEntry (s : State) : s.only (State.eventEntry s) [.events, .host] (regsOf ["RING_DEV_INDEX"]) := by
  unfold State.eventEntry
  generalize hP : ([.events, .host] : List Part) = P
  generalize hL : (["RING_DEV_INDEX"] : List String) = L
  repeat (first
    | with_reducible assumption
    | with_reducible exact keep_refl _ _ _
    | ((try lift_lets -underBinder); with_reducible intro y; refine cut_at (A := State.only s y P (regsOf L)) ?_ ?_; on_goal 2 => (intro hy; clear_value y)
       unfold y)
    | ((try lift_lets -underBinder); with_reducible intro y; clear_value y)
    | with_reducible apply keep_if
    | (with_reducible apply keep_of (frame_ringWrite ..); on_goal 2 => simp [← hP]
       on_goal 2 => simp [← hL])
    | (fail_if_no_progress (with_reducible apply keep_at_events; on_goal 2 => simp [← hP]))
    | split)

theorem frame_keepalive (s : State) : s.only (State.keepalive s) [.events, .host] (regsOf ["RING_DEV_INDEX", "EVT_KEEPALIVE_CNT"]) := by
  unfold State.keepalive
  generalize hP : ([.events, .host] : List Part) = P
  generalize hL : (["RING_DEV_INDEX", "EVT_KEEPALIVE_CNT"] : List String) = L
  repeat (first
    | with_reducible assumption
    | with_reducible exact keep_refl _ _ _
    | ((try lift_lets -underBinder); with_reducible intro y; refine cut_at (A := State.only s y P (regsOf L)) ?_ ?_; on_goal 2 => (intro hy; clear_value y)
       unfold y)
    | ((try lift_lets -underBinder); with_reducible intro y; clear_value y)
    | with_reducible apply keep_if
    | (with_reducible apply keep_satAdd; on_goal 2 => first | assumption | (with_reducible apply reg_EVT_KEEPALIVE_CNT_COUNT; simp [← hL]))
    | (with_reducible apply keep_restartKeepalive; on_goal 2 => simp [← hP])
    | (with_reducible apply keep_of (frame_ringWrite ..); on_goal 2 => simp [← hP]
       on_goal 2 => simp [← hL]))

theorem frame_dropDescriptorRead (s : State) (n : Nat) : s.only (State.dropDescriptorRead s n) [.host] (regsOf []) := by
  unfold State.dropDescriptorRead
  generalize hP : ([.host] : List Part) = P
  generalize hL : ([] : List String) = L
  repeat (first
    | with_reducible exact keep_refl _ _ _
    | (with_reducible apply keep_modHost; on_goal 2 => simp [← hP]))

theorem frame_dropInject (s : State) (n : Nat) : s.only (State.dropInject s n) [.host] (regsOf []) := by
  unfold State.dropInject
  generalize hP : ([.host] : List Part) = P
  generalize hL : ([] : List String) = L
  repeat (first
    | with_reducible exact keep_refl _ _ _
    | (with_reducible apply keep_modRing; on_goal 2 => simp [← hP])
    | (with_reducible apply keep_of (frame_dropReads ..); on_goal 2 => simp [← hP]
       on_goal 2 => simp [← hL])
    | split)

theorem frame_enableRing (s : State) (n : Nat) : s.only (State.enableRing s n) [.events, .host] (regsOf ["RING_CFG", "RING_DEV_INDEX", "RING_DB"]) := by
  unfold State.enableRing
  generalize hP : ([.events, .host] : List Part) = P
  generalize hL : (["RING_CFG", "RING_DEV_INDEX", "RING_DB"] : List String) = L
  repeat (first
    | with_reducible assumption
    | with_reducible exact keep_refl _ _ _
    | ((try lift_lets -underBinder); with_reducible intro y; refine cut_at (A := State.only s y P (regsOf L)) ?_ ?_; on_goal 2 => (intro hy; clear_value y)
       unfold y)
    | with_reducible apply keep_if
    | (with_reducible apply keep_off; on_goal 2 => first | assumption | (with_reducible apply reg_RING_DEV_INDEX_DEV_INDEX; simp [← hL]) | (with_reducible apply reg_RING_DB_DOORBELL; simp [← hL]) | (with_reducible apply reg_RING_CFG_STOPPED; simp [← hL]))
    | (with_reducible apply keep_modHost; on_goal 2 => simp [← hP])
    | (with_reducible apply keep_modRing; on_goal 2 => simp [← hP])
    | (with_reducible apply keep_of (frame_dropDescriptorRead ..); on_goal 2 => simp [← hP]
       on_goal 2 => simp [← hL])
    | (with_reducible apply keep_of (frame_dropInject ..); on_goal 2 => simp [← hP]
       on_goal 2 => simp [← hL])
    | (with_reducible apply keep_of (frame_releaseHeld ..); on_goal 2 => simp [← hP]
       on_goal 2 => simp [← hL]))

theorem frame_ringEffect (old : State) (s : State) (off : Nat) (v : Nat) : s.only (ringEffect old s off v) [.events, .host] (regsOf ["RING_STATUS", "RING_HALTED_LO", "RING_HALTED_HI", "RING_CFG", "RING_DEV_INDEX", "RING_DB"]) := by
  unfold ringEffect
  generalize hP : ([.events, .host] : List Part) = P
  generalize hL : (["RING_STATUS", "RING_HALTED_LO", "RING_HALTED_HI", "RING_CFG", "RING_DEV_INDEX", "RING_DB"] : List String) = L
  repeat (first
    | with_reducible exact keep_refl _ _ _
    | ((try lift_lets -underBinder); with_reducible intro y; clear_value y)
    | with_reducible apply keep_if
    | (with_reducible apply keep_on; on_goal 2 => first | assumption | (with_reducible apply reg_RING_CFG_STOPPED; simp [← hL]))
    | (with_reducible apply keep_modHost; on_goal 2 => simp [← hP])
    | (with_reducible apply keep_modRing; on_goal 2 => simp [← hP])
    | (with_reducible apply keep_of (frame_fetchNext ..); on_goal 2 => simp [← hP]
       on_goal 2 => simp [← hL])
    | (with_reducible apply keep_of (frame_setHalted ..); on_goal 2 => simp [← hP]
       on_goal 2 => simp [← hL])
    | (with_reducible apply keep_of (frame_enableRing ..); on_goal 2 => simp [← hP]
       on_goal 2 => simp [← hL]))

theorem frame_evtEffect (old : State) (s : State) (off : Nat) (v : Nat) : s.only (evtEffect old s off v) [.events] (regsOf []) := by
  unfold evtEffect
  generalize hP : ([.events] : List Part) = P
  generalize hL : ([] : List String) = L
  repeat (first
    | with_reducible exact keep_refl _ _ _
    | ((try lift_lets -underBinder); with_reducible intro y; clear_value y)
    | with_reducible apply keep_if
    | with_reducible refine keep_foldl ?_ (fun u a => ?_)
    | (with_reducible apply keep_restartKeepalive; on_goal 2 => simp [← hP])
    | (with_reducible apply keep_of (frame_report ..); on_goal 2 => simp [← hP]
       on_goal 2 => simp [← hL]))

theorem frame_setLink (s : State) (st : Nat) : s.only (State.setLink s st) [] (regsOf ["SYS_START_STATUS", "HLINK_STATUS"]) := by
  unfold State.setLink
  generalize hP : ([] : List Part) = P
  generalize hL : (["SYS_START_STATUS", "HLINK_STATUS"] : List String) = L
  repeat (first
    | with_reducible assumption
    | with_reducible exact keep_refl _ _ _
    | ((try lift_lets -underBinder); with_reducible intro y; refine cut_at (A := State.only s y P (regsOf L)) ?_ ?_; on_goal 2 => (intro hy; clear_value y)
       unfold y)
    | (with_reducible apply keep_set; on_goal 2 => first | assumption | (with_reducible apply reg_SYS_START_STATUS_LINK_ACTIVE; simp [← hL]) | (with_reducible apply reg_HLINK_STATUS_STATE; simp [← hL]))
    | (with_reducible apply keep_setB; on_goal 2 => first | assumption | (with_reducible apply reg_SYS_START_STATUS_LINK_ACTIVE; simp [← hL]) | (with_reducible apply reg_HLINK_STATUS_STATE; simp [← hL])))

theorem frame_trainAt (s : State) (rate : Nat) : s.only (State.trainAt s rate) [.host] (regsOf ["SYS_START_STATUS", "HLINK_STATUS"]) := by
  unfold State.trainAt
  generalize hP : ([.host] : List Part) = P
  generalize hL : (["SYS_START_STATUS", "HLINK_STATUS"] : List String) = L
  repeat (first
    | with_reducible exact keep_refl _ _ _
    | (with_reducible apply keep_set; on_goal 2 => first | assumption | (with_reducible apply reg_HLINK_STATUS_RATE; simp [← hL]))
    | (with_reducible apply keep_modHost; on_goal 2 => simp [← hP])
    | (with_reducible apply keep_of (frame_setLink ..); on_goal 2 => simp [← hP]
       on_goal 2 => simp [← hL]))

theorem frame_trainingFailed (s : State) : s.only (State.trainingFailed s) [.host] (regsOf ["SYS_START_STATUS", "HLINK_STATUS"]) := by
  unfold State.trainingFailed
  generalize hP : ([.host] : List Part) = P
  generalize hL : (["SYS_START_STATUS", "HLINK_STATUS"] : List String) = L
  repeat (first
    | with_reducible exact keep_refl _ _ _
    | ((try lift_lets -underBinder); with_reducible intro y; refine cut_at (A := ∀ u : State, u.only (y u) P (regsOf L)) ?_ ?_; on_goal 2 => (intro hy; clear_value y)
       (intro u; unfold y; beta_reduce))
    | with_reducible apply keep_if
    | (with_reducible apply keep_modHost; on_goal 2 => simp [← hP])
    | (with_reducible apply keep_of (frame_setLink ..); on_goal 2 => simp [← hP]
       on_goal 2 => simp [← hL])
    | (with_reducible apply keep_of (frame_trainAt ..); on_goal 2 => simp [← hP]
       on_goal 2 => simp [← hL])
    | with_reducible refine only_then ?_ (‹∀ u : State, State.only u _ _ _› _))

theorem frame_linkTraining (s : State) (ok : Bool) : s.only (State.linkTraining s ok) [.host] (regsOf ["SYS_START_STATUS", "HLINK_STATUS"]) := by
  unfold State.linkTraining
  generalize hP : ([.host] : List Part) = P
  generalize hL : (["SYS_START_STATUS", "HLINK_STATUS"] : List String) = L
  repeat (first
    | with_reducible assumption
    | with_reducible exact keep_refl _ _ _
    | ((try lift_lets -underBinder); with_reducible intro y; refine cut_at (A := State.only s y P (regsOf L)) ?_ ?_; on_goal 2 => (intro hy; clear_value y)
       unfold y)
    | ((try lift_lets -underBinder); with_reducible intro y; clear_value y)
    | with_reducible apply keep_if
    | (with_reducible apply keep_of (frame_trainAt ..); on_goal 2 => simp [← hP]
       on_goal 2 => simp [← hL])
    | (with_reducible apply keep_of (frame_trainingFailed ..); on_goal 2 => simp [← hP]
       on_goal 2 => simp [← hL]))

theorem frame_linkUp (s : State) (repaired : Bool) : s.only (State.linkUp s repaired) [.host] (regsOf ["SYS_START_STATUS", "HLINK_STATUS"]) := by
  unfold State.linkUp
  generalize hP : ([.host] : List Part) = P
  generalize hL : (["SYS_START_STATUS", "HLINK_STATUS"] : List String) = L
  repeat (first
    | with_reducible assumption
    | with_reducible exact keep_refl _ _ _
    | ((try lift_lets -underBinder); with_reducible intro y; refine cut_at (A := State.only s y P (regsOf L)) ?_ ?_; on_goal 2 => (intro hy; clear_value y)
       unfold y)
    | ((try lift_lets -underBinder); with_reducible intro y; clear_value y)
    | with_reducible apply keep_if
    | (with_reducible apply keep_setB; on_goal 2 => first | assumption | (with_reducible apply reg_HLINK_STATUS_REPAIRED; simp [← hL]))
    | (with_reducible apply keep_modHost; on_goal 2 => simp [← hP])
    | (with_reducible apply keep_of (frame_resume ..); on_goal 2 => simp [← hP]
       on_goal 2 => simp [← hL])
    | (with_reducible apply keep_of (frame_setLink ..); on_goal 2 => simp [← hP]
       on_goal 2 => simp [← hL]))

theorem frame_linkRestart (s : State) : s.only (State.linkRestart s) [.host] (regsOf ["SYS_START_STATUS", "HLINK_STATUS"]) := by
  unfold State.linkRestart
  generalize hP : ([.host] : List Part) = P
  generalize hL : (["SYS_START_STATUS", "HLINK_STATUS"] : List String) = L
  repeat (first
    | with_reducible exact keep_refl _ _ _
    | with_reducible apply keep_if
    | (with_reducible apply keep_of (frame_trainAt ..); on_goal 2 => simp [← hP]
       on_goal 2 => simp [← hL]))

theorem frame_linkRetrain (s : State) (retries : Nat) (phyError : Bool) : s.only (State.linkRetrain s retries phyError) [.host] (regsOf ["SYS_START_STATUS", "HLINK_STATUS", "HLINK_CRC_RETRY_CNT", "HLINK_RETRAIN_CNT"]) := by
  unfold State.linkRetrain
  generalize hP : ([.host] : List Part) = P
  generalize hL : (["SYS_START_STATUS", "HLINK_STATUS", "HLINK_CRC_RETRY_CNT", "HLINK_RETRAIN_CNT"] : List String) = L
  repeat (first
    | with_reducible assumption
    | with_reducible exact keep_refl _ _ _
    | ((try lift_lets -underBinder); with_reducible intro y; refine cut_at (A := State.only s y P (regsOf L)) ?_ ?_; on_goal 2 => (intro hy; clear_value y)
       unfold y)
    | ((try lift_lets -underBinder); with_reducible intro y; clear_value y)
    | with_reducible apply keep_if
    | (with_reducible apply keep_set; on_goal 2 => first | assumption | (with_reducible apply reg_HLINK_STATUS_RATE; simp [← hL]) | (with_reducible apply reg_HLINK_RETRAIN_CNT_COUNT; simp [← hL]) | (with_reducible apply reg_HLINK_STATUS_RETRAINED; simp [← hL]) | (with_reducible apply reg_HLINK_CRC_RETRY_CNT_COUNT; simp [← hL]))
    | (with_reducible apply keep_on; on_goal 2 => first | assumption | (with_reducible apply reg_HLINK_STATUS_RATE; simp [← hL]) | (with_reducible apply reg_HLINK_RETRAIN_CNT_COUNT; simp [← hL]) | (with_reducible apply reg_HLINK_STATUS_RETRAINED; simp [← hL]) | (with_reducible apply reg_HLINK_CRC_RETRY_CNT_COUNT; simp [← hL]))
    | (with_reducible apply keep_satAdd; on_goal 2 => first | assumption | (with_reducible apply reg_HLINK_STATUS_RATE; simp [← hL]) | (with_reducible apply reg_HLINK_RETRAIN_CNT_COUNT; simp [← hL]) | (with_reducible apply reg_HLINK_STATUS_RETRAINED; simp [← hL]) | (with_reducible apply reg_HLINK_CRC_RETRY_CNT_COUNT; simp [← hL]))
    | (with_reducible apply keep_modHost; on_goal 2 => simp [← hP])
    | (with_reducible apply keep_of (frame_setLink ..); on_goal 2 => simp [← hP]
       on_goal 2 => simp [← hL]))

theorem frame_hostLost (s : State) : s.only (State.hostLost s) [.events, .host, .pair] (regsOf ["HLINK_STATUS", "RING_STATUS", "RING_HALTED_LO", "RING_HALTED_HI", "RING_CFG", "RING_DEV_INDEX", "PAIR_STATUS"]) := by
  unfold State.hostLost
  generalize hP : ([.events, .host, .pair] : List Part) = P
  generalize hL : (["HLINK_STATUS", "RING_STATUS", "RING_HALTED_LO", "RING_HALTED_HI", "RING_CFG", "RING_DEV_INDEX", "PAIR_STATUS"] : List String) = L
  repeat (first
    | with_reducible assumption
    | with_reducible exact keep_refl _ _ _
    | ((try lift_lets -underBinder); with_reducible intro y; refine cut_at (A := State.only s y P (regsOf L)) ?_ ?_; on_goal 2 => (intro hy; clear_value y)
       unfold y)
    | ((try lift_lets -underBinder); with_reducible intro y; clear_value y)
    | with_reducible apply keep_if
    | with_reducible refine keep_foldl ?_ (fun u a => ?_)
    | (with_reducible apply keep_set; on_goal 2 => first | assumption | (with_reducible apply reg_PAIR_STATUS_STATE; simp [← hL]) | (with_reducible apply reg_PAIR_STATUS_ROLE_CHG; simp [← hL]) | (with_reducible apply reg_PAIR_STATUS_HOLD_OUT; simp [← hL]) | (with_reducible apply reg_HLINK_STATUS_HOST_LOST; simp [← hL]))
    | (with_reducible apply keep_on; on_goal 2 => first | assumption | (with_reducible apply reg_PAIR_STATUS_STATE; simp [← hL]) | (with_reducible apply reg_PAIR_STATUS_ROLE_CHG; simp [← hL]) | (with_reducible apply reg_PAIR_STATUS_HOLD_OUT; simp [← hL]) | (with_reducible apply reg_HLINK_STATUS_HOST_LOST; simp [← hL]))
    | (with_reducible apply keep_off; on_goal 2 => first | assumption | (with_reducible apply reg_PAIR_STATUS_STATE; simp [← hL]) | (with_reducible apply reg_PAIR_STATUS_ROLE_CHG; simp [← hL]) | (with_reducible apply reg_PAIR_STATUS_HOLD_OUT; simp [← hL]) | (with_reducible apply reg_HLINK_STATUS_HOST_LOST; simp [← hL]))
    | (with_reducible apply keep_modHost; on_goal 2 => simp [← hP])
    | (with_reducible apply keep_modPair; on_goal 2 => simp [← hP])
    | (with_reducible apply keep_of (frame_readFailed ..); on_goal 2 => simp [← hP]
       on_goal 2 => simp [← hL]))

theorem frame_modReck (s : State) (f : ReckSt → ReckSt) : s.only (State.modReck s f) [.reck] (regsOf []) := by
  unfold State.modReck
  generalize hP : ([.reck] : List Part) = P
  generalize hL : ([] : List String) = L
  repeat (first
    | with_reducible exact keep_refl _ _ _
    | (fail_if_no_progress (with_reducible apply keep_at_reck; on_goal 2 => simp [← hP])))

theorem frame_syncEngines (s : State) : s.only (State.syncEngines s) [] (regsOf ["RCK_ENG_STATUS"]) := by
  unfold State.syncEngines
  generalize hP : ([] : List Part) = P
  generalize hL : (["RCK_ENG_STATUS"] : List String) = L
  repeat (first
    | with_reducible exact keep_refl _ _ _
    | ((try lift_lets -underBinder); with_reducible intro y; refine cut_at (A := ∀ a b c d, State.only u (y a b c d) P (regsOf L)) ?_ ?_; on_goal 2 => (intro hy; clear_value y)
       (intro a b c d; unfold y; beta_reduce))
    | ((try lift_lets -underBinder); with_reducible intro y; clear_value y)
    | with_reducible refine keep_foldl ?_ (fun u a => ?_)
    | (with_reducible apply keep_set; on_goal 2 => first | assumption | (with_reducible apply reg_RCK_ENG_STATUS_STATE; simp [← hL]) | (with_reducible apply reg_RCK_ENG_STATUS_PATCHED; simp [← hL]) | (with_reducible apply reg_RCK_ENG_STATUS_ROUTINE; simp [← hL]) | (with_reducible apply reg_RCK_ENG_STATUS_CHECKPOINTS; simp [← hL]) | (with_reducible apply reg_RCK_ENG_STATUS_SUSPENDED; simp [← hL]))
    | with_reducible exact (‹∀ (_ : _) (_ : _) (_ : _) (_ : _), State.only _ _ P _› _ _ _ _)
    | split)

theorem frame_place (s : State) (e : Nat) (r : Routine) (fresh : Bool) : s.only (State.place s e r fresh) [.reck] (regsOf ["RCK_ENG_STATUS"]) := by
  unfold State.place
  generalize hP : ([.reck] : List Part) = P
  generalize hL : (["RCK_ENG_STATUS"] : List String) = L
  repeat (first
    | with_reducible exact keep_refl _ _ _
    | ((try lift_lets -underBinder); with_reducible intro y; clear_value y)
    | (with_reducible apply keep_modReck; on_goal 2 => simp [← hP])
    | (with_reducible apply keep_of (frame_syncEngines ..); on_goal 2 => simp [← hP]
       on_goal 2 => simp [← hL]))

theorem frame_startRoutine (s : State) : s.only (State.startRoutine s) [.reck] (regsOf ["RCK_ENG_STATUS"]) := by
  unfold State.startRoutine
  generalize hP : ([.reck] : List Part) = P
  generalize hL : (["RCK_ENG_STATUS"] : List String) = L
  repeat (first
    | with_reducible exact keep_refl _ _ _
    | (with_reducible apply keep_of (frame_place ..); on_goal 2 => simp [← hP]
       on_goal 2 => simp [← hL])
    | split)

theorem frame_suspend (s : State) (e : Nat) (r : Routine) : s.only (State.suspend s e r) [.reck] (regsOf ["RCK_ENG_STATUS"]) := by
  unfold State.suspend
  generalize hP : ([.reck] : List Part) = P
  generalize hL : (["RCK_ENG_STATUS"] : List String) = L
  repeat (first
    | with_reducible exact keep_refl _ _ _
    | (with_reducible apply keep_modReck; on_goal 2 => simp [← hP])
    | (with_reducible apply keep_of (frame_syncEngines ..); on_goal 2 => simp [← hP]
       on_goal 2 => simp [← hL]))

theorem frame_giveWay (s : State) (e : Nat) : s.only (State.giveWay s e) [.reck] (regsOf ["RCK_PREEMPT_CNT", "RCK_ENG_STATUS"]) := by
  unfold State.giveWay
  generalize hP : ([.reck] : List Part) = P
  generalize hL : (["RCK_PREEMPT_CNT", "RCK_ENG_STATUS"] : List String) = L
  repeat (first
    | with_reducible exact keep_refl _ _ _
    | (with_reducible apply keep_satAdd; on_goal 2 => first | assumption | (with_reducible apply reg_RCK_PREEMPT_CNT_COUNT; simp [← hL]))
    | (with_reducible apply keep_of (frame_place ..); on_goal 2 => simp [← hP]
       on_goal 2 => simp [← hL])
    | (with_reducible apply keep_of (frame_suspend ..); on_goal 2 => simp [← hP]
       on_goal 2 => simp [← hL])
    | split)

theorem frame_countCheckpoint (s : State) (e : Nat) (progress : Nat) : s.only (State.countCheckpoint s e progress) [.reck] (regsOf ["RCK_ENG_STATUS"]) := by
  unfold State.countCheckpoint
  generalize hP : ([.reck] : List Part) = P
  generalize hL : (["RCK_ENG_STATUS"] : List String) = L
  repeat (first
    | with_reducible exact keep_refl _ _ _
    | ((try lift_lets -underBinder); with_reducible intro y; clear_value y)
    | (with_reducible apply keep_modReck; on_goal 2 => simp [← hP])
    | (with_reducible apply keep_of (frame_syncEngines ..); on_goal 2 => simp [← hP]
       on_goal 2 => simp [← hL])
    | split)

theorem frame_haltEngine (s : State) (e : Nat) : s.only (State.haltEngine s e) [.events, .reck, .host] (regsOf ["RING_CFG", "RING_DEV_INDEX", "RCK_STATUS", "RCK_ENG_STATUS"]) := by
  unfold State.haltEngine
  generalize hP : ([.events, .reck, .host] : List Part) = P
  generalize hL : (["RING_CFG", "RING_DEV_INDEX", "RCK_STATUS", "RCK_ENG_STATUS"] : List String) = L
  repeat (first
    | with_reducible assumption
    | with_reducible exact keep_refl _ _ _
    | ((try lift_lets -underBinder); with_reducible intro y; refine cut_at (A := State.only s y P (regsOf L)) ?_ ?_; on_goal 2 => (intro hy; clear_value y)
       unfold y)
    | ((try lift_lets -underBinder); with_reducible intro y; clear_value y)
    | with_reducible apply keep_if
    | (with_reducible apply keep_putBit; on_goal 2 => first | assumption | (with_reducible apply reg_RCK_STATUS_HALTED; simp [← hL]))
    | (with_reducible apply keep_modReck; on_goal 2 => simp [← hP])
    | (with_reducible apply keep_of (frame_syncEngines ..); on_goal 2 => simp [← hP]
       on_goal 2 => simp [← hL])
    | (with_reducible apply keep_of (frame_complete ..); on_goal 2 => simp [← hP]
       on_goal 2 => simp [← hL])
    | split)

theorem frame_patchDone (s : State) : s.only (State.patchDone s) [.reck] (regsOf ["SYS_START_STATUS", "RCK_STATUS", "RCK_PATCH_STATUS", "RCK_PATCH_VER", "RCK_PATCH_DIGEST"]) := by
  unfold State.patchDone
  generalize hP : ([.reck] : List Part) = P
  generalize hL : (["SYS_START_STATUS", "RCK_STATUS", "RCK_PATCH_STATUS", "RCK_PATCH_VER", "RCK_PATCH_DIGEST"] : List String) = L
  repeat (first
    | with_reducible assumption
    | with_reducible exact keep_refl _ _ _
    | ((try lift_lets -underBinder); with_reducible intro y; refine cut_at (A := State.only s y P (regsOf L)) ?_ ?_; on_goal 2 => (intro hy; clear_value y)
       unfold y)
    | ((try lift_lets -underBinder); with_reducible intro y; clear_value y)
    | with_reducible refine keep_foldl ?_ (fun u a => ?_)
    | (with_reducible apply keep_set; on_goal 2 => first | assumption | (with_reducible apply reg_RCK_PATCH_STATUS_STATE; simp [← hL]) | (with_reducible apply reg_RCK_PATCH_STATUS_REASON; simp [← hL]) | (with_reducible apply reg_RCK_PATCH_STATUS_MATCHES; simp [← hL]) | (with_reducible apply reg_RCK_PATCH_STATUS_WORDS; simp [← hL]) | (with_reducible apply reg_RCK_PATCH_VER_PATCH_VER; simp [← hL]) | (with_reducible apply reg_RCK_PATCH_DIGEST_DIGEST; simp [← hL]) | (with_reducible apply reg_RCK_STATUS_PATCH_EVT; simp [← hL]) | (with_reducible apply reg_SYS_START_STATUS_PATCH_SETTLED; simp [← hL]))
    | (with_reducible apply keep_on; on_goal 2 => first | assumption | (with_reducible apply reg_RCK_PATCH_STATUS_STATE; simp [← hL]) | (with_reducible apply reg_RCK_PATCH_STATUS_REASON; simp [← hL]) | (with_reducible apply reg_RCK_PATCH_STATUS_MATCHES; simp [← hL]) | (with_reducible apply reg_RCK_PATCH_STATUS_WORDS; simp [← hL]) | (with_reducible apply reg_RCK_PATCH_VER_PATCH_VER; simp [← hL]) | (with_reducible apply reg_RCK_PATCH_DIGEST_DIGEST; simp [← hL]) | (with_reducible apply reg_RCK_STATUS_PATCH_EVT; simp [← hL]) | (with_reducible apply reg_SYS_START_STATUS_PATCH_SETTLED; simp [← hL]))
    | (with_reducible apply keep_modReck; on_goal 2 => simp [← hP])
    | split)

theorem frame_rckEffect (s : State) (off : Nat) (v : Nat) : s.only (rckEffect s off v) [.reck] (regsOf ["RCK_PATCH_STATUS"]) := by
  unfold rckEffect
  generalize hP : ([.reck] : List Part) = P
  generalize hL : (["RCK_PATCH_STATUS"] : List String) = L
  repeat (first
    | with_reducible exact keep_refl _ _ _
    | with_reducible apply keep_if
    | (with_reducible apply keep_set; on_goal 2 => first | assumption | (with_reducible apply reg_RCK_PATCH_STATUS_STATE; simp [← hL]) | (with_reducible apply reg_RCK_PATCH_STATUS_REASON; simp [← hL]))
    | (with_reducible apply keep_modReck; on_goal 2 => simp [← hP]))

theorem frame_modSec (s : State) (f : SecSt → SecSt) : s.only (State.modSec s f) [.sec] (regsOf []) := by
  unfold State.modSec
  generalize hP : ([.sec] : List Part) = P
  generalize hL : ([] : List String) = L
  repeat (first
    | with_reducible exact keep_refl _ _ _
    | (fail_if_no_progress (with_reducible apply keep_at_sec; on_goal 2 => simp [← hP])))

theorem frame_syncFuses (s : State) : s.only (State.syncFuses s) [] (regsOf ["SEC_LIFECYCLE", "SEC_DEVICE_ID_LO", "SEC_DEVICE_ID_HI"]) := by
  unfold State.syncFuses
  generalize hP : ([] : List Part) = P
  generalize hL : (["SEC_LIFECYCLE", "SEC_DEVICE_ID_LO", "SEC_DEVICE_ID_HI"] : List String) = L
  repeat (first
    | with_reducible exact keep_refl _ _ _
    | (with_reducible apply keep_set; on_goal 2 => first | assumption | (with_reducible apply reg_SEC_LIFECYCLE_STATE; simp [← hL]) | (with_reducible apply reg_SEC_LIFECYCLE_OWNER_DEBUG_ONLY; simp [← hL]) | (with_reducible apply reg_SEC_LIFECYCLE_SVN_MIN; simp [← hL]) | (with_reducible apply reg_SEC_DEVICE_ID_LO_ID; simp [← hL]) | (with_reducible apply reg_SEC_DEVICE_ID_HI_ID; simp [← hL]))
    | (with_reducible apply keep_setB; on_goal 2 => first | assumption | (with_reducible apply reg_SEC_LIFECYCLE_STATE; simp [← hL]) | (with_reducible apply reg_SEC_LIFECYCLE_OWNER_DEBUG_ONLY; simp [← hL]) | (with_reducible apply reg_SEC_LIFECYCLE_SVN_MIN; simp [← hL]) | (with_reducible apply reg_SEC_DEVICE_ID_LO_ID; simp [← hL]) | (with_reducible apply reg_SEC_DEVICE_ID_HI_ID; simp [← hL])))

theorem frame_drawChallenge (s : State) : s.only (State.drawChallenge s) [.sec] (regsOf ["SEC_DEBUG_CHALLENGE"]) := by
  unfold State.drawChallenge
  generalize hP : ([.sec] : List Part) = P
  generalize hL : (["SEC_DEBUG_CHALLENGE"] : List String) = L
  repeat (first
    | with_reducible assumption
    | with_reducible exact keep_refl _ _ _
    | ((try lift_lets -underBinder); with_reducible intro y; refine cut_at (A := State.only s y P (regsOf L)) ?_ ?_; on_goal 2 => (intro hy; clear_value y)
       unfold y)
    | ((try lift_lets -underBinder); with_reducible intro y; clear_value y)
    | with_reducible refine keep_foldl ?_ (fun u a => ?_)
    | (with_reducible apply keep_set; on_goal 2 => first | assumption | (with_reducible apply reg_SEC_DEBUG_CHALLENGE_CHALLENGE; simp [← hL]))
    | (with_reducible apply keep_modSec; on_goal 2 => simp [← hP]))

theorem frame_applyOp (s : State) (op : Nat × List Byte) : s.only (State.applyOp s op) [.sec] (regsOf []) := by
  unfold State.applyOp
  generalize hP : ([.sec] : List Part) = P
  generalize hL : ([] : List String) = L
  repeat (first
    | with_reducible exact keep_refl _ _ _
    | (with_reducible apply keep_modSec; on_goal 2 => simp [← hP])
    | split)

theorem frame_bundleLoad (s : State) : s.only (State.bundleLoad s) [.sec] (regsOf ["SEC_STATUS", "SEC_BUNDLE_STATUS"]) := by
  unfold State.bundleLoad
  generalize hP : ([.sec] : List Part) = P
  generalize hL : (["SEC_STATUS", "SEC_BUNDLE_STATUS"] : List String) = L
  repeat (first
    | with_reducible assumption
    | with_reducible exact keep_refl _ _ _
    | ((try lift_lets -underBinder); with_reducible intro y; refine cut_at (A := State.only s y P (regsOf L)) ?_ ?_; on_goal 2 => (intro hy; clear_value y)
       unfold y)
    | ((try lift_lets -underBinder); with_reducible intro y; clear_value y)
    | with_reducible apply keep_if
    | (with_reducible apply keep_set; on_goal 2 => first | assumption | (with_reducible apply reg_SEC_BUNDLE_STATUS_STATE; simp [← hL]) | (with_reducible apply reg_SEC_BUNDLE_STATUS_REASON; simp [← hL]) | (with_reducible apply reg_SEC_STATUS_BUNDLE; simp [← hL]) | (with_reducible apply reg_SEC_BUNDLE_STATUS_OPS_DONE; simp [← hL]))
    | (with_reducible apply keep_on; on_goal 2 => first | assumption | (with_reducible apply reg_SEC_BUNDLE_STATUS_STATE; simp [← hL]) | (with_reducible apply reg_SEC_BUNDLE_STATUS_REASON; simp [← hL]) | (with_reducible apply reg_SEC_STATUS_BUNDLE; simp [← hL]) | (with_reducible apply reg_SEC_BUNDLE_STATUS_OPS_DONE; simp [← hL]))
    | (with_reducible apply keep_modSec; on_goal 2 => simp [← hP]))

theorem frame_bundleDone (s : State) : s.only (State.bundleDone s) [.sec] (regsOf ["SEC_LIFECYCLE", "SEC_DEVICE_ID_LO", "SEC_DEVICE_ID_HI", "SEC_STATUS", "SEC_BUNDLE_STATUS"]) := by
  unfold State.bundleDone
  generalize hP : ([.sec] : List Part) = P
  generalize hL : (["SEC_LIFECYCLE", "SEC_DEVICE_ID_LO", "SEC_DEVICE_ID_HI", "SEC_STATUS", "SEC_BUNDLE_STATUS"] : List String) = L
  repeat (first
    | with_reducible assumption
    | with_reducible exact keep_refl _ _ _
    | ((try lift_lets -underBinder); with_reducible intro y; refine cut_at (A := State.only s y P (regsOf L)) ?_ ?_; on_goal 2 => (intro hy; clear_value y)
       unfold y)
    | ((try lift_lets -underBinder); with_reducible intro y; clear_value y)
    | with_reducible apply keep_if
    | with_reducible refine keep_foldl ?_ (fun u a => ?_)
    | (with_reducible apply keep_set; on_goal 2 => first | assumption | (with_reducible apply reg_SEC_BUNDLE_STATUS_STATE; simp [← hL]) | (with_reducible apply reg_SEC_BUNDLE_STATUS_OPS_DONE; simp [← hL]) | (with_reducible apply reg_SEC_STATUS_BUNDLE; simp [← hL]) | (with_reducible apply reg_SEC_LIFECYCLE_ID_OK; simp [← hL]))
    | (with_reducible apply keep_on; on_goal 2 => first | assumption | (with_reducible apply reg_SEC_BUNDLE_STATUS_STATE; simp [← hL]) | (with_reducible apply reg_SEC_BUNDLE_STATUS_OPS_DONE; simp [← hL]) | (with_reducible apply reg_SEC_STATUS_BUNDLE; simp [← hL]) | (with_reducible apply reg_SEC_LIFECYCLE_ID_OK; simp [← hL]))
    | (with_reducible apply keep_off; on_goal 2 => first | assumption | (with_reducible apply reg_SEC_BUNDLE_STATUS_STATE; simp [← hL]) | (with_reducible apply reg_SEC_BUNDLE_STATUS_OPS_DONE; simp [← hL]) | (with_reducible apply reg_SEC_STATUS_BUNDLE; simp [← hL]) | (with_reducible apply reg_SEC_LIFECYCLE_ID_OK; simp [← hL]))
    | (with_reducible apply keep_modSec; on_goal 2 => simp [← hP])
    | (with_reducible apply keep_of (frame_applyOp ..); on_goal 2 => simp [← hP]
       on_goal 2 => simp [← hL])
    | (with_reducible apply keep_of (frame_syncFuses ..); on_goal 2 => simp [← hP]
       on_goal 2 => simp [← hL]))

theorem frame_partOp (s : State) (far : Nat) (mask : List Byte) (op : Nat × List Byte) : s.only (State.partOp s far mask op) [.sec] (regsOf []) := by
  unfold State.partOp
  generalize hP : ([.sec] : List Part) = P
  generalize hL : ([] : List String) = L
  repeat (first
    | with_reducible exact keep_refl _ _ _
    | ((try lift_lets -underBinder); with_reducible intro y; clear_value y)
    | (with_reducible apply keep_modSec; on_goal 2 => simp [← hP])
    | split)

theorem frame_cutBundle (s : State) : s.only (State.cutBundle s) [.sec] (regsOf []) := by
  unfold State.cutBundle
  generalize hP : ([.sec] : List Part) = P
  generalize hL : ([] : List String) = L
  repeat (first
    | with_reducible assumption
    | with_reducible exact keep_refl _ _ _
    | (dsimp -zeta only)
    | ((try lift_lets -underBinder); with_reducible intro y; refine cut_at (A := State.only s y P (regsOf L)) ?_ ?_; on_goal 2 => (intro hy; clear_value y)
       unfold y)
    | with_reducible refine keep_foldl ?_ (fun u a => ?_)
    | (with_reducible apply keep_modSec; on_goal 2 => simp [← hP])
    | (with_reducible apply keep_of (frame_applyOp ..); on_goal 2 => simp [← hP]
       on_goal 2 => simp [← hL])
    | (with_reducible apply keep_of (frame_partOp ..); on_goal 2 => simp [← hP]
       on_goal 2 => simp [← hL])
    | split)

theorem frame_tokenLoad (s : State) : s.only (State.tokenLoad s) [.sec] (regsOf ["SEC_STATUS", "SEC_DEBUG_STATUS", "SEC_BUNDLE_STATUS", "SEC_DEBUG_CHALLENGE"]) := by
  unfold State.tokenLoad
  generalize hP : ([.sec] : List Part) = P
  generalize hL : (["SEC_STATUS", "SEC_DEBUG_STATUS", "SEC_BUNDLE_STATUS", "SEC_DEBUG_CHALLENGE"] : List String) = L
  repeat (first
    | with_reducible assumption
    | with_reducible exact keep_refl _ _ _
    | ((try lift_lets -underBinder); with_reducible intro y; refine cut_at (A := State.only s y P (regsOf L)) ?_ ?_; on_goal 2 => (intro hy; clear_value y)
       unfold y)
    | ((try lift_lets -underBinder); with_reducible intro y; clear_value y)
    | with_reducible apply keep_if
    | (with_reducible apply keep_set; on_goal 2 => first | assumption | (with_reducible apply reg_SEC_BUNDLE_STATUS_STATE; simp [← hL]) | (with_reducible apply reg_SEC_BUNDLE_STATUS_REASON; simp [← hL]) | (with_reducible apply reg_SEC_STATUS_TOKEN_REJECT; simp [← hL]) | (with_reducible apply reg_SEC_DEBUG_STATUS_GRANTED; simp [← hL]) | (with_reducible apply reg_SEC_DEBUG_STATUS_BY_OWNER; simp [← hL]) | (with_reducible apply reg_SEC_BUNDLE_STATUS_OPS_DONE; simp [← hL]))
    | (with_reducible apply keep_on; on_goal 2 => first | assumption | (with_reducible apply reg_SEC_BUNDLE_STATUS_STATE; simp [← hL]) | (with_reducible apply reg_SEC_BUNDLE_STATUS_REASON; simp [← hL]) | (with_reducible apply reg_SEC_STATUS_TOKEN_REJECT; simp [← hL]) | (with_reducible apply reg_SEC_DEBUG_STATUS_GRANTED; simp [← hL]) | (with_reducible apply reg_SEC_DEBUG_STATUS_BY_OWNER; simp [← hL]) | (with_reducible apply reg_SEC_BUNDLE_STATUS_OPS_DONE; simp [← hL]))
    | (with_reducible apply keep_setB; on_goal 2 => first | assumption | (with_reducible apply reg_SEC_BUNDLE_STATUS_STATE; simp [← hL]) | (with_reducible apply reg_SEC_BUNDLE_STATUS_REASON; simp [← hL]) | (with_reducible apply reg_SEC_STATUS_TOKEN_REJECT; simp [← hL]) | (with_reducible apply reg_SEC_DEBUG_STATUS_GRANTED; simp [← hL]) | (with_reducible apply reg_SEC_DEBUG_STATUS_BY_OWNER; simp [← hL]) | (with_reducible apply reg_SEC_BUNDLE_STATUS_OPS_DONE; simp [← hL]))
    | (with_reducible apply keep_orBits; on_goal 2 => first | assumption | (with_reducible apply reg_SEC_BUNDLE_STATUS_STATE; simp [← hL]) | (with_reducible apply reg_SEC_BUNDLE_STATUS_REASON; simp [← hL]) | (with_reducible apply reg_SEC_STATUS_TOKEN_REJECT; simp [← hL]) | (with_reducible apply reg_SEC_DEBUG_STATUS_GRANTED; simp [← hL]) | (with_reducible apply reg_SEC_DEBUG_STATUS_BY_OWNER; simp [← hL]) | (with_reducible apply reg_SEC_BUNDLE_STATUS_OPS_DONE; simp [← hL]))
    | (with_reducible apply keep_modSec; on_goal 2 => simp [← hP])
    | (with_reducible apply keep_of (frame_drawChallenge ..); on_goal 2 => simp [← hP]
       on_goal 2 => simp [← hL]))

theorem frame_secEffect (s : State) (off : Nat) (v : Nat) : s.only (secEffect s off v) [.sec] (regsOf ["SEC_STATUS", "SEC_DEBUG_STATUS", "SEC_BUNDLE_STATUS", "SEC_DEBUG_CHALLENGE"]) := by
  unfold secEffect
  generalize hP : ([.sec] : List Part) = P
  generalize hL : (["SEC_STATUS", "SEC_DEBUG_STATUS", "SEC_BUNDLE_STATUS", "SEC_DEBUG_CHALLENGE"] : List String) = L
  repeat (first
    | with_reducible exact keep_refl _ _ _
    | with_reducible apply keep_if
    | (with_reducible apply keep_modSec; on_goal 2 => simp [← hP])
    | (with_reducible apply keep_of (frame_tokenLoad ..); on_goal 2 => simp [← hP]
       on_goal 2 => simp [← hL])
    | (with_reducible apply keep_of (frame_bundleLoad ..); on_goal 2 => simp [← hP]
       on_goal 2 => simp [← hL]))

theorem frame_syncFuseWord (s : State) (i : Nat) : s.only (State.syncFuseWord s i) [] (regsOf ["SEC_FUSE_IMAGE"]) := by
  unfold State.syncFuseWord
  generalize hP : ([] : List Part) = P
  generalize hL : (["SEC_FUSE_IMAGE"] : List String) = L
  repeat (first
    | with_reducible exact keep_refl _ _ _
    | (with_reducible apply keep_set; on_goal 2 => first | assumption | (with_reducible apply reg_SEC_FUSE_IMAGE_FUSE; simp [← hL])))

theorem frame_coreAttest (c : CmdIn) (s : State) : s.only (coreAttest c s).2 [.sec] (regsOf []) := by
  unfold coreAttest
  generalize hP : ([.sec] : List Part) = P
  generalize hL : ([] : List String) = L
  repeat (first
    | with_reducible exact keep_refl _ _ _
    | (dsimp -zeta only)
    | ((try lift_lets -underBinder); with_reducible intro y; clear_value y)
    | with_reducible apply keep_ifp
    | (with_reducible apply keep_modSec; on_goal 2 => simp [← hP]))


end Sys2Proof.Machine
end

