-- ==== Sys2Proof/Laws/ExtentTables.lean ====
section
/-! SUPPORT. What each operation of Fdb, Lpm and Flow may touch: the parts and, at any index, the registers. -/

namespace Sys2Proof.Machine

theorem frame_setFdb (s : State) (m : Fdb) : s.only (State.setFdb s m) [.fdb] (regsOf ["FDB_USED"]) := by
  unfold State.setFdb
  generalize hP : ([.fdb] : List Part) = P
  generalize hL : (["FDB_USED"] : List String) = L
  repeat (first
    | with_reducible exact keep_refl _ _ _
    | ((try lift_lets -underBinder); with_reducible intro y; clear_value y)
    | (with_reducible apply keep_set; on_goal 2 => first | assumption | (with_reducible apply reg_FDB_USED_USED; simp [← hL]))
    | (fail_if_no_progress (with_reducible apply keep_at_fdb; on_goal 2 => simp [← hP])))

theorem frame_mirrorFdb (s : State) (present : Bool) (e : FdbEntry) : s.only (State.mirrorFdb s present e) [.pair] (regsOf ["PAIR_MIRROR_LEVEL"]) := by
  unfold State.mirrorFdb
  generalize hP : ([.pair] : List Part) = P
  generalize hL : (["PAIR_MIRROR_LEVEL"] : List String) = L
  repeat (first
    | with_reducible exact keep_refl _ _ _
    | (with_reducible apply keep_of (frame_mirrorItem ..); on_goal 2 => simp [← hP]
       on_goal 2 => simp [← hL]))

theorem frame_fdbParity (s : State) (place : Nat) : s.only (State.fdbParity s place) [.fdb] (regsOf ["FDB_STATUS", "FDB_USED", "FDB_PARITY_LOC", "FDB_PARITY_CNT"]) := by
  unfold State.fdbParity
  generalize hP : ([.fdb] : List Part) = P
  generalize hL : (["FDB_STATUS", "FDB_USED", "FDB_PARITY_LOC", "FDB_PARITY_CNT"] : List String) = L
  repeat (first
    | with_reducible assumption
    | with_reducible exact keep_refl _ _ _
    | ((try lift_lets -underBinder); with_reducible intro y; refine cut_at (A := State.only s y P (regsOf L)) ?_ ?_; on_goal 2 => (intro hy; clear_value y)
       unfold y)
    | (with_reducible apply keep_set; on_goal 2 => first | assumption | (with_reducible apply reg_FDB_PARITY_CNT_COUNT; simp [← hL]) | (with_reducible apply reg_FDB_STATUS_PARITY; simp [← hL]) | (with_reducible apply reg_FDB_PARITY_LOC_BANK; simp [← hL]) | (with_reducible apply reg_FDB_PARITY_LOC_BUCKET; simp [← hL]) | (with_reducible apply reg_FDB_PARITY_LOC_SLOT; simp [← hL]))
    | (with_reducible apply keep_on; on_goal 2 => first | assumption | (with_reducible apply reg_FDB_PARITY_CNT_COUNT; simp [← hL]) | (with_reducible apply reg_FDB_STATUS_PARITY; simp [← hL]) | (with_reducible apply reg_FDB_PARITY_LOC_BANK; simp [← hL]) | (with_reducible apply reg_FDB_PARITY_LOC_BUCKET; simp [← hL]) | (with_reducible apply reg_FDB_PARITY_LOC_SLOT; simp [← hL]))
    | (with_reducible apply keep_satAdd; on_goal 2 => first | assumption | (with_reducible apply reg_FDB_PARITY_CNT_COUNT; simp [← hL]) | (with_reducible apply reg_FDB_STATUS_PARITY; simp [← hL]) | (with_reducible apply reg_FDB_PARITY_LOC_BANK; simp [← hL]) | (with_reducible apply reg_FDB_PARITY_LOC_BUCKET; simp [← hL]) | (with_reducible apply reg_FDB_PARITY_LOC_SLOT; simp [← hL]))
    | (with_reducible apply keep_of (frame_setFdb ..); on_goal 2 => simp [← hP]
       on_goal 2 => simp [← hL]))

theorem frame_fdbAccess (s : State) (vlan : Nat) (mac : Nat) : s.only (State.fdbAccess s vlan mac).2.2 [.fdb] (regsOf ["FDB_STATUS", "FDB_USED", "FDB_PARITY_LOC", "FDB_PARITY_CNT"]) := by
  unfold State.fdbAccess
  generalize hP : ([.fdb] : List Part) = P
  generalize hL : (["FDB_STATUS", "FDB_USED", "FDB_PARITY_LOC", "FDB_PARITY_CNT"] : List String) = L
  repeat (first
    | with_reducible exact keep_refl _ _ _
    | (dsimp -zeta only)
    | (with_reducible apply keep_of (frame_fdbParity ..); on_goal 2 => simp [← hP]
       on_goal 2 => simp [← hL])
    | split)

theorem frame_fdbPlace (s : State) (e : FdbEntry) : s.onlyIf (State.fdbPlace s e) [.fdb] (regsOf ["FDB_USED"]) := by
  unfold State.fdbPlace
  generalize hP : ([.fdb] : List Part) = P
  generalize hL : (["FDB_USED"] : List String) = L
  repeat (first
    | with_reducible exact keep_refl _ _ _
    | with_reducible refine try_map fun a => ?_
    | (with_reducible apply keep_of (frame_setFdb ..); on_goal 2 => simp [← hP]
       on_goal 2 => simp [← hL]))

theorem frame_clearPath (vlan : Nat) (mac : Nat) (v0 : Nat) (s : State) : s.only (clearPath vlan mac v0 s).2 [.fdb] (regsOf ["FDB_STATUS", "FDB_USED", "FDB_PARITY_LOC", "FDB_PARITY_CNT"]) := by
  induction v0 generalizing s with
  | zero =>
    unfold clearPath
    generalize hP : ([.fdb] : List Part) = P
    generalize hL : (["FDB_STATUS", "FDB_USED", "FDB_PARITY_LOC", "FDB_PARITY_CNT"] : List String) = L
    repeat (first
      | with_reducible exact keep_refl _ _ _)
  | succ j ih =>
    unfold clearPath
    generalize hP : ([.fdb] : List Part) = P
    generalize hL : (["FDB_STATUS", "FDB_USED", "FDB_PARITY_LOC", "FDB_PARITY_CNT"] : List String) = L
    repeat (first
      | with_reducible exact keep_refl _ _ _
      | (dsimp -zeta only)
      | ((try lift_lets -underBinder); with_reducible intro y; clear_value y)
      | (with_reducible apply keep_of (ih ..); on_goal 2 => simp [← hP]
         on_goal 2 => simp [← hL])
      | (with_reducible apply keep_of (frame_fdbParity ..); on_goal 2 => simp [← hP]
         on_goal 2 => simp [← hL])
      | split)

theorem frame_fdbMake (s : State) (e : FdbEntry) : s.only (State.fdbMake s e).2.2 [.fdb] (regsOf ["FDB_STATUS", "FDB_USED", "FDB_PARITY_LOC", "FDB_PARITY_CNT"]) := by
  unfold State.fdbMake
  generalize hP : ([.fdb] : List Part) = P
  generalize hL : (["FDB_STATUS", "FDB_USED", "FDB_PARITY_LOC", "FDB_PARITY_CNT"] : List String) = L
  repeat (first
    | with_reducible exact keep_refl _ _ _
    | (dsimp -zeta only)
    | (with_reducible apply keep_of (frame_clearPath ..); on_goal 2 => simp [← hP]
       on_goal 2 => simp [← hL]))

theorem frame_fdbMake_some (s : State) (e : FdbEntry) : s.onlyIf (State.fdbMake s e).1 [.fdb] (regsOf ["FDB_STATUS", "FDB_USED", "FDB_PARITY_LOC", "FDB_PARITY_CNT"]) := by
  have h := frame_clearPath e.vlan e.mac 6 s
  unfold State.fdbMake
  generalize clearPath e.vlan e.mac 6 s = y at h ⊢
  exact try_of (frame_fdbPlace _ _) h (by simp) (by simp)

theorem frame_fdbPut (s : State) (place : Nat) (e : FdbEntry) : s.only (State.fdbPut s place e) [.fdb] (regsOf ["FDB_USED"]) := by
  unfold State.fdbPut
  generalize hP : ([.fdb] : List Part) = P
  generalize hL : (["FDB_USED"] : List String) = L
  repeat (first
    | with_reducible exact keep_refl _ _ _
    | (with_reducible apply keep_of (frame_setFdb ..); on_goal 2 => simp [← hP]
       on_goal 2 => simp [← hL]))

theorem frame_fdbRemove (s : State) (place : Nat) (e : FdbEntry) : s.only (State.fdbRemove s place e) [.fdb, .pair] (regsOf ["FDB_USED", "PAIR_MIRROR_LEVEL"]) := by
  unfold State.fdbRemove
  generalize hP : ([.fdb, .pair] : List Part) = P
  generalize hL : (["FDB_USED", "PAIR_MIRROR_LEVEL"] : List String) = L
  repeat (first
    | with_reducible exact keep_refl _ _ _
    | (with_reducible apply keep_of (frame_mirrorFdb ..); on_goal 2 => simp [← hP]
       on_goal 2 => simp [← hL])
    | (with_reducible apply keep_of (frame_setFdb ..); on_goal 2 => simp [← hP]
       on_goal 2 => simp [← hL]))

theorem frame_fdbLookup (s : State) (vlan : Nat) (mac : Nat) (port : Nat) : s.only (State.fdbLookup s vlan mac port).2 [.fdb] (regsOf ["FDB_STATUS", "FDB_USED", "FDB_PARITY_LOC", "FDB_PARITY_CNT"]) := by
  unfold State.fdbLookup
  generalize hP : ([.fdb] : List Part) = P
  generalize hL : (["FDB_STATUS", "FDB_USED", "FDB_PARITY_LOC", "FDB_PARITY_CNT"] : List String) = L
  repeat (first
    | with_reducible exact keep_refl _ _ _
    | (dsimp -zeta only)
    | with_reducible refine keep_triple (by assumption) ?_
    | (with_reducible apply keep_of (frame_fdbAccess ..); on_goal 2 => simp [← hP]
       on_goal 2 => simp [← hL])
    | split)

theorem frame_fdbHit (s : State) (vlan : Nat) (mac : Nat) : s.only (State.fdbHit s vlan mac) [.fdb] (regsOf ["FDB_STATUS", "FDB_USED", "FDB_PARITY_LOC", "FDB_PARITY_CNT"]) := by
  unfold State.fdbHit
  generalize hP : ([.fdb] : List Part) = P
  generalize hL : (["FDB_STATUS", "FDB_USED", "FDB_PARITY_LOC", "FDB_PARITY_CNT"] : List String) = L
  repeat (first
    | with_reducible exact keep_refl _ _ _
    | with_reducible refine keep_triple (by assumption) ?_
    | ((try lift_lets -underBinder); with_reducible intro y; clear_value y)
    | (with_reducible apply keep_of (frame_fdbAccess ..); on_goal 2 => simp [← hP]
       on_goal 2 => simp [← hL])
    | (fail_if_no_progress (with_reducible apply keep_at_fdb; on_goal 2 => simp [← hP]))
    | split)

theorem frame_learnDrop (s : State) : s.only (State.learnDrop s) [] (regsOf ["FDB_STATUS", "FDB_LEARN_DROP_CNT"]) := by
  unfold State.learnDrop
  generalize hP : ([] : List Part) = P
  generalize hL : (["FDB_STATUS", "FDB_LEARN_DROP_CNT"] : List String) = L
  repeat (first
    | with_reducible exact keep_refl _ _ _
    | (with_reducible apply keep_on; on_goal 2 => first | assumption | (with_reducible apply reg_FDB_LEARN_DROP_CNT_COUNT; simp [← hL]) | (with_reducible apply reg_FDB_STATUS_LEARN_DROP; simp [← hL]))
    | (with_reducible apply keep_satAdd; on_goal 2 => first | assumption | (with_reducible apply reg_FDB_LEARN_DROP_CNT_COUNT; simp [← hL]) | (with_reducible apply reg_FDB_STATUS_LEARN_DROP; simp [← hL])))

theorem frame_learnRequest (s : State) (r : LearnReq) : s.only (State.learnRequest s r) [.fdb] (regsOf ["FDB_STATUS", "FDB_LEARN_DROP_CNT"]) := by
  unfold State.learnRequest
  generalize hP : ([.fdb] : List Part) = P
  generalize hL : (["FDB_STATUS", "FDB_LEARN_DROP_CNT"] : List String) = L
  repeat (first
    | with_reducible exact keep_refl _ _ _
    | ((try lift_lets -underBinder); with_reducible intro y; refine cut_at (A := ∀ a, State.only s (y a) P (regsOf L)) ?_ ?_; on_goal 2 => (intro hy; clear_value y)
       (intro a; unfold y; beta_reduce))
    | ((try lift_lets -underBinder); with_reducible intro y; clear_value y)
    | with_reducible apply keep_if
    | (with_reducible apply keep_of (frame_learnDrop ..); on_goal 2 => simp [← hP]
       on_goal 2 => simp [← hL])
    | with_reducible exact (‹∀ (_ : _), State.only _ _ P _› _)
    | (fail_if_no_progress (with_reducible apply keep_at_fdb; on_goal 2 => simp [← hP]))
    | split)

theorem frame_learnKnownBad (s : State) (frame : Nat) : s.only (State.learnKnownBad s frame) [.fdb] (regsOf []) := by
  unfold State.learnKnownBad
  generalize hP : ([.fdb] : List Part) = P
  generalize hL : ([] : List String) = L
  repeat (first
    | with_reducible exact keep_refl _ _ _
    | ((try lift_lets -underBinder); with_reducible intro y; clear_value y)
    | (fail_if_no_progress (with_reducible apply keep_at_fdb; on_goal 2 => simp [← hP])))

theorem frame_moveLast (s : State) (e : FdbEntry) (port : Nat) (pin : Bool) : s.only (State.moveLast s e port pin) [] (regsOf ["FDB_MOVE_LAST_LO", "FDB_MOVE_LAST_HI", "FDB_MOVE_LAST_PORTS"]) := by
  unfold State.moveLast
  generalize hP : ([] : List Part) = P
  generalize hL : (["FDB_MOVE_LAST_LO", "FDB_MOVE_LAST_HI", "FDB_MOVE_LAST_PORTS"] : List String) = L
  repeat (first
    | with_reducible assumption
    | with_reducible exact keep_refl _ _ _
    | ((try lift_lets -underBinder); with_reducible intro y; refine cut_at (A := State.only s y P (regsOf L)) ?_ ?_; on_goal 2 => (intro hy; clear_value y)
       unfold y)
    | (with_reducible apply keep_set; on_goal 2 => first | assumption | (with_reducible apply reg_FDB_MOVE_LAST_PORTS_PIN; simp [← hL]) | (with_reducible apply reg_FDB_MOVE_LAST_PORTS_OLD_PORT; simp [← hL]) | (with_reducible apply reg_FDB_MOVE_LAST_PORTS_NEW_PORT; simp [← hL]) | (with_reducible apply reg_FDB_MOVE_LAST_LO_MAC_LO; simp [← hL]) | (with_reducible apply reg_FDB_MOVE_LAST_HI_VLAN; simp [← hL]) | (with_reducible apply reg_FDB_MOVE_LAST_HI_MAC_HI; simp [← hL]))
    | (with_reducible apply keep_setB; on_goal 2 => first | assumption | (with_reducible apply reg_FDB_MOVE_LAST_PORTS_PIN; simp [← hL]) | (with_reducible apply reg_FDB_MOVE_LAST_PORTS_OLD_PORT; simp [← hL]) | (with_reducible apply reg_FDB_MOVE_LAST_PORTS_NEW_PORT; simp [← hL]) | (with_reducible apply reg_FDB_MOVE_LAST_LO_MAC_LO; simp [← hL]) | (with_reducible apply reg_FDB_MOVE_LAST_HI_VLAN; simp [← hL]) | (with_reducible apply reg_FDB_MOVE_LAST_HI_MAC_HI; simp [← hL])))

theorem frame_stationMove (s : State) (place : Nat) (e : FdbEntry) (r : LearnReq) : s.only (State.stationMove s place e r) [.fdb, .pair] (regsOf ["FDB_STATUS", "FDB_USED", "FDB_MOVE_LAST_LO", "FDB_MOVE_LAST_HI", "FDB_MOVE_LAST_PORTS", "FDB_MOVE_CNT", "PAIR_MIRROR_LEVEL"]) := by
  unfold State.stationMove
  generalize hP : ([.fdb, .pair] : List Part) = P
  generalize hL : (["FDB_STATUS", "FDB_USED", "FDB_MOVE_LAST_LO", "FDB_MOVE_LAST_HI", "FDB_MOVE_LAST_PORTS", "FDB_MOVE_CNT", "PAIR_MIRROR_LEVEL"] : List String) = L
  repeat (first
    | with_reducible exact keep_refl _ _ _
    | ((try lift_lets -underBinder); with_reducible intro y; clear_value y)
    | with_reducible apply keep_if
    | (with_reducible apply keep_on; on_goal 2 => first | assumption | (with_reducible apply reg_FDB_MOVE_CNT_COUNT; simp [← hL]) | (with_reducible apply reg_FDB_STATUS_MOVE; simp [← hL]) | (with_reducible apply reg_FDB_STATUS_PINNED; simp [← hL]))
    | (with_reducible apply keep_satAdd; on_goal 2 => first | assumption | (with_reducible apply reg_FDB_MOVE_CNT_COUNT; simp [← hL]) | (with_reducible apply reg_FDB_STATUS_MOVE; simp [← hL]) | (with_reducible apply reg_FDB_STATUS_PINNED; simp [← hL]))
    | (with_reducible apply keep_of (frame_mirrorFdb ..); on_goal 2 => simp [← hP]
       on_goal 2 => simp [← hL])
    | (with_reducible apply keep_of (frame_moveLast ..); on_goal 2 => simp [← hP]
       on_goal 2 => simp [← hL])
    | (with_reducible apply keep_of (frame_fdbPut ..); on_goal 2 => simp [← hP]
       on_goal 2 => simp [← hL]))

theorem frame_learnApply (s : State) (r : LearnReq) : s.only (State.learnApply s r) [.fdb, .pair] (regsOf ["FDB_STATUS", "FDB_USED", "FDB_MOVE_LAST_LO", "FDB_MOVE_LAST_HI", "FDB_MOVE_LAST_PORTS", "FDB_PARITY_LOC", "FDB_LEARN_CNT", "FDB_MOVE_CNT", "FDB_LEARN_FULL_CNT", "FDB_MOVE_REFUSED_CNT", "FDB_PARITY_CNT", "PAIR_MIRROR_LEVEL"]) := by
  unfold State.learnApply
  generalize hP : ([.fdb, .pair] : List Part) = P
  generalize hL : (["FDB_STATUS", "FDB_USED", "FDB_MOVE_LAST_LO", "FDB_MOVE_LAST_HI", "FDB_MOVE_LAST_PORTS", "FDB_PARITY_LOC", "FDB_LEARN_CNT", "FDB_MOVE_CNT", "FDB_LEARN_FULL_CNT", "FDB_MOVE_REFUSED_CNT", "FDB_PARITY_CNT", "PAIR_MIRROR_LEVEL"] : List String) = L
  repeat (first
    | with_reducible exact keep_refl _ _ _
    | with_reducible refine keep_triple (by assumption) ?_
    | ((try lift_lets -underBinder); with_reducible intro y; clear_value y)
    | with_reducible apply keep_if
    | (with_reducible apply keep_on; on_goal 2 => first | assumption | (with_reducible apply reg_FDB_MOVE_REFUSED_CNT_COUNT; simp [← hL]) | (with_reducible apply reg_FDB_STATUS_CONFLICT; simp [← hL]) | (with_reducible apply reg_FDB_LEARN_FULL_CNT_COUNT; simp [← hL]) | (with_reducible apply reg_FDB_STATUS_FULL; simp [← hL]) | (with_reducible apply reg_FDB_LEARN_CNT_COUNT; simp [← hL]))
    | (with_reducible apply keep_satAdd; on_goal 2 => first | assumption | (with_reducible apply reg_FDB_MOVE_REFUSED_CNT_COUNT; simp [← hL]) | (with_reducible apply reg_FDB_STATUS_CONFLICT; simp [← hL]) | (with_reducible apply reg_FDB_LEARN_FULL_CNT_COUNT; simp [← hL]) | (with_reducible apply reg_FDB_STATUS_FULL; simp [← hL]) | (with_reducible apply reg_FDB_LEARN_CNT_COUNT; simp [← hL]))
    | (have hz := ‹State.fdbMake _ _ = (some _, _)›; with_reducible apply keep_opt (congrArg Prod.fst hz) (frame_fdbMake_some ..); on_goal 2 => simp [← hP]
       on_goal 2 => simp [← hL])
    | (with_reducible apply keep_of (frame_fdbAccess ..); on_goal 2 => simp [← hP]
       on_goal 2 => simp [← hL])
    | (with_reducible apply keep_of (frame_fdbMake ..); on_goal 2 => simp [← hP]
       on_goal 2 => simp [← hL])
    | (with_reducible apply keep_of (frame_mirrorFdb ..); on_goal 2 => simp [← hP]
       on_goal 2 => simp [← hL])
    | (with_reducible apply keep_of (frame_stationMove ..); on_goal 2 => simp [← hP]
       on_goal 2 => simp [← hL])
    | split)

theorem frame_learnRelease (s : State) (bank : Nat) : s.only (State.learnRelease s bank) [.fdb, .pair] (regsOf ["FDB_STATUS", "FDB_USED", "FDB_MOVE_LAST_LO", "FDB_MOVE_LAST_HI", "FDB_MOVE_LAST_PORTS", "FDB_PARITY_LOC", "FDB_LEARN_CNT", "FDB_MOVE_CNT", "FDB_LEARN_FULL_CNT", "FDB_MOVE_REFUSED_CNT", "FDB_PARITY_CNT", "PAIR_MIRROR_LEVEL"]) := by
  unfold State.learnRelease
  generalize hP : ([.fdb, .pair] : List Part) = P
  generalize hL : (["FDB_STATUS", "FDB_USED", "FDB_MOVE_LAST_LO", "FDB_MOVE_LAST_HI", "FDB_MOVE_LAST_PORTS", "FDB_PARITY_LOC", "FDB_LEARN_CNT", "FDB_MOVE_CNT", "FDB_LEARN_FULL_CNT", "FDB_MOVE_REFUSED_CNT", "FDB_PARITY_CNT", "PAIR_MIRROR_LEVEL"] : List String) = L
  repeat (first
    | with_reducible assumption
    | with_reducible exact keep_refl _ _ _
    | ((try lift_lets -underBinder); with_reducible intro y; refine cut_at (A := State.only s y P (regsOf L)) ?_ ?_; on_goal 2 => (intro hy; clear_value y)
       unfold y)
    | ((try lift_lets -underBinder); with_reducible intro y; clear_value y)
    | with_reducible apply keep_if
    | (with_reducible apply keep_of (frame_learnApply ..); on_goal 2 => simp [← hP]
       on_goal 2 => simp [← hL])
    | (fail_if_no_progress (with_reducible apply keep_at_fdb; on_goal 2 => simp [← hP]))
    | split)

theorem frame_coreFdbInsert (c : CmdIn) (s : State) : s.only (coreFdbInsert c s).2 [.fdb, .pair] (regsOf ["FDB_STATUS", "FDB_USED", "FDB_PARITY_LOC", "FDB_PARITY_CNT", "PAIR_MIRROR_LEVEL"]) := by
  unfold coreFdbInsert
  generalize hP : ([.fdb, .pair] : List Part) = P
  generalize hL : (["FDB_STATUS", "FDB_USED", "FDB_PARITY_LOC", "FDB_PARITY_CNT", "PAIR_MIRROR_LEVEL"] : List String) = L
  repeat (first
    | with_reducible exact keep_refl _ _ _
    | (dsimp -zeta only)
    | with_reducible refine keep_triple (by assumption) ?_
    | ((try lift_lets -underBinder); with_reducible intro y; clear_value y)
    | with_reducible apply keep_ifp
    | (with_reducible apply keep_on; on_goal 2 => first | assumption | (with_reducible apply reg_FDB_STATUS_FULL; simp [← hL]))
    | (have hz := ‹State.fdbMake _ _ = (some _, _)›; with_reducible apply keep_opt (congrArg Prod.fst hz) (frame_fdbMake_some ..); on_goal 2 => simp [← hP]
       on_goal 2 => simp [← hL])
    | (with_reducible apply keep_of (frame_fdbAccess ..); on_goal 2 => simp [← hP]
       on_goal 2 => simp [← hL])
    | (with_reducible apply keep_of (frame_fdbMake ..); on_goal 2 => simp [← hP]
       on_goal 2 => simp [← hL])
    | (with_reducible apply keep_of (frame_mirrorFdb ..); on_goal 2 => simp [← hP]
       on_goal 2 => simp [← hL])
    | (with_reducible apply keep_of (frame_fdbPut ..); on_goal 2 => simp [← hP]
       on_goal 2 => simp [← hL])
    | split)

theorem frame_coreFdbDelete (c : CmdIn) (s : State) : s.only (coreFdbDelete c s).2 [.fdb, .pair] (regsOf ["FDB_STATUS", "FDB_USED", "FDB_PARITY_LOC", "FDB_PARITY_CNT", "PAIR_MIRROR_LEVEL"]) := by
  unfold coreFdbDelete
  generalize hP : ([.fdb, .pair] : List Part) = P
  generalize hL : (["FDB_STATUS", "FDB_USED", "FDB_PARITY_LOC", "FDB_PARITY_CNT", "PAIR_MIRROR_LEVEL"] : List String) = L
  repeat (first
    | with_reducible exact keep_refl _ _ _
    | (dsimp -zeta only)
    | with_reducible refine keep_triple (by assumption) ?_
    | with_reducible apply keep_ifp
    | (with_reducible apply keep_of (frame_fdbAccess ..); on_goal 2 => simp [← hP]
       on_goal 2 => simp [← hL])
    | (with_reducible apply keep_of (frame_fdbRemove ..); on_goal 2 => simp [← hP]
       on_goal 2 => simp [← hL])
    | split)

theorem frame_coreFdbAgeDelete (c : CmdIn) (s : State) : s.only (coreFdbAgeDelete c s).2 [.fdb, .pair] (regsOf ["FDB_STATUS", "FDB_USED", "FDB_PARITY_LOC", "FDB_PARITY_CNT", "PAIR_MIRROR_LEVEL"]) := by
  unfold coreFdbAgeDelete
  generalize hP : ([.fdb, .pair] : List Part) = P
  generalize hL : (["FDB_STATUS", "FDB_USED", "FDB_PARITY_LOC", "FDB_PARITY_CNT", "PAIR_MIRROR_LEVEL"] : List String) = L
  repeat (first
    | with_reducible exact keep_refl _ _ _
    | (dsimp -zeta only)
    | with_reducible refine keep_triple (by assumption) ?_
    | ((try lift_lets -underBinder); with_reducible intro y; clear_value y)
    | with_reducible apply keep_ifp
    | (with_reducible apply keep_of (frame_fdbAccess ..); on_goal 2 => simp [← hP]
       on_goal 2 => simp [← hL])
    | (with_reducible apply keep_of (frame_fdbRemove ..); on_goal 2 => simp [← hP]
       on_goal 2 => simp [← hL])
    | split)

theorem frame_coreFdbSearch (c : CmdIn) (s : State) : s.only (coreFdbSearch c s).2 [.fdb] (regsOf ["FDB_STATUS", "FDB_USED", "FDB_PARITY_LOC", "FDB_PARITY_CNT"]) := by
  unfold coreFdbSearch
  generalize hP : ([.fdb] : List Part) = P
  generalize hL : (["FDB_STATUS", "FDB_USED", "FDB_PARITY_LOC", "FDB_PARITY_CNT"] : List String) = L
  repeat (first
    | with_reducible exact keep_refl _ _ _
    | (dsimp -zeta only)
    | with_reducible refine keep_triple (by assumption) ?_
    | with_reducible apply keep_ifp
    | (with_reducible apply keep_of (frame_fdbAccess ..); on_goal 2 => simp [← hP]
       on_goal 2 => simp [← hL])
    | split)

theorem frame_coreFdbNext (c : CmdIn) (s : State) : s.only (coreFdbNext c s).2 [.fdb] (regsOf ["FDB_STATUS", "FDB_USED", "FDB_PARITY_LOC", "FDB_PARITY_CNT"]) := by
  unfold coreFdbNext
  generalize hP : ([.fdb] : List Part) = P
  generalize hL : (["FDB_STATUS", "FDB_USED", "FDB_PARITY_LOC", "FDB_PARITY_CNT"] : List String) = L
  repeat (first
    | with_reducible assumption
    | with_reducible exact keep_refl _ _ _
    | (dsimp -zeta only)
    | ((try lift_lets -underBinder); with_reducible intro y; refine cut_at (A := State.only s y P (regsOf L)) ?_ ?_; on_goal 2 => (intro hy; clear_value y)
       unfold y)
    | ((try lift_lets -underBinder); with_reducible intro y; clear_value y)
    | with_reducible apply keep_if
    | with_reducible apply keep_ifp
    | (with_reducible apply keep_of (frame_fdbParity ..); on_goal 2 => simp [← hP]
       on_goal 2 => simp [← hL])
    | (fail_if_no_progress (with_reducible apply keep_at_fdb; on_goal 2 => simp [← hP]))
    | split)

theorem frame_fdbFlushRange (s : State) (c : CmdIn) (began : Nat) (from_ : Nat) (to_ : Nat) : s.only (State.fdbFlushRange s c began from_ to_).2 [.fdb, .pair] (regsOf ["FDB_STATUS", "FDB_USED", "FDB_PARITY_LOC", "FDB_PARITY_CNT", "PAIR_MIRROR_LEVEL"]) := by
  unfold State.fdbFlushRange
  generalize hP : ([.fdb, .pair] : List Part) = P
  generalize hL : (["FDB_STATUS", "FDB_USED", "FDB_PARITY_LOC", "FDB_PARITY_CNT", "PAIR_MIRROR_LEVEL"] : List String) = L
  repeat (first
    | with_reducible exact keep_refl _ _ _
    | (dsimp -zeta only)
    | ((try lift_lets -underBinder); with_reducible intro y; clear_value y)
    | with_reducible apply keep_ifp
    | with_reducible refine keep_foldlp ?_ (fun u a => ?_)
    | (with_reducible apply keep_of (frame_fdbParity ..); on_goal 2 => simp [← hP]
       on_goal 2 => simp [← hL])
    | (with_reducible apply keep_of (frame_fdbRemove ..); on_goal 2 => simp [← hP]
       on_goal 2 => simp [← hL]))

theorem frame_coreFdbFlush (c : CmdIn) (s : State) : s.only (coreFdbFlush c s).2 [.fdb, .pair] (regsOf ["FDB_STATUS", "FDB_USED", "FDB_PARITY_LOC", "FDB_PARITY_CNT", "PAIR_MIRROR_LEVEL"]) := by
  unfold coreFdbFlush
  generalize hP : ([.fdb, .pair] : List Part) = P
  generalize hL : (["FDB_STATUS", "FDB_USED", "FDB_PARITY_LOC", "FDB_PARITY_CNT", "PAIR_MIRROR_LEVEL"] : List String) = L
  repeat (first
    | with_reducible exact keep_refl _ _ _
    | (dsimp -zeta only)
    | ((try lift_lets -underBinder); with_reducible intro y; clear_value y)
    | with_reducible apply keep_ifp
    | (with_reducible apply keep_of (frame_fdbFlushRange ..); on_goal 2 => simp [← hP]
       on_goal 2 => simp [← hL]))

theorem frame_setLpm (s : State) (m : LpmSt) : s.only (State.setLpm s m) [.lpm] (regsOf ["LPM_USED", "LPM_V4_COUNT", "LPM_V6_COUNT"]) := by
  unfold State.setLpm
  generalize hP : ([.lpm] : List Part) = P
  generalize hL : (["LPM_USED", "LPM_V4_COUNT", "LPM_V6_COUNT"] : List String) = L
  repeat (first
    | with_reducible exact keep_refl _ _ _
    | ((try lift_lets -underBinder); with_reducible intro y; clear_value y)
    | (with_reducible apply keep_set; on_goal 2 => first | assumption | (with_reducible apply reg_LPM_USED_USED; simp [← hL]) | (with_reducible apply reg_LPM_V4_COUNT_COUNT; simp [← hL]) | (with_reducible apply reg_LPM_V6_COUNT_COUNT; simp [← hL]))
    | (fail_if_no_progress (with_reducible apply keep_at_lpm; on_goal 2 => simp [← hP])))

theorem frame_mirrorLpm (s : State) (present : Bool) (e : LpmEntry) : s.only (State.mirrorLpm s present e) [.pair] (regsOf ["PAIR_MIRROR_LEVEL"]) := by
  unfold State.mirrorLpm
  generalize hP : ([.pair] : List Part) = P
  generalize hL : (["PAIR_MIRROR_LEVEL"] : List String) = L
  repeat (first
    | with_reducible exact keep_refl _ _ _
    | (with_reducible apply keep_of (frame_mirrorItem ..); on_goal 2 => simp [← hP]
       on_goal 2 => simp [← hL]))

theorem frame_lpmRemove (s : State) (e : LpmEntry) : s.only (State.lpmRemove s e) [.lpm] (regsOf ["LPM_USED", "LPM_V4_COUNT", "LPM_V6_COUNT"]) := by
  unfold State.lpmRemove
  generalize hP : ([.lpm] : List Part) = P
  generalize hL : (["LPM_USED", "LPM_V4_COUNT", "LPM_V6_COUNT"] : List String) = L
  repeat (first
    | with_reducible exact keep_refl _ _ _
    | (with_reducible apply keep_of (frame_setLpm ..); on_goal 2 => simp [← hP]
       on_goal 2 => simp [← hL]))

theorem frame_lpmParity (s : State) (e : LpmEntry) : s.only (State.lpmParity s e) [.lpm] (regsOf ["LPM_STATUS", "LPM_USED", "LPM_V4_COUNT", "LPM_V6_COUNT", "LPM_PARITY_LOC", "LPM_PARITY_CNT"]) := by
  unfold State.lpmParity
  generalize hP : ([.lpm] : List Part) = P
  generalize hL : (["LPM_STATUS", "LPM_USED", "LPM_V4_COUNT", "LPM_V6_COUNT", "LPM_PARITY_LOC", "LPM_PARITY_CNT"] : List String) = L
  repeat (first
    | with_reducible exact keep_refl _ _ _
    | ((try lift_lets -underBinder); with_reducible intro y; clear_value y)
    | (with_reducible apply keep_set; on_goal 2 => first | assumption | (with_reducible apply reg_LPM_PARITY_LOC_ROW; simp [← hL]) | (with_reducible apply reg_LPM_PARITY_CNT_COUNT; simp [← hL]) | (with_reducible apply reg_LPM_STATUS_PARITY; simp [← hL]))
    | (with_reducible apply keep_on; on_goal 2 => first | assumption | (with_reducible apply reg_LPM_PARITY_LOC_ROW; simp [← hL]) | (with_reducible apply reg_LPM_PARITY_CNT_COUNT; simp [← hL]) | (with_reducible apply reg_LPM_STATUS_PARITY; simp [← hL]))
    | (with_reducible apply keep_satAdd; on_goal 2 => first | assumption | (with_reducible apply reg_LPM_PARITY_LOC_ROW; simp [← hL]) | (with_reducible apply reg_LPM_PARITY_CNT_COUNT; simp [← hL]) | (with_reducible apply reg_LPM_STATUS_PARITY; simp [← hL]))
    | (with_reducible apply keep_of (frame_lpmRemove ..); on_goal 2 => simp [← hP]
       on_goal 2 => simp [← hL]))

theorem frame_lpmAccess (s : State) (k : LpmEntry) : s.only (State.lpmAccess s k).2.2 [.lpm] (regsOf ["LPM_STATUS", "LPM_USED", "LPM_V4_COUNT", "LPM_V6_COUNT", "LPM_PARITY_LOC", "LPM_PARITY_CNT"]) := by
  unfold State.lpmAccess
  generalize hP : ([.lpm] : List Part) = P
  generalize hL : (["LPM_STATUS", "LPM_USED", "LPM_V4_COUNT", "LPM_V6_COUNT", "LPM_PARITY_LOC", "LPM_PARITY_CNT"] : List String) = L
  repeat (first
    | with_reducible exact keep_refl _ _ _
    | (dsimp -zeta only)
    | (with_reducible apply keep_of (frame_lpmParity ..); on_goal 2 => simp [← hP]
       on_goal 2 => simp [← hL])
    | split)

theorem frame_checkUnits (s : State) (l : List LpmUnit) : s.only (State.checkUnits s l).2 [.lpm] (regsOf ["LPM_STATUS", "LPM_USED", "LPM_V4_COUNT", "LPM_V6_COUNT", "LPM_PARITY_LOC", "LPM_PARITY_CNT"]) := by
  unfold State.checkUnits
  generalize hP : ([.lpm] : List Part) = P
  generalize hL : (["LPM_STATUS", "LPM_USED", "LPM_V4_COUNT", "LPM_V6_COUNT", "LPM_PARITY_LOC", "LPM_PARITY_CNT"] : List String) = L
  repeat (first
    | with_reducible exact keep_refl _ _ _
    | (dsimp -zeta only)
    | ((try lift_lets -underBinder); with_reducible intro y; clear_value y)
    | with_reducible refine keep_foldl ?_ (fun u a => ?_)
    | (with_reducible apply keep_of (frame_lpmParity ..); on_goal 2 => simp [← hP]
       on_goal 2 => simp [← hL]))

theorem frame_lpmWalk (v6 : Bool) (addr : Nat) (v0 : List LpmEntry) (v1 : Bool) (s : State) : s.only (lpmWalk v6 addr v0 v1 s).2.2 [.lpm] (regsOf ["LPM_STATUS", "LPM_USED", "LPM_V4_COUNT", "LPM_V6_COUNT", "LPM_PARITY_LOC", "LPM_PARITY_CNT"]) := by
  induction v0 generalizing v1 s with
  | nil =>
    unfold lpmWalk
    generalize hP : ([.lpm] : List Part) = P
    generalize hL : (["LPM_STATUS", "LPM_USED", "LPM_V4_COUNT", "LPM_V6_COUNT", "LPM_PARITY_LOC", "LPM_PARITY_CNT"] : List String) = L
    repeat (first
      | with_reducible exact keep_refl _ _ _)
  | cons e l ih =>
    unfold lpmWalk
    generalize hP : ([.lpm] : List Part) = P
    generalize hL : (["LPM_STATUS", "LPM_USED", "LPM_V4_COUNT", "LPM_V6_COUNT", "LPM_PARITY_LOC", "LPM_PARITY_CNT"] : List String) = L
    repeat (first
      | with_reducible exact keep_refl _ _ _
      | (with_reducible apply keep_of (ih ..); on_goal 2 => simp [← hP]
         on_goal 2 => simp [← hL])
      | (with_reducible apply keep_of (frame_lpmParity ..); on_goal 2 => simp [← hP]
         on_goal 2 => simp [← hL])
      | split)

theorem frame_lpmMatch (s : State) (v6 : Bool) (addr : Nat) : s.only (State.lpmMatch s v6 addr).2.2 [.lpm] (regsOf ["LPM_STATUS", "LPM_USED", "LPM_V4_COUNT", "LPM_V6_COUNT", "LPM_PARITY_LOC", "LPM_PARITY_CNT"]) := by
  unfold State.lpmMatch
  generalize hP : ([.lpm] : List Part) = P
  generalize hL : (["LPM_STATUS", "LPM_USED", "LPM_V4_COUNT", "LPM_V6_COUNT", "LPM_PARITY_LOC", "LPM_PARITY_CNT"] : List String) = L
  repeat (first
    | with_reducible exact keep_refl _ _ _
    | ((try lift_lets -underBinder); with_reducible intro y; clear_value y)
    | (with_reducible apply keep_of (frame_lpmWalk ..); on_goal 2 => simp [← hP]
       on_goal 2 => simp [← hL]))

theorem frame_requestMoves (s : State) : s.only (State.requestMoves s) [.reck] (regsOf []) := by
  unfold State.requestMoves
  generalize hP : ([.reck] : List Part) = P
  generalize hL : ([] : List String) = L
  repeat (first
    | with_reducible exact keep_refl _ _ _
    | with_reducible apply keep_if
    | with_reducible refine keep_foldl ?_ (fun u a => ?_)
    | (with_reducible apply keep_request; on_goal 2 => simp [← hP]))

theorem frame_moveStep (s : State) (v6 : Bool) (len : Nat) (poolOnly : Bool) : s.onlyIfP (State.moveStep s v6 len poolOnly) [.lpm] (regsOf ["LPM_STATUS", "LPM_USED", "LPM_V4_COUNT", "LPM_V6_COUNT", "LPM_PARITY_LOC", "LPM_PARITY_CNT"]) := by
  unfold State.moveStep
  generalize hP : ([.lpm] : List Part) = P
  generalize hL : (["LPM_STATUS", "LPM_USED", "LPM_V4_COUNT", "LPM_V6_COUNT", "LPM_PARITY_LOC", "LPM_PARITY_CNT"] : List String) = L
  repeat (first
    | with_reducible exact keep_refl _ _ _
    | (dsimp -zeta only)
    | with_reducible refine tryp_map fun a => ?_
    | with_reducible apply keep_ifp
    | (with_reducible apply keep_of (frame_checkUnits ..); on_goal 2 => simp [← hP]
       on_goal 2 => simp [← hL])
    | (fail_if_no_progress (with_reducible apply keep_at_lpm; on_goal 2 => simp [← hP])))

theorem frame_backgroundMove (s : State) (n : Nat) : s.only (State.backgroundMove s n) [.reck, .lpm] (regsOf ["LPM_STATUS", "LPM_USED", "LPM_V4_COUNT", "LPM_V6_COUNT", "LPM_PARITY_LOC", "LPM_PARITY_CNT"]) := by
  unfold State.backgroundMove
  generalize hP : ([.reck, .lpm] : List Part) = P
  generalize hL : (["LPM_STATUS", "LPM_USED", "LPM_V4_COUNT", "LPM_V6_COUNT", "LPM_PARITY_LOC", "LPM_PARITY_CNT"] : List String) = L
  repeat (first
    | with_reducible assumption
    | with_reducible exact keep_refl _ _ _
    | (dsimp -zeta only)
    | ((try lift_lets -underBinder); with_reducible intro y; refine cut_at (A := State.only s y P (regsOf L)) ?_ ?_; on_goal 2 => (intro hy; clear_value y)
       unfold y)
    | ((try lift_lets -underBinder); with_reducible intro y; clear_value y)
    | with_reducible apply keep_if
    | (with_reducible apply keep_endRoutine; on_goal 2 => simp [← hP])
    | (with_reducible apply keep_of (frame_checkUnits ..); on_goal 2 => simp [← hP]
       on_goal 2 => simp [← hL])
    | (with_reducible apply keep_of (frame_requestMoves ..); on_goal 2 => simp [← hP]
       on_goal 2 => simp [← hL])
    | (fail_if_no_progress (with_reducible apply keep_at_lpm; on_goal 2 => simp [← hP]))
    | split)

theorem frame_writePrefix (s : State) (m : LpmSt) (e : LpmEntry) : s.only (State.writePrefix s m e) [.reck, .lpm] (regsOf ["LPM_USED", "LPM_V4_COUNT", "LPM_V6_COUNT"]) := by
  unfold State.writePrefix
  generalize hP : ([.reck, .lpm] : List Part) = P
  generalize hL : (["LPM_USED", "LPM_V4_COUNT", "LPM_V6_COUNT"] : List String) = L
  repeat (first
    | with_reducible exact keep_refl _ _ _
    | ((try lift_lets -underBinder); with_reducible intro y; clear_value y)
    | (with_reducible apply keep_of (frame_requestMoves ..); on_goal 2 => simp [← hP]
       on_goal 2 => simp [← hL])
    | (with_reducible apply keep_of (frame_setLpm ..); on_goal 2 => simp [← hP]
       on_goal 2 => simp [← hL]))

theorem frame_lpmPlace (s : State) (e : LpmEntry) (moved : Nat) : s.only (State.lpmPlace s e moved).2 [.reck, .lpm] (regsOf ["LPM_STATUS", "LPM_USED", "LPM_V4_COUNT", "LPM_V6_COUNT", "LPM_PARITY_LOC", "LPM_PARITY_CNT"]) := by
  unfold State.lpmPlace
  generalize hP : ([.reck, .lpm] : List Part) = P
  generalize hL : (["LPM_STATUS", "LPM_USED", "LPM_V4_COUNT", "LPM_V6_COUNT", "LPM_PARITY_LOC", "LPM_PARITY_CNT"] : List String) = L
  repeat (first
    | with_reducible exact keep_refl _ _ _
    | (dsimp -zeta only)
    | ((try lift_lets -underBinder); with_reducible intro y; clear_value y)
    | with_reducible apply keep_ifp
    | (with_reducible apply keep_on; on_goal 2 => first | assumption | (with_reducible apply reg_LPM_STATUS_FULL; simp [← hL]))
    | (with_reducible apply keep_of (frame_writePrefix ..); on_goal 2 => simp [← hP]
       on_goal 2 => simp [← hL])
    | (with_reducible apply keep_of (frame_checkUnits ..); on_goal 2 => simp [← hP]
       on_goal 2 => simp [← hL])
    | split)

theorem frame_lpmPut (s : State) (e : LpmEntry) : s.only (State.lpmPut s e) [.lpm] (regsOf ["LPM_USED", "LPM_V4_COUNT", "LPM_V6_COUNT"]) := by
  unfold State.lpmPut
  generalize hP : ([.lpm] : List Part) = P
  generalize hL : (["LPM_USED", "LPM_V4_COUNT", "LPM_V6_COUNT"] : List String) = L
  repeat (first
    | with_reducible exact keep_refl _ _ _
    | ((try lift_lets -underBinder); with_reducible intro y; clear_value y)
    | (with_reducible apply keep_of (frame_setLpm ..); on_goal 2 => simp [← hP]
       on_goal 2 => simp [← hL]))

theorem frame_coreLpmInsert (c : CmdIn) (s : State) : s.only (coreLpmInsert c s).2 [.reck, .lpm, .pair] (regsOf ["LPM_STATUS", "LPM_USED", "LPM_V4_COUNT", "LPM_V6_COUNT", "LPM_PARITY_LOC", "LPM_PARITY_CNT", "PAIR_MIRROR_LEVEL"]) := by
  unfold coreLpmInsert
  generalize hP : ([.reck, .lpm, .pair] : List Part) = P
  generalize hL : (["LPM_STATUS", "LPM_USED", "LPM_V4_COUNT", "LPM_V6_COUNT", "LPM_PARITY_LOC", "LPM_PARITY_CNT", "PAIR_MIRROR_LEVEL"] : List String) = L
  repeat (first
    | with_reducible exact keep_refl _ _ _
    | (dsimp -zeta only)
    | with_reducible refine keep_triple (by assumption) ?_
    | ((try lift_lets -underBinder); with_reducible intro y; clear_value y)
    | with_reducible apply keep_if
    | with_reducible apply keep_ifp
    | (with_reducible apply keep_of (frame_lpmAccess ..); on_goal 2 => simp [← hP]
       on_goal 2 => simp [← hL])
    | (with_reducible apply keep_of (frame_lpmPlace ..); on_goal 2 => simp [← hP]
       on_goal 2 => simp [← hL])
    | (with_reducible apply keep_of (frame_mirrorLpm ..); on_goal 2 => simp [← hP]
       on_goal 2 => simp [← hL])
    | (with_reducible apply keep_of (frame_lpmPut ..); on_goal 2 => simp [← hP]
       on_goal 2 => simp [← hL])
    | split)

theorem frame_insertStep (s : State) (c : CmdIn) : s.onlyIfP (State.insertStep s c) [.lpm] (regsOf ["LPM_STATUS", "LPM_USED", "LPM_V4_COUNT", "LPM_V6_COUNT", "LPM_PARITY_LOC", "LPM_PARITY_CNT"]) := by
  unfold State.insertStep
  generalize hP : ([.lpm] : List Part) = P
  generalize hL : (["LPM_STATUS", "LPM_USED", "LPM_V4_COUNT", "LPM_V6_COUNT", "LPM_PARITY_LOC", "LPM_PARITY_CNT"] : List String) = L
  repeat (first
    | with_reducible exact keep_refl _ _ _
    | with_reducible exact tryp_none
    | (with_reducible apply tryp_of (frame_moveStep ..); on_goal 2 => simp [← hP]
       on_goal 2 => simp [← hL])
    | ((try lift_lets -underBinder); with_reducible intro y; clear_value y)
    | split)

theorem frame_coreLpmDelete (c : CmdIn) (s : State) : s.only (coreLpmDelete c s).2 [.lpm, .pair] (regsOf ["LPM_STATUS", "LPM_USED", "LPM_V4_COUNT", "LPM_V6_COUNT", "LPM_PARITY_LOC", "LPM_PARITY_CNT", "PAIR_MIRROR_LEVEL"]) := by
  unfold coreLpmDelete
  generalize hP : ([.lpm, .pair] : List Part) = P
  generalize hL : (["LPM_STATUS", "LPM_USED", "LPM_V4_COUNT", "LPM_V6_COUNT", "LPM_PARITY_LOC", "LPM_PARITY_CNT", "PAIR_MIRROR_LEVEL"] : List String) = L
  repeat (first
    | with_reducible exact keep_refl _ _ _
    | (dsimp -zeta only)
    | with_reducible refine keep_triple (by assumption) ?_
    | with_reducible apply keep_ifp
    | (with_reducible apply keep_of (frame_lpmAccess ..); on_goal 2 => simp [← hP]
       on_goal 2 => simp [← hL])
    | (with_reducible apply keep_of (frame_mirrorLpm ..); on_goal 2 => simp [← hP]
       on_goal 2 => simp [← hL])
    | (with_reducible apply keep_of (frame_lpmRemove ..); on_goal 2 => simp [← hP]
       on_goal 2 => simp [← hL])
    | split)

theorem frame_coreLpmSearch (c : CmdIn) (s : State) : s.only (coreLpmSearch c s).2 [.lpm] (regsOf ["LPM_STATUS", "LPM_USED", "LPM_V4_COUNT", "LPM_V6_COUNT", "LPM_PARITY_LOC", "LPM_PARITY_CNT"]) := by
  unfold coreLpmSearch
  generalize hP : ([.lpm] : List Part) = P
  generalize hL : (["LPM_STATUS", "LPM_USED", "LPM_V4_COUNT", "LPM_V6_COUNT", "LPM_PARITY_LOC", "LPM_PARITY_CNT"] : List String) = L
  repeat (first
    | with_reducible exact keep_refl _ _ _
    | (dsimp -zeta only)
    | with_reducible refine keep_triple (by assumption) ?_
    | with_reducible apply keep_ifp
    | (with_reducible apply keep_of (frame_lpmAccess ..); on_goal 2 => simp [← hP]
       on_goal 2 => simp [← hL])
    | split)

theorem frame_coreLpmMatch (c : CmdIn) (s : State) : s.only (coreLpmMatch c s).2 [.lpm] (regsOf ["LPM_STATUS", "LPM_USED", "LPM_V4_COUNT", "LPM_V6_COUNT", "LPM_PARITY_LOC", "LPM_PARITY_CNT"]) := by
  unfold coreLpmMatch
  generalize hP : ([.lpm] : List Part) = P
  generalize hL : (["LPM_STATUS", "LPM_USED", "LPM_V4_COUNT", "LPM_V6_COUNT", "LPM_PARITY_LOC", "LPM_PARITY_CNT"] : List String) = L
  repeat (first
    | with_reducible exact keep_refl _ _ _
    | (dsimp -zeta only)
    | with_reducible refine keep_triple (by assumption) ?_
    | ((try lift_lets -underBinder); with_reducible intro y; clear_value y)
    | with_reducible apply keep_ifp
    | (with_reducible apply keep_of (frame_lpmMatch ..); on_goal 2 => simp [← hP]
       on_goal 2 => simp [← hL])
    | split)

theorem frame_coreLpmNext (c : CmdIn) (s : State) : s.only (coreLpmNext c s).2 [.lpm] (regsOf ["LPM_STATUS", "LPM_USED", "LPM_V4_COUNT", "LPM_V6_COUNT", "LPM_PARITY_LOC", "LPM_PARITY_CNT"]) := by
  unfold coreLpmNext
  generalize hP : ([.lpm] : List Part) = P
  generalize hL : (["LPM_STATUS", "LPM_USED", "LPM_V4_COUNT", "LPM_V6_COUNT", "LPM_PARITY_LOC", "LPM_PARITY_CNT"] : List String) = L
  repeat (first
    | with_reducible exact keep_refl _ _ _
    | (dsimp -zeta only)
    | ((try lift_lets -underBinder); with_reducible intro y; clear_value y)
    | with_reducible apply keep_ifp
    | (with_reducible apply keep_of (frame_lpmParity ..); on_goal 2 => simp [← hP]
       on_goal 2 => simp [← hL])
    | split)

theorem frame_lpmFlushRange (s : State) (c : CmdIn) (began : Nat) (from_ : Nat) (to_ : Nat) : s.only (State.lpmFlushRange s c began from_ to_).2 [.lpm, .pair] (regsOf ["LPM_STATUS", "LPM_USED", "LPM_V4_COUNT", "LPM_V6_COUNT", "LPM_PARITY_LOC", "LPM_PARITY_CNT", "PAIR_MIRROR_LEVEL"]) := by
  unfold State.lpmFlushRange
  generalize hP : ([.lpm, .pair] : List Part) = P
  generalize hL : (["LPM_STATUS", "LPM_USED", "LPM_V4_COUNT", "LPM_V6_COUNT", "LPM_PARITY_LOC", "LPM_PARITY_CNT", "PAIR_MIRROR_LEVEL"] : List String) = L
  repeat (first
    | with_reducible exact keep_refl _ _ _
    | (dsimp -zeta only)
    | ((try lift_lets -underBinder); with_reducible intro y; clear_value y)
    | with_reducible apply keep_ifp
    | with_reducible refine keep_foldlp ?_ (fun u a => ?_)
    | (with_reducible apply keep_of (frame_lpmParity ..); on_goal 2 => simp [← hP]
       on_goal 2 => simp [← hL])
    | (with_reducible apply keep_of (frame_mirrorLpm ..); on_goal 2 => simp [← hP]
       on_goal 2 => simp [← hL])
    | (with_reducible apply keep_of (frame_lpmRemove ..); on_goal 2 => simp [← hP]
       on_goal 2 => simp [← hL]))

theorem frame_coreLpmFlush (c : CmdIn) (s : State) : s.only (coreLpmFlush c s).2 [.lpm, .pair] (regsOf ["LPM_STATUS", "LPM_USED", "LPM_V4_COUNT", "LPM_V6_COUNT", "LPM_PARITY_LOC", "LPM_PARITY_CNT", "PAIR_MIRROR_LEVEL"]) := by
  unfold coreLpmFlush
  generalize hP : ([.lpm, .pair] : List Part) = P
  generalize hL : (["LPM_STATUS", "LPM_USED", "LPM_V4_COUNT", "LPM_V6_COUNT", "LPM_PARITY_LOC", "LPM_PARITY_CNT", "PAIR_MIRROR_LEVEL"] : List String) = L
  repeat (first
    | with_reducible exact keep_refl _ _ _
    | (dsimp -zeta only)
    | ((try lift_lets -underBinder); with_reducible intro y; clear_value y)
    | with_reducible apply keep_ifp
    | (with_reducible apply keep_of (frame_lpmFlushRange ..); on_goal 2 => simp [← hP]
       on_goal 2 => simp [← hL]))

theorem frame_modFlow (s : State) (f : FlowSt → FlowSt) : s.only (State.modFlow s f) [.flow] (regsOf []) := by
  unfold State.modFlow
  generalize hP : ([.flow] : List Part) = P
  generalize hL : ([] : List String) = L
  repeat (first
    | with_reducible exact keep_refl _ _ _
    | (fail_if_no_progress (with_reducible apply keep_at_flow; on_goal 2 => simp [← hP])))

theorem frame_setContexts (s : State) (m : SMap Context) : s.only (State.setContexts s m) [.flow] (regsOf ["FLOW_USED"]) := by
  unfold State.setContexts
  generalize hP : ([.flow] : List Part) = P
  generalize hL : (["FLOW_USED"] : List String) = L
  repeat (first
    | with_reducible exact keep_refl _ _ _
    | (with_reducible apply keep_set; on_goal 2 => first | assumption | (with_reducible apply reg_FLOW_USED_USED; simp [← hL]))
    | (with_reducible apply keep_modFlow; on_goal 2 => simp [← hP]))

theorem frame_soil (s : State) (index : Nat) : s.only (State.soil s index) [.flow] (regsOf []) := by
  unfold State.soil
  generalize hP : ([.flow] : List Part) = P
  generalize hL : ([] : List String) = L
  repeat (first
    | with_reducible exact keep_refl _ _ _
    | (with_reducible apply keep_modFlow; on_goal 2 => simp [← hP]))

theorem frame_uncache (s : State) (index : Nat) : s.only (State.uncache s index) [.flow] (regsOf []) := by
  unfold State.uncache
  generalize hP : ([.flow] : List Part) = P
  generalize hL : ([] : List String) = L
  repeat (first
    | with_reducible exact keep_refl _ _ _
    | (with_reducible apply keep_modFlow; on_goal 2 => simp [← hP]))

theorem frame_flowPoison (s : State) (key : Bool) (index : Nat) : s.only (State.flowPoison s key index) [] (regsOf ["FLOW_STATUS", "FLOW_POISON_LOC"]) := by
  unfold State.flowPoison
  generalize hP : ([] : List Part) = P
  generalize hL : (["FLOW_STATUS", "FLOW_POISON_LOC"] : List String) = L
  repeat (first
    | with_reducible exact keep_refl _ _ _
    | (with_reducible apply keep_set; on_goal 2 => first | assumption | (with_reducible apply reg_FLOW_POISON_LOC_KEY; simp [← hL]) | (with_reducible apply reg_FLOW_POISON_LOC_INDEX; simp [← hL]) | (with_reducible apply reg_FLOW_STATUS_POISON; simp [← hL]))
    | (with_reducible apply keep_on; on_goal 2 => first | assumption | (with_reducible apply reg_FLOW_POISON_LOC_KEY; simp [← hL]) | (with_reducible apply reg_FLOW_POISON_LOC_INDEX; simp [← hL]) | (with_reducible apply reg_FLOW_STATUS_POISON; simp [← hL]))
    | (with_reducible apply keep_setB; on_goal 2 => first | assumption | (with_reducible apply reg_FLOW_POISON_LOC_KEY; simp [← hL]) | (with_reducible apply reg_FLOW_POISON_LOC_INDEX; simp [← hL]) | (with_reducible apply reg_FLOW_STATUS_POISON; simp [← hL])))

theorem frame_storeContext (s : State) (index : Nat) : s.only (State.storeContext s index) [.flow, .dram] (regsOf ["DRAM_STATUS", "DRAM_ROW_GUARD_CNT"]) := by
  unfold State.storeContext
  generalize hP : ([.flow, .dram] : List Part) = P
  generalize hL : (["DRAM_STATUS", "DRAM_ROW_GUARD_CNT"] : List String) = L
  repeat (first
    | with_reducible exact keep_refl _ _ _
    | with_reducible apply keep_if
    | (with_reducible apply keep_of (frame_soil ..); on_goal 2 => simp [← hP]
       on_goal 2 => simp [← hL])
    | (with_reducible apply keep_of (frame_dramWrite ..); on_goal 2 => simp [← hP]
       on_goal 2 => simp [← hL]))

theorem frame_poisonContext (s : State) (index : Nat) : s.only (State.poisonContext s index) [.flow, .dram] (regsOf ["FLOW_STATUS", "FLOW_POISON_LOC", "DRAM_STATUS", "DRAM_ROW_GUARD_CNT"]) := by
  unfold State.poisonContext
  generalize hP : ([.flow, .dram] : List Part) = P
  generalize hL : (["FLOW_STATUS", "FLOW_POISON_LOC", "DRAM_STATUS", "DRAM_ROW_GUARD_CNT"] : List String) = L
  repeat (first
    | with_reducible exact keep_refl _ _ _
    | ((try lift_lets -underBinder); with_reducible intro y; clear_value y)
    | (with_reducible apply keep_modFlow; on_goal 2 => simp [← hP])
    | (with_reducible apply keep_of (frame_storeContext ..); on_goal 2 => simp [← hP]
       on_goal 2 => simp [← hL])
    | (with_reducible apply keep_of (frame_flowPoison ..); on_goal 2 => simp [← hP]
       on_goal 2 => simp [← hL])
    | split)

theorem frame_loseKey (s : State) (index : Nat) : s.only (State.loseKey s index) [.flow, .dram] (regsOf ["FLOW_STATUS", "FLOW_USED", "FLOW_POISON_LOC", "DRAM_STATUS", "DRAM_ROW_GUARD_CNT"]) := by
  unfold State.loseKey
  generalize hP : ([.flow, .dram] : List Part) = P
  generalize hL : (["FLOW_STATUS", "FLOW_USED", "FLOW_POISON_LOC", "DRAM_STATUS", "DRAM_ROW_GUARD_CNT"] : List String) = L
  repeat (first
    | with_reducible exact keep_refl _ _ _
    | (with_reducible apply keep_of (frame_dramWrite ..); on_goal 2 => simp [← hP]
       on_goal 2 => simp [← hL])
    | (with_reducible apply keep_of (frame_flowPoison ..); on_goal 2 => simp [← hP]
       on_goal 2 => simp [← hL])
    | (with_reducible apply keep_of (frame_uncache ..); on_goal 2 => simp [← hP]
       on_goal 2 => simp [← hL])
    | (with_reducible apply keep_of (frame_setContexts ..); on_goal 2 => simp [← hP]
       on_goal 2 => simp [← hL]))

theorem frame_contextFound (s : State) (index : Nat) (v0 : FetchResult) : s.only (State.contextFound s index v0) [.flow, .dram] (regsOf ["FLOW_STATUS", "FLOW_USED", "FLOW_POISON_LOC", "DRAM_STATUS", "DRAM_ROW_GUARD_CNT"]) := by
  unfold State.contextFound
  generalize hP : ([.flow, .dram] : List Part) = P
  generalize hL : (["FLOW_STATUS", "FLOW_USED", "FLOW_POISON_LOC", "DRAM_STATUS", "DRAM_ROW_GUARD_CNT"] : List String) = L
  repeat (first
    | with_reducible exact keep_refl _ _ _
    | (with_reducible apply keep_of (frame_poisonContext ..); on_goal 2 => simp [← hP]
       on_goal 2 => simp [← hL])
    | (with_reducible apply keep_of (frame_loseKey ..); on_goal 2 => simp [← hP]
       on_goal 2 => simp [← hL])
    | split)

theorem frame_meetCache (s : State) (index : Nat) : s.only (State.meetCache s index) [.flow, .dram] (regsOf ["FLOW_STATUS", "FLOW_USED", "FLOW_POISON_LOC", "DRAM_STATUS", "DRAM_ROW_GUARD_CNT"]) := by
  unfold State.meetCache
  generalize hP : ([.flow, .dram] : List Part) = P
  generalize hL : (["FLOW_STATUS", "FLOW_USED", "FLOW_POISON_LOC", "DRAM_STATUS", "DRAM_ROW_GUARD_CNT"] : List String) = L
  repeat (first
    | with_reducible exact keep_refl _ _ _
    | with_reducible apply keep_if
    | (with_reducible apply keep_modFlow; on_goal 2 => simp [← hP])
    | (with_reducible apply keep_of (frame_contextFound ..); on_goal 2 => simp [← hP]
       on_goal 2 => simp [← hL]))

theorem frame_cacheUse (s : State) (index : Nat) : s.only (State.cacheUse s index) [.flow, .dram] (regsOf ["FLOW_STATUS", "FLOW_USED", "FLOW_POISON_LOC", "DRAM_STATUS", "DRAM_ROW_GUARD_CNT"]) := by
  unfold State.cacheUse
  generalize hP : ([.flow, .dram] : List Part) = P
  generalize hL : (["FLOW_STATUS", "FLOW_USED", "FLOW_POISON_LOC", "DRAM_STATUS", "DRAM_ROW_GUARD_CNT"] : List String) = L
  repeat (first
    | with_reducible assumption
    | with_reducible exact keep_refl _ _ _
    | ((try lift_lets -underBinder); with_reducible intro y; refine cut_at (A := State.only s y P (regsOf L)) ?_ ?_; on_goal 2 => (intro hy; clear_value y)
       unfold y)
    | ((try lift_lets -underBinder); with_reducible intro y; clear_value y)
    | with_reducible refine keep_foldl ?_ (fun u a => ?_)
    | (with_reducible apply keep_modFlow; on_goal 2 => simp [← hP])
    | (with_reducible apply keep_of (frame_meetCache ..); on_goal 2 => simp [← hP]
       on_goal 2 => simp [← hL])
    | (with_reducible apply keep_of (frame_dramWrite ..); on_goal 2 => simp [← hP]
       on_goal 2 => simp [← hL]))

theorem frame_readTags (s : State) (key : List Byte) (r : FetchRead) : s.only (State.readTags s key r).2 [.dram] (regsOf ["DRAM_STATUS", "DRAM_ERR_LOC", "DRAM_CORR_CNT", "DRAM_UNCORR_CNT", "DRAM_ROW_GUARD_CNT"]) := by
  unfold State.readTags
  generalize hP : ([.dram] : List Part) = P
  generalize hL : (["DRAM_STATUS", "DRAM_ERR_LOC", "DRAM_CORR_CNT", "DRAM_UNCORR_CNT", "DRAM_ROW_GUARD_CNT"] : List String) = L
  repeat (first
    | with_reducible exact keep_refl _ _ _
    | (dsimp -zeta only)
    | ((try lift_lets -underBinder); with_reducible intro y; clear_value y)
    | (with_reducible apply keep_of (frame_dramRead ..); on_goal 2 => simp [← hP]
       on_goal 2 => simp [← hL]))

theorem frame_readPlace (s : State) (index : Nat) (o : ReadOutcome) : s.only (State.readPlace s index o).2 [.dram] (regsOf ["DRAM_STATUS", "DRAM_ERR_LOC", "DRAM_CORR_CNT", "DRAM_UNCORR_CNT", "DRAM_ROW_GUARD_CNT"]) := by
  unfold State.readPlace
  generalize hP : ([.dram] : List Part) = P
  generalize hL : (["DRAM_STATUS", "DRAM_ERR_LOC", "DRAM_CORR_CNT", "DRAM_UNCORR_CNT", "DRAM_ROW_GUARD_CNT"] : List String) = L
  repeat (first
    | with_reducible exact keep_refl _ _ _
    | (dsimp -zeta only)
    | (with_reducible apply keep_of (frame_dramRead ..); on_goal 2 => simp [← hP]
       on_goal 2 => simp [← hL]))

theorem frame_fetchContext (s : State) (index : Nat) (key : List Byte) (r : FetchRead) : s.only (State.fetchContext s index key r).2 [.dram] (regsOf ["DRAM_STATUS", "DRAM_ERR_LOC", "DRAM_CORR_CNT", "DRAM_UNCORR_CNT", "DRAM_ROW_GUARD_CNT"]) := by
  unfold State.fetchContext
  generalize hP : ([.dram] : List Part) = P
  generalize hL : (["DRAM_STATUS", "DRAM_ERR_LOC", "DRAM_CORR_CNT", "DRAM_UNCORR_CNT", "DRAM_ROW_GUARD_CNT"] : List String) = L
  repeat (first
    | with_reducible exact keep_refl _ _ _
    | (dsimp -zeta only)
    | (with_reducible apply keep_of (frame_readTags ..); on_goal 2 => simp [← hP]
       on_goal 2 => simp [← hL])
    | (with_reducible apply keep_of (frame_readPlace ..); on_goal 2 => simp [← hP]
       on_goal 2 => simp [← hL]))

theorem frame_reachContext (s : State) (k : List Byte) : s.only (State.reachContext s k) [.flow, .dram] (regsOf ["FLOW_STATUS", "FLOW_USED", "FLOW_POISON_LOC", "DRAM_STATUS", "DRAM_ERR_LOC", "DRAM_CORR_CNT", "DRAM_UNCORR_CNT", "DRAM_ROW_GUARD_CNT"]) := by
  unfold State.reachContext
  generalize hP : ([.flow, .dram] : List Part) = P
  generalize hL : (["FLOW_STATUS", "FLOW_USED", "FLOW_POISON_LOC", "DRAM_STATUS", "DRAM_ERR_LOC", "DRAM_CORR_CNT", "DRAM_UNCORR_CNT", "DRAM_ROW_GUARD_CNT"] : List String) = L
  repeat (first
    | with_reducible exact keep_refl _ _ _
    | (dsimp -zeta only)
    | with_reducible apply keep_if
    | (with_reducible apply keep_of (frame_meetCache ..); on_goal 2 => simp [← hP]
       on_goal 2 => simp [← hL])
    | (with_reducible apply keep_of (frame_fetchContext ..); on_goal 2 => simp [← hP]
       on_goal 2 => simp [← hL])
    | (with_reducible apply keep_of (frame_contextFound ..); on_goal 2 => simp [← hP]
       on_goal 2 => simp [← hL])
    | (with_reducible apply keep_of (frame_readTags ..); on_goal 2 => simp [← hP]
       on_goal 2 => simp [← hL])
    | split)

theorem frame_contextUpdate (s : State) (f : Nat) : s.only (State.contextUpdate s f) [.flow, .dram] (regsOf ["FLOW_STATUS", "FLOW_USED", "FLOW_POISON_LOC", "FLOW_STALE_CNT", "DRAM_STATUS", "DRAM_ROW_GUARD_CNT"]) := by
  unfold State.contextUpdate
  generalize hP : ([.flow, .dram] : List Part) = P
  generalize hL : (["FLOW_STATUS", "FLOW_USED", "FLOW_POISON_LOC", "FLOW_STALE_CNT", "DRAM_STATUS", "DRAM_ROW_GUARD_CNT"] : List String) = L
  repeat (first
    | with_reducible assumption
    | with_reducible exact keep_refl _ _ _
    | ((try lift_lets -underBinder); with_reducible intro y; refine cut_at (A := State.only s y P (regsOf L)) ?_ ?_; on_goal 2 => (intro hy; clear_value y)
       unfold y)
    | with_reducible apply keep_if
    | (with_reducible apply keep_satAdd; on_goal 2 => first | assumption | (with_reducible apply reg_FLOW_STALE_CNT_COUNT; simp [← hL]))
    | (with_reducible apply keep_modFlow; on_goal 2 => simp [← hP])
    | (with_reducible apply keep_of (frame_meetCache ..); on_goal 2 => simp [← hP]
       on_goal 2 => simp [← hL])
    | (with_reducible apply keep_of (frame_cacheUse ..); on_goal 2 => simp [← hP]
       on_goal 2 => simp [← hL])
    | (with_reducible apply keep_of (frame_soil ..); on_goal 2 => simp [← hP]
       on_goal 2 => simp [← hL])
    | split)

theorem frame_contextLookup (s : State) (f : Nat) : s.only (State.contextLookup s f).2 [.path, .flow, .dram] (regsOf ["FLOW_STATUS", "FLOW_USED", "FLOW_POISON_LOC", "FLOW_HIT_CNT", "FLOW_BYPASS_CNT", "FLOW_STALE_CNT", "DRAM_STATUS", "DRAM_ROW_GUARD_CNT"]) := by
  unfold State.contextLookup
  generalize hP : ([.path, .flow, .dram] : List Part) = P
  generalize hL : (["FLOW_STATUS", "FLOW_USED", "FLOW_POISON_LOC", "FLOW_HIT_CNT", "FLOW_BYPASS_CNT", "FLOW_STALE_CNT", "DRAM_STATUS", "DRAM_ROW_GUARD_CNT"] : List String) = L
  repeat (first
    | with_reducible assumption
    | with_reducible exact keep_refl _ _ _
    | (dsimp -zeta only)
    | ((try lift_lets -underBinder); with_reducible intro y; refine cut_at (A := State.only s y P (regsOf L)) ?_ ?_; on_goal 2 => (intro hy; clear_value y)
       unfold y)
    | ((try lift_lets -underBinder); with_reducible intro y; clear_value y)
    | with_reducible apply keep_ifp
    | (with_reducible apply keep_on; on_goal 2 => first | assumption | (with_reducible apply reg_FLOW_BYPASS_CNT_COUNT; simp [← hL]) | (with_reducible apply reg_FLOW_STATUS_BYPASS; simp [← hL]) | (with_reducible apply reg_FLOW_HIT_CNT_COUNT; simp [← hL]))
    | (with_reducible apply keep_satAdd; on_goal 2 => first | assumption | (with_reducible apply reg_FLOW_BYPASS_CNT_COUNT; simp [← hL]) | (with_reducible apply reg_FLOW_STATUS_BYPASS; simp [← hL]) | (with_reducible apply reg_FLOW_HIT_CNT_COUNT; simp [← hL]))
    | (with_reducible apply keep_setFrame; on_goal 2 => simp [← hP])
    | (with_reducible apply keep_of (frame_meetCache ..); on_goal 2 => simp [← hP]
       on_goal 2 => simp [← hL])
    | (with_reducible apply keep_of (frame_contextUpdate ..); on_goal 2 => simp [← hP]
       on_goal 2 => simp [← hL])
    | (with_reducible apply keep_of (frame_cacheUse ..); on_goal 2 => simp [← hP]
       on_goal 2 => simp [← hL])
    | split)

theorem frame_contextArrives (s : State) (i : Nat) (k : List Byte) (r : FetchRead) : s.only (State.contextArrives s i k r).2 [.flow, .dram] (regsOf ["FLOW_STATUS", "FLOW_USED", "FLOW_POISON_LOC", "DRAM_STATUS", "DRAM_ERR_LOC", "DRAM_CORR_CNT", "DRAM_UNCORR_CNT", "DRAM_ROW_GUARD_CNT"]) := by
  unfold State.contextArrives
  generalize hP : ([.flow, .dram] : List Part) = P
  generalize hL : (["FLOW_STATUS", "FLOW_USED", "FLOW_POISON_LOC", "DRAM_STATUS", "DRAM_ERR_LOC", "DRAM_CORR_CNT", "DRAM_UNCORR_CNT", "DRAM_ROW_GUARD_CNT"] : List String) = L
  repeat (first
    | with_reducible exact keep_refl _ _ _
    | (dsimp -zeta only)
    | ((try lift_lets -underBinder); with_reducible intro y; clear_value y)
    | with_reducible apply keep_if
    | with_reducible apply keep_ifp
    | (with_reducible apply keep_of (frame_meetCache ..); on_goal 2 => simp [← hP]
       on_goal 2 => simp [← hL])
    | (with_reducible apply keep_of (frame_fetchContext ..); on_goal 2 => simp [← hP]
       on_goal 2 => simp [← hL])
    | (with_reducible apply keep_of (frame_contextFound ..); on_goal 2 => simp [← hP]
       on_goal 2 => simp [← hL]))

theorem frame_fetchDone (s : State) (f : Nat) (r : FetchRead) : s.only (State.fetchDone s f r) [.path, .flow, .dram] (regsOf ["FLOW_STATUS", "FLOW_USED", "FLOW_POISON_LOC", "FLOW_MISS_CNT", "FLOW_ABSENT_CNT", "FLOW_STALE_CNT", "DRAM_STATUS", "DRAM_ERR_LOC", "DRAM_CORR_CNT", "DRAM_UNCORR_CNT", "DRAM_ROW_GUARD_CNT"]) := by
  unfold State.fetchDone
  generalize hP : ([.path, .flow, .dram] : List Part) = P
  generalize hL : (["FLOW_STATUS", "FLOW_USED", "FLOW_POISON_LOC", "FLOW_MISS_CNT", "FLOW_ABSENT_CNT", "FLOW_STALE_CNT", "DRAM_STATUS", "DRAM_ERR_LOC", "DRAM_CORR_CNT", "DRAM_UNCORR_CNT", "DRAM_ROW_GUARD_CNT"] : List String) = L
  repeat (first
    | with_reducible assumption
    | with_reducible exact keep_refl _ _ _
    | (dsimp -zeta only)
    | ((try lift_lets -underBinder); with_reducible intro y; refine cut_at (A := State.only s y P (regsOf L)) ?_ ?_; on_goal 2 => (intro hy; clear_value y)
       unfold y)
    | ((try lift_lets -underBinder); with_reducible intro y; clear_value y)
    | with_reducible apply keep_if
    | (with_reducible apply keep_satAdd; on_goal 2 => first | assumption | (with_reducible apply reg_FLOW_MISS_CNT_COUNT; simp [← hL]) | (with_reducible apply reg_FLOW_ABSENT_CNT_COUNT; simp [← hL]))
    | (with_reducible apply keep_setFrame; on_goal 2 => simp [← hP])
    | (with_reducible apply keep_of (frame_readTags ..); on_goal 2 => simp [← hP]
       on_goal 2 => simp [← hL])
    | (with_reducible apply keep_of (frame_contextArrives ..); on_goal 2 => simp [← hP]
       on_goal 2 => simp [← hL])
    | (with_reducible apply keep_of (frame_cacheUse ..); on_goal 2 => simp [← hP]
       on_goal 2 => simp [← hL])
    | (with_reducible apply keep_of (frame_contextUpdate ..); on_goal 2 => simp [← hP]
       on_goal 2 => simp [← hL])
    | split)

theorem frame_coreFlowOpen (c : CmdIn) (s : State) : s.only (coreFlowOpen c s).2 [.flow, .dram, .pair] (regsOf ["FLOW_STATUS", "FLOW_USED", "FLOW_POISON_LOC", "DRAM_STATUS", "DRAM_ERR_LOC", "DRAM_CORR_CNT", "DRAM_UNCORR_CNT", "DRAM_ROW_GUARD_CNT", "PAIR_MIRROR_LEVEL"]) := by
  unfold coreFlowOpen
  generalize hP : ([.flow, .dram, .pair] : List Part) = P
  generalize hL : (["FLOW_STATUS", "FLOW_USED", "FLOW_POISON_LOC", "DRAM_STATUS", "DRAM_ERR_LOC", "DRAM_CORR_CNT", "DRAM_UNCORR_CNT", "DRAM_ROW_GUARD_CNT", "PAIR_MIRROR_LEVEL"] : List String) = L
  repeat (first
    | with_reducible assumption
    | with_reducible exact keep_refl _ _ _
    | (dsimp -zeta only)
    | ((try lift_lets -underBinder); with_reducible intro y; refine cut_at (A := State.only s y P (regsOf L)) ?_ ?_; on_goal 2 => (intro hy; clear_value y)
       unfold y)
    | ((try lift_lets -underBinder); with_reducible intro y; clear_value y)
    | with_reducible apply keep_ifp
    | (with_reducible apply keep_on; on_goal 2 => first | assumption | (with_reducible apply reg_FLOW_STATUS_FULL; simp [← hL]))
    | (with_reducible apply keep_of (frame_reachContext ..); on_goal 2 => simp [← hP]
       on_goal 2 => simp [← hL])
    | (with_reducible apply keep_of (frame_dramWrite ..); on_goal 2 => simp [← hP]
       on_goal 2 => simp [← hL])
    | (with_reducible apply keep_of (frame_setContexts ..); on_goal 2 => simp [← hP]
       on_goal 2 => simp [← hL])
    | (with_reducible apply keep_of (frame_mirrorItem ..); on_goal 2 => simp [← hP]
       on_goal 2 => simp [← hL])
    | split)

theorem frame_coreFlowModify (c : CmdIn) (s : State) : s.only (coreFlowModify c s).2 [.flow, .dram, .pair] (regsOf ["FLOW_STATUS", "FLOW_USED", "FLOW_POISON_LOC", "DRAM_STATUS", "DRAM_ERR_LOC", "DRAM_CORR_CNT", "DRAM_UNCORR_CNT", "DRAM_ROW_GUARD_CNT", "PAIR_MIRROR_LEVEL"]) := by
  unfold coreFlowModify
  generalize hP : ([.flow, .dram, .pair] : List Part) = P
  generalize hL : (["FLOW_STATUS", "FLOW_USED", "FLOW_POISON_LOC", "DRAM_STATUS", "DRAM_ERR_LOC", "DRAM_CORR_CNT", "DRAM_UNCORR_CNT", "DRAM_ROW_GUARD_CNT", "PAIR_MIRROR_LEVEL"] : List String) = L
  repeat (first
    | with_reducible assumption
    | with_reducible exact keep_refl _ _ _
    | (dsimp -zeta only)
    | ((try lift_lets -underBinder); with_reducible intro y; refine cut_at (A := State.only s y P (regsOf L)) ?_ ?_; on_goal 2 => (intro hy; clear_value y)
       unfold y)
    | ((try lift_lets -underBinder); with_reducible intro y; clear_value y)
    | with_reducible apply keep_ifp
    | (with_reducible apply keep_of (frame_reachContext ..); on_goal 2 => simp [← hP]
       on_goal 2 => simp [← hL])
    | (with_reducible apply keep_of (frame_setContexts ..); on_goal 2 => simp [← hP]
       on_goal 2 => simp [← hL])
    | (with_reducible apply keep_of (frame_storeContext ..); on_goal 2 => simp [← hP]
       on_goal 2 => simp [← hL])
    | (with_reducible apply keep_of (frame_mirrorItem ..); on_goal 2 => simp [← hP]
       on_goal 2 => simp [← hL])
    | split)

theorem frame_coreFlowRead (c : CmdIn) (s : State) : s.only (coreFlowRead c s).2 [.flow, .dram] (regsOf ["FLOW_STATUS", "FLOW_USED", "FLOW_POISON_LOC", "DRAM_STATUS", "DRAM_ERR_LOC", "DRAM_CORR_CNT", "DRAM_UNCORR_CNT", "DRAM_ROW_GUARD_CNT"]) := by
  unfold coreFlowRead
  generalize hP : ([.flow, .dram] : List Part) = P
  generalize hL : (["FLOW_STATUS", "FLOW_USED", "FLOW_POISON_LOC", "DRAM_STATUS", "DRAM_ERR_LOC", "DRAM_CORR_CNT", "DRAM_UNCORR_CNT", "DRAM_ROW_GUARD_CNT"] : List String) = L
  repeat (first
    | with_reducible assumption
    | with_reducible exact keep_refl _ _ _
    | ((try lift_lets -underBinder); with_reducible intro y; refine cut_at (A := State.only s y P (regsOf L)) ?_ ?_; on_goal 2 => (intro hy; clear_value y)
       unfold y)
    | with_reducible apply keep_ifp
    | (with_reducible apply keep_of (frame_reachContext ..); on_goal 2 => simp [← hP]
       on_goal 2 => simp [← hL])
    | split)

theorem frame_coreFlowClear (c : CmdIn) (s : State) : s.only (coreFlowClear c s).2 [.flow, .dram] (regsOf ["FLOW_STATUS", "FLOW_USED", "FLOW_POISON_LOC", "DRAM_STATUS", "DRAM_ERR_LOC", "DRAM_CORR_CNT", "DRAM_UNCORR_CNT", "DRAM_ROW_GUARD_CNT"]) := by
  unfold coreFlowClear
  generalize hP : ([.flow, .dram] : List Part) = P
  generalize hL : (["FLOW_STATUS", "FLOW_USED", "FLOW_POISON_LOC", "DRAM_STATUS", "DRAM_ERR_LOC", "DRAM_CORR_CNT", "DRAM_UNCORR_CNT", "DRAM_ROW_GUARD_CNT"] : List String) = L
  repeat (first
    | with_reducible assumption
    | with_reducible exact keep_refl _ _ _
    | (dsimp -zeta only)
    | ((try lift_lets -underBinder); with_reducible intro y; refine cut_at (A := State.only s y P (regsOf L)) ?_ ?_; on_goal 2 => (intro hy; clear_value y)
       unfold y)
    | with_reducible apply keep_ifp
    | (with_reducible apply keep_of (frame_reachContext ..); on_goal 2 => simp [← hP]
       on_goal 2 => simp [← hL])
    | (with_reducible apply keep_of (frame_setContexts ..); on_goal 2 => simp [← hP]
       on_goal 2 => simp [← hL])
    | (with_reducible apply keep_of (frame_storeContext ..); on_goal 2 => simp [← hP]
       on_goal 2 => simp [← hL])
    | split)

theorem frame_coreFlowClose (c : CmdIn) (s : State) : s.only (coreFlowClose c s).2 [.flow, .dram, .pair] (regsOf ["FLOW_STATUS", "FLOW_USED", "FLOW_POISON_LOC", "DRAM_STATUS", "DRAM_ERR_LOC", "DRAM_CORR_CNT", "DRAM_UNCORR_CNT", "DRAM_ROW_GUARD_CNT", "PAIR_MIRROR_LEVEL"]) := by
  unfold coreFlowClose
  generalize hP : ([.flow, .dram, .pair] : List Part) = P
  generalize hL : (["FLOW_STATUS", "FLOW_USED", "FLOW_POISON_LOC", "DRAM_STATUS", "DRAM_ERR_LOC", "DRAM_CORR_CNT", "DRAM_UNCORR_CNT", "DRAM_ROW_GUARD_CNT", "PAIR_MIRROR_LEVEL"] : List String) = L
  repeat (first
    | with_reducible assumption
    | with_reducible exact keep_refl _ _ _
    | (dsimp -zeta only)
    | ((try lift_lets -underBinder); with_reducible intro y; refine cut_at (A := State.only s y P (regsOf L)) ?_ ?_; on_goal 2 => (intro hy; clear_value y)
       unfold y)
    | with_reducible apply keep_ifp
    | (with_reducible apply keep_modFlow; on_goal 2 => simp [← hP])
    | (with_reducible apply keep_of (frame_reachContext ..); on_goal 2 => simp [← hP]
       on_goal 2 => simp [← hL])
    | (with_reducible apply keep_of (frame_uncache ..); on_goal 2 => simp [← hP]
       on_goal 2 => simp [← hL])
    | (with_reducible apply keep_of (frame_setContexts ..); on_goal 2 => simp [← hP]
       on_goal 2 => simp [← hL])
    | (with_reducible apply keep_of (frame_dramWrite ..); on_goal 2 => simp [← hP]
       on_goal 2 => simp [← hL])
    | (with_reducible apply keep_of (frame_mirrorItem ..); on_goal 2 => simp [← hP]
       on_goal 2 => simp [← hL])
    | split)

theorem frame_reachIndex (s : State) (i : Nat) : s.only (State.reachIndex s i) [.flow, .dram] (regsOf ["FLOW_STATUS", "FLOW_USED", "FLOW_POISON_LOC", "DRAM_STATUS", "DRAM_ERR_LOC", "DRAM_CORR_CNT", "DRAM_UNCORR_CNT", "DRAM_ROW_GUARD_CNT"]) := by
  unfold State.reachIndex
  generalize hP : ([.flow, .dram] : List Part) = P
  generalize hL : (["FLOW_STATUS", "FLOW_USED", "FLOW_POISON_LOC", "DRAM_STATUS", "DRAM_ERR_LOC", "DRAM_CORR_CNT", "DRAM_UNCORR_CNT", "DRAM_ROW_GUARD_CNT"] : List String) = L
  repeat (first
    | with_reducible exact keep_refl _ _ _
    | (dsimp -zeta only)
    | with_reducible apply keep_if
    | (with_reducible apply keep_of (frame_meetCache ..); on_goal 2 => simp [← hP]
       on_goal 2 => simp [← hL])
    | (with_reducible apply keep_of (frame_readPlace ..); on_goal 2 => simp [← hP]
       on_goal 2 => simp [← hL])
    | (with_reducible apply keep_of (frame_contextFound ..); on_goal 2 => simp [← hP]
       on_goal 2 => simp [← hL]))

theorem frame_coreFlowNext (c : CmdIn) (s : State) : s.only (coreFlowNext c s).2 [.flow, .dram] (regsOf ["FLOW_STATUS", "FLOW_USED", "FLOW_POISON_LOC", "DRAM_STATUS", "DRAM_ERR_LOC", "DRAM_CORR_CNT", "DRAM_UNCORR_CNT", "DRAM_ROW_GUARD_CNT"]) := by
  unfold coreFlowNext
  generalize hP : ([.flow, .dram] : List Part) = P
  generalize hL : (["FLOW_STATUS", "FLOW_USED", "FLOW_POISON_LOC", "DRAM_STATUS", "DRAM_ERR_LOC", "DRAM_CORR_CNT", "DRAM_UNCORR_CNT", "DRAM_ROW_GUARD_CNT"] : List String) = L
  repeat (first
    | with_reducible assumption
    | with_reducible exact keep_refl _ _ _
    | ((try lift_lets -underBinder); with_reducible intro y; refine cut_at (A := State.only s y P (regsOf L)) ?_ ?_; on_goal 2 => (intro hy; clear_value y)
       unfold y)
    | ((try lift_lets -underBinder); with_reducible intro y; clear_value y)
    | with_reducible apply keep_ifp
    | with_reducible refine keep_foldl ?_ (fun u a => ?_)
    | (with_reducible apply keep_of (frame_reachIndex ..); on_goal 2 => simp [← hP]
       on_goal 2 => simp [← hL]))


end Sys2Proof.Machine
end

