-- ==== Sys2Proof/Laws/ExtentBuffers.lean ====
section
/-! SUPPORT. What each operation of Buffers, Tally, Queues, Stamp and Egress may touch: the parts and, at any index, the registers. -/

namespace Sys2Proof.Machine

theorem frame_modBuf (s : State) (f : BufSt → BufSt) : s.only (State.modBuf s f) [.buf] (regsOf []) := by
  unfold State.modBuf
  generalize hP : ([.buf] : List Part) = P
  generalize hL : ([] : List String) = L
  repeat (first
    | with_reducible exact keep_refl _ _ _
    | (fail_if_no_progress (with_reducible apply keep_at_buf; on_goal 2 => simp [← hP])))

theorem frame_syncRequests (s : State) (port : Nat) : s.only (State.syncRequests s port) [.ports, .counters, .pair] (regsOf ["CNT_HALF_LO", "CNT_HALF_HI"]) := by
  unfold State.syncRequests
  generalize hP : ([.ports, .counters, .pair] : List Part) = P
  generalize hL : (["CNT_HALF_LO", "CNT_HALF_HI"] : List String) = L
  repeat (first
    | with_reducible assumption
    | with_reducible exact keep_refl _ _ _
    | ((try lift_lets -underBinder); with_reducible intro y; refine cut_at (A := State.only s y P (regsOf L)) ?_ ?_; on_goal 2 => (intro hy; clear_value y)
       unfold y)
    | ((try lift_lets -underBinder); with_reducible intro y; clear_value y)
    | with_reducible apply keep_if
    | with_reducible refine keep_foldl ?_ (fun u a => ?_)
    | (with_reducible apply keep_of (frame_pauseEnd ..); on_goal 2 => simp [← hP]
       on_goal 2 => simp [← hL])
    | (with_reducible apply keep_of (frame_pauseBegin ..); on_goal 2 => simp [← hP]
       on_goal 2 => simp [← hL]))

theorem frame_askPort (s : State) (pool : Nat) (port : Nat) : s.only (State.askPort s pool port) [.ports, .counters, .buf, .pair] (regsOf ["CNT_HALF_LO", "CNT_HALF_HI"]) := by
  unfold State.askPort
  generalize hP : ([.ports, .counters, .buf, .pair] : List Part) = P
  generalize hL : (["CNT_HALF_LO", "CNT_HALF_HI"] : List String) = L
  repeat (first
    | with_reducible exact keep_refl _ _ _
    | with_reducible apply keep_if
    | (with_reducible apply keep_modBuf; on_goal 2 => simp [← hP])
    | (with_reducible apply keep_of (frame_syncRequests ..); on_goal 2 => simp [← hP]
       on_goal 2 => simp [← hL]))

theorem frame_askPorts (s : State) (pool : Nat) : s.only (State.askPorts s pool) [.ports, .counters, .buf, .pair] (regsOf ["CNT_HALF_LO", "CNT_HALF_HI"]) := by
  unfold State.askPorts
  generalize hP : ([.ports, .counters, .buf, .pair] : List Part) = P
  generalize hL : (["CNT_HALF_LO", "CNT_HALF_HI"] : List String) = L
  repeat (first
    | with_reducible exact keep_refl _ _ _
    | with_reducible apply keep_if
    | with_reducible refine keep_foldl ?_ (fun u a => ?_)
    | (with_reducible apply keep_of (frame_askPort ..); on_goal 2 => simp [← hP]
       on_goal 2 => simp [← hL]))

theorem frame_xoffUpdate (s : State) (n : Nat) : s.only (State.xoffUpdate s n) [.ports, .counters, .buf, .pair] (regsOf ["CNT_HALF_LO", "CNT_HALF_HI", "BUF_STATUS", "BUF_XOFF_POOLS"]) := by
  unfold State.xoffUpdate
  generalize hP : ([.ports, .counters, .buf, .pair] : List Part) = P
  generalize hL : (["CNT_HALF_LO", "CNT_HALF_HI", "BUF_STATUS", "BUF_XOFF_POOLS"] : List String) = L
  repeat (first
    | with_reducible assumption
    | with_reducible exact keep_refl _ _ _
    | ((try lift_lets -underBinder); with_reducible intro y; refine cut_at (A := State.only s y P (regsOf L)) ?_ ?_; on_goal 2 => (intro hy; clear_value y)
       unfold y)
    | ((try lift_lets -underBinder); with_reducible intro y; clear_value y)
    | with_reducible apply keep_if
    | with_reducible refine keep_foldl ?_ (fun u a => ?_)
    | (with_reducible apply keep_on; on_goal 2 => first | assumption | (with_reducible apply reg_BUF_STATUS_XOFF; simp [← hL]) | (with_reducible apply reg_BUF_XOFF_POOLS_POOLS; simp [← hL]))
    | (with_reducible apply keep_setB; on_goal 2 => first | assumption | (with_reducible apply reg_BUF_STATUS_XOFF; simp [← hL]) | (with_reducible apply reg_BUF_XOFF_POOLS_POOLS; simp [← hL]))
    | (with_reducible apply keep_putBit; on_goal 2 => first | assumption | (with_reducible apply reg_BUF_STATUS_XOFF; simp [← hL]) | (with_reducible apply reg_BUF_XOFF_POOLS_POOLS; simp [← hL]))
    | (with_reducible apply keep_modBuf; on_goal 2 => simp [← hP])
    | (with_reducible apply keep_of (frame_askPorts ..); on_goal 2 => simp [← hP]
       on_goal 2 => simp [← hL])
    | (with_reducible apply keep_of (frame_syncRequests ..); on_goal 2 => simp [← hP]
       on_goal 2 => simp [← hL]))

theorem frame_setLanding (s : State) (pipe : Nat) (n : Nat) : s.only (State.setLanding s pipe n) [.buf] (regsOf ["BUF_LANDING"]) := by
  unfold State.setLanding
  generalize hP : ([.buf] : List Part) = P
  generalize hL : (["BUF_LANDING"] : List String) = L
  repeat (first
    | with_reducible assumption
    | with_reducible exact keep_refl _ _ _
    | ((try lift_lets -underBinder); with_reducible intro y; refine cut_at (A := State.only s y P (regsOf L)) ?_ ?_; on_goal 2 => (intro hy; clear_value y)
       unfold y)
    | ((try lift_lets -underBinder); with_reducible intro y; clear_value y)
    | (with_reducible apply keep_set; on_goal 2 => first | assumption | (with_reducible apply reg_BUF_LANDING_NOW; simp [← hL]) | (with_reducible apply reg_BUF_LANDING_MAX; simp [← hL]))
    | (with_reducible apply keep_maxTo; on_goal 2 => first | assumption | (with_reducible apply reg_BUF_LANDING_NOW; simp [← hL]) | (with_reducible apply reg_BUF_LANDING_MAX; simp [← hL]))
    | (with_reducible apply keep_modBuf; on_goal 2 => simp [← hP]))

theorem frame_chargePool (s : State) (pool : Nat) (owner : Nat) (shared : Bool) : s.only (State.chargePool s pool owner shared) [.ports, .counters, .buf, .pair] (regsOf ["CNT_HALF_LO", "CNT_HALF_HI", "BUF_POOL_USED", "BUF_POOL_SHARED", "BUF_STATUS", "BUF_XOFF_POOLS"]) := by
  unfold State.chargePool
  generalize hP : ([.ports, .counters, .buf, .pair] : List Part) = P
  generalize hL : (["CNT_HALF_LO", "CNT_HALF_HI", "BUF_POOL_USED", "BUF_POOL_SHARED", "BUF_STATUS", "BUF_XOFF_POOLS"] : List String) = L
  repeat (first
    | with_reducible assumption
    | with_reducible exact keep_refl _ _ _
    | ((try lift_lets -underBinder); with_reducible intro y; refine cut_at (A := State.only s y P (regsOf L)) ?_ ?_; on_goal 2 => (intro hy; clear_value y)
       unfold y)
    | with_reducible apply keep_if
    | (with_reducible apply keep_set; on_goal 2 => first | assumption | (with_reducible apply reg_BUF_POOL_SHARED_SHARED; simp [← hL]) | (with_reducible apply reg_BUF_POOL_USED_USED; simp [← hL]))
    | (with_reducible apply keep_modBuf; on_goal 2 => simp [← hP])
    | (with_reducible apply keep_of (frame_xoffUpdate ..); on_goal 2 => simp [← hP]
       on_goal 2 => simp [← hL])
    | (with_reducible apply keep_of (frame_askPort ..); on_goal 2 => simp [← hP]
       on_goal 2 => simp [← hL]))

theorem frame_uncharge (s : State) (b : Bead) : s.only (State.uncharge s b) [.ports, .counters, .buf, .pair] (regsOf ["CNT_HALF_LO", "CNT_HALF_HI", "BUF_POOL_USED", "BUF_POOL_SHARED", "BUF_STATUS", "BUF_XOFF_POOLS", "BUF_LANDING"]) := by
  unfold State.uncharge
  generalize hP : ([.ports, .counters, .buf, .pair] : List Part) = P
  generalize hL : (["CNT_HALF_LO", "CNT_HALF_HI", "BUF_POOL_USED", "BUF_POOL_SHARED", "BUF_STATUS", "BUF_XOFF_POOLS", "BUF_LANDING"] : List String) = L
  repeat (first
    | with_reducible assumption
    | with_reducible exact keep_refl _ _ _
    | ((try lift_lets -underBinder); with_reducible intro y; refine cut_at (A := State.only s y P (regsOf L)) ?_ ?_; on_goal 2 => (intro hy; clear_value y)
       unfold y)
    | with_reducible apply keep_if
    | (with_reducible apply keep_set; on_goal 2 => first | assumption | (with_reducible apply reg_BUF_POOL_SHARED_SHARED; simp [← hL]) | (with_reducible apply reg_BUF_POOL_USED_USED; simp [← hL]))
    | (with_reducible apply keep_modBuf; on_goal 2 => simp [← hP])
    | (with_reducible apply keep_of (frame_setLanding ..); on_goal 2 => simp [← hP]
       on_goal 2 => simp [← hL])
    | (with_reducible apply keep_of (frame_xoffUpdate ..); on_goal 2 => simp [← hP]
       on_goal 2 => simp [← hL])
    | split)

theorem frame_putBead (s : State) (n : Nat) (b : Bead) : s.only (State.putBead s n b) [.buf] (regsOf []) := by
  unfold State.putBead
  generalize hP : ([.buf] : List Part) = P
  generalize hL : ([] : List String) = L
  repeat (first
    | with_reducible exact keep_refl _ _ _
    | (with_reducible apply keep_modBuf; on_goal 2 => simp [← hP]))

theorem frame_takeLanding (s : State) (pipe : Nat) (owner : Nat) (count : Nat) : s.onlyIfP (State.takeLanding s pipe owner count) [.buf] (regsOf ["BUF_LANDING"]) := by
  unfold State.takeLanding
  generalize hP : ([.buf] : List Part) = P
  generalize hL : (["BUF_LANDING"] : List String) = L
  repeat (first
    | with_reducible exact keep_refl _ _ _
    | with_reducible exact tryp_none
    | with_reducible apply tryp_some
    | (with_reducible apply keep_of (frame_setLanding ..); on_goal 2 => simp [← hP]
       on_goal 2 => simp [← hL])
    | (with_reducible apply keep_of (frame_putBead ..); on_goal 2 => simp [← hP]
       on_goal 2 => simp [← hL])
    | split)

theorem frame_takePool (s : State) (pool : Nat) (owner : Nat) (count : Nat) : s.onlyIfP (State.takePool s pool owner count) [.ports, .counters, .buf, .pair] (regsOf ["CNT_HALF_LO", "CNT_HALF_HI", "BUF_POOL_USED", "BUF_POOL_SHARED", "BUF_STATUS", "BUF_XOFF_POOLS"]) := by
  unfold State.takePool
  generalize hP : ([.ports, .counters, .buf, .pair] : List Part) = P
  generalize hL : (["CNT_HALF_LO", "CNT_HALF_HI", "BUF_POOL_USED", "BUF_POOL_SHARED", "BUF_STATUS", "BUF_XOFF_POOLS"] : List String) = L
  repeat (first
    | with_reducible exact keep_refl _ _ _
    | with_reducible exact tryp_none
    | with_reducible apply tryp_some
    | (with_reducible apply keep_of (frame_chargePool ..); on_goal 2 => simp [← hP]
       on_goal 2 => simp [← hL])
    | (with_reducible apply keep_of (frame_putBead ..); on_goal 2 => simp [← hP]
       on_goal 2 => simp [← hL])
    | split)

theorem frame_takeReturn (s : State) : s.onlyIfP (State.takeReturn s) [.buf] (regsOf []) := by
  unfold State.takeReturn
  generalize hP : ([.buf] : List Part) = P
  generalize hL : ([] : List String) = L
  repeat (first
    | with_reducible exact keep_refl _ _ _
    | (dsimp -zeta only)
    | with_reducible exact tryp_none
    | with_reducible refine tryp_map fun a => ?_
    | ((try lift_lets -underBinder); with_reducible intro y; clear_value y)
    | (with_reducible apply keep_of (frame_putBead ..); on_goal 2 => simp [← hP]
       on_goal 2 => simp [← hL])
    | split)

theorem frame_dropBead (s : State) (n : Nat) : s.only (State.dropBead s n) [.ports, .counters, .buf, .pair] (regsOf ["CNT_HALF_LO", "CNT_HALF_HI", "BUF_POOL_USED", "BUF_POOL_SHARED", "BUF_STATUS", "BUF_XOFF_POOLS", "BUF_LANDING"]) := by
  unfold State.dropBead
  generalize hP : ([.ports, .counters, .buf, .pair] : List Part) = P
  generalize hL : (["CNT_HALF_LO", "CNT_HALF_HI", "BUF_POOL_USED", "BUF_POOL_SHARED", "BUF_STATUS", "BUF_XOFF_POOLS", "BUF_LANDING"] : List String) = L
  repeat (first
    | with_reducible exact keep_refl _ _ _
    | (with_reducible apply keep_modBuf; on_goal 2 => simp [← hP])
    | (with_reducible apply keep_of (frame_uncharge ..); on_goal 2 => simp [← hP]
       on_goal 2 => simp [← hL])
    | split)

theorem frame_moveBead (s : State) (n : Nat) (pool : Nat) : s.onlyIf (State.moveBead s n pool) [.ports, .counters, .buf, .pair] (regsOf ["CNT_HALF_LO", "CNT_HALF_HI", "BUF_POOL_USED", "BUF_POOL_SHARED", "BUF_STATUS", "BUF_XOFF_POOLS", "BUF_LANDING"]) := by
  unfold State.moveBead
  generalize hP : ([.ports, .counters, .buf, .pair] : List Part) = P
  generalize hL : (["CNT_HALF_LO", "CNT_HALF_HI", "BUF_POOL_USED", "BUF_POOL_SHARED", "BUF_STATUS", "BUF_XOFF_POOLS", "BUF_LANDING"] : List String) = L
  repeat (first
    | with_reducible exact keep_refl _ _ _
    | with_reducible exact try_none
    | with_reducible apply try_some
    | (with_reducible apply keep_of (frame_chargePool ..); on_goal 2 => simp [← hP]
       on_goal 2 => simp [← hL])
    | (with_reducible apply keep_of (frame_putBead ..); on_goal 2 => simp [← hP]
       on_goal 2 => simp [← hL])
    | (with_reducible apply keep_of (frame_uncharge ..); on_goal 2 => simp [← hP]
       on_goal 2 => simp [← hL])
    | split)

theorem frame_moveBeads (pool : Nat) (v0 : List Nat) (s : State) : s.onlyIf (moveBeads pool v0 s) [.ports, .counters, .buf, .pair] (regsOf ["CNT_HALF_LO", "CNT_HALF_HI", "BUF_POOL_USED", "BUF_POOL_SHARED", "BUF_STATUS", "BUF_XOFF_POOLS", "BUF_LANDING"]) := by
  induction v0 generalizing s with
  | nil =>
    unfold moveBeads
    generalize hP : ([.ports, .counters, .buf, .pair] : List Part) = P
    generalize hL : (["CNT_HALF_LO", "CNT_HALF_HI", "BUF_POOL_USED", "BUF_POOL_SHARED", "BUF_STATUS", "BUF_XOFF_POOLS", "BUF_LANDING"] : List String) = L
    repeat (first
      | with_reducible exact keep_refl _ _ _
      | with_reducible apply try_some)
  | cons e l ih =>
    unfold moveBeads
    generalize hP : ([.ports, .counters, .buf, .pair] : List Part) = P
    generalize hL : (["CNT_HALF_LO", "CNT_HALF_HI", "BUF_POOL_USED", "BUF_POOL_SHARED", "BUF_STATUS", "BUF_XOFF_POOLS", "BUF_LANDING"] : List String) = L
    repeat (first
      | with_reducible exact keep_refl _ _ _
      | with_reducible exact try_none
      | (with_reducible apply try_of (ih ..); on_goal 2 => simp [← hP]
         on_goal 2 => simp [← hL])
      | (with_reducible apply keep_opt (by assumption) (frame_moveBead ..); on_goal 2 => simp [← hP]
         on_goal 2 => simp [← hL])
      | split)

theorem frame_badFree (s : State) (foreign : Bool) (bead : Nat) (agent : Nat) : s.only (State.badFree s foreign bead agent) [] (regsOf ["BUF_STATUS", "BUF_BAD_FREE_LOC", "BUF_BAD_FREE_CNT"]) := by
  unfold State.badFree
  generalize hP : ([] : List Part) = P
  generalize hL : (["BUF_STATUS", "BUF_BAD_FREE_LOC", "BUF_BAD_FREE_CNT"] : List String) = L
  repeat (first
    | with_reducible assumption
    | with_reducible exact keep_refl _ _ _
    | ((try lift_lets -underBinder); with_reducible intro y; refine cut_at (A := State.only s y P (regsOf L)) ?_ ?_; on_goal 2 => (intro hy; clear_value y)
       unfold y)
    | (with_reducible apply keep_set; on_goal 2 => first | assumption | (with_reducible apply reg_BUF_BAD_FREE_CNT_COUNT; simp [← hL]) | (with_reducible apply reg_BUF_STATUS_BAD_FREE; simp [← hL]) | (with_reducible apply reg_BUF_BAD_FREE_LOC_KIND; simp [← hL]) | (with_reducible apply reg_BUF_BAD_FREE_LOC_AGENT; simp [← hL]) | (with_reducible apply reg_BUF_BAD_FREE_LOC_BEAD; simp [← hL]))
    | (with_reducible apply keep_on; on_goal 2 => first | assumption | (with_reducible apply reg_BUF_BAD_FREE_CNT_COUNT; simp [← hL]) | (with_reducible apply reg_BUF_STATUS_BAD_FREE; simp [← hL]) | (with_reducible apply reg_BUF_BAD_FREE_LOC_KIND; simp [← hL]) | (with_reducible apply reg_BUF_BAD_FREE_LOC_AGENT; simp [← hL]) | (with_reducible apply reg_BUF_BAD_FREE_LOC_BEAD; simp [← hL]))
    | (with_reducible apply keep_setB; on_goal 2 => first | assumption | (with_reducible apply reg_BUF_BAD_FREE_CNT_COUNT; simp [← hL]) | (with_reducible apply reg_BUF_STATUS_BAD_FREE; simp [← hL]) | (with_reducible apply reg_BUF_BAD_FREE_LOC_KIND; simp [← hL]) | (with_reducible apply reg_BUF_BAD_FREE_LOC_AGENT; simp [← hL]) | (with_reducible apply reg_BUF_BAD_FREE_LOC_BEAD; simp [← hL]))
    | (with_reducible apply keep_satAdd; on_goal 2 => first | assumption | (with_reducible apply reg_BUF_BAD_FREE_CNT_COUNT; simp [← hL]) | (with_reducible apply reg_BUF_STATUS_BAD_FREE; simp [← hL]) | (with_reducible apply reg_BUF_BAD_FREE_LOC_KIND; simp [← hL]) | (with_reducible apply reg_BUF_BAD_FREE_LOC_AGENT; simp [← hL]) | (with_reducible apply reg_BUF_BAD_FREE_LOC_BEAD; simp [← hL])))

theorem frame_decrement (s : State) (bead : Nat) (account : BeadAccount) (agent : Nat) : s.only (State.decrement s bead account agent) [.ports, .counters, .buf, .pair] (regsOf ["CNT_HALF_LO", "CNT_HALF_HI", "BUF_POOL_USED", "BUF_POOL_SHARED", "BUF_STATUS", "BUF_XOFF_POOLS", "BUF_LANDING", "BUF_BAD_FREE_LOC", "BUF_BAD_FREE_CNT"]) := by
  unfold State.decrement
  generalize hP : ([.ports, .counters, .buf, .pair] : List Part) = P
  generalize hL : (["CNT_HALF_LO", "CNT_HALF_HI", "BUF_POOL_USED", "BUF_POOL_SHARED", "BUF_STATUS", "BUF_XOFF_POOLS", "BUF_LANDING", "BUF_BAD_FREE_LOC", "BUF_BAD_FREE_CNT"] : List String) = L
  repeat (first
    | with_reducible exact keep_refl _ _ _
    | with_reducible apply keep_if
    | (with_reducible apply keep_of (frame_badFree ..); on_goal 2 => simp [← hP]
       on_goal 2 => simp [← hL])
    | (with_reducible apply keep_of (frame_dropBead ..); on_goal 2 => simp [← hP]
       on_goal 2 => simp [← hL])
    | (with_reducible apply keep_of (frame_putBead ..); on_goal 2 => simp [← hP]
       on_goal 2 => simp [← hL])
    | split)

theorem frame_decrementAll (s : State) (beads : List Nat) (agent : Nat) : s.only (State.decrementAll s beads agent) [.ports, .counters, .buf, .pair] (regsOf ["CNT_HALF_LO", "CNT_HALF_HI", "BUF_POOL_USED", "BUF_POOL_SHARED", "BUF_STATUS", "BUF_XOFF_POOLS", "BUF_LANDING", "BUF_BAD_FREE_LOC", "BUF_BAD_FREE_CNT"]) := by
  unfold State.decrementAll
  generalize hP : ([.ports, .counters, .buf, .pair] : List Part) = P
  generalize hL : (["CNT_HALF_LO", "CNT_HALF_HI", "BUF_POOL_USED", "BUF_POOL_SHARED", "BUF_STATUS", "BUF_XOFF_POOLS", "BUF_LANDING", "BUF_BAD_FREE_LOC", "BUF_BAD_FREE_CNT"] : List String) = L
  repeat (first
    | with_reducible exact keep_refl _ _ _
    | with_reducible refine keep_foldl ?_ (fun u a => ?_)
    | (with_reducible apply keep_of (frame_decrement ..); on_goal 2 => simp [← hP]
       on_goal 2 => simp [← hL])
    | (with_reducible apply keep_of (frame_badFree ..); on_goal 2 => simp [← hP]
       on_goal 2 => simp [← hL])
    | split)

theorem frame_setCounts (s : State) (beads : List Nat) (n : Nat) : s.only (State.setCounts s beads n) [.buf] (regsOf []) := by
  unfold State.setCounts
  generalize hP : ([.buf] : List Part) = P
  generalize hL : ([] : List String) = L
  repeat (first
    | with_reducible exact keep_refl _ _ _
    | with_reducible refine keep_foldl ?_ (fun u a => ?_)
    | (with_reducible apply keep_of (frame_putBead ..); on_goal 2 => simp [← hP]
       on_goal 2 => simp [← hL])
    | split)

theorem frame_turnFrom (s : State) (pool : Nat) (start : Nat) : s.only (State.turnFrom s pool start) [.buf] (regsOf []) := by
  unfold State.turnFrom
  generalize hP : ([.buf] : List Part) = P
  generalize hL : ([] : List String) = L
  repeat (first
    | with_reducible exact keep_refl _ _ _
    | (with_reducible apply keep_modBuf; on_goal 2 => simp [← hP]))

theorem frame_withdrawBlock (s : State) : s.only (State.withdrawBlock s).2 [.buf] (regsOf ["BUF_WITHDRAWN"]) := by
  unfold State.withdrawBlock
  generalize hP : ([.buf] : List Part) = P
  generalize hL : (["BUF_WITHDRAWN"] : List String) = L
  repeat (first
    | with_reducible assumption
    | with_reducible exact keep_refl _ _ _
    | (dsimp -zeta only)
    | ((try lift_lets -underBinder); with_reducible intro y; refine cut_at (A := State.only s y P (regsOf L)) ?_ ?_; on_goal 2 => (intro hy; clear_value y)
       unfold y)
    | ((try lift_lets -underBinder); with_reducible intro y; clear_value y)
    | (with_reducible apply keep_set; on_goal 2 => first | assumption | (with_reducible apply reg_BUF_WITHDRAWN_COUNT; simp [← hL]) | (with_reducible apply reg_BUF_WITHDRAWN_NEXT; simp [← hL]))
    | (with_reducible apply keep_modBuf; on_goal 2 => simp [← hP]))

theorem frame_endWithdraw (s : State) (c : CmdIn) (r : CmdRes) : s.only (State.endWithdraw s c r) [.events, .reck, .buf, .host] (regsOf ["RING_CFG", "RING_DEV_INDEX"]) := by
  unfold State.endWithdraw
  generalize hP : ([.events, .reck, .buf, .host] : List Part) = P
  generalize hL : (["RING_CFG", "RING_DEV_INDEX"] : List String) = L
  repeat (first
    | with_reducible exact keep_refl _ _ _
    | (with_reducible apply keep_modBuf; on_goal 2 => simp [← hP])
    | (with_reducible apply keep_endOwn; on_goal 2 => simp [← hP])
    | (with_reducible apply keep_of (frame_complete ..); on_goal 2 => simp [← hP]
       on_goal 2 => simp [← hL]))

theorem frame_withdrawDone (s : State) (c : CmdIn) : s.only (State.withdrawDone s c) [.events, .reck, .buf, .host] (regsOf ["BUF_WITHDRAWN", "RING_CFG", "RING_DEV_INDEX"]) := by
  unfold State.withdrawDone
  generalize hP : ([.events, .reck, .buf, .host] : List Part) = P
  generalize hL : (["BUF_WITHDRAWN", "RING_CFG", "RING_DEV_INDEX"] : List String) = L
  repeat (first
    | with_reducible exact keep_refl _ _ _
    | (dsimp -zeta only)
    | ((try lift_lets -underBinder); with_reducible intro y; clear_value y)
    | (with_reducible apply keep_of (frame_withdrawBlock ..); on_goal 2 => simp [← hP]
       on_goal 2 => simp [← hL])
    | (with_reducible apply keep_of (frame_endWithdraw ..); on_goal 2 => simp [← hP]
       on_goal 2 => simp [← hL]))

theorem frame_withdraw (s : State) (c : CmdIn) : s.only (State.withdraw s c) [.events, .reck, .buf, .host] (regsOf ["BUF_WITHDRAWN", "RING_CFG", "RING_DEV_INDEX"]) := by
  unfold State.withdraw
  generalize hP : ([.events, .reck, .buf, .host] : List Part) = P
  generalize hL : (["BUF_WITHDRAWN", "RING_CFG", "RING_DEV_INDEX"] : List String) = L
  repeat (first
    | with_reducible exact keep_refl _ _ _
    | ((try lift_lets -underBinder); with_reducible intro y; clear_value y)
    | with_reducible apply keep_if
    | (with_reducible apply keep_modBuf; on_goal 2 => simp [← hP])
    | (with_reducible apply keep_of (frame_complete ..); on_goal 2 => simp [← hP]
       on_goal 2 => simp [← hL])
    | (with_reducible apply keep_of (frame_withdrawDone ..); on_goal 2 => simp [← hP]
       on_goal 2 => simp [← hL])
    | (with_reducible apply keep_of (frame_endWithdraw ..); on_goal 2 => simp [← hP]
       on_goal 2 => simp [← hL])
    | split)

theorem frame_withdrawTimeout (s : State) : s.only (State.withdrawTimeout s) [.events, .reck, .buf, .host] (regsOf ["RING_CFG", "RING_DEV_INDEX"]) := by
  unfold State.withdrawTimeout
  generalize hP : ([.events, .reck, .buf, .host] : List Part) = P
  generalize hL : (["RING_CFG", "RING_DEV_INDEX"] : List String) = L
  repeat (first
    | with_reducible exact keep_refl _ _ _
    | with_reducible apply keep_if
    | (with_reducible apply keep_of (frame_endWithdraw ..); on_goal 2 => simp [← hP]
       on_goal 2 => simp [← hL])
    | split)

theorem frame_withdrawCheck (s : State) : s.only (State.withdrawCheck s) [.events, .reck, .buf, .host] (regsOf ["BUF_WITHDRAWN", "RING_CFG", "RING_DEV_INDEX"]) := by
  unfold State.withdrawCheck
  generalize hP : ([.events, .reck, .buf, .host] : List Part) = P
  generalize hL : (["BUF_WITHDRAWN", "RING_CFG", "RING_DEV_INDEX"] : List String) = L
  repeat (first
    | with_reducible exact keep_refl _ _ _
    | with_reducible apply keep_if
    | (with_reducible apply keep_of (frame_withdrawDone ..); on_goal 2 => simp [← hP]
       on_goal 2 => simp [← hL])
    | split)

theorem frame_endBist (s : State) : s.only (State.endBist s) [] (regsOf ["SYS_BIST_STATUS"]) := by
  unfold State.endBist
  generalize hP : ([] : List Part) = P
  generalize hL : (["SYS_BIST_STATUS"] : List String) = L
  repeat (first
    | with_reducible exact keep_refl _ _ _
    | (with_reducible apply keep_off; on_goal 2 => first | assumption | (with_reducible apply reg_SYS_BIST_STATUS_STATE; simp [← hL]) | (with_reducible apply reg_SYS_BIST_STATUS_BLOCK; simp [← hL]) | (with_reducible apply reg_SYS_BIST_STATUS_BEAD; simp [← hL])))

theorem frame_coreBufRestore (c : CmdIn) (s : State) : s.only (coreBufRestore c s).2 [.buf] (regsOf ["SYS_BIST_STATUS", "BUF_WITHDRAWN"]) := by
  unfold coreBufRestore
  generalize hP : ([.buf] : List Part) = P
  generalize hL : (["SYS_BIST_STATUS", "BUF_WITHDRAWN"] : List String) = L
  repeat (first
    | with_reducible assumption
    | with_reducible exact keep_refl _ _ _
    | (dsimp -zeta only)
    | ((try lift_lets -underBinder); with_reducible intro y; refine cut_at (A := State.only s y P (regsOf L)) ?_ ?_; on_goal 2 => (intro hy; clear_value y)
       unfold y)
    | ((try lift_lets -underBinder); with_reducible intro y; clear_value y)
    | with_reducible apply keep_if
    | with_reducible apply keep_ifp
    | (with_reducible apply keep_set; on_goal 2 => first | assumption | (with_reducible apply reg_BUF_WITHDRAWN_COUNT; simp [← hL]))
    | (with_reducible apply keep_modBuf; on_goal 2 => simp [← hP])
    | (with_reducible apply keep_of (frame_endBist ..); on_goal 2 => simp [← hP]
       on_goal 2 => simp [← hL]))

theorem frame_bufEffect (s : State) (off : Nat) (_v : Nat) : s.only (bufEffect s off _v) [.ports, .counters, .buf, .pair] (regsOf ["CNT_HALF_LO", "CNT_HALF_HI", "BUF_STATUS", "BUF_XOFF_POOLS"]) := by
  unfold bufEffect
  generalize hP : ([.ports, .counters, .buf, .pair] : List Part) = P
  generalize hL : (["CNT_HALF_LO", "CNT_HALF_HI", "BUF_STATUS", "BUF_XOFF_POOLS"] : List String) = L
  repeat (first
    | with_reducible assumption
    | with_reducible exact keep_refl _ _ _
    | ((try lift_lets -underBinder); with_reducible intro y; refine cut_at (A := State.only s y P (regsOf L)) ?_ ?_; on_goal 2 => (intro hy; clear_value y)
       unfold y)
    | ((try lift_lets -underBinder); with_reducible intro y; clear_value y)
    | with_reducible apply keep_if
    | with_reducible refine keep_foldl ?_ (fun u a => ?_)
    | (with_reducible apply keep_of (frame_xoffUpdate ..); on_goal 2 => simp [← hP]
       on_goal 2 => simp [← hL])
    | (with_reducible apply keep_of (frame_askPorts ..); on_goal 2 => simp [← hP]
       on_goal 2 => simp [← hL])
    | (with_reducible apply keep_of (frame_syncRequests ..); on_goal 2 => simp [← hP]
       on_goal 2 => simp [← hL]))

theorem frame_modTally (s : State) (f : TallySt → TallySt) : s.only (State.modTally s f) [.tally] (regsOf []) := by
  unfold State.modTally
  generalize hP : ([.tally] : List Part) = P
  generalize hL : ([] : List String) = L
  repeat (first
    | with_reducible exact keep_refl _ _ _
    | (fail_if_no_progress (with_reducible apply keep_at_tally; on_goal 2 => simp [← hP])))

theorem frame_syncTally (s : State) : s.only (State.syncTally s) [] (regsOf ["TALLY_STATUS", "TALLY_RING_LEVEL"]) := by
  unfold State.syncTally
  generalize hP : ([] : List Part) = P
  generalize hL : (["TALLY_STATUS", "TALLY_RING_LEVEL"] : List String) = L
  repeat (first
    | with_reducible exact keep_refl _ _ _
    | ((try lift_lets -underBinder); with_reducible intro y; clear_value y)
    | (with_reducible apply keep_set; on_goal 2 => first | assumption | (with_reducible apply reg_TALLY_RING_LEVEL_LEVEL; simp [← hL]) | (with_reducible apply reg_TALLY_STATUS_SERVICE; simp [← hL]))
    | (with_reducible apply keep_setB; on_goal 2 => first | assumption | (with_reducible apply reg_TALLY_RING_LEVEL_LEVEL; simp [← hL]) | (with_reducible apply reg_TALLY_STATUS_SERVICE; simp [← hL])))

theorem frame_loseRecord (s : State) (c : Nat) (t : Nat) : s.only (State.loseRecord s c t) [.tally] (regsOf ["TALLY_STATUS", "TALLY_RING_LEVEL", "TALLY_LOST_CNT"]) := by
  unfold State.loseRecord
  generalize hP : ([.tally] : List Part) = P
  generalize hL : (["TALLY_STATUS", "TALLY_RING_LEVEL", "TALLY_LOST_CNT"] : List String) = L
  repeat (first
    | with_reducible assumption
    | with_reducible exact keep_refl _ _ _
    | ((try lift_lets -underBinder); with_reducible intro y; refine cut_at (A := State.only s y P (regsOf L)) ?_ ?_; on_goal 2 => (intro hy; clear_value y)
       unfold y)
    | ((try lift_lets -underBinder); with_reducible intro y; clear_value y)
    | (with_reducible apply keep_on; on_goal 2 => first | assumption | (with_reducible apply reg_TALLY_LOST_CNT_LOST; simp [← hL]) | (with_reducible apply reg_TALLY_STATUS_LOSS; simp [← hL]))
    | (with_reducible apply keep_satAdd; on_goal 2 => first | assumption | (with_reducible apply reg_TALLY_LOST_CNT_LOST; simp [← hL]) | (with_reducible apply reg_TALLY_STATUS_LOSS; simp [← hL]))
    | (with_reducible apply keep_modTally; on_goal 2 => simp [← hP])
    | (with_reducible apply keep_of (frame_syncTally ..); on_goal 2 => simp [← hP]
       on_goal 2 => simp [← hL]))

theorem frame_pushRecord (s : State) (c : Nat) (b : List Byte) : s.only (State.pushRecord s c b) [.tally] (regsOf []) := by
  unfold State.pushRecord
  generalize hP : ([.tally] : List Part) = P
  generalize hL : ([] : List String) = L
  repeat (first
    | with_reducible exact keep_refl _ _ _
    | (with_reducible apply keep_modTally; on_goal 2 => simp [← hP]))

theorem frame_gapWrite (s : State) (c : Nat) : s.only (State.gapWrite s c) [.tally] (regsOf []) := by
  unfold State.gapWrite
  generalize hP : ([.tally] : List Part) = P
  generalize hL : ([] : List String) = L
  repeat (first
    | with_reducible exact keep_refl _ _ _
    | with_reducible apply keep_if
    | (with_reducible apply keep_modTally; on_goal 2 => simp [← hP])
    | split)

theorem frame_formRecord (s : State) (x : Frame) (egress : Nat) (egrStamp : Nat) (flags : Nat) : s.only (State.formRecord s x egress egrStamp flags) [.tally] (regsOf ["TALLY_STATUS", "TALLY_RING_LEVEL", "TALLY_LOST_CNT"]) := by
  unfold State.formRecord
  generalize hP : ([.tally] : List Part) = P
  generalize hL : (["TALLY_STATUS", "TALLY_RING_LEVEL", "TALLY_LOST_CNT"] : List String) = L
  repeat (first
    | with_reducible assumption
    | with_reducible exact keep_refl _ _ _
    | ((try lift_lets -underBinder); with_reducible intro y; refine cut_at (A := State.only s y P (regsOf L)) ?_ ?_; on_goal 2 => (intro hy; clear_value y)
       unfold y)
    | ((try lift_lets -underBinder); with_reducible intro y; clear_value y)
    | with_reducible apply keep_if
    | (with_reducible apply keep_of (frame_gapWrite ..); on_goal 2 => simp [← hP]
       on_goal 2 => simp [← hL])
    | (with_reducible apply keep_of (frame_loseRecord ..); on_goal 2 => simp [← hP]
       on_goal 2 => simp [← hL])
    | (with_reducible apply keep_of (frame_pushRecord ..); on_goal 2 => simp [← hP]
       on_goal 2 => simp [← hL]))

theorem frame_copyRecord (s : State) (f : Nat) (egress : Nat) (egrStamp : Nat) (late : Bool) (dropped : Bool) (stomped : Bool) : s.only (State.copyRecord s f egress egrStamp late dropped stomped) [.path, .tally] (regsOf ["TALLY_STATUS", "TALLY_RING_LEVEL", "TALLY_LOST_CNT"]) := by
  unfold State.copyRecord
  generalize hP : ([.path, .tally] : List Part) = P
  generalize hL : (["TALLY_STATUS", "TALLY_RING_LEVEL", "TALLY_LOST_CNT"] : List String) = L
  repeat (first
    | with_reducible assumption
    | with_reducible exact keep_refl _ _ _
    | ((try lift_lets -underBinder); with_reducible intro y; refine cut_at (A := State.only s y P (regsOf L)) ?_ ?_; on_goal 2 => (intro hy; clear_value y)
       unfold y)
    | with_reducible apply keep_if
    | (with_reducible apply keep_setFrame; on_goal 2 => simp [← hP])
    | (with_reducible apply keep_modTally; on_goal 2 => simp [← hP])
    | (with_reducible apply keep_of (frame_formRecord ..); on_goal 2 => simp [← hP]
       on_goal 2 => simp [← hL])
    | split)

theorem frame_digestNext (s : State) (pipe : Nat) : s.only (State.digestNext s pipe) [.tally] (regsOf []) := by
  unfold State.digestNext
  generalize hP : ([.tally] : List Part) = P
  generalize hL : ([] : List String) = L
  repeat (first
    | with_reducible exact keep_refl _ _ _
    | (with_reducible apply keep_modTally; on_goal 2 => simp [← hP]))

theorem frame_ringAppend (s : State) (b : List Byte) : s.only (State.ringAppend s b) [.tally, .dram] (regsOf ["TALLY_STATUS", "TALLY_RING_LEVEL", "DRAM_STATUS", "DRAM_ROW_GUARD_CNT"]) := by
  unfold State.ringAppend
  generalize hP : ([.tally, .dram] : List Part) = P
  generalize hL : (["TALLY_STATUS", "TALLY_RING_LEVEL", "DRAM_STATUS", "DRAM_ROW_GUARD_CNT"] : List String) = L
  repeat (first
    | with_reducible exact keep_refl _ _ _
    | ((try lift_lets -underBinder); with_reducible intro y; clear_value y)
    | (with_reducible apply keep_modTally; on_goal 2 => simp [← hP])
    | (with_reducible apply keep_of (frame_syncTally ..); on_goal 2 => simp [← hP]
       on_goal 2 => simp [← hL])
    | (with_reducible apply keep_of (frame_dramWrite ..); on_goal 2 => simp [← hP]
       on_goal 2 => simp [← hL]))

theorem frame_takeRecord (s : State) : s.only (State.takeRecord s) [.tally, .dram] (regsOf ["TALLY_STATUS", "TALLY_RING_LEVEL", "DRAM_STATUS", "DRAM_ROW_GUARD_CNT"]) := by
  unfold State.takeRecord
  generalize hP : ([.tally, .dram] : List Part) = P
  generalize hL : (["TALLY_STATUS", "TALLY_RING_LEVEL", "DRAM_STATUS", "DRAM_ROW_GUARD_CNT"] : List String) = L
  repeat (first
    | with_reducible exact keep_refl _ _ _
    | (dsimp -zeta only)
    | with_reducible apply keep_if
    | (with_reducible apply keep_modTally; on_goal 2 => simp [← hP])
    | (with_reducible apply keep_of (frame_ringAppend ..); on_goal 2 => simp [← hP]
       on_goal 2 => simp [← hL])
    | split)

theorem frame_leafTimer (s : State) (c : Nat) : s.only (State.leafTimer s c) [.tally] (regsOf []) := by
  unfold State.leafTimer
  generalize hP : ([.tally] : List Part) = P
  generalize hL : ([] : List String) = L
  repeat (first
    | with_reducible exact keep_refl _ _ _
    | ((try lift_lets -underBinder); with_reducible intro y; clear_value y)
    | with_reducible apply keep_if
    | (with_reducible apply keep_modTally; on_goal 2 => simp [← hP]))

theorem frame_pushSeal (s : State) (x : Seal) : s.only (State.pushSeal s x) [.tally] (regsOf ["TALLY_STATUS", "TALLY_SEAL_INDEX_LO", "TALLY_SEAL_INDEX_HI"]) := by
  unfold State.pushSeal
  generalize hP : ([.tally] : List Part) = P
  generalize hL : (["TALLY_STATUS", "TALLY_SEAL_INDEX_LO", "TALLY_SEAL_INDEX_HI"] : List String) = L
  repeat (first
    | with_reducible assumption
    | with_reducible exact keep_refl _ _ _
    | ((try lift_lets -underBinder); with_reducible intro y; refine cut_at (A := State.only s y P (regsOf L)) ?_ ?_; on_goal 2 => (intro hy; clear_value y)
       unfold y)
    | ((try lift_lets -underBinder); with_reducible intro y; clear_value y)
    | with_reducible apply keep_if
    | (with_reducible apply keep_set; on_goal 2 => first | assumption | (with_reducible apply reg_TALLY_STATUS_SEAL_DROP; simp [← hL]) | (with_reducible apply reg_TALLY_SEAL_INDEX_LO_INDEX; simp [← hL]) | (with_reducible apply reg_TALLY_SEAL_INDEX_HI_INDEX; simp [← hL]))
    | (with_reducible apply keep_on; on_goal 2 => first | assumption | (with_reducible apply reg_TALLY_STATUS_SEAL_DROP; simp [← hL]) | (with_reducible apply reg_TALLY_SEAL_INDEX_LO_INDEX; simp [← hL]) | (with_reducible apply reg_TALLY_SEAL_INDEX_HI_INDEX; simp [← hL]))
    | (with_reducible apply keep_modTally; on_goal 2 => simp [← hP]))

theorem frame_formStart (s : State) (fields : List Byte) (lost : SMap Nat) : s.only (State.formStart s fields lost) [.tally] (regsOf ["TALLY_STATUS", "TALLY_SEAL_INDEX_LO", "TALLY_SEAL_INDEX_HI"]) := by
  unfold State.formStart
  generalize hP : ([.tally] : List Part) = P
  generalize hL : (["TALLY_STATUS", "TALLY_SEAL_INDEX_LO", "TALLY_SEAL_INDEX_HI"] : List String) = L
  repeat (first
    | with_reducible assumption
    | with_reducible exact keep_refl _ _ _
    | ((try lift_lets -underBinder); with_reducible intro y; refine cut_at (A := State.only s y P (regsOf L)) ?_ ?_; on_goal 2 => (intro hy; clear_value y)
       unfold y)
    | ((try lift_lets -underBinder); with_reducible intro y; clear_value y)
    | (with_reducible apply keep_modTally; on_goal 2 => simp [← hP])
    | (with_reducible apply keep_of (frame_pushSeal ..); on_goal 2 => simp [← hP]
       on_goal 2 => simp [← hL]))

theorem frame_formSeal (s : State) (final : Bool) (fields : List Byte) : s.only (State.formSeal s final fields) [.tally] (regsOf ["TALLY_STATUS", "TALLY_SEAL_INDEX_LO", "TALLY_SEAL_INDEX_HI"]) := by
  unfold State.formSeal
  generalize hP : ([.tally] : List Part) = P
  generalize hL : (["TALLY_STATUS", "TALLY_SEAL_INDEX_LO", "TALLY_SEAL_INDEX_HI"] : List String) = L
  repeat (first
    | with_reducible assumption
    | with_reducible exact keep_refl _ _ _
    | ((try lift_lets -underBinder); with_reducible intro y; refine cut_at (A := State.only s y P (regsOf L)) ?_ ?_; on_goal 2 => (intro hy; clear_value y)
       unfold y)
    | ((try lift_lets -underBinder); with_reducible intro y; clear_value y)
    | (with_reducible apply keep_modTally; on_goal 2 => simp [← hP])
    | (with_reducible apply keep_of (frame_pushSeal ..); on_goal 2 => simp [← hP]
       on_goal 2 => simp [← hL]))

theorem frame_tryStart (s : State) : s.only (State.tryStart s) [.tally] (regsOf ["TALLY_STATUS", "TALLY_SEAL_INDEX_LO", "TALLY_SEAL_INDEX_HI"]) := by
  unfold State.tryStart
  generalize hP : ([.tally] : List Part) = P
  generalize hL : (["TALLY_STATUS", "TALLY_SEAL_INDEX_LO", "TALLY_SEAL_INDEX_HI"] : List String) = L
  repeat (first
    | with_reducible exact keep_refl _ _ _
    | with_reducible apply keep_if
    | (with_reducible apply keep_modTally; on_goal 2 => simp [← hP])
    | (with_reducible apply keep_of (frame_formStart ..); on_goal 2 => simp [← hP]
       on_goal 2 => simp [← hL])
    | split)

theorem frame_tallyOn (s : State) : s.only (State.tallyOn s) [.tally] (regsOf ["TALLY_STATUS", "TALLY_SEAL_INDEX_LO", "TALLY_SEAL_INDEX_HI"]) := by
  unfold State.tallyOn
  generalize hP : ([.tally] : List Part) = P
  generalize hL : (["TALLY_STATUS", "TALLY_SEAL_INDEX_LO", "TALLY_SEAL_INDEX_HI"] : List String) = L
  repeat (first
    | with_reducible exact keep_refl _ _ _
    | (with_reducible apply keep_modTally; on_goal 2 => simp [← hP])
    | (with_reducible apply keep_of (frame_tryStart ..); on_goal 2 => simp [← hP]
       on_goal 2 => simp [← hL]))

theorem frame_tallyOff (s : State) : s.only (State.tallyOff s) [.tally] (regsOf []) := by
  unfold State.tallyOff
  generalize hP : ([.tally] : List Part) = P
  generalize hL : ([] : List String) = L
  repeat (first
    | with_reducible exact keep_refl _ _ _
    | ((try lift_lets -underBinder); with_reducible intro y; clear_value y)
    | (with_reducible apply keep_modTally; on_goal 2 => simp [← hP]))

theorem frame_formFinal (s : State) : s.only (State.formFinal s) [.tally] (regsOf ["TALLY_STATUS", "TALLY_SEAL_INDEX_LO", "TALLY_SEAL_INDEX_HI"]) := by
  unfold State.formFinal
  generalize hP : ([.tally] : List Part) = P
  generalize hL : (["TALLY_STATUS", "TALLY_SEAL_INDEX_LO", "TALLY_SEAL_INDEX_HI"] : List String) = L
  repeat (first
    | with_reducible exact keep_refl _ _ _
    | with_reducible apply keep_if
    | (with_reducible apply keep_modTally; on_goal 2 => simp [← hP])
    | (with_reducible apply keep_of (frame_tryStart ..); on_goal 2 => simp [← hP]
       on_goal 2 => simp [← hL])
    | (with_reducible apply keep_of (frame_formSeal ..); on_goal 2 => simp [← hP]
       on_goal 2 => simp [← hL])
    | split)

theorem frame_sealInstant (s : State) : s.only (State.sealInstant s) [.tally] (regsOf ["TALLY_STATUS", "TALLY_SEAL_INDEX_LO", "TALLY_SEAL_INDEX_HI"]) := by
  unfold State.sealInstant
  generalize hP : ([.tally] : List Part) = P
  generalize hL : (["TALLY_STATUS", "TALLY_SEAL_INDEX_LO", "TALLY_SEAL_INDEX_HI"] : List String) = L
  repeat (first
    | with_reducible exact keep_refl _ _ _
    | ((try lift_lets -underBinder); with_reducible intro y; clear_value y)
    | with_reducible apply keep_if
    | (with_reducible apply keep_modTally; on_goal 2 => simp [← hP])
    | (with_reducible apply keep_of (frame_formSeal ..); on_goal 2 => simp [← hP]
       on_goal 2 => simp [← hL]))

theorem frame_periodChanged (s : State) : s.only (State.periodChanged s) [.tally] (regsOf ["TALLY_STATUS", "TALLY_SEAL_INDEX_LO", "TALLY_SEAL_INDEX_HI"]) := by
  unfold State.periodChanged
  generalize hP : ([.tally] : List Part) = P
  generalize hL : (["TALLY_STATUS", "TALLY_SEAL_INDEX_LO", "TALLY_SEAL_INDEX_HI"] : List String) = L
  repeat (first
    | with_reducible exact keep_refl _ _ _
    | with_reducible apply keep_if
    | (with_reducible apply keep_modTally; on_goal 2 => simp [← hP])
    | (with_reducible apply keep_of (frame_formSeal ..); on_goal 2 => simp [← hP]
       on_goal 2 => simp [← hL]))

theorem frame_modSeal (s : State) (index : Nat) (f : Seal → Seal) : s.only (State.modSeal s index f) [.tally] (regsOf []) := by
  unfold State.modSeal
  generalize hP : ([.tally] : List Part) = P
  generalize hL : ([] : List String) = L
  repeat (first
    | with_reducible exact keep_refl _ _ _
    | (with_reducible apply keep_modTally; on_goal 2 => simp [← hP]))

theorem frame_sealSign (s : State) : s.only (State.sealSign s) [.tally, .sec] (regsOf ["TALLY_STATUS"]) := by
  unfold State.sealSign
  generalize hP : ([.tally, .sec] : List Part) = P
  generalize hL : (["TALLY_STATUS"] : List String) = L
  repeat (first
    | with_reducible assumption
    | with_reducible exact keep_refl _ _ _
    | ((try lift_lets -underBinder); with_reducible intro y; refine cut_at (A := State.only s y P (regsOf L)) ?_ ?_; on_goal 2 => (intro hy; clear_value y)
       unfold y)
    | ((try lift_lets -underBinder); with_reducible intro y; clear_value y)
    | with_reducible apply keep_if
    | (with_reducible apply keep_on; on_goal 2 => first | assumption | (with_reducible apply reg_TALLY_STATUS_UNSIGNED; simp [← hL]))
    | (with_reducible apply keep_modTally; on_goal 2 => simp [← hP])
    | (with_reducible apply keep_modSec; on_goal 2 => simp [← hP])
    | (with_reducible apply keep_of (frame_modSeal ..); on_goal 2 => simp [← hP]
       on_goal 2 => simp [← hL])
    | split)

theorem frame_sealExport (s : State) : s.only (State.sealExport s) [.tally, .dram] (regsOf ["TALLY_STATUS", "TALLY_RING_LEVEL", "DRAM_STATUS", "DRAM_ROW_GUARD_CNT"]) := by
  unfold State.sealExport
  generalize hP : ([.tally, .dram] : List Part) = P
  generalize hL : (["TALLY_STATUS", "TALLY_RING_LEVEL", "DRAM_STATUS", "DRAM_ROW_GUARD_CNT"] : List String) = L
  repeat (first
    | with_reducible assumption
    | with_reducible exact keep_refl _ _ _
    | ((try lift_lets -underBinder); with_reducible intro y; refine cut_at (A := State.only s y P (regsOf L)) ?_ ?_; on_goal 2 => (intro hy; clear_value y)
       unfold y)
    | ((try lift_lets -underBinder); with_reducible intro y; clear_value y)
    | with_reducible apply keep_if
    | with_reducible refine keep_foldl ?_ (fun u a => ?_)
    | (with_reducible apply keep_modTally; on_goal 2 => simp [← hP])
    | (with_reducible apply keep_of (frame_ringAppend ..); on_goal 2 => simp [← hP]
       on_goal 2 => simp [← hL])
    | split)

theorem frame_writeHead (s : State) (head : List Byte) : s.only (State.writeHead s head) [.tally] (regsOf []) := by
  unfold State.writeHead
  generalize hP : ([.tally] : List Part) = P
  generalize hL : ([] : List String) = L
  repeat (first
    | with_reducible assumption
    | with_reducible exact keep_refl _ _ _
    | ((try lift_lets -underBinder); with_reducible intro y; refine cut_at (A := State.only s y P (regsOf L)) ?_ ?_; on_goal 2 => (intro hy; clear_value y)
       unfold y)
    | ((try lift_lets -underBinder); with_reducible intro y; clear_value y)
    | (with_reducible apply keep_modTally; on_goal 2 => simp [← hP]))

theorem frame_retireSlot (s : State) : s.only (State.retireSlot s) [.tally] (regsOf ["TALLY_MRAM_RETIRED"]) := by
  unfold State.retireSlot
  generalize hP : ([.tally] : List Part) = P
  generalize hL : (["TALLY_MRAM_RETIRED"] : List String) = L
  repeat (first
    | with_reducible assumption
    | with_reducible exact keep_refl _ _ _
    | ((try lift_lets -underBinder); with_reducible intro y; refine cut_at (A := State.only s y P (regsOf L)) ?_ ?_; on_goal 2 => (intro hy; clear_value y)
       unfold y)
    | ((try lift_lets -underBinder); with_reducible intro y; clear_value y)
    | (with_reducible apply keep_set; on_goal 2 => first | assumption | (with_reducible apply reg_TALLY_MRAM_RETIRED_RETIRED; simp [← hL]))
    | (with_reducible apply keep_modTally; on_goal 2 => simp [← hP]))

theorem frame_fitSlot (s : State) (index : Nat) : s.only (State.fitSlot s index) [.tally] (regsOf []) := by
  unfold State.fitSlot
  generalize hP : ([.tally] : List Part) = P
  generalize hL : ([] : List String) = L
  repeat (first
    | with_reducible exact keep_refl _ _ _
    | (with_reducible apply keep_modTally; on_goal 2 => simp [← hP]))

theorem frame_headWrite (s : State) (ok : Bool) : s.only (State.headWrite s ok) [.tally, .pair] (regsOf ["TALLY_STATUS", "TALLY_SEAL_INDEX_LO", "TALLY_SEAL_INDEX_HI", "TALLY_MRAM_RETIRED", "PAIR_MIRROR_LEVEL"]) := by
  unfold State.headWrite
  generalize hP : ([.tally, .pair] : List Part) = P
  generalize hL : (["TALLY_STATUS", "TALLY_SEAL_INDEX_LO", "TALLY_SEAL_INDEX_HI", "TALLY_MRAM_RETIRED", "PAIR_MIRROR_LEVEL"] : List String) = L
  repeat (first
    | with_reducible assumption
    | with_reducible exact keep_refl _ _ _
    | ((try lift_lets -underBinder); with_reducible intro y; refine cut_at (A := State.only s y P (regsOf L)) ?_ ?_; on_goal 2 => (intro hy; clear_value y)
       unfold y)
    | ((try lift_lets -underBinder); with_reducible intro y; clear_value y)
    | with_reducible apply keep_if
    | (with_reducible apply keep_modTally; on_goal 2 => simp [← hP])
    | (with_reducible apply keep_modPair; on_goal 2 => simp [← hP])
    | (with_reducible apply keep_of (frame_fitSlot ..); on_goal 2 => simp [← hP]
       on_goal 2 => simp [← hL])
    | (with_reducible apply keep_of (frame_retireSlot ..); on_goal 2 => simp [← hP]
       on_goal 2 => simp [← hL])
    | (with_reducible apply keep_of (frame_writeHead ..); on_goal 2 => simp [← hP]
       on_goal 2 => simp [← hL])
    | (with_reducible apply keep_of (frame_modSeal ..); on_goal 2 => simp [← hP]
       on_goal 2 => simp [← hL])
    | (with_reducible apply keep_of (frame_sendRecord ..); on_goal 2 => simp [← hP]
       on_goal 2 => simp [← hL])
    | (with_reducible apply keep_of (frame_mirror ..); on_goal 2 => simp [← hP]
       on_goal 2 => simp [← hL])
    | (with_reducible apply keep_of (frame_tryStart ..); on_goal 2 => simp [← hP]
       on_goal 2 => simp [← hL])
    | split)

theorem frame_completeHeads (v0 : Nat) (s : State) : s.only (completeHeads v0 s) [.tally, .pair] (regsOf ["TALLY_STATUS", "TALLY_SEAL_INDEX_LO", "TALLY_SEAL_INDEX_HI", "TALLY_MRAM_RETIRED", "PAIR_MIRROR_LEVEL"]) := by
  induction v0 generalizing s with
  | zero =>
    unfold completeHeads
    generalize hP : ([.tally, .pair] : List Part) = P
    generalize hL : (["TALLY_STATUS", "TALLY_SEAL_INDEX_LO", "TALLY_SEAL_INDEX_HI", "TALLY_MRAM_RETIRED", "PAIR_MIRROR_LEVEL"] : List String) = L
    repeat (first
      | with_reducible exact keep_refl _ _ _)
  | succ j ih =>
    unfold completeHeads
    generalize hP : ([.tally, .pair] : List Part) = P
    generalize hL : (["TALLY_STATUS", "TALLY_SEAL_INDEX_LO", "TALLY_SEAL_INDEX_HI", "TALLY_MRAM_RETIRED", "PAIR_MIRROR_LEVEL"] : List String) = L
    repeat (first
      | with_reducible exact keep_refl _ _ _
      | (with_reducible apply keep_of (ih ..); on_goal 2 => simp [← hP]
         on_goal 2 => simp [← hL])
      | (with_reducible apply keep_of (frame_headWrite ..); on_goal 2 => simp [← hP]
         on_goal 2 => simp [← hL]))

theorem frame_waitStep (s : State) : s.only (State.waitStep s) [.tally, .dram] (regsOf ["TALLY_STATUS", "TALLY_RING_LEVEL", "TALLY_SEAL_INDEX_LO", "TALLY_SEAL_INDEX_HI", "DRAM_STATUS", "DRAM_ROW_GUARD_CNT"]) := by
  unfold State.waitStep
  generalize hP : ([.tally, .dram] : List Part) = P
  generalize hL : (["TALLY_STATUS", "TALLY_RING_LEVEL", "TALLY_SEAL_INDEX_LO", "TALLY_SEAL_INDEX_HI", "DRAM_STATUS", "DRAM_ROW_GUARD_CNT"] : List String) = L
  repeat (first
    | with_reducible assumption
    | with_reducible exact keep_refl _ _ _
    | ((try lift_lets -underBinder); with_reducible intro y; refine cut_at (A := State.only s y P (regsOf L)) ?_ ?_; on_goal 2 => (intro hy; clear_value y)
       unfold y)
    | with_reducible apply keep_if
    | (with_reducible apply keep_modTally; on_goal 2 => simp [← hP])
    | (with_reducible apply keep_of (frame_tryStart ..); on_goal 2 => simp [← hP]
       on_goal 2 => simp [← hL])
    | (with_reducible apply keep_of (frame_takeRecord ..); on_goal 2 => simp [← hP]
       on_goal 2 => simp [← hL])
    | (with_reducible apply keep_of (frame_formFinal ..); on_goal 2 => simp [← hP]
       on_goal 2 => simp [← hL])
    | split)

theorem frame_completeWaits (v0 : Nat) (s : State) : s.only (completeWaits v0 s) [.tally, .dram, .pair] (regsOf ["TALLY_STATUS", "TALLY_RING_LEVEL", "TALLY_SEAL_INDEX_LO", "TALLY_SEAL_INDEX_HI", "TALLY_MRAM_RETIRED", "DRAM_STATUS", "DRAM_ROW_GUARD_CNT", "PAIR_MIRROR_LEVEL"]) := by
  induction v0 generalizing s with
  | zero =>
    unfold completeWaits
    generalize hP : ([.tally, .dram, .pair] : List Part) = P
    generalize hL : (["TALLY_STATUS", "TALLY_RING_LEVEL", "TALLY_SEAL_INDEX_LO", "TALLY_SEAL_INDEX_HI", "TALLY_MRAM_RETIRED", "DRAM_STATUS", "DRAM_ROW_GUARD_CNT", "PAIR_MIRROR_LEVEL"] : List String) = L
    repeat (first
      | with_reducible exact keep_refl _ _ _
      | (with_reducible apply keep_of (frame_completeHeads ..); on_goal 2 => simp [← hP]
         on_goal 2 => simp [← hL]))
  | succ j ih =>
    unfold completeWaits
    generalize hP : ([.tally, .dram, .pair] : List Part) = P
    generalize hL : (["TALLY_STATUS", "TALLY_RING_LEVEL", "TALLY_SEAL_INDEX_LO", "TALLY_SEAL_INDEX_HI", "TALLY_MRAM_RETIRED", "DRAM_STATUS", "DRAM_ROW_GUARD_CNT", "PAIR_MIRROR_LEVEL"] : List String) = L
    repeat (first
      | with_reducible exact keep_refl _ _ _
      | (with_reducible apply keep_of (ih ..); on_goal 2 => simp [← hP]
         on_goal 2 => simp [← hL])
      | (with_reducible apply keep_of (frame_completeHeads ..); on_goal 2 => simp [← hP]
         on_goal 2 => simp [← hL])
      | (with_reducible apply keep_of (frame_waitStep ..); on_goal 2 => simp [← hP]
         on_goal 2 => simp [← hL]))

theorem frame_completeSeals (s : State) : s.only (State.completeSeals s) [.tally, .dram, .pair] (regsOf ["TALLY_STATUS", "TALLY_RING_LEVEL", "TALLY_SEAL_INDEX_LO", "TALLY_SEAL_INDEX_HI", "TALLY_MRAM_RETIRED", "DRAM_STATUS", "DRAM_ROW_GUARD_CNT", "PAIR_MIRROR_LEVEL"]) := by
  unfold State.completeSeals
  generalize hP : ([.tally, .dram, .pair] : List Part) = P
  generalize hL : (["TALLY_STATUS", "TALLY_RING_LEVEL", "TALLY_SEAL_INDEX_LO", "TALLY_SEAL_INDEX_HI", "TALLY_MRAM_RETIRED", "DRAM_STATUS", "DRAM_ROW_GUARD_CNT", "PAIR_MIRROR_LEVEL"] : List String) = L
  repeat (first
    | with_reducible exact keep_refl _ _ _
    | (with_reducible apply keep_of (frame_completeWaits ..); on_goal 2 => simp [← hP]
       on_goal 2 => simp [← hL]))

theorem frame_scanHeads (s : State) : s.only (State.scanHeads s) [.tally] (regsOf []) := by
  unfold State.scanHeads
  generalize hP : ([.tally] : List Part) = P
  generalize hL : ([] : List String) = L
  repeat (first
    | with_reducible exact keep_refl _ _ _
    | ((try lift_lets -underBinder); with_reducible intro y; clear_value y)
    | (with_reducible apply keep_modTally; on_goal 2 => simp [← hP]))

theorem frame_exportEntry (s : State) (o : ReadOutcome) : s.only (State.exportEntry s o) [.tally, .host, .dram] (regsOf ["TALLY_STATUS", "TALLY_RING_LEVEL", "DRAM_STATUS", "DRAM_ERR_LOC", "DRAM_CORR_CNT", "DRAM_UNCORR_CNT", "DRAM_ROW_GUARD_CNT", "RING_DEV_INDEX"]) := by
  unfold State.exportEntry
  generalize hP : ([.tally, .host, .dram] : List Part) = P
  generalize hL : (["TALLY_STATUS", "TALLY_RING_LEVEL", "DRAM_STATUS", "DRAM_ERR_LOC", "DRAM_CORR_CNT", "DRAM_UNCORR_CNT", "DRAM_ROW_GUARD_CNT", "RING_DEV_INDEX"] : List String) = L
  repeat (first
    | with_reducible assumption
    | with_reducible exact keep_refl _ _ _
    | (dsimp -zeta only)
    | ((try lift_lets -underBinder); with_reducible intro y; refine cut_at (A := State.only s y P (regsOf L)) ?_ ?_; on_goal 2 => (intro hy; clear_value y)
       unfold y)
    | ((try lift_lets -underBinder); with_reducible intro y; clear_value y)
    | with_reducible apply keep_if
    | (with_reducible apply keep_on; on_goal 2 => first | assumption | (with_reducible apply reg_TALLY_STATUS_POISON; simp [← hL]))
    | (with_reducible apply keep_modTally; on_goal 2 => simp [← hP])
    | (with_reducible apply keep_of (frame_dramRead ..); on_goal 2 => simp [← hP]
       on_goal 2 => simp [← hL])
    | (with_reducible apply keep_of (frame_uncorrectable ..); on_goal 2 => simp [← hP]
       on_goal 2 => simp [← hL])
    | (with_reducible apply keep_of (frame_syncTally ..); on_goal 2 => simp [← hP]
       on_goal 2 => simp [← hL])
    | (with_reducible apply keep_of (frame_ringWrite ..); on_goal 2 => simp [← hP]
       on_goal 2 => simp [← hL])
    | split)

theorem frame_tallyEffect (old : State) (s : State) (off : Nat) (v : Nat) : s.only (tallyEffect old s off v) [.tally] (regsOf ["TALLY_STATUS", "TALLY_RING_LEVEL", "TALLY_SEAL_INDEX_LO", "TALLY_SEAL_INDEX_HI"]) := by
  unfold tallyEffect
  generalize hP : ([.tally] : List Part) = P
  generalize hL : (["TALLY_STATUS", "TALLY_RING_LEVEL", "TALLY_SEAL_INDEX_LO", "TALLY_SEAL_INDEX_HI"] : List String) = L
  repeat (first
    | with_reducible exact keep_refl _ _ _
    | ((try lift_lets -underBinder); with_reducible intro y; clear_value y)
    | with_reducible apply keep_if
    | (with_reducible apply keep_of (frame_syncTally ..); on_goal 2 => simp [← hP]
       on_goal 2 => simp [← hL])
    | (with_reducible apply keep_of (frame_tallyOn ..); on_goal 2 => simp [← hP]
       on_goal 2 => simp [← hL])
    | (with_reducible apply keep_of (frame_tallyOff ..); on_goal 2 => simp [← hP]
       on_goal 2 => simp [← hL])
    | (with_reducible apply keep_of (frame_periodChanged ..); on_goal 2 => simp [← hP]
       on_goal 2 => simp [← hL])
    | split)

theorem frame_retiredRead (s : State) : s.only (State.retiredRead s) [.tally] (regsOf []) := by
  unfold State.retiredRead
  generalize hP : ([.tally] : List Part) = P
  generalize hL : ([] : List String) = L
  repeat (first
    | with_reducible exact keep_refl _ _ _
    | (with_reducible apply keep_modTally; on_goal 2 => simp [← hP]))

theorem frame_modPath (s : State) (f : PathSt → PathSt) : s.only (State.modPath s f) [.path] (regsOf []) := by
  unfold State.modPath
  generalize hP : ([.path] : List Part) = P
  generalize hL : ([] : List String) = L
  repeat (first
    | with_reducible exact keep_refl _ _ _
    | (fail_if_no_progress (with_reducible apply keep_at_path; on_goal 2 => simp [← hP])))

theorem frame_setCopy (s : State) (c : Nat) (x : Copy) : s.only (State.setCopy s c x) [.path] (regsOf []) := by
  unfold State.setCopy
  generalize hP : ([.path] : List Part) = P
  generalize hL : ([] : List String) = L
  repeat (first
    | with_reducible exact keep_refl _ _ _
    | (with_reducible apply keep_modPath; on_goal 2 => simp [← hP]))

theorem frame_countLane (s : State) (n : Nat) (i : Nat) (k : Nat) : s.only (State.countLane s n i k) [.counters, .pair] (regsOf ["CNT_HALF_LO", "CNT_HALF_HI"]) := by
  unfold State.countLane
  generalize hP : ([.counters, .pair] : List Part) = P
  generalize hL : (["CNT_HALF_LO", "CNT_HALF_HI"] : List String) = L
  repeat (first
    | with_reducible exact keep_refl _ _ _
    | (with_reducible apply keep_of (frame_count ..); on_goal 2 => simp [← hP]
       on_goal 2 => simp [← hL])
    | split)

theorem frame_spanPlan (s : State) (x : Frame) (group : Bool) (dest : Nat) (groups : List Nat) : s.only (State.spanPlan s x group dest groups).2 [] (regsOf ["SPAN_STATUS"]) := by
  unfold State.spanPlan
  generalize hP : ([] : List Part) = P
  generalize hL : (["SPAN_STATUS"] : List String) = L
  repeat (first
    | with_reducible assumption
    | with_reducible exact keep_refl _ _ _
    | (dsimp -zeta only)
    | ((try lift_lets -underBinder); with_reducible intro y; refine cut_at (A := State.only s y P (regsOf L)) ?_ ?_; on_goal 2 => (intro hy; clear_value y)
       unfold y)
    | ((try lift_lets -underBinder); with_reducible intro y; clear_value y)
    | with_reducible apply keep_if
    | with_reducible refine keep_foldl ?_ (fun u a => ?_)
    | (with_reducible apply keep_putBit; on_goal 2 => first | assumption | (with_reducible apply reg_SPAN_STATUS_PEER_DOWN; simp [← hL])))

theorem frame_spanPlans (x : Frame) (group : Bool) (dest : Nat) (v0 : List (List Nat)) (s : State) : s.only (spanPlans x group dest v0 s).2 [] (regsOf ["SPAN_STATUS"]) := by
  induction v0 generalizing s with
  | nil =>
    unfold spanPlans
    generalize hP : ([] : List Part) = P
    generalize hL : (["SPAN_STATUS"] : List String) = L
    repeat (first
      | with_reducible exact keep_refl _ _ _)
  | cons e l ih =>
    unfold spanPlans
    generalize hP : ([] : List Part) = P
    generalize hL : (["SPAN_STATUS"] : List String) = L
    repeat (first
      | with_reducible assumption
      | with_reducible exact keep_refl _ _ _
      | (dsimp -zeta only)
      | ((try lift_lets -underBinder); with_reducible intro y; refine cut_at (A := State.only s y.2 P (regsOf L)) ?_ ?_; on_goal 2 => (intro hy; clear_value y)
         unfold y)
      | (with_reducible apply keep_of (ih ..); on_goal 2 => simp [← hP]
         on_goal 2 => simp [← hL])
      | (with_reducible apply keep_of (frame_spanPlan ..); on_goal 2 => simp [← hP]
         on_goal 2 => simp [← hL]))

theorem frame_planCopies (s : State) (x : Frame) : s.only (State.planCopies s x).2 [] (regsOf ["SPAN_STATUS"]) := by
  unfold State.planCopies
  generalize hP : ([] : List Part) = P
  generalize hL : (["SPAN_STATUS"] : List String) = L
  repeat (first
    | with_reducible assumption
    | with_reducible exact keep_refl _ _ _
    | ((try lift_lets -underBinder); with_reducible intro y; refine cut_at (A := State.only s y.2 P (regsOf L)) ?_ ?_; on_goal 2 => (intro hy; clear_value y)
       unfold y)
    | ((try lift_lets -underBinder); with_reducible intro y; clear_value y)
    | with_reducible apply keep_ifp
    | (with_reducible apply keep_of (frame_spanPlans ..); on_goal 2 => simp [← hP]
       on_goal 2 => simp [← hL])
    | split)

theorem frame_fixCopies (s : State) (f : Nat) : s.only (State.fixCopies s f) [.counters, .path, .buf, .host, .pair] (regsOf ["CNT_HALF_LO", "CNT_HALF_HI", "BUF_STATUS", "BUF_REF_LIMIT_CNT", "SPAN_STATUS"]) := by
  unfold State.fixCopies
  generalize hP : ([.counters, .path, .buf, .host, .pair] : List Part) = P
  generalize hL : (["CNT_HALF_LO", "CNT_HALF_HI", "BUF_STATUS", "BUF_REF_LIMIT_CNT", "SPAN_STATUS"] : List String) = L
  repeat (first
    | with_reducible assumption
    | with_reducible exact keep_refl _ _ _
    | (dsimp -zeta only)
    | ((try lift_lets -underBinder); with_reducible intro y; refine cut_at (A := State.only s y P (regsOf L)) ?_ ?_; on_goal 2 => (intro hy; clear_value y)
       unfold y)
    | ((try lift_lets -underBinder); with_reducible intro y; clear_value y)
    | with_reducible refine keep_foldl ?_ (fun u a => ?_)
    | (with_reducible apply keep_on; on_goal 2 => first | assumption | (with_reducible apply reg_BUF_REF_LIMIT_CNT_COUNT; simp [← hL]) | (with_reducible apply reg_BUF_STATUS_REF_LIMIT; simp [← hL]))
    | (with_reducible apply keep_satAdd; on_goal 2 => first | assumption | (with_reducible apply reg_BUF_REF_LIMIT_CNT_COUNT; simp [← hL]) | (with_reducible apply reg_BUF_STATUS_REF_LIMIT; simp [← hL]))
    | (with_reducible apply keep_modHost; on_goal 2 => simp [← hP])
    | (with_reducible apply keep_setFrame; on_goal 2 => simp [← hP])
    | (with_reducible apply keep_of (frame_planCopies ..); on_goal 2 => simp [← hP]
       on_goal 2 => simp [← hL])
    | (with_reducible apply keep_of (frame_countLane ..); on_goal 2 => simp [← hP]
       on_goal 2 => simp [← hL])
    | (with_reducible apply keep_of (frame_setCounts ..); on_goal 2 => simp [← hP]
       on_goal 2 => simp [← hL])
    | split)

theorem frame_finishInject (s : State) (f : Nat) (r : InjectRun) : s.only (State.finishInject s f r) [.events, .host] (regsOf ["RING_DEV_INDEX"]) := by
  unfold State.finishInject
  generalize hP : ([.events, .host] : List Part) = P
  generalize hL : (["RING_DEV_INDEX"] : List String) = L
  repeat (first
    | with_reducible assumption
    | with_reducible exact keep_refl _ _ _
    | ((try lift_lets -underBinder); with_reducible intro y; refine cut_at (A := State.only s y P (regsOf L)) ?_ ?_; on_goal 2 => (intro hy; clear_value y)
       unfold y)
    | ((try lift_lets -underBinder); with_reducible intro y; clear_value y)
    | with_reducible apply keep_if
    | (with_reducible apply keep_modHost; on_goal 2 => simp [← hP])
    | (with_reducible apply keep_modRing; on_goal 2 => simp [← hP])
    | (with_reducible apply keep_of (frame_postCompletion ..); on_goal 2 => simp [← hP]
       on_goal 2 => simp [← hL]))

theorem frame_putInject (s : State) (f : Nat) (r : InjectRun) : s.only (State.putInject s f r) [.events, .host] (regsOf ["RING_DEV_INDEX"]) := by
  unfold State.putInject
  generalize hP : ([.events, .host] : List Part) = P
  generalize hL : (["RING_DEV_INDEX"] : List String) = L
  repeat (first
    | with_reducible exact keep_refl _ _ _
    | with_reducible apply keep_if
    | (with_reducible apply keep_modHost; on_goal 2 => simp [← hP])
    | (with_reducible apply keep_of (frame_finishInject ..); on_goal 2 => simp [← hP]
       on_goal 2 => simp [← hL]))

theorem frame_injectCopy (s : State) (f : Nat) (lost : Option Nat) : s.only (State.injectCopy s f lost) [.events, .host] (regsOf ["RING_DEV_INDEX"]) := by
  unfold State.injectCopy
  generalize hP : ([.events, .host] : List Part) = P
  generalize hL : (["RING_DEV_INDEX"] : List String) = L
  repeat (first
    | with_reducible exact keep_refl _ _ _
    | (with_reducible apply keep_of (frame_putInject ..); on_goal 2 => simp [← hP]
       on_goal 2 => simp [← hL])
    | split)

theorem frame_reap (s : State) (f : Nat) : s.only (State.reap s f) [.path] (regsOf []) := by
  unfold State.reap
  generalize hP : ([.path] : List Part) = P
  generalize hL : ([] : List String) = L
  repeat (first
    | with_reducible exact keep_refl _ _ _
    | with_reducible apply keep_if
    | (with_reducible apply keep_modPath; on_goal 2 => simp [← hP])
    | split)

theorem frame_dropRefs (s : State) (f : Nat) (n : Nat) : s.only (State.dropRefs s f n) [.path] (regsOf []) := by
  unfold State.dropRefs
  generalize hP : ([.path] : List Part) = P
  generalize hL : ([] : List String) = L
  repeat (first
    | with_reducible exact keep_refl _ _ _
    | (with_reducible apply keep_of (frame_reap ..); on_goal 2 => simp [← hP]
       on_goal 2 => simp [← hL])
    | (with_reducible apply keep_of (frame_modFrame ..); on_goal 2 => simp [← hP]
       on_goal 2 => simp [← hL]))

theorem frame_syncCopies (s : State) : s.only (State.syncCopies s) [] (regsOf ["QUE_COPIES"]) := by
  unfold State.syncCopies
  generalize hP : ([] : List Part) = P
  generalize hL : (["QUE_COPIES"] : List String) = L
  repeat (first
    | with_reducible exact keep_refl _ _ _
    | (with_reducible apply keep_set; on_goal 2 => first | assumption | (with_reducible apply reg_QUE_COPIES_USED; simp [← hL])))

theorem frame_noteDrain (s : State) (q : Nat) (n : Nat) : s.only (State.noteDrain s q n) [.path] (regsOf []) := by
  unfold State.noteDrain
  generalize hP : ([.path] : List Part) = P
  generalize hL : ([] : List String) = L
  repeat (first
    | with_reducible exact keep_refl _ _ _
    | (with_reducible apply keep_modPath; on_goal 2 => simp [← hP]))

theorem frame_setTag (s : State) (q : Nat) (t : QueueTag) : s.only (State.setTag s q t) [.tm] (regsOf []) := by
  unfold State.setTag
  generalize hP : ([.tm] : List Part) = P
  generalize hL : ([] : List String) = L
  repeat (first
    | with_reducible exact keep_refl _ _ _
    | (with_reducible apply keep_modTm; on_goal 2 => simp [← hP]))

theorem frame_retag (s : State) (q : Nat) : s.only (State.retag s q) [.tm] (regsOf []) := by
  unfold State.retag
  generalize hP : ([.tm] : List Part) = P
  generalize hL : ([] : List String) = L
  repeat (first
    | with_reducible exact keep_refl _ _ _
    | ((try lift_lets -underBinder); with_reducible intro y; clear_value y)
    | with_reducible apply keep_if
    | (with_reducible apply keep_of (frame_setTag ..); on_goal 2 => simp [← hP]
       on_goal 2 => simp [← hL])
    | split)

theorem frame_setRod (s : State) (q : Nat) (l : List Nat) : s.only (State.setRod s q l) [.path] (regsOf []) := by
  unfold State.setRod
  generalize hP : ([.path] : List Part) = P
  generalize hL : ([] : List String) = L
  repeat (first
    | with_reducible exact keep_refl _ _ _
    | (with_reducible apply keep_modPath; on_goal 2 => simp [← hP]))

theorem frame_leaveSegment (s : State) (q : Nat) (c : Nat) : s.only (State.leaveSegment s q c) [.path] (regsOf []) := by
  unfold State.leaveSegment
  generalize hP : ([.path] : List Part) = P
  generalize hL : ([] : List String) = L
  repeat (first
    | with_reducible exact keep_refl _ _ _
    | ((try lift_lets -underBinder); with_reducible intro y; clear_value y)
    | (with_reducible apply keep_modPath; on_goal 2 => simp [← hP])
    | split)

theorem frame_unlinkCopy (s : State) (c : Nat) (x : Copy) : s.only (State.unlinkCopy s c x) [.ports, .path, .tm] (regsOf []) := by
  unfold State.unlinkCopy
  generalize hP : ([.ports, .path, .tm] : List Part) = P
  generalize hL : ([] : List String) = L
  repeat (first
    | with_reducible assumption
    | with_reducible exact keep_refl _ _ _
    | ((try lift_lets -underBinder); with_reducible intro y; refine cut_at (A := State.only s y P (regsOf L)) ?_ ?_; on_goal 2 => (intro hy; clear_value y)
       unfold y)
    | ((try lift_lets -underBinder); with_reducible intro y; clear_value y)
    | with_reducible apply keep_if
    | (with_reducible apply keep_modPort; on_goal 2 => simp [← hP])
    | (with_reducible apply keep_modPath; on_goal 2 => simp [← hP])
    | (with_reducible apply keep_of (frame_noteDrain ..); on_goal 2 => simp [← hP]
       on_goal 2 => simp [← hL])
    | (with_reducible apply keep_of (frame_setRod ..); on_goal 2 => simp [← hP]
       on_goal 2 => simp [← hL])
    | (with_reducible apply keep_of (frame_retag ..); on_goal 2 => simp [← hP]
       on_goal 2 => simp [← hL])
    | (with_reducible apply keep_of (frame_leaveSegment ..); on_goal 2 => simp [← hP]
       on_goal 2 => simp [← hL]))

theorem frame_spillUse (s : State) (n : Nat) (up : Bool) : s.only (State.spillUse s n up) [] (regsOf ["BUF_SPILL_USED"]) := by
  unfold State.spillUse
  generalize hP : ([] : List Part) = P
  generalize hL : (["BUF_SPILL_USED"] : List String) = L
  repeat (first
    | with_reducible exact keep_refl _ _ _
    | (with_reducible apply keep_set; on_goal 2 => first | assumption | (with_reducible apply reg_BUF_SPILL_USED_USED; simp [← hL])))

theorem frame_discard (s : State) (c : Nat) (counter : Nat) (detail : Nat) (agent : Nat) : s.only (State.discard s c counter detail agent) [.ports, .counters, .events, .path, .buf, .tm, .tally, .host, .pair] (regsOf ["CNT_HALF_LO", "CNT_HALF_HI", "TALLY_STATUS", "TALLY_RING_LEVEL", "TALLY_LOST_CNT", "BUF_POOL_USED", "BUF_POOL_SHARED", "BUF_STATUS", "BUF_XOFF_POOLS", "BUF_LANDING", "BUF_BAD_FREE_LOC", "BUF_BAD_FREE_CNT", "BUF_SPILL_USED", "QUE_COPIES", "RING_DEV_INDEX"]) := by
  unfold State.discard
  generalize hP : ([.ports, .counters, .events, .path, .buf, .tm, .tally, .host, .pair] : List Part) = P
  generalize hL : (["CNT_HALF_LO", "CNT_HALF_HI", "TALLY_STATUS", "TALLY_RING_LEVEL", "TALLY_LOST_CNT", "BUF_POOL_USED", "BUF_POOL_SHARED", "BUF_STATUS", "BUF_XOFF_POOLS", "BUF_LANDING", "BUF_BAD_FREE_LOC", "BUF_BAD_FREE_CNT", "BUF_SPILL_USED", "QUE_COPIES", "RING_DEV_INDEX"] : List String) = L
  repeat (first
    | with_reducible assumption
    | with_reducible exact keep_refl _ _ _
    | ((try lift_lets -underBinder); with_reducible intro y; refine cut_at (A := State.only s y P (regsOf L)) ?_ ?_; on_goal 2 => (intro hy; clear_value y)
       unfold y)
    | ((try lift_lets -underBinder); with_reducible intro y; clear_value y)
    | with_reducible apply keep_if
    | (with_reducible apply keep_modPath; on_goal 2 => simp [← hP])
    | (with_reducible apply keep_of (frame_unlinkCopy ..); on_goal 2 => simp [← hP]
       on_goal 2 => simp [← hL])
    | (with_reducible apply keep_of (frame_spillUse ..); on_goal 2 => simp [← hP]
       on_goal 2 => simp [← hL])
    | (with_reducible apply keep_of (frame_decrementAll ..); on_goal 2 => simp [← hP]
       on_goal 2 => simp [← hL])
    | (with_reducible apply keep_of (frame_countLane ..); on_goal 2 => simp [← hP]
       on_goal 2 => simp [← hL])
    | (with_reducible apply keep_of (frame_injectCopy ..); on_goal 2 => simp [← hP]
       on_goal 2 => simp [← hL])
    | (with_reducible apply keep_of (frame_copyRecord ..); on_goal 2 => simp [← hP]
       on_goal 2 => simp [← hL])
    | (with_reducible apply keep_of (frame_syncCopies ..); on_goal 2 => simp [← hP]
       on_goal 2 => simp [← hL])
    | (with_reducible apply keep_of (frame_dropRefs ..); on_goal 2 => simp [← hP]
       on_goal 2 => simp [← hL])
    | split)

theorem frame_refuseCopy (s : State) (c : Nat) (x : Copy) (counter : Nat) (detail : Nat) : s.only (State.refuseCopy s c x counter detail) [.ports, .counters, .events, .path, .buf, .tm, .tally, .host, .pair] (regsOf ["CNT_HALF_LO", "CNT_HALF_HI", "TALLY_STATUS", "TALLY_RING_LEVEL", "TALLY_LOST_CNT", "BUF_POOL_USED", "BUF_POOL_SHARED", "BUF_STATUS", "BUF_XOFF_POOLS", "BUF_LANDING", "BUF_BAD_FREE_LOC", "BUF_BAD_FREE_CNT", "BUF_SPILL_USED", "QUE_COPIES", "MIRROR_SESSION_DROP", "MIRROR_STATUS", "RING_DEV_INDEX"]) := by
  unfold State.refuseCopy
  generalize hP : ([.ports, .counters, .events, .path, .buf, .tm, .tally, .host, .pair] : List Part) = P
  generalize hL : (["CNT_HALF_LO", "CNT_HALF_HI", "TALLY_STATUS", "TALLY_RING_LEVEL", "TALLY_LOST_CNT", "BUF_POOL_USED", "BUF_POOL_SHARED", "BUF_STATUS", "BUF_XOFF_POOLS", "BUF_LANDING", "BUF_BAD_FREE_LOC", "BUF_BAD_FREE_CNT", "BUF_SPILL_USED", "QUE_COPIES", "MIRROR_SESSION_DROP", "MIRROR_STATUS", "RING_DEV_INDEX"] : List String) = L
  repeat (first
    | with_reducible assumption
    | with_reducible exact keep_refl _ _ _
    | ((try lift_lets -underBinder); with_reducible intro y; refine cut_at (A := State.only s y P (regsOf L)) ?_ ?_; on_goal 2 => (intro hy; clear_value y)
       unfold y)
    | with_reducible apply keep_if
    | (with_reducible apply keep_on; on_goal 2 => first | assumption | (with_reducible apply reg_MIRROR_SESSION_DROP_DROP; simp [← hL]) | (with_reducible apply reg_MIRROR_STATUS_DROP; simp [← hL]))
    | (with_reducible apply keep_satAdd; on_goal 2 => first | assumption | (with_reducible apply reg_MIRROR_SESSION_DROP_DROP; simp [← hL]) | (with_reducible apply reg_MIRROR_STATUS_DROP; simp [← hL]))
    | (with_reducible apply keep_of (frame_discard ..); on_goal 2 => simp [← hP]
       on_goal 2 => simp [← hL]))

theorem frame_closeSegment (s : State) (q : Nat) : s.only (State.closeSegment s q) [.path] (regsOf []) := by
  unfold State.closeSegment
  generalize hP : ([.path] : List Part) = P
  generalize hL : ([] : List String) = L
  repeat (first
    | with_reducible exact keep_refl _ _ _
    | (with_reducible apply keep_modPath; on_goal 2 => simp [← hP])
    | split)

theorem frame_spillFull (s : State) : s.only (State.spillFull s) [] (regsOf ["BUF_STATUS", "BUF_SPILL_FULL_CNT"]) := by
  unfold State.spillFull
  generalize hP : ([] : List Part) = P
  generalize hL : (["BUF_STATUS", "BUF_SPILL_FULL_CNT"] : List String) = L
  repeat (first
    | with_reducible exact keep_refl _ _ _
    | (with_reducible apply keep_on; on_goal 2 => first | assumption | (with_reducible apply reg_BUF_SPILL_FULL_CNT_COUNT; simp [← hL]) | (with_reducible apply reg_BUF_STATUS_SPILL_FULL; simp [← hL]))
    | (with_reducible apply keep_satAdd; on_goal 2 => first | assumption | (with_reducible apply reg_BUF_SPILL_FULL_CNT_COUNT; simp [← hL]) | (with_reducible apply reg_BUF_STATUS_SPILL_FULL; simp [← hL])))

theorem frame_segmentLink (s : State) (c : Nat) (x : Copy) (ahead : Nat) : s.only (State.segmentLink s c x ahead) [.path] (regsOf ["BUF_STATUS", "BUF_SPILL_FULL_CNT"]) := by
  unfold State.segmentLink
  generalize hP : ([.path] : List Part) = P
  generalize hL : (["BUF_STATUS", "BUF_SPILL_FULL_CNT"] : List String) = L
  repeat (first
    | with_reducible exact keep_refl _ _ _
    | ((try lift_lets -underBinder); with_reducible intro y; clear_value y)
    | with_reducible apply keep_if
    | (with_reducible apply keep_modPath; on_goal 2 => simp [← hP])
    | (with_reducible apply keep_of (frame_closeSegment ..); on_goal 2 => simp [← hP]
       on_goal 2 => simp [← hL])
    | (with_reducible apply keep_of (frame_spillFull ..); on_goal 2 => simp [← hP]
       on_goal 2 => simp [← hL])
    | split)

theorem frame_offer (s : State) (x : Copy) (waits : Bool) : s.only (State.offer s x waits) [.path] (regsOf []) := by
  unfold State.offer
  generalize hP : ([.path] : List Part) = P
  generalize hL : ([] : List String) = L
  repeat (first
    | with_reducible exact keep_refl _ _ _
    | ((try lift_lets -underBinder); with_reducible intro y; clear_value y)
    | (with_reducible apply keep_modPath; on_goal 2 => simp [← hP]))

theorem frame_takeSeq (s : State) (n : Nat) : s.only (State.takeSeq s n).2 [.path] (regsOf []) := by
  unfold State.takeSeq
  generalize hP : ([.path] : List Part) = P
  generalize hL : ([] : List String) = L
  repeat (first
    | with_reducible exact keep_refl _ _ _
    | (dsimp -zeta only)
    | ((try lift_lets -underBinder); with_reducible intro y; clear_value y)
    | (with_reducible apply keep_modPath; on_goal 2 => simp [← hP]))

theorem frame_freeLists (s : State) : s.only (State.freeLists s) [.mcast] (regsOf ["MCAST_MEMBERS_USED"]) := by
  unfold State.freeLists
  generalize hP : ([.mcast] : List Part) = P
  generalize hL : (["MCAST_MEMBERS_USED"] : List String) = L
  repeat (first
    | with_reducible assumption
    | with_reducible exact keep_refl _ _ _
    | ((try lift_lets -underBinder); with_reducible intro y; refine cut_at (A := State.only s y P (regsOf L)) ?_ ?_; on_goal 2 => (intro hy; clear_value y)
       unfold y)
    | ((try lift_lets -underBinder); with_reducible intro y; clear_value y)
    | (with_reducible apply keep_set; on_goal 2 => first | assumption | (with_reducible apply reg_MCAST_MEMBERS_USED_USED; simp [← hL]))
    | (fail_if_no_progress (with_reducible apply keep_at_mcast; on_goal 2 => simp [← hP])))

theorem frame_startWalk (s : State) (f : Nat) : s.only (State.startWalk s f) [.path, .mcast] (regsOf ["MCAST_MEMBERS_USED"]) := by
  unfold State.startWalk
  generalize hP : ([.path, .mcast] : List Part) = P
  generalize hL : (["MCAST_MEMBERS_USED"] : List String) = L
  repeat (first
    | with_reducible exact keep_refl _ _ _
    | with_reducible apply keep_if
    | (with_reducible apply keep_modPath; on_goal 2 => simp [← hP])
    | (with_reducible apply keep_setFrame; on_goal 2 => simp [← hP])
    | (with_reducible apply keep_of (frame_freeLists ..); on_goal 2 => simp [← hP]
       on_goal 2 => simp [← hL])
    | (with_reducible apply keep_of (frame_reap ..); on_goal 2 => simp [← hP]
       on_goal 2 => simp [← hL])
    | split)

theorem frame_noteLink (s : State) (pipe : Nat) : s.only (State.noteLink s pipe) [.path] (regsOf []) := by
  unfold State.noteLink
  generalize hP : ([.path] : List Part) = P
  generalize hL : ([] : List String) = L
  repeat (first
    | with_reducible exact keep_refl _ _ _
    | (with_reducible apply keep_modPath; on_goal 2 => simp [← hP]))

theorem frame_linkCopy (s : State) (c : Nat) (x : Copy) : s.only (State.linkCopy s c x) [.ports, .counters, .events, .path, .buf, .tm, .tally, .host, .pair] (regsOf ["CNT_HALF_LO", "CNT_HALF_HI", "TALLY_STATUS", "TALLY_RING_LEVEL", "TALLY_LOST_CNT", "BUF_POOL_USED", "BUF_POOL_SHARED", "BUF_STATUS", "BUF_XOFF_POOLS", "BUF_LANDING", "BUF_BAD_FREE_LOC", "BUF_BAD_FREE_CNT", "BUF_SPILL_FULL_CNT", "BUF_SPILL_USED", "QUE_STATUS", "QUE_COPIES", "QUE_TAIL_DROP_CNT", "QUE_COPY_FULL_CNT", "MIRROR_SESSION_DROP", "MIRROR_STATUS", "RING_DEV_INDEX"]) := by
  unfold State.linkCopy
  generalize hP : ([.ports, .counters, .events, .path, .buf, .tm, .tally, .host, .pair] : List Part) = P
  generalize hL : (["CNT_HALF_LO", "CNT_HALF_HI", "TALLY_STATUS", "TALLY_RING_LEVEL", "TALLY_LOST_CNT", "BUF_POOL_USED", "BUF_POOL_SHARED", "BUF_STATUS", "BUF_XOFF_POOLS", "BUF_LANDING", "BUF_BAD_FREE_LOC", "BUF_BAD_FREE_CNT", "BUF_SPILL_FULL_CNT", "BUF_SPILL_USED", "QUE_STATUS", "QUE_COPIES", "QUE_TAIL_DROP_CNT", "QUE_COPY_FULL_CNT", "MIRROR_SESSION_DROP", "MIRROR_STATUS", "RING_DEV_INDEX"] : List String) = L
  repeat (first
    | with_reducible assumption
    | with_reducible exact keep_refl _ _ _
    | ((try lift_lets -underBinder); with_reducible intro y; refine cut_at (A := State.only s y P (regsOf L)) ?_ ?_; on_goal 2 => (intro hy; clear_value y)
       unfold y)
    | ((try lift_lets -underBinder); with_reducible intro y; clear_value y)
    | with_reducible apply keep_if
    | (with_reducible apply keep_on; on_goal 2 => first | assumption | (with_reducible apply reg_QUE_TAIL_DROP_CNT_COUNT; simp [← hL]) | (with_reducible apply reg_QUE_STATUS_TAIL_DROP; simp [← hL]) | (with_reducible apply reg_QUE_COPY_FULL_CNT_COUNT; simp [← hL]) | (with_reducible apply reg_QUE_STATUS_COPY_FULL; simp [← hL]))
    | (with_reducible apply keep_satAdd; on_goal 2 => first | assumption | (with_reducible apply reg_QUE_TAIL_DROP_CNT_COUNT; simp [← hL]) | (with_reducible apply reg_QUE_STATUS_TAIL_DROP; simp [← hL]) | (with_reducible apply reg_QUE_COPY_FULL_CNT_COUNT; simp [← hL]) | (with_reducible apply reg_QUE_STATUS_COPY_FULL; simp [← hL]))
    | (with_reducible apply keep_modPath; on_goal 2 => simp [← hP])
    | (with_reducible apply keep_setCopy; on_goal 2 => simp [← hP])
    | (with_reducible apply keep_of (frame_noteLink ..); on_goal 2 => simp [← hP]
       on_goal 2 => simp [← hL])
    | (with_reducible apply keep_of (frame_refuseCopy ..); on_goal 2 => simp [← hP]
       on_goal 2 => simp [← hL])
    | (with_reducible apply keep_of (frame_segmentLink ..); on_goal 2 => simp [← hP]
       on_goal 2 => simp [← hL])
    | (with_reducible apply keep_of (frame_setRod ..); on_goal 2 => simp [← hP]
       on_goal 2 => simp [← hL])
    | (with_reducible apply keep_of (frame_syncCopies ..); on_goal 2 => simp [← hP]
       on_goal 2 => simp [← hL])
    | (with_reducible apply keep_of (frame_retag ..); on_goal 2 => simp [← hP]
       on_goal 2 => simp [← hL]))

theorem frame_joinResidue (s : State) (c : Nat) (x : Copy) : s.only (State.joinResidue s c x) [.path] (regsOf []) := by
  unfold State.joinResidue
  generalize hP : ([.path] : List Part) = P
  generalize hL : ([] : List String) = L
  repeat (first
    | with_reducible exact keep_refl _ _ _
    | (with_reducible apply keep_modPath; on_goal 2 => simp [← hP]))

theorem frame_linkOffer (s : State) (c : Nat) : s.only (State.linkOffer s c) [.ports, .counters, .events, .path, .buf, .tm, .tally, .host, .pair] (regsOf ["CNT_HALF_LO", "CNT_HALF_HI", "TALLY_STATUS", "TALLY_RING_LEVEL", "TALLY_LOST_CNT", "BUF_POOL_USED", "BUF_POOL_SHARED", "BUF_STATUS", "BUF_XOFF_POOLS", "BUF_LANDING", "BUF_BAD_FREE_LOC", "BUF_BAD_FREE_CNT", "BUF_SPILL_FULL_CNT", "BUF_SPILL_USED", "QUE_STATUS", "QUE_COPIES", "QUE_TAIL_DROP_CNT", "QUE_COPY_FULL_CNT", "MIRROR_SESSION_DROP", "MIRROR_STATUS", "RING_DEV_INDEX"]) := by
  unfold State.linkOffer
  generalize hP : ([.ports, .counters, .events, .path, .buf, .tm, .tally, .host, .pair] : List Part) = P
  generalize hL : (["CNT_HALF_LO", "CNT_HALF_HI", "TALLY_STATUS", "TALLY_RING_LEVEL", "TALLY_LOST_CNT", "BUF_POOL_USED", "BUF_POOL_SHARED", "BUF_STATUS", "BUF_XOFF_POOLS", "BUF_LANDING", "BUF_BAD_FREE_LOC", "BUF_BAD_FREE_CNT", "BUF_SPILL_FULL_CNT", "BUF_SPILL_USED", "QUE_STATUS", "QUE_COPIES", "QUE_TAIL_DROP_CNT", "QUE_COPY_FULL_CNT", "MIRROR_SESSION_DROP", "MIRROR_STATUS", "RING_DEV_INDEX"] : List String) = L
  repeat (first
    | with_reducible exact keep_refl _ _ _
    | with_reducible apply keep_if
    | (with_reducible apply keep_of (frame_linkCopy ..); on_goal 2 => simp [← hP]
       on_goal 2 => simp [← hL])
    | (with_reducible apply keep_of (frame_joinResidue ..); on_goal 2 => simp [← hP]
       on_goal 2 => simp [← hL])
    | split)

theorem frame_linkResidue (s : State) (q : Nat) : s.only (State.linkResidue s q) [.ports, .counters, .events, .path, .buf, .tm, .tally, .host, .pair] (regsOf ["CNT_HALF_LO", "CNT_HALF_HI", "TALLY_STATUS", "TALLY_RING_LEVEL", "TALLY_LOST_CNT", "BUF_POOL_USED", "BUF_POOL_SHARED", "BUF_STATUS", "BUF_XOFF_POOLS", "BUF_LANDING", "BUF_BAD_FREE_LOC", "BUF_BAD_FREE_CNT", "BUF_SPILL_FULL_CNT", "BUF_SPILL_USED", "QUE_STATUS", "QUE_COPIES", "QUE_TAIL_DROP_CNT", "QUE_COPY_FULL_CNT", "MIRROR_SESSION_DROP", "MIRROR_STATUS", "RING_DEV_INDEX"]) := by
  unfold State.linkResidue
  generalize hP : ([.ports, .counters, .events, .path, .buf, .tm, .tally, .host, .pair] : List Part) = P
  generalize hL : (["CNT_HALF_LO", "CNT_HALF_HI", "TALLY_STATUS", "TALLY_RING_LEVEL", "TALLY_LOST_CNT", "BUF_POOL_USED", "BUF_POOL_SHARED", "BUF_STATUS", "BUF_XOFF_POOLS", "BUF_LANDING", "BUF_BAD_FREE_LOC", "BUF_BAD_FREE_CNT", "BUF_SPILL_FULL_CNT", "BUF_SPILL_USED", "QUE_STATUS", "QUE_COPIES", "QUE_TAIL_DROP_CNT", "QUE_COPY_FULL_CNT", "MIRROR_SESSION_DROP", "MIRROR_STATUS", "RING_DEV_INDEX"] : List String) = L
  repeat (first
    | with_reducible exact keep_refl _ _ _
    | with_reducible apply keep_if
    | (with_reducible apply keep_of (frame_linkCopy ..); on_goal 2 => simp [← hP]
       on_goal 2 => simp [← hL])
    | split)

theorem frame_endWalk (s : State) (pipe : Nat) (f : Nat) : s.only (State.endWalk s pipe f) [.path, .mcast] (regsOf ["MCAST_MEMBERS_USED"]) := by
  unfold State.endWalk
  generalize hP : ([.path, .mcast] : List Part) = P
  generalize hL : (["MCAST_MEMBERS_USED"] : List String) = L
  repeat (first
    | with_reducible assumption
    | with_reducible exact keep_refl _ _ _
    | ((try lift_lets -underBinder); with_reducible intro y; refine cut_at (A := State.only s y P (regsOf L)) ?_ ?_; on_goal 2 => (intro hy; clear_value y)
       unfold y)
    | (with_reducible apply keep_modPath; on_goal 2 => simp [← hP])
    | (with_reducible apply keep_of (frame_freeLists ..); on_goal 2 => simp [← hP]
       on_goal 2 => simp [← hL])
    | (with_reducible apply keep_of (frame_reap ..); on_goal 2 => simp [← hP]
       on_goal 2 => simp [← hL])
    | (with_reducible apply keep_of (frame_modFrame ..); on_goal 2 => simp [← hP]
       on_goal 2 => simp [← hL]))

theorem frame_replicate (s : State) (pipe : Nat) (places : Nat) : s.only (State.replicate s pipe places) [.ports, .counters, .events, .path, .mcast, .buf, .tm, .tally, .host, .pair] (regsOf ["CNT_HALF_LO", "CNT_HALF_HI", "TALLY_STATUS", "TALLY_RING_LEVEL", "TALLY_LOST_CNT", "BUF_POOL_USED", "BUF_POOL_SHARED", "BUF_STATUS", "BUF_XOFF_POOLS", "BUF_LANDING", "BUF_BAD_FREE_LOC", "BUF_BAD_FREE_CNT", "BUF_SPILL_FULL_CNT", "BUF_SPILL_USED", "QUE_STATUS", "QUE_COPIES", "QUE_TAIL_DROP_CNT", "QUE_COPY_FULL_CNT", "MCAST_MEMBERS_USED", "MIRROR_SESSION_DROP", "MIRROR_STATUS", "RING_DEV_INDEX"]) := by
  unfold State.replicate
  generalize hP : ([.ports, .counters, .events, .path, .mcast, .buf, .tm, .tally, .host, .pair] : List Part) = P
  generalize hL : (["CNT_HALF_LO", "CNT_HALF_HI", "TALLY_STATUS", "TALLY_RING_LEVEL", "TALLY_LOST_CNT", "BUF_POOL_USED", "BUF_POOL_SHARED", "BUF_STATUS", "BUF_XOFF_POOLS", "BUF_LANDING", "BUF_BAD_FREE_LOC", "BUF_BAD_FREE_CNT", "BUF_SPILL_FULL_CNT", "BUF_SPILL_USED", "QUE_STATUS", "QUE_COPIES", "QUE_TAIL_DROP_CNT", "QUE_COPY_FULL_CNT", "MCAST_MEMBERS_USED", "MIRROR_SESSION_DROP", "MIRROR_STATUS", "RING_DEV_INDEX"] : List String) = L
  repeat (first
    | with_reducible assumption
    | with_reducible exact keep_refl _ _ _
    | (dsimp -zeta only)
    | ((try lift_lets -underBinder); with_reducible intro y; refine cut_at (A := State.only s y P (regsOf L)) ?_ ?_; on_goal 2 => (intro hy; clear_value y)
       unfold y)
    | ((try lift_lets -underBinder); with_reducible intro y; refine cut_at (A := State.only s y.2 P (regsOf L)) ?_ ?_; on_goal 2 => (intro hy; clear_value y)
       unfold y)
    | ((try lift_lets -underBinder); with_reducible intro y; clear_value y)
    | with_reducible apply keep_if
    | (with_reducible apply keep_modPath; on_goal 2 => simp [← hP])
    | (with_reducible apply keep_setFrame; on_goal 2 => simp [← hP])
    | (with_reducible apply keep_of (frame_endWalk ..); on_goal 2 => simp [← hP]
       on_goal 2 => simp [← hL])
    | (with_reducible apply keep_of (frame_takeSeq ..); on_goal 2 => simp [← hP]
       on_goal 2 => simp [← hL])
    | (with_reducible apply keep_of (frame_offer ..); on_goal 2 => simp [← hP]
       on_goal 2 => simp [← hL])
    | (with_reducible apply keep_of (frame_linkCopy ..); on_goal 2 => simp [← hP]
       on_goal 2 => simp [← hL])
    | split)

theorem frame_offerMirror (s : State) (c : Copy) (stamp : Nat) : s.only (State.offerMirror s c stamp) [.path] (regsOf []) := by
  unfold State.offerMirror
  generalize hP : ([.path] : List Part) = P
  generalize hL : ([] : List String) = L
  repeat (first
    | with_reducible exact keep_refl _ _ _
    | (dsimp -zeta only)
    | (with_reducible apply keep_of (frame_takeSeq ..); on_goal 2 => simp [← hP]
       on_goal 2 => simp [← hL])
    | (with_reducible apply keep_of (frame_offer ..); on_goal 2 => simp [← hP]
       on_goal 2 => simp [← hL])
    | split)

theorem frame_flushSome (s : State) (p : Nat) (n : Nat) : s.only (State.flushSome s p n) [.ports, .counters, .events, .path, .buf, .tm, .tally, .host, .pair] (regsOf ["CNT_HALF_LO", "CNT_HALF_HI", "TALLY_STATUS", "TALLY_RING_LEVEL", "TALLY_LOST_CNT", "BUF_POOL_USED", "BUF_POOL_SHARED", "BUF_STATUS", "BUF_XOFF_POOLS", "BUF_LANDING", "BUF_BAD_FREE_LOC", "BUF_BAD_FREE_CNT", "BUF_SPILL_USED", "QUE_COPIES", "RING_DEV_INDEX"]) := by
  unfold State.flushSome
  generalize hP : ([.ports, .counters, .events, .path, .buf, .tm, .tally, .host, .pair] : List Part) = P
  generalize hL : (["CNT_HALF_LO", "CNT_HALF_HI", "TALLY_STATUS", "TALLY_RING_LEVEL", "TALLY_LOST_CNT", "BUF_POOL_USED", "BUF_POOL_SHARED", "BUF_STATUS", "BUF_XOFF_POOLS", "BUF_LANDING", "BUF_BAD_FREE_LOC", "BUF_BAD_FREE_CNT", "BUF_SPILL_USED", "QUE_COPIES", "RING_DEV_INDEX"] : List String) = L
  repeat (first
    | with_reducible exact keep_refl _ _ _
    | ((try lift_lets -underBinder); with_reducible intro y; clear_value y)
    | with_reducible refine keep_foldl ?_ (fun u a => ?_)
    | (with_reducible apply keep_of (frame_discard ..); on_goal 2 => simp [← hP]
       on_goal 2 => simp [← hL]))

theorem frame_flushPort (s : State) (p : Nat) : s.only (State.flushPort s p) [.ports, .counters, .events, .reck, .path, .buf, .tm, .tally, .host, .pair] (regsOf ["CNT_HALF_LO", "CNT_HALF_HI", "TALLY_STATUS", "TALLY_RING_LEVEL", "TALLY_LOST_CNT", "BUF_POOL_USED", "BUF_POOL_SHARED", "BUF_STATUS", "BUF_XOFF_POOLS", "BUF_LANDING", "BUF_BAD_FREE_LOC", "BUF_BAD_FREE_CNT", "BUF_SPILL_USED", "QUE_COPIES", "RING_DEV_INDEX"]) := by
  unfold State.flushPort
  generalize hP : ([.ports, .counters, .events, .reck, .path, .buf, .tm, .tally, .host, .pair] : List Part) = P
  generalize hL : (["CNT_HALF_LO", "CNT_HALF_HI", "TALLY_STATUS", "TALLY_RING_LEVEL", "TALLY_LOST_CNT", "BUF_POOL_USED", "BUF_POOL_SHARED", "BUF_STATUS", "BUF_XOFF_POOLS", "BUF_LANDING", "BUF_BAD_FREE_LOC", "BUF_BAD_FREE_CNT", "BUF_SPILL_USED", "QUE_COPIES", "RING_DEV_INDEX"] : List String) = L
  repeat (first
    | with_reducible assumption
    | with_reducible exact keep_refl _ _ _
    | ((try lift_lets -underBinder); with_reducible intro y; refine cut_at (A := State.only s y P (regsOf L)) ?_ ?_; on_goal 2 => (intro hy; clear_value y)
       unfold y)
    | with_reducible apply keep_if
    | (with_reducible apply keep_modPort; on_goal 2 => simp [← hP])
    | (with_reducible apply keep_endRoutine; on_goal 2 => simp [← hP])
    | (with_reducible apply keep_of (frame_flushSome ..); on_goal 2 => simp [← hP]
       on_goal 2 => simp [← hL])
    | split)

theorem frame_stuckInspect (s : State) : s.only (State.stuckInspect s) [.reck] (regsOf []) := by
  unfold State.stuckInspect
  generalize hP : ([.reck] : List Part) = P
  generalize hL : ([] : List String) = L
  repeat (first
    | with_reducible exact keep_refl _ _ _
    | with_reducible apply keep_if
    | with_reducible refine keep_foldl ?_ (fun u a => ?_)
    | (with_reducible apply keep_request; on_goal 2 => simp [← hP])
    | split)

theorem frame_reclaimSome (s : State) (q : Nat) (n : Nat) : s.only (State.reclaimSome s q n) [.ports, .counters, .events, .path, .buf, .tm, .tally, .host, .pair] (regsOf ["CNT_HALF_LO", "CNT_HALF_HI", "TALLY_STATUS", "TALLY_RING_LEVEL", "TALLY_LOST_CNT", "BUF_POOL_USED", "BUF_POOL_SHARED", "BUF_STATUS", "BUF_XOFF_POOLS", "BUF_LANDING", "BUF_BAD_FREE_LOC", "BUF_BAD_FREE_CNT", "BUF_SPILL_USED", "QUE_STATUS", "QUE_STUCK_LOC", "QUE_COPIES", "QUE_STUCK_CNT", "RING_DEV_INDEX"]) := by
  unfold State.reclaimSome
  generalize hP : ([.ports, .counters, .events, .path, .buf, .tm, .tally, .host, .pair] : List Part) = P
  generalize hL : (["CNT_HALF_LO", "CNT_HALF_HI", "TALLY_STATUS", "TALLY_RING_LEVEL", "TALLY_LOST_CNT", "BUF_POOL_USED", "BUF_POOL_SHARED", "BUF_STATUS", "BUF_XOFF_POOLS", "BUF_LANDING", "BUF_BAD_FREE_LOC", "BUF_BAD_FREE_CNT", "BUF_SPILL_USED", "QUE_STATUS", "QUE_STUCK_LOC", "QUE_COPIES", "QUE_STUCK_CNT", "RING_DEV_INDEX"] : List String) = L
  repeat (first
    | with_reducible assumption
    | with_reducible exact keep_refl _ _ _
    | ((try lift_lets -underBinder); with_reducible intro y; refine cut_at (A := State.only s y P (regsOf L)) ?_ ?_; on_goal 2 => (intro hy; clear_value y)
       unfold y)
    | ((try lift_lets -underBinder); with_reducible intro y; clear_value y)
    | with_reducible apply keep_if
    | with_reducible refine keep_foldl ?_ (fun u a => ?_)
    | (with_reducible apply keep_set; on_goal 2 => first | assumption | (with_reducible apply reg_QUE_STUCK_LOC_QUEUE; simp [← hL]) | (with_reducible apply reg_QUE_STATUS_STUCK; simp [← hL]) | (with_reducible apply reg_QUE_STUCK_CNT_COUNT; simp [← hL]))
    | (with_reducible apply keep_on; on_goal 2 => first | assumption | (with_reducible apply reg_QUE_STUCK_LOC_QUEUE; simp [← hL]) | (with_reducible apply reg_QUE_STATUS_STUCK; simp [← hL]) | (with_reducible apply reg_QUE_STUCK_CNT_COUNT; simp [← hL]))
    | (with_reducible apply keep_satAdd; on_goal 2 => first | assumption | (with_reducible apply reg_QUE_STUCK_LOC_QUEUE; simp [← hL]) | (with_reducible apply reg_QUE_STATUS_STUCK; simp [← hL]) | (with_reducible apply reg_QUE_STUCK_CNT_COUNT; simp [← hL]))
    | (with_reducible apply keep_of (frame_discard ..); on_goal 2 => simp [← hP]
       on_goal 2 => simp [← hL]))

theorem frame_reclaim (s : State) (q : Nat) : s.only (State.reclaim s q) [.ports, .counters, .events, .reck, .path, .buf, .tm, .tally, .host, .pair] (regsOf ["CNT_HALF_LO", "CNT_HALF_HI", "TALLY_STATUS", "TALLY_RING_LEVEL", "TALLY_LOST_CNT", "BUF_POOL_USED", "BUF_POOL_SHARED", "BUF_STATUS", "BUF_XOFF_POOLS", "BUF_LANDING", "BUF_BAD_FREE_LOC", "BUF_BAD_FREE_CNT", "BUF_SPILL_USED", "QUE_STATUS", "QUE_STUCK_LOC", "QUE_COPIES", "QUE_STUCK_CNT", "RING_DEV_INDEX"]) := by
  unfold State.reclaim
  generalize hP : ([.ports, .counters, .events, .reck, .path, .buf, .tm, .tally, .host, .pair] : List Part) = P
  generalize hL : (["CNT_HALF_LO", "CNT_HALF_HI", "TALLY_STATUS", "TALLY_RING_LEVEL", "TALLY_LOST_CNT", "BUF_POOL_USED", "BUF_POOL_SHARED", "BUF_STATUS", "BUF_XOFF_POOLS", "BUF_LANDING", "BUF_BAD_FREE_LOC", "BUF_BAD_FREE_CNT", "BUF_SPILL_USED", "QUE_STATUS", "QUE_STUCK_LOC", "QUE_COPIES", "QUE_STUCK_CNT", "RING_DEV_INDEX"] : List String) = L
  repeat (first
    | with_reducible exact keep_refl _ _ _
    | with_reducible apply keep_if
    | (with_reducible apply keep_endRoutine; on_goal 2 => simp [← hP])
    | (with_reducible apply keep_of (frame_reclaimSome ..); on_goal 2 => simp [← hP]
       on_goal 2 => simp [← hL]))

theorem frame_spillWrite (s : State) (q : Nat) : s.only (State.spillWrite s q) [.ports, .counters, .path, .buf, .dram, .pair] (regsOf ["CNT_HALF_LO", "CNT_HALF_HI", "BUF_POOL_USED", "BUF_POOL_SHARED", "BUF_STATUS", "BUF_XOFF_POOLS", "BUF_LANDING", "BUF_BAD_FREE_LOC", "BUF_BAD_FREE_CNT", "BUF_SPILL_USED", "QUE_COPIES", "DRAM_STATUS", "DRAM_ROW_GUARD_CNT"]) := by
  unfold State.spillWrite
  generalize hP : ([.ports, .counters, .path, .buf, .dram, .pair] : List Part) = P
  generalize hL : (["CNT_HALF_LO", "CNT_HALF_HI", "BUF_POOL_USED", "BUF_POOL_SHARED", "BUF_STATUS", "BUF_XOFF_POOLS", "BUF_LANDING", "BUF_BAD_FREE_LOC", "BUF_BAD_FREE_CNT", "BUF_SPILL_USED", "QUE_COPIES", "DRAM_STATUS", "DRAM_ROW_GUARD_CNT"] : List String) = L
  repeat (first
    | with_reducible assumption
    | with_reducible exact keep_refl _ _ _
    | ((try lift_lets -underBinder); with_reducible intro y; refine cut_at (A := State.only s y P (regsOf L)) ?_ ?_; on_goal 2 => (intro hy; clear_value y)
       unfold y)
    | ((try lift_lets -underBinder); with_reducible intro y; clear_value y)
    | with_reducible apply keep_if
    | with_reducible refine keep_foldl ?_ (fun u a => ?_)
    | (with_reducible apply keep_setFrame; on_goal 2 => simp [← hP])
    | (with_reducible apply keep_setCopy; on_goal 2 => simp [← hP])
    | (with_reducible apply keep_of (frame_dramWrite ..); on_goal 2 => simp [← hP]
       on_goal 2 => simp [← hL])
    | (with_reducible apply keep_of (frame_decrementAll ..); on_goal 2 => simp [← hP]
       on_goal 2 => simp [← hL])
    | (with_reducible apply keep_of (frame_syncCopies ..); on_goal 2 => simp [← hP]
       on_goal 2 => simp [← hL])
    | (with_reducible apply keep_of (frame_spillUse ..); on_goal 2 => simp [← hP]
       on_goal 2 => simp [← hL])
    | split)

theorem frame_takeReturns (v0 : Nat) (v1 : List Nat) (s : State) : s.onlyIfP (takeReturns v0 v1 s) [.buf] (regsOf []) := by
  induction v0 generalizing v1 s with
  | zero =>
    unfold takeReturns
    generalize hP : ([.buf] : List Part) = P
    generalize hL : ([] : List String) = L
    repeat (first
      | with_reducible exact keep_refl _ _ _
      | with_reducible apply tryp_some)
  | succ j ih =>
    unfold takeReturns
    generalize hP : ([.buf] : List Part) = P
    generalize hL : ([] : List String) = L
    repeat (first
      | with_reducible exact keep_refl _ _ _
      | with_reducible exact tryp_none
      | (with_reducible apply tryp_of (ih ..); on_goal 2 => simp [← hP]
         on_goal 2 => simp [← hL])
      | (with_reducible apply keep_optp (by assumption) (frame_takeReturn ..); on_goal 2 => simp [← hP]
         on_goal 2 => simp [← hL])
      | split)

theorem frame_loseSpilled (s : State) : s.only (State.loseSpilled s) [.ports, .counters, .events, .path, .buf, .tm, .tally, .host, .pair] (regsOf ["CNT_HALF_LO", "CNT_HALF_HI", "TALLY_STATUS", "TALLY_RING_LEVEL", "TALLY_LOST_CNT", "BUF_POOL_USED", "BUF_POOL_SHARED", "BUF_STATUS", "BUF_XOFF_POOLS", "BUF_LANDING", "BUF_BAD_FREE_LOC", "BUF_BAD_FREE_CNT", "BUF_SPILL_USED", "QUE_COPIES", "RING_DEV_INDEX"]) := by
  unfold State.loseSpilled
  generalize hP : ([.ports, .counters, .events, .path, .buf, .tm, .tally, .host, .pair] : List Part) = P
  generalize hL : (["CNT_HALF_LO", "CNT_HALF_HI", "TALLY_STATUS", "TALLY_RING_LEVEL", "TALLY_LOST_CNT", "BUF_POOL_USED", "BUF_POOL_SHARED", "BUF_STATUS", "BUF_XOFF_POOLS", "BUF_LANDING", "BUF_BAD_FREE_LOC", "BUF_BAD_FREE_CNT", "BUF_SPILL_USED", "QUE_COPIES", "RING_DEV_INDEX"] : List String) = L
  repeat (first
    | with_reducible exact keep_refl _ _ _
    | with_reducible apply keep_if
    | with_reducible refine keep_foldl ?_ (fun u a => ?_)
    | (with_reducible apply keep_of (frame_discard ..); on_goal 2 => simp [← hP]
       on_goal 2 => simp [← hL])
    | split)

theorem frame_readSpilled (o : ReadOutcome) (v0 : Nat) (v1 : List Nat) (s : State) : s.only (readSpilled o v0 v1 s).2 [.dram] (regsOf ["DRAM_STATUS", "DRAM_ERR_LOC", "DRAM_CORR_CNT", "DRAM_UNCORR_CNT", "DRAM_ROW_GUARD_CNT"]) := by
  induction v1 generalizing v0 s with
  | nil =>
    unfold readSpilled
    generalize hP : ([.dram] : List Part) = P
    generalize hL : (["DRAM_STATUS", "DRAM_ERR_LOC", "DRAM_CORR_CNT", "DRAM_UNCORR_CNT", "DRAM_ROW_GUARD_CNT"] : List String) = L
    repeat (first
      | with_reducible exact keep_refl _ _ _)
  | cons e l ih =>
    unfold readSpilled
    generalize hP : ([.dram] : List Part) = P
    generalize hL : (["DRAM_STATUS", "DRAM_ERR_LOC", "DRAM_CORR_CNT", "DRAM_UNCORR_CNT", "DRAM_ROW_GUARD_CNT"] : List String) = L
    repeat (first
      | with_reducible exact keep_refl _ _ _
      | (dsimp -zeta only)
      | (with_reducible apply keep_of (ih ..); on_goal 2 => simp [← hP]
         on_goal 2 => simp [← hL])
      | (with_reducible apply keep_of (frame_dramRead ..); on_goal 2 => simp [← hP]
         on_goal 2 => simp [← hL]))

theorem frame_spillReturn (s : State) (q : Nat) (o : ReadOutcome) (badLink : Bool) : s.only (State.spillReturn s q o badLink) [.ports, .counters, .events, .path, .buf, .tm, .tally, .host, .dram, .pair] (regsOf ["CNT_HALF_LO", "CNT_HALF_HI", "TALLY_STATUS", "TALLY_RING_LEVEL", "TALLY_LOST_CNT", "BUF_POOL_USED", "BUF_POOL_SHARED", "BUF_STATUS", "BUF_XOFF_POOLS", "BUF_LANDING", "BUF_BAD_FREE_LOC", "BUF_BAD_FREE_CNT", "BUF_SPILL_USED", "QUE_COPIES", "DRAM_STATUS", "DRAM_ERR_LOC", "DRAM_CORR_CNT", "DRAM_UNCORR_CNT", "DRAM_ROW_GUARD_CNT", "RING_DEV_INDEX"]) := by
  unfold State.spillReturn
  generalize hP : ([.ports, .counters, .events, .path, .buf, .tm, .tally, .host, .dram, .pair] : List Part) = P
  generalize hL : (["CNT_HALF_LO", "CNT_HALF_HI", "TALLY_STATUS", "TALLY_RING_LEVEL", "TALLY_LOST_CNT", "BUF_POOL_USED", "BUF_POOL_SHARED", "BUF_STATUS", "BUF_XOFF_POOLS", "BUF_LANDING", "BUF_BAD_FREE_LOC", "BUF_BAD_FREE_CNT", "BUF_SPILL_USED", "QUE_COPIES", "DRAM_STATUS", "DRAM_ERR_LOC", "DRAM_CORR_CNT", "DRAM_UNCORR_CNT", "DRAM_ROW_GUARD_CNT", "RING_DEV_INDEX"] : List String) = L
  repeat (first
    | with_reducible assumption
    | with_reducible exact keep_refl _ _ _
    | (dsimp -zeta only)
    | ((try lift_lets -underBinder); with_reducible intro y; refine cut_at (A := State.only s y P (regsOf L)) ?_ ?_; on_goal 2 => (intro hy; clear_value y)
       unfold y)
    | ((try lift_lets -underBinder); with_reducible intro y; clear_value y)
    | with_reducible apply keep_if
    | with_reducible refine keep_foldl ?_ (fun u a => ?_)
    | (with_reducible apply keep_on; on_goal 2 => first | assumption | (with_reducible apply reg_BUF_STATUS_SPILL_POISON; simp [← hL]))
    | (with_reducible apply keep_setFrame; on_goal 2 => simp [← hP])
    | (with_reducible apply keep_setCopy; on_goal 2 => simp [← hP])
    | (with_reducible apply keep_optp (by assumption) (frame_takeReturns ..); on_goal 2 => simp [← hP]
       on_goal 2 => simp [← hL])
    | (with_reducible apply keep_of (frame_readSpilled ..); on_goal 2 => simp [← hP]
       on_goal 2 => simp [← hL])
    | (with_reducible apply keep_of (frame_syncCopies ..); on_goal 2 => simp [← hP]
       on_goal 2 => simp [← hL])
    | (with_reducible apply keep_of (frame_spillUse ..); on_goal 2 => simp [← hP]
       on_goal 2 => simp [← hL])
    | (with_reducible apply keep_of (frame_leaveSegment ..); on_goal 2 => simp [← hP]
       on_goal 2 => simp [← hL])
    | (with_reducible apply keep_of (frame_discard ..); on_goal 2 => simp [← hP]
       on_goal 2 => simp [← hL])
    | split)

theorem frame_putMembers (s : State) (g : Nat) (l : List Nat) : s.only (State.putMembers s g l) [.mcast, .span] (regsOf ["MCAST_MEMBERS_USED"]) := by
  unfold State.putMembers
  generalize hP : ([.mcast, .span] : List Part) = P
  generalize hL : (["MCAST_MEMBERS_USED"] : List String) = L
  repeat (first
    | with_reducible assumption
    | with_reducible exact keep_refl _ _ _
    | ((try lift_lets -underBinder); with_reducible intro y; refine cut_at (A := State.only s y P (regsOf L)) ?_ ?_; on_goal 2 => (intro hy; clear_value y)
       unfold y)
    | ((try lift_lets -underBinder); with_reducible intro y; clear_value y)
    | (with_reducible apply keep_set; on_goal 2 => first | assumption | (with_reducible apply reg_MCAST_MEMBERS_USED_USED; simp [← hL]))
    | (fail_if_no_progress (with_reducible refine keep_mk ?_ rfl ?_; on_goal 2 => (intro q hq; cases q <;> first | (simp only [Part.same]; done) | (simp only [Part.same, and_self]; done) | (refine absurd ?_ hq; simp [← hP]; done)))))

theorem frame_coreMcastSet (c : CmdIn) (s : State) : s.only (coreMcastSet c s).2 [.mcast, .pair, .span] (regsOf ["MCAST_STATUS", "MCAST_MEMBERS_USED", "PAIR_MIRROR_LEVEL"]) := by
  unfold coreMcastSet
  generalize hP : ([.mcast, .pair, .span] : List Part) = P
  generalize hL : (["MCAST_STATUS", "MCAST_MEMBERS_USED", "PAIR_MIRROR_LEVEL"] : List String) = L
  repeat (first
    | with_reducible exact keep_refl _ _ _
    | (dsimp -zeta only)
    | ((try lift_lets -underBinder); with_reducible intro y; clear_value y)
    | with_reducible apply keep_ifp
    | (with_reducible apply keep_on; on_goal 2 => first | assumption | (with_reducible apply reg_MCAST_STATUS_FULL; simp [← hL]))
    | (with_reducible apply keep_of (frame_mirrorItem ..); on_goal 2 => simp [← hP]
       on_goal 2 => simp [← hL])
    | (with_reducible apply keep_of (frame_putMembers ..); on_goal 2 => simp [← hP]
       on_goal 2 => simp [← hL]))

theorem frame_coreMcastRead (c : CmdIn) (s : State) : s.only (coreMcastRead c s).2 [] (regsOf []) := by
  unfold coreMcastRead
  generalize hP : ([] : List Part) = P
  generalize hL : ([] : List String) = L
  repeat (first
    | with_reducible exact keep_refl _ _ _)

theorem frame_modStamp (s : State) (f : StampSt → StampSt) : s.only (State.modStamp s f) [.stamp] (regsOf []) := by
  unfold State.modStamp
  generalize hP : ([.stamp] : List Part) = P
  generalize hL : ([] : List String) = L
  repeat (first
    | with_reducible exact keep_refl _ _ _
    | (fail_if_no_progress (with_reducible apply keep_at_stamp; on_goal 2 => simp [← hP])))

theorem frame_stampEffect (s : State) (off : Nat) (v : Nat) : s.only (stampEffect s off v) [.stamp] (regsOf ["STAMP_CAL_RESULT"]) := by
  unfold stampEffect
  generalize hP : ([.stamp] : List Part) = P
  generalize hL : (["STAMP_CAL_RESULT"] : List String) = L
  repeat (first
    | with_reducible exact keep_refl _ _ _
    | with_reducible apply keep_if
    | (with_reducible apply keep_set; on_goal 2 => first | assumption | (with_reducible apply reg_STAMP_CAL_RESULT_STATUS; simp [← hL]))
    | (with_reducible apply keep_modStamp; on_goal 2 => simp [← hP]))

theorem frame_calDone (s : State) (trained : Bool) (loopErr : Nat) (ing : Nat) (egr : Nat) : s.only (State.calDone s trained loopErr ing egr) [.stamp, .ports, .counters, .reck, .pair] (regsOf ["MAC_PORT_STATUS", "MAC_PORT_EVT", "CNT_HALF_LO", "CNT_HALF_HI", "STAMP_CAL_RESULT", "STAMP_CAL_SUGGEST", "STAMP_PORT_STATUS"]) := by
  unfold State.calDone
  generalize hP : ([.stamp, .ports, .counters, .reck, .pair] : List Part) = P
  generalize hL : (["MAC_PORT_STATUS", "MAC_PORT_EVT", "CNT_HALF_LO", "CNT_HALF_HI", "STAMP_CAL_RESULT", "STAMP_CAL_SUGGEST", "STAMP_PORT_STATUS"] : List String) = L
  repeat (first
    | with_reducible assumption
    | with_reducible exact keep_refl _ _ _
    | ((try lift_lets -underBinder); with_reducible intro y; refine cut_at (A := State.only s y P (regsOf L)) ?_ ?_; on_goal 2 => (intro hy; clear_value y)
       unfold y)
    | with_reducible apply keep_if
    | (with_reducible apply keep_set; on_goal 2 => first | assumption | (with_reducible apply reg_STAMP_CAL_RESULT_STATUS; simp [← hL]) | (with_reducible apply reg_STAMP_CAL_RESULT_LOOP_ERR; simp [← hL]) | (with_reducible apply reg_STAMP_CAL_SUGGEST_ING; simp [← hL]) | (with_reducible apply reg_STAMP_CAL_SUGGEST_EGR; simp [← hL]) | (with_reducible apply reg_STAMP_PORT_STATUS_CAL_VALID; simp [← hL]))
    | (with_reducible apply keep_on; on_goal 2 => first | assumption | (with_reducible apply reg_STAMP_CAL_RESULT_STATUS; simp [← hL]) | (with_reducible apply reg_STAMP_CAL_RESULT_LOOP_ERR; simp [← hL]) | (with_reducible apply reg_STAMP_CAL_SUGGEST_ING; simp [← hL]) | (with_reducible apply reg_STAMP_CAL_SUGGEST_EGR; simp [← hL]) | (with_reducible apply reg_STAMP_PORT_STATUS_CAL_VALID; simp [← hL]))
    | (with_reducible apply keep_modStamp; on_goal 2 => simp [← hP])
    | (with_reducible apply keep_of (frame_applyEnable ..); on_goal 2 => simp [← hP]
       on_goal 2 => simp [← hL])
    | split)

theorem frame_calRead (s : State) : s.only (State.calRead s) [.stamp] (regsOf []) := by
  unfold State.calRead
  generalize hP : ([.stamp] : List Part) = P
  generalize hL : ([] : List String) = L
  repeat (first
    | with_reducible exact keep_refl _ _ _
    | (with_reducible apply keep_modStamp; on_goal 2 => simp [← hP]))

theorem frame_syncStamps (s : State) (before : Nat) : s.only (State.syncStamps s before) [] (regsOf ["STAMP_RET_STATUS"]) := by
  unfold State.syncStamps
  generalize hP : ([] : List Part) = P
  generalize hL : (["STAMP_RET_STATUS"] : List String) = L
  repeat (first
    | with_reducible exact keep_refl _ _ _
    | ((try lift_lets -underBinder); with_reducible intro y; clear_value y)
    | (with_reducible apply keep_set; on_goal 2 => first | assumption | (with_reducible apply reg_STAMP_RET_STATUS_LEVEL; simp [← hL]) | (with_reducible apply reg_STAMP_RET_STATUS_MAX_LEVEL; simp [← hL]))
    | (with_reducible apply keep_maxTo; on_goal 2 => first | assumption | (with_reducible apply reg_STAMP_RET_STATUS_LEVEL; simp [← hL]) | (with_reducible apply reg_STAMP_RET_STATUS_MAX_LEVEL; simp [← hL])))

theorem frame_loseStamp (s : State) (p : Nat) : s.only (State.loseStamp s p) [.counters, .pair] (regsOf ["CNT_HALF_LO", "CNT_HALF_HI", "STAMP_RET_STATUS", "STAMP_LOST_CNT"]) := by
  unfold State.loseStamp
  generalize hP : ([.counters, .pair] : List Part) = P
  generalize hL : (["CNT_HALF_LO", "CNT_HALF_HI", "STAMP_RET_STATUS", "STAMP_LOST_CNT"] : List String) = L
  repeat (first
    | with_reducible exact keep_refl _ _ _
    | (with_reducible apply keep_on; on_goal 2 => first | assumption | (with_reducible apply reg_STAMP_LOST_CNT_LOST; simp [← hL]) | (with_reducible apply reg_STAMP_RET_STATUS_LOST; simp [← hL]))
    | (with_reducible apply keep_satAdd; on_goal 2 => first | assumption | (with_reducible apply reg_STAMP_LOST_CNT_LOST; simp [← hL]) | (with_reducible apply reg_STAMP_RET_STATUS_LOST; simp [← hL]))
    | (with_reducible apply keep_of (frame_count ..); on_goal 2 => simp [← hP]
       on_goal 2 => simp [← hL]))

theorem frame_returnStamp (s : State) (c : Copy) (x : Frame) (stamp : Nat) : s.only (State.returnStamp s c x stamp) [.ports] (regsOf []) := by
  unfold State.returnStamp
  generalize hP : ([.ports] : List Part) = P
  generalize hL : ([] : List String) = L
  repeat (first
    | with_reducible exact keep_refl _ _ _
    | ((try lift_lets -underBinder); with_reducible intro y; clear_value y)
    | with_reducible apply keep_if
    | (with_reducible apply keep_modPort; on_goal 2 => simp [← hP]))

theorem frame_trimStamps (s : State) (p : Nat) : s.only (State.trimStamps s p) [.ports, .counters, .events, .host, .pair] (regsOf ["CNT_HALF_LO", "CNT_HALF_HI", "STAMP_RET_STATUS", "STAMP_LOST_CNT", "RING_DEV_INDEX"]) := by
  unfold State.trimStamps
  generalize hP : ([.ports, .counters, .events, .host, .pair] : List Part) = P
  generalize hL : (["CNT_HALF_LO", "CNT_HALF_HI", "STAMP_RET_STATUS", "STAMP_LOST_CNT", "RING_DEV_INDEX"] : List String) = L
  repeat (first
    | with_reducible assumption
    | with_reducible exact keep_refl _ _ _
    | ((try lift_lets -underBinder); with_reducible intro y; refine cut_at (A := State.only u y P (regsOf L)) ?_ ?_; on_goal 2 => (intro hy; clear_value y)
       unfold y)
    | with_reducible refine keep_foldl ?_ (fun u a => ?_)
    | (with_reducible apply keep_modPort; on_goal 2 => simp [← hP])
    | (with_reducible apply keep_of (frame_loseStamp ..); on_goal 2 => simp [← hP]
       on_goal 2 => simp [← hL])
    | (with_reducible apply keep_of (frame_putInject ..); on_goal 2 => simp [← hP]
       on_goal 2 => simp [← hL])
    | split)

theorem frame_stampTransfer (s : State) : s.only (State.stampTransfer s) [.stamp, .ports] (regsOf ["STAMP_RET_STATUS"]) := by
  unfold State.stampTransfer
  generalize hP : ([.stamp, .ports] : List Part) = P
  generalize hL : (["STAMP_RET_STATUS"] : List String) = L
  repeat (first
    | with_reducible assumption
    | with_reducible exact keep_refl _ _ _
    | ((try lift_lets -underBinder); with_reducible intro y; refine cut_at (A := State.only s y P (regsOf L)) ?_ ?_; on_goal 2 => (intro hy; clear_value y)
       unfold y)
    | with_reducible apply keep_if
    | (with_reducible apply keep_modPort; on_goal 2 => simp [← hP])
    | (with_reducible apply keep_modStamp; on_goal 2 => simp [← hP])
    | (with_reducible apply keep_of (frame_syncStamps ..); on_goal 2 => simp [← hP]
       on_goal 2 => simp [← hL])
    | split)

theorem frame_stampWrite (s : State) : s.only (State.stampWrite s) [.stamp, .events, .host] (regsOf ["STAMP_RET_STATUS", "RING_DEV_INDEX"]) := by
  unfold State.stampWrite
  generalize hP : ([.stamp, .events, .host] : List Part) = P
  generalize hL : (["STAMP_RET_STATUS", "RING_DEV_INDEX"] : List String) = L
  repeat (first
    | with_reducible assumption
    | with_reducible exact keep_refl _ _ _
    | ((try lift_lets -underBinder); with_reducible intro y; refine cut_at (A := State.only s y P (regsOf L)) ?_ ?_; on_goal 2 => (intro hy; clear_value y)
       unfold y)
    | ((try lift_lets -underBinder); with_reducible intro y; refine cut_at (A := ∀ u : State, u.only (y u) P (regsOf L)) ?_ ?_; on_goal 2 => (intro hy; clear_value y)
       (intro u; unfold y; beta_reduce))
    | ((try lift_lets -underBinder); with_reducible intro y; clear_value y)
    | with_reducible apply keep_if
    | (with_reducible apply keep_modHost; on_goal 2 => simp [← hP])
    | (with_reducible apply keep_modStamp; on_goal 2 => simp [← hP])
    | (with_reducible apply keep_of (frame_syncStamps ..); on_goal 2 => simp [← hP]
       on_goal 2 => simp [← hL])
    | (with_reducible apply keep_of (frame_putInject ..); on_goal 2 => simp [← hP]
       on_goal 2 => simp [← hL])
    | (with_reducible apply keep_of (frame_postCompletion ..); on_goal 2 => simp [← hP]
       on_goal 2 => simp [← hL])
    | with_reducible refine only_then ?_ (‹∀ u : State, State.only u _ _ _› _)
    | split)

theorem frame_oversize (s : State) (q : Nat) (c : Nat) : s.only (State.oversize s q c) [.ports, .counters, .events, .path, .buf, .tm, .tally, .host, .pair] (regsOf ["CNT_HALF_LO", "CNT_HALF_HI", "TALLY_STATUS", "TALLY_RING_LEVEL", "TALLY_LOST_CNT", "BUF_POOL_USED", "BUF_POOL_SHARED", "BUF_STATUS", "BUF_XOFF_POOLS", "BUF_LANDING", "BUF_BAD_FREE_LOC", "BUF_BAD_FREE_CNT", "BUF_SPILL_USED", "QUE_COPIES", "TM_STATUS", "TM_GATE_LOC", "TM_GATE_OVERSIZE_CNT", "RING_DEV_INDEX"]) := by
  unfold State.oversize
  generalize hP : ([.ports, .counters, .events, .path, .buf, .tm, .tally, .host, .pair] : List Part) = P
  generalize hL : (["CNT_HALF_LO", "CNT_HALF_HI", "TALLY_STATUS", "TALLY_RING_LEVEL", "TALLY_LOST_CNT", "BUF_POOL_USED", "BUF_POOL_SHARED", "BUF_STATUS", "BUF_XOFF_POOLS", "BUF_LANDING", "BUF_BAD_FREE_LOC", "BUF_BAD_FREE_CNT", "BUF_SPILL_USED", "QUE_COPIES", "TM_STATUS", "TM_GATE_LOC", "TM_GATE_OVERSIZE_CNT", "RING_DEV_INDEX"] : List String) = L
  repeat (first
    | with_reducible assumption
    | with_reducible exact keep_refl _ _ _
    | ((try lift_lets -underBinder); with_reducible intro y; refine cut_at (A := State.only s y P (regsOf L)) ?_ ?_; on_goal 2 => (intro hy; clear_value y)
       unfold y)
    | (with_reducible apply keep_set; on_goal 2 => first | assumption | (with_reducible apply reg_TM_STATUS_GATE_OVERSIZE; simp [← hL]) | (with_reducible apply reg_TM_GATE_LOC_KIND; simp [← hL]) | (with_reducible apply reg_TM_GATE_LOC_QUEUE; simp [← hL]) | (with_reducible apply reg_TM_GATE_OVERSIZE_CNT_COUNT; simp [← hL]))
    | (with_reducible apply keep_on; on_goal 2 => first | assumption | (with_reducible apply reg_TM_STATUS_GATE_OVERSIZE; simp [← hL]) | (with_reducible apply reg_TM_GATE_LOC_KIND; simp [← hL]) | (with_reducible apply reg_TM_GATE_LOC_QUEUE; simp [← hL]) | (with_reducible apply reg_TM_GATE_OVERSIZE_CNT_COUNT; simp [← hL]))
    | (with_reducible apply keep_satAdd; on_goal 2 => first | assumption | (with_reducible apply reg_TM_STATUS_GATE_OVERSIZE; simp [← hL]) | (with_reducible apply reg_TM_GATE_LOC_KIND; simp [← hL]) | (with_reducible apply reg_TM_GATE_LOC_QUEUE; simp [← hL]) | (with_reducible apply reg_TM_GATE_OVERSIZE_CNT_COUNT; simp [← hL]))
    | (with_reducible apply keep_of (frame_discard ..); on_goal 2 => simp [← hP]
       on_goal 2 => simp [← hL]))

theorem frame_cleanRod (v0 : Nat) (v1 : Nat) (s : State) : s.only (cleanRod v0 v1 s) [.ports, .counters, .events, .path, .buf, .tm, .tally, .host, .pair] (regsOf ["CNT_HALF_LO", "CNT_HALF_HI", "TALLY_STATUS", "TALLY_RING_LEVEL", "TALLY_LOST_CNT", "BUF_POOL_USED", "BUF_POOL_SHARED", "BUF_STATUS", "BUF_XOFF_POOLS", "BUF_LANDING", "BUF_BAD_FREE_LOC", "BUF_BAD_FREE_CNT", "BUF_SPILL_USED", "QUE_COPIES", "TM_STATUS", "TM_GATE_LOC", "TM_GATE_OVERSIZE_CNT", "RING_DEV_INDEX"]) := by
  induction v0 generalizing v1 s with
  | zero =>
    unfold cleanRod
    generalize hP : ([.ports, .counters, .events, .path, .buf, .tm, .tally, .host, .pair] : List Part) = P
    generalize hL : (["CNT_HALF_LO", "CNT_HALF_HI", "TALLY_STATUS", "TALLY_RING_LEVEL", "TALLY_LOST_CNT", "BUF_POOL_USED", "BUF_POOL_SHARED", "BUF_STATUS", "BUF_XOFF_POOLS", "BUF_LANDING", "BUF_BAD_FREE_LOC", "BUF_BAD_FREE_CNT", "BUF_SPILL_USED", "QUE_COPIES", "TM_STATUS", "TM_GATE_LOC", "TM_GATE_OVERSIZE_CNT", "RING_DEV_INDEX"] : List String) = L
    repeat (first
      | with_reducible exact keep_refl _ _ _)
  | succ j ih =>
    unfold cleanRod
    generalize hP : ([.ports, .counters, .events, .path, .buf, .tm, .tally, .host, .pair] : List Part) = P
    generalize hL : (["CNT_HALF_LO", "CNT_HALF_HI", "TALLY_STATUS", "TALLY_RING_LEVEL", "TALLY_LOST_CNT", "BUF_POOL_USED", "BUF_POOL_SHARED", "BUF_STATUS", "BUF_XOFF_POOLS", "BUF_LANDING", "BUF_BAD_FREE_LOC", "BUF_BAD_FREE_CNT", "BUF_SPILL_USED", "QUE_COPIES", "TM_STATUS", "TM_GATE_LOC", "TM_GATE_OVERSIZE_CNT", "RING_DEV_INDEX"] : List String) = L
    repeat (first
      | with_reducible exact keep_refl _ _ _
      | with_reducible apply keep_if
      | (with_reducible apply keep_of (ih ..); on_goal 2 => simp [← hP]
         on_goal 2 => simp [← hL])
      | (with_reducible apply keep_of (frame_discard ..); on_goal 2 => simp [← hP]
         on_goal 2 => simp [← hL])
      | (with_reducible apply keep_of (frame_oversize ..); on_goal 2 => simp [← hP]
         on_goal 2 => simp [← hL])
      | split)

theorem frame_lookAt (s : State) (q : Nat) : s.only (State.lookAt s q) [.tm] (regsOf []) := by
  unfold State.lookAt
  generalize hP : ([.tm] : List Part) = P
  generalize hL : ([] : List String) = L
  repeat (first
    | with_reducible exact keep_refl _ _ _
    | ((try lift_lets -underBinder); with_reducible intro y; clear_value y)
    | (with_reducible apply keep_of (frame_setTag ..); on_goal 2 => simp [← hP]
       on_goal 2 => simp [← hL])
    | split)

theorem frame_lookAll (s : State) (p : Nat) : s.only (State.lookAll s p) [.tm] (regsOf []) := by
  unfold State.lookAll
  generalize hP : ([.tm] : List Part) = P
  generalize hL : ([] : List String) = L
  repeat (first
    | with_reducible exact keep_refl _ _ _
    | with_reducible refine keep_foldl ?_ (fun u a => ?_)
    | (with_reducible apply keep_of (frame_lookAt ..); on_goal 2 => simp [← hP]
       on_goal 2 => simp [← hL]))

theorem frame_takeHead (s : State) (p : Nat) (q : Nat) : s.only (State.takeHead s p q) [.ports, .tm] (regsOf []) := by
  unfold State.takeHead
  generalize hP : ([.ports, .tm] : List Part) = P
  generalize hL : ([] : List String) = L
  repeat (first
    | with_reducible assumption
    | with_reducible exact keep_refl _ _ _
    | ((try lift_lets -underBinder); with_reducible intro y; refine cut_at (A := State.only s y P (regsOf L)) ?_ ?_; on_goal 2 => (intro hy; clear_value y)
       unfold y)
    | ((try lift_lets -underBinder); with_reducible intro y; clear_value y)
    | (with_reducible apply keep_modPort; on_goal 2 => simp [← hP])
    | (with_reducible apply keep_modTm; on_goal 2 => simp [← hP])
    | (with_reducible apply keep_of (frame_shaperDebit ..); on_goal 2 => simp [← hP]
       on_goal 2 => simp [← hL])
    | split)

theorem frame_pick (s : State) (p : Nat) : s.only (State.pick s p) [.ports, .counters, .events, .path, .buf, .tm, .tally, .host, .pair] (regsOf ["CNT_HALF_LO", "CNT_HALF_HI", "TALLY_STATUS", "TALLY_RING_LEVEL", "TALLY_LOST_CNT", "BUF_POOL_USED", "BUF_POOL_SHARED", "BUF_STATUS", "BUF_XOFF_POOLS", "BUF_LANDING", "BUF_BAD_FREE_LOC", "BUF_BAD_FREE_CNT", "BUF_SPILL_USED", "QUE_COPIES", "TM_STATUS", "TM_GATE_LOC", "TM_GATE_OVERSIZE_CNT", "RING_DEV_INDEX"]) := by
  unfold State.pick
  generalize hP : ([.ports, .counters, .events, .path, .buf, .tm, .tally, .host, .pair] : List Part) = P
  generalize hL : (["CNT_HALF_LO", "CNT_HALF_HI", "TALLY_STATUS", "TALLY_RING_LEVEL", "TALLY_LOST_CNT", "BUF_POOL_USED", "BUF_POOL_SHARED", "BUF_STATUS", "BUF_XOFF_POOLS", "BUF_LANDING", "BUF_BAD_FREE_LOC", "BUF_BAD_FREE_CNT", "BUF_SPILL_USED", "QUE_COPIES", "TM_STATUS", "TM_GATE_LOC", "TM_GATE_OVERSIZE_CNT", "RING_DEV_INDEX"] : List String) = L
  repeat (first
    | with_reducible assumption
    | with_reducible exact keep_refl _ _ _
    | ((try lift_lets -underBinder); with_reducible intro y; refine cut_at (A := State.only s y P (regsOf L)) ?_ ?_; on_goal 2 => (intro hy; clear_value y)
       unfold y)
    | ((try lift_lets -underBinder); with_reducible intro y; clear_value y)
    | with_reducible apply keep_if
    | with_reducible refine keep_foldl ?_ (fun u a => ?_)
    | (with_reducible apply keep_of (frame_cleanRod ..); on_goal 2 => simp [← hP]
       on_goal 2 => simp [← hL])
    | (with_reducible apply keep_of (frame_lookAll ..); on_goal 2 => simp [← hP]
       on_goal 2 => simp [← hL])
    | (with_reducible apply keep_of (frame_takeHead ..); on_goal 2 => simp [← hP]
       on_goal 2 => simp [← hL])
    | split)

theorem frame_llRelease (s : State) (p : Nat) : s.only (State.llRelease s p) [.ports, .counters, .events, .path, .buf, .tm, .tally, .host, .pair] (regsOf ["CNT_HALF_LO", "CNT_HALF_HI", "TALLY_STATUS", "TALLY_RING_LEVEL", "TALLY_LOST_CNT", "BUF_POOL_USED", "BUF_POOL_SHARED", "BUF_STATUS", "BUF_XOFF_POOLS", "BUF_LANDING", "BUF_BAD_FREE_LOC", "BUF_BAD_FREE_CNT", "BUF_SPILL_USED", "QUE_COPIES", "RING_DEV_INDEX"]) := by
  unfold State.llRelease
  generalize hP : ([.ports, .counters, .events, .path, .buf, .tm, .tally, .host, .pair] : List Part) = P
  generalize hL : (["CNT_HALF_LO", "CNT_HALF_HI", "TALLY_STATUS", "TALLY_RING_LEVEL", "TALLY_LOST_CNT", "BUF_POOL_USED", "BUF_POOL_SHARED", "BUF_STATUS", "BUF_XOFF_POOLS", "BUF_LANDING", "BUF_BAD_FREE_LOC", "BUF_BAD_FREE_CNT", "BUF_SPILL_USED", "QUE_COPIES", "RING_DEV_INDEX"] : List String) = L
  repeat (first
    | with_reducible exact keep_refl _ _ _
    | ((try lift_lets -underBinder); with_reducible intro y; clear_value y)
    | with_reducible apply keep_if
    | (with_reducible apply keep_modPort; on_goal 2 => simp [← hP])
    | (with_reducible apply keep_of (frame_discard ..); on_goal 2 => simp [← hP]
       on_goal 2 => simp [← hL])
    | split)

theorem frame_transmitStart (s : State) (p : Nat) (sub : Nat) : s.only (State.transmitStart s p sub) [.ports, .counters, .path, .tm, .pair] (regsOf ["CNT_HALF_LO", "CNT_HALF_HI", "STAMP_LL_STATUS"]) := by
  unfold State.transmitStart
  generalize hP : ([.ports, .counters, .path, .tm, .pair] : List Part) = P
  generalize hL : (["CNT_HALF_LO", "CNT_HALF_HI", "STAMP_LL_STATUS"] : List String) = L
  repeat (first
    | with_reducible assumption
    | with_reducible exact keep_refl _ _ _
    | ((try lift_lets -underBinder); with_reducible intro y; refine cut_at (A := State.only s y P (regsOf L)) ?_ ?_; on_goal 2 => (intro hy; clear_value y)
       unfold y)
    | ((try lift_lets -underBinder); with_reducible intro y; clear_value y)
    | with_reducible apply keep_if
    | (with_reducible apply keep_on; on_goal 2 => first | assumption | (with_reducible apply reg_STAMP_LL_STATUS_LATE; simp [← hL]))
    | (with_reducible apply keep_modPort; on_goal 2 => simp [← hP])
    | (with_reducible apply keep_of (frame_unlinkCopy ..); on_goal 2 => simp [← hP]
       on_goal 2 => simp [← hL])
    | (with_reducible apply keep_of (frame_count ..); on_goal 2 => simp [← hP]
       on_goal 2 => simp [← hL])
    | (with_reducible apply keep_of (frame_offerMirror ..); on_goal 2 => simp [← hP]
       on_goal 2 => simp [← hL])
    | (with_reducible apply keep_of (frame_returnStamp ..); on_goal 2 => simp [← hP]
       on_goal 2 => simp [← hL])
    | split)

theorem frame_noteDigest (s : State) (p : Nat) (window : Nat) (c : Copy) (x : Frame) : s.only (State.noteDigest s p window c x) [.pair] (regsOf []) := by
  unfold State.noteDigest
  generalize hP : ([.pair] : List Part) = P
  generalize hL : ([] : List String) = L
  repeat (first
    | with_reducible exact keep_refl _ _ _
    | ((try lift_lets -underBinder); with_reducible intro y; clear_value y)
    | with_reducible apply keep_if
    | (with_reducible apply keep_modPair; on_goal 2 => simp [← hP]))

theorem frame_transmitEnd (s : State) (p : Nat) : s.only (State.transmitEnd s p) [.ports, .counters, .events, .path, .buf, .tm, .tally, .host, .pair] (regsOf ["CNT_HALF_LO", "CNT_HALF_HI", "TALLY_STATUS", "TALLY_RING_LEVEL", "TALLY_LOST_CNT", "BUF_POOL_USED", "BUF_POOL_SHARED", "BUF_STATUS", "BUF_XOFF_POOLS", "BUF_LANDING", "BUF_BAD_FREE_LOC", "BUF_BAD_FREE_CNT", "QUE_COPIES", "RING_DEV_INDEX"]) := by
  unfold State.transmitEnd
  generalize hP : ([.ports, .counters, .events, .path, .buf, .tm, .tally, .host, .pair] : List Part) = P
  generalize hL : (["CNT_HALF_LO", "CNT_HALF_HI", "TALLY_STATUS", "TALLY_RING_LEVEL", "TALLY_LOST_CNT", "BUF_POOL_USED", "BUF_POOL_SHARED", "BUF_STATUS", "BUF_XOFF_POOLS", "BUF_LANDING", "BUF_BAD_FREE_LOC", "BUF_BAD_FREE_CNT", "QUE_COPIES", "RING_DEV_INDEX"] : List String) = L
  repeat (first
    | with_reducible assumption
    | with_reducible exact keep_refl _ _ _
    | ((try lift_lets -underBinder); with_reducible intro y; refine cut_at (A := State.only s y P (regsOf L)) ?_ ?_; on_goal 2 => (intro hy; clear_value y)
       unfold y)
    | ((try lift_lets -underBinder); with_reducible intro y; clear_value y)
    | with_reducible apply keep_if
    | (with_reducible apply keep_modPort; on_goal 2 => simp [← hP])
    | (with_reducible apply keep_modPath; on_goal 2 => simp [← hP])
    | (with_reducible apply keep_of (frame_countTx ..); on_goal 2 => simp [← hP]
       on_goal 2 => simp [← hL])
    | (with_reducible apply keep_of (frame_putOut ..); on_goal 2 => simp [← hP]
       on_goal 2 => simp [← hL])
    | (with_reducible apply keep_of (frame_shaperDebit ..); on_goal 2 => simp [← hP]
       on_goal 2 => simp [← hL])
    | (with_reducible apply keep_of (frame_injectCopy ..); on_goal 2 => simp [← hP]
       on_goal 2 => simp [← hL])
    | (with_reducible apply keep_of (frame_copyRecord ..); on_goal 2 => simp [← hP]
       on_goal 2 => simp [← hL])
    | (with_reducible apply keep_of (frame_noteDigest ..); on_goal 2 => simp [← hP]
       on_goal 2 => simp [← hL])
    | (with_reducible apply keep_of (frame_decrementAll ..); on_goal 2 => simp [← hP]
       on_goal 2 => simp [← hL])
    | (with_reducible apply keep_of (frame_sendWaiting ..); on_goal 2 => simp [← hP]
       on_goal 2 => simp [← hL])
    | (with_reducible apply keep_of (frame_syncCopies ..); on_goal 2 => simp [← hP]
       on_goal 2 => simp [← hL])
    | (with_reducible apply keep_of (frame_dropRefs ..); on_goal 2 => simp [← hP]
       on_goal 2 => simp [← hL])
    | split)


end Sys2Proof.Machine
end

