-- ==== Sys2Proof/Laws/ExtentFrames.lean ====
section
/-! SUPPORT. What each operation of Ingress may touch: the parts and, at any index, the registers. -/

namespace Sys2Proof.Machine

theorem frame_leaveClassify (s : State) (f : Nat) (x : Frame) : s.only (State.leaveClassify s f x) [.path, .rules] (regsOf ["RULE_VER_STATE"]) := by
  unfold State.leaveClassify
  generalize hP : ([.path, .rules] : List Part) = P
  generalize hL : (["RULE_VER_STATE"] : List String) = L
  repeat (first
    | with_reducible assumption
    | with_reducible exact keep_refl _ _ _
    | ((try lift_lets -underBinder); with_reducible intro y; refine cut_at (A := State.only s y P (regsOf L)) ?_ ?_; on_goal 2 => (intro hy; clear_value y)
       unfold y)
    | ((try lift_lets -underBinder); with_reducible intro y; clear_value y)
    | with_reducible apply keep_if
    | (with_reducible apply keep_modPath; on_goal 2 => simp [← hP])
    | (with_reducible apply keep_of (frame_inflight ..); on_goal 2 => simp [← hP]
       on_goal 2 => simp [← hL])
    | (fail_if_no_progress (with_reducible apply keep_at_rules; on_goal 2 => simp [← hP])))

theorem frame_profileDrained (s : State) (n : Nat) : s.only (State.profileDrained s n) [.rules] (regsOf ["PARSE_PROF_CTRL"]) := by
  unfold State.profileDrained
  generalize hP : ([.rules] : List Part) = P
  generalize hL : (["PARSE_PROF_CTRL"] : List String) = L
  repeat (first
    | with_reducible exact keep_refl _ _ _
    | ((try lift_lets -underBinder); with_reducible intro y; clear_value y)
    | (with_reducible apply keep_on; on_goal 2 => first | assumption | (with_reducible apply reg_PARSE_PROF_CTRL_DRAINED; simp [← hL]))
    | (fail_if_no_progress (with_reducible apply keep_at_rules; on_goal 2 => simp [← hP]))
    | split)

theorem frame_dropFrame (s : State) (f : Nat) : s.only (State.dropFrame s f) [.ports, .counters, .path, .rules, .mcast, .buf, .pair] (regsOf ["CNT_HALF_LO", "CNT_HALF_HI", "RULE_VER_STATE", "BUF_POOL_USED", "BUF_POOL_SHARED", "BUF_STATUS", "BUF_XOFF_POOLS", "BUF_LANDING", "MCAST_MEMBERS_USED"]) := by
  unfold State.dropFrame
  generalize hP : ([.ports, .counters, .path, .rules, .mcast, .buf, .pair] : List Part) = P
  generalize hL : (["CNT_HALF_LO", "CNT_HALF_HI", "RULE_VER_STATE", "BUF_POOL_USED", "BUF_POOL_SHARED", "BUF_STATUS", "BUF_XOFF_POOLS", "BUF_LANDING", "MCAST_MEMBERS_USED"] : List String) = L
  repeat (first
    | with_reducible assumption
    | with_reducible exact keep_refl _ _ _
    | ((try lift_lets -underBinder); with_reducible intro y; refine cut_at (A := State.only s y P (regsOf L)) ?_ ?_; on_goal 2 => (intro hy; clear_value y)
       unfold y)
    | with_reducible refine keep_foldl ?_ (fun u a => ?_)
    | (with_reducible apply keep_setFrame; on_goal 2 => simp [← hP])
    | (with_reducible apply keep_of (frame_leaveClassify ..); on_goal 2 => simp [← hP]
       on_goal 2 => simp [← hL])
    | (with_reducible apply keep_of (frame_dropBead ..); on_goal 2 => simp [← hP]
       on_goal 2 => simp [← hL])
    | (with_reducible apply keep_of (frame_freeLists ..); on_goal 2 => simp [← hP]
       on_goal 2 => simp [← hL])
    | (with_reducible apply keep_of (frame_reap ..); on_goal 2 => simp [← hP]
       on_goal 2 => simp [← hL])
    | split)

theorem frame_dropOther (s : State) (f : Nat) : s.only (State.dropOther s f) [.ports, .counters, .path, .rules, .mcast, .buf, .pair] (regsOf ["CNT_HALF_LO", "CNT_HALF_HI", "RULE_VER_STATE", "BUF_POOL_USED", "BUF_POOL_SHARED", "BUF_STATUS", "BUF_XOFF_POOLS", "BUF_LANDING", "MCAST_MEMBERS_USED"]) := by
  unfold State.dropOther
  generalize hP : ([.ports, .counters, .path, .rules, .mcast, .buf, .pair] : List Part) = P
  generalize hL : (["CNT_HALF_LO", "CNT_HALF_HI", "RULE_VER_STATE", "BUF_POOL_USED", "BUF_POOL_SHARED", "BUF_STATUS", "BUF_XOFF_POOLS", "BUF_LANDING", "MCAST_MEMBERS_USED"] : List String) = L
  repeat (first
    | with_reducible assumption
    | with_reducible exact keep_refl _ _ _
    | ((try lift_lets -underBinder); with_reducible intro y; refine cut_at (A := State.only s y P (regsOf L)) ?_ ?_; on_goal 2 => (intro hy; clear_value y)
       unfold y)
    | with_reducible apply keep_if
    | (with_reducible apply keep_setFrame; on_goal 2 => simp [← hP])
    | (with_reducible apply keep_of (frame_count ..); on_goal 2 => simp [← hP]
       on_goal 2 => simp [← hL])
    | (with_reducible apply keep_of (frame_dropFrame ..); on_goal 2 => simp [← hP]
       on_goal 2 => simp [← hL])
    | split)

theorem frame_landingDrop (s : State) (f : Nat) : s.only (State.landingDrop s f) [.ports, .counters, .path, .rules, .mcast, .buf, .pair] (regsOf ["CNT_HALF_LO", "CNT_HALF_HI", "RULE_VER_STATE", "BUF_POOL_USED", "BUF_POOL_SHARED", "BUF_STATUS", "BUF_XOFF_POOLS", "BUF_LANDING", "BUF_LANDING_DROP_CNT", "MCAST_MEMBERS_USED"]) := by
  unfold State.landingDrop
  generalize hP : ([.ports, .counters, .path, .rules, .mcast, .buf, .pair] : List Part) = P
  generalize hL : (["CNT_HALF_LO", "CNT_HALF_HI", "RULE_VER_STATE", "BUF_POOL_USED", "BUF_POOL_SHARED", "BUF_STATUS", "BUF_XOFF_POOLS", "BUF_LANDING", "BUF_LANDING_DROP_CNT", "MCAST_MEMBERS_USED"] : List String) = L
  repeat (first
    | with_reducible exact keep_refl _ _ _
    | (with_reducible apply keep_on; on_goal 2 => first | assumption | (with_reducible apply reg_BUF_LANDING_DROP_CNT_COUNT; simp [← hL]) | (with_reducible apply reg_BUF_STATUS_LANDING; simp [← hL]))
    | (with_reducible apply keep_satAdd; on_goal 2 => first | assumption | (with_reducible apply reg_BUF_LANDING_DROP_CNT_COUNT; simp [← hL]) | (with_reducible apply reg_BUF_STATUS_LANDING; simp [← hL]))
    | (with_reducible apply keep_of (frame_dropFrame ..); on_goal 2 => simp [← hP]
       on_goal 2 => simp [← hL])
    | (with_reducible apply keep_of (frame_count ..); on_goal 2 => simp [← hP]
       on_goal 2 => simp [← hL])
    | split)

theorem frame_headroomLoss (s : State) (cls : Nat) : s.only (State.headroomLoss s cls) [] (regsOf ["BUF_STATUS", "BUF_HEADROOM_CNT"]) := by
  unfold State.headroomLoss
  generalize hP : ([] : List Part) = P
  generalize hL : (["BUF_STATUS", "BUF_HEADROOM_CNT"] : List String) = L
  repeat (first
    | with_reducible exact keep_refl _ _ _
    | with_reducible apply keep_if
    | (with_reducible apply keep_on; on_goal 2 => first | assumption | (with_reducible apply reg_BUF_HEADROOM_CNT_COUNT; simp [← hL]) | (with_reducible apply reg_BUF_STATUS_HEADROOM; simp [← hL]))
    | (with_reducible apply keep_satAdd; on_goal 2 => first | assumption | (with_reducible apply reg_BUF_HEADROOM_CNT_COUNT; simp [← hL]) | (with_reducible apply reg_BUF_STATUS_HEADROOM; simp [← hL])))

theorem frame_beadDrop (s : State) (f : Nat) : s.only (State.beadDrop s f) [.ports, .counters, .path, .rules, .mcast, .buf, .pair] (regsOf ["CNT_HALF_LO", "CNT_HALF_HI", "RULE_VER_STATE", "BUF_POOL_USED", "BUF_POOL_SHARED", "BUF_STATUS", "BUF_XOFF_POOLS", "BUF_LANDING", "BUF_DROP_CNT", "BUF_HEADROOM_CNT", "MCAST_MEMBERS_USED"]) := by
  unfold State.beadDrop
  generalize hP : ([.ports, .counters, .path, .rules, .mcast, .buf, .pair] : List Part) = P
  generalize hL : (["CNT_HALF_LO", "CNT_HALF_HI", "RULE_VER_STATE", "BUF_POOL_USED", "BUF_POOL_SHARED", "BUF_STATUS", "BUF_XOFF_POOLS", "BUF_LANDING", "BUF_DROP_CNT", "BUF_HEADROOM_CNT", "MCAST_MEMBERS_USED"] : List String) = L
  repeat (first
    | with_reducible assumption
    | with_reducible exact keep_refl _ _ _
    | ((try lift_lets -underBinder); with_reducible intro y; refine cut_at (A := State.only s y P (regsOf L)) ?_ ?_; on_goal 2 => (intro hy; clear_value y)
       unfold y)
    | (with_reducible apply keep_on; on_goal 2 => first | assumption | (with_reducible apply reg_BUF_DROP_CNT_COUNT; simp [← hL]) | (with_reducible apply reg_BUF_STATUS_DROP; simp [← hL]))
    | (with_reducible apply keep_satAdd; on_goal 2 => first | assumption | (with_reducible apply reg_BUF_DROP_CNT_COUNT; simp [← hL]) | (with_reducible apply reg_BUF_STATUS_DROP; simp [← hL]))
    | (with_reducible apply keep_of (frame_count ..); on_goal 2 => simp [← hP]
       on_goal 2 => simp [← hL])
    | (with_reducible apply keep_of (frame_dropFrame ..); on_goal 2 => simp [← hP]
       on_goal 2 => simp [← hL])
    | (with_reducible apply keep_of (frame_headroomLoss ..); on_goal 2 => simp [← hP]
       on_goal 2 => simp [← hL])
    | split)

theorem frame_addFrame (s : State) (x : Frame) : s.only (State.addFrame s x).2 [.path] (regsOf []) := by
  unfold State.addFrame
  generalize hP : ([.path] : List Part) = P
  generalize hL : ([] : List String) = L
  repeat (first
    | with_reducible exact keep_refl _ _ _
    | (dsimp -zeta only)
    | ((try lift_lets -underBinder); with_reducible intro y; clear_value y)
    | (with_reducible apply keep_modPath; on_goal 2 => simp [← hP]))

theorem frame_receives (s : State) (p : Nat) (bytes : List Byte) : s.only (State.receives s p bytes).2 [.ports] (regsOf []) := by
  unfold State.receives
  generalize hP : ([.ports] : List Part) = P
  generalize hL : ([] : List String) = L
  repeat (first
    | with_reducible exact keep_refl _ _ _
    | (dsimp -zeta only)
    | ((try lift_lets -underBinder); with_reducible intro y; clear_value y)
    | with_reducible apply keep_ifp
    | (with_reducible apply keep_modPort; on_goal 2 => simp [← hP]))

theorem frame_frameBegin (s : State) (p : Nat) (sub : Nat) (bytes : List Byte) : s.only (State.frameBegin s p sub bytes) [.ports, .counters, .path, .rules, .mcast, .buf, .pair] (regsOf ["CNT_HALF_LO", "CNT_HALF_HI", "RULE_VER_STATE", "BUF_POOL_USED", "BUF_POOL_SHARED", "BUF_STATUS", "BUF_XOFF_POOLS", "BUF_LANDING", "BUF_LANDING_DROP_CNT", "MCAST_MEMBERS_USED"]) := by
  unfold State.frameBegin
  generalize hP : ([.ports, .counters, .path, .rules, .mcast, .buf, .pair] : List Part) = P
  generalize hL : (["CNT_HALF_LO", "CNT_HALF_HI", "RULE_VER_STATE", "BUF_POOL_USED", "BUF_POOL_SHARED", "BUF_STATUS", "BUF_XOFF_POOLS", "BUF_LANDING", "BUF_LANDING_DROP_CNT", "MCAST_MEMBERS_USED"] : List String) = L
  repeat (first
    | with_reducible exact keep_refl _ _ _
    | (dsimp -zeta only)
    | ((try lift_lets -underBinder); with_reducible intro y; clear_value y)
    | with_reducible apply keep_if
    | (with_reducible apply keep_setFrame; on_goal 2 => simp [← hP])
    | (with_reducible apply keep_of (frame_addFrame ..); on_goal 2 => simp [← hP]
       on_goal 2 => simp [← hL])
    | (with_reducible apply keep_of (frame_dropFrame ..); on_goal 2 => simp [← hP]
       on_goal 2 => simp [← hL])
    | (with_reducible apply keep_of (frame_count ..); on_goal 2 => simp [← hP]
       on_goal 2 => simp [← hL])
    | (with_reducible apply keep_optp (by assumption) (frame_takeLanding ..); on_goal 2 => simp [← hP]
       on_goal 2 => simp [← hL])
    | (with_reducible apply keep_of (frame_landingDrop ..); on_goal 2 => simp [← hP]
       on_goal 2 => simp [← hL])
    | split)

theorem frame_frameStart (s : State) (p : Nat) (sub : Nat) (bytes : List Byte) : s.only (State.frameStart s p sub bytes) [.ports, .counters, .path, .rules, .mcast, .buf, .pair] (regsOf ["CNT_HALF_LO", "CNT_HALF_HI", "RULE_VER_STATE", "BUF_POOL_USED", "BUF_POOL_SHARED", "BUF_STATUS", "BUF_XOFF_POOLS", "BUF_LANDING", "BUF_LANDING_DROP_CNT", "MCAST_MEMBERS_USED"]) := by
  unfold State.frameStart
  generalize hP : ([.ports, .counters, .path, .rules, .mcast, .buf, .pair] : List Part) = P
  generalize hL : (["CNT_HALF_LO", "CNT_HALF_HI", "RULE_VER_STATE", "BUF_POOL_USED", "BUF_POOL_SHARED", "BUF_STATUS", "BUF_XOFF_POOLS", "BUF_LANDING", "BUF_LANDING_DROP_CNT", "MCAST_MEMBERS_USED"] : List String) = L
  repeat (first
    | with_reducible exact keep_refl _ _ _
    | with_reducible refine keep_pair (by assumption) ?_
    | with_reducible apply keep_if
    | (with_reducible apply keep_of (frame_receives ..); on_goal 2 => simp [← hP]
       on_goal 2 => simp [← hL])
    | (with_reducible apply keep_of (frame_frameBegin ..); on_goal 2 => simp [← hP]
       on_goal 2 => simp [← hL])
    | split)

theorem frame_firstWord (s : State) (f : Nat) : s.only (State.firstWord s f) [.ports, .counters, .path, .rules, .mcast, .buf, .pair] (regsOf ["CNT_HALF_LO", "CNT_HALF_HI", "RULE_VER_STATE", "BUF_POOL_USED", "BUF_POOL_SHARED", "BUF_STATUS", "BUF_XOFF_POOLS", "BUF_LANDING", "MCAST_MEMBERS_USED"]) := by
  unfold State.firstWord
  generalize hP : ([.ports, .counters, .path, .rules, .mcast, .buf, .pair] : List Part) = P
  generalize hL : (["CNT_HALF_LO", "CNT_HALF_HI", "RULE_VER_STATE", "BUF_POOL_USED", "BUF_POOL_SHARED", "BUF_STATUS", "BUF_XOFF_POOLS", "BUF_LANDING", "MCAST_MEMBERS_USED"] : List String) = L
  repeat (first
    | with_reducible exact keep_refl _ _ _
    | with_reducible apply keep_if
    | (with_reducible apply keep_setFrame; on_goal 2 => simp [← hP])
    | (with_reducible apply keep_of (frame_dropOther ..); on_goal 2 => simp [← hP]
       on_goal 2 => simp [← hL])
    | (with_reducible apply keep_of (frame_inflight ..); on_goal 2 => simp [← hP]
       on_goal 2 => simp [← hL])
    | split)

theorem frame_classified (s : State) (f : Nat) (x : Frame) (m : Mark) : s.only (State.classified s f x m) [.ports, .counters, .path, .rules, .mcast, .buf, .pair] (regsOf ["CNT_HALF_LO", "CNT_HALF_HI", "RULE_VER_STATE", "BUF_POOL_USED", "BUF_POOL_SHARED", "BUF_STATUS", "BUF_XOFF_POOLS", "BUF_LANDING", "MCAST_MEMBERS_USED"]) := by
  unfold State.classified
  generalize hP : ([.ports, .counters, .path, .rules, .mcast, .buf, .pair] : List Part) = P
  generalize hL : (["CNT_HALF_LO", "CNT_HALF_HI", "RULE_VER_STATE", "BUF_POOL_USED", "BUF_POOL_SHARED", "BUF_STATUS", "BUF_XOFF_POOLS", "BUF_LANDING", "MCAST_MEMBERS_USED"] : List String) = L
  repeat (first
    | with_reducible assumption
    | with_reducible exact keep_refl _ _ _
    | ((try lift_lets -underBinder); with_reducible intro y; refine cut_at (A := State.only s y P (regsOf L)) ?_ ?_; on_goal 2 => (intro hy; clear_value y)
       unfold y)
    | with_reducible apply keep_if
    | (with_reducible apply keep_setFrame; on_goal 2 => simp [← hP])
    | (with_reducible apply keep_of (frame_leaveClassify ..); on_goal 2 => simp [← hP]
       on_goal 2 => simp [← hL])
    | (with_reducible apply keep_of (frame_dropOther ..); on_goal 2 => simp [← hP]
       on_goal 2 => simp [← hL]))

theorem frame_classifyPass (s : State) (f : Nat) : s.only (State.classifyPass s f) [.ports, .counters, .path, .rules, .mcast, .buf, .pair] (regsOf ["CNT_HALF_LO", "CNT_HALF_HI", "TIME_PTP_CTRL", "TIME_PTP_BAD_CNT", "PARSE_STATUS", "PARSE_PARITY_LOC", "PARSE_CARRY_FULL_CNT", "PARSE_DEMOTED_CNT", "PARSE_NOMATCH_CNT", "PARSE_TRUNC_CNT", "RULE_VER_STATE", "BUF_POOL_USED", "BUF_POOL_SHARED", "BUF_STATUS", "BUF_XOFF_POOLS", "BUF_LANDING", "MCAST_MEMBERS_USED"]) := by
  unfold State.classifyPass
  generalize hP : ([.ports, .counters, .path, .rules, .mcast, .buf, .pair] : List Part) = P
  generalize hL : (["CNT_HALF_LO", "CNT_HALF_HI", "TIME_PTP_CTRL", "TIME_PTP_BAD_CNT", "PARSE_STATUS", "PARSE_PARITY_LOC", "PARSE_CARRY_FULL_CNT", "PARSE_DEMOTED_CNT", "PARSE_NOMATCH_CNT", "PARSE_TRUNC_CNT", "RULE_VER_STATE", "BUF_POOL_USED", "BUF_POOL_SHARED", "BUF_STATUS", "BUF_XOFF_POOLS", "BUF_LANDING", "MCAST_MEMBERS_USED"] : List String) = L
  repeat (first
    | with_reducible assumption
    | with_reducible exact keep_refl _ _ _
    | ((try lift_lets -underBinder); with_reducible intro y; refine cut_at (A := State.only s y P (regsOf L)) ?_ ?_; on_goal 2 => (intro hy; clear_value y)
       unfold y)
    | ((try lift_lets -underBinder); with_reducible intro y; clear_value y)
    | with_reducible apply keep_if
    | (with_reducible apply keep_on; on_goal 2 => first | assumption | (with_reducible apply reg_PARSE_CARRY_FULL_CNT_COUNT; simp [← hL]) | (with_reducible apply reg_PARSE_STATUS_CARRY_FULL; simp [← hL]) | (with_reducible apply reg_PARSE_DEMOTED_CNT_COUNT; simp [← hL]) | (with_reducible apply reg_PARSE_STATUS_DEMOTED; simp [← hL]) | (with_reducible apply reg_PARSE_NOMATCH_CNT_COUNT; simp [← hL]) | (with_reducible apply reg_TIME_PTP_CTRL_BAD; simp [← hL]) | (with_reducible apply reg_TIME_PTP_BAD_CNT_BAD_CNT; simp [← hL]) | (with_reducible apply reg_PARSE_TRUNC_CNT_COUNT; simp [← hL]) | (with_reducible apply reg_PARSE_STATUS_TRUNC; simp [← hL]))
    | (with_reducible apply keep_satAdd; on_goal 2 => first | assumption | (with_reducible apply reg_PARSE_CARRY_FULL_CNT_COUNT; simp [← hL]) | (with_reducible apply reg_PARSE_STATUS_CARRY_FULL; simp [← hL]) | (with_reducible apply reg_PARSE_DEMOTED_CNT_COUNT; simp [← hL]) | (with_reducible apply reg_PARSE_STATUS_DEMOTED; simp [← hL]) | (with_reducible apply reg_PARSE_NOMATCH_CNT_COUNT; simp [← hL]) | (with_reducible apply reg_TIME_PTP_CTRL_BAD; simp [← hL]) | (with_reducible apply reg_TIME_PTP_BAD_CNT_BAD_CNT; simp [← hL]) | (with_reducible apply reg_PARSE_TRUNC_CNT_COUNT; simp [← hL]) | (with_reducible apply reg_PARSE_STATUS_TRUNC; simp [← hL]))
    | (with_reducible apply keep_modPath; on_goal 2 => simp [← hP])
    | (with_reducible apply keep_setFrame; on_goal 2 => simp [← hP])
    | (with_reducible apply keep_of (frame_checkRules ..); on_goal 2 => simp [← hP]
       on_goal 2 => simp [← hL])
    | (with_reducible apply keep_of (frame_classified ..); on_goal 2 => simp [← hP]
       on_goal 2 => simp [← hL])
    | split)

theorem frame_carryPass (s : State) : s.only (State.carryPass s) [.path] (regsOf ["PARSE_CARRY_CNT"]) := by
  unfold State.carryPass
  generalize hP : ([.path] : List Part) = P
  generalize hL : (["PARSE_CARRY_CNT"] : List String) = L
  repeat (first
    | with_reducible assumption
    | with_reducible exact keep_refl _ _ _
    | ((try lift_lets -underBinder); with_reducible intro y; refine cut_at (A := State.only s y P (regsOf L)) ?_ ?_; on_goal 2 => (intro hy; clear_value y)
       unfold y)
    | (with_reducible apply keep_satAdd; on_goal 2 => first | assumption | (with_reducible apply reg_PARSE_CARRY_CNT_COUNT; simp [← hL]))
    | (with_reducible apply keep_modPath; on_goal 2 => simp [← hP])
    | (with_reducible apply keep_of (frame_modFrame ..); on_goal 2 => simp [← hP]
       on_goal 2 => simp [← hL])
    | split)

theorem frame_learnFrom (s : State) (f : Nat) (x : Frame) : s.only (State.learnFrom s f x) [.fdb] (regsOf ["FDB_STATUS", "FDB_LEARN_DROP_CNT"]) := by
  unfold State.learnFrom
  generalize hP : ([.fdb] : List Part) = P
  generalize hL : (["FDB_STATUS", "FDB_LEARN_DROP_CNT"] : List String) = L
  repeat (first
    | with_reducible exact keep_refl _ _ _
    | ((try lift_lets -underBinder); with_reducible intro y; clear_value y)
    | with_reducible apply keep_if
    | (with_reducible apply keep_of (frame_learnRequest ..); on_goal 2 => simp [← hP]
       on_goal 2 => simp [← hL]))

theorem frame_bridge (s : State) (x : Frame) : s.only (State.bridge s x).2 [.fdb] (regsOf ["FDB_STATUS", "FDB_USED", "FDB_PARITY_LOC", "FDB_PARITY_CNT"]) := by
  unfold State.bridge
  generalize hP : ([.fdb] : List Part) = P
  generalize hL : (["FDB_STATUS", "FDB_USED", "FDB_PARITY_LOC", "FDB_PARITY_CNT"] : List String) = L
  repeat (first
    | with_reducible exact keep_refl _ _ _
    | (dsimp -zeta only)
    | ((try lift_lets -underBinder); with_reducible intro y; clear_value y)
    | with_reducible apply keep_ifp
    | (with_reducible apply keep_of (frame_fdbAccess ..); on_goal 2 => simp [← hP]
       on_goal 2 => simp [← hL])
    | split)

theorem frame_route (s : State) (x : Frame) : s.only (State.route s x).2 [.fdb, .lpm] (regsOf ["FDB_STATUS", "FDB_USED", "FDB_PARITY_LOC", "FDB_PARITY_CNT", "LPM_STATUS", "LPM_USED", "LPM_V4_COUNT", "LPM_V6_COUNT", "LPM_PARITY_LOC", "LPM_PARITY_CNT"]) := by
  unfold State.route
  generalize hP : ([.fdb, .lpm] : List Part) = P
  generalize hL : (["FDB_STATUS", "FDB_USED", "FDB_PARITY_LOC", "FDB_PARITY_CNT", "LPM_STATUS", "LPM_USED", "LPM_V4_COUNT", "LPM_V6_COUNT", "LPM_PARITY_LOC", "LPM_PARITY_CNT"] : List String) = L
  repeat (first
    | with_reducible exact keep_refl _ _ _
    | (dsimp -zeta only)
    | ((try lift_lets -underBinder); with_reducible intro y; clear_value y)
    | (with_reducible apply keep_of (frame_lpmMatch ..); on_goal 2 => simp [← hP]
       on_goal 2 => simp [← hL])
    | (with_reducible apply keep_of (frame_bridge ..); on_goal 2 => simp [← hP]
       on_goal 2 => simp [← hL])
    | split)

theorem frame_pastLookup (s : State) (f : Nat) : s.only (State.pastLookup s f) [.ports, .counters, .path, .rules, .mcast, .buf, .pair] (regsOf ["CNT_HALF_LO", "CNT_HALF_HI", "RULE_VER_STATE", "BUF_POOL_USED", "BUF_POOL_SHARED", "BUF_STATUS", "BUF_XOFF_POOLS", "BUF_LANDING", "MCAST_MEMBERS_USED"]) := by
  unfold State.pastLookup
  generalize hP : ([.ports, .counters, .path, .rules, .mcast, .buf, .pair] : List Part) = P
  generalize hL : (["CNT_HALF_LO", "CNT_HALF_HI", "RULE_VER_STATE", "BUF_POOL_USED", "BUF_POOL_SHARED", "BUF_STATUS", "BUF_XOFF_POOLS", "BUF_LANDING", "MCAST_MEMBERS_USED"] : List String) = L
  repeat (first
    | with_reducible exact keep_refl _ _ _
    | with_reducible apply keep_if
    | (with_reducible apply keep_setFrame; on_goal 2 => simp [← hP])
    | (with_reducible apply keep_of (frame_dropOther ..); on_goal 2 => simp [← hP]
       on_goal 2 => simp [← hL])
    | split)

theorem frame_forwardingLookup (s : State) (f : Nat) : s.only (State.forwardingLookup s f) [.ports, .counters, .path, .rules, .fdb, .lpm, .flow, .mcast, .buf, .host, .dram, .pair] (regsOf ["CNT_HALF_LO", "CNT_HALF_HI", "RULE_VER_STATE", "FDB_STATUS", "FDB_USED", "FDB_PARITY_LOC", "FDB_LEARN_DROP_CNT", "FDB_PARITY_CNT", "LPM_STATUS", "LPM_USED", "LPM_V4_COUNT", "LPM_V6_COUNT", "LPM_PARITY_LOC", "LPM_PARITY_CNT", "FLOW_STATUS", "FLOW_USED", "FLOW_POISON_LOC", "FLOW_HIT_CNT", "FLOW_BYPASS_CNT", "FLOW_STALE_CNT", "BUF_POOL_USED", "BUF_POOL_SHARED", "BUF_STATUS", "BUF_XOFF_POOLS", "BUF_LANDING", "BUF_REF_LIMIT_CNT", "MCAST_MEMBERS_USED", "DRAM_STATUS", "DRAM_ROW_GUARD_CNT", "SPAN_STATUS"]) := by
  unfold State.forwardingLookup
  generalize hP : ([.ports, .counters, .path, .rules, .fdb, .lpm, .flow, .mcast, .buf, .host, .dram, .pair] : List Part) = P
  generalize hL : (["CNT_HALF_LO", "CNT_HALF_HI", "RULE_VER_STATE", "FDB_STATUS", "FDB_USED", "FDB_PARITY_LOC", "FDB_LEARN_DROP_CNT", "FDB_PARITY_CNT", "LPM_STATUS", "LPM_USED", "LPM_V4_COUNT", "LPM_V6_COUNT", "LPM_PARITY_LOC", "LPM_PARITY_CNT", "FLOW_STATUS", "FLOW_USED", "FLOW_POISON_LOC", "FLOW_HIT_CNT", "FLOW_BYPASS_CNT", "FLOW_STALE_CNT", "BUF_POOL_USED", "BUF_POOL_SHARED", "BUF_STATUS", "BUF_XOFF_POOLS", "BUF_LANDING", "BUF_REF_LIMIT_CNT", "MCAST_MEMBERS_USED", "DRAM_STATUS", "DRAM_ROW_GUARD_CNT", "SPAN_STATUS"] : List String) = L
  repeat (first
    | with_reducible assumption
    | with_reducible exact keep_refl _ _ _
    | (dsimp -zeta only)
    | ((try lift_lets -underBinder); with_reducible intro y; refine cut_at (A := State.only s y P (regsOf L)) ?_ ?_; on_goal 2 => (intro hy; clear_value y)
       unfold y)
    | ((try lift_lets -underBinder); with_reducible intro y; clear_value y)
    | with_reducible apply keep_if
    | (with_reducible apply keep_setFrame; on_goal 2 => simp [← hP])
    | (with_reducible apply keep_of (frame_learnFrom ..); on_goal 2 => simp [← hP]
       on_goal 2 => simp [← hL])
    | (with_reducible apply keep_of (frame_fdbHit ..); on_goal 2 => simp [← hP]
       on_goal 2 => simp [← hL])
    | (with_reducible apply keep_of (frame_bridge ..); on_goal 2 => simp [← hP]
       on_goal 2 => simp [← hL])
    | (with_reducible apply keep_of (frame_route ..); on_goal 2 => simp [← hP]
       on_goal 2 => simp [← hL])
    | (with_reducible apply keep_of (frame_fixCopies ..); on_goal 2 => simp [← hP]
       on_goal 2 => simp [← hL])
    | (with_reducible apply keep_of (frame_contextLookup ..); on_goal 2 => simp [← hP]
       on_goal 2 => simp [← hL])
    | (with_reducible apply keep_of (frame_modFrame ..); on_goal 2 => simp [← hP]
       on_goal 2 => simp [← hL])
    | (with_reducible apply keep_of (frame_pastLookup ..); on_goal 2 => simp [← hP]
       on_goal 2 => simp [← hL])
    | split)

theorem frame_contextFetched (s : State) (f : Nat) (r : FetchRead) : s.only (State.contextFetched s f r) [.ports, .counters, .path, .rules, .flow, .mcast, .buf, .dram, .pair] (regsOf ["CNT_HALF_LO", "CNT_HALF_HI", "RULE_VER_STATE", "FLOW_STATUS", "FLOW_USED", "FLOW_POISON_LOC", "FLOW_MISS_CNT", "FLOW_ABSENT_CNT", "FLOW_STALE_CNT", "BUF_POOL_USED", "BUF_POOL_SHARED", "BUF_STATUS", "BUF_XOFF_POOLS", "BUF_LANDING", "MCAST_MEMBERS_USED", "DRAM_STATUS", "DRAM_ERR_LOC", "DRAM_CORR_CNT", "DRAM_UNCORR_CNT", "DRAM_ROW_GUARD_CNT"]) := by
  unfold State.contextFetched
  generalize hP : ([.ports, .counters, .path, .rules, .flow, .mcast, .buf, .dram, .pair] : List Part) = P
  generalize hL : (["CNT_HALF_LO", "CNT_HALF_HI", "RULE_VER_STATE", "FLOW_STATUS", "FLOW_USED", "FLOW_POISON_LOC", "FLOW_MISS_CNT", "FLOW_ABSENT_CNT", "FLOW_STALE_CNT", "BUF_POOL_USED", "BUF_POOL_SHARED", "BUF_STATUS", "BUF_XOFF_POOLS", "BUF_LANDING", "MCAST_MEMBERS_USED", "DRAM_STATUS", "DRAM_ERR_LOC", "DRAM_CORR_CNT", "DRAM_UNCORR_CNT", "DRAM_ROW_GUARD_CNT"] : List String) = L
  repeat (first
    | with_reducible exact keep_refl _ _ _
    | with_reducible apply keep_if
    | (with_reducible apply keep_of (frame_pastLookup ..); on_goal 2 => simp [← hP]
       on_goal 2 => simp [← hL])
    | (with_reducible apply keep_of (frame_fetchDone ..); on_goal 2 => simp [← hP]
       on_goal 2 => simp [← hL])
    | split)

theorem frame_recordFrame (s : State) (f : Nat) (x : Frame) (reserve : Bool) : s.only (State.recordFrame s f x reserve) [.path, .tally] (regsOf []) := by
  unfold State.recordFrame
  generalize hP : ([.path, .tally] : List Part) = P
  generalize hL : ([] : List String) = L
  repeat (first
    | with_reducible assumption
    | with_reducible exact keep_refl _ _ _
    | ((try lift_lets -underBinder); with_reducible intro y; refine cut_at (A := State.only s y P (regsOf L)) ?_ ?_; on_goal 2 => (intro hy; clear_value y)
       unfold y)
    | ((try lift_lets -underBinder); with_reducible intro y; clear_value y)
    | with_reducible apply keep_if
    | (with_reducible apply keep_setFrame; on_goal 2 => simp [← hP])
    | (with_reducible apply keep_modTally; on_goal 2 => simp [← hP]))

theorem frame_dropPlan (s : State) (f : Nat) (x : Frame) : s.only (State.dropPlan s f x) [.ports, .counters, .events, .path, .mcast, .buf, .tally, .host, .pair] (regsOf ["CNT_HALF_LO", "CNT_HALF_HI", "TALLY_STATUS", "TALLY_RING_LEVEL", "TALLY_LOST_CNT", "BUF_POOL_USED", "BUF_POOL_SHARED", "BUF_STATUS", "BUF_XOFF_POOLS", "BUF_LANDING", "BUF_BAD_FREE_LOC", "BUF_BAD_FREE_CNT", "MCAST_MEMBERS_USED", "RING_DEV_INDEX"]) := by
  unfold State.dropPlan
  generalize hP : ([.ports, .counters, .events, .path, .mcast, .buf, .tally, .host, .pair] : List Part) = P
  generalize hL : (["CNT_HALF_LO", "CNT_HALF_HI", "TALLY_STATUS", "TALLY_RING_LEVEL", "TALLY_LOST_CNT", "BUF_POOL_USED", "BUF_POOL_SHARED", "BUF_STATUS", "BUF_XOFF_POOLS", "BUF_LANDING", "BUF_BAD_FREE_LOC", "BUF_BAD_FREE_CNT", "MCAST_MEMBERS_USED", "RING_DEV_INDEX"] : List String) = L
  repeat (first
    | with_reducible assumption
    | with_reducible exact keep_refl _ _ _
    | ((try lift_lets -underBinder); with_reducible intro y; refine cut_at (A := State.only u y P (regsOf L)) ?_ ?_; on_goal 2 => (intro hy; clear_value y)
       unfold y)
    | ((try lift_lets -underBinder); with_reducible intro y; refine cut_at (A := State.only s y P (regsOf L)) ?_ ?_; on_goal 2 => (intro hy; clear_value y)
       unfold y)
    | ((try lift_lets -underBinder); with_reducible intro y; refine cut_at (A := ∀ (u : State) a, u.only (y u a) P (regsOf L)) ?_ ?_; on_goal 2 => (intro hy; clear_value y)
       (intro u a; unfold y; beta_reduce))
    | with_reducible apply keep_if
    | with_reducible refine keep_foldl ?_ (fun u a => ?_)
    | (with_reducible apply keep_of (frame_decrementAll ..); on_goal 2 => simp [← hP]
       on_goal 2 => simp [← hL])
    | (with_reducible apply keep_of (frame_countLane ..); on_goal 2 => simp [← hP]
       on_goal 2 => simp [← hL])
    | (with_reducible apply keep_of (frame_injectCopy ..); on_goal 2 => simp [← hP]
       on_goal 2 => simp [← hL])
    | (with_reducible apply keep_of (frame_copyRecord ..); on_goal 2 => simp [← hP]
       on_goal 2 => simp [← hL])
    | (with_reducible apply keep_of (frame_startWalk ..); on_goal 2 => simp [← hP]
       on_goal 2 => simp [← hL])
    | (with_reducible apply keep_of (frame_modFrame ..); on_goal 2 => simp [← hP]
       on_goal 2 => simp [← hL])
    | with_reducible refine only_then ?_ (‹∀ (u : State) (a : _), State.only u _ _ _› _ _)
    | split)

theorem frame_admitted (s : State) (f : Nat) : s.only (State.admitted s f) [.ports, .counters, .events, .path, .mcast, .buf, .tally, .host, .pair] (regsOf ["CNT_HALF_LO", "CNT_HALF_HI", "TALLY_STATUS", "TALLY_RING_LEVEL", "TALLY_LOST_CNT", "BUF_POOL_USED", "BUF_POOL_SHARED", "BUF_STATUS", "BUF_XOFF_POOLS", "BUF_LANDING", "BUF_BAD_FREE_LOC", "BUF_BAD_FREE_CNT", "MCAST_MEMBERS_USED", "RING_DEV_INDEX"]) := by
  unfold State.admitted
  generalize hP : ([.ports, .counters, .events, .path, .mcast, .buf, .tally, .host, .pair] : List Part) = P
  generalize hL : (["CNT_HALF_LO", "CNT_HALF_HI", "TALLY_STATUS", "TALLY_RING_LEVEL", "TALLY_LOST_CNT", "BUF_POOL_USED", "BUF_POOL_SHARED", "BUF_STATUS", "BUF_XOFF_POOLS", "BUF_LANDING", "BUF_BAD_FREE_LOC", "BUF_BAD_FREE_CNT", "MCAST_MEMBERS_USED", "RING_DEV_INDEX"] : List String) = L
  repeat (first
    | with_reducible exact keep_refl _ _ _
    | with_reducible apply keep_if
    | with_reducible refine keep_foldl ?_ (fun u a => ?_)
    | (with_reducible apply keep_setFrame; on_goal 2 => simp [← hP])
    | (with_reducible apply keep_of (frame_dropPlan ..); on_goal 2 => simp [← hP]
       on_goal 2 => simp [← hL])
    | (with_reducible apply keep_of (frame_startWalk ..); on_goal 2 => simp [← hP]
       on_goal 2 => simp [← hL])
    | (with_reducible apply keep_of (frame_dropBead ..); on_goal 2 => simp [← hP]
       on_goal 2 => simp [← hL])
    | split)

theorem frame_turnOn (s : State) (pool : Nat) : s.only (State.turnOn s pool) [.buf] (regsOf []) := by
  unfold State.turnOn
  generalize hP : ([.buf] : List Part) = P
  generalize hL : ([] : List String) = L
  repeat (first
    | with_reducible exact keep_refl _ _ _
    | (with_reducible apply keep_of (frame_turnFrom ..); on_goal 2 => simp [← hP]
       on_goal 2 => simp [← hL]))

theorem frame_admission (s : State) (f : Nat) : s.only (State.admission s f) [.ports, .counters, .events, .path, .rules, .mcast, .buf, .tm, .tally, .host, .pair] (regsOf ["CNT_HALF_LO", "CNT_HALF_HI", "TALLY_STATUS", "TALLY_RING_LEVEL", "TALLY_LOST_CNT", "RULE_VER_STATE", "BUF_POOL_USED", "BUF_POOL_SHARED", "BUF_STATUS", "BUF_XOFF_POOLS", "BUF_LANDING", "BUF_BAD_FREE_LOC", "BUF_DROP_CNT", "BUF_HEADROOM_CNT", "BUF_BAD_FREE_CNT", "MCAST_MEMBERS_USED", "RING_DEV_INDEX"]) := by
  unfold State.admission
  generalize hP : ([.ports, .counters, .events, .path, .rules, .mcast, .buf, .tm, .tally, .host, .pair] : List Part) = P
  generalize hL : (["CNT_HALF_LO", "CNT_HALF_HI", "TALLY_STATUS", "TALLY_RING_LEVEL", "TALLY_LOST_CNT", "RULE_VER_STATE", "BUF_POOL_USED", "BUF_POOL_SHARED", "BUF_STATUS", "BUF_XOFF_POOLS", "BUF_LANDING", "BUF_BAD_FREE_LOC", "BUF_DROP_CNT", "BUF_HEADROOM_CNT", "BUF_BAD_FREE_CNT", "MCAST_MEMBERS_USED", "RING_DEV_INDEX"] : List String) = L
  repeat (first
    | with_reducible assumption
    | with_reducible exact keep_refl _ _ _
    | ((try lift_lets -underBinder); with_reducible intro y; refine cut_at (A := State.only s y P (regsOf L)) ?_ ?_; on_goal 2 => (intro hy; clear_value y)
       unfold y)
    | ((try lift_lets -underBinder); with_reducible intro y; clear_value y)
    | with_reducible apply keep_if
    | (with_reducible apply keep_on; on_goal 2 => first | assumption | (with_reducible apply reg_TALLY_STATUS_RECORD_DROP; simp [← hL]))
    | (with_reducible apply keep_of (frame_dropFrame ..); on_goal 2 => simp [← hP]
       on_goal 2 => simp [← hL])
    | (with_reducible apply keep_of (frame_police ..); on_goal 2 => simp [← hP]
       on_goal 2 => simp [← hL])
    | (with_reducible apply keep_of (frame_count ..); on_goal 2 => simp [← hP]
       on_goal 2 => simp [← hL])
    | (with_reducible apply keep_of (frame_beadDrop ..); on_goal 2 => simp [← hP]
       on_goal 2 => simp [← hL])
    | (with_reducible apply keep_opt (by assumption) (frame_moveBeads ..); on_goal 2 => simp [← hP]
       on_goal 2 => simp [← hL])
    | (with_reducible apply keep_of (frame_turnOn ..); on_goal 2 => simp [← hP]
       on_goal 2 => simp [← hL])
    | (with_reducible apply keep_of (frame_admitted ..); on_goal 2 => simp [← hP]
       on_goal 2 => simp [← hL])
    | (with_reducible apply keep_of (frame_recordFrame ..); on_goal 2 => simp [← hP]
       on_goal 2 => simp [← hL])
    | split)

theorem frame_cutFrame (s : State) (f : Nat) (x : Frame) : s.only (State.cutFrame s f x) [.counters, .path, .pair] (regsOf ["CNT_HALF_LO", "CNT_HALF_HI", "BUF_STATUS", "BUF_DROP_CNT", "BUF_HEADROOM_CNT"]) := by
  unfold State.cutFrame
  generalize hP : ([.counters, .path, .pair] : List Part) = P
  generalize hL : (["CNT_HALF_LO", "CNT_HALF_HI", "BUF_STATUS", "BUF_DROP_CNT", "BUF_HEADROOM_CNT"] : List String) = L
  repeat (first
    | with_reducible assumption
    | with_reducible exact keep_refl _ _ _
    | ((try lift_lets -underBinder); with_reducible intro y; refine cut_at (A := State.only s y P (regsOf L)) ?_ ?_; on_goal 2 => (intro hy; clear_value y)
       unfold y)
    | (with_reducible apply keep_on; on_goal 2 => first | assumption | (with_reducible apply reg_BUF_DROP_CNT_COUNT; simp [← hL]) | (with_reducible apply reg_BUF_STATUS_DROP; simp [← hL]))
    | (with_reducible apply keep_satAdd; on_goal 2 => first | assumption | (with_reducible apply reg_BUF_DROP_CNT_COUNT; simp [← hL]) | (with_reducible apply reg_BUF_STATUS_DROP; simp [← hL]))
    | (with_reducible apply keep_setFrame; on_goal 2 => simp [← hP])
    | (with_reducible apply keep_of (frame_count ..); on_goal 2 => simp [← hP]
       on_goal 2 => simp [← hL])
    | (with_reducible apply keep_of (frame_headroomLoss ..); on_goal 2 => simp [← hP]
       on_goal 2 => simp [← hL]))

theorem frame_furtherBead (s : State) (f : Nat) : s.only (State.furtherBead s f) [.ports, .counters, .path, .rules, .mcast, .buf, .pair] (regsOf ["CNT_HALF_LO", "CNT_HALF_HI", "RULE_VER_STATE", "BUF_POOL_USED", "BUF_POOL_SHARED", "BUF_STATUS", "BUF_XOFF_POOLS", "BUF_LANDING", "BUF_DROP_CNT", "BUF_HEADROOM_CNT", "BUF_LANDING_DROP_CNT", "MCAST_MEMBERS_USED"]) := by
  unfold State.furtherBead
  generalize hP : ([.ports, .counters, .path, .rules, .mcast, .buf, .pair] : List Part) = P
  generalize hL : (["CNT_HALF_LO", "CNT_HALF_HI", "RULE_VER_STATE", "BUF_POOL_USED", "BUF_POOL_SHARED", "BUF_STATUS", "BUF_XOFF_POOLS", "BUF_LANDING", "BUF_DROP_CNT", "BUF_HEADROOM_CNT", "BUF_LANDING_DROP_CNT", "MCAST_MEMBERS_USED"] : List String) = L
  repeat (first
    | with_reducible exact keep_refl _ _ _
    | with_reducible apply keep_if
    | (with_reducible apply keep_setFrame; on_goal 2 => simp [← hP])
    | (with_reducible apply keep_optp (by assumption) (frame_takeLanding ..); on_goal 2 => simp [← hP]
       on_goal 2 => simp [← hL])
    | (with_reducible apply keep_of (frame_landingDrop ..); on_goal 2 => simp [← hP]
       on_goal 2 => simp [← hL])
    | (with_reducible apply keep_optp (by assumption) (frame_takePool ..); on_goal 2 => simp [← hP]
       on_goal 2 => simp [← hL])
    | (with_reducible apply keep_of (frame_turnOn ..); on_goal 2 => simp [← hP]
       on_goal 2 => simp [← hL])
    | (with_reducible apply keep_of (frame_cutFrame ..); on_goal 2 => simp [← hP]
       on_goal 2 => simp [← hL])
    | split)

theorem frame_grantRequest (s : State) (pool : Nat) (r : BeadRequest) : s.only (State.grantRequest s pool r).2 [.ports, .counters, .events, .path, .rules, .mcast, .buf, .tm, .tally, .host, .pair] (regsOf ["CNT_HALF_LO", "CNT_HALF_HI", "TALLY_STATUS", "TALLY_RING_LEVEL", "TALLY_LOST_CNT", "RULE_VER_STATE", "BUF_POOL_USED", "BUF_POOL_SHARED", "BUF_STATUS", "BUF_XOFF_POOLS", "BUF_LANDING", "BUF_BAD_FREE_LOC", "BUF_DROP_CNT", "BUF_HEADROOM_CNT", "BUF_LANDING_DROP_CNT", "BUF_BAD_FREE_CNT", "MCAST_MEMBERS_USED", "RING_DEV_INDEX"]) := by
  unfold State.grantRequest
  generalize hP : ([.ports, .counters, .events, .path, .rules, .mcast, .buf, .tm, .tally, .host, .pair] : List Part) = P
  generalize hL : (["CNT_HALF_LO", "CNT_HALF_HI", "TALLY_STATUS", "TALLY_RING_LEVEL", "TALLY_LOST_CNT", "RULE_VER_STATE", "BUF_POOL_USED", "BUF_POOL_SHARED", "BUF_STATUS", "BUF_XOFF_POOLS", "BUF_LANDING", "BUF_BAD_FREE_LOC", "BUF_DROP_CNT", "BUF_HEADROOM_CNT", "BUF_LANDING_DROP_CNT", "BUF_BAD_FREE_CNT", "MCAST_MEMBERS_USED", "RING_DEV_INDEX"] : List String) = L
  repeat (first
    | with_reducible assumption
    | with_reducible exact keep_refl _ _ _
    | (dsimp -zeta only)
    | ((try lift_lets -underBinder); with_reducible intro y; refine cut_at (A := State.only s y P (regsOf L)) ?_ ?_; on_goal 2 => (intro hy; clear_value y)
       unfold y)
    | (with_reducible apply keep_of (frame_admission ..); on_goal 2 => simp [← hP]
       on_goal 2 => simp [← hL])
    | (with_reducible apply keep_of (frame_furtherBead ..); on_goal 2 => simp [← hP]
       on_goal 2 => simp [← hL])
    | (with_reducible apply keep_optp (by assumption) (frame_takePool ..); on_goal 2 => simp [← hP]
       on_goal 2 => simp [← hL])
    | split)

theorem frame_grantRequests (pool : Nat) (v0 : List BeadRequest) (s : State) : s.only (grantRequests pool v0 s) [.ports, .counters, .events, .path, .rules, .mcast, .buf, .tm, .tally, .host, .pair] (regsOf ["CNT_HALF_LO", "CNT_HALF_HI", "TALLY_STATUS", "TALLY_RING_LEVEL", "TALLY_LOST_CNT", "RULE_VER_STATE", "BUF_POOL_USED", "BUF_POOL_SHARED", "BUF_STATUS", "BUF_XOFF_POOLS", "BUF_LANDING", "BUF_BAD_FREE_LOC", "BUF_DROP_CNT", "BUF_HEADROOM_CNT", "BUF_LANDING_DROP_CNT", "BUF_BAD_FREE_CNT", "MCAST_MEMBERS_USED", "RING_DEV_INDEX"]) := by
  induction v0 generalizing s with
  | nil =>
    unfold grantRequests
    generalize hP : ([.ports, .counters, .events, .path, .rules, .mcast, .buf, .tm, .tally, .host, .pair] : List Part) = P
    generalize hL : (["CNT_HALF_LO", "CNT_HALF_HI", "TALLY_STATUS", "TALLY_RING_LEVEL", "TALLY_LOST_CNT", "RULE_VER_STATE", "BUF_POOL_USED", "BUF_POOL_SHARED", "BUF_STATUS", "BUF_XOFF_POOLS", "BUF_LANDING", "BUF_BAD_FREE_LOC", "BUF_DROP_CNT", "BUF_HEADROOM_CNT", "BUF_LANDING_DROP_CNT", "BUF_BAD_FREE_CNT", "MCAST_MEMBERS_USED", "RING_DEV_INDEX"] : List String) = L
    repeat (first
      | with_reducible exact keep_refl _ _ _)
  | cons e l ih =>
    unfold grantRequests
    generalize hP : ([.ports, .counters, .events, .path, .rules, .mcast, .buf, .tm, .tally, .host, .pair] : List Part) = P
    generalize hL : (["CNT_HALF_LO", "CNT_HALF_HI", "TALLY_STATUS", "TALLY_RING_LEVEL", "TALLY_LOST_CNT", "RULE_VER_STATE", "BUF_POOL_USED", "BUF_POOL_SHARED", "BUF_STATUS", "BUF_XOFF_POOLS", "BUF_LANDING", "BUF_BAD_FREE_LOC", "BUF_DROP_CNT", "BUF_HEADROOM_CNT", "BUF_LANDING_DROP_CNT", "BUF_BAD_FREE_CNT", "MCAST_MEMBERS_USED", "RING_DEV_INDEX"] : List String) = L
    repeat (first
      | with_reducible exact keep_refl _ _ _
      | (dsimp -zeta only)
      | (with_reducible apply keep_modBuf; on_goal 2 => simp [← hP])
      | (with_reducible apply keep_of (ih ..); on_goal 2 => simp [← hP]
         on_goal 2 => simp [← hL])
      | (with_reducible apply keep_of (frame_grantRequest ..); on_goal 2 => simp [← hP]
         on_goal 2 => simp [← hL]))

theorem frame_handshake (s : State) (pool : Nat) (requests : List BeadRequest) (frees : List BeadFree) : s.only (State.handshake s pool requests frees) [.ports, .counters, .events, .path, .rules, .mcast, .buf, .tm, .tally, .host, .pair] (regsOf ["CNT_HALF_LO", "CNT_HALF_HI", "TALLY_STATUS", "TALLY_RING_LEVEL", "TALLY_LOST_CNT", "RULE_VER_STATE", "BUF_POOL_USED", "BUF_POOL_SHARED", "BUF_STATUS", "BUF_XOFF_POOLS", "BUF_LANDING", "BUF_BAD_FREE_LOC", "BUF_DROP_CNT", "BUF_HEADROOM_CNT", "BUF_LANDING_DROP_CNT", "BUF_BAD_FREE_CNT", "MCAST_MEMBERS_USED", "RING_DEV_INDEX"]) := by
  unfold State.handshake
  generalize hP : ([.ports, .counters, .events, .path, .rules, .mcast, .buf, .tm, .tally, .host, .pair] : List Part) = P
  generalize hL : (["CNT_HALF_LO", "CNT_HALF_HI", "TALLY_STATUS", "TALLY_RING_LEVEL", "TALLY_LOST_CNT", "RULE_VER_STATE", "BUF_POOL_USED", "BUF_POOL_SHARED", "BUF_STATUS", "BUF_XOFF_POOLS", "BUF_LANDING", "BUF_BAD_FREE_LOC", "BUF_DROP_CNT", "BUF_HEADROOM_CNT", "BUF_LANDING_DROP_CNT", "BUF_BAD_FREE_CNT", "MCAST_MEMBERS_USED", "RING_DEV_INDEX"] : List String) = L
  repeat (first
    | with_reducible assumption
    | with_reducible exact keep_refl _ _ _
    | ((try lift_lets -underBinder); with_reducible intro y; refine cut_at (A := State.only s y P (regsOf L)) ?_ ?_; on_goal 2 => (intro hy; clear_value y)
       unfold y)
    | ((try lift_lets -underBinder); with_reducible intro y; clear_value y)
    | with_reducible apply keep_if
    | with_reducible refine keep_foldl ?_ (fun u a => ?_)
    | (with_reducible apply keep_modBuf; on_goal 2 => simp [← hP])
    | (with_reducible apply keep_of (frame_decrement ..); on_goal 2 => simp [← hP]
       on_goal 2 => simp [← hL])
    | (with_reducible apply keep_of (frame_turnFrom ..); on_goal 2 => simp [← hP]
       on_goal 2 => simp [← hL])
    | (with_reducible apply keep_of (frame_grantRequests ..); on_goal 2 => simp [← hP]
       on_goal 2 => simp [← hL]))

theorem frame_furtherBeads (v0 : Nat) (v1 : Nat) (s : State) : s.only (furtherBeads v0 v1 s) [.ports, .counters, .path, .rules, .mcast, .buf, .pair] (regsOf ["CNT_HALF_LO", "CNT_HALF_HI", "RULE_VER_STATE", "BUF_POOL_USED", "BUF_POOL_SHARED", "BUF_STATUS", "BUF_XOFF_POOLS", "BUF_LANDING", "BUF_DROP_CNT", "BUF_HEADROOM_CNT", "BUF_LANDING_DROP_CNT", "MCAST_MEMBERS_USED"]) := by
  induction v0 generalizing v1 s with
  | zero =>
    unfold furtherBeads
    generalize hP : ([.ports, .counters, .path, .rules, .mcast, .buf, .pair] : List Part) = P
    generalize hL : (["CNT_HALF_LO", "CNT_HALF_HI", "RULE_VER_STATE", "BUF_POOL_USED", "BUF_POOL_SHARED", "BUF_STATUS", "BUF_XOFF_POOLS", "BUF_LANDING", "BUF_DROP_CNT", "BUF_HEADROOM_CNT", "BUF_LANDING_DROP_CNT", "MCAST_MEMBERS_USED"] : List String) = L
    repeat (first
      | with_reducible exact keep_refl _ _ _)
  | succ j ih =>
    unfold furtherBeads
    generalize hP : ([.ports, .counters, .path, .rules, .mcast, .buf, .pair] : List Part) = P
    generalize hL : (["CNT_HALF_LO", "CNT_HALF_HI", "RULE_VER_STATE", "BUF_POOL_USED", "BUF_POOL_SHARED", "BUF_STATUS", "BUF_XOFF_POOLS", "BUF_LANDING", "BUF_DROP_CNT", "BUF_HEADROOM_CNT", "BUF_LANDING_DROP_CNT", "MCAST_MEMBERS_USED"] : List String) = L
    repeat (first
      | with_reducible exact keep_refl _ _ _
      | (with_reducible apply keep_of (ih ..); on_goal 2 => simp [← hP]
         on_goal 2 => simp [← hL])
      | (with_reducible apply keep_of (frame_furtherBead ..); on_goal 2 => simp [← hP]
         on_goal 2 => simp [← hL]))

theorem frame_frameTruncate (s : State) (f : Nat) : s.only (State.frameTruncate s f) [.ports, .counters, .path, .rules, .fdb, .mcast, .buf, .pair] (regsOf ["CNT_HALF_LO", "CNT_HALF_HI", "RULE_VER_STATE", "BUF_POOL_USED", "BUF_POOL_SHARED", "BUF_STATUS", "BUF_XOFF_POOLS", "BUF_LANDING", "BUF_DROP_CNT", "BUF_HEADROOM_CNT", "BUF_LANDING_DROP_CNT", "MCAST_MEMBERS_USED"]) := by
  unfold State.frameTruncate
  generalize hP : ([.ports, .counters, .path, .rules, .fdb, .mcast, .buf, .pair] : List Part) = P
  generalize hL : (["CNT_HALF_LO", "CNT_HALF_HI", "RULE_VER_STATE", "BUF_POOL_USED", "BUF_POOL_SHARED", "BUF_STATUS", "BUF_XOFF_POOLS", "BUF_LANDING", "BUF_DROP_CNT", "BUF_HEADROOM_CNT", "BUF_LANDING_DROP_CNT", "MCAST_MEMBERS_USED"] : List String) = L
  repeat (first
    | with_reducible assumption
    | with_reducible exact keep_refl _ _ _
    | ((try lift_lets -underBinder); with_reducible intro y; refine cut_at (A := State.only s y P (regsOf L)) ?_ ?_; on_goal 2 => (intro hy; clear_value y)
       unfold y)
    | with_reducible apply keep_if
    | (with_reducible apply keep_setFrame; on_goal 2 => simp [← hP])
    | (with_reducible apply keep_of (frame_furtherBeads ..); on_goal 2 => simp [← hP]
       on_goal 2 => simp [← hL])
    | (with_reducible apply keep_of (frame_learnKnownBad ..); on_goal 2 => simp [← hP]
       on_goal 2 => simp [← hL])
    | split)

theorem frame_frameEnd (s : State) (f : Nat) (fcs : Fcs) (codeErr : Bool) : s.only (State.frameEnd s f fcs codeErr) [.ports, .counters, .path, .rules, .fdb, .flow, .mcast, .buf, .tm, .dram, .pair] (regsOf ["CNT_HALF_LO", "CNT_HALF_HI", "RULE_VER_STATE", "FLOW_STATUS", "FLOW_USED", "FLOW_POISON_LOC", "FLOW_STALE_CNT", "BUF_POOL_USED", "BUF_POOL_SHARED", "BUF_STATUS", "BUF_XOFF_POOLS", "BUF_LANDING", "BUF_DROP_CNT", "BUF_HEADROOM_CNT", "BUF_LANDING_DROP_CNT", "MCAST_MEMBERS_USED", "DRAM_STATUS", "DRAM_ROW_GUARD_CNT"]) := by
  unfold State.frameEnd
  generalize hP : ([.ports, .counters, .path, .rules, .fdb, .flow, .mcast, .buf, .tm, .dram, .pair] : List Part) = P
  generalize hL : (["CNT_HALF_LO", "CNT_HALF_HI", "RULE_VER_STATE", "FLOW_STATUS", "FLOW_USED", "FLOW_POISON_LOC", "FLOW_STALE_CNT", "BUF_POOL_USED", "BUF_POOL_SHARED", "BUF_STATUS", "BUF_XOFF_POOLS", "BUF_LANDING", "BUF_DROP_CNT", "BUF_HEADROOM_CNT", "BUF_LANDING_DROP_CNT", "MCAST_MEMBERS_USED", "DRAM_STATUS", "DRAM_ROW_GUARD_CNT"] : List String) = L
  repeat (first
    | with_reducible assumption
    | with_reducible exact keep_refl _ _ _
    | ((try lift_lets -underBinder); with_reducible intro y; refine cut_at (A := State.only s y P (regsOf L)) ?_ ?_; on_goal 2 => (intro hy; clear_value y)
       unfold y)
    | ((try lift_lets -underBinder); with_reducible intro y; clear_value y)
    | with_reducible apply keep_if
    | with_reducible refine keep_foldl ?_ (fun u a => ?_)
    | (with_reducible apply keep_modPath; on_goal 2 => simp [← hP])
    | (with_reducible apply keep_of (frame_countRx ..); on_goal 2 => simp [← hP]
       on_goal 2 => simp [← hL])
    | (with_reducible apply keep_of (frame_countControl ..); on_goal 2 => simp [← hP]
       on_goal 2 => simp [← hL])
    | (with_reducible apply keep_of (frame_count ..); on_goal 2 => simp [← hP]
       on_goal 2 => simp [← hL])
    | (with_reducible apply keep_of (frame_lookAll ..); on_goal 2 => simp [← hP]
       on_goal 2 => simp [← hL])
    | (with_reducible apply keep_of (frame_dropBead ..); on_goal 2 => simp [← hP]
       on_goal 2 => simp [← hL])
    | (with_reducible apply keep_of (frame_frameTruncate ..); on_goal 2 => simp [← hP]
       on_goal 2 => simp [← hL])
    | (with_reducible apply keep_of (frame_furtherBeads ..); on_goal 2 => simp [← hP]
       on_goal 2 => simp [← hL])
    | (with_reducible apply keep_of (frame_modFrame ..); on_goal 2 => simp [← hP]
       on_goal 2 => simp [← hL])
    | (with_reducible apply keep_of (frame_learnKnownBad ..); on_goal 2 => simp [← hP]
       on_goal 2 => simp [← hL])
    | (with_reducible apply keep_of (frame_reap ..); on_goal 2 => simp [← hP]
       on_goal 2 => simp [← hL])
    | (with_reducible apply keep_of (frame_policerDebit ..); on_goal 2 => simp [← hP]
       on_goal 2 => simp [← hL])
    | (with_reducible apply keep_of (frame_contextUpdate ..); on_goal 2 => simp [← hP]
       on_goal 2 => simp [← hL])
    | split)

theorem frame_takeBeads (pool : Nat) (owner : Nat) (count : Nat) (v0 : Nat) (v1 : List Nat) (s : State) : s.onlyIfP (takeBeads pool owner count v0 v1 s) [.ports, .counters, .buf, .pair] (regsOf ["CNT_HALF_LO", "CNT_HALF_HI", "BUF_POOL_USED", "BUF_POOL_SHARED", "BUF_STATUS", "BUF_XOFF_POOLS"]) := by
  induction v0 generalizing v1 s with
  | zero =>
    unfold takeBeads
    generalize hP : ([.ports, .counters, .buf, .pair] : List Part) = P
    generalize hL : (["CNT_HALF_LO", "CNT_HALF_HI", "BUF_POOL_USED", "BUF_POOL_SHARED", "BUF_STATUS", "BUF_XOFF_POOLS"] : List String) = L
    repeat (first
      | with_reducible exact keep_refl _ _ _
      | with_reducible apply tryp_some)
  | succ j ih =>
    unfold takeBeads
    generalize hP : ([.ports, .counters, .buf, .pair] : List Part) = P
    generalize hL : (["CNT_HALF_LO", "CNT_HALF_HI", "BUF_POOL_USED", "BUF_POOL_SHARED", "BUF_STATUS", "BUF_XOFF_POOLS"] : List String) = L
    repeat (first
      | with_reducible exact keep_refl _ _ _
      | with_reducible exact tryp_none
      | (with_reducible apply tryp_of (ih ..); on_goal 2 => simp [← hP]
         on_goal 2 => simp [← hL])
      | (with_reducible apply keep_optp (by assumption) (frame_takePool ..); on_goal 2 => simp [← hP]
         on_goal 2 => simp [← hL])
      | split)

theorem frame_injectDropped (s : State) (n : Nat) (x : Frame) : s.only (State.injectDropped s n x) [.events, .host] (regsOf ["BUF_STATUS", "BUF_DROP_CNT", "BUF_HEADROOM_CNT", "RING_CFG", "RING_DEV_INDEX"]) := by
  unfold State.injectDropped
  generalize hP : ([.events, .host] : List Part) = P
  generalize hL : (["BUF_STATUS", "BUF_DROP_CNT", "BUF_HEADROOM_CNT", "RING_CFG", "RING_DEV_INDEX"] : List String) = L
  repeat (first
    | with_reducible assumption
    | with_reducible exact keep_refl _ _ _
    | ((try lift_lets -underBinder); with_reducible intro y; refine cut_at (A := State.only s y P (regsOf L)) ?_ ?_; on_goal 2 => (intro hy; clear_value y)
       unfold y)
    | ((try lift_lets -underBinder); with_reducible intro y; clear_value y)
    | with_reducible apply keep_if
    | (with_reducible apply keep_on; on_goal 2 => first | assumption | (with_reducible apply reg_BUF_DROP_CNT_COUNT; simp [← hL]) | (with_reducible apply reg_BUF_STATUS_DROP; simp [← hL]))
    | (with_reducible apply keep_satAdd; on_goal 2 => first | assumption | (with_reducible apply reg_BUF_DROP_CNT_COUNT; simp [← hL]) | (with_reducible apply reg_BUF_STATUS_DROP; simp [← hL]))
    | (with_reducible apply keep_modHost; on_goal 2 => simp [← hP])
    | (with_reducible apply keep_modRing; on_goal 2 => simp [← hP])
    | (with_reducible apply keep_of (frame_headroomLoss ..); on_goal 2 => simp [← hP]
       on_goal 2 => simp [← hL])
    | (with_reducible apply keep_of (frame_postCompletion ..); on_goal 2 => simp [← hP]
       on_goal 2 => simp [← hL])
    | (with_reducible apply keep_of (frame_ringIdle ..); on_goal 2 => simp [← hP]
       on_goal 2 => simp [← hL])
    | (with_reducible apply keep_of (frame_advance ..); on_goal 2 => simp [← hP]
       on_goal 2 => simp [← hL]))

theorem frame_injectDescriptor (s : State) (n : Nat) : s.only (State.injectDescriptor s n) [.ports, .counters, .events, .path, .mcast, .buf, .tally, .host, .pair] (regsOf ["CNT_HALF_LO", "CNT_HALF_HI", "TALLY_STATUS", "TALLY_RING_LEVEL", "TALLY_LOST_CNT", "BUF_POOL_USED", "BUF_POOL_SHARED", "BUF_STATUS", "BUF_XOFF_POOLS", "BUF_LANDING", "BUF_BAD_FREE_LOC", "BUF_DROP_CNT", "BUF_HEADROOM_CNT", "BUF_REF_LIMIT_CNT", "BUF_BAD_FREE_CNT", "MCAST_MEMBERS_USED", "RING_CFG", "RING_DEV_INDEX", "SPAN_STATUS"]) := by
  unfold State.injectDescriptor
  generalize hP : ([.ports, .counters, .events, .path, .mcast, .buf, .tally, .host, .pair] : List Part) = P
  generalize hL : (["CNT_HALF_LO", "CNT_HALF_HI", "TALLY_STATUS", "TALLY_RING_LEVEL", "TALLY_LOST_CNT", "BUF_POOL_USED", "BUF_POOL_SHARED", "BUF_STATUS", "BUF_XOFF_POOLS", "BUF_LANDING", "BUF_BAD_FREE_LOC", "BUF_DROP_CNT", "BUF_HEADROOM_CNT", "BUF_REF_LIMIT_CNT", "BUF_BAD_FREE_CNT", "MCAST_MEMBERS_USED", "RING_CFG", "RING_DEV_INDEX", "SPAN_STATUS"] : List String) = L
  repeat (first
    | with_reducible assumption
    | with_reducible exact keep_refl _ _ _
    | (dsimp -zeta only)
    | ((try lift_lets -underBinder); with_reducible intro y; refine cut_at (A := State.only s y P (regsOf L)) ?_ ?_; on_goal 2 => (intro hy; clear_value y)
       unfold y)
    | ((try lift_lets -underBinder); with_reducible intro y; clear_value y)
    | with_reducible apply keep_if
    | (with_reducible apply keep_modHost; on_goal 2 => simp [← hP])
    | (with_reducible apply keep_of (frame_turnOn ..); on_goal 2 => simp [← hP]
       on_goal 2 => simp [← hL])
    | (with_reducible apply keep_optp (by assumption) (frame_takeBeads ..); on_goal 2 => simp [← hP]
       on_goal 2 => simp [← hL])
    | (with_reducible apply keep_of (frame_injectDropped ..); on_goal 2 => simp [← hP]
       on_goal 2 => simp [← hL])
    | (with_reducible apply keep_of (frame_addFrame ..); on_goal 2 => simp [← hP]
       on_goal 2 => simp [← hL])
    | (with_reducible apply keep_of (frame_modFrame ..); on_goal 2 => simp [← hP]
       on_goal 2 => simp [← hL])
    | (with_reducible apply keep_of (frame_ringIdle ..); on_goal 2 => simp [← hP]
       on_goal 2 => simp [← hL])
    | (with_reducible apply keep_of (frame_advance ..); on_goal 2 => simp [← hP]
       on_goal 2 => simp [← hL])
    | (with_reducible apply keep_of (frame_fixCopies ..); on_goal 2 => simp [← hP]
       on_goal 2 => simp [← hL])
    | (with_reducible apply keep_of (frame_putInject ..); on_goal 2 => simp [← hP]
       on_goal 2 => simp [← hL])
    | (with_reducible apply keep_of (frame_admitted ..); on_goal 2 => simp [← hP]
       on_goal 2 => simp [← hL])
    | split)

theorem frame_puntGone (s : State) (f : Nat) (x : Frame) : s.only (State.puntGone s f x) [.ports, .counters, .path, .buf, .pair] (regsOf ["CNT_HALF_LO", "CNT_HALF_HI", "BUF_POOL_USED", "BUF_POOL_SHARED", "BUF_STATUS", "BUF_XOFF_POOLS", "BUF_LANDING", "BUF_BAD_FREE_LOC", "BUF_BAD_FREE_CNT"]) := by
  unfold State.puntGone
  generalize hP : ([.ports, .counters, .path, .buf, .pair] : List Part) = P
  generalize hL : (["CNT_HALF_LO", "CNT_HALF_HI", "BUF_POOL_USED", "BUF_POOL_SHARED", "BUF_STATUS", "BUF_XOFF_POOLS", "BUF_LANDING", "BUF_BAD_FREE_LOC", "BUF_BAD_FREE_CNT"] : List String) = L
  repeat (first
    | with_reducible exact keep_refl _ _ _
    | (with_reducible apply keep_of (frame_dropRefs ..); on_goal 2 => simp [← hP]
       on_goal 2 => simp [← hL])
    | (with_reducible apply keep_of (frame_decrementAll ..); on_goal 2 => simp [← hP]
       on_goal 2 => simp [← hL]))

theorem frame_puntWrite (s : State) (f : Nat) : s.only (State.puntWrite s f) [.ports, .counters, .path, .buf, .host, .pair] (regsOf ["CNT_HALF_LO", "CNT_HALF_HI", "BUF_POOL_USED", "BUF_POOL_SHARED", "BUF_STATUS", "BUF_XOFF_POOLS", "BUF_LANDING", "BUF_BAD_FREE_LOC", "BUF_BAD_FREE_CNT", "RING_STATUS", "RING_DEV_INDEX", "RING_DROP_CNT"]) := by
  unfold State.puntWrite
  generalize hP : ([.ports, .counters, .path, .buf, .host, .pair] : List Part) = P
  generalize hL : (["CNT_HALF_LO", "CNT_HALF_HI", "BUF_POOL_USED", "BUF_POOL_SHARED", "BUF_STATUS", "BUF_XOFF_POOLS", "BUF_LANDING", "BUF_BAD_FREE_LOC", "BUF_BAD_FREE_CNT", "RING_STATUS", "RING_DEV_INDEX", "RING_DROP_CNT"] : List String) = L
  repeat (first
    | with_reducible assumption
    | with_reducible exact keep_refl _ _ _
    | ((try lift_lets -underBinder); with_reducible intro y; refine cut_at (A := State.only s y P (regsOf L)) ?_ ?_; on_goal 2 => (intro hy; clear_value y)
       unfold y)
    | ((try lift_lets -underBinder); with_reducible intro y; clear_value y)
    | with_reducible apply keep_if
    | (with_reducible apply keep_on; on_goal 2 => first | assumption | (with_reducible apply reg_RING_DROP_CNT_DROP; simp [← hL]) | (with_reducible apply reg_RING_STATUS_PUNT_DROP; simp [← hL]))
    | (with_reducible apply keep_satAdd; on_goal 2 => first | assumption | (with_reducible apply reg_RING_DROP_CNT_DROP; simp [← hL]) | (with_reducible apply reg_RING_STATUS_PUNT_DROP; simp [← hL]))
    | (with_reducible apply keep_modRing; on_goal 2 => simp [← hP])
    | (with_reducible apply keep_setFrame; on_goal 2 => simp [← hP])
    | (with_reducible apply keep_of (frame_puntGone ..); on_goal 2 => simp [← hP]
       on_goal 2 => simp [← hL])
    | (with_reducible apply keep_of (frame_count ..); on_goal 2 => simp [← hP]
       on_goal 2 => simp [← hL])
    | (with_reducible apply keep_of (frame_memWrite ..); on_goal 2 => simp [← hP]
       on_goal 2 => simp [← hL])
    | (with_reducible apply keep_of (frame_ringWrite ..); on_goal 2 => simp [← hP]
       on_goal 2 => simp [← hL])
    | split)

theorem frame_spanLearn (s : State) (f : Nat) (x : Frame) : s.only (State.spanLearn s f x) [.fdb] (regsOf ["FDB_STATUS", "FDB_LEARN_DROP_CNT"]) := by
  unfold State.spanLearn
  generalize hP : ([.fdb] : List Part) = P
  generalize hL : (["FDB_STATUS", "FDB_LEARN_DROP_CNT"] : List String) = L
  repeat (first
    | with_reducible exact keep_refl _ _ _
    | ((try lift_lets -underBinder); with_reducible intro y; clear_value y)
    | with_reducible apply keep_if
    | (with_reducible apply keep_of (frame_learnRequest ..); on_goal 2 => simp [← hP]
       on_goal 2 => simp [← hL]))

theorem frame_spanAdmit (s : State) (p : Nat) (x : Frame) : s.only (State.spanAdmit s p x) [.ports, .counters, .events, .path, .rules, .fdb, .mcast, .buf, .tally, .host, .pair] (regsOf ["CNT_HALF_LO", "CNT_HALF_HI", "TALLY_STATUS", "TALLY_RING_LEVEL", "TALLY_LOST_CNT", "RULE_VER_STATE", "FDB_STATUS", "FDB_LEARN_DROP_CNT", "BUF_POOL_USED", "BUF_POOL_SHARED", "BUF_STATUS", "BUF_XOFF_POOLS", "BUF_LANDING", "BUF_BAD_FREE_LOC", "BUF_DROP_CNT", "BUF_HEADROOM_CNT", "BUF_REF_LIMIT_CNT", "BUF_BAD_FREE_CNT", "MCAST_MEMBERS_USED", "RING_DEV_INDEX", "SPAN_STATUS"]) := by
  unfold State.spanAdmit
  generalize hP : ([.ports, .counters, .events, .path, .rules, .fdb, .mcast, .buf, .tally, .host, .pair] : List Part) = P
  generalize hL : (["CNT_HALF_LO", "CNT_HALF_HI", "TALLY_STATUS", "TALLY_RING_LEVEL", "TALLY_LOST_CNT", "RULE_VER_STATE", "FDB_STATUS", "FDB_LEARN_DROP_CNT", "BUF_POOL_USED", "BUF_POOL_SHARED", "BUF_STATUS", "BUF_XOFF_POOLS", "BUF_LANDING", "BUF_BAD_FREE_LOC", "BUF_DROP_CNT", "BUF_HEADROOM_CNT", "BUF_REF_LIMIT_CNT", "BUF_BAD_FREE_CNT", "MCAST_MEMBERS_USED", "RING_DEV_INDEX", "SPAN_STATUS"] : List String) = L
  repeat (first
    | with_reducible assumption
    | with_reducible exact keep_refl _ _ _
    | (dsimp -zeta only)
    | ((try lift_lets -underBinder); with_reducible intro y; refine cut_at (A := State.only s y P (regsOf L)) ?_ ?_; on_goal 2 => (intro hy; clear_value y)
       unfold y)
    | ((try lift_lets -underBinder); with_reducible intro y; clear_value y)
    | with_reducible apply keep_if
    | (with_reducible apply keep_of (frame_addFrame ..); on_goal 2 => simp [← hP]
       on_goal 2 => simp [← hL])
    | (with_reducible apply keep_of (frame_fixCopies ..); on_goal 2 => simp [← hP]
       on_goal 2 => simp [← hL])
    | (with_reducible apply keep_of (frame_spanLearn ..); on_goal 2 => simp [← hP]
       on_goal 2 => simp [← hL])
    | (with_reducible apply keep_of (frame_beadDrop ..); on_goal 2 => simp [← hP]
       on_goal 2 => simp [← hL])
    | (with_reducible apply keep_optp (by assumption) (frame_takeBeads ..); on_goal 2 => simp [← hP]
       on_goal 2 => simp [← hL])
    | (with_reducible apply keep_of (frame_turnOn ..); on_goal 2 => simp [← hP]
       on_goal 2 => simp [← hL])
    | (with_reducible apply keep_of (frame_admitted ..); on_goal 2 => simp [← hP]
       on_goal 2 => simp [← hL])
    | (with_reducible apply keep_of (frame_recordFrame ..); on_goal 2 => simp [← hP]
       on_goal 2 => simp [← hL])
    | split)

theorem frame_spanData (s : State) (p : Nat) (b : List Byte) (fcsOk : Bool) : s.only (State.spanData s p b fcsOk) [.ports, .counters, .events, .path, .rules, .fdb, .mcast, .buf, .tally, .host, .pair] (regsOf ["CNT_HALF_LO", "CNT_HALF_HI", "TALLY_STATUS", "TALLY_RING_LEVEL", "TALLY_LOST_CNT", "RULE_VER_STATE", "FDB_STATUS", "FDB_LEARN_DROP_CNT", "BUF_POOL_USED", "BUF_POOL_SHARED", "BUF_STATUS", "BUF_XOFF_POOLS", "BUF_LANDING", "BUF_BAD_FREE_LOC", "BUF_DROP_CNT", "BUF_HEADROOM_CNT", "BUF_REF_LIMIT_CNT", "BUF_BAD_FREE_CNT", "MCAST_MEMBERS_USED", "RING_DEV_INDEX", "SPAN_STATUS", "SPAN_RX_IGNORED_CNT"]) := by
  unfold State.spanData
  generalize hP : ([.ports, .counters, .events, .path, .rules, .fdb, .mcast, .buf, .tally, .host, .pair] : List Part) = P
  generalize hL : (["CNT_HALF_LO", "CNT_HALF_HI", "TALLY_STATUS", "TALLY_RING_LEVEL", "TALLY_LOST_CNT", "RULE_VER_STATE", "FDB_STATUS", "FDB_LEARN_DROP_CNT", "BUF_POOL_USED", "BUF_POOL_SHARED", "BUF_STATUS", "BUF_XOFF_POOLS", "BUF_LANDING", "BUF_BAD_FREE_LOC", "BUF_DROP_CNT", "BUF_HEADROOM_CNT", "BUF_REF_LIMIT_CNT", "BUF_BAD_FREE_CNT", "MCAST_MEMBERS_USED", "RING_DEV_INDEX", "SPAN_STATUS", "SPAN_RX_IGNORED_CNT"] : List String) = L
  repeat (first
    | with_reducible assumption
    | with_reducible exact keep_refl _ _ _
    | ((try lift_lets -underBinder); with_reducible intro y; refine cut_at (A := State.only s y P (regsOf L)) ?_ ?_; on_goal 2 => (intro hy; clear_value y)
       unfold y)
    | ((try lift_lets -underBinder); with_reducible intro y; refine cut_at (A := ∀ u : State, u.only (y u) P (regsOf L)) ?_ ?_; on_goal 2 => (intro hy; clear_value y)
       (intro u; unfold y; beta_reduce))
    | ((try lift_lets -underBinder); with_reducible intro y; clear_value y)
    | with_reducible apply keep_if
    | (with_reducible apply keep_satAdd; on_goal 2 => first | assumption | (with_reducible apply reg_SPAN_RX_IGNORED_CNT_COUNT; simp [← hL]))
    | (with_reducible apply keep_of (frame_countRx ..); on_goal 2 => simp [← hP]
       on_goal 2 => simp [← hL])
    | (with_reducible apply keep_of (frame_count ..); on_goal 2 => simp [← hP]
       on_goal 2 => simp [← hL])
    | (with_reducible apply keep_of (frame_spanAdmit ..); on_goal 2 => simp [← hP]
       on_goal 2 => simp [← hL])
    | with_reducible refine only_then ?_ (‹∀ u : State, State.only u _ _ _› _))

theorem frame_parseEffect (s : State) (off : Nat) (v : Nat) : s.only (parseEffect s off v) [.rules] (regsOf ["PARSE_PROF_CTRL"]) := by
  unfold parseEffect
  generalize hP : ([.rules] : List Part) = P
  generalize hL : (["PARSE_PROF_CTRL"] : List String) = L
  repeat (first
    | with_reducible exact keep_refl _ _ _
    | ((try lift_lets -underBinder); with_reducible intro y; clear_value y)
    | with_reducible apply keep_if
    | (with_reducible apply keep_set; on_goal 2 => first | assumption | (with_reducible apply reg_PARSE_PROF_CTRL_DRAINED; simp [← hL]) | (with_reducible apply reg_PARSE_PROF_CTRL_KEY_BYTES; simp [← hL]))
    | (with_reducible apply keep_off; on_goal 2 => first | assumption | (with_reducible apply reg_PARSE_PROF_CTRL_DRAINED; simp [← hL]) | (with_reducible apply reg_PARSE_PROF_CTRL_KEY_BYTES; simp [← hL]))
    | (fail_if_no_progress (with_reducible apply keep_at_rules; on_goal 2 => simp [← hP])))


end Sys2Proof.Machine
end

