-- ==== Sys2Proof/Laws/ExtentPair.lean ====
section
/-! SUPPORT. What each operation of Pair, Octets and Span may touch: the parts and, at any index, the registers. -/

namespace Sys2Proof.Machine

/-- The state that an applied record gives differs only so far. -/
def State.onlyDone (s : State) (o : Applied) (P : List Part) (m : Keys) : Prop := ∀ t, o = .done t → s.only t P m

theorem done_later {s : State} {P : List Part} {m : Keys} : s.onlyDone .later P m := fun _ h => by simp at h

theorem done_broken {s : State} {P : List Part} {m : Keys} : s.onlyDone .broken P m := fun _ h => by simp at h

theorem done_done {s x : State} {P : List Part} {m : Keys} (h : s.only x P m) : s.onlyDone (.done x) P m :=
  fun _ e => by cases e; exact h

theorem done_of {s x : State} {P Q : List Part} {L M : List String} {o : Applied} (k : x.onlyDone o Q (regsOf M))
    (h : s.only x P (regsOf L)) (hP : ∀ q ∈ Q, q ∈ P) (hL : ∀ r ∈ M, r ∈ L) : s.onlyDone o P (regsOf L) :=
  fun t e => keep_of (k t e) h hP hL

theorem keep_done {s x t : State} {P Q : List Part} {L M : List String} {o : Applied} (e : o = .done t)
    (k : x.onlyDone o Q (regsOf M)) (h : s.only x P (regsOf L)) (hP : ∀ q ∈ Q, q ∈ P) (hL : ∀ r ∈ M, r ∈ L) :
    s.only t P (regsOf L) := keep_of (k t e) h hP hL

theorem frame_syncMismatch (s : State) : s.only (State.syncMismatch s) [.pair] (regsOf []) := by
  unfold State.syncMismatch
  generalize hP : ([.pair] : List Part) = P
  generalize hL : ([] : List String) = L
  repeat (first
    | with_reducible exact keep_refl _ _ _
    | ((try lift_lets -underBinder); with_reducible intro y; clear_value y)
    | (with_reducible apply keep_modPair; on_goal 2 => simp [← hP]))

theorem frame_syncCompare (s : State) : s.only (State.syncCompare s) [.pair] (regsOf []) := by
  unfold State.syncCompare
  generalize hP : ([.pair] : List Part) = P
  generalize hL : ([] : List String) = L
  repeat (first
    | with_reducible exact keep_refl _ _ _
    | with_reducible apply keep_if
    | (with_reducible apply keep_modPair; on_goal 2 => simp [← hP]))

theorem frame_setRole (s : State) (st : Nat) : s.only (State.setRole s st) [.pair] (regsOf ["PAIR_STATUS"]) := by
  unfold State.setRole
  generalize hP : ([.pair] : List Part) = P
  generalize hL : (["PAIR_STATUS"] : List String) = L
  repeat (first
    | with_reducible assumption
    | with_reducible exact keep_refl _ _ _
    | ((try lift_lets -underBinder); with_reducible intro y; refine cut_at (A := State.only s y P (regsOf L)) ?_ ?_; on_goal 2 => (intro hy; clear_value y)
       unfold y)
    | ((try lift_lets -underBinder); with_reducible intro y; clear_value y)
    | with_reducible apply keep_if
    | (with_reducible apply keep_set; on_goal 2 => first | assumption | (with_reducible apply reg_PAIR_STATUS_STATE; simp [← hL]) | (with_reducible apply reg_PAIR_STATUS_HOLD_OUT; simp [← hL]) | (with_reducible apply reg_PAIR_STATUS_ROLE_CHG; simp [← hL]))
    | (with_reducible apply keep_on; on_goal 2 => first | assumption | (with_reducible apply reg_PAIR_STATUS_STATE; simp [← hL]) | (with_reducible apply reg_PAIR_STATUS_HOLD_OUT; simp [← hL]) | (with_reducible apply reg_PAIR_STATUS_ROLE_CHG; simp [← hL]))
    | (with_reducible apply keep_setB; on_goal 2 => first | assumption | (with_reducible apply reg_PAIR_STATUS_STATE; simp [← hL]) | (with_reducible apply reg_PAIR_STATUS_HOLD_OUT; simp [← hL]) | (with_reducible apply reg_PAIR_STATUS_ROLE_CHG; simp [← hL]))
    | (with_reducible apply keep_modPair; on_goal 2 => simp [← hP])
    | (with_reducible apply keep_of (frame_syncCompare ..); on_goal 2 => simp [← hP]
       on_goal 2 => simp [← hL])
    | (with_reducible apply keep_of (frame_syncMismatch ..); on_goal 2 => simp [← hP]
       on_goal 2 => simp [← hL]))

theorem frame_claimRole (s : State) : s.only (State.claimRole s) [.pair] (regsOf ["PAIR_STATUS"]) := by
  unfold State.claimRole
  generalize hP : ([.pair] : List Part) = P
  generalize hL : (["PAIR_STATUS"] : List String) = L
  repeat (first
    | with_reducible exact keep_refl _ _ _
    | ((try lift_lets -underBinder); with_reducible intro y; clear_value y)
    | (with_reducible apply keep_modPair; on_goal 2 => simp [← hP])
    | (with_reducible apply keep_of (frame_setRole ..); on_goal 2 => simp [← hP]
       on_goal 2 => simp [← hL]))

theorem frame_putVerdict (s : State) (cause : Nat) (outcome : Nat) (port : Nat) : s.only (State.putVerdict s cause outcome port) [] (regsOf ["PAIR_VERDICT"]) := by
  unfold State.putVerdict
  generalize hP : ([] : List Part) = P
  generalize hL : (["PAIR_VERDICT"] : List String) = L
  repeat (first
    | with_reducible exact keep_refl _ _ _
    | (with_reducible apply keep_set; on_goal 2 => first | assumption | (with_reducible apply reg_PAIR_VERDICT_CAUSE; simp [← hL]) | (with_reducible apply reg_PAIR_VERDICT_OUTCOME; simp [← hL]) | (with_reducible apply reg_PAIR_VERDICT_PORT; simp [← hL])))

theorem frame_endResync (s : State) (r : CmdRes) : s.only (State.endResync s r) [.events, .reck, .host, .pair] (regsOf ["RING_CFG", "RING_DEV_INDEX"]) := by
  unfold State.endResync
  generalize hP : ([.events, .reck, .host, .pair] : List Part) = P
  generalize hL : (["RING_CFG", "RING_DEV_INDEX"] : List String) = L
  repeat (first
    | with_reducible exact keep_refl _ _ _
    | (with_reducible apply keep_modPair; on_goal 2 => simp [← hP])
    | (with_reducible apply keep_endOwn; on_goal 2 => simp [← hP])
    | (with_reducible apply keep_of (frame_complete ..); on_goal 2 => simp [← hP]
       on_goal 2 => simp [← hL])
    | split)

theorem frame_becomeStale (s : State) : s.only (State.becomeStale s) [.events, .reck, .host, .pair] (regsOf ["RING_CFG", "RING_DEV_INDEX", "PAIR_STATUS"]) := by
  unfold State.becomeStale
  generalize hP : ([.events, .reck, .host, .pair] : List Part) = P
  generalize hL : (["RING_CFG", "RING_DEV_INDEX", "PAIR_STATUS"] : List String) = L
  repeat (first
    | with_reducible exact keep_refl _ _ _
    | (with_reducible apply keep_modPair; on_goal 2 => simp [← hP])
    | (with_reducible apply keep_of (frame_endResync ..); on_goal 2 => simp [← hP]
       on_goal 2 => simp [← hL])
    | (with_reducible apply keep_of (frame_setRole ..); on_goal 2 => simp [← hP]
       on_goal 2 => simp [← hL]))

theorem frame_enterStandby (s : State) : s.only (State.enterStandby s) [.tally, .pair] (regsOf ["TALLY_CTRL", "PAIR_STATUS"]) := by
  unfold State.enterStandby
  generalize hP : ([.tally, .pair] : List Part) = P
  generalize hL : (["TALLY_CTRL", "PAIR_STATUS"] : List String) = L
  repeat (first
    | with_reducible assumption
    | with_reducible exact keep_refl _ _ _
    | ((try lift_lets -underBinder); with_reducible intro y; refine cut_at (A := State.only s y P (regsOf L)) ?_ ?_; on_goal 2 => (intro hy; clear_value y)
       unfold y)
    | with_reducible apply keep_if
    | (with_reducible apply keep_off; on_goal 2 => first | assumption | (with_reducible apply reg_TALLY_CTRL_ENABLE; simp [← hL]))
    | (with_reducible apply keep_modTally; on_goal 2 => simp [← hP])
    | (with_reducible apply keep_of (frame_setRole ..); on_goal 2 => simp [← hP]
       on_goal 2 => simp [← hL]))

theorem frame_takeover (s : State) (cause : Nat) (outcome : Nat) (port : Nat) : s.only (State.takeover s cause outcome port) [.pair] (regsOf ["PAIR_STATUS", "PAIR_VERDICT", "PAIR_TAKEOVER_CNT"]) := by
  unfold State.takeover
  generalize hP : ([.pair] : List Part) = P
  generalize hL : (["PAIR_STATUS", "PAIR_VERDICT", "PAIR_TAKEOVER_CNT"] : List String) = L
  repeat (first
    | with_reducible assumption
    | with_reducible exact keep_refl _ _ _
    | ((try lift_lets -underBinder); with_reducible intro y; refine cut_at (A := State.only s y P (regsOf L)) ?_ ?_; on_goal 2 => (intro hy; clear_value y)
       unfold y)
    | with_reducible apply keep_if
    | (with_reducible apply keep_on; on_goal 2 => first | assumption | (with_reducible apply reg_PAIR_STATUS_BLOCKED; simp [← hL]) | (with_reducible apply reg_PAIR_STATUS_ROLE_CHG; simp [← hL]) | (with_reducible apply reg_PAIR_TAKEOVER_CNT_COUNT; simp [← hL]))
    | (with_reducible apply keep_satAdd; on_goal 2 => first | assumption | (with_reducible apply reg_PAIR_STATUS_BLOCKED; simp [← hL]) | (with_reducible apply reg_PAIR_STATUS_ROLE_CHG; simp [← hL]) | (with_reducible apply reg_PAIR_TAKEOVER_CNT_COUNT; simp [← hL]))
    | (with_reducible apply keep_modPair; on_goal 2 => simp [← hP])
    | (with_reducible apply keep_of (frame_putVerdict ..); on_goal 2 => simp [← hP]
       on_goal 2 => simp [← hL])
    | (with_reducible apply keep_of (frame_claimRole ..); on_goal 2 => simp [← hP]
       on_goal 2 => simp [← hL]))

theorem frame_yieldRole (s : State) (host : Bool) : s.only (State.yieldRole s host) [.pair] (regsOf ["PAIR_STATUS"]) := by
  unfold State.yieldRole
  generalize hP : ([.pair] : List Part) = P
  generalize hL : (["PAIR_STATUS"] : List String) = L
  repeat (first
    | with_reducible assumption
    | with_reducible exact keep_refl _ _ _
    | ((try lift_lets -underBinder); with_reducible intro y; refine cut_at (A := State.only s y P (regsOf L)) ?_ ?_; on_goal 2 => (intro hy; clear_value y)
       unfold y)
    | (with_reducible apply keep_modPair; on_goal 2 => simp [← hP])
    | (with_reducible apply keep_of (frame_setRole ..); on_goal 2 => simp [← hP]
       on_goal 2 => simp [← hL])
    | (with_reducible apply keep_of (frame_mirrorSend ..); on_goal 2 => simp [← hP]
       on_goal 2 => simp [← hL]))

theorem frame_enableTally (s : State) : s.only (State.enableTally s) [.tally] (regsOf ["TALLY_CTRL", "TALLY_STATUS", "TALLY_RING_LEVEL", "TALLY_SEAL_INDEX_LO", "TALLY_SEAL_INDEX_HI"]) := by
  unfold State.enableTally
  generalize hP : ([.tally] : List Part) = P
  generalize hL : (["TALLY_CTRL", "TALLY_STATUS", "TALLY_RING_LEVEL", "TALLY_SEAL_INDEX_LO", "TALLY_SEAL_INDEX_HI"] : List String) = L
  repeat (first
    | with_reducible exact keep_refl _ _ _
    | with_reducible apply keep_if
    | (with_reducible apply keep_on; on_goal 2 => first | assumption | (with_reducible apply reg_TALLY_CTRL_ENABLE; simp [← hL]))
    | (with_reducible apply keep_of (frame_syncTally ..); on_goal 2 => simp [← hP]
       on_goal 2 => simp [← hL])
    | (with_reducible apply keep_of (frame_tallyOn ..); on_goal 2 => simp [← hP]
       on_goal 2 => simp [← hL]))

theorem frame_yieldDone (s : State) : s.only (State.yieldDone s) [.events, .reck, .tally, .host, .pair] (regsOf ["TALLY_CTRL", "TALLY_STATUS", "TALLY_RING_LEVEL", "RING_CFG", "RING_DEV_INDEX", "PAIR_STATUS"]) := by
  unfold State.yieldDone
  generalize hP : ([.events, .reck, .tally, .host, .pair] : List Part) = P
  generalize hL : (["TALLY_CTRL", "TALLY_STATUS", "TALLY_RING_LEVEL", "RING_CFG", "RING_DEV_INDEX", "PAIR_STATUS"] : List String) = L
  repeat (first
    | with_reducible assumption
    | with_reducible exact keep_refl _ _ _
    | ((try lift_lets -underBinder); with_reducible intro y; refine cut_at (A := State.only s y P (regsOf L)) ?_ ?_; on_goal 2 => (intro hy; clear_value y)
       unfold y)
    | ((try lift_lets -underBinder); with_reducible intro y; clear_value y)
    | with_reducible apply keep_if
    | (with_reducible apply keep_off; on_goal 2 => first | assumption | (with_reducible apply reg_TALLY_CTRL_ENABLE; simp [← hL]))
    | (with_reducible apply keep_modPair; on_goal 2 => simp [← hP])
    | (with_reducible apply keep_of (frame_syncTally ..); on_goal 2 => simp [← hP]
       on_goal 2 => simp [← hL])
    | (with_reducible apply keep_of (frame_tallyOff ..); on_goal 2 => simp [← hP]
       on_goal 2 => simp [← hL])
    | (with_reducible apply keep_of (frame_enterStandby ..); on_goal 2 => simp [← hP]
       on_goal 2 => simp [← hL])
    | (with_reducible apply keep_of (frame_becomeStale ..); on_goal 2 => simp [← hP]
       on_goal 2 => simp [← hL]))

theorem frame_yieldRelease (s : State) : s.only (State.yieldRelease s) [.events, .reck, .tally, .host, .pair] (regsOf ["TALLY_CTRL", "TALLY_STATUS", "TALLY_RING_LEVEL", "RING_CFG", "RING_DEV_INDEX", "PAIR_STATUS"]) := by
  unfold State.yieldRelease
  generalize hP : ([.events, .reck, .tally, .host, .pair] : List Part) = P
  generalize hL : (["TALLY_CTRL", "TALLY_STATUS", "TALLY_RING_LEVEL", "RING_CFG", "RING_DEV_INDEX", "PAIR_STATUS"] : List String) = L
  repeat (first
    | with_reducible exact keep_refl _ _ _
    | with_reducible apply keep_if
    | (with_reducible apply keep_of (frame_yieldDone ..); on_goal 2 => simp [← hP]
       on_goal 2 => simp [← hL]))

theorem frame_transmitEnable (s : State) : s.only (State.transmitEnable s) [.pair] (regsOf ["PAIR_STATUS", "PAIR_MIRROR_LEVEL"]) := by
  unfold State.transmitEnable
  generalize hP : ([.pair] : List Part) = P
  generalize hL : (["PAIR_STATUS", "PAIR_MIRROR_LEVEL"] : List String) = L
  repeat (first
    | with_reducible assumption
    | with_reducible exact keep_refl _ _ _
    | ((try lift_lets -underBinder); with_reducible intro y; refine cut_at (A := State.only s y P (regsOf L)) ?_ ?_; on_goal 2 => (intro hy; clear_value y)
       unfold y)
    | ((try lift_lets -underBinder); with_reducible intro y; clear_value y)
    | with_reducible apply keep_if
    | (with_reducible apply keep_set; on_goal 2 => first | assumption | (with_reducible apply reg_PAIR_MIRROR_LEVEL_LEVEL; simp [← hL]))
    | (with_reducible apply keep_modPair; on_goal 2 => simp [← hP])
    | (with_reducible apply keep_of (frame_setRole ..); on_goal 2 => simp [← hP]
       on_goal 2 => simp [← hL]))

theorem frame_holdInChange (s : State) (level : Bool) : s.only (State.holdInChange s level) [.die, .events, .reck, .tally, .host, .pair] (regsOf ["TALLY_CTRL", "TALLY_STATUS", "TALLY_RING_LEVEL", "RING_CFG", "RING_DEV_INDEX", "PAIR_STATUS"]) := by
  unfold State.holdInChange
  generalize hP : ([.die, .events, .reck, .tally, .host, .pair] : List Part) = P
  generalize hL : (["TALLY_CTRL", "TALLY_STATUS", "TALLY_RING_LEVEL", "RING_CFG", "RING_DEV_INDEX", "PAIR_STATUS"] : List String) = L
  repeat (first
    | with_reducible assumption
    | with_reducible exact keep_refl _ _ _
    | ((try lift_lets -underBinder); with_reducible intro y; refine cut_at (A := State.only s y P (regsOf L)) ?_ ?_; on_goal 2 => (intro hy; clear_value y)
       unfold y)
    | ((try lift_lets -underBinder); with_reducible intro y; clear_value y)
    | with_reducible apply keep_if
    | (with_reducible apply keep_on; on_goal 2 => first | assumption | (with_reducible apply reg_PAIR_STATUS_HOLD_FAULT; simp [← hL]) | (with_reducible apply reg_PAIR_STATUS_HOLD_IN; simp [← hL]))
    | (with_reducible apply keep_setB; on_goal 2 => first | assumption | (with_reducible apply reg_PAIR_STATUS_HOLD_FAULT; simp [← hL]) | (with_reducible apply reg_PAIR_STATUS_HOLD_IN; simp [← hL]))
    | (with_reducible apply keep_modPair; on_goal 2 => simp [← hP])
    | (with_reducible apply keep_of (frame_syncMismatch ..); on_goal 2 => simp [← hP]
       on_goal 2 => simp [← hL])
    | (with_reducible apply keep_of (frame_setRole ..); on_goal 2 => simp [← hP]
       on_goal 2 => simp [← hL])
    | (with_reducible apply keep_of (frame_yieldDone ..); on_goal 2 => simp [← hP]
       on_goal 2 => simp [← hL])
    | (with_reducible apply keep_of (frame_claimRole ..); on_goal 2 => simp [← hP]
       on_goal 2 => simp [← hL])
    | (fail_if_no_progress (with_reducible apply keep_at_die; on_goal 2 => simp [← hP])))

theorem frame_holdFaultDetect (s : State) : s.only (State.holdFaultDetect s) [] (regsOf ["PAIR_STATUS"]) := by
  unfold State.holdFaultDetect
  generalize hP : ([] : List Part) = P
  generalize hL : (["PAIR_STATUS"] : List String) = L
  repeat (first
    | with_reducible exact keep_refl _ _ _
    | ((try lift_lets -underBinder); with_reducible intro y; clear_value y)
    | with_reducible apply keep_if
    | (with_reducible apply keep_on; on_goal 2 => first | assumption | (with_reducible apply reg_PAIR_STATUS_HOLD_FAULT; simp [← hL])))

theorem frame_pairEffect (s : State) (off : Nat) (v : Nat) : s.only (pairEffect s off v) [.pair] (regsOf ["PAIR_STATUS", "PAIR_VERDICT"]) := by
  unfold pairEffect
  generalize hP : ([.pair] : List Part) = P
  generalize hL : (["PAIR_STATUS", "PAIR_VERDICT"] : List String) = L
  repeat (first
    | with_reducible exact keep_refl _ _ _
    | with_reducible apply keep_if
    | (with_reducible apply keep_of (frame_claimRole ..); on_goal 2 => simp [← hP]
       on_goal 2 => simp [← hL])
    | (with_reducible apply keep_of (frame_putVerdict ..); on_goal 2 => simp [← hP]
       on_goal 2 => simp [← hL])
    | (with_reducible apply keep_of (frame_yieldRole ..); on_goal 2 => simp [← hP]
       on_goal 2 => simp [← hL]))

theorem frame_mirrorLink (s : State) (c : LinkCond) : s.only (State.mirrorLink s c) [.ports] (regsOf ["PAIR_STATUS"]) := by
  unfold State.mirrorLink
  generalize hP : ([.ports] : List Part) = P
  generalize hL : (["PAIR_STATUS"] : List String) = L
  repeat (first
    | with_reducible assumption
    | with_reducible exact keep_refl _ _ _
    | ((try lift_lets -underBinder); with_reducible intro y; refine cut_at (A := State.only s y P (regsOf L)) ?_ ?_; on_goal 2 => (intro hy; clear_value y)
       unfold y)
    | (with_reducible apply keep_setB; on_goal 2 => first | assumption | (with_reducible apply reg_PAIR_STATUS_LINK_UP; simp [← hL]))
    | (with_reducible apply keep_modPort; on_goal 2 => simp [← hP]))

theorem frame_takeAck (s : State) (ack : Nat) : s.only (State.takeAck s ack) [.pair] (regsOf ["PAIR_MIRROR_LEVEL"]) := by
  unfold State.takeAck
  generalize hP : ([.pair] : List Part) = P
  generalize hL : (["PAIR_MIRROR_LEVEL"] : List String) = L
  repeat (first
    | with_reducible exact keep_refl _ _ _
    | ((try lift_lets -underBinder); with_reducible intro y; clear_value y)
    | with_reducible apply keep_if
    | (with_reducible apply keep_set; on_goal 2 => first | assumption | (with_reducible apply reg_PAIR_MIRROR_LEVEL_LEVEL; simp [← hL]))
    | (with_reducible apply keep_modPair; on_goal 2 => simp [← hP]))

theorem frame_stateResend (s : State) : s.only (State.stateResend s) [.pair] (regsOf ["PAIR_RETX_CNT"]) := by
  unfold State.stateResend
  generalize hP : ([.pair] : List Part) = P
  generalize hL : (["PAIR_RETX_CNT"] : List String) = L
  repeat (first
    | with_reducible assumption
    | with_reducible exact keep_refl _ _ _
    | ((try lift_lets -underBinder); with_reducible intro y; refine cut_at (A := State.only s y P (regsOf L)) ?_ ?_; on_goal 2 => (intro hy; clear_value y)
       unfold y)
    | with_reducible apply keep_if
    | with_reducible refine keep_foldl ?_ (fun u a => ?_)
    | (with_reducible apply keep_satAdd; on_goal 2 => first | assumption | (with_reducible apply reg_PAIR_RETX_CNT_COUNT; simp [← hL]))
    | (with_reducible apply keep_modPair; on_goal 2 => simp [← hP])
    | (with_reducible apply keep_of (frame_mirrorSend ..); on_goal 2 => simp [← hP]
       on_goal 2 => simp [← hL]))

theorem frame_applyFdb (s : State) (b : List Byte) : s.onlyDone (State.applyFdb s b) [.fdb] (regsOf ["FDB_STATUS", "FDB_USED", "FDB_PARITY_LOC", "FDB_PARITY_CNT"]) := by
  unfold State.applyFdb
  generalize hP : ([.fdb] : List Part) = P
  generalize hL : (["FDB_STATUS", "FDB_USED", "FDB_PARITY_LOC", "FDB_PARITY_CNT"] : List String) = L
  repeat (first
    | with_reducible exact keep_refl _ _ _
    | with_reducible exact done_broken
    | with_reducible apply done_done
    | with_reducible refine keep_triple (by assumption) ?_
    | ((try lift_lets -underBinder); with_reducible intro y; clear_value y)
    | (have hz := ‹State.fdbMake _ _ = (some _, _)›; with_reducible apply keep_opt (congrArg Prod.fst hz) (frame_fdbMake_some ..); on_goal 2 => simp [← hP]
       on_goal 2 => simp [← hL])
    | (with_reducible apply keep_of (frame_fdbAccess ..); on_goal 2 => simp [← hP]
       on_goal 2 => simp [← hL])
    | (with_reducible apply keep_of (frame_fdbPut ..); on_goal 2 => simp [← hP]
       on_goal 2 => simp [← hL])
    | split)

theorem frame_placePrefix (v0 : Nat) (v1 : LpmEntry) (s : State) : s.onlyIf (placePrefix v0 v1 s) [.reck, .lpm] (regsOf ["LPM_STATUS", "LPM_USED", "LPM_V4_COUNT", "LPM_V6_COUNT", "LPM_PARITY_LOC", "LPM_PARITY_CNT"]) := by
  induction v0 generalizing v1 s with
  | zero =>
    unfold placePrefix
    generalize hP : ([.reck, .lpm] : List Part) = P
    generalize hL : (["LPM_STATUS", "LPM_USED", "LPM_V4_COUNT", "LPM_V6_COUNT", "LPM_PARITY_LOC", "LPM_PARITY_CNT"] : List String) = L
    repeat (first
      | with_reducible exact try_none)
  | succ j ih =>
    unfold placePrefix
    generalize hP : ([.reck, .lpm] : List Part) = P
    generalize hL : (["LPM_STATUS", "LPM_USED", "LPM_V4_COUNT", "LPM_V6_COUNT", "LPM_PARITY_LOC", "LPM_PARITY_CNT"] : List String) = L
    repeat (first
      | with_reducible exact keep_refl _ _ _
      | (dsimp -zeta only)
      | with_reducible exact try_none
      | with_reducible apply try_some
      | (with_reducible apply try_of (ih ..); on_goal 2 => simp [← hP]
         on_goal 2 => simp [← hL])
      | (with_reducible apply keep_of (frame_lpmPlace ..); on_goal 2 => simp [← hP]
         on_goal 2 => simp [← hL])
      | split)

theorem frame_applyLpm (s : State) (b : List Byte) : s.onlyDone (State.applyLpm s b) [.reck, .lpm] (regsOf ["LPM_STATUS", "LPM_USED", "LPM_V4_COUNT", "LPM_V6_COUNT", "LPM_PARITY_LOC", "LPM_PARITY_CNT"]) := by
  unfold State.applyLpm
  generalize hP : ([.reck, .lpm] : List Part) = P
  generalize hL : (["LPM_STATUS", "LPM_USED", "LPM_V4_COUNT", "LPM_V6_COUNT", "LPM_PARITY_LOC", "LPM_PARITY_CNT"] : List String) = L
  repeat (first
    | with_reducible exact keep_refl _ _ _
    | with_reducible exact done_broken
    | with_reducible apply done_done
    | with_reducible refine keep_triple (by assumption) ?_
    | ((try lift_lets -underBinder); with_reducible intro y; clear_value y)
    | (with_reducible apply keep_of (frame_lpmAccess ..); on_goal 2 => simp [← hP]
       on_goal 2 => simp [← hL])
    | (with_reducible apply keep_of (frame_lpmPut ..); on_goal 2 => simp [← hP]
       on_goal 2 => simp [← hL])
    | (with_reducible apply keep_opt (by assumption) (frame_placePrefix ..); on_goal 2 => simp [← hP]
       on_goal 2 => simp [← hL])
    | split)

theorem frame_applyOpen (s : State) (b : List Byte) : s.onlyDone (State.applyOpen s b) [.flow] (regsOf ["FLOW_USED"]) := by
  unfold State.applyOpen
  generalize hP : ([.flow] : List Part) = P
  generalize hL : (["FLOW_USED"] : List String) = L
  repeat (first
    | with_reducible exact keep_refl _ _ _
    | with_reducible exact done_broken
    | with_reducible apply done_done
    | ((try lift_lets -underBinder); with_reducible intro y; clear_value y)
    | (with_reducible apply keep_of (frame_setContexts ..); on_goal 2 => simp [← hP]
       on_goal 2 => simp [← hL])
    | split)

theorem frame_applyContext (s : State) (b : List Byte) (close : Bool) : s.onlyDone (State.applyContext s b close) [.flow] (regsOf ["FLOW_USED"]) := by
  unfold State.applyContext
  generalize hP : ([.flow] : List Part) = P
  generalize hL : (["FLOW_USED"] : List String) = L
  repeat (first
    | with_reducible exact keep_refl _ _ _
    | with_reducible exact done_broken
    | with_reducible apply done_done
    | (with_reducible apply keep_modFlow; on_goal 2 => simp [← hP])
    | (with_reducible apply keep_of (frame_uncache ..); on_goal 2 => simp [← hP]
       on_goal 2 => simp [← hL])
    | (with_reducible apply keep_of (frame_setContexts ..); on_goal 2 => simp [← hP]
       on_goal 2 => simp [← hL])
    | split)

theorem frame_applyCommit (s : State) : s.onlyDone (State.applyCommit s) [.rules, .pair] (regsOf ["RULE_STATUS", "RULE_VER_STATE", "RULE_VER_NUM", "RULE_STORE_USED", "RULE_STAGE_STATUS", "PAIR_MIRROR_LEVEL"]) := by
  unfold State.applyCommit
  generalize hP : ([.rules, .pair] : List Part) = P
  generalize hL : (["RULE_STATUS", "RULE_VER_STATE", "RULE_VER_NUM", "RULE_STORE_USED", "RULE_STAGE_STATUS", "PAIR_MIRROR_LEVEL"] : List String) = L
  repeat (first
    | with_reducible exact keep_refl _ _ _
    | with_reducible exact done_later
    | with_reducible apply done_done
    | (with_reducible apply keep_of (frame_commitSwitch ..); on_goal 2 => simp [← hP]
       on_goal 2 => simp [← hL])
    | split)

theorem frame_applyGates (s : State) (b : List Byte) : s.only (State.applyGates s b) [.tm] (regsOf ["TM_GATE_STATUS"]) := by
  unfold State.applyGates
  generalize hP : ([.tm] : List Part) = P
  generalize hL : (["TM_GATE_STATUS"] : List String) = L
  repeat (first
    | with_reducible exact keep_refl _ _ _
    | (with_reducible apply keep_of (frame_gateListStart ..); on_goal 2 => simp [← hP]
       on_goal 2 => simp [← hL])
    | (with_reducible apply keep_of (frame_putCommit ..); on_goal 2 => simp [← hP]
       on_goal 2 => simp [← hL]))

theorem frame_applyTable (s : State) (op : Nat) (b : List Byte) : s.onlyDone (State.applyTable s op b) [.reck, .rules, .fdb, .lpm, .flow, .mcast, .tm, .tally, .pair, .span] (regsOf ["RULE_STATUS", "RULE_VER_STATE", "RULE_VER_NUM", "RULE_STORE_USED", "RULE_STAGE_STATUS", "FDB_STATUS", "FDB_USED", "FDB_PARITY_LOC", "FDB_PARITY_CNT", "LPM_STATUS", "LPM_USED", "LPM_V4_COUNT", "LPM_V6_COUNT", "LPM_PARITY_LOC", "LPM_PARITY_CNT", "FLOW_USED", "MCAST_MEMBERS_USED", "TM_GATE_STATUS", "PAIR_MIRROR_LEVEL"]) := by
  unfold State.applyTable
  generalize hP : ([.reck, .rules, .fdb, .lpm, .flow, .mcast, .tm, .tally, .pair, .span] : List Part) = P
  generalize hL : (["RULE_STATUS", "RULE_VER_STATE", "RULE_VER_NUM", "RULE_STORE_USED", "RULE_STAGE_STATUS", "FDB_STATUS", "FDB_USED", "FDB_PARITY_LOC", "FDB_PARITY_CNT", "LPM_STATUS", "LPM_USED", "LPM_V4_COUNT", "LPM_V6_COUNT", "LPM_PARITY_LOC", "LPM_PARITY_CNT", "FLOW_USED", "MCAST_MEMBERS_USED", "TM_GATE_STATUS", "PAIR_MIRROR_LEVEL"] : List String) = L
  repeat (first
    | with_reducible assumption
    | with_reducible exact keep_refl _ _ _
    | with_reducible exact done_broken
    | with_reducible apply done_done
    | (with_reducible apply done_of (frame_applyCommit ..); on_goal 2 => simp [← hP]
       on_goal 2 => simp [← hL])
    | (with_reducible apply done_of (frame_applyFdb ..); on_goal 2 => simp [← hP]
       on_goal 2 => simp [← hL])
    | (with_reducible apply done_of (frame_applyLpm ..); on_goal 2 => simp [← hP]
       on_goal 2 => simp [← hL])
    | (with_reducible apply done_of (frame_applyOpen ..); on_goal 2 => simp [← hP]
       on_goal 2 => simp [← hL])
    | (with_reducible apply done_of (frame_applyContext ..); on_goal 2 => simp [← hP]
       on_goal 2 => simp [← hL])
    | with_reducible refine keep_triple (by assumption) ?_
    | ((try lift_lets -underBinder); with_reducible intro y; refine cut_at (A := State.only s y.2 P (regsOf L)) ?_ ?_; on_goal 2 => (intro hy; clear_value y)
       unfold y)
    | (with_reducible apply keep_modTally; on_goal 2 => simp [← hP])
    | (with_reducible apply keep_of (frame_coreRuleStage ..); on_goal 2 => simp [← hP]
       on_goal 2 => simp [← hL])
    | (with_reducible apply keep_of (frame_putComparator ..); on_goal 2 => simp [← hP]
       on_goal 2 => simp [← hL])
    | (with_reducible apply keep_of (frame_fdbAccess ..); on_goal 2 => simp [← hP]
       on_goal 2 => simp [← hL])
    | (with_reducible apply keep_of (frame_fdbRemove ..); on_goal 2 => simp [← hP]
       on_goal 2 => simp [← hL])
    | (with_reducible apply keep_of (frame_lpmAccess ..); on_goal 2 => simp [← hP]
       on_goal 2 => simp [← hL])
    | (with_reducible apply keep_of (frame_lpmRemove ..); on_goal 2 => simp [← hP]
       on_goal 2 => simp [← hL])
    | (with_reducible apply keep_of (frame_putMembers ..); on_goal 2 => simp [← hP]
       on_goal 2 => simp [← hL])
    | (with_reducible apply keep_of (frame_putPolicer ..); on_goal 2 => simp [← hP]
       on_goal 2 => simp [← hL])
    | (with_reducible apply keep_of (frame_putShaper ..); on_goal 2 => simp [← hP]
       on_goal 2 => simp [← hL])
    | (with_reducible apply keep_of (frame_putGates ..); on_goal 2 => simp [← hP]
       on_goal 2 => simp [← hL])
    | (with_reducible apply keep_of (frame_applyGates ..); on_goal 2 => simp [← hP]
       on_goal 2 => simp [← hL])
    | (with_reducible apply keep_of (frame_dropCommit ..); on_goal 2 => simp [← hP]
       on_goal 2 => simp [← hL])
    | (with_reducible apply keep_of (frame_writeHead ..); on_goal 2 => simp [← hP]
       on_goal 2 => simp [← hL])
    | split)

theorem frame_recordReceive (s : State) (frame : List Byte) (fcsOk : Bool) : s.only (State.recordReceive s frame fcsOk) [.events, .reck, .rules, .fdb, .lpm, .flow, .mcast, .tm, .tally, .host, .pair, .span] (regsOf ["TALLY_CTRL", "TALLY_STATUS", "TALLY_RING_LEVEL", "TALLY_SEAL_INDEX_LO", "TALLY_SEAL_INDEX_HI", "RULE_STATUS", "RULE_VER_STATE", "RULE_VER_NUM", "RULE_STORE_USED", "RULE_STAGE_STATUS", "FDB_STATUS", "FDB_USED", "FDB_PARITY_LOC", "FDB_PARITY_CNT", "LPM_STATUS", "LPM_USED", "LPM_V4_COUNT", "LPM_V6_COUNT", "LPM_PARITY_LOC", "LPM_PARITY_CNT", "FLOW_USED", "MCAST_MEMBERS_USED", "TM_GATE_STATUS", "RING_CFG", "RING_DEV_INDEX", "PAIR_STATUS", "PAIR_MIRROR_LEVEL"]) := by
  unfold State.recordReceive
  generalize hP : ([.events, .reck, .rules, .fdb, .lpm, .flow, .mcast, .tm, .tally, .host, .pair, .span] : List Part) = P
  generalize hL : (["TALLY_CTRL", "TALLY_STATUS", "TALLY_RING_LEVEL", "TALLY_SEAL_INDEX_LO", "TALLY_SEAL_INDEX_HI", "RULE_STATUS", "RULE_VER_STATE", "RULE_VER_NUM", "RULE_STORE_USED", "RULE_STAGE_STATUS", "FDB_STATUS", "FDB_USED", "FDB_PARITY_LOC", "FDB_PARITY_CNT", "LPM_STATUS", "LPM_USED", "LPM_V4_COUNT", "LPM_V6_COUNT", "LPM_PARITY_LOC", "LPM_PARITY_CNT", "FLOW_USED", "MCAST_MEMBERS_USED", "TM_GATE_STATUS", "RING_CFG", "RING_DEV_INDEX", "PAIR_STATUS", "PAIR_MIRROR_LEVEL"] : List String) = L
  repeat (first
    | with_reducible assumption
    | with_reducible exact keep_refl _ _ _
    | ((try lift_lets -underBinder); with_reducible intro y; refine cut_at (A := State.only s y P (regsOf L)) ?_ ?_; on_goal 2 => (intro hy; clear_value y)
       unfold y)
    | ((try lift_lets -underBinder); with_reducible intro y; clear_value y)
    | with_reducible apply keep_if
    | (with_reducible apply keep_modPair; on_goal 2 => simp [← hP])
    | (with_reducible apply keep_of (frame_takeAck ..); on_goal 2 => simp [← hP]
       on_goal 2 => simp [← hL])
    | (with_reducible apply keep_done (by assumption) (frame_applyTable ..); on_goal 2 => simp [← hP]
       on_goal 2 => simp [← hL])
    | (with_reducible apply keep_of (frame_becomeStale ..); on_goal 2 => simp [← hP]
       on_goal 2 => simp [← hL])
    | (with_reducible apply keep_of (frame_enableTally ..); on_goal 2 => simp [← hP]
       on_goal 2 => simp [← hL])
    | split)

theorem frame_itemCheck (s : State) (w : Nat × List Byte) : s.only (State.itemCheck s w) [.fdb, .lpm] (regsOf ["FDB_STATUS", "FDB_USED", "FDB_PARITY_LOC", "FDB_PARITY_CNT", "LPM_STATUS", "LPM_USED", "LPM_V4_COUNT", "LPM_V6_COUNT", "LPM_PARITY_LOC", "LPM_PARITY_CNT"]) := by
  unfold State.itemCheck
  generalize hP : ([.fdb, .lpm] : List Part) = P
  generalize hL : (["FDB_STATUS", "FDB_USED", "FDB_PARITY_LOC", "FDB_PARITY_CNT", "LPM_STATUS", "LPM_USED", "LPM_V4_COUNT", "LPM_V6_COUNT", "LPM_PARITY_LOC", "LPM_PARITY_CNT"] : List String) = L
  repeat (first
    | with_reducible exact keep_refl _ _ _
    | (with_reducible apply keep_of (frame_fdbAccess ..); on_goal 2 => simp [← hP]
       on_goal 2 => simp [← hL])
    | (with_reducible apply keep_of (frame_lpmAccess ..); on_goal 2 => simp [← hP]
       on_goal 2 => simp [← hL])
    | split)

theorem frame_bulkSend (v0 : Nat) (s : State) : s.only (bulkSend v0 s) [.fdb, .lpm, .pair] (regsOf ["FDB_STATUS", "FDB_USED", "FDB_PARITY_LOC", "FDB_PARITY_CNT", "LPM_STATUS", "LPM_USED", "LPM_V4_COUNT", "LPM_V6_COUNT", "LPM_PARITY_LOC", "LPM_PARITY_CNT", "PAIR_MIRROR_LEVEL"]) := by
  induction v0 generalizing s with
  | zero =>
    unfold bulkSend
    generalize hP : ([.fdb, .lpm, .pair] : List Part) = P
    generalize hL : (["FDB_STATUS", "FDB_USED", "FDB_PARITY_LOC", "FDB_PARITY_CNT", "LPM_STATUS", "LPM_USED", "LPM_V4_COUNT", "LPM_V6_COUNT", "LPM_PARITY_LOC", "LPM_PARITY_CNT", "PAIR_MIRROR_LEVEL"] : List String) = L
    repeat (first
      | with_reducible exact keep_refl _ _ _)
  | succ j ih =>
    unfold bulkSend
    generalize hP : ([.fdb, .lpm, .pair] : List Part) = P
    generalize hL : (["FDB_STATUS", "FDB_USED", "FDB_PARITY_LOC", "FDB_PARITY_CNT", "LPM_STATUS", "LPM_USED", "LPM_V4_COUNT", "LPM_V6_COUNT", "LPM_PARITY_LOC", "LPM_PARITY_CNT", "PAIR_MIRROR_LEVEL"] : List String) = L
    repeat (first
      | with_reducible assumption
      | with_reducible exact keep_refl _ _ _
      | ((try lift_lets -underBinder); with_reducible intro y; refine cut_at (A := State.only s y P (regsOf L)) ?_ ?_; on_goal 2 => (intro hy; clear_value y)
         unfold y)
      | with_reducible apply keep_if
      | with_reducible refine keep_foldl ?_ (fun u a => ?_)
      | (with_reducible apply keep_modPair; on_goal 2 => simp [← hP])
      | (with_reducible apply keep_of (ih ..); on_goal 2 => simp [← hP]
         on_goal 2 => simp [← hL])
      | (with_reducible apply keep_of (frame_itemCheck ..); on_goal 2 => simp [← hP]
         on_goal 2 => simp [← hL])
      | (with_reducible apply keep_of (frame_sendRecord ..); on_goal 2 => simp [← hP]
         on_goal 2 => simp [← hL])
      | split)

theorem frame_startResync (s : State) : s.only (State.startResync s) [.reck, .pair] (regsOf ["PAIR_MIRROR_LEVEL"]) := by
  unfold State.startResync
  generalize hP : ([.reck, .pair] : List Part) = P
  generalize hL : (["PAIR_MIRROR_LEVEL"] : List String) = L
  repeat (first
    | with_reducible assumption
    | with_reducible exact keep_refl _ _ _
    | ((try lift_lets -underBinder); with_reducible intro y; refine cut_at (A := State.only s y P (regsOf L)) ?_ ?_; on_goal 2 => (intro hy; clear_value y)
       unfold y)
    | (with_reducible apply keep_set; on_goal 2 => first | assumption | (with_reducible apply reg_PAIR_MIRROR_LEVEL_LEVEL; simp [← hL]))
    | (with_reducible apply keep_modPair; on_goal 2 => simp [← hP])
    | (with_reducible apply keep_request; on_goal 2 => simp [← hP]))

theorem frame_endBulk (s : State) : s.only (State.endBulk s) [.reck, .pair] (regsOf []) := by
  unfold State.endBulk
  generalize hP : ([.reck, .pair] : List Part) = P
  generalize hL : ([] : List String) = L
  repeat (first
    | with_reducible exact keep_refl _ _ _
    | (with_reducible apply keep_modPair; on_goal 2 => simp [← hP])
    | (with_reducible apply keep_endRoutine; on_goal 2 => simp [← hP]))

theorem frame_clearRules (s : State) : s.only (State.clearRules s) [.rules] (regsOf ["RULE_STORE_USED", "RULE_STAGE_STATUS"]) := by
  unfold State.clearRules
  generalize hP : ([.rules] : List Part) = P
  generalize hL : (["RULE_STORE_USED", "RULE_STAGE_STATUS"] : List String) = L
  repeat (first
    | with_reducible exact keep_refl _ _ _
    | ((try lift_lets -underBinder); with_reducible intro y; clear_value y)
    | (with_reducible apply keep_of (frame_sweepEntries ..); on_goal 2 => simp [← hP]
       on_goal 2 => simp [← hL])
    | (fail_if_no_progress (with_reducible apply keep_at_rules; on_goal 2 => simp [← hP])))

theorem frame_clearContexts (s : State) : s.only (State.clearContexts s) [.flow] (regsOf ["FLOW_USED"]) := by
  unfold State.clearContexts
  generalize hP : ([.flow] : List Part) = P
  generalize hL : (["FLOW_USED"] : List String) = L
  repeat (first
    | with_reducible exact keep_refl _ _ _
    | (with_reducible apply keep_modFlow; on_goal 2 => simp [← hP])
    | (with_reducible apply keep_of (frame_setContexts ..); on_goal 2 => simp [← hP]
       on_goal 2 => simp [← hL]))

theorem frame_clearGroups (s : State) : s.only (State.clearGroups s) [.mcast, .span] (regsOf ["MCAST_MEMBERS_USED"]) := by
  unfold State.clearGroups
  generalize hP : ([.mcast, .span] : List Part) = P
  generalize hL : (["MCAST_MEMBERS_USED"] : List String) = L
  repeat (first
    | with_reducible assumption
    | with_reducible exact keep_refl _ _ _
    | ((try lift_lets -underBinder); with_reducible intro y; refine cut_at (A := State.only s y P (regsOf L)) ?_ ?_; on_goal 2 => (intro hy; clear_value y)
       unfold y)
    | ((try lift_lets -underBinder); with_reducible intro y; clear_value y)
    | with_reducible refine keep_foldl ?_ (fun u a => ?_)
    | (with_reducible apply keep_of (frame_putMembers ..); on_goal 2 => simp [← hP]
       on_goal 2 => simp [← hL])
    | (fail_if_no_progress (with_reducible apply keep_at_mcast; on_goal 2 => simp [← hP])))

theorem frame_clearTables (s : State) : s.only (State.clearTables s) [.rules, .fdb, .lpm, .flow, .mcast, .tm, .span] (regsOf ["RULE_STORE_USED", "RULE_STAGE_STATUS", "FDB_USED", "LPM_USED", "LPM_V4_COUNT", "LPM_V6_COUNT", "FLOW_USED", "MCAST_MEMBERS_USED", "TM_GATE_STATUS"]) := by
  unfold State.clearTables
  generalize hP : ([.rules, .fdb, .lpm, .flow, .mcast, .tm, .span] : List Part) = P
  generalize hL : (["RULE_STORE_USED", "RULE_STAGE_STATUS", "FDB_USED", "LPM_USED", "LPM_V4_COUNT", "LPM_V6_COUNT", "FLOW_USED", "MCAST_MEMBERS_USED", "TM_GATE_STATUS"] : List String) = L
  repeat (first
    | with_reducible assumption
    | with_reducible exact keep_refl _ _ _
    | ((try lift_lets -underBinder); with_reducible intro y; refine cut_at (A := State.only s y P (regsOf L)) ?_ ?_; on_goal 2 => (intro hy; clear_value y)
       unfold y)
    | with_reducible refine keep_foldl ?_ (fun u a => ?_)
    | (with_reducible apply keep_modTm; on_goal 2 => simp [← hP])
    | (with_reducible apply keep_of (frame_clearGroups ..); on_goal 2 => simp [← hP]
       on_goal 2 => simp [← hL])
    | (with_reducible apply keep_of (frame_clearContexts ..); on_goal 2 => simp [← hP]
       on_goal 2 => simp [← hL])
    | (with_reducible apply keep_of (frame_setLpm ..); on_goal 2 => simp [← hP]
       on_goal 2 => simp [← hL])
    | (with_reducible apply keep_of (frame_setFdb ..); on_goal 2 => simp [← hP]
       on_goal 2 => simp [← hL])
    | (with_reducible apply keep_of (frame_clearRules ..); on_goal 2 => simp [← hP]
       on_goal 2 => simp [← hL])
    | (with_reducible apply keep_of (frame_syncGate ..); on_goal 2 => simp [← hP]
       on_goal 2 => simp [← hL])
    | (with_reducible apply keep_of (frame_setGate ..); on_goal 2 => simp [← hP]
       on_goal 2 => simp [← hL]))

theorem frame_pairResync (s : State) (c : CmdIn) : s.only (State.pairResync s c) [.events, .reck, .rules, .fdb, .lpm, .flow, .mcast, .tm, .host, .pair, .span] (regsOf ["RULE_STORE_USED", "RULE_STAGE_STATUS", "FDB_USED", "LPM_USED", "LPM_V4_COUNT", "LPM_V6_COUNT", "FLOW_USED", "MCAST_MEMBERS_USED", "TM_GATE_STATUS", "RING_CFG", "RING_DEV_INDEX", "PAIR_STATUS"]) := by
  unfold State.pairResync
  generalize hP : ([.events, .reck, .rules, .fdb, .lpm, .flow, .mcast, .tm, .host, .pair, .span] : List Part) = P
  generalize hL : (["RULE_STORE_USED", "RULE_STAGE_STATUS", "FDB_USED", "LPM_USED", "LPM_V4_COUNT", "LPM_V6_COUNT", "FLOW_USED", "MCAST_MEMBERS_USED", "TM_GATE_STATUS", "RING_CFG", "RING_DEV_INDEX", "PAIR_STATUS"] : List String) = L
  repeat (first
    | with_reducible exact keep_refl _ _ _
    | ((try lift_lets -underBinder); with_reducible intro y; refine cut_at (A := ∀ a, State.only s (y a) P (regsOf L)) ?_ ?_; on_goal 2 => (intro hy; clear_value y)
       (intro a; unfold y; beta_reduce))
    | ((try lift_lets -underBinder); with_reducible intro y; clear_value y)
    | with_reducible apply keep_if
    | (with_reducible apply keep_modPair; on_goal 2 => simp [← hP])
    | (with_reducible apply keep_endOwn; on_goal 2 => simp [← hP])
    | (with_reducible apply keep_of (frame_complete ..); on_goal 2 => simp [← hP]
       on_goal 2 => simp [← hL])
    | (with_reducible apply keep_of (frame_setRole ..); on_goal 2 => simp [← hP]
       on_goal 2 => simp [← hL])
    | (with_reducible apply keep_of (frame_clearTables ..); on_goal 2 => simp [← hP]
       on_goal 2 => simp [← hL])
    | with_reducible exact (‹∀ (_ : _), State.only _ _ P _› _)
    | split)

theorem frame_resyncComplete (s : State) : s.only (State.resyncComplete s) [.events, .reck, .fdb, .lpm, .tally, .host, .pair] (regsOf ["TALLY_CTRL", "FDB_STATUS", "FDB_USED", "FDB_PARITY_LOC", "FDB_PARITY_CNT", "LPM_STATUS", "LPM_USED", "LPM_V4_COUNT", "LPM_V6_COUNT", "LPM_PARITY_LOC", "LPM_PARITY_CNT", "RING_CFG", "RING_DEV_INDEX", "PAIR_STATUS", "PAIR_MIRROR_LEVEL"]) := by
  unfold State.resyncComplete
  generalize hP : ([.events, .reck, .fdb, .lpm, .tally, .host, .pair] : List Part) = P
  generalize hL : (["TALLY_CTRL", "FDB_STATUS", "FDB_USED", "FDB_PARITY_LOC", "FDB_PARITY_CNT", "LPM_STATUS", "LPM_USED", "LPM_V4_COUNT", "LPM_V6_COUNT", "LPM_PARITY_LOC", "LPM_PARITY_CNT", "RING_CFG", "RING_DEV_INDEX", "PAIR_STATUS", "PAIR_MIRROR_LEVEL"] : List String) = L
  repeat (first
    | with_reducible exact keep_refl _ _ _
    | ((try lift_lets -underBinder); with_reducible intro y; clear_value y)
    | with_reducible apply keep_if
    | (with_reducible apply keep_of (frame_endBulk ..); on_goal 2 => simp [← hP]
       on_goal 2 => simp [← hL])
    | (with_reducible apply keep_of (frame_bulkSend ..); on_goal 2 => simp [← hP]
       on_goal 2 => simp [← hL])
    | (with_reducible apply keep_of (frame_endResync ..); on_goal 2 => simp [← hP]
       on_goal 2 => simp [← hL])
    | (with_reducible apply keep_of (frame_enterStandby ..); on_goal 2 => simp [← hP]
       on_goal 2 => simp [← hL])
    | split)

theorem frame_heartbeatSend (s : State) : s.only (State.heartbeatSend s) [.pair] (regsOf []) := by
  unfold State.heartbeatSend
  generalize hP : ([.pair] : List Part) = P
  generalize hL : ([] : List String) = L
  repeat (first
    | with_reducible exact keep_refl _ _ _
    | with_reducible apply keep_if
    | (with_reducible apply keep_of (frame_mirrorSend ..); on_goal 2 => simp [← hP]
       on_goal 2 => simp [← hL]))

theorem frame_notePeer (s : State) (b : List Byte) : s.only (State.notePeer s b) [.pair] (regsOf ["PAIR_PEER", "PAIR_PEER_ID_LO", "PAIR_PEER_ID_HI"]) := by
  unfold State.notePeer
  generalize hP : ([.pair] : List Part) = P
  generalize hL : (["PAIR_PEER", "PAIR_PEER_ID_LO", "PAIR_PEER_ID_HI"] : List String) = L
  repeat (first
    | with_reducible assumption
    | with_reducible exact keep_refl _ _ _
    | ((try lift_lets -underBinder); with_reducible intro y; refine cut_at (A := State.only s y P (regsOf L)) ?_ ?_; on_goal 2 => (intro hy; clear_value y)
       unfold y)
    | ((try lift_lets -underBinder); with_reducible intro y; clear_value y)
    | (with_reducible apply keep_set; on_goal 2 => first | assumption | (with_reducible apply reg_PAIR_PEER_ID_LO_ID; simp [← hL]) | (with_reducible apply reg_PAIR_PEER_ID_HI_ID; simp [← hL]) | (with_reducible apply reg_PAIR_PEER_STATE; simp [← hL]) | (with_reducible apply reg_PAIR_PEER_SENIOR; simp [← hL]) | (with_reducible apply reg_PAIR_PEER_TAKE_UNEXPLAINED; simp [← hL]))
    | (with_reducible apply keep_setB; on_goal 2 => first | assumption | (with_reducible apply reg_PAIR_PEER_ID_LO_ID; simp [← hL]) | (with_reducible apply reg_PAIR_PEER_ID_HI_ID; simp [← hL]) | (with_reducible apply reg_PAIR_PEER_STATE; simp [← hL]) | (with_reducible apply reg_PAIR_PEER_SENIOR; simp [← hL]) | (with_reducible apply reg_PAIR_PEER_TAKE_UNEXPLAINED; simp [← hL]))
    | (with_reducible apply keep_modPair; on_goal 2 => simp [← hP]))

theorem frame_heartbeatReceive (s : State) (frame : List Byte) (fcsOk : Bool) : s.only (State.heartbeatReceive s frame fcsOk) [.events, .reck, .host, .pair] (regsOf ["RING_CFG", "RING_DEV_INDEX", "PAIR_STATUS", "PAIR_PEER", "PAIR_PEER_ID_LO", "PAIR_PEER_ID_HI", "PAIR_MIRROR_LEVEL"]) := by
  unfold State.heartbeatReceive
  generalize hP : ([.events, .reck, .host, .pair] : List Part) = P
  generalize hL : (["RING_CFG", "RING_DEV_INDEX", "PAIR_STATUS", "PAIR_PEER", "PAIR_PEER_ID_LO", "PAIR_PEER_ID_HI", "PAIR_MIRROR_LEVEL"] : List String) = L
  repeat (first
    | with_reducible assumption
    | with_reducible exact keep_refl _ _ _
    | ((try lift_lets -underBinder); with_reducible intro y; refine cut_at (A := State.only s y P (regsOf L)) ?_ ?_; on_goal 2 => (intro hy; clear_value y)
       unfold y)
    | ((try lift_lets -underBinder); with_reducible intro y; clear_value y)
    | with_reducible apply keep_if
    | (with_reducible apply keep_on; on_goal 2 => first | assumption | (with_reducible apply reg_PAIR_STATUS_HOLD_FAULT; simp [← hL]))
    | (with_reducible apply keep_of (frame_syncCompare ..); on_goal 2 => simp [← hP]
       on_goal 2 => simp [← hL])
    | (with_reducible apply keep_of (frame_syncMismatch ..); on_goal 2 => simp [← hP]
       on_goal 2 => simp [← hL])
    | (with_reducible apply keep_of (frame_notePeer ..); on_goal 2 => simp [← hP]
       on_goal 2 => simp [← hL])
    | (with_reducible apply keep_of (frame_takeAck ..); on_goal 2 => simp [← hP]
       on_goal 2 => simp [← hL])
    | (with_reducible apply keep_of (frame_becomeStale ..); on_goal 2 => simp [← hP]
       on_goal 2 => simp [← hL])
    | (with_reducible apply keep_of (frame_startResync ..); on_goal 2 => simp [← hP]
       on_goal 2 => simp [← hL])
    | (with_reducible apply keep_of (frame_endBulk ..); on_goal 2 => simp [← hP]
       on_goal 2 => simp [← hL])
    | (with_reducible apply keep_of (frame_breakStream ..); on_goal 2 => simp [← hP]
       on_goal 2 => simp [← hL])
    | split)

theorem frame_heartbeatLoss (s : State) : s.only (State.heartbeatLoss s) [.events, .reck, .host, .pair] (regsOf ["RING_CFG", "RING_DEV_INDEX", "PAIR_STATUS", "PAIR_VERDICT", "PAIR_MIRROR_LEVEL", "PAIR_TAKEOVER_CNT"]) := by
  unfold State.heartbeatLoss
  generalize hP : ([.events, .reck, .host, .pair] : List Part) = P
  generalize hL : (["RING_CFG", "RING_DEV_INDEX", "PAIR_STATUS", "PAIR_VERDICT", "PAIR_MIRROR_LEVEL", "PAIR_TAKEOVER_CNT"] : List String) = L
  repeat (first
    | with_reducible assumption
    | with_reducible exact keep_refl _ _ _
    | ((try lift_lets -underBinder); with_reducible intro y; refine cut_at (A := State.only s y P (regsOf L)) ?_ ?_; on_goal 2 => (intro hy; clear_value y)
       unfold y)
    | ((try lift_lets -underBinder); with_reducible intro y; clear_value y)
    | with_reducible apply keep_if
    | (with_reducible apply keep_on; on_goal 2 => first | assumption | (with_reducible apply reg_PAIR_STATUS_HB_LOST; simp [← hL]))
    | (with_reducible apply keep_modPair; on_goal 2 => simp [← hP])
    | (with_reducible apply keep_of (frame_endBulk ..); on_goal 2 => simp [← hP]
       on_goal 2 => simp [← hL])
    | (with_reducible apply keep_of (frame_breakStream ..); on_goal 2 => simp [← hP]
       on_goal 2 => simp [← hL])
    | (with_reducible apply keep_of (frame_becomeStale ..); on_goal 2 => simp [← hP]
       on_goal 2 => simp [← hL])
    | (with_reducible apply keep_of (frame_takeover ..); on_goal 2 => simp [← hP]
       on_goal 2 => simp [← hL]))

theorem frame_handoffReceive (s : State) (frame : List Byte) (fcsOk : Bool) : s.only (State.handoffReceive s frame fcsOk) [.pair] (regsOf ["PAIR_STATUS", "PAIR_VERDICT", "PAIR_MIRROR_LEVEL", "PAIR_TAKEOVER_CNT"]) := by
  unfold State.handoffReceive
  generalize hP : ([.pair] : List Part) = P
  generalize hL : (["PAIR_STATUS", "PAIR_VERDICT", "PAIR_MIRROR_LEVEL", "PAIR_TAKEOVER_CNT"] : List String) = L
  repeat (first
    | with_reducible assumption
    | with_reducible exact keep_refl _ _ _
    | ((try lift_lets -underBinder); with_reducible intro y; refine cut_at (A := State.only s y P (regsOf L)) ?_ ?_; on_goal 2 => (intro hy; clear_value y)
       unfold y)
    | with_reducible apply keep_if
    | (with_reducible apply keep_modPair; on_goal 2 => simp [← hP])
    | (with_reducible apply keep_of (frame_takeAck ..); on_goal 2 => simp [← hP]
       on_goal 2 => simp [← hL])
    | (with_reducible apply keep_of (frame_takeover ..); on_goal 2 => simp [← hP]
       on_goal 2 => simp [← hL])
    | split)

theorem frame_peerRelease (s : State) : s.only (State.peerRelease s) [.pair] (regsOf ["PAIR_STATUS", "PAIR_VERDICT", "PAIR_TAKEOVER_CNT"]) := by
  unfold State.peerRelease
  generalize hP : ([.pair] : List Part) = P
  generalize hL : (["PAIR_STATUS", "PAIR_VERDICT", "PAIR_TAKEOVER_CNT"] : List String) = L
  repeat (first
    | with_reducible exact keep_refl _ _ _
    | with_reducible apply keep_if
    | (with_reducible apply keep_of (frame_takeover ..); on_goal 2 => simp [← hP]
       on_goal 2 => simp [← hL]))

theorem frame_takeoverLapse (s : State) : s.only (State.takeoverLapse s) [.events, .reck, .host, .pair] (regsOf ["RING_CFG", "RING_DEV_INDEX", "PAIR_STATUS"]) := by
  unfold State.takeoverLapse
  generalize hP : ([.events, .reck, .host, .pair] : List Part) = P
  generalize hL : (["RING_CFG", "RING_DEV_INDEX", "PAIR_STATUS"] : List String) = L
  repeat (first
    | with_reducible exact keep_refl _ _ _
    | ((try lift_lets -underBinder); with_reducible intro y; clear_value y)
    | with_reducible apply keep_if
    | (with_reducible apply keep_of (frame_becomeStale ..); on_goal 2 => simp [← hP]
       on_goal 2 => simp [← hL])
    | split)

theorem frame_followTimeout (s : State) : s.only (State.followTimeout s) [.tally, .pair] (regsOf ["TALLY_CTRL", "TALLY_STATUS", "TALLY_RING_LEVEL", "TALLY_SEAL_INDEX_LO", "TALLY_SEAL_INDEX_HI"]) := by
  unfold State.followTimeout
  generalize hP : ([.tally, .pair] : List Part) = P
  generalize hL : (["TALLY_CTRL", "TALLY_STATUS", "TALLY_RING_LEVEL", "TALLY_SEAL_INDEX_LO", "TALLY_SEAL_INDEX_HI"] : List String) = L
  repeat (first
    | with_reducible exact keep_refl _ _ _
    | with_reducible apply keep_if
    | (with_reducible apply keep_modPair; on_goal 2 => simp [← hP])
    | (with_reducible apply keep_of (frame_enableTally ..); on_goal 2 => simp [← hP]
       on_goal 2 => simp [← hL]))

theorem frame_digestSend (s : State) : s.only (State.digestSend s) [.pair] (regsOf []) := by
  unfold State.digestSend
  generalize hP : ([.pair] : List Part) = P
  generalize hL : ([] : List String) = L
  repeat (first
    | with_reducible assumption
    | with_reducible exact keep_refl _ _ _
    | ((try lift_lets -underBinder); with_reducible intro y; refine cut_at (A := State.only s y P (regsOf L)) ?_ ?_; on_goal 2 => (intro hy; clear_value y)
       unfold y)
    | ((try lift_lets -underBinder); with_reducible intro y; clear_value y)
    | with_reducible apply keep_if
    | with_reducible refine keep_foldl ?_ (fun u a => ?_)
    | (with_reducible apply keep_modPair; on_goal 2 => simp [← hP])
    | (with_reducible apply keep_of (frame_mirrorSend ..); on_goal 2 => simp [← hP]
       on_goal 2 => simp [← hL]))

theorem frame_comparePort (w : Nat) (p : Nat) (theirs : Nat) (r : State × List (Nat × Nat)) : r.1.only (State.comparePort w p theirs r).1 [.pair] (regsOf ["PAIR_SHIFT_CNT"]) := by
  obtain ⟨s, l⟩ := r
  dsimp only
  unfold State.comparePort
  generalize hP : ([.pair] : List Part) = P
  generalize hL : (["PAIR_SHIFT_CNT"] : List String) = L
  repeat (first
    | with_reducible assumption
    | with_reducible exact keep_refl _ _ _
    | (dsimp -zeta only)
    | ((try lift_lets -underBinder); with_reducible intro y; refine cut_at (A := State.only s y P (regsOf L)) ?_ ?_; on_goal 2 => (intro hy; clear_value y)
       unfold y)
    | ((try lift_lets -underBinder); with_reducible intro y; clear_value y)
    | (with_reducible apply keep_satAdd; on_goal 2 => first | assumption | (with_reducible apply reg_PAIR_SHIFT_CNT_COUNT; simp [← hL]))
    | (with_reducible apply keep_modPair; on_goal 2 => simp [← hP])
    | split)

theorem frame_mismatch (s : State) (port : Nat) (w : Nat) : s.only (State.mismatch s port w) [.events, .reck, .host, .pair] (regsOf ["RING_CFG", "RING_DEV_INDEX", "PAIR_STATUS", "PAIR_VERDICT", "PAIR_VERDICT_WIN", "PAIR_TAKEOVER_CNT"]) := by
  unfold State.mismatch
  generalize hP : ([.events, .reck, .host, .pair] : List Part) = P
  generalize hL : (["RING_CFG", "RING_DEV_INDEX", "PAIR_STATUS", "PAIR_VERDICT", "PAIR_VERDICT_WIN", "PAIR_TAKEOVER_CNT"] : List String) = L
  repeat (first
    | with_reducible assumption
    | with_reducible exact keep_refl _ _ _
    | ((try lift_lets -underBinder); with_reducible intro y; refine cut_at (A := State.only s y P (regsOf L)) ?_ ?_; on_goal 2 => (intro hy; clear_value y)
       unfold y)
    | ((try lift_lets -underBinder); with_reducible intro y; clear_value y)
    | with_reducible apply keep_if
    | (with_reducible apply keep_set; on_goal 2 => first | assumption | (with_reducible apply reg_PAIR_STATUS_MISMATCH; simp [← hL]) | (with_reducible apply reg_PAIR_VERDICT_WIN_WINDOW; simp [← hL]))
    | (with_reducible apply keep_on; on_goal 2 => first | assumption | (with_reducible apply reg_PAIR_STATUS_MISMATCH; simp [← hL]) | (with_reducible apply reg_PAIR_VERDICT_WIN_WINDOW; simp [← hL]))
    | (with_reducible apply keep_of (frame_putVerdict ..); on_goal 2 => simp [← hP]
       on_goal 2 => simp [← hL])
    | (with_reducible apply keep_of (frame_yieldRole ..); on_goal 2 => simp [← hP]
       on_goal 2 => simp [← hL])
    | (with_reducible apply keep_of (frame_takeover ..); on_goal 2 => simp [← hP]
       on_goal 2 => simp [← hL])
    | (with_reducible apply keep_of (frame_becomeStale ..); on_goal 2 => simp [← hP]
       on_goal 2 => simp [← hL]))

theorem frame_windowCompare (s : State) (w : Nat) (peer : List DigestFrame) : s.only (State.windowCompare s w peer) [.events, .reck, .host, .pair] (regsOf ["RING_CFG", "RING_DEV_INDEX", "PAIR_STATUS", "PAIR_VERDICT", "PAIR_VERDICT_WIN", "PAIR_MISMATCH_CNT", "PAIR_SHIFT_CNT", "PAIR_TAKEOVER_CNT"]) := by
  unfold State.windowCompare
  generalize hP : ([.events, .reck, .host, .pair] : List Part) = P
  generalize hL : (["RING_CFG", "RING_DEV_INDEX", "PAIR_STATUS", "PAIR_VERDICT", "PAIR_VERDICT_WIN", "PAIR_MISMATCH_CNT", "PAIR_SHIFT_CNT", "PAIR_TAKEOVER_CNT"] : List String) = L
  repeat (first
    | with_reducible assumption
    | with_reducible exact keep_refl _ _ _
    | ((try lift_lets -underBinder); with_reducible intro y; refine cut_at (A := State.only s y.1 P (regsOf L)) ?_ ?_; on_goal 2 => (intro hy; clear_value y)
       unfold y)
    | ((try lift_lets -underBinder); with_reducible intro y; refine cut_at (A := State.only s y P (regsOf L)) ?_ ?_; on_goal 2 => (intro hy; clear_value y)
       unfold y)
    | ((try lift_lets -underBinder); with_reducible intro y; clear_value y)
    | with_reducible apply keep_if
    | with_reducible refine keep_foldlf ?_ (fun u a => ?_)
    | (with_reducible apply keep_satAdd; on_goal 2 => first | assumption | (with_reducible apply reg_PAIR_MISMATCH_CNT_COUNT; simp [← hL]))
    | (with_reducible apply keep_modPair; on_goal 2 => simp [← hP])
    | (with_reducible apply keep_of (frame_comparePort ..); on_goal 2 => simp [← hP]
       on_goal 2 => simp [← hL])
    | (with_reducible apply keep_of (frame_mismatch ..); on_goal 2 => simp [← hP]
       on_goal 2 => simp [← hL])
    | split)

theorem frame_calLost (s : State) (lanes : List Nat) : s.only (State.calLost s lanes) [] (regsOf ["STAMP_PORT_STATUS"]) := by
  unfold State.calLost
  generalize hP : ([] : List Part) = P
  generalize hL : (["STAMP_PORT_STATUS"] : List String) = L
  repeat (first
    | with_reducible exact keep_refl _ _ _
    | with_reducible refine keep_foldl ?_ (fun u a => ?_)
    | (with_reducible apply keep_off; on_goal 2 => first | assumption | (with_reducible apply reg_STAMP_PORT_STATUS_CAL_VALID; simp [← hL])))

theorem frame_syncSpan (s : State) : s.only (State.syncSpan s) [] (regsOf ["SPAN_STATUS"]) := by
  unfold State.syncSpan
  generalize hP : ([] : List Part) = P
  generalize hL : (["SPAN_STATUS"] : List String) = L
  repeat (first
    | with_reducible exact keep_refl _ _ _
    | (with_reducible apply keep_set; on_goal 2 => first | assumption | (with_reducible apply reg_SPAN_STATUS_PORTS_UP; simp [← hL])))

theorem frame_spanControlSend (s : State) (p : Nat) : s.only (State.spanControlSend s p) [.ports, .counters, .pair, .span] (regsOf ["CNT_HALF_LO", "CNT_HALF_HI"]) := by
  unfold State.spanControlSend
  generalize hP : ([.ports, .counters, .pair, .span] : List Part) = P
  generalize hL : (["CNT_HALF_LO", "CNT_HALF_HI"] : List String) = L
  repeat (first
    | with_reducible assumption
    | with_reducible exact keep_refl _ _ _
    | ((try lift_lets -underBinder); with_reducible intro y; refine cut_at (A := State.only s y P (regsOf L)) ?_ ?_; on_goal 2 => (intro hy; clear_value y)
       unfold y)
    | ((try lift_lets -underBinder); with_reducible intro y; clear_value y)
    | with_reducible apply keep_if
    | (with_reducible apply keep_of (frame_putOut ..); on_goal 2 => simp [← hP]
       on_goal 2 => simp [← hL])
    | (with_reducible apply keep_of (frame_countTx ..); on_goal 2 => simp [← hP]
       on_goal 2 => simp [← hL])
    | (fail_if_no_progress (with_reducible apply keep_at_span; on_goal 2 => simp [← hP])))

theorem frame_spanControlReceive (s : State) (p : Nat) (b : List Byte) (fcsOk : Bool) : s.only (State.spanControlReceive s p b fcsOk) [.counters, .pair, .span] (regsOf ["CNT_HALF_LO", "CNT_HALF_HI", "SPAN_STATUS", "SPAN_TIME_DIFF"]) := by
  unfold State.spanControlReceive
  generalize hP : ([.counters, .pair, .span] : List Part) = P
  generalize hL : (["CNT_HALF_LO", "CNT_HALF_HI", "SPAN_STATUS", "SPAN_TIME_DIFF"] : List String) = L
  repeat (first
    | with_reducible assumption
    | with_reducible exact keep_refl _ _ _
    | ((try lift_lets -underBinder); with_reducible intro y; refine cut_at (A := State.only s y P (regsOf L)) ?_ ?_; on_goal 2 => (intro hy; clear_value y)
       unfold y)
    | ((try lift_lets -underBinder); with_reducible intro y; clear_value y)
    | with_reducible apply keep_if
    | (with_reducible apply keep_set; on_goal 2 => first | assumption | (with_reducible apply reg_SPAN_TIME_DIFF_DIFF; simp [← hL]) | (with_reducible apply reg_SPAN_STATUS_PEER_ACTIVE; simp [← hL]))
    | (with_reducible apply keep_putBit; on_goal 2 => first | assumption | (with_reducible apply reg_SPAN_TIME_DIFF_DIFF; simp [← hL]) | (with_reducible apply reg_SPAN_STATUS_PEER_ACTIVE; simp [← hL]))
    | (with_reducible apply keep_of (frame_countRx ..); on_goal 2 => simp [← hP]
       on_goal 2 => simp [← hL])
    | (with_reducible apply keep_of (frame_count ..); on_goal 2 => simp [← hP]
       on_goal 2 => simp [← hL])
    | (fail_if_no_progress (with_reducible apply keep_at_span; on_goal 2 => simp [← hP])))


end Sys2Proof.Machine
end

