-- ==== Sys2Proof/Laws/ExtentSystem.lean ====
section
/-! SUPPORT. What each operation of Power, Startup, Observe, Recovery, RegAccess and HostLink may touch: the parts and, at any index, the registers. -/

namespace Sys2Proof.Machine

theorem frame_showStart (s : State) : s.only (State.showStart s) [] (regsOf ["SYS_STRAP", "SYS_RESET_CAUSE", "TALLY_MRAM_RETIRED", "SEC_LIFECYCLE", "SEC_DEVICE_ID_LO", "SEC_DEVICE_ID_HI", "PAIR_STATUS"]) := by
  unfold State.showStart
  generalize hP : ([] : List Part) = P
  generalize hL : (["SYS_STRAP", "SYS_RESET_CAUSE", "TALLY_MRAM_RETIRED", "SEC_LIFECYCLE", "SEC_DEVICE_ID_LO", "SEC_DEVICE_ID_HI", "PAIR_STATUS"] : List String) = L
  repeat (first
    | with_reducible assumption
    | with_reducible exact keep_refl _ _ _
    | ((try lift_lets -underBinder); with_reducible intro y; refine cut_at (A := State.only s y P (regsOf L)) ?_ ?_; on_goal 2 => (intro hy; clear_value y)
       unfold y)
    | ((try lift_lets -underBinder); with_reducible intro y; clear_value y)
    | (with_reducible apply keep_set; on_goal 2 => first | assumption | (with_reducible apply reg_PAIR_STATUS_STATE; simp [← hL]) | (with_reducible apply reg_PAIR_STATUS_HOLD_IN; simp [← hL]) | (with_reducible apply reg_SYS_RESET_CAUSE_CAUSE; simp [← hL]) | (with_reducible apply reg_TALLY_MRAM_RETIRED_RETIRED; simp [← hL]) | (with_reducible apply reg_SYS_STRAP_SENIOR; simp [← hL]) | (with_reducible apply reg_SYS_STRAP_PAIR_EN; simp [← hL]) | (with_reducible apply reg_SYS_STRAP_BOARD_POS; simp [← hL]) | (with_reducible apply reg_SYS_STRAP_TEST_EN; simp [← hL]))
    | (with_reducible apply keep_setB; on_goal 2 => first | assumption | (with_reducible apply reg_PAIR_STATUS_STATE; simp [← hL]) | (with_reducible apply reg_PAIR_STATUS_HOLD_IN; simp [← hL]) | (with_reducible apply reg_SYS_RESET_CAUSE_CAUSE; simp [← hL]) | (with_reducible apply reg_TALLY_MRAM_RETIRED_RETIRED; simp [← hL]) | (with_reducible apply reg_SYS_STRAP_SENIOR; simp [← hL]) | (with_reducible apply reg_SYS_STRAP_PAIR_EN; simp [← hL]) | (with_reducible apply reg_SYS_STRAP_BOARD_POS; simp [← hL]) | (with_reducible apply reg_SYS_STRAP_TEST_EN; simp [← hL]))
    | (with_reducible apply keep_of (frame_syncFuses ..); on_goal 2 => simp [← hP]
       on_goal 2 => simp [← hL]))

theorem frame_fallHeads (s : State) : s.only (State.fallHeads s) [.tally, .dram, .sec, .pair] (regsOf ["TALLY_STATUS", "TALLY_RING_LEVEL", "TALLY_SEAL_INDEX_LO", "TALLY_SEAL_INDEX_HI", "TALLY_MRAM_RETIRED", "DRAM_STATUS", "DRAM_ROW_GUARD_CNT", "PAIR_MIRROR_LEVEL"]) := by
  unfold State.fallHeads
  generalize hP : ([.tally, .dram, .sec, .pair] : List Part) = P
  generalize hL : (["TALLY_STATUS", "TALLY_RING_LEVEL", "TALLY_SEAL_INDEX_LO", "TALLY_SEAL_INDEX_HI", "TALLY_MRAM_RETIRED", "DRAM_STATUS", "DRAM_ROW_GUARD_CNT", "PAIR_MIRROR_LEVEL"] : List String) = L
  repeat (first
    | with_reducible exact keep_refl _ _ _
    | ((try lift_lets -underBinder); with_reducible intro y; clear_value y)
    | with_reducible apply keep_if
    | (with_reducible apply keep_modTally; on_goal 2 => simp [← hP])
    | (with_reducible apply keep_modSec; on_goal 2 => simp [← hP])
    | (with_reducible apply keep_of (frame_completeSeals ..); on_goal 2 => simp [← hP]
       on_goal 2 => simp [← hL]))

theorem frame_strapCompare (s : State) (pins : Straps) : s.only (State.strapCompare s pins) [.die] (regsOf ["SYS_STRAP"]) := by
  unfold State.strapCompare
  generalize hP : ([.die] : List Part) = P
  generalize hL : (["SYS_STRAP"] : List String) = L
  repeat (first
    | with_reducible assumption
    | with_reducible exact keep_refl _ _ _
    | ((try lift_lets -underBinder); with_reducible intro y; refine cut_at (A := State.only s y P (regsOf L)) ?_ ?_; on_goal 2 => (intro hy; clear_value y)
       unfold y)
    | ((try lift_lets -underBinder); with_reducible intro y; clear_value y)
    | with_reducible apply keep_if
    | (with_reducible apply keep_on; on_goal 2 => first | assumption | (with_reducible apply reg_SYS_STRAP_CHANGED; simp [← hL]))
    | (fail_if_no_progress (with_reducible apply keep_at_die; on_goal 2 => simp [← hP])))

theorem frame_flagSupplies (s : State) : s.only (State.flagSupplies s) [] (regsOf ["SYS_SUPPLY_FLAGS"]) := by
  refine keep_foldl_mem (keep_refl ..) fun u a ha => keep_if (keep_on _ (keep_refl ..) ?_) (keep_refl ..)
  have h : a.1 ∈ supplyBits := (List.of_mem_zip ha).1
  simp only [supplyBits, List.mem_cons, List.not_mem_nil, or_false] at h
  rcases h with h | h | h | h | h | h | h | h | h <;> rw [h] <;>
    exact regsOf_mem 0 (List.findIdx (fun r : RegFam => r.name == "SYS_SUPPLY_FLAGS") famsPage0) 0 0 _ .w1c rfl (by simp) (by simp)

theorem frame_supplyCheck (s : State) (outside : Nat) : s.only (State.supplyCheck s outside) [.die] (regsOf ["SYS_SUPPLY_FLAGS"]) := by
  unfold State.supplyCheck
  generalize hP : ([.die] : List Part) = P
  generalize hL : (["SYS_SUPPLY_FLAGS"] : List String) = L
  repeat (first
    | with_reducible exact keep_refl _ _ _
    | ((try lift_lets -underBinder); with_reducible intro y; clear_value y)
    | (with_reducible apply keep_of (frame_flagSupplies ..); on_goal 2 => simp [← hP]
       on_goal 2 => simp [← hL])
    | (fail_if_no_progress (with_reducible apply keep_at_die; on_goal 2 => simp [← hP])))

theorem frame_coreSpeed (s : State) (mt : Nat) : s.only (State.coreSpeed s mt) [.die] (regsOf ["SYS_CORE_SPEED"]) := by
  unfold State.coreSpeed
  generalize hP : ([.die] : List Part) = P
  generalize hL : (["SYS_CORE_SPEED"] : List String) = L
  repeat (first
    | with_reducible assumption
    | with_reducible exact keep_refl _ _ _
    | ((try lift_lets -underBinder); with_reducible intro y; refine cut_at (A := State.only s y P (regsOf L)) ?_ ?_; on_goal 2 => (intro hy; clear_value y)
       unfold y)
    | ((try lift_lets -underBinder); with_reducible intro y; clear_value y)
    | (with_reducible apply keep_set; on_goal 2 => first | assumption | (with_reducible apply reg_SYS_CORE_SPEED_MIN_MT; simp [← hL]) | (with_reducible apply reg_SYS_CORE_SPEED_NOW_MT; simp [← hL]))
    | (fail_if_no_progress (with_reducible apply keep_at_die; on_goal 2 => simp [← hP])))

theorem frame_rejudge (s : State) (group : Nat) : s.only (State.rejudge s group) [.ports, .counters, .pair] (regsOf ["MAC_PORT_STATUS", "MAC_PORT_EVT", "CNT_HALF_LO", "CNT_HALF_HI", "STAMP_PORT_STATUS"]) := by
  unfold State.rejudge
  generalize hP : ([.ports, .counters, .pair] : List Part) = P
  generalize hL : (["MAC_PORT_STATUS", "MAC_PORT_EVT", "CNT_HALF_LO", "CNT_HALF_HI", "STAMP_PORT_STATUS"] : List String) = L
  repeat (first
    | with_reducible exact keep_refl _ _ _
    | ((try lift_lets -underBinder); with_reducible intro y; clear_value y)
    | with_reducible apply keep_if
    | with_reducible refine keep_foldl ?_ (fun u a => ?_)
    | (with_reducible apply keep_of (frame_linkChange ..); on_goal 2 => simp [← hP]
       on_goal 2 => simp [← hL]))

theorem frame_trefLost (s : State) (d : Nat) : s.only (State.trefLost s d) [.time] (regsOf ["SYS_CLK_STATUS", "TIME_DOM_CTRL", "TIME_DOM_PHASE_LEFT", "TIME_DOM_STATUS", "TIME_PRES_STATUS"]) := by
  unfold State.trefLost
  generalize hP : ([.time] : List Part) = P
  generalize hL : (["SYS_CLK_STATUS", "TIME_DOM_CTRL", "TIME_DOM_PHASE_LEFT", "TIME_DOM_STATUS", "TIME_PRES_STATUS"] : List String) = L
  repeat (first
    | with_reducible assumption
    | with_reducible exact keep_refl _ _ _
    | ((try lift_lets -underBinder); with_reducible intro y; refine cut_at (A := State.only s y P (regsOf L)) ?_ ?_; on_goal 2 => (intro hy; clear_value y)
       unfold y)
    | with_reducible apply keep_if
    | (with_reducible apply keep_on; on_goal 2 => first | assumption | (with_reducible apply reg_TIME_DOM_STATUS_UNLOCK_TREF; simp [← hL]) | (with_reducible apply reg_SYS_CLK_STATUS_DOMB_OK; simp [← hL]) | (with_reducible apply reg_SYS_CLK_STATUS_DOMB_LOST; simp [← hL]) | (with_reducible apply reg_SYS_CLK_STATUS_DOMA_OK; simp [← hL]) | (with_reducible apply reg_SYS_CLK_STATUS_DOMA_LOST; simp [← hL]))
    | (with_reducible apply keep_off; on_goal 2 => first | assumption | (with_reducible apply reg_TIME_DOM_STATUS_UNLOCK_TREF; simp [← hL]) | (with_reducible apply reg_SYS_CLK_STATUS_DOMB_OK; simp [← hL]) | (with_reducible apply reg_SYS_CLK_STATUS_DOMB_LOST; simp [← hL]) | (with_reducible apply reg_SYS_CLK_STATUS_DOMA_OK; simp [← hL]) | (with_reducible apply reg_SYS_CLK_STATUS_DOMA_LOST; simp [← hL]))
    | (with_reducible apply keep_unlock; on_goal 2 => (first | (with_reducible apply reg_TIME_DOM_STATUS_UNLOCK_TREF; simp [← hL]) | (with_reducible apply reg_SYS_CLK_STATUS_DOMB_OK; simp [← hL]) | (with_reducible apply reg_SYS_CLK_STATUS_DOMB_LOST; simp [← hL]) | (with_reducible apply reg_SYS_CLK_STATUS_DOMA_OK; simp [← hL]) | (with_reducible apply reg_SYS_CLK_STATUS_DOMA_LOST; simp [← hL]))
       on_goal 2 => (simp [← hP])
       on_goal 2 => (simp [← hL])))

theorem frame_refLost (s : State) (i : RefInput) : s.only (State.refLost s i) [.die, .time, .ports, .counters, .reck, .pair] (regsOf ["SYS_CLK_STATUS", "SYS_CLK_LANE_OK", "SYS_CLK_LANE_LOST", "MAC_PORT_STATUS", "MAC_PORT_EVT", "CNT_HALF_LO", "CNT_HALF_HI", "TIME_DOM_CTRL", "TIME_DOM_PHASE_LEFT", "TIME_DOM_STATUS", "TIME_PRES_STATUS", "STAMP_PORT_STATUS"]) := by
  unfold State.refLost
  generalize hP : ([.die, .time, .ports, .counters, .reck, .pair] : List Part) = P
  generalize hL : (["SYS_CLK_STATUS", "SYS_CLK_LANE_OK", "SYS_CLK_LANE_LOST", "MAC_PORT_STATUS", "MAC_PORT_EVT", "CNT_HALF_LO", "CNT_HALF_HI", "TIME_DOM_CTRL", "TIME_DOM_PHASE_LEFT", "TIME_DOM_STATUS", "TIME_PRES_STATUS", "STAMP_PORT_STATUS"] : List String) = L
  repeat (first
    | with_reducible assumption
    | with_reducible exact keep_refl _ _ _
    | ((try lift_lets -underBinder); with_reducible intro y; refine cut_at (A := State.only s y P (regsOf L)) ?_ ?_; on_goal 2 => (intro hy; clear_value y)
       unfold y)
    | ((try lift_lets -underBinder); with_reducible intro y; clear_value y)
    | (with_reducible apply keep_on; on_goal 2 => first | assumption | (with_reducible apply reg_SYS_CLK_STATUS_CORE_OK; simp [← hL]) | (with_reducible apply reg_SYS_CLK_STATUS_CORE_LOST; simp [← hL]) | (with_reducible apply reg_SYS_CLK_STATUS_ON_OSC; simp [← hL]) | (with_reducible apply reg_SYS_CLK_LANE_OK_GROUP_OK; simp [← hL]) | (with_reducible apply reg_SYS_CLK_LANE_LOST_GROUP_LOST; simp [← hL]))
    | (with_reducible apply keep_off; on_goal 2 => first | assumption | (with_reducible apply reg_SYS_CLK_STATUS_CORE_OK; simp [← hL]) | (with_reducible apply reg_SYS_CLK_STATUS_CORE_LOST; simp [← hL]) | (with_reducible apply reg_SYS_CLK_STATUS_ON_OSC; simp [← hL]) | (with_reducible apply reg_SYS_CLK_LANE_OK_GROUP_OK; simp [← hL]) | (with_reducible apply reg_SYS_CLK_LANE_LOST_GROUP_LOST; simp [← hL]))
    | (with_reducible apply keep_putBit; on_goal 2 => first | assumption | (with_reducible apply reg_SYS_CLK_STATUS_CORE_OK; simp [← hL]) | (with_reducible apply reg_SYS_CLK_STATUS_CORE_LOST; simp [← hL]) | (with_reducible apply reg_SYS_CLK_STATUS_ON_OSC; simp [← hL]) | (with_reducible apply reg_SYS_CLK_LANE_OK_GROUP_OK; simp [← hL]) | (with_reducible apply reg_SYS_CLK_LANE_LOST_GROUP_LOST; simp [← hL]))
    | (with_reducible apply keep_of (frame_rejudge ..); on_goal 2 => simp [← hP]
       on_goal 2 => simp [← hL])
    | (with_reducible apply keep_of (frame_dropPorts ..); on_goal 2 => simp [← hP]
       on_goal 2 => simp [← hL])
    | (with_reducible apply keep_of (frame_trefLost ..); on_goal 2 => simp [← hP]
       on_goal 2 => simp [← hL])
    | (fail_if_no_progress (with_reducible apply keep_at_die; on_goal 2 => simp [← hP]))
    | split)

theorem frame_refGood (s : State) (i : RefInput) (rate : Int) : s.only (State.refGood s i rate) [.time, .ports, .counters, .pair] (regsOf ["SYS_CLK_STATUS", "SYS_CLK_LANE_OK", "MAC_PORT_STATUS", "MAC_PORT_EVT", "CNT_HALF_LO", "CNT_HALF_HI", "STAMP_PORT_STATUS"]) := by
  unfold State.refGood
  generalize hP : ([.time, .ports, .counters, .pair] : List Part) = P
  generalize hL : (["SYS_CLK_STATUS", "SYS_CLK_LANE_OK", "MAC_PORT_STATUS", "MAC_PORT_EVT", "CNT_HALF_LO", "CNT_HALF_HI", "STAMP_PORT_STATUS"] : List String) = L
  repeat (first
    | with_reducible exact keep_refl _ _ _
    | ((try lift_lets -underBinder); with_reducible intro y; clear_value y)
    | (with_reducible apply keep_on; on_goal 2 => first | assumption | (with_reducible apply reg_SYS_CLK_STATUS_DOMB_OK; simp [← hL]) | (with_reducible apply reg_SYS_CLK_STATUS_DOMA_OK; simp [← hL]) | (with_reducible apply reg_SYS_CLK_STATUS_CORE_OK; simp [← hL]) | (with_reducible apply reg_SYS_CLK_LANE_OK_GROUP_OK; simp [← hL]))
    | (with_reducible apply keep_putBit; on_goal 2 => first | assumption | (with_reducible apply reg_SYS_CLK_STATUS_DOMB_OK; simp [← hL]) | (with_reducible apply reg_SYS_CLK_STATUS_DOMA_OK; simp [← hL]) | (with_reducible apply reg_SYS_CLK_STATUS_CORE_OK; simp [← hL]) | (with_reducible apply reg_SYS_CLK_LANE_OK_GROUP_OK; simp [← hL]))
    | (with_reducible apply keep_of (frame_rejudge ..); on_goal 2 => simp [← hP]
       on_goal 2 => simp [← hL])
    | (fail_if_no_progress (with_reducible apply keep_at_time; on_goal 2 => simp [← hP]))
    | split)

theorem frame_modPlat (s : State) (f : PlatSt → PlatSt) : s.only (State.modPlat s f) [.plat] (regsOf []) := by
  unfold State.modPlat
  generalize hP : ([.plat] : List Part) = P
  generalize hL : ([] : List String) = L
  repeat (first
    | with_reducible exact keep_refl _ _ _
    | (fail_if_no_progress (with_reducible apply keep_at_plat; on_goal 2 => simp [← hP])))

theorem frame_bootFailed (s : State) (reason : Nat) : s.only (State.bootFailed s reason) [.reck] (regsOf ["SYS_START_STATUS", "RCK_ENG_STATUS", "SEC_BOOT"]) := by
  unfold State.bootFailed
  generalize hP : ([.reck] : List Part) = P
  generalize hL : (["SYS_START_STATUS", "RCK_ENG_STATUS", "SEC_BOOT"] : List String) = L
  repeat (first
    | with_reducible exact keep_refl _ _ _
    | (with_reducible apply keep_set; on_goal 2 => first | assumption | (with_reducible apply reg_SEC_BOOT_STATE; simp [← hL]) | (with_reducible apply reg_SEC_BOOT_REASON; simp [← hL]) | (with_reducible apply reg_SYS_START_STATUS_FAILED; simp [← hL]))
    | (with_reducible apply keep_on; on_goal 2 => first | assumption | (with_reducible apply reg_SEC_BOOT_STATE; simp [← hL]) | (with_reducible apply reg_SEC_BOOT_REASON; simp [← hL]) | (with_reducible apply reg_SYS_START_STATUS_FAILED; simp [← hL]))
    | (with_reducible apply keep_endRoutine; on_goal 2 => simp [← hP])
    | (with_reducible apply keep_of (frame_syncEngines ..); on_goal 2 => simp [← hP]
       on_goal 2 => simp [← hL]))

theorem frame_bootStep (s : State) (n : Nat) : s.only (State.bootStep s n) [.reck] (regsOf ["RCK_ENG_STATUS", "SEC_BOOT"]) := by
  unfold State.bootStep
  generalize hP : ([.reck] : List Part) = P
  generalize hL : (["RCK_ENG_STATUS", "SEC_BOOT"] : List String) = L
  repeat (first
    | with_reducible exact keep_refl _ _ _
    | (with_reducible apply keep_set; on_goal 2 => first | assumption | (with_reducible apply reg_SEC_BOOT_STAGE; simp [← hL]))
    | (with_reducible apply keep_of (frame_countCheckpoint ..); on_goal 2 => simp [← hP]
       on_goal 2 => simp [← hL]))

theorem frame_bootDone (s : State) : s.only (State.bootDone s) [.reck, .sec, .plat] (regsOf ["SYS_START_STATUS", "RCK_ENG_STATUS", "SEC_BOOT", "SEC_DEBUG_CHALLENGE"]) := by
  unfold State.bootDone
  generalize hP : ([.reck, .sec, .plat] : List Part) = P
  generalize hL : (["SYS_START_STATUS", "RCK_ENG_STATUS", "SEC_BOOT", "SEC_DEBUG_CHALLENGE"] : List String) = L
  repeat (first
    | with_reducible assumption
    | with_reducible exact keep_refl _ _ _
    | ((try lift_lets -underBinder); with_reducible intro y; refine cut_at (A := State.only s y P (regsOf L)) ?_ ?_; on_goal 2 => (intro hy; clear_value y)
       unfold y)
    | (with_reducible apply keep_set; on_goal 2 => first | assumption | (with_reducible apply reg_SEC_BOOT_STATE; simp [← hL]) | (with_reducible apply reg_SYS_START_STATUS_BOOT_DONE; simp [← hL]))
    | (with_reducible apply keep_on; on_goal 2 => first | assumption | (with_reducible apply reg_SEC_BOOT_STATE; simp [← hL]) | (with_reducible apply reg_SYS_START_STATUS_BOOT_DONE; simp [← hL]))
    | (with_reducible apply keep_modPlat; on_goal 2 => simp [← hP])
    | (with_reducible apply keep_endRoutine; on_goal 2 => simp [← hP])
    | (with_reducible apply keep_of (frame_drawChallenge ..); on_goal 2 => simp [← hP]
       on_goal 2 => simp [← hL])
    | (with_reducible apply keep_of (frame_bootStep ..); on_goal 2 => simp [← hP]
       on_goal 2 => simp [← hL])
    | (with_reducible apply keep_of (frame_syncEngines ..); on_goal 2 => simp [← hP]
       on_goal 2 => simp [← hL]))

theorem frame_bootStage (s : State) (romOk : Bool) (fuseOk : Bool) (identityOk : Bool) : s.only (State.bootStage s romOk fuseOk identityOk) [.reck, .tally, .sec, .plat] (regsOf ["SYS_START_STATUS", "RCK_ENG_STATUS", "SEC_BOOT", "SEC_LIFECYCLE", "SEC_DEVICE_ID_LO", "SEC_DEVICE_ID_HI", "SEC_DEBUG_CHALLENGE"]) := by
  unfold State.bootStage
  generalize hP : ([.reck, .tally, .sec, .plat] : List Part) = P
  generalize hL : (["SYS_START_STATUS", "RCK_ENG_STATUS", "SEC_BOOT", "SEC_LIFECYCLE", "SEC_DEVICE_ID_LO", "SEC_DEVICE_ID_HI", "SEC_DEBUG_CHALLENGE"] : List String) = L
  repeat (first
    | with_reducible exact keep_refl _ _ _
    | with_reducible apply keep_if
    | (with_reducible apply keep_setB; on_goal 2 => first | assumption | (with_reducible apply reg_SEC_LIFECYCLE_ID_OK; simp [← hL]))
    | (with_reducible apply keep_of (frame_bootFailed ..); on_goal 2 => simp [← hP]
       on_goal 2 => simp [← hL])
    | (with_reducible apply keep_of (frame_bootStep ..); on_goal 2 => simp [← hP]
       on_goal 2 => simp [← hL])
    | (with_reducible apply keep_of (frame_syncFuses ..); on_goal 2 => simp [← hP]
       on_goal 2 => simp [← hL])
    | (with_reducible apply keep_of (frame_scanHeads ..); on_goal 2 => simp [← hP]
       on_goal 2 => simp [← hL])
    | (with_reducible apply keep_of (frame_bootDone ..); on_goal 2 => simp [← hP]
       on_goal 2 => simp [← hL])
    | split)

theorem frame_syncStart (s : State) : s.only (State.syncStart s) [] (regsOf ["SYS_START_STATUS"]) := by
  unfold State.syncStart
  generalize hP : ([] : List Part) = P
  generalize hL : (["SYS_START_STATUS"] : List String) = L
  repeat (first
    | with_reducible assumption
    | with_reducible exact keep_refl _ _ _
    | ((try lift_lets -underBinder); with_reducible intro y; refine cut_at (A := State.only s y P (regsOf L)) ?_ ?_; on_goal 2 => (intro hy; clear_value y)
       unfold y)
    | (with_reducible apply keep_set; on_goal 2 => first | assumption | (with_reducible apply reg_SYS_START_STATUS_FUNCS_UP; simp [← hL]) | (with_reducible apply reg_SYS_START_STATUS_DRAM_TRAINED; simp [← hL]) | (with_reducible apply reg_SYS_START_STATUS_ELAPSED_MS; simp [← hL]))
    | (with_reducible apply keep_setB; on_goal 2 => first | assumption | (with_reducible apply reg_SYS_START_STATUS_FUNCS_UP; simp [← hL]) | (with_reducible apply reg_SYS_START_STATUS_DRAM_TRAINED; simp [← hL]) | (with_reducible apply reg_SYS_START_STATUS_ELAPSED_MS; simp [← hL])))

theorem frame_startReady (s : State) : s.only (State.startReady s) [.plat] (regsOf ["SYS_START_STATUS"]) := by
  unfold State.startReady
  generalize hP : ([.plat] : List Part) = P
  generalize hL : (["SYS_START_STATUS"] : List String) = L
  repeat (first
    | with_reducible exact keep_refl _ _ _
    | ((try lift_lets -underBinder); with_reducible intro y; clear_value y)
    | with_reducible apply keep_if
    | (with_reducible apply keep_set; on_goal 2 => first | assumption | (with_reducible apply reg_SYS_START_STATUS_READY; simp [← hL]) | (with_reducible apply reg_SYS_START_STATUS_ELAPSED_MS; simp [← hL]))
    | (with_reducible apply keep_on; on_goal 2 => first | assumption | (with_reducible apply reg_SYS_START_STATUS_READY; simp [← hL]) | (with_reducible apply reg_SYS_START_STATUS_ELAPSED_MS; simp [← hL]))
    | (with_reducible apply keep_modPlat; on_goal 2 => simp [← hP]))

theorem frame_startLate (s : State) : s.only (State.startLate s) [.plat] (regsOf ["SYS_START_STATUS"]) := by
  unfold State.startLate
  generalize hP : ([.plat] : List Part) = P
  generalize hL : (["SYS_START_STATUS"] : List String) = L
  repeat (first
    | with_reducible assumption
    | with_reducible exact keep_refl _ _ _
    | ((try lift_lets -underBinder); with_reducible intro y; refine cut_at (A := State.only s y P (regsOf L)) ?_ ?_; on_goal 2 => (intro hy; clear_value y)
       unfold y)
    | with_reducible apply keep_if
    | (with_reducible apply keep_on; on_goal 2 => first | assumption | (with_reducible apply reg_SYS_START_STATUS_LATE; simp [← hL]))
    | (with_reducible apply keep_modPlat; on_goal 2 => simp [← hP]))

theorem frame_trainRequest (s : State) : s.only (State.trainRequest s) [.reck, .dram, .plat] (regsOf ["SYS_START_STATUS", "DRAM_TRAIN"]) := by
  unfold State.trainRequest
  generalize hP : ([.reck, .dram, .plat] : List Part) = P
  generalize hL : (["SYS_START_STATUS", "DRAM_TRAIN"] : List String) = L
  repeat (first
    | with_reducible exact keep_refl _ _ _
    | ((try lift_lets -underBinder); with_reducible intro y; clear_value y)
    | with_reducible apply keep_if
    | (with_reducible apply keep_on; on_goal 2 => first | assumption | (with_reducible apply reg_SYS_START_STATUS_PATCH_SETTLED; simp [← hL]))
    | (with_reducible apply keep_modPlat; on_goal 2 => simp [← hP])
    | (with_reducible apply keep_of (frame_startTraining ..); on_goal 2 => simp [← hP]
       on_goal 2 => simp [← hL]))

theorem frame_bistEffect (s : State) (v : Nat) : s.only (bistEffect s v) [] (regsOf ["SYS_BIST_STATUS"]) := by
  unfold bistEffect
  generalize hP : ([] : List Part) = P
  generalize hL : (["SYS_BIST_STATUS"] : List String) = L
  repeat (first
    | with_reducible exact keep_refl _ _ _
    | with_reducible apply keep_if
    | (with_reducible apply keep_set; on_goal 2 => first | assumption | (with_reducible apply reg_SYS_BIST_STATUS_STATE; simp [← hL]) | (with_reducible apply reg_SYS_BIST_STATUS_BLOCK; simp [← hL]) | (with_reducible apply reg_SYS_BIST_STATUS_BEAD; simp [← hL])))

theorem frame_bistDone (s : State) (failing : Option Nat) : s.only (State.bistDone s failing) [] (regsOf ["SYS_BIST_STATUS"]) := by
  unfold State.bistDone
  generalize hP : ([] : List Part) = P
  generalize hL : (["SYS_BIST_STATUS"] : List String) = L
  repeat (first
    | with_reducible exact keep_refl _ _ _
    | with_reducible apply keep_if
    | (with_reducible apply keep_set; on_goal 2 => first | assumption | (with_reducible apply reg_SYS_BIST_STATUS_STATE; simp [← hL]) | (with_reducible apply reg_SYS_BIST_STATUS_BEAD; simp [← hL]) | (with_reducible apply reg_SYS_BIST_STATUS_FAIL_EVT; simp [← hL]))
    | (with_reducible apply keep_on; on_goal 2 => first | assumption | (with_reducible apply reg_SYS_BIST_STATUS_STATE; simp [← hL]) | (with_reducible apply reg_SYS_BIST_STATUS_BEAD; simp [← hL]) | (with_reducible apply reg_SYS_BIST_STATUS_FAIL_EVT; simp [← hL]))
    | split)

theorem frame_markBad (s : State) (v0 : ScrubTarget) : s.only (State.markBad s v0) [.rules, .fdb, .lpm, .flow] (regsOf ["FDB_USED", "LPM_USED", "LPM_V4_COUNT", "LPM_V6_COUNT"]) := by
  unfold State.markBad
  generalize hP : ([.rules, .fdb, .lpm, .flow] : List Part) = P
  generalize hL : (["FDB_USED", "LPM_USED", "LPM_V4_COUNT", "LPM_V6_COUNT"] : List String) = L
  repeat (first
    | with_reducible exact keep_refl _ _ _
    | with_reducible apply keep_if
    | (with_reducible apply keep_modFlow; on_goal 2 => simp [← hP])
    | (with_reducible apply keep_of (frame_setFdb ..); on_goal 2 => simp [← hP]
       on_goal 2 => simp [← hL])
    | (with_reducible apply keep_of (frame_setLpm ..); on_goal 2 => simp [← hP]
       on_goal 2 => simp [← hL])
    | (with_reducible apply keep_of (frame_ruleBad ..); on_goal 2 => simp [← hP]
       on_goal 2 => simp [← hL])
    | split)

theorem frame_tableScrub (s : State) (v0 : ScrubTarget) : s.only (State.tableScrub s v0) [.rules, .fdb, .lpm, .flow, .dram] (regsOf ["SYS_SCRUB_PASSES", "PARSE_STATUS", "PARSE_PARITY_LOC", "FDB_STATUS", "FDB_USED", "FDB_PARITY_LOC", "FDB_PARITY_CNT", "LPM_STATUS", "LPM_USED", "LPM_V4_COUNT", "LPM_V6_COUNT", "LPM_PARITY_LOC", "LPM_PARITY_CNT", "FLOW_STATUS", "FLOW_USED", "FLOW_POISON_LOC", "DRAM_STATUS", "DRAM_ROW_GUARD_CNT"]) := by
  unfold State.tableScrub
  generalize hP : ([.rules, .fdb, .lpm, .flow, .dram] : List Part) = P
  generalize hL : (["SYS_SCRUB_PASSES", "PARSE_STATUS", "PARSE_PARITY_LOC", "FDB_STATUS", "FDB_USED", "FDB_PARITY_LOC", "FDB_PARITY_CNT", "LPM_STATUS", "LPM_USED", "LPM_V4_COUNT", "LPM_V6_COUNT", "LPM_PARITY_LOC", "LPM_PARITY_CNT", "FLOW_STATUS", "FLOW_USED", "FLOW_POISON_LOC", "DRAM_STATUS", "DRAM_ROW_GUARD_CNT"] : List String) = L
  repeat (first
    | with_reducible exact keep_refl _ _ _
    | with_reducible apply keep_if
    | (with_reducible apply keep_set; on_goal 2 => first | assumption | (with_reducible apply reg_SYS_SCRUB_PASSES_COUNT; simp [← hL]))
    | (with_reducible apply keep_of (frame_ruleParity ..); on_goal 2 => simp [← hP]
       on_goal 2 => simp [← hL])
    | (with_reducible apply keep_of (frame_fdbParity ..); on_goal 2 => simp [← hP]
       on_goal 2 => simp [← hL])
    | (with_reducible apply keep_of (frame_lpmParity ..); on_goal 2 => simp [← hP]
       on_goal 2 => simp [← hL])
    | (with_reducible apply keep_of (frame_contextFound ..); on_goal 2 => simp [← hP]
       on_goal 2 => simp [← hL])
    | split)

theorem frame_scrub (s : State) (t : ScrubTarget) : s.only (State.scrub s t) [.rules, .fdb, .lpm, .flow, .dram] (regsOf ["SYS_SCRUB_PASSES", "PARSE_STATUS", "PARSE_PARITY_LOC", "FDB_STATUS", "FDB_USED", "FDB_PARITY_LOC", "FDB_PARITY_CNT", "LPM_STATUS", "LPM_USED", "LPM_V4_COUNT", "LPM_V6_COUNT", "LPM_PARITY_LOC", "LPM_PARITY_CNT", "FLOW_STATUS", "FLOW_USED", "FLOW_POISON_LOC", "DRAM_STATUS", "DRAM_ROW_GUARD_CNT"]) := by
  unfold State.scrub
  generalize hP : ([.rules, .fdb, .lpm, .flow, .dram] : List Part) = P
  generalize hL : (["SYS_SCRUB_PASSES", "PARSE_STATUS", "PARSE_PARITY_LOC", "FDB_STATUS", "FDB_USED", "FDB_PARITY_LOC", "FDB_PARITY_CNT", "LPM_STATUS", "LPM_USED", "LPM_V4_COUNT", "LPM_V6_COUNT", "LPM_PARITY_LOC", "LPM_PARITY_CNT", "FLOW_STATUS", "FLOW_USED", "FLOW_POISON_LOC", "DRAM_STATUS", "DRAM_ROW_GUARD_CNT"] : List String) = L
  repeat (first
    | with_reducible exact keep_refl _ _ _
    | with_reducible apply keep_if
    | (with_reducible apply keep_of (frame_tableScrub ..); on_goal 2 => simp [← hP]
       on_goal 2 => simp [← hL])
    | (with_reducible apply keep_of (frame_markBad ..); on_goal 2 => simp [← hP]
       on_goal 2 => simp [← hL]))

theorem frame_obsEffect (old : State) (s : State) : s.only (obsEffect old s) [.plat] (regsOf []) := by
  unfold obsEffect
  generalize hP : ([.plat] : List Part) = P
  generalize hL : ([] : List String) = L
  repeat (first
    | with_reducible exact keep_refl _ _ _
    | ((try lift_lets -underBinder); with_reducible intro y; clear_value y)
    | (with_reducible apply keep_modPlat; on_goal 2 => simp [← hP]))

theorem frame_rejudgeAll (s : State) : s.only (State.rejudgeAll s) [.ports, .counters, .pair] (regsOf ["MAC_PORT_STATUS", "MAC_PORT_EVT", "CNT_HALF_LO", "CNT_HALF_HI", "STAMP_PORT_STATUS", "PAIR_STATUS"]) := by
  unfold State.rejudgeAll
  generalize hP : ([.ports, .counters, .pair] : List Part) = P
  generalize hL : (["MAC_PORT_STATUS", "MAC_PORT_EVT", "CNT_HALF_LO", "CNT_HALF_HI", "STAMP_PORT_STATUS", "PAIR_STATUS"] : List String) = L
  repeat (first
    | with_reducible assumption
    | with_reducible exact keep_refl _ _ _
    | ((try lift_lets -underBinder); with_reducible intro y; refine cut_at (A := State.only s y P (regsOf L)) ?_ ?_; on_goal 2 => (intro hy; clear_value y)
       unfold y)
    | with_reducible refine keep_foldl ?_ (fun u a => ?_)
    | (with_reducible apply keep_of (frame_rejudge ..); on_goal 2 => simp [← hP]
       on_goal 2 => simp [← hL])
    | (with_reducible apply keep_of (frame_mirrorLink ..); on_goal 2 => simp [← hP]
       on_goal 2 => simp [← hL]))

theorem frame_jtag (s : State) (opcode : Nat) : s.only (State.jtag s opcode) [.ports, .counters, .pair, .plat] (regsOf ["MAC_PORT_STATUS", "MAC_PORT_EVT", "CNT_HALF_LO", "CNT_HALF_HI", "STAMP_PORT_STATUS", "PAIR_STATUS"]) := by
  unfold State.jtag
  generalize hP : ([.ports, .counters, .pair, .plat] : List Part) = P
  generalize hL : (["MAC_PORT_STATUS", "MAC_PORT_EVT", "CNT_HALF_LO", "CNT_HALF_HI", "STAMP_PORT_STATUS", "PAIR_STATUS"] : List String) = L
  repeat (first
    | with_reducible assumption
    | with_reducible exact keep_refl _ _ _
    | ((try lift_lets -underBinder); with_reducible intro y; refine cut_at (A := State.only s y P (regsOf L)) ?_ ?_; on_goal 2 => (intro hy; clear_value y)
       unfold y)
    | ((try lift_lets -underBinder); with_reducible intro y; clear_value y)
    | with_reducible apply keep_if
    | (with_reducible apply keep_modPlat; on_goal 2 => simp [← hP])
    | (with_reducible apply keep_of (frame_rejudgeAll ..); on_goal 2 => simp [← hP]
       on_goal 2 => simp [← hL]))

theorem frame_jtagLoad (s : State) (opcode : Nat) : s.only (State.jtagLoad s opcode) [.ports, .counters, .pair, .plat] (regsOf ["MAC_PORT_STATUS", "MAC_PORT_EVT", "CNT_HALF_LO", "CNT_HALF_HI", "STAMP_PORT_STATUS", "PAIR_STATUS"]) := by
  unfold State.jtagLoad
  generalize hP : ([.ports, .counters, .pair, .plat] : List Part) = P
  generalize hL : (["MAC_PORT_STATUS", "MAC_PORT_EVT", "CNT_HALF_LO", "CNT_HALF_HI", "STAMP_PORT_STATUS", "PAIR_STATUS"] : List String) = L
  repeat (first
    | with_reducible exact keep_refl _ _ _
    | (with_reducible apply keep_modPlat; on_goal 2 => simp [← hP])
    | (with_reducible apply keep_of (frame_jtag ..); on_goal 2 => simp [← hP]
       on_goal 2 => simp [← hL])
    | split)

theorem frame_endCycle (s : State) : s.only (State.endCycle s) [.time, .ports, .counters, .events, .reck, .buf, .host, .pair] (regsOf ["CNT_HALF_LO", "CNT_HALF_HI", "TIME_DOM_PHASE_LEFT", "TIME_DOM_STATUS", "TIME_PRES_STATUS", "STAMP_LL_STATUS", "STAMP_RET_STATUS", "STAMP_LOST_CNT", "BUF_WITHDRAWN", "RING_CFG", "RING_DEV_INDEX"]) := by
  unfold State.endCycle
  generalize hP : ([.time, .ports, .counters, .events, .reck, .buf, .host, .pair] : List Part) = P
  generalize hL : (["CNT_HALF_LO", "CNT_HALF_HI", "TIME_DOM_PHASE_LEFT", "TIME_DOM_STATUS", "TIME_PRES_STATUS", "STAMP_LL_STATUS", "STAMP_RET_STATUS", "STAMP_LOST_CNT", "BUF_WITHDRAWN", "RING_CFG", "RING_DEV_INDEX"] : List String) = L
  repeat (first
    | with_reducible assumption
    | with_reducible exact keep_refl _ _ _
    | ((try lift_lets -underBinder); with_reducible intro y; refine cut_at (A := State.only s y P (regsOf L)) ?_ ?_; on_goal 2 => (intro hy; clear_value y)
       unfold y)
    | ((try lift_lets -underBinder); with_reducible intro y; clear_value y)
    | with_reducible refine keep_foldl ?_ (fun u a => ?_)
    | (with_reducible apply keep_of (frame_presTransition ..); on_goal 2 => simp [← hP]
       on_goal 2 => simp [← hL])
    | (with_reducible apply keep_of (frame_withdrawCheck ..); on_goal 2 => simp [← hP]
       on_goal 2 => simp [← hL])
    | (with_reducible apply keep_of (frame_trimStamps ..); on_goal 2 => simp [← hP]
       on_goal 2 => simp [← hL]))

theorem frame_tick (s : State) : s.only (State.tick s) [.cycle, .time, .ports, .counters, .events, .reck, .buf, .host, .pair, .plat] (regsOf ["CNT_HALF_LO", "CNT_HALF_HI", "TIME_DOM_PHASE_LEFT", "TIME_DOM_STATUS", "TIME_PRES_STATUS", "STAMP_LL_STATUS", "STAMP_RET_STATUS", "STAMP_LOST_CNT", "BUF_WITHDRAWN", "RING_CFG", "RING_DEV_INDEX"]) := by
  unfold State.tick
  generalize hP : ([.cycle, .time, .ports, .counters, .events, .reck, .buf, .host, .pair, .plat] : List Part) = P
  generalize hL : (["CNT_HALF_LO", "CNT_HALF_HI", "TIME_DOM_PHASE_LEFT", "TIME_DOM_STATUS", "TIME_PRES_STATUS", "STAMP_LL_STATUS", "STAMP_RET_STATUS", "STAMP_LOST_CNT", "BUF_WITHDRAWN", "RING_CFG", "RING_DEV_INDEX"] : List String) = L
  repeat (first
    | with_reducible exact keep_refl _ _ _
    | with_reducible apply keep_if
    | (with_reducible apply keep_of (frame_tickClocks ..); on_goal 2 => simp [← hP]
       on_goal 2 => simp [← hL])
    | (with_reducible apply keep_of (frame_obsTick ..); on_goal 2 => simp [← hP]
       on_goal 2 => simp [← hL])
    | (with_reducible apply keep_of (frame_endCycle ..); on_goal 2 => simp [← hP]
       on_goal 2 => simp [← hL]))

theorem frame_abortCommands (s : State) (f : Func) : s.only (State.abortCommands s f) [.events, .reck, .host] (regsOf ["RING_CFG", "RING_DEV_INDEX"]) := by
  unfold State.abortCommands
  generalize hP : ([.events, .reck, .host] : List Part) = P
  generalize hL : (["RING_CFG", "RING_DEV_INDEX"] : List String) = L
  repeat (first
    | with_reducible exact keep_refl _ _ _
    | with_reducible apply keep_if
    | with_reducible refine keep_foldl ?_ (fun u a => ?_)
    | (with_reducible apply keep_endOwn; on_goal 2 => simp [← hP])
    | (with_reducible apply keep_of (frame_complete ..); on_goal 2 => simp [← hP]
       on_goal 2 => simp [← hL])
    | split)

theorem frame_cutTransmit (s : State) (p : Nat) : s.only (State.cutTransmit s p) [.ports, .counters, .events, .path, .buf, .tally, .host, .pair] (regsOf ["CNT_HALF_LO", "CNT_HALF_HI", "TALLY_STATUS", "TALLY_RING_LEVEL", "TALLY_LOST_CNT", "BUF_POOL_USED", "BUF_POOL_SHARED", "BUF_STATUS", "BUF_XOFF_POOLS", "BUF_LANDING", "BUF_BAD_FREE_LOC", "BUF_BAD_FREE_CNT", "QUE_COPIES", "RING_DEV_INDEX"]) := by
  unfold State.cutTransmit
  generalize hP : ([.ports, .counters, .events, .path, .buf, .tally, .host, .pair] : List Part) = P
  generalize hL : (["CNT_HALF_LO", "CNT_HALF_HI", "TALLY_STATUS", "TALLY_RING_LEVEL", "TALLY_LOST_CNT", "BUF_POOL_USED", "BUF_POOL_SHARED", "BUF_STATUS", "BUF_XOFF_POOLS", "BUF_LANDING", "BUF_BAD_FREE_LOC", "BUF_BAD_FREE_CNT", "QUE_COPIES", "RING_DEV_INDEX"] : List String) = L
  repeat (first
    | with_reducible assumption
    | with_reducible exact keep_refl _ _ _
    | ((try lift_lets -underBinder); with_reducible intro y; refine cut_at (A := State.only s y P (regsOf L)) ?_ ?_; on_goal 2 => (intro hy; clear_value y)
       unfold y)
    | ((try lift_lets -underBinder); with_reducible intro y; clear_value y)
    | (with_reducible apply keep_modPort; on_goal 2 => simp [← hP])
    | (with_reducible apply keep_modPath; on_goal 2 => simp [← hP])
    | (with_reducible apply keep_of (frame_injectCopy ..); on_goal 2 => simp [← hP]
       on_goal 2 => simp [← hL])
    | (with_reducible apply keep_of (frame_copyRecord ..); on_goal 2 => simp [← hP]
       on_goal 2 => simp [← hL])
    | (with_reducible apply keep_of (frame_decrementAll ..); on_goal 2 => simp [← hP]
       on_goal 2 => simp [← hL])
    | (with_reducible apply keep_of (frame_syncCopies ..); on_goal 2 => simp [← hP]
       on_goal 2 => simp [← hL])
    | (with_reducible apply keep_of (frame_dropRefs ..); on_goal 2 => simp [← hP]
       on_goal 2 => simp [← hL])
    | split)

theorem frame_loseStamps (s : State) : s.only (State.loseStamps s) [.events, .host] (regsOf ["RING_DEV_INDEX"]) := by
  unfold State.loseStamps
  generalize hP : ([.events, .host] : List Part) = P
  generalize hL : (["RING_DEV_INDEX"] : List String) = L
  repeat (first
    | with_reducible exact keep_refl _ _ _
    | with_reducible apply keep_if
    | with_reducible refine keep_foldl ?_ (fun u a => ?_)
    | (with_reducible apply keep_of (frame_putInject ..); on_goal 2 => simp [← hP]
       on_goal 2 => simp [← hL])
    | split)

theorem frame_dropCopies (s : State) : s.only (State.dropCopies s) [.ports, .counters, .events, .path, .buf, .tm, .tally, .host, .pair] (regsOf ["CNT_HALF_LO", "CNT_HALF_HI", "TALLY_STATUS", "TALLY_RING_LEVEL", "TALLY_LOST_CNT", "BUF_POOL_USED", "BUF_POOL_SHARED", "BUF_STATUS", "BUF_XOFF_POOLS", "BUF_LANDING", "BUF_BAD_FREE_LOC", "BUF_BAD_FREE_CNT", "BUF_SPILL_USED", "QUE_COPIES", "RING_DEV_INDEX"]) := by
  unfold State.dropCopies
  generalize hP : ([.ports, .counters, .events, .path, .buf, .tm, .tally, .host, .pair] : List Part) = P
  generalize hL : (["CNT_HALF_LO", "CNT_HALF_HI", "TALLY_STATUS", "TALLY_RING_LEVEL", "TALLY_LOST_CNT", "BUF_POOL_USED", "BUF_POOL_SHARED", "BUF_STATUS", "BUF_XOFF_POOLS", "BUF_LANDING", "BUF_BAD_FREE_LOC", "BUF_BAD_FREE_CNT", "BUF_SPILL_USED", "QUE_COPIES", "RING_DEV_INDEX"] : List String) = L
  repeat (first
    | with_reducible exact keep_refl _ _ _
    | ((try lift_lets -underBinder); with_reducible intro y; clear_value y)
    | with_reducible apply keep_if
    | with_reducible refine keep_foldl ?_ (fun u a => ?_)
    | (with_reducible apply keep_of (frame_discard ..); on_goal 2 => simp [← hP]
       on_goal 2 => simp [← hL]))

theorem frame_dropWalks (s : State) : s.only (State.dropWalks s) [.ports, .counters, .events, .path, .mcast, .buf, .tally, .host, .pair] (regsOf ["CNT_HALF_LO", "CNT_HALF_HI", "TALLY_STATUS", "TALLY_RING_LEVEL", "TALLY_LOST_CNT", "BUF_POOL_USED", "BUF_POOL_SHARED", "BUF_STATUS", "BUF_XOFF_POOLS", "BUF_LANDING", "BUF_BAD_FREE_LOC", "BUF_BAD_FREE_CNT", "MCAST_MEMBERS_USED", "RING_DEV_INDEX"]) := by
  unfold State.dropWalks
  generalize hP : ([.ports, .counters, .events, .path, .mcast, .buf, .tally, .host, .pair] : List Part) = P
  generalize hL : (["CNT_HALF_LO", "CNT_HALF_HI", "TALLY_STATUS", "TALLY_RING_LEVEL", "TALLY_LOST_CNT", "BUF_POOL_USED", "BUF_POOL_SHARED", "BUF_STATUS", "BUF_XOFF_POOLS", "BUF_LANDING", "BUF_BAD_FREE_LOC", "BUF_BAD_FREE_CNT", "MCAST_MEMBERS_USED", "RING_DEV_INDEX"] : List String) = L
  repeat (first
    | with_reducible assumption
    | with_reducible exact keep_refl _ _ _
    | ((try lift_lets -underBinder); with_reducible intro y; refine cut_at (A := State.only s y P (regsOf L)) ?_ ?_; on_goal 2 => (intro hy; clear_value y)
       unfold y)
    | ((try lift_lets -underBinder); with_reducible intro y; clear_value y)
    | with_reducible refine keep_foldl ?_ (fun u a => ?_)
    | (with_reducible apply keep_modPath; on_goal 2 => simp [← hP])
    | (with_reducible apply keep_of (frame_dropPlan ..); on_goal 2 => simp [← hP]
       on_goal 2 => simp [← hL])
    | split)

theorem frame_dropArrivals (s : State) : s.only (State.dropArrivals s) [.ports, .counters, .path, .rules, .mcast, .buf, .pair] (regsOf ["CNT_HALF_LO", "CNT_HALF_HI", "RULE_VER_STATE", "BUF_POOL_USED", "BUF_POOL_SHARED", "BUF_STATUS", "BUF_XOFF_POOLS", "BUF_LANDING", "MCAST_MEMBERS_USED"]) := by
  unfold State.dropArrivals
  generalize hP : ([.ports, .counters, .path, .rules, .mcast, .buf, .pair] : List Part) = P
  generalize hL : (["CNT_HALF_LO", "CNT_HALF_HI", "RULE_VER_STATE", "BUF_POOL_USED", "BUF_POOL_SHARED", "BUF_STATUS", "BUF_XOFF_POOLS", "BUF_LANDING", "MCAST_MEMBERS_USED"] : List String) = L
  repeat (first
    | with_reducible exact keep_refl _ _ _
    | ((try lift_lets -underBinder); with_reducible intro y; clear_value y)
    | with_reducible apply keep_if
    | with_reducible refine keep_foldl ?_ (fun u a => ?_)
    | (with_reducible apply keep_of (frame_dropFrame ..); on_goal 2 => simp [← hP]
       on_goal 2 => simp [← hL])
    | (with_reducible apply keep_of (frame_count ..); on_goal 2 => simp [← hP]
       on_goal 2 => simp [← hL]))

theorem frame_endFlushes (s : State) : s.only (State.endFlushes s) [.reck] (regsOf []) := by
  unfold State.endFlushes
  generalize hP : ([.reck] : List Part) = P
  generalize hL : ([] : List String) = L
  repeat (first
    | with_reducible exact keep_refl _ _ _
    | (with_reducible apply keep_endRoutine; on_goal 2 => simp [← hP]))

theorem frame_loseDram (s : State) : s.only (State.loseDram s) [.ports, .counters, .events, .path, .flow, .buf, .tm, .tally, .host, .pair] (regsOf ["CNT_HALF_LO", "CNT_HALF_HI", "TALLY_STATUS", "TALLY_RING_LEVEL", "TALLY_LOST_CNT", "FLOW_USED", "BUF_POOL_USED", "BUF_POOL_SHARED", "BUF_STATUS", "BUF_XOFF_POOLS", "BUF_LANDING", "BUF_BAD_FREE_LOC", "BUF_BAD_FREE_CNT", "BUF_SPILL_USED", "QUE_COPIES", "RING_DEV_INDEX"]) := by
  unfold State.loseDram
  generalize hP : ([.ports, .counters, .events, .path, .flow, .buf, .tm, .tally, .host, .pair] : List Part) = P
  generalize hL : (["CNT_HALF_LO", "CNT_HALF_HI", "TALLY_STATUS", "TALLY_RING_LEVEL", "TALLY_LOST_CNT", "FLOW_USED", "BUF_POOL_USED", "BUF_POOL_SHARED", "BUF_STATUS", "BUF_XOFF_POOLS", "BUF_LANDING", "BUF_BAD_FREE_LOC", "BUF_BAD_FREE_CNT", "BUF_SPILL_USED", "QUE_COPIES", "RING_DEV_INDEX"] : List String) = L
  repeat (first
    | with_reducible assumption
    | with_reducible exact keep_refl _ _ _
    | ((try lift_lets -underBinder); with_reducible intro y; refine cut_at (A := State.only s y P (regsOf L)) ?_ ?_; on_goal 2 => (intro hy; clear_value y)
       unfold y)
    | (with_reducible apply keep_modHost; on_goal 2 => simp [← hP])
    | (with_reducible apply keep_modTally; on_goal 2 => simp [← hP])
    | (with_reducible apply keep_of (frame_clearContexts ..); on_goal 2 => simp [← hP]
       on_goal 2 => simp [← hL])
    | (with_reducible apply keep_of (frame_loseSpilled ..); on_goal 2 => simp [← hP]
       on_goal 2 => simp [← hL]))

theorem frame_rebuildReports (s : State) : s.only (State.rebuildReports s) [.events, .pair] (regsOf ["EVT_PENDING"]) := by
  unfold State.rebuildReports
  generalize hP : ([.events, .pair] : List Part) = P
  generalize hL : (["EVT_PENDING"] : List String) = L
  repeat (first
    | with_reducible assumption
    | with_reducible exact keep_refl _ _ _
    | ((try lift_lets -underBinder); with_reducible intro y; refine cut_at (A := State.only s y P (regsOf L)) ?_ ?_; on_goal 2 => (intro hy; clear_value y)
       unfold y)
    | ((try lift_lets -underBinder); with_reducible intro y; clear_value y)
    | with_reducible apply keep_if
    | with_reducible refine keep_foldl ?_ (fun u a => ?_)
    | (with_reducible apply keep_of (frame_scanBlock ..); on_goal 2 => simp [← hP]
       on_goal 2 => simp [← hL])
    | (with_reducible apply keep_of (frame_report ..); on_goal 2 => simp [← hP]
       on_goal 2 => simp [← hL])
    | (fail_if_no_progress (with_reducible apply keep_at_events; on_goal 2 => simp [← hP])))

theorem frame_resetOver (s : State) (f : Func) : s.only (State.resetOver s f) [.ports, .events, .reck, .pair] (regsOf ["EVT_PENDING", "PAIR_STATUS"]) := by
  unfold State.resetOver
  generalize hP : ([.ports, .events, .reck, .pair] : List Part) = P
  generalize hL : (["EVT_PENDING", "PAIR_STATUS"] : List String) = L
  repeat (first
    | with_reducible exact keep_refl _ _ _
    | ((try lift_lets -underBinder); with_reducible intro y; clear_value y)
    | with_reducible apply keep_if
    | with_reducible refine keep_foldl ?_ (fun u a => ?_)
    | (with_reducible apply keep_modPort; on_goal 2 => simp [← hP])
    | (with_reducible apply keep_endRoutine; on_goal 2 => simp [← hP])
    | (with_reducible apply keep_of (frame_rebuildReports ..); on_goal 2 => simp [← hP]
       on_goal 2 => simp [← hL])
    | (with_reducible apply keep_of (frame_mirrorLink ..); on_goal 2 => simp [← hP]
       on_goal 2 => simp [← hL])
    | (fail_if_no_progress (with_reducible apply keep_at_ports; on_goal 2 => simp [← hP]))
    | split)

theorem frame_funcResetDone (s : State) (n : Nat) (ok : Bool) : s.only (State.funcResetDone s n ok) [.ports, .events, .reck, .pair, .plat] (regsOf ["SYS_FUNC_STATUS", "SYS_FUNC_EVT", "EVT_PENDING", "PAIR_STATUS"]) := by
  unfold State.funcResetDone
  generalize hP : ([.ports, .events, .reck, .pair, .plat] : List Part) = P
  generalize hL : (["SYS_FUNC_STATUS", "SYS_FUNC_EVT", "EVT_PENDING", "PAIR_STATUS"] : List String) = L
  repeat (first
    | with_reducible assumption
    | with_reducible exact keep_refl _ _ _
    | ((try lift_lets -underBinder); with_reducible intro y; refine cut_at (A := State.only s y P (regsOf L)) ?_ ?_; on_goal 2 => (intro hy; clear_value y)
       unfold y)
    | ((try lift_lets -underBinder); with_reducible intro y; clear_value y)
    | with_reducible apply keep_if
    | (with_reducible apply keep_putBit; on_goal 2 => first | assumption | (with_reducible apply reg_SYS_FUNC_EVT_FAILED; simp [← hL]) | (with_reducible apply reg_SYS_FUNC_EVT_DONE; simp [← hL]))
    | (with_reducible apply keep_modPlat; on_goal 2 => simp [← hP])
    | (with_reducible apply keep_of (frame_resetOver ..); on_goal 2 => simp [← hP]
       on_goal 2 => simp [← hL])
    | (with_reducible apply keep_of (frame_setFunc ..); on_goal 2 => simp [← hP]
       on_goal 2 => simp [← hL])
    | split)

theorem frame_newLink (s : State) (p : Nat) (c : LinkCond) : s.only (State.newLink s p c) [.ports, .counters, .pair] (regsOf ["MAC_PORT_STATUS", "MAC_PORT_EVT", "CNT_HALF_LO", "CNT_HALF_HI", "STAMP_PORT_STATUS", "PAIR_STATUS"]) := by
  unfold State.newLink
  generalize hP : ([.ports, .counters, .pair] : List Part) = P
  generalize hL : (["MAC_PORT_STATUS", "MAC_PORT_EVT", "CNT_HALF_LO", "CNT_HALF_HI", "STAMP_PORT_STATUS", "PAIR_STATUS"] : List String) = L
  repeat (first
    | with_reducible exact keep_refl _ _ _
    | with_reducible apply keep_if
    | (with_reducible apply keep_of (frame_mirrorLink ..); on_goal 2 => simp [← hP]
       on_goal 2 => simp [← hL])
    | (with_reducible apply keep_of (frame_linkChange ..); on_goal 2 => simp [← hP]
       on_goal 2 => simp [← hL]))

theorem frame_holdPin (s : State) (level : Bool) : s.only (State.holdPin s level) [.die, .events, .reck, .tally, .host, .pair] (regsOf ["TALLY_CTRL", "TALLY_STATUS", "TALLY_RING_LEVEL", "RING_CFG", "RING_DEV_INDEX", "PAIR_STATUS"]) := by
  unfold State.holdPin
  generalize hP : ([.die, .events, .reck, .tally, .host, .pair] : List Part) = P
  generalize hL : (["TALLY_CTRL", "TALLY_STATUS", "TALLY_RING_LEVEL", "RING_CFG", "RING_DEV_INDEX", "PAIR_STATUS"] : List String) = L
  repeat (first
    | with_reducible exact keep_refl _ _ _
    | ((try lift_lets -underBinder); with_reducible intro y; clear_value y)
    | with_reducible apply keep_if
    | (with_reducible apply keep_of (frame_holdInChange ..); on_goal 2 => simp [← hP]
       on_goal 2 => simp [← hL])
    | (fail_if_no_progress (with_reducible apply keep_at_die; on_goal 2 => simp [← hP])))

theorem frame_abortRunning (s : State) : s.only (State.abortRunning s) [.events, .host] (regsOf ["RING_CFG", "RING_DEV_INDEX"]) := by
  unfold State.abortRunning
  generalize hP : ([.events, .host] : List Part) = P
  generalize hL : (["RING_CFG", "RING_DEV_INDEX"] : List String) = L
  repeat (first
    | with_reducible exact keep_refl _ _ _
    | with_reducible apply keep_if
    | with_reducible refine keep_foldl ?_ (fun u a => ?_)
    | (with_reducible apply keep_of (frame_complete ..); on_goal 2 => simp [← hP]
       on_goal 2 => simp [← hL])
    | split)

theorem frame_commitBegins (s : State) (e : Nat) (c : CmdIn) : s.only (State.commitBegins s e c) [.events, .reck, .host] (regsOf ["RULE_VER_STATE", "RING_CFG", "RING_DEV_INDEX"]) := by
  unfold State.commitBegins
  generalize hP : ([.events, .reck, .host] : List Part) = P
  generalize hL : (["RULE_VER_STATE", "RING_CFG", "RING_DEV_INDEX"] : List String) = L
  repeat (first
    | with_reducible exact keep_refl _ _ _
    | (with_reducible apply keep_set; on_goal 2 => first | assumption | (with_reducible apply reg_RULE_VER_STATE_STATE; simp [← hL]))
    | (with_reducible apply keep_modReck; on_goal 2 => simp [← hP])
    | (with_reducible apply keep_endOwn; on_goal 2 => simp [← hP])
    | (with_reducible apply keep_of (frame_complete ..); on_goal 2 => simp [← hP]
       on_goal 2 => simp [← hL])
    | split)

theorem frame_routineStart (s : State) : s.only (State.routineStart s) [.events, .reck, .host] (regsOf ["RULE_VER_STATE", "RING_CFG", "RING_DEV_INDEX", "RCK_ENG_STATUS"]) := by
  unfold State.routineStart
  generalize hP : ([.events, .reck, .host] : List Part) = P
  generalize hL : (["RULE_VER_STATE", "RING_CFG", "RING_DEV_INDEX", "RCK_ENG_STATUS"] : List String) = L
  repeat (first
    | with_reducible assumption
    | with_reducible exact keep_refl _ _ _
    | ((try lift_lets -underBinder); with_reducible intro y; refine cut_at (A := State.only s y P (regsOf L)) ?_ ?_; on_goal 2 => (intro hy; clear_value y)
       unfold y)
    | (with_reducible apply keep_of (frame_startRoutine ..); on_goal 2 => simp [← hP]
       on_goal 2 => simp [← hL])
    | (with_reducible apply keep_of (frame_commitBegins ..); on_goal 2 => simp [← hP]
       on_goal 2 => simp [← hL])
    | split)

theorem frame_noteItems (s : State) (e : Nat) (n : Nat) (met : Bool) : s.only (State.noteItems s e n met) [.reck] (regsOf []) := by
  unfold State.noteItems
  generalize hP : ([.reck] : List Part) = P
  generalize hL : ([] : List String) = L
  repeat (first
    | with_reducible exact keep_refl _ _ _
    | (with_reducible apply keep_modReck; on_goal 2 => simp [← hP]))

theorem frame_flushStep (s : State) (e : Nat) (r : Routine) : s.only (State.flushStep s e r) [.reck, .fdb, .lpm, .pair] (regsOf ["FDB_STATUS", "FDB_USED", "FDB_PARITY_LOC", "FDB_PARITY_CNT", "LPM_STATUS", "LPM_USED", "LPM_V4_COUNT", "LPM_V6_COUNT", "LPM_PARITY_LOC", "LPM_PARITY_CNT", "RCK_ENG_STATUS", "PAIR_MIRROR_LEVEL"]) := by
  unfold State.flushStep
  generalize hP : ([.reck, .fdb, .lpm, .pair] : List Part) = P
  generalize hL : (["FDB_STATUS", "FDB_USED", "FDB_PARITY_LOC", "FDB_PARITY_CNT", "LPM_STATUS", "LPM_USED", "LPM_V4_COUNT", "LPM_V6_COUNT", "LPM_PARITY_LOC", "LPM_PARITY_CNT", "RCK_ENG_STATUS", "PAIR_MIRROR_LEVEL"] : List String) = L
  repeat (first
    | with_reducible exact keep_refl _ _ _
    | (dsimp -zeta only)
    | ((try lift_lets -underBinder); with_reducible intro y; clear_value y)
    | with_reducible apply keep_ifp
    | (with_reducible apply keep_of (frame_fdbFlushRange ..); on_goal 2 => simp [← hP]
       on_goal 2 => simp [← hL])
    | (with_reducible apply keep_of (frame_lpmFlushRange ..); on_goal 2 => simp [← hP]
       on_goal 2 => simp [← hL])
    | (with_reducible apply keep_of (frame_noteItems ..); on_goal 2 => simp [← hP]
       on_goal 2 => simp [← hL])
    | (with_reducible apply keep_of (frame_countCheckpoint ..); on_goal 2 => simp [← hP]
       on_goal 2 => simp [← hL])
    | split)

theorem frame_commitStep (s : State) (e : Nat) (r : Routine) (c : CmdIn) (t : Nat) : s.only (State.commitStep s e r c t) [.events, .reck, .rules, .host, .pair] (regsOf ["RULE_STATUS", "RULE_VER_STATE", "RULE_VER_NUM", "RULE_STORE_USED", "RULE_STAGE_STATUS", "RING_CFG", "RING_DEV_INDEX", "RCK_ENG_STATUS", "PAIR_MIRROR_LEVEL"]) := by
  unfold State.commitStep State.carryOut
  generalize hP : ([.events, .reck, .rules, .host, .pair] : List Part) = P
  generalize hL : (["RULE_STATUS", "RULE_VER_STATE", "RULE_VER_NUM", "RULE_STORE_USED", "RULE_STAGE_STATUS", "RING_CFG", "RING_DEV_INDEX", "RCK_ENG_STATUS", "PAIR_MIRROR_LEVEL"] : List String) = L
  repeat (first
    | with_reducible exact keep_refl _ _ _
    | (dsimp -zeta only)
    | with_reducible apply keep_if
    | (with_reducible apply keep_endOwn; on_goal 2 => simp [← hP])
    | (with_reducible apply keep_of (frame_countCheckpoint ..); on_goal 2 => simp [← hP]
       on_goal 2 => simp [← hL])
    | (with_reducible apply keep_of (frame_markEntries ..); on_goal 2 => simp [← hP]
       on_goal 2 => simp [← hL])
    | (with_reducible apply keep_of (frame_coreRuleCommit ..); on_goal 2 => simp [← hP]
       on_goal 2 => simp [← hL])
    | (with_reducible apply keep_of (frame_complete ..); on_goal 2 => simp [← hP]
       on_goal 2 => simp [← hL])
    | split)

theorem frame_routineStep (s : State) (e : Nat) (r : Routine) : s.only (State.routineStep s e r) [.ports, .counters, .events, .reck, .path, .rules, .fdb, .lpm, .buf, .tm, .tally, .host, .pair] (regsOf ["CNT_HALF_LO", "CNT_HALF_HI", "TALLY_STATUS", "TALLY_RING_LEVEL", "TALLY_LOST_CNT", "RULE_STATUS", "RULE_VER_STATE", "RULE_VER_NUM", "RULE_STORE_USED", "RULE_STAGE_STATUS", "FDB_STATUS", "FDB_USED", "FDB_PARITY_LOC", "FDB_PARITY_CNT", "LPM_STATUS", "LPM_USED", "LPM_V4_COUNT", "LPM_V6_COUNT", "LPM_PARITY_LOC", "LPM_PARITY_CNT", "BUF_POOL_USED", "BUF_POOL_SHARED", "BUF_STATUS", "BUF_XOFF_POOLS", "BUF_LANDING", "BUF_BAD_FREE_LOC", "BUF_BAD_FREE_CNT", "BUF_SPILL_USED", "QUE_STATUS", "QUE_STUCK_LOC", "QUE_COPIES", "QUE_STUCK_CNT", "RING_CFG", "RING_DEV_INDEX", "RCK_ENG_STATUS", "PAIR_MIRROR_LEVEL"]) := by
  unfold State.routineStep State.lpmStep
  generalize hP : ([.ports, .counters, .events, .reck, .path, .rules, .fdb, .lpm, .buf, .tm, .tally, .host, .pair] : List Part) = P
  generalize hL : (["CNT_HALF_LO", "CNT_HALF_HI", "TALLY_STATUS", "TALLY_RING_LEVEL", "TALLY_LOST_CNT", "RULE_STATUS", "RULE_VER_STATE", "RULE_VER_NUM", "RULE_STORE_USED", "RULE_STAGE_STATUS", "FDB_STATUS", "FDB_USED", "FDB_PARITY_LOC", "FDB_PARITY_CNT", "LPM_STATUS", "LPM_USED", "LPM_V4_COUNT", "LPM_V6_COUNT", "LPM_PARITY_LOC", "LPM_PARITY_CNT", "BUF_POOL_USED", "BUF_POOL_SHARED", "BUF_STATUS", "BUF_XOFF_POOLS", "BUF_LANDING", "BUF_BAD_FREE_LOC", "BUF_BAD_FREE_CNT", "BUF_SPILL_USED", "QUE_STATUS", "QUE_STUCK_LOC", "QUE_COPIES", "QUE_STUCK_CNT", "RING_CFG", "RING_DEV_INDEX", "RCK_ENG_STATUS", "PAIR_MIRROR_LEVEL"] : List String) = L
  repeat (first
    | with_reducible exact keep_refl _ _ _
    | with_reducible apply keep_if
    | (with_reducible apply keep_of (frame_countCheckpoint ..); on_goal 2 => simp [← hP]
       on_goal 2 => simp [← hL])
    | (with_reducible apply keep_of (frame_flushSome ..); on_goal 2 => simp [← hP]
       on_goal 2 => simp [← hL])
    | (with_reducible apply keep_of (frame_reclaimSome ..); on_goal 2 => simp [← hP]
       on_goal 2 => simp [← hL])
    | (with_reducible apply keep_of (frame_commitStep ..); on_goal 2 => simp [← hP]
       on_goal 2 => simp [← hL])
    | (with_reducible apply keep_optp (by assumption) (frame_insertStep ..); on_goal 2 => simp [← hP]
       on_goal 2 => simp [← hL])
    | (with_reducible apply keep_optp (by assumption) (frame_moveStep ..); on_goal 2 => simp [← hP]
       on_goal 2 => simp [← hL])
    | (with_reducible apply keep_of (frame_flushStep ..); on_goal 2 => simp [← hP]
       on_goal 2 => simp [← hL])
    | (with_reducible apply keep_of (frame_bulkSend ..); on_goal 2 => simp [← hP]
       on_goal 2 => simp [← hL])
    | (with_reducible apply keep_of (frame_noteItems ..); on_goal 2 => simp [← hP]
       on_goal 2 => simp [← hL])
    | split)

theorem frame_checkpoint (s : State) (e : Nat) : s.only (State.checkpoint s e) [.ports, .counters, .events, .reck, .path, .rules, .fdb, .lpm, .buf, .tm, .tally, .host, .pair] (regsOf ["CNT_HALF_LO", "CNT_HALF_HI", "TALLY_STATUS", "TALLY_RING_LEVEL", "TALLY_LOST_CNT", "RULE_STATUS", "RULE_VER_STATE", "RULE_VER_NUM", "RULE_STORE_USED", "RULE_STAGE_STATUS", "FDB_STATUS", "FDB_USED", "FDB_PARITY_LOC", "FDB_PARITY_CNT", "LPM_STATUS", "LPM_USED", "LPM_V4_COUNT", "LPM_V6_COUNT", "LPM_PARITY_LOC", "LPM_PARITY_CNT", "BUF_POOL_USED", "BUF_POOL_SHARED", "BUF_STATUS", "BUF_XOFF_POOLS", "BUF_LANDING", "BUF_BAD_FREE_LOC", "BUF_BAD_FREE_CNT", "BUF_SPILL_USED", "QUE_STATUS", "QUE_STUCK_LOC", "QUE_COPIES", "QUE_STUCK_CNT", "RING_CFG", "RING_DEV_INDEX", "RCK_PREEMPT_CNT", "RCK_ENG_STATUS", "PAIR_MIRROR_LEVEL"]) := by
  unfold State.checkpoint
  generalize hP : ([.ports, .counters, .events, .reck, .path, .rules, .fdb, .lpm, .buf, .tm, .tally, .host, .pair] : List Part) = P
  generalize hL : (["CNT_HALF_LO", "CNT_HALF_HI", "TALLY_STATUS", "TALLY_RING_LEVEL", "TALLY_LOST_CNT", "RULE_STATUS", "RULE_VER_STATE", "RULE_VER_NUM", "RULE_STORE_USED", "RULE_STAGE_STATUS", "FDB_STATUS", "FDB_USED", "FDB_PARITY_LOC", "FDB_PARITY_CNT", "LPM_STATUS", "LPM_USED", "LPM_V4_COUNT", "LPM_V6_COUNT", "LPM_PARITY_LOC", "LPM_PARITY_CNT", "BUF_POOL_USED", "BUF_POOL_SHARED", "BUF_STATUS", "BUF_XOFF_POOLS", "BUF_LANDING", "BUF_BAD_FREE_LOC", "BUF_BAD_FREE_CNT", "BUF_SPILL_USED", "QUE_STATUS", "QUE_STUCK_LOC", "QUE_COPIES", "QUE_STUCK_CNT", "RING_CFG", "RING_DEV_INDEX", "RCK_PREEMPT_CNT", "RCK_ENG_STATUS", "PAIR_MIRROR_LEVEL"] : List String) = L
  repeat (first
    | with_reducible exact keep_refl _ _ _
    | (with_reducible apply keep_of (frame_giveWay ..); on_goal 2 => simp [← hP]
       on_goal 2 => simp [← hL])
    | (with_reducible apply keep_of (frame_routineStep ..); on_goal 2 => simp [← hP]
       on_goal 2 => simp [← hL])
    | split)

theorem frame_trainStep (s : State) (pc : Nat) (failedLanes : Nat) (ok : Bool) : s.only (State.trainStep s pc failedLanes ok) [.reck, .dram] (regsOf ["SYS_FUNC_STATUS", "SYS_FUNC_EVT", "SYS_START_STATUS", "DRAM_TRAIN", "DRAM_STATUS", "DRAM_PC_FAILED_LO", "DRAM_PC_FAILED_HI", "DRAM_LANE_REPAIRED_CNT", "RCK_ENG_STATUS"]) := by
  unfold State.trainStep
  generalize hP : ([.reck, .dram] : List Part) = P
  generalize hL : (["SYS_FUNC_STATUS", "SYS_FUNC_EVT", "SYS_START_STATUS", "DRAM_TRAIN", "DRAM_STATUS", "DRAM_PC_FAILED_LO", "DRAM_PC_FAILED_HI", "DRAM_LANE_REPAIRED_CNT", "RCK_ENG_STATUS"] : List String) = L
  repeat (first
    | with_reducible assumption
    | with_reducible exact keep_refl _ _ _
    | ((try lift_lets -underBinder); with_reducible intro y; refine cut_at (A := State.only s y P (regsOf L)) ?_ ?_; on_goal 2 => (intro hy; clear_value y)
       unfold y)
    | ((try lift_lets -underBinder); with_reducible intro y; clear_value y)
    | with_reducible apply keep_if
    | (with_reducible apply keep_of (frame_trainPc ..); on_goal 2 => simp [← hP]
       on_goal 2 => simp [← hL])
    | (with_reducible apply keep_of (frame_countCheckpoint ..); on_goal 2 => simp [← hP]
       on_goal 2 => simp [← hL])
    | split)

theorem frame_flagClocks (old : State) (s : State) :
    s.only (State.flagClocks old s) [] (regsOf ["SYS_CLK_LANE_LOST", "SYS_CLK_STATUS"]) := by
  have again : ∀ (x : State) (c : Bool) (f : Fld), s.only x [] (regsOf ["SYS_CLK_LANE_LOST", "SYS_CLK_STATUS"]) →
      regsOf ["SYS_CLK_LANE_LOST", "SYS_CLK_STATUS"] (Fld.key f) →
      s.only (if c then x.on f else x) [] (regsOf ["SYS_CLK_LANE_LOST", "SYS_CLK_STATUS"]) :=
    fun x c f h hf => keep_if (keep_on _ h hf) h
  exact again _ _ _ (again _ _ _ (again _ _ _ (keep_orBits _ _ (keep_refl ..) (reg_SYS_CLK_LANE_LOST_GROUP_LOST (by simp)))
    (reg_SYS_CLK_STATUS_CORE_LOST (by simp))) (reg_SYS_CLK_STATUS_DOMA_LOST (by simp))) (reg_SYS_CLK_STATUS_DOMB_LOST (by simp))

theorem frame_dramEffect (s : State) (off : Nat) (v : Nat) : s.only (dramEffect s off v) [.ports, .counters, .events, .reck, .path, .flow, .buf, .tm, .tally, .host, .dram, .pair] (regsOf ["CNT_HALF_LO", "CNT_HALF_HI", "TALLY_STATUS", "TALLY_RING_LEVEL", "TALLY_LOST_CNT", "FLOW_USED", "BUF_POOL_USED", "BUF_POOL_SHARED", "BUF_STATUS", "BUF_XOFF_POOLS", "BUF_LANDING", "BUF_BAD_FREE_LOC", "BUF_BAD_FREE_CNT", "BUF_SPILL_USED", "QUE_COPIES", "DRAM_TRAIN", "RING_DEV_INDEX"]) := by
  unfold dramEffect
  generalize hP : ([.ports, .counters, .events, .reck, .path, .flow, .buf, .tm, .tally, .host, .dram, .pair] : List Part) = P
  generalize hL : (["CNT_HALF_LO", "CNT_HALF_HI", "TALLY_STATUS", "TALLY_RING_LEVEL", "TALLY_LOST_CNT", "FLOW_USED", "BUF_POOL_USED", "BUF_POOL_SHARED", "BUF_STATUS", "BUF_XOFF_POOLS", "BUF_LANDING", "BUF_BAD_FREE_LOC", "BUF_BAD_FREE_CNT", "BUF_SPILL_USED", "QUE_COPIES", "DRAM_TRAIN", "RING_DEV_INDEX"] : List String) = L
  repeat (first
    | with_reducible exact keep_refl _ _ _
    | with_reducible apply keep_if
    | (with_reducible apply keep_modDram; on_goal 2 => simp [← hP])
    | (with_reducible apply keep_of (frame_startTraining ..); on_goal 2 => simp [← hP]
       on_goal 2 => simp [← hL])
    | (with_reducible apply keep_of (frame_loseDram ..); on_goal 2 => simp [← hP]
       on_goal 2 => simp [← hL]))

theorem frame_refreshAt (s : State) (page : Nat) (off : Nat) : s.only (State.refreshAt s page off) [] (regsOf ["SYS_START_STATUS", "TIME_DOM_PHASE_LEFT", "TIME_DOM_STATUS", "TIME_PRES_STATUS", "TALLY_STATUS", "TALLY_RING_LEVEL", "QUE_ROD_DEPTH", "EVT_SUMMARY", "RCK_ENG_STATUS", "SEC_FUSE_IMAGE", "SPAN_STATUS"]) := by
  unfold State.refreshAt
  generalize hP : ([] : List Part) = P
  generalize hL : (["SYS_START_STATUS", "TIME_DOM_PHASE_LEFT", "TIME_DOM_STATUS", "TIME_PRES_STATUS", "TALLY_STATUS", "TALLY_RING_LEVEL", "QUE_ROD_DEPTH", "EVT_SUMMARY", "RCK_ENG_STATUS", "SEC_FUSE_IMAGE", "SPAN_STATUS"] : List String) = L
  repeat (first
    | with_reducible exact keep_refl _ _ _
    | with_reducible apply keep_if
    | (with_reducible apply keep_set; on_goal 2 => first | assumption | (with_reducible apply reg_QUE_ROD_DEPTH_BEADS; simp [← hL]))
    | (with_reducible apply keep_of (frame_syncStart ..); on_goal 2 => simp [← hP]
       on_goal 2 => simp [← hL])
    | (with_reducible apply keep_of (frame_syncTime ..); on_goal 2 => simp [← hP]
       on_goal 2 => simp [← hL])
    | (with_reducible apply keep_of (frame_syncTally ..); on_goal 2 => simp [← hP]
       on_goal 2 => simp [← hL])
    | (with_reducible apply keep_of (frame_syncSummary ..); on_goal 2 => simp [← hP]
       on_goal 2 => simp [← hL])
    | (with_reducible apply keep_of (frame_syncEngines ..); on_goal 2 => simp [← hP]
       on_goal 2 => simp [← hL])
    | (with_reducible apply keep_of (frame_syncFuseWord ..); on_goal 2 => simp [← hP]
       on_goal 2 => simp [← hL])
    | (with_reducible apply keep_of (frame_syncSpan ..); on_goal 2 => simp [← hP]
       on_goal 2 => simp [← hL])
    | split)

theorem frame_readEffect (s : State) (addr : Nat) : s.only (State.readEffect s addr) [.stamp, .tally, .dram] (regsOf []) := by
  unfold State.readEffect
  generalize hP : ([.stamp, .tally, .dram] : List Part) = P
  generalize hL : ([] : List String) = L
  repeat (first
    | with_reducible exact keep_refl _ _ _
    | with_reducible apply keep_if
    | (with_reducible apply keep_of (frame_calRead ..); on_goal 2 => simp [← hP]
       on_goal 2 => simp [← hL])
    | (with_reducible apply keep_of (frame_retiredRead ..); on_goal 2 => simp [← hP]
       on_goal 2 => simp [← hL])
    | (with_reducible apply keep_of (frame_trainRead ..); on_goal 2 => simp [← hP]
       on_goal 2 => simp [← hL]))

theorem frame_protocolError (s : State) (m : HostIn) (reason : Nat) : s.only (State.protocolError s m reason) [.host] (regsOf ["HLINK_STATUS", "HLINK_PROTO_LOC", "HLINK_PROTOCOL_CNT"]) := by
  unfold State.protocolError
  generalize hP : ([.host] : List Part) = P
  generalize hL : (["HLINK_STATUS", "HLINK_PROTO_LOC", "HLINK_PROTOCOL_CNT"] : List String) = L
  repeat (first
    | with_reducible assumption
    | with_reducible exact keep_refl _ _ _
    | ((try lift_lets -underBinder); with_reducible intro y; refine cut_at (A := State.only s y P (regsOf L)) ?_ ?_; on_goal 2 => (intro hy; clear_value y)
       unfold y)
    | (with_reducible apply keep_set; on_goal 2 => first | assumption | (with_reducible apply reg_HLINK_PROTOCOL_CNT_COUNT; simp [← hL]) | (with_reducible apply reg_HLINK_STATUS_PROTOCOL; simp [← hL]) | (with_reducible apply reg_HLINK_PROTO_LOC_TYPE; simp [← hL]) | (with_reducible apply reg_HLINK_PROTO_LOC_REASON; simp [← hL]) | (with_reducible apply reg_HLINK_PROTO_LOC_TAG; simp [← hL]))
    | (with_reducible apply keep_on; on_goal 2 => first | assumption | (with_reducible apply reg_HLINK_PROTOCOL_CNT_COUNT; simp [← hL]) | (with_reducible apply reg_HLINK_STATUS_PROTOCOL; simp [← hL]) | (with_reducible apply reg_HLINK_PROTO_LOC_TYPE; simp [← hL]) | (with_reducible apply reg_HLINK_PROTO_LOC_REASON; simp [← hL]) | (with_reducible apply reg_HLINK_PROTO_LOC_TAG; simp [← hL]))
    | (with_reducible apply keep_satAdd; on_goal 2 => first | assumption | (with_reducible apply reg_HLINK_PROTOCOL_CNT_COUNT; simp [← hL]) | (with_reducible apply reg_HLINK_STATUS_PROTOCOL; simp [← hL]) | (with_reducible apply reg_HLINK_PROTO_LOC_TYPE; simp [← hL]) | (with_reducible apply reg_HLINK_PROTO_LOC_REASON; simp [← hL]) | (with_reducible apply reg_HLINK_PROTO_LOC_TAG; simp [← hL]))
    | (with_reducible apply keep_modHost; on_goal 2 => simp [← hP]))

theorem frame_replyTo (s : State) (m : HostIn) (st : Status) (done : Nat) (data : List Byte) : s.only (State.replyTo s m st done data) [.events, .host] (regsOf []) := by
  unfold State.replyTo
  generalize hP : ([.events, .host] : List Part) = P
  generalize hL : ([] : List String) = L
  repeat (first
    | with_reducible exact keep_refl _ _ _
    | (with_reducible apply keep_restartKeepalive; on_goal 2 => simp [← hP])
    | (with_reducible apply keep_of (frame_send ..); on_goal 2 => simp [← hP]
       on_goal 2 => simp [← hL]))

theorem frame_returnSlots (s : State) (n : Nat) : s.only (State.returnSlots s n) [.host] (regsOf []) := by
  unfold State.returnSlots
  generalize hP : ([.host] : List Part) = P
  generalize hL : ([] : List String) = L
  repeat (first
    | with_reducible exact keep_refl _ _ _
    | with_reducible apply keep_if
    | (with_reducible apply keep_of (frame_send ..); on_goal 2 => simp [← hP]
       on_goal 2 => simp [← hL]))


end Sys2Proof.Machine
end

