-- ==== Sys2Proof/Laws/PerInstr.lean ====
section
/-! SUPPORT. For every command: one that is well formed, in that its numbers are those of Table 0-5, answers a next state in
every state. No command ends a run because of ordinary data. -/

namespace Sys2Proof.Laws.Reaches

open Sys2Proof.Machine

/-- The outcome is a next state. -/
def Goes (o : Out) : Prop := ∃ t, o = .next t

/-- A well-formed command answers a next state in every state. -/
def Statement (i : Instr) : Prop := i.wf = true → ∀ s : State, Goes (exec i s)

theorem goes_finish (s : State) : Goes (finish s) := ⟨_, rfl⟩

theorem goes_whenUp (s : State) (k : State → State) : Goes (whenUp s k) := ⟨_, rfl⟩

theorem goes_onPort {p : Nat} {k : Out} (h : p < 1024) (hk : Goes k) : Goes (onPort p k) := by rwa [onPort_ok h]

theorem goes_onObject {n i : Nat} {k : Out} (h : i < n) (hk : Goes k) : Goes (onObject n i k) := by rwa [onObject_ok h]

theorem goes_onRing {c : CmdIn} {k : Out} (h : c.wf = true) (hk : Goes k) : Goes (onRing c k) := by
  simp only [CmdIn.wf, Bool.and_eq_true, decide_eq_true_eq] at h
  rwa [onRing_ok (by omega) (by omega)]

theorem goes_runLong (op : Nat) (atOnce : CmdIn → State → Bool) (core : CmdIn → State → CmdRes × State) (c : CmdIn) (s : State) :
    Goes (runLong op atOnce core c s) := goes_whenUp _ _

theorem goes_runCmd (op : Nat) (core : CmdIn → State → CmdRes × State) (c : CmdIn) (s : State) : Goes (runCmd op core c s) :=
  goes_runLong _ _ _ _ _

theorem resetNAssert : Statement .resetNAssert := by
  intro h s
  show Goes (Sys2Proof.Machine.execResetNAssert s)
  unfold Sys2Proof.Machine.execResetNAssert
  exact goes_finish _

theorem resetNRelease (straps : Straps) : Statement (.resetNRelease straps) := by
  intro h s
  show Goes (Sys2Proof.Machine.execResetNRelease straps s)
  unfold Sys2Proof.Machine.execResetNRelease
  exact goes_finish _

theorem strapCompare (pins : Straps) : Statement (.strapCompare pins) := by
  intro h s
  show Goes (Sys2Proof.Machine.execStrapCompare pins s)
  unfold Sys2Proof.Machine.execStrapCompare
  exact goes_whenUp _ _

theorem powerLoss : Statement .powerLoss := by
  intro h s
  show Goes (Sys2Proof.Machine.execPowerLoss s)
  unfold Sys2Proof.Machine.execPowerLoss
  exact goes_finish _

theorem supplyRangeCheck (outside : Nat) : Statement (.supplyRangeCheck outside) := by
  intro h s
  show Goes (Sys2Proof.Machine.execSupplyRangeCheck outside s)
  unfold Sys2Proof.Machine.execSupplyRangeCheck
  exact goes_whenUp _ _

theorem brownOutReset : Statement .brownOutReset := by
  intro h s
  show Goes (Sys2Proof.Machine.execBrownOutReset s)
  unfold Sys2Proof.Machine.execBrownOutReset
  exact goes_finish _

theorem tempReading (sensors : List Int) : Statement (.tempReading sensors) := by
  intro h s
  show Goes (Sys2Proof.Machine.execTempReading sensors s)
  unfold Sys2Proof.Machine.execTempReading
  exact goes_whenUp _ _

theorem coreSpeedMeasurement (mt : Nat) : Statement (.coreSpeedMeasurement mt) := by
  intro h s
  show Goes (Sys2Proof.Machine.execCoreSpeedMeasurement mt s)
  unfold Sys2Proof.Machine.execCoreSpeedMeasurement
  exact goes_whenUp _ _

theorem refInputLost (loss : RefLoss) : Statement (.refInputLost loss) := by
  intro h s
  show Goes (Sys2Proof.Machine.execRefInputLost loss s)
  obtain ⟨input, fault⟩ := loss
  replace h : input.wf = true := h
  unfold Sys2Proof.Machine.execRefInputLost
  refine goes_onObject ?_ (goes_whenUp _ _)
  cases input <;> simp_all [RefInput.wf, refGroup]

theorem refInputGood (input : RefInput) (report : RefReport) : Statement (.refInputGood input report) := by
  intro h s
  show Goes (Sys2Proof.Machine.execRefInputGood input report s)
  replace h : input.wf = true := h
  unfold Sys2Proof.Machine.execRefInputGood
  refine goes_onObject ?_ (goes_whenUp _ _)
  cases input <;> simp_all [RefInput.wf, refGroup]

theorem registerWrite (addr : Nat) (value : Nat) : Statement (.registerWrite addr value) := by
  intro h s
  show Goes (Sys2Proof.Machine.execRegisterWrite addr value s)
  unfold Sys2Proof.Machine.execRegisterWrite
  exact goes_whenUp _ _

theorem rcRegisterRead (addr : Nat) : Statement (.rcRegisterRead addr) := by
  intro h s
  show Goes (Sys2Proof.Machine.execRcRegisterRead addr s)
  unfold Sys2Proof.Machine.execRcRegisterRead
  exact goes_whenUp _ _

theorem octetModeWrite (octet : Nat) (value : Nat) : Statement (.octetModeWrite octet value) := by
  intro h s
  show Goes (Sys2Proof.Machine.execOctetModeWrite octet value s)
  replace h : (octet < 128 && word32 value : Bool) = true := h
  simp only [Bool.and_eq_true, decide_eq_true_eq] at h
  unfold Sys2Proof.Machine.execOctetModeWrite
  exact goes_onObject (by omega) (goes_whenUp _ _)

theorem portEnable (port : Nat) (value : Nat) : Statement (.portEnable port value) := by
  intro h s
  show Goes (Sys2Proof.Machine.execPortEnable port value s)
  replace h : (port < 1024 && word32 value && value % 2 == 1 : Bool) = true := h
  simp only [Bool.and_eq_true, decide_eq_true_eq] at h
  unfold Sys2Proof.Machine.execPortEnable
  exact goes_onPort (by omega) (goes_whenUp _ _)

theorem portDisable (port : Nat) (value : Nat) : Statement (.portDisable port value) := by
  intro h s
  show Goes (Sys2Proof.Machine.execPortDisable port value s)
  replace h : (port < 1024 && word32 value && value % 2 == 0 : Bool) = true := h
  simp only [Bool.and_eq_true, decide_eq_true_eq] at h
  unfold Sys2Proof.Machine.execPortDisable
  exact goes_onPort (by omega) (goes_whenUp _ _)

theorem linkConditionChange (port : Nat) (cond : LinkCond) : Statement (.linkConditionChange port cond) := by
  intro h s
  show Goes (Sys2Proof.Machine.execLinkConditionChange port cond s)
  replace h : (port < 1025 : Bool) = true := h
  simp only [decide_eq_true_eq] at h
  unfold Sys2Proof.Machine.execLinkConditionChange
  exact goes_onObject (by omega) (goes_whenUp _ _)

theorem upDebounceExpiry (port : Nat) : Statement (.upDebounceExpiry port) := by
  intro h s
  show Goes (Sys2Proof.Machine.execUpDebounceExpiry port s)
  replace h : (port < 1024 : Bool) = true := h
  simp only [decide_eq_true_eq] at h
  unfold Sys2Proof.Machine.execUpDebounceExpiry
  exact goes_onPort (by omega) (goes_whenUp _ _)

theorem dnDebounceExpiry (port : Nat) : Statement (.dnDebounceExpiry port) := by
  intro h s
  show Goes (Sys2Proof.Machine.execDnDebounceExpiry port s)
  replace h : (port < 1024 : Bool) = true := h
  simp only [decide_eq_true_eq] at h
  unfold Sys2Proof.Machine.execDnDebounceExpiry
  exact goes_onPort (by omega) (goes_whenUp _ _)

theorem frameStart (port : Nat) (sub : Nat) (bytes : List Byte) : Statement (.frameStart port sub bytes) := by
  intro h s
  show Goes (Sys2Proof.Machine.execFrameStart port sub bytes s)
  replace h : (port < 1024 && sub < 64 : Bool) = true := h
  simp only [Bool.and_eq_true, decide_eq_true_eq] at h
  unfold Sys2Proof.Machine.execFrameStart
  exact goes_onPort (by omega) (goes_onObject (by omega) (goes_whenUp _ _))

theorem firstWordCrossing (frame : Nat) : Statement (.firstWordCrossing frame) := by
  intro h s
  show Goes (Sys2Proof.Machine.execFirstWordCrossing frame s)
  unfold Sys2Proof.Machine.execFirstWordCrossing
  exact goes_whenUp _ _

theorem classifyPass (frame : Nat) : Statement (.classifyPass frame) := by
  intro h s
  show Goes (Sys2Proof.Machine.execClassifyPass frame s)
  unfold Sys2Proof.Machine.execClassifyPass
  exact goes_whenUp _ _

theorem carryPass : Statement .carryPass := by
  intro h s
  show Goes (Sys2Proof.Machine.execCarryPass s)
  unfold Sys2Proof.Machine.execCarryPass
  exact goes_whenUp _ _

theorem forwardingLookup (frame : Nat) : Statement (.forwardingLookup frame) := by
  intro h s
  show Goes (Sys2Proof.Machine.execForwardingLookup frame s)
  unfold Sys2Proof.Machine.execForwardingLookup
  exact goes_whenUp _ _

theorem learnRelease (bank : Nat) : Statement (.learnRelease bank) := by
  intro h s
  show Goes (Sys2Proof.Machine.execLearnRelease bank s)
  replace h : (bank < 16 : Bool) = true := h
  simp only [decide_eq_true_eq] at h
  unfold Sys2Proof.Machine.execLearnRelease
  exact goes_onObject (by omega) (goes_whenUp _ _)

theorem contextFetchDone (frame : Nat) (read : FetchRead) : Statement (.contextFetchDone frame read) := by
  intro h s
  show Goes (Sys2Proof.Machine.execContextFetchDone frame read s)
  unfold Sys2Proof.Machine.execContextFetchDone
  exact goes_whenUp _ _

theorem admission (frame : Nat) : Statement (.admission frame) := by
  intro h s
  show Goes (Sys2Proof.Machine.execAdmission frame s)
  unfold Sys2Proof.Machine.execAdmission
  exact goes_whenUp _ _

theorem frameEnd (frame : Nat) (fcs : Fcs) (codeErr : Bool) : Statement (.frameEnd frame fcs codeErr) := by
  intro h s
  show Goes (Sys2Proof.Machine.execFrameEnd frame fcs codeErr s)
  unfold Sys2Proof.Machine.execFrameEnd
  exact goes_whenUp _ _

theorem frameTruncate (frame : Nat) : Statement (.frameTruncate frame) := by
  intro h s
  show Goes (Sys2Proof.Machine.execFrameTruncate frame s)
  unfold Sys2Proof.Machine.execFrameTruncate
  exact goes_whenUp _ _

theorem pauseFrameReceived (port : Nat) (quanta : Nat) (dstOk : Bool) : Statement (.pauseFrameReceived port quanta dstOk) := by
  intro h s
  show Goes (Sys2Proof.Machine.execPauseFrameReceived port quanta dstOk s)
  replace h : (port < 1024 && quanta < 2 ^ 16 : Bool) = true := h
  simp only [Bool.and_eq_true, decide_eq_true_eq] at h
  unfold Sys2Proof.Machine.execPauseFrameReceived
  exact goes_onPort (by omega) (goes_whenUp _ _)

theorem pfcFrameReceived (port : Nat) (enable : Nat) (quanta : List Nat) (dstOk : Bool) : Statement (.pfcFrameReceived port enable quanta dstOk) := by
  intro h s
  show Goes (Sys2Proof.Machine.execPfcFrameReceived port enable quanta dstOk s)
  replace h : (port < 1024 && enable < 256 && quanta.length == 8 && quanta.all (· < 2 ^ 16) : Bool) = true := h
  simp only [Bool.and_eq_true, decide_eq_true_eq] at h
  unfold Sys2Proof.Machine.execPfcFrameReceived
  exact goes_onPort (by omega) (goes_whenUp _ _)

theorem pauseTimerExpiry (port : Nat) (priority : Nat) : Statement (.pauseTimerExpiry port priority) := by
  intro h s
  show Goes (Sys2Proof.Machine.execPauseTimerExpiry port priority s)
  replace h : (port < 1024 && priority < 9 : Bool) = true := h
  simp only [Bool.and_eq_true, decide_eq_true_eq] at h
  unfold Sys2Proof.Machine.execPauseTimerExpiry
  exact goes_onPort (by omega) (goes_onObject (by omega) (goes_whenUp _ _))

theorem pauseRefresh (port : Nat) (priority : Nat) : Statement (.pauseRefresh port priority) := by
  intro h s
  show Goes (Sys2Proof.Machine.execPauseRefresh port priority s)
  replace h : (port < 1024 && priority < 9 : Bool) = true := h
  simp only [Bool.and_eq_true, decide_eq_true_eq] at h
  unfold Sys2Proof.Machine.execPauseRefresh
  exact goes_onPort (by omega) (goes_onObject (by omega) (goes_whenUp _ _))

theorem cntRead (cmd : CmdIn) : Statement (.cntRead cmd) := by
  intro h s
  show Goes (Sys2Proof.Machine.execCntRead cmd s)
  unfold Sys2Proof.Machine.execCntRead
  exact goes_onRing h (goes_runCmd _ _ _ _)

theorem cntClear (cmd : CmdIn) : Statement (.cntClear cmd) := by
  intro h s
  show Goes (Sys2Proof.Machine.execCntClear cmd s)
  unfold Sys2Proof.Machine.execCntClear
  exact goes_onRing h (goes_runCmd _ _ _ _)

theorem timeDomFreqWrite (dom : Nat) (value : Nat) : Statement (.timeDomFreqWrite dom value) := by
  intro h s
  show Goes (Sys2Proof.Machine.execTimeDomFreqWrite dom value s)
  replace h : (dom < 2 && word32 value : Bool) = true := h
  simp only [Bool.and_eq_true, decide_eq_true_eq] at h
  unfold Sys2Proof.Machine.execTimeDomFreqWrite
  exact goes_onObject (by omega) (goes_whenUp _ _)

theorem timeDomPhaseWrite (dom : Nat) (value : Nat) : Statement (.timeDomPhaseWrite dom value) := by
  intro h s
  show Goes (Sys2Proof.Machine.execTimeDomPhaseWrite dom value s)
  replace h : (dom < 2 && word32 value : Bool) = true := h
  simp only [Bool.and_eq_true, decide_eq_true_eq] at h
  unfold Sys2Proof.Machine.execTimeDomPhaseWrite
  exact goes_onObject (by omega) (goes_whenUp _ _)

theorem phaseSlewDone (dom : Nat) : Statement (.phaseSlewDone dom) := by
  intro h s
  show Goes (Sys2Proof.Machine.execPhaseSlewDone dom s)
  replace h : (dom < 2 : Bool) = true := h
  simp only [decide_eq_true_eq] at h
  unfold Sys2Proof.Machine.execPhaseSlewDone
  exact goes_onObject (by omega) (goes_whenUp _ _)

theorem lockDeclare (dom : Nat) (value : Nat) : Statement (.lockDeclare dom value) := by
  intro h s
  show Goes (Sys2Proof.Machine.execLockDeclare dom value s)
  replace h : (dom < 2 && word32 value : Bool) = true := h
  simp only [Bool.and_eq_true, decide_eq_true_eq] at h
  unfold Sys2Proof.Machine.execLockDeclare
  exact goes_onObject (by omega) (goes_whenUp _ _)

theorem servoWatchdogExpiry (dom : Nat) : Statement (.servoWatchdogExpiry dom) := by
  intro h s
  show Goes (Sys2Proof.Machine.execServoWatchdogExpiry dom s)
  replace h : (dom < 2 : Bool) = true := h
  simp only [decide_eq_true_eq] at h
  unfold Sys2Proof.Machine.execServoWatchdogExpiry
  exact goes_onObject (by omega) (goes_whenUp _ _)

theorem domainSetTime (dom : Nat) : Statement (.domainSetTime dom) := by
  intro h s
  show Goes (Sys2Proof.Machine.execDomainSetTime dom s)
  replace h : (dom < 2 : Bool) = true := h
  simp only [decide_eq_true_eq] at h
  unfold Sys2Proof.Machine.execDomainSetTime
  exact goes_onObject (by omega) (goes_whenUp _ _)

theorem domainSetAtPps (dom : Nat) : Statement (.domainSetAtPps dom) := by
  intro h s
  show Goes (Sys2Proof.Machine.execDomainSetAtPps dom s)
  replace h : (dom < 2 : Bool) = true := h
  simp only [decide_eq_true_eq] at h
  unfold Sys2Proof.Machine.execDomainSetAtPps
  exact goes_onObject (by omega) (goes_whenUp _ _)

theorem ppsEdge (dom : Nat) : Statement (.ppsEdge dom) := by
  intro h s
  show Goes (Sys2Proof.Machine.execPpsEdge dom s)
  replace h : (dom < 2 : Bool) = true := h
  simp only [decide_eq_true_eq] at h
  unfold Sys2Proof.Machine.execPpsEdge
  exact goes_onObject (by omega) (goes_whenUp _ _)

theorem ppsMissing (dom : Nat) : Statement (.ppsMissing dom) := by
  intro h s
  show Goes (Sys2Proof.Machine.execPpsMissing dom s)
  replace h : (dom < 2 : Bool) = true := h
  simp only [decide_eq_true_eq] at h
  unfold Sys2Proof.Machine.execPpsMissing
  exact goes_onObject (by omega) (goes_whenUp _ _)

theorem presMoveDone : Statement .presMoveDone := by
  intro h s
  show Goes (Sys2Proof.Machine.execPresMoveDone s)
  unfold Sys2Proof.Machine.execPresMoveDone
  exact goes_whenUp _ _

theorem presRevert : Statement .presRevert := by
  intro h s
  show Goes (Sys2Proof.Machine.execPresRevert s)
  unfold Sys2Proof.Machine.execPresRevert
  exact goes_whenUp _ _

theorem timeSnap : Statement .timeSnap := by
  intro h s
  show Goes (Sys2Proof.Machine.execTimeSnap s)
  unfold Sys2Proof.Machine.execTimeSnap
  exact goes_whenUp _ _

theorem abDiffUpdate : Statement .abDiffUpdate := by
  intro h s
  show Goes (Sys2Proof.Machine.execAbDiffUpdate s)
  unfold Sys2Proof.Machine.execAbDiffUpdate
  exact goes_whenUp _ _

theorem tpoEnable (out : Nat) (value : Nat) : Statement (.tpoEnable out value) := by
  intro h s
  show Goes (Sys2Proof.Machine.execTpoEnable out value s)
  replace h : (out < 8 && word32 value : Bool) = true := h
  simp only [Bool.and_eq_true, decide_eq_true_eq] at h
  unfold Sys2Proof.Machine.execTpoEnable
  exact goes_onObject (by omega) (goes_whenUp _ _)

theorem tpoPulseEdge (out : Nat) (trailing : Bool) : Statement (.tpoPulseEdge out trailing) := by
  intro h s
  show Goes (Sys2Proof.Machine.execTpoPulseEdge out trailing s)
  replace h : (out < 8 : Bool) = true := h
  simp only [decide_eq_true_eq] at h
  unfold Sys2Proof.Machine.execTpoPulseEdge
  exact goes_onObject (by omega) (goes_whenUp _ _)

theorem tpiCapture (inp : Nat) (rising : Bool) : Statement (.tpiCapture inp rising) := by
  intro h s
  show Goes (Sys2Proof.Machine.execTpiCapture inp rising s)
  replace h : (inp < 4 : Bool) = true := h
  simp only [decide_eq_true_eq] at h
  unfold Sys2Proof.Machine.execTpiCapture
  exact goes_onObject (by omega) (goes_whenUp _ _)

theorem tpiPop (inp : Nat) : Statement (.tpiPop inp) := by
  intro h s
  show Goes (Sys2Proof.Machine.execTpiPop inp s)
  replace h : (inp < 4 : Bool) = true := h
  simp only [decide_eq_true_eq] at h
  unfold Sys2Proof.Machine.execTpiPop
  exact goes_onObject (by omega) (goes_whenUp _ _)

theorem calStart (port : Nat) : Statement (.calStart port) := by
  intro h s
  show Goes (Sys2Proof.Machine.execCalStart port s)
  replace h : (port < 1024 : Bool) = true := h
  simp only [decide_eq_true_eq] at h
  unfold Sys2Proof.Machine.execCalStart
  exact goes_onPort (by omega) (goes_whenUp _ _)

theorem calDone (trained : Bool) (loopErr : Nat) (ing : Nat) (egr : Nat) : Statement (.calDone trained loopErr ing egr) := by
  intro h s
  show Goes (Sys2Proof.Machine.execCalDone trained loopErr ing egr s)
  unfold Sys2Proof.Machine.execCalDone
  exact goes_whenUp _ _

theorem calResultRead : Statement .calResultRead := by
  intro h s
  show Goes (Sys2Proof.Machine.execCalResultRead s)
  unfold Sys2Proof.Machine.execCalResultRead
  exact goes_whenUp _ _

theorem stampQueueTransfer : Statement .stampQueueTransfer := by
  intro h s
  show Goes (Sys2Proof.Machine.execStampQueueTransfer s)
  unfold Sys2Proof.Machine.execStampQueueTransfer
  exact goes_whenUp _ _

theorem stampEntryWrite : Statement .stampEntryWrite := by
  intro h s
  show Goes (Sys2Proof.Machine.execStampEntryWrite s)
  unfold Sys2Proof.Machine.execStampEntryWrite
  exact goes_whenUp _ _

theorem llRelease (port : Nat) : Statement (.llRelease port) := by
  intro h s
  show Goes (Sys2Proof.Machine.execLlRelease port s)
  replace h : (port < 1024 : Bool) = true := h
  simp only [decide_eq_true_eq] at h
  unfold Sys2Proof.Machine.execLlRelease
  exact goes_onPort (by omega) (goes_whenUp _ _)

theorem copyLink (copy : Nat) : Statement (.copyLink copy) := by
  intro h s
  show Goes (Sys2Proof.Machine.execCopyLink copy s)
  unfold Sys2Proof.Machine.execCopyLink
  exact goes_whenUp _ _

theorem replicatorOffer (pipe : Nat) (places : Nat) : Statement (.replicatorOffer pipe places) := by
  intro h s
  show Goes (Sys2Proof.Machine.execReplicatorOffer pipe places s)
  replace h : (pipe < 65 : Bool) = true := h
  simp only [decide_eq_true_eq] at h
  unfold Sys2Proof.Machine.execReplicatorOffer
  exact goes_onObject (by omega) (goes_whenUp _ _)

theorem residueLink (queue : Nat) : Statement (.residueLink queue) := by
  intro h s
  show Goes (Sys2Proof.Machine.execResidueLink queue s)
  replace h : (queue < 16384 : Bool) = true := h
  simp only [decide_eq_true_eq] at h
  unfold Sys2Proof.Machine.execResidueLink
  exact goes_onObject (by omega) (goes_whenUp _ _)

theorem schedulerPick (port : Nat) : Statement (.schedulerPick port) := by
  intro h s
  show Goes (Sys2Proof.Machine.execSchedulerPick port s)
  replace h : (port < 1024 : Bool) = true := h
  simp only [decide_eq_true_eq] at h
  unfold Sys2Proof.Machine.execSchedulerPick
  exact goes_onPort (by omega) (goes_whenUp _ _)

theorem transmitStart (port : Nat) (sub : Nat) : Statement (.transmitStart port sub) := by
  intro h s
  show Goes (Sys2Proof.Machine.execTransmitStart port sub s)
  replace h : (port < 1024 && sub < 64 : Bool) = true := h
  simp only [Bool.and_eq_true, decide_eq_true_eq] at h
  unfold Sys2Proof.Machine.execTransmitStart
  exact goes_onPort (by omega) (goes_onObject (by omega) (goes_whenUp _ _))

theorem transmitEnd (port : Nat) : Statement (.transmitEnd port) := by
  intro h s
  show Goes (Sys2Proof.Machine.execTransmitEnd port s)
  replace h : (port < 1024 : Bool) = true := h
  simp only [decide_eq_true_eq] at h
  unfold Sys2Proof.Machine.execTransmitEnd
  exact goes_onPort (by omega) (goes_whenUp _ _)

theorem frameDigest (pipe : Nat) : Statement (.frameDigest pipe) := by
  intro h s
  show Goes (Sys2Proof.Machine.execFrameDigest pipe s)
  replace h : (pipe < 64 : Bool) = true := h
  simp only [decide_eq_true_eq] at h
  unfold Sys2Proof.Machine.execFrameDigest
  exact goes_onObject (by omega) (goes_whenUp _ _)

theorem gapRecordWrite (chain : Nat) : Statement (.gapRecordWrite chain) := by
  intro h s
  show Goes (Sys2Proof.Machine.execGapRecordWrite chain s)
  replace h : (chain < 256 : Bool) = true := h
  simp only [decide_eq_true_eq] at h
  unfold Sys2Proof.Machine.execGapRecordWrite
  exact goes_onObject (by omega) (goes_whenUp _ _)

theorem chainTakeRecord : Statement .chainTakeRecord := by
  intro h s
  show Goes (Sys2Proof.Machine.execChainTakeRecord s)
  unfold Sys2Proof.Machine.execChainTakeRecord
  exact goes_whenUp _ _

theorem leafTimerClose (chain : Nat) : Statement (.leafTimerClose chain) := by
  intro h s
  show Goes (Sys2Proof.Machine.execLeafTimerClose chain s)
  replace h : (chain < 256 : Bool) = true := h
  simp only [decide_eq_true_eq] at h
  unfold Sys2Proof.Machine.execLeafTimerClose
  exact goes_onObject (by omega) (goes_whenUp _ _)

theorem sealInstant : Statement .sealInstant := by
  intro h s
  show Goes (Sys2Proof.Machine.execSealInstant s)
  unfold Sys2Proof.Machine.execSealInstant
  exact goes_whenUp _ _

theorem tallyEnable (value : Nat) : Statement (.tallyEnable value) := by
  intro h s
  show Goes (Sys2Proof.Machine.execTallyEnable value s)
  unfold Sys2Proof.Machine.execTallyEnable
  exact goes_whenUp _ _

theorem tallyDisable (value : Nat) : Statement (.tallyDisable value) := by
  intro h s
  show Goes (Sys2Proof.Machine.execTallyDisable value s)
  unfold Sys2Proof.Machine.execTallyDisable
  exact goes_whenUp _ _

theorem finalSealForm : Statement .finalSealForm := by
  intro h s
  show Goes (Sys2Proof.Machine.execFinalSealForm s)
  unfold Sys2Proof.Machine.execFinalSealForm
  exact goes_whenUp _ _

theorem sealPeriodWrite (value : Nat) : Statement (.sealPeriodWrite value) := by
  intro h s
  show Goes (Sys2Proof.Machine.execSealPeriodWrite value s)
  unfold Sys2Proof.Machine.execSealPeriodWrite
  exact goes_whenUp _ _

theorem sealSign : Statement .sealSign := by
  intro h s
  show Goes (Sys2Proof.Machine.execSealSign s)
  unfold Sys2Proof.Machine.execSealSign
  exact goes_whenUp _ _

theorem sealExport : Statement .sealExport := by
  intro h s
  show Goes (Sys2Proof.Machine.execSealExport s)
  unfold Sys2Proof.Machine.execSealExport
  exact goes_whenUp _ _

theorem mramHeadWrite (readBackOk : Bool) : Statement (.mramHeadWrite readBackOk) := by
  intro h s
  show Goes (Sys2Proof.Machine.execMramHeadWrite readBackOk s)
  unfold Sys2Proof.Machine.execMramHeadWrite
  exact goes_whenUp _ _

theorem tallyExportEntry (read : ReadOutcome) : Statement (.tallyExportEntry read) := by
  intro h s
  show Goes (Sys2Proof.Machine.execTallyExportEntry read s)
  unfold Sys2Proof.Machine.execTallyExportEntry
  exact goes_whenUp _ _

theorem mramRetiredRead : Statement .mramRetiredRead := by
  intro h s
  show Goes (Sys2Proof.Machine.execMramRetiredRead s)
  unfold Sys2Proof.Machine.execMramRetiredRead
  exact goes_whenUp _ _

theorem profileValidWrite (profile : Nat) (value : Nat) : Statement (.profileValidWrite profile value) := by
  intro h s
  show Goes (Sys2Proof.Machine.execProfileValidWrite profile value s)
  replace h : (profile < 64 && word32 value : Bool) = true := h
  simp only [Bool.and_eq_true, decide_eq_true_eq] at h
  unfold Sys2Proof.Machine.execProfileValidWrite
  exact goes_onObject (by omega) (goes_whenUp _ _)

theorem profileDrained (profile : Nat) : Statement (.profileDrained profile) := by
  intro h s
  show Goes (Sys2Proof.Machine.execProfileDrained profile s)
  replace h : (profile < 64 : Bool) = true := h
  simp only [decide_eq_true_eq] at h
  unfold Sys2Proof.Machine.execProfileDrained
  exact goes_onObject (by omega) (goes_whenUp _ _)

theorem nop (cmd : CmdIn) : Statement (.nop cmd) := by
  intro h s
  show Goes (Sys2Proof.Machine.execNop cmd s)
  unfold Sys2Proof.Machine.execNop
  exact goes_onRing h (goes_runCmd _ _ _ _)

theorem ruleStage (cmd : CmdIn) : Statement (.ruleStage cmd) := by
  intro h s
  show Goes (Sys2Proof.Machine.execRuleStage cmd s)
  unfold Sys2Proof.Machine.execRuleStage
  exact goes_onRing h (goes_runCmd _ _ _ _)

theorem ruleDiscard (cmd : CmdIn) : Statement (.ruleDiscard cmd) := by
  intro h s
  show Goes (Sys2Proof.Machine.execRuleDiscard cmd s)
  unfold Sys2Proof.Machine.execRuleDiscard
  exact goes_onRing h (goes_runCmd _ _ _ _)

theorem ruleCommit (cmd : CmdIn) : Statement (.ruleCommit cmd) := by
  intro h s
  show Goes (Sys2Proof.Machine.execRuleCommit cmd s)
  unfold Sys2Proof.Machine.execRuleCommit
  exact goes_onRing h (goes_runLong _ _ _ _ _)

theorem ruleRead (cmd : CmdIn) : Statement (.ruleRead cmd) := by
  intro h s
  show Goes (Sys2Proof.Machine.execRuleRead cmd s)
  unfold Sys2Proof.Machine.execRuleRead
  exact goes_onRing h (goes_runCmd _ _ _ _)

theorem ruleRangeSet (cmd : CmdIn) : Statement (.ruleRangeSet cmd) := by
  intro h s
  show Goes (Sys2Proof.Machine.execRuleRangeSet cmd s)
  unfold Sys2Proof.Machine.execRuleRangeSet
  exact goes_onRing h (goes_runCmd _ _ _ _)

theorem tagDrained (tag : Nat) : Statement (.tagDrained tag) := by
  intro h s
  show Goes (Sys2Proof.Machine.execTagDrained tag s)
  replace h : (tag < 4 : Bool) = true := h
  simp only [decide_eq_true_eq] at h
  unfold Sys2Proof.Machine.execTagDrained
  exact goes_onObject (by omega) (goes_whenUp _ _)

theorem drainStuck (tag : Nat) : Statement (.drainStuck tag) := by
  intro h s
  show Goes (Sys2Proof.Machine.execDrainStuck tag s)
  replace h : (tag < 4 : Bool) = true := h
  simp only [decide_eq_true_eq] at h
  unfold Sys2Proof.Machine.execDrainStuck
  exact goes_onObject (by omega) (goes_whenUp _ _)

theorem fdbInsert (cmd : CmdIn) : Statement (.fdbInsert cmd) := by
  intro h s
  show Goes (Sys2Proof.Machine.execFdbInsert cmd s)
  unfold Sys2Proof.Machine.execFdbInsert
  exact goes_onRing h (goes_runCmd _ _ _ _)

theorem fdbDelete (cmd : CmdIn) : Statement (.fdbDelete cmd) := by
  intro h s
  show Goes (Sys2Proof.Machine.execFdbDelete cmd s)
  unfold Sys2Proof.Machine.execFdbDelete
  exact goes_onRing h (goes_runCmd _ _ _ _)

theorem fdbAgeDelete (cmd : CmdIn) : Statement (.fdbAgeDelete cmd) := by
  intro h s
  show Goes (Sys2Proof.Machine.execFdbAgeDelete cmd s)
  unfold Sys2Proof.Machine.execFdbAgeDelete
  exact goes_onRing h (goes_runCmd _ _ _ _)

theorem fdbSearch (cmd : CmdIn) : Statement (.fdbSearch cmd) := by
  intro h s
  show Goes (Sys2Proof.Machine.execFdbSearch cmd s)
  unfold Sys2Proof.Machine.execFdbSearch
  exact goes_onRing h (goes_runCmd _ _ _ _)

theorem fdbNext (cmd : CmdIn) : Statement (.fdbNext cmd) := by
  intro h s
  show Goes (Sys2Proof.Machine.execFdbNext cmd s)
  unfold Sys2Proof.Machine.execFdbNext
  exact goes_onRing h (goes_runCmd _ _ _ _)

theorem fdbFlush (cmd : CmdIn) : Statement (.fdbFlush cmd) := by
  intro h s
  show Goes (Sys2Proof.Machine.execFdbFlush cmd s)
  unfold Sys2Proof.Machine.execFdbFlush
  exact goes_onRing h (goes_runLong _ _ _ _ _)

theorem lpmInsert (cmd : CmdIn) : Statement (.lpmInsert cmd) := by
  intro h s
  show Goes (Sys2Proof.Machine.execLpmInsert cmd s)
  unfold Sys2Proof.Machine.execLpmInsert
  exact goes_onRing h (goes_runCmd _ _ _ _)

theorem lpmDelete (cmd : CmdIn) : Statement (.lpmDelete cmd) := by
  intro h s
  show Goes (Sys2Proof.Machine.execLpmDelete cmd s)
  unfold Sys2Proof.Machine.execLpmDelete
  exact goes_onRing h (goes_runCmd _ _ _ _)

theorem lpmSearch (cmd : CmdIn) : Statement (.lpmSearch cmd) := by
  intro h s
  show Goes (Sys2Proof.Machine.execLpmSearch cmd s)
  unfold Sys2Proof.Machine.execLpmSearch
  exact goes_onRing h (goes_runCmd _ _ _ _)

theorem lpmMatch (cmd : CmdIn) : Statement (.lpmMatch cmd) := by
  intro h s
  show Goes (Sys2Proof.Machine.execLpmMatch cmd s)
  unfold Sys2Proof.Machine.execLpmMatch
  exact goes_onRing h (goes_runCmd _ _ _ _)

theorem lpmNext (cmd : CmdIn) : Statement (.lpmNext cmd) := by
  intro h s
  show Goes (Sys2Proof.Machine.execLpmNext cmd s)
  unfold Sys2Proof.Machine.execLpmNext
  exact goes_onRing h (goes_runCmd _ _ _ _)

theorem lpmFlush (cmd : CmdIn) : Statement (.lpmFlush cmd) := by
  intro h s
  show Goes (Sys2Proof.Machine.execLpmFlush cmd s)
  unfold Sys2Proof.Machine.execLpmFlush
  exact goes_onRing h (goes_runLong _ _ _ _ _)

theorem lpmBackgroundMove (group : Nat) : Statement (.lpmBackgroundMove group) := by
  intro h s
  show Goes (Sys2Proof.Machine.execLpmBackgroundMove group s)
  replace h : (group < 162 : Bool) = true := h
  simp only [decide_eq_true_eq] at h
  unfold Sys2Proof.Machine.execLpmBackgroundMove
  exact goes_onObject (by omega) (goes_whenUp _ _)

theorem flowOpen (cmd : CmdIn) : Statement (.flowOpen cmd) := by
  intro h s
  show Goes (Sys2Proof.Machine.execFlowOpen cmd s)
  unfold Sys2Proof.Machine.execFlowOpen
  exact goes_onRing h (goes_runCmd _ _ _ _)

theorem flowModify (cmd : CmdIn) : Statement (.flowModify cmd) := by
  intro h s
  show Goes (Sys2Proof.Machine.execFlowModify cmd s)
  unfold Sys2Proof.Machine.execFlowModify
  exact goes_onRing h (goes_runCmd _ _ _ _)

theorem flowRead (cmd : CmdIn) : Statement (.flowRead cmd) := by
  intro h s
  show Goes (Sys2Proof.Machine.execFlowRead cmd s)
  unfold Sys2Proof.Machine.execFlowRead
  exact goes_onRing h (goes_runCmd _ _ _ _)

theorem flowClear (cmd : CmdIn) : Statement (.flowClear cmd) := by
  intro h s
  show Goes (Sys2Proof.Machine.execFlowClear cmd s)
  unfold Sys2Proof.Machine.execFlowClear
  exact goes_onRing h (goes_runCmd _ _ _ _)

theorem flowClose (cmd : CmdIn) : Statement (.flowClose cmd) := by
  intro h s
  show Goes (Sys2Proof.Machine.execFlowClose cmd s)
  unfold Sys2Proof.Machine.execFlowClose
  exact goes_onRing h (goes_runCmd _ _ _ _)

theorem flowNext (cmd : CmdIn) : Statement (.flowNext cmd) := by
  intro h s
  show Goes (Sys2Proof.Machine.execFlowNext cmd s)
  unfold Sys2Proof.Machine.execFlowNext
  exact goes_onRing h (goes_runCmd _ _ _ _)

theorem furtherBeadRequest (frame : Nat) : Statement (.furtherBeadRequest frame) := by
  intro h s
  show Goes (Sys2Proof.Machine.execFurtherBeadRequest frame s)
  unfold Sys2Proof.Machine.execFurtherBeadRequest
  exact goes_whenUp _ _

theorem allocatorHandshake (pool : Nat) (requests : List BeadRequest) (frees : List BeadFree) : Statement (.allocatorHandshake pool requests frees) := by
  intro h s
  show Goes (Sys2Proof.Machine.execAllocatorHandshake pool requests frees s)
  replace h : (pool < 16 && requestsOk requests : Bool) = true := h
  simp only [Bool.and_eq_true, decide_eq_true_eq] at h
  unfold Sys2Proof.Machine.execAllocatorHandshake
  refine goes_onObject h.1 ?_
  rw [if_pos h.2]
  exact goes_whenUp _ _

theorem beadDecrement (bead : Nat) (account : BeadAccount) (agent : Nat) : Statement (.beadDecrement bead account agent) := by
  intro h s
  show Goes (Sys2Proof.Machine.execBeadDecrement bead account agent s)
  replace h : (bead < 524288 : Bool) = true := h
  simp only [decide_eq_true_eq] at h
  unfold Sys2Proof.Machine.execBeadDecrement
  exact goes_onObject (by omega) (goes_whenUp _ _)

theorem bufWithdraw (cmd : CmdIn) : Statement (.bufWithdraw cmd) := by
  intro h s
  show Goes (Sys2Proof.Machine.execBufWithdraw cmd s)
  unfold Sys2Proof.Machine.execBufWithdraw
  exact goes_onRing h (goes_whenUp _ _)

theorem withdrawTimeout : Statement .withdrawTimeout := by
  intro h s
  show Goes (Sys2Proof.Machine.execWithdrawTimeout s)
  unfold Sys2Proof.Machine.execWithdrawTimeout
  exact goes_whenUp _ _

theorem bufRestore (cmd : CmdIn) : Statement (.bufRestore cmd) := by
  intro h s
  show Goes (Sys2Proof.Machine.execBufRestore cmd s)
  unfold Sys2Proof.Machine.execBufRestore
  exact goes_onRing h (goes_runCmd _ _ _ _)

theorem spillWrite (queue : Nat) : Statement (.spillWrite queue) := by
  intro h s
  show Goes (Sys2Proof.Machine.execSpillWrite queue s)
  replace h : (queue < 16384 : Bool) = true := h
  simp only [decide_eq_true_eq] at h
  unfold Sys2Proof.Machine.execSpillWrite
  exact goes_onObject (by omega) (goes_whenUp _ _)

theorem spillReturn (queue : Nat) (read : SpillRead) : Statement (.spillReturn queue read) := by
  intro h s
  show Goes (Sys2Proof.Machine.execSpillReturn queue read s)
  replace h : (queue < 16384 && read.outcome.wf 512 : Bool) = true := h
  simp only [Bool.and_eq_true, decide_eq_true_eq] at h
  unfold Sys2Proof.Machine.execSpillReturn
  exact goes_onObject (by omega) (goes_whenUp _ _)

theorem mcastSet (cmd : CmdIn) : Statement (.mcastSet cmd) := by
  intro h s
  show Goes (Sys2Proof.Machine.execMcastSet cmd s)
  unfold Sys2Proof.Machine.execMcastSet
  exact goes_onRing h (goes_runCmd _ _ _ _)

theorem mcastRead (cmd : CmdIn) : Statement (.mcastRead cmd) := by
  intro h s
  show Goes (Sys2Proof.Machine.execMcastRead cmd s)
  unfold Sys2Proof.Machine.execMcastRead
  exact goes_onRing h (goes_runCmd _ _ _ _)

theorem portFlush (port : Nat) : Statement (.portFlush port) := by
  intro h s
  show Goes (Sys2Proof.Machine.execPortFlush port s)
  replace h : (port < 1024 : Bool) = true := h
  simp only [decide_eq_true_eq] at h
  unfold Sys2Proof.Machine.execPortFlush
  exact goes_onPort (by omega) (goes_whenUp _ _)

theorem holdDownExpiry (port : Nat) : Statement (.holdDownExpiry port) := by
  intro h s
  show Goes (Sys2Proof.Machine.execHoldDownExpiry port s)
  replace h : (port < 1024 : Bool) = true := h
  simp only [decide_eq_true_eq] at h
  unfold Sys2Proof.Machine.execHoldDownExpiry
  exact goes_onPort (by omega) (goes_whenUp _ _)

theorem stuckInspection : Statement .stuckInspection := by
  intro h s
  show Goes (Sys2Proof.Machine.execStuckInspection s)
  unfold Sys2Proof.Machine.execStuckInspection
  exact goes_whenUp _ _

theorem stuckReclaim (queue : Nat) : Statement (.stuckReclaim queue) := by
  intro h s
  show Goes (Sys2Proof.Machine.execStuckReclaim queue s)
  replace h : (queue < 16384 : Bool) = true := h
  simp only [decide_eq_true_eq] at h
  unfold Sys2Proof.Machine.execStuckReclaim
  exact goes_onObject (by omega) (goes_whenUp _ _)

theorem policerHandshake (policer : Nat) : Statement (.policerHandshake policer) := by
  intro h s
  show Goes (Sys2Proof.Machine.execPolicerHandshake policer s)
  replace h : (policer < 65536 : Bool) = true := h
  simp only [decide_eq_true_eq] at h
  unfold Sys2Proof.Machine.execPolicerHandshake
  exact goes_onObject (by omega) (goes_whenUp _ _)

theorem tmPolicerSet (cmd : CmdIn) : Statement (.tmPolicerSet cmd) := by
  intro h s
  show Goes (Sys2Proof.Machine.execTmPolicerSet cmd s)
  unfold Sys2Proof.Machine.execTmPolicerSet
  exact goes_onRing h (goes_runCmd _ _ _ _)

theorem tmPolicerRead (cmd : CmdIn) : Statement (.tmPolicerRead cmd) := by
  intro h s
  show Goes (Sys2Proof.Machine.execTmPolicerRead cmd s)
  unfold Sys2Proof.Machine.execTmPolicerRead
  exact goes_onRing h (goes_runCmd _ _ _ _)

theorem tmShaperSet (cmd : CmdIn) : Statement (.tmShaperSet cmd) := by
  intro h s
  show Goes (Sys2Proof.Machine.execTmShaperSet cmd s)
  unfold Sys2Proof.Machine.execTmShaperSet
  exact goes_onRing h (goes_runCmd _ _ _ _)

theorem tmShaperRead (cmd : CmdIn) : Statement (.tmShaperRead cmd) := by
  intro h s
  show Goes (Sys2Proof.Machine.execTmShaperRead cmd s)
  unfold Sys2Proof.Machine.execTmShaperRead
  exact goes_onRing h (goes_runCmd _ _ _ _)

theorem tmGclWrite (cmd : CmdIn) : Statement (.tmGclWrite cmd) := by
  intro h s
  show Goes (Sys2Proof.Machine.execTmGclWrite cmd s)
  unfold Sys2Proof.Machine.execTmGclWrite
  exact goes_onRing h (goes_runCmd _ _ _ _)

theorem tmGclCommit (cmd : CmdIn) : Statement (.tmGclCommit cmd) := by
  intro h s
  show Goes (Sys2Proof.Machine.execTmGclCommit cmd s)
  unfold Sys2Proof.Machine.execTmGclCommit
  exact goes_onRing h (goes_runCmd _ _ _ _)

theorem tmGclCancel (cmd : CmdIn) : Statement (.tmGclCancel cmd) := by
  intro h s
  show Goes (Sys2Proof.Machine.execTmGclCancel cmd s)
  unfold Sys2Proof.Machine.execTmGclCancel
  exact goes_onRing h (goes_runCmd _ _ _ _)

theorem tmGclRead (cmd : CmdIn) : Statement (.tmGclRead cmd) := by
  intro h s
  show Goes (Sys2Proof.Machine.execTmGclRead cmd s)
  unfold Sys2Proof.Machine.execTmGclRead
  exact goes_onRing h (goes_runCmd _ _ _ _)

theorem gateListStart (port : Nat) : Statement (.gateListStart port) := by
  intro h s
  show Goes (Sys2Proof.Machine.execGateListStart port s)
  replace h : (port < 1024 : Bool) = true := h
  simp only [decide_eq_true_eq] at h
  unfold Sys2Proof.Machine.execGateListStart
  exact goes_onPort (by omega) (goes_whenUp _ _)

theorem gateEntryChange (port : Nat) : Statement (.gateEntryChange port) := by
  intro h s
  show Goes (Sys2Proof.Machine.execGateEntryChange port s)
  replace h : (port < 1024 : Bool) = true := h
  simp only [decide_eq_true_eq] at h
  unfold Sys2Proof.Machine.execGateEntryChange
  exact goes_onPort (by omega) (goes_whenUp _ _)

theorem dramScrubRead (granule : Nat) (read : ReadOutcome) : Statement (.dramScrubRead granule read) := by
  intro h s
  show Goes (Sys2Proof.Machine.execDramScrubRead granule read s)
  replace h : (granule < 0xC000000 && read.wf 8 : Bool) = true := h
  simp only [Bool.and_eq_true, decide_eq_true_eq] at h
  unfold Sys2Proof.Machine.execDramScrubRead
  exact goes_onObject (by omega) (goes_whenUp _ _)

theorem caParityAlert (pc : Nat) (alert : ParityAlert) : Statement (.caParityAlert pc alert) := by
  intro h s
  show Goes (Sys2Proof.Machine.execCaParityAlert pc alert s)
  replace h : (pc < 64 && alert.reissue ≤ 32 : Bool) = true := h
  simp only [Bool.and_eq_true, decide_eq_true_eq] at h
  unfold Sys2Proof.Machine.execCaParityAlert
  exact goes_onObject (by omega) (goes_whenUp _ _)

theorem dramRequestTimeout (pc : Nat) : Statement (.dramRequestTimeout pc) := by
  intro h s
  show Goes (Sys2Proof.Machine.execDramRequestTimeout pc s)
  replace h : (pc < 64 : Bool) = true := h
  simp only [decide_eq_true_eq] at h
  unfold Sys2Proof.Machine.execDramRequestTimeout
  exact goes_onObject (by omega) (goes_whenUp _ _)

theorem writeAgeDrain (pc : Nat) : Statement (.writeAgeDrain pc) := by
  intro h s
  show Goes (Sys2Proof.Machine.execWriteAgeDrain pc s)
  replace h : (pc < 64 : Bool) = true := h
  simp only [decide_eq_true_eq] at h
  unfold Sys2Proof.Machine.execWriteAgeDrain
  exact goes_onObject (by omega) (goes_whenUp _ _)

theorem refresh (stack : Nat) : Statement (.refresh stack) := by
  intro h s
  show Goes (Sys2Proof.Machine.execRefresh stack s)
  replace h : (stack < 2 : Bool) = true := h
  simp only [decide_eq_true_eq] at h
  unfold Sys2Proof.Machine.execRefresh
  exact goes_onObject (by omega) (goes_whenUp _ _)

theorem dramTempRead (temps : StackTemps) (trip : Bool) : Statement (.dramTempRead temps trip) := by
  intro h s
  show Goes (Sys2Proof.Machine.execDramTempRead temps trip s)
  unfold Sys2Proof.Machine.execDramTempRead
  exact goes_whenUp _ _

theorem rowGuardRefresh (bank : Nat) (row : Nat) : Statement (.rowGuardRefresh bank row) := by
  intro h s
  show Goes (Sys2Proof.Machine.execRowGuardRefresh bank row s)
  replace h : (bank < 3072 && row < 16384 : Bool) = true := h
  simp only [Bool.and_eq_true, decide_eq_true_eq] at h
  unfold Sys2Proof.Machine.execRowGuardRefresh
  exact goes_onObject (by omega) (goes_onObject (by omega) (goes_whenUp _ _))

theorem stackPark (stack : Nat) : Statement (.stackPark stack) := by
  intro h s
  show Goes (Sys2Proof.Machine.execStackPark stack s)
  replace h : (stack < 2 : Bool) = true := h
  simp only [decide_eq_true_eq] at h
  unfold Sys2Proof.Machine.execStackPark
  exact goes_onObject (by omega) (goes_whenUp _ _)

theorem stackWake (stack : Nat) : Statement (.stackWake stack) := by
  intro h s
  show Goes (Sys2Proof.Machine.execStackWake stack s)
  replace h : (stack < 2 : Bool) = true := h
  simp only [decide_eq_true_eq] at h
  unfold Sys2Proof.Machine.execStackWake
  exact goes_onObject (by omega) (goes_whenUp _ _)

theorem sidIdle (stack : Nat) (sid : Nat) : Statement (.sidIdle stack sid) := by
  intro h s
  show Goes (Sys2Proof.Machine.execSidIdle stack sid s)
  replace h : (stack < 2 && sid < 3 : Bool) = true := h
  simp only [Bool.and_eq_true, decide_eq_true_eq] at h
  unfold Sys2Proof.Machine.execSidIdle
  exact goes_onObject (by omega) (goes_onObject (by omega) (goes_whenUp _ _))

theorem dramServiceWrite (value : Nat) : Statement (.dramServiceWrite value) := by
  intro h s
  show Goes (Sys2Proof.Machine.execDramServiceWrite value s)
  unfold Sys2Proof.Machine.execDramServiceWrite
  exact goes_whenUp _ _

theorem dramTrainStart : Statement .dramTrainStart := by
  intro h s
  show Goes (Sys2Proof.Machine.execDramTrainStart s)
  unfold Sys2Proof.Machine.execDramTrainStart
  exact goes_whenUp _ _

theorem dramTraining (pc : Nat) (failedLanes : Nat) (ok : Bool) : Statement (.dramTraining pc failedLanes ok) := by
  intro h s
  show Goes (Sys2Proof.Machine.execDramTraining pc failedLanes ok s)
  replace h : (pc < 64 && failedLanes ≤ 64 : Bool) = true := h
  simp only [Bool.and_eq_true, decide_eq_true_eq] at h
  unfold Sys2Proof.Machine.execDramTraining
  exact goes_onObject (by omega) (goes_whenUp _ _)

theorem dramTrainRead : Statement .dramTrainRead := by
  intro h s
  show Goes (Sys2Proof.Machine.execDramTrainRead s)
  unfold Sys2Proof.Machine.execDramTrainRead
  exact goes_whenUp _ _

theorem dramRecal (pc : Nat) : Statement (.dramRecal pc) := by
  intro h s
  show Goes (Sys2Proof.Machine.execDramRecal pc s)
  replace h : (pc < 64 : Bool) = true := h
  simp only [decide_eq_true_eq] at h
  unfold Sys2Proof.Machine.execDramRecal
  exact goes_onObject (by omega) (goes_whenUp _ _)

theorem linkTraining (ok : Bool) : Statement (.linkTraining ok) := by
  intro h s
  show Goes (Sys2Proof.Machine.execLinkTraining ok s)
  unfold Sys2Proof.Machine.execLinkTraining
  exact goes_whenUp _ _

theorem linkTrainingDone (repaired : Bool) : Statement (.linkTrainingDone repaired) := by
  intro h s
  show Goes (Sys2Proof.Machine.execLinkTrainingDone repaired s)
  unfold Sys2Proof.Machine.execLinkTrainingDone
  exact goes_whenUp _ _

theorem linkTrainRestart : Statement .linkTrainRestart := by
  intro h s
  show Goes (Sys2Proof.Machine.execLinkTrainRestart s)
  unfold Sys2Proof.Machine.execLinkTrainRestart
  exact goes_whenUp _ _

theorem linkRetrain (retries : Nat) (phyError : Bool) : Statement (.linkRetrain retries phyError) := by
  intro h s
  show Goes (Sys2Proof.Machine.execLinkRetrain retries phyError s)
  unfold Sys2Proof.Machine.execLinkRetrain
  exact goes_whenUp _ _

theorem cfgRd (msg : HostIn) : Statement (.cfgRd msg) := by
  intro h s
  show Goes (Sys2Proof.Machine.execCfgRd msg s)
  replace h : (msg.wf : Bool) = true := h
  simp only [HostIn.wf, Bool.and_eq_true, decide_eq_true_eq] at h
  unfold Sys2Proof.Machine.execCfgRd
  exact goes_onObject (by omega) (goes_whenUp _ _)

theorem cfgWr (msg : HostIn) : Statement (.cfgWr msg) := by
  intro h s
  show Goes (Sys2Proof.Machine.execCfgWr msg s)
  replace h : (msg.wf : Bool) = true := h
  simp only [HostIn.wf, Bool.and_eq_true, decide_eq_true_eq] at h
  unfold Sys2Proof.Machine.execCfgWr
  exact goes_onObject (by omega) (goes_whenUp _ _)

theorem dbWr (msg : HostIn) : Statement (.dbWr msg) := by
  intro h s
  show Goes (Sys2Proof.Machine.execDbWr msg s)
  replace h : (msg.wf : Bool) = true := h
  simp only [HostIn.wf, Bool.and_eq_true, decide_eq_true_eq] at h
  unfold Sys2Proof.Machine.execDbWr
  exact goes_onObject (by omega) (goes_whenUp _ _)

theorem reply (msg : HostIn) : Statement (.reply msg) := by
  intro h s
  show Goes (Sys2Proof.Machine.execReply msg s)
  replace h : (msg.wf : Bool) = true := h
  simp only [HostIn.wf, Bool.and_eq_true, decide_eq_true_eq] at h
  unfold Sys2Proof.Machine.execReply
  exact goes_onObject (by omega) (goes_whenUp _ _)

theorem credit (msg : HostIn) : Statement (.credit msg) := by
  intro h s
  show Goes (Sys2Proof.Machine.execCredit msg s)
  replace h : (msg.wf : Bool) = true := h
  simp only [HostIn.wf, Bool.and_eq_true, decide_eq_true_eq] at h
  unfold Sys2Proof.Machine.execCredit
  exact goes_onObject (by omega) (goes_whenUp _ _)

theorem memRdTimeout (tag : Nat) : Statement (.memRdTimeout tag) := by
  intro h s
  show Goes (Sys2Proof.Machine.execMemRdTimeout tag s)
  replace h : (tag < 1024 : Bool) = true := h
  simp only [decide_eq_true_eq] at h
  unfold Sys2Proof.Machine.execMemRdTimeout
  exact goes_onObject (by omega) (goes_whenUp _ _)

theorem hostLost : Statement .hostLost := by
  intro h s
  show Goes (Sys2Proof.Machine.execHostLost s)
  unfold Sys2Proof.Machine.execHostLost
  exact goes_whenUp _ _

theorem warmReset : Statement .warmReset := by
  intro h s
  show Goes (Sys2Proof.Machine.execWarmReset s)
  unfold Sys2Proof.Machine.execWarmReset
  exact goes_whenUp _ _

theorem descriptorTake : Statement .descriptorTake := by
  intro h s
  show Goes (Sys2Proof.Machine.execDescriptorTake s)
  unfold Sys2Proof.Machine.execDescriptorTake
  exact goes_whenUp _ _

theorem injectDescriptor (ring : Nat) : Statement (.injectDescriptor ring) := by
  intro h s
  show Goes (Sys2Proof.Machine.execInjectDescriptor ring s)
  replace h : (48 ≤ ring && ring < 61 : Bool) = true := h
  simp only [Bool.and_eq_true, decide_eq_true_eq] at h
  unfold Sys2Proof.Machine.execInjectDescriptor
  exact goes_onObject (by omega) (goes_whenUp _ _)

theorem indexBlockWrite (ring : Nat) : Statement (.indexBlockWrite ring) := by
  intro h s
  show Goes (Sys2Proof.Machine.execIndexBlockWrite ring s)
  replace h : (ring < 64 : Bool) = true := h
  simp only [decide_eq_true_eq] at h
  unfold Sys2Proof.Machine.execIndexBlockWrite
  exact goes_onObject (by omega) (goes_whenUp _ _)

theorem ringEnable (ring : Nat) (value : Nat) : Statement (.ringEnable ring value) := by
  intro h s
  show Goes (Sys2Proof.Machine.execRingEnable ring value s)
  replace h : (ring < 64 && word32 value : Bool) = true := h
  simp only [Bool.and_eq_true, decide_eq_true_eq] at h
  unfold Sys2Proof.Machine.execRingEnable
  exact goes_onObject (by omega) (goes_whenUp _ _)

theorem ringResume (ring : Nat) : Statement (.ringResume ring) := by
  intro h s
  show Goes (Sys2Proof.Machine.execRingResume ring s)
  replace h : (ring < 64 : Bool) = true := h
  simp only [decide_eq_true_eq] at h
  unfold Sys2Proof.Machine.execRingResume
  exact goes_onObject (by omega) (goes_whenUp _ _)

theorem puntWrite (frame : Nat) : Statement (.puntWrite frame) := by
  intro h s
  show Goes (Sys2Proof.Machine.execPuntWrite frame s)
  unfold Sys2Proof.Machine.execPuntWrite
  exact goes_whenUp _ _

theorem counterSweep (reads : List (Nat × ReadOutcome)) : Statement (.counterSweep reads) := by
  intro h s
  show Goes (Sys2Proof.Machine.execCounterSweep reads s)
  unfold Sys2Proof.Machine.execCounterSweep
  exact goes_whenUp _ _

theorem collectorScan (block : Nat) : Statement (.collectorScan block) := by
  intro h s
  show Goes (Sys2Proof.Machine.execCollectorScan block s)
  replace h : (block < 13 : Bool) = true := h
  simp only [decide_eq_true_eq] at h
  unfold Sys2Proof.Machine.execCollectorScan
  exact goes_onObject (by omega) (goes_whenUp _ _)

theorem eventEntryWrite : Statement .eventEntryWrite := by
  intro h s
  show Goes (Sys2Proof.Machine.execEventEntryWrite s)
  unfold Sys2Proof.Machine.execEventEntryWrite
  exact goes_whenUp _ _

theorem evtMaskWrite (word : Nat) (value : Nat) : Statement (.evtMaskWrite word value) := by
  intro h s
  show Goes (Sys2Proof.Machine.execEvtMaskWrite word value s)
  replace h : (word < 128 && word32 value : Bool) = true := h
  simp only [Bool.and_eq_true, decide_eq_true_eq] at h
  unfold Sys2Proof.Machine.execEvtMaskWrite
  exact goes_onObject (by omega) (goes_whenUp _ _)

theorem keepaliveExpiry : Statement .keepaliveExpiry := by
  intro h s
  show Goes (Sys2Proof.Machine.execKeepaliveExpiry s)
  unfold Sys2Proof.Machine.execKeepaliveExpiry
  exact goes_whenUp _ _

theorem keepaliveWrite (value : Nat) : Statement (.keepaliveWrite value) := by
  intro h s
  show Goes (Sys2Proof.Machine.execKeepaliveWrite value s)
  unfold Sys2Proof.Machine.execKeepaliveWrite
  exact goes_whenUp _ _

theorem funcReset (value : Nat) : Statement (.funcReset value) := by
  intro h s
  show Goes (Sys2Proof.Machine.execFuncReset value s)
  unfold Sys2Proof.Machine.execFuncReset
  exact goes_whenUp _ _

theorem funcResetDone (func : Nat) (ok : Bool) : Statement (.funcResetDone func ok) := by
  intro h s
  show Goes (Sys2Proof.Machine.execFuncResetDone func ok s)
  replace h : (func < 12 : Bool) = true := h
  simp only [decide_eq_true_eq] at h
  unfold Sys2Proof.Machine.execFuncResetDone
  exact goes_onObject (by omega) (goes_whenUp _ _)

theorem patchLoad (value : Nat) : Statement (.patchLoad value) := by
  intro h s
  show Goes (Sys2Proof.Machine.execPatchLoad value s)
  unfold Sys2Proof.Machine.execPatchLoad
  exact goes_whenUp _ _

theorem patchCheckDone : Statement .patchCheckDone := by
  intro h s
  show Goes (Sys2Proof.Machine.execPatchCheckDone s)
  unfold Sys2Proof.Machine.execPatchCheckDone
  exact goes_whenUp _ _

theorem routineStart : Statement .routineStart := by
  intro h s
  show Goes (Sys2Proof.Machine.execRoutineStart s)
  unfold Sys2Proof.Machine.execRoutineStart
  exact goes_whenUp _ _

theorem routineCheckpoint (engine : Nat) : Statement (.routineCheckpoint engine) := by
  intro h s
  show Goes (Sys2Proof.Machine.execRoutineCheckpoint engine s)
  replace h : (engine < 8 : Bool) = true := h
  simp only [decide_eq_true_eq] at h
  unfold Sys2Proof.Machine.execRoutineCheckpoint
  exact goes_onObject (by omega) (goes_whenUp _ _)

theorem engineHalt (engine : Nat) : Statement (.engineHalt engine) := by
  intro h s
  show Goes (Sys2Proof.Machine.execEngineHalt engine s)
  replace h : (engine < 8 : Bool) = true := h
  simp only [decide_eq_true_eq] at h
  unfold Sys2Proof.Machine.execEngineHalt
  exact goes_onObject (by omega) (goes_whenUp _ _)

theorem bootStage (romOk : Bool) (fuseOk : Bool) (identityOk : Bool) : Statement (.bootStage romOk fuseOk identityOk) := by
  intro h s
  show Goes (Sys2Proof.Machine.execBootStage romOk fuseOk identityOk s)
  unfold Sys2Proof.Machine.execBootStage
  exact goes_whenUp _ _

theorem secAttest (cmd : CmdIn) : Statement (.secAttest cmd) := by
  intro h s
  show Goes (Sys2Proof.Machine.execSecAttest cmd s)
  unfold Sys2Proof.Machine.execSecAttest
  exact goes_onRing h (goes_runCmd _ _ _ _)

theorem bundleLoad (value : Nat) : Statement (.bundleLoad value) := by
  intro h s
  show Goes (Sys2Proof.Machine.execBundleLoad value s)
  unfold Sys2Proof.Machine.execBundleLoad
  exact goes_whenUp _ _

theorem bundleDone : Statement .bundleDone := by
  intro h s
  show Goes (Sys2Proof.Machine.execBundleDone s)
  unfold Sys2Proof.Machine.execBundleDone
  exact goes_whenUp _ _

theorem debugTokenLoad (value : Nat) : Statement (.debugTokenLoad value) := by
  intro h s
  show Goes (Sys2Proof.Machine.execDebugTokenLoad value s)
  unfold Sys2Proof.Machine.execDebugTokenLoad
  exact goes_whenUp _ _

theorem claim : Statement .claim := by
  intro h s
  show Goes (Sys2Proof.Machine.execClaim s)
  unfold Sys2Proof.Machine.execClaim
  exact goes_whenUp _ _

theorem yieldRole : Statement .yieldRole := by
  intro h s
  show Goes (Sys2Proof.Machine.execYieldRole s)
  unfold Sys2Proof.Machine.execYieldRole
  exact goes_whenUp _ _

theorem holdInChange (level : Bool) : Statement (.holdInChange level) := by
  intro h s
  show Goes (Sys2Proof.Machine.execHoldInChange level s)
  unfold Sys2Proof.Machine.execHoldInChange
  exact goes_finish _

theorem transmitEnable : Statement .transmitEnable := by
  intro h s
  show Goes (Sys2Proof.Machine.execTransmitEnable s)
  unfold Sys2Proof.Machine.execTransmitEnable
  exact goes_whenUp _ _

theorem yieldRelease : Statement .yieldRelease := by
  intro h s
  show Goes (Sys2Proof.Machine.execYieldRelease s)
  unfold Sys2Proof.Machine.execYieldRelease
  exact goes_whenUp _ _

theorem holdFaultDetect : Statement .holdFaultDetect := by
  intro h s
  show Goes (Sys2Proof.Machine.execHoldFaultDetect s)
  unfold Sys2Proof.Machine.execHoldFaultDetect
  exact goes_whenUp _ _

theorem stateRecordReceive (frame : List Byte) (fcsOk : Bool) : Statement (.stateRecordReceive frame fcsOk) := by
  intro h s
  show Goes (Sys2Proof.Machine.execStateRecordReceive frame fcsOk s)
  unfold Sys2Proof.Machine.execStateRecordReceive
  exact goes_whenUp _ _

theorem stateResend : Statement .stateResend := by
  intro h s
  show Goes (Sys2Proof.Machine.execStateResend s)
  unfold Sys2Proof.Machine.execStateResend
  exact goes_whenUp _ _

theorem heartbeatSend : Statement .heartbeatSend := by
  intro h s
  show Goes (Sys2Proof.Machine.execHeartbeatSend s)
  unfold Sys2Proof.Machine.execHeartbeatSend
  exact goes_whenUp _ _

theorem heartbeatReceive (frame : List Byte) (fcsOk : Bool) : Statement (.heartbeatReceive frame fcsOk) := by
  intro h s
  show Goes (Sys2Proof.Machine.execHeartbeatReceive frame fcsOk s)
  unfold Sys2Proof.Machine.execHeartbeatReceive
  exact goes_whenUp _ _

theorem heartbeatLoss : Statement .heartbeatLoss := by
  intro h s
  show Goes (Sys2Proof.Machine.execHeartbeatLoss s)
  unfold Sys2Proof.Machine.execHeartbeatLoss
  exact goes_whenUp _ _

theorem digestSend : Statement .digestSend := by
  intro h s
  show Goes (Sys2Proof.Machine.execDigestSend s)
  unfold Sys2Proof.Machine.execDigestSend
  exact goes_whenUp _ _

theorem windowCompare (window : Nat) (peer : List DigestFrame) : Statement (.windowCompare window peer) := by
  intro h s
  show Goes (Sys2Proof.Machine.execWindowCompare window peer s)
  unfold Sys2Proof.Machine.execWindowCompare
  exact goes_whenUp _ _

theorem peerReleaseTakeover : Statement .peerReleaseTakeover := by
  intro h s
  show Goes (Sys2Proof.Machine.execPeerReleaseTakeover s)
  unfold Sys2Proof.Machine.execPeerReleaseTakeover
  exact goes_whenUp _ _

theorem takeoverLapse : Statement .takeoverLapse := by
  intro h s
  show Goes (Sys2Proof.Machine.execTakeoverLapse s)
  unfold Sys2Proof.Machine.execTakeoverLapse
  exact goes_whenUp _ _

theorem tallyFollowTimeout : Statement .tallyFollowTimeout := by
  intro h s
  show Goes (Sys2Proof.Machine.execTallyFollowTimeout s)
  unfold Sys2Proof.Machine.execTallyFollowTimeout
  exact goes_whenUp _ _

theorem pairResync (cmd : CmdIn) : Statement (.pairResync cmd) := by
  intro h s
  show Goes (Sys2Proof.Machine.execPairResync cmd s)
  unfold Sys2Proof.Machine.execPairResync
  exact goes_onRing h (goes_whenUp _ _)

theorem resyncComplete : Statement .resyncComplete := by
  intro h s
  show Goes (Sys2Proof.Machine.execResyncComplete s)
  unfold Sys2Proof.Machine.execResyncComplete
  exact goes_whenUp _ _

theorem spanCtrlWrite (value : Nat) : Statement (.spanCtrlWrite value) := by
  intro h s
  show Goes (Sys2Proof.Machine.execSpanCtrlWrite value s)
  unfold Sys2Proof.Machine.execSpanCtrlWrite
  exact goes_whenUp _ _

theorem spanControlSend (port : Nat) : Statement (.spanControlSend port) := by
  intro h s
  show Goes (Sys2Proof.Machine.execSpanControlSend port s)
  replace h : (port < 1024 : Bool) = true := h
  simp only [decide_eq_true_eq] at h
  unfold Sys2Proof.Machine.execSpanControlSend
  exact goes_onPort (by omega) (goes_whenUp _ _)

theorem spanControlReceive (port : Nat) (frame : List Byte) (fcsOk : Bool) : Statement (.spanControlReceive port frame fcsOk) := by
  intro h s
  show Goes (Sys2Proof.Machine.execSpanControlReceive port frame fcsOk s)
  replace h : (port < 1024 : Bool) = true := h
  simp only [decide_eq_true_eq] at h
  unfold Sys2Proof.Machine.execSpanControlReceive
  exact goes_onPort (by omega) (goes_whenUp _ _)

theorem spanDataReceive (port : Nat) (frame : List Byte) (fcsOk : Bool) : Statement (.spanDataReceive port frame fcsOk) := by
  intro h s
  show Goes (Sys2Proof.Machine.execSpanDataReceive port frame fcsOk s)
  replace h : (port < 1024 : Bool) = true := h
  simp only [decide_eq_true_eq] at h
  unfold Sys2Proof.Machine.execSpanDataReceive
  exact goes_onPort (by omega) (goes_whenUp _ _)

theorem dramTrainingRequest : Statement .dramTrainingRequest := by
  intro h s
  show Goes (Sys2Proof.Machine.execDramTrainingRequest s)
  unfold Sys2Proof.Machine.execDramTrainingRequest
  exact goes_whenUp _ _

theorem startReady : Statement .startReady := by
  intro h s
  show Goes (Sys2Proof.Machine.execStartReady s)
  unfold Sys2Proof.Machine.execStartReady
  exact goes_whenUp _ _

theorem startLate : Statement .startLate := by
  intro h s
  show Goes (Sys2Proof.Machine.execStartLate s)
  unfold Sys2Proof.Machine.execStartLate
  exact goes_whenUp _ _

theorem tableScrubRead (target : ScrubTarget) : Statement (.tableScrubRead target) := by
  intro h s
  show Goes (Sys2Proof.Machine.execTableScrubRead target s)
  unfold Sys2Proof.Machine.execTableScrubRead
  exact goes_whenUp _ _

theorem bistStart (value : Nat) : Statement (.bistStart value) := by
  intro h s
  show Goes (Sys2Proof.Machine.execBistStart value s)
  unfold Sys2Proof.Machine.execBistStart
  exact goes_whenUp _ _

theorem bistDone (failing : Option Nat) : Statement (.bistDone failing) := by
  intro h s
  show Goes (Sys2Proof.Machine.execBistDone failing s)
  replace h : failingWf failing = true := h
  unfold Sys2Proof.Machine.execBistDone
  refine goes_onObject ?_ (goes_whenUp _ _)
  cases failing <;> simp_all [failingWf]

theorem obsWrite (word : Nat) (value : Nat) : Statement (.obsWrite word value) := by
  intro h s
  show Goes (Sys2Proof.Machine.execObsWrite word value s)
  replace h : (word < 262144 && word32 value : Bool) = true := h
  simp only [Bool.and_eq_true, decide_eq_true_eq] at h
  unfold Sys2Proof.Machine.execObsWrite
  exact goes_onObject (by omega) (goes_whenUp _ _)

theorem jtagInstruction (opcode : Nat) : Statement (.jtagInstruction opcode) := by
  intro h s
  show Goes (Sys2Proof.Machine.execJtagInstruction opcode s)
  replace h : (opcode < 256 : Bool) = true := h
  simp only [decide_eq_true_eq] at h
  unfold Sys2Proof.Machine.execJtagInstruction
  exact goes_onObject (by omega) (goes_finish _)

theorem tapReset : Statement .tapReset := by
  intro h s
  show Goes (Sys2Proof.Machine.execTapReset s)
  unfold Sys2Proof.Machine.execTapReset
  exact goes_finish _

theorem handoffReceive (frame : List Byte) (fcsOk : Bool) : Statement (.handoffReceive frame fcsOk) := by
  intro h s
  show Goes (Sys2Proof.Machine.execHandoffReceive frame fcsOk s)
  unfold Sys2Proof.Machine.execHandoffReceive
  exact goes_whenUp _ _

theorem readIdleDrain (pc : Nat) : Statement (.readIdleDrain pc) := by
  intro h s
  show Goes (Sys2Proof.Machine.execReadIdleDrain pc s)
  replace h : (pc < 64 : Bool) = true := h
  simp only [decide_eq_true_eq] at h
  unfold Sys2Proof.Machine.execReadIdleDrain
  exact goes_onObject (by omega) (goes_whenUp _ _)

theorem reservedTypeMessage (msg : HostIn) : Statement (.reservedTypeMessage msg) := by
  intro h s
  show Goes (Sys2Proof.Machine.execReservedTypeMessage msg s)
  replace h : (msg.wf : Bool) = true := h
  simp only [HostIn.wf, Bool.and_eq_true, decide_eq_true_eq] at h
  unfold Sys2Proof.Machine.execReservedTypeMessage
  exact goes_onObject (by omega) (goes_whenUp _ _)

end Sys2Proof.Laws.Reaches
end

