-- ==== Sys2Proof/Laws/Registers.lean ====
section
/-! SUPPORT. No two registers of the register map share an address (R575, R578): a field belongs to the registers that a list
names only when the list names its own register. -/

namespace Sys2Proof.Machine

/-- The end of the stretch of addresses in which the registers of a family lie. -/
def RegFam.stop (f : RegFam) : Nat := f.base + f.stride * (f.count - 1) + f.stride2 * (f.count2 - 1) + 1

/-- The stretch within one repeat of a family's first stride. -/
def RegFam.span (f : RegFam) : Nat := f.base % f.stride + f.stride2 * (f.count2 - 1) + 1

/-- Two families lie in separate stretches, or interleave with one stride at separate offsets. -/
def RegFam.apart (f g : RegFam) : Bool :=
  f.stop ≤ g.base || g.stop ≤ f.base ||
  (f.stride == g.stride && f.stride != 0 && f.span ≤ f.stride && g.span ≤ g.stride &&
    (f.span ≤ g.base % g.stride || g.span ≤ f.base % f.stride))

/-- A register of a family has this address. -/
def RegFam.has (f : RegFam) (a : Nat) : Prop :=
  ∃ i j, i ≤ f.count - 1 ∧ j ≤ f.count2 - 1 ∧ a = f.base + f.stride * i + f.stride2 * j

theorem RegFam.has_lt {f : RegFam} {a : Nat} (h : f.has a) : f.base ≤ a ∧ a < f.stop := by
  obtain ⟨i, j, hi, hj, rfl⟩ := h
  have h1 := Nat.mul_le_mul_left f.stride hi
  have h2 := Nat.mul_le_mul_left f.stride2 hj
  unfold RegFam.stop
  omega

theorem RegFam.has_mod {f : RegFam} {a : Nat} (h : f.has a) (hs : f.span ≤ f.stride) :
    f.base % f.stride ≤ a % f.stride ∧ a % f.stride < f.span := by
  obtain ⟨i, j, _, hj, rfl⟩ := h
  have h2 := Nat.mul_le_mul_left f.stride2 hj
  have h3 : (f.base + f.stride * i + f.stride2 * j) % f.stride = (f.base % f.stride + f.stride2 * j) % f.stride := by
    rw [Nat.add_right_comm, Nat.add_mul_mod_self_left, ← Nat.mod_add_mod]
  have h4 : f.base % f.stride + f.stride2 * j < f.stride := by unfold RegFam.span at hs; omega
  rw [h3, Nat.mod_eq_of_lt h4]
  unfold RegFam.span
  omega

theorem RegFam.apart_has {f g : RegFam} {a : Nat} (h : f.apart g = true) (hf : f.has a) (hg : g.has a) : False := by
  have h1 := has_lt hf
  have h2 := has_lt hg
  simp only [RegFam.apart, Bool.or_eq_true, Bool.and_eq_true, decide_eq_true_eq, beq_iff_eq, bne_iff_ne] at h
  rcases h with (h | h) | ⟨⟨⟨⟨h, _⟩, h4⟩, h5⟩, h6⟩
  · omega
  · omega
  · have h7 := has_mod hf h4
    have h8 := has_mod hg h5
    rw [← h] at h8 h6
    omega

theorem RegFam.apart_symm (f g : RegFam) (h : f.apart g = true) : g.apart f = true := by
  simp only [RegFam.apart, Bool.or_eq_true, Bool.and_eq_true, decide_eq_true_eq, beq_iff_eq, bne_iff_ne] at *
  rcases h with (h | h) | ⟨⟨⟨⟨h, h3⟩, h4⟩, h5⟩, h6⟩
  · exact .inl (.inr h)
  · exact .inl (.inl h)
  · exact .inr ⟨⟨⟨⟨h.symm, h ▸ h3⟩, h5⟩, h4⟩, h6.symm⟩

/-- A field at an index stands at the address that the strides give. -/
theorem RegFam.has_index {f : RegFam} (i j : Nat) {a : Nat} (hc : 0 < f.count) (hc2 : 0 < f.count2)
    (h : a = f.base + f.stride * (i % f.count) + f.stride2 * (j % f.count2)) : f.has a :=
  ⟨i % f.count, j % f.count2, by have := Nat.mod_lt i hc; omega, by have := Nat.mod_lt j hc2; omega, h⟩

/-- Each field of a family stands at one of its addresses. -/
def RegFam.placed (f : RegFam) : Prop := ∀ i j, ∀ e ∈ f.fields i j, f.has e.2.addr ∧ e.2.lo < 32

/-- What is checked of the families of a page: they lie in the page and apart from one another, and each field stands at one of
its family's addresses. -/
structure PageOk (n : Nat) (l : List RegFam) : Prop where
  inside : ∀ f ∈ l, n * 0x100000 ≤ f.base ∧ f.stop ≤ (n + 1) * 0x100000
  apart : l.Pairwise fun f g => f.apart g = true
  placed : ∀ f ∈ l, f.placed

theorem page_ok_0 : PageOk 0 famsPage0 := by
  refine ⟨by decide, by decide, ?_⟩
  unfold famsPage0
  simp only [List.forall_mem_cons, List.not_mem_nil, false_imp_iff, implies_true, and_true]
  repeat' apply And.intro
  all_goals
    intro i j
    simp only [List.forall_mem_cons, List.not_mem_nil, false_imp_iff, implies_true, and_true]
    repeat' apply And.intro
    all_goals
      first
      | (with_reducible refine RegFam.has_index i j (by decide) (by decide) ?_; dsimp only [Reg.SYS_ID_VENDOR_VENDOR, Reg.SYS_ID_DEVICE_PART, Reg.SYS_ID_DEVICE_PACKAGE, Reg.SYS_ID_STEPPING_MAJOR, Reg.SYS_ID_STEPPING_MINOR, Reg.SYS_ID_STEPPING_METAL, Reg.SYS_ID_MAP_PAGES, Reg.SYS_ID_MAP_MAP_VER, Reg.SYS_SCRATCH_VALUE, Reg.SYS_CORE_SPEED_MIN_MT, Reg.SYS_CORE_SPEED_NOW_MT, Reg.SYS_STRAP_CHANGED, Reg.SYS_STRAP_TEST_EN, Reg.SYS_STRAP_BOARD_POS, Reg.SYS_STRAP_PAIR_EN, Reg.SYS_STRAP_SENIOR, Reg.SYS_CLK_STATUS_DOMB_LOST, Reg.SYS_CLK_STATUS_DOMA_LOST, Reg.SYS_CLK_STATUS_CORE_LOST, Reg.SYS_CLK_STATUS_ON_OSC, Reg.SYS_CLK_STATUS_DOMB_OK, Reg.SYS_CLK_STATUS_DOMA_OK, Reg.SYS_CLK_STATUS_CORE_OK, Reg.SYS_CLK_LANE_OK_GROUP_OK, Reg.SYS_CLK_LANE_LOST_GROUP_LOST, Reg.SYS_TEMP_MAX_T, Reg.SYS_TEMP_NOW_T, Reg.SYS_SUPPLY_FLAGS_VDDIO_OUT, Reg.SYS_SUPPLY_FLAGS_VPP_HBM_OUT, Reg.SYS_SUPPLY_FLAGS_VDDQ_HBM_OUT, Reg.SYS_SUPPLY_FLAGS_VDD_HBM_OUT, Reg.SYS_SUPPLY_FLAGS_VDD_DPHY_OUT, Reg.SYS_SUPPLY_FLAGS_VDD_LANE_T_OUT, Reg.SYS_SUPPLY_FLAGS_VDD_LANE_A_OUT, Reg.SYS_SUPPLY_FLAGS_VDD_SRAM_OUT, Reg.SYS_SUPPLY_FLAGS_VDD_CORE_OUT, Reg.SYS_CTRL_WARM_RESET, Reg.SYS_RESET_CAUSE_CAUSE, Reg.SYS_FUNC_RESET_FUNC, Reg.SYS_FUNC_STATUS_STATE, Reg.SYS_FUNC_EVT_FAILED, Reg.SYS_FUNC_EVT_DONE, Reg.SYS_START_STATUS_READY, Reg.SYS_START_STATUS_FAILED, Reg.SYS_START_STATUS_LATE, Reg.SYS_START_STATUS_ELAPSED_MS, Reg.SYS_START_STATUS_FUNCS_UP, Reg.SYS_START_STATUS_DRAM_TRAINED, Reg.SYS_START_STATUS_PATCH_SETTLED, Reg.SYS_START_STATUS_LINK_ACTIVE, Reg.SYS_START_STATUS_BOOT_DONE, Reg.SYS_BIST_CTRL_START, Reg.SYS_BIST_CTRL_BLOCK, Reg.SYS_BIST_STATUS_STATE, Reg.SYS_BIST_STATUS_FAIL_EVT, Reg.SYS_BIST_STATUS_BLOCK, Reg.SYS_BIST_STATUS_BEAD, Reg.SYS_SCRUB_CTRL_EN, Reg.SYS_SCRUB_PASSES_COUNT]; omega)
      | exact Nat.le_of_ble_eq_true rfl

theorem page_ok_1 : PageOk 1 famsPage1 := by
  refine ⟨by decide, by decide, ?_⟩
  unfold famsPage1
  simp only [List.forall_mem_cons, List.not_mem_nil, false_imp_iff, implies_true, and_true]
  repeat' apply And.intro
  all_goals
    intro i j
    simp only [List.forall_mem_cons, List.not_mem_nil, false_imp_iff, implies_true, and_true]
    repeat' apply And.intro
    all_goals
      first
      | (with_reducible refine RegFam.has_index i j (by decide) (by decide) ?_; dsimp only [Reg.LANE_TX_INVERT_TX_INV, Reg.LANE_RX_INVERT_RX_INV]; omega)
      | exact Nat.le_of_ble_eq_true rfl

theorem page_ok_2 : PageOk 2 famsPage2 := by
  refine ⟨by decide, by decide, ?_⟩
  unfold famsPage2
  simp only [List.forall_mem_cons, List.not_mem_nil, false_imp_iff, implies_true, and_true]
  repeat' apply And.intro
  all_goals
    intro i j
    simp only [List.forall_mem_cons, List.not_mem_nil, false_imp_iff, implies_true, and_true]
    repeat' apply And.intro
    all_goals
      first
      | (with_reducible refine RegFam.has_index i j (by decide) (by decide) ?_; dsimp only [Reg.MAC_OCTET_MODE_RATE, Reg.MAC_OCTET_MODE_MODE, Reg.MAC_SA_BASE_LO_ADDR_LO, Reg.MAC_SA_BASE_HI_ADDR_HI, Reg.MAC_PORT_CTRL_DN_DEBOUNCE, Reg.MAC_PORT_CTRL_UP_DEBOUNCE, Reg.MAC_PORT_CTRL_FLOW_CTRL, Reg.MAC_PORT_CTRL_LOOPBACK, Reg.MAC_PORT_CTRL_FEC, Reg.MAC_PORT_CTRL_AN_EN, Reg.MAC_PORT_CTRL_ENABLE, Reg.MAC_PORT_FRAME_FRAME_MAX, Reg.MAC_PORT_PAUSE_QUANTA, Reg.MAC_PORT_PAUSE_REFRESH, Reg.MAC_PORT_STATUS_PFC_PAUSED, Reg.MAC_PORT_STATUS_PAUSED, Reg.MAC_PORT_STATUS_REMOTE_FAULT, Reg.MAC_PORT_STATUS_LOCAL_FAULT, Reg.MAC_PORT_STATUS_HI_BER, Reg.MAC_PORT_STATUS_LINK_GOOD, Reg.MAC_PORT_STATUS_STATE, Reg.MAC_PORT_EVT_FEC_UNCORR, Reg.MAC_PORT_EVT_HI_BER, Reg.MAC_PORT_EVT_REMOTE_FAULT, Reg.MAC_PORT_EVT_LOCAL_FAULT, Reg.MAC_PORT_EVT_LINK_DOWN, Reg.MAC_PORT_EVT_LINK_UP]; omega)
      | exact Nat.le_of_ble_eq_true rfl

theorem page_ok_3 : PageOk 3 famsPage3 := by
  refine ⟨by decide, by decide, ?_⟩
  unfold famsPage3
  simp only [List.forall_mem_cons, List.not_mem_nil, false_imp_iff, implies_true, and_true]
  repeat' apply And.intro
  all_goals
    intro i j
    simp only [List.forall_mem_cons, List.not_mem_nil, false_imp_iff, implies_true, and_true]
    repeat' apply And.intro
    all_goals
      first
      | (with_reducible refine RegFam.has_index i j (by decide) (by decide) ?_; dsimp only [Reg.CNT_HALF_LO_HALF, Reg.CNT_HALF_HI_HALF]; omega)
      | exact Nat.le_of_ble_eq_true rfl

theorem page_ok_4 : PageOk 4 famsPage4 := by
  refine ⟨by decide, by decide, ?_⟩
  unfold famsPage4
  simp only [List.forall_mem_cons, List.not_mem_nil, false_imp_iff, implies_true, and_true]
  repeat' apply And.intro
  all_goals
    intro i j
    simp only [List.forall_mem_cons, List.not_mem_nil, false_imp_iff, implies_true, and_true]
    repeat' apply And.intro
    all_goals
      first
      | (with_reducible refine RegFam.has_index i j (by decide) (by decide) ?_; dsimp only [Reg.TIME_DOM_CTRL_WDOG_MS, Reg.TIME_DOM_CTRL_SLEW_MAX, Reg.TIME_DOM_CTRL_TREF_SEL, Reg.TIME_DOM_CTRL_PPS_EN, Reg.TIME_DOM_CTRL_TRACEABLE, Reg.TIME_DOM_CTRL_LOCKED, Reg.TIME_DOM_FREQ_FREQ_ADJ, Reg.TIME_DOM_PHASE_PHASE_ADJ, Reg.TIME_DOM_PHASE_LEFT_LEFT, Reg.TIME_DOM_STATUS_PPS_MISSING, Reg.TIME_DOM_STATUS_PPS_NEW, Reg.TIME_DOM_STATUS_UNLOCK_TREF, Reg.TIME_DOM_STATUS_UNLOCK_WDOG, Reg.TIME_DOM_STATUS_UNLOCK_HOST, Reg.TIME_DOM_STATUS_SLEWING, Reg.TIME_DOM_STATUS_LOCK, Reg.TIME_DOM_CMD_SET_AT_PPS, Reg.TIME_DOM_CMD_SET, Reg.TIME_DOM_SET_W0_FRACTION, Reg.TIME_DOM_SET_W1_NANOSECONDS, Reg.TIME_DOM_SET_W2_SEC_LO, Reg.TIME_DOM_SET_W3_SEC_HI, Reg.TIME_DOM_NOW_W0_FRACTION, Reg.TIME_DOM_NOW_W0_FLAGS, Reg.TIME_DOM_NOW_W1_NANOSECONDS, Reg.TIME_DOM_NOW_W2_SEC_LO, Reg.TIME_DOM_NOW_W3_SEC_HI, Reg.TIME_DOM_PPS_W0_FRACTION, Reg.TIME_DOM_PPS_W0_FLAGS, Reg.TIME_DOM_PPS_W1_NANOSECONDS, Reg.TIME_DOM_PPS_W2_SEC_LO, Reg.TIME_DOM_PPS_W3_SEC_HI, Reg.TIME_PRES_CTRL_REVERT_S, Reg.TIME_PRES_CTRL_SLEW_MAX, Reg.TIME_PRES_CTRL_REVERT, Reg.TIME_PRES_CTRL_PREFERRED, Reg.TIME_PRES_STATUS_STEPPED, Reg.TIME_PRES_STATUS_HOLDOVER_ENTERED, Reg.TIME_PRES_STATUS_MOVED, Reg.TIME_PRES_STATUS_MOVING, Reg.TIME_PRES_STATUS_HOLDOVER, Reg.TIME_PRES_STATUS_DOMAIN, Reg.TIME_PRES_STATUS_LOCK, Reg.TIME_SNAP_SNAP, Reg.TIME_AB_DIFF_DIFF, Reg.TIME_PRES_NOW_W0_FRACTION, Reg.TIME_PRES_NOW_W0_FLAGS, Reg.TIME_PRES_NOW_W1_NANOSECONDS, Reg.TIME_PRES_NOW_W2_SEC_LO, Reg.TIME_PRES_NOW_W3_SEC_HI, Reg.TIME_TPO_CTRL_MISSED, Reg.TIME_TPO_CTRL_RUNNING, Reg.TIME_TPO_CTRL_POLARITY, Reg.TIME_TPO_CTRL_PERIODIC, Reg.TIME_TPO_CTRL_ENABLE, Reg.TIME_TPO_PERIOD_PERIOD, Reg.TIME_TPO_WIDTH_WIDTH, Reg.TIME_TPO_START_W1_NANOSECONDS, Reg.TIME_TPO_START_W2_SEC_LO, Reg.TIME_TPO_START_W3_SEC_HI, Reg.TIME_TPI_CTRL_COUNT, Reg.TIME_TPI_CTRL_OVERFLOW, Reg.TIME_TPI_CTRL_POP, Reg.TIME_TPI_CTRL_SOURCE, Reg.TIME_TPI_CTRL_EDGE, Reg.TIME_TPI_CTRL_ENABLE, Reg.TIME_TPI_CAPT_W0_FRACTION, Reg.TIME_TPI_CAPT_W0_FLAGS, Reg.TIME_TPI_CAPT_W1_NANOSECONDS, Reg.TIME_TPI_CAPT_W2_SEC_LO, Reg.TIME_TPI_CAPT_W3_SEC_HI, Reg.TIME_PTP_CTRL_DOMNUM_B, Reg.TIME_PTP_CTRL_DOMNUM_A, Reg.TIME_PTP_CTRL_BAD, Reg.TIME_PTP_CTRL_DOMB_EN, Reg.TIME_PTP_CTRL_DOMA_EN, Reg.TIME_PTP_CTRL_TC_EN, Reg.TIME_PTP_BAD_CNT_BAD_CNT]; omega)
      | exact Nat.le_of_ble_eq_true rfl

theorem page_ok_5 : PageOk 5 famsPage5 := by
  refine ⟨by decide, by decide, ?_⟩
  unfold famsPage5
  simp only [List.forall_mem_cons, List.not_mem_nil, false_imp_iff, implies_true, and_true]
  repeat' apply And.intro
  all_goals
    intro i j
    simp only [List.forall_mem_cons, List.not_mem_nil, false_imp_iff, implies_true, and_true]
    repeat' apply And.intro
    all_goals
      first
      | (with_reducible refine RegFam.has_index i j (by decide) (by decide) ?_; dsimp only [Reg.STAMP_LL_LATENCY_L, Reg.STAMP_LL_STATUS_LATE, Reg.STAMP_LL_STATUS_SUSPENDED, Reg.STAMP_RET_CTRL_MARK_EN, Reg.STAMP_RET_CTRL_RING, Reg.STAMP_RET_STATUS_MAX_LEVEL, Reg.STAMP_RET_STATUS_LOST, Reg.STAMP_RET_STATUS_LEVEL, Reg.STAMP_LOST_CNT_LOST, Reg.STAMP_CAL_CTRL_START, Reg.STAMP_CAL_CTRL_PORT, Reg.STAMP_CAL_RESULT_STATUS, Reg.STAMP_CAL_RESULT_LOOP_ERR, Reg.STAMP_CAL_SUGGEST_ING, Reg.STAMP_CAL_SUGGEST_EGR, Reg.STAMP_PORT_CTRL_LL_CLASSES, Reg.STAMP_PORT_CTRL_LL_EN, Reg.STAMP_PORT_CTRL_TRAILER, Reg.STAMP_PORT_TRIM_ING_TRIM, Reg.STAMP_PORT_TRIM_EGR_TRIM, Reg.STAMP_PORT_STATUS_DESKEW, Reg.STAMP_PORT_STATUS_CAL_VALID]; omega)
      | exact Nat.le_of_ble_eq_true rfl

theorem page_ok_6 : PageOk 6 famsPage6 := by
  refine ⟨by decide, by decide, ?_⟩
  unfold famsPage6
  simp only [List.forall_mem_cons, List.not_mem_nil, false_imp_iff, implies_true, and_true]
  repeat' apply And.intro
  all_goals
    intro i j
    simp only [List.forall_mem_cons, List.not_mem_nil, false_imp_iff, implies_true, and_true]
    repeat' apply And.intro
    all_goals
      first
      | (with_reducible refine RegFam.has_index i j (by decide) (by decide) ?_; dsimp only [Reg.TALLY_CTRL_SVC_LEVEL, Reg.TALLY_CTRL_ENABLE, Reg.TALLY_CLASS_DROP_IF_FULL, Reg.TALLY_CLASS_RECORD, Reg.TALLY_SPAN_SPAN, Reg.TALLY_SEAL_PERIOD_PERIOD_US, Reg.TALLY_RING_SIZE_UNITS, Reg.TALLY_STATUS_SERVICE, Reg.TALLY_STATUS_LOSS, Reg.TALLY_STATUS_POISON, Reg.TALLY_STATUS_UNSIGNED, Reg.TALLY_STATUS_SEAL_DROP, Reg.TALLY_STATUS_RECORD_DROP, Reg.TALLY_RING_LEVEL_LEVEL, Reg.TALLY_LOST_CNT_LOST, Reg.TALLY_SEAL_INDEX_LO_INDEX, Reg.TALLY_SEAL_INDEX_HI_INDEX, Reg.TALLY_MRAM_RETIRED_RETIRED, Reg.TALLY_GM_A_LO_GM_ID, Reg.TALLY_GM_A_HI_GM_ID, Reg.TALLY_GM_B_LO_GM_ID, Reg.TALLY_GM_B_HI_GM_ID]; omega)
      | exact Nat.le_of_ble_eq_true rfl

theorem page_ok_7 : PageOk 7 famsPage7 := by
  refine ⟨by decide, by decide, ?_⟩
  unfold famsPage7
  simp only [List.forall_mem_cons, List.not_mem_nil, false_imp_iff, implies_true, and_true]
  repeat' apply And.intro
  all_goals
    intro i j
    simp only [List.forall_mem_cons, List.not_mem_nil, false_imp_iff, implies_true, and_true]
    repeat' apply And.intro
    all_goals
      first
      | (with_reducible refine RegFam.has_index i j (by decide) (by decide) ?_; dsimp only [Reg.PARSE_STATUS_TRUNC, Reg.PARSE_STATUS_PARITY, Reg.PARSE_STATUS_DEMOTED, Reg.PARSE_STATUS_CARRY_FULL, Reg.PARSE_PARITY_LOC_VERSION, Reg.PARSE_PARITY_LOC_RULE_NUM, Reg.PARSE_CARRY_CNT_COUNT, Reg.PARSE_CARRY_FULL_CNT_COUNT, Reg.PARSE_DEMOTED_CNT_COUNT, Reg.PARSE_NOMATCH_CNT_COUNT, Reg.PARSE_TRUNC_CNT_COUNT, Reg.PARSE_PORT_CFG_DEF_FWD, Reg.PARSE_PORT_CFG_DEF_COLOUR, Reg.PARSE_PORT_CFG_DEF_QUEUE, Reg.PARSE_PORT_CFG_DEF_CLASS, Reg.PARSE_PORT_CFG_PROFILE, Reg.PARSE_PROF_CTRL_DRAINED, Reg.PARSE_PROF_CTRL_VALID, Reg.PARSE_PROF_CTRL_KEY_BYTES, Reg.PARSE_PROF_CTRL_RANGE_EN, Reg.PARSE_PROF_EXT_LEN, Reg.PARSE_PROF_EXT_ANCHOR, Reg.PARSE_PROF_EXT_OFFSET, Reg.PARSE_PROF_RANGE_ANCHOR, Reg.PARSE_PROF_RANGE_OFFSET] <;> omega)
      | exact Nat.le_of_ble_eq_true rfl

theorem page_ok_8 : PageOk 8 famsPage8 := by
  refine ⟨by decide, by decide, ?_⟩
  unfold famsPage8
  simp only [List.forall_mem_cons, List.not_mem_nil, false_imp_iff, implies_true, and_true]
  repeat' apply And.intro
  all_goals
    intro i j
    simp only [List.forall_mem_cons, List.not_mem_nil, false_imp_iff, implies_true, and_true]
    repeat' apply And.intro
    all_goals
      first
      | (with_reducible refine RegFam.has_index i j (by decide) (by decide) ?_; dsimp only [Reg.RULE_STATUS_CURRENT, Reg.RULE_STATUS_DRAIN_STUCK, Reg.RULE_VER_STATE_STATE, Reg.RULE_VER_STATE_INFLIGHT, Reg.RULE_VER_NUM_NUM, Reg.RULE_STORE_USED_USED, Reg.RULE_STAGE_STATUS_CHANGES]; omega)
      | exact Nat.le_of_ble_eq_true rfl

theorem page_ok_9 : PageOk 9 famsPage9 := by
  refine ⟨by decide, by decide, ?_⟩
  unfold famsPage9
  simp only [List.forall_mem_cons, List.not_mem_nil, false_imp_iff, implies_true, and_true]
  repeat' apply And.intro
  all_goals
    intro i j
    simp only [List.forall_mem_cons, List.not_mem_nil, false_imp_iff, implies_true, and_true]
    repeat' apply And.intro
    all_goals
      first
      | (with_reducible refine RegFam.has_index i j (by decide) (by decide) ?_; dsimp only [Reg.FDB_CTRL_MOVE_LIMIT, Reg.FDB_CTRL_MOVE_WINDOW, Reg.FDB_CTRL_LEARN_HOLD, Reg.FDB_STATUS_LEARN_DROP, Reg.FDB_STATUS_PARITY, Reg.FDB_STATUS_CONFLICT, Reg.FDB_STATUS_FULL, Reg.FDB_STATUS_PINNED, Reg.FDB_STATUS_MOVE, Reg.FDB_USED_USED, Reg.FDB_MOVE_LAST_LO_MAC_LO, Reg.FDB_MOVE_LAST_HI_VLAN, Reg.FDB_MOVE_LAST_HI_MAC_HI, Reg.FDB_MOVE_LAST_PORTS_PIN, Reg.FDB_MOVE_LAST_PORTS_OLD_PORT, Reg.FDB_MOVE_LAST_PORTS_NEW_PORT, Reg.FDB_PARITY_LOC_BANK, Reg.FDB_PARITY_LOC_BUCKET, Reg.FDB_PARITY_LOC_SLOT, Reg.FDB_LEARN_CNT_COUNT, Reg.FDB_MOVE_CNT_COUNT, Reg.FDB_LEARN_DROP_CNT_COUNT, Reg.FDB_LEARN_FULL_CNT_COUNT, Reg.FDB_MOVE_REFUSED_CNT_COUNT, Reg.FDB_PARITY_CNT_COUNT, Reg.FDB_PORT_CFG_MISS_GROUP, Reg.FDB_PORT_CFG_MISS_ACT, Reg.FDB_PORT_CFG_HAIRPIN, Reg.FDB_PORT_CFG_LEARN, Reg.FDB_PORT_CFG_PVID]; omega)
      | exact Nat.le_of_ble_eq_true rfl

theorem page_ok_10 : PageOk 10 famsPage10 := by
  refine ⟨by decide, by decide, ?_⟩
  unfold famsPage10
  simp only [List.forall_mem_cons, List.not_mem_nil, false_imp_iff, implies_true, and_true]
  repeat' apply And.intro
  all_goals
    intro i j
    simp only [List.forall_mem_cons, List.not_mem_nil, false_imp_iff, implies_true, and_true]
    repeat' apply And.intro
    all_goals
      first
      | (with_reducible refine RegFam.has_index i j (by decide) (by decide) ?_; dsimp only [Reg.LPM_CTRL_V6_MISS, Reg.LPM_CTRL_V4_MISS, Reg.LPM_STATUS_PARITY, Reg.LPM_STATUS_FULL, Reg.LPM_USED_USED, Reg.LPM_V4_COUNT_COUNT, Reg.LPM_V6_COUNT_COUNT, Reg.LPM_PARITY_LOC_ROW, Reg.LPM_PARITY_CNT_COUNT]; omega)
      | exact Nat.le_of_ble_eq_true rfl

theorem page_ok_11 : PageOk 11 famsPage11 := by
  refine ⟨by decide, by decide, ?_⟩
  unfold famsPage11
  simp only [List.forall_mem_cons, List.not_mem_nil, false_imp_iff, implies_true, and_true]
  repeat' apply And.intro
  all_goals
    intro i j
    simp only [List.forall_mem_cons, List.not_mem_nil, false_imp_iff, implies_true, and_true]
    repeat' apply And.intro
    all_goals
      first
      | (with_reducible refine RegFam.has_index i j (by decide) (by decide) ?_; dsimp only [Reg.FLOW_STATUS_POISON, Reg.FLOW_STATUS_FULL, Reg.FLOW_STATUS_BYPASS, Reg.FLOW_USED_USED, Reg.FLOW_POISON_LOC_KEY, Reg.FLOW_POISON_LOC_INDEX, Reg.FLOW_HIT_CNT_COUNT, Reg.FLOW_MISS_CNT_COUNT, Reg.FLOW_ABSENT_CNT_COUNT, Reg.FLOW_BYPASS_CNT_COUNT, Reg.FLOW_STALE_CNT_COUNT]; omega)
      | exact Nat.le_of_ble_eq_true rfl

theorem page_ok_12 : PageOk 12 famsPage12 := by
  refine ⟨by decide, by decide, ?_⟩
  unfold famsPage12
  simp only [List.forall_mem_cons, List.not_mem_nil, false_imp_iff, implies_true, and_true]
  repeat' apply And.intro
  all_goals
    intro i j
    simp only [List.forall_mem_cons, List.not_mem_nil, false_imp_iff, implies_true, and_true]
    repeat' apply And.intro
    all_goals
      first
      | (with_reducible refine RegFam.has_index i j (by decide) (by decide) ?_; dsimp only [Reg.BUF_CLASS_CFG_SPILL, Reg.BUF_CLASS_CFG_LOSSLESS, Reg.BUF_CLASS_CFG_POOL, Reg.BUF_POOL_SIZE_SIZE, Reg.BUF_POOL_CFG_PFC_PRI, Reg.BUF_POOL_CFG_MIN, Reg.BUF_POOL_XOFF_XOFF, Reg.BUF_POOL_XON_XON, Reg.BUF_POOL_YELLOW_YELLOW_DROP, Reg.BUF_POOL_RED_RED_DROP, Reg.BUF_POOL_USED_USED, Reg.BUF_POOL_SHARED_SHARED, Reg.BUF_STATUS_SPILL_POISON, Reg.BUF_STATUS_SPILL_FULL, Reg.BUF_STATUS_BAD_FREE, Reg.BUF_STATUS_REF_LIMIT, Reg.BUF_STATUS_LANDING, Reg.BUF_STATUS_HEADROOM, Reg.BUF_STATUS_DROP, Reg.BUF_STATUS_XOFF, Reg.BUF_XOFF_POOLS_POOLS, Reg.BUF_LANDING_MAX, Reg.BUF_LANDING_NOW, Reg.BUF_WITHDRAWN_NEXT, Reg.BUF_WITHDRAWN_COUNT, Reg.BUF_BAD_FREE_LOC_KIND, Reg.BUF_BAD_FREE_LOC_AGENT, Reg.BUF_BAD_FREE_LOC_BEAD, Reg.BUF_DROP_CNT_COUNT, Reg.BUF_HEADROOM_CNT_COUNT, Reg.BUF_LANDING_DROP_CNT_COUNT, Reg.BUF_REF_LIMIT_CNT_COUNT, Reg.BUF_BAD_FREE_CNT_COUNT, Reg.BUF_SPILL_FULL_CNT_COUNT, Reg.BUF_SPILL_CTRL_ENABLE, Reg.BUF_SPILL_CTRL_RETURN_US, Reg.BUF_SPILL_CTRL_ON_US, Reg.BUF_SPILL_CTRL_SIZE_GIB, Reg.BUF_SPILL_USED_USED]; omega)
      | exact Nat.le_of_ble_eq_true rfl

theorem page_ok_13 : PageOk 13 famsPage13 := by
  refine ⟨by decide, by decide, ?_⟩
  unfold famsPage13
  simp only [List.forall_mem_cons, List.not_mem_nil, false_imp_iff, implies_true, and_true]
  repeat' apply And.intro
  all_goals
    intro i j
    simp only [List.forall_mem_cons, List.not_mem_nil, false_imp_iff, implies_true, and_true]
    repeat' apply And.intro
    all_goals
      first
      | (with_reducible refine RegFam.has_index i j (by decide) (by decide) ?_; dsimp only [Reg.QUE_CTRL_STUCK_MS, Reg.QUE_CTRL_HOLD_DOWN_US, Reg.QUE_STATUS_COPY_FULL, Reg.QUE_STATUS_TAIL_DROP, Reg.QUE_STATUS_STUCK, Reg.QUE_STUCK_LOC_QUEUE, Reg.QUE_COPIES_USED, Reg.QUE_TAIL_DROP_CNT_COUNT, Reg.QUE_STUCK_CNT_COUNT, Reg.QUE_COPY_FULL_CNT_COUNT, Reg.QUE_FLUSH_CNT_COUNT, Reg.QUE_ROD_LIMIT_LIMIT, Reg.QUE_ROD_DEPTH_BEADS]; omega)
      | exact Nat.le_of_ble_eq_true rfl

theorem page_ok_14 : PageOk 14 famsPage14 := by
  refine ⟨by decide, by decide, ?_⟩
  unfold famsPage14
  simp only [List.forall_mem_cons, List.not_mem_nil, false_imp_iff, implies_true, and_true]
  repeat' apply And.intro
  all_goals
    intro i j
    simp only [List.forall_mem_cons, List.not_mem_nil, false_imp_iff, implies_true, and_true]
    repeat' apply And.intro
    all_goals
      first
      | (with_reducible refine RegFam.has_index i j (by decide) (by decide) ?_; dsimp only [Reg.MCAST_STATUS_FULL, Reg.MCAST_MEMBERS_USED_USED]; omega)
      | exact Nat.le_of_ble_eq_true rfl

theorem page_ok_15 : PageOk 15 famsPage15 := by
  refine ⟨by decide, by decide, ?_⟩
  unfold famsPage15
  simp only [List.forall_mem_cons, List.not_mem_nil, false_imp_iff, implies_true, and_true]
  repeat' apply And.intro
  all_goals
    intro i j
    simp only [List.forall_mem_cons, List.not_mem_nil, false_imp_iff, implies_true, and_true]
    repeat' apply And.intro
    all_goals
      first
      | (with_reducible refine RegFam.has_index i j (by decide) (by decide) ?_; dsimp only [Reg.MIRROR_SESSION_CTRL_EN, Reg.MIRROR_SESSION_CTRL_DIR, Reg.MIRROR_SESSION_CTRL_TRAILER, Reg.MIRROR_SESSION_CTRL_QUEUE, Reg.MIRROR_SESSION_CTRL_TRUNC, Reg.MIRROR_SESSION_CTRL_DEST_PORT, Reg.MIRROR_SESSION_DROP_DROP, Reg.MIRROR_STATUS_DROP, Reg.MIRROR_PORT_CFG_EGR_EN, Reg.MIRROR_PORT_CFG_EGR_SESSION, Reg.MIRROR_PORT_CFG_ING_EN, Reg.MIRROR_PORT_CFG_ING_SESSION]; omega)
      | exact Nat.le_of_ble_eq_true rfl

theorem page_ok_16 : PageOk 16 famsPage16 := by
  refine ⟨by decide, by decide, ?_⟩
  unfold famsPage16
  simp only [List.forall_mem_cons, List.not_mem_nil, false_imp_iff, implies_true, and_true]
  repeat' apply And.intro
  all_goals
    intro i j
    simp only [List.forall_mem_cons, List.not_mem_nil, false_imp_iff, implies_true, and_true]
    repeat' apply And.intro
    all_goals
      first
      | (with_reducible refine RegFam.has_index i j (by decide) (by decide) ?_; dsimp only [Reg.TM_STATUS_GATE_SUSPENDED, Reg.TM_STATUS_GATE_OVERSIZE, Reg.TM_STATUS_GATE_ADJUSTED, Reg.TM_GATE_LOC_KIND, Reg.TM_GATE_LOC_QUEUE, Reg.TM_GATE_OVERSIZE_CNT_COUNT, Reg.TM_GATE_ADJUST_CNT_COUNT, Reg.TM_PORT_CFG_OVERHEAD, Reg.TM_GATE_STATUS_PENDING, Reg.TM_GATE_STATUS_ENABLED, Reg.TM_GATE_STATUS_ACTIVE_BANK, Reg.TM_GATE_STATUS_GATES, Reg.TM_GATE_STATUS_ENTRY, Reg.TM_QUEUE_CFG_WEIGHT, Reg.TM_QUEUE_CFG_SP_LEVEL]; omega)
      | exact Nat.le_of_ble_eq_true rfl

theorem page_ok_17 : PageOk 17 famsPage17 := by
  refine ⟨by decide, by decide, ?_⟩
  unfold famsPage17
  simp only [List.forall_mem_cons, List.not_mem_nil, false_imp_iff, implies_true, and_true]
  repeat' apply And.intro
  all_goals
    intro i j
    simp only [List.forall_mem_cons, List.not_mem_nil, false_imp_iff, implies_true, and_true]
    repeat' apply And.intro
    all_goals
      first
      | (with_reducible refine RegFam.has_index i j (by decide) (by decide) ?_; dsimp only [Reg.DRAM_CTRL_SCRUB_EN, Reg.DRAM_CTRL_PARK_EN, Reg.DRAM_CTRL_SERVICE, Reg.DRAM_SCHED_WR_HIGH, Reg.DRAM_SCHED_WR_LOW, Reg.DRAM_SCHED_WR_AGE_NS, Reg.DRAM_PWR_PARK_MS, Reg.DRAM_PWR_SID_IDLE_MS, Reg.DRAM_ROW_GUARD_THRESHOLD, Reg.DRAM_RECAL_RECAL_MS, Reg.DRAM_TRAIN_START, Reg.DRAM_TRAIN_LANE_REPAIRED, Reg.DRAM_TRAIN_STATUS, Reg.DRAM_STATUS_PC_FAIL, Reg.DRAM_STATUS_HOT, Reg.DRAM_STATUS_TEMP, Reg.DRAM_STATUS_UNCORR, Reg.DRAM_STATUS_CORRECTED, Reg.DRAM_STATUS_CA_REPLAY, Reg.DRAM_STATUS_PARKED1, Reg.DRAM_STATUS_PARKED0, Reg.DRAM_PC_FAILED_LO_FAILED, Reg.DRAM_PC_FAILED_HI_FAILED, Reg.DRAM_ERR_LOC_UNCORR, Reg.DRAM_ERR_LOC_USER, Reg.DRAM_ERR_LOC_GRANULE, Reg.DRAM_TEMP_STACK1, Reg.DRAM_TEMP_STACK0, Reg.DRAM_CORR_CNT_COUNT, Reg.DRAM_UNCORR_CNT_COUNT, Reg.DRAM_CA_REPLAY_CNT_COUNT, Reg.DRAM_ROW_GUARD_CNT_COUNT, Reg.DRAM_PARK_CNT_COUNT, Reg.DRAM_LANE_REPAIRED_CNT_COUNT]; omega)
      | exact Nat.le_of_ble_eq_true rfl

theorem page_ok_18 : PageOk 18 famsPage18 := by
  refine ⟨by decide, by decide, ?_⟩
  unfold famsPage18
  simp only [List.forall_mem_cons, List.not_mem_nil, false_imp_iff, implies_true, and_true]
  repeat' apply And.intro
  all_goals
    intro i j
    simp only [List.forall_mem_cons, List.not_mem_nil, false_imp_iff, implies_true, and_true]
    repeat' apply And.intro
    all_goals
      first
      | (with_reducible refine RegFam.has_index i j (by decide) (by decide) ?_; dsimp only [Reg.HLINK_CTRL_MEM_TO_US, Reg.HLINK_CTRL_DOWN_MS, Reg.HLINK_CTRL_MAX_RATE, Reg.HLINK_CTRL_LOST_ACT, Reg.HLINK_STATUS_HOST_LOST, Reg.HLINK_STATUS_MEM_TIMEOUT, Reg.HLINK_STATUS_PROTOCOL, Reg.HLINK_STATUS_RETRAINED, Reg.HLINK_STATUS_REPAIRED, Reg.HLINK_STATUS_RATE, Reg.HLINK_STATUS_STATE, Reg.HLINK_PROTO_LOC_TYPE, Reg.HLINK_PROTO_LOC_REASON, Reg.HLINK_PROTO_LOC_TAG, Reg.HLINK_CRC_RETRY_CNT_COUNT, Reg.HLINK_RETRAIN_CNT_COUNT, Reg.HLINK_MEM_TIMEOUT_CNT_COUNT, Reg.HLINK_LATE_REPLY_CNT_COUNT, Reg.HLINK_PROTOCOL_CNT_COUNT]; omega)
      | exact Nat.le_of_ble_eq_true rfl

theorem page_ok_19 : PageOk 19 famsPage19 := by
  refine ⟨by decide, by decide, ?_⟩
  unfold famsPage19
  simp only [List.forall_mem_cons, List.not_mem_nil, false_imp_iff, implies_true, and_true]
  repeat' apply And.intro
  all_goals
    intro i j
    simp only [List.forall_mem_cons, List.not_mem_nil, false_imp_iff, implies_true, and_true]
    repeat' apply And.intro
    all_goals
      first
      | (with_reducible refine RegFam.has_index i j (by decide) (by decide) ?_; dsimp only [Reg.RING_STATUS_CNT_SKIP, Reg.RING_STATUS_PUNT_DROP, Reg.RING_STATUS_BAD_DB, Reg.RING_STATUS_HALTED, Reg.RING_HALTED_LO_HALTED, Reg.RING_HALTED_HI_HALTED, Reg.RING_RESUME_GO, Reg.RING_RESUME_RING, Reg.RING_BAD_DB_LOC_RING, Reg.RING_PUNT_MAP_LO_MAP, Reg.RING_PUNT_MAP_HI_MAP, Reg.RING_CNT_CTRL_EN, Reg.RING_CNT_CTRL_PERIOD_MS, Reg.RING_BAD_DB_CNT_COUNT, Reg.RING_CNT_SKIP_CNT_COUNT, Reg.RING_BASE_LO_ADDR, Reg.RING_BASE_HI_ADDR_HI, Reg.RING_IDXBLK_LO_ADDR, Reg.RING_IDXBLK_HI_ADDR_HI, Reg.RING_CFG_ENABLE, Reg.RING_CFG_STOPPED, Reg.RING_CFG_BUF_SIZE, Reg.RING_CFG_CQ, Reg.RING_CFG_LOG2_SIZE, Reg.RING_DEV_INDEX_DEV_INDEX, Reg.RING_DB_DOORBELL, Reg.RING_PUNT_BUF_LO_ADDR, Reg.RING_PUNT_BUF_HI_ADDR_HI, Reg.RING_DROP_CNT_DROP]; omega)
      | exact Nat.le_of_ble_eq_true rfl

theorem page_ok_20 : PageOk 20 famsPage20 := by
  refine ⟨by decide, by decide, ?_⟩
  unfold famsPage20
  simp only [List.forall_mem_cons, List.not_mem_nil, false_imp_iff, implies_true, and_true]
  repeat' apply And.intro
  all_goals
    intro i j
    simp only [List.forall_mem_cons, List.not_mem_nil, false_imp_iff, implies_true, and_true]
    repeat' apply And.intro
    all_goals
      first
      | (with_reducible refine RegFam.has_index i j (by decide) (by decide) ?_; dsimp only [Reg.EVT_CTRL_KEEPALIVE_US, Reg.EVT_SUMMARY_COUNT, Reg.EVT_SUMMARY_ATTN, Reg.EVT_KEEPALIVE_CNT_COUNT, Reg.EVT_PENDING_PENDING, Reg.EVT_MASK_MASK]; omega)
      | exact Nat.le_of_ble_eq_true rfl

theorem page_ok_21 : PageOk 21 famsPage21 := by
  refine ⟨by decide, by decide, ?_⟩
  unfold famsPage21
  simp only [List.forall_mem_cons, List.not_mem_nil, false_imp_iff, implies_true, and_true]
  repeat' apply And.intro
  all_goals
    intro i j
    simp only [List.forall_mem_cons, List.not_mem_nil, false_imp_iff, implies_true, and_true]
    repeat' apply And.intro
    all_goals
      first
      | (with_reducible refine RegFam.has_index i j (by decide) (by decide) ?_; dsimp only [Reg.RCK_ROM_ID_VERSION, Reg.RCK_ROM_ID_FAMILY, Reg.RCK_STATUS_PATCH_EVT, Reg.RCK_STATUS_HALTED, Reg.RCK_PREEMPT_CNT_COUNT, Reg.RCK_PATCH_CTRL_LOAD, Reg.RCK_PATCH_CTRL_LEN, Reg.RCK_PATCH_STATUS_STATE, Reg.RCK_PATCH_STATUS_REASON, Reg.RCK_PATCH_STATUS_MATCHES, Reg.RCK_PATCH_STATUS_WORDS, Reg.RCK_PATCH_VER_PATCH_VER, Reg.RCK_PATCH_DIGEST_DIGEST, Reg.RCK_ENG_STATUS_STATE, Reg.RCK_ENG_STATUS_PATCHED, Reg.RCK_ENG_STATUS_ROUTINE, Reg.RCK_ENG_STATUS_SUSPENDED, Reg.RCK_ENG_STATUS_CHECKPOINTS, Reg.RCK_PATCH_STAGE_DATA]; omega)
      | exact Nat.le_of_ble_eq_true rfl

theorem page_ok_22 : PageOk 22 famsPage22 := by
  refine ⟨by decide, by decide, ?_⟩
  unfold famsPage22
  simp only [List.forall_mem_cons, List.not_mem_nil, false_imp_iff, implies_true, and_true]
  repeat' apply And.intro
  all_goals
    intro i j
    simp only [List.forall_mem_cons, List.not_mem_nil, false_imp_iff, implies_true, and_true]
    repeat' apply And.intro
    all_goals
      first
      | (with_reducible refine RegFam.has_index i j (by decide) (by decide) ?_; dsimp only [Reg.SEC_BOOT_STATE, Reg.SEC_BOOT_REASON, Reg.SEC_BOOT_STAGE, Reg.SEC_LIFECYCLE_SVN_MIN, Reg.SEC_LIFECYCLE_ID_OK, Reg.SEC_LIFECYCLE_OWNER_DEBUG_ONLY, Reg.SEC_LIFECYCLE_STATE, Reg.SEC_DEVICE_ID_LO_ID, Reg.SEC_DEVICE_ID_HI_ID, Reg.SEC_STATUS_TOKEN_REJECT, Reg.SEC_STATUS_BUNDLE, Reg.SEC_DEBUG_STATUS_BY_OWNER, Reg.SEC_DEBUG_STATUS_GRANTED, Reg.SEC_BUNDLE_CTRL_LOAD, Reg.SEC_BUNDLE_CTRL_KIND, Reg.SEC_BUNDLE_CTRL_LEN, Reg.SEC_BUNDLE_STATUS_STATE, Reg.SEC_BUNDLE_STATUS_REASON, Reg.SEC_BUNDLE_STATUS_OPS_DONE, Reg.SEC_DEBUG_CHALLENGE_CHALLENGE, Reg.SEC_FUSE_IMAGE_FUSE, Reg.SEC_STAGE_DATA]; omega)
      | exact Nat.le_of_ble_eq_true rfl

theorem page_ok_23 : PageOk 23 famsPage23 := by
  refine ⟨by decide, by decide, ?_⟩
  unfold famsPage23
  simp only [List.forall_mem_cons, List.not_mem_nil, false_imp_iff, implies_true, and_true]
  repeat' apply And.intro
  all_goals
    intro i j
    simp only [List.forall_mem_cons, List.not_mem_nil, false_imp_iff, implies_true, and_true]
    repeat' apply And.intro
    all_goals
      first
      | (with_reducible refine RegFam.has_index i j (by decide) (by decide) ?_; dsimp only [Reg.PAIR_CTRL_ARM_MS, Reg.PAIR_CTRL_TAKE_UNEXPLAINED, Reg.PAIR_CTRL_TALLY_FOLLOW, Reg.PAIR_CMD_YIELD, Reg.PAIR_CMD_CLAIM, Reg.PAIR_STATUS_STATE, Reg.PAIR_STATUS_ROLE_CHG, Reg.PAIR_STATUS_MISMATCH, Reg.PAIR_STATUS_HB_LOST, Reg.PAIR_STATUS_BLOCKED, Reg.PAIR_STATUS_HOLD_FAULT, Reg.PAIR_STATUS_LINK_UP, Reg.PAIR_STATUS_HOLD_IN, Reg.PAIR_STATUS_HOLD_OUT, Reg.PAIR_PEER_STATE, Reg.PAIR_PEER_SENIOR, Reg.PAIR_PEER_TAKE_UNEXPLAINED, Reg.PAIR_PEER_ID_LO_ID, Reg.PAIR_PEER_ID_HI_ID, Reg.PAIR_VERDICT_CAUSE, Reg.PAIR_VERDICT_OUTCOME, Reg.PAIR_VERDICT_PORT, Reg.PAIR_VERDICT_WIN_WINDOW, Reg.PAIR_MIRROR_LEVEL_LEVEL, Reg.PAIR_MISMATCH_CNT_COUNT, Reg.PAIR_SHIFT_CNT_COUNT, Reg.PAIR_TAKEOVER_CNT_COUNT, Reg.PAIR_RETX_CNT_COUNT, Reg.PAIR_CMP_MASK_MASK]; omega)
      | exact Nat.le_of_ble_eq_true rfl

theorem page_ok_24 : PageOk 24 famsPage24 := by
  refine ⟨by decide, by decide, ?_⟩
  unfold famsPage24
  simp only [List.forall_mem_cons, List.not_mem_nil, false_imp_iff, implies_true, and_true]
  repeat' apply And.intro
  all_goals
    intro i j
    simp only [List.forall_mem_cons, List.not_mem_nil, false_imp_iff, implies_true, and_true]
    repeat' apply And.intro
    all_goals
      first
      | (with_reducible refine RegFam.has_index i j (by decide) (by decide) ?_; dsimp only [Reg.SPAN_CTRL_LEARN, Reg.SPAN_CTRL_GROUP_EN, Reg.SPAN_CTRL_EN, Reg.SPAN_STATUS_PORTS_UP, Reg.SPAN_STATUS_PEER_DOWN, Reg.SPAN_STATUS_PEER_ACTIVE, Reg.SPAN_TIME_DIFF_DIFF, Reg.SPAN_RX_IGNORED_CNT_COUNT]; omega)
      | exact Nat.le_of_ble_eq_true rfl

theorem page_ok_25 : PageOk 25 famsPage25 := by
  refine ⟨by decide, by decide, ?_⟩
  unfold famsPage25
  simp only [List.forall_mem_cons, List.not_mem_nil, false_imp_iff, implies_true, and_true]
  repeat' apply And.intro
  all_goals
    intro i j
    simp only [List.forall_mem_cons, List.not_mem_nil, false_imp_iff, implies_true, and_true]
    repeat' apply And.intro
    all_goals
      first
      | (with_reducible refine RegFam.has_index i j (by decide) (by decide) ?_; dsimp only [Reg.OBS_CTRL_EN, Reg.OBS_CTRL_DIV_B, Reg.OBS_CTRL_DIV_A, Reg.OBS_CTRL_BANK_B, Reg.OBS_CTRL_BANK_A, Reg.OBS_POINT_POINT_3, Reg.OBS_POINT_POINT_2, Reg.OBS_POINT_POINT_1, Reg.OBS_POINT_POINT_0]; omega)
      | exact Nat.le_of_ble_eq_true rfl

theorem page_ok (n : Nat) : PageOk n (famsOfPage n) := by
  unfold famsOfPage
  split
  · exact page_ok_0
  · exact page_ok_1
  · exact page_ok_2
  · exact page_ok_3
  · exact page_ok_4
  · exact page_ok_5
  · exact page_ok_6
  · exact page_ok_7
  · exact page_ok_8
  · exact page_ok_9
  · exact page_ok_10
  · exact page_ok_11
  · exact page_ok_12
  · exact page_ok_13
  · exact page_ok_14
  · exact page_ok_15
  · exact page_ok_16
  · exact page_ok_17
  · exact page_ok_18
  · exact page_ok_19
  · exact page_ok_20
  · exact page_ok_21
  · exact page_ok_22
  · exact page_ok_23
  · exact page_ok_24
  · exact page_ok_25
  · exact ⟨by simp, by simp, by simp⟩

theorem RegFam.has_page {f : RegFam} {n a : Nat} (hf : f ∈ famsOfPage n) (h : f.has a) : a / 0x100000 = n := by
  have h1 := (page_ok n).inside f hf
  have h2 := has_lt h
  omega

/-- Two families of the map that share an address are one. -/
theorem family_unique {f g : RegFam} {n m a : Nat} (hf : f ∈ famsOfPage n) (hg : g ∈ famsOfPage m) (h : f.has a) (k : g.has a) :
    f = g := by
  have hn : n = m := (RegFam.has_page hf h).symm.trans (RegFam.has_page hg k)
  subst hn
  by_contra hne
  have : Std.Symm fun f g : RegFam => f.apart g = true := ⟨RegFam.apart_symm⟩
  exact RegFam.apart_has ((page_ok n).apart.forall hf hg hne) h k

/-- The key of a field tells its address. -/
theorem key_addr {f g : Fld} (hf : f.lo < 32) (hg : g.lo < 32) (h : Fld.key f = Fld.key g) : f.addr = g.addr := by
  unfold Fld.key at h
  omega

/-- A field of a register that a list does not name is not among the list's keys. -/
theorem not_regsOf {L : List String} {r : RegFam} {a : Access} {f : Fld} (p i j : Nat) (hr : r ∈ famsOfPage p)
    (he : (a, f) ∈ r.fields i j) (hn : r.name ∉ L) : ¬ regsOf L (Fld.key f) := by
  rintro ⟨q, k, l, g, hg, hl, e, hm, hk⟩
  have h1 := (page_ok p).placed r hr i j _ he
  have h2 := (page_ok q).placed g hg k l _ hm
  rw [family_unique hr hg h1.1 (key_addr h1.2 h2.2 hk ▸ h2.1)] at hn
  exact hn hl

/-- So the field reads as before where a frame does not name its register. -/
theorem kept_of_only {s t : State} {P : List Part} {L : List String} {r : RegFam} {a : Access} {f : Fld} (h : s.only t P (regsOf L))
    (p i j : Nat) (hr : r ∈ famsOfPage p) (he : (a, f) ∈ r.fields i j) (hn : r.name ∉ L) : t.get f = s.get f :=
  h.2 f (not_regsOf p i j hr he hn)

end Sys2Proof.Machine
end

