-- ==== Sys2Proof/Tests/Slice0.lean ====
section
/-! SUPPORT. Tests: an ill-formed command for every check of WellFormed, some steps on small states with results worked out from
the spec, and, for each obligation that has hypotheses, states and operands that meet all of them together, clause by clause. -/

namespace Sys2Proof.Tests

open Sys2Proof Sys2Proof.Machine

/-! ### States to test on -/

/-- The state that an outcome answers. -/
def stateAfter : Out → State
  | .next t => t
  | _ => State.reset

def idleReck : ReckSt := { reck0 with engines := [] }

/-- A device that has started, with every function up. -/
def up : State :=
  ((({ State.reset with cycle := 1000000000000, regs := [(Fld.key Reg.SEC_LIFECYCLE_STATE, 1)], reck := idleReck }.set
    Reg.SEC_BOOT_STATE 1).set Reg.SYS_START_STATUS_READY 1).set Reg.SYS_CLK_LANE_OK_GROUP_OK 0xFFFFFFFF).set Reg.SYS_CLK_STATUS_DOMA_OK 1

def oct (m r : Nat) : State := (up.set (Reg.MAC_OCTET_MODE_MODE 1) m).set (Reg.MAC_OCTET_MODE_RATE 1) r

/-- Port 8 exists. -/
def p8 : State := oct 1 2

def en8 : State := p8.on (Reg.MAC_PORT_CTRL_ENABLE 8)

def ls (k : Nat) (s : State) := s.set (Reg.MAC_PORT_STATUS_STATE 8) k

def up8 : State := ((ls 2 en8).on (Reg.MAC_PORT_STATUS_LINK_GOOD 8)).modPort 8 fun x => { x with cond := ⟨true,true,true,false,false,false,0,0,0,0,0,false⟩ }

def cin (p : Nat) (l : List Byte) : CmdIn := ⟨16, 0, 0, 5, p, 0, l⟩

def ring (n : Nat) (s : State) : State := (s.on (Reg.RING_CFG_ENABLE n)).set (Reg.RING_CFG_LOG2_SIZE n) 4

def fol (d : Nat) (s : State) : State := s.setPres { s.time.pres with mode := .follow d, now := 10^40 }

def lkd (d : Nat) (s : State) : State := (s.on (Reg.TIME_DOM_CTRL_LOCKED d)).setDom d { s.dom d with everSet := true }

def ret0 : StampRet := ⟨8, 9, 3, 77, 99, 2, none⟩

def recd (x : Nat) : List Byte := BitVec.ofNat 8 x :: zeros 63

def tal (f : TallySt → TallySt) (s : State) : State := { s with tally := f s.tally }

def running (s : State) : State := (s.on Reg.TALLY_CTRL_ENABLE).set Reg.TALLY_RING_SIZE_UNITS 1 |> tal fun y => { y with running := true }

def ch (l : Nat) : Chain := ⟨9, 2, (List.range l).map recd, 3, zeros 32, 4, 1⟩

def mkSeal (i : Nat) (slot : Option Nat) (sg : Option (List Byte)) (fin : Bool := false) : Seal := ⟨i, fin, false, zeros 16512, sg, false, slot, false⟩

def eth (ty : List Byte) (n : Nat) : List Byte := [0,0x11,0x22,0x33,0x44,0x55, 0,0x66,0x77,0x88,0x99,0xAA] ++ ty ++ zeros (n - 14)

/-- A plain frame of 64 bytes. -/
def b64 : List Byte := eth [0x12, 0x34] 64

def fr (b : List Byte) : Frame := { newFrame 8 b 77 9 3 1518 with beads := [0], destKind := 0 }

/-- A state with one frame 0. -/
def bd (own : Nat) (a : BeadAccount) : Bead := ⟨1, a, own, false⟩

def oneBead : BufSt := { up.buf with beads := [(0, bd 8 (.landing 0))], landing := [(0,1)] }

def withF (x : Frame) (s : State) : State :=
  { s with path := { path0 with frames := [(0, x)], nextFrame := 1 }, buf := oneBead }

/-- A 128-byte rule that matches everything of profile 0. -/
def rule (ty mb : Nat) : List Byte := zeros 3 ++ [1] ++ zeros 88 ++ [BitVec.ofNat 8 ty, 3, BitVec.ofNat 8 mb, 0] ++ zeros 32

def withRule (b : List Byte) (s : State) : State :=
  { s with rules := { s.rules with entries := [(5, ⟨b, false, false⟩)], sets := [(0, [(0, 5)])] } }

def ip4 : List Byte := eth [0x08,0x00] 14 ++ [0x45,0,0,46,0,0,0,0,64,17,0,0, 10,0,0,1, 10,1,2,3, 0,5,0,6,0,20,0,0] ++ zeros 26

def cl (b : List Byte) (fwd : Nat) : Frame := { fr b with stage := .classified, mark := { mark0 with fwd := fwd } }

def fdbE (kind dest : Nat) (bad : Bool) : FdbEntry := ⟨1, 0x001122334455, false, false, false, kind, dest, 0, 0, 0, bad⟩

/-- One entry, at home whatever the hash. -/
def withFdb (e : FdbEntry) (s : State) : State := { s with fdb := { s.fdb with entries := [((fdbBuckets e.vlan e.mac).1, e)] } }

def lpmE (kind dest : Nat) : LpmEntry := ⟨false, 8, 0x0A000000, kind, dest, 0, false⟩

def withLpm (e : LpmEntry) (s : State) : State := { s with lpm := ⟨[], [(8, [[some e]])], 0⟩ }

def ctx (k : List Byte) : Context := ⟨k, 5, 6, 7, 8, 9, 1, 0x10003, 0x83, false, false⟩

def cp (q : Nat) (lk : Bool) : Copy := ⟨0, .dest, 8, q, none, lk, 5, .onDie, false, []⟩

def fwd : Frame := { fr b64 with stage := .linked, landing := false, copies := 1, plan := [⟨.dest, 8, 3, none⟩], walked := 1, ended := true, fcs := some .good, destKind := 0, dest := 8 }

def poolBead : BufSt := { up.buf with beads := [(0, bd 8 (.pool 0))], owners := [(ownerKey 0 8, 1)] }

def withCopy (c : Copy) (s : State) : State :=
  { s with path := { path0 with frames := [(0, fwd)], nextFrame := 1, copies := [(0, c)], nextCopy := 1, rods := if c.linked then [(8 * 16 + c.queue, [0])] else [] }, buf := poolBead }

def cmd (fl p : Nat) (l : List Byte) : CmdIn := ⟨16, 0, fl, 5, p, 0, l⟩

def st0 : State := (withRule (rule 0 2) up).on (Reg.PARSE_PROF_CTRL_VALID 0)

def stg (s : State) : State := { s with rules := { s.rules with entries := [(5, ⟨rule 0 2, false, false⟩), (6, ⟨3 :: (rule 0 2).tail, false, false⟩)], changes := [(3, some 6)] } }

def full (s : State) : State := ((s.set (Reg.RULE_VER_STATE_STATE 1) 2).set (Reg.RULE_VER_STATE_STATE 2) 2).set (Reg.RULE_VER_STATE_STATE 3) 2

def cmpu (s : State) : State := withRule ((rule 0 2).take 84 ++ [1, 0x80] ++ (rule 0 2).drop 86) s

/-- Key bytes: MAC, VLAN. -/
def fk (m v : Nat) : List Byte := beBytes 6 m ++ leBytes 2 v ++ zeros 8

def fe_ (m v fl k d : Nat) : List Byte := beBytes 6 m ++ leBytes 2 v ++ [BitVec.ofNat 8 fl, BitVec.ofNat 8 k] ++ leBytes 2 d ++ zeros 4

/-- Every place of the FDB is taken. -/
def fullFdb : Fdb := (List.range 524288).map fun i => (i, { fdbE 0 9 false with mac := 1000 })

def lk (v6 len : Nat) (p : List Byte) (k d : Nat) : List Byte := [BitVec.ofNat 8 v6, BitVec.ofNat 8 len, BitVec.ofNat 8 k, 0] ++ leBytes 2 d ++ [0,0] ++ padTo 16 p ++ zeros 8

def H (f : HostSt → HostSt) (s : State) : State := {s with host := f s.host}

def R (n : Nat) (f : RingDyn → RingDyn) (s : State) : State := s.modRing n f

/-- The host link is ACTIVE. -/
def act (s : State) : State := H (fun h => {h with upOnce := true, credit := 100, rxCredit := 4096}) (s.set Reg.HLINK_STATUS_STATE 2)

/-! ### Ill-formed commands -/

/-- A command and a message in order, to spoil in one place at a time. -/
def cmd0 : CmdIn := ⟨16, 0, 0, 5, 0, 0, []⟩
def msg0 : HostIn := ⟨0, 0, zeros 16, none⟩

theorem test_commands_in_order_are_well_formed : (CmdIn.wf cmd0 && HostIn.wf msg0 &&
    Instr.wf (.registerWrite 0x40 0xFFFFFFFF) && Instr.wf (.portEnable 1023 1)) = true := by decide +kernel

/-- Every check on a command of a command ring refuses. -/
theorem test_ill_formed_commands : ([{ cmd0 with ring := 15 }, { cmd0 with ring := 32 }, { cmd0 with descIndex := 2 ^ 32 },
    { cmd0 with flags := 2 ^ 16 }, { cmd0 with seq := 2 ^ 32 }, { cmd0 with param := 2 ^ 32 }, { cmd0 with outAddr := 2 ^ 64 },
    { cmd0 with input := zeros 2049 }].all fun c => !(Instr.nop c).wf) = true := by decide +kernel

/-- Every check on a message of the host refuses. -/
theorem test_ill_formed_messages : ([{ msg0 with slot := 15 }, { msg0 with bytes := zeros 8 }, { msg0 with bytes := zeros 24 },
    { msg0 with bytes := zeros 256 }, { msg0 with fabricError := some 16 }].all fun m => !(Instr.cfgRd m).wf) = true := by decide +kernel

/-- Numbers of objects beyond Table 0-5 are refused. -/
theorem test_ill_formed_numbers : ([Instr.refInputLost ⟨.lgref 32, .noEdge 1000⟩, .refInputGood (.lgref 32) ⟨0, 1000⟩, .octetModeWrite 128 0,
    .portEnable 1024 1, .portDisable 1024 0, .linkConditionChange 1025 ⟨true, true, true, false, false, false, 0, 0, 0, 0, 0, false⟩,
    .upDebounceExpiry 1024, .dnDebounceExpiry 1024, .frameStart 1024 0 [], .frameStart 0 64 [], .learnRelease 16,
    .pauseFrameReceived 1024 0 true, .pfcFrameReceived 1024 0 (List.replicate 8 0) true, .pauseTimerExpiry 1024 0, .pauseTimerExpiry 0 9,
    .pauseRefresh 1024 0, .timeDomFreqWrite 2 0, .timeDomPhaseWrite 2 0, .lockDeclare 2 0, .phaseSlewDone 2, .servoWatchdogExpiry 2,
    .domainSetTime 2, .domainSetAtPps 2, .ppsEdge 2, .ppsMissing 2, .tpoEnable 8 0, .tpoPulseEdge 8 true, .tpiCapture 4 true, .tpiPop 4,
    .calStart 1024, .llRelease 1024, .schedulerPick 1024, .transmitEnd 1024, .transmitStart 1024 0, .transmitStart 0 64,
    .replicatorOffer 65 0, .residueLink 16384, .frameDigest 64, .gapRecordWrite 256, .leafTimerClose 256, .profileValidWrite 64 0,
    .profileDrained 64, .tagDrained 4, .drainStuck 4, .lpmBackgroundMove 162, .allocatorHandshake 16 [] [], .beadDecrement 524288 .returnSet 0,
    .spillWrite 16384, .stuckReclaim 16384, .portFlush 1024, .holdDownExpiry 1024, .policerHandshake 65536, .gateListStart 1024,
    .gateEntryChange 1024].all fun i => !i.wf) = true := by decide +kernel

theorem test_ill_formed_numbers_of_units : ([Instr.dramScrubRead 0xC000000 ⟨0, false, .clean, 0⟩, .caParityAlert 64 ⟨true, 0, true⟩,
    .caParityAlert 0 ⟨true, 33, true⟩, .dramTraining 64 0 true, .dramTraining 0 65 true, .dramRequestTimeout 64, .writeAgeDrain 64,
    .dramRecal 64, .readIdleDrain 64, .refresh 2, .stackPark 2, .stackWake 2, .rowGuardRefresh 3072 0, .rowGuardRefresh 0 16384,
    .sidIdle 2 0, .sidIdle 0 3, .memRdTimeout 1024, .injectDescriptor 47, .injectDescriptor 61, .indexBlockWrite 64, .ringResume 64,
    .ringEnable 64 0, .dramTempRead ⟨256, 0⟩ false, .dramTempRead ⟨0, 256⟩ false, .collectorScan 13, .evtMaskWrite 128 0, .funcResetDone 12 true,
    .routineCheckpoint 8, .engineHalt 8, .spanControlSend 1024, .spanControlReceive 1024 [] true, .spanDataReceive 1024 [] true,
    .bistDone (some 4096), .obsWrite 262144 0, .jtagInstruction 256].all fun i => !i.wf) = true := by decide +kernel

/-- Written values and addresses beyond their widths, and values that the row's name excludes, are refused. -/
theorem test_ill_formed_values : ([Instr.registerWrite (2 ^ 26) 0, .registerWrite 2 0, .registerWrite 0 (2 ^ 32), .rcRegisterRead (2 ^ 26),
    .rcRegisterRead 1, .octetModeWrite 0 (2 ^ 32), .portEnable 0 0, .portEnable 0 (2 ^ 32 + 1), .portDisable 0 1, .portDisable 0 (2 ^ 32),
    .timeDomFreqWrite 0 (2 ^ 32), .tpoEnable 0 (2 ^ 32), .tallyEnable 0, .tallyEnable (2 ^ 32 + 1), .tallyDisable 1, .sealPeriodWrite (2 ^ 32),
    .profileValidWrite 0 (2 ^ 32), .dramServiceWrite (2 ^ 32), .ringEnable 0 (2 ^ 32), .evtMaskWrite 0 (2 ^ 32), .keepaliveWrite (2 ^ 32),
    .spanCtrlWrite (2 ^ 32), .obsWrite 0 (2 ^ 32)].all fun i => !i.wf) = true := by decide +kernel

/-- Readings and outcomes that no report gives are refused. -/
theorem test_ill_formed_readings : ([Instr.tempReading (List.replicate 39 0), .pauseFrameReceived 0 (2 ^ 16) true,
    .pfcFrameReceived 0 256 (List.replicate 8 0) true, .pfcFrameReceived 0 0 (List.replicate 7 0) true,
    .pfcFrameReceived 0 0 (List.replicate 8 (2 ^ 16)) true, .allocatorHandshake 0 [⟨65, 0⟩] [], .allocatorHandshake 0 [⟨0, 1025⟩] [],
    .spillReturn 0 ⟨⟨0, false, .clean, 512⟩, false⟩, .dramScrubRead 0 ⟨4, false, .clean, 0⟩, .dramScrubRead 0 ⟨0, false, .clean, 8⟩,
    .counterSweep [(1024, ⟨0, false, .clean, 0⟩)], .counterSweep [(0, ⟨0, false, .clean, 2⟩)], .tallyExportEntry ⟨0, false, .clean, 2⟩,
    .contextFetchDone 0 ⟨⟨0, false, .clean, 1⟩, ⟨0, false, .clean, 0⟩, ⟨0, false, .clean, 0⟩⟩,
    .contextFetchDone 0 ⟨⟨0, false, .clean, 0⟩, ⟨0, false, .clean, 1⟩, ⟨0, false, .clean, 0⟩⟩,
    .contextFetchDone 0 ⟨⟨0, false, .clean, 0⟩, ⟨0, false, .clean, 0⟩, ⟨0, false, .clean, 4⟩⟩].all fun i => !i.wf) = true := by
  decide +kernel

/-! ### Single steps -/

/-- No row of the table gives bits, so no word spells a command. -/
theorem test_no_word_spells_a_command : decodeTableWord 32 0xFFFFFFFF = none := rfl

/-- SHA-256 of "abc", as FIPS 180-4 gives it (R186 names the function). -/
theorem test_sha256_of_abc : beNat (sha256 [0x61, 0x62, 0x63]) = 0xBA7816BF8F01CFEA414140DE5DAE2223B00361A396177A9CB410FF61F20015AD := by
  decide +kernel

/-- An empty queue lets a clock cycle pass (log 72). -/
theorem test_idle_step_counts_a_cycle : (stateAfter (step up)).cycle = up.cycle + 1 := by decide +kernel

/-- The front command leaves the queue, the others wait. -/
theorem test_front_command_leaves : (stateAfter (step { up with pending := [.timeSnap, .carryPass] })).pending = [.carryPass] := by
  decide +kernel

/-- A port enabled in an octet of eight 2-lane-rate ports goes to TRAINING, state 1 (R83). -/
theorem test_enabled_port_trains : (stateAfter (exec (.portEnable 8 0x31) p8)).linkState 8 = 1 := by decide +kernel

/-- A device without power does not run -/
theorem test_power_loss_stops_the_die : (stateAfter (exec .powerLoss up)).running = false := by decide +kernel

/-! ### How the hypotheses of the statements are met -/

theorem served_of {s : State} (h : (s.running && !s.testMode && (s.get Reg.SEC_LIFECYCLE_STATE != 0) &&
    (s.get Reg.SEC_BOOT_STATE == 1) && (s.get Reg.SYS_CTRL_WARM_RESET == 0)) = true) : s.served := by
  simpa [State.served, and_assoc] using h

theorem accepts_of {s : State} {op : Nat} {c : CmdIn} (h : (s.running && decide (16 ≤ c.ring) && decide (c.ring < 32) && s.myTurn op c &&
    (match opInfo op with | some o => (s.cmdGate op o c).isNone | none => false)) = true) : s.accepts op c := by
  simp only [Bool.and_eq_true, decide_eq_true_eq] at h
  obtain ⟨⟨⟨⟨a, b⟩, d⟩, e⟩, g⟩ := h
  split at g
  · exact ⟨a, b, d, e, _, ‹_›, by simpa using g⟩
  · cases g

theorem acceptsLong_of {s : State} {op : Nat} {c : CmdIn} (h : (s.running && decide (16 ≤ c.ring) && decide (c.ring < 32) &&
    (match opInfo op with | some o => (s.cmdGate op o c).isNone && s.mayAct op o c false | none => false)) = true) :
    s.acceptsLong op c := by
  simp only [Bool.and_eq_true, decide_eq_true_eq] at h
  obtain ⟨⟨⟨a, b⟩, d⟩, g⟩ := h
  split at g
  · simp only [Bool.and_eq_true] at g
    exact ⟨a, b, d, _, ‹_›, by simpa using g.1, g.2⟩
  · cases g

theorem fails_noEdge {s : State} {i : RefInput} {ns : Nat} (h : 1000 ≤ ns) : s.failsWindow i (.noEdge ns) := .inl ⟨_, rfl, h⟩

theorem not_fails {s : State} {i : RefInput} {ns : Nat} (h : ns < 1000) : ¬ s.failsWindow i (.noEdge ns) := by
  rintro (⟨_, h1, h2⟩ | ⟨_, h1, _⟩) <;> cases h1
  omega

theorem backInRange_of {s : State} {i : RefInput} {rate : Int} {us : Nat} (h : (decide (1000 ≤ us) && decide (-refRange i ≤ rate) &&
    decide (rate ≤ refRange i) && (match mapFind s.die.lostAt (refNumber i) with 
      | some c => decide (c + msCycles ≤ s.cycle)
      | none => true)) = true) : s.backInRange i rate us := by
  simp only [Bool.and_eq_true, decide_eq_true_eq] at h
  obtain ⟨⟨⟨a, b⟩, d⟩, e⟩ := h
  exact ⟨a, b, d, fun c hc => by simpa [hc] using e⟩

theorem not_backInRange {s : State} {i : RefInput} {rate : Int} {us : Nat} (h : us < 1000) : ¬ s.backInRange i rate us :=
  fun k => absurd k.1 (by omega)

theorem later_of {o : Applied} (h : (match o with | .later => true | _ => false) = true) : o = .later := by
  cases o <;> simp_all

theorem pcFailed_of {s : State} (h : s.get Reg.DRAM_PC_FAILED_LO_FAILED = 0 ∧ s.get Reg.DRAM_PC_FAILED_HI_FAILED = 0) (pc : Nat) :
    s.pcFailed pc = false := by
  simp [State.pcFailed, h.1, h.2, bitOf]

theorem mem_of_mapFind {α : Type} {m : SMap α} {k : Nat} {v : α} (h : mapFind m k = some v) : (k, v) ∈ m := by
  induction m with
  | nil => cases h
  | cons e m ih =>
    obtain ⟨a, b⟩ := e
    by_cases x : a = k <;> simp_all [mapFind]

theorem rod_of {s : State} {c : Nat} (h : (∀ e ∈ s.path.rods, c ∉ e.2)) (q : Nat) : c ∉ s.rod q := by
  unfold State.rod mapGet
  cases e : mapFind s.path.rods q with
  | none => simp
  | some l => exact h _ (mem_of_mapFind e)

theorem found_of {α : Type} {m : SMap α} {P : Nat → Prop} (h : ∀ e ∈ m, P e.1) (k : Nat) (e : (mapFind m k).isSome = true) : P k := by
  obtain ⟨v, hv⟩ := Option.isSome_iff_exists.1 e
  exact h _ (mem_of_mapFind hv)

theorem none_free {l : List Nat} {x : Context} {s : State} (h : s.flow.contexts = l.map fun i => (i, x)) :
    l.find? s.indexFree = none := by
  have found : ∀ (m : List Nat) i, i ∈ m → mapFind (m.map fun i => (i, x)) i = some x := by
    intro m i hi
    induction m with
    | nil => cases hi
    | cons a m ih =>
      by_cases y : a = i
      · subst y; simp [mapFind]
      · have := ih (by simpa [Ne.symm y] using hi)
        simp_all [mapFind]
  exact List.find?_eq_none.2 fun i hi => by simp [State.indexFree, h, found l i hi]

theorem broken_of {o : Applied} (h : (match o with | .broken => true | _ => false) = true) : o = .broken := by
  cases o <;> simp_all

theorem done_of {o : Applied} (h : (match o with | .done _ => true | _ => false) = true) : ∃ v, o = .done v := by
  cases o <;> simp_all

theorem resync_of {s : State} {c : CmdIn} (h : (s.pair.resync.all fun x => x.1 != c) = true) (d : CmdIn) (n : Nat)
    (e : s.pair.resync = some (d, n)) : d ≠ c := by
  simp_all

theorem cached_of {s : State} {i : Nat} (h : s.flow.cache = [(setOf i, [i])]) : s.cached i = true := by
  simp [State.cached, h, mapGet, mapFind]

/-- An entry that stands alone in its home bucket is found, whatever the hash. -/
theorem find_home {m : Fdb} {v k v0 k0 : Nat} {e : FdbEntry} (h : m = [((fdbBuckets v0 k0).1, e)]) (hv : v = v0) (hk : k = k0)
    (he : e.vlan = v0 ∧ e.mac = k0) : fdbFind m v k = some ((fdbBuckets v0 k0).1, e) := by
  subst h hv hk
  simp [fdbFind, fdbPlaces, List.range_succ_eq_map, mapFind, he.1, he.2]

theorem room_nil {m : Fdb} {v k : Nat} (h : m = []) : makeRoom m v k = some ([], (fdbBuckets v k).1) := by
  subst h
  simp [makeRoom, roomPath, relocPath, freeSlot, mapFind, List.range_succ_eq_map]

theorem bucket_lt (v k : Nat) : (fdbBuckets v k).1 + 8 ≤ 524288 ∧ (fdbBuckets v k).2 + 8 ≤ 524288 := by
  unfold fdbBuckets
  dsimp only
  split <;> omega

theorem mapFind_range {α : Type} (x : α) (p : Nat) : ∀ n a, a ≤ p → p < a + n → mapFind ((List.range' a n).map fun i => (i, x)) p = some x
  | 0, a, h1, h2 => by omega
  | n + 1, a, h1, h2 => by
    by_cases h : a = p
    · simp [List.range'_succ, mapFind, h]
    · simp only [List.range'_succ, List.map_cons, mapFind, h, if_false]
      exact mapFind_range x p n (a + 1) (by omega) (by omega)

theorem path_full {m : Fdb} {x : FdbEntry} (h : ∀ p < 524288, mapFind m p = some x) :
    ∀ n seen b, b + 8 ≤ 524288 → relocPath m n seen b = none := by
  have full : ∀ b, b + 8 ≤ 524288 → freeSlot m b = none := fun b hb => List.find?_eq_none.2 fun p hp => by
    obtain ⟨i, hi, rfl⟩ := List.mem_map.1 hp
    simp [h (b + i) (by have := List.mem_range.1 hi; omega)]
  intro n
  induction n with
  | zero => intro seen b hb; simp [relocPath, full b hb]
  | succ n ih =>
    intro seen b hb
    unfold relocPath
    rw [full b hb]
    simp only [Option.isSome_none, Bool.false_eq_true, if_false]
    split
    · rfl
    · refine List.findSome?_eq_none_iff.2 fun i hi => ?_
      rw [h (b + i) (by have := List.mem_range.1 hi; omega)]
      have o : otherBucket x b + 8 ≤ 524288 := by
        unfold otherBucket
        dsimp only
        split
        · exact (bucket_lt _ _).2
        · exact (bucket_lt _ _).1
      simp [ih _ _ o]

/-- No room can be made when every place is taken, whatever the hash. -/
theorem room_full {m : Fdb} {v k : Nat} (h : m = fullFdb) : makeRoom m v k = none := by
  have all : ∀ p < 524288, mapFind m p = some { fdbE 0 9 false with mac := 1000 } := fun p hp => by
    rw [h, fullFdb, List.range_eq_range']
    exact mapFind_range _ p _ 0 (by omega) (by omega)
  have b := bucket_lt v k
  have a := path_full all
  unfold makeRoom roomPath
  dsimp only
  rw [List.findSome?_eq_none_iff.2 fun n _ => List.findSome?_eq_none_iff.2 fun z hz => ?_]
  · rfl
  · rcases List.mem_cons.1 hz with rfl | hz
    · simp [a n [] _ b.1]
    · simp [List.mem_singleton.1 hz, a n [] _ b.2]

/-- A key that no entry of a full FDB has is not found. -/
theorem find_full {m : Fdb} {v k : Nat} (h : m = fullFdb) (hk : k ≠ 1000) : fdbFind m v k = none := by
  refine List.findSome?_eq_none_iff.2 fun p _ => ?_
  cases e : mapFind m p with
  | none => rfl
  | some y =>
    have he := mem_of_mapFind e
    rw [h] at he
    obtain ⟨i, -, hi⟩ := List.mem_map.1 he
    cases hi
    simp [Ne.symm hk]

theorem used_full {m : McastSt} {n x : Nat} (h : m = ⟨[(4, (1, List.replicate n x))], []⟩) : m.used = n := by
  subst h
  simp [McastSt.used]

theorem entries_full {m : LpmSt} {n : Nat} {e : LpmEntry} (h : m = ⟨[], [(8, List.replicate n [some e])], 0⟩) :
    m.entries = List.replicate n e := by
  subst h
  induction n with
  | zero => rfl
  | succ n ih => simp_all [LpmSt.entries, List.replicate_succ]

theorem groupFree_full {n : Nat} {e : LpmEntry} : groupFree (List.replicate n [some e]) = false := by
  simp [groupFree]

theorem gain_full {m : LpmSt} {l : List LpmUnit} (h : m = ⟨[], [(8, l)], 0⟩) (hl : l.length = 131072) : gainUnit m false 8 false = none := by
  subst h
  have p : LpmSt.pool ⟨[], [(8, l)], 0⟩ = 0 := by simp [LpmSt.pool, hl]
  have f : freeUnit ⟨[], [(8, l)], 0⟩ false 8 false = none := by
    unfold freeUnit
    rw [p]
    rfl
  simp [gainUnit, f]

/-! ### States and operands that meet the hypotheses of the statements -/

set_option maxRecDepth 20000
set_option Elab.async false

theorem witness_EveryStepKeepsTheFdbInItsBuckets : ∃ s t : State, s.fdbInOrder ∧ step s = .next t :=
  ⟨State.reset, stateAfter (step State.reset), ⟨rfl, by decide +kernel⟩, rfl⟩

theorem witness_EveryStepLeavesThePinsRight :
    ∃ (s : State), (∀ c, s.pending.head? = some c → c.wf = true) ∧ ∃ c, s.pending.head? = some c :=
  ⟨{ up with pending := [.timeSnap] }, fun c h => by cases h; rfl, _, rfl⟩

namespace WholeDevice

def md (m : DieMode) (s : State) : State := {s with die := {s.die with mode := m}}

def pd (l : List Instr) (s : State) : State := {s with pending := l}

def state1 : State := pd [.presRevert] up

def state3 : State := md .held up

def state8 : State := md .tripped up

def state9 : State := md .brownOut up

def seniorStraps : Straps := {up.die.straps with senior := true, pairEn := true}

def fc (k : Nat) : State := up8.set (Reg.MAC_PORT_CTRL_FLOW_CTRL 8) k

def state20 : State := fc 1

def state21 : State := fc 2

def state22 : State := (fc 1).modPort 8 (fun x => {x with pause := some (5, 7)})

def state23 : State := (fc 1).modPort 8 (fun x => {x with request := [(8, 5)]})

def state24 : State := (fc 1).modPort 8 (fun x => {x with request := [(8, 5)], tx := some ⟨⟨0,84,20,none,true⟩, 77, false, 0, 0, false, 5⟩})

def one (x : Frame) (s : State) : State := withF x s

def fch (o : Option (Nat × Nat × Nat)) (dk : Nat) : Frame := {cl ip4 0 with stage := .fetching, seen := o, destKind := dk, dest := 9, session := [1, 6] ++ zeros 46}

def ms (k : Nat) (s : State) : State := s.set (Reg.FDB_PORT_CFG_MISS_ACT 8) k

def fe (k d : Nat) (b : Bool) : FdbEntry := {fdbE k d b with mac := beNat (ip4.take 6), vlan := p8.frameVlan ip4 8}

def state25 : State := one (cl ip4 2) up8

def state27 : State := one (cl ip4 0) (withFdb (fe 0 9 false) up8)

def state29 : State := one (cl ip4 0) (withFdb (fe 3 9 false) up8)

def state31 : State := one (cl ip4 0) (ms 0 up8)

def state32 : State := one (cl ip4 0) (ms 1 up8)

def state33 : State := one (cl ip4 0) (ms 2 up8)

def state34 : State := one (cl ip4 1) (withLpm (lpmE 0 9) up8)

def state37 : State := one (fch (some (3, 1, 2)) 0) up8

def state39 : State := one (fch none 0) up8

theorem witness_StepRunsTheFrontCommand :
  ∃ (c : Instr) (rest : List Instr) (s : State), s.pending = c :: rest :=
  ⟨Instr.presRevert, [], state1, by decide +kernel⟩

theorem witness_IdleStepIsOneClockCycle :
  (∃ (s : State), s.pending = [] ∧ s.running = true) ∧
  (∃ (s : State), s.pending = [] ∧ s.running = false) :=
  ⟨⟨up, by decide +kernel⟩,
   ⟨state3, by decide +kernel⟩⟩

theorem witness_ADieThatDoesNotRunDrivesNothingAndTakesNoCommand :
  (∃ (c : Instr) (s : State) (t : State), exec c s = Host.Outcome.next t ∧ t.running = false) ∧
  (∃ (c : Instr) (s : State) (t : State), exec c s = Host.Outcome.next t ∧ s.die.mode = DieMode.tripped ∧ c ≠ Instr.powerLoss) ∧
  (∃ (c : Instr) (s : State) (t : State), exec c s = Host.Outcome.next t ∧ s.running = false) :=
  ⟨⟨Instr.presRevert, state3, _, rfl, by decide +kernel⟩,
   ⟨Instr.presRevert, state8, _, rfl, by decide +kernel⟩,
   ⟨Instr.presRevert, state3, _, rfl, by decide +kernel⟩⟩

theorem witness_ResetsAndPowerLossLoseAllButMramFusesAndStraps :
  (∃ (s : State), s.running = true) ∧
  (∃ (s : State), s.die.mode = DieMode.brownOut) ∧
  (∃ (s : State), s.running = false ∧ s.die.mode ≠ DieMode.brownOut) ∧
  (∃ (s : State), s.running = true) ∧
  (∃ (s : State), s.running = false) ∧
  (∃ (s : State) (l : List ℤ) (h : ℤ), s.running = true ∧ h ∈ l ∧ (∀ x ∈ l, x ≤ h) ∧ 1840 ≤ h) :=
  ⟨⟨up, by decide +kernel⟩,
   ⟨state9, by decide +kernel⟩,
   ⟨state3, by decide +kernel⟩,
   ⟨up, by decide +kernel⟩,
   ⟨state9, by decide +kernel⟩,
   ⟨up, [1840], _, by decide +kernel, List.mem_of_getElem? (i := 0) rfl, by decide +kernel⟩⟩

theorem witness_TheReleaseOfResetCapturesTheStraps :
  (∃ (s : State) (p : Straps), s.die.mode = DieMode.held ∨ s.die.mode = DieMode.off) ∧
  (∃ (s : State) (p : Straps), s.die.mode ≠ DieMode.held ∧ s.die.mode ≠ DieMode.off) :=
  ⟨⟨state3, seniorStraps, by decide +kernel⟩,
   ⟨up, seniorStraps, by decide +kernel⟩⟩

theorem witness_TheMonitorsSetTheirBitsAndSources :
  (∃ (s : State), s.running = true ∧ ∃ (l : List ℤ), ∃ h ∈ l, (∀ x ∈ l, x ≤ h) ∧ h < 1840 ∧ -32768 ≤ h) ∧
  (∃ (s : State), s.running = true ∧ ∃ (m : Nat), m < 65536) :=
  ⟨⟨up, by decide +kernel, [100], _, List.mem_of_getElem? (i := 0) rfl, by decide +kernel⟩,
   ⟨up, by decide +kernel, 0, by decide +kernel⟩⟩

theorem witness_ReferenceInputsAreLostAndFoundAgain :
  (∃ (s : State), s.running = true ∧ ∃ (g : Nat) (x : RefFault), g < 32 ∧ s.failsWindow (RefInput.lgref g) x) ∧
  (∃ (s : State), s.running = true ∧ ∃ (x : RefFault), s.failsWindow RefInput.cref x) ∧
  (∃ (s : State), s.running = true ∧ ∃ (x : RefFault), s.failsWindow RefInput.trefa x) ∧
  (∃ (s : State), s.running = true ∧ ∃ (x : RefFault), s.failsWindow RefInput.trefb x) ∧
  (∃ (s : State), s.running = true ∧ ∃ (i : RefInput) (x : RefFault), refGroup i < 32 ∧ ¬s.failsWindow i x) :=
  ⟨⟨up, by decide +kernel, 0, (RefFault.noEdge 1000), by decide +kernel, fails_noEdge (by decide +kernel)⟩,
   ⟨up, by decide +kernel, (RefFault.noEdge 1000), fails_noEdge (by decide +kernel)⟩,
   ⟨up, by decide +kernel, (RefFault.noEdge 1000), fails_noEdge (by decide +kernel)⟩,
   ⟨up, by decide +kernel, (RefFault.noEdge 1000), fails_noEdge (by decide +kernel)⟩,
   ⟨up, by decide +kernel, RefInput.cref, (RefFault.noEdge 999), by decide +kernel, not_fails (by decide +kernel)⟩⟩

theorem witness_ReferenceInputsAreLostAndFoundAgain_2 :
  (∃ (s : State), s.running = true ∧ ∃ (g : Nat) (r : ℤ) (n : Nat), g < 32 ∧ s.backInRange (RefInput.lgref g) r n) ∧
  (∃ (s : State), s.running = true ∧ ∃ (r : ℤ) (n : Nat), s.backInRange RefInput.cref r n) ∧
  (∃ (s : State), s.running = true ∧ ∃ (r : ℤ) (n : Nat), s.backInRange RefInput.trefa r n) ∧
  (∃ (s : State), s.running = true ∧ ∃ (r : ℤ) (n : Nat), s.backInRange RefInput.trefb r n) ∧
  (∃ (s : State), s.running = true ∧ ∃ (i : RefInput) (r : ℤ) (n : Nat), refGroup i < 32 ∧ ¬s.backInRange i r n) :=
  ⟨⟨up, by decide +kernel, 0, 0, 1000, by decide +kernel, backInRange_of (by decide +kernel)⟩,
   ⟨up, by decide +kernel, 0, 1000, backInRange_of (by decide +kernel)⟩,
   ⟨up, by decide +kernel, 0, 1000, backInRange_of (by decide +kernel)⟩,
   ⟨up, by decide +kernel, 0, 1000, backInRange_of (by decide +kernel)⟩,
   ⟨up, by decide +kernel, RefInput.cref, 0, 999, by decide +kernel, not_backInRange (by decide +kernel)⟩⟩

theorem witness_RegistersAreWrittenWholeOrNotAndReadsClearRcFields :
  (∃ (s : State), s.served ∧ ∃ (addr : Nat), ∃ v < 2 ^ 32, regAt addr = none) ∧
  (∃ (s : State), s.served ∧ s.get Reg.SYS_CORE_SPEED_MIN_MT < 65536 ∧ s.get Reg.SYS_CORE_SPEED_NOW_MT < 65536) ∧
  (∃ (s : State), s.served ∧ ∃ (addr : Nat), regAt addr = none) :=
  ⟨⟨up, served_of (by decide +kernel), 36, 0, by decide +kernel⟩,
   ⟨up, served_of (by decide +kernel), by decide +kernel⟩,
   ⟨up, served_of (by decide +kernel), 36, by decide +kernel⟩⟩

theorem witness_PauseAndPriorityFlowControl :
  (∃ (s : State) (p : Nat), s.running = true ∧ s.isPort p = true ∧ s.linkState p = stUp ∧ ∃ (q : Nat), s.get (Reg.MAC_PORT_CTRL_FLOW_CTRL
    p) = 1 ∧ q < 65536) ∧
  (∃ (s : State) (p : Nat), s.running = true ∧ s.isPort p = true ∧ s.linkState p = stUp ∧ ∃ (n : Nat) (q : Nat), s.get
    (Reg.MAC_PORT_CTRL_FLOW_CTRL p) = 2 ∧ n < 8 ∧ q < 65536 ∧ q ≠ 0 ∧ (s.port p).pfc = []) ∧
  (∃ (s : State) (p : Nat), s.running = true ∧ s.isPort p = true ∧ s.linkState p = stUp ∧ ∃ (c : Nat) (q : Nat), (s.port p).pause = some
    (c, q) ∧ s.quantaPassed p c q = true) ∧
  (∃ (s : State) (p : Nat), s.running = true ∧ s.isPort p = true ∧ s.linkState p = stUp ∧ ∃ (c : Nat), mapFind (s.port p).request 8 = some
    c ∧ s.quantaPassed p c (s.get (Reg.MAC_PORT_PAUSE_REFRESH p)) = true ∧ s.get (Reg.MAC_PORT_CTRL_LOOPBACK p) ≠ 3 ∧ (s.port p).tx =
    none) ∧
  (∃ (s : State) (p : Nat), s.running = true ∧ s.isPort p = true ∧ s.linkState p = stUp ∧ ∃ (c : Nat), mapFind (s.port p).request 8 = some
    c ∧ s.quantaPassed p c (s.get (Reg.MAC_PORT_PAUSE_REFRESH p)) = true ∧ s.get (Reg.MAC_PORT_CTRL_LOOPBACK p) ≠ 3 ∧ (s.port p).tx ≠
    none) :=
  ⟨⟨state20, 8, by decide +kernel, by decide +kernel, by decide +kernel, 0, by decide +kernel⟩,
   ⟨state21, 8, by decide +kernel, by decide +kernel, by decide +kernel, 0, 1, by decide +kernel⟩,
   ⟨state22, 8, by decide +kernel, by decide +kernel, by decide +kernel, _, _, rfl, by decide +kernel⟩,
   ⟨state23, 8, by decide +kernel, by decide +kernel, by decide +kernel, _, rfl, by decide +kernel⟩,
   ⟨state24, 8, by decide +kernel, by decide +kernel, by decide +kernel, _, rfl, by decide +kernel⟩⟩

theorem witness_LookupsFixADestinationAndAContext :
  (∃ (s : State) (f : Nat) (x : Frame), s.running = true ∧ s.frame f = some x ∧ x.stage = Stage.classified ∧ (s.inTurn f x.port fun (y :
    Frame) => y.stage == Stage.classified && y.carried == x.carried) = true ∧ 2 ≤ x.mark.fwd) ∧
  (∃ (s : State) (f : Nat) (x : Frame), s.running = true ∧ s.frame f = some x ∧ x.stage = Stage.classified ∧ (s.inTurn f x.port fun (y :
    Frame) => y.stage == Stage.classified && y.carried == x.carried) = true ∧ ∃ (vlan : Nat) (mac : Nat), vlan = s.frameVlan x.bytes
    x.port ∧ mac = beNat (List.take 6 x.bytes) ∧ x.mark.fwd = 0 ∧ s.funcUp Func.fdb = true ∧ ∃ (p : Nat) (e : FdbEntry), fdbFind
    s.fdb.entries vlan mac = some (p, e) ∧ e.bad = false ∧ e.kind ≠ 3 ∧ (e.kind ≠ 0 ∨ e.dest ≠ s.logical x.port ∨ s.bit
    (Reg.FDB_PORT_CFG_HAIRPIN x.port) = true)) ∧
  (∃ (s : State) (f : Nat) (x : Frame), s.running = true ∧ s.frame f = some x ∧ x.stage = Stage.classified ∧ (s.inTurn f x.port fun (y :
    Frame) => y.stage == Stage.classified && y.carried == x.carried) = true ∧ ∃ (vlan : Nat) (mac : Nat), vlan = s.frameVlan x.bytes
    x.port ∧ mac = beNat (List.take 6 x.bytes) ∧ x.mark.fwd = 0 ∧ s.funcUp Func.fdb = true ∧ ∃ (p : Nat) (e : FdbEntry), fdbFind
    s.fdb.entries vlan mac = some (p, e) ∧ e.bad = false ∧ (e.kind = 3 ∨ e.kind = 0 ∧ e.dest = s.logical x.port ∧ s.bit
    (Reg.FDB_PORT_CFG_HAIRPIN x.port) = false)) ∧
  (∃ (s : State) (f : Nat) (x : Frame), s.running = true ∧ s.frame f = some x ∧ x.stage = Stage.classified ∧ (s.inTurn f x.port fun (y :
    Frame) => y.stage == Stage.classified && y.carried == x.carried) = true ∧ ∃ (vlan : Nat) (mac : Nat), vlan = s.frameVlan x.bytes
    x.port ∧ mac = beNat (List.take 6 x.bytes) ∧ x.mark.fwd = 0 ∧ s.funcUp Func.fdb = true ∧ fdbFind s.fdb.entries vlan mac = none ∧ s.get
    (Reg.FDB_PORT_CFG_MISS_ACT x.port) = 1) ∧
  (∃ (s : State) (f : Nat) (x : Frame), s.running = true ∧ s.frame f = some x ∧ x.stage = Stage.classified ∧ (s.inTurn f x.port fun (y :
    Frame) => y.stage == Stage.classified && y.carried == x.carried) = true ∧ ∃ (vlan : Nat) (mac : Nat), vlan = s.frameVlan x.bytes
    x.port ∧ mac = beNat (List.take 6 x.bytes) ∧ x.mark.fwd = 0 ∧ s.funcUp Func.fdb = true ∧ fdbFind s.fdb.entries vlan mac = none ∧ s.get
    (Reg.FDB_PORT_CFG_MISS_ACT x.port) = 2) ∧
  (∃ (s : State) (f : Nat) (x : Frame), s.running = true ∧ s.frame f = some x ∧ x.stage = Stage.classified ∧ (s.inTurn f x.port fun (y :
    Frame) => y.stage == Stage.classified && y.carried == x.carried) = true ∧ ∃ (vlan : Nat) (mac : Nat), vlan = s.frameVlan x.bytes
    x.port ∧ mac = beNat (List.take 6 x.bytes) ∧ x.mark.fwd = 0 ∧ s.funcUp Func.fdb = true ∧ fdbFind s.fdb.entries vlan mac = none ∧ s.get
    (Reg.FDB_PORT_CFG_MISS_ACT x.port) = 0) :=
  ⟨⟨state25, 0, _, by decide +kernel, rfl, by decide +kernel⟩,
   ⟨state27, 0, _, by decide +kernel, rfl, by decide +kernel, by decide +kernel, _, _, rfl, rfl, by decide +kernel, by decide +kernel, _,
     _, find_home rfl (by decide +kernel) (by decide +kernel) (by decide +kernel), by decide +kernel⟩,
   ⟨state29, 0, _, by decide +kernel, rfl, by decide +kernel, by decide +kernel, _, _, rfl, rfl, by decide +kernel, by decide +kernel, _,
     _, find_home rfl (by decide +kernel) (by decide +kernel) (by decide +kernel), by decide +kernel⟩,
   ⟨state32, 0, _, by decide +kernel, rfl, by decide +kernel, by decide +kernel, _, _, rfl, rfl, by decide +kernel⟩,
   ⟨state33, 0, _, by decide +kernel, rfl, by decide +kernel, by decide +kernel, _, _, rfl, rfl, by decide +kernel⟩,
   ⟨state31, 0, _, by decide +kernel, rfl, by decide +kernel, by decide +kernel, _, _, rfl, rfl, by decide +kernel⟩⟩

theorem witness_LookupsFixADestinationAndAContext_2 :
  (∃ (s : State) (f : Nat) (x : Frame), s.running = true ∧ s.frame f = some x ∧ x.stage = Stage.classified ∧ (s.inTurn f x.port fun (y :
    Frame) => y.stage == Stage.classified && y.carried == x.carried) = true ∧ ∃ (l3 : Nat) (e : LpmEntry), x.mark.fwd = 1 ∧ (walk
    x.bytes).l3 = some l3 ∧ s.funcUp Func.lpm = true ∧ (s.lpmMatch (walk x.bytes).v6 (if (walk x.bytes).v6 = true then beAt x.bytes (l3 +
    24) 16 else beAt x.bytes (l3 + 16) 4)).1 = some e ∧ e.kind ≠ 3 ∧ (e.kind ≠ 0 ∨ e.dest ≠ s.logical x.port ∨ s.bit
    (Reg.FDB_PORT_CFG_HAIRPIN x.port) = true)) ∧
  (∃ (s : State) (f : Nat) (x : Frame), s.running = true ∧ s.frame f = some x ∧ x.stage = Stage.classified ∧ (s.inTurn f x.port fun (y :
    Frame) => y.stage == Stage.classified && y.carried == x.carried) = true ∧ ∃ (t : State), exec (Instr.forwardingLookup f) s =
    Host.Outcome.next t) ∧
  (∃ (s : State) (f : Nat) (x : Frame), s.running = true ∧ s.frame f = some x ∧ x.stage = Stage.fetching ∧ s.dramServes = true ∧ ∃ (r :
    FetchRead) (i : Nat) (pol : Nat) (ovr : Nat), x.seen = some (i, pol, ovr) ∧ r.tag0.ecc ≠ EccOutcome.uncorrectable ∧ r.tag1.ecc ≠
    EccOutcome.uncorrectable ∧ r.place.ecc ≠ EccOutcome.uncorrectable ∧ s.dram.errs = [] ∧ s.flow.bad = [] ∧ ∀ (pc : Nat), s.pcFailed pc =
    false) ∧
  (∃ (s : State) (f : Nat) (x : Frame), s.running = true ∧ s.frame f = some x ∧ x.stage = Stage.fetching ∧ s.dramServes = true ∧ ∃ (r :
    FetchRead) (i : Nat) (pol : Nat) (ovr : Nat), x.seen = some (i, pol, ovr) ∧ r.place.ecc = EccOutcome.uncorrectable ∧ r.place.burst < 2
    ∧ s.dram.writes = [] ∧ s.cached i = false) ∧
  (∃ (s : State) (f : Nat) (x : Frame), s.running = true ∧ s.frame f = some x ∧ x.stage = Stage.fetching ∧ s.dramServes = true ∧ ∃ (r :
    FetchRead), x.seen = none) ∧
  (∃ (s : State) (f : Nat) (x : Frame), s.running = true ∧ s.frame f = some x ∧ x.stage = Stage.fetching ∧ s.dramServes = true ∧ ∃ (r :
    FetchRead) (t : State), exec (Instr.contextFetchDone f r) s = Host.Outcome.next t) :=
  ⟨⟨state34, 0, _, by decide +kernel, rfl, by decide +kernel, by decide +kernel, _, _, by decide +kernel, rfl, by decide +kernel, rfl,
     by decide +kernel⟩,
   ⟨state25, 0, _, by decide +kernel, rfl, by decide +kernel, by decide +kernel, _, rfl⟩,
   ⟨state37, 0, _, by decide +kernel, rfl, by decide +kernel, by decide +kernel,
     { tag0 := { repeats := 0, severity := false, ecc := EccOutcome.clean, burst := 0 }, tag1 :=
     { repeats := 0, severity := false, ecc := EccOutcome.clean, burst := 0 }, place :=
     { repeats := 0, severity := false, ecc := EccOutcome.clean, burst := 0 } }, _, _, _, rfl, by decide +kernel, by decide +kernel,
     by decide +kernel, by decide +kernel, by decide +kernel, pcFailed_of (by decide +kernel)⟩,
   ⟨state37, 0, _, by decide +kernel, rfl, by decide +kernel, by decide +kernel,
     { tag0 := { repeats := 0, severity := false, ecc := EccOutcome.clean, burst := 0 }, tag1 :=
     { repeats := 0, severity := false, ecc := EccOutcome.clean, burst := 0 }, place :=
     { repeats := 0, severity := true, ecc := EccOutcome.uncorrectable, burst := 1 } }, _, _, _, rfl, by decide +kernel⟩,
   ⟨state39, 0, _, by decide +kernel, rfl, by decide +kernel, by decide +kernel,
     { tag0 := { repeats := 0, severity := false, ecc := EccOutcome.clean, burst := 0 }, tag1 :=
     { repeats := 0, severity := false, ecc := EccOutcome.clean, burst := 0 }, place :=
     { repeats := 0, severity := false, ecc := EccOutcome.clean, burst := 0 } }, by decide +kernel⟩,
   ⟨state37, 0, _, by decide +kernel, rfl, by decide +kernel, by decide +kernel,
     { tag0 := { repeats := 0, severity := false, ecc := EccOutcome.clean, burst := 0 }, tag1 :=
     { repeats := 0, severity := false, ecc := EccOutcome.clean, burst := 0 }, place :=
     { repeats := 0, severity := false, ecc := EccOutcome.clean, burst := 0 } }, _, rfl⟩⟩

end WholeDevice

namespace PortsAndTime

def state1 : State := ls 2 en8

def state2 : State := ((ls 1 en8).on (Reg.MAC_PORT_CTRL_AN_EN 8)).modPort 8 fun x => {x with cond := {x.cond with anRefused := true}}

def state3 : State := (ls 1 en8).on (Reg.MAC_PORT_STATUS_LINK_GOOD 8)

def state4 : State := (ls 3 en8).modPort 8 fun x => {x with flush := .complete 5}

def state7 : State := up.setDom 0 {dom0 with byWdog := some true, clearedAt := some 1000000000000}

def lk (s : State) := s.on (Reg.TIME_DOM_CTRL_LOCKED 0)

def state8 : State := up.setDom 0 {dom0 with everSet := true}

def state10 : State := (lk up).set (Reg.TIME_DOM_CTRL_WDOG_MS 0) 1

def state11 : State := up.setDom 0 {dom0 with everSet := true, clearedAt := some 1000000000000}

def state12 : State := ((lk up).setDom 0 {dom0 with everSet := true}).set (Reg.TIME_DOM_STATUS_LOCK 0) 2

def state13 : State := lk up

def state14 : State := (up.setDom 0 {dom0 with everSet := true, setPending := some 7, now := 10^60}).on (Reg.TIME_DOM_CTRL_PPS_EN 0)

def state15 : State := fol 0 up

def state16 : State := fol 0 ((lkd 0 up).set (Reg.TIME_DOM_STATUS_LOCK 0) 2)

def state17 : State := fol 1 ((lkd 0 up).set (Reg.TIME_DOM_STATUS_LOCK 0) 2)

def state18 : State := ((lkd 0 up).set (Reg.TIME_DOM_STATUS_LOCK 0) 2).setPres {up.time.pres with mode := .holdover 1}

def state22 : State := ((fol 0 (lkd 1 up)).set Reg.TIME_PRES_CTRL_PREFERRED 1).on Reg.TIME_PRES_CTRL_REVERT

theorem witness_AnOctetTakesANewMode :
  (∃ (s : State) (o : Nat) (v : Nat), s.served ∧ s.funcUp Func.mac = true ∧ s.spanOn = false ∧ o < 128 ∧ v < 2 ^ 32 ∧ within v 55 = true ∧
    octetModeOk (bits v 0 3) (bits v 4 2) = false) ∧
  (∃ (s : State) (o : Nat) (v : Nat), s.served ∧ s.funcUp Func.mac = true ∧ s.spanOn = false ∧ o < 128 ∧ v < 2 ^ 32 ∧ within v 55 = true ∧
    octetModeOk (bits v 0 3) (bits v 4 2) = true ∧ ∃ i < 8, s.bit (Reg.MAC_PORT_CTRL_ENABLE (8 * o + i)) = true) ∧
  (∃ (s : State) (o : Nat) (v : Nat), s.served ∧ s.funcUp Func.mac = true ∧ s.spanOn = false ∧ o < 128 ∧ v < 2 ^ 32 ∧ within v 55 = true ∧
    octetModeOk (bits v 0 3) (bits v 4 2) = true ∧ ∀ i < 8, s.bit (Reg.MAC_PORT_CTRL_ENABLE (8 * o + i)) = false ∧ s.linkState (8 * o + i)
    ≠ stFlushing) :=
  ⟨⟨p8, 1, 7, served_of (by decide +kernel), by decide +kernel⟩,
   ⟨en8, 1, 33, served_of (by decide +kernel), by decide +kernel⟩,
   ⟨p8, 1, 33, served_of (by decide +kernel), by decide +kernel⟩⟩

theorem witness_APortFollowsItsLink :
  (∃ (s : State) (p : Nat), s.running = true ∧ s.isPort p = true ∧ s.funcUp Func.mac = true ∧ ∃ (c : LinkCond), s.linkState p =
    stDisabled) ∧
  (∃ (s : State) (p : Nat), s.running = true ∧ s.isPort p = true ∧ s.funcUp Func.mac = true ∧ ∃ (c : LinkCond), s.linkState p ≠
    stDisabled) ∧
  (∃ (s : State) (p : Nat), s.running = true ∧ s.isPort p = true ∧ s.funcUp Func.mac = true ∧ s.linkState p = stTraining ∧ s.bit
    (Reg.MAC_PORT_STATUS_LINK_GOOD p) = true ∧ s.laneRefGood p = true ∧ s.bit Reg.SYS_CLK_STATUS_ON_OSC = false ∧ (s.port p).request = []
    ∧ (s.bit (Reg.MAC_PORT_CTRL_AN_EN p) = false ∨ (s.port p).cond.anRefused = false) ∧ max (s.port p).trainSince (s.port p).goodSince +
    s.get (Reg.MAC_PORT_CTRL_UP_DEBOUNCE p) * 100 * usCycles ≤ s.cycle) ∧
  (∃ (s : State) (p : Nat), s.running = true ∧ s.isPort p = true ∧ s.funcUp Func.mac = true ∧ s.bit (Reg.MAC_PORT_CTRL_AN_EN p) = true ∧
    (s.port p).cond.anRefused = true) ∧
  (∃ (s : State) (p : Nat), s.running = true ∧ s.isPort p = true ∧ s.funcUp Func.mac = true ∧ s.linkState p = stUp ∧ s.bit
    (Reg.MAC_PORT_STATUS_LINK_GOOD p) = false ∧ (s.port p).badSince + s.get (Reg.MAC_PORT_CTRL_DN_DEBOUNCE p) * usCycles ≤ s.cycle) ∧
  (∃ (s : State) (p : Nat), s.running = true ∧ s.isPort p = true ∧ s.funcUp Func.mac = true ∧ ∃ (c : Nat), (s.port p).flush =
    FlushSt.complete c ∧ s.linkState p = stFlushing ∧ c + s.get Reg.QUE_CTRL_HOLD_DOWN_US * usCycles ≤ s.cycle) :=
  ⟨⟨p8, 8, by decide +kernel, by decide +kernel, by decide +kernel, linkCond0, by decide +kernel⟩,
   ⟨state1, 8, by decide +kernel, by decide +kernel, by decide +kernel, linkCond0, by decide +kernel⟩,
   ⟨state3, 8, by decide +kernel⟩,
   ⟨state2, 8, by decide +kernel⟩,
   ⟨state1, 8, by decide +kernel⟩,
   ⟨state4, 8, by decide +kernel, by decide +kernel, by decide +kernel, 5, by decide +kernel⟩⟩

theorem witness_CounterCommandsReturnTheSixtyFourCounters :
  (∃ (s : State) (c : CmdIn), s.accepts 80 c ∧ s.isPort c.param = true) ∧
  (∃ (s : State) (c : CmdIn), s.accepts 81 c ∧ s.isPort c.param = true) ∧
  (∃ (s : State) (c : CmdIn), s.accepts 80 c ∧ s.isPort c.param = false) ∧
  (∃ (s : State) (c : CmdIn), s.accepts 81 c ∧ s.isPort c.param = false) :=
  ⟨⟨p8, (cin 8 []), accepts_of (by decide +kernel), by decide +kernel⟩,
   ⟨p8, (cin 8 []), accepts_of (by decide +kernel), by decide +kernel⟩,
   ⟨p8, (cin 16 []), accepts_of (by decide +kernel), by decide +kernel⟩,
   ⟨p8, (cin 16 []), accepts_of (by decide +kernel), by decide +kernel⟩⟩

theorem witness_FrequencyAndPhaseCorrectionsAreBounded :
  (∃ (s : State) (d : Nat) (v : Nat), s.served ∧ s.funcUp Func.time = true ∧ d < 2 ∧ v < 2 ^ 32 ∧ withinS v 1099511627 = true ∧ ((s.dom
    d).byWdog = none ∨ (s.dom d).clearedAt ≠ some s.cycle)) ∧
  (∃ (s : State) (d : Nat) (v : Nat), s.served ∧ s.funcUp Func.time = true ∧ d < 2 ∧ v < 2 ^ 32 ∧ withinS v 1099511627 = false) ∧
  (∃ (s : State) (d : Nat) (v : Nat), s.served ∧ s.funcUp Func.time = true ∧ d < 2 ∧ v < 2 ^ 32 ∧ ∃ (was : Bool), (s.dom d).byWdog = some
    was ∧ (s.dom d).clearedAt = some s.cycle ∧ withinS v 1099511627 = true) ∧
  (∃ (s : State) (d : Nat) (v : Nat), s.served ∧ s.funcUp Func.time = true ∧ d < 2 ∧ v < 2 ^ 32 ∧ ∃ (was : Bool), (s.dom d).byWdog = some
    was ∧ (s.dom d).clearedAt = some s.cycle ∧ withinS v 256000000 = true) ∧
  (∃ (s : State) (d : Nat) (v : Nat), s.served ∧ s.funcUp Func.time = true ∧ d < 2 ∧ v < 2 ^ 32 ∧ withinS v 256000000 = true ∧ ((s.dom
    d).byWdog = none ∨ (s.dom d).clearedAt ≠ some s.cycle)) ∧
  (∃ (s : State) (d : Nat) (v : Nat), s.served ∧ s.funcUp Func.time = true ∧ d < 2 ∧ v < 2 ^ 32 ∧ withinS v 256000000 = false) ∧
  (∃ (s : State) (d : Nat) (v : Nat), s.served ∧ s.funcUp Func.time = true ∧ d < 2 ∧ v < 2 ^ 32 ∧ (s.dom d).left = 0) :=
  ⟨⟨up, 0, 0, served_of (by decide +kernel), by decide +kernel⟩,
   ⟨up, 0, 1099511628, served_of (by decide +kernel), by decide +kernel⟩,
   ⟨state7, 0, 0, served_of (by decide +kernel), by decide +kernel, by decide +kernel, by decide +kernel, _, rfl, by decide +kernel⟩,
   ⟨state7, 0, 0, served_of (by decide +kernel), by decide +kernel, by decide +kernel, by decide +kernel, _, rfl, by decide +kernel⟩,
   ⟨up, 0, 0, served_of (by decide +kernel), by decide +kernel⟩,
   ⟨up, 0, 1099511627, served_of (by decide +kernel), by decide +kernel⟩,
   ⟨up, 0, 0, served_of (by decide +kernel), by decide +kernel⟩⟩

theorem witness_LockIsDeclaredByTheHostAndWithdrawnByTheDevice :
  (∃ (s : State) (d : Nat) (v : Nat), s.served ∧ s.funcUp Func.time = true ∧ d < 2 ∧ v < 2 ^ 32 ∧ within v 4294967095 = true ∧ bitOf v 0 =
    true ∧ 1 ≤ bits v 8 8 ∧ bits v 8 8 ≤ 250 ∧ bits v 4 2 ≠ 3 ∧ s.bit (Reg.TIME_DOM_CTRL_LOCKED d) = false ∧ (s.dom d).everSet = true ∧
    (s.dom d).setPending = none ∧ (bits v 4 2 = 2 ∨ s.trefGood d = true) ∧ (s.dom d).clearedAt ≠ some s.cycle) ∧
  (∃ (s : State) (d : Nat) (v : Nat), s.served ∧ s.funcUp Func.time = true ∧ d < 2 ∧ v < 2 ^ 32 ∧ within v 4294967095 = true ∧ bitOf v 0 =
    true ∧ 1 ≤ bits v 8 8 ∧ bits v 8 8 ≤ 250 ∧ bits v 4 2 ≠ 3 ∧ s.bit (Reg.TIME_DOM_CTRL_LOCKED d) = false ∧ (s.dom d).everSet = true ∧
    (s.dom d).setPending = none ∧ (bits v 4 2 = 2 ∨ s.trefGood d = true) ∧ (s.dom d).clearedAt = some s.cycle) ∧
  (∃ (s : State) (d : Nat) (v : Nat), s.served ∧ s.funcUp Func.time = true ∧ d < 2 ∧ v < 2 ^ 32 ∧ within v 4294967095 = true ∧ bitOf v 0 =
    true ∧ 1 ≤ bits v 8 8 ∧ bits v 8 8 ≤ 250 ∧ bits v 4 2 ≠ 3 ∧ s.bit (Reg.TIME_DOM_CTRL_LOCKED d) = false ∧ ((s.dom d).everSet = false ∨
    (s.dom d).setPending ≠ none ∨ bits v 4 2 ≠ 2 ∧ s.trefGood d = false)) ∧
  (∃ (s : State) (d : Nat) (v : Nat), s.served ∧ s.funcUp Func.time = true ∧ d < 2 ∧ s.bit (Reg.TIME_DOM_CTRL_LOCKED d) = true ∧ s.get
    (Reg.TIME_DOM_CTRL_WDOG_MS d) ≠ 0 ∧ max (s.dom d).lockWriteAt (s.dom d).servoAt + s.get (Reg.TIME_DOM_CTRL_WDOG_MS d) * msCycles ≤
    s.cycle) ∧
  (∃ (s : State) (d : Nat) (v : Nat), s.served ∧ s.funcUp Func.time = true ∧ d < 2 ∧ s.pending = [] ∧ s.presNone = true ∧ s.get
    Reg.TIME_PRES_CTRL_PREFERRED < 2 ∧ s.domLocked d = true ∧ (d = s.get Reg.TIME_PRES_CTRL_PREFERRED ∨ s.domLocked (1 - d) = false)) :=
  ⟨⟨state8, 0, 257, served_of (by decide +kernel), by decide +kernel⟩,
   ⟨state11, 0, 257, served_of (by decide +kernel), by decide +kernel⟩,
   ⟨up, 0, 257, served_of (by decide +kernel), by decide +kernel⟩,
   ⟨state10, 0, 257, served_of (by decide +kernel), by decide +kernel⟩,
   ⟨state12, 0, 257, served_of (by decide +kernel), by decide +kernel⟩⟩

theorem witness_SetTimeStepsADomainAtOnceOrAtThePpsEdge :
  (∃ (s : State) (d : Nat), s.served ∧ s.funcUp Func.time = true ∧ d < 2 ∧ s.bit (Reg.TIME_DOM_CTRL_LOCKED d) = true) ∧
  (∃ (s : State) (d : Nat), s.served ∧ s.funcUp Func.time = true ∧ d < 2 ∧ s.bit (Reg.TIME_DOM_CTRL_LOCKED d) = false) ∧
  (∃ (s : State) (d : Nat), s.served ∧ s.funcUp Func.time = true ∧ d < 2 ∧ s.bit (Reg.TIME_DOM_CTRL_LOCKED d) = false) ∧
  (∃ (s : State) (d : Nat), s.served ∧ s.funcUp Func.time = true ∧ d < 2 ∧ s.bit (Reg.TIME_DOM_CTRL_PPS_EN d) = true ∧ ↑(1100000000 *
    tuNs) ≤ ↑(s.dom d).now - (s.dom d).lastPps) :=
  ⟨⟨state13, 0, served_of (by decide +kernel), by decide +kernel⟩,
   ⟨up, 0, served_of (by decide +kernel), by decide +kernel⟩,
   ⟨up, 0, served_of (by decide +kernel), by decide +kernel⟩,
   ⟨state14, 0, served_of (by decide +kernel), by decide +kernel⟩⟩

theorem witness_NoCommandStepsPresentationTime :
  (∃ (c : Instr) (s : State) (t : State), s.presNone = false ∧ exec c s = Host.Outcome.next t ∧ t.presNone = false) ∧
  (∃ (s : State) (d : Nat), s.running = true ∧ s.pending = [] ∧ d < 2 ∧ s.time.pres.mode = PresMode.follow d ∧ s.domLocked d = true) ∧
  (∃ (s : State) (d : Nat), s.running = true ∧ s.pending = [] ∧ d < 2 ∧ s.time.pres.mode = PresMode.follow (1 - d) ∧ s.domLocked (1 - d) =
    false ∧ s.domLocked d = true) ∧
  (∃ (s : State) (d : Nat), s.running = true ∧ s.pending = [] ∧ d < 2 ∧ s.time.pres.mode = PresMode.follow d ∧ s.domLocked d = false ∧
    s.domLocked (1 - d) = false) ∧
  (∃ (s : State) (d : Nat), s.running = true ∧ s.pending = [] ∧ d < 2 ∧ (s.time.pres.mode = PresMode.holdover (1 - d) ∨ s.time.pres.mode =
    PresMode.holdover d) ∧ s.get Reg.TIME_PRES_CTRL_PREFERRED < 2 ∧ s.domLocked d = true ∧ (d = s.get Reg.TIME_PRES_CTRL_PREFERRED ∨
    s.domLocked (1 - d) = false)) :=
  ⟨⟨Instr.presRevert, state15, _, by decide +kernel, rfl, by decide +kernel⟩,
   ⟨state16, 0, by decide +kernel⟩,
   ⟨state17, 0, by decide +kernel⟩,
   ⟨state15, 0, by decide +kernel⟩,
   ⟨state18, 0, by decide +kernel⟩⟩

theorem witness_PresentationTimeRevertsWithoutAStep :
  (∃ (s : State), s.running = true ∧ ∃ p < 2, s.get Reg.TIME_PRES_CTRL_PREFERRED = p ∧ s.bit Reg.TIME_PRES_CTRL_REVERT = true ∧
    s.time.pres.mode = PresMode.follow (1 - p) ∧ s.domLocked p = true ∧ (s.dom p).lockedAt + s.get Reg.TIME_PRES_CTRL_REVERT_S * 1000 *
    msCycles ≤ s.cycle ∧ s.bit Reg.TIME_PRES_STATUS_MOVED = false) ∧
  (∃ (s : State), s.running = true ∧ s.moving = false) :=
  ⟨⟨state22, by decide +kernel, _, by decide +kernel, rfl, by decide +kernel⟩,
   ⟨up, by decide +kernel⟩⟩

theorem witness_SnapshotsShowTheClocksOfOneInstant :
  (∃ (s : State), s.served ∧ s.funcUp Func.time = true) ∧
  (∃ (s : State), s.running = true) :=
  ⟨⟨up, served_of (by decide +kernel), by decide +kernel⟩,
   ⟨up, by decide +kernel⟩⟩

end PortsAndTime

namespace Links

def state10 : State := p8.set (Reg.MAC_PORT_CTRL_LOOPBACK 8) 1

def state11 : State := ls 1 (p8.set (Reg.MAC_PORT_CTRL_LOOPBACK 8) 1)

def state12 : State := {(p8.set (Reg.MAC_PORT_CTRL_LOOPBACK 8) 1) with stamp := {p8.stamp with cal := some ⟨8, 3⟩}}

theorem witness_EnableMovesThePortBetweenItsLinkStates :
  (∃ (s : State) (p : Nat) (v : Nat), s.served ∧ s.funcUp Func.mac = true ∧ (s.spanOn = false ∨ p < 960) ∧ s.isPort p = true ∧ v < 2 ^ 32
    ∧ within v 67105785 = true ∧ bits v 8 2 ≠ 3 ∧ s.get (Reg.MAC_PORT_CTRL_FLOW_CTRL p) = bits v 8 2 ∧ bitOf v 0 = true ∧ s.bit
    (Reg.MAC_PORT_CTRL_ENABLE p) = false ∧ s.linkState p = stDisabled ∧ fecOk (s.lanes p) (s.laneRate p) (bits v 4 2) = true ∧ s.bit
    Reg.SYS_START_STATUS_READY = true) ∧
  (∃ (s : State) (p : Nat) (v : Nat), s.served ∧ s.funcUp Func.mac = true ∧ (s.spanOn = false ∨ p < 960) ∧ s.isPort p = true ∧ v < 2 ^ 32
    ∧ within v 67105785 = true ∧ bitOf v 0 = true ∧ fecOk (s.lanes p) (s.laneRate p) (bits v 4 2) = false) ∧
  (∃ (s : State) (p : Nat) (v : Nat), s.served ∧ s.funcUp Func.mac = true ∧ (s.spanOn = false ∨ p < 960) ∧ s.isPort p = true ∧ v < 2 ^ 32
    ∧ within v 67105785 = true ∧ s.bit (Reg.MAC_PORT_CTRL_ENABLE p) = true ∧ s.get (Reg.MAC_PORT_CTRL_FEC p) ≠ bits v 4 2 ∧ bits v 8 2 ≠ 3
    ∧ bitOf v 0 = true ∧ fecOk (s.lanes p) (s.laneRate p) (bits v 4 2) = true) ∧
  (∃ (s : State) (p : Nat) (v : Nat), s.served ∧ s.funcUp Func.mac = true ∧ (s.spanOn = false ∨ p < 960) ∧ s.isPort p = true ∧ v < 2 ^ 32
    ∧ within v 67105785 = true ∧ s.bit (Reg.MAC_PORT_CTRL_ENABLE p) = true ∧ s.get (Reg.MAC_PORT_CTRL_FEC p) ≠ bits v 4 2 ∧ bits v 8 2 ≠ 3
    ∧ bitOf v 0 = false) ∧
  (∃ (s : State) (p : Nat) (v : Nat), s.served ∧ s.funcUp Func.mac = true ∧ (s.spanOn = false ∨ p < 960) ∧ s.isPort p = true ∧ v < 2 ^ 32
    ∧ within v 67105785 = true ∧ bits v 8 2 ≠ 3 ∧ s.get (Reg.MAC_PORT_CTRL_FLOW_CTRL p) = bits v 8 2 ∧ bitOf v 0 = false ∧ s.bit
    (Reg.MAC_PORT_CTRL_ENABLE p) = true ∧ s.get (Reg.MAC_PORT_CTRL_FEC p) = bits v 4 2 ∧ s.get (Reg.MAC_PORT_CTRL_LOOPBACK p) = bits v 6
    2) :=
  ⟨⟨p8, 8, 49, served_of (by decide +kernel), by decide +kernel⟩,
   ⟨p8, 8, 1, served_of (by decide +kernel), by decide +kernel⟩,
   ⟨en8, 8, 49, served_of (by decide +kernel), by decide +kernel⟩,
   ⟨en8, 8, 16, served_of (by decide +kernel), by decide +kernel⟩,
   ⟨en8, 8, 0, served_of (by decide +kernel), by decide +kernel⟩⟩

theorem witness_ACalibrationRunsOnOneDisabledPort :
  (∃ (s : State), ∃ p < 1024, s.served ∧ s.funcUp Func.time = true ∧ s.isPort p = true ∧ s.get (Reg.MAC_PORT_CTRL_LOOPBACK p) = 1 ∧
    s.linkState p = stDisabled ∧ s.stamp.cal = none) ∧
  (∃ (s : State), ∃ p < 1024, s.served ∧ s.funcUp Func.time = true ∧ s.isPort p = true ∧ s.get (Reg.MAC_PORT_CTRL_LOOPBACK p) = 1 ∧
    (s.linkState p ≠ stDisabled ∨ s.stamp.cal ≠ none)) ∧
  (∃ (s : State), ∃ p < 1024, s.served ∧ s.funcUp Func.time = true ∧ (s.isPort p = false ∨ s.get (Reg.MAC_PORT_CTRL_LOOPBACK p) ≠ 1)) ∧
  (∃ (s : State), ∃ p < 1024, ∃ (since : Nat) (e : Nat) (i : Nat) (g : Nat), s.running = true ∧ s.stamp.cal = some { port := p, since :=
    since } ∧ e < 65536 ∧ i < 65536 ∧ g < 65536) ∧
  (∃ (s : State), ∃ p < 1024, s.served ∧ s.funcUp Func.time = true ∧ s.get Reg.STAMP_CAL_RESULT_STATUS < 4 ∧ s.get
    Reg.STAMP_CAL_RESULT_LOOP_ERR < 65536) :=
  ⟨⟨state10, 8, by decide +kernel, served_of (by decide +kernel), by decide +kernel⟩,
   ⟨state11, 8, by decide +kernel, served_of (by decide +kernel), by decide +kernel⟩,
   ⟨p8, 8, by decide +kernel, served_of (by decide +kernel), by decide +kernel⟩,
   ⟨state12, 8, by decide +kernel, 3, 0, 7, 9, by decide +kernel⟩,
   ⟨p8, 8, by decide +kernel, served_of (by decide +kernel), by decide +kernel⟩⟩

end Links

namespace Pulses

def tp (s : State) (f : TpoSt) : State := s.setTpo 3 f

def arm (k : Nat) : State := ((fol 0 up).set (Reg.TIME_TPO_START_W3_SEC_HI 3) k).set (Reg.TIME_TPO_PERIOD_PERIOD 3) 1000

def state2 : State := arm 0

def state4 : State := (arm 10).set (Reg.TIME_TPO_WIDTH_WIDTH 3) 995

def state5 : State := tp (fol 0 up) ⟨true, 5, 0, false⟩

def state6 : State := tp (fol 0 up) ⟨true, 5, 0, true⟩

def state8 : State := up.on (Reg.TIME_TPI_CTRL_ENABLE 3)

def state9 : State := {up.on (Reg.TIME_TPI_CTRL_ENABLE 3) with time := {time0 with tpi := [(3, List.replicate 16 5)]}}

def state11 : State := {up.on (Reg.TIME_TPI_CTRL_ENABLE 3) with time := {time0 with tpi := [(3, [5,6])], tpiAt := [(3, (10^12, some (7, false)))]}}

def state12 : State := {up.on (Reg.TIME_TPI_CTRL_ENABLE 3) with time := {time0 with tpi := [(3, [5])], tpiAt := [(3, (10^12, none))]}}

theorem witness_PulseOutputsAndCaptureInputs :
  (∃ (s : State), s.served ∧ s.funcUp Func.time = true ∧ ∃ n < 8, ∃ (v : Nat), within v 135 = true ∧ bitOf v 0 = true ∧ bitOf v 1 = false
    ∧ s.presNone = true) ∧
  (∃ (s : State), s.served ∧ s.funcUp Func.time = true ∧ ∃ n < 8, ∃ (v : Nat), within v 7 = true ∧ bitOf v 0 = true ∧ s.presNone = false ∧
    s.bit (Reg.TIME_TPO_CTRL_ENABLE n) = false ∧ bitOf v 1 = true ∧ s.get (Reg.TIME_TPO_PERIOD_PERIOD n) < s.get (Reg.TIME_TPO_WIDTH_WIDTH
    n) + 10) ∧
  (∃ (s : State), s.served ∧ s.funcUp Func.time = true ∧ ∃ n < 8, ∃ (v : Nat), within v 7 = true ∧ bitOf v 0 = true ∧ s.presNone = false ∧
    s.bit (Reg.TIME_TPO_CTRL_ENABLE n) = false ∧ (bitOf v 1 = true → s.get (Reg.TIME_TPO_WIDTH_WIDTH n) + 10 ≤ s.get
    (Reg.TIME_TPO_PERIOD_PERIOD n))) ∧
  (∃ (s : State), s.served ∧ s.funcUp Func.time = true ∧ ∃ n < 8, (s.tpo n).active = true ∧ (s.tpo n).high = false ∧ s.tpoDue n ≤
    s.time.pres.now) ∧
  (∃ (s : State), s.served ∧ s.funcUp Func.time = true ∧ ∃ n < 8, (s.tpo n).active = true ∧ (s.tpo n).high = true ∧ s.tpoDue n ≤
    s.time.pres.now) :=
  ⟨⟨up, served_of (by decide +kernel), by decide +kernel, 3, by decide +kernel, 1, by decide +kernel⟩,
   ⟨state4, served_of (by decide +kernel), by decide +kernel, 3, by decide +kernel, 3, by decide +kernel⟩,
   ⟨state2, served_of (by decide +kernel), by decide +kernel, 3, by decide +kernel, 1, by decide +kernel⟩,
   ⟨state5, served_of (by decide +kernel), by decide +kernel, 3, by decide +kernel⟩,
   ⟨state6, served_of (by decide +kernel), by decide +kernel, 3, by decide +kernel⟩⟩

theorem witness_PulseOutputsAndCaptureInputs_2 :
  (∃ (s : State), s.served ∧ s.funcUp Func.time = true ∧ ∃ n < 4, ∃ (rising : Bool), s.bit (Reg.TIME_TPI_CTRL_ENABLE n) = true ∧ (s.get
    (Reg.TIME_TPI_CTRL_EDGE n) = 2 ∨ s.get (Reg.TIME_TPI_CTRL_EDGE n) = if rising = true then 0 else 1) ∧ (s.tpi n).length < 16) ∧
  (∃ (s : State), s.served ∧ s.funcUp Func.time = true ∧ ∃ n < 4, ∃ (rising : Bool), s.bit (Reg.TIME_TPI_CTRL_ENABLE n) = true ∧ (s.get
    (Reg.TIME_TPI_CTRL_EDGE n) = 2 ∨ s.get (Reg.TIME_TPI_CTRL_EDGE n) = if rising = true then 0 else 1) ∧ 16 ≤ (s.tpi n).length) ∧
  (∃ (s : State), s.served ∧ s.funcUp Func.time = true ∧ ∃ n < 4, s.get (Reg.TIME_TPI_CTRL_SOURCE n) < 3 ∧ s.get (Reg.TIME_TPI_CTRL_EDGE
    n) < 3 ∧ s.get (Reg.TIME_TPI_CTRL_ENABLE n) < 2 ∧ (s.tpi n).length ≤ 17 ∧ ∀ (x : Nat × Option (Nat × Bool)), mapFind s.time.tpiAt n =
    some x → x.1 ≠ s.cycle) ∧
  (∃ (s : State), s.served ∧ s.funcUp Func.time = true ∧ ∃ n < 4, s.get (Reg.TIME_TPI_CTRL_SOURCE n) < 3 ∧ s.get (Reg.TIME_TPI_CTRL_EDGE
    n) < 3 ∧ s.get (Reg.TIME_TPI_CTRL_ENABLE n) < 2 ∧ (s.tpi n).length ≤ 17 ∧ ∃ (st : Nat) (was : Bool), mapFind s.time.tpiAt n = some
    (s.cycle, some (st, was))) ∧
  (∃ (s : State), s.served ∧ s.funcUp Func.time = true ∧ ∃ n < 4, s.get (Reg.TIME_TPI_CTRL_SOURCE n) < 3 ∧ s.get (Reg.TIME_TPI_CTRL_EDGE
    n) < 3 ∧ s.get (Reg.TIME_TPI_CTRL_ENABLE n) < 2 ∧ (s.tpi n).length ≤ 17 ∧ mapFind s.time.tpiAt n = some (s.cycle, none) ∧ (s.tpi
    n).length = 1) :=
  ⟨⟨state8, served_of (by decide +kernel), by decide +kernel, 3, by decide +kernel, true, by decide +kernel⟩,
   ⟨state9, served_of (by decide +kernel), by decide +kernel, 3, by decide +kernel, true, by decide +kernel⟩,
   ⟨up, served_of (by decide +kernel), by decide +kernel, 3, by decide +kernel⟩,
   ⟨state11, served_of (by decide +kernel), by decide +kernel, 3, by decide +kernel, by decide +kernel, by decide +kernel,
     by decide +kernel, by decide +kernel, _, _, rfl⟩,
   ⟨state12, served_of (by decide +kernel), by decide +kernel, 3, by decide +kernel⟩⟩

end Pulses

namespace Stamps

def q (l : List StampRet) (s : State) : State := {s with stamp := {s.stamp with queue := l}}

def state3 : State := p8.modPort 8 (fun x => {x with stamps := [ret0, ret0]})

def state4 : State := q (List.replicate 8192 ret0) up

def state7 : State := act (ring (up.get Reg.STAMP_RET_CTRL_RING) (q [ret0] up))

def state9 : State := q [{ret0 with inject := some 4}, ret0] up

def state10 : State := p8.modPort 8 (fun x => {x with stamps := List.replicate 17 ret0})

theorem witness_ReturnedStampsPassThroughTwoQueues :
  (∃ (s : State), s.running = true ∧ ∃ (p : Nat) (e : StampRet) (rest : List StampRet), s.stamp.queue.length < 8192 ∧ List.find? (fun (p :
    Nat) => !(s.port p).stamps.isEmpty) (Machine.rotation 1024 s.stamp.rotate) = some p ∧ (s.port p).stamps = e :: rest) ∧
  (∃ (s : State), s.running = true ∧ 8192 ≤ s.stamp.queue.length) ∧
  (∃ (s : State), s.running = true ∧ ∃ (e : StampRet) (rest : List StampRet), s.stamp.queue = e :: rest ∧ e.inject = none ∧ s.ringRoom
    (s.get Reg.STAMP_RET_CTRL_RING) 1 = true ∧ s.canWrite = true) ∧
  (∃ (s : State), s.running = true ∧ ∃ (e : StampRet) (rest : List StampRet), s.stamp.queue = e :: rest ∧ e.inject = none ∧ (s.ringRoom
    (s.get Reg.STAMP_RET_CTRL_RING) 1 = false ∨ s.canWrite = false)) ∧
  (∃ (s : State), s.running = true ∧ ∃ (e : StampRet) (rest : List StampRet) (f : Nat), s.stamp.queue = e :: rest ∧ e.inject = some f) ∧
  (∃ (s : State), s.running = true ∧ ∃ (p : Nat) (l : List StampRet) (e : StampRet), s.pending = [] ∧ (s.port p).stamps = l ++ [e] ∧
    l.length = 16 ∧ e.inject = none) :=
  ⟨⟨state3, by decide +kernel, _, _, _, by decide +kernel, rfl, rfl⟩,
   ⟨state4, by decide +kernel⟩,
   ⟨state7, by decide +kernel, _, _, rfl, by decide +kernel⟩,
   ⟨state4, by decide +kernel, _, _, rfl, by decide +kernel⟩,
   ⟨state9, by decide +kernel, _, _, _, rfl, rfl⟩,
   ⟨state10, by decide +kernel, 8, (List.replicate 16 ret0), _, by decide +kernel, rfl, by decide +kernel⟩⟩

end Stamps

namespace Seals

def bur (c l : Nat) (s : State) : State := tal (fun y => {y with burst := [(c, recd 7), (c+1, recd 9)], chains := [(c, ch l)]}) (tal (fun y => {y with lastSeal := 10^12}) (running s))

def state1 : State := bur 3 2 up

def state3 : State := tal (fun y => {y with gaps := [(3, ⟨5,6,7,1⟩)]}) (bur 3 0 up)

def key (s : State) : State := s.on Reg.SEC_LIFECYCLE_ID_OK

def state7 : State := tal (fun y => {y with lastSeal := 0}) (bur 3 2 up)

def state8 : State := key (up.on Reg.DRAM_CTRL_SERVICE)

def state9 : State := tal (fun y => {y with waits := [⟨false,0,zeros 100,[]⟩]}) (bur 3 2 up)

def sl (l : List Seal) (s : State) := tal (fun y => {y with seals := l}) s

def state11 : State := sl [mkSeal 5 none none, mkSeal 6 none none] up

def state12 : State := sl [mkSeal 3 (some 1) (some [3]), mkSeal 5 (some 2) none, mkSeal 6 (some 3) none] (key (running up))

def state15 : State := act (ring 61 (tal (fun y => {y with ring := [⟨recd 3,false⟩, ⟨recd 4,true⟩], ringHead := 77}) (up.on Reg.DRAM_CTRL_SERVICE)))

theorem witness_ChainsTakeRecordsInOrderAndCloseTheirLeaves :
  (∃ (s : State), s.running = true ∧ ∃ (c : Nat) (b : List Byte) (rest : List (Nat × List Byte)), s.tally.burst = (c, b) :: rest ∧
    s.mayTake = true ∧ s.ringRoomFor 1 2120 = true ∧ s.funcUp Func.tally = true ∧ s.dramServes = true ∧ mapFind s.tally.gaps c = none) ∧
  (∃ (s : State), s.running = true ∧ ∃ (c : Nat) (b : List Byte) (rest : List (Nat × List Byte)) (g : Gap), s.tally.burst = (c, b) :: rest
    ∧ s.mayTake = true ∧ s.ringRoomFor 1 2120 = true ∧ s.funcUp Func.tally = true ∧ s.dramServes = true ∧ mapFind s.tally.gaps c = some g
    ∧ s.bit Reg.TALLY_CTRL_ENABLE = true ∧ s.tally.heldOf c ≤ g.behind) ∧
  (∃ (s : State), s.running = true ∧ ∃ c < 256, (s.chain c).leaf ≠ [] ∧ (s.chain c).openedAt + usCycles ≤ s.cycle) ∧
  (∃ (s : State), s.running = true ∧ ∃ (c : Nat) (g : Gap), c < 256 ∧ mapFind s.tally.gaps c = some g ∧ s.burstRoom ≠ 0 ∧ s.bit
    Reg.TALLY_CTRL_ENABLE = true) ∧
  (∃ (s : State), s.running = true ∧ ∃ (p : Nat), p < 64) :=
  ⟨⟨state1, by decide +kernel, _, _, _, rfl, by decide +kernel⟩,
   ⟨state3, by decide +kernel, _, _, _, _, rfl, by decide +kernel, by decide +kernel, by decide +kernel, by decide +kernel, rfl,
     by decide +kernel⟩,
   ⟨state1, by decide +kernel, 3, by decide +kernel⟩,
   ⟨state3, by decide +kernel, 3, _, by decide +kernel, rfl, by decide +kernel⟩,
   ⟨state1, by decide +kernel, 3, by decide +kernel⟩⟩

theorem witness_SealsAreFormedOnTheGridAndAtTheEnds :
  (∃ (s : State), s.served ∧ s.funcUp Func.tally = true ∧ (List.filter (fun (y : Seal) => !y.dropped) s.tally.seals).length < 8 ∧
    s.sealIndex + 1 < 2 ^ 64 ∧ s.bit Reg.TALLY_CTRL_ENABLE = true ∧ s.tally.running = true ∧ s.tally.waits = [] ∧ s.sealEngine = true ∧
    s.nextSeal ≤ s.cycle) ∧
  (∃ (s : State), s.served ∧ s.funcUp Func.tally = true ∧ (List.filter (fun (y : Seal) => !y.dropped) s.tally.seals).length < 8 ∧
    s.sealIndex + 1 < 2 ^ 64 ∧ ∃ v < 2 ^ 32, within v 3841 = true ∧ bitOf v 0 = true ∧ bits v 8 4 ≠ 0 ∧ s.bit Reg.TALLY_CTRL_ENABLE =
    false ∧ s.pairState ≠ paStandby ∧ s.pairState ≠ paSyncing ∧ s.bit Reg.DRAM_CTRL_SERVICE = true ∧ s.tally.waits = [] ∧ s.sealEngine =
    true ∧ ∀ y ∈ s.tally.seals, y.final = true → y.slot ≠ none) ∧
  (∃ (s : State), s.served ∧ s.funcUp Func.tally = true ∧ (List.filter (fun (y : Seal) => !y.dropped) s.tally.seals).length < 8 ∧
    s.sealIndex + 1 < 2 ^ 64 ∧ ∃ v < 2 ^ 32, within v 3841 = true ∧ bitOf v 0 = false ∧ bits v 8 4 ≠ 0 ∧ s.bit Reg.TALLY_CTRL_ENABLE =
    true ∧ s.tally.waits = []) ∧
  (∃ (s : State), s.served ∧ s.funcUp Func.tally = true ∧ (List.filter (fun (y : Seal) => !y.dropped) s.tally.seals).length < 8 ∧
    s.sealIndex + 1 < 2 ^ 64 ∧ ∃ (w : SealWait), s.tally.waits = [w] ∧ w.start = false ∧ w.left = 0 ∧ s.tally.running = true ∧
    s.sealEngine = true) ∧
  (∃ (s : State), s.served ∧ s.funcUp Func.tally = true ∧ (List.filter (fun (y : Seal) => !y.dropped) s.tally.seals).length < 8 ∧
    s.sealIndex + 1 < 2 ^ 64 ∧ ∃ v < 2 ^ 32, within v 131071 = true ∧ 100 ≤ v ∧ v ≤ 100000) ∧
  (∃ (s : State), s.served ∧ s.funcUp Func.tally = true ∧ (List.filter (fun (y : Seal) => !y.dropped) s.tally.seals).length < 8 ∧
    s.sealIndex + 1 < 2 ^ 64 ∧ ∃ v < 2 ^ 32, within v 131071 = true ∧ (v < 100 ∨ 100000 < v)) :=
  ⟨⟨state7, served_of (by decide +kernel), by decide +kernel⟩,
   ⟨state8, served_of (by decide +kernel), by decide +kernel, by decide +kernel, by decide +kernel, 257, by decide +kernel⟩,
   ⟨state1, served_of (by decide +kernel), by decide +kernel, by decide +kernel, by decide +kernel, 256, by decide +kernel⟩,
   ⟨state9, served_of (by decide +kernel), by decide +kernel, by decide +kernel, by decide +kernel, _, rfl, by decide +kernel⟩,
   ⟨state1, served_of (by decide +kernel), by decide +kernel, by decide +kernel, by decide +kernel, 257, by decide +kernel,
     by decide +kernel, ⟨by decide +kernel, by decide +kernel⟩⟩,
   ⟨state1, served_of (by decide +kernel), by decide +kernel, by decide +kernel, by decide +kernel, 0, by decide +kernel⟩⟩

theorem witness_SealsAreHeadedSignedAndExported :
  (∃ (s : State), s.served ∧ ∃ (x : Seal), List.find? (fun (y : Seal) => y.slot.isNone) s.tally.seals = some x ∧ (List.map (fun (x :
    Seal) => x.index) s.tally.seals).Nodup ∧ s.tally.waits = []) ∧
  (∃ (s : State), s.served ∧ ∃ (x : Seal), (List.filter (fun (y : Seal) => y.signature.isNone && !y.superseded && y.slot.isSome)
    s.tally.seals).getLast? = some x ∧ s.keyUsable = true) ∧
  (∃ (s : State), s.served ∧ ∃ (x : Seal) (n : Nat), List.find? (fun (y : Seal) => !y.dropped) s.tally.seals = some x ∧ x.slot = some n ∧
    (x.signature.isSome = true ∨ x.superseded = true) ∧ s.ringRoomFor 265 0 = true ∧ s.dramServes = true) ∧
  (∃ (s : State), s.served ∧ ∃ (e : RingEntry) (rest : List RingEntry) (p : Nat) (o : ReadOutcome), s.tally.ring = e :: rest ∧ s.ringRoom
    61 1 = true ∧ s.funcUp Func.tally = true ∧ s.dramServes = true ∧ s.canWrite = true ∧ p = s.tally.ringHead % (s.get
    Reg.TALLY_RING_SIZE_UNITS * 65536)) ∧
  (∃ (s : State), s.served ∧ ∃ (o : ReadOutcome), s.canWrite = false) ∧
  (∃ (s : State), s.served ∧ s.funcUp Func.tally = true) :=
  ⟨⟨state11, served_of (by decide +kernel), _, rfl, by decide +kernel⟩,
   ⟨state12, served_of (by decide +kernel), _, rfl, by decide +kernel⟩,
   ⟨state12, served_of (by decide +kernel), _, _, rfl, rfl, by decide +kernel⟩,
   ⟨state15, served_of (by decide +kernel), _, _, _, { repeats := 0, severity := false, ecc := EccOutcome.clean, burst := 0 }, rfl,
     by decide +kernel, by decide +kernel, by decide +kernel, by decide +kernel, rfl⟩,
   ⟨state11, served_of (by decide +kernel), { repeats := 0, severity := false, ecc := EccOutcome.clean, burst := 0 }, by decide +kernel⟩,
   ⟨state11, served_of (by decide +kernel), by decide +kernel⟩⟩

end Seals

namespace Classifying

def lnd : State := {up8 with buf := {up8.buf with landing := [(0, 256)]}}

def state1 : State := (up8.set (Reg.MAC_PORT_CTRL_LOOPBACK 8) 1).modPort 8 (fun x => {x with looped := [b64]})

def state2 : State := up8.set (Reg.MAC_PORT_CTRL_LOOPBACK 8) 2

def state3 : State := {withF (fr b64) up8 with path := {path0 with frames := [(0, fr b64), (1, fr b64)], nextFrame := 2}}

def state5 : State := withF (fr (eth [0x88,0x08] 64)) up8

def state6 : State := {withF (fr b64) up8 with path := {(withF (fr b64) up8).path with carry := [(3, [0, 7])]}}

def state7 : State := {withF (fr b64) up8 with path := {path0 with frames := (List.range 97).map fun i => (i, {fr b64 with stage := if i = 0 then .received else .crossed}), nextFrame := 97}}

def cr (b : List Byte) (ps : Nat) : Frame := {fr b with stage := .crossed, pass := ps}

def fullC (s : State) : State := {s with path := {s.path with carry := [(0, List.replicate 32 9)]}}

def ptp : List Byte := eth [0x88, 0xF7] 64

def state8 : State := withF (cr b64 0) up8

def state9 : State := {withF (cr b64 0) up8 with rules := { up.rules with entries := [(5, ⟨rule 0 2, true, false⟩)], sets := [(0, [(0, 5)])] }}

def state10 : State := withRule (rule 0 2) (withF (cr b64 0) up8)

def state11 : State := withRule (rule 0 0x30) (withF (cr b64 0) up8)

def state13 : State := withRule (rule 1 2) (withF (cr b64 0) up8)

def state14 : State := fullC (withRule (rule 1 2) (withF (cr b64 0) up8))

def state15 : State := withRule (rule 1 2) (withF (cr b64 1) up8)

def state16 : State := withF (cr ptp 0) up8

def state17 : State := withF (cr (eth [0x81,0x00] 16) 0) up8

theorem witness_FramesTakeTheirStampBeadAndRules :
  (∃ (s : State), s.running = true ∧ ∃ (p : Nat) (sub : Nat) (bytes : List Byte), p < 1024 ∧ sub < 64 ∧ s.portUp p = true ∧ (s.spanOn &&
    decide (960 ≤ p)) = false ∧ s.funcUp Func.buf = true ∧ s.get (Reg.MAC_PORT_CTRL_LOOPBACK p) ≠ 1 ∧ s.get (Reg.MAC_PORT_CTRL_LOOPBACK p)
    ≠ 2 ∧ ∃ (b : Nat), mapGet s.buf.landing (pipeOf p) 0 < 256 ∧ s.freeBead = some b) ∧
  (∃ (s : State), s.running = true ∧ ∃ (p : Nat) (sub : Nat) (bytes : List Byte), p < 1024 ∧ sub < 64 ∧ s.portUp p = true ∧ (s.spanOn &&
    decide (960 ≤ p)) = false ∧ s.funcUp Func.buf = true ∧ s.get (Reg.MAC_PORT_CTRL_LOOPBACK p) ≠ 1 ∧ s.get (Reg.MAC_PORT_CTRL_LOOPBACK p)
    ≠ 2 ∧ 256 ≤ mapGet s.buf.landing (pipeOf p) 0) ∧
  (∃ (s : State), s.running = true ∧ ∃ (p : Nat) (sub : Nat) (bytes : List Byte), p < 1024 ∧ sub < 64 ∧ s.isPort p = true ∧ s.linkState p
    ≠ stDisabled ∧ (s.get (Reg.MAC_PORT_CTRL_LOOPBACK p) = 1 ∨ s.get (Reg.MAC_PORT_CTRL_LOOPBACK p) = 2) ∧ ∃ (b : List Byte) (l : List
    (List Byte)), (s.port p).looped = b :: l) ∧
  (∃ (s : State), s.running = true ∧ ∃ (p : Nat) (sub : Nat) (bytes : List Byte), p < 1024 ∧ sub < 64 ∧ s.isPort p = true ∧ s.linkState p
    ≠ stDisabled ∧ (s.get (Reg.MAC_PORT_CTRL_LOOPBACK p) = 1 ∨ s.get (Reg.MAC_PORT_CTRL_LOOPBACK p) = 2) ∧ (s.port p).looped = []) ∧
  (∃ (s : State), s.running = true ∧ ∃ (p : Nat) (sub : Nat) (bytes : List Byte), p < 1024 ∧ sub < 64 ∧ s.linkState p = stDisabled) ∧
  (∃ (s : State), s.running = true ∧ ∃ (f : Nat) (x : Frame), s.frame f = some x ∧ x.stage = Stage.received ∧ isControl x.bytes = false ∧
    s.funcUp Func.parse = true ∧ s.pipeInflight (pipeOf x.port) < 96 ∧ (s.inTurn f x.port fun (y : Frame) => y.stage == Stage.received &&
    !isControl y.bytes) = true ∧ s.get (Reg.RULE_VER_STATE_INFLIGHT s.currentTag) + 1 < 2 ^ 13) ∧
  (∃ (s : State), s.running = true ∧ ∃ (f : Nat) (x : Frame), s.frame f = some x ∧ x.stage = Stage.received ∧ (96 ≤ s.pipeInflight (pipeOf
    x.port) ∨ (s.inTurn f x.port fun (y : Frame) => y.stage == Stage.received && !isControl y.bytes) = false)) ∧
  (∃ (s : State), s.running = true ∧ ∃ (f : Nat) (x : Frame), s.frame f = some x ∧ x.stage = Stage.received ∧ isControl x.bytes = true) ∧
  (∃ (s : State), s.running = true ∧ ∃ (p : Nat) (f : Nat) (l : List Nat) (x : Frame), List.find? (fun (p : Nat) => !(mapGet s.path.carry
    p []).isEmpty) (Machine.rotation 64 s.path.carryNext) = some p ∧ mapGet s.path.carry p [] = f :: l ∧ s.frame f = some x) :=
  ⟨⟨up8, by decide +kernel, 8, 0, b64, by decide +kernel, by decide +kernel, by decide +kernel, by decide +kernel, by decide +kernel,
     by decide +kernel, by decide +kernel, _, by decide +kernel, rfl⟩,
   ⟨lnd, by decide +kernel, 8, 0, b64, by decide +kernel⟩,
   ⟨state1, by decide +kernel, 8, 0, b64, by decide +kernel, by decide +kernel, by decide +kernel, by decide +kernel, by decide +kernel, _,
     _, rfl⟩,
   ⟨state2, by decide +kernel, 8, 0, b64, by decide +kernel⟩,
   ⟨p8, by decide +kernel, 8, 0, b64, by decide +kernel⟩,
   ⟨state3, by decide +kernel, 0, _, rfl, by decide +kernel⟩,
   ⟨state7, by decide +kernel, 0, _, rfl, by decide +kernel⟩,
   ⟨state5, by decide +kernel, 0, _, rfl, by decide +kernel⟩,
   ⟨state6, by decide +kernel, _, _, _, _, rfl, rfl, rfl⟩⟩

theorem witness_OnePassMatchesAgainstTheFramesVersion :
  (∃ (s : State) (f : Nat) (x : Frame), s.running = true ∧ s.frame f = some x ∧ x.stage = Stage.crossed ∧ (s.inTurn f x.port fun (y :
    Frame) => y.stage == Stage.crossed && y.pass == x.pass) = true ∧ ∃ (b : List Byte), b = List.take x.limit x.bytes ∧ (walk b).trunc =
    false ∧ ptpOffset b (walk b) = none ∧ ∃ (w : Option (List Byte)), w = s.winner x.tag x.profile (s.profileKey x.profile b (walk b)
    (metaBlock b (walk b) x.port x.pass x.carryTag)) (List.map (s.rangeInput x.profile b (walk b) (metaBlock b (walk b) x.port x.pass
    x.carryTag)) (List.range 4)) ∧ w = none ∧ x.default_.fwd ≠ 3) ∧
  (∃ (s : State) (f : Nat) (x : Frame), s.running = true ∧ s.frame f = some x ∧ x.stage = Stage.crossed ∧ (s.inTurn f x.port fun (y :
    Frame) => y.stage == Stage.crossed && y.pass == x.pass) = true ∧ ∃ (b : List Byte), b = List.take x.limit x.bytes ∧ (walk b).trunc =
    false ∧ ptpOffset b (walk b) = none ∧ ∃ (w : Option (List Byte)), w = s.winner x.tag x.profile (s.profileKey x.profile b (walk b)
    (metaBlock b (walk b) x.port x.pass x.carryTag)) (List.map (s.rangeInput x.profile b (walk b) (metaBlock b (walk b) x.port x.pass
    x.carryTag)) (List.range 4)) ∧ ∃ (r : List Byte), w = some r ∧ ruleCarries r = false ∧ (ruleMark r).fwd ≠ 3) ∧
  (∃ (s : State) (f : Nat) (x : Frame), s.running = true ∧ s.frame f = some x ∧ x.stage = Stage.crossed ∧ (s.inTurn f x.port fun (y :
    Frame) => y.stage == Stage.crossed && y.pass == x.pass) = true ∧ ∃ (b : List Byte), b = List.take x.limit x.bytes ∧ (walk b).trunc =
    false ∧ ptpOffset b (walk b) = none ∧ ∃ (w : Option (List Byte)), w = s.winner x.tag x.profile (s.profileKey x.profile b (walk b)
    (metaBlock b (walk b) x.port x.pass x.carryTag)) (List.map (s.rangeInput x.profile b (walk b) (metaBlock b (walk b) x.port x.pass
    x.carryTag)) (List.range 4)) ∧ (w = none ∧ x.default_.fwd = 3 ∨ ∃ (r : List Byte), w = some r ∧ ruleCarries r = false ∧ (ruleMark
    r).fwd = 3)) ∧
  (∃ (s : State) (f : Nat) (x : Frame), s.running = true ∧ s.frame f = some x ∧ x.stage = Stage.crossed ∧ (s.inTurn f x.port fun (y :
    Frame) => y.stage == Stage.crossed && y.pass == x.pass) = true ∧ ∃ (b : List Byte), b = List.take x.limit x.bytes ∧ (walk b).trunc =
    false ∧ ptpOffset b (walk b) = none ∧ ∃ (w : Option (List Byte)), w = s.winner x.tag x.profile (s.profileKey x.profile b (walk b)
    (metaBlock b (walk b) x.port x.pass x.carryTag)) (List.map (s.rangeInput x.profile b (walk b) (metaBlock b (walk b) x.port x.pass
    x.carryTag)) (List.range 4)) ∧ ∃ (r : List Byte), w = some r ∧ ruleCarries r = true ∧ x.pass ≠ 1 ∧ (mapGet s.path.carry (pipeOf
    x.port) []).length < 32) ∧
  (∃ (s : State) (f : Nat) (x : Frame), s.running = true ∧ s.frame f = some x ∧ x.stage = Stage.crossed ∧ (s.inTurn f x.port fun (y :
    Frame) => y.stage == Stage.crossed && y.pass == x.pass) = true ∧ ∃ (b : List Byte), b = List.take x.limit x.bytes ∧ (walk b).trunc =
    false ∧ ptpOffset b (walk b) = none ∧ ∃ (w : Option (List Byte)), w = s.winner x.tag x.profile (s.profileKey x.profile b (walk b)
    (metaBlock b (walk b) x.port x.pass x.carryTag)) (List.map (s.rangeInput x.profile b (walk b) (metaBlock b (walk b) x.port x.pass
    x.carryTag)) (List.range 4)) ∧ ∃ (r : List Byte), w = some r ∧ ruleCarries r = true ∧ x.pass ≠ 1 ∧ 32 ≤ (mapGet s.path.carry (pipeOf
    x.port) []).length ∧ (ruleMark r).fwd ≠ 3) :=
  ⟨⟨state8, 0, _, by decide +kernel, rfl, by decide +kernel, by decide +kernel, _, rfl, by decide +kernel, by decide +kernel, _, rfl,
     by decide +kernel⟩,
   ⟨state10, 0, _, by decide +kernel, rfl, by decide +kernel, by decide +kernel, _, rfl, by decide +kernel, by decide +kernel, _, rfl, _,
     rfl, by decide +kernel⟩,
   ⟨state11, 0, _, by decide +kernel, rfl, by decide +kernel, by decide +kernel, _, rfl, by decide +kernel, by decide +kernel, _, rfl,
     by decide +kernel⟩,
   ⟨state13, 0, _, by decide +kernel, rfl, by decide +kernel, by decide +kernel, _, rfl, by decide +kernel, by decide +kernel, _, rfl, _,
     rfl, by decide +kernel⟩,
   ⟨state14, 0, _, by decide +kernel, rfl, by decide +kernel, by decide +kernel, _, rfl, by decide +kernel, by decide +kernel, _, rfl, _,
     rfl, by decide +kernel⟩⟩

theorem witness_OnePassMatchesAgainstTheFramesVersion_2 :
  (∃ (s : State) (f : Nat) (x : Frame), s.running = true ∧ s.frame f = some x ∧ x.stage = Stage.crossed ∧ (s.inTurn f x.port fun (y :
    Frame) => y.stage == Stage.crossed && y.pass == x.pass) = true ∧ ∃ (b : List Byte), b = List.take x.limit x.bytes ∧ (walk b).trunc =
    false ∧ ptpOffset b (walk b) = none ∧ ∃ (w : Option (List Byte)), w = s.winner x.tag x.profile (s.profileKey x.profile b (walk b)
    (metaBlock b (walk b) x.port x.pass x.carryTag)) (List.map (s.rangeInput x.profile b (walk b) (metaBlock b (walk b) x.port x.pass
    x.carryTag)) (List.range 4)) ∧ ∃ (r : List Byte), w = some r ∧ ruleCarries r = true ∧ x.pass = 1 ∧ (ruleMark r).fwd ≠ 3) ∧
  (∃ (s : State) (f : Nat) (x : Frame), s.running = true ∧ s.frame f = some x ∧ x.stage = Stage.crossed ∧ (s.inTurn f x.port fun (y :
    Frame) => y.stage == Stage.crossed && y.pass == x.pass) = true ∧ ∃ (b : List Byte), b = List.take x.limit x.bytes ∧ (walk b).trunc =
    true) ∧
  (∃ (s : State) (f : Nat) (x : Frame), s.running = true ∧ s.frame f = some x ∧ x.stage = Stage.crossed ∧ (s.inTurn f x.port fun (y :
    Frame) => y.stage == Stage.crossed && y.pass == x.pass) = true ∧ ∃ (b : List Byte), b = List.take x.limit x.bytes ∧ ∃ (o : Nat),
    ptpOffset b (walk b) = some o ∧ x.pass = 0 ∧ ptpSane b o = false) ∧
  (∃ (s : State) (f : Nat) (x : Frame), s.running = true ∧ s.frame f = some x ∧ x.stage = Stage.crossed ∧ (s.inTurn f x.port fun (y :
    Frame) => y.stage == Stage.crossed && y.pass == x.pass) = true ∧ ∃ (b : List Byte), b = List.take x.limit x.bytes ∧ ∃ (t : State),
    exec (Instr.classifyPass f) s = Host.Outcome.next t ∧ ∃ (g : Nat), g ≠ f) ∧
  (∃ (s : State) (f : Nat) (x : Frame), s.running = true ∧ s.frame f = some x ∧ x.stage = Stage.crossed ∧ (s.inTurn f x.port fun (y :
    Frame) => y.stage == Stage.crossed && y.pass == x.pass) = true ∧ ∃ (b : List Byte), b = List.take x.limit x.bytes ∧ ∃ r ∈ s.ruleSet
    x.tag, (s.ruleEntry r.2).bad = true ∧ (s.ruleEntry r.2).met = false) :=
  ⟨⟨state15, 0, _, by decide +kernel, rfl, by decide +kernel, by decide +kernel, _, rfl, by decide +kernel, by decide +kernel, _, rfl, _,
     rfl, by decide +kernel⟩,
   ⟨state17, 0, _, by decide +kernel, rfl, by decide +kernel, by decide +kernel, _, rfl, by decide +kernel⟩,
   ⟨state16, 0, _, by decide +kernel, rfl, by decide +kernel, by decide +kernel, _, rfl, _, rfl, by decide +kernel⟩,
   ⟨state8, 0, _, by decide +kernel, rfl, by decide +kernel, by decide +kernel, _, rfl, _, rfl, 1, by decide +kernel⟩,
   ⟨state9, 0, _, by decide +kernel, rfl, by decide +kernel, by decide +kernel, _, rfl, _, List.mem_of_getElem? (i := 0) rfl,
     by decide +kernel⟩⟩

end Classifying

namespace Admission

def fw (b : List Byte) : Frame := {fr b with stage := .forwarded, copies := 1, plan := [⟨.dest, 9, 3, none⟩]}

def pol (x : Frame) : Frame := {x with mark := {x.mark with policer := some 5}}

def withP (s : State) : State := {s with tm := {s.tm with policers := [(5, ⟨⟨true, 1, 1, -5, 1000000000000⟩, false, 0, 0, [], 0⟩)]}}

def dry (s : State) : State := (s.set (Reg.BUF_POOL_SIZE_SIZE 0) 0)

def adm (h : Option Nat) (n : Nat) : Frame := {fw b64 with stage := .linked, landing := false, bytes := eth [0x12,0x34] n, heldLen := h}

def rcv (n : Nat) : Frame := {fr (eth [0x12,0x34] n) with copies := 0}

def lim : Frame := {rcv 600 with limit := 200}

def lrn (s : State) : State := {s with fdb := {s.fdb with learn := [(3, [⟨1, 7, 8, 5, [(0, false), (9,false)]⟩])]}}

def outs : Frame := {fr b64 with stage := .outside, beads := []}

def state1 : State := withF (fw (eth [0x12,0x34] 63)) up8

def state2 : State := withP (withF (pol (fw b64)) up8)

def state3 : State := withF (fw b64) up8

def state4 : State := dry (withF (fw b64) up8)

def state5 : State := withF (rcv 600) up8

def state6 : State := withF (adm none 600) up8

def state7 : State := dry (withF (adm none 600) up8)

def state8 : State := lrn (withF lim up8)

def state10 : State := {withF (rcv 600) up8 with buf := {oneBead with landing := [(0,256)]}}

def state11 : State := (withF {fw b64 with mark := mark0} (up8.set Reg.TALLY_CLASS_DROP_IF_FULL 0xFFFF))

def state12 : State := withF outs up8

theorem witness_AdmissionBeadsAndTheEndOfAFrame :
  (∃ (s : State) (f : Nat) (x : Frame), s.running = true ∧ s.frame f = some x ∧ x.stage = Stage.forwarded ∧ (s.inTurn f x.port fun (y :
    Frame) => y.unadmitted && y.carried == x.carried) = true ∧ x.bytes.length ≤ 63) ∧
  (∃ (s : State) (f : Nat) (x : Frame), s.running = true ∧ s.frame f = some x ∧ x.stage = Stage.forwarded ∧ (s.inTurn f x.port fun (y :
    Frame) => y.unadmitted && y.carried == x.carried) = true ∧ ∃ (y : Frame), 64 ≤ x.bytes.length ∧ (s.police f).frame f = some y ∧
    y.verdict = some false) ∧
  (∃ (s : State) (f : Nat) (x : Frame), s.running = true ∧ s.frame f = some x ∧ x.stage = Stage.forwarded ∧ (s.inTurn f x.port fun (y :
    Frame) => y.unadmitted && y.carried == x.carried) = true ∧ ∃ (y : Frame), 64 ≤ x.bytes.length ∧ (s.police f).frame f = some y ∧
    y.verdict = some true ∧ s.recordOrDrop y = true ∧ s.cannotRecord y = true) ∧
  (∃ (s : State) (f : Nat) (x : Frame), s.running = true ∧ s.frame f = some x ∧ x.stage = Stage.forwarded ∧ (s.inTurn f x.port fun (y :
    Frame) => y.unadmitted && y.carried == x.carried) = true ∧ ∃ (y : Frame), 64 ≤ x.bytes.length ∧ (s.police f).frame f = some y ∧
    y.verdict = some true ∧ s.recordOrDrop y = false ∧ ∃ (pool : Nat), pool = s.get (Reg.BUF_CLASS_CFG_POOL x.mark.cls) ∧ s.colourDrop
    pool x.mark.colour = false ∧ ∃ (v : State), moveBeads pool x.beads ((s.police f).turnOn pool) = some v ∧ s.funcUp Func.tm = true ∧
    x.copies ≠ 0 ∧ x.plan ≠ []) ∧
  (∃ (s : State) (f : Nat) (x : Frame), s.running = true ∧ s.frame f = some x ∧ x.stage = Stage.forwarded ∧ (s.inTurn f x.port fun (y :
    Frame) => y.unadmitted && y.carried == x.carried) = true ∧ ∃ (y : Frame), 64 ≤ x.bytes.length ∧ (s.police f).frame f = some y ∧
    y.verdict = some true ∧ s.recordOrDrop y = false ∧ ∃ (pool : Nat), pool = s.get (Reg.BUF_CLASS_CFG_POOL x.mark.cls) ∧ s.colourDrop
    pool x.mark.colour = false ∧ moveBeads pool x.beads ((s.police f).turnOn pool) = none) ∧
  (∃ (s : State) (f : Nat) (x : Frame), s.running = true ∧ s.frame f = some x ∧ x.stage = Stage.forwarded ∧ (s.inTurn f x.port fun (y :
    Frame) => y.unadmitted && y.carried == x.carried) = true ∧ ∃ (t : State), exec (Instr.admission f) s = Host.Outcome.next t) ∧
  (∃ (s : State) (f : Nat) (x : Frame), s.running = true ∧ s.frame f = some x ∧ x.needsBead = true ∧ ∃ (b : Nat) (u : State), x.landing =
    true ∧ s.takeLanding (pipeOf x.port) x.port (max 1 x.copies) = some (b, u)) :=
  ⟨⟨state1, 0, _, by decide +kernel, rfl, by decide +kernel⟩,
   ⟨state2, 0, _, by decide +kernel, rfl, by decide +kernel, by decide +kernel, _, by decide +kernel, rfl, by decide +kernel⟩,
   ⟨state11, 0, _, by decide +kernel, rfl, by decide +kernel, by decide +kernel, _, by decide +kernel, rfl, by decide +kernel⟩,
   ⟨state3, 0, _, by decide +kernel, rfl, by decide +kernel, by decide +kernel, _, by decide +kernel, rfl, by decide +kernel,
     by decide +kernel, _, rfl, by decide +kernel, _, rfl, by decide +kernel⟩,
   ⟨state4, 0, _, by decide +kernel, rfl, by decide +kernel, by decide +kernel, _, by decide +kernel, rfl, by decide +kernel,
     by decide +kernel, _, rfl, by decide +kernel⟩,
   ⟨state1, 0, _, by decide +kernel, rfl, by decide +kernel, by decide +kernel, _, rfl⟩,
   ⟨state5, 0, _, by decide +kernel, rfl, by decide +kernel, _, _, by decide +kernel, rfl⟩⟩

theorem witness_AdmissionBeadsAndTheEndOfAFrame_2 :
  (∃ (s : State) (f : Nat) (x : Frame), s.running = true ∧ s.frame f = some x ∧ x.needsBead = true ∧ x.landing = true ∧ s.takeLanding
    (pipeOf x.port) x.port (max 1 x.copies) = none) ∧
  (∃ (s : State) (f : Nat) (x : Frame), s.running = true ∧ s.frame f = some x ∧ x.needsBead = true ∧ ∃ (b : Nat) (u : State), x.landing =
    false ∧ x.copies ≠ 0 ∧ (s.turnOn x.pool).takePool x.pool x.port x.copies = some (b, u)) ∧
  (∃ (s : State) (f : Nat) (x : Frame), s.running = true ∧ s.frame f = some x ∧ x.needsBead = true ∧ x.landing = false ∧ x.copies ≠ 0 ∧
    (s.turnOn x.pool).takePool x.pool x.port x.copies = none) ∧
  (∃ (s : State) (f : Nat) (x : Frame), s.running = true ∧ s.frame f = some x ∧ x.heldLen = none ∧ x.limit < x.bytes.length ∧ x.limit ≤
    256 * x.beads.length) ∧
  (∃ (s : State) (f : Nat) (x : Frame), s.running = true ∧ s.frame f = some x ∧ ∃ (fcs : Fcs) (code : Bool), x.ended = false ∧ x.inject =
    none ∧ (x.stage = Stage.outside ∨ isControl x.bytes = true)) ∧
  (∃ (s : State) (f : Nat) (x : Frame), s.running = true ∧ s.frame f = some x ∧ ∃ (fcs : Fcs) (code : Bool), x.ended = false ∧ x.inject =
    none ∧ x.stage ≠ Stage.outside ∧ isControl x.bytes = false ∧ x.bytes.length ≤ x.limit ∧ x.heldLen = none ∧ x.bytes.length ≤ 256 *
    x.beads.length) ∧
  (∃ (s : State) (f : Nat) (x : Frame), s.running = true ∧ s.frame f = some x ∧ ∃ (fcs : Fcs) (code : Bool), x.ended = false ∧ x.inject =
    none ∧ ∃ (i : Nat), i < 56) ∧
  (∃ (s : State) (f : Nat) (x : Frame), s.running = true ∧ s.frame f = some x ∧ ∃ (fcs : Fcs) (code : Bool), x.ended = false ∧ x.inject =
    none ∧ ∃ (t : State), exec (Instr.frameEnd f fcs code) s = Host.Outcome.next t) :=
  ⟨⟨state10, 0, _, by decide +kernel, rfl, by decide +kernel⟩,
   ⟨state6, 0, _, by decide +kernel, rfl, by decide +kernel, _, _, by decide +kernel, by decide +kernel, rfl⟩,
   ⟨state7, 0, _, by decide +kernel, rfl, by decide +kernel⟩,
   ⟨state8, 0, _, by decide +kernel, rfl, by decide +kernel⟩,
   ⟨state12, 0, _, by decide +kernel, rfl, Fcs.good, true, by decide +kernel⟩,
   ⟨state1, 0, _, by decide +kernel, rfl, Fcs.good, true, by decide +kernel⟩,
   ⟨state1, 0, _, by decide +kernel, rfl, Fcs.good, true, by decide +kernel, by decide +kernel, 0, by decide +kernel⟩,
   ⟨state1, 0, _, by decide +kernel, rfl, Fcs.good, true, by decide +kernel, by decide +kernel, _, rfl⟩⟩

end Admission

namespace Egress

def upP (p : Nat) (s : State) : State := ((s.set (Reg.MAC_PORT_STATUS_STATE p) 2).on (Reg.MAC_PORT_STATUS_LINK_GOOD p)).on (Reg.MAC_PORT_CTRL_ENABLE p)

def plan : List CopyPlan := [⟨.ingMirror 2 0, 9, 3, none⟩, ⟨.dest, 9, 3, none⟩]

def rep (pl : List CopyPlan) (s : State) : State := {withF {fwd with walked := 0, plan := pl, stage := .walking} s with path := {(withF {fwd with walked := 0, plan := pl, stage := .walking} s).path with replicators := [(0, [0])]}}

def off (c : Copy) (r : Bool) (s : State) : State := let t := withCopy c s
  {t with path := {t.path with offered := if r then [] else [0], residue := if r then [(8*16+c.queue, [0])] else []}}

def state1 : State := rep plan up8

def state2 : State := {rep plan up8 with path := {(rep plan up8).path with residue := [(9*16+3, List.range 4096)]}}

def state3 : State := upP 9 (rep plan up8)

def state6 : State := off (cp 3 false) false up8

def state7 : State := off (cp 3 false) true up8

def state9 : State := off (cp 3 false) false p8

def state10 : State := off (cp 3 false) true p8

def state13 : State := {off (cp 3 false) false up8 with path := {(off (cp 3 false) false up8).path with links := [(0, (10^12, 2))]}}

def state14 : State := {off (cp 3 false) true up8 with path := {(off (cp 3 false) true up8).path with links := [(0, (10^12, 2))]}}

def que (f : Frame) (cs : List (Nat × Copy)) (rods : SMap (List Nat)) (s : State) : State := {s with path := {path0 with frames := [(0, f)], nextFrame := 1, copies := cs, nextCopy := 9, rods := rods}, buf := poolBead}

def two : State := que fwd [(0, cp 3 true), (1, cp 5 true), (2, cp 5 true)] [(131, [0]), (133, [1,2])] up8

def picked (k : PickSt) (s : State) : State := s.modPort 8 fun x => {x with picked := some k}

def pk (r : Option Int) (c : Bool) : PickSt := ⟨0, 84, 20, r, c⟩

def heldq : State := fol 0 (que {fwd with ingStamp := stampOf 0 0} [(0, cp 3 true)] [(131, [0])] ((up8.on (Reg.STAMP_PORT_CTRL_LL_EN 8)).set (Reg.STAMP_PORT_CTRL_LL_CLASSES 8) 0xFFFF)) |> fun s => s.setPres {s.time.pres with now := 0}

def bad : State := que {fwd with fcs := some .bad} [(0, cp 3 true)] [(131, [0])] up8

def txs (s : State) : State := s.modPort 8 fun x => {x with tx := some ⟨pk none true, 77, false, 0, 0, false, 5⟩}

def state15 : State := picked (pk none true) two

def state17 : State := picked (pk (some 5) false) two

def state18 : State := picked (pk (some 5) false) bad

def state20 : State := txs two

theorem witness_CopiesAreOfferedAndLinkedInOrder :
  (∃ (s : State), s.running = true ∧ ∃ (pipe : Nat) (places : Nat) (f : Nat) (l : List Nat) (x : Frame) (p : CopyPlan) (rod : Nat) (c :
    Nat), pipe < 65 ∧ mapGet s.path.replicators pipe [] = f :: l ∧ s.frame f = some x ∧ x.plan[x.walked]? = some p ∧ rod = p.egress * 16 +
    p.queue ∧ c = s.path.nextCopy ∧ ∃ (ready : Bool), ready = (decide (0 < min places (s.placesLeft (pipeOf p.egress))) && (s.residue
    rod).isEmpty && (s.offersOf rod).isEmpty) ∧ ready = false ∧ 4096 ≤ s.residueCount (pipeOf p.egress)) ∧
  (∃ (s : State), s.running = true ∧ ∃ (pipe : Nat) (places : Nat) (f : Nat) (l : List Nat) (x : Frame) (p : CopyPlan) (rod : Nat) (c :
    Nat), pipe < 65 ∧ mapGet s.path.replicators pipe [] = f :: l ∧ s.frame f = some x ∧ x.plan[x.walked]? = some p ∧ rod = p.egress * 16 +
    p.queue ∧ c = s.path.nextCopy ∧ ∃ (ready : Bool), ready = (decide (0 < min places (s.placesLeft (pipeOf p.egress))) && (s.residue
    rod).isEmpty && (s.offersOf rod).isEmpty) ∧ ready = false ∧ s.residueCount (pipeOf p.egress) < 4096) ∧
  (∃ (s : State), s.running = true ∧ ∃ (pipe : Nat) (places : Nat) (f : Nat) (l : List Nat) (x : Frame) (p : CopyPlan) (rod : Nat) (c :
    Nat), pipe < 65 ∧ mapGet s.path.replicators pipe [] = f :: l ∧ s.frame f = some x ∧ x.plan[x.walked]? = some p ∧ rod = p.egress * 16 +
    p.queue ∧ c = s.path.nextCopy ∧ ∃ (ready : Bool), ready = (decide (0 < min places (s.placesLeft (pipeOf p.egress))) && (s.residue
    rod).isEmpty && (s.offersOf rod).isEmpty) ∧ ready = true ∧ (∀ (q : Nat), c ∉ s.rod q) ∧ (fun (egress rod : Nat) => s.portUp egress =
    true ∧ s.get (Reg.MAC_PORT_CTRL_LOOPBACK egress) ≠ 3 ∧ s.usedCopies < 1048576 ∧ (s.get (Reg.QUE_ROD_LIMIT_LIMIT rod) = 0 ∨ s.rodDepth
    rod < s.get (Reg.QUE_ROD_LIMIT_LIMIT rod) * 16)) p.egress rod) ∧
  (∃ (s : State), s.running = true ∧ ∃ (pipe : Nat) (places : Nat) (f : Nat) (l : List Nat) (x : Frame) (p : CopyPlan) (rod : Nat) (c :
    Nat), pipe < 65 ∧ mapGet s.path.replicators pipe [] = f :: l ∧ s.frame f = some x ∧ x.plan[x.walked]? = some p ∧ rod = p.egress * 16 +
    p.queue ∧ c = s.path.nextCopy ∧ ∃ (ready : Bool), ready = (decide (0 < min places (s.placesLeft (pipeOf p.egress))) && (s.residue
    rod).isEmpty && (s.offersOf rod).isEmpty) ∧ ready = true ∧ (s.portUp p.egress = false ∨ s.get (Reg.MAC_PORT_CTRL_LOOPBACK p.egress) =
    3)) ∧
  (∃ (s : State), s.running = true ∧ ∃ (c : Nat) (x : Copy), s.copy c = some x ∧ (s.offersOf x.rod).head? = some c ∧ ((s.residue
    x.rod).any fun (x : Nat) => decide (x < c)) = false ∧ 0 < s.placesLeft (pipeOf x.egress) ∧ (fun (egress rod : Nat) => s.portUp egress
    = true ∧ s.get (Reg.MAC_PORT_CTRL_LOOPBACK egress) ≠ 3 ∧ s.usedCopies < 1048576 ∧ (s.get (Reg.QUE_ROD_LIMIT_LIMIT rod) = 0 ∨
    s.rodDepth rod < s.get (Reg.QUE_ROD_LIMIT_LIMIT rod) * 16)) x.egress x.rod) :=
  ⟨⟨state2, by decide +kernel, 0, 0, _, _, _, _, _, _, by decide +kernel, rfl, rfl, rfl, rfl, rfl, _, rfl, by decide +kernel⟩,
   ⟨state1, by decide +kernel, 0, 0, _, _, _, _, _, _, by decide +kernel, rfl, rfl, rfl, rfl, rfl, _, rfl, by decide +kernel⟩,
   ⟨state3, by decide +kernel, 0, 5, _, _, _, _, _, _, by decide +kernel, rfl, rfl, rfl, rfl, rfl, _, rfl, by decide +kernel, rod_of
     (by decide +kernel), ⟨by decide +kernel, ⟨by decide +kernel, ⟨by decide +kernel, by decide +kernel⟩⟩⟩⟩,
   ⟨state1, by decide +kernel, 0, 5, _, _, _, _, _, _, by decide +kernel, rfl, rfl, rfl, rfl, rfl, _, rfl, by decide +kernel⟩,
   ⟨state6, by decide +kernel, 0, _, rfl, by decide +kernel, by decide +kernel, by decide +kernel, ⟨by decide +kernel, ⟨by decide +kernel,
     ⟨by decide +kernel, by decide +kernel⟩⟩⟩⟩⟩

theorem witness_CopiesAreOfferedAndLinkedInOrder_2 :
  (∃ (s : State), s.running = true ∧ ∃ (c : Nat) (x : Copy), s.copy c = some x ∧ (s.offersOf x.rod).head? = some c ∧ ((s.residue
    x.rod).any fun (x : Nat) => decide (x < c)) = false ∧ 0 < s.placesLeft (pipeOf x.egress) ∧ (s.portUp x.egress = false ∨ s.get
    (Reg.MAC_PORT_CTRL_LOOPBACK x.egress) = 3) ∧ x.linked = false) ∧
  (∃ (s : State), s.running = true ∧ ∃ (c : Nat) (x : Copy), s.copy c = some x ∧ (s.offersOf x.rod).head? = some c ∧ s.placesLeft (pipeOf
    x.egress) = 0 ∧ s.residueCount (pipeOf x.egress) < 4096) ∧
  (∃ (s : State), s.running = true ∧ ∃ (c : Nat) (x : Copy), s.copy c = some x ∧ x.rod < 16384 ∧ (s.residue x.rod).head? = some c ∧
    ((s.offersOf x.rod).any fun (x : Nat) => decide (x < c)) = false ∧ s.linksNow (pipeOf x.egress) < 2 ∧ (fun (egress rod :
    Nat) => s.portUp egress = true ∧ s.get (Reg.MAC_PORT_CTRL_LOOPBACK egress) ≠ 3 ∧ s.usedCopies < 1048576 ∧ (s.get
    (Reg.QUE_ROD_LIMIT_LIMIT rod) = 0 ∨ s.rodDepth rod < s.get (Reg.QUE_ROD_LIMIT_LIMIT rod) * 16)) x.egress x.rod) ∧
  (∃ (s : State), s.running = true ∧ ∃ (c : Nat) (x : Copy), s.copy c = some x ∧ x.rod < 16384 ∧ (s.residue x.rod).head? = some c ∧
    ((s.offersOf x.rod).any fun (x : Nat) => decide (x < c)) = false ∧ s.linksNow (pipeOf x.egress) < 2 ∧ (s.portUp x.egress = false ∨
    s.get (Reg.MAC_PORT_CTRL_LOOPBACK x.egress) = 3) ∧ x.linked = false) ∧
  (∃ (s : State), s.running = true ∧ ∃ (c : Nat) (x : Copy), s.copy c = some x ∧ x.rod < 16384 ∧ (s.residue x.rod).head? = some c ∧ 2 ≤
    s.linksNow (pipeOf x.egress)) ∧
  (∃ (s : State), s.running = true ∧ ∃ (com : Instr) (t : State), ((∃ (c : Nat), com = Instr.copyLink c) ∨ (∃ (q : Nat), com =
    Instr.residueLink q) ∨ ∃ (pipe : Nat) (n : Nat), com = Instr.replicatorOffer pipe n) ∧ exec com s = Host.Outcome.next t) :=
  ⟨⟨state9, by decide +kernel, 0, _, rfl, by decide +kernel⟩,
   ⟨state13, by decide +kernel, 0, _, rfl, by decide +kernel⟩,
   ⟨state7, by decide +kernel, 0, _, rfl, by decide +kernel, by decide +kernel, by decide +kernel, by decide +kernel, ⟨by decide +kernel,
     ⟨by decide +kernel, ⟨by decide +kernel, by decide +kernel⟩⟩⟩⟩,
   ⟨state10, by decide +kernel, 0, _, rfl, by decide +kernel⟩,
   ⟨state14, by decide +kernel, 0, _, rfl, by decide +kernel⟩,
   ⟨state1, by decide +kernel, (Instr.copyLink 0), _, Or.inl ⟨_, rfl⟩, rfl⟩⟩

theorem witness_PortsPickStartAndEndTransmissions :
  (∃ (s : State) (p : Nat), s.running = true ∧ p < 1024 ∧ ∃ (u : State), s.portUp p = true ∧ (s.port p).picked = none ∧ s.funcUp Func.tm =
    true ∧ u = List.foldl (fun (s : State) (q : Nat) => s.lookAt q) (List.foldl (fun (s : State) (q : Nat) => cleanRod (s.rod q).length q
    s) s (List.map (fun (x : Nat) => 16 * p + x) (List.range 16))) (List.map (fun (x : Nat) => 16 * p + x) (List.range 16)) ∧ u.eligible p
    = []) ∧
  (∃ (s : State) (p : Nat), s.running = true ∧ p < 1024 ∧ ∃ (u : State), s.portUp p = true ∧ (s.port p).picked = none ∧ s.funcUp Func.tm =
    true ∧ u = List.foldl (fun (s : State) (q : Nat) => s.lookAt q) (List.foldl (fun (s : State) (q : Nat) => cleanRod (s.rod q).length q
    s) s (List.map (fun (x : Nat) => 16 * p + x) (List.range 16))) (List.map (fun (x : Nat) => 16 * p + x) (List.range 16)) ∧ u.eligible p
    ≠ [] ∧ ∀ q ∈ u.eligible p, u.headRelease q = none) ∧
  (∃ (s : State) (p : Nat), s.running = true ∧ p < 1024 ∧ ∃ (u : State), s.portUp p = true ∧ (s.port p).picked = none ∧ s.funcUp Func.tm =
    true ∧ u = List.foldl (fun (s : State) (q : Nat) => s.lookAt q) (List.foldl (fun (s : State) (q : Nat) => cleanRod (s.rod q).length q
    s) s (List.map (fun (x : Nat) => 16 * p + x) (List.range 16))) (List.map (fun (x : Nat) => 16 * p + x) (List.range 16)) ∧ u.eligible p
    ≠ [] ∧ ∀ q ∈ u.eligible p, u.headRelease q ≠ none ∧ u.headLate q = false) ∧
  (∃ (s : State) (p : Nat), s.running = true ∧ p < 1024 ∧ ∃ (k : PickSt) (x : Copy) (f : Frame) (sub : Nat), (s.port p).picked = some k ∧
    s.copy k.copy = some x ∧ s.frame x.frame = some f ∧ x.egress = p ∧ k.crossed = true ∧ sub < 64 ∧ (∀ (r : ℤ), k.release = some r →
    s.presNone = true ∨ r ≤ s.clockAt 0 sub) ∧ (s.port p).tx = none ∧ s.portUp p = true ∧ s.isPaused x.rod = false ∧ s.pairState ≠
    paYielding) ∧
  (∃ (s : State) (p : Nat), s.running = true ∧ p < 1024 ∧ ∃ (k : PickSt) (x : Copy) (f : Frame) (sub : Nat), (s.port p).picked = some k ∧
    s.copy k.copy = some x ∧ s.frame x.frame = some f ∧ x.egress = p ∧ ∃ (r : ℤ), k.release = some r ∧ k.crossed = false ∧ (s.presNone =
    true ∨ readRelease r ≤ s.clockAt 0 0) ∧ f.damaged = false) ∧
  (∃ (s : State) (p : Nat), s.running = true ∧ p < 1024 ∧ ∃ (k : PickSt) (x : Copy) (f : Frame) (sub : Nat), (s.port p).picked = some k ∧
    s.copy k.copy = some x ∧ s.frame x.frame = some f ∧ x.egress = p ∧ ∃ (r : ℤ), k.release = some r ∧ k.crossed = false ∧ (s.presNone =
    true ∨ readRelease r ≤ s.clockAt 0 0) ∧ f.damaged = true ∧ x.linked = true) ∧
  (∃ (s : State) (p : Nat), s.running = true ∧ p < 1024 ∧ ∃ (d : TxSt) (x : Copy) (f : Frame) (b : List Byte), (s.port p).tx = some d ∧
    s.copy d.pick.copy = some x ∧ s.frame x.frame = some f ∧ f.ended = true ∧ b = s.txBytes x f d.stamp d.trailer) :=
  ⟨⟨up8, 8, by decide +kernel, by decide +kernel, _, by decide +kernel, by decide +kernel, by decide +kernel, rfl, by decide +kernel⟩,
   ⟨two, 8, by decide +kernel, by decide +kernel, _, by decide +kernel, by decide +kernel, by decide +kernel, rfl, by decide +kernel⟩,
   ⟨heldq, 8, by decide +kernel, by decide +kernel, _, by decide +kernel, by decide +kernel, by decide +kernel, rfl, by decide +kernel⟩,
   ⟨state15, 8, by decide +kernel, by decide +kernel, _, _, _, 0, rfl, rfl, rfl, by decide +kernel⟩,
   ⟨state17, 8, by decide +kernel, by decide +kernel, _, _, _, 0, rfl, rfl, rfl, by decide +kernel, _, rfl, by decide +kernel⟩,
   ⟨state18, 8, by decide +kernel, by decide +kernel, _, _, _, 0, rfl, rfl, rfl, by decide +kernel, _, rfl, by decide +kernel⟩,
   ⟨state20, 8, by decide +kernel, by decide +kernel, _, _, _, _, rfl, rfl, rfl, by decide +kernel, rfl⟩⟩

end Egress

namespace Versions

def dr (s : State) := s.on (Reg.PARSE_PROF_CTRL_DRAINED 5)

def va (s : State) := s.on (Reg.PARSE_PROF_CTRL_VALID 5)

def nm (s : State) : State := s.set (Reg.PARSE_PORT_CFG_PROFILE 8) 5

def wt (l : List Nat) (s : State) : State := {s with rules := {s.rules with profileWait := [(5, l)]}}

def tg (k n : Nat) (s : State) : State := ((s.set (Reg.RULE_VER_STATE_STATE 2) k).set (Reg.RULE_VER_STATE_INFLIGHT 2) n)

def state1 : State := dr up

def state2 : State := up.off (Reg.PARSE_PROF_CTRL_DRAINED 5)

def state3 : State := va (nm p8)

def state5 : State := wt [] up

def state6 : State := wt [3] up

def state7 : State := tg 2 0 up

def state8 : State := tg 2 5 up

def state9 : State := stg st0

def state10 : State := {st0 with rules := {st0.rules with entries := [(5, ⟨rule 0 2, true, false⟩)]}}

def state13 : State := full (stg st0)

def state14 : State := cmpu st0

def value16 : CmdIn := cmd 0 0 [1,0,2,0, 5,0,9,0, 0,0,0,0,0,0,0,0]

theorem witness_ProfilesAndTagsDrainBeforeReuse :
  (∃ (s : State) (n : Nat) (v : Nat), s.served ∧ s.funcUp Func.parse = true ∧ 1 ≤ n ∧ n < 64 ∧ v < 2 ^ 32 ∧ within v 212751 = true ∧ bits
    v 0 4 = s.get (Reg.PARSE_PROF_CTRL_RANGE_EN n) ∧ bitOf v 16 = true ∧ s.bit (Reg.PARSE_PROF_CTRL_DRAINED n) = true) ∧
  (∃ (s : State) (n : Nat) (v : Nat), s.served ∧ s.funcUp Func.parse = true ∧ 1 ≤ n ∧ n < 64 ∧ v < 2 ^ 32 ∧ within v 212751 = true ∧ bits
    v 0 4 = s.get (Reg.PARSE_PROF_CTRL_RANGE_EN n) ∧ bitOf v 16 = true ∧ s.bit (Reg.PARSE_PROF_CTRL_DRAINED n) = false) ∧
  (∃ (s : State) (n : Nat) (v : Nat), s.served ∧ s.funcUp Func.parse = true ∧ 1 ≤ n ∧ n < 64 ∧ v < 2 ^ 32 ∧ within v 212751 = true ∧ bits
    v 0 4 = s.get (Reg.PARSE_PROF_CTRL_RANGE_EN n) ∧ bitOf v 16 = false ∧ s.profileNamed n = true) ∧
  (∃ (s : State) (n : Nat) (v : Nat), s.served ∧ s.funcUp Func.parse = true ∧ 1 ≤ n ∧ n < 64 ∧ v < 2 ^ 32 ∧ within v 212751 = true ∧ bits
    v 0 4 = s.get (Reg.PARSE_PROF_CTRL_RANGE_EN n) ∧ bitOf v 16 = false ∧ s.profileNamed n = false) ∧
  (∃ (s : State) (n : Nat), s.running = true ∧ n < 64 ∧ mapFind s.rules.profileWait n = some []) ∧
  (∃ (s : State) (n : Nat), s.running = true ∧ n < 64 ∧ ∃ (f : Nat) (l : List Nat), mapFind s.rules.profileWait n = some (f :: l)) ∧
  (∃ (s : State) (tag : Nat), s.running = true ∧ tag < 4 ∧ s.tagState tag = 2 ∧ s.get (Reg.RULE_VER_STATE_INFLIGHT tag) = 0) ∧
  (∃ (s : State) (tag : Nat), s.running = true ∧ tag < 4 ∧ s.tagState tag = 2 ∧ s.get (Reg.RULE_VER_STATE_INFLIGHT tag) ≠ 0 ∧ mapGet
    s.rules.drainFrom tag 0 + 10 * usCycles ≤ s.cycle) :=
  ⟨⟨state1, 5, 65536, served_of (by decide +kernel), by decide +kernel⟩,
   ⟨state2, 5, 65536, served_of (by decide +kernel), by decide +kernel⟩,
   ⟨state3, 5, 0, served_of (by decide +kernel), by decide +kernel⟩,
   ⟨state1, 5, 0, served_of (by decide +kernel), by decide +kernel⟩,
   ⟨state5, 5, by decide +kernel⟩,
   ⟨state6, 5, by decide +kernel, by decide +kernel, _, _, rfl⟩,
   ⟨state7, 2, by decide +kernel⟩,
   ⟨state8, 2, by decide +kernel⟩⟩

theorem witness_StagedRulesTakeEffectAtACommit :
  (∃ (s : State) (c : CmdIn), s.accepts 0 c) ∧
  (∃ (s : State) (c : CmdIn), s.accepts 16 c ∧ s.ruleOk c.input = false) ∧
  (∃ (s : State) (c : CmdIn), s.accepts 16 c ∧ s.ruleOk c.input = true ∧ leAt c.input 3 1 = 0) ∧
  (∃ (s : State) (c : CmdIn), s.accepts 16 c ∧ s.ruleOk c.input = true ∧ leAt c.input 3 1 = 1 ∧ List.length s.rules.entries < 65536) ∧
  (∃ (s : State) (c : CmdIn), s.accepts 17 c) ∧
  (∃ (s : State) (c : CmdIn), s.accepts 18 c ∧ s.chosenTag c = none ∧ s.rules.changes = []) ∧
  (∃ (s : State) (c : CmdIn), s.accepts 18 c ∧ s.chosenTag c = none ∧ s.rules.changes ≠ [] ∧ s.freeTag = none) :=
  ⟨⟨st0, (cmd 0 0 []), accepts_of (by decide +kernel)⟩,
   ⟨st0, (cmd 0 0 (rule 2 2)), accepts_of (by decide +kernel), by decide +kernel⟩,
   ⟨st0, (cmd 0 0 (zeros 128)), accepts_of (by decide +kernel), by decide +kernel⟩,
   ⟨st0, (cmd 0 0 (rule 0 2)), accepts_of (by decide +kernel), by decide +kernel⟩,
   ⟨st0, (cmd 0 0 []), accepts_of (by decide +kernel)⟩,
   ⟨st0, (cmd 0 0 []), accepts_of (by decide +kernel), by decide +kernel⟩,
   ⟨state13, (cmd 0 0 []), accepts_of (by decide +kernel), by decide +kernel⟩⟩

theorem witness_StagedRulesTakeEffectAtACommit_2 :
  (∃ (s : State) (c : CmdIn), s.acceptsLong 18 c ∧ ∃ (k : Nat), (s.chosenTag c = some k ∨ s.chosenTag c = none ∧ s.rules.changes ≠ [] ∧
    s.freeTag = some k) ∧ k < 4 ∧ k ≠ s.currentTag ∧ s.currentTag < 4 ∧ s.get (Reg.RULE_VER_NUM_NUM s.currentTag) + 1 < 2 ^ 32) ∧
  (∃ (s : State) (c : CmdIn), s.accepts 19 c ∧ ∃ (k : Nat) (m : SMap Nat), k = bits c.param 16 3 ∧ (m = if k = 4 then s.stagedSet else
    s.ruleSet k) ∧ (4 < k ∨ k < 4 ∧ (s.tagState k = 0 ∨ s.tagState k = 3))) ∧
  (∃ (s : State) (c : CmdIn), s.accepts 19 c ∧ ∃ (k : Nat) (m : SMap Nat), k = bits c.param 16 3 ∧ (m = if k = 4 then s.stagedSet else
    s.ruleSet k) ∧ (k = 4 ∨ k < 4 ∧ s.tagState k ≠ 0 ∧ s.tagState k ≠ 3) ∧ mapFind m (bits c.param 0 15) = none) ∧
  (∃ (s : State) (c : CmdIn), s.accepts 19 c ∧ ∃ (k : Nat) (m : SMap Nat), k = bits c.param 16 3 ∧ (m = if k = 4 then s.stagedSet else
    s.ruleSet k) ∧ (k = 4 ∨ k < 4 ∧ s.tagState k ≠ 0 ∧ s.tagState k ≠ 3) ∧ ∃ (e : Nat), mapFind m (bits c.param 0 15) = some e ∧
    (s.ruleEntry e).bad = false) ∧
  (∃ (s : State) (c : CmdIn), s.accepts 19 c ∧ ∃ (k : Nat) (m : SMap Nat), k = bits c.param 16 3 ∧ (m = if k = 4 then s.stagedSet else
    s.ruleSet k) ∧ (k = 4 ∨ k < 4 ∧ s.tagState k ≠ 0 ∧ s.tagState k ≠ 3) ∧ ∃ (e : Nat), mapFind m (bits c.param 0 15) = some e ∧
    (s.ruleEntry e).bad = true) ∧
  (∃ (s : State) (c : CmdIn), s.accepts 20 c ∧ leAt c.input 0 2 < 1024 ∧ leAt c.input 2 1 ≤ 3 ∧ leAt c.input 3 1 = 0 ∧ leAt c.input 4 2 ≤
    leAt c.input 6 2 ∧ allZero (List.drop 8 c.input) = true ∧ s.comparatorUsed (leAt c.input 0 2) = true) ∧
  (∃ (s : State) (c : CmdIn), s.accepts 20 c ∧ leAt c.input 0 2 < 1024 ∧ leAt c.input 2 1 ≤ 3 ∧ leAt c.input 3 1 = 0 ∧ leAt c.input 4 2 ≤
    leAt c.input 6 2 ∧ allZero (List.drop 8 c.input) = true ∧ s.comparatorUsed (leAt c.input 0 2) = false) :=
  ⟨⟨state9, (cmd 0 0 []), acceptsLong_of (by decide +kernel), 1, by decide +kernel⟩,
   ⟨st0, (cmd 0 327680 []), accepts_of (by decide +kernel), _, _, rfl, rfl, by decide +kernel⟩,
   ⟨st0, (cmd 0 262147 []), accepts_of (by decide +kernel), _, _, rfl, rfl, by decide +kernel⟩,
   ⟨st0, (cmd 0 0 []), accepts_of (by decide +kernel), _, _, rfl, rfl, by decide +kernel, _, rfl, by decide +kernel⟩,
   ⟨state10, (cmd 0 0 []), accepts_of (by decide +kernel), _, _, rfl, rfl, by decide +kernel, _, rfl, by decide +kernel⟩,
   ⟨state14, value16, accepts_of (by decide +kernel), by decide +kernel⟩,
   ⟨st0, value16, accepts_of (by decide +kernel), by decide +kernel⟩⟩

end Versions

namespace Fdb

def K : Nat := 0x001122334455

def F (l : Fdb) (s : State) : State := {s with fdb := {s.fdb with entries := l, changes := 3}}

theorem F_entries (l : Fdb) (s : State) : (F l s).fdb.entries = l := rfl

def h (e : FdbEntry) : FdbEntry := {e with hit := true}

def state1 : State := withFdb (fdbE 0 9 false) p8

def state2 : State := withFdb (fdbE 0 9 true) p8

def state3 : State := withFdb (h (fdbE 0 9 false)) p8

def state6 : State := F fullFdb p8

def state7 : State := {p8 with reck := {idleReck with engines := [(0, {bootRoutine with kind := .fdbFlush, cmd := some {cmd 0 77 [] with ring := 17}})]}}

def lr (s : State) (r : LearnReq) : State := {s with fdb := {s.fdb with learn := [(0, [r])]}}

def rq (p : Nat) : LearnReq := ⟨1, K, p, -(10^12), [(0,false)]⟩

def mk (e : FdbEntry) : State := lr (withFdb e p8) (rq 8)

def state8 : State := lr p8 (rq 8)

def state10 : State := F fullFdb (lr p8 (rq 8))

def state11 : State := mk (fdbE 0 8 false)

def state12 : State := mk (fdbE 0 9 false)

def state13 : State := mk (fdbE 1 9 false)

def state15 : State := mk {fdbE 0 9 false with pinned := true}

def state16 : State := mk {fdbE 0 9 false with winStart := -(10^12), winCount := 5}

theorem witness_FdbCommandsKeepTheTable :
  (∃ (s : State) (c : CmdIn), s.accepts 32 c ∧ s.fdbEntryOk c.input = false) ∧
  (∃ (s : State) (c : CmdIn), s.accepts 32 c ∧ ∃ (e : FdbEntry), s.fdbEntryOk c.input = true ∧ e = fdbOf c.input ∧ fdbFind s.fdb.entries
    e.vlan e.mac = none ∧ ∃ (m : Fdb) (p : Nat), (s.fdbMake e).2.1 = false ∧ makeRoom s.fdb.entries e.vlan e.mac = some (m, p)) ∧
  (∃ (s : State) (c : CmdIn), s.accepts 32 c ∧ ∃ (e : FdbEntry), s.fdbEntryOk c.input = true ∧ e = fdbOf c.input ∧ fdbFind s.fdb.entries
    e.vlan e.mac = none ∧ makeRoom s.fdb.entries e.vlan e.mac = none) ∧
  (∃ (s : State) (c : CmdIn), s.accepts 32 c ∧ ∃ (e : FdbEntry), s.fdbEntryOk c.input = true ∧ e = fdbOf c.input ∧ ∃ (p : Nat) (d :
    FdbEntry), fdbFind s.fdb.entries e.vlan e.mac = some (p, d) ∧ d.bad = false ∧ bitOf c.flags 0 = false) ∧
  (∃ (s : State) (c : CmdIn), s.accepts 32 c ∧ ∃ (e : FdbEntry), s.fdbEntryOk c.input = true ∧ e = fdbOf c.input ∧ ∃ (p : Nat) (d :
    FdbEntry), fdbFind s.fdb.entries e.vlan e.mac = some (p, d) ∧ d.bad = false ∧ bitOf c.flags 0 = true) ∧
  (∃ (s : State) (c : CmdIn) (found : Option (Nat × FdbEntry)), found = fdbFind s.fdb.entries (leAt c.input 6 2) (beAt c.input 0 6) ∧
    s.accepts 33 c ∧ fdbKeyOk c.input = false) ∧
  (∃ (s : State) (c : CmdIn) (found : Option (Nat × FdbEntry)), found = fdbFind s.fdb.entries (leAt c.input 6 2) (beAt c.input 0 6) ∧
    s.accepts 33 c ∧ fdbKeyOk c.input = true ∧ found = none) ∧
  (∃ (s : State) (c : CmdIn) (found : Option (Nat × FdbEntry)), found = fdbFind s.fdb.entries (leAt c.input 6 2) (beAt c.input 0 6) ∧
    s.accepts 33 c ∧ fdbKeyOk c.input = true ∧ ∃ (p : Nat) (e : FdbEntry), found = some (p, e) ∧ e.bad = true) :=
  ⟨⟨p8, (cmd 0 0 (fe_ K 1 8 0 8)), accepts_of (by decide +kernel), by decide +kernel⟩,
   ⟨p8, (cmd 0 0 (fe_ K 1 0 0 8)), accepts_of (by decide +kernel), _, by decide +kernel, rfl, by decide +kernel, _, _, by decide +kernel,
     room_nil rfl⟩,
   ⟨state6, (cmd 0 0 (fe_ K 1 0 0 8)), accepts_of (by decide +kernel), _, by decide +kernel, rfl, find_full (F_entries _ _)
     (by decide +kernel), room_full (F_entries _ _)⟩,
   ⟨state1, (cmd 0 0 (fe_ K 1 0 0 8)), accepts_of (by decide +kernel), _, by decide +kernel, rfl, _, _, find_home rfl (by decide +kernel)
     (by decide +kernel) (by decide +kernel), by decide +kernel⟩,
   ⟨state1, (cmd 1 0 (fe_ K 1 1 0 8)), accepts_of (by decide +kernel), _, by decide +kernel, rfl, _, _, find_home rfl (by decide +kernel)
     (by decide +kernel) (by decide +kernel), by decide +kernel⟩,
   ⟨p8, (cmd 0 0 (fe_ K 1 0 0 8)), _, rfl, accepts_of (by decide +kernel), by decide +kernel⟩,
   ⟨p8, (cmd 0 0 (fk K 1)), _, rfl, accepts_of (by decide +kernel), by decide +kernel⟩,
   ⟨state2, (cmd 0 0 (fk K 1)), _, rfl, accepts_of (by decide +kernel), by decide +kernel, _, _, find_home rfl (by decide +kernel)
     (by decide +kernel) (by decide +kernel), by decide +kernel⟩⟩

theorem witness_FdbCommandsKeepTheTable_2 :
  (∃ (s : State) (c : CmdIn) (found : Option (Nat × FdbEntry)), found = fdbFind s.fdb.entries (leAt c.input 6 2) (beAt c.input 0 6) ∧
    s.accepts 33 c ∧ fdbKeyOk c.input = true ∧ ∃ (p : Nat) (e : FdbEntry), found = some (p, e) ∧ e.bad = false) ∧
  (∃ (s : State) (c : CmdIn) (found : Option (Nat × FdbEntry)), found = fdbFind s.fdb.entries (leAt c.input 6 2) (beAt c.input 0 6) ∧
    s.accepts 34 c ∧ fdbKeyOk c.input = false) ∧
  (∃ (s : State) (c : CmdIn) (found : Option (Nat × FdbEntry)), found = fdbFind s.fdb.entries (leAt c.input 6 2) (beAt c.input 0 6) ∧
    s.accepts 34 c ∧ fdbKeyOk c.input = true ∧ found = none) ∧
  (∃ (s : State) (c : CmdIn) (found : Option (Nat × FdbEntry)), found = fdbFind s.fdb.entries (leAt c.input 6 2) (beAt c.input 0 6) ∧
    s.accepts 34 c ∧ fdbKeyOk c.input = true ∧ ∃ (p : Nat) (e : FdbEntry), found = some (p, e) ∧ e.bad = true) ∧
  (∃ (s : State) (c : CmdIn) (found : Option (Nat × FdbEntry)), found = fdbFind s.fdb.entries (leAt c.input 6 2) (beAt c.input 0 6) ∧
    s.accepts 34 c ∧ fdbKeyOk c.input = true ∧ ∃ (p : Nat) (e : FdbEntry), found = some (p, e) ∧ e.bad = false ∧ e.hit = true) ∧
  (∃ (s : State) (c : CmdIn) (found : Option (Nat × FdbEntry)), found = fdbFind s.fdb.entries (leAt c.input 6 2) (beAt c.input 0 6) ∧
    s.accepts 34 c ∧ fdbKeyOk c.input = true ∧ ∃ (p : Nat) (e : FdbEntry), found = some (p, e) ∧ e.bad = false ∧ e.hit = false) ∧
  (∃ (s : State) (c : CmdIn) (found : Option (Nat × FdbEntry)), found = fdbFind s.fdb.entries (leAt c.input 6 2) (beAt c.input 0 6) ∧
    s.accepts 35 c ∧ fdbKeyOk c.input = false) ∧
  (∃ (s : State) (c : CmdIn) (found : Option (Nat × FdbEntry)), found = fdbFind s.fdb.entries (leAt c.input 6 2) (beAt c.input 0 6) ∧
    s.accepts 35 c ∧ fdbKeyOk c.input = true ∧ found = none) :=
  ⟨⟨state1, (cmd 0 0 (fk K 1)), _, rfl, accepts_of (by decide +kernel), by decide +kernel, _, _, find_home rfl (by decide +kernel)
     (by decide +kernel) (by decide +kernel), by decide +kernel⟩,
   ⟨p8, (cmd 0 0 (fe_ K 1 0 0 8)), _, rfl, accepts_of (by decide +kernel), by decide +kernel⟩,
   ⟨p8, (cmd 0 0 (fk K 1)), _, rfl, accepts_of (by decide +kernel), by decide +kernel⟩,
   ⟨state2, (cmd 0 0 (fk K 1)), _, rfl, accepts_of (by decide +kernel), by decide +kernel, _, _, find_home rfl (by decide +kernel)
     (by decide +kernel) (by decide +kernel), by decide +kernel⟩,
   ⟨state3, (cmd 0 0 (fk K 1)), _, rfl, accepts_of (by decide +kernel), by decide +kernel, _, _, find_home rfl (by decide +kernel)
     (by decide +kernel) (by decide +kernel), by decide +kernel⟩,
   ⟨state1, (cmd 0 0 (fk K 1)), _, rfl, accepts_of (by decide +kernel), by decide +kernel, _, _, find_home rfl (by decide +kernel)
     (by decide +kernel) (by decide +kernel), by decide +kernel⟩,
   ⟨p8, (cmd 0 0 (fe_ K 1 0 0 8)), _, rfl, accepts_of (by decide +kernel), by decide +kernel⟩,
   ⟨p8, (cmd 0 0 (fk K 1)), _, rfl, accepts_of (by decide +kernel), by decide +kernel⟩⟩

theorem witness_FdbCommandsKeepTheTable_3 :
  (∃ (s : State) (c : CmdIn) (found : Option (Nat × FdbEntry)), found = fdbFind s.fdb.entries (leAt c.input 6 2) (beAt c.input 0 6) ∧
    s.accepts 35 c ∧ fdbKeyOk c.input = true ∧ ∃ (p : Nat) (e : FdbEntry), found = some (p, e) ∧ e.bad = true) ∧
  (∃ (s : State) (c : CmdIn) (found : Option (Nat × FdbEntry)), found = fdbFind s.fdb.entries (leAt c.input 6 2) (beAt c.input 0 6) ∧
    s.accepts 35 c ∧ fdbKeyOk c.input = true ∧ ∃ (p : Nat) (e : FdbEntry), found = some (p, e) ∧ e.bad = false) ∧
  (∃ (s : State) (c : CmdIn), s.accepts 36 c ∧ (c.param < 1 ∨ 16 < c.param)) ∧
  (∃ (s : State) (c : CmdIn), s.accepts 36 c ∧ 1 ≤ c.param ∧ c.param ≤ 16 ∧ (if bitOf c.flags 0 = true then allZero c.input = true else
    fdbKeyOk c.input = true) ∧ mapSorted s.fdb.entries = true ∧ ∃ (got : List (Nat × Nat × FdbEntry)), got = walkFrom (c.param + 1) (if
    bitOf c.flags 0 = true then none else some (fdbKeyNat (leAt c.input 6 2) (beAt c.input 0 6))) (List.map (fun (e : Nat ×
    FdbEntry) => (fdbKeyNat e.2.vlan e.2.mac, e)) s.fdb.entries) ∧ ∃ (g : Nat × Nat × FdbEntry), List.find? (fun (g : Nat × Nat ×
    FdbEntry) => g.2.2.bad) (List.take c.param got) = some g) ∧
  (∃ (s : State) (c : CmdIn), s.accepts 36 c ∧ 1 ≤ c.param ∧ c.param ≤ 16 ∧ (if bitOf c.flags 0 = true then allZero c.input = true else
    fdbKeyOk c.input = true) ∧ mapSorted s.fdb.entries = true ∧ ∃ (got : List (Nat × Nat × FdbEntry)), got = walkFrom (c.param + 1) (if
    bitOf c.flags 0 = true then none else some (fdbKeyNat (leAt c.input 6 2) (beAt c.input 0 6))) (List.map (fun (e : Nat ×
    FdbEntry) => (fdbKeyNat e.2.vlan e.2.mac, e)) s.fdb.entries) ∧ ∀ g ∈ List.take c.param got, g.2.2.bad = false) ∧
  (∃ (s : State) (c : CmdIn), s.accepts 37 c ∧ s.fdbFlushOk c = false) ∧
  (∃ (s : State) (c : CmdIn), s.accepts 37 c ∧ s.fdbFlushOk c = true ∧ s.routineOf RoutineKind.fdbFlush c = none ∧ s.otherRuns
    RoutineKind.fdbFlush c = true) ∧
  (∃ (s : State) (c : CmdIn), s.acceptsLong 37 c ∧ s.fdbFlushOk c = true ∧ mapSorted s.fdb.entries = true ∧ (∀ e ∈ s.fdb.entries, e.2.bad
    = false) ∧ ∃ (began : Nat) (first : Nat) (before : Nat), s.begunRoutine RoutineKind.fdbFlush c = none ∧ (s.routineOf
    RoutineKind.fdbFlush c = none → s.otherRuns RoutineKind.fdbFlush c = false) ∧ began = s.fdb.changes ∧ first = 0 ∧ before = 0 ∨ ∃ (r :
    Routine), s.begunRoutine RoutineKind.fdbFlush c = some r ∧ r.met = false ∧ began = r.began ∧ first = r.progress * 4096 ∧ before =
    r.removed) :=
  ⟨⟨state2, (cmd 0 0 (fk K 1)), _, rfl, accepts_of (by decide +kernel), by decide +kernel, _, _, find_home rfl (by decide +kernel)
     (by decide +kernel) (by decide +kernel), by decide +kernel⟩,
   ⟨state1, (cmd 0 0 (fk K 1)), _, rfl, accepts_of (by decide +kernel), by decide +kernel, _, _, find_home rfl (by decide +kernel)
     (by decide +kernel) (by decide +kernel), by decide +kernel⟩,
   ⟨p8, (cmd 0 0 (fe_ K 1 0 0 8)), accepts_of (by decide +kernel), by decide +kernel⟩,
   ⟨state2, (cmd 0 1 (fk 3 1)), accepts_of (by decide +kernel), by decide +kernel, by decide +kernel, by decide +kernel, by decide +kernel,
     _, rfl, _, rfl⟩,
   ⟨p8, (cmd 0 1 (fk 3 1)), accepts_of (by decide +kernel), by decide +kernel, by decide +kernel, by decide +kernel, by decide +kernel, _,
     rfl, by decide +kernel⟩,
   ⟨p8, (cmd 0 100 []), accepts_of (by decide +kernel), by decide +kernel⟩,
   ⟨state7, (cmd 0 8 []), accepts_of (by decide +kernel), by decide +kernel⟩,
   ⟨p8, (cmd 0 8 []), acceptsLong_of (by decide +kernel), by decide +kernel, by decide +kernel, by decide +kernel, 0, 0, 0,
     by decide +kernel⟩⟩

theorem witness_ReleasedLearnRequestsTeachTheFdb :
  (∃ (s : State) (bank : Nat) (r : LearnReq) (l : List LearnReq), s.running = true ∧ bank < 16 ∧ s.funcUp Func.fdb = true ∧ mapGet
    s.fdb.learn bank [] = r :: l ∧ r.stamp + ↑(s.get Reg.FDB_CTRL_LEARN_HOLD * 1000 * 65536) ≤ ↑s.presTicks ∧ (r.frames.all fun (x : Nat ×
    Bool) => x.2) = false ∧ fdbFind s.fdb.entries r.vlan r.mac = none ∧ ∃ (m : Fdb) (p : Nat), (s.fdbMake ⟨r.vlan, r.mac, false, false,
    false, 0, r.port, 0, 0, 0, false⟩).2.1 = false ∧ makeRoom s.fdb.entries r.vlan r.mac = some (m, p)) ∧
  (∃ (s : State) (bank : Nat) (r : LearnReq) (l : List LearnReq), s.running = true ∧ bank < 16 ∧ s.funcUp Func.fdb = true ∧ mapGet
    s.fdb.learn bank [] = r :: l ∧ r.stamp + ↑(s.get Reg.FDB_CTRL_LEARN_HOLD * 1000 * 65536) ≤ ↑s.presTicks ∧ (r.frames.all fun (x : Nat ×
    Bool) => x.2) = false ∧ fdbFind s.fdb.entries r.vlan r.mac = none ∧ makeRoom s.fdb.entries r.vlan r.mac = none) ∧
  (∃ (s : State) (bank : Nat) (r : LearnReq) (l : List LearnReq), s.running = true ∧ bank < 16 ∧ s.funcUp Func.fdb = true ∧ mapGet
    s.fdb.learn bank [] = r :: l ∧ r.stamp + ↑(s.get Reg.FDB_CTRL_LEARN_HOLD * 1000 * 65536) ≤ ↑s.presTicks ∧ (r.frames.all fun (x : Nat ×
    Bool) => x.2) = false ∧ ∃ (p : Nat) (e : FdbEntry), fdbFind s.fdb.entries r.vlan r.mac = some (p, e) ∧ e.bad = false ∧ (e.static =
    true ∨ e.kind ≠ 0)) ∧
  (∃ (s : State) (bank : Nat) (r : LearnReq) (l : List LearnReq), s.running = true ∧ bank < 16 ∧ s.funcUp Func.fdb = true ∧ mapGet
    s.fdb.learn bank [] = r :: l ∧ r.stamp + ↑(s.get Reg.FDB_CTRL_LEARN_HOLD * 1000 * 65536) ≤ ↑s.presTicks ∧ (r.frames.all fun (x : Nat ×
    Bool) => x.2) = false ∧ ∃ (p : Nat) (e : FdbEntry), fdbFind s.fdb.entries r.vlan r.mac = some (p, e) ∧ e.bad = false ∧ e.static =
    false ∧ e.kind = 0 ∧ e.dest = r.port) ∧
  (∃ (s : State) (bank : Nat) (r : LearnReq) (l : List LearnReq), s.running = true ∧ bank < 16 ∧ s.funcUp Func.fdb = true ∧ mapGet
    s.fdb.learn bank [] = r :: l ∧ r.stamp + ↑(s.get Reg.FDB_CTRL_LEARN_HOLD * 1000 * 65536) ≤ ↑s.presTicks ∧ (r.frames.all fun (x : Nat ×
    Bool) => x.2) = false ∧ ∃ (p : Nat) (e : FdbEntry), fdbFind s.fdb.entries r.vlan r.mac = some (p, e) ∧ e.bad = false ∧ e.static =
    false ∧ e.kind = 0 ∧ e.dest ≠ r.port ∧ e.pinned = true) ∧
  (∃ (s : State) (bank : Nat) (r : LearnReq) (l : List LearnReq), s.running = true ∧ bank < 16 ∧ s.funcUp Func.fdb = true ∧ mapGet
    s.fdb.learn bank [] = r :: l ∧ r.stamp + ↑(s.get Reg.FDB_CTRL_LEARN_HOLD * 1000 * 65536) ≤ ↑s.presTicks ∧ (r.frames.all fun (x : Nat ×
    Bool) => x.2) = false ∧ ∃ (p : Nat) (e : FdbEntry), fdbFind s.fdb.entries r.vlan r.mac = some (p, e) ∧ e.bad = false ∧ e.static =
    false ∧ e.kind = 0 ∧ ∃ (inside : Bool) (count : Nat), e.dest ≠ r.port ∧ e.pinned = false ∧ inside = (e.winCount != 0 && decide
    (r.stamp ≤ e.winStart + ↑(s.get Reg.FDB_CTRL_MOVE_WINDOW) * 100000 * 65536)) ∧ (count = if inside = true then e.winCount + 1 else 1) ∧
    count ≤ s.get Reg.FDB_CTRL_MOVE_LIMIT) ∧
  (∃ (s : State) (bank : Nat) (r : LearnReq) (l : List LearnReq), s.running = true ∧ bank < 16 ∧ s.funcUp Func.fdb = true ∧ mapGet
    s.fdb.learn bank [] = r :: l ∧ r.stamp + ↑(s.get Reg.FDB_CTRL_LEARN_HOLD * 1000 * 65536) ≤ ↑s.presTicks ∧ (r.frames.all fun (x : Nat ×
    Bool) => x.2) = false ∧ ∃ (p : Nat) (e : FdbEntry), fdbFind s.fdb.entries r.vlan r.mac = some (p, e) ∧ e.bad = false ∧ e.static =
    false ∧ e.kind = 0 ∧ ∃ (inside : Bool) (count : Nat), e.dest ≠ r.port ∧ e.pinned = false ∧ inside = (e.winCount != 0 && decide
    (r.stamp ≤ e.winStart + ↑(s.get Reg.FDB_CTRL_MOVE_WINDOW) * 100000 * 65536)) ∧ (count = if inside = true then e.winCount + 1 else 1) ∧
    s.get Reg.FDB_CTRL_MOVE_LIMIT < count) :=
  ⟨⟨state8, 0, _, _, by decide +kernel, by decide +kernel, by decide +kernel, rfl, by decide +kernel, by decide +kernel, by decide +kernel,
     _, _, by decide +kernel, room_nil rfl⟩,
   ⟨state10, 0, _, _, by decide +kernel, by decide +kernel, by decide +kernel, rfl, by decide +kernel, by decide +kernel, find_full
     (F_entries _ _) (by decide +kernel), room_full (F_entries _ _)⟩,
   ⟨state13, 0, _, _, by decide +kernel, by decide +kernel, by decide +kernel, rfl, by decide +kernel, by decide +kernel, _, _, find_home
     rfl (by decide +kernel) (by decide +kernel) (by decide +kernel), by decide +kernel⟩,
   ⟨state11, 0, _, _, by decide +kernel, by decide +kernel, by decide +kernel, rfl, by decide +kernel, by decide +kernel, _, _, find_home
     rfl (by decide +kernel) (by decide +kernel) (by decide +kernel), by decide +kernel⟩,
   ⟨state15, 0, _, _, by decide +kernel, by decide +kernel, by decide +kernel, rfl, by decide +kernel, by decide +kernel, _, _, find_home
     rfl (by decide +kernel) (by decide +kernel) (by decide +kernel), by decide +kernel⟩,
   ⟨state12, 0, _, _, by decide +kernel, by decide +kernel, by decide +kernel, rfl, by decide +kernel, by decide +kernel, _, _, find_home
     rfl (by decide +kernel) (by decide +kernel) (by decide +kernel), by decide +kernel, by decide +kernel, by decide +kernel, _, _,
     by decide +kernel, by decide +kernel, rfl, rfl, by decide +kernel⟩,
   ⟨state16, 0, _, _, by decide +kernel, by decide +kernel, by decide +kernel, rfl, by decide +kernel, by decide +kernel, _, _, find_home
     rfl (by decide +kernel) (by decide +kernel) (by decide +kernel), by decide +kernel, by decide +kernel, by decide +kernel, _, _,
     by decide +kernel, by decide +kernel, rfl, rfl, by decide +kernel⟩⟩

end Fdb

namespace Lpm

def L (l : List LpmEntry) (s : State) : State := {s with lpm := ⟨[], [(8, l.map fun e => [some e])], 0⟩}

def e8 (p : Nat) (d : Nat) : LpmEntry := ⟨false, 8, p, 0, d, 0, false⟩

def e6 : LpmEntry := ⟨true, 64, 0x20010db8 * 2^96, 0, 8, 0, false⟩

def L6 (s : State) : State := {s with lpm := ⟨[(64, [[some e6, none]])], [(8, [[none]])], 0⟩}

def state1 : State := L [e8 0x0A000000 8] p8

def state3 : State := L6 p8

def state4 : State := {p8 with reck := {idleReck with engines := [(0, {bootRoutine with kind := .lpmInsert})]}}

def state5 : State := {p8 with reck := {idleReck with engines := [(0, {bootRoutine with kind := .lpmFlush, cmd := some {cmd 0 77 [] with ring := 17}})]}}

def state6 : State := {p8 with reck := {idleReck with engines := [(0, {bootRoutine with kind := .lpmInsert, cmd := some (cmd 0 0 (lk 0 8 [10,0,0,0] 0 8)), met := true})]}}

def state7 : State := L [{e8 0x0A000000 8 with bad := true}] p8

theorem witness_LpmCommandsKeepTheStore :
  (∃ (s : State) (c : CmdIn) (k : LpmEntry) (own : List LpmUnit), k = lpmOf c.input ∧ own = s.lpm.units k.v6 k.len ∧ (∀ e ∈ s.lpm.entries,
    e.bad = false) ∧ s.acceptsLong 40 c ∧ ∃ (moved : Nat) (met : Bool), s.movesMade c = (moved, met) ∧ s.lpmEntryOk c.input = false) ∧
  (∃ (s : State) (c : CmdIn) (k : LpmEntry) (own : List LpmUnit), k = lpmOf c.input ∧ own = s.lpm.units k.v6 k.len ∧ (∀ e ∈ s.lpm.entries,
    e.bad = false) ∧ s.acceptsLong 40 c ∧ ∃ (moved : Nat) (met : Bool), s.movesMade c = (moved, met) ∧ s.lpmEntryOk c.input = true ∧
    List.find? (sameKey k) s.lpm.entries = none ∧ met = true) ∧
  (∃ (s : State) (c : CmdIn) (k : LpmEntry) (own : List LpmUnit), k = lpmOf c.input ∧ own = s.lpm.units k.v6 k.len ∧ (∀ e ∈ s.lpm.entries,
    e.bad = false) ∧ s.acceptsLong 40 c ∧ ∃ (moved : Nat) (met : Bool), s.movesMade c = (moved, met) ∧ s.lpmEntryOk c.input = true ∧
    List.find? (sameKey k) s.lpm.entries = none ∧ met = false ∧ groupFree own = true) ∧
  (∃ (s : State) (c : CmdIn) (k : LpmEntry) (own : List LpmUnit), k = lpmOf c.input ∧ own = s.lpm.units k.v6 k.len ∧ (∀ e ∈ s.lpm.entries,
    e.bad = false) ∧ s.acceptsLong 40 c ∧ ∃ (moved : Nat) (met : Bool), s.movesMade c = (moved, met) ∧ s.lpmEntryOk c.input = true ∧
    List.find? (sameKey k) s.lpm.entries = none ∧ ∃ (l : List LpmUnit) (m : LpmSt), met = false ∧ groupFree own = false ∧ gainUnit s.lpm
    k.v6 k.len false = some (l, m)) ∧
  (∃ (s : State) (c : CmdIn) (k : LpmEntry) (own : List LpmUnit), k = lpmOf c.input ∧ own = s.lpm.units k.v6 k.len ∧ (∀ e ∈ s.lpm.entries,
    e.bad = false) ∧ s.acceptsLong 40 c ∧ ∃ (moved : Nat) (met : Bool), s.movesMade c = (moved, met) ∧ ∃ (e : LpmEntry), s.lpmEntryOk
    c.input = true ∧ List.find? (sameKey k) s.lpm.entries = some e ∧ bitOf c.flags 0 = false) ∧
  (∃ (s : State) (c : CmdIn) (k : LpmEntry) (own : List LpmUnit), k = lpmOf c.input ∧ own = s.lpm.units k.v6 k.len ∧ (∀ e ∈ s.lpm.entries,
    e.bad = false) ∧ s.acceptsLong 40 c ∧ ∃ (moved : Nat) (met : Bool), s.movesMade c = (moved, met) ∧ ∃ (e : LpmEntry), s.lpmEntryOk
    c.input = true ∧ List.find? (sameKey k) s.lpm.entries = some e ∧ bitOf c.flags 0 = true) ∧
  (∃ (s : State) (c : CmdIn) (k : LpmEntry) (own : List LpmUnit), k = lpmOf c.input ∧ own = s.lpm.units k.v6 k.len ∧ (∀ e ∈ s.lpm.entries,
    e.bad = false) ∧ s.accepts 43 c ∧ lpmKeyForm c.input = true ∧ leAt c.input 1 1 = 0 ∧ leAt c.input 2 1 = 0 ∧ leAt c.input 4 2 = 0 ∧ ∀ e
    ∈ s.lpm.entries, e.len ≤ 128 → lpmHits k.v6 k.pfx e = false) :=
  ⟨⟨p8, (cmd 0 0 (lk 0 8 [10, 0, 0, 0] 0 0)), _, _, rfl, rfl, by decide +kernel, acceptsLong_of (by decide +kernel), _, _, rfl,
     by decide +kernel⟩,
   ⟨state6, (cmd 0 0 (lk 0 8 [10, 0, 0, 0] 0 8)), _, _, rfl, rfl, by decide +kernel, acceptsLong_of (by decide +kernel), _, _, rfl,
     by decide +kernel⟩,
   ⟨state3, (cmd 0 0 (lk 0 8 [10, 0, 0, 0] 0 8)), _, _, rfl, rfl, by decide +kernel, acceptsLong_of (by decide +kernel), _, _, rfl,
     by decide +kernel⟩,
   ⟨p8, (cmd 0 0 (lk 0 8 [10, 0, 0, 0] 0 8)), _, _, rfl, rfl, by decide +kernel, acceptsLong_of (by decide +kernel), _, _, rfl,
     by decide +kernel, by decide +kernel, _, _, by decide +kernel, by decide +kernel, rfl⟩,
   ⟨state1, (cmd 0 0 (lk 0 8 [10, 0, 0, 0] 0 8)), _, _, rfl, rfl, by decide +kernel, acceptsLong_of (by decide +kernel), _, _, rfl, _,
     by decide +kernel, rfl, by decide +kernel⟩,
   ⟨state1, (cmd 1 0 (lk 0 8 [10, 0, 0, 0] 0 9)), _, _, rfl, rfl, by decide +kernel, acceptsLong_of (by decide +kernel), _, _, rfl, _,
     by decide +kernel, rfl, by decide +kernel⟩,
   ⟨p8, (cmd 0 0 (lk 0 0 [10, 1, 2, 3] 0 0)), _, _, rfl, rfl, by decide +kernel, accepts_of (by decide +kernel), by decide +kernel⟩⟩

theorem witness_LpmCommandsKeepTheStore_2 :
  (∃ (s : State) (c : CmdIn) (k : LpmEntry) (own : List LpmUnit), k = lpmOf c.input ∧ own = s.lpm.units k.v6 k.len ∧ (∀ e ∈ s.lpm.entries,
    e.bad = false) ∧ s.accepts 43 c ∧ lpmKeyForm c.input = true ∧ leAt c.input 1 1 = 0 ∧ leAt c.input 2 1 = 0 ∧ leAt c.input 4 2 = 0 ∧ ∃ e
    ∈ s.lpm.entries, e.len ≤ 128 ∧ lpmHits k.v6 k.pfx e = true) ∧
  (∃ (s : State) (c : CmdIn) (k : LpmEntry) (own : List LpmUnit), k = lpmOf c.input ∧ own = s.lpm.units k.v6 k.len ∧ (∀ e ∈ s.lpm.entries,
    e.bad = false) ∧ s.accepts 44 c ∧ 1 ≤ c.param ∧ c.param ≤ 16 ∧ (if bitOf c.flags 0 = true then allZero c.input = true else lpmKeyOk
    c.input = true) ∧ ∃ (got : List (Nat × LpmEntry)), got = walkFrom (c.param + 1) (if bitOf c.flags 0 = true then none else some
    (lpmKeyNat (lpmOf c.input))) (List.map (fun (e : LpmEntry) => (lpmKeyNat e, e)) s.lpm.entries)) ∧
  (∃ (s : State) (c : CmdIn) (k : LpmEntry) (own : List LpmUnit), k = lpmOf c.input ∧ own = s.lpm.units k.v6 k.len ∧ (∀ e ∈ s.lpm.entries,
    e.bad = false) ∧ s.acceptsLong 45 c ∧ s.destPortOk (c.param % 1024) = true ∧ s.begunRoutine RoutineKind.lpmFlush c = none ∧
    (s.routineOf RoutineKind.lpmFlush c = none → s.otherRuns RoutineKind.lpmFlush c = false)) ∧
  (∃ (s : State) (c : CmdIn) (k : LpmEntry) (own : List LpmUnit), k = lpmOf c.input ∧ own = s.lpm.units k.v6 k.len ∧ (∀ e ∈ s.lpm.entries,
    e.bad = false) ∧ ∃ (n : Nat) (l : List LpmUnit) (m : LpmSt), n < 162 ∧ s.running = true ∧ s.carried (RoutineKind.lpmMove n) none =
    true ∧ s.wantsUnit n = true ∧ s.funcUp Func.lpm = true ∧ gainUnit s.lpm (groupOf n).1 (groupOf n).2 true = some (l, m)) ∧
  (∃ (s : State) (c : CmdIn) (k : LpmEntry) (own : List LpmUnit), k = lpmOf c.input ∧ own = s.lpm.units k.v6 k.len ∧ ∃ (found : Option
    LpmEntry), found = List.find? (sameKey k) s.lpm.entries ∧ s.accepts 41 c ∧ lpmKeyOk c.input = false) ∧
  (∃ (s : State) (c : CmdIn) (k : LpmEntry) (own : List LpmUnit), k = lpmOf c.input ∧ own = s.lpm.units k.v6 k.len ∧ ∃ (found : Option
    LpmEntry), found = List.find? (sameKey k) s.lpm.entries ∧ s.accepts 41 c ∧ lpmKeyOk c.input = true ∧ found = none) ∧
  (∃ (s : State) (c : CmdIn) (k : LpmEntry) (own : List LpmUnit), k = lpmOf c.input ∧ own = s.lpm.units k.v6 k.len ∧ ∃ (found : Option
    LpmEntry), found = List.find? (sameKey k) s.lpm.entries ∧ s.accepts 41 c ∧ lpmKeyOk c.input = true ∧ ∃ (e : LpmEntry), found = some e
    ∧ e.bad = true) ∧
  (∃ (s : State) (c : CmdIn) (k : LpmEntry) (own : List LpmUnit), k = lpmOf c.input ∧ own = s.lpm.units k.v6 k.len ∧ ∃ (found : Option
    LpmEntry), found = List.find? (sameKey k) s.lpm.entries ∧ s.accepts 41 c ∧ lpmKeyOk c.input = true ∧ ∃ (e : LpmEntry), found = some e
    ∧ e.bad = false) :=
  ⟨⟨state1, (cmd 0 0 (lk 0 0 [10, 1, 2, 3] 0 0)), _, _, rfl, rfl, by decide +kernel, accepts_of (by decide +kernel), by decide +kernel⟩,
   ⟨p8, (cmd 1 1 (zeros 32)), _, _, rfl, rfl, by decide +kernel, accepts_of (by decide +kernel), by decide +kernel, by decide +kernel,
     by decide +kernel, _, rfl⟩,
   ⟨p8, (cmd 0 8 []), _, _, rfl, rfl, by decide +kernel, acceptsLong_of (by decide +kernel), by decide +kernel⟩,
   ⟨state1, (cmd 0 0 (lk 0 8 [10, 0, 0, 0] 0 8)), _, _, rfl, rfl, by decide +kernel, 153, _, _, by decide +kernel, by decide +kernel,
     by decide +kernel, by decide +kernel, by decide +kernel, rfl⟩,
   ⟨p8, (cmd 0 0 (lk 0 8 [10, 0, 0, 0] 0 8)), _, _, rfl, rfl, _, rfl, accepts_of (by decide +kernel), by decide +kernel⟩,
   ⟨p8, (cmd 0 0 (lk 0 8 [10, 0, 0, 0] 0 0)), _, _, rfl, rfl, _, rfl, accepts_of (by decide +kernel), by decide +kernel⟩,
   ⟨state7, (cmd 0 0 (lk 0 8 [10, 0, 0, 0] 0 0)), _, _, rfl, rfl, _, rfl, accepts_of (by decide +kernel), by decide +kernel, _, rfl,
     by decide +kernel⟩,
   ⟨state1, (cmd 0 0 (lk 0 8 [10, 0, 0, 0] 0 0)), _, _, rfl, rfl, _, rfl, accepts_of (by decide +kernel), by decide +kernel, _, rfl,
     by decide +kernel⟩⟩

theorem witness_LpmCommandsKeepTheStore_3 :
  (∃ (s : State) (c : CmdIn) (k : LpmEntry) (own : List LpmUnit), k = lpmOf c.input ∧ own = s.lpm.units k.v6 k.len ∧ ∃ (found : Option
    LpmEntry), found = List.find? (sameKey k) s.lpm.entries ∧ s.accepts 42 c ∧ lpmKeyOk c.input = false) ∧
  (∃ (s : State) (c : CmdIn) (k : LpmEntry) (own : List LpmUnit), k = lpmOf c.input ∧ own = s.lpm.units k.v6 k.len ∧ ∃ (found : Option
    LpmEntry), found = List.find? (sameKey k) s.lpm.entries ∧ s.accepts 42 c ∧ lpmKeyOk c.input = true ∧ found = none) ∧
  (∃ (s : State) (c : CmdIn) (k : LpmEntry) (own : List LpmUnit), k = lpmOf c.input ∧ own = s.lpm.units k.v6 k.len ∧ ∃ (found : Option
    LpmEntry), found = List.find? (sameKey k) s.lpm.entries ∧ s.accepts 42 c ∧ lpmKeyOk c.input = true ∧ ∃ (e : LpmEntry), found = some e
    ∧ e.bad = true) ∧
  (∃ (s : State) (c : CmdIn) (k : LpmEntry) (own : List LpmUnit), k = lpmOf c.input ∧ own = s.lpm.units k.v6 k.len ∧ ∃ (found : Option
    LpmEntry), found = List.find? (sameKey k) s.lpm.entries ∧ s.accepts 42 c ∧ lpmKeyOk c.input = true ∧ ∃ (e : LpmEntry), found = some e
    ∧ e.bad = false) ∧
  (∃ (s : State) (c : CmdIn) (k : LpmEntry) (own : List LpmUnit), k = lpmOf c.input ∧ own = s.lpm.units k.v6 k.len ∧ s.accepts 44 c ∧
    (c.param < 1 ∨ 16 < c.param)) ∧
  (∃ (s : State) (c : CmdIn) (k : LpmEntry) (own : List LpmUnit), k = lpmOf c.input ∧ own = s.lpm.units k.v6 k.len ∧ s.accepts 45 c ∧
    s.destPortOk (c.param % 1024) = false) ∧
  (∃ (s : State) (c : CmdIn) (k : LpmEntry) (own : List LpmUnit), k = lpmOf c.input ∧ own = s.lpm.units k.v6 k.len ∧ s.accepts 45 c ∧
    s.destPortOk (c.param % 1024) = true ∧ s.routineOf RoutineKind.lpmFlush c = none ∧ s.otherRuns RoutineKind.lpmFlush c = true) ∧
  (∃ (s : State) (c : CmdIn) (k : LpmEntry) (own : List LpmUnit), k = lpmOf c.input ∧ own = s.lpm.units k.v6 k.len ∧ ∃ n < 162, s.running
    = true ∧ s.carried (RoutineKind.lpmMove n) none = false) :=
  ⟨⟨p8, (cmd 0 0 (lk 0 8 [10, 0, 0, 0] 0 8)), _, _, rfl, rfl, _, rfl, accepts_of (by decide +kernel), by decide +kernel⟩,
   ⟨p8, (cmd 0 0 (lk 0 8 [10, 0, 0, 0] 0 0)), _, _, rfl, rfl, _, rfl, accepts_of (by decide +kernel), by decide +kernel⟩,
   ⟨state7, (cmd 0 0 (lk 0 8 [10, 0, 0, 0] 0 0)), _, _, rfl, rfl, _, rfl, accepts_of (by decide +kernel), by decide +kernel, _, rfl,
     by decide +kernel⟩,
   ⟨state1, (cmd 0 0 (lk 0 8 [10, 0, 0, 0] 0 0)), _, _, rfl, rfl, _, rfl, accepts_of (by decide +kernel), by decide +kernel, _, rfl,
     by decide +kernel⟩,
   ⟨p8, (cmd 0 0 (lk 0 8 [10, 0, 0, 0] 0 8)), _, _, rfl, rfl, accepts_of (by decide +kernel), by decide +kernel⟩,
   ⟨p8, (cmd 0 100 []), _, _, rfl, rfl, accepts_of (by decide +kernel), by decide +kernel⟩,
   ⟨state5, (cmd 0 8 []), _, _, rfl, rfl, accepts_of (by decide +kernel), by decide +kernel⟩,
   ⟨state4, (cmd 0 0 (lk 0 8 [10, 0, 0, 0] 0 8)), _, _, rfl, rfl, 0, by decide +kernel⟩⟩

end Lpm

namespace LpmFull

def pfx : LpmEntry := ⟨false, 8, 0x0A000000, 0, 8, 0, false⟩

/-- A store whose units are all those of one group. -/
def withUnits (l : List LpmUnit) : State := { p8 with lpm := ⟨[], [(8, l)], 0⟩ }

theorem withUnits_lpm (l : List LpmUnit) : (withUnits l).lpm = ⟨[], [(8, l)], 0⟩ := rfl

def fulls : State := withUnits (List.replicate 131072 [some pfx])

theorem fulls_lpm : fulls.lpm = ⟨[], [(8, List.replicate 131072 [some pfx])], 0⟩ := withUnits_lpm _

def other : CmdIn := cmd 0 0 (lk 0 8 [11, 0, 0, 0] 0 8)

theorem other_v6 : (lpmOf other.input).v6 = false := by decide +kernel

theorem other_len : (lpmOf other.input).len = 8 := by decide +kernel

theorem witness_LpmCommandsKeepTheStore_also :
  ∃ (s : State) (c : CmdIn) (k : LpmEntry) (own : List LpmUnit), k = lpmOf c.input ∧ own = s.lpm.units k.v6 k.len ∧ (∀ e ∈ s.lpm.entries,
    e.bad = false) ∧ s.acceptsLong 40 c ∧ ∃ (moved : Nat) (met : Bool), s.movesMade c = (moved, met) ∧ s.lpmEntryOk c.input = true ∧
    List.find? (sameKey k) s.lpm.entries = none ∧ met = false ∧ groupFree own = false ∧ gainUnit s.lpm k.v6 k.len false = none :=
  by
  have a : fulls.lpm.entries = List.replicate 131072 pfx := entries_full fulls_lpm
  have o : List.replicate 131072 [some pfx] = fulls.lpm.units (lpmOf other.input).v6 (lpmOf other.input).len := by
    rw [other_v6, other_len, fulls_lpm]
    rfl
  refine ⟨fulls, other, _, _, rfl, o, ?_, acceptsLong_of (by decide +kernel), 0, false, by decide +kernel, by decide +kernel, ?_, rfl,
    groupFree_full, ?_⟩
  · rw [a]
    exact fun e h => (List.mem_replicate.1 h).2 ▸ rfl
  · rw [a]
    exact List.find?_eq_none.2 fun e h => by rw [(List.mem_replicate.1 h).2]; decide +kernel
  · rw [other_v6, other_len]
    exact gain_full fulls_lpm List.length_replicate

end LpmFull

namespace Sessions

def C (l : SMap Context) (s : State) : State := {s with flow := {s.flow with contexts := l}}

def k1 : List Byte := [1, 6] ++ zeros 46

def set1 : List Byte := k1 ++ leBytes 4 0x10005 ++ [0x83] ++ zeros 11

def state1 : State := up.on Reg.DRAM_CTRL_SERVICE

def state2 : State := C [(0, ctx k1), (1, ctx (zeros 48))] (up.on Reg.DRAM_CTRL_SERVICE)

def state5 : State := {C [(0, ctx k1)] (up.on Reg.DRAM_CTRL_SERVICE) with dram := {up.dram with errs := [(placeBurst 0 + 2, .uncorrectable)]}}

/-- Every place of a key is taken, whatever the hash. -/
def full : State := C ((((List.range 8).map fun x => 8 * (sessionBuckets (set1.take 48)).1 + x) ++
  (List.range 8).map fun x => 8 * (sessionBuckets (set1.take 48)).2 + x).map fun i => (i, ctx (9 :: zeros 47))) (up.on Reg.DRAM_CTRL_SERVICE)

theorem witness_ContextCommandsKeepTheSessions :
  (∃ (s : State) (c : CmdIn) (k : List Byte) (moved : Keys), (∀ (pc : Nat), s.pcFailed pc = false) ∧ k = List.take 48 c.input ∧ moved =
    regsOf ["FLOW_USED", "DRAM_STATUS", "DRAM_ROW_GUARD_CNT", "PAIR_MIRROR_LEVEL"] ∧ s.dram.errs = [] ∧ s.flow.bad = [] ∧ s.accepts 48 c ∧
    settingOk c.input = true ∧ (s.contextOf k).isSome = true) ∧
  (∃ (s : State) (c : CmdIn) (k : List Byte) (moved : Keys), (∀ (pc : Nat), s.pcFailed pc = false) ∧ k = List.take 48 c.input ∧ moved =
    regsOf ["FLOW_USED", "DRAM_STATUS", "DRAM_ROW_GUARD_CNT", "PAIR_MIRROR_LEVEL"] ∧ s.dram.errs = [] ∧ s.flow.bad = [] ∧ s.accepts 48 c ∧
    ∃ (places : List Nat), settingOk c.input = true ∧ s.contextOf k = none ∧ places = List.map (fun (x : Nat) => 8 * (sessionBuckets k).1
    + x) (List.range 8) ++ List.map (fun (x : Nat) => 8 * (sessionBuckets k).2 + x) (List.range 8) ∧ List.find? s.indexFree places = none) ∧
  (∃ (s : State) (c : CmdIn) (k : List Byte) (moved : Keys), (∀ (pc : Nat), s.pcFailed pc = false) ∧ k = List.take 48 c.input ∧ moved =
    regsOf ["FLOW_USED", "DRAM_STATUS", "DRAM_ROW_GUARD_CNT", "PAIR_MIRROR_LEVEL"] ∧ s.dram.errs = [] ∧ s.flow.bad = [] ∧ s.accepts 48 c ∧
    ∃ (places : List Nat), settingOk c.input = true ∧ s.contextOf k = none ∧ places = List.map (fun (x : Nat) => 8 * (sessionBuckets k).1
    + x) (List.range 8) ++ List.map (fun (x : Nat) => 8 * (sessionBuckets k).2 + x) (List.range 8) ∧ ∃ (i : Nat), List.find? s.indexFree
    places = some i) ∧
  (∃ (s : State) (c : CmdIn) (k : List Byte) (moved : Keys), (∀ (pc : Nat), s.pcFailed pc = false) ∧ k = List.take 48 c.input ∧ moved =
    regsOf ["FLOW_USED", "DRAM_STATUS", "DRAM_ROW_GUARD_CNT", "PAIR_MIRROR_LEVEL"] ∧ s.dram.errs = [] ∧ s.flow.bad = [] ∧ s.accepts 49 c ∧
    settingOk c.input = true ∧ s.contextOf k = none) ∧
  (∃ (s : State) (c : CmdIn) (k : List Byte) (moved : Keys), (∀ (pc : Nat), s.pcFailed pc = false) ∧ k = List.take 48 c.input ∧ moved =
    regsOf ["FLOW_USED", "DRAM_STATUS", "DRAM_ROW_GUARD_CNT", "PAIR_MIRROR_LEVEL"] ∧ s.dram.errs = [] ∧ s.flow.bad = [] ∧ s.accepts 49 c ∧
    settingOk c.input = true ∧ ∃ (i : Nat) (x : Context), s.contextOf k = some (i, x)) ∧
  (∃ (s : State) (c : CmdIn) (k : List Byte) (moved : Keys), (∀ (pc : Nat), s.pcFailed pc = false) ∧ k = List.take 48 c.input ∧ moved =
    regsOf ["FLOW_USED", "DRAM_STATUS", "DRAM_ROW_GUARD_CNT", "PAIR_MIRROR_LEVEL"] ∧ s.dram.errs = [] ∧ s.flow.bad = [] ∧ sessionKeyOk
    c.input = true ∧ s.accepts 50 c ∧ ∃ (i : Nat) (x : Context), s.contextOf c.input = some (i, x)) ∧
  (∃ (s : State) (c : CmdIn) (k : List Byte) (moved : Keys), (∀ (pc : Nat), s.pcFailed pc = false) ∧ k = List.take 48 c.input ∧ moved =
    regsOf ["FLOW_USED", "DRAM_STATUS", "DRAM_ROW_GUARD_CNT", "PAIR_MIRROR_LEVEL"] ∧ s.dram.errs = [] ∧ s.flow.bad = [] ∧ sessionKeyOk
    c.input = true ∧ s.accepts 51 c ∧ ∃ (i : Nat) (x : Context), s.contextOf c.input = some (i, x)) ∧
  (∃ (s : State) (c : CmdIn) (k : List Byte) (moved : Keys), (∀ (pc : Nat), s.pcFailed pc = false) ∧ k = List.take 48 c.input ∧ moved =
    regsOf ["FLOW_USED", "DRAM_STATUS", "DRAM_ROW_GUARD_CNT", "PAIR_MIRROR_LEVEL"] ∧ s.dram.errs = [] ∧ s.flow.bad = [] ∧ sessionKeyOk
    c.input = true ∧ s.accepts 52 c ∧ ∃ (i : Nat) (x : Context), s.contextOf c.input = some (i, x)) :=
  ⟨⟨state2, (cmd 0 0 set1), _, _, pcFailed_of (by decide +kernel), rfl, rfl, by decide +kernel, by decide +kernel, accepts_of
     (by decide +kernel), by decide +kernel⟩,
   ⟨full, (cmd 0 0 set1), _, _, pcFailed_of (by decide +kernel), rfl, rfl, by decide +kernel, by decide +kernel, accepts_of
     (by decide +kernel), _, by decide +kernel, by decide +kernel, rfl, none_free rfl⟩,
   ⟨state1, (cmd 0 0 set1), _, _, pcFailed_of (by decide +kernel), rfl, rfl, by decide +kernel, by decide +kernel, accepts_of
     (by decide +kernel), _, by decide +kernel, by decide +kernel, rfl, _, rfl⟩,
   ⟨state1, (cmd 0 0 set1), _, _, pcFailed_of (by decide +kernel), rfl, rfl, by decide +kernel, by decide +kernel, accepts_of
     (by decide +kernel), by decide +kernel⟩,
   ⟨state2, (cmd 0 0 set1), _, _, pcFailed_of (by decide +kernel), rfl, rfl, by decide +kernel, by decide +kernel, accepts_of
     (by decide +kernel), by decide +kernel, _, _, rfl⟩,
   ⟨state2, (cmd 0 0 k1), _, _, pcFailed_of (by decide +kernel), rfl, rfl, by decide +kernel, by decide +kernel, by decide +kernel,
     accepts_of (by decide +kernel), _, _, rfl⟩,
   ⟨state2, (cmd 0 0 k1), _, _, pcFailed_of (by decide +kernel), rfl, rfl, by decide +kernel, by decide +kernel, by decide +kernel,
     accepts_of (by decide +kernel), _, _, rfl⟩,
   ⟨state2, (cmd 0 0 k1), _, _, pcFailed_of (by decide +kernel), rfl, rfl, by decide +kernel, by decide +kernel, by decide +kernel,
     accepts_of (by decide +kernel), _, _, rfl⟩⟩

theorem witness_ContextCommandsKeepTheSessions_2 :
  (∃ (s : State) (c : CmdIn) (k : List Byte) (moved : Keys), (∀ (pc : Nat), s.pcFailed pc = false) ∧ k = List.take 48 c.input ∧ moved =
    regsOf ["FLOW_USED", "DRAM_STATUS", "DRAM_ROW_GUARD_CNT", "PAIR_MIRROR_LEVEL"] ∧ s.dram.errs = [] ∧ s.flow.bad = [] ∧ s.accepts 53 c ∧
    ∃ (n : Nat) (later : List (Nat × Context)), n = bits c.param 24 4 ∧ 1 ≤ n ∧ n ≤ 8 ∧ (bitOf c.flags 0 = true → bits c.param 0 21 = 0) ∧
    mapSorted s.flow.contexts = true ∧ later = List.filter (fun (e : Nat × Context) => bitOf c.flags 0 || decide (bits c.param 0 21 <
    e.1)) s.flow.contexts) ∧
  (∃ (s : State) (c : CmdIn) (k : List Byte) (moved : Keys), (∀ (pc : Nat), s.pcFailed pc = false) ∧ k = List.take 48 c.input ∧ moved =
    regsOf ["FLOW_USED", "DRAM_STATUS", "DRAM_ROW_GUARD_CNT", "PAIR_MIRROR_LEVEL"] ∧ s.accepts 48 c ∧ settingOk c.input = false) ∧
  (∃ (s : State) (c : CmdIn) (k : List Byte) (moved : Keys), (∀ (pc : Nat), s.pcFailed pc = false) ∧ k = List.take 48 c.input ∧ moved =
    regsOf ["FLOW_USED", "DRAM_STATUS", "DRAM_ROW_GUARD_CNT", "PAIR_MIRROR_LEVEL"] ∧ s.accepts 49 c ∧ settingOk c.input = false) ∧
  (∃ (s : State) (c : CmdIn) (k : List Byte) (moved : Keys), (∀ (pc : Nat), s.pcFailed pc = false) ∧ k = List.take 48 c.input ∧ moved =
    regsOf ["FLOW_USED", "DRAM_STATUS", "DRAM_ROW_GUARD_CNT", "PAIR_MIRROR_LEVEL"] ∧ sessionKeyOk c.input = false ∧ s.accepts 50 c) ∧
  (∃ (s : State) (c : CmdIn) (k : List Byte) (moved : Keys), (∀ (pc : Nat), s.pcFailed pc = false) ∧ k = List.take 48 c.input ∧ moved =
    regsOf ["FLOW_USED", "DRAM_STATUS", "DRAM_ROW_GUARD_CNT", "PAIR_MIRROR_LEVEL"] ∧ sessionKeyOk c.input = false ∧ s.accepts 51 c) ∧
  (∃ (s : State) (c : CmdIn) (k : List Byte) (moved : Keys), (∀ (pc : Nat), s.pcFailed pc = false) ∧ k = List.take 48 c.input ∧ moved =
    regsOf ["FLOW_USED", "DRAM_STATUS", "DRAM_ROW_GUARD_CNT", "PAIR_MIRROR_LEVEL"] ∧ sessionKeyOk c.input = false ∧ s.accepts 52 c) ∧
  (∃ (s : State) (c : CmdIn) (k : List Byte) (moved : Keys), (∀ (pc : Nat), s.pcFailed pc = false) ∧ k = List.take 48 c.input ∧ moved =
    regsOf ["FLOW_USED", "DRAM_STATUS", "DRAM_ROW_GUARD_CNT", "PAIR_MIRROR_LEVEL"] ∧ s.accepts 53 c ∧ (bits c.param 24 4 < 1 ∨ 8 < bits
    c.param 24 4)) ∧
  (∃ (s : State) (c : CmdIn) (k : List Byte) (moved : Keys), (∀ (pc : Nat), s.pcFailed pc = false) ∧ k = List.take 48 c.input ∧ moved =
    regsOf ["FLOW_USED", "DRAM_STATUS", "DRAM_ROW_GUARD_CNT", "PAIR_MIRROR_LEVEL"] ∧ s.accepts 50 c ∧ sessionKeyOk c.input = true ∧ ∃ (i :
    Nat) (x : Context), s.contextOf c.input = some (i, x) ∧ s.cached i = false ∧ s.dram.writes = [] ∧ s.dram.errs = [(placeBurst i + 2,
    EccOutcome.uncorrectable)] ∧ mapFind s.flow.contexts i = some x) :=
  ⟨⟨state1, (cmd 1 (2 ^ 24) []), _, _, pcFailed_of (by decide +kernel), rfl, rfl, by decide +kernel, by decide +kernel, accepts_of
     (by decide +kernel), _, _, rfl, by decide +kernel, by decide +kernel, by decide +kernel, by decide +kernel, rfl⟩,
   ⟨state1, (cmd 0 0 (3 :: set1.tail)), _, _, pcFailed_of (by decide +kernel), rfl, rfl, accepts_of (by decide +kernel),
     by decide +kernel⟩,
   ⟨state1, (cmd 0 0 (3 :: set1.tail)), _, _, pcFailed_of (by decide +kernel), rfl, rfl, accepts_of (by decide +kernel),
     by decide +kernel⟩,
   ⟨state1, (cmd 0 0 (9 :: k1.tail)), _, _, pcFailed_of (by decide +kernel), rfl, rfl, by decide +kernel, accepts_of (by decide +kernel)⟩,
   ⟨state1, (cmd 0 0 (9 :: k1.tail)), _, _, pcFailed_of (by decide +kernel), rfl, rfl, by decide +kernel, accepts_of (by decide +kernel)⟩,
   ⟨state1, (cmd 0 0 (9 :: k1.tail)), _, _, pcFailed_of (by decide +kernel), rfl, rfl, by decide +kernel, accepts_of (by decide +kernel)⟩,
   ⟨state1, (cmd 0 0 []), _, _, pcFailed_of (by decide +kernel), rfl, rfl, accepts_of (by decide +kernel), by decide +kernel⟩,
   ⟨state5, (cmd 0 0 k1), _, _, pcFailed_of (by decide +kernel), rfl, rfl, accepts_of (by decide +kernel), by decide +kernel, _, _, rfl,
     by decide +kernel⟩⟩

end Sessions

namespace Buffers

def B (l : SMap Bead) (s : State) : State := {s with buf := {s.buf with beads := l}}

def wd (k : Option (CmdIn × Nat)) (l : List Nat) (s : State) : State := {s with buf := {s.buf with withdrawing := k, withdrawn := l}}

def roomy : State := (List.range 16).foldl (fun s i => s.set (Reg.BUF_POOL_SIZE_SIZE i) 1000) up8

def rqs : List BeadRequest := [⟨0,8⟩, ⟨64,1024⟩]

def state1 : State := B [(5, ⟨2, .pool 3, 8, true⟩), (6, ⟨1, .pool 3, 8, false⟩)] up8

def state2 : State := wd none [2] up8

def state3 : State := B [(5, ⟨2, .pool 3, 8, true⟩)] roomy

def state4 : State := wd (some (cmd 0 2 [], 5)) [2] up8

def state7 : State := wd (some (cmd 0 0 [], 5)) [2] roomy

def state9 : State := wd (some (cmd 0 2 [], 5)) [2] (B [(5, ⟨2, .pool 3, 8, true⟩)] up8)

def state10 : State := {up8 with path := {path0 with frames := [(0, {fr b64 with stage := .forwarded, copies := 1, plan := [⟨.dest, 9, 3, none⟩], mark := {mark0 with cls := 3}})], nextFrame := 1}, buf := oneBead} |>.set (Reg.BUF_CLASS_CFG_POOL 3) 3

def sg (x : Copy) (fr : Frame) (l : List Nat) (bl : List (List Nat × List Nat)) (s : State) : State := {s with path := {path0 with frames := [(0, fr)], nextFrame := 1, copies := [(0, x), (1, x)], nextCopy := 2, rods := [(131, [0,1])], segments := [(131, ⟨l, true⟩)]}, buf := poolBead}

def en (s : State) : State := s.on Reg.BUF_SPILL_CTRL_ENABLE

def spd : Copy := {cp 3 true with place := .spilled}

def stk (s : State) : State := {withCopy (cp 3 true) s with reck := {idleReck with waiting := [{bootRoutine with kind := .stuckReclaim 131}]}}

def fl (s : State) : State := (withCopy (cp 3 true) s).modPort 8 fun x => {x with flush := .waiting}

def state11 : State := {en (sg (cp 3 true) fwd [0] [] up8) with cycle := 10^12} |>.set Reg.BUF_SPILL_CTRL_SIZE_GIB 1

def state12 : State := en (sg {spd with spillAt := [0]} {fwd with beads := []} [0] [] up8)

def state14 : State := {fl up8 with reck := {idleReck with engines := [(0, {bootRoutine with kind := .portFlush 8})]}}

def state15 : State := en (sg (cp 3 true) fwd [0] [] up8)

def state18 : State := stk up8

def state20 : State := fl up8

def state22 : State := {p8 with mcast := ⟨[(4, (1, List.replicate 524288 8))], []⟩}

theorem witness_BeadsAreGrantedFreedAndWithdrawn :
  (∃ (s : State), s.running = true ∧ ∃ (pool : Nat) (l : List BeadRequest) (fr : List BeadFree), pool < 16 ∧ requestsOk l = true ∧ l ≠ []) ∧
  (∃ (s : State), s.running = true ∧ ∃ (pool : Nat) (r : BeadRequest) (f : Nat) (first : Bool), pool < 16 ∧ r.requester < 65 ∧ r.owner <
    1025 ∧ s.requestOf pool r.owner = some (f, first)) ∧
  (∃ (s : State), s.running = true ∧ ∃ (pool : Nat) (r : BeadRequest), pool < 16 ∧ r.requester < 65 ∧ r.owner < 1025 ∧ s.requestOf pool
    r.owner = none ∧ ∃ (shared : Bool) (b : Nat), s.grantPart pool r.owner = some shared ∧ s.freeBead = some b) ∧
  (∃ (s : State), s.running = true ∧ ∃ (pool : Nat) (r : BeadRequest), pool < 16 ∧ r.requester < 65 ∧ r.owner < 1025 ∧ s.requestOf pool
    r.owner = none ∧ (s.grantPart pool r.owner = none ∨ s.freeBead = none)) ∧
  (∃ (s : State), s.running = true ∧ ∃ (b : Nat) (acc : BeadAccount) (agent : Nat), b < 524288 ∧ ∃ (d : Bead), s.freeFault b acc = none ∧
    mapFind s.buf.beads b = some d) ∧
  (∃ (s : State), s.running = true ∧ ∃ (b : Nat) (acc : BeadAccount) (agent : Nat), b < 524288 ∧ ∃ (foreign : Bool), s.freeFault b acc =
    some foreign) ∧
  (∃ (s : State), s.running = true ∧ ∃ (c : CmdIn) (free : Bool), free = s.blockFree (s.get Reg.BUF_WITHDRAWN_NEXT) ∧ s.accepts 56 c ∧
    s.buf.withdrawing = none ∧ s.withdrawFull = true) :=
  ⟨⟨up8, by decide +kernel, 3, rqs, [], by decide +kernel⟩,
   ⟨state10, by decide +kernel, 3, { requester := 0, owner := 8 }, _, _, by decide +kernel, by decide +kernel, by decide +kernel, rfl⟩,
   ⟨roomy, by decide +kernel, 3, { requester := 0, owner := 8 }, by decide +kernel, by decide +kernel, by decide +kernel,
     by decide +kernel, _, _, rfl, rfl⟩,
   ⟨up8, by decide +kernel, 3, { requester := 0, owner := 8 }, by decide +kernel⟩,
   ⟨state1, by decide +kernel, 5, (BeadAccount.pool 3), 3, by decide +kernel, _, by decide +kernel, rfl⟩,
   ⟨up8, by decide +kernel, 0, (BeadAccount.pool 3), 3, by decide +kernel, _, rfl⟩,
   ⟨up8, by decide +kernel, (cmd 0 0 []), _, rfl, accepts_of (by decide +kernel), by decide +kernel⟩⟩

theorem witness_BeadsAreGrantedFreedAndWithdrawn_2 :
  (∃ (s : State), s.running = true ∧ ∃ (c : CmdIn) (free : Bool), free = s.blockFree (s.get Reg.BUF_WITHDRAWN_NEXT) ∧ s.acceptsLong 56 c ∧
    s.buf.withdrawing = none ∧ s.withdrawFull = false ∧ free = true) ∧
  (∃ (s : State), s.running = true ∧ ∃ (c : CmdIn) (free : Bool), free = s.blockFree (s.get Reg.BUF_WITHDRAWN_NEXT) ∧ s.acceptsLong 56 c ∧
    s.buf.withdrawing = none ∧ s.withdrawFull = false ∧ free = false) ∧
  (∃ (s : State), s.running = true ∧ ∃ (c : CmdIn) (free : Bool), free = s.blockFree (s.get Reg.BUF_WITHDRAWN_NEXT) ∧ ∃ (k : Nat),
    s.buf.withdrawing = some (c, k) ∧ s.accepts 56 c ∧ free = true) ∧
  (∃ (s : State), s.running = true ∧ ∃ (c : CmdIn) (free : Bool), free = s.blockFree (s.get Reg.BUF_WITHDRAWN_NEXT) ∧ ∃ (k : Nat),
    s.buf.withdrawing = some (c, k) ∧ s.pending = [] ∧ free = true) ∧
  (∃ (s : State), s.running = true ∧ ∃ (c : CmdIn) (free : Bool), free = s.blockFree (s.get Reg.BUF_WITHDRAWN_NEXT) ∧ ∃ (k : Nat),
    s.buf.withdrawing = some (c, k) ∧ free = false ∧ k + msCycles ≤ s.cycle) ∧
  (∃ (s : State), s.running = true ∧ ∃ (c : CmdIn) (free : Bool), free = s.blockFree (s.get Reg.BUF_WITHDRAWN_NEXT) ∧ ∃ (k : Nat),
    s.buf.withdrawing = some (c, k) ∧ (free = true ∨ s.cycle < k + msCycles)) ∧
  (∃ (s : State), s.running = true ∧ ∃ (c : CmdIn), s.accepts 57 c ∧ s.buf.withdrawn.contains c.param = false) ∧
  (∃ (s : State), s.running = true ∧ ∃ (c : CmdIn), s.accepts 57 c ∧ s.buf.withdrawn.contains c.param = true) :=
  ⟨⟨roomy, by decide +kernel, (cmd 0 0 []), _, rfl, acceptsLong_of (by decide +kernel), by decide +kernel⟩,
   ⟨state3, by decide +kernel, (cmd 0 0 []), _, rfl, acceptsLong_of (by decide +kernel), by decide +kernel⟩,
   ⟨state7, by decide +kernel, (cmd 0 0 []), _, rfl, _, rfl, accepts_of (by decide +kernel), by decide +kernel⟩,
   ⟨state4, by decide +kernel, (cmd 0 2 []), _, rfl, _, rfl, by decide +kernel⟩,
   ⟨state9, by decide +kernel, (cmd 0 2 []), _, rfl, _, rfl, by decide +kernel⟩,
   ⟨state4, by decide +kernel, (cmd 0 2 []), _, rfl, _, rfl, by decide +kernel⟩,
   ⟨up8, by decide +kernel, (cmd 0 2 []), accepts_of (by decide +kernel), by decide +kernel⟩,
   ⟨state2, by decide +kernel, (cmd 0 2 []), accepts_of (by decide +kernel), by decide +kernel⟩⟩

theorem witness_SpilledFlushedAndStuckCopiesAndGroups :
  (∃ (s : State), s.running = true ∧ ∃ (q : Nat) (g : Segment) (c : Nat) (x : Copy) (f : Frame), q < 16384 ∧ mapFind s.path.segments q =
    some g ∧ s.copy c = some x ∧ s.frame x.frame = some f ∧ List.find? (fun (c :
    Nat) => match s.copy c with | some x => x.place == SpillPlace.onDie && (match s.frame x.frame with | some f => f.ended | none => false) | none => false)
    g.copies = some c ∧ s.bit Reg.BUF_SPILL_CTRL_ENABLE = true ∧ s.dramServes = true ∧ Option.any (fun (x : PickSt) => x.copy == c)
    (s.port x.egress).picked = false ∧ ∃ (n : Nat), n = ceilDiv f.size 256 ∧ s.get Reg.BUF_SPILL_USED_USED + n ≤ s.spillSize ∧ s.spillSize
    < 2 ^ 28 ∧ s.spillTaken n = false) ∧
  (∃ (s : State), s.running = true ∧ ∃ (q : Nat) (g : Segment) (c : Nat) (x : Copy) (f : Frame), q < 16384 ∧ mapFind s.path.segments q =
    some g ∧ s.copy c = some x ∧ s.frame x.frame = some f ∧ List.find? (fun (c :
    Nat) => match s.copy c with | some x => x.place == SpillPlace.onDie && (match s.frame x.frame with | some f => f.ended | none => false) | none => false)
    g.copies = some c ∧ s.bit Reg.BUF_SPILL_CTRL_ENABLE = true ∧ s.dramServes = true ∧ Option.any (fun (x : PickSt) => x.copy == c)
    (s.port x.egress).picked = false ∧ ∃ (n : Nat), n = ceilDiv f.size 256 ∧ (s.spillSize < s.get Reg.BUF_SPILL_USED_USED + n ∨
    s.spillTaken n = true)) ∧
  (∃ (s : State), s.running = true ∧ ∃ (q : Nat) (g : Segment) (c : Nat) (x : Copy) (f : Frame), q < 16384 ∧ mapFind s.path.segments q =
    some g ∧ s.copy c = some x ∧ s.frame x.frame = some f ∧ ∃ (o : ReadOutcome) (beads : List Nat) (u : State), List.find? (fun (c :
    Nat) => match s.copy c with | some x => x.place == SpillPlace.spilled | none => false) g.copies = some c ∧ s.returnDue q c = true ∧
    s.usedCopies < 1048576 ∧ s.dramServes = true ∧ s.spillTaken x.spillAt.length = false ∧ takeReturns x.spillAt.length [] s = some
    (beads, u)) ∧
  (∃ (s : State), s.running = true ∧ ∃ (q : Nat) (c : Nat) (l : List Nat), mapFind s.path.rods q = some (c :: l) ∧ s.portUp (q / 16) =
    true ∧ s.isStuck c = true) ∧
  (∃ (s : State), s.running = true ∧ ∃ q < 16384, s.onEngine (RoutineKind.stuckReclaim q) = false) ∧
  (∃ (s : State), s.running = true ∧ ∃ q < 16384, s.onEngine (RoutineKind.stuckReclaim q) = true ∧ s.funcUp Func.buf = true ∧ s.funcUp
    Func.tm = true) :=
  ⟨⟨state11, by decide +kernel, 131, _, 0, _, _, by decide +kernel, rfl, rfl, rfl, by decide +kernel, by decide +kernel, by decide +kernel,
     by decide +kernel, _, rfl, by decide +kernel⟩,
   ⟨state15, by decide +kernel, 131, _, 0, _, _, by decide +kernel, rfl, rfl, rfl, by decide +kernel, by decide +kernel, by decide +kernel,
     by decide +kernel, _, rfl, by decide +kernel⟩,
   ⟨state12, by decide +kernel, 131, _, 0, _, _, by decide +kernel, rfl, rfl, rfl,
     { repeats := 0, severity := false, ecc := EccOutcome.clean, burst := 0 }, _, _, by decide +kernel, by decide +kernel,
     by decide +kernel, by decide +kernel, by decide +kernel, rfl⟩,
   ⟨state11, by decide +kernel, 131, _, _, rfl, by decide +kernel⟩,
   ⟨state11, by decide +kernel, 131, by decide +kernel⟩,
   ⟨state18, by decide +kernel, 131, by decide +kernel⟩⟩

theorem witness_SpilledFlushedAndStuckCopiesAndGroups_2 :
  (∃ (s : State), s.running = true ∧ ∃ p < 1024, s.funcUp Func.buf = true ∧ s.funcUp Func.tm = true ∧ (s.port p).flush = FlushSt.waiting ∧
    s.onEngine (RoutineKind.portFlush p) = false) ∧
  (∃ (s : State), s.running = true ∧ ∃ p < 1024, s.funcUp Func.buf = true ∧ s.funcUp Func.tm = true ∧ (s.port p).flush = FlushSt.waiting ∧
    s.onEngine (RoutineKind.portFlush p) = true) ∧
  (∃ (s : State), s.running = true ∧ ∃ (c : CmdIn) (l : List Nat), l = memberList c.input ∧ s.accepts 58 c ∧ s.membersOk l = false) ∧
  (∃ (s : State), s.running = true ∧ ∃ (c : CmdIn) (l : List Nat), l = memberList c.input ∧ s.accepts 58 c ∧ s.membersOk l = true ∧ 524288
    < s.mcast.used + l.length) ∧
  (∃ (s : State), s.running = true ∧ ∃ (c : CmdIn) (l : List Nat), l = memberList c.input ∧ s.accepts 58 c ∧ s.membersOk l = true ∧
    s.mcast.used + l.length ≤ 524288) ∧
  (∃ (s : State), s.running = true ∧ ∃ (c : CmdIn) (l : List Nat), l = memberList c.input ∧ s.accepts 59 c) :=
  ⟨⟨state20, by decide +kernel, 8, by decide +kernel⟩,
   ⟨state14, by decide +kernel, 8, by decide +kernel⟩,
   ⟨state11, by decide +kernel, (cmd 0 4 (leBytes 2 100)), _, rfl, accepts_of (by decide +kernel), by decide +kernel⟩,
   ⟨state22, by decide +kernel, (cmd 0 4 (leBytes 2 8)), _, rfl, accepts_of (by decide +kernel), by decide +kernel,
     by rw [show state22.mcast.used = 524288 from used_full rfl]; decide +kernel⟩,
   ⟨state11, by decide +kernel, (cmd 0 4 (leBytes 2 8)), _, rfl, accepts_of (by decide +kernel), by decide +kernel⟩,
   ⟨state11, by decide +kernel, (cmd 0 4 []), _, rfl, accepts_of (by decide +kernel)⟩⟩

end Buffers

namespace Traffic

def pr (x : Frame) : Frame := {x with mark := {x.mark with policer := some 5}, stage := .forwarded}

def two (a b : Frame) (s : State) : State := {s with path := {path0 with frames := [(0, a), (1, b)], nextFrame := 2}}

def P (p : Policer) (s : State) : State := {s with tm := {s.tm with policers := [(5, p)]}}

def pen (lv : Int) (aw : Bool) : Policer := ⟨⟨true, 1000, 5000, lv, 10^12 - 5⟩, aw, 0xFFFFFFFF, 0, [64, 70], 64⟩

def red (x : Frame) : Frame := {x with mark := {x.mark with colour := 2}}

def pset (fl a b : Nat) : List Byte := [5,0,BitVec.ofNat 8 fl,0] ++ leBytes 4 a ++ leBytes 4 b ++ zeros 20

def sset (n fl a b : Nat) : List Byte := leBytes 2 n ++ [BitVec.ofNat 8 fl,0] ++ leBytes 4 a ++ leBytes 4 b ++ zeros 4

def state1 : State := {up8 with regs := (up8.set Reg.SYS_FUNC_STATUS_STATE 0xFFFFFF).regs}

def state2 : State := P (pen 5 false) up8

def state3 : State := P (pen (-10^15) false) (two (pr fwd) (pr fwd) up8)

def state4 : State := P (pen (10^15) true) (two (red (pr fwd)) fwd up8)

def G (p : GateSt) (s : State) : State := {s with tm := {s.tm with gates := [(8, p)]}}

def gl (st : Nat) : GateList := ⟨[(0xFF, 1000), (0x1, 500)], 1500, st, true⟩

def com (n base cyc en : Nat) : List Byte := leBytes 2 8 ++ leBytes 2 n ++ [BitVec.ofNat 8 en,0,0,0] ++ leBytes 16 base ++ leBytes 4 cyc ++ zeros 4

def state7 : State := G ⟨[(0, (3,4))], [(0,(1,1000))], some (gl 5), some (gl 7)⟩ (fol 0 up8)

def state8 : State := G ⟨[], [], none, some {gl 7 with enable := false}⟩ (fol 0 up8)

def state9 : State := G ⟨[(0, (3,4))], [(0,(1,1000))], some ⟨[], 0, 5, true⟩, none⟩ up8

def state10 : State := G ⟨[(0, (3,4))], [(0,(1,1000))], none, some (gl (10^50))⟩ (fol 0 up8)

def value12 : CmdIn := cmd 0 8 (leBytes 2 3 ++ zeros 2 ++ leBytes 4 77 ++ leBytes 2 5 ++ zeros 2 ++ leBytes 4 99)

def value13 : CmdIn := cmd 0 (8 + 65536*255) (leBytes 2 3 ++ zeros 2 ++ leBytes 4 77 ++ leBytes 2 5 ++ zeros 2 ++ leBytes 4 99)

theorem witness_PolicersAndShapersHoldTheirBuckets :
  (∃ (s : State), s.running = true ∧ ∃ n < 65536, s.funcUp Func.tm = false) ∧
  (∃ (s : State), s.running = true ∧ ∃ n < 65536, s.funcUp Func.tm = true ∧ s.policerRequests n = []) ∧
  (∃ (s : State), s.running = true ∧ ∃ n < 65536, s.funcUp Func.tm = true ∧ s.policerRequests n ≠ []) ∧
  (∃ (s : State), s.running = true ∧ ∃ n < 65536, ∃ (f : Nat) (x : Frame), s.funcUp Func.tm = true ∧ s.policerRequests n = [f] ∧ s.frame f
    = some x) ∧
  (∃ (s : State), s.running = true ∧ ∃ (c : CmdIn) (n : Nat) (b : Bool), n = leAt c.input 0 2 ∧ b = bitOf (leAt c.input 2 1) 0 ∧ s.accepts
    64 c ∧ policerOk c.input = false) :=
  ⟨⟨state1, by decide +kernel, 5, by decide +kernel⟩,
   ⟨state2, by decide +kernel, 5, by decide +kernel⟩,
   ⟨state3, by decide +kernel, 5, by decide +kernel⟩,
   ⟨state4, by decide +kernel, 5, by decide +kernel, _, _, by decide +kernel, rfl, rfl⟩,
   ⟨state2, by decide +kernel, (cmd 0 0 (pset 1 400000001 2000)), _, _, rfl, rfl, accepts_of (by decide +kernel), by decide +kernel⟩⟩

theorem witness_PolicersAndShapersHoldTheirBuckets_2 :
  (∃ (s : State), s.running = true ∧ ∃ (c : CmdIn) (n : Nat) (b : Bool), n = leAt c.input 0 2 ∧ b = bitOf (leAt c.input 2 1) 0 ∧ s.accepts
    64 c ∧ policerOk c.input = true) ∧
  (∃ (s : State), s.running = true ∧ ∃ (c : CmdIn) (n : Nat) (b : Bool), n = leAt c.input 0 2 ∧ b = bitOf (leAt c.input 2 1) 0 ∧ s.accepts
    66 c ∧ s.shaperIndexOk n = true ∧ leAt c.input 2 1 < 2 ∧ leAt c.input 3 1 = 0 ∧ leAt c.input 12 4 = 0 ∧ bucketOk b (leAt c.input 4 4)
    (leAt c.input 8 4) = true) ∧
  (∃ (s : State), s.running = true ∧ ∃ (c : CmdIn) (n : Nat) (b : Bool), n = leAt c.input 0 2 ∧ b = bitOf (leAt c.input 2 1) 0 ∧ s.accepts
    66 c ∧ s.shaperIndexOk n = false) ∧
  (∃ (s : State), s.running = true ∧ ∃ (c : CmdIn), s.accepts 65 c) ∧
  (∃ (s : State), s.running = true ∧ ∃ (c : CmdIn), s.accepts 67 c ∧ s.shaperIndexOk c.param = true) ∧
  (∃ (s : State), s.running = true ∧ ∃ (c : CmdIn), s.accepts 67 c ∧ s.shaperIndexOk c.param = false) :=
  ⟨⟨state2, by decide +kernel, (cmd 0 0 (pset 3 1000 2000)), _, _, rfl, rfl, accepts_of (by decide +kernel), by decide +kernel⟩,
   ⟨state2, by decide +kernel, (cmd 0 0 (sset 131 1 8 70)), _, _, rfl, rfl, accepts_of (by decide +kernel), by decide +kernel⟩,
   ⟨state2, by decide +kernel, (cmd 0 0 (sset 9000 1 8 70)), _, _, rfl, rfl, accepts_of (by decide +kernel), by decide +kernel⟩,
   ⟨state2, by decide +kernel, (cmd 0 5 []), accepts_of (by decide +kernel)⟩,
   ⟨state2, by decide +kernel, (cmd 0 131 []), accepts_of (by decide +kernel), by decide +kernel⟩,
   ⟨state2, by decide +kernel, (cmd 0 5 []), accepts_of (by decide +kernel), by decide +kernel⟩⟩

theorem witness_GateListsChangeOverAtTheirStartTime :
  (∃ (s : State), s.running = true ∧ ∃ (c : CmdIn) (p : Nat), p = c.param % 1024 ∧ s.accepts 68 c ∧ s.isPort p = true ∧ bits c.param 16 8
    + c.input.length / 8 ≤ 256 ∧ (∀ i < c.input.length / 8, leAt c.input (8 * i + 2) 2 = 0) ∧ (s.gate p).committed.isSome = true) ∧
  (∃ (s : State), s.running = true ∧ ∃ (c : CmdIn) (p : Nat), p = c.param % 1024 ∧ s.accepts 68 c ∧ s.isPort p = true ∧ bits c.param 16 8
    + c.input.length / 8 ≤ 256 ∧ (∀ i < c.input.length / 8, leAt c.input (8 * i + 2) 2 = 0) ∧ (s.gate p).committed = none) ∧
  (∃ (s : State), s.running = true ∧ ∃ (c : CmdIn) (p : Nat), p = c.param % 1024 ∧ s.accepts 68 c ∧ (s.isPort p = false ∨ 256 < bits
    c.param 16 8 + c.input.length / 8)) ∧
  (∃ (s : State), s.running = true ∧ ∃ (c : CmdIn) (p : Nat), p = c.param % 1024 ∧ s.accepts 70 c ∧ s.isPort p = true ∧ (s.gate
    p).committed = none) ∧
  (∃ (s : State), s.running = true ∧ ∃ (c : CmdIn) (p : Nat), p = c.param % 1024 ∧ s.accepts 70 c ∧ s.isPort p = true ∧ (s.gate
    p).committed.isSome = true) ∧
  (∃ (s : State), s.running = true ∧ ∃ (c : CmdIn) (p : Nat), p = c.param % 1024 ∧ s.accepts 71 c ∧ s.isPort p = true ∧ ∃ (m : SMap (Nat ×
    Nat)) (l : Option GateList), m = (s.gate p).bank (if bitOf c.param 16 = true then s.pendingBank p else 1 - s.pendingBank p) ∧ l = if
    bitOf c.param 16 = true then (s.gate p).committed else (s.gate p).active) ∧
  (∃ (s : State), s.running = true ∧ ∃ (c : CmdIn) (p : Nat) (base : Nat) (start : Nat), p = leAt c.input 0 2 ∧ s.accepts 69 c ∧ base =
    stampTime (leAt c.input 8 16) ∧ start = gateStart base (leAt c.input 24 4) s.presTicks ∧ s.commitOk c.input = false) :=
  ⟨⟨state7, by decide +kernel, value12, _, rfl, accepts_of (by decide +kernel), by decide +kernel⟩,
   ⟨state9, by decide +kernel, value12, _, rfl, accepts_of (by decide +kernel), by decide +kernel⟩,
   ⟨state7, by decide +kernel, value13, _, rfl, accepts_of (by decide +kernel), by decide +kernel⟩,
   ⟨state9, by decide +kernel, (cmd 0 8 []), _, rfl, accepts_of (by decide +kernel), by decide +kernel⟩,
   ⟨state7, by decide +kernel, (cmd 0 8 []), _, rfl, accepts_of (by decide +kernel), by decide +kernel⟩,
   ⟨state7, by decide +kernel, (cmd 0 8 []), _, rfl, accepts_of (by decide +kernel), by decide +kernel, _, _, rfl, rfl⟩,
   ⟨state7, by decide +kernel, (cmd 0 0 (com 0 5 6 1)), _, _, _, rfl, accepts_of (by decide +kernel), rfl, rfl, by decide +kernel⟩⟩

theorem witness_GateListsChangeOverAtTheirStartTime_2 :
  (∃ (s : State), s.running = true ∧ ∃ (c : CmdIn) (p : Nat) (base : Nat) (start : Nat), p = leAt c.input 0 2 ∧ s.accepts 69 c ∧ base =
    stampTime (leAt c.input 8 16) ∧ start = gateStart base (leAt c.input 24 4) s.presTicks ∧ s.commitOk c.input = true ∧ ((s.gate
    p).committed.isSome = true ∨ bitOf (leAt c.input 4 1) 0 = true ∧ s.presNone = true)) ∧
  (∃ (s : State), s.running = true ∧ ∃ (c : CmdIn) (p : Nat) (base : Nat) (start : Nat), p = leAt c.input 0 2 ∧ s.accepts 69 c ∧ base =
    stampTime (leAt c.input 8 16) ∧ start = gateStart base (leAt c.input 24 4) s.presTicks ∧ s.commitOk c.input = true ∧ (s.gate
    p).committed = none ∧ (bitOf (leAt c.input 4 1) 0 = true → s.presNone = false)) ∧
  (∃ (s : State), s.running = true ∧ ∃ p < 1024, ∃ (c : GateList), (s.gate p).committed = some c ∧ c.start ≤ s.presTicks) ∧
  (∃ (s : State), s.running = true ∧ ∃ p < 1024, ∃ (c : GateList), (s.gate p).committed = some c ∧ s.presTicks < c.start) ∧
  (∃ (s : State), s.running = true ∧ ∃ p < 1024, (s.gate p).committed = none) ∧
  (∃ (s : State), s.running = true ∧ ∃ p < 1024, (s.gate p).active = none) ∧
  (∃ (s : State), s.running = true ∧ ∃ p < 1024, ∃ (l : GateList), (s.gate p).active = some l) :=
  ⟨⟨state7, by decide +kernel, (cmd 0 0 (com 1 0 1000 1)), _, _, _, rfl, accepts_of (by decide +kernel), rfl, rfl, by decide +kernel⟩,
   ⟨state9, by decide +kernel, (cmd 0 0 (com 1 (2 ^ 32 * 5) 1000 0)), _, _, _, rfl, accepts_of (by decide +kernel), rfl, rfl,
     by decide +kernel⟩,
   ⟨state7, by decide +kernel, 8, by decide +kernel, _, rfl, by decide +kernel⟩,
   ⟨state10, by decide +kernel, 8, by decide +kernel, _, rfl, by decide +kernel⟩,
   ⟨state9, by decide +kernel, 8, by decide +kernel⟩,
   ⟨state8, by decide +kernel, 8, by decide +kernel⟩,
   ⟨state7, by decide +kernel, 8, by decide +kernel, _, rfl⟩⟩

end Traffic

namespace Dram

def D (f : DramSt → DramSt) (s : State) : State := {s with dram := f s.dram}

def ctxs (s : State) : State := {s with flow := {s.flow with contexts := [(4, ctx (zeros 48))]}}

def dstg : State := D (fun d => {d with alerts := [(5, [10^12, 10^12 - 3, 10^12-5])], writes := [(5, (List.range 20).map fun i => (i, 10^12 - 5*i))], rows := [(7, [(3, 2000), (4, 9), (3, 5)]), (1537, [(1,1)])]}) up

def old : State := D (fun d => {d with writes := [(5, [(3, 5), (4, 10^12)])], lastRead := [(5, 10^12)]}) up

def state1 : State := ctxs up

def state2 : State := (ctxs up).set Reg.DRAM_PC_FAILED_LO_FAILED 0xFFFFFFFF |>.set Reg.DRAM_PC_FAILED_HI_FAILED 0xFFFFFFFF

def state3 : State := D (fun d => {d with windowAt := [(0, 10^12), (1, 10^12)]}) up

def state4 : State := ctxs (up.off Reg.DRAM_CTRL_SCRUB_EN)

def svc (s : State) : State := s.on Reg.DRAM_CTRL_SERVICE

def tr (l : List Nat) (bad : Bool) (s : State) : State := let t := s.set Reg.DRAM_TRAIN_STATUS 1
  {t with dram := {t.dram with trained := l, trainBad := bad}, reck := {idleReck with engines := [(2, {bootRoutine with kind := .dramTraining})]}}

def state5 : State := svc up

def state6 : State := (svc up).on Reg.DRAM_STATUS_PARKED1

def state9 : State := tr [] false up

def state13 : State := {up with plat := {up.plat with bootDoneAt := 10^12}}

theorem witness_TheDramControllerWatchesItsStacks :
  (∃ (s : State), s.running = true ∧ ∃ (g : Nat) (o : ReadOutcome), g < 201326592 ∧ s.inUse g = true ∧ s.parked (stackOf (pcOf g)) = false
    ∧ s.funcUp Func.dram = true ∧ s.bit Reg.DRAM_CTRL_SCRUB_EN = true ∧ s.pcFailed (pcOf g) = false ∧ (∀ k ∈ burstsFrom (8 * g) 8, mapGet
    s.dram.errs k EccOutcome.clean = EccOutcome.clean) ∧ o.burst < 8 ∧ o.ecc = EccOutcome.clean) ∧
  (∃ (s : State), s.running = true ∧ ∃ (g : Nat) (o : ReadOutcome), g < 201326592 ∧ s.inUse g = true ∧ s.parked (stackOf (pcOf g)) = false
    ∧ s.funcUp Func.dram = true ∧ s.bit Reg.DRAM_CTRL_SCRUB_EN = true ∧ s.pcFailed (pcOf g) = false ∧ (∀ k ∈ burstsFrom (8 * g) 8, mapGet
    s.dram.errs k EccOutcome.clean = EccOutcome.clean) ∧ o.burst < 8 ∧ o.ecc = EccOutcome.corrected) ∧
  (∃ (s : State), s.running = true ∧ ∃ (g : Nat) (o : ReadOutcome), g < 201326592 ∧ s.inUse g = true ∧ s.parked (stackOf (pcOf g)) = false
    ∧ s.funcUp Func.dram = true ∧ s.bit Reg.DRAM_CTRL_SCRUB_EN = true ∧ s.pcFailed (pcOf g) = false ∧ (∀ k ∈ burstsFrom (8 * g) 8, mapGet
    s.dram.errs k EccOutcome.clean = EccOutcome.clean) ∧ o.burst < 8 ∧ o.ecc = EccOutcome.uncorrectable) ∧
  (∃ (s : State), s.running = true ∧ ∃ (g : Nat) (o : ReadOutcome), g < 201326592 ∧ s.inUse g = true ∧ s.parked (stackOf (pcOf g)) = false
    ∧ s.funcUp Func.dram = true ∧ s.bit Reg.DRAM_CTRL_SCRUB_EN = true ∧ s.pcFailed (pcOf g) = true) ∧
  (∃ (s : State), s.running = true ∧ ∃ (g : Nat) (o : ReadOutcome), g < 201326592 ∧ s.inUse g = true ∧ s.parked (stackOf (pcOf g)) = false
    ∧ s.funcUp Func.dram = true ∧ s.bit Reg.DRAM_CTRL_SCRUB_EN = false) ∧
  (∃ (s : State), s.running = true ∧ ∃ (pc : Nat) (cmd : Bool) (n : Nat) (ok : Bool) (four : Bool) (sent : List DramCmd), pc < 64 ∧ sent =
    mapGet s.dram.retry pc [] ∧ four = (cmd && decide (3 ≤ (List.filter (fun (c : Nat) => decide (s.cycle < c + 10 * usCycles)) (mapGet
    s.dram.alerts pc [])).length))) ∧
  (∃ (s : State), s.running = true ∧ ∃ pc < 64, s.overdue pc = true) ∧
  (∃ (s : State), s.running = true ∧ ∃ pc < 64, ∃ (w : Nat × Nat) (l : List (Nat × Nat)), mapGet s.dram.writes pc [] = w :: l ∧ w.2 + 50 *
    usCycles ≤ s.cycle) ∧
  (∃ (s : State), s.running = true ∧ ∃ pc < 64, s.overdue pc = false) :=
  ⟨⟨state1, by decide +kernel, 8, { repeats := 0, severity := false, ecc := EccOutcome.clean, burst := 0 }, by decide +kernel⟩,
   ⟨state1, by decide +kernel, 8, { repeats := 0, severity := true, ecc := EccOutcome.corrected, burst := 1 }, by decide +kernel⟩,
   ⟨state1, by decide +kernel, 8, { repeats := 1, severity := true, ecc := EccOutcome.uncorrectable, burst := 3 }, by decide +kernel⟩,
   ⟨state2, by decide +kernel, 8, { repeats := 0, severity := false, ecc := EccOutcome.clean, burst := 0 }, by decide +kernel⟩,
   ⟨state4, by decide +kernel, 8, { repeats := 0, severity := false, ecc := EccOutcome.clean, burst := 0 }, by decide +kernel⟩,
   ⟨state1, by decide +kernel, 5, true, 0, true, _, _, by decide +kernel, rfl, rfl⟩,
   ⟨old, by decide +kernel, 5, by decide +kernel⟩,
   ⟨old, by decide +kernel, 5, by decide +kernel, _, _, rfl, by decide +kernel⟩,
   ⟨state1, by decide +kernel, 5, by decide +kernel⟩⟩

theorem witness_TheDramControllerWatchesItsStacks_2 :
  (∃ (s : State), s.running = true ∧ ∃ (pc : Nat) (w : Nat × Nat) (l : List (Nat × Nat)) (n : Nat), pc < 64 ∧ mapGet s.dram.writes pc [] =
    w :: l ∧ n = min (s.get Reg.DRAM_SCHED_WR_LOW) l.length ∧ 3 * s.get Reg.DRAM_SCHED_WR_AGE_NS ≤ 2 * (s.cycle - w.2)) ∧
  (∃ (s : State), s.running = true ∧ ∃ (pc : Nat) (w : Nat × Nat) (l : List (Nat × Nat)) (n : Nat), pc < 64 ∧ mapGet s.dram.writes pc [] =
    w :: l ∧ n = min (s.get Reg.DRAM_SCHED_WR_LOW) l.length ∧ 2 * (s.cycle - w.2) < 3 * s.get Reg.DRAM_SCHED_WR_AGE_NS) ∧
  (∃ (s : State), s.running = true ∧ ∃ (pc : Nat) (w : Nat × Nat) (l : List (Nat × Nat)) (n : Nat), pc < 64 ∧ mapGet s.dram.writes pc [] =
    w :: l ∧ n = min (s.get Reg.DRAM_SCHED_WR_LOW) l.length ∧ mapGet s.dram.lastRead pc 0 + 150 ≤ s.cycle) ∧
  (∃ (s : State), s.running = true ∧ ∃ (pc : Nat) (w : Nat × Nat) (l : List (Nat × Nat)) (n : Nat), pc < 64 ∧ mapGet s.dram.writes pc [] =
    w :: l ∧ n = min (s.get Reg.DRAM_SCHED_WR_LOW) l.length ∧ s.cycle < mapGet s.dram.lastRead pc 0 + 150) ∧
  (∃ (s : State), s.running = true ∧ ∃ (k : Nat) (window : Nat), k < 2 ∧ (window = if k ∈ s.dram.hot then 16 * msCycles else 32 *
    msCycles) ∧ mapGet s.dram.windowAt k 0 + window ≤ s.cycle) ∧
  (∃ (s : State), s.running = true ∧ ∃ (k : Nat) (window : Nat), k < 2 ∧ (window = if k ∈ s.dram.hot then 16 * msCycles else 32 *
    msCycles) ∧ s.cycle < mapGet s.dram.windowAt k 0 + window) ∧
  (∃ (s : State), s.running = true ∧ ∃ (a : Nat) (b : Nat), a < 256 ∧ b < 256) ∧
  (∃ (s : State), s.running = true ∧ ∃ (bank : Nat) (row : Nat) (n : Nat), bank < 3072 ∧ row < 16384 ∧ n = s.rowCount bank row ∧ s.get
    Reg.DRAM_ROW_GUARD_THRESHOLD ≤ n) ∧
  (∃ (s : State), s.running = true ∧ ∃ (bank : Nat) (row : Nat) (n : Nat), bank < 3072 ∧ row < 16384 ∧ n = s.rowCount bank row ∧ n < s.get
    Reg.DRAM_ROW_GUARD_THRESHOLD) :=
  ⟨⟨old, by decide +kernel, 5, _, _, _, by decide +kernel, rfl, rfl, by decide +kernel⟩,
   ⟨dstg, by decide +kernel, 5, _, _, _, by decide +kernel, rfl, rfl, by decide +kernel⟩,
   ⟨dstg, by decide +kernel, 5, _, _, _, by decide +kernel, rfl, rfl, by decide +kernel⟩,
   ⟨old, by decide +kernel, 5, _, _, _, by decide +kernel, rfl, rfl, by decide +kernel⟩,
   ⟨state1, by decide +kernel, 0, _, by decide +kernel, rfl, by decide +kernel⟩,
   ⟨state3, by decide +kernel, 0, _, by decide +kernel, rfl, by decide +kernel⟩,
   ⟨state1, by decide +kernel, 84, 7, by decide +kernel⟩,
   ⟨dstg, by decide +kernel, 7, 3, _, by decide +kernel, by decide +kernel, rfl, by decide +kernel⟩,
   ⟨state1, by decide +kernel, 7, 3, _, by decide +kernel, by decide +kernel, rfl, by decide +kernel⟩⟩

theorem witness_DramParksIdlesAndTrains :
  (∃ (s : State), s.running = true ∧ ∃ k < 2, s.bit Reg.DRAM_CTRL_SERVICE = true ∧ s.bit Reg.DRAM_CTRL_PARK_EN = true ∧ s.parked k = false
    ∧ mapGet s.dram.lastReq k 0 + s.get Reg.DRAM_PWR_PARK_MS * msCycles ≤ s.cycle) ∧
  (∃ (s : State), s.running = true ∧ ∃ k < 2, s.parked k = true) ∧
  (∃ (s : State), s.running = true ∧ ∃ k < 2, s.parked k = false) ∧
  (∃ (s : State), s.running = true ∧ ∃ (k : Nat) (sid : Nat), k < 2 ∧ sid < 3 ∧ s.bit Reg.DRAM_CTRL_SERVICE = false ∧ mapGet
    s.dram.lastSid (k * 3 + sid) 0 + s.get Reg.DRAM_PWR_SID_IDLE_MS * msCycles ≤ s.cycle) ∧
  (∃ (s : State), s.running = true ∧ ∃ pc < 64, s.bit Reg.DRAM_CTRL_SERVICE = true ∧ s.parked (stackOf pc) = false ∧ mapGet s.dram.recalAt
    pc 0 + s.get Reg.DRAM_RECAL_RECAL_MS * msCycles ≤ s.cycle) ∧
  (∃ (s : State), s.running = true ∧ ∃ (v : Nat), s.served ∧ s.funcUp Func.dram = true ∧ v < 8 ∧ bitOf v 0 = true ∧ s.get
    Reg.DRAM_TRAIN_STATUS ≠ 2) :=
  ⟨⟨state5, by decide +kernel, 0, by decide +kernel⟩,
   ⟨state6, by decide +kernel, 1, by decide +kernel⟩,
   ⟨state5, by decide +kernel, 0, by decide +kernel⟩,
   ⟨up, by decide +kernel, 0, 0, by decide +kernel⟩,
   ⟨state5, by decide +kernel, 63, by decide +kernel⟩,
   ⟨state5, by decide +kernel, 1, served_of (by decide +kernel), by decide +kernel⟩⟩

theorem witness_DramParksIdlesAndTrains_2 :
  (∃ (s : State), s.running = true ∧ ∃ (v : Nat), s.served ∧ s.funcUp Func.dram = true ∧ v < 8 ∧ (bitOf v 0 = false ∨ s.get
    Reg.DRAM_TRAIN_STATUS = 2)) ∧
  (∃ (s : State), s.running = true ∧ s.served ∧ s.funcUp Func.dram = true ∧ (s.bit Reg.DRAM_CTRL_SERVICE = true ∨ s.get
    Reg.DRAM_TRAIN_STATUS = 1)) ∧
  (∃ (s : State), s.running = true ∧ s.served ∧ s.funcUp Func.dram = true ∧ s.bit Reg.DRAM_CTRL_SERVICE = false ∧ s.get
    Reg.DRAM_TRAIN_STATUS ≠ 1) ∧
  (∃ (s : State), s.running = true ∧ ∃ (pc : Nat) (n : Nat) (ok : Bool) (bad : Nat) (good : Bool), pc < 64 ∧ s.get Reg.DRAM_TRAIN_STATUS =
    1 ∧ pc ∉ s.dram.trained ∧ s.runsRoutine RoutineKind.dramTraining = true ∧ bad = mapGet s.dram.lanes (pc / 2) 0 + n ∧ good = (ok &&
    decide (bad < 2))) ∧
  (∃ (s : State), s.running = true ∧ s.served ∧ s.funcUp Func.dram = true ∧ s.get Reg.DRAM_TRAIN_STATUS < 4 ∧ s.get
    Reg.DRAM_TRAIN_LANE_REPAIRED < 256) ∧
  (∃ (s : State), s.running = true ∧ s.plat.trainAsked = false ∧ s.get Reg.SEC_BOOT_STATE = 1 ∧ (s.bit Reg.SYS_START_STATUS_PATCH_SETTLED
    = true ∨ s.plat.bootDoneAt + 100 * msCycles ≤ s.cycle ∧ s.get Reg.RCK_PATCH_STATUS_STATE = 0)) ∧
  (∃ (s : State), s.running = true ∧ s.plat.trainAsked = false ∧ s.get Reg.SEC_BOOT_STATE = 1 ∧ s.bit Reg.SYS_START_STATUS_PATCH_SETTLED =
    false ∧ s.cycle < s.plat.bootDoneAt + 100 * msCycles) :=
  ⟨⟨state5, by decide +kernel, 0, served_of (by decide +kernel), by decide +kernel⟩,
   ⟨state5, by decide +kernel, served_of (by decide +kernel), by decide +kernel⟩,
   ⟨up, by decide +kernel, served_of (by decide +kernel), by decide +kernel⟩,
   ⟨state9, by decide +kernel, 63, 0, true, _, _, by decide +kernel, by decide +kernel, by decide +kernel, by decide +kernel, rfl, rfl⟩,
   ⟨state5, by decide +kernel, served_of (by decide +kernel), by decide +kernel⟩,
   ⟨state5, by decide +kernel⟩,
   ⟨state13, by decide +kernel⟩⟩

end Dram

namespace HostLink

def ln (k : Nat) (s : State) : State := s.set Reg.HLINK_STATUS_STATE k

def active : State := H (fun h => {h with upOnce := true, credit := 100, rxCredit := 4096, rate := 0}) (ln 2 up)

def tr (k tries rate : Nat) (s : State) : State := H (fun h => {h with tries := tries, rate := rate, trainSince := 10^12 - 5}) (ln k s)

def out (s : State) : State := H (fun h => {h with upOnce := true, outSince := 5, reads := [(3, ⟨.descriptor 2, 32, 0⟩), (4, ⟨.data 3 0, 64, 0⟩)], wanted := [(.descriptor 2, 0, 32)], waiting := [.credit 1]}) (ln 3 (ring 2 s))

def T : Nat → Nat → Nat → State := fun a b c => tr a b c up

def state2 : State := T 1 0 0

def state6 : State := T 3 0 0

def state9 : State := H (fun h => {h with upOnce := true, credit := 50}) (T 3 0 1)

def state10 : State := T 4 2 3

def state11 : State := H (fun h => {h with trainSince := 0}) (T 4 2 3)

def state15 : State := H (fun h => {h with outSince := 10^12}) (out up)

theorem witness_TheHostLinkTrainsAndIsLost :
  (∃ (s : State), s.running = true ∧ s.get Reg.HLINK_STATUS_STATE = 0) ∧
  (∃ (s : State), s.running = true ∧ s.get Reg.HLINK_STATUS_STATE = 1) ∧
  (∃ (s : State), s.running = true ∧ s.get Reg.HLINK_STATUS_STATE = 3 ∧ s.host.rate < 3) ∧
  (∃ (s : State), s.running = true ∧ ∃ (rep : Bool), s.get Reg.HLINK_STATUS_STATE = 1 ∨ s.get Reg.HLINK_STATUS_STATE = 3) ∧
  (∃ (s : State), s.running = true ∧ s.get Reg.HLINK_STATUS_STATE = 4 ∧ s.host.trainSince + 100 * msCycles ≤ s.cycle) ∧
  (∃ (s : State), s.running = true ∧ s.get Reg.HLINK_STATUS_STATE = 4 ∧ s.cycle < s.host.trainSince + 100 * msCycles) ∧
  (∃ (s : State), s.running = true ∧ ∃ (n : Nat) (err : Bool) (k : Nat), s.linkActive = true ∧ k = n + (List.map (fun (x : Nat ×
    Nat) => x.2) (List.filter (fun (e : Nat × Nat) => decide (s.cycle < e.1 + msCycles)) s.host.retries)).sum) ∧
  (∃ (s : State), s.running = true ∧ s.linkActive = false ∧ s.host.upOnce = true ∧ s.host.outSince + s.get Reg.HLINK_CTRL_DOWN_MS *
    msCycles ≤ s.cycle) ∧
  (∃ (s : State), s.running = true ∧ s.linkActive = false ∧ s.host.upOnce = true ∧ s.cycle < s.host.outSince + s.get
    Reg.HLINK_CTRL_DOWN_MS * msCycles) :=
  ⟨⟨up, by decide +kernel⟩,
   ⟨state2, by decide +kernel⟩,
   ⟨state6, by decide +kernel⟩,
   ⟨state2, by decide +kernel, true, by decide +kernel⟩,
   ⟨state11, by decide +kernel⟩,
   ⟨state10, by decide +kernel⟩,
   ⟨active, by decide +kernel, 0, true, _, by decide +kernel, rfl⟩,
   ⟨state9, by decide +kernel⟩,
   ⟨state15, by decide +kernel⟩⟩

end HostLink

namespace Messages

def ln (k : Nat) (s : State) : State := s.set Reg.HLINK_STATUS_STATE k

def active : State := H (fun h => {h with upOnce := true, credit := 100, rxCredit := 4096, rate := 0}) (ln 2 up)

def msg (ty st tag len : Nat) (addr a2 : Nat) (d : List Byte) : HostIn := ⟨7, 0, [BitVec.ofNat 8 ty, BitVec.ofNat 8 st, 0, 0] ++ leBytes 2 tag ++ leBytes 2 len ++ leBytes 4 addr ++ leBytes 4 a2 ++ d, none⟩

def actR (s : State) : State := H (fun h => {h with reads := [(3, ⟨.descriptor 2, 32, 0⟩), (4, ⟨.data 3 0, 64, 10^12⟩), (5, ⟨.data 2 0, 64, 0⟩)]}) (ring 2 (ring 33 s))

def fabric : HostIn := { msg 1 0 5 2 0 0 [] with fabricError := some 1 }

def state1 : State := actR active

def state2 : State := H (fun h => {h with badFlit := some 7}) active

def state6 : State := H (fun h => {h with failed := [(9, 10^12)]}) active

theorem witness_MessagesOfTheHostAreAppliedOrDiscarded :
  (∃ (s : State) (m : HostIn), s.running = true ∧ m.slot < 15 ∧ s.linkActive = true ∧ s.host.badFlit ≠ some m.flit ∧ s.msgFault m = 0 ∧ ∃
    (u : State), (u = s.modHost fun (h : HostSt) => { h with rxCredit := h.rxCredit - m.slots }) ∧ m.type = 1 ∧ m.fabricError = none) ∧
  (∃ (s : State) (m : HostIn), s.running = true ∧ m.slot < 15 ∧ s.linkActive = true ∧ s.host.badFlit ≠ some m.flit ∧ s.msgFault m = 0 ∧ ∃
    (u : State), (u = s.modHost fun (h : HostSt) => { h with rxCredit := h.rxCredit - m.slots }) ∧ ∃ (i : Nat) (r : Status × Nat × List
    Nat × State), m.type = 1 ∧ m.fabricError = some i ∧ i < m.len ∧ r = readMany (i + 1) (leAt m.bytes 8 4) u ∧ r.1 = Status.ok) ∧
  (∃ (s : State) (m : HostIn), s.running = true ∧ m.slot < 15 ∧ s.linkActive = true ∧ s.host.badFlit ≠ some m.flit ∧ s.msgFault m = 0 ∧ ∃
    (u : State), (u = s.modHost fun (h : HostSt) => { h with rxCredit := h.rxCredit - m.slots }) ∧ m.type = 2) ∧
  (∃ (s : State) (m : HostIn), s.running = true ∧ m.slot < 15 ∧ s.linkActive = true ∧ s.host.badFlit ≠ some m.flit ∧ s.msgFault m = 0 ∧ ∃
    (n : Nat) (v : Nat) (d : Nat), m.type = 3 ∧ n = leAt m.bytes 8 1 ∧ v = leAt m.bytes 12 4 ∧ d = (if hostProduced n = true then v + 2 ^
    32 - s.devIndex n else s.devIndex n + 2 ^ 32 - v) % 2 ^ 32) ∧
  (∃ (s : State) (m : HostIn), s.running = true ∧ m.slot < 15 ∧ s.linkActive = true ∧ s.host.badFlit ≠ some m.flit ∧ s.msgFault m = 0 ∧ ∃
    (r : ReadRun) (n : Nat), m.type = 6 ∧ mapFind s.host.reads m.tag = some r ∧ s.host.wanted = [] ∧ r.user = ReadUser.descriptor n ∧ n <
    64) :=
  ⟨⟨active, (msg 1 0 5 2 0 0 []), by decide +kernel, by decide +kernel, by decide +kernel, by decide +kernel, by decide +kernel, _, rfl,
     by decide +kernel⟩,
   ⟨active, fabric, by decide +kernel, by decide +kernel, by decide +kernel, by decide +kernel, by decide +kernel, _, rfl, _, _,
     by decide +kernel, rfl, by decide +kernel, rfl, by decide +kernel⟩,
   ⟨active, (msg 2 0 5 2 8 0 (zeros 16)), by decide +kernel, by decide +kernel, by decide +kernel, by decide +kernel, by decide +kernel,
     _, rfl, by decide +kernel⟩,
   ⟨active, (msg 3 0 0 0 2 3 []), by decide +kernel, by decide +kernel, by decide +kernel, by decide +kernel, by decide +kernel, _, _, _,
     by decide +kernel, rfl, rfl, rfl⟩,
   ⟨state1, (msg 6 0 3 32 0 0 (zeros 32)), by decide +kernel, by decide +kernel, by decide +kernel, by decide +kernel, by decide +kernel,
     _, 2, by decide +kernel, rfl, by decide +kernel⟩⟩

theorem witness_MessagesOfTheHostAreAppliedOrDiscarded_2 :
  (∃ (s : State) (m : HostIn), s.running = true ∧ m.slot < 15 ∧ s.linkActive = true ∧ s.host.badFlit ≠ some m.flit ∧ s.msgFault m = 0 ∧
    m.type = 6 ∧ mapFind s.host.reads m.tag = none) ∧
  (∃ (s : State) (m : HostIn), s.running = true ∧ m.slot < 15 ∧ s.linkActive = true ∧ s.host.badFlit ≠ some m.flit ∧ s.msgFault m = 0 ∧
    m.type = 7 ∧ s.host.waiting = [] ∧ s.host.wanted = [] ∧ 1 ≤ s.host.credit + leAt m.bytes 8 4) ∧
  (∃ (s : State) (m : HostIn), s.running = true ∧ m.slot < 15 ∧ s.linkActive = true ∧ ∃ i ∈ [Instr.cfgRd m, Instr.cfgWr m, Instr.dbWr m,
    Instr.reply m, Instr.credit m, Instr.reservedTypeMessage m], s.host.badFlit = some m.flit) ∧
  (∃ (s : State) (m : HostIn), s.running = true ∧ m.slot < 15 ∧ s.linkActive = true ∧ ∃ i ∈ [Instr.cfgRd m, Instr.cfgWr m, Instr.dbWr m,
    Instr.reply m, Instr.credit m, Instr.reservedTypeMessage m], s.host.badFlit ≠ some m.flit ∧ s.msgFault m ≠ 0) ∧
  (∃ (s : State) (m : HostIn), s.running = true ∧ m.slot < 15 ∧ s.linkActive = true ∧ ∃ (tag : Nat) (r : ReadRun), tag < 1024 ∧ mapFind
    s.host.reads tag = some r ∧ r.since + s.memTimeout ≤ s.cycle) ∧
  (∃ (s : State) (m : HostIn), s.running = true ∧ m.slot < 15 ∧ s.linkActive = true ∧ ∃ (tag : Nat) (r : ReadRun), tag < 1024 ∧ mapFind
    s.host.reads tag = some r ∧ s.cycle < r.since + s.memTimeout) :=
  ⟨⟨state6, (msg 6 0 9 16 0 0 (zeros 16)), by decide +kernel⟩,
   ⟨active, (msg 7 0 0 0 5 0 []), by decide +kernel⟩,
   ⟨state2, (msg 0 0 0 0 0 0 []), by decide +kernel, by decide +kernel, by decide +kernel, _, List.mem_of_getElem? (i := 0) rfl,
     by decide +kernel⟩,
   ⟨active, (msg 1 0 5 17 0 0 []), by decide +kernel, by decide +kernel, by decide +kernel, _, List.mem_of_getElem? (i := 0) rfl,
     by decide +kernel⟩,
   ⟨state1, (msg 0 0 0 0 0 0 []), by decide +kernel, by decide +kernel, by decide +kernel, 3, _, by decide +kernel, rfl,
     by decide +kernel⟩,
   ⟨state1, (msg 0 0 0 0 0 0 []), by decide +kernel, by decide +kernel, by decide +kernel, 4, _, by decide +kernel, rfl,
     by decide +kernel⟩⟩

end Messages

namespace Rings

def cd (op fl seq par il : Nat) (ia : Nat := 16) : List Byte := leBytes 2 op ++ leBytes 2 fl ++ leBytes 4 seq ++ leBytes 4 par ++ leBytes 4 il ++ leBytes 8 ia ++ leBytes 8 0

def ij (fl kind dest len tag : Nat) : List Byte := [BitVec.ofNat 8 fl, 0x13, BitVec.ofNat 8 kind, 0] ++ leBytes 2 dest ++ leBytes 2 len ++ leBytes 4 tag ++ zeros 4 ++ leBytes 8 64 ++ zeros 8

/-- ring 3 (command ring) with completion ring 1, ring 50 inject with CQ 1 -/
def rg (s : State) : State := ((((ring 62 (ring 63 (ring 33 (ring 1 (ring 0 (ring 20 (ring 50 (act s)))))))).set (Reg.RING_CFG_CQ 20) 1).set (Reg.RING_CFG_CQ 50) 1).set (Reg.RING_DB_DOORBELL 20) 3).set (Reg.RING_DB_DOORBELL 50) 3

def ft (n : Nat) (d : List Byte) : State := R n (fun r => {r with fetched := some d}) (rg up8)

def inj (fl : Nat) (l : List Byte) (base : State := rg up8) (need := 60) : State := R 50 (fun r => {r with desc := ij fl 0 8 60 0xAABB, running := some (256, cmdOfDesc 50 0 (zeros 32)), parts := [(0, l)], need := need}) base

def nob : State := let s := rg up8; {s with buf := {s.buf with withdrawn := List.range 128}}

def frd : List Byte := (eth [0x12,0x34] 60)

def state1 : State := rg up

def state2 : State := ft 20 (cd 0 0 7 0 0 0)

def state11 : State := inj 0 []

def state12 : State := inj 0 frd

def state15 : State := inj 0 frd (base := nob)

def state17 : State := R 20 (fun r => {r with behind := true}) (rg up)

def state18 : State := (rg up8).set Reg.RING_HALTED_LO_HALTED 0x20

theorem witness_RingsTakeDescriptorsInTurn :
  (∃ (s : State), s.running = true ∧ (s.host.serviceOff = true ∨ s.nextTake = none)) ∧
  (∃ (s : State), s.running = true ∧ ∃ (n : Nat) (d : List Byte) (cq : Nat), s.host.serviceOff = false ∧ s.nextTake = some n ∧ (s.ring
    n).fetched = some d ∧ cq = s.get (Reg.RING_CFG_CQ n) ∧ cq < 16 ∧ s.devIndex n < 2 ^ 32) ∧
  (∃ (s : State), s.running = true ∧ ∃ (n : Nat) (d : List Byte) (x : Frame) (c : CmdIn), 48 ≤ n ∧ n < 61 ∧ (s.ring n).running = some
    (256, c) ∧ d = (s.ring n).desc ∧ x = s.injectFrame d (s.ring n).frameBytes ∧ s.devIndex n < 2 ^ 32 ∧ s.get (Reg.RING_CFG_CQ n) < 16 ∧
    s.funcUp Func.buf = true ∧ (List.map (fun (x : Nat × List Byte) => x.2.length) (s.ring n).parts).sum < (s.ring n).need) ∧
  (∃ (s : State), s.running = true ∧ ∃ (n : Nat) (d : List Byte) (x : Frame) (c : CmdIn), 48 ≤ n ∧ n < 61 ∧ (s.ring n).running = some
    (256, c) ∧ d = (s.ring n).desc ∧ x = s.injectFrame d (s.ring n).frameBytes ∧ s.devIndex n < 2 ^ 32 ∧ s.get (Reg.RING_CFG_CQ n) < 16 ∧
    s.funcUp Func.buf = true ∧ (s.ring n).need ≤ (List.map (fun (x : Nat × List Byte) => x.2.length) (s.ring n).parts).sum ∧ takeBeads
    x.pool ownerInject 1 (ceilDiv x.bytes.length 256) [] (s.turnOn x.pool) = none) ∧
  (∃ (s : State), s.running = true ∧ ∃ (n : Nat) (d : List Byte) (x : Frame) (c : CmdIn), 48 ≤ n ∧ n < 61 ∧ (s.ring n).running = some
    (256, c) ∧ d = (s.ring n).desc ∧ x = s.injectFrame d (s.ring n).frameBytes ∧ s.devIndex n < 2 ^ 32 ∧ s.get (Reg.RING_CFG_CQ n) < 16 ∧
    s.funcUp Func.buf = true ∧ (s.ring n).need ≤ (List.map (fun (x : Nat × List Byte) => x.2.length) (s.ring n).parts).sum ∧ ∃ (l : List
    Nat) (u : State), takeBeads x.pool ownerInject 1 (ceilDiv x.bytes.length 256) [] (s.turnOn x.pool) = some (l, u) ∧ leAt d 2 1 = 0 ∧
    s.isLocal (leAt d 4 2) = true ∧ s.bit (Reg.MIRROR_PORT_CFG_EGR_EN (leAt d 4 2 - s.logicalBase)) = false ∧ s.funcUp Func.tm = true) ∧
  (∃ (s : State), s.running = true ∧ ∃ (n : Nat) (d : List Byte) (x : Frame) (c : CmdIn), 48 ≤ n ∧ n < 61 ∧ (s.ring n).running = some
    (256, c) ∧ d = (s.ring n).desc ∧ x = s.injectFrame d (s.ring n).frameBytes ∧ s.devIndex n < 2 ^ 32 ∧ s.get (Reg.RING_CFG_CQ n) < 16 ∧
    s.funcUp Func.buf = true ∧ ∃ (t : State), exec (Instr.injectDescriptor n) s = Host.Outcome.next t) ∧
  (∃ (s : State), s.running = true ∧ ∃ n < 64, (s.ring n).behind = true ∧ s.canWrite = true) :=
  ⟨⟨up, by decide +kernel⟩,
   ⟨state2, by decide +kernel, _, _, _, by decide +kernel, rfl, rfl, rfl, by decide +kernel⟩,
   ⟨state11, by decide +kernel, 50, _, _, _, by decide +kernel, by decide +kernel, rfl, rfl, rfl, by decide +kernel⟩,
   ⟨state15, by decide +kernel, 50, _, _, _, by decide +kernel, by decide +kernel, rfl, rfl, rfl, by decide +kernel⟩,
   ⟨state12, by decide +kernel, 50, _, _, _, by decide +kernel, by decide +kernel, rfl, rfl, rfl, by decide +kernel, by decide +kernel,
     by decide +kernel, by decide +kernel, _, _, rfl, by decide +kernel⟩,
   ⟨state11, by decide +kernel, 50, _, _, _, by decide +kernel, by decide +kernel, rfl, rfl, rfl, by decide +kernel, by decide +kernel,
     by decide +kernel, _, rfl⟩,
   ⟨state17, by decide +kernel, 20, by decide +kernel⟩⟩

theorem witness_RingsTakeDescriptorsInTurn_2 :
  (∃ (s : State), s.running = true ∧ ∃ n < 64, (s.ring n).behind = false ∨ s.canWrite = false) ∧
  (∃ (s : State), s.running = true ∧ s.served ∧ s.funcUp Func.ring = true ∧ ∃ (n : Nat) (on : Bool) (buf : Nat) (cq : Nat) (log : Nat) (v
    : Nat), n < 64 ∧ buf < 4 ∧ cq < 16 ∧ log < 32 ∧ v = 2 ^ 31 * b2n on + 2 ^ 12 * buf + 2 ^ 8 * cq + log ∧ (log < 4 ∨ (if n = 61 then 20
    else 16) < log ∨ cq ≠ 0 ∧ hostProduced n = false ∨ buf ≠ 0 ∧ (n < 32 ∨ 48 ≤ n))) ∧
  (∃ (s : State), s.running = true ∧ s.served ∧ s.funcUp Func.ring = true ∧ ∃ (n : Nat) (on : Bool) (buf : Nat) (cq : Nat) (log : Nat) (v
    : Nat), n < 64 ∧ buf < 4 ∧ cq < 16 ∧ log < 32 ∧ v = 2 ^ 31 * b2n on + 2 ^ 12 * buf + 2 ^ 8 * cq + log ∧ 4 ≤ log ∧ (log ≤ if n = 61
    then 20 else 16) ∧ (cq = 0 ∨ hostProduced n = true) ∧ (buf = 0 ∨ 32 ≤ n ∧ n < 48) ∧ s.bit (Reg.RING_CFG_ENABLE n) = true ∧ (log ≠
    s.get (Reg.RING_CFG_LOG2_SIZE n) ∨ cq ≠ s.get (Reg.RING_CFG_CQ n) ∨ buf ≠ s.get (Reg.RING_CFG_BUF_SIZE n))) ∧
  (∃ (s : State), s.running = true ∧ s.served ∧ s.funcUp Func.ring = true ∧ ∃ (n : Nat) (on : Bool) (buf : Nat) (cq : Nat) (log : Nat) (v
    : Nat), n < 64 ∧ buf < 4 ∧ cq < 16 ∧ log < 32 ∧ v = 2 ^ 31 * b2n on + 2 ^ 12 * buf + 2 ^ 8 * cq + log ∧ 4 ≤ log ∧ (log ≤ if n = 61
    then 20 else 16) ∧ (cq = 0 ∨ hostProduced n = true) ∧ (buf = 0 ∨ 32 ≤ n ∧ n < 48) ∧ s.bit (Reg.RING_CFG_ENABLE n) = false ∧ on = true
    ∧ ∀ e ∈ s.host.held, e.1 ≠ n) ∧
  (∃ (s : State), s.running = true ∧ s.served ∧ s.funcUp Func.ring = true ∧ ∃ (n : Nat) (on : Bool) (buf : Nat) (cq : Nat) (log : Nat) (v
    : Nat), n < 64 ∧ buf < 4 ∧ cq < 16 ∧ log < 32 ∧ v = 2 ^ 31 * b2n on + 2 ^ 12 * buf + 2 ^ 8 * cq + log ∧ 4 ≤ log ∧ (log ≤ if n = 61
    then 20 else 16) ∧ (cq = 0 ∨ hostProduced n = true) ∧ (buf = 0 ∨ 32 ≤ n ∧ n < 48) ∧ s.bit (Reg.RING_CFG_ENABLE n) = true ∧ on = false
    ∧ log = s.get (Reg.RING_CFG_LOG2_SIZE n) ∧ cq = s.get (Reg.RING_CFG_CQ n) ∧ buf = s.get (Reg.RING_CFG_BUF_SIZE n)) ∧
  (∃ (s : State), s.running = true ∧ s.served ∧ s.funcUp Func.ring = true ∧ ∃ n < 64, s.halted n = false) ∧
  (∃ (s : State), s.running = true ∧ s.served ∧ s.funcUp Func.ring = true ∧ ∃ n < 64, s.halted n = true) :=
  ⟨⟨up, by decide +kernel, 20, by decide +kernel⟩,
   ⟨up, by decide +kernel, served_of (by decide +kernel), by decide +kernel, 20, true, 0, 0, 3, _, by decide +kernel, by decide +kernel,
     by decide +kernel, by decide +kernel, rfl, by decide +kernel⟩,
   ⟨state1, by decide +kernel, served_of (by decide +kernel), by decide +kernel, 20, true, 0, 0, 4, _, by decide +kernel,
     by decide +kernel, by decide +kernel, by decide +kernel, rfl, by decide +kernel⟩,
   ⟨up, by decide +kernel, served_of (by decide +kernel), by decide +kernel, 20, true, 0, 0, 4, _, by decide +kernel, by decide +kernel,
     by decide +kernel, by decide +kernel, rfl, by decide +kernel⟩,
   ⟨state1, by decide +kernel, served_of (by decide +kernel), by decide +kernel, 20, false, 0, 1, 4, _, by decide +kernel,
     by decide +kernel, by decide +kernel, by decide +kernel, rfl, by decide +kernel⟩,
   ⟨up, by decide +kernel, served_of (by decide +kernel), by decide +kernel, 20, by decide +kernel⟩,
   ⟨state18, by decide +kernel, served_of (by decide +kernel), by decide +kernel, 5, by decide +kernel⟩⟩

end Rings

namespace Reports

def rg (s : State) : State := (ring 62 (ring 63 (ring 33 (ring 32 (ring 1 (ring 0 (ring 20 (ring 50 (act s))))))))).set (Reg.RING_CFG_CQ 20) 1

def pt (x : Frame) : State := {rg up8 with path := { path0 with frames := [(0, {x with punt := 3}), (2, {x with punt := 0})], nextFrame := 3 }, buf := poolBead}

def noroom (n : Nat) (s : State) : State := s.off (Reg.RING_CFG_ENABLE n)

def x0 : Frame := {fwd with destKind := 2, copies := 1}

def sw (s : State) : State := (s.on Reg.RING_CNT_CTRL_EN).set Reg.RING_CNT_CTRL_PERIOD_MS 5

def state1 : State := pt x0

def state7 : State := (pt x0).set Reg.HLINK_STATUS_STATE 3

def state11 : State := rg up8

def state12 : State := sw (rg up8)

def state14 : State := H (fun h => {h with sweep := [⟨0, zeros 64, false, ⟨0,false,.clean,0⟩⟩]}) (sw (rg up8))

def ev (l : List (Nat × Nat)) (s : State) : State := {s with events := {s.events with reports := l}}

def ka (k : Nat) (s : State) : State := {s.set Reg.EVT_CTRL_KEEPALIVE_US 100 with events := {s.events with keepFrom := k}}

def state21 : State := ev [(8, 77), (9, 5)] (rg up8)

def state23 : State := ev [(8, 77)] (noroom 63 (rg up8))

def state25 : State := ka (10^12) (rg up8)

def state29 : State := up.set Reg.SYS_FUNC_STATUS_STATE (2^20)

theorem witness_PuntsAndSweepsReachTheHost :
  (∃ (s : State), s.running = true ∧ ∃ (f : Nat) (x : Frame) (n : Nat), s.frame f = some x ∧ x.punt ≠ 0 ∧ x.ended = true ∧ (x.stage =
    Stage.walking ∨ x.stage = Stage.linked) ∧ n = s.puntRing x.mark.cls ∧ 32 ≤ n ∧ n < 48 ∧ x.port < 1024 ∧ x.damaged = false ∧ s.ringRoom
    n 1 = true ∧ s.canWrite = false) ∧
  (∃ (s : State), s.running = true ∧ ∃ (f : Nat) (x : Frame) (n : Nat), s.frame f = some x ∧ x.punt ≠ 0 ∧ x.ended = true ∧ (x.stage =
    Stage.walking ∨ x.stage = Stage.linked) ∧ n = s.puntRing x.mark.cls ∧ 32 ≤ n ∧ n < 48 ∧ x.port < 1024 ∧ (x.damaged = true ∨ s.ringRoom
    n 1 = false ∨ s.canWrite = true)) ∧
  (∃ (s : State), s.running = true ∧ ∃ (met : List (Nat × ReadOutcome)), s.dramServes = false ∨ s.bit Reg.RING_CNT_CTRL_EN = false ∨
    s.cycle < s.host.sweepAt + s.get Reg.RING_CNT_CTRL_PERIOD_MS * msCycles) ∧
  (∃ (s : State), s.running = true ∧ ∃ (met : List (Nat × ReadOutcome)), s.dramServes = true ∧ s.bit Reg.RING_CNT_CTRL_EN = true ∧
    s.host.sweepAt + s.get Reg.RING_CNT_CTRL_PERIOD_MS * msCycles ≤ s.cycle ∧ s.host.sweep ≠ []) ∧
  (∃ (s : State), s.running = true ∧ ∃ (met : List (Nat × ReadOutcome)), s.dramServes = true ∧ s.bit Reg.RING_CNT_CTRL_EN = true ∧
    s.host.sweepAt + s.get Reg.RING_CNT_CTRL_PERIOD_MS * msCycles ≤ s.cycle ∧ s.host.sweep = [] ∧ s.devIndex 62 < 2 ^ 32) :=
  ⟨⟨state7, by decide +kernel, 0, _, _, rfl, by decide +kernel, by decide +kernel, by decide +kernel, rfl, by decide +kernel⟩,
   ⟨state1, by decide +kernel, 0, _, _, rfl, by decide +kernel, by decide +kernel, by decide +kernel, rfl, by decide +kernel⟩,
   ⟨state1, by decide +kernel, [], by decide +kernel⟩,
   ⟨state14, by decide +kernel, [], by decide +kernel⟩,
   ⟨state12, by decide +kernel, [], by decide +kernel⟩⟩

theorem witness_EventsAreCollectedReportedAndKeptAlive :
  (∃ (s : State), s.running = true ∧ ∃ b < 13, s.funcUp Func.ring = true) ∧
  (∃ (s : State), s.running = true ∧ ∃ b < 13, s.funcUp Func.ring = false) ∧
  (∃ (s : State), s.running = true ∧ ∃ (n : Nat) (st : Nat), mapSorted s.events.reports = true ∧ mapFind s.events.reports n = some st ∧ (∀
    (m : Nat), (mapFind s.events.reports m).isSome = true → s.severity m < s.severity n ∨ s.severity m = s.severity n ∧ n ≤ m) ∧
    s.ringRoom 63 1 = true ∧ s.canWrite = true ∧ s.devIndex 63 < 2 ^ 32) ∧
  (∃ (s : State), s.running = true ∧ ∃ (n : Nat) (st : Nat), mapSorted s.events.reports = true ∧ mapFind s.events.reports n = some st ∧ (∀
    (m : Nat), (mapFind s.events.reports m).isSome = true → s.severity m < s.severity n ∨ s.severity m = s.severity n ∧ n ≤ m) ∧
    (s.ringRoom 63 1 = false ∨ s.canWrite = false)) ∧
  (∃ (s : State), s.running = true ∧ ∃ (w : Nat) (v : Nat), s.served ∧ s.funcUp Func.ring = true ∧ w < 128 ∧ v < 2 ^ 32 ∧ ∃ n ∈
    fatalSources, n / 32 = w ∧ bitOf v (n % 32) = true) ∧
  (∃ (s : State), s.running = true ∧ ∃ (w : Nat) (v : Nat), s.served ∧ s.funcUp Func.ring = true ∧ w < 128 ∧ v < 2 ^ 32 ∧ ∀ n ∈
    fatalSources, n / 32 = w → bitOf v (n % 32) = false) ∧
  (∃ (s : State), s.running = true ∧ (s.get Reg.EVT_CTRL_KEEPALIVE_US = 0 ∨ s.cycle < s.events.keepFrom + s.get Reg.EVT_CTRL_KEEPALIVE_US
    * usCycles ∨ s.canWrite = false)) ∧
  (∃ (s : State), s.running = true ∧ s.get Reg.EVT_CTRL_KEEPALIVE_US ≠ 0 ∧ s.events.keepFrom + s.get Reg.EVT_CTRL_KEEPALIVE_US * usCycles
    ≤ s.cycle ∧ s.canWrite = true) ∧
  (∃ (s : State), s.running = true ∧ ∃ (v : Nat), s.served ∧ s.funcUp Func.ring = true ∧ v < 2 ^ 16) :=
  ⟨⟨state11, by decide +kernel, 0, by decide +kernel⟩,
   ⟨state29, by decide +kernel, 0, by decide +kernel⟩,
   ⟨state21, by decide +kernel, 8, _, by decide +kernel, rfl, found_of (by decide +kernel), by decide +kernel⟩,
   ⟨state23, by decide +kernel, 8, _, by decide +kernel, rfl, found_of (by decide +kernel), by decide +kernel⟩,
   ⟨state11, by decide +kernel, 112, 4294967295, served_of (by decide +kernel), by decide +kernel⟩,
   ⟨state11, by decide +kernel, 0, 0, served_of (by decide +kernel), by decide +kernel⟩,
   ⟨state25, by decide +kernel⟩,
   ⟨state11, by decide +kernel⟩,
   ⟨state11, by decide +kernel, 0, served_of (by decide +kernel), by decide +kernel⟩⟩

end Reports

namespace StartUp

def act1 (s : State) : State := H (fun h => {h with reads := [(3, ⟨.data 20 0, 64, 0⟩)]}) (act s)

def rg (s : State) : State := (ring 62 (ring 63 (ring 33 (ring 32 (ring 1 (ring 0 (ring 20 (ring 50 (act1 s))))))))).set (Reg.RING_CFG_CQ 20) 1

def stt (k : Nat) (s : State) : State := s.set Reg.PAIR_STATUS_STATE k

def busy : State := stt paSyncing ((running (withFdb (fdbE 0 9 false) (withLpm (lpmE 1 5) (withCopy (cp 3 true) (rg up8))))).off Reg.TALLY_CTRL_ENABLE)

def runTal (s : State) : State := (tal (fun y => {y with ring := [⟨recd 3,false⟩]}) (running s))

def ri (l : List Nat) (s : State) : State := {s with plat := {s.plat with reinit := l}}

def state1 : State := runTal (rg up8)

def state2 : State := ri [5] up

def rdy (s : State) : State := (s.set Reg.DRAM_TRAIN_STATUS 2).off Reg.SYS_START_STATUS_READY

def F0 (s : State) : State := { s with fdb := { s.fdb with entries := [(0, fdbE 0 9 false)] } }

def scr : State := {(withRule (rule 0 2) (F0 (withLpm (lpmE 1 5) (rg up8)))).on Reg.SYS_SCRUB_CTRL_EN with flow := {up.flow with contexts := [(4, ctx (zeros 48))]}}

def cch : State := {scr with flow := {scr.flow with contexts := [(4, ctx (zeros 48))], cache := [(setOf 4, [4])]}}

def wd (l : List Nat) (s : State) : State := {s with buf := {s.buf with withdrawn := l}}

def bs (k b : Nat) (s : State) : State := (s.set Reg.SYS_BIST_STATUS_STATE k).set Reg.SYS_BIST_STATUS_BLOCK b

def late (k : Nat) (b : Bool) (s : State) : State := {s with die := {s.die with releasedAt := k}, plat := {s.plat with lateSeen := b}}

def state6 : State := cch.off Reg.SYS_SCRUB_CTRL_EN

def state7 : State := rdy (rg up8)

def state10 : State := late (10^12) false (rg up8)

def state15 : State := wd [5] up

def state16 : State := bs 1 5 (wd [5] up)

theorem witness_FunctionResetsAndTheWarmReset :
  (∃ (s : State), s.running = true ∧ s.served ∧ ∃ v < 4096, bitOf v 9 = true ∧ bitOf v 2 = false ∧ (s.bit Reg.TALLY_CTRL_ENABLE = true ∨
    s.get Reg.TALLY_RING_LEVEL_LEVEL ≠ 0)) ∧
  (∃ (s : State), s.running = true ∧ s.served ∧ ∃ (n : Nat) (f : Func), n < 12 ∧ funcOf n = some f ∧ (n = 9 → s.bit Reg.TALLY_CTRL_ENABLE
    = false ∧ s.get Reg.TALLY_RING_LEVEL_LEVEL = 0)) ∧
  (∃ (s : State), s.running = true ∧ ∃ (n : Nat) (f : Func) (ok : Bool), n < 12 ∧ funcOf n = some f ∧ n ∈ s.plat.reinit ∧ (f = Func.dram →
    s.get Reg.DRAM_TRAIN_STATUS ≠ 1) ∧ ∃ (good : Bool), good = if f = Func.dram then decide (s.get Reg.DRAM_TRAIN_STATUS = 2) else ok) ∧
  (∃ (s : State), s.running = true ∧ ∃ (n : Nat) (ok : Bool), n < 12 ∧ n ∉ s.plat.reinit) ∧
  (∃ (s : State), s.running = true ∧ s.served) :=
  ⟨⟨state1, by decide +kernel, served_of (by decide +kernel), 512, by decide +kernel⟩,
   ⟨busy, by decide +kernel, served_of (by decide +kernel), 0, _, by decide +kernel, rfl, by decide +kernel⟩,
   ⟨state2, by decide +kernel, _, _, true, by decide +kernel, rfl, List.mem_of_getElem? (i := 0) rfl, by decide +kernel, _, rfl⟩,
   ⟨busy, by decide +kernel, 0, true, by decide +kernel⟩,
   ⟨busy, by decide +kernel, served_of (by decide +kernel)⟩⟩

theorem witness_StartUpScrubAndBlockTests :
  (∃ (s : State), s.running = true ∧ s.linkActive = true ∧ s.get Reg.SEC_BOOT_STATE = 1 ∧ s.get Reg.DRAM_TRAIN_STATUS = 2 ∧ (∀ (f : Func),
    s.funcUp f = true) ∧ s.get Reg.SYS_FUNC_STATUS_STATE < 2 ^ 24 ∧ s.bit Reg.SYS_START_STATUS_READY = false) ∧
  (∃ (s : State), s.running = true ∧ (s.linkActive = false ∨ s.get Reg.SEC_BOOT_STATE ≠ 1 ∨ s.get Reg.DRAM_TRAIN_STATUS ≠ 2 ∨ ∃ (f :
    Func), s.funcUp f = false)) ∧
  (∃ (s : State), s.running = true ∧ s.plat.lateSeen = false ∧ s.die.releasedAt + 600 * msCycles ≤ s.cycle) ∧
  (∃ (s : State), s.running = true ∧ s.cycle < s.die.releasedAt + 600 * msCycles) ∧
  (∃ (s : State), s.running = true ∧ s.bit Reg.SYS_SCRUB_CTRL_EN = true ∧ ∃ (p : Nat) (e : FdbEntry), mapFind s.fdb.entries p = some e) ∧
  (∃ (s : State), s.running = true ∧ s.bit Reg.SYS_SCRUB_CTRL_EN = true ∧ ∃ (i : Nat) (c : Context), s.cached i = true ∧ mapFind
    s.flow.contexts i = some c) ∧
  (∃ (s : State), s.running = true ∧ s.bit Reg.SYS_SCRUB_CTRL_EN = true ∧ ∃ (tag : Nat) (n : Nat) (e : Nat), tag < 4 ∧ mapFind (s.ruleSet
    tag) n = some e) ∧
  (∃ (s : State), s.running = true ∧ s.bit Reg.SYS_SCRUB_CTRL_EN = true ∧ ∃ (r : Nat) (e : LpmEntry), List.find? (fun (x : Nat ×
    LpmEntry) => x.1 == r) s.lpm.rows = some (r, e)) :=
  ⟨⟨state7, by decide +kernel, by decide +kernel, by decide +kernel, by decide +kernel, fun f => by cases f <;> decide +kernel,
     by decide +kernel⟩,
   ⟨cch, by decide +kernel, .inr (.inr (.inl (by decide +kernel)))⟩,
   ⟨cch, by decide +kernel⟩,
   ⟨state10, by decide +kernel⟩,
   ⟨cch, by decide +kernel, by decide +kernel, 0, _, rfl⟩,
   ⟨cch, by decide +kernel, by decide +kernel, 4, _, cached_of rfl, rfl⟩,
   ⟨cch, by decide +kernel, by decide +kernel, 0, 0, _, by decide +kernel, rfl⟩,
   ⟨cch, by decide +kernel, by decide +kernel, ((List.map (fun (x : Nat × LpmEntry) => x.1) scr.lpm.rows).headD 999), _, rfl⟩⟩

theorem witness_StartUpScrubAndBlockTests_2 :
  (∃ (s : State), s.running = true ∧ s.bit Reg.SYS_SCRUB_CTRL_EN = false ∧ ∃ (p : Nat) (e : FdbEntry), mapFind s.fdb.entries p = some e) ∧
  (∃ (s : State), s.running = true ∧ s.bit Reg.SYS_SCRUB_CTRL_EN = false ∧ ∃ (i : Nat) (o : FetchResult), s.cached i = true) ∧
  (∃ (s : State), s.running = true ∧ s.bit Reg.SYS_SCRUB_CTRL_EN = false ∧ ∃ (tag : Nat) (n : Nat) (e : Nat), tag < 4 ∧ mapFind (s.ruleSet
    tag) n = some e) ∧
  (∃ (s : State), s.running = true ∧ ∃ (b : Nat), s.served ∧ b < 128 ∧ b ∉ s.buf.withdrawn) ∧
  (∃ (s : State), s.running = true ∧ ∃ (b : Nat), s.served ∧ b < 128 ∧ b ∈ s.buf.withdrawn ∧ s.get Reg.SYS_BIST_STATUS_STATE = 1) ∧
  (∃ (s : State), s.running = true ∧ ∃ (b : Nat), s.served ∧ b < 128 ∧ b ∈ s.buf.withdrawn ∧ s.get Reg.SYS_BIST_STATUS_STATE ≠ 1) ∧
  (∃ (s : State), s.running = true ∧ ∃ (r : Option Nat), (∀ (k : Nat), r = some k → k < 4096) ∧ s.get Reg.SYS_BIST_STATUS_STATE = 1) ∧
  (∃ (s : State), s.running = true ∧ ∃ (r : Option Nat), (∀ (k : Nat), r = some k → k < 4096) ∧ s.get Reg.SYS_BIST_STATUS_STATE ≠ 1) :=
  ⟨⟨state6, by decide +kernel, by decide +kernel, 0, _, rfl⟩,
   ⟨state6, by decide +kernel, by decide +kernel, 4, FetchResult.keyError, cached_of rfl⟩,
   ⟨state6, by decide +kernel, by decide +kernel, 0, 0, _, by decide +kernel, rfl⟩,
   ⟨cch, by decide +kernel, 5, served_of (by decide +kernel), by decide +kernel⟩,
   ⟨state16, by decide +kernel, 5, served_of (by decide +kernel), by decide +kernel⟩,
   ⟨state15, by decide +kernel, 5, served_of (by decide +kernel), by decide +kernel⟩,
   ⟨state16, by decide +kernel, none, fun k h => by cases h <;> decide +kernel, by decide +kernel⟩,
   ⟨cch, by decide +kernel, none, fun k h => by cases h <;> decide +kernel, by decide +kernel⟩⟩

end StartUp

namespace Reckoners

def RK (f : ReckSt → ReckSt) (s : State) : State := {s with reck := f s.reck}

def rt (k : RoutineKind) (q : Nat) (c : Option CmdIn := none) : Routine := ⟨k, c, q, 0, 0, false, 0, 0, false, none⟩

def pst (k : Nat) (s : State) := s.set Reg.RCK_PATCH_STATUS_STATE k

def chk (l : List Byte) (n : Nat) (s : State) : State := pst 1 (RK (fun r => {r with checking := some n, stage := (List.range l.length).zip l}) s)

def wtg (l : List Routine) (s : State) : State := RK (fun r => {r with waiting := l}) s

def eng (e : Nat) (r : Routine) (s : State) : State := RK (fun x => {x with engines := (e, r) :: x.engines}) s

def c16 : CmdIn := ⟨16, 0, 0, 5, 0, 0, []⟩

def allE (k : Nat → RoutineKind) (s : State) : State := RK (fun x => {x with engines := (List.range 8).map fun e => (e, rt (k e) (100 + e))}) s

def state1 : State := pst 1 up

def state4 : State := chk [] 464 up

def state7 : State := wtg [rt .tallySeal 3] up

def state11 : State := eng 2 (rt .tallySeal 7) up

def state12 : State := wtg [rt (.portFlush 4) 9] (allE (fun e => [.ruleCommit, .lpmInsert, .fdbFlush, .withdraw, .lpmMove 3, .dramTraining, .tallySeal, .stuckReclaim e].getD e .tallySeal) up)

def state15 : State := wtg [rt .ruleCommit 3 (some c16)] (stg st0)

def state16 : State := wtg [rt .ruleCommit 3 (some c16)] st0

def state18 : State := eng 2 (rt .withdraw 7) up

def state22 : State := eng 2 (rt (.stuckReclaim 131) 7) (withCopy (cp 3 true) up8)

def state23 : State := eng 2 (rt (.portFlush 8) 7) (withCopy (cp 3 true) up8)

def bt (st : Nat) (s : State) : State := {(s.set Reg.SEC_BOOT_STATE 0).set Reg.SEC_BOOT_STAGE st with reck := reck0}

def SC (f : SecSt → SecSt) (s : State) : State := {s with sec := f s.sec}

def at_ (c : CmdIn) : State := R 16 (fun r => {r with running := some (0x60, c)}) up

def a0 : CmdIn := ⟨16, 0, 0, 5, 0, 16, zeros 32⟩

def a2 : CmdIn := ⟨16, 0, 0, 5, 1, 16, []⟩

def a3 : CmdIn := ⟨16, 0, 0, 5, 1, 16, zeros 32⟩

def usable (s : State) : State := (SC (fun x => {x with fuses := patchAt x.fuses 8 [1]}) s).on Reg.SEC_LIFECYCLE_ID_OK

def bst (k : Nat) (s : State) := s.set Reg.SEC_BUNDLE_STATUS_STATE k

def stage (l : List Byte) (s : State) : State := SC (fun x => {x with stage := (List.range l.length).zip l}) s

def state24 : State := bt 0 up

def state25 : State := bt 1 up

def state26 : State := bt 2 up

def state28 : State := bt 4 up

def state32 : State := usable (at_ a0)

def state36 : State := bst 1 up

def state37 : State := bst 2 up

theorem witness_ReckonersRunPatchesAndRoutines :
  (∃ (s : State), s.running = true ∧ s.served ∧ ∃ (load : Bool) (len : Nat) (v : Nat), len < 2 ^ 15 ∧ v = 2 ^ 31 * b2n load + len ∧ (len <
    464 ∨ 25552 < len)) ∧
  (∃ (s : State), s.running = true ∧ s.served ∧ ∃ (load : Bool) (len : Nat) (v : Nat), len < 2 ^ 15 ∧ v = 2 ^ 31 * b2n load + len ∧ 464 ≤
    len ∧ len ≤ 25552 ∧ load = true ∧ (s.get Reg.RCK_PATCH_STATUS_STATE = 1 ∨ s.get Reg.RCK_PATCH_STATUS_STATE = 2)) ∧
  (∃ (s : State), s.running = true ∧ s.served ∧ ∃ (load : Bool) (len : Nat) (v : Nat), len < 2 ^ 15 ∧ v = 2 ^ 31 * b2n load + len ∧ 464 ≤
    len ∧ len ≤ 25552 ∧ load = true ∧ s.get Reg.RCK_PATCH_STATUS_STATE ≠ 1 ∧ s.get Reg.RCK_PATCH_STATUS_STATE ≠ 2) ∧
  (∃ (s : State), s.running = true ∧ s.served ∧ ∃ (load : Bool) (len : Nat) (v : Nat), len < 2 ^ 15 ∧ v = 2 ^ 31 * b2n load + len ∧ 464 ≤
    len ∧ len ≤ 25552 ∧ load = false) ∧
  (∃ (s : State), s.running = true ∧ ∃ (len : Nat) (b : List Byte), s.reck.checking = some len ∧ b = stagedBytes s.reck.stage len) ∧
  (∃ (s : State), s.running = true ∧ ∃ (all : List (Bool × Routine)) (can : List (Bool × Routine)), s.freshCommit = none ∧ all = List.map
    (fun (r : Routine) => (true, r)) s.reck.suspended ++ List.map (fun (r : Routine) => (false, r)) s.reck.waiting ∧ can = List.filter
    (fun (x : Bool × Routine) => s.mayStart x.2 && (x.1 || s.lpmTurn x.2 && s.inOrder x.2) && (s.freeEngine x.2.kind).isSome) all ∧ can =
    []) ∧
  (∃ (s : State), s.running = true ∧ ∃ (all : List (Bool × Routine)) (can : List (Bool × Routine)), s.freshCommit = none ∧ all = List.map
    (fun (r : Routine) => (true, r)) s.reck.suspended ++ List.map (fun (r : Routine) => (false, r)) s.reck.waiting ∧ can = List.filter
    (fun (x : Bool × Routine) => s.mayStart x.2 && (x.1 || s.lpmTurn x.2 && s.inOrder x.2) && (s.freeEngine x.2.kind).isSome) all ∧ ∃
    (susp : Bool) (r : Routine) (e : Nat) (y : Routine), (susp, r) ∈ can ∧ s.freeEngine r.kind = some e ∧ (∀ x ∈ can, x ≠ (susp, r) →
    before (susp, r) x = true) ∧ (y = if susp = true then r else { r with patched := s.get Reg.RCK_PATCH_STATUS_STATE == 2, began := if
    r.kind = RoutineKind.lpmFlush then s.lpm.changes else s.fdb.changes }) ∧ (r.kind ≠ RoutineKind.ruleCommit ∨ r.cmd = none ∨ r.tag ≠
    none)) :=
  ⟨⟨up, by decide +kernel, served_of (by decide +kernel), true, 0, _, by decide +kernel, rfl, by decide +kernel⟩,
   ⟨state1, by decide +kernel, served_of (by decide +kernel), true, 464, _, by decide +kernel, rfl, by decide +kernel⟩,
   ⟨up, by decide +kernel, served_of (by decide +kernel), true, 464, _, by decide +kernel, rfl, by decide +kernel⟩,
   ⟨up, by decide +kernel, served_of (by decide +kernel), false, 464, _, by decide +kernel, rfl, by decide +kernel⟩,
   ⟨state4, by decide +kernel, _, _, rfl, rfl⟩,
   ⟨up, by decide +kernel, _, _, by decide +kernel, rfl, rfl, by decide +kernel⟩,
   ⟨state7, by decide +kernel, _, _, by decide +kernel, rfl, rfl, false, (rt RoutineKind.tallySeal 3), _, _, by decide +kernel, rfl,
     by decide +kernel, rfl, by decide +kernel⟩⟩

theorem witness_ReckonersRunPatchesAndRoutines_2 :
  (∃ (s : State), s.running = true ∧ ∃ (all : List (Bool × Routine)) (can : List (Bool × Routine)), s.freshCommit = none ∧ all = List.map
    (fun (r : Routine) => (true, r)) s.reck.suspended ++ List.map (fun (r : Routine) => (false, r)) s.reck.waiting ∧ can = List.filter
    (fun (x : Bool × Routine) => s.mayStart x.2 && (x.1 || s.lpmTurn x.2 && s.inOrder x.2) && (s.freeEngine x.2.kind).isSome) all ∧ ∃
    (susp : Bool) (r : Routine) (e : Nat) (y : Routine), (susp, r) ∈ can ∧ s.freeEngine r.kind = some e ∧ (∀ x ∈ can, x ≠ (susp, r) →
    before (susp, r) x = true) ∧ (y = if susp = true then r else { r with patched := s.get Reg.RCK_PATCH_STATUS_STATE == 2, began := if
    r.kind = RoutineKind.lpmFlush then s.lpm.changes else s.fdb.changes }) ∧ ∃ (c : CmdIn), r.kind = RoutineKind.ruleCommit ∧ r.cmd = some
    c ∧ r.tag = none ∧ c.ring < 64 ∧ ∃ (g : Nat), s.commitStart = Sum.inr g ∧ g < 4) ∧
  (∃ (s : State), s.running = true ∧ ∃ (all : List (Bool × Routine)) (can : List (Bool × Routine)), s.freshCommit = none ∧ all = List.map
    (fun (r : Routine) => (true, r)) s.reck.suspended ++ List.map (fun (r : Routine) => (false, r)) s.reck.waiting ∧ can = List.filter
    (fun (x : Bool × Routine) => s.mayStart x.2 && (x.1 || s.lpmTurn x.2 && s.inOrder x.2) && (s.freeEngine x.2.kind).isSome) all ∧ ∃
    (susp : Bool) (r : Routine) (e : Nat) (y : Routine), (susp, r) ∈ can ∧ s.freeEngine r.kind = some e ∧ (∀ x ∈ can, x ≠ (susp, r) →
    before (susp, r) x = true) ∧ (y = if susp = true then r else { r with patched := s.get Reg.RCK_PATCH_STATUS_STATE == 2, began := if
    r.kind = RoutineKind.lpmFlush then s.lpm.changes else s.fdb.changes }) ∧ ∃ (c : CmdIn), r.kind = RoutineKind.ruleCommit ∧ r.cmd = some
    c ∧ r.tag = none ∧ c.ring < 64 ∧ ∃ (a : CmdRes), s.commitStart = Sum.inl a) ∧
  (∃ (s : State), s.running = true ∧ ∃ (e : Nat) (r : Routine), e < 8 ∧ mapFind s.reck.engines e = some r ∧ (r.kind = RoutineKind.boot ∨
    r.kind = RoutineKind.tallySeal)) ∧
  (∃ (s : State), s.running = true ∧ ∃ (e : Nat) (r : Routine), e < 8 ∧ mapFind s.reck.engines e = some r ∧ (r.kind = RoutineKind.withdraw
    ∨ r.kind = RoutineKind.pairResync ∧ s.pair.walk = none ∨ r.kind = RoutineKind.ruleCommit ∧ r.cmd.isSome = true ∧ r.tag.isSome = true ∧
    256 * (r.progress + 1) < List.length s.stagedSet) ∧ ∃ (y : Routine), y = { r with progress := r.progress + 1, checkpoints :=
    r.checkpoints + 1 } ∧ (s.waitingFlush = none ∨ ∃ (f : Routine), s.waitingFlush = some f ∧ (s.freeEngine f.kind).isSome = true)) ∧
  (∃ (s : State), s.running = true ∧ ∃ (e : Nat) (r : Routine), e < 8 ∧ mapFind s.reck.engines e = some r ∧ (r.kind = RoutineKind.withdraw
    ∨ r.kind = RoutineKind.pairResync ∧ s.pair.walk = none ∨ r.kind = RoutineKind.ruleCommit ∧ r.cmd.isSome = true ∧ r.tag.isSome = true ∧
    256 * (r.progress + 1) < List.length s.stagedSet) ∧ ∃ (y : Routine), y = { r with progress := r.progress + 1, checkpoints :=
    r.checkpoints + 1 } ∧ ∃ (f : Routine), s.waitingFlush = some f ∧ (s.freeEngine f.kind).isSome = false) ∧
  (∃ (s : State), s.running = true ∧ ∃ (e : Nat) (r : Routine), e < 8 ∧ mapFind s.reck.engines e = some r ∧ ∃ (q : Nat), r.kind =
    RoutineKind.stuckReclaim q ∧ s.funcUp Func.buf = true ∧ s.funcUp Func.tm = true) ∧
  (∃ (s : State), s.running = true ∧ ∃ (e : Nat) (r : Routine), e < 8 ∧ mapFind s.reck.engines e = some r ∧ ∃ (p : Nat), r.kind =
    RoutineKind.portFlush p ∧ s.funcUp Func.buf = true ∧ s.funcUp Func.tm = true) :=
  ⟨⟨state15, by decide +kernel, _, _, by decide +kernel, rfl, rfl, false, (rt RoutineKind.ruleCommit 3 (some c16)), _, _,
     by decide +kernel, rfl, by decide +kernel, rfl, _, by decide +kernel, rfl, by decide +kernel, by decide +kernel, 1,
     by decide +kernel⟩,
   ⟨state16, by decide +kernel, _, _, by decide +kernel, rfl, rfl, false, (rt RoutineKind.ruleCommit 3 (some c16)), _, _,
     by decide +kernel, rfl, by decide +kernel, rfl, _, by decide +kernel, rfl, by decide +kernel, by decide +kernel, st0.commitResult,
     by decide +kernel⟩,
   ⟨state11, by decide +kernel, 2, _, by decide +kernel, rfl, by decide +kernel⟩,
   ⟨state18, by decide +kernel, 2, _, by decide +kernel, rfl, by decide +kernel, _, rfl, by decide +kernel⟩,
   ⟨state12, by decide +kernel, 3, _, by decide +kernel, rfl, by decide +kernel, _, rfl, _, rfl, by decide +kernel⟩,
   ⟨state22, by decide +kernel, 2, _, by decide +kernel, rfl, 131, by decide +kernel⟩,
   ⟨state23, by decide +kernel, 2, _, by decide +kernel, rfl, 8, by decide +kernel⟩⟩

theorem witness_BootAttestationBundlesAndTokens :
  (∃ (s : State), s.running = true ∧ ∃ (rom : Bool) (fuse : Bool) (id : Bool), s.get Reg.SEC_BOOT_STATE = 0 ∧ s.runsRoutine
    RoutineKind.boot = true ∧ s.get Reg.SEC_BOOT_STAGE = 0 ∧ rom = false) ∧
  (∃ (s : State), s.running = true ∧ ∃ (rom : Bool) (fuse : Bool) (id : Bool), s.get Reg.SEC_BOOT_STATE = 0 ∧ s.runsRoutine
    RoutineKind.boot = true ∧ s.get Reg.SEC_BOOT_STAGE = 0 ∧ rom = true ∧ (fuse = false ∨ s.checkWordOk = false)) ∧
  (∃ (s : State), s.running = true ∧ ∃ (rom : Bool) (fuse : Bool) (id : Bool), s.get Reg.SEC_BOOT_STATE = 0 ∧ s.runsRoutine
    RoutineKind.boot = true ∧ s.get Reg.SEC_BOOT_STAGE = 0 ∧ rom = true ∧ fuse = true ∧ s.checkWordOk = true) ∧
  (∃ (s : State), s.running = true ∧ ∃ (rom : Bool) (fuse : Bool) (id : Bool), s.get Reg.SEC_BOOT_STATE = 0 ∧ s.runsRoutine
    RoutineKind.boot = true ∧ s.get Reg.SEC_BOOT_STAGE = 1) ∧
  (∃ (s : State), s.running = true ∧ ∃ (rom : Bool) (fuse : Bool) (id : Bool), s.get Reg.SEC_BOOT_STATE = 0 ∧ s.runsRoutine
    RoutineKind.boot = true ∧ (s.get Reg.SEC_BOOT_STAGE = 2 ∨ s.get Reg.SEC_BOOT_STAGE = 3)) ∧
  (∃ (s : State), s.running = true ∧ ∃ (rom : Bool) (fuse : Bool) (id : Bool), s.get Reg.SEC_BOOT_STATE = 0 ∧ s.runsRoutine
    RoutineKind.boot = true ∧ s.get Reg.SEC_BOOT_STAGE = 4) ∧
  (∃ (s : State), s.running = true ∧ ∃ (rom : Bool) (fuse : Bool) (id : Bool), s.get Reg.SEC_BOOT_STATE = 0 ∧ s.runsRoutine
    RoutineKind.boot = true ∧ ∃ (t : State), exec (Instr.bootStage rom fuse id) s = Host.Outcome.next t) ∧
  (∃ (s : State), s.running = true ∧ ∃ (rom : Bool) (fuse : Bool) (id : Bool), s.get Reg.SEC_BOOT_STATE ≠ 0 ∨ s.runsRoutine
    RoutineKind.boot = false) ∧
  (∃ (s : State), s.running = true ∧ ∃ (c : CmdIn), s.accepts 96 c ∧ ∃ (k : Nat), (k = if c.param = 0 then 32 else 0) ∧ c.input.length ≠
    k) :=
  ⟨⟨state24, by decide +kernel, false, true, true, by decide +kernel⟩,
   ⟨state24, by decide +kernel, true, false, true, by decide +kernel⟩,
   ⟨state24, by decide +kernel, true, true, true, by decide +kernel⟩,
   ⟨state25, by decide +kernel, true, true, true, by decide +kernel⟩,
   ⟨state26, by decide +kernel, true, true, true, by decide +kernel⟩,
   ⟨state28, by decide +kernel, true, true, true, by decide +kernel⟩,
   ⟨state24, by decide +kernel, true, true, true, by decide +kernel, by decide +kernel, _, rfl⟩,
   ⟨up, by decide +kernel, true, true, true, by decide +kernel⟩,
   ⟨up, by decide +kernel, a3, accepts_of (by decide +kernel), _, rfl, by decide +kernel⟩⟩

theorem witness_BootAttestationBundlesAndTokens_2 :
  (∃ (s : State), s.running = true ∧ ∃ (c : CmdIn), s.accepts 96 c ∧ ∃ (k : Nat), (k = if c.param = 0 then 32 else 0) ∧ c.input.length = k
    ∧ s.keyUsable = false) ∧
  (∃ (s : State), s.running = true ∧ ∃ (c : CmdIn), s.accepts 96 c ∧ ∃ (k : Nat), (k = if c.param = 0 then 32 else 0) ∧ c.param = 1 ∧
    c.input = [] ∧ s.keyUsable = true) ∧
  (∃ (s : State), s.running = true ∧ ∃ (c : CmdIn), s.accepts 96 c ∧ c.param = 0 ∧ c.input.length = 32 ∧ s.keyUsable = true) ∧
  (∃ (s : State), s.running = true ∧ s.served ∧ ∃ (kind : Bool), ∃ len < 2 ^ 11, ∃ (i : Instr), (i = if kind = true then
    Instr.debugTokenLoad (2 ^ 31 + 2 ^ 30 + len) else Instr.bundleLoad (2 ^ 31 + len)) ∧ (s.get Reg.SEC_BUNDLE_STATUS_STATE = 1 ∨ s.get
    Reg.SEC_BUNDLE_STATUS_STATE = 2)) ∧
  (∃ (s : State), s.running = true ∧ s.served ∧ ∃ (kind : Bool), ∃ len < 2 ^ 11, ∃ (i : Instr), (i = if kind = true then
    Instr.debugTokenLoad (2 ^ 31 + 2 ^ 30 + len) else Instr.bundleLoad (2 ^ 31 + len)) ∧ s.get Reg.SEC_BUNDLE_STATUS_STATE ≠ 1 ∧ s.get
    Reg.SEC_BUNDLE_STATUS_STATE ≠ 2 ∧ len ≠ if kind = true then 832 else 1104) ∧
  (∃ (s : State), s.running = true ∧ s.served ∧ ∃ (kind : Bool), ∃ len < 2 ^ 11, ∃ (i : Instr), (i = if kind = true then
    Instr.debugTokenLoad (2 ^ 31 + 2 ^ 30 + len) else Instr.bundleLoad (2 ^ 31 + len)) ∧ s.get Reg.SEC_BUNDLE_STATUS_STATE ≠ 1 ∧ s.get
    Reg.SEC_BUNDLE_STATUS_STATE ≠ 2 ∧ ∃ (b : List Byte), kind = false ∧ len = 1104 ∧ b = stagedBytes s.sec.stage 1104) ∧
  (∃ (s : State), s.running = true ∧ s.served ∧ ∃ (kind : Bool), ∃ len < 2 ^ 11, ∃ (i : Instr), (i = if kind = true then
    Instr.debugTokenLoad (2 ^ 31 + 2 ^ 30 + len) else Instr.bundleLoad (2 ^ 31 + len)) ∧ s.get Reg.SEC_BUNDLE_STATUS_STATE ≠ 1 ∧ s.get
    Reg.SEC_BUNDLE_STATUS_STATE ≠ 2 ∧ ∃ (b : List Byte), kind = true ∧ len = 832 ∧ b = stagedBytes s.sec.stage 832) ∧
  (∃ (s : State), s.running = true ∧ s.get Reg.SEC_BUNDLE_STATUS_STATE = 2 ∧ s.sec.ops.length < 16 ∧ s.sec.fuses.length = 512) ∧
  (∃ (s : State), s.running = true ∧ s.get Reg.SEC_BUNDLE_STATUS_STATE ≠ 2) :=
  ⟨⟨up, by decide +kernel, a0, accepts_of (by decide +kernel), _, rfl, by decide +kernel⟩,
   ⟨state32, by decide +kernel, a2, accepts_of (by decide +kernel), _, rfl, by decide +kernel⟩,
   ⟨state32, by decide +kernel, a0, accepts_of (by decide +kernel), by decide +kernel⟩,
   ⟨state36, by decide +kernel, served_of (by decide +kernel), true, 832, by decide +kernel, _, rfl, by decide +kernel⟩,
   ⟨up, by decide +kernel, served_of (by decide +kernel), true, 1104, by decide +kernel, _, rfl, by decide +kernel⟩,
   ⟨up, by decide +kernel, served_of (by decide +kernel), false, 1104, by decide +kernel, _, rfl, by decide +kernel, by decide +kernel, _,
     by decide +kernel, by decide +kernel, rfl⟩,
   ⟨up, by decide +kernel, served_of (by decide +kernel), true, 832, by decide +kernel, _, rfl, by decide +kernel, by decide +kernel, _,
     by decide +kernel, by decide +kernel, rfl⟩,
   ⟨state37, by decide +kernel⟩,
   ⟨state24, by decide +kernel⟩⟩

end Reckoners

namespace Roles

def P (f : PairSt → PairSt) (s : State) : State := {s with pair := f s.pair}

def st (k : Nat) (s : State) : State := s.set Reg.PAIR_STATUS_STATE k

def strap (sen en : Bool) (s : State) : State := {s with die := {s.die with straps := {s.die.straps with senior := sen, pairEn := en}}}

def peer (k : Nat) (s : State) : State := s.set Reg.PAIR_PEER_STATE k

def hin (s : State) : State := s.on Reg.PAIR_STATUS_HOLD_IN

def B (sen : Bool) (k : Nat) : State := P (fun p => {p with inSince := 5, outSince := some 5, prev := 5}) (st k (strap sen true up8))

def arm (s : State) : State := P (fun p => {p with armed := some 7}) s

def flt (s : State) : State := s.on Reg.PAIR_STATUS_HOLD_FAULT

def txing (s : State) : State := {s with ports := s.ports.map fun e => (e.1, {e.2 with tx := some ⟨⟨0,0,0,none,true⟩, 77, false, 0, 0, false, 5⟩})}

def state1 : State := B true 1

def state3 : State := flt (B true 1)

def state4 : State := hin (B true 1)

def state6 : State := peer 5 (B true 3)

def state13 : State := B false 4

def state15 : State := hin (arm (B false 5))

def state21 : State := txing (B true 4)

def state23 : State := peer 3 (B false 5)

def state28 : State := (arm (B false 5)).set Reg.PAIR_CTRL_ARM_MS 0

theorem witness_RolesFollowTheInterlock :
  (∃ (s : State), s.running = true ∧ s.served ∧ s.funcUp Func.pair = true ∧ ∃ (ok : Bool), ok = ((s.pairState == paDetached || s.pairState
    == paStale) && !s.holdIn && !s.bit Reg.PAIR_STATUS_HOLD_FAULT) ∧ ok = false) ∧
  (∃ (s : State), s.running = true ∧ s.served ∧ s.funcUp Func.pair = true ∧ ∃ (ok : Bool), ok = ((s.pairState == paDetached || s.pairState
    == paStale) && !s.holdIn && !s.bit Reg.PAIR_STATUS_HOLD_FAULT) ∧ ok = true) ∧
  (∃ (s : State), s.running = true ∧ s.served ∧ s.funcUp Func.pair = true ∧ ∃ (ok : Bool), ok = (s.pairState == paActive && s.get
    Reg.PAIR_PEER_STATE == paStandby) ∧ ok = false) ∧
  (∃ (s : State), s.running = true ∧ s.served ∧ s.funcUp Func.pair = true ∧ ∃ (ok : Bool), ok = (s.pairState == paActive && s.get
    Reg.PAIR_PEER_STATE == paStandby) ∧ ok = true) ∧
  (∃ (s : State), s.running = true ∧ ∃ (level : Bool), level = s.holdIn) ∧
  (∃ (s : State), s.running = true ∧ ∃ (level : Bool), level ≠ s.holdIn) ∧
  (∃ (s : State), s.running = true ∧ ∃ (k : Nat), s.pair.outSince = some k ∧ k + 300 ≤ s.cycle ∧ s.holdIn = false ∧ s.pair.inSince + 300 ≤
    s.cycle ∧ (s.pairState = paClaiming ∨ s.pairState = paActive)) ∧
  (∃ (s : State), s.running = true ∧ ∃ (k : Nat), s.pair.outSince = some k ∧ k + 300 ≤ s.cycle ∧ s.holdIn = false ∧ s.pair.inSince + 300 ≤
    s.cycle ∧ s.pairState ≠ paClaiming ∧ s.pairState ≠ paActive) :=
  ⟨⟨state3, by decide +kernel, served_of (by decide +kernel), by decide +kernel, _, rfl, by decide +kernel⟩,
   ⟨state1, by decide +kernel, served_of (by decide +kernel), by decide +kernel, _, rfl, by decide +kernel⟩,
   ⟨state1, by decide +kernel, served_of (by decide +kernel), by decide +kernel, _, rfl, by decide +kernel⟩,
   ⟨state6, by decide +kernel, served_of (by decide +kernel), by decide +kernel, _, rfl, by decide +kernel⟩,
   ⟨state1, by decide +kernel, false, by decide +kernel⟩,
   ⟨state1, by decide +kernel, true, by decide +kernel⟩,
   ⟨state6, by decide +kernel, _, rfl, by decide +kernel⟩,
   ⟨state1, by decide +kernel, _, rfl, by decide +kernel⟩⟩

theorem witness_RolesFollowTheInterlock_2 :
  (∃ (s : State), s.running = true ∧ (s.pair.outSince = none ∨ (∃ (k : Nat), s.pair.outSince = some k ∧ s.cycle < k + 300) ∨ s.holdIn =
    true ∨ s.cycle < s.pair.inSince + 300)) ∧
  (∃ (s : State), s.running = true ∧ s.pairState = paYielding ∧ ∀ e ∈ s.ports, e.2.tx = none) ∧
  (∃ (s : State), s.running = true ∧ s.pairState = paYielding ∧ ∃ e ∈ s.ports, e.2.tx ≠ none) ∧
  (∃ (s : State), s.running = true ∧ ∃ (bad : Bool), bad = (s.die.straps.pairEn && (s.get Reg.PAIR_PEER_STATE != 15 && s.bit
    Reg.PAIR_PEER_SENIOR == s.die.straps.senior
    || (match s.pair.mismatchFrom with | some k => decide (k + 10 * usCycles ≤ s.cycle) | none => false))) ∧ bad = true) ∧
  (∃ (s : State), s.running = true ∧ ∃ (bad : Bool), bad = (s.die.straps.pairEn && (s.get Reg.PAIR_PEER_STATE != 15 && s.bit
    Reg.PAIR_PEER_SENIOR == s.die.straps.senior
    || (match s.pair.mismatchFrom with | some k => decide (k + 10 * usCycles ≤ s.cycle) | none => false))) ∧ bad = false) ∧
  (∃ (s : State), s.running = true ∧ s.pairState = paStandby ∧ s.holdIn = false ∧ s.pair.inSince + usCycles ≤ s.cycle ∧ s.get
    Reg.PAIR_PEER_STATE = paActive ∧ s.pair.handoff = false ∧ (s.bit Reg.PAIR_STATUS_HOLD_FAULT = true → s.get Reg.PAIR_VERDICT_CAUSE ≠
    3)) ∧
  (∃ (s : State), s.running = true ∧ (s.pairState ≠ paStandby ∨ s.holdIn = true ∨ s.cycle < s.pair.inSince + usCycles ∨ s.get
    Reg.PAIR_PEER_STATE ≠ paActive ∨ s.pair.handoff = true)) ∧
  (∃ (s : State), s.running = true ∧ ∃ (k : Nat) (ms : Nat), s.pair.armed = some k ∧ ms = s.get Reg.PAIR_CTRL_ARM_MS ∧ ms ≠ 0 ∧ k + ms *
    msCycles ≤ s.cycle) ∧
  (∃ (s : State), s.running = true ∧ ∃ (k : Nat) (ms : Nat), s.pair.armed = some k ∧ ms = s.get Reg.PAIR_CTRL_ARM_MS ∧ (ms = 0 ∨ s.cycle <
    k + ms * msCycles)) :=
  ⟨⟨state4, by decide +kernel⟩,
   ⟨state13, by decide +kernel⟩,
   ⟨state21, by decide +kernel⟩,
   ⟨state23, by decide +kernel, _, rfl, by decide +kernel⟩,
   ⟨state1, by decide +kernel, _, rfl, by decide +kernel⟩,
   ⟨state23, by decide +kernel⟩,
   ⟨state1, by decide +kernel⟩,
   ⟨state15, by decide +kernel, _, _, rfl, rfl, by decide +kernel⟩,
   ⟨state28, by decide +kernel, _, _, rfl, rfl, by decide +kernel⟩⟩

end Roles

namespace Heartbeats

def P (f : PairSt → PairSt) (s : State) : State := {s with pair := f s.pair}

def st (k : Nat) (s : State) : State := s.set Reg.PAIR_STATUS_STATE k

def strap (sen en : Bool) (s : State) : State := {s with die := {s.die with straps := {s.die.straps with senior := sen, pairEn := en}}}

def peer (k : Nat) (s : State) : State := s.set Reg.PAIR_PEER_STATE k

def B (sen : Bool) (k : Nat) : State := P (fun p => {p with inSince := 5, outSince := some 5, prev := 5}) (st k (strap sen true up8))

def lup (s : State) : State := s.on Reg.PAIR_STATUS_LINK_UP

def J (sen : Bool) (k : Nat) : State := lup (P (fun p => {p with hbAt := 10^12 - 3}) (B sen k))

/-- a frame for a device with that SENIOR -/
def mf (toSen : Bool) (type seq : Nat) (pl : List Byte) : List Byte := (J (!toSen) 3).mirrorBytes type seq pl

def hb (f g : Nat) : List Byte := [BitVec.ofNat 8 f, BitVec.ofNat 8 g] ++ zeros 46

def aged (s : State) : State := P (fun p => {p with hbAt := 5}) s

def state1 : State := J true 3

def state2 : State := J false 5

def state10 : State := aged (J true 3)

theorem witness_HeartbeatsDigestsAndVerdicts :
  (∃ (s : State), s.running = true ∧ ∃ (on_ : Bool), on_ = (s.die.straps.pairEn && s.funcUp Func.pair && s.bit Reg.PAIR_STATUS_LINK_UP &&
    !s.mirrorIdle)) ∧
  (∃ (s : State), s.running = true ∧ ∃ (b : List Byte) (ok : Bool), s.mirrorIn b ok = none ∧ s.mirrorLinked = true ∧ s.sameSenior b ok =
    true) ∧
  (∃ (s : State), s.running = true ∧ ∃ (b : List Byte) (ok : Bool), s.mirrorIn b ok = none ∧ (s.mirrorLinked = false ∨ s.sameSenior b ok =
    false)) ∧
  (∃ (s : State), s.running = true ∧ ∃ (b : List Byte) (ok : Bool) (m : MirrorIn), s.mirrorIn b ok = some m ∧ s.mirrorLinked = true ∧
    m.type = 1 ∧ m.payload.length = 48 ∧ ∃ (f : Nat) (peer : Nat) (lapse : Bool) (broken : Bool), f = beAt m.payload 0 1 ∧ peer = f % 16 ∧
    lapse = (s.pair.hbLost && s.pair.armed.isSome) ∧ broken = (bitOf (beAt m.payload 1 1) 2 && peer == paActive && (s.pairState ==
    paStandby || s.pairState == paSyncing))) ∧
  (∃ (s : State), s.running = true ∧ (s.die.straps.pairEn = false ∨ s.funcUp Func.pair = false ∨ s.pair.hbLost = true ∨ s.cycle <
    s.pair.hbAt + 20 * usCycles)) ∧
  (∃ (s : State), s.running = true ∧ s.die.straps.pairEn = true ∧ s.funcUp Func.pair = true ∧ s.pair.hbLost = false ∧ s.pair.hbAt + 20 *
    usCycles ≤ s.cycle) ∧
  (∃ (s : State), s.running = true ∧ ∃ (b : List Byte) (ok : Bool) (m : MirrorIn), s.mirrorIn b ok = some m ∧ s.mirrorLinked = true ∧
    m.type = 5 ∧ s.pairState = paStandby ∧ s.bit Reg.PAIR_STATUS_HOLD_FAULT = false ∧ s.pair.armed = none) :=
  ⟨⟨up, by decide +kernel, _, rfl⟩,
   ⟨state1, by decide +kernel, (mf false 1 0 (hb 19 7)), true, by decide +kernel⟩,
   ⟨up, by decide +kernel, (mf true 1 0 (hb 6 3)), true, by decide +kernel⟩,
   ⟨state1, by decide +kernel, (mf true 1 0 (hb 6 3)), true, _, rfl, by decide +kernel, by decide +kernel, by decide +kernel, _, _, _, _,
     rfl, rfl, rfl, rfl⟩,
   ⟨up, by decide +kernel⟩,
   ⟨state10, by decide +kernel⟩,
   ⟨state2, by decide +kernel, (mf false 5 0 []), true, _, rfl, by decide +kernel⟩⟩

end Heartbeats

namespace Digests

def P (f : PairSt → PairSt) (s : State) : State := {s with pair := f s.pair}

def st (k : Nat) (s : State) : State := s.set Reg.PAIR_STATUS_STATE k

def strap (sen en : Bool) (s : State) : State := {s with die := {s.die with straps := {s.die.straps with senior := sen, pairEn := en}}}

def peer (k : Nat) (s : State) : State := s.set Reg.PAIR_PEER_STATE k

def B (sen : Bool) (k : Nat) : State := P (fun p => {p with inSince := 5, outSince := some 5, prev := 5}) (st k (strap sen true up8))

def lup (s : State) : State := s.on Reg.PAIR_STATUS_LINK_UP

def J (sen : Bool) (k : Nat) : State := lup (P (fun p => {p with hbAt := 10^12 - 3}) (B sen k))

def cmpS (k pk : Nat) : State := P (fun p => {p with peerLock := 2}) (peer pk (fol 0 (lkd 0 (J (k == 3) k))))

def dg (f : Nat → Nat) (e1 e2 : Bool) : List DigestFrame := (List.range 16).map fun k => ⟨64*k, e1, e2, (List.range 64).map fun i => f (64*k+i)⟩

def d0 : List DigestFrame := dg (fun _ => 0) false false

def now_ : Nat := (cmpS 3 5).windowNow

def xf (s : State) (w : Nat) (peer : List DigestFrame) : Nat → Nat := fun p => (mapGet s.pair.residual p 0 + mapGet s.pair.digests (1024 * w + p) 0 + 2 ^ 64 - peerDigest peer p) % 2 ^ 64

def state1 : State := cmpS 3 5

def state6 : State := P (fun p => {p with sentWindow := now_ - 1}) (cmpS 3 5)

theorem witness_HeartbeatsDigestsAndVerdicts_also :
  (∃ (s : State), s.running = true ∧ ∃ (w : Nat), w + 1 = s.windowNow ∧ s.mirrorLinked = true ∧ (s.pair.sentWindow < w ∨ w = 0)) ∧
  (∃ (s : State), s.running = true ∧ ∃ (w : Nat), w + 1 = s.windowNow ∧ s.mirrorLinked = true ∧ w ≤ s.pair.sentWindow ∧ w ≠ 0) ∧
  (∃ (s : State), s.running = true ∧ ∃ (w : Nat) (peer : List DigestFrame), s.comparing = false ∨ s.windowNow ≤ w ∨ w < s.pair.compared ∨
    digestsWhole peer = false) ∧
  (∃ (s : State), s.running = true ∧ ∃ (w : Nat) (peer : List DigestFrame), s.comparing = true ∧ w < s.windowNow ∧ s.pair.compared ≤ w ∧
    digestsWhole peer = true ∧ ∃ (x : Nat → Nat) (on_ : Nat → Prop), (∀ (p : Nat), x p = (mapGet s.pair.residual p 0 + mapGet
    s.pair.digests (1024 * w + p) 0 + 2 ^ 64 - peerDigest peer p) % 2 ^ 64) ∧ ∀ (p : Nat), on_ p ↔ p < 1024 ∧ bitOf (s.get
    (Reg.PAIR_CMP_MASK_MASK (p / 32))) (p % 32) = false) :=
  ⟨⟨state1, by decide +kernel, (now_ - 1), by decide +kernel⟩,
   ⟨state6, by decide +kernel, (now_ - 1), by decide +kernel⟩,
   ⟨state1, by decide +kernel, (now_ - 1), [], by decide +kernel⟩,
   ⟨state1, by decide +kernel, (now_ - 1), d0, by decide +kernel, by decide +kernel, by decide +kernel, by decide +kernel, (xf (cmpS 3 5)
     (now_ - 1) d0), (fun (p : Nat) => p < 1024 ∧ bitOf ((cmpS 3 5).get (Reg.PAIR_CMP_MASK_MASK (p / 32))) (p % 32) = false), fun p => rfl,
     fun p => Iff.rfl⟩⟩

end Digests

namespace Mirror

def P (f : PairSt → PairSt) (s : State) : State := {s with pair := f s.pair}

def st (k : Nat) (s : State) : State := s.set Reg.PAIR_STATUS_STATE k

def strap (sen en : Bool) (s : State) : State := {s with die := {s.die with straps := {s.die.straps with senior := sen, pairEn := en}}}

def peer (k : Nat) (s : State) : State := s.set Reg.PAIR_PEER_STATE k

def B (sen : Bool) (k : Nat) : State := P (fun p => {p with inSince := 5, outSince := some 5, prev := 5}) (st k (strap sen true up8))

def lup (s : State) : State := s.on Reg.PAIR_STATUS_LINK_UP

def J (sen : Bool) (k : Nat) : State := lup (P (fun p => {p with hbAt := 10^12 - 3}) (B sen k))

/-- a frame for a device with that SENIOR -/
def mf (toSen : Bool) (type seq : Nat) (pl : List Byte) : List Byte := (J (!toSen) 3).mirrorBytes type seq pl

def old (s : State) : State := P (fun p => {p with queue := [(1, 3, zeros 24)]}) s

def rec_ (op : Nat) (pl : List Byte) : List Byte := [BitVec.ofNat 8 op] ++ zeros 7 ++ pl

def sy (k : Nat) (s : State) : State := {s with flow := {s.flow with contexts := [(4, ctx (zeros 48))]}, fdb := {s.fdb with entries := [((fdbBuckets 1 0x001122334455).1, fdbE 0 9 false)]}} |> st k

def fw (k : Nat) (s : State) : State := P (fun p => {p with follow := true, activeAt := k}) s

def rs (s : State) : State := P (fun p => {p with resync := some (c16, 5)}) s where c16 : CmdIn := ⟨16, 0, 0, 5, 0, 0, []⟩

def rr (s : State) : State := s.modRing 16 fun r => {r with running := some (0x68, rs.c16)}

def state1 : State := J false 5

def state2 : State := sy 5 (J false 5)

def state3 : State := sy 6 (J false 6)

def state5 : State := J true 1

def state7 : State := old (J true 3)

def state8 : State := fw 5 (J true 3)

def state9 : State := fw (10^12) (J true 3)

def state15 : State := rr (peer 3 (J false 7))

def state17 : State := rr (rs (J false 6))

def state18 : State := P (fun p => {p with walk := some [(0x20, zeros 16)]}) (J true 3)

def value19 : List Byte := mf false 3 1 (rec_ 0x20 (fe_ 0x001122334455 1 1 1 7))

theorem witness_RecordsMirrorTheTablesAndResyncCopiesThem :
  (∃ (s : State), s.running = true ∧ ∃ (b : List Byte) (ok : Bool) (m : MirrorIn) (u : State) (op : Nat), s.mirrorIn b ok = some m ∧
    s.mirrorLinked = true ∧ (m.type = 3 ∨ m.type = 4) ∧ u = s.takeAck m.ack ∧ op = beAt m.payload 0 1 ∧ (m.seq ≠ (s.pair.ack + 1) % 2 ^ 32
    ∨ s.pairState ≠ paStandby ∧ s.pairState ≠ paSyncing ∧ (s.pairState ≠ paActive ∨ op ≠ 0 ∨ m.type ≠ 3))) ∧
  (∃ (s : State), s.running = true ∧ ∃ (b : List Byte) (ok : Bool) (m : MirrorIn) (u : State) (op : Nat), s.mirrorIn b ok = some m ∧
    s.mirrorLinked = true ∧ (m.type = 3 ∨ m.type = 4) ∧ u = s.takeAck m.ack ∧ op = beAt m.payload 0 1 ∧ m.seq = (s.pair.ack + 1) % 2 ^ 32
    ∧ (s.pairState = paStandby ∨ s.pairState = paSyncing) ∧ u.applyTable op (List.drop 8 m.payload) = Applied.broken) ∧
  (∃ (s : State), s.running = true ∧ ∃ (b : List Byte) (ok : Bool) (m : MirrorIn) (u : State) (op : Nat), s.mirrorIn b ok = some m ∧
    s.mirrorLinked = true ∧ (m.type = 3 ∨ m.type = 4) ∧ u = s.takeAck m.ack ∧ op = beAt m.payload 0 1 ∧ m.seq = (s.pair.ack + 1) % 2 ^ 32
    ∧ (s.pairState = paStandby ∨ s.pairState = paSyncing) ∧ ∃ (v : State), u.applyTable op (List.drop 8 m.payload) = Applied.done v) ∧
  (∃ (s : State), s.running = true ∧ ∃ (b : List Byte) (ok : Bool) (m : MirrorIn) (u : State) (op : Nat), s.mirrorIn b ok = some m ∧
    s.mirrorLinked = true ∧ (m.type = 3 ∨ m.type = 4) ∧ u = s.takeAck m.ack ∧ op = beAt m.payload 0 1 ∧ m.seq = (s.pair.ack + 1) % 2 ^ 32
    ∧ (s.pairState = paStandby ∨ s.pairState = paSyncing) ∧ ∃ (i : Nat) (c : Context), op = 52 ∧ s.contextOf (slice m.payload 8 48) = some
    (i, c)) ∧
  (∃ (s : State), s.running = true ∧ ∃ (b : List Byte) (ok : Bool) (m : MirrorIn) (u : State) (op : Nat), s.mirrorIn b ok = some m ∧
    s.mirrorLinked = true ∧ (m.type = 3 ∨ m.type = 4) ∧ u = s.takeAck m.ack ∧ op = beAt m.payload 0 1 ∧ m.seq = (s.pair.ack + 1) % 2 ^ 32
    ∧ (s.pairState = paStandby ∨ s.pairState = paSyncing) ∧ (op = 52 ∨ op = 49) ∧ s.contextOf (slice m.payload 8 48) = none) ∧
  (∃ (s : State), s.running = true ∧ ∃ (b : List Byte) (ok : Bool) (m : MirrorIn) (u : State) (op : Nat), s.mirrorIn b ok = some m ∧
    s.mirrorLinked = true ∧ (m.type = 3 ∨ m.type = 4) ∧ u = s.takeAck m.ack ∧ op = beAt m.payload 0 1 ∧ m.seq = (s.pair.ack + 1) % 2 ^ 32
    ∧ (s.pairState = paStandby ∨ s.pairState = paSyncing) ∧ ∃ (p : Nat) (e : FdbEntry), op = 32 ∧ fdbFind s.fdb.entries (fdbOf (List.drop
    8 m.payload)).vlan (fdbOf (List.drop 8 m.payload)).mac = some (p, e) ∧ e.bad = false) ∧
  (∃ (s : State), s.running = true ∧ s.pair.queue ≠ [] ∧ s.pair.ackAt + 4 * usCycles ≤ s.cycle) ∧
  (∃ (s : State), s.running = true ∧ (s.pair.queue = [] ∨ s.cycle < s.pair.ackAt + 4 * usCycles)) :=
  ⟨⟨state1, by decide +kernel, (mf false 3 5 (rec_ 32 (zeros 16))), true, _, _, _, rfl, by decide +kernel, by decide +kernel, rfl, rfl,
     by decide +kernel⟩,
   ⟨state1, by decide +kernel, (mf false 3 1 (rec_ 52 (zeros 48))), true, _, _, _, rfl, by decide +kernel, by decide +kernel, rfl, rfl,
     by decide +kernel, by decide +kernel, broken_of (by decide +kernel)⟩,
   ⟨state1, by decide +kernel, (mf false 4 1 (rec_ 33 (zeros 16))), true, _, _, _, rfl, by decide +kernel, by decide +kernel, rfl, rfl,
     by decide +kernel, by decide +kernel, done_of (by decide +kernel)⟩,
   ⟨state2, by decide +kernel, (mf false 3 1 (rec_ 52 (zeros 48))), true, _, _, _, rfl, by decide +kernel, by decide +kernel, rfl, rfl,
     by decide +kernel, by decide +kernel, _, _, by decide +kernel, rfl⟩,
   ⟨state1, by decide +kernel, (mf false 3 1 (rec_ 52 (zeros 48))), true, _, _, _, rfl, by decide +kernel, by decide +kernel, rfl, rfl,
     by decide +kernel⟩,
   ⟨state2, by decide +kernel, value19, true, _, _, _, rfl, by decide +kernel, by decide +kernel, rfl, rfl, by decide +kernel,
     by decide +kernel, _, _, by decide +kernel, find_home rfl (by decide +kernel) (by decide +kernel) (by decide +kernel),
     by decide +kernel⟩,
   ⟨state7, by decide +kernel⟩,
   ⟨state1, by decide +kernel⟩⟩

theorem witness_RecordsMirrorTheTablesAndResyncCopiesThem_2 :
  (∃ (s : State), s.running = true ∧ s.pairState = paActive ∧ s.pair.follow = true ∧ s.pair.activeAt + 50 * usCycles ≤ s.cycle) ∧
  (∃ (s : State), s.running = true ∧ s.pairState = paActive ∧ s.pair.follow = true ∧ s.cycle < s.pair.activeAt + 50 * usCycles) ∧
  (∃ (s : State), s.running = true ∧ ∃ (c : CmdIn), s.accepts 104 c ∧ (∀ (d : CmdIn) (n : Nat), s.pair.resync = some (d, n) → d ≠ c) ∧
    s.pairState = paStandby) ∧
  (∃ (s : State), s.running = true ∧ ∃ (c : CmdIn), s.accepts 104 c ∧ (∀ (d : CmdIn) (n : Nat), s.pair.resync = some (d, n) → d ≠ c) ∧
    (s.pairState = paSyncing ∨ drivesHold s.pairState = true)) ∧
  (∃ (s : State), s.running = true ∧ ∃ (c : CmdIn), s.accepts 104 c ∧ (∀ (d : CmdIn) (n : Nat), s.pair.resync = some (d, n) → d ≠ c) ∧
    s.get Reg.PAIR_PEER_STATE ≠ paActive ∧ (s.pairState = paDetached ∨ s.pairState = paStale)) ∧
  (∃ (s : State), s.running = true ∧ ∃ (c : CmdIn), s.accepts 104 c ∧ (∀ (d : CmdIn) (n : Nat), s.pair.resync = some (d, n) → d ≠ c) ∧
    s.get Reg.PAIR_PEER_STATE = paActive ∧ (s.pairState = paDetached ∨ s.pairState = paStale)) ∧
  (∃ (s : State), s.running = true ∧ ∃ (c : CmdIn) (n : Nat), s.pair.walk = none ∧ s.pair.resync = some (c, n) ∧ s.pairState = paSyncing) ∧
  (∃ (s : State), s.running = true ∧ ∃ (l : List (Nat × List Byte)), s.pair.walk = some l) ∧
  (∃ (s : State), s.running = true ∧ s.pair.walk = none ∧ s.pair.resync = none) :=
  ⟨⟨state8, by decide +kernel⟩,
   ⟨state9, by decide +kernel⟩,
   ⟨state1, by decide +kernel, rs.c16, accepts_of (by decide +kernel), resync_of (by decide +kernel), by decide +kernel⟩,
   ⟨state3, by decide +kernel, rs.c16, accepts_of (by decide +kernel), resync_of (by decide +kernel), by decide +kernel⟩,
   ⟨state5, by decide +kernel, rs.c16, accepts_of (by decide +kernel), resync_of (by decide +kernel), by decide +kernel⟩,
   ⟨state15, by decide +kernel, rs.c16, accepts_of (by decide +kernel), resync_of (by decide +kernel), by decide +kernel⟩,
   ⟨state17, by decide +kernel, _, _, by decide +kernel, rfl, by decide +kernel⟩,
   ⟨state18, by decide +kernel, _, rfl⟩,
   ⟨state1, by decide +kernel⟩⟩

end Mirror

namespace MirrorLater

def P (f : PairSt → PairSt) (s : State) : State := {s with pair := f s.pair}

def st (k : Nat) (s : State) : State := s.set Reg.PAIR_STATUS_STATE k

def strap (sen en : Bool) (s : State) : State := {s with die := {s.die with straps := {s.die.straps with senior := sen, pairEn := en}}}

def B (sen : Bool) (k : Nat) : State := P (fun p => {p with inSince := 5, outSince := some 5, prev := 5}) (st k (strap sen true up8))

def lup (s : State) : State := s.on Reg.PAIR_STATUS_LINK_UP

def J (sen : Bool) (k : Nat) : State := lup (P (fun p => {p with hbAt := 10^12 - 3}) (B sen k))

/-- a frame for a device with that SENIOR -/
def mf (toSen : Bool) (type seq : Nat) (pl : List Byte) : List Byte := (J (!toSen) 3).mirrorBytes type seq pl

def rec_ (op : Nat) (pl : List Byte) : List Byte := [BitVec.ofNat 8 op] ++ zeros 7 ++ pl

def lt : State := let s := full (J false 5); {s with rules := {s.rules with changes := [(3, none)]}}

theorem witness_RecordsMirrorTheTablesAndResyncCopiesThem_also :
  ∃ (s : State), s.running = true ∧ ∃ (b : List Byte) (ok : Bool) (m : MirrorIn) (u : State) (op : Nat), s.mirrorIn b ok = some m ∧
    s.mirrorLinked = true ∧ (m.type = 3 ∨ m.type = 4) ∧ u = s.takeAck m.ack ∧ op = beAt m.payload 0 1 ∧ m.seq = (s.pair.ack + 1) % 2 ^ 32
    ∧ (s.pairState = paStandby ∨ s.pairState = paSyncing) ∧ u.applyTable op (List.drop 8 m.payload) = Applied.later :=
  ⟨lt, by decide +kernel, (mf false 3 1 (rec_ 18 [])), true, _, _, _, rfl, by decide +kernel, by decide +kernel, rfl, rfl,
     by decide +kernel, by decide +kernel, later_of (by decide +kernel)⟩

end MirrorLater

namespace SpanAndTest

def st (k : Nat) (s : State) : State := s.set Reg.PAIR_STATUS_STATE k

/-- The span runs on the groups that a value of SPAN_CTRL names. -/
def on_ (v : Nat) : State :=
  let s := ((up.set Reg.SPAN_CTRL_EN (v % 2)).set Reg.SPAN_CTRL_GROUP_EN (v / 2 % 4)).set Reg.SPAN_CTRL_LEARN (v / 8)
  let s := if bitOf v 1 then (s.set (Reg.MAC_OCTET_MODE_MODE 120) 4).set (Reg.MAC_OCTET_MODE_MODE 121) 4 else s
  let s := if bitOf v 2 then (s.set (Reg.MAC_OCTET_MODE_MODE 124) 4).set (Reg.MAC_OCTET_MODE_MODE 125) 4 else s
  (s.on (Reg.MAC_PORT_CTRL_ENABLE 960)).set (Reg.MAC_PORT_FRAME_FRAME_MAX 960) 16000

def upPort (p : Nat) (s : State) : State := ((s.set (Reg.MAC_PORT_STATUS_STATE p) 2).on (Reg.MAC_PORT_STATUS_LINK_GOOD p))

def sp (v : Nat) : State := upPort 960 (on_ v)

def pa (s : State) : State := s.set Reg.SPAN_STATUS_PEER_ACTIVE 3

def hd (ty fl : Nat) : List Byte := beBytes 6 0x020000000100 ++ beBytes 6 0x020000000102 ++ [0x88, 0xB6, BitVec.ofNat 8 ty, BitVec.ofNat 8 fl]

def data (dest : Nat) (n : Nat) (lenAdd : Nat := 0) : List Byte := let b := hd 1 0 ++ beBytes 2 dest ++ beBytes 2 3 ++ [0x13, 2] ++ beBytes 4 (n + 4 + lenAdd) ++ zeros 4 ++ beBytes 16 77 ++ (eth [0x12,0x34] n); b ++ fcsBytes b

def ctl (st : Nat) (ups : List (Nat × Nat)) : List Byte := let b := hd 2 0 ++ zeros 14 ++ beBytes 16 77 ++ [BitVec.ofNat 8 st, BitVec.ofNat 8 ups.length] ++ ups.flatMap (fun u => beBytes 2 u.1 ++ beBytes 2 u.2); let b := b ++ zeros (60 - b.length); b ++ fcsBytes b

def nob (s : State) : State := {s with buf := {s.buf with withdrawn := List.range 128}}

def state1 : State := sp 7

def state4 : State := nob (pa (sp 7))

def state5 : State := pa (sp 7)

def gr (k : Nat) (s : State) : State := s.set Reg.SEC_DEBUG_STATUS_GRANTED k

def ed (s : State) : State := {s with plat := {s.plat with edges := [(0, 3), (9, 4)], obsAt := none}}

def md (m : DieMode) (s : State) : State := {s with die := {s.die with mode := m}}

def state11 : State := ed (gr 1 up8)

def state13 : State := md .off up8

theorem witness_SpanLinksJoinTwoDevices :
  ∃ (s : State), s.running = true ∧ s.served ∧ s.funcUp Func.pair = true ∧ ∃ v < 16, s.get Reg.SPAN_CTRL_EN < 2 ∧ ∃ (same : Bool) (free :
    Bool), same = decide (bits v 0 3 = s.get Reg.SPAN_CTRL_GROUP_EN * 2 + s.get Reg.SPAN_CTRL_EN) ∧ free = (!s.spanBusy && (s.pairState ==
    paUnpaired || s.pairState == paDetached || s.pairState == paStale)) ∧ bitOf v 0 = true ∧ bits v 1 2 = 0 :=
  ⟨up, by decide +kernel, served_of (by decide +kernel), by decide +kernel, 1, by decide +kernel, by decide +kernel, _, _, rfl, rfl,
     by decide +kernel⟩

theorem witness_SpanLinksJoinTwoDevices_2 :
  (∃ (s : State), s.running = true ∧ s.served ∧ s.funcUp Func.pair = true ∧ ∃ v < 16, s.get Reg.SPAN_CTRL_EN < 2 ∧ ∃ (same : Bool) (free :
    Bool), same = decide (bits v 0 3 = s.get Reg.SPAN_CTRL_GROUP_EN * 2 + s.get Reg.SPAN_CTRL_EN) ∧ free = (!s.spanBusy && (s.pairState ==
    paUnpaired || s.pairState == paDetached || s.pairState == paStale)) ∧ (bitOf v 0 = false ∨ bits v 1 2 ≠ 0) ∧ same = false ∧ free =
    false) ∧
  (∃ (s : State), s.running = true ∧ s.served ∧ s.funcUp Func.pair = true ∧ ∃ v < 16, s.get Reg.SPAN_CTRL_EN < 2 ∧ ∃ (same : Bool) (free :
    Bool), same = decide (bits v 0 3 = s.get Reg.SPAN_CTRL_GROUP_EN * 2 + s.get Reg.SPAN_CTRL_EN) ∧ free = (!s.spanBusy && (s.pairState ==
    paUnpaired || s.pairState == paDetached || s.pairState == paStale)) ∧ (bitOf v 0 = false ∨ bits v 1 2 ≠ 0) ∧ same = true) :=
  ⟨⟨state1, by decide +kernel, served_of (by decide +kernel), by decide +kernel, 0, by decide +kernel, by decide +kernel, _, _, rfl, rfl,
     by decide +kernel⟩,
   ⟨up, by decide +kernel, served_of (by decide +kernel), by decide +kernel, 0, by decide +kernel, by decide +kernel, _, _, rfl, rfl,
     by decide +kernel⟩⟩

theorem witness_SpanLinksJoinTwoDevices_3 :
  (∃ (s : State), s.running = true ∧ s.served ∧ s.funcUp Func.pair = true ∧ ∃ v < 16, s.get Reg.SPAN_CTRL_EN < 2 ∧ ∃ (same : Bool) (free :
    Bool), same = decide (bits v 0 3 = s.get Reg.SPAN_CTRL_GROUP_EN * 2 + s.get Reg.SPAN_CTRL_EN) ∧ free = (!s.spanBusy && (s.pairState ==
    paUnpaired || s.pairState == paDetached || s.pairState == paStale)) ∧ (bitOf v 0 = false ∨ bits v 1 2 ≠ 0) ∧ same = false ∧ free =
    true ∧ bitOf v 0 = true) ∧
  (∃ (s : State), s.running = true ∧ s.served ∧ s.funcUp Func.pair = true ∧ ∃ v < 16, s.get Reg.SPAN_CTRL_EN < 2 ∧ ∃ (same : Bool) (free :
    Bool), same = decide (bits v 0 3 = s.get Reg.SPAN_CTRL_GROUP_EN * 2 + s.get Reg.SPAN_CTRL_EN) ∧ free = (!s.spanBusy && (s.pairState ==
    paUnpaired || s.pairState == paDetached || s.pairState == paStale)) ∧ (bitOf v 0 = false ∨ bits v 1 2 ≠ 0) ∧ same = false ∧ free =
    true ∧ bitOf v 0 = false) :=
  ⟨⟨up, by decide +kernel, served_of (by decide +kernel), by decide +kernel, 7, by decide +kernel, by decide +kernel, _, _, rfl, rfl,
     by decide +kernel⟩,
   ⟨up, by decide +kernel, served_of (by decide +kernel), by decide +kernel, 2, by decide +kernel, by decide +kernel, _, _, rfl, rfl,
     by decide +kernel⟩⟩

theorem witness_SpanLinksJoinTwoDevices_4 :
  (∃ (s : State), s.running = true ∧ ∃ p < 1024, s.isSpanPort p = true ∧ s.portUp p = true ∧ s.funcUp Func.pair = true) ∧
  (∃ (s : State), s.running = true ∧ ∃ p < 1024, s.isSpanPort p = false ∨ s.portUp p = false ∨ s.funcUp Func.pair = false) :=
  ⟨⟨state1, by decide +kernel, 960, by decide +kernel⟩,
   ⟨up, by decide +kernel, 960, by decide +kernel⟩⟩

theorem witness_SpanLinksJoinTwoDevices_5 :
  (∃ (s : State), s.running = true ∧ ∃ p < 1024, ∃ (b : List Byte) (ok : Bool) (n : Nat) (g : Nat), n = min 64 (beAt b 47 1) ∧ g = (p -
    960) / 32 ∧ s.isSpanPort p = true ∧ s.portUp p = true ∧ ok = true ∧ 64 ≤ b.length ∧ b.length ≤ s.get (Reg.MAC_PORT_FRAME_FRAME_MAX p)
    + 46 ∧ s.isSpan b 2 = true ∧ 52 + 4 * n ≤ b.length ∧ s.funcUp Func.pair = true) ∧
  (∃ (s : State), s.running = true ∧ ∃ p < 1024, ∃ (b : List Byte) (ok : Bool) (n : Nat) (g : Nat), n = min 64 (beAt b 47 1) ∧ g = (p -
    960) / 32 ∧ s.isSpanPort p = true ∧ s.portUp p = true ∧ (ok = false ∨ b.length < 64 ∨ s.isSpan b 2 = false)) :=
  ⟨⟨state1, by decide +kernel, 960, by decide +kernel, (ctl 3 []), true, _, _, rfl, rfl, by decide +kernel⟩,
   ⟨state1, by decide +kernel, 960, by decide +kernel, (data 8 60), true, _, _, rfl, rfl, by decide +kernel⟩⟩

theorem witness_SpanLinksJoinTwoDevices_6 :
  (∃ (s : State), s.running = true ∧ ∃ p < 1024, ∃ (b : List Byte) (ok : Bool), s.spanOn = false ∨ p < 960 ∨ s.portUp p = false) ∧
  (∃ (s : State), s.running = true ∧ ∃ p < 1024, ∃ (b : List Byte) (ok : Bool), s.spanOn = true ∧ 960 ≤ p ∧ s.portUp p = true ∧ (ok =
    false ∨ s.isSpan b 1 = false ∨ beAt b 22 4 + 46 ≠ b.length)) :=
  ⟨⟨up, by decide +kernel, 960, by decide +kernel, (data 8 60), true, by decide +kernel⟩,
   ⟨state1, by decide +kernel, 960, by decide +kernel, (data 8 60), false, by decide +kernel⟩⟩

theorem witness_SpanLinksJoinTwoDevices_7 :
  (∃ (s : State), s.running = true ∧ ∃ p < 1024, ∃ (b : List Byte) (ok : Bool), s.spanOn = true ∧ 960 ≤ p ∧ s.portUp p = true ∧ ok = true
    ∧ s.isSpan b 1 = true ∧ beAt b 22 4 + 46 = b.length ∧ (s.wiredGroups.contains ((p - 960) / 32) = false ∨ bitOf (s.get
    Reg.SPAN_STATUS_PEER_ACTIVE) ((p - 960) / 32) = false)) ∧
  (∃ (s : State), s.running = true ∧ ∃ p < 1024, ∃ (b : List Byte) (ok : Bool), s.spanOn = true ∧ 960 ≤ p ∧ s.portUp p = true ∧ ok = true
    ∧ s.isSpan b 1 = true ∧ beAt b 22 4 + 46 = b.length ∧ s.wiredGroups.contains ((p - 960) / 32) = true ∧ bitOf (s.get
    Reg.SPAN_STATUS_PEER_ACTIVE) ((p - 960) / 32) = true ∧ b.length ≤ s.get (Reg.MAC_PORT_FRAME_FRAME_MAX p) + 46 ∧ s.bit
    Reg.SPAN_CTRL_LEARN = false ∧ s.funcUp Func.buf = true ∧ s.funcUp Func.tm = true ∧ ∃ (x : Frame) (f : Nat) (u : State), x =
    s.spanFrame p b ∧ f = s.path.nextFrame ∧ u = ((s.countRx p (s.get (Reg.MAC_PORT_FRAME_FRAME_MAX p) + 46) b Fcs.good false).addFrame
    x).2.fixCopies f ∧ x.destKind = 0 ∧ s.isLocal x.dest = true ∧ s.bit (Reg.MIRROR_PORT_CFG_EGR_EN (x.dest - s.logicalBase)) = false ∧
    s.bit (Reg.MIRROR_PORT_CFG_ING_EN p) = false ∧ mapFind s.host.inject f = none ∧ s.colourDrop x.pool x.mark.colour = false ∧ ∃ (l :
    List Nat) (w : State), takeBeads x.pool p 1 (ceilDiv x.bytes.length 256) [] (u.turnOn x.pool) = some (l, w)) :=
  ⟨⟨state1, by decide +kernel, 960, by decide +kernel, (data 8 60), true, by decide +kernel⟩,
   ⟨state5, by decide +kernel, 960, by decide +kernel, (data 8 60), true, by decide +kernel, by decide +kernel, by decide +kernel,
     by decide +kernel, by decide +kernel, by decide +kernel, by decide +kernel, by decide +kernel, by decide +kernel, by decide +kernel,
     by decide +kernel, by decide +kernel, _, _, _, rfl, rfl, rfl, by decide +kernel, by decide +kernel, by decide +kernel,
     by decide +kernel, by decide +kernel, by decide +kernel, _, _, rfl⟩⟩

theorem witness_SpanLinksJoinTwoDevices_8 :
  (∃ (s : State), s.running = true ∧ ∃ p < 1024, ∃ (b : List Byte) (ok : Bool), s.spanOn = true ∧ 960 ≤ p ∧ s.portUp p = true ∧ ok = true
    ∧ s.isSpan b 1 = true ∧ beAt b 22 4 + 46 = b.length ∧ s.wiredGroups.contains ((p - 960) / 32) = true ∧ bitOf (s.get
    Reg.SPAN_STATUS_PEER_ACTIVE) ((p - 960) / 32) = true ∧ b.length ≤ s.get (Reg.MAC_PORT_FRAME_FRAME_MAX p) + 46 ∧ s.bit
    Reg.SPAN_CTRL_LEARN = false ∧ s.funcUp Func.buf = true ∧ s.funcUp Func.tm = true ∧ ∃ (x : Frame) (f : Nat) (u : State), x =
    s.spanFrame p b ∧ f = s.path.nextFrame ∧ u = ((s.countRx p (s.get (Reg.MAC_PORT_FRAME_FRAME_MAX p) + 46) b Fcs.good false).addFrame
    x).2.fixCopies f ∧ x.destKind = 0 ∧ s.isLocal x.dest = true ∧ s.bit (Reg.MIRROR_PORT_CFG_EGR_EN (x.dest - s.logicalBase)) = false ∧
    s.bit (Reg.MIRROR_PORT_CFG_ING_EN p) = false ∧ mapFind s.host.inject f = none ∧ s.colourDrop x.pool x.mark.colour = false ∧ takeBeads
    x.pool p 1 (ceilDiv x.bytes.length 256) [] (u.turnOn x.pool) = none) ∧
  (∃ (s : State), s.running = true ∧ ∃ p < 1024, ∃ (b : List Byte) (ok : Bool) (t : State), exec (Instr.spanDataReceive p b ok) s =
    Host.Outcome.next t) :=
  ⟨⟨state4, by decide +kernel, 960, by decide +kernel, (data 8 60), true, by decide +kernel, by decide +kernel, by decide +kernel,
     by decide +kernel, by decide +kernel, by decide +kernel, by decide +kernel, by decide +kernel, by decide +kernel, by decide +kernel,
     by decide +kernel, by decide +kernel, _, _, _, rfl, rfl, rfl, by decide +kernel⟩,
   ⟨up, by decide +kernel, 960, by decide +kernel, (data 8 60), true, _, rfl⟩⟩

theorem witness_ObservationPinsAndTheTestAccessPort :
  ∃ (s : State), s.running = true ∧ s.served ∧ ∃ (w : Nat) (v : Nat) (i : Instr), v < 2 ^ 32 ∧ (w = 0 ∨ ∃ k
    < 4, w = 4 + k) ∧ i = Instr.obsWrite w v ∧ bitOf (s.get Reg.SEC_DEBUG_STATUS_GRANTED) 0 = false :=
  ⟨up8, by decide +kernel, served_of (by decide +kernel), 0, 0, _, by decide +kernel, by decide +kernel, rfl, by decide +kernel⟩

theorem witness_ObservationPinsAndTheTestAccessPort_2 :
  (∃ (s : State), s.running = true ∧ s.served ∧ ∃ (w : Nat) (v : Nat) (i : Instr), v < 2 ^ 32 ∧ (w = 0 ∨ ∃ k
    < 4, w = 4 + k) ∧ i = Instr.obsWrite w v ∧ bitOf (s.get Reg.SEC_DEBUG_STATUS_GRANTED) 0 = true ∧
    within v (if w = 0 then 0x80037F7F else 0x3F3F3F3F) = true) ∧
  (∃ (s : State), s.running = true ∧ s.served ∧ ∃ (w : Nat) (v : Nat), 8 ≤ w ∧ w < 262144) :=
  ⟨⟨state11, by decide +kernel, served_of (by decide +kernel), 0, 0, _, by decide +kernel, by decide +kernel, rfl, by decide +kernel, by decide +kernel⟩,
   ⟨up8, by decide +kernel, served_of (by decide +kernel), 8, 0, by decide +kernel⟩⟩

theorem witness_ObservationPinsAndTheTestAccessPort_3 :
  (∃ (s : State) (op : Nat) (i : Instr), op < 256 ∧ (i = Instr.jtagInstruction op ∨ op = 1 ∧ i = Instr.tapReset) ∧ s.die.mode =
    DieMode.off) ∧
  (∃ (s : State) (op : Nat) (i : Instr), op < 256 ∧ (i = Instr.jtagInstruction op ∨ op = 1 ∧ i = Instr.tapReset) ∧ s.die.mode ≠
    DieMode.off) :=
  ⟨⟨state13, 0, (Instr.jtagInstruction 0), by decide +kernel⟩,
   ⟨up8, 0, (Instr.jtagInstruction 0), by decide +kernel⟩⟩

end SpanAndTest

end Sys2Proof.Tests
end

section
/-! What a die that does not run does: the commands that act in reset, the single answer of every other command, and the levels
of the output pins (R3, R36, R64). -/

namespace Sys2Proof.Machine

/-! ### The commands that act on a die in reset -/

/-- RESET_N, a loss of the supply, the HOLD_IN pin and the test access port act whether or not the die runs (log 69). -/
inductive ActsInReset : Instr → Prop
  | resetNAssert : ActsInReset .resetNAssert
  | resetNRelease (p : Straps) : ActsInReset (.resetNRelease p)
  | powerLoss : ActsInReset .powerLoss
  | holdInChange (l : Bool) : ActsInReset (.holdInChange l)
  | jtagInstruction (o : Nat) : ActsInReset (.jtagInstruction o)
  | tapReset : ActsInReset .tapReset

/-- The answers of a command that acts only while the die runs, whatever operand form guards it. -/
inductive OnlyWhileUp (s : State) : Out → Prop
  | whenUp (k : State → State) : OnlyWhileUp s (whenUp s k)
  | noSuchObject : OnlyWhileUp s (.fault .noSuchObject)

namespace OnlyWhileUp

variable {s t : State} {o : Out}

theorem orFault (p : Prop) [Decidable p] (h : OnlyWhileUp s o) : OnlyWhileUp s (if p then o else .fault .noSuchObject) := by
  split
  · exact h
  · exact .noSuchObject

theorem onPort {p : Nat} (h : OnlyWhileUp s o) : OnlyWhileUp s (onPort p o) := h.orFault (p < 1024)

theorem onObject {n i : Nat} (h : OnlyWhileUp s o) : OnlyWhileUp s (onObject n i o) := h.orFault (i < n)

theorem onRing {c : CmdIn} (h : OnlyWhileUp s o) : OnlyWhileUp s (onRing c o) :=
  h.orFault ((16 ≤ c.ring && c.ring < 32) = true)

theorem follows (h : OnlyWhileUp s o) (ho : o = .next t) : t.pinsFollow := by
  cases h with
  | whenUp k => cases ho; exact settle_follows _
  | noSuchObject => cases ho

/-- On a die that does not run the only next state is the state itself with its pins. -/
theorem held (h : OnlyWhileUp s o) (hs : s.running = false) (ho : o = .next t) : t = s.settle := by
  cases h with
  | whenUp k => rw [whenUp_held hs] at ho; cases ho; rfl
  | noSuchObject => cases ho

end OnlyWhileUp

/-- Every command acts in reset or only while the die runs; the cases stand by operand form. -/
theorem actsInReset_or_onlyWhileUp (c : Instr) : ActsInReset c ∨ ∀ s, OnlyWhileUp s (exec c s) := by
  cases c with
  | resetNAssert => exact .inl .resetNAssert
  | resetNRelease p => exact .inl (.resetNRelease p)
  | powerLoss => exact .inl .powerLoss
  | holdInChange l => exact .inl (.holdInChange l)
  | jtagInstruction o => exact .inl (.jtagInstruction o)
  | tapReset => exact .inl .tapReset
  | brownOutReset => exact .inr fun _ => .whenUp fun s => s.deviceReset .brownOut 3
  | allocatorHandshake pool requests frees =>
    refine .inr fun s => .onObject (.orFault (requestsOk requests) ?_)
    apply OnlyWhileUp.whenUp
  | strapCompare | supplyRangeCheck | tempReading | coreSpeedMeasurement | registerWrite | rcRegisterRead |
    firstWordCrossing | classifyPass | carryPass | forwardingLookup | contextFetchDone | admission | frameEnd |
    frameTruncate | presMoveDone | presRevert | timeSnap | abDiffUpdate | calDone | calResultRead | stampQueueTransfer |
    stampEntryWrite | copyLink | chainTakeRecord | sealInstant | tallyEnable | tallyDisable | finalSealForm |
    sealPeriodWrite | sealSign | sealExport | mramHeadWrite | tallyExportEntry | mramRetiredRead | furtherBeadRequest |
    withdrawTimeout | stuckInspection | dramTempRead | dramServiceWrite | dramTrainStart | dramTrainRead | linkTraining |
    linkTrainingDone | linkTrainRestart | linkRetrain | hostLost | warmReset | descriptorTake | puntWrite | counterSweep |
    eventEntryWrite | keepaliveExpiry | keepaliveWrite | funcReset | patchLoad | patchCheckDone | routineStart | bootStage |
    bundleLoad | bundleDone | debugTokenLoad | claim | yieldRole | transmitEnable | yieldRelease | holdFaultDetect |
    stateRecordReceive | stateResend | heartbeatSend | heartbeatReceive | heartbeatLoss | digestSend | windowCompare |
    peerReleaseTakeover | takeoverLapse | tallyFollowTimeout | resyncComplete | spanCtrlWrite | dramTrainingRequest |
    startReady | startLate | tableScrubRead | bistStart | handoffReceive =>
    refine .inr fun s => ?_
    apply OnlyWhileUp.whenUp
  | portEnable | portDisable | upDebounceExpiry | dnDebounceExpiry | pauseFrameReceived | pfcFrameReceived | calStart |
    llRelease | schedulerPick | transmitEnd | portFlush | holdDownExpiry | gateListStart | gateEntryChange |
    spanControlSend | spanControlReceive | spanDataReceive =>
    refine .inr fun s => .onPort ?_
    apply OnlyWhileUp.whenUp
  | refInputLost | refInputGood | octetModeWrite | linkConditionChange | learnRelease | timeDomFreqWrite |
    timeDomPhaseWrite | phaseSlewDone | lockDeclare | servoWatchdogExpiry | domainSetTime | domainSetAtPps | ppsEdge |
    ppsMissing | tpoEnable | tpoPulseEdge | tpiCapture | tpiPop | replicatorOffer | residueLink | frameDigest |
    gapRecordWrite | leafTimerClose | profileValidWrite | profileDrained | tagDrained | drainStuck | lpmBackgroundMove |
    beadDecrement | spillWrite | spillReturn | stuckReclaim | policerHandshake | dramScrubRead | caParityAlert |
    dramRequestTimeout | writeAgeDrain | refresh | stackPark | stackWake | dramTraining | dramRecal | cfgRd | cfgWr | dbWr |
    reply | credit | memRdTimeout | injectDescriptor | indexBlockWrite | ringEnable | ringResume | collectorScan |
    evtMaskWrite | funcResetDone | routineCheckpoint | engineHalt | bistDone | obsWrite | readIdleDrain |
    reservedTypeMessage =>
    refine .inr fun s => .onObject ?_
    apply OnlyWhileUp.whenUp
  | frameStart | pauseTimerExpiry | pauseRefresh | transmitStart =>
    refine .inr fun s => .onPort (.onObject ?_)
    apply OnlyWhileUp.whenUp
  | rowGuardRefresh | sidIdle =>
    refine .inr fun s => .onObject (.onObject ?_)
    apply OnlyWhileUp.whenUp
  | cntRead | cntClear | nop | ruleStage | ruleDiscard | ruleRead | ruleRangeSet | fdbInsert | fdbDelete | fdbAgeDelete |
    fdbSearch | fdbNext | lpmInsert | lpmDelete | lpmSearch | lpmMatch | lpmNext | flowOpen | flowModify | flowRead |
    flowClear | flowClose | flowNext | bufRestore | mcastSet | mcastRead | tmPolicerSet | tmPolicerRead | tmShaperSet |
    tmShaperRead | tmGclWrite | tmGclCommit | tmGclCancel | tmGclRead | secAttest | ruleCommit | fdbFlush | lpmFlush |
    bufWithdraw | pairResync =>
    refine .inr fun s => .onRing ?_
    apply OnlyWhileUp.whenUp

theorem next_of_onObject {n i : Nat} {o : Out} {t : State} (h : onObject n i o = .next t) : o = .next t := by
  by_cases hi : i < n
  · rwa [onObject_ok hi] at h
  · rw [onObject_out hi] at h; cases h

theorem eq_of_exec_jtagInstruction {s t : State} {o : Nat} (hx : exec (.jtagInstruction o) s = .next t) :
    t = (s.jtagLoad o).settle := by
  have hf : finish (s.jtagLoad o) = .next t := next_of_onObject hx
  cases hf; rfl

theorem ActsInReset.follows {c : Instr} (h : ActsInReset c) {s t : State} (hx : exec c s = .next t) : t.pinsFollow := by
  cases h with
  | resetNAssert | resetNRelease | powerLoss | holdInChange | tapReset => cases hx; exact settle_follows _
  | jtagInstruction o => rw [eq_of_exec_jtagInstruction hx]; exact settle_follows _

/-- Every state that a command leaves has its pins as the rest of it calls for. -/
theorem exec_follows {c : Instr} {s t : State} (hx : exec c s = .next t) : t.pinsFollow :=
  (actsInReset_or_onlyWhileUp c).elim (·.follows hx) fun h => (h s).follows hx

/-! ### The pins of a die that does not run -/

section Held

variable {s : State} (h : s.running = false)
include h

theorem allIdle_of_held : s.allIdle = true := by simp [State.allIdle, h]

theorem cellsDrive_of_held : s.cellsDrive = false := by simp [State.cellsDrive, h]

theorem txSignals_of_held : s.txSignals = [] := by
  simp [State.txSignals, State.txSignal, State.portIdle, allIdle_of_held h]

/-- Without a running die only THERMTRIP_N and the impedance of HOLD_OUT depend on the state (R3, R36, R37, R64, R591). -/
theorem pinsOf_of_held : s.pinsOf =
    { faultN := false, thermtripN := s.die.mode != .tripped, holdOut := false, holdZ := s.die.mode == .off, tpo := 0, obs := 0,
      frontIdle := true, mirrorIdle := true, tx := [] } := by
  simp [State.pinsOf, State.frontIdle, State.mirrorIdle, State.holdDriven, State.tpoLevel, State.obsLevel, maskOf, h,
    allIdle_of_held h, cellsDrive_of_held h, txSignals_of_held h]

end Held

/-! ### A thermal trip ends only with the supply (R64) -/

section Tripped

variable {s : State} (h : s.die.mode = .tripped)
include h

theorem held_of_tripped : s.running = false := by simp [State.running, h]

theorem resetAssert_of_tripped : s.resetAssert = s := by simp [State.resetAssert, h]

theorem resetRelease_of_tripped (p : Straps) : s.resetRelease p = s := by simp [State.resetRelease, h]

theorem holdPin_mode_of_tripped (l : Bool) : (s.holdPin l).die.mode = .tripped := by
  simp [State.holdPin, held_of_tripped h, h]

theorem jtagLoad_die_of_tripped (o : Nat) : (s.jtagLoad o).die = s.die := by simp [State.jtagLoad, h]

/-- No command but a loss of the supply ends a thermal trip. -/
theorem exec_mode_of_tripped {c : Instr} {t : State} (hc : c ≠ .powerLoss) (hx : exec c s = .next t) :
    t.die.mode = .tripped := by
  obtain hr | hu := actsInReset_or_onlyWhileUp c
  · cases hr with
    | powerLoss => exact absurd rfl hc
    | resetNAssert => cases hx; rw [settle_die, resetAssert_of_tripped h, h]
    | resetNRelease p => cases hx; rw [settle_die, resetRelease_of_tripped h, h]
    | holdInChange l => cases hx; rw [settle_die, holdPin_mode_of_tripped h]
    | tapReset => cases hx; rw [settle_die, jtagLoad_die_of_tripped h, h]
    | jtagInstruction o => rw [eq_of_exec_jtagInstruction hx, settle_die, jtagLoad_die_of_tripped h, h]
  · rw [(hu s).held (held_of_tripped h) hx, settle_die, h]

end Tripped

/-! ### The obligation -/

/-- What R3, R36 and R39 ask of the pins, once they follow the state. -/
theorem pins_idle_of_held {t : State} (hp : t.pinsFollow) (h : t.running = false) :
    t.silent ∧ t.pins.holdOut = false ∧ t.pins.tpo = 0 ∧ t.pins.obs = 0 ∧ t.pins.faultN = false := by
  rw [State.silent, hp, pinsOf_of_held h]
  exact ⟨⟨rfl, rfl⟩, rfl, rfl, rfl, rfl⟩

theorem thermtripN_of_tripped {t : State} (hp : t.pinsFollow) (h : t.die.mode = .tripped) : t.pins.thermtripN = false := by
  rw [hp, pinsOf_of_held (held_of_tripped h), h]; rfl

/-- Settles O5: the pins follow the state and are idle without a running die, a trip is left by no command but a loss of the
supply, and a command that does not act in reset leaves a die that does not run as it was. -/
theorem aDieThatDoesNotRunDrivesNothingAndTakesNoCommand :
    Obligations.ADieThatDoesNotRunDrivesNothingAndTakesNoCommand := by
  unfold Obligations.ADieThatDoesNotRunDrivesNothingAndTakesNoCommand
  intro c s t hx
  have hp : t.pinsFollow := exec_follows hx
  refine ⟨pins_idle_of_held hp, fun htrip hc => ?_, fun hheld => ?_⟩
  · have hm : t.die.mode = .tripped := exec_mode_of_tripped htrip hc hx
    exact ⟨hm, thermtripN_of_tripped hp hm⟩
  · obtain hr | hu := actsInReset_or_onlyWhileUp c
    · right
      cases hr with
      | resetNAssert => exact .inl rfl
      | resetNRelease p => exact .inr (.inl ⟨p, rfl⟩)
      | powerLoss => exact .inr (.inr (.inl rfl))
      | holdInChange l => exact .inr (.inr (.inr (.inl ⟨l, rfl⟩)))
      | jtagInstruction o => exact .inr (.inr (.inr (.inr (.inl ⟨o, rfl⟩))))
      | tapReset => exact .inr (.inr (.inr (.inr (.inr rfl))))
    · rw [(hu s).held hheld hx]
      exact .inl (only_settle s)

end Sys2Proof.Machine
end

section
/-! The host's write of a register of the TIME page: when it is served, what it answers, and what the answer leaves (R13, R72,
R110 to R132). -/

namespace Sys2Proof.Machine

/-! ### The answer of a write -/

/-- The state with the answer to the host's write, and the pins that follow it. -/
def State.answered (s : State) (st : Status) : State := State.settle { s with lastStatus := st, lastData := 0 }

section Answered

variable (s : State) (st : Status)

@[simp] theorem answered_lastStatus : (s.answered st).lastStatus = st := rfl
@[simp] theorem answered_time : (s.answered st).time = s.time := rfl
@[simp] theorem answered_dom (d : Nat) : (s.answered st).dom d = s.dom d := rfl
@[simp] theorem answered_get (f : Fld) : (s.answered st).get f = s.get f := rfl
@[simp] theorem answered_bit (f : Fld) : (s.answered st).bit f = s.bit f := rfl
@[simp] theorem answered_groupIs (fl fr ns lo hi : Fld) (x : Nat) :
    (s.answered st).groupIs fl fr ns lo hi x ↔ s.groupIs fl fr ns lo hi x := Iff.rfl

end Answered

/-- An answer moves nothing but itself and the pins. -/
theorem only_answered {s t : State} {P : List Part} {m : Keys} (st : Status) (h : s.only t P m) :
    s.only (t.answered st) (.answer :: P) m :=
  keep_settle (keep_part (only_mono h (fun _ => List.mem_cons_of_mem _) fun _ => id) rfl fun p hp => by
    cases p <;> simp_all [Part.same])

/-! ### Writes to the TIME page -/

theorem get_warmReset_of_served {s : State} (hs : s.served) : s.get Reg.SYS_CTRL_WARM_RESET = 0 := by
  obtain ⟨_, _, _, _, hwarm⟩ := hs
  exact hwarm

section TimeWrite

variable {s : State} {addr off v i j : Nat} {l : List (Access × Fld)}
variable (hs : s.served) (hu : s.funcUp .time = true) (ha : addr = 0x400000 + off) (ho : off < 0x100000)
variable (hr : regIs addr .plain i j l) (hv : v < 2 ^ 32) (hw : within v (definedBits l) = true) (hl : writable l = true)
include ha ho

theorem pageOf_time : pageOf addr = 4 := by unfold pageOf; omega

theorem offset_time : addr % 0x100000 = off := by omega

include hu in
theorem pageDown_time : s.pageDown true addr = false := by
  simp [State.pageDown, pageOf_time ha ho, pageFunc, hu]

include hs hu hr hv hw hl

/-- A write that the TIME page takes: its fields, what the page does beyond them, and the answer OK. -/
theorem timeWrite_ok (hc : timeCheck s off v = .ok)
    (hb : (timeEffect s (s.storeFields l v) off v).get Reg.SYS_CTRL_WARM_RESET = 0) :
    whenUp s (fun s => s.hostWrite addr v) = .next ((timeEffect s (s.storeFields l v) off v).answered .ok) := by
  have hreg := writeReg_ok hs hr (pageDown_time hu ha ho) trivial hw hl (by rw [pageOf_time ha ho, offset_time ha ho]; exact hc)
  rw [pageOf_time ha ho, offset_time ha ho] at hreg
  exact write_step hs hv hreg hb

/-- A write that the TIME page refuses: only the answer moves (R13). -/
theorem timeWrite_refused {st : Status} (hc : timeCheck s off v = st) (hst : st ≠ .ok) :
    whenUp s (fun s => s.hostWrite addr v) = .next (s.answered st) := by
  have hreg := writeReg_refused hs hr (pageDown_time hu ha ho) trivial hw hl
    (by rw [pageOf_time ha ho, offset_time ha ho]; exact hc) hst
  rw [whenUp_running hs.1, hostWrite_refused hv hreg (get_warmReset_of_served hs)]
  rfl

end TimeWrite

/-- A register that one field fills takes every word. -/
theorem within_word {a : Access} {f : Fld} {v : Nat} (hlo : f.lo = 0) (hwidth : f.width = 32) (h : v < 2 ^ 32) :
    within v (definedBits [(a, f)]) = true := by
  have hbits : definedBits [(a, f)] = 2 ^ 32 - 1 := by simp [definedBits, hlo, hwidth]
  rw [hbits, within, Nat.and_two_pow_sub_one_eq_mod, Nat.mod_eq_of_lt h, beq_self_eq_true]

/-- No register of the TIME page holds the warm reset. -/
theorem get_warmReset_of_only {s t : State} {P : List Part} {L : List String} (h : s.only t P (regsOf L)) (hL : "SYS_CTRL" ∉ L) :
    t.get Reg.SYS_CTRL_WARM_RESET = s.get Reg.SYS_CTRL_WARM_RESET :=
  kept_of_only h (a := .wo) 0 0 0 (List.mem_of_getElem? (i := 12) rfl) (by simp) hL

end Sys2Proof.Machine
end

section
/-! The clocks of the time core under its updates, and the status fields that follow them (R111, R113, R115). -/

namespace Sys2Proof.Machine

/-! ### A domain's record -/

theorem dom_of_time {s t : State} (h : t.time = s.time) (d : Nat) : t.dom d = s.dom d := by rw [State.dom, State.dom, h]

section Dom

variable (s : State) (d : Nat)

@[simp] theorem dom_setDom_self (x : DomSt) : (s.setDom d x).dom d = x := by
  unfold State.setDom State.dom
  split <;> simp

theorem dom_setDom_other {s : State} {d : Nat} (hd : d < 2) (x : DomSt) : (s.setDom d x).dom (1 - d) = s.dom (1 - d) := by
  obtain rfl | rfl : d = 0 ∨ d = 1 := by omega
  all_goals rfl

@[simp] theorem setDom_pres (x : DomSt) : (s.setDom d x).time.pres = s.time.pres := by
  simp only [setDom_time]
  split <;> rfl

@[simp] theorem dom_set (f : Fld) (v : Nat) : (s.set f v).dom d = s.dom d := rfl
@[simp] theorem dom_setB (f : Fld) (b : Bool) : (s.setB f b).dom d = s.dom d := rfl

end Dom

/-! ### The status fields follow the clocks -/

section Sync

variable (s : State)

@[simp] theorem syncTime_time : s.syncTime.time = s.time := by
  simp only [State.syncTime, set_time, setB_time]
@[simp] theorem syncTime_dom (d : Nat) : s.syncTime.dom d = s.dom d := dom_of_time (syncTime_time s) d

theorem get_syncTime_left {d : Nat} (hd : d < 2) :
    s.syncTime.get (Reg.TIME_DOM_PHASE_LEFT_LEFT d) = ofSigned 32 ((s.dom d).left * 256 / tuNs) % 2 ^ 32 := by
  obtain rfl | rfl : d = 0 ∨ d = 1 := by omega
  all_goals simp (disch := decide) only [State.syncTime, get_set_ne, get_setB_ne, get_set_self, dom_set, dom_setB]; rfl

theorem get_syncTime_slewing {d : Nat} (hd : d < 2) :
    s.syncTime.get (Reg.TIME_DOM_STATUS_SLEWING d) = b2n ((s.dom d).left != 0) := by
  obtain rfl | rfl : d = 0 ∨ d = 1 := by omega
  all_goals simp (disch := decide) only [State.syncTime, get_set_ne, get_setB_ne, get_setB_self, dom_set, dom_setB]

theorem get_syncTime_unlockWdog {d : Nat} (hd : d < 2) :
    s.syncTime.get (Reg.TIME_DOM_STATUS_UNLOCK_WDOG d) = s.get (Reg.TIME_DOM_STATUS_UNLOCK_WDOG d) := by
  obtain rfl | rfl : d = 0 ∨ d = 1 := by omega
  all_goals simp (disch := decide) only [State.syncTime, get_set_ne, get_setB_ne]

theorem get_syncTime_locked (d : Nat) : s.syncTime.get (Reg.TIME_DOM_CTRL_LOCKED d) = s.get (Reg.TIME_DOM_CTRL_LOCKED d) :=
  kept_of_only (frame_syncTime s) (a := .rw) 4 d 0 (List.mem_of_getElem? (i := 0) rfl) (by simp) (by simp)

end Sync

end Sys2Proof.Machine
end

section
/-! Frequency and phase corrections (R110 to R112), and the servo write that takes an expiry of its own cycle back (R115). -/

namespace Sys2Proof.Machine

/-! ### Two's complement -/

theorem ofSigned_toSigned (n w : Nat) : ofSigned n (toSigned n w) = w % 2 ^ n := by
  have h : toSigned n w % ((2 ^ n : Nat) : Int) = ((w % 2 ^ n : Nat) : Int) := by
    unfold toSigned
    split <;> simp
  rw [ofSigned, h, Int.toNat_natCast]

theorem toSigned_eq_zero {w : Nat} (h : w < 2 ^ 32) : toSigned 32 w = 0 ↔ w = 0 := by
  unfold toSigned
  rw [Nat.mod_eq_of_lt h]
  split <;> omega

/-- A phase correction of `x` units of 1/256 ns is a whole number of clock units. -/
theorem clockUnits_exact (x : Int) : x * tuNs / 256 * 256 / tuNs = x := by
  have h : x * tuNs / 256 * 256 = x * tuNs := Int.ediv_mul_cancel (Dvd.dvd.mul_left (by decide) x)
  rw [h, Int.mul_ediv_cancel x (by decide)]

theorem clockUnits_eq_zero (x : Int) : x * tuNs / 256 = 0 ↔ x = 0 := by
  refine ⟨fun h => ?_, fun h => by simp [h]⟩
  rw [← clockUnits_exact x, h]
  simp

/-! ### The servo write -/

/-- A domain's record once an accepted servo write has restarted its watchdog (R115). -/
def State.servoDom (s : State) (d : Nat) : DomSt :=
  { s.dom d with
    servoAt := s.cycle
    clearedAt := if (s.dom d).byWdog.isSome then none else (s.dom d).clearedAt
    byWdog := none }

/-- The watchdog of a domain did not expire in this cycle. -/
def State.noExpiryNow (s : State) (d : Nat) : Prop := (s.dom d).byWdog = none ∨ (s.dom d).clearedAt ≠ some s.cycle

section Servo

variable {s : State} {d : Nat} {was : Bool}

theorem servoWrite_of_noExpiryNow (h : s.noExpiryNow d) : s.servoWrite d = s.setDom d (s.servoDom d) := by
  unfold State.servoWrite
  dsimp only
  split
  next was hw => exact if_neg (h.resolve_left (by simp [hw]))
  next => rfl

theorem servoWrite_of_expiryNow (hw : (s.dom d).byWdog = some was) (hc : (s.dom d).clearedAt = some s.cycle) : s.servoWrite d =
    (((s.setDom d (s.servoDom d)).on (Reg.TIME_DOM_CTRL_LOCKED d)).setB (Reg.TIME_DOM_STATUS_UNLOCK_WDOG d) was).syncTime := by
  unfold State.servoWrite
  dsimp only
  split
  next w hw' =>
    obtain rfl : w = was := Option.some.inj (hw'.symm.trans hw)
    exact if_pos hc
  next hw' => rw [hw] at hw'; cases hw'

/-- A servo write moves no clock: of the time core only the domain's record changes. -/
theorem servoWrite_time (s : State) (d : Nat) : (s.servoWrite d).time = (s.setDom d (s.servoDom d)).time := by
  by_cases h : s.noExpiryNow d
  · rw [servoWrite_of_noExpiryNow h]
  · obtain ⟨hb, hc⟩ := not_or.mp h
    obtain ⟨was, hw⟩ := Option.ne_none_iff_exists'.mp hb
    rw [servoWrite_of_expiryNow hw (not_not.mp hc), syncTime_time, setB_time, on_time]

theorem servoWrite_dom (s : State) (d : Nat) : (s.servoWrite d).dom d = s.servoDom d := by
  rw [dom_of_time (servoWrite_time s d), dom_setDom_self]

theorem servoWrite_dom_other (s : State) (hd : d < 2) : (s.servoWrite d).dom (1 - d) = s.dom (1 - d) := by
  rw [dom_of_time (servoWrite_time s d), dom_setDom_other hd]

theorem servoWrite_pres (s : State) (d : Nat) : (s.servoWrite d).time.pres = s.time.pres := by
  rw [servoWrite_time, setDom_pres]

theorem get_servoWrite_freq (s : State) (d : Nat) :
    (s.servoWrite d).get (Reg.TIME_DOM_FREQ_FREQ_ADJ d) = s.get (Reg.TIME_DOM_FREQ_FREQ_ADJ d) :=
  kept_of_only (frame_servoWrite s d) (a := .rw) 4 d 0 (List.mem_of_getElem? (i := 1) rfl) (by simp) (by simp)

section TakesBack

variable (hw : (s.dom d).byWdog = some was) (hc : (s.dom d).clearedAt = some s.cycle)
include hw hc

/-- A servo write in the cycle of the expiry restores the lock. -/
theorem bit_servoWrite_locked : (s.servoWrite d).bit (Reg.TIME_DOM_CTRL_LOCKED d) = true := by
  have hne : Fld.key (Reg.TIME_DOM_STATUS_UNLOCK_WDOG d) ≠ Fld.key (Reg.TIME_DOM_CTRL_LOCKED d) := by
    simp only [Fld.key, Reg.TIME_DOM_CTRL_LOCKED, Reg.TIME_DOM_STATUS_UNLOCK_WDOG]
    omega
  have h : (s.servoWrite d).get (Reg.TIME_DOM_CTRL_LOCKED d) = 1 := by
    rw [servoWrite_of_expiryNow hw hc, get_syncTime_locked, get_setB_ne _ _ hne, get_on_self _ _ le_rfl]
  rw [State.bit, h]
  rfl

/-- And the cause bit as it was before the expiry. -/
theorem bit_servoWrite_unlockWdog (hd : d < 2) : (s.servoWrite d).bit (Reg.TIME_DOM_STATUS_UNLOCK_WDOG d) = was := by
  rw [State.bit, servoWrite_of_expiryNow hw hc, get_syncTime_unlockWdog _ hd, get_setB_self _ _ _ le_rfl]
  cases was <;> rfl

end TakesBack

end Servo

/-! ### What the writes leave -/

/-- A domain whose outstanding correction is replaced. -/
def State.withLeft (s : State) (d : Nat) (x : Int) : State := s.setDom d { s.dom d with left := x }

/-- The state that a frequency write leaves. -/
def State.freqWritten (s : State) (d v : Nat) : State := (s.set (Reg.TIME_DOM_FREQ_FREQ_ADJ d) v).servoWrite d

/-- The state that a phase correction of `x` clock units leaves. -/
def State.phaseWritten (s : State) (d : Nat) (x : Int) : State := ((s.withLeft d x).servoWrite d).syncTime

section Frames

variable (s : State) (d : Nat) (x : Int)

theorem only_freqWritten {d : Nat} (v : Nat) (h : s.noExpiryNow d) :
    s.only (s.freqWritten d v) [.time] (keysOf [Reg.TIME_DOM_FREQ_FREQ_ADJ d]) := by
  have hn : (s.set (Reg.TIME_DOM_FREQ_FREQ_ADJ d) v).noExpiryNow d := h
  rw [State.freqWritten, servoWrite_of_noExpiryNow hn]
  exact keep_setDom _ _ (keep_set _ v (keep_refl ..) (by simp [keysOf])) (by simp)

theorem only_freqWritten_regs (v : Nat) : s.only (s.freqWritten d v) [.time]
    (regsOf ["TIME_DOM_FREQ", "TIME_DOM_CTRL", "TIME_DOM_STATUS", "TIME_DOM_PHASE_LEFT", "TIME_PRES_STATUS"]) :=
  keep_of (frame_servoWrite _ d)
    (keep_set _ v (keep_refl ..) (regsOf_mem 4 1 d 0 _ .rw rfl (by simp) (by simp))) (by simp) (by simp)

theorem only_phaseWritten {d : Nat} (h : s.noExpiryNow d) : s.only (s.phaseWritten d x) [.time]
    (regsOf ["TIME_DOM_PHASE_LEFT", "TIME_DOM_STATUS", "TIME_PRES_STATUS"]) := by
  have hn : (s.withLeft d x).noExpiryNow d := by simpa [State.noExpiryNow, State.withLeft] using h
  rw [State.phaseWritten, servoWrite_of_noExpiryNow hn]
  exact keep_of (frame_syncTime _) (keep_setDom _ _ (keep_setDom _ _ (keep_refl ..) (by simp)) (by simp)) (by simp) (by simp)

theorem only_phaseWritten_regs : s.only (s.phaseWritten d x) [.time]
    (regsOf ["TIME_DOM_CTRL", "TIME_DOM_STATUS", "TIME_DOM_PHASE_LEFT", "TIME_PRES_STATUS"]) :=
  keep_of (frame_syncTime _) (keep_of (frame_servoWrite _ d) (keep_setDom _ _ (keep_refl ..) (by simp)) (by simp) (by simp))
    (by simp) (by simp)

end Frames

/-! ### What the TIME page checks and does -/

section Page

variable {d : Nat} (hd : d < 2) (s : State) (v : Nat)
include hd

theorem timeCheck_freq : timeCheck s (4 + 0x80 * d) v = if withinS v 1099511627 then .ok else .range := by
  obtain rfl | rfl : d = 0 ∨ d = 1 := by omega
  all_goals rfl

theorem timeCheck_phase : timeCheck s (8 + 0x80 * d) v = if withinS v 256000000 then .ok else .range := by
  obtain rfl | rfl : d = 0 ∨ d = 1 := by omega
  all_goals rfl

theorem timeEffect_freq (old : State) : timeEffect old s (4 + 0x80 * d) v = s.servoWrite d := by
  obtain rfl | rfl : d = 0 ∨ d = 1 := by omega
  all_goals rfl

theorem timeEffect_phase (old : State) :
    timeEffect old s (8 + 0x80 * d) v = s.phaseWritten d (toSigned 32 v * tuNs / 256) := by
  obtain rfl | rfl : d = 0 ∨ d = 1 := by omega
  all_goals rfl

end Page

/-! ### The writes as commands -/

section Commands

variable {s : State} {d v : Nat} (hs : s.served) (hu : s.funcUp .time = true) (hd : d < 2) (hv : v < 2 ^ 32)
include hs hu hd hv

theorem exec_freqWrite_ok (h : withinS v 1099511627 = true) :
    exec (.timeDomFreqWrite d v) s = .next ((s.freqWritten d v).answered .ok) := by
  have hset : s.storeFields [(.rw, Reg.TIME_DOM_FREQ_FREQ_ADJ d)] v = s.set (Reg.TIME_DOM_FREQ_FREQ_ADJ d) v :=
    congrArg (s.set _) (Nat.mod_eq_of_lt hv)
  have heff : timeEffect s (s.storeFields [(.rw, Reg.TIME_DOM_FREQ_FREQ_ADJ d)] v) (4 + 0x80 * d) v = s.freqWritten d v := by
    rw [timeEffect_freq hd, hset, State.freqWritten]
  have hwarm := get_warmReset_of_only (only_freqWritten_regs s d v) (by simp)
  have hwrite := timeWrite_ok hs hu (addr := 0x400004 + 0x80 * d) (off := 4 + 0x80 * d) (by omega) (by omega)
    (regIs_TIME_DOM_FREQ hd) hv (within_word rfl rfl hv) rfl (by rw [timeCheck_freq hd, if_pos h])
    (by rw [heff, hwarm]; exact get_warmReset_of_served hs)
  rw [heff] at hwrite
  exact (onObject_ok hd _).trans hwrite

theorem exec_freqWrite_range (h : withinS v 1099511627 = false) : exec (.timeDomFreqWrite d v) s = .next (s.answered .range) :=
  (onObject_ok hd _).trans (timeWrite_refused hs hu (addr := 0x400004 + 0x80 * d) (off := 4 + 0x80 * d) (by omega) (by omega)
    (regIs_TIME_DOM_FREQ hd) hv (within_word rfl rfl hv) rfl (by simp [timeCheck_freq hd, h]) (by simp))

theorem exec_phaseWrite_ok (h : withinS v 256000000 = true) :
    exec (.timeDomPhaseWrite d v) s = .next ((s.phaseWritten d (toSigned 32 v * tuNs / 256)).answered .ok) := by
  have heff : timeEffect s (s.storeFields [(.wo, Reg.TIME_DOM_PHASE_PHASE_ADJ d)] v) (8 + 0x80 * d) v =
      s.phaseWritten d (toSigned 32 v * tuNs / 256) := timeEffect_phase hd ..
  have hwarm := get_warmReset_of_only (only_phaseWritten_regs s d (toSigned 32 v * tuNs / 256)) (by simp)
  have hwrite := timeWrite_ok hs hu (addr := 0x400008 + 0x80 * d) (off := 8 + 0x80 * d) (by omega) (by omega)
    (regIs_TIME_DOM_PHASE hd) hv (within_word rfl rfl hv) rfl (by rw [timeCheck_phase hd, if_pos h])
    (by rw [heff, hwarm]; exact get_warmReset_of_served hs)
  rw [heff] at hwrite
  exact (onObject_ok hd _).trans hwrite

theorem exec_phaseWrite_range (h : withinS v 256000000 = false) : exec (.timeDomPhaseWrite d v) s = .next (s.answered .range) :=
  (onObject_ok hd _).trans (timeWrite_refused hs hu (addr := 0x400008 + 0x80 * d) (off := 8 + 0x80 * d) (by omega) (by omega)
    (regIs_TIME_DOM_PHASE hd) hv (within_word rfl rfl hv) rfl (by simp [timeCheck_phase hd, h]) (by simp))

end Commands

theorem exec_phaseSlewDone {s : State} {d : Nat} (hrun : s.running = true) (hd : d < 2) (h : (s.dom d).left = 0) :
    exec (.phaseSlewDone d) s = .next (s.off (Reg.TIME_DOM_STATUS_SLEWING d)).settle := by
  have hdone : s.phaseDone d = s.off (Reg.TIME_DOM_STATUS_SLEWING d) := if_pos h
  rw [← hdone]
  exact (onObject_ok hd _).trans (whenUp_running hrun _)

/-! ### The fields and clocks that they leave -/

section Left

variable (s : State) (d : Nat) (x : Int)

theorem get_freqWritten {v : Nat} (hv : v < 2 ^ 32) : (s.freqWritten d v).get (Reg.TIME_DOM_FREQ_FREQ_ADJ d) = v := by
  rw [State.freqWritten, get_servoWrite_freq, get_set_self]
  exact Nat.mod_eq_of_lt hv

theorem dom_freqWritten (v : Nat) : (s.freqWritten d v).dom d = s.servoDom d := servoWrite_dom ..

theorem now_freqWritten (v : Nat) : ((s.freqWritten d v).dom d).now = (s.dom d).now := by rw [dom_freqWritten]; rfl

theorem servoAt_freqWritten (v : Nat) : ((s.freqWritten d v).dom d).servoAt = s.cycle := by rw [dom_freqWritten]; rfl

theorem dom_freqWritten_other {d : Nat} (hd : d < 2) (v : Nat) : (s.freqWritten d v).dom (1 - d) = s.dom (1 - d) :=
  servoWrite_dom_other _ hd

theorem pres_freqWritten (v : Nat) : (s.freqWritten d v).time.pres = s.time.pres := servoWrite_pres ..

theorem dom_phaseWritten : (s.phaseWritten d x).dom d = { s.servoDom d with left := x } := by
  rw [State.phaseWritten, syncTime_dom, servoWrite_dom]
  simp [State.servoDom, State.withLeft]

theorem now_phaseWritten : ((s.phaseWritten d x).dom d).now = (s.dom d).now := by rw [dom_phaseWritten]; rfl

theorem left_phaseWritten : ((s.phaseWritten d x).dom d).left = x := by rw [dom_phaseWritten]

theorem dom_phaseWritten_other {d : Nat} (hd : d < 2) : (s.phaseWritten d x).dom (1 - d) = s.dom (1 - d) := by
  rw [State.phaseWritten, syncTime_dom, servoWrite_dom_other _ hd, State.withLeft, dom_setDom_other hd]

theorem pres_phaseWritten : (s.phaseWritten d x).time.pres = s.time.pres := by
  rw [State.phaseWritten, syncTime_time, servoWrite_pres, State.withLeft, setDom_pres]

/-- TIME_DOM_PHASE_LEFT shows the correction as it was written. -/
theorem get_phaseWritten_left {d v : Nat} (hd : d < 2) (hv : v < 2 ^ 32) :
    (s.phaseWritten d (toSigned 32 v * tuNs / 256)).get (Reg.TIME_DOM_PHASE_LEFT_LEFT d) = v := by
  rw [State.phaseWritten, get_syncTime_left _ hd, servoWrite_dom]
  simp only [State.servoDom, State.withLeft, dom_setDom_self]
  rw [clockUnits_exact, ofSigned_toSigned, Nat.mod_mod, Nat.mod_eq_of_lt hv]

/-- SLEWING shows whether any of it is left. -/
theorem bit_phaseWritten_slewing {d v : Nat} (hd : d < 2) (hv : v < 2 ^ 32) :
    (s.phaseWritten d (toSigned 32 v * tuNs / 256)).bit (Reg.TIME_DOM_STATUS_SLEWING d) = (v != 0) := by
  have hzero : toSigned 32 v * tuNs / 256 = 0 ↔ v = 0 := (clockUnits_eq_zero _).trans (toSigned_eq_zero hv)
  rw [State.phaseWritten, State.bit, get_syncTime_slewing _ hd, servoWrite_dom]
  simp only [State.servoDom, State.withLeft, dom_setDom_self]
  by_cases h : v = 0
  · rw [hzero.mpr h, h]; rfl
  · simp [h, mt hzero.mp h, b2n]

end Left

/-! ### An expiry of the same cycle is taken back -/

section TakenBack

variable {s : State} {d : Nat} {was : Bool} (hw : (s.dom d).byWdog = some was) (hc : (s.dom d).clearedAt = some s.cycle)
include hw hc

theorem bit_phaseWritten_locked (x : Int) : (s.phaseWritten d x).bit (Reg.TIME_DOM_CTRL_LOCKED d) = true := by
  rw [State.phaseWritten, State.bit, get_syncTime_locked]
  exact bit_servoWrite_locked (by simpa [State.withLeft] using hw) (by simpa [State.withLeft] using hc)

theorem bit_phaseWritten_unlockWdog (hd : d < 2) (x : Int) :
    (s.phaseWritten d x).bit (Reg.TIME_DOM_STATUS_UNLOCK_WDOG d) = was := by
  rw [State.phaseWritten, State.bit, get_syncTime_unlockWdog _ hd]
  exact bit_servoWrite_unlockWdog (by simpa [State.withLeft] using hw) (by simpa [State.withLeft] using hc) hd

end TakenBack

/-! ### The obligation -/

/-- Settles O16: each write is taken or refused by its bounds; a taken one is a servo write, which moves no clock. -/
theorem frequencyAndPhaseCorrectionsAreBounded : Obligations.FrequencyAndPhaseCorrectionsAreBounded := by
  unfold Obligations.FrequencyAndPhaseCorrectionsAreBounded
  intro s d v hs hu hd hv
  refine ⟨fun h hn => ?freq, fun h => ?freqRange, fun was hw hc => ⟨fun h => ?freqBack, fun h => ?phaseBack⟩,
    fun h hn => ?phase, fun h => ?phaseRange, fun h => ?slewDone⟩
  case freq =>
    refine ⟨_, exec_freqWrite_ok hs hu hd hv h, ?_⟩
    simp only [answered_lastStatus, answered_get, answered_dom, answered_time]
    exact ⟨trivial, get_freqWritten s d hv, servoAt_freqWritten s d v, now_freqWritten s d v, dom_freqWritten_other s hd v,
      pres_freqWritten s d v, only_answered .ok (only_freqWritten s v hn)⟩
  case freqRange => exact ⟨_, exec_freqWrite_range hs hu hd hv h, rfl, only_answered .range (only_refl s)⟩
  case freqBack =>
    refine ⟨_, exec_freqWrite_ok hs hu hd hv h, ?_⟩
    simp only [answered_lastStatus, answered_get, answered_bit, answered_dom, answered_time]
    exact ⟨trivial, get_freqWritten s d hv, bit_servoWrite_locked hw hc, bit_servoWrite_unlockWdog hw hc hd,
      now_freqWritten s d v, pres_freqWritten s d v, only_answered .ok (only_freqWritten_regs s d v)⟩
  case phaseBack =>
    refine ⟨_, exec_phaseWrite_ok hs hu hd hv h, ?_⟩
    simp only [answered_lastStatus, answered_bit, answered_dom, answered_time]
    exact ⟨trivial, left_phaseWritten s d _, bit_phaseWritten_locked hw hc _, bit_phaseWritten_unlockWdog hw hc hd _,
      now_phaseWritten s d _, pres_phaseWritten s d _, only_answered .ok (only_phaseWritten_regs s d _)⟩
  case phase =>
    refine ⟨_, exec_phaseWrite_ok hs hu hd hv h, ?_⟩
    simp only [answered_lastStatus, answered_get, answered_bit, answered_dom, answered_time]
    exact ⟨trivial, left_phaseWritten s d _, get_phaseWritten_left s hd hv, bit_phaseWritten_slewing s hd hv,
      now_phaseWritten s d _, dom_phaseWritten_other s _ hd, pres_phaseWritten s d _,
      only_answered .ok (only_phaseWritten s _ hn)⟩
  case phaseRange => exact ⟨_, exec_phaseWrite_range hs hu hd hv h, rfl, only_answered .range (only_refl s)⟩
  case slewDone =>
    exact ⟨_, exec_phaseSlewDone hs.1 hd h, (get_settle ..).trans (get_off_self ..), only_settled (only_set s _ 0)⟩

end Sys2Proof.Machine
end

section
/-! Snapshots of the clocks (R126) and the difference A − B (R127). -/

namespace Sys2Proof.Machine

/-! ### The time groups of a snapshot -/

/-- The fields of a domain's snapshot group in the order FLAGS, FRACTION, NANOSECONDS, SEC_LO, SEC_HI (Table 4-6). -/
def domNowFields (d : Nat) : List Fld :=
  [Reg.TIME_DOM_NOW_W0_FLAGS d, Reg.TIME_DOM_NOW_W0_FRACTION d, Reg.TIME_DOM_NOW_W1_NANOSECONDS d,
    Reg.TIME_DOM_NOW_W2_SEC_LO d, Reg.TIME_DOM_NOW_W3_SEC_HI d]

/-- Those of presentation time. -/
def presNowFields : List Fld :=
  [Reg.TIME_PRES_NOW_W0_FLAGS, Reg.TIME_PRES_NOW_W0_FRACTION, Reg.TIME_PRES_NOW_W1_NANOSECONDS,
    Reg.TIME_PRES_NOW_W2_SEC_LO, Reg.TIME_PRES_NOW_W3_SEC_HI]

/-- A domain's group takes a stamp. -/
def State.putDomNow (s : State) (d st : Nat) : State :=
  s.putGroup (Reg.TIME_DOM_NOW_W0_FLAGS d) (Reg.TIME_DOM_NOW_W0_FRACTION d) (Reg.TIME_DOM_NOW_W1_NANOSECONDS d)
    (Reg.TIME_DOM_NOW_W2_SEC_LO d) (Reg.TIME_DOM_NOW_W3_SEC_HI d) st

/-- A domain's group shows a stamp. -/
def State.domNowIs (s : State) (d st : Nat) : Prop :=
  s.groupIs (Reg.TIME_DOM_NOW_W0_FLAGS d) (Reg.TIME_DOM_NOW_W0_FRACTION d) (Reg.TIME_DOM_NOW_W1_NANOSECONDS d)
    (Reg.TIME_DOM_NOW_W2_SEC_LO d) (Reg.TIME_DOM_NOW_W3_SEC_HI d) st

/-- Presentation time's group takes a stamp. -/
def State.putPresNow (s : State) (st : Nat) : State :=
  s.putGroup Reg.TIME_PRES_NOW_W0_FLAGS Reg.TIME_PRES_NOW_W0_FRACTION Reg.TIME_PRES_NOW_W1_NANOSECONDS
    Reg.TIME_PRES_NOW_W2_SEC_LO Reg.TIME_PRES_NOW_W3_SEC_HI st

/-- Presentation time's group shows a stamp. -/
def State.presNowIs (s : State) (st : Nat) : Prop :=
  s.groupIs Reg.TIME_PRES_NOW_W0_FLAGS Reg.TIME_PRES_NOW_W0_FRACTION Reg.TIME_PRES_NOW_W1_NANOSECONDS
    Reg.TIME_PRES_NOW_W2_SEC_LO Reg.TIME_PRES_NOW_W3_SEC_HI st

section Groups

variable {s t : State} {fl fr ns lo hi : Fld} {st : Nat}

/-- Five fields at five places, as wide as the parts of a stamp, hold the stamp that was stored in them. -/
theorem putGroup_groupIs (s : State) (st : Nat) (hk : ([fl, fr, ns, lo, hi].map Fld.key).Nodup) (hfl : fl.width = 16)
    (hfr : fr.width = 16) (hns : ns.width = 32) (hlo : lo.width = 32) (hhi : hi.width = 32) :
    (s.putGroup fl fr ns lo hi st).groupIs fl fr ns lo hi st := by
  simp only [List.map_cons, List.map_nil, List.nodup_cons, List.mem_cons, List.not_mem_nil, or_false, not_or] at hk
  obtain ⟨⟨k1, k2, k3, k4⟩, ⟨k5, k6, k7⟩, ⟨k8, k9⟩, k10, -⟩ := hk
  refine ⟨?_, ?_, ?_, ?_, ?_⟩ <;>
    simp (disch := (symm; assumption)) only [State.putGroup, get_set_ne, get_set_self, bits, hfl, hfr, hns, hlo, hhi,
      Nat.mod_mod]

theorem only_putGroup (s : State) (fl fr ns lo hi : Fld) (st : Nat) :
    s.only (s.putGroup fl fr ns lo hi st) [] (keysOf [fl, fr, ns, lo, hi]) :=
  keep_putGroup (keep_refl ..) (by simp [keysOf]) (by simp [keysOf]) (by simp [keysOf]) (by simp [keysOf]) (by simp [keysOf])

/-- A group keeps its stamp under a change that moves none of its fields. -/
theorem groupIs_of_only {P : List Part} {m : Keys} (h : s.groupIs fl fr ns lo hi st) (ho : s.only t P m)
    (hm : ∀ f ∈ [fl, fr, ns, lo, hi], ¬ m (Fld.key f)) : t.groupIs fl fr ns lo hi st := by
  obtain ⟨h1, h2, h3, h4, h5⟩ := h
  simp only [List.forall_mem_cons] at hm
  obtain ⟨m1, m2, m3, m4, m5, -⟩ := hm
  exact ⟨(ho.2 _ m1).trans h1, (ho.2 _ m2).trans h2, (ho.2 _ m3).trans h3, (ho.2 _ m4).trans h4, (ho.2 _ m5).trans h5⟩

end Groups

theorem putDomNow_domNowIs (s : State) {d : Nat} (hd : d < 2) (st : Nat) : (s.putDomNow d st).domNowIs d st := by
  refine putGroup_groupIs s st ?_ rfl rfl rfl rfl rfl
  obtain rfl | rfl : d = 0 ∨ d = 1 := by omega
  all_goals decide

theorem putPresNow_presNowIs (s : State) (st : Nat) : (s.putPresNow st).presNowIs st :=
  putGroup_groupIs s st (by decide) rfl rfl rfl rfl rfl

theorem only_putDomNow (s : State) (d st : Nat) : s.only (s.putDomNow d st) [] (keysOf (domNowFields d)) := only_putGroup ..

theorem only_putPresNow (s : State) (st : Nat) : s.only (s.putPresNow st) [] (keysOf presNowFields) := only_putGroup ..

/-! ### A snapshot moves no clock -/

/-- The registers of the snapshot groups. -/
def snapRegs : List String :=
  ["TIME_DOM_NOW_W0", "TIME_DOM_NOW_W1", "TIME_DOM_NOW_W2", "TIME_DOM_NOW_W3", "TIME_PRES_NOW_W0", "TIME_PRES_NOW_W1",
    "TIME_PRES_NOW_W2", "TIME_PRES_NOW_W3"]

section Frames

variable {s t : State}

theorem keep_putDomNow (d st : Nat) (h : s.only t [] (regsOf snapRegs)) : s.only (t.putDomNow d st) [] (regsOf snapRegs) :=
  keep_putGroup h (reg_TIME_DOM_NOW_W0_FLAGS (by decide)) (reg_TIME_DOM_NOW_W0_FRACTION (by decide))
    (reg_TIME_DOM_NOW_W1_NANOSECONDS (by decide)) (reg_TIME_DOM_NOW_W2_SEC_LO (by decide))
    (reg_TIME_DOM_NOW_W3_SEC_HI (by decide))

theorem keep_putPresNow (st : Nat) (h : s.only t [] (regsOf snapRegs)) : s.only (t.putPresNow st) [] (regsOf snapRegs) :=
  keep_putGroup h (reg_TIME_PRES_NOW_W0_FLAGS (by decide)) (reg_TIME_PRES_NOW_W0_FRACTION (by decide))
    (reg_TIME_PRES_NOW_W1_NANOSECONDS (by decide)) (reg_TIME_PRES_NOW_W2_SEC_LO (by decide))
    (reg_TIME_PRES_NOW_W3_SEC_HI (by decide))

variable (h : s.only t [] (regsOf snapRegs))
include h

theorem time_of_snapRegs : t.time = s.time := h.1 .time (by simp)

theorem domLock_of_snapRegs (d : Nat) : t.domLock d = s.domLock d := by
  have hl : t.get (Reg.TIME_DOM_CTRL_LOCKED d) = s.get (Reg.TIME_DOM_CTRL_LOCKED d) :=
    kept_of_only h (a := .rw) 4 d 0 (List.mem_of_getElem? (i := 0) rfl) (by simp) (by decide)
  have ht : t.get (Reg.TIME_DOM_CTRL_TRACEABLE d) = s.get (Reg.TIME_DOM_CTRL_TRACEABLE d) :=
    kept_of_only h (a := .rw) 4 d 0 (List.mem_of_getElem? (i := 0) rfl) (by simp) (by decide)
  rw [State.domLock, State.domLock, State.bit, State.bit, hl, ht, dom_of_time (time_of_snapRegs h), State.bit, State.bit]

end Frames

/-- The stamp of a domain's own time. -/
def State.domStamp (s : State) (d : Nat) : Nat := stampOf ((s.dom d).now / tuTick : Nat) (s.domFlags d)

theorem domStamp_of_snapRegs {s t : State} (h : s.only t [] (regsOf snapRegs)) (d : Nat) : t.domStamp d = s.domStamp d := by
  simp only [State.domStamp, State.domFlags, domLock_of_snapRegs h, dom_of_time (time_of_snapRegs h)]

/-! ### The snapshot -/

/-- Every group holds the stamp that its clock has in one state. -/
def State.snapped (s : State) : State := ((s.putDomNow 0 (s.domStamp 0)).putDomNow 1 (s.domStamp 1)).putPresNow s.presStamp

/-- The groups are latched one after another: the stamp of B is the same once that of A is stored. -/
theorem timeEffect_snap (old s : State) : timeEffect old s 0x108 1 = s.snapped := by
  have hA := keep_putDomNow 0 (s.domStamp 0) (keep_refl s [] _)
  calc timeEffect old s 0x108 1
      = ((s.putDomNow 0 (s.domStamp 0)).putDomNow 1 ((s.putDomNow 0 (s.domStamp 0)).domStamp 1)).putPresNow s.presStamp := rfl
    _ = s.snapped := by rw [domStamp_of_snapRegs hA, State.snapped]

theorem only_snapped (s : State) : s.only s.snapped [] (regsOf snapRegs) :=
  keep_putPresNow _ (keep_putDomNow 1 _ (keep_putDomNow 0 _ (keep_refl ..)))

theorem snapped_presNowIs (s : State) : s.snapped.presNowIs s.presStamp := putPresNow_presNowIs ..

/-- No group shares a field with another, so each keeps its stamp while the next are latched. -/
theorem snapped_domNowIs (s : State) {d : Nat} (hd : d < 2) : s.snapped.domNowIs d (s.domStamp d) := by
  have hpres : ∀ f ∈ domNowFields 0 ++ domNowFields 1, Fld.key f ∉ presNowFields.map Fld.key := by decide
  have hother : ∀ f ∈ domNowFields 0, Fld.key f ∉ (domNowFields 1).map Fld.key := by decide
  obtain rfl | rfl : d = 0 ∨ d = 1 := by omega
  · exact groupIs_of_only (groupIs_of_only (putDomNow_domNowIs s hd _) (only_putDomNow ..) hother) (only_putPresNow ..)
      fun f hf => hpres f (List.mem_append_left _ hf)
  · exact groupIs_of_only (putDomNow_domNowIs _ hd _) (only_putPresNow ..) fun f hf => hpres f (List.mem_append_right _ hf)

/-! ### The commands -/

theorem exec_timeSnap {s : State} (hs : s.served) (hu : s.funcUp .time = true) :
    exec .timeSnap s = .next (s.snapped.answered .ok) := by
  have hset : s.storeFields [(.wo, Reg.TIME_SNAP_SNAP)] 1 = s := rfl
  have hwarm := get_warmReset_of_only (only_snapped s) (by decide)
  have hwrite := timeWrite_ok hs hu (addr := 0x400108) (off := 0x108) (v := 1) (by omega) (by omega) regIs_TIME_SNAP (by omega)
    (by decide) rfl rfl (by rw [timeEffect_snap, hset, hwarm]; exact get_warmReset_of_served hs)
  rwa [timeEffect_snap, hset] at hwrite

theorem exec_abDiffUpdate {s : State} (hrun : s.running = true) : exec .abDiffUpdate s = .next s.abDiff.settle :=
  whenUp_running hrun _

/-! ### The difference -/

theorem toSigned_ofSigned {x : Int} (hlo : -(2 ^ 31) ≤ x) (hhi : x ≤ 2 ^ 31 - 1) : toSigned 32 (ofSigned 32 x) = x := by
  unfold toSigned ofSigned
  split <;> omega

/-- TIME_AB_DIFF shows the difference, held within 32 bits. -/
theorem getS_abDiff (s : State) : toSigned 32 (s.abDiff.get Reg.TIME_AB_DIFF_DIFF) =
    max (-(2 ^ 31)) (min (2 ^ 31 - 1) (((s.dom 0).now - (s.dom 1).now : Int) * 16 / tuNs)) := by
  have hmod (w : Nat) : toSigned 32 (w % 2 ^ 32) = toSigned 32 w := by simp only [toSigned, Nat.mod_mod]
  rw [State.abDiff, get_set_self]
  exact (hmod _).trans (toSigned_ofSigned (le_max_left ..) (max_le (by norm_num) (min_le_left ..)))

theorem only_abDiff (s : State) : s.only s.abDiff [] (keysOf [Reg.TIME_AB_DIFF_DIFF]) := by
  rw [State.abDiff]
  exact only_set ..

/-! ### The obligation -/

/-- Settles O21: the snapshot groups take the stamps of one state one after another, and the difference is cut to its range. -/
theorem snapshotsShowTheClocksOfOneInstant : Obligations.SnapshotsShowTheClocksOfOneInstant := by
  unfold Obligations.SnapshotsShowTheClocksOfOneInstant
  refine fun s => ⟨fun hs hu => ?snap, fun hrun => ?diff⟩
  case snap =>
    refine ⟨_, exec_timeSnap hs hu, rfl, fun d hd => ?_, ?_, only_answered .ok (only_snapped s)⟩
    · exact (answered_groupIs ..).mpr (snapped_domNowIs s hd)
    · exact (answered_groupIs ..).mpr (snapped_presNowIs s)
  case diff =>
    refine ⟨_, exec_abDiffUpdate hrun, ?_, only_settled (only_abDiff s)⟩
    rw [get_settle]
    exact getS_abDiff s

end Sys2Proof.Machine
end

section
/-! Calibration of a port (R147 to R150, R172): what START checks and begins, what the end of a run leaves, and the read that
takes its event down. -/

namespace Sys2Proof.Machine

@[simp] theorem get_modStamp (s : State) (k : StampSt → StampSt) (f : Fld) : (s.modStamp k).get f = s.get f := rfl
@[simp] theorem bit_settle (s : State) (f : Fld) : s.settle.bit f = s.bit f := rfl
@[simp] theorem linkState_settle (s : State) (p : Nat) : s.settle.linkState p = s.linkState p := rfl

/-- The fields of STAMP_CAL_CTRL (R147). -/
def calCtrlFields : List (Access × Fld) := [(.wo, Reg.STAMP_CAL_CTRL_START), (.rw, Reg.STAMP_CAL_CTRL_PORT)]

/-- The fields of STAMP_CAL_RESULT (R148). -/
def calResultFields : List (Access × Fld) := [(.ro, Reg.STAMP_CAL_RESULT_STATUS), (.ro, Reg.STAMP_CAL_RESULT_LOOP_ERR)]

/-! ### The word that starts a run -/

section StartWord

variable {p : Nat} (hp : p < 1024)
include hp

/-- START stands above the port number. -/
theorem startWord_eq_or : 2 ^ 31 + p = 2 ^ 31 ||| p := Nat.two_pow_add_eq_or_of_lt (by omega : p < 2 ^ 31) 1

theorem startWord_start : bitOf (2 ^ 31 + p) 31 = true := by
  rw [bitOf, startWord_eq_or hp, Nat.testBit_or, Nat.testBit_two_pow_self, Bool.true_or]

theorem startWord_port : bits (2 ^ 31 + p) 0 10 = p := by
  unfold bits
  omega

theorem startWord_within : within (2 ^ 31 + p) (definedBits calCtrlFields) = true := by
  have hmask : definedBits calCtrlFields = 2 ^ 31 ||| (2 ^ 10 - 1) := by decide
  rw [within, hmask, startWord_eq_or hp, ← Nat.or_and_distrib_left, Nat.and_two_pow_sub_one_eq_mod, Nat.mod_eq_of_lt hp,
    beq_self_eq_true]

/-- The checks of START in their order (R147). -/
theorem stampCheck_start (s : State) : stampCheck s 0x20 (2 ^ 31 + p) =
    if !s.isPort p || s.get (Reg.MAC_PORT_CTRL_LOOPBACK p) != 1 then .range
    else if s.linkState p != stDisabled || s.stamp.cal.isSome then .busy else .ok := by
  unfold stampCheck
  simp only [startWord_start hp, startWord_port hp, if_true]

end StartWord

/-! ### The start -/

/-- A run has begun on a port (R148). -/
def State.calStarted (s : State) (p : Nat) : State :=
  ((s.set Reg.STAMP_CAL_CTRL_PORT p).set Reg.STAMP_CAL_RESULT_STATUS 1).modStamp fun x =>
    { x with cal := some ⟨p, s.cycle⟩, calUnread := false }

theorem only_calStarted (s : State) (p : Nat) :
    s.only (s.calStarted p) [.stamp] (keysOf [Reg.STAMP_CAL_RESULT_STATUS, Reg.STAMP_CAL_CTRL_PORT]) :=
  keep_modStamp _ (keep_set _ _ (keep_set _ _ (keep_refl ..) (by simp [keysOf])) (by simp [keysOf])) (by simp)

theorem get_calStarted_status (s : State) (p : Nat) : (s.calStarted p).get Reg.STAMP_CAL_RESULT_STATUS = 1 := by
  rw [State.calStarted, get_modStamp, get_set_self]
  rfl

theorem get_calStarted_port (s : State) {p : Nat} (hp : p < 1024) : (s.calStarted p).get Reg.STAMP_CAL_CTRL_PORT = p := by
  rw [State.calStarted, get_modStamp, get_set_ne _ _ (by decide), get_set_self]
  exact Nat.mod_eq_of_lt hp

section Start

variable {s : State} {p : Nat} (hs : s.served) (hu : s.funcUp .time = true) (hp : p < 1024)
include hu

theorem pageDown_stamp (w : Bool) {addr : Nat} (ha : pageOf addr = 5) : s.pageDown w addr = false := by
  simp [State.pageDown, ha, pageFunc, hu]

include hs hp

theorem exec_calStart_ok (hc : stampCheck s 0x20 (2 ^ 31 + p) = .ok) :
    exec (.calStart p) s = .next ((s.calStarted p).answered .ok) := by
  have heff : stampEffect (s.storeFields calCtrlFields (2 ^ 31 + p)) 0x20 (2 ^ 31 + p) = s.calStarted p := by
    have hset : s.storeFields calCtrlFields (2 ^ 31 + p) = s.set Reg.STAMP_CAL_CTRL_PORT p :=
      congrArg (s.set _) (startWord_port hp)
    rw [hset, stampEffect, startWord_start hp, startWord_port hp]
    rfl
  have hreg := writeReg_ok hs regIs_STAMP_CAL_CTRL (pageDown_stamp hu true rfl) trivial (startWord_within hp) rfl hc
  have hwarm : (s.calStarted p).get Reg.SYS_CTRL_WARM_RESET = s.get Reg.SYS_CTRL_WARM_RESET :=
    (only_calStarted s p).2 _ (by simp [keysOf]; decide)
  have hwrite := write_step hs (by omega) (hreg.trans (congrArg (Prod.mk _) heff)) (hwarm.trans (get_warmReset_of_served hs))
  exact (onPort_ok hp _).trans hwrite

theorem exec_calStart_refused {st : Status} (hc : stampCheck s 0x20 (2 ^ 31 + p) = st) (hst : st ≠ .ok) :
    exec (.calStart p) s = .next (s.answered st) := by
  have hreg := writeReg_refused hs regIs_STAMP_CAL_CTRL (pageDown_stamp hu true rfl) trivial (startWord_within hp) rfl hc hst
  have hwrite : whenUp s (fun s => s.hostWrite 0x500020 (2 ^ 31 + p)) = .next (s.answered st) := by
    rw [whenUp_running hs.1, hostWrite_refused (by omega) hreg (get_warmReset_of_served hs)]
    rfl
  exact (onPort_ok hp _).trans hwrite

end Start

/-! ### A port that leaves DISABLED -/

theorem linkState_enterTraining (s : State) (p : Nat) : (s.enterTraining p).linkState p = stTraining := by
  have hstate : (s.enterTraining p).linkState p = (s.set (Reg.MAC_PORT_STATUS_STATE p) stTraining).get
      (Reg.MAC_PORT_STATUS_STATE p) := rfl
  rw [hstate, get_set_self]
  rfl

theorem linkState_leaveDisabled (s : State) (p : Nat) : (s.leaveDisabled p).linkState p = stTraining :=
  linkState_enterTraining ..

/-- An enabled port in DISABLED that no run holds leaves it (R84, R147). -/
theorem applyEnable_of_disabled {s : State} {p : Nat} (he : s.bit (Reg.MAC_PORT_CTRL_ENABLE p) = true)
    (hd : s.linkState p = stDisabled) (hc : s.stamp.cal = none) : s.applyEnable p = s.leaveDisabled p := by
  simp [State.applyEnable, he, hd, hc]

/-! ### The end of a run -/

/-- No run holds a port any longer, and its event stands (R148, R172). -/
def State.calFreed (s : State) : State := s.modStamp fun x => { x with cal := none, calUnread := true }

/-- The run of a port is over, and an ENABLE = 1 written meanwhile has taken effect (log 84). -/
def State.calEnded (s : State) (p : Nat) : State :=
  if s.bit (Reg.MAC_PORT_CTRL_ENABLE p) then s.calFreed.applyEnable p else s.calFreed

/-- The results of a loop that trained (R148). -/
def State.calMeasured (s : State) (p e i g : Nat) : State :=
  ((((s.set Reg.STAMP_CAL_RESULT_STATUS 2).set Reg.STAMP_CAL_RESULT_LOOP_ERR e).set Reg.STAMP_CAL_SUGGEST_ING i).set
    Reg.STAMP_CAL_SUGGEST_EGR g).on (Reg.STAMP_PORT_STATUS_CAL_VALID p)

/-- The result of a loop that did not train (R148). -/
def State.calFailed (s : State) : State := s.set Reg.STAMP_CAL_RESULT_STATUS 3

section Done

variable {s : State} {p since : Nat} (e i g : Nat) (hc : s.stamp.cal = some ⟨p, since⟩)
include hc

theorem calDone_of_run (trained : Bool) :
    s.calDone trained e i g = if trained then (s.calEnded p).calMeasured p e i g else (s.calEnded p).calFailed := by
  unfold State.calDone
  rw [hc]
  rfl

theorem exec_calDone_trained (hrun : s.running = true) :
    exec (.calDone true e i g) s = .next ((s.calEnded p).calMeasured p e i g).settle := by
  rw [← show s.calDone true e i g = (s.calEnded p).calMeasured p e i g from calDone_of_run e i g hc true]
  exact whenUp_running hrun fun s => s.calDone true e i g

theorem exec_calDone_failed (hrun : s.running = true) :
    exec (.calDone false e i g) s = .next (s.calEnded p).calFailed.settle := by
  rw [← show s.calDone false e i g = (s.calEnded p).calFailed from calDone_of_run e i g hc false]
  exact whenUp_running hrun fun s => s.calDone false e i g

end Done

section Ended

variable (s : State) (p : Nat)

theorem only_calFreed : s.only s.calFreed [.stamp] (keysOf []) := keep_modStamp _ (keep_refl ..) (by simp)

/-- A port that is not enabled stays as it is. -/
theorem calEnded_of_off {s : State} {p : Nat} (h : s.bit (Reg.MAC_PORT_CTRL_ENABLE p) = false) : s.calEnded p = s.calFreed := by
  simp [State.calEnded, h]

/-- The registers that ENABLE moves when it takes effect. -/
def enableRegs : List String := ["MAC_PORT_STATUS", "MAC_PORT_EVT", "CNT_HALF_LO", "CNT_HALF_HI"]

theorem only_calEnded : s.only (s.calEnded p) [.stamp, .ports, .counters, .reck, .pair] (regsOf enableRegs) := by
  have hfreed := only_mono (only_calFreed s) (Q := [.stamp, .ports, .counters, .reck, .pair]) (by simp)
    (keysOf_nil (regsOf enableRegs))
  exact keep_if (keep_of (frame_applyEnable ..) hfreed (by simp) fun _ => id) hfreed

@[simp] theorem stamp_calEnded : (s.calEnded p).stamp = { s.stamp with cal := none, calUnread := true } := by
  unfold State.calEnded
  split
  · exact (frame_applyEnable s.calFreed p).1 .stamp (by simp)
  · rfl

/-- An enabled port in DISABLED starts training as the run ends. -/
theorem linkState_calEnded {s : State} {p : Nat} (hd : s.linkState p = stDisabled)
    (he : s.bit (Reg.MAC_PORT_CTRL_ENABLE p) = true) : (s.calEnded p).linkState p = stTraining := by
  have hleave : s.calFreed.applyEnable p = s.calFreed.leaveDisabled p := applyEnable_of_disabled he hd rfl
  rw [State.calEnded, if_pos he, hleave]
  exact linkState_leaveDisabled ..

end Ended

/-! ### The results -/

section Results

variable (s : State) (p : Nat) {e i g : Nat}

theorem only_calMeasured (e i g : Nat) :
    s.only (s.calMeasured p e i g) [] (regsOf ["STAMP_CAL_RESULT", "STAMP_CAL_SUGGEST", "STAMP_PORT_STATUS"]) :=
  keep_on _ (keep_set _ _ (keep_set _ _ (keep_set _ _ (keep_set _ _ (keep_refl ..)
    (reg_STAMP_CAL_RESULT_STATUS (by simp))) (reg_STAMP_CAL_RESULT_LOOP_ERR (by simp)))
    (reg_STAMP_CAL_SUGGEST_ING (by simp))) (reg_STAMP_CAL_SUGGEST_EGR (by simp)))
    (reg_STAMP_PORT_STATUS_CAL_VALID (by simp))

theorem only_calFailed : s.only s.calFailed [] (keysOf [Reg.STAMP_CAL_RESULT_STATUS]) := only_set ..

theorem only_calFailed_regs : s.only s.calFailed [] (regsOf ["STAMP_CAL_RESULT"]) :=
  keep_set _ _ (keep_refl ..) (reg_STAMP_CAL_RESULT_STATUS (by simp))

@[simp] theorem stamp_calMeasured : (s.calMeasured p e i g).stamp = s.stamp := rfl
@[simp] theorem stamp_calFailed : s.calFailed.stamp = s.stamp := rfl

theorem bit_calMeasured_valid : (s.calMeasured p e i g).bit (Reg.STAMP_PORT_STATUS_CAL_VALID p) = true := by
  rw [State.bit, State.calMeasured, get_on_self _ _ (le_refl 1)]
  rfl

/-- CAL_VALID lies above the registers of the whole page. -/
theorem get_on_calValid {f : Fld} (hf : Fld.key f < Fld.key (Reg.STAMP_PORT_STATUS_CAL_VALID 0)) :
    (s.on (Reg.STAMP_PORT_STATUS_CAL_VALID p)).get f = s.get f := by
  refine get_on_ne _ ?_
  have hle : Fld.key (Reg.STAMP_PORT_STATUS_CAL_VALID 0) ≤ Fld.key (Reg.STAMP_PORT_STATUS_CAL_VALID p) := by
    simp only [Fld.key, Reg.STAMP_PORT_STATUS_CAL_VALID]
    omega
  omega

theorem get_calMeasured_status : (s.calMeasured p e i g).get Reg.STAMP_CAL_RESULT_STATUS = 2 := by
  simp (disch := decide) only [State.calMeasured, get_on_calValid, get_set_ne, get_set_self]
  rfl

theorem get_calMeasured_loopErr (he : e < 65536) : (s.calMeasured p e i g).get Reg.STAMP_CAL_RESULT_LOOP_ERR = e := by
  simp (disch := decide) only [State.calMeasured, get_on_calValid, get_set_ne, get_set_self]
  exact Nat.mod_eq_of_lt he

theorem get_calMeasured_ing (hi : i < 65536) : (s.calMeasured p e i g).get Reg.STAMP_CAL_SUGGEST_ING = i := by
  simp (disch := decide) only [State.calMeasured, get_on_calValid, get_set_ne, get_set_self]
  exact Nat.mod_eq_of_lt hi

theorem get_calMeasured_egr (hg : g < 65536) : (s.calMeasured p e i g).get Reg.STAMP_CAL_SUGGEST_EGR = g := by
  simp (disch := decide) only [State.calMeasured, get_on_calValid, get_set_self]
  exact Nat.mod_eq_of_lt hg

theorem get_calFailed_status : s.calFailed.get Reg.STAMP_CAL_RESULT_STATUS = 3 := get_set_self ..

/-- No register of the results shows a link state. -/
theorem linkState_of_regs {s t : State} {L : List String} (h : s.only t [] (regsOf L)) (hL : "MAC_PORT_STATUS" ∉ L) (q : Nat) :
    t.linkState q = s.linkState q :=
  kept_of_only h (a := .ro) 2 q 0 (List.mem_of_getElem? (i := 6) rfl) (by simp) hL

/-- The extent of a run's end with its results. -/
theorem only_ended {s t : State} {p : Nat} {L M : List String} (h : (s.calEnded p).only t [] (regsOf L))
    (he : ∀ r ∈ enableRegs, r ∈ M) (hL : ∀ r ∈ L, r ∈ M) : s.only t [.stamp, .ports, .counters, .reck, .pair] (regsOf M) :=
  keep_of h (only_mono (only_calEnded s p) (fun _ => id) fun _ => regsOf_mono he) (by simp) hL

/-- Of a port that is not enabled only the results move. -/
theorem only_ended_of_off {s t : State} {p : Nat} {m : Keys} (hen : s.bit (Reg.MAC_PORT_CTRL_ENABLE p) = false)
    (h : (s.calEnded p).only t [] m) : s.only t [.stamp] m := by
  rw [calEnded_of_off hen] at h
  exact only_mono (only_trans (only_calFreed s) h) (by simp) (by simp [keysOf])

end Results

/-! ### The event and the read of the result -/

/-- EVT_STAMP_CAL_DONE is pending while the result has not been read (R172). -/
theorem cond_calDone (s : State) : s.cond 2065 = s.stamp.calUnread := rfl

/-- A read of a served register that belongs to no lane: the fields as they stand after they follow what they show. -/
theorem readReg_served {s : State} {addr i j : Nat} {l : List (Access × Fld)} (hs : s.served) (hr : regIs addr .plain i j l)
    (hd : s.pageDown false addr = false) : s.readReg addr =
      (.ok, (s.refreshAt (pageOf addr) (addr % 0x100000)).readFields l,
        ((s.refreshAt (pageOf addr) (addr % 0x100000)).clearRead l).readEffect addr) := by
  obtain ⟨f, hf, ho, hl⟩ := hr
  have hn : s.notPort f i = false := isPort_of_rule ho trivial
  subst hl
  simp [State.readReg, accessGate_served hs, hf, hd, hn]

/-- STATUS stands above LOOP_ERR in the word read. -/
theorem readFields_calResult {s : State} (he : s.get Reg.STAMP_CAL_RESULT_LOOP_ERR < 65536) :
    s.readFields calResultFields = s.get Reg.STAMP_CAL_RESULT_STATUS * 2 ^ 30 + s.get Reg.STAMP_CAL_RESULT_LOOP_ERR := by
  have hword : s.readFields calResultFields =
      (0 ||| s.get Reg.STAMP_CAL_RESULT_STATUS <<< 30) ||| s.get Reg.STAMP_CAL_RESULT_LOOP_ERR <<< 0 := rfl
  rw [hword, Nat.zero_or, Nat.shiftLeft_zero, ← Nat.shiftLeft_add_eq_or_of_lt (by omega), Nat.shiftLeft_eq]

/-- The state that a read of the result leaves, with the word that it answers. -/
def State.calAnswered (s : State) (v : Nat) : State := State.settle { s.calRead with lastStatus := .ok, lastData := v }

theorem only_calAnswered (s : State) (v : Nat) : s.only (s.calAnswered v) [.answer, .stamp] (keysOf []) :=
  keep_settle (keep_part (keep_refl s [.answer, .stamp] (keysOf [])) rfl fun q hq => by
    cases q <;> simp_all [Part.same, State.calRead])

theorem exec_calResultRead {s : State} (hs : s.served) (hu : s.funcUp .time = true)
    (he : s.get Reg.STAMP_CAL_RESULT_LOOP_ERR < 65536) : exec .calResultRead s =
      .next (s.calAnswered (s.get Reg.STAMP_CAL_RESULT_STATUS * 2 ^ 30 + s.get Reg.STAMP_CAL_RESULT_LOOP_ERR)) := by
  have hread : s.hostRead 0x500024 = { s.calRead with lastStatus := .ok, lastData := s.readFields calResultFields } := by
    rw [State.hostRead, readReg_served hs regIs_STAMP_CAL_RESULT (pageDown_stamp hu false rfl)]
    rfl
  rw [← readFields_calResult he, State.calAnswered, ← hread]
  exact whenUp_running hs.1 fun s => s.hostRead 0x500024

/-! ### The obligation -/

/-- Settles O23: START passes its checks or is refused, the end of a run leaves its results after the port is free, and the read
takes the event down. -/
theorem aCalibrationRunsOnOneDisabledPort : Obligations.ACalibrationRunsOnOneDisabledPort := by
  unfold Obligations.ACalibrationRunsOnOneDisabledPort
  intro s p hp
  refine ⟨fun hs hu hport hloop => ⟨fun hd hc => ?start, fun hbusy => ?busy⟩, fun hs hu hno => ?range,
    fun since e i g hrun hc he hi hg => ⟨?trained, ?failed⟩, fun hs hu _ he => ?read⟩
  case start =>
    have hok : stampCheck s 0x20 (2 ^ 31 + p) = .ok := by
      rw [stampCheck_start hp]
      simp [hport, hloop, hd, hc]
    exact ⟨_, exec_calStart_ok hs hu hp hok, rfl, get_calStarted_status s p, rfl, get_calStarted_port s hp,
      only_answered .ok (only_calStarted s p)⟩
  case busy =>
    have hrefused : stampCheck s 0x20 (2 ^ 31 + p) = .busy := by
      rw [stampCheck_start hp]
      simpa [hport, hloop, Option.isSome_iff_ne_none, imp_iff_not_or] using hbusy
    exact ⟨_, exec_calStart_refused hs hu hp hrefused (by simp), rfl, only_answered .busy (only_refl s)⟩
  case range =>
    have hrefused : stampCheck s 0x20 (2 ^ 31 + p) = .range := by
      rw [stampCheck_start hp, if_pos (by simpa using hno)]
    exact ⟨_, exec_calStart_refused hs hu hp hrefused (by simp), rfl, only_answered .range (only_refl s)⟩
  case trained =>
    have honly := only_calMeasured (s.calEnded p) p e i g
    refine ⟨_, exec_calDone_trained e i g hc hrun, ?_⟩
    simp only [get_settle, bit_settle, linkState_settle, cond_calDone, settle_stamp, stamp_calMeasured, stamp_calEnded]
    exact ⟨get_calMeasured_status .., get_calMeasured_loopErr _ _ he, get_calMeasured_ing _ _ hi, get_calMeasured_egr _ _ hg,
      bit_calMeasured_valid .., trivial, trivial,
      fun hd hen => (linkState_of_regs honly (by simp) p).trans (linkState_calEnded hd hen),
      fun hen => only_settled (only_ended_of_off hen honly), only_settled (only_ended honly (by decide) (by decide))⟩
  case failed =>
    have honly := only_calFailed_regs (s.calEnded p)
    refine ⟨_, exec_calDone_failed e i g hc hrun, ?_⟩
    simp only [get_settle, linkState_settle, cond_calDone, settle_stamp, stamp_calFailed, stamp_calEnded]
    exact ⟨get_calFailed_status _, trivial, trivial,
      fun hd hen => (linkState_of_regs honly (by simp) p).trans (linkState_calEnded hd hen),
      fun hen => only_settled (only_ended_of_off hen (only_calFailed _)),
      only_settled (only_ended honly (by decide) (by decide))⟩
  case read =>
    exact ⟨_, exec_calResultRead hs hu he, rfl, rfl, rfl, only_calAnswered ..⟩

end Sys2Proof.Machine
end

section
/-! Every step: the command at the front of the queue or one clock cycle, and what both leave (R3, log 1, log 3). -/

-- One proof at a time: side by side they take more threads than the memory bound of the check leaves room for.
set_option Elab.async false

namespace Sys2Proof.Machine

/-! ### The two forms of a step -/

theorem step_of_cons {s : State} {c : Instr} {rest : List Instr} (h : s.pending = c :: rest) :
    step s = exec c { s with pending := rest } := by rw [step, h]

theorem step_of_nil {s : State} (h : s.pending = []) : step s = .next s.tick.settle := by rw [step, h, finish_next]

/-- Settles O1: a step is the dispatch of the front command. -/
theorem stepRunsTheFrontCommand : Obligations.StepRunsTheFrontCommand := by
  unfold Obligations.StepRunsTheFrontCommand
  intro c rest s h
  exact step_of_cons h

/-! ### No command stops but for an object that Table 0-5 does not have -/

namespace OnlyWhileUp

theorem safe_or_fault {s : State} {o : Out} (h : OnlyWhileUp s o) : safeStep o ∨ o = .fault .noSuchObject := by
  cases h with
  | whenUp k => exact .inl (whenUp_safe s k)
  | noSuchObject => exact .inr rfl

end OnlyWhileUp

theorem ActsInReset.safe_or_fault {c : Instr} (h : ActsInReset c) (s : State) :
    safeStep (exec c s) ∨ exec c s = .fault .noSuchObject := by
  cases h with
  | resetNAssert => exact .inl (finish_safe s.resetAssert)
  | resetNRelease p => exact .inl (finish_safe (s.resetRelease p))
  | powerLoss => exact .inl (finish_safe s.powerLoss)
  | holdInChange l => exact .inl (finish_safe (s.holdPin l))
  | tapReset => exact .inl (finish_safe (s.jtagLoad 1))
  | jtagInstruction o =>
    by_cases ho : o < 256
    · exact .inl (by rw [exec, execJtagInstruction, onObject_ok ho]; exact finish_safe _)
    · exact .inr (by rw [exec, execJtagInstruction, onObject_out ho])

/-- A command leaves the pins right or names an object that does not exist (log 3). -/
theorem exec_safe_or_fault (c : Instr) (s : State) : safeStep (exec c s) ∨ exec c s = .fault .noSuchObject :=
  (actsInReset_or_onlyWhileUp c).elim (·.safe_or_fault s) fun h => (h s).safe_or_fault

/-- A command whose numbers are those of Table 0-5 answers a next state in every state. -/
theorem exec_goes : ∀ c : Instr, Laws.Reaches.Statement c
  | .resetNAssert => Laws.Reaches.resetNAssert
  | .resetNRelease _ => Laws.Reaches.resetNRelease _
  | .strapCompare _ => Laws.Reaches.strapCompare _
  | .powerLoss => Laws.Reaches.powerLoss
  | .supplyRangeCheck _ => Laws.Reaches.supplyRangeCheck _
  | .brownOutReset => Laws.Reaches.brownOutReset
  | .tempReading _ => Laws.Reaches.tempReading _
  | .coreSpeedMeasurement _ => Laws.Reaches.coreSpeedMeasurement _
  | .refInputLost _ => Laws.Reaches.refInputLost _
  | .refInputGood _ _ => Laws.Reaches.refInputGood _ _
  | .registerWrite _ _ => Laws.Reaches.registerWrite _ _
  | .rcRegisterRead _ => Laws.Reaches.rcRegisterRead _
  | .octetModeWrite _ _ => Laws.Reaches.octetModeWrite _ _
  | .portEnable _ _ => Laws.Reaches.portEnable _ _
  | .portDisable _ _ => Laws.Reaches.portDisable _ _
  | .linkConditionChange _ _ => Laws.Reaches.linkConditionChange _ _
  | .upDebounceExpiry _ => Laws.Reaches.upDebounceExpiry _
  | .dnDebounceExpiry _ => Laws.Reaches.dnDebounceExpiry _
  | .frameStart _ _ _ => Laws.Reaches.frameStart _ _ _
  | .firstWordCrossing _ => Laws.Reaches.firstWordCrossing _
  | .classifyPass _ => Laws.Reaches.classifyPass _
  | .carryPass => Laws.Reaches.carryPass
  | .forwardingLookup _ => Laws.Reaches.forwardingLookup _
  | .learnRelease _ => Laws.Reaches.learnRelease _
  | .contextFetchDone _ _ => Laws.Reaches.contextFetchDone _ _
  | .admission _ => Laws.Reaches.admission _
  | .frameEnd _ _ _ => Laws.Reaches.frameEnd _ _ _
  | .frameTruncate _ => Laws.Reaches.frameTruncate _
  | .pauseFrameReceived _ _ _ => Laws.Reaches.pauseFrameReceived _ _ _
  | .pfcFrameReceived _ _ _ _ => Laws.Reaches.pfcFrameReceived _ _ _ _
  | .pauseTimerExpiry _ _ => Laws.Reaches.pauseTimerExpiry _ _
  | .pauseRefresh _ _ => Laws.Reaches.pauseRefresh _ _
  | .cntRead _ => Laws.Reaches.cntRead _
  | .cntClear _ => Laws.Reaches.cntClear _
  | .timeDomFreqWrite _ _ => Laws.Reaches.timeDomFreqWrite _ _
  | .timeDomPhaseWrite _ _ => Laws.Reaches.timeDomPhaseWrite _ _
  | .phaseSlewDone _ => Laws.Reaches.phaseSlewDone _
  | .lockDeclare _ _ => Laws.Reaches.lockDeclare _ _
  | .servoWatchdogExpiry _ => Laws.Reaches.servoWatchdogExpiry _
  | .domainSetTime _ => Laws.Reaches.domainSetTime _
  | .domainSetAtPps _ => Laws.Reaches.domainSetAtPps _
  | .ppsEdge _ => Laws.Reaches.ppsEdge _
  | .ppsMissing _ => Laws.Reaches.ppsMissing _
  | .presMoveDone => Laws.Reaches.presMoveDone
  | .presRevert => Laws.Reaches.presRevert
  | .timeSnap => Laws.Reaches.timeSnap
  | .abDiffUpdate => Laws.Reaches.abDiffUpdate
  | .tpoEnable _ _ => Laws.Reaches.tpoEnable _ _
  | .tpoPulseEdge _ _ => Laws.Reaches.tpoPulseEdge _ _
  | .tpiCapture _ _ => Laws.Reaches.tpiCapture _ _
  | .tpiPop _ => Laws.Reaches.tpiPop _
  | .calStart _ => Laws.Reaches.calStart _
  | .calDone _ _ _ _ => Laws.Reaches.calDone _ _ _ _
  | .calResultRead => Laws.Reaches.calResultRead
  | .stampQueueTransfer => Laws.Reaches.stampQueueTransfer
  | .stampEntryWrite => Laws.Reaches.stampEntryWrite
  | .llRelease _ => Laws.Reaches.llRelease _
  | .copyLink _ => Laws.Reaches.copyLink _
  | .replicatorOffer _ _ => Laws.Reaches.replicatorOffer _ _
  | .residueLink _ => Laws.Reaches.residueLink _
  | .schedulerPick _ => Laws.Reaches.schedulerPick _
  | .transmitStart _ _ => Laws.Reaches.transmitStart _ _
  | .transmitEnd _ => Laws.Reaches.transmitEnd _
  | .frameDigest _ => Laws.Reaches.frameDigest _
  | .gapRecordWrite _ => Laws.Reaches.gapRecordWrite _
  | .chainTakeRecord => Laws.Reaches.chainTakeRecord
  | .leafTimerClose _ => Laws.Reaches.leafTimerClose _
  | .sealInstant => Laws.Reaches.sealInstant
  | .tallyEnable _ => Laws.Reaches.tallyEnable _
  | .tallyDisable _ => Laws.Reaches.tallyDisable _
  | .finalSealForm => Laws.Reaches.finalSealForm
  | .sealPeriodWrite _ => Laws.Reaches.sealPeriodWrite _
  | .sealSign => Laws.Reaches.sealSign
  | .sealExport => Laws.Reaches.sealExport
  | .mramHeadWrite _ => Laws.Reaches.mramHeadWrite _
  | .tallyExportEntry _ => Laws.Reaches.tallyExportEntry _
  | .mramRetiredRead => Laws.Reaches.mramRetiredRead
  | .profileValidWrite _ _ => Laws.Reaches.profileValidWrite _ _
  | .profileDrained _ => Laws.Reaches.profileDrained _
  | .nop _ => Laws.Reaches.nop _
  | .ruleStage _ => Laws.Reaches.ruleStage _
  | .ruleDiscard _ => Laws.Reaches.ruleDiscard _
  | .ruleCommit _ => Laws.Reaches.ruleCommit _
  | .ruleRead _ => Laws.Reaches.ruleRead _
  | .ruleRangeSet _ => Laws.Reaches.ruleRangeSet _
  | .tagDrained _ => Laws.Reaches.tagDrained _
  | .drainStuck _ => Laws.Reaches.drainStuck _
  | .fdbInsert _ => Laws.Reaches.fdbInsert _
  | .fdbDelete _ => Laws.Reaches.fdbDelete _
  | .fdbAgeDelete _ => Laws.Reaches.fdbAgeDelete _
  | .fdbSearch _ => Laws.Reaches.fdbSearch _
  | .fdbNext _ => Laws.Reaches.fdbNext _
  | .fdbFlush _ => Laws.Reaches.fdbFlush _
  | .lpmInsert _ => Laws.Reaches.lpmInsert _
  | .lpmDelete _ => Laws.Reaches.lpmDelete _
  | .lpmSearch _ => Laws.Reaches.lpmSearch _
  | .lpmMatch _ => Laws.Reaches.lpmMatch _
  | .lpmNext _ => Laws.Reaches.lpmNext _
  | .lpmFlush _ => Laws.Reaches.lpmFlush _
  | .lpmBackgroundMove _ => Laws.Reaches.lpmBackgroundMove _
  | .flowOpen _ => Laws.Reaches.flowOpen _
  | .flowModify _ => Laws.Reaches.flowModify _
  | .flowRead _ => Laws.Reaches.flowRead _
  | .flowClear _ => Laws.Reaches.flowClear _
  | .flowClose _ => Laws.Reaches.flowClose _
  | .flowNext _ => Laws.Reaches.flowNext _
  | .furtherBeadRequest _ => Laws.Reaches.furtherBeadRequest _
  | .allocatorHandshake _ _ _ => Laws.Reaches.allocatorHandshake _ _ _
  | .beadDecrement _ _ _ => Laws.Reaches.beadDecrement _ _ _
  | .bufWithdraw _ => Laws.Reaches.bufWithdraw _
  | .withdrawTimeout => Laws.Reaches.withdrawTimeout
  | .bufRestore _ => Laws.Reaches.bufRestore _
  | .spillWrite _ => Laws.Reaches.spillWrite _
  | .spillReturn _ _ => Laws.Reaches.spillReturn _ _
  | .mcastSet _ => Laws.Reaches.mcastSet _
  | .mcastRead _ => Laws.Reaches.mcastRead _
  | .portFlush _ => Laws.Reaches.portFlush _
  | .holdDownExpiry _ => Laws.Reaches.holdDownExpiry _
  | .stuckInspection => Laws.Reaches.stuckInspection
  | .stuckReclaim _ => Laws.Reaches.stuckReclaim _
  | .policerHandshake _ => Laws.Reaches.policerHandshake _
  | .tmPolicerSet _ => Laws.Reaches.tmPolicerSet _
  | .tmPolicerRead _ => Laws.Reaches.tmPolicerRead _
  | .tmShaperSet _ => Laws.Reaches.tmShaperSet _
  | .tmShaperRead _ => Laws.Reaches.tmShaperRead _
  | .tmGclWrite _ => Laws.Reaches.tmGclWrite _
  | .tmGclCommit _ => Laws.Reaches.tmGclCommit _
  | .tmGclCancel _ => Laws.Reaches.tmGclCancel _
  | .tmGclRead _ => Laws.Reaches.tmGclRead _
  | .gateListStart _ => Laws.Reaches.gateListStart _
  | .gateEntryChange _ => Laws.Reaches.gateEntryChange _
  | .dramScrubRead _ _ => Laws.Reaches.dramScrubRead _ _
  | .caParityAlert _ _ => Laws.Reaches.caParityAlert _ _
  | .dramRequestTimeout _ => Laws.Reaches.dramRequestTimeout _
  | .writeAgeDrain _ => Laws.Reaches.writeAgeDrain _
  | .refresh _ => Laws.Reaches.refresh _
  | .dramTempRead _ _ => Laws.Reaches.dramTempRead _ _
  | .rowGuardRefresh _ _ => Laws.Reaches.rowGuardRefresh _ _
  | .stackPark _ => Laws.Reaches.stackPark _
  | .stackWake _ => Laws.Reaches.stackWake _
  | .sidIdle _ _ => Laws.Reaches.sidIdle _ _
  | .dramServiceWrite _ => Laws.Reaches.dramServiceWrite _
  | .dramTrainStart => Laws.Reaches.dramTrainStart
  | .dramTraining _ _ _ => Laws.Reaches.dramTraining _ _ _
  | .dramTrainRead => Laws.Reaches.dramTrainRead
  | .dramRecal _ => Laws.Reaches.dramRecal _
  | .linkTraining _ => Laws.Reaches.linkTraining _
  | .linkTrainingDone _ => Laws.Reaches.linkTrainingDone _
  | .linkTrainRestart => Laws.Reaches.linkTrainRestart
  | .linkRetrain _ _ => Laws.Reaches.linkRetrain _ _
  | .cfgRd _ => Laws.Reaches.cfgRd _
  | .cfgWr _ => Laws.Reaches.cfgWr _
  | .dbWr _ => Laws.Reaches.dbWr _
  | .reply _ => Laws.Reaches.reply _
  | .credit _ => Laws.Reaches.credit _
  | .memRdTimeout _ => Laws.Reaches.memRdTimeout _
  | .hostLost => Laws.Reaches.hostLost
  | .warmReset => Laws.Reaches.warmReset
  | .descriptorTake => Laws.Reaches.descriptorTake
  | .injectDescriptor _ => Laws.Reaches.injectDescriptor _
  | .indexBlockWrite _ => Laws.Reaches.indexBlockWrite _
  | .ringEnable _ _ => Laws.Reaches.ringEnable _ _
  | .ringResume _ => Laws.Reaches.ringResume _
  | .puntWrite _ => Laws.Reaches.puntWrite _
  | .counterSweep _ => Laws.Reaches.counterSweep _
  | .collectorScan _ => Laws.Reaches.collectorScan _
  | .eventEntryWrite => Laws.Reaches.eventEntryWrite
  | .evtMaskWrite _ _ => Laws.Reaches.evtMaskWrite _ _
  | .keepaliveExpiry => Laws.Reaches.keepaliveExpiry
  | .keepaliveWrite _ => Laws.Reaches.keepaliveWrite _
  | .funcReset _ => Laws.Reaches.funcReset _
  | .funcResetDone _ _ => Laws.Reaches.funcResetDone _ _
  | .patchLoad _ => Laws.Reaches.patchLoad _
  | .patchCheckDone => Laws.Reaches.patchCheckDone
  | .routineStart => Laws.Reaches.routineStart
  | .routineCheckpoint _ => Laws.Reaches.routineCheckpoint _
  | .engineHalt _ => Laws.Reaches.engineHalt _
  | .bootStage _ _ _ => Laws.Reaches.bootStage _ _ _
  | .secAttest _ => Laws.Reaches.secAttest _
  | .bundleLoad _ => Laws.Reaches.bundleLoad _
  | .bundleDone => Laws.Reaches.bundleDone
  | .debugTokenLoad _ => Laws.Reaches.debugTokenLoad _
  | .claim => Laws.Reaches.claim
  | .yieldRole => Laws.Reaches.yieldRole
  | .holdInChange _ => Laws.Reaches.holdInChange _
  | .transmitEnable => Laws.Reaches.transmitEnable
  | .yieldRelease => Laws.Reaches.yieldRelease
  | .holdFaultDetect => Laws.Reaches.holdFaultDetect
  | .stateRecordReceive _ _ => Laws.Reaches.stateRecordReceive _ _
  | .stateResend => Laws.Reaches.stateResend
  | .heartbeatSend => Laws.Reaches.heartbeatSend
  | .heartbeatReceive _ _ => Laws.Reaches.heartbeatReceive _ _
  | .heartbeatLoss => Laws.Reaches.heartbeatLoss
  | .digestSend => Laws.Reaches.digestSend
  | .windowCompare _ _ => Laws.Reaches.windowCompare _ _
  | .peerReleaseTakeover => Laws.Reaches.peerReleaseTakeover
  | .takeoverLapse => Laws.Reaches.takeoverLapse
  | .tallyFollowTimeout => Laws.Reaches.tallyFollowTimeout
  | .pairResync _ => Laws.Reaches.pairResync _
  | .resyncComplete => Laws.Reaches.resyncComplete
  | .spanCtrlWrite _ => Laws.Reaches.spanCtrlWrite _
  | .spanControlSend _ => Laws.Reaches.spanControlSend _
  | .spanControlReceive _ _ _ => Laws.Reaches.spanControlReceive _ _ _
  | .spanDataReceive _ _ _ => Laws.Reaches.spanDataReceive _ _ _
  | .dramTrainingRequest => Laws.Reaches.dramTrainingRequest
  | .startReady => Laws.Reaches.startReady
  | .startLate => Laws.Reaches.startLate
  | .tableScrubRead _ => Laws.Reaches.tableScrubRead _
  | .bistStart _ => Laws.Reaches.bistStart _
  | .bistDone _ => Laws.Reaches.bistDone _
  | .obsWrite _ _ => Laws.Reaches.obsWrite _ _
  | .jtagInstruction _ => Laws.Reaches.jtagInstruction _
  | .tapReset => Laws.Reaches.tapReset
  | .handoffReceive _ _ => Laws.Reaches.handoffReceive _ _
  | .readIdleDrain _ => Laws.Reaches.readIdleDrain _
  | .reservedTypeMessage _ => Laws.Reaches.reservedTypeMessage _

/-- A command that can reach the device is safe in every state. -/
theorem exec_safe {c : Instr} (h : c.wf = true) (s : State) : safeStep (exec c s) := by
  obtain ⟨t, ht⟩ := exec_goes c h s
  exact ⟨t, ht, exec_follows ht⟩

/-- Settles O4: a command answers a state whose pins follow it or names an absent object, which a well-formed one does not. -/
theorem everyStepLeavesThePinsRight : Obligations.EveryStepLeavesThePinsRight := by
  unfold Obligations.EveryStepLeavesThePinsRight
  intro s
  cases hp : s.pending with
  | nil =>
    have hsafe : safeStep (step s) := by rw [step_of_nil hp]; exact finish_safe s.tick
    exact ⟨.inl hsafe, fun _ => hsafe⟩
  | cons c rest =>
    rw [step_of_cons hp]
    exact ⟨exec_safe_or_fault c _, fun hwf => exec_safe (hwf c rfl) _⟩

end Sys2Proof.Machine
end

section
/-! What leaves the clocks and the FDB alone, and what a relation that only clocks or only the FDB decide has to answer for: the
re-initialisations, the register accesses, the host's messages and the commands. -/

-- One proof at a time: side by side they take more threads than the memory bound of the check leaves room for.
set_option Elab.async false

namespace Sys2Proof.Machine

/-! ### Steps that leave the clocks and the FDB -/

/-- Neither the time core nor the FDB moved. -/
def State.keepsTimeFdb (s t : State) : Prop := t.time = s.time ∧ t.fdb = s.fdb

namespace State.keepsTimeFdb

variable {s t u : State}

theorem refl (s : State) : s.keepsTimeFdb s := ⟨rfl, rfl⟩

theorem trans (h : s.keepsTimeFdb t) (k : t.keepsTimeFdb u) : s.keepsTimeFdb u := ⟨k.1.trans h.1, k.2.trans h.2⟩

/-- The last of several steps is looked at first. -/
theorem after (k : t.keepsTimeFdb u) (h : s.keepsTimeFdb t) : s.keepsTimeFdb u := h.trans k

/-- A state written out part by part. -/
theorem of_mk {x : State} {a0 : List Instr} {a1 : Nat} {a2 : SMap Nat} {a3 : Status} {a4 : Nat} {a5 : DieSt} {a6 : Pins}
    {a8 : StampSt} {a9 : SMap PortDyn} {a10 : SMap Nat} {a11 : EventSt} {a12 : ReckSt} {a13 : PathSt} {a14 : RulesSt}
    {a16 : LpmSt} {a17 : FlowSt} {a18 : McastSt} {a19 : BufSt} {a20 : TmSt} {a21 : TallySt} {a22 : HostSt} {a23 : DramSt}
    {a24 : SecSt} {a25 : PairSt} {a26 : SpanSt} {a27 : PlatSt} (h : s.keepsTimeFdb x) :
    s.keepsTimeFdb ⟨a0, a1, a2, a3, a4, a5, a6, x.time, a8, a9, a10, a11, a12, a13, a14, x.fdb, a16, a17, a18, a19, a20, a21,
      a22, a23, a24, a25, a26, a27⟩ := h

theorem of_only {P : List Part} {m : Keys} (h : s.only t P m) (ht : Part.time ∉ P := by decide)
    (hf : Part.fdb ∉ P := by decide) : s.keepsTimeFdb t := ⟨h.1 .time ht, h.1 .fdb hf⟩

theorem ite {p : Prop} [Decidable p] (h : s.keepsTimeFdb t) (k : s.keepsTimeFdb u) : s.keepsTimeFdb (if p then t else u) := by
  split <;> assumption

/-- A step that is made or left out. -/
theorem ite_id {p : Prop} [Decidable p] (k : t.keepsTimeFdb u) (h : s.keepsTimeFdb t) :
    s.keepsTimeFdb (if p then u else t) := ite (h.trans k) h

theorem foldl {α : Type} {f : State → α → State} (hf : ∀ (u : State) (a : α), u.keepsTimeFdb (f u a)) (l : List α) :
    ∀ s : State, s.keepsTimeFdb (l.foldl f s) := by
  induction l with
  | nil => exact refl
  | cons a l ih => exact fun s => (hf s a).trans (ih _)

end State.keepsTimeFdb

open State.keepsTimeFdb

section Reinitialisations

variable (s : State)

theorem keepsTimeFdb_resetRegs (p : Nat → Bool) : s.keepsTimeFdb (s.resetRegs p) := ⟨rfl, rfl⟩

theorem keepsTimeFdb_octetReset (o : Nat) : s.keepsTimeFdb (s.octetReset o) := by
  unfold State.octetReset
  dsimp only
  refine after (of_only (frame_modTm ..)) (after (foldl (fun u p => ?_) _ _) (keepsTimeFdb_resetRegs s _))
  exact after (of_only (frame_modPort ..)) (of_only (frame_clearCounters u p))

theorem keepsTimeFdb_resetMac : s.keepsTimeFdb s.resetMac := by
  unfold State.resetMac
  dsimp only
  refine of_mk (after (keepsTimeFdb_resetRegs ..) (after (of_only (frame_dropPorts ..)) ?_))
  exact foldl (fun u p => of_only (frame_cutTransmit u p)) _ s

theorem keepsTimeFdb_resetTally : s.keepsTimeFdb s.resetTally := by
  unfold State.resetTally
  dsimp only
  exact of_mk (after (keepsTimeFdb_resetRegs ..) (of_only (frame_completeSeals s)))

theorem keepsTimeFdb_resetParse : s.keepsTimeFdb s.resetParse := by
  unfold State.resetParse
  dsimp only
  refine of_mk (after (keepsTimeFdb_resetRegs ..) ?_)
  exact foldl (fun u e => of_only (frame_dropOther ..)) _ s

theorem keepsTimeFdb_resetLpm : s.keepsTimeFdb s.resetLpm :=
  after (of_only (frame_setLpm ..)) (keepsTimeFdb_resetRegs ..)

theorem keepsTimeFdb_resetFlow : s.keepsTimeFdb s.resetFlow := by
  unfold State.resetFlow
  dsimp only
  refine after (foldl (fun u f => of_only (frame_pastLookup u f)) _ _) (after (of_only (frame_modFlow ..)) ?_)
  exact after (of_only (frame_clearContexts ..)) (keepsTimeFdb_resetRegs ..)

theorem keepsTimeFdb_resetBuf : s.keepsTimeFdb s.resetBuf := by
  unfold State.resetBuf
  dsimp only
  refine after (of_only (frame_syncCopies _)) (after (of_only (frame_endBist _)) ?_)
  refine after (foldl (fun u p => of_only (frame_syncRequests u p)) _ _) (of_mk (after (keepsTimeFdb_resetRegs ..) ?_))
  refine after (of_only (frame_endRoutine ..)) (after (of_only (frame_endFlushes _)) ?_)
  exact after (of_only (frame_dropArrivals _)) (after (of_only (frame_dropWalks _)) (of_only (frame_dropCopies s)))

theorem keepsTimeFdb_resetTm : s.keepsTimeFdb s.resetTm := by
  unfold State.resetTm
  dsimp only
  refine after (of_only (frame_syncCopies _)) (of_mk (after (keepsTimeFdb_resetRegs ..) ?_))
  refine after (of_only (frame_clearGroups _)) (after (of_only (frame_endFlushes _)) ?_)
  exact after (of_only (frame_dropWalks _)) (of_only (frame_dropCopies s))

theorem keepsTimeFdb_resetDram : s.keepsTimeFdb s.resetDram := by
  unfold State.resetDram
  dsimp only
  refine after (of_only (frame_startTraining _)) (of_mk (after (keepsTimeFdb_resetRegs ..) ?_))
  exact after (of_only (frame_loseDram _)) (of_only (frame_abortCommands s _))

theorem keepsTimeFdb_resetRing : s.keepsTimeFdb s.resetRing := ⟨rfl, rfl⟩

theorem keepsTimeFdb_resetPair : s.keepsTimeFdb s.resetPair := by
  unfold State.resetPair
  dsimp only
  refine of_mk (after (keepsTimeFdb_resetRegs ..) (after (foldl (fun u p => ?enable) _ _) (ite_id ?role ?rest)))
  case enable => exact after (of_only (frame_applyEnable ..)) (of_only (only_set u _ _))
  case role => exact of_only (frame_setRole ..)
  case rest =>
    refine after (of_only (frame_modPair ..)) (after (of_only (frame_endRoutine ..)) ?_)
    exact after (of_only (frame_endResync ..)) (of_only (frame_modPort ..))

end Reinitialisations

/-! ### Writes and reads of a register -/

section Fields

variable (s : State)

theorem keepsTimeFdb_storeFields (l : List (Access × Fld)) (v : Nat) : s.keepsTimeFdb (s.storeFields l v) := by
  refine foldl (fun u e => ?_) l s
  obtain ⟨a, f⟩ := e
  cases a with
  | rw | w1c => exact of_only (only_set ..)
  | ro | rc | wo => exact refl u

theorem keepsTimeFdb_clearRead (l : List (Access × Fld)) : s.keepsTimeFdb (s.clearRead l) :=
  foldl (fun u _ => ite_id (of_only (only_set ..)) (refl u)) l s

end Fields

section Pages

variable (old s : State) (off v : Nat)

theorem keepsTimeFdb_macEffect : s.keepsTimeFdb (macEffect old s off) := by
  have hcal (u : State) (l : List Nat) : u.keepsTimeFdb (u.calLost l) := of_only (frame_calLost ..)
  unfold macEffect
  dsimp only
  split
  · exact ite_id (hcal ..) (ite_id (keepsTimeFdb_octetReset ..) (refl s))
  · refine ite (refl s) (ite ?_ (refl s))
    exact ite_id (of_only (frame_syncRequests ..)) (ite_id (of_only (frame_applyEnable ..)) (ite_id (hcal ..) (refl s)))

theorem keepsTimeFdb_spanOctet (o : Nat) (wired : Bool) : s.keepsTimeFdb (s.spanOctet o wired) := by
  have hset (u : State) (f : Fld) (x : Nat) : u.keepsTimeFdb (u.set f x) := of_only (only_set ..)
  have hrate : s.keepsTimeFdb (((if s.get (Reg.MAC_OCTET_MODE_MODE o) = (if wired then 4 else 0) then s
      else (s.set (Reg.MAC_OCTET_MODE_MODE o) (if wired then 4 else 0)).octetReset o).set (Reg.MAC_OCTET_MODE_RATE o) 2).calLost
        (octetLanes o)) :=
    after (of_only (frame_calLost ..)) (after (hset ..) (ite (refl s) (after (keepsTimeFdb_octetReset ..) (hset ..))))
  unfold State.spanOctet
  dsimp only
  refine ite hrate (after (of_only (frame_applyEnable ..)) (after (hset ..) (after (hset ..) (after (hset ..) ?_))))
  exact after (hset ..) (after (hset ..) hrate)

theorem keepsTimeFdb_setupSpan : s.keepsTimeFdb s.setupSpan := by
  unfold State.setupSpan
  dsimp only
  refine ite (of_mk (refl s)) (of_mk ?_)
  exact foldl (fun u i => keepsTimeFdb_spanOctet ..) _ s

theorem keepsTimeFdb_spanEffect : s.keepsTimeFdb (spanEffect old s off) := by
  unfold spanEffect
  refine ite (ite (keepsTimeFdb_setupSpan s) ?_) (refl s)
  exact after (keepsTimeFdb_setupSpan _) (of_only (only_set ..))

end Pages

/-! ### A relation that the time core or the FDB decides -/

/-- A relation of what a step starts from and what it leaves, which only the time core decides or only the FDB: it holds where that
part stays, it is transitive, and the device resets, the TIME page and the two re-initialisations that move these parts keep to it. -/
structure Decides (q : Part) (R : State → State → Prop) : Prop where
  isTimeOrFdb : q = .time ∨ q = .fdb
  of_same : ∀ {s t : State}, q.same s t → R s t
  trans : ∀ {s t u : State}, R s t → R t u → R s u
  loseState : ∀ (s : State) (d : DieSt), R s (s.loseState d)
  timeEffect : ∀ (old s : State) (off v : Nat), R s (timeEffect old s off v)
  resetTime : ∀ s : State, R s s.resetTime
  resetFdb : ∀ s : State, R s s.resetFdb

namespace Decides

variable {q : Part} {R : State → State → Prop} (h : Decides q R)
include h

theorem refl (s : State) : R s s := h.of_same (by cases q <;> simp [Part.same])

theorem keeps {s t : State} (k : s.keepsTimeFdb t) : R s t := by
  obtain ⟨ht, hf⟩ := k
  obtain hq | hq := h.isTimeOrFdb
  · exact h.of_same (by rw [hq]; exact ht)
  · exact h.of_same (by rw [hq]; exact hf)

theorem keeps_of_only {s t : State} {P : List Part} {m : Keys} (k : s.only t P m) (hq : q ∉ P) : R s t := h.of_same (k.1 q hq)

theorem after {s t u : State} (k : R t u) (g : R s t) : R s u := h.trans g k

/-- A step that is made or left out. -/
theorem ite_id {s t u : State} {p : Prop} [Decidable p] (k : R t u) (g : R s t) : R s (if p then u else t) := by
  split
  · exact h.trans g k
  · exact g

theorem of_mk {s x : State} {a0 : List Instr} {a1 : Nat} {a2 : SMap Nat} {a3 : Status} {a4 : Nat} {a5 : DieSt} {a6 : Pins}
    {a8 : StampSt} {a9 : SMap PortDyn} {a10 : SMap Nat} {a11 : EventSt} {a12 : ReckSt} {a13 : PathSt} {a14 : RulesSt}
    {a16 : LpmSt} {a17 : FlowSt} {a18 : McastSt} {a19 : BufSt} {a20 : TmSt} {a21 : TallySt} {a22 : HostSt} {a23 : DramSt}
    {a24 : SecSt} {a25 : PairSt} {a26 : SpanSt} {a27 : PlatSt} (k : R s x) :
    R s ⟨a0, a1, a2, a3, a4, a5, a6, x.time, a8, a9, a10, a11, a12, a13, a14, x.fdb, a16, a17, a18, a19, a20, a21,
      a22, a23, a24, a25, a26, a27⟩ := h.trans k (h.keeps (State.keepsTimeFdb.of_mk (.refl x)))

theorem foldl {α : Type} {f : State → α → State} (hf : ∀ (u : State) (a : α), R u (f u a)) (l : List α) :
    ∀ s : State, R s (l.foldl f s) := by
  induction l with
  | nil => exact h.refl
  | cons a l ih => exact fun s => h.trans (hf s a) (ih _)

theorem deviceReset (s : State) (m : DieMode) (c : Nat) : R s (s.deviceReset m c) :=
  h.after (h.loseState ..) (h.keeps (State.keepsTimeFdb.after (of_only (frame_cutBundle _)) (of_only (frame_completeSeals s))))

theorem startReset (s : State) (n : Nat) : R s (s.startReset n) := by
  have hend (u : State) (p : RoutineKind → Bool) : R u (u.endRoutine p) := h.keeps (of_only (frame_endRoutine ..))
  unfold State.startReset
  cases funcOf n with
  | none => exact h.refl s
  | some f =>
    dsimp only
    refine h.after (h.keeps (State.keepsTimeFdb.after (of_only (frame_syncEngines _)) (State.keepsTimeFdb.after
      (of_only (frame_modPlat ..)) (of_only (frame_setFunc ..))))) ?_
    have habort : R s (if f == .ring then s else s.abortCommands f) :=
      h.keeps (State.keepsTimeFdb.ite (.refl s) (of_only (frame_abortCommands ..)))
    cases f with
    | mac => exact h.after (h.keeps (keepsTimeFdb_resetMac _)) habort
    | time => exact h.after (h.resetTime _) habort
    | tally => exact h.after (hend ..) (h.after (h.keeps (keepsTimeFdb_resetTally _)) habort)
    | parse => exact h.after (hend ..) (h.after (h.keeps (keepsTimeFdb_resetParse _)) habort)
    | fdb => exact h.after (hend ..) (h.after (h.resetFdb _) habort)
    | lpm => exact h.after (hend ..) (h.after (h.keeps (keepsTimeFdb_resetLpm _)) habort)
    | flow => exact h.after (h.keeps (keepsTimeFdb_resetFlow _)) habort
    | buf => exact h.after (h.keeps (keepsTimeFdb_resetBuf _)) habort
    | tm => exact h.after (h.keeps (keepsTimeFdb_resetTm _)) habort
    | dram => exact h.after (h.keeps (keepsTimeFdb_resetDram _)) habort
    | ring => exact h.after (h.keeps (keepsTimeFdb_resetRing _)) habort
    | pair => exact h.after (h.keeps (keepsTimeFdb_resetPair _)) habort

theorem sysEffect (old s : State) (off v : Nat) : R s (sysEffect old s off v) := by
  unfold Machine.sysEffect
  split
  · exact h.keeps (of_only (frame_flagClocks ..))
  · exact h.keeps (of_only (frame_flagClocks ..))
  · exact h.keeps (of_only (frame_flagSupplies ..))
  · exact h.ite_id (h.keeps (State.keepsTimeFdb.after (of_only (only_set ..)) (of_only (frame_abortRunning s)))) (h.refl s)
  · exact h.foldl (fun u n => h.startReset u n) _ s
  · exact h.keeps (of_only (frame_bistEffect ..))
  · exact h.refl s

theorem pageEffect (old s : State) (page off v : Nat) : R s (old.pageEffect s page off v) := by
  unfold State.pageEffect
  split
  · exact h.sysEffect ..
  · exact h.keeps (keepsTimeFdb_macEffect ..)
  · exact h.timeEffect ..
  · exact h.keeps (of_only (frame_stampEffect ..))
  · exact h.keeps (of_only (frame_tallyEffect ..))
  · exact h.keeps (of_only (frame_parseEffect ..))
  · exact h.keeps (of_only (frame_bufEffect ..))
  · exact h.keeps (of_only (frame_dramEffect ..))
  · exact h.keeps (of_only (frame_ringEffect ..))
  · exact h.keeps (of_only (frame_evtEffect ..))
  · exact h.keeps (of_only (frame_rckEffect ..))
  · exact h.keeps (of_only (frame_secEffect ..))
  · exact h.keeps (of_only (frame_pairEffect ..))
  · exact h.keeps (keepsTimeFdb_spanEffect ..)
  · exact h.keeps (of_only (frame_obsEffect ..))
  · exact h.refl s

/-- Every refusal leaves the state as it is (R13). -/
theorem writeReg (s : State) (addr v : Nat) : R s (s.writeReg addr v).2 := by
  unfold State.writeReg
  split
  case h_2 => exact h.refl s
  case h_1 =>
    split
    · exact h.refl s
    · dsimp only
      split
      · exact h.refl s
      split
      · exact h.refl s
      split
      · exact h.refl s
      split
      · exact h.after (h.pageEffect ..) (h.keeps (keepsTimeFdb_storeFields ..))
      · exact h.refl s

theorem hostWrite (s : State) (addr v : Nat) : R s (s.hostWrite addr v) := by
  unfold State.hostWrite
  dsimp only
  exact h.of_mk (h.ite_id (h.deviceReset ..) (h.writeReg s addr (v % 2 ^ 32)))

theorem readReg (s : State) (addr : Nat) : R s (s.readReg addr).2.2 := by
  unfold State.readReg
  dsimp only
  repeat' split
  case h_2.isFalse.isFalse =>
    exact h.keeps (State.keepsTimeFdb.after (of_only (frame_readEffect ..)) (State.keepsTimeFdb.after
      (keepsTimeFdb_clearRead ..) (of_only (frame_refreshAt ..))))
  all_goals exact h.refl s

theorem hostRead (s : State) (addr : Nat) : R s (s.hostRead addr) := by
  unfold State.hostRead
  exact h.of_mk (h.readReg s addr)

/-! ### The host's messages -/

theorem readMany (n : Nat) : ∀ (addr : Nat) (s : State), R s (readMany n addr s).2.2.2 := by
  induction n with
  | zero => exact fun _ s => h.refl s
  | succ n ih =>
    intro addr s
    have hread := h.readReg s addr
    unfold Machine.readMany
    split
    next v t he =>
      rw [he] at hread
      exact h.trans hread (ih ..)
    next st v t he =>
      rw [he] at hread
      exact hread

theorem writeMany (l : List Nat) : ∀ (addr : Nat) (s : State), R s (writeMany l addr s).2.2 := by
  induction l with
  | nil => exact fun _ s => h.refl s
  | cons v l ih =>
    intro addr s
    have hwrite := h.writeReg s addr v
    unfold Machine.writeMany
    split
    next t he =>
      rw [he] at hwrite
      exact h.trans hwrite (ih ..)
    next st t he =>
      rw [he] at hwrite
      exact hwrite

theorem replyTo (s : State) (m : HostIn) (st : Status) (n : Nat) (d : List Byte) : R s (s.replyTo m st n d) :=
  h.keeps (of_only (frame_replyTo ..))

theorem cfgRead (s : State) (m : HostIn) : R s (s.cfgRead m) := by
  unfold State.cfgRead
  dsimp only
  exact h.of_mk (h.after (h.replyTo ..) (h.readMany ..))

theorem cfgWrite (s : State) (m : HostIn) : R s (s.cfgWrite m) := by
  unfold State.cfgWrite
  dsimp only
  exact h.of_mk (h.ite_id (h.deviceReset ..) (h.after (h.replyTo ..) (h.writeMany ..)))

theorem applyMsg (s : State) (m : HostIn) : R s (s.applyMsg m) := by
  unfold State.applyMsg
  split
  · exact h.cfgRead s m
  · exact h.cfgWrite s m
  · exact h.keeps (of_only (frame_doorbell ..))
  · exact h.keeps (of_only (frame_hostReply ..))
  · exact h.keeps (State.keepsTimeFdb.after (of_only (frame_resume _)) (of_only (frame_modHost ..)))
  · exact h.refl s

theorem receive (s : State) (m : HostIn) : R s (s.receive m) := by
  unfold State.receive
  split
  · exact h.refl s
  · split
    · exact h.after (h.keeps (of_only (frame_returnSlots ..))) (h.after (h.applyMsg ..) (h.keeps (of_only (frame_modHost ..))))
    · exact h.keeps (of_only (frame_protocolError ..))

/-! ### The answers of the commands -/

end Decides

/-- The commands whose effect moves the time core. -/
inductive MovesTime : Instr → Prop
  | refInputLost (l : RefLoss) : MovesTime (.refInputLost l)
  | refInputGood (i : RefInput) (r : RefReport) : MovesTime (.refInputGood i r)
  | servoWatchdogExpiry (dom : Nat) : MovesTime (.servoWatchdogExpiry dom)
  | ppsEdge (dom : Nat) : MovesTime (.ppsEdge dom)
  | presRevert : MovesTime (.presRevert)
  | tpoPulseEdge (out : Nat) (trailing : Bool) : MovesTime (.tpoPulseEdge out trailing)
  | tpiCapture (inp : Nat) (rising : Bool) : MovesTime (.tpiCapture inp rising)

/-- The commands whose effect moves the FDB. -/
inductive MovesFdb : Instr → Prop
  | forwardingLookup (frame : Nat) : MovesFdb (.forwardingLookup frame)
  | learnRelease (bank : Nat) : MovesFdb (.learnRelease bank)
  | frameEnd (frame : Nat) (fcs : Fcs) (codeErr : Bool) : MovesFdb (.frameEnd frame fcs codeErr)
  | frameTruncate (frame : Nat) : MovesFdb (.frameTruncate frame)
  | stateRecordReceive (frame : List Byte) (fcsOk : Bool) : MovesFdb (.stateRecordReceive frame fcsOk)
  | pairResync (cmd : CmdIn) : MovesFdb (.pairResync cmd)
  | resyncComplete : MovesFdb (.resyncComplete)
  | spanDataReceive (port : Nat) (frame : List Byte) (fcsOk : Bool) : MovesFdb (.spanDataReceive port frame fcsOk)
  | routineCheckpoint (engine : Nat) : MovesFdb (.routineCheckpoint engine)
  | fdbInsert (cmd : CmdIn) : MovesFdb (.fdbInsert cmd)
  | fdbDelete (cmd : CmdIn) : MovesFdb (.fdbDelete cmd)
  | fdbAgeDelete (cmd : CmdIn) : MovesFdb (.fdbAgeDelete cmd)
  | fdbSearch (cmd : CmdIn) : MovesFdb (.fdbSearch cmd)
  | fdbNext (cmd : CmdIn) : MovesFdb (.fdbNext cmd)
  | fdbFlush (cmd : CmdIn) : MovesFdb (.fdbFlush cmd)
  | tableScrubRead (target : ScrubTarget) : MovesFdb (.tableScrubRead target)

/-- Where a command answers with a state, the relation holds of it. -/
def Answers (R : State → State → Prop) (s : State) (o : Out) : Prop := ∀ t, o = .next t → R s t

namespace Answers

variable {R : State → State → Prop} {s : State} {o : Out}

theorem fault (f : Fault) : Answers R s (.fault f) := fun t h => by cases h

theorem onPort {p : Nat} (h : Answers R s o) : Answers R s (onPort p o) := by
  unfold Machine.onPort
  split
  · exact h
  · exact fault _

theorem onObject {n i : Nat} (h : Answers R s o) : Answers R s (onObject n i o) := by
  unfold Machine.onObject
  split
  · exact h
  · exact fault _

theorem onRing {c : CmdIn} (h : Answers R s o) : Answers R s (onRing c o) := by
  unfold Machine.onRing
  split
  · exact h
  · exact fault _

theorem orFault {b : Bool} {f : Fault} (h : Answers R s o) : Answers R s (if b then o else .fault f) := by
  split
  · exact h
  · exact fault _

end Answers

namespace Decides

variable {q : Part} {R : State → State → Prop} (h : Decides q R)
include h

theorem finish {s t : State} (k : R s t) : Answers R s (finish t) := by
  rintro u ⟨⟩
  exact h.after (h.keeps (of_only (only_settle t))) k

theorem whenUp {s : State} {k : State → State} (hk : R s (k s)) : Answers R s (whenUp s k) := by
  unfold Machine.whenUp
  refine h.finish ?_
  split
  · exact hk
  · exact h.refl s

theorem acts {s : State} {k : State → State} (hk : ∀ s : State, R s (k s)) : Answers R s (Machine.whenUp s k) := h.whenUp (hk s)

theorem up {s : State} {k : State → State} (hk : ∀ s : State, s.keepsTimeFdb (k s)) : Answers R s (Machine.whenUp s k) :=
  h.whenUp (h.keeps (hk s))

theorem runLong {s : State} {op : Nat} {atOnce : CmdIn → State → Bool} {core : CmdIn → State → CmdRes × State} {c : CmdIn}
    (hcore : R s (core c s).2) : Answers R s (runLong op atOnce core c s) := by
  have hcomplete (u : State) (r : CmdRes) : R u (u.complete op c r) := h.keeps (of_only (frame_complete ..))
  refine h.whenUp ?_
  split
  · exact hcomplete s _
  · split
    · exact hcomplete s _
    · split
      · unfold State.carryOut
        dsimp only
        refine h.after (hcomplete ..) ?_
        split
        · exact h.after (h.keeps (of_only (frame_endOwn ..))) hcore
        · exact hcore
      · exact h.refl s

theorem long {s : State} {op : Nat} {atOnce : CmdIn → State → Bool} {core : CmdIn → State → CmdRes × State} {c : CmdIn}
    (hcore : ∀ s : State, s.keepsTimeFdb (core c s).2) : Answers R s (Machine.runLong op atOnce core c s) :=
  h.runLong (h.keeps (hcore s))

theorem write {s : State} (addr v : Nat) : Answers R s (Machine.whenUp s fun s => s.hostWrite addr v) := h.whenUp (h.hostWrite ..)

theorem read {s : State} (addr : Nat) : Answers R s (Machine.whenUp s fun s => s.hostRead addr) := h.whenUp (h.hostRead ..)

theorem message {s : State} (m : HostIn) : Answers R s (Machine.whenUp s fun s => s.receive m) := h.whenUp (h.receive ..)

theorem resetAssert (s : State) : R s s.resetAssert := by
  unfold State.resetAssert
  split
  · exact h.deviceReset ..
  · exact h.of_mk (h.refl s)
  · exact h.refl s

theorem resetRelease (s : State) (straps : Straps) : R s (s.resetRelease straps) := by
  unfold State.resetRelease
  dsimp only
  split
  · exact h.loseState ..
  · exact h.loseState ..
  · exact h.refl s

theorem powerLoss (s : State) : R s s.powerLoss := by
  unfold State.powerLoss
  dsimp only
  refine h.of_mk (h.after (h.loseState ..) (h.keeps (State.keepsTimeFdb.ite ?_ (.refl s))))
  exact State.keepsTimeFdb.after (of_only (frame_cutBundle _)) (of_only (frame_fallHeads s))

theorem brownOut (s : State) : R s s.brownOut := h.ite_id (h.deviceReset ..) (h.refl s)

theorem tempReading (s : State) (sensors : List Int) : R s (s.tempReading sensors) := by
  have hset (u : State) (f : Fld) (x : Nat) : R u (u.set f x) := h.keeps (of_only (only_set ..))
  unfold State.tempReading
  split
  · unfold State.hottestRead
    exact h.ite_id (h.deviceReset ..) (h.of_mk (h.after (hset ..) (hset ..)))
  · exact h.refl s

theorem dramTempRead (s : State) (a b : Nat) (trip : Bool) :
    R s (if trip then (s.tempsRead a b).deviceReset .tripped 0 else s.tempsRead a b) :=
  h.ite_id (h.deviceReset ..) (h.keeps (of_only (frame_tempsRead ..)))

/-- Every command but those that move the clocks or the FDB themselves keeps to the relation. -/
theorem exec (c : Instr) : MovesTime c ∨ MovesFdb c ∨ ∀ s, Answers R s (exec c s) := by
  cases c with
  | refInputLost => exact .inl (.refInputLost ..)
  | refInputGood => exact .inl (.refInputGood ..)
  | servoWatchdogExpiry => exact .inl (.servoWatchdogExpiry ..)
  | ppsEdge => exact .inl (.ppsEdge ..)
  | presRevert => exact .inl .presRevert
  | tpoPulseEdge => exact .inl (.tpoPulseEdge ..)
  | tpiCapture => exact .inl (.tpiCapture ..)
  | forwardingLookup => exact .inr (.inl (.forwardingLookup ..))
  | learnRelease => exact .inr (.inl (.learnRelease ..))
  | frameEnd => exact .inr (.inl (.frameEnd ..))
  | frameTruncate => exact .inr (.inl (.frameTruncate ..))
  | stateRecordReceive => exact .inr (.inl (.stateRecordReceive ..))
  | pairResync => exact .inr (.inl (.pairResync ..))
  | resyncComplete => exact .inr (.inl .resyncComplete)
  | spanDataReceive => exact .inr (.inl (.spanDataReceive ..))
  | routineCheckpoint => exact .inr (.inl (.routineCheckpoint ..))
  | fdbInsert => exact .inr (.inl (.fdbInsert ..))
  | fdbDelete => exact .inr (.inl (.fdbDelete ..))
  | fdbAgeDelete => exact .inr (.inl (.fdbAgeDelete ..))
  | fdbSearch => exact .inr (.inl (.fdbSearch ..))
  | fdbNext => exact .inr (.inl (.fdbNext ..))
  | fdbFlush => exact .inr (.inl (.fdbFlush ..))
  | tableScrubRead => exact .inr (.inl (.tableScrubRead ..))
  | dramServiceWrite | dramTrainStart | claim | yieldRole | spanCtrlWrite | registerWrite | warmReset | keepaliveWrite
  | funcReset | patchLoad | bundleLoad | debugTokenLoad | bistStart | tallyEnable | tallyDisable | sealPeriodWrite
  | timeSnap => exact .inr (.inr fun _ => h.write _ _)
  | profileValidWrite | ringEnable | ringResume | octetModeWrite | evtMaskWrite | obsWrite | timeDomFreqWrite
  | timeDomPhaseWrite | lockDeclare | domainSetTime | domainSetAtPps | tpoEnable =>
    exact .inr (.inr fun _ => .onObject (h.write _ _))
  | tpiPop => exact .inr (.inr fun _ => .onObject (h.whenUp (h.hostWrite ..)))
  | portEnable | portDisable | calStart => exact .inr (.inr fun _ => .onPort (h.write _ _))
  | dramTrainRead | rcRegisterRead | mramRetiredRead | calResultRead => exact .inr (.inr fun _ => h.read _)
  | cfgRd | cfgWr | dbWr | reply | credit | reservedTypeMessage => exact .inr (.inr fun _ => .onObject (h.message _))
  | strapCompare => exact .inr (.inr fun _ => h.up fun _ => of_only (frame_strapCompare ..))
  | supplyRangeCheck => exact .inr (.inr fun _ => h.up fun _ => of_only (frame_supplyCheck ..))
  | coreSpeedMeasurement => exact .inr (.inr fun _ => h.up fun _ => of_only (frame_coreSpeed ..))
  | beadDecrement => exact .inr (.inr fun _ => .onObject (h.up fun _ => of_only (frame_decrement ..)))
  | bufWithdraw => exact .inr (.inr fun _ => .onRing (h.up fun _ => of_only (frame_withdraw ..)))
  | withdrawTimeout => exact .inr (.inr fun _ => h.up fun _ => of_only (frame_withdrawTimeout ..))
  | bufRestore => exact .inr (.inr fun _ => .onRing (h.long fun s => of_only (frame_coreBufRestore ..)))
  | spillWrite => exact .inr (.inr fun _ => .onObject (h.up fun _ => of_only (frame_spillWrite ..)))
  | spillReturn => exact .inr (.inr fun _ => .onObject (h.up fun _ => of_only (frame_spillReturn ..)))
  | mcastSet => exact .inr (.inr fun _ => .onRing (h.long fun s => of_only (frame_coreMcastSet ..)))
  | mcastRead => exact .inr (.inr fun _ => .onRing (h.long fun s => of_only (frame_coreMcastRead ..)))
  | portFlush => exact .inr (.inr fun _ => .onPort (h.up fun _ => ite (of_only (frame_flushPort ..)) (.refl _)))
  | holdDownExpiry => exact .inr (.inr fun _ => .onPort (h.up fun _ => of_only (frame_holdDown ..)))
  | stuckInspection => exact .inr (.inr fun _ => h.up fun _ => of_only (frame_stuckInspect ..))
  | stuckReclaim => exact .inr (.inr fun _ => .onObject (h.up fun _ => ite (of_only (frame_reclaim ..)) (.refl _)))
  | policerHandshake => exact .inr (.inr fun _ => .onObject (h.up fun _ => of_only (frame_policerHandshake ..)))
  | tmPolicerSet => exact .inr (.inr fun _ => .onRing (h.long fun s => of_only (frame_corePolicerSet ..)))
  | tmPolicerRead => exact .inr (.inr fun _ => .onRing (h.long fun s => of_only (frame_corePolicerRead ..)))
  | tmShaperSet => exact .inr (.inr fun _ => .onRing (h.long fun s => of_only (frame_coreShaperSet ..)))
  | tmShaperRead => exact .inr (.inr fun _ => .onRing (h.long fun s => of_only (frame_coreShaperRead ..)))
  | tmGclWrite => exact .inr (.inr fun _ => .onRing (h.long fun s => of_only (frame_coreGclWrite ..)))
  | tmGclCommit => exact .inr (.inr fun _ => .onRing (h.long fun s => of_only (frame_coreGclCommit ..)))
  | tmGclCancel => exact .inr (.inr fun _ => .onRing (h.long fun s => of_only (frame_coreGclCancel ..)))
  | tmGclRead => exact .inr (.inr fun _ => .onRing (h.long fun s => of_only (frame_coreGclRead ..)))
  | gateListStart => exact .inr (.inr fun _ => .onPort (h.up fun _ => State.keepsTimeFdb.after (of_only (frame_lookAll ..)) (of_only (frame_gateListStart ..))))
  | gateEntryChange => exact .inr (.inr fun _ => .onPort (h.up fun _ => State.keepsTimeFdb.after (of_only (frame_lookAll ..)) (of_only (frame_gateEntryChange ..))))
  | dramScrubRead => exact .inr (.inr fun _ => .onObject (h.up fun _ => of_only (frame_scrubRead ..)))
  | caParityAlert => exact .inr (.inr fun _ => .onObject (h.up fun _ => of_only (frame_parityAlert ..)))
  | dramRequestTimeout => exact .inr (.inr fun _ => .onObject (h.up fun _ => ite (of_only (frame_failPc ..)) (.refl _)))
  | writeAgeDrain => exact .inr (.inr fun _ => .onObject (h.up fun _ => of_only (frame_ageDrain ..)))
  | refresh => exact .inr (.inr fun _ => .onObject (h.up fun _ => of_only (frame_refreshWindow ..)))
  | rowGuardRefresh => exact .inr (.inr fun _ => .onObject (.onObject (h.up fun _ => of_only (frame_rowGuard ..))))
  | stackPark => exact .inr (.inr fun _ => .onObject (h.up fun _ => of_only (frame_park ..)))
  | stackWake => exact .inr (.inr fun _ => .onObject (h.up fun _ => of_only (frame_wake ..)))
  | sidIdle => exact .inr (.inr fun _ => .onObject (.onObject (h.up fun _ => of_only (frame_idleSid ..))))
  | dramTraining => exact .inr (.inr fun _ => .onObject (h.up fun _ => of_only (frame_trainStep ..)))
  | dramRecal => exact .inr (.inr fun _ => .onObject (h.up fun _ => of_only (frame_recalPc ..)))
  | dramTrainingRequest => exact .inr (.inr fun _ => h.up fun _ => of_only (frame_trainRequest ..))
  | readIdleDrain => exact .inr (.inr fun _ => .onObject (h.up fun _ => of_only (frame_idleDrain ..)))
  | frameStart => exact .inr (.inr fun _ => .onPort (.onObject (h.up fun _ => of_only (frame_frameStart ..))))
  | firstWordCrossing => exact .inr (.inr fun _ => h.up fun _ => of_only (frame_firstWord ..))
  | classifyPass => exact .inr (.inr fun _ => h.up fun _ => of_only (frame_classifyPass ..))
  | carryPass => exact .inr (.inr fun _ => h.up fun _ => of_only (frame_carryPass ..))
  | contextFetchDone => exact .inr (.inr fun _ => h.up fun _ => of_only (frame_contextFetched ..))
  | admission => exact .inr (.inr fun _ => h.up fun _ => of_only (frame_admission ..))
  | furtherBeadRequest => exact .inr (.inr fun _ => h.up fun _ => of_only (frame_furtherBead ..))
  | llRelease => exact .inr (.inr fun _ => .onPort (h.up fun _ => of_only (frame_llRelease ..)))
  | copyLink => exact .inr (.inr fun _ => h.up fun _ => of_only (frame_linkOffer ..))
  | replicatorOffer => exact .inr (.inr fun _ => .onObject (h.up fun _ => of_only (frame_replicate ..)))
  | residueLink => exact .inr (.inr fun _ => .onObject (h.up fun _ => of_only (frame_linkResidue ..)))
  | schedulerPick => exact .inr (.inr fun _ => .onPort (h.up fun _ => of_only (frame_pick ..)))
  | transmitStart => exact .inr (.inr fun _ => .onPort (.onObject (h.up fun _ => of_only (frame_transmitStart ..))))
  | transmitEnd => exact .inr (.inr fun _ => .onPort (h.up fun _ => of_only (frame_transmitEnd ..)))
  | profileDrained => exact .inr (.inr fun _ => .onObject (h.up fun _ => of_only (frame_profileDrained ..)))
  | linkTraining => exact .inr (.inr fun _ => h.up fun _ => of_only (frame_linkTraining ..))
  | linkTrainingDone => exact .inr (.inr fun _ => h.up fun _ => of_only (frame_linkUp ..))
  | linkTrainRestart => exact .inr (.inr fun _ => h.up fun _ => of_only (frame_linkRestart ..))
  | linkRetrain => exact .inr (.inr fun _ => h.up fun _ => of_only (frame_linkRetrain ..))
  | memRdTimeout => exact .inr (.inr fun _ => .onObject (h.up fun _ => of_only (frame_readTimeout ..)))
  | hostLost => exact .inr (.inr fun _ => h.up fun _ => of_only (frame_hostLost ..))
  | descriptorTake => exact .inr (.inr fun _ => h.up fun _ => of_only (frame_takeDescriptor ..))
  | injectDescriptor => exact .inr (.inr fun _ => .onObject (h.up fun _ => of_only (frame_injectDescriptor ..)))
  | indexBlockWrite => exact .inr (.inr fun _ => .onObject (h.up fun _ => of_only (frame_writeIndex ..)))
  | puntWrite => exact .inr (.inr fun _ => h.up fun _ => of_only (frame_puntWrite ..))
  | transmitEnable => exact .inr (.inr fun _ => h.up fun _ => of_only (frame_transmitEnable ..))
  | yieldRelease => exact .inr (.inr fun _ => h.up fun _ => of_only (frame_yieldRelease ..))
  | holdFaultDetect => exact .inr (.inr fun _ => h.up fun _ => of_only (frame_holdFaultDetect ..))
  | stateResend => exact .inr (.inr fun _ => h.up fun _ => of_only (frame_stateResend ..))
  | heartbeatSend => exact .inr (.inr fun _ => h.up fun _ => of_only (frame_heartbeatSend ..))
  | heartbeatReceive => exact .inr (.inr fun _ => h.up fun _ => of_only (frame_heartbeatReceive ..))
  | heartbeatLoss => exact .inr (.inr fun _ => h.up fun _ => of_only (frame_heartbeatLoss ..))
  | digestSend => exact .inr (.inr fun _ => h.up fun _ => of_only (frame_digestSend ..))
  | windowCompare w peer =>
    exact .inr (.inr fun _ => h.up (k := fun s => s.windowCompare w peer) fun s => of_only (frame_windowCompare s w peer))
  | peerReleaseTakeover => exact .inr (.inr fun _ => h.up fun _ => of_only (frame_peerRelease ..))
  | takeoverLapse => exact .inr (.inr fun _ => h.up fun _ => of_only (frame_takeoverLapse ..))
  | tallyFollowTimeout => exact .inr (.inr fun _ => h.up fun _ => of_only (frame_followTimeout ..))
  | spanControlSend => exact .inr (.inr fun _ => .onPort (h.up fun _ => of_only (frame_spanControlSend ..)))
  | spanControlReceive => exact .inr (.inr fun _ => .onPort (h.up fun _ => of_only (frame_spanControlReceive ..)))
  | handoffReceive => exact .inr (.inr fun _ => h.up fun _ => of_only (frame_handoffReceive ..))
  | linkConditionChange => exact .inr (.inr fun _ => .onObject (h.up fun _ => of_only (frame_newLink ..)))
  | upDebounceExpiry => exact .inr (.inr fun _ => .onPort (h.up fun _ => ite (of_only (frame_upExpiry ..)) (.refl _)))
  | dnDebounceExpiry => exact .inr (.inr fun _ => .onPort (h.up fun _ => ite (of_only (frame_dnExpiry ..)) (.refl _)))
  | pauseFrameReceived => exact .inr (.inr fun _ => .onPort (h.up fun _ => State.keepsTimeFdb.after (of_only (frame_lookAll ..)) (of_only (frame_pauseReceived ..))))
  | pfcFrameReceived => exact .inr (.inr fun _ => .onPort (h.up fun _ => State.keepsTimeFdb.after (of_only (frame_lookAll ..)) (of_only (frame_pfcReceived ..))))
  | pauseTimerExpiry => exact .inr (.inr fun _ => .onPort (.onObject (h.up fun _ => State.keepsTimeFdb.after (of_only (frame_lookAll ..)) (of_only (frame_pauseExpiry ..)))))
  | pauseRefresh => exact .inr (.inr fun _ => .onPort (.onObject (h.up fun _ => of_only (frame_pauseRefresh ..))))
  | cntRead | cntClear => exact .inr (.inr fun _ => .onRing (h.long fun s => of_only (frame_coreCounters ..)))
  | collectorScan => exact .inr (.inr fun _ => .onObject (h.up fun _ => ite (of_only (frame_scanBlock ..)) (.refl _)))
  | eventEntryWrite => exact .inr (.inr fun _ => h.up fun _ => of_only (frame_eventEntry ..))
  | keepaliveExpiry => exact .inr (.inr fun _ => h.up fun _ => of_only (frame_keepalive ..))
  | funcResetDone => exact .inr (.inr fun _ => .onObject (h.up fun _ => of_only (frame_funcResetDone ..)))
  | patchCheckDone => exact .inr (.inr fun _ => h.up fun _ => of_only (frame_patchDone ..))
  | routineStart => exact .inr (.inr fun _ => h.up fun _ => of_only (frame_routineStart ..))
  | engineHalt => exact .inr (.inr fun _ => .onObject (h.up fun _ => of_only (frame_haltEngine ..)))
  | bootStage => exact .inr (.inr fun _ => h.up fun _ => of_only (frame_bootStage ..))
  | secAttest => exact .inr (.inr fun _ => .onRing (h.long fun s => of_only (frame_coreAttest ..)))
  | bundleDone => exact .inr (.inr fun _ => h.up fun _ => of_only (frame_bundleDone ..))
  | startReady => exact .inr (.inr fun _ => h.up fun _ => of_only (frame_startReady ..))
  | startLate => exact .inr (.inr fun _ => h.up fun _ => of_only (frame_startLate ..))
  | bistDone => exact .inr (.inr fun _ => .onObject (h.up fun _ => of_only (frame_bistDone ..)))
  | nop => exact .inr (.inr fun _ => .onRing (h.long fun s => of_only (frame_coreNop ..)))
  | ruleStage => exact .inr (.inr fun _ => .onRing (h.long fun s => of_only (frame_coreRuleStage ..)))
  | ruleDiscard => exact .inr (.inr fun _ => .onRing (h.long fun s => of_only (frame_coreRuleDiscard ..)))
  | ruleCommit => exact .inr (.inr fun _ => .onRing (h.long fun s => of_only (frame_coreRuleCommit ..)))
  | ruleRead => exact .inr (.inr fun _ => .onRing (h.long fun s => of_only (frame_coreRuleRead ..)))
  | ruleRangeSet => exact .inr (.inr fun _ => .onRing (h.long fun s => of_only (frame_coreRuleRangeSet ..)))
  | tagDrained => exact .inr (.inr fun _ => .onObject (h.up fun _ => of_only (frame_tagDrained ..)))
  | drainStuck => exact .inr (.inr fun _ => .onObject (h.up fun _ => of_only (frame_drainStuck ..)))
  | lpmInsert => exact .inr (.inr fun _ => .onRing (h.long fun s => of_only (frame_coreLpmInsert ..)))
  | lpmDelete => exact .inr (.inr fun _ => .onRing (h.long fun s => of_only (frame_coreLpmDelete ..)))
  | lpmSearch => exact .inr (.inr fun _ => .onRing (h.long fun s => of_only (frame_coreLpmSearch ..)))
  | lpmMatch => exact .inr (.inr fun _ => .onRing (h.long fun s => of_only (frame_coreLpmMatch ..)))
  | lpmNext => exact .inr (.inr fun _ => .onRing (h.long fun s => of_only (frame_coreLpmNext ..)))
  | lpmFlush => exact .inr (.inr fun _ => .onRing (h.long fun s => of_only (frame_coreLpmFlush ..)))
  | lpmBackgroundMove => exact .inr (.inr fun _ => .onObject (h.up fun _ => of_only (frame_backgroundMove ..)))
  | flowOpen => exact .inr (.inr fun _ => .onRing (h.long fun s => of_only (frame_coreFlowOpen ..)))
  | flowModify => exact .inr (.inr fun _ => .onRing (h.long fun s => of_only (frame_coreFlowModify ..)))
  | flowRead => exact .inr (.inr fun _ => .onRing (h.long fun s => of_only (frame_coreFlowRead ..)))
  | flowClear => exact .inr (.inr fun _ => .onRing (h.long fun s => of_only (frame_coreFlowClear ..)))
  | flowClose => exact .inr (.inr fun _ => .onRing (h.long fun s => of_only (frame_coreFlowClose ..)))
  | flowNext => exact .inr (.inr fun _ => .onRing (h.long fun s => of_only (frame_coreFlowNext ..)))
  | frameDigest => exact .inr (.inr fun _ => .onObject (h.up fun _ => of_only (frame_digestNext ..)))
  | gapRecordWrite => exact .inr (.inr fun _ => .onObject (h.up fun _ => of_only (frame_gapWrite ..)))
  | chainTakeRecord => exact .inr (.inr fun _ => h.up fun _ => of_only (frame_takeRecord ..))
  | leafTimerClose => exact .inr (.inr fun _ => .onObject (h.up fun _ => of_only (frame_leafTimer ..)))
  | sealInstant => exact .inr (.inr fun _ => h.up fun _ => of_only (frame_sealInstant ..))
  | finalSealForm => exact .inr (.inr fun _ => h.up fun _ => of_only (frame_formFinal ..))
  | sealSign => exact .inr (.inr fun _ => h.up fun _ => of_only (frame_sealSign ..))
  | sealExport => exact .inr (.inr fun _ => h.up fun _ => of_only (frame_sealExport ..))
  | mramHeadWrite => exact .inr (.inr fun _ => h.up fun _ => of_only (frame_headWrite ..))
  | tallyExportEntry => exact .inr (.inr fun _ => h.up fun _ => of_only (frame_exportEntry ..))
  | phaseSlewDone => exact .inr (.inr fun _ => .onObject (h.up fun _ => of_only (frame_phaseDone ..)))
  | ppsMissing => exact .inr (.inr fun _ => .onObject (h.up fun _ => of_only (frame_ppsMissing ..)))
  | presMoveDone => exact .inr (.inr fun _ => h.up fun _ => of_only (frame_moveDone ..))
  | abDiffUpdate => exact .inr (.inr fun _ => h.up fun _ => of_only (frame_abDiff ..))
  | calDone => exact .inr (.inr fun _ => h.up fun _ => of_only (frame_calDone ..))
  | stampQueueTransfer => exact .inr (.inr fun _ => h.up fun _ => of_only (frame_stampTransfer ..))
  | stampEntryWrite => exact .inr (.inr fun _ => h.up fun _ => of_only (frame_stampWrite ..))
  | resetNAssert => exact .inr (.inr fun _ => h.finish (h.resetAssert _))
  | resetNRelease => exact .inr (.inr fun _ => h.finish (h.resetRelease ..))
  | powerLoss => exact .inr (.inr fun _ => h.finish (h.powerLoss _))
  | counterSweep => exact .inr (.inr fun _ => h.up fun _ => of_only (frame_counterSweep ..))
  | brownOutReset => exact .inr (.inr fun _ => h.finish (h.brownOut _))
  | tempReading => exact .inr (.inr fun s => h.whenUp (k := fun s => s.tempReading _) (h.tempReading s _))
  | dramTempRead temps trip =>
    refine .inr (.inr fun s => ?_)
    change Answers R s (execDramTempRead temps trip s)
    unfold execDramTempRead
    exact h.whenUp (h.dramTempRead ..)
  | jtagInstruction => exact .inr (.inr fun _ => .onObject (h.finish (h.keeps (of_only (frame_jtagLoad ..)))))
  | tapReset => exact .inr (.inr fun _ => h.finish (h.keeps (of_only (frame_jtagLoad ..))))
  | holdInChange => exact .inr (.inr fun _ => h.finish (h.keeps (of_only (frame_holdPin ..))))
  | allocatorHandshake => exact .inr (.inr fun _ => .onObject (.orFault (h.up fun _ => of_only (frame_handshake ..))))

end Decides

end Sys2Proof.Machine
end

section
/-! The FDB stays in its candidate buckets (R246, R247): what each operation on the table does to the order of its places, and that
every command and every clock cycle keeps it. -/

-- One proof at a time: side by side they take more threads than the memory bound of the check leaves room for.
set_option Elab.async false

namespace Sys2Proof.Machine

/-! ### The order of a table -/

/-- `State.fdbInOrder` for a table on its own. -/
def FdbInOrder (m : Fdb) : Prop := mapSorted m = true ∧ ∀ x ∈ m, x.1 ∈ fdbPlaces x.2.vlan x.2.mac

theorem mem_of_mapFind {α : Type} {m : SMap α} {k : Nat} {v : α} (h : mapFind m k = some v) : (k, v) ∈ m := by
  induction m with
  | nil => cases h
  | cons e m ih =>
    obtain ⟨j, w⟩ := e
    by_cases hj : j = k
    · subst hj
      obtain rfl : w = v := by simpa [mapFind] using h
      exact List.mem_cons_self
    · exact List.mem_cons_of_mem _ (ih (by simpa [mapFind, hj] using h))

namespace FdbInOrder

variable {m : Fdb}

theorem nil : FdbInOrder [] := ⟨rfl, fun _ h => by cases h⟩

theorem place (h : FdbInOrder m) {p : Nat} {e : FdbEntry} (hp : mapFind m p = some e) : p ∈ fdbPlaces e.vlan e.mac := by
  have hx := h.2 _ (mem_of_mapFind hp)
  exact hx

theorem del (h : FdbInOrder m) (p : Nat) : FdbInOrder (mapDel m p) :=
  ⟨mapSorted_filter _ _ h.1, fun x hx => h.2 x (List.mem_filter.mp hx).1⟩

theorem put (h : FdbInOrder m) {p : Nat} {e : FdbEntry} (hp : p ∈ fdbPlaces e.vlan e.mac) : FdbInOrder (mapPut m p e) := by
  refine ⟨mapSorted_put m p e h.1, fun x hx => ?_⟩
  obtain rfl | hx := (mem_mapIns ..).mp hx
  · exact hp
  · exact (h.del p).2 x hx

theorem foldl {α : Type} {f : Fdb → α → Fdb} {l : List α} (hf : ∀ m, ∀ a ∈ l, FdbInOrder m → FdbInOrder (f m a)) :
    ∀ {m : Fdb}, FdbInOrder m → FdbInOrder (l.foldl f m) := by
  induction l with
  | nil => exact id
  | cons a l ih =>
    exact fun h => ih (fun m b hb => hf m b (List.mem_cons_of_mem _ hb)) (hf _ a List.mem_cons_self h)

end FdbInOrder

/-- A free place of a candidate bucket is one that may hold the key. -/
theorem freeSlot_mem_fdbPlaces {m : Fdb} {b p v a : Nat} (h : freeSlot m b = some p)
    (hb : b = (fdbBuckets v a).1 ∨ b = (fdbBuckets v a).2) : p ∈ fdbPlaces v a := by
  have hp : p ∈ (List.range 8).map (b + ·) := List.mem_of_find?_eq_some h
  simp only [fdbPlaces, List.mem_append]
  rcases hb with rfl | rfl
  · exact .inl hp
  · exact .inr hp

theorem otherBucket_candidate (e : FdbEntry) (b : Nat) :
    otherBucket e b = (fdbBuckets e.vlan e.mac).1 ∨ otherBucket e b = (fdbBuckets e.vlan e.mac).2 := by
  unfold otherBucket
  dsimp only
  split
  · exact .inr rfl
  · exact .inl rfl

theorem FdbInOrder.relocate {m : Fdb} (h : FdbInOrder m) (p : Nat) : FdbInOrder (relocate m p) := by
  unfold Machine.relocate
  split
  next e he =>
    split
    next q hq => exact (h.del p).put (freeSlot_mem_fdbPlaces hq (otherBucket_candidate ..))
    next => exact h
  next => exact h

theorem roomPath_candidate {m : Fdb} {v a : Nat} {l : List Nat} {k : Nat} (h : roomPath m v a = some (l, k)) :
    k = (fdbBuckets v a).1 ∨ k = (fdbBuckets v a).2 := by
  obtain ⟨n, -, h⟩ := List.exists_of_findSome?_eq_some h
  obtain ⟨b, hb, h⟩ := List.exists_of_findSome?_eq_some h
  obtain ⟨w, -, h⟩ := Option.map_eq_some_iff.mp h
  obtain rfl : b = k := congrArg Prod.snd h
  simpa using hb

/-- Room is made by relocations within the candidate buckets, at one of the places that may hold the key (R247). -/
theorem FdbInOrder.makeRoom {m n : Fdb} {v a p : Nat} (h : FdbInOrder m) (hm : makeRoom m v a = some (n, p)) :
    FdbInOrder n ∧ p ∈ fdbPlaces v a := by
  obtain ⟨⟨l, k⟩, hl, hm⟩ := Option.bind_eq_some_iff.mp hm
  obtain ⟨q, hq, hm⟩ := Option.map_eq_some_iff.mp hm
  obtain ⟨rfl, rfl⟩ := Prod.mk.inj hm
  exact ⟨FdbInOrder.foldl (fun _ a _ h => h.relocate a) h, freeSlot_mem_fdbPlaces hq (roomPath_candidate hl)⟩

theorem fdbFind_some {m : Fdb} {v a p : Nat} {e : FdbEntry} (h : fdbFind m v a = some (p, e)) :
    mapFind m p = some e ∧ e.vlan = v ∧ e.mac = a := by
  obtain ⟨q, -, h⟩ := List.exists_of_findSome?_eq_some h
  split at h
  next x hx =>
    split at h
    next hk =>
      obtain ⟨rfl, rfl⟩ := Prod.mk.inj (Option.some.inj h)
      simpa [hx] using hk
    next => cases h
  next => cases h

/-! ### Steps that keep the order -/

/-- A step keeps the FDB in order. -/
structure State.keepsFdbOrder (s t : State) : Prop where
  keeps : FdbInOrder s.fdb.entries → FdbInOrder t.fdb.entries

namespace State.keepsFdbOrder

variable {s t u : State}

theorem refl (s : State) : s.keepsFdbOrder s := ⟨id⟩

theorem trans (h : s.keepsFdbOrder t) (k : t.keepsFdbOrder u) : s.keepsFdbOrder u := ⟨fun x => k.keeps (h.keeps x)⟩

theorem after (k : t.keepsFdbOrder u) (h : s.keepsFdbOrder t) : s.keepsFdbOrder u := h.trans k

theorem of_entries (h : t.fdb.entries = s.fdb.entries) : s.keepsFdbOrder t :=
  ⟨fun x => by rwa [h]⟩

theorem of_only {P : List Part} {m : Keys} (h : s.only t P m) (hf : Part.fdb ∉ P := by decide) : s.keepsFdbOrder t :=
  of_entries (congrArg FdbSt.entries (h.1 .fdb hf))

theorem ite {p : Prop} [Decidable p] (h : s.keepsFdbOrder t) (k : s.keepsFdbOrder u) :
    s.keepsFdbOrder (if p then t else u) := by
  split <;> assumption

theorem ite_snd {α : Type} {p : Prop} [Decidable p] {a b : α × State} (h : s.keepsFdbOrder a.2) (k : s.keepsFdbOrder b.2) :
    s.keepsFdbOrder (if p then a else b).2 := by
  split <;> assumption

/-- A step that is made or left out. -/
theorem ite_id {p : Prop} [Decidable p] (k : t.keepsFdbOrder u) (h : s.keepsFdbOrder t) :
    s.keepsFdbOrder (if p then u else t) := ite (h.trans k) h

theorem foldl {α : Type} {f : State → α → State} (hf : ∀ (u : State) (a : α), u.keepsFdbOrder (f u a)) (l : List α) :
    ∀ s : State, s.keepsFdbOrder (l.foldl f s) := by
  induction l with
  | nil => exact refl
  | cons a l ih => exact fun s => (hf s a).trans (ih _)

theorem foldl_snd {α β : Type} {f : β × State → α → β × State} (hf : ∀ (r : β × State) (a : α), r.2.keepsFdbOrder (f r a).2) (l : List α) :
    ∀ r : β × State, r.2.keepsFdbOrder (l.foldl f r).2 := by
  induction l with
  | nil => exact fun r => refl r.2
  | cons a l ih => exact fun r => (hf r a).trans (ih _)

theorem setFdb {m : Fdb} (h : FdbInOrder s.fdb.entries → FdbInOrder m) : s.keepsFdbOrder (s.setFdb m) := ⟨h⟩

theorem set {f : Fld} {v : Nat} (h : s.keepsFdbOrder t) : s.keepsFdbOrder (t.set f v) := h.trans (of_only (only_set t f v))

theorem on {f : Fld} (h : s.keepsFdbOrder t) : s.keepsFdbOrder (t.on f) := h.set

theorem satAdd {f : Fld} {v : Nat} (h : s.keepsFdbOrder t) : s.keepsFdbOrder (t.satAdd f v) := h.set

end State.keepsFdbOrder

open State.keepsFdbOrder

section Operations

variable (s : State)

theorem keepsFdbOrder_fdbParity (p : Nat) : s.keepsFdbOrder (s.fdbParity p) := by
  unfold State.fdbParity
  dsimp only
  exact ((setFdb fun h => h.del p).set.set.set.satAdd).on

theorem keepsFdbOrder_fdbAccess (v a : Nat) : s.keepsFdbOrder (s.fdbAccess v a).2.2 := by
  unfold State.fdbAccess
  split
  · split
    · exact keepsFdbOrder_fdbParity ..
    · exact refl s
  · exact refl s

variable {s} in
/-- An access that answers an entry changes nothing, and the entry is that of the key. -/
theorem fdbAccess_some {t : State} {v a p : Nat} {e : FdbEntry} {b : Bool} (h : s.fdbAccess v a = (some (p, e), b, t)) :
    t = s ∧ mapFind s.fdb.entries p = some e ∧ e.vlan = v ∧ e.mac = a := by
  unfold State.fdbAccess at h
  split at h
  next q x hq =>
    split at h
    · cases h
    · cases h
      exact ⟨rfl, fdbFind_some hq⟩
  next => cases h

variable {s} in
theorem keepsFdbOrder_of_fdbAccess {t : State} {v a : Nat} {r : Option (Nat × FdbEntry)} {b : Bool}
    (h : s.fdbAccess v a = (r, b, t)) : s.keepsFdbOrder t := by
  have hk := keepsFdbOrder_fdbAccess s v a
  rwa [h] at hk

variable {s} in
theorem keepsFdbOrder_fdbPlace {t : State} {e : FdbEntry} (h : s.fdbPlace e = some t) : s.keepsFdbOrder t := by
  obtain ⟨⟨m, p⟩, hm, rfl⟩ := Option.map_eq_some_iff.mp h
  refine setFdb fun ho => ?_
  obtain ⟨hn, hp⟩ := ho.makeRoom hm
  exact hn.put hp

theorem keepsFdbOrder_clearPath (v a n : Nat) : ∀ s : State, s.keepsFdbOrder (clearPath v a n s).2 := by
  induction n with
  | zero => exact refl
  | succ n ih =>
    intro s
    unfold clearPath
    dsimp only
    split
    · exact refl s
    · exact after (ih _) (keepsFdbOrder_fdbParity ..)

theorem keepsFdbOrder_fdbMake (e : FdbEntry) : s.keepsFdbOrder (s.fdbMake e).2.2 :=
  keepsFdbOrder_clearPath e.vlan e.mac 6 s

variable {s} in
theorem keepsFdbOrder_of_fdbMake {t u : State} {e : FdbEntry} {b : Bool} (h : s.fdbMake e = (some t, b, u)) :
    s.keepsFdbOrder t := by
  have hk := keepsFdbOrder_fdbMake s e
  obtain ⟨hp, -, -⟩ : State.fdbPlace (clearPath e.vlan e.mac 6 s).2 e = some t ∧ _ ∧ _ := by
    simpa only [State.fdbMake, Prod.mk.injEq] using h
  exact (keepsFdbOrder_clearPath ..).trans (keepsFdbOrder_fdbPlace hp)

variable {s} in
theorem keepsFdbOrder_fdbMade {u : State} {r : Option State} {e : FdbEntry} {b : Bool} (h : s.fdbMake e = (r, b, u)) :
    s.keepsFdbOrder u := by
  have hk := keepsFdbOrder_fdbMake s e
  rwa [h] at hk

variable {s} in
/-- An entry that takes the place of one of the same key. -/
theorem keepsFdbOrder_fdbPut {p : Nat} {e x : FdbEntry} (h : mapFind s.fdb.entries p = some e) (hv : x.vlan = e.vlan)
    (ha : x.mac = e.mac) : s.keepsFdbOrder (s.fdbPut p x) :=
  setFdb fun ho => ho.put (by rw [hv, ha]; exact ho.place h)

theorem keepsFdbOrder_fdbRemove (p : Nat) (e : FdbEntry) : s.keepsFdbOrder (s.fdbRemove p e) :=
  after (of_only (frame_mirrorFdb ..)) (setFdb fun ho => ho.del p)

theorem keepsFdbOrder_fdbHit (v a : Nat) : s.keepsFdbOrder (s.fdbHit v a) := by
  unfold State.fdbHit
  split
  next p e b t he =>
    obtain ⟨rfl, hp, -, -⟩ := fdbAccess_some he
    refine ⟨fun ho => FdbInOrder.put ho (e := { e with hit := true }) ?_⟩
    have hplace := FdbInOrder.place ho hp
    exact hplace
  next b t he => exact keepsFdbOrder_of_fdbAccess he

end Operations

/-! ### Learning -/

section Learning

variable (s : State)

theorem keepsFdbOrder_learnRequest (r : LearnReq) : s.keepsFdbOrder (s.learnRequest r) := by
  unfold State.learnRequest
  dsimp only
  refine ite (of_only (frame_learnDrop s)) ?_
  split
  · exact of_entries rfl
  · exact ite (of_only (frame_learnDrop s)) (of_entries rfl)

theorem keepsFdbOrder_learnKnownBad (f : Nat) : s.keepsFdbOrder (s.learnKnownBad f) := of_entries rfl

theorem keepsFdbOrder_stationMove {p : Nat} {e : FdbEntry} (h : mapFind s.fdb.entries p = some e) (r : LearnReq) :
    s.keepsFdbOrder (s.stationMove p e r) := by
  unfold State.stationMove
  dsimp only
  refine ite (after (of_only (frame_mirrorFdb ..)) ?_) (after (of_only (frame_mirrorFdb ..)) ?_)
  · refine on (after (of_only (frame_moveLast ..)) (keepsFdbOrder_fdbPut h ?_ ?_)) <;> rfl
  · refine on (satAdd (after (of_only (frame_moveLast ..)) (keepsFdbOrder_fdbPut h ?_ ?_))) <;> rfl

theorem keepsFdbOrder_learnApply (r : LearnReq) : s.keepsFdbOrder (s.learnApply r) := by
  unfold State.learnApply
  split
  next b t he =>
    refine after ?_ (keepsFdbOrder_of_fdbAccess he)
    dsimp only
    split
    next u _ _ hu => exact after (of_only (frame_mirrorFdb ..)) (keepsFdbOrder_of_fdbMake hu).satAdd
    next _ u hu => exact (keepsFdbOrder_fdbMade hu).satAdd.on
  next p e b t he =>
    obtain ⟨rfl, hp, -, -⟩ := fdbAccess_some he
    exact ite (refl _).satAdd.on (ite (refl _) (ite (refl _).satAdd (keepsFdbOrder_stationMove _ hp r)))

theorem keepsFdbOrder_learnRelease (bank : Nat) : s.keepsFdbOrder (s.learnRelease bank) := by
  unfold State.learnRelease
  split
  · exact refl s
  · dsimp only
    exact ite (refl s) (ite (of_entries rfl) (after (keepsFdbOrder_learnApply ..) (of_entries rfl)))

end Learning

/-! ### The commands of the FDB -/

section Commands

variable (s : State) (c : CmdIn)

theorem keepsFdbOrder_coreFdbInsert : s.keepsFdbOrder (coreFdbInsert c s).2 := by
  unfold coreFdbInsert
  dsimp only
  split
  · exact refl s
  · split
    next he => exact keepsFdbOrder_of_fdbAccess he
    next t he =>
      refine after ?_ (keepsFdbOrder_of_fdbAccess he)
      split
      next hu => exact keepsFdbOrder_fdbMade hu
      next hu => exact after (of_only (frame_mirrorFdb ..)) (keepsFdbOrder_of_fdbMake hu)
      next hu => exact (keepsFdbOrder_fdbMade hu).on
    next p e b t he =>
      obtain ⟨rfl, hp, hv, ha⟩ := fdbAccess_some he
      split
      · exact after (of_only (frame_mirrorFdb ..)) (keepsFdbOrder_fdbPut hp hv.symm ha.symm)
      · exact refl _

theorem keepsFdbOrder_coreFdbDelete : s.keepsFdbOrder (coreFdbDelete c s).2 := by
  unfold coreFdbDelete
  split
  · exact refl s
  · split
    next he => exact keepsFdbOrder_of_fdbAccess he
    next he => exact after (keepsFdbOrder_fdbRemove ..) (keepsFdbOrder_of_fdbAccess he)

theorem keepsFdbOrder_coreFdbAgeDelete : s.keepsFdbOrder (coreFdbAgeDelete c s).2 := by
  unfold coreFdbAgeDelete
  split
  · exact refl s
  · split
    next he => exact keepsFdbOrder_of_fdbAccess he
    next he =>
      split
      · exact keepsFdbOrder_of_fdbAccess he
      · exact after (keepsFdbOrder_fdbRemove ..) (keepsFdbOrder_of_fdbAccess he)

theorem keepsFdbOrder_coreFdbSearch : s.keepsFdbOrder (coreFdbSearch c s).2 := by
  unfold coreFdbSearch
  split
  · exact refl s
  · split
    next he => exact keepsFdbOrder_of_fdbAccess he
    next he => exact keepsFdbOrder_of_fdbAccess he

/-- The least of a list is one of it. -/
theorem foldl_least_mem {α : Type} (l : List (Nat × α)) : ∀ x : Nat × α,
    l.foldl (fun a e => if e.1 < a.1 then e else a) x ∈ x :: l := by
  induction l with
  | nil => exact fun x => List.mem_singleton_self x
  | cons y l ih =>
    intro x
    have hy := ih (if y.1 < x.1 then y else x)
    rw [List.mem_cons] at hy
    simp only [List.foldl_cons, List.mem_cons]
    obtain hy | hy := hy
    · rw [hy]
      split <;> tauto
    · exact .inr (.inr hy)

/-- A walk answers nothing that the list does not hold. -/
theorem mem_of_mem_walkFrom {α : Type} (n : Nat) : ∀ (k : Option Nat) (l : List (Nat × α)), ∀ x ∈ walkFrom n k l, x ∈ l := by
  induction n with
  | zero => exact fun _ _ _ h => by cases h
  | succ n ih =>
    intro k l x hx
    unfold walkFrom at hx
    dsimp only at hx
    split at hx
    · cases hx
    next y ys he =>
      have hsub : ∀ z ∈ y :: ys, z ∈ l := fun z hz => (List.mem_filter.mp (he ▸ hz)).1
      obtain rfl | hx := List.mem_cons.mp hx
      · exact hsub _ (foldl_least_mem ..)
      · exact hsub _ (he ▸ ih _ _ x hx)

theorem keepsFdbOrder_coreFdbNext : s.keepsFdbOrder (coreFdbNext c s).2 := by
  unfold coreFdbNext
  dsimp only
  refine ite_snd (refl s) (ite_snd (refl s) ?_)
  split
  · exact keepsFdbOrder_fdbParity ..
  · refine ite ⟨fun ho => FdbInOrder.foldl (fun m e he hm => ?_) ho⟩ (refl s)
    refine hm.put (e := { e.2 with hit := false }) (ho.2 e ?_)
    obtain ⟨w, hw, rfl⟩ := List.mem_map.mp he
    obtain ⟨x, hx, rfl⟩ := List.mem_map.mp (mem_of_mem_walkFrom _ _ _ w (List.mem_of_mem_take hw))
    exact hx

/-- A flush removes entries and nothing else. -/
theorem keepsFdbOrder_fdbFlushRange (began from_ to_ : Nat) : s.keepsFdbOrder (s.fdbFlushRange c began from_ to_).2 := by
  unfold State.fdbFlushRange
  refine foldl_snd (fun r e => ?_) s.fdb.entries ((0, false), s)
  dsimp only
  refine ite_snd (refl r.2) (ite_snd ?_ (ite_snd ?_ (refl r.2)))
  · exact keepsFdbOrder_fdbParity ..
  · exact keepsFdbOrder_fdbRemove ..

theorem keepsFdbOrder_coreFdbFlush : s.keepsFdbOrder (coreFdbFlush c s).2 := by
  unfold coreFdbFlush
  split
  · exact refl s
  · split
    · exact refl s
    · exact keepsFdbOrder_fdbFlushRange ..

end Commands

/-! ### Frames and their source addresses -/

section Frames

variable (s : State)

theorem keepsFdbOrder_learnFrom (f : Nat) (x : Frame) : s.keepsFdbOrder (s.learnFrom f x) := by
  unfold State.learnFrom
  exact ite (keepsFdbOrder_learnRequest ..) (refl s)

theorem keepsFdbOrder_bridge (x : Frame) : s.keepsFdbOrder (s.bridge x).2 := by
  unfold State.bridge
  dsimp only
  refine ite_snd (refl s) ?_
  have hacc := keepsFdbOrder_fdbAccess s (s.frameVlan x.bytes x.port) (beNat (x.bytes.take 6))
  generalize s.fdbAccess _ _ = r at hacc ⊢
  obtain ⟨hit, b, t⟩ := r
  cases hit <;> exact hacc

theorem keepsFdbOrder_route (x : Frame) : s.keepsFdbOrder (s.route x).2 := by
  unfold State.route
  dsimp only
  split
  · exact refl s
  next l3 _ =>
    have hmatch (addr : Nat) : s.keepsFdbOrder
        (if s.funcUp .lpm then s.lpmMatch (walk x.bytes).v6 addr else (none, false, s)).2.2 := by
      split
      · exact of_only (frame_lpmMatch ..)
      · exact refl s
    generalize hr : (if s.funcUp .lpm then s.lpmMatch (walk x.bytes).v6 _ else (none, false, s)) = r
    have ht : s.keepsFdbOrder r.2.2 := hr ▸ hmatch _
    obtain ⟨hit, b, t⟩ := r
    cases hit with
    | some e => exact ht
    | none =>
      dsimp only
      split
      · exact ht
      · exact after (keepsFdbOrder_bridge ..) ht
      · exact ht

theorem keepsFdbOrder_forwardingLookup (f : Nat) : s.keepsFdbOrder (s.forwardingLookup f) := by
  unfold State.forwardingLookup
  split
  next x hx =>
    refine ite (refl s) ?_
    extract_lets learnt hit
    have hhit : s.keepsFdbOrder hit := ite_id (keepsFdbOrder_fdbHit ..) (keepsFdbOrder_learnFrom s f x)
    clear_value hit
    split
    next kind dest reason t he =>
    have ht : s.keepsFdbOrder t := by
      split at he
      · have hk := keepsFdbOrder_bridge hit x
        rw [he] at hk
        exact hhit.trans hk
      · have hk := keepsFdbOrder_route hit x
        rw [he] at hk
        exact hhit.trans hk
      · cases he
        exact hhit
    extract_lets _ kind framed fixed
    have hfixed : s.keepsFdbOrder fixed := by
      have hframed : s.keepsFdbOrder framed := after (of_only (frame_setFrame ..)) ht
      exact State.keepsFdbOrder.ite hframed (after (of_only (frame_fixCopies ..)) hframed)
    have hlooked : s.keepsFdbOrder (fixed.contextLookup f).2 := after (of_only (frame_contextLookup ..)) hfixed
    exact State.keepsFdbOrder.ite (after (of_only (frame_modFrame ..)) hlooked) (after (of_only (frame_pastLookup ..)) hlooked)
  next => exact refl s

theorem keepsFdbOrder_frameTruncate (f : Nat) : s.keepsFdbOrder (s.frameTruncate f) := by
  unfold State.frameTruncate
  split
  next x hx =>
    dsimp only
    refine ite (refl s) (after ?_ (of_only (frame_furtherBeads (ceilDiv x.limit 256) f s)))
    split
    · exact ite (refl _) (after (keepsFdbOrder_learnKnownBad ..) (of_only (frame_setFrame ..)))
    · exact refl _
  next => exact refl s

theorem keepsFdbOrder_dropBeads (l : List Nat) : s.keepsFdbOrder (l.foldl State.dropBead s) :=
  foldl (fun u b => of_only (frame_dropBead u b)) l s

theorem keepsFdbOrder_frameEnd (f : Nat) (fcs : Fcs) (codeErr : Bool) : s.keepsFdbOrder (s.frameEnd f fcs codeErr) := by
  have hcount (u : State) (p i n : Nat) : u.keepsFdbOrder (u.count p i n) := of_only (frame_count ..)
  have hcontrol (u : State) (p : Nat) (b : List Byte) : u.keepsFdbOrder (u.countControl p b) := of_only (frame_countControl ..)
  have hpath (u : State) (g : PathSt → PathSt) : u.keepsFdbOrder (u.modPath g) := of_only (frame_modPath ..)
  unfold State.frameEnd
  split
  next x hx =>
    refine ite (refl s) ?_
    extract_lets p good consumed ok received
    have hreceived : s.keepsFdbOrder received := of_only (frame_countRx ..)
    refine State.keepsFdbOrder.ite ?_ (State.keepsFdbOrder.ite ?_ ?_)
    · exact after (hpath ..) (ite (ite_id (hcontrol ..) hreceived) (ite_id (hcount ..) hreceived))
    · refine after (hpath ..) (after (keepsFdbOrder_dropBeads ..) (ite_id ?_ hreceived))
      exact after (of_only (frame_lookAll ..)) (hcontrol ..)
    · refine after (of_only (frame_reap ..)) (after (of_only (frame_policerDebit ..)) (after (of_only (frame_contextUpdate ..)) ?_))
      refine ite_id (keepsFdbOrder_learnKnownBad ..) (ite_id (hcount ..) ?_)
      refine after (of_only (frame_modFrame ..)) (after (keepsFdbOrder_frameTruncate ..) ?_)
      exact after (of_only (frame_furtherBeads ..)) hreceived
  next => exact refl s

theorem keepsFdbOrder_spanLearn (f : Nat) (x : Frame) : s.keepsFdbOrder (s.spanLearn f x) := by
  unfold State.spanLearn
  exact ite (keepsFdbOrder_learnRequest ..) (refl s)

theorem keepsFdbOrder_spanAdmit (p : Nat) (x : Frame) : s.keepsFdbOrder (s.spanAdmit p x) := by
  unfold State.spanAdmit
  split
  next f t he =>
  have ht : s.keepsFdbOrder t := of_only (congrArg Prod.snd he ▸ frame_addFrame s x)
  extract_lets learnt y
  have hlearnt : s.keepsFdbOrder learnt := after (of_only (frame_fixCopies ..)) (after (keepsFdbOrder_spanLearn ..) ht)
  have hturn (pool : Nat) : s.keepsFdbOrder (learnt.turnOn pool) := after (of_only (frame_turnOn ..)) hlearnt
  refine ite (after (of_only (frame_beadDrop ..)) hlearnt) ?_
  split
  · exact after (of_only (frame_beadDrop ..)) (hturn _)
  next beads u hu =>
    have hbeads : s.keepsFdbOrder u := after (of_only (frame_takeBeads _ _ _ _ _ _ _ hu)) (hturn _)
    exact after (of_only (frame_admitted ..)) (after (of_only (frame_recordFrame ..)) hbeads)

theorem keepsFdbOrder_spanData (p : Nat) (b : List Byte) (fcsOk : Bool) : s.keepsFdbOrder (s.spanData p b fcsOk) := by
  have hcount (u : State) (p i n : Nat) : u.keepsFdbOrder (u.count p i n) := of_only (frame_count ..)
  unfold State.spanData
  refine ite (refl s) ?_
  extract_lets g received long other known
  have hreceived : s.keepsFdbOrder received := of_only (frame_countRx ..)
  have hother (u : State) : u.keepsFdbOrder (other u) := ite_id (hcount ..) (refl u)
  refine ite (after (hother _) hreceived) (ite (after (hother _) hreceived.satAdd) (ite hreceived ?_))
  exact after (keepsFdbOrder_spanAdmit ..) hreceived

end Frames

/-! ### The mirror stream, the scrub and the routines -/

section Streams

variable (s : State)

variable {s} in
/-- The state after a record has been applied. -/
theorem keepsFdbOrder_applyFdb {b : List Byte} {t : State} (h : s.applyFdb b = .done t) : s.keepsFdbOrder t := by
  unfold State.applyFdb at h
  dsimp only at h
  split at h
  next p o b u he =>
    obtain ⟨rfl, hp, hv, ha⟩ := fdbAccess_some he
    cases h
    exact keepsFdbOrder_fdbPut hp hv.symm ha.symm
  next b u he =>
    split at h
    next hu =>
      cases h
      exact after (keepsFdbOrder_of_fdbMake hu) (keepsFdbOrder_of_fdbAccess he)
    next => cases h

variable {s} in
theorem keepsFdbOrder_of_done {r : Applied} {t : State} {P : List Part} {m : Keys} (k : s.onlyDone r P m) (h : r = .done t)
    (hf : Part.fdb ∉ P := by decide) : s.keepsFdbOrder t := of_only (k t h) hf

variable {s} in
theorem keepsFdbOrder_applyTable {op : Nat} {b : List Byte} {t : State} (h : s.applyTable op b = .done t) :
    s.keepsFdbOrder t := by
  unfold State.applyTable at h
  split at h
  case h_1 =>
    dsimp only at h
    split at h
    · cases h
      exact of_only (frame_coreRuleStage ..)
    · cases h
  case h_2 => exact keepsFdbOrder_of_done (frame_applyCommit s) h
  case h_3 => exact keepsFdbOrder_of_done (done_done (frame_putComparator s b)) h
  case h_4 => exact keepsFdbOrder_applyFdb h
  case h_5 =>
    split at h
    next he =>
      cases h
      exact after (keepsFdbOrder_fdbRemove ..) (keepsFdbOrder_of_fdbAccess he)
    next he =>
      cases h
      exact keepsFdbOrder_of_fdbAccess he
  case h_6 => exact keepsFdbOrder_of_done (frame_applyLpm s b) h
  case h_7 =>
    have hacc : s.keepsFdbOrder (s.lpmAccess (lpmOf b)).2.2 := of_only (frame_lpmAccess ..)
    split at h
    next he =>
      rw [he] at hacc
      cases h
      exact after (of_only (frame_lpmRemove ..)) hacc
    next he =>
      rw [he] at hacc
      cases h
      exact hacc
  case h_8 => exact keepsFdbOrder_of_done (frame_applyOpen s b) h
  case h_9 => exact keepsFdbOrder_of_done (frame_applyContext s b false) h
  case h_10 => exact keepsFdbOrder_of_done (frame_applyContext s b true) h
  case h_11 => exact keepsFdbOrder_of_done (done_done (frame_putMembers s _ _)) h
  case h_12 => exact keepsFdbOrder_of_done (done_done (frame_putPolicer s b)) h
  case h_13 => exact keepsFdbOrder_of_done (done_done (frame_putShaper s b)) h
  case h_14 => exact keepsFdbOrder_of_done (done_done (frame_putGates s _ _ _)) h
  case h_15 => exact keepsFdbOrder_of_done (done_done (frame_applyGates s b)) h
  case h_16 => exact keepsFdbOrder_of_done (done_done (frame_dropCommit s _)) h
  case h_17 =>
    cases h
    exact after (of_only (frame_modTally ..)) (of_only (frame_writeHead ..))
  case h_18 => cases h

theorem keepsFdbOrder_recordReceive (frame : List Byte) (fcsOk : Bool) : s.keepsFdbOrder (s.recordReceive frame fcsOk) := by
  unfold State.recordReceive
  split
  · exact refl s
  next m hm =>
    dsimp only
    refine ite (refl s) (ite ?_ ?_)
    · exact of_only (frame_takeAck ..)
    · have hack : s.keepsFdbOrder (s.takeAck m.ack) := of_only (frame_takeAck ..)
      split
      · exact hack
      · exact after (of_only (frame_becomeStale ..)) hack
      next t he =>
        have hmod : s.keepsFdbOrder t := after (keepsFdbOrder_applyTable he) hack
        have hpair (u : State) (g : PairSt → PairSt) : u.keepsFdbOrder (u.modPair g) := of_only (frame_modPair ..)
        refine ite_id ?_ (after (hpair ..) hmod)
        exact after (of_only (frame_enableTally ..)) (hpair ..)

theorem keepsFdbOrder_itemCheck (w : Nat × List Byte) : s.keepsFdbOrder (s.itemCheck w) := by
  unfold State.itemCheck
  split
  · exact keepsFdbOrder_fdbAccess ..
  · exact of_only (frame_lpmAccess ..)
  · exact refl s

theorem keepsFdbOrder_bulkSend (n : Nat) : ∀ s : State, s.keepsFdbOrder (bulkSend n s) := by
  have hsend (u : State) (r : Nat × List Byte) : u.keepsFdbOrder (if u.pair.streamLost then u else u.sendRecord 4 r.1 r.2) :=
    ite (refl u) (of_only (frame_sendRecord ..))
  induction n with
  | zero => exact refl
  | succ n ih =>
    intro s
    unfold bulkSend
    split
    · dsimp only
      exact after (ih _) (after (of_only (frame_modPair ..)) (after (foldl hsend ..) (keepsFdbOrder_itemCheck ..)))
    · exact refl s

theorem keepsFdbOrder_resyncComplete : s.keepsFdbOrder s.resyncComplete := by
  unfold State.resyncComplete
  split
  · exact after (of_only (frame_endBulk ..)) (keepsFdbOrder_bulkSend ..)
  · split
    · exact ite (after (of_only (frame_endResync ..)) (of_only (frame_enterStandby ..))) (refl s)
    · exact refl s

theorem keepsFdbOrder_clearTables : s.keepsFdbOrder s.clearTables := by
  have hgate (u : State) (p : Nat) : u.keepsFdbOrder (State.syncGate (u.setGate p gate0) p) :=
    after (of_only (frame_syncGate ..)) (of_only (frame_setGate ..))
  unfold State.clearTables
  dsimp only
  refine after (foldl hgate ..) (after (of_only (frame_modTm ..)) (after (of_only (frame_clearGroups ..)) ?_))
  refine after (of_only (frame_clearContexts ..)) (after (of_only (frame_setLpm ..)) ?_)
  exact after (setFdb fun _ => .nil) (of_only (frame_clearRules s))

theorem keepsFdbOrder_pairResync (c : CmdIn) : s.keepsFdbOrder (s.pairResync c) := by
  have hclose (r : CmdRes) : s.keepsFdbOrder ((s.endOwn .pairResync c).complete 0x68 c r) :=
    after (of_only (frame_complete ..)) (of_only (frame_endOwn ..))
  unfold State.pairResync
  split
  · exact refl s
  · split
    · exact hclose _
    · dsimp only
      refine ite (refl s) (ite (hclose _) (ite (hclose _) (ite (hclose _) ?_)))
      exact after (of_only (frame_setRole ..)) (after (of_only (frame_modPair ..)) (keepsFdbOrder_clearTables s))

theorem keepsFdbOrder_scrub (x : ScrubTarget) : s.keepsFdbOrder (s.scrub x) := by
  refine ite ?_ ?_
  · unfold State.tableScrub
    split
    · exact of_only (frame_ruleParity ..)
    · exact ite (keepsFdbOrder_fdbParity ..) (refl s)
    · split
      · exact of_only (frame_lpmParity ..)
      · exact refl s
    · exact ite (of_only (frame_contextFound ..)) (refl s)
    · exact of_only (only_set ..)
    · exact refl s
  · unfold State.markBad
    split
    · split
      next e he =>
        refine setFdb fun ho => ho.put (e := { e with bad := true }) ?_
        have hplace := ho.place he
        exact hplace
      next => exact refl s
    · split
      · exact of_only (frame_setLpm ..)
      · exact refl s
    · exact of_only (frame_ruleBad ..)
    · exact ite (of_only (frame_modFlow ..)) (refl s)
    · exact refl s

theorem keepsFdbOrder_flushStep (e : Nat) (r : Routine) : s.keepsFdbOrder (s.flushStep e r) := by
  unfold State.flushStep
  split
  next c hc =>
    dsimp only
    refine after (of_only (frame_noteItems ..)) (after (of_only (frame_countCheckpoint ..)) ?_)
    exact ite_snd (keepsFdbOrder_fdbFlushRange ..) (of_only (frame_lpmFlushRange ..))
  next => exact refl s

theorem keepsFdbOrder_lpmStep (e : Nat) (r : Routine) {m : Option (Bool × State)} {l : Keys} (h : s.onlyIfP m [.lpm] l) :
    s.keepsFdbOrder (s.lpmStep e r m) := by
  unfold State.lpmStep
  split
  next b t => exact after (of_only (frame_noteItems ..)) (after (of_only (frame_countCheckpoint ..)) (of_only (h _ rfl)))
  next => exact refl s

theorem keepsFdbOrder_routineStep (e : Nat) (r : Routine) : s.keepsFdbOrder (s.routineStep e r) := by
  unfold State.routineStep
  split
  · exact refl s
  · exact refl s
  · exact ite (after (of_only (frame_countCheckpoint ..)) (of_only (frame_flushSome ..))) (refl s)
  · exact ite (after (of_only (frame_countCheckpoint ..)) (of_only (frame_reclaimSome ..))) (refl s)
  · split
    · exact of_only (frame_commitStep ..)
    · exact refl s
  · split
    · exact ite (keepsFdbOrder_lpmStep _ _ _ (frame_insertStep s _)) (refl s)
    · exact refl s
  · exact ite (keepsFdbOrder_lpmStep _ _ _ (frame_moveStep s _ _ _)) (refl s)
  · exact ite (keepsFdbOrder_flushStep ..) (refl s)
  · exact ite (keepsFdbOrder_flushStep ..) (refl s)
  · exact after (of_only (frame_countCheckpoint ..)) (ite (keepsFdbOrder_bulkSend ..) (refl s))
  · exact refl s
  · exact of_only (frame_countCheckpoint ..)

theorem keepsFdbOrder_checkpoint (e : Nat) : s.keepsFdbOrder (s.checkpoint e) := by
  unfold State.checkpoint
  split
  · exact after (of_only (frame_giveWay ..)) (keepsFdbOrder_routineStep ..)
  · exact refl s

end Streams

/-! ### Every step -/

theorem keepsFdbOrder_loseState (s : State) (d : DieSt) : s.keepsFdbOrder (s.loseState d) := ⟨fun _ => FdbInOrder.nil⟩

theorem keepsFdbOrder_resetTime (s : State) : s.keepsFdbOrder s.resetTime := by
  unfold State.resetTime
  dsimp only
  refine after (of_only (frame_syncCompare ..)) (after (of_only (frame_syncTime ..)) (after (of_only (frame_suspendGates ..)) ?_))
  refine after (of_only (frame_loseStamps ..)) (ite (on ?_) ?_)
  all_goals exact of_entries rfl

theorem decides_keepsFdbOrder : Decides .fdb State.keepsFdbOrder where
  isTimeOrFdb := .inr rfl
  of_same h := of_entries (congrArg FdbSt.entries h)
  trans h k := h.trans k
  loseState := keepsFdbOrder_loseState
  timeEffect old s off v := of_only (frame_timeEffect ..)
  resetTime := keepsFdbOrder_resetTime
  resetFdb _ := ⟨fun _ => FdbInOrder.nil⟩

theorem exec_keepsFdbOrder_of_movesTime {c : Instr} (h : MovesTime c) (s : State) : Answers State.keepsFdbOrder s (exec c s) := by
  have d := decides_keepsFdbOrder
  cases h with
  | refInputLost => exact .onObject (d.whenUp (ite (of_only (frame_refLost ..)) (refl _)))
  | refInputGood => exact .onObject (d.whenUp (ite (of_only (frame_refGood ..)) (refl _)))
  | servoWatchdogExpiry => exact .onObject (d.whenUp (of_only (frame_watchdog ..)))
  | ppsEdge => exact .onObject (d.whenUp (of_only (frame_ppsEdge ..)))
  | presRevert => exact d.acts fun _ => of_only (frame_presRevert ..)
  | tpoPulseEdge => exact .onObject (d.whenUp (of_only (frame_tpoEdge ..)))
  | tpiCapture => exact .onObject (d.whenUp (of_only (frame_tpiCapture ..)))

theorem exec_keepsFdbOrder_of_movesFdb {c : Instr} (h : MovesFdb c) (s : State) : Answers State.keepsFdbOrder s (exec c s) := by
  have d := decides_keepsFdbOrder
  cases h with
  | forwardingLookup => exact d.acts fun _ => keepsFdbOrder_forwardingLookup ..
  | learnRelease => exact .onObject (d.acts fun _ => keepsFdbOrder_learnRelease ..)
  | frameEnd => exact d.acts fun _ => keepsFdbOrder_frameEnd ..
  | frameTruncate => exact d.acts fun _ => keepsFdbOrder_frameTruncate ..
  | stateRecordReceive => exact d.acts fun _ => keepsFdbOrder_recordReceive ..
  | pairResync => exact .onRing (d.acts fun _ => keepsFdbOrder_pairResync ..)
  | resyncComplete => exact d.acts fun _ => keepsFdbOrder_resyncComplete ..
  | spanDataReceive => exact .onPort (d.acts fun _ => keepsFdbOrder_spanData ..)
  | routineCheckpoint => exact .onObject (d.acts fun _ => keepsFdbOrder_checkpoint ..)
  | fdbInsert => exact .onRing (d.runLong (keepsFdbOrder_coreFdbInsert ..))
  | fdbDelete => exact .onRing (d.runLong (keepsFdbOrder_coreFdbDelete ..))
  | fdbAgeDelete => exact .onRing (d.runLong (keepsFdbOrder_coreFdbAgeDelete ..))
  | fdbSearch => exact .onRing (d.runLong (keepsFdbOrder_coreFdbSearch ..))
  | fdbNext => exact .onRing (d.runLong (keepsFdbOrder_coreFdbNext ..))
  | fdbFlush => exact .onRing (d.runLong (keepsFdbOrder_coreFdbFlush ..))
  | tableScrubRead => exact d.acts fun _ => keepsFdbOrder_scrub ..

theorem exec_keepsFdbOrder (c : Instr) (s : State) : Answers State.keepsFdbOrder s (exec c s) := by
  rcases decides_keepsFdbOrder.exec c with h | h | h
  · exact exec_keepsFdbOrder_of_movesTime h s
  · exact exec_keepsFdbOrder_of_movesFdb h s
  · exact h s

theorem step_keepsFdbOrder {s t : State} (h : step s = .next t) : s.keepsFdbOrder t := by
  rcases hp : s.pending with - | ⟨c, rest⟩
  · rw [step_of_nil hp] at h
    exact decides_keepsFdbOrder.finish (of_only (frame_tick s)) t h
  · rw [step_of_cons hp] at h
    exact after (exec_keepsFdbOrder c _ t h) (of_entries rfl)

/-- Settles O60: every operation on the table stores an entry in one of the places of its key or removes one, and every command and
every cycle either leaves the table alone or is made of such operations. -/
theorem everyStepKeepsTheFdbInItsBuckets : Obligations.EveryStepKeepsTheFdbInItsBuckets :=
  fun _ _ hs h => (step_keepsFdbOrder h).keeps hs

end Sys2Proof.Machine
end

section
/-! Presentation time (R119 to R124): no command steps it, and what the end of a cycle makes of it. -/

-- One proof at a time: side by side they take more threads than the memory bound of the check leaves room for.
set_option Elab.async false

namespace Sys2Proof.Machine

/-! ### What leaves presentation time alone -/

section Pres

variable (s : State)

theorem setTime_pres (d t : Nat) : (s.setTime d t).time.pres = s.time.pres := by
  unfold State.setTime
  rw [syncTime_time, setDom_pres]

theorem unlock_pres (d : Nat) (f : Fld) : (s.unlock d f).time.pres = s.time.pres := by
  unfold State.unlock
  split
  · rw [syncTime_time, setDom_pres, on_time, off_time]
  · rfl

theorem tpoStop_pres (n : Nat) : (s.tpoStop n).time.pres = s.time.pres := by
  rw [State.tpoStop, off_time, off_time, setTpo_time]

theorem tpoArm_pres (n : Nat) : (s.tpoArm n).time.pres = s.time.pres := by
  unfold State.tpoArm
  extract_lets start need per k
  clear_value need
  split
  · rw [on_time, setTpo_time]
  split
  · rw [on_time, setTpo_time]
  · rw [on_time, off_time]

theorem tpoEdge_pres (n : Nat) (trailing : Bool) : (s.tpoEdge n trailing).time.pres = s.time.pres := by
  unfold State.tpoEdge
  dsimp only
  split
  · rfl
  split
  · simp only [setTpo_time]
  split
  · simp only [setTpo_time]
  · exact tpoStop_pres s n

theorem putGroup_time (fl fr ns lo hi : Fld) (st : Nat) : (s.putGroup fl fr ns lo hi st).time = s.time := by
  simp only [State.putGroup, set_time]

theorem setTpi_pres (n : Nat) (l : List Nat) : (s.setTpi n l).time.pres = s.time.pres := by
  simp only [State.setTpi, putGroup_time, set_time]

theorem tpiPop_pres (n : Nat) : (s.tpiPop n).time.pres = s.time.pres := by
  unfold State.tpiPop
  split
  · split
    · exact setTpi_pres ..
    · dsimp only
      split
      · rw [setB_time, setTpi_pres]
      · split
        · rfl
        · exact setTpi_pres ..
  · exact setTpi_pres ..

theorem tpiCapture_pres (n : Nat) (rising : Bool) : (s.tpiCapture n rising).time.pres = s.time.pres := by
  unfold State.tpiCapture
  dsimp only
  split
  · rfl
  · split
    · rw [on_time]
    · exact setTpi_pres ..

theorem watchdog_pres (d : Nat) : (s.watchdog d).time.pres = s.time.pres := by
  unfold State.watchdog
  dsimp only
  split
  · rw [setDom_pres, unlock_pres]
  · rfl

theorem ppsEdge_pres (d : Nat) : (s.ppsEdge d).time.pres = s.time.pres := by
  have hcaptured : (if s.bit (Reg.TIME_DOM_CTRL_PPS_EN d) then
      (s.putGroup (Reg.TIME_DOM_PPS_W0_FLAGS d) (Reg.TIME_DOM_PPS_W0_FRACTION d) (Reg.TIME_DOM_PPS_W1_NANOSECONDS d)
        (Reg.TIME_DOM_PPS_W2_SEC_LO d) (Reg.TIME_DOM_PPS_W3_SEC_HI d)
        (stampOf ((s.dom d).now / tuTick : Nat) (s.domFlags d))).on (Reg.TIME_DOM_STATUS_PPS_NEW d)
      else s).time.pres = s.time.pres := by
    split
    · rw [on_time, putGroup_time]
    · rfl
  unfold State.ppsEdge
  dsimp only
  split
  · rw [setTime_pres, setDom_pres, hcaptured]
  · rw [setDom_pres, hcaptured]

theorem trefLost_pres (d : Nat) : (s.trefLost d).time.pres = s.time.pres := by
  have hflags : (if d = 0 then (s.off Reg.SYS_CLK_STATUS_DOMA_OK).on Reg.SYS_CLK_STATUS_DOMA_LOST
      else (s.off Reg.SYS_CLK_STATUS_DOMB_OK).on Reg.SYS_CLK_STATUS_DOMB_LOST).time.pres = s.time.pres := by
    split <;> rw [on_time, off_time]
  unfold State.trefLost
  extract_lets flagged
  split
  · exact hflags
  · exact (unlock_pres ..).trans hflags

theorem pres_of_only {s t : State} {P : List Part} {m : Keys} (h : s.only t P m) (hp : Part.time ∉ P := by decide) :
    t.time.pres = s.time.pres := congrArg TimeSt.pres (h.1 .time hp)

theorem refLost_pres (i : RefInput) : (s.refLost i).time.pres = s.time.pres := by
  unfold State.refLost
  dsimp only
  split
  · rw [pres_of_only (frame_rejudge ..), pres_of_only (frame_dropPorts ..), putBit_time, putBit_time]
  · rw [pres_of_only (frame_dropPorts ..), on_time, on_time, off_time]
  · exact trefLost_pres ..
  · exact trefLost_pres ..

theorem refGood_pres (i : RefInput) (rate : Int) : (s.refGood i rate).time.pres = s.time.pres := by
  unfold State.refGood
  split
  · exact by rw [pres_of_only (frame_rejudge ..), putBit_time]
  · rw [on_time]
  · rw [on_time]
  · rw [on_time]

/-- No write to the TIME page moves presentation time. -/
theorem timeEffect_pres (old : State) (off v : Nat) : (timeEffect old s off v).time.pres = s.time.pres := by
  unfold timeEffect
  split
  · extract_lets d x was edged _ locked
    split
    case h_1 =>
      have hedged : edged.time.pres = s.time.pres := by
        unfold edged
        split
        · exact setDom_pres ..
        · rfl
      rw [syncTime_time, ← hedged]
      unfold locked
      clear_value edged
      split
      · split
        · rw [off_time]
        · exact setDom_pres ..
      · split
        · rw [on_time]
        · rfl
    case h_2 => exact servoWrite_pres ..
    case h_3 => rw [syncTime_time, servoWrite_pres, setDom_pres]
    case h_4 =>
      split
      · rfl
      split
      · exact setDom_pres ..
      · exact setTime_pres ..
    case h_5 => rfl
  dsimp only
  split
  · split
    · rfl
    · simp only [putGroup_time]
  split
  · split
    · split
      · rfl
      · exact tpoArm_pres ..
    · exact tpoStop_pres ..
  split
  · split
    · exact tpiPop_pres ..
    · rfl
  · rfl

end Pres

/-! ### No command steps presentation time -/

/-- Presentation time that has left NONE keeps its value as long as it does not return there. -/
structure State.keepsPres (s t : State) : Prop where
  none : s.presNone = true → t.presNone = true
  now : t.presNone = false → t.time.pres.now = s.time.pres.now

namespace State.keepsPres

variable {s t u : State}

theorem of_pres (h : t.time.pres = s.time.pres) : s.keepsPres t :=
  ⟨fun hs => by rwa [State.presNone, h], fun _ => by rw [h]⟩

theorem of_none (h : t.presNone = true) : s.keepsPres t := ⟨fun _ => h, fun ht => absurd (h.symm.trans ht) (by decide)⟩

theorem trans (h : s.keepsPres t) (k : t.keepsPres u) : s.keepsPres u where
  none hs := k.none (h.none hs)
  now hu := by
    have ht : t.presNone = false := by
      by_contra hc
      exact absurd ((k.none (by simpa using hc)).symm.trans hu) (by decide)
    rw [k.now hu, h.now ht]

theorem ite {p : Prop} [Decidable p] (h : s.keepsPres t) (k : s.keepsPres u) : s.keepsPres (if p then t else u) := by
  split <;> assumption

end State.keepsPres

open State.keepsPres

theorem keepsPres_resetTime (s : State) : s.keepsPres s.resetTime := by
  refine of_none ?_
  unfold State.resetTime State.presNone
  dsimp only
  rw [pres_of_only (frame_syncCompare _), syncTime_time, pres_of_only (frame_suspendGates _), pres_of_only (frame_loseStamps _)]
  split
  · rw [on_time]
    rfl
  · rfl

/-- Presentation time follows another domain from the value that stood (R121). -/
theorem followFrom_pres (s : State) (d : Nat) : (s.followFrom d).time.pres =
    { s.time.pres with mode := .follow d, err := (s.time.pres.now : Int) - (s.dom d).now } := by
  unfold State.followFrom
  dsimp only
  split
  · rfl
  · rw [on_time, setPres_time]

theorem keepsPres_presRevert (s : State) : s.keepsPres s.presRevert := by
  unfold State.presRevert
  dsimp only
  split
  next h =>
    simp only [Bool.and_eq_true, beq_iff_eq] at h
    obtain ⟨⟨⟨-, hmode⟩, -⟩, -⟩ := h
    refine ⟨fun hs => ?_, fun _ => ?_⟩
    · rw [State.presNone, hmode] at hs
      cases hs
    · rw [syncTime_time, followFrom_pres]
  next => exact of_pres rfl

theorem decides_keepsPres : Decides .time State.keepsPres where
  isTimeOrFdb := .inl rfl
  of_same h := of_pres (congrArg TimeSt.pres h)
  trans h k := h.trans k
  loseState _ _ := of_none rfl
  timeEffect _ s _ _ := of_pres (timeEffect_pres ..)
  resetTime := keepsPres_resetTime
  resetFdb _ := of_pres rfl

theorem exec_keepsPres_of_movesTime {c : Instr} (h : MovesTime c) (s : State) : Answers State.keepsPres s (exec c s) := by
  have d := decides_keepsPres
  cases h with
  | refInputLost => exact .onObject (d.acts fun s => ite (of_pres (refLost_pres ..)) (d.refl s))
  | refInputGood => exact .onObject (d.acts fun s => ite (of_pres (refGood_pres ..)) (d.refl s))
  | servoWatchdogExpiry => exact .onObject (d.acts fun s => of_pres (watchdog_pres ..))
  | ppsEdge => exact .onObject (d.acts fun s => of_pres (ppsEdge_pres ..))
  | presRevert => exact d.acts keepsPres_presRevert
  | tpoPulseEdge => exact .onObject (d.acts fun s => of_pres (tpoEdge_pres ..))
  | tpiCapture => exact .onObject (d.acts fun s => of_pres (tpiCapture_pres ..))

theorem exec_keepsPres_of_movesFdb {c : Instr} (h : MovesFdb c) (s : State) : Answers State.keepsPres s (exec c s) := by
  have d := decides_keepsPres
  cases h with
  | forwardingLookup => exact d.acts fun _ => of_pres (pres_of_only (frame_forwardingLookup ..))
  | learnRelease => exact .onObject (d.acts fun _ => of_pres (pres_of_only (frame_learnRelease ..)))
  | frameEnd => exact d.acts fun _ => of_pres (pres_of_only (frame_frameEnd ..))
  | frameTruncate => exact d.acts fun _ => of_pres (pres_of_only (frame_frameTruncate ..))
  | stateRecordReceive => exact d.acts fun _ => of_pres (pres_of_only (frame_recordReceive ..))
  | pairResync => exact .onRing (d.acts fun _ => of_pres (pres_of_only (frame_pairResync ..)))
  | resyncComplete => exact d.acts fun _ => of_pres (pres_of_only (frame_resyncComplete ..))
  | spanDataReceive => exact .onPort (d.acts fun _ => of_pres (pres_of_only (frame_spanData ..)))
  | routineCheckpoint => exact .onObject (d.acts fun _ => of_pres (pres_of_only (frame_checkpoint ..)))
  | fdbInsert => exact .onRing (d.runLong (of_pres (pres_of_only (frame_coreFdbInsert ..))))
  | fdbDelete => exact .onRing (d.runLong (of_pres (pres_of_only (frame_coreFdbDelete ..))))
  | fdbAgeDelete => exact .onRing (d.runLong (of_pres (pres_of_only (frame_coreFdbAgeDelete ..))))
  | fdbSearch => exact .onRing (d.runLong (of_pres (pres_of_only (frame_coreFdbSearch ..))))
  | fdbNext => exact .onRing (d.runLong (of_pres (pres_of_only (frame_coreFdbNext ..))))
  | fdbFlush => exact .onRing (d.runLong (of_pres (pres_of_only (frame_coreFdbFlush ..))))
  | tableScrubRead => exact d.acts fun _ => of_pres (pres_of_only (frame_scrub ..))

theorem exec_keepsPres (c : Instr) (s : State) : Answers State.keepsPres s (exec c s) := by
  rcases decides_keepsPres.exec c with h | h | h
  · exact exec_keepsPres_of_movesTime h s
  · exact exec_keepsPres_of_movesFdb h s
  · exact h s

end Sys2Proof.Machine
end

section
/-! The end of a cycle: presentation time takes the transition that the domains' locks call for (R119, R121, R122, log 82), and the
clocks move on by one cycle (R111, R120). -/

-- One proof at a time: side by side they take more threads than the memory bound of the check leaves room for.
set_option Elab.async false

namespace Sys2Proof.Machine

/-- A frame may be named more widely. -/
theorem only_widen {s t : State} {P Q : List Part} {L M : List String} (h : s.only t P (regsOf L)) (hp : ∀ p ∈ P, p ∈ Q)
    (hl : ∀ r ∈ L, r ∈ M) : s.only t Q (regsOf M) := only_mono h hp fun _ => regsOf_mono hl

/-! ### Rates -/

/-- The fields and measured offsets from which the clocks take their rates are the same, and so are the domains. -/
structure State.sameRates (s t : State) : Prop where
  domA : t.time.domA = s.time.domA
  domB : t.time.domB = s.time.domB
  trefA : t.time.trefRateA = s.time.trefRateA
  trefB : t.time.trefRateB = s.time.trefRateB
  sel (d : Nat) : t.get (Reg.TIME_DOM_CTRL_TREF_SEL d) = s.get (Reg.TIME_DOM_CTRL_TREF_SEL d)
  slew (d : Nat) : t.get (Reg.TIME_DOM_CTRL_SLEW_MAX d) = s.get (Reg.TIME_DOM_CTRL_SLEW_MAX d)
  freq (d : Nat) : t.get (Reg.TIME_DOM_FREQ_FREQ_ADJ d) = s.get (Reg.TIME_DOM_FREQ_FREQ_ADJ d)
  presSlew : t.get Reg.TIME_PRES_CTRL_SLEW_MAX = s.get Reg.TIME_PRES_CTRL_SLEW_MAX

namespace State.sameRates

variable {s t u : State}

theorem trans (h : s.sameRates t) (k : t.sameRates u) : s.sameRates u where
  domA := k.domA.trans h.domA
  domB := k.domB.trans h.domB
  trefA := k.trefA.trans h.trefA
  trefB := k.trefB.trans h.trefB
  sel d := (k.sel d).trans (h.sel d)
  slew d := (k.slew d).trans (h.slew d)
  freq d := (k.freq d).trans (h.freq d)
  presSlew := k.presSlew.trans h.presSlew

/-- A step that leaves the controls of the clocks and moves presentation time at most. -/
theorem of_only {P : List Part} {L : List String} (h : s.only t P (regsOf L)) (hc : "TIME_DOM_CTRL" ∉ L := by decide)
    (hf : "TIME_DOM_FREQ" ∉ L := by decide) (hp : "TIME_PRES_CTRL" ∉ L := by decide)
    (ht : t.time = { s.time with pres := t.time.pres }) : s.sameRates t where
  domA := by rw [ht]
  domB := by rw [ht]
  trefA := by rw [ht]
  trefB := by rw [ht]
  sel d := kept_of_only h (a := .rw) 4 d 0 (List.mem_of_getElem? (i := 0) rfl) (by simp) hc
  slew d := kept_of_only h (a := .rw) 4 d 0 (List.mem_of_getElem? (i := 0) rfl) (by simp) hc
  freq d := kept_of_only h (a := .rw) 4 d 0 (List.mem_of_getElem? (i := 1) rfl) (by simp) hf
  presSlew := kept_of_only h (a := .rw) 4 0 0 (List.mem_of_getElem? (i := 18) rfl) (by simp) hp

theorem dom (h : s.sameRates t) (d : Nat) : t.dom d = s.dom d := by rw [State.dom, State.dom, h.domA, h.domB]

theorem baseRate (h : s.sameRates t) (d : Nat) : t.baseRate d = s.baseRate d := by
  simp only [State.baseRate, State.refOffset, State.getS, h.sel, h.freq, h.trefA, h.trefB]

theorem domNext (h : s.sameRates t) (d : Nat) : t.domNext d = s.domNext d := by
  simp only [State.domNext, State.domGain, h.dom, h.baseRate, h.slew]

end State.sameRates

/-! ### The transition of presentation time -/

section Transition

variable {s : State} {d : Nat}

theorem presTransition_of_locked (h : s.time.pres.mode = .follow d) (hd : s.domLocked d = true) :
    s.presTransition = s.syncTime := by
  unfold State.presTransition
  dsimp only
  rw [h]
  dsimp only
  rw [if_pos hd]

theorem presTransition_of_other (h : s.time.pres.mode = .follow (1 - d)) (hn : s.domLocked (1 - d) = false) (hd : d < 2)
    (hl : s.domLocked d = true) : s.presTransition = (s.followFrom d).syncTime := by
  have hother : 1 - (1 - d) = d := by omega
  unfold State.presTransition
  dsimp only
  rw [h]
  dsimp only
  rw [if_neg (by simp [hn]), hother, if_pos hl]

theorem presTransition_of_neither (h : s.time.pres.mode = .follow d) (hn : s.domLocked d = false)
    (ho : s.domLocked (1 - d) = false) : s.presTransition =
      ((s.setPres { s.time.pres with mode := .holdover d, holdInc := s.baseRate d * 1000000, err := 0 }).on
        Reg.TIME_PRES_STATUS_HOLDOVER_ENTERED).syncTime := by
  unfold State.presTransition
  dsimp only
  rw [h]
  dsimp only
  rw [if_neg (by simp [hn]), if_neg (by simp [ho])]

/-- The domain that the end of a cycle chooses out of NONE and HOLDOVER: the preferred one if it is locked, else the other. -/
theorem choice_eq (hd : d < 2) (hp : s.get Reg.TIME_PRES_CTRL_PREFERRED < 2) (hl : s.domLocked d = true)
    (hc : d = s.get Reg.TIME_PRES_CTRL_PREFERRED ∨ s.domLocked (1 - d) = false) :
    (if s.domLocked (s.get Reg.TIME_PRES_CTRL_PREFERRED) then some (s.get Reg.TIME_PRES_CTRL_PREFERRED)
      else if s.domLocked (1 - s.get Reg.TIME_PRES_CTRL_PREFERRED) then some (1 - s.get Reg.TIME_PRES_CTRL_PREFERRED)
      else none) = some d := by
  by_cases he : d = s.get Reg.TIME_PRES_CTRL_PREFERRED
  · rw [← he, if_pos hl]
  · obtain ho := hc.resolve_left he
    have hpref : s.get Reg.TIME_PRES_CTRL_PREFERRED = 1 - d := by omega
    have hback : 1 - (1 - d) = d := by omega
    rw [hpref, if_neg (by simp [ho]), hback, if_pos hl]

theorem presTransition_of_holdover {x : Nat} (h : s.time.pres.mode = .holdover x) (hd : d < 2)
    (hp : s.get Reg.TIME_PRES_CTRL_PREFERRED < 2) (hl : s.domLocked d = true)
    (hc : d = s.get Reg.TIME_PRES_CTRL_PREFERRED ∨ s.domLocked (1 - d) = false) :
    s.presTransition = (s.followFrom d).syncTime := by
  unfold State.presTransition
  dsimp only
  rw [h]
  dsimp only
  rw [choice_eq hd hp hl hc]

theorem presTransition_of_none (h : s.time.pres.mode = .none) (hd : d < 2) (hp : s.get Reg.TIME_PRES_CTRL_PREFERRED < 2)
    (hl : s.domLocked d = true) (hc : d = s.get Reg.TIME_PRES_CTRL_PREFERRED ∨ s.domLocked (1 - d) = false) :
    s.presTransition = (((s.setPres { s.time.pres with mode := .follow d, now := (s.dom d).now, err := 0 }).on
      Reg.TIME_PRES_STATUS_STEPPED).off Reg.STAMP_LL_STATUS_SUSPENDED).syncTime := by
  unfold State.presTransition
  dsimp only
  rw [h]
  dsimp only
  rw [choice_eq hd hp hl hc]

end Transition

/-! ### One cycle -/

section Cycle

variable (s : State)

/-- The transition moves presentation time and nothing else of the time core. -/
theorem presTransition_time : s.presTransition.time = { s.time with pres := s.presTransition.time.pres } := by
  have hfollow (d : Nat) : (s.followFrom d).time = { s.time with pres := (s.followFrom d).time.pres } := by
    unfold State.followFrom
    dsimp only
    split
    · rfl
    · rw [on_time, setPres_time]
  unfold State.presTransition
  extract_lets pref choice _ t
  rw [syncTime_time]
  subst t
  clear_value choice
  split
  · split
    · rw [off_time, on_time, setPres_time]
    · rfl
  · split
    · rfl
    split
    · exact hfollow _
    · rw [on_time, setPres_time]
  · split
    · exact hfollow _
    · rfl

/-- What the end of a cycle does after the transition. -/
theorem frame_endRest : s.presTransition.only s.endCycle [.ports, .counters, .events, .reck, .buf, .host, .pair]
    (regsOf ["CNT_HALF_LO", "CNT_HALF_HI", "STAMP_RET_STATUS", "STAMP_LOST_CNT", "RING_DEV_INDEX", "BUF_WITHDRAWN",
      "RING_CFG"]) := by
  unfold State.endCycle
  dsimp only
  refine only_then (only_foldl State.trimStamps (fun u p => ?_) _ s.presTransition) (only_widen (frame_withdrawCheck _) ?_ ?_)
  · exact only_widen (frame_trimStamps u p) (by decide) (by decide)
  · decide
  · decide

theorem endCycle_time : s.endCycle.time = s.presTransition.time := (frame_endRest s).1 .time (by decide)

/-- What stands when the clocks run: the end of the cycle has been settled. -/
def State.settledCycle : State := s.endCycle.obsTick

theorem settledCycle_pres : s.settledCycle.time.pres = s.presTransition.time.pres := by
  rw [State.settledCycle, pres_of_only (frame_obsTick _), endCycle_time]

theorem settledCycle_sameRates : s.sameRates s.settledCycle := by
  have hend : s.sameRates s.endCycle := .of_only (frame_endCycle s) (ht := by rw [endCycle_time]; exact presTransition_time s)
  have hobs : s.settledCycle.time = s.endCycle.time := (frame_obsTick s.endCycle).1 .time (by decide)
  exact hend.trans (.of_only (frame_obsTick _) (ht := by rw [hobs]))

variable {s} in
/-- A step with no command waiting. -/
theorem step_idle (hr : s.running = true) (hp : s.pending = []) : step s = .next s.settledCycle.tickClocks.settle := by
  rw [step_of_nil hp, State.tick, if_pos hr]
  rfl

/-- The status of presentation time stands from the transition on. -/
theorem get_settledCycle_presStatus {a : Access} {f : Fld}
    (hf : (a, f) ∈ (famsPage4[19]).fields 0 0) : s.settledCycle.get f = s.presTransition.get f := by
  rw [State.settledCycle, kept_of_only (frame_obsTick s.endCycle) 4 0 0 (List.mem_of_getElem? (i := 19) rfl) hf (by simp)]
  exact kept_of_only (frame_endRest s) 4 0 0 (List.mem_of_getElem? (i := 19) rfl) hf (by simp)

/-- The transition's own status bits stay when the status fields are brought up to date. -/
theorem get_syncTime_event {f : Fld} (h : f ∈ [Reg.TIME_PRES_STATUS_STEPPED, Reg.TIME_PRES_STATUS_HOLDOVER_ENTERED,
    Reg.TIME_PRES_STATUS_MOVED]) : s.syncTime.get f = s.get f := by
  simp only [List.mem_cons, List.not_mem_nil, or_false] at h
  rcases h with rfl | rfl | rfl
  all_goals simp (disch := decide) only [State.syncTime, get_set_ne, get_setB_ne]

variable {s}

theorem presNext_of_follow {d : Nat} (h : s.time.pres.mode = .follow d) : s.presNext =
    { s.time.pres with
      err := s.time.pres.err - slewStep s.time.pres.err (s.baseRate d * s.get Reg.TIME_PRES_CTRL_SLEW_MAX)
      now := (((s.domNext d).now : Int) + (s.time.pres.err -
        slewStep s.time.pres.err (s.baseRate d * s.get Reg.TIME_PRES_CTRL_SLEW_MAX))).toNat } := by
  rw [State.presNext]
  dsimp only
  rw [h]

theorem presNext_of_holdover {d : Nat} (h : s.time.pres.mode = .holdover d) : s.presNext =
    { s.time.pres with now := s.time.pres.now + s.time.pres.holdInc } := by
  rw [State.presNext]
  dsimp only
  rw [h]

/-- A cycle at whose end presentation time follows a domain. -/
theorem settledCycle_follows {p : PresSt} {d : Nat} (h : s.presTransition.time.pres = p) (hm : p.mode = .follow d) :
    s.settledCycle.presNext.mode = .follow d ∧
    s.settledCycle.presNext.err = p.err - slewStep p.err (s.baseRate d * s.get Reg.TIME_PRES_CTRL_SLEW_MAX) ∧
    (s.settledCycle.presNext.now : Int) = max 0 ((s.domNext d).now + s.settledCycle.presNext.err) := by
  have hrates := settledCycle_sameRates s
  have hp : s.settledCycle.time.pres = p := (settledCycle_pres s).trans h
  have hnext := presNext_of_follow (s := s.settledCycle) (d := d) (by rw [hp, hm])
  rw [hp, hrates.domNext, hrates.baseRate, hrates.presSlew] at hnext
  rw [hnext]
  exact ⟨hm, rfl, by rw [Int.toNat_eq_max, max_comm]⟩

end Cycle

/-! ### The obligation -/

section Obligation

variable {s : State} {d : Nat} (hr : s.running = true) (hp : s.pending = [])
include hr hp

/-- From a domain or HOLDOVER presentation time goes on from the value that stood. -/
theorem step_followFrom (h : s.presTransition = (s.followFrom d).syncTime) : ∃ t, step s = .next t ∧
    t.time.pres.mode = .follow d ∧
    t.time.pres.err = (s.time.pres.now - (s.dom d).now : Int) -
      slewStep (s.time.pres.now - (s.dom d).now) (s.baseRate d * s.get Reg.TIME_PRES_CTRL_SLEW_MAX) ∧
    (t.time.pres.now : Int) = max 0 ((s.domNext d).now + t.time.pres.err) ∧
    t.bit Reg.TIME_PRES_STATUS_HOLDOVER_ENTERED = s.bit Reg.TIME_PRES_STATUS_HOLDOVER_ENTERED := by
  have hpres := (congrArg (·.time.pres) h).trans ((congrArg TimeSt.pres (syncTime_time _)).trans (followFrom_pres s d))
  obtain ⟨hmode, herr, hnow⟩ := settledCycle_follows hpres rfl
  refine ⟨_, step_idle hr hp, hmode, herr, hnow, ?_⟩
  have hstatus : s.settledCycle.get Reg.TIME_PRES_STATUS_HOLDOVER_ENTERED = s.get Reg.TIME_PRES_STATUS_HOLDOVER_ENTERED := by
    rw [get_settledCycle_presStatus s (a := .w1c) (by simp [famsPage4]), h, get_syncTime_event _ (by simp)]
    unfold State.followFrom
    dsimp only
    split
    · rfl
    · exact get_on_ne _ (by decide)
  exact congrArg (· != 0) hstatus

end Obligation

/-- Settles O19: no command moves presentation time but into NONE or at its value, and the cycle's end takes each transition from the
value that stood. -/
theorem noCommandStepsPresentationTime : Obligations.NoCommandStepsPresentationTime := by
  unfold Obligations.NoCommandStepsPresentationTime
  refine ⟨fun c s t _ h ht => (exec_keepsPres c s t h).now ht, fun s d hr hp hd => ⟨fun hm hl => ?_, fun hm hn hl => ?_,
    fun hm hn ho => ?_, fun hm hpref hl hc => ?_⟩⟩
  · have hpres := congrArg (·.time.pres) (presTransition_of_locked hm hl)
    obtain ⟨hmode, -, hnow⟩ := settledCycle_follows (hpres.trans (congrArg TimeSt.pres (syncTime_time s))) hm
    exact ⟨_, step_idle hr hp, hmode, hnow⟩
  · exact step_followFrom hr hp (presTransition_of_other hm hn hd hl)
  · have htrans := presTransition_of_neither hm hn ho
    have hpres : s.settledCycle.time.pres = { s.time.pres with mode := .holdover d, holdInc := s.baseRate d * 1000000, err := 0 } := by
      rw [settledCycle_pres, htrans, syncTime_time, on_time, setPres_time]
    have hnext := presNext_of_holdover (s := s.settledCycle) (d := d) (by rw [hpres])
    rw [hpres] at hnext
    refine ⟨_, step_idle hr hp, congrArg PresSt.mode hnext, ?_, congrArg PresSt.now hnext⟩
    have hstatus : s.settledCycle.get Reg.TIME_PRES_STATUS_HOLDOVER_ENTERED = 1 := by
      rw [get_settledCycle_presStatus s (a := .w1c) (by simp [famsPage4]), htrans, get_syncTime_event _ (by simp)]
      exact get_on_self _ _ (by decide)
    exact (congrArg (· != 0) hstatus).trans rfl
  · have htrans : s.presTransition = (s.followFrom d).syncTime := by
      rcases hm with hm | hm <;> exact presTransition_of_holdover hm hd hpref hl hc
    obtain ⟨t, hstep, hmode, -, hnow, -⟩ := step_followFrom hr hp htrans
    exact ⟨t, hstep, hmode, hnow⟩

end Sys2Proof.Machine
end

section
/-! The block as a whole: what stands after reset, and one clock cycle (R44, log 1, log 4, log 5). -/

-- One proof at a time: side by side they take more threads than the memory bound of the check leaves room for.
set_option Elab.async false

namespace Sys2Proof.Machine

/-! ### After reset -/

theorem reset_pinsFollow : State.reset.pinsFollow := by
  unfold State.pinsFollow
  decide +kernel

theorem reset_funcUp (f : Func) : State.reset.funcUp f = (f != .dram) := by cases f <;> rfl

/-- Settles O3: what the reset state holds, read off it. -/
theorem resetPinsFollow : Obligations.ResetPinsFollow :=
  ⟨reset_pinsFollow, rfl, rfl, rfl, reset_funcUp, rfl, rfl, rfl, fun _ h => by cases h⟩

/-! ### One clock cycle -/

/-- Presentation time moves on alike where the clocks stand alike. -/
theorem State.sameRates.presNext {s t : State} (h : s.sameRates t) (hp : t.time.pres = s.time.pres) : t.presNext = s.presNext := by
  simp only [State.presNext, hp, h.domNext, h.baseRate, h.presSlew]

section Cycle

variable (s : State)

theorem presTransition_sameRates : s.sameRates s.presTransition := .of_only (frame_presTransition s) (ht := presTransition_time s)

theorem settledCycle_presNext : s.settledCycle.presNext = s.presTransition.presNext := by
  have hold : s.presTransition.sameRates s.settledCycle :=
    ⟨by rw [(settledCycle_sameRates s).domA, (presTransition_sameRates s).domA],
      by rw [(settledCycle_sameRates s).domB, (presTransition_sameRates s).domB],
      by rw [(settledCycle_sameRates s).trefA, (presTransition_sameRates s).trefA],
      by rw [(settledCycle_sameRates s).trefB, (presTransition_sameRates s).trefB],
      fun d => by rw [(settledCycle_sameRates s).sel, (presTransition_sameRates s).sel],
      fun d => by rw [(settledCycle_sameRates s).slew, (presTransition_sameRates s).slew],
      fun d => by rw [(settledCycle_sameRates s).freq, (presTransition_sameRates s).freq],
      by rw [(settledCycle_sameRates s).presSlew, (presTransition_sameRates s).presSlew]⟩
  exact hold.presNext (settledCycle_pres s)

/-- Counting edges moves the edge counters of the observation pins and nothing else. -/
theorem obsTick_plat : s.obsTick.plat = { s.plat with edges := s.obsTick.plat.edges } := by
  unfold State.obsTick
  split <;> rfl

theorem frame_settledCycle : s.only s.settledCycle [.time, .ports, .counters, .events, .reck, .buf, .host, .pair, .plat]
    (regsOf ["CNT_HALF_LO", "CNT_HALF_HI", "TIME_DOM_PHASE_LEFT", "TIME_DOM_STATUS", "TIME_PRES_STATUS", "STAMP_LL_STATUS",
      "STAMP_RET_STATUS", "STAMP_LOST_CNT", "BUF_WITHDRAWN", "RING_CFG", "RING_DEV_INDEX"]) :=
  only_then (only_widen (frame_endCycle s) (by decide) (by decide)) (only_widen (frame_obsTick _) (by decide) (by decide))

theorem settledCycle_plat : s.settledCycle.plat = { s.plat with edges := s.settledCycle.plat.edges } := by
  have hend : s.endCycle.plat = s.plat := (frame_endCycle s).1 .plat (by decide)
  exact (obsTick_plat s.endCycle).trans (by rw [hend]; rfl)

variable {s}

/-- Without a stamp too many and without a block that waits for its last bead the cycle ends with the transition alone. -/
theorem endCycle_eq (h : ∀ e ∈ s.ports, e.2.stamps.length ≤ 16) (hw : s.buf.withdrawing = none) :
    s.endCycle = s.presTransition := by
  have hports : s.presTransition.ports = s.ports := (frame_presTransition s).1 .ports (by decide)
  have hbuf : s.presTransition.buf = s.buf := (frame_presTransition s).1 .buf (by decide)
  have hfull : s.presTransition.ports.filter (fun e => decide (16 < e.2.stamps.length)) = [] :=
    List.filter_eq_nil_iff.mpr fun e he => by simpa using h e (hports ▸ he)
  unfold State.endCycle
  dsimp only
  rw [hfull, List.map_nil, List.foldl_nil, State.withdrawCheck, hbuf, hw]

/-- The frame of a cycle from that of its end. -/
theorem only_cycle {P : List Part} {m : Keys} (h : s.only s.settledCycle P m) :
    s.only s.settledCycle.tickClocks.settle (.cycle :: .time :: P) m := by
  have htick := only_mono (frame_tickClocks s.settledCycle) (Q := .cycle :: .time :: P) (n := m) (by simp) (by simp [regsOf])
  exact only_settled (only_then (only_mono h (by simp +contextual) (fun _ => id)) htick)

theorem only_cycle_of_endCycle {P : List Part} {m : Keys} (h : s.only s.endCycle P m) :
    s.only s.settledCycle.tickClocks.settle (.cycle :: .time :: .plat :: P) m :=
  only_cycle (only_then (only_mono h (by simp +contextual) (fun _ => id))
    (only_mono (frame_obsTick s.endCycle) (by simp) (by simp [regsOf])))

end Cycle

/-- Settles O2: the cycle's end leaves the rates and the domains, and each later step of the cycle has its own frame. -/
theorem idleStepIsOneClockCycle : Obligations.IdleStepIsOneClockCycle := by
  unfold Obligations.IdleStepIsOneClockCycle
  refine fun s hp => ⟨fun hr => ⟨_, step_idle hr hp, ?_, ?_, ?_, ?_, ?_, ?_, fun hs hw => ?_, fun hs hw ht => ?_⟩, fun hr => ?_⟩
  · exact congrArg (· + 1) ((frame_settledCycle s).1 .cycle (by decide))
  · exact (settledCycle_sameRates s).domNext 0
  · exact (settledCycle_sameRates s).domNext 1
  · exact settledCycle_presNext s
  · exact settledCycle_plat s
  · exact only_mono (only_cycle (frame_settledCycle s)) (by decide) fun _ => regsOf_mono (by decide)
  · have hend := endCycle_eq hs hw
    exact only_mono (only_cycle_of_endCycle (hend ▸ frame_presTransition s)) (by decide) fun _ => regsOf_mono (by decide)
  · have hend := (endCycle_eq hs hw).trans ht
    have hsame : s.only s.endCycle [] (keysOf []) := by
      rw [hend]
      exact only_refl s
    exact only_mono (only_cycle_of_endCycle hsame) (by decide) fun _ => id
  · rw [step_of_nil hp, State.tick, if_neg (by simp [hr])]
    exact ⟨_, rfl, only_settle s⟩

end Sys2Proof.Machine
end

section
/-! Presentation time reverts to the preferred domain (R120, R121, R124). -/

-- One proof at a time: side by side they take more threads than the memory bound of the check leaves room for.
set_option Elab.async false

namespace Sys2Proof.Machine

section Revert

variable {s : State} {p : Nat}

/-- The move notes MOVED exactly when e is not 0. -/
theorem followFrom_moved (s : State) (d : Nat) (h : s.bit Reg.TIME_PRES_STATUS_MOVED = false) :
    (s.followFrom d).bit Reg.TIME_PRES_STATUS_MOVED = ((s.time.pres.now : Int) != (s.dom d).now) := by
  unfold State.followFrom
  dsimp only
  split
  next he =>
    have hnow : (s.time.pres.now : Int) = (s.dom d).now := by omega
    rw [hnow, bne_self_eq_false]
    exact h
  next he =>
    have hnow : (s.time.pres.now : Int) ≠ (s.dom d).now := by omega
    rw [State.bit, get_on_self _ _ le_rfl]
    exact (bne_iff_ne.mpr hnow).symm

theorem presRevert_of_due (hp : s.get Reg.TIME_PRES_CTRL_PREFERRED = p) (hr : s.bit Reg.TIME_PRES_CTRL_REVERT = true)
    (hm : s.time.pres.mode = .follow (1 - p)) (hl : s.domLocked p = true)
    (hc : (s.dom p).lockedAt + s.get Reg.TIME_PRES_CTRL_REVERT_S * 1000 * msCycles ≤ s.cycle) :
    s.presRevert = (s.followFrom p).syncTime := by
  unfold State.presRevert
  dsimp only
  rw [hp, if_pos (by simp [hr, hm, hl, hc])]

end Revert

/-- Settles O20: the move keeps the value, starts e at the difference and touches no domain; the end of the move is one bit. -/
theorem presentationTimeRevertsWithoutAStep : Obligations.PresentationTimeRevertsWithoutAStep := by
  unfold Obligations.PresentationTimeRevertsWithoutAStep
  refine fun s hrun => ⟨fun p _ hp hr hm hl hc hmoved => ?_, fun hmoving => ?_⟩
  · have heq := presRevert_of_due hp hr hm hl hc
    have htime : s.presRevert.time = (s.followFrom p).time := by rw [heq, syncTime_time]
    have hdomains : (s.followFrom p).time.domA = s.time.domA ∧ (s.followFrom p).time.domB = s.time.domB := by
      unfold State.followFrom
      dsimp only
      split
      · exact ⟨rfl, rfl⟩
      · rw [on_time, setPres_time]
        exact ⟨rfl, rfl⟩
    have hpres := (congrArg TimeSt.pres htime).trans (followFrom_pres s p)
    refine ⟨_, whenUp_running hrun _, ?_, ?_, ?_, ?_,
      (congrArg TimeSt.domA htime).trans hdomains.1, (congrArg TimeSt.domB htime).trans hdomains.2, ?_⟩
    · rw [settle_time, hpres]
    · rw [settle_time, hpres]
    · rw [settle_time, hpres]
    · have hbit : s.presRevert.bit Reg.TIME_PRES_STATUS_MOVED = (s.followFrom p).bit Reg.TIME_PRES_STATUS_MOVED := by
        rw [State.bit, State.bit, heq, get_syncTime_event _ (by simp)]
      exact hbit.trans (followFrom_moved s p hmoved)
    · exact only_settled (only_widen (frame_presRevert s) (by decide) (by decide))
  · have hdone : s.moveDone = s.off Reg.TIME_PRES_STATUS_MOVING := if_neg (by simp [hmoving])
    refine ⟨_, whenUp_running hrun _, ?_, ?_⟩
    · rw [hdone, get_settle, get_off_self]
    · rw [hdone]
      exact only_settled (only_set s _ 0)

end Sys2Proof.Machine
end

section
/-! Lock: the host declares it, the device withdraws it (R113 to R116, R119). -/

-- One proof at a time: side by side they take more threads than the memory bound of the check leaves room for.
set_option Elab.async false

namespace Sys2Proof.Machine

/-! ### The fields of a register that a write stores -/

section StoreFields

variable (s : State) (v : Nat)

@[simp] theorem storeFields_nil : s.storeFields [] v = s := rfl

@[simp] theorem storeFields_rw (f : Fld) (l : List (Access × Fld)) :
    s.storeFields ((.rw, f) :: l) v = (s.set f (bits v f.lo f.width)).storeFields l v := rfl

@[simp] theorem storeFields_w1c (f : Fld) (l : List (Access × Fld)) :
    s.storeFields ((.w1c, f) :: l) v = (s.set f (s.get f - (s.get f &&& bits v f.lo f.width))).storeFields l v := rfl

@[simp] theorem storeFields_ro (f : Fld) (l : List (Access × Fld)) : s.storeFields ((.ro, f) :: l) v = s.storeFields l v := rfl

@[simp] theorem storeFields_wo (f : Fld) (l : List (Access × Fld)) : s.storeFields ((.wo, f) :: l) v = s.storeFields l v := rfl

@[simp] theorem storeFields_rc (f : Fld) (l : List (Access × Fld)) : s.storeFields ((.rc, f) :: l) v = s.storeFields l v := rfl

/-- Storing the fields of a register moves no part of the state and no other field. -/
theorem only_storeFields (l : List (Access × Fld)) : ∀ s : State, s.only (s.storeFields l v) [] (keysOf (l.map (·.2))) := by
  induction l with
  | nil => exact only_refl
  | cons e l ih =>
    intro s
    obtain ⟨a, f⟩ := e
    have hrest (x : Nat) : s.only ((s.set f x).storeFields l v) [] (keysOf (f :: l.map (·.2))) :=
      only_then (only_mono (only_set s f x) (by simp) (by simp +contextual [keysOf]))
        (only_mono (ih _) (by simp) (by simp +contextual [keysOf]))
    have hkept : s.only (s.storeFields l v) [] (keysOf (f :: l.map (·.2))) :=
      only_mono (ih s) (by simp) (by simp +contextual [keysOf])
    cases a with
    | rw | w1c => exact hrest _
    | ro | rc | wo => exact hkept

theorem storeFields_time (l : List (Access × Fld)) : (s.storeFields l v).time = s.time := (only_storeFields v l s).1 .time (by simp)

theorem storeFields_cycle (l : List (Access × Fld)) : (s.storeFields l v).cycle = s.cycle :=
  (only_storeFields v l s).1 .cycle (by simp)

end StoreFields

/-- The fields of a register are among those of its name. -/
theorem regsOf_of_fields {L : List String} {r : RegFam} (p n i j : Nat) (hr : (famsOfPage p)[n]? = some r) (hl : r.name ∈ L) {k : Nat}
    (hk : keysOf ((r.fields i j).map (·.2)) k) : regsOf L k := by
  obtain ⟨f, hf, rfl⟩ := List.mem_map.mp hk
  obtain ⟨⟨a, g⟩, he, rfl⟩ := List.mem_map.mp hf
  exact regsOf_mem p n i j r a hr hl he

/-- The bits of fields given by their lowest bits and widths. -/
def placesMask (l : List (Nat × Nat)) : Nat := l.foldl (fun m e => m ||| (2 ^ e.2 - 1) <<< e.1) 0

theorem definedBits_eq_placesMask (l : List (Access × Fld)) :
    definedBits l = placesMask (l.map fun e => (e.2.lo, e.2.width)) := by
  simp only [definedBits, placesMask, List.foldl_map]

theorem bit_of_get_one {s : State} {f : Fld} (h : s.get f = 1) : s.bit f = true := by rw [State.bit, h]; rfl

theorem bit_of_get_zero {s : State} {f : Fld} (h : s.get f = 0) : s.bit f = false := by rw [State.bit, h]; rfl

/-- A one-bit field of a word. -/
theorem bits_one (w i : Nat) : bits w i 1 = b2n (bitOf w i) := by
  rw [bits, bitOf, Nat.testBit_eq_decide_div_mod_eq, Nat.shiftRight_eq_div_pow, b2n]
  have : w / 2 ^ i % 2 < 2 := Nat.mod_lt _ (by decide)
  split <;> simp_all

/-! ### A write that declares lock -/

/-- The fields of TIME_DOM_CTRL (Table 4-6). -/
def domCtrlFields (d : Nat) : List (Access × Fld) :=
  [(.rw, Reg.TIME_DOM_CTRL_WDOG_MS d), (.rw, Reg.TIME_DOM_CTRL_SLEW_MAX d), (.rw, Reg.TIME_DOM_CTRL_TREF_SEL d),
    (.rw, Reg.TIME_DOM_CTRL_PPS_EN d), (.rw, Reg.TIME_DOM_CTRL_TRACEABLE d), (.rw, Reg.TIME_DOM_CTRL_LOCKED d)]

theorem definedBits_domCtrl (d : Nat) : definedBits (domCtrlFields d) = 0xFFFFFF37 :=
  (definedBits_eq_placesMask _).trans (by change placesMask [(16, 16), (8, 8), (4, 2), (2, 1), (1, 1), (0, 1)] = _; decide)

/-- Turning PPS on restarts the watch for the next edge; `old` is the state before the write. -/
def State.ppsRestart (old s : State) (d v : Nat) : State :=
  if !old.bit (Reg.TIME_DOM_CTRL_PPS_EN d) && bitOf v 2 then s.setDom d { s.dom d with lastPps := (s.dom d).now } else s

/-- A write of LOCKED = 1 to an unlocked domain that is taken: the declaration counts unless the lock was cleared in this cycle. -/
def State.lockTaken (s : State) (d v : Nat) : State :=
  let u := s.ppsRestart (s.storeFields (domCtrlFields d) v) d v
  State.syncTime (if (s.dom d).clearedAt = some s.cycle then u.off (Reg.TIME_DOM_CTRL_LOCKED d)
    else u.setDom d { u.dom d with lockWriteAt := s.cycle, lockedAt := s.cycle })

section Lock

variable {s : State} {d v : Nat}

theorem ppsRestart_cases (old s : State) (d v : Nat) :
    old.ppsRestart s d v = s ∨ old.ppsRestart s d v = s.setDom d { s.dom d with lastPps := (s.dom d).now } := by
  unfold State.ppsRestart
  split
  · exact .inr rfl
  · exact .inl rfl

theorem timeEffect_lock (hd : d < 2) (hv : bitOf v 0 = true) (hl : s.bit (Reg.TIME_DOM_CTRL_LOCKED d) = false) :
    timeEffect s (s.storeFields (domCtrlFields d) v) (0x80 * d) v = s.lockTaken d v := by
  have hdiv : 0x80 * d / 0x80 = d := by omega
  have hmod : 0x80 * d % 0x80 = 0 := by omega
  have hdom : (s.storeFields (domCtrlFields d) v).dom d = s.dom d := dom_of_time (storeFields_time ..) d
  have hcycle : (s.ppsRestart (s.storeFields (domCtrlFields d) v) d v).cycle = s.cycle := by
    unfold State.ppsRestart
    split <;> exact storeFields_cycle ..
  unfold timeEffect State.lockTaken
  rw [if_pos (by omega), hdiv, hmod]
  dsimp only
  rw [hv, hl, hdom]
  simp only [Bool.not_false, Bool.and_self, if_true]
  unfold State.ppsRestart at hcycle ⊢
  rw [hdom] at hcycle ⊢
  rw [hcycle]

/-- The fields as the write stores them. -/
theorem get_storeFields_locked (s : State) (hv : bitOf v 0 = true) :
    (s.storeFields (domCtrlFields d) v).get (Reg.TIME_DOM_CTRL_LOCKED d) = 1 := by
  simp only [domCtrlFields, storeFields_rw, storeFields_nil, get_set_self]
  simp [Reg.TIME_DOM_CTRL_LOCKED, bits_one, hv, b2n]

theorem get_storeFields_traceable (s : State) (hd : d < 2) :
    (s.storeFields (domCtrlFields d) v).get (Reg.TIME_DOM_CTRL_TRACEABLE d) = b2n (bitOf v 1) := by
  have hbit : bits v 1 1 % 2 ^ 1 = b2n (bitOf v 1) := by
    rw [bits_one]
    cases bitOf v 1 <;> rfl
  obtain rfl | rfl : d = 0 ∨ d = 1 := by omega
  all_goals
    simp (disch := decide) only [domCtrlFields, storeFields_rw, storeFields_nil, get_set_ne, get_set_self]
    exact hbit

theorem get_ppsRestart (old s : State) (d v : Nat) (f : Fld) : (old.ppsRestart s d v).get f = s.get f := by
  unfold State.ppsRestart
  split <;> rfl

theorem everSet_ppsRestart (old s : State) (d v : Nat) : ((old.ppsRestart s d v).dom d).everSet = (s.dom d).everSet := by
  obtain h | h := ppsRestart_cases old s d v
  · rw [h]
  · rw [h, dom_setDom_self]

theorem pres_ppsRestart (old s : State) (d v : Nat) : (old.ppsRestart s d v).time.pres = s.time.pres := by
  obtain h | h := ppsRestart_cases old s d v
  · rw [h]
  · rw [h, setDom_pres]

theorem lockTaken_pres (s : State) (d v : Nat) : (s.lockTaken d v).time.pres = s.time.pres := by
  unfold State.lockTaken
  dsimp only
  rw [syncTime_time]
  split
  · rw [off_time, pres_ppsRestart, storeFields_time]
  · rw [setDom_pres, pres_ppsRestart, storeFields_time]

theorem only_lockTaken (s : State) (d v : Nat) : s.only (s.lockTaken d v) [.time]
    (regsOf ["TIME_DOM_CTRL", "TIME_DOM_STATUS", "TIME_DOM_PHASE_LEFT", "TIME_PRES_STATUS"]) := by
  have hfields : ∀ k, keysOf ((domCtrlFields d).map (·.2)) k →
      regsOf ["TIME_DOM_CTRL", "TIME_DOM_STATUS", "TIME_DOM_PHASE_LEFT", "TIME_PRES_STATUS"] k := by
    intro k hk
    exact regsOf_of_fields 4 0 d 0 rfl (by simp) hk
  have hstored := only_mono (only_storeFields v (domCtrlFields d) s) (Q := [.time]) (by simp) hfields
  have hrestart : s.only (s.ppsRestart (s.storeFields (domCtrlFields d) v) d v) [.time]
      (regsOf ["TIME_DOM_CTRL", "TIME_DOM_STATUS", "TIME_DOM_PHASE_LEFT", "TIME_PRES_STATUS"]) := by
    obtain h | h := ppsRestart_cases s (s.storeFields (domCtrlFields d) v) d v
    · rwa [h]
    · rw [h]
      exact keep_setDom _ _ hstored (by simp)
  refine keep_of (frame_syncTime _) ?_ (by simp) (by simp)
  split
  · exact keep_off _ hrestart (regsOf_mem 4 0 d 0 _ .rw rfl (by simp) (by simp))
  · exact keep_setDom _ _ hrestart (by simp)

theorem get_syncTime_traceable (s : State) (d : Nat) :
    s.syncTime.get (Reg.TIME_DOM_CTRL_TRACEABLE d) = s.get (Reg.TIME_DOM_CTRL_TRACEABLE d) :=
  kept_of_only (frame_syncTime s) (a := .rw) 4 d 0 (List.mem_of_getElem? (i := 0) rfl) (by simp) (by simp)

theorem domLock_eq (he : (s.dom d).everSet = true) (hl : s.get (Reg.TIME_DOM_CTRL_LOCKED d) = 1)
    (ht : s.get (Reg.TIME_DOM_CTRL_TRACEABLE d) = b2n (bitOf v 1)) : s.domLock d = if bitOf v 1 then 3 else 2 := by
  simp only [State.domLock, State.bit, he, hl, ht]
  cases bitOf v 1 <;> rfl

theorem domLocked_of_unlocked (hl : s.get (Reg.TIME_DOM_CTRL_LOCKED d) = 0) : s.domLocked d = false := by
  simp only [State.domLocked, State.domLock, State.bit, hl]
  split <;> rfl

/-- A declaration that counts locks the domain. -/
theorem domLock_lockTaken (hd : d < 2) (hv : bitOf v 0 = true) (he : (s.dom d).everSet = true)
    (hc : (s.dom d).clearedAt ≠ some s.cycle) : (s.lockTaken d v).domLock d = if bitOf v 1 then 3 else 2 := by
  have hstored : ((s.storeFields (domCtrlFields d) v).dom d).everSet = true := by
    rw [dom_of_time (storeFields_time ..) d, he]
  unfold State.lockTaken
  dsimp only
  rw [if_neg hc]
  refine domLock_eq ?_ ?_ ?_
  · rw [syncTime_dom, dom_setDom_self]
    exact (everSet_ppsRestart ..).trans hstored
  · rw [get_syncTime_locked]
    exact (get_ppsRestart ..).trans (get_storeFields_locked s hv)
  · rw [get_syncTime_traceable]
    exact (get_ppsRestart ..).trans (get_storeFields_traceable s hd)

theorem lockWriteAt_lockTaken (hc : (s.dom d).clearedAt ≠ some s.cycle) : ((s.lockTaken d v).dom d).lockWriteAt = s.cycle := by
  unfold State.lockTaken
  dsimp only
  rw [if_neg hc, syncTime_dom, dom_setDom_self]

/-- In the very cycle of a clear the clear wins. -/
theorem get_lockTaken_of_cleared (hc : (s.dom d).clearedAt = some s.cycle) :
    (s.lockTaken d v).get (Reg.TIME_DOM_CTRL_LOCKED d) = 0 := by
  unfold State.lockTaken
  dsimp only
  rw [if_pos hc, get_syncTime_locked, get_off_self]

end Lock

@[simp] theorem answered_domLock (s : State) (st : Status) (d : Nat) : (s.answered st).domLock d = s.domLock d := rfl

@[simp] theorem answered_domLocked (s : State) (st : Status) (d : Nat) : (s.answered st).domLocked d = s.domLocked d := rfl

/-! ### The command -/

section Declare

variable {s : State} {d v : Nat} (hs : s.served) (hu : s.funcUp .time = true) (hd : d < 2) (hv : v < 2 ^ 32)
variable (hw : within v 0xFFFFFF37 = true) (h0 : bitOf v 0 = true) (hmin : 1 ≤ bits v 8 8) (hmax : bits v 8 8 ≤ 250)
variable (hsel : bits v 4 2 ≠ 3) (hl : s.bit (Reg.TIME_DOM_CTRL_LOCKED d) = false)

include hd h0 hmin hmax hsel hl in
theorem timeCheck_lock : timeCheck s (0x80 * d) v =
    if (!(s.dom d).everSet) || (s.dom d).setPending.isSome || (bits v 4 2 != 2 && !s.trefGood d) then .busy else .ok := by
  have hdiv : 0x80 * d / 0x80 = d := by omega
  have hmod : 0x80 * d % 0x80 = 0 := by omega
  have hlock : (s.domLock d == 0) = !(s.dom d).everSet := by
    simp only [State.domLock, hl]
    cases (s.dom d).everSet <;> rfl
  have hrange : (decide (bits v 8 8 < 1) || decide (bits v 8 8 > 250) || bits v 4 2 == 3) = false := by
    simp [hsel]
    omega
  unfold timeCheck
  rw [if_pos (by omega), hdiv, hmod]
  dsimp only
  rw [hrange, hl, h0, hlock]
  simp

include hs hu hd hv hw h0 hmin hmax hsel hl

theorem exec_lockDeclare_ok (he : (s.dom d).everSet = true) (hp : (s.dom d).setPending = none)
    (hg : bits v 4 2 = 2 ∨ s.trefGood d = true) : exec (.lockDeclare d v) s = .next ((s.lockTaken d v).answered .ok) := by
  have hcheck : timeCheck s (0x80 * d) v = .ok := by
    rw [timeCheck_lock hd h0 hmin hmax hsel hl, he, hp]
    obtain hg | hg := hg <;> simp [hg]
  have heff := timeEffect_lock (v := v) hd h0 hl
  have hwarm := get_warmReset_of_only (only_lockTaken s d v) (by simp)
  rw [← heff] at hwarm
  have hwrite := timeWrite_ok hs hu (addr := 0x400000 + 0x80 * d) (off := 0x80 * d) rfl (by omega)
    (regIs_TIME_DOM_CTRL hd) hv ((definedBits_domCtrl d).symm ▸ hw) rfl hcheck (hwarm.trans (get_warmReset_of_served hs))
  rw [← heff]
  exact (onObject_ok hd _).trans hwrite

theorem exec_lockDeclare_busy (h : (s.dom d).everSet = false ∨ (s.dom d).setPending ≠ none ∨
    (bits v 4 2 ≠ 2 ∧ s.trefGood d = false)) : exec (.lockDeclare d v) s = .next (s.answered .busy) := by
  have hcheck : timeCheck s (0x80 * d) v = .busy := by
    rw [timeCheck_lock hd h0 hmin hmax hsel hl, if_pos]
    rcases h with h | h | ⟨h, hg⟩
    · simp [h]
    · simp [Option.isSome_iff_ne_none.mpr h]
    · simp [h, hg]
  exact (onObject_ok hd _).trans (timeWrite_refused hs hu (addr := 0x400000 + 0x80 * d) (off := 0x80 * d) rfl (by omega)
    (regIs_TIME_DOM_CTRL hd) hv ((definedBits_domCtrl d).symm ▸ hw) rfl hcheck (by simp))

end Declare

/-! ### The watchdog -/

section Watchdog

variable {s : State} {d : Nat}

/-- What the expiry of a servo's watchdog leaves. -/
def State.wdogExpired (s : State) (d : Nat) : State :=
  let u := s.unlock d (Reg.TIME_DOM_STATUS_UNLOCK_WDOG d)
  u.setDom d { u.dom d with byWdog := some (s.bit (Reg.TIME_DOM_STATUS_UNLOCK_WDOG d)) }

theorem watchdog_of_due (hl : s.bit (Reg.TIME_DOM_CTRL_LOCKED d) = true) (hm : s.get (Reg.TIME_DOM_CTRL_WDOG_MS d) ≠ 0)
    (hc : max (s.dom d).lockWriteAt (s.dom d).servoAt + s.get (Reg.TIME_DOM_CTRL_WDOG_MS d) * msCycles ≤ s.cycle) :
    s.watchdog d = s.wdogExpired d := by
  unfold State.watchdog
  dsimp only
  rw [if_pos (by simp [hl, hm, hc])]
  rfl

theorem get_wdogExpired_locked (hd : d < 2) (hl : s.bit (Reg.TIME_DOM_CTRL_LOCKED d) = true) :
    (s.wdogExpired d).get (Reg.TIME_DOM_CTRL_LOCKED d) = 0 := by
  have hkept (z : DomSt) (t : State) (f : Fld) : (t.setDom d z).get f = t.get f := rfl
  unfold State.wdogExpired
  dsimp only
  rw [hkept, State.unlock, if_pos hl, get_syncTime_locked, hkept]
  obtain rfl | rfl : d = 0 ∨ d = 1 := by omega
  all_goals rw [get_on_ne _ (by decide), get_off_self]

theorem get_wdogExpired_cause (hd : d < 2) (hl : s.bit (Reg.TIME_DOM_CTRL_LOCKED d) = true) :
    (s.wdogExpired d).get (Reg.TIME_DOM_STATUS_UNLOCK_WDOG d) = 1 := by
  have hkept (z : DomSt) (t : State) (f : Fld) : (t.setDom d z).get f = t.get f := rfl
  unfold State.wdogExpired
  dsimp only
  rw [hkept, State.unlock, if_pos hl, get_syncTime_unlockWdog _ hd, hkept, get_on_self _ _ le_rfl]

/-- The cause of an unlock is the condition of the domain's source. -/
theorem cond_unlockWdog (hd : d < 2) (h : s.get (Reg.TIME_DOM_STATUS_UNLOCK_WDOG d) = 1) : s.cond (2048 + d) = true := by
  obtain rfl | rfl : d = 0 ∨ d = 1 := by omega
  all_goals
    change State.anyOf s [_, _, _] = true
    simp [State.anyOf, State.bit, h]

end Watchdog

/-- No correction is left: none is taken. -/
theorem slewStep_zero (n : Nat) : slewStep 0 n = 0 := by
  rw [slewStep, if_pos le_rfl, min_eq_left (Int.natCast_nonneg n)]

/-- Settles O17: the declaration is one write of TIME_DOM_CTRL, the withdrawal one expiry, and the step from NONE one transition. -/
theorem lockIsDeclaredByTheHostAndWithdrawnByTheDevice : Obligations.LockIsDeclaredByTheHostAndWithdrawnByTheDevice := by
  unfold Obligations.LockIsDeclaredByTheHostAndWithdrawnByTheDevice
  refine fun s d v hs hu hd => ⟨fun hv hw h0 hmin hmax hsel hl => ⟨fun he hp hg => ⟨fun hc => ?_, fun hc => ?_⟩, fun h => ?_⟩,
    fun hl hm hc => ?_, fun hp hn hpref hl hc => ?_⟩
  · refine ⟨_, exec_lockDeclare_ok hs hu hd hv hw h0 hmin hmax hsel hl he hp hg, ?_⟩
    simp only [answered_lastStatus, answered_domLock, answered_dom, answered_time]
    exact ⟨trivial, domLock_lockTaken hd h0 he hc, lockWriteAt_lockTaken hc, lockTaken_pres s d v,
      only_answered .ok (only_lockTaken s d v)⟩
  · have hlocked := get_lockTaken_of_cleared (v := v) hc
    refine ⟨_, exec_lockDeclare_ok hs hu hd hv hw h0 hmin hmax hsel hl he hp hg, ?_⟩
    simp only [answered_lastStatus, answered_bit, answered_domLocked, answered_time]
    exact ⟨trivial, bit_of_get_zero hlocked, domLocked_of_unlocked hlocked, lockTaken_pres s d v,
      only_answered .ok (only_lockTaken s d v)⟩
  · exact ⟨_, exec_lockDeclare_busy hs hu hd hv hw h0 hmin hmax hsel hl h, rfl, only_answered .busy (only_refl s)⟩
  · have heq := watchdog_of_due hl hm hc
    have hlocked := get_wdogExpired_locked hd hl
    have hcause := get_wdogExpired_cause hd hl
    have hexec : exec (.servoWatchdogExpiry d) s = .next (s.wdogExpired d).settle := by
      rw [← heq]
      exact (onObject_ok hd _).trans (whenUp_running hs.1 _)
    have hframe := frame_watchdog s d
    rw [heq] at hframe
    generalize s.wdogExpired d = t at *
    exact ⟨_, hexec, bit_of_get_zero (s := t.settle) hlocked, bit_of_get_one (s := t.settle) hcause,
      cond_unlockWdog (s := t.settle) hd hcause, domLocked_of_unlocked (s := t.settle) hlocked,
      only_settled (only_widen hframe (by decide) (by decide))⟩
  · have hmode : s.time.pres.mode = .none := beq_iff_eq.mp hn
    have htrans := presTransition_of_none hmode hd hpref hl hc
    have hpres : s.presTransition.time.pres = { s.time.pres with mode := .follow d, now := (s.dom d).now, err := 0 } := by
      rw [htrans, syncTime_time, off_time, on_time, setPres_time]
    have hstepped : s.settledCycle.get Reg.TIME_PRES_STATUS_STEPPED = 1 := by
      rw [get_settledCycle_presStatus s (a := .w1c) (by simp [famsPage4]), htrans, get_syncTime_event _ (by simp),
        get_off_ne _ (by decide), get_on_self _ _ le_rfl]
    have hnext := presNext_of_follow (s := s.settledCycle) (d := d) (by rw [settledCycle_pres, hpres])
    have hrates := settledCycle_sameRates s
    rw [settledCycle_pres, hpres, hrates.domNext, hrates.baseRate, hrates.presSlew] at hnext
    refine ⟨_, step_idle hs.1 hp, ?_, ?_, bit_of_get_one (s := s.settledCycle.tickClocks.settle) hstepped⟩
    · exact congrArg PresSt.mode hnext
    · refine (congrArg PresSt.now hnext).trans ?_
      simp [slewStep_zero]

end Sys2Proof.Machine
end

section
/-! Pulse outputs and capture inputs (R128 to R132): the statement ranges over states that hold a field wider than its register. -/

-- One proof at a time: side by side they take more threads than the memory bound of the check leaves room for.
set_option Elab.async false

namespace Sys2Proof.Machine

/-- A started device with every function up, which is served and holds the given register fields besides. -/
def startedWith (fields : SMap Nat) : State :=
  { State.reset with regs := mapPut (mapPut fields (Fld.key Reg.SEC_LIFECYCLE_STATE) 1) (Fld.key Reg.SEC_BOOT_STATE) 1 }

/-- What a test says of the state that an outcome answers. -/
def outcomeTest (o : Out) (p : State → Bool) : Bool := match o with | .next t => p t | _ => false

theorem outcomeTest_next {o : Out} {t : State} {p : State → Bool} (h : o = .next t) : outcomeTest o p = p t := by rw [h]; rfl

/-- The one-bit OVERFLOW of capture input 0 holds 2. -/
def wideOverflow : State := startedWith [(Fld.key (Reg.TIME_TPI_CTRL_OVERFLOW 0), 2)]

theorem wideOverflow_served : wideOverflow.served := by
  unfold State.served
  decide

/-- The POP stores OVERFLOW again, cut to its one bit. -/
theorem tpiPop_wideOverflow :
    outcomeTest (exec (.tpiPop 0) wideOverflow) (fun t => !t.bit (Reg.TIME_TPI_CTRL_OVERFLOW 0)) = true := by
  decide +kernel

/-- Refutes O22: a POP outside the cycle of a capture does not keep OVERFLOW where that one-bit field holds 2. The write's OVERFLOW
bit is 0, so the W1C field is stored again as it stands and is cut to 1 bit; the hypotheses bound SOURCE, EDGE and ENABLE only. -/
theorem not_pulseOutputsAndCaptureInputs : ¬ Obligations.PulseOutputsAndCaptureInputs := by
  unfold Obligations.PulseOutputsAndCaptureInputs
  intro h
  obtain ⟨-, hinputs⟩ := h wideOverflow wideOverflow_served rfl
  obtain ⟨-, hpop⟩ := hinputs 0 (by decide)
  obtain ⟨hlater, -⟩ := hpop (by decide) (by decide) (by decide) (by decide)
  obtain ⟨t, hexec, -, -, -, hkept, -⟩ := hlater fun x hx => by cases hx
  have hcut := tpiPop_wideOverflow
  rw [outcomeTest_next hexec, hkept] at hcut
  exact absurd hcut (by decide)

end Sys2Proof.Machine
end

section
/-! The release of RESET_N (R44, R62, R64, R573). -/

-- One proof at a time: side by side they take more threads than the memory bound of the check leaves room for.
set_option Elab.async false

namespace Sys2Proof.Machine

section Release

variable (s : State) (die : DieSt)

/-- What the registers show once a reset has ended: the captured straps and the cause. -/
theorem get_loseState_straps : (s.loseState die).get Reg.SYS_STRAP_SENIOR = b2n die.straps.senior ∧
    (s.loseState die).get Reg.SYS_STRAP_PAIR_EN = b2n die.straps.pairEn ∧
    (s.loseState die).get Reg.SYS_STRAP_TEST_EN = b2n die.straps.testEn ∧ (s.loseState die).get Reg.SYS_STRAP_CHANGED = 0 := by
  refine ⟨?_, ?_, ?_, ?_⟩
  case refine_4 =>
    simp (disch := decide) only [State.loseState, State.showStart, State.syncFuses, get_setB_ne, get_set_ne]
    rfl
  all_goals
    simp (disch := decide) only [State.loseState, State.showStart, State.syncFuses, get_setB_ne, get_set_ne]
    exact get_setB_self _ _ _ (by decide)

theorem get_loseState_cause : (s.loseState die).get Reg.SYS_RESET_CAUSE_CAUSE = die.cause % 8 := by
  simp (disch := decide) only [State.loseState, State.showStart, State.syncFuses, get_setB_ne, get_set_ne, get_set_self]
  rfl

theorem get_loseState_pairState : (s.loseState die).get Reg.PAIR_STATUS_STATE = if die.straps.pairEn then 1 else 0 := by
  simp (disch := decide) only [State.loseState, State.showStart, get_setB_ne, get_set_self]
  split <;> rfl

end Release

/-- The die that a release starts: the straps of the pins, and the cause of what ended, 0 after a loss of the supply. -/
def State.releasedDie (s : State) (p : Straps) : DieSt :=
  { die0 with straps := p, cause := if s.die.mode = .off then 0 else s.die.cause, strapPins := p, holdIn := s.die.holdIn }

/-- Settles O7: the release loads the reset state with the straps of the pins, or nothing happens. -/
theorem theReleaseOfResetCapturesTheStraps : Obligations.TheReleaseOfResetCapturesTheStraps := by
  unfold Obligations.TheReleaseOfResetCapturesTheStraps
  refine fun s p => ⟨fun hm => ?_, fun hh ho => ?_⟩
  · have hgo : s.resetRelease p = s.loseState (s.releasedDie p) := by
      unfold State.resetRelease
      rcases hm with hm | hm
      all_goals
        simp only [hm, State.releasedDie]
        rfl
    obtain ⟨hsenior, hpair, htest, hchanged⟩ := get_loseState_straps s (s.releasedDie p)
    have hcause := get_loseState_cause s (s.releasedDie p)
    have hstate := get_loseState_pairState s (s.releasedDie p)
    refine ⟨_, rfl, ?_⟩
    rw [hgo]
    simp only [get_settle]
    refine ⟨rfl, rfl, hsenior, hpair, htest, hchanged, hcause.trans ?_, rfl, rfl, rfl, hstate⟩
    unfold State.releasedDie
    dsimp only
    split <;> rfl
  · have hstay : s.resetRelease p = s := by
      unfold State.resetRelease
      cases hm : s.die.mode <;> simp_all
    refine ⟨_, rfl, ?_⟩
    rw [hstay]
    exact only_settle s

end Sys2Proof.Machine
end

section
/-! The commands of the command rings: what an accepted one comes to, and CNT_READ and CNT_CLEAR (R103, R443). -/

-- One proof at a time: side by side they take more threads than the memory bound of the check leaves room for.
set_option Elab.async false

namespace Sys2Proof.Machine

/-! ### Accepted commands -/

/-- A completion moves only the fields of two registers of the rings. -/
theorem not_completionKeys (s : State) (c : CmdIn) {f : Fld} (ha : f.addr < 0x1301000) (hl : f.lo < 32) :
    ¬ completionKeys s c (Fld.key f) := by
  intro h
  simp only [completionKeys, keysOf, List.map_cons, List.map_nil, List.mem_cons, List.not_mem_nil, or_false, Fld.key,
    Reg.RING_DEV_INDEX_DEV_INDEX, Reg.RING_CFG_STOPPED] at h
  omega

/-- The keys that a completion moves depend on the completion ring alone. -/
theorem completionKeys_congr {s u : State} (c : CmdIn) (h : u.get (Reg.RING_CFG_CQ c.ring) = s.get (Reg.RING_CFG_CQ c.ring)) :
    completionKeys u c = completionKeys s c := by
  simp only [completionKeys, h]

section Accepted

variable {s : State} {i : Instr} {op : Nat} {c : CmdIn} {core : CmdIn → State → CmdRes × State}

/-- An accepted command that no routine carries has its effect and completes. -/
theorem runCmd_accepted (h : s.accepts op c) (hno : ∀ o, opInfo op = some o → o.routine = none) :
    onRing c (runCmd op core c s) = .next ((core c s).2.complete op c (core c s).1).settle := by
  obtain ⟨hrun, hlo, hhi, hturn, o, ho, hgate⟩ := h
  rw [onRing_ok hlo hhi, runCmd, runLong_accepted _ _ hrun ho hgate (mayAct_turn hturn (hno o ho)), State.carryOut]
  simp only [hno o ho]

/-- A command that acts and then completes, with what it acts on. -/
theorem ends_of_acts {u : State} {r : CmdRes} {parts : List Part} {moved : Keys} {effect : State → Prop}
    (hi : exec i s = .next (u.complete op c r).settle) (hu : s.only u parts moved)
    (hq : u.get (Reg.RING_CFG_CQ c.ring) = s.get (Reg.RING_CFG_CQ c.ring))
    (he : ∀ t, u.only t [.host, .events] (completionKeys s c) → effect t) : s.ends i op c r parts moved effect := by
  obtain ⟨hmoved, hdone⟩ := complete_spec u op c r
  rw [completionKeys_congr c hq] at hmoved
  exact ⟨_, hi, hdone, he _ (only_settled hmoved), only_settled (only_trans hu hmoved)⟩

/-- The same of an accepted command, by its core. -/
theorem ends_of_core (hi : exec i s = onRing c (runCmd op core c s)) (h : s.accepts op c)
    (hno : ∀ o, opInfo op = some o → o.routine = none) {u : State} {r : CmdRes} (hcore : core c s = (r, u)) {parts : List Part}
    {moved : Keys} {effect : State → Prop} (hu : s.only u parts moved)
    (hq : u.get (Reg.RING_CFG_CQ c.ring) = s.get (Reg.RING_CFG_CQ c.ring))
    (he : ∀ t, u.only t [.host, .events] (completionKeys s c) → effect t) : s.ends i op c r parts moved effect :=
  ends_of_acts (hi.trans ((runCmd_accepted h hno).trans (by rw [hcore]))) hu hq he

/-- An accepted command whose core changes nothing only completes. -/
theorem answers_of_core (hi : exec i s = onRing c (runCmd op core c s)) (h : s.accepts op c)
    (hno : ∀ o, opInfo op = some o → o.routine = none) {r : CmdRes} (hcore : core c s = (r, s)) : s.answers i op c r :=
  ends_of_core hi h hno hcore (only_refl s) rfl fun _ _ => trivial

end Accepted

/-! ### CNT_READ and CNT_CLEAR -/

/-- The result of both commands: presentation time, and the counters as they stand. -/
theorem coreCounters_port (clear : Bool) {c : CmdIn} {s : State} (h : s.isPort c.param = true) :
    coreCounters clear c s = ({ CmdRes.ok with
      result := leBytes 16 s.presStamp, out := (List.range 64).flatMap fun i => leBytes 8 (s.counterNow c.param i) },
      if clear then s.clearCounters c.param else s) := by
  have hlt : c.param % 1024 = c.param := Nat.mod_eq_of_lt (by simp [State.isPort] at h; omega)
  simp [coreCounters, hlt, h]

/-- The parameter of both commands is at most 1,023 (Table 16-5). -/
theorem coreCounters_noPort (clear : Bool) {c : CmdIn} {s : State} (hlt : c.param < 1024) (h : s.isPort c.param = false) :
    coreCounters clear c s = (CmdRes.field, s) := by
  simp [coreCounters, Nat.mod_eq_of_lt hlt, h]

/-- What a clear leaves of the counters. -/
theorem counter_clearCounters (s : State) (p q : Nat) {i : Nat} (hi : i < 64) :
    (s.clearCounters p).counter q i = if q = p then 0 else s.counter q i := by
  have hk : (64 * q + i) / 64 = q := by omega
  have hf := mapFind_filter s.counters (fun k => k / 64 != p) (64 * q + i)
  simp only [hk, bne_iff_ne, ne_eq] at hf
  simp only [State.clearCounters, State.counter, mapGet, off_counters, State.modPort]
  by_cases hq : q = p <;> simp_all

/-- A clear starts the time still to be counted afresh. -/
theorem heldTime_clearCounters (s : State) (p rate : Nat) : ((s.clearCounters p).port p).heldTime s.cycle rate < 768 := by
  have hport : (s.clearCounters p).port p = { s.port p with
      heldFrom := (s.port p).heldFrom.map fun _ => s.cycle
      heldRem := (s.port p).heldTime s.cycle (s.macRate p) % 768 } := by
    simp [State.clearCounters, State.port, State.modPort, mapGet_mod_self]
  rw [hport, PortDyn.heldTime]
  cases (s.port p).heldFrom with
  | none => simp
  | some x => simp only [Option.map_some, Nat.sub_self, Nat.zero_mul]; omega

theorem counterNow_congr {s t : State} (hc : t.counters = s.counters) (hp : t.ports = s.ports) (hcy : t.cycle = s.cycle) (p : Nat)
    {i : Nat} (hz : s.counter p i = 0) (hh : ∀ rate, (s.port p).heldTime s.cycle rate < 768) : t.counterNow p i = 0 := by
  have hport : t.port p = s.port p := by simp only [State.port, hp]
  have hcount : t.counter p i = 0 := by rw [← hz]; simp only [State.counter, hc]
  unfold State.counterNow
  split
  next h58 => subst h58; simp [hcount, hport, hcy, Nat.div_eq_of_lt (hh _)]
  next => exact hcount

/-- Neither half-range register of any port is one that a completion moves. -/
theorem half_after_completion {s u t : State} {c : CmdIn} (h : u.only t [.host, .events] (completionKeys s c)) (p : Nat) :
    t.get (Reg.CNT_HALF_LO_HALF p) = u.get (Reg.CNT_HALF_LO_HALF p) ∧
      t.get (Reg.CNT_HALF_HI_HALF p) = u.get (Reg.CNT_HALF_HI_HALF p) :=
  ⟨h.2 _ (not_completionKeys s c (f := Reg.CNT_HALF_LO_HALF p) (by simp only [Reg.CNT_HALF_LO_HALF]; omega) (Nat.zero_lt_succ 31)),
   h.2 _ (not_completionKeys s c (f := Reg.CNT_HALF_HI_HALF p) (by simp only [Reg.CNT_HALF_HI_HALF]; omega) (Nat.zero_lt_succ 31))⟩

theorem half_clearCounters (s : State) (p : Nat) : (s.clearCounters p).get (Reg.CNT_HALF_LO_HALF p) = 0 ∧
    (s.clearCounters p).get (Reg.CNT_HALF_HI_HALF p) = 0 := by
  have hne : Fld.key (Reg.CNT_HALF_LO_HALF p) ≠ Fld.key (Reg.CNT_HALF_HI_HALF p) := by
    simp only [Fld.key, Reg.CNT_HALF_LO_HALF, Reg.CNT_HALF_HI_HALF]; omega
  unfold State.clearCounters
  dsimp only
  exact ⟨by rw [get_off_ne _ hne.symm, get_off_self], get_off_self _ _⟩

/-- The counter commands are not carried by a routine. -/
theorem counters_noRoutine : (∀ o, opInfo 0x50 = some o → o.routine = none) ∧ ∀ o, opInfo 0x51 = some o → o.routine = none :=
  ⟨fun _ h => by cases h; rfl, fun _ h => by cases h; rfl⟩

/-- The parameter of an accepted command lies within its mask (R436, R438). -/
theorem param_of_accepts {s : State} {op : Nat} {c : CmdIn} {o : OpInfo} (h : s.accepts op c) (ho : opInfo op = some o) :
    within c.param o.param = true := by
  obtain ⟨-, -, -, -, o', ho', hg⟩ := h
  obtain rfl : o' = o := Option.some.inj (ho'.symm.trans ho)
  unfold State.cmdGate at hg
  by_contra hw
  have : fieldsOk o' c = false := by simp [fieldsOk, hw]
  simp [this] at hg
  split at hg
  · cases hg
  · split at hg <;> cases hg

theorem param_lt_of_accepts {s : State} {op m : Nat} {c : CmdIn} {o : OpInfo} (h : s.accepts op c) (ho : opInfo op = some o)
    (hm : o.param = m) : c.param ≤ m := by
  have hw := param_of_accepts h ho
  rw [hm, within, beq_iff_eq] at hw
  exact hw ▸ Nat.and_le_right

/-- Settles O15: CNT_READ and CNT_CLEAR return the counters, and CNT_CLEAR clears those of its port alone. -/
theorem counterCommandsReturnTheSixtyFourCounters : Obligations.CounterCommandsReturnTheSixtyFourCounters := by
  intro s c
  obtain ⟨hno50, hno51⟩ := counters_noRoutine
  refine ⟨fun ha hp => ?_, fun ha hp => ?_, fun ha hp => ?_, fun ha hp => ?_⟩
  · obtain ⟨t, ht, hdone, -, hframe⟩ := answers_of_core (i := .cntRead c) rfl ha hno50 (coreCounters_port false hp)
    exact ⟨t, ht, hdone, only_mono hframe (by simp) (by simp [keysOf])⟩
  · obtain ⟨t, ht, hdone, ⟨hcount, hports, hcycle, hlo, hhi⟩, -⟩ := ends_of_core (i := .cntClear c) rfl ha hno51
      (coreCounters_port true hp) (parts := [.ports, .counters]) (frame_clearCounters s c.param)
      (kept_of_only (frame_clearCounters s c.param) (a := .rw) 19 c.ring 0 (List.mem_of_getElem? (i := 14) rfl) (by simp) (by simp))
      (effect := fun t => t.counters = (s.clearCounters c.param).counters ∧ t.ports = (s.clearCounters c.param).ports ∧
        t.cycle = s.cycle ∧ t.get (Reg.CNT_HALF_LO_HALF c.param) = 0 ∧ t.get (Reg.CNT_HALF_HI_HALF c.param) = 0)
      fun t ht => ⟨ht.1 .counters (by decide), ht.1 .ports (by decide),
        (ht.1 .cycle (by decide)).trans ((frame_clearCounters s c.param).1 .cycle (by decide)),
        (half_after_completion ht _).1.trans (half_clearCounters s _).1,
        (half_after_completion ht _).2.trans (half_clearCounters s _).2⟩
    have hcnt (q i : Nat) (hi : i < 64) : t.counter q i = if q = c.param then 0 else s.counter q i := by
      rw [← counter_clearCounters s c.param q hi]; simp only [State.counter, hcount]
    have hcyc : (s.clearCounters c.param).cycle = s.cycle := (frame_clearCounters s c.param).1 .cycle (by decide)
    refine ⟨t, ht, hdone, fun i hi => ⟨by simp [hcnt _ _ hi], ?_⟩, hlo, hhi, fun q i hq hi => by simp [hcnt _ _ hi, hq]⟩
    exact counterNow_congr hcount hports (hcycle.trans hcyc.symm) _ (by simp [counter_clearCounters s c.param c.param hi])
      fun rate => hcyc ▸ heldTime_clearCounters s c.param rate
  · obtain ⟨t, ht, hdone, -, hframe⟩ := answers_of_core (i := .cntRead c) rfl ha hno50
      (coreCounters_noPort false (Nat.lt_succ_of_le (param_lt_of_accepts ha rfl rfl)) hp)
    exact ⟨t, ht, hdone, only_mono hframe (by simp) (by simp [keysOf])⟩
  · obtain ⟨t, ht, hdone, -, hframe⟩ := answers_of_core (i := .cntClear c) rfl ha hno51
      (coreCounters_noPort true (Nat.lt_succ_of_le (param_lt_of_accepts ha rfl rfl)) hp)
    exact ⟨t, ht, hdone, only_mono hframe (by simp) (by simp [keysOf])⟩

end Sys2Proof.Machine
end

section
/-! A port follows its link (R82 to R86, R348). -/

-- One proof at a time: side by side they take more threads than the memory bound of the check leaves room for.
set_option Elab.async false

namespace Sys2Proof.Machine

/-! ### Port records, counters and their fields -/

@[simp] theorem port_modPort_self (s : State) (p : Nat) (f : PortDyn → PortDyn) : (s.modPort p f).port p = f (s.port p) := by
  simp [State.port, mapGet_mod_self]

theorem port_of_ports {s t : State} (h : t.ports = s.ports) (p : Nat) : t.port p = s.port p := by rw [State.port, h]; rfl

theorem counter_of_counters {s t : State} (h : t.counters = s.counters) (p i : Nat) : t.counter p i = s.counter p i := by
  rw [State.counter, h]; rfl

@[simp] theorem get_modPort (s : State) (p : Nat) (f : PortDyn → PortDyn) (g : Fld) : (s.modPort p f).get g = s.get g :=
  get_of_regs rfl g

/-- What a counter reads once it has been added to (R101). -/
theorem counter_count_self (s : State) (p i n : Nat) : (s.count p i n).counter p i = (s.counter p i + n) % 2 ^ 40 := by
  have key (u : State) (h : u.counters = mapSet s.counters (64 * p + i) ((s.counter p i + n) % 2 ^ 40) 0) :
      u.counter p i = (s.counter p i + n) % 2 ^ 40 := by rw [State.counter, h, mapGet_set_self]
  have noted (u : State) (b c : Bool) : (if b then u.noteError c else u).counters = u.counters := by
    cases b
    · rfl
    · exact (frame_noteError u c).1 .counters (by decide)
  unfold State.count
  extract_lets old new s1 s2
  have h2 : s2.counters = s1.counters := noted s1 _ true
  refine key _ ?_
  split
  · split
    · exact (set_counters ..).trans h2
    · exact (set_counters ..).trans h2
  · exact h2

/-- Counting leaves the records of the ports alone. -/
@[simp] theorem ports_count (s : State) (p i n : Nat) : (s.count p i n).ports = s.ports := (frame_count s p i n).1 .ports (by decide)

/-- A count moves no field of MAC_PORT_STATUS. -/
theorem get_count_status (s : State) (p i n q : Nat) {a : Access} {f : Fld}
    (hf : (a, f) ∈ [(Access.ro, Reg.MAC_PORT_STATUS_PFC_PAUSED q), (.ro, Reg.MAC_PORT_STATUS_PAUSED q),
      (.ro, Reg.MAC_PORT_STATUS_REMOTE_FAULT q), (.ro, Reg.MAC_PORT_STATUS_LOCAL_FAULT q), (.ro, Reg.MAC_PORT_STATUS_HI_BER q),
      (.ro, Reg.MAC_PORT_STATUS_LINK_GOOD q), (.ro, Reg.MAC_PORT_STATUS_STATE q)]) : (s.count p i n).get f = s.get f :=
  kept_of_only (frame_count s p i n) 2 q 0 (List.mem_of_getElem? (i := 6) rfl) hf (by simp)

/-! ### New conditions of a link -/

section Status

variable (q : Nat)

/-- The fields of a port's MAC_PORT_STATUS are kept apart by their bits. -/
theorem statusKeys_ne : Fld.key (Reg.MAC_PORT_STATUS_REMOTE_FAULT q) ≠ Fld.key (Reg.MAC_PORT_STATUS_LOCAL_FAULT q) ∧
    Fld.key (Reg.MAC_PORT_STATUS_REMOTE_FAULT q) ≠ Fld.key (Reg.MAC_PORT_STATUS_HI_BER q) ∧
    Fld.key (Reg.MAC_PORT_STATUS_REMOTE_FAULT q) ≠ Fld.key (Reg.MAC_PORT_STATUS_LINK_GOOD q) ∧
    Fld.key (Reg.MAC_PORT_STATUS_REMOTE_FAULT q) ≠ Fld.key (Reg.MAC_PORT_STATUS_STATE q) ∧
    Fld.key (Reg.MAC_PORT_STATUS_LOCAL_FAULT q) ≠ Fld.key (Reg.MAC_PORT_STATUS_HI_BER q) ∧
    Fld.key (Reg.MAC_PORT_STATUS_LOCAL_FAULT q) ≠ Fld.key (Reg.MAC_PORT_STATUS_LINK_GOOD q) ∧
    Fld.key (Reg.MAC_PORT_STATUS_LOCAL_FAULT q) ≠ Fld.key (Reg.MAC_PORT_STATUS_STATE q) ∧
    Fld.key (Reg.MAC_PORT_STATUS_HI_BER q) ≠ Fld.key (Reg.MAC_PORT_STATUS_LINK_GOOD q) ∧
    Fld.key (Reg.MAC_PORT_STATUS_HI_BER q) ≠ Fld.key (Reg.MAC_PORT_STATUS_STATE q) ∧
    Fld.key (Reg.MAC_PORT_STATUS_LINK_GOOD q) ≠ Fld.key (Reg.MAC_PORT_STATUS_STATE q) := by
  simp [Fld.key, Reg.MAC_PORT_STATUS_REMOTE_FAULT, Reg.MAC_PORT_STATUS_LOCAL_FAULT, Reg.MAC_PORT_STATUS_HI_BER,
    Reg.MAC_PORT_STATUS_LINK_GOOD, Reg.MAC_PORT_STATUS_STATE]

/-- What a port's status shows of its link: the link good or not, the bit error rate, the two faults, the link state. -/
def State.showsLink (s : State) (good hiBer localFault remoteFault : Bool) (st : Nat) : Prop :=
  s.bit (Reg.MAC_PORT_STATUS_LINK_GOOD q) = good ∧ s.bit (Reg.MAC_PORT_STATUS_HI_BER q) = hiBer ∧
  s.bit (Reg.MAC_PORT_STATUS_LOCAL_FAULT q) = localFault ∧ s.bit (Reg.MAC_PORT_STATUS_REMOTE_FAULT q) = remoteFault ∧
  s.linkState q = st

variable {q}

/-- Acts that leave MAC_PORT_STATUS alone show the same. -/
theorem showsLink_of_only {s t : State} {P : List Part} {L : List String} {a b c d : Bool} {st : Nat} (h : s.only t P (regsOf L))
    (hL : "MAC_PORT_STATUS" ∉ L) (hs : s.showsLink q a b c d st) : t.showsLink q a b c d st := by
  have kept (x : Access) (f : Fld) (hf : (x, f) ∈ [(Access.ro, Reg.MAC_PORT_STATUS_PFC_PAUSED q),
      (.ro, Reg.MAC_PORT_STATUS_PAUSED q), (.ro, Reg.MAC_PORT_STATUS_REMOTE_FAULT q), (.ro, Reg.MAC_PORT_STATUS_LOCAL_FAULT q),
      (.ro, Reg.MAC_PORT_STATUS_HI_BER q), (.ro, Reg.MAC_PORT_STATUS_LINK_GOOD q), (.ro, Reg.MAC_PORT_STATUS_STATE q)]) :
      t.get f = s.get f := kept_of_only h 2 q 0 (List.mem_of_getElem? (i := 6) rfl) hf hL
  simp only [State.showsLink, State.bit, State.linkState] at hs ⊢
  rwa [kept .ro _ (by simp), kept .ro _ (by simp), kept .ro _ (by simp), kept .ro _ (by simp), kept .ro _ (by simp)]

/-- The status as new conditions of the link set it. -/
theorem showsLink_set (s : State) (a b c d : Bool) :
    ((((s.setB (Reg.MAC_PORT_STATUS_LINK_GOOD q) a).setB (Reg.MAC_PORT_STATUS_HI_BER q) b).setB
      (Reg.MAC_PORT_STATUS_LOCAL_FAULT q) c).setB (Reg.MAC_PORT_STATUS_REMOTE_FAULT q) d).showsLink q a b c d (s.linkState q) := by
  obtain ⟨h1, h2, h3, h4, h5, h6, h7, h8, h9, h10⟩ := statusKeys_ne q
  have one (x : Bool) : (b2n x != 0) = x := by cases x <;> rfl
  refine ⟨?_, ?_, ?_, ?_, ?_⟩
  · rw [State.bit, get_setB_ne _ _ h3, get_setB_ne _ _ h6, get_setB_ne _ _ h8, get_setB_self _ _ _ le_rfl, one]
  · rw [State.bit, get_setB_ne _ _ h2, get_setB_ne _ _ h5, get_setB_self _ _ _ le_rfl, one]
  · rw [State.bit, get_setB_ne _ _ h1, get_setB_self _ _ _ le_rfl, one]
  · rw [State.bit, get_setB_self _ _ _ le_rfl, one]
  · rw [State.linkState, get_setB_ne _ _ h4, get_setB_ne _ _ h7, get_setB_ne _ _ h9, get_setB_ne _ _ h10]; rfl

/-- An event bit of the port leaves what the status shows. -/
theorem showsLink_event {s : State} {g a b c d : Bool} {st : Nat} {f : Fld} (hf : regsOf ["MAC_PORT_EVT"] (Fld.key f))
    (h : s.showsLink q a b c d st) : (if g then s.on f else s).showsLink q a b c d st :=
  showsLink_of_only (P := []) (L := ["MAC_PORT_EVT"])
    (keep_if (keep_on f (keep_refl _ _ _) hf) (keep_refl _ _ _)) (by simp) h

theorem showsLink_count {s : State} {a b c d : Bool} {st : Nat} (p i n : Nat) (h : s.showsLink q a b c d st) :
    (s.count p i n).showsLink q a b c d st := showsLink_of_only (frame_count s p i n) (by simp) h

end Status

/-- New conditions of a link that is not DISABLED show in the status of its port (R79, R82). -/
theorem linkChange_showsLink {s : State} {p : Nat} (c : LinkCond) (h : s.linkState p ≠ stDisabled) :
    (s.linkChange p c).showsLink p (linkGood c && s.laneRefGood p && !s.linksHeld) c.hiBer c.localFault c.remoteFault
      (s.linkState p) := by
  unfold State.linkChange
  rw [if_neg h]
  extract_lets x good was s1 s2 s3 s4 s5 s6 s7
  have h2 : s2.showsLink p good c.hiBer c.localFault c.remoteFault (s.linkState p) := showsLink_set s1 ..
  have h3 : s3.showsLink p good c.hiBer c.localFault c.remoteFault (s.linkState p) :=
    showsLink_event (reg_MAC_PORT_EVT_HI_BER (by simp)) h2
  have h4 : s4.showsLink p good c.hiBer c.localFault c.remoteFault (s.linkState p) :=
    showsLink_event (reg_MAC_PORT_EVT_LOCAL_FAULT (by simp)) h3
  have h5 : s5.showsLink p good c.hiBer c.localFault c.remoteFault (s.linkState p) :=
    showsLink_event (reg_MAC_PORT_EVT_REMOTE_FAULT (by simp)) h4
  have h6 : s6.showsLink p good c.hiBer c.localFault c.remoteFault (s.linkState p) := by
    unfold s6
    split
    · exact showsLink_of_only (P := []) (L := ["MAC_PORT_EVT"])
        (keep_on _ (keep_refl _ _ _) (reg_MAC_PORT_EVT_FEC_UNCORR (by simp))) (by simp) h5
    · exact h5
  have h7 : s7.showsLink p good c.hiBer c.localFault c.remoteFault (s.linkState p) :=
    showsLink_count _ _ _ (showsLink_count _ _ _ (showsLink_count _ _ _ (showsLink_count _ _ _ h6)))
  split
  · exact showsLink_of_only (P := []) (L := ["STAMP_PORT_STATUS"])
      (keep_set _ _ (keep_refl _ _ _) (reg_STAMP_PORT_STATUS_DESKEW (by simp))) (by simp) h7
  · exact h7

/-! ### The moves of a port between its link states -/

/-- What a port that leaves UP comes to (R86, R348). -/
theorem leaveUp_spec (s : State) (p : Nat) : (s.leaveUp p true).linkState p = stFlushing ∧
    (s.leaveUp p true).bit (Reg.MAC_PORT_EVT_LINK_DOWN p) = true ∧
    (s.leaveUp p true).counter p 59 = (s.counter p 59 + 1) % 2 ^ 40 ∧ ((s.leaveUp p true).port p).flush = .waiting := by
  unfold State.leaveUp
  extract_lets s1 s2 s3
  have hkey : Fld.key (Reg.MAC_PORT_EVT_LINK_DOWN p) ≠ Fld.key (Reg.MAC_PORT_STATUS_STATE p) := by
    simp only [Fld.key, Reg.MAC_PORT_EVT_LINK_DOWN, Reg.MAC_PORT_STATUS_STATE]; omega
  have hstate : s2.linkState p = stFlushing := by
    rw [State.linkState]
    exact (get_on_ne _ hkey).trans ((get_count_status s1 p 59 1 p (a := .ro) (by simp)).trans (get_set_self ..))
  refine ⟨hstate, ?_, ?_, ?_⟩
  · have hevt := bit_of_get_one (get_on_self (s1.count p 59 1) (Reg.MAC_PORT_EVT_LINK_DOWN p) le_rfl)
    exact hevt
  · exact (counter_of_counters (t := s2) (s := s1.count p 59 1) (set_counters ..) p 59).trans (counter_count_self s1 p 59 1)
  · have hport : s3.port p = _ := port_modPort_self s2 p _
    exact congrArg PortDyn.flush hport

theorem linkState_enterDisabled (s : State) (p : Nat) : (s.enterDisabled p).linkState p = stDisabled := by
  obtain ⟨-, -, -, h4, -, -, h7, -, h9, h10⟩ := statusKeys_ne p
  unfold State.enterDisabled
  extract_lets s1 s2
  exact (get_off_ne _ h4).trans ((get_off_ne _ h7).trans ((get_off_ne _ h9).trans ((get_off_ne _ h10).trans (get_set_self ..))))

/-- A port that enters TRAINING or DISABLED keeps its flush. -/
theorem flush_enter (s : State) (p : Nat) : ((s.enterTraining p).port p).flush = (s.port p).flush ∧
    ((s.enterDisabled p).port p).flush = (s.port p).flush := by
  refine ⟨?_, ?_⟩
  · rw [State.enterTraining, port_modPort_self]
    have hport := port_of_ports (s := s) (set_ports s (Reg.MAC_PORT_STATUS_STATE p) stTraining) p
    simp only [hport]
  · unfold State.enterDisabled
    extract_lets s1 s2
    have hports : s2.ports = s.ports := by
      show ((((s1.off _).off _).off _).off _).ports = _
      rw [off_ports, off_ports, off_ports, off_ports]; exact set_ports ..
    rw [port_modPort_self]
    simp only [port_of_ports hports p]

/-- A port in TRAINING whose conditions have been good for long enough, and that no back-pressure waits for, enters UP
(R75, R83). -/
theorem upExpiry_good {s : State} {p : Nat} (hst : s.linkState p = stTraining)
    (hgood : s.bit (Reg.MAC_PORT_STATUS_LINK_GOOD p) = true) (href : s.laneRefGood p = true)
    (hosc : s.bit Reg.SYS_CLK_STATUS_ON_OSC = false) (hreq : (s.port p).request = [])
    (han : s.bit (Reg.MAC_PORT_CTRL_AN_EN p) = false ∨ (s.port p).cond.anRefused = false)
    (hdue : max (s.port p).trainSince (s.port p).goodSince + s.get (Reg.MAC_PORT_CTRL_UP_DEBOUNCE p) * 100 * usCycles ≤ s.cycle) :
    s.upExpiry p = (s.set (Reg.MAC_PORT_STATUS_STATE p) stUp).on (Reg.MAC_PORT_EVT_LINK_UP p) := by
  have hadv : (s.bit (Reg.MAC_PORT_CTRL_AN_EN p) && (s.port p).cond.anRefused) = false := by
    rcases han with h | h <;> simp [h]
  unfold State.upExpiry
  simp [hst, hgood, href, hosc, hreq, hadv, hdue]

/-- A partner that refuses what an auto-negotiating port advertises keeps it in TRAINING (R75). -/
theorem upExpiry_refused {s : State} {p : Nat} (h : s.bit (Reg.MAC_PORT_CTRL_AN_EN p) = true)
    (h' : (s.port p).cond.anRefused = true) : s.upExpiry p = s := by
  unfold State.upExpiry
  simp [h, h']

theorem dnExpiry_bad {s : State} {p : Nat} (hst : s.linkState p = stUp) (hbad : s.bit (Reg.MAC_PORT_STATUS_LINK_GOOD p) = false)
    (hdue : (s.port p).badSince + s.get (Reg.MAC_PORT_CTRL_DN_DEBOUNCE p) * usCycles ≤ s.cycle) :
    s.dnExpiry p = s.leaveUp p true := by
  unfold State.dnExpiry
  simp [hst, hbad, hdue]

/-- What a port whose flush is complete comes to at the end of its hold-down (R348). -/
theorem holdDown_spec {s : State} {p c : Nat} (hf : (s.port p).flush = .complete c) (hst : s.linkState p = stFlushing)
    (hdue : c + s.get Reg.QUE_CTRL_HOLD_DOWN_US * usCycles ≤ s.cycle) (hup : s.funcUp .mac = true) :
    ((s.holdDown p).port p).flush = .idle ∧
    (s.holdDown p).linkState p = (if s.bit (Reg.MAC_PORT_CTRL_ENABLE p) then stTraining else stDisabled) := by
  unfold State.holdDown
  simp only [hf, hst, hdue, hup, decide_true, Bool.and_self, if_true]
  generalize hu : (s.modPort p fun x => { x with flush := .idle }).satAdd Reg.QUE_FLUSH_CNT_COUNT 1 = u
  have hidle : (u.port p).flush = .idle := by
    have hports : u.ports = (s.modPort p fun x => { x with flush := .idle }).ports := hu ▸ set_ports ..
    rw [port_of_ports hports, port_modPort_self]
  have hen : u.bit (Reg.MAC_PORT_CTRL_ENABLE p) = s.bit (Reg.MAC_PORT_CTRL_ENABLE p) := by
    rw [State.bit, ← hu, get_satAdd_ne]
    · rfl
    · simp only [Fld.key, Reg.QUE_FLUSH_CNT_COUNT, Reg.MAC_PORT_CTRL_ENABLE]; omega
  rw [hen]
  split
  · exact ⟨(flush_enter u p).1.trans hidle, linkState_enterTraining u p⟩
  · exact ⟨(flush_enter u p).2.trans hidle, linkState_enterDisabled u p⟩

/-- LINK_UP of a port is a condition of its source (R88, R456). -/
theorem cond_of_linkUp {t : State} {p : Nat} (hp : p < 1024) (hport : t.isPort p = true)
    (he : t.bit (Reg.MAC_PORT_EVT_LINK_UP p) = true) : t.cond p = true := by
  simp [State.cond, hp, hport, State.anyOf, portEvtBits, he]

/-- Settles O13: a port follows its link, by the moves of R82 to R86 and R348. -/
theorem aPortFollowsItsLink : Obligations.APortFollowsItsLink := by
  intro s p hrun hport hmac
  have hp : p < 1024 := by simp [State.isPort] at hport; omega
  have change (c : LinkCond) : exec (.linkConditionChange p c) s = .next (s.linkChange p c).settle := by
    refine (onObject_ok (by omega) _).trans ((whenUp_running hrun _).trans ?_)
    simp [State.newLink, hport, hmac, Nat.ne_of_lt hp]
  have up : exec (.upDebounceExpiry p) s = .next (s.upExpiry p).settle :=
    (onPort_ok hp _).trans ((whenUp_running hrun _).trans (by simp [hport]))
  have down : exec (.dnDebounceExpiry p) s = .next (s.dnExpiry p).settle :=
    (onPort_ok hp _).trans ((whenUp_running hrun _).trans (by simp [hport]))
  have hold : exec (.holdDownExpiry p) s = .next (s.holdDown p).settle := (onPort_ok hp _).trans (whenUp_running hrun _)
  refine ⟨fun c hst => ?_, fun c hst => ?_, fun hst hgood href hosc hreq han hdue => ?_, fun han href => ?_,
    fun hst hbad hdue => ?_, fun c hf hst hdue => ?_⟩
  · refine ⟨_, change c, ?_⟩
    rw [State.linkChange, if_pos hst]
    exact only_settle s
  · obtain ⟨h1, h2, h3, h4, h5⟩ := linkChange_showsLink c hst
    exact ⟨_, change c, h1, h2, h3, h4, h5, only_settled (frame_linkChange s p c)⟩
  · have hkey : Fld.key (Reg.MAC_PORT_EVT_LINK_UP p) ≠ Fld.key (Reg.MAC_PORT_STATUS_STATE p) := by
      simp only [Fld.key, Reg.MAC_PORT_EVT_LINK_UP, Reg.MAC_PORT_STATUS_STATE]; omega
    rw [upExpiry_good hst hgood href hosc hreq han hdue] at up
    have hevt := bit_of_get_one (get_on_self (s.set (Reg.MAC_PORT_STATUS_STATE p) stUp) (Reg.MAC_PORT_EVT_LINK_UP p) le_rfl)
    have hmoved : s.only ((s.set (Reg.MAC_PORT_STATUS_STATE p) stUp).on (Reg.MAC_PORT_EVT_LINK_UP p)) []
        (keysOf [Reg.MAC_PORT_STATUS_STATE p, Reg.MAC_PORT_EVT_LINK_UP p]) :=
      keep_on _ (keep_set _ _ (keep_refl _ _ _) (by simp [keysOf])) (by simp [keysOf])
    refine ⟨_, up, ?_, hevt, ?_, only_settled hmoved⟩
    · exact (get_on_ne _ hkey).trans (get_set_self ..)
    · refine cond_of_linkUp hp ?_ hevt
      have hmode : _ = s.get (Reg.MAC_OCTET_MODE_MODE (p / 8)) := hmoved.2 (Reg.MAC_OCTET_MODE_MODE (p / 8)) (by
        simp only [keysOf, List.map_cons, List.map_nil, List.mem_cons, List.not_mem_nil, or_false, Fld.key,
          Reg.MAC_PORT_STATUS_STATE, Reg.MAC_PORT_EVT_LINK_UP, Reg.MAC_OCTET_MODE_MODE]
        omega)
      rw [← hport]
      simp only [State.isPort, State.lanes, get_settle, hmode]
  · rw [upExpiry_refused han href] at up
    exact ⟨_, up, only_settle s⟩
  · rw [dnExpiry_bad hst hbad hdue] at down
    obtain ⟨h1, h2, h3, h4⟩ := leaveUp_spec s p
    exact ⟨_, down, h1, h2, h3, h4, only_settled (frame_leaveUp s p true)⟩
  · obtain ⟨h1, h2⟩ := holdDown_spec hf hst hdue hmac
    exact ⟨_, hold, h1, h2, only_settled (frame_holdDown s p)⟩

end Sys2Proof.Machine
end

section
/-! A write of a register on any page, and the new mode of an octet (R70, R71, R73). -/

-- One proof at a time: side by side they take more threads than the memory bound of the check leaves room for.
set_option Elab.async false

namespace Sys2Proof.Machine

/-! ### Writes of a register -/

section PageWrite

variable {s : State} {addr v i j page off : Nat} {o : RegOwner} {l : List (Access × Fld)}
variable (hs : s.served) (hr : regIs addr o i j l) (hpage : pageOf addr = page) (hoff : addr % 0x100000 = off)
variable (hd : s.pageDown true addr = false) (hp : s.laneOk i o) (hv : v < 2 ^ 32) (hw : within v (definedBits l) = true)
variable (hl : writable l = true)
include hs hr hpage hoff hd hp hv hw hl

/-- A write that the owning chapter takes: the fields, what the page does beyond them, and the answer OK. -/
theorem pageWrite_ok {t : State} (hc : s.pageCheck page off v = .ok) (ht : s.pageEffect (s.storeFields l v) page off v = t)
    (hwarm : t.get Reg.SYS_CTRL_WARM_RESET = 0) : whenUp s (fun s => s.hostWrite addr v) = .next (t.answered .ok) := by
  subst hpage hoff ht
  exact write_step hs hv (writeReg_ok hs hr hd hp hw hl hc) hwarm

/-- A write that the owning chapter refuses: only the answer moves (R13). -/
theorem pageWrite_refused {st : Status} (hc : s.pageCheck page off v = st) (hst : st ≠ .ok) :
    whenUp s (fun s => s.hostWrite addr v) = .next (s.answered st) := by
  subst hpage hoff
  rw [whenUp_running hs.1, hostWrite_refused hv (writeReg_refused hs hr hd hp hw hl hc hst) (get_warmReset_of_served hs)]
  rfl

/-- The same as the obligations put them. -/
theorem takes_of_write {i : Instr} {t : State} {P : List Part} {m : Keys} {effect : State → Prop}
    (hi : exec i s = whenUp s fun s => s.hostWrite addr v) (hc : s.pageCheck page off v = .ok)
    (ht : s.pageEffect (s.storeFields l v) page off v = t) (hmoved : s.only t P m)
    (hwarm : ¬ m (Fld.key Reg.SYS_CTRL_WARM_RESET)) (he : effect (t.answered .ok)) : s.takes i P m effect :=
  ⟨_, hi.trans (pageWrite_ok hs hr hpage hoff hd hp hv hw hl hc ht ((hmoved.2 _ hwarm).trans (get_warmReset_of_served hs))),
    rfl, he, only_answered .ok hmoved⟩

theorem turnsAway_of_write {i : Instr} {st : Status} (hi : exec i s = whenUp s fun s => s.hostWrite addr v)
    (hc : s.pageCheck page off v = st) (hst : st ≠ .ok) : s.turnsAway i st :=
  ⟨_, hi.trans (pageWrite_refused hs hr hpage hoff hd hp hv hw hl hc hst), rfl, only_answered st (only_refl s)⟩

end PageWrite

/-- The registers that one access reads or writes lie in one word. -/
theorem key_div (f : Fld) (h : f.lo < 32) : Fld.key f / 32 = f.addr := by
  simp only [Fld.key]; omega

/-! ### The registers of an octet -/

/-- The half-range registers of the ports of an octet are among those that its new mode resets (R73). -/
theorem octetReg_cntHalf {o p : Nat} (hp : p / 8 = o) (ho : o < 128) :
    octetReg o (Reg.CNT_HALF_LO_HALF p).addr = true ∧ octetReg o (Reg.CNT_HALF_HI_HALF p).addr = true := by
  have hlt : p < 1024 := by omega
  have hmod : p % 1024 = p := Nat.mod_eq_of_lt hlt
  have hlo : regAt (0x300000 + 0x8 * p) = some (famsPage3[0], p, 0) := by
    rw [regAt_page (n := 3) (by omega)]
    exact findFam_hit (index_hit famsPage3[0] (by simp [famsPage3]) hlt Nat.one_pos (by simp [famsPage3]) (by simp [famsPage3]))
  have hhi : regAt (0x300004 + 0x8 * p) = some (famsPage3[1], p, 0) := by
    rw [regAt_page (n := 3) (by omega)]
    exact (findFam_skip (index_miss famsPage3[0] (by change _ < 0x300000 ∨ (8 : Nat) = 0 ∧ (0 : Nat) = 0 ∧ _ ∨ (8 : Nat) ≠ 0 ∧ 1024 * 8 ≤ _ - 0x300000 ∨
          (8 : Nat) ≠ 0 ∧ (0 : Nat) = 0 ∧ (0x300004 + 0x8 * p - 0x300000) % 8 ≠ 0 ∨ _; omega))).trans
      (findFam_hit (index_hit famsPage3[1] (by simp [famsPage3]) hlt Nat.one_pos (by simp [famsPage3]) (by simp [famsPage3])))
  simp only [Reg.CNT_HALF_LO_HALF, Reg.CNT_HALF_HI_HALF, hmod, octetReg, hlo, hhi]
  simp [famsPage3, laneOf, hp]

/-- MAC_OCTET_MODE itself belongs to no lane. -/
theorem octetReg_octetMode {o q : Nat} (hq : q < 128) : octetReg o (0x200000 + 4 * q) = false := by
  obtain ⟨f, hf, hown, -⟩ := regIs_MAC_OCTET_MODE hq
  simp [octetReg, hf, laneOf, hown]

/-- Every register of the octet holds its reset value. -/
def State.octetFresh (s : State) (o : Nat) : Prop := ∀ f : Fld, f.lo < 32 → octetReg o f.addr = true → s.get f = f.rst

/-- Returning a field to its reset value, 0, keeps an octet fresh. -/
theorem octetFresh_off {s : State} {o : Nat} {g : Fld} (hg : g.rst = 0) (h : s.octetFresh o) :
    (s.off g).octetFresh o := by
  intro f hf ha
  by_cases hk : Fld.key g = Fld.key f
  · have hfind : mapFind (s.off g).regs (Fld.key f) = none := by
      rw [← hk]
      simp only [State.off, State.set, Nat.zero_mod, hg, mapSet, if_true]
      exact mapFind_del_self ..
    rw [State.get, mapGet, hfind]
    rfl
  · rw [get_off_ne _ hk]
    exact h f hf ha

theorem octetFresh_resetRegs (s : State) (o : Nat) : (s.resetRegs (octetReg o)).octetFresh o := by
  intro f hf ha
  rw [get_resetRegs, key_div f hf, if_pos ha]

theorem octetFresh_clearCounters {s : State} {o : Nat} (p : Nat) (h : s.octetFresh o) : (s.clearCounters p).octetFresh o :=
  octetFresh_off rfl (octetFresh_off rfl h)

theorem octetFresh_foldl {α : Type} {o : Nat} (f : State → α → State) (l : List α)
    (hf : ∀ s a, s.octetFresh o → (f s a).octetFresh o) : ∀ s : State, s.octetFresh o → (l.foldl f s).octetFresh o := by
  induction l with
  | nil => exact fun s h => h
  | cons a l ih => exact fun s h => ih _ (hf s a h)

theorem octetFresh_calLost {s : State} {o : Nat} (l : List Nat) (h : s.octetFresh o) : (s.calLost l).octetFresh o :=
  octetFresh_foldl _ l (fun _ _ h => octetFresh_off rfl h) _ h

/-- The lanes of an octet are its eight lane numbers. -/
theorem mem_octetLanes {o p : Nat} : p ∈ octetLanes o ↔ p / 8 = o := by
  simp only [octetLanes, List.mem_map, List.mem_range]
  constructor
  · rintro ⟨i, hi, rfl⟩; omega
  · exact fun h => ⟨p % 8, by omega, by omega⟩

/-- The part of a lane in the reset of its octet. -/
def State.laneReset (s : State) (p : Nat) : State :=
  (s.clearCounters p).modPort p fun x => { x with
    cond := linkCond0, pause := none, pfc := [], heldFrom := none, heldRem := 0, request := [], control := [], looped := [] }

theorem counter_laneReset (s : State) (p q : Nat) {i : Nat} (hi : i < 64) :
    (s.laneReset p).counter q i = if q = p then 0 else s.counter q i :=
  (counter_of_counters rfl q i).trans (counter_clearCounters s p q hi)

/-- The counters of every lane that the loop has come to are 0. -/
theorem counter_lanesReset {q i : Nat} (hi : i < 64) (l : List Nat) :
    ∀ s : State, (l.foldl State.laneReset s).counter q i = if q ∈ l then 0 else s.counter q i := by
  induction l with
  | nil => simp
  | cons p l ih =>
    intro s
    rw [List.foldl_cons, ih, counter_laneReset s p q hi]
    by_cases hq : q = p <;> simp [hq]

theorem octetReset_eq (s : State) (o : Nat) : ∃ f, s.octetReset o =
    ((octetLanes o).foldl State.laneReset (s.resetRegs (octetReg o))).modTm f := by
  unfold State.octetReset
  extract_lets s1 s2
  refine ⟨_, congrArg (State.modTm · _) ?_⟩
  unfold s2 s1 State.laneReset
  rfl

theorem octetFresh_octetReset (s : State) (o : Nat) : (s.octetReset o).octetFresh o := by
  obtain ⟨f, hf⟩ := octetReset_eq s o
  have hloop := octetFresh_foldl State.laneReset (octetLanes o) (fun _ p h => octetFresh_clearCounters p h) _
    (octetFresh_resetRegs s o)
  generalize (octetLanes o).foldl State.laneReset (s.resetRegs (octetReg o)) = u at hf hloop
  rw [hf]
  exact hloop

theorem counter_octetReset (s : State) {o p i : Nat} (hp : p / 8 = o) (hi : i < 64) : (s.octetReset o).counter p i = 0 := by
  obtain ⟨f, hf⟩ := octetReset_eq s o
  have hloop := (counter_lanesReset hi (octetLanes o) (s.resetRegs (octetReg o))).trans (if_pos (mem_octetLanes.mpr hp))
  generalize (octetLanes o).foldl State.laneReset (s.resetRegs (octetReg o)) = u at hf hloop
  rw [hf]
  exact hloop

/-- A reset of registers moves only those it names. -/
theorem only_resetRegs (s : State) (p : Nat → Bool) : s.only (s.resetRegs p) [] (keysAt p) :=
  ⟨fun q _ => by cases q <;> simp [Part.same], fun f hf => by
    rw [get_resetRegs]
    exact if_neg hf⟩

/-- What the reset of an octet can move. -/
theorem only_octetReset (s : State) {o : Nat} (ho : o < 128) :
    s.only (s.octetReset o) [.ports, .counters, .tm] (keysAt (octetReg o)) := by
  obtain ⟨f, hf⟩ := octetReset_eq s o
  have lane (u : State) (p : Nat) (hp : p ∈ octetLanes o) : u.only (u.laneReset p) [.ports, .counters, .tm] (keysAt (octetReg o)) := by
    obtain ⟨hlo, hhi⟩ := octetReg_cntHalf (mem_octetLanes.mp hp) ho
    unfold State.laneReset State.clearCounters
    dsimp only
    refine keep_modPort _ _ (keep_off _ (keep_off _ (keep_modPort _ _ ?_ (by simp)) ?_) ?_) (by simp)
    · exact keep_part (keep_refl u _ _) rfl fun q hq => by cases q <;> simp_all [Part.same]
    · rwa [keysAt, key_div _ (Nat.zero_lt_succ 31)]
    · rwa [keysAt, key_div _ (Nat.zero_lt_succ 31)]
  have loop (l : List Nat) (hl : ∀ p ∈ l, p ∈ octetLanes o) :
      ∀ u : State, u.only (l.foldl State.laneReset u) [.ports, .counters, .tm] (keysAt (octetReg o)) := by
    induction l with
    | nil => exact fun u => keep_refl u _ _
    | cons p l ih =>
      exact fun u => only_then (lane u p (hl p (by simp))) (ih (fun q hq => hl q (by simp [hq])) _)
  have hloop := only_then (only_mono (only_resetRegs s (octetReg o)) (by simp) fun _ => id)
    (loop (octetLanes o) (fun _ => id) (s.resetRegs (octetReg o)))
  generalize (octetLanes o).foldl State.laneReset (s.resetRegs (octetReg o)) = u at hf hloop
  rw [hf]
  exact keep_part hloop rfl fun q hq => by cases q <;> simp_all [Part.same]

/-! ### The write of MAC_OCTET_MODE -/

/-- The fields of MAC_OCTET_MODE. -/
def octetModeFields (o : Nat) : List (Access × Fld) := [(.rw, Reg.MAC_OCTET_MODE_RATE o), (.rw, Reg.MAC_OCTET_MODE_MODE o)]

theorem definedBits_octetMode (o : Nat) : definedBits (octetModeFields o) = 0x37 :=
  (definedBits_eq_placesMask _).trans (by change placesMask [(4, 2), (0, 3)] = _; decide)

theorem octetModeKeys_ne (o q : Nat) : Fld.key (Reg.MAC_OCTET_MODE_RATE o) ≠ Fld.key (Reg.MAC_OCTET_MODE_MODE q) := by
  simp only [Fld.key, Reg.MAC_OCTET_MODE_RATE, Reg.MAC_OCTET_MODE_MODE]; omega

section OctetMode

variable {s : State} {o v : Nat}

/-- The two fields as a write leaves them. -/
theorem get_storeFields_octetMode (s : State) (o v : Nat) :
    (s.storeFields (octetModeFields o) v).get (Reg.MAC_OCTET_MODE_MODE o) = bits v 0 3 ∧
    (s.storeFields (octetModeFields o) v).get (Reg.MAC_OCTET_MODE_RATE o) = bits v 4 2 := by
  simp only [octetModeFields, storeFields_rw, storeFields_nil]
  refine ⟨(get_set_self ..).trans (Nat.mod_mod ..), ?_⟩
  exact (get_set_ne _ _ (octetModeKeys_ne o o).symm).trans ((get_set_self ..).trans (Nat.mod_mod ..))

theorem only_storeFields_octetMode (s : State) (o v : Nat) :
    s.only (s.storeFields (octetModeFields o) v) [] (regsOf ["MAC_OCTET_MODE"]) :=
  only_mono (only_storeFields v _ s) (by simp) fun _ hk => regsOf_of_fields 2 0 o 0 rfl (by simp) hk

/-- Acts that keep the fields of MAC_OCTET_MODE, the mode's own reset among them. -/
theorem get_octetReset_octetMode (s : State) (ho : o < 128) {f : Fld} (hlo : f.lo < 32) (ha : f.addr = 0x200000 + 0x4 * (o % 128)) :
    (s.octetReset o).get f = s.get f :=
  (only_octetReset s ho).2 f fun h => by
    rw [keysAt, key_div f hlo, ha, Nat.mod_eq_of_lt ho, octetReg_octetMode ho] at h
    exact absurd h (by simp)

theorem get_calLost_octetMode (s : State) (l : List Nat) (o : Nat) :
    (s.calLost l).get (Reg.MAC_OCTET_MODE_MODE o) = s.get (Reg.MAC_OCTET_MODE_MODE o) ∧
    (s.calLost l).get (Reg.MAC_OCTET_MODE_RATE o) = s.get (Reg.MAC_OCTET_MODE_RATE o) :=
  ⟨kept_of_only (frame_calLost s l) (a := .rw) 2 o 0 (List.mem_of_getElem? (i := 0) rfl) (by simp) (by simp),
   kept_of_only (frame_calLost s l) (a := .rw) 2 o 0 (List.mem_of_getElem? (i := 0) rfl) (by simp) (by simp)⟩

/-- What an accepted write of MAC_OCTET_MODE leaves. -/
def State.octetMoved (s : State) (o v : Nat) : State := macEffect s (s.storeFields (octetModeFields o) v) (4 * o)

/-- A write that keeps MODE ends at most the calibrations. -/
theorem octetMoved_cases (s : State) (ho : o < 128) (v : Nat) :
    (bits v 0 3 = s.get (Reg.MAC_OCTET_MODE_MODE o) → s.octetMoved o v = s.storeFields (octetModeFields o) v ∨
      s.octetMoved o v = (s.storeFields (octetModeFields o) v).calLost (octetLanes o)) ∧
    (bits v 0 3 ≠ s.get (Reg.MAC_OCTET_MODE_MODE o) →
      s.octetMoved o v = ((s.storeFields (octetModeFields o) v).octetReset o).calLost (octetLanes o)) := by
  obtain ⟨hmode, hrate⟩ := get_storeFields_octetMode s o v
  have hdiv : 4 * o / 4 = o := by omega
  unfold State.octetMoved macEffect
  rw [if_pos (by omega), hdiv]
  simp only [hmode, hrate]
  refine ⟨fun h => ?_, fun h => ?_⟩
  · simp only [h, bne_self_eq_false, Bool.false_or, Bool.false_eq_true, if_false]
    split
    · exact .inr rfl
    · exact .inl rfl
  · have hne : (s.get (Reg.MAC_OCTET_MODE_MODE o) != bits v 0 3) = true := by simpa using fun e => h e.symm
    simp only [hne, Bool.true_or, if_true]

/-- The fields of MAC_OCTET_MODE after the write. -/
theorem get_octetMoved (s : State) (ho : o < 128) (v : Nat) :
    (s.octetMoved o v).get (Reg.MAC_OCTET_MODE_MODE o) = bits v 0 3 ∧
    (s.octetMoved o v).get (Reg.MAC_OCTET_MODE_RATE o) = bits v 4 2 := by
  obtain ⟨hmode, hrate⟩ := get_storeFields_octetMode s o v
  obtain ⟨hsame, hnew⟩ := octetMoved_cases s ho v
  by_cases h : bits v 0 3 = s.get (Reg.MAC_OCTET_MODE_MODE o)
  · obtain e | e := hsame h
    · rw [e]; exact ⟨hmode, hrate⟩
    · rw [e, (get_calLost_octetMode ..).1, (get_calLost_octetMode ..).2]; exact ⟨hmode, hrate⟩
  · rw [hnew h, (get_calLost_octetMode ..).1, (get_calLost_octetMode ..).2,
      get_octetReset_octetMode _ ho (by exact Nat.zero_lt_succ 31) rfl, get_octetReset_octetMode _ ho (by exact (by decide : 4 < 32)) rfl]
    exact ⟨hmode, hrate⟩

/-- What a new MODE moves. -/
theorem only_octetMoved_new (ho : o < 128) (h : bits v 0 3 ≠ s.get (Reg.MAC_OCTET_MODE_MODE o)) :
    s.only (s.octetMoved o v) [.ports, .counters, .tm]
      (fun k => octetReg o (k / 32) = true ∨ regsOf ["MAC_OCTET_MODE", "STAMP_PORT_STATUS"] k) := by
  rw [(octetMoved_cases s ho v).2 h]
  have h1 := only_mono (only_storeFields_octetMode s o v) (Q := [.ports, .counters, .tm]) (by simp)
    (n := fun k => octetReg o (k / 32) = true ∨ regsOf ["MAC_OCTET_MODE", "STAMP_PORT_STATUS"] k)
    fun _ hk => .inr (regsOf_mono (by simp) hk)
  have h2 := only_mono (only_octetReset (s.storeFields (octetModeFields o) v) ho) (Q := [.ports, .counters, .tm]) (by simp)
    (n := fun k => octetReg o (k / 32) = true ∨ regsOf ["MAC_OCTET_MODE", "STAMP_PORT_STATUS"] k) fun _ hk => .inl hk
  have h3 := only_mono (frame_calLost ((s.storeFields (octetModeFields o) v).octetReset o) (octetLanes o))
    (Q := [.ports, .counters, .tm]) (by simp)
    (n := fun k => octetReg o (k / 32) = true ∨ regsOf ["MAC_OCTET_MODE", "STAMP_PORT_STATUS"] k)
    fun _ hk => .inr (regsOf_mono (by simp) hk)
  exact only_then h1 (only_then h2 h3)

/-- What a write that keeps MODE moves. -/
theorem only_octetMoved_same (ho : o < 128) (h : bits v 0 3 = s.get (Reg.MAC_OCTET_MODE_MODE o)) :
    s.only (s.octetMoved o v) [] (regsOf ["MAC_OCTET_MODE", "STAMP_PORT_STATUS"]) := by
  have h1 := only_mono (only_storeFields_octetMode s o v) (Q := []) (by simp)
    (n := regsOf ["MAC_OCTET_MODE", "STAMP_PORT_STATUS"]) fun _ => regsOf_mono (by simp)
  obtain e | e := (octetMoved_cases s ho v).1 h
  · rwa [e]
  · rw [e]
    exact keep_of (frame_calLost _ _) h1 (by simp) (by simp)

/-- No register of an octet is the one that holds the warm reset. -/
theorem get_warmReset_octetMoved (s : State) (ho : o < 128) (v : Nat) :
    (s.octetMoved o v).get Reg.SYS_CTRL_WARM_RESET = s.get Reg.SYS_CTRL_WARM_RESET := by
  by_cases h : bits v 0 3 = s.get (Reg.MAC_OCTET_MODE_MODE o)
  · exact get_warmReset_of_only (only_octetMoved_same ho h) (by simp)
  · refine (only_octetMoved_new ho h).2 _ ?_
    rintro (hk | hk)
    · rw [key_div _ (by decide)] at hk
      simp [octetReg, show regAt Reg.SYS_CTRL_WARM_RESET.addr = some (famsPage0[12], 0, 0) from rfl, famsPage0, laneOf] at hk
    · exact not_regsOf 0 0 0 (List.mem_of_getElem? (i := 12) rfl) (a := .wo) (by simp) (by simp) hk

section Exec

variable (hs : s.served) (hu : s.funcUp .mac = true) (hspan : s.spanOn = false) (ho : o < 128) (hv : v < 2 ^ 32)
variable (hw : within v 0x37 = true)
include ho

include hspan in
theorem pageCheck_octetMode : s.pageCheck 2 (4 * o) v = if octetModeOk (bits v 0 3) (bits v 4 2) = false then .range
    else if ((List.range 8).any fun i => s.bit (Reg.MAC_PORT_CTRL_ENABLE (8 * o + i)) || s.linkState (8 * o + i) == stFlushing) = true
    then .busy else .ok := by
  have hdiv : 4 * o / 4 = o := by omega
  have hheld : s.spanHolds (4 * o) = false := by simp [State.spanHolds, hspan]
  simp only [State.pageCheck, macCheck, if_pos (show 4 * o < 0x200 by omega), hdiv, hheld, rangeFirst]
  simp

include hu hs hv hw

theorem exec_octetMode_refused {st : Status} (hc : s.pageCheck 2 (4 * o) v = st) (hst : st ≠ .ok) :
    s.turnsAway (.octetModeWrite o v) st :=
  turnsAway_of_write hs (regIs_MAC_OCTET_MODE ho) (by unfold pageOf; omega) (by omega)
    (by simp [State.pageDown, show pageOf (0x200000 + 4 * o) = 2 by unfold pageOf; omega, pageFunc, hu]) trivial hv
    ((definedBits_octetMode o).symm ▸ hw) rfl (onObject_ok ho _) hc hst

theorem exec_octetMode_ok (hc : s.pageCheck 2 (4 * o) v = .ok) :
    exec (.octetModeWrite o v) s = .next ((s.octetMoved o v).answered .ok) :=
  (onObject_ok ho _).trans (pageWrite_ok hs (regIs_MAC_OCTET_MODE ho) (by unfold pageOf; omega) (by omega)
    (by simp [State.pageDown, show pageOf (0x200000 + 4 * o) = 2 by unfold pageOf; omega, pageFunc, hu]) trivial hv
    ((definedBits_octetMode o).symm ▸ hw) rfl hc rfl ((get_warmReset_octetMoved s ho v).trans (get_warmReset_of_served hs)))

end Exec

end OctetMode

/-- Settles O11: the check decides, and the effect is the reset of the octet's registers or the end of its calibrations. -/
theorem anOctetTakesANewMode : Obligations.AnOctetTakesANewMode := by
  intro s o v hs hu hspan ho hv hw
  have hcheck := pageCheck_octetMode (v := v) hspan ho
  refine ⟨fun hbad => ?_, fun hok hport => ?_, fun hok hfree => ?_⟩
  · rw [if_pos hbad] at hcheck
    exact exec_octetMode_refused hs hu ho hv hw hcheck (by simp)
  · obtain ⟨i, hi, hen⟩ := hport
    rw [if_neg (by simp [hok]), if_pos (List.any_eq_true.mpr ⟨i, List.mem_range.mpr hi, by simp [hen]⟩)] at hcheck
    exact exec_octetMode_refused hs hu ho hv hw hcheck (by simp)
  · rw [if_neg (by simp [hok]), if_neg] at hcheck
    · obtain ⟨hmode, hrate⟩ := get_octetMoved s ho v
      have hexec := exec_octetMode_ok hs hu ho hv hw hcheck
      refine ⟨_, hexec, rfl, hmode, hrate, fun hne => ?_, fun heq => ?_⟩
      · have hmoved := (octetMoved_cases s ho v).2 hne
        refine ⟨fun f hf ha => ?_, fun p i hp hi => ?_, only_answered .ok (only_octetMoved_new ho hne)⟩
        · rw [answered_get, hmoved]
          exact octetFresh_calLost _ (octetFresh_octetReset _ o) f hf ha
        · have hcal := (frame_calLost ((s.storeFields (octetModeFields o) v).octetReset o) (octetLanes o)).1 .counters (by simp)
          rw [← hmoved] at hcal
          exact (counter_of_counters hcal p i).trans (counter_octetReset _ hp hi)
      · exact only_answered .ok (only_octetMoved_same ho heq)
    · intro h
      obtain ⟨i, hi, hbusy⟩ := List.any_eq_true.mp h
      obtain ⟨hen, hst⟩ := hfree i (List.mem_range.mp hi)
      simp [hen, hst] at hbusy

end Sys2Proof.Machine
end

section
/-! Profiles (R208): the statement ranges over register stores that list a field at its reset value. -/

-- One proof at a time: side by side they take more threads than the memory bound of the check leaves room for.
set_option Elab.async false

namespace Sys2Proof.Machine

/-- The register store lists RANGE_EN of profile 1 although it holds its reset value 0. -/
def listedRangeEn : State := startedWith [(Fld.key (Reg.PARSE_PROF_CTRL_RANGE_EN 1), 0)]

theorem listedRangeEn_served : listedRangeEn.served := by
  unfold State.served
  decide

/-- A field at the place of RANGE_EN of profile 1 whose reset value is 5: it reads 0 while that place is listed, and 5 once it is not. -/
def otherResetValue : Fld := { Reg.PARSE_PROF_CTRL_RANGE_EN 1 with rst := 5 }

/-- The write stores RANGE_EN again and so takes it off the list. -/
theorem profileValidWrite_listedRangeEn :
    outcomeTest (exec (.profileValidWrite 1 0x10000) listedRangeEn) (fun t => t.get otherResetValue == 5) = true := by
  decide +kernel

/-- Refutes O34: an accepted write of VALID = 1 stores RANGE_EN again as it stands. Where the register store lists RANGE_EN at 0, its
reset value, the write takes it off the list, and what a field of another reset value reads at that place changes; the statement's
frame is over every field, and names VALID alone. -/
theorem not_profilesAndTagsDrainBeforeReuse : ¬ Obligations.ProfilesAndTagsDrainBeforeReuse := by
  unfold Obligations.ProfilesAndTagsDrainBeforeReuse
  intro h
  obtain ⟨hwrite, -⟩ := h listedRangeEn
  obtain ⟨hvalid, -⟩ := hwrite 1 0x10000 listedRangeEn_served rfl (by decide) (by decide) (by decide) (by decide) (by decide)
  obtain ⟨t, hexec, -, -, -, hkept⟩ := hvalid (by decide) (by decide)
  have hmoved := profileValidWrite_listedRangeEn
  rw [outcomeTest_next hexec, hkept otherResetValue (by unfold keysOf; decide)] at hmoved
  exact absurd hmoved (by decide)

end Sys2Proof.Machine
end

section
/-! Policers and shapers (R353 to R361, R366, R368). -/

-- One proof at a time: side by side they take more threads than the memory bound of the check leaves room for.
set_option Elab.async false

namespace Sys2Proof.Machine

/-- A command's core that leaves the registers of the rings alone keeps the completion ring. -/
theorem cq_of_only {s t : State} {P : List Part} {L : List String} (h : s.only t P (regsOf L)) (hL : "RING_CFG" ∉ L) (n : Nat) :
    t.get (Reg.RING_CFG_CQ n) = s.get (Reg.RING_CFG_CQ n) :=
  kept_of_only h (a := .rw) 19 n 0 (List.mem_of_getElem? (i := 14) rfl) (by simp) hL

/-- A frame that names no register. -/
theorem only_noRegs {s t : State} {P : List Part} (h : s.only t P (regsOf [])) : s.only t P (keysOf []) :=
  only_mono h (fun _ => id) fun k ⟨_, _, _, _, _, hn, _⟩ => absurd hn (by simp)

/-! ### Buckets -/

/-- A bucket that is filled up to now: filling it again changes nothing. -/
def Bucket.filledAt (b : Bucket) (now : Nat) : Prop := b.en = true → b.level ≤ (b.burst * byteUnits : Nat) ∧ b.at_ = now

theorem fill_of_filledAt {b : Bucket} {now : Nat} (h : b.filledAt now) (he : b.en = true) : b.fill now = b := by
  obtain ⟨hl, ha⟩ := h he
  rw [Bucket.fill, if_pos he, ha, Nat.sub_self, Nat.mul_zero]
  obtain ⟨en, rate, burst, level, at_⟩ := b
  simp_all

theorem filledAt_fill (b : Bucket) (now : Nat) : (b.fill now).filledAt now := by
  intro he
  unfold Bucket.fill at he ⊢
  split
  · exact ⟨min_le_left _ _, rfl⟩
  · simp_all

theorem filledAt_of_off {b : Bucket} (h : b.en = false) (now : Nat) : b.filledAt now := fun he => absurd (he.symm.trans h) (by simp)

theorem filledAt_debit {b : Bucket} {now : Nat} (h : b.filledAt now) (n : Int) : (b.debit n).filledAt now := by
  unfold Bucket.debit
  split
  next he =>
    refine fun _ => ⟨max_le ?_ (min_le_left _ _), (h he).2⟩
    have : (0 : Int) ≤ (b.burst * byteUnits : Nat) := Int.natCast_nonneg _
    omega
  next => exact h

@[simp] theorem en_debit (b : Bucket) (n : Int) : (b.debit n).en = b.en := by
  unfold Bucket.debit; split <;> rfl

/-- New settings leave a bucket filled up to now. -/
theorem filledAt_setTo (b : Bucket) (now : Nat) (en : Bool) (rate burst : Nat) : (b.setTo now en rate burst).filledAt now := by
  refine fun _ => ⟨?_, rfl⟩
  simp only [Bucket.setTo]
  split
  · exact le_rfl
  · exact min_le_left _ _

/-- The debits of a handshake. -/
theorem filledAt_debits {now : Nat} (l : List Int) : ∀ b : Bucket, b.filledAt now →
    (l.foldl (fun b n => b.debit n) b).filledAt now ∧ (l.foldl (fun b n => b.debit n) b).en = b.en := by
  induction l with
  | nil => exact fun b h => ⟨h, rfl⟩
  | cons n l ih =>
    intro b h
    obtain ⟨h1, h2⟩ := ih _ (filledAt_debit h n)
    exact ⟨h1, h2.trans (en_debit b n)⟩

/-! ### Policers -/

section Policers

variable (s : State) (n : Nat)

/-- A policer is read filled up to now. -/
theorem filledAt_policer : (s.policer n).bucket.filledAt s.cycle := by
  unfold State.policer
  dsimp only
  split
  · exact filledAt_fill _ _
  next h => exact filledAt_of_off (by simpa using h) _

theorem filledAt_takeDebits {p : Policer} {now : Nat} (h : p.bucket.filledAt now) : p.takeDebits.bucket.filledAt now := by
  unfold Policer.takeDebits
  split
  · exact (filledAt_debits _ _ h).1
  · exact h

/-- A stored policer that is filled up to now is read as it was stored. -/
theorem policer_of_stored {t : State} {p : Policer} (h : mapGet t.tm.policers n policer0 = p) (hf : p.bucket.filledAt t.cycle) :
    t.policer n = p := by
  unfold State.policer
  simp only [h]
  split
  next he => rw [fill_of_filledAt hf he]
  next => rfl

theorem mapGet_setPolicer_self (p : Policer) : mapGet (s.setPolicer n p).tm.policers n policer0 = p := mapGet_set_self ..

theorem mapGet_setPolicer_ne (p : Policer) {k : Nat} (h : k ≠ n) :
    mapGet (s.setPolicer n p).tm.policers k policer0 = mapGet s.tm.policers k policer0 := mapGet_set_ne _ _ _ _ h.symm

theorem policer_setPolicer_self {p : Policer} (hf : p.bucket.filledAt s.cycle) : (s.setPolicer n p).policer n = p :=
  policer_of_stored n (mapGet_setPolicer_self ..) hf

/-- Policers read the same where the traffic manager and the cycle are the same. -/
theorem policer_congr {s t : State} (ht : t.tm = s.tm) (hc : t.cycle = s.cycle) (n : Nat) : t.policer n = s.policer n := by
  simp only [State.policer, ht, hc]

/-- The start position of the rotation after its handshake. -/
def Policer.handshaken (p : Policer) (some_ : Bool) : Policer :=
  { p.takeDebits with start := if some_ then (p.takeDebits.start + 1) % 65 else p.takeDebits.start }

theorem start_takeDebits (p : Policer) : p.takeDebits.start = p.start := by unfold Policer.takeDebits; split <;> rfl

theorem drops_takeDebits (p : Policer) : p.takeDebits.drops = p.drops := by unfold Policer.takeDebits; split <;> rfl

end Policers

/-! ### The decisions of a handshake -/

section Decide

variable {s : State} {n f : Nat} {x : Frame}

/-- What the decision of one frame leaves. -/
theorem policeFrame_spec (h : s.frame f = some x) :
    (s.policeFrame n f).frame f = some { x with verdict := some ((s.policer n).passes x.mark.colour) } ∧
    (∀ g, g ≠ f → (s.policeFrame n f).frame g = s.frame g) ∧
    mapGet (s.policeFrame n f).tm.policers n policer0 =
      (if (s.policer n).passes x.mark.colour = false then { s.policer n with drops := min 0xFFFFFFFF ((s.policer n).drops + 1) }
       else if x.ended then { s.policer n with debits := (s.policer n).debits ++ [debitOf x] } else s.policer n) := by
  unfold State.policeFrame
  simp only [h]
  refine ⟨mapFind_put_self .., fun g hg => mapFind_put_ne _ _ hg.symm, ?_⟩
  refine (mapGet_setPolicer_self ..).trans ?_
  cases (s.policer n).passes x.mark.colour <;> simp

theorem policeFrame_none (h : s.frame f = none) : s.policeFrame n f = s := by
  unfold State.policeFrame
  simp only [h]

theorem cycle_policeFrame (s : State) (n f : Nat) : (s.policeFrame n f).cycle = s.cycle :=
  (frame_policeFrame s n f).1 .cycle (by decide)

/-- A decision keeps the start position. -/
theorem start_policeFrame (s : State) (n f : Nat) : ((s.policeFrame n f).policer n).start = (s.policer n).start := by
  cases h : s.frame f with
  | none => rw [policeFrame_none h]
  | some x =>
    obtain ⟨-, -, hp⟩ := policeFrame_spec (n := n) h
    rw [policer_of_stored n hp]
    · split
      · rfl
      · split <;> rfl
    · rw [cycle_policeFrame]
      have hf := filledAt_policer s n
      split
      · exact hf
      · split <;> exact hf

/-- Once decided, a frame stays decided. -/
def State.decided (s : State) (f : Nat) : Prop := ∃ y v, s.frame f = some y ∧ y.verdict = some v

theorem decided_policeFrame {g : Nat} (h : s.decided g) : (s.policeFrame n f).decided g := by
  cases hf : s.frame f with
  | none => rwa [policeFrame_none hf]
  | some x =>
    obtain ⟨hself, hother, -⟩ := policeFrame_spec (n := n) hf
    by_cases hg : g = f
    · subst hg
      exact ⟨_, _, hself, rfl⟩
    · obtain ⟨y, v, hy, hv⟩ := h
      exact ⟨y, v, (hother g hg).trans hy, hv⟩

/-- A frame that is there stays there. -/
theorem isSome_frame_policeFrame {g : Nat} (h : (s.frame g).isSome) : ((s.policeFrame n f).frame g).isSome := by
  cases hf : s.frame f with
  | none => rwa [policeFrame_none hf]
  | some x =>
    obtain ⟨hself, hother, -⟩ := policeFrame_spec (n := n) hf
    by_cases hg : g = f
    · rw [hg, hself]; rfl
    · rwa [hother g hg]

/-- A run of decisions keeps the start position and decides every frame of the run. -/
theorem policeFrames_spec (l : List Nat) : ∀ s : State,
    ((l.foldl (fun s f => s.policeFrame n f) s).policer n).start = (s.policer n).start ∧
    (∀ g, s.decided g → (l.foldl (fun s f => s.policeFrame n f) s).decided g) ∧
    ∀ g ∈ l, (s.frame g).isSome → (l.foldl (fun s f => s.policeFrame n f) s).decided g := by
  induction l with
  | nil => exact fun s => ⟨rfl, fun _ => id, by simp⟩
  | cons f l ih =>
    intro s
    obtain ⟨hstart, hkeep, hall⟩ := ih (s.policeFrame n f)
    refine ⟨hstart.trans (start_policeFrame s n f), fun g hg => hkeep g (decided_policeFrame hg), fun g hg hs => ?_⟩
    rw [List.foldl_cons]
    obtain rfl | hg := List.mem_cons.mp hg
    · obtain ⟨x, hx⟩ := Option.isSome_iff_exists.mp hs
      exact hkeep g ⟨_, _, (policeFrame_spec (n := n) hx).1, rfl⟩
    · exact hall g hg (isSome_frame_policeFrame hs)

end Decide

/-- The order in which a handshake decides its requests (R360). -/
def State.policerOrder (s : State) (n : Nat) (l : List Nat) : List Nat :=
  (rotation 65 (s.policer n).takeDebits.start).flatMap fun k =>
    l.filter fun f => match s.frame f with | some x => requesterOf x == k | none => false

/-- A rotation comes to every position. -/
theorem mem_rotation {n k : Nat} (start : Nat) (h : k < n) : k ∈ rotation n start := by
  rw [rotation, List.mem_map]
  refine ⟨(k + (n - start % n)) % n, List.mem_range.mpr (Nat.mod_lt _ (by omega)), ?_⟩
  have hlt : start % n < n := Nat.mod_lt _ (by omega)
  rw [Nat.add_mod_mod, Nat.add_mod, Nat.add_mod k]
  have hdecomp : start % n + (k % n + (n - start % n) % n) % n = start % n + (k + (n - start % n)) % n := by
    rw [← Nat.add_mod]
  rw [hdecomp, Nat.add_mod_mod, show start % n + (k + (n - start % n)) = k + n by omega, Nat.add_mod_right, Nat.mod_eq_of_lt h]

theorem requesterOf_lt (x : Frame) : requesterOf x < 65 := by
  unfold requesterOf pipeOf
  split <;> omega

/-- Every frame of a request is decided in its turn. -/
theorem mem_policerOrder {s : State} {n f : Nat} {l : List Nat} (hf : f ∈ l) (hx : (s.frame f).isSome) : f ∈ s.policerOrder n l := by
  obtain ⟨x, hx⟩ := Option.isSome_iff_exists.mp hx
  exact List.mem_flatMap.mpr ⟨_, mem_rotation _ (requesterOf_lt x), List.mem_filter.mpr ⟨hf, by simp [hx]⟩⟩

/-- Where one frame asks, one is decided. -/
theorem policerOrder_single {s : State} {n f : Nat} {x : Frame} (hx : s.frame f = some x) : s.policerOrder n [f] = [f] := by
  have hnodup : (rotation 65 (s.policer n).takeDebits.start).Nodup := by
    unfold rotation
    refine List.Nodup.map_on (fun a ha b hb h => ?_) List.nodup_range
    rw [List.mem_range] at ha hb
    omega
  have hfilter (k : Nat) : ([f].filter fun f => match s.frame f with | some x => requesterOf x == k | none => false) =
      if requesterOf x = k then [f] else [] := by
    by_cases h : requesterOf x = k <;> simp [hx, h]
  simp only [State.policerOrder, hfilter]
  have hflat (l : List Nat) (hl : l.Nodup) (hmem : requesterOf x ∈ l) :
      (l.flatMap fun k => if requesterOf x = k then [f] else []) = [f] := by
    induction l with
    | nil => simp at hmem
    | cons k l ih =>
      obtain ⟨hk, hl⟩ := List.nodup_cons.mp hl
      rw [List.flatMap_cons]
      by_cases h : requesterOf x = k
      · have hrest : (l.flatMap fun k => if requesterOf x = k then [f] else []) = [] := by
          refine List.flatMap_eq_nil_iff.mpr fun j hj => if_neg fun e => hk ?_
          rwa [← h, e]
        rw [if_pos h, hrest]
        rfl
      · rw [if_neg h]
        exact ih hl ((List.mem_cons.mp hmem).resolve_left h)
  exact hflat _ hnodup (mem_rotation _ (requesterOf_lt x))

/-- A handshake of a policer whose function is up. -/
theorem policerRun_eq (s : State) (n : Nat) (l : List Nat) : s.policerRun n l =
    (s.policerOrder n l).foldl (fun s f => s.policeFrame n f) (s.setPolicer n ((s.policer n).handshaken !l.isEmpty)) := by
  unfold State.policerRun State.policerOrder Policer.handshaken
  cases l <;> rfl

section Handshake

variable (s : State) (n : Nat)

theorem filledAt_handshaken (b : Bool) : ((s.policer n).handshaken b).bucket.filledAt s.cycle :=
  filledAt_takeDebits (filledAt_policer s n)

theorem policer_handshaken (b : Bool) :
    (s.setPolicer n ((s.policer n).handshaken b)).policer n = (s.policer n).handshaken b :=
  policer_setPolicer_self _ _ (filledAt_handshaken s n b)

/-- Without requests only the debits are applied. -/
theorem policerRun_nil : s.policerRun n [] = s.setPolicer n (s.policer n).takeDebits := by
  have horder : s.policerOrder n [] = [] := by simp [State.policerOrder]
  rw [policerRun_eq, horder]
  rfl

/-- With requests the start moves by one and every request that stands for a frame is decided. -/
theorem policerRun_spec {l : List Nat} (hl : l ≠ []) :
    ((s.policerRun n l).policer n).start = ((s.policer n).start + 1) % 65 ∧
    ∀ f ∈ l, (s.frame f).isSome → (s.policerRun n l).decided f := by
  have hne : (!l.isEmpty) = true := by simpa using hl
  rw [policerRun_eq, hne]
  obtain ⟨hstart, -, hall⟩ := policeFrames_spec (n := n) (s.policerOrder n l) (s.setPolicer n ((s.policer n).handshaken true))
  refine ⟨?_, fun f hf hs => hall f (mem_policerOrder hf hs) hs⟩
  rw [hstart, policer_handshaken, Policer.handshaken, if_pos rfl, start_takeDebits]

/-- A frame that asks is one of the frames of the path. -/
theorem isSome_frame_of_request {f : Nat} (hf : f ∈ s.policerRequests n) : (s.frame f).isSome := by
  obtain ⟨e, he, rfl⟩ := List.mem_map.mp hf
  have hmem : ∀ m : SMap Frame, e ∈ m → (mapFind m e.1).isSome := by
    intro m
    induction m with
    | nil => simp
    | cons a m ih =>
      obtain ⟨k, v⟩ := a
      intro h
      by_cases hk : k = e.1
      · simp [mapFind, hk]
      · rw [mapFind, if_neg hk]
        exact ih ((List.mem_cons.mp h).resolve_left fun h' => hk (by rw [h']))
  exact hmem _ (List.mem_of_mem_filter he)

variable {s n} in
/-- One request alone is decided on the policer as the debits leave it. -/
theorem policerRun_single {f : Nat} {x : Frame} (hx : s.frame f = some x) :
    (s.policerRun n [f]).frame f = some { x with verdict := some ((s.policer n).takeDebits.passes x.mark.colour) } ∧
    (∀ g, g ≠ f → (s.policerRun n [f]).frame g = s.frame g) ∧
    ((s.policer n).takeDebits.passes x.mark.colour = false →
      ((s.policerRun n [f]).policer n).drops = min 0xFFFFFFFF ((s.policer n).drops + 1)) := by
  rw [policerRun_eq, policerOrder_single hx, List.foldl_cons, List.foldl_nil]
  have hp := policer_handshaken s n true
  have hfilled := filledAt_handshaken s n true
  have hpass : ((s.policer n).handshaken true).passes x.mark.colour = (s.policer n).takeDebits.passes x.mark.colour := rfl
  have hframe : ∀ g, (s.setPolicer n ((s.policer n).handshaken true)).frame g = s.frame g := fun _ => rfl
  have hcycle : (s.setPolicer n ((s.policer n).handshaken true)).cycle = s.cycle := rfl
  have hdrops : ((s.policer n).handshaken true).drops = (s.policer n).drops := drops_takeDebits _
  change ((State.setPolicer s n ((s.policer n).handshaken true)).policeFrame n f).frame f = _ ∧ _
  simp only [List.isEmpty_cons, Bool.not_false]
  generalize State.setPolicer s n ((s.policer n).handshaken true) = u at *
  obtain ⟨hself, hother, hstored⟩ := policeFrame_spec (n := n) ((hframe f).trans hx)
  rw [hp] at hself hstored
  rw [hpass] at hself hstored
  refine ⟨hself, fun g hg => (hother g hg).trans (hframe g), fun hno => ?_⟩
  rw [if_pos hno] at hstored
  rw [policer_of_stored n hstored, ← hdrops]
  rw [cycle_policeFrame, hcycle]
  exact hfilled

end Handshake

/-! ### The commands of policers and shapers -/

/-- The commands of this chapter are carried by no routine. -/
theorem tm_noRoutine {op : Nat} (h : op ∈ [0x40, 0x41, 0x42, 0x43, 0x44, 0x45, 0x46, 0x47]) :
    ∀ o, opInfo op = some o → o.routine = none := by
  intro o ho
  simp only [List.mem_cons, List.not_mem_nil, or_false] at h
  rcases h with rfl | rfl | rfl | rfl | rfl | rfl | rfl | rfl <;> cases ho <;> rfl

/-- A mirrored change moves the mirror's record alone. -/
theorem tm_mirrorItem (s : State) (op : Nat) (e : List Byte) (f : Nat × List Byte → Bool) : (s.mirrorItem op e f).tm = s.tm ∧
    (s.mirrorItem op e f).cycle = s.cycle :=
  ⟨(frame_mirrorItem s op e f).1 .tm (by decide), (frame_mirrorItem s op e f).1 .cycle (by decide)⟩

section Shapers

variable (s : State) (n : Nat)

theorem shaper_of_stored {t : State} {b : Bucket} (h : mapGet t.tm.shapers n bucket0 = b) (hf : b.filledAt t.cycle) :
    t.shaper n = b := by
  unfold State.shaper
  simp only [h]
  split
  next he => rw [fill_of_filledAt hf he]
  next => rfl

end Shapers

/-- What TM_POLICER_SET leaves of the policers. -/
theorem putPolicer_spec (s : State) (b : List Byte) : mapGet (s.putPolicer b).tm.policers (leAt b 0 2) policer0 =
      { s.policer (leAt b 0 2) with
        bucket := (s.policer (leAt b 0 2)).bucket.setTo s.cycle (bitOf (leAt b 2 1) 0) (leAt b 4 4) (leAt b 8 4)
        aware := bitOf (leAt b 2 1) 1 } ∧
    ∀ k, k ≠ leAt b 0 2 → mapGet (s.putPolicer b).tm.policers k policer0 = mapGet s.tm.policers k policer0 :=
  ⟨mapGet_setPolicer_self .., fun _ hk => mapGet_setPolicer_ne _ _ _ hk⟩

/-- A bucket newly enabled is full. -/
theorem level_setTo_of_new {b : Bucket} (h : b.en = false) (now rate burst : Nat) :
    (b.setTo now true rate burst).level = (burst * byteUnits : Nat) := by
  simp [Bucket.setTo, h]

section Ends

variable {s : State} {c : CmdIn}

theorem ends_tmPolicerSet (h : s.accepts 0x40 c) (hok : policerOk c.input = true) :
    s.ends (.tmPolicerSet c) 0x40 c CmdRes.ok [.tm, .pair] (regsOf ["PAIR_MIRROR_LEVEL"]) fun t =>
      (t.policer (leAt c.input 0 2)).aware = bitOf (leAt c.input 2 1) 1 ∧
      (t.policer (leAt c.input 0 2)).bucket = (s.policer (leAt c.input 0 2)).bucket.setTo s.cycle (bitOf (leAt c.input 2 1) 0)
        (leAt c.input 4 4) (leAt c.input 8 4) ∧
      ∀ k, k ≠ leAt c.input 0 2 → mapGet t.tm.policers k policer0 = mapGet s.tm.policers k policer0 := by
  have hframe := frame_corePolicerSet c s
  have hcore : corePolicerSet c s = (CmdRes.ok, (s.putPolicer c.input).mirrorItem 0x40 c.input
      fun w => w.1 == 0x40 && w.2 == c.input.take 2) := by rw [corePolicerSet, if_pos hok]
  rw [hcore] at hframe
  refine ends_of_core rfl h (tm_noRoutine (by simp)) hcore hframe (cq_of_only hframe (by simp) _) fun t ht => ?_
  obtain ⟨htm, hcyc⟩ := tm_mirrorItem (s.putPolicer c.input) 0x40 c.input fun w => w.1 == 0x40 && w.2 == c.input.take 2
  have htm' : t.tm = (s.putPolicer c.input).tm := (ht.1 .tm (by decide)).trans htm
  have hcyc' : t.cycle = s.cycle := (ht.1 .cycle (by decide)).trans hcyc
  obtain ⟨hself, hother⟩ := putPolicer_spec s c.input
  rw [← htm'] at hself hother
  have hread := policer_of_stored _ hself (by rw [hcyc']; exact filledAt_setTo _ _ _ _ _)
  exact ⟨congrArg Policer.aware hread, congrArg Policer.bucket hread, hother⟩

theorem ends_tmShaperSet (h : s.accepts 0x42 c) (hidx : s.shaperIndexOk (leAt c.input 0 2) = true) (h2 : leAt c.input 2 1 < 2)
    (h3 : leAt c.input 3 1 = 0) (h12 : leAt c.input 12 4 = 0)
    (hb : bucketOk (bitOf (leAt c.input 2 1) 0) (leAt c.input 4 4) (leAt c.input 8 4) = true) :
    s.ends (.tmShaperSet c) 0x42 c CmdRes.ok [.tm, .pair] (regsOf ["PAIR_MIRROR_LEVEL"]) fun t =>
      t.shaper (leAt c.input 0 2) = (s.shaper (leAt c.input 0 2)).setTo s.cycle (bitOf (leAt c.input 2 1) 0) (leAt c.input 4 4)
        (leAt c.input 8 4) ∧
      ∀ k, k ≠ leAt c.input 0 2 → mapGet t.tm.shapers k bucket0 = mapGet s.tm.shapers k bucket0 := by
  have hframe := frame_coreShaperSet c s
  have hcore : coreShaperSet c s = (CmdRes.ok, (s.putShaper c.input).mirrorItem 0x42 c.input
      fun w => w.1 == 0x42 && w.2 == c.input.take 2) := by
    simp only [coreShaperSet, hidx, h2, h3, h12, hb, decide_true, beq_self_eq_true, Bool.and_self, if_true]
  rw [hcore] at hframe
  refine ends_of_core rfl h (tm_noRoutine (by simp)) hcore hframe (cq_of_only hframe (by simp) _) fun t ht => ?_
  obtain ⟨htm, hcyc⟩ := tm_mirrorItem (s.putShaper c.input) 0x42 c.input fun w => w.1 == 0x42 && w.2 == c.input.take 2
  have htm' : t.tm.shapers = mapSet s.tm.shapers (leAt c.input 0 2) ((s.shaper (leAt c.input 0 2)).setTo s.cycle
      (bitOf (leAt c.input 2 1) 0) (leAt c.input 4 4) (leAt c.input 8 4)) bucket0 :=
    congrArg TmSt.shapers ((ht.1 .tm (by decide)).trans htm)
  have hcyc' : t.cycle = s.cycle := (ht.1 .cycle (by decide)).trans hcyc
  refine ⟨shaper_of_stored _ (by rw [htm', mapGet_set_self]) (by rw [hcyc']; exact filledAt_setTo _ _ _ _ _), fun k hk => ?_⟩
  rw [htm', mapGet_set_ne _ _ _ _ hk.symm]

theorem ends_tmPolicerRead (h : s.accepts 0x41 c) :
    s.ends (.tmPolicerRead c) 0x41 c { CmdRes.ok with result := policerBytes c.param (s.policer c.param) } [.tm] (keysOf [])
      fun t => (bitOf c.flags 0 = false → t.tm = s.tm) ∧
        (bitOf c.flags 0 = true → (t.policer c.param).drops = 0 ∧ (t.policer c.param).pass = 0 ∧
          (t.policer c.param).bucket = (s.policer c.param).bucket) := by
  have hframe := only_noRegs (frame_corePolicerRead c s)
  have hmod : c.param % 65536 = c.param := Nat.mod_eq_of_lt (Nat.lt_succ_of_le (param_lt_of_accepts h rfl rfl))
  have hcore : corePolicerRead c s = ({ CmdRes.ok with result := policerBytes c.param (s.policer c.param) },
      if bitOf c.flags 0 then s.setPolicer c.param { s.policer c.param with drops := 0, pass := 0 } else s) := by
    rw [corePolicerRead, hmod]
  rw [hcore] at hframe
  refine ends_of_core rfl h (tm_noRoutine (by simp)) hcore hframe (hframe.2 _ (by simp [keysOf])) fun t ht => ?_
  have htm := ht.1 .tm (by decide)
  have hcyc : t.cycle = s.cycle := (ht.1 .cycle (by decide)).trans (hframe.1 .cycle (by decide))
  refine ⟨fun hf => ?_, fun hf => ?_⟩
  · rw [htm, hf]; rfl
  · rw [hf, if_pos rfl] at htm
    have hread : t.policer c.param = { s.policer c.param with drops := 0, pass := 0 } :=
      policer_of_stored _ (by rw [htm]; exact mapGet_setPolicer_self ..) (hcyc ▸ filledAt_policer s c.param)
    rw [hread]
    exact ⟨rfl, rfl, rfl⟩

end Ends

/-- Settles O42: the handshake over its order of requests, and each command by its core. -/
theorem policersAndShapersHoldTheirBuckets : Obligations.PolicersAndShapersHoldTheirBuckets := by
  intro s hrun
  refine ⟨fun n hn => ?_, fun c n b hnum hbit => ?_, fun c => ⟨ends_tmPolicerRead, fun ha hidx => ?_, fun ha hidx => ?_⟩⟩
  · have hexec : exec (.policerHandshake n) s = .next (s.policerHandshake n).settle :=
      (onObject_ok hn _).trans (whenUp_running hrun _)
    have hframe := only_noRegs (frame_policerHandshake s n)
    refine ⟨fun htm => ⟨_, hexec, ?_⟩, fun htm hnone => ⟨_, hexec, ?_⟩, fun htm hsome => ⟨_, hexec, ?_⟩,
      fun f x htm hone hx => ⟨_, hexec, ?_⟩⟩
    all_goals unfold State.policerHandshake at hframe ⊢
    · rw [if_neg (by simp [htm])]
      exact only_settle s
    · rw [if_pos htm, hnone, policerRun_nil]
      exact ⟨policer_setPolicer_self s n (filledAt_takeDebits (filledAt_policer s n)), fun k hk => mapGet_setPolicer_ne s n _ hk,
        only_settled (only_noRegs (frame_setPolicer ..))⟩
    · rw [if_pos htm] at hframe ⊢
      obtain ⟨hstart, hall⟩ := policerRun_spec s n hsome
      exact ⟨hstart, fun f hf => hall f hf (isSome_frame_of_request s n hf), only_settled hframe⟩
    · rw [if_pos htm, hone]
      exact policerRun_single hx
  · subst hnum hbit
    refine ⟨fun ha => ⟨fun hok => ?_, fun hok => ?_⟩, fun ha hidx h2 h3 h12 hb => ends_tmShaperSet ha hidx h2 h3 h12 hb,
      fun ha hidx => ?_⟩
    · exact answers_of_core rfl ha (tm_noRoutine (by simp)) (by rw [corePolicerSet, if_neg (by simp [hok])])
    · obtain ⟨t, hexec, hdone, ⟨haware, hbucket, hother⟩, hframe⟩ := ends_tmPolicerSet ha hok
      refine ⟨t, hexec, hdone, ⟨haware, hbucket, fun hoff hon => ?_, hother⟩, hframe⟩
      rw [hbucket, hon, level_setTo_of_new hoff]
    · exact answers_of_core rfl ha (tm_noRoutine (by simp)) (by simp [coreShaperSet, hidx])
  · exact answers_of_core rfl ha (tm_noRoutine (by simp)) (by simp [coreShaperRead, hidx])
  · exact answers_of_core rfl ha (tm_noRoutine (by simp)) (by simp [coreShaperRead, hidx])

end Sys2Proof.Machine
end

section
/-! Gate lists (R369, R373 to R375). -/

-- One proof at a time: side by side they take more threads than the memory bound of the check leaves room for.
set_option Elab.async false

namespace Sys2Proof.Machine

/-! ### Gates and their status -/

section Gates

variable (s : State) (p : Nat)

theorem gate_of_gates {s t : State} (h : t.tm.gates = s.tm.gates) (p : Nat) : t.gate p = s.gate p := by
  rw [State.gate, h]; rfl

@[simp] theorem gate_setGate_self (g : GateSt) : (s.setGate p g).gate p = g := mapGet_set_self ..

theorem gate_setGate_ne (g : GateSt) {k : Nat} (h : k ≠ p) : (s.setGate p g).gate k = s.gate k := mapGet_set_ne _ _ _ _ h.symm

/-- The status of a port moves no gate. -/
@[simp] theorem gates_syncGate : (s.syncGate p).tm.gates = s.tm.gates := congrArg TmSt.gates ((frame_syncGate s p).1 .tm (by decide))

/-- A look at the queues of a port moves no gate. -/
@[simp] theorem gates_lookAll : (s.lookAll p).tm.gates = s.tm.gates := by
  have look (u : State) (q : Nat) : (u.lookAt q).tm.gates = u.tm.gates := by
    unfold State.lookAt
    split <;> rfl
  have loop (l : List Nat) : ∀ u : State, (l.foldl State.lookAt u).tm.gates = u.tm.gates := by
    induction l with
    | nil => exact fun _ => rfl
    | cons q l ih => exact fun u => (ih _).trans (look u q)
  unfold State.lookAll
  exact loop _ s

/-- The fields of TM_GATE_STATUS are kept apart by their bits. -/
theorem gateStatusKeys_ne : Fld.key (Reg.TM_GATE_STATUS_PENDING p) ≠ Fld.key (Reg.TM_GATE_STATUS_ENABLED p) ∧
    Fld.key (Reg.TM_GATE_STATUS_PENDING p) ≠ Fld.key (Reg.TM_GATE_STATUS_GATES p) ∧
    Fld.key (Reg.TM_GATE_STATUS_PENDING p) ≠ Fld.key (Reg.TM_GATE_STATUS_ENTRY p) ∧
    Fld.key (Reg.TM_GATE_STATUS_PENDING p) ≠ Fld.key (Reg.TM_GATE_STATUS_ACTIVE_BANK p) ∧
    Fld.key (Reg.TM_GATE_STATUS_ENABLED p) ≠ Fld.key (Reg.TM_GATE_STATUS_GATES p) ∧
    Fld.key (Reg.TM_GATE_STATUS_ENABLED p) ≠ Fld.key (Reg.TM_GATE_STATUS_ENTRY p) ∧
    Fld.key (Reg.TM_GATE_STATUS_ENABLED p) ≠ Fld.key (Reg.TM_GATE_STATUS_ACTIVE_BANK p) ∧
    Fld.key (Reg.TM_GATE_STATUS_GATES p) ≠ Fld.key (Reg.TM_GATE_STATUS_ENTRY p) ∧
    Fld.key (Reg.TM_GATE_STATUS_GATES p) ≠ Fld.key (Reg.TM_GATE_STATUS_ACTIVE_BANK p) ∧
    Fld.key (Reg.TM_GATE_STATUS_ENTRY p) ≠ Fld.key (Reg.TM_GATE_STATUS_ACTIVE_BANK p) := by
  simp [Fld.key, Reg.TM_GATE_STATUS_PENDING, Reg.TM_GATE_STATUS_ENABLED, Reg.TM_GATE_STATUS_GATES, Reg.TM_GATE_STATUS_ENTRY,
    Reg.TM_GATE_STATUS_ACTIVE_BANK]

/-- PENDING shows a commit that waits, and the bank that is active stays. -/
theorem get_syncGate : (s.syncGate p).bit (Reg.TM_GATE_STATUS_PENDING p) = (s.gate p).committed.isSome ∧
    (s.syncGate p).get (Reg.TM_GATE_STATUS_ACTIVE_BANK p) = s.get (Reg.TM_GATE_STATUS_ACTIVE_BANK p) := by
  obtain ⟨h1, h2, h3, h4, h5, h6, h7, h8, h9, h10⟩ := gateStatusKeys_ne p
  have one (b : Bool) : (b2n b != 0) = b := by cases b <;> rfl
  unfold State.syncGate
  extract_lets g t s1
  have hp : s1.get (Reg.TM_GATE_STATUS_PENDING p) = b2n g.committed.isSome := get_setB_self _ _ _ le_rfl
  have hb : s1.get (Reg.TM_GATE_STATUS_ACTIVE_BANK p) = s.get (Reg.TM_GATE_STATUS_ACTIVE_BANK p) := get_setB_ne _ _ h4
  rw [State.bit]
  split
  · rw [get_set_ne _ _ h3.symm, get_set_ne _ _ h2.symm, get_on_ne _ h1.symm, get_set_ne _ _ h10, get_set_ne _ _ h9,
      get_on_ne _ h7, hp, one]
    exact ⟨rfl, hb⟩
  · rw [get_set_ne _ _ h3.symm, get_set_ne _ _ h2.symm, get_off_ne _ h1.symm, get_set_ne _ _ h10, get_set_ne _ _ h9,
      get_off_ne _ h7, hp, one]
    exact ⟨rfl, hb⟩

/-- The status of a port whose list runs (Table 13-9). -/
theorem get_syncGate_active {l : GateList} (h : (s.gate p).active = some l) :
    (s.syncGate p).bit (Reg.TM_GATE_STATUS_ENABLED p) = true ∧
    (s.syncGate p).get (Reg.TM_GATE_STATUS_GATES p) = l.gatesAt s.presTicks % 2 ^ 16 ∧
    (s.syncGate p).get (Reg.TM_GATE_STATUS_ENTRY p) = l.entryAt s.presTicks % 2 ^ 8 := by
  obtain ⟨h1, h2, h3, h4, h5, h6, h7, h8, h9, h10⟩ := gateStatusKeys_ne p
  unfold State.syncGate
  extract_lets g t s1
  have hg : g.active = some l := h
  simp only [hg]
  refine ⟨bit_of_get_one ?_, ?_, get_set_self ..⟩
  · rw [get_set_ne _ _ h6.symm, get_set_ne _ _ h5.symm, get_on_self _ _ le_rfl]
  · rw [get_set_ne _ _ h8.symm]
    exact get_set_self ..

end Gates

/-! ### The pending bank -/

/-- Entries written one after another at rising places stand there. -/
theorem mapGet_written (entry : Nat → Nat × Nat) (first : Nat) {i : Nat} : ∀ (n : Nat) (m : SMap (Nat × Nat)), i < n →
    mapGet ((List.range n).foldl (fun m i => mapSet m (first + i) (entry i) (0, 0)) m) (first + i) (0, 0) = entry i := by
  intro n m
  induction n with
  | zero => exact fun h => absurd h (Nat.not_lt_zero i)
  | succ n ih =>
    intro h
    rw [List.range_succ, List.foldl_append, List.foldl_cons, List.foldl_nil]
    by_cases hi : i = n
    · rw [hi, mapGet_set_self]
    · rw [mapGet_set_ne _ _ _ _ (by omega)]
      exact ih (by omega)

theorem bank_setBank (g : GateSt) (n : Nat) (m : SMap (Nat × Nat)) : (g.setBank n m).bank n = m ∧
    (g.setBank n m).active = g.active ∧ (g.setBank n m).committed = g.committed := by
  unfold GateSt.setBank GateSt.bank
  split <;> simp [*]

/-! ### The commands -/

section Commands

variable {s : State} {c : CmdIn}

/-- A mirrored change keeps the gates. -/
theorem gates_mirrorItem (s : State) (op : Nat) (e : List Byte) (f : Nat × List Byte → Bool) :
    (s.mirrorItem op e f).tm.gates = s.tm.gates := congrArg TmSt.gates (tm_mirrorItem s op e f).1

theorem ends_tmGclWrite (h : s.accepts 0x44 c) (hp : s.isPort (c.param % 1024) = true)
    (hfit : bits c.param 16 8 + c.input.length / 8 ≤ 256) (hz : ∀ i, i < c.input.length / 8 → leAt c.input (8 * i + 2) 2 = 0)
    (hfree : (s.gate (c.param % 1024)).committed = none) :
    s.ends (.tmGclWrite c) 0x44 c CmdRes.ok [.tm, .pair] (regsOf ["PAIR_MIRROR_LEVEL"]) fun t =>
      (∀ i, i < c.input.length / 8 → mapGet ((t.gate (c.param % 1024)).bank (s.pendingBank (c.param % 1024)))
        (bits c.param 16 8 + i) (0, 0) = (leAt c.input (8 * i) 2, leAt c.input (8 * i + 4) 4)) ∧
      (t.gate (c.param % 1024)).active = (s.gate (c.param % 1024)).active ∧ ∀ k, k ≠ c.param % 1024 → t.gate k = s.gate k := by
  have hframe := frame_coreGclWrite c s
  have hcore : coreGclWrite c s = (CmdRes.ok, (s.putGates (c.param % 1024) (bits c.param 16 8) c.input).mirrorItem 0x44
      (paramBytes c.param ++ c.input) fun w => w.1 == 0x44 && w.2 == beBytes 2 (c.param % 1024)) := by
    have hall : ((List.range (c.input.length / 8)).all fun i => leAt c.input (8 * i + 2) 2 == 0) = true :=
      List.all_eq_true.mpr fun i hi => beq_iff_eq.mpr (hz i (List.mem_range.mp hi))
    simp only [coreGclWrite, hp, hall, hfree]
    simp [Nat.not_lt.mpr hfit]
  rw [hcore] at hframe
  refine ends_of_core rfl h (tm_noRoutine (by simp)) hcore hframe (cq_of_only hframe (by simp) _) fun t ht => ?_
  have hgates : t.tm.gates = (s.putGates (c.param % 1024) (bits c.param 16 8) c.input).tm.gates :=
    (congrArg TmSt.gates (ht.1 .tm (by decide))).trans (gates_mirrorItem ..)
  refine ⟨fun i hi => ?_, ?_, fun k hk => ?_⟩
  · rw [gate_of_gates hgates, State.putGates, gate_setGate_self, (bank_setBank ..).1]
    exact mapGet_written (fun i => (leAt c.input (8 * i) 2, leAt c.input (8 * i + 4) 4)) _ _ _ hi
  · rw [gate_of_gates hgates, State.putGates, gate_setGate_self, (bank_setBank ..).2.1]
  · rw [gate_of_gates hgates, State.putGates, gate_setGate_ne _ _ _ hk]

theorem ends_tmGclCancel (h : s.accepts 0x46 c) (hp : s.isPort (c.param % 1024) = true)
    (hsome : (s.gate (c.param % 1024)).committed.isSome) :
    s.ends (.tmGclCancel c) 0x46 c CmdRes.ok [.tm, .pair] (regsOf ["TM_GATE_STATUS", "PAIR_MIRROR_LEVEL"]) fun t =>
      t.gate (c.param % 1024) = { s.gate (c.param % 1024) with committed := none } ∧
      t.bit (Reg.TM_GATE_STATUS_PENDING (c.param % 1024)) = false := by
  have hframe := frame_coreGclCancel c s
  have hcore : coreGclCancel c s = (CmdRes.ok, (s.dropCommit (c.param % 1024)).mirrorItem 0x46 (paramBytes c.param)
      fun w => w.1 == 0x44 && w.2 == beBytes 2 (c.param % 1024)) := by
    simp only [coreGclCancel, hp, Option.isNone_eq_false_iff.mpr hsome]
    simp
  rw [hcore] at hframe
  refine ends_of_core rfl h (tm_noRoutine (by simp)) hcore hframe (cq_of_only hframe (by simp) _) fun t ht => ⟨?_, ?_⟩
  · have hgates : t.tm.gates = (s.dropCommit (c.param % 1024)).tm.gates :=
      (congrArg TmSt.gates (ht.1 .tm (by decide))).trans (gates_mirrorItem ..)
    rw [gate_of_gates hgates, State.dropCommit, gate_of_gates (gates_syncGate _ _), gate_setGate_self]
  · have hkept : t.get (Reg.TM_GATE_STATUS_PENDING (c.param % 1024)) =
        (s.dropCommit (c.param % 1024)).get (Reg.TM_GATE_STATUS_PENDING (c.param % 1024)) :=
      (ht.2 _ (not_completionKeys s c (f := Reg.TM_GATE_STATUS_PENDING (c.param % 1024))
        (by simp only [Reg.TM_GATE_STATUS_PENDING]; omega) (Nat.lt_succ_self 31))).trans
      (kept_of_only (frame_mirrorItem ..) (a := .ro) 16 (c.param % 1024) 0 (List.mem_of_getElem? (i := 5) rfl) (by simp) (by simp))
    rw [State.bit, hkept]
    refine (get_syncGate _ _).1.trans ?_
    rw [gate_setGate_self]
    rfl

theorem answers_tmGclRead (h : s.accepts 0x47 c) (hp : s.isPort (c.param % 1024) = true) {m : SMap (Nat × Nat)} {l : Option GateList}
    (hm : m = (s.gate (c.param % 1024)).bank
      (if bitOf c.param 16 then s.pendingBank (c.param % 1024) else 1 - s.pendingBank (c.param % 1024))) :
    l = (if bitOf c.param 16 then (s.gate (c.param % 1024)).committed else (s.gate (c.param % 1024)).active) → s.answers (.tmGclRead c) 0x47 c { CmdRes.ok with
      result := leBytes 2 (match l with | some x => x.entries.length | none => 0)
      out := (List.range 256).flatMap fun i => leBytes 2 (mapGet m i (0, 0)).1 ++ zeros 2 ++ leBytes 4 (mapGet m i (0, 0)).2 } := by
  intro hl
  refine answers_of_core rfl h (tm_noRoutine (by simp)) ?_
  subst hm hl
  unfold coreGclRead
  simp only [hp]
  rfl

/-- What an accepted commit leaves, before its record is mirrored and its lateness shown. -/
theorem putCommit_spec (s : State) (b : List Byte) (start : Nat) :
    (s.putCommit b start).gate (leAt b 0 2) = { s.gate (leAt b 0 2) with
      committed := some ⟨s.pendingEntries (leAt b 0 2) (leAt b 2 2), leAt b 24 4, start, bitOf (leAt b 4 1) 0⟩ } ∧
    (∀ k, k ≠ leAt b 0 2 → (s.putCommit b start).gate k = s.gate k) ∧
    (s.putCommit b start).bit (Reg.TM_GATE_STATUS_PENDING (leAt b 0 2)) = true := by
  unfold State.putCommit
  refine ⟨?_, fun k hk => ?_, ?_⟩
  · rw [gate_of_gates (gates_syncGate _ _), gate_setGate_self]
  · rw [gate_of_gates (gates_syncGate _ _), gate_setGate_ne _ _ _ hk]
  · refine (get_syncGate _ _).1.trans ?_
    rw [gate_setGate_self]
    rfl

/-- A late commit shows in the status registers (R373). -/
def State.showLate (s : State) (late : Bool) (p : Nat) : State :=
  if late then (((s.on Reg.TM_STATUS_GATE_ADJUSTED).satAdd Reg.TM_GATE_ADJUST_CNT_COUNT 1).off Reg.TM_GATE_LOC_KIND).set
    Reg.TM_GATE_LOC_QUEUE p else s

theorem showLate_spec (s : State) (late : Bool) (p : Nat) : (s.showLate late p).tm = s.tm ∧
    (∀ q, (s.showLate late p).get (Reg.TM_GATE_STATUS_PENDING q) = s.get (Reg.TM_GATE_STATUS_PENDING q)) ∧
    (late = true → (s.showLate late p).get Reg.TM_STATUS_GATE_ADJUSTED = 1 ∧
      s.counted (s.showLate late p) Reg.TM_GATE_ADJUST_CNT_COUNT) := by
  have kept (q : Nat) {f : Fld} (hf : f.addr < 0x1001000) (hl : f.lo < 32) : Fld.key f ≠ Fld.key (Reg.TM_GATE_STATUS_PENDING q) := by
    simp only [Fld.key, Reg.TM_GATE_STATUS_PENDING]; omega
  unfold State.showLate
  split
  · refine ⟨?_, fun q => ?_, fun _ => ⟨?_, ?_⟩⟩
    · rw [set_tm, off_tm, satAdd_tm, on_tm]
    · rw [get_set_ne _ _ (kept q (by decide) (by decide)), get_off_ne _ (kept q (by decide) (by decide)),
        get_satAdd_ne _ _ (kept q (by decide) (by decide)), get_on_ne _ (kept q (by decide) (by decide))]
    · rw [get_set_ne _ _ (by decide), get_off_ne _ (by decide), get_satAdd_ne _ _ (by decide), get_on_self _ _ le_rfl]
    · rw [State.counted, get_set_ne _ _ (by decide), get_off_ne _ (by decide), get_satAdd_self, get_on_ne _ (by decide)]
  next h => exact ⟨rfl, fun _ => rfl, fun e => absurd e h⟩

theorem coreGclCommit_ok (hok : s.commitOk c.input = true) (hfree : (s.gate (leAt c.input 0 2)).committed = none)
    (hnone : bitOf (leAt c.input 4 1) 0 = true → s.presNone = false) {base start : Nat} (hb : base = stampTime (leAt c.input 8 16))
    (hstart : start = gateStart base (leAt c.input 24 4) s.presTicks) :
    coreGclCommit c s = ({ CmdRes.ok with result := leBytes 16 (stampOf start 0) ++ [BitVec.ofNat 8 (b2n (start != base))] },
      ((s.putCommit c.input start).mirrorItem 0x45 (patchAt c.input 8 (leBytes 16 (stampOf start 0)))
        fun w => w.1 == 0x44 && w.2 == beBytes 2 (leAt c.input 0 2)).showLate (start != base) (leAt c.input 0 2)) := by
  subst hb hstart
  have hpres : (bitOf (leAt c.input 4 1) 0 && s.presNone) = false := by
    cases hbit : bitOf (leAt c.input 4 1) 0 with
    | false => rfl
    | true => simp [hnone hbit]
  unfold coreGclCommit State.showLate
  simp only [hok, hfree, hpres]
  rfl

theorem ends_tmGclCommit (h : s.accepts 0x45 c) (hok : s.commitOk c.input = true)
    (hfree : (s.gate (leAt c.input 0 2)).committed = none) (hnone : bitOf (leAt c.input 4 1) 0 = true → s.presNone = false)
    {base start : Nat} (hb : base = stampTime (leAt c.input 8 16)) (hstart : start = gateStart base (leAt c.input 24 4) s.presTicks) :
    s.ends (.tmGclCommit c) 0x45 c { CmdRes.ok with result := leBytes 16 (stampOf start 0) ++ [BitVec.ofNat 8 (b2n (start != base))] }
      [.tm, .pair] (regsOf ["TM_STATUS", "TM_GATE_LOC", "TM_GATE_ADJUST_CNT", "TM_GATE_STATUS", "PAIR_MIRROR_LEVEL"]) fun t =>
        (t.gate (leAt c.input 0 2)).committed =
          some ⟨s.pendingEntries (leAt c.input 0 2) (leAt c.input 2 2), leAt c.input 24 4, start, bitOf (leAt c.input 4 1) 0⟩ ∧
        (t.gate (leAt c.input 0 2)).active = (s.gate (leAt c.input 0 2)).active ∧
        t.bit (Reg.TM_GATE_STATUS_PENDING (leAt c.input 0 2)) = true ∧
        (start ≠ base → t.bit Reg.TM_STATUS_GATE_ADJUSTED = true ∧ s.counted t Reg.TM_GATE_ADJUST_CNT_COUNT) ∧
        ∀ k, k ≠ leAt c.input 0 2 → t.gate k = s.gate k := by
  have hcore := coreGclCommit_ok hok hfree hnone hb hstart
  have hframe := frame_coreGclCommit c s
  rw [hcore] at hframe
  obtain ⟨hgate, hother, hpend⟩ := putCommit_spec s c.input start
  have hput := frame_putCommit s c.input start
  generalize s.putCommit c.input start = u at *
  have hmir := frame_mirrorItem u 0x45 (patchAt c.input 8 (leBytes 16 (stampOf start 0)))
    fun w => w.1 == 0x44 && w.2 == beBytes 2 (leAt c.input 0 2)
  generalize u.mirrorItem 0x45 _ _ = w at *
  obtain ⟨htm, hstatus, hlate⟩ := showLate_spec w (start != base) (leAt c.input 0 2)
  refine ends_of_core rfl h (tm_noRoutine (by simp)) hcore hframe (cq_of_only hframe (by simp) _) fun t ht => ?_
  generalize w.showLate (start != base) (leAt c.input 0 2) = x at *
  have hgates : t.tm.gates = u.tm.gates :=
    congrArg TmSt.gates ((ht.1 .tm (by decide)).trans (htm.trans (hmir.1 .tm (by decide))))
  have kept {f : Fld} (ha : f.addr < 0x1301000) (hl : f.lo < 32) : t.get f = x.get f := ht.2 _ (not_completionKeys s c ha hl)
  refine ⟨?_, ?_, ?_, fun hne => ?_, fun k hk => ?_⟩
  · rw [gate_of_gates hgates, hgate]
  · rw [gate_of_gates hgates, hgate]
  · have hget : t.get (Reg.TM_GATE_STATUS_PENDING (leAt c.input 0 2)) = u.get (Reg.TM_GATE_STATUS_PENDING (leAt c.input 0 2)) :=
      (kept (f := Reg.TM_GATE_STATUS_PENDING (leAt c.input 0 2)) (by simp only [Reg.TM_GATE_STATUS_PENDING]; omega)
        (Nat.lt_succ_self 31)).trans ((hstatus _).trans
        (kept_of_only hmir (a := .ro) 16 (leAt c.input 0 2) 0 (List.mem_of_getElem? (i := 5) rfl) (by simp) (by simp)))
    rw [State.bit, hget]
    exact hpend
  · obtain ⟨hadj, hcnt⟩ := hlate (by simpa using hne)
    have hw : w.get Reg.TM_GATE_ADJUST_CNT_COUNT = s.get Reg.TM_GATE_ADJUST_CNT_COUNT :=
      (kept_of_only hmir (a := .rc) 16 0 0 (List.mem_of_getElem? (i := 3) rfl) (by simp) (by simp)).trans
      (kept_of_only hput (a := .rc) 16 0 0 (List.mem_of_getElem? (i := 3) rfl) (by simp) (by simp))
    rw [State.counted, hw] at hcnt
    rw [State.counted, kept (by decide) (by decide)]
    exact ⟨bit_of_get_one ((kept (by decide) (by decide)).trans hadj), hcnt⟩
  · rw [gate_of_gates hgates, hother k hk]

end Commands

/-! ### The changes with time -/

section Changes

variable {s : State} {p : Nat}

/-- A list whose start time has come is the active one, and the banks change over (R374). -/
theorem gateListStart_due {l : GateList} (hc : (s.gate p).committed = some l) (hdue : l.start ≤ s.presTicks) :
    (s.gateListStart p).gate p = { s.gate p with active := if l.enable then some l else none, committed := none } ∧
    (s.gateListStart p).get (Reg.TM_GATE_STATUS_ACTIVE_BANK p) = 1 - s.get (Reg.TM_GATE_STATUS_ACTIVE_BANK p) ∧
    ∀ k, k ≠ p → (s.gateListStart p).gate k = s.gate k := by
  unfold State.gateListStart
  simp only [hc]
  rw [if_neg (Nat.not_lt.mpr hdue)]
  have hg (u : State) (n : Nat) : (u.set (Reg.TM_GATE_STATUS_ACTIVE_BANK p) n).tm.gates = u.tm.gates := by rw [set_tm]
  refine ⟨?_, ?_, fun k hk => ?_⟩
  · rw [gate_of_gates (gates_syncGate _ _), gate_of_gates (hg _ _), gate_setGate_self]
  · refine (get_syncGate _ _).2.trans ((get_set_self ..).trans (Nat.mod_eq_of_lt ?_))
    exact Nat.lt_of_le_of_lt (Nat.sub_le 1 _) Nat.one_lt_two
  · rw [gate_of_gates (gates_syncGate _ _), gate_of_gates (hg _ _), gate_setGate_ne _ _ _ hk]

theorem gateListStart_early {l : GateList} (hc : (s.gate p).committed = some l) (h : s.presTicks < l.start) :
    s.gateListStart p = s := by
  unfold State.gateListStart
  simp only [hc]
  rw [if_pos h]

theorem gateListStart_none (hc : (s.gate p).committed = none) : s.gateListStart p = s := by
  unfold State.gateListStart
  simp only [hc]

theorem gates_looked (u : State) : (u.lookAll p).settle.tm.gates = u.tm.gates := by rw [settle_tm, gates_lookAll]

theorem gate_looked (u : State) (k : Nat) : (u.lookAll p).settle.gate k = u.gate k := gate_of_gates (gates_looked u) k

/-- A look at the queues after acts on the gates. -/
theorem only_looked {L : List String} {u : State} (h : s.only u [.tm] (regsOf L)) : s.only (u.lookAll p).settle [.tm] (regsOf L) :=
  only_settled (keep_of (frame_lookAll u p) h (by simp) (by simp))

theorem only_lookedOnly : s.only (s.lookAll p).settle [.tm] (keysOf []) :=
  only_noRegs (only_looked (keep_refl s _ _))

theorem get_looked (u : State) (f : Fld) : (u.lookAll p).settle.get f = u.get f := by
  rw [get_settle]
  exact (only_noRegs (frame_lookAll u p)).2 f (by simp [keysOf])

end Changes

/-- Settles O43: each command by its core, and the two changes with time by what they show. -/
theorem gateListsChangeOverAtTheirStartTime : Obligations.GateListsChangeOverAtTheirStartTime := by
  intro s hrun
  refine ⟨fun c p hp => ?_, fun c p base start hp ha hb hstart => ?_, fun p hp => ?_⟩
  · subst hp
    refine ⟨fun ha hport hfit hz => ⟨fun hsome => ?_, fun hfree => ends_tmGclWrite ha hport hfit hz hfree⟩, fun ha hbad => ?_,
      fun ha hport => ⟨fun hnone => ?_, fun hsome => ends_tmGclCancel ha hport hsome⟩, fun ha hport m l hm hl =>
        answers_tmGclRead ha hport hm hl⟩
    · refine answers_of_core rfl ha (tm_noRoutine (by simp)) ?_
      have hall : ((List.range (c.input.length / 8)).all fun i => leAt c.input (8 * i + 2) 2 == 0) = true :=
        List.all_eq_true.mpr fun i hi => beq_iff_eq.mpr (hz i (List.mem_range.mp hi))
      simp only [coreGclWrite, hport, hall, hsome]
      simp [Nat.not_lt.mpr hfit]
    · refine answers_of_core rfl ha (tm_noRoutine (by simp)) ?_
      have hor : (!s.isPort (c.param % 1024) || decide (bits c.param 16 8 + c.input.length / 8 > 256)) = true := by
        rcases hbad with h | h <;> simp [h]
      simp only [coreGclWrite, hor, if_true]
    · refine answers_of_core rfl ha (tm_noRoutine (by simp)) ?_
      simp [coreGclCancel, hport, hnone]
  · subst hp
    refine ⟨fun hbad => ?_, fun hok hbusy => ?_, fun hok hfree hnone => ends_tmGclCommit ha hok hfree hnone hb hstart⟩
    · exact answers_of_core rfl ha (tm_noRoutine (by simp)) (by simp [coreGclCommit, hbad])
    · refine answers_of_core rfl ha (tm_noRoutine (by simp)) ?_
      have hor : ((s.gate (leAt c.input 0 2)).committed.isSome || (bitOf (leAt c.input 4 1) 0 && s.presNone)) = true := by
        rcases hbusy with h | ⟨h, h'⟩
        · simp [h]
        · simp [h, h']
      simp only [coreGclCommit, hok, hor]
      rfl
  · have hlist : exec (.gateListStart p) s = .next ((s.gateListStart p).lookAll p).settle :=
      (onPort_ok hp _).trans (whenUp_running hrun _)
    have hentry : exec (.gateEntryChange p) s = .next ((s.gateEntryChange p).lookAll p).settle :=
      (onPort_ok hp _).trans (whenUp_running hrun _)
    refine ⟨fun l hc hdue => ⟨_, hlist, ?_⟩, fun l hc hearly => ⟨_, hlist, ?_⟩, fun hc => ⟨_, hlist, ?_⟩, fun ha => ⟨_, hentry, ?_⟩,
      fun l ha => ⟨_, hentry, ?_⟩⟩
    · obtain ⟨h1, h2, h3⟩ := gateListStart_due hc hdue
      refine ⟨(gate_looked _ p).trans h1, (get_looked _ _).trans h2, fun k hk => (gate_looked _ k).trans (h3 k hk),
        only_looked (frame_gateListStart s p)⟩
    · rw [gateListStart_early hc hearly]
      exact ⟨gate_looked s p, only_lookedOnly⟩
    · rw [gateListStart_none hc]
      exact ⟨gate_looked s p, only_lookedOnly⟩
    · have hsame : s.gateEntryChange p = s := by simp [State.gateEntryChange, ha]
      rw [hsame]
      exact ⟨gate_looked s p, only_lookedOnly⟩
    · have hsync : s.gateEntryChange p = s.syncGate p := by simp [State.gateEntryChange, ha]
      obtain ⟨h1, h2, h3⟩ := get_syncGate_active s p ha
      rw [hsync]
      refine ⟨?_, (get_looked _ _).trans h2, (get_looked _ _).trans h3, (gates_looked _).trans (gates_syncGate s p),
        only_looked (only_mono (frame_syncGate s p) (by simp) fun _ => id)⟩
      rw [State.bit, get_looked]
      exact h1

end Sys2Proof.Machine
end

section
/-! TALLY_CTRL.ENABLE (R190, R493): a device whose identity key is not usable. -/

-- One proof at a time: side by side they take more threads than the memory bound of the check leaves room for.
set_option Elab.async false

namespace Sys2Proof.Machine

/-- DRAM serves, and the identity check of boot has failed: ID_OK is 0. -/
def withoutIdentity : State := startedWith [(Fld.key Reg.DRAM_CTRL_SERVICE, 1)]

theorem withoutIdentity_served : withoutIdentity.served := by
  unfold State.served
  decide

/-- Without a key to sign its seals with, Tally is not enabled. -/
theorem tallyEnable_withoutIdentity :
    outcomeTest (exec (.tallyEnable 0x101) withoutIdentity) (fun t => decide (t.lastStatus = .denied)) = true := by
  decide +kernel

/-- Refutes O26: the statement's conditions for ENABLE = 1 leave out that the identity key is usable. With ID_OK = 0 and everything
else as it asks, the write is answered DENIED and forms no START seal. -/
theorem not_sealsAreFormedOnTheGridAndAtTheEnds : ¬ Obligations.SealsAreFormedOnTheGridAndAtTheEnds := by
  unfold Obligations.SealsAreFormedOnTheGridAndAtTheEnds
  intro h
  obtain ⟨-, henable, -⟩ := h withoutIdentity withoutIdentity_served (by decide) (by decide) (by decide)
  obtain ⟨t, x, hexec, hok, -⟩ := henable 0x101 (by decide) (by decide) (by decide) (by decide) (by decide) (by decide) (by decide)
    (by decide) (by decide) (by decide) (by decide)
  have hdenied := tallyEnable_withoutIdentity
  rw [outcomeTest_next hexec, hok] at hdenied
  exact absurd hdenied (by decide)

end Sys2Proof.Machine
end

section
/-! The export of Tally's backing ring (R187, R382, R387): what the last error of a read of two bursts is. -/

-- One proof at a time: side by side they take more threads than the memory bound of the check leaves room for.
set_option Elab.async false

namespace Sys2Proof.Machine

/-- The backing ring holds one entry, whose second burst holds a correctable error; the export ring takes it. -/
def correctableBehind : State :=
  { startedWith [(Fld.key (Reg.RING_CFG_ENABLE 61), 1), (Fld.key Reg.HLINK_STATUS_STATE, 2), (Fld.key Reg.SYS_FUNC_STATUS_STATE, 0)] with
    tally := { State.reset.tally with ring := [⟨zeros 64, false⟩] }
    dram := { State.reset.dram with errs := [(tallyBurst 0 + 1, .corrected)] } }

/-- The read meets an uncorrectable error in the first burst. -/
def uncorrectableAhead : ReadOutcome := ⟨0, false, .uncorrectable, 0⟩

theorem correctableBehind_served : correctableBehind.served := by
  unfold State.served
  decide

/-- The error place shows the corrected burst, which the read comes to last. -/
theorem tallyExportEntry_correctableBehind :
    outcomeTest (exec (.tallyExportEntry uncorrectableAhead) correctableBehind)
      (fun t => t.get Reg.DRAM_ERR_LOC_UNCORR == 0) = true := by
  decide +kernel

/-- Refutes O27: where the first burst of an exported entry is uncorrectable and the second holds a correctable error, the entry is
replaced, but DRAM_ERR_LOC then shows the place of the corrected error, with UNCORR = 0. The statement asks for UNCORR = 1 whatever
the other burst meets. -/
theorem not_sealsAreHeadedSignedAndExported : ¬ Obligations.SealsAreHeadedSignedAndExported := by
  unfold Obligations.SealsAreHeadedSignedAndExported
  intro h
  obtain ⟨-, -, -, hexport, -⟩ := h correctableBehind correctableBehind_served
  obtain ⟨t, b, hexec, -, -, -, hbad, -⟩ := hexport ⟨zeros 64, false⟩ [] _ uncorrectableAhead rfl (by decide +kernel) (by decide)
    (by decide) (by decide) rfl
  obtain ⟨-, -, -, huncorr, -⟩ := hbad (.inr (.inr ⟨rfl, by decide, rfl⟩))
  have hlast := tallyExportEntry_correctableBehind
  rw [outcomeTest_next hexec, huncorr] at hlast
  exact absurd hlast (by decide)

end Sys2Proof.Machine
end

section
/-! The span control (R537, R538): the statement ranges over register stores that list a field at its reset value. -/

-- One proof at a time: side by side they take more threads than the memory bound of the check leaves room for.
set_option Elab.async false

namespace Sys2Proof.Machine

/-- The register store lists GROUP_EN of SPAN_CTRL although it holds its reset value 0. -/
def listedGroupEn : State := startedWith [(Fld.key Reg.SPAN_CTRL_GROUP_EN, 0)]

theorem listedGroupEn_served : listedGroupEn.served := by
  unfold State.served
  decide

/-- A field at the place of GROUP_EN whose reset value is 1: it reads 0 while that place is listed, and 1 once it is not. -/
def otherGroupEn : Fld := { Reg.SPAN_CTRL_GROUP_EN with rst := 1 }

/-- The write stores GROUP_EN again and so takes it off the list. -/
theorem spanCtrlWrite_listedGroupEn :
    outcomeTest (exec (.spanCtrlWrite 0) listedGroupEn) (fun t => t.get otherGroupEn == 1) = true := by
  decide +kernel

/-- Refutes O58: an accepted write that leaves EN and GROUP_EN stores both again as they stand. Where the register store lists GROUP_EN
at 0, its reset value, the write takes it off the list, and what a field of another reset value reads at that place changes; the
statement's frame is over every field, and names LEARN alone. -/
theorem not_spanLinksJoinTwoDevices : ¬ Obligations.SpanLinksJoinTwoDevices := by
  unfold Obligations.SpanLinksJoinTwoDevices
  intro h
  obtain ⟨hwrite, -⟩ := h listedGroupEn rfl
  obtain ⟨-, haccept⟩ := hwrite listedGroupEn_served (by decide) 0 (by decide) (by decide) true _ (by decide) rfl
  obtain ⟨-, hsame, -⟩ := haccept (.inl (by decide))
  obtain ⟨t, hexec, -, -, -, hkept⟩ := hsame rfl
  have hmoved := spanCtrlWrite_listedGroupEn
  rw [outcomeTest_next hexec, hkept otherGroupEn (by unfold keysOf; decide)] at hmoved
  exact absurd hmoved (by decide)

end Sys2Proof.Machine
end

section
/-! The DRAM scrub (R386): the statement ranges over states that hold a counter above its limit. -/

-- One proof at a time: side by side they take more threads than the memory bound of the check leaves room for.
set_option Elab.async false

namespace Sys2Proof.Machine

/-- The scrub is on, and the counter of corrected errors, of 32 bits, holds 2³². -/
def overfullCorrected : State :=
  startedWith [(Fld.key Reg.DRAM_CTRL_SCRUB_EN, 1), (Fld.key Reg.DRAM_CORR_CNT_COUNT, 2 ^ 32), (Fld.key Reg.SYS_FUNC_STATUS_STATE, 0)]

/-- A clean read of the scrub leaves the counter as it stands. -/
theorem dramScrubRead_overfullCorrected :
    outcomeTest (exec (.dramScrubRead 0 ⟨0, false, .clean, 0⟩) overfullCorrected)
      (fun t => t.get Reg.DRAM_CORR_CNT_COUNT == 2 ^ 32) = true := by
  decide +kernel

/-- Refutes O44: a scrub read that meets no error and no severity report leaves DRAM_CORR_CNT alone, and so does not cut a counter that
holds 2³² to its limit, which the statement asks for whatever the counter holds. -/
theorem not_theDramControllerWatchesItsStacks : ¬ Obligations.TheDramControllerWatchesItsStacks := by
  unfold Obligations.TheDramControllerWatchesItsStacks
  intro h
  obtain ⟨hscrub, -⟩ := h overfullCorrected rfl
  obtain ⟨hon, -⟩ := hscrub 0 ⟨0, false, .clean, 0⟩ (by decide) (by decide) (by decide) (by decide)
  obtain ⟨hclean, -⟩ := hon (by decide) (by decide) (fun _ _ => rfl) (by decide)
  obtain ⟨t, hexec, hcount, -⟩ := hclean rfl
  have hkept := dramScrubRead_overfullCorrected
  rw [outcomeTest_next hexec, hcount] at hkept
  exact absurd hkept (by decide)

end Sys2Proof.Machine
end

section
/-! Preemption at a checkpoint (R486): the statement ranges over states in which two routines carry one request number. -/

-- One proof at a time: side by side they take more threads than the memory bound of the check leaves room for.
set_option Elab.async false

namespace Sys2Proof.Machine

/-- A withdrawal on engine 1, of request number 0. -/
def withdrawal : Routine := ⟨.withdraw, none, 0, 0, 0, false, 0, 0, false, none⟩

/-- A port flush that waits, of request number 0 too. -/
def waitingPortFlush : Routine := ⟨.portFlush 0, none, 0, 0, 0, false, 0, 0, false, none⟩

/-- The other engines are halted, and the two routines carry one request number. -/
def sameRequestNumber : State :=
  { startedWith [(Fld.key Reg.RCK_STATUS_HALTED, 0xFD)] with
    reck := { State.reset.reck with engines := [(1, withdrawal)], waiting := [waitingPortFlush], suspended := [] } }

/-- The flush takes the engine, and the suspended withdrawal is taken off the list with it. -/
theorem routineCheckpoint_sameRequestNumber :
    outcomeTest (exec (.routineCheckpoint 1) sameRequestNumber) (fun t => t.reck.suspended.isEmpty) = true := by
  decide +kernel

/-- Refutes O53: a flush that takes the engine of a withdrawal leaves the suspended list without the routines of its own request
number. Where the withdrawal carries that number too, it is lost, and does not stand among the suspended ones. -/
theorem not_reckonersRunPatchesAndRoutines : ¬ Obligations.ReckonersRunPatchesAndRoutines := by
  unfold Obligations.ReckonersRunPatchesAndRoutines
  intro h
  obtain ⟨-, -, -, hcheckpoint⟩ := h sameRequestNumber rfl
  obtain ⟨-, hyield, -⟩ := hcheckpoint 1 withdrawal (by decide) (by decide)
  obtain ⟨-, hpreempt⟩ := hyield (.inl rfl) _ rfl
  obtain ⟨t, z, hexec, -, -, -, hsuspended, -⟩ := hpreempt waitingPortFlush (by decide +kernel) (by decide +kernel)
  have hlost := routineCheckpoint_sameRequestNumber
  rw [outcomeTest_next hexec, List.isEmpty_iff] at hlost
  rw [hlost] at hsuspended
  cases hsuspended

end Sys2Proof.Machine
end

section
/-! The test access port (R591): the statement ranges over states in which a port in DISABLED shows a good link. -/

-- One proof at a time: side by side they take more threads than the memory bound of the check leaves room for.
set_option Elab.async false

namespace Sys2Proof.Machine

theorem linkChange_disabled {s : State} {p : Nat} (c : LinkCond) (h : s.linkState p = stDisabled) : s.linkChange p c = s := by
  unfold State.linkChange
  rw [if_pos h]

theorem rejudge_disabled {s : State} (h : ∀ p, s.linkState p = stDisabled) (g : Nat) : s.rejudge g = s := by
  unfold State.rejudge
  refine List.foldl_fixed' (fun i => ?_) _
  dsimp only
  split
  · exact linkChange_disabled _ (h _)
  · rfl

/-- While every port stands in DISABLED, judging the links anew touches the mirror link alone. -/
theorem rejudgeAll_disabled {s : State} (h : ∀ p, s.linkState p = stDisabled) :
    s.rejudgeAll = s.mirrorLink (s.port 1024).cond := by
  unfold State.rejudgeAll
  rw [List.foldl_fixed' (rejudge_disabled h)]

theorem get_mirrorLink (s : State) (c : LinkCond) {f : Fld} (h : Fld.key Reg.PAIR_STATUS_LINK_UP ≠ Fld.key f) :
    (s.mirrorLink c).get f = s.get f := by
  unfold State.mirrorLink State.setB
  exact get_set_ne _ _ h

/-- Octet 0 holds ports, and port 0 stands in DISABLED with LINK_GOOD = 1. -/
def goodInDisabled : State :=
  startedWith [(Fld.key (Reg.MAC_OCTET_MODE_MODE 0), 1), (Fld.key (Reg.MAC_PORT_STATUS_LINK_GOOD 0), 1)]

theorem goodInDisabled_served : goodInDisabled.served := by
  unfold State.served
  decide

/-- Every port of the state is DISABLED, and an instruction in the test access port changes none of that. -/
theorem goodInDisabled_disabled (tap : PlatSt → PlatSt) (p : Nat) : (goodInDisabled.modPlat tap).linkState p = stDisabled := by
  have hboot : Fld.key Reg.SEC_BOOT_STATE ≠ Fld.key (Reg.MAC_PORT_STATUS_STATE p) := by
    simp only [Fld.key, Reg.SEC_BOOT_STATE, Reg.MAC_PORT_STATUS_STATE]; omega
  have hcycle : Fld.key Reg.SEC_LIFECYCLE_STATE ≠ Fld.key (Reg.MAC_PORT_STATUS_STATE p) := by
    simp only [Fld.key, Reg.SEC_LIFECYCLE_STATE, Reg.MAC_PORT_STATUS_STATE]; omega
  have hmode : Fld.key (Reg.MAC_OCTET_MODE_MODE 0) ≠ Fld.key (Reg.MAC_PORT_STATUS_STATE p) := by
    simp only [Fld.key, Reg.MAC_OCTET_MODE_MODE, Reg.MAC_PORT_STATUS_STATE]; omega
  have hlink : Fld.key (Reg.MAC_PORT_STATUS_LINK_GOOD 0) ≠ Fld.key (Reg.MAC_PORT_STATUS_STATE p) := by
    simp only [Fld.key, Reg.MAC_PORT_STATUS_LINK_GOOD, Reg.MAC_PORT_STATUS_STATE]; omega
  have hfind : mapFind goodInDisabled.regs (Fld.key (Reg.MAC_PORT_STATUS_STATE p)) = none := by
    simp only [goodInDisabled, startedWith, mapFind_put_ne _ _ hboot, mapFind_put_ne _ _ hcycle, mapFind, if_neg hmode, if_neg hlink]
  exact congrArg (·.getD 0) hfind

/-- EXTEST judges the links of the ports anew, and passes over a port in DISABLED. -/
theorem jtagLoad_goodInDisabled : (goodInDisabled.jtagLoad 0).bit (Reg.MAC_PORT_STATUS_LINK_GOOD 0) = true := by
  have hload : goodInDisabled.jtagLoad 0 = goodInDisabled.jtag 0 := rfl
  rw [hload]
  unfold State.jtag
  extract_lets held granted s
  have hall : ∀ p, s.linkState p = stDisabled := goodInDisabled_disabled _
  have hgood : s.get (Reg.MAC_PORT_STATUS_LINK_GOOD 0) = 1 := by decide
  unfold State.bit
  split
  · rw [hgood]; rfl
  · rw [rejudgeAll_disabled hall, get_mirrorLink _ _ (by decide), hgood]; rfl

/-- Refutes O59: EXTEST judges the links anew, but a port in DISABLED takes nothing up. Where such a port shows LINK_GOOD = 1, that
stays, while the statement asks for LINK_GOOD = 0 at every port. -/
theorem not_observationPinsAndTheTestAccessPort : ¬ Obligations.ObservationPinsAndTheTestAccessPort := by
  unfold Obligations.ObservationPinsAndTheTestAccessPort
  intro h
  obtain ⟨-, hload⟩ := h goodInDisabled
  obtain ⟨-, htake⟩ := hload 0 _ (by decide) (.inl rfl)
  obtain ⟨t, hexec, -, -, hrunning⟩ := htake (by decide)
  obtain ⟨-, -, -, hheld, -⟩ := hrunning rfl
  have hnext : exec (.jtagInstruction 0) goodInDisabled = .next (goodInDisabled.jtagLoad 0).settle := onObject_ok (by decide : 0 < 256) _
  have ht : t = (goodInDisabled.jtagLoad 0).settle := by
    rw [hnext] at hexec
    exact (Host.Outcome.next.inj hexec).symm
  have hbad := hheld (by decide) (by decide) 0 (by decide) (by decide)
  rw [ht, bit_settle, jtagLoad_goodInDisabled] at hbad
  exact absurd hbad (by decide)

end Sys2Proof.Machine
end

section
/-! The roles of a pair and the interlock (R513 to R516, R526, R528, R530). -/

-- One proof at a time: side by side they take more threads than the memory bound of the check leaves room for.
set_option Elab.async false

namespace Sys2Proof.Machine

/-! ### What a role change does -/

theorem b2n_bne_zero (b : Bool) : (b2n b != 0) = b := by cases b <;> rfl

/-- The fields of PAIR_STATUS. -/
def pairStatusFields : List (Access × Fld) :=
  [(.ro, Reg.PAIR_STATUS_STATE), (.w1c, Reg.PAIR_STATUS_ROLE_CHG), (.w1c, Reg.PAIR_STATUS_MISMATCH), (.w1c, Reg.PAIR_STATUS_HB_LOST),
    (.w1c, Reg.PAIR_STATUS_BLOCKED), (.ro, Reg.PAIR_STATUS_HOLD_FAULT), (.ro, Reg.PAIR_STATUS_LINK_UP), (.ro, Reg.PAIR_STATUS_HOLD_IN),
    (.ro, Reg.PAIR_STATUS_HOLD_OUT)]

theorem get_pairStatus_of_only {s t : State} {P : List Part} {L : List String} {a : Access} {f : Fld} (h : s.only t P (regsOf L))
    (hf : (a, f) ∈ pairStatusFields) (hL : "PAIR_STATUS" ∉ L) : t.get f = s.get f :=
  kept_of_only h 23 0 0 (List.mem_of_getElem? (i := 2) rfl) hf hL

theorem bit_pairStatus_of_only {s t : State} {P : List Part} {L : List String} {a : Access} {f : Fld} (h : s.only t P (regsOf L))
    (hf : (a, f) ∈ pairStatusFields) (hL : "PAIR_STATUS" ∉ L) : t.bit f = s.bit f := by
  rw [State.bit, get_pairStatus_of_only h hf hL]
  rfl

theorem regs_syncCompare (s : State) : s.syncCompare.regs = s.regs := by
  unfold State.syncCompare
  split <;> rfl

theorem get_roleSync (s : State) (f : Fld) : s.syncMismatch.syncCompare.get f = s.get f :=
  get_of_regs (regs_syncCompare s.syncMismatch) f

/-- The pair's record with other records of the levels and of the comparison. -/
def PairSt.synced (p : PairSt) (m : Option Nat) (r w : SMap Nat) : PairSt := { p with mismatchFrom := m, residual := r, waits := w }

/-- The pair's record in a role: the drive of HOLD_OUT, the gate and HANDOFF follow it (R514, R527). -/
def PairSt.inRole (p : PairSt) (st cycle : Nat) : PairSt := { p with
  outSince := if !drivesHold st then none else if p.outSince.isSome then p.outSince else some cycle
  gate := p.gate && drivesHold st
  handoff := p.handoff && st != paStandby }

/-- The levels and the comparison that follow a role touch their own records alone. -/
theorem pair_roleSync (s : State) : ∃ m r w, s.syncMismatch.syncCompare.pair = s.pair.synced m r w := by
  unfold State.syncCompare
  split
  · exact ⟨_, _, _, rfl⟩
  · exact ⟨_, _, _, rfl⟩

/-- Apart from the records that follow the levels and the comparison, a role change sets the drive, its gate and HANDOFF. -/
theorem pair_setRole (s : State) (st : Nat) : ∃ m r w, (s.setRole st).pair = (s.pair.inRole st s.cycle).synced m r w := by
  unfold State.setRole
  extract_lets s1 d s2 s3
  obtain ⟨m, r, w, h⟩ := pair_roleSync s3
  have h1 : s1.pair = s.pair ∧ s1.cycle = s.cycle := by
    simp only [s1]
    split <;> exact ⟨rfl, rfl⟩
  refine ⟨m, r, w, h.trans (congrArg (PairSt.synced · m r w) ?_)⟩
  simp only [s3, s2, d, modPair_pair, setB_pair, set_pair, setB_cycle, set_cycle, h1.1, h1.2]
  rfl

theorem get_setRole (s : State) (st : Nat) {f : Fld} (h1 : Fld.key Reg.PAIR_STATUS_STATE ≠ Fld.key f)
    (h2 : Fld.key Reg.PAIR_STATUS_HOLD_OUT ≠ Fld.key f) (h3 : Fld.key Reg.PAIR_STATUS_ROLE_CHG ≠ Fld.key f) :
    (s.setRole st).get f = s.get f := by
  unfold State.setRole
  extract_lets s1 d s2 s3
  have hs1 : s1.get f = s.get f := by
    simp only [s1]
    split
    · rfl
    · exact get_on_ne _ h3
  rw [get_roleSync]
  exact (get_setB_ne _ _ h2).trans ((get_set_ne _ _ h1).trans hs1)

theorem pairState_setRole (s : State) {st : Nat} (h : st < 16) : (s.setRole st).pairState = st := by
  unfold State.setRole State.pairState
  extract_lets s1 d s2 s3
  rw [get_roleSync]
  exact (get_setB_ne _ _ (by decide)).trans ((get_set_self ..).trans (Nat.mod_eq_of_lt h))

theorem holdOut_setRole (s : State) (st : Nat) : (s.setRole st).bit Reg.PAIR_STATUS_HOLD_OUT = drivesHold st := by
  unfold State.setRole State.bit
  extract_lets s1 d s2 s3
  rw [get_roleSync, show s3.get Reg.PAIR_STATUS_HOLD_OUT = b2n d from get_setB_self _ _ _ le_rfl]
  exact b2n_bne_zero d

/-- A change to another state is noted. -/
theorem roleChg_setRole {s : State} {st : Nat} (h : st ≠ s.pairState) : (s.setRole st).bit Reg.PAIR_STATUS_ROLE_CHG = true := by
  unfold State.setRole
  extract_lets s1 d s2 s3
  refine bit_of_get_one ?_
  rw [get_roleSync]
  refine (get_setB_ne _ _ (by decide)).trans ((get_set_ne _ _ (by decide)).trans ?_)
  simp only [s1, if_neg h]
  exact get_on_self _ _ le_rfl

/-! ### The roles that a device takes -/

theorem pair_claimRole (s : State) : ∃ m r w,
    s.claimRole.pair = (PairSt.inRole { s.pair with prev := s.pairState, armed := none } paClaiming s.cycle).synced m r w :=
  pair_setRole _ _

theorem pairState_claimRole (s : State) : s.claimRole.pairState = paClaiming := pairState_setRole _ (by decide)

theorem holdOut_claimRole (s : State) : s.claimRole.bit Reg.PAIR_STATUS_HOLD_OUT = true := holdOut_setRole _ _

/-- The end of a resync takes its command off, and touches no other record of the pair. -/
theorem pair_endResync (s : State) (r : CmdRes) : (s.endResync r).pair = { s.pair with resync := none } := by
  unfold State.endResync
  split
  next c n h => exact (frame_complete _ 0x68 c r).1 .pair (by simp)
  next h => rw [← h]

theorem pair_becomeStale (s : State) : ∃ m r w,
    s.becomeStale.pair = { PairSt.synced (PairSt.inRole { s.pair with armed := none } paStale s.cycle) m r w with resync := none } := by
  obtain ⟨m, r, w, h⟩ := pair_setRole (s.modPair fun p => { p with armed := none }) paStale
  refine ⟨m, r, w, (pair_endResync _ _).trans ?_⟩
  rw [h]
  rfl

theorem get_endResync_pairStatus (s : State) (r : CmdRes) {a : Access} {f : Fld} (hf : (a, f) ∈ pairStatusFields) :
    (s.endResync r).get f = s.get f := get_pairStatus_of_only (frame_endResync s r) hf (by simp)

theorem get_becomeStale (s : State) {a : Access} {f : Fld} (hf : (a, f) ∈ pairStatusFields) (h1 : Fld.key Reg.PAIR_STATUS_STATE ≠ Fld.key f)
    (h2 : Fld.key Reg.PAIR_STATUS_HOLD_OUT ≠ Fld.key f) (h3 : Fld.key Reg.PAIR_STATUS_ROLE_CHG ≠ Fld.key f) :
    s.becomeStale.get f = s.get f :=
  (get_endResync_pairStatus _ _ hf).trans (get_setRole _ _ h1 h2 h3)

theorem pairState_becomeStale (s : State) : s.becomeStale.pairState = paStale :=
  (get_endResync_pairStatus _ _ (a := .ro) (by simp [pairStatusFields])).trans (pairState_setRole _ (by decide))

theorem holdOut_becomeStale (s : State) : s.becomeStale.bit Reg.PAIR_STATUS_HOLD_OUT = false := by
  unfold State.bit
  rw [State.becomeStale, get_endResync_pairStatus _ _ (a := .ro) (by simp [pairStatusFields])]
  exact holdOut_setRole _ _

/-- Entry to STANDBY clears Tally's ENABLE, and is else a change of the role. -/
theorem enterStandby_eq (s : State) : ∃ u, s.enterStandby = u.setRole paStandby ∧ u.pair = s.pair ∧ u.cycle = s.cycle ∧
    u.bit Reg.TALLY_CTRL_ENABLE = false ∧ s.only u [.tally] (regsOf ["TALLY_CTRL"]) := by
  unfold State.enterStandby
  split
  · exact ⟨_, rfl, rfl, rfl, bit_of_get_zero (get_off_self s Reg.TALLY_CTRL_ENABLE), keep_modTally _
      (keep_off _ (only_mono (only_refl s) (by simp) (keysOf_nil _)) (reg_TALLY_CTRL_ENABLE (by simp))) (by simp)⟩
  next h => exact ⟨_, rfl, rfl, rfl, by simpa using h, only_mono (only_refl s) (by simp) (by simp [keysOf])⟩

/-- Which fields of TALLY_CTRL and PAIR_STATUS a role leaves alone. -/
theorem get_enterStandby (s : State) {a : Access} {f : Fld} (hf : (a, f) ∈ pairStatusFields) (h1 : Fld.key Reg.PAIR_STATUS_STATE ≠ Fld.key f)
    (h2 : Fld.key Reg.PAIR_STATUS_HOLD_OUT ≠ Fld.key f) (h3 : Fld.key Reg.PAIR_STATUS_ROLE_CHG ≠ Fld.key f) :
    s.enterStandby.get f = s.get f := by
  obtain ⟨u, hu, -, -, -, honly⟩ := enterStandby_eq s
  rw [hu, get_setRole _ _ h1 h2 h3]
  exact get_pairStatus_of_only honly hf (by simp)

theorem get_tallyEnable_of_only {s t : State} {P : List Part} {L : List String} (h : s.only t P (regsOf L)) (hL : "TALLY_CTRL" ∉ L) :
    t.get Reg.TALLY_CTRL_ENABLE = s.get Reg.TALLY_CTRL_ENABLE :=
  kept_of_only h 6 0 0 (List.mem_of_getElem? (i := 0) rfl) (a := .rw) (by simp) hL

/-- Tally's recording goes with the role when it follows it (R530). -/
def State.tallyLeaves (s : State) : State :=
  if s.bit Reg.PAIR_CTRL_TALLY_FOLLOW && s.bit Reg.TALLY_CTRL_ENABLE then State.syncTally (s.off Reg.TALLY_CTRL_ENABLE).tallyOff else s

theorem only_tallyLeaves (s : State) : s.only s.tallyLeaves [.tally] (regsOf ["TALLY_CTRL", "TALLY_STATUS", "TALLY_RING_LEVEL"]) := by
  unfold State.tallyLeaves
  split
  · exact keep_of (frame_syncTally _) (keep_of (frame_tallyOff _) (keep_off _ (only_mono (only_refl s) (by simp) (keysOf_nil _))
      (reg_TALLY_CTRL_ENABLE (by simp))) (by simp) (by simp)) (by simp) (by simp)
  · exact only_mono (only_refl s) (by simp) (keysOf_nil _)

theorem tallyEnable_tallyLeaves {s : State} (h : (s.bit Reg.PAIR_CTRL_TALLY_FOLLOW && s.bit Reg.TALLY_CTRL_ENABLE) = true) :
    s.tallyLeaves.get Reg.TALLY_CTRL_ENABLE = 0 := by
  unfold State.tallyLeaves
  rw [if_pos h, get_tallyEnable_of_only (frame_syncTally _) (by simp), get_tallyEnable_of_only (frame_tallyOff _) (by simp)]
  exact get_off_self ..

/-- The state in which a yielding device leaves its role: its Tally has gone with it. -/
def State.yieldReady (s : State) : State := s.tallyLeaves.modPair fun p => { p with
  yielded := s.bit Reg.PAIR_CTRL_TALLY_FOLLOW && s.bit Reg.TALLY_CTRL_ENABLE, ack := if p.hostYield then 0 else p.ack, walk := none }

theorem yieldDone_eq (s : State) :
    s.yieldDone = if s.pair.hostYield then s.yieldReady.enterStandby else s.yieldReady.becomeStale := by
  have hpair : s.tallyLeaves.pair = s.pair := (only_tallyLeaves s).1 .pair (by simp)
  have hhost : s.yieldReady.pair.hostYield = s.tallyLeaves.pair.hostYield := rfl
  rw [← hpair, ← hhost]
  rfl

theorem get_yieldReady (s : State) (f : Fld) : s.yieldReady.get f = s.tallyLeaves.get f := get_of_regs rfl f

theorem inSince_yieldReady (s : State) : s.yieldReady.pair.inSince = s.pair.inSince := by
  have hpair : s.tallyLeaves.pair = s.pair := (only_tallyLeaves s).1 .pair (by simp)
  rw [← hpair]
  rfl

/-- The fields of PAIR_STATUS beside those of the role stay while a yielding device leaves its role. -/
theorem get_yieldDone (s : State) {a : Access} {f : Fld} (hf : (a, f) ∈ pairStatusFields) (h1 : Fld.key Reg.PAIR_STATUS_STATE ≠ Fld.key f)
    (h2 : Fld.key Reg.PAIR_STATUS_HOLD_OUT ≠ Fld.key f) (h3 : Fld.key Reg.PAIR_STATUS_ROLE_CHG ≠ Fld.key f) :
    s.yieldDone.get f = s.get f := by
  have hready : s.yieldReady.get f = s.get f :=
    (get_yieldReady s f).trans (get_pairStatus_of_only (only_tallyLeaves s) hf (by simp))
  rw [yieldDone_eq]
  split
  · rw [get_enterStandby _ hf h1 h2 h3, hready]
  · rw [get_becomeStale _ hf h1 h2 h3, hready]

theorem pairState_enterStandby (s : State) : s.enterStandby.pairState = paStandby := by
  obtain ⟨u, hu, -⟩ := enterStandby_eq s
  rw [hu]
  exact pairState_setRole _ (by decide)

theorem holdOut_enterStandby (s : State) : s.enterStandby.bit Reg.PAIR_STATUS_HOLD_OUT = false := by
  obtain ⟨u, hu, -⟩ := enterStandby_eq s
  rw [hu]
  exact holdOut_setRole _ _

theorem tallyEnable_enterStandby (s : State) : s.enterStandby.bit Reg.TALLY_CTRL_ENABLE = false := by
  obtain ⟨u, hu, -, -, hoff, -⟩ := enterStandby_eq s
  rw [hu, State.bit, get_tallyEnable_of_only (frame_setRole _ _) (by simp)]
  exact hoff

theorem pair_enterStandby (s : State) : ∃ m r w, s.enterStandby.pair = (s.pair.inRole paStandby s.cycle).synced m r w := by
  obtain ⟨u, hu, hp, hc, -⟩ := enterStandby_eq s
  rw [hu, ← hp, ← hc]
  exact pair_setRole _ _

theorem pairState_yieldDone (s : State) : s.yieldDone.pairState = if s.pair.hostYield then paStandby else paStale := by
  rw [yieldDone_eq]
  split
  · exact pairState_enterStandby _
  · exact pairState_becomeStale _

theorem holdOut_yieldDone (s : State) : s.yieldDone.bit Reg.PAIR_STATUS_HOLD_OUT = false := by
  rw [yieldDone_eq]
  split
  · exact holdOut_enterStandby _
  · exact holdOut_becomeStale _

/-- The pair's record once a yielding device has left its role. -/
theorem pair_yieldDone (s : State) : s.yieldDone.pair.gate = false ∧ s.yieldDone.pair.inSince = s.pair.inSince ∧
    s.yieldDone.pair.yielded = (s.bit Reg.PAIR_CTRL_TALLY_FOLLOW && s.bit Reg.TALLY_CTRL_ENABLE) := by
  rw [yieldDone_eq]
  split
  · obtain ⟨m, r, w, h⟩ := pair_enterStandby s.yieldReady
    rw [h]
    exact ⟨Bool.and_false _, inSince_yieldReady s, rfl⟩
  · obtain ⟨m, r, w, h⟩ := pair_becomeStale s.yieldReady
    rw [h]
    exact ⟨Bool.and_false _, inSince_yieldReady s, rfl⟩

theorem tallyEnable_yieldDone {s : State} (h : (s.bit Reg.PAIR_CTRL_TALLY_FOLLOW && s.bit Reg.TALLY_CTRL_ENABLE) = true) :
    s.yieldDone.bit Reg.TALLY_CTRL_ENABLE = false := by
  rw [yieldDone_eq]
  split
  · exact tallyEnable_enterStandby _
  · rw [State.bit, get_tallyEnable_of_only (frame_becomeStale _) (by simp)]
    exact bit_of_get_zero ((get_yieldReady s _).trans (tallyEnable_tallyLeaves h))

end Sys2Proof.Machine
end

section
/-! The roles of a pair follow the interlock (R513 to R516, R526, R528, R530). -/

-- One proof at a time: side by side they take more threads than the memory bound of the check leaves room for.
set_option Elab.async false

namespace Sys2Proof.Machine

/-! ### The commands of the host -/

section Cmd

variable {s : State} (hs : s.served) (hf : s.funcUp .pair = true)
include hs hf

/-- An accepted write of PAIR_CMD does what the page does: its two fields hold nothing. -/
theorem pairCmd_takes {i : Instr} {v : Nat} {t : State} {P : List Part} {m : Keys} {effect : State → Prop} (hv : v = 1 ∨ v = 2)
    (hi : exec i s = whenUp s fun s => s.hostWrite 0x1700004 v) (hc : pairCheck s 4 v = .ok) (ht : pairEffect s 4 v = t)
    (hmoved : s.only t P m) (hwarm : ¬ m (Fld.key Reg.SYS_CTRL_WARM_RESET)) (he : effect (t.answered .ok)) : s.takes i P m effect :=
  takes_of_write hs regIs_PAIR_CMD (page := 23) (off := 4) (by decide) (by decide) (by simp [State.pageDown, pageOf, pageFunc, hf]) trivial
    (by omega) (by rcases hv with rfl | rfl <;> decide) (by decide) hi hc
    (by rw [storeFields_wo, storeFields_wo, storeFields_nil]; exact ht) hmoved hwarm he

theorem pairCmd_turnsAway {i : Instr} {v : Nat} {st : Status} (hv : v = 1 ∨ v = 2)
    (hi : exec i s = whenUp s fun s => s.hostWrite 0x1700004 v) (hc : pairCheck s 4 v = st) (hst : st ≠ .ok) : s.turnsAway i st :=
  turnsAway_of_write hs regIs_PAIR_CMD (page := 23) (off := 4) (by decide) (by decide) (by simp [State.pageDown, pageOf, pageFunc, hf])
    trivial (by omega) (by rcases hv with rfl | rfl <;> decide) (by decide) hi hc hst

end Cmd

theorem pairCheck_claim (s : State) : pairCheck s 4 1 =
    if (s.pairState == paDetached || s.pairState == paStale) && !s.holdIn && !s.bit Reg.PAIR_STATUS_HOLD_FAULT then .ok else .busy := by
  have h0 : bitOf 1 0 = true := by decide
  have h1 : bitOf 1 1 = false := by decide
  simp only [pairCheck, h0, h1]
  cases (s.pairState == paDetached || s.pairState == paStale) && !s.holdIn && !s.bit Reg.PAIR_STATUS_HOLD_FAULT <;> rfl

theorem pairCheck_yield (s : State) : pairCheck s 4 2 =
    if s.pairState == paActive && s.get Reg.PAIR_PEER_STATE == paStandby then .ok else .busy := by
  have h0 : bitOf 2 0 = false := by decide
  have h1 : bitOf 2 1 = true := by decide
  simp only [pairCheck, h0, h1]
  cases s.pairState == paActive && s.get Reg.PAIR_PEER_STATE == paStandby <;> rfl

theorem get_putVerdict_pairStatus (s : State) (cause outcome port : Nat) {a : Access} {f : Fld} (hf : (a, f) ∈ pairStatusFields) :
    (s.putVerdict cause outcome port).get f = s.get f := get_pairStatus_of_only (frame_putVerdict s cause outcome port) hf (by simp)

theorem pairState_putVerdict (s : State) (cause outcome port : Nat) : (s.putVerdict cause outcome port).pairState = s.pairState :=
  get_putVerdict_pairStatus s cause outcome port (a := .ro) (by simp [pairStatusFields])

theorem pairEffect_claim (s : State) : pairEffect s 4 1 = (s.putVerdict 5 1 0).claimRole := by
  have h0 : bitOf 1 0 = true := by decide
  simp [pairEffect, h0]

theorem pairEffect_yield (s : State) : pairEffect s 4 2 = s.yieldRole true := by
  have h0 : bitOf 2 0 = false := by decide
  have h1 : bitOf 2 1 = true := by decide
  simp [pairEffect, h0, h1]

theorem roleChg_claimRole {s : State} (h : s.pairState ≠ paClaiming) : s.claimRole.bit Reg.PAIR_STATUS_ROLE_CHG = true :=
  roleChg_setRole fun e => h e.symm

/-- CLAIM (R513). -/
theorem claim_taken {s : State} (hs : s.served) (hf : s.funcUp .pair = true)
    (hok : ((s.pairState == paDetached || s.pairState == paStale) && !s.holdIn && !s.bit Reg.PAIR_STATUS_HOLD_FAULT) = true) :
    s.takes .claim [.pair] (regsOf ["PAIR_STATUS", "PAIR_VERDICT"]) fun t => t.pairState = paClaiming ∧
      t.bit Reg.PAIR_STATUS_HOLD_OUT = true ∧ t.bit Reg.PAIR_STATUS_ROLE_CHG = true ∧ t.pair.prev = s.pairState ∧
      t.pair.armed = none ∧ (s.pair.outSince = none → t.pair.outSince = some s.cycle) ∧ t.pair.gate = s.pair.gate := by
  have hst : s.pairState = paDetached ∨ s.pairState = paStale := by
    simp only [Bool.and_eq_true, Bool.or_eq_true, beq_iff_eq] at hok
    exact hok.1.1
  refine pairCmd_takes hs hf (.inl rfl) rfl (by rw [pairCheck_claim, if_pos hok]) (pairEffect_claim s)
    (keep_of (frame_claimRole _) (only_widen (frame_putVerdict s 5 1 0) (by simp) (by simp)) (by simp) (by simp)) ?_ ?_
  · exact not_regsOf 0 0 0 (List.mem_of_getElem? (i := 12) rfl) (a := .wo) (by simp) (by simp)
  · have hprev : (s.putVerdict 5 1 0).pairState = s.pairState := pairState_putVerdict s 5 1 0
    have hpair : (s.putVerdict 5 1 0).pair = s.pair ∧ (s.putVerdict 5 1 0).cycle = s.cycle := ⟨rfl, rfl⟩
    generalize s.putVerdict 5 1 0 = u at hprev hpair
    obtain ⟨m, r, w, h⟩ := pair_claimRole u
    have hne : u.pairState ≠ paClaiming := by rw [hprev]; rcases hst with h | h <;> rw [h] <;> decide
    have hanswered : (u.claimRole.answered .ok).pair = u.claimRole.pair := rfl
    refine ⟨pairState_claimRole u, holdOut_claimRole u, roleChg_claimRole hne, ?_⟩
    rw [hanswered, h, hpair.1, hpair.2, hprev]
    exact ⟨rfl, rfl, fun hout => by simp [PairSt.synced, PairSt.inRole, hout, drivesHold], Bool.and_true _⟩

/-! ### Frames on the mirror link -/

theorem allIdle_congr {s t : State} (hdie : t.die = s.die) (hhost : t.host = s.host) (hplat : t.plat = s.plat)
    (hlife : t.get Reg.SEC_LIFECYCLE_STATE = s.get Reg.SEC_LIFECYCLE_STATE) (hboot : t.get Reg.SEC_BOOT_STATE = s.get Reg.SEC_BOOT_STATE)
    (hosc : t.get Reg.SYS_CLK_STATUS_ON_OSC = s.get Reg.SYS_CLK_STATUS_ON_OSC) : t.allIdle = s.allIdle := by
  simp only [State.allIdle, State.running, State.testMode, State.bit, hdie, hhost, hplat, hlife, hboot, hosc]

/-- What moves the pair alone leaves the mirror transmitters as they are. -/
theorem mirrorIdle_of_only {s t : State} {L : List String} (h : s.only t [.pair] (regsOf L)) (hlife : "SEC_LIFECYCLE" ∉ L)
    (hboot : "SEC_BOOT" ∉ L) (hclk : "SYS_CLK_STATUS" ∉ L) : t.mirrorIdle = s.mirrorIdle := by
  have hdie : t.die = s.die := h.1 .die (by simp)
  have hplat : t.plat = s.plat := h.1 .plat (by simp)
  have hcycle : t.cycle = s.cycle := h.1 .cycle (by simp)
  have hidle : t.allIdle = s.allIdle := allIdle_congr hdie (h.1 .host (by simp)) hplat
    (kept_of_only h 22 0 0 (List.mem_of_getElem? (i := 1) rfl) (a := .ro) (by simp) hlife)
    (kept_of_only h 22 0 0 (List.mem_of_getElem? (i := 0) rfl) (a := .ro) (by simp) hboot)
    (kept_of_only h 0 0 0 (List.mem_of_getElem? (i := 7) rfl) (a := .ro) (by simp) hclk)
  simp only [State.mirrorIdle, State.cellsDrive, State.running, hidle, hdie, hplat, hcycle]

/-- The bytes of a mirror frame carry the identity of the device and its ACK. -/
theorem mirrorBytes_congr {s t : State} (hdie : t.die = s.die) (hack : t.pair.ack = s.pair.ack) (type seq : Nat) (b : List Byte) :
    t.mirrorBytes type seq b = s.mirrorBytes type seq b := by
  simp only [State.mirrorBytes, hdie, hack]

theorem mirrorSend_on {s : State} (hup : s.bit Reg.PAIR_STATUS_LINK_UP = true) (hidle : s.mirrorIdle = false) (b : List Byte) :
    s.mirrorSend b = s.modPair fun p => { p with sent := p.sent ++ [b] } := by
  unfold State.mirrorSend
  simp [hup, hidle]

theorem mirrorSend_off {s : State} (h : s.bit Reg.PAIR_STATUS_LINK_UP = false ∨ s.mirrorIdle = true) (b : List Byte) :
    s.mirrorSend b = s := by
  unfold State.mirrorSend
  rcases h with h | h <;> simp [h]

/-- What is sent leaves every field and the rest of the pair's record. -/
theorem mirrorSend_eq (s : State) (b : List Byte) : ∃ l, s.mirrorSend b = s.modPair fun p => { p with sent := l } := by
  unfold State.mirrorSend
  split
  · exact ⟨_, rfl⟩
  · exact ⟨s.pair.sent, rfl⟩

/-! ### Yielding -/

/-- The role that a yielding device takes, before it sends HANDOFF. -/
def State.yielding (s : State) (host : Bool) : State := (s.modPair fun p => { p with hostYield := host }).setRole paYielding

theorem yieldRole_eq (s : State) (host : Bool) : s.yieldRole host = (s.yielding host).mirrorSend ((s.yielding host).mirrorBytes 5 0 []) := rfl

theorem only_yielding (s : State) (host : Bool) : s.only (s.yielding host) [.pair] (regsOf ["PAIR_STATUS"]) :=
  keep_of (frame_setRole _ _) (keep_modPair _ (only_mono (only_refl s) (by simp) (keysOf_nil _)) (by simp)) (by simp) (by simp)

theorem get_mirrorSend (s : State) (b : List Byte) (f : Fld) : (s.mirrorSend b).get f = s.get f := by
  obtain ⟨l, h⟩ := mirrorSend_eq s b
  rw [h]
  exact get_of_regs rfl f

theorem get_yieldRole (s : State) (host : Bool) (f : Fld) : (s.yieldRole host).get f = (s.yielding host).get f := get_mirrorSend ..

theorem pairState_yieldRole (s : State) (host : Bool) : (s.yieldRole host).pairState = paYielding :=
  (get_yieldRole s host _).trans (pairState_setRole _ (by decide))

theorem holdOut_yieldRole (s : State) (host : Bool) : (s.yieldRole host).bit Reg.PAIR_STATUS_HOLD_OUT = true := by
  rw [State.bit, get_yieldRole]
  exact holdOut_setRole _ _

/-- Yielding keeps the gate, and notes whether the host asked for it. -/
theorem pair_yieldRole (s : State) (host : Bool) :
    (s.yieldRole host).pair.hostYield = host ∧ (s.yieldRole host).pair.gate = s.pair.gate := by
  obtain ⟨l, h⟩ := mirrorSend_eq (s.yielding host) ((s.yielding host).mirrorBytes 5 0 [])
  obtain ⟨m, r, w, hp⟩ := pair_setRole (s.modPair fun p => { p with hostYield := host }) paYielding
  have hpair : (s.yielding host).pair = _ := hp
  rw [yieldRole_eq, h, modPair_pair, hpair]
  exact ⟨rfl, Bool.and_true _⟩

theorem sent_yieldRole {s : State} (hup : s.bit Reg.PAIR_STATUS_LINK_UP = true) (hidle : s.mirrorIdle = false) (host : Bool) :
    (s.yieldRole host).pair.sent = s.pair.sent ++ [s.mirrorBytes 5 0 []] := by
  have honly := only_yielding s host
  obtain ⟨m, r, w, hp⟩ := pair_setRole (s.modPair fun p => { p with hostYield := host }) paYielding
  have hpair : (s.yielding host).pair = _ := hp
  have hup' : (s.yielding host).bit Reg.PAIR_STATUS_LINK_UP = true := by
    rw [State.bit, State.yielding, get_setRole _ _ (by decide) (by decide) (by decide)]
    exact hup
  have hack : (s.yielding host).pair.ack = s.pair.ack := by rw [hpair]; simp only [PairSt.synced, PairSt.inRole, modPair_pair]
  have hbytes : (s.yielding host).mirrorBytes 5 0 [] = s.mirrorBytes 5 0 [] :=
    mirrorBytes_congr (honly.1 .die (by simp)) hack 5 0 []
  rw [yieldRole_eq, mirrorSend_on hup' ((mirrorIdle_of_only honly (by simp) (by simp) (by simp)).trans hidle), hbytes, modPair_pair, hpair]
  rfl

/-- YIELD (R513). -/
theorem yield_taken {s : State} (hs : s.served) (hf : s.funcUp .pair = true)
    (hok : (s.pairState == paActive && s.get Reg.PAIR_PEER_STATE == paStandby) = true) :
    s.takes .yieldRole [.pair] (regsOf ["PAIR_STATUS"]) fun t => t.pairState = paYielding ∧ t.pair.hostYield = true ∧
      t.bit Reg.PAIR_STATUS_HOLD_OUT = true ∧ t.pair.gate = s.pair.gate ∧
      (s.bit Reg.PAIR_STATUS_LINK_UP = true → s.mirrorIdle = false → t.pair.sent = s.pair.sent ++ [s.mirrorBytes 5 0 []]) := by
  refine pairCmd_takes hs hf (.inr rfl) rfl (by rw [pairCheck_yield, if_pos hok]) (pairEffect_yield s) (frame_yieldRole s true) ?_ ?_
  · exact not_regsOf 0 0 0 (List.mem_of_getElem? (i := 12) rfl) (a := .wo) (by simp) (by simp)
  · have hstate := pairState_yieldRole s true
    have hout := holdOut_yieldRole s true
    have hsent hup hidle := sent_yieldRole (s := s) hup hidle true
    obtain ⟨hhost, hgate⟩ := pair_yieldRole s true
    generalize s.yieldRole true = u at *
    exact ⟨hstate, hhost, hout, hgate, hsent⟩

end Sys2Proof.Machine
end

section
/-! HOLD_IN of a pair and the roles that follow it (R514 to R516, R526, R528). -/

-- One proof at a time: side by side they take more threads than the memory bound of the check leaves room for.
set_option Elab.async false

namespace Sys2Proof.Machine

/-! ### A change of HOLD_IN -/

/-- The die's record of the filtered level. -/
def State.heldAt (s : State) (level : Bool) : DieSt := { s.die with holdIn := level }

/-- A state has taken up a level of HOLD_IN. -/
def State.sawHold (s t : State) (level : Bool) : Prop := t.holdIn = level ∧ t.pair.inSince = s.cycle ∧ t.die = s.heldAt level

section SawHold

variable {s t : State} {level : Bool} (h : s.sawHold t level)
include h

theorem sawHold_setRole (st : Nat) : s.sawHold (t.setRole st) level := by
  obtain ⟨hin, hsince, hdie⟩ := h
  obtain ⟨m, r, w, hp⟩ := pair_setRole t st
  refine ⟨?_, by rw [hp]; exact hsince, ((frame_setRole t st).1 .die (by simp) : (t.setRole st).die = t.die).trans hdie⟩
  rw [State.holdIn, State.bit, get_setRole _ _ (by decide) (by decide) (by decide)]
  exact hin

theorem sawHold_claimRole : s.sawHold t.claimRole level := by
  unfold State.claimRole
  exact sawHold_setRole (t := t.modPair _) h _

theorem sawHold_yieldDone : s.sawHold t.yieldDone level := by
  obtain ⟨hin, hsince, hdie⟩ := h
  refine ⟨?_, (pair_yieldDone t).2.1.trans hsince, ((frame_yieldDone t).1 .die (by simp) : t.yieldDone.die = t.die).trans hdie⟩
  rw [State.holdIn, State.bit, get_yieldDone t (a := .ro) (by simp [pairStatusFields]) (by decide) (by decide) (by decide)]
  exact hin

end SawHold

/-- What every change of HOLD_IN notes. -/
def State.holdSeen (s : State) (level : Bool) : State :=
  State.syncMismatch ((State.setB { s with die := s.heldAt level } Reg.PAIR_STATUS_HOLD_IN level).modPair fun p => { p with inSince := s.cycle })

theorem get_holdSeen (s : State) (level : Bool) {f : Fld} (h : Fld.key Reg.PAIR_STATUS_HOLD_IN ≠ Fld.key f) :
    (s.holdSeen level).get f = s.get f := get_setB_ne { s with die := s.heldAt level } level h

theorem sawHold_holdSeen (s : State) (level : Bool) : s.sawHold (s.holdSeen level) level := by
  refine ⟨?_, rfl, rfl⟩
  have hget : (s.holdSeen level).get Reg.PAIR_STATUS_HOLD_IN = b2n level :=
    get_setB_self { s with die := s.heldAt level } Reg.PAIR_STATUS_HOLD_IN level le_rfl
  rw [State.holdIn, State.bit, hget, b2n_bne_zero]

theorem pair_holdSeen (s : State) (level : Bool) : ∃ m, (s.holdSeen level).pair = { s.pair with inSince := s.cycle, mismatchFrom := m } :=
  ⟨_, rfl⟩

theorem pairState_holdSeen (s : State) (level : Bool) : (s.holdSeen level).pairState = s.pairState := get_holdSeen s level (by decide)

theorem holdFault_holdSeen (s : State) (level : Bool) :
    (s.holdSeen level).bit Reg.PAIR_STATUS_HOLD_FAULT = s.bit Reg.PAIR_STATUS_HOLD_FAULT := by
  rw [State.bit, get_holdSeen s level (by decide), State.bit]

/-- An overlap: both sides are gated, and one that did not begin as simultaneous claims is a fault (R515, R516). -/
def State.overlapped (s : State) : State :=
  let u := (s.holdSeen true).modPair fun p => { p with gate := false }
  if s.pairState = paClaiming then u else u.on Reg.PAIR_STATUS_HOLD_FAULT

/-- What a device does when both sides drive HOLD_OUT: the junior releases. -/
def State.overlapRole (s : State) : State :=
  if s.die.straps.senior then s.overlapped
  else if s.pairState = paClaiming then s.overlapped.setRole s.pair.prev
  else if s.pairState = paActive then s.overlapped.setRole paDetached
  else s.overlapped.yieldDone

section Change

variable {s : State} {level : Bool} (hl : level ≠ s.holdIn)
include hl

theorem holdInChange_off (h : s.die.straps.pairEn = false) : s.holdInChange level = s.holdSeen level := by
  unfold State.holdInChange
  rw [if_neg hl]
  exact if_pos (by simp [State.setB, State.syncMismatch, h])

theorem holdInChange_on (h : s.die.straps.pairEn = true) : s.holdInChange level =
    if level then if !drivesHold s.pairState then s.holdSeen level else s.overlapRole
    else if s.pair.armed.isSome && s.pairState = paStandby && !s.bit Reg.PAIR_STATUS_HOLD_FAULT then (s.holdSeen level).claimRole
    else s.holdSeen level := by
  unfold State.holdInChange
  rw [if_neg hl]
  extract_lets d u v st w x
  have hv : v = s.holdSeen level := rfl
  have hst : st = s.pairState := pairState_holdSeen s level
  have hen : v.die.straps.pairEn = true := h
  have harmed : v.pair.armed = s.pair.armed := rfl
  have hfault : v.bit Reg.PAIR_STATUS_HOLD_FAULT = s.bit Reg.PAIR_STATUS_HOLD_FAULT := holdFault_holdSeen s level
  rw [hen, harmed, hfault, hv, hst]
  cases level with
  | false => rfl
  | true =>
    have hx : x = s.overlapped := by simp only [x, w, hst]; rfl
    have hprev : x.pair.prev = s.pair.prev := by
      simp only [x]
      split <;> rfl
    have hsenior : x.die.straps.senior = s.die.straps.senior := by
      simp only [x]
      split <;> rfl
    rw [hprev, hsenior, hx]
    rfl

end Change

theorem sawHold_holdInChange {s : State} {level : Bool} (hl : level ≠ s.holdIn) : s.sawHold (s.holdInChange level) level := by
  have hseen := sawHold_holdSeen s level
  cases hen : s.die.straps.pairEn with
  | false => rw [holdInChange_off hl hen]; exact hseen
  | true =>
    have hover : level = true → s.sawHold s.overlapped level := by
      rintro rfl
      unfold State.overlapped
      split
      · exact hseen
      · refine ⟨?_, hseen.2⟩
        rw [State.holdIn, State.bit, get_on_ne _ (by decide)]
        exact hseen.1
    rw [holdInChange_on hl hen]
    split
    next h =>
      split
      · exact hseen
      · unfold State.overlapRole
        split
        · exact hover h
        · split
          · exact sawHold_setRole (hover h) _
          · split
            · exact sawHold_setRole (hover h) _
            · exact sawHold_yieldDone (hover h)
    · split
      · exact sawHold_claimRole hseen
      · exact hseen

/-! ### Both sides drive HOLD_OUT -/

theorem pair_overlapped (s : State) : ∃ m, s.overlapped.pair = { s.pair with inSince := s.cycle, mismatchFrom := m, gate := false } := by
  obtain ⟨m, h⟩ := pair_holdSeen s true
  refine ⟨m, ?_⟩
  unfold State.overlapped
  split
  · rw [modPair_pair, h]
  · rw [on_pair, modPair_pair, h]

theorem get_overlapped (s : State) {f : Fld} (h1 : Fld.key Reg.PAIR_STATUS_HOLD_IN ≠ Fld.key f)
    (h2 : Fld.key Reg.PAIR_STATUS_HOLD_FAULT ≠ Fld.key f) : s.overlapped.get f = s.get f := by
  unfold State.overlapped
  split
  · exact get_holdSeen s true h1
  · exact (get_on_ne _ h2).trans (get_holdSeen s true h1)

theorem holdFault_overlapped {s : State} (h : s.pairState ≠ paClaiming) : s.overlapped.get Reg.PAIR_STATUS_HOLD_FAULT = 1 := by
  unfold State.overlapped
  rw [if_neg h]
  exact get_on_self _ _ le_rfl

theorem gate_overlapRole (s : State) : s.overlapRole.pair.gate = false := by
  obtain ⟨m, hover⟩ := pair_overlapped s
  have hrole (st : Nat) : (s.overlapped.setRole st).pair.gate = false := by
    obtain ⟨m', r, w, h⟩ := pair_setRole s.overlapped st
    rw [h, hover]
    rfl
  unfold State.overlapRole
  split
  · rw [hover]
  · split
    · exact hrole _
    · split
      · exact hrole _
      · exact (pair_yieldDone _).1

theorem holdFault_overlapRole {s : State} (h : s.pairState ≠ paClaiming) : s.overlapRole.bit Reg.PAIR_STATUS_HOLD_FAULT = true := by
  have hover := holdFault_overlapped h
  refine bit_of_get_one ?_
  unfold State.overlapRole
  split
  · exact hover
  · split
    · exact (get_setRole _ _ (by decide) (by decide) (by decide)).trans hover
    · exact (get_yieldDone _ (a := .ro) (by simp [pairStatusFields]) (by decide) (by decide) (by decide)).trans hover

theorem overlapRole_senior {s : State} (h : s.die.straps.senior = true) : s.overlapRole.pairState = s.pairState ∧
    s.overlapRole.bit Reg.PAIR_STATUS_HOLD_OUT = s.bit Reg.PAIR_STATUS_HOLD_OUT := by
  have heq : s.overlapRole = s.overlapped := by unfold State.overlapRole; rw [if_pos h]
  rw [heq]
  exact ⟨get_overlapped s (by decide) (by decide), congrArg (· != 0) (get_overlapped s (by decide) (by decide))⟩

/-- The junior's claim falls back to the state before it (Table 20-2). -/
theorem overlapRole_claiming {s : State} (h : s.die.straps.senior = false) (hst : s.pairState = paClaiming)
    (hprev : s.pair.prev ∈ [paDetached, paStandby, paStale]) :
    s.overlapRole.pairState = s.pair.prev ∧ s.overlapRole.bit Reg.PAIR_STATUS_HOLD_OUT = false := by
  have heq : s.overlapRole = s.overlapped.setRole s.pair.prev := by
    unfold State.overlapRole
    rw [if_neg (by simp [h]), if_pos hst]
  have hfew : s.pair.prev < 16 ∧ drivesHold s.pair.prev = false := by
    simp only [List.mem_cons, List.not_mem_nil, or_false] at hprev
    rcases hprev with h | h | h <;> rw [h] <;> decide
  rw [heq]
  exact ⟨pairState_setRole _ hfew.1, (holdOut_setRole _ _).trans hfew.2⟩

theorem overlapRole_active {s : State} (h : s.die.straps.senior = false) (hst : s.pairState = paActive) :
    s.overlapRole.pairState = paDetached ∧ s.overlapRole.bit Reg.PAIR_STATUS_HOLD_OUT = false := by
  have heq : s.overlapRole = s.overlapped.setRole paDetached := by
    unfold State.overlapRole
    rw [if_neg (by simp [h]), if_neg (by rw [hst]; decide), if_pos hst]
  rw [heq]
  exact ⟨pairState_setRole _ (by decide), (holdOut_setRole _ _).trans rfl⟩

theorem overlapRole_yielding {s : State} (h : s.die.straps.senior = false) (hst : s.pairState = paYielding) :
    s.overlapRole.pairState = (if s.pair.hostYield then paStandby else paStale) ∧
      s.overlapRole.bit Reg.PAIR_STATUS_HOLD_OUT = false := by
  have heq : s.overlapRole = s.overlapped.yieldDone := by
    unfold State.overlapRole
    rw [if_neg (by simp [h]), if_neg (by rw [hst]; decide), if_neg (by rw [hst]; decide)]
  obtain ⟨m, hp⟩ := pair_overlapped s
  rw [heq, pairState_yieldDone, hp]
  exact ⟨rfl, holdOut_yieldDone _⟩

/-- A gated device of a pair drives no front transmitter (R514). -/
theorem frontIdle_gated {t : State} (hen : t.die.straps.pairEn = true) (hgate : t.pair.gate = false) (hcells : t.cellsDrive = false) :
    t.frontIdle = true := by
  unfold State.frontIdle
  simp [hen, hgate, hcells]

/-! ### The transmitters, takeovers and lapses -/

theorem pair_becomeStale_armed (s : State) : s.becomeStale.pair.armed = none := by
  obtain ⟨m, r, w, h⟩ := pair_becomeStale s
  rw [h]
  rfl

/-- A change of HOLD_IN that finds no overlap and no armed takeover moves no other field (R514). -/
theorem only_holdSeen (s : State) (level : Bool) : s.only (s.holdSeen level) [.die, .pair] (keysOf [Reg.PAIR_STATUS_HOLD_IN]) := by
  have hdie : s.only { s with die := s.heldAt level } [.die, .pair] (keysOf [Reg.PAIR_STATUS_HOLD_IN]) :=
    keep_part (only_mono (only_refl s) (by simp) (keysOf_nil _)) rfl fun q hq => by cases q <;> simp_all [Part.same]
  exact keep_modPair _ (keep_modPair _ (keep_setB _ _ hdie (by simp [keysOf])) (by simp)) (by simp)

theorem transmitEnable_waits {s : State} (h : s.pair.outSince = none ∨ (∃ k, s.pair.outSince = some k ∧ s.cycle < k + 300) ∨
    s.holdIn = true ∨ s.cycle < s.pair.inSince + 300) : s.transmitEnable = s := by
  unfold State.transmitEnable
  rcases h with h | ⟨k, h, hk⟩ | h | h
  · simp [h]
  · simp [h, show ¬ k + 300 ≤ s.cycle by omega]
  · simp [h]
  · simp [h]

theorem transmitEnable_role {s : State} (h1 : s.pairState ≠ paClaiming) (h2 : s.pairState ≠ paActive) : s.transmitEnable = s := by
  unfold State.transmitEnable
  simp [h1, h2]

/-- The claimer's record of its pair at the moment it becomes ACTIVE. -/
def PairSt.opened (p : PairSt) (cycle : Nat) (follow : Bool) : PairSt :=
  { p with activeAt := cycle, follow := follow, queue := [], nextSeq := 1, streamLost := false, yielded := false, walk := none }

/-- The role in which a device enables its transmitters. -/
def State.opensRole (s : State) : State :=
  if s.pairState = paClaiming then
    (s.modPair fun p => p.opened s.cycle (s.pair.prev == paStandby && s.bit Reg.PAIR_CTRL_TALLY_FOLLOW)).setRole paActive
  else s

theorem transmitEnable_eq {s : State} {k : Nat} (hout : s.pair.outSince = some k) (hk : k + 300 ≤ s.cycle) (hin : s.holdIn = false)
    (hsince : s.pair.inSince + 300 ≤ s.cycle) (hst : s.pairState = paClaiming ∨ s.pairState = paActive) :
    s.transmitEnable = (s.opensRole.set Reg.PAIR_MIRROR_LEVEL_LEVEL s.opensRole.pair.queue.length).modPair fun p => { p with gate := true } := by
  unfold State.transmitEnable
  have hset : decide (s.cycle ≥ k + 300) = true := by simpa using hk
  have hlt : ¬ s.cycle < s.pair.inSince + 300 := by omega
  rcases hst with h | h <;> simp [hout, hset, hin, hlt, h, State.opensRole, PairSt.opened, paClaiming, paActive]

end Sys2Proof.Machine
end

section
/-! The roles of a pair follow the interlock (R513 to R516, R526, R528, R530). -/

-- One proof at a time: side by side they take more threads than the memory bound of the check leaves room for.
set_option Elab.async false

namespace Sys2Proof.Machine

theorem exec_holdInChange {s : State} (hrun : s.running = true) (level : Bool) :
    exec (.holdInChange level) s = .next (s.holdInChange level).settle := by
  change finish (s.holdPin level) = _
  rw [State.holdPin, if_pos hrun]
  rfl

@[simp] theorem pairState_settle (s : State) : s.settle.pairState = s.pairState := rfl

@[simp] theorem holdIn_settle (s : State) : s.settle.holdIn = s.holdIn := rfl

@[simp] theorem frontIdle_pinsOf (s : State) : s.pinsOf.frontIdle = s.frontIdle := rfl

/-- HOLD_IN against the role and the drive of the device (R514, R515, R526). -/
theorem holdInChange_roles {s : State} (hrun : s.running = true) (level : Bool) :
      (level = s.holdIn → ∃ t, exec (.holdInChange level) s = .next t ∧ s.only t [.die] (keysOf [])) ∧
      (level ≠ s.holdIn → ∃ t, exec (.holdInChange level) s = .next t ∧ t.holdIn = level ∧ t.pair.inSince = s.cycle ∧
        t.die = { s.die with holdIn := level } ∧
        (s.die.straps.pairEn = false ∨ (level = true ∧ drivesHold s.pairState = false) ∨
            (level = false ∧ (s.pair.armed = none ∨ s.pairState ≠ paStandby ∨ s.bit Reg.PAIR_STATUS_HOLD_FAULT = true)) →
          t.pairState = s.pairState ∧ s.only t [.die, .pair] (keysOf [Reg.PAIR_STATUS_HOLD_IN])) ∧
        (s.die.straps.pairEn = true → level = false → s.pair.armed ≠ none → s.pairState = paStandby →
          s.bit Reg.PAIR_STATUS_HOLD_FAULT = false → t.pairState = paClaiming ∧ t.bit Reg.PAIR_STATUS_HOLD_OUT = true) ∧
        (s.die.straps.pairEn = true → level = true → drivesHold s.pairState = true →
          t.pair.gate = false ∧ (s.cellsDrive = false → t.pins.frontIdle = true) ∧
          (s.pairState ≠ paClaiming → t.bit Reg.PAIR_STATUS_HOLD_FAULT = true) ∧
          (s.die.straps.senior = true → t.pairState = s.pairState ∧ t.bit Reg.PAIR_STATUS_HOLD_OUT = s.bit Reg.PAIR_STATUS_HOLD_OUT) ∧
          (s.die.straps.senior = false →
            (s.pairState = paClaiming → s.pair.prev ∈ [paDetached, paStandby, paStale] → t.pairState = s.pair.prev ∧
              t.bit Reg.PAIR_STATUS_HOLD_OUT = false) ∧
            (s.pairState = paActive → t.pairState = paDetached ∧ t.bit Reg.PAIR_STATUS_HOLD_OUT = false) ∧
            (s.pairState = paYielding → t.pairState = (if s.pair.hostYield then paStandby else paStale) ∧
              t.bit Reg.PAIR_STATUS_HOLD_OUT = false))) ∧
        s.only t [.die, .events, .reck, .tally, .host, .pair] (regsOf ["TALLY_CTRL", "TALLY_STATUS", "TALLY_RING_LEVEL", "RING_CFG",
          "RING_DEV_INDEX", "PAIR_STATUS"])) := by
  constructor
  · intro hl
    refine ⟨_, exec_holdInChange hrun level, only_settled ?_⟩
    unfold State.holdInChange
    rw [if_pos hl]
    exact keep_part (only_mono (only_refl s) (by simp) (keysOf_nil _)) rfl fun q hq => by cases q <;> simp_all [Part.same]
  · intro hl
    obtain ⟨hin, hsince, hdie⟩ := sawHold_holdInChange hl
    refine ⟨_, exec_holdInChange hrun level, hin, hsince, hdie, ?_, ?_, ?_, only_settled (frame_holdInChange s level)⟩ <;>
      simp only [pairState_settle, bit_settle, settle_pair, settle_pins, frontIdle_pinsOf]
    · intro h
      have heq : s.holdInChange level = s.holdSeen level := by
        cases hen : s.die.straps.pairEn with
        | false => exact holdInChange_off hl hen
        | true =>
          rw [holdInChange_on hl hen]
          rcases h with h | ⟨rfl, h⟩ | ⟨rfl, h⟩
          · rw [hen] at h; cases h
          · simp [h]
          · rcases h with h | h | h <;> simp [h]
      rw [heq]
      exact ⟨pairState_holdSeen s level, only_settled (only_holdSeen s level)⟩
    · intro hen hlow harmed hst hfault
      have heq : s.holdInChange level = (s.holdSeen level).claimRole := by
        rw [holdInChange_on hl hen]
        subst hlow
        simp [hst, hfault, Option.isSome_iff_ne_none, harmed]
      rw [heq]
      exact ⟨pairState_claimRole _, holdOut_claimRole _⟩
    · intro hen hhigh hdrives
      have heq : s.holdInChange level = s.overlapRole := by
        rw [holdInChange_on hl hen]
        subst hhigh
        simp [hdrives]
      have hplat : (s.holdInChange level).plat = s.plat := (frame_holdInChange s level).1 .plat (by simp)
      have hcells : (s.holdInChange level).cellsDrive = s.cellsDrive := by
        simp only [State.cellsDrive, State.running, hdie, hplat, State.heldAt]
      have hpair : (s.holdInChange level).die.straps.pairEn = true := by rw [hdie]; exact hen
      rw [heq] at hcells hpair ⊢
      exact ⟨gate_overlapRole s, fun hc => frontIdle_gated hpair (gate_overlapRole s) (hcells.trans hc),
        fun hst => holdFault_overlapRole hst, fun hsen => overlapRole_senior hsen,
        fun hsen => ⟨fun hst hprev => overlapRole_claiming hsen hst hprev, fun hst => overlapRole_active hsen hst,
          fun hst => overlapRole_yielding hsen hst⟩⟩

/-- HOLD levels that have settled enable the transmitters (R514). -/
theorem transmitEnable_settled {s : State} (hrun : s.running = true) {k : Nat} (hout : s.pair.outSince = some k) (hk : k + 300 ≤ s.cycle)
    (hin : s.holdIn = false) (hsince : s.pair.inSince + 300 ≤ s.cycle) (hst : s.pairState = paClaiming ∨ s.pairState = paActive) :
    ∃ t, exec .transmitEnable s = .next t ∧ t.pairState = paActive ∧
      t.pair.gate = true ∧ (s.pairState = paClaiming → t.pair.activeAt = s.cycle ∧ t.pair.queue = [] ∧ t.pair.nextSeq = 1) ∧
      s.only t [.pair] (regsOf ["PAIR_STATUS", "PAIR_MIRROR_LEVEL"]) := by
  have heq := transmitEnable_eq hout hk hin hsince hst
  refine ⟨_, whenUp_running hrun _, ?_, ?_, ?_, only_settled (frame_transmitEnable s)⟩ <;>
    simp only [pairState_settle, settle_pair, heq, modPair_pair, set_pair]
  · have hget : s.opensRole.pairState = paActive := by
      unfold State.opensRole
      split
      · exact pairState_setRole _ (by decide)
      next h => exact hst.resolve_left h
    exact (get_set_ne _ _ (by decide)).trans hget
  · intro hclaim
    obtain ⟨m, r, w, h⟩ := pair_setRole (s.modPair fun p => p.opened s.cycle (s.pair.prev == paStandby && s.bit Reg.PAIR_CTRL_TALLY_FOLLOW))
      paActive
    rw [State.opensRole, if_pos hclaim, h]
    exact ⟨rfl, rfl, rfl⟩

theorem yieldRelease_ready {s : State} (hst : s.pairState = paYielding) (h : ∀ e ∈ s.ports, e.2.tx = none) : s.yieldRelease = s.yieldDone := by
  unfold State.yieldRelease
  have hall : s.ports.all (fun e => e.2.tx.isNone) = true := List.all_eq_true.mpr fun e he => by rw [h e he]; rfl
  rw [if_pos (by simp [hst, hall])]

theorem yieldRelease_waits {s : State} (h : ∃ e ∈ s.ports, e.2.tx ≠ none) : s.yieldRelease = s := by
  unfold State.yieldRelease
  obtain ⟨e, he, htx⟩ := h
  have hall : s.ports.all (fun e => e.2.tx.isNone) = false :=
    List.all_eq_false.mpr ⟨e, he, by simpa [Option.isNone_iff_eq_none] using htx⟩
  rw [if_neg (by simp [hall])]

/-- A yielding device whose frames have ended releases HOLD_OUT (R528, R530). -/
theorem yieldRelease_role {s : State} (hrun : s.running = true) (hst : s.pairState = paYielding) :
    ((∀ e ∈ s.ports, e.2.tx = none) → ∃ t, exec .yieldRelease s = .next t ∧ t.pair.gate = false ∧
      t.bit Reg.PAIR_STATUS_HOLD_OUT = false ∧ t.pairState = (if s.pair.hostYield then paStandby else paStale) ∧
      (s.bit Reg.PAIR_CTRL_TALLY_FOLLOW = true → s.bit Reg.TALLY_CTRL_ENABLE = true → t.bit Reg.TALLY_CTRL_ENABLE = false ∧
        t.pair.yielded = true) ∧
      s.only t [.events, .reck, .tally, .host, .pair] (regsOf ["TALLY_CTRL", "TALLY_STATUS", "TALLY_RING_LEVEL", "RING_CFG",
        "RING_DEV_INDEX", "PAIR_STATUS"])) ∧
    ((∃ e ∈ s.ports, e.2.tx ≠ none) → ∃ t, exec .yieldRelease s = .next t ∧ s.only t [] (keysOf [])) := by
  have hexec : exec .yieldRelease s = .next s.yieldRelease.settle := whenUp_running hrun _
  constructor
  · intro h
    obtain ⟨hgate, -, hyielded⟩ := pair_yieldDone s
    rw [yieldRelease_ready hst h] at hexec
    refine ⟨_, hexec, hgate, holdOut_yieldDone s, pairState_yieldDone s, fun hf he => ?_, only_settled (frame_yieldDone s)⟩
    have hboth : (s.bit Reg.PAIR_CTRL_TALLY_FOLLOW && s.bit Reg.TALLY_CTRL_ENABLE) = true := by rw [hf, he]; rfl
    exact ⟨tallyEnable_yieldDone hboth, hyielded.trans hboth⟩
  · intro h
    rw [yieldRelease_waits h] at hexec
    exact ⟨_, hexec, only_settled (only_refl s)⟩

/-- What both a lasting mismatch and two like identities are (R516). -/
def State.holdBad (s : State) : Bool := s.die.straps.pairEn &&
  ((s.get Reg.PAIR_PEER_STATE != 15 && s.bit Reg.PAIR_PEER_SENIOR == s.die.straps.senior) ||
    match s.pair.mismatchFrom with | some k => decide (k + 10 * usCycles ≤ s.cycle) | none => false)

theorem holdFaultDetect_eq (s : State) : s.holdFaultDetect = if s.holdBad then s.on Reg.PAIR_STATUS_HOLD_FAULT else s := rfl

theorem holdFaultDetect_role {s : State} (hrun : s.running = true) :
    (s.holdBad = true → ∃ t, exec .holdFaultDetect s = .next t ∧ t.bit Reg.PAIR_STATUS_HOLD_FAULT = true ∧
      s.only t [] (keysOf [Reg.PAIR_STATUS_HOLD_FAULT])) ∧
    (s.holdBad = false → ∃ t, exec .holdFaultDetect s = .next t ∧ s.only t [] (keysOf [])) := by
  have hexec : exec .holdFaultDetect s = .next s.holdFaultDetect.settle := whenUp_running hrun _
  constructor
  · intro h
    rw [holdFaultDetect_eq, if_pos h] at hexec
    exact ⟨_, hexec, (bit_settle ..).trans (bit_of_get_one (get_on_self s _ le_rfl)), only_settled (only_set s Reg.PAIR_STATUS_HOLD_FAULT 1)⟩
  · intro h
    rw [holdFaultDetect_eq, h] at hexec
    exact ⟨_, hexec, only_settled (only_refl s)⟩

/-! ### Takeovers -/

/-- The verdict of a takeover, as it is recorded before the device acts on it (R525). -/
def State.takeoverNoted (s : State) (cause outcome port : Nat) : State :=
  ((s.putVerdict cause outcome port).on Reg.PAIR_STATUS_ROLE_CHG).satAdd Reg.PAIR_TAKEOVER_CNT_COUNT 1

theorem get_takeoverNoted (s : State) (cause outcome port : Nat) {f : Fld}
    (h : ∀ g ∈ [Reg.PAIR_VERDICT_CAUSE, Reg.PAIR_VERDICT_OUTCOME, Reg.PAIR_VERDICT_PORT, Reg.PAIR_STATUS_ROLE_CHG,
      Reg.PAIR_TAKEOVER_CNT_COUNT], Fld.key g ≠ Fld.key f) : (s.takeoverNoted cause outcome port).get f = s.get f := by
  simp only [List.forall_mem_cons] at h
  obtain ⟨h1, h2, h3, h4, h5, -⟩ := h
  exact (get_satAdd_ne _ _ h5).trans ((get_on_ne _ h4).trans ((get_set_ne _ _ h3).trans ((get_set_ne _ _ h2).trans (get_set_ne _ _ h1))))

/-- What the record of a takeover shows. -/
theorem takeoverNoted_shows (s : State) {cause outcome port : Nat} (hc : cause < 16) (ho : outcome < 16) (hp : port < 1024) :
    (s.takeoverNoted cause outcome port).get Reg.PAIR_VERDICT_CAUSE = cause ∧
    (s.takeoverNoted cause outcome port).get Reg.PAIR_VERDICT_OUTCOME = outcome ∧
    (s.takeoverNoted cause outcome port).get Reg.PAIR_VERDICT_PORT = port ∧
    s.counted (s.takeoverNoted cause outcome port) Reg.PAIR_TAKEOVER_CNT_COUNT ∧
    (s.takeoverNoted cause outcome port).bit Reg.PAIR_STATUS_ROLE_CHG = true := by
  unfold State.takeoverNoted State.putVerdict
  refine ⟨?_, ?_, ?_, ?_, bit_of_get_one ((get_satAdd_ne _ _ (by decide)).trans (get_on_self _ _ le_rfl))⟩
  · rw [get_satAdd_ne _ _ (by decide), get_on_ne _ (by decide), get_set_ne _ _ (by decide), get_set_ne _ _ (by decide), get_set_self]
    exact Nat.mod_eq_of_lt hc
  · rw [get_satAdd_ne _ _ (by decide), get_on_ne _ (by decide), get_set_ne _ _ (by decide), get_set_self]
    exact Nat.mod_eq_of_lt ho
  · rw [get_satAdd_ne _ _ (by decide), get_on_ne _ (by decide), get_set_self]
    exact Nat.mod_eq_of_lt hp
  · rw [State.counted, get_satAdd_self, get_on_ne _ (by decide), get_set_ne _ _ (by decide), get_set_ne _ _ (by decide),
      get_set_ne _ _ (by decide)]

theorem takeover_eq (s : State) (cause outcome port : Nat) : s.takeover cause outcome port =
    if s.bit Reg.PAIR_STATUS_HOLD_FAULT then s.takeoverNoted cause outcome port
    else if !s.holdIn then (s.takeoverNoted cause outcome port).claimRole
    else ((s.takeoverNoted cause outcome port).modPair fun p => { p with armed := some s.cycle }).on Reg.PAIR_STATUS_BLOCKED := by
  have hfault : (s.takeoverNoted cause outcome port).bit Reg.PAIR_STATUS_HOLD_FAULT = s.bit Reg.PAIR_STATUS_HOLD_FAULT :=
    congrArg (· != 0) (get_takeoverNoted s cause outcome port (by decide))
  have hin : (s.takeoverNoted cause outcome port).holdIn = s.holdIn :=
    congrArg (· != 0) (get_takeoverNoted s cause outcome port (by decide))
  rw [← hfault, ← hin]
  rfl

/-- What a takeover records stays, whatever the device does on it. -/
theorem takeover_records (s : State) {cause outcome port : Nat} (hc : cause < 16) (ho : outcome < 16) (hp : port < 1024) :
    (s.takeover cause outcome port).get Reg.PAIR_VERDICT_CAUSE = cause ∧
    (s.takeover cause outcome port).get Reg.PAIR_VERDICT_OUTCOME = outcome ∧
    (s.takeover cause outcome port).get Reg.PAIR_VERDICT_PORT = port ∧
    s.counted (s.takeover cause outcome port) Reg.PAIR_TAKEOVER_CNT_COUNT := by
  obtain ⟨h1, h2, h3, h4, -⟩ := takeoverNoted_shows s hc ho hp
  have keep {f : Fld} (hb : Fld.key Reg.PAIR_STATUS_BLOCKED ≠ Fld.key f) (hs : Fld.key Reg.PAIR_STATUS_STATE ≠ Fld.key f)
      (hout : Fld.key Reg.PAIR_STATUS_HOLD_OUT ≠ Fld.key f) (hchg : Fld.key Reg.PAIR_STATUS_ROLE_CHG ≠ Fld.key f) :
      (s.takeover cause outcome port).get f = (s.takeoverNoted cause outcome port).get f := by
    rw [takeover_eq]
    split
    · rfl
    · split
      · exact get_setRole _ _ hs hout hchg
      · exact get_on_ne _ hb
  unfold State.counted at h4 ⊢
  rw [keep (by decide) (by decide) (by decide) (by decide), keep (by decide) (by decide) (by decide) (by decide),
    keep (by decide) (by decide) (by decide) (by decide), keep (by decide) (by decide) (by decide) (by decide)]
  exact ⟨h1, h2, h3, h4⟩

theorem pairState_takeoverNoted (s : State) (cause outcome port : Nat) : (s.takeoverNoted cause outcome port).pairState = s.pairState :=
  get_takeoverNoted s cause outcome port (by decide)

/-- A takeover notes the change of the role, also where a claim follows at once (R526). -/
theorem roleChg_takeover {s : State} (hst : s.pairState = paStandby) {cause outcome port : Nat} (hc : cause < 16) (ho : outcome < 16)
    (hp : port < 1024) : (s.takeover cause outcome port).bit Reg.PAIR_STATUS_ROLE_CHG = true := by
  obtain ⟨-, -, -, -, h⟩ := takeoverNoted_shows s hc ho hp
  rw [takeover_eq]
  split
  · exact h
  · split
    · exact roleChg_claimRole (by rw [pairState_takeoverNoted, hst]; decide)
    · refine Eq.trans ?_ h
      exact congrArg (· != 0) (get_on_ne _ (by decide))

theorem takeover_fault {s : State} (h : s.bit Reg.PAIR_STATUS_HOLD_FAULT = true) (cause outcome port : Nat) :
    (s.takeover cause outcome port).pairState = s.pairState := by
  rw [takeover_eq, if_pos h, pairState_takeoverNoted]

theorem takeover_claims {s : State} (h : s.bit Reg.PAIR_STATUS_HOLD_FAULT = false) (hin : s.holdIn = false) (cause outcome port : Nat) :
    (s.takeover cause outcome port).pairState = paClaiming := by
  rw [takeover_eq, if_neg (by simp [h]), if_pos (by simp [hin])]
  exact pairState_claimRole _

/-- While the peer drives HOLD_OUT the takeover waits armed (R526). -/
theorem takeover_waits {s : State} (h : s.bit Reg.PAIR_STATUS_HOLD_FAULT = false) (hin : s.holdIn = true) (cause outcome port : Nat) :
    (s.takeover cause outcome port).pairState = s.pairState ∧ (s.takeover cause outcome port).pair.armed = some s.cycle ∧
      (s.takeover cause outcome port).bit Reg.PAIR_STATUS_BLOCKED = true := by
  rw [takeover_eq, if_neg (by simp [h]), if_neg (by simp [hin])]
  exact ⟨(get_on_ne _ (by decide)).trans (pairState_takeoverNoted s cause outcome port), rfl, bit_of_get_one (get_on_self _ _ le_rfl)⟩

/-- HOLD_IN low under a peer that last reported ACTIVE (R516, R526). -/
theorem peerRelease_role {s : State} (hrun : s.running = true) (hst : s.pairState = paStandby) (hin : s.holdIn = false)
    (hsince : s.pair.inSince + usCycles ≤ s.cycle) (hpeer : s.get Reg.PAIR_PEER_STATE = paActive) (hhand : s.pair.handoff = false)
    (honce : s.bit Reg.PAIR_STATUS_HOLD_FAULT = true → s.get Reg.PAIR_VERDICT_CAUSE ≠ 3) :
    ∃ t, exec .peerReleaseTakeover s = .next t ∧ t.get Reg.PAIR_VERDICT_CAUSE = 3 ∧ t.get Reg.PAIR_VERDICT_OUTCOME = 1 ∧
      s.counted t Reg.PAIR_TAKEOVER_CNT_COUNT ∧ t.bit Reg.PAIR_STATUS_ROLE_CHG = true ∧
      t.pairState = (if s.bit Reg.PAIR_STATUS_HOLD_FAULT then paStandby else paClaiming) ∧
      s.only t [.pair] (regsOf ["PAIR_STATUS", "PAIR_VERDICT", "PAIR_TAKEOVER_CNT"]) := by
  have hcond : (s.bit Reg.PAIR_STATUS_HOLD_FAULT && s.get Reg.PAIR_VERDICT_CAUSE == 3) = false := by
    cases h : s.bit Reg.PAIR_STATUS_HOLD_FAULT with
    | false => rfl
    | true => simpa using honce h
  have heq : s.peerRelease = s.takeover 3 1 0 := by
    unfold State.peerRelease
    rw [hcond]
    simp [hst, hin, hsince, hpeer, hhand]
  have hexec : exec .peerReleaseTakeover s = .next s.peerRelease.settle := whenUp_running hrun _
  obtain ⟨hcause, hout, -, hcount⟩ := takeover_records s (cause := 3) (outcome := 1) (port := 0) (by decide) (by decide) (by decide)
  have hchg := roleChg_takeover hst (cause := 3) (outcome := 1) (port := 0) (by decide) (by decide) (by decide)
  have hframe := frame_takeover s 3 1 0
  suffices hstate : (s.takeover 3 1 0).pairState = if s.bit Reg.PAIR_STATUS_HOLD_FAULT then paStandby else paClaiming from ?_
  · rw [heq] at hexec
    generalize s.takeover 3 1 0 = u at *
    exact ⟨_, hexec, hcause, hout, hcount, hchg, hstate, only_settled hframe⟩
  cases h : s.bit Reg.PAIR_STATUS_HOLD_FAULT with
  | false => exact takeover_claims h hin 3 1 0
  | true => exact (takeover_fault h 3 1 0).trans hst

theorem peerRelease_waits {s : State} (h : s.pairState ≠ paStandby ∨ s.holdIn = true ∨ s.cycle < s.pair.inSince + usCycles ∨
    s.get Reg.PAIR_PEER_STATE ≠ paActive ∨ s.pair.handoff = true) : s.peerRelease = s := by
  unfold State.peerRelease
  refine if_neg fun hall => ?_
  simp only [Bool.and_eq_true, Bool.not_eq_true', decide_eq_true_eq] at hall
  obtain ⟨⟨⟨⟨⟨h1, h2⟩, h3⟩, h4⟩, h5⟩, -⟩ := hall
  rcases h with h | h | h | h | h
  · exact h h1
  · rw [h2] at h; cases h
  · omega
  · exact h h4
  · rw [h5] at h; cases h

/-- An armed takeover lapses after ARM_MS, which 0 turns off (R526). -/
theorem takeoverLapse_role {s : State} (hrun : s.running = true) {k ms : Nat} (harmed : s.pair.armed = some k)
    (hms : ms = s.get Reg.PAIR_CTRL_ARM_MS) :
    (ms ≠ 0 → k + ms * msCycles ≤ s.cycle → ∃ t, exec .takeoverLapse s = .next t ∧ t.pairState = paStale ∧ t.pair.armed = none ∧
      t.bit Reg.PAIR_STATUS_HOLD_OUT = false ∧
      s.only t [.events, .reck, .host, .pair] (regsOf ["RING_CFG", "RING_DEV_INDEX", "PAIR_STATUS"])) ∧
    (ms = 0 ∨ s.cycle < k + ms * msCycles → ∃ t, exec .takeoverLapse s = .next t ∧ s.only t [] (keysOf [])) := by
  have hexec : exec .takeoverLapse s = .next s.takeoverLapse.settle := whenUp_running hrun _
  have heq : s.takeoverLapse = if ms != 0 && s.cycle ≥ k + ms * msCycles then s.becomeStale else s := by
    rw [hms]
    unfold State.takeoverLapse
    rw [harmed]
  constructor
  · intro h0 hk
    rw [heq, if_pos (by simp [h0, hk])] at hexec
    exact ⟨_, hexec, pairState_becomeStale s, pair_becomeStale_armed s, holdOut_becomeStale s, only_settled (frame_becomeStale s)⟩
  · intro h
    rw [heq, if_neg (by rcases h with h | h <;> simp [h])] at hexec
    exact ⟨_, hexec, only_settled (only_refl s)⟩

/-- Settles O55: the commands of the host, HOLD_IN, the settling of the levels, yielding, faults, takeovers and lapses each by the lemma of
their own, over what a change of the role does to the pair's record and to PAIR_STATUS. -/
theorem rolesFollowTheInterlock : Obligations.RolesFollowTheInterlock := by
  unfold Obligations.RolesFollowTheInterlock
  intro s hrun
  refine ⟨fun hs hf => ⟨?_, ?_⟩, fun level => holdInChange_roles hrun level, ?_, ?_, fun hst => yieldRelease_role hrun hst, ?_, ?_, ?_, ?_⟩
  · rintro ok hok
    refine ⟨fun h => ?_, fun h => claim_taken hs hf (hok.symm.trans h)⟩
    exact pairCmd_turnsAway hs hf (.inl rfl) rfl (by rw [pairCheck_claim, ← hok, h]; rfl) (by decide)
  · rintro ok hok
    refine ⟨fun h => ?_, fun h => yield_taken hs hf (hok.symm.trans h)⟩
    exact pairCmd_turnsAway hs hf (.inr rfl) rfl (by rw [pairCheck_yield, ← hok, h]; rfl) (by decide)
  · intro k hout hk hin hsince
    refine ⟨fun hst => transmitEnable_settled hrun hout hk hin hsince hst, fun h1 h2 => ⟨_, whenUp_running hrun _, ?_⟩⟩
    rw [transmitEnable_role h1 h2]
    exact only_settled (only_refl s)
  · intro h
    refine ⟨_, whenUp_running hrun _, ?_⟩
    rw [transmitEnable_waits h]
    exact only_settled (only_refl s)
  · rintro bad rfl
    exact holdFaultDetect_role hrun
  · exact fun hst hin hsince hpeer hhand honce => peerRelease_role hrun hst hin hsince hpeer hhand honce
  · intro h
    refine ⟨_, whenUp_running hrun _, ?_⟩
    rw [peerRelease_waits h]
    exact only_settled (only_refl s)
  · exact fun k ms harmed hms => takeoverLapse_role hrun harmed hms

end Sys2Proof.Machine
end

section
/-! Heartbeats of a pair (R516, R518, R523, R526, R527, Table 20-6). -/

-- One proof at a time: side by side they take more threads than the memory bound of the check leaves room for.
set_option Elab.async false

namespace Sys2Proof.Machine

/-! ### The size of a field of bytes -/

theorem foldl_be_lt (l : List Byte) (a : Nat) : l.foldl (fun a b => 256 * a + b.toNat) a < (a + 1) * 256 ^ l.length := by
  induction l generalizing a with
  | nil => simp
  | cons b l ih =>
    have hb : b.toNat < 256 := b.isLt
    calc l.foldl (fun a b => 256 * a + b.toNat) (256 * a + b.toNat)
        < (256 * a + b.toNat + 1) * 256 ^ l.length := ih _
      _ ≤ ((a + 1) * 256) * 256 ^ l.length := Nat.mul_le_mul_right _ (by omega)
      _ = (a + 1) * 256 ^ (l.length + 1) := by rw [Nat.pow_succ]; ring

theorem beAt_lt (l : List Byte) (off n : Nat) : beAt l off n < 256 ^ n := by
  have h := foldl_be_lt (slice l off n) 0
  rw [Nat.zero_add, Nat.one_mul] at h
  exact h.trans_le (Nat.pow_le_pow_right (by decide) (by simp [slice]))

/-! ### What a heartbeat shows of the peer -/

/-- The part of the pair's record that the peer's heartbeats set. -/
def PairSt.peer (p : PairSt) : Nat × Bool × Bool × Bool × Nat := (p.hbAt, p.hbLost, p.peerOut, p.peerIn, p.peerLock)

/-- A state shows what a heartbeat's payload tells of the peer (Table 20-14). -/
def State.showsPeer (s t : State) (b : List Byte) : Prop :=
  (t.get Reg.PAIR_PEER_STATE = beAt b 0 1 % 16 ∧ t.bit Reg.PAIR_PEER_SENIOR = bitOf (beAt b 0 1) 4 ∧
    t.bit Reg.PAIR_PEER_TAKE_UNEXPLAINED = bitOf (beAt b 0 1) 7 ∧ t.get Reg.PAIR_PEER_ID_HI_ID = beAt b 8 4 ∧
    t.get Reg.PAIR_PEER_ID_LO_ID = beAt b 12 4) ∧
  t.pair.peer = (s.cycle, false, bitOf (beAt b 0 1) 5, bitOf (beAt b 0 1) 6, beAt b 1 1 % 4)

/-- What moves neither the peer's registers nor its record keeps what is shown of it. -/
theorem showsPeer_of {s t u : State} {b : List Byte} {P : List Part} {L : List String} (h : s.showsPeer t b)
    (honly : t.only u P (regsOf L)) (hp : u.pair.peer = t.pair.peer) (h1 : "PAIR_PEER" ∉ L) (h2 : "PAIR_PEER_ID_LO" ∉ L)
    (h3 : "PAIR_PEER_ID_HI" ∉ L) : s.showsPeer u b := by
  have hpeer {f : Fld} (hf : (Access.ro, f) ∈ [(.ro, Reg.PAIR_PEER_STATE), (.ro, Reg.PAIR_PEER_SENIOR), (.ro, Reg.PAIR_PEER_TAKE_UNEXPLAINED)]) :
      u.get f = t.get f := kept_of_only honly 23 0 0 (List.mem_of_getElem? (i := 3) rfl) hf h1
  have hlo : u.get Reg.PAIR_PEER_ID_LO_ID = t.get Reg.PAIR_PEER_ID_LO_ID :=
    kept_of_only honly 23 0 0 (List.mem_of_getElem? (i := 4) rfl) (a := .ro) (by simp) h2
  have hhi : u.get Reg.PAIR_PEER_ID_HI_ID = t.get Reg.PAIR_PEER_ID_HI_ID :=
    kept_of_only honly 23 0 0 (List.mem_of_getElem? (i := 5) rfl) (a := .ro) (by simp) h3
  unfold State.showsPeer State.bit at *
  rw [hpeer (f := Reg.PAIR_PEER_STATE) (by simp), hpeer (f := Reg.PAIR_PEER_SENIOR) (by simp),
    hpeer (f := Reg.PAIR_PEER_TAKE_UNEXPLAINED) (by simp), hlo, hhi, hp]
  exact h

/-- The peer's ACK moves the queue of records alone (R520). -/
theorem pair_takeAck (s : State) (ack : Nat) : ∃ q a, (s.takeAck ack).pair = { s.pair with queue := q, ackAt := a } := by
  unfold State.takeAck
  extract_lets q
  split
  · exact ⟨s.pair.queue, s.pair.ackAt, rfl⟩
  · exact ⟨q, s.cycle, rfl⟩

/-- The pair's record after a heartbeat of the peer. -/
def PairSt.hears (p : PairSt) (cycle : Nat) (b : List Byte) : PairSt := { p with
  hbAt := cycle, hbLost := false, peerOut := bitOf (beAt b 0 1) 5, peerIn := bitOf (beAt b 0 1) 6, peerLock := beAt b 1 1 % 4 }

theorem pair_notePeer (s : State) (b : List Byte) : (s.notePeer b).pair = s.pair.hears s.cycle b := rfl

/-- The state that a heartbeat leaves, before what the device does on it. -/
def State.peerNoted (s : State) (m : MirrorIn) : State := ((s.takeAck m.ack).notePeer m.payload).syncMismatch.syncCompare

theorem pair_peerNoted (s : State) (m : MirrorIn) : ∃ q a x r w,
    (s.peerNoted m).pair = (PairSt.hears { s.pair with queue := q, ackAt := a } s.cycle m.payload).synced x r w := by
  obtain ⟨q, a, hq⟩ := pair_takeAck s m.ack
  obtain ⟨x, r, w, h⟩ := pair_roleSync ((s.takeAck m.ack).notePeer m.payload)
  have hcycle : (s.takeAck m.ack).cycle = s.cycle := (frame_takeAck s m.ack).1 .cycle (by simp)
  exact ⟨q, a, x, r, w, by rw [State.peerNoted, h, pair_notePeer, hq, hcycle]⟩

theorem only_peerNoted (s : State) (m : MirrorIn) :
    s.only (s.peerNoted m) [.pair] (regsOf ["PAIR_PEER", "PAIR_PEER_ID_LO", "PAIR_PEER_ID_HI", "PAIR_MIRROR_LEVEL"]) :=
  keep_of (frame_syncCompare _) (keep_of (frame_syncMismatch _) (keep_of (frame_notePeer _ _)
    (only_widen (frame_takeAck s m.ack) (by simp) (by simp)) (by simp) (by simp)) (by simp) (by simp)) (by simp) (by simp)

theorem peerRegs_notePeer (s : State) (b : List Byte) :
    (s.notePeer b).get Reg.PAIR_PEER_STATE = beAt b 0 1 % 16 ∧ (s.notePeer b).bit Reg.PAIR_PEER_SENIOR = bitOf (beAt b 0 1) 4 ∧
    (s.notePeer b).bit Reg.PAIR_PEER_TAKE_UNEXPLAINED = bitOf (beAt b 0 1) 7 ∧ (s.notePeer b).get Reg.PAIR_PEER_ID_HI_ID = beAt b 8 4 ∧
    (s.notePeer b).get Reg.PAIR_PEER_ID_LO_ID = beAt b 12 4 := by
  unfold State.notePeer State.bit
  extract_lets f s1 s2
  have hpair (g : Fld) : (s2.modPair fun p => { p with
      hbAt := s2.cycle, hbLost := false, peerOut := bitOf f 5, peerIn := bitOf f 6, peerLock := beAt b 1 1 % 4 }).get g = s2.get g :=
    get_of_regs rfl g
  simp only [hpair]
  refine ⟨?_, ?_, ?_, ?_, ?_⟩
  · rw [get_set_ne _ _ (by decide), get_set_ne _ _ (by decide), get_setB_ne _ _ (by decide), get_setB_ne _ _ (by decide), get_set_self]
    exact Nat.mod_mod _ _
  · rw [get_set_ne _ _ (by decide), get_set_ne _ _ (by decide), get_setB_ne _ _ (by decide), get_setB_self _ _ _ le_rfl, b2n_bne_zero]
  · rw [get_set_ne _ _ (by decide), get_set_ne _ _ (by decide), get_setB_self _ _ _ le_rfl, b2n_bne_zero]
  · rw [get_set_self]
    exact Nat.mod_eq_of_lt (beAt_lt b 8 4)
  · rw [get_set_ne _ _ (by decide), get_set_self]
    exact Nat.mod_eq_of_lt (beAt_lt b 12 4)

theorem showsPeer_peerNoted (s : State) (m : MirrorIn) : s.showsPeer (s.peerNoted m) m.payload := by
  obtain ⟨q, a, x, r, w, hp⟩ := pair_peerNoted s m
  have hregs := peerRegs_notePeer (s.takeAck m.ack) m.payload
  unfold State.showsPeer
  rw [hp]
  refine ⟨?_, rfl⟩
  unfold State.peerNoted State.bit at *
  simp only [get_roleSync]
  exact hregs

/-! ### What the device does on a heartbeat -/

theorem showsPeer_becomeStale {s t : State} {b : List Byte} (h : s.showsPeer t b) : s.showsPeer t.becomeStale b := by
  obtain ⟨x, r, w, hp⟩ := pair_becomeStale t
  exact showsPeer_of h (frame_becomeStale t) (by rw [hp]; rfl) (by simp) (by simp) (by simp)

theorem showsPeer_startResync {s t : State} {b : List Byte} (h : s.showsPeer t b) : s.showsPeer t.startResync b :=
  showsPeer_of h (frame_startResync t) rfl (by simp) (by simp) (by simp)

theorem showsPeer_endBulk {s t : State} {b : List Byte} (h : s.showsPeer t b) : s.showsPeer t.endBulk b :=
  showsPeer_of h (frame_endBulk t) rfl (by simp) (by simp) (by simp)

theorem showsPeer_breakStream {s t : State} {b : List Byte} (h : s.showsPeer t b) : s.showsPeer t.breakStream b :=
  showsPeer_of h (frame_breakStream t) rfl (by simp) (by simp) (by simp)

/-- A device hears that its own takeover is moot, or that the stream to it is broken. -/
def State.hearsStale (s : State) (m : MirrorIn) : Bool := (s.pair.hbLost && s.pair.armed.isSome) ||
  (bitOf (beAt m.payload 1 1) 2 && beAt m.payload 0 1 % 16 == paActive && (s.pairState == paStandby || s.pairState == paSyncing))

/-- What a valid heartbeat does, by what it shows of the peer. -/
def State.heard (s : State) (m : MirrorIn) : State :=
  let peer := beAt m.payload 0 1 % 16
  let was := s.get Reg.PAIR_PEER_STATE
  if s.hearsStale m then (s.peerNoted m).becomeStale
  else if s.pairState = paActive && peer = paSyncing && was != paSyncing then (s.peerNoted m).startResync
  else if s.pairState = paActive && peer = paStale && (was == paStandby || was == paSyncing) then (s.peerNoted m).breakStream.endBulk
  else if (s.peerNoted m).pair.walk.isSome && peer != paSyncing then (s.peerNoted m).endBulk
  else s.peerNoted m

theorem pairState_peerNoted (s : State) (m : MirrorIn) : (s.peerNoted m).pairState = s.pairState :=
  get_pairStatus_of_only (only_peerNoted s m) (a := .ro) (by simp [pairStatusFields]) (by simp)

theorem heartbeatReceive_eq {s : State} {b : List Byte} {ok : Bool} {m : MirrorIn} (hm : s.mirrorIn b ok = some m)
    (hlinked : s.mirrorLinked = true) (htype : m.type = 1) (hlen : m.payload.length = 48) : s.heartbeatReceive b ok = s.heard m := by
  have hpeer : (s.peerNoted m).get Reg.PAIR_PEER_STATE = beAt m.payload 0 1 % 16 := (showsPeer_peerNoted s m).1.1
  unfold State.heartbeatReceive
  rw [hm]
  dsimp only
  rw [if_neg (by simp [hlinked, htype, hlen])]
  change (if _ then (s.peerNoted m).becomeStale else _) = _
  unfold State.heard State.hearsStale
  rw [← pairState_peerNoted s m, ← hpeer]
  rfl

theorem heartbeatReceive_other {s : State} {b : List Byte} {ok : Bool} (hm : s.mirrorIn b ok = none) : s.heartbeatReceive b ok =
    if s.mirrorLinked && s.sameSenior b ok then s.on Reg.PAIR_STATUS_HOLD_FAULT else s := by
  unfold State.heartbeatReceive
  rw [hm]

theorem showsPeer_heard (s : State) (m : MirrorIn) : s.showsPeer (s.heard m) m.payload := by
  have h := showsPeer_peerNoted s m
  unfold State.heard
  extract_lets peer was
  split
  · exact showsPeer_becomeStale h
  · split
    · exact showsPeer_startResync h
    · split
      · exact showsPeer_endBulk (showsPeer_breakStream h)
      · split
        · exact showsPeer_endBulk h
        · exact h

/-- A heartbeat that does not make the device STALE leaves its role. -/
theorem pairState_heard {s : State} {m : MirrorIn} (h : s.hearsStale m = false) : (s.heard m).pairState = s.pairState := by
  have hnoted := pairState_peerNoted s m
  unfold State.heard
  extract_lets peer was
  rw [if_neg (by simp [h])]
  split
  · exact (get_pairStatus_of_only (frame_startResync _) (a := .ro) (by simp [pairStatusFields]) (by simp)).trans hnoted
  · split
    · exact (get_pairStatus_of_only (frame_endBulk _) (a := .ro) (by simp [pairStatusFields]) (by simp)).trans
        ((get_pairStatus_of_only (frame_breakStream _) (a := .ro) (by simp [pairStatusFields]) (by simp)).trans hnoted)
    · split
      · exact (get_pairStatus_of_only (frame_endBulk _) (a := .ro) (by simp [pairStatusFields]) (by simp)).trans hnoted
      · exact hnoted

theorem heard_stale {s : State} {m : MirrorIn} (h : s.hearsStale m = true) : s.heard m = (s.peerNoted m).becomeStale := by
  unfold State.heard
  rw [if_pos h]

/-- The walk of a resync reads the tables alone. -/
theorem walkItems_of_only {s t : State} {K : Keys} (h : s.only t [.pair] K) : t.walkItems = s.walkItems := by
  have hfdb : t.fdb = s.fdb := h.1 .fdb (by simp)
  have hlpm : t.lpm = s.lpm := h.1 .lpm (by simp)
  have hflow : t.flow = s.flow := h.1 .flow (by simp)
  have hmcast : t.mcast = s.mcast := h.1 .mcast (by simp)
  have htm : t.tm = s.tm := h.1 .tm (by simp)
  have hrules : t.rules = s.rules := h.1 .rules (by simp)
  have htally : t.tally = s.tally := h.1 .tally (by simp)
  simp only [State.walkItems, hfdb, hlpm, hflow, hmcast, htm, hrules, htally]

theorem hasRoutine_request (s : State) (k : RoutineKind) (c : Option CmdIn) : (s.request k c).hasRoutine (· == k) = true := by
  simp [State.hasRoutine, State.routines, State.request]

/-- A resync begins with a fresh stream, and the walk over all items (R532). -/
theorem startResync_walk (s : State) : s.startResync.pair.walk = some s.walkItems ∧ s.startResync.pair.queue = [] ∧
    s.startResync.pair.nextSeq = 1 ∧ s.startResync.hasRoutine (· == .pairResync) = true := by
  have hitems := walkItems_of_only (K := keysOf [])
    (keep_modPair (fun p => { p with queue := [], nextSeq := 1, streamLost := false }) (only_mono (only_refl s) (by simp) (keysOf_nil _)) (by simp))
  refine ⟨?_, rfl, rfl, hasRoutine_request _ _ _⟩
  rw [← hitems]
  rfl

theorem breakStream_walk (s : State) : s.breakStream.endBulk.pair.streamLost = true ∧ s.breakStream.endBulk.pair.queue = [] ∧
    s.breakStream.endBulk.pair.walk = none := ⟨rfl, rfl, rfl⟩

/-- HEARTBEAT_RECEIVE of a valid heartbeat (R516, R518, R526, R532). -/
theorem heartbeatReceive_valid {s : State} (hrun : s.running = true) {b : List Byte} {ok : Bool} {m : MirrorIn}
    (hm : s.mirrorIn b ok = some m) (hlinked : s.mirrorLinked = true) (htype : m.type = 1) (hlen : m.payload.length = 48)
    {f peer : Nat} {lapse broken : Bool} (hf : f = beAt m.payload 0 1) (hp : peer = f % 16)
    (hl : lapse = (s.pair.hbLost && s.pair.armed.isSome))
    (hb : broken = (bitOf (beAt m.payload 1 1) 2 && peer == paActive && (s.pairState == paStandby || s.pairState == paSyncing))) :
    ∃ t, exec (.heartbeatReceive b ok) s = .next t ∧ t.get Reg.PAIR_PEER_STATE = peer ∧ t.bit Reg.PAIR_PEER_SENIOR = bitOf f 4 ∧
      t.bit Reg.PAIR_PEER_TAKE_UNEXPLAINED = bitOf f 7 ∧ t.get Reg.PAIR_PEER_ID_HI_ID = beAt m.payload 8 4 ∧
      t.get Reg.PAIR_PEER_ID_LO_ID = beAt m.payload 12 4 ∧ t.pair.hbAt = s.cycle ∧ t.pair.hbLost = false ∧
      t.pair.peerOut = bitOf f 5 ∧ t.pair.peerIn = bitOf f 6 ∧ t.pair.peerLock = beAt m.payload 1 1 % 4 ∧
      (lapse = true ∨ broken = true → t.pairState = paStale ∧ t.pair.armed = none) ∧
      (lapse = false → broken = false → t.pairState = s.pairState ∧
        (s.pairState = paActive → peer = paSyncing → s.get Reg.PAIR_PEER_STATE ≠ paSyncing → t.pair.walk = some s.walkItems ∧
          t.pair.queue = [] ∧ t.pair.nextSeq = 1 ∧ t.hasRoutine (· == .pairResync) = true) ∧
        (s.pairState = paActive → peer = paStale → s.get Reg.PAIR_PEER_STATE = paStandby ∨ s.get Reg.PAIR_PEER_STATE = paSyncing →
          t.pair.streamLost = true ∧ t.pair.queue = [] ∧ t.pair.walk = none)) ∧
      s.only t [.events, .reck, .host, .pair] (regsOf ["RING_CFG", "RING_DEV_INDEX", "PAIR_STATUS", "PAIR_PEER", "PAIR_PEER_ID_LO",
        "PAIR_PEER_ID_HI", "PAIR_MIRROR_LEVEL"]) := by
  have hframe := frame_heartbeatReceive s b ok
  rw [heartbeatReceive_eq hm hlinked htype hlen] at hframe
  have hexec : exec (.heartbeatReceive b ok) s = .next (s.heartbeatReceive b ok).settle := whenUp_running hrun fun s => s.heartbeatReceive b ok
  rw [heartbeatReceive_eq hm hlinked htype hlen] at hexec
  obtain ⟨⟨h1, h2, h3, h4, h5⟩, h6⟩ := showsPeer_heard s m
  have hstale : s.hearsStale m = (lapse || broken) := by rw [hl, hb, hp, hf]; rfl
  subst hf hp
  simp only [PairSt.peer, Prod.mk.injEq] at h6
  obtain ⟨h6, h7, h8, h9, h10⟩ := h6
  refine ⟨_, hexec, h1, h2, h3, h4, h5, h6, h7, h8, h9, h10, fun h => ?_, fun hl0 hb0 => ⟨?_, ?_, ?_⟩, only_settled hframe⟩
  · have heq := heard_stale (s := s) (m := m) (hstale.trans (by rcases h with h | h <;> simp [h]))
    rw [pairState_settle, settle_pair, heq]
    exact ⟨pairState_becomeStale _, pair_becomeStale_armed _⟩
  · exact pairState_heard (hstale.trans (by rw [hl0, hb0]; rfl))
  · intro hst hsync hwas
    have heq : s.heard m = (s.peerNoted m).startResync := by
      unfold State.heard
      extract_lets peer was
      rw [if_neg (by simp [hstale, hl0, hb0]), if_pos (by simp [hst, peer, hsync, was, hwas])]
    have hitems := walkItems_of_only (only_peerNoted s m)
    have hwalk := startResync_walk (s.peerNoted m)
    rw [hitems, ← heq] at hwalk
    exact hwalk
  · intro hst hpeer hwas
    have heq : s.heard m = (s.peerNoted m).breakStream.endBulk := by
      unfold State.heard
      extract_lets peer was
      rw [if_neg (by simp [hstale, hl0, hb0]), if_neg (by simp [peer, hpeer, paStale, paSyncing]),
        if_pos (by simp [hst, peer, hpeer, was, hwas])]
    have hwalk := breakStream_walk (s.peerNoted m)
    rw [← heq] at hwalk
    exact hwalk

/-! ### The loss of heartbeats, and HANDOFF -/

theorem heartbeatLoss_waits {s : State} (h : s.die.straps.pairEn = false ∨ s.funcUp .pair = false ∨ s.pair.hbLost = true ∨
    s.cycle < s.pair.hbAt + 20 * usCycles) : s.heartbeatLoss = s := by
  unfold State.heartbeatLoss
  refine if_pos ?_
  rcases h with h | h | h | h <;> simp [h]

/-- The state that notes the loss of the peer's heartbeats. -/
def State.lossNoted (s : State) : State := (s.modPair fun p => { p with hbLost := true }).on Reg.PAIR_STATUS_HB_LOST

theorem get_lossNoted (s : State) {f : Fld} (h : Fld.key Reg.PAIR_STATUS_HB_LOST ≠ Fld.key f) : s.lossNoted.get f = s.get f :=
  get_on_ne _ h

/-- What a device does on the loss, by its role (R523, R526, R527). -/
def State.lossRole (s : State) : State :=
  if s.pairState = paActive then s.lossNoted.breakStream.endBulk
  else if s.pairState = paSyncing then s.lossNoted.becomeStale
  else if s.pairState = paStandby then
    let u := if s.pair.armed.isSome then s.lossNoted else s.lossNoted.takeover 2 1 0
    if u.bit Reg.PAIR_STATUS_HOLD_FAULT then u.becomeStale else u
  else s.lossNoted

theorem heartbeatLoss_eq {s : State} (hen : s.die.straps.pairEn = true) (hf : s.funcUp .pair = true) (hlost : s.pair.hbLost = false)
    (hat : s.pair.hbAt + 20 * usCycles ≤ s.cycle) : s.heartbeatLoss = s.lossRole := by
  have hst : s.lossNoted.pairState = s.pairState := get_lossNoted s (by decide)
  unfold State.heartbeatLoss
  rw [if_neg (by simp [hen, hf, hlost, hat])]
  unfold State.lossRole
  rw [← hst]
  rfl

theorem holdFault_takeover (s : State) (cause outcome port : Nat) :
    (s.takeover cause outcome port).bit Reg.PAIR_STATUS_HOLD_FAULT = s.bit Reg.PAIR_STATUS_HOLD_FAULT := by
  have hnoted : (s.takeoverNoted cause outcome port).get Reg.PAIR_STATUS_HOLD_FAULT = s.get Reg.PAIR_STATUS_HOLD_FAULT :=
    get_takeoverNoted s cause outcome port (by decide)
  unfold State.bit
  rw [takeover_eq]
  split
  · rw [hnoted]
  · split
    · exact congrArg (· != 0) ((get_setRole _ _ (by decide) (by decide) (by decide)).trans hnoted)
    · exact congrArg (· != 0) ((get_on_ne _ (by decide)).trans hnoted)

theorem hbLost_takeover (s : State) (cause outcome port : Nat) : (s.takeover cause outcome port).pair.hbLost = s.pair.hbLost := by
  rw [takeover_eq]
  split
  · rfl
  · split
    · obtain ⟨m, r, w, h⟩ := pair_claimRole (s.takeoverNoted cause outcome port)
      rw [h]
      rfl
    · rfl

theorem get_takeover_status (s : State) (cause outcome port : Nat) {f : Fld} (hn : ∀ g ∈ [Reg.PAIR_VERDICT_CAUSE,
      Reg.PAIR_VERDICT_OUTCOME, Reg.PAIR_VERDICT_PORT, Reg.PAIR_STATUS_ROLE_CHG, Reg.PAIR_TAKEOVER_CNT_COUNT, Reg.PAIR_STATUS_STATE,
      Reg.PAIR_STATUS_HOLD_OUT, Reg.PAIR_STATUS_BLOCKED], Fld.key g ≠ Fld.key f) : (s.takeover cause outcome port).get f = s.get f := by
  have hnoted : (s.takeoverNoted cause outcome port).get f = s.get f :=
    get_takeoverNoted s cause outcome port fun g hg => hn g (by simp only [List.mem_cons, List.not_mem_nil, or_false] at hg ⊢; tauto)
  simp only [List.forall_mem_cons] at hn
  obtain ⟨-, -, -, hchg, -, hst, hout, hblk, -⟩ := hn
  rw [takeover_eq]
  split
  · exact hnoted
  · split
    · exact (get_setRole _ _ hst hout hchg).trans hnoted
    · exact (get_on_ne _ hblk).trans hnoted

theorem hbLost_becomeStale (s : State) : s.becomeStale.pair.hbLost = s.pair.hbLost := by
  obtain ⟨m, r, w, h⟩ := pair_becomeStale s
  rw [h]
  rfl

/-- Whatever the role, the loss is noted. -/
theorem lossRole_notes (s : State) : s.lossRole.bit Reg.PAIR_STATUS_HB_LOST = true ∧ s.lossRole.pair.hbLost = true := by
  have hget : s.lossNoted.get Reg.PAIR_STATUS_HB_LOST = 1 := get_on_self _ _ le_rfl
  have hstale (u : State) (h : u.get Reg.PAIR_STATUS_HB_LOST = 1) (hp : u.pair.hbLost = true) :
      u.becomeStale.bit Reg.PAIR_STATUS_HB_LOST = true ∧ u.becomeStale.pair.hbLost = true :=
    ⟨bit_of_get_one ((get_becomeStale u (a := .w1c) (by simp [pairStatusFields]) (by decide) (by decide) (by decide)).trans h),
      (hbLost_becomeStale u).trans hp⟩
  unfold State.lossRole
  split
  · exact ⟨bit_of_get_one ((get_pairStatus_of_only (frame_endBulk _) (a := .w1c) (by simp [pairStatusFields]) (by simp)).trans
      ((get_pairStatus_of_only (frame_breakStream _) (a := .w1c) (by simp [pairStatusFields]) (by simp)).trans hget)), rfl⟩
  · split
    · exact hstale _ hget rfl
    · split
      · have htake : (s.lossNoted.takeover 2 1 0).get Reg.PAIR_STATUS_HB_LOST = 1 :=
          (get_takeover_status _ _ _ _ (by decide)).trans hget
        extract_lets u
        have hu : u.get Reg.PAIR_STATUS_HB_LOST = 1 := by
          simp only [u]
          split
          · exact hget
          · exact htake
        have hp : u.pair.hbLost = true := by
          simp only [u]
          split
          · rfl
          · rw [hbLost_takeover]
            rfl
        clear_value u
        split
        · exact hstale u hu hp
        · exact ⟨bit_of_get_one hu, hp⟩
      · exact ⟨bit_of_get_one hget, rfl⟩

theorem lossRole_active {s : State} (hst : s.pairState = paActive) : s.lossRole.pairState = paActive ∧ s.lossRole.pair.queue = [] ∧
    s.lossRole.pair.streamLost = true ∧ s.lossRole.pair.walk = none := by
  have heq : s.lossRole = s.lossNoted.breakStream.endBulk := by unfold State.lossRole; rw [if_pos hst]
  rw [heq]
  refine ⟨?_, rfl, rfl, rfl⟩
  exact (get_pairStatus_of_only (frame_endBulk _) (a := .ro) (by simp [pairStatusFields]) (by simp)).trans
    ((get_pairStatus_of_only (frame_breakStream _) (a := .ro) (by simp [pairStatusFields]) (by simp)).trans
      ((get_lossNoted s (by decide)).trans hst))

theorem lossRole_syncing {s : State} (hst : s.pairState = paSyncing) : s.lossRole.pairState = paStale := by
  have heq : s.lossRole = s.lossNoted.becomeStale := by
    unfold State.lossRole
    rw [if_neg (by rw [hst]; decide), if_pos hst]
  rw [heq]
  exact pairState_becomeStale _

theorem lossRole_standby_fault {s : State} (hst : s.pairState = paStandby) (hfault : s.bit Reg.PAIR_STATUS_HOLD_FAULT = true) :
    s.lossRole.pairState = paStale := by
  have hnoted : s.lossNoted.bit Reg.PAIR_STATUS_HOLD_FAULT = true :=
    (congrArg (· != 0) (get_lossNoted s (f := Reg.PAIR_STATUS_HOLD_FAULT) (by decide))).trans hfault
  unfold State.lossRole
  rw [if_neg (by rw [hst]; decide), if_neg (by rw [hst]; decide), if_pos hst]
  extract_lets u
  have hu : u.bit Reg.PAIR_STATUS_HOLD_FAULT = true := by
    simp only [u]
    split
    · exact hnoted
    · rw [holdFault_takeover]
      exact hnoted
  rw [if_pos hu]
  exact pairState_becomeStale _

/-- A standby device without a fault takes over (R526). -/
theorem lossRole_standby {s : State} (hst : s.pairState = paStandby) (hfault : s.bit Reg.PAIR_STATUS_HOLD_FAULT = false)
    (harmed : s.pair.armed = none) : s.lossRole = s.lossNoted.takeover 2 1 0 := by
  have hnoted : s.lossNoted.bit Reg.PAIR_STATUS_HOLD_FAULT = false :=
    (congrArg (· != 0) (get_lossNoted s (f := Reg.PAIR_STATUS_HOLD_FAULT) (by decide))).trans hfault
  unfold State.lossRole
  rw [if_neg (by rw [hst]; decide), if_neg (by rw [hst]; decide), if_pos hst, harmed]
  extract_lets u
  have hu : u = s.lossNoted.takeover 2 1 0 := if_neg (by decide)
  rw [hu, holdFault_takeover, hnoted, if_neg (by decide)]

/-- What a takeover of a device without a fault shows, by HOLD_IN (R525, R526). -/
theorem takeover_shows {s : State} (hst : s.pairState = paStandby) (hfault : s.bit Reg.PAIR_STATUS_HOLD_FAULT = false) {cause : Nat}
    (hc : cause < 16) :
    (s.takeover cause 1 0).get Reg.PAIR_VERDICT_CAUSE = cause ∧ (s.takeover cause 1 0).get Reg.PAIR_VERDICT_OUTCOME = 1 ∧
    s.counted (s.takeover cause 1 0) Reg.PAIR_TAKEOVER_CNT_COUNT ∧
    (s.holdIn = false → (s.takeover cause 1 0).pairState = paClaiming) ∧
    (s.holdIn = true → (s.takeover cause 1 0).pairState = paStandby ∧ (s.takeover cause 1 0).pair.armed = some s.cycle ∧
      (s.takeover cause 1 0).bit Reg.PAIR_STATUS_BLOCKED = true) := by
  obtain ⟨h1, h2, -, h4⟩ := takeover_records s hc (outcome := 1) (by decide) (port := 0) (by decide)
  refine ⟨h1, h2, h4, fun hin => takeover_claims hfault hin cause 1 0, fun hin => ?_⟩
  obtain ⟨w1, w2, w3⟩ := takeover_waits hfault hin cause 1 0
  exact ⟨w1.trans hst, w2, w3⟩

/-- HEARTBEAT_LOSS (R523, R526, R527). -/
theorem heartbeatLoss_role {s : State} (hrun : s.running = true) (hen : s.die.straps.pairEn = true) (hf : s.funcUp .pair = true)
    (hlost : s.pair.hbLost = false) (hat : s.pair.hbAt + 20 * usCycles ≤ s.cycle) :
    ∃ t, exec .heartbeatLoss s = .next t ∧ t.bit Reg.PAIR_STATUS_HB_LOST = true ∧ t.pair.hbLost = true ∧
      (s.pairState = paActive → t.pairState = paActive ∧ t.pair.queue = [] ∧ t.pair.streamLost = true ∧ t.pair.walk = none) ∧
      (s.pairState = paSyncing → t.pairState = paStale) ∧
      (s.pairState = paStandby → s.bit Reg.PAIR_STATUS_HOLD_FAULT = true → t.pairState = paStale) ∧
      (s.pairState = paStandby → s.bit Reg.PAIR_STATUS_HOLD_FAULT = false → s.pair.armed = none →
        t.get Reg.PAIR_VERDICT_CAUSE = 2 ∧ t.get Reg.PAIR_VERDICT_OUTCOME = 1 ∧ s.counted t Reg.PAIR_TAKEOVER_CNT_COUNT ∧
        (s.holdIn = false → t.pairState = paClaiming) ∧
        (s.holdIn = true → t.pairState = paStandby ∧ t.pair.armed = some s.cycle ∧ t.bit Reg.PAIR_STATUS_BLOCKED = true)) ∧
      s.only t [.events, .reck, .host, .pair] (regsOf ["RING_CFG", "RING_DEV_INDEX", "PAIR_STATUS", "PAIR_VERDICT",
        "PAIR_MIRROR_LEVEL", "PAIR_TAKEOVER_CNT"]) := by
  have hexec : exec .heartbeatLoss s = .next s.heartbeatLoss.settle := whenUp_running hrun fun s => s.heartbeatLoss
  have hframe := frame_heartbeatLoss s
  rw [heartbeatLoss_eq hen hf hlost hat] at hexec hframe
  obtain ⟨hnoted, hpair⟩ := lossRole_notes s
  refine ⟨_, hexec, hnoted, hpair, lossRole_active, lossRole_syncing, lossRole_standby_fault, fun hst hfault harmed => ?_,
    only_settled hframe⟩
  have hin : s.lossNoted.holdIn = s.holdIn := congrArg (· != 0) (get_lossNoted s (f := Reg.PAIR_STATUS_HOLD_IN) (by decide))
  have hcount : s.lossNoted.get Reg.PAIR_TAKEOVER_CNT_COUNT = s.get Reg.PAIR_TAKEOVER_CNT_COUNT := get_lossNoted s (by decide)
  have hcycle : s.lossNoted.cycle = s.cycle := rfl
  have h := takeover_shows (s := s.lossNoted) ((get_lossNoted s (by decide)).trans hst)
    ((congrArg (· != 0) (get_lossNoted s (f := Reg.PAIR_STATUS_HOLD_FAULT) (by decide))).trans hfault) (cause := 2) (by decide)
  rw [← lossRole_standby hst hfault harmed, hin, hcycle] at h
  unfold State.counted at h ⊢
  rw [hcount] at h
  exact h

/-- A standby device has taken the peer's HANDOFF and its ACK. -/
def State.handed (s : State) (ack : Nat) : State := (s.takeAck ack).modPair fun p => { p with handoff := true }

theorem only_handed (s : State) (ack : Nat) : s.only (s.handed ack) [.pair] (regsOf ["PAIR_MIRROR_LEVEL"]) :=
  keep_modPair _ (frame_takeAck s ack) (by simp)

/-- HANDOFF reaches a standby device without a fault (R526, R528). -/
theorem handoffReceive_role {s : State} (hrun : s.running = true) {b : List Byte} {ok : Bool} {m : MirrorIn}
    (hm : s.mirrorIn b ok = some m) (hlinked : s.mirrorLinked = true) (htype : m.type = 5) (hst : s.pairState = paStandby)
    (hfault : s.bit Reg.PAIR_STATUS_HOLD_FAULT = false) (harmed : s.pair.armed = none) :
    ∃ t, exec (.handoffReceive b ok) s = .next t ∧
      t.pair.handoff = true ∧ t.get Reg.PAIR_VERDICT_CAUSE = 4 ∧ t.get Reg.PAIR_VERDICT_OUTCOME = 1 ∧
      s.counted t Reg.PAIR_TAKEOVER_CNT_COUNT ∧ (s.holdIn = false → t.pairState = paClaiming) ∧
      (s.holdIn = true → t.pairState = paStandby ∧ t.pair.armed = some s.cycle ∧ t.bit Reg.PAIR_STATUS_BLOCKED = true) ∧
      s.only t [.pair] (regsOf ["PAIR_STATUS", "PAIR_VERDICT", "PAIR_MIRROR_LEVEL", "PAIR_TAKEOVER_CNT"]) := by
  have hexec : exec (.handoffReceive b ok) s = .next (s.handoffReceive b ok).settle := whenUp_running hrun fun s => s.handoffReceive b ok
  have hframe := frame_handoffReceive s b ok
  have honly := only_handed s m.ack
  have hhand : (s.handed m.ack).pair.handoff = true := rfl
  have heq : s.handoffReceive b ok = (s.handed m.ack).takeover 4 1 0 := by
    obtain ⟨q, a, hq⟩ := pair_takeAck s m.ack
    unfold State.handoffReceive
    rw [hm]
    dsimp only
    rw [if_neg (by simp [hlinked, htype, hst]), if_neg (by simp [hq, harmed])]
    rfl
  rw [heq] at hexec hframe
  generalize s.handed m.ack = u at *
  have hget {a : Access} {f : Fld} (hf : (a, f) ∈ pairStatusFields) : u.get f = s.get f := get_pairStatus_of_only honly hf (by simp)
  have hst' : u.pairState = paStandby := (hget (a := .ro) (by simp [pairStatusFields])).trans hst
  have hfault' : u.bit Reg.PAIR_STATUS_HOLD_FAULT = false := by
    rw [State.bit, hget (a := .ro) (by simp [pairStatusFields])]
    exact hfault
  have hin : u.holdIn = s.holdIn := by
    rw [State.holdIn, State.bit, hget (a := .ro) (by simp [pairStatusFields])]
    rfl
  have hcount : u.get Reg.PAIR_TAKEOVER_CNT_COUNT = s.get Reg.PAIR_TAKEOVER_CNT_COUNT :=
    kept_of_only honly 23 0 0 (List.mem_of_getElem? (i := 11) rfl) (a := .rc) (by simp) (by simp)
  have hcycle : u.cycle = s.cycle := honly.1 .cycle (by simp)
  obtain ⟨h1, h2, h3, h4, h5⟩ := takeover_shows hst' hfault' (cause := 4) (by decide)
  have hh : (u.takeover 4 1 0).pair.handoff = true := by
    rw [takeover_eq, hfault']
    split
    · contradiction
    · split
      · obtain ⟨x, r, w, h⟩ := pair_claimRole (u.takeoverNoted 4 1 0)
        rw [h]
        change ((u.takeoverNoted 4 1 0).pair.handoff && _) = true
        rw [show (u.takeoverNoted 4 1 0).pair.handoff = true from hhand]
        rfl
      · exact hhand
  unfold State.counted at h3 ⊢
  rw [hcount] at h3
  rw [hin] at h4 h5
  rw [hcycle] at h5
  generalize u.takeover 4 1 0 = v at *
  exact ⟨_, hexec, hh, h1, h2, h3, h4, h5, only_settled hframe⟩

end Sys2Proof.Machine
end

section
/-! The comparison of a pair's outputs (R523 to R525, Table 20-9). -/

-- One proof at a time: side by side they take more threads than the memory bound of the check leaves room for.
set_option Elab.async false

namespace Sys2Proof.Machine

/-! ### The comparison of one port -/

/-- What is left between the two sides of a port once a window is added (R524). -/
def State.portResidue (s : State) (w p theirs : Nat) : Nat :=
  (mapGet s.pair.residual p 0 + mapGet s.pair.digests (1024 * w + p) 0 + 2 ^ 64 - theirs) % 2 ^ 64

/-- A residual that was there a window ago and has not gone is a mismatch. -/
def mismatchAt (p x : Nat) : Option Nat → List (Nat × Nat)
  | some w0 => if x = 0 then [] else [(p, w0)]
  | none => []

/-- From `s` to `t` the comparison of port `p`, with residue `x` in window `w`, has taken place. -/
def State.portCompared (s t : State) (w p x : Nat) : Prop :=
  ∃ R W, t.pair = { s.pair with residual := R, waits := W } ∧
    (∀ q, mapGet R q 0 = if q = p then (if mapFind s.pair.waits p = none then x else 0) else mapGet s.pair.residual q 0) ∧
    ∀ q, mapFind W q = if q = p then (if mapFind s.pair.waits p = none ∧ x ≠ 0 then some w else none) else mapFind s.pair.waits q

theorem mapGet_set_if (m : SMap Nat) (p v q : Nat) : mapGet (mapSet m p v 0) q 0 = if q = p then v else mapGet m q 0 := by
  split
  next h => rw [h, mapGet_set_self]
  next h => exact mapGet_set_ne _ _ _ _ fun e => h e.symm

theorem mapFind_put_if {α : Type} (m : SMap α) (p q : Nat) (v : α) : mapFind (mapPut m p v) q = if q = p then some v else mapFind m q := by
  split
  next h => rw [h, mapFind_put_self]
  next h => exact mapFind_put_ne _ _ fun e => h e.symm

theorem mapFind_del_if {α : Type} (m : SMap α) (p q : Nat) : mapFind (mapDel m p) q = if q = p then none else mapFind m q := by
  split
  next h => rw [h, mapFind_del_self]
  next h => exact mapFind_del_ne _ fun e => h e.symm

theorem comparePort_spec (w p theirs : Nat) (s : State) (a : List (Nat × Nat)) :
    s.portCompared (State.comparePort w p theirs (s, a)).1 w p (s.portResidue w p theirs) ∧
    (State.comparePort w p theirs (s, a)).2 = a ++ mismatchAt p (s.portResidue w p theirs) (mapFind s.pair.waits p) := by
  unfold State.comparePort
  extract_lets u x u'
  have hx : s.portResidue w p theirs = x := rfl
  rw [hx]
  have hsame (q : Nat) (h : mapFind s.pair.waits p = none) :
      mapFind s.pair.waits q = if q = p then none else mapFind s.pair.waits q := by
    split
    next e => rw [e, h]
    · rfl
  split
  next h =>
    change mapFind s.pair.waits p = none at h
    split
    next h0 =>
      refine ⟨⟨mapSet s.pair.residual p 0 0, s.pair.waits, rfl, fun q => ?_, fun q => ?_⟩, by simp [mismatchAt, h]⟩
      · simp only [mapGet_set_if, h, h0, if_true]
      · simpa only [h, h0, ne_eq, not_true_eq_false, and_false, if_false] using hsame q h
    next h0 =>
      refine ⟨⟨mapSet s.pair.residual p x 0, mapPut s.pair.waits p w, rfl, fun q => ?_, fun q => ?_⟩, by simp [mismatchAt, h]⟩
      · simp only [mapGet_set_if, h, if_true]
      · simp only [mapFind_put_if, h, h0, ne_eq, not_false_eq_true, and_self, if_true]
  next w0 h =>
    change mapFind s.pair.waits p = some w0 at h
    have hres (q : Nat) : mapGet (mapSet s.pair.residual p 0 0) q 0 =
        if q = p then (if mapFind s.pair.waits p = none then x else 0) else mapGet s.pair.residual q 0 := by
      simp only [mapGet_set_if, h, reduceCtorEq, if_false]
    have hwait (q : Nat) : mapFind (mapDel s.pair.waits p) q =
        if q = p then (if mapFind s.pair.waits p = none ∧ x ≠ 0 then some w else none) else mapFind s.pair.waits q := by
      simp only [mapFind_del_if, h, reduceCtorEq, false_and, if_false]
    split
    next h0 => exact ⟨⟨_, _, rfl, hres, hwait⟩, by simp [mismatchAt, h, h0]⟩
    next h0 => exact ⟨⟨_, _, rfl, hres, hwait⟩, by simp [mismatchAt, h, h0]⟩

/-! ### The comparison of all ports -/

/-- From `s` to `t` the comparison of the ports of a list, with their residues in window `w`, has taken place. -/
def State.portsCompared (s t : State) (w : Nat) (l : List Nat) (x : Nat → Nat) : Prop :=
  ∃ R W, t.pair = { s.pair with residual := R, waits := W } ∧
    (∀ q, mapGet R q 0 = if q ∈ l then (if mapFind s.pair.waits q = none then x q else 0) else mapGet s.pair.residual q 0) ∧
    ∀ q, mapFind W q = if q ∈ l then (if mapFind s.pair.waits q = none ∧ x q ≠ 0 then some w else none) else mapFind s.pair.waits q

theorem portsCompared_cons {s t u : State} {w p : Nat} {l : List Nat} {x : Nat → Nat} (hp : p ∉ l) (h : s.portCompared t w p (x p))
    (k : t.portsCompared u w l x) : s.portsCompared u w (p :: l) x := by
  obtain ⟨R, W, h1, h2, h3⟩ := h
  obtain ⟨R', W', k1, k2, k3⟩ := k
  rw [h1] at k1 k2 k3
  refine ⟨R', W', k1, fun q => ?_, fun q => ?_⟩
  · rw [k2, h2, h3]
    by_cases hq : q = p
    · subst hq
      simp [hp]
    · simp [hq]
  · rw [k3, h3]
    by_cases hq : q = p
    · subst hq
      simp [hp]
    · simp [hq]

/-- What is found on a list of ports. -/
def State.mismatches (s : State) (l : List Nat) (x : Nat → Nat) : List (Nat × Nat) :=
  l.flatMap fun p => mismatchAt p (x p) (mapFind s.pair.waits p)

theorem compareAll_spec (w : Nat) (peer : List DigestFrame) (l : List Nat) (hl : l.Nodup) (s : State) (a : List (Nat × Nat)) :
    s.portsCompared (l.foldl (fun r p => State.comparePort w p (peerDigest peer p) r) (s, a)).1 w l
      (fun p => s.portResidue w p (peerDigest peer p)) ∧
    (l.foldl (fun r p => State.comparePort w p (peerDigest peer p) r) (s, a)).2 =
      a ++ s.mismatches l (fun p => s.portResidue w p (peerDigest peer p)) ∧
    s.only (l.foldl (fun r p => State.comparePort w p (peerDigest peer p) r) (s, a)).1 [.pair] (regsOf ["PAIR_SHIFT_CNT"]) := by
  induction l generalizing s a with
  | nil => exact ⟨⟨_, _, rfl, fun q => by simp, fun q => by simp⟩, by simp [State.mismatches], only_mono (only_refl s) (by simp) (keysOf_nil _)⟩
  | cons p l ih =>
    obtain ⟨hp, hl'⟩ := List.nodup_cons.mp hl
    obtain ⟨hstep, hfound⟩ := comparePort_spec w p (peerDigest peer p) s a
    have hframe := frame_comparePort w p (peerDigest peer p) (s, a)
    rw [List.foldl_cons]
    generalize State.comparePort w p (peerDigest peer p) (s, a) = r at *
    obtain ⟨t, b⟩ := r
    dsimp only at hstep hfound hframe
    obtain ⟨hrest, hlist, honly⟩ := ih hl' t b
    obtain ⟨R, W, h1, h2, h3⟩ := hstep
    have hres (q : Nat) (hq : q ≠ p) : t.portResidue w q (peerDigest peer q) = s.portResidue w q (peerDigest peer q) := by
      have hR : mapGet R q 0 = mapGet s.pair.residual q 0 := (h2 q).trans (if_neg hq)
      simp only [State.portResidue, h1, hR]
    have hwait (q : Nat) (hq : q ≠ p) : mapFind t.pair.waits q = mapFind s.pair.waits q := by
      rw [h1]
      exact (h3 q).trans (if_neg hq)
    have hne (q : Nat) (hq : q ∈ l) : q ≠ p := fun e => hp (e ▸ hq)
    refine ⟨portsCompared_cons hp ⟨R, W, h1, h2, h3⟩ ?_, ?_, only_then hframe honly⟩
    · obtain ⟨R', W', k1, k2, k3⟩ := hrest
      refine ⟨R', W', k1, fun q => (k2 q).trans ?_, fun q => (k3 q).trans ?_⟩
      · split
        next hq => simp only [hres q (hne q hq)]
        · rfl
      · split
        next hq => simp only [hres q (hne q hq)]
        · rfl
    · have htail : t.mismatches l (fun p => t.portResidue w p (peerDigest peer p)) =
          s.mismatches l (fun p => s.portResidue w p (peerDigest peer p)) :=
        List.flatMap_congr fun q hq => by simp only [hres q (hne q hq), hwait q (hne q hq)]
      rw [hlist, htail, show b = _ from hfound, List.append_assoc]
      rfl

/-! ### The verdict of a mismatch -/

/-- What one side noted of a window and the one before it. -/
def twoWindows (f : Nat → Bool × Bool) (w : Nat) : Bool × Bool := ((f w).1 || (f (w - 1)).1, (f w).2 || (f (w - 1)).2)

/-- The outcome of a mismatch in a window, by what both sides noted (Table 20-9). -/
def State.mismatchOut (s : State) (w : Nat) : Nat :=
  let mine := twoWindows s.windowErrors w
  let peer := twoWindows (fun k => mapGet s.pair.peerErrors k (false, false)) w
  if s.pairState = paActive then verdictOf mine.1 peer.1 (mine.2 || peer.2) else verdictOf peer.1 mine.1 (mine.2 || peer.2)

/-- The verdict makes the other side take over. -/
def State.mismatchTakes (s : State) (w : Nat) : Bool :=
  s.mismatchOut w == 1 ||
    (s.mismatchOut w == 5 && s.bit (if s.pairState = paActive then Reg.PAIR_CTRL_TAKE_UNEXPLAINED else Reg.PAIR_PEER_TAKE_UNEXPLAINED))

/-- The record of a mismatch. -/
def State.mismatchNoted (s : State) (port w : Nat) : State :=
  ((s.on Reg.PAIR_STATUS_MISMATCH).set Reg.PAIR_VERDICT_WIN_WINDOW (w % 2 ^ 32)).putVerdict 1 (s.mismatchOut w) port

theorem mismatch_eq (s : State) (port w : Nat) : s.mismatch port w =
    if s.mismatchTakes w then
      (if s.pairState = paActive then (s.mismatchNoted port w).yieldRole false else (s.mismatchNoted port w).takeover 1 (s.mismatchOut w) port)
    else if (s.mismatchOut w == 2 || s.mismatchOut w == 3) && s.pairState != paActive then (s.mismatchNoted port w).becomeStale
    else s.mismatchNoted port w := by
  unfold State.mismatch
  extract_lets or2 mine peer active out take u v
  have hout : out = s.mismatchOut w := by
    unfold State.mismatchOut
    by_cases h : s.pairState = paActive
    · simp only [out, active, h, beq_self_eq_true, if_true]
      rfl
    · simp only [out, active, h, beq_iff_eq, if_false]
      rfl
  have htake : take = s.mismatchTakes w := by
    simp only [take, hout, active, State.mismatchTakes, beq_iff_eq]
  have hv : v = s.mismatchNoted port w := by simp only [v, u, hout]; rfl
  rw [hv, htake, hout]
  simp only [active, beq_iff_eq, bne]

theorem mismatchOut_lt (s : State) (w : Nat) : s.mismatchOut w < 16 := by
  have h (a b c : Bool) : verdictOf a b c < 16 := by cases a <;> cases b <;> cases c <;> decide
  unfold State.mismatchOut
  split <;> exact h _ _ _

/-- The fields that the record of a mismatch shows. -/
def State.showsMismatch (t : State) (p w out : Nat) : Prop :=
  t.get Reg.PAIR_STATUS_MISMATCH = 1 ∧ t.get Reg.PAIR_VERDICT_CAUSE = 1 ∧ t.get Reg.PAIR_VERDICT_PORT = p ∧
    t.get Reg.PAIR_VERDICT_WIN_WINDOW = w % 2 ^ 32 ∧ t.get Reg.PAIR_VERDICT_OUTCOME = out

theorem showsMismatch_noted (s : State) {p : Nat} (hp : p < 1024) (w : Nat) :
    (s.mismatchNoted p w).showsMismatch p w (s.mismatchOut w) := by
  unfold State.showsMismatch State.mismatchNoted State.putVerdict
  refine ⟨?_, ?_, ?_, ?_, ?_⟩
  · rw [get_set_ne _ _ (by decide), get_set_ne _ _ (by decide), get_set_ne _ _ (by decide), get_set_ne _ _ (by decide)]
    exact get_on_self _ _ le_rfl
  · rw [get_set_ne _ _ (by decide), get_set_ne _ _ (by decide), get_set_self]
    rfl
  · rw [get_set_self]
    exact Nat.mod_eq_of_lt hp
  · rw [get_set_ne _ _ (by decide), get_set_ne _ _ (by decide), get_set_ne _ _ (by decide), get_set_self]
    exact Nat.mod_mod _ _
  · rw [get_set_ne _ _ (by decide), get_set_self]
    exact Nat.mod_eq_of_lt (mismatchOut_lt s w)

theorem get_mismatchNoted (s : State) (p w : Nat) {f : Fld} (h : ∀ g ∈ [Reg.PAIR_STATUS_MISMATCH, Reg.PAIR_VERDICT_WIN_WINDOW,
      Reg.PAIR_VERDICT_CAUSE, Reg.PAIR_VERDICT_OUTCOME, Reg.PAIR_VERDICT_PORT], Fld.key g ≠ Fld.key f) :
    (s.mismatchNoted p w).get f = s.get f := by
  simp only [List.forall_mem_cons] at h
  obtain ⟨h1, h2, h3, h4, h5, -⟩ := h
  exact (get_set_ne _ _ h5).trans ((get_set_ne _ _ h4).trans ((get_set_ne _ _ h3).trans ((get_set_ne _ _ h2).trans (get_on_ne _ h1))))

theorem pairState_mismatchNoted (s : State) (p w : Nat) : (s.mismatchNoted p w).pairState = s.pairState :=
  get_mismatchNoted s p w (by decide)

/-- A change of the role leaves the record of a mismatch. -/
theorem showsMismatch_of {t u : State} {P : List Part} {L : List String} {p w out : Nat} (h : t.showsMismatch p w out)
    (honly : t.only u P (regsOf L)) (h1 : "PAIR_VERDICT" ∉ L) (h2 : "PAIR_VERDICT_WIN" ∉ L)
    (hm : u.get Reg.PAIR_STATUS_MISMATCH = t.get Reg.PAIR_STATUS_MISMATCH) : u.showsMismatch p w out := by
  have hverdict {f : Fld} (hf : (Access.ro, f) ∈ [(.ro, Reg.PAIR_VERDICT_CAUSE), (.ro, Reg.PAIR_VERDICT_OUTCOME), (.ro, Reg.PAIR_VERDICT_PORT)]) :
      u.get f = t.get f := kept_of_only honly 23 0 0 (List.mem_of_getElem? (i := 6) rfl) hf h1
  have hwin : u.get Reg.PAIR_VERDICT_WIN_WINDOW = t.get Reg.PAIR_VERDICT_WIN_WINDOW :=
    kept_of_only honly 23 0 0 (List.mem_of_getElem? (i := 7) rfl) (a := .ro) (by simp) h2
  unfold State.showsMismatch
  rw [hm, hwin, hverdict (f := Reg.PAIR_VERDICT_CAUSE) (by simp), hverdict (f := Reg.PAIR_VERDICT_OUTCOME) (by simp),
    hverdict (f := Reg.PAIR_VERDICT_PORT) (by simp)]
  exact h

theorem showsMismatch_yieldRole {t : State} {p w out : Nat} (h : t.showsMismatch p w out) : (t.yieldRole false).showsMismatch p w out :=
  showsMismatch_of h (frame_yieldRole t false) (by simp) (by simp)
    ((get_yieldRole t false _).trans (get_setRole _ _ (by decide) (by decide) (by decide)))

theorem showsMismatch_becomeStale {t : State} {p w out : Nat} (h : t.showsMismatch p w out) : t.becomeStale.showsMismatch p w out :=
  showsMismatch_of h (frame_becomeStale t) (by simp) (by simp)
    (get_becomeStale t (a := .w1c) (by simp [pairStatusFields]) (by decide) (by decide) (by decide))

theorem showsMismatch_takeover {t : State} {p w out : Nat} (hp : p < 1024) (hout : out < 16) (h : t.showsMismatch p w out) :
    (t.takeover 1 out p).showsMismatch p w out := by
  obtain ⟨h1, h2, h3, h4, h5⟩ := h
  obtain ⟨k1, k2, k3, -⟩ := takeover_records t (cause := 1) (by decide) hout hp
  exact ⟨(get_takeover_status t 1 out p (by decide)).trans h1, k1, k3, (get_takeover_status t 1 out p (by decide)).trans h4, k2⟩

theorem showsMismatch_mismatch (s : State) {p : Nat} (hp : p < 1024) (w : Nat) : (s.mismatch p w).showsMismatch p w (s.mismatchOut w) := by
  have h := showsMismatch_noted s hp w
  rw [mismatch_eq]
  split
  · split
    · exact showsMismatch_yieldRole h
    · exact showsMismatch_takeover hp (mismatchOut_lt s w) h
  · split
    · exact showsMismatch_becomeStale h
    · exact h

/-- What is noted of the windows stays, whatever the verdict. -/
theorem windows_mismatch (s : State) (p w : Nat) : (s.mismatch p w).pair.peerErrors = s.pair.peerErrors ∧
    (s.mismatch p w).pair.compared = s.pair.compared := by
  have hnoted : (s.mismatchNoted p w).pair = s.pair := rfl
  rw [mismatch_eq]
  generalize s.mismatchNoted p w = u at hnoted
  rw [← hnoted]
  split
  · split
    · obtain ⟨l, h⟩ := mirrorSend_eq (u.yielding false) ((u.yielding false).mirrorBytes 5 0 [])
      obtain ⟨m, r, x, hp⟩ := pair_setRole (u.modPair fun p => { p with hostYield := false }) paYielding
      have hpair : (u.yielding false).pair = _ := hp
      rw [yieldRole_eq, h, modPair_pair, hpair]
      exact ⟨rfl, rfl⟩
    · rw [takeover_eq]
      split
      · exact ⟨rfl, rfl⟩
      · split
        · obtain ⟨m, r, x, h⟩ := pair_claimRole (u.takeoverNoted 1 (s.mismatchOut w) p)
          rw [h]
          exact ⟨rfl, rfl⟩
        · exact ⟨rfl, rfl⟩
  · split
    · obtain ⟨m, r, x, h⟩ := pair_becomeStale u
      rw [h]
      exact ⟨rfl, rfl⟩
    · exact ⟨rfl, rfl⟩

/-- The active yields on its own errors (Table 20-9). -/
theorem pairState_mismatch_active {s : State} (hst : s.pairState = paActive) (p w : Nat) : (s.mismatch p w).pairState =
    if s.mismatchOut w = 1 ∨ (s.mismatchOut w = 5 ∧ s.bit Reg.PAIR_CTRL_TAKE_UNEXPLAINED = true) then paYielding else paActive := by
  have htakes : (s.mismatchTakes w = true) = (s.mismatchOut w = 1 ∨ (s.mismatchOut w = 5 ∧ s.bit Reg.PAIR_CTRL_TAKE_UNEXPLAINED = true)) := by
    simp [State.mismatchTakes, hst]
  rw [mismatch_eq, if_pos hst]
  simp only [htakes]
  split
  · exact pairState_yieldRole _ _
  · rw [if_neg (by simp [hst]), pairState_mismatchNoted, hst]

/-- A standby device becomes STALE on its own errors, and takes over on those of the active (Table 20-9). -/
theorem pairState_mismatch_standby {s : State} (hst : s.pairState = paStandby) (p w : Nat) :
    (s.mismatchOut w = 2 ∨ s.mismatchOut w = 3 → (s.mismatch p w).pairState = paStale) ∧
    (s.mismatchOut w = 4 ∨ (s.mismatchOut w = 5 ∧ s.bit Reg.PAIR_PEER_TAKE_UNEXPLAINED = false) →
      (s.mismatch p w).pairState = paStandby) ∧
    (s.mismatchOut w = 1 ∨ (s.mismatchOut w = 5 ∧ s.bit Reg.PAIR_PEER_TAKE_UNEXPLAINED = true) →
      s.bit Reg.PAIR_STATUS_HOLD_FAULT = false → s.holdIn = false → (s.mismatch p w).pairState = paClaiming) := by
  have hne : s.pairState ≠ paActive := by rw [hst]; decide
  have htakes : s.mismatchTakes w =
      (s.mismatchOut w == 1 || (s.mismatchOut w == 5 && s.bit Reg.PAIR_PEER_TAKE_UNEXPLAINED)) := by
    simp [State.mismatchTakes, hne]
  rw [mismatch_eq, if_neg hne, htakes]
  refine ⟨fun h => ?_, fun h => ?_, fun h hfault hin => ?_⟩
  · have hout : (s.mismatchOut w == 1 || (s.mismatchOut w == 5 && s.bit Reg.PAIR_PEER_TAKE_UNEXPLAINED)) = false := by
      rcases h with h | h <;> simp [h]
    rw [hout, if_neg (by decide), if_pos (by rcases h with h | h <;> simp [h, hne])]
    exact pairState_becomeStale _
  · have hout : (s.mismatchOut w == 1 || (s.mismatchOut w == 5 && s.bit Reg.PAIR_PEER_TAKE_UNEXPLAINED)) = false := by
      rcases h with h | ⟨h, h'⟩ <;> simp [*]
    rw [hout, if_neg (by decide), if_neg (by rcases h with h | ⟨h, -⟩ <;> simp [h]), pairState_mismatchNoted, hst]
  · have hout : (s.mismatchOut w == 1 || (s.mismatchOut w == 5 && s.bit Reg.PAIR_PEER_TAKE_UNEXPLAINED)) = true := by
      rcases h with h | ⟨h, h'⟩ <;> simp [*]
    rw [hout, if_pos rfl]
    refine takeover_claims ?_ ?_ _ _ _
    · rw [State.bit, get_mismatchNoted s p w (by decide)]
      exact hfault
    · rw [State.holdIn, State.bit, get_mismatchNoted s p w (by decide)]
      exact hin

end Sys2Proof.Machine
end

section
/-! Heartbeats, digests and verdicts of a pair (R516, R518, R523 to R528). -/

-- One proof at a time: side by side they take more threads than the memory bound of the check leaves room for.
set_option Elab.async false

namespace Sys2Proof.Machine

/-! ### The close of a window -/

/-- The ports whose outputs are compared. -/
def State.comparedPorts (s : State) : List Nat :=
  (List.range 1024).filter fun p => !bitOf (s.get (Reg.PAIR_CMP_MASK_MASK (p / 32))) (p % 32)

theorem mem_comparedPorts {s : State} {p : Nat} :
    p ∈ s.comparedPorts ↔ p < 1024 ∧ bitOf (s.get (Reg.PAIR_CMP_MASK_MASK (p / 32))) (p % 32) = false := by
  simp [State.comparedPorts]

theorem sorted_comparedPorts (s : State) : s.comparedPorts.Pairwise (· < ·) := List.pairwise_lt_range.filter _

/-- The window is noted as compared, with what the peer noted of it. -/
def State.windowNoted (s : State) (w : Nat) (peer : List DigestFrame) : State := s.modPair fun p => { p with
  peerErrors := mapPut (p.peerErrors.filter fun e => w ≤ e.1 + 4) w (peer.any (·.intErr), peer.any (·.extErr)), compared := w + 1 }

/-- The residues of the ports at the close of a window. -/
def State.windowResidue (s : State) (w : Nat) (peer : List DigestFrame) (p : Nat) : Nat := s.portResidue w p (peerDigest peer p)

/-- The comparison of all ports at the close of a window, with what it has found. -/
def State.windowPorts (s : State) (w : Nat) (peer : List DigestFrame) : State × List (Nat × Nat) :=
  s.comparedPorts.foldl (fun r p => State.comparePort w p (peerDigest peer p) r) (s.windowNoted w peer, [])

theorem windowPorts_spec (s : State) (w : Nat) (peer : List DigestFrame) :
    (s.windowNoted w peer).portsCompared (s.windowPorts w peer).1 w s.comparedPorts (s.windowResidue w peer) ∧
    (s.windowPorts w peer).2 = s.mismatches s.comparedPorts (s.windowResidue w peer) ∧
    (s.windowNoted w peer).only (s.windowPorts w peer).1 [.pair] (regsOf ["PAIR_SHIFT_CNT"]) := by
  have hres : (fun p => (s.windowNoted w peer).portResidue w p (peerDigest peer p)) = s.windowResidue w peer :=
    funext fun p => by simp only [State.windowResidue, State.portResidue, State.windowNoted, modPair_pair]
  have hwaits : (s.windowNoted w peer).mismatches s.comparedPorts (s.windowResidue w peer) =
      s.mismatches s.comparedPorts (s.windowResidue w peer) := by
    simp only [State.mismatches, State.windowNoted, modPair_pair]
  have h := compareAll_spec w peer s.comparedPorts ((sorted_comparedPorts s).imp Nat.ne_of_lt) (s.windowNoted w peer) []
  rw [hres, hwaits, List.nil_append] at h
  exact h

theorem windowCompare_waits {s : State} {w : Nat} {peer : List DigestFrame} (h : s.comparing = false ∨ s.windowNow ≤ w ∨
    w < s.pair.compared ∨ digestsWhole peer = false) : s.windowCompare w peer = s := by
  have hcond : (!s.comparing || decide (w ≥ s.windowNow) || decide (w < s.pair.compared) || !digestsWhole peer) = true := by
    rcases h with h | h | h | h <;> simp [h]
  unfold State.windowCompare
  rw [if_pos hcond]

section Close

variable {s : State} {w : Nat} {peer : List DigestFrame} (hc : s.comparing = true) (hw : w < s.windowNow)
variable (hd : s.pair.compared ≤ w) (hp : digestsWhole peer = true)
include hc hw hd hp

/-- What follows the comparison of the ports is read from what it has found. -/
theorem windowCompare_found {l : List (Nat × Nat)} (h : (s.windowPorts w peer).2 = l) : s.windowCompare w peer =
    l.head?.elim (s.windowPorts w peer).1 fun e =>
      ((s.windowPorts w peer).1.satAdd Reg.PAIR_MISMATCH_CNT_COUNT l.length).mismatch e.1 e.2 := by
  have hcond : ¬ (!s.comparing || decide (w ≥ s.windowNow) || decide (w < s.pair.compared) || !digestsWhole peer) = true := by
    simp [hc, hw, hd, hp]
  unfold State.windowCompare
  rw [if_neg hcond]
  extract_lets errs u ports r
  have hports : ports = s.comparedPorts := List.filter_congr fun p _ => rfl
  have hr : r = s.windowPorts w peer := by
    simp only [r, hports]
    rfl
  rw [hr, h]
  cases l <;> rfl

end Close

/-- Without a residual that stays, nothing is found. -/
theorem mismatches_nil {s : State} {l : List Nat} {x : Nat → Nat} (h : ∀ p ∈ l, x p = 0 ∨ mapFind s.pair.waits p = none) :
    s.mismatches l x = [] := by
  refine List.flatMap_eq_nil_iff.mpr fun p hp => ?_
  unfold mismatchAt
  rcases h p hp with h | h
  · split
    · rw [if_pos h]
    · rfl
  · rw [h]

/-- The first port whose residual stays is found first. -/
theorem mismatches_first {s : State} {l : List Nat} (hl : l.Pairwise (· < ·)) {x : Nat → Nat} {p w0 : Nat} (hp : p ∈ l) (hx : x p ≠ 0)
    (hw : mapFind s.pair.waits p = some w0) (hfirst : ∀ q, q < p → q ∈ l → x q = 0 ∨ mapFind s.pair.waits q = none) :
    ∃ r, s.mismatches l x = (p, w0) :: r := by
  obtain ⟨l1, l2, rfl⟩ := List.append_of_mem hp
  have hbefore : ∀ q ∈ l1, q < p := fun q hq => (List.pairwise_append.mp hl).2.2 q hq p (by simp)
  have h1 : s.mismatches l1 x = [] := mismatches_nil fun q hq => hfirst q (hbefore q hq) (by simp [hq])
  refine ⟨s.mismatches l2 x, ?_⟩
  unfold State.mismatches at h1 ⊢
  rw [List.flatMap_append, List.flatMap_cons, h1, hw, mismatchAt, if_neg hx]
  rfl

/-- What the comparison of the ports leaves of the rest of the state. -/
theorem windowPorts_keeps (s : State) (w : Nat) (peer : List DigestFrame) :
    s.only (s.windowPorts w peer).1 [.pair] (regsOf ["PAIR_SHIFT_CNT"]) :=
  only_then (keep_modPair _ (only_mono (only_refl s) (by simp) (keysOf_nil _)) (by simp)) (windowPorts_spec s w peer).2.2

/-- The state in which a mismatch is judged. -/
def State.windowFound (s : State) (w : Nat) (peer : List DigestFrame) : State :=
  (s.windowPorts w peer).1.satAdd Reg.PAIR_MISMATCH_CNT_COUNT (s.windowPorts w peer).2.length

theorem only_windowFound (s : State) (w : Nat) (peer : List DigestFrame) :
    s.only (s.windowFound w peer) [.pair] (regsOf ["PAIR_SHIFT_CNT", "PAIR_MISMATCH_CNT"]) :=
  keep_set _ _ (only_widen (windowPorts_keeps s w peer) (by simp) (by simp)) (reg_PAIR_MISMATCH_CNT_COUNT (by simp))

theorem pair_windowFound (s : State) (w : Nat) (peer : List DigestFrame) : ∃ R W, (s.windowFound w peer).pair = { s.pair with
    peerErrors := mapPut (s.pair.peerErrors.filter fun e => w ≤ e.1 + 4) w (peer.any (·.intErr), peer.any (·.extErr)), compared := w + 1,
    residual := R, waits := W } := by
  obtain ⟨R, W, h, -⟩ := (windowPorts_spec s w peer).1
  refine ⟨R, W, ?_⟩
  rw [State.windowFound, satAdd_pair, h, State.windowNoted, modPair_pair]

/-- The verdict that follows Table 20-9, from what both sides noted. -/
theorem mismatchOut_eq {s : State} {w out : Nat} {mine theirs : Nat → Bool × Bool} (hm : ∀ k, mine k = mapGet s.pair.errors k (false, false))
    (ht : ∀ k, theirs k = mapGet s.pair.peerErrors k (false, false)) {mi ti ext : Bool} (hmi : mi = ((mine w).1 || (mine (w - 1)).1))
    (hti : ti = ((theirs w).1 || (theirs (w - 1)).1))
    (hext : ext = ((mine w).2 || (mine (w - 1)).2 || (theirs w).2 || (theirs (w - 1)).2))
    (hout : out = (if s.pairState = paActive then verdictOf mi ti ext else verdictOf ti mi ext)) : s.mismatchOut w = out := by
  have hmine : mine = s.windowErrors := funext hm
  have htheirs : theirs = fun k => mapGet s.pair.peerErrors k (false, false) := funext ht
  subst hmine htheirs hmi hti hext hout
  simp only [State.mismatchOut, twoWindows, Bool.or_assoc]

/-- The records of the ports where no residual stays (R524). -/
theorem windowPorts_agree {s : State} {w : Nat} {peer : List DigestFrame}
    (h : ∀ p ∈ s.comparedPorts, s.windowResidue w peer p = 0 ∨ mapFind s.pair.waits p = none) (p : Nat) :
    (p ∈ s.comparedPorts → mapGet (s.windowPorts w peer).1.pair.residual p 0 = s.windowResidue w peer p ∧
      mapFind (s.windowPorts w peer).1.pair.waits p = if s.windowResidue w peer p = 0 then none else some w) ∧
    (p ∉ s.comparedPorts → mapGet (s.windowPorts w peer).1.pair.residual p 0 = mapGet s.pair.residual p 0 ∧
      mapFind (s.windowPorts w peer).1.pair.waits p = mapFind s.pair.waits p) := by
  obtain ⟨R, W, hpair, hR, hW⟩ := (windowPorts_spec s w peer).1
  have hwaits : (s.windowNoted w peer).pair.waits = s.pair.waits := rfl
  have hresidual : (s.windowNoted w peer).pair.residual = s.pair.residual := rfl
  rw [hwaits] at hW
  rw [hwaits, hresidual] at hR
  rw [hpair]
  refine ⟨fun hon => ⟨?_, ?_⟩, fun hoff => ⟨?_, ?_⟩⟩
  · refine (hR p).trans ?_
    rw [if_pos hon]
    rcases h p hon with h0 | h0
    · rw [h0, ite_self]
    · rw [if_pos h0]
  · refine (hW p).trans ?_
    rw [if_pos hon]
    by_cases hx : s.windowResidue w peer p = 0
    · simp [hx]
    · simp [hx, (h p hon).resolve_left hx]
  · exact (hR p).trans (if_neg hoff)
  · exact (hW p).trans (if_neg hoff)

/-! ### Sending -/

/-- The state with a list of frames sent on the mirror link. -/
def State.sending (s : State) (l : List (List Byte)) : State := s.modPair fun p => { p with sent := l }

/-- Frames sent one after another stand behind each other; nothing else moves. -/
theorem mirrorSends {α : Type} (frame : State → α → List Byte) (hframe : ∀ t a l, frame (t.sending l) a = frame t a)
    {s : State} (hup : s.bit Reg.PAIR_STATUS_LINK_UP = true) (hidle : s.mirrorIdle = false) (l : List α) :
    l.foldl (fun s a => s.mirrorSend (frame s a)) s = s.sending (s.pair.sent ++ l.map (frame s)) := by
  induction l generalizing s with
  | nil =>
    rw [List.foldl_nil, List.map_nil, List.append_nil]
    rfl
  | cons a l ih =>
    have hone : s.mirrorSend (frame s a) = s.sending (s.pair.sent ++ [frame s a]) := mirrorSend_on hup hidle _
    have hrest : frame (s.sending (s.pair.sent ++ [frame s a])) = frame s := funext fun b => hframe _ _ _
    have hnext := ih (s := s.sending (s.pair.sent ++ [frame s a])) hup hidle
    rw [hrest] at hnext
    rw [List.foldl_cons, hone, hnext, List.map_cons, List.append_cons s.pair.sent (frame s a) (l.map (frame s))]
    rfl

theorem mirrorSends_idle {α : Type} (frame : State → α → List Byte) {s : State} (h : s.bit Reg.PAIR_STATUS_LINK_UP = false ∨ s.mirrorIdle = true)
    (l : List α) : l.foldl (fun s a => s.mirrorSend (frame s a)) s = s :=
  List.foldl_fixed' (fun a => mirrorSend_off h (frame s a)) l

theorem digestFrame_sent (w k : Nat) (s : State) (l : List (List Byte)) :
    (s.sending l).digestFrame w k = s.digestFrame w k := rfl

/-- The frames of a window that has ended (R523). -/
theorem digestSend_role {s : State} (hrun : s.running = true) {w : Nat} (hw : w + 1 = s.windowNow) (hlinked : s.mirrorLinked = true) :
    (s.pair.sentWindow < w ∨ w = 0 → ∃ t, exec .digestSend s = .next t ∧ t.pair.sentWindow = w ∧
      t.pair.sent = (if s.mirrorIdle then s.pair.sent else s.pair.sent ++ (List.range 16).map (s.digestFrame w)) ∧
      s.only t [.pair] (keysOf [])) ∧
    (w ≤ s.pair.sentWindow → w ≠ 0 → ∃ t, exec .digestSend s = .next t ∧ s.only t [] (keysOf [])) := by
  have hexec : exec .digestSend s = .next s.digestSend.settle := whenUp_running hrun fun s => s.digestSend
  have hnow : s.windowNow - 1 = w := by omega
  constructor
  · intro h
    have hup : s.bit Reg.PAIR_STATUS_LINK_UP = true := by
      simp only [State.mirrorLinked, Bool.and_eq_true] at hlinked
      exact hlinked.2
    have hcond : ¬ (!s.mirrorLinked || decide (s.windowNow = 0) || (decide (w ≤ s.pair.sentWindow) && w != 0)) = true := by
      have h0 : s.windowNow ≠ 0 := by omega
      rcases h with h | h
      · simp [hlinked, h0, show ¬ w ≤ s.pair.sentWindow by omega]
      · simp [hlinked, h0, h]
    unfold State.digestSend at hexec
    rw [hnow] at hexec
    dsimp only at hexec
    rw [if_neg hcond] at hexec
    cases hidle : s.mirrorIdle with
    | true =>
      rw [mirrorSends_idle (fun s k => s.digestFrame w k) (.inr hidle)] at hexec
      exact ⟨_, hexec, rfl, rfl, only_settled (keep_modPair _ (only_mono (only_refl s) (by simp) (keysOf_nil _)) (by simp))⟩
    | false =>
      rw [mirrorSends (fun s k => s.digestFrame w k) (fun t k l => digestFrame_sent w k t l) hup hidle] at hexec
      exact ⟨_, hexec, rfl, rfl, only_settled (keep_modPair _ (keep_modPair _ (only_mono (only_refl s) (by simp) (keysOf_nil _)) (by simp))
        (by simp))⟩
  · intro h h0
    have heq : s.digestSend = s := by
      unfold State.digestSend
      rw [hnow]
      exact if_pos (by simp [h, h0])
    rw [heq] at hexec
    exact ⟨_, hexec, only_settled (only_refl s)⟩

/-- HEARTBEAT_SEND (R523). -/
theorem heartbeatSend_role {s : State} (hrun : s.running = true) {on_ : Bool}
    (hon : on_ = (s.die.straps.pairEn && s.funcUp .pair && s.bit Reg.PAIR_STATUS_LINK_UP && !s.mirrorIdle)) :
    ∃ t, exec .heartbeatSend s = .next t ∧
      t.pair.sent = (if on_ then s.pair.sent ++ [s.mirrorBytes 1 0 s.heartbeat] else s.pair.sent) ∧
      t.pair = { s.pair with sent := t.pair.sent } ∧ s.only t [.pair] (keysOf []) := by
  have hexec : exec .heartbeatSend s = .next s.heartbeatSend.settle := whenUp_running hrun fun s => s.heartbeatSend
  cases on_ with
  | true =>
    have hall := hon.symm
    simp only [Bool.and_eq_true, Bool.not_eq_true'] at hall
    obtain ⟨⟨⟨hen, hf⟩, hup⟩, hidle⟩ := hall
    have heq : s.heartbeatSend = s.modPair fun p => { p with sent := p.sent ++ [s.mirrorBytes 1 0 s.heartbeat] } := by
      unfold State.heartbeatSend
      rw [if_pos (by rw [hen, hf]; rfl), mirrorSend_on hup hidle]
    rw [heq] at hexec
    exact ⟨_, hexec, rfl, rfl, only_settled (keep_modPair _ (only_mono (only_refl s) (by simp) (keysOf_nil _)) (by simp))⟩
  | false =>
    have heq : s.heartbeatSend = s := by
      unfold State.heartbeatSend
      split
      next h =>
        rw [h, Bool.true_and] at hon
        refine mirrorSend_off ?_ _
        cases hup : s.bit Reg.PAIR_STATUS_LINK_UP with
        | false => exact .inl rfl
        | true => exact .inr (by rw [hup] at hon; simpa using hon.symm)
      · rfl
    rw [heq] at hexec
    exact ⟨_, hexec, rfl, rfl, only_settled (only_mono (only_refl s) (by simp) (keysOf_nil _))⟩

/-- A window whose digests both sides hold is compared (R524, R525, Table 20-9). -/
theorem windowCompare_role {s : State} (hrun : s.running = true) {w : Nat} {peer : List DigestFrame} (hc : s.comparing = true)
    (hw : w < s.windowNow) (hd : s.pair.compared ≤ w) (hp : digestsWhole peer = true) :
    ∃ t, exec (.windowCompare w peer) s = .next t ∧ t.pair.compared = w + 1 ∧
      ((∀ p, p ∈ s.comparedPorts → s.windowResidue w peer p = 0 ∨ mapFind s.pair.waits p = none) →
        (∀ p, (p ∈ s.comparedPorts → mapGet t.pair.residual p 0 = s.windowResidue w peer p ∧
            mapFind t.pair.waits p = if s.windowResidue w peer p = 0 then none else some w) ∧
          (p ∉ s.comparedPorts → mapGet t.pair.residual p 0 = mapGet s.pair.residual p 0 ∧
            mapFind t.pair.waits p = mapFind s.pair.waits p)) ∧
        t.pairState = s.pairState ∧ s.only t [.pair] (regsOf ["PAIR_SHIFT_CNT"])) ∧
      (∀ p w0, p ∈ s.comparedPorts → s.windowResidue w peer p ≠ 0 → mapFind s.pair.waits p = some w0 →
        (∀ q, q < p → q ∈ s.comparedPorts → s.windowResidue w peer q = 0 ∨ mapFind s.pair.waits q = none) →
        t.bit Reg.PAIR_STATUS_MISMATCH = true ∧ t.get Reg.PAIR_VERDICT_CAUSE = 1 ∧ t.get Reg.PAIR_VERDICT_PORT = p ∧
        t.get Reg.PAIR_VERDICT_WIN_WINDOW = w0 % 2 ^ 32 ∧
        t.pair.peerErrors = mapPut (s.pair.peerErrors.filter fun e => w ≤ e.1 + 4) w (peer.any (·.intErr), peer.any (·.extErr)) ∧
        ∀ (mine theirs : Nat → Bool × Bool) out mi ti ext, (∀ k, mine k = mapGet s.pair.errors k (false, false)) →
          (∀ k, theirs k = mapGet t.pair.peerErrors k (false, false)) → mi = ((mine w0).1 || (mine (w0 - 1)).1) →
          ti = ((theirs w0).1 || (theirs (w0 - 1)).1) →
          ext = ((mine w0).2 || (mine (w0 - 1)).2 || (theirs w0).2 || (theirs (w0 - 1)).2) →
          out = (if s.pairState = paActive then verdictOf mi ti ext else verdictOf ti mi ext) →
          t.get Reg.PAIR_VERDICT_OUTCOME = out ∧
          (s.pairState = paActive → t.pairState =
            (if out = 1 ∨ (out = 5 ∧ s.bit Reg.PAIR_CTRL_TAKE_UNEXPLAINED = true) then paYielding else paActive)) ∧
          (s.pairState = paStandby → (out = 2 ∨ out = 3 → t.pairState = paStale) ∧
            (out = 4 ∨ (out = 5 ∧ s.bit Reg.PAIR_PEER_TAKE_UNEXPLAINED = false) → t.pairState = paStandby) ∧
            (out = 1 ∨ (out = 5 ∧ s.bit Reg.PAIR_PEER_TAKE_UNEXPLAINED = true) → s.bit Reg.PAIR_STATUS_HOLD_FAULT = false →
              s.holdIn = false → t.pairState = paClaiming))) ∧
      s.only t [.events, .reck, .host, .pair] (regsOf ["RING_CFG", "RING_DEV_INDEX", "PAIR_STATUS", "PAIR_VERDICT",
        "PAIR_VERDICT_WIN", "PAIR_MISMATCH_CNT", "PAIR_SHIFT_CNT", "PAIR_TAKEOVER_CNT"]) := by
  have hexec : exec (.windowCompare w peer) s = .next (s.windowCompare w peer).settle := whenUp_running hrun fun s => s.windowCompare w peer
  have hframe := frame_windowCompare s w peer
  have hfound := (windowPorts_spec s w peer).2.1
  have hfirst := fun p w0 => mismatches_first (s := s) (x := s.windowResidue w peer) (sorted_comparedPorts s) (p := p) (w0 := w0)
  rw [windowCompare_found hc hw hd hp rfl, hfound] at hexec hframe
  cases hl : s.mismatches s.comparedPorts (s.windowResidue w peer) with
  | nil =>
    have hports := windowPorts_keeps s w peer
    obtain ⟨R, W, hpair, -⟩ := (windowPorts_spec s w peer).1
    have hagree := windowPorts_agree (s := s) (w := w) (peer := peer)
    have hcompared : (s.windowPorts w peer).1.pair.compared = w + 1 := by rw [hpair]; rfl
    rw [hl] at hexec hframe
    generalize s.windowPorts w peer = r at *
    refine ⟨_, hexec, hcompared, fun h => ⟨hagree h, ?_, only_settled hports⟩, fun p w0 hon hx hwait hq => ?_, only_settled hframe⟩
    · exact get_pairStatus_of_only hports (a := .ro) (by simp [pairStatusFields]) (by simp)
    · obtain ⟨l, h⟩ := hfirst p w0 hon hx hwait hq
      rw [hl] at h
      cases h
  | cons e l =>
    have honly := only_windowFound s w peer
    obtain ⟨R, W, hpair⟩ := pair_windowFound s w peer
    rw [hl] at hexec hframe
    have hlen : (s.windowPorts w peer).2.length = (e :: l).length := by rw [hfound, hl]
    have hu : (s.windowPorts w peer).1.satAdd Reg.PAIR_MISMATCH_CNT_COUNT (e :: l).length = s.windowFound w peer := by
      rw [State.windowFound, hlen]
    simp only [List.head?_cons, Option.elim_some, hu] at hexec hframe
    generalize s.windowFound w peer = u at *
    obtain ⟨herrors, hcompared⟩ := windows_mismatch u e.1 e.2
    refine ⟨_, hexec, by rw [settle_pair, hcompared, hpair], fun h => ?_, fun p w0 hon hx hwait hq => ?_, only_settled hframe⟩
    · rw [mismatches_nil h] at hl
      cases hl
    · obtain ⟨r, h⟩ := hfirst p w0 hon hx hwait hq
      rw [hl] at h
      have he : e = (p, w0) := (List.cons.inj h).1
      subst he
      have hst : u.pairState = s.pairState := get_pairStatus_of_only honly (a := .ro) (by simp [pairStatusFields]) (by simp)
      have hin : u.holdIn = s.holdIn := bit_pairStatus_of_only honly (a := .ro) (by simp [pairStatusFields]) (by simp)
      have hfault : u.bit Reg.PAIR_STATUS_HOLD_FAULT = s.bit Reg.PAIR_STATUS_HOLD_FAULT :=
        bit_pairStatus_of_only honly (a := .ro) (by simp [pairStatusFields]) (by simp)
      have hmine : u.bit Reg.PAIR_CTRL_TAKE_UNEXPLAINED = s.bit Reg.PAIR_CTRL_TAKE_UNEXPLAINED := by
        rw [State.bit, kept_of_only honly 23 0 0 (List.mem_of_getElem? (i := 0) rfl) (a := .rw) (by simp) (by simp)]
        rfl
      have htheirs : u.bit Reg.PAIR_PEER_TAKE_UNEXPLAINED = s.bit Reg.PAIR_PEER_TAKE_UNEXPLAINED := by
        rw [State.bit, kept_of_only honly 23 0 0 (List.mem_of_getElem? (i := 3) rfl) (a := .ro) (by simp) (by simp)]
        rfl
      obtain ⟨h1, h2, h3, h4, h5⟩ := showsMismatch_mismatch u (mem_comparedPorts.mp hon).1 w0
      have hactive := pairState_mismatch_active (s := u) (p := p) (w := w0)
      have hstandby := pairState_mismatch_standby (s := u) (p := p) (w := w0)
      rw [hst, hmine] at hactive
      rw [hst, htheirs, hfault, hin] at hstandby
      have hout {out : Nat} {mine theirs : Nat → Bool × Bool} := mismatchOut_eq (s := u) (w := w0) (out := out) (mine := mine) (theirs := theirs)
      rw [hst] at hout
      have herrs : u.pair.errors = s.pair.errors := by rw [hpair]
      have hpeer : u.pair.peerErrors = _ := congrArg PairSt.peerErrors hpair
      rw [herrs] at hout
      generalize u.mismatch p w0 = v at *
      refine ⟨bit_of_get_one h1, h2, h3, h4, herrors.trans hpeer, fun mine theirs out mi ti ext hm ht hmi hti hext ho => ?_⟩
      have hresult := hout hm (fun k => (ht k).trans (by rw [settle_pair, herrors])) hmi hti hext ho
      rw [hresult] at h5 hactive hstandby
      exact ⟨h5, hactive, hstandby⟩

/-- Settles O56: heartbeats by what they show of the peer, then what the device does on them and on their loss; HANDOFF; the digests; and the
comparison, where the first port whose residual stays fixes the verdict. -/
theorem heartbeatsDigestsAndVerdicts : Obligations.HeartbeatsDigestsAndVerdicts := by
  unfold Obligations.HeartbeatsDigestsAndVerdicts
  intro s hrun
  refine ⟨fun on_ hon => heartbeatSend_role hrun hon, ?_,
    fun b ok m hm hlinked htype hlen f peer lapse broken hf hp hl hb => heartbeatReceive_valid hrun hm hlinked htype hlen hf hp hl hb, ?_,
    fun hen hf hlost hat => heartbeatLoss_role hrun hen hf hlost hat,
    fun b ok m hm hlinked htype hst hfault harmed => handoffReceive_role hrun hm hlinked htype hst hfault harmed,
    fun w hw hlinked => digestSend_role hrun hw hlinked, ?_⟩
  · intro b ok hm
    have hexec : exec (.heartbeatReceive b ok) s = .next (s.heartbeatReceive b ok).settle := whenUp_running hrun fun s => s.heartbeatReceive b ok
    have hhand : exec (.handoffReceive b ok) s = .next (s.handoffReceive b ok).settle := whenUp_running hrun fun s => s.handoffReceive b ok
    rw [heartbeatReceive_other hm] at hexec
    rw [show s.handoffReceive b ok = s by unfold State.handoffReceive; rw [hm]] at hhand
    refine ⟨fun hlinked hsame => ?_, fun h => ?_, ⟨_, hhand, only_settled (only_refl s)⟩⟩
    · rw [if_pos (by simp [hlinked, hsame])] at hexec
      exact ⟨_, hexec, (bit_settle ..).trans (bit_of_get_one (get_on_self s _ le_rfl)), only_settled (only_set s Reg.PAIR_STATUS_HOLD_FAULT 1)⟩
    · rw [if_neg (by rcases h with h | h <;> simp [h])] at hexec
      exact ⟨_, hexec, only_settled (only_refl s)⟩
  · intro h
    have hexec : exec .heartbeatLoss s = .next s.heartbeatLoss.settle := whenUp_running hrun fun s => s.heartbeatLoss
    rw [heartbeatLoss_waits h] at hexec
    exact ⟨_, hexec, only_settled (only_refl s)⟩
  · intro w peer
    constructor
    · intro h
      have hexec : exec (.windowCompare w peer) s = .next (s.windowCompare w peer).settle := whenUp_running hrun fun s => s.windowCompare w peer
      rw [windowCompare_waits h] at hexec
      exact ⟨_, hexec, only_settled (only_refl s)⟩
    · intro hc hw hd hp x on_ hx hon
      have hxs : x = s.windowResidue w peer := funext hx
      have hmem (p : Nat) : on_ p ↔ p ∈ s.comparedPorts := (hon p).trans mem_comparedPorts.symm
      simp only [hmem, hxs]
      exact windowCompare_role hrun hc hw hd hp

end Sys2Proof.Machine
end

section
/-! Records of a pair and the resync (R518, R520, R530 to R532, Tables 20-4 and 20-5). -/

-- One proof at a time: side by side they take more threads than the memory bound of the check leaves room for.
set_option Elab.async false

namespace Sys2Proof.Machine

/-! ### One record -/

/-- What follows the attempt to apply a record (R518). -/
def State.recordTaken (u : State) (m : MirrorIn) : Applied → State
  | .later => u
  | .broken => u.becomeStale
  | .done v => v.modPair fun p => { p with ack := m.seq, resync := p.resync.map fun r => (r.1, r.2 + b2n (m.type == 4)) }

section Record

variable {s : State} {b : List Byte} {ok : Bool} {m : MirrorIn} (hm : s.mirrorIn b ok = some m) (hlinked : s.mirrorLinked = true)
variable (htype : m.type = 3 ∨ m.type = 4)
include hm hlinked htype

/-- A record out of its turn, or for a role that takes none, tells its ACK alone (R518). -/
theorem recordReceive_skips (h : m.seq ≠ (s.pair.ack + 1) % 2 ^ 32 ∨ (s.pairState ≠ paStandby ∧ s.pairState ≠ paSyncing ∧
    (s.pairState ≠ paActive ∨ beAt m.payload 0 1 ≠ 0 ∨ m.type ≠ 3))) : s.recordReceive b ok = s.takeAck m.ack := by
  obtain ⟨q, a, hq⟩ := pair_takeAck s m.ack
  have hack : (s.takeAck m.ack).pair.ack = s.pair.ack := by rw [hq]
  unfold State.recordReceive
  rw [hm]
  dsimp only
  rw [if_neg (by rcases htype with h | h <;> simp [hlinked, h]), hack]
  refine if_pos ?_
  rcases h with h | ⟨h1, h2, h3⟩
  · have hne : (m.seq != (s.pair.ack + 1) % 2 ^ 32) = true := bne_iff_ne.mpr h
    rw [hne, Bool.or_true]
  · rcases h3 with h3 | h3 | h3 <;> simp [h1, h2, h3]

/-- A record in its turn is applied by a standby or joining device (R518, R532). -/
theorem recordReceive_applies (hseq : m.seq = (s.pair.ack + 1) % 2 ^ 32) (hst : s.pairState = paStandby ∨ s.pairState = paSyncing) :
    s.recordReceive b ok = (s.takeAck m.ack).recordTaken m ((s.takeAck m.ack).applyTable (beAt m.payload 0 1) (m.payload.drop 8)) := by
  obtain ⟨q, a, hq⟩ := pair_takeAck s m.ack
  have hack : (s.takeAck m.ack).pair.ack = s.pair.ack := by rw [hq]
  have hnot : (s.pairState = paActive) = False := by
    refine eq_false fun h => ?_
    rcases hst with h' | h' <;> rw [h'] at h <;> cases h
  unfold State.recordReceive
  rw [hm]
  dsimp only
  rw [if_neg (by rcases htype with h | h <;> simp [hlinked, h]), hack,
    if_neg (by rcases hst with h | h <;> simp [h, hseq])]
  simp only [hnot, decide_false, Bool.false_and, Bool.false_eq_true, if_false]
  generalize (s.takeAck m.ack).applyTable (beAt m.payload 0 1) (m.payload.drop 8) = r
  cases r <;> rfl

end Record

theorem applyTable_contextGone {s : State} {op : Nat} {b : List Byte} (hop : op = 0x34 ∨ op = 0x31) (h : s.contextOf (b.take 48) = none) :
    s.applyTable op b = .broken := by
  rcases hop with rfl | rfl
  · change s.applyContext b true = _
    unfold State.applyContext
    rw [h]
  · change s.applyContext b false = _
    unfold State.applyContext
    rw [h]

/-- A close of a context that is there takes it off. -/
theorem applyTable_close {s : State} {b : List Byte} {i : Nat} {c : Context} (h : s.contextOf (b.take 48) = some (i, c)) :
    ∃ v, s.applyTable 0x34 b = .done v ∧ mapFind v.flow.contexts i = none := by
  refine ⟨((s.setContexts (mapDel s.flow.contexts i)).uncache i).modFlow fun y => { y with closedAt := mapPut y.closedAt i s.cycle },
    (?_ : s.applyContext b true = _), mapFind_del_self s.flow.contexts i⟩
  unfold State.applyContext
  rw [h]
  rfl

/-- An FDB entry that is there is replaced, but for its HIT bit. -/
theorem applyTable_fdb {s : State} {b : List Byte} {p : Nat} {e : FdbEntry}
    (h : fdbFind s.fdb.entries (fdbOf b).vlan (fdbOf b).mac = some (p, e)) (hbad : e.bad = false) :
    ∃ v y, s.applyTable 0x20 b = .done v ∧ mapFind v.fdb.entries p = some y ∧ y.kind = (fdbOf b).kind ∧ y.dest = (fdbOf b).dest ∧
      y.hit = e.hit := by
  have haccess : s.fdbAccess (fdbOf b).vlan (fdbOf b).mac = (some (p, e), false, s) := by
    unfold State.fdbAccess
    rw [h]
    dsimp only
    rw [hbad]
    rfl
  refine ⟨s.fdbPut p { fdbOf b with hit := e.hit, born := s.fdb.changes }, _, (?_ : s.applyFdb b = _), mapFind_put_self _ _ _, rfl, rfl,
    rfl⟩
  unfold State.applyFdb
  dsimp only
  rw [haccess]

/-- STATE_RECORD_RECEIVE (R518, R532). -/
theorem recordReceive_role {s : State} (hrun : s.running = true) {b : List Byte} {ok : Bool} {m : MirrorIn} {u : State} {op : Nat}
    (hm : s.mirrorIn b ok = some m) (hlinked : s.mirrorLinked = true) (htype : m.type = 3 ∨ m.type = 4) (hu : u = s.takeAck m.ack)
    (hop : op = beAt m.payload 0 1) :
    ((m.seq ≠ (s.pair.ack + 1) % 2 ^ 32 ∨ (s.pairState ≠ paStandby ∧ s.pairState ≠ paSyncing ∧
        (s.pairState ≠ paActive ∨ op ≠ 0 ∨ m.type ≠ 3))) →
      ∃ t, exec (.stateRecordReceive b ok) s = .next t ∧ u.only t [] (keysOf [])) ∧
    (m.seq = (s.pair.ack + 1) % 2 ^ 32 → s.pairState = paStandby ∨ s.pairState = paSyncing →
      (u.applyTable op (m.payload.drop 8) = .later → ∃ t, exec (.stateRecordReceive b ok) s = .next t ∧ u.only t [] (keysOf [])) ∧
      (u.applyTable op (m.payload.drop 8) = .broken → ∃ t, exec (.stateRecordReceive b ok) s = .next t ∧ t.pairState = paStale ∧
        t.pair.ack = s.pair.ack ∧ t.fdb = s.fdb ∧ t.flow = s.flow) ∧
      (∀ v, u.applyTable op (m.payload.drop 8) = .done v → ∃ t, exec (.stateRecordReceive b ok) s = .next t ∧ t.pair.ack = m.seq ∧
        v.only t [.pair] (keysOf [])) ∧
      (∀ i c, op = 0x34 → s.contextOf (slice m.payload 8 48) = some (i, c) → ∃ t, exec (.stateRecordReceive b ok) s = .next t ∧
        mapFind t.flow.contexts i = none ∧ t.pair.ack = m.seq) ∧
      ((op = 0x34 ∨ op = 0x31) → s.contextOf (slice m.payload 8 48) = none → ∃ t, exec (.stateRecordReceive b ok) s = .next t ∧
        t.pairState = paStale) ∧
      (∀ p e, op = 0x20 → fdbFind s.fdb.entries (fdbOf (m.payload.drop 8)).vlan (fdbOf (m.payload.drop 8)).mac = some (p, e) → e.bad = false →
        ∃ t y, exec (.stateRecordReceive b ok) s = .next t ∧ mapFind t.fdb.entries p = some y ∧
          y.kind = (fdbOf (m.payload.drop 8)).kind ∧ y.dest = (fdbOf (m.payload.drop 8)).dest ∧ y.hit = e.hit ∧ t.pair.ack = m.seq)) := by
  have hexec : exec (.stateRecordReceive b ok) s = .next (s.recordReceive b ok).settle := whenUp_running hrun fun s => s.recordReceive b ok
  have honly := frame_takeAck s m.ack
  obtain ⟨q, a, hq⟩ := pair_takeAck s m.ack
  have hack : (s.takeAck m.ack).pair.ack = s.pair.ack := by rw [hq]
  subst hu
  subst hop
  constructor
  · intro h
    rw [recordReceive_skips hm hlinked htype h] at hexec
    exact ⟨_, hexec, only_settled (only_refl _)⟩
  · intro hseq hst
    rw [recordReceive_applies hm hlinked htype hseq hst] at hexec
    have hfdb : (s.takeAck m.ack).fdb = s.fdb := honly.1 .fdb (by simp)
    have hflow : (s.takeAck m.ack).flow = s.flow := honly.1 .flow (by simp)
    generalize s.takeAck m.ack = u at *
    have hctx : u.contextOf (slice m.payload 8 48) = s.contextOf (slice m.payload 8 48) := by rw [State.contextOf, hflow]; rfl
    refine ⟨fun h => ?_, fun h => ?_, fun v h => ?_, fun i c hop h => ?_, fun hop h => ?_, fun p e hop h hbad => ?_⟩
    · rw [h] at hexec
      exact ⟨_, hexec, only_settled (only_refl u)⟩
    · rw [h] at hexec
      have hframe := frame_becomeStale u
      obtain ⟨x, r, w, hp⟩ := pair_becomeStale u
      have hstale : u.becomeStale.pair.ack = s.pair.ack := by rw [hp]; exact hack
      exact ⟨_, hexec, pairState_becomeStale u, hstale, (hframe.1 .fdb (by simp) : u.becomeStale.fdb = u.fdb).trans hfdb,
        (hframe.1 .flow (by simp) : u.becomeStale.flow = u.flow).trans hflow⟩
    · rw [h] at hexec
      exact ⟨_, hexec, rfl, only_settled (keep_modPair _ (only_mono (only_refl v) (by simp) (keysOf_nil _)) (by simp))⟩
    · obtain ⟨v, hv, hgone⟩ := applyTable_close (hctx.trans h)
      rw [hop, hv] at hexec
      exact ⟨_, hexec, hgone, rfl⟩
    · rw [applyTable_contextGone hop (hctx.trans h)] at hexec
      exact ⟨_, hexec, pairState_becomeStale u⟩
    · rw [← hfdb] at h
      obtain ⟨v, y, hv, hfind, hkind, hdest, hhit⟩ := applyTable_fdb h hbad
      rw [hop, hv] at hexec
      exact ⟨_, y, hexec, hfind, hkind, hdest, hhit, rfl⟩

/-! ### Records sent again, and Tally that follows the role -/

/-- A queued record as a frame. -/
def State.queuedFrame (s : State) (r : Nat × Nat × List Byte) : List Byte := s.mirrorBytes r.2.1 r.1 r.2.2

theorem queuedFrame_sending (s : State) (r : Nat × Nat × List Byte) (l : List (List Byte)) : (s.sending l).queuedFrame r = s.queuedFrame r :=
  mirrorBytes_congr rfl rfl _ _ _

/-- An active device sends its records again when their ACK does not advance (R520). -/
theorem stateResend_role {s : State} (hrun : s.running = true) (hne : s.pair.queue ≠ []) (hat : s.pair.ackAt + 4 * usCycles ≤ s.cycle) :
    ∃ t, exec .stateResend s = .next t ∧
      s.counted t Reg.PAIR_RETX_CNT_COUNT ∧ t.pair.queue = s.pair.queue ∧ t.pair.ackAt = s.cycle ∧
      (s.bit Reg.PAIR_STATUS_LINK_UP = true → s.mirrorIdle = false →
        t.pair.sent = s.pair.sent ++ s.pair.queue.map fun r => s.mirrorBytes r.2.1 r.1 r.2.2) ∧
      s.only t [.pair] (keysOf [Reg.PAIR_RETX_CNT_COUNT]) := by
  have hexec : exec .stateResend s = .next s.stateResend.settle := whenUp_running hrun fun s => s.stateResend
  have hsent : ∃ l, s.pair.queue.foldl (fun s r => s.mirrorSend (s.queuedFrame r)) s = s.sending l ∧
      (s.bit Reg.PAIR_STATUS_LINK_UP = true → s.mirrorIdle = false → l = s.pair.sent ++ s.pair.queue.map s.queuedFrame) := by
    by_cases hon : s.bit Reg.PAIR_STATUS_LINK_UP = true ∧ s.mirrorIdle = false
    · exact ⟨_, mirrorSends State.queuedFrame queuedFrame_sending hon.1 hon.2 s.pair.queue, fun _ _ => rfl⟩
    · refine ⟨s.pair.sent, mirrorSends_idle State.queuedFrame ?_ s.pair.queue, fun h1 h2 => absurd ⟨h1, h2⟩ hon⟩
      cases h : s.bit Reg.PAIR_STATUS_LINK_UP with
      | false => exact .inl rfl
      | true => exact .inr (by simpa [h] using hon)
  obtain ⟨l, hl, hon⟩ := hsent
  have heq : s.stateResend = ((s.sending l).modPair fun p => { p with ackAt := s.cycle }).satAdd Reg.PAIR_RETX_CNT_COUNT 1 := by
    unfold State.stateResend
    rw [if_neg (by simp [hne, hat])]
    exact congrArg (fun u : State => (u.modPair fun p => { p with ackAt := u.cycle }).satAdd Reg.PAIR_RETX_CNT_COUNT 1) hl
  rw [heq] at hexec
  refine ⟨_, hexec, get_satAdd_self _ _ _, rfl, rfl, hon, only_settled ?_⟩
  exact keep_set _ _ (keep_modPair _ (keep_modPair _ (only_mono (only_refl s) (by simp) (keysOf_nil _)) (by simp)) (by simp)) (by simp [keysOf])

theorem stateResend_waits {s : State} (h : s.pair.queue = [] ∨ s.cycle < s.pair.ackAt + 4 * usCycles) : s.stateResend = s := by
  unfold State.stateResend
  refine if_pos ?_
  rcases h with h | h <;> simp [h]

theorem tallyEnable_enableTally (s : State) : s.enableTally.bit Reg.TALLY_CTRL_ENABLE = true := by
  unfold State.enableTally
  split
  next h => exact h
  · refine bit_of_get_one ?_
    rw [get_tallyEnable_of_only (frame_syncTally _) (by simp), get_tallyEnable_of_only (frame_tallyOn _) (by simp)]
    exact get_on_self _ _ le_rfl

/-- A new active enables Tally itself when the FINAL head does not come (R530). -/
theorem followTimeout_role {s : State} (hrun : s.running = true) (hst : s.pairState = paActive) (hfollow : s.pair.follow = true) :
    (s.pair.activeAt + 50 * usCycles ≤ s.cycle → ∃ t, exec .tallyFollowTimeout s = .next t ∧ t.bit Reg.TALLY_CTRL_ENABLE = true ∧
      t.pair.follow = false ∧ s.only t [.tally, .pair] (regsOf ["TALLY_CTRL", "TALLY_STATUS", "TALLY_RING_LEVEL",
        "TALLY_SEAL_INDEX_LO", "TALLY_SEAL_INDEX_HI"])) ∧
    (s.cycle < s.pair.activeAt + 50 * usCycles → ∃ t, exec .tallyFollowTimeout s = .next t ∧ s.only t [] (keysOf [])) := by
  have hexec : exec .tallyFollowTimeout s = .next s.followTimeout.settle := whenUp_running hrun fun s => s.followTimeout
  constructor
  · intro h
    have hframe := frame_followTimeout s
    have heq : s.followTimeout = (s.modPair fun p => { p with follow := false }).enableTally := by
      unfold State.followTimeout
      rw [if_pos (by simp [hst, hfollow, h])]
    have hpair : (s.modPair fun p => { p with follow := false }).enableTally.pair = (s.modPair fun p => { p with follow := false }).pair :=
      (frame_enableTally _).1 .pair (by simp)
    have hon := tallyEnable_enableTally (s.modPair fun p => { p with follow := false })
    rw [heq] at hexec hframe
    exact ⟨_, hexec, hon, (congrArg PairSt.follow hpair : _), only_settled hframe⟩
  · intro h
    have heq : s.followTimeout = s := by
      unfold State.followTimeout
      exact if_neg (by simp [hst, hfollow, h])
    rw [heq] at hexec
    exact ⟨_, hexec, only_settled (only_refl s)⟩

end Sys2Proof.Machine
end

section
/-! The resync of a pair (R531, R532). -/

-- One proof at a time: side by side they take more threads than the memory bound of the check leaves room for.
set_option Elab.async false

namespace Sys2Proof.Machine

/-! ### The tables of a joining device -/

theorem clearRules_rules (s : State) : s.clearRules.rules.changes = [] ∧ s.clearRules.rules.comparators = [] := ⟨rfl, rfl⟩

theorem clearContexts_contexts (s : State) : s.clearContexts.flow.contexts = [] := rfl

theorem clearGroups_groups (s : State) : s.clearGroups.mcast.groups = [] := rfl

/-- The steps of a fold that keep a part of the state keep it together. -/
theorem foldl_keeps {α β : Type} (g : State → β) (f : State → α → State) (h : ∀ s x, g (f s x) = g s) (l : List α) (s : State) :
    g (l.foldl f s) = g s := by
  induction l generalizing s with
  | nil => rfl
  | cons x l ih => exact (ih _).trans (h s x)

/-- The state whose rules, forwarding tables and groups are cleared, before its policers, shapers and gates are. -/
def State.tablesGone (s : State) : State := ((s.clearRules.setFdb []).setLpm ⟨[], [], 0⟩).clearContexts.clearGroups

/-- The same with its policers and shapers gone. -/
def State.metersGone (s : State) : State := s.tablesGone.modTm fun t => { t with policers := [], shapers := [] }

theorem clearTables_eq (s : State) : s.clearTables =
    (s.metersGone.tm.gates.map (·.1)).foldl (fun s p => State.syncGate (s.setGate p gate0) p) s.metersGone := rfl

theorem only_gatesGone (s : State) : s.metersGone.only s.clearTables [.tm] (regsOf ["TM_GATE_STATUS"]) := by
  rw [clearTables_eq]
  exact only_foldl _ (fun s p => keep_of (frame_syncGate _ p) (only_widen (frame_setGate s p gate0) (by simp) (by simp)) (by simp) (by simp)) _ _

theorem metersGone_tables (s : State) : s.metersGone.fdb.entries = [] ∧ s.metersGone.lpm = ⟨[], [], 0⟩ ∧ s.metersGone.flow.contexts = [] ∧
    s.metersGone.mcast.groups = [] := by
  have hgroups (u : State) : u.clearGroups.fdb = u.fdb ∧ u.clearGroups.lpm = u.lpm ∧ u.clearGroups.flow = u.flow :=
    ⟨(frame_clearGroups u).1 .fdb (by simp), (frame_clearGroups u).1 .lpm (by simp), (frame_clearGroups u).1 .flow (by simp)⟩
  obtain ⟨h1, h2, h3⟩ := hgroups ((s.clearRules.setFdb []).setLpm ⟨[], [], 0⟩).clearContexts
  refine ⟨?_, ?_, ?_, rfl⟩
  · exact (congrArg FdbSt.entries h1 : _)
  · exact h2
  · exact (congrArg FlowSt.contexts h3 : _)

theorem metersGone_rules (s : State) : s.metersGone.rules = s.clearRules.rules := by
  have hframe : s.clearRules.only s.tablesGone [.fdb, .lpm, .flow, .mcast, .span] (regsOf ["FDB_USED", "LPM_USED", "LPM_V4_COUNT",
      "LPM_V6_COUNT", "FLOW_USED", "MCAST_MEMBERS_USED"]) :=
    keep_of (frame_clearGroups _) (keep_of (frame_clearContexts _) (keep_of (frame_setLpm _ _) (only_widen (frame_setFdb _ _) (by simp) (by simp))
      (by simp) (by simp)) (by simp) (by simp)) (by simp) (by simp)
  exact hframe.1 .rules (by simp)

/-- The tables of a device that joins its peer are empty (R531). -/
theorem clearTables_tables (s : State) : s.clearTables.fdb.entries = [] ∧ s.clearTables.lpm = ⟨[], [], 0⟩ ∧
    s.clearTables.flow.contexts = [] ∧ s.clearTables.mcast.groups = [] ∧ s.clearTables.tm.policers = [] ∧ s.clearTables.tm.shapers = [] ∧
    s.clearTables.rules.changes = [] ∧ s.clearTables.rules.comparators = [] := by
  have hframe := only_gatesGone s
  obtain ⟨h1, h2, h3, h4⟩ := metersGone_tables s
  obtain ⟨h5, h6⟩ := clearRules_rules s
  have hfdb : s.clearTables.fdb = s.metersGone.fdb := hframe.1 .fdb (by simp)
  have hlpm : s.clearTables.lpm = s.metersGone.lpm := hframe.1 .lpm (by simp)
  have hflow : s.clearTables.flow = s.metersGone.flow := hframe.1 .flow (by simp)
  have hmcast : s.clearTables.mcast = s.metersGone.mcast := hframe.1 .mcast (by simp)
  have hrules : s.clearTables.rules = s.metersGone.rules := hframe.1 .rules (by simp)
  have hpol : s.clearTables.tm.policers = [] := by
    rw [clearTables_eq, foldl_keeps (fun s => s.tm.policers) _ fun u p => ?_]
    · rfl
    · have h : (State.syncGate (u.setGate p gate0) p).tm = (u.setGate p gate0).tm := (frame_syncGate _ p).1 .tm (by simp)
      rw [h]
      rfl
  have hshape : s.clearTables.tm.shapers = [] := by
    rw [clearTables_eq, foldl_keeps (fun s => s.tm.shapers) _ fun u p => ?_]
    · rfl
    · have h : (State.syncGate (u.setGate p gate0) p).tm = (u.setGate p gate0).tm := (frame_syncGate _ p).1 .tm (by simp)
      rw [h]
      rfl
  rw [hfdb, hlpm, hflow, hmcast, hrules, metersGone_rules]
  exact ⟨h1, h2, h3, h4, hpol, hshape, h5, h6⟩

/-! ### PAIR_RESYNC -/

theorem exec_pairResync {s : State} {c : CmdIn} (h : s.accepts 0x68 c) : exec (.pairResync c) s = .next (s.pairResync c).settle := by
  obtain ⟨hrun, hlo, hhi, -⟩ := h
  exact (onRing_ok hlo hhi _).trans (whenUp_running hrun fun s => s.pairResync c)

section Resync

variable {s : State} {c : CmdIn} (h : s.accepts 0x68 c) (hnew : ∀ d n, s.pair.resync = some (d, n) → d ≠ c)
include h hnew

/-- An accepted resync goes by the states of both devices (R531). -/
theorem pairResync_accepted : s.pairResync c =
    if s.pairState = paStandby then (s.endOwn .pairResync c).complete 0x68 c { CmdRes.ok with result := leBytes 4 0 }
    else if drivesHold s.pairState || s.pairState = paSyncing then (s.endOwn .pairResync c).complete 0x68 c (CmdRes.of .busy)
    else if s.get Reg.PAIR_PEER_STATE != paActive || (s.pairState != paDetached && s.pairState != paStale) then
      (s.endOwn .pairResync c).complete 0x68 c (CmdRes.of .retry)
    else (s.clearTables.modPair fun p => { p with resync := some (c, 0), ack := 0 }).setRole paSyncing := by
  obtain ⟨-, -, -, -, o, ho, hgate⟩ := h
  unfold State.pairResync
  rw [ho]
  dsimp only
  rw [hgate]
  dsimp only
  refine if_neg ?_
  cases hr : s.pair.resync with
  | none => simp
  | some x => simpa using hnew x.1 x.2 hr

omit hnew in
/-- What only completes ends its routine. -/
theorem pairResync_ends {r : CmdRes} (heq : s.pairResync c = (s.endOwn .pairResync c).complete 0x68 c r) :
    s.ends (.pairResync c) 0x68 c r [.reck] (keysOf []) fun _ => True := by
  have hexec := exec_pairResync h
  rw [heq] at hexec
  exact ends_of_acts hexec (only_mono (frame_endOwn s .pairResync c) (by simp) (by simp [regsOf])) rfl fun _ _ => trivial

theorem pairResync_starts (hpeer : s.get Reg.PAIR_PEER_STATE = paActive) (hst : s.pairState = paDetached ∨ s.pairState = paStale) :
    s.pairResync c = (s.clearTables.modPair fun p => { p with resync := some (c, 0), ack := 0 }).setRole paSyncing := by
  have hdrives : drivesHold s.pairState = false := by rcases hst with h | h <;> rw [h] <;> rfl
  have h1 : s.pairState ≠ paStandby := by rcases hst with h | h <;> rw [h] <;> decide
  have h2 : s.pairState ≠ paSyncing := by rcases hst with h | h <;> rw [h] <;> decide
  rw [pairResync_accepted h hnew, if_neg h1, if_neg (by simp [hdrives, h2]), if_neg (by rcases hst with h | h <;> simp [hpeer, h])]

/-- PAIR_RESYNC (R531). -/
theorem pairResync_role :
    (s.pairState = paStandby → s.ends (.pairResync c) 0x68 c { CmdRes.ok with result := leBytes 4 0 } [.reck] (keysOf [])
      fun _ => True) ∧
    (s.pairState = paSyncing ∨ drivesHold s.pairState = true → s.ends (.pairResync c) 0x68 c (CmdRes.of .busy) [.reck] (keysOf [])
      fun _ => True) ∧
    (s.get Reg.PAIR_PEER_STATE ≠ paActive → s.pairState = paDetached ∨ s.pairState = paStale →
      s.ends (.pairResync c) 0x68 c (CmdRes.of .retry) [.reck] (keysOf []) fun _ => True) ∧
    (s.get Reg.PAIR_PEER_STATE = paActive → s.pairState = paDetached ∨ s.pairState = paStale →
      ∃ t, exec (.pairResync c) s = .next t ∧ t.pairState = paSyncing ∧ t.pair.resync = some (c, 0) ∧ t.pair.ack = 0 ∧
        t.fdb.entries = [] ∧ t.lpm = ⟨[], [], 0⟩ ∧ t.flow.contexts = [] ∧ t.mcast.groups = [] ∧ t.tm.policers = [] ∧ t.tm.shapers = [] ∧
        t.rules.changes = [] ∧ t.rules.comparators = [] ∧ t.host = s.host ∧
        s.only t [.events, .reck, .rules, .fdb, .lpm, .flow, .mcast, .tm, .host, .pair, .span] (regsOf ["RULE_STORE_USED",
          "RULE_STAGE_STATUS", "FDB_USED", "LPM_USED", "LPM_V4_COUNT", "LPM_V6_COUNT", "FLOW_USED", "MCAST_MEMBERS_USED",
          "TM_GATE_STATUS", "RING_CFG", "RING_DEV_INDEX", "PAIR_STATUS"])) := by
  refine ⟨fun hst => ?_, fun hst => ?_, fun hpeer hst => ?_, fun hpeer hst => ?_⟩
  · exact pairResync_ends h (by rw [pairResync_accepted h hnew, if_pos hst])
  · have hne : s.pairState ≠ paStandby := by
      rintro e
      rw [e] at hst
      rcases hst with h | h <;> cases h
    exact pairResync_ends h (by
      rw [pairResync_accepted h hnew, if_neg hne, if_pos (by rcases hst with h | h <;> simp [h])])
  · have hdrives : drivesHold s.pairState = false := by rcases hst with h | h <;> rw [h] <;> rfl
    have h1 : s.pairState ≠ paStandby := by rcases hst with h | h <;> rw [h] <;> decide
    have h2 : s.pairState ≠ paSyncing := by rcases hst with h | h <;> rw [h] <;> decide
    exact pairResync_ends h (by
      rw [pairResync_accepted h hnew, if_neg h1, if_neg (by simp [hdrives, h2]), if_pos (by simp [hpeer])])
  · have hexec := exec_pairResync h
    have hframe := frame_pairResync s c
    rw [pairResync_starts h hnew hpeer hst] at hexec hframe
    obtain ⟨k1, k2, k3, k4, k5, k6, k7, k8⟩ := clearTables_tables s
    have hhost : s.clearTables.host = s.host := (frame_clearTables s).1 .host (by simp)
    obtain ⟨u, hu⟩ : ∃ u, u = s.clearTables.modPair fun p => { p with resync := some (c, 0), ack := 0 } := ⟨_, rfl⟩
    have hparts : u.fdb = s.clearTables.fdb ∧ u.lpm = s.clearTables.lpm ∧ u.flow = s.clearTables.flow ∧ u.mcast = s.clearTables.mcast ∧
        u.tm = s.clearTables.tm ∧ u.rules = s.clearTables.rules ∧ u.host = s.clearTables.host := by
      rw [hu]
      exact ⟨rfl, rfl, rfl, rfl, rfl, rfl, rfl⟩
    have hpair : u.pair.resync = some (c, 0) ∧ u.pair.ack = 0 := by
      rw [hu]
      exact ⟨rfl, rfl⟩
    rw [← hu] at hexec hframe
    obtain ⟨e1, e2, e3, e4, e5, e6, e7⟩ := hparts
    obtain ⟨m, r, w, hrole⟩ := pair_setRole u paSyncing
    have honly := frame_setRole u paSyncing
    have hfdb : (u.setRole paSyncing).fdb = u.fdb := honly.1 .fdb (by simp)
    have hlpm : (u.setRole paSyncing).lpm = u.lpm := honly.1 .lpm (by simp)
    have hflow : (u.setRole paSyncing).flow = u.flow := honly.1 .flow (by simp)
    have hmcast : (u.setRole paSyncing).mcast = u.mcast := honly.1 .mcast (by simp)
    have htm : (u.setRole paSyncing).tm = u.tm := honly.1 .tm (by simp)
    have hrules : (u.setRole paSyncing).rules = u.rules := honly.1 .rules (by simp)
    have hhost' : (u.setRole paSyncing).host = u.host := honly.1 .host (by simp)
    have hstate := pairState_setRole u (st := paSyncing) (by decide)
    have hresync : (u.setRole paSyncing).pair.resync = some (c, 0) := by rw [hrole]; exact hpair.1
    have hack : (u.setRole paSyncing).pair.ack = 0 := by rw [hrole]; exact hpair.2
    generalize u.setRole paSyncing = v at *
    refine ⟨_, hexec, hstate, hresync, hack, ?_, ?_, ?_, ?_, ?_, ?_, ?_, ?_, hhost'.trans (e7.trans hhost), only_settled hframe⟩
    · rw [settle_fdb, hfdb, e1, k1]
    · rw [settle_lpm, hlpm, e2, k2]
    · rw [settle_flow, hflow, e3, k3]
    · rw [settle_mcast, hmcast, e4, k4]
    · rw [settle_tm, htm, e5, k5]
    · rw [settle_tm, htm, e5, k6]
    · rw [settle_rules, hrules, e6, k7]
    · rw [settle_rules, hrules, e6, k8]

end Resync

/-! ### The end of the copy -/

/-- No entry of the two tables whose items the walk checks fails its parity. -/
def State.walkClean (s : State) : Prop := (∀ e ∈ s.fdb.entries, e.2.bad = false) ∧ ∀ e ∈ s.lpm.entries, e.bad = false

theorem itemCheck_clean {s : State} (h : s.walkClean) (w : Nat × List Byte) : s.itemCheck w = s := by
  unfold State.itemCheck
  split
  · unfold State.fdbAccess
    split
    next p e hfind =>
      rw [h.1 (p, e) (mem_of_mapFind (fdbFind_some hfind).1)]
      rfl
    · rfl
  · unfold State.lpmAccess
    split
    next e hfind =>
      rw [h.2 e (List.mem_of_find?_eq_some hfind)]
      rfl
    · rfl
  · rfl

/-- The records of one item are sent. -/
def State.sendItem (s : State) (w : Nat × List Byte) : State :=
  (s.itemRecords w).foldl (fun s r => if s.pair.streamLost then s else s.sendRecord 4 r.1 r.2) s

/-- The walk goes on behind an item. -/
def State.walkOn (s : State) (l : List (Nat × List Byte)) : State := s.modPair fun p => { p with walk := if p.streamLost then none else some l }

theorem only_sendItem (s : State) (w : Nat × List Byte) : s.only (s.sendItem w) [.pair] (regsOf ["PAIR_MIRROR_LEVEL"]) := by
  refine only_foldl _ (fun u r => ?_) _ s
  split
  · exact only_id u _ _
  · exact frame_sendRecord u 4 r.1 r.2

theorem only_walkOn (s : State) (l : List (Nat × List Byte)) : s.only (s.walkOn l) [.pair] (regsOf ["PAIR_MIRROR_LEVEL"]) :=
  keep_modPair _ (only_id s _ _) (by simp)

theorem bulkSend_cons {n : Nat} {s : State} {w : Nat × List Byte} {l : List (Nat × List Byte)} (h : s.pair.walk = some (w :: l)) :
    bulkSend (n + 1) s = bulkSend n (((s.itemCheck w).sendItem w).walkOn l) := by
  rw [bulkSend, h]
  rfl

theorem walkClean_of_only {s t : State} {P : List Part} {Q : Nat → Prop} (h : s.only t P Q) (hfdb : Part.fdb ∉ P) (hlpm : Part.lpm ∉ P)
    (hc : s.walkClean) : t.walkClean := by
  have h1 : t.fdb = s.fdb := h.1 .fdb hfdb
  have h2 : t.lpm = s.lpm := h.1 .lpm hlpm
  rw [State.walkClean, h1, h2]
  exact hc

/-- Over tables without failing entries the walk only sends (R532). -/
theorem only_bulkSend_clean (n : Nat) (s : State) (h : s.walkClean) : s.only (bulkSend n s) [.pair] (regsOf ["PAIR_MIRROR_LEVEL"]) := by
  induction n generalizing s with
  | zero => exact only_id s _ _
  | succ n ih =>
    rcases hwalk : s.pair.walk with _ | _ | ⟨w, l⟩
    · unfold bulkSend
      rw [hwalk]
      exact only_id s _ _
    · unfold bulkSend
      rw [hwalk]
      exact only_id s _ _
    · rw [bulkSend_cons hwalk, itemCheck_clean h]
      have hstep := only_then (only_sendItem s w) (only_walkOn _ l)
      exact only_then hstep (ih _ (walkClean_of_only hstep (by simp) (by simp) h))

theorem runsRoutine_endRoutine (s : State) (k : RoutineKind) : (s.endRoutine (· == k)).runsRoutine k = false := by
  simp [State.runsRoutine, State.endRoutine]

theorem pair_resync_enterStandby (s : State) : s.enterStandby.pair.resync = s.pair.resync := by
  obtain ⟨m, r, w, h⟩ := pair_enterStandby s
  rw [h]
  rfl

/-- What the end of the resync leaves of a device that stands by. -/
theorem endResync_standby {u : State} {c : CmdIn} {n : Nat} (r : CmdRes) (hr : u.pair.resync = some (c, n)) (hst : u.pairState = paStandby)
    (htally : u.bit Reg.TALLY_CTRL_ENABLE = false) :
    (u.endResync r).pairState = paStandby ∧ (u.endResync r).pair.resync = none ∧ (u.endResync r).bit Reg.TALLY_CTRL_ENABLE = false ∧
      (u.endResync r).completed 0x68 c r := by
  have hend := frame_endResync u r
  refine ⟨(get_endResync_pairStatus u r (a := .ro) (by simp [pairStatusFields])).trans hst, by rw [pair_endResync], ?_, ?_⟩
  · rw [State.bit, get_tallyEnable_of_only hend (by simp)]
    exact htally
  · unfold State.endResync
    rw [hr]
    exact (complete_spec _ 0x68 c r).2

/-- RESYNC_COMPLETE of the joining device (R531). -/
theorem resyncComplete_joins {s : State} (hrun : s.running = true) {c : CmdIn} {n : Nat} (hwalk : s.pair.walk = none)
    (hresync : s.pair.resync = some (c, n)) (hst : s.pairState = paSyncing) : ∃ t, exec .resyncComplete s = .next t ∧
    t.pairState = paStandby ∧ t.pair.resync = none ∧ t.bit Reg.TALLY_CTRL_ENABLE = false ∧
    t.completed 0x68 c { CmdRes.ok with result := leBytes 4 n } ∧
    s.only t [.events, .reck, .tally, .host, .pair] (regsOf ["TALLY_CTRL", "RING_CFG", "RING_DEV_INDEX", "PAIR_STATUS"]) := by
  have hexec : exec .resyncComplete s = .next s.resyncComplete.settle := whenUp_running hrun fun s => s.resyncComplete
  have heq : s.resyncComplete = s.enterStandby.endResync { CmdRes.ok with result := leBytes 4 n } := by
    unfold State.resyncComplete
    rw [hwalk, hresync]
    dsimp only
    rw [if_pos hst]
  rw [heq] at hexec
  generalize { CmdRes.ok with result := leBytes 4 n } = r at hexec ⊢
  have hmain := endResync_standby r ((pair_resync_enterStandby s).trans hresync) (pairState_enterStandby s) (tallyEnable_enterStandby s)
  have hframe : s.only (s.enterStandby.endResync r) [.events, .reck, .tally, .host, .pair]
      (regsOf ["TALLY_CTRL", "RING_CFG", "RING_DEV_INDEX", "PAIR_STATUS"]) :=
    keep_of (frame_endResync _ r) (only_widen (frame_enterStandby s) (by simp) (by simp)) (by simp) (by simp)
  obtain ⟨hstate, hnone, htally, hdone⟩ := hmain
  generalize s.enterStandby.endResync r = v at *
  exact ⟨_, hexec, hstate, hnone, htally, hdone, only_settled hframe⟩

/-- RESYNC_COMPLETE of the active device (R532). -/
theorem resyncComplete_walks {s : State} (hrun : s.running = true) {l : List (Nat × List Byte)} (hwalk : s.pair.walk = some l) :
    ∃ t, exec .resyncComplete s = .next t ∧ t.pair.walk = none ∧ t.runsRoutine .pairResync = false ∧
      t.pairState = s.pairState ∧
      ((∀ e ∈ s.fdb.entries, e.2.bad = false) → (∀ e ∈ s.lpm.entries, e.bad = false) →
        s.only t [.reck, .pair] (regsOf ["PAIR_MIRROR_LEVEL"])) ∧
      s.only t [.reck, .fdb, .lpm, .pair] (regsOf ["PAIR_MIRROR_LEVEL", "FDB_STATUS", "FDB_USED", "FDB_PARITY_LOC", "FDB_PARITY_CNT",
        "LPM_STATUS", "LPM_USED", "LPM_V4_COUNT", "LPM_V6_COUNT", "LPM_PARITY_LOC", "LPM_PARITY_CNT"]) := by
  have hexec : exec .resyncComplete s = .next s.resyncComplete.settle := whenUp_running hrun fun s => s.resyncComplete
  have heq : s.resyncComplete = (bulkSend l.length s).endBulk := by
    unfold State.resyncComplete
    rw [hwalk]
  have hclean := fun h h' => only_bulkSend_clean l.length s ⟨h, h'⟩
  have hframe := frame_bulkSend l.length s
  rw [heq] at hexec
  generalize bulkSend l.length s = u at *
  have hend := frame_endBulk u
  refine ⟨_, hexec, rfl, runsRoutine_endRoutine _ _, ?_, fun h h' => only_settled ?_, only_settled ?_⟩
  · exact (get_pairStatus_of_only hend (a := .ro) (by simp [pairStatusFields]) (by simp)).trans
      (get_pairStatus_of_only hframe (a := .ro) (by simp [pairStatusFields]) (by simp))
  · exact keep_of hend (only_widen (hclean h h') (by simp) (by simp)) (by simp) (by simp)
  · exact keep_of hend (only_widen hframe (by simp) (by simp)) (by simp) (by simp)

/-- Settles O57: records by their turn and by what becomes of them, the records sent again, Tally that follows the role, and the two ends of a
resync. -/
theorem recordsMirrorTheTablesAndResyncCopiesThem : Obligations.RecordsMirrorTheTablesAndResyncCopiesThem := by
  unfold Obligations.RecordsMirrorTheTablesAndResyncCopiesThem
  intro s hrun
  refine ⟨fun b ok m u op hm hlinked htype hu hop => recordReceive_role hrun hm hlinked htype hu hop,
    fun hne hat => stateResend_role hrun hne hat, fun h => ?_, fun hst hfollow => followTimeout_role hrun hst hfollow,
    fun c h hnew => pairResync_role h hnew, fun c n hwalk hresync hst => resyncComplete_joins hrun hwalk hresync hst,
    fun l hwalk => resyncComplete_walks hrun hwalk, fun hwalk hresync => ?_⟩
  · have hexec : exec .stateResend s = .next s.stateResend.settle := whenUp_running hrun fun s => s.stateResend
    rw [stateResend_waits h] at hexec
    exact ⟨_, hexec, only_settled (only_refl s)⟩
  · have hexec : exec .resyncComplete s = .next s.resyncComplete.settle := whenUp_running hrun fun s => s.resyncComplete
    have heq : s.resyncComplete = s := by
      unfold State.resyncComplete
      rw [hwalk, hresync]
    rw [heq] at hexec
    exact ⟨_, hexec, only_settled (only_refl s)⟩

end Sys2Proof.Machine
end

section
/-! Events (R456 to R462): the conditions of the sources, and one scan of a block. -/

-- One proof at a time: side by side they take more threads than the memory bound of the check leaves room for.
set_option Elab.async false

namespace Sys2Proof.Machine

/-! ### One bit of a word -/

/-- A number above `i` bits, whose lowest bit there is set, loses that bit. -/
theorem testBit_two_pow_mul_pred_add {i a r : Nat} (ha : a % 2 = 1) (hr : r < 2 ^ i) (j : Nat) :
    (2 ^ i * (a - 1) + r).testBit j = ((2 ^ i * a + r).testBit j && !decide (j = i)) := by
  rw [Nat.testBit_two_pow_mul_add _ hr, Nat.testBit_two_pow_mul_add _ hr]
  rcases Nat.lt_trichotomy j i with hj | hj | hj
  · simp [hj, Nat.ne_of_lt hj]
  · simp [hj, Nat.testBit_zero]
    omega
  · obtain ⟨k, hk⟩ : ∃ k, j - i = k + 1 := ⟨j - i - 1, by omega⟩
    have hhalf : (a - 1) / 2 = a / 2 := by omega
    simp [Nat.not_lt_of_lt hj, hk, Nat.testBit_add_one, hhalf, Nat.ne_of_gt hj]

theorem testBit_clrBit (w i j : Nat) : (clrBit w i).testBit j = (w.testBit j && !decide (j = i)) := by
  unfold clrBit
  split
  next h =>
    have hodd : w / 2 ^ i % 2 = 1 := by simpa [Nat.testBit, Nat.shiftRight_eq_div_pow] using h
    have hlt : w % 2 ^ i < 2 ^ i := Nat.mod_lt _ (Nat.two_pow_pos i)
    have hw : 2 ^ i * (w / 2 ^ i) + w % 2 ^ i = w := Nat.div_add_mod w (2 ^ i)
    have hle : 2 ^ i ≤ 2 ^ i * (w / 2 ^ i) := Nat.le_mul_of_pos_right _ (Nat.pos_of_ne_zero fun e => by simp [e] at hodd)
    have hsub : w - 2 ^ i = 2 ^ i * (w / 2 ^ i - 1) + w % 2 ^ i := by
      rw [Nat.mul_sub_one]
      omega
    rw [hsub, testBit_two_pow_mul_pred_add hodd hlt, hw]
  next h =>
    by_cases hj : j = i
    · subst hj
      simpa using h
    · simp [hj]

theorem testBit_setBit (w i j : Nat) : (setBit w i).testBit j = (w.testBit j || decide (j = i)) := by
  rw [setBit, Nat.testBit_or, Nat.one_shiftLeft, Nat.testBit_two_pow]
  simp [eq_comm]

/-- What a field of `w` bits shows after one of its bits is written. -/
theorem bitOf_putBit (s : State) (f : Fld) {i j : Nat} (b : Bool) (hj : j < f.width) :
    bitOf ((s.putBit f i b).get f) j = if j = i then b else bitOf (s.get f) j := by
  unfold State.putBit
  rw [get_set_self, bitOf, Nat.testBit_mod_two_pow]
  cases b
  · by_cases hi : i = j <;> simp [testBit_clrBit, hj, hi, bitOf, eq_comm (a := j)]
  · by_cases hi : i = j <;> simp [testBit_setBit, hj, hi, bitOf, eq_comm (a := j)]

/-! ### What the conditions read -/

/-- A field outside the EVT page. -/
def offEvents (f : Fld) : Bool := decide (f.lo < 32) && f.addr / 0x100000 != 0x14

/-- The two states agree in all that the conditions of the sources read. -/
structure State.SameConditions (s t : State) : Prop where
  get : ∀ f : Fld, offEvents f = true → t.get f = s.get f
  die : t.die = s.die
  stamp : t.stamp = s.stamp
  tally : t.tally = s.tally
  dram : t.dram = s.dram

section Conditions

variable {s t : State} (h : s.SameConditions t)
include h

theorem bit_sameConditions (f : Fld) (hf : offEvents f = true) : t.bit f = s.bit f := by rw [State.bit, State.bit, h.get f hf]

theorem anyOf_sameConditions (l : List Fld) (hl : ∀ f ∈ l, offEvents f = true) : t.anyOf l = s.anyOf l := by
  unfold State.anyOf
  induction l with
  | nil => rfl
  | cons f l ih =>
    rw [List.any_cons, List.any_cons, bit_sameConditions h f (hl f (by simp)), ih fun g hg => hl g (by simp [hg])]

theorem timeCond_sameConditions (n : Nat) : t.timeCond n = s.timeCond n := by
  have htpo : ∀ i, offEvents (Reg.TIME_TPO_CTRL_MISSED i) = true := fun i => by simp [offEvents, Reg.TIME_TPO_CTRL_MISSED]; omega
  have htpi : ∀ i, offEvents (Reg.TIME_TPI_CTRL_OVERFLOW i) = true := fun i => by simp [offEvents, Reg.TIME_TPI_CTRL_OVERFLOW]; omega
  unfold State.timeCond
  simp (disch := decide) only [bit_sameConditions h, anyOf_sameConditions h, h.stamp, bit_sameConditions h _ (htpo _),
    bit_sameConditions h _ (htpi _)]

theorem tallyCond_sameConditions (n : Nat) : t.tallyCond n = s.tallyCond n := by
  unfold State.tallyCond
  simp (disch := decide) only [bit_sameConditions h, h.tally]

theorem tableCond_sameConditions (n : Nat) : t.tableCond n = s.tableCond n := by
  unfold State.tableCond
  simp (disch := decide) only [bit_sameConditions h]

theorem bufCond_sameConditions (n : Nat) : t.bufCond n = s.bufCond n := by
  unfold State.bufCond
  simp (disch := decide) only [bit_sameConditions h]

theorem linkCond_sameConditions (n : Nat) : t.linkCond n = s.linkCond n := by
  unfold State.linkCond
  simp (disch := decide) only [bit_sameConditions h, h.dram]

theorem sysCond_sameConditions (n : Nat) : t.sysCond n = s.sysCond n := by
  have hkey : t.keyState = s.keyState := by
    unfold State.keyState
    rw [h.get _ (by decide)]
  unfold State.sysCond
  simp (disch := decide) only [bit_sameConditions h, anyOf_sameConditions h, h.get, h.die, hkey]

theorem isPort_sameConditions (p : Nat) : t.isPort p = s.isPort p := by
  have hmode : offEvents (Reg.MAC_OCTET_MODE_MODE (p / 8)) = true := by simp [offEvents, Reg.MAC_OCTET_MODE_MODE]; omega
  unfold State.isPort State.lanes
  rw [h.get _ hmode]

/-- The conditions of the sources depend on nothing of the EVT page. -/
theorem cond_sameConditions (n : Nat) : t.cond n = s.cond n := by
  have hlo : ∀ i, offEvents (Reg.CNT_HALF_LO_HALF i) = true := fun i => by simp [offEvents, Reg.CNT_HALF_LO_HALF]; omega
  have hhi : ∀ i, offEvents (Reg.CNT_HALF_HI_HALF i) = true := fun i => by simp [offEvents, Reg.CNT_HALF_HI_HALF]; omega
  have hevt : ∀ f ∈ portEvtBits n, offEvents f = true := fun f hf => by
    simp only [portEvtBits, List.mem_cons, List.not_mem_nil, or_false] at hf
    rcases hf with rfl | rfl | rfl | rfl | rfl | rfl <;> simp [offEvents, Reg.MAC_PORT_EVT_FEC_UNCORR, Reg.MAC_PORT_EVT_LINK_DOWN,
      Reg.MAC_PORT_EVT_HI_BER, Reg.MAC_PORT_EVT_REMOTE_FAULT, Reg.MAC_PORT_EVT_LOCAL_FAULT, Reg.MAC_PORT_EVT_LINK_UP] <;> omega
  unfold State.cond
  rw [isPort_sameConditions h, anyOf_sameConditions h _ hevt, h.get _ (hlo _), h.get _ (hhi _), timeCond_sameConditions h,
    tallyCond_sameConditions h, tableCond_sameConditions h, bufCond_sameConditions h, linkCond_sameConditions h, sysCond_sameConditions h]

end Conditions

/-! ### The reports -/

@[simp] theorem report_regs (s : State) (n st : Nat) : (s.report n st).regs = s.regs := by
  unfold State.report
  split <;> rfl

/-- A report bit that is set keeps its time (R461). -/
theorem mapFind_report_of_some {s : State} {m x : Nat} (n st : Nat) (h : mapFind s.events.reports m = some x) :
    mapFind (s.report n st).events.reports m = some x := by
  unfold State.report
  split
  · exact h
  next hn =>
    have hne : n ≠ m := by
      rintro rfl
      simp [h] at hn
    exact (mapFind_put_ne _ _ hne).trans h

theorem mapFind_report_self (s : State) (n st : Nat) : (mapFind (s.report n st).events.reports n).isSome = true := by
  unfold State.report
  split
  next h => exact h
  · simp

theorem mapFind_report_ne (s : State) {n m : Nat} (st : Nat) (h : n ≠ m) :
    mapFind (s.report n st).events.reports m = mapFind s.events.reports m := by
  unfold State.report
  split
  · rfl
  · exact mapFind_put_ne _ _ h

/-! ### One source in a scan -/

/-- One source of a scan (R459). -/
def State.scanSource (s : State) (stamp n : Nat) : State :=
  if s.cond n = s.collected n then s
  else
    let s' := s.putBit (Reg.EVT_PENDING_PENDING (n / 32)) (n % 32) (s.cond n)
    let s' := if s.cond n && internalErrors.contains n then s'.noteError false else s'
    if s.cond n && !s'.masked n then s'.report n stamp else s'

theorem scanBlock_eq (s : State) (b stamp : Nat) :
    s.scanBlock b stamp = (List.range (blockRange b).2).foldl (fun s i => s.scanSource stamp ((blockRange b).1 + i)) s := rfl

@[simp] theorem noteError_regs (s : State) (x : Bool) : (s.noteError x).regs = s.regs := by
  unfold State.noteError
  split <;> rfl

@[simp] theorem noteError_events (s : State) (x : Bool) : (s.noteError x).events = s.events := by
  unfold State.noteError
  split <;> rfl

/-- The registers after one source of a scan. -/
theorem scanSource_regs (s : State) (stamp n : Nat) : (s.scanSource stamp n).regs =
    if s.cond n = s.collected n then s.regs
    else (s.putBit (Reg.EVT_PENDING_PENDING (n / 32)) (n % 32) (s.cond n)).regs := by
  unfold State.scanSource
  split
  · rfl
  · dsimp only
    split <;> split <;> simp

theorem word_ne {n m : Nat} (hn : n < 4096) (hm : m < 4096) (h : n / 32 ≠ m / 32) :
    Fld.key (Reg.EVT_PENDING_PENDING (n / 32)) ≠ Fld.key (Reg.EVT_PENDING_PENDING (m / 32)) := by
  simp only [Fld.key, Reg.EVT_PENDING_PENDING]
  omega

theorem collected_scanSource_self (s : State) (stamp : Nat) (n : Nat) : (s.scanSource stamp n).collected n = s.cond n := by
  unfold State.collected State.get
  rw [scanSource_regs]
  split
  next h => exact h.symm
  · have h := bitOf_putBit s (Reg.EVT_PENDING_PENDING (n / 32)) (i := n % 32) (j := n % 32) (s.cond n) (Nat.mod_lt _ (by decide))
    rw [if_pos rfl] at h
    exact h

theorem collected_scanSource_ne (s : State) (stamp : Nat) {n m : Nat} (hn : n < 4096) (hm : m < 4096) (h : m ≠ n) :
    (s.scanSource stamp n).collected m = s.collected m := by
  unfold State.collected State.get
  rw [scanSource_regs]
  split
  · rfl
  · by_cases hw : n / 32 = m / 32
    · have hput := bitOf_putBit s (Reg.EVT_PENDING_PENDING (n / 32)) (i := n % 32) (j := m % 32) (s.cond n) (Nat.mod_lt _ (by decide))
      rw [if_neg (by omega)] at hput
      rw [← hw]
      exact hput
    · exact congrArg (bitOf · (m % 32)) (get_putBit_ne s (n % 32) (s.cond n) (word_ne hn hm hw))

theorem masked_putPending (s : State) (n i m : Nat) (c : Bool) : (s.putBit (Reg.EVT_PENDING_PENDING n) i c).masked m = s.masked m := by
  unfold State.masked
  rw [get_putBit_ne _ _ _ (by simp only [Fld.key, Reg.EVT_PENDING_PENDING, Reg.EVT_MASK_MASK]; omega)]

theorem masked_scanSource (s : State) (stamp n m : Nat) : (s.scanSource stamp n).masked m = s.masked m := by
  rw [← masked_putPending s (n / 32) (n % 32) m (s.cond n)]
  unfold State.masked State.get
  rw [scanSource_regs]
  split
  · exact (masked_putPending s (n / 32) (n % 32) m (s.cond n)).symm
  · rfl

/-- The reports after one source of a scan (R461). -/
theorem reports_scanSource (s : State) (stamp n : Nat) : (s.scanSource stamp n).events.reports =
    if s.cond n = true ∧ s.collected n = false ∧ s.masked n = false then (s.report n stamp).events.reports else s.events.reports := by
  have hmask (x : Bool) : ((s.putBit (Reg.EVT_PENDING_PENDING (n / 32)) (n % 32) (s.cond n)).noteError x).masked n = s.masked n := by
    rw [← masked_putPending s (n / 32) (n % 32) n (s.cond n), State.masked, State.masked, get_of_regs (noteError_regs ..)]
  have hreport {u : State} (h : u.events = s.events) : (u.report n stamp).events.reports = (s.report n stamp).events.reports := by
    unfold State.report
    rw [h]
    split
    · rw [h]
    · rfl
  unfold State.scanSource
  cases hc : s.cond n <;> cases hw : s.collected n <;> dsimp only
  · simp
  · simp
  · rw [hc] at hmask
    have hput := hreport (u := s.putBit (Reg.EVT_PENDING_PENDING (n / 32)) (n % 32) true) rfl
    have hnote := hreport (u := (s.putBit (Reg.EVT_PENDING_PENDING (n / 32)) (n % 32) true).noteError false) (noteError_events ..)
    cases internalErrors.contains n <;> cases hm : s.masked n <;> simp [hmask, masked_putPending, hm, hput, hnote]
  · simp

theorem frame_scanSource (s : State) (stamp n : Nat) : s.only (s.scanSource stamp n) [.events, .pair] (regsOf ["EVT_PENDING"]) := by
  unfold State.scanSource
  refine keep_if (only_id s _ _) ?_
  extract_lets u v
  have hu : s.only u [.events, .pair] (regsOf ["EVT_PENDING"]) := keep_putBit _ _ _ (only_id s _ _) (reg_EVT_PENDING_PENDING (by simp))
  have hv : s.only v [.events, .pair] (regsOf ["EVT_PENDING"]) := keep_if (keep_of (frame_noteError ..) hu (by simp) (by simp)) hu
  exact keep_if (keep_of (frame_report ..) hv (by simp) (by simp)) hv

/-- One source of a scan leaves every condition. -/
theorem sameConditions_scanSource (s : State) (stamp n : Nat) : s.SameConditions (s.scanSource stamp n) where
  get f hf := by
    unfold State.get
    rw [scanSource_regs]
    split
    · rfl
    · refine get_putBit_ne s _ _ ?_
      simp only [offEvents, Bool.and_eq_true, decide_eq_true_eq, bne_iff_ne] at hf
      simp only [Fld.key, Reg.EVT_PENDING_PENDING]
      omega
  die := (frame_scanSource s stamp n).1 .die (by simp)
  stamp := (frame_scanSource s stamp n).1 .stamp (by simp)
  tally := (frame_scanSource s stamp n).1 .tally (by simp)
  dram := (frame_scanSource s stamp n).1 .dram (by simp)

/-! ### The scan of a block -/

/-- The first `k` sources from `lo` on have been scanned. -/
def State.scanned (s : State) (stamp lo k : Nat) : State := (List.range k).foldl (fun s i => s.scanSource stamp (lo + i)) s

theorem scanned_succ (s : State) (stamp lo k : Nat) :
    s.scanned stamp lo (k + 1) = (s.scanned stamp lo k).scanSource stamp (lo + k) := by
  simp [State.scanned, List.range_succ]

theorem cond_scanned (s : State) (stamp lo k n : Nat) : (s.scanned stamp lo k).cond n = s.cond n := by
  induction k with
  | zero => rfl
  | succ k ih => rw [scanned_succ, cond_sameConditions (sameConditions_scanSource _ _ _), ih]

theorem masked_scanned (s : State) (stamp lo k n : Nat) : (s.scanned stamp lo k).masked n = s.masked n := by
  induction k with
  | zero => rfl
  | succ k ih => rw [scanned_succ, masked_scanSource, ih]

/-- A scan leaves the sources before and behind it. -/
theorem scanned_outside (s : State) (stamp : Nat) {lo k n : Nat} (hhi : lo + k ≤ 4096) (hn : n < 4096) (h : n < lo ∨ lo + k ≤ n) :
    (s.scanned stamp lo k).collected n = s.collected n ∧
      mapFind (s.scanned stamp lo k).events.reports n = mapFind s.events.reports n := by
  induction k with
  | zero => exact ⟨rfl, rfl⟩
  | succ k ih =>
    obtain ⟨h1, h2⟩ := ih (by omega) (by omega)
    rw [scanned_succ, collected_scanSource_ne _ _ (by omega) hn (by omega), h1, ← h2, reports_scanSource]
    refine ⟨rfl, ?_⟩
    split
    · exact mapFind_report_ne _ _ (by omega)
    · rfl

/-- A report bit that was set stays (R461). -/
theorem scanned_reported {s : State} {n x : Nat} (stamp lo k : Nat) (h : mapFind s.events.reports n = some x) :
    mapFind (s.scanned stamp lo k).events.reports n = some x := by
  induction k with
  | zero => exact h
  | succ k ih =>
    rw [scanned_succ, reports_scanSource]
    split
    · exact mapFind_report_of_some _ _ ih
    · exact ih

/-- A scan takes every change of its sources, and a rise that is not masked sets the report bit (R459, R461). -/
theorem scanned_inside (s : State) (stamp : Nat) {lo k n : Nat} (hhi : lo + k ≤ 4096) (hlo : lo ≤ n) (hn : n < lo + k) :
    (s.scanned stamp lo k).collected n = s.cond n ∧ (s.cond n = true → s.collected n = false → s.masked n = false →
      (mapFind (s.scanned stamp lo k).events.reports n).isSome = true) := by
  induction k with
  | zero => omega
  | succ k ih =>
    rw [scanned_succ]
    by_cases hlast : n = lo + k
    · subst hlast
      rw [collected_scanSource_self, cond_scanned, reports_scanSource, cond_scanned, masked_scanned,
        (scanned_outside s stamp (by omega) (by omega) (Or.inr (Nat.le_refl _))).1]
      refine ⟨rfl, fun hc hw hm => ?_⟩
      rw [if_pos ⟨hc, hw, hm⟩]
      exact mapFind_report_self _ _ _
    · obtain ⟨h1, h2⟩ := ih (by omega) (by omega)
      rw [collected_scanSource_ne _ _ (by omega) (by omega) hlast, reports_scanSource]
      refine ⟨h1, fun hc hw hm => ?_⟩
      split
      · rw [mapFind_report_ne _ _ (Ne.symm hlast)]
        exact h2 hc hw hm
      · exact h2 hc hw hm

theorem blockRange_le {b : Nat} (h : b < 13) : (blockRange b).1 + (blockRange b).2 ≤ 4096 := by
  interval_cases b <;> decide

end Sys2Proof.Machine
end

section
/-! What goes to the host: messages on the link, entries of a ring; the event entries, the masks and the keepalive (R461, R462). -/

-- One proof at a time: side by side they take more threads than the memory bound of the check leaves room for.
set_option Elab.async false

namespace Sys2Proof.Machine

/-! ### The link -/

/-- The messages for the host in their order: those sent and those that wait for credit. -/
def State.wire (s : State) : List HostMsg := s.host.sent ++ s.host.waiting

theorem pumpMsgs_wire (l : List HostMsg) (h : HostSt) : (pumpMsgs l h).sent ++ (pumpMsgs l h).waiting = h.sent ++ l := by
  induction l generalizing h with
  | nil => rfl
  | cons m l ih =>
    unfold pumpMsgs
    split
    · rw [ih]
      simp
    · rfl

theorem pump_wire (s : State) : s.pump.wire = s.wire := by
  unfold State.pump
  split
  · exact pumpMsgs_wire _ _
  · rfl

theorem send_wire (s : State) (m : HostMsg) : (s.send m).wire = s.wire ++ [m] := by
  rw [State.send, pump_wire]
  simp [State.wire, State.modHost]

theorem foldl_send_wire {α : Type} (f : α → HostMsg) (l : List α) (s : State) :
    (l.foldl (fun s x => s.send (f x)) s).wire = s.wire ++ l.map f := by
  induction l generalizing s with
  | nil => simp
  | cons x l ih => rw [List.foldl_cons, ih, send_wire, List.map_cons, List.append_assoc]; rfl

/-- A stretch of whole slots inside a 4 KiB block is one message (R408). -/
theorem piecesOf_one {addr len : Nat} (hpos : 0 < len) (hle : len ≤ 192) (hin : addr % 4096 + len ≤ 4096) :
    piecesOf addr len = [(addr, len)] := by
  have hpiece : min (min 192 (4096 - addr % 4096)) len = len := by omega
  unfold piecesOf memPieces
  rw [if_neg (by omega)]
  dsimp only
  rw [hpiece, Nat.sub_self]
  cases len / 16 <;> simp [memPieces]

theorem padTo_self {l : List Byte} {n : Nat} (h : l.length = n) : padTo n l = l := by simp [padTo, zeros, ← h]

theorem memWrite_wire {s : State} {addr : Nat} {d : List Byte} (hon : s.host.serviceOff = false) (h16 : d.length % 16 = 0)
    (hpos : 0 < d.length) (hle : d.length ≤ 192) (hin : addr % 4096 + d.length ≤ 4096) :
    (s.memWrite addr d).wire = s.wire ++ [.memWr addr d] := by
  have hlen : ceilDiv d.length 16 * 16 = d.length := by unfold ceilDiv; omega
  unfold State.memWrite
  rw [hlen, padTo_self rfl]
  dsimp only
  rw [hon, if_neg (by simp), piecesOf_one hpos hle hin, foldl_send_wire]
  simp [slice]

/-! ### The entries of a ring -/

@[simp] theorem leBytes_length (n v : Nat) : (leBytes n v).length = n := by
  induction n generalizing v with
  | zero => rfl
  | succ n ih => simp [leBytes, ih]

@[simp] theorem zeros_length (n : Nat) : (zeros n).length = n := by simp [zeros]

theorem wire_of_host {s t : State} (h : t.host.sent = s.host.sent) (h' : t.host.waiting = s.host.waiting) : t.wire = s.wire := by
  rw [State.wire, State.wire, h, h']

theorem ringWrite_wire (s : State) (n : Nat) (e : List Byte) :
    (s.ringWrite n e).wire = (s.memWrite (s.slotAddr n (s.devIndex n)) e).wire := rfl

/-- An entry of a ring whose entries divide a 4 KiB block is one message. -/
theorem slotAddr_in_block (s : State) (n i : Nat) : s.slotAddr n i % 4096 + entrySize n ≤ 4096 := by
  have h : entrySize n = 64 ∨ entrySize n = 32 := by unfold entrySize; split <;> simp
  unfold State.slotAddr
  rcases h with h | h <;> rw [h] <;> omega

theorem ringWrite_sends {s : State} {n : Nat} {e : List Byte} (hon : s.host.serviceOff = false) (he : e.length = entrySize n) :
    (s.ringWrite n e).wire = s.wire ++ [.memWr (s.slotAddr n (s.devIndex n)) e] := by
  have h : entrySize n = 64 ∨ entrySize n = 32 := by unfold entrySize; split <;> simp
  have hin := slotAddr_in_block s n (s.devIndex n)
  rw [ringWrite_wire]
  exact memWrite_wire hon (by omega) (by omega) (by omega) (by omega)

theorem devIndex_ringWrite (s : State) (n : Nat) (e : List Byte) : (s.ringWrite n e).devIndex n = (s.devIndex n + 1) % 2 ^ 32 := by
  have h : (s.memWrite (s.slotAddr n (s.devIndex n)) e).devIndex n = s.devIndex n :=
    (frame_memWrite s _ _).2 _ (by simp [regsOf])
  have hset : (s.ringWrite n e).devIndex n =
      ((s.memWrite (s.slotAddr n (s.devIndex n)) e).set (Reg.RING_DEV_INDEX_DEV_INDEX n)
        ((s.memWrite (s.slotAddr n (s.devIndex n)) e).devIndex n + 1)).get (Reg.RING_DEV_INDEX_DEV_INDEX n) := rfl
  rw [hset, get_set_self, h]
  rfl

/-! ### The event entry -/

section Entry

variable {s : State} {n st : Nat}

theorem foldl_max_severity (f : Nat → Nat) (l : List Nat) (a : Nat) :
    (∀ m ∈ l, f m ≤ l.foldl (fun a n => max a (f n)) a) ∧ a ≤ l.foldl (fun a n => max a (f n)) a := by
  induction l generalizing a with
  | nil => simp
  | cons x l ih =>
    obtain ⟨h1, h2⟩ := ih (max a (f x))
    rw [List.foldl_cons]
    refine ⟨fun m hm => ?_, by omega⟩
    rcases List.mem_cons.1 hm with rfl | hm
    · omega
    · exact h1 m hm

theorem foldl_max_le (f : Nat → Nat) {b : Nat} (l : List Nat) {a : Nat} (ha : a ≤ b) (h : ∀ m ∈ l, f m ≤ b) :
    l.foldl (fun a n => max a (f n)) a ≤ b := by
  induction l generalizing a with
  | nil => exact ha
  | cons x l ih => exact ih (max_le ha (h x (by simp))) fun m hm => h m (by simp [hm])

theorem mem_keys_iff {α : Type} (m : SMap α) (k : Nat) : k ∈ m.map (·.1) ↔ (mapFind m k).isSome = true := by
  induction m with
  | nil => simp
  | cons x m ih =>
    rw [List.map_cons, List.mem_cons, ih, mapFind]
    by_cases h : x.1 = k
    · simp [h]
    · simp [h, Ne.symm h]

/-- In a rising list the first element that a test takes is the least. -/
theorem find?_least {p : Nat → Bool} {l : List Nat} (hl : l.Pairwise (· < ·)) {n : Nat} (hn : n ∈ l) (hp : p n = true)
    (hmin : ∀ m ∈ l, p m = true → n ≤ m) : l.find? p = some n := by
  induction l with
  | nil => cases hn
  | cons x l ih =>
    rw [List.pairwise_cons] at hl
    rcases List.mem_cons.1 hn with rfl | hn'
    · exact List.find?_cons_of_pos hp
    · have hx : ¬ p x = true := fun hpx => by
        have := hmin x (by simp) hpx
        have := hl.1 n hn'
        omega
      rw [List.find?_cons_of_neg hx]
      exact ih hl.2 hn' fun m hm => hmin m (by simp [hm])

/-- The event writer takes the most severe report, and of those the one of the lowest number (R461). -/
theorem nextReport_eq (hsorted : mapSorted s.events.reports = true) (hn : mapFind s.events.reports n = some st)
    (hfirst : ∀ m, (mapFind s.events.reports m).isSome = true → s.severity m < s.severity n ∨ (s.severity m = s.severity n ∧ n ≤ m)) :
    s.nextReport = some n := by
  have hmem : n ∈ s.events.reports.map (·.1) := (mem_keys_iff _ _).2 (by rw [hn]; rfl)
  have hmax : (s.events.reports.map (·.1)).foldl (fun a n => max a (s.severity n)) 0 = s.severity n := by
    apply Nat.le_antisymm
    · exact foldl_max_le _ _ (Nat.zero_le _) fun m hm => by have := hfirst m ((mem_keys_iff _ _).1 hm); omega
    · exact (foldl_max_severity _ _ _).1 n hmem
  unfold State.nextReport
  dsimp only
  rw [hmax]
  refine find?_least ((mapSorted_iff _).1 hsorted) hmem (by simp) fun m hm hsev => ?_
  have := hfirst m ((mem_keys_iff _ _).1 hm)
  simp only [beq_iff_eq] at hsev
  omega

/-- The bytes of an event entry (Table 16-11). -/
def State.eventBytes (s : State) (n st : Nat) : List Byte :=
  leBytes 2 n ++ [BitVec.ofNat 8 (s.severity n), 0] ++ leBytes 4 (s.ring 63).written ++ zeros 8 ++ leBytes 16 st

/-- The report bit of a source is cleared. -/
def State.clearReport (s : State) (n : Nat) : State := { s with events := { s.events with reports := mapDel s.events.reports n } }

theorem eventEntry_written (hnext : s.nextReport = some n) (hn : mapFind s.events.reports n = some st) (hroom : s.ringRoom 63 1 = true)
    (hwrite : s.canWrite = true) : s.eventEntry = (s.ringWrite 63 (s.eventBytes n st)).clearReport n := by
  unfold State.eventEntry
  rw [hnext]
  dsimp only
  rw [hroom, hwrite, if_pos (by rfl), mapGet, hn]
  rfl

theorem eventEntry_waits (h : s.ringRoom 63 1 = false ∨ s.canWrite = false) : s.eventEntry = s := by
  unfold State.eventEntry
  split
  · rw [if_neg (by rcases h with h | h <;> simp [h])]
  · rfl

theorem exec_eventEntryWrite (hrun : s.running = true) : exec .eventEntryWrite s = .next s.eventEntry.settle :=
  whenUp_running hrun fun s => s.eventEntry

theorem serviceOff_of_canWrite (h : s.canWrite = true) : s.host.serviceOff = false := by
  simp only [State.canWrite, Bool.and_eq_true, Bool.not_eq_true'] at h
  exact h.1.2

/-- EVENT_ENTRY_WRITE (R461). -/
theorem eventEntry_role (hrun : s.running = true) (hsorted : mapSorted s.events.reports = true) (hn : mapFind s.events.reports n = some st)
    (hfirst : ∀ m, (mapFind s.events.reports m).isSome = true → s.severity m < s.severity n ∨ (s.severity m = s.severity n ∧ n ≤ m))
    (hroom : s.ringRoom 63 1 = true) (hwrite : s.canWrite = true) : ∃ t, exec .eventEntryWrite s = .next t ∧
      mapFind t.events.reports n = none ∧ (∀ m, m ≠ n → mapFind t.events.reports m = mapFind s.events.reports m) ∧
      t.devIndex 63 = (s.devIndex 63 + 1) % 2 ^ 32 ∧
      t.host.sent ++ t.host.waiting = s.host.sent ++ s.host.waiting ++ [.memWr (s.slotAddr 63 (s.devIndex 63)) (s.eventBytes n st)] ∧
      s.only t [.events, .host] (regsOf ["RING_DEV_INDEX"]) := by
  have hexec := exec_eventEntryWrite hrun
  have hframe := frame_eventEntry s
  rw [eventEntry_written (nextReport_eq hsorted hn hfirst) hn hroom hwrite] at hexec hframe
  have hsent := ringWrite_sends (s := s) (n := 63) (e := s.eventBytes n st) (serviceOff_of_canWrite hwrite)
    (by simp [State.eventBytes, entrySize])
  have hindex := devIndex_ringWrite s 63 (s.eventBytes n st)
  have hreports : (s.ringWrite 63 (s.eventBytes n st)).events = s.events := (frame_ringWrite s 63 _).1 .events (by simp)
  generalize s.ringWrite 63 (s.eventBytes n st) = u at *
  refine ⟨_, hexec, mapFind_del_self _ _, fun m hm => ?_, hindex, hsent, only_settled hframe⟩
  rw [← hreports]
  exact mapFind_del_ne _ (Ne.symm hm)

end Entry

/-! ### The keepalive -/

section Keepalive

variable {s : State}

theorem exec_keepaliveExpiry (hrun : s.running = true) : exec .keepaliveExpiry s = .next s.keepalive.settle :=
  whenUp_running hrun fun s => s.keepalive

theorem keepalive_waits (h : s.get Reg.EVT_CTRL_KEEPALIVE_US = 0 ∨
    s.cycle < s.events.keepFrom + s.get Reg.EVT_CTRL_KEEPALIVE_US * usCycles ∨ s.canWrite = false) : s.keepalive = s := by
  unfold State.keepalive
  dsimp only
  rw [if_pos (by simpa [or_assoc] using h)]

section Due

variable (hus : s.get Reg.EVT_CTRL_KEEPALIVE_US ≠ 0)
variable (hat : s.events.keepFrom + s.get Reg.EVT_CTRL_KEEPALIVE_US * usCycles ≤ s.cycle) (hwrite : s.canWrite = true)
include hus hat hwrite

theorem keepalive_due : s.keepalive = if s.attention ≠ 0 ∧ s.ringRoom 0 1 = true then
      (s.restartKeepalive.ringWrite 0 ([4, 0] ++ leBytes 2 s.attention ++ zeros 60)).satAdd Reg.EVT_KEEPALIVE_CNT_COUNT 1
    else s.restartKeepalive := by
  have hroom : s.restartKeepalive.ringRoom 0 1 = s.ringRoom 0 1 := rfl
  unfold State.keepalive
  dsimp only
  rw [if_neg (by simp [hus, hwrite]; omega), hroom]
  simp only [Bool.and_eq_true, bne_iff_ne]

/-- The keepalive of a device whose attention word is not 0 (R462). -/
theorem keepalive_sends (ha : s.attention ≠ 0) (hroom : s.ringRoom 0 1 = true) : s.keepalive.events.keepFrom = s.cycle ∧
    s.counted s.keepalive Reg.EVT_KEEPALIVE_CNT_COUNT ∧
    s.keepalive.wire = s.wire ++ [.memWr (s.slotAddr 0 (s.devIndex 0)) ([4, 0] ++ leBytes 2 s.attention ++ zeros 60)] := by
  have hsent := ringWrite_sends (s := s.restartKeepalive) (n := 0) (e := [4, 0] ++ leBytes 2 s.attention ++ zeros 60)
    (serviceOff_of_canWrite hwrite) (by simp [entrySize])
  have hframe := frame_ringWrite s.restartKeepalive 0 ([4, 0] ++ leBytes 2 s.attention ++ zeros 60)
  have hevents : (s.restartKeepalive.ringWrite 0 ([4, 0] ++ leBytes 2 s.attention ++ zeros 60)).events = s.restartKeepalive.events :=
    hframe.1 .events (by simp)
  have hcount : (s.restartKeepalive.ringWrite 0 ([4, 0] ++ leBytes 2 s.attention ++ zeros 60)).get Reg.EVT_KEEPALIVE_CNT_COUNT =
      s.restartKeepalive.get Reg.EVT_KEEPALIVE_CNT_COUNT :=
    kept_of_only hframe 20 0 0 (List.mem_of_getElem? (i := 2) rfl) (a := .rc) (by simp) (by simp)
  rw [keepalive_due hus hat hwrite, if_pos ⟨ha, hroom⟩]
  generalize s.restartKeepalive.ringWrite 0 ([4, 0] ++ leBytes 2 s.attention ++ zeros 60) = u at *
  refine ⟨?_, ?_, hsent⟩
  · exact congrArg EventSt.keepFrom hevents
  · show (u.satAdd _ 1).get _ = _
    rw [get_satAdd_self, hcount]
    rfl

/-- KEEPALIVE_EXPIRY of a timer that has run out (R462). -/
theorem keepalive_role (hrun : s.running = true) : ∃ t, exec .keepaliveExpiry s = .next t ∧ t.events.keepFrom = s.cycle ∧
    (s.attention ≠ 0 → s.ringRoom 0 1 = true → s.counted t Reg.EVT_KEEPALIVE_CNT_COUNT ∧
      t.host.sent ++ t.host.waiting = s.host.sent ++ s.host.waiting ++
        [.memWr (s.slotAddr 0 (s.devIndex 0)) ([4, 0] ++ leBytes 2 s.attention ++ zeros 60)]) ∧
    (s.attention = 0 ∨ s.ringRoom 0 1 = false → s.only t [.events] (keysOf [])) ∧
    s.only t [.events, .host] (regsOf ["RING_DEV_INDEX", "EVT_KEEPALIVE_CNT"]) := by
  have hexec := exec_keepaliveExpiry hrun
  have hframe := frame_keepalive s
  have hsends := keepalive_sends hus hat hwrite
  have hquiet : s.attention = 0 ∨ s.ringRoom 0 1 = false → s.keepalive = s.restartKeepalive := fun h => by
    rw [keepalive_due hus hat hwrite, if_neg (by rcases h with h | h <;> simp [h])]
  have hfrom : s.keepalive.events.keepFrom = s.cycle := by
    by_cases h : s.attention ≠ 0 ∧ s.ringRoom 0 1 = true
    · exact (hsends h.1 h.2).1
    · rw [hquiet (by simpa [imp_iff_not_or] using h)]
      rfl
  have honly : s.attention = 0 ∨ s.ringRoom 0 1 = false → s.only s.keepalive [.events] (keysOf []) := fun h => by
    rw [hquiet h]
    exact only_of_regs rfl fun p hp => by cases p <;> simp_all [Part.same, State.restartKeepalive]
  generalize s.keepalive = u at *
  exact ⟨_, hexec, hfrom, fun ha hroom => (hsends ha hroom).2, fun h => only_settled (honly h), only_settled hframe⟩

end Due

end Keepalive

/-! ### Writes of the EVT page -/

/-- What a write of a mask word leaves: the word, and a report for each source that it unmasks while it is pending (R458). -/
def State.maskWritten (s : State) (w v : Nat) : State :=
  (setBits (s.get (Reg.EVT_MASK_MASK w) &&& (0xFFFFFFFF ^^^ v) &&& s.get (Reg.EVT_PENDING_PENDING w)) 32).foldl
    (fun s' i => s'.report (32 * w + i) s'.presStamp) (s.set (Reg.EVT_MASK_MASK w) v)

theorem reports_kept {w n x : Nat} (l : List Nat) {s : State} (h : mapFind s.events.reports n = some x) :
    mapFind (l.foldl (fun s' i => s'.report (32 * w + i) s'.presStamp) s).events.reports n = some x := by
  induction l generalizing s with
  | nil => exact h
  | cons i l ih => exact ih (mapFind_report_of_some _ _ h)

theorem reports_made {w i : Nat} {l : List Nat} (hi : i ∈ l) (s : State) :
    (mapFind (l.foldl (fun s' i => s'.report (32 * w + i) s'.presStamp) s).events.reports (32 * w + i)).isSome = true := by
  induction l generalizing s with
  | nil => cases hi
  | cons j l ih =>
    rcases List.mem_cons.1 hi with rfl | hi
    · obtain ⟨x, hx⟩ := Option.isSome_iff_exists.1 (mapFind_report_self s (32 * w + i) s.presStamp)
      exact Option.isSome_iff_exists.2 ⟨x, reports_kept l hx⟩
    · exact ih hi _

theorem get_maskWritten (s : State) (w : Nat) {v : Nat} (hv : v < 2 ^ 32) : (s.maskWritten w v).get (Reg.EVT_MASK_MASK w) = v := by
  have hregs (l : List Nat) (u : State) : (l.foldl (fun s' i => s'.report (32 * w + i) s'.presStamp) u).regs = u.regs := by
    induction l generalizing u with
    | nil => rfl
    | cons i l ih => exact (ih _).trans (report_regs ..)
  rw [State.maskWritten, get_of_regs (hregs _ _), get_set_self]
  exact Nat.mod_eq_of_lt hv

/-- Unmasking a pending source reports it (R458). -/
theorem maskWritten_reports {s : State} {w v i : Nat} (hi : i < 32) (hmask : s.masked (32 * w + i) = true)
    (hclear : bitOf v i = false) (hpend : s.collected (32 * w + i) = true) :
    (mapFind (s.maskWritten w v).events.reports (32 * w + i)).isSome = true := by
  have hdiv : (32 * w + i) / 32 = w ∧ (32 * w + i) % 32 = i := by omega
  rw [State.masked, hdiv.1, hdiv.2, bitOf] at hmask
  rw [State.collected, hdiv.1, hdiv.2, bitOf] at hpend
  rw [bitOf] at hclear
  have hones : Nat.testBit 0xFFFFFFFF i = true := by
    rw [show 0xFFFFFFFF = 2 ^ 32 - 1 by rfl, Nat.testBit_two_pow_sub_one]
    simpa using hi
  refine reports_made ?_ _
  simp [setBits, bitOf, hi, hmask, hpend, hclear, hones]

theorem only_maskWritten (s : State) (w v : Nat) : s.only (s.maskWritten w v) [.events] (keysOf [Reg.EVT_MASK_MASK w]) :=
  only_then (keep_set _ _ (only_id s _ _) (by simp [keysOf])) (only_foldl _ (fun u i => by
    unfold State.report
    split
    · exact only_id u _ _
    · exact keep_at_events _ (only_id u _ _) (by simp)) _ _)

theorem evtEffect_mask {s : State} {w v : Nat} : evtEffect s (s.set (Reg.EVT_MASK_MASK w) v) (0x300 + 4 * w) v = s.maskWritten w v := by
  have hoff : (0x300 + 4 * w - 0x300) / 4 = w := by omega
  unfold evtEffect
  rw [if_neg (by omega), if_pos (by omega)]
  dsimp only
  rw [hoff, get_set_ne _ _ (by simp only [Fld.key, Reg.EVT_MASK_MASK, Reg.EVT_PENDING_PENDING]; omega)]
  rfl

theorem evtCheck_mask (s : State) (w v : Nat) : evtCheck s (0x300 + 4 * w) v =
    if ∃ n ∈ fatalSources, n / 32 = w ∧ bitOf v (n % 32) = true then .range else .ok := by
  have hoff : (0x300 + 4 * w - 0x300) / 4 = w := by omega
  unfold evtCheck
  rw [hoff]
  simp

section Write

variable {s : State}

theorem within_keepalive {v : Nat} (hv : v < 2 ^ 16) : within v (definedBits [(.rw, Reg.EVT_CTRL_KEEPALIVE_US)]) = true := by
  have hmask : definedBits [(.rw, Reg.EVT_CTRL_KEEPALIVE_US)] = 2 ^ 16 - 1 := by decide
  simp only [within, hmask, Nat.and_two_pow_sub_one_eq_mod, Nat.mod_eq_of_lt hv, beq_self_eq_true]

variable (hs : s.served) (hf : s.funcUp .ring = true)
include hs hf

/-- A write of the keepalive time restarts its timer (R462). -/
theorem keepaliveWrite_role {v : Nat} (hv : v < 2 ^ 16) : s.takes (.keepaliveWrite v) [.events] (keysOf [Reg.EVT_CTRL_KEEPALIVE_US]) fun t =>
    t.get Reg.EVT_CTRL_KEEPALIVE_US = v ∧ t.events.keepFrom = s.cycle := by
  have hword : bits v 0 16 = v := by simpa [bits] using hv
  refine takes_of_write hs regIs_EVT_CTRL (page := 20) (off := 0) (t := (s.set Reg.EVT_CTRL_KEEPALIVE_US v).restartKeepalive)
    (by decide) (by decide) (by simp [State.pageDown, pageOf, pageFunc, hf]) trivial (by omega) ?_ (by decide) rfl rfl ?_ ?_ ?_ ?_
  · exact within_keepalive hv
  · rw [storeFields_rw, storeFields_nil]
    exact congrArg (fun x => (s.set Reg.EVT_CTRL_KEEPALIVE_US x).restartKeepalive) hword
  · exact keep_at_events _ (keep_set _ _ (only_id s _ _) (by simp [keysOf])) (by simp)
  · exact fun h => by simp [keysOf] at h; exact absurd h (by decide)
  · exact ⟨(get_set_self ..).trans (Nat.mod_eq_of_lt hv), rfl⟩

/-- A write of a mask word (R458). -/
theorem evtMaskWrite_role {w v : Nat} (hw : w < 128) (hv : v < 2 ^ 32) :
    ((∃ n ∈ fatalSources, n / 32 = w ∧ bitOf v (n % 32) = true) → s.turnsAway (.evtMaskWrite w v) .range) ∧
    ((∀ n ∈ fatalSources, n / 32 = w → bitOf v (n % 32) = false) →
      s.takes (.evtMaskWrite w v) [.events] (keysOf [Reg.EVT_MASK_MASK w]) fun t => t.get (Reg.EVT_MASK_MASK w) = v ∧
        ∀ i, i < 32 → s.masked (32 * w + i) = true → bitOf v i = false → s.collected (32 * w + i) = true →
          (mapFind t.events.reports (32 * w + i)).isSome = true) := by
  have hpage : pageOf (0x1400300 + 4 * w) = 20 := by unfold pageOf; omega
  have hoff : (0x1400300 + 4 * w) % 0x100000 = 0x300 + 4 * w := by omega
  have hdown : s.pageDown true (0x1400300 + 4 * w) = false := by simp [State.pageDown, hpage, pageFunc, hf]
  have hexec : exec (.evtMaskWrite w v) s = whenUp s fun s => s.hostWrite (0x1400300 + 4 * w) v := onObject_ok hw _
  have hwhole : bits v 0 32 = v := by simpa [bits] using hv
  refine ⟨fun hfatal => ?_, fun hfree => ?_⟩
  · refine turnsAway_of_write hs (regIs_EVT_MASK hw) hpage hoff hdown trivial hv (within_word rfl rfl hv) rfl hexec ?_ (by decide)
    exact (evtCheck_mask s w v).trans (if_pos hfatal)
  · refine takes_of_write hs (regIs_EVT_MASK hw) hpage hoff hdown trivial hv (within_word rfl rfl hv) rfl hexec
      (t := s.maskWritten w v) ?_ ?_ (only_maskWritten s w v) ?_ ⟨get_maskWritten s w hv, fun i hi hm hc hp => ?_⟩
    · refine (evtCheck_mask s w v).trans (if_neg ?_)
      rintro ⟨n, hn, rfl, hb⟩
      rw [hfree n hn rfl] at hb
      cases hb
    · rw [storeFields_rw, storeFields_nil]
      exact (congrArg (fun x => evtEffect s (s.set (Reg.EVT_MASK_MASK w) x) (0x300 + 4 * w) v) hwhole).trans evtEffect_mask
    · simp only [keysOf, List.map_cons, List.map_nil, List.mem_singleton, Fld.key, Reg.SYS_CTRL_WARM_RESET, Reg.EVT_MASK_MASK]
      omega
    · exact maskWritten_reports hi hm hc hp

end Write

/-! ### The scan of a block -/

/-- COLLECTOR_SCAN (R459, R461). -/
theorem collectorScan_role {s : State} (hrun : s.running = true) {b : Nat} (hb : b < 13) :
    (s.funcUp .ring = true → ∃ t, exec (.collectorScan b) s = .next t ∧
      (∀ n, (blockRange b).1 ≤ n → n < (blockRange b).1 + (blockRange b).2 → t.collected n = s.cond n ∧
        (s.cond n = true → s.collected n = false → s.masked n = false → (mapFind t.events.reports n).isSome = true)) ∧
      (∀ n st, mapFind s.events.reports n = some st → mapFind t.events.reports n = some st) ∧
      (∀ n, n < 4096 → n < (blockRange b).1 ∨ (blockRange b).1 + (blockRange b).2 ≤ n → t.collected n = s.collected n ∧
        mapFind t.events.reports n = mapFind s.events.reports n) ∧
      s.only t [.events, .pair] (regsOf ["EVT_PENDING"])) ∧
    (s.funcUp .ring = false → ∃ t, exec (.collectorScan b) s = .next t ∧ s.only t [] (keysOf [])) := by
  have hexec : exec (.collectorScan b) s = .next (if s.funcUp .ring then s.scanBlock b s.presStamp else s).settle :=
    (onObject_ok hb _).trans (whenUp_running hrun fun s => if s.funcUp .ring then s.scanBlock b s.presStamp else s)
  have hle := blockRange_le hb
  refine ⟨fun hup => ?_, fun hup => ?_⟩
  · rw [hup, if_pos rfl] at hexec
    have hframe := frame_scanBlock s b s.presStamp
    have hscan : s.scanBlock b s.presStamp = s.scanned s.presStamp (blockRange b).1 (blockRange b).2 := rfl
    rw [hscan] at hexec hframe
    exact ⟨_, hexec, fun n hlo hhi => scanned_inside s _ hle hlo hhi, fun n st h => scanned_reported _ _ _ h,
      fun n hn h => scanned_outside s _ hle hn h, only_settled hframe⟩
  · rw [hup, if_neg (by decide)] at hexec
    exact ⟨_, hexec, only_settled (only_refl s)⟩

/-- Settles O50: the scan source by source, the event writer by the order of the reports, the masks and the keepalive by the writes of
their page. -/
theorem eventsAreCollectedReportedAndKeptAlive : Obligations.EventsAreCollectedReportedAndKeptAlive := by
  unfold Obligations.EventsAreCollectedReportedAndKeptAlive
  intro s hrun
  refine ⟨fun b hb => collectorScan_role hrun hb, fun n st hsorted hn hfirst => ⟨fun hroom hwrite _ =>
    eventEntry_role hrun hsorted hn hfirst hroom hwrite, fun h => ?_⟩, fun w v hs hf hw hv => evtMaskWrite_role hs hf hw hv, fun h => ?_,
    fun hus hat hwrite => keepalive_role hus hat hwrite hrun, fun v hs hf hv => keepaliveWrite_role hs hf hv⟩
  · have hexec := exec_eventEntryWrite hrun
    rw [eventEntry_waits h] at hexec
    exact ⟨_, hexec, only_settled (only_refl s)⟩
  · have hexec := exec_keepaliveExpiry hrun
    rw [keepalive_waits h] at hexec
    exact ⟨_, hexec, only_settled (only_refl s)⟩

end Sys2Proof.Machine
end

section
/-! Counters that back-pressure leaves alone (R94, R101, R306, R307). -/

-- One proof at a time: side by side they take more threads than the memory bound of the check leaves room for.
set_option Elab.async false

namespace Sys2Proof.Machine

/-- Counter `i` reads the same at every port. -/
structure SameCounter (i : Nat) (s t : State) : Prop where
  counter : ∀ p, t.counter p i = s.counter p i

namespace SameCounter

theorem refl (i : Nat) (s : State) : SameCounter i s s := ⟨fun _ => rfl⟩

theorem trans {i : Nat} {s t u : State} (h : SameCounter i s t) (k : SameCounter i t u) : SameCounter i s u :=
  ⟨fun p => (k.counter p).trans (h.counter p)⟩

theorem of_counters {i : Nat} {s t : State} (h : t.counters = s.counters) : SameCounter i s t := ⟨fun p => counter_of_counters h p i⟩

/-- A change that leaves the counters comes before one that leaves this one. -/
theorem after {i : Nat} {s t u : State} (k : SameCounter i t u) (h : t.counters = s.counters) : SameCounter i s u :=
  trans (of_counters h) k

theorem of_only {i : Nat} {s t : State} {P : List Part} {m : Keys} (h : s.only t P m) (hp : Part.counters ∉ P) : SameCounter i s t :=
  of_counters (h.1 .counters hp)

theorem foldl {α : Type} {i : Nat} (f : State → α → State) (h : ∀ s x, SameCounter i s (f s x)) (l : List α) (s : State) :
    SameCounter i s (l.foldl f s) := by
  induction l generalizing s with
  | nil => exact refl i s
  | cons x l ih => exact trans (h s x) (ih _)

end SameCounter

theorem counters_count (s : State) (p i n : Nat) :
    (s.count p i n).counters = mapSet s.counters (64 * p + i) ((s.counter p i + n) % 2 ^ 40) 0 := by
  unfold State.count
  extract_lets old new s1 s2
  have h2 : s2.counters = s1.counters := by
    unfold s2
    split
    · exact (frame_noteError s1 true).1 .counters (by decide)
    · rfl
  split
  · split
    · exact (putBit_counters ..).trans h2
    · exact (putBit_counters ..).trans h2
  · exact h2

/-- Another counter of the 64 stays. -/
theorem sameCounter_count (s : State) (p n : Nat) {i j : Nat} (hi : i < 64) (hj : j < 64) (h : j ≠ i) :
    SameCounter i s (s.count p j n) where
  counter q := by
    rw [State.counter, counters_count, mapGet_set_ne _ _ _ _ (by omega)]
    rfl

theorem destKind_le (b : List Byte) : destKind b ≤ 2 := by
  unfold destKind
  split
  · exact Nat.le_refl _
  · split <;> omega

theorem lenClass_le (n : Nat) : lenClass n ≤ 9 := by unfold lenClass; (repeat' split) <;> omega

section Apart

variable {i : Nat} (hlo : i < 34 ∨ 54 ≤ i) (hhi : i < 64)
include hlo hhi

/-- A frame sent counts from 34 to 53 (Table 3-17). -/
theorem sameCounter_countTx (s : State) (p : Nat) (b : List Byte) (x : Bool) : SameCounter i s (s.countTx p b x) := by
  have hkind := destKind_le b
  have hlen := lenClass_le b.length
  have step (u : State) (j n : Nat) (h : 34 ≤ j ∧ j < 54) : SameCounter i u (u.count p j n) :=
    sameCounter_count u p n hhi (by omega) (by omega)
  unfold State.countTx
  dsimp only
  refine (step s 36 b.length (by omega)).trans ?_
  generalize s.count p 36 b.length = u
  split
  · exact step u 53 1 (by omega)
  · refine (((step u 34 1 (by omega)).trans (step _ 35 b.length (by omega))).trans (step _ (37 + destKind b) 1 (by omega))).trans ?_
    generalize ((u.count p 34 1).count p 35 b.length).count p (37 + destKind b) 1 = v
    split
    · exact (step v 42 1 (by omega)).trans (step _ _ _ (by omega))
    · exact step v _ _ (by omega)

theorem sameCounter_putPause (s : State) (p prio quanta : Nat) : SameCounter i s (s.putPause p prio quanta) := by
  unfold State.putPause
  extract_lets body f
  refine ((sameCounter_countTx hlo hhi s p f false).trans (sameCounter_count _ p 1 hhi ?_ ?_)).trans
    (SameCounter.of_only (frame_putOut _ p f) (by simp))
  all_goals split <;> omega

theorem sameCounter_sendPause (s : State) (p prio quanta : Nat) : SameCounter i s (s.sendPause p prio quanta) := by
  unfold State.sendPause
  split
  · exact .refl i s
  · split
    · exact .of_counters rfl
    · exact sameCounter_putPause hlo hhi s p prio quanta

theorem sameCounter_pauseBegin (s : State) (p prio : Nat) : SameCounter i s (s.pauseBegin p prio) := by
  unfold State.pauseBegin
  split
  · exact .refl i s
  · exact SameCounter.after (sameCounter_sendPause hlo hhi _ p prio _) rfl

theorem sameCounter_pauseEnd (s : State) (p prio : Nat) : SameCounter i s (s.pauseEnd p prio) := by
  unfold State.pauseEnd
  split
  · exact .refl i s
  · exact SameCounter.after (sameCounter_sendPause hlo hhi _ p prio _) rfl

theorem sameCounter_syncRequests (s : State) (p : Nat) : SameCounter i s (s.syncRequests p) := by
  unfold State.syncRequests
  refine SameCounter.trans (SameCounter.foldl _ (fun u q => ?_) _ s) (SameCounter.foldl _ (fun u q => sameCounter_pauseBegin hlo hhi u p q) _ _)
  split
  · exact .refl i u
  · exact sameCounter_pauseEnd hlo hhi u p q

theorem sameCounter_askPort (s : State) (pool p : Nat) : SameCounter i s (s.askPort pool p) := by
  unfold State.askPort
  split
  · exact .refl i s
  · exact SameCounter.after (sameCounter_syncRequests hlo hhi _ p) rfl

theorem sameCounter_askPorts (s : State) (pool : Nat) : SameCounter i s (s.askPorts pool) := by
  unfold State.askPorts
  refine SameCounter.foldl _ (fun u e => ?_) _ s
  split
  · exact sameCounter_askPort hlo hhi u pool _
  · exact .refl i u

theorem sameCounter_xoffUpdate (s : State) (n : Nat) : SameCounter i s (s.xoffUpdate n) := by
  unfold State.xoffUpdate
  dsimp only
  split
  · split
    · exact SameCounter.after (sameCounter_askPorts hlo hhi _ n) rfl
    · exact .refl i s
  · split
    · exact SameCounter.after (SameCounter.foldl _ (fun u p => sameCounter_syncRequests hlo hhi u p) _ _) rfl
    · exact .refl i s

theorem sameCounter_chargePool (s : State) (pool owner : Nat) (shared : Bool) : SameCounter i s (s.chargePool pool owner shared) := by
  unfold State.chargePool
  extract_lets u v w
  have hu : SameCounter i s u := .of_counters rfl
  have hv : SameCounter i u v := .of_counters rfl
  have hw : SameCounter i v w := by
    unfold w
    split
    · exact .of_counters rfl
    · exact .refl i v
  have hx := ((hu.trans hv).trans hw).trans (sameCounter_xoffUpdate hlo hhi w pool)
  split
  · exact hx.trans (sameCounter_askPort hlo hhi _ pool owner)
  · exact hx

theorem sameCounter_uncharge (s : State) (b : Bead) : SameCounter i s (s.uncharge b) := by
  unfold State.uncharge
  split
  · exact .of_only (frame_setLanding ..) (by simp)
  · extract_lets u v w
    have hw : SameCounter i s w := by
      unfold w
      split <;> exact .of_counters rfl
    exact hw.trans (sameCounter_xoffUpdate hlo hhi w _)
  · exact .refl i s

theorem sameCounter_dropBead (s : State) (n : Nat) : SameCounter i s (s.dropBead n) := by
  unfold State.dropBead
  split
  · exact SameCounter.after (sameCounter_uncharge hlo hhi _ _) rfl
  · exact .refl i s

theorem sameCounter_decrement (s : State) (bead : Nat) (a : BeadAccount) (agent : Nat) :
    SameCounter i s (s.decrement bead a agent) := by
  unfold State.decrement
  split
  · exact .of_only (frame_badFree ..) (by simp)
  · split
    · split
      · exact sameCounter_dropBead hlo hhi s bead
      · exact .of_counters rfl
    · exact .refl i s

theorem sameCounter_decrementAll (s : State) (l : List Nat) (agent : Nat) : SameCounter i s (s.decrementAll l agent) := by
  unfold State.decrementAll
  refine SameCounter.foldl _ (fun u n => ?_) _ s
  split
  · exact sameCounter_decrement hlo hhi u n _ agent
  · exact .of_only (frame_badFree ..) (by simp)

end Apart

end Sys2Proof.Machine
end

section
/-! Punted frames and swept counters (R449, R450). -/

-- One proof at a time: side by side they take more threads than the memory bound of the check leaves room for.
set_option Elab.async false

namespace Sys2Proof.Machine

/-! ### What the link's record keeps -/

/-- The host's record with other messages, credits and rings. -/
def HostSt.onWire (h : HostSt) (sent waiting : List HostMsg) (credit rx : Nat) (rings : SMap RingDyn) : HostSt :=
  { h with sent := sent, waiting := waiting, credit := credit, rxCredit := rx, rings := rings }

theorem host_pumpMsgs (l : List HostMsg) (h : HostSt) : ∃ a b c d, pumpMsgs l h = h.onWire a b c d h.rings := by
  induction l generalizing h with
  | nil => exact ⟨_, _, _, _, rfl⟩
  | cons m l ih =>
    unfold pumpMsgs
    split
    · obtain ⟨a, b, c, d, e⟩ := ih { h with sent := h.sent ++ [m], credit := h.credit - m.slots, rxCredit := h.rxCredit + m.returned }
      exact ⟨a, b, c, d, e⟩
    · exact ⟨_, _, _, _, rfl⟩

theorem host_send (s : State) (m : HostMsg) : ∃ a b c d, (s.send m).host = s.host.onWire a b c d s.host.rings := by
  unfold State.send State.pump
  split
  · exact host_pumpMsgs _ _
  · exact ⟨_, _, _, _, rfl⟩

theorem host_memWrite (s : State) (addr : Nat) (d : List Byte) : ∃ a b c e, (s.memWrite addr d).host = s.host.onWire a b c e s.host.rings := by
  have hfold (f : Nat × Nat → HostMsg) (l : List (Nat × Nat)) (u : State) :
      ∃ a b c e, (l.foldl (fun s p => s.send (f p)) u).host = u.host.onWire a b c e u.host.rings := by
    induction l generalizing u with
    | nil => exact ⟨_, _, _, _, rfl⟩
    | cons p l ih =>
      obtain ⟨a, b, c, e, h⟩ := ih (u.send (f p))
      obtain ⟨a', b', c', e', h'⟩ := host_send u (f p)
      rw [h'] at h
      exact ⟨a, b, c, e, h⟩
  unfold State.memWrite
  dsimp only
  split
  · exact ⟨_, _, _, _, rfl⟩
  · exact hfold _ _ _

theorem host_ringWrite (s : State) (n : Nat) (e : List Byte) : ∃ a b c d r, (s.ringWrite n e).host = s.host.onWire a b c d r := by
  obtain ⟨a, b, c, d, h⟩ := host_memWrite s (s.slotAddr n (s.devIndex n)) e
  refine ⟨a, b, c, d, ((((s.memWrite (s.slotAddr n (s.devIndex n)) e).advance n).modRing n fun r => { r with written := r.written + 1 }).host.rings), ?_⟩
  have hrings : (s.ringWrite n e).host = { (s.memWrite (s.slotAddr n (s.devIndex n)) e).host with rings := (s.ringWrite n e).host.rings } := rfl
  rw [hrings, h]
  rfl

/-! ### Messages of a write -/

theorem memPieces_inside (fuel : Nat) {addr len : Nat} {p : Nat × Nat} (h : p ∈ memPieces fuel addr len) :
    addr ≤ p.1 ∧ p.1 + p.2 ≤ addr + len := by
  induction fuel generalizing addr len with
  | zero => cases h
  | succ fuel ih =>
    unfold memPieces at h
    split at h
    · cases h
    · rcases List.mem_cons.1 h with rfl | h
      · dsimp only
        omega
      · have := ih h
        omega

/-- The messages of a write lie in the stretch that it fills (R408). -/
theorem memWrite_messages {s : State} (addr : Nat) (d : List Byte) (hon : s.host.serviceOff = false) : ∃ l,
    (s.memWrite addr d).wire = s.wire ++ l ∧ ∀ m ∈ l, ∃ a b, m = HostMsg.memWr a b ∧ addr ≤ a ∧
      a + b.length ≤ addr + ceilDiv d.length 16 * 16 := by
  unfold State.memWrite
  dsimp only
  rw [hon, if_neg (by simp), foldl_send_wire]
  refine ⟨_, rfl, fun m hm => ?_⟩
  obtain ⟨p, hp, rfl⟩ := List.mem_map.1 hm
  obtain ⟨h1, h2⟩ := memPieces_inside _ hp
  have hlen : (padTo (ceilDiv d.length 16 * 16) d).length = ceilDiv d.length 16 * 16 := by
    simp only [padTo, List.length_append, List.length_take, zeros_length, ceilDiv]
    omega
  rw [hlen] at h2
  refine ⟨_, _, rfl, h1, ?_⟩
  have : (slice (padTo (ceilDiv d.length 16 * 16) d) (p.1 - addr) p.2).length ≤ p.2 := by simp [slice]
  omega

/-! ### A punted frame -/

/-- A punted frame goes to the ring of its class, or is counted as dropped (R449). -/
def State.puntAct (s : State) (x : Frame) (n : Nat) : State :=
  if x.damaged then s
  else if s.host.serviceOff then s.count x.port 60 1
  else if !s.ringRoom n 1 then
    (((s.count x.port 60 1).satAdd (Reg.RING_DROP_CNT_DROP n) 1).on Reg.RING_STATUS_PUNT_DROP).modRing n fun r =>
      { r with lost := min (2 ^ 32 - 1) (r.lost + 1) }
  else
    let size := 2048 * 2 ^ s.get (Reg.RING_CFG_BUF_SIZE n)
    let buf := s.get (Reg.RING_PUNT_BUF_HI_ADDR_HI n) * 2 ^ 32 + s.get (Reg.RING_PUNT_BUF_LO_ADDR n) * 4096 +
      s.devIndex n % s.ringSize n * size
    let s := s.memWrite buf (x.bytes.take size)
    (s.ringWrite n (puntBytes x size (s.ring n).lost)).modRing n fun r => { r with lost := 0 }

/-- The frame's record, which waits for the host no longer. -/
def Frame.unpunted (x : Frame) : Frame := { x with punt := 0 }

section Punt

variable {s : State} {f : Nat} {x : Frame} (hx : s.frame f = some x) (hpunt : x.punt ≠ 0) (hended : x.ended = true)
variable (hstage : x.stage = .walking ∨ x.stage = .linked)
include hx hpunt hended hstage

theorem puntWrite_eq : s.puntWrite f =
    if x.damaged = false ∧ s.host.serviceOff = false ∧ s.ringRoom (s.puntRing x.mark.cls) 1 = true ∧ s.canWrite = false then s
    else ((s.setFrame f x.unpunted).puntAct x (s.puntRing x.mark.cls)).puntGone f x := by
  have hgate : (x.punt = 0 || !x.ended || (x.stage != .walking && x.stage != .linked)) = false := by
    rcases hstage with h | h <;> simp [hpunt, hended, h]
  unfold State.puntWrite
  rw [hx]
  dsimp only
  rw [hgate, if_neg (by simp)]
  refine if_congr (by simp [and_assoc]) rfl ?_
  unfold State.puntAct
  simp only [apply_ite fun u : State => u.puntGone f x]
  rfl

end Punt

/-- The copies of a frame whose references go. -/
theorem frame_dropRefs_self {s : State} {f n : Nat} {x y : Frame} (hx : s.frame f = some x) (hy : (s.dropRefs f n).frame f = some y) :
    y = { x with copies := x.copies - n } := by
  have hmod : (s.modFrame f fun x => { x with copies := x.copies - n }).frame f = some { x with copies := x.copies - n } := by
    unfold State.modFrame
    rw [hx]
    exact mapFind_put_self ..
  unfold State.dropRefs State.reap at hy
  rw [hmod] at hy
  dsimp only at hy
  split at hy
  · have : (mapDel (s.modFrame f fun x => { x with copies := x.copies - n }).path.frames f) = _ := rfl
    cases (mapFind_del_self _ f).symm.trans hy
  · exact Option.some_inj.1 (hy.symm.trans hmod)

section Gone

variable (s : State) (f : Nat) (x : Frame)

theorem puntGone_frame {x' y : Frame} (hx : s.frame f = some x') (hy : (s.puntGone f x).frame f = some y) :
    y.punt = x'.punt ∧ y.copies = x'.copies - 1 := by
  have hpath : (s.decrementAll x.beads 1033).path = s.path := (frame_decrementAll s x.beads 1033).1 .path (by simp)
  have hframe : (s.decrementAll x.beads 1033).frame f = some x' := by
    rw [State.frame, hpath]
    exact hx
  rw [frame_dropRefs_self hframe hy]
  exact ⟨rfl, rfl⟩

theorem puntGone_host : (s.puntGone f x).host = s.host := (frame_puntGone s f x).1 .host (by simp)

theorem puntGone_counter (p : Nat) : (s.puntGone f x).counter p 60 = s.counter p 60 :=
  ((sameCounter_decrementAll (.inr (by decide)) (by decide) s x.beads 1033).trans (.of_only (frame_dropRefs _ f 1) (by simp))).counter p

theorem puntGone_ring {g : Fld} {a : Access} {r : RegFam} (i j : Nat) (hr : r ∈ famsOfPage 19) (he : (a, g) ∈ r.fields i j)
    (hn : r.name ∉ ["CNT_HALF_LO", "CNT_HALF_HI", "BUF_POOL_USED", "BUF_POOL_SHARED", "BUF_STATUS", "BUF_XOFF_POOLS", "BUF_LANDING",
      "BUF_BAD_FREE_LOC", "BUF_BAD_FREE_CNT"]) : (s.puntGone f x).get g = s.get g :=
  kept_of_only (frame_puntGone s f x) 19 i j hr he hn

end Gone

/-- What becomes of the frame's record (R449). -/
theorem puntAct_frame (s : State) (f : Nat) (x : Frame) (n : Nat) : (((s.setFrame f x.unpunted).puntAct x n).frame f) = some x.unpunted := by
  have hset : (s.setFrame f x.unpunted).frame f = some x.unpunted := mapFind_put_self ..
  have hpath : ((s.setFrame f x.unpunted).puntAct x n).path = (s.setFrame f x.unpunted).path := by
    generalize s.setFrame f x.unpunted = u
    unfold State.puntAct
    split
    · rfl
    · split
      · exact (frame_count u x.port 60 1).1 .path (by simp)
      · split
        · exact (frame_count u x.port 60 1).1 .path (by simp)
        · extract_lets size buf v
          exact ((frame_ringWrite v n _).1 .path (by simp)).trans ((frame_memWrite u _ _).1 .path (by simp))
  rw [State.frame, hpath]
  exact hset

theorem canWrite_parts {s : State} (h : s.canWrite = true) : s.linkActive = true ∧ s.host.serviceOff = false := by
  simp only [State.canWrite, Bool.and_eq_true, Bool.not_eq_true'] at h
  exact ⟨h.1.1, h.1.2⟩

theorem serviceOff_of_ringRoom {s : State} {r n : Nat} (h : s.ringRoom r n = true) : s.host.serviceOff = false := by
  simp only [State.ringRoom, Bool.and_eq_true, Bool.not_eq_true'] at h
  exact h.1.2

section Act

variable {s : State} {x : Frame} {n : Nat}

theorem puntAct_damaged (hd : x.damaged = true) : s.puntAct x n = s := by rw [State.puntAct, if_pos hd]

theorem puntAct_off (hd : x.damaged = false) (hoff : s.host.serviceOff = true) : s.puntAct x n = s.count x.port 60 1 := by
  rw [State.puntAct, if_neg (by simp [hd]), if_pos hoff]

section Full

variable (hd : x.damaged = false) (hon : s.host.serviceOff = false) (hroom : s.ringRoom n 1 = false)
include hd hon hroom

theorem puntAct_full : s.puntAct x n = (((s.count x.port 60 1).satAdd (Reg.RING_DROP_CNT_DROP n) 1).on Reg.RING_STATUS_PUNT_DROP).modRing n
    fun r => { r with lost := min (2 ^ 32 - 1) (r.lost + 1) } := by
  rw [State.puntAct, if_neg (by simp [hd]), if_neg (by simp [hon]), if_pos (by simp [hroom])]

/-- A ring without room counts and reports the frame (R449). -/
theorem puntAct_dropped : s.counted (s.puntAct x n) (Reg.RING_DROP_CNT_DROP n) ∧ (s.puntAct x n).bit Reg.RING_STATUS_PUNT_DROP = true ∧
    (s.puntAct x n).counter x.port 60 = (s.counter x.port 60 + 1) % 2 ^ 40 ∧
    ((s.puntAct x n).ring n).lost = min (2 ^ 32 - 1) ((s.ring n).lost + 1) ∧ (s.puntAct x n).host.sent = s.host.sent := by
  have hkept : (s.count x.port 60 1).get (Reg.RING_DROP_CNT_DROP n) = s.get (Reg.RING_DROP_CNT_DROP n) :=
    kept_of_only (frame_count s x.port 60 1) 19 n 0 (List.mem_of_getElem? (i := 19) rfl) (a := .rc) (by simp) (by simp)
  have hhost : (s.count x.port 60 1).host = s.host := (frame_count s x.port 60 1).1 .host (by simp)
  rw [puntAct_full hd hon hroom]
  have hcount := counter_count_self s x.port 60 1
  generalize s.count x.port 60 1 = u at *
  have hbit := get_on_self (u.satAdd (Reg.RING_DROP_CNT_DROP n) 1) Reg.RING_STATUS_PUNT_DROP (by decide)
  refine ⟨?_, bit_of_get_one hbit, hcount, ?_, ?_⟩
  · show ((u.satAdd (Reg.RING_DROP_CNT_DROP n) 1).on Reg.RING_STATUS_PUNT_DROP).get _ = _
    rw [get_on_ne _ (by simp only [Fld.key, Reg.RING_STATUS_PUNT_DROP, Reg.RING_DROP_CNT_DROP]; omega), get_satAdd_self, hkept]
  · simp [State.ring, State.modRing, State.modHost, hhost]
  · show u.host.sent = _
    rw [hhost]

end Full

section Room

variable (hd : x.damaged = false) (hroom : s.ringRoom n 1 = true)
include hd hroom

/-- A ring with room takes the bytes of the frame and its descriptor (R449). -/
theorem puntAct_written {size : Nat} (hsize : size = 2048 * 2 ^ s.get (Reg.RING_CFG_BUF_SIZE n)) (hn : 32 ≤ n) (hn' : n < 48) :
    (s.puntAct x n).devIndex n = (s.devIndex n + 1) % 2 ^ 32 ∧ ((s.puntAct x n).ring n).lost = 0 ∧
    ∃ l, (s.puntAct x n).wire = s.wire ++ l ++ [.memWr (s.slotAddr n (s.devIndex n)) (puntBytes x size (s.ring n).lost)] ∧
      ∀ m ∈ l, ∃ a d b, m = HostMsg.memWr a d ∧ b = s.get (Reg.RING_PUNT_BUF_HI_ADDR_HI n) * 2 ^ 32 +
        s.get (Reg.RING_PUNT_BUF_LO_ADDR n) * 4096 + s.devIndex n % s.ringSize n * size ∧ b ≤ a ∧ a + d.length ≤ b + size := by
  have hon := serviceOff_of_ringRoom hroom
  obtain ⟨buf, hbuf⟩ : ∃ b, b = s.get (Reg.RING_PUNT_BUF_HI_ADDR_HI n) * 2 ^ 32 + s.get (Reg.RING_PUNT_BUF_LO_ADDR n) * 4096 +
    s.devIndex n % s.ringSize n * size := ⟨_, rfl⟩
  have heq : s.puntAct x n = ((s.memWrite buf (x.bytes.take size)).ringWrite n
      (puntBytes x size ((s.memWrite buf (x.bytes.take size)).ring n).lost)).modRing n fun r => { r with lost := 0 } := by
    rw [State.puntAct, if_neg (by simp [hd]), if_neg (by simp [hon]), if_neg (by simp [hroom]), hbuf, hsize]
  obtain ⟨l, hl, hin⟩ := memWrite_messages buf (x.bytes.take size) hon
  obtain ⟨a, b, c, e, hhost⟩ := host_memWrite s buf (x.bytes.take size)
  have hframe := frame_memWrite s buf (x.bytes.take size)
  rw [heq]
  generalize s.memWrite buf (x.bytes.take size) = u at *
  have hring : u.ring n = s.ring n := by rw [State.ring, hhost]; rfl
  have hslot : u.slotAddr n (u.devIndex n) = s.slotAddr n (s.devIndex n) := by
    have hget (g : Fld) : u.get g = s.get g := hframe.2 g (by simp [regsOf])
    simp only [State.slotAddr, State.devIndex, State.ringSize, hget]
  have hindex : u.devIndex n = s.devIndex n := hframe.2 _ (by simp [regsOf])
  have hlen : (puntBytes x size (u.ring n).lost).length = entrySize n := by
    have h32 : entrySize n = 32 := by
      unfold entrySize
      rw [if_neg]
      simp
      omega
    simp [puntBytes, h32]
  have hsent := ringWrite_sends (s := u) (n := n) (e := puntBytes x size (u.ring n).lost) (by rw [hhost]; exact hon) hlen
  have hadv := devIndex_ringWrite u n (puntBytes x size (u.ring n).lost)
  rw [hring] at hsent hadv ⊢
  generalize u.ringWrite n (puntBytes x size (s.ring n).lost) = v at *
  refine ⟨?_, by simp [State.ring, State.modRing, State.modHost], l, ?_, fun m hm => ?_⟩
  · rw [← hindex]
    exact hadv
  · rw [← hl, ← hslot]
    exact hsent
  · obtain ⟨a, d, hm, h1, h2⟩ := hin m hm
    refine ⟨a, d, buf, hm, hbuf, h1, ?_⟩
    have hle : (x.bytes.take size).length ≤ size := by simp
    have h16 : ∃ k, size = 16 * k := ⟨128 * 2 ^ s.get (Reg.RING_CFG_BUF_SIZE n), by omega⟩
    obtain ⟨k, hk⟩ := h16
    unfold ceilDiv at h2
    omega

end Room

end Act

section PuntWrite

variable {s : State} (hrun : s.running = true) {f n : Nat} {x : Frame} (hx : s.frame f = some x) (hpunt : x.punt ≠ 0)
variable (hended : x.ended = true) (hstage : x.stage = .walking ∨ x.stage = .linked) (hn : n = s.puntRing x.mark.cls)
include hrun hx hpunt hended hstage hn

/-- While the link takes nothing the frame waits (R423). -/
theorem puntWrite_waits (hd : x.damaged = false) (hroom : s.ringRoom n 1 = true) (hwrite : s.canWrite = false) :
    ∃ t, exec (.puntWrite f) s = .next t ∧ s.only t [] (keysOf []) := by
  have hexec : exec (.puntWrite f) s = .next (s.puntWrite f).settle := whenUp_running hrun fun s => s.puntWrite f
  rw [puntWrite_eq hx hpunt hended hstage, ← hn, if_pos ⟨hd, serviceOff_of_ringRoom hroom, hroom, hwrite⟩] at hexec
  exact ⟨_, hexec, only_settled (only_refl s)⟩

/-- PUNT_WRITE of a frame that need not wait (R449). -/
theorem puntWrite_role (hlo : 32 ≤ n) (hhi : n < 48) (hgo : x.damaged = true ∨ s.ringRoom n 1 = false ∨ s.canWrite = true) :
    ∃ t, exec (.puntWrite f) s = .next t ∧
    (∀ y, t.frame f = some y → y.punt = 0 ∧ y.copies = x.copies - 1) ∧
    (x.damaged = false → s.ringRoom n 1 = true → s.devIndex n < 2 ^ 32 → ∀ size, size = 2048 * 2 ^ s.get (Reg.RING_CFG_BUF_SIZE n) →
      t.devIndex n = (s.devIndex n + 1) % 2 ^ 32 ∧ (t.ring n).lost = 0 ∧
      ∃ l, t.host.sent ++ t.host.waiting = s.host.sent ++ s.host.waiting ++ l ++
          [.memWr (s.slotAddr n (s.devIndex n)) (puntBytes x size (s.ring n).lost)] ∧
        ∀ m ∈ l, ∃ a d b, m = HostMsg.memWr a d ∧ b = s.get (Reg.RING_PUNT_BUF_HI_ADDR_HI n) * 2 ^ 32 +
          s.get (Reg.RING_PUNT_BUF_LO_ADDR n) * 4096 + s.devIndex n % s.ringSize n * size ∧ b ≤ a ∧ a + d.length ≤ b + size) ∧
    (x.damaged = false → s.host.serviceOff = true → t.host = s.host ∧
      t.counter x.port 60 = (s.counter x.port 60 + 1) % 2 ^ 40) ∧
    (x.damaged = false → s.host.serviceOff = false → s.ringRoom n 1 = false → s.counted t (Reg.RING_DROP_CNT_DROP n) ∧
      t.bit Reg.RING_STATUS_PUNT_DROP = true ∧ t.counter x.port 60 = (s.counter x.port 60 + 1) % 2 ^ 40 ∧
      (t.ring n).lost = min (2 ^ 32 - 1) ((s.ring n).lost + 1) ∧ t.host.sent = s.host.sent) ∧
    (x.damaged = true → t.host = s.host) ∧
    s.only t [.ports, .counters, .path, .buf, .host, .pair] (regsOf ["CNT_HALF_LO", "CNT_HALF_HI", "BUF_POOL_USED",
      "BUF_POOL_SHARED", "BUF_STATUS", "BUF_XOFF_POOLS", "BUF_LANDING", "BUF_BAD_FREE_LOC", "BUF_BAD_FREE_CNT", "RING_STATUS",
      "RING_DEV_INDEX", "RING_DROP_CNT"]) := by
  have hexec : exec (.puntWrite f) s = .next (s.puntWrite f).settle := whenUp_running hrun fun s => s.puntWrite f
  have hmoved := frame_puntWrite s f
  have hgo' : ¬ (x.damaged = false ∧ s.host.serviceOff = false ∧ s.ringRoom n 1 = true ∧ s.canWrite = false) := by
    rintro ⟨h1, -, h2, h3⟩
    simp [h1, h2, h3] at hgo
  rw [puntWrite_eq hx hpunt hended hstage, ← hn, if_neg hgo'] at hexec hmoved
  have hframe := puntAct_frame s f x n
  have hwritten := fun hd hroom size hsize => puntAct_written (s := s.setFrame f x.unpunted) (x := x) (n := n) hd hroom (size := size) hsize hlo hhi
  have hoff := fun hd ho => puntAct_off (s := s.setFrame f x.unpunted) (x := x) (n := n) hd ho
  have hdropped := fun hd ho hroom => puntAct_dropped (s := s.setFrame f x.unpunted) (x := x) (n := n) hd ho hroom
  have hdamaged := fun hd => puntAct_damaged (s := s.setFrame f x.unpunted) (x := x) (n := n) hd
  generalize hu : (s.setFrame f x.unpunted).puntAct x n = u at *
  have hhost := puntGone_host u f x
  have hcnt := puntGone_counter u f x x.port
  have hindex : (u.puntGone f x).devIndex n = u.devIndex n := puntGone_ring u f x n 0 (List.mem_of_getElem? (i := 15) rfl) (a := .ro)
    (by simp) (by simp)
  have hdrops : (u.puntGone f x).get (Reg.RING_DROP_CNT_DROP n) = u.get (Reg.RING_DROP_CNT_DROP n) :=
    puntGone_ring u f x n 0 (List.mem_of_getElem? (i := 19) rfl) (a := .rc) (by simp) (by simp)
  have hbit : (u.puntGone f x).get Reg.RING_STATUS_PUNT_DROP = u.get Reg.RING_STATUS_PUNT_DROP :=
    puntGone_ring u f x 0 0 (List.mem_of_getElem? (i := 0) rfl) (a := .w1c) (by simp) (by simp)
  have hgone := fun y hy => puntGone_frame u f x (y := y) hframe hy
  generalize u.puntGone f x = v at *
  have hring : v.ring n = u.ring n := by
    rw [State.ring, hhost]
    rfl
  refine ⟨_, hexec, hgone, fun hd hroom _ size hsize => ?_, fun hd ho => ?_, fun hd ho hroom => ?_, fun hd => ?_,
    only_settled (only_widen hmoved (by simp) (by simp))⟩
  · obtain ⟨h1, h2, l, h3, h4⟩ := hwritten hd hroom size hsize
    refine ⟨hindex.trans h1, (congrArg RingDyn.lost hring).trans h2, l, ?_, h4⟩
    exact (wire_of_host (s := u) (t := v) (congrArg HostSt.sent hhost) (congrArg HostSt.waiting hhost)).trans h3
  · have h := hoff hd ho
    have hc := counter_count_self (s.setFrame f x.unpunted) x.port 60 1
    have hh : ((s.setFrame f x.unpunted).count x.port 60 1).host = (s.setFrame f x.unpunted).host := (frame_count _ x.port 60 1).1 .host (by simp)
    rw [← h] at hc hh
    exact ⟨hhost.trans hh, hcnt.trans hc⟩
  · obtain ⟨h1, h2, h3, h4, h5⟩ := hdropped hd ho hroom
    exact ⟨hdrops.trans h1, by rw [bit_settle, State.bit, hbit]; exact h2, hcnt.trans h3,
      (congrArg RingDyn.lost hring).trans h4, (congrArg HostSt.sent hhost).trans h5⟩
  · have h := hdamaged hd
    rw [h] at hhost
    exact hhost

end PuntWrite

/-! ### The counter sweep -/

theorem dramServes_of_only {s t : State} {P : List Part} {L : List String} (h : s.only t P (regsOf L)) (hfunc : "SYS_FUNC_STATUS" ∉ L)
    (htrain : "DRAM_TRAIN" ∉ L) : t.dramServes = s.dramServes := by
  have h1 : t.get Reg.SYS_FUNC_STATUS_STATE = s.get Reg.SYS_FUNC_STATUS_STATE :=
    kept_of_only h 0 0 0 (List.mem_of_getElem? (i := 15) rfl) (a := .ro) (by simp) hfunc
  have h2 : t.get Reg.DRAM_TRAIN_STATUS = s.get Reg.DRAM_TRAIN_STATUS :=
    kept_of_only h 17 0 0 (List.mem_of_getElem? (i := 5) rfl) (a := .ro) (by simp) htrain
  rw [State.dramServes, State.dramServes, State.funcUp, State.funcUp, h1, h2]

/-- One entry of a sweep is read from staging and written to ring 62 (R450). -/
def State.sweepOne (s : State) (e : SweepEntry) (l : List SweepEntry) : State :=
  let (bad, s) := s.dramRead 2 e.burst 2 e.read
  let s := if e.lost && bad.isEmpty then s.uncorrectable 2 (granuleOf e.burst) else s
  let b := if e.lost || !bad.isEmpty then patchAt e.bytes 3 [1] else e.bytes
  State.ringWrite (s.modHost fun h => { h with sweep := l }) 62 b

theorem sweepOne_spec (s : State) (e : SweepEntry) (l : List SweepEntry) : (s.sweepOne e l).host.sweep = l ∧
    (s.sweepOne e l).host.sweepNum = s.host.sweepNum ∧ (s.sweepOne e l).host.sweepAt = s.host.sweepAt ∧
    (s.sweepOne e l).devIndex 62 = (s.devIndex 62 + 1) % 2 ^ 32 := by
  have hread := frame_dramRead s 2 e.burst 2 e.read
  unfold State.sweepOne
  generalize s.dramRead 2 e.burst 2 e.read = r at hread ⊢
  obtain ⟨bad, u⟩ := r
  dsimp only at hread ⊢
  have hv : s.only (if (e.lost && bad.isEmpty) = true then u.uncorrectable 2 (granuleOf e.burst) else u) [.dram] (regsOf ["DRAM_STATUS", "DRAM_ERR_LOC", "DRAM_CORR_CNT", "DRAM_UNCORR_CNT", "DRAM_ROW_GUARD_CNT"]) :=
    keep_if (keep_of (frame_uncorrectable u 2 _) hread (by simp) (by simp)) hread
  generalize (if (e.lost && bad.isEmpty) = true then u.uncorrectable 2 (granuleOf e.burst) else u) = v at hv ⊢
  generalize (if (e.lost || !bad.isEmpty) = true then patchAt e.bytes 3 [1] else e.bytes) = b
  have hhost : v.host = s.host := hv.1 .host (by simp)
  have hindex : v.devIndex 62 = s.devIndex 62 :=
    kept_of_only hv 19 62 0 (List.mem_of_getElem? (i := 15) rfl) (a := .ro) (by simp) (by simp)
  obtain ⟨a, c, d, r, w, hw⟩ := host_ringWrite (v.modHost fun h => { h with sweep := l }) 62 b
  have hadv := devIndex_ringWrite (v.modHost fun h => { h with sweep := l }) 62 b
  generalize State.ringWrite (v.modHost fun h => { h with sweep := l }) 62 b = t at *
  rw [hw]
  have hnum : v.host.sweepNum = s.host.sweepNum := by rw [hhost]
  have hat : v.host.sweepAt = s.host.sweepAt := by rw [hhost]
  refine ⟨rfl, hnum, hat, ?_⟩
  rw [← hindex]
  exact hadv

theorem frame_sweepOne (s : State) (e : SweepEntry) (l : List SweepEntry) : s.only (s.sweepOne e l) [.host, .dram]
    (regsOf ["DRAM_STATUS", "DRAM_ERR_LOC", "DRAM_CORR_CNT", "DRAM_UNCORR_CNT", "DRAM_ROW_GUARD_CNT", "RING_DEV_INDEX"]) := by
  have hread := only_widen (frame_dramRead s 2 e.burst 2 e.read) (Q := [.host, .dram]) (M := ["DRAM_STATUS", "DRAM_ERR_LOC", "DRAM_CORR_CNT",
    "DRAM_UNCORR_CNT", "DRAM_ROW_GUARD_CNT", "RING_DEV_INDEX"]) (by simp) (by simp)
  unfold State.sweepOne
  generalize s.dramRead 2 e.burst 2 e.read = r at hread ⊢
  obtain ⟨bad, u⟩ := r
  exact keep_of (frame_ringWrite _ 62 _) (keep_modHost _ (keep_if (keep_of (frame_uncorrectable u 2 _) hread (by simp) (by simp)) hread)
    (by simp)) (by simp) (by simp)

theorem dramServes_sweepOne (s : State) (e : SweepEntry) (l : List SweepEntry) : (s.sweepOne e l).dramServes = s.dramServes :=
  dramServes_of_only (frame_sweepOne s e l) (by simp) (by simp)

theorem flushSweep_cons {k : Nat} {s : State} {e : SweepEntry} {l : List SweepEntry} (h : s.host.sweep = e :: l) :
    flushSweep (k + 1) s = if s.ringRoom 62 1 = false ∨ s.canWrite = false ∨ s.dramServes = false then s else flushSweep k (s.sweepOne e l) := by
  rw [flushSweep, h]
  dsimp only
  refine if_congr (by simp [or_assoc]) rfl rfl

/-- The sweep writes entries in their order while ring 62 takes them (R450). -/
theorem flushSweep_spec (k : Nat) (s : State) (hk : s.host.sweep.length ≤ k) (hserves : s.dramServes = true) (hlt : s.devIndex 62 < 2 ^ 32) :
    ∃ j, (flushSweep k s).host.sweep = s.host.sweep.drop j ∧ (flushSweep k s).devIndex 62 = (s.devIndex 62 + j) % 2 ^ 32 ∧
      ((flushSweep k s).host.sweep ≠ [] → (flushSweep k s).ringRoom 62 1 = false ∨ (flushSweep k s).canWrite = false) ∧
      (flushSweep k s).host.sweepNum = s.host.sweepNum ∧ (flushSweep k s).host.sweepAt = s.host.sweepAt := by
  induction k generalizing s with
  | zero =>
    have hnil : s.host.sweep = [] := List.eq_nil_of_length_eq_zero (by omega)
    exact ⟨0, rfl, (Nat.mod_eq_of_lt hlt).symm, fun h => absurd hnil h, rfl, rfl⟩
  | succ k ih =>
    rcases hl : s.host.sweep with _ | ⟨e, l⟩
    · have hsame : flushSweep (k + 1) s = s := by rw [flushSweep, hl]
      rw [hsame]
      exact ⟨0, hl, (Nat.mod_eq_of_lt hlt).symm, fun h => absurd hl h, rfl, rfl⟩
    · rw [flushSweep_cons hl]
      split
      next hstop =>
        exact ⟨0, hl, (Nat.mod_eq_of_lt hlt).symm, fun _ => by simpa [hserves] using hstop, rfl, rfl⟩
      next =>
        obtain ⟨h1, h2, h3, h4⟩ := sweepOne_spec s e l
        obtain ⟨j, k1, k2, k3, k4, k5⟩ := ih (s.sweepOne e l) (by rw [h1]; simpa [hl] using hk)
          ((dramServes_sweepOne s e l).trans hserves) (by rw [h4]; exact Nat.mod_lt _ (by decide))
        refine ⟨j + 1, by rw [k1, h1]; rfl, ?_, k3, k4.trans h2, k5.trans h3⟩
        rw [k2, h4]
        omega

section Sweep

variable {s : State} (hrun : s.running = true) (met : List (Nat × ReadOutcome))
include hrun

theorem exec_counterSweep : exec (.counterSweep met) s = .next (s.counterSweep met).settle :=
  whenUp_running hrun fun s => s.counterSweep met

/-- No sweep starts while DRAM does not serve, without the enable, or before its time (R450). -/
theorem counterSweep_waits (h : s.dramServes = false ∨ s.bit Reg.RING_CNT_CTRL_EN = false ∨
    s.cycle < s.host.sweepAt + s.get Reg.RING_CNT_CTRL_PERIOD_MS * msCycles) :
    ∃ t, exec (.counterSweep met) s = .next t ∧ s.only t [] (keysOf []) := by
  have hexec := exec_counterSweep hrun met
  have heq : s.counterSweep met = s := by
    unfold State.counterSweep
    split
    · rfl
    next hserves =>
      have hs : s.dramServes = true := by simpa using hserves
      rw [if_pos (by simpa [hs] using h)]
  rw [heq] at hexec
  exact ⟨_, hexec, only_settled (only_refl s)⟩

/-- The entries of a sweep that starts now. -/
def State.sweepList (s : State) (met : List (Nat × ReadOutcome)) : List SweepEntry :=
  ((List.range 1024).filter s.isPort).flatMap fun p =>
    s.counterEntries s.host.sweepNum p (match met.find? (·.1 == p) with | some r => r.2 | none => cleanRead)

/-- The entries of a sweep go to staging (Table 14-2). -/
def State.stageAll (s : State) (l : List SweepEntry) : State := l.foldl (fun s e => s.dramWrite 2 e.burst 2) s

omit hrun in
theorem frame_stageAll (l : List SweepEntry) : s.only (s.stageAll l) [.dram] (regsOf ["DRAM_STATUS", "DRAM_ROW_GUARD_CNT"]) := by
  induction l generalizing s with
  | nil => exact only_id s _ _
  | cons e l ih => exact only_then (frame_dramWrite s 2 e.burst 2) ih

/-- The entries of a sweep wait for ring 62. -/
def State.beginSweep (s : State) (l : List SweepEntry) : State := s.modHost fun h => { h with sweep := l, sweepNum := h.sweepNum + 1 }

/-- The last sweep started now. -/
def State.sweepNow (s : State) : State := s.modHost fun h => { h with sweepAt := s.cycle }

section Due

variable (hserves : s.dramServes = true) (hen : s.bit Reg.RING_CNT_CTRL_EN = true)
variable (hat : s.host.sweepAt + s.get Reg.RING_CNT_CTRL_PERIOD_MS * msCycles ≤ s.cycle)
include hserves hen hat

omit hrun in
theorem counterSweep_due : s.counterSweep met =
    if s.host.sweep ≠ [] then
      ((s.modHost fun h => { h with sweepAt := s.cycle }).satAdd Reg.RING_CNT_SKIP_CNT_COUNT 1).on Reg.RING_STATUS_CNT_SKIP
    else flushSweep (s.sweepList met).length ((s.sweepNow.stageAll (s.sweepList met)).beginSweep (s.sweepList met)) := by
  unfold State.counterSweep
  rw [if_neg (by simp [hserves]), if_neg (by simp [hen]; omega)]
  dsimp only
  refine if_congr (by simp [State.modHost]) rfl rfl

/-- A sweep that starts before the last is written is skipped (R450). -/
theorem counterSweep_skips (hne : s.host.sweep ≠ []) : ∃ t, exec (.counterSweep met) s = .next t ∧
    s.counted t Reg.RING_CNT_SKIP_CNT_COUNT ∧ t.bit Reg.RING_STATUS_CNT_SKIP = true ∧ t.host.sweepAt = s.cycle ∧
    t.host.sweep = s.host.sweep ∧ s.only t [.host] (regsOf ["RING_STATUS", "RING_CNT_SKIP_CNT"]) := by
  have hexec := exec_counterSweep hrun met
  rw [counterSweep_due met hserves hen hat, if_pos hne] at hexec
  refine ⟨_, hexec, ?_, ?_, rfl, rfl, only_settled ?_⟩
  · rw [State.counted, get_settle, get_on_ne _ (by decide), get_satAdd_self]
    rfl
  · rw [bit_settle]
    exact bit_of_get_one (get_on_self _ _ (by decide))
  · exact keep_on _ (keep_satAdd _ _ (keep_modHost _ (only_id s _ _) (by simp)) (reg_RING_CNT_SKIP_CNT_COUNT (by simp)))
      (reg_RING_STATUS_CNT_SKIP (by simp))

/-- A sweep takes the entries of every port through staging to ring 62 (R450). -/
theorem counterSweep_starts (hnil : s.host.sweep = []) (hlt : s.devIndex 62 < 2 ^ 32) : ∃ t k, exec (.counterSweep met) s = .next t ∧
    t.host.sweep = (s.sweepList met).drop k ∧ t.devIndex 62 = (s.devIndex 62 + k) % 2 ^ 32 ∧
    (t.host.sweep ≠ [] → t.ringRoom 62 1 = false ∨ t.canWrite = false) ∧
    t.host.sweepNum = s.host.sweepNum + 1 ∧ t.host.sweepAt = s.cycle ∧
    s.only t [.host, .dram] (regsOf ["RING_DEV_INDEX", "DRAM_STATUS", "DRAM_ERR_LOC", "DRAM_CORR_CNT", "DRAM_UNCORR_CNT",
      "DRAM_ROW_GUARD_CNT"]) := by
  have hexec := exec_counterSweep hrun met
  rw [counterSweep_due met hserves hen hat, if_neg (by simp [hnil])] at hexec
  generalize s.sweepList met = l at *
  have hwrites := frame_stageAll (s := s.sweepNow) l
  have hstaged : s.only ((s.sweepNow.stageAll l).beginSweep l) [.host, .dram] (regsOf ["RING_DEV_INDEX", "DRAM_STATUS", "DRAM_ERR_LOC",
      "DRAM_CORR_CNT", "DRAM_UNCORR_CNT", "DRAM_ROW_GUARD_CNT"]) :=
    keep_modHost _ (keep_of hwrites (keep_modHost _ (only_id s _ _) (by simp)) (by simp) (by simp)) (by simp)
  have hserve : (s.sweepNow.stageAll l).dramServes = true := (dramServes_of_only hwrites (by simp) (by simp)).trans hserves
  have hindex : (s.sweepNow.stageAll l).devIndex 62 = s.sweepNow.devIndex 62 :=
    kept_of_only hwrites 19 62 0 (List.mem_of_getElem? (i := 15) rfl) (a := .ro) (by simp) (by simp)
  have hhost : (s.sweepNow.stageAll l).host = s.sweepNow.host := hwrites.1 .host (by simp)
  generalize s.sweepNow.stageAll l = w at *
  have hnum : (w.beginSweep l).host.sweepNum = s.host.sweepNum + 1 := by
    show w.host.sweepNum + 1 = _
    rw [hhost]
    rfl
  have hfrom : (w.beginSweep l).host.sweepAt = s.cycle := by
    show w.host.sweepAt = _
    rw [hhost]
    rfl
  have hsweep : (w.beginSweep l).host.sweep = l := rfl
  have hserve' : (w.beginSweep l).dramServes = true := hserve
  have hindex' : (w.beginSweep l).devIndex 62 = s.devIndex 62 := hindex
  generalize w.beginSweep l = v at *
  obtain ⟨j, h1, h2, h3, h4, h5⟩ := flushSweep_spec l.length v (by rw [hsweep]) hserve' (by rw [hindex']; exact hlt)
  have hframe := keep_of (frame_flushSweep l.length v) hstaged (by simp) (by simp)
  generalize flushSweep l.length v = t at *
  exact ⟨_, j, hexec, by rw [← hsweep]; exact h1, by rw [← hindex']; exact h2, h3, h4.trans hnum, h5.trans hfrom, only_settled hframe⟩

end Due

end Sweep

/-- Settles O49: a punted frame by what stands in its way, and a sweep entry by entry. -/
theorem puntsAndSweepsReachTheHost : Obligations.PuntsAndSweepsReachTheHost := by
  unfold Obligations.PuntsAndSweepsReachTheHost
  intro s hrun
  refine ⟨fun f x n hx hpunt hended hstage hn hlo hhi _ => ⟨fun hd hroom hwrite =>
    puntWrite_waits hrun hx hpunt hended hstage hn hd hroom hwrite, fun hgo => puntWrite_role hrun hx hpunt hended hstage hn hlo hhi hgo⟩,
    fun met => ⟨fun h => counterSweep_waits hrun met h, fun hserves hen hat => ⟨fun hne => counterSweep_skips hrun met hserves hen hat hne,
      fun hnil hlt => counterSweep_starts hrun met hserves hen hat hnil hlt⟩⟩⟩

end Sys2Proof.Machine
end

section
/-! DRAM parks, wakes and enters service, and training begins (R394 to R401, R556). -/

-- One proof at a time: side by side they take more threads than the memory bound of the check leaves room for.
set_option Elab.async false

namespace Sys2Proof.Machine

/-! ### Draining the writes of a pseudo-channel -/

theorem writes_guardRow (s : State) (bank row : Nat) : (s.guardRow bank row).dram.writes = s.dram.writes := by
  unfold State.guardRow
  split <;> split <;> rfl

theorem writes_openRow (s : State) (pc bank row : Nat) : (s.openRow pc bank row).dram.writes = s.dram.writes := by
  have hguard : (s.rowGuard bank row).dram.writes = s.dram.writes := by
    unfold State.rowGuard
    split
    · exact writes_guardRow s bank row
    · rfl
  exact hguard

theorem writes_serveWrites (l : List (Nat × Nat)) (last : Option Nat) (s : State) : (serveWrites last l s).dram.writes = s.dram.writes := by
  induction l generalizing last s with
  | nil => rw [serveWrites]
  | cons w l ih =>
    rw [serveWrites, ih]
    show (if last = some (granuleOf w.1) then s else _).dram.writes = _
    split
    · rfl
    · exact writes_openRow ..

theorem writes_drainWrites (s : State) (pc q : Nat) :
    mapGet (s.drainWrites pc 0).dram.writes q [] = if q = pc then [] else mapGet s.dram.writes q [] := by
  unfold State.drainWrites
  dsimp only
  rw [writes_serveWrites]
  have hdrop (l : List (Nat × Nat)) : l.drop (l.length - 0) = [] := by simp
  show mapGet (mapSet s.dram.writes pc _ []) q [] = _
  rw [hdrop]
  split
  next h => rw [h, mapGet_set_self]
  next h => exact mapGet_set_ne _ _ _ _ (Ne.symm h)

/-- The first `n` pseudo-channels of a stack have no write left. -/
theorem writes_drained (stack n : Nat) (s : State) : ∀ i, i < n →
    mapGet ((List.range n).foldl (fun s i => s.drainWrites (32 * stack + i) 0) s).dram.writes (32 * stack + i) [] = [] := by
  induction n with
  | zero => intro i hi; omega
  | succ n ih =>
    intro i hi
    rw [List.range_succ, List.foldl_append, List.foldl_cons, List.foldl_nil, writes_drainWrites]
    split
    · rfl
    · exact ih i (by omega)

/-! ### Parking and waking -/

theorem parked_setParked (s : State) (k : Nat) (b : Bool) : (s.setParked k b).parked k = b := by
  unfold State.setParked State.parked State.bit
  split
  · rw [get_setB_self _ _ _ (by decide)]
    cases b <;> rfl
  · rw [get_setB_self _ _ _ (by decide)]
    cases b <;> rfl

/-- The first `n` pseudo-channels of a stack have been recalibrated now (R399). -/
def recalled (k now n : Nat) (m : SMap Nat) : SMap Nat := (List.range n).foldl (fun m i => mapPut m (32 * k + i) now) m

theorem mapFind_recalled (k now n : Nat) (m : SMap Nat) : ∀ i, i < n → mapFind (recalled k now n m) (32 * k + i) = some now := by
  induction n with
  | zero => intro i hi; omega
  | succ n ih =>
    intro i hi
    rw [recalled, List.range_succ, List.foldl_append, List.foldl_cons, List.foldl_nil]
    by_cases h : i = n
    · rw [h, mapFind_put_self]
    · rw [mapFind_put_ne _ _ (by omega)]
      exact ih i (by omega)

/-- The record of a stack that restarts now (R395). -/
def wakened (k now : Nat) (d : DramSt) : DramSt :=
  { d with recalAt := recalled k now 32 d.recalAt, lastReq := mapPut d.lastReq k now }

theorem wakened_times (k now : Nat) (d : DramSt) : (∀ i, i < 32 → mapFind (wakened k now d).recalAt (32 * k + i) = some now) ∧
    mapFind (wakened k now d).lastReq k = some now := by
  simp only [wakened]
  exact ⟨mapFind_recalled k now 32 d.recalAt, mapFind_put_self ..⟩

section Power

variable {s : State} (hrun : s.running = true) {k : Nat} (hk : k < 2)
include hrun hk

/-- STACK_PARK (R395). -/
theorem stackPark_role (hserv : s.bit Reg.DRAM_CTRL_SERVICE = true) (hen : s.bit Reg.DRAM_CTRL_PARK_EN = true)
    (hup : s.parked k = false) (hidle : mapGet s.dram.lastReq k 0 + s.get Reg.DRAM_PWR_PARK_MS * msCycles ≤ s.cycle) :
    ∃ t, exec (.stackPark k) s = .next t ∧
      t.parked k = true ∧ s.counted t Reg.DRAM_PARK_CNT_COUNT ∧ (∀ i, i < 32 → mapGet t.dram.writes (32 * k + i) [] = []) ∧
      s.only t [.dram] (regsOf ["DRAM_STATUS", "DRAM_PARK_CNT", "DRAM_ROW_GUARD_CNT"]) := by
  have hexec : exec (.stackPark k) s = .next (s.park k).settle :=
    (onObject_ok hk _).trans (whenUp_running hrun fun s => s.park k)
  have hmoved := frame_park s k
  have heq : s.park k = ((((List.range 32).foldl (fun s i => s.drainWrites (32 * k + i) 0) s).setParked k true).satAdd
      Reg.DRAM_PARK_CNT_COUNT 1) := by
    unfold State.park
    rw [if_pos (by simp [hserv, hen, hup, hidle])]
  have hdrained := writes_drained k 32 s
  have hframe : s.only ((List.range 32).foldl (fun s i => s.drainWrites (32 * k + i) 0) s) [.dram] (regsOf ["DRAM_ROW_GUARD_CNT"]) :=
    only_foldl _ (fun u i => frame_drainWrites u (32 * k + i) 0) _ _
  rw [heq] at hexec hmoved
  generalize (List.range 32).foldl (fun s i => s.drainWrites (32 * k + i) 0) s = u at *
  have hcount : (u.setParked k true).get Reg.DRAM_PARK_CNT_COUNT = s.get Reg.DRAM_PARK_CNT_COUNT := by
    have hset : (u.setParked k true).get Reg.DRAM_PARK_CNT_COUNT = u.get Reg.DRAM_PARK_CNT_COUNT := by
      unfold State.setParked
      split <;> exact get_setB_ne _ _ (by decide)
    exact hset.trans (kept_of_only hframe 17 0 0 (List.mem_of_getElem? (i := 15) rfl) (a := .rc) (by simp) (by simp))
  have hwrites : (u.setParked k true).dram = u.dram := by
    unfold State.setParked
    split <;> rfl
  have hparked := parked_setParked u k true
  generalize u.setParked k true = v at *
  refine ⟨_, hexec, ?_, ?_, ?_, only_settled (only_widen hmoved (by simp) (by simp))⟩
  · show (v.satAdd Reg.DRAM_PARK_CNT_COUNT 1).parked k = true
    rw [← hparked]
    unfold State.parked State.bit State.satAdd
    rw [get_set_ne _ _ (by decide), get_set_ne _ _ (by decide)]
  · rw [State.counted, get_settle, get_satAdd_self, hcount]
  · intro i hi
    have h := hdrained i hi
    rw [← hwrites] at h
    exact h

/-- STACK_WAKE (R395, R399). -/
theorem stackWake_role :
    (s.parked k = true → ∃ t, exec (.stackWake k) s = .next t ∧ t.parked k = false ∧
      (∀ i, i < 32 → mapFind t.dram.recalAt (32 * k + i) = some s.cycle) ∧ mapFind t.dram.lastReq k = some s.cycle ∧
      s.only t [.dram] (regsOf ["DRAM_STATUS"])) ∧
    (s.parked k = false → ∃ t, exec (.stackWake k) s = .next t ∧ s.only t [] (keysOf [])) := by
  have hexec : exec (.stackWake k) s = .next (s.wake k).settle :=
    (onObject_ok hk _).trans (whenUp_running hrun fun s => s.wake k)
  have hmoved := frame_wake s k
  refine ⟨fun hp => ?_, fun hp => ?_⟩
  · have heq : s.wake k = (s.setParked k false).modDram (wakened k s.cycle) := by
      rw [State.wake, if_pos hp]
      rfl
    rw [heq] at hexec hmoved
    have hparked : ((s.setParked k false).modDram (wakened k s.cycle)).parked k = false := parked_setParked s k false
    have hdram : ((s.setParked k false).modDram (wakened k s.cycle)).dram = wakened k s.cycle (s.setParked k false).dram := rfl
    generalize (s.setParked k false).modDram (wakened k s.cycle) = u at *
    obtain ⟨h1, h2⟩ := wakened_times k s.cycle (s.setParked k false).dram
    rw [← hdram] at h1 h2
    exact ⟨_, hexec, hparked, h1, h2, only_settled hmoved⟩
  · have heq : s.wake k = s := by rw [State.wake, if_neg (by simp [hp])]
    rw [heq] at hexec
    exact ⟨_, hexec, only_settled (only_refl s)⟩

/-- SID_IDLE (R396). -/
theorem sidIdle_role {sid : Nat} (hsid : sid < 3) (hserv : s.bit Reg.DRAM_CTRL_SERVICE = false)
    (hidle : mapGet s.dram.lastSid (k * 3 + sid) 0 + s.get Reg.DRAM_PWR_SID_IDLE_MS * msCycles ≤ s.cycle) :
    ∃ t, exec (.sidIdle k sid) s = .next t ∧ k * 3 + sid ∈ t.dram.sidIdle ∧ s.only t [.dram] (keysOf []) := by
  have hexec : exec (.sidIdle k sid) s = .next (s.idleSid k sid).settle :=
    ((onObject_ok hk _).trans (onObject_ok hsid _)).trans (whenUp_running hrun fun s => s.idleSid k sid)
  have heq : s.idleSid k sid = if k * 3 + sid ∈ s.dram.sidIdle then s
      else s.modDram fun d => { d with sidIdle := d.sidIdle ++ [k * 3 + sid] } := by
    unfold State.idleSid
    by_cases h : k * 3 + sid ∈ s.dram.sidIdle <;> simp [h, hserv, hidle]
  rw [heq] at hexec
  split at hexec
  next h => exact ⟨_, hexec, h, only_settled (only_id s _ _)⟩
  next => exact ⟨_, hexec, by simp [State.modDram], only_settled (keep_modDram _ (only_id s _ _) (by simp))⟩

end Power

/-- DRAM_RECAL (R399). -/
theorem dramRecal_role {s : State} (hrun : s.running = true) {pc : Nat} (hpc : pc < 64) (hserv : s.bit Reg.DRAM_CTRL_SERVICE = true)
    (hup : s.parked (stackOf pc) = false) (hat : mapGet s.dram.recalAt pc 0 + s.get Reg.DRAM_RECAL_RECAL_MS * msCycles ≤ s.cycle) :
    ∃ t, exec (.dramRecal pc) s = .next t ∧ mapFind t.dram.recalAt pc = some s.cycle ∧ s.only t [.dram] (keysOf []) := by
  have hexec : exec (.dramRecal pc) s = .next (s.recalPc pc).settle :=
    (onObject_ok hpc _).trans (whenUp_running hrun fun s => s.recalPc pc)
  have heq : s.recalPc pc = s.modDram fun d => { d with recalAt := mapPut d.recalAt pc s.cycle } := by
    unfold State.recalPc
    rw [if_pos (by simp [hserv, hup, hat])]
  rw [heq] at hexec
  exact ⟨_, hexec, mapFind_put_self .., only_settled (keep_modDram _ (only_id s _ _) (by simp))⟩

/-! ### Training begins -/

theorem startTraining_spec (s : State) : s.startTraining.get Reg.DRAM_TRAIN_STATUS = 1 ∧ s.startTraining.dram.trained = [] ∧
    s.startTraining.hasRoutine (· == .dramTraining) = true := by
  refine ⟨?_, rfl, ?_⟩
  · show ((s.set Reg.DRAM_TRAIN_STATUS 1).set Reg.DRAM_TRAIN_LANE_REPAIRED 0).get Reg.DRAM_TRAIN_STATUS = 1
    rw [get_set_ne _ _ (by decide), get_set_self]
    rfl
  · exact hasRoutine_request _ _ _

/-- What DRAM held is lost: the contexts, and the entries of the backing ring (R398). -/
theorem loseDram_lost (s : State) : s.loseDram.flow.contexts = [] ∧ ∀ e ∈ s.loseDram.tally.ring, e.lost = true := by
  refine ⟨rfl, fun e he => ?_⟩
  obtain ⟨x, -, rfl⟩ := List.mem_map.1 (show e ∈ List.map _ _ from he)
  rfl

/-- DRAM_TRAINING_REQUEST (R556). -/
theorem trainRequest_role {s : State} (hrun : s.running = true) (hasked : s.plat.trainAsked = false) (hboot : s.get Reg.SEC_BOOT_STATE = 1) :
    (s.bit Reg.SYS_START_STATUS_PATCH_SETTLED = true ∨
      (s.plat.bootDoneAt + 100 * msCycles ≤ s.cycle ∧ s.get Reg.RCK_PATCH_STATUS_STATE = 0) →
      ∃ t, exec .dramTrainingRequest s = .next t ∧ t.get Reg.DRAM_TRAIN_STATUS = 1 ∧ t.plat.trainAsked = true ∧
        t.bit Reg.SYS_START_STATUS_PATCH_SETTLED = true ∧ t.hasRoutine (· == .dramTraining) = true ∧
        s.only t [.reck, .dram, .plat] (regsOf ["SYS_START_STATUS", "DRAM_TRAIN"])) ∧
    (s.bit Reg.SYS_START_STATUS_PATCH_SETTLED = false → s.cycle < s.plat.bootDoneAt + 100 * msCycles →
      ∃ t, exec .dramTrainingRequest s = .next t ∧ s.only t [] (keysOf [])) := by
  have hexec : exec .dramTrainingRequest s = .next s.trainRequest.settle := whenUp_running hrun fun s => s.trainRequest
  have hmoved := frame_trainRequest s
  refine ⟨fun h => ?_, fun hset hat => ?_⟩
  · have heq : s.trainRequest =
        ((s.modPlat fun p => { p with trainAsked := true }).on Reg.SYS_START_STATUS_PATCH_SETTLED).startTraining := by
      unfold State.trainRequest
      rw [if_neg]
      rcases h with h | ⟨h1, h2⟩ <;> simp_all
    rw [heq] at hexec hmoved
    have hset : ((s.modPlat fun p => { p with trainAsked := true }).on Reg.SYS_START_STATUS_PATCH_SETTLED).get
        Reg.SYS_START_STATUS_PATCH_SETTLED = 1 := get_on_self _ _ (by decide)
    have hplat : ((s.modPlat fun p => { p with trainAsked := true }).on Reg.SYS_START_STATUS_PATCH_SETTLED).plat.trainAsked = true := rfl
    generalize (s.modPlat fun p => { p with trainAsked := true }).on Reg.SYS_START_STATUS_PATCH_SETTLED = u at *
    obtain ⟨h1, -, h3⟩ := startTraining_spec u
    have hkept : u.startTraining.get Reg.SYS_START_STATUS_PATCH_SETTLED = u.get Reg.SYS_START_STATUS_PATCH_SETTLED :=
      kept_of_only (frame_startTraining u) 0 0 0 (List.mem_of_getElem? (i := 17) rfl) (a := .ro) (by simp) (by simp)
    have hplat' : u.startTraining.plat = u.plat := (frame_startTraining u).1 .plat (by simp)
    generalize u.startTraining = v at *
    refine ⟨_, hexec, h1, ?_, ?_, h3, only_settled hmoved⟩
    · rw [settle_plat, hplat', hplat]
    · rw [bit_settle]
      exact bit_of_get_one (hkept.trans hset)
  · have heq : s.trainRequest = s := by
      unfold State.trainRequest
      rw [if_pos]
      simp [hset]
      omega
    rw [heq] at hexec
    exact ⟨_, hexec, only_settled (only_refl s)⟩

end Sys2Proof.Machine
end

section
/-! The writes and the read of the DRAM page that start training and enter service (R394, R398, R401). -/

-- One proof at a time: side by side they take more threads than the memory bound of the check leaves room for.
set_option Elab.async false

namespace Sys2Proof.Machine

/-! ### DRAM_CTRL -/

/-- The fields of DRAM_CTRL. -/
def dramCtrlFields : List (Access × Fld) :=
  [(.rw, Reg.DRAM_CTRL_SCRUB_EN), (.rw, Reg.DRAM_CTRL_PARK_EN), (.rw, Reg.DRAM_CTRL_SERVICE)]

/-- DRAM_CTRL after a write. -/
def State.ctrlWritten (s : State) (v : Nat) : State :=
  ((s.set Reg.DRAM_CTRL_SCRUB_EN (b2n (bitOf v 2))).set Reg.DRAM_CTRL_PARK_EN (b2n (bitOf v 1))).set Reg.DRAM_CTRL_SERVICE (b2n (bitOf v 0))

theorem storeFields_dramCtrl (s : State) (v : Nat) : s.storeFields dramCtrlFields v = s.ctrlWritten v := by
  rw [dramCtrlFields, storeFields_rw, storeFields_rw, storeFields_rw, storeFields_nil]
  show ((s.set Reg.DRAM_CTRL_SCRUB_EN (bits v 2 1)).set Reg.DRAM_CTRL_PARK_EN (bits v 1 1)).set Reg.DRAM_CTRL_SERVICE (bits v 0 1) = _
  rw [bits_one, bits_one, bits_one]
  rfl

theorem within_dramCtrl {v : Nat} (hv : v < 8) : within v (definedBits dramCtrlFields) = true := by
  have hmask : definedBits dramCtrlFields = 2 ^ 3 - 1 := by decide
  rw [within, hmask, Nat.and_two_pow_sub_one_eq_mod, Nat.mod_eq_of_lt hv, beq_self_eq_true]

theorem bit_ctrlWritten (s : State) (v : Nat) : (s.ctrlWritten v).bit Reg.DRAM_CTRL_SERVICE = bitOf v 0 ∧
    (s.ctrlWritten v).bit Reg.DRAM_CTRL_PARK_EN = bitOf v 1 ∧ (s.ctrlWritten v).bit Reg.DRAM_CTRL_SCRUB_EN = bitOf v 2 := by
  have hbit (b : Bool) : (b2n b % 2 ^ 1 != 0) = b := by cases b <;> rfl
  unfold State.ctrlWritten State.bit
  refine ⟨?_, ?_, ?_⟩
  · rw [get_set_self]
    exact hbit _
  · rw [get_set_ne _ _ (by decide), get_set_self]
    exact hbit _
  · rw [get_set_ne _ _ (by decide), get_set_ne _ _ (by decide), get_set_self]
    exact hbit _

theorem only_ctrlWritten (s : State) (v : Nat) : s.only (s.ctrlWritten v) [.dram] (regsOf ["DRAM_CTRL"]) :=
  keep_set _ _ (keep_set _ _ (keep_set _ _ (only_id s _ _) (regsOf_mem 17 0 0 0 _ .rw rfl (by simp) (by simp))) (regsOf_mem 17 0 0 0 _ .rw rfl (by simp) (by simp)))
    (regsOf_mem 17 0 0 0 _ .rw rfl (by simp) (by simp))

/-- No SID stays in idle mode in service (R396). -/
def State.sidsAwake (s : State) : State := s.modDram fun d => { d with sidIdle := [] }

section Write

variable {s : State} (hs : s.served) (hf : s.funcUp .dram = true)
include hs hf

/-- DRAM_SERVICE_WRITE (R394). -/
theorem dramServiceWrite_role {v : Nat} (hv : v < 8) :
    (bitOf v 0 = true → s.get Reg.DRAM_TRAIN_STATUS ≠ 2 → s.turnsAway (.dramServiceWrite v) .busy) ∧
    (bitOf v 0 = false ∨ s.get Reg.DRAM_TRAIN_STATUS = 2 → s.takes (.dramServiceWrite v) [.dram] (regsOf ["DRAM_CTRL"]) fun t =>
      t.bit Reg.DRAM_CTRL_SERVICE = bitOf v 0 ∧ t.bit Reg.DRAM_CTRL_PARK_EN = bitOf v 1 ∧ t.bit Reg.DRAM_CTRL_SCRUB_EN = bitOf v 2 ∧
      (bitOf v 0 = true → t.dram.sidIdle = [])) := by
  have hdown : s.pageDown true 0x1100000 = false := by simp [State.pageDown, pageOf, pageFunc, hf]
  refine ⟨fun hb hst => ?_, fun h => ?_⟩
  · refine turnsAway_of_write hs regIs_DRAM_CTRL (page := 17) (off := 0) (by decide) (by decide) hdown trivial (by omega)
      (within_dramCtrl hv) (by decide) rfl (st := .busy) ?_ (by decide)
    exact if_pos (by simp [hb, hst])
  · have hcheck : s.pageCheck 17 0 v = .ok := if_neg (by rcases h with h | h <;> simp [h])
    obtain ⟨h1, h2, h3⟩ := bit_ctrlWritten s v
    cases hb : bitOf v 0 with
    | false =>
      refine takes_of_write hs regIs_DRAM_CTRL (page := 17) (off := 0) (t := s.ctrlWritten v) (by decide) (by decide) hdown trivial (by omega)
        (within_dramCtrl hv) (by decide) rfl hcheck ?_ (only_ctrlWritten s v) ?_ ?_
      · rw [← storeFields_dramCtrl]
        exact if_neg (by simp [hb])
      · exact not_regsOf 0 0 0 (List.mem_of_getElem? (i := 12) rfl) (a := .wo) (by simp) (by simp)
      · exact ⟨h1.trans hb, h2, h3, fun h => by cases h⟩
    | true =>
      refine takes_of_write hs regIs_DRAM_CTRL (page := 17) (off := 0) (t := (s.ctrlWritten v).sidsAwake) (by decide) (by decide) hdown
        trivial (by omega) (within_dramCtrl hv) (by decide) rfl hcheck ?_ (keep_modDram _ (only_ctrlWritten s v) (by simp)) ?_ ?_
      · rw [← storeFields_dramCtrl]
        show dramEffect _ 0 v = _
        unfold dramEffect
        rw [if_neg (by simp), if_pos (by simp [hb])]
        rfl
      · exact not_regsOf 0 0 0 (List.mem_of_getElem? (i := 12) rfl) (a := .wo) (by simp) (by simp)
      · exact ⟨h1.trans hb, h2, h3, fun _ => rfl⟩

/-- DRAM_TRAIN_START (R397, R398). -/
theorem dramTrainStart_role :
    (s.bit Reg.DRAM_CTRL_SERVICE = true ∨ s.get Reg.DRAM_TRAIN_STATUS = 1 → s.turnsAway .dramTrainStart .busy) ∧
    (s.bit Reg.DRAM_CTRL_SERVICE = false → s.get Reg.DRAM_TRAIN_STATUS ≠ 1 →
      ∃ t, exec .dramTrainStart s = .next t ∧ t.lastStatus = .ok ∧ t.get Reg.DRAM_TRAIN_STATUS = 1 ∧ t.dram.trained = [] ∧
        t.hasRoutine (· == .dramTraining) = true ∧ t.flow.contexts = [] ∧ (∀ e ∈ t.tally.ring, e.lost = true) ∧
        s.only t [.answer, .ports, .counters, .events, .reck, .path, .flow, .buf, .tm, .tally, .host, .dram, .pair] (regsOf
          ["CNT_HALF_LO", "CNT_HALF_HI", "TALLY_STATUS", "TALLY_RING_LEVEL", "TALLY_LOST_CNT", "FLOW_USED", "BUF_POOL_USED",
          "BUF_POOL_SHARED", "BUF_STATUS", "BUF_XOFF_POOLS", "BUF_LANDING", "BUF_BAD_FREE_LOC", "BUF_BAD_FREE_CNT", "BUF_SPILL_USED",
          "QUE_COPIES", "DRAM_TRAIN", "RING_DEV_INDEX"])) := by
  have hdown : s.pageDown true 0x1100014 = false := by simp [State.pageDown, pageOf, pageFunc, hf]
  have hbit : bitOf (2 ^ 31) 31 = true := by decide
  refine ⟨fun h => ?_, fun hserv hst => ?_⟩
  · refine turnsAway_of_write hs regIs_DRAM_TRAIN (page := 17) (off := 0x14) (by decide) (by decide) hdown trivial (by decide)
      (by decide) (by decide) rfl (st := .busy) ?_ (by decide)
    exact if_pos (by rw [hbit]; rcases h with h | h <;> simp [h])
  · have hmoved : s.only s.loseDram.startTraining [.answer, .ports, .counters, .events, .reck, .path, .flow, .buf, .tm, .tally, .host, .dram,
        .pair] (regsOf ["CNT_HALF_LO", "CNT_HALF_HI", "TALLY_STATUS", "TALLY_RING_LEVEL", "TALLY_LOST_CNT", "FLOW_USED", "BUF_POOL_USED",
        "BUF_POOL_SHARED", "BUF_STATUS", "BUF_XOFF_POOLS", "BUF_LANDING", "BUF_BAD_FREE_LOC", "BUF_BAD_FREE_CNT", "BUF_SPILL_USED",
        "QUE_COPIES", "DRAM_TRAIN", "RING_DEV_INDEX"]) :=
      keep_of (frame_startTraining _) (only_widen (frame_loseDram s) (by simp) (by simp)) (by simp) (by simp)
    obtain ⟨h1, h2⟩ := loseDram_lost s
    obtain ⟨k1, k2, k3⟩ := startTraining_spec s.loseDram
    have hflow : s.loseDram.startTraining.flow = s.loseDram.flow := (frame_startTraining _).1 .flow (by simp)
    have htally : s.loseDram.startTraining.tally = s.loseDram.tally := (frame_startTraining _).1 .tally (by simp)
    have hexec : exec .dramTrainStart s = .next (s.loseDram.startTraining.answered .ok) := by
      refine pageWrite_ok hs regIs_DRAM_TRAIN (page := 17) (off := 0x14) (by decide) (by decide) hdown trivial (by decide)
        (by decide) (by decide) (if_neg (by simp [hserv, hst])) ?_ ?_
      · rw [storeFields_wo, storeFields_ro, storeFields_ro, storeFields_nil]
        show dramEffect _ 0x14 (2 ^ 31) = _
        unfold dramEffect
        rw [if_pos (by decide)]
      · exact (kept_of_only hmoved 0 0 0 (List.mem_of_getElem? (i := 12) rfl) (a := .wo) (by simp) (by simp)).trans
          (get_warmReset_of_served hs)
    generalize s.loseDram.startTraining = u at *
    refine ⟨_, hexec, rfl, k1, k2, k3, ?_, ?_, only_widen (only_answered .ok hmoved) (by simp) (by simp)⟩
    · exact (congrArg FlowSt.contexts hflow).trans h1
    · intro e he
      exact h2 e (htally ▸ he)

/-- DRAM_TRAIN_READ (R401). -/
theorem dramTrainRead_role (hst : s.get Reg.DRAM_TRAIN_STATUS < 4) :
    ∃ t, exec .dramTrainRead s = .next t ∧ t.lastStatus = .ok ∧
      t.lastData = 4 * s.get Reg.DRAM_TRAIN_LANE_REPAIRED + s.get Reg.DRAM_TRAIN_STATUS ∧ t.dram.trainUnread = false ∧
      s.only t [.answer, .dram] (keysOf []) := by
  have hword : s.readFields [(.wo, Reg.DRAM_TRAIN_START), (.ro, Reg.DRAM_TRAIN_LANE_REPAIRED), (.ro, Reg.DRAM_TRAIN_STATUS)] =
      4 * s.get Reg.DRAM_TRAIN_LANE_REPAIRED + s.get Reg.DRAM_TRAIN_STATUS := by
    have h : s.readFields [(.wo, Reg.DRAM_TRAIN_START), (.ro, Reg.DRAM_TRAIN_LANE_REPAIRED), (.ro, Reg.DRAM_TRAIN_STATUS)] =
        (0 ||| s.get Reg.DRAM_TRAIN_LANE_REPAIRED <<< 2) ||| s.get Reg.DRAM_TRAIN_STATUS <<< 0 := rfl
    rw [h, Nat.zero_or, Nat.shiftLeft_zero, ← Nat.shiftLeft_add_eq_or_of_lt (by omega), Nat.shiftLeft_eq]
    omega
  have hread : s.hostRead 0x1100014 = { s.trainRead with lastStatus := .ok, lastData := s.readFields [
      (.wo, Reg.DRAM_TRAIN_START), (.ro, Reg.DRAM_TRAIN_LANE_REPAIRED), (.ro, Reg.DRAM_TRAIN_STATUS)] } := by
    rw [State.hostRead, readReg_served hs regIs_DRAM_TRAIN (by simp [State.pageDown, pageOf, pageFunc, hf])]
    rfl
  have hexec : exec .dramTrainRead s = .next (s.hostRead 0x1100014).settle := whenUp_running hs.1 fun s => s.hostRead 0x1100014
  rw [hread, hword] at hexec
  exact ⟨_, hexec, rfl, rfl, rfl, only_settled (keep_part (keep_refl s [.answer, .dram] (keysOf [])) rfl fun q hq => by
    cases q <;> simp_all [Part.same, State.trainRead, State.modDram])⟩

end Write

end Sys2Proof.Machine
end

section
/-! Training goes through the pseudo-channels (R397). -/

-- One proof at a time: side by side they take more threads than the memory bound of the check leaves room for.
set_option Elab.async false

namespace Sys2Proof.Machine

/-! ### Failed pseudo-channels and lanes -/

theorem failPc_trained (s : State) (pc : Nat) : (s.failPc pc).dram.trained = s.dram.trained ∧ (s.failPc pc).dram.lanes = s.dram.lanes ∧
    (s.failPc pc).dram.trainBad = s.dram.trainBad ∧ (s.failPc pc).reck = s.reck := by
  unfold State.failPc
  split <;> exact ⟨rfl, rfl, rfl, rfl⟩

theorem pcFailed_failPc (s : State) {a b : Nat} (ha : a < 64) (hb : b < 64) :
    (s.failPc a).pcFailed b = if b = a then true else s.pcFailed b := by
  have hon (u : State) : (((u.on Reg.DRAM_STATUS_PC_FAIL).modDram fun d => { d with writes := mapDel d.writes a }).pcFailed b) = u.pcFailed b := by
    unfold State.pcFailed
    show (if b < 32 then bitOf ((u.on Reg.DRAM_STATUS_PC_FAIL).get _) b else bitOf ((u.on Reg.DRAM_STATUS_PC_FAIL).get _) (b - 32)) = _
    rw [get_on_ne _ (by decide), get_on_ne _ (by decide)]
  unfold State.failPc
  dsimp only
  rw [hon]
  unfold State.pcFailed
  by_cases h1 : a < 32
  · rw [if_pos h1]
    by_cases h2 : b < 32
    · rw [if_pos h2, if_pos h2, bitOf_putBit _ _ _ (by exact h2)]
    · rw [if_neg h2, if_neg h2, get_putBit_ne _ _ _ (by decide), if_neg (by omega)]
  · rw [if_neg h1]
    by_cases h2 : b < 32
    · rw [if_pos h2, if_pos h2, get_putBit_ne _ _ _ (by decide), if_neg (by omega)]
    · rw [if_neg h2, if_neg h2, bitOf_putBit _ _ _ (by show b - 32 < 32; omega)]
      exact if_congr (by omega) rfl rfl

theorem mapLanes_lanes (s : State) (c n : Nat) : mapGet (s.mapLanes c n).dram.lanes c 0 = mapGet s.dram.lanes c 0 + n := by
  unfold State.mapLanes
  dsimp only
  split
  next h => rw [h, Nat.add_zero]
  · split
    · exact mapGet_put_self ..
    · exact mapGet_put_self ..

theorem mapLanes_kept (s : State) (c n : Nat) : (s.mapLanes c n).dram.trained = s.dram.trained ∧
    (s.mapLanes c n).dram.trainBad = s.dram.trainBad ∧ (s.mapLanes c n).get Reg.DRAM_TRAIN_STATUS = s.get Reg.DRAM_TRAIN_STATUS := by
  unfold State.mapLanes
  dsimp only
  split
  · exact ⟨rfl, rfl, rfl⟩
  · split
    · refine ⟨rfl, rfl, ?_⟩
      rw [get_satAdd_ne _ _ (by decide), get_set_ne _ _ (by decide)]
      rfl
    · exact ⟨rfl, rfl, rfl⟩

/-- The first failing lane of a channel goes onto the spare lane and is counted (R397). -/
theorem mapLanes_repairs (s : State) {c n : Nat} (hn : 1 ≤ n) (h : mapGet s.dram.lanes c 0 = 0) :
    s.counted (s.mapLanes c n) Reg.DRAM_LANE_REPAIRED_CNT_COUNT ∧
      (s.mapLanes c n).get Reg.DRAM_TRAIN_LANE_REPAIRED = (s.get Reg.DRAM_TRAIN_LANE_REPAIRED + 1) % 256 := by
  unfold State.mapLanes
  dsimp only
  rw [if_neg (by omega), if_pos h]
  refine ⟨?_, ?_⟩
  · rw [State.counted, get_satAdd_self, get_set_ne _ _ (by decide)]
    rfl
  · rw [get_satAdd_ne _ _ (by decide), get_set_self]
    rfl

theorem mapLanes_counts_once (s : State) {c n : Nat} (h : n = 0 ∨ 1 ≤ mapGet s.dram.lanes c 0) :
    (s.mapLanes c n).get Reg.DRAM_LANE_REPAIRED_CNT_COUNT = s.get Reg.DRAM_LANE_REPAIRED_CNT_COUNT := by
  unfold State.mapLanes
  dsimp only
  split
  · rfl
  · rw [if_neg (by omega)]
    rfl

/-! ### One pseudo-channel -/

/-- A channel's state after one of its pseudo-channels has been trained, before training may end (R397). -/
def State.pcTrained (s : State) (pc : Nat) (good twice : Bool) : State :=
  let s := if good then s else s.failPc pc
  let s := if twice then s.failPc (pc / 2 * 2 + (1 - pc % 2)) else s
  s.modDram fun d => { d with trained := d.trained ++ [pc], trainBad := d.trainBad || !good }

/-- The end of training (R397). -/
def State.trainEnded (s : State) : State :=
  let bad := s.dram.trainBad
  let s := ((s.set Reg.DRAM_TRAIN_STATUS (if bad then 3 else 2)).modDram fun d => { d with trainUnread := true }).endRoutine
    (· == .dramTraining)
  let starting := bits (s.get Reg.SYS_FUNC_STATUS_STATE) 18 2 == 1 && !s.plat.reinit.contains 9
  if !starting then s
  else if bad then ((s.setFunc 9 2).putBit Reg.SYS_FUNC_EVT_FAILED 9 true).on Reg.SYS_START_STATUS_FAILED
  else s.setFunc 9 0

theorem trainPc_eq {s : State} {pc n : Nat} {ok : Bool} (hst : s.get Reg.DRAM_TRAIN_STATUS = 1) (hnew : pc ∉ s.dram.trained)
    (hrun : s.runsRoutine .dramTraining = true) (bad : Nat) (hbad : bad = mapGet s.dram.lanes (pc / 2) 0 + n) :
    s.trainPc pc n ok =
      if ((s.mapLanes (pc / 2) n).pcTrained pc (ok && decide (bad < 2)) (decide (2 ≤ bad))).dram.trained.length < 64 then
        (s.mapLanes (pc / 2) n).pcTrained pc (ok && decide (bad < 2)) (decide (2 ≤ bad))
      else ((s.mapLanes (pc / 2) n).pcTrained pc (ok && decide (bad < 2)) (decide (2 ≤ bad))).trainEnded := by
  unfold State.trainPc
  rw [if_neg (by simp [hst, hnew, hrun])]
  dsimp only
  have htwice : decide (mapGet (s.mapLanes (pc / 2) n).dram.lanes (pc / 2) 0 ≥ 2) = decide (2 ≤ bad) := by
    rw [mapLanes_lanes, hbad]
  have hgood : (ok && !decide (2 ≤ bad)) = (ok && decide (bad < 2)) := by
    have h : (!decide (2 ≤ bad)) = decide (bad < 2) := by
      rw [← decide_not]
      exact decide_eq_decide.2 (by omega)
    rw [h]
  rw [htwice, hgood]
  rfl

section PcTrained

variable (s : State) {pc : Nat} (good twice : Bool)

theorem frame_pcTrained : s.only (s.pcTrained pc good twice) [.dram] (regsOf ["DRAM_STATUS", "DRAM_PC_FAILED_LO", "DRAM_PC_FAILED_HI"]) := by
  unfold State.pcTrained
  extract_lets u v
  have hu : s.only u [.dram] (regsOf ["DRAM_STATUS", "DRAM_PC_FAILED_LO", "DRAM_PC_FAILED_HI"]) :=
    keep_if (only_id s _ _) (frame_failPc s pc)
  exact keep_modDram _ (keep_if (keep_of (frame_failPc u _) hu (by simp) (by simp)) hu) (by simp)

theorem pcTrained_dram : (s.pcTrained pc good twice).dram.trained = s.dram.trained ++ [pc] ∧
    (s.pcTrained pc good twice).dram.trainBad = (s.dram.trainBad || !good) ∧ (s.pcTrained pc good twice).dram.lanes = s.dram.lanes := by
  unfold State.pcTrained
  extract_lets u v
  have hu : u.dram.trained = s.dram.trained ∧ u.dram.trainBad = s.dram.trainBad ∧ u.dram.lanes = s.dram.lanes := by
    unfold u
    split
    · exact ⟨rfl, rfl, rfl⟩
    · obtain ⟨h1, h2, h3, -⟩ := failPc_trained s pc
      exact ⟨h1, h3, h2⟩
  have hv : v.dram.trained = u.dram.trained ∧ v.dram.trainBad = u.dram.trainBad ∧ v.dram.lanes = u.dram.lanes := by
    unfold v
    split
    · obtain ⟨h1, h2, h3, -⟩ := failPc_trained u (pc / 2 * 2 + (1 - pc % 2))
      exact ⟨h1, h3, h2⟩
    · exact ⟨rfl, rfl, rfl⟩
  obtain ⟨u1, u2, u3⟩ := hu
  obtain ⟨v1, v2, v3⟩ := hv
  exact ⟨congrArg (· ++ [pc]) (v1.trans u1), congrArg (· || !good) (v2.trans u2), v3.trans u3⟩

/-- The pseudo-channels that have failed (R388, R397). -/
theorem pcFailed_pcTrained (hpc : pc < 64) {k : Nat} (hk : k < 64) : (s.pcTrained pc good twice).pcFailed k =
    (s.pcFailed k || (!good && decide (k = pc)) || (twice && decide (k = pc / 2 * 2 + (1 - pc % 2)))) := by
  unfold State.pcTrained
  extract_lets u v
  have hu : u.pcFailed k = (s.pcFailed k || (!good && decide (k = pc))) := by
    unfold u
    cases good
    · rw [if_neg (by decide), pcFailed_failPc _ hpc hk]
      by_cases h : k = pc <;> simp [h]
    · simp
  have hv : v.pcFailed k = (u.pcFailed k || (twice && decide (k = pc / 2 * 2 + (1 - pc % 2)))) := by
    unfold v
    cases twice
    · simp
    · rw [if_pos rfl, pcFailed_failPc _ (by omega) hk]
      by_cases h : k = pc / 2 * 2 + (1 - pc % 2) <;> simp [h]
  rw [← hu, ← hv]
  rfl

end PcTrained

/-- What the end of training shows (R397). -/
theorem trainEnded_spec (s : State) : s.trainEnded.get Reg.DRAM_TRAIN_STATUS = (if s.dram.trainBad then 3 else 2) ∧
    s.trainEnded.runsRoutine .dramTraining = false ∧ s.trainEnded.dram.trained = s.dram.trained ∧ s.trainEnded.dram.lanes = s.dram.lanes := by
  unfold State.trainEnded
  extract_lets bad u starting
  have hst : u.get Reg.DRAM_TRAIN_STATUS = if bad then 3 else 2 := by
    refine (get_set_self s Reg.DRAM_TRAIN_STATUS _).trans ?_
    cases bad <;> rfl
  have hruns : u.runsRoutine .dramTraining = false := runsRoutine_endRoutine _ _
  have hdram : u.dram.trained = s.dram.trained ∧ u.dram.lanes = s.dram.lanes := ⟨rfl, rfl⟩
  obtain ⟨h1, h2⟩ := hdram
  have hreck {v : State} (hv : v.reck = u.reck) : v.runsRoutine .dramTraining = false := by
    rw [State.runsRoutine, hv]
    exact hruns
  clear_value u starting
  split
  · exact ⟨hst, hruns, h1, h2⟩
  · split
    next hbad =>
      rw [if_pos hbad] at hst
      refine ⟨?_, hreck (by simp), by simpa using h1, by simpa using h2⟩
      rw [get_on_ne (f := Reg.SYS_START_STATUS_FAILED) _ (by decide), get_putBit_ne (f := Reg.SYS_FUNC_EVT_FAILED) _ _ _ (by decide)]
      exact (get_set_ne (f := Reg.SYS_FUNC_STATUS_STATE) _ _ (by decide)).trans hst
    next hbad =>
      rw [if_neg hbad] at hst
      refine ⟨?_, hreck rfl, h1, h2⟩
      rw [State.setFunc, get_set_ne _ _ (by decide)]
      exact hst

/-! ### The step of the routine -/

/-- A checkpoint starts no routine. -/
theorem runsRoutine_countCheckpoint {s : State} {k : RoutineKind} (e p : Nat) (h : s.runsRoutine k = false) :
    (s.countCheckpoint e p).runsRoutine k = false := by
  unfold State.countCheckpoint
  split
  next r hr =>
    have hreck (u : State) : u.syncEngines.reck = u.reck := (frame_syncEngines u).1 .reck (by simp)
    rw [State.runsRoutine, hreck]
    rw [State.runsRoutine, List.any_eq_false] at h
    rw [List.any_eq_false]
    intro x hx
    rcases (mem_mapIns _ _ _ _).1 hx with rfl | hx
    · exact h (e, r) (mem_of_mapFind hr)
    · exact h x (List.mem_of_mem_filter hx)
  next => exact h

theorem countCheckpoint_dram (s : State) (e p : Nat) : (s.countCheckpoint e p).dram = s.dram := (frame_countCheckpoint s e p).1 .dram (by simp)

theorem trainStep_eq {s : State} {pc n : Nat} {ok : Bool} (hrun : s.runsRoutine .dramTraining = true)
    (hlen : (s.trainPc pc n ok).dram.trained.length = s.dram.trained.length + 1) :
    ∃ e p, s.trainStep pc n ok = (s.trainPc pc n ok).countCheckpoint e p := by
  unfold State.trainStep
  cases hfind : s.reck.engines.find? fun x => x.2.kind == .dramTraining with
  | none =>
    obtain ⟨x, hx, hkind⟩ := List.any_eq_true.1 hrun
    exact absurd hkind (List.find?_eq_none.1 hfind x hx)
  | some x =>
    obtain ⟨k, r⟩ := x
    exact ⟨_, _, if_neg (by omega)⟩

/-- What the training of one pseudo-channel leaves, before its checkpoint (R397). -/
structure State.TrainedOne (s t : State) (pc n bad : Nat) (good : Bool) : Prop where
  trained : t.dram.trained = s.dram.trained ++ [pc]
  failed : ∀ k, k < 64 → t.pcFailed k =
    (s.pcFailed k || (!good && decide (k = pc)) || (decide (2 ≤ bad) && decide (k = pc / 2 * 2 + (1 - pc % 2))))
  ended : s.dram.trained.length = 63 → t.get Reg.DRAM_TRAIN_STATUS = (if good ∧ s.dram.trainBad = false then 2 else 3) ∧
    t.runsRoutine .dramTraining = false
  goesOn : s.dram.trained.length < 63 → t.get Reg.DRAM_TRAIN_STATUS = 1
  lanes : mapGet t.dram.lanes (pc / 2) 0 = bad
  repaired : 1 ≤ n → mapGet s.dram.lanes (pc / 2) 0 = 0 → s.counted t Reg.DRAM_LANE_REPAIRED_CNT_COUNT ∧
    t.get Reg.DRAM_TRAIN_LANE_REPAIRED = (s.get Reg.DRAM_TRAIN_LANE_REPAIRED + 1) % 256
  once : n = 0 ∨ 1 ≤ mapGet s.dram.lanes (pc / 2) 0 →
    t.get Reg.DRAM_LANE_REPAIRED_CNT_COUNT = s.get Reg.DRAM_LANE_REPAIRED_CNT_COUNT

/-- The end of training keeps the registers of the lanes and of the pseudo-channels. -/
theorem frame_trainEnded (s : State) : (∀ k, s.trainEnded.pcFailed k = s.pcFailed k) ∧
    s.trainEnded.get Reg.DRAM_LANE_REPAIRED_CNT_COUNT = s.get Reg.DRAM_LANE_REPAIRED_CNT_COUNT ∧
    s.trainEnded.get Reg.DRAM_TRAIN_LANE_REPAIRED = s.get Reg.DRAM_TRAIN_LANE_REPAIRED := by
  have hget {f : Fld} (h1 : Fld.key Reg.DRAM_TRAIN_STATUS ≠ Fld.key f) (h2 : Fld.key Reg.SYS_FUNC_STATUS_STATE ≠ Fld.key f)
      (h3 : Fld.key Reg.SYS_FUNC_EVT_FAILED ≠ Fld.key f) (h4 : Fld.key Reg.SYS_START_STATUS_FAILED ≠ Fld.key f) :
      s.trainEnded.get f = s.get f := by
    unfold State.trainEnded
    extract_lets bad u starting
    have hu : u.get f = s.get f := get_set_ne s _ h1
    clear_value u starting
    split
    · exact hu
    · split
      · rw [get_on_ne (f := Reg.SYS_START_STATUS_FAILED) _ h4, get_putBit_ne (f := Reg.SYS_FUNC_EVT_FAILED) _ _ _ h3]
        exact (get_set_ne u _ h2).trans hu
      · exact (get_set_ne u _ h2).trans hu
  refine ⟨fun k => ?_, hget (by decide) (by decide) (by decide) (by decide), hget (by decide) (by decide) (by decide) (by decide)⟩
  rw [State.pcFailed, State.pcFailed, hget (by decide) (by decide) (by decide) (by decide),
    hget (by decide) (by decide) (by decide) (by decide)]

section Training

variable {s : State} {pc n : Nat} {ok : Bool} (hpc : pc < 64) (hst : s.get Reg.DRAM_TRAIN_STATUS = 1) (hnew : pc ∉ s.dram.trained)
variable (hruns : s.runsRoutine .dramTraining = true) {bad : Nat} (hbad : bad = mapGet s.dram.lanes (pc / 2) 0 + n)
include hpc hst hnew hruns hbad

theorem trainPc_trained : s.TrainedOne (s.trainPc pc n ok) pc n bad (ok && decide (bad < 2)) := by
  rw [trainPc_eq hst hnew hruns bad hbad]
  generalize (ok && decide (bad < 2)) = good
  obtain ⟨m1, m2, m3⟩ := mapLanes_kept s (pc / 2) n
  have m4 := mapLanes_lanes s (pc / 2) n
  have m5 := fun hn h => mapLanes_repairs s (c := pc / 2) (n := n) hn h
  have m6 := fun h => mapLanes_counts_once s (c := pc / 2) (n := n) h
  have m7 (k : Nat) : (s.mapLanes (pc / 2) n).pcFailed k = s.pcFailed k := by
    have h := frame_mapLanes s (pc / 2) n
    rw [State.pcFailed, State.pcFailed, kept_of_only h 17 0 0 (List.mem_of_getElem? (i := 7) rfl) (a := .ro) (f := Reg.DRAM_PC_FAILED_LO_FAILED)
      (by simp) (by simp), kept_of_only h 17 0 0 (List.mem_of_getElem? (i := 8) rfl) (a := .ro) (f := Reg.DRAM_PC_FAILED_HI_FAILED)
      (by simp) (by simp)]
  generalize s.mapLanes (pc / 2) n = u at *
  obtain ⟨d1, d2, d3⟩ := pcTrained_dram u (pc := pc) good (decide (2 ≤ bad))
  have hframe := frame_pcTrained u (pc := pc) good (decide (2 ≤ bad))
  have hfailed := fun k hk => pcFailed_pcTrained u good (decide (2 ≤ bad)) hpc (k := k) hk
  have hstatus := kept_of_only hframe 17 0 0 (List.mem_of_getElem? (i := 5) rfl) (a := .ro) (f := Reg.DRAM_TRAIN_STATUS) (by simp) (by simp)
  have hrepair := kept_of_only hframe 17 0 0 (List.mem_of_getElem? (i := 5) rfl) (a := .ro) (f := Reg.DRAM_TRAIN_LANE_REPAIRED)
    (by simp) (by simp)
  have hcnt : (u.pcTrained pc good (decide (2 ≤ bad))).get Reg.DRAM_LANE_REPAIRED_CNT_COUNT = u.get Reg.DRAM_LANE_REPAIRED_CNT_COUNT :=
    kept_of_only hframe 17 0 0 (List.mem_of_getElem? (i := 16) rfl) (a := .rc) (by simp) (by simp)
  generalize u.pcTrained pc good (decide (2 ≤ bad)) = v at *
  have hlen : v.dram.trained.length = s.dram.trained.length + 1 := by rw [d1, m1]; simp
  rw [hlen]
  split
  next hlt =>
    exact ⟨by rw [d1, m1], fun k hk => by rw [hfailed k hk, m7], fun h => by omega, fun _ => by rw [hstatus, m3, hst],
      by rw [d3, m4, hbad], fun hn h => ⟨by rw [State.counted, hcnt]; exact (m5 hn h).1, by rw [hrepair]; exact (m5 hn h).2⟩,
      fun h => by rw [hcnt, m6 h]⟩
  next hge =>
    obtain ⟨e1, e2, e3, e4⟩ := trainEnded_spec v
    obtain ⟨f1, f2, f3⟩ := frame_trainEnded v
    refine ⟨by rw [e3, d1, m1], fun k hk => by rw [f1, hfailed k hk, m7], fun _ => ⟨?_, e2⟩, fun h => by omega,
      by rw [e4, d3, m4, hbad], fun hn h => ⟨by rw [State.counted, f2, hcnt]; exact (m5 hn h).1, by rw [f3, hrepair]; exact (m5 hn h).2⟩,
      fun h => by rw [f2, hcnt, m6 h]⟩
    rw [e1, d2, m2]
    cases good <;> cases s.dram.trainBad <;> rfl

/-- DRAM_TRAINING (R397). -/
theorem dramTraining_role (hrun : s.running = true) {good : Bool} (hgood : good = (ok && decide (bad < 2))) :
    ∃ t, exec (.dramTraining pc n ok) s = .next t ∧ t.dram.trained = s.dram.trained ++ [pc] ∧
      (good = false → t.pcFailed pc = true) ∧ (good = true → t.pcFailed pc = s.pcFailed pc) ∧
      (2 ≤ bad → ∀ k, k < 64 → k / 2 = pc / 2 → t.pcFailed k = true) ∧
      (s.dram.trained.length = 63 → t.get Reg.DRAM_TRAIN_STATUS = (if good ∧ s.dram.trainBad = false then 2 else 3) ∧
        t.runsRoutine .dramTraining = false) ∧
      (s.dram.trained.length < 63 → t.get Reg.DRAM_TRAIN_STATUS = 1) ∧
      mapGet t.dram.lanes (pc / 2) 0 = bad ∧
      (1 ≤ n → mapGet s.dram.lanes (pc / 2) 0 = 0 → s.counted t Reg.DRAM_LANE_REPAIRED_CNT_COUNT ∧
        t.get Reg.DRAM_TRAIN_LANE_REPAIRED = (s.get Reg.DRAM_TRAIN_LANE_REPAIRED + 1) % 256) ∧
      (n = 0 ∨ 1 ≤ mapGet s.dram.lanes (pc / 2) 0 → t.get Reg.DRAM_LANE_REPAIRED_CNT_COUNT = s.get Reg.DRAM_LANE_REPAIRED_CNT_COUNT) ∧
      s.only t [.reck, .dram] (regsOf ["SYS_FUNC_STATUS", "SYS_FUNC_EVT", "SYS_START_STATUS", "DRAM_TRAIN", "DRAM_STATUS",
        "DRAM_PC_FAILED_LO", "DRAM_PC_FAILED_HI", "DRAM_LANE_REPAIRED_CNT", "RCK_ENG_STATUS"]) := by
  have hexec : exec (.dramTraining pc n ok) s = .next (s.trainStep pc n ok).settle :=
    (onObject_ok hpc _).trans (whenUp_running hrun fun s => s.trainStep pc n ok)
  have hmoved := frame_trainStep s pc n ok
  have h := trainPc_trained (ok := ok) hpc hst hnew hruns hbad
  rw [← hgood] at h
  obtain ⟨e, p, heq⟩ := trainStep_eq (ok := ok) hruns (by rw [h.trained]; simp)
  rw [heq] at hexec hmoved
  generalize s.trainPc pc n ok = u at *
  have hdram := countCheckpoint_dram u e p
  have hends := fun h => runsRoutine_countCheckpoint (s := u) (k := .dramTraining) e p h
  have hframe := frame_countCheckpoint u e p
  have hget {f : Fld} {a : Access} {r : RegFam} (hr : r ∈ famsOfPage 17) (he : (a, f) ∈ r.fields 0 0) (hn : r.name ∉ ["RCK_ENG_STATUS"]) :
      (u.countCheckpoint e p).get f = u.get f := kept_of_only hframe 17 0 0 hr he hn
  have hstatus : (u.countCheckpoint e p).get Reg.DRAM_TRAIN_STATUS = u.get Reg.DRAM_TRAIN_STATUS :=
    hget (List.mem_of_getElem? (i := 5) rfl) (a := .ro) (by simp) (by simp)
  have hrepair : (u.countCheckpoint e p).get Reg.DRAM_TRAIN_LANE_REPAIRED = u.get Reg.DRAM_TRAIN_LANE_REPAIRED :=
    hget (List.mem_of_getElem? (i := 5) rfl) (a := .ro) (by simp) (by simp)
  have hcnt : (u.countCheckpoint e p).get Reg.DRAM_LANE_REPAIRED_CNT_COUNT = u.get Reg.DRAM_LANE_REPAIRED_CNT_COUNT :=
    hget (List.mem_of_getElem? (i := 16) rfl) (a := .rc) (by simp) (by simp)
  have hfailed (k : Nat) : (u.countCheckpoint e p).pcFailed k = u.pcFailed k := by
    rw [State.pcFailed, State.pcFailed, hget (List.mem_of_getElem? (i := 7) rfl) (a := .ro) (f := Reg.DRAM_PC_FAILED_LO_FAILED) (by simp)
      (by simp), hget (List.mem_of_getElem? (i := 8) rfl) (a := .ro) (f := Reg.DRAM_PC_FAILED_HI_FAILED) (by simp) (by simp)]
  have hall (k : Nat) (hk : k < 64) := (hfailed k).trans (h.failed k hk)
  generalize u.countCheckpoint e p = v at *
  have hother : pc ≠ pc / 2 * 2 + (1 - pc % 2) := by omega
  refine ⟨_, hexec, ?_, fun hg => (hall pc hpc).trans (by simp [hg]), fun hg => (hall pc hpc).trans (by simp [hg, hother]),
    fun h2 k hk hpair => (hall k hk).trans ?_, fun h63 => ⟨hstatus.trans (h.ended h63).1, hends (h.ended h63).2⟩,
    fun hlt => hstatus.trans (h.goesOn hlt), ?_, fun hn h0 => ⟨hcnt.trans (h.repaired hn h0).1, hrepair.trans (h.repaired hn h0).2⟩,
    fun h0 => hcnt.trans (h.once h0), only_settled hmoved⟩
  · rw [settle_dram, hdram, h.trained]
  · have hbad' : good = false := by rw [hgood, decide_eq_false (by omega), Bool.and_false]
    rcases (by omega : k = pc ∨ k = pc / 2 * 2 + (1 - pc % 2)) with hk' | hk' <;> simp [hk', hbad', h2]
  · rw [settle_dram, hdram, h.lanes]

end Training

/-- Settles O45: parking and waking by the record of the stack, training by one pseudo-channel at a time, and the writes of the page. -/
theorem dramParksIdlesAndTrains : Obligations.DramParksIdlesAndTrains := by
  unfold Obligations.DramParksIdlesAndTrains
  intro s hrun
  exact ⟨fun k hk hserv hen hup hidle => stackPark_role hrun hk hserv hen hup hidle, fun k hk => stackWake_role hrun hk,
    fun k sid hk hsid hserv hidle => sidIdle_role hrun hk hsid hserv hidle,
    fun pc hpc hserv hup hat => dramRecal_role hrun hpc hserv hup hat, fun v hs hf hv => dramServiceWrite_role hs hf hv,
    fun hs hf => dramTrainStart_role hs hf,
    fun pc n ok bad good hpc hst hnew hruns hbad hgood => dramTraining_role hpc hst hnew hruns hbad hrun hgood,
    fun hs hf hst _ => dramTrainRead_role hs hf hst, fun hasked hboot => trainRequest_role hrun hasked hboot⟩

end Sys2Proof.Machine
end

section
/-! The host link trains, comes up and retrains (R403 to R406, R423). -/

-- One proof at a time: side by side they take more threads than the memory bound of the check leaves room for.
set_option Elab.async false

namespace Sys2Proof.Machine

/-! ### States of the link -/

@[simp] theorem get_modHost (s : State) (f : HostSt → HostSt) (g : Fld) : (s.modHost f).get g = s.get g := get_of_regs rfl g

theorem get_setLink (s : State) {st : Nat} (h : st < 8) : (s.setLink st).get Reg.HLINK_STATUS_STATE = st := by
  unfold State.setLink
  rw [get_setB_ne _ _ (by decide), get_set_self]
  exact Nat.mod_eq_of_lt h

theorem bit_setLink_active (s : State) (st : Nat) : (s.setLink st).bit Reg.SYS_START_STATUS_LINK_ACTIVE = (st == 2) := by
  unfold State.setLink State.bit
  rw [get_setB_self _ _ _ (by decide)]
  cases st == 2 <;> rfl

theorem get_trainAt (s : State) (rate : Nat) : (s.trainAt rate).get Reg.HLINK_STATUS_STATE = 1 ∧
    (s.trainAt rate).get Reg.HLINK_STATUS_RATE = rate % 4 := by
  unfold State.trainAt
  refine ⟨?_, get_set_self ..⟩
  rw [get_set_ne _ _ (by decide)]
  exact get_setLink _ (by decide)

/-! ### Training -/

section Training

variable {s : State} (hrun : s.running = true)
include hrun

theorem exec_linkTraining (ok : Bool) : exec (.linkTraining ok) s = .next (s.linkTraining ok).settle :=
  whenUp_running hrun fun s => s.linkTraining ok

/-- From DOWN training starts at MAX_RATE (R403). -/
theorem linkTraining_starts (hst : s.get Reg.HLINK_STATUS_STATE = 0) : ∃ t, exec (.linkTraining true) s = .next t ∧
    t.get Reg.HLINK_STATUS_STATE = 1 ∧ t.get Reg.HLINK_STATUS_RATE = s.get Reg.HLINK_CTRL_MAX_RATE % 4 ∧
    t.host.rate = s.get Reg.HLINK_CTRL_MAX_RATE ∧ t.host.tries = 0 ∧ s.only t [.host] (regsOf ["SYS_START_STATUS", "HLINK_STATUS"]) := by
  have hexec := exec_linkTraining hrun true
  have hmoved := frame_linkTraining s true
  have heq : s.linkTraining true = s.trainAt (s.get Reg.HLINK_CTRL_MAX_RATE) := by
    unfold State.linkTraining
    rw [hst]
    rfl
  rw [heq] at hexec hmoved
  obtain ⟨h1, h2⟩ := get_trainAt s (s.get Reg.HLINK_CTRL_MAX_RATE)
  exact ⟨_, hexec, h1, h2, rfl, rfl, only_settled hmoved⟩

/-- A rate that fails three times in a row gives way to the next lower (R403). -/
theorem linkTraining_fails (hst : s.get Reg.HLINK_STATUS_STATE = 1) : ∃ t, exec (.linkTraining false) s = .next t ∧
    (s.host.tries < 2 → t.get Reg.HLINK_STATUS_STATE = 1 ∧ t.host.tries = s.host.tries + 1 ∧ t.host.rate = s.host.rate) ∧
    (2 ≤ s.host.tries → s.host.rate < 3 → t.get Reg.HLINK_STATUS_STATE = 1 ∧ t.host.tries = 0 ∧ t.host.rate = s.host.rate + 1 ∧
      t.get Reg.HLINK_STATUS_RATE = s.host.rate + 1) ∧
    (2 ≤ s.host.tries → 3 ≤ s.host.rate → t.get Reg.HLINK_STATUS_STATE = 4) ∧
    s.only t [.host] (regsOf ["SYS_START_STATUS", "HLINK_STATUS"]) := by
  have hexec := exec_linkTraining hrun false
  have hmoved := frame_linkTraining s false
  have heq : s.linkTraining false = if 2 ≤ s.host.tries then
      (if 3 ≤ s.host.rate then (s.modHost fun h => { h with trainSince := s.cycle }).setLink 4 else s.trainAt (s.host.rate + 1))
      else s.modHost fun h => { h with tries := h.tries + 1 } := by
    unfold State.linkTraining State.trainingFailed
    rw [hst]
    simp [hst]
  rw [heq] at hexec hmoved
  obtain ⟨h1, h2⟩ := get_trainAt s (s.host.rate + 1)
  have h4 := get_setLink (s.modHost fun h => { h with trainSince := s.cycle }) (st := 4) (by decide)
  refine ⟨_, hexec, fun hlt => ?_, fun hge hr => ?_, fun hge hr => ?_, only_settled hmoved⟩
  · rw [if_neg (by omega)]
    exact ⟨hst, rfl, rfl⟩
  · rw [if_pos hge, if_neg (by omega)]
    exact ⟨h1, rfl, rfl, h2.trans (Nat.mod_eq_of_lt (by omega))⟩
  · rw [if_pos hge, if_pos hr]
    exact h4

/-- A retraining that fails goes to the next lower rate (R405). -/
theorem linkTraining_lowers (hst : s.get Reg.HLINK_STATUS_STATE = 3) (hrate : s.host.rate < 3) :
    ∃ t, exec (.linkTraining false) s = .next t ∧ t.get Reg.HLINK_STATUS_STATE = 1 ∧ t.host.rate = s.host.rate + 1 ∧
      s.only t [.host] (regsOf ["SYS_START_STATUS", "HLINK_STATUS"]) := by
  have hexec := exec_linkTraining hrun false
  have hmoved := frame_linkTraining s false
  have heq : s.linkTraining false = s.trainAt (s.host.rate + 1) := by
    unfold State.linkTraining State.trainingFailed
    rw [hst]
    simp [hst]
    omega
  rw [heq] at hexec hmoved
  exact ⟨_, hexec, (get_trainAt s (s.host.rate + 1)).1, rfl, only_settled hmoved⟩

/-- From FAILED training starts again after 100 ms (R403). -/
theorem linkTrainRestart_role (hst : s.get Reg.HLINK_STATUS_STATE = 4) :
    (s.host.trainSince + 100 * msCycles ≤ s.cycle → ∃ t, exec .linkTrainRestart s = .next t ∧ t.get Reg.HLINK_STATUS_STATE = 1 ∧
      t.host.rate = s.get Reg.HLINK_CTRL_MAX_RATE ∧ s.only t [.host] (regsOf ["SYS_START_STATUS", "HLINK_STATUS"])) ∧
    (s.cycle < s.host.trainSince + 100 * msCycles → ∃ t, exec .linkTrainRestart s = .next t ∧ s.only t [] (keysOf [])) := by
  have hexec : exec .linkTrainRestart s = .next s.linkRestart.settle := whenUp_running hrun fun s => s.linkRestart
  have hmoved := frame_linkRestart s
  refine ⟨fun hat => ?_, fun hat => ?_⟩
  · have heq : s.linkRestart = s.trainAt (s.get Reg.HLINK_CTRL_MAX_RATE) := by
      unfold State.linkRestart
      rw [if_pos (by simp [hst, hat])]
    rw [heq] at hexec hmoved
    exact ⟨_, hexec, (get_trainAt s _).1, rfl, only_settled hmoved⟩
  · have heq : s.linkRestart = s := by
      unfold State.linkRestart
      rw [if_neg (by simp [hst]; omega)]
    rw [heq] at hexec
    exact ⟨_, hexec, only_settled (only_refl s)⟩

/-- LINK_RETRAIN of an ACTIVE link (R405, R406). -/
theorem linkRetrain_role (n : Nat) (err : Bool) {k : Nat} (hact : s.linkActive = true)
    (hk : k = n + ((s.host.retries.filter fun e => decide (s.cycle < e.1 + msCycles)).map (·.2)).sum) :
    ∃ t, exec (.linkRetrain n err) s = .next t ∧
      t.get Reg.HLINK_CRC_RETRY_CNT_COUNT = min (2 ^ 32 - 1) (s.get Reg.HLINK_CRC_RETRY_CNT_COUNT + n) ∧
      (16 < k ∨ err = true → t.get Reg.HLINK_STATUS_STATE = 3 ∧ t.bit Reg.HLINK_STATUS_RETRAINED = true ∧
        s.counted t Reg.HLINK_RETRAIN_CNT_COUNT ∧ t.host.outSince = s.cycle) ∧
      (k ≤ 16 → err = false → t.linkActive = true ∧ t.host.sent = s.host.sent ∧ (t.host.retries.map (·.2)).sum = k ∧
        s.only t [.host] (keysOf [Reg.HLINK_CRC_RETRY_CNT_COUNT])) ∧
      s.only t [.host] (regsOf ["SYS_START_STATUS", "HLINK_STATUS", "HLINK_CRC_RETRY_CNT", "HLINK_RETRAIN_CNT"]) := by
  have hexec : exec (.linkRetrain n err) s = .next (s.linkRetrain n err).settle := whenUp_running hrun fun s => s.linkRetrain n err
  have hmoved := frame_linkRetrain s n err
  have hsum : (((s.host.retries.filter fun e => decide (s.cycle < e.1 + msCycles)) ++ [(s.cycle, n)]).map (·.2)).sum = k := by
    rw [hk]
    simp
    omega
  obtain ⟨l, hl⟩ : ∃ l, l = (s.host.retries.filter fun e => decide (s.cycle < e.1 + msCycles)) ++ [(s.cycle, n)] := ⟨_, rfl⟩
  rw [← hl] at hsum
  by_cases hmuch : 16 < k ∨ err = true
  · have heq : s.linkRetrain n err = ((((((s.satAdd Reg.HLINK_CRC_RETRY_CNT_COUNT n).modHost fun h => { h with retries := [] }).satAdd
        Reg.HLINK_RETRAIN_CNT_COUNT 1).on Reg.HLINK_STATUS_RETRAINED).setLink 3).set Reg.HLINK_STATUS_RATE s.host.rate).modHost
        fun h => { h with outSince := s.cycle } := by
      have hgo : (decide ((l.map (·.2)).sum > 16) || err) = true := by rcases hmuch with h | h <;> simp [hsum, h]
      unfold State.linkRetrain
      rw [if_neg (by simp [hact])]
      dsimp only
      rw [← hl, hgo]
      rfl
    rw [heq] at hexec hmoved
    refine ⟨_, hexec, ?_, fun _ => ⟨?_, ?_, ?_, rfl⟩, fun h1 h2 => by simp [h2] at hmuch; omega, only_settled hmoved⟩
    · simp (disch := decide) only [State.setLink, get_settle, get_modHost, get_set_ne, get_setB_ne, get_on_ne, get_satAdd_ne,
        get_satAdd_self]
      rfl
    · rw [get_settle, get_modHost, get_set_ne _ _ (by decide)]
      exact get_setLink _ (by decide)
    · rw [bit_settle]
      refine bit_of_get_one ?_
      simp (disch := decide) only [State.setLink, get_modHost, get_set_ne, get_setB_ne, get_on_self]
    · simp (disch := decide) only [State.counted, State.setLink, get_settle, get_modHost, get_set_ne, get_setB_ne, get_on_ne, get_satAdd_ne,
        get_satAdd_self]
  · have heq : s.linkRetrain n err = (s.satAdd Reg.HLINK_CRC_RETRY_CNT_COUNT n).modHost fun h => { h with retries := l } := by
      have hgo : (decide ((l.map (·.2)).sum > 16) || err) = false := by
        simp only [not_or, Bool.not_eq_true] at hmuch
        simp [hsum, hmuch]
      unfold State.linkRetrain
      rw [if_neg (by simp [hact])]
      dsimp only
      rw [← hl, hgo]
      rfl
    rw [heq] at hexec hmoved
    refine ⟨_, hexec, get_satAdd_self .., fun h => absurd h hmuch, fun _ _ => ⟨?_, rfl, hsum, ?_⟩, only_settled hmoved⟩
    · rw [State.linkActive, get_settle, get_modHost, get_satAdd_ne _ _ (by decide)]
      exact hact
    · exact only_settled (keep_modHost _ (keep_satAdd _ _ (only_id s _ _) (by simp [keysOf])) (by simp))

end Training

/-! ### The link comes up -/

/-- The link has sent the reads `r`: new ones, and none while a message waits (R409, R410, R423). -/
structure ReadsSent (s t : State) (r : List HostMsg) : Prop where
  sent : t.host.sent = s.host.sent ++ r
  waiting : t.host.waiting = s.host.waiting
  idle : s.host.waiting ≠ [] → r = []
  fresh : ∀ m ∈ r, ∃ tag a n, m = HostMsg.memRd tag a n ∧ (mapFind s.host.reads tag).isNone = true
  upOnce : t.host.upOnce = s.host.upOnce
  serviceOff : t.host.serviceOff = s.host.serviceOff

theorem readsSent_nil {s t : State} (h1 : t.host.sent = s.host.sent) (h2 : t.host.waiting = s.host.waiting)
    (h3 : t.host.upOnce = s.host.upOnce) (h4 : t.host.serviceOff = s.host.serviceOff) : ReadsSent s t [] :=
  ⟨by rw [h1, List.append_nil], h2, fun _ => rfl, fun _ h => (by cases h), h3, h4⟩

theorem lowestFrom_holds {p : Nat → Bool} {n k t : Nat} (h : lowestFrom p n k = some t) : p t = true := by
  induction n generalizing k with
  | zero => cases h
  | succ n ih =>
    unfold lowestFrom at h
    split at h
    next hp => cases h; exact hp
    next => exact ih h

theorem freeTagMem_free {s : State} {t : Nat} (h : s.freeTagMem = some t) : (mapFind s.host.reads t).isNone = true := by
  have := lowestFrom_holds h
  simp only [Bool.and_eq_true] at this
  exact this.1

theorem pumpMsgs_one {m : HostMsg} {h : HostSt} (hle : m.slots ≤ h.credit) : pumpMsgs [m] h =
    { h with sent := h.sent ++ [m], waiting := [], credit := h.credit - m.slots, rxCredit := h.rxCredit + m.returned } := by
  unfold pumpMsgs
  rw [if_pos hle]
  rfl

/-- A read that the link takes goes out at once. -/
theorem send_memRd {s : State} (t a n : Nat) (hcan : s.canWrite = true) (hcredit : s.host.credit ≠ 0) :
    (s.send (.memRd t a n)).host = { s.host with sent := s.host.sent ++ [.memRd t a n], waiting := [], credit := s.host.credit - 1 } := by
  have hwait : s.host.waiting = [] := by
    simp only [State.canWrite, Bool.and_eq_true, List.isEmpty_iff] at hcan
    exact hcan.2
  have hact : (s.modHost fun h => { h with waiting := h.waiting ++ [.memRd t a n] }).linkActive = true := (canWrite_parts hcan).1
  unfold State.send State.pump
  rw [if_pos hact]
  show pumpMsgs (s.host.waiting ++ [.memRd t a n]) _ = _
  rw [hwait, List.nil_append]
  exact (pumpMsgs_one (m := .memRd t a n) (Nat.one_le_iff_ne_zero.2 hcredit)).trans rfl

theorem sendReads_sent (l : List (ReadUser × Nat × Nat)) (s : State) : ∃ r, ReadsSent s (sendReads l s) r := by
  induction l generalizing s with
  | nil => exact ⟨[], readsSent_nil rfl rfl rfl rfl⟩
  | cons w l ih =>
    obtain ⟨u, a, n⟩ := w
    have hstep : ∀ o, o = (if s.canWrite && s.host.credit != 0 then s.freeTagMem else none) → ∃ r, ReadsSent s (match o with
        | some t => sendReads l (State.send (s.modHost fun h => { h with reads := mapPut h.reads t ⟨u, n, s.cycle⟩ }) (.memRd t a n))
        | none => s.modHost fun h => { h with wanted := (u, a, n) :: l }) r := by
      intro o ho
      cases o with
      | none => exact ⟨[], readsSent_nil rfl rfl rfl rfl⟩
      | some t =>
        have hcan : (s.canWrite && s.host.credit != 0) = true := by
          by_contra h
          rw [if_neg h] at ho
          cases ho
        rw [if_pos hcan] at ho
        simp only [Bool.and_eq_true, bne_iff_ne] at hcan
        have hwait : s.host.waiting = [] := by
          have h := hcan.1
          simp only [State.canWrite, Bool.and_eq_true, List.isEmpty_iff] at h
          exact h.2
        have hsend := send_memRd (s := s.modHost fun h => { h with reads := mapPut h.reads t ⟨u, n, s.cycle⟩ }) t a n hcan.1 hcan.2
        obtain ⟨r, hr⟩ := ih (State.send (s.modHost fun h => { h with reads := mapPut h.reads t ⟨u, n, s.cycle⟩ }) (.memRd t a n))
        dsimp only
        generalize State.send (s.modHost fun h => { h with reads := mapPut h.reads t ⟨u, n, s.cycle⟩ }) (.memRd t a n) = v at hsend hr ⊢
        refine ⟨.memRd t a n :: r, ?_, ?_, fun h => absurd hwait h, ?_, ?_, ?_⟩
        · rw [hr.sent, hsend]
          simp [State.modHost]
        · rw [hr.waiting, hsend, hwait]
        · intro m hm
          rcases List.mem_cons.1 hm with rfl | hm
          · exact ⟨t, a, n, rfl, freeTagMem_free ho.symm⟩
          · obtain ⟨tag, a', n', hm, hnone⟩ := hr.fresh m hm
            refine ⟨tag, a', n', hm, ?_⟩
            rw [hsend] at hnone
            by_cases htag : t = tag
            · subst htag
              exact freeTagMem_free ho.symm
            · have hput : mapFind (mapPut s.host.reads t ⟨u, n, s.cycle⟩) tag = mapFind s.host.reads tag := mapFind_put_ne _ _ htag
              rw [← hput]
              exact hnone
        · rw [hr.upOnce, hsend]
          rfl
        · rw [hr.serviceOff, hsend]
          rfl
    exact hstep _ rfl

/-- The messages that wait go out in their order as far as the credit goes (R410). -/
theorem pumpMsgs_sent (l : List HostMsg) (h : HostSt) : ∃ g, (pumpMsgs l h).sent = h.sent ++ g ∧ g ++ (pumpMsgs l h).waiting = l ∧
    (pumpMsgs l h).upOnce = h.upOnce ∧ (pumpMsgs l h).serviceOff = h.serviceOff ∧ (pumpMsgs l h).reads = h.reads ∧
    (pumpMsgs l h).wanted = h.wanted := by
  induction l generalizing h with
  | nil => exact ⟨[], by simp [pumpMsgs], rfl, rfl, rfl, rfl, rfl⟩
  | cons m l ih =>
    unfold pumpMsgs
    split
    · obtain ⟨g, h1, h2, h3⟩ := ih { h with sent := h.sent ++ [m], credit := h.credit - m.slots, rxCredit := h.rxCredit + m.returned }
      exact ⟨m :: g, by rw [h1]; simp, by rw [List.cons_append, h2], h3⟩
    · exact ⟨[], by simp, rfl, rfl, rfl, rfl, rfl⟩

/-- The link goes on (R410, R423). -/
theorem resume_sent {s : State} (hact : s.linkActive = true) : ∃ l r, s.resume.host.sent = s.host.sent ++ l ++ r ∧
    l ++ s.resume.host.waiting = s.host.waiting ∧ (s.resume.host.waiting ≠ [] → r = []) ∧
    (∀ m ∈ r, ∃ tag a n, m = HostMsg.memRd tag a n ∧ (mapFind s.host.reads tag).isNone = true) ∧
    s.resume.host.upOnce = s.host.upOnce ∧ s.resume.host.serviceOff = s.host.serviceOff := by
  have hpump : s.pump.host = pumpMsgs s.host.waiting s.host := by
    unfold State.pump
    rw [if_pos hact]
    rfl
  obtain ⟨g, h1, h2, h3, h4, h5, -⟩ := pumpMsgs_sent s.host.waiting s.host
  rw [← hpump] at h1 h2 h3 h4 h5
  obtain ⟨r, hr⟩ := sendReads_sent (s.pump.host.wanted ++ []) s.pump
  refine ⟨g, r, by rw [← h1]; exact hr.sent, (congrArg (g ++ ·) hr.waiting).trans h2, fun h => hr.idle ?_, fun m hm => ?_, hr.upOnce.trans h3,
    hr.serviceOff.trans h4⟩
  · rw [← hr.waiting]
    exact h
  · rw [← h5]
    exact hr.fresh m hm

theorem resume_idle {s : State} (hwait : s.host.waiting = []) (hwanted : s.host.wanted = []) :
    s.resume.host.credit = s.host.credit ∧ s.resume.host.rxCredit = s.host.rxCredit := by
  have hpump : s.pump.host = s.host := by
    unfold State.pump
    split
    · show pumpMsgs s.host.waiting s.host = s.host
      rw [hwait, pumpMsgs, ← hwait]
    · rfl
  have hreads : s.resume = s.pump.modHost fun h => { h with wanted := [] } := by
    unfold State.resume State.askReads
    rw [hpump, hwanted]
    rfl
  rw [hreads, ← hpump]
  exact ⟨rfl, rfl⟩

/-- A link that comes up afresh has the slots of R410. -/
def State.freshSlots (s : State) : State := if !s.host.upOnce then s.modHost fun h => { h with credit := 1024, rxCredit := 4096, badFlit := none } else s

/-- LINK_TRAINING_DONE (R403, R404). -/
theorem linkTrainingDone_role {s : State} (hrun : s.running = true) (rep : Bool)
    (hst : s.get Reg.HLINK_STATUS_STATE = 1 ∨ s.get Reg.HLINK_STATUS_STATE = 3) : ∃ t, exec (.linkTrainingDone rep) s = .next t ∧
    t.linkActive = true ∧ t.bit Reg.SYS_START_STATUS_LINK_ACTIVE = true ∧ t.bit Reg.HLINK_STATUS_REPAIRED = rep ∧
    t.host.upOnce = true ∧ t.host.serviceOff = s.host.serviceOff ∧ (s.host.waiting = [] → s.host.wanted = [] →
      (s.host.upOnce = false → t.host.credit = 1024 ∧ t.host.rxCredit = 4096) ∧
      (s.host.upOnce = true → t.host.credit = s.host.credit ∧ t.host.rxCredit = s.host.rxCredit)) ∧
    (∃ l r, t.host.sent = s.host.sent ++ l ++ r ∧ l ++ t.host.waiting = s.host.waiting ∧
      (t.host.waiting ≠ [] → r = []) ∧ ∀ m ∈ r, ∃ tag a n, m = HostMsg.memRd tag a n ∧ (mapFind s.host.reads tag).isNone = true) ∧
    s.only t [.host] (regsOf ["SYS_START_STATUS", "HLINK_STATUS"]) := by
  have hexec : exec (.linkTrainingDone rep) s = .next (s.linkUp rep).settle := whenUp_running hrun fun s => s.linkUp rep
  have hmoved := frame_linkUp s rep
  have heq : s.linkUp rep = State.resume (((s.freshSlots.modHost fun h => { h with upOnce := true, tries := 0 }).setLink 2).setB
      Reg.HLINK_STATUS_REPAIRED rep) := by
    unfold State.linkUp
    rw [if_neg (by rcases hst with h | h <;> simp [h])]
    rfl
  rw [heq] at hexec hmoved
  have hstate := get_setLink (s.freshSlots.modHost fun h => { h with upOnce := true, tries := 0 }) (st := 2) (by decide)
  have hbit := bit_setLink_active (s.freshSlots.modHost fun h => { h with upOnce := true, tries := 0 }) 2
  have hhost : ((s.freshSlots.modHost fun h => { h with upOnce := true, tries := 0 }).setLink 2).host =
      { s.freshSlots.host with upOnce := true, tries := 0 } := rfl
  generalize (s.freshSlots.modHost fun h => { h with upOnce := true, tries := 0 }).setLink 2 = u at *
  have hrep : (u.setB Reg.HLINK_STATUS_REPAIRED rep).bit Reg.HLINK_STATUS_REPAIRED = rep := by
    rw [State.bit, get_setB_self _ _ _ (by decide)]
    cases rep <;> rfl
  have hstate' : (u.setB Reg.HLINK_STATUS_REPAIRED rep).get Reg.HLINK_STATUS_STATE = 2 := by rw [get_setB_ne _ _ (by decide), hstate]
  have hbit' : (u.setB Reg.HLINK_STATUS_REPAIRED rep).bit Reg.SYS_START_STATUS_LINK_ACTIVE = true := by
    rw [State.bit, get_setB_ne _ _ (by decide)]
    exact hbit
  have hhost' : (u.setB Reg.HLINK_STATUS_REPAIRED rep).host = { s.freshSlots.host with upOnce := true, tries := 0 } := hhost
  generalize u.setB Reg.HLINK_STATUS_REPAIRED rep = v at *
  have hget (f : Fld) : v.resume.get f = v.get f := (frame_resume v).2 f (by simp [regsOf])
  obtain ⟨l, r, h1, h2, h3, h4, h5, h6⟩ := resume_sent (s := v) (by rw [State.linkActive, hstate']; rfl)
  have hidle := fun hw hn => resume_idle (s := v) hw hn
  have hsame : s.freshSlots.host.sent = s.host.sent ∧ s.freshSlots.host.waiting = s.host.waiting ∧ s.freshSlots.host.wanted = s.host.wanted ∧
      s.freshSlots.host.reads = s.host.reads ∧ s.freshSlots.host.serviceOff = s.host.serviceOff ∧
      (s.host.upOnce = false → s.freshSlots.host.credit = 1024 ∧ s.freshSlots.host.rxCredit = 4096) ∧
      (s.host.upOnce = true → s.freshSlots.host.credit = s.host.credit ∧ s.freshSlots.host.rxCredit = s.host.rxCredit) := by
    unfold State.freshSlots
    cases hu : s.host.upOnce <;> simp [State.modHost]
  obtain ⟨e1, e2, e3, e4, e5, e6, e7⟩ := hsame
  generalize v.resume = w at *
  rw [hhost'] at h1 h2 h4 h5 h6 hidle
  refine ⟨_, hexec, ?_, ?_, ?_, h5, h6.trans e5, fun hw hn => ?_, ⟨l, r, e1 ▸ h1, h2.trans e2, h3, fun m hm => e4 ▸ h4 m hm⟩, only_settled hmoved⟩
  · rw [State.linkActive, get_settle, hget, hstate']
    rfl
  · rw [bit_settle, State.bit, hget]
    exact hbit'
  · rw [bit_settle, State.bit, hget]
    exact hrep
  · obtain ⟨c1, c2⟩ := hidle (e2.trans hw) (e3.trans hn)
    exact ⟨fun hup => ⟨c1.trans (e6 hup).1, c2.trans (e6 hup).2⟩, fun hup => ⟨c1.trans (e7 hup).1, c2.trans (e7 hup).2⟩⟩

end Sys2Proof.Machine
end

section
/-! The host is lost (R424). -/

-- One proof at a time: side by side they take more threads than the memory bound of the check leaves room for.
set_option Elab.async false

namespace Sys2Proof.Machine

/-! ### Nothing goes to a lost host -/

/-- The host stays lost, and nothing is sent to it (R424). -/
structure StaysLost (s t : State) : Prop where
  off : t.host.serviceOff = true
  upOnce : t.host.upOnce = s.host.upOnce
  sent : t.host.sent = s.host.sent

theorem StaysLost.trans {s t u : State} (h : StaysLost s t) (k : StaysLost t u) : StaysLost s u :=
  ⟨k.off, k.upOnce.trans h.upOnce, k.sent.trans h.sent⟩

theorem staysLost_of_host {s t : State} (hoff : s.host.serviceOff = true) (h : t.host = s.host) : StaysLost s t :=
  ⟨h ▸ hoff, by rw [h], by rw [h]⟩

section Lost

variable {s : State} (hoff : s.host.serviceOff = true)
include hoff

theorem memWrite_lost (a : Nat) (d : List Byte) : s.memWrite a d = s := by
  unfold State.memWrite
  dsimp only
  rw [if_pos hoff]

theorem fetchNext_lost (n : Nat) : s.fetchNext n = s := by
  unfold State.fetchNext
  rw [hoff]
  simp

theorem staysLost_ringIdle (n : Nat) : StaysLost s (s.ringIdle n) := by
  unfold State.ringIdle
  dsimp only
  split
  · rw [fetchNext_lost (s := s.modRing n _) hoff]
    exact ⟨hoff, rfl, rfl⟩
  · exact ⟨hoff, rfl, rfl⟩

theorem staysLost_postCompletion (cq : Nat) (r : Bool) (e : List Byte) : StaysLost s (s.postCompletion cq r e) := by
  unfold State.postCompletion
  rw [if_neg (by simp [hoff])]
  split
  · exact ⟨hoff, rfl, rfl⟩
  · exact ⟨hoff, rfl, rfl⟩

theorem staysLost_endInject (n : Nat) (st : Status) (detail : Nat) : StaysLost s (s.endInject n st detail) := by
  unfold State.endInject
  extract_lets d e u
  have hpost := staysLost_postCompletion hoff (s.get (Reg.RING_CFG_CQ n)) true e
  have hu : StaysLost s u := ⟨hpost.off, hpost.upOnce, hpost.sent⟩
  clear_value u
  have hadv : StaysLost s (u.advance n) := ⟨hu.off, hu.upOnce, hu.sent⟩
  exact hadv.trans (staysLost_ringIdle hadv.off n)

theorem staysLost_complete (op : Nat) (c : CmdIn) (r : CmdRes) : StaysLost s (s.complete op c r) := by
  unfold State.complete
  extract_lets out entry u running v w x
  have hu : StaysLost s u := ⟨hoff, rfl, rfl⟩
  clear_value u
  split
  · exact ⟨hu.off, hu.upOnce, hu.sent⟩
  · have hv : StaysLost s v := by
      unfold v
      split
      · exact hu
      · rw [memWrite_lost hu.off]
        exact hu
    have hw : StaysLost s w := hv.trans (staysLost_postCompletion hv.off _ _ _)
    clear_value w
    split
    · have hx : StaysLost s x := by
        unfold x
        split
        · exact hw
        · exact ⟨hw.off, hw.upOnce, hw.sent⟩
      exact hx.trans (staysLost_ringIdle hx.off _)
    · exact hw

theorem staysLost_readFailed (u : ReadUser) : StaysLost s (s.readFailed u) := by
  unfold State.readFailed
  split
  next n => exact staysLost_of_host hoff ((frame_setHalted s n true).1 .host (by simp))
  next n _ =>
    split
    · exact ⟨hoff, rfl, rfl⟩
    · dsimp only
      have hdrop : StaysLost s (s.dropReads n) := ⟨hoff, rfl, rfl⟩
      split
      · split
        · exact hdrop.trans (staysLost_endInject hdrop.off n _ _)
        · exact hdrop.trans (staysLost_complete hdrop.off _ _ _)
      · exact hdrop

theorem staysLost_readsFailed (l : List (Nat × ReadRun)) : StaysLost s (l.foldl (fun s e => s.readFailed e.2.user) s) := by
  induction l generalizing s with
  | nil => exact ⟨hoff, rfl, rfl⟩
  | cons e l ih =>
    have h := staysLost_readFailed hoff e.2.user
    exact h.trans (ih h.off)

end Lost

/-! ### Rings whose descriptor read failed -/

theorem halted_setHalted {s : State} {m n : Nat} (hn : n < 64) (h : n = m ∨ s.halted n = true) : (s.setHalted m true).halted n = true := by
  have hstatus (u : State) (b : Bool) : (u.setB Reg.RING_STATUS_HALTED b).halted n = u.halted n := by
    unfold State.halted
    rw [get_setB_ne _ _ (by decide), get_setB_ne _ _ (by decide)]
  unfold State.setHalted
  dsimp only
  rw [hstatus]
  unfold State.halted at h ⊢
  by_cases hm : m < 32
  · rw [if_pos hm]
    by_cases hn' : n < 32
    · rw [if_pos hn'] at h ⊢
      rw [bitOf_putBit _ _ _ (by exact hn')]
      split
      · rfl
      next hne => exact h.resolve_left hne
    · rw [if_neg hn'] at h ⊢
      rw [get_putBit_ne _ _ _ (by decide)]
      exact h.resolve_left (by omega)
  · rw [if_neg hm]
    by_cases hn' : n < 32
    · rw [if_pos hn'] at h ⊢
      rw [get_putBit_ne _ _ _ (by decide)]
      exact h.resolve_left (by omega)
    · rw [if_neg hn'] at h ⊢
      rw [bitOf_putBit _ _ _ (by show n - 32 < 32; omega)]
      split
      · rfl
      next hne => exact h.resolve_left (by omega)

theorem halted_of_only {s t : State} {P : List Part} {L : List String} (h : s.only t P (regsOf L)) (hlo : "RING_HALTED_LO" ∉ L)
    (hhi : "RING_HALTED_HI" ∉ L) (n : Nat) : t.halted n = s.halted n := by
  rw [State.halted, State.halted, kept_of_only h 19 0 0 (List.mem_of_getElem? (i := 1) rfl) (a := .ro) (f := Reg.RING_HALTED_LO_HALTED)
    (by simp) hlo, kept_of_only h 19 0 0 (List.mem_of_getElem? (i := 2) rfl) (a := .ro) (f := Reg.RING_HALTED_HI_HALTED) (by simp) hhi]

/-- A failed read halts no other ring and lets none go on. -/
theorem halted_readFailed {s : State} (u : ReadUser) {n : Nat} (hn : n < 64) (h : u = .descriptor n ∨ s.halted n = true) :
    (s.readFailed u).halted n = true := by
  unfold State.readFailed
  split
  next m =>
    refine halted_setHalted hn (h.imp_left fun e => ?_)
    cases e
    rfl
  next m _ =>
    have hs : s.halted n = true := h.resolve_left (by simp)
    split
    · exact hs
    · dsimp only
      have hdrop : (s.dropReads m).halted n = true := (halted_of_only (frame_dropReads s m) (by simp) (by simp) n).trans hs
      split
      · split
        · exact (halted_of_only (frame_endInject _ m _ _) (by simp) (by simp) n).trans hdrop
        · exact (halted_of_only (frame_complete _ _ _ _) (by simp) (by simp) n).trans hdrop
      · exact hdrop

theorem halted_readsFailed (l : List (Nat × ReadRun)) {s : State} {n : Nat} (hn : n < 64)
    (h : (∃ e ∈ l, e.2.user = .descriptor n) ∨ s.halted n = true) :
    (l.foldl (fun s e => s.readFailed e.2.user) s).halted n = true := by
  induction l generalizing s with
  | nil => exact h.resolve_left (by simp)
  | cons e l ih =>
    refine ih ?_
    rcases h with ⟨x, hx, hu⟩ | h
    · rcases List.mem_cons.1 hx with rfl | hx
      · exact .inr (halted_readFailed _ hn (.inl hu))
      · exact .inl ⟨x, hx, hu⟩
    · exact .inr (halted_readFailed _ hn (.inr h))

/-! ### The loss -/

/-- The reads of a lost host have failed (R424). -/
def State.readsLost (s : State) : State :=
  s.host.reads.foldl (fun s e => s.readFailed e.2.user)
    (s.modHost fun h => { h with reads := [], wanted := [], serviceOff := true, upOnce := false })

/-- What waits for a lost host is discarded (R424). -/
def State.waitingLost (s : State) : State :=
  (s.readsLost.modHost fun h => { h with waiting := [], reads := [], wanted := [] }).on Reg.HLINK_STATUS_HOST_LOST

/-- With LOST_ACT = 1 a lost host takes the device off the network (R424). -/
def State.offNetwork (s : State) : State :=
  let s := (s.modHost fun h => { h with lostIdle := true }).off Reg.PAIR_STATUS_HOLD_OUT
  if s.pairState = paActive then
    ((s.set Reg.PAIR_STATUS_STATE paDetached).modPair fun p => { p with gate := false, outSince := none }).on
      Reg.PAIR_STATUS_ROLE_CHG
  else s.modPair fun p => { p with gate := false, outSince := none }

theorem offNetwork_spec (s : State) : s.offNetwork.host = { s.host with lostIdle := true } ∧ s.offNetwork.pair.gate = false ∧
    s.offNetwork.bit Reg.PAIR_STATUS_HOLD_OUT = false ∧
    s.offNetwork.get Reg.HLINK_STATUS_HOST_LOST = s.get Reg.HLINK_STATUS_HOST_LOST ∧ ∀ n, s.offNetwork.halted n = s.halted n := by
  unfold State.offNetwork
  extract_lets u
  have hu : u.host = { s.host with lostIdle := true } := rfl
  have hout : u.get Reg.PAIR_STATUS_HOLD_OUT = 0 := get_off_self _ _
  have hlost : u.get Reg.HLINK_STATUS_HOST_LOST = s.get Reg.HLINK_STATUS_HOST_LOST := get_off_ne _ (by decide)
  have hhalt (n : Nat) : u.halted n = s.halted n := by
    unfold State.halted
    rw [get_off_ne (f := Reg.PAIR_STATUS_HOLD_OUT) _ (by decide), get_off_ne (f := Reg.PAIR_STATUS_HOLD_OUT) _ (by decide)]
    rfl
  clear_value u
  have hset {f : Fld} (h1 : Fld.key Reg.PAIR_STATUS_STATE ≠ Fld.key f) (h2 : Fld.key Reg.PAIR_STATUS_ROLE_CHG ≠ Fld.key f) :
      (((u.set Reg.PAIR_STATUS_STATE paDetached).modPair fun p => { p with gate := false, outSince := none }).on
        Reg.PAIR_STATUS_ROLE_CHG).get f = u.get f := (get_on_ne _ h2).trans ((get_of_regs rfl f).trans (get_set_ne u paDetached h1))
  split
  · refine ⟨hu, rfl, bit_of_get_zero ((hset (by decide) (by decide)).trans hout), (hset (by decide) (by decide)).trans hlost, fun n => ?_⟩
    rw [← hhalt, State.halted, State.halted, hset (by decide) (by decide), hset (by decide) (by decide)]
  · exact ⟨hu, rfl, bit_of_get_zero hout, hlost, hhalt⟩

theorem hostLost_eq {s : State} (hact : s.linkActive = false) (hup : s.host.upOnce = true)
    (hat : s.host.outSince + s.get Reg.HLINK_CTRL_DOWN_MS * msCycles ≤ s.cycle) :
    s.hostLost = if s.waitingLost.bit Reg.HLINK_CTRL_LOST_ACT then s.waitingLost.offNetwork else s.waitingLost := by
  unfold State.hostLost
  rw [if_neg (by simp [hact, hup]; omega)]
  rfl

theorem frame_waitingLost (s : State) : s.only s.waitingLost [.events, .host] (regsOf ["HLINK_STATUS", "RING_STATUS", "RING_HALTED_LO",
    "RING_HALTED_HI", "RING_CFG", "RING_DEV_INDEX"]) := by
  refine keep_on _ (keep_modHost _ (keep_foldl (keep_modHost _ (only_id s _ _) (by simp)) fun (u : State) (e : Nat × ReadRun) =>
    only_widen (frame_readFailed u e.2.user) (by simp) (by simp)) (by simp)) (regsOf_mem 18 1 0 0 _ .w1c rfl (by simp) (by simp))

/-- What a lost host leaves before LOST_ACT is looked at. -/
theorem waitingLost_spec (s : State) : s.waitingLost.get Reg.HLINK_STATUS_HOST_LOST = 1 ∧ s.waitingLost.host.reads = [] ∧
    s.waitingLost.host.wanted = [] ∧ s.waitingLost.host.waiting = [] ∧ s.waitingLost.host.serviceOff = true ∧
    s.waitingLost.host.upOnce = false ∧ s.waitingLost.host.sent = s.host.sent ∧
    ∀ e ∈ s.host.reads, ∀ n, e.2.user = .descriptor n → n < 64 → s.waitingLost.halted n = true := by
  have hlost : StaysLost (s.modHost fun h => { h with reads := [], wanted := [], serviceOff := true, upOnce := false }) s.readsLost :=
    staysLost_readsFailed rfl s.host.reads
  have hhalt (e) (he : e ∈ s.host.reads) (n : Nat) (hu : e.2.user = .descriptor n) (hn : n < 64) : s.readsLost.halted n = true :=
    halted_readsFailed s.host.reads hn (.inl ⟨e, he, hu⟩)
  refine ⟨get_on_self _ _ (by decide), rfl, rfl, rfl, hlost.off, hlost.upOnce, hlost.sent, fun e he n hu hn => ?_⟩
  rw [← hhalt e he n hu hn]
  unfold State.waitingLost State.halted
  rw [get_on_ne _ (by decide), get_on_ne _ (by decide)]
  rfl

theorem allIdle_of_lostIdle {s : State} (h : s.host.lostIdle = true) : s.allIdle = true := by simp [State.allIdle, h]

theorem silent_of_allIdle {s : State} (h : s.allIdle = true) : s.settle.silent := by
  have hfront : s.frontIdle = true := by rw [State.frontIdle, h, Bool.true_or]
  have hmirror : s.mirrorIdle = true := by rw [State.mirrorIdle, h, Bool.true_or]
  exact ⟨hfront, hmirror⟩

/-- HOST_LOST (R424). -/
theorem hostLost_role {s : State} (hrun : s.running = true) (hact : s.linkActive = false) (hup : s.host.upOnce = true) :
    (s.host.outSince + s.get Reg.HLINK_CTRL_DOWN_MS * msCycles ≤ s.cycle → ∃ t, exec .hostLost s = .next t ∧
      t.bit Reg.HLINK_STATUS_HOST_LOST = true ∧ t.host.reads = [] ∧ t.host.wanted = [] ∧ t.host.waiting = [] ∧
      t.host.serviceOff = true ∧ t.host.upOnce = false ∧ t.host.sent = s.host.sent ∧
      (∀ e ∈ s.host.reads, ∀ n, e.2.user = .descriptor n → n < 64 → t.halted n = true) ∧
      (s.bit Reg.HLINK_CTRL_LOST_ACT = true → t.silent ∧ t.bit Reg.PAIR_STATUS_HOLD_OUT = false ∧ t.pair.gate = false) ∧
      (s.bit Reg.HLINK_CTRL_LOST_ACT = false → s.pair.gate = t.pair.gate) ∧
      s.only t [.events, .host, .pair] (regsOf ["HLINK_STATUS", "RING_STATUS", "RING_HALTED_LO", "RING_HALTED_HI", "RING_CFG",
        "RING_DEV_INDEX", "PAIR_STATUS"])) ∧
    (s.cycle < s.host.outSince + s.get Reg.HLINK_CTRL_DOWN_MS * msCycles → ∃ t, exec .hostLost s = .next t ∧ s.only t [] (keysOf [])) := by
  have hexec : exec .hostLost s = .next s.hostLost.settle := whenUp_running hrun fun s => s.hostLost
  have hmoved := frame_hostLost s
  refine ⟨fun hat => ?_, fun hat => ?_⟩
  · obtain ⟨h1, h2, h3, h4, h5, h6, h7, h8⟩ := waitingLost_spec s
    have hframe := frame_waitingLost s
    have hlostAct : s.waitingLost.bit Reg.HLINK_CTRL_LOST_ACT = s.bit Reg.HLINK_CTRL_LOST_ACT := by
      rw [State.bit, State.bit, kept_of_only hframe 18 0 0 (List.mem_of_getElem? (i := 0) rfl) (a := .rw) (by simp) (by simp)]
    have hpair : s.waitingLost.pair = s.pair := hframe.1 .pair (by simp)
    rw [hostLost_eq hact hup hat, hlostAct] at hexec hmoved
    generalize s.waitingLost = u at *
    cases hl : s.bit Reg.HLINK_CTRL_LOST_ACT with
    | false =>
      rw [hl, if_neg (by decide)] at hexec hmoved
      exact ⟨_, hexec, bit_of_get_one h1, h2, h3, h4, h5, h6, h7, h8, fun h => (by cases h), fun _ => by rw [settle_pair, hpair],
        only_settled hmoved⟩
    | true =>
      rw [hl, if_pos rfl] at hexec hmoved
      obtain ⟨k1, k2, k3, k4, k5⟩ := offNetwork_spec u
      generalize u.offNetwork = v at *
      refine ⟨_, hexec, bit_of_get_one (k4.trans h1), ?_, ?_, ?_, ?_, ?_, ?_, fun e he n hu hn => (k5 n).trans (h8 e he n hu hn),
        fun _ => ⟨silent_of_allIdle (allIdle_of_lostIdle (by rw [k1])), k3, k2⟩, fun h => (by cases h), only_settled hmoved⟩
      all_goals rw [settle_host, k1]
      · exact h2
      · exact h3
      · exact h4
      · exact h5
      · exact h6
      · exact h7
  · have heq : s.hostLost = s := by
      unfold State.hostLost
      rw [if_pos (by simp [hat])]
    rw [heq] at hexec
    exact ⟨_, hexec, only_settled (only_refl s)⟩

/-- Settles O46: the states of the link one by one, and the loss of the host by what each of its reads leaves. -/
theorem theHostLinkTrainsAndIsLost : Obligations.TheHostLinkTrainsAndIsLost := by
  unfold Obligations.TheHostLinkTrainsAndIsLost
  intro s hrun
  exact ⟨fun hst => linkTraining_starts hrun hst, fun hst => linkTraining_fails hrun hst, fun hst hrate => linkTraining_lowers hrun hst hrate,
    fun rep hst => linkTrainingDone_role hrun rep hst, fun hst => linkTrainRestart_role hrun hst,
    fun n err k hact hk => linkRetrain_role hrun n err hact hk, fun hact hup => hostLost_role hrun hact hup⟩

end Sys2Proof.Machine
end

section
/-! Start-up, the table scrub and the block tests (R555, R559, R567, R568). -/

-- One proof at a time: side by side they take more threads than the memory bound of the check leaves room for.
set_option Elab.async false

namespace Sys2Proof.Machine

/-! ### READY and LATE -/

/-- A word of twelve pairs of bits that are all 0 is 0. -/
theorem eq_zero_of_pairs {v : Nat} (hlt : v < 2 ^ 24) (h : ∀ k, k < 12 → bits v (2 * k) 2 = 0) : v = 0 := by
  refine Nat.eq_of_testBit_eq fun i => ?_
  rw [Nat.zero_testBit]
  by_cases hi : i < 24
  · have hpair := congrArg (fun w => w.testBit (i % 2)) (h (i / 2) (by omega))
    simp only [bits, Nat.testBit_mod_two_pow, Nat.testBit_shiftRight, Nat.mod_lt i (by decide : 0 < 2), Nat.div_add_mod, Nat.zero_testBit,
      decide_true, Bool.true_and] at hpair
    exact hpair
  · exact Nat.testBit_lt_two_pow (Nat.lt_of_lt_of_le hlt (Nat.pow_le_pow_right (by decide) (by omega)))

/-- Every function has a number under 12, and each number is one's. -/
theorem exists_func_num : ∀ k, k < 12 → ∃ f : Func, f.num = k := by
  intro k hk
  interval_cases k
  exacts [⟨.mac, rfl⟩, ⟨.time, rfl⟩, ⟨.tally, rfl⟩, ⟨.parse, rfl⟩, ⟨.fdb, rfl⟩, ⟨.lpm, rfl⟩, ⟨.flow, rfl⟩, ⟨.buf, rfl⟩, ⟨.tm, rfl⟩,
    ⟨.dram, rfl⟩, ⟨.ring, rfl⟩, ⟨.pair, rfl⟩]

theorem allUp_of_funcs {s : State} (h : ∀ f, s.funcUp f = true) (hlt : s.get Reg.SYS_FUNC_STATUS_STATE < 2 ^ 24) : s.allUp = true := by
  rw [State.allUp, beq_iff_eq]
  refine eq_zero_of_pairs hlt fun k hk => ?_
  obtain ⟨f, rfl⟩ := exists_func_num k hk
  simpa [State.funcUp] using h f

theorem funcUp_of_allUp {s : State} (h : s.allUp = true) (f : Func) : s.funcUp f = true := by
  rw [State.allUp, beq_iff_eq] at h
  rw [State.funcUp, h]
  simp [bits]

section Start

variable {s : State} (hrun : s.running = true)
include hrun

theorem exec_startReady : exec .startReady s = .next s.startReady.settle := whenUp_running hrun fun s => s.startReady

theorem exec_startLate : exec .startLate s = .next s.startLate.settle := whenUp_running hrun fun s => s.startLate

/-- START_READY (R555). -/
theorem startReady_role (hact : s.linkActive = true) (hboot : s.get Reg.SEC_BOOT_STATE = 1) (htrain : s.get Reg.DRAM_TRAIN_STATUS = 2)
    (hup : s.allUp = true) (hnot : s.bit Reg.SYS_START_STATUS_READY = false) : ∃ t, exec .startReady s = .next t ∧
      t.bit Reg.SYS_START_STATUS_READY = true ∧
      t.get Reg.SYS_START_STATUS_ELAPSED_MS = min 4095 ((s.cycle - s.die.releasedAt) / msCycles) ∧
      s.only t [.plat] (regsOf ["SYS_START_STATUS"]) := by
  have hexec := exec_startReady hrun
  have hmoved := frame_startReady s
  have heq : s.startReady = ((s.on Reg.SYS_START_STATUS_READY).set Reg.SYS_START_STATUS_ELAPSED_MS s.elapsedMs).modPlat
      fun p => { p with readyMs := some s.elapsedMs } := by
    unfold State.startReady
    rw [if_pos (by simp [hact, hboot, htrain, hup, hnot])]
  rw [heq] at hexec hmoved
  have h1 : ((s.on Reg.SYS_START_STATUS_READY).set Reg.SYS_START_STATUS_ELAPSED_MS s.elapsedMs).get Reg.SYS_START_STATUS_READY = 1 := by
    rw [get_set_ne _ _ (by decide), get_on_self _ _ (by decide)]
  have h2 : ((s.on Reg.SYS_START_STATUS_READY).set Reg.SYS_START_STATUS_ELAPSED_MS s.elapsedMs).get Reg.SYS_START_STATUS_ELAPSED_MS =
      s.elapsedMs := by
    rw [get_set_self]
    refine Nat.mod_eq_of_lt (Nat.lt_of_le_of_lt (Nat.min_le_left ..) (by decide))
  generalize (s.on Reg.SYS_START_STATUS_READY).set Reg.SYS_START_STATUS_ELAPSED_MS s.elapsedMs = u at *
  exact ⟨_, hexec, bit_of_get_one h1, h2, only_settled hmoved⟩

theorem startReady_waits (h : s.linkActive = false ∨ s.get Reg.SEC_BOOT_STATE ≠ 1 ∨ s.get Reg.DRAM_TRAIN_STATUS ≠ 2 ∨
    (∃ f, s.funcUp f = false)) : ∃ t, exec .startReady s = .next t ∧ s.only t [] (keysOf []) := by
  have hexec := exec_startReady hrun
  have heq : s.startReady = s := by
    unfold State.startReady
    rw [if_neg]
    simp only [Bool.and_eq_true, beq_iff_eq]
    rintro ⟨⟨⟨⟨h1, h2⟩, h3⟩, h4⟩, -⟩
    rcases h with h | h | h | ⟨f, h⟩
    · rw [h1] at h
      cases h
    · exact h h2
    · exact h h3
    · rw [funcUp_of_allUp h4 f] at h
      cases h
  rw [heq] at hexec
  exact ⟨_, hexec, only_settled (only_refl s)⟩

/-- START_LATE (R559). -/
theorem startLate_role (hseen : s.plat.lateSeen = false) (hat : s.die.releasedAt + 600 * msCycles ≤ s.cycle) :
    ∃ t, exec .startLate s = .next t ∧ t.plat.lateSeen = true ∧
      (s.bit Reg.SYS_START_STATUS_READY = false → t.bit Reg.SYS_START_STATUS_LATE = true) ∧
      (s.bit Reg.SYS_START_STATUS_READY = true → s.only t [.plat] (keysOf [])) ∧ s.only t [.plat] (regsOf ["SYS_START_STATUS"]) := by
  have hexec := exec_startLate hrun
  have hmoved := frame_startLate s
  have heq : s.startLate = if s.bit Reg.SYS_START_STATUS_READY then s.modPlat fun p => { p with lateSeen := true }
      else (s.modPlat fun p => { p with lateSeen := true }).on Reg.SYS_START_STATUS_LATE := by
    unfold State.startLate
    rw [if_neg (by simp [hseen]; omega)]
    rfl
  rw [heq] at hexec hmoved
  cases hr : s.bit Reg.SYS_START_STATUS_READY with
  | true =>
    rw [hr, if_pos rfl] at hexec hmoved
    exact ⟨_, hexec, rfl, fun h => (by cases h), fun _ => only_settled (keep_modPlat _ (only_id s _ _) (by simp)), only_settled hmoved⟩
  | false =>
    rw [hr, if_neg (by decide)] at hexec hmoved
    have hlate := bit_of_get_one (get_on_self (s.modPlat fun p => { p with lateSeen := true }) Reg.SYS_START_STATUS_LATE (by decide))
    exact ⟨_, hexec, rfl, fun _ => hlate, fun h => (by cases h), only_settled hmoved⟩

theorem startLate_waits (hat : s.cycle < s.die.releasedAt + 600 * msCycles) :
    ∃ t, exec .startLate s = .next t ∧ s.only t [] (keysOf []) := by
  have hexec := exec_startLate hrun
  have heq : s.startLate = s := by
    unfold State.startLate
    rw [if_pos (by simp [hat])]
  rw [heq] at hexec
  exact ⟨_, hexec, only_settled (only_refl s)⟩

end Start

/-! ### The table scrub -/

theorem exec_tableScrubRead {s : State} (hrun : s.running = true) (x : ScrubTarget) :
    exec (.tableScrubRead x) s = .next (s.scrub x).settle := whenUp_running hrun fun s => s.scrub x

theorem setFdb_entries (s : State) (m : Fdb) : (s.setFdb m).fdb.entries = m := rfl

theorem fdbParity_spec (s : State) (p : Nat) : (s.fdbParity p).fdb.entries = mapDel s.fdb.entries p ∧
    (s.fdbParity p).bit Reg.FDB_STATUS_PARITY = true ∧ s.counted (s.fdbParity p) Reg.FDB_PARITY_CNT_COUNT := by
  unfold State.fdbParity
  refine ⟨rfl, bit_of_get_one (get_on_self _ _ (by decide)), ?_⟩
  simp (disch := decide) only [State.counted, State.setFdb, get_on_ne, get_satAdd_self, get_set_ne]
  rfl

theorem loseKey_spec (s : State) (i : Nat) : mapFind (s.loseKey i).flow.contexts i = none ∧
    (s.loseKey i).bit Reg.FLOW_STATUS_POISON = true := by
  have hflow : (s.loseKey i).flow = ((((s.setContexts (mapDel s.flow.contexts i)).uncache i).flowPoison true i)).flow :=
    (frame_dramWrite _ _ _ _).1 .flow (by simp)
  have hget : (s.loseKey i).get Reg.FLOW_STATUS_POISON =
      ((((s.setContexts (mapDel s.flow.contexts i)).uncache i).flowPoison true i)).get Reg.FLOW_STATUS_POISON :=
    kept_of_only (frame_dramWrite _ _ _ _) 11 0 0 (List.mem_of_getElem? (i := 0) rfl) (a := .w1c) (by simp) (by simp)
  refine ⟨?_, bit_of_get_one (hget.trans (get_on_self _ _ (by decide)))⟩
  rw [hflow]
  exact mapFind_del_self _ _

theorem ruleEntry_modEntry (s : State) (e : Nat) (f : RuleEntry → RuleEntry) : (s.modEntry e f).ruleEntry e = f (s.ruleEntry e) :=
  mapGet_put_self ..

section Rule

variable {s : State} {tag n e : Nat} (htag : tag < 4) (he : mapFind (s.ruleSet tag) n = some e)
include htag he

theorem rulesOf_live : mapFind (s.rulesOf tag) n = some e := by rw [State.rulesOf, if_neg (by omega), he]

theorem ruleParity_spec : (s.ruleParity tag n).bit Reg.PARSE_STATUS_PARITY = true ∧
    (s.ruleParity tag n).get Reg.PARSE_PARITY_LOC_VERSION = tag ∧
    (s.ruleParity tag n).get Reg.PARSE_PARITY_LOC_RULE_NUM = n % 2 ^ Reg.PARSE_PARITY_LOC_RULE_NUM.width ∧
    ((s.ruleParity tag n).ruleEntry e).bad = true := by
  have hentry : ((s.modEntry e fun r => { r with bad := true, met := true }).ruleEntry e).bad = true := by rw [ruleEntry_modEntry]
  unfold State.ruleParity
  rw [rulesOf_live htag he]
  dsimp only
  rw [if_neg (by omega)]
  generalize s.modEntry e (fun r => { r with bad := true, met := true }) = u at *
  refine ⟨bit_of_get_one (get_on_self _ _ (by decide)), ?_, ?_, hentry⟩
  · rw [get_on_ne _ (by decide), get_set_ne _ _ (by decide), get_set_self]
    exact Nat.mod_eq_of_lt htag
  · rw [get_on_ne _ (by decide), get_set_self]

theorem ruleBad_spec : ((s.ruleBad tag n).ruleEntry e).bad = true ∧ s.only (s.ruleBad tag n) [.rules] (keysOf []) := by
  unfold State.ruleBad
  rw [rulesOf_live htag he]
  dsimp only
  refine ⟨by rw [ruleEntry_modEntry], ?_⟩
  exact only_of_regs rfl fun p hp => by cases p <;> simp_all [Part.same, State.modEntry]

end Rule

theorem lpmParity_spec (s : State) (e : LpmEntry) : (s.lpmParity e).bit Reg.LPM_STATUS_PARITY = true ∧
    s.counted (s.lpmParity e) Reg.LPM_PARITY_CNT_COUNT := by
  have hcnt : (s.lpmRemove e).get Reg.LPM_PARITY_CNT_COUNT = s.get Reg.LPM_PARITY_CNT_COUNT :=
    kept_of_only (frame_lpmRemove s e) 10 0 0 (List.mem_of_getElem? (i := 6) rfl) (a := .rc) (by simp) (by simp)
  unfold State.lpmParity
  generalize s.lpmRemove e = u at *
  refine ⟨bit_of_get_one (get_on_self _ _ (by decide)), ?_⟩
  rw [State.counted, get_on_ne _ (by decide), get_satAdd_self, get_set_ne _ _ (by decide), hcnt]

section ScrubOn

variable {s : State} (hrun : s.running = true) (hen : s.bit Reg.SYS_SCRUB_CTRL_EN = true)
include hrun hen

theorem exec_scrubOn (x : ScrubTarget) : exec (.tableScrubRead x) s = .next (s.tableScrub x).settle := by
  rw [exec_tableScrubRead hrun, State.scrub, if_pos hen]

/-- With the scrub on an entry that fails its check is taken out (R567). -/
theorem scrubOn_role :
    (∃ t, exec (.tableScrubRead .passEnd) s = .next t ∧
      t.get Reg.SYS_SCRUB_PASSES_COUNT = (s.get Reg.SYS_SCRUB_PASSES_COUNT + 1) % 2 ^ Reg.SYS_SCRUB_PASSES_COUNT.width ∧
      s.only t [] (keysOf [Reg.SYS_SCRUB_PASSES_COUNT])) ∧
    (∀ p e, mapFind s.fdb.entries p = some e → ∃ t, exec (.tableScrubRead (.fdb p true)) s = .next t ∧
      mapFind t.fdb.entries p = none ∧ (∀ q, q ≠ p → mapFind t.fdb.entries q = mapFind s.fdb.entries q) ∧
      t.bit Reg.FDB_STATUS_PARITY = true ∧ s.counted t Reg.FDB_PARITY_CNT_COUNT ∧
      s.only t [.fdb] (regsOf ["FDB_STATUS", "FDB_USED", "FDB_PARITY_LOC", "FDB_PARITY_CNT"])) ∧
    (∀ i c, s.cached i = true → mapFind s.flow.contexts i = some c → ∃ t, exec (.tableScrubRead (.flow i .keyError)) s = .next t ∧
      mapFind t.flow.contexts i = none ∧ t.bit Reg.FLOW_STATUS_POISON = true ∧
      s.only t [.flow, .dram] (regsOf ["FLOW_STATUS", "FLOW_USED", "FLOW_POISON_LOC", "DRAM_STATUS", "DRAM_ROW_GUARD_CNT"])) ∧
    (∀ tag n e, tag < 4 → mapFind (s.ruleSet tag) n = some e → ∃ t, exec (.tableScrubRead (.rule tag n true)) s = .next t ∧
      t.bit Reg.PARSE_STATUS_PARITY = true ∧ t.get Reg.PARSE_PARITY_LOC_VERSION = tag ∧
      t.get Reg.PARSE_PARITY_LOC_RULE_NUM = n % 2 ^ Reg.PARSE_PARITY_LOC_RULE_NUM.width ∧ (t.ruleEntry e).bad = true ∧
      s.only t [.rules] (regsOf ["PARSE_STATUS", "PARSE_PARITY_LOC"])) ∧
    (∀ r e, s.lpm.rows.find? (·.1 == r) = some (r, e) → ∃ t, exec (.tableScrubRead (.lpm r true)) s = .next t ∧
      t.bit Reg.LPM_STATUS_PARITY = true ∧ s.counted t Reg.LPM_PARITY_CNT_COUNT ∧
      s.only t [.lpm] (regsOf ["LPM_STATUS", "LPM_USED", "LPM_V4_COUNT", "LPM_V6_COUNT", "LPM_PARITY_LOC", "LPM_PARITY_CNT"])) := by
  refine ⟨?_, fun p e he => ?_, fun i c hc he => ?_, fun tag n e htag he => ?_, fun r e he => ?_⟩
  · exact ⟨_, exec_scrubOn hrun hen .passEnd, get_set_self .., only_settled (keep_set _ _ (only_id s _ _) (by simp [keysOf]))⟩
  · have hexec := exec_scrubOn hrun hen (.fdb p true)
    have heq : s.tableScrub (.fdb p true) = s.fdbParity p := if_pos (by rw [he]; rfl)
    rw [heq] at hexec
    obtain ⟨h1, h2, h3⟩ := fdbParity_spec s p
    have hframe := frame_fdbParity s p
    generalize s.fdbParity p = u at *
    refine ⟨_, hexec, ?_, fun q hq => ?_, h2, h3, only_widen (only_settled hframe) (by simp) (by simp)⟩
    · rw [settle_fdb, h1, mapFind_del_self]
    · rw [settle_fdb, h1, mapFind_del_ne _ (Ne.symm hq)]
  · have hexec := exec_scrubOn hrun hen (.flow i .keyError)
    have heq : s.tableScrub (.flow i .keyError) = s.loseKey i := if_pos hc
    rw [heq] at hexec
    obtain ⟨h1, h2⟩ := loseKey_spec s i
    have hframe := frame_loseKey s i
    generalize s.loseKey i = u at *
    exact ⟨_, hexec, h1, h2, only_widen (only_settled hframe) (by simp) (by simp)⟩
  · have hexec := exec_scrubOn hrun hen (.rule tag n true)
    have heq : s.tableScrub (.rule tag n true) = s.ruleParity tag n := rfl
    rw [heq] at hexec
    obtain ⟨h1, h2, h3, h4⟩ := ruleParity_spec htag he
    have hframe := frame_ruleParity s tag n
    generalize s.ruleParity tag n = u at *
    exact ⟨_, hexec, h1, h2, h3, h4, only_widen (only_settled hframe) (by simp) (by simp)⟩
  · have hexec := exec_scrubOn hrun hen (.lpm r true)
    have heq : s.tableScrub (.lpm r true) = s.lpmParity e := by
      simp only [State.tableScrub, he]
    rw [heq] at hexec
    obtain ⟨h1, h2⟩ := lpmParity_spec s e
    have hframe := frame_lpmParity s e
    generalize s.lpmParity e = u at *
    exact ⟨_, hexec, h1, h2, only_widen (only_settled hframe) (by simp) (by simp)⟩

end ScrubOn

/-- While the scrub is off a failing entry waits for the next access (R567). -/
theorem scrubOff_role {s : State} (hrun : s.running = true) (hen : s.bit Reg.SYS_SCRUB_CTRL_EN = false) :
    (∀ p e, mapFind s.fdb.entries p = some e → ∃ t,
      exec (.tableScrubRead (.fdb p true)) s = .next t ∧ mapFind t.fdb.entries p = some { e with bad := true } ∧
      s.only t [.fdb] (regsOf ["FDB_USED"])) ∧
    (∀ i o, s.cached i = true → ∃ t, exec (.tableScrubRead (.flow i o)) s = .next t ∧ mapGet t.flow.bad i .ok = o ∧
      t.flow.contexts = s.flow.contexts ∧ s.only t [.flow] (keysOf [])) ∧
    (∀ tag n e, tag < 4 → mapFind (s.ruleSet tag) n = some e → ∃ t, exec (.tableScrubRead (.rule tag n true)) s = .next t ∧
      (t.ruleEntry e).bad = true ∧ s.only t [.rules] (keysOf [])) := by
  have hexec (x : ScrubTarget) : exec (.tableScrubRead x) s = .next (s.markBad x).settle := by
    rw [exec_tableScrubRead hrun, State.scrub, if_neg (by simp [hen])]
  refine ⟨fun p e he => ?_, fun i o hc => ?_, fun tag n e htag he => ?_⟩
  · have h := hexec (.fdb p true)
    have heq : s.markBad (.fdb p true) = s.setFdb (mapPut s.fdb.entries p { e with bad := true }) := by
      simp only [State.markBad, he]
    rw [heq] at h
    exact ⟨_, h, mapFind_put_self .., only_settled (frame_setFdb _ _)⟩
  · have h := hexec (.flow i o)
    have heq : s.markBad (.flow i o) = s.modFlow fun x => { x with bad := mapSet x.bad i o .ok } := if_pos hc
    rw [heq] at h
    exact ⟨_, h, mapGet_set_self .., rfl, only_settled (keep_modFlow _ (only_id s _ _) (by simp))⟩
  · have h := hexec (.rule tag n true)
    have heq : s.markBad (.rule tag n true) = s.ruleBad tag n := rfl
    rw [heq] at h
    obtain ⟨h1, h2⟩ := ruleBad_spec htag he
    generalize s.ruleBad tag n = u at *
    exact ⟨_, h, h1, only_settled h2⟩

/-! ### Block tests -/

/-- The word that starts a test of block `b`: START and the block, nothing else. -/
theorem bistWord : ∀ b, b < 128 → within (2 ^ 31 + b) (definedBits [(.wo, Reg.SYS_BIST_CTRL_START), (.rw, Reg.SYS_BIST_CTRL_BLOCK)]) = true ∧
    bits (2 ^ 31 + b) 0 7 = b ∧ bitOf (2 ^ 31 + b) 31 = true := by
  decide +kernel

section Bist

variable {s : State}

/-- A write of START (R568). -/
theorem bistStart_role {b : Nat} (hs : s.served) (hb : b < 128) :
    (b ∉ s.buf.withdrawn → s.turnsAway (.bistStart (2 ^ 31 + b)) .range) ∧
    (b ∈ s.buf.withdrawn → s.get Reg.SYS_BIST_STATUS_STATE = 1 → s.turnsAway (.bistStart (2 ^ 31 + b)) .busy) ∧
    (b ∈ s.buf.withdrawn → s.get Reg.SYS_BIST_STATUS_STATE ≠ 1 →
      s.takes (.bistStart (2 ^ 31 + b)) [.plat] (regsOf ["SYS_BIST_CTRL", "SYS_BIST_STATUS"]) fun t =>
        t.get Reg.SYS_BIST_STATUS_STATE = 1 ∧ t.get Reg.SYS_BIST_STATUS_BLOCK = b ∧ t.get Reg.SYS_BIST_STATUS_BEAD = 0) := by
  obtain ⟨hword, hblock, hstart⟩ := bistWord b hb
  have hcheck : s.pageCheck 0 0x170 (2 ^ 31 + b) = if b ∈ s.buf.withdrawn then
      if s.get Reg.SYS_BIST_STATUS_STATE = 1 then .busy else .ok else .range := by
    show bistCheck s (2 ^ 31 + b) = _
    rw [bistCheck, hblock, hstart]
    by_cases hw : b ∈ s.buf.withdrawn <;> simp [hw]
  have hdown : s.pageDown true 0x170 = false := rfl
  refine ⟨fun hw => ?_, fun hw hst => ?_, fun hw hst => ?_⟩
  · exact turnsAway_of_write hs regIs_SYS_BIST_CTRL (page := 0) (off := 0x170) rfl rfl hdown trivial (by omega) hword rfl rfl
      (hcheck.trans (if_neg hw)) (by decide)
  · exact turnsAway_of_write hs regIs_SYS_BIST_CTRL (page := 0) (off := 0x170) rfl rfl hdown trivial (by omega) hword rfl rfl
      (hcheck.trans (by rw [if_pos hw, if_pos hst])) (by decide)
  · refine takes_of_write hs regIs_SYS_BIST_CTRL (page := 0) (off := 0x170)
      (t := (((s.set Reg.SYS_BIST_CTRL_BLOCK b).set Reg.SYS_BIST_STATUS_STATE 1).set Reg.SYS_BIST_STATUS_BLOCK b).set Reg.SYS_BIST_STATUS_BEAD 0)
      rfl rfl hdown trivial (by omega) hword rfl rfl (hcheck.trans (by rw [if_pos hw, if_neg hst])) ?_ ?_ ?_ ⟨?_, ?_, ?_⟩
    · rw [storeFields_wo, storeFields_rw, storeFields_nil]
      show bistEffect (s.set Reg.SYS_BIST_CTRL_BLOCK (bits (2 ^ 31 + b) 0 7)) (2 ^ 31 + b) = _
      rw [bistEffect, hblock, if_pos hstart]
    · exact keep_set _ _ (keep_set _ _ (keep_set _ _ (keep_set _ _ (only_id s _ _) (regsOf_mem 0 18 0 0 _ .rw rfl (by simp) (by simp)))
        (reg_SYS_BIST_STATUS_STATE (by simp))) (reg_SYS_BIST_STATUS_BLOCK (by simp))) (reg_SYS_BIST_STATUS_BEAD (by simp))
    · exact not_regsOf 0 0 0 (List.mem_of_getElem? (i := 12) rfl) (a := .wo) (by simp) (by simp)
    all_goals simp (disch := decide) only [answered_get, get_set_ne, get_set_self]
    · rfl
    · exact Nat.mod_eq_of_lt hb
    · rfl

theorem exec_bistDone (hrun : s.running = true) {r : Option Nat} (hr : ∀ k, r = some k → k < 4096) :
    exec (.bistDone r) s = .next (s.bistDone r).settle := by
  have hlt : r.getD 0 < 4096 := by
    cases r with
    | none => decide
    | some k => exact hr k rfl
  exact (onObject_ok hlt _).trans (whenUp_running hrun fun s => s.bistDone r)

/-- The end of a block test (R568). -/
theorem bistDone_role (hrun : s.running = true) {r : Option Nat} (hr : ∀ k, r = some k → k < 4096) :
    (s.get Reg.SYS_BIST_STATUS_STATE = 1 → ∃ t, exec (.bistDone r) s = .next t ∧
      (r = none → t.get Reg.SYS_BIST_STATUS_STATE = 2) ∧
      (∀ k, r = some k → s.get Reg.SYS_BIST_STATUS_BLOCK < 128 → t.get Reg.SYS_BIST_STATUS_STATE = 3 ∧
        t.get Reg.SYS_BIST_STATUS_BEAD = s.get Reg.SYS_BIST_STATUS_BLOCK * 4096 + k ∧ t.bit Reg.SYS_BIST_STATUS_FAIL_EVT = true) ∧
      s.only t [] (regsOf ["SYS_BIST_STATUS"])) ∧
    (s.get Reg.SYS_BIST_STATUS_STATE ≠ 1 → ∃ t, exec (.bistDone r) s = .next t ∧ s.only t [] (keysOf [])) := by
  have hexec := exec_bistDone hrun hr
  have hmoved := frame_bistDone s r
  refine ⟨fun hst => ?_, fun hst => ?_⟩
  · refine ⟨_, hexec, ?_, ?_, only_settled hmoved⟩
    · rintro rfl
      have heq : s.bistDone none = s.set Reg.SYS_BIST_STATUS_STATE 2 := if_neg (by simp [hst])
      rw [heq, get_settle, get_set_self]
      rfl
    · rintro k rfl hblock
      have heq : s.bistDone (some k) = ((s.set Reg.SYS_BIST_STATUS_STATE 3).set Reg.SYS_BIST_STATUS_BEAD
          (s.get Reg.SYS_BIST_STATUS_BLOCK * 4096 + k)).on Reg.SYS_BIST_STATUS_FAIL_EVT := if_neg (by simp [hst])
      have hk := hr k rfl
      rw [heq]
      refine ⟨?_, ?_, bit_of_get_one (get_on_self ((s.set Reg.SYS_BIST_STATUS_STATE 3).set Reg.SYS_BIST_STATUS_BEAD
        (s.get Reg.SYS_BIST_STATUS_BLOCK * 4096 + k)) Reg.SYS_BIST_STATUS_FAIL_EVT (by decide))⟩
      · simp (disch := decide) only [get_settle, get_on_ne, get_set_ne, get_set_self]
        rfl
      · simp (disch := decide) only [get_settle, get_on_ne, get_set_self]
        refine Nat.mod_eq_of_lt ?_
        show _ < 524288
        omega
  · have heq : s.bistDone r = s := if_pos (by simp [hst])
    rw [heq] at hexec
    exact ⟨_, hexec, only_settled (only_refl s)⟩

end Bist

/-- Settles O52: a clause for each command of start-up, of the table scrub with the scrub on and off, and of the block tests. -/
theorem startUpScrubAndBlockTests : Obligations.StartUpScrubAndBlockTests := by
  intro s hrun
  exact ⟨fun ha hb ht hf hlt hr => startReady_role hrun ha hb ht (allUp_of_funcs hf hlt) hr, startReady_waits hrun, startLate_role hrun,
    startLate_waits hrun, scrubOn_role hrun, scrubOff_role hrun, fun _ hs hb => bistStart_role hs hb, fun _ hr => bistDone_role hrun hr⟩

end Sys2Proof.Machine
end

section
/-! The stages of boot and SEC_ATTEST (R493, R495, R496, R499, R559, Table 19-4). -/

-- One proof at a time: side by side they take more threads than the memory bound of the check leaves room for.
set_option Elab.async false

namespace Sys2Proof.Machine

/-! ### The stages of boot -/

theorem runsRoutine_syncEngines (s : State) (k : RoutineKind) : s.syncEngines.runsRoutine k = s.runsRoutine k := by
  unfold State.runsRoutine
  rw [show s.syncEngines.reck = s.reck from (frame_syncEngines s).1 .reck (by simp)]

/-- The engines' registers are none of boot's. -/
theorem get_syncEngines_state (s : State) : s.syncEngines.get Reg.SEC_BOOT_STATE = s.get Reg.SEC_BOOT_STATE :=
  kept_of_only (frame_syncEngines s) 22 0 0 (List.mem_of_getElem? (i := 0) rfl) (a := .ro) (by simp) (by simp)

theorem get_syncEngines_stage (s : State) : s.syncEngines.get Reg.SEC_BOOT_STAGE = s.get Reg.SEC_BOOT_STAGE :=
  kept_of_only (frame_syncEngines s) 22 0 0 (List.mem_of_getElem? (i := 0) rfl) (a := .ro) (by simp) (by simp)

theorem get_syncEngines_reason (s : State) : s.syncEngines.get Reg.SEC_BOOT_REASON = s.get Reg.SEC_BOOT_REASON :=
  kept_of_only (frame_syncEngines s) 22 0 0 (List.mem_of_getElem? (i := 0) rfl) (a := .ro) (by simp) (by simp)

theorem get_endRoutine (s : State) (p : RoutineKind → Bool) (f : Fld) : (s.endRoutine p).get f = s.get f := rfl

/-- A boot that ends FAILED (R495). -/
theorem bootFailed_spec (s : State) {reason : Nat} (hr : reason < 16) : (s.bootFailed reason).get Reg.SEC_BOOT_STATE = 2 ∧
    (s.bootFailed reason).get Reg.SEC_BOOT_REASON = reason ∧ (s.bootFailed reason).bit Reg.SYS_START_STATUS_FAILED = true ∧
    (s.bootFailed reason).runsRoutine .boot = false := by
  have hfailed (u : State) : u.syncEngines.get Reg.SYS_START_STATUS_FAILED = u.get Reg.SYS_START_STATUS_FAILED :=
    kept_of_only (frame_syncEngines u) 0 0 0 (List.mem_of_getElem? (i := 17) rfl) (a := .ro) (by simp) (by simp)
  unfold State.bootFailed
  refine ⟨?_, ?_, bit_of_get_one ?_, ?_⟩
  · rw [get_syncEngines_state, get_endRoutine, get_on_ne _ (by decide), get_set_ne _ _ (by decide), get_set_self]
    rfl
  · rw [get_syncEngines_reason, get_endRoutine, get_on_ne _ (by decide), get_set_self]
    exact Nat.mod_eq_of_lt hr
  · rw [hfailed, get_endRoutine, get_on_self _ _ (by decide)]
  · rw [runsRoutine_syncEngines, runsRoutine_endRoutine]

/-- A stage of boot that is complete shows its number. -/
theorem bootStep_stage (s : State) {n : Nat} (hn : n < 16) : (s.bootStep n).get Reg.SEC_BOOT_STAGE = n := by
  have hcount := kept_of_only (frame_countCheckpoint (s.set Reg.SEC_BOOT_STAGE n) 0 n) (f := Reg.SEC_BOOT_STAGE) 22 0 0
    (List.mem_of_getElem? (i := 0) rfl) (a := .ro) (by simp) (by simp)
  exact hcount.trans ((get_set_self ..).trans (Nat.mod_eq_of_lt hn))

/-- What a complete stage leaves as it was. -/
theorem get_bootStep (s : State) (n : Nat) : (s.bootStep n).get Reg.SEC_BOOT_STATE = s.get Reg.SEC_BOOT_STATE ∧
    (s.bootStep n).get Reg.SEC_LIFECYCLE_STATE = s.get Reg.SEC_LIFECYCLE_STATE ∧
    (s.bootStep n).get Reg.SEC_LIFECYCLE_ID_OK = s.get Reg.SEC_LIFECYCLE_ID_OK := by
  have hcount := frame_countCheckpoint (s.set Reg.SEC_BOOT_STAGE n) 0 n
  exact ⟨(kept_of_only hcount 22 0 0 (List.mem_of_getElem? (i := 0) rfl) (a := .ro) (by simp) (by simp)).trans (get_set_ne _ _ (by decide)),
    (kept_of_only hcount 22 0 0 (List.mem_of_getElem? (i := 1) rfl) (a := .ro) (by simp) (by simp)).trans (get_set_ne _ _ (by decide)),
    (kept_of_only hcount 22 0 0 (List.mem_of_getElem? (i := 1) rfl) (a := .ro) (by simp) (by simp)).trans (get_set_ne _ _ (by decide))⟩

/-- The registers show the fuses of the lifecycle (Table 19-7). -/
theorem lifecycle_lt (s : State) : s.lifecycle < 4 := by
  have h : ∀ b : BitVec 8, popCount [b &&& 7] < 4 := by decide
  exact h _

theorem get_syncFuses_lifecycle (s : State) : s.syncFuses.get Reg.SEC_LIFECYCLE_STATE = s.lifecycle := by
  unfold State.syncFuses
  simp (disch := decide) only [get_set_ne, get_setB_ne, get_set_self]
  exact Nat.mod_eq_of_lt (lifecycle_lt s)

theorem get_syncFuses_bootState (s : State) : s.syncFuses.get Reg.SEC_BOOT_STATE = s.get Reg.SEC_BOOT_STATE :=
  kept_of_only (frame_syncFuses s) 22 0 0 (List.mem_of_getElem? (i := 0) rfl) (a := .ro) (by simp) (by simp)

theorem drawChallenge_draws (s : State) : s.drawChallenge.sec.draws = s.sec.draws + 1 := by
  have hkeep (l : List Nat) (c : List Byte) : ∀ u : State,
      (l.foldl (fun s i => s.set (Reg.SEC_DEBUG_CHALLENGE_CHALLENGE i) (leAt c (4 * i) 4)) u).sec = u.sec := by
    induction l with
    | nil => exact fun u => rfl
    | cons i l ih => exact fun u => ih _
  unfold State.drawChallenge
  rw [hkeep]
  rfl

/-- The state in which boot ends: DONE is shown, and Reckoner 0 gives up its routine. -/
def State.bootClosed (u : State) : State :=
  ((u.set Reg.SEC_BOOT_STATE 1).on Reg.SYS_START_STATUS_BOOT_DONE).endRoutine (· == .boot)

theorem bootDone_eq (s : State) : s.bootDone = (s.bootStep 5).drawChallenge.bootClosed.syncEngines.modPlat
    fun p => { p with bootDoneAt := (s.bootStep 5).drawChallenge.cycle } := by
  unfold State.bootDone
  generalize (s.bootStep 5).drawChallenge = u
  rfl

theorem bootClosed_spec (u : State) : u.bootClosed.get Reg.SEC_BOOT_STATE = 1 ∧
    u.bootClosed.get Reg.SEC_BOOT_STAGE = u.get Reg.SEC_BOOT_STAGE ∧ u.bootClosed.get Reg.SYS_START_STATUS_BOOT_DONE = 1 ∧
    u.bootClosed.runsRoutine .boot = false ∧ u.bootClosed.sec = u.sec := by
  unfold State.bootClosed
  refine ⟨?_, ?_, ?_, runsRoutine_endRoutine _ _, rfl⟩
  · rw [get_endRoutine, get_on_ne _ (by decide), get_set_self]
    rfl
  · rw [get_endRoutine, get_on_ne _ (by decide), get_set_ne _ _ (by decide)]
  · rw [get_endRoutine, get_on_self _ _ (by decide)]

theorem get_syncEngines_bootDone (u : State) :
    u.syncEngines.get Reg.SYS_START_STATUS_BOOT_DONE = u.get Reg.SYS_START_STATUS_BOOT_DONE :=
  kept_of_only (frame_syncEngines u) 0 0 0 (List.mem_of_getElem? (i := 17) rfl) (a := .ro) (by simp) (by simp)

/-- The last stage: boot is DONE, a challenge is drawn, and Reckoner 0 is free (R493, R505). -/
theorem bootDone_spec (s : State) : s.bootDone.get Reg.SEC_BOOT_STATE = 1 ∧ s.bootDone.get Reg.SEC_BOOT_STAGE = 5 ∧
    s.bootDone.bit Reg.SYS_START_STATUS_BOOT_DONE = true ∧ s.bootDone.runsRoutine .boot = false ∧
    s.bootDone.sec.draws = s.sec.draws + 1 ∧ s.bootDone.plat.bootDoneAt = s.cycle := by
  have hstep := bootStep_stage s (n := 5) (by decide)
  have hcycle : (s.bootStep 5).cycle = s.cycle := (frame_bootStep s 5).1 .cycle (by simp)
  have hsec : (s.bootStep 5).sec = s.sec := (frame_bootStep s 5).1 .sec (by simp)
  have hdraw := frame_drawChallenge (s.bootStep 5)
  have hdrawStage := (kept_of_only hdraw (f := Reg.SEC_BOOT_STAGE) 22 0 0 (List.mem_of_getElem? (i := 0) rfl)
    (a := .ro) (by simp) (by simp)).trans hstep
  have hdrawCycle := (hdraw.1 .cycle (by simp)).trans hcycle
  have hdraws := drawChallenge_draws (s.bootStep 5)
  rw [hsec] at hdraws
  rw [bootDone_eq]
  generalize (s.bootStep 5).drawChallenge = u at *
  obtain ⟨h1, h2, h3, h4, h5⟩ := bootClosed_spec u
  generalize u.bootClosed = v at *
  have hreck : v.syncEngines.sec = v.sec := (frame_syncEngines v).1 .sec (by simp)
  have k1 := (get_syncEngines_state v).trans h1
  have k2 := (get_syncEngines_stage v).trans (h2.trans hdrawStage)
  have k3 := (get_syncEngines_bootDone v).trans h3
  have k4 := (runsRoutine_syncEngines v .boot).trans h4
  have k5 := congrArg SecSt.draws (hreck.trans h5)
  generalize v.syncEngines = w at *
  exact ⟨k1, k2, bit_of_get_one k3, k4, k5.trans hdraws, hdrawCycle⟩

section Boot

variable {s : State} (hrun : s.running = true) (rom fuse id : Bool)
include hrun

theorem exec_bootStage : exec (.bootStage rom fuse id) s = .next (s.bootStage rom fuse id).settle :=
  whenUp_running hrun fun s => s.bootStage rom fuse id

/-- BOOT_STAGE while boot runs (R493, R495, Table 19-4). -/
theorem bootStage_role (hstate : s.get Reg.SEC_BOOT_STATE = 0) (hboot : s.runsRoutine .boot = true) :
    (s.get Reg.SEC_BOOT_STAGE = 0 →
      (rom = false → ∃ t, exec (.bootStage rom fuse id) s = .next t ∧ t.get Reg.SEC_BOOT_STATE = 2 ∧ t.get Reg.SEC_BOOT_REASON = 1 ∧
        t.bit Reg.SYS_START_STATUS_FAILED = true ∧ t.runsRoutine .boot = false) ∧
      (rom = true → (fuse = false ∨ s.checkWordOk = false) → ∃ t, exec (.bootStage rom fuse id) s = .next t ∧
        t.get Reg.SEC_BOOT_STATE = 2 ∧ t.get Reg.SEC_BOOT_REASON = 2 ∧ t.bit Reg.SYS_START_STATUS_FAILED = true) ∧
      (rom = true → fuse = true → s.checkWordOk = true → ∃ t, exec (.bootStage rom fuse id) s = .next t ∧
        t.get Reg.SEC_BOOT_STATE = 0 ∧ t.get Reg.SEC_BOOT_STAGE = 1 ∧ t.get Reg.SEC_LIFECYCLE_STATE = s.lifecycle)) ∧
    (s.get Reg.SEC_BOOT_STAGE = 1 → ∃ t, exec (.bootStage rom fuse id) s = .next t ∧ t.get Reg.SEC_BOOT_STAGE = 2 ∧
      t.bit Reg.SEC_LIFECYCLE_ID_OK = (id && s.sec.keyKept && s.keyState)) ∧
    (s.get Reg.SEC_BOOT_STAGE = 2 ∨ s.get Reg.SEC_BOOT_STAGE = 3 → ∃ t, exec (.bootStage rom fuse id) s = .next t ∧
      t.get Reg.SEC_BOOT_STAGE = s.get Reg.SEC_BOOT_STAGE + 1 ∧ t.get Reg.SEC_BOOT_STATE = 0) ∧
    (s.get Reg.SEC_BOOT_STAGE = 4 → ∃ t, exec (.bootStage rom fuse id) s = .next t ∧ t.get Reg.SEC_BOOT_STATE = 1 ∧
      t.get Reg.SEC_BOOT_STAGE = 5 ∧ t.bit Reg.SYS_START_STATUS_BOOT_DONE = true ∧ t.runsRoutine .boot = false ∧
      t.sec.draws = s.sec.draws + 1 ∧ t.plat.bootDoneAt = s.cycle) ∧
    (∀ t, exec (.bootStage rom fuse id) s = .next t → s.only t [.reck, .tally, .sec, .plat] (regsOf ["SYS_START_STATUS",
      "RCK_ENG_STATUS", "SEC_BOOT", "SEC_LIFECYCLE", "SEC_DEVICE_ID_LO", "SEC_DEVICE_ID_HI", "SEC_DEBUG_CHALLENGE"])) := by
  have hexec := exec_bootStage hrun rom fuse id
  have hmoved := frame_bootStage s rom fuse id
  have hgo : s.bootStage rom fuse id = match s.get Reg.SEC_BOOT_STAGE with
      | 0 =>
        if !rom then s.bootFailed 1
        else if !fuse || !s.checkWordOk then s.bootFailed 2
        else s.syncFuses.bootStep 1
      | 1 => (s.setB Reg.SEC_LIFECYCLE_ID_OK (id && s.sec.keyKept && s.keyState)).bootStep 2
      | 2 => s.scanHeads.bootStep 3
      | 3 => s.bootStep 4
      | 4 => s.bootDone
      | _ => s := if_neg (by simp [hstate, hboot])
  refine ⟨fun hstage => ⟨fun hrom => ?_, fun hrom hbad => ?_, fun hrom hfuse hword => ?_⟩, fun hstage => ?_, fun hstage => ?_,
    fun hstage => ?_, fun t ht => ?_⟩
  · have heq : s.bootStage rom fuse id = s.bootFailed 1 := by
      rw [hgo]
      simp only [hstage, hrom, Bool.not_false, if_true]
    have hspec := bootFailed_spec s (reason := 1) (by decide)
    rw [heq] at hexec
    generalize s.bootFailed 1 = u at *
    exact ⟨_, hexec, hspec⟩
  · have heq : s.bootStage rom fuse id = s.bootFailed 2 := by
      rw [hgo]
      simp only [hstage, hrom, Bool.not_true, Bool.false_eq_true, if_false]
      exact if_pos (by rcases hbad with h | h <;> simp [h])
    obtain ⟨h1, h2, h3, -⟩ := bootFailed_spec s (reason := 2) (by decide)
    rw [heq] at hexec
    generalize s.bootFailed 2 = u at *
    exact ⟨_, hexec, h1, h2, h3⟩
  · have heq : s.bootStage rom fuse id = s.syncFuses.bootStep 1 := by
      rw [hgo]
      simp only [hstage, hrom, hfuse, hword, Bool.not_true, Bool.or_self, Bool.false_eq_true, if_false]
    obtain ⟨h1, h2, -⟩ := get_bootStep s.syncFuses 1
    have h3 := bootStep_stage s.syncFuses (n := 1) (by decide)
    rw [get_syncFuses_bootState, hstate] at h1
    rw [get_syncFuses_lifecycle] at h2
    rw [heq] at hexec
    generalize s.syncFuses.bootStep 1 = u at *
    exact ⟨_, hexec, h1, h3, h2⟩
  · have heq : s.bootStage rom fuse id = (s.setB Reg.SEC_LIFECYCLE_ID_OK (id && s.sec.keyKept && s.keyState)).bootStep 2 := by
      rw [hgo]
      simp only [hstage]
    have hid : (s.setB Reg.SEC_LIFECYCLE_ID_OK (id && s.sec.keyKept && s.keyState)).bit Reg.SEC_LIFECYCLE_ID_OK =
        (id && s.sec.keyKept && s.keyState) := by
      rw [State.bit, get_setB_self _ _ _ (by decide)]
      cases id && s.sec.keyKept && s.keyState <;> rfl
    rw [heq] at hexec
    generalize s.setB Reg.SEC_LIFECYCLE_ID_OK (id && s.sec.keyKept && s.keyState) = u at *
    obtain ⟨-, -, h3⟩ := get_bootStep u 2
    have h4 := bootStep_stage u (n := 2) (by decide)
    rw [State.bit, ← h3] at hid
    generalize u.bootStep 2 = v at *
    exact ⟨_, hexec, h4, hid⟩
  · rcases hstage with hstage | hstage
    · have heq : s.bootStage rom fuse id = s.scanHeads.bootStep 3 := by
        rw [hgo]
        simp only [hstage]
      obtain ⟨h1, -⟩ := get_bootStep s.scanHeads 3
      have h2 := bootStep_stage s.scanHeads (n := 3) (by decide)
      have hscan : s.scanHeads.get Reg.SEC_BOOT_STATE = s.get Reg.SEC_BOOT_STATE := rfl
      rw [hscan, hstate] at h1
      rw [heq] at hexec
      rw [hstage]
      generalize s.scanHeads.bootStep 3 = u at *
      exact ⟨_, hexec, h2, h1⟩
    · have heq : s.bootStage rom fuse id = s.bootStep 4 := by
        rw [hgo]
        simp only [hstage]
      obtain ⟨h1, -⟩ := get_bootStep s 4
      have h2 := bootStep_stage s (n := 4) (by decide)
      rw [hstate] at h1
      rw [heq] at hexec
      rw [hstage]
      generalize s.bootStep 4 = u at *
      exact ⟨_, hexec, h2, h1⟩
  · have heq : s.bootStage rom fuse id = s.bootDone := by
      rw [hgo]
      simp only [hstage]
    have hspec := bootDone_spec s
    rw [heq] at hexec
    generalize s.bootDone = u at *
    exact ⟨_, hexec, hspec⟩
  · obtain rfl := Host.Outcome.next.inj (hexec.symm.trans ht)
    exact only_settled hmoved

theorem bootStage_idle (h : s.get Reg.SEC_BOOT_STATE ≠ 0 ∨ s.runsRoutine .boot = false) :
    ∃ t, exec (.bootStage rom fuse id) s = .next t ∧ s.only t [] (keysOf []) := by
  have hexec := exec_bootStage hrun rom fuse id
  have heq : s.bootStage rom fuse id = s := if_pos (by rcases h with h | h <;> simp [h])
  rw [heq] at hexec
  exact ⟨_, hexec, only_settled (only_refl s)⟩

end Boot

/-! ### SEC_ATTEST -/

section Attest

variable {s : State} {c : CmdIn} (ha : s.accepts 0x60 c)
include ha

theorem attest_param : c.param ≤ 1 := param_lt_of_accepts ha rfl rfl

/-- SEC_ATTEST (R493, R498, R499). -/
theorem secAttest_role :
    (∀ k, k = (if c.param = 0 then 32 else 0) →
      (c.input.length ≠ k → s.answers (.secAttest c) 0x60 c CmdRes.field) ∧
      (c.input.length = k → s.keyUsable = false → s.answers (.secAttest c) 0x60 c (CmdRes.of .denied)) ∧
      (c.param = 1 → c.input = [] → s.keyUsable = true → s.answers (.secAttest c) 0x60 c
        { CmdRes.ok with result := leBytes 2 Config.chain.length, out := padTo 4096 Config.chain })) ∧
    (c.param = 0 → c.input.length = 32 → s.keyUsable = true → s.ends (.secAttest c) 0x60 c
      { CmdRes.ok with result := leBytes 2 640
                       out := s.reportBody c.input ++ padTo 384 (Config.sign s.sec.draws (s.reportBody c.input)) }
      [.sec] (keysOf []) fun t => t.sec = { s.sec with draws := s.sec.draws + 1, reports := s.sec.reports + 1 }) := by
  have hno : ∀ o, opInfo 0x60 = some o → o.routine = none := fun _ h => by cases h; rfl
  have hparam : ¬ c.param > 1 := Nat.not_lt.mpr (attest_param ha)
  refine ⟨?_, fun h0 hlen hkey => ?_⟩
  · rintro k rfl
    refine ⟨fun hlen => ?_, fun hlen hkey => ?_, fun h1 hin hkey => ?_⟩
    · exact answers_of_core rfl ha hno (by rw [coreAttest, if_neg hparam, if_pos (by simp [hlen])])
    · exact answers_of_core rfl ha hno (by rw [coreAttest, if_neg hparam, if_neg (by simp [hlen]), if_pos (by simp [hkey])])
    · exact answers_of_core rfl ha hno (by simp [coreAttest, h1, hin, hkey])
  · exact ends_of_core rfl ha hno (u := s.modSec fun x => { x with draws := x.draws + 1, reports := x.reports + 1 })
      (by simp only [coreAttest, h0, hlen, hkey]; rfl) (only_of_regs rfl fun p hp => by cases p <;> simp_all [Part.same, State.modSec]) rfl
      fun t ht => ht.1 .sec (by simp)

end Attest

end Sys2Proof.Machine
end

section
/-! Configuration bundles and debug tokens (R501 to R505). -/

-- One proof at a time: side by side they take more threads than the memory bound of the check leaves room for.
set_option Elab.async false

namespace Sys2Proof.Machine

/-! ### The word that loads -/

/-- The word of a LOAD: the two bits LOAD and KIND above the length. -/
def loadWord (kind : Bool) (len : Nat) : Nat := 2 ^ 30 * (if kind then 3 else 2) + len

theorem testBit_loadWord (kind : Bool) {len : Nat} (hlen : len < 2 ^ 11) (j : Nat) :
    (loadWord kind len).testBit j = if j < 30 then len.testBit j else (if kind then 3 else 2 : Nat).testBit (j - 30) :=
  Nat.testBit_two_pow_mul_add _ (by omega) j

theorem within_loadWord (kind : Bool) {len : Nat} (hlen : len < 2 ^ 11) :
    within (loadWord kind len) (definedBits [(.wo, Reg.SEC_BUNDLE_CTRL_LOAD), (.rw, Reg.SEC_BUNDLE_CTRL_KIND),
      (.rw, Reg.SEC_BUNDLE_CTRL_LEN)]) = true := by
  have hmask : definedBits [(.wo, Reg.SEC_BUNDLE_CTRL_LOAD), (.rw, Reg.SEC_BUNDLE_CTRL_KIND), (.rw, Reg.SEC_BUNDLE_CTRL_LEN)] =
      2 ^ 30 * 3 + (2 ^ 11 - 1) := by decide
  rw [within, hmask, beq_iff_eq]
  refine Nat.eq_of_testBit_eq fun j => ?_
  rw [Nat.testBit_and, testBit_loadWord kind hlen, Nat.testBit_two_pow_mul_add _ (by decide), Nat.testBit_two_pow_sub_one]
  by_cases hj : j < 30
  · by_cases h11 : j < 11
    · simp [hj, h11]
    · have hhigh : len.testBit j = false := Nat.testBit_lt_two_pow (Nat.lt_of_lt_of_le hlen (Nat.pow_le_pow_right (by decide) (by omega)))
      simp [hj, hhigh]
  · rw [if_neg hj, if_neg hj, ← Nat.testBit_and]
    cases kind <;> rfl

theorem loadWord_bits (kind : Bool) {len : Nat} (hlen : len < 2 ^ 11) : loadWord kind len < 2 ^ 32 ∧
    bitOf (loadWord kind len) 31 = true ∧ bitOf (loadWord kind len) 30 = kind ∧ bits (loadWord kind len) 0 11 = len := by
  refine ⟨?_, ?_, ?_, ?_⟩
  · unfold loadWord
    split <;> omega
  · rw [bitOf, testBit_loadWord kind hlen]
    exact (if_neg (by decide)).trans (by cases kind <;> rfl)
  · rw [bitOf, testBit_loadWord kind hlen]
    exact (if_neg (by decide)).trans (by cases kind <;> rfl)
  · unfold loadWord bits
    rw [Nat.shiftRight_zero]
    split <;> omega

/-! ### What a check of a bundle or token sees -/

theorem bundleFault_congr {s t : State} (h : t.sec = s.sec) (b : List Byte) : t.bundleFault b = s.bundleFault b := by
  have hallowed (signer : Nat) (l : List (Nat × List Byte)) : ∀ st, t.opsAllowed signer st l = s.opsAllowed signer st l := by
    induction l with
    | nil => exact fun st => rfl
    | cons op l ih =>
      intro st
      have hop : t.opAllowed signer st op = s.opAllowed signer st op := by
        unfold State.opAllowed State.ownerHash
        rw [h]
      simp only [State.opsAllowed, hop, ih]
  unfold State.bundleFault State.lifecycle State.deviceId State.ownerHash
  simp only [h, hallowed]

theorem tokenFault_congr {s t : State} (h : t.sec = s.sec) (hc : t.challenge = s.challenge) (b : List Byte) :
    t.tokenFault b = s.tokenFault b := by
  unfold State.tokenFault State.tokenSigner State.lifecycle State.ownerDebugOnly State.deviceId State.ownerHash
  rw [h, hc]

theorem bundleFault_lt (s : State) (b : List Byte) : s.bundleFault b < 16 := by
  unfold State.bundleFault
  extract_lets
  repeat' split
  all_goals decide

theorem tokenFault_lt (s : State) (b : List Byte) : s.tokenFault b < 16 := by
  unfold State.tokenFault
  extract_lets
  repeat' split
  all_goals decide

/-- A token that passes its checks grants no bit beyond the two. -/
theorem grants_of_tokenFault {s : State} {b : List Byte} (h : s.tokenFault b = 0) : leAt b 7 1 < 4 := by
  by_contra hbig
  have hone : s.tokenFault b = 1 := if_pos (by simp; omega)
  omega

/-! ### A bundle -/

theorem get_modSec (s : State) (f : SecSt → SecSt) (g : Fld) : (s.modSec f).get g = s.get g := rfl

/-- What a check of a bundle comes to. -/
def State.bundleJudged (s : State) (b : List Byte) (n : Nat) : State :=
  if n != 0 then
    ((((s.modSec fun x => { x with stage := [] }).set Reg.SEC_BUNDLE_STATUS_OPS_DONE 0).set Reg.SEC_BUNDLE_STATUS_STATE 4).set
      Reg.SEC_BUNDLE_STATUS_REASON n).on Reg.SEC_STATUS_BUNDLE
  else
    ((((s.modSec fun x => { x with stage := [] }).set Reg.SEC_BUNDLE_STATUS_OPS_DONE 0).set Reg.SEC_BUNDLE_STATUS_STATE 2).set
      Reg.SEC_BUNDLE_STATUS_REASON 0).modSec fun x => { x with ops := bundleOps b }

theorem bundleLoad_eq (s : State) :
    s.bundleLoad = s.bundleJudged (stagedBytes s.sec.stage 1104) (s.bundleFault (stagedBytes s.sec.stage 1104)) := rfl

/-- A bundle's LOAD (R502). -/
theorem bundleLoad_spec (s : State) {b : List Byte} (hb : b = stagedBytes s.sec.stage 1104) :
    s.bundleLoad.sec.stage = [] ∧ s.bundleLoad.sec.fuses = s.sec.fuses ∧ s.bundleLoad.get Reg.SEC_BUNDLE_STATUS_OPS_DONE = 0 ∧
    s.bundleLoad.get Reg.SEC_BUNDLE_STATUS_REASON = s.bundleFault b ∧
    (s.bundleFault b = 0 → s.bundleLoad.get Reg.SEC_BUNDLE_STATUS_STATE = 2 ∧ s.bundleLoad.sec.ops = bundleOps b) ∧
    (s.bundleFault b ≠ 0 → s.bundleLoad.get Reg.SEC_BUNDLE_STATUS_STATE = 4 ∧ s.bundleLoad.bit Reg.SEC_STATUS_BUNDLE = true ∧
      s.bundleLoad.sec.ops = s.sec.ops) := by
  have hlt := bundleFault_lt s b
  rw [bundleLoad_eq, ← hb]
  generalize s.bundleFault b = n at *
  unfold State.bundleJudged
  have hops : ((s.modSec fun x => { x with stage := [] }).set Reg.SEC_BUNDLE_STATUS_OPS_DONE 0).get Reg.SEC_BUNDLE_STATUS_OPS_DONE = 0 :=
    get_set_self ..
  have hsec : ((s.modSec fun x => { x with stage := [] }).set Reg.SEC_BUNDLE_STATUS_OPS_DONE 0).sec = { s.sec with stage := [] } := rfl
  generalize (s.modSec fun x => { x with stage := [] }).set Reg.SEC_BUNDLE_STATUS_OPS_DONE 0 = u at *
  have hstage : u.sec.stage = [] := by rw [hsec]
  have hfuses : u.sec.fuses = s.sec.fuses := by rw [hsec]
  have hold : u.sec.ops = s.sec.ops := by rw [hsec]
  by_cases h0 : n = 0
  · subst h0
    rw [if_neg (by decide)]
    refine ⟨hstage, hfuses, ?_, ?_, fun _ => ⟨?_, rfl⟩, fun h => absurd rfl h⟩
    · rw [get_modSec, get_set_ne _ _ (by decide), get_set_ne _ _ (by decide), hops]
    · rw [get_modSec, get_set_self]
      rfl
    · rw [get_modSec, get_set_ne _ _ (by decide), get_set_self]
      rfl
  · rw [if_pos (by simp [h0])]
    refine ⟨hstage, hfuses, ?_, ?_, fun h => absurd h h0, fun _ => ⟨?_, bit_of_get_one (get_on_self ((u.set Reg.SEC_BUNDLE_STATUS_STATE 4).set
      Reg.SEC_BUNDLE_STATUS_REASON n) Reg.SEC_STATUS_BUNDLE (by decide)), hold⟩⟩
    · rw [get_on_ne _ (by decide), get_set_ne _ _ (by decide), get_set_ne _ _ (by decide), hops]
    · rw [get_on_ne _ (by decide), get_set_self]
      exact Nat.mod_eq_of_lt hlt
    · rw [get_on_ne _ (by decide), get_set_ne _ _ (by decide), get_set_self]
      rfl

/-! ### A token -/

theorem leNat_lt (l : List Byte) : leNat l < 256 ^ l.length := by
  induction l with
  | nil => decide
  | cons b l ih =>
    have hb := b.isLt
    simp only [leNat, List.length_cons, Nat.pow_succ]
    omega

theorem leAt_four_lt (l : List Byte) (off : Nat) : leAt l off 4 < 2 ^ 32 :=
  Nat.lt_of_lt_of_le (leNat_lt _) (Nat.le_trans (Nat.pow_le_pow_right (by decide) (List.length_take_le 4 _)) (by decide))

/-- Each word of the challenge is a word of the draw (R505). -/
theorem drawChallenge_word (s : State) {k : Nat} (hk : k < 8) :
    s.drawChallenge.get (Reg.SEC_DEBUG_CHALLENGE_CHALLENGE k) = leAt (padTo 32 (Config.entropy s.sec.draws)) (4 * k) 4 := by
  unfold State.drawChallenge
  extract_lets c u
  have hword (off : Nat) : leAt c off 4 % 2 ^ 32 = leAt c off 4 := Nat.mod_eq_of_lt (leAt_four_lt c off)
  show _ = leAt c (4 * k) 4
  clear_value u c
  simp only [List.range, List.range.loop, List.foldl_cons, List.foldl_nil]
  interval_cases k
  all_goals
    simp (disch := decide) only [get_set_ne, get_set_self]
    exact hword _

/-- What a check of a token comes to, before the next challenge is drawn. -/
def State.tokenJudged (s : State) (b : List Byte) : State :=
  if s.tokenFault b = 0 then
    (((((s.modSec fun x => { x with stage := [] }).set Reg.SEC_BUNDLE_STATUS_OPS_DONE 0).orBits Reg.SEC_DEBUG_STATUS_GRANTED (leAt b 7 1)).setB
      Reg.SEC_DEBUG_STATUS_BY_OWNER (leAt b 6 1 == 1)).set Reg.SEC_BUNDLE_STATUS_STATE 3).set Reg.SEC_BUNDLE_STATUS_REASON 0
  else ((((s.modSec fun x => { x with stage := [] }).set Reg.SEC_BUNDLE_STATUS_OPS_DONE 0).set Reg.SEC_BUNDLE_STATUS_STATE 4).set
    Reg.SEC_BUNDLE_STATUS_REASON (s.tokenFault b)).on Reg.SEC_STATUS_TOKEN_REJECT

theorem tokenLoad_eq (s : State) : s.tokenLoad = (s.tokenJudged (stagedBytes s.sec.stage 832)).drawChallenge := rfl

theorem tokenJudged_spec (s : State) (b : List Byte) : (s.tokenJudged b).sec = { s.sec with stage := [] } ∧
    (s.tokenJudged b).get Reg.SEC_BUNDLE_STATUS_REASON = s.tokenFault b ∧
    (s.tokenFault b = 0 → s.get Reg.SEC_DEBUG_STATUS_GRANTED < 4 → (s.tokenJudged b).get Reg.SEC_BUNDLE_STATUS_STATE = 3 ∧
      (s.tokenJudged b).get Reg.SEC_DEBUG_STATUS_GRANTED = s.get Reg.SEC_DEBUG_STATUS_GRANTED ||| leAt b 7 1) ∧
    (s.tokenFault b ≠ 0 → (s.tokenJudged b).get Reg.SEC_BUNDLE_STATUS_STATE = 4 ∧
      (s.tokenJudged b).get Reg.SEC_STATUS_TOKEN_REJECT = 1 ∧
      (s.tokenJudged b).get Reg.SEC_DEBUG_STATUS_GRANTED = s.get Reg.SEC_DEBUG_STATUS_GRANTED) := by
  have hlt := tokenFault_lt s b
  have hgrant := grants_of_tokenFault (s := s) (b := b)
  unfold State.tokenJudged
  have hold : ((s.modSec fun x => { x with stage := [] }).set Reg.SEC_BUNDLE_STATUS_OPS_DONE 0).get Reg.SEC_DEBUG_STATUS_GRANTED =
      s.get Reg.SEC_DEBUG_STATUS_GRANTED := get_set_ne _ _ (by decide)
  have hsec : ((s.modSec fun x => { x with stage := [] }).set Reg.SEC_BUNDLE_STATUS_OPS_DONE 0).sec = { s.sec with stage := [] } := rfl
  generalize (s.modSec fun x => { x with stage := [] }).set Reg.SEC_BUNDLE_STATUS_OPS_DONE 0 = u at *
  by_cases h0 : s.tokenFault b = 0
  · rw [if_pos h0]
    refine ⟨hsec, (get_set_self ..).trans h0.symm, fun _ hg => ⟨?_, ?_⟩, fun h => absurd h0 h⟩
    · rw [get_set_ne _ _ (by decide), get_set_self]
      rfl
    · rw [get_set_ne _ _ (by decide), get_set_ne _ _ (by decide), get_setB_ne _ _ (by decide), State.orBits, get_set_self, hold]
      exact Nat.mod_eq_of_lt (Nat.or_lt_two_pow (n := 2) hg (hgrant h0))
  · rw [if_neg h0]
    refine ⟨hsec, ?_, fun h => absurd h h0, fun _ => ⟨?_, get_on_self _ _ (by decide), ?_⟩⟩
    · rw [get_on_ne _ (by decide), get_set_self]
      exact Nat.mod_eq_of_lt hlt
    · rw [get_on_ne _ (by decide), get_set_ne _ _ (by decide), get_set_self]
      rfl
    · rw [get_on_ne _ (by decide), get_set_ne _ _ (by decide), get_set_ne _ _ (by decide), hold]

theorem drawChallenge_sec (s : State) : s.drawChallenge.sec = { s.sec with draws := s.sec.draws + 1 } := by
  have hkeep (l : List Nat) (c : List Byte) : ∀ u : State,
      (l.foldl (fun s i => s.set (Reg.SEC_DEBUG_CHALLENGE_CHALLENGE i) (leAt c (4 * i) 4)) u).sec = u.sec := by
    induction l with
    | nil => exact fun u => rfl
    | cons i l ih => exact fun u => ih _
  unfold State.drawChallenge
  rw [hkeep]
  rfl

/-- A token's LOAD (R504, R505). -/
theorem tokenLoad_spec (s : State) {b : List Byte} (hb : b = stagedBytes s.sec.stage 832) :
    s.tokenLoad.sec.stage = [] ∧ s.tokenLoad.sec.fuses = s.sec.fuses ∧ s.tokenLoad.sec.draws = s.sec.draws + 1 ∧
    (∀ k, k < 8 → s.tokenLoad.get (Reg.SEC_DEBUG_CHALLENGE_CHALLENGE k) = leAt (padTo 32 (Config.entropy s.sec.draws)) (4 * k) 4) ∧
    s.tokenLoad.get Reg.SEC_BUNDLE_STATUS_REASON = s.tokenFault b ∧
    (s.tokenFault b = 0 → s.get Reg.SEC_DEBUG_STATUS_GRANTED < 4 → s.tokenLoad.get Reg.SEC_BUNDLE_STATUS_STATE = 3 ∧
      s.tokenLoad.get Reg.SEC_DEBUG_STATUS_GRANTED = s.get Reg.SEC_DEBUG_STATUS_GRANTED ||| leAt b 7 1) ∧
    (s.tokenFault b ≠ 0 → s.tokenLoad.get Reg.SEC_BUNDLE_STATUS_STATE = 4 ∧ s.tokenLoad.bit Reg.SEC_STATUS_TOKEN_REJECT = true ∧
      s.tokenLoad.get Reg.SEC_DEBUG_STATUS_GRANTED = s.get Reg.SEC_DEBUG_STATUS_GRANTED) := by
  rw [tokenLoad_eq, ← hb]
  obtain ⟨hsec, hreason, hpass, hfail⟩ := tokenJudged_spec s b
  generalize s.tokenJudged b = u at *
  have hframe := frame_drawChallenge u
  have hsec2 := drawChallenge_sec u
  have hwords := fun k (hk : k < 8) => drawChallenge_word u hk
  have hst : u.drawChallenge.get Reg.SEC_BUNDLE_STATUS_STATE = u.get Reg.SEC_BUNDLE_STATUS_STATE :=
    kept_of_only hframe 22 0 0 (List.mem_of_getElem? (i := 7) rfl) (a := .ro) (by simp) (by simp)
  have hre : u.drawChallenge.get Reg.SEC_BUNDLE_STATUS_REASON = u.get Reg.SEC_BUNDLE_STATUS_REASON :=
    kept_of_only hframe 22 0 0 (List.mem_of_getElem? (i := 7) rfl) (a := .ro) (by simp) (by simp)
  have hgr : u.drawChallenge.get Reg.SEC_DEBUG_STATUS_GRANTED = u.get Reg.SEC_DEBUG_STATUS_GRANTED :=
    kept_of_only hframe 22 0 0 (List.mem_of_getElem? (i := 5) rfl) (a := .ro) (by simp) (by simp)
  have hrej : u.drawChallenge.get Reg.SEC_STATUS_TOKEN_REJECT = u.get Reg.SEC_STATUS_TOKEN_REJECT :=
    kept_of_only hframe 22 0 0 (List.mem_of_getElem? (i := 4) rfl) (a := .w1c) (by simp) (by simp)
  generalize u.drawChallenge = v at *
  rw [hsec] at hsec2 hwords
  rw [hsec2]
  refine ⟨rfl, rfl, rfl, hwords, hre.trans hreason, fun h hg => ?_, fun h => ?_⟩
  · obtain ⟨h1, h2⟩ := hpass h hg
    exact ⟨hst.trans h1, hgr.trans h2⟩
  · obtain ⟨h1, h2, h3⟩ := hfail h
    exact ⟨hst.trans h1, bit_of_get_one (hrej.trans h2), hgr.trans h3⟩

end Sys2Proof.Machine
end

section
/-! A bundle's end, and what the host may load (R491, R501 to R505). -/

-- One proof at a time: side by side they take more threads than the memory bound of the check leaves room for.
set_option Elab.async false

namespace Sys2Proof.Machine

/-! ### Burning fuses (R491) -/

/-- A byte with bits set on top keeps those it had. -/
theorem and_or_self_right (a x : Byte) : x &&& (a ||| x) = x := by
  ext i hi
  simp only [BitVec.getElem_and, BitVec.getElem_or]
  cases x[i] <;> simp

theorem burnt_length {fuses : List Byte} {off : Nat} (v : List Byte) (h : off ≤ fuses.length) :
    (burn fuses off v).length = fuses.length := by
  simp only [burn, patchAt, slice, List.length_append, List.length_take, List.length_drop, List.length_map, List.length_zip]
  omega

/-- A fuse once set never clears: each byte of the image takes bits on, and keeps those it had. -/
theorem burn_keeps {fuses : List Byte} {off : Nat} (v : List Byte) (h : off ≤ fuses.length) (k : Nat) :
    fuses.getD k 0 &&& (burn fuses off v).getD k 0 = fuses.getD k 0 := by
  have hself (x : Byte) : x &&& x = x := BitVec.and_self
  have htake : (fuses.take off).length = off := by rw [List.length_take]; omega
  rw [burn, patchAt, List.append_assoc]
  generalize hw : (v.zip (slice fuses off v.length)).map (fun e => e.1 ||| e.2) = w
  have hlen : w.length = min v.length (min v.length (fuses.length - off)) := by
    rw [← hw]
    simp [slice]
  by_cases hlo : k < off
  · rw [List.getD_append _ _ _ _ (by omega)]
    simp only [List.getD_eq_getElem?_getD, List.getElem?_take, hlo, if_true, hself]
  · by_cases hhi : k < off + w.length
    · rw [List.getD_append_right _ _ _ _ (by omega), htake, List.getD_append _ _ _ _ (by omega)]
      have hin : k - off < v.length := by omega
      have hk : k < fuses.length := by omega
      have hwk : w.getD (k - off) 0 = v[k - off] ||| fuses[k] := by
        rw [List.getD_eq_getElem _ _ (by omega)]
        subst hw
        simp [slice, Nat.add_sub_cancel' (Nat.not_lt.mp hlo)]
      rw [hwk, List.getD_eq_getElem _ _ hk]
      exact and_or_self_right ..
    · have hdrop : (fuses.take off ++ (w ++ fuses.drop (off + w.length))).getD k 0 = fuses.getD k 0 := by
        rw [List.getD_append_right _ _ _ _ (by omega), htake, List.getD_append_right _ _ _ _ (by omega)]
        simp only [List.getD_eq_getElem?_getD, List.getElem?_drop]
        rw [show off + w.length + (k - off - w.length) = k by omega]
      rw [hdrop, hself]

/-- From one fuse image to another of the same size no bit clears. -/
structure FusesGrow (l m : List Byte) : Prop where
  size : m.length = l.length
  kept : ∀ k, l.getD k 0 &&& m.getD k 0 = l.getD k 0

theorem FusesGrow.refl (l : List Byte) : FusesGrow l l := ⟨rfl, fun _ => BitVec.and_self⟩

theorem FusesGrow.trans {l m n : List Byte} (h : FusesGrow l m) (k : FusesGrow m n) : FusesGrow l n :=
  ⟨k.size.trans h.size, fun i => by rw [← h.kept i, BitVec.and_assoc, k.kept i]⟩

theorem FusesGrow.burnt {l m : List Byte} (h : FusesGrow l m) {off : Nat} (v : List Byte) (ho : off ≤ l.length) :
    FusesGrow l (burn m off v) :=
  h.trans ⟨burnt_length v (h.size ▸ ho), burn_keeps v (h.size ▸ ho)⟩

/-- The operations of a bundle only burn fuses (Table 19-6). -/
theorem fusesGrow_applyOp {s : State} (h : s.sec.fuses.length = 512) (op : Nat × List Byte) :
    FusesGrow s.sec.fuses (s.applyOp op).sec.fuses := by
  have h0 := FusesGrow.refl s.sec.fuses
  unfold State.applyOp
  split
  · exact ((h0.burnt _ (by omega)).burnt _ (by omega)).burnt _ (by omega)
  · exact h0.burnt _ (by omega)
  · exact h0.burnt _ (by omega)
  · exact h0.burnt _ (by omega)
  · exact h0

theorem fusesGrow_ops (l : List (Nat × List Byte)) : ∀ s : State, s.sec.fuses.length = 512 →
    FusesGrow s.sec.fuses (l.foldl State.applyOp s).sec.fuses := by
  induction l with
  | nil => exact fun s _ => FusesGrow.refl _
  | cons op l ih =>
    intro s h
    have h1 := fusesGrow_applyOp h op
    exact h1.trans (ih _ (h1.size.trans h))

/-! ### The end of a bundle -/

theorem popCount_le (l : List Byte) : popCount l ≤ 8 * l.length := by
  induction l with
  | nil => simp [popCount]
  | cons b l ih =>
    have hb : (setBits b.toNat 8).length ≤ 8 := List.length_filter_le _ (List.range 8)
    simp only [popCount, List.map_cons, List.sum_cons, List.length_cons] at ih ⊢
    omega

theorem svnMin_lt (s : State) : s.svnMin < 2 ^ 7 := by
  have h := popCount_le (slice s.sec.fuses 48 8)
  have hlen : (slice s.sec.fuses 48 8).length ≤ 8 := List.length_take_le 8 _
  unfold State.svnMin
  omega

theorem get_syncFuses_svn (s : State) : s.syncFuses.get Reg.SEC_LIFECYCLE_SVN_MIN = s.svnMin := by
  unfold State.syncFuses
  simp (disch := decide) only [get_set_ne, get_set_self]
  exact Nat.mod_eq_of_lt (svnMin_lt s)

/-- The registers that a bundle leaves, once its operations have been applied. -/
def State.bundleShown (s : State) : State :=
  if s.syncFuses.sec.keyKept then s.syncFuses else s.syncFuses.off Reg.SEC_LIFECYCLE_ID_OK

theorem bundleShown_spec (s : State) : s.bundleShown.sec = s.sec ∧ s.bundleShown.get Reg.SEC_LIFECYCLE_STATE = s.lifecycle ∧
    s.bundleShown.get Reg.SEC_LIFECYCLE_SVN_MIN = s.svnMin ∧
    (s.sec.keyKept = false → s.bundleShown.get Reg.SEC_LIFECYCLE_ID_OK = 0) := by
  have hsec : s.syncFuses.sec = s.sec := rfl
  have h1 := get_syncFuses_lifecycle s
  have h2 := get_syncFuses_svn s
  unfold State.bundleShown
  rw [hsec]
  cases hk : s.sec.keyKept with
  | true => exact ⟨rfl, h1, h2, fun h => by cases h⟩
  | false =>
    refine ⟨rfl, ?_, ?_, fun _ => get_off_self ..⟩
    · exact (get_off_ne _ (by decide)).trans h1
    · exact (get_off_ne _ (by decide)).trans h2

section Done

variable {s : State} (hrun : s.running = true)
include hrun

theorem exec_bundleDone : exec .bundleDone s = .next s.bundleDone.settle := whenUp_running hrun fun s => s.bundleDone

/-- BUNDLE_DONE (R491, R502, R503). -/
theorem bundleDone_role (hst : s.get Reg.SEC_BUNDLE_STATUS_STATE = 2) (hops : s.sec.ops.length < 16) (hsize : s.sec.fuses.length = 512) :
    ∃ t, exec .bundleDone s = .next t ∧
      t.get Reg.SEC_BUNDLE_STATUS_STATE = 3 ∧ t.get Reg.SEC_BUNDLE_STATUS_OPS_DONE = s.sec.ops.length ∧
      t.bit Reg.SEC_STATUS_BUNDLE = true ∧ t.sec.ops = [] ∧ t.sec.fuses = (s.sec.ops.foldl State.applyOp s).sec.fuses ∧
      (∀ k, s.sec.fuses.getD k 0 &&& t.sec.fuses.getD k 0 = s.sec.fuses.getD k 0) ∧
      t.get Reg.SEC_LIFECYCLE_STATE = t.lifecycle ∧ t.get Reg.SEC_LIFECYCLE_SVN_MIN = t.svnMin ∧
      (t.sec.keyKept = false → t.bit Reg.SEC_LIFECYCLE_ID_OK = false) ∧
      s.only t [.sec] (regsOf ["SEC_LIFECYCLE", "SEC_DEVICE_ID_LO", "SEC_DEVICE_ID_HI", "SEC_STATUS", "SEC_BUNDLE_STATUS"]) := by
  have hexec := exec_bundleDone hrun
  have hmoved := frame_bundleDone s
  have hgrow := (fusesGrow_ops s.sec.ops s hsize).kept
  have heq : s.bundleDone = ((((s.sec.ops.foldl State.applyOp s).modSec fun x => { x with ops := [] }).bundleShown.set
      Reg.SEC_BUNDLE_STATUS_STATE 3).set Reg.SEC_BUNDLE_STATUS_OPS_DONE s.sec.ops.length).on Reg.SEC_STATUS_BUNDLE := if_neg (by simp [hst])
  rw [heq] at hexec hmoved
  generalize s.sec.ops.foldl State.applyOp s = u at *
  obtain ⟨hsec, hlife, hsvn, hid⟩ := bundleShown_spec (u.modSec fun x => { x with ops := [] })
  generalize (u.modSec fun x => { x with ops := [] }).bundleShown = v at *
  have hshown (f : Fld) (h1 : Fld.key Reg.SEC_STATUS_BUNDLE ≠ Fld.key f) (h2 : Fld.key Reg.SEC_BUNDLE_STATUS_OPS_DONE ≠ Fld.key f)
      (h3 : Fld.key Reg.SEC_BUNDLE_STATUS_STATE ≠ Fld.key f) : (((v.set Reg.SEC_BUNDLE_STATUS_STATE 3).set Reg.SEC_BUNDLE_STATUS_OPS_DONE
        s.sec.ops.length).on Reg.SEC_STATUS_BUNDLE).get f = v.get f := by
    rw [get_on_ne _ h1, get_set_ne _ _ h2, get_set_ne _ _ h3]
  have h1 := hshown Reg.SEC_LIFECYCLE_STATE (by decide) (by decide) (by decide)
  have h2 := hshown Reg.SEC_LIFECYCLE_SVN_MIN (by decide) (by decide) (by decide)
  have h3 := hshown Reg.SEC_LIFECYCLE_ID_OK (by decide) (by decide) (by decide)
  have h4 : (((v.set Reg.SEC_BUNDLE_STATUS_STATE 3).set Reg.SEC_BUNDLE_STATUS_OPS_DONE s.sec.ops.length).on
      Reg.SEC_STATUS_BUNDLE).get Reg.SEC_BUNDLE_STATUS_STATE = 3 := by
    rw [get_on_ne _ (by decide), get_set_ne _ _ (by decide), get_set_self]
    rfl
  have h5 : (((v.set Reg.SEC_BUNDLE_STATUS_STATE 3).set Reg.SEC_BUNDLE_STATUS_OPS_DONE s.sec.ops.length).on
      Reg.SEC_STATUS_BUNDLE).get Reg.SEC_BUNDLE_STATUS_OPS_DONE = s.sec.ops.length := by
    rw [get_on_ne _ (by decide), get_set_self]
    exact Nat.mod_eq_of_lt hops
  have h6 := get_on_self ((v.set Reg.SEC_BUNDLE_STATUS_STATE 3).set Reg.SEC_BUNDLE_STATUS_OPS_DONE s.sec.ops.length)
    Reg.SEC_STATUS_BUNDLE (by decide)
  have h7 : (((v.set Reg.SEC_BUNDLE_STATUS_STATE 3).set Reg.SEC_BUNDLE_STATUS_OPS_DONE s.sec.ops.length).on
      Reg.SEC_STATUS_BUNDLE).sec = { u.sec with ops := [] } := hsec
  generalize ((v.set Reg.SEC_BUNDLE_STATUS_STATE 3).set Reg.SEC_BUNDLE_STATUS_OPS_DONE s.sec.ops.length).on Reg.SEC_STATUS_BUNDLE = w at *
  have hfuses : w.sec.fuses = u.sec.fuses := by rw [h7]
  refine ⟨_, hexec, h4, h5, bit_of_get_one h6, ?_, hfuses, fun k => ?_, ?_, ?_, fun hk => ?_, only_settled hmoved⟩
  · show w.sec.ops = _
    rw [h7]
  · show _ &&& w.sec.fuses.getD k 0 = _
    rw [hfuses]
    exact hgrow k
  · show w.get _ = w.lifecycle
    rw [h1, hlife, State.lifecycle, State.lifecycle, hfuses]
    rfl
  · show w.get _ = w.svnMin
    rw [h2, hsvn, State.svnMin, State.svnMin, hfuses]
    rfl
  · refine bit_of_get_zero (h3.trans (hid ?_))
    have hkept : w.sec.keyKept = false := hk
    rwa [h7] at hkept

theorem bundleDone_idle (hst : s.get Reg.SEC_BUNDLE_STATUS_STATE ≠ 2) : ∃ t, exec .bundleDone s = .next t ∧ s.only t [] (keysOf []) := by
  have hexec := exec_bundleDone hrun
  have heq : s.bundleDone = s := if_pos (by simp [hst])
  rw [heq] at hexec
  exact ⟨_, hexec, only_settled (only_refl s)⟩

end Done

/-! ### LOAD -/

section Load

variable {s : State} (hs : s.served) {kind : Bool} {len : Nat} (hlen : len < 2 ^ 11)

/-- The state in which the fields of SEC_BUNDLE_CTRL have taken the word of a LOAD. -/
def State.loadStored (s : State) (kind : Bool) (len : Nat) : State :=
  (s.set Reg.SEC_BUNDLE_CTRL_KIND (b2n kind)).set Reg.SEC_BUNDLE_CTRL_LEN len

theorem only_loadStored : s.only (s.loadStored kind len) [] (regsOf ["SEC_BUNDLE_CTRL"]) :=
  keep_set _ _ (keep_set _ _ (only_id s _ _) (regsOf_mem 22 6 0 0 _ .rw rfl (by simp) (by simp))) (regsOf_mem 22 6 0 0 _ .rw rfl (by simp) (by simp))

include hlen in
theorem storeFields_load : s.storeFields [(.wo, Reg.SEC_BUNDLE_CTRL_LOAD), (.rw, Reg.SEC_BUNDLE_CTRL_KIND), (.rw, Reg.SEC_BUNDLE_CTRL_LEN)]
    (loadWord kind len) = s.loadStored kind len := by
  obtain ⟨-, -, hkind, hbits⟩ := loadWord_bits kind hlen
  have h1 : bits (loadWord kind len) Reg.SEC_BUNDLE_CTRL_KIND.lo Reg.SEC_BUNDLE_CTRL_KIND.width = b2n kind :=
    (bits_one (loadWord kind len) 30).trans (congrArg b2n hkind)
  have h2 : bits (loadWord kind len) Reg.SEC_BUNDLE_CTRL_LEN.lo Reg.SEC_BUNDLE_CTRL_LEN.width = len := hbits
  rw [storeFields_wo, storeFields_rw, storeFields_rw, storeFields_nil, h1, h2]
  rfl

theorem loadStored_challenge : (s.loadStored kind len).challenge = s.challenge := by
  have hword (k : Nat) : (s.loadStored kind len).get (Reg.SEC_DEBUG_CHALLENGE_CHALLENGE k) = s.get (Reg.SEC_DEBUG_CHALLENGE_CHALLENGE k) :=
    (get_set_ne _ _ (by simp only [Fld.key, Reg.SEC_BUNDLE_CTRL_LEN, Reg.SEC_DEBUG_CHALLENGE_CHALLENGE]; omega)).trans
      (get_set_ne _ _ (by simp only [Fld.key, Reg.SEC_BUNDLE_CTRL_KIND, Reg.SEC_DEBUG_CHALLENGE_CHALLENGE]; omega))
  simp only [State.challenge, hword]

include hs hlen

theorem secCheck_load : s.pageCheck 22 0x18 (loadWord kind len) =
    if s.get Reg.SEC_BUNDLE_STATUS_STATE = 1 ∨ s.get Reg.SEC_BUNDLE_STATUS_STATE = 2 then .busy
    else if len ≠ (if kind = true then 832 else 1104) then .range else .ok := by
  obtain ⟨-, hload, hkind, hbits⟩ := loadWord_bits kind hlen
  obtain ⟨-, -, -, hboot, -⟩ := hs
  show secCheck s 0x18 (loadWord kind len) = _
  rw [secCheck, if_pos (by simp [hload]), hkind, hbits, hboot]
  simp only [bne_self_eq_false, Bool.or_false, Bool.or_eq_true, beq_iff_eq, bne_iff_ne, ne_eq]

/-- A LOAD (R502, R504, Table 19-8). -/
theorem load_role {i : Instr} (hi : exec i s = whenUp s fun s => s.hostWrite 0x1600018 (loadWord kind len)) :
    (s.get Reg.SEC_BUNDLE_STATUS_STATE = 1 ∨ s.get Reg.SEC_BUNDLE_STATUS_STATE = 2 → s.turnsAway i .busy) ∧
    (s.get Reg.SEC_BUNDLE_STATUS_STATE ≠ 1 → s.get Reg.SEC_BUNDLE_STATUS_STATE ≠ 2 →
      (len ≠ (if kind = true then 832 else 1104) → s.turnsAway i .range) ∧
      (∀ b, kind = false → len = 1104 → b = stagedBytes s.sec.stage 1104 →
        s.takes i [.sec] (regsOf ["SEC_BUNDLE_CTRL", "SEC_BUNDLE_STATUS", "SEC_STATUS"]) fun t =>
          t.sec.stage = [] ∧ t.sec.fuses = s.sec.fuses ∧ t.get Reg.SEC_BUNDLE_STATUS_OPS_DONE = 0 ∧
          t.get Reg.SEC_BUNDLE_STATUS_REASON = s.bundleFault b ∧
          (s.bundleFault b = 0 → t.get Reg.SEC_BUNDLE_STATUS_STATE = 2 ∧ t.sec.ops = bundleOps b) ∧
          (s.bundleFault b ≠ 0 → t.get Reg.SEC_BUNDLE_STATUS_STATE = 4 ∧ t.bit Reg.SEC_STATUS_BUNDLE = true ∧ t.sec.ops = s.sec.ops)) ∧
      (∀ b, kind = true → len = 832 → b = stagedBytes s.sec.stage 832 →
        s.takes i [.sec] (regsOf ["SEC_BUNDLE_CTRL", "SEC_BUNDLE_STATUS", "SEC_STATUS", "SEC_DEBUG_STATUS", "SEC_DEBUG_CHALLENGE"])
          fun t => t.sec.stage = [] ∧ t.sec.fuses = s.sec.fuses ∧ t.sec.draws = s.sec.draws + 1 ∧
          (∀ k, k < 8 → t.get (Reg.SEC_DEBUG_CHALLENGE_CHALLENGE k) = leAt (padTo 32 (Config.entropy s.sec.draws)) (4 * k) 4) ∧
          t.get Reg.SEC_BUNDLE_STATUS_REASON = s.tokenFault b ∧
          (s.tokenFault b = 0 → s.get Reg.SEC_DEBUG_STATUS_GRANTED < 4 → t.get Reg.SEC_BUNDLE_STATUS_STATE = 3 ∧
            t.get Reg.SEC_DEBUG_STATUS_GRANTED = s.get Reg.SEC_DEBUG_STATUS_GRANTED ||| leAt b 7 1) ∧
          (s.tokenFault b ≠ 0 → t.get Reg.SEC_BUNDLE_STATUS_STATE = 4 ∧ t.bit Reg.SEC_STATUS_TOKEN_REJECT = true ∧
            t.get Reg.SEC_DEBUG_STATUS_GRANTED = s.get Reg.SEC_DEBUG_STATUS_GRANTED))) := by
  obtain ⟨hv, hload, hkind, -⟩ := loadWord_bits kind hlen
  have hword := within_loadWord kind hlen
  have hcheck := secCheck_load hs (kind := kind) hlen
  have hdown : s.pageDown true 0x1600018 = false := rfl
  refine ⟨fun hst => ?_, fun h1 h2 => ⟨fun hbad => ?_, ?_, ?_⟩⟩
  · exact turnsAway_of_write hs regIs_SEC_BUNDLE_CTRL (page := 22) (off := 0x18) rfl rfl hdown trivial hv hword rfl hi
      (hcheck.trans (if_pos hst)) (by decide)
  · exact turnsAway_of_write hs regIs_SEC_BUNDLE_CTRL (page := 22) (off := 0x18) rfl rfl hdown trivial hv hword rfl hi
      (hcheck.trans (by rw [if_neg (by simp [h1, h2]), if_pos hbad])) (by decide)
  · rintro b rfl rfl hb
    have hok := hcheck.trans (by rw [if_neg (by simp [h1, h2]), if_neg (by simp)])
    have hsec : (s.loadStored false 1104).sec = s.sec := rfl
    rw [← hsec] at hb
    have hspec := bundleLoad_spec (s.loadStored false 1104) hb
    rw [bundleFault_congr hsec, hsec] at hspec
    have heffect : s.pageEffect (s.loadStored false 1104) 22 0x18 (loadWord false 1104) = (s.loadStored false 1104).bundleLoad := by
      show secEffect _ 0x18 _ = _
      rw [secEffect, if_pos rfl, if_neg (by simp [hload]), if_neg (by simp [hkind])]
    have hmoved := keep_of (frame_bundleLoad (s.loadStored false 1104)) (P := [.sec]) (L := ["SEC_BUNDLE_CTRL", "SEC_BUNDLE_STATUS", "SEC_STATUS"])
      (only_widen only_loadStored (by simp) (by simp)) (by simp) (by simp)
    generalize (s.loadStored false 1104).bundleLoad = u at *
    refine takes_of_write hs regIs_SEC_BUNDLE_CTRL (page := 22) (off := 0x18) (t := u) rfl rfl hdown trivial
      hv hword rfl hi hok ?_ hmoved ?_ hspec
    · rw [storeFields_load hlen, heffect]
    · exact not_regsOf 0 0 0 (List.mem_of_getElem? (i := 12) rfl) (a := .wo) (by simp) (by simp)
  · rintro b rfl rfl hb
    have hok := hcheck.trans (by rw [if_neg (by simp [h1, h2]), if_neg (by simp)])
    have hsec : (s.loadStored true 832).sec = s.sec := rfl
    rw [← hsec] at hb
    have hspec := tokenLoad_spec (s.loadStored true 832) hb
    have hgrant : (s.loadStored true 832).get Reg.SEC_DEBUG_STATUS_GRANTED = s.get Reg.SEC_DEBUG_STATUS_GRANTED :=
      (get_set_ne _ _ (by decide)).trans (get_set_ne _ _ (by decide))
    rw [tokenFault_congr hsec loadStored_challenge, hsec, hgrant] at hspec
    have heffect : s.pageEffect (s.loadStored true 832) 22 0x18 (loadWord true 832) = (s.loadStored true 832).tokenLoad := by
      show secEffect _ 0x18 _ = _
      rw [secEffect, if_pos rfl, if_neg (by simp [hload]), if_pos (by simp [hkind])]
    have hmoved := keep_of (frame_tokenLoad (s.loadStored true 832)) (P := [.sec]) (L := ["SEC_BUNDLE_CTRL", "SEC_BUNDLE_STATUS", "SEC_STATUS", "SEC_DEBUG_STATUS", "SEC_DEBUG_CHALLENGE"])
      (only_widen only_loadStored (by simp) (by simp)) (by simp) (by simp)
    generalize (s.loadStored true 832).tokenLoad = u at *
    refine takes_of_write hs regIs_SEC_BUNDLE_CTRL (page := 22) (off := 0x18) (t := u) rfl rfl hdown trivial
      hv hword rfl hi hok ?_ hmoved ?_ hspec
    · rw [storeFields_load hlen, heffect]
    · exact not_regsOf 0 0 0 (List.mem_of_getElem? (i := 12) rfl) (a := .wo) (by simp) (by simp)

end Load

/-- Settles O54: each stage of boot, SEC_ATTEST, the LOAD of a bundle and of a token, and the end of a bundle. -/
theorem bootAttestationBundlesAndTokens : Obligations.BootAttestationBundlesAndTokens := by
  intro s hrun
  refine ⟨fun rom fuse id => ⟨bootStage_role hrun rom fuse id, bootStage_idle hrun rom fuse id⟩, fun c ha => secAttest_role ha, ?_,
    bundleDone_role hrun, bundleDone_idle hrun⟩
  rintro hs kind len hlen i rfl
  refine load_role hs hlen ?_
  cases kind <;> rfl

end Sys2Proof.Machine
end

section
/-! The start of a frame, its first word, and the carry loop (R28, R141, R206, R209, R215, R217, R236, R237, R298, R299). -/

-- One proof at a time: side by side they take more threads than the memory bound of the check leaves room for.
set_option Elab.async false

namespace Sys2Proof.Machine

/-! ### The record of a frame -/

theorem frame_setFrame_self (s : State) (f : Nat) (x : Frame) : (s.setFrame f x).frame f = some x := mapFind_put_self ..

theorem frame_setFrame_ne (s : State) {f g : Nat} (x : Frame) (h : g ≠ f) : (s.setFrame f x).frame g = s.frame g :=
  mapFind_put_ne _ _ (Ne.symm h)

theorem modFrame_some {s : State} {f : Nat} {x : Frame} (h : s.frame f = some x) (k : Frame → Frame) :
    s.modFrame f k = s.setFrame f (k x) := by rw [State.modFrame, h]

/-- The state in which the next frame number has gone to a frame. -/
def State.framed (s : State) (x : Frame) : State :=
  s.modPath fun p => { p with frames := mapPut p.frames p.nextFrame x, nextFrame := p.nextFrame + 1 }

theorem addFrame_eq (s : State) (x : Frame) : s.addFrame x = (s.path.nextFrame, s.framed x) := rfl

theorem frame_framed_self (s : State) (x : Frame) : (s.framed x).frame s.path.nextFrame = some x := mapFind_put_self ..

theorem frame_framed_ne (s : State) (x : Frame) {g : Nat} (h : g ≠ s.path.nextFrame) : (s.framed x).frame g = s.frame g :=
  mapFind_put_ne _ _ (Ne.symm h)

theorem freeBeadFrom_congr {s t : State} (hb : t.buf = s.buf) (hn : t.get Reg.BUF_WITHDRAWN_NEXT = s.get Reg.BUF_WITHDRAWN_NEXT)
    (fuel : Nat) : ∀ n, t.freeBeadFrom fuel n = s.freeBeadFrom fuel n := by
  induction fuel with
  | zero => exact fun _ => rfl
  | succ fuel ih =>
    intro n
    rw [State.freeBeadFrom, State.freeBeadFrom]
    unfold State.blockOut
    rw [hb, hn, ih]

/-! ### A frame dropped at its start -/

/-- The record of a frame that has been dropped whole. -/
def Frame.discarded (x : Frame) : Frame := { x with stage := .dropped, beads := [], plan := [], copies := 0, group := none }

/-- A frame that is dropped where it starts: it waits nowhere, and holds no bead. -/
theorem dropFrame_received {s : State} {f : Nat} {x : Frame} (hx : s.frame f = some x) (hst : x.stage = .received) (hb : x.beads = [])
    (he : x.ended = false) : s.dropFrame f = (s.setFrame f x.discarded).freeLists := by
  have hstay : s.leaveClassify f x = s := if_pos (by simp [hst])
  have hreap : (s.setFrame f x.discarded).reap f = s.setFrame f x.discarded := by
    rw [State.reap, frame_setFrame_self]
    exact if_neg (by simp [Frame.discarded, he])
  rw [State.dropFrame, hx]
  simp only [hstay, hb, List.foldl_nil]
  exact congrArg State.freeLists hreap

theorem freeLists_frame (s : State) (g : Nat) : s.freeLists.frame g = s.frame g := rfl

/-- Counter 31 notes no external error, so that only the counters move. -/
theorem only_count_landing (s : State) (p : Nat) : s.only (s.count p 31 1) [.counters] (regsOf ["CNT_HALF_LO", "CNT_HALF_HI"]) := by
  have hplain (u : State) : (if (1 : Nat) != 0 && (decide ((31 : Nat) = 24) || decide ((31 : Nat) = 26) || decide ((31 : Nat) = 28)) then
      u.noteError true else u) = u := rfl
  have hcnt : s.only { s with counters := mapSet s.counters (64 * p + 31) ((s.counter p 31 + 1) % 2 ^ 40) 0 } [.counters]
      (regsOf ["CNT_HALF_LO", "CNT_HALF_HI"]) := keep_part (only_id s _ _) rfl fun q hq => by cases q <;> simp_all [Part.same]
  unfold State.count
  dsimp only
  rw [hplain]
  split
  · exact keep_putBit _ _ _ hcnt (regsOf_mem 3 0 p 0 _ .w1c rfl (by simp) (by simp))
  · exact hcnt

section Landing

variable {s : State} {f : Nat} {x : Frame} (hx : s.frame f = some x) (hst : x.stage = .received) (hb : x.beads = [])
  (he : x.ended = false)
include hx hst hb he

/-- A frame that finds no landing bead (R299). -/
theorem landingDrop_spec : (∃ y, (s.landingDrop f).frame f = some y ∧ y.stage = .dropped ∧ y.beads = [] ∧ y.bytes = x.bytes) ∧
    (s.landingDrop f).counter x.port 31 = (s.counter x.port 31 + 1) % 2 ^ 40 ∧
    (s.landingDrop f).bit Reg.BUF_STATUS_LANDING = true ∧
    (s.landingDrop f).get Reg.BUF_LANDING_DROP_CNT_COUNT = min (2 ^ 32 - 1) (s.get Reg.BUF_LANDING_DROP_CNT_COUNT + 1) ∧
    s.only (s.landingDrop f) [.counters, .path, .mcast] (regsOf ["CNT_HALF_LO", "CNT_HALF_HI", "BUF_STATUS", "BUF_LANDING_DROP_CNT",
      "MCAST_MEMBERS_USED"]) ∧ (s.landingDrop f).path.nextFrame = s.path.nextFrame := by
  have hcount := only_count_landing s x.port
  have hcnt := counter_count_self s x.port 31 1
  have hpath : (s.count x.port 31 1).path = s.path := hcount.1 .path (by simp)
  have hdrops : (s.count x.port 31 1).get Reg.BUF_LANDING_DROP_CNT_COUNT = s.get Reg.BUF_LANDING_DROP_CNT_COUNT :=
    kept_of_only hcount 12 0 0 (List.mem_of_getElem? (i := 16) rfl) (a := .rc) (by simp) (by simp)
  unfold State.landingDrop
  rw [hx]
  dsimp only
  generalize s.count x.port 31 1 = u at *
  have hx' : ((u.satAdd Reg.BUF_LANDING_DROP_CNT_COUNT 1).on Reg.BUF_STATUS_LANDING).frame f = some x := by
    rw [← hx]
    exact congrArg (fun p : PathSt => mapFind p.frames f) hpath
  have hmoved : s.only ((u.satAdd Reg.BUF_LANDING_DROP_CNT_COUNT 1).on Reg.BUF_STATUS_LANDING) [.counters, .path, .mcast]
      (regsOf ["CNT_HALF_LO", "CNT_HALF_HI", "BUF_STATUS", "BUF_LANDING_DROP_CNT", "MCAST_MEMBERS_USED"]) :=
    keep_on _ (keep_satAdd _ _ (only_widen hcount (by simp) (by simp)) (reg_BUF_LANDING_DROP_CNT_COUNT (by simp))) (reg_BUF_STATUS_LANDING (by simp))
  have hbit : ((u.satAdd Reg.BUF_LANDING_DROP_CNT_COUNT 1).on Reg.BUF_STATUS_LANDING).get Reg.BUF_STATUS_LANDING = 1 :=
    get_on_self _ _ (by decide)
  have hval : ((u.satAdd Reg.BUF_LANDING_DROP_CNT_COUNT 1).on Reg.BUF_STATUS_LANDING).get Reg.BUF_LANDING_DROP_CNT_COUNT =
      min (2 ^ 32 - 1) (s.get Reg.BUF_LANDING_DROP_CNT_COUNT + 1) := by
    rw [get_on_ne _ (by decide), get_satAdd_self, hdrops]
    rfl
  have hcnt' : ((u.satAdd Reg.BUF_LANDING_DROP_CNT_COUNT 1).on Reg.BUF_STATUS_LANDING).counters = u.counters := rfl
  have hnext : ((u.satAdd Reg.BUF_LANDING_DROP_CNT_COUNT 1).on Reg.BUF_STATUS_LANDING).path = s.path := hpath
  generalize (u.satAdd Reg.BUF_LANDING_DROP_CNT_COUNT 1).on Reg.BUF_STATUS_LANDING = v at *
  rw [dropFrame_received hx' hst hb he]
  have hlists := frame_freeLists (v.setFrame f x.discarded)
  have hframe := frame_setFrame_self v f x.discarded
  have hsetCnt : (v.setFrame f x.discarded).counters = u.counters := hcnt'
  have hsetGet (g : Fld) : (v.setFrame f x.discarded).get g = v.get g := rfl
  have hsetMoved := keep_setFrame f x.discarded hmoved (by simp)
  have hsetNext : (v.setFrame f x.discarded).path.nextFrame =
      v.path.nextFrame := rfl
  generalize v.setFrame f x.discarded = w at *
  have hwcnt : w.freeLists.counters = u.counters := (hlists.1 .counters (by simp)).trans hsetCnt
  have hwbit : w.freeLists.get Reg.BUF_STATUS_LANDING = w.get Reg.BUF_STATUS_LANDING :=
    kept_of_only hlists 12 0 0 (List.mem_of_getElem? (i := 9) rfl) (a := .w1c) (by simp) (by simp)
  have hwval : w.freeLists.get Reg.BUF_LANDING_DROP_CNT_COUNT = w.get Reg.BUF_LANDING_DROP_CNT_COUNT :=
    kept_of_only hlists 12 0 0 (List.mem_of_getElem? (i := 16) rfl) (a := .rc) (by simp) (by simp)
  refine ⟨⟨_, hframe, rfl, rfl, rfl⟩, ?_, bit_of_get_one (hwbit.trans ((hsetGet _).trans hbit)), hwval.trans ((hsetGet _).trans hval),
    keep_of hlists hsetMoved (by simp) (by simp), ?_⟩
  · rw [← hcnt, State.counter, hwcnt, State.counter]
  · exact hsetNext.trans (congrArg PathSt.nextFrame hnext)

end Landing

end Sys2Proof.Machine
end

section
/-! The commands of a frame's first steps (Table 1-4, steps 1 to 3). -/

-- One proof at a time: side by side they take more threads than the memory bound of the check leaves room for.
set_option Elab.async false

namespace Sys2Proof.Machine

/-! ### The start -/

/-- A frame as it starts at port `p` (R141, R298). -/
def State.firstSeen (s : State) (p sub : Nat) (bytes : List Byte) : Frame :=
  newFrame p bytes (stampOf (s.ingressTime p sub (s.stampClock (bytes.take (s.receiveLimit p))))
    (s.clockFlags (s.stampClock (bytes.take (s.receiveLimit p))))) (s.ingressTime p sub 0) s.presFlags (s.receiveLimit p)

theorem receives_plain {s : State} {p : Nat} (h1 : s.get (Reg.MAC_PORT_CTRL_LOOPBACK p) ≠ 1) (h2 : s.get (Reg.MAC_PORT_CTRL_LOOPBACK p) ≠ 2)
    (bytes : List Byte) : s.receives p bytes = (some bytes, s) := if_neg (by simp [h1, h2])

/-- The state in which a port in loopback has given up the first frame of its transmitter. -/
def State.unlooped (s : State) (p : Nat) : State := s.modPort p fun x => { x with looped := x.looped.tail }

theorem receives_looped {s : State} {p : Nat} (h : s.get (Reg.MAC_PORT_CTRL_LOOPBACK p) = 1 ∨ s.get (Reg.MAC_PORT_CTRL_LOOPBACK p) = 2)
    (bytes : List Byte) : s.receives p bytes = ((s.port p).looped.head?, s.unlooped p) := if_pos (by rcases h with h | h <;> simp [h])

theorem isPort_of_up {s : State} {p : Nat} (h : s.portUp p = true) : s.isPort p = true ∧ s.linkState p ≠ stDisabled := by
  simp only [State.portUp, Bool.and_eq_true, beq_iff_eq] at h
  exact ⟨h.1, fun hd => absurd (h.2.symm.trans hd) (by decide)⟩

/-- What a start comes to in a port in UP, by the landing bead that it takes or does not find (R298, R299). -/
theorem frameBegin_up {s : State} {p sub : Nat} {bytes : List Byte} (hup : s.portUp p = true) (hspan : (s.spanOn && decide (960 ≤ p)) = false)
    (hbuf : s.funcUp .buf = true) : s.frameBegin p sub bytes =
      match (s.framed (s.firstSeen p sub bytes)).takeLanding (pipeOf p) p 1 with
      | some (b, u) => u.setFrame s.path.nextFrame { s.firstSeen p sub bytes with beads := [b] }
      | none => (s.framed (s.firstSeen p sub bytes)).landingDrop s.path.nextFrame := by
  unfold State.frameBegin
  extract_lets clock x
  rw [if_neg (by simp only [hup, hspan]; decide), addFrame_eq]
  dsimp only
  rw [if_neg (by
    have hkeep : (s.framed x).funcUp .buf = s.funcUp .buf := rfl
    simp [hkeep, hbuf])]
  rfl

/-- The state in which a frame of a pipe has taken a landing bead. -/
def State.landed (s : State) (pipe b owner : Nat) : State :=
  (s.putBead b ⟨1, .landing pipe, owner, false⟩).setLanding pipe (mapGet s.buf.landing pipe 0 + 1)

theorem takeLanding_some {s : State} {pipe owner b : Nat} (hroom : mapGet s.buf.landing pipe 0 < 256) (hb : s.freeBead = some b) :
    s.takeLanding pipe owner 1 = some (b, s.landed pipe b owner) := by
  rw [State.takeLanding, if_neg (by omega), hb]
  rfl

theorem takeLanding_none {s : State} {pipe owner : Nat} (hfull : 256 ≤ mapGet s.buf.landing pipe 0) :
    s.takeLanding pipe owner 1 = none := if_pos hfull

theorem landed_spec (s : State) (pipe b owner : Nat) : mapGet (s.landed pipe b owner).buf.landing pipe 0 = mapGet s.buf.landing pipe 0 + 1 ∧
    mapFind (s.landed pipe b owner).buf.beads b = some ⟨1, .landing pipe, owner, false⟩ ∧
    s.only (s.landed pipe b owner) [.buf] (regsOf ["BUF_LANDING"]) := by
  have hlanding : (s.landed pipe b owner).buf.landing = mapSet s.buf.landing pipe (mapGet s.buf.landing pipe 0 + 1) 0 := rfl
  refine ⟨by rw [hlanding, mapGet_set_self], mapFind_put_self .., keep_of (frame_setLanding _ _ _) ?_ (by simp) (by simp)⟩
  exact keep_part (only_id s _ _) rfl fun q hq => by cases q <;> simp_all [Part.same, State.putBead, State.modBuf]

section Start

variable {s : State} (hrun : s.running = true) {p sub : Nat} {bytes : List Byte} (hp : p < 1024) (hsub : sub < 64)
include hrun hp hsub

theorem exec_frameStart : exec (.frameStart p sub bytes) s = .next (s.frameStart p sub bytes).settle :=
  (onPort_ok hp _).trans ((onObject_ok hsub _).trans (whenUp_running hrun fun s => s.frameStart p sub bytes))

/-- FRAME_START at a port in UP (R141, R298, R299). -/
theorem frameStart_role (hup : s.portUp p = true) (hspan : (s.spanOn && decide (960 ≤ p)) = false) (hbuf : s.funcUp .buf = true)
    (h1 : s.get (Reg.MAC_PORT_CTRL_LOOPBACK p) ≠ 1) (h2 : s.get (Reg.MAC_PORT_CTRL_LOOPBACK p) ≠ 2) :
    (∀ b, mapGet s.buf.landing (pipeOf p) 0 < 256 → s.freeBead = some b →
      ∃ t x, exec (.frameStart p sub bytes) s = .next t ∧ t.frame s.path.nextFrame = some x ∧ x.port = p ∧ x.bytes = bytes ∧
        x.stage = .received ∧ x.beads = [b] ∧ x.landing = true ∧ x.ended = false ∧ x.limit = s.get (Reg.MAC_PORT_FRAME_FRAME_MAX p) ∧
        (∀ k, k = s.stampClock (bytes.take (s.get (Reg.MAC_PORT_FRAME_FRAME_MAX p))) →
          x.ingStamp = stampOf (s.ingressTime p sub k) (s.clockFlags k)) ∧
        t.path.nextFrame = s.path.nextFrame + 1 ∧ (∀ g, g ≠ s.path.nextFrame → t.frame g = s.frame g) ∧
        mapGet t.buf.landing (pipeOf p) 0 = mapGet s.buf.landing (pipeOf p) 0 + 1 ∧
        mapFind t.buf.beads b = some ⟨1, .landing (pipeOf p), p, false⟩ ∧
        s.only t [.path, .buf] (regsOf ["BUF_LANDING"])) ∧
    (256 ≤ mapGet s.buf.landing (pipeOf p) 0 →
      ∃ t x, exec (.frameStart p sub bytes) s = .next t ∧ t.frame s.path.nextFrame = some x ∧ x.stage = .dropped ∧ x.beads = [] ∧
        t.counter p 31 = (s.counter p 31 + 1) % 2 ^ 40 ∧ t.bit Reg.BUF_STATUS_LANDING = true ∧
        t.get Reg.BUF_LANDING_DROP_CNT_COUNT = min (2 ^ 32 - 1) (s.get Reg.BUF_LANDING_DROP_CNT_COUNT + 1) ∧
        t.buf = s.buf ∧ s.only t [.counters, .path, .mcast] (regsOf ["CNT_HALF_LO", "CNT_HALF_HI", "BUF_STATUS",
          "BUF_LANDING_DROP_CNT", "MCAST_MEMBERS_USED"])) := by
  have hexec := exec_frameStart hrun hp hsub (bytes := bytes)
  obtain ⟨hport, hlink⟩ := isPort_of_up hup
  have hlimit : s.receiveLimit p = s.get (Reg.MAC_PORT_FRAME_FRAME_MAX p) := by
    rw [State.receiveLimit, if_neg (by simpa using hspan), Nat.add_zero]
  have hstart : s.frameStart p sub bytes = s.frameBegin p sub bytes := by
    rw [State.frameStart, if_neg (by simp [hport, hlink]), receives_plain h1 h2]
  have hfirst : ∀ k, k = s.stampClock (bytes.take (s.get (Reg.MAC_PORT_FRAME_FRAME_MAX p))) →
      (s.firstSeen p sub bytes).ingStamp = stampOf (s.ingressTime p sub k) (s.clockFlags k) := by
    rintro k rfl
    rw [← hlimit]
    rfl
  have hframed : s.only (s.framed (s.firstSeen p sub bytes)) [.path] (regsOf []) := keep_modPath _ (only_id s _ _) (by simp)
  have hself := frame_framed_self s (s.firstSeen p sub bytes)
  have hother := fun g (hg : g ≠ s.path.nextFrame) => frame_framed_ne s (s.firstSeen p sub bytes) hg
  have hnext : (s.framed (s.firstSeen p sub bytes)).path.nextFrame = s.path.nextFrame + 1 := rfl
  have hbufEq : (s.framed (s.firstSeen p sub bytes)).buf = s.buf := rfl
  have hbead : (s.framed (s.firstSeen p sub bytes)).freeBead = s.freeBead := by
    unfold State.freeBead
    exact freeBeadFrom_congr hbufEq rfl _ _
  rw [hstart, frameBegin_up hup hspan hbuf] at hexec
  refine ⟨fun b hroom hb => ?_, fun hfull => ?_⟩
  · rw [takeLanding_some (by rwa [hbufEq]) (hbead.trans hb)] at hexec
    dsimp only at hexec
    obtain ⟨k1, k2, k3⟩ := landed_spec (s.framed (s.firstSeen p sub bytes)) (pipeOf p) b p
    have hpath : ((s.framed (s.firstSeen p sub bytes)).landed (pipeOf p) b p).path = (s.framed (s.firstSeen p sub bytes)).path := k3.1 .path (by simp)
    have hframe (g : Nat) : ((s.framed (s.firstSeen p sub bytes)).landed (pipeOf p) b p).frame g = (s.framed (s.firstSeen p sub bytes)).frame g :=
      congrArg (fun q : PathSt => mapFind q.frames g) hpath
    have hmoved : s.only ((s.framed (s.firstSeen p sub bytes)).landed (pipeOf p) b p) [.path, .buf] (regsOf ["BUF_LANDING"]) :=
      keep_of k3 (only_widen hframed (by simp) (by simp)) (by simp) (by simp)
    rw [hbufEq] at k1
    generalize (s.framed (s.firstSeen p sub bytes)).landed (pipeOf p) b p = u at *
    refine ⟨_, _, hexec, frame_setFrame_self u _ _, rfl, rfl, rfl, rfl, rfl, rfl, hlimit, hfirst, ?_, fun g hg => ?_, k1, k2,
      only_settled (keep_setFrame _ _ hmoved (by simp))⟩
    · exact (congrArg PathSt.nextFrame hpath).trans hnext
    · exact (frame_setFrame_ne u _ hg).trans ((hframe g).trans (hother g hg))
  · rw [takeLanding_none (by rwa [hbufEq])] at hexec
    dsimp only at hexec
    obtain ⟨⟨y, hy, hst, hbeads, -⟩, k1, k2, k3, k4, -⟩ := landingDrop_spec hself rfl rfl rfl
    have hcnt : (s.framed (s.firstSeen p sub bytes)).counter = s.counter := rfl
    have hget : (s.framed (s.firstSeen p sub bytes)).get = s.get := rfl
    have hmoved : s.only ((s.framed (s.firstSeen p sub bytes)).landingDrop s.path.nextFrame) [.counters, .path, .mcast]
        (regsOf ["CNT_HALF_LO", "CNT_HALF_HI", "BUF_STATUS", "BUF_LANDING_DROP_CNT", "MCAST_MEMBERS_USED"]) :=
      keep_of k4 (only_widen hframed (by simp) (by simp)) (by simp) (by simp)
    rw [hget] at k3
    rw [hcnt] at k1
    have hb : ((s.framed (s.firstSeen p sub bytes)).landingDrop s.path.nextFrame).buf = s.buf := (k4.1 .buf (by simp)).trans hbufEq
    generalize (s.framed (s.firstSeen p sub bytes)).landingDrop s.path.nextFrame = u at *
    exact ⟨_, y, hexec, hy, hst, hbeads, k1, k2, k3, hb, only_settled hmoved⟩

/-- A port in DISABLED receives nothing (R84). -/
theorem frameStart_disabled (hd : s.linkState p = stDisabled) : ∃ t, exec (.frameStart p sub bytes) s = .next t ∧ s.only t [] (keysOf []) := by
  have hexec := exec_frameStart hrun hp hsub (bytes := bytes)
  have heq : s.frameStart p sub bytes = s := if_pos (by simp [hd])
  rw [heq] at hexec
  exact ⟨_, hexec, only_settled (only_refl s)⟩

end Start

/-! ### Loopback -/

/-- The start of a frame leaves the ports as they are, gives the next number, and keeps the bytes. -/
theorem frameBegin_keeps (s : State) (p sub : Nat) (bytes : List Byte) : (s.frameBegin p sub bytes).ports = s.ports ∧
    (∀ x, (s.frameBegin p sub bytes).frame s.path.nextFrame = some x → x.bytes = bytes) ∧
    (s.frameBegin p sub bytes).path.nextFrame = s.path.nextFrame + 1 := by
  have hself := frame_framed_self s (s.firstSeen p sub bytes)
  have hnext : (s.framed (s.firstSeen p sub bytes)).path.nextFrame = s.path.nextFrame + 1 := rfl
  have hports : (s.framed (s.firstSeen p sub bytes)).ports = s.ports := rfl
  have hbuf : (s.framed (s.firstSeen p sub bytes)).funcUp .buf = s.funcUp .buf := rfl
  by_cases hout : (!s.portUp p || (s.spanOn && decide (960 ≤ p))) = true
  · have heq : s.frameBegin p sub bytes = s.framed { s.firstSeen p sub bytes with stage := .outside } := if_pos hout
    rw [heq]
    refine ⟨rfl, fun x hx => ?_, rfl⟩
    rw [frame_framed_self] at hx
    cases hx
    rfl
  · have hout' := hout
    simp only [Bool.or_eq_true, Bool.not_eq_true', not_or, Bool.not_eq_false, Bool.not_eq_true] at hout'
    obtain ⟨hup, hspan⟩ := hout'
    cases hb : s.funcUp .buf with
    | false =>
      have heq : s.frameBegin p sub bytes = ((s.framed (s.firstSeen p sub bytes)).count p 31 1).dropFrame s.path.nextFrame := by
        unfold State.frameBegin
        extract_lets clock x
        rw [if_neg hout, addFrame_eq]
        exact if_pos (by
          have hkeep : (s.framed x).funcUp .buf = s.funcUp .buf := rfl
          simp [hkeep, hb])
      have hcount := only_count_landing (s.framed (s.firstSeen p sub bytes)) p
      have hpath : ((s.framed (s.firstSeen p sub bytes)).count p 31 1).path = (s.framed (s.firstSeen p sub bytes)).path := hcount.1 .path (by simp)
      have hp2 : ((s.framed (s.firstSeen p sub bytes)).count p 31 1).ports = s.ports := hcount.1 .ports (by simp)
      rw [heq]
      generalize (s.framed (s.firstSeen p sub bytes)).count p 31 1 = u at *
      have hx : u.frame s.path.nextFrame = some (s.firstSeen p sub bytes) :=
        (congrArg (fun q : PathSt => mapFind q.frames s.path.nextFrame) hpath).trans hself
      rw [dropFrame_received hx rfl rfl rfl]
      have hlists := frame_freeLists (u.setFrame s.path.nextFrame (s.firstSeen p sub bytes).discarded)
      refine ⟨(hlists.1 .ports (by simp)).trans hp2, fun y hy => ?_, (congrArg PathSt.nextFrame hpath).trans hnext⟩
      rw [freeLists_frame, frame_setFrame_self] at hy
      cases hy
      rfl
    | true =>
      rw [frameBegin_up hup hspan hb]
      split
      next b u hu =>
        have hmoved := frame_takeLanding (s.framed (s.firstSeen p sub bytes)) (pipeOf p) p 1 _ hu
        have hpath : u.path = (s.framed (s.firstSeen p sub bytes)).path := hmoved.1 .path (by simp)
        refine ⟨hmoved.1 .ports (by simp), fun x hx => ?_, (congrArg PathSt.nextFrame hpath).trans hnext⟩
        rw [frame_setFrame_self] at hx
        cases hx
        rfl
      next hu =>
        obtain ⟨⟨y, hy, -, -, hbytes⟩, -, -, -, k4, k5⟩ := landingDrop_spec hself rfl rfl rfl
        refine ⟨k4.1 .ports (by simp), fun x hx => ?_, k5.trans hnext⟩
        rw [hy] at hx
        cases hx
        exact hbytes

/-- FRAME_START in LOOPBACK 1 and 2 (Table 3-10). -/
theorem frameStart_looped {s : State} (hrun : s.running = true) {p sub : Nat} {bytes : List Byte} (hp : p < 1024) (hsub : sub < 64)
    (hport : s.isPort p = true) (hlink : s.linkState p ≠ stDisabled)
    (hloop : s.get (Reg.MAC_PORT_CTRL_LOOPBACK p) = 1 ∨ s.get (Reg.MAC_PORT_CTRL_LOOPBACK p) = 2) :
    (∀ b l, (s.port p).looped = b :: l → ∃ t, exec (.frameStart p sub bytes) s = .next t ∧ (t.port p).looped = l ∧
      (∀ x, t.frame s.path.nextFrame = some x → x.bytes = b) ∧ t.path.nextFrame = s.path.nextFrame + 1) ∧
    ((s.port p).looped = [] → ∃ t, exec (.frameStart p sub bytes) s = .next t ∧ s.only t [.ports] (keysOf [])) := by
  have hexec := exec_frameStart hrun hp hsub (bytes := bytes)
  have hstart : s.frameStart p sub bytes = match ((s.port p).looped.head?, s.unlooped p) with
      | (some b, u) => u.frameBegin p sub b
      | (none, u) => u := by
    rw [State.frameStart, if_neg (by simp [hport, hlink]), receives_looped hloop] <;> rfl
  have hlooped : ((s.unlooped p).port p).looped = (s.port p).looped.tail :=
    congrArg PortDyn.looped (port_modPort_self s p fun x => { x with looped := x.looped.tail })
  have hnext : (s.unlooped p).path.nextFrame = s.path.nextFrame := rfl
  have hmoved : s.only (s.unlooped p) [.ports] (keysOf []) := keep_modPort _ _ (only_id s _ _) (by simp)
  refine ⟨fun b l hl => ?_, fun hl => ?_⟩
  · rw [hl] at hstart hlooped
    simp only [List.head?_cons] at hstart
    rw [hstart] at hexec
    generalize s.unlooped p = u at *
    obtain ⟨k1, k2, k3⟩ := frameBegin_keeps u p sub b
    rw [hnext] at k2 k3
    have hkept : (u.frameBegin p sub b).port = u.port := by
      funext q
      rw [State.port, k1, State.port]
    generalize u.frameBegin p sub b = v at *
    refine ⟨_, hexec, ?_, k2, k3⟩
    show (v.port p).looped = l
    rw [hkept]
    exact hlooped
  · rw [hl] at hstart
    simp only [List.head?_nil] at hstart
    rw [hstart] at hexec
    exact ⟨_, hexec, only_settled hmoved⟩

/-! ### The first word -/

section FirstWord

variable {s : State} (hrun : s.running = true) {f : Nat} {x : Frame} (hx : s.frame f = some x) (hst : x.stage = .received)
include hrun

theorem exec_firstWord : exec (.firstWordCrossing f) s = .next (s.firstWord f).settle := whenUp_running hrun fun s => s.firstWord f

include hx hst

/-- FIRST_WORD_CROSSING (R28, R89, R206, R209, R236, R237). -/
theorem firstWord_role :
    (isControl x.bytes = false → s.funcUp .parse = true → s.pipeInflight (pipeOf x.port) < 96 →
      s.inTurn f x.port (fun y => y.stage == .received && !isControl y.bytes) = true →
      s.get (Reg.RULE_VER_STATE_INFLIGHT s.currentTag) + 1 < 2 ^ 13 →
      ∃ t, exec (.firstWordCrossing f) s = .next t ∧
      t.frame f = some { x with stage := .crossed, tag := s.currentTag, profile := s.get (Reg.PARSE_PORT_CFG_PROFILE x.port),
                                default_ := s.defaultMark x.port } ∧
      t.get (Reg.RULE_VER_STATE_INFLIGHT s.currentTag) = s.get (Reg.RULE_VER_STATE_INFLIGHT s.currentTag) + 1 ∧
      (∀ g, g ≠ f → t.frame g = s.frame g) ∧ s.only t [.path] (keysOf [Reg.RULE_VER_STATE_INFLIGHT s.currentTag])) ∧
    (96 ≤ s.pipeInflight (pipeOf x.port) ∨ s.inTurn f x.port (fun y => y.stage == .received && !isControl y.bytes) = false →
      ∃ t, exec (.firstWordCrossing f) s = .next t ∧ s.only t [] (keysOf [])) ∧
    (isControl x.bytes = true → ∃ t, exec (.firstWordCrossing f) s = .next t ∧ t.frame f = some x ∧ s.only t [] (keysOf [])) := by
  have hexec := exec_firstWord hrun (f := f)
  have hgo : s.firstWord f = if x.stage != .received || isControl x.bytes then s
      else if !s.inTurn f x.port (fun y => y.stage == .received && !isControl y.bytes) || s.pipeInflight (pipeOf x.port) ≥ 96 then s
      else if !s.funcUp .parse then s.dropOther f
      else (s.setFrame f { x with stage := .crossed, tag := s.currentTag, profile := s.get (Reg.PARSE_PORT_CFG_PROFILE x.port),
                                  default_ := s.defaultMark x.port }).inflight s.currentTag true := by
    rw [State.firstWord, hx]
  refine ⟨fun hc hup hroom hturn hlt => ?_, fun h => ?_, fun hc => ?_⟩
  · rw [if_neg (by simp [hst, hc]), if_neg (by simp [hturn]; omega), if_neg (by simp [hup])] at hgo
    rw [hgo] at hexec
    refine ⟨_, hexec, frame_setFrame_self s f _, ?_, fun g hg => frame_setFrame_ne s _ hg, ?_⟩
    · exact (get_set_self ..).trans (Nat.mod_eq_of_lt hlt)
    · exact only_settled (keep_set _ _ (keep_setFrame _ _ (only_id s _ _) (by simp)) (by simp [keysOf]))
  · have heq : s.firstWord f = s := by
      rw [hgo]
      split
      · rfl
      · exact if_pos (by rcases h with h | h <;> simp [h])
    rw [heq] at hexec
    exact ⟨_, hexec, only_settled (only_refl s)⟩
  · rw [if_pos (by simp [hc])] at hgo
    rw [hgo] at hexec
    exact ⟨_, hexec, hx, only_settled (only_refl s)⟩

end FirstWord

/-! ### The carry loop -/

/-- CARRY_PASS (R215, R217). -/
theorem carryPass_role {s : State} (hrun : s.running = true) {p f : Nat} {l : List Nat} {x : Frame}
    (hp : (rotation 64 s.path.carryNext).find? (fun p => !(mapGet s.path.carry p []).isEmpty) = some p)
    (hl : mapGet s.path.carry p [] = f :: l) (hx : s.frame f = some x) :
    ∃ t, exec .carryPass s = .next t ∧ t.frame f = some { x with stage := .crossed, pass := 1, carried := true } ∧
      mapGet t.path.carry p [] = l ∧ t.path.carryNext = (p + 1) % 64 ∧ (∀ g, g ≠ f → t.frame g = s.frame g) ∧
      t.get Reg.PARSE_CARRY_CNT_COUNT = min (2 ^ 32 - 1) (s.get Reg.PARSE_CARRY_CNT_COUNT + 1) ∧
      s.only t [.path] (keysOf [Reg.PARSE_CARRY_CNT_COUNT]) := by
  have hexec : exec .carryPass s = .next s.carryPass.settle := whenUp_running hrun fun s => s.carryPass
  have heq : s.carryPass = ((s.modPath fun q => { q with carry := mapSet q.carry p l [], carryNext := (p + 1) % 64 }).satAdd
      Reg.PARSE_CARRY_CNT_COUNT 1).setFrame f { x with stage := .crossed, pass := 1, carried := true } := by
    have hx' : ((s.modPath fun q => { q with carry := mapSet q.carry p l [], carryNext := (p + 1) % 64 }).satAdd
        Reg.PARSE_CARRY_CNT_COUNT 1).frame f = some x := hx
    rw [State.carryPass, hp]
    simp only [hl]
    exact modFrame_some hx' _
  rw [heq] at hexec
  exact ⟨_, hexec, frame_setFrame_self _ _ _, mapGet_set_self .., rfl, fun g hg => frame_setFrame_ne _ _ hg, get_satAdd_self .., only_settled
    (keep_setFrame _ _ (keep_satAdd _ _ (keep_modPath _ (only_id s _ _) (by simp)) (by simp [keysOf])) (by simp))⟩

/-- Settles O28: the start of a frame, in UP, in loopback and in DISABLED; its first word; and a slot of the carry loop. -/
theorem framesTakeTheirStampBeadAndRules : Obligations.FramesTakeTheirStampBeadAndRules := by
  intro s hrun
  exact ⟨fun _ _ _ hp hsub => frameStart_role hrun hp hsub, fun _ _ _ hp hsub => frameStart_looped hrun hp hsub,
    fun _ _ _ hp hsub => frameStart_disabled hrun hp hsub, fun _ _ => firstWord_role hrun,
    fun _ _ _ _ => carryPass_role hrun⟩

end Sys2Proof.Machine
end

section
/-! Discarded copies: port flushes, stuck copies, and multicast groups (R335, R347, R349, R350). -/

-- One proof at a time: side by side they take more threads than the memory bound of the check leaves room for.
set_option Elab.async false

namespace Sys2Proof.Machine

/-! ### A discard takes its copy alone -/

theorem path_countLane (s : State) (n i k : Nat) : (s.countLane n i k).path = s.path := (frame_countLane s n i k).1 .path (by simp)

theorem path_decrementAll (s : State) (l : List Nat) (a : Nat) : (s.decrementAll l a).path = s.path :=
  (frame_decrementAll s l a).1 .path (by simp)

theorem path_retag (s : State) (q : Nat) : (s.retag q).path = s.path := (frame_retag s q).1 .path (by simp)

theorem path_injectCopy (s : State) (f : Nat) (o : Option Nat) : (s.injectCopy f o).path = s.path :=
  (frame_injectCopy s f o).1 .path (by simp)

theorem path_formRecord (s : State) (x : Frame) (e st fl : Nat) : (s.formRecord x e st fl).path = s.path :=
  (frame_formRecord s x e st fl).1 .path (by simp)

theorem copies_leaveSegment (s : State) (q c : Nat) : (s.leaveSegment q c).path.copies = s.path.copies := by
  unfold State.leaveSegment
  split
  · rfl
  · rfl

theorem copies_unlinkCopy (s : State) (c : Nat) (x : Copy) : (s.unlinkCopy c x).path.copies = s.path.copies := by
  unfold State.unlinkCopy
  extract_lets q n u
  split
  · rw [path_retag]
    exact copies_leaveSegment _ q c
  · rfl

theorem copies_copyRecord (s : State) (f e st : Nat) (a b d : Bool) : (s.copyRecord f e st a b d).path.copies = s.path.copies := by
  unfold State.copyRecord
  split
  next x _ =>
    extract_lets u
    have hu : u.path = s.path := path_formRecord s x e st _
    split
    · show u.path.copies = _
      rw [hu]
    · rw [hu]
  next => rfl

theorem copies_reap (s : State) (f : Nat) : (s.reap f).path.copies = s.path.copies := by
  unfold State.reap
  split
  · split <;> rfl
  · rfl

theorem copies_modFrame (s : State) (f : Nat) (k : Frame → Frame) : (s.modFrame f k).path.copies = s.path.copies := by
  unfold State.modFrame
  split <;> rfl

theorem copies_dropRefs (s : State) (f n : Nat) : (s.dropRefs f n).path.copies = s.path.copies :=
  (copies_reap _ f).trans (copies_modFrame s f _)

/-- Of the copies a discard takes its own away, and no other (R330). -/
theorem copies_discard {s : State} {c : Nat} {x : Copy} (hx : s.copy c = some x) (counter detail agent : Nat) :
    (s.discard c counter detail agent).path.copies = mapDel s.path.copies c := by
  unfold State.discard
  split
  next y hy =>
    obtain rfl : y = x := Option.some.inj (hy.symm.trans hx)
    extract_lets beads u1 held u2 u3 u4 u5 u6
    have h1 : u1.path.copies = s.path.copies := copies_unlinkCopy s c y
    have h2 : u2.path.copies = u1.path.copies := by
      unfold u2
      split
      · rfl
      · rw [path_decrementAll]
    have h3 : u3.path.copies = u2.path.copies := by
      unfold u3
      split
      · rw [path_decrementAll]
      · rfl
    have h4 : u4.path.copies = u3.path.copies := by
      unfold u4
      rw [path_countLane]
    have h5 : u5.path.copies = u4.path.copies := by
      unfold u5
      split
      · rw [path_injectCopy, copies_copyRecord]
      · rw [path_injectCopy]
      · rfl
    have h6 : u6.path.copies = mapDel u5.path.copies c := rfl
    show ((u6.dropRefs y.frame (1 + b2n y.mirror.isSome))).path.copies = _
    rw [copies_dropRefs, h6, h5, h4, h3, h2, h1]
  next hy => rw [hy] at hx; cases hx

/-- After a discard its copy is gone, and every other stands as before. -/
theorem copy_discard (s : State) (c counter detail agent d : Nat) :
    (s.discard c counter detail agent).copy d = if d = c then none else s.copy d := by
  cases hx : s.copy c with
  | none =>
    have heq : s.discard c counter detail agent = s := by rw [State.discard, hx]
    rw [heq]
    split
    next h => rw [h, hx]
    next => rfl
  | some x =>
    rw [State.copy, copies_discard hx]
    split
    next h => rw [h, mapFind_del_self]
    next h => rw [mapFind_del_ne _ (Ne.symm h), State.copy]

/-- A run of discards takes every copy of its list away, and only those. -/
theorem copy_discards {f : State → Nat → State} (hf : ∀ s c d, (f s c).copy d = if d = c then none else s.copy d) (l : List Nat) :
    ∀ (s : State) (d : Nat), (l.foldl f s).copy d = if d ∈ l then none else s.copy d := by
  induction l with
  | nil => intro s d; simp
  | cons c l ih =>
    intro s d
    rw [List.foldl_cons, ih, hf]
    by_cases h1 : d ∈ l
    · simp [h1]
    · by_cases h2 : d = c <;> simp [h1, h2]

theorem hasRoutine_endRoutine (s : State) (p : RoutineKind → Bool) : (s.endRoutine p).hasRoutine p = false := by
  simp [State.hasRoutine, State.routines, State.endRoutine]

/-! ### The flush of a port -/

theorem copy_flushSome (s : State) (p n d : Nat) : (s.flushSome p n).copy d = if d ∈ (s.portCopies p).take n then none else s.copy d :=
  copy_discards (fun u c d => copy_discard u c 54 8 _ d) _ s d

section Flush

variable {s : State} (hrun : s.running = true) {p : Nat} (hp : p < 1024) (hbuf : s.funcUp .buf = true) (htm : s.funcUp .tm = true)
  (hw : (s.port p).flush = .waiting)
include hrun hp hbuf htm

theorem exec_portFlush : exec (.portFlush p) s = .next (s.flushPort p).settle := by
  have h : exec (.portFlush p) s = .next (if s.funcUp .buf && s.funcUp .tm then s.flushPort p else s).settle :=
    (onPort_ok hp _).trans (whenUp_running hrun fun s => if s.funcUp .buf && s.funcUp .tm then s.flushPort p else s)
  rwa [hbuf, htm, Bool.and_self, if_pos rfl] at h

include hw

/-- PORT_FLUSH (R347, R349). -/
theorem portFlush_role :
    (s.onEngine (.portFlush p) = false → ∃ t, exec (.portFlush p) s = .next t ∧ s.only t [] (keysOf [])) ∧
    (s.onEngine (.portFlush p) = true → ∃ t, exec (.portFlush p) s = .next t ∧
    (t.port p).flush = .complete s.cycle ∧ (∀ c ∈ s.portCopies p, t.copy c = none) ∧
    t.hasRoutine (· == .portFlush p) = false ∧
    s.only t [.ports, .counters, .events, .reck, .path, .buf, .tm, .tally, .host, .pair] (regsOf ["CNT_HALF_LO", "CNT_HALF_HI",
      "TALLY_STATUS", "TALLY_RING_LEVEL", "TALLY_LOST_CNT", "BUF_POOL_USED", "BUF_POOL_SHARED", "BUF_STATUS", "BUF_XOFF_POOLS",
      "BUF_LANDING", "BUF_BAD_FREE_LOC", "BUF_BAD_FREE_CNT", "BUF_SPILL_USED", "QUE_COPIES", "RING_DEV_INDEX"])) := by
  have hexec := exec_portFlush hrun hp hbuf htm
  have hmoved := frame_flushPort s p
  have hgo : s.flushPort p = if !s.onEngine (.portFlush p) then s
      else ((s.flushSome p (s.portCopies p).length).modPort p fun x => { x with
        flush := .complete (s.flushSome p (s.portCopies p).length).cycle }).endRoutine (· == .portFlush p) := by
    rw [State.flushPort, hw]
  refine ⟨fun h => ?_, fun h => ?_⟩
  · rw [if_pos (by simp [h])] at hgo
    rw [hgo] at hexec
    exact ⟨_, hexec, only_settled (only_refl s)⟩
  · rw [if_neg (by simp [h])] at hgo
    rw [hgo] at hexec hmoved
    have hcycle : (s.flushSome p (s.portCopies p).length).cycle = s.cycle := (frame_flushSome s p _).1 .cycle (by simp)
    have hgone : ∀ c ∈ s.portCopies p, (s.flushSome p (s.portCopies p).length).copy c = none := by
      intro c hc
      rw [copy_flushSome, List.take_length, if_pos hc]
    rw [hcycle] at hexec hmoved
    generalize s.flushSome p (s.portCopies p).length = u at *
    have hflush := congrArg PortDyn.flush (port_modPort_self u p fun x => { x with flush := .complete s.cycle })
    have hgone' : ∀ c ∈ s.portCopies p, (u.modPort p fun x => { x with flush := .complete s.cycle }).copy c = none := hgone
    generalize (u.modPort p fun x => { x with flush := .complete s.cycle }) = v at *
    have hfree := hasRoutine_endRoutine v (· == .portFlush p)
    exact ⟨_, hexec, hflush, hgone', hfree, only_settled hmoved⟩

end Flush

/-! ### Stuck copies -/

/-- A request takes no routine away. -/
theorem hasRoutine_mono (s : State) (k : RoutineKind) (o : Option CmdIn) {p : RoutineKind → Bool} (h : s.hasRoutine p = true) :
    (s.request k o).hasRoutine p = true := by
  simp only [State.hasRoutine, State.routines, State.request, List.any_append, Bool.or_eq_true] at h ⊢
  tauto

/-- One rod of the inspection (R350). -/
def inspectRod (s : State) (e : Nat × List Nat) : State :=
  match e.2.head? with
  | some c => if s.portUp (e.1 / 16) && s.isStuck c && !s.hasRoutine (· == .stuckReclaim e.1) then s.request (.stuckReclaim e.1) none else s
  | none => s

theorem stuckInspect_eq (s : State) : s.stuckInspect = s.path.rods.foldl inspectRod s := rfl

/-- A rod's inspection asks for a routine at most. -/
theorem inspectRod_asks (s : State) (e : Nat × List Nat) : inspectRod s e = s ∨ ∃ k, inspectRod s e = s.request k none := by
  unfold inspectRod
  split
  · split
    · exact .inr ⟨_, rfl⟩
    · exact .inl rfl
  · exact .inl rfl

/-- What an inspection reads of the ports and the copies no request changes. -/
theorem inspect_request (s : State) (k : RoutineKind) : (s.request k none).portUp = s.portUp ∧ (s.request k none).isStuck = s.isStuck :=
  ⟨rfl, rfl⟩

/-- The inspection of rods that hold a stuck head asks for that rod's reclaim. -/
theorem inspect_finds {q c : Nat} {l : List Nat} (rods : List (Nat × List Nat)) (hmem : (q, c :: l) ∈ rods) : ∀ s : State,
    s.portUp (q / 16) = true → s.isStuck c = true → (rods.foldl inspectRod s).hasRoutine (· == .stuckReclaim q) = true := by
  have hkeep (m : List (Nat × List Nat)) : ∀ s : State, s.hasRoutine (· == .stuckReclaim q) = true →
      (m.foldl inspectRod s).hasRoutine (· == .stuckReclaim q) = true := by
    induction m with
    | nil => exact fun _ h => h
    | cons e m ih =>
      intro s h
      refine ih _ ?_
      rcases inspectRod_asks s e with he | ⟨k, he⟩
      · rwa [he]
      · rw [he]
        exact hasRoutine_mono s k none h
  induction rods with
  | nil => cases hmem
  | cons e rods ih =>
    intro s hup hst
    rw [List.foldl_cons]
    rcases List.mem_cons.mp hmem with rfl | hmem
    · refine hkeep rods _ ?_
      cases hr : s.hasRoutine (· == .stuckReclaim q) with
      | true =>
        have heq : inspectRod s (q, c :: l) = s := if_neg (by simp [hr])
        rwa [heq]
      | false =>
        have heq : inspectRod s (q, c :: l) = s.request (.stuckReclaim q) none := if_pos (by simp [hup, hst, hr])
        rw [heq]
        exact hasRoutine_request _ _ _
    · rcases inspectRod_asks s e with he | ⟨k, he⟩
      · rw [he]
        exact ih hmem s hup hst
      · obtain ⟨h1, h2⟩ := inspect_request s k
        rw [he]
        exact ih hmem _ (by rw [h1, hup]) (by rw [h2, hst])

/-- STUCK_INSPECTION (R350). -/
theorem stuckInspection_role {s : State} (hrun : s.running = true) {q c : Nat} {l : List Nat} (hq : mapFind s.path.rods q = some (c :: l))
    (hup : s.portUp (q / 16) = true) (hst : s.isStuck c = true) :
    ∃ t, exec .stuckInspection s = .next t ∧ t.hasRoutine (· == .stuckReclaim q) = true ∧ s.only t [.reck] (keysOf []) := by
  have hexec : exec .stuckInspection s = .next s.stuckInspect.settle := whenUp_running hrun fun s => s.stuckInspect
  have hfinds := inspect_finds s.path.rods (mem_of_mapFind hq) s hup hst
  have hmoved : s.only s.stuckInspect [.reck] (keysOf []) := only_mono (frame_stuckInspect s) (by simp) (by simp [regsOf])
  rw [stuckInspect_eq] at hexec hmoved
  generalize s.path.rods.foldl inspectRod s = u at *
  exact ⟨_, hexec, hfinds, only_settled hmoved⟩

/-- A discard of a stuck copy, counted (R350). -/
def State.reclaimOne (agent : Nat) (s : State) (c : Nat) : State := (s.discard c 55 7 agent).satAdd Reg.QUE_STUCK_CNT_COUNT 1

theorem copy_reclaimOne (agent : Nat) (s : State) (c d : Nat) : (s.reclaimOne agent c).copy d = if d = c then none else s.copy d :=
  copy_discard s c 55 7 agent d

theorem reclaimSome_all (s : State) (q : Nat) : s.reclaimSome q (s.rod q).length =
    if ((s.rod q).takeWhile s.isStuck).isEmpty then ((s.rod q).takeWhile s.isStuck).foldl (State.reclaimOne (s.agentOf (.stuckReclaim q))) s
    else ((((s.rod q).takeWhile s.isStuck).foldl (State.reclaimOne (s.agentOf (.stuckReclaim q))) s).set Reg.QUE_STUCK_LOC_QUEUE q).on
      Reg.QUE_STATUS_STUCK := by
  have hall : ((s.rod q).takeWhile s.isStuck).take (s.rod q).length = (s.rod q).takeWhile s.isStuck :=
    List.take_of_length_le (List.takeWhile_sublist _).length_le
  unfold State.reclaimSome
  rw [hall]
  rfl

section Reclaim

variable {s : State} (hrun : s.running = true) {q : Nat} (hq : q < 16384)
include hrun hq

/-- STUCK_RECLAIM on an engine (R349, R350). -/
theorem stuckReclaim_role (hon : s.onEngine (.stuckReclaim q) = true) (hbuf : s.funcUp .buf = true) (htm : s.funcUp .tm = true) :
    ∃ t, exec (.stuckReclaim q) s = .next t ∧
    t.hasRoutine (· == .stuckReclaim q) = false ∧ (∀ c ∈ (s.rod q).takeWhile s.isStuck, t.copy c = none) ∧
    ((s.rod q).takeWhile s.isStuck ≠ [] → t.bit Reg.QUE_STATUS_STUCK = true ∧ t.get Reg.QUE_STUCK_LOC_QUEUE = q) ∧
    ((s.rod q).takeWhile s.isStuck = [] → s.only t [.reck] (keysOf [])) := by
  have hexec : exec (.stuckReclaim q) s = .next (if s.funcUp .buf && s.funcUp .tm then s.reclaim q else s).settle :=
    (onObject_ok hq _).trans (whenUp_running hrun fun s => if s.funcUp .buf && s.funcUp .tm then s.reclaim q else s)
  have heq : s.reclaim q = (s.reclaimSome q (s.rod q).length).endRoutine (· == .stuckReclaim q) := if_neg (by simp [hon])
  rw [hbuf, htm, Bool.and_self, if_pos rfl, heq, reclaimSome_all] at hexec
  have hcopies := fun c => copy_discards (copy_reclaimOne (s.agentOf (.stuckReclaim q))) ((s.rod q).takeWhile s.isStuck) s c
  generalize s.agentOf (.stuckReclaim q) = agent at *
  cases hl : (s.rod q).takeWhile s.isStuck with
  | nil =>
    rw [hl, List.isEmpty_nil, if_pos rfl, List.foldl_nil] at hexec
    have hfree := hasRoutine_endRoutine s (· == .stuckReclaim q)
    refine ⟨_, hexec, hfree, fun c hc => (by cases hc), fun h => absurd rfl h, fun _ => only_settled ?_⟩
    exact only_of_regs rfl fun p hp => by cases p <;> simp_all [Part.same, State.endRoutine]
  | cons d l =>
    rw [hl, List.isEmpty_cons, if_neg (by decide)] at hexec
    rw [hl] at hcopies
    generalize (d :: l).foldl (State.reclaimOne agent) s = u at *
    have hloc : ((u.set Reg.QUE_STUCK_LOC_QUEUE q).on Reg.QUE_STATUS_STUCK).get Reg.QUE_STUCK_LOC_QUEUE = q := by
      rw [get_on_ne _ (by decide), get_set_self]
      exact Nat.mod_eq_of_lt hq
    have hbit := bit_of_get_one (get_on_self (u.set Reg.QUE_STUCK_LOC_QUEUE q) Reg.QUE_STATUS_STUCK (by decide))
    have hgone : ∀ c ∈ d :: l, ((u.set Reg.QUE_STUCK_LOC_QUEUE q).on Reg.QUE_STATUS_STUCK).copy c = none := fun c hc =>
      (hcopies c).trans (if_pos hc)
    generalize (u.set Reg.QUE_STUCK_LOC_QUEUE q).on Reg.QUE_STATUS_STUCK = v at *
    have hfree := hasRoutine_endRoutine v (· == .stuckReclaim q)
    exact ⟨_, hexec, hfree, hgone, fun _ => ⟨hbit, hloc⟩, fun h => by cases h⟩

theorem stuckReclaim_waits (hoff : s.onEngine (.stuckReclaim q) = false) : ∃ t, exec (.stuckReclaim q) s = .next t ∧ s.only t [] (keysOf []) := by
  have hexec : exec (.stuckReclaim q) s = .next (if s.funcUp .buf && s.funcUp .tm then s.reclaim q else s).settle :=
    (onObject_ok hq _).trans (whenUp_running hrun fun s => if s.funcUp .buf && s.funcUp .tm then s.reclaim q else s)
  have heq : s.reclaim q = s := if_pos (by simp [hoff])
  rw [heq, ite_self] at hexec
  exact ⟨_, hexec, only_settled (only_refl s)⟩

end Reclaim

/-! ### Multicast groups -/

section Mcast

variable {s : State} {c : CmdIn}

theorem mcast_noRoutine : (∀ o, opInfo 0x3A = some o → o.routine = none) ∧ ∀ o, opInfo 0x3B = some o → o.routine = none :=
  ⟨fun _ h => by cases h; rfl, fun _ h => by cases h; rfl⟩

theorem members_putMembers (s : State) (g h : Nat) (l : List Nat) : (s.putMembers g l).members h = if h = g then l else s.members h := by
  have hgroups : (s.putMembers g l).mcast.groups = mapPut s.mcast.groups g ((mapGet s.mcast.groups g (0, [])).1 + 1, l) := rfl
  rw [State.members, hgroups, mapGet]
  by_cases hh : h = g
  · rw [if_pos hh, hh, mapFind_put_self]
    rfl
  · rw [if_neg hh, mapFind_put_ne _ _ (Ne.symm hh)]
    rfl

/-- MCAST_SET (R335). -/
theorem mcastSet_role (ha : s.accepts 0x3A c) {l : List Nat} (hl : l = memberList c.input) :
    (s.membersOk l = false → s.answers (.mcastSet c) 0x3A c CmdRes.input) ∧
    (s.membersOk l = true → 524288 < s.mcast.used + l.length → s.ends (.mcastSet c) 0x3A c (CmdRes.of .full) []
      (keysOf [Reg.MCAST_STATUS_FULL]) fun t => t.bit Reg.MCAST_STATUS_FULL = true) ∧
    (s.membersOk l = true → s.mcast.used + l.length ≤ 524288 → s.ends (.mcastSet c) 0x3A c CmdRes.ok [.mcast, .pair, .span]
      (regsOf ["MCAST_MEMBERS_USED", "PAIR_MIRROR_LEVEL"]) fun t =>
        t.members c.param = l ∧ ∀ g, g ≠ c.param → t.members g = s.members g) := by
  have hparam : c.param % 65536 = c.param := Nat.mod_eq_of_lt (Nat.lt_succ_of_le (param_lt_of_accepts ha rfl rfl))
  have hcore : coreMcastSet c s = if !s.membersOk l then (CmdRes.input, s)
      else if s.mcast.used + l.length > 524288 then (CmdRes.of .full, s.on Reg.MCAST_STATUS_FULL)
      else (CmdRes.ok, (s.putMembers c.param l).mirrorItem 0x3A (paramBytes c.param ++ c.input)
        fun w => w.1 == 0x3A && w.2 == beBytes 2 c.param) := by
    rw [coreMcastSet, hparam, hl]
  obtain ⟨hno, -⟩ := mcast_noRoutine
  refine ⟨fun hok => ?_, fun hok hfull => ?_, fun hok hroom => ?_⟩
  · exact answers_of_core rfl ha hno (hcore.trans (if_pos (by simp [hok])))
  · refine ends_of_core rfl ha hno (hcore.trans (by rw [if_neg (by simp [hok]), if_pos hfull])) (keep_on _ (only_id s _ _) (by simp [keysOf]))
      ?_ fun t ht => bit_of_get_one ?_
    · exact get_on_ne _ (by simp only [Fld.key, Reg.MCAST_STATUS_FULL, Reg.RING_CFG_CQ]; omega)
    · exact (ht.2 _ (not_completionKeys s c (by decide) (by decide))).trans (get_on_self _ _ (by decide))
  · have hput := frame_putMembers s c.param l
    have hitem := frame_mirrorItem (s.putMembers c.param l) 0x3A (paramBytes c.param ++ c.input)
      fun w => w.1 == 0x3A && w.2 == beBytes 2 c.param
    have hmoved : s.only ((s.putMembers c.param l).mirrorItem 0x3A (paramBytes c.param ++ c.input)
        fun w => w.1 == 0x3A && w.2 == beBytes 2 c.param) [.mcast, .pair, .span] (regsOf ["MCAST_MEMBERS_USED", "PAIR_MIRROR_LEVEL"]) :=
      keep_of hitem (only_widen hput (by simp) (by simp)) (by simp) (by simp)
    have hmcast := hitem.1 .mcast (by simp)
    have hcq := kept_of_only hmoved (f := Reg.RING_CFG_CQ c.ring) (a := .rw) 19 c.ring 0 (List.mem_of_getElem? (i := 14) rfl) (by simp) (by simp)
    have hmembers := fun g => members_putMembers s c.param g l
    refine ends_of_core rfl ha hno (hcore.trans (by rw [if_neg (by simp [hok]), if_neg (by omega)])) hmoved hcq fun t ht => ?_
    have hsame (g : Nat) : t.members g = (s.putMembers c.param l).members g := by
      have h : t.mcast = (s.putMembers c.param l).mcast := (ht.1 .mcast (by simp)).trans hmcast
      rw [State.members, h, State.members]
    refine ⟨by rw [hsame, hmembers, if_pos rfl], fun g hg => by rw [hsame, hmembers, if_neg hg]⟩

/-- MCAST_READ (R335). -/
theorem mcastRead_role (ha : s.accepts 0x3B c) : s.answers (.mcastRead c) 0x3B c { CmdRes.ok with
    result := leBytes 2 (s.members c.param).length, out := padTo 2048 ((s.members c.param).flatMap (leBytes 2)) } := by
  have hparam : c.param % 65536 = c.param := Nat.mod_eq_of_lt (Nat.lt_succ_of_le (param_lt_of_accepts ha rfl rfl))
  exact answers_of_core rfl ha mcast_noRoutine.2 (by rw [coreMcastRead, hparam])

end Mcast

end Sys2Proof.Machine
end

section
/-! The spill engine (R321 to R324, R389). -/

-- One proof at a time: side by side they take more threads than the memory bound of the check leaves room for.
set_option Elab.async false

namespace Sys2Proof.Machine

/-! ### What a read of DRAM leaves of the errors and the queued writes -/

/-- Two states have the same standing errors and the same queued writes. -/
structure SameStore (s t : State) : Prop where
  errs : t.dram.errs = s.dram.errs
  writes : t.dram.writes = s.dram.writes

theorem SameStore.refl (s : State) : SameStore s s := ⟨rfl, rfl⟩

theorem SameStore.trans {s t u : State} (h : SameStore s t) (k : SameStore t u) : SameStore s u :=
  ⟨k.errs.trans h.errs, k.writes.trans h.writes⟩

theorem sameStore_foldl {α : Type} {f : State → α → State} (h : ∀ s a, SameStore s (f s a)) (l : List α) : ∀ s : State, SameStore s (l.foldl f s) := by
  induction l with
  | nil => exact SameStore.refl
  | cons a l ih => exact fun s => (h s a).trans (ih _)

theorem sameStore_rowGuard (s : State) (bank row : Nat) : SameStore s (s.rowGuard bank row) := by
  unfold State.rowGuard State.guardRow
  split
  · split <;> split <;> exact ⟨rfl, rfl⟩
  · exact SameStore.refl s

theorem sameStore_openRow (s : State) (pc bank row : Nat) : SameStore s (s.openRow pc bank row) :=
  (sameStore_rowGuard s bank row).trans ⟨rfl, rfl⟩

theorem sameStore_issue (s : State) (pc : Nat) (c : DramCmd) : SameStore s (s.issue pc c) := ⟨rfl, rfl⟩

theorem sameStore_reachStack (s : State) (bursts : List Nat) (n : Nat) : SameStore s (s.reachStack bursts n) := by
  unfold State.reachStack
  split
  · exact SameStore.refl s
  · dsimp only
    refine (sameStore_openRow s _ _ _).trans (sameStore_foldl (fun u _ => ?_) _ _)
    exact sameStore_foldl (fun v k => sameStore_issue v _ _) _ u

theorem sameStore_noteRequest (s : State) (g : Nat) : SameStore s (s.noteRequest g) := by
  have hwake (u : State) (k : Nat) : SameStore u (u.wake k) := by
    unfold State.wake State.setParked
    split
    · split <;> exact ⟨rfl, rfl⟩
    · exact SameStore.refl u
  exact (hwake s _).trans ⟨rfl, rfl⟩

/-- Serving queued writes leaves the standing errors as they are. -/
theorem errs_serveWrites (l : List (Nat × Nat)) (last : Option Nat) (s : State) : (serveWrites last l s).dram.errs = s.dram.errs := by
  induction l generalizing last s with
  | nil => rw [serveWrites]
  | cons w l ih =>
    rw [serveWrites, ih]
    show (if last = some (granuleOf w.1) then s else _).dram.errs = _
    split
    · rfl
    · exact (sameStore_openRow ..).errs

theorem errs_drainWrites (s : State) (pc n : Nat) : (s.drainWrites pc n).dram.errs = s.dram.errs := errs_serveWrites _ _ _

/-- A write makes no error. -/
theorem errs_queueWrites {s : State} (h : s.dram.errs = []) (pc : Nat) (l : List Nat) : (s.queueWrites pc l).dram.errs = [] := by
  unfold State.queueWrites
  extract_lets u v
  have hu : u.dram.errs = [] := by
    unfold u
    split
    · rw [errs_drainWrites, h]
    · exact h
  have hv : v.dram.errs = [] := by
    show u.dram.errs.filter _ = []
    rw [hu, List.filter_nil]
  split
  · rw [errs_drainWrites, hv]
  · exact hv

/-- A state without a failed pseudo-channel. -/
def State.allServe (s : State) : Prop := ∀ pc, s.pcFailed pc = false

theorem pcFailed_dramRead (s : State) (user b n : Nat) (o : ReadOutcome) (pc : Nat) : (s.dramRead user b n o).2.pcFailed pc = s.pcFailed pc := by
  have h := frame_dramRead s user b n o
  have hlo : (s.dramRead user b n o).2.get Reg.DRAM_PC_FAILED_LO_FAILED = s.get Reg.DRAM_PC_FAILED_LO_FAILED :=
    kept_of_only h 17 0 0 (List.mem_of_getElem? (i := 7) rfl) (a := .ro) (by simp) (by simp)
  have hhi : (s.dramRead user b n o).2.get Reg.DRAM_PC_FAILED_HI_FAILED = s.get Reg.DRAM_PC_FAILED_HI_FAILED :=
    kept_of_only h 17 0 0 (List.mem_of_getElem? (i := 8) rfl) (a := .ro) (by simp) (by simp)
  rw [State.pcFailed, State.pcFailed, hlo, hhi]

/-- The state that a read finds: its request is noted, its bytes counted. -/
def State.readNoted (s : State) (user b n : Nat) : State :=
  ((s.noteRequest (granuleOf b)).spend user n).modDram fun d => { d with lastRead := mapPut d.lastRead (pcOf (granuleOf b)) s.cycle }

theorem sameStore_readNoted (s : State) (user b n : Nat) : SameStore s (s.readNoted user b n) := by
  have h := sameStore_noteRequest s (granuleOf b)
  exact ⟨h.errs, h.writes⟩

theorem noteRequest_cycle (s : State) (g : Nat) : (s.noteRequest g).cycle = s.cycle := (frame_noteRequest s g).1 .cycle (by simp)

theorem dramRead_eq (s : State) (user b n : Nat) (o : ReadOutcome) : s.dramRead user b n o =
    if (s.readNoted user b n).pcFailed (pcOf (granuleOf b)) then (burstsFrom b n, (s.readNoted user b n).uncorrectable user (granuleOf b))
    else if ((burstsFrom b n).filter fun k => !(mapGet (s.readNoted user b n).dram.writes (pcOf (granuleOf b)) []).any (·.1 == k)).isEmpty then
      ([], s.readNoted user b n)
    else (s.readNoted user b n).stackRead user b
      ((burstsFrom b n).filter fun k => !(mapGet (s.readNoted user b n).dram.writes (pcOf (granuleOf b)) []).any (·.1 == k)) o := by
  have hcycle : ((s.noteRequest (granuleOf b)).spend user n).cycle = s.cycle := noteRequest_cycle s (granuleOf b)
  unfold State.dramRead State.readNoted
  rw [← hcycle]

theorem pcFailed_readNoted (s : State) (user b n pc : Nat) : (s.readNoted user b n).pcFailed pc = s.pcFailed pc := by
  have h : s.only (s.readNoted user b n) [.dram] (regsOf ["DRAM_STATUS"]) :=
    keep_modDram _ (keep_modDram _ (frame_noteRequest s (granuleOf b)) (by simp)) (by simp)
  have hlo : (s.readNoted user b n).get Reg.DRAM_PC_FAILED_LO_FAILED = s.get Reg.DRAM_PC_FAILED_LO_FAILED :=
    kept_of_only h 17 0 0 (List.mem_of_getElem? (i := 7) rfl) (a := .ro) (by simp) (by simp)
  have hhi : (s.readNoted user b n).get Reg.DRAM_PC_FAILED_HI_FAILED = s.get Reg.DRAM_PC_FAILED_HI_FAILED :=
    kept_of_only h 17 0 0 (List.mem_of_getElem? (i := 8) rfl) (a := .ro) (by simp) (by simp)
  rw [State.pcFailed, State.pcFailed, hlo, hhi]

/-- Without a standing error a burst meets what the read brings to it, or nothing. -/
theorem burstEcc_clean {s : State} (h : s.dram.errs = []) (b k : Nat) (o : ReadOutcome) :
    s.burstEcc b o k = if k = b + o.burst then o.ecc else .clean := by
  unfold State.burstEcc
  rw [h]
  have hclean : mapGet ([] : SMap EccOutcome) k .clean = .clean := rfl
  simp only [hclean]
  by_cases hk : k = b + o.burst
  · by_cases he : o.ecc = .clean
    · simp [hk, he]
    · simp [hk, he]
  · simp [hk]

theorem errs_burstRead {s : State} (h : s.dram.errs = []) (user k : Nat) {v : EccOutcome} (hv : v ≠ .uncorrectable) :
    (s.burstRead user k v).dram.errs = [] := by
  have hcorr : (s.corrected user (granuleOf k)).dram.errs = [] := h
  unfold State.burstRead
  split
  · exact h
  · exact errs_queueWrites hcorr _ _
  · exact absurd rfl hv

/-- Bursts that meet at most a corrected error leave no error standing. -/
theorem errs_burstReads (user : Nat) (l : List (Nat × EccOutcome)) (hl : ∀ e ∈ l, e.2 ≠ .uncorrectable) : ∀ s : State, s.dram.errs = [] →
    (l.foldl (fun s e => s.burstRead user e.1 e.2) s).dram.errs = [] := by
  induction l with
  | nil => exact fun _ h => h
  | cons e l ih =>
    intro s h
    refine ih (fun e he => hl e (List.mem_cons_of_mem _ he)) _ ?_
    have he := hl e (List.mem_cons_self ..)
    obtain ⟨k, v⟩ := e
    exact errs_burstRead h user k he

/-- Bursts that meet nothing leave the store as it is. -/
theorem sameStore_burstReads (user : Nat) (l : List (Nat × EccOutcome)) (hl : ∀ e ∈ l, e.2 = .clean) (s : State) :
    l.foldl (fun s e => s.burstRead user e.1 e.2) s = s := by
  induction l with
  | nil => rfl
  | cons e l ih =>
    rw [List.foldl_cons, hl e (List.mem_cons_self ..)]
    exact ih fun e he => hl e (List.mem_cons_of_mem _ he)

/-- The state in which the bursts of a read have come from the stack. -/
def State.stackReached (s : State) (bursts : List Nat) (o : ReadOutcome) : State :=
  if o.severity then (s.reachStack bursts (1 + o.repeats)).satAdd Reg.DRAM_CORR_CNT_COUNT 1 else s.reachStack bursts (1 + o.repeats)

theorem sameStore_stackReached (s : State) (bursts : List Nat) (o : ReadOutcome) : SameStore s (s.stackReached bursts o) := by
  have h := sameStore_reachStack s bursts (1 + o.repeats)
  unfold State.stackReached
  split
  · exact ⟨h.errs, h.writes⟩
  · exact h

theorem stackRead_eq (s : State) (user b : Nat) (bursts : List Nat) (o : ReadOutcome) : s.stackRead user b bursts o =
    (((bursts.map fun k => (k, s.burstEcc b o k)).filter (·.2 == .uncorrectable)).map (·.1),
      (bursts.map fun k => (k, s.burstEcc b o k)).foldl (fun s e => s.burstRead user e.1 e.2) (s.stackReached bursts o)) := rfl

/-- A read without a failed pseudo-channel and without an uncorrectable burst poisons nothing. -/
theorem dramRead_good {s : State} (herr : s.dram.errs = []) (hall : s.allServe) {o : ReadOutcome} (ho : o.ecc ≠ .uncorrectable) (user b n : Nat) :
    (s.dramRead user b n o).1 = [] ∧ (s.dramRead user b n o).2.dram.errs = [] ∧ (s.dramRead user b n o).2.allServe := by
  refine ⟨?_, ?_, fun pc => (pcFailed_dramRead ..).trans (hall pc)⟩
  all_goals
    have hnoted : (s.readNoted user b n).dram.errs = [] := (sameStore_readNoted s user b n).errs.trans herr
    have hserve : (s.readNoted user b n).pcFailed (pcOf (granuleOf b)) = false := (pcFailed_readNoted ..).trans (hall _)
    rw [dramRead_eq, if_neg (by simp [hserve])]
    generalize s.readNoted user b n = u at *
    split
  · rfl
  · rw [stackRead_eq]
    refine List.map_eq_nil_iff.mpr (List.filter_eq_nil_iff.mpr fun e he => ?_)
    obtain ⟨k, -, rfl⟩ := List.mem_map.mp he
    rw [burstEcc_clean hnoted]
    split <;> simp [ho]
  · exact hnoted
  · rw [stackRead_eq]
    refine errs_burstReads user _ (fun e he => ?_) _ ((sameStore_stackReached u _ o).errs.trans hnoted)
    obtain ⟨k, -, rfl⟩ := List.mem_map.mp he
    rw [burstEcc_clean hnoted]
    split <;> simp [ho]

/-- A clean read leaves the store as it is, where no error stands. -/
theorem sameStore_cleanRead {s : State} (herr : s.dram.errs = []) (user b n : Nat) : SameStore s (s.dramRead user b n cleanRead).2 := by
  have hsame := sameStore_readNoted s user b n
  have hnoted : (s.readNoted user b n).dram.errs = [] := hsame.errs.trans herr
  rw [dramRead_eq]
  generalize s.readNoted user b n = u at *
  split
  · exact hsame.trans ⟨rfl, rfl⟩
  · split
    · exact hsame
    · rw [stackRead_eq]
      dsimp only
      rw [sameStore_burstReads]
      · exact hsame.trans (sameStore_stackReached u _ cleanRead)
      · intro e he
        obtain ⟨k, -, rfl⟩ := List.mem_map.mp he
        rw [burstEcc_clean hnoted]
        split <;> rfl

/-- An uncorrectable burst of a read poisons it, where no write is queued. -/
theorem dramRead_bad {s : State} (herr : s.dram.errs = []) (hw : s.dram.writes = []) {o : ReadOutcome} (ho : o.ecc = .uncorrectable)
    (user b : Nat) {n : Nat} (hb : o.burst < n) : (s.dramRead user b n o).1 ≠ [] := by
  have hsame := sameStore_readNoted s user b n
  have hnoted : (s.readNoted user b n).dram.errs = [] := hsame.errs.trans herr
  have hwrites : (s.readNoted user b n).dram.writes = [] := hsame.writes.trans hw
  have hmem : b + o.burst ∈ burstsFrom b n := List.mem_map.mpr ⟨o.burst, List.mem_range.mpr hb, rfl⟩
  have hstored : ((burstsFrom b n).filter fun k => !(mapGet (s.readNoted user b n).dram.writes (pcOf (granuleOf b)) []).any (·.1 == k)) =
      burstsFrom b n := by
    rw [hwrites]
    exact List.filter_eq_self.mpr fun _ _ => rfl
  rw [dramRead_eq, hstored]
  generalize s.readNoted user b n = u at *
  split
  · exact List.ne_nil_of_mem hmem
  · rw [if_neg (by simpa using List.ne_nil_of_mem hmem), stackRead_eq]
    refine List.ne_nil_of_mem (a := b + o.burst) (List.mem_map.mpr ⟨(b + o.burst, .uncorrectable), List.mem_filter.mpr ⟨?_, rfl⟩, rfl⟩)
    refine List.mem_map.mpr ⟨b + o.burst, hmem, ?_⟩
    rw [burstEcc_clean hnoted, if_pos rfl, ho]

/-! ### Reading a spilled copy -/

/-- What the read of bead `i` of a spilled copy meets. -/
def spilledOutcome (o : ReadOutcome) (i : Nat) : ReadOutcome := if o.burst / 8 = i then { o with burst := o.burst % 8 } else cleanRead

theorem readSpilled_cons (o : ReadOutcome) (i b : Nat) (l : List Nat) (s : State) : readSpilled o i (b :: l) s =
    (!(s.dramRead 3 (spillBurst b) 8 (spilledOutcome o i)).1.isEmpty ||
        (readSpilled o (i + 1) l (s.dramRead 3 (spillBurst b) 8 (spilledOutcome o i)).2).1,
      (readSpilled o (i + 1) l (s.dramRead 3 (spillBurst b) 8 (spilledOutcome o i)).2).2) := rfl

theorem readSpilled_good {o : ReadOutcome} (ho : o.ecc ≠ .uncorrectable) (l : List Nat) : ∀ (i : Nat) (s : State), s.dram.errs = [] →
    s.allServe → (readSpilled o i l s).1 = false := by
  have hecc (i : Nat) : (spilledOutcome o i).ecc ≠ .uncorrectable := by
    unfold spilledOutcome
    split
    · exact ho
    · decide
  induction l with
  | nil => exact fun _ _ _ _ => rfl
  | cons b l ih =>
    intro i s herr hall
    obtain ⟨h1, h2, h3⟩ := dramRead_good herr hall (hecc i) 3 (spillBurst b) 8
    rw [readSpilled_cons, h1]
    exact ih _ _ h2 h3

theorem readSpilled_bad {o : ReadOutcome} (ho : o.ecc = .uncorrectable) (l : List Nat) : ∀ (i : Nat) (s : State), s.dram.errs = [] →
    s.dram.writes = [] → i ≤ o.burst / 8 → o.burst / 8 < i + l.length → (readSpilled o i l s).1 = true := by
  induction l with
  | nil => exact fun i s _ _ h1 h2 => absurd h2 (by simp; omega)
  | cons b l ih =>
    intro i s herr hw hlo hhi
    rw [readSpilled_cons]
    by_cases hi : o.burst / 8 = i
    · have hbad := dramRead_bad herr hw (o := spilledOutcome o i) (by simp [spilledOutcome, hi, ho]) 3 (spillBurst b) (n := 8)
        (by simp only [spilledOutcome, hi, if_true]; omega)
      simp [hbad]
    · have hclean : spilledOutcome o i = cleanRead := if_neg hi
      have hsame := sameStore_cleanRead herr 3 (spillBurst b) 8
      rw [hclean, ih (i + 1) _ (hsame.errs.trans herr) (hsame.writes.trans hw) (by omega) (by simp only [List.length_cons] at hhi; omega)]
      exact Bool.or_true _

end Sys2Proof.Machine
end

section
/-! The commands of the spill engine (R321 to R324, R389). -/

-- One proof at a time: side by side they take more threads than the memory bound of the check leaves room for.
set_option Elab.async false

namespace Sys2Proof.Machine

theorem copy_setCopy_self (s : State) (c : Nat) (x : Copy) : (s.setCopy c x).copy c = some x := mapFind_put_self ..

theorem copy_setCopy_ne (s : State) {c d : Nat} (x : Copy) (h : d ≠ c) : (s.setCopy c x).copy d = s.copy d :=
  mapFind_put_ne _ _ (Ne.symm h)

/-! ### Writing a copy to DRAM -/

/-- The beads of the spill region that a copy goes to are written. -/
def State.spillWritten (s : State) (l : List Nat) : State := l.foldl (fun s b => s.dramWrite 3 (spillBurst b) 8) s

theorem only_spillWritten (s : State) (l : List Nat) : s.only (s.spillWritten l) [.dram] (regsOf ["DRAM_STATUS", "DRAM_ROW_GUARD_CNT"]) :=
  only_foldl _ (fun u b => frame_dramWrite u 3 (spillBurst b) 8) l s

/-- The state in which a copy stands in DRAM. -/
def State.spilledCopy (s : State) (c : Nat) (x : Copy) (f : Frame) (n : Nat) : State :=
  (((((s.spillWritten (s.freeSpill n)).decrementAll f.beads 1032).setFrame x.frame { f with beads := [] }).setCopy c
    { x with place := .spilled, spillAt := s.freeSpill n }).spillUse n true).syncCopies

section Write

variable {s : State} {q c : Nat} {g : Segment} {x : Copy} {f : Frame}

theorem spilledCopy_spec (hlt : s.get Reg.BUF_SPILL_USED_USED + n < 2 ^ 28) :
    (s.spilledCopy c x f n).copy c = some { x with place := .spilled, spillAt := s.freeSpill n } ∧
    (s.spilledCopy c x f n).frame x.frame = some { f with beads := [] } ∧
    (s.spilledCopy c x f n).get Reg.BUF_SPILL_USED_USED = s.get Reg.BUF_SPILL_USED_USED + n ∧
    (∀ k, k ≠ c → (s.spilledCopy c x f n).copy k = s.copy k) ∧ (s.spilledCopy c x f n).path.rods = s.path.rods := by
  have hwrite := only_spillWritten s (s.freeSpill n)
  have hdec := frame_decrementAll (s.spillWritten (s.freeSpill n)) f.beads 1032
  have hpath : ((s.spillWritten (s.freeSpill n)).decrementAll f.beads 1032).path = s.path :=
    (hdec.1 .path (by simp)).trans (hwrite.1 .path (by simp))
  have hused : ((s.spillWritten (s.freeSpill n)).decrementAll f.beads 1032).get Reg.BUF_SPILL_USED_USED = s.get Reg.BUF_SPILL_USED_USED :=
    (kept_of_only hdec 12 0 0 (List.mem_of_getElem? (i := 21) rfl) (a := .ro) (by simp) (by simp)).trans
      (kept_of_only hwrite 12 0 0 (List.mem_of_getElem? (i := 21) rfl) (a := .ro) (by simp) (by simp))
  unfold State.spilledCopy
  generalize s.freeSpill n = l at *
  generalize (s.spillWritten l).decrementAll f.beads 1032 = u at *
  have hcopies (k : Nat) : u.copy k = s.copy k := congrArg (fun p : PathSt => mapFind p.copies k) hpath
  refine ⟨copy_setCopy_self _ c _, frame_setFrame_self u x.frame _, ?_, fun k hk => ?_, ?_⟩
  · have hstill : ((u.setFrame x.frame { f with beads := [] }).setCopy c { x with place := .spilled, spillAt := l }).get
        Reg.BUF_SPILL_USED_USED = s.get Reg.BUF_SPILL_USED_USED := hused
    generalize (u.setFrame x.frame { f with beads := [] }).setCopy c { x with place := .spilled, spillAt := l } = v at *
    rw [State.syncCopies, get_set_ne _ _ (by decide), State.spillUse, if_pos rfl, get_set_self, hstill]
    exact Nat.mod_eq_of_lt hlt
  · exact (copy_setCopy_ne (u.setFrame x.frame { f with beads := [] }) _ hk).trans (hcopies k)
  · show u.path.rods = _
    rw [hpath]

variable (hg : mapFind s.path.segments q = some g) (hx : s.copy c = some x) (hf : s.frame x.frame = some f)
include hg hx hf

/-- What the spill engine does with the copy whose turn it is (R321). -/
theorem spillWrite_eq (hc : g.copies.find? (fun c => match s.copy c with
      | some x => x.place == .onDie && (match s.frame x.frame with | some f => f.ended | none => false)
      | none => false) = some c) : s.spillWrite q =
    if !s.bit Reg.BUF_SPILL_CTRL_ENABLE || !s.dramServes || (s.port x.egress).picked.any (·.copy == c) ||
        s.get Reg.BUF_SPILL_USED_USED + ceilDiv f.size 256 > s.spillSize || s.spillTaken (ceilDiv f.size 256) then s
    else s.spilledCopy c x f (ceilDiv f.size 256) := by
  have hsize : s.spillBeads c = ceilDiv f.size 256 := by
    rw [State.spillBeads, State.copySize, hx]
    simp only [hf]
  unfold State.spillWrite
  rw [hg]
  dsimp only
  split
  next d hd =>
    obtain rfl : d = c := Option.some.inj (hd.symm.trans hc)
    rw [hx]
    dsimp only
    rw [hf]
    dsimp only
    rw [hsize]
    rfl
  next hd => exact absurd (hd.symm.trans hc) (by simp)

end Write

/-! ### Reading a copy back -/

/-- The state in which a copy has come back, before its link counts. -/
def State.returned (u : State) (q c : Nat) (x : Copy) (f : Frame) (o : ReadOutcome) (beads : List Nat) : State :=
  let r := readSpilled o 0 x.spillAt u
  let v := if r.1 then r.2.on Reg.BUF_STATUS_SPILL_POISON else r.2
  (((((v.setFrame x.frame { f with beads := beads }).setCopy c { x with place := .returned, poisoned := r.1, spillAt := [] }).spillUse
    x.spillAt.length false).syncCopies)).leaveSegment q c

section Return

variable {s u : State} {q c : Nat} {g : Segment} {x : Copy} {f : Frame} {beads : List Nat} {o : ReadOutcome}

theorem leaveSegment_gone (v : State) (q c : Nat) : c ∉ ((mapFind (v.leaveSegment q c).path.segments q).map (·.copies)).getD [] := by
  unfold State.leaveSegment
  split
  next g hg =>
    show c ∉ ((mapFind (if (g.gone c).copies.isEmpty then mapDel v.path.segments q else mapPut v.path.segments q (g.gone c)) q).map
      (·.copies)).getD []
    split
    · rw [mapFind_del_self]
      simp
    · rw [mapFind_put_self]
      simp [Segment.gone]
  next hg =>
    rw [hg]
    simp

theorem frame_leaveSegment_self (v : State) (q c k : Nat) : (v.leaveSegment q c).frame k = v.frame k := by
  unfold State.leaveSegment
  split <;> rfl

theorem returned_spec (u : State) (q c : Nat) (x : Copy) (f : Frame) (o : ReadOutcome) (beads : List Nat) :
    (u.returned q c x f o beads).frame x.frame = some { f with beads := beads } ∧
    (u.returned q c x f o beads).buf = u.buf ∧
    c ∉ ((mapFind (u.returned q c x f o beads).path.segments q).map (·.copies)).getD [] ∧
    (u.returned q c x f o beads).copy c = some { x with place := .returned, poisoned := (readSpilled o 0 x.spillAt u).1, spillAt := [] } ∧
    ((readSpilled o 0 x.spillAt u).1 = true → (u.returned q c x f o beads).get Reg.BUF_STATUS_SPILL_POISON = 1) := by
  have hread := frame_readSpilled o 0 x.spillAt u
  unfold State.returned
  extract_lets r v
  have hv : u.only v [.dram] (regsOf ["BUF_STATUS", "DRAM_STATUS", "DRAM_ERR_LOC", "DRAM_CORR_CNT", "DRAM_UNCORR_CNT",
      "DRAM_ROW_GUARD_CNT"]) := by
    have hwide := only_widen (Q := [.dram]) (M := ["BUF_STATUS", "DRAM_STATUS", "DRAM_ERR_LOC", "DRAM_CORR_CNT", "DRAM_UNCORR_CNT",
      "DRAM_ROW_GUARD_CNT"]) hread (by simp) (by simp)
    unfold v
    split
    · exact keep_on _ hwide (reg_BUF_STATUS_SPILL_POISON (by simp))
    · exact hwide
  have hbit : r.1 = true → v.get Reg.BUF_STATUS_SPILL_POISON = 1 := by
    intro h
    unfold v
    rw [if_pos h]
    exact get_on_self _ _ (by decide)
  have hbuf : v.buf = u.buf := hv.1 .buf (by simp)
  show _ ∧ _ ∧ _ ∧ _ ∧ (r.1 = true → _)
  clear_value v
  have hleave := fun w : State => frame_leaveSegment w q c
  refine ⟨?_, ?_, leaveSegment_gone _ q c, ?_, fun h => ?_⟩
  · rw [frame_leaveSegment_self]
    exact frame_setFrame_self v x.frame _
  · rw [show State.buf (State.leaveSegment _ q c) = _ from (hleave _).1 .buf (by simp)]
    exact hbuf
  · rw [State.copy, copies_leaveSegment]
    exact copy_setCopy_self _ c _
  · rw [kept_of_only (hleave _) (f := Reg.BUF_STATUS_SPILL_POISON) 12 0 0 (List.mem_of_getElem? (i := 9) rfl) (a := .w1c) (by simp) (by simp),
      State.syncCopies, get_set_ne _ _ (by decide), State.spillUse, get_set_ne _ _ (by decide)]
    exact hbit h

theorem spillReturn_eq (hg : mapFind s.path.segments q = some g) (hx : s.copy c = some x) (hf : s.frame x.frame = some f)
    (hc : g.copies.find? (fun c => match s.copy c with | some x => x.place == .spilled | none => false) = some c)
    (hdue : s.returnDue q c = true) (hroom : s.usedCopies < 1048576) (hserve : s.dramServes = true)
    (hfree : s.spillTaken x.spillAt.length = false) (htake : takeReturns x.spillAt.length [] s = some (beads, u)) (bad : Bool) :
    s.spillReturn q o bad = if bad then ((g.copies.dropWhile (· != c)).drop 1).foldl (fun s d => s.discard d 61 0 1032) (u.returned q c x f o beads)
      else u.returned q c x f o beads := by
  unfold State.spillReturn
  rw [hg]
  dsimp only
  split
  next d hd =>
    obtain rfl : d = c := Option.some.inj (hd.symm.trans hc)
    rw [hx]
    dsimp only
    rw [hf]
    dsimp only
    rw [if_neg (by simp [hdue, hserve, hfree]; omega), htake]
    rfl
  next hd => exact absurd (hd.symm.trans hc) (by simp)

end Return

section Spill

variable {s : State} (hrun : s.running = true) {q c : Nat} (hq : q < 16384) {g : Segment} {x : Copy} {f : Frame}
  (hg : mapFind s.path.segments q = some g) (hx : s.copy c = some x) (hf : s.frame x.frame = some f)
include hrun hq

theorem exec_spillWrite : exec (.spillWrite q) s = .next (s.spillWrite q).settle :=
  (onObject_ok hq _).trans (whenUp_running hrun fun s => s.spillWrite q)

theorem exec_spillReturn (o : ReadOutcome) (b : Bool) : exec (.spillReturn q ⟨o, b⟩) s = .next (s.spillReturn q o b).settle :=
  (onObject_ok hq _).trans (whenUp_running hrun fun s => s.spillReturn q o b)

include hg hx hf

/-- SPILL_WRITE (R321, R323, R389). -/
theorem spillWrite_role (hc : g.copies.find? (fun c => match s.copy c with
      | some x => x.place == .onDie && (match s.frame x.frame with | some f => f.ended | none => false)
      | none => false) = some c) (hen : s.bit Reg.BUF_SPILL_CTRL_ENABLE = true) (hserve : s.dramServes = true)
    (hpick : (s.port x.egress).picked.any (·.copy == c) = false) {n : Nat} (hn : n = ceilDiv f.size 256) :
    (s.get Reg.BUF_SPILL_USED_USED + n ≤ s.spillSize → s.spillSize < 2 ^ 28 → s.spillTaken n = false →
      ∃ t, exec (.spillWrite q) s = .next t ∧ t.copy c = some { x with place := .spilled, spillAt := s.freeSpill n } ∧
        t.frame x.frame = some { f with beads := [] } ∧
        t.get Reg.BUF_SPILL_USED_USED = s.get Reg.BUF_SPILL_USED_USED + n ∧
        (∀ k, k ≠ c → t.copy k = s.copy k) ∧ t.path.rods = s.path.rods ∧
        s.only t [.ports, .counters, .path, .buf, .dram, .pair] (regsOf ["CNT_HALF_LO", "CNT_HALF_HI", "BUF_POOL_USED",
          "BUF_POOL_SHARED", "BUF_STATUS", "BUF_XOFF_POOLS", "BUF_LANDING", "BUF_BAD_FREE_LOC", "BUF_BAD_FREE_CNT",
          "BUF_SPILL_USED", "QUE_COPIES", "DRAM_STATUS", "DRAM_ROW_GUARD_CNT"])) ∧
    (s.spillSize < s.get Reg.BUF_SPILL_USED_USED + n ∨ s.spillTaken n = true →
      ∃ t, exec (.spillWrite q) s = .next t ∧ s.only t [] (keysOf [])) := by
  subst hn
  have hexec := exec_spillWrite hrun hq
  have hmoved := frame_spillWrite s q
  have hgo := spillWrite_eq hg hx hf hc
  refine ⟨fun hroom hsize hfree => ?_, fun h => ?_⟩
  · rw [if_neg (by simp [hen, hserve, hpick, hfree]; omega)] at hgo
    rw [hgo] at hexec hmoved
    obtain ⟨h1, h2, h3, h4, h5⟩ := spilledCopy_spec (c := c) (x := x) (f := f) (Nat.lt_of_le_of_lt hroom hsize)
    generalize s.spilledCopy c x f (ceilDiv f.size 256) = u at *
    exact ⟨_, hexec, h1, h2, h3, h4, h5, only_settled hmoved⟩
  · rw [if_pos (by rcases h with h | h <;> simp [h])] at hgo
    rw [hgo] at hexec
    exact ⟨_, hexec, only_settled (only_refl s)⟩

/-- SPILL_RETURN (R321, R324). -/
theorem spillReturn_role {o : ReadOutcome} {beads : List Nat} {u : State}
    (hc : g.copies.find? (fun c => match s.copy c with | some x => x.place == .spilled | none => false) = some c)
    (hdue : s.returnDue q c = true) (hroom : s.usedCopies < 1048576) (hserve : s.dramServes = true)
    (hfree : s.spillTaken x.spillAt.length = false) (htake : takeReturns x.spillAt.length [] s = some (beads, u)) :
    (∃ t, exec (.spillReturn q ⟨o, false⟩) s = .next t ∧ t.frame x.frame = some { f with beads := beads } ∧
      t.buf.beads = u.buf.beads ∧ c ∉ ((mapFind t.path.segments q).map (·.copies)).getD [] ∧
      (o.ecc = .uncorrectable → o.burst < 8 * x.spillAt.length → s.dram.errs = [] → s.dram.writes = [] →
        t.copy c = some { x with place := .returned, poisoned := true, spillAt := [] } ∧
        t.bit Reg.BUF_STATUS_SPILL_POISON = true) ∧
      (o.ecc ≠ .uncorrectable → s.dram.errs = [] → (∀ pc, s.pcFailed pc = false) →
        t.copy c = some { x with place := .returned, poisoned := false, spillAt := [] })) ∧
    (∃ t, exec (.spillReturn q ⟨o, true⟩) s = .next t ∧
      ∀ d ∈ (g.copies.dropWhile (· != c)).drop 1, d ≠ c → t.copy d = none) := by
  have hgo := spillReturn_eq (o := o) hg hx hf hc hdue hroom hserve hfree htake
  have htaken : s.only u [.buf] (regsOf []) := frame_takeReturns _ _ s _ htake
  have hdram : u.dram = s.dram := htaken.1 .dram (by simp)
  have hserving (pc : Nat) : u.pcFailed pc = s.pcFailed pc := by
    have hkept (k : Fld) : u.get k = s.get k := htaken.2 k (by simp [regsOf])
    rw [State.pcFailed, State.pcFailed, hkept, hkept]
  obtain ⟨h1, h2, h3, h4, h5⟩ := returned_spec u q c x f o beads
  have hbad : o.ecc = .uncorrectable → o.burst < 8 * x.spillAt.length → s.dram.errs = [] → s.dram.writes = [] →
      (readSpilled o 0 x.spillAt u).1 = true := fun he hb herr hw =>
    readSpilled_bad he x.spillAt 0 u (by rw [hdram, herr]) (by rw [hdram, hw]) (Nat.zero_le _) (by omega)
  have hgood : o.ecc ≠ .uncorrectable → s.dram.errs = [] → (∀ pc, s.pcFailed pc = false) → (readSpilled o 0 x.spillAt u).1 = false :=
    fun he herr hall => readSpilled_good he x.spillAt 0 u (by rw [hdram, herr]) fun pc => (hserving pc).trans (hall pc)
  refine ⟨?_, ?_⟩
  · have hexec := exec_spillReturn hrun hq o false
    rw [hgo, if_neg (by decide)] at hexec
    generalize u.returned q c x f o beads = v at *
    refine ⟨_, hexec, h1, congrArg BufSt.beads h2, h3, fun he hb herr hw => ?_, fun he herr hall => ?_⟩
    · have hb' := hbad he hb herr hw
      exact ⟨h4.trans (by rw [hb']), bit_of_get_one (h5 hb')⟩
    · exact h4.trans (by rw [hgood he herr hall])
  · have hexec := exec_spillReturn hrun hq o true
    rw [hgo, if_pos rfl] at hexec
    have hcopies := fun d => copy_discards (fun u c d => copy_discard u c 61 0 1032 d) ((g.copies.dropWhile (· != c)).drop 1)
      (u.returned q c x f o beads) d
    generalize List.foldl _ (u.returned q c x f o beads) _ = w at *
    exact ⟨_, hexec, fun d hd _ => (hcopies d).trans (if_pos hd)⟩

end Spill

/-- Settles O41: spills and returns by what the spill engine reads and frees, flushes and reclaims by their run of discards, and the groups
by the two commands. -/
theorem spilledFlushedAndStuckCopiesAndGroups : Obligations.SpilledFlushedAndStuckCopiesAndGroups := by
  intro s hrun
  refine ⟨fun q g c x f hq hg hx hf => ⟨fun hc hen hserve hpick n hn => spillWrite_role hrun hq hg hx hf hc hen hserve hpick hn,
      fun o beads u hc hdue hroom hserve hfree htake => spillReturn_role hrun hq hg hx hf hc hdue hroom hserve hfree htake⟩,
    fun q c l hq hup hst => stuckInspection_role hrun hq hup hst, fun q hq hoff => stuckReclaim_waits hrun hq hoff,
    fun q hq hon hbuf htm => stuckReclaim_role hrun hq hon hbuf htm, fun p hp hbuf htm hw => portFlush_role hrun hp hbuf htm hw,
    fun c l hl => ⟨fun ha => mcastSet_role ha hl, fun ha => mcastRead_role ha⟩⟩

end Sys2Proof.Machine
end

section
/-! The link stage: what a linked copy and a refused one come to (R328 to R331, R338, R595). -/

-- One proof at a time: side by side they take more threads than the memory bound of the check leaves room for.
set_option Elab.async false

namespace Sys2Proof.Machine

/-! ### The lanes of a port -/

/-- What does not touch the octets leaves the lanes of the ports. -/
theorem lanes_of_only {s t : State} {P : List Part} {L : List String} (h : s.only t P (regsOf L)) (hn : "MAC_OCTET_MODE" ∉ L) (p : Nat) :
    t.lanes p = s.lanes p := by
  have hget : t.get (Reg.MAC_OCTET_MODE_MODE (p / 8)) = s.get (Reg.MAC_OCTET_MODE_MODE (p / 8)) :=
    kept_of_only h 2 (p / 8) 0 (List.mem_of_getElem? (i := 0) rfl) (a := .rw) (by simp) hn
  rw [State.lanes, State.lanes, hget]

theorem portOfLane_of_only {s t : State} {P : List Part} {L : List String} (h : s.only t P (regsOf L)) (hn : "MAC_OCTET_MODE" ∉ L) (p : Nat) :
    t.portOfLane p = s.portOfLane p := by
  rw [State.portOfLane, State.portOfLane, lanes_of_only h hn]

/-! ### A copy that has not been linked is discarded -/

/-- The path of a state but for its frames, the copy `c` gone from everywhere it waited. -/
def PathSt.without (p : PathSt) (c q : Nat) (frames : SMap Frame) : PathSt :=
  { p with
    frames := frames
    copies := mapDel p.copies c
    offered := p.offered.filter (· != c)
    residue := mapMod p.residue q [] fun l => l.filter (· != c) }

/-- A path with other frames. -/
def PathSt.withFrames (p : PathSt) (frames : SMap Frame) : PathSt := { p with frames := frames }

theorem path_reap (s : State) (f : Nat) : ∃ fr, (s.reap f).path = s.path.withFrames fr := by
  unfold State.reap
  split
  · split
    · exact ⟨_, rfl⟩
    · exact ⟨s.path.frames, rfl⟩
  · exact ⟨s.path.frames, rfl⟩

theorem path_modFrame (s : State) (f : Nat) (k : Frame → Frame) : ∃ fr, (s.modFrame f k).path = s.path.withFrames fr := by
  unfold State.modFrame
  split
  · exact ⟨_, rfl⟩
  · exact ⟨s.path.frames, rfl⟩

theorem path_dropRefs (s : State) (f n : Nat) : ∃ fr, (s.dropRefs f n).path = s.path.withFrames fr := by
  obtain ⟨g, hg⟩ := path_modFrame s f fun x => { x with copies := x.copies - n }
  obtain ⟨h, hh⟩ := path_reap (s.modFrame f fun x => { x with copies := x.copies - n }) f
  exact ⟨h, by rw [State.dropRefs, hh, hg]; rfl⟩

theorem path_copyRecord (s : State) (f e st : Nat) (a b d : Bool) : ∃ fr, (s.copyRecord f e st a b d).path = s.path.withFrames fr := by
  unfold State.copyRecord
  split
  next x _ =>
    extract_lets u
    have hu : u.path = s.path := path_formRecord s x e st _
    rw [← hu]
    split
    · exact ⟨_, rfl⟩
    · exact ⟨u.path.frames, rfl⟩
  next => exact ⟨s.path.frames, rfl⟩

section Discard

variable {s : State} {c : Nat} {x : Copy} (hx : s.copy c = some x)
include hx

/-- The path after the discard of a copy that was never linked. -/
theorem path_discard_unlinked (hl : x.linked = false) (counter detail agent : Nat) :
    ∃ fr, (s.discard c counter detail agent).path = s.path.without c x.rod fr := by
  unfold State.discard
  split
  next y hy =>
    obtain rfl : y = x := Option.some.inj (hy.symm.trans hx)
    extract_lets beads u1 held u2 u3 u4 u5 u6
    have h1 : u1.path = { s.path with offered := s.path.offered.filter (· != c),
                                      residue := mapMod s.path.residue y.rod [] fun l => l.filter (· != c) } := by
      unfold u1 State.unlinkCopy
      extract_lets q n v
      rw [if_neg (by simp [hl])]
      rfl
    have h2 : u2.path = u1.path := by
      unfold u2
      split
      · rfl
      · rw [path_decrementAll]
    have h3 : u3.path = u2.path := by
      unfold u3
      split
      · rw [path_decrementAll]
      · rfl
    have h4 : u4.path = u3.path := path_countLane ..
    have h5 : ∃ fr, u5.path = u4.path.withFrames fr := by
      unfold u5
      split
      · obtain ⟨fr, hfr⟩ := path_copyRecord u4 y.frame y.egress u4.presStamp false true false
        exact ⟨fr, by rw [path_injectCopy, hfr]⟩
      · exact ⟨u4.path.frames, by rw [path_injectCopy]; rfl⟩
      · exact ⟨u4.path.frames, rfl⟩
    obtain ⟨fr5, h5⟩ := h5
    obtain ⟨fr, hfr⟩ := path_dropRefs u6 y.frame (1 + b2n y.mirror.isSome)
    have h6 : u6.path = { u5.path with copies := mapDel u5.path.copies c } := rfl
    refine ⟨fr, ?_⟩
    show (u6.dropRefs y.frame (1 + b2n y.mirror.isSome)).path = _
    rw [hfr, h6, h5, h4, h3, h2, h1]
    rfl
  next hy => rw [hy] at hx; cases hx

/-- A discard counts in the port of its egress lanes (Table 3-17). -/
theorem counter_discard {i : Nat} (hlo : 54 ≤ i) (hhi : i < 64) (detail agent : Nat) {q : Nat} (hq : s.portOfLane x.egress = some q) :
    (s.discard c i detail agent).counter q i = (s.counter q i + 1) % 2 ^ 40 := by
  unfold State.discard
  split
  next y hy =>
    obtain rfl : y = x := Option.some.inj (hy.symm.trans hx)
    extract_lets beads u1 held u2 u3 u4 u5 u6
    have f1 := frame_unlinkCopy s c y
    have f2 : u1.only u2 [.ports, .counters, .buf, .pair] (regsOf ["CNT_HALF_LO", "CNT_HALF_HI", "BUF_POOL_USED", "BUF_POOL_SHARED",
        "BUF_STATUS", "BUF_XOFF_POOLS", "BUF_LANDING", "BUF_BAD_FREE_LOC", "BUF_BAD_FREE_CNT", "BUF_SPILL_USED"]) := by
      unfold u2
      split
      · exact only_widen (frame_spillUse _ _ _) (by simp) (by simp)
      · exact only_widen (frame_decrementAll _ _ _) (by simp) (by simp)
    have f3 : u2.only u3 [.ports, .counters, .buf, .pair] (regsOf ["CNT_HALF_LO", "CNT_HALF_HI", "BUF_POOL_USED", "BUF_POOL_SHARED",
        "BUF_STATUS", "BUF_XOFF_POOLS", "BUF_LANDING", "BUF_BAD_FREE_LOC", "BUF_BAD_FREE_CNT", "BUF_SPILL_USED"]) := by
      unfold u3
      split
      · exact only_widen (frame_decrementAll _ _ _) (by simp) (by simp)
      · exact only_id _ _ _
    have hlane : u3.portOfLane y.egress = some q :=
      (portOfLane_of_only f3 (by simp) _).trans ((portOfLane_of_only f2 (by simp) _).trans ((portOfLane_of_only f1 (by simp) _).trans hq))
    have c1 : SameCounter i s u1 := SameCounter.of_only f1 (by simp)
    have c2 : SameCounter i u1 u2 := by
      unfold u2
      split
      · exact SameCounter.of_counters rfl
      · exact sameCounter_decrementAll (.inr hlo) hhi _ _ _
    have c3 : SameCounter i u2 u3 := by
      unfold u3
      split
      · exact sameCounter_decrementAll (.inr hlo) hhi _ _ _
      · exact SameCounter.refl _ _
    have c5 : SameCounter i u4 u5 := by
      unfold u5
      split
      · exact (SameCounter.of_only (frame_copyRecord ..) (by simp)).trans (SameCounter.of_only (frame_injectCopy ..) (by simp))
      · exact SameCounter.of_only (frame_injectCopy ..) (by simp)
      · exact SameCounter.refl _ _
    have c6 : SameCounter i u5 ((u6.dropRefs y.frame (1 + b2n y.mirror.isSome)).syncCopies) :=
      SameCounter.after (s := u5) (t := u6) (SameCounter.after (SameCounter.of_only (frame_syncCopies _) (by simp))
        ((frame_dropRefs _ _ _).1 .counters (by simp))) rfl
    have h4 : u4.counter q i = (u3.counter q i + 1) % 2 ^ 40 := by
      unfold u4
      rw [State.countLane, hlane]
      exact counter_count_self u3 q i 1
    rw [c6.counter, c5.counter, h4, (c1.trans (c2.trans c3)).counter]
  next hy => rw [hy] at hx; cases hx

/-- A refused copy (R344, R595). -/
theorem refuseCopy_spec (hl : x.linked = false) (detail : Nat) : (∃ fr, (s.refuseCopy c x 54 detail).path = s.path.without c x.rod fr) ∧
    (x.kind.isMirror = true → (s.refuseCopy c x 54 detail).bit Reg.MIRROR_STATUS_DROP = true) ∧
    (∀ q, s.portOfLane x.egress = some q → (s.refuseCopy c x 54 detail).counter q 54 = (s.counter q 54 + 1) % 2 ^ 40) := by
  have hpath := path_discard_unlinked hx hl 54 detail x.egress
  have hcount := fun q => counter_discard hx (i := 54) (by decide) (by decide) detail x.egress (q := q)
  unfold State.refuseCopy
  generalize s.discard c 54 detail x.egress = u at *
  dsimp only
  split
  next hm =>
    have hbit := bit_of_get_one (get_on_self (u.satAdd (Reg.MIRROR_SESSION_DROP_DROP x.kind.session) 1) Reg.MIRROR_STATUS_DROP (by decide))
    exact ⟨hpath, fun _ => hbit, hcount⟩
  next hm => exact ⟨hpath, fun h => absurd h hm, hcount⟩

end Discard

/-! ### A copy that is linked -/

theorem path_segmentLink (s : State) (c : Nat) (x : Copy) (ahead : Nat) :
    ∃ g, (s.segmentLink c x ahead).path = { s.path with segments := g } := by
  have hclose (u : State) (q : Nat) : ∃ g, (u.closeSegment q).path = { u.path with segments := g } := by
    unfold State.closeSegment
    split
    · exact ⟨_, rfl⟩
    · exact ⟨u.path.segments, rfl⟩
  unfold State.segmentLink
  extract_lets q room
  split
  · split
    · exact ⟨s.path.segments, rfl⟩
    · split
      · exact hclose s q
      · split
        · exact hclose s q
        · exact ⟨_, rfl⟩
  · split
    · exact ⟨s.path.segments, rfl⟩
    · split
      · exact ⟨s.path.segments, rfl⟩
      · exact ⟨_, rfl⟩

/-- The link stage lets a copy through (R595). -/
structure State.Accepts (s : State) (egress rod : Nat) : Prop where
  up : s.portUp egress = true
  noLoop : s.get (Reg.MAC_PORT_CTRL_LOOPBACK egress) ≠ 3
  store : s.usedCopies < 1048576
  depth : s.get (Reg.QUE_ROD_LIMIT_LIMIT rod) = 0 ∨ s.rodDepth rod < s.get (Reg.QUE_ROD_LIMIT_LIMIT rod) * 16

/-- The state in which a copy stands at the tail of its rod. -/
def State.linkedTail (s : State) (c : Nat) (x : Copy) : State :=
  (((s.noteLink (pipeOf x.egress)).modPath fun p => { p with
    offered := p.offered.filter (· != c), residue := mapMod p.residue x.rod [] fun l => l.filter (· != c) }).setCopy c
      { x with linked := true, linkedAt := s.cycle }).setRod x.rod (s.rod x.rod ++ [c])

section Link

variable {s : State} {c : Nat} {x : Copy}

theorem linkCopy_accepted (h : s.Accepts x.egress x.rod) : s.linkCopy c x =
    (((s.linkedTail c x).segmentLink c x ((s.rod x.rod).map s.copySize).sum).retag x.rod).syncCopies := by
  obtain ⟨hup, hloop, hstore, hdepth⟩ := h
  have hup' : (s.noteLink (pipeOf x.egress)).portUp x.egress = s.portUp x.egress := rfl
  have hstore' : (s.noteLink (pipeOf x.egress)).usedCopies = s.usedCopies := rfl
  have hdepth' : (s.noteLink (pipeOf x.egress)).rodDepth x.rod = s.rodDepth x.rod := rfl
  have hget : (s.noteLink (pipeOf x.egress)).get = s.get := rfl
  unfold State.linkCopy
  extract_lets q u limit
  rw [if_neg (by
      have h1 : u.portUp x.egress = true := hup'.trans hup
      have h2 : u.get (Reg.MAC_PORT_CTRL_LOOPBACK x.egress) ≠ 3 := hloop
      simp [h1, h2]),
    if_neg (by
      have h1 : u.usedCopies = s.usedCopies := hstore'
      omega),
    if_neg (by
      have h1 : u.rodDepth q = s.rodDepth x.rod := hdepth'
      have h2 : limit = s.get (Reg.QUE_ROD_LIMIT_LIMIT x.rod) := rfl
      rw [h1, h2]
      rcases hdepth with hd | hd
      · simp [hd]
      · simp; omega)]
  rfl

theorem linkCopy_refused (h : s.portUp x.egress = false ∨ s.get (Reg.MAC_PORT_CTRL_LOOPBACK x.egress) = 3) :
    s.linkCopy c x = (s.noteLink (pipeOf x.egress)).refuseCopy c x 54 5 := by
  have hup' : (s.noteLink (pipeOf x.egress)).portUp x.egress = s.portUp x.egress := rfl
  have hget : (s.noteLink (pipeOf x.egress)).get (Reg.MAC_PORT_CTRL_LOOPBACK x.egress) = s.get (Reg.MAC_PORT_CTRL_LOOPBACK x.egress) := rfl
  unfold State.linkCopy
  exact if_pos (by rw [hup', hget]; rcases h with h | h <;> simp [h])

/-- The path of a state in which a copy has been linked: the segments and the notes of handshakes aside. -/
theorem linkCopy_path (h : s.Accepts x.egress x.rod) : ∃ g links, (s.linkCopy c x).path = { s.path with
    offered := s.path.offered.filter (· != c)
    residue := mapMod s.path.residue x.rod [] fun l => l.filter (· != c)
    copies := mapPut s.path.copies c { x with linked := true, linkedAt := s.cycle }
    rods := mapSet s.path.rods x.rod (s.rod x.rod ++ [c]) []
    segments := g
    links := links } := by
  rw [linkCopy_accepted h]
  obtain ⟨g, hg⟩ := path_segmentLink (s.linkedTail c x) c x ((s.rod x.rod).map s.copySize).sum
  refine ⟨g, (s.linkedTail c x).path.links, ?_⟩
  show (State.retag _ _).path = _
  rw [path_retag, hg]
  rfl

theorem only_linkCopy (h : s.Accepts x.egress x.rod) :
    s.only (s.linkCopy c x) [.path, .tm] (regsOf ["BUF_STATUS", "BUF_SPILL_FULL_CNT", "QUE_COPIES"]) := by
  rw [linkCopy_accepted h]
  have h1 : s.only (s.linkedTail c x) [.path, .tm] (regsOf ["BUF_STATUS", "BUF_SPILL_FULL_CNT", "QUE_COPIES"]) :=
    keep_modPath _ (keep_modPath _ (keep_modPath _ (keep_modPath _ (only_id s _ _) (by simp)) (by simp)) (by simp)) (by simp)
  generalize s.linkedTail c x = u at *
  exact keep_of (frame_syncCopies _) (keep_of (frame_retag _ _) (keep_of (frame_segmentLink _ _ _ _) h1 (by simp) (by simp)) (by simp) (by simp))
    (by simp) (by simp)

end Link

end Sys2Proof.Machine
end

section
/-! The offers of the replicators, and the commands of the link stage (R336 to R340, R595). -/

-- One proof at a time: side by side they take more threads than the memory bound of the check leaves room for.
set_option Elab.async false

namespace Sys2Proof.Machine

/-! ### The link stage's commands -/

/-- A copy has been linked, and everything else on the path stands as before. -/
def LinkDone (s : State) (c : Nat) (x : Copy) (t : State) : Prop :=
  t.copy c = some { x with linked := true, linkedAt := s.cycle } ∧
  t.rod x.rod = s.rod x.rod ++ [c] ∧ c ∉ t.path.offered ∧ c ∉ t.residue x.rod ∧ (∀ q, q ≠ x.rod → t.rod q = s.rod q) ∧
  (∀ d, d ≠ c → t.copy d = s.copy d) ∧ t.path.frames = s.path.frames ∧
  s.only t [.path, .tm] (regsOf ["BUF_STATUS", "BUF_SPILL_FULL_CNT", "QUE_COPIES"])

/-- A copy has been refused. -/
def LinkRefused (s : State) (c : Nat) (x : Copy) (t : State) : Prop :=
  t.copy c = none ∧ c ∉ t.path.offered ∧ c ∉ t.residue x.rod ∧ t.path.rods = s.path.rods ∧
  (x.kind.isMirror = true → t.bit Reg.MIRROR_STATUS_DROP = true) ∧
  (∀ p, s.portOfLane x.egress = some p → t.counter p 54 = (s.counter p 54 + 1) % 2 ^ 40)

section Link

variable {s : State} {c : Nat} {x : Copy}

theorem linkDone_of_accepts (h : s.Accepts x.egress x.rod) : LinkDone s c x (s.linkCopy c x) := by
  obtain ⟨g, links, hpath⟩ := linkCopy_path (c := c) h
  have hmoved := only_linkCopy (c := c) h
  generalize s.linkCopy c x = t at *
  refine ⟨?_, ?_, ?_, ?_, fun q hq => ?_, fun d hd => ?_, ?_, hmoved⟩
  · rw [State.copy, hpath, mapFind_put_self]
  · rw [State.rod, hpath, mapGet_set_self]
  · rw [hpath]
    simp
  · rw [State.residue, hpath, mapGet_mod_self]
    simp
  · rw [State.rod, hpath, mapGet_set_ne _ _ _ _ (Ne.symm hq), State.rod]
  · rw [State.copy, hpath, mapFind_put_ne _ _ (Ne.symm hd), State.copy]
  · rw [hpath]

theorem linkRefused_of_down (hx : s.copy c = some x) (hl : x.linked = false)
    (h : s.portUp x.egress = false ∨ s.get (Reg.MAC_PORT_CTRL_LOOPBACK x.egress) = 3) : LinkRefused s c x (s.linkCopy c x) := by
  rw [linkCopy_refused h]
  have hx' : (s.noteLink (pipeOf x.egress)).copy c = some x := hx
  obtain ⟨⟨fr, hpath⟩, hmirror, hcount⟩ := refuseCopy_spec hx' hl 5
  have hrods : (s.noteLink (pipeOf x.egress)).path.rods = s.path.rods := rfl
  have hcnt : (s.noteLink (pipeOf x.egress)).counter = s.counter := rfl
  have hlane : (s.noteLink (pipeOf x.egress)).portOfLane = s.portOfLane := rfl
  rw [hcnt, hlane] at hcount
  generalize s.noteLink (pipeOf x.egress) = u at *
  generalize u.refuseCopy c x 54 5 = t at *
  refine ⟨?_, ?_, ?_, ?_, hmirror, hcount⟩
  · rw [State.copy, hpath]
    exact mapFind_del_self _ _
  · rw [hpath]
    simp [PathSt.without]
  · rw [State.residue, hpath]
    simp [PathSt.without]
  · rw [hpath]
    exact hrods

variable (hrun : s.running = true) (hx : s.copy c = some x)
include hrun

theorem exec_copyLink : exec (.copyLink c) s = .next (s.linkOffer c).settle := whenUp_running hrun fun s => s.linkOffer c

theorem exec_residueLink {q : Nat} (hq : q < 16384) : exec (.residueLink q) s = .next (s.linkResidue q).settle :=
  (onObject_ok hq _).trans (whenUp_running hrun fun s => s.linkResidue q)

include hx

/-- COPY_LINK of the first offer for a rod (R338 to R340). -/
theorem copyLink_links (hhead : (s.offersOf x.rod).head? = some c) (hfirst : (s.residue x.rod).any (· < c) = false)
    (hplace : 0 < s.placesLeft (pipeOf x.egress)) : exec (.copyLink c) s = .next (s.linkCopy c x).settle := by
  have heq : s.linkOffer c = s.linkCopy c x := by
    rw [State.linkOffer, hx]
    simp only [hhead, hfirst, hplace]
    simp
  rw [← heq]
  exact exec_copyLink hrun

/-- COPY_LINK where the handshake has no place left: the copy joins the residue (R338). -/
theorem copyLink_waits (hhead : (s.offersOf x.rod).head? = some c) (hplace : s.placesLeft (pipeOf x.egress) = 0)
    (hroom : s.residueCount (pipeOf x.egress) < 4096) : ∃ t, exec (.copyLink c) s = .next t ∧ c ∉ t.path.offered ∧
      c ∈ t.residue x.rod ∧ t.copy c = some x ∧ t.path.rods = s.path.rods ∧ s.only t [.path] (keysOf []) := by
  have hexec := exec_copyLink hrun (c := c)
  have heq : s.linkOffer c = s.joinResidue c x := by
    rw [State.linkOffer, hx]
    simp only [hhead, hplace]
    simp; omega
  rw [heq] at hexec
  have hres : (s.joinResidue c x).residue x.rod = (s.residue x.rod).filter (· < c) ++ [c] ++ (s.residue x.rod).filter (· > c) :=
    mapGet_mod_self s.path.residue x.rod [] fun l => l.filter (· < c) ++ [c] ++ l.filter (· > c)
  have hoff : (s.joinResidue c x).path.offered = s.path.offered.filter (· != c) := rfl
  refine ⟨_, hexec, ?_, ?_, hx, rfl, only_settled (keep_modPath _ (only_id s _ _) (by simp))⟩
  · show c ∉ (s.joinResidue c x).path.offered
    simp [hoff]
  · show c ∈ (s.joinResidue c x).residue x.rod
    simp [hres]

/-- RESIDUE_LINK of the copy that waits first (R339, R340). -/
theorem residueLink_links (hq : x.rod < 16384) (hhead : (s.residue x.rod).head? = some c) (hfirst : (s.offersOf x.rod).any (· < c) = false)
    (hplace : s.linksNow (pipeOf x.egress) < 2) : exec (.residueLink x.rod) s = .next (s.linkCopy c x).settle := by
  have heq : s.linkResidue x.rod = s.linkCopy c x := by
    rw [State.linkResidue, hhead]
    simp only [hx, hfirst]
    exact if_neg (by simp; omega)
  rw [← heq]
  exact exec_residueLink hrun hq

theorem residueLink_waits (hq : x.rod < 16384) (hhead : (s.residue x.rod).head? = some c) (hfull : 2 ≤ s.linksNow (pipeOf x.egress)) :
    ∃ t, exec (.residueLink x.rod) s = .next t ∧ s.only t [] (keysOf []) := by
  have hexec := exec_residueLink hrun hq
  have heq : s.linkResidue x.rod = s := by
    rw [State.linkResidue, hhead]
    simp only [hx]
    exact if_pos (by simp [hfull])
  rw [heq] at hexec
  exact ⟨_, hexec, only_settled (only_refl s)⟩

end Link

/-! ### The handshake of a replicator -/

/-- The kind of a copy that a plan makes, and the state in which its mirror session has counted it. -/
def State.planKind (s : State) : CopyKind → CopyKind × State
  | .ingMirror n _ => (.ingMirror n (s.takeSeq n).1, (s.takeSeq n).2)
  | k => (k, s)

/-- The copy that a plan makes of a frame. -/
def State.planned (s : State) (f : Nat) (p : CopyPlan) : Copy := ⟨f, (s.planKind p.kind).1, p.egress, p.queue, p.mirror, false, 0, .onDie, false, []⟩

/-- The state in which the next copy of a frame has been offered. -/
def State.offeredNext (s : State) (f : Nat) (x : Frame) (p : CopyPlan) (waits : Bool) : State :=
  ((s.planKind p.kind).2.setFrame f { x with walked := x.walked + 1 }).offer (s.planned f p) waits

/-- The walk of a frame goes on, or ends with its last copy. -/
def State.walkStep (w : State) (pipe f : Nat) (x : Frame) : State :=
  if x.walked + 1 ≥ x.plan.length then w.endWalk pipe f else w

section Offer

variable {s : State} {pipe places f : Nat} {l : List Nat} {x : Frame} {p : CopyPlan}

theorem planKind_path (s : State) (k : CopyKind) : ∃ m, (s.planKind k).2 = s.modPath fun p => { p with mirrorSeq := m } := by
  unfold State.planKind
  split
  · exact ⟨_, rfl⟩
  · exact ⟨s.path.mirrorSeq, rfl⟩

theorem planKind_plain (s : State) {k : CopyKind} (h : k.isMirror = false) : (s.planKind k).1 = k := by
  cases k with
  | ingMirror n q => cases h
  | dest => rfl
  | egrMirror => cases h
  | span => rfl

/-- What a handshake comes to (R337 to R339). -/
theorem replicate_eq (hrep : mapGet s.path.replicators pipe [] = f :: l) (hf : s.frame f = some x) (hp : x.plan[x.walked]? = some p)
    {ready : Bool} (hready : ready = (decide (0 < min places (s.placesLeft (pipeOf p.egress))) && (s.residue (p.egress * 16 + p.queue)).isEmpty &&
      (s.offersOf (p.egress * 16 + p.queue)).isEmpty)) :
    s.replicate pipe places = if !ready && decide (s.residueCount (pipeOf p.egress) ≥ 4096) then s
      else (if ready then (s.offeredNext f x p (!ready)).linkCopy s.path.nextCopy (s.planned f p) else s.offeredNext f x p (!ready)).walkStep
        pipe f x := by
  have hnext : (s.planKind p.kind).2.path.nextCopy = s.path.nextCopy := by
    obtain ⟨m, hm⟩ := planKind_path s p.kind
    rw [hm]
    rfl
  unfold State.replicate
  rw [hrep]
  dsimp only
  rw [hf]
  dsimp only
  rw [hp]
  dsimp only
  rw [← hready]
  split
  · rfl
  · have hkind : (match p.kind with
        | .ingMirror n _ => let r := s.takeSeq n; (CopyKind.ingMirror n r.1, r.2)
        | k => (k, s)) = s.planKind p.kind := rfl
    show (let r := s.planKind p.kind; _) = _
    rw [← hnext]
    rfl

/-- What the offer of a copy leaves on the path. -/
theorem offeredNext_path (s : State) (f : Nat) (x : Frame) (p : CopyPlan) (waits : Bool) : ∃ m,
    (s.offeredNext f x p waits).path = { s.path with
      frames := mapPut s.path.frames f { x with walked := x.walked + 1 }
      copies := mapPut s.path.copies s.path.nextCopy (s.planned f p)
      nextCopy := s.path.nextCopy + 1
      offered := if waits then s.path.offered else s.path.offered ++ [s.path.nextCopy]
      residue := if waits then mapMod s.path.residue (p.egress * 16 + p.queue) [] (· ++ [s.path.nextCopy]) else s.path.residue
      mirrorSeq := m } ∧ (s.offeredNext f x p waits) = s.modPath fun _ => (s.offeredNext f x p waits).path := by
  obtain ⟨m, hm⟩ := planKind_path s p.kind
  refine ⟨m, ?_, ?_⟩
  · unfold State.offeredNext
    rw [hm]
    rfl
  · unfold State.offeredNext
    rw [hm]
    rfl

end Offer

end Sys2Proof.Machine
end

section
/-! The walk of a replicator, and the obligation about offers and links (R336 to R340, R595). -/

-- One proof at a time: side by side they take more threads than the memory bound of the check leaves room for.
set_option Elab.async false

namespace Sys2Proof.Machine

/-! ### A count over a map into which an unlinked copy comes -/

theorem filter_mapIns_not {α : Type} (m : SMap α) (k : Nat) (v : α) (q : Nat × α → Bool) (h : q (k, v) = false) :
    (mapIns m k v).filter q = m.filter q := by
  induction m with
  | nil => simp [mapIns, h]
  | cons e m ih =>
    obtain ⟨k', v'⟩ := e
    rw [mapIns]
    split
    · exact List.filter_cons_of_neg (by simp [h])
    · rw [List.filter_cons, List.filter_cons, ih]

theorem filter_mapPut_le {α : Type} (m : SMap α) (k : Nat) (v : α) (q : Nat × α → Bool) (h : q (k, v) = false) :
    ((mapPut m k v).filter q).length ≤ (m.filter q).length := by
  rw [mapPut, filter_mapIns_not _ _ _ _ h]
  exact (List.filter_sublist.filter q).length_le

section Offer

variable (s : State) (f : Nat) (x : Frame) (p : CopyPlan)

/-- An offer changes only the path. -/
theorem only_offeredNext (waits : Bool) : s.only (s.offeredNext f x p waits) [.path] (keysOf []) := by
  obtain ⟨m, _, heq⟩ := offeredNext_path s f x p waits
  rw [heq]
  exact keep_modPath _ (only_id s _ _) (by simp)

theorem copy_offeredNext_self (waits : Bool) : (s.offeredNext f x p waits).copy s.path.nextCopy = some (s.planned f p) := by
  obtain ⟨m, hpath, _⟩ := offeredNext_path s f x p waits
  rw [State.copy, hpath, mapFind_put_self]

theorem copy_offeredNext_ne (waits : Bool) {d : Nat} (h : d ≠ s.path.nextCopy) : (s.offeredNext f x p waits).copy d = s.copy d := by
  obtain ⟨m, hpath, _⟩ := offeredNext_path s f x p waits
  rw [State.copy, hpath, mapFind_put_ne _ _ (Ne.symm h), State.copy]

theorem rod_offeredNext (waits : Bool) (q : Nat) : (s.offeredNext f x p waits).rod q = s.rod q := by
  obtain ⟨m, hpath, _⟩ := offeredNext_path s f x p waits
  rw [State.rod, hpath, State.rod]

variable {s f x}

theorem copyBeads_offeredNext (hf : s.frame f = some x) (waits : Bool) {d : Nat} (h : d ≠ s.path.nextCopy) :
    (s.offeredNext f x p waits).copyBeads d = s.copyBeads d := by
  have hframe (g : Nat) : (s.offeredNext f x p waits).frame g = if g = f then some { x with walked := x.walked + 1 } else s.frame g := by
    obtain ⟨m, hpath, _⟩ := offeredNext_path s f x p waits
    have hframes : (s.offeredNext f x p waits).path.frames = mapPut s.path.frames f { x with walked := x.walked + 1 } := by rw [hpath]
    rw [State.frame, hframes]
    split
    next hg => rw [hg, mapFind_put_self]
    next hg => rw [mapFind_put_ne _ _ (Ne.symm hg), State.frame]
  rw [State.copyBeads, State.copyBeads, copy_offeredNext_ne s f x p waits h]
  cases hc : s.copy d with
  | none => rfl
  | some y =>
    dsimp only
    by_cases hg : y.frame = f
    · rw [hframe, if_pos hg, hg, hf]
      rfl
    · rw [hframe, if_neg hg]

/-- What the link stage asks of a rod stands as before the offer: the copy is new to it. -/
theorem accepts_offeredNext (hf : s.frame f = some x) (hnew : ∀ q, s.path.nextCopy ∉ s.rod q) (waits : Bool) {egress rod : Nat}
    (h : s.Accepts egress rod) : (s.offeredNext f x p waits).Accepts egress rod := by
  obtain ⟨hup, hloop, hstore, hdepth⟩ := h
  have hrod : (s.offeredNext f x p waits).rodDepth rod = s.rodDepth rod := by
    rw [State.rodDepth, rod_offeredNext, State.rodDepth]
    congr 1
    exact List.map_congr_left fun d hd => copyBeads_offeredNext p hf waits fun he => hnew rod (he ▸ hd)
  have hused : (s.offeredNext f x p waits).usedCopies ≤ s.usedCopies := by
    obtain ⟨m, hpath, _⟩ := offeredNext_path s f x p waits
    rw [State.usedCopies, hpath]
    exact filter_mapPut_le _ _ _ _ rfl
  obtain ⟨m, _, heq⟩ := offeredNext_path s f x p waits
  refine ⟨?_, ?_, Nat.lt_of_le_of_lt hused hstore, ?_⟩
  · rw [heq]
    exact hup
  · rw [heq]
    exact hloop
  · rw [hrod]
    have hget : (s.offeredNext f x p waits).get (Reg.QUE_ROD_LIMIT_LIMIT rod) = s.get (Reg.QUE_ROD_LIMIT_LIMIT rod) := by rw [heq]; rfl
    rw [hget]
    exact hdepth

end Offer

/-! ### The end of a walk -/

/-- What an ended walk leaves on the path: its frame may be gone, and its replicator goes on. -/
theorem endWalk_path (s : State) (pipe f : Nat) : ∃ fr, (s.endWalk pipe f).path =
    { s.path with frames := fr, replicators := mapMod s.path.replicators pipe [] List.tail } := by
  have hlists (u : State) : u.freeLists.path = u.path := rfl
  unfold State.endWalk
  extract_lets u
  obtain ⟨g, hg⟩ := path_modFrame u f fun x => { x with stage := .linked, group := none }
  obtain ⟨h, hh⟩ := path_reap (u.modFrame f fun x => { x with stage := .linked, group := none }) f
  exact ⟨h, by rw [hlists, hh, hg]; rfl⟩

theorem only_walkStep (w : State) (pipe f : Nat) (x : Frame) : w.only (w.walkStep pipe f x) [.path, .mcast] (regsOf ["MCAST_MEMBERS_USED"]) := by
  unfold State.walkStep
  split
  · exact frame_endWalk ..
  · exact only_id _ _ _

/-- A step of a walk touches on the path the frames and, with the last copy, the replicator. -/
theorem walkStep_path (w : State) (pipe f : Nat) (x : Frame) : ∃ fr reps, (w.walkStep pipe f x).path =
    { w.path with frames := fr, replicators := reps } := by
  unfold State.walkStep
  split
  · obtain ⟨fr, h⟩ := endWalk_path w pipe f
    exact ⟨fr, _, h⟩
  · exact ⟨w.path.frames, w.path.replicators, rfl⟩

theorem walkStep_more (w : State) (pipe f : Nat) {x : Frame} (h : x.walked + 1 < x.plan.length) : w.walkStep pipe f x = w :=
  if_neg (by omega)

/-- With the last copy of a frame the replicator takes its next frame (R337). -/
theorem replicators_walkStep (w : State) (pipe f : Nat) {x : Frame} {l : List Nat} (h : x.plan.length ≤ x.walked + 1)
    (hrep : mapGet w.path.replicators pipe [] = f :: l) : mapGet (w.walkStep pipe f x).path.replicators pipe [] = l := by
  have hend : w.walkStep pipe f x = w.endWalk pipe f := if_pos (by omega)
  obtain ⟨fr, hpath⟩ := endWalk_path w pipe f
  rw [hend, hpath]
  show mapGet (mapMod w.path.replicators pipe [] List.tail) pipe [] = l
  rw [mapGet_mod_self, hrep]
  rfl

theorem counter_walkStep (w : State) (pipe f : Nat) (x : Frame) (q i : Nat) : (w.walkStep pipe f x).counter q i = w.counter q i :=
  (SameCounter.of_only (i := i) (only_walkStep w pipe f x) (by simp)).counter q

/-! ### The handshake -/

section Handshake

variable {s : State} (hrun : s.running = true) {pipe places f : Nat} {l : List Nat} {x : Frame} {p : CopyPlan}
  (hpipe : pipe < 65) (hrep : mapGet s.path.replicators pipe [] = f :: l) (hf : s.frame f = some x) (hp : x.plan[x.walked]? = some p)

include hrun hpipe in
theorem exec_replicatorOffer : exec (.replicatorOffer pipe places) s = .next (s.replicate pipe places).settle :=
  (onObject_ok hpipe _).trans (whenUp_running hrun fun s => s.replicate pipe places)

include hrun hpipe hrep hf hp

variable {ready : Bool} (hready : ready = (decide (0 < min places (s.placesLeft (pipeOf p.egress))) &&
  (s.residue (p.egress * 16 + p.queue)).isEmpty && (s.offersOf (p.egress * 16 + p.queue)).isEmpty))
include hready

/-- A full residue stalls the walk (R339). -/
theorem offer_stalls (hno : ready = false) (hfull : 4096 ≤ s.residueCount (pipeOf p.egress)) :
    exec (.replicatorOffer pipe places) s = .next s.settle := by
  have heq := replicate_eq hrep hf hp hready
  rw [hno, if_pos (by simp [hfull])] at heq
  exact (exec_replicatorOffer hrun hpipe).trans (by rw [heq])

/-- A copy that is not ready joins the residue (R339). -/
theorem offer_waits (hno : ready = false) (hroom : s.residueCount (pipeOf p.egress) < 4096) :
    exec (.replicatorOffer pipe places) s = .next ((s.offeredNext f x p true).walkStep pipe f x).settle := by
  have heq := replicate_eq hrep hf hp hready
  rw [hno, if_neg (by simp; omega), if_neg (by simp)] at heq
  exact (exec_replicatorOffer hrun hpipe).trans (by rw [heq]; rfl)

/-- A ready copy goes to the link stage (R338). -/
theorem offer_links (hyes : ready = true) : exec (.replicatorOffer pipe places) s =
    .next (((s.offeredNext f x p false).linkCopy s.path.nextCopy (s.planned f p)).walkStep pipe f x).settle := by
  have heq := replicate_eq hrep hf hp hready
  rw [hyes, if_neg (by simp), if_pos rfl] at heq
  exact (exec_replicatorOffer hrun hpipe).trans (by rw [heq]; rfl)

end Handshake

/-! ### What the three kinds of handshake come to -/

section Outcome

variable {s : State} {f : Nat} {l : List Nat} {x : Frame} (p : CopyPlan)

theorem planned_kind (h : p.kind.isMirror = false) : (s.planned f p).kind = p.kind := planKind_plain s h

/-- The SEQ of an ingress mirror copy is the one of its session (Table 12-3). -/
theorem planned_seq {n k : Nat} (h : p.kind = .ingMirror n k) : (s.planned f p).kind = .ingMirror n (mapGet s.path.mirrorSeq n 0) ∧
    ∀ waits, mapGet (s.offeredNext f x p waits).path.mirrorSeq n 0 = (mapGet s.path.mirrorSeq n 0 + 1) % 2 ^ 32 := by
  refine ⟨?_, fun waits => ?_⟩
  · unfold State.planned
    rw [h]
    rfl
  · have hseq : (s.offeredNext f x p waits).path.mirrorSeq = mapPut s.path.mirrorSeq n ((mapGet s.path.mirrorSeq n 0 + 1) % 2 ^ 32) := by
      unfold State.offeredNext
      rw [h]
      rfl
    rw [hseq, mapGet, mapFind_put_self]
    rfl

/-- The residue takes the copy at its end. -/
theorem residue_offeredNext : (s.offeredNext f x p true).residue (p.egress * 16 + p.queue) =
    s.residue (p.egress * 16 + p.queue) ++ [s.path.nextCopy] := by
  obtain ⟨m, hpath, _⟩ := offeredNext_path s f x p true
  rw [State.residue, hpath]
  exact mapGet_mod_self s.path.residue _ [] (· ++ [s.path.nextCopy])

end Outcome

/-- What a copy that waits comes to. -/
theorem waited_spec {s : State} {f pipe : Nat} {l : List Nat} {x : Frame} (p : CopyPlan)
    (hrep : mapGet s.path.replicators pipe [] = f :: l) :
    ∃ t y, ((s.offeredNext f x p true).walkStep pipe f x).settle = t ∧ t.copy s.path.nextCopy = some y ∧ y.frame = f ∧
      y.egress = p.egress ∧ y.queue = p.queue ∧ y.mirror = p.mirror ∧ y.linked = false ∧ y.place = .onDie ∧
      (p.kind.isMirror = false → y.kind = p.kind) ∧
      (∀ n k, p.kind = .ingMirror n k → y.kind = .ingMirror n (mapGet s.path.mirrorSeq n 0) ∧
        mapGet t.path.mirrorSeq n 0 = (mapGet s.path.mirrorSeq n 0 + 1) % 2 ^ 32) ∧
      t.path.nextCopy = s.path.nextCopy + 1 ∧ (∀ k, k ≠ s.path.nextCopy → t.copy k = s.copy k) ∧ t.path.offered = s.path.offered ∧
      t.residue (p.egress * 16 + p.queue) = s.residue (p.egress * 16 + p.queue) ++ [s.path.nextCopy] ∧
      (x.walked + 1 < x.plan.length → t.frame f = some { x with walked := x.walked + 1 }) ∧
      (x.plan.length ≤ x.walked + 1 → mapGet t.path.replicators pipe [] = l) ∧
      s.only t [.path, .mcast] (regsOf ["MCAST_MEMBERS_USED"]) := by
  obtain ⟨m, hpath, _⟩ := offeredNext_path s f x p true
  have hself := copy_offeredNext_self s f x p true
  have hother := fun d => copy_offeredNext_ne s f x p true (d := d)
  have hres := residue_offeredNext (s := s) (f := f) (x := x) p
  have hseq := fun n k => planned_seq (s := s) (f := f) (x := x) p (n := n) (k := k)
  have hframe : (s.offeredNext f x p true).frame f = some { x with walked := x.walked + 1 } := by
    rw [State.frame, hpath, mapFind_put_self]
  have hreps : mapGet (s.offeredNext f x p true).path.replicators pipe [] = f :: l := by rw [hpath]; exact hrep
  have hnext : (s.offeredNext f x p true).path.nextCopy = s.path.nextCopy + 1 := by rw [hpath]
  have hoff : (s.offeredNext f x p true).path.offered = s.path.offered := by rw [hpath]; rfl
  have honly : s.only (s.offeredNext f x p true) [.path, .mcast] (regsOf ["MCAST_MEMBERS_USED"]) :=
    only_mono (only_offeredNext s f x p true) (by simp) (keysOf_nil _)
  have hseq' := fun n k h => (hseq n k h).2 true
  clear hpath
  generalize s.offeredNext f x p true = w at *
  obtain ⟨fr, reps, hstep⟩ := walkStep_path w pipe f x
  have hmoved := only_settled (only_then honly (only_walkStep w pipe f x))
  have hmore := fun h => (congrArg (fun u => State.frame u f) (walkStep_more w pipe f (x := x) h)).trans hframe
  have hlast := fun h => replicators_walkStep w pipe f (x := x) h hreps
  generalize w.walkStep pipe f x = u at *
  have hcopy (d : Nat) : u.copy d = w.copy d := by rw [State.copy, hstep, State.copy]
  refine ⟨_, _, rfl, (hcopy _).trans hself, rfl, rfl, rfl, rfl, rfl, rfl, planned_kind p,
    fun n k h => ⟨(hseq n k h).1, ?_⟩, ?_, fun d hd => (hcopy d).trans (hother d hd), ?_, ?_, hmore, hlast, hmoved⟩
  · show mapGet u.path.mirrorSeq n 0 = _
    rw [hstep]
    exact hseq' n k h
  · show u.path.nextCopy = _
    rw [hstep]
    exact hnext
  · show u.path.offered = _
    rw [hstep]
    exact hoff
  · show mapGet u.path.residue _ [] = _
    rw [hstep]
    exact hres

/-- What a ready copy comes to that the link stage accepts. -/
theorem linkedNext_spec {s : State} {f pipe : Nat} {l : List Nat} {x : Frame} (p : CopyPlan) (hf : s.frame f = some x)
    (hrep : mapGet s.path.replicators pipe [] = f :: l) (hnew : ∀ q, s.path.nextCopy ∉ s.rod q)
    (hacc : s.Accepts p.egress (p.egress * 16 + p.queue)) :
    ∃ t y, (((s.offeredNext f x p false).linkCopy s.path.nextCopy (s.planned f p)).walkStep pipe f x).settle = t ∧
      t.copy s.path.nextCopy = some y ∧ y.frame = f ∧ y.egress = p.egress ∧ y.queue = p.queue ∧ y.linked = true ∧ y.linkedAt = s.cycle ∧
      t.rod (p.egress * 16 + p.queue) = s.rod (p.egress * 16 + p.queue) ++ [s.path.nextCopy] ∧
      t.path.nextCopy = s.path.nextCopy + 1 ∧ (∀ k, k ≠ s.path.nextCopy → t.copy k = s.copy k) ∧
      (x.plan.length ≤ x.walked + 1 → mapGet t.path.replicators pipe [] = l) ∧
      s.only t [.path, .tm, .mcast] (regsOf ["MCAST_MEMBERS_USED", "BUF_STATUS", "BUF_SPILL_FULL_CNT", "QUE_COPIES"]) := by
  have hacc' : (s.offeredNext f x p false).Accepts (s.planned f p).egress (s.planned f p).rod := accepts_offeredNext p hf hnew false hacc
  obtain ⟨m, hpath, heq⟩ := offeredNext_path s f x p false
  have hcycle : (s.offeredNext f x p false).cycle = s.cycle := by rw [heq]; rfl
  have hother := fun d => copy_offeredNext_ne s f x p false (d := d)
  have hrod := rod_offeredNext s f x p false
  have hreps : mapGet (s.offeredNext f x p false).path.replicators pipe [] = f :: l := by rw [hpath]; exact hrep
  have hnext : (s.offeredNext f x p false).path.nextCopy = s.path.nextCopy + 1 := by rw [hpath]
  have honly := only_offeredNext s f x p false
  clear heq hpath
  generalize s.offeredNext f x p false = w at *
  obtain ⟨g, links, hlink⟩ := linkCopy_path (c := s.path.nextCopy) hacc'
  have hlinkMoved := only_linkCopy (c := s.path.nextCopy) hacc'
  have hplan : (s.planned f p).rod = p.egress * 16 + p.queue := rfl
  obtain ⟨hcopy, hrod', _, _, _, hcopies, _, _⟩ := linkDone_of_accepts (c := s.path.nextCopy) hacc'
  rw [hplan, hrod] at hrod'
  generalize w.linkCopy s.path.nextCopy (s.planned f p) = v at *
  obtain ⟨fr, reps, hstep⟩ := walkStep_path v pipe f x
  have hmoved : s.only (v.walkStep pipe f x).settle [.path, .tm, .mcast]
      (regsOf ["MCAST_MEMBERS_USED", "BUF_STATUS", "BUF_SPILL_FULL_CNT", "QUE_COPIES"]) :=
    only_settled (only_then (only_mono honly (by simp) (keysOf_nil _)) (only_then (only_widen hlinkMoved (by simp) (by simp))
      (only_widen (only_walkStep v pipe f x) (by simp) (by simp))))
  have hvreps : mapGet v.path.replicators pipe [] = f :: l := by rw [hlink]; exact hreps
  have hlast := fun h => replicators_walkStep v pipe f (x := x) h hvreps
  generalize v.walkStep pipe f x = u at *
  have hcopyU (d : Nat) : u.copy d = v.copy d := by rw [State.copy, hstep, State.copy]
  refine ⟨_, _, rfl, (hcopyU _).trans hcopy, rfl, rfl, rfl, rfl, hcycle, ?_, ?_,
    fun d hd => (hcopyU d).trans ((hcopies d hd).trans (hother d hd)), hlast, hmoved⟩
  · show mapGet u.path.rods _ [] = _
    rw [hstep]
    exact hrod'
  · show u.path.nextCopy = _
    rw [hstep]
    show v.path.nextCopy = _
    rw [hlink]
    exact hnext

/-- What a ready copy comes to whose port is not up, or in loopback 3 (R595). -/
theorem refusedNext_spec {s : State} {f pipe : Nat} {x : Frame} (p : CopyPlan)
    (hdown : s.portUp p.egress = false ∨ s.get (Reg.MAC_PORT_CTRL_LOOPBACK p.egress) = 3) :
    ∃ t, (((s.offeredNext f x p false).linkCopy s.path.nextCopy (s.planned f p)).walkStep pipe f x).settle = t ∧
      t.copy s.path.nextCopy = none ∧ t.path.nextCopy = s.path.nextCopy + 1 ∧
      ∀ q, s.portOfLane p.egress = some q → t.counter q 54 = (s.counter q 54 + 1) % 2 ^ 40 := by
  obtain ⟨m, hpath, heq⟩ := offeredNext_path s f x p false
  have hself := copy_offeredNext_self s f x p false
  have hnext : (s.offeredNext f x p false).path.nextCopy = s.path.nextCopy + 1 := by rw [hpath]
  have hdown' : (s.offeredNext f x p false).portUp p.egress = false ∨
      (s.offeredNext f x p false).get (Reg.MAC_PORT_CTRL_LOOPBACK p.egress) = 3 := by
    rw [heq]
    exact hdown
  have hlane : (s.offeredNext f x p false).portOfLane = s.portOfLane := by rw [heq]; rfl
  have hcnt : (s.offeredNext f x p false).counter = s.counter := by rw [heq]; rfl
  clear heq hpath
  generalize s.offeredNext f x p false = w at *
  have hown : (w.noteLink (pipeOf p.egress)).copy s.path.nextCopy = some (s.planned f p) := hself
  obtain ⟨⟨fr, hrefused⟩, _, _⟩ := refuseCopy_spec hown rfl 5
  have hnote : (w.noteLink (pipeOf p.egress)).path.nextCopy = w.path.nextCopy := rfl
  obtain ⟨hgone, _, _, _, _, hcount⟩ := linkRefused_of_down hself rfl hdown'
  have hlinkNext : (w.linkCopy s.path.nextCopy (s.planned f p)).path.nextCopy = s.path.nextCopy + 1 := by
    rw [linkCopy_refused (x := s.planned f p) hdown']
    show (State.refuseCopy _ _ _ _ _).path.nextCopy = _
    rw [← hnext, ← hnote]
    exact (congrArg PathSt.nextCopy hrefused :)
  rw [hlane, hcnt] at hcount
  generalize w.linkCopy s.path.nextCopy (s.planned f p) = v at *
  obtain ⟨fr', reps, hstep⟩ := walkStep_path v pipe f x
  have hsame := fun q => counter_walkStep v pipe f x q 54
  generalize v.walkStep pipe f x = u at *
  refine ⟨_, rfl, ?_, ?_, fun q hq => (hsame q).trans (hcount q hq)⟩
  · show mapFind u.path.copies _ = none
    rw [hstep]
    exact hgone
  · show u.path.nextCopy = _
    rw [hstep]
    exact hlinkNext

theorem linkDone_settle {s t : State} {c : Nat} {x : Copy} (h : LinkDone s c x t) : LinkDone s c x t.settle := by
  obtain ⟨hcopy, hrod, hoff, hres, hrods, hcopies, hframes, honly⟩ := h
  exact ⟨hcopy, hrod, hoff, hres, hrods, hcopies, hframes, only_settled honly⟩

/-- What the commands of offers and links leave as it is. -/
theorem frame_linkCommands {s t : State} (hrun : s.running = true) {com : Instr}
    (hcom : (∃ c, com = Instr.copyLink c) ∨ (∃ q, com = Instr.residueLink q) ∨ ∃ pipe n, com = Instr.replicatorOffer pipe n)
    (h : exec com s = .next t) : s.only t [.ports, .counters, .events, .path, .mcast, .buf, .tm, .tally, .host, .pair]
      (regsOf ["CNT_HALF_LO", "CNT_HALF_HI", "TALLY_STATUS", "TALLY_RING_LEVEL", "TALLY_LOST_CNT", "BUF_POOL_USED", "BUF_POOL_SHARED",
        "BUF_STATUS", "BUF_XOFF_POOLS", "BUF_LANDING", "BUF_BAD_FREE_LOC", "BUF_BAD_FREE_CNT", "BUF_SPILL_FULL_CNT", "BUF_SPILL_USED",
        "QUE_STATUS", "QUE_COPIES", "QUE_TAIL_DROP_CNT", "QUE_COPY_FULL_CNT", "MIRROR_SESSION_DROP", "MIRROR_STATUS", "RING_DEV_INDEX",
        "RING_CFG", "MCAST_MEMBERS_USED"]) := by
  have hdo {P : List Part} {m : Keys} (g : State → State) (hg : s.only (g s) P m) (hw : whenUp s g = .next t) : s.only t P m := by
    rw [whenUp_running hrun] at hw
    cases hw
    exact only_settled hg
  rcases hcom with ⟨c, rfl⟩ | ⟨q, rfl⟩ | ⟨pipe, n, rfl⟩
  · exact hdo (fun u => u.linkOffer c) (only_widen (frame_linkOffer s c) (by simp) (by simp)) h
  · by_cases hq : q < 16384
    · exact hdo (fun u => u.linkResidue q) (only_widen (frame_linkResidue s q) (by simp) (by simp)) ((onObject_ok hq _).symm.trans h)
    · exact absurd ((onObject_out hq _).symm.trans h) (by simp)
  · by_cases hq : pipe < 65
    · exact hdo (fun u => u.replicate pipe n) (only_widen (frame_replicate s pipe n) (by simp) (by simp)) ((onObject_ok hq _).symm.trans h)
    · exact absurd ((onObject_out hq _).symm.trans h) (by simp)

/-- Settles O32: what the link stage does with a copy is said once (`LinkDone`, `LinkRefused`); the walk of a replicator only
touches the frames and the replicators after it. -/
theorem copiesAreOfferedAndLinkedInOrder : Obligations.CopiesAreOfferedAndLinkedInOrder := by
  unfold Obligations.CopiesAreOfferedAndLinkedInOrder
  intro s hrun accepts haccepts
  subst haccepts
  refine ⟨?_, ?_, fun com t hcom h => frame_linkCommands hrun hcom h⟩
  · intro pipe places f l x p rod c hpipe hrep hf hp hrod hc ready hready
    subst hrod hc
    refine ⟨fun hno hfull => ?_, fun hno hroom => ?_, fun hyes hnew hacc => ?_, fun hyes hdown => ?_⟩
    · exact ⟨_, offer_stalls hrun hpipe hrep hf hp hready hno hfull, only_settled (only_refl s)⟩
    · obtain ⟨t, y, ht, hspec⟩ := waited_spec p hrep (x := x)
      exact ⟨t, y, (offer_waits hrun hpipe hrep hf hp hready hno hroom).trans (congrArg Host.Outcome.next ht), hspec⟩
    · obtain ⟨hup, hloop, hstore, hdepth⟩ := hacc
      obtain ⟨t, y, ht, hspec⟩ := linkedNext_spec p hf hrep hnew ⟨hup, hloop, hstore, hdepth⟩
      exact ⟨t, y, (offer_links hrun hpipe hrep hf hp hready hyes).trans (congrArg Host.Outcome.next ht), hspec⟩
    · obtain ⟨t, ht, hspec⟩ := refusedNext_spec p hdown (f := f) (pipe := pipe) (x := x)
      exact ⟨t, (offer_links hrun hpipe hrep hf hp hready hyes).trans (congrArg Host.Outcome.next ht), hspec⟩
  · intro c x hx linked refused hlinked hrefused
    subst hlinked hrefused
    have hdone (h : s.Accepts x.egress x.rod) := linkDone_of_accepts (c := c) h
    have hgone (hl : x.linked = false) := linkRefused_of_down hx hl
    have hlink := copyLink_links hrun hx
    have hresLink := residueLink_links hrun hx
    refine ⟨fun hhead hfirst hplace => ?_, copyLink_waits hrun hx, fun hq hhead hfirst hplace => ?_, residueLink_waits hrun hx⟩
    · have hexec := hlink hhead hfirst hplace
      generalize s.linkCopy c x = u at *
      exact ⟨fun ⟨hup, hloop, hstore, hdepth⟩ => ⟨_, hexec, linkDone_settle (hdone ⟨hup, hloop, hstore, hdepth⟩)⟩,
        fun hdown hl => ⟨_, hexec, hgone hl hdown⟩⟩
    · have hexec := hresLink hq hhead hfirst hplace
      generalize s.linkCopy c x = u at *
      exact ⟨fun ⟨hup, hloop, hstore, hdepth⟩ => ⟨_, hexec, linkDone_settle (hdone ⟨hup, hloop, hstore, hdepth⟩)⟩,
        fun hdown hl => ⟨_, hexec, hgone hl hdown⟩⟩

end Sys2Proof.Machine
end

section
/-! The chain engines, their leaves and the gap records (R181, R183, R184, R186). -/

-- One proof at a time: side by side they take more threads than the memory bound of the check leaves room for.
set_option Elab.async false

namespace Sys2Proof.Machine

/-! ### The backing ring -/

/-- The backing ring takes an entry at its end; the rest of Tally stands. -/
theorem tally_ringAppend (s : State) (b : List Byte) : (s.ringAppend b).tally = { s.tally with ring := s.tally.ring ++ [⟨b, false⟩] } := by
  unfold State.ringAppend
  extract_lets slot
  rw [(frame_syncTally _).1 .tally (by simp), (frame_dramWrite _ _ _ _).1 .tally (by simp)]
  rfl

/-! ### A chain that takes an entry -/

/-- The chain with one more entry in its open leaf. -/
def Chain.extended (x : Chain) (e : List Byte) (now : Nat) : Chain :=
  { x with nextSeq := x.nextSeq + 1, leaf := x.leaf ++ [e], count := x.count + 1, openedAt := if x.leaf.isEmpty then now else x.openedAt }

/-- The chain after it has taken an entry: a leaf of 16 closes. -/
def Chain.took (x : Chain) (e : List Byte) (now : Nat) : Chain :=
  if (x.extended e now).leaf.length ≥ 16 then closeLeaf (x.extended e now) else x.extended e now

theorem closeLeaf_of_ne {x : Chain} (h : x.leaf ≠ []) :
    closeLeaf x = { x with value := sha256 (x.value ++ sha256 x.leaf.flatten), leaf := [], nextLeaf := x.nextLeaf + 1 } :=
  if_neg (by simpa using h)

section Took

variable (x : Chain) (e : List Byte) (now : Nat)

theorem extended_length : (x.extended e now).leaf.length = x.leaf.length + 1 := by simp [Chain.extended]

theorem took_counts : (x.took e now).nextSeq = x.nextSeq + 1 ∧ (x.took e now).count = x.count + 1 := by
  unfold Chain.took closeLeaf
  split
  · split
    · exact ⟨rfl, rfl⟩
    · exact ⟨rfl, rfl⟩
  · exact ⟨rfl, rfl⟩

variable {x}

theorem took_open (h : x.leaf.length < 15) : (x.took e now).value = x.value ∧ (x.took e now).leaf.length = x.leaf.length + 1 := by
  have hlen := extended_length x e now
  have htook : x.took e now = x.extended e now := if_neg (by omega)
  exact ⟨by rw [htook]; rfl, by rw [htook, hlen]⟩

/-- The sixteenth entry closes the leaf (R184). -/
theorem took_closed (h : x.leaf.length = 15) : (x.took e now).leaf = [] ∧ (x.took e now).nextLeaf = x.nextLeaf + 1 ∧
    (x.took e now).value = sha256 (x.value ++ sha256 (x.leaf ++ [e]).flatten) := by
  have hlen := extended_length x e now
  have hne : (x.extended e now).leaf ≠ [] := by simp [Chain.extended]
  have htook : x.took e now = closeLeaf (x.extended e now) := if_pos (by omega)
  rw [htook, closeLeaf_of_ne hne]
  exact ⟨rfl, rfl, rfl⟩

end Took

/-! ### The commands of Tally's records -/

/-- Tally with the next entry of chain `c` taken. -/
def TallySt.taken (y : TallySt) (c : Nat) (x : Chain) (rest : List (Nat × List Byte)) (gaps : SMap Gap) : TallySt :=
  { y with burst := rest, gaps := gaps, chains := mapPut y.chains c x, waits := takeWait y.waits }

/-- What chain `c` holds after it has taken the entry `b`, numbered by it. -/
def State.chainTook (s : State) (c : Nat) (b : List Byte) : Chain :=
  (s.chain c).took (sequenced b (s.chain c).leaf.length (s.chain c).nextSeq (s.chain c).nextLeaf) s.cycle

section Take

variable {s : State} (hrun : s.running = true) {c : Nat} {b : List Byte} {rest : List (Nat × List Byte)} (hburst : s.tally.burst = (c, b) :: rest)
  (htake : s.mayTake = true) (hroom : s.ringRoomFor 1 2120 = true) (htally : s.funcUp .tally = true) (hdram : s.dramServes = true)
include hrun hburst htake hroom htally hdram

/-- CHAIN_TAKE_RECORD takes what `nextEntry` gives. -/
theorem chainTakeRecord_takes {b' : List Byte} {rest' : List (Nat × List Byte)} {gaps : SMap Gap} (hnext : s.nextEntry c b rest = (b', rest', gaps)) :
    ∃ t, exec .chainTakeRecord s = .next t ∧ t.tally.burst = rest' ∧ t.tally.gaps = gaps ∧
      t.tally.ring = s.tally.ring ++ [⟨sequenced b' (s.chain c).leaf.length (s.chain c).nextSeq (s.chain c).nextLeaf, false⟩] ∧
      t.chain c = s.chainTook c b' ∧ (∀ k, k ≠ c → t.chain k = s.chain k) ∧
      s.only t [.tally, .dram] (regsOf ["TALLY_STATUS", "TALLY_RING_LEVEL", "DRAM_STATUS", "DRAM_ROW_GUARD_CNT"]) := by
  have hexec : exec .chainTakeRecord s = .next s.takeRecord.settle := whenUp_running hrun fun s => s.takeRecord
  have heq : s.takeRecord = (s.modTally fun y => y.taken c (s.chainTook c b') rest' gaps).ringAppend
      (sequenced b' (s.chain c).leaf.length (s.chain c).nextSeq (s.chain c).nextLeaf) := by
    unfold State.takeRecord
    rw [hburst]
    dsimp only
    rw [if_neg (by simp [htake, hroom, htally, hdram]), hnext]
    rfl
  have honly := frame_takeRecord s
  have htal := tally_ringAppend (s.modTally fun y => y.taken c (s.chainTook c b') rest' gaps)
    (sequenced b' (s.chain c).leaf.length (s.chain c).nextSeq (s.chain c).nextLeaf)
  rw [← heq] at htal
  generalize s.takeRecord = t at *
  have hchains : t.tally.chains = mapPut s.tally.chains c (s.chainTook c b') := by rw [htal]; rfl
  refine ⟨_, hexec, ?_, ?_, ?_, ?_, fun k hk => ?_, only_settled honly⟩
  · exact congrArg TallySt.burst htal
  · exact congrArg TallySt.gaps htal
  · exact congrArg TallySt.ring htal
  · show mapGet t.tally.chains c chain0 = _
    rw [hchains, mapGet, mapFind_put_self]
    rfl
  · show mapGet t.tally.chains k chain0 = _
    rw [hchains, mapGet, mapFind_put_ne _ _ (Ne.symm hk)]
    rfl

end Take

section Commands

variable {s : State} (hrun : s.running = true)
include hrun

/-- LEAF_TIMER_CLOSE of a leaf that has been open for 1 µs (R183). -/
theorem leafTimerClose_closes {c : Nat} (hc : c < 256) (hleaf : (s.chain c).leaf ≠ []) (hold : (s.chain c).openedAt + usCycles ≤ s.cycle) :
    ∃ t, exec (.leafTimerClose c) s = .next t ∧ (t.chain c).leaf = [] ∧ (t.chain c).nextLeaf = (s.chain c).nextLeaf + 1 ∧
      (t.chain c).value = sha256 ((s.chain c).value ++ sha256 (s.chain c).leaf.flatten) ∧ s.only t [.tally] (keysOf []) := by
  have hexec : exec (.leafTimerClose c) s = .next (s.leafTimer c).settle :=
    (onObject_ok hc _).trans (whenUp_running hrun fun s => s.leafTimer c)
  have heq : s.leafTimer c = s.modTally fun y => { y with chains := mapPut y.chains c (closeLeaf (s.chain c)) } :=
    if_pos (by simp [hleaf, hold])
  rw [heq] at hexec
  have hchain : State.chain (s.modTally fun y => { y with chains := mapPut y.chains c (closeLeaf (s.chain c)) }) c = closeLeaf (s.chain c) := by
    show mapGet (mapPut s.tally.chains c (closeLeaf (s.chain c))) c chain0 = _
    rw [mapGet, mapFind_put_self]
    rfl
  replace hchain := hchain.trans (closeLeaf_of_ne hleaf)
  have honly := keep_modTally (fun y : TallySt => { y with chains := mapPut y.chains c (closeLeaf (s.chain c)) })
    (only_id s [.tally] (keysOf [])) (by simp)
  generalize (s.modTally fun y => { y with chains := mapPut y.chains c (closeLeaf (s.chain c)) }) = t at *
  exact ⟨_, hexec, congrArg Chain.leaf hchain, congrArg Chain.nextLeaf hchain, congrArg Chain.value hchain, only_settled honly⟩

/-- GAP_RECORD_WRITE of a gap that has a place (R181). -/
theorem gapRecordWrite_writes {c : Nat} {g : Gap} (hc : c < 256) (hgap : mapFind s.tally.gaps c = some g) (hroom : s.burstRoom ≠ 0)
    (hon : s.bit Reg.TALLY_CTRL_ENABLE = true) : ∃ t, exec (.gapRecordWrite c) s = .next t ∧
      t.tally.burst = (if g.behind = 0 then s.tally.burst ++ [(c, gapBytes c g)]
        else insertAfter c (gapBytes c g) (s.tally.heldOf c - g.behind) s.tally.burst) ∧
      mapFind t.tally.gaps c = none ∧ s.only t [.tally] (keysOf []) := by
  have hexec : exec (.gapRecordWrite c) s = .next (s.gapWrite c).settle :=
    (onObject_ok hc _).trans (whenUp_running hrun fun s => s.gapWrite c)
  have heq : s.gapWrite c = s.modTally fun y => { y with
      gaps := mapDel y.gaps c
      burst := if g.behind = 0 then y.burst ++ [(c, gapBytes c g)]
        else insertAfter c (gapBytes c g) (y.heldOf c - g.behind) y.burst } := by
    unfold State.gapWrite
    rw [hgap]
    exact if_neg (by simp [hroom, hon])
  rw [heq] at hexec
  exact ⟨_, hexec, rfl, mapFind_del_self _ _, only_settled (keep_modTally _ (only_id s _ _) (by simp))⟩

/-- FRAME_DIGEST takes the first frame of the queue (R178). -/
theorem frameDigest_takes {p : Nat} (hp : p < 64) : ∃ t, exec (.frameDigest p) s = .next t ∧ t.digestQueue p = (s.digestQueue p).tail ∧
    s.only t [.tally] (keysOf []) :=
  ⟨_, (onObject_ok hp _).trans (whenUp_running hrun fun s => s.digestNext p), mapGet_mod_self s.tally.digests p [] List.tail,
    only_settled (keep_modTally _ (only_id s _ _) (by simp))⟩

end Commands

/-- Settles O25: what a chain engine takes is what `nextEntry` gives, and the chain grows by it (`took_open`, `took_closed`). -/
theorem chainsTakeRecordsInOrderAndCloseTheirLeaves : Obligations.ChainsTakeRecordsInOrderAndCloseTheirLeaves := by
  unfold Obligations.ChainsTakeRecordsInOrderAndCloseTheirLeaves
  intro s hrun
  refine ⟨fun c b rest hburst htake hroom htally hdram hgap => ?_, fun c b rest g hburst htake hroom htally hdram hgap hon hbehind => ?_,
    fun c hc hleaf hold => leafTimerClose_closes hrun hc hleaf hold,
    fun c g hc hgap hroom hon => gapRecordWrite_writes hrun hc hgap hroom hon, fun p hp => frameDigest_takes hrun hp⟩
  · have hnext : s.nextEntry c b rest = (b, rest, s.tally.gaps) := by rw [State.nextEntry, hgap]
    obtain ⟨t, hexec, hb, _, hring, hchain, hother, honly⟩ := chainTakeRecord_takes hrun hburst htake hroom htally hdram hnext
    obtain ⟨hseq, hcount⟩ := took_counts (s.chain c) (sequenced b (s.chain c).leaf.length (s.chain c).nextSeq (s.chain c).nextLeaf) s.cycle
    refine ⟨t, hexec, hb, hring, ?_, ?_, fun hlen => ?_, fun hlen => ?_, hother, honly⟩
    · rw [hchain]
      exact hseq
    · rw [hchain]
      exact hcount
    · rw [hchain]
      exact took_open _ _ hlen
    · rw [hchain, ← hlen]
      exact took_closed _ _ hlen
  · have hnext : s.nextEntry c b rest = (gapBytes c g, s.tally.burst, mapDel s.tally.gaps c) := by
      rw [State.nextEntry, hgap]
      exact if_pos (by simp [hon, hbehind])
    obtain ⟨t, hexec, hb, hgaps, hring, hchain, _, honly⟩ := chainTakeRecord_takes hrun hburst htake hroom htally hdram hnext
    refine ⟨t, hexec, hb, by rw [hgaps]; exact mapFind_del_self _ _, hring, ?_, honly⟩
    rw [hchain]
    exact (took_counts _ _ _).1

end Sys2Proof.Machine
end

section
/-! One pass of a frame (R219): the statement ranges over frames whose tag names no version. -/

-- One proof at a time: side by side they take more threads than the memory bound of the check leaves room for.
set_option Elab.async false

namespace Sys2Proof.Machine

/-- A frame in classification that holds tag 4; the versions have the tags 0 to 3. -/
def strayTagFrame : Frame := { newFrame 0 [] 0 0 0 0 with stage := .crossed, tag := 4 }

/-- Under the key of tag 4 the rule store lists rule 0, whose entry fails its parity check; nothing is staged. -/
def strayTag : State :=
  { State.reset with
    path := { State.reset.path with frames := [(0, strayTagFrame)] }
    rules := { State.reset.rules with sets := [(4, [(0, 0)])], entries := [(0, ⟨[], true, false⟩)] } }

/-- Tag 4 stands for the staged set, which has no rule 0, so the pass records no parity error. -/
theorem classifyPass_strayTag : outcomeTest (exec (.classifyPass 0) strayTag) (fun t => !t.bit Reg.PARSE_STATUS_PARITY) = true := by
  decide +kernel

/-- Refutes O29: a frame whose tag is 4 does not meet the parity error of a rule listed under tag 4, since an access with that number is
one to the staged set. The statement bounds neither the frame's tag nor what the rule store lists; a frame that a run forms has one of
the tags 0 to 3. -/
theorem not_onePassMatchesAgainstTheFramesVersion : ¬ Obligations.OnePassMatchesAgainstTheFramesVersion := by
  unfold Obligations.OnePassMatchesAgainstTheFramesVersion
  intro h
  obtain ⟨-, -, -, -, hparity⟩ := h strayTag 0 strayTagFrame (by decide) (by decide) (by decide) (by decide) _ rfl
  obtain ⟨t, hexec, hmet, -⟩ := hparity (0, 0) (by decide) (by decide) (by decide)
  have hclean := classifyPass_strayTag
  rw [outcomeTest_next hexec, hmet] at hclean
  exact absurd hclean (by decide)

end Sys2Proof.Machine
end

section
/-! The context commands (R291): the statement ranges over stores that list two contexts of one session out of order. -/

-- One proof at a time: side by side they take more threads than the memory bound of the check leaves room for.
set_option Elab.async false

namespace Sys2Proof.Machine

/-! ### Reads of DRAM past a standing error -/

/-- A clean read of bursts without a standing error gives them and leaves the store as it is. -/
theorem dramRead_passes {s : State} (hall : s.allServe) {b n : Nat} (h : ∀ k ∈ burstsFrom b n, mapGet s.dram.errs k .clean = .clean)
    (user : Nat) : (s.dramRead user b n cleanRead).1 = [] ∧ SameStore s (s.dramRead user b n cleanRead).2 := by
  have hsame := sameStore_readNoted s user b n
  have hserve : (s.readNoted user b n).pcFailed (pcOf (granuleOf b)) = false := (pcFailed_readNoted ..).trans (hall _)
  rw [← hsame.errs] at h
  rw [dramRead_eq, if_neg (by simp [hserve])]
  generalize s.readNoted user b n = u at *
  split
  · exact ⟨rfl, hsame⟩
  · have hclean : ∀ e ∈ ((burstsFrom b n).filter fun k => !(mapGet u.dram.writes (pcOf (granuleOf b)) []).any (·.1 == k)).map
        fun k => (k, u.burstEcc b cleanRead k), e.2 = .clean := by
      intro e he
      obtain ⟨k, hk, rfl⟩ := List.mem_map.mp he
      simp [State.burstEcc, h k (List.mem_filter.mp hk).1, cleanRead]
    rw [stackRead_eq]
    dsimp only
    refine ⟨List.map_eq_nil_iff.mpr (List.filter_eq_nil_iff.mpr fun e he => by simp [hclean e he]), ?_⟩
    rw [sameStore_burstReads _ _ hclean]
    exact hsame.trans (sameStore_stackReached u _ cleanRead)

/-- A clean read of a context whose third burst alone holds an error finds that burst poisoned. -/
theorem dramRead_third {s : State} (hall : s.allServe) {b : Nat} (herr : s.dram.errs = [(b + 2, .uncorrectable)]) (hw : s.dram.writes = [])
    (user : Nat) : (s.dramRead user b 4 cleanRead).1 = [b + 2] := by
  have hsame := sameStore_readNoted s user b 4
  have hserve : (s.readNoted user b 4).pcFailed (pcOf (granuleOf b)) = false := (pcFailed_readNoted ..).trans (hall _)
  have herrs := hsame.errs.trans herr
  have hwrites := hsame.writes.trans hw
  rw [dramRead_eq, if_neg (by simp [hserve])]
  generalize s.readNoted user b 4 = u at *
  have hstored : ((burstsFrom b 4).filter fun k => !(mapGet u.dram.writes (pcOf (granuleOf b)) []).any (·.1 == k)) = [b, b + 1, b + 2, b + 3] := by
    rw [hwrites]
    exact List.filter_eq_self.mpr fun _ _ => rfl
  have hecc (k : Nat) : u.burstEcc b cleanRead k = if k = b + 2 then .uncorrectable else .clean := by
    have hget : mapGet u.dram.errs k .clean = if k = b + 2 then .uncorrectable else .clean := by
      rw [herrs]
      by_cases hk : k = b + 2
      · simp [mapGet, mapFind, hk]
      · simp [mapGet, mapFind, hk, Ne.symm hk]
    rw [State.burstEcc, hget]
    simp [cleanRead]
  rw [hstored, stackRead_eq]
  simp [hecc]

/-! ### Two contexts of one session -/

/-- The key of a session: IPv4, with all its fields 0. -/
def zeroKey : List Byte := zeros 48

/-- The context that the session's first listed index holds. -/
def firstContext : Context := ⟨zeroKey, 0, 0, 0, 0, 0, 0, 0, 0, false, false⟩

/-- The context that the other index holds: it has counted 7 frames. -/
def otherContext : Context := { firstContext with frames := 7 }

/-- The store lists index 5 before index 3, both with contexts of the same session; the third burst of the first one holds an error. -/
def twinContexts : State :=
  { startedWith [(Fld.key Reg.SYS_FUNC_STATUS_STATE, 0), (Fld.key Reg.DRAM_CTRL_SERVICE, 1)] with
    flow := { State.reset.flow with contexts := [(5, firstContext), (3, otherContext)] }
    dram := { State.reset.dram with errs := [(placeBurst 5 + 2, .uncorrectable)] } }

/-- FLOW_READ of the session. -/
def readTwins : CmdIn := ⟨16, 0, 0, 0, 0, 0, zeroKey⟩

theorem twinContexts_accepts : twinContexts.accepts 0x32 readTwins :=
  ⟨by decide, by decide, by decide, by decide, _, rfl, by decide +kernel⟩

theorem twinContexts_serve : twinContexts.allServe := by
  intro pc
  have hlo : twinContexts.get Reg.DRAM_PC_FAILED_LO_FAILED = 0 := by decide +kernel
  have hhi : twinContexts.get Reg.DRAM_PC_FAILED_HI_FAILED = 0 := by decide +kernel
  rw [State.pcFailed, hlo, hhi]
  split <;> simp [bitOf]

/-- The tag words of the session's buckets do not lie where the error stands. -/
theorem tagBurst_clean (bucket : Nat) (h : bucket < 262144) :
    ∀ k ∈ burstsFrom (tagBurst bucket) 1, mapGet [(placeBurst 5 + 2, EccOutcome.uncorrectable)] k .clean = .clean := by
  intro k hk
  obtain ⟨i, hi, rfl⟩ := List.mem_map.mp hk
  have hne : placeBurst 5 + 2 ≠ tagBurst bucket + i := by
    have := List.mem_range.mp hi
    simp only [placeBurst, tagBurst]
    omega
  simp [mapGet, mapFind, hne]

/-- The fetch of the first context finds an error in its counts, and the contexts stand. -/
theorem fetch_twinContexts : (twinContexts.fetchContext 5 zeroKey cleanFetch).1 = .contextError ∧
    (twinContexts.fetchContext 5 zeroKey cleanFetch).2.flow = twinContexts.flow := by
  have hflow : (twinContexts.fetchContext 5 zeroKey cleanFetch).2.flow = twinContexts.flow :=
    (frame_fetchContext twinContexts 5 zeroKey cleanFetch).1 .flow (by simp)
  refine ⟨?_, hflow⟩
  have hb1 : (sessionBuckets zeroKey).1 < 262144 := Nat.mod_lt _ (by decide)
  have hb2 : (sessionBuckets zeroKey).2 < 262144 := Nat.mod_lt _ (by decide)
  unfold State.fetchContext State.readTags
  dsimp only [cleanFetch]
  generalize sessionBuckets zeroKey = b at *
  have herr0 : twinContexts.dram.errs = [(placeBurst 5 + 2, .uncorrectable)] := rfl
  obtain ⟨h1, hs1⟩ := dramRead_passes twinContexts_serve (b := tagBurst b.1) (n := 1) (by rw [herr0]; exact tagBurst_clean _ hb1) 1
  have hall1 : (twinContexts.dramRead 1 (tagBurst b.1) 1 cleanRead).2.allServe :=
    fun pc => (pcFailed_dramRead ..).trans (twinContexts_serve pc)
  generalize twinContexts.dramRead 1 (tagBurst b.1) 1 cleanRead = r1 at *
  have herr1 := hs1.errs.trans herr0
  obtain ⟨h2, hs2⟩ := dramRead_passes hall1 (b := tagBurst b.2) (n := 1) (by rw [herr1]; exact tagBurst_clean _ hb2) 1
  have hall2 : (r1.2.dramRead 1 (tagBurst b.2) 1 cleanRead).2.allServe := fun pc => (pcFailed_dramRead ..).trans (hall1 pc)
  generalize r1.2.dramRead 1 (tagBurst b.2) 1 cleanRead = r2 at *
  have h3 := dramRead_third hall2 (hs2.errs.trans herr1) ((hs1.trans hs2).writes.trans rfl) 1
  simp [State.readPlace, h1, h2, h3]

/-- Index 5 is written as poisoned behind index 3, which now comes first. -/
theorem reach_twinContexts : (twinContexts.reachContext zeroKey).contextOf zeroKey = some (3, otherContext) := by
  have hof : twinContexts.contextOf zeroKey = some (5, firstContext) := by decide +kernel
  obtain ⟨herr, hflow⟩ := fetch_twinContexts
  have hcached : twinContexts.cached 5 = false := rfl
  unfold State.reachContext
  rw [hof]
  dsimp only
  rw [if_neg (by simp [hcached])]
  generalize twinContexts.fetchContext 5 zeroKey cleanFetch = r at *
  rw [herr]
  have hfind : mapFind r.2.flow.contexts 5 = some firstContext := by rw [hflow]; rfl
  have hstore (u : State) (i : Nat) : (u.storeContext i).flow.contexts = u.flow.contexts := by
    unfold State.storeContext
    split
    · rfl
    · exact congrArg FlowSt.contexts ((frame_dramWrite ..).1 .flow (by simp))
  show (r.2.poisonContext 5).contextOf zeroKey = _
  unfold State.poisonContext
  rw [hfind]
  dsimp only
  rw [State.contextOf, hstore]
  show (mapPut r.2.flow.contexts 5 _).find? _ = _
  rw [hflow]
  decide +kernel

/-- Refutes O39: a FLOW_READ that poisons the context it reaches at index 5 answers the one at index 3, where the store lists two contexts
of the session with the higher index first: the poisoned context is stored again in the order of the indices. The statement asks neither
that the store be in order nor that a session have one context; both hold in every run. -/
theorem not_contextCommandsKeepTheSessions : ¬ Obligations.ContextCommandsKeepTheSessions := by
  unfold Obligations.ContextCommandsKeepTheSessions
  intro h
  obtain ⟨-, -, -, -, -, hread⟩ := h twinContexts readTwins _ _ twinContexts_serve rfl rfl
  obtain ⟨t, hexec, ⟨-, hout⟩, -, -⟩ := hread twinContexts_accepts (by decide) 5 firstContext (by decide +kernel) rfl rfl rfl rfl
  have hcore : coreFlowRead readTwins twinContexts = (contextResult 3 otherContext, twinContexts.reachContext zeroKey) := by
    have hinput : readTwins.input = zeroKey := rfl
    rw [coreFlowRead, if_neg (by decide), hinput]
    dsimp only
    rw [reach_twinContexts]
  have hexec' : exec (.flowRead readTwins) twinContexts = onRing readTwins (runCmd 0x32 coreFlowRead readTwins twinContexts) := rfl
  rw [hexec', runCmd_accepted twinContexts_accepts (by decide), hcore] at hexec
  cases hexec
  obtain ⟨-, -, hdone⟩ := complete_spec (twinContexts.reachContext zeroKey) 0x32 readTwins (contextResult 3 otherContext)
  rw [show State.settle _ = _ from rfl] at hout
  exact absurd (hdone.symm.trans hout) (by decide +kernel)

end Sys2Proof.Machine
end

section
/-! A handshake of an allocator (R310): the statement ranges over frame stores that list a frame number twice. -/

-- One proof at a time: side by side they take more threads than the memory bound of the check leaves room for.
set_option Elab.async false

namespace Sys2Proof.Machine

/-- A frame of 64 bytes of a port that has its lookups behind it and holds no bead. -/
def waitingFrame (port cls : Nat) : Frame :=
  { newFrame port (zeros 64) 0 0 0 64 with stage := .forwarded, mark := { mark0 with cls := cls } }

/-- Frame number 0 stands for a frame of port 9 in a class of pool 2 and, behind it, for one of port 3 in a class of pool 1. -/
def doubledFrame : State :=
  { startedWith [(Fld.key (Reg.BUF_CLASS_CFG_POOL 5), 1), (Fld.key (Reg.BUF_CLASS_CFG_POOL 6), 2)] with
    path := { State.reset.path with frames := [(0, waitingFrame 9 6), (0, waitingFrame 3 5)] } }

/-- The handshake of pool 1 for port 3 admits frame 0, which turns out to be the one of pool 2: the start position of pool 2 moves. -/
theorem allocatorHandshake_doubledFrame : outcomeTest (exec (.allocatorHandshake 1 [⟨0, 3⟩] []) doubledFrame)
    (fun t => mapGet t.buf.starts 2 0 == 1) = true := by
  decide +kernel

/-- Refutes O40: a handshake of pool 1 moves the start position of pool 2 where the frame store lists one number twice: the request of a
port is found at the second listing, but the number then names the first. In a run every number is listed once. -/
theorem not_beadsAreGrantedFreedAndWithdrawn : ¬ Obligations.BeadsAreGrantedFreedAndWithdrawn := by
  unfold Obligations.BeadsAreGrantedFreedAndWithdrawn
  intro h
  obtain ⟨hshake, -⟩ := h doubledFrame (by decide)
  obtain ⟨t, hexec, -, -, hothers, -⟩ := hshake 1 [⟨0, 3⟩] [] (by decide) (by decide) (by decide)
  have hmoved := allocatorHandshake_doubledFrame
  rw [outcomeTest_next hexec, hothers 2 (by decide)] at hmoved
  exact absurd hmoved (by decide +kernel)

end Sys2Proof.Machine
end

section
/-! Rule staging and commits (R211, R212, R219, R224, R225, R228 to R230), and the commands that a routine carries. -/

-- One proof at a time: side by side they take more threads than the memory bound of the check leaves room for.
set_option Elab.async false

namespace Sys2Proof.Machine

/-! ### Commands that a routine carries -/

section Long

variable {s : State} {i : Instr} {op : Nat} {c : CmdIn} {core : CmdIn → State → CmdRes × State} {atOnce : CmdIn → State → Bool}
  {k : RoutineKind} (hi : exec i s = onRing c (runLong op atOnce core c s)) (hk : ∀ o, opInfo op = some o → o.routine = some k)
include hi hk

/-- A command that may act has its effect, ends its routine and completes. -/
theorem ends_of_mayAct (hrun : s.running = true) (hlo : 16 ≤ c.ring) (hhi : c.ring < 32) {o : OpInfo} (ho : opInfo op = some o)
    (hgate : s.cmdGate op o c = none) (hact : s.mayAct op o c (atOnce c s) = true) {u : State} {r : CmdRes} (hcore : core c s = (r, u))
    {parts : List Part} {moved : Keys} {effect : State → Prop} (hu : s.only u parts moved) (hreck : .reck ∈ parts)
    (hq : u.get (Reg.RING_CFG_CQ c.ring) = s.get (Reg.RING_CFG_CQ c.ring))
    (he : ∀ t, (u.endOwn k c).only t [.host, .events] (completionKeys s c) → effect t) : s.ends i op c r parts moved effect := by
  have hexec : exec i s = .next ((u.endOwn k c).complete op c r).settle := by
    rw [hi, onRing_ok hlo hhi, runLong_accepted _ _ hrun ho hgate hact, State.carryOut, hcore]
    simp only [hk o ho]
  refine ends_of_acts hexec (only_then hu ?_) hq he
  exact only_mono (frame_endOwn u k c) (by simpa using hreck) fun x ⟨_, _, _, _, _, hn, _⟩ => absurd hn (by simp)

/-- The same of a command whose routine has an engine, or takes one now. -/
theorem ends_of_long (h : s.acceptsLong op c) {u : State} {r : CmdRes} (hcore : core c s = (r, u)) {parts : List Part} {moved : Keys}
    {effect : State → Prop} (hu : s.only u parts moved) (hreck : .reck ∈ parts)
    (hq : u.get (Reg.RING_CFG_CQ c.ring) = s.get (Reg.RING_CFG_CQ c.ring))
    (he : ∀ t, (u.endOwn k c).only t [.host, .events] (completionKeys s c) → effect t) : s.ends i op c r parts moved effect := by
  obtain ⟨hrun, hlo, hhi, o, ho, hgate, hact⟩ := h
  refine ends_of_mayAct hi hk hrun hlo hhi ho hgate ?_ hcore hu hreck hq he
  obtain ⟨hturn, hcarried⟩ := Bool.and_eq_true_iff.mp hact
  rw [Bool.false_or] at hcarried
  simp [State.mayAct, hturn, hcarried]

/-- The same of a command that ends without its routine. -/
theorem ends_at_once (h : s.accepts op c) (honce : atOnce c s = true) {u : State} {r : CmdRes} (hcore : core c s = (r, u))
    {parts : List Part} {moved : Keys} {effect : State → Prop} (hu : s.only u parts moved) (hreck : .reck ∈ parts)
    (hq : u.get (Reg.RING_CFG_CQ c.ring) = s.get (Reg.RING_CFG_CQ c.ring))
    (he : ∀ t, (u.endOwn k c).only t [.host, .events] (completionKeys s c) → effect t) : s.ends i op c r parts moved effect := by
  obtain ⟨hrun, hlo, hhi, hturn, o, ho, hgate⟩ := h
  refine ends_of_mayAct hi hk hrun hlo hhi ho hgate ?_ hcore hu hreck hq he
  simp [State.mayAct, hturn, honce]

end Long

/-! ### The staged set -/

/-- One staged change of a set of rules. -/
def applyChange (m : SMap Nat) (c : Nat × Option Nat) : SMap Nat := match c.2 with | some e => mapPut m c.1 e | none => mapDel m c.1

theorem stagedSet_eq (s : State) : s.stagedSet = s.rules.changes.foldl applyChange (s.ruleSet s.currentTag) := rfl

theorem mapFind_applyChange (m : SMap Nat) (c : Nat × Option Nat) (k : Nat) :
    mapFind (applyChange m c) k = if c.1 = k then c.2 else mapFind m k := by
  obtain ⟨j, v⟩ := c
  cases v with
  | none =>
    rw [applyChange, mapFind_del_if]
    simp only [eq_comm]
  | some e =>
    rw [applyChange, mapFind_put_if]
    simp only [eq_comm]

/-- What the changes make of a number depends on its own changes alone. -/
theorem mapFind_applyChanges (k : Nat) (l : List (Nat × Option Nat)) : ∀ m m' : SMap Nat, mapFind m k = mapFind m' k →
    mapFind (l.foldl applyChange m) k = mapFind ((l.filter (·.1 == k)).foldl applyChange m') k := by
  induction l with
  | nil => exact fun _ _ h => h
  | cons c l ih =>
    intro m m' h
    by_cases hc : c.1 = k
    · rw [List.filter_cons_of_pos (by simpa using hc)]
      exact ih _ _ (by rw [mapFind_applyChange, mapFind_applyChange, if_pos hc, if_pos hc])
    · rw [List.filter_cons_of_neg (by simpa using hc)]
      exact ih _ _ (by rw [mapFind_applyChange, if_neg hc, h])

section Changes

variable {α : Type} (m : SMap α) (j : Nat)

theorem filter_mapDel_ne {k : Nat} (h : k ≠ j) : (mapDel m j).filter (·.1 == k) = m.filter (·.1 == k) := by
  rw [mapDel, List.filter_filter]
  refine List.filter_congr fun e _ => ?_
  by_cases he : e.1 = k
  · simp [he, h]
  · simp [he]

theorem filter_mapDel_self : (mapDel m j).filter (·.1 == j) = [] := by
  rw [mapDel, List.filter_filter]
  exact List.filter_eq_nil_iff.mpr fun e _ => by simp

theorem filter_mapPut_ne (v : α) {k : Nat} (h : k ≠ j) : (mapPut m j v).filter (·.1 == k) = m.filter (·.1 == k) := by
  rw [mapPut, filter_mapIns_not _ _ _ _ (by simpa using h.symm), filter_mapDel_ne _ _ h]

theorem filter_mapIns_self (v : α) (h : m.filter (·.1 == j) = []) : (mapIns m j v).filter (·.1 == j) = [(j, v)] := by
  induction m with
  | nil => simp [mapIns]
  | cons e m ih =>
    obtain ⟨k', v'⟩ := e
    rw [List.filter_cons] at h
    split at h
    · cases h
    next hk =>
      rw [mapIns]
      split
      · simp only [List.filter_cons, beq_self_eq_true, if_true, hk, h]
        rfl
      · rw [List.filter_cons, if_neg hk, ih h]

theorem filter_mapPut_self (v : α) : (mapPut m j v).filter (·.1 == j) = [(j, v)] := filter_mapIns_self _ _ _ (filter_mapDel_self m j)

end Changes

/-- The staged set is that of the changes and of the CURRENT version. -/
theorem stagedSet_congr {s t : State} (hr : t.rules.sets = s.rules.sets) (hch : t.rules.changes = s.rules.changes)
    (hc : t.currentTag = s.currentTag) : t.stagedSet = s.stagedSet := by
  rw [stagedSet_eq, stagedSet_eq, hch, hc, State.ruleSet, State.ruleSet, hr]

theorem currentTag_of_only {s t : State} {P : List Part} {L : List String} (h : s.only t P (regsOf L)) (hn : "RULE_STATUS" ∉ L) :
    t.currentTag = s.currentTag := kept_of_only h 8 0 0 (List.mem_of_getElem? (i := 0) rfl) (a := .ro) (by simp) hn

section Staged

variable {s t : State} {num : Nat} (hsets : t.rules.sets = s.rules.sets) (hc : t.currentTag = s.currentTag)
include hsets hc

/-- A change of one number leaves the others of the staged set. -/
theorem mapFind_stagedSet_ne (hch : ∀ m, m ≠ num → t.rules.changes.filter (·.1 == m) = s.rules.changes.filter (·.1 == m)) {m : Nat}
    (hm : m ≠ num) : mapFind t.stagedSet m = mapFind s.stagedSet m := by
  have hset : t.ruleSet t.currentTag = s.ruleSet s.currentTag := by rw [hc, State.ruleSet, State.ruleSet, hsets]
  rw [stagedSet_eq, stagedSet_eq, hset, mapFind_applyChanges m _ _ _ rfl, mapFind_applyChanges m s.rules.changes _ _ rfl, hch m hm]

omit hsets hc in
/-- The one change of a number decides. -/
theorem mapFind_stagedSet_self {v : Option Nat} (hch : t.rules.changes.filter (·.1 == num) = [(num, v)]) :
    mapFind t.stagedSet num = v := by
  rw [stagedSet_eq, mapFind_applyChanges num _ _ _ rfl, hch, List.foldl_cons, List.foldl_nil, mapFind_applyChange, if_pos rfl]

/-- A number without a change is that of the CURRENT version. -/
theorem mapFind_stagedSet_none (hch : t.rules.changes.filter (·.1 == num) = []) :
    mapFind t.stagedSet num = mapFind (s.ruleSet s.currentTag) num := by
  have hset : t.ruleSet t.currentTag = s.ruleSet s.currentTag := by rw [hc, State.ruleSet, State.ruleSet, hsets]
  rw [stagedSet_eq, mapFind_applyChanges num _ _ _ rfl, hch, hset, List.foldl_nil]

end Staged

/-! ### The rule store -/

/-- A sweep keeps the sets, the changes and the comparators. -/
theorem rules_sweepEntries (s : State) : s.sweepEntries.rules =
    { s.rules with entries := s.rules.entries.filter fun x => s.heldEntries.contains x.1 } := rfl

/-- A sweep keeps what a staged change holds. -/
theorem ruleEntry_sweepEntries {s : State} {e : Nat} (h : e ∈ s.heldEntries) : s.sweepEntries.ruleEntry e = s.ruleEntry e := by
  have hfind (m : SMap RuleEntry) : mapFind (m.filter fun x => s.heldEntries.contains x.1) e = mapFind m e := by
    induction m with
    | nil => rfl
    | cons x m ih =>
      obtain ⟨k, v⟩ := x
      by_cases hk : k = e
      · rw [List.filter_cons, if_pos (by simpa [hk] using h)]
        simp [mapFind, hk]
      · rw [List.filter_cons]
        split
        · simp only [mapFind, if_neg hk]
          exact ih
        · simp only [mapFind, if_neg hk]
          exact ih
  rw [State.ruleEntry, State.ruleEntry, rules_sweepEntries, mapGet, mapGet]
  dsimp only
  rw [hfind]

theorem mem_heldEntries {s : State} {num e : Nat} (h : s.rules.changes.filter (·.1 == num) = [(num, some e)]) : e ∈ s.heldEntries := by
  have hmem : (num, some e) ∈ s.rules.changes := List.mem_of_mem_filter (h ▸ List.mem_singleton.mpr rfl)
  exact List.mem_append_right _ (List.mem_filterMap.mpr ⟨_, hmem, rfl⟩)

/-- The state whose staged changes are `ch`. -/
def State.withChanges (s : State) (ch : SMap (Option Nat)) : State := { s with rules := { s.rules with changes := ch } }

/-- The state in which the rule entry `b` stands under the free entry number as the change of `num`. -/
def State.withEntry (s : State) (num : Nat) (b : List Byte) : State :=
  { s with rules := { s.rules with
    entries := mapPut s.rules.entries (freshKey s.rules.entries 0) ⟨b, false, false⟩
    changes := mapPut s.rules.changes num (some (freshKey s.rules.entries 0)) } }

end Sys2Proof.Machine
end

section
/-! The rule commands (R211, R212, R219, R224, R225, R228 to R230, R436). -/

-- One proof at a time: side by side they take more threads than the memory bound of the check leaves room for.
set_option Elab.async false

namespace Sys2Proof.Machine

/-- What a completion leaves of the rules. -/
theorem rules_of_completion {s u t : State} {c : CmdIn} (h : u.only t [.host, .events] (completionKeys s c)) :
    t.rules = u.rules ∧ t.currentTag = u.currentTag ∧ t.stagedSet = u.stagedSet := by
  have hr : t.rules = u.rules := h.1 .rules (by simp)
  have hc : t.currentTag = u.currentTag := h.2 _ (not_completionKeys s c (by decide) (by decide))
  exact ⟨hr, hc, stagedSet_congr (congrArg RulesSt.sets hr) (congrArg RulesSt.changes hr) hc⟩

section Stage

variable {s : State} {c : CmdIn}

/-! ### RULE_STAGE and RULE_DISCARD -/

/-- A staged removal (R212, R224). -/
theorem ruleStage_removes (ha : s.accepts 0x10 c) (hok : s.ruleOk c.input = true) (hkind : leAt c.input 3 1 = 0) :
    s.ends (.ruleStage c) 0x10 c CmdRes.ok [.rules] (regsOf ["RULE_STORE_USED", "RULE_STAGE_STATUS"]) fun t =>
      mapFind t.stagedSet (ruleNum c.input) = none ∧
      (∀ m, m ≠ ruleNum c.input → mapFind t.stagedSet m = mapFind s.stagedSet m) ∧ t.rules.sets = s.rules.sets := by
  have hmoved := frame_coreRuleStage c s
  obtain ⟨ch, hcore, hself, hother⟩ : ∃ ch : SMap (Option Nat), coreRuleStage c s = (CmdRes.ok, (s.withChanges ch).sweepEntries) ∧
      (ch.filter (·.1 == ruleNum c.input) = [(ruleNum c.input, none)] ∨
        ch.filter (·.1 == ruleNum c.input) = [] ∧ mapFind (s.ruleSet s.currentTag) (ruleNum c.input) = none) ∧
      ∀ m, m ≠ ruleNum c.input → ch.filter (·.1 == m) = s.rules.changes.filter (·.1 == m) := by
    unfold coreRuleStage
    dsimp only
    rw [if_neg (by simp [hok]), if_pos hkind]
    split
    · exact ⟨_, rfl, .inl (filter_mapPut_self _ _ _), fun m hm => filter_mapPut_ne _ _ _ hm⟩
    next hcur => exact ⟨_, rfl, .inr ⟨filter_mapDel_self _ _, hcur⟩, fun m hm => filter_mapDel_ne _ _ hm⟩
  rw [hcore] at hmoved
  dsimp only at hmoved
  have hsets : (s.withChanges ch).sweepEntries.rules.sets = s.rules.sets := rfl
  have hchanges : (s.withChanges ch).sweepEntries.rules.changes = ch := rfl
  generalize (s.withChanges ch).sweepEntries = u at *
  have htag := currentTag_of_only hmoved (by simp)
  subst hchanges
  refine ends_of_core rfl ha (by decide) hcore hmoved (cq_of_only hmoved (by simp) _) fun t ht => ?_
  obtain ⟨hr, -, hst⟩ := rules_of_completion ht
  rw [hst, hr]
  refine ⟨?_, fun m hm => mapFind_stagedSet_ne hsets htag hother hm, hsets⟩
  obtain h | ⟨h, hcur⟩ := hself
  · exact mapFind_stagedSet_self h
  · exact (mapFind_stagedSet_none hsets htag h).trans hcur

/-- A staged rule (R212, R224, R225). -/
theorem ruleStage_stages (ha : s.accepts 0x10 c) (hok : s.ruleOk c.input = true) (hkind : leAt c.input 3 1 = 1)
    (hroom : s.rules.entries.length < 65536) :
    s.ends (.ruleStage c) 0x10 c CmdRes.ok [.rules] (regsOf ["RULE_STORE_USED", "RULE_STAGE_STATUS"]) fun t =>
      (∃ e, mapFind t.stagedSet (ruleNum c.input) = some e ∧ t.ruleEntry e = ⟨c.input, false, false⟩) ∧
      (∀ m, m ≠ ruleNum c.input → mapFind t.stagedSet m = mapFind s.stagedSet m) ∧ t.rules.sets = s.rules.sets := by
  have hmoved := frame_coreRuleStage c s
  have hfreed : (s.withChanges (mapDel s.rules.changes (ruleNum c.input))).sweepEntries.rules.entries.length < 65536 :=
    Nat.lt_of_le_of_lt (List.length_filter_le _ _) hroom
  have hsets : (s.withChanges (mapDel s.rules.changes (ruleNum c.input))).sweepEntries.rules.sets = s.rules.sets := rfl
  have hchanges : (s.withChanges (mapDel s.rules.changes (ruleNum c.input))).sweepEntries.rules.changes =
    mapDel s.rules.changes (ruleNum c.input) := rfl
  have hcore : coreRuleStage c s = (CmdRes.ok,
      ((s.withChanges (mapDel s.rules.changes (ruleNum c.input))).sweepEntries.withEntry (ruleNum c.input) c.input).sweepEntries) := by
    unfold coreRuleStage
    dsimp only
    rw [if_neg (by simp [hok]), if_neg (by omega)]
    exact if_neg (Nat.not_le.mpr hfreed)
  rw [hcore] at hmoved
  dsimp only at hmoved
  generalize (s.withChanges (mapDel s.rules.changes (ruleNum c.input))).sweepEntries = f at *
  have hself : (f.withEntry (ruleNum c.input) c.input).rules.changes.filter (·.1 == ruleNum c.input) =
      [(ruleNum c.input, some (freshKey f.rules.entries 0))] := filter_mapPut_self _ _ _
  have hother (m : Nat) (hm : m ≠ ruleNum c.input) :
      (f.withEntry (ruleNum c.input) c.input).rules.changes.filter (·.1 == m) = s.rules.changes.filter (·.1 == m) := by
    show (mapPut f.rules.changes _ _).filter _ = _
    rw [filter_mapPut_ne _ _ _ hm, hchanges, filter_mapDel_ne _ _ hm]
  have hentry : (f.withEntry (ruleNum c.input) c.input).sweepEntries.ruleEntry (freshKey f.rules.entries 0) = ⟨c.input, false, false⟩ :=
    (ruleEntry_sweepEntries (mem_heldEntries hself)).trans (mapGet_put_self ..)
  have hchanges' : (f.withEntry (ruleNum c.input) c.input).sweepEntries.rules.changes = (f.withEntry (ruleNum c.input) c.input).rules.changes := rfl
  have hsets' : (f.withEntry (ruleNum c.input) c.input).sweepEntries.rules.sets = s.rules.sets := hsets
  rw [← hchanges'] at hself
  simp only [← hchanges'] at hother
  generalize (f.withEntry (ruleNum c.input) c.input).sweepEntries = u at *
  have htag := currentTag_of_only hmoved (by simp)
  refine ends_of_core rfl ha (by decide) hcore hmoved (cq_of_only hmoved (by simp) _) fun t ht => ?_
  obtain ⟨hr, -, hst⟩ := rules_of_completion ht
  have hent : t.ruleEntry (freshKey f.rules.entries 0) = u.ruleEntry (freshKey f.rules.entries 0) := by
    rw [State.ruleEntry, hr, State.ruleEntry]
  rw [hst]
  exact ⟨⟨_, mapFind_stagedSet_self hself, hent.trans hentry⟩, fun m hm => mapFind_stagedSet_ne hsets' htag hother hm,
    (congrArg RulesSt.sets hr).trans hsets'⟩

/-- RULE_DISCARD (R224). -/
theorem ruleDiscard_discards (ha : s.accepts 0x11 c) :
    s.ends (.ruleDiscard c) 0x11 c CmdRes.ok [.rules] (regsOf ["RULE_STORE_USED", "RULE_STAGE_STATUS"]) fun t =>
      t.stagedSet = s.ruleSet s.currentTag ∧ t.rules.sets = s.rules.sets ∧ t.get Reg.RULE_STAGE_STATUS_CHANGES = 0 := by
  have hcore : coreRuleDiscard c s = (CmdRes.ok, (s.withChanges []).sweepEntries) := rfl
  have hmoved : s.only (s.withChanges []).sweepEntries [.rules] (regsOf ["RULE_STORE_USED", "RULE_STAGE_STATUS"]) := frame_coreRuleDiscard c s
  have hsets : (s.withChanges []).sweepEntries.rules.sets = s.rules.sets := rfl
  have hchanges : (s.withChanges []).sweepEntries.rules.changes = [] := rfl
  have hshown : (s.withChanges []).sweepEntries.get Reg.RULE_STAGE_STATUS_CHANGES = 0 := get_set_self _ _ _
  generalize (s.withChanges []).sweepEntries = u at *
  have htag := currentTag_of_only hmoved (by simp)
  refine ends_of_core rfl ha (by decide) hcore hmoved (cq_of_only hmoved (by simp) _) fun t ht => ?_
  obtain ⟨hr, -, hst⟩ := rules_of_completion ht
  refine ⟨?_, (congrArg RulesSt.sets hr).trans hsets, (ht.2 _ (not_completionKeys s c (by decide) (by decide))).trans hshown⟩
  rw [hst, stagedSet_eq, hchanges, htag, State.ruleSet, State.ruleSet, hsets]
  rfl

/-! ### RULE_COMMIT -/

theorem ruleCommit_routine : ∀ o, opInfo 0x12 = some o → o.routine = some .ruleCommit := by decide

/-- A commit that ends at once leaves the rules as they are (R228, R229). -/
theorem ruleCommit_atOnce (ha : s.accepts 0x12 c) (hnone : s.chosenTag c = none) {r : CmdRes} (hr : s.commitStart = .inl r) :
    s.ends (.ruleCommit c) 0x12 c r [.reck] (keysOf []) fun t => t.rules = s.rules := by
  have hcore : coreRuleCommit c s = (r, s) := by
    unfold coreRuleCommit
    rw [hnone]
    dsimp only
    rw [hr]
  have honce : commitAtOnce c s = true := by simp [commitAtOnce, hnone, hr]
  exact ends_at_once rfl ruleCommit_routine ha honce hcore (only_id s _ _) (by simp) rfl fun t ht => ht.1 .rules (by simp)

end Stage

section Switch

variable {s : State} {k : Nat}

/-- The keys of two tags' fields differ. -/
theorem verState_key_ne {i j : Nat} (hi : i < 4) (hj : j < 4) (h : i ≠ j) :
    Fld.key (Reg.RULE_VER_STATE_STATE i) ≠ Fld.key (Reg.RULE_VER_STATE_STATE j) := by
  simp only [Fld.key, Reg.RULE_VER_STATE_STATE]
  omega

/-- The state in which tag `k` takes the staged set and the tag before it drains (R230). -/
def State.switched (s : State) (k : Nat) : State :=
  { s with rules := { s.rules with
      sets := mapPut s.rules.sets k s.stagedSet, changes := [], drainFrom := mapPut s.rules.drainFrom s.currentTag s.cycle } }

theorem commitSwitch_eq (s : State) (k : Nat) : s.commitSwitch k =
    ((((((s.mirrorCommit.switched k).set (Reg.RULE_VER_STATE_STATE s.mirrorCommit.currentTag) 2).set (Reg.RULE_VER_STATE_STATE k) 1).set
      (Reg.RULE_VER_NUM_NUM k) (s.mirrorCommit.get (Reg.RULE_VER_NUM_NUM s.mirrorCommit.currentTag) + 1)).set Reg.RULE_STATUS_CURRENT k)).sweepEntries :=
  rfl

/-- What the switch of a commit leaves (R230). -/
theorem commitSwitch_spec (hk : k < 4) (hne : k ≠ s.currentTag) (hcur : s.currentTag < 4)
    (hnum : s.get (Reg.RULE_VER_NUM_NUM s.currentTag) + 1 < 2 ^ 32) :
    (s.commitSwitch k).currentTag = k ∧ (s.commitSwitch k).tagState k = 1 ∧ (s.commitSwitch k).tagState s.currentTag = 2 ∧
    (s.commitSwitch k).rules.sets = mapPut s.rules.sets k s.stagedSet ∧ (s.commitSwitch k).rules.changes = [] ∧
    (s.commitSwitch k).get (Reg.RULE_VER_NUM_NUM k) = s.get (Reg.RULE_VER_NUM_NUM s.currentTag) + 1 := by
  have hmirror := frame_mirrorCommit s
  have hrules : s.mirrorCommit.rules = s.rules := hmirror.1 .rules (by simp)
  have htag : s.mirrorCommit.currentTag = s.currentTag := currentTag_of_only hmirror (by simp)
  have hstaged : s.mirrorCommit.stagedSet = s.stagedSet :=
    stagedSet_congr (congrArg RulesSt.sets hrules) (congrArg RulesSt.changes hrules) htag
  have hold : s.mirrorCommit.get (Reg.RULE_VER_NUM_NUM s.currentTag) = s.get (Reg.RULE_VER_NUM_NUM s.currentTag) :=
    kept_of_only hmirror 8 s.currentTag 0 (List.mem_of_getElem? (i := 2) rfl) (a := .ro) (by simp) (by simp)
  rw [commitSwitch_eq, htag, hold]
  have hsets : (s.mirrorCommit.switched k).rules.sets = mapPut s.rules.sets k s.stagedSet := by
    show mapPut s.mirrorCommit.rules.sets k s.mirrorCommit.stagedSet = _
    rw [hrules, hstaged]
  have hchanges : (s.mirrorCommit.switched k).rules.changes = [] := rfl
  generalize s.mirrorCommit.switched k = v at *
  generalize hw : (((v.set (Reg.RULE_VER_STATE_STATE s.currentTag) 2).set (Reg.RULE_VER_STATE_STATE k) 1).set
      (Reg.RULE_VER_NUM_NUM k) (s.get (Reg.RULE_VER_NUM_NUM s.currentTag) + 1)).set Reg.RULE_STATUS_CURRENT k = w
  have hwrules : w.rules = v.rules := by rw [← hw]; rfl
  have hsweep := frame_sweepEntries w
  have hstate (i : Nat) : w.sweepEntries.tagState i = w.tagState i :=
    kept_of_only hsweep 8 i 0 (List.mem_of_getElem? (i := 1) rfl) (a := .ro) (f := Reg.RULE_VER_STATE_STATE i) (by simp) (by simp)
  have hnumber : w.sweepEntries.get (Reg.RULE_VER_NUM_NUM k) = w.get (Reg.RULE_VER_NUM_NUM k) :=
    kept_of_only hsweep 8 k 0 (List.mem_of_getElem? (i := 2) rfl) (a := .ro) (by simp) (by simp)
  have hcurrent : Fld.key (Reg.RULE_VER_NUM_NUM k) ≠ Fld.key Reg.RULE_STATUS_CURRENT ∧
      Fld.key (Reg.RULE_VER_STATE_STATE k) ≠ Fld.key Reg.RULE_STATUS_CURRENT ∧
      Fld.key (Reg.RULE_VER_STATE_STATE s.currentTag) ≠ Fld.key Reg.RULE_STATUS_CURRENT ∧
      Fld.key (Reg.RULE_VER_STATE_STATE k) ≠ Fld.key (Reg.RULE_VER_NUM_NUM k) ∧
      Fld.key (Reg.RULE_VER_STATE_STATE s.currentTag) ≠ Fld.key (Reg.RULE_VER_NUM_NUM k) := by
    simp only [Fld.key, Reg.RULE_VER_NUM_NUM, Reg.RULE_VER_STATE_STATE, Reg.RULE_STATUS_CURRENT]
    omega
  obtain ⟨k1, k2, k3, k4, k5⟩ := hcurrent
  refine ⟨?_, ?_, ?_, ?_, ?_, ?_⟩
  · rw [currentTag_of_only hsweep (by simp), ← hw, State.currentTag, get_set_self]
    exact Nat.mod_eq_of_lt hk
  · rw [hstate, ← hw, State.tagState, get_set_ne _ _ k2.symm, get_set_ne _ _ k4.symm, get_set_self]
    rfl
  · rw [hstate, ← hw, State.tagState, get_set_ne _ _ k3.symm, get_set_ne _ _ k5.symm, get_set_ne _ _ (verState_key_ne hk hcur hne), get_set_self]
    rfl
  · show w.rules.sets = _
    rw [hwrules, hsets]
  · show w.rules.changes = _
    rw [hwrules, hchanges]
  · rw [hnumber, ← hw, get_set_ne _ _ k1.symm, get_set_self]
    exact Nat.mod_eq_of_lt hnum

end Switch

end Sys2Proof.Machine
end

section
/-! A commit that takes a tag, RULE_READ and RULE_RANGE_SET (R211, R219, R224, R230). -/

-- One proof at a time: side by side they take more threads than the memory bound of the check leaves room for.
set_option Elab.async false

namespace Sys2Proof.Machine

variable {s : State} {c : CmdIn}

/-- A commit takes the tag that its routine has chosen, or else the lowest FREE one, and switches to it. -/
theorem coreRuleCommit_switch {k : Nat}
    (h : s.chosenTag c = some k ∨ (s.chosenTag c = none ∧ s.rules.changes ≠ [] ∧ s.freeTag = some k)) :
    coreRuleCommit c s = ((s.commitSwitch k).commitResult, s.commitSwitch k) := by
  unfold coreRuleCommit
  obtain h | ⟨h, hch, hfree⟩ := h
  · rw [h]
  · have hstart : s.commitStart = .inr k := by
      rw [State.commitStart, if_neg (by simpa using hch), hfree]
    rw [h]
    dsimp only
    rw [hstart]

/-- The sets of the other tags stay, and the new one has the staged set. -/
theorem ruleSet_of_sets {t : State} {k : Nat} (h : t.rules.sets = mapPut s.rules.sets k s.stagedSet) :
    t.ruleSet k = s.stagedSet ∧ ∀ j, j ≠ k → t.ruleSet j = s.ruleSet j := by
  refine ⟨?_, fun j hj => ?_⟩
  · rw [State.ruleSet, h, mapGet_put_self]
  · rw [State.ruleSet, State.ruleSet, h, mapGet_put_ne _ _ _ hj.symm]

/-- RULE_COMMIT switches to its tag (R230). -/
theorem ruleCommit_switches (ha : s.acceptsLong 0x12 c) {k : Nat}
    (h : s.chosenTag c = some k ∨ (s.chosenTag c = none ∧ s.rules.changes ≠ [] ∧ s.freeTag = some k)) (hk : k < 4)
    (hne : k ≠ s.currentTag) (hcur : s.currentTag < 4) (hnum : s.get (Reg.RULE_VER_NUM_NUM s.currentTag) + 1 < 2 ^ 32) :
    s.ends (.ruleCommit c) 0x12 c { CmdRes.ok with
        result := [BitVec.ofNat 8 k, 0, 0, 0] ++ leBytes 4 (s.get (Reg.RULE_VER_NUM_NUM s.currentTag) + 1) } [.rules, .pair, .reck]
      (regsOf ["RULE_STATUS", "RULE_VER_STATE", "RULE_VER_NUM", "RULE_STORE_USED", "RULE_STAGE_STATUS", "PAIR_MIRROR_LEVEL"])
      fun t => t.currentTag = k ∧ t.tagState k = 1 ∧ t.tagState s.currentTag = 2 ∧ t.ruleSet k = s.stagedSet ∧
        t.stagedSet = s.stagedSet ∧ t.rules.changes = [] ∧ (∀ j, j ≠ k → t.ruleSet j = s.ruleSet j) ∧
        t.get (Reg.RULE_VER_NUM_NUM k) = s.get (Reg.RULE_VER_NUM_NUM s.currentTag) + 1 := by
  have hcore := coreRuleCommit_switch h
  have hframe := frame_commitSwitch s k
  obtain ⟨htag, hnew, hold, hsets, hchanges, hnumber⟩ := commitSwitch_spec hk hne hcur hnum
  have hresult : (s.commitSwitch k).commitResult = { CmdRes.ok with
      result := [BitVec.ofNat 8 k, 0, 0, 0] ++ leBytes 4 (s.get (Reg.RULE_VER_NUM_NUM s.currentTag) + 1) } := by
    rw [State.commitResult, htag, hnumber]
  rw [hresult] at hcore
  generalize s.commitSwitch k = u at *
  have hu : s.only u [.rules, .pair, .reck] (regsOf ["RULE_STATUS", "RULE_VER_STATE", "RULE_VER_NUM", "RULE_STORE_USED",
    "RULE_STAGE_STATUS", "PAIR_MIRROR_LEVEL"]) := only_widen hframe (by simp) (by simp)
  refine ends_of_long rfl ruleCommit_routine ha hcore hu (by simp) (cq_of_only hu (by simp) _) fun t ht => ?_
  have hrules : t.rules = u.rules := ht.1 .rules (by simp)
  have hget (f : Fld) (hf : f.addr < 0x1301000) (hlo : f.lo < 32) : t.get f = u.get f := ht.2 _ (not_completionKeys s c hf hlo)
  have htagState (i : Nat) (hi : i < 4) : t.tagState i = u.tagState i :=
    hget _ (by simp only [Reg.RULE_VER_STATE_STATE]; omega) (by simp [Reg.RULE_VER_STATE_STATE])
  have hcurrent : t.currentTag = k := (hget _ (by decide) (by decide)).trans htag
  obtain ⟨hself, hother⟩ := ruleSet_of_sets (t := t) ((congrArg RulesSt.sets hrules).trans hsets)
  have hch : t.rules.changes = [] := (congrArg RulesSt.changes hrules).trans hchanges
  refine ⟨hcurrent, (htagState k hk).trans hnew, (htagState _ hcur).trans hold, hself, ?_, hch, hother, ?_⟩
  · rw [stagedSet_eq, hch, hcurrent, hself]
    rfl
  · exact (hget _ (by simp only [Reg.RULE_VER_NUM_NUM]; omega) (by simp [Reg.RULE_VER_NUM_NUM])).trans hnumber

/-! ### RULE_READ -/

/-- A parity error of a rule of a version, or of the staged set, is recorded with its place (R219). -/
theorem ruleParity_recorded {tag n e : Nat} (he : mapFind (s.rulesOf tag) n = some e) (hn : n < 2 ^ 15) :
    (s.ruleParity tag n).bit Reg.PARSE_STATUS_PARITY = true ∧ (s.ruleParity tag n).get Reg.PARSE_PARITY_LOC_RULE_NUM = n ∧
    (tag < 4 → (s.ruleParity tag n).get Reg.PARSE_PARITY_LOC_VERSION = tag) := by
  unfold State.ruleParity
  rw [he]
  dsimp only
  generalize s.modEntry e (fun r => { r with bad := true, met := true }) = u
  refine ⟨bit_of_get_one (get_on_self _ _ (by decide)), ?_, fun htag => ?_⟩
  · rw [get_on_ne _ (by decide), get_set_self]
    exact Nat.mod_eq_of_lt hn
  · rw [get_on_ne _ (by decide), get_set_ne _ _ (by decide), get_set_self, if_neg (by omega)]
    exact Nat.mod_eq_of_lt htag

theorem bits_fifteen_lt (n : Nat) : bits n 0 15 < 2 ^ 15 := Nat.mod_lt _ (by decide)

/-- RULE_READ of a tag that holds no version (R224). -/
theorem ruleRead_field (ha : s.accepts 0x13 c)
    (h : 4 < bits c.param 16 3 ∨ (bits c.param 16 3 < 4 ∧ (s.tagState (bits c.param 16 3) = 0 ∨ s.tagState (bits c.param 16 3) = 3))) :
    s.answers (.ruleRead c) 0x13 c CmdRes.field := by
  refine answers_of_core rfl ha (by decide) ?_
  unfold coreRuleRead
  exact if_pos (by simpa using h)

section Read

variable {k : Nat} {m : SMap Nat} (ha : s.accepts 0x13 c) (hk : k = bits c.param 16 3) (hm : m = s.rulesOf k)
  (hlive : k = 4 ∨ (k < 4 ∧ s.tagState k ≠ 0 ∧ s.tagState k ≠ 3))
include hk hlive hm

/-- RULE_READ looks in the version of its tag. -/
theorem coreRuleRead_live : coreRuleRead c s = match mapFind m (bits c.param 0 15) with
    | none => (CmdRes.of .notFound, s)
    | some e =>
      if (s.ruleEntry e).bad then (CmdRes.of .parity, if (s.ruleEntry e).met then s else s.ruleParity k (bits c.param 0 15))
      else ({ CmdRes.ok with out := (s.ruleEntry e).bytes }, s) := by
  subst hk hm
  unfold coreRuleRead
  refine if_neg ?_
  obtain h | ⟨h, h0, h3⟩ := hlive
  · simp [h]
  · simp [h, h0, h3]
    omega

include ha

/-- RULE_READ of a number that the version does not have. -/
theorem ruleRead_absent (h : mapFind m (bits c.param 0 15) = none) : s.answers (.ruleRead c) 0x13 c (CmdRes.of .notFound) := by
  refine answers_of_core rfl ha (by decide) ?_
  rw [coreRuleRead_live hk hm hlive, h]

/-- RULE_READ of a rule. -/
theorem ruleRead_good {e : Nat} (h : mapFind m (bits c.param 0 15) = some e) (hbad : (s.ruleEntry e).bad = false) :
    s.answers (.ruleRead c) 0x13 c { CmdRes.ok with out := (s.ruleEntry e).bytes } := by
  refine answers_of_core rfl ha (by decide) ?_
  rw [coreRuleRead_live hk hm hlive, h]
  exact if_neg (by simp [hbad])

/-- RULE_READ of a rule that fails its parity check (R219). -/
theorem ruleRead_bad {e : Nat} (h : mapFind m (bits c.param 0 15) = some e) (hbad : (s.ruleEntry e).bad = true) :
    s.ends (.ruleRead c) 0x13 c (CmdRes.of .parity) [.rules] (regsOf ["PARSE_PARITY_LOC", "PARSE_STATUS"]) fun t =>
      (s.ruleEntry e).met = false → t.bit Reg.PARSE_STATUS_PARITY = true ∧
        t.get Reg.PARSE_PARITY_LOC_RULE_NUM = bits c.param 0 15 ∧ (k < 4 → t.get Reg.PARSE_PARITY_LOC_VERSION = k) := by
  have hcore : coreRuleRead c s = (CmdRes.of .parity, if (s.ruleEntry e).met then s else s.ruleParity k (bits c.param 0 15)) := by
    rw [coreRuleRead_live hk hm hlive, h]
    exact if_pos hbad
  have hmoved := frame_coreRuleRead c s
  rw [hcore] at hmoved
  dsimp only at hmoved
  have hspec : (s.ruleEntry e).met = false → (if (s.ruleEntry e).met then s else s.ruleParity k (bits c.param 0 15)) =
      s.ruleParity k (bits c.param 0 15) := fun hmet => if_neg (by simp [hmet])
  generalize (if (s.ruleEntry e).met then s else s.ruleParity k (bits c.param 0 15)) = u at *
  refine ends_of_core rfl ha (by decide) hcore (only_widen hmoved (by simp) (by simp)) (cq_of_only hmoved (by simp) _)
    fun t ht hmet => ?_
  obtain ⟨hbit, hnum, htag⟩ := ruleParity_recorded (hm ▸ h) (bits_fifteen_lt c.param)
  rw [← hspec hmet] at hbit hnum htag
  have hget (f : Fld) (hf : f.addr < 0x1301000) (hlo : f.lo < 32) : t.get f = u.get f := ht.2 _ (not_completionKeys s c hf hlo)
  refine ⟨?_, (hget _ (by decide) (by decide)).trans hnum, fun hlt => (hget _ (by decide) (by decide)).trans (htag hlt)⟩
  rw [State.bit, hget _ (by decide) (by decide)]
  exact hbit

end Read

/-! ### RULE_RANGE_SET -/

section RangeSet

variable (ha : s.accepts 0x14 c) (hnum : leAt c.input 0 2 < 1024) (hsrc : leAt c.input 2 1 ≤ 3) (hzero : leAt c.input 3 1 = 0)
  (hle : leAt c.input 4 2 ≤ leAt c.input 6 2) (hrest : allZero (c.input.drop 8) = true)
include hnum hsrc hzero hle hrest

/-- RULE_RANGE_SET with an entry that Table 7-4 allows. -/
theorem coreRuleRangeSet_valid : coreRuleRangeSet c s =
    if s.comparatorUsed (leAt c.input 0 2) then (CmdRes.of .busy, s)
    else (CmdRes.ok, (s.putComparator c.input).mirrorItem 0x14 c.input fun w => w.1 == 0x14 && w.2 == c.input.take 2) := by
  unfold coreRuleRangeSet
  exact if_neg (by simp [hzero, hrest]; omega)

include ha

/-- A comparator that a rule names is not written. -/
theorem ruleRangeSet_busy (h : s.comparatorUsed (leAt c.input 0 2) = true) :
    s.answers (.ruleRangeSet c) 0x14 c (CmdRes.of .busy) := by
  refine answers_of_core rfl ha (by decide) ?_
  rw [coreRuleRangeSet_valid hnum hsrc hzero hle hrest, if_pos h]

/-- Another comparator takes its entry (R211). -/
theorem ruleRangeSet_writes (h : s.comparatorUsed (leAt c.input 0 2) = false) :
    s.ends (.ruleRangeSet c) 0x14 c CmdRes.ok [.rules, .pair] (regsOf ["PAIR_MIRROR_LEVEL"]) fun t =>
      t.comparator (leAt c.input 0 2) = ⟨leAt c.input 2 1, leAt c.input 4 2, leAt c.input 6 2⟩ ∧
      (∀ k, k ≠ leAt c.input 0 2 → t.comparator k = s.comparator k) ∧ t.rules.sets = s.rules.sets ∧
      t.rules.entries = s.rules.entries := by
  have hcore := coreRuleRangeSet_valid (s := s) hnum hsrc hzero hle hrest
  rw [if_neg (by simp [h])] at hcore
  have hmoved := frame_coreRuleRangeSet c s
  rw [hcore] at hmoved
  dsimp only at hmoved
  have hmirror := frame_mirrorItem (s.putComparator c.input) 0x14 c.input fun w => w.1 == 0x14 && w.2 == c.input.take 2
  generalize (s.putComparator c.input).mirrorItem 0x14 c.input (fun w => w.1 == 0x14 && w.2 == c.input.take 2) = u at *
  have hu : u.rules = (s.putComparator c.input).rules := hmirror.1 .rules (by simp)
  refine ends_of_core rfl ha (by decide) hcore hmoved (cq_of_only hmoved (by simp) _) fun t ht => ?_
  have hrules : t.rules = (s.putComparator c.input).rules := (ht.1 .rules (by simp)).trans hu
  have hsets : t.rules.sets = (s.putComparator c.input).rules.sets := congrArg RulesSt.sets hrules
  have hentries : t.rules.entries = (s.putComparator c.input).rules.entries := congrArg RulesSt.entries hrules
  refine ⟨?_, fun k hk => ?_, hsets, hentries⟩
  · rw [State.comparator, hrules]
    exact mapGet_set_self ..
  · rw [State.comparator, State.comparator, hrules]
    exact mapGet_set_ne _ _ _ _ hk.symm

end RangeSet

/-- Settles O35: staged rules take effect at a commit, as one version; RULE_READ and RULE_RANGE_SET beside it. -/
theorem stagedRulesTakeEffectAtACommit : Obligations.StagedRulesTakeEffectAtACommit := by
  unfold Obligations.StagedRulesTakeEffectAtACommit
  intro s c
  refine ⟨fun ha => answers_of_core rfl ha (by decide) rfl,
    fun ha => ⟨fun hok => answers_of_core rfl ha (by decide) ?_, ruleStage_removes ha, ruleStage_stages ha⟩,
    ruleDiscard_discards, fun ha hnone => ⟨fun hch => ?_, fun hch hfree => ?_⟩,
    fun ha k h hk hne hcur hnum => ruleCommit_switches ha h hk hne hcur hnum, ?_,
    fun ha hnum hsrc hzero hle hrest => ⟨ruleRangeSet_busy ha hnum hsrc hzero hle hrest,
      ruleRangeSet_writes ha hnum hsrc hzero hle hrest⟩⟩
  · unfold coreRuleStage
    exact if_pos (by simp [hok])
  · exact ruleCommit_atOnce ha hnone (by rw [State.commitStart, hch]; rfl)
  · exact ruleCommit_atOnce ha hnone (by rw [State.commitStart, if_neg (by simpa using hch), hfree])
  · intro ha k m hk hm
    exact ⟨fun h => ruleRead_field ha (hk ▸ h), fun hlive => ⟨ruleRead_absent ha hk hm hlive,
      fun e he => ⟨ruleRead_good ha hk hm hlive he, ruleRead_bad ha hk hm hlive he⟩⟩⟩

end Sys2Proof.Machine
end

section
/-! Frames dropped whole: their beads, the counters and the flags (R298, R303, R305, R306). -/

-- One proof at a time: side by side they take more threads than the memory bound of the check leaves room for.
set_option Elab.async false

namespace Sys2Proof.Machine

/-! ### The beads that a drop frees -/

theorem beads_syncRequests (s : State) (p : Nat) : (s.syncRequests p).buf.beads = s.buf.beads :=
  congrArg BufSt.beads ((frame_syncRequests s p).1 .buf (by simp))

theorem beads_askPort (s : State) (pool p : Nat) : (s.askPort pool p).buf.beads = s.buf.beads := by
  unfold State.askPort
  split
  · rfl
  · exact beads_syncRequests _ p

/-- Steps that leave the beads do so one after another. -/
theorem beads_foldl {α : Type} (f : State → α → State) (h : ∀ s x, (f s x).buf.beads = s.buf.beads) (l : List α) :
    ∀ s : State, (l.foldl f s).buf.beads = s.buf.beads := by
  induction l with
  | nil => exact fun _ => rfl
  | cons x l ih => exact fun s => (ih _).trans (h s x)

theorem beads_askPorts (s : State) (pool : Nat) : (s.askPorts pool).buf.beads = s.buf.beads := by
  refine beads_foldl _ (fun u e => ?_) _ s
  split
  · exact beads_askPort u pool _
  · rfl

theorem beads_xoffUpdate (s : State) (n : Nat) : (s.xoffUpdate n).buf.beads = s.buf.beads := by
  unfold State.xoffUpdate
  dsimp only
  split
  · split
    · exact beads_askPorts _ n
    · rfl
  · split
    · exact beads_foldl _ (fun u p => beads_syncRequests u p) _ _
    · rfl

theorem beads_uncharge (s : State) (b : Bead) : (s.uncharge b).buf.beads = s.buf.beads := by
  unfold State.uncharge
  split
  · rfl
  · extract_lets u v w
    have hw : w.buf.beads = s.buf.beads := by
      unfold w
      split <;> rfl
    rw [beads_xoffUpdate, hw]
  · rfl

/-- A dropped bead is free, and no other changes. -/
theorem bead_dropBead (s : State) (n k : Nat) :
    mapFind (s.dropBead n).buf.beads k = if k = n then none else mapFind s.buf.beads k := by
  unfold State.dropBead
  split
  · rw [beads_uncharge]
    exact mapFind_del_if ..
  next h =>
    split
    next hk => rw [hk, h]
    next => rfl

/-- The beads of a list are free once all have been dropped. -/
theorem beads_dropped (l : List Nat) : ∀ s : State, ∀ b, b ∈ l ∨ mapFind s.buf.beads b = none →
    mapFind (l.foldl State.dropBead s).buf.beads b = none := by
  induction l with
  | nil => exact fun s b h => h.resolve_left (by simp)
  | cons n l ih =>
    intro s b h
    refine ih _ b ?_
    rw [bead_dropBead]
    by_cases hb : b = n
    · exact .inr (if_pos hb)
    · rw [if_neg hb]
      exact h.imp_left fun h => (List.mem_cons.mp h).resolve_left hb

/-! ### What a dropped bead leaves of the flags -/

section Flags

variable {g : Fld} (hg : g = Reg.BUF_STATUS_DROP ∨ g = Reg.BUF_STATUS_LANDING)
include hg

/-- A change that does not reach BUF_STATUS leaves the two flags. -/
theorem get_flag_of_only {s t : State} {P : List Part} {L : List String} (h : s.only t P (regsOf L)) (hn : "BUF_STATUS" ∉ L) :
    t.get g = s.get g := by
  obtain rfl | rfl := hg
  · exact kept_of_only h 12 0 0 (List.mem_of_getElem? (i := 9) rfl) (a := .w1c) (by simp) hn
  · exact kept_of_only h 12 0 0 (List.mem_of_getElem? (i := 9) rfl) (a := .w1c) (by simp) hn

/-- Back-pressure moves another flag of BUF_STATUS. -/
theorem get_flag_xoffUpdate (s : State) (n : Nat) : (s.xoffUpdate n).get g = s.get g := by
  have hpools : Fld.key Reg.BUF_XOFF_POOLS_POOLS ≠ Fld.key g := by obtain rfl | rfl := hg <;> decide
  have hxoff : Fld.key Reg.BUF_STATUS_XOFF ≠ Fld.key g := by obtain rfl | rfl := hg <;> decide
  unfold State.xoffUpdate
  dsimp only
  split
  · split
    · rw [get_flag_of_only hg (frame_askPorts _ n) (by simp), get_on_ne _ hxoff]
      exact get_set_ne _ _ hpools
    · rfl
  · split
    · refine (get_flag_of_only hg (only_foldl (P := [.ports, .counters, .pair]) (m := regsOf ["CNT_HALF_LO", "CNT_HALF_HI"])
        (fun u p => u.syncRequests p) frame_syncRequests _ _) (by simp)).trans ?_
      show (State.setB _ _ _).get g = _
      rw [get_setB_ne _ _ hxoff]
      exact get_set_ne _ _ hpools
    · rfl

theorem get_flag_uncharge (s : State) (b : Bead) : (s.uncharge b).get g = s.get g := by
  unfold State.uncharge
  split
  · exact get_flag_of_only hg (frame_setLanding ..) (by simp)
  next n _ =>
    extract_lets u v w
    have hused : Fld.key (Reg.BUF_POOL_USED_USED n) ≠ Fld.key g := by
      obtain rfl | rfl := hg <;> simp only [Fld.key, Reg.BUF_POOL_USED_USED, Reg.BUF_STATUS_DROP, Reg.BUF_STATUS_LANDING] <;> omega
    have hshared : Fld.key (Reg.BUF_POOL_SHARED_SHARED n) ≠ Fld.key g := by
      obtain rfl | rfl := hg <;> simp only [Fld.key, Reg.BUF_POOL_SHARED_SHARED, Reg.BUF_STATUS_DROP, Reg.BUF_STATUS_LANDING] <;> omega
    have hv : v.get g = s.get g := get_set_ne _ _ hused
    have hw : w.get g = v.get g := by
      unfold w
      split
      · exact get_set_ne _ _ hshared
      · rfl
    rw [get_flag_xoffUpdate hg, hw, hv]
  · rfl

theorem get_flag_dropBead (s : State) (n : Nat) : (s.dropBead n).get g = s.get g := by
  unfold State.dropBead
  split
  · exact get_flag_uncharge hg _ _
  · rfl

theorem get_flag_dropBeads (l : List Nat) : ∀ s : State, (l.foldl State.dropBead s).get g = s.get g := by
  induction l with
  | nil => exact fun _ => rfl
  | cons n l ih => exact fun s => (ih _).trans (get_flag_dropBead hg s n)

end Flags

/-! ### A frame dropped whole -/

theorem path_dropBeads (l : List Nat) : ∀ s : State, (l.foldl State.dropBead s).path = s.path := by
  induction l with
  | nil => exact fun _ => rfl
  | cons n l ih => exact fun s => (ih _).trans ((frame_dropBead s n).1 .path (by simp))

/-- A frame is forgotten when nothing of it is left, or stays as it is. -/
theorem frame_of_reap {s : State} {f : Nat} {x : Frame} (hx : s.frame f = some x) :
    (s.reap f).frame f = if x.ended && x.copies = 0 && (x.stage == .dropped || x.stage == .linked) then none else some x := by
  unfold State.reap
  rw [hx]
  dsimp only
  split
  · exact mapFind_del_self ..
  · exact hx

section DropFrame

variable {s : State} {f : Nat} {x : Frame} (hx : s.frame f = some x)
include hx

/-- A drop, in its steps. -/
theorem dropFrame_eq : s.dropFrame f =
    (((x.beads.foldl State.dropBead (s.leaveClassify f x)).setFrame f x.discarded).reap f).freeLists := by
  rw [State.dropFrame, hx]
  rfl

/-- A frame dropped whole holds no bead, and its beads are free. -/
theorem dropped_dropFrame : (s.dropFrame f).dropped f x.beads := by
  have hbeads := beads_dropped x.beads (s.leaveClassify f x)
  rw [dropFrame_eq hx]
  generalize x.beads.foldl State.dropBead (s.leaveClassify f x) = u at *
  have hself := frame_setFrame_self u f x.discarded
  have hbuf : (u.setFrame f x.discarded).buf = u.buf := rfl
  generalize u.setFrame f x.discarded = v at *
  refine ⟨fun y hy => ?_, fun b hb => ?_⟩
  · rw [freeLists_frame, frame_of_reap hself] at hy
    split at hy
    · cases hy
    · obtain rfl := Option.some.inj hy
      exact ⟨rfl, rfl⟩
  · have hreap : (v.reap f).freeLists.buf = v.buf := (frame_reap v f).1 .buf (by simp)
    rw [hreap, hbuf]
    exact hbeads b (.inl hb)

/-- The counters of the drops stay. -/
theorem sameCounter_dropFrame {i : Nat} (hi : i < 34) : SameCounter i s (s.dropFrame f) := by
  rw [dropFrame_eq hx]
  have h1 : SameCounter i s (s.leaveClassify f x) := .of_only (frame_leaveClassify s f x) (by simp)
  have h2 : SameCounter i (s.leaveClassify f x) (x.beads.foldl State.dropBead (s.leaveClassify f x)) :=
    SameCounter.foldl _ (fun u n => sameCounter_dropBead (.inl hi) (by omega) u n) _ _
  generalize x.beads.foldl State.dropBead (s.leaveClassify f x) = u at *
  have h3 : SameCounter i u (u.setFrame f x.discarded) := .of_counters rfl
  have h4 : SameCounter i (u.setFrame f x.discarded) ((u.setFrame f x.discarded).reap f) := .of_only (frame_reap _ f) (by simp)
  exact (((h1.trans h2).trans h3).trans h4).trans (.of_only (frame_freeLists _) (by simp))

/-- The flags of a bead that was not found stay. -/
theorem get_flag_dropFrame {g : Fld} (hg : g = Reg.BUF_STATUS_DROP ∨ g = Reg.BUF_STATUS_LANDING) : (s.dropFrame f).get g = s.get g := by
  rw [dropFrame_eq hx, get_flag_of_only hg (frame_freeLists _) (by simp), get_flag_of_only hg (frame_reap _ f) (by simp)]
  show (x.beads.foldl State.dropBead (s.leaveClassify f x)).get g = _
  rw [get_flag_dropBeads hg, get_flag_of_only hg (frame_leaveClassify s f x) (by simp)]

end DropFrame

/-- A frame that finds no landing bead, wherever it stands (R299). -/
theorem landingDrop_counted {s : State} {f : Nat} {x : Frame} (hx : s.frame f = some x) :
    (s.landingDrop f).counter x.port 31 = (s.counter x.port 31 + 1) % 2 ^ 40 ∧ (s.landingDrop f).bit Reg.BUF_STATUS_LANDING = true ∧
    (s.landingDrop f).dropped f x.beads := by
  have hcnt := counter_count_self s x.port 31 1
  have hpath : (s.count x.port 31 1).path = s.path := (only_count_landing s x.port).1 .path (by simp)
  unfold State.landingDrop
  rw [hx]
  dsimp only
  generalize s.count x.port 31 1 = u at *
  have hux : ((u.satAdd Reg.BUF_LANDING_DROP_CNT_COUNT 1).on Reg.BUF_STATUS_LANDING).frame f = some x := by
    rw [← hx]
    exact congrArg (fun p : PathSt => mapFind p.frames f) hpath
  have hbit : ((u.satAdd Reg.BUF_LANDING_DROP_CNT_COUNT 1).on Reg.BUF_STATUS_LANDING).get Reg.BUF_STATUS_LANDING = 1 :=
    get_on_self _ _ (by decide)
  have hsame : ((u.satAdd Reg.BUF_LANDING_DROP_CNT_COUNT 1).on Reg.BUF_STATUS_LANDING).counters = u.counters := rfl
  generalize (u.satAdd Reg.BUF_LANDING_DROP_CNT_COUNT 1).on Reg.BUF_STATUS_LANDING = v at *
  refine ⟨?_, bit_of_get_one ((get_flag_dropFrame hux (.inr rfl)).trans hbit), dropped_dropFrame hux⟩
  rw [(sameCounter_dropFrame hux (by decide)).counter, ← hcnt, State.counter, hsame, State.counter]

/-- A frame dropped for want of beads of its pool (R303, R305). -/
theorem beadDrop_counted {s : State} {f : Nat} {x : Frame} (hx : s.frame f = some x) :
    (s.beadDrop f).counter x.port 31 = (s.counter x.port 31 + 1) % 2 ^ 40 ∧ (s.beadDrop f).bit Reg.BUF_STATUS_DROP = true ∧
    (s.beadDrop f).get Reg.BUF_DROP_CNT_COUNT = min (2 ^ 32 - 1) (s.get Reg.BUF_DROP_CNT_COUNT + 1) ∧
    (s.beadDrop f).dropped f x.beads := by
  have hcnt := counter_count_self s x.port 31 1
  have hcount := only_count_landing s x.port
  have hpath : (s.count x.port 31 1).path = s.path := hcount.1 .path (by simp)
  have hold : (s.count x.port 31 1).get Reg.BUF_DROP_CNT_COUNT = s.get Reg.BUF_DROP_CNT_COUNT :=
    kept_of_only hcount 12 0 0 (List.mem_of_getElem? (i := 14) rfl) (a := .rc) (by simp) (by simp)
  unfold State.beadDrop
  rw [hx]
  dsimp only
  generalize s.count x.port 31 1 = u at *
  have hdrops : ((u.satAdd Reg.BUF_DROP_CNT_COUNT 1).on Reg.BUF_STATUS_DROP).get Reg.BUF_DROP_CNT_COUNT =
      min (2 ^ 32 - 1) (s.get Reg.BUF_DROP_CNT_COUNT + 1) := by
    rw [get_on_ne _ (by decide), get_satAdd_self, hold]
    rfl
  have hbit : ((u.satAdd Reg.BUF_DROP_CNT_COUNT 1).on Reg.BUF_STATUS_DROP).get Reg.BUF_STATUS_DROP = 1 := get_on_self _ _ (by decide)
  have hsame : ((u.satAdd Reg.BUF_DROP_CNT_COUNT 1).on Reg.BUF_STATUS_DROP).counters = u.counters := rfl
  have hvpath : ((u.satAdd Reg.BUF_DROP_CNT_COUNT 1).on Reg.BUF_STATUS_DROP).path = s.path := hpath
  generalize (u.satAdd Reg.BUF_DROP_CNT_COUNT 1).on Reg.BUF_STATUS_DROP = v at *
  have hloss := frame_headroomLoss v x.mark.cls
  have hlossBit : (v.headroomLoss x.mark.cls).get Reg.BUF_STATUS_DROP = v.get Reg.BUF_STATUS_DROP := by
    unfold State.headroomLoss
    split
    · rw [get_on_ne _ (by decide), get_satAdd_ne _ _ (by decide)]
    · rfl
  have hlossCnt : (v.headroomLoss x.mark.cls).get Reg.BUF_DROP_CNT_COUNT = v.get Reg.BUF_DROP_CNT_COUNT :=
    kept_of_only hloss 12 0 0 (List.mem_of_getElem? (i := 14) rfl) (a := .rc) (by simp) (by simp)
  have hwx : (v.headroomLoss x.mark.cls).frame f = some x := by
    rw [← hx]
    exact congrArg (fun p : PathSt => mapFind p.frames f) ((hloss.1 .path (by simp)).trans hvpath)
  have hwcnt : (v.headroomLoss x.mark.cls).counters = v.counters := hloss.1 .counters (by simp)
  generalize v.headroomLoss x.mark.cls = w at *
  have hcnt' : (w.dropFrame f).get Reg.BUF_DROP_CNT_COUNT = w.get Reg.BUF_DROP_CNT_COUNT :=
    kept_of_only (frame_dropFrame w f) 12 0 0 (List.mem_of_getElem? (i := 14) rfl) (a := .rc) (by simp) (by simp)
  refine ⟨?_, bit_of_get_one ((get_flag_dropFrame hwx (.inl rfl)).trans (hlossBit.trans hbit)),
    hcnt'.trans (hlossCnt.trans hdrops), dropped_dropFrame hwx⟩
  rw [(sameCounter_dropFrame hwx (by decide)).counter, ← hcnt, State.counter, hwcnt, hsame, State.counter]

end Sys2Proof.Machine
end

section
/-! Admission (R173, R176, R303, R305). -/

-- One proof at a time: side by side they take more threads than the memory bound of the check leaves room for.
set_option Elab.async false

namespace Sys2Proof.Machine

/-! ### Policing before admission -/

/-- With no register moved every field reads the same. -/
theorem get_of_noRegs {s t : State} {P : List Part} (h : s.only t P (regsOf [])) : t.get = s.get :=
  funext fun f => (only_noRegs h).2 f (by simp [keysOf])

theorem path_policeFrame (s : State) (n f : Nat) : ∃ fr, (s.policeFrame n f).path = s.path.withFrames fr := by
  unfold State.policeFrame
  split
  · exact ⟨_, rfl⟩
  · exact ⟨s.path.frames, rfl⟩

/-- A frame with a verdict. -/
def Frame.judged (x : Frame) (v : Option Bool) : Frame := { x with verdict := v }

/-- Policing gives a frame its verdict, and touches no more of the path. -/
theorem police_spec {s : State} {f : Nat} {x : Frame} (hx : s.frame f = some x) :
    (∃ v, (s.police f).frame f = some (x.judged v)) ∧ ∃ fr, (s.police f).path = s.path.withFrames fr := by
  unfold State.police
  rw [hx]
  dsimp only
  split
  · exact ⟨⟨x.verdict, hx⟩, s.path.frames, rfl⟩
  · split
    next n _ =>
      split
      · refine ⟨⟨_, (policerRun_single hx).1⟩, ?_⟩
        rw [policerRun_eq, policerOrder_single hx]
        exact path_policeFrame _ n f
      · exact ⟨⟨_, mapFind_put_self ..⟩, _, rfl⟩
    next => exact ⟨⟨_, mapFind_put_self ..⟩, _, rfl⟩

/-! ### The steps of admission -/

/-- A frame as its pool takes it (R303). -/
def Frame.pooled (x : Frame) (pool span : Nat) : Frame := { x with landing := false, pool := pool, span := span }

/-- Admission of a policed frame `x` (R303, in its order). -/
def State.admitPoliced (s : State) (f : Nat) (x : Frame) : State :=
  if x.verdict == some false then (s.count x.port 30 1).dropFrame f
  else if s.recordOrDrop x && s.cannotRecord x then ((s.count x.port 32 1).on Reg.TALLY_STATUS_RECORD_DROP).dropFrame f
  else if s.colourDrop (s.get (Reg.BUF_CLASS_CFG_POOL x.mark.cls)) x.mark.colour then s.beadDrop f
  else match moveBeads (s.get (Reg.BUF_CLASS_CFG_POOL x.mark.cls)) x.beads (s.turnOn (s.get (Reg.BUF_CLASS_CFG_POOL x.mark.cls))) with
    | none => (s.turnOn (s.get (Reg.BUF_CLASS_CFG_POOL x.mark.cls))).beadDrop f
    | some v => (v.recordFrame f (x.pooled (s.get (Reg.BUF_CLASS_CFG_POOL x.mark.cls)) (v.get Reg.TALLY_SPAN_SPAN)) (s.recordOrDrop x)).admitted f

section Admission

variable {s : State} {f : Nat} {x : Frame} (hx : s.frame f = some x) (hst : x.stage = .forwarded)
  (hturn : s.inTurn f x.port (fun y => y.unadmitted && y.carried == x.carried) = true)

include hx hst hturn in
theorem admission_eq : s.admission f = if x.bytes.length ≤ 63 then s.dropFrame f
    else (s.police f).admitPoliced f (((s.police f).frame f).getD x) := by
  unfold State.admission
  rw [hx]
  dsimp only
  rw [if_neg (by simp [hst, hturn])]
  rfl

/-- What admission reads of a state, policing leaves. -/
theorem police_keeps (s : State) (f : Nat) (y : Frame) : (s.police f).recordOrDrop y = s.recordOrDrop y ∧
    (s.police f).cannotRecord y = s.cannotRecord y ∧ (∀ p c, (s.police f).colourDrop p c = s.colourDrop p c) ∧
    (s.police f).get = s.get ∧ (s.police f).counters = s.counters := by
  have hmoved := frame_police s f
  have hget := get_of_noRegs hmoved
  have htally : (s.police f).tally = s.tally := hmoved.1 .tally (by simp)
  have hcounters : (s.police f).counters = s.counters := hmoved.1 .counters (by simp)
  generalize s.police f = u at *
  have hbit : u.bit = s.bit := funext fun g => by rw [State.bit, State.bit, hget]
  have hup : u.funcUp .tally = s.funcUp .tally := by rw [State.funcUp, State.funcUp, hget]
  refine ⟨by rw [State.recordOrDrop, State.recordOrDrop, hget], ?_, fun p c => ?_, hget, hcounters⟩
  · rw [State.cannotRecord, State.cannotRecord, hbit, hup, State.burstRoom, State.burstRoom, State.digestQueue, State.digestQueue, htally]
  · rw [State.colourDrop, State.colourDrop, State.sharedUse, State.sharedUse, hget]

variable (hrun : s.running = true)
include hrun

theorem exec_admission : exec (.admission f) s = .next (s.admission f).settle := whenUp_running hrun fun s => s.admission f

include hx hst hturn

/-- A frame of 63 bytes or fewer is dropped (R303). -/
theorem admission_short (hlen : x.bytes.length ≤ 63) : ∃ t, exec (.admission f) s = .next t ∧ t.dropped f x.beads := by
  have hexec := exec_admission (f := f) hrun
  rw [admission_eq hx hst hturn, if_pos hlen] at hexec
  exact ⟨_, hexec, dropped_dropFrame hx⟩

variable {y : Frame} (hlen : 64 ≤ x.bytes.length) (hy : (s.police f).frame f = some y)
include hlen hy

theorem exec_admission_policed : exec (.admission f) s = .next ((s.police f).admitPoliced f y).settle := by
  rw [exec_admission hrun, admission_eq hx hst hturn, if_neg (by omega), hy]
  rfl

omit hst hturn hrun hlen in
/-- A policed frame is the frame with its verdict. -/
theorem eq_of_policed : ∃ v, y = x.judged v := by
  obtain ⟨⟨v, hv⟩, -⟩ := police_spec hx
  exact ⟨v, Option.some.inj (hy.symm.trans hv)⟩

/-- A frame that its policer turns away (R303). -/
theorem admission_policed (hv : y.verdict = some false) : ∃ t, exec (.admission f) s = .next t ∧
    t.counter x.port 30 = (s.counter x.port 30 + 1) % 2 ^ 40 ∧ t.dropped f x.beads := by
  have hexec := exec_admission_policed hx hst hturn hrun hlen hy
  obtain ⟨v, rfl⟩ := eq_of_policed hx hy
  obtain ⟨-, -, -, -, hcounters⟩ := police_keeps s f (x.judged v)
  have hgo : (s.police f).admitPoliced f (x.judged v) = ((s.police f).count x.port 30 1).dropFrame f := if_pos (by simp [hv])
  rw [hgo] at hexec
  have hcnt := counter_count_self (s.police f) x.port 30 1
  have hpath : ((s.police f).count x.port 30 1).path = (s.police f).path := (frame_count _ x.port 30 1).1 .path (by simp)
  have hold : (s.police f).counter x.port 30 = s.counter x.port 30 := by rw [State.counter, State.counter, hcounters]
  generalize (s.police f).count x.port 30 1 = u at *
  have hux : u.frame f = some (x.judged v) := by
    rw [← hy]
    exact congrArg (fun p : PathSt => mapFind p.frames f) hpath
  have hdropped := dropped_dropFrame hux
  have hkept := (sameCounter_dropFrame hux (i := 30) (by decide)).counter x.port
  exact ⟨_, hexec, hkept.trans (hcnt.trans (by rw [hold])), hdropped⟩

/-- A record-or-drop frame that cannot be recorded (R176). -/
theorem admission_unrecorded (hv : y.verdict = some true) (hstrict : s.recordOrDrop y = true) (hcannot : s.cannotRecord y = true) :
    ∃ t, exec (.admission f) s = .next t ∧ t.counter x.port 32 = (s.counter x.port 32 + 1) % 2 ^ 40 ∧
      t.bit Reg.TALLY_STATUS_RECORD_DROP = true ∧ t.dropped f x.beads := by
  have hexec := exec_admission_policed hx hst hturn hrun hlen hy
  obtain ⟨hrec, hcan, -, -, hcounters⟩ := police_keeps s f y
  have hgo : (s.police f).admitPoliced f y =
      (((s.police f).count y.port 32 1).on Reg.TALLY_STATUS_RECORD_DROP).dropFrame f := by
    rw [State.admitPoliced, if_neg (by simp [hv]), hrec, hcan, if_pos (by simp [hstrict, hcannot])]
  obtain ⟨v, rfl⟩ := eq_of_policed hx hy
  change _ = (((s.police f).count x.port 32 1).on Reg.TALLY_STATUS_RECORD_DROP).dropFrame f at hgo
  rw [hgo] at hexec
  have hcnt := counter_count_self (s.police f) x.port 32 1
  have hpath : ((s.police f).count x.port 32 1).path = (s.police f).path := (frame_count _ x.port 32 1).1 .path (by simp)
  have hold : (s.police f).counter x.port 32 = s.counter x.port 32 := by rw [State.counter, State.counter, hcounters]
  generalize (s.police f).count x.port 32 1 = u at *
  have hux : (u.on Reg.TALLY_STATUS_RECORD_DROP).frame f = some (x.judged v) := by
    rw [← hy]
    exact congrArg (fun p : PathSt => mapFind p.frames f) hpath
  have hbit : (u.on Reg.TALLY_STATUS_RECORD_DROP).get Reg.TALLY_STATUS_RECORD_DROP = 1 := get_on_self _ _ (by decide)
  have hsame : (u.on Reg.TALLY_STATUS_RECORD_DROP).counter x.port 32 = u.counter x.port 32 := rfl
  generalize u.on Reg.TALLY_STATUS_RECORD_DROP = w at *
  have hkept : (w.dropFrame f).get Reg.TALLY_STATUS_RECORD_DROP = w.get Reg.TALLY_STATUS_RECORD_DROP :=
    kept_of_only (frame_dropFrame w f) 6 0 0 (List.mem_of_getElem? (i := 5) rfl) (a := .w1c) (by simp) (by simp)
  have hcount := (sameCounter_dropFrame hux (i := 32) (by decide)).counter x.port
  have hdropped := dropped_dropFrame hux
  exact ⟨_, hexec, hcount.trans (hsame.trans (hcnt.trans (by rw [hold]))), bit_of_get_one (hkept.trans hbit), hdropped⟩

section Pool

variable (hv : y.verdict = some true) (hstrict : s.recordOrDrop y = false) {pool : Nat} (hpool : pool = s.get (Reg.BUF_CLASS_CFG_POOL x.mark.cls))
  (hcolour : s.colourDrop pool x.mark.colour = false)
include hv hstrict hpool hcolour

/-- Admission comes to the pool of the frame's class. -/
theorem exec_admission_pool : exec (.admission f) s = .next (match moveBeads pool x.beads ((s.police f).turnOn pool) with
    | none => ((s.police f).turnOn pool).beadDrop f
    | some v => (v.recordFrame f (y.pooled pool (v.get Reg.TALLY_SPAN_SPAN)) false).admitted f).settle := by
  have hexec := exec_admission_policed hx hst hturn hrun hlen hy
  obtain ⟨hrec, -, hcol, hget, -⟩ := police_keeps s f y
  have hpool' : (s.police f).get (Reg.BUF_CLASS_CFG_POOL y.mark.cls) = pool := by
    obtain ⟨v, rfl⟩ := eq_of_policed hx hy
    rw [hget, hpool]
    rfl
  rw [hexec, State.admitPoliced, if_neg (by simp [hv]), hrec, hstrict, Bool.false_and, if_neg (by decide), hpool', hcol]
  obtain ⟨v, rfl⟩ := eq_of_policed hx hy
  have hcol' : s.colourDrop pool (x.judged v).mark.colour = false := hcolour
  rw [if_neg (by simp [hcol'])] <;> rfl

/-- A frame for which its pool has no beads (R303, R305). -/
theorem admission_noBeads (hmove : moveBeads pool x.beads ((s.police f).turnOn pool) = none) : ∃ t, exec (.admission f) s = .next t ∧
    t.counter x.port 31 = (s.counter x.port 31 + 1) % 2 ^ 40 ∧ t.bit Reg.BUF_STATUS_DROP = true ∧
    t.get Reg.BUF_DROP_CNT_COUNT = min (2 ^ 32 - 1) (s.get Reg.BUF_DROP_CNT_COUNT + 1) ∧ t.dropped f x.beads := by
  have hexec := exec_admission_pool hx hst hturn hrun hlen hy hv hstrict hpool hcolour
  obtain ⟨-, -, -, hget, hcounters⟩ := police_keeps s f y
  rw [hmove] at hexec
  dsimp only at hexec
  obtain ⟨v, rfl⟩ := eq_of_policed hx hy
  have hux : ((s.police f).turnOn pool).frame f = some (x.judged v) := hy
  obtain ⟨h1, h2, h3, h4⟩ := beadDrop_counted hux
  have hcnt : ((s.police f).turnOn pool).counter x.port 31 = s.counter x.port 31 := by
    show (s.police f).counter x.port 31 = _
    rw [State.counter, State.counter, hcounters]
  have hold : ((s.police f).turnOn pool).get Reg.BUF_DROP_CNT_COUNT = s.get Reg.BUF_DROP_CNT_COUNT := congrFun hget _
  change _ = (((s.police f).turnOn pool).counter x.port 31 + 1) % 2 ^ 40 at h1
  rw [hcnt] at h1
  rw [hold] at h3
  exact ⟨_, hexec, h1, h2, h3, h4⟩

end Pool

end Admission

/-- The record that a frame takes at admission is one of its fields; the rest of the path and the beads stay (R173). -/
theorem recordFrame_spec (s : State) (f : Nat) (x : Frame) : (∃ z, (s.recordFrame f x false).frame f = some z ∧ z.stage = x.stage ∧
      z.landing = x.landing ∧ z.pool = x.pool ∧ z.beads = x.beads ∧ z.plan = x.plan ∧ z.copies = x.copies ∧ z.port = x.port) ∧
    (s.recordFrame f x false).path.replicators = s.path.replicators ∧ (s.recordFrame f x false).buf = s.buf ∧
    (s.recordFrame f x false).get = s.get := by
  have hmoved := frame_recordFrame s f x false
  refine ⟨?_, ?_, hmoved.1 .buf (by simp), get_of_noRegs hmoved⟩
  · unfold State.recordFrame
    dsimp only
    split
    · exact ⟨_, frame_setFrame_self .., rfl, rfl, rfl, rfl, rfl, rfl, rfl⟩
    · exact ⟨_, frame_setFrame_self .., rfl, rfl, rfl, rfl, rfl, rfl, rfl⟩
  · unfold State.recordFrame
    dsimp only
    split
    · rfl
    · split <;> rfl

/-- A frame with a plan joins its replicator (R337). -/
theorem startWalk_spec {s : State} {f : Nat} {x : Frame} (hx : s.frame f = some x) (hplan : x.plan ≠ []) :
    (s.startWalk f).frame f = some { x with stage := .walking } ∧
    mapGet (s.startWalk f).path.replicators (requesterOf x) [] = mapGet s.path.replicators (requesterOf x) [] ++ [f] ∧
    (s.startWalk f).buf = s.buf := by
  have heq : s.startWalk f = (s.setFrame f { x with stage := .walking }).modPath fun p => { p with
      replicators := mapMod p.replicators (requesterOf x) [] (· ++ [f]) } := by
    rw [State.startWalk, hx]
    exact if_neg (by simpa using hplan)
  rw [heq]
  exact ⟨mapFind_put_self .., mapGet_mod_self s.path.replicators (requesterOf x) [] (· ++ [f]), rfl⟩

/-- A frame whose beads its pool takes is admitted and walks its copies (R303, R337). -/
theorem admission_walks {s : State} {f : Nat} {x y : Frame} (hx : s.frame f = some x) (hst : x.stage = .forwarded)
    (hturn : s.inTurn f x.port (fun y => y.unadmitted && y.carried == x.carried) = true) (hrun : s.running = true)
    (hlen : 64 ≤ x.bytes.length) (hy : (s.police f).frame f = some y) (hv : y.verdict = some true) (hstrict : s.recordOrDrop y = false)
    {pool : Nat} (hpool : pool = s.get (Reg.BUF_CLASS_CFG_POOL x.mark.cls)) (hcolour : s.colourDrop pool x.mark.colour = false) {v : State}
    (hmove : moveBeads pool x.beads ((s.police f).turnOn pool) = some v) (htm : s.funcUp .tm = true) (hcopies : x.copies ≠ 0)
    (hplan : x.plan ≠ []) :
    ∃ t z, exec (.admission f) s = .next t ∧ t.frame f = some z ∧ z.stage = .walking ∧ z.landing = false ∧ z.pool = pool ∧
      z.beads = x.beads ∧ z.plan = x.plan ∧ z.copies = x.copies ∧ t.buf = v.buf ∧
      mapGet t.path.replicators (requesterOf x) [] = mapGet s.path.replicators (requesterOf x) [] ++ [f] := by
  have hexec := exec_admission_pool hx hst hturn hrun hlen hy hv hstrict hpool hcolour
  obtain ⟨-, -, -, hget, -⟩ := police_keeps s f y
  rw [hmove] at hexec
  dsimp only at hexec
  obtain ⟨w, rfl⟩ := eq_of_policed hx hy
  obtain ⟨-, fr, hpath⟩ := police_spec hx
  have hmoved := frame_moveBeads pool x.beads _ v hmove
  have hvpath : v.path.replicators = s.path.replicators := by
    rw [hmoved.1 .path (by simp)]
    show (s.police f).path.replicators = _
    rw [hpath]
    rfl
  have hturned : ((s.police f).turnOn pool).get = s.get := hget
  have htm' : v.funcUp .tm = true := by
    rw [← htm, State.funcUp, State.funcUp, kept_of_only hmoved 0 0 0 (List.mem_of_getElem? (i := 15) rfl) (a := .ro) (by simp) (by simp), hturned]
  obtain ⟨⟨z, hz, -, h2, h3, h4, h5, h6, h7⟩, hrepl, hbuf, hgets⟩ :=
    recordFrame_spec v f ((x.judged w).pooled pool (v.get Reg.TALLY_SPAN_SPAN))
  generalize v.recordFrame f ((x.judged w).pooled pool (v.get Reg.TALLY_SPAN_SPAN)) false = u at *
  have hup : u.funcUp .tm = true := by rw [← htm', State.funcUp, State.funcUp, hgets]
  obtain ⟨hframe, hwalk, hkept⟩ := startWalk_spec hz (by rw [h5]; exact hplan)
  have hgo : u.admitted f = u.startWalk f := by
    rw [State.admitted, hz]
    dsimp only
    rw [if_neg (by simp [hup]), if_neg (by rw [h6]; exact hcopies)]
  have hreq : requesterOf z = requesterOf x := by
    rw [requesterOf, requesterOf, h7]
    rfl
  rw [hgo] at hexec
  rw [hreq] at hwalk
  refine ⟨_, _, hexec, hframe, rfl, h2, h3, h4, h5, h6, hkept.trans hbuf, ?_⟩
  exact hwalk.trans (by rw [hrepl, hvpath])

end Sys2Proof.Machine
end

section
/-! Further beads, the cut and the end of a frame (R27, R79, R89, R97, R298, R304). -/

-- One proof at a time: side by side they take more threads than the memory bound of the check leaves room for.
set_option Elab.async false

namespace Sys2Proof.Machine

/-! ### Further beads -/

/-- A frame that ends at the bytes it holds (R304). -/
theorem cutFrame_spec (s : State) (f : Nat) (x : Frame) :
    (s.cutFrame f x).frame f = some { x with heldLen := some (256 * x.beads.length) } ∧
    (s.cutFrame f x).counter (x.port % 1024) 31 = (s.counter (x.port % 1024) 31 + 1) % 2 ^ 40 ∧
    (s.cutFrame f x).bit Reg.BUF_STATUS_DROP = true ∧
    (s.cutFrame f x).get Reg.BUF_DROP_CNT_COUNT = min (2 ^ 32 - 1) (s.get Reg.BUF_DROP_CNT_COUNT + 1) ∧
    s.only (s.cutFrame f x) [.counters, .path, .buf] (regsOf ["CNT_HALF_LO", "CNT_HALF_HI", "BUF_STATUS", "BUF_DROP_CNT",
      "BUF_HEADROOM_CNT"]) := by
  have hcnt := counter_count_self s (x.port % 1024) 31 1
  have hcount := only_count_landing s (x.port % 1024)
  have hold : (s.count (x.port % 1024) 31 1).get Reg.BUF_DROP_CNT_COUNT = s.get Reg.BUF_DROP_CNT_COUNT :=
    kept_of_only hcount 12 0 0 (List.mem_of_getElem? (i := 14) rfl) (a := .rc) (by simp) (by simp)
  unfold State.cutFrame
  dsimp only
  generalize s.count (x.port % 1024) 31 1 = u at *
  have hu : s.only u [.counters, .path, .buf] (regsOf ["CNT_HALF_LO", "CNT_HALF_HI", "BUF_STATUS", "BUF_DROP_CNT",
    "BUF_HEADROOM_CNT"]) := only_widen hcount (by simp) (by simp)
  have hv := keep_on Reg.BUF_STATUS_DROP (keep_satAdd Reg.BUF_DROP_CNT_COUNT 1 hu (reg_BUF_DROP_CNT_COUNT (by simp)))
    (reg_BUF_STATUS_DROP (by simp))
  have hdrops : ((u.satAdd Reg.BUF_DROP_CNT_COUNT 1).on Reg.BUF_STATUS_DROP).get Reg.BUF_DROP_CNT_COUNT =
      min (2 ^ 32 - 1) (s.get Reg.BUF_DROP_CNT_COUNT + 1) := by
    rw [get_on_ne _ (by decide), get_satAdd_self, hold]
    rfl
  have hbit : ((u.satAdd Reg.BUF_DROP_CNT_COUNT 1).on Reg.BUF_STATUS_DROP).get Reg.BUF_STATUS_DROP = 1 := get_on_self _ _ (by decide)
  have hsame : ((u.satAdd Reg.BUF_DROP_CNT_COUNT 1).on Reg.BUF_STATUS_DROP).counters = u.counters := rfl
  generalize (u.satAdd Reg.BUF_DROP_CNT_COUNT 1).on Reg.BUF_STATUS_DROP = v at *
  have hloss := frame_headroomLoss v x.mark.cls
  have hlossBit : (v.headroomLoss x.mark.cls).get Reg.BUF_STATUS_DROP = v.get Reg.BUF_STATUS_DROP := by
    unfold State.headroomLoss
    split
    · rw [get_on_ne _ (by decide), get_satAdd_ne _ _ (by decide)]
    · rfl
  have hlossCnt : (v.headroomLoss x.mark.cls).get Reg.BUF_DROP_CNT_COUNT = v.get Reg.BUF_DROP_CNT_COUNT :=
    kept_of_only hloss 12 0 0 (List.mem_of_getElem? (i := 14) rfl) (a := .rc) (by simp) (by simp)
  have hwcnt : (v.headroomLoss x.mark.cls).counters = v.counters := hloss.1 .counters (by simp)
  have hw := keep_of hloss hv (by simp) (by simp)
  generalize v.headroomLoss x.mark.cls = w at *
  refine ⟨frame_setFrame_self w f _, ?_, bit_of_get_one (hlossBit.trans hbit), hlossCnt.trans hdrops, keep_setFrame _ _ hw (by simp)⟩
  show w.counter (x.port % 1024) 31 = _
  rw [← hcnt, State.counter, hwcnt, hsame, State.counter]

section FurtherBead

variable {s : State} {f : Nat} {x : Frame} (hrun : s.running = true) (hx : s.frame f = some x) (hneeds : x.needsBead = true)
include hrun

theorem exec_furtherBead : exec (.furtherBeadRequest f) s = .next (s.furtherBead f).settle := whenUp_running hrun fun s => s.furtherBead f

include hx hneeds

/-- FURTHER_BEAD_REQUEST (R298, R304). -/
theorem furtherBead_role :
    (∀ b u, x.landing = true → s.takeLanding (pipeOf x.port) x.port (max 1 x.copies) = some (b, u) →
      ∃ t, exec (.furtherBeadRequest f) s = .next t ∧ t.frame f = some { x with beads := x.beads ++ [b] } ∧ t.buf = u.buf ∧
        s.only t [.path, .buf] (regsOf ["BUF_LANDING"])) ∧
    (x.landing = true → s.takeLanding (pipeOf x.port) x.port (max 1 x.copies) = none → ∃ t, exec (.furtherBeadRequest f) s = .next t ∧
      t.counter x.port 31 = (s.counter x.port 31 + 1) % 2 ^ 40 ∧ t.bit Reg.BUF_STATUS_LANDING = true ∧ t.dropped f x.beads) ∧
    (∀ b u, x.landing = false → x.copies ≠ 0 → (s.turnOn x.pool).takePool x.pool x.port x.copies = some (b, u) →
      ∃ t, exec (.furtherBeadRequest f) s = .next t ∧ t.frame f = some { x with beads := x.beads ++ [b] } ∧ t.buf = u.buf) ∧
    (x.landing = false → x.copies ≠ 0 → (s.turnOn x.pool).takePool x.pool x.port x.copies = none →
      ∃ t, exec (.furtherBeadRequest f) s = .next t ∧ t.frame f = some { x with heldLen := some (256 * x.beads.length) } ∧
        t.counter (x.port % 1024) 31 = (s.counter (x.port % 1024) 31 + 1) % 2 ^ 40 ∧ t.bit Reg.BUF_STATUS_DROP = true ∧
        t.get Reg.BUF_DROP_CNT_COUNT = min (2 ^ 32 - 1) (s.get Reg.BUF_DROP_CNT_COUNT + 1) ∧
        s.only t [.counters, .path, .buf] (regsOf ["CNT_HALF_LO", "CNT_HALF_HI", "BUF_STATUS", "BUF_DROP_CNT",
          "BUF_HEADROOM_CNT"])) := by
  have hexec := exec_furtherBead hrun (f := f)
  have hlanding (hl : x.landing = true) : s.furtherBead f = match s.takeLanding (pipeOf x.port) x.port (max 1 x.copies) with
      | some (b, u) => u.setFrame f { x with beads := x.beads ++ [b] }
      | none => s.landingDrop f := by
    rw [State.furtherBead, hx]
    dsimp only
    rw [if_neg (by simp [hneeds]), if_pos hl] <;> rfl
  have hpooled (hl : x.landing = false) (hc : x.copies ≠ 0) : s.furtherBead f =
      match (s.turnOn x.pool).takePool x.pool x.port x.copies with
      | some (b, u) => u.setFrame f { x with beads := x.beads ++ [b] }
      | none => (s.turnOn x.pool).cutFrame f x := by
    rw [State.furtherBead, hx]
    dsimp only
    rw [if_neg (by simp [hneeds]), if_neg (by simp [hl]), if_neg hc] <;> rfl
  refine ⟨fun b u hl hu => ?_, fun hl hn => ?_, fun b u hl hc hu => ?_, fun hl hc hn => ?_⟩
  · rw [hlanding hl, hu] at hexec
    dsimp only at hexec
    have hmoved := frame_takeLanding s (pipeOf x.port) x.port (max 1 x.copies) _ hu
    have hwide : s.only u [.path, .buf] (regsOf ["BUF_LANDING"]) := only_widen hmoved (by simp) (by simp)
    exact ⟨_, hexec, frame_setFrame_self .., rfl, only_settled (keep_setFrame _ _ hwide (by simp))⟩
  · rw [hlanding hl, hn] at hexec
    dsimp only at hexec
    obtain ⟨h1, h2, h3⟩ := landingDrop_counted hx
    exact ⟨_, hexec, h1, h2, h3⟩
  · rw [hpooled hl hc, hu] at hexec
    dsimp only at hexec
    exact ⟨_, hexec, frame_setFrame_self .., rfl⟩
  · rw [hpooled hl hc, hn] at hexec
    dsimp only at hexec
    obtain ⟨h1, h2, h3, h4, h5⟩ := cutFrame_spec (s.turnOn x.pool) f x
    have hturned : s.only (s.turnOn x.pool) [.counters, .path, .buf] (regsOf ["CNT_HALF_LO", "CNT_HALF_HI", "BUF_STATUS", "BUF_DROP_CNT",
      "BUF_HEADROOM_CNT"]) := only_widen (frame_turnOn s x.pool) (by simp) (by simp)
    have hcnt : (s.turnOn x.pool).counter (x.port % 1024) 31 = s.counter (x.port % 1024) 31 := rfl
    have hold : (s.turnOn x.pool).get Reg.BUF_DROP_CNT_COUNT = s.get Reg.BUF_DROP_CNT_COUNT := rfl
    rw [hcnt] at h2
    rw [hold] at h4
    have hmoved := only_settled (only_then hturned h5)
    generalize (s.turnOn x.pool).cutFrame f x = u at *
    exact ⟨_, hexec, h1, h2, h3, h4, hmoved⟩

end FurtherBead

/-! ### The cut of a frame -/

theorem needsBead_of_enough {x : Frame} (h : min x.bytes.length x.limit ≤ 256 * x.beads.length) : x.needsBead = false := by
  have hlt : decide (256 * x.beads.length < min x.bytes.length x.limit) = false := decide_eq_false (by omega)
  simp only [Frame.needsBead, hlt, Bool.and_false, Bool.false_and]

/-- A frame that has the beads it needs takes none. -/
theorem furtherBeads_enough {s : State} {f : Nat} {x : Frame} (hx : s.frame f = some x)
    (h : min x.bytes.length x.limit ≤ 256 * x.beads.length) (n : Nat) : furtherBeads n f s = s := by
  have hone : s.furtherBead f = s := by
    rw [State.furtherBead, hx]
    exact if_pos (by simp [needsBead_of_enough h])
  induction n with
  | zero => rfl
  | succ n ih => rw [furtherBeads, hone, ih]

/-- The frame as it is cut at its limit (R97). -/
def Frame.cutAtLimit (x : Frame) : Frame := { x with truncated := true, heldLen := some x.limit }

/-- A frame with the beads it needs is cut at its limit, or stays. -/
theorem frameTruncate_eq {s : State} {f : Nat} {x : Frame} (hx : s.frame f = some x)
    (h : min x.bytes.length x.limit ≤ 256 * x.beads.length) : s.frameTruncate f =
      if x.heldLen.isSome || x.bytes.length ≤ x.limit then s else (s.setFrame f x.cutAtLimit).learnKnownBad f := by
  unfold State.frameTruncate
  rw [hx]
  dsimp only
  split
  · rfl
  next hno =>
    rw [furtherBeads_enough hx h, hx]
    have hheld : ¬ x.heldLen.isSome = true := fun he => hno (by simp [he])
    exact if_neg hheld

/-- A map of the values maps what is read of it. -/
theorem mapGet_map_values {α : Type} (k : α → α) (d : α) (hd : k d = d) (m : SMap α) (b : Nat) :
    mapGet (m.map fun e => (e.1, k e.2)) b d = k (mapGet m b d) := by
  have hfind : mapFind (m.map fun e => (e.1, k e.2)) b = (mapFind m b).map k := by
    induction m with
    | nil => rfl
    | cons e m ih =>
      obtain ⟨j, v⟩ := e
      rw [List.map_cons, mapFind, mapFind]
      split
      · rfl
      · exact ih
  rw [mapGet, mapGet, hfind]
  cases mapFind m b with
  | none => exact hd.symm
  | some v => rfl

/-- FRAME_TRUNCATE (R97, R255). -/
theorem frameTruncate_role {s : State} (hrun : s.running = true) {f : Nat} {x : Frame} (hx : s.frame f = some x) (hheld : x.heldLen = none)
    (hlimit : x.limit < x.bytes.length) (hbeads : x.limit ≤ 256 * x.beads.length) : ∃ t, exec (.frameTruncate f) s = .next t ∧
      t.frame f = some { x with truncated := true, heldLen := some x.limit } ∧ (∀ g, g ≠ f → t.frame g = s.frame g) ∧
      (∀ bank, mapGet t.fdb.learn bank [] = (mapGet s.fdb.learn bank []).map fun r =>
        { r with frames := r.frames.map fun k => if k.1 = f then (f, true) else k }) ∧ s.only t [.path, .fdb] (keysOf []) := by
  have hexec : exec (.frameTruncate f) s = .next (s.frameTruncate f).settle := whenUp_running hrun fun s => s.frameTruncate f
  rw [frameTruncate_eq hx (by omega), if_neg (by simp [hheld]; omega)] at hexec
  have hset : s.only (s.setFrame f x.cutAtLimit) [.path, .fdb] (regsOf []) := keep_setFrame _ _ (only_id s _ _) (by simp)
  have hlearn := keep_of (frame_learnKnownBad (s.setFrame f x.cutAtLimit) f) hset (by simp) (by simp)
  refine ⟨_, hexec, frame_setFrame_self s f _, fun g hg => frame_setFrame_ne s _ hg, fun bank => ?_, only_noRegs (only_settled hlearn)⟩
  exact mapGet_map_values (fun l : List LearnReq => l.map fun r =>
    { r with frames := r.frames.map fun k => if k.1 = f then (f, true) else k }) [] rfl s.fdb.learn bank

/-! ### The end of a frame -/

theorem path_countRx (s : State) (p m : Nat) (b : List Byte) (fcs : Fcs) (code : Bool) : (s.countRx p m b fcs code).path = s.path :=
  (frame_countRx s p m b fcs code).1 .path (by simp)

/-- A frame at its end. -/
def Frame.endedWith (x : Frame) (fcs : Fcs) (code : Bool) : Frame := { x with ended := true, fcs := some fcs, codeErr := code }

/-- What follows the end of a frame: RX_DROP_OTHER, the learn requests, its context and its policer (Table 3-17, R255, R285, R359). -/
def State.afterEnd (s : State) (f p : Nat) (y : Frame) (ok : Bool) : State :=
  let s := if y.dropOther && ok then s.count p 60 1 else s
  let s := if frameBad y then s.learnKnownBad f else s
  (s.contextUpdate f).policerDebit y

/-- It leaves the path, and the counters below 56. -/
theorem afterEnd_keeps (s : State) (f p : Nat) (y : Frame) (ok : Bool) : (s.afterEnd f p y ok).path = s.path ∧
    ∀ i, i < 56 → SameCounter i s (s.afterEnd f p y ok) := by
  unfold State.afterEnd
  extract_lets u v
  have h1 : u.path = s.path ∧ ∀ i, i < 56 → SameCounter i s u := by
    unfold u
    split
    · exact ⟨(frame_count s p 60 1).1 .path (by simp), fun i hi => sameCounter_count s p 1 (by omega) (by decide) (by omega)⟩
    · exact ⟨rfl, fun i _ => .refl i s⟩
  have h2 : v.path = u.path ∧ v.counters = u.counters := by
    unfold v
    split
    · exact ⟨rfl, rfl⟩
    · exact ⟨rfl, rfl⟩
  have h3 := frame_contextUpdate v f
  have h4 := frame_policerDebit (v.contextUpdate f) y
  refine ⟨(h4.1 .path (by simp)).trans ((h3.1 .path (by simp)).trans (h2.1.trans h1.1)), fun i hi => ?_⟩
  exact (((h1.2 i hi).trans (.of_counters h2.2)).trans (.of_only h3 (by simp))).trans (.of_only h4 (by simp))

section FrameEnd

variable {s : State} {f : Nat} {x : Frame} (hrun : s.running = true) (hx : s.frame f = some x) (fcs : Fcs) (code : Bool)
  (hended : x.ended = false) (hinject : x.inject = none)

include hrun in
theorem exec_frameEnd : exec (.frameEnd f fcs code) s = .next (s.frameEnd f fcs code).settle :=
  whenUp_running hrun fun s => s.frameEnd f fcs code

/-- A record of frames without `f`. -/
theorem frame_forgotten (s : State) (f : Nat) : (s.modPath fun q => { q with frames := mapDel q.frames f }).frame f = none :=
  mapFind_del_self ..

include hx hended hinject

/-- A MAC control frame, and a frame of a port that was not up, are consumed (R79, R89). -/
theorem frameEnd_consumed (h : x.stage = .outside ∨ isControl x.bytes = true) : (s.frameEnd f fcs code).frame f = none ∧
    (x.stage ≠ .outside → ∀ b ∈ x.beads, mapFind (s.frameEnd f fcs code).buf.beads b = none) := by
  unfold State.frameEnd
  rw [hx]
  dsimp only
  rw [if_neg (by simp [hended, hinject])]
  by_cases hout : x.stage = .outside
  · rw [if_pos (by simp [hout])]
    exact ⟨frame_forgotten _ f, fun hno => absurd hout hno⟩
  · have hcontrol := h.resolve_left hout
    rw [if_neg (by simpa using hout), if_pos hcontrol]
    exact ⟨frame_forgotten _ f, fun _ b hb => beads_dropped x.beads _ b (.inl hb)⟩

variable (hin : x.stage ≠ .outside) (hdata : isControl x.bytes = false) (hbeads : x.bytes.length ≤ 256 * x.beads.length)
include hin hdata hbeads

/-- The end of another frame that has its beads: it may be cut, its end is kept with it, and what follows the end comes about. -/
theorem frameEnd_eq : ∃ ok, s.frameEnd f fcs code =
    (State.afterEnd (((s.countRx x.port x.limit x.bytes fcs code).frameTruncate f).modFrame f fun y => y.endedWith fcs code) f x.port
      (((((s.countRx x.port x.limit x.bytes fcs code).frameTruncate f).modFrame f fun y => y.endedWith fcs code).frame f).getD x) ok).reap f := by
  have hx' : (s.countRx x.port x.limit x.bytes fcs code).frame f = some x := by
    rw [← hx]
    exact congrArg (fun p : PathSt => mapFind p.frames f) (path_countRx s ..)
  refine ⟨fcs == .good && !code && 64 ≤ x.bytes.length && x.bytes.length ≤ x.limit, ?_⟩
  unfold State.frameEnd
  rw [hx]
  dsimp only
  rw [if_neg (by simp [hended, hinject]), if_neg (by simpa using hin), if_neg (by simp [hdata]), furtherBeads_enough hx' (by omega)]
  rfl

/-- The counters of a received frame (R105). -/
theorem frameEnd_counts {i : Nat} (hi : i < 56) : SameCounter i (s.countRx x.port x.limit x.bytes fcs code) (s.frameEnd f fcs code) := by
  obtain ⟨ok, heq⟩ := frameEnd_eq hx fcs code hended hinject hin hdata hbeads
  have hx' : (s.countRx x.port x.limit x.bytes fcs code).frame f = some x := by
    rw [← hx]
    exact congrArg (fun p : PathSt => mapFind p.frames f) (path_countRx s ..)
  rw [heq]
  generalize s.countRx x.port x.limit x.bytes fcs code = u at *
  have h1 : SameCounter i u (u.frameTruncate f) := by
    rw [frameTruncate_eq hx' (by omega)]
    split
    · exact .refl i u
    · exact .of_counters rfl
  have h2 : SameCounter i (u.frameTruncate f) ((u.frameTruncate f).modFrame f fun y => y.endedWith fcs code) := by
    unfold State.modFrame
    split
    · exact .of_counters rfl
    · exact .refl i _
  exact ((h1.trans h2).trans ((afterEnd_keeps _ _ _ _ _).2 i hi)).trans (.of_only (frame_reap _ f) (by simp))

/-- A frame within its limit keeps its end, until it is forgotten (R27). -/
theorem frameEnd_kept (hlimit : x.bytes.length ≤ x.limit) : (s.frameEnd f fcs code).frame f =
    if x.copies = 0 ∧ (x.stage = .dropped ∨ x.stage = .linked) then none else some (x.endedWith fcs code) := by
  obtain ⟨ok, heq⟩ := frameEnd_eq hx fcs code hended hinject hin hdata hbeads
  have hx' : (s.countRx x.port x.limit x.bytes fcs code).frame f = some x := by
    rw [← hx]
    exact congrArg (fun p : PathSt => mapFind p.frames f) (path_countRx s ..)
  rw [heq]
  generalize s.countRx x.port x.limit x.bytes fcs code = u at *
  rw [frameTruncate_eq hx' (by omega), if_pos (by simp [hlimit]), modFrame_some hx']
  have hself := frame_setFrame_self u f (x.endedWith fcs code)
  generalize u.setFrame f (x.endedWith fcs code) = v at *
  rw [hself, Option.getD_some]
  have hafter : (v.afterEnd f x.port (x.endedWith fcs code) ok).frame f = some (x.endedWith fcs code) := by
    rw [← hself]
    exact congrArg (fun p : PathSt => mapFind p.frames f) (afterEnd_keeps v f x.port (x.endedWith fcs code) ok).1
  rw [frame_of_reap hafter]
  have hcond : ((x.endedWith fcs code).ended && decide ((x.endedWith fcs code).copies = 0) &&
      ((x.endedWith fcs code).stage == .dropped || (x.endedWith fcs code).stage == .linked)) =
      decide (x.copies = 0 ∧ (x.stage = .dropped ∨ x.stage = .linked)) := by
    rw [Bool.eq_iff_iff]
    simp only [Frame.endedWith, Bool.true_and, Bool.and_eq_true, Bool.or_eq_true, beq_iff_eq, decide_eq_true_eq]
    exact and_congr (decide_eq_true_iff (p := x.copies = 0)) Iff.rfl
  rw [hcond]
  by_cases h : x.copies = 0 ∧ (x.stage = .dropped ∨ x.stage = .linked)
  · rw [if_pos h, if_pos (by simpa using h)]
  · rw [if_neg h, if_neg (by simpa using h)]

end FrameEnd

/-- FRAME_END (R27, R79, R89, R105). -/
theorem frameEnd_role {s : State} {f : Nat} {x : Frame} (hrun : s.running = true) (hx : s.frame f = some x) (fcs : Fcs) (code : Bool)
    (hended : x.ended = false) (hinject : x.inject = none) :
    (x.stage = .outside ∨ isControl x.bytes = true → ∃ t, exec (.frameEnd f fcs code) s = .next t ∧ t.frame f = none ∧
      (x.stage ≠ .outside → ∀ b ∈ x.beads, mapFind t.buf.beads b = none)) ∧
    (x.stage ≠ .outside → isControl x.bytes = false → x.bytes.length ≤ x.limit → x.heldLen = none →
      x.bytes.length ≤ 256 * x.beads.length → ∃ t, exec (.frameEnd f fcs code) s = .next t ∧
        (∀ y, t.frame f = some y → y = { x with ended := true, fcs := some fcs, codeErr := code }) ∧
        ((x.copies ≠ 0 ∨ (x.stage ≠ .dropped ∧ x.stage ≠ .linked)) →
          t.frame f = some { x with ended := true, fcs := some fcs, codeErr := code })) ∧
    (∀ i, i < 56 → ∃ t, exec (.frameEnd f fcs code) s = .next t ∧
      (x.stage ≠ .outside → isControl x.bytes = false → x.bytes.length ≤ 256 * x.beads.length →
        t.counter x.port i = (s.countRx x.port x.limit x.bytes fcs code).counter x.port i)) ∧
    (∀ t, exec (.frameEnd f fcs code) s = .next t → s.only t [.ports, .counters, .path, .rules, .fdb, .flow, .mcast, .buf, .tm, .dram, .pair]
      (regsOf ["CNT_HALF_LO", "CNT_HALF_HI", "RULE_VER_STATE", "FLOW_STALE_CNT", "BUF_POOL_USED", "BUF_POOL_SHARED", "BUF_STATUS",
        "BUF_XOFF_POOLS", "BUF_LANDING", "BUF_HEADROOM_CNT", "BUF_LANDING_DROP_CNT", "DRAM_STATUS", "BUF_DROP_CNT", "FLOW_STATUS",
        "FLOW_USED", "FLOW_POISON_LOC", "MCAST_MEMBERS_USED", "DRAM_ROW_GUARD_CNT"])) := by
  have hexec := exec_frameEnd hrun (f := f) fcs code
  have hmoved := frame_frameEnd s f fcs code
  refine ⟨fun h => ?_, fun hin hdata hlimit _ hbeads => ?_, fun i hi => ?_, fun t ht => ?_⟩
  · obtain ⟨h1, h2⟩ := frameEnd_consumed hx fcs code hended hinject h
    exact ⟨_, hexec, h1, h2⟩
  · have hkept := frameEnd_kept hx fcs code hended hinject hin hdata hbeads hlimit
    refine ⟨_, hexec, fun y hy => ?_, fun h => ?_⟩
    · have hy' := hkept.symm.trans hy
      split at hy'
      · cases hy'
      · exact (Option.some.inj hy').symm
    · rw [if_neg (by tauto)] at hkept
      exact hkept
  · refine ⟨_, hexec, fun hin hdata hbeads => ?_⟩
    exact (frameEnd_counts hx fcs code hended hinject hin hdata hbeads hi).counter x.port
  · obtain rfl := Host.Outcome.next.inj (hexec.symm.trans ht)
    exact only_settled (only_widen hmoved (by simp) (by simp))

/-- Settles O31: admission in the order of R303; a further bead of landing and of a pool; the cut at the limit; and the end of a frame. -/
theorem admissionBeadsAndTheEndOfAFrame : Obligations.AdmissionBeadsAndTheEndOfAFrame := by
  unfold Obligations.AdmissionBeadsAndTheEndOfAFrame
  intro s f x hrun hx
  refine ⟨fun hst hturn => ⟨fun hlen => admission_short hx hst hturn hrun hlen, fun y hlen hy =>
      ⟨fun hv => admission_policed hx hst hturn hrun hlen hy hv,
       fun hv hstrict hcannot => admission_unrecorded hx hst hturn hrun hlen hy hv hstrict hcannot,
       fun hv hstrict pool hpool hcolour => ⟨fun v hmove htm hcopies hplan =>
          admission_walks hx hst hturn hrun hlen hy hv hstrict hpool hcolour hmove htm hcopies hplan,
        fun hmove => admission_noBeads hx hst hturn hrun hlen hy hv hstrict hpool hcolour hmove⟩⟩, fun t ht => ?_⟩,
    fun hneeds => furtherBead_role hrun hx hneeds, fun hheld hlimit hbeads => frameTruncate_role hrun hx hheld hlimit hbeads,
    fun fcs code hended hinject => frameEnd_role hrun hx fcs code hended hinject⟩
  obtain rfl := Host.Outcome.next.inj ((exec_admission hrun).symm.trans ht)
  exact only_settled (only_widen (frame_admission s f) (by simp) (by simp))

end Sys2Proof.Machine
end

section
/-! Room in the FDB: a path of relocations makes it (R247), and its failing entries are removed first (R275). -/

-- One proof at a time: side by side they take more threads than the memory bound of the check leaves room for.
set_option Elab.async false

namespace Sys2Proof.Machine

/-! ### Buckets -/

theorem fdbBuckets_aligned (v a : Nat) : (fdbBuckets v a).1 % 8 = 0 ∧ (fdbBuckets v a).2 % 8 = 0 := by
  simp only [fdbBuckets]
  omega

/-- The candidate buckets of a key lie in different banks (R246). -/
theorem fdbBuckets_ne (v a : Nat) : (fdbBuckets v a).1 ≠ (fdbBuckets v a).2 := by
  unfold fdbBuckets
  dsimp only
  split <;> omega

theorem otherBucket_aligned (e : FdbEntry) (b : Nat) : otherBucket e b % 8 = 0 := by
  rcases otherBucket_candidate e b with h | h
  · rw [h]
    exact (fdbBuckets_aligned ..).1
  · rw [h]
    exact (fdbBuckets_aligned ..).2

theorem otherBucket_ne (e : FdbEntry) (b : Nat) : otherBucket e b ≠ b := by
  unfold otherBucket
  dsimp only
  split
  next h => rw [← h]; exact fun h => fdbBuckets_ne _ _ h.symm
  next h => exact h

/-- The first free place of a bucket is one of its eight, and free. -/
theorem freeSlot_some {m : Fdb} {b p : Nat} (h : freeSlot m b = some p) : mapFind m p = none ∧ ∃ i < 8, p = b + i := by
  refine ⟨by simpa using List.find?_some h, ?_⟩
  obtain ⟨i, hi, rfl⟩ := List.mem_map.mp (List.mem_of_find?_eq_some h)
  exact ⟨i, List.mem_range.mp hi, rfl⟩

/-- A bucket with a free place has a first one. -/
theorem freeSlot_isSome {m : Fdb} {b i : Nat} (hi : i < 8) (h : mapFind m (b + i) = none) : (freeSlot m b).isSome = true :=
  List.find?_isSome.mpr ⟨b + i, List.mem_map.mpr ⟨i, List.mem_range.mpr hi, rfl⟩, by simp [h]⟩

/-- Two aligned buckets that share a place are one. -/
theorem bucket_eq_of_place {a b i j : Nat} (ha : a % 8 = 0) (hb : b % 8 = 0) (hi : i < 8) (hj : j < 8) (h : a + i = b + j) : a = b := by
  omega

/-! ### A path of relocations -/

/-- The eight places of a bucket hold the same in both tables. -/
def SameBucket (m n : Fdb) (b : Nat) : Prop := ∀ i < 8, mapFind n (b + i) = mapFind m (b + i)

/-- A relocation into a bucket with room frees its place, and no place but the two changes (R247). -/
theorem relocate_spec {m : Fdb} {b i : Nat} {e : FdbEntry} (hb : b % 8 = 0) (hi : i < 8) (he : mapFind m (b + i) = some e)
    (hroom : (freeSlot m (otherBucket e b)).isSome = true) : (freeSlot (relocate m (b + i)) b).isSome = true ∧
    ∀ k, k % 8 = 0 → k ≠ b → k ≠ otherBucket e b → SameBucket m (relocate m (b + i)) k := by
  obtain ⟨q, hq⟩ := Option.isSome_iff_exists.mp hroom
  obtain ⟨-, j, hj, rfl⟩ := freeSlot_some hq
  have hbucket : bucketOf (b + i) = b := by unfold bucketOf; omega
  have heq : relocate m (b + i) = mapPut (mapDel m (b + i)) (otherBucket e b + j) e := by
    unfold relocate
    rw [he]
    dsimp only
    rw [hbucket, hq]
  have hother := otherBucket_aligned e b
  have hne : otherBucket e b + j ≠ b + i := fun h => otherBucket_ne e b (bucket_eq_of_place hother hb hj hi h)
  rw [heq]
  refine ⟨freeSlot_isSome hi ?_, fun k hk hkb hko n hn => ?_⟩
  · rw [mapFind_put_ne _ _ hne, mapFind_del_self]
  · have h1 : otherBucket e b + j ≠ k + n := fun h => hko (bucket_eq_of_place hk hother hn hj h.symm)
    have h2 : b + i ≠ k + n := fun h => hkb (bucket_eq_of_place hk hb hn hi h.symm)
    rw [mapFind_put_ne _ _ h1, mapFind_del_ne _ h2]

/-- A path of relocations frees a place of its bucket, and leaves the buckets that it has come from (R247). -/
theorem relocPath_frees {m : Fdb} : ∀ (n : Nat) (seen : List Nat) (b : Nat) (l : List Nat), b % 8 = 0 →
    (∀ k ∈ seen, k % 8 = 0 ∧ freeSlot m k = none) → relocPath m n seen b = some l →
    (freeSlot (l.foldl relocate m) b).isSome = true ∧ ∀ k ∈ seen, SameBucket m (l.foldl relocate m) k := by
  intro n
  induction n with
  | zero =>
    intro seen b l _ _ h
    rw [relocPath] at h
    split at h
    next hroom =>
      obtain rfl := Option.some.inj h
      exact ⟨hroom, fun _ _ _ _ => rfl⟩
    next => cases h
  | succ n ih =>
    intro seen b l hb hseen h
    rw [relocPath] at h
    split at h
    next hroom =>
      obtain rfl := Option.some.inj h
      exact ⟨hroom, fun _ _ _ _ => rfl⟩
    next hfull =>
    split at h
    · cases h
    next hnew =>
    obtain ⟨i, hi, h⟩ := List.exists_of_findSome?_eq_some h
    split at h
    · next e he =>
      obtain ⟨l', hl', rfl⟩ := Option.map_eq_some_iff.mp h
      have hfree : freeSlot m b = none := by simpa using hfull
      obtain ⟨hroom, hkept⟩ := ih (b :: seen) (otherBucket e b) l' (otherBucket_aligned e b)
        (List.forall_mem_cons.mpr ⟨⟨hb, hfree⟩, hseen⟩) hl'
      have hi' := List.mem_range.mp hi
      have he' : mapFind (l'.foldl relocate m) (b + i) = some e := (hkept b (by simp) i hi').trans he
      obtain ⟨hmade, hrest⟩ := relocate_spec hb hi' he' hroom
      rw [List.foldl_append, List.foldl_cons, List.foldl_nil]
      refine ⟨hmade, fun k hk j hj => ?_⟩
      have hkb : k ≠ b := fun h => hnew (by simpa [h] using hk)
      have hko : k ≠ otherBucket e b := by
        rintro rfl
        have hnone := (hseen _ hk).2
        cases n <;> simp [relocPath, hnone, hk] at hl'
      exact (hrest k (hseen k hk).1 hkb hko j hj).trans (hkept k (by simp [hk]) j hj)
    · cases h

/-- A path makes room; so without room there is none (R247). -/
theorem roomPath_of_noRoom {m : Fdb} {v a : Nat} (h : makeRoom m v a = none) : roomPath m v a = none := by
  cases hr : roomPath m v a with
  | none => rfl
  | some r =>
    obtain ⟨l, k⟩ := r
    obtain ⟨n, -, hpath⟩ := List.exists_of_findSome?_eq_some hr
    obtain ⟨b, hb, hpath⟩ := List.exists_of_findSome?_eq_some hpath
    obtain ⟨l', hl', hpair⟩ := Option.map_eq_some_iff.mp hpath
    obtain ⟨rfl, rfl⟩ := Prod.mk.inj hpair
    have haligned : b % 8 = 0 := by
      obtain ⟨h1, h2⟩ := fdbBuckets_aligned v a
      rcases List.mem_cons.mp hb with rfl | hb
      · exact h1
      · rw [List.mem_singleton.mp hb]
        exact h2
    obtain ⟨hroom, -⟩ := relocPath_frees n [] b l' haligned (by simp) hl'
    obtain ⟨q, hq⟩ := Option.isSome_iff_exists.mp hroom
    rw [makeRoom, hr] at h
    simp [hq] at h

/-! ### The failing entries on the way -/

/-- The first failing entry on the way of a key's relocations. -/
def badOnWay (m : Fdb) (v a : Nat) : Option Nat :=
  (match roomPath m v a with | some r => r.1 | none => ([] : List Nat)).find? fun p => (mapFind m p).any fun e : FdbEntry => e.bad

theorem clearPath_eq (v a n : Nat) (s : State) : clearPath v a (n + 1) s = match badOnWay s.fdb.entries v a with
    | none => (false, s)
    | some p => (true, (clearPath v a n (s.fdbParity p)).2) := rfl

theorem fdbMake_eq (s : State) (e : FdbEntry) : s.fdbMake e =
    ((clearPath e.vlan e.mac 6 s).2.fdbPlace e, (clearPath e.vlan e.mac 6 s).1, (clearPath e.vlan e.mac 6 s).2) := rfl

section Make

variable {s : State} {e : FdbEntry}

/-- Whether a making meets a failing entry is a matter of the table. -/
theorem fdbMake_met : (s.fdbMake e).2.1 = (badOnWay s.fdb.entries e.vlan e.mac).isSome := by
  rw [fdbMake_eq]
  show (clearPath e.vlan e.mac 6 s).1 = _
  rw [clearPath_eq]
  cases badOnWay s.fdb.entries e.vlan e.mac <;> rfl

/-- Without a failing entry on the way the entry takes the place that is free, or there is none. -/
theorem fdbMake_clean (h : (s.fdbMake e).2.1 = false) : s.fdbMake e = (s.fdbPlace e, false, s) := by
  rw [fdbMake_met] at h
  have hnone : badOnWay s.fdb.entries e.vlan e.mac = none := by simpa using h
  have hclear : clearPath e.vlan e.mac 6 s = (false, s) := by rw [clearPath_eq, hnone]
  rw [fdbMake_eq, hclear]

theorem fdbPlace_some {m : Fdb} {p : Nat} (h : makeRoom s.fdb.entries e.vlan e.mac = some (m, p)) :
    s.fdbPlace e = some (s.setFdb (mapPut m p { e with born := s.fdb.changes })) := by
  rw [State.fdbPlace, h]
  rfl

/-- Without room the making changes nothing. -/
theorem fdbMake_full (h : makeRoom s.fdb.entries e.vlan e.mac = none) : s.fdbMake e = (none, false, s) := by
  have hmet : (s.fdbMake e).2.1 = false := by
    rw [fdbMake_met, badOnWay, roomPath_of_noRoom h]
    rfl
  rw [fdbMake_clean hmet, State.fdbPlace, h]
  rfl

/-- The same with room. -/
theorem fdbMake_room (hmet : (s.fdbMake e).2.1 = false) {m : Fdb} {p : Nat} (h : makeRoom s.fdb.entries e.vlan e.mac = some (m, p)) :
    s.fdbMake e = (some (s.setFdb (mapPut m p { e with born := s.fdb.changes })), false, s) := by
  rw [fdbMake_clean hmet, fdbPlace_some h]

/-- A clearing of a way only takes entries away, and where it met one the parity flag stands (R275). -/
theorem clearPath_takes (v a n : Nat) : ∀ s : State, (s.bit Reg.FDB_STATUS_PARITY = true → (clearPath v a n s).2.bit Reg.FDB_STATUS_PARITY = true) ∧
    ((clearPath v a n s).1 = true → (clearPath v a n s).2.bit Reg.FDB_STATUS_PARITY = true) ∧
    ∀ p, mapFind (clearPath v a n s).2.fdb.entries p = none ∨
      mapFind (clearPath v a n s).2.fdb.entries p = mapFind s.fdb.entries p := by
  induction n with
  | zero => exact fun s => ⟨id, nofun, fun _ => .inr rfl⟩
  | succ n ih =>
    intro s
    rw [clearPath_eq]
    cases badOnWay s.fdb.entries v a with
    | none => exact ⟨id, nofun, fun _ => .inr rfl⟩
    | some q =>
      obtain ⟨hkeep, -, hless⟩ := ih (s.fdbParity q)
      obtain ⟨hentries, hbit, -⟩ := fdbParity_spec s q
      refine ⟨fun _ => hkeep hbit, fun _ => hkeep hbit, fun p => ?_⟩
      rcases hless p with h | h
      · exact .inl h
      · rw [hentries, mapFind_del_if] at h
        split at h
        · exact .inl h
        · exact .inr h

end Make

/-- A key that is absent stays absent when entries are taken away. -/
theorem fdbFind_none_of_less {m n : Fdb} {v a : Nat} (h : fdbFind m v a = none)
    (hless : ∀ p, mapFind n p = none ∨ mapFind n p = mapFind m p) : fdbFind n v a = none := by
  unfold fdbFind at h ⊢
  rw [List.findSome?_eq_none_iff] at h ⊢
  intro p hp
  rcases hless p with hn | hn
  · rw [hn]
  · rw [hn]
    exact h p hp

end Sys2Proof.Machine
end

section
/-! Released learn requests (R252 to R257, Table 9-2). -/

-- One proof at a time: side by side they take more threads than the memory bound of the check leaves room for.
set_option Elab.async false

namespace Sys2Proof.Machine

/-! ### What an access comes to -/

section Access

variable {s : State} {v a : Nat}

theorem fdbAccess_absent (h : fdbFind s.fdb.entries v a = none) : s.fdbAccess v a = (none, false, s) := by rw [State.fdbAccess, h]

theorem fdbAccess_good {p : Nat} {e : FdbEntry} (h : fdbFind s.fdb.entries v a = some (p, e)) (hb : e.bad = false) :
    s.fdbAccess v a = (some (p, e), false, s) := by
  rw [State.fdbAccess, h]
  exact if_neg (by simp [hb])

theorem fdbAccess_bad {p : Nat} {e : FdbEntry} (h : fdbFind s.fdb.entries v a = some (p, e)) (hb : e.bad = true) :
    s.fdbAccess v a = (none, true, s.fdbParity p) := by
  rw [State.fdbAccess, h]
  exact if_pos hb

end Access

/-! ### The queues of requests stay -/

theorem fdb_mirrorFdb (s : State) (b : Bool) (e : FdbEntry) : (s.mirrorFdb b e).fdb = s.fdb := (frame_mirrorFdb s b e).1 .fdb (by simp)

theorem learn_clearPath (v a n : Nat) : ∀ s : State, (clearPath v a n s).2.fdb.learn = s.fdb.learn := by
  induction n with
  | zero => exact fun _ => rfl
  | succ n ih =>
    intro s
    rw [clearPath_eq]
    cases badOnWay s.fdb.entries v a with
    | none => rfl
    | some q => exact ih _

theorem learn_fdbAccess (s : State) (v a : Nat) : (s.fdbAccess v a).2.2.fdb.learn = s.fdb.learn := by
  unfold State.fdbAccess
  split
  · split <;> rfl
  · rfl

theorem learn_fdbMake (s : State) (e : FdbEntry) : (s.fdbMake e).2.2.fdb.learn = s.fdb.learn ∧
    ∀ t, (s.fdbMake e).1 = some t → t.fdb.learn = s.fdb.learn := by
  have hclear := learn_clearPath e.vlan e.mac 6 s
  rw [fdbMake_eq]
  refine ⟨hclear, fun t ht => ?_⟩
  obtain ⟨r, -, rfl⟩ := Option.map_eq_some_iff.mp ht
  exact hclear

theorem learn_stationMove (s : State) (p : Nat) (e : FdbEntry) (r : LearnReq) : (s.stationMove p e r).fdb.learn = s.fdb.learn := by
  unfold State.stationMove
  extract_lets window within count
  split
  · rw [fdb_mirrorFdb]
    rfl
  · rw [fdb_mirrorFdb]
    rfl

/-- A request that is applied leaves those that wait. -/
theorem learn_learnApply (s : State) (r : LearnReq) : (s.learnApply r).fdb.learn = s.fdb.learn := by
  have haccess := learn_fdbAccess s r.vlan r.mac
  unfold State.learnApply
  split
  next u hu =>
    rw [hu] at haccess
    dsimp only at haccess ⊢
    obtain ⟨hmake, hmade⟩ := learn_fdbMake u ⟨r.vlan, r.mac, false, false, false, 0, r.port, 0, 0, 0, false⟩
    split
    next t _ _ ht =>
      rw [ht] at hmade
      rw [fdb_mirrorFdb]
      exact (hmade t rfl).trans haccess
    next t ht =>
      rw [ht] at hmake
      exact hmake.trans haccess
  next p e _ u hu =>
    rw [hu] at haccess
    dsimp only at haccess
    split
    · exact haccess
    · split
      · exact haccess
      · split
        · exact haccess
        · rw [learn_stationMove]
          exact haccess

/-- A count with its flag. -/
theorem counted_flagged {s u : State} {c f : Fld} (hw : 1 ≤ f.width) (hne : Fld.key f ≠ Fld.key c) (h : u.get c = s.get c) :
    s.counted ((u.satAdd c 1).on f) c ∧ ((u.satAdd c 1).on f).bit f = true := by
  refine ⟨?_, bit_of_get_one (get_on_self _ _ hw)⟩
  rw [State.counted, get_on_ne _ hne, get_satAdd_self, h]

/-! ### The release -/

/-- The state in which the first request of a bank has left its queue. -/
def State.released (s : State) (bank : Nat) (r : LearnReq) (l : List LearnReq) : State :=
  { s with fdb := { s.fdb with
    learn := mapSet s.fdb.learn bank l []
    released := mapPut s.fdb.released bank (max r.stamp (mapGet s.fdb.released bank r.stamp)) } }

/-- The entry of a station that is learned. -/
def LearnReq.entry (r : LearnReq) : FdbEntry := ⟨r.vlan, r.mac, false, false, false, 0, r.port, 0, 0, 0, false⟩

section Release

variable {s : State} (hrun : s.running = true) {bank : Nat} (hbank : bank < 16) (hup : s.funcUp .fdb = true) {r : LearnReq}
  {l : List LearnReq} (hl : mapGet s.fdb.learn bank [] = r :: l)
  (hheld : r.stamp + (s.get Reg.FDB_CTRL_LEARN_HOLD * 1000 * 65536 : Nat) ≤ (s.presTicks : Int))

include hup hl hheld in
theorem learnRelease_eq : s.learnRelease bank =
    if r.frames.all (·.2) then s.released bank r l else (s.released bank r l).learnApply r := by
  rw [State.learnRelease, hl]
  dsimp only
  rw [if_neg (by simp [hup]; exact hheld)]
  rfl

include hrun hbank in
theorem exec_learnRelease : exec (.learnRelease bank) s = .next (s.learnRelease bank).settle :=
  (onObject_ok hbank _).trans (whenUp_running hrun fun s => s.learnRelease bank)

include hrun hbank hup hl hheld

/-- What every release comes to. -/
theorem learnRelease_pops : ∃ t, exec (.learnRelease bank) s = .next t ∧ mapGet t.fdb.learn bank [] = l ∧
    (∀ k, k ≠ bank → mapGet t.fdb.learn k [] = mapGet s.fdb.learn k []) ∧
    (r.frames.all (·.2) = true → t.fdb.entries = s.fdb.entries) ∧
    s.only t [.fdb, .pair] (regsOf ["FDB_STATUS", "FDB_USED", "FDB_MOVE_LAST_LO", "FDB_MOVE_LAST_HI", "FDB_MOVE_LAST_PORTS",
      "FDB_PARITY_LOC", "FDB_LEARN_CNT", "FDB_MOVE_CNT", "FDB_LEARN_FULL_CNT", "FDB_MOVE_REFUSED_CNT", "FDB_PARITY_CNT",
      "PAIR_MIRROR_LEVEL"]) := by
  have hexec := exec_learnRelease hrun hbank
  have hmoved := frame_learnRelease s bank
  have hlearn : (s.learnRelease bank).fdb.learn = mapSet s.fdb.learn bank l [] := by
    rw [learnRelease_eq hup hl hheld]
    split
    · rfl
    · rw [learn_learnApply]
      rfl
  have hbad (h : r.frames.all (·.2) = true) : (s.learnRelease bank).fdb.entries = s.fdb.entries := by
    rw [learnRelease_eq hup hl hheld, if_pos h]
    rfl
  generalize s.learnRelease bank = u at *
  refine ⟨_, hexec, ?_, fun k hk => ?_, hbad, only_settled (only_widen hmoved (by simp) (by simp))⟩
  · rw [settle_fdb, hlearn, mapGet_set_self]
  · rw [settle_fdb, hlearn, mapGet_set_ne _ _ _ _ hk.symm]

variable (hgood : r.frames.all (·.2) = false)
include hgood

theorem exec_learnApply : exec (.learnRelease bank) s = .next ((s.released bank r l).learnApply r).settle := by
  rw [exec_learnRelease hrun hbank, learnRelease_eq hup hl hheld, if_neg (by simp [hgood])]

/-- A new key is learned where the FDB has room (R252). -/
theorem learnRelease_learns (hfind : fdbFind s.fdb.entries r.vlan r.mac = none) {m : Fdb} {p : Nat}
    (hmet : (s.fdbMake r.entry).2.1 = false) (hroom : makeRoom s.fdb.entries r.vlan r.mac = some (m, p)) :
    ∃ t, exec (.learnRelease bank) s = .next t ∧ t.fdb.entries = mapPut m p { r.entry with born := s.fdb.changes } ∧
      s.counted t Reg.FDB_LEARN_CNT_COUNT := by
  have hexec := exec_learnApply hrun hbank hup hl hheld hgood
  have hmet' : ((s.released bank r l).fdbMake r.entry).2.1 = false := by
    rw [fdbMake_met] at hmet ⊢
    exact hmet
  have hmake := fdbMake_room (s := s.released bank r l) hmet' hroom
  have hgo : (s.released bank r l).learnApply r =
      (((s.released bank r l).setFdb (mapPut m p { r.entry with born := s.fdb.changes })).satAdd Reg.FDB_LEARN_CNT_COUNT 1).mirrorFdb
        true r.entry := by
    rw [State.learnApply, fdbAccess_absent (s := s.released bank r l) hfind]
    dsimp only
    change (match (s.released bank r l).fdbMake r.entry with
      | (some u, _, _) => (u.satAdd Reg.FDB_LEARN_CNT_COUNT 1).mirrorFdb true r.entry
      | (none, _, u) => (u.satAdd Reg.FDB_LEARN_FULL_CNT_COUNT 1).on Reg.FDB_STATUS_FULL) = _
    rw [hmake] <;> rfl
  have hentries : ((s.released bank r l).setFdb (mapPut m p { r.entry with born := s.fdb.changes })).fdb.entries =
      mapPut m p { r.entry with born := s.fdb.changes } := rfl
  have hcnt : ((s.released bank r l).setFdb (mapPut m p { r.entry with born := s.fdb.changes })).get Reg.FDB_LEARN_CNT_COUNT =
      s.get Reg.FDB_LEARN_CNT_COUNT := get_set_ne _ _ (by decide)
  rw [hgo] at hexec
  generalize (s.released bank r l).setFdb (mapPut m p { r.entry with born := s.fdb.changes }) = u at *
  have hmirror := frame_mirrorFdb (u.satAdd Reg.FDB_LEARN_CNT_COUNT 1) true r.entry
  have hkept : ((u.satAdd Reg.FDB_LEARN_CNT_COUNT 1).mirrorFdb true r.entry).get Reg.FDB_LEARN_CNT_COUNT =
      (u.satAdd Reg.FDB_LEARN_CNT_COUNT 1).get Reg.FDB_LEARN_CNT_COUNT :=
    kept_of_only hmirror 9 0 0 (List.mem_of_getElem? (i := 7) rfl) (a := .rc) (by simp) (by simp)
  refine ⟨_, hexec, ?_, ?_⟩
  · rw [settle_fdb, fdb_mirrorFdb]
    exact hentries
  · show State.get _ _ = _
    refine hkept.trans ?_
    rw [get_satAdd_self, hcnt]

/-- A new key for which the FDB has no room is counted as full (R252). -/
theorem learnRelease_full (hfind : fdbFind s.fdb.entries r.vlan r.mac = none)
    (hroom : makeRoom s.fdb.entries r.vlan r.mac = none) :
    ∃ t, exec (.learnRelease bank) s = .next t ∧ t.fdb.entries = s.fdb.entries ∧
      s.counted t Reg.FDB_LEARN_FULL_CNT_COUNT ∧ t.bit Reg.FDB_STATUS_FULL = true := by
  have hexec := exec_learnApply hrun hbank hup hl hheld hgood
  have hmake := fdbMake_full (s := s.released bank r l) (e := r.entry) hroom
  have hgo : (s.released bank r l).learnApply r =
      ((s.released bank r l).satAdd Reg.FDB_LEARN_FULL_CNT_COUNT 1).on Reg.FDB_STATUS_FULL := by
    rw [State.learnApply, fdbAccess_absent (s := s.released bank r l) hfind]
    dsimp only
    change (match (s.released bank r l).fdbMake r.entry with
      | (some u, _, _) => (u.satAdd Reg.FDB_LEARN_CNT_COUNT 1).mirrorFdb true r.entry
      | (none, _, u) => (u.satAdd Reg.FDB_LEARN_FULL_CNT_COUNT 1).on Reg.FDB_STATUS_FULL) = _
    rw [hmake]
  rw [hgo] at hexec
  obtain ⟨h1, h2⟩ := counted_flagged (s := s) (u := s.released bank r l) (c := Reg.FDB_LEARN_FULL_CNT_COUNT)
    (f := Reg.FDB_STATUS_FULL) (by decide) (by decide) rfl
  exact ⟨_, hexec, rfl, h1, h2⟩

section Move

variable {p : Nat} {e : FdbEntry} (hfind : fdbFind s.fdb.entries r.vlan r.mac = some (p, e)) (hparity : e.bad = false)
include hfind hparity

/-- The request of a key that is there (Table 9-2). -/
theorem exec_learnMove : exec (.learnRelease bank) s = .next (if e.static || e.kind != 0 then
      ((s.released bank r l).satAdd Reg.FDB_MOVE_REFUSED_CNT_COUNT 1).on Reg.FDB_STATUS_CONFLICT
    else if e.dest = r.port then s.released bank r l
    else if e.pinned then (s.released bank r l).satAdd Reg.FDB_MOVE_REFUSED_CNT_COUNT 1
    else (s.released bank r l).stationMove p e r).settle := by
  rw [exec_learnApply hrun hbank hup hl hheld hgood, State.learnApply, fdbAccess_good (s := s.released bank r l) hfind hparity]

/-- A static entry, and one that is no port, is not moved (R256). -/
theorem learnRelease_refused (h : e.static = true ∨ e.kind ≠ 0) : ∃ t, exec (.learnRelease bank) s = .next t ∧
    t.fdb.entries = s.fdb.entries ∧ s.counted t Reg.FDB_MOVE_REFUSED_CNT_COUNT ∧ t.bit Reg.FDB_STATUS_CONFLICT = true := by
  have hexec := exec_learnMove hrun hbank hup hl hheld hgood hfind hparity
  rw [if_pos (by simpa using h)] at hexec
  obtain ⟨h1, h2⟩ := counted_flagged (s := s) (u := s.released bank r l) (c := Reg.FDB_MOVE_REFUSED_CNT_COUNT)
    (f := Reg.FDB_STATUS_CONFLICT) (by decide) (by decide) rfl
  exact ⟨_, hexec, rfl, h1, h2⟩

variable (hstatic : e.static = false) (hkind : e.kind = 0)
include hstatic hkind

/-- A station that has not moved stays. -/
theorem learnRelease_stays (h : e.dest = r.port) : ∃ t, exec (.learnRelease bank) s = .next t ∧ t.fdb.entries = s.fdb.entries := by
  have hexec := exec_learnMove hrun hbank hup hl hheld hgood hfind hparity
  rw [if_neg (by simp [hstatic, hkind]), if_pos h] at hexec
  exact ⟨_, hexec, rfl⟩

/-- A pinned station is not moved (R257). -/
theorem learnRelease_pinned (h : e.dest ≠ r.port) (hpin : e.pinned = true) : ∃ t, exec (.learnRelease bank) s = .next t ∧
    t.fdb.entries = s.fdb.entries ∧ s.counted t Reg.FDB_MOVE_REFUSED_CNT_COUNT := by
  have hexec := exec_learnMove hrun hbank hup hl hheld hgood hfind hparity
  rw [if_neg (by simp [hstatic, hkind]), if_neg h, if_pos hpin] at hexec
  refine ⟨_, hexec, rfl, ?_⟩
  show State.get _ _ = _
  exact (get_satAdd_self ..).trans rfl

variable {inside : Bool} {count : Nat} (hdest : e.dest ≠ r.port) (hpin : e.pinned = false)
  (hinside : inside = (e.winCount != 0 && decide (r.stamp ≤ e.winStart + (s.get Reg.FDB_CTRL_MOVE_WINDOW : Int) * 100000 * 65536)))
  (hcount : count = (if inside then e.winCount + 1 else 1))
include hdest hpin hinside hcount

/-- The move of a station, and its pin. -/
theorem exec_stationMove : exec (.learnRelease bank) s = .next (if count > s.get Reg.FDB_CTRL_MOVE_LIMIT then
      ((((s.released bank r l).fdbPut p { e with pinned := true }).moveLast e r.port true).on Reg.FDB_STATUS_PINNED).mirrorFdb true
        { e with pinned := true }
    else (((((s.released bank r l).fdbPut p { e with dest := r.port, winStart := if inside then e.winStart else r.stamp, winCount := count
        }).moveLast e r.port false).satAdd Reg.FDB_MOVE_CNT_COUNT 1).on Reg.FDB_STATUS_MOVE).mirrorFdb true
        { e with dest := r.port, winStart := if inside then e.winStart else r.stamp, winCount := count }).settle := by
  rw [exec_learnMove hrun hbank hup hl hheld hgood hfind hparity, if_neg (by simp [hstatic, hkind]), if_neg hdest,
    if_neg (by simp [hpin])]
  subst hcount hinside
  rfl

/-- A station moves to the port of the request (R257). -/
theorem learnRelease_moves (h : count ≤ s.get Reg.FDB_CTRL_MOVE_LIMIT) : ∃ t, exec (.learnRelease bank) s = .next t ∧
    s.counted t Reg.FDB_MOVE_CNT_COUNT ∧ t.bit Reg.FDB_STATUS_MOVE = true ∧ t.fdb.entries = mapPut s.fdb.entries p
      { e with dest := r.port, winStart := if inside then e.winStart else r.stamp, winCount := count } := by
  have hexec := exec_stationMove hrun hbank hup hl hheld hgood hfind hparity hstatic hkind hdest hpin hinside hcount
  rw [if_neg (by omega)] at hexec
  generalize ({ e with dest := r.port, winStart := if inside then e.winStart else r.stamp, winCount := count } : FdbEntry) = e' at *
  have hlast := frame_moveLast ((s.released bank r l).fdbPut p e') e r.port false
  have hput : ((s.released bank r l).fdbPut p e').fdb.entries = mapPut s.fdb.entries p e' := rfl
  have hcnt : ((s.released bank r l).fdbPut p e').get Reg.FDB_MOVE_CNT_COUNT = s.get Reg.FDB_MOVE_CNT_COUNT := get_set_ne _ _ (by decide)
  generalize (s.released bank r l).fdbPut p e' = u at *
  have hlastCnt : (u.moveLast e r.port false).get Reg.FDB_MOVE_CNT_COUNT = u.get Reg.FDB_MOVE_CNT_COUNT :=
    kept_of_only hlast 9 0 0 (List.mem_of_getElem? (i := 8) rfl) (a := .rc) (by simp) (by simp)
  have hlastFdb : (u.moveLast e r.port false).fdb = u.fdb := hlast.1 .fdb (by simp)
  generalize u.moveLast e r.port false = v at *
  have hmoved : ((v.satAdd Reg.FDB_MOVE_CNT_COUNT 1).on Reg.FDB_STATUS_MOVE).get Reg.FDB_MOVE_CNT_COUNT =
      min (2 ^ Reg.FDB_MOVE_CNT_COUNT.width - 1) (s.get Reg.FDB_MOVE_CNT_COUNT + 1) := by
    rw [get_on_ne _ (by decide), get_satAdd_self, hlastCnt, hcnt]
  have hbit : ((v.satAdd Reg.FDB_MOVE_CNT_COUNT 1).on Reg.FDB_STATUS_MOVE).get Reg.FDB_STATUS_MOVE = 1 := get_on_self _ _ (by decide)
  have hfdb : ((v.satAdd Reg.FDB_MOVE_CNT_COUNT 1).on Reg.FDB_STATUS_MOVE).fdb = v.fdb := rfl
  generalize (v.satAdd Reg.FDB_MOVE_CNT_COUNT 1).on Reg.FDB_STATUS_MOVE = w at *
  have hmirror := frame_mirrorFdb w true e'
  have h1 : (w.mirrorFdb true e').get Reg.FDB_MOVE_CNT_COUNT = w.get Reg.FDB_MOVE_CNT_COUNT :=
    kept_of_only hmirror 9 0 0 (List.mem_of_getElem? (i := 8) rfl) (a := .rc) (by simp) (by simp)
  have h2 : (w.mirrorFdb true e').get Reg.FDB_STATUS_MOVE = w.get Reg.FDB_STATUS_MOVE :=
    kept_of_only hmirror 9 0 0 (List.mem_of_getElem? (i := 1) rfl) (a := .w1c) (by simp) (by simp)
  refine ⟨_, hexec, h1.trans hmoved, bit_of_get_one (h2.trans hbit), ?_⟩
  rw [settle_fdb, fdb_mirrorFdb, hfdb, hlastFdb, hput]

/-- A station that moves too often is pinned (R257). -/
theorem learnRelease_pins (h : s.get Reg.FDB_CTRL_MOVE_LIMIT < count) : ∃ t, exec (.learnRelease bank) s = .next t ∧
    t.bit Reg.FDB_STATUS_PINNED = true ∧ t.fdb.entries = mapPut s.fdb.entries p { e with pinned := true } := by
  have hexec := exec_stationMove hrun hbank hup hl hheld hgood hfind hparity hstatic hkind hdest hpin hinside hcount
  rw [if_pos h] at hexec
  generalize ({ e with pinned := true } : FdbEntry) = e' at *
  have hlast := frame_moveLast ((s.released bank r l).fdbPut p e') e r.port true
  have hput : ((s.released bank r l).fdbPut p e').fdb.entries = mapPut s.fdb.entries p e' := rfl
  generalize (s.released bank r l).fdbPut p e' = u at *
  have hlastFdb : (u.moveLast e r.port true).fdb = u.fdb := hlast.1 .fdb (by simp)
  generalize u.moveLast e r.port true = v at *
  have hbit : (v.on Reg.FDB_STATUS_PINNED).get Reg.FDB_STATUS_PINNED = 1 := get_on_self _ _ (by decide)
  have hfdb : (v.on Reg.FDB_STATUS_PINNED).fdb = v.fdb := rfl
  generalize v.on Reg.FDB_STATUS_PINNED = w at *
  have h2 : (w.mirrorFdb true e').get Reg.FDB_STATUS_PINNED = w.get Reg.FDB_STATUS_PINNED :=
    kept_of_only (frame_mirrorFdb w true e') 9 0 0 (List.mem_of_getElem? (i := 1) rfl) (a := .w1c) (by simp) (by simp)
  refine ⟨_, hexec, bit_of_get_one (h2.trans hbit), ?_⟩
  rw [settle_fdb, fdb_mirrorFdb, hfdb, hlastFdb, hput]

end Move

end Release

/-- Settles O37: a released learn request leaves its queue, and is applied by Table 9-2. -/
theorem releasedLearnRequestsTeachTheFdb : Obligations.ReleasedLearnRequestsTeachTheFdb := by
  unfold Obligations.ReleasedLearnRequestsTeachTheFdb
  intro s bank r l hrun hbank hup hl hheld
  refine ⟨learnRelease_pops hrun hbank hup hl hheld, fun hgood => ⟨fun hfind => ⟨fun m p hmet hroom =>
      learnRelease_learns hrun hbank hup hl hheld hgood hfind hmet hroom, fun hroom =>
      learnRelease_full hrun hbank hup hl hheld hgood hfind hroom⟩, fun p e hfind hparity =>
    ⟨fun h => learnRelease_refused hrun hbank hup hl hheld hgood hfind hparity h, fun hstatic hkind =>
      ⟨fun h => learnRelease_stays hrun hbank hup hl hheld hgood hfind hparity hstatic hkind h,
       fun h hpin => learnRelease_pinned hrun hbank hup hl hheld hgood hfind hparity hstatic hkind h hpin,
       fun inside count hdest hpin hinside hcount => ⟨fun h =>
          learnRelease_moves hrun hbank hup hl hheld hgood hfind hparity hstatic hkind hdest hpin hinside hcount h,
        fun h => learnRelease_pins hrun hbank hup hl hheld hgood hfind hparity hstatic hkind hdest hpin hinside hcount h⟩⟩⟩⟩⟩

end Sys2Proof.Machine
end

section
/-! The FDB commands of one key (R247, R260, R261, R270, R271, R275). -/

-- One proof at a time: side by side they take more threads than the memory bound of the check leaves room for.
set_option Elab.async false

namespace Sys2Proof.Machine

/-- What a completion leaves of the FDB and of its flags. -/
theorem fdb_of_completion {s u t : State} {c : CmdIn} (h : u.only t [.host, .events] (completionKeys s c)) :
    t.fdb = u.fdb ∧ ∀ f : Fld, f.addr < 0x1301000 → f.lo < 32 → t.bit f = u.bit f :=
  ⟨h.1 .fdb (by simp), fun f ha hl => congrArg (· != 0) (h.2 _ (not_completionKeys s c ha hl))⟩

theorem fdb_noRoutine {op : Nat} (h : op = 0x20 ∨ op = 0x21 ∨ op = 0x22 ∨ op = 0x23 ∨ op = 0x24) :
    ∀ o, opInfo op = some o → o.routine = none := by
  rcases h with rfl | rfl | rfl | rfl | rfl <;> decide

section Single

variable {s : State} {c : CmdIn} {i : Instr} {op : Nat} {core : CmdIn → State → CmdRes × State}
  (hi : exec i s = onRing c (runCmd op core c s)) (hop : op = 0x20 ∨ op = 0x21 ∨ op = 0x22 ∨ op = 0x23 ∨ op = 0x24)
  (ha : s.accepts op c)
include hi hop ha

/-- A command that meets a failing entry removes it and answers PARITY (R275). -/
theorem fdb_ends_parity {p : Nat} (hcore : core c s = (CmdRes.of .parity, s.fdbParity p)) :
    s.ends i op c (CmdRes.of .parity) [.fdb] (regsOf ["FDB_STATUS", "FDB_USED", "FDB_PARITY_LOC", "FDB_PARITY_CNT"])
      fun t => t.fdb.entries = mapDel s.fdb.entries p ∧ t.bit Reg.FDB_STATUS_PARITY = true := by
  obtain ⟨hentries, hbit, -⟩ := fdbParity_spec s p
  have hmoved := frame_fdbParity s p
  generalize s.fdbParity p = u at *
  refine ends_of_core hi ha (fdb_noRoutine hop) hcore hmoved (cq_of_only hmoved (by simp) _) fun t ht => ?_
  obtain ⟨hf, hb⟩ := fdb_of_completion ht
  exact ⟨by rw [hf, hentries], (hb _ (by decide) (by decide)).trans hbit⟩

/-- A command that removes an entry. -/
theorem fdb_ends_removed {p : Nat} {e : FdbEntry} {r : CmdRes} (hcore : core c s = (r, s.fdbRemove p e)) :
    s.ends i op c r [.fdb, .pair] (regsOf ["FDB_USED", "PAIR_MIRROR_LEVEL"]) fun t => t.fdb.entries = mapDel s.fdb.entries p := by
  have hmoved := frame_fdbRemove s p e
  have hentries : (s.fdbRemove p e).fdb.entries = mapDel s.fdb.entries p := by
    rw [State.fdbRemove, fdb_mirrorFdb]
    rfl
  generalize s.fdbRemove p e = u at *
  refine ends_of_core hi ha (fdb_noRoutine hop) hcore hmoved (cq_of_only hmoved (by simp) _) fun t ht => ?_
  rw [(fdb_of_completion ht).1, hentries]

/-- A command that puts an entry into the table, which may have been rearranged for it. -/
theorem fdb_ends_put {m : Fdb} {e : FdbEntry} {r : CmdRes} (hcore : core c s = (r, (s.setFdb m).mirrorFdb true e)) :
    s.ends i op c r [.fdb, .pair] (regsOf ["FDB_USED", "PAIR_MIRROR_LEVEL"]) fun t => t.fdb.entries = m := by
  have hset : s.only (s.setFdb m) [.fdb, .pair] (regsOf ["FDB_USED", "PAIR_MIRROR_LEVEL"]) :=
    only_widen (frame_setFdb s m) (by simp) (by simp)
  have hmoved := keep_of (frame_mirrorFdb (s.setFdb m) true e) hset (by simp) (by simp)
  have hentries : ((s.setFdb m).mirrorFdb true e).fdb.entries = m := by
    rw [fdb_mirrorFdb]
    rfl
  generalize (s.setFdb m).mirrorFdb true e = u at *
  refine ends_of_core hi ha (fdb_noRoutine hop) hcore hmoved (cq_of_only hmoved (by simp) _) fun t ht => ?_
  rw [(fdb_of_completion ht).1, hentries]

/-- A command that answers alone. -/
theorem fdb_answers {r : CmdRes} (hcore : core c s = (r, s)) : s.answers i op c r :=
  answers_of_core hi ha (fdb_noRoutine hop) hcore

end Single

/-! ### FDB_INSERT -/

section Insert

variable {s : State} {c : CmdIn} (ha : s.accepts 0x20 c)

theorem fdbInsert_input (ha : s.accepts 0x20 c) (h : s.fdbEntryOk c.input = false) : s.answers (.fdbInsert c) 0x20 c CmdRes.input :=
  fdb_answers rfl (by decide) ha (if_pos (by simp [h]))

variable (hok : s.fdbEntryOk c.input = true) {e : FdbEntry} (he : e = fdbOf c.input)
include hok he

/-- FDB_INSERT of a key that is absent. -/
theorem coreFdbInsert_absent (h : fdbFind s.fdb.entries e.vlan e.mac = none) : coreFdbInsert c s = match s.fdbMake e with
    | (_, true, u) => (CmdRes.of .parity, u)
    | (some u, _, _) => (CmdRes.ok, u.mirrorFdb true e)
    | (none, _, u) => (CmdRes.of .full, u.on Reg.FDB_STATUS_FULL) := by
  subst he
  unfold coreFdbInsert
  dsimp only
  rw [if_neg (by simp [hok]), fdbAccess_absent h] <;> rfl

/-- FDB_INSERT of a key that is there. -/
theorem coreFdbInsert_present {p : Nat} {d : FdbEntry} (h : fdbFind s.fdb.entries e.vlan e.mac = some (p, d)) (hb : d.bad = false) :
    coreFdbInsert c s = if bitOf c.flags 0 then (CmdRes.ok, (s.setFdb (mapPut s.fdb.entries p { e with born := s.fdb.changes })).mirrorFdb true e)
      else (CmdRes.of .exists, s) := by
  subst he
  unfold coreFdbInsert
  dsimp only
  rw [if_neg (by simp [hok]), fdbAccess_good h hb] <;> rfl

include ha

/-- An insertion that meets a failing entry on its way makes none (R275). -/
theorem fdbInsert_parity (h : fdbFind s.fdb.entries e.vlan e.mac = none) (hmet : (s.fdbMake e).2.1 = true) :
    s.ends (.fdbInsert c) 0x20 c (CmdRes.of .parity) [.fdb] (regsOf ["FDB_STATUS", "FDB_USED", "FDB_PARITY_LOC", "FDB_PARITY_CNT"])
      fun t => t.bit Reg.FDB_STATUS_PARITY = true ∧ fdbFind t.fdb.entries e.vlan e.mac = none := by
  have hmoved := frame_fdbMake s e
  have hcore : coreFdbInsert c s = (CmdRes.of .parity, (s.fdbMake e).2.2) := by
    rw [coreFdbInsert_absent hok he h]
    generalize s.fdbMake e = r at *
    obtain ⟨o, b, u⟩ := r
    dsimp only at hmet
    subst hmet
    rfl
  obtain ⟨-, hparity, hless⟩ := clearPath_takes e.vlan e.mac 6 s
  have hbit : (s.fdbMake e).2.2.bit Reg.FDB_STATUS_PARITY = true := hparity hmet
  have hfind : fdbFind (s.fdbMake e).2.2.fdb.entries e.vlan e.mac = none := fdbFind_none_of_less h hless
  generalize (s.fdbMake e).2.2 = u at *
  refine ends_of_core rfl ha (by decide) hcore hmoved (cq_of_only hmoved (by simp) _) fun t ht => ?_
  obtain ⟨hf, hb⟩ := fdb_of_completion ht
  exact ⟨(hb _ (by decide) (by decide)).trans hbit, by rw [hf, hfind]⟩

/-- An insertion takes the place that is free (R247). -/
theorem fdbInsert_inserts (h : fdbFind s.fdb.entries e.vlan e.mac = none) {m : Fdb} {p : Nat} (hmet : (s.fdbMake e).2.1 = false)
    (hroom : makeRoom s.fdb.entries e.vlan e.mac = some (m, p)) :
    s.ends (.fdbInsert c) 0x20 c CmdRes.ok [.fdb, .pair] (regsOf ["FDB_USED", "PAIR_MIRROR_LEVEL"])
      fun t => t.fdb.entries = mapPut m p { e with born := s.fdb.changes } := by
  refine fdb_ends_put rfl (by decide) ha (e := e) ?_
  rw [coreFdbInsert_absent hok he h, fdbMake_room hmet hroom]

/-- An insertion without room (R247). -/
theorem fdbInsert_full (h : fdbFind s.fdb.entries e.vlan e.mac = none) (hroom : makeRoom s.fdb.entries e.vlan e.mac = none) :
    s.ends (.fdbInsert c) 0x20 c (CmdRes.of .full) [] (keysOf [Reg.FDB_STATUS_FULL]) fun t => t.bit Reg.FDB_STATUS_FULL = true := by
  have hcore : coreFdbInsert c s = (CmdRes.of .full, s.on Reg.FDB_STATUS_FULL) := by
    rw [coreFdbInsert_absent hok he h, fdbMake_full hroom]
  have hmoved : s.only (s.on Reg.FDB_STATUS_FULL) [] (keysOf [Reg.FDB_STATUS_FULL]) :=
    keep_on _ (only_id s _ _) (by simp [keysOf])
  have hcq : (s.on Reg.FDB_STATUS_FULL).get (Reg.RING_CFG_CQ c.ring) = s.get (Reg.RING_CFG_CQ c.ring) :=
    get_on_ne _ (by simp only [Fld.key, Reg.FDB_STATUS_FULL, Reg.RING_CFG_CQ]; omega)
  have hbit : (s.on Reg.FDB_STATUS_FULL).bit Reg.FDB_STATUS_FULL = true := bit_of_get_one (get_on_self _ _ (by decide))
  generalize s.on Reg.FDB_STATUS_FULL = u at *
  exact ends_of_core rfl ha (by decide) hcore hmoved hcq fun t ht => ((fdb_of_completion ht).2 _ (by decide) (by decide)).trans hbit

/-- An entry that is there is replaced with flag bit 0 alone (R271). -/
theorem fdbInsert_present {p : Nat} {d : FdbEntry} (h : fdbFind s.fdb.entries e.vlan e.mac = some (p, d)) (hb : d.bad = false) :
    (bitOf c.flags 0 = false → s.answers (.fdbInsert c) 0x20 c (CmdRes.of .exists)) ∧
    (bitOf c.flags 0 = true → s.ends (.fdbInsert c) 0x20 c CmdRes.ok [.fdb, .pair] (regsOf ["FDB_USED", "PAIR_MIRROR_LEVEL"])
      fun t => t.fdb.entries = mapPut s.fdb.entries p { e with born := s.fdb.changes }) := by
  have hcore := coreFdbInsert_present hok he h hb
  refine ⟨fun hf => fdb_answers rfl (by decide) ha (hcore.trans (if_neg (by simp [hf]))), fun hf => ?_⟩
  exact fdb_ends_put rfl (by decide) ha (e := e) (hcore.trans (if_pos hf))

end Insert

/-! ### FDB_DELETE, FDB_AGE_DELETE and FDB_SEARCH -/

section Key

variable {s : State} {c : CmdIn} {found : Option (Nat × FdbEntry)}
  (hfound : found = fdbFind s.fdb.entries (leAt c.input 6 2) (beAt c.input 0 6))
include hfound

/-- FDB_DELETE (R271). -/
theorem fdbDelete_role (ha : s.accepts 0x21 c) :
    (fdbKeyOk c.input = false → s.answers (.fdbDelete c) 0x21 c CmdRes.input) ∧
    (fdbKeyOk c.input = true → (found = none → s.answers (.fdbDelete c) 0x21 c (CmdRes.of .notFound)) ∧
      ∀ p e, found = some (p, e) → (e.bad = true → s.ends (.fdbDelete c) 0x21 c (CmdRes.of .parity) [.fdb] (regsOf ["FDB_STATUS",
          "FDB_USED", "FDB_PARITY_LOC", "FDB_PARITY_CNT"]) fun t => t.fdb.entries = mapDel s.fdb.entries p ∧ t.bit Reg.FDB_STATUS_PARITY = true) ∧
        (e.bad = false → s.ends (.fdbDelete c) 0x21 c CmdRes.ok [.fdb, .pair] (regsOf ["FDB_USED", "PAIR_MIRROR_LEVEL"])
          fun t => t.fdb.entries = mapDel s.fdb.entries p)) := by
  subst hfound
  refine ⟨fun h => fdb_answers rfl (by decide) ha (if_pos (by simp [h])), fun hok => ⟨fun h => fdb_answers rfl (by decide) ha ?_,
    fun p e h => ⟨fun hb => fdb_ends_parity rfl (by decide) ha ?_, fun hb => fdb_ends_removed rfl (by decide) ha (e := e) ?_⟩⟩⟩
  all_goals unfold coreFdbDelete; rw [if_neg (by simp [hok])]
  · rw [fdbAccess_absent h] <;> rfl
  · rw [fdbAccess_bad h hb] <;> rfl
  · rw [fdbAccess_good h hb]

/-- FDB_AGE_DELETE (R261). -/
theorem fdbAgeDelete_role (ha : s.accepts 0x22 c) :
    (fdbKeyOk c.input = false → s.answers (.fdbAgeDelete c) 0x22 c CmdRes.input) ∧
    (fdbKeyOk c.input = true → (found = none → s.answers (.fdbAgeDelete c) 0x22 c (CmdRes.of .notFound)) ∧
      ∀ p e, found = some (p, e) → (e.bad = true → s.ends (.fdbAgeDelete c) 0x22 c (CmdRes.of .parity) [.fdb] (regsOf ["FDB_STATUS",
          "FDB_USED", "FDB_PARITY_LOC", "FDB_PARITY_CNT"]) fun t => t.fdb.entries = mapDel s.fdb.entries p ∧ t.bit Reg.FDB_STATUS_PARITY = true) ∧
        (e.bad = false → e.hit = true → s.answers (.fdbAgeDelete c) 0x22 c { CmdRes.ok with result := [1] }) ∧
        (e.bad = false → e.hit = false → s.ends (.fdbAgeDelete c) 0x22 c { CmdRes.ok with result := [0] } [.fdb, .pair]
          (regsOf ["FDB_USED", "PAIR_MIRROR_LEVEL"]) fun t => t.fdb.entries = mapDel s.fdb.entries p)) := by
  subst hfound
  refine ⟨fun h => fdb_answers rfl (by decide) ha (if_pos (by simp [h])), fun hok => ⟨fun h => fdb_answers rfl (by decide) ha ?_,
    fun p e h => ⟨fun hb => fdb_ends_parity rfl (by decide) ha ?_, fun hb hhit => fdb_answers rfl (by decide) ha ?_,
      fun hb hhit => fdb_ends_removed rfl (by decide) ha (e := e) ?_⟩⟩⟩
  all_goals unfold coreFdbAgeDelete; rw [if_neg (by simp [hok])]
  · rw [fdbAccess_absent h] <;> rfl
  · rw [fdbAccess_bad h hb] <;> rfl
  · rw [fdbAccess_good h hb]
    exact if_pos hhit
  · rw [fdbAccess_good h hb]
    exact if_neg (by simp [hhit])

/-- FDB_SEARCH (R271). -/
theorem fdbSearch_role (ha : s.accepts 0x23 c) :
    (fdbKeyOk c.input = false → s.answers (.fdbSearch c) 0x23 c CmdRes.input) ∧
    (fdbKeyOk c.input = true → (found = none → s.answers (.fdbSearch c) 0x23 c (CmdRes.of .notFound)) ∧
      ∀ p e, found = some (p, e) → (e.bad = true → s.ends (.fdbSearch c) 0x23 c (CmdRes.of .parity) [.fdb] (regsOf ["FDB_STATUS",
          "FDB_USED", "FDB_PARITY_LOC", "FDB_PARITY_CNT"]) fun t => t.fdb.entries = mapDel s.fdb.entries p ∧ t.bit Reg.FDB_STATUS_PARITY = true) ∧
        (e.bad = false → s.answers (.fdbSearch c) 0x23 c { CmdRes.ok with result := fdbBytes e })) := by
  subst hfound
  refine ⟨fun h => fdb_answers rfl (by decide) ha (if_pos (by simp [h])), fun hok => ⟨fun h => fdb_answers rfl (by decide) ha ?_,
    fun p e h => ⟨fun hb => fdb_ends_parity rfl (by decide) ha ?_, fun hb => fdb_answers rfl (by decide) ha ?_⟩⟩⟩
  all_goals unfold coreFdbSearch; rw [if_neg (by simp [hok])]
  · rw [fdbAccess_absent h] <;> rfl
  · rw [fdbAccess_bad h hb] <;> rfl
  · rw [fdbAccess_good h hb]

end Key

end Sys2Proof.Machine
end

section
/-! FDB_NEXT and FDB_FLUSH (R260, R272, R273, R275, R442). -/

-- One proof at a time: side by side they take more threads than the memory bound of the check leaves room for.
set_option Elab.async false

namespace Sys2Proof.Machine

/-! ### Sorted maps -/

section Sorted

variable {α : Type} {m : SMap α}

/-- A sorted map lists every key once: what it lists is what it finds. -/
theorem mapFind_of_mem (h : mapSorted m = true) {e : Nat × α} (he : e ∈ m) : mapFind m e.1 = some e.2 := by
  induction m with
  | nil => cases he
  | cons x m ih =>
    obtain ⟨k, v⟩ := x
    have hpair := (mapSorted_iff _).mp h
    rw [List.map_cons, List.pairwise_cons] at hpair
    obtain ⟨hlt, htail⟩ := hpair
    rcases List.mem_cons.mp he with rfl | he
    · exact if_pos rfl
    · have hk : k < e.1 := hlt _ (List.mem_map.mpr ⟨e, he, rfl⟩)
      rw [mapFind, if_neg (by omega)]
      exact ih ((mapSorted_iff m).mpr htail) he

/-- Two entries of one key are one. -/
theorem eq_of_key_eq (h : mapSorted m = true) {a b : Nat × α} (ha : a ∈ m) (hb : b ∈ m) (hk : a.1 = b.1) : a = b := by
  have hf := mapFind_of_mem h ha
  rw [hk, mapFind_of_mem h hb] at hf
  exact Prod.ext hk (Option.some.inj hf).symm

end Sorted

/-- A run of puts that agree leaves each of them. -/
theorem mapFind_puts {α β : Type} (key : α → Nat) (val : α → β) (l : List α) (hagree : ∀ a ∈ l, ∀ b ∈ l, key a = key b → val a = val b) :
    ∀ (m : SMap β) (a : α), a ∈ l ∨ (mapFind m (key a) = some (val a) ∧ ∀ b ∈ l, key a = key b → val a = val b) →
      mapFind (l.foldl (fun m a => mapPut m (key a) (val a)) m) (key a) = some (val a) := by
  induction l with
  | nil => exact fun m a h => (h.resolve_left (by simp)).1
  | cons x l ih =>
    intro m a h
    have hin := ih fun a ha b hb => hagree a (List.mem_cons_of_mem _ ha) b (List.mem_cons_of_mem _ hb)
    rw [List.foldl_cons]
    refine hin _ a ?_
    by_cases hal : a ∈ l
    · exact .inl hal
    · have hall : ∀ b ∈ x :: l, key a = key b → val a = val b := by
        rcases h with h | ⟨-, h⟩
        · exact hagree a h
        · exact h
      refine .inr ⟨?_, fun b hb => hall b (List.mem_cons_of_mem _ hb)⟩
      rw [mapFind_put_if]
      split
      next hk => rw [hall x List.mem_cons_self hk]
      next hk =>
        rcases h with h | ⟨h, -⟩
        · rcases List.mem_cons.mp h with rfl | h
          · exact absurd rfl hk
          · exact absurd h hal
        · exact h

/-- A walk visits what the list holds. -/
theorem mem_of_walkFrom {α : Type} (n : Nat) : ∀ (after : Option Nat) (l : List (Nat × α)), ∀ x ∈ walkFrom n after l, x ∈ l := by
  have hmin (xs : List (Nat × α)) : ∀ x : Nat × α, xs.foldl (fun a e => if e.1 < a.1 then e else a) x ∈ x :: xs := by
    induction xs with
    | nil => exact fun x => List.mem_cons_self
    | cons y xs ih =>
      intro x
      rw [List.foldl_cons]
      have hstep := ih (if y.1 < x.1 then y else x)
      rcases List.mem_cons.mp hstep with h | h
      · rw [h]
        split <;> simp
      · exact List.mem_cons_of_mem _ (List.mem_cons_of_mem _ h)
  induction n with
  | zero => exact fun _ _ x hx => by cases hx
  | succ n ih =>
    intro after l x hx
    rw [walkFrom] at hx
    dsimp only at hx
    have hfilter : ∀ p : Nat × α → Bool, ∀ y ∈ l.filter p, y ∈ l := fun p y hy => (List.mem_filter.mp hy).1
    generalize hlater : (l.filter fun e => match after with | some k => decide (k < e.1) | none => true) = later at hx
    have hsub : ∀ y ∈ later, y ∈ l := hlater ▸ hfilter _
    cases later with
    | nil => cases hx
    | cons y ys =>
      dsimp only at hx
      rcases List.mem_cons.mp hx with rfl | hx
      · exact hsub _ (hmin ys y)
      · exact hsub _ (ih _ _ x hx)

/-! ### FDB_NEXT -/

section Next

variable {s : State} {c : CmdIn} (ha : s.accepts 0x24 c)
include ha

theorem fdbNext_field (h : c.param < 1 ∨ 16 < c.param) : s.answers (.fdbNext c) 0x24 c CmdRes.field :=
  fdb_answers rfl (by decide) ha (if_pos (by simpa using h))

variable (hlo : 1 ≤ c.param) (hhi : c.param ≤ 16) (hin : if bitOf c.flags 0 then allZero c.input = true else fdbKeyOk c.input = true)
  {got : List (Nat × Nat × FdbEntry)}
  (hgot : got = walkFrom (c.param + 1) (if bitOf c.flags 0 then none else some (fdbKeyNat (leAt c.input 6 2) (beAt c.input 0 6)))
    (s.fdb.entries.map fun e => (fdbKeyNat e.2.vlan e.2.mac, e)))
include hlo hhi hin hgot

/-- The state in which the hit bits of a list of entries are clear. -/
def State.unhit (s : State) (l : List (Nat × FdbEntry)) : State :=
  { s with fdb := { s.fdb with entries := l.foldl (fun m e => mapPut m e.1 { e.2 with hit := false }) s.fdb.entries } }

omit ha in
theorem coreFdbNext_eq : coreFdbNext c s = match ((got.take c.param).map (·.2)).find? fun e => e.2.bad with
    | some e => (CmdRes.of .parity, s.fdbParity e.1)
    | none => ({ CmdRes.ok with end_ := got.length ≤ c.param, result := leBytes 1 ((got.take c.param).map (·.2)).length
                                out := ((got.take c.param).map (·.2)).flatMap fun e => fdbBytes e.2 },
        if bitOf c.flags 1 then s.unhit ((got.take c.param).map (·.2)) else s) := by
  subst hgot
  unfold coreFdbNext
  dsimp only
  rw [if_neg (by simp; omega)]
  refine (if_neg ?_).trans rfl
  cases hf : bitOf c.flags 0 <;> simp_all

/-- FDB_NEXT that comes to a failing entry (R275). -/
theorem fdbNext_parity {g : Nat × Nat × FdbEntry} (h : (got.take c.param).find? (fun g => g.2.2.bad) = some g) :
    s.ends (.fdbNext c) 0x24 c (CmdRes.of .parity) [.fdb]
      (regsOf ["FDB_STATUS", "FDB_USED", "FDB_PARITY_LOC", "FDB_PARITY_CNT"]) fun t =>
        t.fdb.entries = mapDel s.fdb.entries g.2.1 ∧ t.bit Reg.FDB_STATUS_PARITY = true := by
  refine fdb_ends_parity rfl (by decide) ha ?_
  have hfind : ((got.take c.param).map (·.2)).find? (fun e => e.2.bad) = some g.2 := by
    rw [List.find?_map]
    exact congrArg (Option.map _) h
  rw [coreFdbNext_eq hlo hhi hin hgot, hfind]

/-- FDB_NEXT (R260, R272). -/
theorem fdbNext_answers (hsorted : mapSorted s.fdb.entries = true) (hgood : ∀ g ∈ got.take c.param, g.2.2.bad = false) :
    s.ends (.fdbNext c) 0x24 c { CmdRes.ok with
        end_ := got.length ≤ c.param, result := leBytes 1 (min c.param got.length)
        out := (got.take c.param).flatMap fun e => fdbBytes e.2.2 } [.fdb] (keysOf []) fun t =>
      (bitOf c.flags 1 = false → t.fdb = s.fdb) ∧
      (bitOf c.flags 1 = true → ∀ g ∈ got.take c.param, mapFind t.fdb.entries g.2.1 = some { g.2.2 with hit := false }) := by
  have hcore := coreFdbNext_eq hlo hhi hin hgot
  have hnone : ((got.take c.param).map (·.2)).find? (fun e => e.2.bad) = none := by
    rw [List.find?_eq_none]
    intro e he
    obtain ⟨g, hg, rfl⟩ := List.mem_map.mp he
    simp [hgood g hg]
  rw [hnone] at hcore
  dsimp only at hcore
  rw [List.length_map, List.length_take, List.flatMap_map] at hcore
  have hmem : ∀ e ∈ (got.take c.param).map (·.2), e ∈ s.fdb.entries := by
    intro e he
    obtain ⟨g, hg, rfl⟩ := List.mem_map.mp he
    have hw := mem_of_walkFrom _ _ _ g (hgot ▸ List.mem_of_mem_take hg)
    obtain ⟨d, hd, rfl⟩ := List.mem_map.mp hw
    exact hd
  have hfound : ∀ g ∈ got.take c.param,
      mapFind (s.unhit ((got.take c.param).map (·.2))).fdb.entries g.2.1 = some { g.2.2 with hit := false } := by
    intro g hg
    refine mapFind_puts (fun e : Nat × FdbEntry => e.1) (fun e => { e.2 with hit := false }) _ (fun a ha b hb hk => ?_) _ g.2
      (.inl (List.mem_map.mpr ⟨g, hg, rfl⟩))
    rw [eq_of_key_eq hsorted (hmem a ha) (hmem b hb) hk]
  have hmoved : s.only (if bitOf c.flags 1 then s.unhit ((got.take c.param).map (·.2)) else s) [.fdb] (keysOf []) := by
    split
    · exact keep_part (only_id s _ _) rfl fun q hq => by cases q <;> simp_all [Part.same, State.unhit]
    · exact only_id s _ _
  have hget : (if bitOf c.flags 1 then s.unhit ((got.take c.param).map (·.2)) else s).get (Reg.RING_CFG_CQ c.ring) =
      s.get (Reg.RING_CFG_CQ c.ring) := by
    split <;> rfl
  have hoff : bitOf c.flags 1 = false → (if bitOf c.flags 1 then s.unhit ((got.take c.param).map (·.2)) else s) = s :=
    fun hf => if_neg (by simp [hf])
  have hon : bitOf c.flags 1 = true → (if bitOf c.flags 1 then s.unhit ((got.take c.param).map (·.2)) else s) =
      s.unhit ((got.take c.param).map (·.2)) := fun hf => if_pos hf
  generalize (if bitOf c.flags 1 then s.unhit ((got.take c.param).map (·.2)) else s) = u at *
  refine ends_of_core rfl ha (by decide) hcore hmoved hget fun t ht => ?_
  have hfdb := (fdb_of_completion ht).1
  refine ⟨fun hf => by rw [hfdb, hoff hf], fun hf g hg => ?_⟩
  rw [hfdb, hon hf]
  exact hfound g hg

end Next

/-! ### FDB_FLUSH -/

theorem fdbFlush_routine : ∀ o, opInfo 0x25 = some o → o.routine = some .fdbFlush := by decide

/-- The run of a flush, without failing entries: what it removes. -/
def State.fdbSwept (s : State) (gone : Nat × FdbEntry → Bool) (l : List (Nat × FdbEntry)) : State :=
  (l.filter gone).foldl (fun s e => s.fdbRemove e.1 e.2) s

/-- A removal takes the entry at its place. -/
theorem entries_fdbRemove (s : State) (p : Nat) (e : FdbEntry) : (s.fdbRemove p e).fdb.entries = mapDel s.fdb.entries p := by
  rw [State.fdbRemove, fdb_mirrorFdb]
  rfl

/-- The entries at the places of a list are removed. -/
theorem entries_fdbRemoves (l : List (Nat × FdbEntry)) : ∀ s : State,
    (l.foldl (fun s e => s.fdbRemove e.1 e.2) s).fdb.entries = s.fdb.entries.filter fun x => !l.any fun e => x.1 == e.1 := by
  induction l with
  | nil => exact fun s => by simp
  | cons e l ih =>
    intro s
    rw [List.foldl_cons, ih, entries_fdbRemove, mapDel, List.filter_filter]
    refine List.filter_congr fun x _ => ?_
    rw [List.any_cons, Bool.not_or, Bool.and_comm]
    rfl

/-- In a sorted table, what the run removes is what it names. -/
theorem entries_fdbSwept {s : State} (h : mapSorted s.fdb.entries = true) (gone : Nat × FdbEntry → Bool) :
    (s.fdbSwept gone s.fdb.entries).fdb.entries = s.fdb.entries.filter fun e => !gone e := by
  rw [State.fdbSwept, entries_fdbRemoves]
  refine List.filter_congr fun x hx => ?_
  congr 1
  rw [Bool.eq_iff_iff, List.any_eq_true]
  constructor
  · rintro ⟨e, he, hk⟩
    obtain ⟨hmem, hgone⟩ := List.mem_filter.mp he
    rwa [eq_of_key_eq h hx hmem (beq_iff_eq.mp hk)]
  · exact fun hg => ⟨x, List.mem_filter.mpr ⟨hx, hg⟩, beq_self_eq_true _⟩

theorem only_fdbSwept (s : State) (gone : Nat × FdbEntry → Bool) (l : List (Nat × FdbEntry)) :
    s.only (s.fdbSwept gone l) [.fdb, .pair] (regsOf ["FDB_USED", "PAIR_MIRROR_LEVEL"]) :=
  only_foldl (fun s (e : Nat × FdbEntry) => s.fdbRemove e.1 e.2) (fun s e => frame_fdbRemove s e.1 e.2) _ s

/-- One entry that a flush visits. -/
def flushVisit (c : CmdIn) (began from_ to_ : Nat) (r : (Nat × Bool) × State) (e : Nat × FdbEntry) : (Nat × Bool) × State :=
  let home := (fdbBuckets e.2.vlan e.2.mac).1
  if home < from_ || to_ ≤ home then r
  else if e.2.bad then ((r.1.1, true), r.2.fdbParity e.1)
  else if flushMatches c began e.2 then ((r.1.1 + 1, r.1.2), r.2.fdbRemove e.1 e.2)
  else r

theorem fdbFlushRange_eq (s : State) (c : CmdIn) (began from_ to_ : Nat) :
    s.fdbFlushRange c began from_ to_ = s.fdb.entries.foldl (flushVisit c began from_ to_) ((0, false), s) := rfl

/-- Every home place is one of the table's. -/
theorem fdbBuckets_lt (v a : Nat) : (fdbBuckets v a).1 < 524288 := by
  unfold fdbBuckets
  dsimp only
  omega

/-- A run to the table's end removes what matches from its first place on, and counts it. -/
theorem flushVisits_eq (c : CmdIn) (began first : Nat) (l : List (Nat × FdbEntry)) (hgood : ∀ e ∈ l, e.2.bad = false)
    {gone : Nat × FdbEntry → Bool} (hgone : gone = fun e => flushMatches c began e.2 && decide (first ≤ (fdbBuckets e.2.vlan e.2.mac).1)) :
    ∀ (n : Nat) (b : Bool) (s : State), l.foldl (flushVisit c began first 524288) ((n, b), s) =
      ((n + (l.filter gone).length, b), s.fdbSwept gone l) := by
  induction l with
  | nil => exact fun _ _ _ => rfl
  | cons e l ih =>
    intro n b s
    have hlt := fdbBuckets_lt e.2.vlan e.2.mac
    have hbad : e.2.bad = false := hgood e List.mem_cons_self
    have hrest := ih fun e he => hgood e (List.mem_cons_of_mem _ he)
    have hvisit : flushVisit c began first 524288 ((n, b), s) e =
        if gone e then ((n + 1, b), s.fdbRemove e.1 e.2) else ((n, b), s) := by
      unfold flushVisit
      dsimp only
      subst hgone
      by_cases hfirst : first ≤ (fdbBuckets e.2.vlan e.2.mac).1
      · rw [if_neg (by simp; omega), if_neg (by simp [hbad])]
        simp only [hfirst, decide_true, Bool.and_true]
      · rw [if_pos (by simp; omega)]
        simp only [hfirst, decide_false, Bool.and_false]
        rfl
    rw [List.foldl_cons, hvisit]
    unfold State.fdbSwept
    rw [List.filter_cons]
    by_cases hg : gone e = true
    · rw [if_pos hg, if_pos hg, hrest, List.length_cons, List.foldl_cons, Nat.add_assoc, Nat.add_comm 1]
      rfl
    · rw [if_neg hg, if_neg hg, hrest]
      rfl

section Flush

variable {s : State} {c : CmdIn}

/-- A flush that ends at once (R273). -/
theorem fdbFlush_atOnce (ha : s.accepts 0x25 c) {r : CmdRes} (hcore : coreFdbFlush c s = (r, s)) (honce : fdbFlushAtOnce c s = true) :
    s.ends (.fdbFlush c) 0x25 c r [.reck] (keysOf []) fun t => t.fdb = s.fdb :=
  ends_at_once rfl fdbFlush_routine ha honce hcore (only_id s _ _) (by simp) rfl fun _ ht => ht.1 .fdb (by simp)

/-- FDB_FLUSH removes what its routine has still to visit (R273). -/
theorem fdbFlush_removes (ha : s.acceptsLong 0x25 c) (hok : s.fdbFlushOk c = true) (hsorted : mapSorted s.fdb.entries = true)
    (hgood : ∀ e ∈ s.fdb.entries, e.2.bad = false) {began first before : Nat} {gone : Nat × FdbEntry → Bool}
    (hroutine : (s.begunRoutine .fdbFlush c = none ∧ (s.routineOf .fdbFlush c = none → s.otherRuns .fdbFlush c = false) ∧
        began = s.fdb.changes ∧ first = 0 ∧ before = 0) ∨
      (∃ r, s.begunRoutine .fdbFlush c = some r ∧ r.met = false ∧ began = r.began ∧ first = r.progress * 4096 ∧ before = r.removed))
    (hgone : gone = fun e => flushMatches c began e.2 && decide (first ≤ (fdbBuckets e.2.vlan e.2.mac).1)) :
    s.ends (.fdbFlush c) 0x25 c { CmdRes.ok with result := leBytes 4 (before + (s.fdb.entries.filter gone).length) }
      [.fdb, .pair, .reck] (regsOf ["FDB_USED", "PAIR_MIRROR_LEVEL"]) fun t =>
      t.fdb.entries = s.fdb.entries.filter fun e => !gone e := by
  have hfree : ((s.routineOf .fdbFlush c).isNone && s.otherRuns .fdbFlush c) = false := by
    rcases hroutine with ⟨-, h, -⟩ | ⟨r, h, -⟩
    · cases hr : s.routineOf .fdbFlush c with
      | none => simpa using h hr
      | some r => rfl
    · have hsome : (s.routineOf .fdbFlush c).isSome = true := by
        cases hr : s.routineOf .fdbFlush c with
        | none => simp [State.begunRoutine, hr] at h
        | some r => rfl
      rw [Option.isNone_eq_false_iff.mpr hsome, Bool.false_and]
  have hcore : coreFdbFlush c s = ({ CmdRes.ok with result := leBytes 4 (before + (s.fdb.entries.filter gone).length) },
      s.fdbSwept gone s.fdb.entries) := by
    have hrun := flushVisits_eq c began first s.fdb.entries hgood hgone 0 false s
    rw [← fdbFlushRange_eq, Nat.zero_add] at hrun
    unfold coreFdbFlush
    rw [if_neg (by simp [hok]), if_neg (by simp [hfree])]
    rcases hroutine with ⟨h, -, h1, h2, h3⟩ | ⟨r, h, hmet, h1, h2, h3⟩
    · subst h1 h2 h3
      rw [h]
      dsimp only
      rw [hrun] <;> rfl
    · subst h1 h2 h3
      rw [h]
      dsimp only
      rw [hrun, hmet] <;> rfl
  have hmoved := only_fdbSwept s gone s.fdb.entries
  have hentries := entries_fdbSwept hsorted gone
  generalize s.fdbSwept gone s.fdb.entries = u at *
  have hu : s.only u [.fdb, .pair, .reck] (regsOf ["FDB_USED", "PAIR_MIRROR_LEVEL"]) := only_widen hmoved (by simp) (by simp)
  refine ends_of_long rfl fdbFlush_routine ha hcore hu (by simp) (cq_of_only hu (by simp) _) fun t ht => ?_
  have hfdb : t.fdb = u.fdb := ht.1 .fdb (by simp)
  rw [hfdb, hentries]

end Flush

/-- Settles O36: the FDB commands of one key, FDB_NEXT, and FDB_FLUSH. -/
theorem fdbCommandsKeepTheTable : Obligations.FdbCommandsKeepTheTable := by
  unfold Obligations.FdbCommandsKeepTheTable
  intro s c
  refine ⟨fun ha => ⟨fdbInsert_input ha, fun e hok he => ⟨fun h => ⟨fdbInsert_parity ha hok he h,
      fun m p hmet hroom => fdbInsert_inserts ha hok he h hmet hroom, fdbInsert_full ha hok he h⟩,
      fun p d h hb => fdbInsert_present ha hok he h hb⟩⟩, ?_, ?_, fun ha => ⟨fun hok => ?_, fun hok hnone hother => ?_⟩, ?_⟩
  · rintro found lost hfound rfl
    exact ⟨fdbDelete_role hfound, fdbAgeDelete_role hfound, fdbSearch_role hfound⟩
  · refine fun ha => ⟨fdbNext_field ha, fun hlo hhi hin hsorted got hgot => ⟨fun g hg => fdbNext_parity ha hlo hhi hin hgot hg, fun hgood =>
      fdbNext_answers ha hlo hhi hin hgot hsorted hgood⟩⟩
  · exact fdbFlush_atOnce ha (if_pos (by simp [hok])) (by simp [fdbFlushAtOnce, hok])
  · refine fdbFlush_atOnce ha ?_ (by simp [fdbFlushAtOnce, hnone, hother])
    unfold coreFdbFlush
    rw [if_neg (by simp [hok]), if_pos (by simp [hnone, hother])]
  · exact fun ha hok hsorted hgood began first before gone hroutine hgone =>
      fdbFlush_removes ha hok hsorted hgood hroutine hgone

end Sys2Proof.Machine
end

section
/-! The forwarding lookup of a frame (Table 1-4, step 7; R243, R250, R252, R262, R269). -/

-- One proof at a time: side by side they take more threads than the memory bound of the check leaves room for.
set_option Elab.async false

namespace Sys2Proof.Machine

/-! ### Frames dropped after their lookup -/

/-- What is left of a frame that is dropped. -/
theorem frame_of_dropFrame {s : State} {f : Nat} {x : Frame} (hx : s.frame f = some x) :
    ∀ y, (s.dropFrame f).frame f = some y → y = x.discarded := by
  intro y hy
  rw [dropFrame_eq hx] at hy
  generalize x.beads.foldl State.dropBead (s.leaveClassify f x) = u at *
  rw [freeLists_frame, frame_of_reap (frame_setFrame_self u f x.discarded)] at hy
  split at hy
  · cases hy
  · exact (Option.some.inj hy).symm

/-- A frame dropped under RX_DROP_OTHER (Table 3-17). -/
theorem dropOther_spec {s : State} {f : Nat} {x : Frame} (hx : s.frame f = some x) : (s.dropOther f).dropped f x.beads ∧
    ∀ y, (s.dropOther f).frame f = some y → y.dropOther = true := by
  unfold State.dropOther
  rw [hx]
  dsimp only
  generalize (if x.ended && x.spanIn.isNone then s.count x.port 60 1 else s) = u
  have hself := frame_setFrame_self u f { x with dropOther := true }
  generalize u.setFrame f { x with dropOther := true } = v at *
  have hdropped := dropped_dropFrame hself
  refine ⟨hdropped, fun y hy => ?_⟩
  rw [frame_of_dropFrame hself y hy]
  rfl

/-! ### What the lookups keep of a frame -/

/-- Two records of a frame with the same mark, destination, bytes and beads. -/
structure Frame.SameLook (x y : Frame) : Prop where
  mark : y.mark = x.mark
  destKind : y.destKind = x.destKind
  dest : y.dest = x.dest
  punt : y.punt = x.punt
  beads : y.beads = x.beads
  bytes : y.bytes = x.bytes
  port : y.port = x.port

theorem Frame.SameLook.refl (x : Frame) : x.SameLook x := ⟨rfl, rfl, rfl, rfl, rfl, rfl, rfl⟩

theorem Frame.SameLook.trans {x y z : Frame} (h : x.SameLook y) (k : y.SameLook z) : x.SameLook z :=
  ⟨k.mark.trans h.mark, k.destKind.trans h.destKind, k.dest.trans h.dest, k.punt.trans h.punt, k.beads.trans h.beads,
    k.bytes.trans h.bytes, k.port.trans h.port⟩

/-- A change outside the path leaves the frames. -/
theorem frame_of_only {s t : State} {P : List Part} {m : Keys} (h : s.only t P m) (hp : Part.path ∉ P) (f : Nat) : t.frame f = s.frame f :=
  congrArg (fun p : PathSt => mapFind p.frames f) (h.1 .path hp)

theorem fixCopies_sameLook {s : State} {f : Nat} {x : Frame} (hx : s.frame f = some x) :
    ∃ y, (s.fixCopies f).frame f = some y ∧ x.SameLook y := by
  unfold State.fixCopies
  rw [hx]
  dsimp -zeta only
  generalize s.planCopies x = planned
  obtain ⟨l, u⟩ := planned
  dsimp -zeta only
  generalize limitCopies 255 l = limited
  obtain ⟨plan, extra⟩ := limited
  dsimp -zeta only
  extract_lets
  split
  · exact ⟨_, mapFind_put_self .., rfl, rfl, rfl, rfl, rfl, rfl, rfl⟩
  · exact ⟨_, mapFind_put_self .., rfl, rfl, rfl, rfl, rfl, rfl, rfl⟩

theorem contextLookup_none {s : State} {f : Nat} {x : Frame} (hx : s.frame f = some x) (hk : s.frameKey x = none) :
    s.contextLookup f = (false, s) := by
  rw [State.contextLookup, hx]
  dsimp only
  rw [hk]

theorem contextLookup_sameLook {s : State} {f : Nat} {x : Frame} (hx : s.frame f = some x) :
    ∃ y, (s.contextLookup f).2.frame f = some y ∧ x.SameLook y := by
  unfold State.contextLookup
  rw [hx]
  dsimp -zeta only
  split
  next k _ =>
    split
    · exact ⟨x, hx, .refl x⟩
    · extract_lets u seen x'
      have hu : u.frame f = some x := by
        rw [← hx]
        unfold u
        split
        · exact frame_of_only (frame_meetCache s _) (by simp) f
        · rfl
      split
      next i pol ovr _ =>
        have h1 := frame_of_only (frame_cacheUse (u.setFrame f (attachContext x' i pol ovr)) i) (by simp) f
        have h2 : (((u.setFrame f (attachContext x' i pol ovr)).cacheUse i).satAdd Reg.FLOW_HIT_CNT_COUNT 1).frame f =
          ((u.setFrame f (attachContext x' i pol ovr)).cacheUse i).frame f := rfl
        have h3 := frame_of_only (frame_contextUpdate
          (((u.setFrame f (attachContext x' i pol ovr)).cacheUse i).satAdd Reg.FLOW_HIT_CNT_COUNT 1) f) (by simp) f
        exact ⟨_, (h3.trans (h2.trans h1)).trans (frame_setFrame_self ..), rfl, rfl, rfl, rfl, rfl, rfl, rfl⟩
      · split
        · exact ⟨x, hu, .refl x⟩
        · exact ⟨x', frame_setFrame_self .., rfl, rfl, rfl, rfl, rfl, rfl, rfl⟩
  next => exact ⟨x, hx, .refl x⟩

/-! ### The end of the lookup -/

/-- The context lookup of a frame, and what follows it (R279). -/
def State.lookedUp (s : State) (f : Nat) : State :=
  if (s.contextLookup f).1 then (s.contextLookup f).2.modFrame f fun y => { y with stage := .fetching } else (s.contextLookup f).2.pastLookup f

section LookedUp

variable {s : State} {f : Nat} {x : Frame} (hx : s.frame f = some x)
include hx

/-- A frame with a destination waits for its context, or goes on. -/
theorem lookedUp_forwards (h : x.destKind ≠ 3) : ∃ y, (s.lookedUp f).frame f = some y ∧ x.SameLook y ∧
    (y.stage = .forwarded ∨ y.stage = .fetching) := by
  obtain ⟨y, hy, hsame⟩ := contextLookup_sameLook hx
  unfold State.lookedUp
  generalize s.contextLookup f = r at *
  split
  · rw [modFrame_some hy]
    exact ⟨_, frame_setFrame_self .., hsame.trans ⟨rfl, rfl, rfl, rfl, rfl, rfl, rfl⟩, .inr rfl⟩
  · rw [State.pastLookup, hy]
    dsimp only
    rw [if_neg (by rw [hsame.destKind]; exact h)]
    exact ⟨_, frame_setFrame_self .., hsame.trans ⟨rfl, rfl, rfl, rfl, rfl, rfl, rfl⟩, .inl rfl⟩

/-- A frame that is discarded waits for its context, or is dropped (R250). -/
theorem lookedUp_discards (h : x.destKind = 3) : (∀ y, (s.lookedUp f).frame f = some y →
      (y.stage = .dropped ∧ y.beads = [] ∧ y.dropOther = true) ∨ (y.stage = .fetching ∧ y.destKind = 3)) ∧
    (s.frameKey x = none → (s.lookedUp f).dropped f x.beads) := by
  have hnone := contextLookup_none hx
  obtain ⟨y, hy, hsame⟩ := contextLookup_sameLook hx
  unfold State.lookedUp
  generalize s.contextLookup f = r at *
  have hpast : r.2.pastLookup f = r.2.dropOther f := by
    rw [State.pastLookup, hy]
    exact if_pos (hsame.destKind.trans h)
  obtain ⟨hdrop, hother⟩ := dropOther_spec hy
  refine ⟨fun z hz => ?_, fun hk => ?_⟩
  · split at hz
    · rw [modFrame_some hy, frame_setFrame_self] at hz
      obtain rfl := Option.some.inj hz
      exact .inr ⟨rfl, hsame.destKind.trans h⟩
    · rw [hpast] at hz
      obtain ⟨h1, h2⟩ := hdrop.1 z hz
      exact .inl ⟨h1, h2, hother z hz⟩
  · have hr : r.1 = false := by rw [hnone hk]
    rw [if_neg (by simp [hr]), hpast, ← hsame.beads]
    exact hdrop

end LookedUp

/-! ### A destination is fixed -/

/-- A way back without hairpin becomes a discard (R243). -/
def State.wayOut (s : State) (x : Frame) (kind dest : Nat) : Nat :=
  if kind == 0 && dest == s.logical x.port && !s.bit (Reg.FDB_PORT_CFG_HAIRPIN x.port) then 3 else kind

/-- A frame takes its destination, and its context is looked up. -/
def State.directed (s : State) (f : Nat) (x : Frame) (d : Nat × Nat × Nat) : State :=
  State.lookedUp (if s.wayOut x d.1 d.2.1 = 3 then s.setFrame f { x with destKind := s.wayOut x d.1 d.2.1, dest := d.2.1, punt := d.2.2 }
    else (s.setFrame f { x with destKind := s.wayOut x d.1 d.2.1, dest := d.2.1, punt := d.2.2 }).fixCopies f) f

section Directed

variable (s : State) (f : Nat) (x : Frame) {kind dest reason : Nat}

/-- A frame that has a way out takes it. -/
theorem directed_forwards (h3 : kind ≠ 3)
    (hway : kind ≠ 0 ∨ dest ≠ s.logical x.port ∨ s.bit (Reg.FDB_PORT_CFG_HAIRPIN x.port) = true) :
    ∃ y, (s.directed f x (kind, dest, reason)).frame f = some y ∧ y.destKind = kind ∧ y.dest = dest ∧ y.punt = reason ∧
      y.mark = x.mark ∧ (y.stage = .forwarded ∨ y.stage = .fetching) := by
  have hout : s.wayOut x kind dest = kind := by
    refine if_neg ?_
    simp only [Bool.and_eq_true, beq_iff_eq, Bool.not_eq_true', not_and, Bool.not_eq_false]
    rintro ⟨hk, hd⟩
    exact (hway.resolve_left (not_not.mpr hk)).resolve_left (not_not.mpr hd)
  unfold State.directed
  dsimp only
  rw [hout, if_neg h3]
  obtain ⟨y, hy, hsame⟩ := fixCopies_sameLook (frame_setFrame_self s f { x with destKind := kind, dest := dest, punt := reason })
  obtain ⟨z, hz, hsame', hstage⟩ := lookedUp_forwards hy (by rw [hsame.destKind]; exact h3)
  have hall := hsame.trans hsame'
  exact ⟨z, hz, hall.destKind, hall.dest, hall.punt, hall.mark, hstage⟩

/-- A frame that has none is dropped once its context lookup is done. -/
theorem directed_discards (h : kind = 3 ∨ (kind = 0 ∧ dest = s.logical x.port ∧ s.bit (Reg.FDB_PORT_CFG_HAIRPIN x.port) = false)) :
    (∀ y, (s.directed f x (kind, dest, reason)).frame f = some y →
      (y.stage = .dropped ∧ y.beads = [] ∧ y.dropOther = true) ∨ (y.stage = .fetching ∧ y.destKind = 3)) ∧
    (s.frameKey x = none → (s.directed f x (kind, dest, reason)).dropped f x.beads) := by
  have hout : s.wayOut x kind dest = 3 := by
    unfold State.wayOut
    split
    · rfl
    next hno =>
      refine h.resolve_right ?_
      rintro ⟨h0, hd, hh⟩
      exact hno (by simp [h0, hd, hh])
  unfold State.directed
  dsimp only
  rw [hout, if_pos rfl]
  have hdiscard := lookedUp_discards (frame_setFrame_self s f { x with destKind := 3, dest := dest, punt := reason }) rfl
  exact hdiscard

end Directed

/-! ### Learning from a frame comes first -/

/-- The state in which a frame has asked for learning, and has marked its source (R252, R259). -/
def State.sourced (s : State) (f : Nat) (x : Frame) : State :=
  if x.mark.fwd < 2 && (s.learnFrom f x).funcUp .fdb then
    (s.learnFrom f x).fdbHit ((s.learnFrom f x).frameVlan x.bytes x.port) (beNat (slice x.bytes 6 6))
  else s.learnFrom f x

theorem frame_sourced (s : State) (f : Nat) (x : Frame) :
    s.only (s.sourced f x) [.fdb] (regsOf ["FDB_STATUS", "FDB_USED", "FDB_PARITY_LOC", "FDB_PARITY_CNT", "FDB_LEARN_DROP_CNT"]) := by
  have hlearn : s.only (s.learnFrom f x) [.fdb] (regsOf ["FDB_STATUS", "FDB_USED", "FDB_PARITY_LOC", "FDB_PARITY_CNT",
    "FDB_LEARN_DROP_CNT"]) := only_widen (frame_learnFrom s f x) (by simp) (by simp)
  unfold State.sourced
  split
  · exact keep_of (frame_fdbHit ..) hlearn (by simp) (by simp)
  · exact hlearn

theorem entries_learnRequest (s : State) (r : LearnReq) : (s.learnRequest r).fdb.entries = s.fdb.entries := by
  unfold State.learnRequest
  extract_lets bank q r' put stale same
  split
  · rfl
  · split
    · rfl
    · split <;> rfl

theorem entries_learnFrom (s : State) (f : Nat) (x : Frame) : (s.learnFrom f x).fdb.entries = s.fdb.entries := by
  unfold State.learnFrom
  dsimp only
  split
  · exact entries_learnRequest ..
  · rfl

/-- The entry of a key where a place holds it. -/
def keyAt (m : Fdb) (v a p : Nat) : Option (Nat × FdbEntry) := match mapFind m p with
  | some e => if e.vlan = v && e.mac = a then some (p, e) else none
  | none => none

theorem fdbFind_eq (m : Fdb) (v a : Nat) : fdbFind m v a = (fdbPlaces v a).findSome? (keyAt m v a) := rfl

theorem keyAt_some {m : Fdb} {v a p : Nat} {r : Nat × FdbEntry} (h : keyAt m v a p = some r) : r.1 = p ∧ mapFind m p = some r.2 ∧
    r.2.vlan = v ∧ r.2.mac = a := by
  unfold keyAt at h
  split at h
  next e he =>
    split at h
    next hk =>
      obtain rfl := Option.some.inj h
      simp only [Bool.and_eq_true, decide_eq_true_eq] at hk
      exact ⟨rfl, he, hk⟩
    · cases h
  · cases h

/-- A key that stands nowhere else than before is found where it was. -/
theorem findSome_changed {g g' : Nat → Option (Nat × FdbEntry)} {p : Nat} {e e' : FdbEntry} (hg : ∀ q r, g q = some r → r.1 = q)
    (hsame : ∀ q, q ≠ p → g' q = g q) (hp : g' p = some (p, e')) (l : List Nat) (h : l.findSome? g = some (p, e)) :
    l.findSome? g' = some (p, e') := by
  induction l with
  | nil => cases h
  | cons q l ih =>
    by_cases hq : q = p
    · rw [List.findSome?_cons, hq, hp]
    · rw [List.findSome?_cons] at h ⊢
      rw [hsame q hq]
      cases hgq : g q with
      | none =>
        rw [hgq] at h
        exact ih h
      | some r =>
        rw [hgq] at h
        have hr := hg q r hgq
        rw [Option.some.inj h] at hr
        exact absurd hr.symm hq

/-- The hit bit of a frame's source leaves where a key is found: the entry stands there, but for its own hit bit. -/
theorem fdbFind_fdbHit (s : State) (sv sa v a : Nat) :
    (fdbFind s.fdb.entries v a = none → fdbFind (s.fdbHit sv sa).fdb.entries v a = none) ∧
    ∀ p e, fdbFind s.fdb.entries v a = some (p, e) → e.bad = false →
      ∃ h, fdbFind (s.fdbHit sv sa).fdb.entries v a = some (p, { e with hit := h }) := by
  cases hsrc : fdbFind s.fdb.entries sv sa with
  | none =>
    have heq : s.fdbHit sv sa = s := by rw [State.fdbHit, fdbAccess_absent hsrc]
    rw [heq]
    exact ⟨id, fun p e h _ => ⟨e.hit, h⟩⟩
  | some r =>
    obtain ⟨p0, e0⟩ := r
    obtain ⟨hat, hv0, ha0⟩ := fdbFind_some hsrc
    by_cases hkey : v = sv ∧ a = sa
    · obtain ⟨rfl, rfl⟩ := hkey
      rw [hsrc]
      refine ⟨nofun, fun p e h hb => ?_⟩
      obtain ⟨rfl, rfl⟩ := Prod.mk.inj (Option.some.inj h)
      have heq : (s.fdbHit v a).fdb.entries = mapPut s.fdb.entries p0 { e0 with hit := true } := by
        rw [State.fdbHit, fdbAccess_good hsrc hb]
      refine ⟨true, ?_⟩
      rw [heq, fdbFind_eq]
      refine findSome_changed (g := keyAt s.fdb.entries v a) (e := e0) (fun q r h => (keyAt_some h).1) (fun q hq => ?_) ?_ _ hsrc
      · rw [keyAt, keyAt, mapFind_put_ne _ _ (Ne.symm hq)]
      · rw [keyAt, mapFind_put_self]
        exact if_pos (by simp [hv0, ha0])
    · have hno : ¬(decide (e0.vlan = v) && decide (e0.mac = a)) = true := by
        simp only [Bool.and_eq_true, decide_eq_true_eq]
        rintro ⟨h1, h2⟩
        exact hkey ⟨h1.symm.trans hv0, h2.symm.trans ha0⟩
      have hsame : ∀ q, keyAt (s.fdbHit sv sa).fdb.entries v a q = keyAt s.fdb.entries v a q := by
        intro q
        have hother : q = p0 → keyAt s.fdb.entries v a q = none := by
          rintro rfl
          rw [keyAt, hat]
          exact if_neg hno
        cases hb : e0.bad with
        | true =>
          have heq : (s.fdbHit sv sa).fdb.entries = mapDel s.fdb.entries p0 := by
            rw [State.fdbHit, fdbAccess_bad hsrc hb]
            rfl
          rw [heq]
          by_cases hq : q = p0
          · rw [hother hq, keyAt, hq, mapFind_del_self]
          · rw [keyAt, keyAt, mapFind_del_ne _ (Ne.symm hq)]
        | false =>
          have heq : (s.fdbHit sv sa).fdb.entries = mapPut s.fdb.entries p0 { e0 with hit := true } := by
            rw [State.fdbHit, fdbAccess_good hsrc hb]
          rw [heq]
          by_cases hq : q = p0
          · rw [hother hq, keyAt, hq, mapFind_put_self]
            exact if_neg hno
          · rw [keyAt, keyAt, mapFind_put_ne _ _ (Ne.symm hq)]
      have hfind : fdbFind (s.fdbHit sv sa).fdb.entries v a = fdbFind s.fdb.entries v a := by
        rw [fdbFind_eq, fdbFind_eq]
        exact congrArg (List.findSome? · _) (funext hsame)
      rw [hfind]
      exact ⟨id, fun p e h _ => ⟨e.hit, h⟩⟩

/-- Learning from a frame leaves what its lookups find and read. -/
theorem sourced_spec (s : State) (f : Nat) (x : Frame) (v a : Nat) :
    (fdbFind s.fdb.entries v a = none → fdbFind (s.sourced f x).fdb.entries v a = none) ∧
    (∀ p e, fdbFind s.fdb.entries v a = some (p, e) → e.bad = false →
      ∃ h, fdbFind (s.sourced f x).fdb.entries v a = some (p, { e with hit := h })) := by
  have hlearn := entries_learnFrom s f x
  unfold State.sourced
  split
  · rw [← hlearn]
    exact fdbFind_fdbHit ..
  · rw [hlearn]
    exact ⟨id, fun p e h _ => ⟨e.hit, h⟩⟩

/-- What a lookup of the tables reads beside them. -/
structure SameRoutes (s t : State) : Prop where
  logical : t.logical = s.logical
  hairpin : ∀ p, t.bit (Reg.FDB_PORT_CFG_HAIRPIN p) = s.bit (Reg.FDB_PORT_CFG_HAIRPIN p)
  vlan : t.frameVlan = s.frameVlan
  key : t.frameKey = s.frameKey
  miss : t.fdbMiss = s.fdbMiss
  up : t.funcUp = s.funcUp

theorem sameRoutes_of_only {s t : State} {P : List Part} {L : List String} (h : s.only t P (regsOf L)) (hdie : Part.die ∉ P)
    (hcfg : "FDB_PORT_CFG" ∉ L) (hspan : "SPAN_CTRL" ∉ L) (hfunc : "SYS_FUNC_STATUS" ∉ L) : SameRoutes s t := by
  have hen : t.bit Reg.SPAN_CTRL_EN = s.bit Reg.SPAN_CTRL_EN :=
    congrArg (· != 0) (kept_of_only h 24 0 0 (List.mem_of_getElem? (i := 0) rfl) (a := .rw) (by simp) hspan)
  have hport {g : Nat → Fld} (p : Nat) (hg : (Access.rw, g p) ∈ [(Access.rw, Reg.FDB_PORT_CFG_MISS_GROUP p), (Access.rw, Reg.FDB_PORT_CFG_MISS_ACT p),
      (Access.rw, Reg.FDB_PORT_CFG_HAIRPIN p), (Access.rw, Reg.FDB_PORT_CFG_LEARN p), (Access.rw, Reg.FDB_PORT_CFG_PVID p)]) : t.get (g p) = s.get (g p) :=
    kept_of_only h 9 p 0 (List.mem_of_getElem? (i := 13) rfl) (a := .rw) hg hcfg
  have hvlan : t.frameVlan = s.frameVlan := by
    funext b p
    rw [State.frameVlan, State.frameVlan, hport (g := Reg.FDB_PORT_CFG_PVID) p (by simp)]
  refine ⟨?_, fun p => congrArg (· != 0) (hport p (by simp)), hvlan, ?_, ?_, ?_⟩
  · funext p
    have hbase : t.logicalBase = s.logicalBase := by rw [State.logicalBase, State.logicalBase, State.spanOn, State.spanOn, hen, h.1 .die hdie]
    rw [State.logical, State.logical, hbase]
  · funext x
    rw [State.frameKey, State.frameKey, hvlan]
  · funext p
    rw [State.fdbMiss, State.fdbMiss, hport (g := Reg.FDB_PORT_CFG_MISS_ACT) p (by simp), hport (g := Reg.FDB_PORT_CFG_MISS_GROUP) p (by simp)]
  · funext k
    rw [State.funcUp, State.funcUp, kept_of_only h 0 0 0 (List.mem_of_getElem? (i := 15) rfl) (a := .ro) (by simp) hfunc]

/-! ### Routes -/

/-- The entry that a walk comes to is a matter of the list. -/
theorem lpmWalk_entry (v6 : Bool) (addr : Nat) (l : List LpmEntry) : ∀ (b c : Bool) (s t : State),
    (lpmWalk v6 addr l b s).1 = (lpmWalk v6 addr l c t).1 := by
  induction l with
  | nil => exact fun _ _ _ _ => rfl
  | cons e l ih =>
    intro b c s t
    rw [lpmWalk, lpmWalk]
    split
    · exact ih _ _ _ _
    · rfl

theorem lpmMatch_entry {s t : State} (h : t.lpm = s.lpm) (v6 : Bool) (addr : Nat) : (t.lpmMatch v6 addr).1 = (s.lpmMatch v6 addr).1 := by
  unfold State.lpmMatch
  rw [h]
  exact lpmWalk_entry ..

/-! ### Bridging -/

section Bridging

variable {s : State} {x : Frame} (hup : s.funcUp .fdb = true)
include hup

theorem bridge_found {p : Nat} {e : FdbEntry} (h : fdbFind s.fdb.entries (s.frameVlan x.bytes x.port) (beNat (x.bytes.take 6)) = some (p, e))
    (hb : e.bad = false) : s.bridge x = ((e.kind, e.dest, if e.kind = 2 then 3 else 0), s) := by
  unfold State.bridge
  rw [if_neg (c := (!s.funcUp .fdb) = true) (by simp [hup])]
  dsimp only
  rw [fdbAccess_good h hb]

theorem bridge_missed (h : fdbFind s.fdb.entries (s.frameVlan x.bytes x.port) (beNat (x.bytes.take 6)) = none) :
    s.bridge x = (((s.fdbMiss x.port).1, (s.fdbMiss x.port).2, if (s.fdbMiss x.port).1 = 2 then 2 else 0), s) := by
  unfold State.bridge
  rw [if_neg (c := (!s.funcUp .fdb) = true) (by simp [hup])]
  dsimp only
  rw [fdbAccess_absent h]

end Bridging

theorem route_found {s : State} {x : Frame} {l3 : Nat} {e : LpmEntry} (hup : s.funcUp .lpm = true) (hl3 : (walk x.bytes).l3 = some l3)
    (h : (s.lpmMatch (walk x.bytes).v6 (if (walk x.bytes).v6 then beAt x.bytes (l3 + 24) 16 else beAt x.bytes (l3 + 16) 4)).1 = some e) :
    s.route x = ((e.kind, e.dest, if e.kind = 2 then 5 else 0),
      (s.lpmMatch (walk x.bytes).v6 (if (walk x.bytes).v6 then beAt x.bytes (l3 + 24) 16 else beAt x.bytes (l3 + 16) 4)).2.2) := by
  unfold State.route
  dsimp -zeta only
  extract_lets w
  rw [show w.l3 = some l3 from hl3]
  dsimp only
  rw [hup, if_pos rfl]
  change (match s.lpmMatch (walk x.bytes).v6 (if (walk x.bytes).v6 then beAt x.bytes (l3 + 24) 16 else beAt x.bytes (l3 + 16) 4) with
    | (hit, _, s) => _) = _
  generalize s.lpmMatch (walk x.bytes).v6 (if (walk x.bytes).v6 then beAt x.bytes (l3 + 24) 16 else beAt x.bytes (l3 + 16) 4) = r at *
  obtain ⟨o, b, u⟩ := r
  dsimp only at h
  subst h
  rfl

/-! ### FORWARDING_LOOKUP -/

section Forwarding

variable {s : State} {f : Nat} {x : Frame} (hrun : s.running = true) (hx : s.frame f = some x)
include hrun

theorem exec_forwardingLookup : exec (.forwardingLookup f) s = .next (s.forwardingLookup f).settle :=
  whenUp_running hrun fun s => s.forwardingLookup f

variable (hst : x.stage = .classified) (hturn : s.inTurn f x.port (fun y => y.stage == .classified && y.carried == x.carried) = true)
include hx hst hturn

theorem exec_forwarding (d : (Nat × Nat × Nat) × State) (hd : d = match x.mark.fwd with
    | 0 => (s.sourced f x).bridge x
    | 1 => (s.sourced f x).route x
    | _ => ((2, 0, 1), s.sourced f x)) : exec (.forwardingLookup f) s = .next (d.2.directed f x d.1).settle := by
  have heq : s.forwardingLookup f = d.2.directed f x d.1 := by
    subst hd
    unfold State.forwardingLookup
    rw [hx]
    dsimp only
    rw [if_neg (by simp [hst, hturn])]
    rfl
  rw [exec_forwardingLookup hrun, heq]

/-- A frame whose mark says PUNT. -/
theorem forwarding_punts (hfwd : 2 ≤ x.mark.fwd) : ∃ t y, exec (.forwardingLookup f) s = .next t ∧ t.frame f = some y ∧
    y.destKind = 2 ∧ y.dest = 0 ∧ y.punt = 1 ∧ y.mark = x.mark ∧ (y.stage = .forwarded ∨ y.stage = .fetching) := by
  have hexec := exec_forwarding hrun hx hst hturn ((2, 0, 1), s.sourced f x) (by
    split
    next h => omega
    next h => omega
    next => rfl)
  obtain ⟨y, hy, h1, h2, h3, h4, h5⟩ := directed_forwards (s.sourced f x) f x (kind := 2) (dest := 0) (reason := 1) (by decide) (.inl (by decide))
  exact ⟨_, y, hexec, hy, h1, h2, h3, h4, h5⟩

section Bridge

variable {vlan mac : Nat} (hvlan : vlan = s.frameVlan x.bytes x.port) (hmac : mac = beNat (x.bytes.take 6)) (hfwd : x.mark.fwd = 0)
  (hup : s.funcUp .fdb = true)
include hvlan hmac hfwd hup

/-- A frame to be bridged, whose destination has an entry. -/
theorem exec_bridged {p : Nat} {e : FdbEntry} (h : fdbFind s.fdb.entries vlan mac = some (p, e)) (hb : e.bad = false) :
    exec (.forwardingLookup f) s =
      .next ((s.sourced f x).directed f x (e.kind, e.dest, if e.kind = 2 then 3 else 0)).settle := by
  have hroutes := sameRoutes_of_only (frame_sourced s f x) (by simp) (by simp) (by simp) (by simp)
  obtain ⟨k, hfind⟩ := (sourced_spec s f x vlan mac).2 p e h hb
  refine exec_forwarding hrun hx hst hturn ((e.kind, e.dest, if e.kind = 2 then 3 else 0), s.sourced f x) ?_
  rw [hfwd]
  exact (bridge_found (e := { e with hit := k }) (by rw [hroutes.up, hup]) (by rw [hroutes.vlan, ← hvlan, ← hmac]; exact hfind) hb).symm

/-- A frame to be bridged, whose destination has none. -/
theorem exec_missed (h : fdbFind s.fdb.entries vlan mac = none) : exec (.forwardingLookup f) s =
      .next ((s.sourced f x).directed f x ((s.fdbMiss x.port).1, (s.fdbMiss x.port).2, if (s.fdbMiss x.port).1 = 2 then 2 else 0)).settle := by
  have hroutes := sameRoutes_of_only (frame_sourced s f x) (by simp) (by simp) (by simp) (by simp)
  have hfind := (sourced_spec s f x vlan mac).1 h
  refine exec_forwarding hrun hx hst hturn
    (((s.fdbMiss x.port).1, (s.fdbMiss x.port).2, if (s.fdbMiss x.port).1 = 2 then 2 else 0), s.sourced f x) ?_
  rw [hfwd, ← hroutes.miss]
  exact (bridge_missed (by rw [hroutes.up, hup]) (by rw [hroutes.vlan, ← hvlan, ← hmac]; exact hfind)).symm

/-- FORWARDING_LOOKUP of a frame to be bridged (R243, R250). -/
theorem forwarding_bridges :
    (∀ p e, fdbFind s.fdb.entries vlan mac = some (p, e) → e.bad = false → e.kind ≠ 3 →
      (e.kind ≠ 0 ∨ e.dest ≠ s.logical x.port ∨ s.bit (Reg.FDB_PORT_CFG_HAIRPIN x.port) = true) →
      ∃ t y, exec (.forwardingLookup f) s = .next t ∧ t.frame f = some y ∧ y.destKind = e.kind ∧ y.dest = e.dest ∧
        y.punt = (if e.kind = 2 then 3 else 0) ∧ (y.stage = .forwarded ∨ y.stage = .fetching)) ∧
    (∀ p e, fdbFind s.fdb.entries vlan mac = some (p, e) → e.bad = false →
      (e.kind = 3 ∨ (e.kind = 0 ∧ e.dest = s.logical x.port ∧ s.bit (Reg.FDB_PORT_CFG_HAIRPIN x.port) = false)) →
      ∃ t, exec (.forwardingLookup f) s = .next t ∧ (∀ y, t.frame f = some y → (y.stage = .dropped ∧ y.beads = [] ∧
        y.dropOther = true) ∨ (y.stage = .fetching ∧ y.destKind = 3)) ∧
        (s.frameKey x = none → t.dropped f x.beads)) ∧
    (fdbFind s.fdb.entries vlan mac = none →
      (s.get (Reg.FDB_PORT_CFG_MISS_ACT x.port) = 1 → ∃ t y, exec (.forwardingLookup f) s = .next t ∧ t.frame f = some y ∧
        y.destKind = 1 ∧ y.dest = s.get (Reg.FDB_PORT_CFG_MISS_GROUP x.port) ∧ y.punt = 0) ∧
      (s.get (Reg.FDB_PORT_CFG_MISS_ACT x.port) = 2 → ∃ t y, exec (.forwardingLookup f) s = .next t ∧ t.frame f = some y ∧
        y.destKind = 2 ∧ y.dest = 0 ∧ y.punt = 2) ∧
      (s.get (Reg.FDB_PORT_CFG_MISS_ACT x.port) = 0 → ∃ t, exec (.forwardingLookup f) s = .next t ∧
        (∀ y, t.frame f = some y → (y.stage = .dropped ∧ y.beads = []) ∨ (y.stage = .fetching ∧ y.destKind = 3)) ∧
        (s.frameKey x = none → t.dropped f x.beads))) := by
  have hroutes := sameRoutes_of_only (frame_sourced s f x) (by simp) (by simp) (by simp) (by simp)
  refine ⟨fun p e h hb h3 hway => ?_, fun p e h hb hno => ?_, fun h => ⟨fun hm => ?_, fun hm => ?_, fun hm => ?_⟩⟩
  · have hexec := exec_bridged hrun hx hst hturn hvlan hmac hfwd hup h hb
    obtain ⟨y, hy, h1, h2, h3, -, h5⟩ := directed_forwards (s.sourced f x) f x (reason := if e.kind = 2 then 3 else 0) h3
      (by rwa [hroutes.logical, hroutes.hairpin])
    exact ⟨_, y, hexec, hy, h1, h2, h3, h5⟩
  · have hexec := exec_bridged hrun hx hst hturn hvlan hmac hfwd hup h hb
    obtain ⟨h1, h2⟩ := directed_discards (s.sourced f x) f x (reason := if e.kind = 2 then 3 else 0)
      (by rwa [hroutes.logical, hroutes.hairpin])
    exact ⟨_, hexec, h1, fun hk => h2 (by rw [hroutes.key, hk])⟩
  · have hexec := exec_missed hrun hx hst hturn hvlan hmac hfwd hup h
    have hmiss : s.fdbMiss x.port = (1, s.get (Reg.FDB_PORT_CFG_MISS_GROUP x.port)) := by rw [State.fdbMiss, hm] <;> rfl
    rw [hmiss] at hexec
    obtain ⟨y, hy, h1, h2, h3, -, -⟩ := directed_forwards (s.sourced f x) f x (kind := 1) (dest := s.get (Reg.FDB_PORT_CFG_MISS_GROUP x.port))
      (reason := 0) (by decide) (.inl (by decide))
    exact ⟨_, y, hexec, hy, h1, h2, h3⟩
  · have hexec := exec_missed hrun hx hst hturn hvlan hmac hfwd hup h
    have hmiss : s.fdbMiss x.port = (2, 0) := by rw [State.fdbMiss, hm] <;> rfl
    rw [hmiss] at hexec
    obtain ⟨y, hy, h1, h2, h3, -, -⟩ := directed_forwards (s.sourced f x) f x (kind := 2) (dest := 0) (reason := 2) (by decide) (.inl (by decide))
    exact ⟨_, y, hexec, hy, h1, h2, h3⟩
  · have hexec := exec_missed hrun hx hst hturn hvlan hmac hfwd hup h
    have hmiss : s.fdbMiss x.port = (3, 0) := by rw [State.fdbMiss, hm] <;> rfl
    rw [hmiss] at hexec
    obtain ⟨h1, h2⟩ := directed_discards (s.sourced f x) f x (kind := 3) (dest := 0) (reason := 0) (.inl rfl)
    exact ⟨_, hexec, fun y hy => (h1 y hy).imp_left fun ⟨k1, k2, _⟩ => ⟨k1, k2⟩, fun hk => h2 (by rw [hroutes.key, hk])⟩

end Bridge

/-- FORWARDING_LOOKUP of a frame to be routed, whose address has a route (R262, R269). -/
theorem forwarding_routes {l3 : Nat} {e : LpmEntry} (hfwd : x.mark.fwd = 1) (hl3 : (walk x.bytes).l3 = some l3) (hup : s.funcUp .lpm = true)
    (hmatch : (s.lpmMatch (walk x.bytes).v6 (if (walk x.bytes).v6 then beAt x.bytes (l3 + 24) 16 else beAt x.bytes (l3 + 16) 4)).1 = some e)
    (h3 : e.kind ≠ 3) (hway : e.kind ≠ 0 ∨ e.dest ≠ s.logical x.port ∨ s.bit (Reg.FDB_PORT_CFG_HAIRPIN x.port) = true) :
    ∃ t y, exec (.forwardingLookup f) s = .next t ∧ t.frame f = some y ∧ y.destKind = e.kind ∧ y.dest = e.dest ∧
      y.punt = (if e.kind = 2 then 5 else 0) := by
  have hmoved := frame_sourced s f x
  have hroutes := sameRoutes_of_only hmoved (by simp) (by simp) (by simp) (by simp)
  have hentry := (lpmMatch_entry (hmoved.1 .lpm (by simp)) (walk x.bytes).v6
    (if (walk x.bytes).v6 then beAt x.bytes (l3 + 24) 16 else beAt x.bytes (l3 + 16) 4)).trans hmatch
  have hmoved' := frame_lpmMatch (s.sourced f x) (walk x.bytes).v6
    (if (walk x.bytes).v6 then beAt x.bytes (l3 + 24) 16 else beAt x.bytes (l3 + 16) 4)
  have hroutes' := sameRoutes_of_only hmoved' (by simp) (by simp) (by simp) (by simp)
  have hexec := exec_forwarding hrun hx hst hturn ((e.kind, e.dest, if e.kind = 2 then 5 else 0),
    ((s.sourced f x).lpmMatch (walk x.bytes).v6 (if (walk x.bytes).v6 then beAt x.bytes (l3 + 24) 16 else beAt x.bytes (l3 + 16) 4)).2.2) (by
      rw [hfwd]
      exact (route_found (by rw [hroutes.up, hup]) hl3 hentry).symm)
  generalize ((s.sourced f x).lpmMatch (walk x.bytes).v6
    (if (walk x.bytes).v6 then beAt x.bytes (l3 + 24) 16 else beAt x.bytes (l3 + 16) 4)).2.2 = u at *
  obtain ⟨y, hy, h1, h2, h3, -, -⟩ := directed_forwards u f x (reason := if e.kind = 2 then 5 else 0) h3
    (by rwa [hroutes'.logical, hroutes.logical, hroutes'.hairpin, hroutes.hairpin])
  exact ⟨_, y, hexec, hy, h1, h2, h3⟩

end Forwarding

end Sys2Proof.Machine
end

section
/-! A context arrives from DRAM (R235, R279, R281, R290 to R292). -/

-- One proof at a time: side by side they take more threads than the memory bound of the check leaves room for.
set_option Elab.async false

namespace Sys2Proof.Machine

/-! ### Queued writes of low bursts -/

/-- Every queued write is of a burst below `B`. -/
def State.WritesBelow (B : Nat) (s : State) : Prop := ∀ pc, ∀ e ∈ mapGet s.dram.writes pc [], e.1 < B

theorem State.WritesBelow.of_writes {B : Nat} {s t : State} (h : s.WritesBelow B) (hw : t.dram.writes = s.dram.writes) : t.WritesBelow B := by
  unfold State.WritesBelow
  rw [hw]
  exact h

section Writes

variable {B : Nat} {s : State}

/-- A drain leaves fewer writes. -/
theorem writesBelow_drainWrites (h : s.WritesBelow B) (pc n : Nat) : (s.drainWrites pc n).WritesBelow B := by
  intro q e he
  unfold State.drainWrites at he
  dsimp only at he
  rw [writes_serveWrites] at he
  change e ∈ mapGet (mapSet s.dram.writes pc _ []) q [] at he
  by_cases hq : pc = q
  · subst hq
    rw [mapGet_set_self] at he
    exact h pc e (List.mem_of_mem_drop he)
  · rw [mapGet_set_ne _ _ _ _ hq] at he
    exact h q e he

theorem writesBelow_queueWrites (h : s.WritesBelow B) (pc : Nat) {l : List Nat} (hl : ∀ k ∈ l, k < B) : (s.queueWrites pc l).WritesBelow B := by
  unfold State.queueWrites
  extract_lets u v
  have hu : u.WritesBelow B := by
    unfold u
    split
    · exact writesBelow_drainWrites h _ _
    · exact h
  have hv : v.WritesBelow B := by
    intro q e he
    change e ∈ mapGet (mapMod u.dram.writes pc [] (· ++ l.map fun b => (b, u.cycle))) q [] at he
    by_cases hq : pc = q
    · subst hq
      rw [mapGet_mod_self u.dram.writes pc [] (· ++ l.map fun b => (b, u.cycle))] at he
      rcases List.mem_append.mp he with he | he
      · exact hu pc e he
      · obtain ⟨k, hk, rfl⟩ := List.mem_map.mp he
        exact hl k hk
    · rw [mapGet_mod_ne u.dram.writes [] [] (· ++ l.map fun b => (b, u.cycle)) hq] at he
      exact hu q e he
  split
  · exact writesBelow_drainWrites hv _ _
  · exact hv

theorem writesBelow_burstReads (user : Nat) (l : List (Nat × EccOutcome)) (hl : ∀ e ∈ l, e.1 < B) : ∀ s : State, s.WritesBelow B →
    (l.foldl (fun s e => s.burstRead user e.1 e.2) s).WritesBelow B := by
  induction l with
  | nil => exact fun _ h => h
  | cons e l ih =>
    intro s h
    refine ih (fun e he => hl e (List.mem_cons_of_mem _ he)) _ ?_
    have hk := hl e (List.mem_cons_self ..)
    dsimp only
    unfold State.burstRead
    split
    · exact h
    · exact writesBelow_queueWrites (s := s.corrected user (granuleOf e.1)) h _ (by simpa using hk)
    · exact h

/-- A read of low bursts queues writes of low bursts alone. -/
theorem writesBelow_dramRead (h : s.WritesBelow B) {b n : Nat} (hb : b + n ≤ B) (user : Nat) (o : ReadOutcome) :
    (s.dramRead user b n o).2.WritesBelow B := by
  have hnoted : (s.readNoted user b n).WritesBelow B := h.of_writes (sameStore_readNoted s user b n).writes
  have hlow : ∀ k ∈ burstsFrom b n, k < B := by
    intro k hk
    obtain ⟨i, hi, rfl⟩ := List.mem_map.mp hk
    have := List.mem_range.mp hi
    omega
  rw [dramRead_eq]
  generalize s.readNoted user b n = u at *
  split
  · exact hnoted
  · split
    · exact hnoted
    · rw [stackRead_eq]
      refine writesBelow_burstReads user _ (fun e he => ?_) _ (hnoted.of_writes (sameStore_stackReached u _ o).writes)
      obtain ⟨k, hk, rfl⟩ := List.mem_map.mp he
      exact hlow k (List.mem_of_mem_filter hk)

/-- An uncorrectable burst of a read is poisoned where no write to the bursts is queued. -/
theorem mem_dramRead_bad {b n : Nat} (h : s.WritesBelow b) {o : ReadOutcome} (ho : o.ecc = .uncorrectable) (hn : o.burst < n) (user : Nat) :
    b + o.burst ∈ (s.dramRead user b n o).1 := by
  have hnoted : (s.readNoted user b n).WritesBelow b := h.of_writes (sameStore_readNoted s user b n).writes
  have hmem : b + o.burst ∈ burstsFrom b n := List.mem_map.mpr ⟨o.burst, List.mem_range.mpr hn, rfl⟩
  have hstored : ((burstsFrom b n).filter fun k => !(mapGet (s.readNoted user b n).dram.writes (pcOf (granuleOf b)) []).any (·.1 == k)) =
      burstsFrom b n := by
    refine List.filter_eq_self.mpr fun k hk => ?_
    obtain ⟨i, -, rfl⟩ := List.mem_map.mp hk
    rw [Bool.not_eq_true', List.any_eq_false]
    intro e he
    have := hnoted _ e he
    simp only [beq_iff_eq]
    omega
  rw [dramRead_eq, hstored]
  generalize s.readNoted user b n = u at *
  split
  · exact hmem
  · rw [if_neg (by simpa using List.ne_nil_of_mem hmem), stackRead_eq]
    refine List.mem_map.mpr ⟨(b + o.burst, .uncorrectable), List.mem_filter.mpr ⟨?_, rfl⟩, rfl⟩
    refine List.mem_map.mpr ⟨b + o.burst, hmem, ?_⟩
    unfold State.burstEcc
    dsimp only
    split
    next hh =>
      simp only [bne_self_eq_false, Bool.or_false, ho, reduceCtorEq, decide_false, decide_eq_true_eq] at hh
      rw [hh]
    next => rw [ho]

end Writes

/-! ### The reads of a fetch -/

section Fetch

variable {s : State} {i : Nat} {k : List Byte} {r : FetchRead}

/-- The tag words stand below every place (Table 14-2). -/
theorem tagBurst_lt (k : List Byte) (i : Nat) : tagBurst (sessionBuckets k).1 + 1 ≤ placeBurst i ∧ tagBurst (sessionBuckets k).2 + 1 ≤ placeBurst i := by
  unfold tagBurst placeBurst sessionBuckets
  dsimp only
  omega

theorem readTags_eq (s : State) (k : List Byte) (r : FetchRead) : s.readTags k r =
    (!(s.dramRead 1 (tagBurst (sessionBuckets k).1) 1 r.tag0).1.isEmpty ||
      !((s.dramRead 1 (tagBurst (sessionBuckets k).1) 1 r.tag0).2.dramRead 1 (tagBurst (sessionBuckets k).2) 1 r.tag1).1.isEmpty,
      ((s.dramRead 1 (tagBurst (sessionBuckets k).1) 1 r.tag0).2.dramRead 1 (tagBurst (sessionBuckets k).2) 1 r.tag1).2) := rfl

theorem fetchContext_eq (s : State) (i : Nat) (k : List Byte) (r : FetchRead) : s.fetchContext i k r =
    (if (s.readTags k r).1 then .keyError else ((s.readTags k r).2.readPlace i r.place).1, ((s.readTags k r).2.readPlace i r.place).2) := rfl

/-- A fetch that meets no uncorrectable burst finds its context (R279). -/
theorem fetchContext_good (herr : s.dram.errs = []) (hall : s.allServe) (h0 : r.tag0.ecc ≠ .uncorrectable) (h1 : r.tag1.ecc ≠ .uncorrectable)
    (hp : r.place.ecc ≠ .uncorrectable) : (s.fetchContext i k r).1 = .ok := by
  obtain ⟨hl0, herr0, hall0⟩ := dramRead_good herr hall h0 1 (tagBurst (sessionBuckets k).1) 1
  obtain ⟨hl1, herr1, hall1⟩ := dramRead_good herr0 hall0 h1 1 (tagBurst (sessionBuckets k).2) 1
  obtain ⟨hl2, -, -⟩ := dramRead_good herr1 hall1 hp 1 (placeBurst i) 4
  rw [fetchContext_eq, readTags_eq, hl0, hl1]
  unfold State.readPlace
  dsimp only
  rw [hl2]
  rfl

/-- An uncorrectable burst in the first half of the place loses the key (R292). -/
theorem fetchContext_bad (hw : s.dram.writes = []) (hp : r.place.ecc = .uncorrectable) (hb : r.place.burst < 2) :
    (s.fetchContext i k r).1 = .keyError := by
  obtain ⟨ht0, ht1⟩ := tagBurst_lt k i
  have hnone : s.WritesBelow (placeBurst i) := by
    intro pc e he
    rw [hw] at he
    cases he
  have hbelow : (s.readTags k r).2.WritesBelow (placeBurst i) := by
    rw [readTags_eq]
    exact writesBelow_dramRead (writesBelow_dramRead hnone ht0 1 r.tag0) ht1 1 r.tag1
  have hmem := mem_dramRead_bad hbelow hp (show r.place.burst < 4 by omega) 1
  rw [fetchContext_eq]
  split
  · rfl
  · unfold State.readPlace
    dsimp only
    generalize (s.readTags k r).2.dramRead 1 (placeBurst i) 4 r.place = d at *
    rw [if_neg (by simpa using List.ne_nil_of_mem hmem), if_pos]
    exact List.any_eq_true.mpr ⟨_, hmem, by simpa using hb⟩

end Fetch

/-! ### What arrives -/

section Arrive

variable {s : State} {i : Nat} {k : List Byte} {r : FetchRead}

/-- What a waiting frame asked for stands where it was seen. -/
def State.stands (s : State) (i : Nat) (k : List Byte) : Bool := match mapFind s.flow.contexts i with | some c => c.key == k | none => false

theorem contextArrives_eq (s : State) (i : Nat) (k : List Byte) (r : FetchRead) : s.contextArrives i k r =
    if s.stands i k && s.cached i then (mapGet s.flow.bad i .ok, s.meetCache i)
    else ((s.fetchContext i k r).1, if s.stands i k then (s.fetchContext i k r).2.contextFound i (s.fetchContext i k r).1
      else (s.fetchContext i k r).2) := rfl

theorem contextArrives_good (herr : s.dram.errs = []) (hbad : s.flow.bad = []) (hall : s.allServe) (h0 : r.tag0.ecc ≠ .uncorrectable)
    (h1 : r.tag1.ecc ≠ .uncorrectable) (hp : r.place.ecc ≠ .uncorrectable) : (s.contextArrives i k r).1 = .ok := by
  rw [contextArrives_eq]
  split
  · show mapGet s.flow.bad i .ok = .ok
    rw [hbad]
    rfl
  · exact fetchContext_good herr hall h0 h1 hp

theorem contextArrives_lost (hw : s.dram.writes = []) (hc : s.cached i = false) (hp : r.place.ecc = .uncorrectable) (hb : r.place.burst < 2) :
    (s.contextArrives i k r).1 = .keyError ∧ (s.stands i k = true →
      (s.contextArrives i k r).2.bit Reg.FLOW_STATUS_POISON = true ∧ (s.contextArrives i k r).2.bit Reg.FLOW_POISON_LOC_KEY = true) := by
  have hlost := fetchContext_bad (i := i) (k := k) hw hp hb
  rw [contextArrives_eq, if_neg (by simp [hc])]
  refine ⟨hlost, fun hstands => ?_⟩
  dsimp only
  rw [if_pos hstands, hlost]
  generalize (s.fetchContext i k r).2 = u
  show (u.loseKey i).bit _ = true ∧ (u.loseKey i).bit _ = true
  unfold State.loseKey
  generalize (u.setContexts (mapDel u.flow.contexts i)).uncache i = v
  have hpoison : (v.flowPoison true i).get Reg.FLOW_STATUS_POISON = 1 := get_on_self _ _ (by decide)
  have hkey : (v.flowPoison true i).get Reg.FLOW_POISON_LOC_KEY = 1 := by
    unfold State.flowPoison
    rw [get_on_ne _ (by decide), get_set_ne _ _ (by decide)]
    exact get_setB_self _ _ _ (by decide)
  have hwrite := frame_dramWrite (v.flowPoison true i) 1 (tagBurst (i / 8)) 1
  exact ⟨bit_of_get_one ((kept_of_only hwrite 11 0 0 (List.mem_of_getElem? (i := 0) rfl) (a := .w1c) (by simp) (by simp)).trans hpoison),
    bit_of_get_one ((kept_of_only hwrite 11 0 0 (List.mem_of_getElem? (i := 2) rfl) (a := .ro) (by simp) (by simp)).trans hkey)⟩

end Arrive

/-! ### A frame takes what arrives -/

section Done

variable {s : State} {f : Nat} {x : Frame} (hx : s.frame f = some x)

/-- The effects of a lookup that has ended on the frame `y`, which waited as `x`. -/
def State.goneOn (t : State) (f : Nat) (x y : Frame) : Prop :=
  (x.destKind ≠ 3 → t.frame f = some { y with stage := .forwarded }) ∧ (x.destKind = 3 → t.dropped f x.beads)

/-- A frame past its lookups goes on, or is dropped (R250). -/
theorem pastLookup_goneOn {u : State} {y : Frame} (hy : u.frame f = some y) (hkind : y.destKind = x.destKind) (hbeads : y.beads = x.beads) :
    (u.pastLookup f).goneOn f x y := by
  unfold State.pastLookup
  rw [hy]
  dsimp only
  refine ⟨fun h => ?_, fun h => ?_⟩
  · rw [if_neg (by rw [hkind]; exact h)]
    exact frame_setFrame_self ..
  · rw [if_pos (hkind.trans h), ← hbeads]
    exact (dropOther_spec hy).1

include hx in
/-- A frame whose lookup saw nothing (R281). -/
theorem fetchDone_unseen (hseen : x.seen = none) (r : FetchRead) : (s.fetchDone f r).frame f = some x ∧ (s.fetchDone f r).flow = s.flow ∧
    (s.fetchDone f r).get Reg.FLOW_ABSENT_CNT_COUNT = min (2 ^ 32 - 1) (s.get Reg.FLOW_ABSENT_CNT_COUNT + 1) := by
  have hmoved := frame_readTags s x.session r
  unfold State.fetchDone
  rw [hx]
  dsimp only
  rw [hseen]
  dsimp only
  have hcnt : (s.readTags x.session r).2.get Reg.FLOW_ABSENT_CNT_COUNT = s.get Reg.FLOW_ABSENT_CNT_COUNT :=
    kept_of_only hmoved 11 0 0 (List.mem_of_getElem? (i := 5) rfl) (a := .rc) (by simp) (by simp)
  have hframe := frame_of_only hmoved (by simp) f
  have hflow : (s.readTags x.session r).2.flow = s.flow := hmoved.1 .flow (by simp)
  generalize (s.readTags x.session r).2 = u at *
  refine ⟨hframe.trans hx, hflow, ?_⟩
  rw [get_satAdd_self, hcnt]
  rfl

variable {i pol ovr : Nat} (hseen : x.seen = some (i, pol, ovr)) {r : FetchRead}
include hx hseen

/-- A frame whose context arrives takes what its lookup saw (R279, R281, R290). -/
theorem fetchDone_attaches (h : (s.contextArrives i x.session r).1 = .ok) :
    (s.fetchDone f r).frame f = some (attachContext x i pol ovr) ∧
    (s.fetchDone f r).get Reg.FLOW_MISS_CNT_COUNT = min (2 ^ 32 - 1) (s.get Reg.FLOW_MISS_CNT_COUNT + 1) := by
  have hmoved := frame_contextArrives s i x.session r
  have hcnt : (s.contextArrives i x.session r).2.get Reg.FLOW_MISS_CNT_COUNT = s.get Reg.FLOW_MISS_CNT_COUNT :=
    kept_of_only hmoved 11 0 0 (List.mem_of_getElem? (i := 4) rfl) (a := .rc) (by simp) (by simp)
  unfold State.fetchDone
  rw [hx]
  dsimp -zeta only
  rw [hseen]
  dsimp -zeta only
  generalize s.contextArrives i x.session r = a at *
  obtain ⟨e, u⟩ := a
  dsimp only at h
  subst h
  dsimp -zeta only at hcnt ⊢
  rw [if_neg (by decide)]
  extract_lets y v
  have hy : y = attachContext x i pol ovr := if_pos rfl
  have hv : v.get Reg.FLOW_MISS_CNT_COUNT = u.get Reg.FLOW_MISS_CNT_COUNT := by
    unfold v
    split
    · exact kept_of_only (frame_cacheUse u i) 11 0 0 (List.mem_of_getElem? (i := 4) rfl) (a := .rc) (by simp) (by simp)
    · rfl
  rw [hy]
  have hupdate := frame_contextUpdate ((v.setFrame f (attachContext x i pol ovr)).satAdd Reg.FLOW_MISS_CNT_COUNT 1) f
  refine ⟨(frame_of_only hupdate (by simp) f).trans (frame_setFrame_self v f _), ?_⟩
  rw [kept_of_only hupdate 11 0 0 (List.mem_of_getElem? (i := 4) rfl) (a := .rc) (f := Reg.FLOW_MISS_CNT_COUNT) (by simp) (by simp), get_satAdd_self]
  show min _ (v.get Reg.FLOW_MISS_CNT_COUNT + 1) = _
  rw [hv, hcnt]
  rfl

/-- A frame whose key has been lost counts it as absent (R292). -/
theorem fetchDone_absent (h : (s.contextArrives i x.session r).1 = .keyError) :
    (s.fetchDone f r).frame f = some x ∧
    (s.fetchDone f r).get Reg.FLOW_ABSENT_CNT_COUNT = min (2 ^ 32 - 1) (s.get Reg.FLOW_ABSENT_CNT_COUNT + 1) ∧
    ∀ g, Fld.key g ≠ Fld.key Reg.FLOW_ABSENT_CNT_COUNT → (s.fetchDone f r).get g = (s.contextArrives i x.session r).2.get g := by
  have hmoved := frame_contextArrives s i x.session r
  have hcnt : (s.contextArrives i x.session r).2.get Reg.FLOW_ABSENT_CNT_COUNT = s.get Reg.FLOW_ABSENT_CNT_COUNT :=
    kept_of_only hmoved 11 0 0 (List.mem_of_getElem? (i := 5) rfl) (a := .rc) (by simp) (by simp)
  have hframe := frame_of_only hmoved (by simp) f
  have heq : s.fetchDone f r = (s.contextArrives i x.session r).2.satAdd Reg.FLOW_ABSENT_CNT_COUNT 1 := by
    unfold State.fetchDone
    rw [hx]
    dsimp -zeta only
    rw [hseen]
    dsimp -zeta only
    generalize s.contextArrives i x.session r = a at *
    obtain ⟨e, u⟩ := a
    dsimp only at h
    subst h
    exact if_pos rfl
  rw [heq]
  generalize (s.contextArrives i x.session r).2 = u at *
  refine ⟨hframe.trans hx, ?_, fun g hg => get_satAdd_ne _ _ (Ne.symm hg)⟩
  rw [get_satAdd_self, hcnt]
  rfl

end Done

section Fetched

variable {s : State} {f : Nat} {x : Frame} (hrun : s.running = true)
include hrun

theorem exec_contextFetchDone (r : FetchRead) : exec (.contextFetchDone f r) s = .next (s.contextFetched f r).settle :=
  whenUp_running hrun fun s => s.contextFetched f r

variable (hx : s.frame f = some x) (hst : x.stage = .fetching) (hserves : s.dramServes = true)
include hx hst hserves

theorem exec_contextFetched (r : FetchRead) : exec (.contextFetchDone f r) s = .next ((s.fetchDone f r).pastLookup f).settle := by
  have heq : s.contextFetched f r = (s.fetchDone f r).pastLookup f := by
    unfold State.contextFetched
    rw [hx]
    exact if_neg (by simp [hst, hserves])
  rw [exec_contextFetchDone hrun, heq]

variable {i pol ovr : Nat} (hseen : x.seen = some (i, pol, ovr)) {r : FetchRead}

include hseen in
/-- CONTEXT_FETCH_DONE with a context (R279). -/
theorem contextFetchDone_attaches (h0 : r.tag0.ecc ≠ .uncorrectable) (h1 : r.tag1.ecc ≠ .uncorrectable) (hp : r.place.ecc ≠ .uncorrectable)
    (herr : s.dram.errs = []) (hbad : s.flow.bad = []) (hall : ∀ pc, s.pcFailed pc = false) :
    ∃ t, exec (.contextFetchDone f r) s = .next t ∧ t.goneOn f x (attachContext x i pol ovr) ∧
      t.get Reg.FLOW_MISS_CNT_COUNT = min (2 ^ 32 - 1) (s.get Reg.FLOW_MISS_CNT_COUNT + 1) := by
  have hexec := exec_contextFetched hrun hx hst hserves r
  obtain ⟨hframe, hcnt⟩ := fetchDone_attaches hx hseen (contextArrives_good (i := i) (k := x.session) herr hbad hall h0 h1 hp)
  have hgone := pastLookup_goneOn (x := x) hframe rfl rfl
  have hkept : ((s.fetchDone f r).pastLookup f).get Reg.FLOW_MISS_CNT_COUNT = (s.fetchDone f r).get Reg.FLOW_MISS_CNT_COUNT :=
    kept_of_only (frame_pastLookup _ f) 11 0 0 (List.mem_of_getElem? (i := 4) rfl) (a := .rc) (by simp) (by simp)
  generalize (s.fetchDone f r).pastLookup f = u at *
  exact ⟨_, hexec, hgone, hkept.trans hcnt⟩

include hseen in
/-- CONTEXT_FETCH_DONE with a lost key (R292). -/
theorem contextFetchDone_lost (hp : r.place.ecc = .uncorrectable) (hb : r.place.burst < 2) (hw : s.dram.writes = []) (hc : s.cached i = false) :
    ∃ t, exec (.contextFetchDone f r) s = .next t ∧ t.goneOn f x x ∧
      t.get Reg.FLOW_ABSENT_CNT_COUNT = min (2 ^ 32 - 1) (s.get Reg.FLOW_ABSENT_CNT_COUNT + 1) ∧
      ((mapFind s.flow.contexts i).any (·.key == x.session) = true →
        t.bit Reg.FLOW_STATUS_POISON = true ∧ t.bit Reg.FLOW_POISON_LOC_KEY = true) := by
  have hexec := exec_contextFetched hrun hx hst hserves r
  obtain ⟨hlost, hbits⟩ := contextArrives_lost (i := i) (k := x.session) hw hc hp hb
  obtain ⟨hframe, hcnt, hother⟩ := fetchDone_absent hx hseen hlost
  have hgone := pastLookup_goneOn (x := x) hframe rfl rfl
  have hmoved := frame_pastLookup (s.fetchDone f r) f
  have hkept : ((s.fetchDone f r).pastLookup f).get Reg.FLOW_ABSENT_CNT_COUNT = (s.fetchDone f r).get Reg.FLOW_ABSENT_CNT_COUNT :=
    kept_of_only hmoved 11 0 0 (List.mem_of_getElem? (i := 5) rfl) (a := .rc) (by simp) (by simp)
  have hpoison : ((s.fetchDone f r).pastLookup f).get Reg.FLOW_STATUS_POISON = (s.fetchDone f r).get Reg.FLOW_STATUS_POISON :=
    kept_of_only hmoved 11 0 0 (List.mem_of_getElem? (i := 0) rfl) (a := .w1c) (by simp) (by simp)
  have hkey : ((s.fetchDone f r).pastLookup f).get Reg.FLOW_POISON_LOC_KEY = (s.fetchDone f r).get Reg.FLOW_POISON_LOC_KEY :=
    kept_of_only hmoved 11 0 0 (List.mem_of_getElem? (i := 2) rfl) (a := .ro) (by simp) (by simp)
  have hp' := hother Reg.FLOW_STATUS_POISON (by decide)
  have hk' := hother Reg.FLOW_POISON_LOC_KEY (by decide)
  generalize (s.fetchDone f r).pastLookup f = u at *
  refine ⟨_, hexec, hgone, hkept.trans hcnt, fun hstands => ?_⟩
  obtain ⟨k1, k2⟩ := hbits (by
    unfold State.stands
    cases hm : mapFind s.flow.contexts i with
    | none => rw [hm] at hstands; cases hstands
    | some c => rw [hm] at hstands; exact hstands)
  exact ⟨(congrArg (· != 0) (hpoison.trans hp')).trans k1, (congrArg (· != 0) (hkey.trans hk')).trans k2⟩

/-- CONTEXT_FETCH_DONE of a frame whose lookup saw nothing (R281). -/
theorem contextFetchDone_unseen (hseen : x.seen = none) : ∃ t, exec (.contextFetchDone f r) s = .next t ∧ t.goneOn f x x ∧ t.flow = s.flow ∧
    t.get Reg.FLOW_ABSENT_CNT_COUNT = min (2 ^ 32 - 1) (s.get Reg.FLOW_ABSENT_CNT_COUNT + 1) := by
  have hexec := exec_contextFetched hrun hx hst hserves r
  obtain ⟨hframe, hflow, hcnt⟩ := fetchDone_unseen hx hseen r
  have hgone := pastLookup_goneOn (x := x) hframe rfl rfl
  have hmoved := frame_pastLookup (s.fetchDone f r) f
  have hkept : ((s.fetchDone f r).pastLookup f).get Reg.FLOW_ABSENT_CNT_COUNT = (s.fetchDone f r).get Reg.FLOW_ABSENT_CNT_COUNT :=
    kept_of_only hmoved 11 0 0 (List.mem_of_getElem? (i := 5) rfl) (a := .rc) (by simp) (by simp)
  have hpast : ((s.fetchDone f r).pastLookup f).flow = (s.fetchDone f r).flow := hmoved.1 .flow (by simp)
  generalize (s.fetchDone f r).pastLookup f = u at *
  exact ⟨_, hexec, hgone, hpast.trans hflow, hkept.trans hcnt⟩

end Fetched

/-- Settles O30: the forwarding lookup by mark, table and route, and the arrival of a frame's context. -/
theorem lookupsFixADestinationAndAContext : Obligations.LookupsFixADestinationAndAContext := by
  unfold Obligations.LookupsFixADestinationAndAContext
  intro s f x hrun hx
  refine ⟨fun hst hturn => ⟨forwarding_punts hrun hx hst hturn, fun vlan mac hvlan hmac hfwd hup =>
      forwarding_bridges hrun hx hst hturn hvlan hmac hfwd hup, fun l3 e hfwd hl3 hup hmatch h3 hway =>
      forwarding_routes hrun hx hst hturn hfwd hl3 hup hmatch h3 hway, fun t ht => ?_⟩,
    fun hst hserves r done hdone => ?_⟩
  · obtain rfl := Host.Outcome.next.inj ((exec_forwardingLookup hrun).symm.trans ht)
    exact only_settled (only_widen (frame_forwardingLookup s f) (by simp) (by simp))
  · subst hdone
    refine ⟨fun i pol ovr hseen => ⟨fun h0 h1 hp herr hbad hall =>
        contextFetchDone_attaches hrun hx hst hserves hseen h0 h1 hp herr hbad hall,
      fun hp hb hw hc => contextFetchDone_lost hrun hx hst hserves hseen hp hb hw hc⟩,
      contextFetchDone_unseen hrun hx hst hserves, fun t ht => ?_⟩
    obtain rfl := Host.Outcome.next.inj ((exec_contextFetchDone hrun r).symm.trans ht)
    exact only_settled (only_widen (frame_contextFetched s f r) (by simp) (by simp))

end Sys2Proof.Machine
end

section
/-! What the moves and changes of the LPM store keep of its entries (R262 to R267). -/

-- One proof at a time: side by side they take more threads than the memory bound of the check leaves room for.
set_option Elab.async false

namespace Sys2Proof.Machine

/-! ### Entries of units -/

/-- Every entry of a list of units satisfies a predicate. -/
def UnitsAll (P : LpmEntry → Prop) (l : List LpmUnit) : Prop := ∀ u ∈ l, ∀ e, some e ∈ u → P e

section Units

variable {P : LpmEntry → Prop}

theorem unitsAll_nil : UnitsAll P [] := fun _ h => by cases h

theorem unitsAll_cons {u : LpmUnit} {l : List LpmUnit} : UnitsAll P (u :: l) ↔ (∀ e, some e ∈ u → P e) ∧ UnitsAll P l :=
  List.forall_mem_cons

theorem unitsAll_append {l k : List LpmUnit} : UnitsAll P (l ++ k) ↔ UnitsAll P l ∧ UnitsAll P k := List.forall_mem_append

theorem unitsAll_turned {first : Bool} {l : List LpmUnit} : UnitsAll P (turned first l) ↔ UnitsAll P l := by
  unfold turned UnitsAll
  split
  · exact Iff.rfl
  · simp

theorem emptied_none (u : LpmUnit) : ∀ e, some e ∈ emptied u → P e := by
  intro e he
  obtain ⟨_, _, h⟩ := List.mem_map.mp he
  cases h

theorem mem_changeGroup_none {p : LpmEntry → Bool} {l : List LpmUnit} {u : LpmUnit} (hu : u ∈ changeGroup p (fun _ => none) l)
    {e : LpmEntry} (he : some e ∈ u) : p e = false ∧ ∃ v ∈ l, some e ∈ v := by
  obtain ⟨v, hv, rfl⟩ := List.mem_map.mp hu
  obtain ⟨o, ho, h⟩ := List.mem_map.mp he
  cases o with
  | none => cases h
  | some x =>
    dsimp only at h
    split at h
    next => cases h
    next hp =>
      obtain rfl := Option.some.inj h
      exact ⟨by simpa using hp, v, hv, ho⟩

theorem unitsAll_changeGroup_none {p : LpmEntry → Bool} {l : List LpmUnit} (h : UnitsAll P l) :
    UnitsAll P (changeGroup p (fun _ => none) l) := by
  intro u hu e he
  obtain ⟨-, v, hv, hin⟩ := mem_changeGroup_none hu he
  exact h v hv e hin

end Units

/-! ### Entries of the store -/

/-- The groups of a family. -/
def LpmSt.family (m : LpmSt) (v6 : Bool) : SMap (List LpmUnit) := if v6 then m.v6 else m.v4

/-- Every entry of the store satisfies a predicate. -/
def LpmSt.AllEntries (P : LpmEntry → Prop) (m : LpmSt) : Prop := ∀ v6, ∀ g ∈ m.family v6, UnitsAll P g.2

section Store

variable {P : LpmEntry → Prop} {m : LpmSt}

theorem allEntries_iff : m.AllEntries P ↔ ∀ e ∈ m.entries, P e := by
  constructor
  · intro h e he
    rcases List.mem_append.mp he with he | he
    all_goals
      obtain ⟨g, hg, he⟩ := List.mem_flatMap.mp he
      obtain ⟨u, hu, he⟩ := List.mem_flatMap.mp he
      obtain ⟨o, ho, rfl⟩ := List.mem_filterMap.mp he
    · exact h false g hg u hu e ho
    · exact h true g hg u hu e ho
  · intro h v6 g hg u hu e he
    have hmem : e ∈ g.2.flatMap fun u => u.filterMap id := List.mem_flatMap.mpr ⟨u, hu, List.mem_filterMap.mpr ⟨_, he, rfl⟩⟩
    cases v6
    · exact h e (List.mem_append_left _ (List.mem_flatMap.mpr ⟨g, hg, hmem⟩))
    · exact h e (List.mem_append_right _ (List.mem_flatMap.mpr ⟨g, hg, hmem⟩))

theorem units_eq (v6 : Bool) (k : Nat) : m.units v6 k = mapGet (m.family v6) k [] := rfl

theorem unitsAll_units (h : m.AllEntries P) (v6 : Bool) (k : Nat) : UnitsAll P (m.units v6 k) := by
  rw [units_eq, mapGet]
  cases hf : mapFind (m.family v6) k with
  | none => exact unitsAll_nil
  | some l => exact h v6 _ (mem_of_mapFind hf)

/-- The units of a group after another list of units was stored. -/
theorem units_setUnits (v6 w6 : Bool) (k j : Nat) (l : List LpmUnit) :
    (m.setUnits v6 k l).units w6 j = if v6 = w6 ∧ k = j then l else m.units w6 j := by
  cases v6 <;> cases w6 <;> simp only [LpmSt.setUnits, LpmSt.units, Bool.false_eq_true, if_false, if_true, false_and, true_and, reduceCtorEq]
  all_goals
    split
    next h => rw [h, mapGet_set_self]
    next h => exact mapGet_set_ne _ _ _ _ h

theorem family_setUnits (v6 w6 : Bool) (k : Nat) (l : List LpmUnit) :
    (m.setUnits v6 k l).family w6 = if v6 = w6 then mapSet (m.family w6) k l [] else m.family w6 := by
  cases v6 <;> cases w6 <;> rfl

theorem allEntries_setUnits (h : m.AllEntries P) {l : List LpmUnit} (hl : UnitsAll P l) (v6 : Bool) (k : Nat) :
    (m.setUnits v6 k l).AllEntries P := by
  intro w6 g hg
  rw [family_setUnits] at hg
  split at hg
  · unfold mapSet at hg
    split at hg
    · exact h w6 g (List.mem_filter.mp hg).1
    · rcases (mem_mapIns ..).mp hg with rfl | hg
      · exact hl
      · exact h w6 g (List.mem_filter.mp hg).1
  · exact h w6 g hg

/-! ### Moves -/

theorem crossGroup_keeps (h : m.AllEntries P) {v6 first : Bool} {k : Nat} {r : LpmUnit × LpmSt} (hr : crossGroup m v6 first k = some r) :
    (∀ e, some e ∈ r.1 → P e) ∧ r.2.AllEntries P := by
  unfold crossGroup at hr
  have hall := unitsAll_turned (first := first).mpr (unitsAll_units h v6 k)
  generalize turned first (m.units v6 k) = t at *
  cases t with
  | nil => cases hr
  | cons u rest =>
    obtain rfl := Option.some.inj hr
    obtain ⟨hu, hrest⟩ := unitsAll_cons.mp hall
    refine ⟨hu, allEntries_setUnits h (unitsAll_turned.mpr (unitsAll_cons.mpr ⟨emptied_none u, unitsAll_append.mpr ⟨hrest, ?_⟩⟩)) _ _⟩
    exact unitsAll_cons.mpr ⟨hu, unitsAll_nil⟩

theorem unitsAll_modAt {l : List LpmUnit} (h : UnitsAll P l) {u : LpmUnit} (hu : ∀ e, some e ∈ u → P e) (i : Nat) :
    UnitsAll P (modAt l i fun _ => u) := by
  intro v hv e he
  obtain ⟨⟨w, j⟩, hw, rfl⟩ := List.mem_map.mp hv
  split at he
  · exact hu e he
  · exact h w (List.of_mem_zip hw).1 e he

theorem nextMove_keeps (h : m.AllEntries P) {v6 : Bool} {a : Bool × List Nat × Option Nat} {r : LpmUnit × LpmSt}
    (hr : nextMove m v6 a = some r) : (∀ e, some e ∈ r.1 → P e) ∧ r.2.AllEntries P := by
  obtain ⟨b, crossed, near⟩ := a
  have hcross {m : LpmSt} (h : m.AllEntries P) (hr : crossed.getLast?.bind (crossGroup m v6 (b == v6)) = some r) :
      (∀ e, some e ∈ r.1 → P e) ∧ r.2.AllEntries P := by
    obtain ⟨k, -, hk⟩ := Option.bind_eq_some_iff.mp hr
    exact crossGroup_keeps h hk
  unfold nextMove at hr
  dsimp only at hr
  cases near with
  | none => exact hcross h hr
  | some t =>
    dsimp only at hr
    have hall := unitsAll_turned (first := b == v6).mpr (unitsAll_units h v6 t)
    generalize turned (b == v6) (m.units v6 t) = l at *
    cases l with
    | nil => cases hr
    | cons u rest =>
      obtain ⟨hu, hrest⟩ := unitsAll_cons.mp hall
      dsimp only at hr
      split at hr
      · split at hr
        · cases hr
        · exact hcross (allEntries_setUnits h (unitsAll_turned.mpr hrest) _ _) hr
      · obtain ⟨i, -, rfl⟩ := Option.map_eq_some_iff.mp hr
        exact ⟨hu, allEntries_setUnits h (unitsAll_turned.mpr (unitsAll_cons.mpr ⟨emptied_none u, unitsAll_modAt hrest hu i⟩)) _ _⟩

/-- The units that moves copy hold entries of the store alone. -/
theorem moveAll_keeps (n : Nat) (v6 : Bool) (len : Nat) (poolOnly : Bool) : ∀ (m : LpmSt) (l : List LpmUnit), m.AllEntries P →
    UnitsAll P l → UnitsAll P (moveAll n m v6 len poolOnly l).1 := by
  induction n with
  | zero => exact fun _ _ _ hl => hl
  | succ n ih =>
    intro m l hm hl
    rw [moveAll]
    split
    next => exact hl
    next a _ =>
      split
      next u m' hmove =>
        obtain ⟨hu, hm'⟩ := nextMove_keeps hm hmove
        exact ih m' _ hm' (unitsAll_append.mpr ⟨hl, unitsAll_cons.mpr ⟨hu, unitsAll_nil⟩⟩)
      next => exact hl

theorem gainUnit_keeps (h : m.AllEntries P) {v6 : Bool} {len : Nat} {poolOnly : Bool} {l : List LpmUnit} {m' : LpmSt}
    (hg : gainUnit m v6 len poolOnly = some (l, m')) : UnitsAll P l := by
  obtain ⟨a, -, hall⟩ := Option.map_eq_some_iff.mp hg
  have hkeeps := moveAll_keeps 130 v6 len poolOnly m [] h unitsAll_nil
  rwa [hall] at hkeeps

/-! ### Rows -/

theorem rowsOf_keeps {l : List LpmUnit} (h : UnitsAll P l) (base rows : Nat) : ∀ r ∈ rowsOf base rows l, P r.2 := by
  intro r hr
  obtain ⟨⟨u, i⟩, hu, hr⟩ := List.mem_flatMap.mp hr
  obtain ⟨⟨o, j⟩, ho, hr⟩ := List.mem_filterMap.mp hr
  obtain ⟨e, rfl, rfl⟩ := Option.map_eq_some_iff.mp hr
  exact h u (List.of_mem_zip hu).1 e (List.of_mem_zip ho).1

theorem groupRows_keeps (h : m.AllEntries P) (v6 : Bool) (l : List Nat) : ∀ base, ∀ r ∈ groupRows m v6 l base, P r.2 := by
  induction l with
  | nil => exact fun _ _ hr => by cases hr
  | cons k l ih =>
    intro base r hr
    rcases List.mem_append.mp hr with hr | hr
    · exact rowsOf_keeps (unitsAll_units h v6 k) _ _ r hr
    · exact ih _ r hr

theorem rows_keep (h : m.AllEntries P) : ∀ r ∈ m.rows, P r.2 := by
  intro r hr
  rcases List.mem_append.mp hr with hr | hr
  · exact groupRows_keeps h _ _ _ r hr
  · exact groupRows_keeps h _ _ _ r hr

/-! ### Removals -/

/-- The store without the prefix of an entry (R268). -/
def LpmSt.without (m : LpmSt) (e : LpmEntry) : LpmSt :=
  m.setUnits e.v6 e.len (changeGroup (sameKey e) (fun _ => none) (m.units e.v6 e.len))

/-- No prefix of the key of an entry stands in its group. -/
def LpmSt.Lacks (m : LpmSt) (e : LpmEntry) : Prop := UnitsAll (fun x => sameKey e x = false) (m.units e.v6 e.len)

theorem allEntries_without (h : m.AllEntries P) (e : LpmEntry) : (m.without e).AllEntries P :=
  allEntries_setUnits h (unitsAll_changeGroup_none (unitsAll_units h _ _)) _ _

theorem without_lacks (m : LpmSt) (e : LpmEntry) : (m.without e).Lacks e := by
  intro u hu x hx
  rw [LpmSt.without, units_setUnits, if_pos ⟨rfl, rfl⟩] at hu
  exact (mem_changeGroup_none hu hx).1

theorem lacks_without {e : LpmEntry} (h : m.Lacks e) (d : LpmEntry) : (m.without d).Lacks e := by
  intro u hu x hx
  rw [LpmSt.without, units_setUnits] at hu
  split at hu
  next hkey =>
    obtain ⟨hv6, hlen⟩ := hkey
    obtain ⟨-, v, hv, hin⟩ := mem_changeGroup_none hu hx
    rw [hv6, hlen] at hv
    exact h v hv x hin
  next => exact h u hu x hx

end Store

end Sys2Proof.Machine
end

section
/-! The LPM commands of one key (R262 to R265, R268, R270, R271, R275). -/

-- One proof at a time: side by side they take more threads than the memory bound of the check leaves room for.
set_option Elab.async false

namespace Sys2Proof.Machine

/-! ### Changes of the store -/

theorem lpm_mirrorLpm (s : State) (b : Bool) (e : LpmEntry) : (s.mirrorLpm b e).lpm = s.lpm := (frame_mirrorLpm s b e).1 .lpm (by simp)

theorem lpm_requestMoves (s : State) : s.requestMoves.lpm = s.lpm := (frame_requestMoves s).1 .lpm (by simp)

theorem lpm_setLpm (s : State) (m : LpmSt) : (s.setLpm m).lpm = m := rfl

theorem lpm_lpmRemove (s : State) (e : LpmEntry) : (s.lpmRemove e).lpm = s.lpm.without e := rfl

theorem lpm_lpmParity (s : State) (e : LpmEntry) : (s.lpmParity e).lpm = s.lpm.without e := by
  have h := lpm_lpmRemove s e
  unfold State.lpmParity
  generalize s.lpmRemove e = u at *
  exact h

/-- An access to an absent prefix. -/
theorem lpmAccess_absent {s : State} {k : LpmEntry} (h : s.lpm.entries.find? (sameKey k) = none) : s.lpmAccess k = (none, false, s) := by
  rw [State.lpmAccess, h]

/-- An access to a prefix that passes its check. -/
theorem lpmAccess_good {s : State} {k e : LpmEntry} (h : s.lpm.entries.find? (sameKey k) = some e) (hb : e.bad = false) :
    s.lpmAccess k = (some e, false, s) := by
  rw [State.lpmAccess, h]
  exact if_neg (by simp [hb])

/-- An access to a prefix that fails its check. -/
theorem lpmAccess_bad {s : State} {k e : LpmEntry} (h : s.lpm.entries.find? (sameKey k) = some e) (hb : e.bad = true) :
    s.lpmAccess k = (none, true, s.lpmParity e) := by
  rw [State.lpmAccess, h]
  exact if_pos hb

/-- Two entries of one key name the same places. -/
theorem without_of_sameKey {m : LpmSt} {k e : LpmEntry} (h : sameKey k e = true) :
    m.without e = m.setUnits k.v6 k.len (changeGroup (sameKey k) (fun _ => none) (m.units k.v6 k.len)) := by
  simp only [sameKey, Bool.and_eq_true, beq_iff_eq] at h
  obtain ⟨⟨hv6, hlen⟩, hpfx⟩ := h
  have hkey : sameKey e = sameKey k := by
    funext x
    rw [sameKey, sameKey, hv6, hlen, hpfx]
  rw [LpmSt.without, hkey, hv6, hlen]

/-- Moves of units without failing entries meet no parity error. -/
theorem checkUnits_good {s : State} {l : List LpmUnit} (h : UnitsAll (fun e => e.bad = false) l) : s.checkUnits l = (false, s) := by
  have hnone : (l.flatMap fun u => u.filterMap id).filter (·.bad) = [] := by
    rw [List.filter_eq_nil_iff]
    intro e he
    obtain ⟨u, hu, he⟩ := List.mem_flatMap.mp he
    obtain ⟨o, ho, rfl⟩ := List.mem_filterMap.mp he
    simp [h u hu e ho]
  rw [State.checkUnits, hnone]
  rfl

/-! ### LPM_INSERT -/

/-- The store with a new prefix in a group that has room for it (R265). -/
def LpmSt.inserted (m : LpmSt) (e : LpmEntry) : LpmSt :=
  { m.setUnits e.v6 e.len (fillGroup { e with born := m.changes } (m.units e.v6 e.len)) with changes := m.changes + 1 }

/-- The store with a prefix in the place of the one of its key (R271). -/
def LpmSt.replaced (m : LpmSt) (e : LpmEntry) : LpmSt :=
  { m.setUnits e.v6 e.len (changeGroup (sameKey e) (fun _ => some { e with born := m.changes }) (m.units e.v6 e.len)) with
    changes := m.changes + 1 }

theorem changes_setUnits (m : LpmSt) (v6 : Bool) (k : Nat) (l : List LpmUnit) : (m.setUnits v6 k l).changes = m.changes := by
  cases v6 <;> rfl

theorem lpm_writePrefix (s : State) (m : LpmSt) (e : LpmEntry) : (s.writePrefix m e).lpm = m.inserted e := by
  rw [State.writePrefix, lpm_requestMoves, lpm_setLpm]
  rw [changes_setUnits] <;> rfl

theorem lpm_lpmPut (s : State) (e : LpmEntry) : (s.lpmPut e).lpm = s.lpm.replaced e := rfl

theorem lpmInsert_routine : ∀ o, opInfo 0x28 = some o → o.routine = some .lpmInsert := by decide

section Insert

variable {s : State} {c : CmdIn} {e : LpmEntry}

/-- LPM_INSERT of a prefix that is absent. -/
theorem coreLpmInsert_absent (he : e = lpmOf c.input) {moved : Nat} {met : Bool} (hmade : s.movesMade c = (moved, met))
    (hok : s.lpmEntryOk c.input = true) (h : s.lpm.entries.find? (sameKey e) = none) :
    coreLpmInsert c s = if met then (CmdRes.of .parity, s)
      else ((s.lpmPlace e moved).1, if (s.lpmPlace e moved).1.st = .ok then (s.lpmPlace e moved).2.mirrorLpm true e else (s.lpmPlace e moved).2) := by
  subst he
  unfold coreLpmInsert
  dsimp only
  rw [hmade]
  dsimp only
  rw [if_neg (by simp [hok]), lpmAccess_absent h] <;> rfl

/-- LPM_INSERT of a prefix that is there. -/
theorem coreLpmInsert_present (he : e = lpmOf c.input) (hok : s.lpmEntryOk c.input = true) {d : LpmEntry}
    (h : s.lpm.entries.find? (sameKey e) = some d) (hb : d.bad = false) :
    coreLpmInsert c s = if bitOf c.flags 0 then ({ CmdRes.ok with result := leBytes 2 0 }, (s.lpmPut e).mirrorLpm true e)
      else (CmdRes.of .exists, s) := by
  subst he
  unfold coreLpmInsert
  dsimp only
  rw [if_neg (by simp [hok]), lpmAccess_good h hb] <;> rfl

/-- A new prefix that finds a free place in its group (R264). -/
theorem lpmPlace_free (h : groupFree (s.lpm.units e.v6 e.len) = true) (moved : Nat) :
    s.lpmPlace e moved = ({ CmdRes.ok with result := leBytes 2 moved }, s.writePrefix s.lpm e) := if_pos h

/-- A new prefix whose group gains a place (R264). -/
theorem lpmPlace_gained (h : groupFree (s.lpm.units e.v6 e.len) = false) {l : List LpmUnit} {m : LpmSt}
    (hg : gainUnit s.lpm e.v6 e.len false = some (l, m)) (hgood : UnitsAll (fun e => e.bad = false) l) (moved : Nat) :
    s.lpmPlace e moved = ({ CmdRes.ok with result := leBytes 2 (moved + l.length) }, s.writePrefix m e) := by
  unfold State.lpmPlace
  dsimp only
  rw [if_neg (by simp [h]), hg]
  dsimp only
  rw [checkUnits_good hgood] <;> rfl

/-- A new prefix without room. -/
theorem lpmPlace_full (h : groupFree (s.lpm.units e.v6 e.len) = false) (hg : gainUnit s.lpm e.v6 e.len false = none) (moved : Nat) :
    s.lpmPlace e moved = (CmdRes.of .full, s.on Reg.LPM_STATUS_FULL) := by
  unfold State.lpmPlace
  dsimp only
  rw [if_neg (by simp [h]), hg]

variable (ha : s.acceptsLong 0x28 c)
include ha

/-- An LPM_INSERT that changes nothing. -/
theorem lpmInsert_idle {r : CmdRes} (hcore : coreLpmInsert c s = (r, s)) :
    s.ends (.lpmInsert c) 0x28 c r [.reck] (keysOf []) fun t => t.lpm = s.lpm :=
  ends_of_long rfl lpmInsert_routine ha hcore (only_id s _ _) (by simp) rfl fun _ ht => ht.1 .lpm (by simp)

/-- An LPM_INSERT that stores its prefix. -/
theorem lpmInsert_stores {r : CmdRes} {u : State} (hcore : coreLpmInsert c s = (r, u.mirrorLpm true e))
    (hu : s.only u [.reck, .lpm] (regsOf ["LPM_USED", "LPM_V4_COUNT", "LPM_V6_COUNT"])) :
    s.ends (.lpmInsert c) 0x28 c r [.reck, .lpm, .pair] (regsOf ["LPM_USED", "LPM_V4_COUNT", "LPM_V6_COUNT", "PAIR_MIRROR_LEVEL"])
      fun t => t.lpm = u.lpm := by
  have hwide : s.only u [.reck, .lpm, .pair] (regsOf ["LPM_USED", "LPM_V4_COUNT", "LPM_V6_COUNT", "PAIR_MIRROR_LEVEL"]) :=
    only_widen hu (by simp) (by simp)
  have hmoved := keep_of (frame_mirrorLpm u true e) hwide (by simp) (by simp)
  have hlpm := lpm_mirrorLpm u true e
  generalize u.mirrorLpm true e = v at *
  refine ends_of_long rfl lpmInsert_routine ha hcore hmoved (by simp) (cq_of_only hmoved (by simp) _) fun t ht => ?_
  exact (ht.1 .lpm (by simp)).trans hlpm

section Absent

variable (he : e = lpmOf c.input) {moved : Nat} {met : Bool} (hmade : s.movesMade c = (moved, met))
  (hok : s.lpmEntryOk c.input = true) (h : s.lpm.entries.find? (sameKey e) = none)
include he hmade hok h

theorem lpmInsert_met (hmet : met = true) :
    s.ends (.lpmInsert c) 0x28 c (CmdRes.of .parity) [.reck] (keysOf []) fun t => t.lpm = s.lpm :=
  lpmInsert_idle ha ((coreLpmInsert_absent he hmade hok h).trans (if_pos hmet))

variable (hmet : met = false)
include hmet

omit ha in
theorem coreLpmInsert_places {r : CmdRes} {u : State} (hplace : s.lpmPlace e moved = (r, u)) (hst : r.st = .ok) :
    coreLpmInsert c s = (r, u.mirrorLpm true e) := by
  rw [coreLpmInsert_absent he hmade hok h, if_neg (by simp [hmet]), hplace]
  dsimp only
  rw [if_pos hst]

/-- A new prefix takes a free place of its length group. -/
theorem lpmInsert_free (hfree : groupFree (s.lpm.units e.v6 e.len) = true) :
    s.ends (.lpmInsert c) 0x28 c { CmdRes.ok with result := leBytes 2 moved } [.reck, .lpm, .pair]
      (regsOf ["LPM_USED", "LPM_V4_COUNT", "LPM_V6_COUNT", "PAIR_MIRROR_LEVEL"]) fun t => t.lpm = s.lpm.inserted e := by
  have hends := lpmInsert_stores ha (coreLpmInsert_places he hmade hok h hmet (lpmPlace_free hfree moved) rfl) (frame_writePrefix ..)
  rwa [lpm_writePrefix] at hends

/-- A new prefix takes a place that its group gains by moves. -/
theorem lpmInsert_gained (hgood : s.lpm.AllEntries fun e => e.bad = false) (hfree : groupFree (s.lpm.units e.v6 e.len) = false)
    {l : List LpmUnit} {m : LpmSt} (hg : gainUnit s.lpm e.v6 e.len false = some (l, m)) :
    s.ends (.lpmInsert c) 0x28 c { CmdRes.ok with result := leBytes 2 (moved + l.length) } [.reck, .lpm, .pair]
      (regsOf ["LPM_USED", "LPM_V4_COUNT", "LPM_V6_COUNT", "PAIR_MIRROR_LEVEL"]) fun t => t.lpm = m.inserted e := by
  have hends := lpmInsert_stores ha (coreLpmInsert_places he hmade hok h hmet
    (lpmPlace_gained hfree hg (gainUnit_keeps hgood hg) moved) rfl) (frame_writePrefix ..)
  rwa [lpm_writePrefix] at hends

/-- A new prefix for which there is no room. -/
theorem lpmInsert_full (hfree : groupFree (s.lpm.units e.v6 e.len) = false) (hg : gainUnit s.lpm e.v6 e.len false = none) :
    s.ends (.lpmInsert c) 0x28 c (CmdRes.of .full) [.reck] (keysOf [Reg.LPM_STATUS_FULL]) fun t => t.bit Reg.LPM_STATUS_FULL = true := by
  have hcore : coreLpmInsert c s = (CmdRes.of .full, s.on Reg.LPM_STATUS_FULL) := by
    rw [coreLpmInsert_absent he hmade hok h, if_neg (by simp [hmet]), lpmPlace_full hfree hg] <;> rfl
  have hmoved : s.only (s.on Reg.LPM_STATUS_FULL) [.reck] (keysOf [Reg.LPM_STATUS_FULL]) := keep_on _ (only_id s _ _) (by simp [keysOf])
  have hcq : (s.on Reg.LPM_STATUS_FULL).get (Reg.RING_CFG_CQ c.ring) = s.get (Reg.RING_CFG_CQ c.ring) :=
    get_on_ne _ (by simp only [Fld.key, Reg.LPM_STATUS_FULL, Reg.RING_CFG_CQ]; omega)
  have hbit : (s.on Reg.LPM_STATUS_FULL).bit Reg.LPM_STATUS_FULL = true := bit_of_get_one (get_on_self _ _ (by decide))
  generalize s.on Reg.LPM_STATUS_FULL = u at *
  refine ends_of_long rfl lpmInsert_routine ha hcore hmoved (by simp) hcq fun t ht => ?_
  exact (congrArg (· != 0) (ht.2 _ (not_completionKeys s c (by decide) (by decide)))).trans hbit

end Absent

/-- A prefix that is there is replaced with flag bit 0 alone (R271). -/
theorem lpmInsert_present (he : e = lpmOf c.input) (hok : s.lpmEntryOk c.input = true) {d : LpmEntry}
    (h : s.lpm.entries.find? (sameKey e) = some d) (hb : d.bad = false) :
    (bitOf c.flags 0 = false → s.ends (.lpmInsert c) 0x28 c (CmdRes.of .exists) [.reck] (keysOf []) fun t => t.lpm = s.lpm) ∧
    (bitOf c.flags 0 = true → s.ends (.lpmInsert c) 0x28 c { CmdRes.ok with result := leBytes 2 0 } [.reck, .lpm, .pair]
      (regsOf ["LPM_USED", "LPM_V4_COUNT", "LPM_V6_COUNT", "PAIR_MIRROR_LEVEL"]) fun t => t.lpm = s.lpm.replaced e) := by
  have hcore := coreLpmInsert_present he hok h hb
  refine ⟨fun hf => lpmInsert_idle ha (hcore.trans (if_neg (by simp [hf]))), fun hf => ?_⟩
  exact lpmInsert_stores ha (hcore.trans (if_pos hf)) (only_widen (frame_lpmPut s e) (by simp) (by simp))

end Insert

/-! ### LPM_DELETE and LPM_SEARCH -/

section Key

variable {s : State} {c : CmdIn} {k : LpmEntry} (hk : k = lpmOf c.input)

/-- A command that meets a failing prefix removes it and answers PARITY (R275). -/
theorem lpm_ends_parity {i : Instr} {op : Nat} {core : CmdIn → State → CmdRes × State} (hi : exec i s = onRing c (runCmd op core c s))
    (hno : ∀ o, opInfo op = some o → o.routine = none) (ha : s.accepts op c) {e : LpmEntry}
    (hcore : core c s = (CmdRes.of .parity, s.lpmParity e)) (hkey : sameKey k e = true) :
    s.ends i op c (CmdRes.of .parity) [.lpm] (regsOf ["LPM_USED", "LPM_V4_COUNT", "LPM_V6_COUNT", "LPM_PARITY_LOC", "LPM_PARITY_CNT",
      "LPM_STATUS"]) fun t => t.bit Reg.LPM_STATUS_PARITY = true ∧
        t.lpm = s.lpm.setUnits k.v6 k.len (changeGroup (sameKey k) (fun _ => none) (s.lpm.units k.v6 k.len)) := by
  have hlpm := (lpm_lpmParity s e).trans (without_of_sameKey hkey)
  have hbit := (lpmParity_spec s e).1
  have hmoved : s.only (s.lpmParity e) [.lpm] (regsOf ["LPM_USED", "LPM_V4_COUNT", "LPM_V6_COUNT", "LPM_PARITY_LOC", "LPM_PARITY_CNT",
      "LPM_STATUS"]) := only_widen (frame_lpmParity s e) (by simp) (by simp)
  generalize s.lpmParity e = u at *
  refine ends_of_core hi ha hno hcore hmoved (cq_of_only hmoved (by simp) _) fun t ht => ⟨?_, (ht.1 .lpm (by simp)).trans hlpm⟩
  exact (congrArg (· != 0) (ht.2 _ (not_completionKeys s c (by decide) (by decide)))).trans hbit

include hk

/-- LPM_DELETE (R268, R271). -/
theorem lpmDelete_role (ha : s.accepts 0x29 c) :
    (lpmKeyOk c.input = false → s.answers (.lpmDelete c) 0x29 c CmdRes.input) ∧
    (lpmKeyOk c.input = true → (s.lpm.entries.find? (sameKey k) = none → s.answers (.lpmDelete c) 0x29 c (CmdRes.of .notFound)) ∧
      ∀ e, s.lpm.entries.find? (sameKey k) = some e →
        (e.bad = true → s.ends (.lpmDelete c) 0x29 c (CmdRes.of .parity) [.lpm] (regsOf ["LPM_USED", "LPM_V4_COUNT", "LPM_V6_COUNT",
          "LPM_PARITY_LOC", "LPM_PARITY_CNT", "LPM_STATUS"]) fun t => t.bit Reg.LPM_STATUS_PARITY = true ∧
            t.lpm = s.lpm.setUnits k.v6 k.len (changeGroup (sameKey k) (fun _ => none) (s.lpm.units k.v6 k.len))) ∧
        (e.bad = false → s.ends (.lpmDelete c) 0x29 c CmdRes.ok [.lpm, .pair] (regsOf ["LPM_USED", "LPM_V4_COUNT", "LPM_V6_COUNT",
          "PAIR_MIRROR_LEVEL"]) fun t =>
            t.lpm = s.lpm.setUnits k.v6 k.len (changeGroup (sameKey k) (fun _ => none) (s.lpm.units k.v6 k.len)))) := by
  subst hk
  refine ⟨fun h => answers_of_core rfl ha (by decide) (if_pos (by simp [h])), fun hok => ⟨fun h => answers_of_core rfl ha (by decide) ?_,
    fun e h => ⟨fun hb => lpm_ends_parity rfl (by decide) ha (e := e) ?_ (List.find?_some h), fun hb => ?_⟩⟩⟩
  · unfold coreLpmDelete
    rw [if_neg (by simp [hok]), lpmAccess_absent h] <;> rfl
  · unfold coreLpmDelete
    rw [if_neg (by simp [hok]), lpmAccess_bad h hb] <;> rfl
  · have hcore : coreLpmDelete c s = (CmdRes.ok, (s.lpmRemove e).mirrorLpm false e) := by
      unfold coreLpmDelete
      rw [if_neg (by simp [hok]), lpmAccess_good h hb]
    have hset : s.only (s.lpmRemove e) [.lpm, .pair] (regsOf ["LPM_USED", "LPM_V4_COUNT", "LPM_V6_COUNT", "PAIR_MIRROR_LEVEL"]) :=
      only_widen (frame_lpmRemove s e) (by simp) (by simp)
    have hmoved := keep_of (frame_mirrorLpm (s.lpmRemove e) false e) hset (by simp) (by simp)
    have hlpm := (lpm_mirrorLpm (s.lpmRemove e) false e).trans ((lpm_lpmRemove s e).trans (without_of_sameKey (List.find?_some h)))
    generalize (s.lpmRemove e).mirrorLpm false e = u at *
    exact ends_of_core rfl ha (by decide) hcore hmoved (cq_of_only hmoved (by simp) _) fun t ht => (ht.1 .lpm (by simp)).trans hlpm

/-- LPM_SEARCH (R271). -/
theorem lpmSearch_role (ha : s.accepts 0x2A c) :
    (lpmKeyOk c.input = false → s.answers (.lpmSearch c) 0x2A c CmdRes.input) ∧
    (lpmKeyOk c.input = true → (s.lpm.entries.find? (sameKey k) = none → s.answers (.lpmSearch c) 0x2A c (CmdRes.of .notFound)) ∧
      ∀ e, s.lpm.entries.find? (sameKey k) = some e →
        (e.bad = true → s.ends (.lpmSearch c) 0x2A c (CmdRes.of .parity) [.lpm] (regsOf ["LPM_USED", "LPM_V4_COUNT", "LPM_V6_COUNT",
          "LPM_PARITY_LOC", "LPM_PARITY_CNT", "LPM_STATUS"]) fun t => t.bit Reg.LPM_STATUS_PARITY = true ∧
            t.lpm = s.lpm.setUnits k.v6 k.len (changeGroup (sameKey k) (fun _ => none) (s.lpm.units k.v6 k.len))) ∧
        (e.bad = false → s.answers (.lpmSearch c) 0x2A c { CmdRes.ok with result := lpmBytes e })) := by
  subst hk
  refine ⟨fun h => answers_of_core rfl ha (by decide) (if_pos (by simp [h])), fun hok => ⟨fun h => answers_of_core rfl ha (by decide) ?_,
    fun e h => ⟨fun hb => lpm_ends_parity rfl (by decide) ha (e := e) ?_ (List.find?_some h), fun hb => answers_of_core rfl ha (by decide) ?_⟩⟩⟩
  all_goals unfold coreLpmSearch; rw [if_neg (by simp [hok])]
  · rw [lpmAccess_absent h] <;> rfl
  · rw [lpmAccess_bad h hb] <;> rfl
  · rw [lpmAccess_good h hb]

end Key

end Sys2Proof.Machine
end

section
/-! LPM_MATCH, LPM_NEXT, LPM_FLUSH and the background moves (R262, R267, R271, R272, R274). -/

-- One proof at a time: side by side they take more threads than the memory bound of the check leaves room for.
set_option Elab.async false

namespace Sys2Proof.Machine

/-! ### LPM_MATCH -/

/-- The entries that an address hits, longest first. -/
def LpmSt.hits (m : LpmSt) (v6 : Bool) (addr : Nat) : List LpmEntry :=
  (List.range 129).reverse.flatMap fun n => m.entries.filter fun e => e.len == n && lpmHits v6 addr e

section Match

variable {s : State} {c : CmdIn} {k : LpmEntry}

theorem lpmMatch_eq (s : State) (v6 : Bool) (addr : Nat) : s.lpmMatch v6 addr = lpmWalk v6 addr (s.lpm.hits v6 addr) false s := rfl

theorem mem_hits {m : LpmSt} {v6 : Bool} {addr : Nat} {e : LpmEntry} :
    e ∈ m.hits v6 addr ↔ e ∈ m.entries ∧ e.len ≤ 128 ∧ lpmHits v6 addr e = true := by
  unfold LpmSt.hits
  simp only [List.mem_flatMap, List.mem_reverse, List.mem_range, List.mem_filter, Bool.and_eq_true, beq_iff_eq]
  constructor
  · rintro ⟨n, hn, he, rfl, hhit⟩
    exact ⟨he, by omega, hhit⟩
  · exact fun ⟨he, hlen, hhit⟩ => ⟨e.len, by omega, he, rfl, hhit⟩

/-- The longest comes first. -/
theorem hits_sorted (m : LpmSt) (v6 : Bool) (addr : Nat) : (m.hits v6 addr).Pairwise fun a b => b.len ≤ a.len := by
  unfold LpmSt.hits
  rw [List.pairwise_flatMap]
  constructor
  · refine fun n _ => List.pairwise_of_forall_mem_list fun a ha b hb => ?_
    simp only [List.mem_filter, Bool.and_eq_true, beq_iff_eq] at ha hb
    omega
  · rw [List.pairwise_reverse]
    refine List.pairwise_lt_range.imp fun hlt a ha b hb => ?_
    simp only [List.mem_filter, Bool.and_eq_true, beq_iff_eq] at ha hb
    omega

theorem coreLpmMatch_eq (hk : k = lpmOf c.input) (hform : lpmKeyForm c.input = true) (h1 : leAt c.input 1 1 = 0)
    (h2 : leAt c.input 2 1 = 0) (h4 : leAt c.input 4 2 = 0) : coreLpmMatch c s = match lpmWalk k.v6 k.pfx (s.lpm.hits k.v6 k.pfx) false s with
      | (_, true, u) => (CmdRes.of .parity, u)
      | (none, _, u) => (CmdRes.of .notFound, u)
      | (some e, _, u) => ({ CmdRes.ok with result := lpmBytes e }, u) := by
  subst hk
  unfold coreLpmMatch
  dsimp only
  rw [if_neg (by simp [hform, h1, h2, h4]), lpmMatch_eq] <;> rfl

/-- LPM_MATCH answers the longest prefix of the address (R262, R271). -/
theorem lpmMatch_role (hk : k = lpmOf c.input) (hgood : ∀ e ∈ s.lpm.entries, e.bad = false) (ha : s.accepts 0x2B c)
    (hform : lpmKeyForm c.input = true) (h1 : leAt c.input 1 1 = 0) (h2 : leAt c.input 2 1 = 0) (h4 : leAt c.input 4 2 = 0) :
    ((∀ e ∈ s.lpm.entries, e.len ≤ 128 → lpmHits k.v6 k.pfx e = false) → s.answers (.lpmMatch c) 0x2B c (CmdRes.of .notFound)) ∧
    ((∃ e ∈ s.lpm.entries, e.len ≤ 128 ∧ lpmHits k.v6 k.pfx e = true) → ∃ e ∈ s.lpm.entries, lpmHits k.v6 k.pfx e = true ∧
      (∀ d ∈ s.lpm.entries, d.len ≤ 128 → lpmHits k.v6 k.pfx d = true → d.len ≤ e.len) ∧
      s.answers (.lpmMatch c) 0x2B c { CmdRes.ok with result := lpmBytes e }) := by
  have hcore := coreLpmMatch_eq (s := s) hk hform h1 h2 h4
  have hsorted := hits_sorted s.lpm k.v6 k.pfx
  have hmem (e : LpmEntry) : e ∈ s.lpm.hits k.v6 k.pfx ↔ _ := mem_hits
  generalize s.lpm.hits k.v6 k.pfx = l at *
  constructor
  · intro hnone
    have hl : l = [] := by
      refine List.eq_nil_iff_forall_not_mem.mpr fun e he => ?_
      obtain ⟨hin, hlen, hhit⟩ := (hmem e).mp he
      simp [hnone e hin hlen] at hhit
    subst hl
    exact answers_of_core rfl ha (by decide) hcore
  · rintro ⟨d, hd⟩
    cases l with
    | nil => exact absurd ((hmem d).mpr hd) (by simp)
    | cons e l =>
      obtain ⟨hin, -, hhit⟩ := (hmem e).mp List.mem_cons_self
      refine ⟨e, hin, hhit, fun d hd hlen hhit => ?_, answers_of_core rfl ha (by decide) ?_⟩
      · rcases List.mem_cons.mp ((hmem d).mpr ⟨hd, hlen, hhit⟩) with rfl | h
        · exact Nat.le_refl _
        · exact (List.pairwise_cons.mp hsorted).1 d h
      · rw [hcore, lpmWalk, if_neg (by simp [hgood e hin])]

end Match

/-! ### LPM_NEXT -/

section Next

variable {s : State} {c : CmdIn} (ha : s.accepts 0x2C c)
include ha

theorem lpmNext_field (h : c.param < 1 ∨ 16 < c.param) : s.answers (.lpmNext c) 0x2C c CmdRes.field :=
  answers_of_core rfl ha (by decide) (if_pos (by simpa using h))

/-- LPM_NEXT (R272). -/
theorem lpmNext_answers (hgood : ∀ e ∈ s.lpm.entries, e.bad = false) (hlo : 1 ≤ c.param) (hhi : c.param ≤ 16)
    (hin : if bitOf c.flags 0 then allZero c.input = true else lpmKeyOk c.input = true) {got : List (Nat × LpmEntry)}
    (hgot : got = walkFrom (c.param + 1) (if bitOf c.flags 0 then none else some (lpmKeyNat (lpmOf c.input)))
      (s.lpm.entries.map fun e => (lpmKeyNat e, e))) :
    s.answers (.lpmNext c) 0x2C c { CmdRes.ok with
      end_ := got.length ≤ c.param, result := leBytes 1 (min c.param got.length)
      out := (got.take c.param).flatMap fun e => lpmBytes e.2 } := by
  have hnone : ((got.take c.param).map (·.2)).find? (fun e => e.bad) = none := by
    rw [List.find?_eq_none]
    intro e he
    obtain ⟨g, hg, rfl⟩ := List.mem_map.mp he
    have hw := mem_of_walkFrom _ _ _ g (hgot ▸ List.mem_of_mem_take hg)
    obtain ⟨d, hd, rfl⟩ := List.mem_map.mp hw
    simp [hgood d hd]
  refine answers_of_core rfl ha (by decide) ?_
  unfold coreLpmNext
  dsimp only
  rw [if_neg (by simp; omega)]
  refine (if_neg ?_).trans ?_
  · cases hf : bitOf c.flags 0 <;> simp_all
  · rw [← hgot, hnone]
    dsimp only
    rw [List.length_map, List.length_take, List.flatMap_map]

end Next

/-! ### LPM_FLUSH -/

theorem lpmFlush_routine : ∀ o, opInfo 0x2D = some o → o.routine = some .lpmFlush := by decide

/-- The state after a flush has removed the entries of rows. -/
def State.lpmSwept (s : State) (l : List (Nat × LpmEntry)) : State := l.foldl (fun s r => (s.lpmRemove r.2).mirrorLpm false r.2) s

/-- The removal of one entry by a flush. -/
theorem only_lpmRemoved (s : State) (e : LpmEntry) : s.only ((s.lpmRemove e).mirrorLpm false e) [.lpm, .pair]
    (regsOf ["LPM_USED", "LPM_V4_COUNT", "LPM_V6_COUNT", "PAIR_MIRROR_LEVEL"]) :=
  keep_of (frame_mirrorLpm _ false e) (only_widen (frame_lpmRemove s e) (by simp) (by simp)) (by simp) (by simp)

theorem only_lpmSwept (s : State) (l : List (Nat × LpmEntry)) : s.only (s.lpmSwept l) [.lpm, .pair]
    (regsOf ["LPM_USED", "LPM_V4_COUNT", "LPM_V6_COUNT", "PAIR_MIRROR_LEVEL"]) :=
  only_foldl (fun s (r : Nat × LpmEntry) => (s.lpmRemove r.2).mirrorLpm false r.2) (fun s r => only_lpmRemoved s r.2) _ s

theorem lpm_lpmSwept (l : List (Nat × LpmEntry)) : ∀ s : State, (s.lpmSwept l).lpm = l.foldl (fun m r => m.without r.2) s.lpm := by
  induction l with
  | nil => exact fun _ => rfl
  | cons r l ih =>
    intro s
    rw [List.foldl_cons, ← lpm_lpmRemove, ← lpm_mirrorLpm (s.lpmRemove r.2) false r.2]
    exact ih _

/-- Removals leave none of their keys, and no other entry than before. -/
theorem withouts_spec {P : LpmEntry → Prop} (l : List (Nat × LpmEntry)) : ∀ m : LpmSt, m.AllEntries P →
    (l.foldl (fun m r => m.without r.2) m).AllEntries P ∧
    ∀ e, m.Lacks e ∨ (∃ r ∈ l, r.2 = e) → (l.foldl (fun m r => m.without r.2) m).Lacks e := by
  induction l with
  | nil => exact fun m h => ⟨h, fun e he => he.resolve_right fun ⟨_, hr, _⟩ => by cases hr⟩
  | cons r l ih =>
    intro m h
    obtain ⟨hall, hlacks⟩ := ih (m.without r.2) (allEntries_without h r.2)
    refine ⟨hall, fun e he => hlacks e ?_⟩
    rcases he with he | ⟨d, hd, rfl⟩
    · exact .inl (lacks_without he r.2)
    · rcases List.mem_cons.mp hd with rfl | hd
      · exact .inl (without_lacks m d.2)
      · exact .inr ⟨d, hd, rfl⟩

/-- One row that a flush visits. -/
def lpmFlushVisit (c : CmdIn) (began from_ to_ : Nat) (r : (Nat × Bool) × State) (x : Nat × LpmEntry) : (Nat × Bool) × State :=
  let e := x.2
  if x.1 < from_ || to_ ≤ x.1 then r
  else if e.bad then ((r.1.1, true), r.2.lpmParity e)
  else if e.kind == 0 && e.dest == c.param % 1024 && e.born < began then ((r.1.1 + 1, r.1.2), (r.2.lpmRemove e).mirrorLpm false e)
  else r

theorem lpmFlushRange_eq (s : State) (c : CmdIn) (began from_ to_ : Nat) :
    s.lpmFlushRange c began from_ to_ = s.lpm.rows.foldl (lpmFlushVisit c began from_ to_) ((0, false), s) := rfl

/-- A run over all rows removes what matches, and counts it. -/
theorem lpmFlushVisits_eq (c : CmdIn) (began : Nat) (l : List (Nat × LpmEntry)) (hgood : ∀ r ∈ l, r.2.bad = false)
    {gone : Nat × LpmEntry → Bool} (hgone : gone = fun r => decide (r.1 < 131072) && r.2.kind == 0 && r.2.dest == c.param % 1024 &&
      decide (r.2.born < began)) :
    ∀ (n : Nat) (b : Bool) (s : State), l.foldl (lpmFlushVisit c began 0 131072) ((n, b), s) =
      ((n + (l.filter gone).length, b), s.lpmSwept (l.filter gone)) := by
  induction l with
  | nil => exact fun _ _ _ => rfl
  | cons r l ih =>
    intro n b s
    have hbad : r.2.bad = false := hgood r List.mem_cons_self
    have hrest := ih fun r hr => hgood r (List.mem_cons_of_mem _ hr)
    have hvisit : lpmFlushVisit c began 0 131072 ((n, b), s) r =
        if gone r then ((n + 1, b), (s.lpmRemove r.2).mirrorLpm false r.2) else ((n, b), s) := by
      unfold lpmFlushVisit
      dsimp only
      subst hgone
      by_cases hrow : r.1 < 131072
      · rw [if_neg (by simp; omega), if_neg (by simp [hbad])]
        simp only [hrow, decide_true, Bool.true_and]
      · rw [if_pos (by simp; omega)]
        simp only [hrow, decide_false, Bool.false_and]
        rfl
    rw [List.foldl_cons, hvisit, List.filter_cons]
    by_cases hg : gone r = true
    · rw [if_pos hg, if_pos hg, hrest, List.length_cons, Nat.add_assoc, Nat.add_comm 1]
      rfl
    · rw [if_neg hg, if_neg hg, hrest]

section Flush

variable {s : State} {c : CmdIn}

/-- A flush that ends at once (R273). -/
theorem lpmFlush_atOnce (ha : s.accepts 0x2D c) {r : CmdRes} (hcore : coreLpmFlush c s = (r, s)) (honce : lpmFlushAtOnce c s = true) :
    s.ends (.lpmFlush c) 0x2D c r [.reck] (keysOf []) fun t => t.lpm = s.lpm :=
  ends_at_once rfl lpmFlush_routine ha honce hcore (only_id s _ _) (by simp) rfl fun _ ht => ht.1 .lpm (by simp)

/-- LPM_FLUSH removes the prefixes of its port that stood when it began (R274). -/
theorem lpmFlush_removes (ha : s.acceptsLong 0x2D c) (hgood : s.lpm.AllEntries fun e => e.bad = false)
    (hport : s.destPortOk (c.param % 1024) = true) (hbegun : s.begunRoutine .lpmFlush c = none)
    (hother : s.routineOf .lpmFlush c = none → s.otherRuns .lpmFlush c = false) {gone : Nat × LpmEntry → Bool}
    (hgone : gone = fun r => decide (r.1 < 131072) && r.2.kind == 0 && r.2.dest == c.param % 1024 && decide (r.2.born < s.lpm.changes)) :
    s.ends (.lpmFlush c) 0x2D c { CmdRes.ok with result := leBytes 4 (s.lpm.rows.filter gone).length } [.lpm, .pair, .reck]
      (regsOf ["LPM_USED", "LPM_V4_COUNT", "LPM_V6_COUNT", "PAIR_MIRROR_LEVEL"]) fun t =>
      (∀ r ∈ s.lpm.rows, gone r = true → ∀ u ∈ t.lpm.units r.2.v6 r.2.len, ∀ x, some x ∈ u → sameKey r.2 x = false) ∧
      (∀ x ∈ t.lpm.entries, x ∈ s.lpm.entries) := by
  have hfree : ((s.routineOf .lpmFlush c).isNone && s.otherRuns .lpmFlush c) = false := by
    cases hr : s.routineOf .lpmFlush c with
    | none => simpa using hother hr
    | some r => rfl
  have hcore : coreLpmFlush c s = ({ CmdRes.ok with result := leBytes 4 (s.lpm.rows.filter gone).length },
      s.lpmSwept (s.lpm.rows.filter gone)) := by
    have hrun := lpmFlushVisits_eq c s.lpm.changes s.lpm.rows (rows_keep hgood) hgone 0 false s
    rw [← lpmFlushRange_eq, Nat.zero_add] at hrun
    unfold coreLpmFlush
    rw [if_neg (by simp [hport]), if_neg (by simp [hfree]), hbegun]
    dsimp only
    rw [hrun]
    dsimp only
    rw [Nat.zero_add] <;> rfl
  have hmoved := only_lpmSwept s (s.lpm.rows.filter gone)
  have hlpm := lpm_lpmSwept (s.lpm.rows.filter gone) s
  obtain ⟨hall, hlacks⟩ := withouts_spec (P := fun e => e ∈ s.lpm.entries) (s.lpm.rows.filter gone) s.lpm (allEntries_iff.mpr fun _ he => he)
  rw [← hlpm] at hall hlacks
  generalize s.lpmSwept (s.lpm.rows.filter gone) = u at *
  have hu : s.only u [.lpm, .pair, .reck] (regsOf ["LPM_USED", "LPM_V4_COUNT", "LPM_V6_COUNT", "PAIR_MIRROR_LEVEL"]) :=
    only_widen hmoved (by simp) (by simp)
  refine ends_of_long rfl lpmFlush_routine ha hcore hu (by simp) (cq_of_only hu (by simp) _) fun t ht => ?_
  have ht' : t.lpm = u.lpm := ht.1 .lpm (by simp)
  rw [ht']
  exact ⟨fun r hr hg => hlacks r.2 (.inr ⟨r, List.mem_filter.mpr ⟨hr, hg⟩, rfl⟩), fun x hx => allEntries_iff.mp hall x hx⟩

end Flush

/-! ### Background moves -/

section Background

variable {s : State} {n : Nat} (hn : n < 162) (hrun : s.running = true)
include hn hrun

theorem exec_lpmBackgroundMove : exec (.lpmBackgroundMove n) s = .next (s.backgroundMove n).settle :=
  (onObject_ok hn _).trans (whenUp_running hrun fun s => s.backgroundMove n)

/-- A background move without an engine waits (R483). -/
theorem backgroundMove_waits (h : s.carried (.lpmMove n) none = false) :
    ∃ t, exec (.lpmBackgroundMove n) s = .next t ∧ s.only t [] (keysOf []) := by
  have hexec := exec_lpmBackgroundMove hn hrun
  rw [State.backgroundMove, if_pos (by simp [h])] at hexec
  exact ⟨_, hexec, only_settled (only_id s _ _)⟩

/-- A background move gives its group a free unit (R267). -/
theorem backgroundMove_moves (hgood : s.lpm.AllEntries fun e => e.bad = false) (hc : s.carried (.lpmMove n) none = true)
    (hw : s.wantsUnit n = true) (hup : s.funcUp .lpm = true) {l : List LpmUnit} {m : LpmSt}
    (hg : gainUnit s.lpm (groupOf n).1 (groupOf n).2 true = some (l, m)) : ∃ t, exec (.lpmBackgroundMove n) s = .next t ∧
      t.lpm = m ∧ s.only t [.reck, .lpm] (keysOf []) := by
  have hexec := exec_lpmBackgroundMove hn hrun
  have hframe : s.only (s.endRoutine (· == .lpmMove n)) [.reck] (keysOf []) :=
    keep_endRoutine _ (only_id s _ _) (by simp)
  have hlpm : (s.endRoutine (· == .lpmMove n)).lpm = s.lpm := rfl
  have hwants : (s.endRoutine (· == .lpmMove n)).wantsUnit n = true := hw
  have hfunc : (s.endRoutine (· == .lpmMove n)).funcUp .lpm = true := hup
  rw [State.backgroundMove, if_neg (by simp [hc])] at hexec
  dsimp -zeta only at hexec
  generalize s.endRoutine (· == .lpmMove n) = u at *
  dsimp only at hexec
  rw [if_neg (by simp [hwants, hfunc]), hlpm, hg] at hexec
  dsimp only at hexec
  rw [checkUnits_good (gainUnit_keeps hgood hg)] at hexec
  dsimp only at hexec
  rw [if_neg Bool.false_ne_true] at hexec
  generalize hv : ({ u with lpm := m } : State) = v at hexec
  have hset : s.only v [.reck, .lpm] (keysOf []) := by
    subst hv
    exact keep_at_lpm _ (only_mono hframe (by simp) fun x hx => hx) (by simp)
  have hmoves : v.only v.requestMoves [.reck, .lpm] (keysOf []) := only_mono (frame_requestMoves v) (by simp) fun x hx => absurd hx (by simp [regsOf])
  have hm : v.requestMoves.lpm = m := (lpm_requestMoves v).trans (hv ▸ rfl)
  generalize v.requestMoves = w at *
  exact ⟨_, hexec, hm, only_settled (only_then hset hmoves)⟩

end Background

/-- Settles O38: the LPM commands of one key, LPM_MATCH, LPM_NEXT, LPM_FLUSH, and the background moves. -/
theorem lpmCommandsKeepTheStore : Obligations.LpmCommandsKeepTheStore := by
  unfold Obligations.LpmCommandsKeepTheStore
  rintro s c k own hk rfl
  refine ⟨fun hgood => ?_, ?_, lpmNext_field, fun ha => ⟨fun hport => ?_, fun hport hnone hother => ?_⟩,
    fun n hn hrun h => backgroundMove_waits hn hrun h⟩
  · have hall : s.lpm.AllEntries fun e => e.bad = false := allEntries_iff.mpr hgood
    refine ⟨fun ha moved met hmade => ⟨fun hok => ?_, fun hok h => ⟨lpmInsert_met ha hk hmade hok h, fun hmet hfree => ?_,
      fun l m hmet hfree hg => ?_, fun hmet hfree hg => ?_⟩, fun e hok h => ?_⟩, lpmMatch_role hk hgood, ?_,
      fun ha hport hbegun hother gone hgone => lpmFlush_removes ha hall hport hbegun hother hgone,
      fun n l m hn hrun hc hw hup hg => backgroundMove_moves hn hrun hall hc hw hup hg⟩
    · exact lpmInsert_idle ha (if_pos (by simp [hok]))
    · exact lpmInsert_free ha hk hmade hok h hmet hfree
    · exact lpmInsert_gained ha hk hmade hok h hmet hall hfree hg
    · exact lpmInsert_full ha hk hmade hok h hmet hfree hg
    · exact lpmInsert_present ha hk hok h (hgood e (List.mem_of_find?_eq_some h))
    · exact fun ha hlo hhi hin got hgot => lpmNext_answers ha hgood hlo hhi hin hgot
  · rintro found lost rfl rfl
    exact ⟨lpmDelete_role hk, lpmSearch_role hk⟩
  · exact lpmFlush_atOnce ha (if_pos (by simp [hport])) (by simp [lpmFlushAtOnce, hport])
  · refine lpmFlush_atOnce ha ?_ (by simp [lpmFlushAtOnce, hnone, hother])
    unfold coreLpmFlush
    rw [if_neg (by simp [hport]), if_pos (by simp [hnone, hother])]

end Sys2Proof.Machine
end

section
/-! The ring engine takes descriptors (R434, R435, R438, R440, R446). -/

-- One proof at a time: side by side they take more threads than the memory bound of the check leaves room for.
set_option Elab.async false

namespace Sys2Proof.Machine

/-! ### What keeps the record of a ring -/

/-- The record of a ring stands, and with it what the ring engine notes beside the rings. -/
structure DeskKept (n : Nat) (s t : State) : Prop where
  ring : t.ring n = s.ring n
  rotate : t.host.rotate = s.host.rotate
  orphans : t.host.orphans = s.host.orphans
  inject : t.host.inject = s.host.inject

section Kept

variable {n : Nat} {s t u : State}

theorem DeskKept.refl (n : Nat) (s : State) : DeskKept n s s := ⟨rfl, rfl, rfl, rfl⟩

theorem DeskKept.trans (h : DeskKept n s t) (k : DeskKept n t u) : DeskKept n s u :=
  ⟨k.ring.trans h.ring, k.rotate.trans h.rotate, k.orphans.trans h.orphans, k.inject.trans h.inject⟩

/-- A change outside the host's record keeps every ring. -/
theorem deskKept_of_host (n : Nat) (h : t.host = s.host) : DeskKept n s t := by
  refine ⟨?_, ?_, ?_, ?_⟩ <;> simp only [State.ring, h]

theorem deskKept_of_only {P : List Part} {m : Keys} (n : Nat) (h : s.only t P m) (hp : Part.host ∉ P) : DeskKept n s t :=
  deskKept_of_host n (h.1 .host hp)

theorem ring_modRing_self (s : State) (n : Nat) (f : RingDyn → RingDyn) : (s.modRing n f).ring n = f (s.ring n) :=
  mapGet_mod_self s.host.rings n ring0 f

theorem ring_modRing_ne (s : State) {n k : Nat} (f : RingDyn → RingDyn) (h : k ≠ n) : (s.modRing k f).ring n = s.ring n :=
  mapGet_mod_ne s.host.rings ring0 ring0 f h

theorem deskKept_modRing (s : State) {k : Nat} (f : RingDyn → RingDyn) (h : k ≠ n) : DeskKept n s (s.modRing k f) :=
  ⟨ring_modRing_ne s f h, rfl, rfl, rfl⟩

theorem deskKept_pump (n : Nat) (s : State) : DeskKept n s s.pump := by
  unfold State.pump
  split
  · obtain ⟨a, b, c, d, h⟩ := host_pumpMsgs s.host.waiting s.host
    have hhost : (s.modHost fun h => pumpMsgs h.waiting h).host = s.host.onWire a b c d s.host.rings := h
    refine ⟨?_, ?_, ?_, ?_⟩ <;> simp only [State.ring, hhost] <;> rfl
  · exact .refl n s

theorem deskKept_send (n : Nat) (s : State) (m : HostMsg) : DeskKept n s (s.send m) :=
  .trans (t := s.modHost fun h => { h with waiting := h.waiting ++ [m] }) ⟨rfl, rfl, rfl, rfl⟩ (deskKept_pump n _)

theorem deskKept_foldl {α : Type} (n : Nat) {f : State → α → State} (hf : ∀ s a, DeskKept n s (f s a)) (l : List α) :
    ∀ s, DeskKept n s (l.foldl f s) := by
  induction l with
  | nil => exact .refl n
  | cons a l ih => exact fun s => (hf s a).trans (ih _)

theorem deskKept_memWrite (n : Nat) (s : State) (addr : Nat) (d : List Byte) : DeskKept n s (s.memWrite addr d) := by
  unfold State.memWrite
  dsimp only
  split
  · exact .refl n s
  · exact deskKept_foldl n (fun s p => deskKept_send n s _) _ s

theorem deskKept_sendReads (n : Nat) (l : List (ReadUser × Nat × Nat)) : ∀ s, DeskKept n s (sendReads l s) := by
  induction l with
  | nil => exact fun s => ⟨rfl, rfl, rfl, rfl⟩
  | cons r l ih =>
    intro s
    obtain ⟨u, a, k⟩ := r
    unfold sendReads
    split
    next t _ =>
      have hset : DeskKept n s (s.modHost fun h => { h with reads := mapPut h.reads t ⟨u, k, s.cycle⟩ }) := ⟨rfl, rfl, rfl, rfl⟩
      exact (hset.trans (deskKept_send n _ _)).trans (ih _)
    next => exact ⟨rfl, rfl, rfl, rfl⟩

theorem deskKept_askReads (n : Nat) (s : State) (l : List (ReadUser × Nat × Nat)) : DeskKept n s (s.askReads l) :=
  deskKept_sendReads n _ s

theorem deskKept_fetchNext (n k : Nat) (s : State) : DeskKept n s (s.fetchNext k) := by
  unfold State.fetchNext
  dsimp only
  split
  · exact deskKept_askReads n s _
  · exact .refl n s

theorem deskKept_advance {k : Nat} (s : State) (h : k ≠ n) : DeskKept n s (s.advance k) :=
  .trans (t := s.set (Reg.RING_DEV_INDEX_DEV_INDEX k) (s.devIndex k + 1)) (deskKept_of_host n rfl) (deskKept_modRing _ _ h)

theorem deskKept_ringWrite {k : Nat} (s : State) (e : List Byte) (h : k ≠ n) : DeskKept n s (s.ringWrite k e) :=
  ((deskKept_memWrite n s _ e).trans (deskKept_advance _ h)).trans (deskKept_modRing _ _ h)

/-- A completion that is posted to another ring. -/
theorem deskKept_postCompletion {k : Nat} (s : State) (b : Bool) (e : List Byte) (h : k ≠ n) : DeskKept n s (s.postCompletion k b e) := by
  unfold State.postCompletion
  split
  · exact ((deskKept_ringWrite s e h).trans (deskKept_modRing _ _ h)).trans (deskKept_of_host n rfl)
  · split
    · exact ⟨rfl, rfl, rfl, rfl⟩
    · exact .refl n s

theorem key_devIndex_ne {k : Nat} (hk : k < 64) (hn : n < 64) (h : k ≠ n) :
    Fld.key (Reg.RING_DEV_INDEX_DEV_INDEX n) ≠ Fld.key (Reg.RING_DEV_INDEX_DEV_INDEX k) := by
  simp only [Fld.key, Reg.RING_DEV_INDEX_DEV_INDEX]
  omega

theorem key_devIndex_ne_stopped (n k : Nat) : Fld.key (Reg.RING_DEV_INDEX_DEV_INDEX n) ≠ Fld.key (Reg.RING_CFG_STOPPED k) := by
  simp only [Fld.key, Reg.RING_DEV_INDEX_DEV_INDEX, Reg.RING_CFG_STOPPED]
  omega

theorem devIndex_postCompletion {k : Nat} (s : State) (b : Bool) (e : List Byte) (hk : k < 64) (hn : n < 64) (h : k ≠ n) :
    (s.postCompletion k b e).devIndex n = s.devIndex n :=
  (quiet_postCompletion s k b e).1.2 _ (by simpa [keysOf] using key_devIndex_ne hk hn h)

theorem devIndex_advance_self (s : State) (n : Nat) : (s.advance n).devIndex n = (s.devIndex n + 1) % 2 ^ 32 := get_set_self ..

end Kept

/-! ### A ring goes on -/

/-- Nothing of a ring is in progress any more; its device index and its fetched descriptor stand. -/
structure RingFreed (n : Nat) (s t : State) : Prop where
  running : (t.ring n).running = none
  fetched : (t.ring n).fetched = (s.ring n).fetched
  behind : (t.ring n).behind = (s.ring n).behind
  rotate : t.host.rotate = s.host.rotate
  inject : t.host.inject = s.host.inject
  devIndex : t.devIndex n = s.devIndex n

theorem RingFreed.after {n : Nat} {s t u : State} (k : RingFreed n t u) (h : DeskKept n s t) (hd : t.devIndex n = s.devIndex n) :
    RingFreed n s u :=
  ⟨k.running, k.fetched.trans (by rw [h.ring]), k.behind.trans (by rw [h.ring]), k.rotate.trans h.rotate, k.inject.trans h.inject,
    k.devIndex.trans hd⟩

theorem ringIdle_freed (s : State) (n : Nat) : RingFreed n s (s.ringIdle n) := by
  have hdev : (s.ringIdle n).devIndex n = s.devIndex n :=
    (quiet_ringIdle s n).1.2 _ (by simpa [keysOf] using key_devIndex_ne_stopped n n)
  have hring : (s.modRing n fun r => { r with running := none, desc := [], parts := [], need := 0 }).ring n =
      { s.ring n with running := none, desc := [], parts := [], need := 0 } := ring_modRing_self s n _
  have hkept : DeskKept n (s.modRing n fun r => { r with running := none, desc := [], parts := [], need := 0 }) (s.ringIdle n) := by
    unfold State.ringIdle
    dsimp only
    split
    · exact deskKept_fetchNext n n _
    · exact deskKept_of_host n rfl
  refine ⟨?_, ?_, ?_, hkept.rotate, hkept.inject, hdev⟩ <;> rw [hkept.ring, hring]

/-- The same after a change of the ring's record that keeps its fetched descriptor. -/
theorem ringIdle_freed_changed (s : State) (n : Nat) {f : RingDyn → RingDyn} (hf : (f (s.ring n)).fetched = (s.ring n).fetched)
    (hb : (f (s.ring n)).behind = (s.ring n).behind) : RingFreed n s ((s.modRing n f).ringIdle n) := by
  obtain ⟨h1, h2, h3, h4, h5, h6⟩ := ringIdle_freed (s.modRing n f) n
  rw [ring_modRing_self] at h2 h3
  exact ⟨h1, h2.trans hf, h3.trans hb, h4, h5, h6⟩

/-- A command that is in progress on its ring ends. -/
theorem complete_freed {s : State} {op n : Nat} {c : CmdIn} (r : CmdRes) (hn : c.ring = n) (hlt : n < 64)
    (hrunning : (s.ring n).running = some (op, c)) (horph : (n, c.descIndex) ∉ s.host.orphans) {cq : Nat}
    (hcq : s.get (Reg.RING_CFG_CQ n) = cq) (hcqlt : cq < 64) (hne : cq ≠ n) : RingFreed n s (s.complete op c r) := by
  subst hn
  unfold State.complete
  extract_lets out entry u running v w x
  have hu : DeskKept c.ring s u := ⟨rfl, rfl, rfl, rfl⟩
  have hv : DeskKept c.ring u v ∧ v.devIndex c.ring = u.devIndex c.ring ∧ v.get (Reg.RING_CFG_CQ c.ring) = u.get (Reg.RING_CFG_CQ c.ring) := by
    unfold v
    split
    · exact ⟨.refl _ u, rfl, rfl⟩
    · have hquiet := (quiet_memWrite u c.outAddr out (keysOf [])).1.2
      exact ⟨deskKept_memWrite .., hquiet _ (by simp [keysOf]), hquiet _ (by simp [keysOf])⟩
  obtain ⟨hkv, hdv, hqv⟩ := hv
  have hrun : running = true := by
    show (match (u.ring c.ring).running with | some (o, d) => o == op && d.descIndex == c.descIndex | none => false) = true
    rw [hu.ring, hrunning]
    simp
  have hqv : v.get (Reg.RING_CFG_CQ c.ring) = cq := hqv.trans hcq
  have hw : DeskKept c.ring v w := by
    unfold w
    rw [hqv]
    exact deskKept_postCompletion v _ _ hne
  have hdw : w.devIndex c.ring = v.devIndex c.ring := by
    unfold w
    rw [hqv]
    exact devIndex_postCompletion v _ _ hcqlt hlt hne
  have hx : RingFreed c.ring w (x.ringIdle c.ring) := by
    unfold x
    split
    · exact ringIdle_freed w c.ring
    · exact ringIdle_freed_changed w c.ring rfl rfl
  rw [if_neg (by rw [hu.orphans]; simpa using horph), if_pos hrun]
  exact hx.after ((hu.trans hkv).trans hw) (hdw.trans hdv)

end Sys2Proof.Machine
end

section
/-! What DESCRIPTOR_TAKE does with a descriptor (R434, R435, R438, R440, R446). -/

-- One proof at a time: side by side they take more threads than the memory bound of the check leaves room for.
set_option Elab.async false

namespace Sys2Proof.Machine

/-! ### The data of a descriptor is asked for -/

/-- The data of a ring's descriptor is asked for: what stands of the record of the ring, and of what is beside it. -/
structure DataAsked (n len : Nat) (s t : State) : Prop where
  need : (t.ring n).need = len
  fetched : (t.ring n).fetched = (s.ring n).fetched
  behind : (t.ring n).behind = (s.ring n).behind
  desc : (t.ring n).desc = (s.ring n).desc
  running : ∀ op c, (s.ring n).running = some (op, c) → c.input = [] → (t.ring n).running = some (op, c)
  other : ∀ k, k ≠ n → t.ring k = s.ring k
  rotate : t.host.rotate = s.host.rotate
  completion : t.host.completion = s.host.completion
  devIndex : t.devIndex n = s.devIndex n

/-- The command of a ring has its whole input: the ring's record takes it in. -/
theorem host_inputReady {s : State} {n op : Nat} {c : CmdIn} (h : (s.ring n).running = some (op, c)) :
    (s.inputReady n).host = (s.modRing n fun r => { r with running := some (op, { c with
      input := ((s.ring n).parts.flatMap (·.2)).take (s.ring n).need }) }).host := by
  unfold State.inputReady
  dsimp only
  rw [h]
  dsimp only
  generalize s.modRing n _ = u
  have hif (b : Bool) (k : RoutineKind) (o : Option CmdIn) : (if b then u else u.request k o).host = u.host := by split <;> rfl
  split
  · split
    · split
      · exact hif _ _ _
      · rfl
    · rfl
  · rfl

theorem inputReady_idle {s : State} {n : Nat} (h : (s.ring n).running = none) : s.inputReady n = s := by
  unfold State.inputReady
  dsimp only
  rw [h]

theorem askData_asked (s : State) (n addr len : Nat) : DataAsked n len s (s.askData n addr len) := by
  have hdev : (s.askData n addr len).devIndex n = s.devIndex n := (frame_askData s n addr len).2 _ (by simp [regsOf])
  suffices h : ∀ u : State, u = s.askData n addr len → u.devIndex n = s.devIndex n → DataAsked n len s u from h _ rfl hdev
  intro t ht hdev
  unfold State.askData at ht
  extract_lets u at ht
  have hring : u.ring n = { s.ring n with need := len, parts := [] } := ring_modRing_self s n _
  have hother : ∀ k, k ≠ n → u.ring k = s.ring k := fun k hk => ring_modRing_ne s _ hk.symm
  split at ht
  · cases hrunning : (s.ring n).running with
    | none =>
      rw [inputReady_idle (by rw [hring]; exact hrunning)] at ht
      subst ht
      exact ⟨by rw [hring], by rw [hring], by rw [hring], by rw [hring], fun op c h => (by rw [hrunning] at h; cases h), hother, rfl, rfl, hdev⟩
    | some oc =>
      obtain ⟨op, c⟩ := oc
      have hhost := host_inputReady (s := u) (n := n) (op := op) (c := c) (by rw [hring]; exact hrunning)
      rw [← ht, hring] at hhost
      have hself : t.ring n = { s.ring n with need := len, parts := [], running := some (op, { c with input := [] }) } := by
        rw [State.ring, hhost]
        refine (ring_modRing_self u n _).trans ?_
        rw [hring]
        simp
      refine ⟨by rw [hself], by rw [hself], by rw [hself], by rw [hself], fun op' c' h hin => ?_, fun k hk => ?_, by rw [hhost]; rfl,
        by rw [hhost]; rfl, hdev⟩
      · obtain ⟨rfl, rfl⟩ := Prod.mk.inj (Option.some.inj (hrunning.symm.trans h))
        rw [hself, ← hin]
      · rw [State.ring, hhost]
        exact (ring_modRing_ne u _ hk.symm).trans (hother k hk)
  · subst ht
    have hkept (k : Nat) := deskKept_askReads k u ((piecesOf addr (ceilDiv len 16 * 16)).map fun p => (.data n (p.1 - addr), p.1, p.2))
    have hcompl := (quiet_askReads u ((piecesOf addr (ceilDiv len 16 * 16)).map fun p => (.data n (p.1 - addr), p.1, p.2)) (keysOf [])).2.1
    generalize u.askReads _ = v at *
    have hself : v.ring n = { s.ring n with need := len, parts := [] } := (hkept n).ring.trans hring
    exact ⟨by rw [hself], by rw [hself], by rw [hself], by rw [hself], fun op c h _ => (by rw [hself]; exact h),
      fun k hk => (hkept k).ring.trans (hother k hk), (hkept n).rotate, hcompl, hdev⟩

/-! ### Taking a command descriptor -/

/-- A command descriptor has been taken (R434): room for its completion is reserved, and the device index has advanced. -/
def State.taking (s : State) (n op : Nat) (c : CmdIn) : State :=
  let s := (s.modRing (s.get (Reg.RING_CFG_CQ n)) fun r => { r with reserved := r.reserved + 1 }).advance n
  let s := s.modRing n fun r => { r with fetched := none, running := some (op, c), taken := s.host.takes }
  s.modHost fun h => { h with takes := h.takes + 1 }

section Taking

variable {s : State} {n cq : Nat} (hcq : cq = s.get (Reg.RING_CFG_CQ n)) (hne : cq ≠ n)

/-- The state after the descriptor of a ring was taken. -/
structure Taken (n cq op : Nat) (c : CmdIn) (s t : State) : Prop where
  ring : t.ring n = { s.ring n with behind := true, fetched := none, running := some (op, c), taken := s.host.takes }
  room : (t.ring cq).reserved = (s.ring cq).reserved + 1
  devIndex : t.devIndex n = (s.devIndex n + 1) % 2 ^ 32
  rotate : t.host.rotate = s.host.rotate
  orphans : t.host.orphans = s.host.orphans
  completion : t.host.completion = s.host.completion
  cq : t.get (Reg.RING_CFG_CQ n) = cq

include hcq hne in
theorem taking_taken (op : Nat) (c : CmdIn) : Taken n cq op c s (s.taking n op c) := by
  unfold State.taking
  rw [← hcq]
  extract_lets u v
  have hu : u.ring n = { s.ring n with behind := true } := by
    refine (ring_modRing_self ((s.modRing cq fun r => { r with reserved := r.reserved + 1 }).set (Reg.RING_DEV_INDEX_DEV_INDEX n) _) n _).trans ?_
    have h := ring_modRing_ne s (fun r => { r with reserved := r.reserved + 1 }) hne
    exact congrArg (fun r : RingDyn => { r with behind := true }) h
  have hself := ring_modRing_self u n fun r => { r with fetched := none, running := some (op, c), taken := u.host.takes }
  have hroomu : (u.ring cq).reserved = (s.ring cq).reserved + 1 := by
    have h1 := ring_modRing_ne ((s.modRing cq fun r => { r with reserved := r.reserved + 1 }).set (Reg.RING_DEV_INDEX_DEV_INDEX n)
      ((s.modRing cq fun r => { r with reserved := r.reserved + 1 }).devIndex n + 1)) (fun r => { r with behind := true }) hne.symm
    have h2 := ring_modRing_self s cq fun r => { r with reserved := r.reserved + 1 }
    exact congrArg RingDyn.reserved (h1.trans h2)
  have hroomv := ring_modRing_ne u (fun r => { r with fetched := none, running := some (op, c), taken := u.host.takes }) hne.symm
  have hdev : u.devIndex n = (s.devIndex n + 1) % 2 ^ 32 := devIndex_advance_self _ n
  have hq : u.get (Reg.RING_CFG_CQ n) = s.get (Reg.RING_CFG_CQ n) :=
    get_set_ne _ _ (by simp only [Fld.key, Reg.RING_CFG_CQ, Reg.RING_DEV_INDEX_DEV_INDEX]; omega)
  refine ⟨?_, ?_, hdev, rfl, rfl, rfl, hq.trans hcq.symm⟩
  · refine hself.trans ?_
    rw [hu] <;> rfl
  · exact (congrArg RingDyn.reserved hroomv).trans hroomu

theorem takeCommand_eq (s : State) (n : Nat) (d : List Byte) {op : Nat} {c : CmdIn} (hop : op = leAt d 0 1)
    (hc : c = cmdOfDesc n (s.devIndex n) d) (hcq : cq = s.get (Reg.RING_CFG_CQ n)) :
    s.takeCommand n d = match ((s.taking n op c).ring n).history.find? (·.1 == c.seq) with
      | some (_, o, b) =>
        if o = op then (((s.taking n op c).postCompletion cq true (replayBytes (s.taking n op c).attention c.descIndex b)).modHost fun h =>
          { h with completion := replayBytes (s.taking n op c).attention c.descIndex b, output := [] }).ringIdle n
        else (((s.taking n op c).postCompletion cq true (completionBytes (s.taking n op c).attention op c CmdRes.field)).modHost fun h =>
          { h with completion := completionBytes (s.taking n op c).attention op c CmdRes.field, output := [] }).ringIdle n
      | none =>
        match opInfo op with
        | none => (s.taking n op c).complete op c ⟨.range, 4, false, [], []⟩
        | some o => if descOk o c d then (s.taking n op c).askData n (leAt d 16 8) (leAt d 12 4)
          else (s.taking n op c).complete op c CmdRes.field := by
  subst hop hc hcq
  rfl

end Taking

/-- A completion of other bytes is posted for a command, and the ring goes on. -/
def State.posted (s : State) (n cq : Nat) (e : List Byte) : State :=
  ((s.postCompletion cq true e).modHost fun h => { h with completion := e, output := [] }).ringIdle n

theorem posted_freed (s : State) {n cq : Nat} (e : List Byte) (hn : n < 64) (hcq : cq < 64) (hne : cq ≠ n) :
    RingFreed n s (s.posted n cq e) ∧ (s.posted n cq e).host.completion = e ∧ (s.posted n cq e).host.output = [] := by
  have h1 := deskKept_postCompletion s true e hne
  have h2 := devIndex_postCompletion s true e hcq hn hne
  unfold State.posted
  generalize s.postCompletion cq true e = u at *
  obtain ⟨-, hc, ho⟩ := quiet_ringIdle (u.modHost fun h => { h with completion := e, output := [] }) n
  have hfreed := ringIdle_freed (u.modHost fun h => { h with completion := e, output := [] }) n
  have hkept : DeskKept n u (u.modHost fun h => { h with completion := e, output := [] }) := ⟨rfl, rfl, rfl, rfl⟩
  exact ⟨hfreed.after (h1.trans hkept) h2, hc, ho⟩

/-- The end of a command leaves the fetched descriptor of its ring, and the rotation. -/
theorem complete_fetched {s : State} {op n : Nat} {c : CmdIn} (r : CmdRes) (hn : c.ring = n) (hlt : n < 64)
    (hrunning : (s.ring n).running = some (op, c)) {cq : Nat} (hcq : s.get (Reg.RING_CFG_CQ n) = cq) (hcqlt : cq < 64) (hne : cq ≠ n) :
    ((s.complete op c r).ring n).fetched = (s.ring n).fetched ∧ (s.complete op c r).host.rotate = s.host.rotate := by
  by_cases horph : (n, c.descIndex) ∈ s.host.orphans
  · subst hn
    unfold State.complete
    extract_lets out entry u
    rw [if_pos (show u.host.orphans.contains (c.ring, c.descIndex) = true from List.contains_iff_mem.mpr horph)]
    exact ⟨rfl, rfl⟩
  · have h := complete_freed r hn hlt hrunning horph hcq hcqlt hne
    exact ⟨h.fetched, h.rotate⟩

section Command

variable {s : State} {n cq op : Nat} {c : CmdIn} {d : List Byte} (hn : 16 ≤ n ∧ n < 32) (hcq : cq = s.get (Reg.RING_CFG_CQ n)) (hlt : cq < 16)
include hn hcq hlt

/-- The fetched descriptor of a ring is taken, whatever it says. -/
theorem takeCommand_fetched (d : List Byte) : ((s.takeCommand n d).ring n).fetched = none ∧ (s.takeCommand n d).host.rotate = s.host.rotate := by
  have hne : cq ≠ n := by omega
  obtain ⟨op, hop⟩ : ∃ op, op = leAt d 0 1 := ⟨_, rfl⟩
  obtain ⟨c, hc⟩ : ∃ c, c = cmdOfDesc n (s.devIndex n) d := ⟨_, rfl⟩
  have htaken := taking_taken hcq hne op c
  have hcn : c.ring = n := hc ▸ rfl
  rw [takeCommand_eq s n d hop hc hcq]
  generalize s.taking n op c = u at *
  have hrun : (u.ring n).running = some (op, c) := by rw [htaken.ring]
  have hfetched : (u.ring n).fetched = none := by rw [htaken.ring]
  have hdone (r : CmdRes) := complete_fetched r hcn (by omega) hrun htaken.cq (by omega) hne
  have hposted (e : List Byte) := (posted_freed u e (by omega : n < 64) (by omega) hne).1
  split
  · split
    · exact ⟨(hposted _).fetched.trans hfetched, (hposted _).rotate.trans htaken.rotate⟩
    · exact ⟨(hposted _).fetched.trans hfetched, (hposted _).rotate.trans htaken.rotate⟩
  · split
    · exact ⟨(hdone _).1.trans hfetched, (hdone _).2.trans htaken.rotate⟩
    · split
      · have h := askData_asked u n (leAt d 16 8) (leAt d 12 4)
        exact ⟨h.fetched.trans hfetched, h.rotate.trans htaken.rotate⟩
      · exact ⟨(hdone _).1.trans hfetched, (hdone _).2.trans htaken.rotate⟩

/-- What a command descriptor that is taken comes to (R434, R438, R440). -/
theorem takeCommand_role (hop : op = leAt d 0 1) (hc : c = cmdOfDesc n (s.devIndex n) d) (horph : (n, s.devIndex n) ∉ s.host.orphans)
    {t : State} (ht : t = s.takeCommand n d) :
    t.devIndex n = (s.devIndex n + 1) % 2 ^ 32 ∧ (t.ring n).behind = true ∧
    ((s.ring n).history.find? (·.1 == c.seq) = none →
      (opInfo op = none → t.completed op c ⟨.range, 4, false, [], []⟩ ∧ (t.ring n).running = none) ∧
      (∀ o, opInfo op = some o →
        (descOk o c d = false → t.completed op c CmdRes.field ∧ (t.ring n).running = none) ∧
        (descOk o c d = true → (t.ring n).running = some (op, c) ∧ (t.ring n).need = leAt d 12 4 ∧
          (t.ring cq).reserved = (s.ring cq).reserved + 1 ∧ t.host.completion = s.host.completion))) ∧
    (∀ q o b, (s.ring n).history.find? (·.1 == c.seq) = some (q, o, b) → (t.ring n).running = none ∧
      (o = op → ∃ a, t.host.completion = replayBytes a c.descIndex b) ∧
      (o ≠ op → t.completed op c CmdRes.field)) := by
  have hne : cq ≠ n := by omega
  have htaken := taking_taken hcq hne op c
  have hcn : c.ring = n := hc ▸ rfl
  have hindex : c.descIndex = s.devIndex n := hc ▸ rfl
  have hin : c.input = [] := hc ▸ rfl
  rw [takeCommand_eq s n d hop hc hcq] at ht
  generalize s.taking n op c = u at *
  have hhist : (u.ring n).history = (s.ring n).history := by rw [htaken.ring]
  have hrun : (u.ring n).running = some (op, c) := by rw [htaken.ring]
  have hbehind : (u.ring n).behind = true := by rw [htaken.ring]
  have hdone (r : CmdRes) := complete_freed r hcn (by omega) hrun (by rw [hindex, htaken.orphans]; exact horph) htaken.cq (by omega) hne
  have hcompleted (r : CmdRes) := (complete_spec u op c r).2
  have hposted (e : List Byte) := posted_freed u e (by omega : n < 64) (by omega) hne
  rw [hhist] at ht
  have hfreed (h : RingFreed n u t) : t.devIndex n = (s.devIndex n + 1) % 2 ^ 32 ∧ (t.ring n).behind = true :=
    ⟨h.devIndex.trans htaken.devIndex, h.behind.trans hbehind⟩
  cases hfind : (s.ring n).history.find? (·.1 == c.seq) with
  | none =>
    rw [hfind] at ht
    dsimp only at ht
    cases ho : opInfo op with
    | none =>
      rw [ho] at ht
      subst ht
      obtain ⟨h1, h2⟩ := hfreed (hdone _)
      exact ⟨h1, h2, fun _ => ⟨fun _ => ⟨hcompleted _, (hdone _).running⟩, fun o h => (by cases h)⟩, fun q o b h => (by cases h)⟩
    | some o =>
      rw [ho] at ht
      dsimp only at ht
      split at ht
      next hok =>
        have hasked := askData_asked u n (leAt d 16 8) (leAt d 12 4)
        rw [← ht] at hasked
        refine ⟨hasked.devIndex.trans htaken.devIndex, hasked.behind.trans hbehind, fun _ => ⟨fun h => (by cases h), fun o' h => ?_⟩,
          fun q o b h => (by cases h)⟩
        obtain rfl := Option.some.inj h
        refine ⟨fun h => absurd (hok.symm.trans h) (by simp), fun _ => ⟨hasked.running op c hrun hin, hasked.need, ?_, ?_⟩⟩
        · rw [hasked.other cq hne, htaken.room]
        · exact hasked.completion.trans htaken.completion
      next hok =>
        subst ht
        obtain ⟨h1, h2⟩ := hfreed (hdone _)
        refine ⟨h1, h2, fun _ => ⟨fun h => (by cases h), fun o' h => ?_⟩, fun q o b h => (by cases h)⟩
        obtain rfl := Option.some.inj h
        exact ⟨fun _ => ⟨hcompleted _, (hdone _).running⟩, fun h => absurd h hok⟩
  | some w =>
    obtain ⟨q, o, b⟩ := w
    rw [hfind] at ht
    dsimp only at ht
    split at ht
    next hsame =>
      obtain ⟨hpost, hcompl, -⟩ := hposted (replayBytes u.attention c.descIndex b)
      have htp : t = u.posted n cq (replayBytes u.attention c.descIndex b) := ht
      rw [← htp] at hpost hcompl
      obtain ⟨h1, h2⟩ := hfreed hpost
      refine ⟨h1, h2, fun h => (by cases h), fun q' o' b' h => ?_⟩
      obtain ⟨-, rfl, rfl⟩ : q = q' ∧ o = o' ∧ b = b' := by simpa using h
      exact ⟨hpost.running, fun _ => ⟨_, hcompl⟩, fun h => absurd hsame h⟩
    next hother =>
      obtain ⟨hpost, hcompl, hout⟩ := hposted (completionBytes u.attention op c CmdRes.field)
      have htp : t = u.posted n cq (completionBytes u.attention op c CmdRes.field) := ht
      rw [← htp] at hpost hcompl hout
      obtain ⟨h1, h2⟩ := hfreed hpost
      refine ⟨h1, h2, fun h => (by cases h), fun q' o' b' h => ?_⟩
      obtain ⟨-, rfl, rfl⟩ : q = q' ∧ o = o' ∧ b = b' := by simpa using h
      exact ⟨hpost.running, fun h => absurd h hother, fun _ => ⟨⟨_, hcompl⟩, hout⟩⟩

end Command

end Sys2Proof.Machine
end

section
/-! DESCRIPTOR_TAKE and INDEX_BLOCK_WRITE as steps (R433, R434, R435, R446). -/

-- One proof at a time: side by side they take more threads than the memory bound of the check leaves room for.
set_option Elab.async false

namespace Sys2Proof.Machine

/-! ### Inject descriptors -/

/-- An inject descriptor ends before its frame is admitted: its ring goes on, and its completion shows. -/
theorem endInject_ends {s : State} {n cq : Nat} (hn : n < 64) (hcq : cq = s.get (Reg.RING_CFG_CQ n)) (hlt : cq < 64) (hne : cq ≠ n)
    (st : Status) (detail : Nat) :
    ((s.endInject n st detail).ring n).running = none ∧ ((s.endInject n st detail).ring n).fetched = (s.ring n).fetched ∧
    (s.endInject n st detail).host.rotate = s.host.rotate ∧ (s.endInject n st detail).devIndex n = (s.devIndex n + 1) % 2 ^ 32 ∧
    ∃ a, (s.endInject n st detail).host.completion = injectEntry a st n detail 0 (leAt (s.ring n).desc 8 4) (s.devIndex n) 0 := by
  unfold State.endInject
  rw [← hcq]
  extract_lets d e u
  have hpost := deskKept_postCompletion s true e hne
  have hpdev := devIndex_postCompletion s true e hlt hn hne
  have hu : DeskKept n (s.postCompletion cq true e) u := ⟨rfl, rfl, rfl, rfl⟩
  have hcompl : u.host.completion = e := rfl
  have hdev : u.devIndex n = s.devIndex n := hpdev
  have hkept := hpost.trans hu
  clear_value u
  have hidle := ringIdle_freed (u.advance n) n
  have hadv := devIndex_advance_self u n
  have hself : (u.advance n).ring n = { u.ring n with behind := true } := ring_modRing_self (u.set (Reg.RING_DEV_INDEX_DEV_INDEX n) _) n _
  have hrotate : (u.advance n).host.rotate = u.host.rotate := rfl
  have hcompl' : (u.advance n).host.completion = e := hcompl
  have hquiet := (quiet_ringIdle (u.advance n) n).2.1
  refine ⟨hidle.running, ?_, hidle.rotate.trans (hrotate.trans hkept.rotate), ?_, s.attention, hquiet.trans hcompl'⟩
  · rw [hidle.fetched, hself, ← hkept.ring]
  · rw [hidle.devIndex, hadv, hdev]

/-- An inject descriptor is in progress on its ring (R434). -/
def State.injecting (s : State) (n : Nat) (d : List Byte) : State :=
  let s := s.modRing (s.get (Reg.RING_CFG_CQ n)) fun r => { r with reserved := r.reserved + 1 }
  s.modRing n fun r => { r with fetched := none, running := some (256, cmdOfDesc n (s.devIndex n) (zeros 32)), desc := d }

theorem takeInject_eq (s : State) (n : Nat) (d : List Byte) : s.takeInject n d = if injectOk d (s.injectDestOk d)
    then (s.injecting n d).askData n (leAt d 16 8) (leAt d 6 2) else (s.injecting n d).endInject n .range 1 := rfl

theorem takeInject_role {s : State} {n cq : Nat} {d : List Byte} (hn : n < 64) (hcq : cq = s.get (Reg.RING_CFG_CQ n)) (hlt : cq < 16)
    (hne : cq ≠ n) {t : State} (ht : t = s.takeInject n d) :
    (t.ring n).fetched = none ∧ t.host.rotate = s.host.rotate ∧
    (injectOk d (s.injectDestOk d) = true → t.devIndex n = s.devIndex n ∧ (t.ring n).need = leAt d 6 2 ∧ (t.ring n).desc = d ∧
      (∃ c, (t.ring n).running = some (256, c)) ∧ (t.ring cq).reserved = (s.ring cq).reserved + 1) ∧
    (injectOk d (s.injectDestOk d) = false → t.devIndex n = (s.devIndex n + 1) % 2 ^ 32 ∧ (t.ring n).running = none ∧
      ∃ a, t.host.completion = injectEntry a .range n 1 0 (leAt d 8 4) (s.devIndex n) 0) := by
  have hself : (s.injecting n d).ring n = { s.ring n with fetched := none, running := some (256, cmdOfDesc n (s.devIndex n) (zeros 32)), desc := d } := by
    have h1 := ring_modRing_ne s (fun r => { r with reserved := r.reserved + 1 }) hne
    refine (ring_modRing_self (s.modRing (s.get (Reg.RING_CFG_CQ n)) fun r => { r with reserved := r.reserved + 1 }) n _).trans ?_
    rw [← hcq, h1] <;> rfl
  have hroom : ((s.injecting n d).ring cq).reserved = (s.ring cq).reserved + 1 := by
    have h1 := ring_modRing_self s cq fun r => { r with reserved := r.reserved + 1 }
    have h2 := ring_modRing_ne (s.modRing (s.get (Reg.RING_CFG_CQ n)) fun r => { r with reserved := r.reserved + 1 })
      (fun r => { r with fetched := none, running := some (256, cmdOfDesc n (s.devIndex n) (zeros 32)), desc := d }) hne.symm
    rw [← hcq] at h2
    exact congrArg RingDyn.reserved ((show (s.injecting n d).ring cq = _ by unfold State.injecting; rw [← hcq]; exact h2).trans h1)
  have hdev : (s.injecting n d).devIndex n = s.devIndex n := rfl
  have hrot : (s.injecting n d).host.rotate = s.host.rotate := rfl
  have hq : (s.injecting n d).get (Reg.RING_CFG_CQ n) = cq := hcq.symm
  rw [takeInject_eq] at ht
  generalize s.injecting n d = u at *
  split at ht
  next hok =>
    have h := askData_asked u n (leAt d 16 8) (leAt d 6 2)
    rw [← ht] at h
    refine ⟨h.fetched.trans (by rw [hself]), h.rotate.trans hrot, fun _ => ⟨h.devIndex.trans hdev, h.need, h.desc.trans (by rw [hself]),
      ⟨_, h.running 256 _ (by rw [hself]) rfl⟩, ?_⟩, fun hno => absurd (hok.symm.trans hno) (by simp)⟩
    rw [h.other cq hne, hroom]
  next hok =>
    obtain ⟨h1, h2, h3, h4, a, h5⟩ := endInject_ends hn hq.symm (by omega) hne .range 1
    rw [← ht] at h1 h2 h3 h4 h5
    refine ⟨h2.trans (by rw [hself]), h3.trans hrot, fun h => absurd h hok, fun _ => ⟨by rw [h4, hdev], h1, a, ?_⟩⟩
    rw [h5, hself, hdev]

/-! ### The step -/

section Take

variable {s : State} (hrun : s.running = true)
include hrun

theorem exec_descriptorTake : exec .descriptorTake s = .next s.takeDescriptor.settle := whenUp_running hrun fun s => s.takeDescriptor

theorem descriptorTake_idle (h : s.host.serviceOff = true ∨ s.nextTake = none) :
    ∃ t, exec .descriptorTake s = .next t ∧ s.only t [] (keysOf []) := by
  have heq : s.takeDescriptor = s := by
    unfold State.takeDescriptor
    rcases h with h | h
    · exact if_pos h
    · rw [h]
      exact ite_self s
  have hexec := exec_descriptorTake hrun
  rw [heq] at hexec
  exact ⟨_, hexec, only_settled (only_id s _ _)⟩

omit hrun in
/-- The ring whose turn it is is one that the host produces. -/
theorem nextTake_produced {n : Nat} (h : s.nextTake = some n) : (16 ≤ n ∧ n < 32) ∨ (48 ≤ n ∧ n < 61) := by
  have hmem := List.mem_of_find?_eq_some h
  have hp := (List.mem_filter.mp hmem).2
  simpa [hostProduced] using hp

theorem descriptorTake_takes {n cq : Nat} {d : List Byte} (hon : s.host.serviceOff = false) (hnext : s.nextTake = some n)
    (hd : (s.ring n).fetched = some d) (hcq : cq = s.get (Reg.RING_CFG_CQ n)) (hlt : cq < 16) :
    ∃ t, exec .descriptorTake s = .next t ∧ t.host.rotate = n ∧ (t.ring n).fetched = none ∧
      (∀ op c, n < 32 → op = leAt d 0 1 → c = cmdOfDesc n (s.devIndex n) d → (n, s.devIndex n) ∉ s.host.orphans →
        t.devIndex n = (s.devIndex n + 1) % 2 ^ 32 ∧ (t.ring n).behind = true ∧
        ((s.ring n).history.find? (·.1 == c.seq) = none →
          (opInfo op = none → t.completed op c ⟨.range, 4, false, [], []⟩ ∧ (t.ring n).running = none) ∧
          (∀ o, opInfo op = some o →
            (descOk o c d = false → t.completed op c CmdRes.field ∧ (t.ring n).running = none) ∧
            (descOk o c d = true → (t.ring n).running = some (op, c) ∧ (t.ring n).need = leAt d 12 4 ∧
              (t.ring cq).reserved = (s.ring cq).reserved + 1 ∧ t.host.completion = s.host.completion))) ∧
        (∀ q o b, (s.ring n).history.find? (·.1 == c.seq) = some (q, o, b) → (t.ring n).running = none ∧
          (o = op → ∃ a, t.host.completion = replayBytes a c.descIndex b) ∧
          (o ≠ op → t.completed op c CmdRes.field))) ∧
      (48 ≤ n →
        (injectOk d (s.injectDestOk d) = true → t.devIndex n = s.devIndex n ∧ (t.ring n).need = leAt d 6 2 ∧ (t.ring n).desc = d ∧
          (∃ c, (t.ring n).running = some (256, c)) ∧ (t.ring cq).reserved = (s.ring cq).reserved + 1) ∧
        (injectOk d (s.injectDestOk d) = false → t.devIndex n = (s.devIndex n + 1) % 2 ^ 32 ∧ (t.ring n).running = none ∧
          ∃ a, t.host.completion = injectEntry a .range n 1 0 (leAt d 8 4) (s.devIndex n) 0)) ∧
      s.only t [.events, .reck, .host] (regsOf ["RING_CFG", "RING_DEV_INDEX"]) := by
  have hexec := exec_descriptorTake hrun
  have hframe : s.only s.takeDescriptor.settle _ _ := only_settled (frame_takeDescriptor s)
  have heq : s.takeDescriptor = if n < 32 then (s.modHost fun h => { h with rotate := n }).takeCommand n d
      else (s.modHost fun h => { h with rotate := n }).takeInject n d := by
    unfold State.takeDescriptor
    rw [if_neg (by simp [hon]), hnext]
    dsimp only
    rw [hd] <;> rfl
  rw [heq] at hexec hframe
  have hring (k : Nat) : (s.modHost fun h => { h with rotate := n }).ring k = s.ring k := rfl
  rcases nextTake_produced hnext with hn | hn
  · rw [if_pos hn.2] at hexec hframe
    obtain ⟨h1, h2⟩ := takeCommand_fetched (s := s.modHost fun h => { h with rotate := n }) hn hcq hlt d
    have hrole := fun op c hop hc horph => takeCommand_role (s := s.modHost fun h => { h with rotate := n }) (op := op) (c := c) hn hcq hlt hop hc horph
      (d := d) rfl
    simp only [hring] at hrole
    generalize (s.modHost fun h => { h with rotate := n }).takeCommand n d = u at *
    exact ⟨_, hexec, h2, h1, fun op c _ hop hc horph => hrole op c hop hc horph, fun h => absurd h (by omega), hframe⟩
  · rw [if_neg (by omega)] at hexec hframe
    obtain ⟨h1, h2, h3, h4⟩ := takeInject_role (s := s.modHost fun h => { h with rotate := n }) (n := n) (d := d) (by omega) hcq hlt (by omega) rfl
    simp only [hring] at h3 h4
    generalize (s.modHost fun h => { h with rotate := n }).takeInject n d = u at *
    exact ⟨_, hexec, h2, h1, fun _ _ h => absurd h (by omega), fun _ => ⟨h3, h4⟩, hframe⟩

/-! ### The index block -/

/-- The index block follows the device index (R433). -/
theorem indexBlockWrite_role {n : Nat} (hn : n < 64) :
    ((s.ring n).behind = true → s.canWrite = true → ∃ t, exec (.indexBlockWrite n) s = .next t ∧ (t.ring n).behind = false ∧
      t.host.sent ++ t.host.waiting = s.host.sent ++ s.host.waiting ++
        [.memWr (s.get (Reg.RING_IDXBLK_HI_ADDR_HI n) * 2 ^ 32 + s.get (Reg.RING_IDXBLK_LO_ADDR n) * 16)
          (leBytes 4 (s.devIndex n) ++ zeros 12)] ∧ s.only t [.host] (keysOf [])) ∧
    ((s.ring n).behind = false ∨ s.canWrite = false → ∃ t, exec (.indexBlockWrite n) s = .next t ∧ s.only t [] (keysOf [])) := by
  have hexec : exec (.indexBlockWrite n) s = .next (s.writeIndex n).settle := (onObject_ok hn _).trans (whenUp_running hrun fun s => s.writeIndex n)
  have hframe : s.only (s.writeIndex n).settle [.host] (keysOf []) := only_settled (only_mono (frame_writeIndex s n) (by simp) fun x hx => absurd hx (by simp [regsOf]))
  constructor
  · intro hb hw
    have heq : s.writeIndex n = (s.memWrite (s.get (Reg.RING_IDXBLK_HI_ADDR_HI n) * 2 ^ 32 + s.get (Reg.RING_IDXBLK_LO_ADDR n) * 16)
        (leBytes 4 (s.devIndex n) ++ zeros 12)).modRing n fun r => { r with behind := false } := if_pos (by simp [hb, hw])
    have hwire := memWrite_wire (s := s) (addr := s.get (Reg.RING_IDXBLK_HI_ADDR_HI n) * 2 ^ 32 + s.get (Reg.RING_IDXBLK_LO_ADDR n) * 16)
      (d := leBytes 4 (s.devIndex n) ++ zeros 12) (serviceOff_of_canWrite hw) (by simp) (by simp) (by simp) (by simp; omega)
    rw [heq] at hexec hframe
    generalize s.memWrite _ _ = u at *
    have hbehind := congrArg RingDyn.behind (ring_modRing_self u n fun r => { r with behind := false })
    exact ⟨_, hexec, hbehind, hwire, hframe⟩
  · intro h
    have heq : s.writeIndex n = s := if_neg (by rcases h with h | h <;> simp [h])
    rw [heq] at hexec
    exact ⟨_, hexec, only_settled (only_id s _ _)⟩

end Take

end Sys2Proof.Machine
end

section
/-! INJECT_DESCRIPTOR (R303, R434, R445, R446). -/

-- One proof at a time: side by side they take more threads than the memory bound of the check leaves room for.
set_option Elab.async false

namespace Sys2Proof.Machine

theorem exec_injectDescriptor {s : State} (hrun : s.running = true) {n : Nat} (hn : n < 64) :
    exec (.injectDescriptor n) s = .next (s.injectDescriptor n).settle :=
  (onObject_ok hn _).trans (whenUp_running hrun fun s => s.injectDescriptor n)

theorem funcUp_of_only {s t : State} {P : List Part} {L : List String} (h : s.only t P (regsOf L)) (hL : "SYS_FUNC_STATUS" ∉ L) (k : Func) :
    t.funcUp k = s.funcUp k := by
  rw [State.funcUp, State.funcUp, kept_of_only h 0 0 0 (List.mem_of_getElem? (i := 15) rfl) (a := .ro) (by simp) hL]

theorem devIndex_of_only {s t : State} {P : List Part} {L : List String} (h : s.only t P (regsOf L)) (hL : "RING_DEV_INDEX" ∉ L) (n : Nat) :
    t.devIndex n = s.devIndex n :=
  kept_of_only h 19 n 0 (List.mem_of_getElem? (i := 15) rfl) (a := .ro) (by simp) hL

/-- The completion ring of a ring is a matter of its configuration. -/
theorem ringCq_of_only {s t : State} {P : List Part} {L : List String} (h : s.only t P (regsOf L)) (hL : "RING_CFG" ∉ L) (n : Nat) :
    t.get (Reg.RING_CFG_CQ n) = s.get (Reg.RING_CFG_CQ n) :=
  kept_of_only h 19 n 0 (List.mem_of_getElem? (i := 14) rfl) (a := .rw) (by simp) hL

/-- A ring goes on after its device index has advanced. -/
theorem advance_ringIdle (s : State) (n : Nat) : (((s.advance n).ringIdle n).ring n).running = none ∧
    ((s.advance n).ringIdle n).devIndex n = (s.devIndex n + 1) % 2 ^ 32 ∧ ((s.advance n).ringIdle n).host.inject = s.host.inject ∧
    ((s.advance n).ringIdle n).host.completion = s.host.completion ∧ ((s.advance n).ringIdle n).path = s.path ∧
    s.only ((s.advance n).ringIdle n) [.host] (regsOf ["RING_CFG", "RING_DEV_INDEX"]) := by
  have hdev := devIndex_advance_self s n
  have hadv : s.only (s.advance n) [.host] (regsOf ["RING_CFG", "RING_DEV_INDEX"]) := only_widen (frame_advance s n) (by simp) (by simp)
  have hinj : (s.advance n).host.inject = s.host.inject := rfl
  have hcompl : (s.advance n).host.completion = s.host.completion := rfl
  generalize s.advance n = u at *
  have hidle := ringIdle_freed u n
  have hquiet := quiet_ringIdle u n
  have hframe := keep_of (frame_ringIdle u n) hadv (by simp) (by simp)
  exact ⟨hidle.running, hidle.devIndex.trans hdev, hidle.inject.trans hinj, hquiet.2.1.trans hcompl, hframe.1 .path (by simp), hframe⟩

/-! ### The pool is empty -/

section Dropped

variable {s : State} {n cq : Nat} (hn : n < 64) (hcq : cq = s.get (Reg.RING_CFG_CQ n)) (hlt : cq < 64) (hne : cq ≠ n)
include hn hcq hlt hne

/-- The completion of a dropped frame, where its descriptor asks for one (R446). -/
theorem injectDropped_spec (x : Frame) : (s.injectDropped n x).get Reg.BUF_DROP_CNT_COUNT = min (2 ^ 32 - 1) (s.get Reg.BUF_DROP_CNT_COUNT + 1) ∧
    (s.injectDropped n x).bit Reg.BUF_STATUS_DROP = true ∧ (s.injectDropped n x).devIndex n = (s.devIndex n + 1) % 2 ^ 32 ∧
    ((s.injectDropped n x).ring n).running = none ∧
    (bitOf (leAt (s.ring n).desc 0 1) 0 = true ∨ bitOf (leAt (s.ring n).desc 0 1) 2 = true → ∃ a lost,
      (s.injectDropped n x).host.completion = injectEntry a .retry n 6 lost (leAt (s.ring n).desc 8 4) (s.devIndex n) 0) := by
  unfold State.injectDropped
  extract_lets r d lost v flags q e w
  have hcnt0 : ((s.satAdd Reg.BUF_DROP_CNT_COUNT 1).on Reg.BUF_STATUS_DROP).get Reg.BUF_DROP_CNT_COUNT =
      min (2 ^ 32 - 1) (s.get Reg.BUF_DROP_CNT_COUNT + 1) := by
    rw [get_on_ne _ (by decide), get_satAdd_self]
    rfl
  have hbit0 : ((s.satAdd Reg.BUF_DROP_CNT_COUNT 1).on Reg.BUF_STATUS_DROP).get Reg.BUF_STATUS_DROP = 1 := get_on_self _ _ (by decide)
  have honly0 : s.only ((s.satAdd Reg.BUF_DROP_CNT_COUNT 1).on Reg.BUF_STATUS_DROP) [] (regsOf ["BUF_STATUS", "BUF_DROP_CNT", "BUF_HEADROOM_CNT"]) :=
    keep_on _ (keep_satAdd _ _ (only_id s _ _) (reg_BUF_DROP_CNT_COUNT (by simp))) (reg_BUF_STATUS_DROP (by simp))
  have hv : v.get Reg.BUF_DROP_CNT_COUNT = min (2 ^ 32 - 1) (s.get Reg.BUF_DROP_CNT_COUNT + 1) ∧ v.get Reg.BUF_STATUS_DROP = 1 ∧
      s.only v [] (regsOf ["BUF_STATUS", "BUF_DROP_CNT", "BUF_HEADROOM_CNT"]) := by
    unfold v
    generalize (s.satAdd Reg.BUF_DROP_CNT_COUNT 1).on Reg.BUF_STATUS_DROP = u at *
    have hloss := frame_headroomLoss u x.mark.cls
    refine ⟨?_, ?_, keep_of hloss honly0 (by simp) (by simp)⟩
    · rw [← hcnt0]
      exact kept_of_only hloss 12 0 0 (List.mem_of_getElem? (i := 14) rfl) (a := .rc) (by simp) (by simp)
    · unfold State.headroomLoss
      split
      · rw [get_on_ne _ (by decide), get_satAdd_ne _ _ (by decide), hbit0]
      · exact hbit0
  clear_value v
  obtain ⟨hcnt, hbit, honly⟩ := hv
  have hkv := deskKept_of_only n honly (by simp)
  have hvdev := devIndex_of_only honly (by simp) n
  have hq : q = cq := (ringCq_of_only honly (by simp) n).trans hcq.symm
  have hw : v.only w [.events, .host] (regsOf ["RING_DEV_INDEX"]) ∧ w.devIndex n = v.devIndex n ∧
      (bitOf flags 0 = true ∨ bitOf flags 2 = true → w.host.completion = e) := by
    unfold w
    rw [hq]
    split
    next hflag =>
      have hpost := frame_postCompletion v cq true e
      have hpdev := devIndex_postCompletion v true e hlt hn hne
      generalize v.postCompletion cq true e = y at *
      exact ⟨keep_modHost _ hpost (by simp), hpdev, fun _ => rfl⟩
    next hflag =>
      exact ⟨keep_modRing _ _ (only_id v _ _) (by simp), rfl, fun h => absurd (by simpa using h) hflag⟩
  clear_value w
  obtain ⟨hwonly, hwdev, hwcompl⟩ := hw
  obtain ⟨h1, h2, -, h4, -, h6⟩ := advance_ringIdle w n
  generalize (w.advance n).ringIdle n = t at *
  have hall : v.only t [.events, .host] (regsOf ["RING_CFG", "RING_DEV_INDEX"]) :=
    keep_of h6 (only_widen hwonly (by simp) (by simp)) (by simp) (by simp)
  refine ⟨?_, ?_, ?_, h1, fun hflag => ⟨v.attention, lost, ?_⟩⟩
  · exact (kept_of_only hall 12 0 0 (List.mem_of_getElem? (i := 14) rfl) (a := .rc) (by simp) (by simp)).trans hcnt
  · exact bit_of_get_one ((kept_of_only hall 12 0 0 (List.mem_of_getElem? (i := 9) rfl) (a := .w1c) (by simp) (by simp)).trans hbit)
  · rw [h2, hwdev, hvdev]
  · rw [h4, hwcompl hflag, ← hvdev]

end Dropped

/-! ### The frame enters -/

/-- The copies of an injected frame for a local port that no mirror watches (R336, R341). -/
theorem planCopies_inject {s : State} {x : Frame} (hinj : x.inject.isSome = true) (hkind : x.destKind = 0) (hlocal : s.isLocal x.dest = true)
    (hmirror : s.bit (Reg.MIRROR_PORT_CFG_EGR_EN (x.dest - s.logicalBase)) = false) :
    s.planCopies x = ([⟨.dest, x.dest - s.logicalBase, x.mark.queue, none⟩], s) := by
  have hno : s.egressMirror (x.dest - s.logicalBase) = none := if_neg (by simp [hmirror])
  have hfirst : s.ingressMirror x = [] := by
    unfold State.ingressMirror
    rw [if_pos hinj]
  unfold State.planCopies
  rw [hfirst, hkind]
  dsimp only
  rw [if_pos hlocal, State.destPlan, hno] <;> rfl

/-- The record of an injected frame and of its descriptor, once its copy is fixed. -/
theorem fixCopies_inject {s : State} {f : Nat} {x : Frame} {r : InjectRun} (hx : s.frame f = some x) (hr : mapFind s.host.inject f = some r)
    (hinj : x.inject.isSome = true) (hpunt : x.punt = 0) (hkind : x.destKind = 0) (hlocal : s.isLocal x.dest = true)
    (hmirror : s.bit (Reg.MIRROR_PORT_CFG_EGR_EN (x.dest - s.logicalBase)) = false) :
    (s.fixCopies f).frame f = some { x with plan := [⟨.dest, x.dest - s.logicalBase, x.mark.queue, none⟩], copies := 1, group := none } ∧
    mapFind (s.fixCopies f).host.inject f = some { r with left := 1, lost := 0, detail := 0 } := by
  have hset : (s.setCounts x.beads 1).host.inject = s.host.inject := by
    rw [(frame_setCounts s x.beads 1).1 .host (by simp)]
  have heq : s.fixCopies f = ((s.setCounts x.beads 1).setFrame f { x with
      plan := [⟨.dest, x.dest - s.logicalBase, x.mark.queue, none⟩], copies := 1, group := none }).modHost fun h =>
      { h with inject := mapPut h.inject f { r with left := 1, lost := 0, detail := 0 } } := by
    unfold State.fixCopies
    rw [hx]
    dsimp only
    rw [planCopies_inject hinj hkind hlocal hmirror]
    simp only [limitCopies, planSize, hpunt, hkind, List.foldl_nil, List.map_cons, List.map_nil, List.sum_cons, List.sum_nil, b2n]
    simp only [Option.isSome_none, bne_self_eq_false, Bool.false_eq_true, if_false, Nat.add_zero]
    split
    next r' hr' =>
      have hsame : mapFind (s.setCounts x.beads 1).host.inject f = some r' := hr'
      rw [hset, hr] at hsame
      obtain rfl := Option.some.inj hsame
      rfl
    next hno =>
      have hsame : mapFind (s.setCounts x.beads 1).host.inject f = none := hno
      rw [hset, hr] at hsame
      cases hsame
  rw [heq]
  generalize s.setCounts x.beads 1 = u at *
  exact ⟨frame_setFrame_self .., mapFind_put_self ..⟩

end Sys2Proof.Machine
end

section
/-! The frame of an inject descriptor enters (R303, R434, R445). -/

-- One proof at a time: side by side they take more threads than the memory bound of the check leaves room for.
set_option Elab.async false

namespace Sys2Proof.Machine

/-- The frame of a descriptor of a ring takes the next frame number, and the descriptor its record (R445). -/
def State.entering (s : State) (z : Frame) (run : InjectRun) : State :=
  ((s.framed z).modFrame s.path.nextFrame fun y => { y with inject := some s.path.nextFrame }).modHost fun h =>
    { h with inject := mapPut h.inject s.path.nextFrame run }

theorem entering_eq (s : State) (z : Frame) (run : InjectRun) : s.entering z run =
    ((s.framed z).setFrame s.path.nextFrame { z with inject := some s.path.nextFrame }).modHost fun h =>
      { h with inject := mapPut h.inject s.path.nextFrame run } := by
  unfold State.entering
  rw [modFrame_some (frame_framed_self s z)]

/-- The record of a descriptor is kept, or ended, and the frame goes on. -/
def State.entered (s : State) (f : Nat) (run : InjectRun) : State :=
  let empty := match mapFind s.host.inject f with | some r => r.left == 0 | none => false
  let s := if empty then s.modHost fun h => { h with inject := mapMod h.inject f run fun r => { r with stampWait := false } } else s
  let s := match mapFind s.host.inject f with | some r => s.putInject f r | none => s
  s.admitted f

/-- A frame with copies left to make, of a descriptor with copies left to finish. -/
theorem entered_walks {s : State} {f : Nat} {x : Frame} {r run : InjectRun} (hx : s.frame f = some x) (hr : mapFind s.host.inject f = some r)
    (hleft : r.left = 1) (htm : s.funcUp .tm = true) (hcopies : x.copies ≠ 0) (hplan : x.plan ≠ []) :
    (s.entered f run).frame f = some { x with stage := .walking } ∧ mapFind (s.entered f run).host.inject f = some r ∧
    (s.entered f run).regs = s.regs ∧ (s.entered f run).host.rings = s.host.rings := by
  have hput : s.putInject f r = s.modHost fun h => { h with inject := mapPut h.inject f r } := if_neg (by simp [hleft])
  have heq : s.entered f run = (s.modHost fun h => { h with inject := mapPut h.inject f r }).admitted f := by
    unfold State.entered
    rw [hr]
    dsimp only
    rw [if_neg (by simp [hleft]), hr]
    dsimp only
    rw [hput]
  have hfind : mapFind (s.modHost fun h => { h with inject := mapPut h.inject f r }).host.inject f = some r := mapFind_put_self ..
  have hx' : (s.modHost fun h => { h with inject := mapPut h.inject f r }).frame f = some x := hx
  have htm' : (s.modHost fun h => { h with inject := mapPut h.inject f r }).funcUp .tm = true := htm
  have hregs : (s.modHost fun h => { h with inject := mapPut h.inject f r }).regs = s.regs := rfl
  have hrings : (s.modHost fun h => { h with inject := mapPut h.inject f r }).host.rings = s.host.rings := rfl
  rw [heq]
  generalize s.modHost _ = u at *
  have hadm : u.admitted f = (u.setFrame f { x with stage := .walking }).modPath fun p => { p with
      replicators := mapMod p.replicators (requesterOf x) [] (· ++ [f]) } := by
    rw [State.admitted, hx']
    dsimp only
    rw [if_neg (by simp [htm']), if_neg hcopies, State.startWalk, hx']
    exact if_neg (by simpa using hplan)
  rw [hadm]
  exact ⟨mapFind_put_self .., hfind, hregs, hrings⟩

section Inject

variable {s : State} (hrun : s.running = true) {n : Nat} {d : List Byte} {x : Frame} {c : CmdIn} (hlo : 48 ≤ n) (hhi : n < 61)
  (hrunning : (s.ring n).running = some (256, c)) (hd : d = (s.ring n).desc) (hx : x = s.injectFrame d (s.ring n).frameBytes)

include hrun hlo hhi hrunning in
/-- The frame of a descriptor is not yet whole (R445). -/
theorem inject_waits (h : ((s.ring n).parts.map (·.2.length)).sum < (s.ring n).need) :
    ∃ t, exec (.injectDescriptor n) s = .next t ∧ s.only t [] (keysOf []) := by
  have heq : s.injectDescriptor n = s := by
    unfold State.injectDescriptor
    dsimp only
    rw [hrunning]
    exact if_pos (by simp [h])
  have hexec := exec_injectDescriptor hrun (n := n) (by omega)
  rw [heq] at hexec
  exact ⟨_, hexec, only_settled (only_id s _ _)⟩

variable (hwhole : (s.ring n).need ≤ ((s.ring n).parts.map (·.2.length)).sum) (hup : s.funcUp .buf = true)
include hrunning hd hx hwhole hup

theorem injectDescriptor_empty (h : takeBeads x.pool ownerInject 1 (ceilDiv x.bytes.length 256) [] (s.turnOn x.pool) = none) :
    s.injectDescriptor n = (s.turnOn x.pool).injectDropped n { x with plan := (s.planCopies x).1 } := by
  subst hd hx
  unfold State.injectDescriptor
  dsimp only
  rw [hrunning]
  rw [if_neg (by simp [hup, hwhole]), h] <;> rfl

theorem injectDescriptor_enters {l : List Nat} {u : State}
    (h : takeBeads x.pool ownerInject 1 (ceilDiv x.bytes.length 256) [] (s.turnOn x.pool) = some (l, u)) :
    s.injectDescriptor n = ((((u.entering { x with plan := [], beads := l } ⟨n, u.devIndex n, leAt d 0 1, leAt d 8 4, 0, 0, 0, none, false,
      x.stampReq⟩).fixCopies u.path.nextFrame).advance n).ringIdle n).entered u.path.nextFrame ⟨n, u.devIndex n, leAt d 0 1, leAt d 8 4, 0, 0, 0,
        none, false, x.stampReq⟩ := by
  subst hd hx
  unfold State.injectDescriptor
  extract_lets r
  have hr : r.running = some (256, c) := hrunning
  rw [hr]
  refine (if_neg (by simp [r, hup, hwhole])).trans ?_
  split
  next hnone => exact absurd (hnone.symm.trans h) (by simp)
  next l' u' hsome =>
    obtain ⟨rfl, rfl⟩ := Prod.mk.inj (Option.some.inj (hsome.symm.trans h))
    rw [addFrame_eq]
    dsimp -zeta only
    extract_lets run v w z
    have hz : z = (((u'.entering { s.injectFrame (s.ring n).desc (s.ring n).frameBytes with plan := [], beads := l' } run).fixCopies
      u'.path.nextFrame).advance n).ringIdle n := rfl
    have hrun : run = ⟨n, u'.devIndex n, leAt (s.ring n).desc 0 1, leAt (s.ring n).desc 8 4, 0, 0, 0, none, false,
      (s.injectFrame (s.ring n).desc (s.ring n).frameBytes).stampReq⟩ := rfl
    rw [← hrun, ← hz]
    clear_value z run
    rfl

include hrun hlo hhi

/-- The pool has no beads for the frame (R303, R446). -/
theorem inject_drops (hcq : s.get (Reg.RING_CFG_CQ n) < 16)
    (h : takeBeads x.pool ownerInject 1 (ceilDiv x.bytes.length 256) [] (s.turnOn x.pool) = none) : ∃ t, exec (.injectDescriptor n) s = .next t ∧
      s.counted t Reg.BUF_DROP_CNT_COUNT ∧ t.bit Reg.BUF_STATUS_DROP = true ∧ t.devIndex n = (s.devIndex n + 1) % 2 ^ 32 ∧
      (t.ring n).running = none ∧ t.path.frames = s.path.frames ∧
      (bitOf (leAt d 0 1) 0 = true ∨ bitOf (leAt d 0 1) 2 = true → ∃ a lost,
        t.host.completion = injectEntry a .retry n 6 lost (leAt d 8 4) (s.devIndex n) 0) := by
  have hexec := exec_injectDescriptor hrun (n := n) (by omega)
  rw [injectDescriptor_empty hrunning hd hx hwhole hup h] at hexec
  have hturn := frame_turnOn s x.pool
  have hq := ringCq_of_only hturn (by simp) n
  have hdev := devIndex_of_only hturn (by simp) n
  have hkept := deskKept_of_only n hturn (by simp)
  have hdrop : (s.turnOn x.pool).get Reg.BUF_DROP_CNT_COUNT = s.get Reg.BUF_DROP_CNT_COUNT :=
    kept_of_only hturn 12 0 0 (List.mem_of_getElem? (i := 14) rfl) (a := .rc) (by simp) (by simp)
  have hpath : (s.turnOn x.pool).path = s.path := hturn.1 .path (by simp)
  generalize s.turnOn x.pool = u at *
  generalize hy : ({ x with plan := (s.planCopies x).1 } : Frame) = y at *
  obtain ⟨h1, h2, h3, h4, h5⟩ := injectDropped_spec (s := u) (n := n) (by omega) rfl (by omega) (by omega) y
  have hframe := frame_injectDropped u n y
  generalize u.injectDropped n y = t at *
  refine ⟨_, hexec, ?_, h2, h3.trans (by rw [hdev]), h4, ?_, fun hflag => ?_⟩
  · have hcounted : t.get Reg.BUF_DROP_CNT_COUNT = min (2 ^ 32 - 1) (s.get Reg.BUF_DROP_CNT_COUNT + 1) := h1.trans (by rw [hdrop])
    exact hcounted
  · have hp : t.path = s.path := (hframe.1 .path (by simp)).trans hpath
    exact congrArg PathSt.frames hp
  · rw [hkept.ring, ← hd, hdev] at h5
    exact h5 hflag

/-- The frame of a descriptor enters at admission as owner INJECT (R303, R434, R445). -/
theorem inject_enters {l : List Nat} {u : State} (h : takeBeads x.pool ownerInject 1 (ceilDiv x.bytes.length 256) [] (s.turnOn x.pool) = some (l, u))
    (hkind : leAt d 2 1 = 0) (hlocal : s.isLocal (leAt d 4 2) = true)
    (hmirror : s.bit (Reg.MIRROR_PORT_CFG_EGR_EN (leAt d 4 2 - s.logicalBase)) = false) (htm : s.funcUp .tm = true) :
    ∃ t y r, exec (.injectDescriptor n) s = .next t ∧
      t.frame s.path.nextFrame = some y ∧ y.bytes = x.bytes ∧ y.beads = l ∧ y.port = 1024 ∧ y.stage = .walking ∧ y.copies = 1 ∧
      y.mark = x.mark ∧ y.ingStamp = s.presStamp ∧ y.stampReq = bitOf (leAt d 0 1) 0 ∧ y.oneStep = bitOf (leAt d 0 1) 1 ∧
      y.inject = some s.path.nextFrame ∧ mapFind t.host.inject s.path.nextFrame = some r ∧ r.ring = n ∧
      r.descIndex = s.devIndex n ∧ r.tag = leAt d 8 4 ∧ r.left = 1 ∧ r.lost = 0 ∧
      t.devIndex n = (s.devIndex n + 1) % 2 ^ 32 ∧ (t.ring n).running = none := by
  have hexec := exec_injectDescriptor hrun (n := n) (by omega)
  rw [injectDescriptor_enters hrunning hd hx hwhole hup h] at hexec
  have hturn : s.only (s.turnOn x.pool) [.ports, .counters, .path, .buf, .pair, .host] (regsOf ["CNT_HALF_LO", "CNT_HALF_HI", "BUF_POOL_USED",
    "BUF_POOL_SHARED", "BUF_STATUS", "BUF_XOFF_POOLS", "BUF_REF_LIMIT_CNT", "SPAN_STATUS"]) := only_widen (frame_turnOn s x.pool) (by simp) (by simp)
  have hpathTurn : (s.turnOn x.pool).path = s.path := (frame_turnOn s x.pool).1 .path (by simp)
  have htake := frame_takeBeads _ _ _ _ _ _ _ h
  have hu := keep_of htake hturn (by simp) (by simp)
  have hpath : u.path = s.path := (htake.1 .path (by simp)).trans hpathTurn
  have hdev := devIndex_of_only hu (by simp) n
  have hspan : u.get Reg.SPAN_CTRL_EN = s.get Reg.SPAN_CTRL_EN :=
    kept_of_only hu 24 0 0 (List.mem_of_getElem? (i := 0) rfl) (a := .rw) (by simp) (by simp)
  have hegr (p : Nat) : u.get (Reg.MIRROR_PORT_CFG_EGR_EN p) = s.get (Reg.MIRROR_PORT_CFG_EGR_EN p) :=
    kept_of_only hu 15 p 0 (List.mem_of_getElem? (i := 3) rfl) (a := .rw) (by simp) (by simp)
  have hspanOn : u.spanOn = s.spanOn := congrArg (· != 0) hspan
  have hbase : u.logicalBase = s.logicalBase := by rw [State.logicalBase, State.logicalBase, hspanOn, hu.1 .die (by simp)]
  clear htake hturn hpathTurn h
  rw [hpath, hdev] at hexec
  generalize hf : s.path.nextFrame = f at *
  generalize hrun' : (⟨n, s.devIndex n, leAt d 0 1, leAt d 8 4, 0, 0, 0, none, false, x.stampReq⟩ : InjectRun) = run at *
  generalize hz : ({ x with plan := [], beads := l } : Frame) = z at *
  obtain ⟨hbytes, hbeads, hmark⟩ : z.bytes = x.bytes ∧ z.beads = l ∧ z.mark = x.mark := by rw [← hz]; exact ⟨rfl, rfl, rfl⟩
  obtain ⟨hport, hstamp, hreq, hstep⟩ : z.port = 1024 ∧ z.ingStamp = s.presStamp ∧ z.stampReq = bitOf (leAt d 0 1) 0 ∧
      z.oneStep = bitOf (leAt d 0 1) 1 := by rw [← hz, hx]; exact ⟨rfl, rfl, rfl, rfl⟩
  obtain ⟨hring, hindex, htag⟩ : run.ring = n ∧ run.descIndex = s.devIndex n ∧ run.tag = leAt d 8 4 := by
    rw [← hrun']; exact ⟨rfl, rfl, rfl⟩
  have hpunt : z.punt = 0 := by rw [← hz, hx]; rfl
  have hzkind : z.destKind = 0 := by rw [← hz, hx]; exact hkind
  have hdest : z.dest = leAt d 4 2 := by rw [← hz, hx]; rfl
  have hv := entering_eq u z run
  rw [hpath, hf] at hv
  have hvframe : (u.entering z run).frame f = some { z with inject := some f } := by rw [hv]; exact mapFind_put_self ..
  have hvinj : mapFind (u.entering z run).host.inject f = some run := by rw [hv]; exact mapFind_put_self ..
  have hvlocal : (u.entering z run).isLocal z.dest = true := by
    rw [hv, hdest, ← hlocal]
    show u.isLocal _ = s.isLocal _
    rw [State.isLocal, State.isLocal, hspanOn, hbase]
  have hvmirror : (u.entering z run).bit (Reg.MIRROR_PORT_CFG_EGR_EN (z.dest - (u.entering z run).logicalBase)) = false := by
    rw [hv, hdest, ← hmirror]
    show u.bit (Reg.MIRROR_PORT_CFG_EGR_EN (_ - u.logicalBase)) = _
    rw [hbase]
    exact congrArg (· != 0) (hegr _)
  have hvdev : (u.entering z run).devIndex n = s.devIndex n := by rw [hv, ← hdev]; rfl
  have hvtm : (u.entering z run).funcUp .tm = true := by
    rw [hv, ← htm]
    exact funcUp_of_only hu (by simp) .tm
  clear hv
  generalize u.entering z run = v at *
  obtain ⟨hwframe, hwinj⟩ := fixCopies_inject hvframe hvinj rfl hpunt hzkind hvlocal hvmirror
  have hfix := frame_fixCopies v f
  have hwdev := (devIndex_of_only hfix (by simp) n).trans hvdev
  have hwtm := (funcUp_of_only hfix (by simp) .tm).trans hvtm
  dsimp only at hwframe
  generalize v.fixCopies f = w at *
  obtain ⟨h1, h2, h3, -, h5, h6⟩ := advance_ringIdle w n
  have htm' := (funcUp_of_only h6 (by simp) .tm).trans hwtm
  generalize (w.advance n).ringIdle n = r at *
  have hrframe : r.frame f = w.frame f := by rw [State.frame, State.frame, h5]
  rw [← hrframe] at hwframe
  rw [← h3] at hwinj
  obtain ⟨g1, g2, g3, g4⟩ := entered_walks (run := run) hwframe hwinj rfl htm' (by simp) (by simp)
  have hrings : ((r.entered f run).ring n).running = none := by rw [State.ring, g4]; exact h1
  have hdevs : (r.entered f run).devIndex n = (s.devIndex n + 1) % 2 ^ 32 := (get_of_regs g3 _).trans (h2.trans (by rw [hwdev]))
  generalize r.entered f run = t at *
  exact ⟨_, _, _, hexec, g1, hbytes, hbeads, hport, rfl, rfl, hmark, hstamp, hreq, hstep, rfl, g2, hring, hindex, htag, rfl, rfl, hdevs, hrings⟩

end Inject

end Sys2Proof.Machine
end

section
/-! A ring is set up, stopped and resumed (R431, R451, R452). -/

-- One proof at a time: side by side they take more threads than the memory bound of the check leaves room for.
set_option Elab.async false

namespace Sys2Proof.Machine

/-! ### The word of RING_CFG -/

theorem b2n_le_one (b : Bool) : b2n b ≤ 1 := by cases b <;> decide

/-- The fields of RING_CFG (Table 16-12). -/
def ringCfgFields (n : Nat) : List (Access × Fld) :=
  [(.rw, Reg.RING_CFG_ENABLE n), (.ro, Reg.RING_CFG_STOPPED n), (.rw, Reg.RING_CFG_BUF_SIZE n), (.rw, Reg.RING_CFG_CQ n),
    (.rw, Reg.RING_CFG_LOG2_SIZE n)]

theorem definedBits_ringCfg (n : Nat) : definedBits (ringCfgFields n) = 0xC0003F1F :=
  (definedBits_eq_placesMask _).trans (by change placesMask [(31, 1), (30, 1), (12, 2), (8, 4), (0, 5)] = _; decide)

section Word

variable {on : Bool} {buf cq log v : Nat} (hbuf : buf < 4) (hcq : cq < 16) (hlog : log < 32)
  (hv : v = 2 ^ 31 * b2n on + 2 ^ 12 * buf + 2 ^ 8 * cq + log)
include hbuf hcq hlog hv

theorem ringCfg_lt : v < 2 ^ 32 := by
  have := (b2n_le_one on)
  omega

/-- The fields that the word of a set-up spells. -/
theorem ringCfg_bits : bits v 0 5 = log ∧ bits v 8 4 = cq ∧ bits v 12 2 = buf ∧ bitOf v 31 = on := by
  have hon : (b2n on = 0 ∧ on = false) ∨ (b2n on = 1 ∧ on = true) := by cases on <;> simp [b2n]
  simp only [bits, bitOf, Nat.shiftRight_eq_div_pow, Nat.testBit_eq_decide_div_mod_eq]
  refine ⟨by omega, by omega, by omega, ?_⟩
  rcases hon with ⟨h, rfl⟩ | ⟨h, rfl⟩
  · rw [decide_eq_false_iff_not]
    omega
  · rw [decide_eq_true_iff]
    omega

/-- The word of a set-up has no reserved bit. -/
theorem ringCfg_within (n : Nat) : within v (definedBits (ringCfgFields n)) = true := by
  have hlt := ringCfg_lt hbuf hcq hlog hv
  have hone := b2n_le_one on
  have hgap (lo w j : Nat) (h : v / 2 ^ lo % 2 ^ w = 0) (hlo : lo ≤ j) (hhi : j < lo + w) : v.testBit j = false := by
    have hbit : (v / 2 ^ lo % 2 ^ w).testBit (j - lo) = v.testBit j := by
      rw [Nat.testBit_mod_two_pow, Nat.testBit_div_two_pow, Nat.sub_add_cancel hlo]
      simp
      omega
    rw [← hbit, h, Nat.zero_testBit]
  have hmask : ∀ j < 32, Nat.testBit 0xC0003F1F j = true ∨ (5 ≤ j ∧ j < 5 + 3) ∨ (14 ≤ j ∧ j < 14 + 16) := by decide
  rw [within, definedBits_ringCfg, beq_iff_eq]
  refine Nat.eq_of_testBit_eq fun j => ?_
  rw [Nat.testBit_and]
  by_cases hj : j < 32
  · rcases hmask j hj with h | ⟨h5, h8⟩ | ⟨h14, h30⟩
    · rw [h, Bool.and_true]
    · rw [hgap 5 3 j (by omega) h5 h8, Bool.false_and]
    · rw [hgap 14 16 j (by omega) h14 h30, Bool.false_and]
  · rw [Nat.testBit_lt_two_pow (Nat.lt_of_lt_of_le hlt (Nat.pow_le_pow_right (by decide) (by omega))), Bool.false_and]

end Word

/-! ### The set-up of a ring -/

/-- The fields of a ring's set-up, written. -/
def State.cfgWritten (s : State) (n : Nat) (on : Bool) (buf cq log : Nat) : State :=
  (((s.set (Reg.RING_CFG_ENABLE n) (b2n on)).set (Reg.RING_CFG_BUF_SIZE n) buf).set (Reg.RING_CFG_CQ n) cq).set (Reg.RING_CFG_LOG2_SIZE n) log

/-- A ring holds a set-up. -/
structure RingSetUp (n : Nat) (on : Bool) (buf cq log : Nat) (t : State) : Prop where
  enable : t.bit (Reg.RING_CFG_ENABLE n) = on
  log2 : t.get (Reg.RING_CFG_LOG2_SIZE n) = log
  cq : t.get (Reg.RING_CFG_CQ n) = cq
  buf : t.get (Reg.RING_CFG_BUF_SIZE n) = buf

theorem RingSetUp.of_get {n : Nat} {on : Bool} {buf cq log : Nat} {s t : State} (h : RingSetUp n on buf cq log s)
    (hk : ∀ f ∈ [Reg.RING_CFG_ENABLE n, Reg.RING_CFG_LOG2_SIZE n, Reg.RING_CFG_CQ n, Reg.RING_CFG_BUF_SIZE n], t.get f = s.get f) :
    RingSetUp n on buf cq log t :=
  ⟨(congrArg (· != 0) (hk _ (by simp))).trans h.enable, (hk _ (by simp)).trans h.log2, (hk _ (by simp)).trans h.cq, (hk _ (by simp)).trans h.buf⟩

section Written

variable (s : State) (n : Nat) (on : Bool) {buf cq log : Nat}

theorem cfgWritten_setUp (hbuf : buf < 4) (hcq : cq < 16) (hlog : log < 32) : RingSetUp n on buf cq log (s.cfgWritten n on buf cq log) := by
  unfold State.cfgWritten
  refine ⟨?_, ?_, ?_, ?_⟩
  · unfold State.bit
    rw [get_set_ne _ _ (by simp [Fld.key, Reg.RING_CFG_ENABLE, Reg.RING_CFG_LOG2_SIZE]), get_set_ne _ _ (by simp [Fld.key, Reg.RING_CFG_ENABLE, Reg.RING_CFG_CQ]),
      get_set_ne _ _ (by simp [Fld.key, Reg.RING_CFG_ENABLE, Reg.RING_CFG_BUF_SIZE]), get_set_self]
    cases on <;> rfl
  · rw [get_set_self]
    exact Nat.mod_eq_of_lt hlog
  · rw [get_set_ne _ _ (by simp [Fld.key, Reg.RING_CFG_CQ, Reg.RING_CFG_LOG2_SIZE]), get_set_self]
    exact Nat.mod_eq_of_lt hcq
  · rw [get_set_ne _ _ (by simp [Fld.key, Reg.RING_CFG_BUF_SIZE, Reg.RING_CFG_LOG2_SIZE]), get_set_ne _ _ (by simp [Fld.key, Reg.RING_CFG_BUF_SIZE, Reg.RING_CFG_CQ]),
      get_set_self]
    exact Nat.mod_eq_of_lt hbuf

theorem get_cfgWritten_stopped : (s.cfgWritten n on buf cq log).get (Reg.RING_CFG_STOPPED n) = s.get (Reg.RING_CFG_STOPPED n) := by
  unfold State.cfgWritten
  rw [get_set_ne _ _ (by simp [Fld.key, Reg.RING_CFG_STOPPED, Reg.RING_CFG_LOG2_SIZE]), get_set_ne _ _ (by simp [Fld.key, Reg.RING_CFG_STOPPED, Reg.RING_CFG_CQ]),
    get_set_ne _ _ (by simp [Fld.key, Reg.RING_CFG_STOPPED, Reg.RING_CFG_BUF_SIZE]), get_set_ne _ _ (by simp [Fld.key, Reg.RING_CFG_STOPPED, Reg.RING_CFG_ENABLE])]

theorem reg_ringCfg {L : List String} {a : Access} {f : Fld} (hf : (a, f) ∈ ringCfgFields n) (h : "RING_CFG" ∈ L) : regsOf L (Fld.key f) :=
  regsOf_mem 19 14 n 0 _ a rfl h hf

theorem only_cfgWritten {L : List String} (h : "RING_CFG" ∈ L) : s.only (s.cfgWritten n on buf cq log) [] (regsOf L) :=
  keep_set _ _ (keep_set _ _ (keep_set _ _ (keep_set _ _ (only_id s _ _) (reg_ringCfg n (a := .rw) (by simp [ringCfgFields]) h))
    (reg_ringCfg n (a := .rw) (by simp [ringCfgFields]) h)) (reg_ringCfg n (a := .rw) (by simp [ringCfgFields]) h))
    (reg_ringCfg n (a := .rw) (by simp [ringCfgFields]) h)

end Written

/-! ### Enabling a ring -/

section Enable

variable {s : State} {n : Nat}

/-- An inject descriptor in progress on a ring that is enabled anew is given up. -/
theorem dropInject_spec (s : State) (n : Nat) : (s.dropInject n).regs = s.regs ∧ (s.dropInject n).host.held = s.host.held ∧
    ∀ c, (s.ring n).running = some (256, c) → ((s.dropInject n).ring n).running = none := by
  unfold State.dropInject
  split
  next => exact ⟨rfl, rfl, fun c _ => congrArg RingDyn.running (ring_modRing_self ..)⟩
  next h => exact ⟨rfl, rfl, fun c hc => absurd hc (h c)⟩

/-- A ring without held completions releases none. -/
theorem releaseHeld_none (h : ∀ e ∈ s.host.held, e.1 ≠ n) :
    s.releaseHeld n = s.modHost fun h => { h with held := h.held.filter (·.1 != n) } := by
  have hmine : s.host.held.filter (·.1 == n) = [] := List.filter_eq_nil_iff.mpr fun e he => by simpa using h e he
  unfold State.releaseHeld
  rw [hmine]
  rfl

/-- What a ring that is enabled starts with (R431). -/
theorem enableRing_starts (hheld : ∀ e ∈ s.host.held, e.1 ≠ n) {on : Bool} {buf cq log : Nat} (hset : RingSetUp n on buf cq log s) :
    RingSetUp n on buf cq log (s.enableRing n) ∧ (s.enableRing n).bit (Reg.RING_CFG_STOPPED n) = false ∧ (s.enableRing n).devIndex n = 0 ∧
    (s.enableRing n).get (Reg.RING_DB_DOORBELL n) = 0 ∧ ((s.enableRing n).ring n).history = [] ∧ ((s.enableRing n).ring n).written = 0 ∧
    ∀ c, (s.ring n).running = some (256, c) → ((s.enableRing n).ring n).running = none := by
  obtain ⟨hregs, hh, hrun⟩ := dropInject_spec s n
  unfold State.enableRing
  extract_lets u v w x
  have hu : u.regs = s.regs := hregs
  have huring : u.ring n = (s.dropInject n).ring n := rfl
  have huheld : u.host.held = s.host.held := hh
  clear_value u
  have hvring : v.ring n = u.ring n := rfl
  have hvget (f : Fld) (hf : f ∈ [Reg.RING_CFG_ENABLE n, Reg.RING_CFG_LOG2_SIZE n, Reg.RING_CFG_CQ n, Reg.RING_CFG_BUF_SIZE n]) : v.get f = s.get f := by
    rw [← get_of_regs hu f]
    unfold v
    simp only [List.mem_cons, List.not_mem_nil, or_false] at hf
    rw [get_off_ne _ (by rcases hf with rfl | rfl | rfl | rfl <;> simp [Fld.key, Reg.RING_CFG_STOPPED, Reg.RING_CFG_ENABLE, Reg.RING_CFG_LOG2_SIZE, Reg.RING_CFG_CQ, Reg.RING_CFG_BUF_SIZE]),
      get_off_ne _ (by rcases hf with rfl | rfl | rfl | rfl <;> simp only [Fld.key, Reg.RING_DB_DOORBELL, Reg.RING_CFG_ENABLE, Reg.RING_CFG_LOG2_SIZE, Reg.RING_CFG_CQ, Reg.RING_CFG_BUF_SIZE] <;> omega),
      get_off_ne _ (by rcases hf with rfl | rfl | rfl | rfl <;> simp only [Fld.key, Reg.RING_DEV_INDEX_DEV_INDEX, Reg.RING_CFG_ENABLE, Reg.RING_CFG_LOG2_SIZE, Reg.RING_CFG_CQ, Reg.RING_CFG_BUF_SIZE] <;> omega)]
  have hvdev : v.get (Reg.RING_DEV_INDEX_DEV_INDEX n) = 0 := by
    unfold v
    rw [get_off_ne _ (by simp only [Fld.key, Reg.RING_DEV_INDEX_DEV_INDEX, Reg.RING_CFG_STOPPED]; omega),
      get_off_ne _ (by simp only [Fld.key, Reg.RING_DEV_INDEX_DEV_INDEX, Reg.RING_DB_DOORBELL]; omega), get_off_self]
  have hvdb : v.get (Reg.RING_DB_DOORBELL n) = 0 := by
    unfold v
    rw [get_off_ne _ (by simp only [Fld.key, Reg.RING_DB_DOORBELL, Reg.RING_CFG_STOPPED]; omega), get_off_self]
  have hvstop : v.get (Reg.RING_CFG_STOPPED n) = 0 := get_off_self ..
  have hvheld : v.host.held = s.host.held := huheld
  clear_value v
  have hwring : w.ring n = { v.ring n with history := [], lost := 0, written := 0, behind := false, fetched := none } := ring_modRing_self v n _
  have hwregs : w.regs = v.regs := rfl
  have hwheld : w.host.held = s.host.held := hvheld
  clear_value w
  have hx : x.ring n = w.ring n ∧ x.regs = w.regs ∧ x.host.held = w.host.held := by
    unfold x
    split
    · exact ⟨rfl, rfl, rfl⟩
    · exact ⟨rfl, rfl, rfl⟩
  clear_value x
  obtain ⟨hxring, hxregs, hxheld⟩ := hx
  rw [releaseHeld_none (by rw [hxheld, hwheld]; exact hheld)]
  have hget (f : Fld) : (x.modHost fun h => { h with held := h.held.filter (·.1 != n) }).get f = v.get f :=
    get_of_regs ((show (x.modHost fun h => { h with held := h.held.filter (·.1 != n) }).regs = x.regs from rfl).trans (hxregs.trans hwregs)) f
  have hring : (x.modHost fun h => { h with held := h.held.filter (·.1 != n) }).ring n =
      { v.ring n with history := [], lost := 0, written := 0, behind := false, fetched := none } := hxring.trans hwring
  generalize x.modHost _ = t at *
  refine ⟨hset.of_get fun f hf => (hget f).trans (hvget f hf), bit_of_get_zero ((hget _).trans hvstop), (hget _).trans hvdev, (hget _).trans hvdb,
    by rw [hring], by rw [hring], fun c hc => ?_⟩
  rw [hring, hvring, huring]
  exact hrun c hc

end Enable

end Sys2Proof.Machine
end

section
/-! RING_ENABLE and RING_RESUME as writes of the host, and the obligation (R431, R451, R452). -/

-- One proof at a time: side by side they take more threads than the memory bound of the check leaves room for.
set_option Elab.async false

namespace Sys2Proof.Machine

/-! ### Halted rings -/

/-- Halting or restarting a ring leaves the others. -/
theorem halted_setHalted_iff (s : State) {n k : Nat} (hn : n < 64) (hk : k < 64) (b : Bool) :
    (s.setHalted n b).halted k = if k = n then b else s.halted k := by
  have hstatus (u : State) (c : Bool) : (u.setB Reg.RING_STATUS_HALTED c).halted k = u.halted k := by
    unfold State.halted
    rw [get_setB_ne _ _ (by decide), get_setB_ne _ _ (by decide)]
  unfold State.setHalted
  dsimp only
  rw [hstatus]
  unfold State.halted
  by_cases hm : n < 32
  · rw [if_pos hm]
    by_cases hk' : k < 32
    · rw [if_pos hk', if_pos hk', bitOf_putBit _ _ _ (by exact hk')]
    · rw [if_neg hk', if_neg hk', get_putBit_ne _ _ _ (by decide), if_neg (by omega)]
  · rw [if_neg hm]
    by_cases hk' : k < 32
    · rw [if_pos hk', if_pos hk', get_putBit_ne _ _ _ (by decide), if_neg (by omega)]
    · rw [if_neg hk', if_neg hk', bitOf_putBit _ _ _ (by show k - 32 < 32; omega)]
      simp only [show (k - 32 = n - 32) = (k = n) from propext (by omega)]

theorem halted_of_regs {s t : State} (h : ∀ f : Fld, t.get f = s.get f) (n : Nat) : t.halted n = s.halted n := by
  rw [State.halted, State.halted, h, h]

/-! ### What the RING page refuses and does -/

section Page

variable (s : State) (n v : Nat)

/-- A ring's configuration as its write is judged (R430, R452). -/
theorem ringCheck_cfg : ringCheck s (0x1010 + 64 * n) v =
    if bits v 0 5 < 4 || bits v 0 5 > (if n = 61 then 20 else 16) then .range
    else if (bits v 8 4 != 0 && !hostProduced n) || (bits v 12 2 != 0 && !(32 ≤ n && n < 48)) then .range
    else if s.bit (Reg.RING_CFG_ENABLE n) && (bits v 0 5 != s.get (Reg.RING_CFG_LOG2_SIZE n) || bits v 8 4 != s.get (Reg.RING_CFG_CQ n) ||
      bits v 12 2 != s.get (Reg.RING_CFG_BUF_SIZE n)) then .busy
    else .ok := by
  have hdiv : (0x1010 + 64 * n - 0x1000) / 0x40 = n := by omega
  have hmod : (0x1010 + 64 * n) % 0x40 = 0x10 := by omega
  unfold ringCheck
  rw [if_neg (by omega), if_neg (by omega), if_neg (by omega)]
  dsimp only
  rw [hdiv, hmod] <;> rfl

/-- What an accepted write of a ring's configuration does beyond its fields (R431, R452). -/
theorem ringEffect_cfg (old : State) : ringEffect old s (0x1010 + 64 * n) v =
    if bitOf v 31 && !old.bit (Reg.RING_CFG_ENABLE n) then s.enableRing n
    else if !bitOf v 31 && old.bit (Reg.RING_CFG_ENABLE n) && (s.ring n).running.isNone then
      (s.modRing n fun r => { r with fetched := none }).on (Reg.RING_CFG_STOPPED n)
    else s := by
  have hdiv : (0x1010 + 64 * n - 0x1000) / 0x40 = n := by omega
  unfold ringEffect
  rw [if_neg (by omega), if_neg (by omega), if_pos (by simp; omega)]
  dsimp only
  rw [hdiv] <;> rfl

end Page

/-! ### The writes -/

section Write

variable {s : State} (hs : s.served) (hf : s.funcUp .ring = true) {n : Nat} (hn : n < 64)
include hs hf hn

section Cfg

variable {on : Bool} {buf cq log v : Nat} (hbuf : buf < 4) (hcq : cq < 16) (hlog : log < 32)
  (hv : v = 2 ^ 31 * b2n on + 2 ^ 12 * buf + 2 ^ 8 * cq + log)
include hbuf hcq hlog hv

/-- A set-up that is refused. -/
theorem ringEnable_turnsAway {st : Status} (hc : ringCheck s (0x1010 + 64 * n) v = st) (hst : st ≠ .ok) : s.turnsAway (.ringEnable n v) st :=
  turnsAway_of_write hs (regIs_RING_CFG hn) (page := 19) (off := 0x1010 + 64 * n) (by unfold pageOf; omega) (by omega)
    (by simp [State.pageDown, show pageOf (0x1301010 + 64 * n) = 19 by unfold pageOf; omega, pageFunc, hf]) trivial
    (ringCfg_lt hbuf hcq hlog hv) (ringCfg_within hbuf hcq hlog hv n) rfl (onObject_ok hn _) hc hst

/-- A set-up that is taken. -/
theorem ringEnable_takes {P : List Part} {L : List String} {effect : State → Prop} {t : State} (hc : ringCheck s (0x1010 + 64 * n) v = .ok)
    (ht : ringEffect s (s.cfgWritten n on buf cq log) (0x1010 + 64 * n) v = t) (hmoved : s.only t P (regsOf L)) (hL : "SYS_CTRL" ∉ L)
    (he : effect (t.answered .ok)) : s.takes (.ringEnable n v) P (regsOf L) effect := by
  obtain ⟨h1, h2, h3, h4⟩ := ringCfg_bits hbuf hcq hlog hv
  refine takes_of_write hs (regIs_RING_CFG hn) (page := 19) (off := 0x1010 + 64 * n) (by unfold pageOf; omega) (by omega)
    (by simp [State.pageDown, show pageOf (0x1301010 + 64 * n) = 19 by unfold pageOf; omega, pageFunc, hf]) trivial
    (ringCfg_lt hbuf hcq hlog hv) (ringCfg_within hbuf hcq hlog hv n) rfl (onObject_ok hn _) hc ?_ hmoved
    (not_regsOf 0 0 0 (List.mem_of_getElem? (i := 12) rfl) (a := .wo) (by simp) hL) he
  rw [storeFields_rw, storeFields_ro, storeFields_rw, storeFields_rw, storeFields_rw, storeFields_nil, ← ht]
  have hstored : (((s.set (Reg.RING_CFG_ENABLE n) (bits v (Reg.RING_CFG_ENABLE n).lo (Reg.RING_CFG_ENABLE n).width)).set (Reg.RING_CFG_BUF_SIZE n)
      (bits v (Reg.RING_CFG_BUF_SIZE n).lo (Reg.RING_CFG_BUF_SIZE n).width)).set (Reg.RING_CFG_CQ n)
      (bits v (Reg.RING_CFG_CQ n).lo (Reg.RING_CFG_CQ n).width)).set (Reg.RING_CFG_LOG2_SIZE n)
      (bits v (Reg.RING_CFG_LOG2_SIZE n).lo (Reg.RING_CFG_LOG2_SIZE n).width) = s.cfgWritten n on buf cq log := by
    show (((s.set _ (bits v 31 1)).set _ (bits v 12 2)).set _ (bits v 8 4)).set _ (bits v 0 5) = _
    rw [bits_one, h1, h2, h3, h4]
    rfl
  rw [hstored]
  rfl

/-- A set-up that Table 16-12 does not have, or that a ring in use does not take (R430, R452). -/
theorem ringEnable_refuses :
    (log < 4 ∨ (if n = 61 then 20 else 16) < log ∨ (cq ≠ 0 ∧ hostProduced n = false) ∨ (buf ≠ 0 ∧ (n < 32 ∨ 48 ≤ n)) →
      s.turnsAway (.ringEnable n v) .range) ∧
    (4 ≤ log → log ≤ (if n = 61 then 20 else 16) → (cq = 0 ∨ hostProduced n = true) → (buf = 0 ∨ (32 ≤ n ∧ n < 48)) →
      s.bit (Reg.RING_CFG_ENABLE n) = true → (log ≠ s.get (Reg.RING_CFG_LOG2_SIZE n) ∨ cq ≠ s.get (Reg.RING_CFG_CQ n) ∨
        buf ≠ s.get (Reg.RING_CFG_BUF_SIZE n)) → s.turnsAway (.ringEnable n v) .busy) := by
  obtain ⟨h1, h2, h3, -⟩ := ringCfg_bits hbuf hcq hlog hv
  have hcheck := ringCheck_cfg s n v
  rw [h1, h2, h3] at hcheck
  refine ⟨fun h => ?_, fun hlo hhi hprod hpunt hen h => ?_⟩
  · refine ringEnable_turnsAway hs hf hn hbuf hcq hlog hv (hcheck.trans ?_) (by decide)
    by_cases hsize : log < 4 ∨ (if n = 61 then 20 else 16) < log
    · exact if_pos (by simpa using hsize)
    · rw [if_neg (by simpa using hsize)]
      have hwrong : (cq ≠ 0 ∧ hostProduced n = false) ∨ (buf ≠ 0 ∧ (n < 32 ∨ 48 ≤ n)) := by tauto
      refine if_pos ?_
      rcases hwrong with ⟨h, h'⟩ | ⟨h, h'⟩
      · simp [h, h']
      · simp [h]
        omega
  · refine ringEnable_turnsAway hs hf hn hbuf hcq hlog hv (hcheck.trans ?_) (by decide)
    rw [if_neg (by simp; omega), if_neg (by rcases hprod with h | h <;> rcases hpunt with h' | h' <;> simp [h, h'])]
    exact if_pos (by simpa [hen, or_assoc] using h)

variable (hlo : 4 ≤ log) (hhi : log ≤ (if n = 61 then 20 else 16)) (hprod : cq = 0 ∨ hostProduced n = true)
  (hpunt : buf = 0 ∨ (32 ≤ n ∧ n < 48))
include hlo hhi hprod hpunt

omit hs hf hn in
theorem ringCheck_accepts (h : s.bit (Reg.RING_CFG_ENABLE n) = false ∨ (log = s.get (Reg.RING_CFG_LOG2_SIZE n) ∧ cq = s.get (Reg.RING_CFG_CQ n) ∧
    buf = s.get (Reg.RING_CFG_BUF_SIZE n))) : ringCheck s (0x1010 + 64 * n) v = .ok := by
  obtain ⟨h1, h2, h3, -⟩ := ringCfg_bits hbuf hcq hlog hv
  have hcheck := ringCheck_cfg s n v
  rw [h1, h2, h3] at hcheck
  rw [hcheck, if_neg (by simp; omega), if_neg (by rcases hprod with h | h <;> rcases hpunt with h' | h' <;> simp [h, h'])]
  refine if_neg ?_
  rcases h with h | ⟨ha, hb, hc⟩
  · simp [h]
  · simp [← ha, ← hb, ← hc]

/-- A ring is enabled (R431). -/
theorem ringEnable_enables (hen : s.bit (Reg.RING_CFG_ENABLE n) = false) (hon : on = true) (hheld : ∀ e ∈ s.host.held, e.1 ≠ n) :
    s.takes (.ringEnable n v) [.events, .host] (regsOf ["RING_CFG", "RING_DEV_INDEX", "RING_DB"]) fun t =>
      t.bit (Reg.RING_CFG_ENABLE n) = true ∧ t.bit (Reg.RING_CFG_STOPPED n) = false ∧ t.get (Reg.RING_CFG_LOG2_SIZE n) = log ∧
      t.get (Reg.RING_CFG_CQ n) = cq ∧ t.get (Reg.RING_CFG_BUF_SIZE n) = buf ∧ t.devIndex n = 0 ∧
      t.get (Reg.RING_DB_DOORBELL n) = 0 ∧ (t.ring n).history = [] ∧ (t.ring n).written = 0 ∧
      ∀ c, (s.ring n).running = some (256, c) → (t.ring n).running = none := by
  obtain ⟨-, -, -, h4⟩ := ringCfg_bits hbuf hcq hlog hv
  have heff : ringEffect s (s.cfgWritten n on buf cq log) (0x1010 + 64 * n) v = (s.cfgWritten n on buf cq log).enableRing n := by
    rw [ringEffect_cfg, if_pos (by simp [h4, hon, hen])]
  have hmoved : s.only ((s.cfgWritten n on buf cq log).enableRing n) [.events, .host] (regsOf ["RING_CFG", "RING_DEV_INDEX", "RING_DB"]) :=
    keep_of (frame_enableRing _ n) (only_mono (only_cfgWritten s n on (by simp)) (by simp) fun _ h => h) (by simp) (by simp)
  obtain ⟨g1, g2, g3, g4, g5, g6, g7⟩ := enableRing_starts (s := s.cfgWritten n on buf cq log) (n := n) hheld (cfgWritten_setUp s n on hbuf hcq hlog)
  have hring : (s.cfgWritten n on buf cq log).ring n = s.ring n := rfl
  rw [hring] at g7
  refine ringEnable_takes hs hf hn hbuf hcq hlog hv (ringCheck_accepts hbuf hcq hlog hv hlo hhi hprod hpunt (.inl hen)) heff hmoved (by simp) ?_
  generalize (s.cfgWritten n on buf cq log).enableRing n = t at *
  exact ⟨g1.enable.trans hon, g2, g1.log2, g1.cq, g1.buf, g3, g4, g5, g6, g7⟩

/-- A ring is disabled, and stops when nothing of it is in progress (R452). -/
theorem ringEnable_disables (hen : s.bit (Reg.RING_CFG_ENABLE n) = true) (hon : on = false) (hsame : log = s.get (Reg.RING_CFG_LOG2_SIZE n) ∧
    cq = s.get (Reg.RING_CFG_CQ n) ∧ buf = s.get (Reg.RING_CFG_BUF_SIZE n)) :
    s.takes (.ringEnable n v) [.host] (regsOf ["RING_CFG"]) fun t =>
      t.bit (Reg.RING_CFG_ENABLE n) = false ∧ t.ringOn n = false ∧
      ((s.ring n).running = none → t.bit (Reg.RING_CFG_STOPPED n) = true) ∧
      ((s.ring n).running ≠ none → t.bit (Reg.RING_CFG_STOPPED n) = s.bit (Reg.RING_CFG_STOPPED n)) := by
  obtain ⟨-, -, -, h4⟩ := ringCfg_bits hbuf hcq hlog hv
  have hset := (cfgWritten_setUp s n on hbuf hcq hlog).enable
  have hstop := get_cfgWritten_stopped s n on (buf := buf) (cq := cq) (log := log)
  have honly := only_cfgWritten s n on (buf := buf) (cq := cq) (log := log) (L := ["RING_CFG"]) (by simp)
  have hring : (s.cfgWritten n on buf cq log).ring n = s.ring n := rfl
  have heff := ringEffect_cfg (s.cfgWritten n on buf cq log) n v s
  have hcheck := ringCheck_accepts hbuf hcq hlog hv hlo hhi hprod hpunt (.inr hsame)
  rw [if_neg (by simp [h4, hon]), hring] at heff
  have htake {effect : State → Prop} {t : State} := ringEnable_takes (effect := effect) (t := t) (P := [.host]) (L := ["RING_CFG"]) hs hf hn hbuf hcq hlog hv hcheck
  generalize s.cfgWritten n on buf cq log = u at *
  have hringOn (w : State) (hw : w.bit (Reg.RING_CFG_ENABLE n) = false) : w.ringOn n = false := by rw [State.ringOn, hw, Bool.and_false]
  have hwide : s.only u [.host] (regsOf ["RING_CFG"]) := only_mono honly (by simp) fun _ h => h
  cases hrunning : (s.ring n).running with
  | none =>
    rw [if_pos (by simp [h4, hon, hen, hrunning])] at heff
    have hmoved : s.only ((u.modRing n fun r => { r with fetched := none }).on (Reg.RING_CFG_STOPPED n)) [.host] (regsOf ["RING_CFG"]) :=
      keep_on _ (keep_modRing _ _ hwide (by simp)) (reg_ringCfg n (a := .ro) (by simp [ringCfgFields]) (by simp))
    have hen' : ((u.modRing n fun r => { r with fetched := none }).on (Reg.RING_CFG_STOPPED n)).bit (Reg.RING_CFG_ENABLE n) = false := by
      refine Eq.trans ?_ (hset.trans hon)
      exact congrArg (· != 0) (get_on_ne _ (by simp [Fld.key, Reg.RING_CFG_STOPPED, Reg.RING_CFG_ENABLE]))
    have hst' : ((u.modRing n fun r => { r with fetched := none }).on (Reg.RING_CFG_STOPPED n)).bit (Reg.RING_CFG_STOPPED n) = true :=
      bit_of_get_one (get_on_self _ _ (by simp [Reg.RING_CFG_STOPPED]))
    refine htake heff hmoved (by simp) ?_
    generalize (u.modRing n fun r => { r with fetched := none }).on (Reg.RING_CFG_STOPPED n) = t at *
    exact ⟨hen', hringOn _ hen', fun _ => hst', fun h => absurd rfl h⟩
  | some r =>
    rw [if_neg (by simp [hrunning])] at heff
    refine htake heff hwide (by simp) ?_
    exact ⟨hset.trans hon, hringOn u (hset.trans hon), fun h => (by cases h), fun _ => congrArg (· != 0) hstop⟩

end Cfg

/-- A halted ring resumes; one that is not halted is refused (R451). -/
theorem ringResume_role : (s.halted n = false → s.turnsAway (.ringResume n) .range) ∧
    (s.halted n = true → s.takes (.ringResume n) [.host] (regsOf ["RING_STATUS", "RING_HALTED_LO", "RING_HALTED_HI"]) fun t =>
      t.halted n = false ∧ (∀ k, k < 64 → k ≠ n → t.halted k = s.halted k)) := by
  have hgo : bitOf (2 ^ 31 + n) 31 = true := by
    rw [bitOf, Nat.testBit_eq_decide_div_mod_eq, decide_eq_true_iff]
    omega
  have hring : bits (2 ^ 31 + n) 0 6 = n := by
    rw [bits, Nat.shiftRight_eq_div_pow]
    omega
  have hwithin : within (2 ^ 31 + n) (definedBits [(.wo, Reg.RING_RESUME_GO), (.wo, Reg.RING_RESUME_RING)]) = true := by
    have hmask : definedBits [(.wo, Reg.RING_RESUME_GO), (.wo, Reg.RING_RESUME_RING)] = 2 ^ 31 * 1 + (2 ^ 6 - 1) := by decide
    have hsum : 2 ^ 31 + n = 2 ^ 31 * 1 + n := by omega
    rw [within, hmask, hsum, beq_iff_eq]
    refine Nat.eq_of_testBit_eq fun j => ?_
    rw [Nat.testBit_and, Nat.testBit_two_pow_mul_add _ (by omega), Nat.testBit_two_pow_mul_add _ (by decide), Nat.testBit_two_pow_sub_one]
    split
    next hj =>
      by_cases h6 : j < 6
      · simp [h6]
      · rw [Nat.testBit_lt_two_pow (Nat.lt_of_lt_of_le hn (Nat.pow_le_pow_right (by decide) (by omega) : 2 ^ 6 ≤ 2 ^ j)), Bool.false_and]
    next => rw [Bool.and_self]
  have hdown : s.pageDown true 0x130000C = false := by simp [State.pageDown, pageOf, pageFunc, hf]
  have hexec : exec (.ringResume n) s = whenUp s fun s => s.hostWrite 0x130000C (2 ^ 31 + n) := onObject_ok hn _
  have hcheck : ringCheck s 0x0C (2 ^ 31 + n) = if s.halted n = false then .range else .ok := by
    unfold ringCheck
    rw [if_pos rfl, hgo, hring]
    cases s.halted n <;> rfl
  refine ⟨fun h => ?_, fun h => ?_⟩
  · exact turnsAway_of_write hs regIs_RING_RESUME (page := 19) (off := 0x0C) (by decide) (by decide) hdown trivial (by omega) hwithin rfl hexec
      (hcheck.trans (if_pos h)) (by decide)
  · have hframe : s.only ((s.setHalted n false).fetchNext n) [.host] (regsOf ["RING_STATUS", "RING_HALTED_LO", "RING_HALTED_HI"]) :=
      keep_of (frame_fetchNext _ n) (only_widen (frame_setHalted s n false) (by simp) (by simp)) (by simp) (by simp)
    have hhalted (k : Nat) (hk : k < 64) : ((s.setHalted n false).fetchNext n).halted k = if k = n then false else s.halted k := by
      rw [← halted_setHalted_iff s hn hk false]
      exact halted_of_only (frame_fetchNext _ n) (by simp) (by simp) k
    refine takes_of_write hs regIs_RING_RESUME (page := 19) (off := 0x0C) (by decide) (by decide) hdown trivial (by omega) hwithin rfl hexec
      (hcheck.trans (if_neg (by simp [h]))) (t := (s.setHalted n false).fetchNext n) ?_ hframe
      (not_regsOf 0 0 0 (List.mem_of_getElem? (i := 12) rfl) (a := .wo) (by simp) (by simp)) ?_
    · rw [storeFields_wo, storeFields_wo, storeFields_nil]
      show ringEffect s s 0x0C (2 ^ 31 + n) = _
      unfold ringEffect
      rw [if_pos rfl, hgo, if_pos rfl, hring]
    · generalize (s.setHalted n false).fetchNext n = t at *
      exact ⟨(hhalted n hn).trans (if_pos rfl), fun k hk hne => (hhalted k hk).trans (if_neg hne)⟩

end Write

/-- Settles O48: the ring engine by the descriptor that it takes, injected frames by the beads of their pool, the index block, and the
set-up and the resumption of a ring by the writes of their page. -/
theorem ringsTakeDescriptorsInTurn : Obligations.RingsTakeDescriptorsInTurn := by
  unfold Obligations.RingsTakeDescriptorsInTurn
  intro s hrun
  refine ⟨descriptorTake_idle hrun, fun n d cq hon hnext hd hcq hlt _ => descriptorTake_takes hrun hon hnext hd hcq hlt,
    fun n d x c hlo hhi hrunning hd hx _ hcq hup => ⟨inject_waits hrun hlo hhi hrunning, fun hwhole => ⟨fun h => ?_, fun l u h hkind hlocal hmir htm => ?_⟩,
      fun t ht => ?_⟩, fun n hn => indexBlockWrite_role hrun hn, fun hs hf n on buf cq log v hn hbuf hcq hlog hv => ?_,
    fun hs hf n hn => ringResume_role hs hf hn⟩
  · exact inject_drops hrun hlo hhi hrunning hd hx hwhole hup hcq h
  · exact inject_enters hrun hlo hhi hrunning hd hx hwhole hup h hkind hlocal hmir htm
  · obtain rfl := Host.Outcome.next.inj ((exec_injectDescriptor hrun (by omega : n < 64)).symm.trans ht)
    exact only_settled (only_widen (frame_injectDescriptor s n) (by simp) (by simp))
  · obtain ⟨hrange, hbusy⟩ := ringEnable_refuses hs hf hn hbuf hcq hlog hv
    refine ⟨hrange, fun hlo hhi hprod hpunt => ⟨hbusy hlo hhi hprod hpunt, fun hen hon hheld => ?_, fun hen hon h1 h2 h3 => ?_⟩⟩
    · exact ringEnable_enables hs hf hn hbuf hcq hlog hv hlo hhi hprod hpunt hen hon hheld
    · exact ringEnable_disables hs hf hn hbuf hcq hlog hv hlo hhi hprod hpunt hen hon ⟨h1, h2, h3⟩

end Sys2Proof.Machine
end

section
/-! Messages of the host: how each arrives, the requests of registers, and a message in error (R407 to R413, R422). -/

-- One proof at a time: side by side they take more threads than the memory bound of the check leaves room for.
set_option Elab.async false

namespace Sys2Proof.Machine

/-! ### Registers read one after another -/

/-- As many values as registers read. -/
theorem readMany_length (n : Nat) : ∀ (addr : Nat) (s : State), (readMany n addr s).2.2.1.length = (readMany n addr s).2.1 := by
  induction n with
  | zero => exact fun _ _ => rfl
  | succ n ih =>
    intro addr s
    unfold readMany
    split
    · exact congrArg (· + 1) (ih _ _)
    · rfl

/-! ### What the link's answers keep -/

theorem regs_nil {k : Nat} (h : regsOf [] k) : keysOf [] k := absurd h (by simp [regsOf])

/-- The slots of a message that go back are a message to the host, if anything. -/
theorem wire_returnSlots (s : State) (n : Nat) : ∃ l, (s.returnSlots n).wire = s.wire ++ l := by
  unfold State.returnSlots
  split
  · exact ⟨[], (List.append_nil _).symm⟩
  · exact ⟨_, send_wire s _⟩

theorem mem_wire_returnSlots {s : State} {x : HostMsg} (h : x ∈ s.wire) (n : Nat) : x ∈ (s.returnSlots n).wire := by
  obtain ⟨l, hl⟩ := wire_returnSlots s n
  exact hl ▸ List.mem_append_left l h

theorem wire_replyTo (s : State) (m : HostIn) (st : Status) (done : Nat) (data : List Byte) :
    (s.replyTo m st done data).wire = s.wire ++ [.reply st s.attention m.tag done data] := by
  have h := send_wire s (.reply st s.attention m.tag done data)
  unfold State.replyTo
  generalize s.send _ = u at *
  exact h

/-- A REPLY to a request of registers, with the status that the host sees (R422). -/
def State.replied (s : State) (m : HostIn) (st : Status) (done : Nat) (data : List Byte) (last : Nat) : State :=
  { s.replyTo m st done data with lastStatus := st, lastData := last }

theorem replied_spec (s : State) (m : HostIn) (st : Status) (done : Nat) (data : List Byte) (last n : Nat) :
    ((s.replied m st done data last).returnSlots n).lastStatus = st ∧
    HostMsg.reply st s.attention m.tag done data ∈ ((s.replied m st done data last).returnSlots n).wire ∧
    ((s.replied m st done data last).returnSlots n).events.keepFrom = ((s.replied m st done data last).returnSlots n).cycle ∧
    s.only ((s.replied m st done data last).returnSlots n) [.answer, .events, .host] (keysOf []) := by
  have hwire := wire_replyTo s m st done data
  have hkeep : (s.replyTo m st done data).events.keepFrom = (s.replyTo m st done data).cycle := rfl
  have hframe : s.only (s.replyTo m st done data) [.answer, .events, .host] (keysOf []) := only_mono (frame_replyTo s m st done data) (by simp) fun _ => regs_nil
  unfold State.replied
  generalize s.replyTo m st done data = u at *
  have hu : s.only { u with lastStatus := st, lastData := last } [.answer, .events, .host] (keysOf []) :=
    keep_part hframe rfl fun p hp => by cases p <;> simp_all [Part.same]
  have hmem : HostMsg.reply st s.attention m.tag done data ∈ ({ u with lastStatus := st, lastData := last } : State).wire := by
    show _ ∈ u.wire
    rw [hwire]
    simp
  have hkeep' : ({ u with lastStatus := st, lastData := last } : State).events.keepFrom = ({ u with lastStatus := st, lastData := last } : State).cycle := hkeep
  have hstatus : ({ u with lastStatus := st, lastData := last } : State).lastStatus = st := rfl
  generalize ({ u with lastStatus := st, lastData := last } : State) = v at *
  have hback := frame_returnSlots v n
  have hmem' := mem_wire_returnSlots hmem n
  generalize v.returnSlots n = w at *
  have hanswer := hback.1 .answer (by simp)
  have hevents := hback.1 .events (by simp)
  have hcycle := hback.1 .cycle (by simp)
  simp only [Part.same] at hanswer hevents hcycle
  refine ⟨hanswer.1.trans hstatus, hmem', by rw [hevents, hcycle, hkeep'], only_then hu (only_mono hback (by simp) fun _ => regs_nil)⟩

end Sys2Proof.Machine
end

section
/-! The messages of the host by their type, and reads without a REPLY (R410 to R413, R418, R420, R432). -/

-- One proof at a time: side by side they take more threads than the memory bound of the check leaves room for.
set_option Elab.async false

namespace Sys2Proof.Machine

/-- The host's slots after a message took its own. -/
def State.slotsTaken (s : State) (m : HostIn) : State := s.modHost fun h => { h with rxCredit := h.rxCredit - m.slots }

theorem leAt_lt (b : List Byte) (o n : Nat) : leAt b o n < 256 ^ n := by
  refine Nat.lt_of_lt_of_le (leNat_lt _) (Nat.pow_le_pow_right (by decide) ?_)
  simp [slice]

section Message

variable {s : State} {m : HostIn} (hrun : s.running = true) (hslot : m.slot < 15)

include hrun hslot in
/-- Every message arrives in the same way (R407). -/
theorem exec_message {i : Instr} (hi : exec i s = onObject 15 m.slot (whenUp s fun s => s.receive m)) :
    exec i s = .next (s.receive m).settle :=
  hi.trans ((onObject_ok hslot _).trans (whenUp_running hrun fun s => s.receive m))

variable (hact : s.linkActive = true)

/-! ### A message in error -/

include hrun hslot hact in
/-- A message in error is recorded, and the rest of its flit is discarded (R411). -/
theorem message_discarded {i : Instr} (hi : exec i s = onObject 15 m.slot (whenUp s fun s => s.receive m)) :
    (s.host.badFlit = some m.flit → ∃ t, exec i s = .next t ∧ s.only t [] (keysOf [])) ∧
    (s.host.badFlit ≠ some m.flit → s.msgFault m ≠ 0 → ∃ t, exec i s = .next t ∧ t.get Reg.HLINK_PROTO_LOC_TYPE = m.type ∧
      t.get Reg.HLINK_PROTO_LOC_REASON = s.msgFault m ∧ t.get Reg.HLINK_PROTO_LOC_TAG = m.tag ∧
      s.counted t Reg.HLINK_PROTOCOL_CNT_COUNT ∧ t.bit Reg.HLINK_STATUS_PROTOCOL = true ∧ t.host.badFlit = some m.flit ∧
      t.host.sent = s.host.sent ∧ s.only t [.host] (regsOf ["HLINK_STATUS", "HLINK_PROTO_LOC", "HLINK_PROTOCOL_CNT"])) := by
  have hexec := exec_message hrun hslot hi
  refine ⟨fun hbad => ?_, fun hbad hfault => ?_⟩
  · have heq : s.receive m = s := if_pos (by simp [hbad])
    rw [heq] at hexec
    exact ⟨_, hexec, only_settled (only_id s _ _)⟩
  · have heq : s.receive m = s.protocolError m (s.msgFault m) := by
      unfold State.receive
      rw [if_neg (by simp [hact, hbad])]
      split
      next h => exact absurd h hfault
      next => rfl
    have hreason : s.msgFault m < 8 := by
      unfold State.msgFault
      repeat' split
      all_goals decide
    have htype : m.type < 2 ^ 8 := leAt_lt ..
    have htag : m.tag < 2 ^ 16 := leAt_lt ..
    have hframe := frame_protocolError s m (s.msgFault m)
    rw [heq] at hexec
    have h1 : (s.protocolError m (s.msgFault m)).get Reg.HLINK_PROTO_LOC_TYPE = m.type := by
      unfold State.protocolError
      rw [get_modHost, get_on_ne _ (by decide), get_satAdd_ne _ _ (by decide), get_set_ne _ _ (by decide), get_set_ne _ _ (by decide), get_set_self]
      exact Nat.mod_eq_of_lt htype
    have h2 : (s.protocolError m (s.msgFault m)).get Reg.HLINK_PROTO_LOC_REASON = s.msgFault m := by
      unfold State.protocolError
      rw [get_modHost, get_on_ne _ (by decide), get_satAdd_ne _ _ (by decide), get_set_ne _ _ (by decide), get_set_self]
      exact Nat.mod_eq_of_lt (Nat.lt_of_lt_of_le hreason (by decide))
    have h3 : (s.protocolError m (s.msgFault m)).get Reg.HLINK_PROTO_LOC_TAG = m.tag := by
      unfold State.protocolError
      rw [get_modHost, get_on_ne _ (by decide), get_satAdd_ne _ _ (by decide), get_set_self]
      exact Nat.mod_eq_of_lt htag
    have h4 : s.counted (s.protocolError m (s.msgFault m)) Reg.HLINK_PROTOCOL_CNT_COUNT := by
      unfold State.protocolError
      rw [State.counted, get_modHost, get_on_ne _ (by decide), get_satAdd_self, get_set_ne _ _ (by decide), get_set_ne _ _ (by decide),
        get_set_ne _ _ (by decide)]
    have h5 : (s.protocolError m (s.msgFault m)).bit Reg.HLINK_STATUS_PROTOCOL = true := by
      unfold State.protocolError
      exact bit_of_get_one ((get_modHost ..).trans (get_on_self _ _ (by decide)))
    have h6 : (s.protocolError m (s.msgFault m)).host.badFlit = some m.flit := rfl
    have h7 : (s.protocolError m (s.msgFault m)).host.sent = s.host.sent := rfl
    generalize s.protocolError m (s.msgFault m) = u at *
    exact ⟨_, hexec, h1, h2, h3, h4, h5, h6, h7, only_settled hframe⟩

/-! ### A message in order -/

variable (hbad : s.host.badFlit ≠ some m.flit) (hfault : s.msgFault m = 0)
include hrun hslot hact hbad hfault

/-- A message in order is applied once its slots are taken, and they go back (R410). -/
theorem exec_applied {i : Instr} (hi : exec i s = onObject 15 m.slot (whenUp s fun s => s.receive m)) :
    exec i s = .next (((s.slotsTaken m).applyMsg m).returnSlots m.slots).settle := by
  have heq : s.receive m = ((s.slotsTaken m).applyMsg m).returnSlots m.slots := by
    unfold State.receive
    rw [if_neg (by simp [hact, hbad]), hfault] <;> rfl
  rw [exec_message hrun hslot hi, heq]

/-- CFG_RD (R413). -/
theorem cfgRd_role {u : State} (hu : u = s.slotsTaken m) (ht : m.type = 1) :
    (m.fabricError = none → ∃ t a r, exec (.cfgRd m) s = .next t ∧ r = readMany m.len (leAt m.bytes 8 4) u ∧
      t.lastStatus = r.1 ∧
      HostMsg.reply r.1 a m.tag r.2.1 (padTo (4 * m.len) (r.2.2.1.flatMap (leBytes 4))) ∈ t.host.sent ++ t.host.waiting ∧
      t.events.keepFrom = t.cycle ∧ r.2.2.2.only t [.answer, .events, .host] (keysOf [])) ∧
    (∀ i r, m.fabricError = some i → i < m.len → r = readMany (i + 1) (leAt m.bytes 8 4) u → r.1 = .ok →
      ∃ t a, exec (.cfgRd m) s = .next t ∧ t.lastStatus = .fatal ∧
        HostMsg.reply .fatal a m.tag i (padTo (4 * m.len) ((r.2.2.1.take i).flatMap (leBytes 4))) ∈ t.host.sent ++ t.host.waiting ∧
        r.2.2.2.only t [.answer, .events, .host] (keysOf [])) := by
  have hexec : exec (.cfgRd m) s = _ := exec_applied hrun hslot hact hbad hfault rfl
  have happly : (s.slotsTaken m).applyMsg m = u.cfgRead m := by
    unfold State.applyMsg
    rw [ht, hu] <;> rfl
  rw [happly] at hexec
  clear hu happly
  refine ⟨fun hfab => ?_, fun i r hfab hi hr hok => ?_⟩
  · have hlen := readMany_length m.len (leAt m.bytes 8 4) u
    have heq : u.cfgRead m = (readMany m.len (leAt m.bytes 8 4) u).2.2.2.replied m (readMany m.len (leAt m.bytes 8 4) u).1
        (readMany m.len (leAt m.bytes 8 4) u).2.1 (padTo (4 * m.len) ((readMany m.len (leAt m.bytes 8 4) u).2.2.1.flatMap (leBytes 4)))
        ((readMany m.len (leAt m.bytes 8 4) u).2.2.1.headD 0) := by
      unfold State.cfgRead registersRead
      rw [hfab]
      dsimp only
      rw [← hlen, List.take_length] <;> rfl
    rw [heq] at hexec
    generalize readMany m.len (leAt m.bytes 8 4) u = r at *
    obtain ⟨h1, h2, h3, h4⟩ := replied_spec r.2.2.2 m r.1 r.2.1 (padTo (4 * m.len) (r.2.2.1.flatMap (leBytes 4))) (r.2.2.1.headD 0) m.slots
    generalize (r.2.2.2.replied m r.1 r.2.1 (padTo (4 * m.len) (r.2.2.1.flatMap (leBytes 4))) (r.2.2.1.headD 0)).returnSlots m.slots = t at *
    exact ⟨_, r.2.2.2.attention, r, hexec, rfl, h1, h2, h3, only_settled h4⟩
  · have heq : u.cfgRead m = r.2.2.2.replied m .fatal i (padTo (4 * m.len) ((r.2.2.1.take i).flatMap (leBytes 4))) ((r.2.2.1.take i).headD 0) := by
      unfold State.cfgRead registersRead
      rw [hfab]
      dsimp only
      rw [Nat.min_eq_right hi, ← hr, if_pos (by simp [hok, hi])] <;> rfl
    rw [heq] at hexec
    obtain ⟨h1, h2, -, h4⟩ := replied_spec r.2.2.2 m .fatal i (padTo (4 * m.len) ((r.2.2.1.take i).flatMap (leBytes 4))) ((r.2.2.1.take i).headD 0) m.slots
    generalize (r.2.2.2.replied m .fatal i (padTo (4 * m.len) ((r.2.2.1.take i).flatMap (leBytes 4))) ((r.2.2.1.take i).headD 0)).returnSlots m.slots = t at *
    exact ⟨_, r.2.2.2.attention, hexec, h1, h2, only_settled h4⟩

/-- CFG_WR (R413). -/
theorem cfgWr_role {u : State} (hu : u = s.slotsTaken m) (ht : m.type = 2) : ∃ t a r, exec (.cfgWr m) s = .next t ∧
    r = writeMany ((List.range m.len).map fun i => leAt m.data (4 * i) 4) (leAt m.bytes 8 4) u ∧ t.lastStatus = r.1 ∧
    (r.2.2.bit Reg.SYS_CTRL_WARM_RESET = false → HostMsg.reply r.1 a m.tag r.2.1 [] ∈ t.host.sent ++ t.host.waiting ∧
      r.2.2.only t [.answer, .events, .host] (keysOf [])) := by
  have hexec : exec (.cfgWr m) s = _ := exec_applied hrun hslot hact hbad hfault rfl
  have happly : (s.slotsTaken m).applyMsg m = u.cfgWrite m := by
    unfold State.applyMsg
    rw [ht, hu] <;> rfl
  rw [happly] at hexec
  unfold State.cfgWrite at hexec
  generalize writeMany ((List.range m.len).map fun i => leAt m.data (4 * i) 4) (leAt m.bytes 8 4) u = r at *
  have hwarm : (r.2.2.replyTo m r.1 r.2.1 []).bit Reg.SYS_CTRL_WARM_RESET = r.2.2.bit Reg.SYS_CTRL_WARM_RESET :=
    congrArg (· != 0) (kept_of_only (frame_replyTo r.2.2 m r.1 r.2.1 []) 0 0 0 (List.mem_of_getElem? (i := 12) rfl) (a := .wo) (by simp) (by simp))
  obtain ⟨-, h2, -, h4⟩ := replied_spec r.2.2 m r.1 r.2.1 [] 0 m.slots
  unfold State.replied at h2 h4
  dsimp only at hexec
  rw [hwarm] at hexec
  have hlast (v : State) : (({ v with lastStatus := r.1, lastData := 0 } : State).returnSlots m.slots).lastStatus = r.1 := by
    have h := (frame_returnSlots ({ v with lastStatus := r.1, lastData := 0 } : State) m.slots).1 .answer (by simp)
    exact h.1
  cases hbit : r.2.2.bit Reg.SYS_CTRL_WARM_RESET with
  | false =>
    rw [hbit, if_neg Bool.false_ne_true] at hexec
    have hl := hlast (r.2.2.replyTo m r.1 r.2.1 [])
    generalize (({ r.2.2.replyTo m r.1 r.2.1 [] with lastStatus := r.1, lastData := 0 } : State).returnSlots m.slots) = t at *
    exact ⟨_, r.2.2.attention, r, hexec, rfl, hl, fun _ => ⟨h2, only_settled h4⟩⟩
  | true =>
    rw [hbit, if_pos rfl] at hexec
    have hl := hlast (r.2.2.replyTo m r.1 r.2.1 []).warmReset
    generalize (({ (r.2.2.replyTo m r.1 r.2.1 []).warmReset with lastStatus := r.1, lastData := 0 } : State).returnSlots m.slots) = t at *
    exact ⟨_, 0, r, hexec, rfl, hl, fun h => absurd (hbit.symm.trans h) (by simp)⟩

end Message

end Sys2Proof.Machine
end

section
/-! Doorbells, replies and credit of the host, and reads without a REPLY (R410, R418, R420, R432). -/

-- One proof at a time: side by side they take more threads than the memory bound of the check leaves room for.
set_option Elab.async false

namespace Sys2Proof.Machine

/-! ### Doorbells -/

section Doorbell

variable (s : State) (n v : Nat)

/-- How far a doorbell value is ahead of what the ring has done, or behind it (R432). -/
def State.doorbellGap : Nat := (if hostProduced n then v + 2 ^ 32 - s.devIndex n else s.devIndex n + 2 ^ 32 - v) % 2 ^ 32

theorem get_doorbell_of_only {s t : State} {P : List Part} {L : List String} (h : s.only t P (regsOf L)) (hL : "RING_DB" ∉ L) (n : Nat) :
    t.get (Reg.RING_DB_DOORBELL n) = s.get (Reg.RING_DB_DOORBELL n) :=
  kept_of_only h 19 n 0 (List.mem_of_getElem? (i := 16) rfl) (a := .ro) (by simp) hL

theorem only_doorbellSet : s.only (s.set (Reg.RING_DB_DOORBELL n) v) [] (regsOf ["RING_DB"]) :=
  keep_set _ _ (keep_refl ..) (reg_RING_DB_DOORBELL (by simp))

/-- A doorbell that R432 accepts moves the ring's doorbell. -/
theorem doorbell_taken (hv : v < 2 ^ 32) (hon : s.ringOn n = true) (hgap : s.doorbellGap n v ≤ s.ringSize n) :
    (s.doorbell n v).get (Reg.RING_DB_DOORBELL n) = v ∧
    (n ≠ 62 → s.only (s.doorbell n v) [.host] (regsOf ["RING_DB"])) ∧
    s.only (s.doorbell n v) [.host, .dram] (regsOf ["RING_DB", "RING_DEV_INDEX", "DRAM_STATUS", "DRAM_ERR_LOC", "DRAM_CORR_CNT",
      "DRAM_UNCORR_CNT", "DRAM_ROW_GUARD_CNT"]) := by
  have heq : s.doorbell n v = if n = 62 then flushSweep s.host.sweep.length (s.set (Reg.RING_DB_DOORBELL n) v)
      else (s.set (Reg.RING_DB_DOORBELL n) v).fetchNext n := by
    unfold State.doorbell
    refine if_pos ?_
    rw [hon, Bool.true_and]
    exact decide_eq_true hgap
  have hset := only_doorbellSet s n v
  have hget : (s.set (Reg.RING_DB_DOORBELL n) v).get (Reg.RING_DB_DOORBELL n) = v :=
    (get_set_self s _ v).trans (Nat.mod_eq_of_lt hv)
  rw [heq]
  generalize s.set (Reg.RING_DB_DOORBELL n) v = u at *
  by_cases hn : n = 62
  · rw [if_pos hn]
    have hflush := frame_flushSweep s.host.sweep.length u
    generalize flushSweep s.host.sweep.length u = t at *
    exact ⟨(get_doorbell_of_only hflush (by simp) n).trans hget, fun h => absurd hn h,
      keep_of hflush (only_widen hset (by simp) (by simp)) (by simp) (by simp)⟩
  · rw [if_neg hn]
    have hfetch := frame_fetchNext u n
    generalize u.fetchNext n = t at *
    have hframe : s.only t [.host] (regsOf ["RING_DB"]) := keep_of hfetch (only_widen hset (by simp) (by simp)) (by simp) (by simp)
    exact ⟨(get_doorbell_of_only hfetch (by simp) n).trans hget, fun _ => hframe, only_widen hframe (by simp) (by simp)⟩

/-- Another is counted and its ring shown. -/
theorem doorbell_refused (hn : n < 64) (h : s.ringOn n = false ∨ s.ringSize n < s.doorbellGap n v) :
    s.counted (s.doorbell n v) Reg.RING_BAD_DB_CNT_COUNT ∧ (s.doorbell n v).get Reg.RING_BAD_DB_LOC_RING = n ∧
    (s.doorbell n v).bit Reg.RING_STATUS_BAD_DB = true ∧
    s.only (s.doorbell n v) [] (regsOf ["RING_STATUS", "RING_BAD_DB_LOC", "RING_BAD_DB_CNT"]) := by
  have heq : s.doorbell n v = ((s.satAdd Reg.RING_BAD_DB_CNT_COUNT 1).set Reg.RING_BAD_DB_LOC_RING n).on Reg.RING_STATUS_BAD_DB := by
    unfold State.doorbell
    refine if_neg fun hc => ?_
    simp only [Bool.and_eq_true, decide_eq_true_eq] at hc
    exact h.elim (fun e => by simp [e] at hc) (fun e => absurd hc.2 (Nat.not_le.2 e))
  rw [heq]
  refine ⟨?_, ?_, bit_of_get_one (get_on_self _ _ (by decide)), ?_⟩
  · rw [State.counted, get_on_ne _ (by decide), get_set_ne _ _ (by decide), get_satAdd_self]
  · rw [get_on_ne _ (by decide), get_set_self]
    exact Nat.mod_eq_of_lt hn
  · exact keep_on _ (keep_set _ _ (keep_satAdd _ _ (keep_refl ..) (reg_RING_BAD_DB_CNT_COUNT (by simp))) (reg_RING_BAD_DB_LOC_RING (by simp)))
      (reg_RING_STATUS_BAD_DB (by simp))

end Doorbell

/-! ### Replies -/

section Reply

variable {s : State} {n : Nat}

/-- Nothing wanted, nothing asked: the link's other records stand. -/
theorem askReads_none (h : s.host.wanted = []) : s.askReads [] = s.modHost fun h => { h with wanted := [] } := by
  unfold State.askReads
  rw [h]
  rfl

theorem reads_returnSlots (s : State) (k : Nat) : (s.returnSlots k).host.reads = s.host.reads := by
  unfold State.returnSlots
  split
  · rfl
  · obtain ⟨a, b, c, d, h⟩ := host_send s (.credit k)
    rw [h]
    rfl

theorem deskKept_returnSlots (n : Nat) (s : State) (k : Nat) : DeskKept n s (s.returnSlots k) := by
  unfold State.returnSlots
  split
  · exact .refl n s
  · exact deskKept_send n s _

/-- While a ring is halted the status says so (R451). -/
theorem status_setHalted (s : State) (hn : n < 64) : (s.setHalted n true).bit Reg.RING_STATUS_HALTED = true := by
  have hh := halted_setHalted (s := s) hn (.inl rfl)
  have hnot {w i : Nat} (h : bitOf w i = true) : w ≠ 0 := fun e => by simp [e, bitOf] at h
  unfold State.setHalted at hh ⊢
  generalize (if n < 32 then s.putBit Reg.RING_HALTED_LO_HALTED n true else s.putBit Reg.RING_HALTED_HI_HALTED (n - 32) true) = u at *
  dsimp only at hh ⊢
  rw [State.halted, get_setB_ne _ _ (by decide), get_setB_ne _ _ (by decide)] at hh
  have hany : (u.get Reg.RING_HALTED_LO_HALTED != 0 || u.get Reg.RING_HALTED_HI_HALTED != 0) = true := by
    rw [Bool.or_eq_true, bne_iff_ne, bne_iff_ne]
    split at hh
    · exact .inl (hnot hh)
    · exact .inr (hnot hh)
  rw [hany]
  exact bit_of_get_one (get_setB_self _ _ _ (by decide))

/-- A REPLY to the read of a ring's descriptor gives it, or halts the ring (R420, R451). -/
theorem hostReply_descriptor {tag status len : Nat} {data : List Byte} {r : ReadRun} (hread : mapFind s.host.reads tag = some r)
    (hwanted : s.host.wanted = []) (huser : r.user = .descriptor n) (hn : n < 64) :
    mapFind (s.hostReply tag status len data).host.reads tag = none ∧
    (status = 0 → len = r.len → ((s.hostReply tag status len data).ring n).fetched = some (data.take len) ∧
      (s.hostReply tag status len data).halted n = s.halted n) ∧
    (status ≠ 0 ∨ len ≠ r.len → (s.hostReply tag status len data).halted n = true ∧
      ((s.hostReply tag status len data).ring n).fetched = (s.ring n).fetched ∧
      (s.hostReply tag status len data).bit Reg.RING_STATUS_HALTED = true) := by
  by_cases hgood : status = 0 ∧ len = r.len
  · have heq : s.hostReply tag status len data = ((s.modHost fun h => { h with reads := mapDel h.reads tag }).modRing n fun r =>
        { r with fetched := some (data.take len) }).modHost fun h => { h with wanted := [] } := by
      unfold State.hostReply
      rw [hread]
      dsimp only
      rw [if_pos (by simpa using hgood), huser]
      exact askReads_none hwanted
    rw [heq]
    refine ⟨mapFind_del_self .., fun _ _ => ⟨?_, rfl⟩, fun h => absurd hgood (by omega)⟩
    exact congrArg RingDyn.fetched (ring_modRing_self (s.modHost fun h => { h with reads := mapDel h.reads tag }) n
      fun r => { r with fetched := some (data.take len) })
  · have heq : s.hostReply tag status len data = ((s.modHost fun h => { h with reads := mapDel h.reads tag }).setHalted n true).modHost
        fun h => { h with wanted := [] } := by
      unfold State.hostReply
      rw [hread]
      dsimp only
      rw [if_neg (by simpa using hgood), huser]
      refine askReads_none ?_
      have hhost := (frame_setHalted (s.modHost fun h => { h with reads := mapDel h.reads tag }) n true).1 .host (by simp)
      simp only [Part.same] at hhost
      exact (congrArg HostSt.wanted hhost).trans hwanted
    have hdel : mapFind (s.modHost fun h => { h with reads := mapDel h.reads tag }).host.reads tag = none := mapFind_del_self ..
    have hring : (s.modHost fun h => { h with reads := mapDel h.reads tag }).ring n = s.ring n := rfl
    rw [heq]
    generalize (s.modHost fun h => { h with reads := mapDel h.reads tag }) = u at *
    have hhost := (frame_setHalted u n true).1 .host (by simp)
    simp only [Part.same] at hhost
    have hhalted := halted_setHalted (s := u) hn (.inl rfl)
    have hbit := status_setHalted u hn
    generalize u.setHalted n true = w at *
    refine ⟨?_, fun h1 h2 => absurd ⟨h1, h2⟩ hgood, fun _ => ⟨hhalted, ?_, hbit⟩⟩
    · show mapFind w.host.reads tag = none
      rw [hhost]
      exact hdel
    · show (w.ring n).fetched = _
      rw [← hring, State.ring, State.ring, hhost]

end Reply

/-! ### Reads without a REPLY -/

section Timeout

variable {s : State} {tag : Nat} {r : ReadRun} (hrun : s.running = true) (htag : tag < 1024) (hread : mapFind s.host.reads tag = some r)

include hrun htag in
theorem exec_memRdTimeout : exec (.memRdTimeout tag) s = .next (s.readTimeout tag).settle := by
  show onObject 1024 tag (whenUp s fun s => s.readTimeout tag) = _
  rw [onObject_ok htag, whenUp_running hrun]

include hread in
/-- A read that has had no REPLY for MEM_TO_US fails (R420). -/
theorem readTimeout_due (hdue : r.since + s.memTimeout ≤ s.cycle) : s.counted (s.readTimeout tag) Reg.HLINK_MEM_TIMEOUT_CNT_COUNT ∧
    (s.readTimeout tag).bit Reg.HLINK_STATUS_MEM_TIMEOUT = true ∧
    (∀ n, r.user = .descriptor n → n < 64 → (s.readTimeout tag).halted n = true) := by
  have heq : s.readTimeout tag = ((((s.modHost fun h => { h with reads := mapDel h.reads tag, failed := mapPut h.failed tag s.cycle }).satAdd
      Reg.HLINK_MEM_TIMEOUT_CNT_COUNT 1).on Reg.HLINK_STATUS_MEM_TIMEOUT).readFailed r.user).askReads [] := by
    unfold State.readTimeout
    rw [hread]
    exact if_neg (Nat.not_lt.2 hdue)
  have hcount : s.counted (((s.modHost fun h => { h with reads := mapDel h.reads tag, failed := mapPut h.failed tag s.cycle }).satAdd
      Reg.HLINK_MEM_TIMEOUT_CNT_COUNT 1).on Reg.HLINK_STATUS_MEM_TIMEOUT) Reg.HLINK_MEM_TIMEOUT_CNT_COUNT := by
    rw [State.counted, get_on_ne _ (by decide), get_satAdd_self, get_modHost]
  have hbit : (((s.modHost fun h => { h with reads := mapDel h.reads tag, failed := mapPut h.failed tag s.cycle }).satAdd
      Reg.HLINK_MEM_TIMEOUT_CNT_COUNT 1).on Reg.HLINK_STATUS_MEM_TIMEOUT).get Reg.HLINK_STATUS_MEM_TIMEOUT = 1 := get_on_self _ _ (by decide)
  rw [heq]
  generalize (((s.modHost fun h => { h with reads := mapDel h.reads tag, failed := mapPut h.failed tag s.cycle }).satAdd
      Reg.HLINK_MEM_TIMEOUT_CNT_COUNT 1).on Reg.HLINK_STATUS_MEM_TIMEOUT) = u at *
  have hfail := frame_readFailed u r.user
  have hhalt (n : Nat) (h : r.user = .descriptor n) (hn : n < 64) := halted_readFailed (s := u) r.user hn (.inl h)
  generalize u.readFailed r.user = w at *
  have hask := frame_askReads w []
  generalize w.askReads [] = x at *
  have hframe : u.only x [.events, .host] (regsOf ["RING_STATUS", "RING_HALTED_LO", "RING_HALTED_HI", "RING_CFG", "RING_DEV_INDEX"]) :=
    keep_of hask hfail (by simp) (by simp)
  refine ⟨?_, bit_of_get_one ?_, fun n h hn => (halted_of_only hask (by simp) (by simp) n).trans (hhalt n h hn)⟩
  · rw [State.counted, kept_of_only hframe 18 0 0 (List.mem_of_getElem? (i := 5) rfl) (a := .rc) (by simp) (by simp)]
    exact hcount
  · rw [kept_of_only hframe 18 0 0 (List.mem_of_getElem? (i := 1) rfl) (f := Reg.HLINK_STATUS_MEM_TIMEOUT) (a := .w1c) (by simp) (by simp)]
    exact hbit

include hrun htag hread in
theorem memRdTimeout_role :
    (r.since + s.memTimeout ≤ s.cycle → ∃ t, exec (.memRdTimeout tag) s = .next t ∧ s.counted t Reg.HLINK_MEM_TIMEOUT_CNT_COUNT ∧
      t.bit Reg.HLINK_STATUS_MEM_TIMEOUT = true ∧ (∀ n, r.user = .descriptor n → n < 64 → t.halted n = true) ∧
      s.only t [.events, .host] (regsOf ["HLINK_STATUS", "HLINK_MEM_TIMEOUT_CNT", "RING_STATUS", "RING_HALTED_LO", "RING_HALTED_HI",
        "RING_CFG", "RING_DEV_INDEX"])) ∧
    (s.cycle < r.since + s.memTimeout → ∃ t, exec (.memRdTimeout tag) s = .next t ∧ s.only t [] (keysOf [])) := by
  have hexec := exec_memRdTimeout hrun htag
  refine ⟨fun hdue => ?_, fun hearly => ?_⟩
  · obtain ⟨h1, h2, h3⟩ := readTimeout_due hread hdue
    have hframe := frame_readTimeout s tag
    generalize s.readTimeout tag = t at *
    exact ⟨_, hexec, h1, h2, h3, only_settled hframe⟩
  · have heq : s.readTimeout tag = s := by
      unfold State.readTimeout
      rw [hread]
      exact if_pos hearly
    rw [heq] at hexec
    exact ⟨_, hexec, only_settled (only_id s _ _)⟩

end Timeout

end Sys2Proof.Machine
end

section
/-! What a doorbell, a REPLY and a CREDIT of the host do as messages, and the obligation (R407 to R413, R418, R420, R422, R432). -/

-- One proof at a time: side by side they take more threads than the memory bound of the check leaves room for.
set_option Elab.async false

namespace Sys2Proof.Machine

/-- A message's slots are the host's to use, and its ring is one of the 64, or the message is in error (R410, R411). -/
theorem msgFault_zero {s : State} {m : HostIn} (h : s.msgFault m = 0) : m.slots ≤ s.host.rxCredit ∧
    (m.type = 3 → leAt m.bytes 8 1 < 64) ∧ (m.type = 6 → mapFind s.host.reads m.tag = none → s.tagHeld m.tag = true) := by
  have hskip {p : Prop} [Decidable p] {k n : Nat} (hk : k ≠ 0) (e : (if p then k else n) = 0) : ¬ p ∧ n = 0 := by
    by_cases hp : p
    · exact absurd ((if_pos hp).symm.trans e) hk
    · exact ⟨hp, (if_neg hp).symm.trans e⟩
  unfold State.msgFault at h
  obtain ⟨-, h⟩ := hskip (by decide) h
  obtain ⟨-, h⟩ := hskip (by decide) h
  obtain ⟨-, h⟩ := hskip (by decide) h
  obtain ⟨hslots, h⟩ := hskip (by decide) h
  obtain ⟨hring, h⟩ := hskip (by decide) h
  obtain ⟨hread, -⟩ := hskip (by decide) h
  exact ⟨Nat.not_lt.1 hslots, fun ht => by simpa [ht, Nat.lt_succ_iff] using hring, fun ht hr => by simpa [ht, hr] using hread⟩

/-! ### What the slots of a message keep -/

section Slots

variable {s t : State} {P : List Part} {L : List String}

theorem only_slotsTaken (s : State) (m : HostIn) : s.only (s.slotsTaken m) [.host] (regsOf []) :=
  only_mono (only_modHost s _) (by simp) (keysOf_nil _)

/-- What is said of the registers that a message in order leaves is said before its slots go back. -/
theorem only_answered_message (m : HostIn) (k : Nat) (h : (s.slotsTaken m).only t P (regsOf L)) (hp : Part.host ∈ P) :
    s.only (t.returnSlots k).settle P (regsOf L) :=
  only_settled (keep_of (frame_returnSlots t k) (only_then (only_widen (only_slotsTaken s m) (by simpa using hp) (by simp)) h)
    (by simpa using hp) (by simp))

end Slots

/-- The host's record once a CREDIT message was applied while nothing waited and nothing was wanted (R410). -/
def HostSt.credited (x : Nat) (h : HostSt) : HostSt :=
  { h with rxCredit := h.rxCredit - 1, credit := h.credit + x, waiting := [], wanted := [] }

/-- Nothing waits, nothing is sent. -/
theorem pump_none {s : State} (hact : s.linkActive = true) (h : s.host.waiting = []) : s.pump = s.modHost fun h => { h with waiting := [] } := by
  unfold State.pump
  rw [if_pos hact]
  show ({ s with host := pumpMsgs s.host.waiting s.host } : State) = _
  rw [h]
  rfl

section Message

variable {s : State} {m : HostIn} (hrun : s.running = true) (hslot : m.slot < 15) (hact : s.linkActive = true)
  (hbad : s.host.badFlit ≠ some m.flit) (hfault : s.msgFault m = 0)
include hrun hslot hact hbad hfault

/-- DB_WR (R418, R432). -/
theorem dbWr_role {n v d : Nat} (ht : m.type = 3) (hn : n = leAt m.bytes 8 1) (hv : v = leAt m.bytes 12 4)
    (hd : d = (if hostProduced n then v + 2 ^ 32 - s.devIndex n else s.devIndex n + 2 ^ 32 - v) % 2 ^ 32) :
    ∃ t, exec (.dbWr m) s = .next t ∧
      (s.ringOn n = true → d ≤ s.ringSize n → t.get (Reg.RING_DB_DOORBELL n) = v ∧
        (n ≠ 62 → s.only t [.host] (regsOf ["RING_DB"])) ∧
        s.only t [.host, .dram] (regsOf ["RING_DB", "RING_DEV_INDEX", "DRAM_STATUS", "DRAM_ERR_LOC", "DRAM_CORR_CNT",
          "DRAM_UNCORR_CNT", "DRAM_ROW_GUARD_CNT"])) ∧
      (s.ringOn n = false ∨ s.ringSize n < d → s.counted t Reg.RING_BAD_DB_CNT_COUNT ∧ t.get Reg.RING_BAD_DB_LOC_RING = n ∧
        t.bit Reg.RING_STATUS_BAD_DB = true ∧ s.only t [.host] (regsOf ["RING_STATUS", "RING_BAD_DB_LOC", "RING_BAD_DB_CNT"])) := by
  have hexec : exec (.dbWr m) s = _ := exec_applied hrun hslot hact hbad hfault rfl
  have happly : (s.slotsTaken m).applyMsg m = (s.slotsTaken m).doorbell n v := by
    unfold State.applyMsg
    rw [ht, hn, hv] <;> rfl
  have hn64 : n < 64 := hn ▸ (msgFault_zero hfault).2.1 ht
  have hv32 : v < 2 ^ 32 := hv ▸ leAt_lt ..
  have hgood := doorbell_taken (s.slotsTaken m) n v hv32
  have hbad' := doorbell_refused (s.slotsTaken m) n v hn64
  have hgap : (s.slotsTaken m).doorbellGap n v = d := hd.symm
  have hon : (s.slotsTaken m).ringOn n = s.ringOn n := rfl
  have hsize : (s.slotsTaken m).ringSize n = s.ringSize n := rfl
  have hcount (x : State) : (s.slotsTaken m).counted x Reg.RING_BAD_DB_CNT_COUNT → s.counted x Reg.RING_BAD_DB_CNT_COUNT := id
  rw [happly] at hexec
  rw [hgap, hon, hsize] at hgood hbad'
  have hkeep {x : State} {P : List Part} {L : List String} (h : (s.slotsTaken m).only x P (regsOf L)) (hp : Part.host ∈ P) :=
    only_answered_message m m.slots h hp
  generalize (s.slotsTaken m).doorbell n v = x at *
  have hback := frame_returnSlots x m.slots
  refine ⟨_, hexec, fun h1 h2 => ?_, fun h => ?_⟩
  · obtain ⟨hdb, hring, hall⟩ := hgood h1 h2
    exact ⟨(get_settle ..).trans ((get_doorbell_of_only hback (by simp) n).trans hdb), fun h => hkeep (hring h) (by simp), hkeep hall (by simp)⟩
  · obtain ⟨hc, hloc, hbit, hframe⟩ := hbad' h
    refine ⟨?_, ?_, ?_, hkeep (only_widen hframe (by simp) (by simp)) (by simp)⟩
    · exact (kept_of_only hback 19 0 0 (List.mem_of_getElem? (i := 8) rfl) (a := .rc) (by simp) (by simp)).trans (hcount x hc)
    · exact (kept_of_only hback 19 0 0 (List.mem_of_getElem? (i := 4) rfl) (a := .ro) (by simp) (by simp)).trans hloc
    · exact (congrArg (· != 0) (kept_of_only hback 19 0 0 (List.mem_of_getElem? (i := 0) rfl) (f := Reg.RING_STATUS_BAD_DB) (a := .w1c)
        (by simp) (by simp))).trans hbit

/-- A REPLY to a read of the device (R420). -/
theorem reply_known {r : ReadRun} {n : Nat} (ht : m.type = 6) (hread : mapFind s.host.reads m.tag = some r) (hwanted : s.host.wanted = [])
    (huser : r.user = .descriptor n) (hn : n < 64) : ∃ t, exec (.reply m) s = .next t ∧ mapFind t.host.reads m.tag = none ∧
      (m.status = 0 → m.len = r.len → (t.ring n).fetched = some (m.data.take m.len) ∧ t.halted n = s.halted n) ∧
      (m.status ≠ 0 ∨ m.len ≠ r.len → t.halted n = true ∧ (t.ring n).fetched = (s.ring n).fetched ∧
        t.bit Reg.RING_STATUS_HALTED = true) := by
  have hexec : exec (.reply m) s = _ := exec_applied hrun hslot hact hbad hfault rfl
  have happly : (s.slotsTaken m).applyMsg m = (s.slotsTaken m).hostReply m.tag m.status m.len (m.data.take m.len) := by
    unfold State.applyMsg
    rw [ht] <;> rfl
  obtain ⟨hgone, hgood, hfail⟩ := hostReply_descriptor (s := s.slotsTaken m) (tag := m.tag) (status := m.status) (len := m.len)
    (data := m.data.take m.len) hread hwanted huser hn
  have hring : (s.slotsTaken m).ring n = s.ring n := rfl
  have hhalted : (s.slotsTaken m).halted n = s.halted n := rfl
  rw [happly] at hexec
  rw [List.take_take, Nat.min_self, hhalted] at hgood
  rw [hring] at hfail
  generalize (s.slotsTaken m).hostReply m.tag m.status m.len (m.data.take m.len) = x at *
  have hback := frame_returnSlots x m.slots
  have hreads := reads_returnSlots x m.slots
  have hdesk := (deskKept_returnSlots n x m.slots).ring
  have hh := halted_of_only hback (by simp) (by simp) n
  have hbit := kept_of_only hback 19 0 0 (List.mem_of_getElem? (i := 0) rfl) (f := Reg.RING_STATUS_HALTED) (a := .ro) (by simp) (by simp)
  generalize x.returnSlots m.slots = y at *
  have hsettle : y.settle.ring n = y.ring n ∧ y.settle.halted n = y.halted n ∧ y.settle.host = y.host := ⟨rfl, rfl, rfl⟩
  obtain ⟨e1, e2, e3⟩ := hsettle
  refine ⟨_, hexec, ?_, fun h1 h2 => ?_, fun h => ?_⟩
  · rw [e3, hreads]
    exact hgone
  · obtain ⟨hf, hs⟩ := hgood h1 h2
    exact ⟨by rw [e1, hdesk, hf], by rw [e2, hh, hs]⟩
  · obtain ⟨hs, hf, hb⟩ := hfail h
    exact ⟨by rw [e2, hh, hs], by rw [e1, hdesk, hf], (congrArg (· != 0) ((get_settle ..).trans hbit)).trans hb⟩

/-- A REPLY to a read that has failed (R420). -/
theorem reply_late (ht : m.type = 6) (hread : mapFind s.host.reads m.tag = none) : ∃ t, exec (.reply m) s = .next t ∧
    s.counted t Reg.HLINK_LATE_REPLY_CNT_COUNT ∧ s.only t [.host] (keysOf [Reg.HLINK_LATE_REPLY_CNT_COUNT]) := by
  have hexec : exec (.reply m) s = _ := exec_applied hrun hslot hact hbad hfault rfl
  have hheld : (s.slotsTaken m).tagHeld m.tag = true := (msgFault_zero hfault).2.2 ht hread
  have happly : (s.slotsTaken m).applyMsg m = (s.slotsTaken m).satAdd Reg.HLINK_LATE_REPLY_CNT_COUNT 1 := by
    unfold State.applyMsg
    rw [ht]
    show (s.slotsTaken m).hostReply m.tag m.status m.len (m.data.take m.len) = _
    have hnone : mapFind (s.slotsTaken m).host.reads m.tag = none := hread
    unfold State.hostReply
    rw [hnone]
    exact if_pos hheld
  rw [happly] at hexec
  have hcount : s.counted ((s.slotsTaken m).satAdd Reg.HLINK_LATE_REPLY_CNT_COUNT 1) Reg.HLINK_LATE_REPLY_CNT_COUNT := get_satAdd_self ..
  have hframe : s.only ((s.slotsTaken m).satAdd Reg.HLINK_LATE_REPLY_CNT_COUNT 1) [.host] (keysOf [Reg.HLINK_LATE_REPLY_CNT_COUNT]) :=
    keep_satAdd _ _ (only_mono (only_modHost s _) (by simp) (keysOf_nil _)) (by simp [keysOf])
  generalize (s.slotsTaken m).satAdd Reg.HLINK_LATE_REPLY_CNT_COUNT 1 = x at *
  have hback := frame_returnSlots x m.slots
  generalize x.returnSlots m.slots = y at *
  refine ⟨_, hexec, ?_, only_settled (only_then hframe (only_mono (only_noRegs hback) (by simp) (keysOf_nil _)))⟩
  exact (kept_of_only hback 18 0 0 (List.mem_of_getElem? (i := 6) rfl) (a := .rc) (by simp) (by simp)).trans hcount

/-- CREDIT (R410). -/
theorem credit_role (ht : m.type = 7) (hwaiting : s.host.waiting = []) (hwanted : s.host.wanted = [])
    (hcredit : 1 ≤ s.host.credit + leAt m.bytes 8 4) : ∃ t, exec (.credit m) s = .next t ∧
      t.host.credit + 1 = s.host.credit + leAt m.bytes 8 4 ∧ t.host.rxCredit = s.host.rxCredit ∧
      t.host.sent = s.host.sent ++ [.credit 1] ∧ s.only t [.host] (keysOf []) := by
  have hexec : exec (.credit m) s = _ := exec_applied hrun hslot hact hbad hfault rfl
  have hslots : m.slots = 1 := by
    unfold HostIn.slots HostIn.dataLen
    rw [ht, if_neg (by decide)]
    show 1 + ceilDiv 0 16 = 1
    rfl
  have hrx : 1 ≤ s.host.rxCredit := hslots ▸ (msgFault_zero hfault).1
  have happly : (s.slotsTaken m).applyMsg m = s.modHost (HostSt.credited (leAt m.bytes 8 4)) := by
    have hact' : ((s.slotsTaken m).modHost fun h => { h with credit := h.credit + leAt m.bytes 8 4 }).linkActive = true := hact
    unfold State.applyMsg
    rw [ht]
    show ((s.slotsTaken m).modHost fun h => { h with credit := h.credit + leAt m.bytes 8 4 }).resume = _
    unfold State.resume
    rw [pump_none hact' hwaiting, askReads_none (by exact hwanted), State.slotsTaken, hslots]
    rfl
  have hreturn : ((s.slotsTaken m).applyMsg m).returnSlots m.slots =
      s.modHost fun h => { HostSt.credited (leAt m.bytes 8 4) h with
        credit := h.credit + leAt m.bytes 8 4 - 1, rxCredit := h.rxCredit - 1 + 1, sent := h.sent ++ [.credit 1] } := by
    have hon : (s.modHost (HostSt.credited (leAt m.bytes 8 4))).linkActive = true := hact
    have hon' : ((s.modHost (HostSt.credited (leAt m.bytes 8 4))).modHost fun h =>
        { h with waiting := h.waiting ++ [.credit 1] }).linkActive = true := hact
    have hsent := pumpMsgs_one (m := .credit 1) (h := { HostSt.credited (leAt m.bytes 8 4) s.host with waiting := [.credit 1] }) hcredit
    rw [happly, hslots]
    unfold State.returnSlots
    rw [if_neg (by simp [hon])]
    unfold State.send State.pump
    rw [if_pos hon']
    exact congrArg (fun h => ({ s with host := h } : State)) hsent
  rw [hreturn] at hexec
  have hframe := only_settled (only_modHost s fun h => { HostSt.credited (leAt m.bytes 8 4) h with
    credit := h.credit + leAt m.bytes 8 4 - 1, rxCredit := h.rxCredit - 1 + 1, sent := h.sent ++ [.credit 1] })
  exact ⟨_, hexec, Nat.sub_add_cancel hcredit, Nat.sub_add_cancel hrx, rfl, hframe⟩

end Message

/-! ### The obligation -/

/-- Settles O47: a message in order is applied by its type between the taking and the return of its slots, one in error is recorded and
ends its flit, and a read without a REPLY fails at MEM_TO_US. -/
theorem messagesOfTheHostAreAppliedOrDiscarded : Obligations.MessagesOfTheHostAreAppliedOrDiscarded := by
  unfold Obligations.MessagesOfTheHostAreAppliedOrDiscarded
  intro s m hrun hslot hact
  refine ⟨fun hbad hfault => ⟨fun u hu => ⟨fun ht => (cfgRd_role hrun hslot hact hbad hfault hu ht).1,
      fun i r ht => (cfgRd_role hrun hslot hact hbad hfault hu ht).2 i r, cfgWr_role hrun hslot hact hbad hfault hu⟩,
    fun n v d => dbWr_role hrun hslot hact hbad hfault, fun r n => reply_known hrun hslot hact hbad hfault,
    reply_late hrun hslot hact hbad hfault, credit_role hrun hslot hact hbad hfault⟩,
    fun i hi => ?_, fun tag r htag hread => memRdTimeout_role hrun htag hread⟩
  have hexec : exec i s = onObject 15 m.slot (whenUp s fun s => s.receive m) := by
    simp only [List.mem_cons, List.not_mem_nil, or_false] at hi
    rcases hi with rfl | rfl | rfl | rfl | rfl | rfl <;> rfl
  exact message_discarded hrun hslot hact hexec

end Sys2Proof.Machine
end
